-- ==== Sys2Proof/Word.lean ====
section
/-! DEFINITION. Word types and the plainest arithmetic on fixed-point numbers: rounding and saturation as R11 to R13 (00_scope.md) give them. -/

namespace Sys2Proof

/-- A byte of shared memory or of an image. -/
abbrev Byte := BitVec 8

/-- The 512 bits of a descriptor, byte `n` in bits `[8n+7:8n]` (R463, R10). -/
abbrev Desc := BitVec 512

/-- The 256 data bits of a word (00_scope.md). -/
abbrev Word := BitVec 256

/-- The 280 bits of a word-code code word (R27). -/
abbrev CodeWord := BitVec 280

/-- The signed number held in the low `w` bits of `n` (R11). -/
def signedOf (w n : Nat) : Int :=
  let m := n % 2 ^ w
  if m < 2 ^ (w - 1) then (m : Int) else (m : Int) - (2 ^ w : Nat)

/-- The low `w` bits of a signed number (R11). -/
def bitsOf (w : Nat) (x : Int) : Nat := (x % ((2 ^ w : Nat) : Int)).toNat

/-- `num / den` to the nearest whole number, ties away from zero (R12); `den` positive. -/
def roundDiv (num den : Int) : Int :=
  if 0 ≤ num then (2 * num + den) / (2 * den) else -((2 * (-num) + den) / (2 * den))

/-- `x / 2 ^ n` to the nearest whole number, ties away from zero (R12). -/
def roundShift (x : Int) (n : Nat) : Int := roundDiv x ((2 ^ n : Nat) : Int)

/-- The nearest number of the `w`-bit signed format (R13). -/
def saturate (w : Nat) (x : Int) : Int :=
  let hi : Int := ((2 ^ (w - 1) : Nat) : Int) - 1
  let lo : Int := -((2 ^ (w - 1) : Nat) : Int)
  if x < lo then lo else if hi < x then hi else x

/-- `x` kept between `lo` and `hi`. -/
def clampInt (lo hi x : Int) : Int := if x < lo then lo else if hi < x then hi else x

/-- A count that holds at `top`. -/
def countUp (top n : Nat) : Nat := if n < top then n + 1 else top

/-- A count that wraps at `2 ^ w`. -/
def countWrap (w n : Nat) : Nat := (n + 1) % 2 ^ w

/-- Byte `n` of a descriptor. -/
def Desc.byte (d : Desc) (n : Nat) : Nat := d.toNat / 2 ^ (8 * n) % 256

/-- The little-endian 16-bit field at byte `n` of a descriptor (R10). -/
def Desc.u16 (d : Desc) (n : Nat) : Nat := d.toNat / 2 ^ (8 * n) % 2 ^ 16

/-- The little-endian 32-bit field at byte `n` of a descriptor (R10). -/
def Desc.u32 (d : Desc) (n : Nat) : Nat := d.toNat / 2 ^ (8 * n) % 2 ^ 32

/-- The little-endian 64-bit field at byte `n` of a descriptor (R10). -/
def Desc.u64 (d : Desc) (n : Nat) : Nat := d.toNat / 2 ^ (8 * n) % 2 ^ 64

/-- The signed 32-bit field at byte `n` of a descriptor. -/
def Desc.s32 (d : Desc) (n : Nat) : Int := signedOf 32 (d.u32 n)

/-- `n` bytes, least significant first (R10). -/
def leBytes : Nat → Nat → List Nat
  | 0, _ => []
  | k + 1, v => (v % 256) :: leBytes k (v / 256)

/-- The number whose bytes, least significant first, are those of the list (R10). -/
def ofLeBytes : List Nat → Nat
  | [] => 0
  | b :: bs => b % 256 + 256 * ofLeBytes bs

/-- The little-endian field of `k` bytes at place `n` of a byte list; a byte past the end reads 0. -/
def leAt (bs : List Nat) (n k : Nat) : Nat := ofLeBytes ((List.range k).map fun j => bs.getD (n + j) 0)

/-- One bit of a number. -/
def bitAt (v n : Nat) : Bool := v.testBit n

/-- Bits `[lo + w - 1 : lo]` of a number. -/
def bitsAt (v lo w : Nat) : Nat := v / 2 ^ lo % 2 ^ w

end Sys2Proof
end

