-- ==== Sys2Proof/Syntax.lean ====
section
/-! DEFINITION. The commands of the block: one constructor for each row of spec/opcode_table.json, with the operands the row brings from outside. -/

namespace Sys2Proof

/-- What a digital input samples, as R155 and R158 classify it (R155, R158, 04_field_io_barrier.md). -/
inductive DiLevel where
  | off | on | broken | short
  deriving DecidableEq, Repr

/-- What a field die senses at a tick boundary: the readback levels of its local DOs as a mask, load currents in mA by local DO, output voltages in mV by local AO, VF24 in mV, local SOL channels whose clamp is at 120 °C or above, and local banks whose switch is at 140 °C or above (R144, R145, R361); the readings of
the self-test points of converters that have just converted them, in Q16.16 V (R130). -/
structure FieldSense where
  readback : Nat
  doCur : List (Nat × Nat)
  aoMv : List (Nat × Nat)
  vf24 : Nat
  hotClamps : List Nat
  hotBanks : List Nat
  selfTests : List (Nat × List Int)
  deriving DecidableEq, Repr

/-- The resets of the host interface of R456 other than PCIE_PERST_N. -/
inductive PcieResetKind where
  | linkDown | hotReset | functionLevelReset
  deriving DecidableEq, Repr

/-- What the boot ROM finds in one firmware slot (R645, R650): whether its image passes checks 1 to 6, its security version, the SHA-512 of its payload. -/
structure SlotCheck where
  valid : Bool
  svn : Nat
  digest : List Nat
  deriving DecidableEq, Repr

/-- What a port's decoder sees of A and B (R185, R186): a transition with A leading, one with B leading, or both changing in one sample. -/
inductive QuadStep where
  | aLeads | bLeads | both
  deriving DecidableEq, Repr

/-- What stands at the core die's supplies (R518): VIO and VCORE_SENSE in mV, and the power-good inputs of rails 1 to 3 as a mask. -/
structure CoreSupplies where
  vio : Nat
  vcore : Nat
  powerGood : Nat
  deriving DecidableEq, Repr

/-- One sample of a digital input (R155, R158): the voltage across it in mV and the current through it in µA. -/
structure DiSample where
  mv : Int
  ua : Nat
  deriving DecidableEq, Repr

/-- A decoded change of A and B, the new level of which has held for `held` samples (R185). -/
structure QuadEdge where
  held : Nat
  step : QuadStep
  deriving DecidableEq, Repr

/-- A transition of A or B while Z is high, Z having held its level for `held` samples (R185, R201). -/
structure IndexEdge where
  port : Nat
  held : Nat
  deriving DecidableEq, Repr

/-- A step of an emulation output, at sample `sample` of the tick (R202). -/
structure EmuStep where
  emu : Nat
  sample : Nat
  deriving DecidableEq, Repr

/-- A capture's trigger at CLK_FLD cycle `cycle` of the tick, with the calibrated codes that each converter of the group takes (R127). -/
structure CaptureBurst where
  cycle : Nat
  codes : List (List Int)
  deriving DecidableEq, Repr

/-- The start of a chop period of a bank, at CLK_FLD cycle `cycle` of the tick (R338). -/
structure ChopStart where
  bank : Nat
  cycle : Nat
  deriving DecidableEq, Repr

/-- A stitch as it comes with wrong bits `wrong` that cannot be corrected, `ns` ns after the boundary (R410). -/
structure LostStitch where
  wrong : Nat
  ns : Nat
  deriving DecidableEq, Repr

/-- What a solenoid channel measures (R348): current in mA, coil resistance in mΩ when one has been formed, VF24 in mV. -/
structure SolSense where
  current : Nat
  ohms : Option Nat
  vf24 : Nat
  deriving DecidableEq, Repr

/-- What a fitting pass measures outside the registers (R627, R629): path margins of the 64 monitors in %; copies that needed correction at
READ_REF − 8 and + 8, copies bad at either shift, copies sampled; the reference ratio averaged over 1 s in units of 2^-30; the barrier eye
margins of the dies in %; for each seam port its eye margins in % at the present code, one above, one below. -/
structure FitSense where
  paths : List Nat
  nvmLo : Nat
  nvmHi : Nat
  nvmBad : Nat
  nvmTotal : Nat
  refs : Nat
  eyes : List Nat
  seams : List (Nat × Nat × Nat × Nat)
  deriving DecidableEq, Repr

/-- How a PMBus transaction ends (R534, R537): the value read (0 for a write), no acknowledge, or a PEC that does not match. -/
inductive PmbusResult where
  | answer (v : Nat)
  | noAnswer
  | pecMismatch
  deriving DecidableEq, Repr

/-- The commands, in the order of spec/opcode_table.json. -/
inductive Instr where
  /-- R485: Descriptor that acts at its start and returns the quilt time, serving as a ring-order marker or, with FENCE, as a barrier. -/
  | nop (q : Nat) (d : Desc)
  /-- R120: Descriptor that starts self-calibration of the converters named by a mask. -/
  | measCal (q : Nat) (d : Desc)
  /-- R114: Descriptor that queues a host urgent conversion and returns the valid output in its completion. -/
  | measUrgent (q : Nat) (d : Desc)
  /-- R121: Descriptor that aborts a calibration, urgent request or capture, settled at the field die. -/
  | measAbort (q : Nat) (d : Desc)
  /-- R125: Descriptor that arms a simultaneous-group burst capture on a tick or shot trigger. -/
  | measCapture (q : Nat) (d : Desc)
  /-- R172: Descriptor that forces or releases a DO or FLOAT output at the apply tick of its frame. -/
  | dioForce (q : Nat) (d : Desc)
  /-- R172: Descriptor that resets a DO's retry count and fault state at the apply tick of its frame. -/
  | doClear (q : Nat) (d : Desc)
  /-- R173: Descriptor that runs one full dark-test pass on the named dies at once. -/
  | darkTestNow (q : Nat) (d : Desc)
  /-- R174: Descriptor that enables recovery of a field die from SAFE when AUTO_RECOVER is 0. -/
  | fieldResume (q : Nat) (d : Desc)
  /-- R207: Descriptor that presets an incremental port's count at the apply tick of its frame. -/
  | posPreset (q : Nat) (d : Desc)
  /-- R200: Descriptor that starts an index-count check on a port. -/
  | posCheck (q : Nat) (d : Desc)
  /-- R207: Descriptor that forces an encoder-emulation output to a fixed edge rate or releases it. -/
  | emuForce (q : Nat) (d : Desc)
  /-- R209: Descriptor that aborts a POS_CHECK under the arbitration rule. -/
  | posAbort (q : Nat) (d : Desc)
  /-- R257: Descriptor that checks staged model tables and loads them into the inactive model slot for commit. -/
  | patLoad (q : Nat) (d : Desc)
  /-- R258: Descriptor that queues a host prediction with optional input overrides. -/
  | patPredict (q : Nat) (d : Desc)
  /-- R259: Descriptor that aborts a PAT_LOAD or PAT_PREDICT under the arbitration rule. -/
  | patAbort (q : Nat) (d : Desc)
  /-- R256: Descriptor that resets estimates, multipliers or suspect state of the model at a step start. -/
  | patReset (q : Nat) (d : Desc)
  /-- R307: Descriptor that checks a loop configuration block and admits it to a lane from the switch tick. -/
  | loopSet (q : Nat) (d : Desc)
  /-- R309: Descriptor that removes a loop, freeing its sections, lane load and subscriptions. -/
  | loopRemove (q : Nat) (d : Desc)
  /-- R310: Descriptor that requests, overrides or releases a loop's mode. -/
  | loopMode (q : Nat) (d : Desc)
  /-- R310: Descriptor that puts a loop into HOLD cause 4 or releases it. -/
  | loopHold (q : Nat) (d : Desc)
  /-- R310: Descriptor that clears a loop's following-error latch and returns it from HOLD or SAFE to RUN. -/
  | loopClear (q : Nat) (d : Desc)
  /-- R311: Descriptor that arms a chalk channel to trace a loop into a buffer. -/
  | chalkArm (q : Nat) (d : Desc)
  /-- R311: Descriptor that triggers a chalk channel armed for trigger kind 0. -/
  | chalkTrigger (q : Nat) (d : Desc)
  /-- R311: Descriptor that disarms a chalk channel. -/
  | chalkStop (q : Nat) (d : Desc)
  /-- R308: Descriptor that aborts a LOOP_SET before its switch tick. -/
  | loopAbort (q : Nat) (d : Desc)
  /-- R331: Descriptor that checks and loads or removes a schedule program block. -/
  | schedSet (q : Nat) (d : Desc)
  /-- R331: Descriptor that checks and loads or removes a zone block. -/
  | zoneSet (q : Nat) (d : Desc)
  /-- R331: Descriptor that sets or releases a host override level on a zone. -/
  | zoneOverride (q : Nat) (d : Desc)
  /-- R91: Descriptor that sets the mapping from quilt time to UTC and the standard offset. -/
  | civilSet (q : Nat) (d : Desc)
  /-- R92: Descriptor that loads the daylight-saving table. -/
  | dstLoad (q : Nat) (d : Desc)
  /-- R365: Descriptor that checks a signed shuttle library and transfers it to a bank's inactive RAM copy. -/
  | shuttleLoad (q : Nat) (d : Desc)
  /-- R344: Descriptor that fires a one-shot on a solenoid channel. -/
  | solShot (q : Nat) (d : Desc)
  /-- R342: Descriptor that forces or releases a solenoid channel's LEVEL. -/
  | solForce (q : Nat) (d : Desc)
  /-- R368: Descriptor that returns a faulted channel to OFF or clears a bank's BANK_FAULT. -/
  | solClear (q : Nat) (d : Desc)
  /-- R370: Descriptor that aborts a SOL_SHOT or SHUTTLE_LOAD, settled at the field die. -/
  | shuttleAbort (q : Nat) (d : Desc)
  /-- R396: Descriptor that forces or releases a FAN or AO command. -/
  | fanaoForce (q : Nat) (d : Desc)
  /-- R396: Descriptor that resets a fan's retry count and returns a FAILED fan to OFF. -/
  | fanClear (q : Nat) (d : Desc)
  /-- R447: Descriptor that opens a tack flow by an admission walk. -/
  | flowOpen (q : Nat) (d : Desc)
  /-- R447: Descriptor that removes a flow's reservations by a further walk. -/
  | flowClose (q : Nat) (d : Desc)
  /-- R420: Descriptor that checks and loads the route table image. -/
  | routeLoad (q : Nat) (d : Desc)
  /-- R448: Descriptor that takes the named seam ports DOWN so that they retrain. -/
  | portRetrain (q : Nat) (d : Desc)
  /-- R439: Descriptor that runs link audits on named ports and optionally token audits. -/
  | quiltAudit (q : Nat) (d : Desc)
  /-- R445: Descriptor that sends a DOORBELL stitch with a tail to a remote-ring client. -/
  | rringDoorbell (q : Nat) (d : Desc)
  /-- R449: Descriptor that aborts a FLOW_OPEN or ROUTE_LOAD. -/
  | quiltAbort (q : Nat) (d : Desc)
  /-- R507: Descriptor that queues a frame or Modbus transaction on a bus port. -/
  | busSend (q : Nat) (d : Desc) (data : List Nat)
  /-- R503: Descriptor that posts a receive buffer on a bus port. -/
  | busRecv (q : Nat) (d : Desc)
  /-- R508: Descriptor that checks and installs or removes a Modbus poll list. -/
  | busPollSet (q : Nat) (d : Desc)
  /-- R509: Descriptor that aborts a BUS_SEND or BUS_RECV. -/
  | busAbort (q : Nat) (d : Desc)
  /-- R570: Descriptor that reads NVM bytes into shared memory. -/
  | nvmRead (q : Nat) (d : Desc) (ups : List (Nat × Nat × Nat))
  /-- R570: Descriptor that writes host data into NVM region 6 or 7. -/
  | nvmWrite (q : Nat) (d : Desc)
  /-- R551: Descriptor that opens a region for read or write when its password matches. -/
  | nvmUnlock (q : Nat) (d : Desc)
  /-- R551: Descriptor that closes regions for the named kinds of access. -/
  | nvmLock (q : Nat) (d : Desc)
  /-- R550: Descriptor that sets a region's read or write password. -/
  | nvmSetpw (q : Nat) (d : Desc)
  /-- R557: Descriptor that completes once every earlier record change has committed. -/
  | nvmSync (q : Nat) (d : Desc)
  /-- R558: Descriptor that clears an ambiguous record by writing copy B with the value in force. -/
  | recConfirm (q : Nat) (d : Desc)
  /-- R556: Descriptor that writes a host record. -/
  | recWrite (q : Nat) (d : Desc)
  /-- R555: Descriptor that resolves and reads a record's two copies. -/
  | recRead (q : Nat) (d : Desc) (ups : List (Nat × Nat × Nat))
  /-- R565: Descriptor that builds a signed retained-state export image in host memory. -/
  | nvmExport (q : Nat) (d : Desc)
  /-- R567: Descriptor that checks and writes an imported retained-state image. -/
  | nvmImport (q : Nat) (d : Desc) (data : List Nat)
  /-- R573: Descriptor that aborts an NVM_WRITE, NVM_EXPORT or NVM_IMPORT. -/
  | nvmAbort (q : Nat) (d : Desc)
  /-- R594: Descriptor that requests a panel update of a rectangle in a mode. -/
  | panelUpdate (q : Nat) (d : Desc)
  /-- R590: Descriptor that checks and loads a signed waveform library into the inactive slot. -/
  | panelWfload (q : Nat) (d : Desc)
  /-- R597: Descriptor that compares PANEL_CRC with an expected value. -/
  | panelCrcCheck (q : Nat) (d : Desc)
  /-- R606: Descriptor that aborts a PANEL_UPDATE or PANEL_WFLOAD. -/
  | panelAbort (q : Nat) (d : Desc)
  /-- R623: Descriptor that locks or unlocks the keys at the next scan boundary. -/
  | keyLock (q : Nat) (d : Desc)
  /-- R638: Descriptor that starts a fitting pass. -/
  | fitRun (q : Nat) (d : Desc)
  /-- R637: Descriptor that copies fitting-log entries into shared memory. -/
  | fitLogRead (q : Nat) (d : Desc)
  /-- R631: Descriptor that takes new baselines for named margin entries at the next pass. -/
  | fitBaseline (q : Nat) (d : Desc)
  /-- R638: Descriptor that aborts a FIT_RUN before its last log entry commits. -/
  | fitAbort (q : Nat) (d : Desc)
  /-- R647: Descriptor that checks a signed handover and installs a new owner key. -/
  | ownerHandover (q : Nat) (d : Desc)
  /-- R649: Descriptor that checks and installs a signed configuration manifest. -/
  | configManifest (q : Nat) (d : Desc)
  /-- R651: Descriptor that verifies a firmware envelope and writes it to the slot that did not boot. -/
  | fwUpdate (q : Nat) (d : Desc)
  /-- R654: Descriptor that builds a signed attestation report. -/
  | attest (q : Nat) (d : Desc)
  /-- R652: Descriptor that aborts an FW_UPDATE. -/
  | secAbort (q : Nat) (d : Desc)
  /-- R692: Descriptor that requests a freeze of this device or of the quilt. -/
  | dbgFreeze (q : Nat) (d : Desc)
  /-- R15: Host write to a BAR0 register that has no row of its own, applied by its access type and range checks. -/
  | registerWrite (off : Nat) (size : Nat) (v : Nat)
  /-- R57: Write to GLOBAL_BLSEL that sets or refuses the requested behaviour level. -/
  | blReqWrite (v : Nat)
  /-- R65: Write of 1 to GLOBAL_SEAL.SEAL that seals an owned device or is refused. -/
  | sealWrite (v : Nat)
  /-- R68: Read of GLOBAL_TICK_LO that returns the low count and captures the high half into a latch. -/
  | tickLoRead
  /-- R69: Write to GLOBAL_MEMERR_CLR that zeroes the corrected count. -/
  | clrCorrected
  /-- R69: Write to GLOBAL_MEMERR_CLR that zeroes the uncorrectable count. -/
  | clrUncorrectable
  /-- R177: Write that zeroes a field die's frame and state counters. -/
  | fieldErrClr (k : Nat)
  /-- R538: Write to PWR_CLR that resets PWR_DIP. -/
  | clrDip
  /-- R575: Write to NVM_CLR that zeroes every NVM_BANK count. -/
  | clrErr
  /-- R99: Write of UI_MODE that switches the input front end at the next tick boundary. -/
  | uiModeWrite (u : Nat) (v : Nat)
  /-- R137: Write of UI_GAIN_SH that puts the user gain coefficient into effect. -/
  | uiGainShWrite (u : Nat) (v : Nat)
  /-- R106: Write of CONV_CTRL that starts or stops a converter sequence or changes LAST, PAIR or PASS_INT. -/
  | convCtrlWrite (c : Nat) (v : Nat)
  /-- R147: Write to a FIELD, DIO, POS, SHUTTLE or FANAO configuration register queued for the field-die mailbox. -/
  | mailboxWrite (off : Nat) (v : Nat)
  /-- R262: Write of PAT_CTRL that starts or stops the pattern engine or holds adaptation. -/
  | patCtrlWrite (v : Nat)
  /-- R293: Write of LOOP_CTRL.RUN that stops or resumes loop computations. -/
  | loopCtrlWrite (v : Nat)
  /-- R491: Write changing a bus port's MODE or BAUD that discards held frames and restarts the port. -/
  | busCfgWrite (n : Nat) (v : Nat)
  /-- R411: Write of QUILT_CFG.PORT_EN that enables a port into TRAINING or disables it. -/
  | portEnWrite (v : Nat)
  /-- R452: Host write of PORT_EQ applied stepwise as a fitting change is. -/
  | portEqWrite (p : Nat) (v : Nat)
  /-- R600: Write of PANEL_CFG.EN that enables the panel or stops updates and lowers the rails. -/
  | panelEnWrite (v : Nat)
  /-- R480: Write of HOSTQ_WDOG that sets the heartbeat interval and restarts its count. -/
  | hostqWdogWrite (v : Nat)
  /-- R458: Write setting a ring's ENABLE, which resets its head, tail and phase or is rejected. -/
  | ringEnable (r : Nat)
  /-- R458: Write clearing a ring's ENABLE, which stops fetching and aborts unstarted descriptors or is rejected. -/
  | ringDisable (r : Nat)
  /-- R470: Write of SQ_CTRL.FENCE_CLR that ends a ring's fence. -/
  | fenceClr (q : Nat)
  /-- R460: Doorbell write of a submission ring's tail that announces new descriptors or faults the ring. -/
  | sqTailDoorbell (q : Nat) (v : Nat)
  /-- R460: Doorbell write of a completion ring's head that frees entries. -/
  | cqHeadDoorbell (c : Nat) (v : Nat)
  /-- R460: Doorbell write of the event ring's head that frees entries. -/
  | eqHeadDoorbell (v : Nat)
  /-- R479: Doorbell write of a trace ring's head that frees units. -/
  | tqHeadDoorbell (t : Nat) (v : Nat)
  /-- R480: Write to the heartbeat doorbell that restarts the host watchdog and ends host-lost state. -/
  | heartbeat (v : Nat)
  /-- R684: Read of DBG_RO_DATA that returns one internal value and advances INDEX. -/
  | dbgRoDataRead
  /-- R686: Write of DBG_RO_CTRL.THAW that requests thaw of a device frozen alone. -/
  | dbgThaw
  /-- R653: Write of FW_REC_CTRL with GO in firmware recovery that checks and writes a staged firmware envelope. -/
  | fwRecGo (v : Nat)
  /-- R33: Host read through BAR4 of shared memory, corrected, written back or poisoned as the word decodes. -/
  | bar4Read (off : Nat) (len : Nat) (upsets : List (Nat × Nat))
  /-- R34: Host write through BAR4 merged into shared-memory words. -/
  | bar4Write (off : Nat) (bytes : List Nat) (upsets : List (Nat × Nat))
  /-- R527: VL24 stays above 17.0 V for 2 ms at power-on and start-up runs. -/
  | vl24Good
  /-- R528: A power-good input has not risen within 10 ms of its enable, ending the start attempt. -/
  | pgTimeout (rail : Nat)
  /-- R528: The 1 s wait after a failed start attempt ends and start runs again. -/
  | startRetry
  /-- R653: Every 60 s in recovery the boot ROM verifies both slots again and boots one that passes. -/
  | fwReverify (a : SlotCheck) (b : SlotCheck)
  /-- R521: VL24 falls below the effective warning level and the device starts the save and stops its engines. -/
  | pfwNFalling (vl24 : Nat) (vhold : Nat)
  /-- R562: The save commits its header group and SAVE_DONE is set. -/
  | saveEnd
  /-- R520: VL24 rises above EFFECTIVE + 0.5 V and the 2 ms resume timer starts. -/
  | vl24AboveResume (vl24 : Nat)
  /-- R522: The resume condition holds, PFW_N rises and control resumes at the next boundary. -/
  | warningEnd (vl24 : Nat)
  /-- R523: A warning lasts DIP_SAFE × 100 ms and down frames to both dies stop. -/
  | dipSafeExpiry
  /-- R519: RST_N held low for 1 µs acts as PFW_N falling with a core reset to follow. -/
  | rstNLow
  /-- R519: At the end of the save, or 5 ms after RST_N fell, the core die is reset. -/
  | rstNResetDue
  /-- R519: RST_N rises and start runs again from step 4. -/
  | rstNRise
  /-- R518: VIO low, VCORE outside its window or a power-good input low resets the core die. -/
  | supplyReset (core : CoreSupplies) (vl24 : Nat) (vhold : Nat)
  /-- R76: CLKREF stops or leaves 25 MHz by more than 2 % and the device enters the safe state. -/
  | clkrefLost
  /-- R665: CLKREF stays within 2 % for 10 ms and start runs from step 4. -/
  | clkrefRestored
  /-- R664: 10 ms without a watchdog service is a firmware fault handled as RST_N. -/
  | firmwareWatchdog
  /-- R535: Every 1 ms at a tick boundary the device writes one VOUT_COMMAND step towards the target. -/
  | vcoreStep (res : PmbusResult)
  /-- R534: Every 10 ms the device reads READ_VOUT from the VCORE regulator. -/
  | readVoutPoll (res : PmbusResult)
  /-- R534: Every 100 ms the device reads STATUS_WORD and may raise PMBUS_FAULT. -/
  | statusWordPoll (res : PmbusResult) (mode : PmbusResult)
  /-- R78: The core-die tick boundary: the count advances, values are routed and the next down frame starts. -/
  | tickBoundary (vl24 : Nat) (vhold : Nat)
  /-- R32: Every 16 ticks the scrubber reads and corrects one shared-memory word. -/
  | scrubRead (upset : Nat)
  /-- R142: The core die receives an up frame, with wrong bits `wrong`, and takes it whole or counts it lost; or none `arrives`. -/
  | upFrame (k : Nat) (arrives : Bool) (wrong : Nat)
  /-- R152: No good up frame for HOLD_WIN ticks marks the die's inputs faulted. -/
  | barrierDown (k : Nat)
  /-- R142: A field die receives a down frame, with wrong bits `wrong`, and takes it whole or counts it lost; or none `arrives`. -/
  | downFrame (k : Nat) (arrives : Bool) (wrong : Nat)
  /-- R148: A field-die tick boundary at which a good frame is applied or the die enters HOLD. -/
  | fieldTickBoundary (k : Nat) (sense : FieldSense)
  /-- R150: HOLD_WIN boundaries pass with no good frame and the die goes to SAFE cause 1. -/
  | holdWindowExpiry (k : Nat)
  /-- R148: FIELD_FRZ_HOLD.LIMIT elapses in FREEZE_HOLD and the die goes to SAFE cause 2. -/
  | freezeHoldLimit (k : Nat)
  /-- R139: The down link shows no transition for 1 µs and the field die switches to its internal oscillator. -/
  | downLinkSilent (k : Nat)
  /-- R149: VF24 falls below 17.0 V and the die switches every output off in SAFE cause 3. -/
  | vf24Low (k : Nat) (mv : Nat)
  /-- R149: VF24 stays above 18.0 V for 10 ms and VF24_LOW clears. -/
  | vf24Recovered (k : Nat) (mv : Nat)
  /-- R156: A pulsed DI enables its sink for a 20 µs window once per period. -/
  | diPulseWindow (i : Nat) (x : DiSample)
  /-- R157: A run of differing samples reaches the debounce count and the DI state changes. -/
  | diDebounceDone (i : Nat) (x : DiSample)
  /-- R162: A DO's current stays above 0.6 A for 10 ms and it switches off with OVERLOAD. -/
  | doOverload (o : Nat) (ma : Nat)
  /-- R162: A DO switch reaches its thermal limit and switches off with SHORT_GND. -/
  | doThermalLimit (o : Nat) (ma : Nat)
  /-- R162: After RETRY_INT the die switches a faulted DO on again or latches it off. -/
  | doRetry (o : Nat)
  /-- R162: A DO on for 1 s without fault has its retry count reset. -/
  | doOnPeriodOk (o : Nat)
  /-- R163: Readback high for 1 ms with the output commanded off sets FORCED_HIGH. -/
  | doForcedHigh (o : Nat) (ma : Nat)
  /-- R164: Current below 2 mA for 100 ms while on sets OPEN_LOAD. -/
  | openLoadSet (o : Nat) (ma : Nat)
  /-- R164: Current of 2 mA or more for 100 ms while on clears OPEN_LOAD. -/
  | openLoadClear (o : Nat)
  /-- R165: Every DARK_INT × 10 ms the die pulses the next dark-test output off. -/
  | darkTest (k : Nat)
  /-- R165: A 100 µs dark pulse ends and the output passes or moves to pair testing. -/
  | darkPulseEnd (k : Nat) (fell : List Nat)
  /-- R165: Every 10 ms a failing output is pulsed together with the next candidate partner. -/
  | darkPairPulse (k : Nat) (fell : Bool)
  /-- R168: A floating actuator's model reaches its target or end stop and the drive stops. -/
  | floatDriveEnd (f : Nat)
  /-- R169: The reversal dead time ends and the other side is driven. -/
  | floatDeadTimeEnd (f : Nat)
  /-- R169: Both readbacks high for 1 ms switch the pair off with FLOAT_FAULT. -/
  | floatBothHigh (f : Nat)
  /-- R185: An accepted A or B transition changes the incremental count, at sample `t` of the tick. -/
  | posEdge (p : Nat) (t : Nat) (e : QuadEdge)
  /-- R201: An index pulse homes the port or closes an index-check interval. -/
  | indexPulse (e : IndexEdge)
  /-- R208: A POS_CHECK has not ended within its timeout and completes TIMEOUT. -/
  | posCheckTimeout (p : Nat)
  /-- R191: At a tick multiple of READ_INT the port starts a serial read. -/
  | serialReadStart (p : Nat)
  /-- R192: A serial read completes and is taken as good or faulted; `ack` is the level of data at the first clock
  period, low where the sensor acknowledges, and `clocks` are those of the periods after it. -/
  | serialReadEnd (p : Nat) (ack : Bool) (clocks : List Bool)
  /-- R192: The acknowledge or start bit does not appear within TIMEOUT and the read is faulted. -/
  | serialReadTimeout (p : Nat)
  /-- R196: No edge for POS_STANDSTILL.TIME and the speed reads 0. -/
  | standstillTimeout (p : Nat)
  /-- R202: An emulation output steps one quadrature edge towards its target. -/
  | emuEdge (e : EmuStep)
  /-- R105: A converter pass falls due and the converter powers up and visits its entries. -/
  | passStart (c : Nat)
  /-- R109: A converter produces a filtered output and writes it to the entry's slot, settling or valid. -/
  | converterOutput (c : Nat) (code : Int) (input : Int)
  /-- R114: An urgent request reaches the head of its queue and aborts the conversion in progress. -/
  | urgentHead (c : Nat)
  /-- R114: An urgent conversion produces its first valid output, updating UI or INTL. -/
  | urgentValidOutput (c : Nat) (code : Int) (input : Int)
  /-- R119: The periodic recalibration interval elapses and the converters calibrate. -/
  | calDue
  /-- R118: A converter's 12 ms calibration ends and the new factors commit. -/
  | calCommit (c : Nat) (ofs : Nat) (gain : Nat) (selfTest : List Int)
  /-- R127: A capture's tick or shot trigger fires and the group captures its burst. -/
  | captureTrigger (g : Nat) (b : CaptureBurst)
  /-- R127: The last capture sample is written into shared memory. -/
  | captureDone (g : Nat)
  /-- R126: A shot-triggered capture's shot does not start within 1 s. -/
  | captureShotTimeout (g : Nat)
  /-- R111: A slot has no new output for STALE_TICKS and is sent with STALE. -/
  | slotStale (n : Nat)
  /-- R97: MA20 current exceeds 30 mA and the burden resistor is disconnected. -/
  | ma20Disconnect (u : Nat)
  /-- R97: After 1 s the MA20 burden resistor is reconnected. -/
  | ma20Reconnect (u : Nat)
  /-- R134: A rate-limited event's 100 ms interval ends and a pending change is reported. -/
  | eventIntervalEnd (code : Nat) (src : Nat)
  /-- R218: A pattern step start tick arrives and the engine snapshots inputs and integrates. -/
  | patStepStart
  /-- R227: Step work ends and estimates and residuals are published. -/
  | patPublish
  /-- R240: A routine prediction ends and its value words enter routing. -/
  | routinePredictionEnd
  /-- R229: At tick s − 500 an URGENT binding issues its urgent request. -/
  | patUrgentIssue
  /-- R230: A queued host prediction step starts between steps when it fits. -/
  | hostPredictionStep
  /-- R250: Every ADAPT_SAVE hours the coupling multipliers are retained. -/
  | multiplierSave
  /-- R268: A loop's computation tick arrives and it computes and publishes its output. -/
  | loopCompute (l : Nat)
  /-- R282: At tick t − 1 − URG_LEAD an urgent FB binding issues its request. -/
  | loopUrgentIssue (l : Nat)
  /-- R307: The switch tick arrives and the new loop configuration takes effect. -/
  | loopSetSwitch (l : Nat)
  /-- R309: At the boundary after LOOP_REMOVE the loop's resources are freed. -/
  | loopRemoveEffect (l : Nat)
  /-- R314: Every 10 ms the device evaluates every program and zone. -/
  | schedEvaluation
  /-- R326: A zone override's expiry tick passes and it ends. -/
  | overrideExpiry (z : Nat)
  /-- R322: HOLDOFF minutes after the last presence the zone becomes absent. -/
  | presenceHoldoffExpiry (z : Nat)
  /-- R344: DUR ticks after its start a one-shot is released. -/
  | oneShotDurExpiry (c : Nat) (t : Nat) (sense : SolSense)
  /-- R338: A bank chop period starts and energising paths close. -/
  | chopPeriodStart (c : ChopStart)
  /-- R338: A channel's current reaches its target and its path opens. -/
  | targetReached (c : Nat) (t : Nat) (sense : SolSense)
  /-- R355: A waiting WAIT_PEAK is granted a token and bank peak slot. -/
  | peakGrant (k : Nat) (t : Nat)
  /-- R356: A WAIT_PEAK not granted within PEAK_WAIT is denied and the shot may be skipped. -/
  | peakWaitExpiry (c : Nat) (t : Nat) (sense : SolSense)
  /-- R356: At the tick after a denial a skipped level shot is requested again. -/
  | skipRetry (c : Nat)
  /-- R348: A WAIT_PEAK's timeout passes and NOT_REACHED is set. -/
  | waitPeakTimeout (c : Nat) (t : Nat) (sense : SolSense)
  /-- R348: The duration of a CHOP or WAIT instruction ends and the program continues. -/
  | shuttleWaitEnd (c : Nat) (t : Nat) (sense : SolSense)
  /-- R348: The next tick boundary plus phase arrives and a SYNC continues. -/
  | syncReached (c : Nat) (t : Nat) (sense : SolSense)
  /-- R348: A DECAY's current falls to T or its timeout passes. -/
  | decayDone (c : Nat) (t : Nat) (sense : SolSense)
  /-- R360: An ending channel's current falls below 10 mA and it goes OFF. -/
  | endingDone (c : Nat)
  /-- R361: A channel trips on overcurrent and ends in FAULT. -/
  | solOvercurrent (c : Nat)
  /-- R361: A clamp exceeds 150 °C and the channel ends in FAULT. -/
  | clampOverheat (c : Nat)
  /-- R358: A peak phase exceeds PEAK_MAX and the channel enters FAULT cause 5. -/
  | peakMaxExpiry (c : Nat)
  /-- R361: Bank high-side current exceeds 10 A for 2 µs and BANK_FAULT is set. -/
  | bankHsOvercurrent (b : Nat) (ma : Nat)
  /-- R361: The high-side switch exceeds 165 °C and BANK_FAULT is set. -/
  | bankHsOvertemp (b : Nat) (ma : Nat)
  /-- R365: The library transfer ends and the new RAM copy becomes active at a tick boundary. -/
  | shuttleSwitch (b : Nat)
  /-- R384: A fan kick ends without two tachometer edges and the fan backs off or fails. -/
  | kickTimeout (f : Nat)
  /-- R384: A fan backoff elapses and the fan kicks again. -/
  | backoffExpiry (f : Nat)
  /-- R381: A filtered tachometer falling edge updates the fan's pulse frequency. -/
  | tachEdge (f : Nat) (t : Nat)
  /-- R385: No tachometer edge for T_lost and the fan is judged by its supply current. -/
  | tachLost (f : Nat) (ma : Nat)
  /-- R384: A fan in RUN for 60 s has its retry count reset. -/
  | fanRun60s (f : Nat)
  /-- R390: An AO readback differs by more than 200 mV for 100 ms and enters OVERLOAD. -/
  | aoOverload (a : Nat) (mv : Nat)
  /-- R390: An AO readback within 200 mV for 100 ms clears OVERLOAD. -/
  | aoOverloadClear (a : Nat) (mv : Nat)
  /-- R407: A VALUE stitch is received and its value words are routed with REMOTE set. -/
  | stitchValue (p : Nat) (w : Word) (wrong : Nat) (first : Bool)
  /-- R444: A MEM_READ stitch is answered inside the remote-ring window. -/
  | stitchMemRead (p : Nat) (w : Word) (wrong : Nat) (first : Bool)
  /-- R445: A MEM_DATA stitch returns read data to a remote-ring client. -/
  | stitchMemData (p : Nat) (w : Word) (wrong : Nat) (first : Bool)
  /-- R444: A MEM_WRITE stitch merges data inside the window. -/
  | stitchMemWrite (p : Nat) (w : Word) (wrong : Nat) (first : Bool)
  /-- R445: A MEM_ACK stitch acknowledges a remote write. -/
  | stitchMemAck (p : Nat) (w : Word) (wrong : Nat) (first : Bool)
  /-- R445: A DOORBELL stitch delivers a tail or notification code. -/
  | stitchDoorbell (p : Nat) (w : Word) (wrong : Nat) (first : Bool)
  /-- R437: A TOKEN_REQ stitch asks the destination for tokens. -/
  | tokenReq (p : Nat) (w : Word) (wrong : Nat) (first : Bool)
  /-- R436: A TOKEN_GRANT stitch gives tokens to a source. -/
  | tokenGrant (p : Nat) (w : Word) (wrong : Nat) (first : Bool)
  /-- R436: A TOKEN_RETURN stitch returns tokens. -/
  | tokenReturn (p : Nat) (w : Word) (wrong : Nat) (first : Bool)
  /-- R433: An ADMIT walk stitch reserves tack slots and passes on. -/
  | admitStitch (p : Nat) (w : Word) (wrong : Nat) (first : Bool)
  /-- R447: An ADMIT_REPLY stitch reports a walk's result. -/
  | admitReply (p : Nat) (w : Word) (wrong : Nat) (first : Bool)
  /-- R462: A TRACE stitch carries trace records to the server's trace ring. -/
  | trace (p : Nat) (w : Word) (wrong : Nat) (first : Bool)
  /-- R440: A MGMT stitch carries neighbour reports, delay timestamps or token audits. -/
  | mgmt (p : Nat) (w : Word) (wrong : Nat) (first : Bool)
  /-- R408: An IDLE control word reports the neighbour's number and state. -/
  | idle (p : Nat) (dev : Nat) (port : Nat) (numbered : Bool)
  /-- R410: An ACK or NAK control word acknowledges stitches or requests resend. -/
  | ack (p : Nat) (count : Nat) (nak : Bool) (ns : Nat)
  /-- R435: A CREDIT control word returns receiver buffers. -/
  | credit (p : Nat) (cls : Nat) (n : Nat)
  /-- R86: A time marker control word aligns the follower's count. -/
  | time (p : Nat) (low : Nat) (ns : Int)
  /-- R86: A DELAY control word forms part of the path-delay exchange. -/
  | delay (p : Nat) (n : Nat) (response : Bool) (rx : Nat) (tx : Nat)
  /-- R680: A FREEZE control word is forwarded and obeyed to freeze at F. -/
  | freeze (p : Nat) (f : Nat)
  /-- R687: A THAW control word naming F ends a quilt-wide freeze. -/
  | thaw (p : Nat) (f : Nat)
  /-- R439: An AUDIT control word lets the receiver check credit conservation. -/
  | audit (p : Nat) (cls : Nat) (credits : Nat) (count : Nat)
  /-- R412: A DOWN control word makes the port declare its link DOWN. -/
  | down (p : Nat) (cause : Nat)
  /-- R413: A TRAIN control word carries the training exchange. -/
  | train (p : Nat) (dev : Nat) (port : Nat) (numbered : Bool) (looped : Bool) (used : List Nat) (cands : List (Nat × Nat × Nat))
  /-- R412: No decodable word for 8 µs takes the port DOWN with cause 1. -/
  | linkSilence (p : Nat)
  /-- R401: SEAM_LOS high holds the port DOWN with cause 4. -/
  | seamLos (p : Nat) (high : Bool)
  /-- R413: The receiver aligns to K28.5 during training. -/
  | receiverAligned (p : Nat)
  /-- R411: Training does not complete in 10 ms and the port idles before retraining. -/
  | trainingTimeout (p : Nat)
  /-- R411: 100 ms of electrical idle ends and training restarts. -/
  | trainingIdleEnd (p : Nat)
  /-- R411: 20 µs of sending DOWN end and the port enters TRAINING. -/
  | downSendEnd (p : Nat)
  /-- R421: The primary has been UP for REVERT_TIME and traffic moves back. -/
  | revertTimer (p : Nat)
  /-- R426: A missing stitch does not arrive within the gap wait and the flow skips it. -/
  | gapWaitExpiry (src : Nat) (flow : Nat) (cls : Nat)
  /-- R434: Stitches for an unreachable destination wait out the gap wait and are discarded. -/
  | unreachableDiscard (dest : Nat) (cls : Nat)
  /-- R436: A source returns tokens unused for 10 ms. -/
  | tokenIdleReturn (dest : Nat) (cls : Nat)
  /-- R437: A class-2 descriptor waiting more than 100 ms completes TIMEOUT. -/
  | class2Timeout (id : Nat)
  /-- R447: An admission walk not answered within 100 ms completes TIMEOUT. -/
  | admitTimeout (id : Nat)
  /-- R428: A tack slot starts and the sender sends at most one tack stitch. -/
  | tackSlot (p : Nat) (j : Nat)
  /-- R86: Once per 100 ticks the master sends a time marker on every link. -/
  | timeMarkerSend
  /-- R86: No marker for 10 ms sets HOLDOVER and starts an election. -/
  | masterLost (cands : List (Nat × Nat × Nat))
  /-- R86: Once per second neighbours run a two-way path-delay exchange. -/
  | delayExchange (p : Nat) (tx : Nat)
  /-- R445: Every 1 s a remote-ring client fetches again. -/
  | rringFetchRetry
  /-- R461: A DMA read of descriptors completes, or fails and faults the ring. -/
  | descriptorFetched (q : Nat) (ds : Option (List Desc))
  /-- R455: A DMA read not completed within 50 ms is a fetch error. -/
  | fetchTimeout (q : Nat)
  /-- R464: A fetched descriptor starts and is checked in order. -/
  | descriptorStart (q : Nat) (data : List Nat) (ups : List (Nat × Nat × Nat))
  /-- R466: A completion is written once ring order and space allow. -/
  | completionWrite (c : Nat)
  /-- R467: A ring's HOLDOFF ends and its vector is signalled again. -/
  | msixHoldoffEnd (r : Nat)
  /-- R477: A waiting event entry is written to the event ring. -/
  | eventWrite
  /-- R478: A chalk record is written to its trace ring when it fits. -/
  | traceRecordWrite (c : Nat)
  /-- R479: Within 100 µs of new records the trace tail is written back. -/
  | tailWriteback (t : Nat)
  /-- R480: The heartbeat interval expires and the device enters host-lost state. -/
  | hostLost
  /-- R456: A PCIe link-down, hot reset or function level reset acts on the host interface only. -/
  | pcieReset (kind : PcieResetKind)
  /-- R456: PCIE_PERST_N low resets the host interface. -/
  | pciePerstN
  /-- R486: The PCIe link comes up. -/
  | pcieLink (speed : Nat) (width : Nat)
  /-- R493: An MS/TP frame is received and handled by type. -/
  | mstpFrame (n : Nat) (kind : Nat) (dest : Nat) (src : Nat) (data : List Nat) (crcOk : Bool)
  /-- R495: REPLY_WAIT passes and the device sends Reply Postponed. -/
  | mstpReplyWaitExpiry (n : Nat)
  /-- R494: The clause 9 reply wait ends for a sent frame expecting a reply. -/
  | mstpReplyTimeout (n : Nat)
  /-- R496: After 10 s of silence the port re-enters the ring. -/
  | mstpSilenceEnd (n : Nat)
  /-- R498: A poll entry's period passes and it falls due. -/
  | modbusPollDue (n : Nat) (i : Nat)
  /-- R497: A Modbus response completes and updates its VAR or descriptor; `good` tells that no character of it failed. -/
  | modbusResponse (n : Nat) (bytes : List Nat) (good : Bool)
  /-- R497: A response does not begin within TIMEOUT and the attempt fails. -/
  | modbusTimeout (n : Nat)
  /-- R497: A gap over 1.5 characters inside a response fails the attempt. -/
  | modbusGap (n : Nat)
  /-- R500: RAW_GAP idle characters end a received raw frame. -/
  | rawFrameEnd (n : Nat) (bytes : List Nat) (good : Bool)
  /-- R502: A 10BASE-T1L frame is received and filtered; `good` tells that the line coded all of it. -/
  | t1lFrame (k : Nat) (bytes : List Nat) (good : Bool)
  /-- R501: A 10BASE-T1L link comes up or goes down. -/
  | t1lLink (k : Nat) (up : Bool) (high : Bool) (sqi : Nat)
  /-- R542: An NVM page write commits its groups and mirrors them. -/
  | pageWriteDone (b : Nat)
  /-- R547: VHOLD reaches V_chk and a waiting page write starts. -/
  | energyWaitEnd (vhold : Nat)
  /-- R571: An NVM_WRITE waiting 100 ms on energy completes TIMEOUT. -/
  | nvmWriteTimeout (id : Nat)
  /-- R557: Within 20 ms of a change a retained record commits. -/
  | recordCommit (r : Nat)
  /-- R559: A configuration block is written to the store and its pointer committed. -/
  | configBlockStore (key : Nat)
  /-- R563: Every CKPT_INT minutes the device writes a checkpoint of the save set. -/
  | checkpoint
  /-- R576: A group is refreshed in its turn over REFRESH_INT days. -/
  | groupRefresh (g : Nat) (e0 : Nat) (e1 : Nat)
  /-- R552: An unlock lockout delay ends. -/
  | lockoutEnd (r : Nat) (kind : Nat)
  /-- R580: A panel phase boundary starts a scan and starts or ends updates. -/
  | phaseBoundary (die : Int) (duty : Nat)
  /-- R581: A panel rail reaches regulation and the next rail starts. -/
  | railInRegulation
  /-- R581: A rail not in regulation within 3 ms is a rail fault. -/
  | railStartTimeout (mv : Int)
  /-- R583: A rail leaves its target by 10 % for 1 ms and the panel stops. -/
  | railFault (rail : Nat) (mv : Int)
  /-- R582: No update for RAIL_HOLD and the rails fall. -/
  | railHoldExpiry
  /-- R599: The string voltage shows an open or short and the frontlight turns off; it has stood so for `ms` ms. -/
  | frontlightFault (volts : Nat) (ms : Nat)
  /-- R599: Every 10 s the device retries a faulted frontlight. -/
  | frontlightRetry (volts : Nat)
  /-- R611: A row low for 100 µs wakes the key scanner. -/
  | keyRowWake
  /-- R612: A 1 ms key scan samples the matrix and debounces each key. -/
  | keyScan (raw : Nat)
  /-- R611: Every key released for 20 ms returns the scanner to idle. -/
  | keyIdle
  /-- R615: No key or encoder change for IDLE_TIME locks the keys. -/
  | keyLockIdle
  /-- R619: An accepted encoder transition changes its count. -/
  | encTransition (n : Nat) (a : Bool) (b : Bool)
  /-- R620: Every 10 ms at most an encoder reports its change in detents. -/
  | encMoved (n : Nat)
  /-- R626: The fitting interval elapses and a pass starts. -/
  | fitPassStart
  /-- R628: Conditions permit and the hold-up measurement opens the ideal diode. -/
  | holdupStart
  /-- R628: The 500 µs window ends and C and ESR are formed. -/
  | holdupWindowEnd (i : Nat) (dv : Nat) (step : Nat)
  /-- R628: A hold-up measurement that cannot start within 600 s is skipped. -/
  | holdupSkip
  /-- R627: At the next boundary fitting applies its logged changes. -/
  | fitApply
  /-- R630: Every second the path monitors are read and VCORE may rise. -/
  | pathMonitorRead (ps : List Nat)
  /-- R636: 60 s after a warning ends an abandoned pass runs again. -/
  | fitRerun
  /-- R678: FRZ_N low for 1 µs requests a freeze. -/
  | frzNLow
  /-- R686: FRZ_N rises and a device frozen alone thaws. -/
  | frzNRise
  /-- R679: At boundary F the frozen-domain clocks stop. -/
  | freezeStop
  /-- R686: Clocks restart at the next root-aligned tick edge after a thaw request. -/
  | thawRestart (ms : Nat) (master : Option (Nat × Nat))
  /-- R687: 50 µs after the THAW word, compensated, each device restarts its count. -/
  | quiltThawRestart (ms : Nat)
  /-- R690: TAP instruction that requests a freeze. -/
  | freezeReq
  /-- R690: TAP instruction that requests thaw. -/
  | thawReq
  /-- R690: TAP instruction that reads internal state through a read-out register. -/
  | roAccess (space : Nat) (index : Nat)
  /-- R691: TAP instruction that drives boundary-scan lands while RST_N is low. -/
  | extest
  /-- R690: TAP instruction that returns the device IDCODE. -/
  | idcode
  /-- R690: TAP instruction that samples or preloads the boundary-scan chain. -/
  | samplePreload (lands : List Bool) (chain : List Bool)
  /-- R690: TAP instruction that selects the bypass register. -/
  | bypass
  /-- R410: A stitch whose code word is uncorrectable arrives; it and later stitches are discarded and a NAK is sent. -/
  | seamUncorrectable (p : Nat) (x : LostStitch)
  /-- R514: A PG_VIO, PG_VCORE or PG_VPHY input rises and, after 100 µs, the next enable is raised. -/
  | powerGoodRise (rail : Nat)
  /-- R650: The boot ROM finishes verifying the firmware slots at step 5 and boots one or enters recovery. -/
  | firmwareVerified (a : SlotCheck) (b : SlotCheck) (mode : PmbusResult)
  /-- R529: VL24 falls below 17.0 V before step 6, lowering the enables and restarting at step 1 without a save. -/
  | vl24FallAtStart
  /-- R537: A PMBus transaction not finished within 10 ms is retried once or counts as a failure. -/
  | pmbusTimeout
  /-- R582: The last panel rail has discharged and PANEL_STAT.RAILS goes from falling to off. -/
  | railFallDone
  /-- R590: A waveform load that cannot switch within 10 s completes TIMEOUT and changes nothing. -/
  | panelWfloadTimeout
  /-- R365: A shuttle library transfer that cannot begin within 10 s completes TIMEOUT and changes nothing. -/
  | shuttleLoadTimeout (b : Nat)
  /-- R174: R151 is not met within 100 ms of a FIELD_RESUME, which completes TIMEOUT and ends recovery enabling. -/
  | fieldResumeTimeout (k : Nat)
  /-- R448: 10 ms after PORT_RETRAIN takes its ports DOWN the descriptor completes with the mask of ports UP. -/
  | portRetrainDone (id : Nat)
  /-- R307: The check of a staged block or image (LOOP_SET, PAT_LOAD, SCHED_SET, ZONE_SET, ROUTE_LOAD, BUS_POLL_SET, envelopes) ends and the operation completes CHECK_ONLY or passes to its next stage. -/
  | stagedCheckDone (id : Nat)
  /-- R651: The firmware envelope has been written to flash, read back and verified, and the slot is marked PREFERRED. -/
  | fwUpdateWritten
  /-- R507: A bus port finishes sending a frame; a BUS_SEND needing no response completes OK and BUS_DE falls after DE_TAIL. -/
  | busFrameSent (n : Nat)
  /-- R492: A clause 9 timer of the MS/TP master node state machine, such as token loss or usage timeout, expires. -/
  | mstpTimerExpiry (n : Nat)
  /-- R627: The NVM sample reads and 1 s reference and eye-margin averages of a fitting pass end and the pass moves to the hold-up measurement. -/
  | fitMeasurementDone (m : FitSense)
  deriving DecidableEq, Repr

end Sys2Proof
end

