-- ==== Sys2Proof/Decode.lean ====
section
/-! DEFINITION. The commands that the bits of spec/opcode_table.json spell: none of its rows gives bits. -/

namespace Sys2Proof

/-- The command that a word of the opcode table spells. Every row of the table has an empty field list, so no word spells one. -/
def decodeTableWord (_nbits _w : Nat) : Option Instr := none

end Sys2Proof
end

