-- ==== Sys2Proof/Config.lean ====
section
/-! DEFINITION. What the spec leaves open or takes from outside itself, as constants without a body. -/

namespace Sys2Proof

/-- The free value number `n`: a value that the spec does not fix; the model's field `Dev.free` counts them. -/
opaque Config.freeValue : Nat → BitVec 64

/-- SHA-512 of a byte string (R645 names it; its definition is outside the spec). -/
opaque Config.sha512 : List Nat → List Nat

/-- Whether an Ed25519 signature verifies: public key, message, signature (R645; defined outside the spec). -/
opaque Config.ed25519Verify : List Nat → List Nat → List Nat → Bool

/-- The Ed25519 signature of a message under the device's identity key (R642; defined outside the spec). -/
opaque Config.identitySign : List Nat → List Nat

/-- The identity certificate that manufacture wrote, 128 bytes (R643). -/
opaque Config.identityCert : List Nat

/-- The identity public key, bytes 0 to 31 of the certificate (R643). -/
def Config.identityKey : List Nat := Config.identityCert.take 32

/-- The vendor's public key that the boot ROM holds for firmware and libraries (R645). -/
opaque Config.vendorKey : List Nat

/-- The built-in mode 0 table of R591, whose content the spec does not give: the drive codes of the transition from an old to a new level. -/
opaque Config.builtinWave : Nat → Nat → List Nat

/-- What a calibrated converter code stands for at gain 1 (R101 step 3 names the scaling and gives no code scale): volts for
code 3, milliamperes for code 4, the channel's unit for INTL channel i of a die (code 8 + i, R103), each in units of 2^-16; the ratio of R96
in units of 2^-30 for the resistive modes. -/
opaque Config.inputOf : Nat → Int → Int

/-- The factory trim factors of a converter, offset in Q16.16 LSB and gain in Q2.29 (R119 names them and gives no value). -/
opaque Config.trimOfs : Nat → BitVec 32
opaque Config.trimGain : Nat → BitVec 32

end Sys2Proof
end

