-- ==== Sys2Proof/Machine/Map.lean ====
section
/-! DEFINITION. A sparse table kept as a list of (key, value) pairs in one canonical form: keys strictly rising, no entry equal to what an unlisted key reads as. -/

namespace Sys2Proof.Machine

/-- A sparse table. -/
abbrev Map (α : Type) := List (Nat × α)

/-- What the table holds under `k`; `dflt` where it lists nothing. -/
def Map.get {α : Type} (m : Map α) (k : Nat) (dflt : α) : α :=
  match m with
  | [] => dflt
  | (j, v) :: t => if j = k then v else if k < j then dflt else Map.get t k dflt

/-- The table without an entry under `k`. -/
def Map.erase {α : Type} (m : Map α) (k : Nat) : Map α :=
  match m with
  | [] => []
  | (j, v) :: t => if j = k then t else if k < j then (j, v) :: t else (j, v) :: Map.erase t k

/-- The table with `v` under `k`, keys kept rising. -/
def Map.insert {α : Type} (m : Map α) (k : Nat) (v : α) : Map α :=
  match m with
  | [] => [(k, v)]
  | (j, w) :: t =>
    if j = k then (k, v) :: t
    else if k < j then (k, v) :: (j, w) :: t
    else (j, w) :: Map.insert t k v

/-- The table with `v` under `k`: the entry goes when `v` is what an unlisted key reads as. -/
def Map.set {α : Type} [DecidableEq α] (m : Map α) (k : Nat) (v dflt : α) : Map α :=
  if v = dflt then Map.erase m k else Map.insert m k v

/-- The canonical form, for a table whose unlisted key `k` reads `dflt k`. -/
def Map.wf {α : Type} [DecidableEq α] (dflt : Nat → α) : Map α → Bool
  | [] => true
  | [(k, v)] => !decide (v = dflt k)
  | (k, v) :: (j, w) :: t => !decide (v = dflt k) && decide (k < j) && Map.wf dflt ((j, w) :: t)

end Sys2Proof.Machine
end

