-- ==== Sys2Proof/Machine/Regs.lean ====
section
/-! DEFINITION. The register fields of BAR0 as the register tables of spec/ give them: where a field lies, its access type, its reset (or factory) value, the values a write may give it. -/

namespace Sys2Proof.Machine

/-- The access types of R15 (00_scope.md). -/
inductive Access where
  | rw | ro | w1c | wo | rws
  deriving DecidableEq, Repr

/-- One field of a register table: element `i` of the register lies at
`base + stride * (i / per) + stride2 * (i % per)` of BAR0, the field at bits `[lo + width - 1 : lo]` of it. -/
structure Fld where
  base : Nat
  stride : Nat := 0
  count : Nat := 1
  per : Nat := 1
  stride2 : Nat := 0
  lo : Nat
  width : Nat
  ty : Access
  /-- Whether the table's Reset entry is "ret": the field comes from retained state (R18). -/
  ret : Bool := false
  reset : Nat → Nat := fun _ => 0
  ok : Nat → Bool := fun _ => true

/-- The BAR0 offset of the register that holds element `i` of the field. -/
def Fld.addr (f : Fld) (i : Nat) : Nat := f.base + f.stride * (i / f.per) + f.stride2 * (i % f.per)

/-- The place of element `i` of the field, in bits of BAR0: the key it is kept under. -/
def Fld.key (f : Fld) (i : Nat) : Nat := 8 * f.addr i + f.lo

/-- 01_architecture R54: GLOBAL_CAP.STEPPING, RO. -/
def Reg.GLOBAL_CAP.STEPPING : Fld := { base := 0x4, lo := 0, width := 4, ty := .ro, reset := fun _ => 2 }
/-- 01_architecture R54: GLOBAL_CAP.BL_MAX, RO. -/
def Reg.GLOBAL_CAP.BL_MAX : Fld := { base := 0x4, lo := 8, width := 8, ty := .ro, reset := fun _ => 3 }
/-- 01_architecture R54: GLOBAL_CAP.FIELD_A, RO. -/
def Reg.GLOBAL_CAP.FIELD_A : Fld := { base := 0x4, lo := 16, width := 1, ty := .ro, reset := fun _ => 1 }
/-- 01_architecture R54: GLOBAL_CAP.FIELD_B, RO. -/
def Reg.GLOBAL_CAP.FIELD_B : Fld := { base := 0x4, lo := 17, width := 1, ty := .ro, reset := fun _ => 1 }
/-- 01_architecture R55: GLOBAL_GRADE.GRADE, RO. -/
def Reg.GLOBAL_GRADE.GRADE : Fld := { base := 0x8, lo := 0, width := 2, ty := .ro, reset := fun _ => 1 }
/-- 01_architecture R55: GLOBAL_GRADE.TEMP, RO. -/
def Reg.GLOBAL_GRADE.TEMP : Fld := { base := 0x8, lo := 4, width := 4, ty := .ro, reset := fun _ => 1 }
/-- 01_architecture R56: GLOBAL_BLSEL.BL_REQ, RWS. -/
def Reg.GLOBAL_BLSEL.BL_REQ : Fld := { base := 0xC, lo := 0, width := 8, ty := .rws, ret := true, reset := fun _ => 1 }
/-- 01_architecture R56: GLOBAL_BLSEL.BL_ACTIVE, RO. -/
def Reg.GLOBAL_BLSEL.BL_ACTIVE : Fld := { base := 0xC, lo := 8, width := 8, ty := .ro }
/-- 01_architecture R56: GLOBAL_BLSEL.BL_FALLBACK, RO. -/
def Reg.GLOBAL_BLSEL.BL_FALLBACK : Fld := { base := 0xC, lo := 16, width := 1, ty := .ro }
/-- 01_architecture R56: GLOBAL_BLSEL.BL_WRITE_REJECTED, W1C. -/
def Reg.GLOBAL_BLSEL.BL_WRITE_REJECTED : Fld := { base := 0xC, lo := 17, width := 1, ty := .w1c }
/-- 01_architecture R61: GLOBAL_DEVNUM.DEVNUM, RWS. -/
def Reg.GLOBAL_DEVNUM.DEVNUM : Fld := { base := 0x10, lo := 0, width := 10, ty := .rws, ret := true, reset := fun _ => 1023 }
/-- 01_architecture R61: GLOBAL_DEVNUM.DEVNUM_SET, RWS. -/
def Reg.GLOBAL_DEVNUM.DEVNUM_SET : Fld := { base := 0x10, lo := 15, width := 1, ty := .rws, ret := true }
/-- 01_architecture R61: GLOBAL_DEVNUM.DEVNUM_ACTIVE, RO. -/
def Reg.GLOBAL_DEVNUM.DEVNUM_ACTIVE : Fld := { base := 0x10, lo := 16, width := 10, ty := .ro }
/-- 01_architecture R61: GLOBAL_DEVNUM.ACTIVE_VALID, RO. -/
def Reg.GLOBAL_DEVNUM.ACTIVE_VALID : Fld := { base := 0x10, lo := 31, width := 1, ty := .ro }
/-- 01_architecture R64: GLOBAL_SEAL.SEAL, RWS. -/
def Reg.GLOBAL_SEAL.SEAL : Fld := { base := 0x14, lo := 0, width := 1, ty := .rws, ret := true }
/-- 01_architecture R64: GLOBAL_SEAL.OWNER_STATE, RO. -/
def Reg.GLOBAL_SEAL.OWNER_STATE : Fld := { base := 0x14, lo := 8, width := 2, ty := .ro, ret := true }
/-- 01_architecture R64: GLOBAL_SEAL.SEAL_REFUSED, W1C. -/
def Reg.GLOBAL_SEAL.SEAL_REFUSED : Fld := { base := 0x14, lo := 16, width := 1, ty := .w1c }
/-- 01_architecture R69: GLOBAL_MEMERR.CORRECTED, RO. -/
def Reg.GLOBAL_MEMERR.CORRECTED : Fld := { base := 0x20, lo := 0, width := 24, ty := .ro }
/-- 01_architecture R69: GLOBAL_MEMERR.UNCORRECTABLE, RO. -/
def Reg.GLOBAL_MEMERR.UNCORRECTABLE : Fld := { base := 0x20, lo := 24, width := 8, ty := .ro }
/-- 01_architecture R69: GLOBAL_MEMERR_CLR.CLR_CORRECTED, WO. -/
def Reg.GLOBAL_MEMERR_CLR.CLR_CORRECTED : Fld := { base := 0x24, lo := 0, width := 1, ty := .wo }
/-- 01_architecture R69: GLOBAL_MEMERR_CLR.CLR_UNCORRECTABLE, WO. -/
def Reg.GLOBAL_MEMERR_CLR.CLR_UNCORRECTABLE : Fld := { base := 0x24, lo := 1, width := 1, ty := .wo }
/-- 02_tick_clocks_time R89: QUILT_TIME_CFG.TIME_PRIO, RWS. -/
def Reg.QUILT_TIME_CFG.TIME_PRIO : Fld := { base := 0x20F00, lo := 0, width := 8, ty := .rws, ret := true, reset := fun _ => 128 }
/-- 02_tick_clocks_time R89: QUILT_TIME_STAT.LOCKED, RO. -/
def Reg.QUILT_TIME_STAT.LOCKED : Fld := { base := 0x20F04, lo := 0, width := 1, ty := .ro }
/-- 02_tick_clocks_time R89: QUILT_TIME_STAT.IS_MASTER, RO. -/
def Reg.QUILT_TIME_STAT.IS_MASTER : Fld := { base := 0x20F04, lo := 1, width := 1, ty := .ro }
/-- 02_tick_clocks_time R89: QUILT_TIME_STAT.HOLDOVER, RO. -/
def Reg.QUILT_TIME_STAT.HOLDOVER : Fld := { base := 0x20F04, lo := 2, width := 1, ty := .ro }
/-- 02_tick_clocks_time R89: QUILT_TIME_STAT.MASTER_VALID, RO. -/
def Reg.QUILT_TIME_STAT.MASTER_VALID : Fld := { base := 0x20F04, lo := 3, width := 1, ty := .ro }
/-- 02_tick_clocks_time R89: QUILT_TIME_STAT.MASTER_DEV, RO. -/
def Reg.QUILT_TIME_STAT.MASTER_DEV : Fld := { base := 0x20F04, lo := 16, width := 10, ty := .ro }
/-- 02_tick_clocks_time R89: QUILT_TIME_STAT.MASTER_HOPS, RO. -/
def Reg.QUILT_TIME_STAT.MASTER_HOPS : Fld := { base := 0x20F04, lo := 26, width := 6, ty := .ro }
/-- 02_tick_clocks_time R89: QUILT_TIME_OFFSET.OFFSET_NS, RO. -/
def Reg.QUILT_TIME_OFFSET.OFFSET_NS : Fld := { base := 0x20F08, lo := 0, width := 32, ty := .ro }
/-- 02_tick_clocks_time R89: QUILT_CLK_STAT.PLL_LOCK, RO. -/
def Reg.QUILT_CLK_STAT.PLL_LOCK : Fld := { base := 0x20F0C, lo := 0, width := 1, ty := .ro }
/-- 02_tick_clocks_time R89: QUILT_CLK_STAT.PCIE_REF_OK, RO. -/
def Reg.QUILT_CLK_STAT.PCIE_REF_OK : Fld := { base := 0x20F0C, lo := 1, width := 1, ty := .ro }
/-- 02_tick_clocks_time R89: QUILT_PATH_DLY.DELAY_NS, RO. -/
def Reg.QUILT_PATH_DLY.DELAY_NS : Fld := { base := 0x20F10, stride := 0x4, count := 8, lo := 0, width := 16, ty := .ro }
/-- 03_measurement R136: MEAS_CAP.CONV_PRESENT, RO. -/
def Reg.MEAS_CAP.CONV_PRESENT : Fld := { base := 0x50004, lo := 0, width := 8, ty := .ro, reset := fun _ => 255 }
/-- 03_measurement R136: MEAS_CAP.SLOTS, RO. -/
def Reg.MEAS_CAP.SLOTS : Fld := { base := 0x50004, lo := 8, width := 8, ty := .ro, reset := fun _ => 64 }
/-- 03_measurement R136: MEAS_CAP.INTERLEAVE, RO. -/
def Reg.MEAS_CAP.INTERLEAVE : Fld := { base := 0x50004, lo := 16, width := 1, ty := .ro, reset := fun _ => 1 }
/-- 03_measurement R136: MEAS_CAP.GROUP8, RO. -/
def Reg.MEAS_CAP.GROUP8 : Fld := { base := 0x50004, lo := 17, width := 1, ty := .ro, reset := fun _ => 1 }
/-- 03_measurement R136: MEAS_CFG.AUTO_CAL, RW. -/
def Reg.MEAS_CFG.AUTO_CAL : Fld := { base := 0x50008, lo := 0, width := 1, ty := .rw, ret := true, reset := fun _ => 1 }
/-- 03_measurement R136: MEAS_CFG.RECAL_INT, RW. -/
def Reg.MEAS_CFG.RECAL_INT : Fld := { base := 0x50008, lo := 16, width := 10, ty := .rw, ret := true, reset := fun _ => 168 }
/-- 03_measurement R136: MEAS_STAT.WRITE_REJECTED, W1C. -/
def Reg.MEAS_STAT.WRITE_REJECTED : Fld := { base := 0x5000C, lo := 0, width := 1, ty := .w1c }
/-- 03_measurement R136: MEAS_STAT.CAL_BUSY, RO. -/
def Reg.MEAS_STAT.CAL_BUSY : Fld := { base := 0x5000C, lo := 8, width := 8, ty := .ro }
/-- 03_measurement R136: MEAS_STAT.CAPTURE_BUSY, RO. -/
def Reg.MEAS_STAT.CAPTURE_BUSY : Fld := { base := 0x5000C, lo := 16, width := 8, ty := .ro }
/-- 03_measurement R136: CONV_CTRL.RUN, RW. -/
def Reg.CONV_CTRL.RUN : Fld := { base := 0x50100, stride := 0x20, count := 8, lo := 0, width := 1, ty := .rw, ret := true }
/-- 03_measurement R136: CONV_CTRL.PAIR, RW. -/
def Reg.CONV_CTRL.PAIR : Fld := { base := 0x50100, stride := 0x20, count := 8, lo := 1, width := 1, ty := .rw, ret := true }
/-- 03_measurement R136: CONV_CTRL.LAST, RW. -/
def Reg.CONV_CTRL.LAST : Fld := { base := 0x50100, stride := 0x20, count := 8, lo := 8, width := 6, ty := .rw, ret := true }
/-- 03_measurement R136: CONV_CTRL.PASS_INT, RW. -/
def Reg.CONV_CTRL.PASS_INT : Fld := { base := 0x50100, stride := 0x20, count := 8, lo := 16, width := 16, ty := .rw, ret := true }
/-- 03_measurement R136: CONV_STAT.RUNNING, RO. -/
def Reg.CONV_STAT.RUNNING : Fld := { base := 0x50104, stride := 0x20, count := 8, lo := 0, width := 1, ty := .ro }
/-- 03_measurement R136: CONV_STAT.POWERED, RO. -/
def Reg.CONV_STAT.POWERED : Fld := { base := 0x50104, stride := 0x20, count := 8, lo := 1, width := 1, ty := .ro }
/-- 03_measurement R136: CONV_STAT.CALIBRATING, RO. -/
def Reg.CONV_STAT.CALIBRATING : Fld := { base := 0x50104, stride := 0x20, count := 8, lo := 2, width := 1, ty := .ro }
/-- 03_measurement R136: CONV_STAT.CAPTURING, RO. -/
def Reg.CONV_STAT.CAPTURING : Fld := { base := 0x50104, stride := 0x20, count := 8, lo := 3, width := 1, ty := .ro }
/-- 03_measurement R136: CONV_STAT.URGENT_ACTIVE, RO. -/
def Reg.CONV_STAT.URGENT_ACTIVE : Fld := { base := 0x50104, stride := 0x20, count := 8, lo := 4, width := 1, ty := .ro }
/-- 03_measurement R136: CONV_STAT.ENTRY, RO. -/
def Reg.CONV_STAT.ENTRY : Fld := { base := 0x50104, stride := 0x20, count := 8, lo := 8, width := 6, ty := .ro }
/-- 03_measurement R136: CONV_STAT.URGENT_QUEUED, RO. -/
def Reg.CONV_STAT.URGENT_QUEUED : Fld := { base := 0x50104, stride := 0x20, count := 8, lo := 16, width := 3, ty := .ro }
/-- 03_measurement R136: CAL_OFS.OFS, RO. -/
def Reg.CAL_OFS.OFS : Fld := { base := 0x50108, stride := 0x20, count := 8, lo := 0, width := 32, ty := .ro, ret := true }
/-- 03_measurement R136: CAL_GAIN.GAIN, RO. -/
def Reg.CAL_GAIN.GAIN : Fld := { base := 0x5010C, stride := 0x20, count := 8, lo := 0, width := 32, ty := .ro, ret := true }
/-- 03_measurement R136: PASS_COUNT.PASSES, RO. -/
def Reg.PASS_COUNT.PASSES : Fld := { base := 0x50110, stride := 0x20, count := 8, lo := 0, width := 32, ty := .ro }
/-- 03_measurement R136: OVERRUN_COUNT.OVERRUNS, RO. -/
def Reg.OVERRUN_COUNT.OVERRUNS : Fld := { base := 0x50114, stride := 0x20, count := 8, lo := 0, width := 16, ty := .ro }
/-- 03_measurement R136: CONV_STALE.STALE_TICKS, RW. -/
def Reg.CONV_STALE.STALE_TICKS : Fld := { base := 0x50118, stride := 0x20, count := 8, lo := 0, width := 16, ty := .rw, ret := true }
/-- 03_measurement R136: ENTRY_A.CHANNEL, RW. -/
def Reg.ENTRY_A.CHANNEL : Fld := { base := 0x51000, stride := 0x8, count := 512, lo := 0, width := 20, ty := .rw, ret := true }
/-- 03_measurement R136: ENTRY_A.GAIN, RW. -/
def Reg.ENTRY_A.GAIN : Fld := { base := 0x51000, stride := 0x8, count := 512, lo := 20, width := 3, ty := .rw, ret := true, ok := fun v => v ≤ 4 }
/-- 03_measurement R136: ENTRY_A.OSR, RW. -/
def Reg.ENTRY_A.OSR : Fld := { base := 0x51000, stride := 0x8, count := 512, lo := 24, width := 3, ty := .rw, ret := true, ok := fun v => v ≤ 5 }
/-- 03_measurement R136: ENTRY_A.OUTS, RW. -/
def Reg.ENTRY_A.OUTS : Fld := { base := 0x51000, stride := 0x8, count := 512, lo := 28, width := 4, ty := .rw, ret := true, reset := fun _ => 1 }
/-- 03_measurement R136: ENTRY_B.ACQ, RW. -/
def Reg.ENTRY_B.ACQ : Fld := { base := 0x51004, stride := 0x8, count := 512, lo := 0, width := 8, ty := .rw, ret := true, reset := fun _ => 20 }
/-- 03_measurement R136: UI_MODE.MODE, RW. -/
def Reg.UI_MODE.MODE : Fld := { base := 0x52000, stride := 0x10, count := 64, lo := 0, width := 3, ty := .rw, ret := true, ok := fun v => v ≤ 6 }
/-- 03_measurement R136: UI_MODE.BETA, RW. -/
def Reg.UI_MODE.BETA : Fld := { base := 0x52000, stride := 0x10, count := 64, lo := 16, width := 12, ty := .rw, ret := true, reset := fun _ => 3950, ok := fun v => 3000 ≤ v }
/-- 03_measurement R136: UI_OFS.OFS, RW. -/
def Reg.UI_OFS.OFS : Fld := { base := 0x52004, stride := 0x10, count := 64, lo := 0, width := 32, ty := .rw, ret := true }
/-- 03_measurement R136: UI_GAIN.C, RW. -/
def Reg.UI_GAIN.C : Fld := { base := 0x52008, stride := 0x10, count := 64, lo := 0, width := 32, ty := .rw, ret := true, reset := fun _ => 536870912 }
/-- 03_measurement R136: UI_GAIN_SH.S, RW. -/
def Reg.UI_GAIN_SH.S : Fld := { base := 0x5200C, stride := 0x10, count := 64, lo := 0, width := 5, ty := .rw, ret := true }
/-- 03_measurement R136: SLOT_STAT.REMAIN, RO. -/
def Reg.SLOT_STAT.REMAIN : Fld := { base := 0x53000, stride := 0x4, count := 512, lo := 0, width := 4, ty := .ro }
/-- 03_measurement R136: SLOT_STAT.STATUS, RO. -/
def Reg.SLOT_STAT.STATUS : Fld := { base := 0x53000, stride := 0x4, count := 512, lo := 8, width := 8, ty := .ro }
/-- 03_measurement R136: SLOT_STAT.AGE, RO. -/
def Reg.SLOT_STAT.AGE : Fld := { base := 0x53000, stride := 0x4, count := 512, lo := 16, width := 16, ty := .ro, reset := fun _ => 65535 }
/-- 03_measurement R136: SLOT_VAL.VALUE, RO. -/
def Reg.SLOT_VAL.VALUE : Fld := { base := 0x54000, stride := 0x8, count := 512, lo := 0, width := 64, ty := .ro }
/-- 04_field_io_barrier R177: FIELD_CAP.UI, RO. -/
def Reg.FIELD_CAP.UI : Fld := { base := 0x30004, stride := 0x10000, count := 2, lo := 0, width := 8, ty := .ro, reset := fun _ => 32 }
/-- 04_field_io_barrier R177: FIELD_CAP.DI, RO. -/
def Reg.FIELD_CAP.DI : Fld := { base := 0x30004, stride := 0x10000, count := 2, lo := 8, width := 8, ty := .ro, reset := fun _ => 64 }
/-- 04_field_io_barrier R177: FIELD_CAP.DO, RO. -/
def Reg.FIELD_CAP.DO : Fld := { base := 0x30004, stride := 0x10000, count := 2, lo := 16, width := 8, ty := .ro, reset := fun _ => 32 }
/-- 04_field_io_barrier R177: FIELD_CAP.SOL, RO. -/
def Reg.FIELD_CAP.SOL : Fld := { base := 0x30004, stride := 0x10000, count := 2, lo := 24, width := 8, ty := .ro, reset := fun _ => 16 }
/-- 04_field_io_barrier R177: FIELD_CFG.HOLD_WIN, RW. -/
def Reg.FIELD_CFG.HOLD_WIN : Fld := { base := 0x30008, stride := 0x10000, count := 2, lo := 0, width := 6, ty := .rw, ret := true, reset := fun _ => 20, ok := fun v => 10 ≤ v && v ≤ 50 }
/-- 04_field_io_barrier R177: FIELD_CFG.AUTO_RECOVER, RW. -/
def Reg.FIELD_CFG.AUTO_RECOVER : Fld := { base := 0x30008, stride := 0x10000, count := 2, lo := 8, width := 1, ty := .rw, ret := true, reset := fun _ => 1 }
/-- 04_field_io_barrier R177: FIELD_CFG.RECOVER_FRAMES, RW. -/
def Reg.FIELD_CFG.RECOVER_FRAMES : Fld := { base := 0x30008, stride := 0x10000, count := 2, lo := 12, width := 4, ty := .rw, ret := true, reset := fun _ => 8, ok := fun v => 1 ≤ v }
/-- 04_field_io_barrier R177: FIELD_STAT.OUT_STATE, RO. -/
def Reg.FIELD_STAT.OUT_STATE : Fld := { base := 0x3000C, stride := 0x10000, count := 2, lo := 0, width := 3, ty := .ro }
/-- 04_field_io_barrier R177: FIELD_STAT.UP_LINK_OK, RO. -/
def Reg.FIELD_STAT.UP_LINK_OK : Fld := { base := 0x3000C, stride := 0x10000, count := 2, lo := 8, width := 1, ty := .ro }
/-- 04_field_io_barrier R177: FIELD_STAT.DOWN_LINK_OK, RO. -/
def Reg.FIELD_STAT.DOWN_LINK_OK : Fld := { base := 0x3000C, stride := 0x10000, count := 2, lo := 9, width := 1, ty := .ro }
/-- 04_field_io_barrier R177: FIELD_STAT.BARRIER_DOWN, RO. -/
def Reg.FIELD_STAT.BARRIER_DOWN : Fld := { base := 0x3000C, stride := 0x10000, count := 2, lo := 10, width := 1, ty := .ro }
/-- 04_field_io_barrier R177: FIELD_STAT.VF24_LOW, RO. -/
def Reg.FIELD_STAT.VF24_LOW : Fld := { base := 0x3000C, stride := 0x10000, count := 2, lo := 11, width := 1, ty := .ro }
/-- 04_field_io_barrier R177: FIELD_STAT.INT_OSC, RO. -/
def Reg.FIELD_STAT.INT_OSC : Fld := { base := 0x3000C, stride := 0x10000, count := 2, lo := 12, width := 1, ty := .ro }
/-- 04_field_io_barrier R177: FIELD_STAT.WRITE_REJECTED, W1C. -/
def Reg.FIELD_STAT.WRITE_REJECTED : Fld := { base := 0x3000C, stride := 0x10000, count := 2, lo := 16, width := 1, ty := .w1c }
/-- 04_field_io_barrier R177: FIELD_DOWN_ERR.LOST, RO. -/
def Reg.FIELD_DOWN_ERR.LOST : Fld := { base := 0x30010, stride := 0x10000, count := 2, lo := 0, width := 16, ty := .ro }
/-- 04_field_io_barrier R177: FIELD_UP_ERR.CRC, RO. -/
def Reg.FIELD_UP_ERR.CRC : Fld := { base := 0x30014, stride := 0x10000, count := 2, lo := 0, width := 16, ty := .ro }
/-- 04_field_io_barrier R177: FIELD_UP_ERR.OTHER, RO. -/
def Reg.FIELD_UP_ERR.OTHER : Fld := { base := 0x30014, stride := 0x10000, count := 2, lo := 16, width := 16, ty := .ro }
/-- 04_field_io_barrier R177: FIELD_HOLD_COUNT.ENTRIES, RO. -/
def Reg.FIELD_HOLD_COUNT.ENTRIES : Fld := { base := 0x30018, stride := 0x10000, count := 2, lo := 0, width := 16, ty := .ro }
/-- 04_field_io_barrier R177: FIELD_HOLD_COUNT.LONGEST, RO. -/
def Reg.FIELD_HOLD_COUNT.LONGEST : Fld := { base := 0x30018, stride := 0x10000, count := 2, lo := 16, width := 6, ty := .ro }
/-- 04_field_io_barrier R177: FIELD_SAFE_COUNT.ENTRIES, RO. -/
def Reg.FIELD_SAFE_COUNT.ENTRIES : Fld := { base := 0x3001C, stride := 0x10000, count := 2, lo := 0, width := 16, ty := .ro }
/-- 04_field_io_barrier R177: FIELD_FRZ_HOLD.LIMIT, RW. -/
def Reg.FIELD_FRZ_HOLD.LIMIT : Fld := { base := 0x30020, stride := 0x10000, count := 2, lo := 0, width := 16, ty := .rw, ret := true, reset := fun _ => 1000, ok := fun v => 10 ≤ v && v ≤ 60000 }
/-- 04_field_io_barrier R177: FIELD_ERR_CLR.CLR, WO. -/
def Reg.FIELD_ERR_CLR.CLR : Fld := { base := 0x30024, stride := 0x10000, count := 2, lo := 0, width := 1, ty := .wo }
/-- 04_field_io_barrier R180: DIO_CAP.DI, RO. -/
def Reg.DIO_CAP.DI : Fld := { base := 0xA0004, lo := 0, width := 8, ty := .ro, reset := fun _ => 128 }
/-- 04_field_io_barrier R180: DIO_CAP.DO, RO. -/
def Reg.DIO_CAP.DO : Fld := { base := 0xA0004, lo := 8, width := 8, ty := .ro, reset := fun _ => 64 }
/-- 04_field_io_barrier R180: DIO_CAP.FLOAT, RO. -/
def Reg.DIO_CAP.FLOAT : Fld := { base := 0xA0004, lo := 16, width := 8, ty := .ro, reset := fun _ => 32 }
/-- 04_field_io_barrier R180: DIO_DARK.EN_A, RW. -/
def Reg.DIO_DARK.EN_A : Fld := { base := 0xA0008, lo := 0, width := 1, ty := .rw, ret := true }
/-- 04_field_io_barrier R180: DIO_DARK.EN_B, RW. -/
def Reg.DIO_DARK.EN_B : Fld := { base := 0xA0008, lo := 1, width := 1, ty := .rw, ret := true }
/-- 04_field_io_barrier R180: DIO_DARK.DARK_INT, RW. -/
def Reg.DIO_DARK.DARK_INT : Fld := { base := 0xA0008, lo := 16, width := 10, ty := .rw, ret := true, reset := fun _ => 100, ok := fun v => 1 ≤ v && v ≤ 1000 }
/-- 04_field_io_barrier R180: DI_CFG.TYPE, RW. -/
def Reg.DI_CFG.TYPE : Fld := { base := 0xA1000, stride := 0x8, count := 128, lo := 0, width := 1, ty := .rw, ret := true }
/-- 04_field_io_barrier R180: DI_CFG.PULSED, RW. -/
def Reg.DI_CFG.PULSED : Fld := { base := 0xA1000, stride := 0x8, count := 128, lo := 1, width := 1, ty := .rw, ret := true }
/-- 04_field_io_barrier R180: DI_CFG.WIREBREAK, RW. -/
def Reg.DI_CFG.WIREBREAK : Fld := { base := 0xA1000, stride := 0x8, count := 128, lo := 2, width := 1, ty := .rw, ret := true }
/-- 04_field_io_barrier R180: DI_CFG.INVERT, RW. -/
def Reg.DI_CFG.INVERT : Fld := { base := 0xA1000, stride := 0x8, count := 128, lo := 3, width := 1, ty := .rw, ret := true }
/-- 04_field_io_barrier R180: DI_CFG.PERIOD, RW. -/
def Reg.DI_CFG.PERIOD : Fld := { base := 0xA1000, stride := 0x8, count := 128, lo := 8, width := 7, ty := .rw, ret := true, reset := fun _ => 10, ok := fun v => 1 ≤ v && v ≤ 100 }
/-- 04_field_io_barrier R180: DI_DEB.DEBOUNCE, RW. -/
def Reg.DI_DEB.DEBOUNCE : Fld := { base := 0xA1004, stride := 0x8, count := 128, lo := 0, width := 16, ty := .rw, ret := true, reset := fun _ => 3000, ok := fun v => 1 ≤ v }
/-- 04_field_io_barrier R180: DI_DEB.EFFECTIVE, RO. -/
def Reg.DI_DEB.EFFECTIVE : Fld := { base := 0xA1004, stride := 0x8, count := 128, lo := 16, width := 11, ty := .ro, ret := true }
/-- 04_field_io_barrier R180: DO_CFG.SAFE, RW. -/
def Reg.DO_CFG.SAFE : Fld := { base := 0xA2000, stride := 0x10, count := 64, lo := 0, width := 2, ty := .rw, ret := true, ok := fun v => v ≤ 2 }
/-- 04_field_io_barrier R180: DO_CFG.PARALLEL, RW. -/
def Reg.DO_CFG.PARALLEL : Fld := { base := 0xA2000, stride := 0x10, count := 64, lo := 2, width := 1, ty := .rw, ret := true }
/-- 04_field_io_barrier R180: DO_CFG.DARK, RW. -/
def Reg.DO_CFG.DARK : Fld := { base := 0xA2000, stride := 0x10, count := 64, lo := 3, width := 1, ty := .rw, ret := true, reset := fun _ => 1 }
/-- 04_field_io_barrier R180: DO_CFG.OPEN_DETECT, RW. -/
def Reg.DO_CFG.OPEN_DETECT : Fld := { base := 0xA2000, stride := 0x10, count := 64, lo := 4, width := 1, ty := .rw, ret := true }
/-- 04_field_io_barrier R180: DO_CFG.REJECT_ALARM, RW. -/
def Reg.DO_CFG.REJECT_ALARM : Fld := { base := 0xA2000, stride := 0x10, count := 64, lo := 5, width := 1, ty := .rw, ret := true }
/-- 04_field_io_barrier R180: DO_CFG.RETRY_INT, RW. -/
def Reg.DO_CFG.RETRY_INT : Fld := { base := 0xA2000, stride := 0x10, count := 64, lo := 8, width := 8, ty := .rw, ret := true, reset := fun _ => 10, ok := fun v => 1 ≤ v && v ≤ 100 }
/-- 04_field_io_barrier R180: DO_CFG.RETRY_MAX, RW. -/
def Reg.DO_CFG.RETRY_MAX : Fld := { base := 0xA2000, stride := 0x10, count := 64, lo := 16, width := 4, ty := .rw, ret := true, reset := fun _ => 8, ok := fun v => 1 ≤ v }
/-- 04_field_io_barrier R180: DO_CFG.RESTORE, RW. -/
def Reg.DO_CFG.RESTORE : Fld := { base := 0xA2000, stride := 0x10, count := 64, lo := 20, width := 2, ty := .rw, ret := true, reset := fun _ => 2, ok := fun v => v ≤ 2 }
/-- 04_field_io_barrier R180: DO_STAT.STATE, RO. -/
def Reg.DO_STAT.STATE : Fld := { base := 0xA2004, stride := 0x10, count := 64, lo := 0, width := 3, ty := .ro }
/-- 04_field_io_barrier R180: DO_STAT.READBACK, RO. -/
def Reg.DO_STAT.READBACK : Fld := { base := 0xA2004, stride := 0x10, count := 64, lo := 3, width := 1, ty := .ro }
/-- 04_field_io_barrier R180: DO_STAT.COMMANDED, RO. -/
def Reg.DO_STAT.COMMANDED : Fld := { base := 0xA2004, stride := 0x10, count := 64, lo := 4, width := 1, ty := .ro }
/-- 04_field_io_barrier R180: DO_STAT.PARTNER, RO. -/
def Reg.DO_STAT.PARTNER : Fld := { base := 0xA2004, stride := 0x10, count := 64, lo := 8, width := 6, ty := .ro, reset := fun _ => 63 }
/-- 04_field_io_barrier R180: DO_STAT.RETRIES, RO. -/
def Reg.DO_STAT.RETRIES : Fld := { base := 0xA2004, stride := 0x10, count := 64, lo := 16, width := 4, ty := .ro }
/-- 04_field_io_barrier R180: DO_CUR.CURRENT, RO. -/
def Reg.DO_CUR.CURRENT : Fld := { base := 0xA2008, stride := 0x10, count := 64, lo := 0, width := 16, ty := .ro }
/-- 04_field_io_barrier R180: FLOAT_CFG.ENABLE, RW. -/
def Reg.FLOAT_CFG.ENABLE : Fld := { base := 0xA3000, stride := 0x10, count := 32, lo := 0, width := 1, ty := .rw, ret := true }
/-- 04_field_io_barrier R180: FLOAT_CFG.SAFE, RW. -/
def Reg.FLOAT_CFG.SAFE : Fld := { base := 0xA3000, stride := 0x10, count := 32, lo := 1, width := 2, ty := .rw, ret := true, ok := fun v => v ≤ 2 }
/-- 04_field_io_barrier R180: FLOAT_CFG.RESTORE, RW. -/
def Reg.FLOAT_CFG.RESTORE : Fld := { base := 0xA3000, stride := 0x10, count := 32, lo := 4, width := 2, ty := .rw, ret := true, reset := fun _ => 2, ok := fun v => v ≤ 2 }
/-- 04_field_io_barrier R180: FLOAT_CFG.REV_DEAD, RW. -/
def Reg.FLOAT_CFG.REV_DEAD : Fld := { base := 0xA3000, stride := 0x10, count := 32, lo := 8, width := 8, ty := .rw, ret := true, reset := fun _ => 20, ok := fun v => 1 ≤ v && v ≤ 200 }
/-- 04_field_io_barrier R180: FLOAT_CFG.TRAVEL, RW. -/
def Reg.FLOAT_CFG.TRAVEL : Fld := { base := 0xA3000, stride := 0x10, count := 32, lo := 16, width := 16, ty := .rw, ret := true, reset := fun _ => 1500, ok := fun v => 10 ≤ v && v ≤ 6000 }
/-- 04_field_io_barrier R180: FLOAT_CFG2.DEADBAND, RW. -/
def Reg.FLOAT_CFG2.DEADBAND : Fld := { base := 0xA3004, stride := 0x10, count := 32, lo := 0, width := 7, ty := .rw, ret := true, reset := fun _ => 10, ok := fun v => 5 ≤ v && v ≤ 100 }
/-- 04_field_io_barrier R180: FLOAT_STAT.DRIVE, RO. -/
def Reg.FLOAT_STAT.DRIVE : Fld := { base := 0xA3008, stride := 0x10, count := 32, lo := 0, width := 2, ty := .ro }
/-- 04_field_io_barrier R180: FLOAT_STAT.FAULT, RO. -/
def Reg.FLOAT_STAT.FAULT : Fld := { base := 0xA3008, stride := 0x10, count := 32, lo := 2, width := 1, ty := .ro }
/-- 04_field_io_barrier R180: FLOAT_POS.POS, RO. -/
def Reg.FLOAT_POS.POS : Fld := { base := 0xA300C, stride := 0x10, count := 32, lo := 0, width := 32, ty := .ro }
/-- 05_position_speed R212: POS_CAP.PORTS, RO. -/
def Reg.POS_CAP.PORTS : Fld := { base := 0xB0004, lo := 0, width := 8, ty := .ro, reset := fun _ => 8 }
/-- 05_position_speed R212: POS_CAP.EMU, RO. -/
def Reg.POS_CAP.EMU : Fld := { base := 0xB0004, lo := 8, width := 8, ty := .ro, reset := fun _ => 4 }
/-- 05_position_speed R212: POS_CFG.MODE, RW. -/
def Reg.POS_CFG.MODE : Fld := { base := 0xB0100, stride := 0x40, count := 8, lo := 0, width := 2, ty := .rw, ret := true, ok := fun v => v ≤ 2 }
/-- 05_position_speed R212: POS_CFG.REPORT, RW. -/
def Reg.POS_CFG.REPORT : Fld := { base := 0xB0100, stride := 0x40, count := 8, lo := 2, width := 1, ty := .rw, ret := true }
/-- 05_position_speed R212: POS_CFG.DIR, RW. -/
def Reg.POS_CFG.DIR : Fld := { base := 0xB0100, stride := 0x40, count := 8, lo := 3, width := 1, ty := .rw, ret := true }
/-- 05_position_speed R212: POS_CFG.AVG, RW. -/
def Reg.POS_CFG.AVG : Fld := { base := 0xB0100, stride := 0x40, count := 8, lo := 4, width := 2, ty := .rw, ret := true, reset := fun _ => 1 }
/-- 05_position_speed R212: POS_CFG.FILT, RW. -/
def Reg.POS_CFG.FILT : Fld := { base := 0xB0100, stride := 0x40, count := 8, lo := 8, width := 4, ty := .rw, ret := true, reset := fun _ => 4 }
/-- 05_position_speed R212: POS_CFG.INDEX, RW. -/
def Reg.POS_CFG.INDEX : Fld := { base := 0xB0100, stride := 0x40, count := 8, lo := 12, width := 1, ty := .rw, ret := true }
/-- 05_position_speed R212: POS_CFG.HOME, RW. -/
def Reg.POS_CFG.HOME : Fld := { base := 0xB0100, stride := 0x40, count := 8, lo := 13, width := 1, ty := .rw, ret := true }
/-- 05_position_speed R212: POS_LINES.LINES, RW. -/
def Reg.POS_LINES.LINES : Fld := { base := 0xB0104, stride := 0x40, count := 8, lo := 0, width := 17, ty := .rw, ret := true, reset := fun _ => 1024, ok := fun v => 1 ≤ v && v ≤ 65536 }
/-- 05_position_speed R212: POS_LINES.SINGLE_BITS, RW. -/
def Reg.POS_LINES.SINGLE_BITS : Fld := { base := 0xB0104, stride := 0x40, count := 8, lo := 24, width := 5, ty := .rw, ret := true, reset := fun _ => 12, ok := fun v => 1 ≤ v }
/-- 05_position_speed R212: POS_SCALE.C, RW. -/
def Reg.POS_SCALE.C : Fld := { base := 0xB0108, stride := 0x40, count := 8, lo := 0, width := 32, ty := .rw, ret := true, reset := fun _ => 536870912 }
/-- 05_position_speed R212: POS_SCALE_SH.S, RW. -/
def Reg.POS_SCALE_SH.S : Fld := { base := 0xB010C, stride := 0x40, count := 8, lo := 0, width := 5, ty := .rw, ret := true }
/-- 05_position_speed R212: POS_OFS.OFS, RW. -/
def Reg.POS_OFS.OFS : Fld := { base := 0xB0110, stride := 0x40, count := 8, lo := 0, width := 32, ty := .rw, ret := true }
/-- 05_position_speed R212: POS_SER.BITS, RW. -/
def Reg.POS_SER.BITS : Fld := { base := 0xB0114, stride := 0x40, count := 8, lo := 0, width := 6, ty := .rw, ret := true, reset := fun _ => 25, ok := fun v => 8 ≤ v && v ≤ 40 }
/-- 05_position_speed R212: POS_SER.TRAILER, RW. -/
def Reg.POS_SER.TRAILER : Fld := { base := 0xB0114, stride := 0x40, count := 8, lo := 6, width := 1, ty := .rw, ret := true, reset := fun _ => 1 }
/-- 05_position_speed R212: POS_SER.START, RW. -/
def Reg.POS_SER.START : Fld := { base := 0xB0114, stride := 0x40, count := 8, lo := 7, width := 1, ty := .rw, ret := true, reset := fun _ => 1 }
/-- 05_position_speed R212: POS_SER.GRAY, RW. -/
def Reg.POS_SER.GRAY : Fld := { base := 0xB0114, stride := 0x40, count := 8, lo := 8, width := 1, ty := .rw, ret := true }
/-- 05_position_speed R212: POS_SER.CRC_INV, RW. -/
def Reg.POS_SER.CRC_INV : Fld := { base := 0xB0114, stride := 0x40, count := 8, lo := 9, width := 1, ty := .rw, ret := true, reset := fun _ => 1 }
/-- 05_position_speed R212: POS_SER.EW_LOW, RW. -/
def Reg.POS_SER.EW_LOW : Fld := { base := 0xB0114, stride := 0x40, count := 8, lo := 10, width := 1, ty := .rw, ret := true, reset := fun _ => 1 }
/-- 05_position_speed R212: POS_SER.CLKDIV, RW. -/
def Reg.POS_SER.CLKDIV : Fld := { base := 0xB0114, stride := 0x40, count := 8, lo := 16, width := 16, ty := .rw, ret := true, reset := fun _ => 100, ok := fun v => 50 ≤ v && v ≤ 20000 }
/-- 05_position_speed R212: POS_SER2.TIMEOUT, RW. -/
def Reg.POS_SER2.TIMEOUT : Fld := { base := 0xB0118, stride := 0x40, count := 8, lo := 0, width := 8, ty := .rw, ret := true, reset := fun _ => 20, ok := fun v => 1 ≤ v }
/-- 05_position_speed R212: POS_SER2.READ_INT, RW. -/
def Reg.POS_SER2.READ_INT : Fld := { base := 0xB0118, stride := 0x40, count := 8, lo := 8, width := 8, ty := .rw, ret := true, reset := fun _ => 10, ok := fun v => 1 ≤ v && v ≤ 100 }
/-- 05_position_speed R212: POS_SER2.ERR_LIMIT, RW. -/
def Reg.POS_SER2.ERR_LIMIT : Fld := { base := 0xB0118, stride := 0x40, count := 8, lo := 16, width := 4, ty := .rw, ret := true, reset := fun _ => 3, ok := fun v => 1 ≤ v }
/-- 05_position_speed R212: POS_CHECK.TOL, RW. -/
def Reg.POS_CHECK.TOL : Fld := { base := 0xB011C, stride := 0x40, count := 8, lo := 0, width := 8, ty := .rw, ret := true, reset := fun _ => 2 }
/-- 05_position_speed R212: POS_CHECK.REVS, RW. -/
def Reg.POS_CHECK.REVS : Fld := { base := 0xB011C, stride := 0x40, count := 8, lo := 8, width := 4, ty := .rw, ret := true, reset := fun _ => 2, ok := fun v => 1 ≤ v }
/-- 05_position_speed R212: POS_CHECK.AT_START, RW. -/
def Reg.POS_CHECK.AT_START : Fld := { base := 0xB011C, stride := 0x40, count := 8, lo := 12, width := 1, ty := .rw, ret := true, reset := fun _ => 1 }
/-- 05_position_speed R212: POS_CHECK.AT_RECOVER, RW. -/
def Reg.POS_CHECK.AT_RECOVER : Fld := { base := 0xB011C, stride := 0x40, count := 8, lo := 13, width := 1, ty := .rw, ret := true, reset := fun _ => 1 }
/-- 05_position_speed R212: POS_STANDSTILL.TIME, RW. -/
def Reg.POS_STANDSTILL.TIME : Fld := { base := 0xB0120, stride := 0x40, count := 8, lo := 0, width := 16, ty := .rw, ret := true, reset := fun _ => 500, ok := fun v => 1 ≤ v && v ≤ 60000 }
/-- 05_position_speed R212: POS_STAT.FLAGS, RO. -/
def Reg.POS_STAT.FLAGS : Fld := { base := 0xB0124, stride := 0x40, count := 8, lo := 0, width := 8, ty := .ro }
/-- 05_position_speed R212: POS_ERR.FAULTED, RO. -/
def Reg.POS_ERR.FAULTED : Fld := { base := 0xB0128, stride := 0x40, count := 8, lo := 0, width := 16, ty := .ro }
/-- 05_position_speed R212: POS_VAL.VALUE, RO. -/
def Reg.POS_VAL.VALUE : Fld := { base := 0xB0130, stride := 0x40, count := 8, lo := 0, width := 64, ty := .ro }
/-- 05_position_speed R212: POS_SECOND.VALUE, RO. -/
def Reg.POS_SECOND.VALUE : Fld := { base := 0xB0138, stride := 0x40, count := 8, lo := 0, width := 64, ty := .ro }
/-- 05_position_speed R212: EMU_CFG.ENABLE, RW. -/
def Reg.EMU_CFG.ENABLE : Fld := { base := 0xB0400, stride := 0x10, count := 4, lo := 0, width := 1, ty := .rw, ret := true }
/-- 05_position_speed R212: EMU_CFG.SAFE, RW. -/
def Reg.EMU_CFG.SAFE : Fld := { base := 0xB0400, stride := 0x10, count := 4, lo := 1, width := 1, ty := .rw, ret := true }
/-- 05_position_speed R212: EMU_CFG.SRC, RW. -/
def Reg.EMU_CFG.SRC : Fld := { base := 0xB0400, stride := 0x10, count := 4, lo := 8, width := 2, ty := .rw, ret := true }
/-- 05_position_speed R212: EMU_CFG.LAG_MAX, RW. -/
def Reg.EMU_CFG.LAG_MAX : Fld := { base := 0xB0400, stride := 0x10, count := 4, lo := 16, width := 8, ty := .rw, ret := true, reset := fun _ => 16, ok := fun v => 1 ≤ v }
/-- 05_position_speed R212: EMU_LINES.LINES, RW. -/
def Reg.EMU_LINES.LINES : Fld := { base := 0xB0404, stride := 0x10, count := 4, lo := 0, width := 17, ty := .rw, ret := true, reset := fun _ => 1024, ok := fun v => 1 ≤ v && v ≤ 65536 }
/-- 05_position_speed R212: EMU_STAT.FLAGS, RO. -/
def Reg.EMU_STAT.FLAGS : Fld := { base := 0xB0408, stride := 0x10, count := 4, lo := 0, width := 4, ty := .ro }
/-- 05_position_speed R212: EMU_STAT.LAG, RO. -/
def Reg.EMU_STAT.LAG : Fld := { base := 0xB0408, stride := 0x10, count := 4, lo := 8, width := 8, ty := .ro }
/-- 06_pattern_engine R261: PAT_CAP.NODES, RO. -/
def Reg.PAT_CAP.NODES : Fld := { base := 0x70004, lo := 0, width := 16, ty := .ro, reset := fun _ => 4096 }
/-- 06_pattern_engine R261: PAT_CAP.BINDINGS, RO. -/
def Reg.PAT_CAP.BINDINGS : Fld := { base := 0x70004, lo := 16, width := 11, ty := .ro, reset := fun _ => 1024 }
/-- 06_pattern_engine R261: PAT_CAP.MACS, RO. -/
def Reg.PAT_CAP.MACS : Fld := { base := 0x70004, lo := 27, width := 5, ty := .ro, reset := fun _ => 8 }
/-- 06_pattern_engine R261: PAT_CTRL.RUN, RW. -/
def Reg.PAT_CTRL.RUN : Fld := { base := 0x70008, lo := 0, width := 1, ty := .rw, ret := true }
/-- 06_pattern_engine R261: PAT_CTRL.ADAPT_HOLD, RW. -/
def Reg.PAT_CTRL.ADAPT_HOLD : Fld := { base := 0x70008, lo := 1, width := 1, ty := .rw, ret := true }
/-- 06_pattern_engine R261: PAT_STAT.RUNNING, RO. -/
def Reg.PAT_STAT.RUNNING : Fld := { base := 0x7000C, lo := 0, width := 1, ty := .ro }
/-- 06_pattern_engine R261: PAT_STAT.LOADING, RO. -/
def Reg.PAT_STAT.LOADING : Fld := { base := 0x7000C, lo := 1, width := 1, ty := .ro }
/-- 06_pattern_engine R261: PAT_STAT.TABLE_FAULT, RO. -/
def Reg.PAT_STAT.TABLE_FAULT : Fld := { base := 0x7000C, lo := 2, width := 1, ty := .ro }
/-- 06_pattern_engine R261: PAT_STAT.PREDICTING, RO. -/
def Reg.PAT_STAT.PREDICTING : Fld := { base := 0x7000C, lo := 3, width := 1, ty := .ro }
/-- 06_pattern_engine R261: PAT_STAT.MODEL_VALID, RO. -/
def Reg.PAT_STAT.MODEL_VALID : Fld := { base := 0x7000C, lo := 4, width := 1, ty := .ro, ret := true }
/-- 06_pattern_engine R261: PAT_STAT.CATCHUP, RO. -/
def Reg.PAT_STAT.CATCHUP : Fld := { base := 0x7000C, lo := 5, width := 1, ty := .ro }
/-- 06_pattern_engine R261: PAT_REGION.BASE, RO. -/
def Reg.PAT_REGION.BASE : Fld := { base := 0x70010, lo := 0, width := 19, ty := .ro }
/-- 06_pattern_engine R261: PAT_CONTRACT.E, RO. -/
def Reg.PAT_CONTRACT.E : Fld := { base := 0x70014, lo := 0, width := 16, ty := .ro, ret := true }
/-- 06_pattern_engine R261: PAT_CONTRACT.RHO_MAX, RO. -/
def Reg.PAT_CONTRACT.RHO_MAX : Fld := { base := 0x70014, lo := 16, width := 16, ty := .ro, ret := true }
/-- 06_pattern_engine R261: PAT_STEP_COUNT.STEPS, RO. -/
def Reg.PAT_STEP_COUNT.STEPS : Fld := { base := 0x70018, lo := 0, width := 32, ty := .ro }
/-- 06_pattern_engine R261: PAT_MISSED.MISSED, RO. -/
def Reg.PAT_MISSED.MISSED : Fld := { base := 0x7001C, lo := 0, width := 32, ty := .ro }
/-- 06_pattern_engine R261: PAT_WORK.CYCLES, RO. -/
def Reg.PAT_WORK.CYCLES : Fld := { base := 0x70020, lo := 0, width := 32, ty := .ro }
/-- 06_pattern_engine R261: PAT_MODEL_ID.CRC, RO. -/
def Reg.PAT_MODEL_ID.CRC : Fld := { base := 0x70024, lo := 0, width := 32, ty := .ro, ret := true }
/-- 06_pattern_engine R261: PAT_LAST_START.TICK, RO. -/
def Reg.PAT_LAST_START.TICK : Fld := { base := 0x70028, lo := 0, width := 64, ty := .ro }
/-- 06_pattern_engine R261: PAT_PRED_BASE.TICK, RO. -/
def Reg.PAT_PRED_BASE.TICK : Fld := { base := 0x70030, lo := 0, width := 64, ty := .ro }
/-- 06_pattern_engine R261: PAT_SUSPECT.COUNT, RO. -/
def Reg.PAT_SUSPECT.COUNT : Fld := { base := 0x70038, lo := 0, width := 13, ty := .ro }
/-- 06_pattern_engine R261: PAT_NODE_VAL.VALUE, RO. -/
def Reg.PAT_NODE_VAL.VALUE : Fld := { base := 0x78000, stride := 0x8, count := 4096, lo := 0, width := 64, ty := .ro }
/-- 07_loop_engine R313: LOOP_CAP.LOOPS, RO. -/
def Reg.LOOP_CAP.LOOPS : Fld := { base := 0x60004, lo := 0, width := 10, ty := .ro, reset := fun _ => 512 }
/-- 07_loop_engine R313: LOOP_CAP.SECTIONS, RO. -/
def Reg.LOOP_CAP.SECTIONS : Fld := { base := 0x60004, lo := 10, width := 12, ty := .ro, reset := fun _ => 2048 }
/-- 07_loop_engine R313: LOOP_CAP.LANES, RO. -/
def Reg.LOOP_CAP.LANES : Fld := { base := 0x60004, lo := 22, width := 3, ty := .ro, reset := fun _ => 4 }
/-- 07_loop_engine R313: LOOP_CAP.CHALK, RO. -/
def Reg.LOOP_CAP.CHALK : Fld := { base := 0x60004, lo := 25, width := 7, ty := .ro, reset := fun _ => 64 }
/-- 07_loop_engine R313: LOOP_CTRL.RUN, RW. -/
def Reg.LOOP_CTRL.RUN : Fld := { base := 0x60008, lo := 0, width := 1, ty := .rw, ret := true }
/-- 07_loop_engine R313: LOOP_STAT.RUNNING, RO. -/
def Reg.LOOP_STAT.RUNNING : Fld := { base := 0x6000C, lo := 0, width := 1, ty := .ro }
/-- 07_loop_engine R313: LOOP_STAT.DIP, RO. -/
def Reg.LOOP_STAT.DIP : Fld := { base := 0x6000C, lo := 1, width := 1, ty := .ro }
/-- 07_loop_engine R313: LOOP_STAT.SETTING, RO. -/
def Reg.LOOP_STAT.SETTING : Fld := { base := 0x6000C, lo := 2, width := 1, ty := .ro }
/-- 07_loop_engine R313: LOOP_STAT.HELD, RO. -/
def Reg.LOOP_STAT.HELD : Fld := { base := 0x6000C, lo := 16, width := 10, ty := .ro }
/-- 07_loop_engine R313: LOOP_REGION.BASE, RO. -/
def Reg.LOOP_REGION.BASE : Fld := { base := 0x60010, lo := 0, width := 19, ty := .ro }
/-- 07_loop_engine R313: LOOP_POOL.USED, RO. -/
def Reg.LOOP_POOL.USED : Fld := { base := 0x60014, lo := 0, width := 12, ty := .ro }
/-- 07_loop_engine R313: LOOP_MISSED.MISSED, RO. -/
def Reg.LOOP_MISSED.MISSED : Fld := { base := 0x60018, lo := 0, width := 32, ty := .ro }
/-- 07_loop_engine R313: LOOP_ADMITTED.COUNT, RO. -/
def Reg.LOOP_ADMITTED.COUNT : Fld := { base := 0x6001C, lo := 0, width := 10, ty := .ro }
/-- 07_loop_engine R313: LOOP_LANE_LOAD.PROVEN, RO. -/
def Reg.LOOP_LANE_LOAD.PROVEN : Fld := { base := 0x60020, stride := 0x4, count := 4, lo := 0, width := 12, ty := .ro }
/-- 07_loop_engine R313: LOOP_LANE_LOAD.LOOPS, RO. -/
def Reg.LOOP_LANE_LOAD.LOOPS : Fld := { base := 0x60020, stride := 0x4, count := 4, lo := 16, width := 10, ty := .ro }
/-- 07_loop_engine R313: CHALK_REGION.BASE, RO. -/
def Reg.CHALK_REGION.BASE : Fld := { base := 0x60030, lo := 0, width := 19, ty := .ro }
/-- 07_loop_engine R313: LOOP_SLOT_STAT.STATE, RO. -/
def Reg.LOOP_SLOT_STAT.STATE : Fld := { base := 0x61000, stride := 0x10, count := 512, lo := 0, width := 3, ty := .ro }
/-- 07_loop_engine R313: LOOP_SLOT_STAT.MODE, RO. -/
def Reg.LOOP_SLOT_STAT.MODE : Fld := { base := 0x61000, stride := 0x10, count := 512, lo := 4, width := 2, ty := .ro }
/-- 07_loop_engine R313: LOOP_SLOT_STAT.LANE, RO. -/
def Reg.LOOP_SLOT_STAT.LANE : Fld := { base := 0x61000, stride := 0x10, count := 512, lo := 6, width := 2, ty := .ro }
/-- 07_loop_engine R313: LOOP_SLOT_STAT.HOLD_CAUSE, RO. -/
def Reg.LOOP_SLOT_STAT.HOLD_CAUSE : Fld := { base := 0x61000, stride := 0x10, count := 512, lo := 8, width := 3, ty := .ro }
/-- 07_loop_engine R313: LOOP_SLOT_STAT.FE_ACTIVE, RO. -/
def Reg.LOOP_SLOT_STAT.FE_ACTIVE : Fld := { base := 0x61000, stride := 0x10, count := 512, lo := 11, width := 1, ty := .ro }
/-- 07_loop_engine R313: LOOP_SLOT_STAT.OVERRIDE, RO. -/
def Reg.LOOP_SLOT_STAT.OVERRIDE : Fld := { base := 0x61000, stride := 0x10, count := 512, lo := 12, width := 1, ty := .ro }
/-- 07_loop_engine R313: LOOP_SLOT_STAT.SATURATED, RO. -/
def Reg.LOOP_SLOT_STAT.SATURATED : Fld := { base := 0x61000, stride := 0x10, count := 512, lo := 13, width := 1, ty := .ro }
/-- 07_loop_engine R313: LOOP_SLOT_STAT.SUBSTITUTING, RO. -/
def Reg.LOOP_SLOT_STAT.SUBSTITUTING : Fld := { base := 0x61000, stride := 0x10, count := 512, lo := 14, width := 1, ty := .ro }
/-- 07_loop_engine R313: LOOP_SLOT_STAT.STALE_RUN, RO. -/
def Reg.LOOP_SLOT_STAT.STALE_RUN : Fld := { base := 0x61000, stride := 0x10, count := 512, lo := 16, width := 8, ty := .ro }
/-- 07_loop_engine R313: LOOP_SLOT_CNT.LATE, RO. -/
def Reg.LOOP_SLOT_CNT.LATE : Fld := { base := 0x61004, stride := 0x10, count := 512, lo := 0, width := 16, ty := .ro }
/-- 07_loop_engine R313: LOOP_SLOT_CNT.COST, RO. -/
def Reg.LOOP_SLOT_CNT.COST : Fld := { base := 0x61004, stride := 0x10, count := 512, lo := 16, width := 9, ty := .ro }
/-- 07_loop_engine R313: LOOP_OUT.VALUE, RO. -/
def Reg.LOOP_OUT.VALUE : Fld := { base := 0x61008, stride := 0x10, count := 512, lo := 0, width := 64, ty := .ro }
/-- 07_loop_engine R313: CHALK_STAT.ARMED, RO. -/
def Reg.CHALK_STAT.ARMED : Fld := { base := 0x63000, stride := 0x10, count := 64, lo := 0, width := 1, ty := .ro }
/-- 07_loop_engine R313: CHALK_STAT.TRIGGERED, RO. -/
def Reg.CHALK_STAT.TRIGGERED : Fld := { base := 0x63000, stride := 0x10, count := 64, lo := 1, width := 1, ty := .ro }
/-- 07_loop_engine R313: CHALK_STAT.MODE, RO. -/
def Reg.CHALK_STAT.MODE : Fld := { base := 0x63000, stride := 0x10, count := 64, lo := 2, width := 2, ty := .ro }
/-- 07_loop_engine R313: CHALK_STAT.RING, RO. -/
def Reg.CHALK_STAT.RING : Fld := { base := 0x63000, stride := 0x10, count := 64, lo := 4, width := 2, ty := .ro }
/-- 07_loop_engine R313: CHALK_STAT.LOOP, RO. -/
def Reg.CHALK_STAT.LOOP : Fld := { base := 0x63000, stride := 0x10, count := 64, lo := 16, width := 9, ty := .ro }
/-- 07_loop_engine R313: CHALK_BUF.OFFSET, RO. -/
def Reg.CHALK_BUF.OFFSET : Fld := { base := 0x63004, stride := 0x10, count := 64, lo := 0, width := 18, ty := .ro }
/-- 07_loop_engine R313: CHALK_SIZE.WORDS, RO. -/
def Reg.CHALK_SIZE.WORDS : Fld := { base := 0x63008, stride := 0x10, count := 64, lo := 0, width := 18, ty := .ro }
/-- 07_loop_engine R313: CHALK_COUNT.STREAMED, RO. -/
def Reg.CHALK_COUNT.STREAMED : Fld := { base := 0x6300C, stride := 0x10, count := 64, lo := 0, width := 16, ty := .ro }
/-- 07_loop_engine R313: CHALK_COUNT.DROPPED, RO. -/
def Reg.CHALK_COUNT.DROPPED : Fld := { base := 0x6300C, stride := 0x10, count := 64, lo := 16, width := 16, ty := .ro }
/-- 08_schedules_occupancy R334: SCHED_STAT.CIVIL_VALID, RO. -/
def Reg.SCHED_STAT.CIVIL_VALID : Fld := { base := 0x64000, lo := 0, width := 1, ty := .ro, ret := true }
/-- 08_schedules_occupancy R334: SCHED_STAT.HELD, RO. -/
def Reg.SCHED_STAT.HELD : Fld := { base := 0x64000, lo := 1, width := 1, ty := .ro }
/-- 08_schedules_occupancy R334: SCHED_STAT.PROGRAMS, RO. -/
def Reg.SCHED_STAT.PROGRAMS : Fld := { base := 0x64000, lo := 8, width := 9, ty := .ro, ret := true }
/-- 08_schedules_occupancy R334: SCHED_STAT.ZONES, RO. -/
def Reg.SCHED_STAT.ZONES : Fld := { base := 0x64000, lo := 24, width := 7, ty := .ro, ret := true }
/-- 08_schedules_occupancy R334: SCHED_STAT.ZONES_FULL, RO. -/
def Reg.SCHED_STAT.ZONES_FULL : Fld := { base := 0x64000, lo := 31, width := 1, ty := .ro, ret := true }
/-- 08_schedules_occupancy R334: SCHED_VAL.VALUE, RO. -/
def Reg.SCHED_VAL.VALUE : Fld := { base := 0x65000, stride := 0x8, count := 256, lo := 0, width := 64, ty := .ro }
/-- 08_schedules_occupancy R334: ZONE_STAT.LEVEL, RO. -/
def Reg.ZONE_STAT.LEVEL : Fld := { base := 0x66000, stride := 0x10, count := 128, lo := 0, width := 2, ty := .ro }
/-- 08_schedules_occupancy R334: ZONE_STAT.OCCUPIED, RO. -/
def Reg.ZONE_STAT.OCCUPIED : Fld := { base := 0x66000, stride := 0x10, count := 128, lo := 2, width := 1, ty := .ro }
/-- 08_schedules_occupancy R334: ZONE_STAT.OVERRIDE, RO. -/
def Reg.ZONE_STAT.OVERRIDE : Fld := { base := 0x66000, stride := 0x10, count := 128, lo := 3, width := 1, ty := .ro, ret := true }
/-- 08_schedules_occupancy R334: ZONE_STAT.OPT_ACTIVE, RO. -/
def Reg.ZONE_STAT.OPT_ACTIVE : Fld := { base := 0x66000, stride := 0x10, count := 128, lo := 4, width := 1, ty := .ro }
/-- 08_schedules_occupancy R334: ZONE_STAT.NOSCHED_USED, RO. -/
def Reg.ZONE_STAT.NOSCHED_USED : Fld := { base := 0x66000, stride := 0x10, count := 128, lo := 5, width := 1, ty := .ro }
/-- 08_schedules_occupancy R334: ZONE_STAT.CAUSE, RO. -/
def Reg.ZONE_STAT.CAUSE : Fld := { base := 0x66000, stride := 0x10, count := 128, lo := 8, width := 3, ty := .ro }
/-- 08_schedules_occupancy R334: ZONE_STAT.OVR_LEFT, RO. -/
def Reg.ZONE_STAT.OVR_LEFT : Fld := { base := 0x66000, stride := 0x10, count := 128, lo := 16, width := 16, ty := .ro, ret := true }
/-- 08_schedules_occupancy R334: ZONE_VAL.VALUE, RO. -/
def Reg.ZONE_VAL.VALUE : Fld := { base := 0x66008, stride := 0x10, count := 128, lo := 0, width := 64, ty := .ro }
/-- 09_valve_drive_shuttle R374: SHUTTLE_CAP.BANKS, RO. -/
def Reg.SHUTTLE_CAP.BANKS : Fld := { base := 0x80004, lo := 0, width := 8, ty := .ro, reset := fun _ => 8 }
/-- 09_valve_drive_shuttle R374: SHUTTLE_CAP.CHANNELS, RO. -/
def Reg.SHUTTLE_CAP.CHANNELS : Fld := { base := 0x80004, lo := 8, width := 8, ty := .ro, reset := fun _ => 32 }
/-- 09_valve_drive_shuttle R374: SHUTTLE_CAP.TOKENS, RO. -/
def Reg.SHUTTLE_CAP.TOKENS : Fld := { base := 0x80004, lo := 16, width := 4, ty := .ro, reset := fun _ => 8 }
/-- 09_valve_drive_shuttle R374: SHUTTLE_CAP.CODE_WORDS, RO. -/
def Reg.SHUTTLE_CAP.CODE_WORDS : Fld := { base := 0x80004, lo := 20, width := 12, ty := .ro, reset := fun _ => 256 }
/-- 09_valve_drive_shuttle R374: SHUTTLE_STAT.LOADING, RO. -/
def Reg.SHUTTLE_STAT.LOADING : Fld := { base := 0x80008, lo := 0, width := 8, ty := .ro }
/-- 09_valve_drive_shuttle R374: SHUTTLE_TOKENS.FREE_A, RO. -/
def Reg.SHUTTLE_TOKENS.FREE_A : Fld := { base := 0x8000C, lo := 0, width := 4, ty := .ro, reset := fun _ => 8 }
/-- 09_valve_drive_shuttle R374: SHUTTLE_TOKENS.FREE_B, RO. -/
def Reg.SHUTTLE_TOKENS.FREE_B : Fld := { base := 0x8000C, lo := 8, width := 4, ty := .ro, reset := fun _ => 8 }
/-- 09_valve_drive_shuttle R374: SHUTTLE_TOKENS.AUDIT_FAIL_A, RO. -/
def Reg.SHUTTLE_TOKENS.AUDIT_FAIL_A : Fld := { base := 0x8000C, lo := 16, width := 1, ty := .ro }
/-- 09_valve_drive_shuttle R374: SHUTTLE_TOKENS.AUDIT_FAIL_B, RO. -/
def Reg.SHUTTLE_TOKENS.AUDIT_FAIL_B : Fld := { base := 0x8000C, lo := 17, width := 1, ty := .ro }
/-- 09_valve_drive_shuttle R374: BANK_CFG.PEAK_OVERLAP, RW. -/
def Reg.BANK_CFG.PEAK_OVERLAP : Fld := { base := 0x80100, stride := 0x20, count := 8, lo := 0, width := 1, ty := .rw, ret := true }
/-- 09_valve_drive_shuttle R374: BANK_CFG.PAIR01, RW. -/
def Reg.BANK_CFG.PAIR01 : Fld := { base := 0x80100, stride := 0x20, count := 8, lo := 1, width := 1, ty := .rw, ret := true }
/-- 09_valve_drive_shuttle R374: BANK_CFG.PAIR23, RW. -/
def Reg.BANK_CFG.PAIR23 : Fld := { base := 0x80100, stride := 0x20, count := 8, lo := 2, width := 1, ty := .rw, ret := true }
/-- 09_valve_drive_shuttle R374: BANK_CFG.CHOP_FREQ, RW. -/
def Reg.BANK_CFG.CHOP_FREQ : Fld := { base := 0x80100, stride := 0x20, count := 8, lo := 8, width := 8, ty := .rw, ret := true, reset := fun _ => 20, ok := fun v => 10 ≤ v && v ≤ 40 }
/-- 09_valve_drive_shuttle R374: BANK_CFG.PEAK_WAIT, RW. -/
def Reg.BANK_CFG.PEAK_WAIT : Fld := { base := 0x80100, stride := 0x20, count := 8, lo := 16, width := 16, ty := .rw, ret := true, reset := fun _ => 500, ok := fun v => v ≤ 2000 }
/-- 09_valve_drive_shuttle R374: BANK_CFG2.PEAK_MAX, RW. -/
def Reg.BANK_CFG2.PEAK_MAX : Fld := { base := 0x80104, stride := 0x20, count := 8, lo := 0, width := 10, ty := .rw, ret := true, reset := fun _ => 200, ok := fun v => 1 ≤ v && v ≤ 1000 }
/-- 09_valve_drive_shuttle R374: BANK_STAT.STATE, RO. -/
def Reg.BANK_STAT.STATE : Fld := { base := 0x80108, stride := 0x20, count := 8, lo := 0, width := 2, ty := .ro }
/-- 09_valve_drive_shuttle R374: BANK_STAT.BANK_FAULT, RO. -/
def Reg.BANK_STAT.BANK_FAULT : Fld := { base := 0x80108, stride := 0x20, count := 8, lo := 2, width := 1, ty := .ro }
/-- 09_valve_drive_shuttle R374: BANK_STAT.WAITING, RO. -/
def Reg.BANK_STAT.WAITING : Fld := { base := 0x80108, stride := 0x20, count := 8, lo := 4, width := 3, ty := .ro }
/-- 09_valve_drive_shuttle R374: BANK_STAT.LOAD_PENDING, RO. -/
def Reg.BANK_STAT.LOAD_PENDING : Fld := { base := 0x80108, stride := 0x20, count := 8, lo := 7, width := 1, ty := .ro }
/-- 09_valve_drive_shuttle R374: BANK_STAT.TOKENS, RO. -/
def Reg.BANK_STAT.TOKENS : Fld := { base := 0x80108, stride := 0x20, count := 8, lo := 8, width := 4, ty := .ro }
/-- 09_valve_drive_shuttle R374: BANK_SKIPPED.SKIPPED, RO. -/
def Reg.BANK_SKIPPED.SKIPPED : Fld := { base := 0x8010C, stride := 0x20, count := 8, lo := 0, width := 32, ty := .ro }
/-- 09_valve_drive_shuttle R374: BANK_LIB_ID.CRC, RO. -/
def Reg.BANK_LIB_ID.CRC : Fld := { base := 0x80110, stride := 0x20, count := 8, lo := 0, width := 32, ty := .ro, ret := true }
/-- 09_valve_drive_shuttle R374: SOL_CFG.SAFE, RW. -/
def Reg.SOL_CFG.SAFE : Fld := { base := 0x81000, stride := 0x40, count := 32, lo := 0, width := 2, ty := .rw, ret := true, ok := fun v => v ≤ 2 }
/-- 09_valve_drive_shuttle R374: SOL_CFG.RESTORE, RW. -/
def Reg.SOL_CFG.RESTORE : Fld := { base := 0x81000, stride := 0x40, count := 32, lo := 2, width := 2, ty := .rw, ret := true, reset := fun _ => 2, ok := fun v => v ≤ 2 }
/-- 09_valve_drive_shuttle R374: SOL_CFG.PROGRAM, RW. -/
def Reg.SOL_CFG.PROGRAM : Fld := { base := 0x81000, stride := 0x40, count := 32, lo := 4, width := 3, ty := .rw, ret := true }
/-- 09_valve_drive_shuttle R374: SOL_CFG.TTP_ACTION, RW. -/
def Reg.SOL_CFG.TTP_ACTION : Fld := { base := 0x81000, stride := 0x40, count := 32, lo := 8, width := 2, ty := .rw, ret := true, ok := fun v => v ≤ 2 }
/-- 09_valve_drive_shuttle R374: SOL_CFG.TTP_CHECK, RW. -/
def Reg.SOL_CFG.TTP_CHECK : Fld := { base := 0x81000, stride := 0x40, count := 32, lo := 10, width := 1, ty := .rw, ret := true }
/-- 09_valve_drive_shuttle R374: SOL_TTP.TMIN, RW. -/
def Reg.SOL_TTP.TMIN : Fld := { base := 0x81004, stride := 0x40, count := 32, lo := 0, width := 16, ty := .rw, ret := true }
/-- 09_valve_drive_shuttle R374: SOL_TTP.TMAX, RW. -/
def Reg.SOL_TTP.TMAX : Fld := { base := 0x81004, stride := 0x40, count := 32, lo := 16, width := 16, ty := .rw, ret := true, reset := fun _ => 65533 }
/-- 09_valve_drive_shuttle R374: SOL_TTP_COMM.TMIN_COMM, RW. -/
def Reg.SOL_TTP_COMM.TMIN_COMM : Fld := { base := 0x81008, stride := 0x40, count := 32, lo := 0, width := 16, ty := .rw, ret := true }
/-- 09_valve_drive_shuttle R374: SOL_TTP_COMM.TMAX_COMM, RW. -/
def Reg.SOL_TTP_COMM.TMAX_COMM : Fld := { base := 0x81008, stride := 0x40, count := 32, lo := 16, width := 16, ty := .rw, ret := true }
/-- 09_valve_drive_shuttle R374: SOL_STAT.STATE, RO. -/
def Reg.SOL_STAT.STATE : Fld := { base := 0x8100C, stride := 0x40, count := 32, lo := 0, width := 8, ty := .ro }
/-- 09_valve_drive_shuttle R374: SOL_STAT.FAULT_CAUSE, RO. -/
def Reg.SOL_STAT.FAULT_CAUSE : Fld := { base := 0x8100C, stride := 0x40, count := 32, lo := 8, width := 8, ty := .ro }
/-- 09_valve_drive_shuttle R374: SOL_STAT.LAST_TTP, RO. -/
def Reg.SOL_STAT.LAST_TTP : Fld := { base := 0x8100C, stride := 0x40, count := 32, lo := 16, width := 16, ty := .ro, reset := fun _ => 65535 }
/-- 09_valve_drive_shuttle R374: SOL_FAULTS.TTP, RO. -/
def Reg.SOL_FAULTS.TTP : Fld := { base := 0x81010, stride := 0x40, count := 32, lo := 0, width := 16, ty := .ro }
/-- 09_valve_drive_shuttle R374: SOL_FAULTS.SKIPPED, RO. -/
def Reg.SOL_FAULTS.SKIPPED : Fld := { base := 0x81010, stride := 0x40, count := 32, lo := 16, width := 16, ty := .ro }
/-- 09_valve_drive_shuttle R374: SOL_P.VALUE, RW. -/
def Reg.SOL_P.VALUE : Fld := { base := 0x81020, stride := 0x40, count := 256, per := 8, stride2 := 0x4, lo := 0, width := 32, ty := .rw, ret := true, reset := fun i => [1000, 300, 1000, 20000, 0, 100, 0, 0].getD (i % 8) 0 }
/-- 09_valve_drive_shuttle R374: SHUTTLE_ENTRY.ENTRY, RW. -/
def Reg.SHUTTLE_ENTRY.ENTRY : Fld := { base := 0x82000, stride := 0x40, count := 64, per := 8, stride2 := 0x4, lo := 0, width := 9, ty := .rw, ret := true, reset := fun i => [0x100, 0x110, 0x120, 0x130, 0x140, 0x150, 0x100, 0x100].getD (i % 8) 0 }
/-- 09_valve_drive_shuttle R374: SHUTTLE_ENTRY.RELEASE, RW. -/
def Reg.SHUTTLE_ENTRY.RELEASE : Fld := { base := 0x82000, stride := 0x40, count := 64, per := 8, stride2 := 0x4, lo := 16, width := 9, ty := .rw, ret := true, reset := fun i => [0x106, 0x117, 0x126, 0x13C, 0x145, 0x15A, 0x106, 0x106].getD (i % 8) 0 }
/-- 09_valve_drive_shuttle R374: SHUTTLE_CODE.WORD, RO. -/
def Reg.SHUTTLE_CODE.WORD : Fld := { base := 0x84000, stride := 0x4, count := 2048, lo := 0, width := 32, ty := .ro, ret := true }
/-- 10_fans_analogue_floating R399: FANAO_CAP.FANS, RO. -/
def Reg.FANAO_CAP.FANS : Fld := { base := 0x90004, lo := 0, width := 8, ty := .ro, reset := fun _ => 32 }
/-- 10_fans_analogue_floating R399: FANAO_CAP.AOS, RO. -/
def Reg.FANAO_CAP.AOS : Fld := { base := 0x90004, lo := 8, width := 8, ty := .ro, reset := fun _ => 32 }
/-- 10_fans_analogue_floating R399: FAN_CFG.PWM_EN, RW. -/
def Reg.FAN_CFG.PWM_EN : Fld := { base := 0x90100, stride := 0x40, count := 32, lo := 0, width := 1, ty := .rw, ret := true, reset := fun _ => 1 }
/-- 10_fans_analogue_floating R399: FAN_CFG.INVERT, RW. -/
def Reg.FAN_CFG.INVERT : Fld := { base := 0x90100, stride := 0x40, count := 32, lo := 1, width := 1, ty := .rw, ret := true }
/-- 10_fans_analogue_floating R399: FAN_CFG.TACH, RW. -/
def Reg.FAN_CFG.TACH : Fld := { base := 0x90100, stride := 0x40, count := 32, lo := 2, width := 1, ty := .rw, ret := true, reset := fun _ => 1 }
/-- 10_fans_analogue_floating R399: FAN_CFG.KICK, RW. -/
def Reg.FAN_CFG.KICK : Fld := { base := 0x90100, stride := 0x40, count := 32, lo := 3, width := 1, ty := .rw, ret := true, reset := fun _ => 1 }
/-- 10_fans_analogue_floating R399: FAN_CFG.SAFE, RW. -/
def Reg.FAN_CFG.SAFE : Fld := { base := 0x90100, stride := 0x40, count := 32, lo := 4, width := 2, ty := .rw, ret := true }
/-- 10_fans_analogue_floating R399: FAN_CFG.RESTORE, RW. -/
def Reg.FAN_CFG.RESTORE : Fld := { base := 0x90100, stride := 0x40, count := 32, lo := 6, width := 2, ty := .rw, ret := true, reset := fun _ => 2, ok := fun v => v ≤ 2 }
/-- 10_fans_analogue_floating R399: FAN_CFG.AO_LINK, RW. -/
def Reg.FAN_CFG.AO_LINK : Fld := { base := 0x90100, stride := 0x40, count := 32, lo := 8, width := 5, ty := .rw, ret := true, reset := fun _ => 31, ok := fun v => v ≤ 15 || v == 31 }
/-- 10_fans_analogue_floating R399: FAN_TIMING.PWM_FREQ, RW. -/
def Reg.FAN_TIMING.PWM_FREQ : Fld := { base := 0x90104, stride := 0x40, count := 32, lo := 0, width := 7, ty := .rw, ret := true, reset := fun _ => 25, ok := fun v => 1 ≤ v && v ≤ 100 }
/-- 10_fans_analogue_floating R399: FAN_TIMING.PPR, RW. -/
def Reg.FAN_TIMING.PPR : Fld := { base := 0x90104, stride := 0x40, count := 32, lo := 8, width := 3, ty := .rw, ret := true, reset := fun _ => 2, ok := fun v => 1 ≤ v }
/-- 10_fans_analogue_floating R399: FAN_TIMING.KICK_TIME, RW. -/
def Reg.FAN_TIMING.KICK_TIME : Fld := { base := 0x90104, stride := 0x40, count := 32, lo := 16, width := 7, ty := .rw, ret := true, reset := fun _ => 30, ok := fun v => 5 ≤ v && v ≤ 100 }
/-- 10_fans_analogue_floating R399: FAN_DIAG.SUPPLY_DO, RW. -/
def Reg.FAN_DIAG.SUPPLY_DO : Fld := { base := 0x90108, stride := 0x40, count := 32, lo := 0, width := 6, ty := .rw, ret := true, reset := fun _ => 63, ok := fun v => v ≤ 31 || v == 63 }
/-- 10_fans_analogue_floating R399: FAN_DIAG.RUN_MIN, RW. -/
def Reg.FAN_DIAG.RUN_MIN : Fld := { base := 0x90108, stride := 0x40, count := 32, lo := 8, width := 12, ty := .rw, ret := true, reset := fun _ => 20, ok := fun v => v ≤ 1000 }
/-- 10_fans_analogue_floating R399: FAN_DIAG.RUN_MAX, RW. -/
def Reg.FAN_DIAG.RUN_MAX : Fld := { base := 0x90108, stride := 0x40, count := 32, lo := 20, width := 12, ty := .rw, ret := true, reset := fun _ => 1000, ok := fun v => v ≤ 2400 }
/-- 10_fans_analogue_floating R399: FAN_CMD_A.CMD_LO, RW. -/
def Reg.FAN_CMD_A.CMD_LO : Fld := { base := 0x9010C, stride := 0x40, count := 32, lo := 0, width := 16, ty := .rw, ret := true, ok := fun v => v ≤ 10000 }
/-- 10_fans_analogue_floating R399: FAN_CMD_A.CMD_HI, RW. -/
def Reg.FAN_CMD_A.CMD_HI : Fld := { base := 0x9010C, stride := 0x40, count := 32, lo := 16, width := 16, ty := .rw, ret := true, reset := fun _ => 10000, ok := fun v => v ≤ 10000 }
/-- 10_fans_analogue_floating R399: FAN_CMD_B.MIN_CMD, RW. -/
def Reg.FAN_CMD_B.MIN_CMD : Fld := { base := 0x90110, stride := 0x40, count := 32, lo := 0, width := 16, ty := .rw, ret := true, reset := fun _ => 2000, ok := fun v => v ≤ 10000 }
/-- 10_fans_analogue_floating R399: FAN_CMD_B.SAFE_CMD, RW. -/
def Reg.FAN_CMD_B.SAFE_CMD : Fld := { base := 0x90110, stride := 0x40, count := 32, lo := 16, width := 16, ty := .rw, ret := true, reset := fun _ => 10000 }
/-- 10_fans_analogue_floating R399: FAN_TSRC.SOURCE, RW. -/
def Reg.FAN_TSRC.SOURCE : Fld := { base := 0x90114, stride := 0x40, count := 32, lo := 0, width := 32, ty := .rw, ret := true }
/-- 10_fans_analogue_floating R399: FAN_TLO.TLO, RW. -/
def Reg.FAN_TLO.TLO : Fld := { base := 0x90118, stride := 0x40, count := 32, lo := 0, width := 32, ty := .rw, ret := true, reset := fun _ => 1638400 }
/-- 10_fans_analogue_floating R399: FAN_THI.THI, RW. -/
def Reg.FAN_THI.THI : Fld := { base := 0x9011C, stride := 0x40, count := 32, lo := 0, width := 32, ty := .rw, ret := true, reset := fun _ => 2621440 }
/-- 10_fans_analogue_floating R399: FAN_STAT.STATE, RO. -/
def Reg.FAN_STAT.STATE : Fld := { base := 0x90120, stride := 0x40, count := 32, lo := 0, width := 3, ty := .ro }
/-- 10_fans_analogue_floating R399: FAN_STAT.RETRIES, RO. -/
def Reg.FAN_STAT.RETRIES : Fld := { base := 0x90120, stride := 0x40, count := 32, lo := 3, width := 2, ty := .ro }
/-- 10_fans_analogue_floating R399: FAN_STAT.LOSS_CAUSE, RO. -/
def Reg.FAN_STAT.LOSS_CAUSE : Fld := { base := 0x90120, stride := 0x40, count := 32, lo := 5, width := 2, ty := .ro }
/-- 10_fans_analogue_floating R399: FAN_STAT.CURVE_HOT, RO. -/
def Reg.FAN_STAT.CURVE_HOT : Fld := { base := 0x90120, stride := 0x40, count := 32, lo := 7, width := 1, ty := .ro }
/-- 10_fans_analogue_floating R399: FAN_STAT.APPLIED, RO. -/
def Reg.FAN_STAT.APPLIED : Fld := { base := 0x90120, stride := 0x40, count := 32, lo := 16, width := 16, ty := .ro }
/-- 10_fans_analogue_floating R399: FAN_VAL.VALUE, RO. -/
def Reg.FAN_VAL.VALUE : Fld := { base := 0x90128, stride := 0x40, count := 32, lo := 0, width := 64, ty := .ro }
/-- 10_fans_analogue_floating R399: AO_CFG.RANGE, RW. -/
def Reg.AO_CFG.RANGE : Fld := { base := 0x91000, stride := 0x10, count := 32, lo := 0, width := 2, ty := .rw, ret := true }
/-- 10_fans_analogue_floating R399: AO_CFG.SAFE, RW. -/
def Reg.AO_CFG.SAFE : Fld := { base := 0x91000, stride := 0x10, count := 32, lo := 2, width := 2, ty := .rw, ret := true, ok := fun v => v ≤ 2 }
/-- 10_fans_analogue_floating R399: AO_CFG.RESTORE, RW. -/
def Reg.AO_CFG.RESTORE : Fld := { base := 0x91000, stride := 0x10, count := 32, lo := 4, width := 2, ty := .rw, ret := true, reset := fun _ => 2, ok := fun v => v ≤ 2 }
/-- 10_fans_analogue_floating R399: AO_SAFE.VALUE, RW. -/
def Reg.AO_SAFE.VALUE : Fld := { base := 0x91004, stride := 0x10, count := 32, lo := 0, width := 14, ty := .rw, ret := true, ok := fun v => v ≤ 10000 }
/-- 10_fans_analogue_floating R399: AO_STAT.READBACK, RO. -/
def Reg.AO_STAT.READBACK : Fld := { base := 0x91008, stride := 0x10, count := 32, lo := 0, width := 16, ty := .ro }
/-- 10_fans_analogue_floating R399: AO_STAT.OVERLOAD, RO. -/
def Reg.AO_STAT.OVERLOAD : Fld := { base := 0x91008, stride := 0x10, count := 32, lo := 16, width := 1, ty := .ro }
/-- 10_fans_analogue_floating R399: AO_STAT.LINKED, RO. -/
def Reg.AO_STAT.LINKED : Fld := { base := 0x91008, stride := 0x10, count := 32, lo := 17, width := 1, ty := .ro }
/-- 11_quilt R451: QUILT_CAP.PORTS, RO. -/
def Reg.QUILT_CAP.PORTS : Fld := { base := 0x20004, lo := 0, width := 4, ty := .ro, reset := fun _ => 8 }
/-- 11_quilt R451: QUILT_CAP.TACK_SLOTS, RO. -/
def Reg.QUILT_CAP.TACK_SLOTS : Fld := { base := 0x20004, lo := 4, width := 8, ty := .ro, reset := fun _ => 15 }
/-- 11_quilt R451: QUILT_CAP.CREDITS, RO. -/
def Reg.QUILT_CAP.CREDITS : Fld := { base := 0x20004, lo := 12, width := 8, ty := .ro, reset := fun _ => 64 }
/-- 11_quilt R451: QUILT_CAP.TOKENS, RO. -/
def Reg.QUILT_CAP.TOKENS : Fld := { base := 0x20004, lo := 20, width := 8, ty := .ro, reset := fun _ => 16 }
/-- 11_quilt R451: QUILT_CFG.PORT_EN, RW. -/
def Reg.QUILT_CFG.PORT_EN : Fld := { base := 0x20008, lo := 0, width := 8, ty := .rw, ret := true, reset := fun _ => 255 }
/-- 11_quilt R451: QUILT_CFG.AUTO_REVERT, RW. -/
def Reg.QUILT_CFG.AUTO_REVERT : Fld := { base := 0x20008, lo := 8, width := 1, ty := .rw, ret := true, reset := fun _ => 1 }
/-- 11_quilt R451: QUILT_CFG.REVERT_TIME, RW. -/
def Reg.QUILT_CFG.REVERT_TIME : Fld := { base := 0x20008, lo := 9, width := 7, ty := .rw, ret := true, reset := fun _ => 10, ok := fun v => 1 ≤ v }
/-- 11_quilt R451: QUILT_CFG.REPORT_DEV, RW. -/
def Reg.QUILT_CFG.REPORT_DEV : Fld := { base := 0x20008, lo := 16, width := 10, ty := .rw, ret := true }
/-- 11_quilt R451: QUILT_CFG.REPORT_EN, RW. -/
def Reg.QUILT_CFG.REPORT_EN : Fld := { base := 0x20008, lo := 26, width := 1, ty := .rw, ret := true }
/-- 11_quilt R451: QUILT_STAT.TRAINED, RO. -/
def Reg.QUILT_STAT.TRAINED : Fld := { base := 0x2000C, lo := 0, width := 1, ty := .ro }
/-- 11_quilt R451: QUILT_STAT.REROUTED, RO. -/
def Reg.QUILT_STAT.REROUTED : Fld := { base := 0x2000C, lo := 1, width := 1, ty := .ro }
/-- 11_quilt R451: QUILT_STAT.AUDIT_FAIL, RO. -/
def Reg.QUILT_STAT.AUDIT_FAIL : Fld := { base := 0x2000C, lo := 2, width := 1, ty := .ro }
/-- 11_quilt R451: QUILT_STAT.WRITE_REJECTED, W1C. -/
def Reg.QUILT_STAT.WRITE_REJECTED : Fld := { base := 0x2000C, lo := 3, width := 1, ty := .w1c }
/-- 11_quilt R451: QUILT_STAT.PORTS_UP, RO. -/
def Reg.QUILT_STAT.PORTS_UP : Fld := { base := 0x2000C, lo := 8, width := 8, ty := .ro }
/-- 11_quilt R451: QUILT_STAT.UNREACH, RO. -/
def Reg.QUILT_STAT.UNREACH : Fld := { base := 0x2000C, lo := 16, width := 10, ty := .ro }
/-- 11_quilt R451: QUILT_RRING.SERVER, RW. -/
def Reg.QUILT_RRING.SERVER : Fld := { base := 0x20010, lo := 0, width := 10, ty := .rw, ret := true }
/-- 11_quilt R451: QUILT_RRING.ENABLE, RW. -/
def Reg.QUILT_RRING.ENABLE : Fld := { base := 0x20010, lo := 15, width := 1, ty := .rw, ret := true }
/-- 11_quilt R451: QUILT_RWIN_BASE.BASE, RW. -/
def Reg.QUILT_RWIN_BASE.BASE : Fld := { base := 0x20014, lo := 0, width := 19, ty := .rw, ret := true }
/-- 11_quilt R451: QUILT_RWIN_SIZE.WORDS, RW. -/
def Reg.QUILT_RWIN_SIZE.WORDS : Fld := { base := 0x20018, lo := 0, width := 19, ty := .rw, ret := true }
/-- 11_quilt R451: QUILT_RWIN_CLIENT.CLIENT, RW. -/
def Reg.QUILT_RWIN_CLIENT.CLIENT : Fld := { base := 0x2001C, lo := 0, width := 10, ty := .rw, ret := true }
/-- 11_quilt R451: QUILT_RWIN_CLIENT.ANY, RW. -/
def Reg.QUILT_RWIN_CLIENT.ANY : Fld := { base := 0x2001C, lo := 15, width := 1, ty := .rw, ret := true }
/-- 11_quilt R451: QUILT_POOL.FREE, RO. -/
def Reg.QUILT_POOL.FREE : Fld := { base := 0x20020, lo := 0, width := 13, ty := .ro, reset := fun _ => 4096 }
/-- 11_quilt R451: QUILT_POOL.WAITING, RO. -/
def Reg.QUILT_POOL.WAITING : Fld := { base := 0x20020, lo := 16, width := 13, ty := .ro }
/-- 11_quilt R451: QUILT_GAPS.DUPS, RO. -/
def Reg.QUILT_GAPS.DUPS : Fld := { base := 0x20024, lo := 0, width := 16, ty := .ro }
/-- 11_quilt R451: QUILT_GAPS.GAPS, RO. -/
def Reg.QUILT_GAPS.GAPS : Fld := { base := 0x20024, lo := 16, width := 8, ty := .ro }
/-- 11_quilt R451: QUILT_GAPS.BAD_TYPE, RO. -/
def Reg.QUILT_GAPS.BAD_TYPE : Fld := { base := 0x20024, lo := 24, width := 8, ty := .ro }
/-- 11_quilt R451: PORT_CFG.SLOT_SKIP, RW. -/
def Reg.PORT_CFG.SLOT_SKIP : Fld := { base := 0x20100, stride := 0x40, count := 8, lo := 0, width := 3, ty := .rw, ret := true }
/-- 11_quilt R451: PORT_CFG.LOS_EN, RW. -/
def Reg.PORT_CFG.LOS_EN : Fld := { base := 0x20100, stride := 0x40, count := 8, lo := 4, width := 1, ty := .rw, ret := true }
/-- 11_quilt R451: PORT_CFG.EQ_AUTO, RW. -/
def Reg.PORT_CFG.EQ_AUTO : Fld := { base := 0x20100, stride := 0x40, count := 8, lo := 5, width := 1, ty := .rw, ret := true, reset := fun _ => 1 }
/-- 11_quilt R451: PORT_STAT.STATE, RO. -/
def Reg.PORT_STAT.STATE : Fld := { base := 0x20104, stride := 0x40, count := 8, lo := 0, width := 3, ty := .ro }
/-- 11_quilt R451: PORT_STAT.LOS, RO. -/
def Reg.PORT_STAT.LOS : Fld := { base := 0x20104, stride := 0x40, count := 8, lo := 3, width := 1, ty := .ro }
/-- 11_quilt R451: PORT_STAT.ALIGNED, RO. -/
def Reg.PORT_STAT.ALIGNED : Fld := { base := 0x20104, stride := 0x40, count := 8, lo := 4, width := 1, ty := .ro }
/-- 11_quilt R451: PORT_STAT.SKIP_SHORT, RO. -/
def Reg.PORT_STAT.SKIP_SHORT : Fld := { base := 0x20104, stride := 0x40, count := 8, lo := 5, width := 1, ty := .ro }
/-- 11_quilt R451: PORT_STAT.DOWN_CAUSE, RO. -/
def Reg.PORT_STAT.DOWN_CAUSE : Fld := { base := 0x20104, stride := 0x40, count := 8, lo := 8, width := 3, ty := .ro }
/-- 11_quilt R451: PORT_NBR.DEV, RO. -/
def Reg.PORT_NBR.DEV : Fld := { base := 0x20108, stride := 0x40, count := 8, lo := 0, width := 10, ty := .ro }
/-- 11_quilt R451: PORT_NBR.PORT, RO. -/
def Reg.PORT_NBR.PORT : Fld := { base := 0x20108, stride := 0x40, count := 8, lo := 10, width := 3, ty := .ro }
/-- 11_quilt R451: PORT_NBR.VALID, RO. -/
def Reg.PORT_NBR.VALID : Fld := { base := 0x20108, stride := 0x40, count := 8, lo := 13, width := 1, ty := .ro }
/-- 11_quilt R451: PORT_NBR.DUPLICATE, RO. -/
def Reg.PORT_NBR.DUPLICATE : Fld := { base := 0x20108, stride := 0x40, count := 8, lo := 14, width := 1, ty := .ro }
/-- 11_quilt R451: PORT_NBR.NUMBERED, RO. -/
def Reg.PORT_NBR.NUMBERED : Fld := { base := 0x20108, stride := 0x40, count := 8, lo := 15, width := 1, ty := .ro }
/-- 11_quilt R451: PORT_ERR.CORRECTED, RO. -/
def Reg.PORT_ERR.CORRECTED : Fld := { base := 0x2010C, stride := 0x40, count := 8, lo := 0, width := 16, ty := .ro }
/-- 11_quilt R451: PORT_ERR.UNCORRECTABLE, RO. -/
def Reg.PORT_ERR.UNCORRECTABLE : Fld := { base := 0x2010C, stride := 0x40, count := 8, lo := 16, width := 16, ty := .ro }
/-- 11_quilt R451: PORT_RETRY.RESENT, RO. -/
def Reg.PORT_RETRY.RESENT : Fld := { base := 0x20110, stride := 0x40, count := 8, lo := 0, width := 16, ty := .ro }
/-- 11_quilt R451: PORT_RETRY.DOWNS, RO. -/
def Reg.PORT_RETRY.DOWNS : Fld := { base := 0x20110, stride := 0x40, count := 8, lo := 16, width := 16, ty := .ro }
/-- 11_quilt R451: PORT_EQ.TX_DEEMPH, RW. -/
def Reg.PORT_EQ.TX_DEEMPH : Fld := { base := 0x20114, stride := 0x40, count := 8, lo := 0, width := 4, ty := .rw, ret := true, reset := fun _ => 4 }
/-- 11_quilt R451: PORT_EQ.RX_CTLE, RW. -/
def Reg.PORT_EQ.RX_CTLE : Fld := { base := 0x20114, stride := 0x40, count := 8, lo := 8, width := 4, ty := .rw, ret := true, reset := fun _ => 6 }
/-- 11_quilt R451: PORT_EQ.BY_FITTING, RO. -/
def Reg.PORT_EQ.BY_FITTING : Fld := { base := 0x20114, stride := 0x40, count := 8, lo := 16, width := 1, ty := .ro }
/-- 11_quilt R451: PORT_TACK.RESERVED, RO. -/
def Reg.PORT_TACK.RESERVED : Fld := { base := 0x20118, stride := 0x40, count := 8, lo := 0, width := 8, ty := .ro, ret := true }
/-- 11_quilt R451: PORT_TACK.LATE, RO. -/
def Reg.PORT_TACK.LATE : Fld := { base := 0x20118, stride := 0x40, count := 8, lo := 8, width := 16, ty := .ro }
/-- 11_quilt R451: PORT_CONS.TX_CREDITS, RO. -/
def Reg.PORT_CONS.TX_CREDITS : Fld := { base := 0x20120, stride := 0x40, count := 32, per := 4, stride2 := 0x4, lo := 0, width := 7, ty := .ro }
/-- 11_quilt R451: PORT_CONS.TX_OUT, RO. -/
def Reg.PORT_CONS.TX_OUT : Fld := { base := 0x20120, stride := 0x40, count := 32, per := 4, stride2 := 0x4, lo := 8, width := 7, ty := .ro }
/-- 11_quilt R451: PORT_CONS.RX_USED, RO. -/
def Reg.PORT_CONS.RX_USED : Fld := { base := 0x20120, stride := 0x40, count := 32, per := 4, stride2 := 0x4, lo := 16, width := 7, ty := .ro }
/-- 11_quilt R451: PORT_CONS.RX_FREED, RO. -/
def Reg.PORT_CONS.RX_FREED : Fld := { base := 0x20120, stride := 0x40, count := 32, per := 4, stride2 := 0x4, lo := 24, width := 7, ty := .ro }
/-- 11_quilt R451: QUILT_ROUTE.PRIMARY, RO. -/
def Reg.QUILT_ROUTE.PRIMARY : Fld := { base := 0x21000, stride := 0x4, count := 1024, lo := 0, width := 3, ty := .ro, ret := true }
/-- 11_quilt R451: QUILT_ROUTE.PRI_VALID, RO. -/
def Reg.QUILT_ROUTE.PRI_VALID : Fld := { base := 0x21000, stride := 0x4, count := 1024, lo := 3, width := 1, ty := .ro, ret := true }
/-- 11_quilt R451: QUILT_ROUTE.ALTERNATE, RO. -/
def Reg.QUILT_ROUTE.ALTERNATE : Fld := { base := 0x21000, stride := 0x4, count := 1024, lo := 4, width := 3, ty := .ro, ret := true }
/-- 11_quilt R451: QUILT_ROUTE.ALT_VALID, RO. -/
def Reg.QUILT_ROUTE.ALT_VALID : Fld := { base := 0x21000, stride := 0x4, count := 1024, lo := 7, width := 1, ty := .ro, ret := true }
/-- 11_quilt R451: QUILT_ROUTE.PRI_HOPS, RO. -/
def Reg.QUILT_ROUTE.PRI_HOPS : Fld := { base := 0x21000, stride := 0x4, count := 1024, lo := 8, width := 6, ty := .ro, ret := true }
/-- 11_quilt R451: QUILT_ROUTE.ALT_HOPS, RO. -/
def Reg.QUILT_ROUTE.ALT_HOPS : Fld := { base := 0x21000, stride := 0x4, count := 1024, lo := 16, width := 6, ty := .ro, ret := true }
/-- 11_quilt R451: QUILT_ROUTE.ON_ALT, RO. -/
def Reg.QUILT_ROUTE.ON_ALT : Fld := { base := 0x21000, stride := 0x4, count := 1024, lo := 24, width := 1, ty := .ro }
/-- 11_quilt R451: QUILT_ROUTE.UNREACH, RO. -/
def Reg.QUILT_ROUTE.UNREACH : Fld := { base := 0x21000, stride := 0x4, count := 1024, lo := 25, width := 1, ty := .ro }
/-- 11_quilt R451: QUILT_TOKEN.CL1, RO. -/
def Reg.QUILT_TOKEN.CL1 : Fld := { base := 0x22000, stride := 0x4, count := 1024, lo := 0, width := 5, ty := .ro }
/-- 11_quilt R451: QUILT_TOKEN.CL2, RO. -/
def Reg.QUILT_TOKEN.CL2 : Fld := { base := 0x22000, stride := 0x4, count := 1024, lo := 8, width := 5, ty := .ro }
/-- 11_quilt R451: QUILT_TOKEN.CL3, RO. -/
def Reg.QUILT_TOKEN.CL3 : Fld := { base := 0x22000, stride := 0x4, count := 1024, lo := 16, width := 5, ty := .ro }
/-- 11_quilt R451: QUILT_TOKEN.GRANTED, RO. -/
def Reg.QUILT_TOKEN.GRANTED : Fld := { base := 0x22000, stride := 0x4, count := 1024, lo := 24, width := 6, ty := .ro }
/-- 12_host_rings R488: HOSTQ_CAP.SQS, RO. -/
def Reg.HOSTQ_CAP.SQS : Fld := { base := 0x10004, lo := 0, width := 8, ty := .ro, reset := fun _ => 64 }
/-- 12_host_rings R488: HOSTQ_CAP.CQS, RO. -/
def Reg.HOSTQ_CAP.CQS : Fld := { base := 0x10004, lo := 8, width := 8, ty := .ro, reset := fun _ => 64 }
/-- 12_host_rings R488: HOSTQ_CAP.TRACE, RO. -/
def Reg.HOSTQ_CAP.TRACE : Fld := { base := 0x10004, lo := 16, width := 4, ty := .ro, reset := fun _ => 4 }
/-- 12_host_rings R488: HOSTQ_CAP.VECTORS, RO. -/
def Reg.HOSTQ_CAP.VECTORS : Fld := { base := 0x10004, lo := 20, width := 8, ty := .ro, reset := fun _ => 64 }
/-- 12_host_rings R488: HOSTQ_STAT.HOST_LOST, RO. -/
def Reg.HOSTQ_STAT.HOST_LOST : Fld := { base := 0x10008, lo := 0, width := 1, ty := .ro }
/-- 12_host_rings R488: HOSTQ_STAT.LOST_CAUSE, RO. -/
def Reg.HOSTQ_STAT.LOST_CAUSE : Fld := { base := 0x10008, lo := 1, width := 3, ty := .ro }
/-- 12_host_rings R488: HOSTQ_STAT.FETCH_PAUSED, RO. -/
def Reg.HOSTQ_STAT.FETCH_PAUSED : Fld := { base := 0x10008, lo := 4, width := 1, ty := .ro }
/-- 12_host_rings R488: HOSTQ_STAT.WRITE_REJECTED, W1C. -/
def Reg.HOSTQ_STAT.WRITE_REJECTED : Fld := { base := 0x10008, lo := 5, width := 1, ty := .w1c }
/-- 12_host_rings R488: HOSTQ_STAT.INFLIGHT, RO. -/
def Reg.HOSTQ_STAT.INFLIGHT : Fld := { base := 0x10008, lo := 8, width := 10, ty := .ro }
/-- 12_host_rings R488: HOSTQ_WDOG.INTERVAL, RW. -/
def Reg.HOSTQ_WDOG.INTERVAL : Fld := { base := 0x1000C, lo := 0, width := 10, ty := .rw, ret := true, ok := fun v => v ≤ 600 }
/-- 12_host_rings R488: HOSTQ_LOST.COMPLETIONS, RO. -/
def Reg.HOSTQ_LOST.COMPLETIONS : Fld := { base := 0x10010, lo := 0, width := 16, ty := .ro }
/-- 12_host_rings R488: HOSTQ_LOST.EVENTS, RO. -/
def Reg.HOSTQ_LOST.EVENTS : Fld := { base := 0x10010, lo := 16, width := 16, ty := .ro }
/-- 12_host_rings R488: HOSTQ_RR_HEADS.INDEX, RW. -/
def Reg.HOSTQ_RR_HEADS.INDEX : Fld := { base := 0x10014, lo := 0, width := 32, ty := .rw, ret := true }
/-- 12_host_rings R488: HOSTQ_SUBSYS.SVID, RWS. -/
def Reg.HOSTQ_SUBSYS.SVID : Fld := { base := 0x10018, lo := 0, width := 16, ty := .rws, ret := true, reset := fun _ => 7772 }
/-- 12_host_rings R488: HOSTQ_SUBSYS.SSID, RWS. -/
def Reg.HOSTQ_SUBSYS.SSID : Fld := { base := 0x10018, lo := 16, width := 16, ty := .rws, ret := true }
/-- 12_host_rings R488: SQ_BASE_LO.ADDR_LO, RW. -/
def Reg.SQ_BASE_LO.ADDR_LO : Fld := { base := 0x11000, stride := 0x20, count := 64, lo := 6, width := 26, ty := .rw, ret := true }
/-- 12_host_rings R488: SQ_BASE_HI.ADDR_HI, RW. -/
def Reg.SQ_BASE_HI.ADDR_HI : Fld := { base := 0x11004, stride := 0x20, count := 64, lo := 0, width := 32, ty := .rw, ret := true }
/-- 12_host_rings R488: SQ_CFG.SIZE_LOG2, RW. -/
def Reg.SQ_CFG.SIZE_LOG2 : Fld := { base := 0x11008, stride := 0x20, count := 64, lo := 0, width := 4, ty := .rw, ret := true, reset := fun _ => 6, ok := fun v => 4 ≤ v && v ≤ 12 }
/-- 12_host_rings R488: SQ_CFG.CQ, RW. -/
def Reg.SQ_CFG.CQ : Fld := { base := 0x11008, stride := 0x20, count := 64, lo := 8, width := 6, ty := .rw, ret := true }
/-- 12_host_rings R488: SQ_CFG.AUTO_EN, RW. -/
def Reg.SQ_CFG.AUTO_EN : Fld := { base := 0x11008, stride := 0x20, count := 64, lo := 15, width := 1, ty := .rw, ret := true }
/-- 12_host_rings R488: SQ_CTRL.ENABLE, RW. -/
def Reg.SQ_CTRL.ENABLE : Fld := { base := 0x1100C, stride := 0x20, count := 64, lo := 0, width := 1, ty := .rw }
/-- 12_host_rings R488: SQ_CTRL.FENCE_CLR, WO. -/
def Reg.SQ_CTRL.FENCE_CLR : Fld := { base := 0x1100C, stride := 0x20, count := 64, lo := 1, width := 1, ty := .wo }
/-- 12_host_rings R488: SQ_STAT.HEAD, RO. -/
def Reg.SQ_STAT.HEAD : Fld := { base := 0x11010, stride := 0x20, count := 64, lo := 0, width := 12, ty := .ro }
/-- 12_host_rings R488: SQ_STAT.TAIL, RO. -/
def Reg.SQ_STAT.TAIL : Fld := { base := 0x11010, stride := 0x20, count := 64, lo := 12, width := 12, ty := .ro }
/-- 12_host_rings R488: SQ_STAT.INFLIGHT, RO. -/
def Reg.SQ_STAT.INFLIGHT : Fld := { base := 0x11010, stride := 0x20, count := 64, lo := 24, width := 6, ty := .ro }
/-- 12_host_rings R488: SQ_STAT.FENCED, RO. -/
def Reg.SQ_STAT.FENCED : Fld := { base := 0x11010, stride := 0x20, count := 64, lo := 30, width := 1, ty := .ro }
/-- 12_host_rings R488: SQ_STAT.FAULT, RO. -/
def Reg.SQ_STAT.FAULT : Fld := { base := 0x11010, stride := 0x20, count := 64, lo := 31, width := 1, ty := .ro }
/-- 12_host_rings R488: CQ_BASE_LO.ADDR_LO, RW. -/
def Reg.CQ_BASE_LO.ADDR_LO : Fld := { base := 0x12000, stride := 0x20, count := 64, lo := 6, width := 26, ty := .rw, ret := true }
/-- 12_host_rings R488: CQ_BASE_HI.ADDR_HI, RW. -/
def Reg.CQ_BASE_HI.ADDR_HI : Fld := { base := 0x12004, stride := 0x20, count := 64, lo := 0, width := 32, ty := .rw, ret := true }
/-- 12_host_rings R488: EQ_BASE_LO.ADDR_LO, RW. -/
def Reg.EQ_BASE_LO.ADDR_LO : Fld := { base := 0x13000, lo := 6, width := 26, ty := .rw, ret := true }
/-- 12_host_rings R488: EQ_BASE_HI.ADDR_HI, RW. -/
def Reg.EQ_BASE_HI.ADDR_HI : Fld := { base := 0x13004, lo := 0, width := 32, ty := .rw, ret := true }
/-- 12_host_rings R488: CQ_CFG.SIZE_LOG2, RW. -/
def Reg.CQ_CFG.SIZE_LOG2 : Fld := { base := 0x12008, stride := 0x20, count := 64, lo := 0, width := 4, ty := .rw, ret := true, reset := fun _ => 6, ok := fun v => 4 ≤ v && v ≤ 12 }
/-- 12_host_rings R488: CQ_CFG.VECTOR, RW. -/
def Reg.CQ_CFG.VECTOR : Fld := { base := 0x12008, stride := 0x20, count := 64, lo := 8, width := 6, ty := .rw, ret := true }
/-- 12_host_rings R488: CQ_CFG.IRQ_EN, RW. -/
def Reg.CQ_CFG.IRQ_EN : Fld := { base := 0x12008, stride := 0x20, count := 64, lo := 14, width := 1, ty := .rw, ret := true, reset := fun _ => 1 }
/-- 12_host_rings R488: CQ_CFG.AUTO_EN, RW. -/
def Reg.CQ_CFG.AUTO_EN : Fld := { base := 0x12008, stride := 0x20, count := 64, lo := 15, width := 1, ty := .rw, ret := true }
/-- 12_host_rings R488: CQ_CFG.HOLDOFF, RW. -/
def Reg.CQ_CFG.HOLDOFF : Fld := { base := 0x12008, stride := 0x20, count := 64, lo := 16, width := 14, ty := .rw, ret := true, ok := fun v => v ≤ 10000 }
/-- 12_host_rings R488: CQ_CTRL.ENABLE, RW. -/
def Reg.CQ_CTRL.ENABLE : Fld := { base := 0x1200C, stride := 0x20, count := 64, lo := 0, width := 1, ty := .rw }
/-- 12_host_rings R488: CQ_STAT.HEAD, RO. -/
def Reg.CQ_STAT.HEAD : Fld := { base := 0x12010, stride := 0x20, count := 64, lo := 0, width := 12, ty := .ro }
/-- 12_host_rings R488: CQ_STAT.TAIL, RO. -/
def Reg.CQ_STAT.TAIL : Fld := { base := 0x12010, stride := 0x20, count := 64, lo := 12, width := 12, ty := .ro }
/-- 12_host_rings R488: CQ_STAT.PHASE, RO. -/
def Reg.CQ_STAT.PHASE : Fld := { base := 0x12010, stride := 0x20, count := 64, lo := 24, width := 1, ty := .ro, reset := fun _ => 1 }
/-- 12_host_rings R488: CQ_STAT.FULL, RO. -/
def Reg.CQ_STAT.FULL : Fld := { base := 0x12010, stride := 0x20, count := 64, lo := 25, width := 1, ty := .ro }
/-- 12_host_rings R488: EQ_CFG.SIZE_LOG2, RW. -/
def Reg.EQ_CFG.SIZE_LOG2 : Fld := { base := 0x13008, lo := 0, width := 4, ty := .rw, ret := true, reset := fun _ => 6, ok := fun v => 4 ≤ v && v ≤ 12 }
/-- 12_host_rings R488: EQ_CFG.VECTOR, RW. -/
def Reg.EQ_CFG.VECTOR : Fld := { base := 0x13008, lo := 8, width := 6, ty := .rw, ret := true }
/-- 12_host_rings R488: EQ_CFG.IRQ_EN, RW. -/
def Reg.EQ_CFG.IRQ_EN : Fld := { base := 0x13008, lo := 14, width := 1, ty := .rw, ret := true, reset := fun _ => 1 }
/-- 12_host_rings R488: EQ_CFG.AUTO_EN, RW. -/
def Reg.EQ_CFG.AUTO_EN : Fld := { base := 0x13008, lo := 15, width := 1, ty := .rw, ret := true }
/-- 12_host_rings R488: EQ_CFG.HOLDOFF, RW. -/
def Reg.EQ_CFG.HOLDOFF : Fld := { base := 0x13008, lo := 16, width := 14, ty := .rw, ret := true, ok := fun v => v ≤ 10000 }
/-- 12_host_rings R488: EQ_CTRL.ENABLE, RW. -/
def Reg.EQ_CTRL.ENABLE : Fld := { base := 0x1300C, lo := 0, width := 1, ty := .rw }
/-- 12_host_rings R488: EQ_STAT.HEAD, RO. -/
def Reg.EQ_STAT.HEAD : Fld := { base := 0x13010, lo := 0, width := 12, ty := .ro }
/-- 12_host_rings R488: EQ_STAT.TAIL, RO. -/
def Reg.EQ_STAT.TAIL : Fld := { base := 0x13010, lo := 12, width := 12, ty := .ro }
/-- 12_host_rings R488: EQ_STAT.PHASE, RO. -/
def Reg.EQ_STAT.PHASE : Fld := { base := 0x13010, lo := 24, width := 1, ty := .ro, reset := fun _ => 1 }
/-- 12_host_rings R488: EQ_STAT.FULL, RO. -/
def Reg.EQ_STAT.FULL : Fld := { base := 0x13010, lo := 25, width := 1, ty := .ro }
/-- 12_host_rings R488: TQ_BASE_LO.ADDR_LO, RW. -/
def Reg.TQ_BASE_LO.ADDR_LO : Fld := { base := 0x13100, stride := 0x20, count := 4, lo := 6, width := 26, ty := .rw, ret := true }
/-- 12_host_rings R488: TQ_BASE_HI.ADDR_HI, RW. -/
def Reg.TQ_BASE_HI.ADDR_HI : Fld := { base := 0x13104, stride := 0x20, count := 4, lo := 0, width := 32, ty := .rw, ret := true }
/-- 12_host_rings R488: TQ_CFG.SIZE_LOG2, RW. -/
def Reg.TQ_CFG.SIZE_LOG2 : Fld := { base := 0x13108, stride := 0x20, count := 4, lo := 0, width := 5, ty := .rw, ret := true, reset := fun _ => 6, ok := fun v => 6 ≤ v && v ≤ 16 }
/-- 12_host_rings R488: TQ_CFG.VECTOR, RW. -/
def Reg.TQ_CFG.VECTOR : Fld := { base := 0x13108, stride := 0x20, count := 4, lo := 8, width := 6, ty := .rw, ret := true }
/-- 12_host_rings R488: TQ_CFG.IRQ_EN, RW. -/
def Reg.TQ_CFG.IRQ_EN : Fld := { base := 0x13108, stride := 0x20, count := 4, lo := 14, width := 1, ty := .rw, ret := true }
/-- 12_host_rings R488: TQ_CFG.AUTO_EN, RW. -/
def Reg.TQ_CFG.AUTO_EN : Fld := { base := 0x13108, stride := 0x20, count := 4, lo := 15, width := 1, ty := .rw, ret := true }
/-- 12_host_rings R488: TQ_CFG.HOLDOFF, RW. -/
def Reg.TQ_CFG.HOLDOFF : Fld := { base := 0x13108, stride := 0x20, count := 4, lo := 16, width := 14, ty := .rw, ret := true, ok := fun v => v ≤ 10000 }
/-- 12_host_rings R488: TQ_CTRL.ENABLE, RW. -/
def Reg.TQ_CTRL.ENABLE : Fld := { base := 0x1310C, stride := 0x20, count := 4, lo := 0, width := 1, ty := .rw }
/-- 12_host_rings R488: TQ_STAT.HEAD, RO. -/
def Reg.TQ_STAT.HEAD : Fld := { base := 0x13110, stride := 0x20, count := 4, lo := 0, width := 16, ty := .ro }
/-- 12_host_rings R488: TQ_STAT.TAIL, RO. -/
def Reg.TQ_STAT.TAIL : Fld := { base := 0x13110, stride := 0x20, count := 4, lo := 16, width := 16, ty := .ro }
/-- 12_host_rings R488: TQ_WB_LO.ADDR_LO, RW. -/
def Reg.TQ_WB_LO.ADDR_LO : Fld := { base := 0x13114, stride := 0x20, count := 4, lo := 2, width := 30, ty := .rw, ret := true }
/-- 12_host_rings R488: TQ_WB_HI.ADDR_HI, RW. -/
def Reg.TQ_WB_HI.ADDR_HI : Fld := { base := 0x13118, stride := 0x20, count := 4, lo := 0, width := 32, ty := .rw, ret := true }
/-- 13_bus_ports R511: BUS_CFG.MODE, RW. -/
def Reg.BUS_CFG.MODE : Fld := { base := 0x8000, stride := 0x20, count := 16, lo := 0, width := 2, ty := .rw, ret := true }
/-- 13_bus_ports R511: BUS_CFG.BAUD, RW. -/
def Reg.BUS_CFG.BAUD : Fld := { base := 0x8000, stride := 0x20, count := 16, lo := 4, width := 4, ty := .rw, ret := true }
/-- 13_bus_ports R511: BUS_CFG.DE_TAIL, RW. -/
def Reg.BUS_CFG.DE_TAIL : Fld := { base := 0x8000, stride := 0x20, count := 16, lo := 8, width := 4, ty := .rw, ret := true }
/-- 13_bus_ports R511: BUS_CFG.AUTO_TEST, RW. -/
def Reg.BUS_CFG.AUTO_TEST : Fld := { base := 0x8000, stride := 0x20, count := 16, lo := 12, width := 1, ty := .rw, ret := true, reset := fun _ => 1 }
/-- 13_bus_ports R511: BUS_FRAME.DATA7, RW. -/
def Reg.BUS_FRAME.DATA7 : Fld := { base := 0x8004, stride := 0x20, count := 16, lo := 3, width := 1, ty := .rw, ret := true }
/-- 13_bus_ports R511: BUS_FRAME.PARITY, RW. -/
def Reg.BUS_FRAME.PARITY : Fld := { base := 0x8004, stride := 0x20, count := 16, lo := 4, width := 2, ty := .rw, ret := true, reset := fun _ => 1, ok := fun v => v ≤ 2 }
/-- 13_bus_ports R511: BUS_FRAME.STOP2, RW. -/
def Reg.BUS_FRAME.STOP2 : Fld := { base := 0x8004, stride := 0x20, count := 16, lo := 6, width := 1, ty := .rw, ret := true }
/-- 13_bus_ports R511: BUS_FRAME.RAW_GAP, RW. -/
def Reg.BUS_FRAME.RAW_GAP : Fld := { base := 0x8004, stride := 0x20, count := 16, lo := 8, width := 8, ty := .rw, ret := true, reset := fun _ => 4, ok := fun v => 1 ≤ v }
/-- 13_bus_ports R511: BUS_MSTP.MAC, RW. -/
def Reg.BUS_MSTP.MAC : Fld := { base := 0x8008, stride := 0x20, count := 16, lo := 0, width := 7, ty := .rw, ret := true, reset := fun _ => 127 }
/-- 13_bus_ports R511: BUS_MSTP.MAX_MASTER, RW. -/
def Reg.BUS_MSTP.MAX_MASTER : Fld := { base := 0x8008, stride := 0x20, count := 16, lo := 8, width := 7, ty := .rw, ret := true, reset := fun _ => 127 }
/-- 13_bus_ports R511: BUS_MSTP.MAX_INFO, RW. -/
def Reg.BUS_MSTP.MAX_INFO : Fld := { base := 0x8008, stride := 0x20, count := 16, lo := 16, width := 8, ty := .rw, ret := true, reset := fun _ => 1, ok := fun v => 1 ≤ v }
/-- 13_bus_ports R511: BUS_MSTP.REPLY_WAIT, RW. -/
def Reg.BUS_MSTP.REPLY_WAIT : Fld := { base := 0x8008, stride := 0x20, count := 16, lo := 24, width := 8, ty := .rw, ret := true, reset := fun _ => 200, ok := fun v => 1 ≤ v && v ≤ 240 }
/-- 13_bus_ports R511: BUS_MB.TIMEOUT, RW. -/
def Reg.BUS_MB.TIMEOUT : Fld := { base := 0x800C, stride := 0x20, count := 16, lo := 0, width := 11, ty := .rw, ret := true, reset := fun _ => 500, ok := fun v => 10 ≤ v && v ≤ 2000 }
/-- 13_bus_ports R511: BUS_MB.RETRIES, RW. -/
def Reg.BUS_MB.RETRIES : Fld := { base := 0x800C, stride := 0x20, count := 16, lo := 12, width := 2, ty := .rw, ret := true, reset := fun _ => 1 }
/-- 13_bus_ports R511: BUS_MB.ERR_LIMIT, RW. -/
def Reg.BUS_MB.ERR_LIMIT : Fld := { base := 0x800C, stride := 0x20, count := 16, lo := 16, width := 4, ty := .rw, ret := true, reset := fun _ => 3, ok := fun v => 1 ≤ v }
/-- 13_bus_ports R511: BUS_MB.POLL_RUN, RW. -/
def Reg.BUS_MB.POLL_RUN : Fld := { base := 0x800C, stride := 0x20, count := 16, lo := 24, width := 1, ty := .rw, ret := true }
/-- 13_bus_ports R511: BUS_STAT.MODE, RO. -/
def Reg.BUS_STAT.MODE : Fld := { base := 0x8010, stride := 0x20, count := 16, lo := 0, width := 2, ty := .ro }
/-- 13_bus_ports R511: BUS_STAT.TOKEN, RO. -/
def Reg.BUS_STAT.TOKEN : Fld := { base := 0x8010, stride := 0x20, count := 16, lo := 2, width := 1, ty := .ro }
/-- 13_bus_ports R511: BUS_STAT.SOLE_MASTER, RO. -/
def Reg.BUS_STAT.SOLE_MASTER : Fld := { base := 0x8010, stride := 0x20, count := 16, lo := 3, width := 1, ty := .ro }
/-- 13_bus_ports R511: BUS_STAT.POLL_ACTIVE, RO. -/
def Reg.BUS_STAT.POLL_ACTIVE : Fld := { base := 0x8010, stride := 0x20, count := 16, lo := 4, width := 1, ty := .ro }
/-- 13_bus_ports R511: BUS_STAT.WRITE_REJECTED, W1C. -/
def Reg.BUS_STAT.WRITE_REJECTED : Fld := { base := 0x8010, stride := 0x20, count := 16, lo := 5, width := 1, ty := .w1c }
/-- 13_bus_ports R511: BUS_STAT.NEXT_STATION, RO. -/
def Reg.BUS_STAT.NEXT_STATION : Fld := { base := 0x8010, stride := 0x20, count := 16, lo := 8, width := 8, ty := .ro }
/-- 13_bus_ports R511: BUS_STAT.RX_HELD, RO. -/
def Reg.BUS_STAT.RX_HELD : Fld := { base := 0x8010, stride := 0x20, count := 16, lo := 16, width := 4, ty := .ro }
/-- 13_bus_ports R511: BUS_STAT.RECV_POSTED, RO. -/
def Reg.BUS_STAT.RECV_POSTED : Fld := { base := 0x8010, stride := 0x20, count := 16, lo := 20, width := 5, ty := .ro }
/-- 13_bus_ports R511: BUS_ERRCNT.CRC, RO. -/
def Reg.BUS_ERRCNT.CRC : Fld := { base := 0x8014, stride := 0x20, count := 16, lo := 0, width := 8, ty := .ro }
/-- 13_bus_ports R511: BUS_ERRCNT.FRAMING, RO. -/
def Reg.BUS_ERRCNT.FRAMING : Fld := { base := 0x8014, stride := 0x20, count := 16, lo := 8, width := 8, ty := .ro }
/-- 13_bus_ports R511: BUS_ERRCNT.DROPPED, RO. -/
def Reg.BUS_ERRCNT.DROPPED : Fld := { base := 0x8014, stride := 0x20, count := 16, lo := 16, width := 8, ty := .ro }
/-- 13_bus_ports R511: BUS_ERRCNT.TIMEOUTS, RO. -/
def Reg.BUS_ERRCNT.TIMEOUTS : Fld := { base := 0x8014, stride := 0x20, count := 16, lo := 24, width := 8, ty := .ro }
/-- 13_bus_ports R511: T1L_ERRCNT.CRC, RO. -/
def Reg.T1L_ERRCNT.CRC : Fld := { base := 0x8418, stride := 0x20, count := 4, lo := 0, width := 8, ty := .ro }
/-- 13_bus_ports R511: T1L_ERRCNT.FRAMING, RO. -/
def Reg.T1L_ERRCNT.FRAMING : Fld := { base := 0x8418, stride := 0x20, count := 4, lo := 8, width := 8, ty := .ro }
/-- 13_bus_ports R511: T1L_ERRCNT.DROPPED, RO. -/
def Reg.T1L_ERRCNT.DROPPED : Fld := { base := 0x8418, stride := 0x20, count := 4, lo := 16, width := 8, ty := .ro }
/-- 13_bus_ports R511: T1L_ERRCNT.TIMEOUTS, RO. -/
def Reg.T1L_ERRCNT.TIMEOUTS : Fld := { base := 0x8418, stride := 0x20, count := 4, lo := 24, width := 8, ty := .ro }
/-- 13_bus_ports R511: T1L_CFG.ENABLE, RW. -/
def Reg.T1L_CFG.ENABLE : Fld := { base := 0x8400, stride := 0x20, count := 4, lo := 0, width := 1, ty := .rw, ret := true }
/-- 13_bus_ports R511: T1L_CFG.AMP_HIGH, RW. -/
def Reg.T1L_CFG.AMP_HIGH : Fld := { base := 0x8400, stride := 0x20, count := 4, lo := 1, width := 1, ty := .rw, ret := true, reset := fun _ => 1 }
/-- 13_bus_ports R511: T1L_CFG.AUTONEG, RW. -/
def Reg.T1L_CFG.AUTONEG : Fld := { base := 0x8400, stride := 0x20, count := 4, lo := 2, width := 1, ty := .rw, ret := true, reset := fun _ => 1 }
/-- 13_bus_ports R511: T1L_CFG.PROMISC, RW. -/
def Reg.T1L_CFG.PROMISC : Fld := { base := 0x8400, stride := 0x20, count := 4, lo := 3, width := 1, ty := .rw, ret := true }
/-- 13_bus_ports R511: T1L_CFG.BCAST, RW. -/
def Reg.T1L_CFG.BCAST : Fld := { base := 0x8400, stride := 0x20, count := 4, lo := 4, width := 1, ty := .rw, ret := true, reset := fun _ => 1 }
/-- 13_bus_ports R511: T1L_CFG.MCAST_ALL, RW. -/
def Reg.T1L_CFG.MCAST_ALL : Fld := { base := 0x8400, stride := 0x20, count := 4, lo := 5, width := 1, ty := .rw, ret := true }
/-- 13_bus_ports R511: T1L_MAC_LO.ADDR, RW. -/
def Reg.T1L_MAC_LO.ADDR : Fld := { base := 0x8404, stride := 0x20, count := 4, lo := 0, width := 32, ty := .rw, ret := true }
/-- 13_bus_ports R511: T1L_MAC_HI.ADDR, RW. -/
def Reg.T1L_MAC_HI.ADDR : Fld := { base := 0x8408, stride := 0x20, count := 4, lo := 0, width := 16, ty := .rw, ret := true }
/-- 13_bus_ports R511: T1L_HASH_LO.HASH, RW. -/
def Reg.T1L_HASH_LO.HASH : Fld := { base := 0x840C, stride := 0x20, count := 4, lo := 0, width := 32, ty := .rw, ret := true }
/-- 13_bus_ports R511: T1L_HASH_HI.HASH, RW. -/
def Reg.T1L_HASH_HI.HASH : Fld := { base := 0x8410, stride := 0x20, count := 4, lo := 0, width := 32, ty := .rw, ret := true }
/-- 13_bus_ports R511: T1L_STAT.LINK_UP, RO. -/
def Reg.T1L_STAT.LINK_UP : Fld := { base := 0x8414, stride := 0x20, count := 4, lo := 0, width := 1, ty := .ro }
/-- 13_bus_ports R511: T1L_STAT.AMP, RO. -/
def Reg.T1L_STAT.AMP : Fld := { base := 0x8414, stride := 0x20, count := 4, lo := 1, width := 1, ty := .ro }
/-- 13_bus_ports R511: T1L_STAT.SQI, RO. -/
def Reg.T1L_STAT.SQI : Fld := { base := 0x8414, stride := 0x20, count := 4, lo := 8, width := 3, ty := .ro }
/-- 13_bus_ports R511: T1L_STAT.RX_HELD, RO. -/
def Reg.T1L_STAT.RX_HELD : Fld := { base := 0x8414, stride := 0x20, count := 4, lo := 16, width := 6, ty := .ro }
/-- 14_power_startup R538: PWR_CFG.WARN_LEVEL, RW. -/
def Reg.PWR_CFG.WARN_LEVEL : Fld := { base := 0x100, lo := 0, width := 8, ty := .rw, ret := true, reset := fun _ => 160, ok := fun v => 120 ≤ v && v ≤ 200 }
/-- 14_power_startup R538: PWR_CFG.DIP_SAFE, RW. -/
def Reg.PWR_CFG.DIP_SAFE : Fld := { base := 0x100, lo := 8, width := 8, ty := .rw, ret := true }
/-- 14_power_startup R538: PWR_WARN.EFFECTIVE, RO. -/
def Reg.PWR_WARN.EFFECTIVE : Fld := { base := 0x104, lo := 0, width := 8, ty := .ro, ret := true }
/-- 14_power_startup R538: PWR_WARN.FIT_LEVEL, RO. -/
def Reg.PWR_WARN.FIT_LEVEL : Fld := { base := 0x104, lo := 8, width := 8, ty := .ro, ret := true }
/-- 14_power_startup R538: PWR_STAT.PFW, RO. -/
def Reg.PWR_STAT.PFW : Fld := { base := 0x108, lo := 0, width := 1, ty := .ro, reset := fun _ => 1 }
/-- 14_power_startup R538: PWR_STAT.DIP, RO. -/
def Reg.PWR_STAT.DIP : Fld := { base := 0x108, lo := 1, width := 1, ty := .ro }
/-- 14_power_startup R538: PWR_STAT.SAVING, RO. -/
def Reg.PWR_STAT.SAVING : Fld := { base := 0x108, lo := 2, width := 1, ty := .ro }
/-- 14_power_startup R538: PWR_STAT.SAVE_DONE, RO. -/
def Reg.PWR_STAT.SAVE_DONE : Fld := { base := 0x108, lo := 3, width := 1, ty := .ro }
/-- 14_power_startup R538: PWR_STAT.VCORE_RAMP, RO. -/
def Reg.PWR_STAT.VCORE_RAMP : Fld := { base := 0x108, lo := 4, width := 1, ty := .ro }
/-- 14_power_startup R538: PWR_STAT.PMBUS_OK, RO. -/
def Reg.PWR_STAT.PMBUS_OK : Fld := { base := 0x108, lo := 5, width := 1, ty := .ro }
/-- 14_power_startup R538: PWR_STAT.WRITE_REJECTED, W1C. -/
def Reg.PWR_STAT.WRITE_REJECTED : Fld := { base := 0x108, lo := 6, width := 1, ty := .w1c }
/-- 14_power_startup R538: PWR_STAT.START_STEP, RO. -/
def Reg.PWR_STAT.START_STEP : Fld := { base := 0x108, lo := 8, width := 4, ty := .ro }
/-- 14_power_startup R538: PWR_STAT.LAST_RESET, RO. -/
def Reg.PWR_STAT.LAST_RESET : Fld := { base := 0x108, lo := 12, width := 3, ty := .ro }
/-- 14_power_startup R538: PWR_VOLT.VL24, RO. -/
def Reg.PWR_VOLT.VL24 : Fld := { base := 0x10C, lo := 0, width := 16, ty := .ro }
/-- 14_power_startup R538: PWR_VOLT.VHOLD, RO. -/
def Reg.PWR_VOLT.VHOLD : Fld := { base := 0x10C, lo := 16, width := 16, ty := .ro }
/-- 14_power_startup R538: PWR_DIP.COUNT, RO. -/
def Reg.PWR_DIP.COUNT : Fld := { base := 0x110, lo := 0, width := 16, ty := .ro }
/-- 14_power_startup R538: PWR_DIP.LAST_MIN, RO. -/
def Reg.PWR_DIP.LAST_MIN : Fld := { base := 0x110, lo := 16, width := 16, ty := .ro, reset := fun _ => 65535 }
/-- 14_power_startup R538: PWR_VCORE.TARGET, RO. -/
def Reg.PWR_VCORE.TARGET : Fld := { base := 0x114, lo := 0, width := 10, ty := .ro, ret := true, reset := fun _ => 800 }
/-- 14_power_startup R538: PWR_VCORE.READ, RO. -/
def Reg.PWR_VCORE.READ : Fld := { base := 0x114, lo := 16, width := 10, ty := .ro }
/-- 14_power_startup R538: PWR_PMBUS.ADDR, RWS. -/
def Reg.PWR_PMBUS.ADDR : Fld := { base := 0x118, lo := 0, width := 7, ty := .rws, ret := true, reset := fun _ => 64 }
/-- 14_power_startup R538: PWR_PMBUS.PEC, RWS. -/
def Reg.PWR_PMBUS.PEC : Fld := { base := 0x118, lo := 8, width := 1, ty := .rws, ret := true }
/-- 14_power_startup R538: PWR_PMBUS.EN, RWS. -/
def Reg.PWR_PMBUS.EN : Fld := { base := 0x118, lo := 9, width := 1, ty := .rws, ret := true, reset := fun _ => 1 }
/-- 14_power_startup R538: PWR_HOLDUP.CAP, RO. -/
def Reg.PWR_HOLDUP.CAP : Fld := { base := 0x11C, lo := 0, width := 16, ty := .ro, ret := true }
/-- 14_power_startup R538: PWR_HOLDUP.ESR, RO. -/
def Reg.PWR_HOLDUP.ESR : Fld := { base := 0x11C, lo := 16, width := 16, ty := .ro, ret := true }
/-- 14_power_startup R538: PWR_CLR.CLR_DIP, WO. -/
def Reg.PWR_CLR.CLR_DIP : Fld := { base := 0x120, lo := 0, width := 1, ty := .wo }
/-- 15_retained_state_nvm R575: NVM_CAP.BANKS, RO. -/
def Reg.NVM_CAP.BANKS : Fld := { base := 0xE0004, lo := 0, width := 8, ty := .ro, reset := fun _ => 16 }
/-- 15_retained_state_nvm R575: NVM_CAP.REGIONS, RO. -/
def Reg.NVM_CAP.REGIONS : Fld := { base := 0xE0004, lo := 8, width := 8, ty := .ro, reset := fun _ => 8 }
/-- 15_retained_state_nvm R575: NVM_CAP.RECORDS, RO. -/
def Reg.NVM_CAP.RECORDS : Fld := { base := 0xE0004, lo := 16, width := 13, ty := .ro, reset := fun _ => 4096 }
/-- 15_retained_state_nvm R575: NVM_CFG.CKPT_INT, RW. -/
def Reg.NVM_CFG.CKPT_INT : Fld := { base := 0xE0008, lo := 0, width := 11, ty := .rw, ret := true, reset := fun _ => 15, ok := fun v => v ≤ 1440 }
/-- 15_retained_state_nvm R575: NVM_STAT.BUSY, RO. -/
def Reg.NVM_STAT.BUSY : Fld := { base := 0xE000C, lo := 0, width := 1, ty := .ro }
/-- 15_retained_state_nvm R575: NVM_STAT.EXPORTING, RO. -/
def Reg.NVM_STAT.EXPORTING : Fld := { base := 0xE000C, lo := 1, width := 1, ty := .ro }
/-- 15_retained_state_nvm R575: NVM_STAT.IMPORTING, RO. -/
def Reg.NVM_STAT.IMPORTING : Fld := { base := 0xE000C, lo := 2, width := 1, ty := .ro }
/-- 15_retained_state_nvm R575: NVM_STAT.IMPORT_PENDING, RO. -/
def Reg.NVM_STAT.IMPORT_PENDING : Fld := { base := 0xE000C, lo := 3, width := 1, ty := .ro }
/-- 15_retained_state_nvm R575: NVM_STAT.ENERGY_WAIT, RO. -/
def Reg.NVM_STAT.ENERGY_WAIT : Fld := { base := 0xE000C, lo := 4, width := 1, ty := .ro }
/-- 15_retained_state_nvm R575: NVM_STAT.SAVE_AREA, RO. -/
def Reg.NVM_STAT.SAVE_AREA : Fld := { base := 0xE000C, lo := 5, width := 1, ty := .ro, ret := true }
/-- 15_retained_state_nvm R575: NVM_STAT.WRITE_REJECTED, W1C. -/
def Reg.NVM_STAT.WRITE_REJECTED : Fld := { base := 0xE000C, lo := 6, width := 1, ty := .w1c }
/-- 15_retained_state_nvm R575: NVM_STAT.PENDING, RO. -/
def Reg.NVM_STAT.PENDING : Fld := { base := 0xE000C, lo := 16, width := 13, ty := .ro }
/-- 15_retained_state_nvm R575: NVM_SAVE.BASE, RO. -/
def Reg.NVM_SAVE.BASE : Fld := { base := 0xE0010, lo := 0, width := 19, ty := .ro }
/-- 15_retained_state_nvm R575: NVM_SAVE_SEQ.SEQ, RO. -/
def Reg.NVM_SAVE_SEQ.SEQ : Fld := { base := 0xE0014, lo := 0, width := 32, ty := .ro, ret := true }
/-- 15_retained_state_nvm R575: NVM_SAVE_TICK.TICK, RO. -/
def Reg.NVM_SAVE_TICK.TICK : Fld := { base := 0xE0018, lo := 0, width := 64, ty := .ro, ret := true }
/-- 15_retained_state_nvm R575: NVM_RECQ.OFFSET, RW. -/
def Reg.NVM_RECQ.OFFSET : Fld := { base := 0xE0020, lo := 0, width := 20, ty := .rw }
/-- 15_retained_state_nvm R575: NVM_RECQ_RES.RECORD, RO. -/
def Reg.NVM_RECQ_RES.RECORD : Fld := { base := 0xE0024, lo := 0, width := 12, ty := .ro }
/-- 15_retained_state_nvm R575: NVM_RECQ_RES.VALID, RO. -/
def Reg.NVM_RECQ_RES.VALID : Fld := { base := 0xE0024, lo := 16, width := 1, ty := .ro }
/-- 15_retained_state_nvm R575: NVM_RECQ_RES.PENDING, RO. -/
def Reg.NVM_RECQ_RES.PENDING : Fld := { base := 0xE0024, lo := 17, width := 1, ty := .ro }
/-- 15_retained_state_nvm R575: NVM_RECQ_RES.AMBIGUOUS, RO. -/
def Reg.NVM_RECQ_RES.AMBIGUOUS : Fld := { base := 0xE0024, lo := 18, width := 1, ty := .ro }
/-- 15_retained_state_nvm R575: NVM_RECQ_RES.FACTORY, RO. -/
def Reg.NVM_RECQ_RES.FACTORY : Fld := { base := 0xE0024, lo := 19, width := 1, ty := .ro }
/-- 15_retained_state_nvm R575: NVM_RECSTAT.AMBIGUOUS, RO. -/
def Reg.NVM_RECSTAT.AMBIGUOUS : Fld := { base := 0xE0028, lo := 0, width := 13, ty := .ro }
/-- 15_retained_state_nvm R575: NVM_RECSTAT.LOST, RO. -/
def Reg.NVM_RECSTAT.LOST : Fld := { base := 0xE0028, lo := 16, width := 13, ty := .ro }
/-- 15_retained_state_nvm R575: NVM_LOCK_STAT.READ_OPEN, RO. -/
def Reg.NVM_LOCK_STAT.READ_OPEN : Fld := { base := 0xE002C, lo := 0, width := 8, ty := .ro }
/-- 15_retained_state_nvm R575: NVM_LOCK_STAT.WRITE_OPEN, RO. -/
def Reg.NVM_LOCK_STAT.WRITE_OPEN : Fld := { base := 0xE002C, lo := 8, width := 8, ty := .ro }
/-- 15_retained_state_nvm R575: NVM_LOCK_STAT.LOCKED_OUT, RO. -/
def Reg.NVM_LOCK_STAT.LOCKED_OUT : Fld := { base := 0xE002C, lo := 16, width := 8, ty := .ro }
/-- 15_retained_state_nvm R575: NVM_FIT.READ_REF, RO. -/
def Reg.NVM_FIT.READ_REF : Fld := { base := 0xE0030, lo := 0, width := 8, ty := .ro, ret := true, reset := fun _ => 128 }
/-- 15_retained_state_nvm R575: NVM_FIT.REFRESH_INT, RO. -/
def Reg.NVM_FIT.REFRESH_INT : Fld := { base := 0xE0030, lo := 16, width := 10, ty := .ro, ret := true, reset := fun _ => 365 }
/-- 15_retained_state_nvm R575: NVM_CLR.CLR_ERR, WO. -/
def Reg.NVM_CLR.CLR_ERR : Fld := { base := 0xE0034, lo := 0, width := 1, ty := .wo }
/-- 15_retained_state_nvm R575: NVM_BANK.BUSY, RO. -/
def Reg.NVM_BANK.BUSY : Fld := { base := 0xE0100, stride := 0x4, count := 16, lo := 0, width := 1, ty := .ro }
/-- 15_retained_state_nvm R575: NVM_BANK.CORRECTED, RO. -/
def Reg.NVM_BANK.CORRECTED : Fld := { base := 0xE0100, stride := 0x4, count := 16, lo := 8, width := 16, ty := .ro }
/-- 15_retained_state_nvm R575: NVM_BANK.UNCORRECTABLE, RO. -/
def Reg.NVM_BANK.UNCORRECTABLE : Fld := { base := 0xE0100, stride := 0x4, count := 16, lo := 24, width := 8, ty := .ro }
/-- 15_retained_state_nvm R575: NVM_REGION.READ_FAILS, RO. -/
def Reg.NVM_REGION.READ_FAILS : Fld := { base := 0xE0200, stride := 0x4, count := 8, lo := 0, width := 5, ty := .ro, ret := true }
/-- 15_retained_state_nvm R575: NVM_REGION.WRITE_FAILS, RO. -/
def Reg.NVM_REGION.WRITE_FAILS : Fld := { base := 0xE0200, stride := 0x4, count := 8, lo := 8, width := 5, ty := .ro, ret := true }
/-- 15_retained_state_nvm R575: NVM_REGION.LOCK_LEFT, RO. -/
def Reg.NVM_REGION.LOCK_LEFT : Fld := { base := 0xE0200, stride := 0x4, count := 8, lo := 16, width := 16, ty := .ro }
/-- 16_panel R608: PANEL_CAP.MAX_W, RO. -/
def Reg.PANEL_CAP.MAX_W : Fld := { base := 0xC0004, lo := 0, width := 11, ty := .ro, reset := fun _ => 1600 }
/-- 16_panel R608: PANEL_CAP.MAX_H, RO. -/
def Reg.PANEL_CAP.MAX_H : Fld := { base := 0xC0004, lo := 11, width := 11, ty := .ro, reset := fun _ => 1200 }
/-- 16_panel R608: PANEL_CAP.RECTS, RO. -/
def Reg.PANEL_CAP.RECTS : Fld := { base := 0xC0004, lo := 22, width := 4, ty := .ro, reset := fun _ => 8 }
/-- 16_panel R608: PANEL_CFG.EN, RW. -/
def Reg.PANEL_CFG.EN : Fld := { base := 0xC0008, lo := 0, width := 1, ty := .rw, ret := true }
/-- 16_panel R608: PANEL_CFG.FL_EN, RW. -/
def Reg.PANEL_CFG.FL_EN : Fld := { base := 0xC0008, lo := 1, width := 1, ty := .rw, ret := true, reset := fun _ => 1 }
/-- 16_panel R608: PANEL_CFG.CLEAR_AT_START, RW. -/
def Reg.PANEL_CFG.CLEAR_AT_START : Fld := { base := 0xC0008, lo := 2, width := 1, ty := .rw, ret := true, reset := fun _ => 1 }
/-- 16_panel R608: PANEL_CFG.CLEAR_LEVEL, RW. -/
def Reg.PANEL_CFG.CLEAR_LEVEL : Fld := { base := 0xC0008, lo := 4, width := 4, ty := .rw, ret := true, reset := fun _ => 15 }
/-- 16_panel R608: PANEL_CFG.RAIL_HOLD, RW. -/
def Reg.PANEL_CFG.RAIL_HOLD : Fld := { base := 0xC0008, lo := 8, width := 8, ty := .rw, ret := true, reset := fun _ => 20 }
/-- 16_panel R608: PANEL_GEOM.WIDTH, RW. -/
def Reg.PANEL_GEOM.WIDTH : Fld := { base := 0xC000C, lo := 0, width := 11, ty := .rw, ret := true, reset := fun _ => 1600, ok := fun v => 64 ≤ v && v ≤ 1600 }
/-- 16_panel R608: PANEL_GEOM.HEIGHT, RW. -/
def Reg.PANEL_GEOM.HEIGHT : Fld := { base := 0xC000C, lo := 16, width := 11, ty := .rw, ret := true, reset := fun _ => 1200, ok := fun v => 64 ≤ v && v ≤ 1200 }
/-- 16_panel R608: PANEL_TIMING.CLKDIV, RW. -/
def Reg.PANEL_TIMING.CLKDIV : Fld := { base := 0xC0010, lo := 0, width := 4, ty := .rw, ret := true, reset := fun _ => 4, ok := fun v => 4 ≤ v }
/-- 16_panel R608: PANEL_TIMING.LINE_GAP, RW. -/
def Reg.PANEL_TIMING.LINE_GAP : Fld := { base := 0xC0010, lo := 8, width := 8, ty := .rw, ret := true, reset := fun _ => 20, ok := fun v => 8 ≤ v }
/-- 16_panel R608: PANEL_STAT.RAILS, RO. -/
def Reg.PANEL_STAT.RAILS : Fld := { base := 0xC0014, lo := 0, width := 2, ty := .ro }
/-- 16_panel R608: PANEL_STAT.RUNNING, RO. -/
def Reg.PANEL_STAT.RUNNING : Fld := { base := 0xC0014, lo := 2, width := 4, ty := .ro }
/-- 16_panel R608: PANEL_STAT.WAITING, RO. -/
def Reg.PANEL_STAT.WAITING : Fld := { base := 0xC0014, lo := 6, width := 6, ty := .ro }
/-- 16_panel R608: PANEL_STAT.BAND, RO. -/
def Reg.PANEL_STAT.BAND : Fld := { base := 0xC0014, lo := 12, width := 4, ty := .ro }
/-- 16_panel R608: PANEL_STAT.LIB_VALID, RO. -/
def Reg.PANEL_STAT.LIB_VALID : Fld := { base := 0xC0014, lo := 16, width := 1, ty := .ro, ret := true }
/-- 16_panel R608: PANEL_STAT.RAIL_LATCHED, RO. -/
def Reg.PANEL_STAT.RAIL_LATCHED : Fld := { base := 0xC0014, lo := 17, width := 1, ty := .ro }
/-- 16_panel R608: PANEL_STAT.CLEAR_DONE, RO. -/
def Reg.PANEL_STAT.CLEAR_DONE : Fld := { base := 0xC0014, lo := 18, width := 1, ty := .ro }
/-- 16_panel R608: PANEL_STAT.FL_ON, RO. -/
def Reg.PANEL_STAT.FL_ON : Fld := { base := 0xC0014, lo := 19, width := 1, ty := .ro }
/-- 16_panel R608: PANEL_STAT.FL_FAULT, RO. -/
def Reg.PANEL_STAT.FL_FAULT : Fld := { base := 0xC0014, lo := 20, width := 1, ty := .ro }
/-- 16_panel R608: PANEL_STAT.TEMP_FALLBACK, RO. -/
def Reg.PANEL_STAT.TEMP_FALLBACK : Fld := { base := 0xC0014, lo := 21, width := 1, ty := .ro }
/-- 16_panel R608: PANEL_STAT.WRITE_REJECTED, W1C. -/
def Reg.PANEL_STAT.WRITE_REJECTED : Fld := { base := 0xC0014, lo := 22, width := 1, ty := .w1c }
/-- 16_panel R608: PANEL_FB.BASE, RO. -/
def Reg.PANEL_FB.BASE : Fld := { base := 0xC0018, lo := 0, width := 19, ty := .ro }
/-- 16_panel R608: PANEL_WF.BASE, RO. -/
def Reg.PANEL_WF.BASE : Fld := { base := 0xC001C, lo := 0, width := 19, ty := .ro }
/-- 16_panel R608: PANEL_WF.SLOT, RO. -/
def Reg.PANEL_WF.SLOT : Fld := { base := 0xC001C, lo := 20, width := 1, ty := .ro, ret := true }
/-- 16_panel R608: PANEL_TEMP.SOURCE, RW. -/
def Reg.PANEL_TEMP.SOURCE : Fld := { base := 0xC0020, lo := 0, width := 32, ty := .rw, ret := true }
/-- 16_panel R608: PANEL_VCOM.VCOM, RW. -/
def Reg.PANEL_VCOM.VCOM : Fld := { base := 0xC0024, lo := 0, width := 9, ty := .rw, ret := true, reset := fun _ => 150, ok := fun v => v ≤ 300 }
/-- 16_panel R608: PANEL_FL.CURRENT, RW. -/
def Reg.PANEL_FL.CURRENT : Fld := { base := 0xC0028, lo := 0, width := 6, ty := .rw, ret := true, reset := fun _ => 20, ok := fun v => 1 ≤ v && v ≤ 50 }
/-- 16_panel R608: PANEL_FL.LEVEL, RW. -/
def Reg.PANEL_FL.LEVEL : Fld := { base := 0xC0028, lo := 16, width := 10, ty := .rw, ret := true, reset := fun _ => 500, ok := fun v => v ≤ 1000 }
/-- 16_panel R608: PANEL_CRC.CRC, RO. -/
def Reg.PANEL_CRC.CRC : Fld := { base := 0xC002C, lo := 0, width := 32, ty := .ro }
/-- 16_panel R608: PANEL_LIB_ID.CRC, RO. -/
def Reg.PANEL_LIB_ID.CRC : Fld := { base := 0xC0030, lo := 0, width := 32, ty := .ro, ret := true }
/-- 16_panel R608: PANEL_BOOST.DUTY_VGH, RO. -/
def Reg.PANEL_BOOST.DUTY_VGH : Fld := { base := 0xC0034, lo := 0, width := 8, ty := .ro }
/-- 16_panel R608: PANEL_BOOST.DUTY_VGL, RO. -/
def Reg.PANEL_BOOST.DUTY_VGL : Fld := { base := 0xC0034, lo := 8, width := 8, ty := .ro }
/-- 16_panel R608: PANEL_BOOST.DUTY_VSH, RO. -/
def Reg.PANEL_BOOST.DUTY_VSH : Fld := { base := 0xC0034, lo := 16, width := 8, ty := .ro }
/-- 16_panel R608: PANEL_BOOST.DUTY_VSL, RO. -/
def Reg.PANEL_BOOST.DUTY_VSL : Fld := { base := 0xC0034, lo := 24, width := 8, ty := .ro }
/-- 16_panel R608: PANEL_COUNT.UPDATES, RO. -/
def Reg.PANEL_COUNT.UPDATES : Fld := { base := 0xC0038, lo := 0, width := 24, ty := .ro }
/-- 16_panel R608: PANEL_COUNT.RAIL_FAULTS, RO. -/
def Reg.PANEL_COUNT.RAIL_FAULTS : Fld := { base := 0xC0038, lo := 24, width := 8, ty := .ro }
/-- 16_panel R608: PANEL_BAND.LOWER0, RW. -/
def Reg.PANEL_BAND.LOWER0 : Fld := { base := 0xC0040, stride := 0x4, count := 4, lo := 0, width := 8, ty := .rw, ret := true, reset := fun i => 3 * (4 * i + 0) }
/-- 16_panel R608: PANEL_BAND.LOWER1, RW. -/
def Reg.PANEL_BAND.LOWER1 : Fld := { base := 0xC0040, stride := 0x4, count := 4, lo := 8, width := 8, ty := .rw, ret := true, reset := fun i => 3 * (4 * i + 1) }
/-- 16_panel R608: PANEL_BAND.LOWER2, RW. -/
def Reg.PANEL_BAND.LOWER2 : Fld := { base := 0xC0040, stride := 0x4, count := 4, lo := 16, width := 8, ty := .rw, ret := true, reset := fun i => 3 * (4 * i + 2) }
/-- 16_panel R608: PANEL_BAND.LOWER3, RW. -/
def Reg.PANEL_BAND.LOWER3 : Fld := { base := 0xC0040, stride := 0x4, count := 4, lo := 24, width := 8, ty := .rw, ret := true, reset := fun i => 3 * (4 * i + 3) }
/-- 17_keys R625: KEYS_CAP.KEYS, RO. -/
def Reg.KEYS_CAP.KEYS : Fld := { base := 0xD0004, lo := 0, width := 8, ty := .ro, reset := fun _ => 144 }
/-- 17_keys R625: KEYS_CAP.ENCODERS, RO. -/
def Reg.KEYS_CAP.ENCODERS : Fld := { base := 0xD0004, lo := 8, width := 4, ty := .ro, reset := fun _ => 4 }
/-- 17_keys R625: KEYS_CFG.ROWS, RW. -/
def Reg.KEYS_CFG.ROWS : Fld := { base := 0xD0008, lo := 0, width := 4, ty := .rw, ret := true, reset := fun _ => 12, ok := fun v => 1 ≤ v && v ≤ 12 }
/-- 17_keys R625: KEYS_CFG.COLS, RW. -/
def Reg.KEYS_CFG.COLS : Fld := { base := 0xD0008, lo := 4, width := 4, ty := .rw, ret := true, reset := fun _ => 12, ok := fun v => 1 ≤ v && v ≤ 12 }
/-- 17_keys R625: KEYS_CFG.DEBOUNCE, RW. -/
def Reg.KEYS_CFG.DEBOUNCE : Fld := { base := 0xD0008, lo := 8, width := 6, ty := .rw, ret := true, reset := fun _ => 20, ok := fun v => 5 ≤ v && v ≤ 50 }
/-- 17_keys R625: KEYS_CFG.GHOST_GUARD, RW. -/
def Reg.KEYS_CFG.GHOST_GUARD : Fld := { base := 0xD0008, lo := 16, width := 1, ty := .rw, ret := true }
/-- 17_keys R625: KEYS_STAT.SCANNING, RO. -/
def Reg.KEYS_STAT.SCANNING : Fld := { base := 0xD000C, lo := 0, width := 1, ty := .ro }
/-- 17_keys R625: KEYS_STAT.LOCKED, RO. -/
def Reg.KEYS_STAT.LOCKED : Fld := { base := 0xD000C, lo := 1, width := 1, ty := .ro, ret := true }
/-- 17_keys R625: KEYS_STAT.SEQ_STEP, RO. -/
def Reg.KEYS_STAT.SEQ_STEP : Fld := { base := 0xD000C, lo := 2, width := 4, ty := .ro }
/-- 17_keys R625: KEYS_STAT.WRITE_REJECTED, W1C. -/
def Reg.KEYS_STAT.WRITE_REJECTED : Fld := { base := 0xD000C, lo := 6, width := 1, ty := .w1c }
/-- 17_keys R625: KEYS_STAT.PRESSED, RO. -/
def Reg.KEYS_STAT.PRESSED : Fld := { base := 0xD000C, lo := 16, width := 8, ty := .ro }
/-- 17_keys R625: KEYS_LOCK.IDLE_TIME, RW. -/
def Reg.KEYS_LOCK.IDLE_TIME : Fld := { base := 0xD0010, lo := 0, width := 8, ty := .rw, ret := true }
/-- 17_keys R625: KEYS_LOCK.STEP_TIME, RW. -/
def Reg.KEYS_LOCK.STEP_TIME : Fld := { base := 0xD0010, lo := 8, width := 8, ty := .rw, ret := true, reset := fun _ => 30, ok := fun v => 5 ≤ v }
/-- 17_keys R625: KEYS_LOCK.LOCK_ENC, RW. -/
def Reg.KEYS_LOCK.LOCK_ENC : Fld := { base := 0xD0010, lo := 16, width := 1, ty := .rw, ret := true, reset := fun _ => 1 }
/-- 17_keys R625: KEYS_UNLOCK_LO.SEQ0_3, RW. -/
def Reg.KEYS_UNLOCK_LO.SEQ0_3 : Fld := { base := 0xD0014, lo := 0, width := 32, ty := .rw, ret := true, reset := fun _ => 4294967295 }
/-- 17_keys R625: KEYS_UNLOCK_HI.SEQ4_7, RW. -/
def Reg.KEYS_UNLOCK_HI.SEQ4_7 : Fld := { base := 0xD0018, lo := 0, width := 32, ty := .rw, ret := true, reset := fun _ => 4294967295 }
/-- 17_keys R625: KEYS_IRQ.PENDING, W1C. -/
def Reg.KEYS_IRQ.PENDING : Fld := { base := 0xD001C, lo := 0, width := 1, ty := .w1c }
/-- 17_keys R625: KEYS_IRQ.IRQ_EN, RW. -/
def Reg.KEYS_IRQ.IRQ_EN : Fld := { base := 0xD001C, lo := 1, width := 1, ty := .rw, ret := true, reset := fun _ => 1 }
/-- 17_keys R625: KEYS_PRESSED.BITS, RO. -/
def Reg.KEYS_PRESSED.BITS : Fld := { base := 0xD0020, stride := 0x4, count := 5, lo := 0, width := 32, ty := .ro }
/-- 17_keys R625: ENC_CFG.DETENT, RW. -/
def Reg.ENC_CFG.DETENT : Fld := { base := 0xD0100, stride := 0x10, count := 4, lo := 0, width := 2, ty := .rw, ret := true, reset := fun _ => 3 }
/-- 17_keys R625: ENC_CFG.DIR, RW. -/
def Reg.ENC_CFG.DIR : Fld := { base := 0xD0100, stride := 0x10, count := 4, lo := 2, width := 1, ty := .rw, ret := true }
/-- 17_keys R625: ENC_STAT.ERRORS, RO. -/
def Reg.ENC_STAT.ERRORS : Fld := { base := 0xD0104, stride := 0x10, count := 4, lo := 0, width := 16, ty := .ro }
/-- 17_keys R625: ENC_VAL.VALUE, RO. -/
def Reg.ENC_VAL.VALUE : Fld := { base := 0xD0108, stride := 0x10, count := 4, lo := 0, width := 64, ty := .ro }
/-- 18_fitting R640: FITSEC_CAP.MARGINS, RO. -/
def Reg.FITSEC_CAP.MARGINS : Fld := { base := 0xF0004, lo := 0, width := 8, ty := .ro, reset := fun _ => 10 }
/-- 18_fitting R640: FITSEC_CAP.PATH_MONITORS, RO. -/
def Reg.FITSEC_CAP.PATH_MONITORS : Fld := { base := 0xF0004, lo := 8, width := 8, ty := .ro, reset := fun _ => 64 }
/-- 18_fitting R640: FITSEC_CAP.SECURITY, RO. -/
def Reg.FITSEC_CAP.SECURITY : Fld := { base := 0xF0004, lo := 16, width := 1, ty := .ro, reset := fun _ => 1 }
/-- 18_fitting R640: FITSEC_CAP.DEBUG, RO. -/
def Reg.FITSEC_CAP.DEBUG : Fld := { base := 0xF0004, lo := 17, width := 1, ty := .ro, reset := fun _ => 1 }
/-- 18_fitting R640: FITSEC_CAP.RECOVERY, RO. -/
def Reg.FITSEC_CAP.RECOVERY : Fld := { base := 0xF0004, lo := 18, width := 1, ty := .ro, reset := fun _ => 1 }
/-- 18_fitting R641: FIT_CFG.INTERVAL, RW. -/
def Reg.FIT_CFG.INTERVAL : Fld := { base := 0xF0100, lo := 0, width := 8, ty := .rw, ret := true, reset := fun _ => 24, ok := fun v => 1 ≤ v && v ≤ 168 }
/-- 18_fitting R641: FIT_CFG.LOCK_MASK, RWS. -/
def Reg.FIT_CFG.LOCK_MASK : Fld := { base := 0xF0100, lo := 8, width := 8, ty := .rws, ret := true }
/-- 18_fitting R641: FIT_CFG.FORECAST_DAYS, RW. -/
def Reg.FIT_CFG.FORECAST_DAYS : Fld := { base := 0xF0100, lo := 16, width := 12, ty := .rw, ret := true, reset := fun _ => 180, ok := fun v => 1 ≤ v && v ≤ 3650 }
/-- 18_fitting R641: FIT_CFG2.PATH_LO, RW. -/
def Reg.FIT_CFG2.PATH_LO : Fld := { base := 0xF0104, lo := 0, width := 8, ty := .rw, ret := true, reset := fun _ => 12, ok := fun v => 5 ≤ v && v ≤ 50 }
/-- 18_fitting R641: FIT_CFG2.PATH_HI, RW. -/
def Reg.FIT_CFG2.PATH_HI : Fld := { base := 0xF0104, lo := 8, width := 8, ty := .rw, ret := true, reset := fun _ => 25 }
/-- 18_fitting R641: FIT_CFG2.PATH_FLOOR, RW. -/
def Reg.FIT_CFG2.PATH_FLOOR : Fld := { base := 0xF0104, lo := 16, width := 8, ty := .rw, ret := true, reset := fun _ => 5 }
/-- 18_fitting R641: FIT_STAT.ACTIVE, RO. -/
def Reg.FIT_STAT.ACTIVE : Fld := { base := 0xF0108, lo := 0, width := 1, ty := .ro }
/-- 18_fitting R641: FIT_STAT.STEP, RO. -/
def Reg.FIT_STAT.STEP : Fld := { base := 0xF0108, lo := 1, width := 3, ty := .ro }
/-- 18_fitting R641: FIT_STAT.WRITE_REJECTED, W1C. -/
def Reg.FIT_STAT.WRITE_REJECTED : Fld := { base := 0xF0108, lo := 4, width := 1, ty := .w1c }
/-- 18_fitting R641: FIT_STAT.LOWEST, RO. -/
def Reg.FIT_STAT.LOWEST : Fld := { base := 0xF0108, lo := 8, width := 4, ty := .ro }
/-- 18_fitting R641: FIT_STAT.LOWEST_MARGIN, RO. -/
def Reg.FIT_STAT.LOWEST_MARGIN : Fld := { base := 0xF0108, lo := 16, width := 8, ty := .ro, reset := fun _ => 100 }
/-- 18_fitting R641: FIT_PASS.COUNT, RO. -/
def Reg.FIT_PASS.COUNT : Fld := { base := 0xF010C, lo := 0, width := 32, ty := .ro, ret := true }
/-- 18_fitting R641: FIT_NEXT.TICK, RO. -/
def Reg.FIT_NEXT.TICK : Fld := { base := 0xF0110, lo := 0, width := 64, ty := .ro }
/-- 18_fitting R641: FIT_PATH.LOWEST, RO. -/
def Reg.FIT_PATH.LOWEST : Fld := { base := 0xF0118, lo := 0, width := 8, ty := .ro }
/-- 18_fitting R641: FIT_PATH.MONITOR, RO. -/
def Reg.FIT_PATH.MONITOR : Fld := { base := 0xF0118, lo := 8, width := 6, ty := .ro }
/-- 18_fitting R641: FIT_PATH.MEAN, RO. -/
def Reg.FIT_PATH.MEAN : Fld := { base := 0xF0118, lo := 16, width := 8, ty := .ro }
/-- 18_fitting R641: FIT_LOG_STAT.ENTRIES, RO. -/
def Reg.FIT_LOG_STAT.ENTRIES : Fld := { base := 0xF011C, lo := 0, width := 13, ty := .ro, ret := true }
/-- 18_fitting R641: FIT_LOG_STAT.NEXT, RO. -/
def Reg.FIT_LOG_STAT.NEXT : Fld := { base := 0xF011C, lo := 16, width := 13, ty := .ro, ret := true }
/-- 18_fitting R641: FIT_MARGIN.MARGIN, RO. -/
def Reg.FIT_MARGIN.MARGIN : Fld := { base := 0xF0200, stride := 0x4, count := 10, lo := 0, width := 8, ty := .ro, ret := true }
/-- 18_fitting R641: FIT_MARGIN.VALID, RO. -/
def Reg.FIT_MARGIN.VALID : Fld := { base := 0xF0200, stride := 0x4, count := 10, lo := 8, width := 1, ty := .ro }
/-- 18_fitting R641: FIT_MARGIN.FORECAST, RO. -/
def Reg.FIT_MARGIN.FORECAST : Fld := { base := 0xF0200, stride := 0x4, count := 10, lo := 16, width := 16, ty := .ro, reset := fun _ => 65535 }
/-- 18_fitting R641: FIT_COIL.R_COMM, RO. -/
def Reg.FIT_COIL.R_COMM : Fld := { base := 0xF0400, stride := 0x4, count := 32, lo := 0, width := 16, ty := .ro, ret := true }
/-- 18_fitting R641: FIT_COIL.R_NOW, RO. -/
def Reg.FIT_COIL.R_NOW : Fld := { base := 0xF0400, stride := 0x4, count := 32, lo := 16, width := 16, ty := .ro }
/-- 19_security R657: SEC_STAT.IDENTITY_OK, RO. -/
def Reg.SEC_STAT.IDENTITY_OK : Fld := { base := 0xF1000, lo := 0, width := 1, ty := .ro }
/-- 19_security R657: SEC_STAT.MANIFEST, RO. -/
def Reg.SEC_STAT.MANIFEST : Fld := { base := 0xF1000, lo := 1, width := 1, ty := .ro, ret := true }
/-- 19_security R657: SEC_STAT.ENTRIES, RO. -/
def Reg.SEC_STAT.ENTRIES : Fld := { base := 0xF1000, lo := 16, width := 13, ty := .ro, ret := true }
/-- 19_security R657: SEC_OWNER_COUNT.COUNT, RO. -/
def Reg.SEC_OWNER_COUNT.COUNT : Fld := { base := 0xF1004, lo := 0, width := 32, ty := .ro, ret := true }
/-- 19_security R657: SEC_ID_FPR_LO.FPR, RO. -/
def Reg.SEC_ID_FPR_LO.FPR : Fld := { base := 0xF1008, lo := 0, width := 32, ty := .ro }
/-- 19_security R657: SEC_ID_FPR_HI.FPR, RO. -/
def Reg.SEC_ID_FPR_HI.FPR : Fld := { base := 0xF100C, lo := 0, width := 32, ty := .ro }
/-- 19_security R657: SEC_OWNER_FPR_LO.FPR, RO. -/
def Reg.SEC_OWNER_FPR_LO.FPR : Fld := { base := 0xF1010, lo := 0, width := 32, ty := .ro, ret := true }
/-- 19_security R657: SEC_OWNER_FPR_HI.FPR, RO. -/
def Reg.SEC_OWNER_FPR_HI.FPR : Fld := { base := 0xF1014, lo := 0, width := 32, ty := .ro, ret := true }
/-- 19_security R657: FW_STAT.ACTIVE, RO. -/
def Reg.FW_STAT.ACTIVE : Fld := { base := 0xF1018, lo := 0, width := 1, ty := .ro }
/-- 19_security R657: FW_STAT.PREFERRED, RO. -/
def Reg.FW_STAT.PREFERRED : Fld := { base := 0xF1018, lo := 1, width := 1, ty := .ro, ret := true }
/-- 19_security R657: FW_STAT.TRIAL, RO. -/
def Reg.FW_STAT.TRIAL : Fld := { base := 0xF1018, lo := 2, width := 1, ty := .ro, ret := true }
/-- 19_security R657: FW_STAT.VALID_A, RO. -/
def Reg.FW_STAT.VALID_A : Fld := { base := 0xF1018, lo := 3, width := 1, ty := .ro, ret := true }
/-- 19_security R657: FW_STAT.VALID_B, RO. -/
def Reg.FW_STAT.VALID_B : Fld := { base := 0xF1018, lo := 4, width := 1, ty := .ro, ret := true }
/-- 19_security R657: FW_STAT.FALLBACK, RO. -/
def Reg.FW_STAT.FALLBACK : Fld := { base := 0xF1018, lo := 5, width := 1, ty := .ro }
/-- 19_security R657: FW_STAT.RECOVERY, RO. -/
def Reg.FW_STAT.RECOVERY : Fld := { base := 0xF1018, lo := 6, width := 1, ty := .ro }
/-- 19_security R657: FW_SVN.ACTIVE_SVN, RO. -/
def Reg.FW_SVN.ACTIVE_SVN : Fld := { base := 0xF101C, lo := 0, width := 16, ty := .ro }
/-- 19_security R657: FW_SVN.MIN_SVN, RO. -/
def Reg.FW_SVN.MIN_SVN : Fld := { base := 0xF101C, lo := 16, width := 16, ty := .ro, ret := true }
/-- 19_security R657: FW_REC_CTRL.LENGTH, RW. -/
def Reg.FW_REC_CTRL.LENGTH : Fld := { base := 0xF1020, lo := 0, width := 24, ty := .rw }
/-- 19_security R657: FW_REC_CTRL.GO, WO. -/
def Reg.FW_REC_CTRL.GO : Fld := { base := 0xF1020, lo := 31, width := 1, ty := .wo }
/-- 19_security R657: FW_REC_STAT.BUSY, RO. -/
def Reg.FW_REC_STAT.BUSY : Fld := { base := 0xF1024, lo := 0, width := 1, ty := .ro }
/-- 19_security R657: FW_REC_STAT.PASSED, RO. -/
def Reg.FW_REC_STAT.PASSED : Fld := { base := 0xF1024, lo := 1, width := 1, ty := .ro }
/-- 19_security R657: FW_REC_STAT.CHECK, RO. -/
def Reg.FW_REC_STAT.CHECK : Fld := { base := 0xF1024, lo := 8, width := 3, ty := .ro }
/-- 19_security R657: FW_REC_STAT.ATTEMPTS, RO. -/
def Reg.FW_REC_STAT.ATTEMPTS : Fld := { base := 0xF1024, lo := 16, width := 16, ty := .ro }
/-- 20_faults_interplay R667: GLOBAL_FAULT_STAT.STOPPED_A, RO. -/
def Reg.GLOBAL_FAULT_STAT.STOPPED_A : Fld := { base := 0x28, lo := 0, width := 1, ty := .ro }
/-- 20_faults_interplay R667: GLOBAL_FAULT_STAT.STOPPED_B, RO. -/
def Reg.GLOBAL_FAULT_STAT.STOPPED_B : Fld := { base := 0x28, lo := 1, width := 1, ty := .ro }
/-- 20_faults_interplay R667: GLOBAL_FAULT_STAT.LAST_CAUSE, RO. -/
def Reg.GLOBAL_FAULT_STAT.LAST_CAUSE : Fld := { base := 0x28, lo := 8, width := 8, ty := .ro, ret := true }
/-- 20_faults_interplay R667: GLOBAL_FAULT_STAT.ENTRIES, RO. -/
def Reg.GLOBAL_FAULT_STAT.ENTRIES : Fld := { base := 0x28, lo := 16, width := 5, ty := .ro, ret := true }
/-- 20_faults_interplay R667: GLOBAL_FAULT_CNT.RECOVERED, RO. -/
def Reg.GLOBAL_FAULT_CNT.RECOVERED : Fld := { base := 0x2C, lo := 0, width := 16, ty := .ro }
/-- 20_faults_interplay R667: GLOBAL_FAULT_CNT.UNRECOVERABLE, RO. -/
def Reg.GLOBAL_FAULT_CNT.UNRECOVERABLE : Fld := { base := 0x2C, lo := 16, width := 16, ty := .ro, ret := true }
/-- 20_faults_interplay R667: GLOBAL_FAULT_LOG.BYTES, RO. -/
def Reg.GLOBAL_FAULT_LOG.BYTES : Fld := { base := 0x400, stride := 0x4, count := 128, lo := 0, width := 32, ty := .ro, ret := true }
/-- 21_freeze_debug R693: DBG_CFG.FRZ_EN, RWS. -/
def Reg.DBG_CFG.FRZ_EN : Fld := { base := 0xF2000, lo := 0, width := 1, ty := .rws, ret := true, reset := fun _ => 1 }
/-- 21_freeze_debug R693: DBG_CFG.QUILT_FRZ, RW. -/
def Reg.DBG_CFG.QUILT_FRZ : Fld := { base := 0xF2000, lo := 1, width := 1, ty := .rw, ret := true }
/-- 21_freeze_debug R693: DBG_CFG.RO_OPEN, RWS. -/
def Reg.DBG_CFG.RO_OPEN : Fld := { base := 0xF2000, lo := 2, width := 1, ty := .rws, ret := true }
/-- 21_freeze_debug R693: DBG_STAT.FROZEN, RO. -/
def Reg.DBG_STAT.FROZEN : Fld := { base := 0xF2004, lo := 0, width := 1, ty := .ro }
/-- 21_freeze_debug R693: DBG_STAT.QUILT, RO. -/
def Reg.DBG_STAT.QUILT : Fld := { base := 0xF2004, lo := 1, width := 1, ty := .ro }
/-- 21_freeze_debug R693: DBG_STAT.RO_DENIED, W1C. -/
def Reg.DBG_STAT.RO_DENIED : Fld := { base := 0xF2004, lo := 2, width := 1, ty := .w1c }
/-- 21_freeze_debug R693: DBG_STAT.EXTEST_REFUSED, W1C. -/
def Reg.DBG_STAT.EXTEST_REFUSED : Fld := { base := 0xF2004, lo := 3, width := 1, ty := .w1c }
/-- 21_freeze_debug R693: DBG_STAT.WR_DISCARDED, RO. -/
def Reg.DBG_STAT.WR_DISCARDED : Fld := { base := 0xF2004, lo := 16, width := 16, ty := .ro }
/-- 21_freeze_debug R693: DBG_RO_SEL.SPACE, RW. -/
def Reg.DBG_RO_SEL.SPACE : Fld := { base := 0xF2008, lo := 0, width := 3, ty := .rw, ok := fun v => v ≤ 3 }
/-- 21_freeze_debug R693: DBG_RO_SEL.INDEX, RW. -/
def Reg.DBG_RO_SEL.INDEX : Fld := { base := 0xF2008, lo := 8, width := 16, ty := .rw }
/-- 21_freeze_debug R693: DBG_RO_DATA.DATA, RO. -/
def Reg.DBG_RO_DATA.DATA : Fld := { base := 0xF200C, lo := 0, width := 32, ty := .ro }
/-- 21_freeze_debug R693: DBG_RO_CTRL.THAW, WO. -/
def Reg.DBG_RO_CTRL.THAW : Fld := { base := 0xF2010, lo := 0, width := 1, ty := .wo }
/-- 21_freeze_debug R693: DBG_FREEZE_TICK.TICK, RO. -/
def Reg.DBG_FREEZE_TICK.TICK : Fld := { base := 0xF2018, lo := 0, width := 64, ty := .ro }
/-- R50 (01_architecture.md): the ID word of block `i`. -/
def Reg.BLOCK_ID.WORD : Fld := { base := 0x0, stride := 0x10000, count := 16, lo := 0, width := 32, ty := .ro, reset := fun i => 0xE5C00001 + 256 * i }
/-- R68 (01_architecture.md): GLOBAL_TICK_LO. -/
def Reg.GLOBAL_TICK_LO.VALUE : Fld := { base := 0x18, lo := 0, width := 32, ty := .ro }
/-- R68 (01_architecture.md): GLOBAL_TICK_HI reads the latch. -/
def Reg.GLOBAL_TICK_HI.VALUE : Fld := { base := 0x1C, lo := 0, width := 32, ty := .ro }
/-- R488 (12_host_rings.md): 32-bit half `i % 4` of MSI-X table entry `i / 4`; the mask bit of a vector control is 1 at reset (PCI Express: PRESUMED, log entry 12). -/
def Reg.MSIX_TABLE.WORD : Fld := { base := 0x18000, stride := 4, count := 256, lo := 0, width := 32, ty := .rw, reset := fun i => if i % 4 = 3 then 1 else 0 }
/-- R488 (12_host_rings.md): MSI-X pending bits. -/
def Reg.MSIX_PBA.BITS : Fld := { base := 0x19000, stride := 4, count := 2, lo := 0, width := 32, ty := .ro }

/-- The registers of block GLOBAL, each with its fields. -/
def regRowsGLOBAL : List (List Fld) := [
  [Reg.GLOBAL_CAP.STEPPING, Reg.GLOBAL_CAP.BL_MAX, Reg.GLOBAL_CAP.FIELD_A, Reg.GLOBAL_CAP.FIELD_B],
  [Reg.GLOBAL_GRADE.GRADE, Reg.GLOBAL_GRADE.TEMP],
  [Reg.GLOBAL_BLSEL.BL_REQ, Reg.GLOBAL_BLSEL.BL_ACTIVE, Reg.GLOBAL_BLSEL.BL_FALLBACK, Reg.GLOBAL_BLSEL.BL_WRITE_REJECTED],
  [Reg.GLOBAL_DEVNUM.DEVNUM, Reg.GLOBAL_DEVNUM.DEVNUM_SET, Reg.GLOBAL_DEVNUM.DEVNUM_ACTIVE, Reg.GLOBAL_DEVNUM.ACTIVE_VALID],
  [Reg.GLOBAL_SEAL.SEAL, Reg.GLOBAL_SEAL.OWNER_STATE, Reg.GLOBAL_SEAL.SEAL_REFUSED],
  [Reg.GLOBAL_MEMERR.CORRECTED, Reg.GLOBAL_MEMERR.UNCORRECTABLE],
  [Reg.GLOBAL_MEMERR_CLR.CLR_CORRECTED, Reg.GLOBAL_MEMERR_CLR.CLR_UNCORRECTABLE],
  [Reg.BUS_CFG.MODE, Reg.BUS_CFG.BAUD, Reg.BUS_CFG.DE_TAIL, Reg.BUS_CFG.AUTO_TEST],
  [Reg.BUS_FRAME.DATA7, Reg.BUS_FRAME.PARITY, Reg.BUS_FRAME.STOP2, Reg.BUS_FRAME.RAW_GAP],
  [Reg.BUS_MSTP.MAC, Reg.BUS_MSTP.MAX_MASTER, Reg.BUS_MSTP.MAX_INFO, Reg.BUS_MSTP.REPLY_WAIT],
  [Reg.BUS_MB.TIMEOUT, Reg.BUS_MB.RETRIES, Reg.BUS_MB.ERR_LIMIT, Reg.BUS_MB.POLL_RUN],
  [Reg.BUS_STAT.MODE, Reg.BUS_STAT.TOKEN, Reg.BUS_STAT.SOLE_MASTER, Reg.BUS_STAT.POLL_ACTIVE, Reg.BUS_STAT.WRITE_REJECTED, Reg.BUS_STAT.NEXT_STATION, Reg.BUS_STAT.RX_HELD, Reg.BUS_STAT.RECV_POSTED],
  [Reg.BUS_ERRCNT.CRC, Reg.BUS_ERRCNT.FRAMING, Reg.BUS_ERRCNT.DROPPED, Reg.BUS_ERRCNT.TIMEOUTS],
  [Reg.T1L_ERRCNT.CRC, Reg.T1L_ERRCNT.FRAMING, Reg.T1L_ERRCNT.DROPPED, Reg.T1L_ERRCNT.TIMEOUTS],
  [Reg.T1L_CFG.ENABLE, Reg.T1L_CFG.AMP_HIGH, Reg.T1L_CFG.AUTONEG, Reg.T1L_CFG.PROMISC, Reg.T1L_CFG.BCAST, Reg.T1L_CFG.MCAST_ALL],
  [Reg.T1L_MAC_LO.ADDR],
  [Reg.T1L_MAC_HI.ADDR],
  [Reg.T1L_HASH_LO.HASH],
  [Reg.T1L_HASH_HI.HASH],
  [Reg.T1L_STAT.LINK_UP, Reg.T1L_STAT.AMP, Reg.T1L_STAT.SQI, Reg.T1L_STAT.RX_HELD],
  [Reg.PWR_CFG.WARN_LEVEL, Reg.PWR_CFG.DIP_SAFE],
  [Reg.PWR_WARN.EFFECTIVE, Reg.PWR_WARN.FIT_LEVEL],
  [Reg.PWR_STAT.PFW, Reg.PWR_STAT.DIP, Reg.PWR_STAT.SAVING, Reg.PWR_STAT.SAVE_DONE, Reg.PWR_STAT.VCORE_RAMP, Reg.PWR_STAT.PMBUS_OK, Reg.PWR_STAT.WRITE_REJECTED, Reg.PWR_STAT.START_STEP, Reg.PWR_STAT.LAST_RESET],
  [Reg.PWR_VOLT.VL24, Reg.PWR_VOLT.VHOLD],
  [Reg.PWR_DIP.COUNT, Reg.PWR_DIP.LAST_MIN],
  [Reg.PWR_VCORE.TARGET, Reg.PWR_VCORE.READ],
  [Reg.PWR_PMBUS.ADDR, Reg.PWR_PMBUS.PEC, Reg.PWR_PMBUS.EN],
  [Reg.PWR_HOLDUP.CAP, Reg.PWR_HOLDUP.ESR],
  [Reg.PWR_CLR.CLR_DIP],
  [Reg.GLOBAL_FAULT_STAT.STOPPED_A, Reg.GLOBAL_FAULT_STAT.STOPPED_B, Reg.GLOBAL_FAULT_STAT.LAST_CAUSE, Reg.GLOBAL_FAULT_STAT.ENTRIES],
  [Reg.GLOBAL_FAULT_CNT.RECOVERED, Reg.GLOBAL_FAULT_CNT.UNRECOVERABLE],
  [Reg.GLOBAL_FAULT_LOG.BYTES],
  [Reg.BLOCK_ID.WORD],
  [Reg.GLOBAL_TICK_LO.VALUE],
  [Reg.GLOBAL_TICK_HI.VALUE]]
/-- The registers of block HOSTQ, each with its fields. -/
def regRowsHOSTQ : List (List Fld) := [
  [Reg.HOSTQ_CAP.SQS, Reg.HOSTQ_CAP.CQS, Reg.HOSTQ_CAP.TRACE, Reg.HOSTQ_CAP.VECTORS],
  [Reg.HOSTQ_STAT.HOST_LOST, Reg.HOSTQ_STAT.LOST_CAUSE, Reg.HOSTQ_STAT.FETCH_PAUSED, Reg.HOSTQ_STAT.WRITE_REJECTED, Reg.HOSTQ_STAT.INFLIGHT],
  [Reg.HOSTQ_WDOG.INTERVAL],
  [Reg.HOSTQ_LOST.COMPLETIONS, Reg.HOSTQ_LOST.EVENTS],
  [Reg.HOSTQ_RR_HEADS.INDEX],
  [Reg.HOSTQ_SUBSYS.SVID, Reg.HOSTQ_SUBSYS.SSID],
  [Reg.SQ_BASE_LO.ADDR_LO],
  [Reg.SQ_BASE_HI.ADDR_HI],
  [Reg.SQ_CFG.SIZE_LOG2, Reg.SQ_CFG.CQ, Reg.SQ_CFG.AUTO_EN],
  [Reg.SQ_CTRL.ENABLE, Reg.SQ_CTRL.FENCE_CLR],
  [Reg.SQ_STAT.HEAD, Reg.SQ_STAT.TAIL, Reg.SQ_STAT.INFLIGHT, Reg.SQ_STAT.FENCED, Reg.SQ_STAT.FAULT],
  [Reg.CQ_BASE_LO.ADDR_LO],
  [Reg.CQ_BASE_HI.ADDR_HI],
  [Reg.EQ_BASE_LO.ADDR_LO],
  [Reg.EQ_BASE_HI.ADDR_HI],
  [Reg.CQ_CFG.SIZE_LOG2, Reg.CQ_CFG.VECTOR, Reg.CQ_CFG.IRQ_EN, Reg.CQ_CFG.AUTO_EN, Reg.CQ_CFG.HOLDOFF],
  [Reg.CQ_CTRL.ENABLE],
  [Reg.CQ_STAT.HEAD, Reg.CQ_STAT.TAIL, Reg.CQ_STAT.PHASE, Reg.CQ_STAT.FULL],
  [Reg.EQ_CFG.SIZE_LOG2, Reg.EQ_CFG.VECTOR, Reg.EQ_CFG.IRQ_EN, Reg.EQ_CFG.AUTO_EN, Reg.EQ_CFG.HOLDOFF],
  [Reg.EQ_CTRL.ENABLE],
  [Reg.EQ_STAT.HEAD, Reg.EQ_STAT.TAIL, Reg.EQ_STAT.PHASE, Reg.EQ_STAT.FULL],
  [Reg.TQ_BASE_LO.ADDR_LO],
  [Reg.TQ_BASE_HI.ADDR_HI],
  [Reg.TQ_CFG.SIZE_LOG2, Reg.TQ_CFG.VECTOR, Reg.TQ_CFG.IRQ_EN, Reg.TQ_CFG.AUTO_EN, Reg.TQ_CFG.HOLDOFF],
  [Reg.TQ_CTRL.ENABLE],
  [Reg.TQ_STAT.HEAD, Reg.TQ_STAT.TAIL],
  [Reg.TQ_WB_LO.ADDR_LO],
  [Reg.TQ_WB_HI.ADDR_HI],
  [Reg.MSIX_TABLE.WORD],
  [Reg.MSIX_PBA.BITS]]
/-- The registers of block QUILT, each with its fields. -/
def regRowsQUILT : List (List Fld) := [
  [Reg.QUILT_TIME_CFG.TIME_PRIO],
  [Reg.QUILT_TIME_STAT.LOCKED, Reg.QUILT_TIME_STAT.IS_MASTER, Reg.QUILT_TIME_STAT.HOLDOVER, Reg.QUILT_TIME_STAT.MASTER_VALID, Reg.QUILT_TIME_STAT.MASTER_DEV, Reg.QUILT_TIME_STAT.MASTER_HOPS],
  [Reg.QUILT_TIME_OFFSET.OFFSET_NS],
  [Reg.QUILT_CLK_STAT.PLL_LOCK, Reg.QUILT_CLK_STAT.PCIE_REF_OK],
  [Reg.QUILT_PATH_DLY.DELAY_NS],
  [Reg.QUILT_CAP.PORTS, Reg.QUILT_CAP.TACK_SLOTS, Reg.QUILT_CAP.CREDITS, Reg.QUILT_CAP.TOKENS],
  [Reg.QUILT_CFG.PORT_EN, Reg.QUILT_CFG.AUTO_REVERT, Reg.QUILT_CFG.REVERT_TIME, Reg.QUILT_CFG.REPORT_DEV, Reg.QUILT_CFG.REPORT_EN],
  [Reg.QUILT_STAT.TRAINED, Reg.QUILT_STAT.REROUTED, Reg.QUILT_STAT.AUDIT_FAIL, Reg.QUILT_STAT.WRITE_REJECTED, Reg.QUILT_STAT.PORTS_UP, Reg.QUILT_STAT.UNREACH],
  [Reg.QUILT_RRING.SERVER, Reg.QUILT_RRING.ENABLE],
  [Reg.QUILT_RWIN_BASE.BASE],
  [Reg.QUILT_RWIN_SIZE.WORDS],
  [Reg.QUILT_RWIN_CLIENT.CLIENT, Reg.QUILT_RWIN_CLIENT.ANY],
  [Reg.QUILT_POOL.FREE, Reg.QUILT_POOL.WAITING],
  [Reg.QUILT_GAPS.DUPS, Reg.QUILT_GAPS.GAPS, Reg.QUILT_GAPS.BAD_TYPE],
  [Reg.PORT_CFG.SLOT_SKIP, Reg.PORT_CFG.LOS_EN, Reg.PORT_CFG.EQ_AUTO],
  [Reg.PORT_STAT.STATE, Reg.PORT_STAT.LOS, Reg.PORT_STAT.ALIGNED, Reg.PORT_STAT.SKIP_SHORT, Reg.PORT_STAT.DOWN_CAUSE],
  [Reg.PORT_NBR.DEV, Reg.PORT_NBR.PORT, Reg.PORT_NBR.VALID, Reg.PORT_NBR.DUPLICATE, Reg.PORT_NBR.NUMBERED],
  [Reg.PORT_ERR.CORRECTED, Reg.PORT_ERR.UNCORRECTABLE],
  [Reg.PORT_RETRY.RESENT, Reg.PORT_RETRY.DOWNS],
  [Reg.PORT_EQ.TX_DEEMPH, Reg.PORT_EQ.RX_CTLE, Reg.PORT_EQ.BY_FITTING],
  [Reg.PORT_TACK.RESERVED, Reg.PORT_TACK.LATE],
  [Reg.PORT_CONS.TX_CREDITS, Reg.PORT_CONS.TX_OUT, Reg.PORT_CONS.RX_USED, Reg.PORT_CONS.RX_FREED],
  [Reg.QUILT_ROUTE.PRIMARY, Reg.QUILT_ROUTE.PRI_VALID, Reg.QUILT_ROUTE.ALTERNATE, Reg.QUILT_ROUTE.ALT_VALID, Reg.QUILT_ROUTE.PRI_HOPS, Reg.QUILT_ROUTE.ALT_HOPS, Reg.QUILT_ROUTE.ON_ALT, Reg.QUILT_ROUTE.UNREACH],
  [Reg.QUILT_TOKEN.CL1, Reg.QUILT_TOKEN.CL2, Reg.QUILT_TOKEN.CL3, Reg.QUILT_TOKEN.GRANTED]]
/-- The registers of block FIELDA, each with its fields. -/
def regRowsFIELDA : List (List Fld) := [
  [Reg.FIELD_CAP.UI, Reg.FIELD_CAP.DI, Reg.FIELD_CAP.DO, Reg.FIELD_CAP.SOL],
  [Reg.FIELD_CFG.HOLD_WIN, Reg.FIELD_CFG.AUTO_RECOVER, Reg.FIELD_CFG.RECOVER_FRAMES],
  [Reg.FIELD_STAT.OUT_STATE, Reg.FIELD_STAT.UP_LINK_OK, Reg.FIELD_STAT.DOWN_LINK_OK, Reg.FIELD_STAT.BARRIER_DOWN, Reg.FIELD_STAT.VF24_LOW, Reg.FIELD_STAT.INT_OSC, Reg.FIELD_STAT.WRITE_REJECTED],
  [Reg.FIELD_DOWN_ERR.LOST],
  [Reg.FIELD_UP_ERR.CRC, Reg.FIELD_UP_ERR.OTHER],
  [Reg.FIELD_HOLD_COUNT.ENTRIES, Reg.FIELD_HOLD_COUNT.LONGEST],
  [Reg.FIELD_SAFE_COUNT.ENTRIES],
  [Reg.FIELD_FRZ_HOLD.LIMIT],
  [Reg.FIELD_ERR_CLR.CLR]]
/-- The registers of block MEAS, each with its fields. -/
def regRowsMEAS : List (List Fld) := [
  [Reg.MEAS_CAP.CONV_PRESENT, Reg.MEAS_CAP.SLOTS, Reg.MEAS_CAP.INTERLEAVE, Reg.MEAS_CAP.GROUP8],
  [Reg.MEAS_CFG.AUTO_CAL, Reg.MEAS_CFG.RECAL_INT],
  [Reg.MEAS_STAT.WRITE_REJECTED, Reg.MEAS_STAT.CAL_BUSY, Reg.MEAS_STAT.CAPTURE_BUSY],
  [Reg.CONV_CTRL.RUN, Reg.CONV_CTRL.PAIR, Reg.CONV_CTRL.LAST, Reg.CONV_CTRL.PASS_INT],
  [Reg.CONV_STAT.RUNNING, Reg.CONV_STAT.POWERED, Reg.CONV_STAT.CALIBRATING, Reg.CONV_STAT.CAPTURING, Reg.CONV_STAT.URGENT_ACTIVE, Reg.CONV_STAT.ENTRY, Reg.CONV_STAT.URGENT_QUEUED],
  [Reg.CAL_OFS.OFS],
  [Reg.CAL_GAIN.GAIN],
  [Reg.PASS_COUNT.PASSES],
  [Reg.OVERRUN_COUNT.OVERRUNS],
  [Reg.CONV_STALE.STALE_TICKS],
  [Reg.ENTRY_A.CHANNEL, Reg.ENTRY_A.GAIN, Reg.ENTRY_A.OSR, Reg.ENTRY_A.OUTS],
  [Reg.ENTRY_B.ACQ],
  [Reg.UI_MODE.MODE, Reg.UI_MODE.BETA],
  [Reg.UI_OFS.OFS],
  [Reg.UI_GAIN.C],
  [Reg.UI_GAIN_SH.S],
  [Reg.SLOT_STAT.REMAIN, Reg.SLOT_STAT.STATUS, Reg.SLOT_STAT.AGE],
  [Reg.SLOT_VAL.VALUE]]
/-- The registers of block LOOP, each with its fields. -/
def regRowsLOOP : List (List Fld) := [
  [Reg.LOOP_CAP.LOOPS, Reg.LOOP_CAP.SECTIONS, Reg.LOOP_CAP.LANES, Reg.LOOP_CAP.CHALK],
  [Reg.LOOP_CTRL.RUN],
  [Reg.LOOP_STAT.RUNNING, Reg.LOOP_STAT.DIP, Reg.LOOP_STAT.SETTING, Reg.LOOP_STAT.HELD],
  [Reg.LOOP_REGION.BASE],
  [Reg.LOOP_POOL.USED],
  [Reg.LOOP_MISSED.MISSED],
  [Reg.LOOP_ADMITTED.COUNT],
  [Reg.LOOP_LANE_LOAD.PROVEN, Reg.LOOP_LANE_LOAD.LOOPS],
  [Reg.CHALK_REGION.BASE],
  [Reg.LOOP_SLOT_STAT.STATE, Reg.LOOP_SLOT_STAT.MODE, Reg.LOOP_SLOT_STAT.LANE, Reg.LOOP_SLOT_STAT.HOLD_CAUSE, Reg.LOOP_SLOT_STAT.FE_ACTIVE, Reg.LOOP_SLOT_STAT.OVERRIDE, Reg.LOOP_SLOT_STAT.SATURATED, Reg.LOOP_SLOT_STAT.SUBSTITUTING, Reg.LOOP_SLOT_STAT.STALE_RUN],
  [Reg.LOOP_SLOT_CNT.LATE, Reg.LOOP_SLOT_CNT.COST],
  [Reg.LOOP_OUT.VALUE],
  [Reg.CHALK_STAT.ARMED, Reg.CHALK_STAT.TRIGGERED, Reg.CHALK_STAT.MODE, Reg.CHALK_STAT.RING, Reg.CHALK_STAT.LOOP],
  [Reg.CHALK_BUF.OFFSET],
  [Reg.CHALK_SIZE.WORDS],
  [Reg.CHALK_COUNT.STREAMED, Reg.CHALK_COUNT.DROPPED],
  [Reg.SCHED_STAT.CIVIL_VALID, Reg.SCHED_STAT.HELD, Reg.SCHED_STAT.PROGRAMS, Reg.SCHED_STAT.ZONES, Reg.SCHED_STAT.ZONES_FULL],
  [Reg.SCHED_VAL.VALUE],
  [Reg.ZONE_STAT.LEVEL, Reg.ZONE_STAT.OCCUPIED, Reg.ZONE_STAT.OVERRIDE, Reg.ZONE_STAT.OPT_ACTIVE, Reg.ZONE_STAT.NOSCHED_USED, Reg.ZONE_STAT.CAUSE, Reg.ZONE_STAT.OVR_LEFT],
  [Reg.ZONE_VAL.VALUE]]
/-- The registers of block PATTERN, each with its fields. -/
def regRowsPATTERN : List (List Fld) := [
  [Reg.PAT_CAP.NODES, Reg.PAT_CAP.BINDINGS, Reg.PAT_CAP.MACS],
  [Reg.PAT_CTRL.RUN, Reg.PAT_CTRL.ADAPT_HOLD],
  [Reg.PAT_STAT.RUNNING, Reg.PAT_STAT.LOADING, Reg.PAT_STAT.TABLE_FAULT, Reg.PAT_STAT.PREDICTING, Reg.PAT_STAT.MODEL_VALID, Reg.PAT_STAT.CATCHUP],
  [Reg.PAT_REGION.BASE],
  [Reg.PAT_CONTRACT.E, Reg.PAT_CONTRACT.RHO_MAX],
  [Reg.PAT_STEP_COUNT.STEPS],
  [Reg.PAT_MISSED.MISSED],
  [Reg.PAT_WORK.CYCLES],
  [Reg.PAT_MODEL_ID.CRC],
  [Reg.PAT_LAST_START.TICK],
  [Reg.PAT_PRED_BASE.TICK],
  [Reg.PAT_SUSPECT.COUNT],
  [Reg.PAT_NODE_VAL.VALUE]]
/-- The registers of block SHUTTLE, each with its fields. -/
def regRowsSHUTTLE : List (List Fld) := [
  [Reg.SHUTTLE_CAP.BANKS, Reg.SHUTTLE_CAP.CHANNELS, Reg.SHUTTLE_CAP.TOKENS, Reg.SHUTTLE_CAP.CODE_WORDS],
  [Reg.SHUTTLE_STAT.LOADING],
  [Reg.SHUTTLE_TOKENS.FREE_A, Reg.SHUTTLE_TOKENS.FREE_B, Reg.SHUTTLE_TOKENS.AUDIT_FAIL_A, Reg.SHUTTLE_TOKENS.AUDIT_FAIL_B],
  [Reg.BANK_CFG.PEAK_OVERLAP, Reg.BANK_CFG.PAIR01, Reg.BANK_CFG.PAIR23, Reg.BANK_CFG.CHOP_FREQ, Reg.BANK_CFG.PEAK_WAIT],
  [Reg.BANK_CFG2.PEAK_MAX],
  [Reg.BANK_STAT.STATE, Reg.BANK_STAT.BANK_FAULT, Reg.BANK_STAT.WAITING, Reg.BANK_STAT.LOAD_PENDING, Reg.BANK_STAT.TOKENS],
  [Reg.BANK_SKIPPED.SKIPPED],
  [Reg.BANK_LIB_ID.CRC],
  [Reg.SOL_CFG.SAFE, Reg.SOL_CFG.RESTORE, Reg.SOL_CFG.PROGRAM, Reg.SOL_CFG.TTP_ACTION, Reg.SOL_CFG.TTP_CHECK],
  [Reg.SOL_TTP.TMIN, Reg.SOL_TTP.TMAX],
  [Reg.SOL_TTP_COMM.TMIN_COMM, Reg.SOL_TTP_COMM.TMAX_COMM],
  [Reg.SOL_STAT.STATE, Reg.SOL_STAT.FAULT_CAUSE, Reg.SOL_STAT.LAST_TTP],
  [Reg.SOL_FAULTS.TTP, Reg.SOL_FAULTS.SKIPPED],
  [Reg.SOL_P.VALUE],
  [Reg.SHUTTLE_ENTRY.ENTRY, Reg.SHUTTLE_ENTRY.RELEASE],
  [Reg.SHUTTLE_CODE.WORD]]
/-- The registers of block FANAO, each with its fields. -/
def regRowsFANAO : List (List Fld) := [
  [Reg.FANAO_CAP.FANS, Reg.FANAO_CAP.AOS],
  [Reg.FAN_CFG.PWM_EN, Reg.FAN_CFG.INVERT, Reg.FAN_CFG.TACH, Reg.FAN_CFG.KICK, Reg.FAN_CFG.SAFE, Reg.FAN_CFG.RESTORE, Reg.FAN_CFG.AO_LINK],
  [Reg.FAN_TIMING.PWM_FREQ, Reg.FAN_TIMING.PPR, Reg.FAN_TIMING.KICK_TIME],
  [Reg.FAN_DIAG.SUPPLY_DO, Reg.FAN_DIAG.RUN_MIN, Reg.FAN_DIAG.RUN_MAX],
  [Reg.FAN_CMD_A.CMD_LO, Reg.FAN_CMD_A.CMD_HI],
  [Reg.FAN_CMD_B.MIN_CMD, Reg.FAN_CMD_B.SAFE_CMD],
  [Reg.FAN_TSRC.SOURCE],
  [Reg.FAN_TLO.TLO],
  [Reg.FAN_THI.THI],
  [Reg.FAN_STAT.STATE, Reg.FAN_STAT.RETRIES, Reg.FAN_STAT.LOSS_CAUSE, Reg.FAN_STAT.CURVE_HOT, Reg.FAN_STAT.APPLIED],
  [Reg.FAN_VAL.VALUE],
  [Reg.AO_CFG.RANGE, Reg.AO_CFG.SAFE, Reg.AO_CFG.RESTORE],
  [Reg.AO_SAFE.VALUE],
  [Reg.AO_STAT.READBACK, Reg.AO_STAT.OVERLOAD, Reg.AO_STAT.LINKED]]
/-- The registers of block DIO, each with its fields. -/
def regRowsDIO : List (List Fld) := [
  [Reg.DIO_CAP.DI, Reg.DIO_CAP.DO, Reg.DIO_CAP.FLOAT],
  [Reg.DIO_DARK.EN_A, Reg.DIO_DARK.EN_B, Reg.DIO_DARK.DARK_INT],
  [Reg.DI_CFG.TYPE, Reg.DI_CFG.PULSED, Reg.DI_CFG.WIREBREAK, Reg.DI_CFG.INVERT, Reg.DI_CFG.PERIOD],
  [Reg.DI_DEB.DEBOUNCE, Reg.DI_DEB.EFFECTIVE],
  [Reg.DO_CFG.SAFE, Reg.DO_CFG.PARALLEL, Reg.DO_CFG.DARK, Reg.DO_CFG.OPEN_DETECT, Reg.DO_CFG.REJECT_ALARM, Reg.DO_CFG.RETRY_INT, Reg.DO_CFG.RETRY_MAX, Reg.DO_CFG.RESTORE],
  [Reg.DO_STAT.STATE, Reg.DO_STAT.READBACK, Reg.DO_STAT.COMMANDED, Reg.DO_STAT.PARTNER, Reg.DO_STAT.RETRIES],
  [Reg.DO_CUR.CURRENT],
  [Reg.FLOAT_CFG.ENABLE, Reg.FLOAT_CFG.SAFE, Reg.FLOAT_CFG.RESTORE, Reg.FLOAT_CFG.REV_DEAD, Reg.FLOAT_CFG.TRAVEL],
  [Reg.FLOAT_CFG2.DEADBAND],
  [Reg.FLOAT_STAT.DRIVE, Reg.FLOAT_STAT.FAULT],
  [Reg.FLOAT_POS.POS]]
/-- The registers of block POS, each with its fields. -/
def regRowsPOS : List (List Fld) := [
  [Reg.POS_CAP.PORTS, Reg.POS_CAP.EMU],
  [Reg.POS_CFG.MODE, Reg.POS_CFG.REPORT, Reg.POS_CFG.DIR, Reg.POS_CFG.AVG, Reg.POS_CFG.FILT, Reg.POS_CFG.INDEX, Reg.POS_CFG.HOME],
  [Reg.POS_LINES.LINES, Reg.POS_LINES.SINGLE_BITS],
  [Reg.POS_SCALE.C],
  [Reg.POS_SCALE_SH.S],
  [Reg.POS_OFS.OFS],
  [Reg.POS_SER.BITS, Reg.POS_SER.TRAILER, Reg.POS_SER.START, Reg.POS_SER.GRAY, Reg.POS_SER.CRC_INV, Reg.POS_SER.EW_LOW, Reg.POS_SER.CLKDIV],
  [Reg.POS_SER2.TIMEOUT, Reg.POS_SER2.READ_INT, Reg.POS_SER2.ERR_LIMIT],
  [Reg.POS_CHECK.TOL, Reg.POS_CHECK.REVS, Reg.POS_CHECK.AT_START, Reg.POS_CHECK.AT_RECOVER],
  [Reg.POS_STANDSTILL.TIME],
  [Reg.POS_STAT.FLAGS],
  [Reg.POS_ERR.FAULTED],
  [Reg.POS_VAL.VALUE],
  [Reg.POS_SECOND.VALUE],
  [Reg.EMU_CFG.ENABLE, Reg.EMU_CFG.SAFE, Reg.EMU_CFG.SRC, Reg.EMU_CFG.LAG_MAX],
  [Reg.EMU_LINES.LINES],
  [Reg.EMU_STAT.FLAGS, Reg.EMU_STAT.LAG]]
/-- The registers of block PANEL, each with its fields. -/
def regRowsPANEL : List (List Fld) := [
  [Reg.PANEL_CAP.MAX_W, Reg.PANEL_CAP.MAX_H, Reg.PANEL_CAP.RECTS],
  [Reg.PANEL_CFG.EN, Reg.PANEL_CFG.FL_EN, Reg.PANEL_CFG.CLEAR_AT_START, Reg.PANEL_CFG.CLEAR_LEVEL, Reg.PANEL_CFG.RAIL_HOLD],
  [Reg.PANEL_GEOM.WIDTH, Reg.PANEL_GEOM.HEIGHT],
  [Reg.PANEL_TIMING.CLKDIV, Reg.PANEL_TIMING.LINE_GAP],
  [Reg.PANEL_STAT.RAILS, Reg.PANEL_STAT.RUNNING, Reg.PANEL_STAT.WAITING, Reg.PANEL_STAT.BAND, Reg.PANEL_STAT.LIB_VALID, Reg.PANEL_STAT.RAIL_LATCHED, Reg.PANEL_STAT.CLEAR_DONE, Reg.PANEL_STAT.FL_ON, Reg.PANEL_STAT.FL_FAULT, Reg.PANEL_STAT.TEMP_FALLBACK, Reg.PANEL_STAT.WRITE_REJECTED],
  [Reg.PANEL_FB.BASE],
  [Reg.PANEL_WF.BASE, Reg.PANEL_WF.SLOT],
  [Reg.PANEL_TEMP.SOURCE],
  [Reg.PANEL_VCOM.VCOM],
  [Reg.PANEL_FL.CURRENT, Reg.PANEL_FL.LEVEL],
  [Reg.PANEL_CRC.CRC],
  [Reg.PANEL_LIB_ID.CRC],
  [Reg.PANEL_BOOST.DUTY_VGH, Reg.PANEL_BOOST.DUTY_VGL, Reg.PANEL_BOOST.DUTY_VSH, Reg.PANEL_BOOST.DUTY_VSL],
  [Reg.PANEL_COUNT.UPDATES, Reg.PANEL_COUNT.RAIL_FAULTS],
  [Reg.PANEL_BAND.LOWER0, Reg.PANEL_BAND.LOWER1, Reg.PANEL_BAND.LOWER2, Reg.PANEL_BAND.LOWER3]]
/-- The registers of block KEYS, each with its fields. -/
def regRowsKEYS : List (List Fld) := [
  [Reg.KEYS_CAP.KEYS, Reg.KEYS_CAP.ENCODERS],
  [Reg.KEYS_CFG.ROWS, Reg.KEYS_CFG.COLS, Reg.KEYS_CFG.DEBOUNCE, Reg.KEYS_CFG.GHOST_GUARD],
  [Reg.KEYS_STAT.SCANNING, Reg.KEYS_STAT.LOCKED, Reg.KEYS_STAT.SEQ_STEP, Reg.KEYS_STAT.WRITE_REJECTED, Reg.KEYS_STAT.PRESSED],
  [Reg.KEYS_LOCK.IDLE_TIME, Reg.KEYS_LOCK.STEP_TIME, Reg.KEYS_LOCK.LOCK_ENC],
  [Reg.KEYS_UNLOCK_LO.SEQ0_3],
  [Reg.KEYS_UNLOCK_HI.SEQ4_7],
  [Reg.KEYS_IRQ.PENDING, Reg.KEYS_IRQ.IRQ_EN],
  [Reg.KEYS_PRESSED.BITS],
  [Reg.ENC_CFG.DETENT, Reg.ENC_CFG.DIR],
  [Reg.ENC_STAT.ERRORS],
  [Reg.ENC_VAL.VALUE]]
/-- The registers of block NVM, each with its fields. -/
def regRowsNVM : List (List Fld) := [
  [Reg.NVM_CAP.BANKS, Reg.NVM_CAP.REGIONS, Reg.NVM_CAP.RECORDS],
  [Reg.NVM_CFG.CKPT_INT],
  [Reg.NVM_STAT.BUSY, Reg.NVM_STAT.EXPORTING, Reg.NVM_STAT.IMPORTING, Reg.NVM_STAT.IMPORT_PENDING, Reg.NVM_STAT.ENERGY_WAIT, Reg.NVM_STAT.SAVE_AREA, Reg.NVM_STAT.WRITE_REJECTED, Reg.NVM_STAT.PENDING],
  [Reg.NVM_SAVE.BASE],
  [Reg.NVM_SAVE_SEQ.SEQ],
  [Reg.NVM_SAVE_TICK.TICK],
  [Reg.NVM_RECQ.OFFSET],
  [Reg.NVM_RECQ_RES.RECORD, Reg.NVM_RECQ_RES.VALID, Reg.NVM_RECQ_RES.PENDING, Reg.NVM_RECQ_RES.AMBIGUOUS, Reg.NVM_RECQ_RES.FACTORY],
  [Reg.NVM_RECSTAT.AMBIGUOUS, Reg.NVM_RECSTAT.LOST],
  [Reg.NVM_LOCK_STAT.READ_OPEN, Reg.NVM_LOCK_STAT.WRITE_OPEN, Reg.NVM_LOCK_STAT.LOCKED_OUT],
  [Reg.NVM_FIT.READ_REF, Reg.NVM_FIT.REFRESH_INT],
  [Reg.NVM_CLR.CLR_ERR],
  [Reg.NVM_BANK.BUSY, Reg.NVM_BANK.CORRECTED, Reg.NVM_BANK.UNCORRECTABLE],
  [Reg.NVM_REGION.READ_FAILS, Reg.NVM_REGION.WRITE_FAILS, Reg.NVM_REGION.LOCK_LEFT]]
/-- The registers of block FITSEC, each with its fields. -/
def regRowsFITSEC : List (List Fld) := [
  [Reg.FITSEC_CAP.MARGINS, Reg.FITSEC_CAP.PATH_MONITORS, Reg.FITSEC_CAP.SECURITY, Reg.FITSEC_CAP.DEBUG, Reg.FITSEC_CAP.RECOVERY],
  [Reg.FIT_CFG.INTERVAL, Reg.FIT_CFG.LOCK_MASK, Reg.FIT_CFG.FORECAST_DAYS],
  [Reg.FIT_CFG2.PATH_LO, Reg.FIT_CFG2.PATH_HI, Reg.FIT_CFG2.PATH_FLOOR],
  [Reg.FIT_STAT.ACTIVE, Reg.FIT_STAT.STEP, Reg.FIT_STAT.WRITE_REJECTED, Reg.FIT_STAT.LOWEST, Reg.FIT_STAT.LOWEST_MARGIN],
  [Reg.FIT_PASS.COUNT],
  [Reg.FIT_NEXT.TICK],
  [Reg.FIT_PATH.LOWEST, Reg.FIT_PATH.MONITOR, Reg.FIT_PATH.MEAN],
  [Reg.FIT_LOG_STAT.ENTRIES, Reg.FIT_LOG_STAT.NEXT],
  [Reg.FIT_MARGIN.MARGIN, Reg.FIT_MARGIN.VALID, Reg.FIT_MARGIN.FORECAST],
  [Reg.FIT_COIL.R_COMM, Reg.FIT_COIL.R_NOW],
  [Reg.SEC_STAT.IDENTITY_OK, Reg.SEC_STAT.MANIFEST, Reg.SEC_STAT.ENTRIES],
  [Reg.SEC_OWNER_COUNT.COUNT],
  [Reg.SEC_ID_FPR_LO.FPR],
  [Reg.SEC_ID_FPR_HI.FPR],
  [Reg.SEC_OWNER_FPR_LO.FPR],
  [Reg.SEC_OWNER_FPR_HI.FPR],
  [Reg.FW_STAT.ACTIVE, Reg.FW_STAT.PREFERRED, Reg.FW_STAT.TRIAL, Reg.FW_STAT.VALID_A, Reg.FW_STAT.VALID_B, Reg.FW_STAT.FALLBACK, Reg.FW_STAT.RECOVERY],
  [Reg.FW_SVN.ACTIVE_SVN, Reg.FW_SVN.MIN_SVN],
  [Reg.FW_REC_CTRL.LENGTH, Reg.FW_REC_CTRL.GO],
  [Reg.FW_REC_STAT.BUSY, Reg.FW_REC_STAT.PASSED, Reg.FW_REC_STAT.CHECK, Reg.FW_REC_STAT.ATTEMPTS],
  [Reg.DBG_CFG.FRZ_EN, Reg.DBG_CFG.QUILT_FRZ, Reg.DBG_CFG.RO_OPEN],
  [Reg.DBG_STAT.FROZEN, Reg.DBG_STAT.QUILT, Reg.DBG_STAT.RO_DENIED, Reg.DBG_STAT.EXTEST_REFUSED, Reg.DBG_STAT.WR_DISCARDED],
  [Reg.DBG_RO_SEL.SPACE, Reg.DBG_RO_SEL.INDEX],
  [Reg.DBG_RO_DATA.DATA],
  [Reg.DBG_RO_CTRL.THAW],
  [Reg.DBG_FREEZE_TICK.TICK]]
/-- Every register of BAR0. -/
def regRows : List (List Fld) :=
  regRowsGLOBAL ++
  regRowsHOSTQ ++
  regRowsQUILT ++
  regRowsFIELDA ++
  regRowsMEAS ++
  regRowsLOOP ++
  regRowsPATTERN ++
  regRowsSHUTTLE ++
  regRowsFANAO ++
  regRowsDIO ++
  regRowsPOS ++
  regRowsPANEL ++
  regRowsKEYS ++
  regRowsNVM ++
  regRowsFITSEC

end Sys2Proof.Machine
end

