-- ==== Sys2Proof/Machine/Records.lean ====
section
/-! DEFINITION. Where a BAR0 offset finds its register, and which retained record holds it (R52, R554). -/

namespace Sys2Proof.Machine

/-- The element of a register whose 32-bit half lies at offset `off`, and which half (R52). -/
def findElem (f : Fld) (off : Nat) : Option (Nat × Nat) :=
  let size := if f.width = 64 then 8 else 4
  let idx := if f.stride = 0 then 0 else (off - f.base) / f.stride
  let rest := off - f.base - f.stride * idx
  let sub := if f.stride2 = 0 then 0 else rest / f.stride2
  let r := rest - f.stride2 * sub
  let i := idx * f.per + sub
  if f.base ≤ off && i < f.count && sub < f.per && r < size then some (i, r / 4) else none

/-- The fields of the register at a BAR0 offset, its element number and the half. -/
def findReg (off : Nat) : Option (List Fld × Nat × Nat) :=
  regRows.findSome? fun fs =>
    match fs with
    | [] => none
    | f :: _ => (findElem f (off / 4 * 4)).map fun p => (fs, p.1, p.2)

/-- Registers whose retained fields come from store blocks, device records or the save areas, by the offset of element 0. -/
def keptElsewhere : List Nat :=
  [Reg.QUILT_ROUTE.PRIMARY.base, Reg.SHUTTLE_CODE.WORD.base, Reg.SHUTTLE_ENTRY.ENTRY.base, Reg.PORT_TACK.RESERVED.base
  , Reg.ZONE_STAT.OVERRIDE.base, Reg.SCHED_STAT.CIVIL_VALID.base, Reg.NVM_STAT.SAVE_AREA.base, Reg.NVM_SAVE_SEQ.SEQ.base
  , Reg.NVM_SAVE_TICK.TICK.base, Reg.NVM_REGION.READ_FAILS.base, Reg.GLOBAL_FAULT_LOG.BYTES.base]

/-- The registers that have register records, in the order of the spec's register tables. -/
def retRows : List (List Fld) :=
  regRows.filter fun fs => match fs with
    | [] => false
    | f :: _ => fs.any (fun g => g.ret) && !keptElsewhere.contains f.base

/-- The place of the register at an offset among those of `rows`, counted from `n`. -/
def placeIn : List (List Fld) → Nat → Nat → Option Nat
  | [], _, _ => none
  | [] :: t, off, n => placeIn t off n
  | (f :: _) :: t, off, n =>
    match findElem f off with
    | some (i, _) => some (n + i)
    | none => placeIn t off (n + f.count)

/-- The register at a place among those of `rows`: its fields and element number. -/
def registerIn : List (List Fld) → Nat → Option (List Fld × Nat)
  | [], _ => none
  | [] :: t, n => registerIn t n
  | (f :: g) :: t, n => if n < f.count then some (f :: g, n) else registerIn t (n - f.count)

/-- Device records of R554: password digests from 3072 on, failure counts, the fault log. -/
def recPASSWORD (r k : Nat) : Nat := 3072 + 2 * r + k
def recFAILS (r : Nat) : Nat := 3088 + r
def recIMPORT : Nat := 3096
def recSLOT : Nat := 3097
/-- The owner key: 24 bytes, then 8. -/
def recOWNER : Nat := 3098
def recLOG (i : Nat) : Nat := 3104 + i

/-- The record index of a place: the 2,048 indices of R554 first; DESIGN CHOICE (log 135): registers that these do not reach have indices from 4096 on. -/
def placeRecord (n : Nat) : Nat := if n < 2048 then n else 2048 + n

/-- The record that holds the register at a BAR0 offset (R554); none without retained fields or where a block holds them. -/
def recordOf (off : Nat) : Option Nat :=
  match findElem Reg.NVM_REGION.READ_FAILS off with
  | some (r, _) => some (recFAILS r)
  | none => match findElem Reg.GLOBAL_FAULT_LOG.BYTES off with
    | some (i, _) => some (recLOG i)
    | none => (placeIn retRows off 0).map placeRecord

/-- The register that a record holds: its fields and element number. -/
def registerOf (r : Nat) : Option (List Fld × Nat) :=
  if r < 2048 then registerIn retRows r
  else if 4096 ≤ r then registerIn retRows (r - 2048)
  else if recFAILS 0 ≤ r && r < recFAILS 8 then some ([Reg.NVM_REGION.READ_FAILS, Reg.NVM_REGION.WRITE_FAILS], r - recFAILS 0)
  else if recLOG 0 ≤ r && r < recLOG 128 then some ([Reg.GLOBAL_FAULT_LOG.BYTES], r - recLOG 0)
  else none

end Sys2Proof.Machine
end

