-- ==== Sys2Proof/Machine/State.lean ====
section
/-! DEFINITION. The state of the block, as plain data, and the state after power-on. -/

namespace Sys2Proof.Machine
open Sys2Proof

/-- Faults of the model. No meaning raises one: the spec gives every command an effect. -/
inductive Fault where
  /-- Raised by nobody: there is no access of this block that the spec leaves without an effect. Safe. -/
  | none
  deriving DecidableEq, Repr

/-- Refusals of the model. -/
inductive Refusal where
  /-- Raised by `exec` alone, for a command that has no meaning yet. Safe: nothing can be proved of such a run. -/
  | notModelled (mnemonic : String)
  deriving DecidableEq, Repr

/-- Ordering grades of R2 (00_scope.md). -/
inductive Grade where
  | f | s
  deriving DecidableEq, Repr

/-- Silicon steppings of R54 (01_architecture.md). -/
inductive Stepping where
  | a0 | a1 | b0
  deriving DecidableEq, Repr

/-- What is fixed in one part. -/
structure Part where
  grade : Grade
  stepping : Stepping
  deriving DecidableEq, Repr

/-- The completion status codes of R24 (00_scope.md). -/
inductive Status where
  | ok | aborted | skipped | nothingToAbort | refusedBusy | badObject | badParam
  | notAdmitted | authFailed | locked | timeout | dataError | unreachable | superseded
  deriving DecidableEq, Repr

/-- A value word (R19, 00_scope.md). -/
structure VW where
  value : BitVec 32
  status : BitVec 8
  stamp : BitVec 24
  deriving DecidableEq, Repr

/-- How far a descriptor has come (R468, 12_host_rings.md). -/
inductive RecPhase where
  | fetched
  | running
  | ended (st : Status) (result : Nat)
  deriving DecidableEq, Repr

/-- One descriptor in the device: fetched and its completion not yet written. `started` that it has
started (R463); `order` numbers the ends of operations;
`discard` marks a descriptor whose completion R456 discards. -/
structure Rec where
  id : Nat
  ring : Nat
  d : Desc
  phase : RecPhase
  started : Bool
  order : Nat
  discard : Bool
  deriving DecidableEq, Repr

/-- One event (R475, 12_host_rings.md). -/
structure Event where
  seq : Nat
  code : Nat
  src : Nat
  time : Nat
  detail : List Nat
  deriving DecidableEq, Repr

/-- Where an event under the interval rule of R134 stands while its interval runs: the state last reported, a later state still to report, and the tick
at which the interval began. -/
structure Limit where
  last : Nat
  pending : Option (Nat × List Nat)
  since : Nat
  deriving DecidableEq, Repr

/-- Who asked for an urgent conversion (R113): a loop, a pattern binding's node, or a host descriptor. -/
inductive UrgentOrigin where
  | loop (l : Nat)
  | node (n : Nat)
  | host (id : Nat)
  deriving DecidableEq, Repr

/-- An urgent request (R113). -/
structure Urgent where
  origin : UrgentOrigin
  ch : Nat
  gain : Nat
  osr : Nat
  acq : Nat
  deriving DecidableEq, Repr

/-- What a field-die mailbox carries: one configuration register write, or the descriptor that acts at the die (R147, R172). -/
inductive Mail where
  | reg (off v : Nat)
  | desc (id : Nat)
  /-- An abort `id` on its way to the die that runs descriptor `target` (R121, R209, R370). -/
  | abort (id target : Nat)
  /-- An urgent request of a loop or of the pattern engine for converter `c` (R113). -/
  | urgent (c : Nat) (u : Urgent)
  /-- Calibration of the die's converters in a mask, with the cause of R133 (R119). -/
  | cal (mask cause : Nat)
  /-- One word of a shuttle library for the inactive copy of a bank (R365). -/
  | code (bank word value : Nat)
  deriving DecidableEq, Repr

/-- A stitch (R405, R406, 11_quilt.md): its header fields, type as `kind`, and its 26 payload bytes. -/
structure Stitch where
  dest : Nat
  src : Nat
  cls : Nat
  kind : Nat
  flow : Nat
  seq : Nat
  data : List Nat
  deriving DecidableEq, Repr

/-- What one command makes the block send or show: the list holds what the latest command produced. -/
inductive Output where
  /-- A DMA write to host memory. -/
  | hostWrite (addr : Nat) (bytes : List Nat)
  /-- An MSI-X message of a vector. -/
  | msix (vector : Nat)
  /-- The value a read command returns; `poisoned` the EP bit of its completion (R33). -/
  | readData (value : Nat) (poisoned : Bool)
  /-- The bytes a BAR4 read returns, each with the EP bit of the completion that carries it. -/
  | readBytes (bytes : List (Nat × Bool))
  /-- A frame sent to field die `k`. -/
  | frameStarted (k : Nat)
  /-- A pin of the package driven to a level. -/
  | pin (name : String) (level : Bool)
  /-- A stitch sent on a seam port: its 36 bytes in line order, the first the K27.7 character (R403). -/
  | stitch (port : Nat) (line : List Nat)
  /-- A control word sent on a seam port: its K code and its payload. -/
  | control (port k : Nat) (payload : Nat)
  /-- A frame sent by a bus port. -/
  | busFrame (port : Nat) (bytes : List Nat)
  /-- One phase of a panel update: its rectangle, the phase, and the drive codes of its pixels row by row (R578, R579). -/
  | drive (x y w h phase : Nat) (codes : List Nat)
  /-- A PMBus command to the VCORE regulator. -/
  | pmbus (command value : Nat)
  /-- An image written to a firmware slot of the QSPI flash, 0 A, 1 B (R650). -/
  | flash (slot : Nat) (bytes : List Nat)
  /-- The value a TAP instruction shifts out. -/
  | tap (value : Nat)
  /-- The boundary-scan chain shifted out, and lands driven from it (R690, R691). -/
  | scanOut (cells : List Bool)
  | scanDrive (cells : List Bool)
  deriving DecidableEq, Repr

/-- A down frame (R143, 04_field_io_barrier.md), its fields by local channel; `mail` with its mailbox sequence; `trig` the capture trigger. -/
structure DownFrame where
  seq : Nat
  freeze : Bool
  dip : Bool
  apply : Nat
  mailSeq : Nat
  mail : Option Mail
  dos : Nat
  aos : List Nat
  fans : List Nat
  sols : List Nat
  floats : List Nat
  trig : Option Nat
  deriving DecidableEq, Repr

/-- An event of a field die waiting for the event field of an up frame (R146). -/
structure DieEvent where
  code : Nat
  src : Nat
  detail : List Nat
  deriving DecidableEq, Repr

/-- A value word under way to routing: its producer's quilt name and quantity. -/
structure Produced where
  name : Nat
  qty : Nat
  word : VW
  deriving DecidableEq, Repr

/-- An up frame (R144, R145): die status, latch tick, frames lost, value words, DI and DO states, the event field, and one status page.
`dropped` counts events the die could not queue since its power-up; `slots` are the outputs of its slots as (slot, REMAIN, word, ticks since
the latest output). -/
structure UpFrame where
  seq : Nat
  capActive : Bool
  slots : List (Nat × Nat × VW × Nat)
  outState : Nat
  intOsc : Bool
  vf24Low : Bool
  latch : Nat
  lost : Nat
  words : List Produced
  dis : List Nat
  dos : List Nat
  event : Option DieEvent
  page : Nat
  pageData : List Nat
  dropped : Nat
  deriving DecidableEq, Repr

/-- The output states of a field die (R148, 04_field_io_barrier.md). -/
inductive OutState where
  | startup | run | hold | safe | freezeHold | dipHold
  deriving DecidableEq, Repr

/-- One field die. -/
structure DieSt where
  /-- The die's own tick boundary count (R142). -/
  tick : Nat
  /-- Boundaries since the die's power-up, and the 5 ns samples that its clock has counted at the latest one (R139, R182): no re-alignment moves them. -/
  bounds : Nat
  clock : Nat
  /-- Sequence of the up frames (R144). -/
  upSeq : Nat
  state : OutState
  safeCause : Nat
  /-- The good frame received for the next boundary. -/
  frame : Option DownFrame
  /-- Mailbox sequence of the latest good frame. -/
  mailAck : Nat
  /-- Boundaries in a row without a good frame while the hold window counts. -/
  held : Nat
  /-- Ticks since HOLD was entered, for FIELD_HOLD (R175). -/
  holdTicks : Nat
  resumeEnabled : Bool
  goodRun : Nat
  intOsc : Bool
  vf24Low : Bool
  /-- Down frames lost since the previous up frame (byte 7 of R144). -/
  lost : Nat
  page : Nat
  events : List DieEvent
  eventsDropped : Nat
  /-- Set where the die has run on through a freeze, until its first good down frame: it starts no up frame then (R153). -/
  quiet : Bool
  /-- Dark testing in force at the die, and DARK_INT (R147, R165). -/
  darkOn : Bool
  darkInt : Nat
  /-- The output under a dark test; the partner of the pair test; whether a pulse runs, and the boundary at which the latest one began (R165). -/
  dark : Option Nat
  darkPair : Option Nat
  darkPulse : Bool
  darkAt : Nat
  darkNext : Nat
  /-- The boundary of the latest periodic test. -/
  darkTestAt : Nat
  /-- A DARK_TEST_NOW pass: its descriptor, whether the present test belongs to it, the latest pass that has ended, outputs tested and found. -/
  darkOwn : Bool
  darkNow : Option Nat
  darkDone : Option Nat
  darkTested : Nat
  darkFound : Nat
  deriving DecidableEq, Repr

/-- A field die after its power-up (R154). -/
def DieSt.init : DieSt :=
  { tick := 0, bounds := 0, clock := 0, upSeq := 0, state := .startup, safeCause := 0, frame := none, mailAck := 0, held := 0, holdTicks := 0
    resumeEnabled := false, goodRun := 0, intOsc := false, vf24Low := false, lost := 0, page := 0, events := []
    eventsDropped := 0, quiet := false, darkOn := false, darkInt := 100, dark := none, darkPair := none, darkPulse := false, darkAt := 0, darkNext := 0
    darkTestAt := 0, darkOwn := false, darkNow := none, darkDone := none, darkTested := 0, darkFound := 0 }

/-- One digital input at its die (R155 to R159). -/
structure DiSt where
  level : DiLevel
  cand : DiLevel
  run : Nat
  deriving DecidableEq, Repr

/-- The states of DO_STAT.STATE (R180). -/
inductive DoState where
  | ok | overload | shortGnd | latchedOff | forcedHigh | cross | openLoad | vf24Low
  deriving DecidableEq, Repr

/-- One digital output at its die (R160 to R165): its state, whether its switch is on, its command, and what is measured. -/
structure DoSt where
  state : DoState
  cmd : Bool
  on : Bool
  readback : Bool
  current : Nat
  retries : Nat
  /-- The retry interval of R162 runs. -/
  waiting : Bool
  /-- The die's boundary count at the latest switch on or trip (R162). -/
  since : Nat
  partner : Nat
  dark : Bool
  deriving DecidableEq, Repr

/-- FLOAT_STAT.DRIVE (R180). -/
inductive FloatDrive where
  | stopped | opening | closing | deadTime
  deriving DecidableEq, Repr

/-- One floating actuator at its die (R168 to R170): `pos` counts ticks of run from closed, `next` the direction after a dead time,
`awaitTarget` that a fault keeps the pair off until a new target; `extra` ticks run past the model end, `safe` that a safe drive of R170
runs, `ran` its ticks. -/
structure FloatSt where
  drive : FloatDrive
  target : Nat
  pos : Nat
  next : FloatDrive
  fault : Bool
  awaitTarget : Bool
  extra : Nat
  safe : Bool
  ran : Nat
  deriving DecidableEq, Repr

/-- Where the logic side stands between power-off and control (R527, 14_power_startup.md): waiting for VL24; for a power-good input; for the retry of
R528; core die out of reset (step 4); firmware recovery; retained state restored (step 6); held in reset by RST_N; held without CLKREF; started. -/
inductive Phase where
  | waitVl24
  | waitPowerGood (rail : Nat)
  | retryWait
  | booting
  | recovery
  | restored
  | heldRst
  | heldClkref
  | up
  deriving DecidableEq, Repr

/-- A visit of a sequence entry with the settings it started with (R104, R106). -/
structure Visit where
  entry : Nat
  ch : Nat
  gain : Nat
  osr : Nat
  outs : Nat
  deriving DecidableEq, Repr

/-- One converter at its die. `last` is the channel, gain and OSR of the preceding conversion, none where R108 counts a
channel change only; `made` and `remain` count the outputs of the visit, made and still invalid; `started` is the boundary in or after
which the present conversion began, `passAt` one more than that at which the latest pass fell due with `passOwed` that it waits for the end of
the one before (R105), `burst` the boundary at which a capture's burst has ended (R127), `calSince` that at
which the calibration began. -/
structure ConvSt where
  powered : Bool
  passing : Bool
  visit : Option Visit
  made : Nat
  remain : Nat
  last : Option (Nat × Nat × Nat)
  started : Nat
  lastEntry : Nat
  paired : Bool
  queue : List Urgent
  urgent : Option Urgent
  calibrating : Bool
  calQueued : Bool
  calCause : Nat
  capturing : Bool
  dropped : Nat
  passAt : Nat
  passOwed : Bool
  burst : Nat
  calSince : Nat
  deriving DecidableEq, Repr

/-- A MEAS_CAL in progress (R120): converters named, and those committed. -/
structure CalOp where
  id : Nat
  mask : Nat
  committed : Nat
  deriving DecidableEq, Repr

/-- A MEAS_CAPTURE armed or streaming (R125 to R127): `armed` is the tick at which it was, `streamA` and `streamB` are the samples still to
cross, each with the byte address it goes to; `sent` counts those written. -/
structure CapOp where
  id : Nat
  group : Nat
  dest : Nat
  kind : Nat
  at_ : Nat
  phase : Nat
  armed : Nat
  bank : Nat
  gain : Nat
  chans : List Nat
  samples : Nat
  triggered : Bool
  streamA : List (Nat × Nat)
  streamB : List (Nat × Nat)
  sent : Nat
  /-- An abort has reached one of its dies (R121). -/
  stopping : Bool
  deriving DecidableEq, Repr

/-- The valid output of an urgent request until it is latched (R114, R121): the host descriptor, if one asked, converter and channel, the
output, and the channel's word and last slot before it. -/
structure UrgentOut where
  id : Option Nat
  conv : Nat
  ch : Nat
  word : VW
  was : Option VW
  wasSource : Nat
  deriving DecidableEq, Repr

/-- The measurement side of the dies (03_measurement.md). -/
structure MeasSt where
  convs : Map ConvSt
  cals : List CalOp
  caps : List CapOp
  /-- Latest words of UI and INTL channels by handle, and of slots (MSLOT) by handle. -/
  words : Map (Option VW)
  /-- Handles whose word has not been latched yet (R111). -/
  fresh : List Nat
  /-- The slot that last updated a channel, plus one. -/
  source : Map Nat
  /-- The boundary count of its die at a slot's latest output, plus one, and REMAIN of that output (R109). -/
  slotAt : Map Nat
  remains : Map Nat
  /-- The tick of a slot's latest output as the core die has it from the up frames, for AGE (R136). -/
  slotSeen : Map (Option Int)
  /-- Boundary count of its die at the latest front-end switch of a UI, plus one (R99), and converters that still owe it a new count. -/
  modeAt : Map Nat
  reopen : List (Nat × Nat)
  /-- CONTACT states kept between the thresholds (R96). -/
  contact : Map Nat
  /-- MA20 inputs whose burden resistor is disconnected: the boundary count of the die at which it was, plus one (R97). -/
  disconnected : Map Nat
  /-- Urgent requests whose valid output waits for its latch. -/
  urgentDone : List UrgentOut
  /-- Converters whose self-test of this start has not been read (R130). -/
  testDue : List Nat
  /-- Aborts under way: descriptor and dies still to be reached, as a mask (R121). -/
  aborts : List (Nat × Nat)
  /-- The tick of the latest calibration of all converters at a start or by RECAL_INT (R119). -/
  calAt : Nat
  deriving DecidableEq, Repr

/-- A freeze under way (R679 to R681): the boundary F at which the clocks stop, whether it is quilt-wide, its cause, ticks late, and the
descriptors to complete at thaw. -/
structure FreezeReq where
  at_ : Nat
  quilt : Bool
  cause : Nat
  late : Nat
  descs : List Nat
  deriving DecidableEq, Repr

/-- A host write that waits for thaw (R484). -/
inductive Posted where
  | reg (off size v : Nat)
  | mem (off : Nat) (bytes : List Nat)
  /-- A reset of the host interface in its place among them, with the cause of R480 and whether PCIE_LINK reports it (R673 note 10). -/
  | pcie (cause : Nat) (link : Bool)
  /-- The PCIe link coming up, in its place among them. -/
  | link (speed width : Nat)
  deriving DecidableEq, Repr

/-- The supplies, warning and start-up side of the service die (14_power_startup.md, 20_faults_interplay.md). -/
structure PowerSt where
  phase : Phase
  /-- Supplies' enables raised, as a mask of rails 1 to 3. -/
  enables : Nat
  attempts : Nat
  failedRail : Nat
  /-- The reset cause the service die latched, and what START_REPORT gives with it. -/
  resetCause : Nat
  warnAtReset : Bool
  saveEndedAtReset : Bool
  minAtReset : Nat
  vholdAtReset : Nat
  /-- The present warning: tick of its start, minimum VL24, the tick from which the 2 ms of R520 run. -/
  warnStart : Nat
  warnMin : Nat
  resumeTimer : Option Nat
  /-- Whether what step 3 of R521 ends is still to be ended, and what R522 resumes still to be resumed, at the next boundary. -/
  stopDue : Bool
  resumeDue : Bool
  /-- The duration of a warning that has ended and is still to be reported at the next boundary (R522). -/
  left : Option Nat
  /-- Down frames stopped by R523. -/
  dipSafeStopped : Bool
  /-- RST_N low; the reset of R519 still to come, and the tick in which it was asked for where 5 ms bound it. -/
  rstLow : Bool
  rstResetDue : Bool
  rstAt : Option Nat
  /-- Ticks of faults that the next start logs: CLKREF lost, firmware watchdog (R666). -/
  clkrefLostAt : Option Nat
  watchdogAt : Option Nat
  /-- PMBus: the last two commanded values in mV, n of the regulator's exponent −n (0: not accepted), the ticks, plus 1, of the latest
VOUT_COMMAND, READ_VOUT and STATUS_WORD (0 none), the command of a failed transaction to be retried (0 none), the cause of the fault in
force (0 none), whether the device tries again (R534 to R537). -/
  vout : Nat
  voutPrev : Nat
  vexp : Nat
  voutAt : Nat
  readAt : Nat
  statusAt : Nat
  pmbusRetry : Nat
  pmbusFault : Nat
  pmbusTrying : Bool
  deriving DecidableEq, Repr

/-- Freeze and debug (21_freeze_debug.md): a request, the freeze in force, the thaw asked for (0 none, else its cause), FRZ_N, host writes
and doorbells that wait for thaw, writes discarded, the F of the last FREEZE and THAW words passed on, the master's count to take at the
first boundary after thaw (R87), the boundary-scan chain (R691). -/
structure FreezeSt where
  req : Option FreezeReq
  cur : Option FreezeReq
  thawAsked : Nat
  frzNLow : Bool
  posted : List Posted
  doorbells : Map Nat
  discarded : Nat
  lastF : Option Nat
  lastThaw : Option Nat
  master : Option Nat
  chain : List Bool
  deriving DecidableEq, Repr

/-- An index-count check that runs (R200, R201): its trigger, the descriptor that asked for it, the sample at which it began, the count at
the latest index pulse, whether the interval holds a reversal, and the good intervals so far. -/
structure PosCheck where
  trigger : Nat
  desc : Option Nat
  since : Nat
  base : Option Int
  reversed : Bool
  good : Nat
  deriving DecidableEq, Repr

/-- One sensor port at its die. Times are in 5 ns samples of its die. -/
structure PosSt where
  count : Int
  /-- S of R202: every change of the count accumulated. -/
  acc : Int
  valid : Bool
  /-- The time of the first valid position. -/
  validAt : Nat
  homeArmed : Bool
  homed : Bool
  fault : Bool
  cause : Nat
  warning : Bool
  stale : Bool
  errRun : Nat
  faulted : Nat
  /-- The core die's copy of the faulted-read count, for POS_ERR (R199). -/
  seen : Nat
  word : Option Nat
  readAt : Option Nat
  /-- The boundary count of the die at which the latest read started, plus one. -/
  readOn : Nat
  check : Option PosCheck
  startDone : Bool
  lastCounts : Nat
  /-- The present direction: 0 before the first edge. -/
  dir : Int
  /-- Times of the latest edges in the present direction, newest first. -/
  edges : List Nat
  /-- Counts spanned by a serial interval. -/
  span : Nat
  reversing : Bool
  still : Bool
  pos : Int
  posClamped : Bool
  speed : Int
  speedSt : Nat
  /-- A POS_SCALE written and not yet in effect (R211). -/
  scale : Nat
  deriving DecidableEq, Repr

/-- One encoder emulation at its die (R202, R203): its output count, S0 and the output count at alignment, its flags, and the sample of its
latest edge, plus one. -/
structure EmuSt where
  output : Int
  s0 : Int
  out0 : Int
  overspeed : Bool
  sourceFault : Bool
  lagTop : Nat
  edgeAt : Nat
  deriving DecidableEq, Repr

/-- Fan states (R384, 10_fans_analogue_floating.md). -/
inductive FanState where
  | off | kick | run | backoff | failed | tachLost
  deriving DecidableEq, Repr

/-- One fan at its die: the command held, tachometer edges in 5 ns samples newest first, edges counted since the kick began,
an edge seen in TACH_LOST, the speed before a loss, and what its PWM pin does: released samples of each period. -/
structure FanSt where
  state : FanState
  retries : Nat
  cause : Nat
  cmd : Nat
  edges : List Nat
  kicks : Nat
  edgeSeen : Bool
  before : Nat
  /-- The boundary count of its die at which it entered its state. -/
  since : Nat
  period : Nat
  released : Nat
  deriving DecidableEq, Repr

/-- One analogue output at its die: the command held, the voltage set, the readback, and OVERLOAD (R389, R390). -/
structure AoSt where
  cmd : Nat
  mv : Nat
  readback : Nat
  overload : Bool
  deriving DecidableEq, Repr

/-- Solenoid channel states (R360, 09_valve_drive_shuttle.md). -/
inductive SolState where
  | off | running | peak | hold | ending | fault
  deriving DecidableEq, Repr

/-- What the switches of a channel do: unenergised, the energising path closed, or a decay of R339. -/
inductive SolPath where
  | open | closed | slow | fast | clamped
  deriving DecidableEq, Repr

/-- The instruction a channel waits in (R348, R349). -/
inductive SolWait where
  | none | grant | target | chop | chopRelease | wait | waitRelease | decay | sync
  deriving DecidableEq, Repr

/-- What started a shot (R343, R344, R362). -/
inductive ShotOrigin where
  | level | safe | oneShot (id : Nat)
  deriving DecidableEq, Repr

/-- One solenoid channel at its die. Times are CLK_FLD cycles of its die; `params`, `release`, `tmin`, `tmax`, `ttpCheck`, `overlap` and
`action` are taken at the shot's start (R373), `peakWait` and `peakMax` at a request; `level` is LEVEL as applied, `due` a level shot that waits
for OFF, `skipRetry` a skipped level shot, skipped after boundary `skipOn`. `since` is the start of the waiting instruction; `startAt`, `startTick`
and `startOn` are the shot's start in cycles, as a tick and as a boundary count; `closedAt` is the cycle at which a WAIT_PEAK's path closed,
`peakAt` that of the grant, `onAt` one more than that at which the shot closed its first energising path (R351, R358, R364). -/
structure SolSt where
  state : SolState
  path : SolPath
  wait : SolWait
  origin : ShotOrigin
  pc : Nat
  release : Nat
  copy : Nat
  target : Nat
  acc : Nat
  notReached : Bool
  denied : Bool
  ttpOut : Bool
  tokens : Nat
  since : Nat
  inRelease : Bool
  level : Bool
  due : Bool
  skipRetry : Bool
  skipOn : Nat
  startAt : Nat
  startTick : Nat
  startOn : Nat
  closedAt : Nat
  peakAt : Nat
  onAt : Nat
  peakWait : Nat
  peakMax : Nat
  overlap : Bool
  energised : Bool
  firstTtp : Nat
  lastTtp : Nat
  decayUs : Nat
  current : Nat
  ohms : Nat
  params : List Nat
  tmin : Nat
  tmax : Nat
  ttpCheck : Bool
  action : Nat
  decay : Nat
  cause : Nat
  hot : Bool
  deriving DecidableEq, Repr

/-- One bank at its die: BANK_FAULT and its cause, a switch not yet cool, skipped shots, the active RAM copy and the copies; the chop period's
length and the cycle at which the present one began (R338). -/
structure BankSt where
  fault : Bool
  cause : Nat
  hot : Bool
  skipped : Nat
  active : Nat
  highSide : Bool
  period : Nat
  periodAt : Nat
  ram0 : Map Nat
  ram1 : Map Nat
  deriving DecidableEq, Repr

/-- A SHUTTLE_LOAD (R365): `stage` 0 checking, 1 waiting for the inactive copy since tick `since`, 2 sending; `sent` words written at the die. -/
structure LoadOp where
  id : Nat
  bank : Nat
  words : List Nat
  slots : List Nat
  crc : Nat
  stage : Nat
  since : Nat
  sent : Nat
  deriving DecidableEq, Repr

/-- The solenoid side of the dies; `freeA` and `freeB` are the free tokens of the two pools, `vf24A` and `vf24B` VF24 in mV. -/
structure ShutSt where
  sols : Map SolSt
  banks : Map BankSt
  freeA : Nat
  freeB : Nat
  vf24A : Nat
  vf24B : Nat
  loads : List LoadOp
  deriving DecidableEq, Repr

/-- A SECURITY operation (R646 to R654): `kind` 1 OWNER_HANDOVER, 2 CONFIG_MANIFEST, 3 FW_UPDATE, 4 ATTEST; whether its image has been
checked; the payload, for FW_UPDATE the whole image. -/
structure SecOp where
  id : Nat
  kind : Nat
  checked : Bool
  bytes : List Nat
  deriving DecidableEq, Repr

/-- Ownership and firmware (19_security.md): the owner key, empty for none; the active manifest as (object, opcode, digest) entries;
operations in progress; the SHA-512 of the running firmware's payload; an FW_FALLBACK cause to be reported, 0 for none; that this start
follows firmware recovery. -/
structure SecSt where
  ownerKey : List Nat
  manifest : Option (List (Nat × Nat × List Nat))
  ops : List SecOp
  fwDigest : List Nat
  fallback : Nat
  recovered : Bool
  deriving DecidableEq, Repr

/-- One operation that waits for a schedule evaluation (R314, R331): the block of a SCHED_SET or ZONE_SET once it is checked,
or an override. `kind` is 1, 2 or 3, the low digit of the opcode; `at_` the tick in which it became ready. -/
structure SchedOp where
  id : Nat
  kind : Nat
  obj : Nat
  block : List Nat
  checked : Bool
  level : Nat
  on : Bool
  minutes : Nat
  at_ : Nat
  deriving DecidableEq, Repr

/-- One zone (R322 to R328): its occupancy with the tick since when nobody is present, the sources in fault, optimum start, the
level and whether an override has just expired, the override with its expiry tick (0 until released), and the latest routine
prediction of OPT_NODE: step start, step period and h_a. -/
structure ZoneSt where
  occupied : Bool
  absentAt : Option Nat
  faulted : Nat
  opt : Bool
  level : Nat
  expired : Bool
  override : Option (Nat × Nat)
  pred : Option (Nat × Nat × Option Nat)
  deriving DecidableEq, Repr

/-- Schedules (08_schedules_occupancy.md) and civil time (R91 to R93): the mapping (Q, UTC seconds at Q, standard offset in
minutes), the daylight-saving table, the schedule time in ticks since 1970, the local time of the latest evaluation with its
tick, the latest backward jump in seconds, and the tick of the latest evaluation. -/
structure SchedSt where
  ops : List SchedOp
  civil : Option (Nat × Nat × Int)
  dst : List (Nat × Int)
  last : Option Nat
  seen : Option (Nat × Nat)
  jump : Nat
  zones : Map ZoneSt
  evalAt : Option Nat
  deriving DecidableEq, Repr

/-- A PAT_LOAD in progress (R257): stage 0 checking, 1 writing the slot, 2 waiting for its commit; the CRC and the bytes of the
staged tables, E and ρ_max in units of 2^-16, and the minimum sweeps. -/
structure PatLoad where
  id : Nat
  stage : Nat
  crc : Nat
  bytes : List Nat
  e : Nat
  rho : Nat
  minSweeps : Nat
  deriving DecidableEq, Repr

/-- Results of a step that wait for PAT_PUBLISH (R227): the step start, n, the cycles, the tick in which its own work ends and that in which its
prediction does, the node and coupling state as it will stand in the engine region, what is to be reported, and whether a routine prediction
follows. -/
structure PatPub where
  start : Nat
  n : Nat
  cycles : Nat
  due : Nat
  predDue : Nat
  nodes : List Nat
  coups : List Nat
  reports : List (Nat × Nat × Nat × List Nat)
  predict : Bool
  deriving DecidableEq, Repr

/-- A host prediction (R238, R258): its descriptor, and once its first step ran the base tick, the temperatures reached and the
inputs of the base step; `made` horizons are written. -/
structure HostPred where
  id : Nat
  made : Nat
  base : Nat
  temps : List Int
  inputs : List (Int × Bool)
  deriving DecidableEq, Repr

/-- What the engine and the routing know of the committed model without its tables: the header, KIND and M of every node, the PREDICT slots,
source, kind and target of every binding (R44, R217, R235, R241). -/
structure PatShape where
  header : List Nat
  nodes : List (Nat × Nat)
  slots : List Nat
  sources : List (Nat × Nat × Nat)
  deriving DecidableEq, Repr

/-- The pattern engine (06_pattern_engine.md): RUN and ADAPT_HOLD in force and a PAT_CTRL write not yet in force, the model
store, waiting PAT_RESETs, the latest completed step, the step start from which the next step integrates, the last usable x of
each binding and whether it saturated, the inputs of the latest step, n for which weights stand formed (0 for none), a routine prediction that
runs with the tick in which it ends, and the cause of the first start missed since; that the flows of the committed model are still to be asked
for; the shape of that model, its SUSPECT nodes, the latest start and the latest urgent issue handled (tick plus one), the cycle at which host
predictions have left the engine free, the latest completed step of that model (R238), and the tick at which its multipliers were last retained
(R250). -/
structure PatSt where
  run : Bool
  hold : Bool
  ctrl : Option Nat
  load : Option PatLoad
  slotA : List Nat
  slotB : List Nat
  slot : Nat
  resets : List (Nat × Nat)
  lastDone : Option Nat
  base : Option Nat
  bindX : Map (Option (Int × Bool))
  inputs : List (Int × Bool)
  formed : Nat
  pub : Option PatPub
  predicting : Option (Nat × Nat)
  missCause : Nat
  flowsDue : Bool
  preds : List HostPred
  shape : PatShape
  suspect : List Nat
  startAt : Nat
  urgentAt : Nat
  freeAt : Nat
  predBase : Option Nat
  savedAt : Nat
  deriving DecidableEq, Repr

/-- A FIELD_RESUME that has not ended: its descriptor, the die, the die's boundary at which it started and whether the die has taken it (R151, R174). -/
structure Resume where
  id : Nat
  die : Nat
  since : Nat
  taken : Bool
  deriving DecidableEq, Repr

/-- What the core die keeps of the up frames of a die: whether this tick's came, the ticks in which one came (bit 0 the latest),
the status page expected next, the pages whose latest frame was lost, and how many events the die has said it dropped (R146). -/
structure UpHist where
  seen : Bool
  mask : Nat
  page : Nat
  lost : Nat
  dropped : Nat
  deriving DecidableEq, Repr

/-- Loop states (R289, 07_loop_engine.md). -/
inductive LoopState where
  | idle | run | hold | safe
  deriving DecidableEq, Repr

/-- The reference of a waiting bumpless event (R286). -/
inductive LoopRef where
  | start
  | last
  | value (v : Int)
  deriving DecidableEq, Repr

/-- A LOOP_MODE, LOOP_HOLD or LOOP_CLEAR that waits for a computation (R310): kind 1, 2 or 3; for LOOP_MODE the mode and byte 21,
for LOOP_HOLD byte 20; the tick in which it was handed in (R284). -/
structure LoopWait where
  id : Nat
  kind : Nat
  arg : Nat
  how : Nat
  at_ : Nat
  deriving DecidableEq, Repr

/-- One loop (R264 to R292): its lane and pool sections; the last published output, whether one was, a bumpless event that waits;
the held output; counts of the following-error check; the stale run; the host override, what the mode source named last and a
mode request not yet in effect with its origin; the last usable values of FB, FF and the setpoints; the latest computation tick;
σ ≠ 0 then; what waits for a computation, and the LOOP_MODEs whose mode is not yet in effect; the tick of the latest urgent request (R282). -/
structure LoopSt where
  state : LoopState
  cause : Nat
  mode : Nat
  lane : Nat
  secs : List Nat
  uPrev : Int
  published : Bool
  bump : Option LoopRef
  held : Int
  feRun : Nat
  feOk : Nat
  feActive : Bool
  stale : Nat
  override : Bool
  released : Bool
  srcLast : Option Nat
  req : Option (Nat × Nat)
  refused : Nat
  fbLast : Option Int
  ffLast : Option Int
  spLast : Map (Option Int)
  at_ : Option Nat
  saturated : Bool
  subst : Bool
  safeE : Int
  waits : List LoopWait
  modeWait : List Nat
  urgAt : Option Nat
  deriving DecidableEq, Repr

/-- A LOOP_SET (R307): stage 0 checking, 1 holding its lane and sections for the switch tick. -/
structure LoopSet where
  id : Nat
  slot : Nat
  stage : Nat
  block : List Nat
  keep : Bool
  lane : Nat
  secs : List Nat
  checkedAt : Nat
  deriving DecidableEq, Repr

/-- A chalk record in its buffer (R299 to R301): its place, its flags, drops just before it, whether it may be streamed. -/
structure ChalkRec where
  slot : Nat
  flags : Nat
  drops : Nat
  ready : Bool
  deriving DecidableEq, Repr

/-- An armed chalk channel (R298 to R301, R311): what CHALK_ARM gave, the descriptor of single arming, the count towards DEC, the
records in the buffer oldest first, the next place, records still to come after a trigger, the trigger node's previous value,
loop events since the last record, a CHALK_TRIGGER waiting, and drops since the last kept record. -/
structure ChalkSt where
  arm : Desc
  id : Option Nat
  count : Nat
  recs : List ChalkRec
  next : Nat
  post : Option Nat
  prev : Option Int
  events : Nat
  fire : Bool
  drops : Nat
  deriving DecidableEq, Repr

/-- The loop engine: loops, LOOP_SETs and LOOP_REMOVEs in progress, the tick from which it stands still with the cause (1 dip,
2 freeze) and the tick from which it runs again, chalk channels, the delay buffer of R82 with arrival ticks, and forces released
on targets (R294). -/
structure LoopEng where
  loops : Map LoopSt
  sets : List LoopSet
  removals : List (Nat × Nat × Nat)
  stopFrom : Option Nat
  stopCause : Nat
  backFrom : Option Nat
  chalk : Map (Option ChalkSt)
  delay : Map (List (Nat × VW))
  unforced : Map (Option Nat)
  deriving DecidableEq, Repr

/-- A stitch that waits in the device (R434, R435, R441): the port whose receiver buffer it holds, the one port it must leave by
(an admission walk), the descriptor that ends when it leaves, and the tick since which it waits. -/
structure QItem where
  st : Stitch
  inPort : Option Nat
  via : Option Nat
  desc : Option Nat
  since : Nat
  deriving DecidableEq, Repr

/-- A tack stitch that waits for slot `slot` of `tick` on `port` (R428, R429). -/
structure TackItem where
  port : Nat
  slot : Nat
  tick : Nat
  st : Stitch
  inPort : Option Nat
  deriving DecidableEq, Repr

/-- One seam port (R410 to R416, R439). `idle` is the 100 ms of electrical idle of R411, `downSent` the end of 20 µs of DOWN words,
`nak` that stitches are discarded until a resend. By class: CREDIT words sent and received. `retry` are the stitches not
acknowledged, the first numbered `acked`; `accepted` counts those taken. `passed` is the mask of audited classes, `asked` of
audits under way; `errs` the times of R412's errors, in ns. The exchange of R86, the equaliser in force with the tick of its latest move, and the
latest tack slot begun (its tick and number); the tick at which the state was entered, and that of the latest exchange of R86. -/
structure PortSt where
  idle : Bool
  downSent : Bool
  nak : Bool
  creditsOut : List Nat
  creditsIn : List Nat
  retry : List Stitch
  acked : Nat
  accepted : Nat
  passed : Nat
  asked : Nat
  errs : List Nat
  exchange : Nat
  sentAt : Option Nat
  backAt : Option Nat
  eqTx : Nat
  eqRx : Nat
  eqAt : Nat
  slot : Option (Nat × Nat)
  since : Nat
  exchAt : Option Nat
  deriving DecidableEq, Repr

/-- An incoming flow at its destination (R425, R426): the sequence expected, the stitches held, each with its arrival port, and the tick since which
the expected one is waited for; 0 while none is held. -/
structure FlowRec where
  next : Nat
  held : List (Nat × Stitch)
  since : Nat
  deriving DecidableEq, Repr

/-- A tack reservation (R433): on `port`, slot `slot` of the ticks congruent to `offset` modulo `period`; the flow by its source,
number and chain; its consumer; the branch by the alternate. -/
structure Resv where
  port : Nat
  slot : Nat
  period : Nat
  offset : Nat
  src : Nat
  flow : Nat
  chain : Nat
  dest : Nat
  alt : Bool
  deriving DecidableEq, Repr

/-- A walk at its source (R433): the chain it reserves, the slot tried, the hop limit, the splits the primary branch has made once it arrived,
the alternate branches that arrived, and the largest hop count. -/
structure Walk where
  flow : Nat
  chain : Nat
  slot : Nat
  limit : Nat
  splits : Option Nat
  alts : List Nat
  hops : Nat
  deriving DecidableEq, Repr

/-- A FLOW_OPEN or FLOW_CLOSE at its consumer (R447): the source, the flow number once known, the chains asked, those done, the
largest hop count, and the tick at which the latest walk was asked for; `close` a FLOW_CLOSE, no descriptor for the flows of a pattern model (R242). -/
structure FlowOp where
  id : Option Nat
  close : Bool
  src : Nat
  flow : Option Nat
  chains : Nat
  done : List Nat
  hops : Nat
  askedAt : Nat
  deriving DecidableEq, Repr

/-- A QUILT_AUDIT in progress (R439, R440, R448): link audits still open as 4 × port + class, ports that failed, the ports named, and the
pairs still open as 4 × destination + class with those failed. -/
structure AuditOp where
  id : Nat
  ports : Nat
  links : List Nat
  failed : Nat
  pairs : List Nat
  pairsFailed : Nat
  deriving DecidableEq, Repr

/-- A read of ring memory at the server (R445, R462): its tag, the ring, the slot of a descriptor (none: the head block), and the
half-words that have come. -/
structure RemoteRead where
  ring : Nat
  slot : Option Nat
  base : Nat
  parts : List (Nat × List Nat)
  deriving DecidableEq, Repr

/-- The quilt switch (11_quilt.md) and quilt time (02_tick_clocks_time.md). Send sequences and tokens by key; incoming flows;
tokens granted by 4 × source + class; token requests waiting as (source, class, count); stitches without a token; pairs whose
request is out; destinations with discards since they were last usable; flows open here as (source, flow, chains, class); the tick of the
latest marker and the marker forwarded last; PORT_RETRAINs as (descriptor, ports, tick); the tick at which a destination lost its last port; the
tick at which tokens of a pair were last used or granted, by 4 × destination + class; the tick of the client's latest fetch (R445). -/
structure QuiltSt where
  ports : Map (Option PortSt)
  queue : List QItem
  tack : List TackItem
  seqs : Map Nat
  flows : Map (Option FlowRec)
  granted : Map Nat
  poolWait : List (Nat × Nat × Nat)
  tokWait : List QItem
  tokAsked : List Nat
  discards : List Nat
  unreach : Nat
  resvs : List Resv
  walks : List Walk
  ops : List FlowOp
  inFlows : List (Nat × Nat × Nat × Nat)
  route : Option (Nat × Option (List Nat))
  retrains : List (Nat × Nat × Nat)
  audits : List AuditOp
  trainDue : Bool
  reads : List RemoteRead
  trace : Map (List Nat)
  markerAt : Nat
  marked : Option Nat
  lostAt : Map Nat
  tokUsed : Map Nat
  fetchAt : Nat
  deriving DecidableEq, Repr

/-- A received frame that a bus port holds (R503): its bytes, MS/TP type and source, and whether a reply is expected. -/
structure BusFrame where
  bytes : List Nat
  kind : Nat
  src : Nat
  reply : Bool
  deriving DecidableEq, Repr

/-- States of an MS/TP master node (R492; ANSI/ASHRAE 135, clause 9). -/
inductive MstpState where
  | idle | sending | waitReply | passToken | noToken | pollForMaster | silent
  deriving DecidableEq, Repr

/-- What a bus port has on the line or waits for: a BUS_SEND, a poll entry, or a transfer whose descriptor is gone. -/
inductive BusJob where
  | send (id : Nat)
  | entry (i : Nat)
  | orphan
  deriving DecidableEq, Repr

/-- One bus port (13_bus_ports.md). `queue` are BUS_SENDs not begun, `data` what their buffers hold; `job` is on the line or waits for
a response, `sent` once its frame has left, `attempt` failed attempts so far, `late` that the latest failed by timeout; `broadcast` the silence after a broadcast. `recvs` are posted
BUS_RECVs and `held` received frames. MS/TP: node state, next and polled stations, token and frame counts, retries, whether it is in
the ring, and the pending reply as (source, type) with the tick at which it became so. Modbus: entries due, failures in a row by entry, entries in fault, the
tick at which an entry last started, plus one. `at_` is the tick of the latest frame on the line, from which the port's waits are counted. -/
structure BusSt where
  queue : List Nat
  data : Map (List Nat)
  job : Option BusJob
  sent : Bool
  attempt : Nat
  late : Bool
  broadcast : Bool
  recvs : List Nat
  held : List BusFrame
  node : MstpState
  ps : Nat
  tokens : Nat
  frames : Nat
  retry : Nat
  joined : Bool
  reply : Option (Nat × Nat)
  due : List Nat
  fails : Map Nat
  faulted : List Nat
  starts : Map Nat
  at_ : Nat
  replyAt : Nat
  deriving DecidableEq, Repr

/-- A BUS_POLL_SET (R508): its port, and the list once it is checked. -/
structure PollSet where
  id : Nat
  port : Nat
  list : Option (List Nat)
  deriving DecidableEq, Repr

/-- One NVM group (R542): its two copies, the wrong bits of their code words, CUR (true for copy 1) and MIR. -/
structure NvmGroup where
  c0 : Word
  c1 : Word
  e0 : Nat
  e1 : Nat
  cur : Bool
  mir : Bool
  deriving DecidableEq, Repr

/-- A group as it leaves the factory: both copies 0. -/
def NvmGroup.blank : NvmGroup := { c0 := 0, c1 := 0, e0 := 0, e1 := 0, cur := false, mir := true }

/-- Who asked for a page write: a host NVM_WRITE, the model store, the fitting log. -/
inductive WriteOrigin where
  | host (id : Nat)
  | model (load : Nat)
  | log
  deriving DecidableEq, Repr

/-- A page write that waits or runs (R542, R546, R547): its bytes from address `addr` on, the bank whose BUSY shows it, whether it has started, and the tick, plus 1, since
which R547 keeps it waiting (0: it does not). -/
structure PageWrite where
  origin : WriteOrigin
  bank : Nat
  addr : Nat
  bytes : List Nat
  started : Bool
  waitAt : Nat
  deriving DecidableEq, Repr

/-- An NVM_SYNC (R557): the records and the blocks that must still commit, and the records committed since. -/
structure SyncOp where
  id : Nat
  recs : List Nat
  blocks : List Nat
  count : Nat
  deriving DecidableEq, Repr

/-- The header group of a save image (R560): quilt time, save sequence, PAT_MODEL_ID, kind. -/
structure SaveHeader where
  time : Nat
  seq : Nat
  model : Nat
  kind : Nat
  deriving DecidableEq, Repr

/-- An image area (R561): its header group while that is usable, whether the CRC in it matches, the bytes from 0x0020 on. -/
structure SaveArea where
  header : Option SaveHeader
  crcOk : Bool
  cells : List Host.Cell
  deriving DecidableEq, Repr

/-- A save that runs (R562): the area it goes to, the header it ends with, the image taken at its start. -/
structure SaveRun where
  area : Nat
  header : SaveHeader
  cells : List Host.Cell
  deriving DecidableEq, Repr

/-- An NVM_EXPORT (R565): its descriptor, and what must commit before the image is taken. -/
structure ExportOp where
  id : Nat
  recs : List Nat
  blocks : List Nat
  deriving DecidableEq, Repr

/-- An NVM_IMPORT (R567): its descriptor, the envelope in host memory, whether its checks have ended, whether it has begun to write. -/
structure ImportOp where
  id : Nat
  image : List Nat
  checked : Bool
  begun : Bool
  deriving DecidableEq, Repr

/-- The non-volatile memory (15_retained_state_nvm.md): groups by address / 32; what is in force of the records from 3,072 on;
records marked ambiguous; ends of lockouts by 2 × region + kind, plus one; page writes in the order asked; NVM_SYNCs; REC_WRITEs
and REC_CONFIRMs that wait for their record as (descriptor, record); store pointers in force as (first address, length); the two
image areas and a save or checkpoint that runs; the tick of the latest checkpoint's start, and of the latest refresh of a group with the group
whose turn is next (R563, R576); an export, an import; that the core die is to be reset after an import; that this start found
an import in progress and no import has completed since; and that control does not start in this start. -/
structure NvmSt where
  groups : Map NvmGroup
  kept : Map (List Nat)
  ambiguous : List Nat
  locked : Map Nat
  writes : List PageWrite
  syncs : List SyncOp
  recOps : List (Nat × Nat)
  pointers : Map (Nat × Nat)
  areaA : SaveArea
  areaB : SaveArea
  save : Option SaveRun
  ckptAt : Nat
  refreshAt : Nat
  refreshTurn : Nat
  exporting : Option ExportOp
  importing : Option ImportOp
  restart : Bool
  incomplete : Bool
  noControl : Bool
  deriving DecidableEq, Repr

/-- The panel rails (R581, R582): off, rising with rail `n` (1 VGH, 2 VGL, 3 VSH, 4 VSL, 5 VCOM) in its start, in regulation, falling. -/
inductive PanelRails where
  | off
  | rising (n : Nat)
  | up
  | falling
  deriving DecidableEq, Repr

/-- A waiting update (R594 to R596): its descriptor, none for the start clear, its rectangle and mode, whether it has waited for an overlap. -/
structure PanelReq where
  id : Option Nat
  x : Nat
  y : Nat
  w : Nat
  h : Nat
  mode : Nat
  waited : Bool
  deriving DecidableEq, Repr

/-- A running update (R593, R594): the request, its band, L, phases driven, start tick, words that get no drive, an abort to be met. -/
structure PanelRun where
  req : PanelReq
  band : Nat
  len : Nat
  driven : Nat
  start : Nat
  bad : List Nat
  abort : Option Nat
  deriving DecidableEq, Repr

/-- A PANEL_WFLOAD (R590): its descriptor, the tick of its start, and the payload once it lies in the inactive slot. -/
structure PanelLoad where
  id : Nat
  since : Nat
  payload : Option (List Nat)
  deriving DecidableEq, Repr

/-- The panel driver (16_panel.md): rails, waiting and running updates, a load, rail faults in a row, the tick of the latest phase
boundary plus one, the kind of the present frontlight fault; the ticks at which the rail in its start was started, the latest update ended,
and the frontlight was last found faulty. -/
structure PanelSt where
  rails : PanelRails
  waiting : List PanelReq
  running : List PanelRun
  load : Option PanelLoad
  faultRow : Nat
  phaseAt : Nat
  flKind : Nat
  railAt : Nat
  idleAt : Nat
  flAt : Nat
  deriving DecidableEq, Repr

/-- One key (R612, R614, R618): debounced as pressed, scans in a row that sampled the opposite, AMBIGUOUS, held since the unlock. -/
structure KeySt where
  pressed : Bool
  run : Nat
  ambiguous : Bool
  muted : Bool
  deriving DecidableEq, Repr

/-- One encoder (R619, R620): the accepted levels of A and B, the count, the detents at its latest report and the tick of it, plus 1. -/
structure EncSt where
  a : Bool
  b : Bool
  count : Int
  told : Int
  toldAt : Nat
  deriving DecidableEq, Repr

/-- Keys and encoders (17_keys.md): key and encoder states, KEY_LOCKs that wait for a scan boundary as (descriptor, lock), the tick of
the latest change, the tick of the latest accepted unlock step, the tick of the latest scan, plus 1, and of the latest at which a key was
not debounced as released; whether the idle time has run out, the lock to come at the scan boundary. -/
structure KeysSt where
  keys : Map KeySt
  encs : Map EncSt
  locks : List (Nat × Bool)
  changedAt : Nat
  stepAt : Nat
  scanAt : Nat
  heldAt : Nat
  idleDue : Bool
  deriving DecidableEq, Repr

/-- A change that a fitting pass has decided (R629): the setting's bit, the object index (0xFFFF for none), old and new value. -/
structure FitChange where
  bit : Nat
  index : Nat
  old : Nat
  new : Nat
  deriving DecidableEq, Repr

/-- Spin-ups of a fan since the previous pass (R629): the tick its kick was first seen, the longest in ticks, how many. -/
structure FitSpin where
  since : Option Nat
  longest : Nat
  kicks : Nat
  deriving DecidableEq, Repr

/-- What a pass takes at its start (R627 step 1): coil resistances (mΩ) and spin-ups since the previous pass; by fan its speed per command;
CAL_GAIN of the converters; PANEL_COUNT.UPDATES and the largest boost duty. -/
structure FitSnap where
  coils : Map Nat
  spins : Map FitSpin
  fans : Map Nat
  gains : List Nat
  updates : Nat
  duty : Nat
  deriving DecidableEq, Repr

/-- Fitting (18_fitting.md): the FIT_RUN of the pass, its start, what it took at it, what it measured; the tick at which the hold-up step began,
C and ESR once measured, whether its window is open and since which tick, or was skipped; what was decided (changes; margins and forecasts
by entry; the object of the worst instance); log entries still to be written; that an abandoned pass is to run again, and the tick at which
the warning ended; baselines asked for; by entry the (start, margin) of its valid passes newest first; lowest path margins of the passes
before, newest first; passes in a row with f of 0; (start, reference drift, calibration gain by converter) in ppm newest first; baselines by
kind and object, plus one; coil resistances (mΩ) and spin-ups measured since the previous pass; PANEL_COUNT at it; the tick, plus 1, of the
latest reading of the path monitors between passes. -/
structure FitSt where
  desc : Option Nat
  start : Nat
  snap : FitSnap
  sense : Option FitSense
  stepAt : Nat
  holdup : Option (Nat × Nat)
  window : Bool
  windowAt : Nat
  skipped : Bool
  changes : List FitChange
  margins : Map Nat
  forecasts : Map Nat
  worst : Map Nat
  log : List (List Nat)
  rerun : Bool
  rerunAt : Nat
  newBase : Nat
  hist : Map (List (Nat × Nat))
  paths : List Nat
  zeroRun : Nat
  rates : List (Nat × Int × List Int)
  base : Map Nat
  coils : Map Nat
  spins : Map FitSpin
  panelCount : Nat
  pathAt : Nat
  deriving DecidableEq, Repr

/-- The block. -/
structure Dev where
  part : Part
  /-- BAR0 as the host sees it: each field under its place in bits, absent where it holds its reset value. -/
  regs : Map Nat
  /-- The configuration in force at the field dies, kept in the same way (R147). -/
  die : Map Nat
  /-- Records whose change is not yet committed, oldest first (R557). -/
  retPending : List Nat
  /-- Shared word memory, byte by byte; an unlisted byte is 0x00. -/
  mem : List Host.Cell
  /-- Wrong bits of the stored code words, by word (R28). -/
  memErr : Map Nat
  /-- Wrong bits of code words of the shared memory whose place the spec does not give: a value word under name·256 + quantity, one that waits for
  routing under 2^42 + that, a stitch of a retry buffer under 2^40 + 2^16·port + place, a route table entry under 2^41 + device (R33). -/
  heldErr : Map Nat
  /-- Quilt time (R84). -/
  tick : Nat
  /-- The latch of GLOBAL_TICK_HI (R68). -/
  tickLatch : Nat
  /-- Next word of the scrubber (R32). -/
  scrub : Nat
  /-- The tick of the scrubber's latest read, plus one (R32). -/
  scrubAt : Nat
  power : PowerSt
  frz : FreezeSt
  recs : List Rec
  nextId : Nat
  nextOrder : Nat
  /-- Rings in MSI-X holdoff: 1 running, 2 with a further completion; the tick of a ring's latest signal (R467). -/
  irqHold : Map Nat
  irqAt : Map Nat
  /-- Trace rings with a write-back due (R479). -/
  traceDue : Map Nat
  events : List Event
  evSeq : Nat
  evDropped : Nat
  evFirstDropped : Nat
  limits : Map (Option Limit)
  /-- Host watchdog (R480): the latest of the three moments, and the tick of entry to host-lost state. -/
  hostSince : Nat
  lostSince : Nat
  /-- Latest value words that routing delivered, by 256 × quilt name + quantity. -/
  values : Map (Option VW)
  produced : List Produced
  /-- Writers and host forces of output objects, by handle (R45, R46). -/
  writers : Map Nat
  forces : Map (Option Nat)
  /-- Commands of the output objects at the core die, by handle. -/
  commands : Map Nat
  mailA : List Mail
  mailB : List Mail
  mailSeqA : Nat
  mailSeqB : Nat
  /-- Whether the first entry of a mailbox queue has been sent, and is sent again until the die has taken it (R147). -/
  mailOutA : Bool
  mailOutB : Bool
  /-- The FIELD_RESUME descriptors that have not ended, oldest first (R174). -/
  resumes : List Resume
  frameSeq : Nat
  downA : Option DownFrame
  downB : Option DownFrame
  upA : Option UpFrame
  upB : Option UpFrame
  /-- Ticks without a good up frame, by die (R152). -/
  upMissA : Nat
  upMissB : Nat
  upHistA : UpHist
  upHistB : UpHist
  dieA : DieSt
  dieB : DieSt
  meas : MeasSt
  dis : Map DiSt
  dos : Map DoSt
  floats : Map FloatSt
  poss : Map PosSt
  emus : Map EmuSt
  fans : Map FanSt
  aos : Map AoSt
  shut : ShutSt
  sec : SecSt
  sched : SchedSt
  /-- Configuration blocks in force, as their bytes (R559), by key; the keys whose block is not yet in the store. -/
  blocks : Map (List Nat)
  storeDue : List Nat
  pat : PatSt
  /-- The tick after which a remote word last arrived, plus one, by quilt name (R243). -/
  arrivals : Map Nat
  eng : LoopEng
  quilt : QuiltSt
  buses : Map (Option BusSt)
  pollSets : List PollSet
  nvm : NvmSt
  panel : PanelSt
  keys : KeysSt
  fit : FitSt
  /-- Reads of the opaque free values so far: the model's own field. -/
  free : Nat
  out : List Output
  deriving DecidableEq, Repr

/-- The state: the block and the queue of the commands that are waiting, first in, first out. -/
structure State where
  dev : Dev
  pending : List Instr
  deriving DecidableEq, Repr

/-! ### The state after power-on -/

/-- No up frame so far. -/
def UpHist.init : UpHist := { seen := false, mask := 0, page := 0, lost := 0, dropped := 0 }

/-- The supplies before power-on (R527): nothing enabled, the regulator at its own 0.80 V (R537). -/
def PowerSt.init : PowerSt :=
  { phase := .waitVl24, enables := 0, attempts := 0, failedRail := 0, resetCause := 0, warnAtReset := false, saveEndedAtReset := false
    minAtReset := 0, vholdAtReset := 0, warnStart := 0, warnMin := 0, resumeTimer := none, stopDue := false, resumeDue := false
    left := none, dipSafeStopped := false, rstLow := false, rstResetDue := false, rstAt := none, clkrefLostAt := none, watchdogAt := none, vout := 800, voutPrev := 800
    vexp := 0, voutAt := 0, readAt := 0, statusAt := 0, pmbusRetry := 0, pmbusFault := 0, pmbusTrying := false }

/-- Not frozen, no request. -/
def FreezeSt.init : FreezeSt :=
  { req := none, cur := none, thawAsked := 0, frzNLow := false, posted := [], doorbells := [], discarded := 0, lastF := none
    lastThaw := none, master := none, chain := [] }

/-- No conversion made. -/
def MeasSt.init : MeasSt :=
  { convs := [], cals := [], caps := [], words := [], fresh := [], source := [], slotAt := [], remains := [], slotSeen := [], modeAt := []
    reopen := [], contact := [], disconnected := [], urgentDone := [], testDue := [], aborts := [], calAt := 0 }

/-- Every channel off, the eight tokens of each pool free (R357). -/
def ShutSt.init : ShutSt := { sols := [], banks := [], freeA := 8, freeB := 8, vf24A := 0, vf24B := 0, loads := [] }

/-- No owner. -/
def SecSt.init : SecSt :=
  { ownerKey := [], manifest := none, ops := [], fwDigest := List.replicate 64 0, fallback := 0, recovered := false }

/-- No civil time, no zone. -/
def SchedSt.init : SchedSt := { ops := [], civil := none, dst := [], last := none, seen := none, jump := 0, zones := [], evalAt := none }

/-- No model. -/
def PatSt.init : PatSt :=
  { run := false, hold := false, ctrl := none, load := none, slotA := [], slotB := [], slot := 0, resets := [], lastDone := none, base := none
    bindX := [], inputs := [], formed := 0, pub := none, predicting := none, missCause := 0, flowsDue := false, preds := []
    shape := { header := [], nodes := [], slots := [], sources := [] }, suspect := [], startAt := 0, urgentAt := 0, freeAt := 0, predBase := none, savedAt := 0 }

/-- No loop. -/
def LoopEng.init : LoopEng :=
  { loops := [], sets := [], removals := [], stopFrom := none, stopCause := 0, backFrom := none, chalk := [], delay := [], unforced := [] }

/-- Every port disabled. -/
def QuiltSt.init : QuiltSt :=
  { ports := [], queue := [], tack := [], seqs := [], flows := [], granted := [], poolWait := [], tokWait := [], tokAsked := [], discards := []
    unreach := 0, resvs := [], walks := [], ops := [], inFlows := [], route := none, retrains := [], audits := [], trainDue := false, reads := []
    trace := [], markerAt := 0, marked := none, lostAt := [], tokUsed := [], fetchAt := 0 }

/-- No save image. -/
def SaveArea.init : SaveArea := { header := none, crcOk := false, cells := [] }

/-- The NVM as it leaves the factory. -/
def NvmSt.init : NvmSt :=
  { groups := [], kept := [], ambiguous := [], locked := [], writes := [], syncs := [], recOps := [], pointers := [], areaA := SaveArea.init
    areaB := SaveArea.init, save := none, ckptAt := 0, refreshAt := 0, refreshTurn := 0, exporting := none, importing := none, restart := false, incomplete := false, noControl := false }

/-- Rails off. -/
def PanelSt.init : PanelSt :=
  { rails := .off, waiting := [], running := [], load := none, faultRow := 0, phaseAt := 0, flKind := 0, railAt := 0, idleAt := 0, flAt := 0 }

/-- No key pressed. -/
def KeysSt.init : KeysSt := { keys := [], encs := [], locks := [], changedAt := 0, stepAt := 0, scanAt := 0, heldAt := 0, idleDue := false }

/-- No pass so far. -/
def FitSt.init : FitSt :=
  { desc := none, start := 0, snap := { coils := [], spins := [], fans := [], gains := [], updates := 0, duty := 0 }, sense := none, stepAt := 0
    holdup := none, window := false, windowAt := 0, skipped := false, changes := [], margins := [], forecasts := []
    worst := [], log := [], rerun := false, rerunAt := 0, newBase := 0, hist := [], paths := [], zeroRun := 0, rates := [], base := [], coils := [], spins := []
    panelCount := 0, pathAt := 0 }

/-- A part as it comes from the factory, before power-on: every register at its reset or factory value, nothing stored. -/
def Dev.init (part : Part) : Dev :=
  { part := part, regs := [], die := [], retPending := [], mem := [], memErr := [], heldErr := [], tick := 0, tickLatch := 0, scrub := 0, scrubAt := 0, power := PowerSt.init
    frz := FreezeSt.init, recs := [], nextId := 0, nextOrder := 0, irqHold := [], irqAt := [], traceDue := [], events := [], evSeq := 0, evDropped := 0
    evFirstDropped := 0, limits := [], hostSince := 0, lostSince := 0, values := [], produced := [], writers := [], forces := [], commands := []
    mailA := [], mailB := [], mailSeqA := 0, mailSeqB := 0, mailOutA := false, mailOutB := false, frameSeq := 0, downA := none, downB := none
    resumes := [], upA := none, upB := none, upMissA := 0, upMissB := 0, upHistA := UpHist.init, upHistB := UpHist.init, dieA := DieSt.init, dieB := DieSt.init
    meas := MeasSt.init, dis := [], dos := [], floats := [], poss := [], emus := [], fans := [], aos := [], shut := ShutSt.init
    sec := SecSt.init, sched := SchedSt.init, blocks := [], storeDue := [], pat := PatSt.init, arrivals := [], eng := LoopEng.init
    quilt := QuiltSt.init, buses := [], pollSets := [], nvm := NvmSt.init, panel := PanelSt.init, keys := KeysSt.init, fit := FitSt.init
    free := 0, out := [] }

/-- The machine before power-on. DESIGN CHOICE (log 2): an F-grade part of stepping B0; every other part is a state of its own. -/
def State.reset : State := { dev := Dev.init { grade := .f, stepping := .b0 }, pending := [] }

end Sys2Proof.Machine
end

