-- ==== Sys2Proof/Machine/Flags.lean ====
section
/-! DEFINITION. Value words and the flags of their status byte (R19, 00_scope.md; R43, 01_architecture.md). -/

namespace Sys2Proof.Machine
open Sys2Proof

/-- Status bits of a value word (R19). -/
def stVALID : Nat := 1
def stSTALE : Nat := 2
def stSETTLING : Nat := 4
def stFAULT : Nat := 8
def stFORCED : Nat := 16
def stSUBSTITUTED : Nat := 32
def stREMOTE : Nat := 64
def stCLAMPED : Nat := 128

/-- A value word from a Q16.16 number, status bits and a tick. -/
def mkWord (value : Int) (status tick : Nat) : VW :=
  { value := BitVec.ofInt 32 value, status := BitVec.ofNat 8 status, stamp := BitVec.ofNat 24 tick }

/-- The Q16.16 number in a value word. -/
def VW.val (w : VW) : Int := w.value.toInt

/-- One status bit of a value word. -/
def VW.has (w : VW) (bit : Nat) : Bool := w.status.toNat / bit % 2 == 1

/-- A value word with status bits set. -/
def VW.mark (w : VW) (bits : Nat) : VW := { w with status := w.status ||| BitVec.ofNat 8 bits }

/-- A value word with status bits cleared. -/
def VW.clear (w : VW) (bits : Nat) : VW := { w with status := w.status &&& ~~~(BitVec.ofNat 8 bits) }

/-- The 64 bits of a value word. -/
def VW.bits (w : VW) : Nat := w.value.toNat + 2 ^ 32 * w.status.toNat + 2 ^ 40 * w.stamp.toNat

/-- A value word from its 64 bits. -/
def VW.ofBits (n : Nat) : VW :=
  { value := BitVec.ofNat 32 n, status := BitVec.ofNat 8 (n / 2 ^ 32), stamp := BitVec.ofNat 24 (n / 2 ^ 40) }

end Sys2Proof.Machine
end

