-- ==== Sys2Proof/Machine/Ops.lean ====
section
/-! DEFINITION. The operations that every meaning shares: registers, objects, events, completions, shared memory, value words, field-die mailboxes. -/

namespace Sys2Proof.Machine
open Sys2Proof

/-! ### Registers -/

/-- Element `i` of a register field, as the host sees it. -/
def Dev.get (d : Dev) (f : Fld) (i : Nat) : Nat := Map.get d.regs (f.key i) (f.reset i)

/-- Element `i` of a register field set to `v`, cut to the field's width. -/
def Dev.put (d : Dev) (f : Fld) (i v : Nat) : Dev :=
  { d with regs := Map.set d.regs (f.key i) (v % 2 ^ f.width) (f.reset i) }

/-- A one-bit field read as a truth value. -/
def Dev.isSet (d : Dev) (f : Fld) (i : Nat) : Bool := d.get f i == 1

/-- A one-bit field written from a truth value. -/
def Dev.putBit (d : Dev) (f : Fld) (i : Nat) (b : Bool) : Dev := d.put f i (if b then 1 else 0)

/-- A counter field that holds at `top`, counted up once. -/
def Dev.bump (d : Dev) (f : Fld) (i top : Nat) : Dev := d.put f i (countUp top (d.get f i))

/-- A counter field that wraps, counted up once. -/
def Dev.wrapUp (d : Dev) (f : Fld) (i : Nat) : Dev := d.put f i (d.get f i + 1)

/-- The configuration value in force at the field die (R147). -/
def Dev.dget (d : Dev) (f : Fld) (i : Nat) : Nat := Map.get d.die (f.key i) (f.reset i)

/-- The configuration value in force at the field die, set. -/
def Dev.dput (d : Dev) (f : Fld) (i v : Nat) : Dev :=
  { d with die := Map.set d.die (f.key i) (v % 2 ^ f.width) (f.reset i) }

/-- A one-bit configuration field at the field die. -/
def Dev.disSet (d : Dev) (f : Fld) (i : Nat) : Bool := d.dget f i == 1

/-- A retained value changed: its record is to be committed (R557). While an import is pending nothing is (R568). -/
def Dev.markRec (d : Dev) (r : Nat) : Dev :=
  if d.isSet Reg.NVM_STAT.IMPORT_PENDING 0 || d.retPending.contains r then d else { d with retPending := d.retPending ++ [r] }

/-- A retained field at a BAR0 offset changed by the device: an ambiguous record is left as it stands (R558). -/
def Dev.markRet (d : Dev) (addr : Nat) : Dev :=
  match recordOf addr with
  | none => d
  | some r => if d.nvm.ambiguous.contains r then d else d.markRec r

/-- A retained field at a BAR0 offset written by the host (R558). -/
def Dev.markHost (d : Dev) (addr : Nat) : Dev :=
  match recordOf addr with
  | none => d
  | some r => d.markRec r

/-- A retained field changed by the device itself. -/
def Dev.putRet (d : Dev) (f : Fld) (i v : Nat) : Dev :=
  if d.get f i = v % 2 ^ f.width then d else (d.put f i v).markRet (f.addr i)

/-- A retained field written by the host. -/
def Dev.putHost (d : Dev) (f : Fld) (i v : Nat) : Dev := (d.put f i v).markHost (f.addr i)

/-! ### Outputs of the present command -/

/-- One more output of the present command. -/
def Dev.emit (d : Dev) (o : Output) : Dev := { d with out := d.out ++ [o] }

/-- A command begins: the outputs of the one before are gone. -/
def Dev.begin (d : Dev) : Dev := { d with out := [] }

/-- A command's effect on the block, the queue kept. -/
def State.onDev (s : State) (f : Dev → Dev) : Host.Outcome State Fault Refusal :=
  .next { s with dev := f s.dev.begin }

/-- A free value: bits that nothing constrains. -/
def Dev.freeBits (d : Dev) : BitVec 64 := Config.freeValue d.free

/-- The next free value is another one. -/
def Dev.nextFree (d : Dev) : Dev := { d with free := d.free + 1 }

/-! ### The part -/

/-- GLOBAL_CAP.STEPPING (R54). -/
def Stepping.code : Stepping → Nat
  | .a0 => 0 | .a1 => 1 | .b0 => 2

/-- GLOBAL_CAP.BL_MAX (R54). -/
def Stepping.blMax (p : Stepping) : Nat := p.code + 1

/-- Whether field die `k` is fitted: 0 A, 1 B on the F grade (R2). -/
def Dev.dieFitted (d : Dev) (k : Nat) : Bool := k == 0 || (k == 1 && d.part.grade == .f)

/-- The behaviour level in force (R58). -/
def Dev.bl (d : Dev) : Nat := d.get Reg.GLOBAL_BLSEL.BL_ACTIVE 0

/-- Whether the core die is frozen (R677). -/
def Dev.frozen (d : Dev) : Bool := d.isSet Reg.DBG_STAT.FROZEN 0

/-- Whether control has started and the core die's clocks run (R527, R676). -/
def Dev.live (d : Dev) : Bool := d.power.phase == .up && !d.frozen

/-- Whether the warning is in force (R516). -/
def Dev.dip (d : Dev) : Bool := d.isSet Reg.PWR_STAT.DIP 0

/-- Whether control acts: live, no warning, resumed from the latest one, and not kept from starting (R521, R522, R569). -/
def Dev.controlling (d : Dev) : Bool := d.live && !d.dip && !d.power.resumeDue && !d.nvm.noControl

/-- Whether the endpoint answers the host (R530, R653). -/
def Dev.hostOpen (d : Dev) : Bool := d.power.phase == .up || d.power.phase == .recovery

/-- Whether field die `k` is there and has started: its own domain runs while the core die is frozen or in reset too (R518, R682). -/
def Dev.dieLive (d : Dev) (k : Nat) : Bool :=
  d.dieFitted k && (d.power.phase == .up || decide (0 < if k = 0 then d.dieA.bounds else d.dieB.bounds))

/-! ### Objects (R35 to R42) -/

/-- How many indices class `c` has on the F grade (R35). -/
def classCountF (c : Nat) : Nat :=
  [1, 64, 512, 128, 64, 32, 8, 32, 32, 8, 4, 512, 4096, 256, 1, 144, 4, 4096, 8, 20, 32, 32, 1024, 133, 128].getD c 0

/-- Whether the indices of class `c` are split over the field dies (R35). -/
def classOnDies (c : Nat) : Bool := (1 ≤ c && c ≤ 10) || c == 20 || c == 21

/-- How many indices class `c` has on this grade (R35). -/
def Dev.classCount (d : Dev) (c : Nat) : Nat :=
  if classOnDies c && d.part.grade == .s then classCountF c / 2 else classCountF c

/-- The field die that holds index `i` of class `c` (R36). -/
def dieOf (c i : Nat) : Nat := if i < classCountF c / 2 then 0 else 1

/-- The local channel number of index `i` of class `c` on its die (R36). -/
def localOf (c i : Nat) : Nat := i % (classCountF c / 2)

/-- The index of local channel `j` of class `c` on die `k`. -/
def globalOf (c k j : Nat) : Nat := k * (classCountF c / 2) + j

/-- Class code of a handle or quilt name (R20). -/
def classOf (h : Nat) : Nat := bitsAt h 14 6

/-- Index of a handle or quilt name (R20). -/
def indexOf (h : Nat) : Nat := bitsAt h 0 14

/-- Device part of a quilt name (R20). -/
def devOf (h : Nat) : Nat := bitsAt h 20 10

/-- A handle (R20). -/
def handle (c i : Nat) : Nat := c * 2 ^ 14 + i

/-- Whether the object part of a name is NULL (R40, R730). -/
def isNull (h : Nat) : Bool := h % 2 ^ 20 == 0

/-- Whether R41 refuses a quilt name. -/
def Dev.badName (d : Dev) (h : Nat) : Bool :=
  2 ^ 30 ≤ h || decide (0x19 ≤ classOf h) || !decide (indexOf h < d.classCount (classOf h))

/-- Whether R41 or R730 refuses a 32-bit handle field; the NULL handle passes. -/
def Dev.badHandle (d : Dev) (h : Nat) : Bool := (2 ^ 20 ≤ h && !isNull h) || d.badName (h % 2 ^ 20)

/-- Whether a handle field names an object of class `c` (R730). -/
def Dev.isHandle (d : Dev) (c h : Nat) : Bool := !d.badHandle h && classOf h == c && h < 2 ^ 20

/-- The device part by which this device knows itself (R42, R464). -/
def Dev.devNum (d : Dev) : Nat :=
  if d.isSet Reg.GLOBAL_DEVNUM.ACTIVE_VALID 0 then d.get Reg.GLOBAL_DEVNUM.DEVNUM_ACTIVE 0
  else d.get Reg.GLOBAL_DEVNUM.DEVNUM 0

/-- Whether a quilt name names a local object (R42). -/
def Dev.isLocal (d : Dev) (h : Nat) : Bool := devOf h == d.devNum

/-- The quilt name of a local object. -/
def Dev.name (d : Dev) (c i : Nat) : Nat := d.devNum * 2 ^ 20 + handle c i

/-- The source object of an event that names none (R475). -/
def Dev.nullName (d : Dev) : Nat := d.devNum * 2 ^ 20

/-- Class codes of R35. -/
def clsUI : Nat := 0x01
def clsMSLOT : Nat := 0x02
def clsDI : Nat := 0x03
def clsDO : Nat := 0x04
def clsSOL : Nat := 0x05
def clsBANK : Nat := 0x06
def clsFAN : Nat := 0x07
def clsAO : Nat := 0x08
def clsPOS : Nat := 0x09
def clsEMU : Nat := 0x0A
def clsLOOP : Nat := 0x0B
def clsNODE : Nat := 0x0C
def clsSCHED : Nat := 0x0D
def clsPANEL : Nat := 0x0E
def clsKEY : Nat := 0x0F
def clsENC : Nat := 0x10
def clsREC : Nat := 0x11
def clsSEAM : Nat := 0x12
def clsBUS : Nat := 0x13
def clsINTL : Nat := 0x14
def clsFLOAT : Nat := 0x15
def clsVAR : Nat := 0x16
def clsRING : Nat := 0x17
def clsZONE : Nat := 0x18

/-! ### Events (R475 to R477) -/

/-- A list cut or filled with 0x00 to 16 detail bytes. -/
def detail16 (l : List Nat) : List Nat := (l ++ List.replicate 16 0).take 16

/-- An event raised, with its quilt time: it waits in the queue of 256, or is dropped and counted (R477). -/
def Dev.raiseAt (d : Dev) (code src time : Nat) (detail : List Nat) : Dev :=
  let e : Event := { seq := d.evSeq, code := code, src := src, time := time, detail := detail16 detail }
  let d1 := { d with evSeq := (d.evSeq + 1) % 256 }
  if d.events.length < 256 then { d1 with events := d.events ++ [e] }
  else
    { d1 with evDropped := d.evDropped + 1
              evFirstDropped := if d.evDropped = 0 then d.evSeq else d.evFirstDropped }
      |>.bump Reg.HOSTQ_LOST.EVENTS 0 0xFFFF

/-- An event raised now. -/
def Dev.raise (d : Dev) (code src : Nat) (detail : List Nat) : Dev := d.raiseAt code src d.tick detail

/-- The key of an event source in the interval table. -/
def limitKey (code src : Nat) : Nat := code * 2 ^ 30 + src

/-- An event under the interval rule of R134: a state raised at once when no 100 ms interval of its source runs; inside one
it is kept for the interval's end, and dropped when it is again the state last reported. -/
def Dev.raiseLimited (d : Dev) (code src time st : Nat) (detail : List Nat) : Dev :=
  let k := limitKey code src
  match Map.get d.limits k none with
  | none => { d with limits := Map.set d.limits k (some { last := st, pending := none, since := d.tick }) none }.raiseAt code src time detail
  | some l =>
    let m : Limit := { l with pending := if st = l.last then none else some (st, detail) }
    { d with limits := Map.set d.limits k (some m) none }

/-- An event raised at most once per 100 ms per source: inside an interval the latest detail waits for its end, and where
`off` is given two bytes there count the occurrences since the last report (R371). -/
def Dev.raiseCounted (d : Dev) (code src time : Nat) (detail : List Nat) (off : Option Nat) : Dev :=
  let k := limitKey code src
  let counted := fun (n : Nat) => match off with
    | none => detail
    | some o => (detail16 detail).take o ++ leBytes 2 (min 0xFFFF n) ++ (detail16 detail).drop (o + 2)
  match Map.get d.limits k none with
  | none => { d with limits := Map.set d.limits k (some { last := 0, pending := none, since := d.tick }) none }.raiseAt code src time (counted 1)
  | some l =>
    let n := match l.pending, off with
      | some (_, dt), some o => leAt dt o 2 + 1
      | _, _ => 1
    { d with limits := Map.set d.limits k (some { l with pending := some (1, counted n) }) none }

/-- The end of a 100 ms interval: what is pending is reported and opens the next interval (R134). -/
def Dev.endInterval (d : Dev) (code src : Nat) : Dev :=
  let k := limitKey code src
  match Map.get d.limits k none with
  | none => d
  | some l =>
    if d.tick < l.since + 10000 then d
    else match l.pending with
      | none => { d with limits := Map.set d.limits k none none }
      | some (st, dt) =>
        { d with limits := Map.set d.limits k (some { last := st, pending := none, since := d.tick }) none }.raise code src dt

/-! ### Completions (R465 to R474) -/

/-- The status codes of R24. -/
def Status.code : Status → Nat
  | .ok => 0 | .aborted => 1 | .skipped => 2 | .nothingToAbort => 3 | .refusedBusy => 4
  | .badObject => 5 | .badParam => 6 | .notAdmitted => 7 | .authFailed => 8 | .locked => 9
  | .timeout => 10 | .dataError => 11 | .unreachable => 12 | .superseded => 13

/-- The record of descriptor `id`, while the device holds it. -/
def Dev.rec? (d : Dev) (id : Nat) : Option Rec := d.recs.find? (fun r => r.id == id)

/-- Whether the operation of descriptor `id` still runs. -/
def Dev.isRunning (d : Dev) (id : Nat) : Bool :=
  match d.rec? id with
  | some r => r.phase == .running
  | none => false

/-- One record changed. -/
def Dev.setRec (d : Dev) (id : Nat) (f : Rec → Rec) : Dev :=
  { d with recs := d.recs.map fun r => if r.id == id then f r else r }

/-- The operation of descriptor `id` ends with a status and a result; its completion then waits for ring order and space.
A completion that R456 discards is counted and gone. -/
def Dev.finish (d : Dev) (id : Nat) (st : Status) (result : Nat) : Dev :=
  match d.rec? id with
  | none => d
  | some r =>
    match r.phase with
    | .ended _ _ => d
    | _ =>
      if r.discard then
        { d with recs := d.recs.filter fun x => !(x.id == id) }.bump Reg.HOSTQ_LOST.COMPLETIONS 0 0xFFFF
      else
        { d with nextOrder := d.nextOrder + 1 }.setRec id fun x =>
          { x with phase := .ended st (result % 2 ^ 64), order := d.nextOrder }

/-- The operation ends with a status and no result. -/
def Dev.fail (d : Dev) (id : Nat) (st : Status) : Dev := d.finish id st 0

/-- The operation ends OK with an 8-byte result. -/
def Dev.done (d : Dev) (id result : Nat) : Dev := d.finish id .ok result

/-! ### CRC-32C (R141) -/

/-- One bit step of the reflected CRC-32C. -/
def crcBit (c : Nat) : Nat := if c % 2 = 1 then Nat.xor (c / 2) 0x82F63B78 else c / 2

/-- One byte of the CRC-32C. -/
def crcByte (c b : Nat) : Nat :=
  let x := Nat.xor c (b % 256)
  crcBit (crcBit (crcBit (crcBit (crcBit (crcBit (crcBit (crcBit x)))))))

/-- CRC-32C of a byte string (R141). -/
def crc32c (bs : List Nat) : Nat := Nat.xor (bs.foldl crcByte 0xFFFFFFFF) 0xFFFFFFFF

/-! ### The word code (R27 to R29, R404) -/

/-- Multiplication by x modulo the generator 0x1B8_E3A7 (R404). -/
def gfMulX (r : Nat) : Nat :=
  let y := 2 * r
  if 2 ^ 24 ≤ y then Nat.xor y 0x1B8E3A7 else y

/-- x to the `n` modulo the generator. -/
def gfPow : Nat → Nat
  | 0 => 1
  | n + 1 => gfMulX (gfPow n)

/-- The syndrome of a single wrong code bit `i` (R404): check bit k stands for x^k, data bit i for x^(24 + i). -/
def bitSyndrome (i : Nat) : Nat := if i < 256 then gfPow (24 + i) else gfPow (i - 256)

/-- The syndromes of the 280 code bits, least code bit first. -/
def bitSyndromes : List Nat := (List.range 280).map bitSyndrome

/-- The syndrome of an error pattern. -/
def syndrome (e : Nat) : Nat :=
  (List.range 280).foldl (fun s i => if e.testBit i then Nat.xor s (bitSyndrome i) else s) 0

/-- How many code bits an error pattern flips. -/
def flips (e : Nat) : Nat := (List.range 280).foldl (fun n i => if e.testBit i then n + 1 else n) 0

/-- Whether a pattern lies within 24 adjacent code bits. -/
def burst24 (e : Nat) : Bool := (List.range 257).any fun i => e / 2 ^ i % 2 ^ 24 * 2 ^ i == e

/-- The pattern of one or two bits with a given syndrome, when there is one. -/
def fewBits (s : Nat) : Option Nat :=
  let ss := bitSyndromes
  match ss.findIdx? (· == s) with
  | some i => some (2 ^ i)
  | none =>
    (List.range 280).findSome? fun i =>
      (ss.drop (i + 1)).findIdx? (· == Nat.xor s (ss.getD i 0)) |>.map fun j => 2 ^ i + 2 ^ (i + 1 + j)

/-- What the decoder does with a code word whose wrong bits are `e`: nothing wrong is seen and the wrong data bits of the
first part stay; it corrects, counts, and leaves those; or it reports uncorrectable. -/
inductive Decoded where
  | clean (wrong : Nat)
  | corrected (wrong : Nat)
  | uncorrectable
  deriving DecidableEq, Repr

/-- The fixed decoder (R28, R29): the patterns that R28 names by R28, every other by its syndrome. -/
def decodeErr (e : Nat) : Decoded :=
  let n := flips e
  if n = 0 then .clean 0
  else if n ≤ 2 then .corrected 0
  else if n = 3 || burst24 e then .uncorrectable
  else
    let s := syndrome e
    if s = 0 then .clean (e % 2 ^ 256)
    else match fewBits s with
      | some c => .corrected (Nat.xor e c % 2 ^ 256)
      | none => .uncorrectable

/-! ### Shared word memory (R27 to R34, R53) -/

/-- Words of the shared memory (R32). -/
def memWords : Nat := 393216

/-- One byte as stored. -/
def memGet (m : List Host.Cell) (a : Nat) : Byte := Map.get m a 0

/-- One byte stored. -/
def memSet (m : List Host.Cell) (a : Nat) (b : Byte) : List Host.Cell := Map.set m a b 0

/-- The canonical form of a memory. -/
def Memory.wf (m : List Host.Cell) : Bool := Map.wf (fun _ => (0 : Byte)) m

/-- Bytes stored at rising addresses. -/
def memSetMany (m : List Host.Cell) (a : Nat) : List Nat → List Host.Cell
  | [] => m
  | b :: bs => memSetMany (memSet m a (BitVec.ofNat 8 b)) (a + 1) bs

/-- Bytes as stored. -/
def memBytes (m : List Host.Cell) (a n : Nat) : List Nat := (List.range n).map fun j => (memGet m (a + j)).toNat

/-- The 32 bytes of a word as stored. -/
def wordBytes (m : List Host.Cell) (w : Nat) : List Nat := memBytes m (32 * w) 32

/-- Bytes with the wrong bits `e` of a word put in. -/
def xorBytes (bs : List Nat) (e : Nat) : List Nat := bs.mapIdx fun n b => Nat.xor b (e / 2 ^ (8 * n) % 256)

/-- MEM_UNCORRECTABLE (R71, R72): the word and the reader. -/
def Dev.raiseMemUnc (d : Dev) (w reader : Nat) : Dev :=
  let d1 := d.bump Reg.GLOBAL_MEMERR.UNCORRECTABLE 0 0xFF
  d1.raise 0x0101 d1.nullName
    (leBytes 4 w ++ leBytes 2 reader ++ [0, 0] ++ leBytes 4 (d1.get Reg.GLOBAL_MEMERR.UNCORRECTABLE 0))

/-- Before bytes `[a, a + n)` are written: a touched word with wrong bits is settled as R34 says, its kept bytes
corrected, or set to 0x00 and reported when it is uncorrectable. -/
def Dev.settleWord (d : Dev) (w a n reader : Nat) : Dev :=
  let e := Map.get d.memErr w 0
  if e = 0 then d
  else
    let d1 := { d with memErr := Map.set d.memErr w 0 0 }
    if a ≤ 32 * w && 32 * w + 32 ≤ a + n then d1
    else match decodeErr e with
      | .clean x => { d1 with mem := memSetMany d1.mem (32 * w) (xorBytes (wordBytes d1.mem w) x) }
      | .corrected x =>
        { d1 with mem := memSetMany d1.mem (32 * w) (xorBytes (wordBytes d1.mem w) x) }.bump
          Reg.GLOBAL_MEMERR.CORRECTED 0 0xFFFFFF |>.bump Reg.GLOBAL_FAULT_CNT.RECOVERED 0 0xFFFF
      | .uncorrectable =>
        { d1 with mem := memSetMany d1.mem (32 * w) (List.replicate 32 0) }.raiseMemUnc w reader

/-- Bytes written into the shared memory: each touched word gets a fresh code word (R34). -/
def Dev.memWrite (d : Dev) (a : Nat) (bs : List Nat) (reader : Nat := 1) : Dev :=
  if bs.isEmpty then d
  else
    let first := a / 32
    let last := (a + bs.length - 1) / 32
    let d1 := (List.range (last + 1 - first)).foldl (fun x j => x.settleWord (first + j) a bs.length reader) d
    { d1 with mem := memSetMany d1.mem a bs }

/-- New wrong bits found in stored code words: word `u` of the 393,216, or from there on a code word whose place the spec does not give. -/
def Dev.upset (d : Dev) (us : List (Nat × Nat)) : Dev :=
  let flip := fun (m : Map Nat) (k e : Nat) => Map.set m k (Nat.xor (Map.get m k 0) (e % 2 ^ 280)) 0
  { d with memErr := (us.filter fun u => u.1 < memWords).foldl (fun (m : Map Nat) u => flip m u.1 u.2) d.memErr
           heldErr := (us.filter fun u => memWords ≤ u.1).foldl (fun (m : Map Nat) u => flip m (u.1 - memWords) u.2) d.heldErr }

/-- One word read by the device (R28, R31, R33): its bytes and the effects on counts, events and the stored word;
none when it is uncorrectable. -/
def Dev.readWord (d : Dev) (w reader : Nat) : Option (List Nat) × Dev :=
  match decodeErr (Map.get d.memErr w 0) with
  | .clean e => (some (xorBytes (wordBytes d.mem w) e), d)
  | .corrected e =>
    let bs := xorBytes (wordBytes d.mem w) e
    (some bs, ((d.memWrite (32 * w) bs).bump Reg.GLOBAL_MEMERR.CORRECTED 0 0xFFFFFF).bump Reg.GLOBAL_FAULT_CNT.RECOVERED 0 0xFFFF)
  | .uncorrectable => (none, d.raiseMemUnc w reader)

/-- Words read in ascending order, their bytes joined; none when any of them is uncorrectable, and then every
uncorrectable one is counted and reported. -/
def Dev.readWords (d : Dev) (w : Nat) : Nat → Nat → Option (List Nat) × Dev
  | 0, _ => (some [], d)
  | n + 1, reader =>
    let (r, d1) := d.readWord w reader
    let (rs, d2) := d1.readWords (w + 1) n reader
    (match r, rs with
      | some a, some b => some (a ++ b)
      | _, _ => none, d2)

/-- `n` bytes of the shared memory read by the device, through the decoder (R28, R31, R33): none when a word of theirs is
uncorrectable. -/
def Dev.memRead (d : Dev) (a n reader : Nat) : Option (List Nat) × Dev :=
  if n = 0 then (some [], d)
  else
    let r := d.readWords (a / 32) ((a + n - 1) / 32 + 1 - a / 32) reader
    (r.1.map fun bs => (bs.drop (a % 32)).take n, r.2)

/-- The management core's reader code in MEM_UNCORRECTABLE (R71). -/
def readerCore : Nat := 1

/-! ### Value words in the block (R43, R47) -/

/-- What a reader gets of a value word whose code word has wrong bits `e` (R28, R33). -/
def Dev.heldWord (d : Dev) (e : Nat) (w : VW) : VW :=
  if e = 0 then w
  else match decodeErr e with
    | .clean x => VW.ofBits (Nat.xor w.bits x % 2 ^ 64)
    | .corrected x => VW.ofBits (Nat.xor w.bits x % 2 ^ 64)
    | .uncorrectable => mkWord 0 stFAULT d.tick

/-- The latest word that routing delivered for an object and quantity, as its readers get it: an uncorrectable one reads value 0, FAULT
only, the present tick (R33). -/
def Dev.value? (d : Dev) (name qty : Nat) : Option VW :=
  (Map.get d.values (name * 256 + qty) none).map (d.heldWord (Map.get d.heldErr (name * 256 + qty) 0))

/-- A word that enters routing at the next boundary (R47). -/
def Dev.produce (d : Dev) (name qty : Nat) (w : VW) : Dev :=
  { d with produced := d.produced ++ [{ name := name, qty := qty, word := w }] }

/-- A word delivered to its subscribers, in a fresh code word. -/
def Dev.deliver (d : Dev) (name qty : Nat) (w : VW) : Dev :=
  { d with values := Map.set d.values (name * 256 + qty) (some w) none, heldErr := Map.set d.heldErr (name * 256 + qty) 0 0 }

/-- A code word under `k` of `heldErr` read by `reader`: a corrected one is counted and written back, an uncorrectable one counted and
reported (R28, R31, R72). The spec does not say in which word it lies: the event's word index is a free value. -/
def Dev.touchHeld (d : Dev) (k reader : Nat) : Dev :=
  let e := Map.get d.heldErr k 0
  if e = 0 then d
  else match decodeErr e with
    | .clean _ => d
    | .corrected _ =>
      let fixed := (Map.get d.values k none).map fun w => some (d.heldWord e w)
      let vs := match fixed with
        | some w => Map.set d.values k w none
        | none => d.values
      ({ d with values := vs, heldErr := Map.set d.heldErr k 0 0 }.bump Reg.GLOBAL_MEMERR.CORRECTED 0 0xFFFFFF).bump
        Reg.GLOBAL_FAULT_CNT.RECOVERED 0 0xFFFF
    | .uncorrectable => d.nextFree.raiseMemUnc (d.freeBits.toNat % memWords) reader

/-- The key of `heldErr` for a value word that waits for routing. -/
def waitKey (name qty : Nat) : Nat := 2 ^ 42 + name * 256 + qty

/-- A value word read by `reader`. -/
def Dev.touchValue (d : Dev) (name qty reader : Nat) : Dev := d.touchHeld (name * 256 + qty) reader

/-! ### Writers, forces, commands (R45, R46) -/

/-- Writers of output objects: 0 none, 1 the host, 0x10000 + l loop l, 0x20000 + s schedule s, 0x30000 + f a flow. -/
def Dev.writerOf (d : Dev) (h : Nat) : Nat := Map.get d.writers h 0

/-- A writer set or, with 0, removed. -/
def Dev.setWriter (d : Dev) (h w : Nat) : Dev := { d with writers := Map.set d.writers h w 0 }

/-- The host force on an output object. -/
def Dev.forceOf (d : Dev) (h : Nat) : Option Nat := Map.get d.forces h none

/-- A force set or released; the value of a released one is kept for the loop that writes the object (R294). -/
def Dev.setForce (d : Dev) (h : Nat) (v : Option Nat) : Dev :=
  { d with forces := Map.set d.forces h v none
           eng := { d.eng with unforced := Map.set d.eng.unforced h (if v.isNone then d.forceOf h else none) none } }

/-- The writer's command at an output object, in the unit of its down-frame field. -/
def Dev.commandOf (d : Dev) (h : Nat) : Nat := Map.get d.commands h 0

/-- The writer's command set. -/
def Dev.setCommand (d : Dev) (h v : Nat) : Dev := { d with commands := Map.set d.commands h v 0 }

/-- The command that the down frame carries: the force's value while a force is on (R46). -/
def Dev.sent (d : Dev) (h : Nat) : Nat := (d.forceOf h).getD (d.commandOf h)

/-! ### Field dies -/

/-- Field die `k`. -/
def Dev.fd (d : Dev) (k : Nat) : DieSt := if k = 0 then d.dieA else d.dieB

/-- Field die `k` set. -/
def Dev.setFd (d : Dev) (k : Nat) (x : DieSt) : Dev := if k = 0 then { d with dieA := x } else { d with dieB := x }

/-- An entry at the end of the mailbox queue of die `k` (R147). -/
def Dev.post (d : Dev) (k : Nat) (m : Mail) : Dev :=
  if k = 0 then { d with mailA := d.mailA ++ [m] } else { d with mailB := d.mailB ++ [m] }

/-- The mailbox queue of die `k`. -/
def Dev.mail (d : Dev) (k : Nat) : List Mail := if k = 0 then d.mailA else d.mailB

/-- An event of a field die: one of 32 that wait for up frames, or dropped and counted (R146). -/
def Dev.dieRaise (d : Dev) (k code src : Nat) (detail : List Nat) : Dev :=
  let x := d.fd k
  if x.events.length < 32 then
    d.setFd k { x with events := x.events ++ [{ code := code, src := src, detail := detail }] }
  else d.setFd k { x with eventsDropped := x.eventsDropped + 1 }

/-- State codes of R148. -/
def OutState.code : OutState → Nat
  | .startup => 0 | .run => 1 | .hold => 2 | .safe => 3 | .freezeHold => 4 | .dipHold => 5

/-! ### Configuration blocks (R559) -/

/-- The configuration block in force under a key, empty for none. The key of an object's block is its handle. -/
def Dev.block (d : Dev) (k : Nat) : List Nat := Map.get d.blocks k []

/-- A configuration block in force from now on; it is to be put in the store (R559). -/
def Dev.setBlock (d : Dev) (k : Nat) (bs : List Nat) : Dev :=
  { d with blocks := Map.set d.blocks k bs []
           storeDue := if d.isSet Reg.NVM_STAT.IMPORT_PENDING 0 || d.storeDue.contains k then d.storeDue else d.storeDue ++ [k] }

/-- Keys of the blocks that belong to no one object. -/
def keyROUTE : Nat := 2 ^ 20
def keyDST : Nat := 2 ^ 20 + 1
def keyCIVIL : Nat := 2 ^ 20 + 2
def keyMANIFEST : Nat := 2 ^ 20 + 3
def keyFLOWS : Nat := 2 ^ 20 + 4

def keyMULT : Nat := 2 ^ 20 + 5

/-- Bytes written into the working save set (R560). -/
def Dev.saveWrite (d : Dev) (off : Nat) (bs : List Nat) : Dev := d.memWrite (32 * d.get Reg.NVM_SAVE.BASE 0 + off) bs

/-- The byte offset of the working save set in shared memory. -/
def Dev.saveBase (d : Dev) : Nat := 32 * d.get Reg.NVM_SAVE.BASE 0

/-- `n` bytes of the working save set at `off`, read by the management core, with the words they lie in put right: a corrected word is
written back, and an uncorrectable one is reported and holds 0x00 bytes from then on (R28, R31, R33; DESIGN CHOICE, log 224, the substitute). -/
def Dev.saveRead (d : Dev) (off n : Nat) : List Nat × Dev :=
  let a := d.saveBase + off
  let d1 := (List.range ((a + n - 1) / 32 + 1 - a / 32)).foldl (fun (y : Dev) j => y.settleWord (a / 32 + j) 0 0 readerCore) d
  (memBytes d1.mem a n, d1)

/-- A little-endian counter of `n` bytes of the working save set counted up (R560). -/
def Dev.saveCount (d : Dev) (off : Nat) (n : Nat := 4) : Dev :=
  let r := d.saveRead off n
  r.2.saveWrite off (leBytes n (leAt r.1 0 n + 1))

/-- Bytes 8 to 107 of a down frame (R143). -/
def downBytes (f : DownFrame) : List Nat :=
  leBytes 4 f.dos ++ f.aos.flatMap (leBytes 2) ++ f.fans.flatMap (leBytes 2) ++ f.sols.map (· % 256) ++ f.floats.map (· % 256)

/-- The mark that stands for a FLOAT that is to stop where it is (R531, off). -/
def floatStop : Nat := 255

/-- The key under which an object's further retained values are kept beside its block. -/
def keyExtra (h : Nat) : Nat := 2 ^ 21 + h

/-- The key of an explicit flow's record. -/
def keyFLOW (n : Nat) : Nat := 2 ^ 22 + n

/-! ### Subscriptions (R44) -/

/-- The producers that one loop block subscribes to: FB, its substitute, FF, the mode source, the setpoint sources of the enabled
modes (R303, R304). -/
def loopProducers (own : Nat) (bs : List Nat) : List Nat :=
  if bs.isEmpty then []
  else
    let sub := leAt bs 36 4
    let sps := ((List.range 4).filter fun m => bitAt (bs.getD 2 0) m).map fun m => leAt bs (64 + 32 * m) 4
    ([leAt bs 32 4, leAt bs 44 4, leAt bs 48 4] ++ sps).filter (fun h => h % 2 ^ 20 != 0) ++ (if sub % 2 ^ 20 = 0 then [] else [own + sub % 2 ^ 20])

/-- The producers that one zone block subscribes to. -/
def zoneProducers (own : Nat) (bs : List Nat) : List Nat :=
  if bs.isEmpty then [] else (((List.range 5).map fun j => leAt bs (4 * j) 4).filter fun h => h != 0).map fun h => own + h

/-- The sources that the committed model's bindings name (R254). -/
def Dev.patProducers (d : Dev) : List Nat :=
  if d.isSet Reg.PAT_STAT.MODEL_VALID 0 then d.pat.shape.sources.map (·.1) else []

/-- The objects that an explicit flow's record names. -/
def flowProducers (own : Nat) (bs : List Nat) : List Nat :=
  (List.range (bs.getD 0 0)).map fun j => own + leAt bs (4 + 4 * j) 4 % 2 ^ 20

/-- Every subscription's producer, as quilt names, consumer by consumer (R44). -/
def Dev.subscribed (d : Dev) : List Nat :=
  let own := d.devNum * 2 ^ 20
  ((List.range 512).flatMap fun l => loopProducers own (d.block (handle 0x0B l)))
    ++ ((List.range 128).flatMap fun z => zoneProducers own (d.block (handle 0x18 z)))
    ++ d.patProducers ++ ((List.range 1023).flatMap fun n => flowProducers own (d.block (keyFLOW n)))
    ++ ((List.range 32).map fun f => d.get Reg.FAN_TSRC.SOURCE f).filter fun h => h % 2 ^ 20 != 0

/-- Whether `more` further subscriptions fit, `less` being freed (R44). -/
def Dev.routesFit (d : Dev) (more less : Nat) : Bool := d.subscribed.length + more ≤ 8192 + less

/-! ### Faults (R658, R666 to R668) -/

/-- A single fault recovered (R658, R667). -/
def Dev.recovered (d : Dev) : Dev := d.bump Reg.GLOBAL_FAULT_CNT.RECOVERED 0 0xFFFF

/-- The start count of the save-set counters (R560). -/
def Dev.startCount (d : Dev) : Nat × Dev :=
  let r := d.saveRead 0x408 4
  (leAt r.1 0 4, r.2)

/-- An entry of the fault log with a start count, newest first, with its event (R666 to R668). -/
def Dev.logFaultIn (d : Dev) (starts time cause place detail : Nat) : Dev :=
  let e := leBytes 8 time ++ [cause, place] ++ leBytes 2 detail ++ leBytes 4 starts ++ List.replicate 16 0
  let old := (List.range 120).map fun j => d.get Reg.GLOBAL_FAULT_LOG.BYTES j
  let all := ((List.range 8).map fun j => leAt e (4 * j) 4) ++ old
  let d1 := (all.foldl (fun (a : Nat × Dev) v => (a.1 + 1, a.2.putRet Reg.GLOBAL_FAULT_LOG.BYTES a.1 v)) (0, d)).2
  let d2 := (d1.putRet Reg.GLOBAL_FAULT_STAT.LAST_CAUSE 0 cause).putRet Reg.GLOBAL_FAULT_STAT.ENTRIES 0
    (min 16 (d.get Reg.GLOBAL_FAULT_STAT.ENTRIES 0 + 1))
  (d2.putRet Reg.GLOBAL_FAULT_CNT.UNRECOVERABLE 0 (countUp 0xFFFF (d.get Reg.GLOBAL_FAULT_CNT.UNRECOVERABLE 0))).raise 0x010C d2.nullName
    ([cause, place, 0, 0] ++ leBytes 8 time)

/-- An entry of the fault log for a fault detected now. -/
def Dev.logFault (d : Dev) (cause place detail : Nat) : Dev :=
  let r := d.startCount
  r.2.logFaultIn r.1 d.tick cause place detail

end Sys2Proof.Machine
end

