-- ==== Sys2Proof/Machine/QuiltLink.lean ====
section
/-! DEFINITION. The quilt switch: seam ports, credits, tokens, routes, and how stitches leave the device (11_quilt.md). -/

namespace Sys2Proof.Machine
open Sys2Proof

/-! ### The line (R403 to R405) -/

/-- The check bits of 256 data bits (R404): x^24 times the data polynomial, modulo the generator, from the highest data bit down. -/
def checkBits (data : Nat) : Nat :=
  (List.range 256).foldl (fun r j =>
    let y := gfMulX r
    if data.testBit (255 - j) then Nat.xor y (0x1B8E3A7 % 2 ^ 24) else y) 0

/-- The 256 data bits of a stitch (R405). -/
def Stitch.bits (st : Stitch) : Nat :=
  st.dest % 2 ^ 10 + 2 ^ 10 * (st.src % 2 ^ 10) + 2 ^ 20 * (st.cls % 4) + 2 ^ 22 * (st.kind % 16) + 2 ^ 26 * (st.flow % 2 ^ 10)
    + 2 ^ 36 * (st.seq % 2 ^ 12) + 2 ^ 48 * (ofLeBytes st.data % 2 ^ 208)

/-- The stitch that a code word's 256 data bits spell (R405). -/
def stitchOf (n : Nat) : Stitch :=
  { dest := bitsAt n 0 10, src := bitsAt n 10 10, cls := bitsAt n 20 2, kind := bitsAt n 22 4, flow := bitsAt n 26 10, seq := bitsAt n 36 12
    data := leBytes 26 (n / 2 ^ 48) }

/-- The 36 bytes of a stitch on the line: K27.7, then the code word in ascending bytes (R403, R404). -/
def Stitch.line (st : Stitch) : List Nat := 0xFB :: (leBytes 32 st.bits ++ leBytes 3 (checkBits st.bits))

/-! ### Ports and their registers -/

/-- A seam port after its reset. -/
def PortSt.init : PortSt :=
  { idle := false, downSent := false, nak := false, creditsOut := [0, 0, 0, 0], creditsIn := [0, 0, 0, 0], retry := [], acked := 0
    accepted := 0, passed := 0, asked := 0, errs := [], exchange := 0, sentAt := none, backAt := none, eqTx := 4, eqRx := 6
    eqAt := 0, slot := none, since := 0, exchAt := none }

/-- Seam port `p`. -/
def Dev.port (d : Dev) (p : Nat) : PortSt := (Map.get d.quilt.ports p none).getD PortSt.init

/-- Seam port `p` set. -/
def Dev.setPort (d : Dev) (p : Nat) (x : PortSt) : Dev :=
  { d with quilt := { d.quilt with ports := Map.set d.quilt.ports p (if x = PortSt.init then none else some x) none } }

/-- The port state codes of R411. -/
def pDISABLED : Nat := 0
def pTRAINING : Nat := 1
def pAUDIT : Nat := 2
def pUP : Nat := 3
def pDOWN : Nat := 4

/-- PORT_STAT.STATE of port `p`. -/
def Dev.portState (d : Dev) (p : Nat) : Nat := d.get Reg.PORT_STAT.STATE p

/-- Whether port `p` is UP. -/
def Dev.portUp (d : Dev) (p : Nat) : Bool := p < 8 && d.portState p == pUP

/-- A port state entered now, with QUILT_STAT.PORTS_UP. -/
def Dev.setPortState (d : Dev) (p st : Nat) : Dev :=
  let d1 := (d.put Reg.PORT_STAT.STATE p st).setPort p { d.port p with since := d.tick }
  d1.put Reg.QUILT_STAT.PORTS_UP 0 (((List.range 8).map fun j => if d1.portUp j then 2 ^ j else 0).foldl (· + ·) 0)

/-- The K codes of R408. -/
def kIDLE : Nat := 0xBC
def kACK : Nat := 0x3C
def kCREDIT : Nat := 0x5C
def kTIME : Nat := 0x7C
def kDELAY : Nat := 0x9C
def kFREEZE : Nat := 0xDC
def kTHAW : Nat := 0x1C
def kAUDIT : Nat := 0xF7
def kDOWN : Nat := 0xFD
def kTRAIN : Nat := 0xFE

/-- One control word sent on every UP port but one. -/
def Dev.flood (d : Dev) (k payload : Nat) (but : Option Nat) : Dev :=
  (List.range 8).foldl (fun (y : Dev) p => if y.portUp p && but != some p then y.emit (.control p k payload) else y) d

/-- A control word that only a numbered device sends: while ACTIVE_VALID is 0 a port carries neither FREEZE nor THAW (R415). -/
def Dev.floodQuilt (d : Dev) (k payload : Nat) (but : Option Nat) : Dev :=
  if d.isSet Reg.GLOBAL_DEVNUM.ACTIVE_VALID 0 then d.flood k payload but else d

/-! ### Routes (R418, R421) -/

/-- Whether destination `n` has a valid entry. -/
def Dev.routed (d : Dev) (n : Nat) : Bool := d.isSet Reg.QUILT_ROUTE.PRI_VALID n || d.isSet Reg.QUILT_ROUTE.ALT_VALID n

/-- Whether the primary of destination `n` is valid and UP. -/
def Dev.primaryUp (d : Dev) (n : Nat) : Bool := d.isSet Reg.QUILT_ROUTE.PRI_VALID n && d.portUp (d.get Reg.QUILT_ROUTE.PRIMARY n)

/-- Whether the alternate of destination `n` is valid and UP. -/
def Dev.alternateUp (d : Dev) (n : Nat) : Bool := d.isSet Reg.QUILT_ROUTE.ALT_VALID n && d.portUp (d.get Reg.QUILT_ROUTE.ALTERNATE n)

/-- The port that serves destination `n`; none where it is unreachable (R421). -/
def Dev.routePort (d : Dev) (n : Nat) : Option Nat :=
  if d.isSet Reg.QUILT_ROUTE.ON_ALT n && d.alternateUp n then some (d.get Reg.QUILT_ROUTE.ALTERNATE n)
  else if d.primaryUp n then some (d.get Reg.QUILT_ROUTE.PRIMARY n)
  else if d.alternateUp n then some (d.get Reg.QUILT_ROUTE.ALTERNATE n)
  else none

/-- Where an item leaves now: the port it is bound to, or its destination's. -/
def Dev.itemPort (d : Dev) (it : QItem) : Option Nat :=
  match it.via with
  | some p => if d.portUp p then some p else none
  | none => d.routePort it.st.dest

/-! ### Credits (R435) and the way out (R409, R410, R422) -/

/-- A receiver buffer of port `p` is free again: its credit goes back in a CREDIT word. -/
def Dev.freeBuffer (d : Dev) (p c : Nat) : Dev :=
  let x := d.port p
  let n := (x.creditsOut.getD c 0 + 1) % 4096
  let d1 := (d.put Reg.PORT_CONS.RX_USED (4 * p + c) (d.get Reg.PORT_CONS.RX_USED (4 * p + c) - 1)).setPort p
    { x with creditsOut := x.creditsOut.set c n }
  if d1.portState p = pUP || d1.portState p = pAUDIT then d1.emit (.control p kCREDIT (c + 4 + 256 * n)) else d1

/-- The buffer that an item holds is freed. -/
def Dev.freeItem (d : Dev) (inPort : Option Nat) (c : Nat) : Dev :=
  match inPort with
  | some p => d.freeBuffer p c
  | none => d

/-- The key of `heldErr` for the stitch that port `p` numbered `n` in its retry buffer of 256. -/
def retryKey (p n : Nat) : Nat := 2 ^ 40 + 2 ^ 16 * p + n % 256

/-- The key of `heldErr` for the route table entry of a device. -/
def routeKey (n : Nat) : Nat := 2 ^ 41 + n

/-- A stitch sent on port `p`: it takes a credit and stays in the retry buffer, in a fresh code word, until it is acknowledged. -/
def Dev.sendOn (d : Dev) (p : Nat) (st : Stitch) : Dev :=
  let i := 4 * p + st.cls
  let c := d.get Reg.PORT_CONS.TX_CREDITS i
  let x := d.port p
  let d1 := { d with heldErr := Map.set d.heldErr (retryKey p (x.acked + x.retry.length)) 0 0 }
  (((d1.put Reg.PORT_CONS.TX_CREDITS i (c - 1)).put Reg.PORT_CONS.TX_OUT i (64 - (c - 1))).setPort p { x with retry := x.retry ++ [st] }).emit
    (.stitch p st.line)

/-- The quilt switch's reader code (R71). -/
def readerQuilt : Nat := 4

/-- The stitch that port `p` numbered `n`, read back from its retry buffer (R28, R33): none where its code word is uncorrectable. -/
def Dev.readRetry (d : Dev) (p n : Nat) (st : Stitch) : Option Stitch × Dev :=
  let e := Map.get d.heldErr (retryKey p n) 0
  let d1 := d.touchHeld (retryKey p n) readerQuilt
  if e = 0 then (some st, d1)
  else match decodeErr e with
    | .clean x => (some (stitchOf (Nat.xor st.bits x)), d1)
    | .corrected x => (some (stitchOf (Nat.xor st.bits x)), d1)
    | .uncorrectable => (none, d1)

/-- The retry buffer of port `p` read back from its first stitch on: those that come, and how many do not. -/
def Dev.readRetries (d : Dev) (p : Nat) : (List Stitch × Nat) × Dev :=
  let x := d.port p
  ((List.range x.retry.length).zip x.retry).foldl (fun (a : (List Stitch × Nat) × Dev) u =>
    match a.2.readRetry p (x.acked + u.1) u.2 with
    | (some st, d1) => ((a.1.1 ++ [st], a.1.2), d1)
    | (none, d1) => ((a.1.1, a.1.2 + 1), d1)) (([], 0), d)

/-- Whether port `p` can send a stitch of class `c` now: UP, a credit, and room in its retry buffer. -/
def Dev.canSend (d : Dev) (p c : Nat) : Bool :=
  d.portUp p && 0 < d.get Reg.PORT_CONS.TX_CREDITS (4 * p + c) && (d.port p).retry.length < 256

/-- Whether a stitch may be carried while DEVNUM_ACTIVE is not valid (R63, R415): neighbour reports and delay timestamps only. -/
def Dev.carried (d : Dev) (st : Stitch) : Bool :=
  d.isSet Reg.GLOBAL_DEVNUM.ACTIVE_VALID 0 || (st.kind == 13 && decide (st.data.getD 0 0 ≤ 2))

/-- One pass over the waiting stitches of class `c`, in order: each leaves when its port can send. -/
def Dev.pumpClass (d : Dev) (c : Nat) : Dev :=
  let r := d.quilt.queue.foldl (fun (a : List QItem × Dev) it =>
    if it.st.cls != c || !a.2.carried it.st then (a.1 ++ [it], a.2)
    else match a.2.itemPort it with
      | none => (a.1 ++ [it], a.2)
      | some p =>
        if a.2.canSend p c then
          let y := (a.2.sendOn p it.st).freeItem it.inPort c
          (a.1, match it.desc with
            | some id => y.done id 0
            | none => y)
        else (a.1 ++ [it], a.2)) ([], d)
  { r.2 with quilt := { r.2.quilt with queue := r.1 } }

/-- The waiting stitches leave, class 0 first (R422). -/
def Dev.pump (d : Dev) : Dev := (((d.pumpClass 0).pumpClass 1).pumpClass 2).pumpClass 3

/-- A tack stitch whose slot has gone: it goes out at once, ahead of all that waits, and counts as late where it has a port (R429). -/
def Dev.lateTack (d : Dev) (p : Option Nat) (it : QItem) : Dev :=
  let d1 := match p with
    | some p => d.bump Reg.PORT_TACK.LATE p 0xFFFF
    | none => d
  { d1 with quilt := { d1.quilt with queue := it :: d1.quilt.queue } }

/-- One more stitch that waits. -/
def Dev.enqueue (d : Dev) (it : QItem) : Dev := { d with quilt := { d.quilt with queue := d.quilt.queue ++ [it] } }

/-! ### Flows and tokens at the source (R423, R436, R437) -/

/-- Whether a stitch type is a control-plane one (R406). -/
def controlPlane (kind : Nat) : Bool := (7 ≤ kind && kind ≤ 11) || kind == 13

/-- Whether a stitch needs an end-to-end token. -/
def needsToken (cls kind : Nat) : Bool := cls != 0 && !controlPlane kind

/-- The class that R406 gives a type; VALUE has class 0 or 1. -/
def classMatches (kind cls : Nat) : Bool :=
  if kind = 0 then cls < 2 else if 2 ≤ kind && kind ≤ 6 then cls == 2 else (7 ≤ kind && kind ≤ 13) && cls == 3

/-- The key of a flow at its source: an explicit flow by its number, the default flow by destination and class. -/
def sendKey (st : Stitch) : Nat := if st.flow = 0x3FF then 4096 + 4 * st.dest + st.cls else st.flow

/-- A stitch of this device numbered in its flow and put in the queue. -/
def Dev.enqueueOwn (d : Dev) (it : QItem) : Dev :=
  let k := sendKey it.st
  let n := Map.get d.quilt.seqs k 0
  { d with quilt := { d.quilt with seqs := Map.set d.quilt.seqs k ((n + 1) % 4096) 0 } }.enqueue { it with st := { it.st with seq := n } }

/-- The tokens held for a destination and class (R451). -/
def Dev.tokens (d : Dev) (n c : Nat) : Nat :=
  match c with
  | 1 => d.get Reg.QUILT_TOKEN.CL1 n
  | 2 => d.get Reg.QUILT_TOKEN.CL2 n
  | _ => d.get Reg.QUILT_TOKEN.CL3 n

/-- The same, set. -/
def Dev.setTokens (d : Dev) (n c v : Nat) : Dev :=
  match c with
  | 1 => d.put Reg.QUILT_TOKEN.CL1 n v
  | 2 => d.put Reg.QUILT_TOKEN.CL2 n v
  | _ => d.put Reg.QUILT_TOKEN.CL3 n v

/-- The use of the tokens of a pair noted (R436). -/
def Dev.noteTokens (d : Dev) (n c : Nat) : Dev :=
  { d with quilt := { d.quilt with tokUsed := Map.set d.quilt.tokUsed (4 * n + c) d.tick 0 } }

/-- One token of a pair used. -/
def Dev.useToken (d : Dev) (n c : Nat) : Dev := (d.setTokens n c (d.tokens n c - 1)).noteTokens n c

/-- A stitch of this device, its sequence not yet given. -/
def Dev.ownStitch (d : Dev) (dest cls kind flow : Nat) (data : List Nat) : Stitch :=
  { dest := dest, src := d.devNum, cls := cls, kind := kind, flow := flow, seq := 0, data := (data ++ List.replicate 26 0).take 26 }

/-- A control-plane stitch of this device in the default flow of class 3, bound to a port or routed. -/
def Dev.sendControl (d : Dev) (dest kind : Nat) (data : List Nat) (via : Option Nat) : Dev :=
  (d.enqueueOwn { st := d.ownStitch dest 3 kind 0x3FF data, inPort := none, via := via, desc := none, since := d.tick }).pump

/-- A stitch of this device that needs a token: it takes one, or waits for one, and the first to wait asks (R436, R437). -/
def Dev.sendToken (d : Dev) (dest cls kind flow : Nat) (data : List Nat) (desc : Option Nat) : Dev :=
  let it : QItem := { st := d.ownStitch dest cls kind flow data, inPort := none, via := none, desc := desc, since := d.tick }
  let waits := d.quilt.tokWait.any fun x => x.st.dest == dest && x.st.cls == cls
  if 0 < d.tokens dest cls && !waits then
    ((d.useToken dest cls).enqueueOwn it).pump
  else
    let d1 := { d with quilt := { d.quilt with tokWait := d.quilt.tokWait ++ [it] } }
    if d1.quilt.tokAsked.contains (4 * dest + cls) then d1
    else { d1 with quilt := { d1.quilt with tokAsked := d1.quilt.tokAsked ++ [4 * dest + cls] } }.sendControl dest 7 [cls, 16] none

/-- The stitches that wait for tokens of a destination and class, as far as its tokens reach. -/
def Dev.useTokens (d : Dev) (dest cls : Nat) : Dev :=
  let r := d.quilt.tokWait.foldl (fun (a : List QItem × Dev) it =>
    if it.st.dest = dest && it.st.cls = cls && decide (0 < a.2.tokens dest cls) then
      (a.1, (a.2.useToken dest cls).enqueueOwn it)
    else (a.1 ++ [it], a.2)) ([], d)
  let d1 := { r.2 with quilt := { r.2.quilt with tokWait := r.1 } }
  let key := 4 * dest + cls
  let more := r.1.any fun it => it.st.dest == dest && it.st.cls == cls
  let d2 := { d1 with quilt := { d1.quilt with tokAsked := d1.quilt.tokAsked.filter fun k => k != key } }
  if more then
    ({ d2 with quilt := { d2.quilt with tokAsked := d2.quilt.tokAsked ++ [key] } }.sendControl dest 7 [cls, 16] none).pump
  else d2.pump

/-! ### Remote rings, the client's writes (R445, R462) -/

/-- RRING_FAULT of a ring: cause 1 server unreachable, 2 outside the window, 3 data error. -/
def Dev.rringFault (d : Dev) (ring cause : Nat) : Dev :=
  d.raise 0x0A09 (d.name clsRING ring) ([cause, 0, 0, 0] ++ leBytes 2 (d.get Reg.QUILT_RRING.SERVER 0))

/-- Whether the ring server can be reached. -/
def Dev.serverReached (d : Dev) : Bool :=
  d.isSet Reg.GLOBAL_DEVNUM.ACTIVE_VALID 0 && (d.routePort (d.get Reg.QUILT_RRING.SERVER 0)).isSome

/-- Bytes of ring `ring` written at a byte offset of the server's memory, half-word by half-word. -/
def Dev.remoteWrite (d : Dev) (ring off : Nat) (bytes : List Nat) : Dev :=
  let d1 := if d.serverReached then d else d.rringFault ring 1
  (List.range ((bytes.length + 15) / 16)).foldl (fun (y : Dev) j =>
    let part := (bytes.drop (16 * j)).take 16
    y.sendToken (y.get Reg.QUILT_RRING.SERVER 0) 2 4 0x3FF
      (leBytes 4 (off / 16 + j) ++ leBytes 4 ring ++ (part ++ List.replicate (16 - part.length) 0) ++ leBytes 2 (2 ^ part.length - 1)) none) d1

/-- A DOORBELL to the ring server with a notification code and a tail. -/
def Dev.remoteBell (d : Dev) (code tail : Nat) : Dev :=
  d.sendToken (d.get Reg.QUILT_RRING.SERVER 0) 2 6 0x3FF ([code, 0, 0, 0] ++ leBytes 4 tail) none

/-- The client reads the head block of 9 half-words (R462). -/
def Dev.readHeads (d : Dev) : Dev :=
  if !d.isSet Reg.QUILT_RRING.ENABLE 0 || d.quilt.reads.any (fun r => r.slot.isNone) || !d.serverReached then d
  else
    let base := d.get Reg.HOSTQ_RR_HEADS.INDEX 0
    let r : RemoteRead := { ring := 0, slot := none, base := base, parts := [] }
    (List.range 9).foldl (fun (y : Dev) j =>
      y.sendToken (y.get Reg.QUILT_RRING.SERVER 0) 2 2 0x3FF (leBytes 4 (base + j) ++ leBytes 4 512) none)
      { d with quilt := { d.quilt with reads := d.quilt.reads ++ [r] } }

/-- The explicit flow that carries the records of trace ring `t` to the server. -/
def traceFlow (t : Nat) : Nat := 1019 + t

/-- One unit of trace ring `t` sent to the server, in two TRACE stitches (R406, R462). -/
def Dev.remoteTrace (d : Dev) (t : Nat) (unit : List Nat) : Dev :=
  let s := d.get Reg.QUILT_RRING.SERVER 0
  (d.sendToken s 3 12 (traceFlow t) (unit.take 26) none).sendToken s 3 12 (traceFlow t) (unit.drop 26) none

/-! ### Tack slots (R428, R429) -/

/-- Slots begun since slot `l` until slot `j` begins, counted round the 15 slots of a tick: less than 8 means that `j` is still to come. -/
def slotAhead (l : Nat) (j : Nat) : Nat := (j + 14 - l) % 15

/-- The tick in which a reserved slot comes next, seen now, and whether it has begun already: a slot is counted as coming when it lies
in the next half of the slot circle. -/
def Dev.slotTick (d : Dev) (r : Resv) : Option Nat :=
  let x := d.port r.port
  let last := match x.slot with
    | some (t, j) => if t = d.tick then some j else none
    | none => none
  let hits := fun (t : Nat) => (t + r.period - r.offset % r.period) % r.period == 0
  let here := match last with
    | some l => l < r.slot
    | none => true
  if here && hits d.tick then some d.tick
  else
    let soon := match last with
      | some l => decide (slotAhead l r.slot < 8)
      | none => false
    if soon && hits (d.tick + 1) then some (d.tick + 1) else none

/-- The reservation by which a tack stitch leaves on port `p`: the flow's, whose slot is not taken by a waiting one. -/
def Dev.resvFor (d : Dev) (p : Nat) (st : Stitch) : Option (Resv × Nat) :=
  d.quilt.resvs.findSome? fun r =>
    if r.port == p && r.src == st.src && r.flow == st.flow then
      match d.slotTick r with
      | some t => if d.quilt.tack.any (fun i => i.port == p && i.slot == r.slot && i.tick == t) then none else some (r, t)
      | none => none
    else none

/-- A tack stitch to be forwarded: it waits for its slot, or goes out at once and counts as late; without a usable port it waits under R434. -/
def Dev.placeTack (d : Dev) (st : Stitch) (inPort : Option Nat) : Dev :=
  match d.routePort st.dest with
  | none => d.enqueue { st := st, inPort := inPort, via := none, desc := none, since := d.tick }
  | some p =>
    match d.resvFor p st with
    | some (r, t) => { d with quilt := { d.quilt with tack := d.quilt.tack ++ [{ port := p, slot := r.slot, tick := t, st := st, inPort := inPort }] } }
    | none => d.lateTack (some p) { st := st, inPort := inPort, via := none, desc := none, since := d.tick }

/-! ### Rerouting and link failure (R412, R421, R441 to R443) -/

/-- What rerouting does to one destination: its flags, and whether it moved to the alternate (1), back (2), or lost its last port (3). -/
def Dev.rerouteOne (d : Dev) (n : Nat) (revert : Option Nat) : Nat × Dev :=
  if !d.routed n then (0, d)
  else
    let on := d.isSet Reg.QUILT_ROUTE.ON_ALT n
    let un := d.isSet Reg.QUILT_ROUTE.UNREACH n
    let back := revert == some (d.get Reg.QUILT_ROUTE.PRIMARY n)
    let d1 := d.put Reg.QUILT_ROUTE.UNREACH n 0
    if on && d.alternateUp n && !(back && d.primaryUp n) then (0, d1)
    else if d.primaryUp n then (if on then 2 else 0, d1.put Reg.QUILT_ROUTE.ON_ALT n 0)
    else if d.alternateUp n then (if on then 0 else 1, d1.put Reg.QUILT_ROUTE.ON_ALT n 1)
    else
      let d2 := (d1.put Reg.QUILT_ROUTE.ON_ALT n 0).put Reg.QUILT_ROUTE.UNREACH n 1
      if un then (0, d2) else (3, { d2 with quilt := { d2.quilt with lostAt := Map.set d2.quilt.lostAt n d2.tick 0 } })

/-- REROUTE of port `p` for one direction: `used` the ports now used, one per destination moved (R421, R450). -/
def Dev.raiseReroute (d : Dev) (p dir : Nat) (used : List Nat) (lost : Nat) : Dev :=
  if used.isEmpty && lost = 0 then d
  else
    let one := match used with
      | [] => 0xFF
      | u :: t => if t.all (· == u) then u else 0xFF
    d.raise 0x0A03 (d.name clsSEAM p) ([dir, one] ++ leBytes 2 used.length ++ leBytes 2 lost)

/-- MASTER_HOPS follows the path in use (note 8 of R673): the hop count of the route to the master, where the table has one. -/
def Dev.followHops (d : Dev) : Dev :=
  let m := d.get Reg.QUILT_TIME_STAT.MASTER_DEV 0
  if d.isSet Reg.QUILT_TIME_STAT.IS_MASTER 0 || !d.isSet Reg.QUILT_TIME_STAT.MASTER_VALID 0 || (d.routePort m).isNone then d
  else d.put Reg.QUILT_TIME_STAT.MASTER_HOPS 0
    (d.get (if d.isSet Reg.QUILT_ROUTE.ON_ALT m then Reg.QUILT_ROUTE.ALT_HOPS else Reg.QUILT_ROUTE.PRI_HOPS) m)

/-- Every destination follows the ports that are UP; a primary `revert` takes its traffic back. The moves are reported by primary port. -/
def Dev.reroute (d : Dev) (revert : Option Nat) : Dev :=
  let r := (List.range 1024).foldl (fun (a : List (Nat × Nat × Nat) × Dev) n =>
    let o := a.2.rerouteOne n revert
    if o.1 = 0 then (a.1, o.2) else (a.1 ++ [(n, o.1, o.2.get Reg.QUILT_ROUTE.PRIMARY n)], o.2)) ([], d)
  let moves := r.1
  let d1 := (List.range 8).foldl (fun (y : Dev) p =>
    let mine := moves.filter fun m => m.2.2 == p
    let alt := (mine.filter fun m => m.2.1 == 1).map fun m => y.get Reg.QUILT_ROUTE.ALTERNATE m.1
    let lost := (mine.filter fun m => m.2.1 == 3).length
    let back := (mine.filter fun m => m.2.1 == 2).map fun _ => p
    (y.raiseReroute p 1 alt lost).raiseReroute p 0 back 0) r.2
  let onAlt := (List.range 1024).any fun n => d1.isSet Reg.QUILT_ROUTE.ON_ALT n
  let un := ((List.range 1024).filter fun n => d1.isSet Reg.QUILT_ROUTE.UNREACH n).length
  ((d1.putBit Reg.QUILT_STAT.REROUTED 0 onAlt).put Reg.QUILT_STAT.UNREACH 0 un).followHops

/-- Destinations with UNREACHABLE discards that are usable again: a token audit runs for their pairs (R440). -/
def Dev.reachedAgain (d : Dev) : List Nat := d.quilt.discards.filter fun n => (d.routePort n).isSome

/-- R440: the source's side of a token audit of one pair: its terms go in a MGMT stitch of the pair's default flow. -/
def Dev.auditPair (d : Dev) (n c : Nat) : Dev :=
  d.sendControl n 13 ([3, c] ++ leBytes 2 (d.tokens n c)) none

/-- The token audits that R440 asks for. -/
def Dev.auditReached (d : Dev) : Dev :=
  let l := d.reachedAgain
  let d1 := { d with quilt := { d.quilt with discards := d.quilt.discards.filter fun n => !l.contains n } }
  l.foldl (fun (y : Dev) n => ((y.auditPair n 1).auditPair n 2).auditPair n 3) d1

/-- The stitches that port `p` holds or that wait for it, counted for LINK_DOWN. -/
def Dev.portStitches (d : Dev) (p : Nat) : Nat :=
  (d.port p).retry.length + (d.quilt.queue.filter fun it => d.itemPort it == some p).length
    + (d.quilt.tack.filter fun i => i.port == p).length

/-- R441: the stitches of a failed port move ahead of the rest of the queue; tack stitches take their reserved slots on the new port. An
uncorrectable word of the retry buffer is not passed on (R33): the port is DOWN already. -/
def Dev.moveStitches (d : Dev) (p : Nat) : Dev :=
  let r := d.readRetries p
  let d0 := r.2
  let held := r.1.1.map fun st => ({ st := st, inPort := none, via := none, desc := none, since := d.tick } : QItem)
  let tack := d0.quilt.tack.filter fun i => i.port == p
  let d1 := { d0 with quilt := { d0.quilt with queue := held ++ d0.quilt.queue, tack := d0.quilt.tack.filter fun i => i.port != p } }.setPort p
    { d0.port p with retry := [] }
  tack.foldl (fun (y : Dev) i => y.placeTack i.st i.inPort) d1

/-- The open link audits of port `p` end; they failed. -/
def Dev.endPortAudits (d : Dev) (p : Nat) : Dev :=
  let one := fun (a : AuditOp) =>
    if a.links.any (fun k => k / 4 == p) then
      ({ a with links := a.links.filter fun k => k / 4 != p, failed := Nat.lor a.failed (2 ^ p) } : AuditOp)
    else a
  { d with quilt := { d.quilt with audits := d.quilt.audits.map one } }

/-- Audits with nothing left open complete (R448). -/
def Dev.endAudits (d : Dev) : Dev :=
  let l := d.quilt.audits.filter fun a => a.links.isEmpty && a.pairs.isEmpty
  let bits := fun (m : Nat) => ((List.range 8).filter fun p => m.testBit p).length
  l.foldl (fun (y : Dev) a => y.done a.id (bits (a.ports - Nat.land a.ports a.failed) + 256 * bits a.failed + 65536 * a.pairsFailed))
    { d with quilt := { d.quilt with audits := d.quilt.audits.filter fun a => !(a.links.isEmpty && a.pairs.isEmpty) } }

/-- Port `p` leaves UP or AUDIT for a state that carries no stitches: destinations move, stitches move, LINK_DOWN is raised (R412, R441). -/
def Dev.leaveUp (d : Dev) (p st cause : Nat) : Dev :=
  let wasUp := d.portUp p
  let moved := if wasUp then d.portStitches p else 0
  let d1 := ((d.setPortState p st).put Reg.PORT_STAT.DOWN_CAUSE p cause).put Reg.QUILT_PATH_DLY.DELAY_NS p 0xFFFF
  let d2 := if st = pDOWN then (d1.bump Reg.PORT_RETRY.DOWNS p 0xFFFF).emit (.control p kDOWN cause) else d1
  let d3 := d2.raise 0x0A02 (d2.name clsSEAM p) ([cause, 0, 0, 0] ++ leBytes 4 moved)
  let x := d3.port p
  let d4 := (d3.setPort p { x with downSent := false, nak := false, idle := false, errs := [], slot := none, sentAt := none, backAt := none })
  if wasUp then
    let d5 := d4.reroute none
    let d6 := if d5.isSet Reg.QUILT_STAT.REROUTED 0 && !d4.isSet Reg.QUILT_STAT.REROUTED 0 then d5.recovered else d5
    (((d6.moveStitches p).endPortAudits p).endAudits).pump
  else d4

/-- A port declares its link DOWN (R412). -/
def Dev.linkDown (d : Dev) (p cause : Nat) : Dev := d.leaveUp p pDOWN cause

/-- A port enters TRAINING (R411). -/
def Dev.enterTraining (d : Dev) (p : Nat) : Dev :=
  let d1 := (d.setPortState p pTRAINING).put Reg.PORT_STAT.ALIGNED p 0
  d1.setPort p { d1.port p with idle := false, downSent := false, passed := 0, asked := 0 }

/-- A stitch or NAK error of port `p` at `ns` after the tick boundary: 16 within 10 µs take it DOWN (R412). -/
def Dev.linkError (d : Dev) (p ns : Nat) : Dev :=
  let t := 10000 * d.tick + ns
  let x := d.port p
  let errs := (x.errs ++ [t]).filter fun e => t ≤ e + 10000
  let d1 := d.setPort p { x with errs := errs }
  if 16 ≤ errs.length && d1.portUp p then d1.linkDown p 2 else d1

end Sys2Proof.Machine
end

