-- ==== Sys2Proof/Machine/HostRings.lean ====
section
/-! DEFINITION. The host interface: rings, descriptors, completions, events, doorbells, heartbeat (12_host_rings.md). -/

namespace Sys2Proof.Machine
open Sys2Proof

/-! ### Rings -/

/-- RING indices of R38. -/
def ringCQ (c : Nat) : Nat := 64 + c
def ringEQ : Nat := 128
def ringTQ (t : Nat) : Nat := 129 + t

/-- Whether the rings are remote (R462). -/
def Dev.remote (d : Dev) : Bool := d.isSet Reg.QUILT_RRING.ENABLE 0

/-- Bytes of RING `r` sent: a DMA write, or stitches to the ring server (R455, R462). -/
def Dev.ringWrite (d : Dev) (r addr : Nat) (bytes : List Nat) : Dev :=
  if d.remote then d.remoteWrite r addr bytes else d.emit (.hostWrite addr bytes)

/-- Bytes put into a host buffer, or by stitches into the server's memory, where addresses are half-word indices (R504, R570). -/
def Dev.bufWrite (d : Dev) (addr : Nat) (bytes : List Nat) : Dev :=
  if bytes.isEmpty then d
  else if d.remote then d.remoteWrite 0 (16 * addr) bytes
  else d.emit (.hostWrite addr bytes)

/-- The ENABLE of RING `r`. -/
def Dev.ringEnabled (d : Dev) (r : Nat) : Bool :=
  if r < 64 then d.isSet Reg.SQ_CTRL.ENABLE r
  else if r < 128 then d.isSet Reg.CQ_CTRL.ENABLE (r - 64)
  else if r = 128 then d.isSet Reg.EQ_CTRL.ENABLE 0
  else d.isSet Reg.TQ_CTRL.ENABLE (r - 129)

/-- An MSI-X vector signalled: the message goes out, or its pending bit is set while its entry is masked (R467). -/
def Dev.signal (d : Dev) (v : Nat) : Dev :=
  if bitAt (d.get Reg.MSIX_TABLE.WORD (4 * v + 3)) 0 then
    d.put Reg.MSIX_PBA.BITS (v / 32) (Nat.lor (d.get Reg.MSIX_PBA.BITS (v / 32)) (2 ^ (v % 32)))
  else d.emit (.msix v)

/-- A ring's vector signalled under its HOLDOFF: while one runs, a further completion is only noted (R467). -/
def Dev.ringSignal (d : Dev) (r vector : Nat) (irqEn : Bool) (holdoff : Nat) : Dev :=
  if !irqEn || d.remote then d
  else if Map.get d.irqHold r 0 = 0 then
    (if holdoff = 0 then d else { d with irqHold := Map.set d.irqHold r 1 0, irqAt := Map.set d.irqAt r d.tick 0 }).signal vector
  else { d with irqHold := Map.set d.irqHold r 2 0 }

/-- Whether a ring of 2^`size` entries with head `h` and tail `t` has space (R466). -/
def ringSpace (size h t : Nat) : Bool := (t + 2 ^ size - h) % 2 ^ size < 2 ^ size - 1

/-- Descriptors started and not completed (R461), of ring `q`. -/
def Dev.inflight (d : Dev) (q : Nat) : Nat :=
  (d.recs.filter fun r => r.ring == q && r.started).length

/-- The same over all rings. -/
def Dev.inflightAll (d : Dev) : Nat := (d.recs.filter fun r => r.started).length

/-- Submission ring `q` fetches: enabled, no fault, no pause (R461, R483). -/
def Dev.fetches (d : Dev) (q : Nat) : Bool :=
  d.live && q < 64 && d.isSet Reg.SQ_CTRL.ENABLE q && !d.isSet Reg.SQ_STAT.FAULT q
    && !d.isSet Reg.HOSTQ_STAT.FETCH_PAUSED 0 && d.inflight q < 32 && d.inflightAll < 512

/-- The fetched descriptors of ring `q` that have not started end with a status (R458, R461, R470). -/
def Dev.endFetched (d : Dev) (q : Nat) (st : Status) : Dev :=
  (d.recs.filter fun r => r.ring == q && r.phase == .fetched).foldl (fun x r => x.fail r.id st) d

/-- Ring `q` in fault (R461). -/
def Dev.ringFault (d : Dev) (q cause v : Nat) : Dev :=
  ((d.put Reg.SQ_STAT.FAULT q 1).endFetched q .aborted).raise 0x0107 (d.name clsRING q)
    ([cause, 0, 0, 0] ++ leBytes 4 (if cause = 2 then v else 0))

/-! ### Starting descriptors (R463, R464, R468, R470) -/

/-- Whether a target field names this device (R464 check 3). -/
def Dev.targetOk (d : Dev) (t : Nat) : Bool :=
  (t == 0xFFFFFFFF && !d.remote) || (t < 2 ^ 30 && t % 2 ^ 20 == 0 && devOf t == d.devNum)

/-- Whether byte `n` of a descriptor is one that the opcode's table names. -/
def namedByte (named : List (Nat × Nat)) (n : Nat) : Bool := named.any fun p => p.1 ≤ n && n < p.1 + p.2

/-- The first failing check of R464 among checks 2 to 4. -/
def Dev.headCheck (d : Dev) (x : Desc) (named : List (Nat × Nat)) : Option Status :=
  if 8 ≤ x.byte 2 || x.byte 3 != 0 then some .badParam
  else if !d.targetOk (x.u32 8) then some .badObject
  else if (List.range 52).any (fun j => x.byte (12 + j) != 0 && !namedByte named (12 + j)) then some .badParam
  else none

/-- Whether a later descriptor of ring `q` must wait: an earlier one with FENCE has not had its completion written,
or an earlier one has not started (R468, R470). -/
def Dev.mustWait (d : Dev) (q id : Nat) : Bool :=
  d.recs.any fun r => r.ring == q && r.id < id && (bitAt (r.d.byte 2) 1 || r.phase == .fetched)

/-- The opcodes that run while an incomplete import stands (R569): NOP, NVM_READ, NVM_IMPORT, NVM_ABORT. -/
def runsIncomplete (op : Nat) : Bool := [0x0101, 0x0C01, 0x0C0B, 0x0C0C].contains op

/-- A descriptor acts: checks 2 to 4 of R464, then the opcode's own. -/
def Dev.actDesc (d : Dev) (id : Nat) (x : Desc) (named : List (Nat × Nat)) (body : Nat → Desc → Dev → Dev) : Dev :=
  let d1 := d.setRec id fun r => { r with phase := .running, started := true }
  match d1.headCheck x named with
  | some st => d1.fail id st
  | none => if d1.nvm.incomplete && !runsIncomplete (x.u16 0) then d1.fail id .refusedBusy else body id x d1

/-- A descriptor taken into the device, not yet started. -/
def Dev.takeDesc (d : Dev) (q : Nat) (x : Desc) : Dev :=
  { d with recs := d.recs ++ [{ id := d.nextId, ring := q, d := x, phase := .fetched, started := false, order := 0, discard := false }]
           nextId := d.nextId + 1 }

/-- One descriptor of opcode `op` on ring `q`, handed to the device and started in its turn: it ends SKIPPED while the ring
is fenced, waits behind a FENCE or an earlier descriptor that has not started, and otherwise acts. -/
def Dev.submit (d : Dev) (q : Nat) (x : Desc) (op : Nat) (named : List (Nat × Nat)) (body : Nat → Desc → Dev → Dev) : Dev :=
  if !d.fetches q || x.u16 0 != op then d
  else
    let id := d.nextId
    let d1 := d.takeDesc q x
    if d1.isSet Reg.SQ_STAT.FENCED q then d1.fail id .skipped
    else if d1.mustWait q id then d1
    else d1.actDesc id x named body

/-! ### Aborts (R472 to R474) -/

/-- The target of an abort: the earliest descriptor of the ring with the tag whose completion is not yet written. -/
def Dev.abortTarget (d : Dev) (ring tag : Nat) : Option Rec :=
  d.recs.find? fun r => r.ring == ring && r.d.u32 4 == tag

/-- An abort: descriptor `id` names ring and tag of an operation among `ops`; a target that has not started ends ABORTED,
one that has ended is left, and a running one is settled where its unit says (R473). -/
def Dev.abortDesc (d : Dev) (id ring tag : Nat) (ops : List Nat) (settle : Nat → Rec → Dev → Dev) : Dev :=
  match d.abortTarget ring tag with
  | none => d.fail id .nothingToAbort
  | some r =>
    if !ops.contains (r.d.u16 0) then d.fail id .nothingToAbort
    else match r.phase with
      | .fetched => (d.fail r.id .aborted).done id 0
      | .ended _ _ => d.fail id .nothingToAbort
      | .running => settle id r d

/-! ### NOP -/

/-- R485: NOP ends at its start with the quilt time. -/
def bodyNop (id : Nat) (_ : Desc) (d : Dev) : Dev := d.done id d.tick

/-- R485. -/
def execNop (q : Nat) (x : Desc) (s : State) : Host.Outcome State Fault Refusal :=
  s.onDev fun d => d.submit q x 0x0101 [] bodyNop

/-! ### Fetching (R455, R461) -/

/-- R461: a DMA read brings up to 8 descriptors, or fails. -/
def execDescriptorFetched (q : Nat) (ds : Option (List Desc)) (s : State) : Host.Outcome State Fault Refusal :=
  s.onDev fun d =>
    let size := d.get Reg.SQ_CFG.SIZE_LOG2 q
    let h := d.get Reg.SQ_STAT.HEAD q
    let avail := (d.get Reg.SQ_STAT.TAIL q + 2 ^ size - h) % 2 ^ size
    if !d.fetches q || d.remote || avail = 0 then d
    else match ds with
      | none => d.ringFault q 1 0
      | some l =>
        let take := l.take (min 8 avail)
        let fenced := d.isSet Reg.SQ_STAT.FENCED q
        let one := fun (x : Dev) (e : Desc) =>
          let y := x.takeDesc q e
          if fenced then y.fail x.nextId .skipped else y
        (take.foldl one d).put Reg.SQ_STAT.HEAD q ((h + take.length) % 2 ^ size)

/-- R455, R461: a DMA read not completed within 50 ms is a fetch error. -/
def execFetchTimeout (q : Nat) (s : State) : Host.Outcome State Fault Refusal :=
  s.onDev fun d =>
    if d.fetches q && !d.remote && d.get Reg.SQ_STAT.HEAD q != d.get Reg.SQ_STAT.TAIL q then d.ringFault q 1 0 else d

/-! ### Completions (R465 to R470) -/

/-- Whether the completion of record `r` may be written: its operation has ended, and without UNORDERED every earlier
descriptor of its ring has had its own written (R469). -/
def Dev.eligible (d : Dev) (r : Rec) : Bool :=
  match r.phase with
  | .ended _ _ => bitAt (r.d.byte 2) 2 || !d.recs.any (fun x => x.ring == r.ring && x.id < r.id)
  | _ => false

/-- The completions of ring `c` that may be written. -/
def Dev.eligibleFor (d : Dev) (c : Nat) : List Rec :=
  d.recs.filter fun r => d.get Reg.SQ_CFG.CQ r.ring == c && d.eligible r

/-- The one whose operation ended first. -/
def firstEnded : List Rec → Option Rec
  | [] => none
  | r :: t => match firstEnded t with
    | none => some r
    | some x => if r.order ≤ x.order then some r else some x

/-- The 16 bytes of a completion (R465). -/
def completionBytes (tag code ring phase result : Nat) : List Nat :=
  leBytes 4 tag ++ leBytes 2 code ++ leBytes 2 (ring % 64 + 2 ^ 15 * phase) ++ leBytes 8 result

/-- R466, R467, R469, R470: the next completion of completion ring `c` is written. -/
def Dev.writeCompletion (d : Dev) (c : Nat) : Dev :=
  let size := d.get Reg.CQ_CFG.SIZE_LOG2 c
  let t := d.get Reg.CQ_STAT.TAIL c
  let ph := d.get Reg.CQ_STAT.PHASE c
  match firstEnded (d.eligibleFor c) with
  | none => d
  | some r =>
    match r.phase with
    | .ended st res =>
      if !ringSpace size (d.get Reg.CQ_STAT.HEAD c) t then d.readHeads
      else
        let base := 2 ^ 6 * d.get Reg.CQ_BASE_LO.ADDR_LO c + 2 ^ 32 * d.get Reg.CQ_BASE_HI.ADDR_HI c
        let t1 := (t + 1) % 2 ^ size
        let d1 := d.ringWrite (ringCQ c) (base + 16 * t) (completionBytes (r.d.u32 4) st.code r.ring ph res)
        let d2 := { d1 with recs := d1.recs.filter fun x => !(x.id == r.id) }
        let d3 := (d2.put Reg.CQ_STAT.TAIL c t1).put Reg.CQ_STAT.PHASE c (if t1 = 0 then 1 - ph else ph)
        let d4 := if bitAt (r.d.byte 2) 1 && !(st == .ok)
          then (d3.put Reg.SQ_STAT.FENCED r.ring 1).endFetched r.ring .skipped else d3
        let d5 := if d4.remote then d4.remoteBell 1 t1 else d4
        if bitAt (r.d.byte 2) 0 then
          d5.ringSignal (ringCQ c) (d5.get Reg.CQ_CFG.VECTOR c) (d5.isSet Reg.CQ_CFG.IRQ_EN c) (d5.get Reg.CQ_CFG.HOLDOFF c)
        else d5
    | _ => d

/-- R466. -/
def execCompletionWrite (c : Nat) (s : State) : Host.Outcome State Fault Refusal :=
  s.onDev fun d => if d.live && c < 64 && d.isSet Reg.CQ_CTRL.ENABLE c then d.writeCompletion c else d

/-- R467: the vector, IRQ_EN and HOLDOFF of RING `r`. -/
def Dev.irqCfg (d : Dev) (r : Nat) : Nat × Bool × Nat :=
  if r < 128 then (d.get Reg.CQ_CFG.VECTOR (r - 64), d.isSet Reg.CQ_CFG.IRQ_EN (r - 64), d.get Reg.CQ_CFG.HOLDOFF (r - 64))
  else if r = 128 then (d.get Reg.EQ_CFG.VECTOR 0, d.isSet Reg.EQ_CFG.IRQ_EN 0, d.get Reg.EQ_CFG.HOLDOFF 0)
  else (d.get Reg.TQ_CFG.VECTOR (r - 129), d.isSet Reg.TQ_CFG.IRQ_EN (r - 129), d.get Reg.TQ_CFG.HOLDOFF (r - 129))

/-- R467: HOLDOFF µs, which may have begun anywhere within their first tick, end; the vector is signalled again when a further completion was written
meanwhile. -/
def execMsixHoldoffEnd (r : Nat) (s : State) : Host.Outcome State Fault Refusal :=
  s.onDev fun d =>
    let c := d.irqCfg r
    if 10 * (d.tick + 1) ≤ 10 * Map.get d.irqAt r 0 + c.2.2 then d
    else match Map.get d.irqHold r 0 with
    | 0 => d
    | 1 => { d with irqHold := Map.set d.irqHold r 0 0 }
    | _ => { d with irqHold := Map.set d.irqHold r 0 0 }.ringSignal r c.1 c.2.1 c.2.2

/-! ### Events (R475 to R477) -/

/-- The 32 bytes of an event entry (R475). -/
def eventBytes (src code phase seq time : Nat) (detail : List Nat) : List Nat :=
  leBytes 4 src ++ leBytes 2 code ++ [phase, seq] ++ leBytes 8 time ++ detail16 detail

/-- One entry put at the tail of the event ring (R476). -/
def Dev.putEvent (d : Dev) (e : Event) : Dev :=
  let size := d.get Reg.EQ_CFG.SIZE_LOG2 0
  let t := d.get Reg.EQ_STAT.TAIL 0
  let ph := d.get Reg.EQ_STAT.PHASE 0
  let base := 2 ^ 6 * d.get Reg.EQ_BASE_LO.ADDR_LO 0 + 2 ^ 32 * d.get Reg.EQ_BASE_HI.ADDR_HI 0
  let t1 := (t + 1) % 2 ^ size
  let d1 := d.ringWrite ringEQ (base + 32 * t) (eventBytes e.src e.code ph e.seq e.time e.detail)
  let d2 := (d1.put Reg.EQ_STAT.TAIL 0 t1).put Reg.EQ_STAT.PHASE 0 (if t1 = 0 then 1 - ph else ph)
  let d3 := if d2.remote then d2.remoteBell 2 t1 else d2
  d3.ringSignal ringEQ (d3.get Reg.EQ_CFG.VECTOR 0) (d3.isSet Reg.EQ_CFG.IRQ_EN 0) (d3.get Reg.EQ_CFG.HOLDOFF 0)

/-- Whether the event ring takes an entry now. -/
def Dev.eventSpace (d : Dev) : Bool :=
  d.isSet Reg.EQ_CTRL.ENABLE 0
    && ringSpace (d.get Reg.EQ_CFG.SIZE_LOG2 0) (d.get Reg.EQ_STAT.HEAD 0) (d.get Reg.EQ_STAT.TAIL 0)

/-- R477: the next entry is written: EVENT_LOST before the next waiting event after a drop, else the oldest waiting event. -/
def Dev.writeEvent (d : Dev) : Dev :=
  if 0 < d.evDropped then
    { d with evSeq := (d.evSeq + 1) % 256, evDropped := 0 }.putEvent
      { seq := d.evSeq, code := 0x0105, src := d.nullName, time := d.tick
        detail := detail16 (leBytes 4 d.evDropped ++ [d.evFirstDropped]) }
  else match d.events with
    | [] => d
    | e :: t => { d with events := t }.putEvent e

/-- R477. -/
def execEventWrite (s : State) : Host.Outcome State Fault Refusal :=
  s.onDev fun d =>
    if !d.live then d
    else if d.eventSpace then d.writeEvent
    else if d.isSet Reg.EQ_CTRL.ENABLE 0 then d.readHeads
    else d

/-- R134: a 100 ms interval of an event ends. -/
def execEventIntervalEnd (code src : Nat) (s : State) : Host.Outcome State Fault Refusal :=
  s.onDev fun d => if d.live then d.endInterval code src else d

/-! ### Doorbells (R459, R460, R479) -/

/-- A host write while the core die is frozen (R484): 256 wait, further ones are discarded and counted. -/
def Dev.postHost (d : Dev) (p : Posted) : Dev :=
  if d.frz.posted.length < 256 then { d with frz := { d.frz with posted := d.frz.posted ++ [p] } }
  else { d with frz := { d.frz with discarded := d.frz.discarded + 1 } }

/-- A doorbell written while frozen is latched by its offset (R484). -/
def Dev.latchBell (d : Dev) (off v : Nat) : Dev :=
  { d with frz := { d.frz with doorbells := Map.set d.frz.doorbells off (v % 2 ^ 32 + 1) 0 } }

/-- R460: the tail doorbell of submission ring `q`. -/
def Dev.ringTail (d : Dev) (q v : Nat) : Dev :=
  if !(q < 64 && d.isSet Reg.SQ_CTRL.ENABLE q) then d
  else if 2 ^ d.get Reg.SQ_CFG.SIZE_LOG2 q ≤ v then d.ringFault q 2 v
  else d.put Reg.SQ_STAT.TAIL q v

/-- R460: a head doorbell out of range is ignored and reported. -/
def Dev.badHead (d : Dev) (r v : Nat) : Dev :=
  d.raise 0x0107 (d.name clsRING r) ([2, 0, 0, 0] ++ leBytes 4 v)

/-- R460: the head doorbell of completion ring `c`. -/
def Dev.cqHead (d : Dev) (c v : Nat) : Dev :=
  if !(c < 64 && d.isSet Reg.CQ_CTRL.ENABLE c) then d
  else if 2 ^ d.get Reg.CQ_CFG.SIZE_LOG2 c ≤ v then d.badHead (ringCQ c) v
  else d.put Reg.CQ_STAT.HEAD c v

/-- R460: the head doorbell of the event ring. -/
def Dev.eqHead (d : Dev) (v : Nat) : Dev :=
  if !d.isSet Reg.EQ_CTRL.ENABLE 0 then d
  else if 2 ^ d.get Reg.EQ_CFG.SIZE_LOG2 0 ≤ v then d.badHead ringEQ v
  else d.put Reg.EQ_STAT.HEAD 0 v

/-- R460, R479: the head doorbell of trace ring `t`. -/
def Dev.tqHead (d : Dev) (t v : Nat) : Dev :=
  if !(t < 4 && d.isSet Reg.TQ_CTRL.ENABLE t) then d
  else if 2 ^ d.get Reg.TQ_CFG.SIZE_LOG2 t ≤ v then d.badHead (ringTQ t) v
  else d.put Reg.TQ_STAT.HEAD t v

/-- R482: a heartbeat ends host-lost state, for causes 2 and 3 only while the event ring is enabled. -/
def Dev.heartbeat (d : Dev) : Dev :=
  let cause := d.get Reg.HOSTQ_STAT.LOST_CAUSE 0
  let d1 := { d with hostSince := d.tick }
  if !d.isSet Reg.HOSTQ_STAT.HOST_LOST 0 then d1
  else if (cause = 2 || cause = 3) && !d.isSet Reg.EQ_CTRL.ENABLE 0 then d1
  else
    let t := min ((d.tick - d.lostSince) / 10000) 0xFFFFFFFF
    (d1.put Reg.HOSTQ_STAT.HOST_LOST 0 0).raise 0x0104 d.nullName
      ([0, cause, 0, 0] ++ leBytes 4 t ++ leBytes 4 (d.get Reg.HOSTQ_LOST.COMPLETIONS 0))

/-- A doorbell by its offset in BAR2 (R459). -/
def Dev.bell (d : Dev) (off v : Nat) : Dev :=
  if off < 0x100 then d.ringTail (off / 4) v
  else if off < 0x200 then d.cqHead ((off - 0x100) / 4) v
  else if off = 0x200 then d.eqHead v
  else if off < 0x214 then d.tqHead ((off - 0x204) / 4) v
  else if off = 0x300 then d.heartbeat
  else d

/-- A doorbell write: it acts, or is latched while frozen, or finds no endpoint (R484, R530). -/
def Dev.hostBell (d : Dev) (off v : Nat) (act : Dev → Dev) : Dev :=
  if !(d.power.phase == .up) then d
  else if d.frozen then d.latchBell off v
  else act d

/-- R460. -/
def execSqTailDoorbell (q v : Nat) (s : State) : Host.Outcome State Fault Refusal :=
  s.onDev fun d => if q < 64 then d.hostBell (4 * q) v fun x => x.ringTail q (v % 2 ^ 32) else d

/-- R460. -/
def execCqHeadDoorbell (c v : Nat) (s : State) : Host.Outcome State Fault Refusal :=
  s.onDev fun d => if c < 64 then d.hostBell (0x100 + 4 * c) v fun x => x.cqHead c (v % 2 ^ 32) else d

/-- R460. -/
def execEqHeadDoorbell (v : Nat) (s : State) : Host.Outcome State Fault Refusal :=
  s.onDev fun d => d.hostBell 0x200 v fun x => x.eqHead (v % 2 ^ 32)

/-- R479. -/
def execTqHeadDoorbell (t v : Nat) (s : State) : Host.Outcome State Fault Refusal :=
  s.onDev fun d => if t < 4 then d.hostBell (0x204 + 4 * t) v fun x => x.tqHead t (v % 2 ^ 32) else d

/-- R480, R482. -/
def execHeartbeat (v : Nat) (s : State) : Host.Outcome State Fault Refusal :=
  s.onDev fun d => d.hostBell 0x300 v fun x => x.heartbeat

/-- R479: the new tail goes to host memory, and the ring's vector is signalled. -/
def execTailWriteback (t : Nat) (s : State) : Host.Outcome State Fault Refusal :=
  s.onDev fun d =>
    if !(d.live && t < 4 && d.isSet Reg.TQ_CTRL.ENABLE t) || Map.get d.traceDue t 0 = 0 then d
    else
      let addr := 4 * d.get Reg.TQ_WB_LO.ADDR_LO t + 2 ^ 32 * d.get Reg.TQ_WB_HI.ADDR_HI t
      let d1 := { d with traceDue := Map.set d.traceDue t 0 0 }.emit
        (.hostWrite addr (leBytes 4 (d.get Reg.TQ_STAT.TAIL t)))
      d1.ringSignal (ringTQ t) (d1.get Reg.TQ_CFG.VECTOR t) (d1.isSet Reg.TQ_CFG.IRQ_EN t) (d1.get Reg.TQ_CFG.HOLDOFF t)

/-! ### Enabling and disabling rings (R458) -/

/-- A HOSTQ write refused (R458, R488). -/
def Dev.hostqReject (d : Dev) : Dev := d.put Reg.HOSTQ_STAT.WRITE_REJECTED 0 1

/-- Whether a ring's base may not serve remote rings (R462). -/
def Dev.badRemoteBase (d : Dev) (lo hi : Nat) : Bool := d.remote && (hi != 0 || 0xC00000 ≤ 64 * lo)

/-- R458: a ring's ENABLE set. -/
def Dev.ringEnable (d : Dev) (r : Nat) : Dev :=
  if 133 ≤ r || d.ringEnabled r then d
  else if r < 64 then
    let c := d.get Reg.SQ_CFG.CQ r
    if !d.isSet Reg.CQ_CTRL.ENABLE c || 0 < d.inflight r
        || d.badRemoteBase (d.get Reg.SQ_BASE_LO.ADDR_LO r) (d.get Reg.SQ_BASE_HI.ADDR_HI r) then d.hostqReject
    else (((((d.put Reg.SQ_CTRL.ENABLE r 1).put Reg.SQ_STAT.HEAD r 0).put Reg.SQ_STAT.TAIL r 0).put
      Reg.SQ_STAT.FAULT r 0).put Reg.SQ_STAT.FENCED r 0)
  else if r < 128 then
    let c := r - 64
    if d.badRemoteBase (d.get Reg.CQ_BASE_LO.ADDR_LO c) (d.get Reg.CQ_BASE_HI.ADDR_HI c) then d.hostqReject
    else (((d.put Reg.CQ_CTRL.ENABLE c 1).put Reg.CQ_STAT.HEAD c 0).put Reg.CQ_STAT.TAIL c 0).put Reg.CQ_STAT.PHASE c 1
  else if r = 128 then
    if d.badRemoteBase (d.get Reg.EQ_BASE_LO.ADDR_LO 0) (d.get Reg.EQ_BASE_HI.ADDR_HI 0) then d.hostqReject
    else (((d.put Reg.EQ_CTRL.ENABLE 0 1).put Reg.EQ_STAT.HEAD 0 0).put Reg.EQ_STAT.TAIL 0 0).put Reg.EQ_STAT.PHASE 0 1
  else
    let t := r - 129
    if d.badRemoteBase (d.get Reg.TQ_BASE_LO.ADDR_LO t) (d.get Reg.TQ_BASE_HI.ADDR_HI t) then d.hostqReject
    else ((d.put Reg.TQ_CTRL.ENABLE t 1).put Reg.TQ_STAT.HEAD t 0).put Reg.TQ_STAT.TAIL t 0

/-- Whether some ring still needs completion ring `c` (R458). -/
def Dev.cqNeeded (d : Dev) (c : Nat) : Bool :=
  (List.range 64).any (fun q => d.isSet Reg.SQ_CTRL.ENABLE q && d.get Reg.SQ_CFG.CQ q == c)
    || d.recs.any (fun r => !r.discard && d.get Reg.SQ_CFG.CQ r.ring == c)

/-- R458: a ring's ENABLE cleared. -/
def Dev.ringDisable (d : Dev) (r : Nat) : Dev :=
  if 133 ≤ r || !d.ringEnabled r then d
  else if r < 64 then (d.put Reg.SQ_CTRL.ENABLE r 0).endFetched r .aborted
  else if r < 128 then
    if d.cqNeeded (r - 64) then d.hostqReject else d.put Reg.CQ_CTRL.ENABLE (r - 64) 0
  else if r = 128 then d.put Reg.EQ_CTRL.ENABLE 0 0
  else d.put Reg.TQ_CTRL.ENABLE (r - 129) 0

/-- R470: a write of 1 to FENCE_CLR. -/
def Dev.fenceClear (d : Dev) (q : Nat) : Dev := d.put Reg.SQ_STAT.FENCED q 0

/-- The offset of the control register of RING `r`. -/
def ringCtrlOff (r : Nat) : Nat :=
  if r < 64 then Reg.SQ_CTRL.ENABLE.addr r
  else if r < 128 then Reg.CQ_CTRL.ENABLE.addr (r - 64)
  else if r = 128 then Reg.EQ_CTRL.ENABLE.addr 0
  else Reg.TQ_CTRL.ENABLE.addr (r - 129)

/-- A BAR0 write: it acts, or waits for thaw while frozen, or finds no endpoint (R484, R530). -/
def Dev.hostReg (d : Dev) (off v : Nat) (act : Dev → Dev) : Dev :=
  if !(d.power.phase == .up) then d
  else if d.frozen then d.postHost (.reg off 4 v)
  else act d

/-- R458. -/
def execRingEnable (r : Nat) (s : State) : Host.Outcome State Fault Refusal :=
  s.onDev fun d => if r < 133 then d.hostReg (ringCtrlOff r) 1 fun x => x.ringEnable r else d

/-- R458. -/
def execRingDisable (r : Nat) (s : State) : Host.Outcome State Fault Refusal :=
  s.onDev fun d => if r < 133 then d.hostReg (ringCtrlOff r) 0 fun x => x.ringDisable r else d

/-- R470. -/
def execFenceClr (q : Nat) (s : State) : Host.Outcome State Fault Refusal :=
  s.onDev fun d =>
    if q < 64 then
      d.hostReg (ringCtrlOff q) (2 + d.get Reg.SQ_CTRL.ENABLE q) fun x => x.fenceClear q
    else d

/-! ### Heartbeat and host-lost state (R480) -/

/-- R480: the heartbeat interval written, its count begun again. -/
def Dev.writeWdog (d : Dev) (v : Nat) : Dev :=
  let n := bitsAt v 0 10
  if 600 < n then d.hostqReject
  else { d with hostSince := d.tick }.put Reg.HOSTQ_WDOG.INTERVAL 0 n

/-- R480. -/
def execHostqWdogWrite (v : Nat) (s : State) : Host.Outcome State Fault Refusal :=
  s.onDev fun d => d.hostReg 0x1000C v fun x => x.writeWdog v

/-- Entry to host-lost state (R480); every region closes (R551). -/
def Dev.enterLost (d : Dev) (cause : Nat) : Dev :=
  if d.isSet Reg.HOSTQ_STAT.HOST_LOST 0 then d
  else
    let d0 := ({ d with lostSince := d.tick }.put Reg.HOSTQ_STAT.HOST_LOST 0 1).put Reg.HOSTQ_STAT.LOST_CAUSE 0 cause
    let d1 := (d0.put Reg.NVM_LOCK_STAT.READ_OPEN 0 0).put Reg.NVM_LOCK_STAT.WRITE_OPEN 0 0
    d1.raise 0x0104 d1.nullName ([1, cause, 0, 0, 0, 0, 0, 0] ++ leBytes 4 (d1.get Reg.HOSTQ_LOST.COMPLETIONS 0))

/-- Whether the heartbeat interval has run out (R480). -/
def Dev.wdogExpired (d : Dev) : Bool :=
  0 < d.get Reg.HOSTQ_WDOG.INTERVAL 0 && 10 ≤ d.get Reg.PWR_STAT.START_STEP 0 && d.hostSince + 10000 * d.get Reg.HOSTQ_WDOG.INTERVAL 0 ≤ d.tick

/-- R480: the device enters host-lost state, cause 1, or 4 with remote rings. -/
def execHostLost (s : State) : Host.Outcome State Fault Refusal :=
  s.onDev fun d => if d.live && d.wdogExpired then d.enterLost (if d.remote then 4 else 1) else d

/-! ### PCIe resets (R456) -/

/-- R456: what a reset of the host interface does to local rings. -/
def Dev.clearRings (d : Dev) : Dev :=
  let off := (List.range 133).foldl (fun (x : Dev) r =>
    if r < 64 then x.put Reg.SQ_CTRL.ENABLE r 0
    else if r < 128 then x.put Reg.CQ_CTRL.ENABLE (r - 64) 0
    else if r = 128 then x.put Reg.EQ_CTRL.ENABLE 0 0
    else x.put Reg.TQ_CTRL.ENABLE (r - 129) 0) d
  let ended := (off.recs.filter fun r => !(r.phase == .fetched || r.phase == .running)).length
  let d1 := { off with recs := (off.recs.filter fun r => r.phase == .running).map fun r => { r with discard := true } }
  (List.range ended).foldl (fun (x : Dev) _ => x.bump Reg.HOSTQ_LOST.COMPLETIONS 0 0xFFFF) d1

/-- R456: what a reset of the host interface does; remote rings go on. -/
def Dev.pcieReset (d : Dev) (cause : Nat) : Dev := (if d.remote then d else d.clearRings).enterLost cause

/-- A reset of the host interface with a cause, `link` a link-down that PCIE_LINK reports (R456, R486). Link-down and PCIE_PERST_N (cause 2) leave no host
reference (R89). -/
def Dev.pcieDown (d : Dev) (cause : Nat) (link : Bool) : Dev :=
  let d1 := d.pcieReset cause
  let d1 := if cause = 2 then d1.put Reg.QUILT_CLK_STAT.PCIE_REF_OK 0 0 else d1
  if link then d1.raise 0x0106 d1.nullName [0, 0, 0] else d1

/-- The same now, or at thaw when frozen (note 10 of R673). -/
def Dev.pcieEvent (d : Dev) (cause : Nat) (link : Bool) : Dev :=
  if !(d.power.phase == .up) then d
  else if d.frozen then { d with frz := { d.frz with posted := d.frz.posted ++ [.pcie cause link] } }
  else d.pcieDown cause link

/-- R456, R486: a link-down also raises PCIE_LINK. -/
def execPcieReset (kind : PcieResetKind) (s : State) : Host.Outcome State Fault Refusal :=
  s.onDev fun d =>
    match kind with
    | .linkDown => d.pcieEvent 2 true
    | .hotReset => d.pcieEvent 3 false
    | .functionLevelReset => d.pcieEvent 3 false

/-- R456. -/
def execPciePerstN (s : State) : Host.Outcome State Fault Refusal :=
  s.onDev fun d => d.pcieEvent 2 false

/-- The PCIe link comes up (R89, R486). -/
def Dev.pcieUp (d : Dev) (speed width : Nat) : Dev := (d.put Reg.QUILT_CLK_STAT.PCIE_REF_OK 0 1).raise 0x0106 d.nullName [1, speed, width]

/-- R486: the PCIe link comes up, now or at thaw when frozen. -/
def execPcieLink (speed width : Nat) (s : State) : Host.Outcome State Fault Refusal :=
  s.onDev fun d =>
    if !(d.power.phase == .up) then d
    else if d.frozen then { d with frz := { d.frz with posted := d.frz.posted ++ [.link speed width] } }
    else d.pcieUp speed width

end Sys2Proof.Machine
end

