-- ==== Sys2Proof/Machine/Bus.lean ====
section
/-! DEFINITION. Building bus ports: MS/TP, Modbus RTU, raw UART and 10BASE-T1L (13_bus_ports.md). -/

namespace Sys2Proof.Machine
open Sys2Proof

/-! ### Ports -/

/-- A bus port with nothing in it. -/
def BusSt.init : BusSt :=
  { queue := [], data := [], job := none, sent := false, attempt := 0, late := false, broadcast := false, recvs := [], held := []
    node := .idle, ps := 0, tokens := 50, frames := 0, retry := 0, joined := false, reply := none, due := [], fails := [], faulted := [], starts := [], at_ := 0, replyAt := 0 }

/-- Bus port `n`. -/
def Dev.bus (d : Dev) (n : Nat) : BusSt := (Map.get d.buses n none).getD BusSt.init

/-- Bus port `n` set, with what BUS_STAT or T1L_STAT shows of it. -/
def Dev.setBus (d : Dev) (n : Nat) (x : BusSt) : Dev :=
  let d1 := { d with buses := Map.set d.buses n (if x = BusSt.init then none else some x) none }
  if n < 16 then
    let poll := match x.job with
      | some (.entry _) => true
      | _ => false
    ((d1.put Reg.BUS_STAT.RX_HELD n x.held.length).put Reg.BUS_STAT.RECV_POSTED n x.recvs.length).putBit Reg.BUS_STAT.POLL_ACTIVE n poll
  else d1.put Reg.T1L_STAT.RX_HELD (n - 16) x.held.length

/-- A frame on the line of port `n`: its waits are counted from here. -/
def Dev.busMark (d : Dev) (n : Nat) : Dev := d.setBus n { d.bus n with at_ := d.tick }

/-- Whether `n` ticks have passed since the latest frame on a port's line. -/
def Dev.busWaited (d : Dev) (n wait : Nat) : Bool := (d.bus n).at_ + wait ≤ d.tick

/-- The mode codes of R491; a 10BASE-T1L port counts as mode 4. -/
def busOFF : Nat := 0
def busMSTP : Nat := 1
def busMODBUS : Nat := 2
def busRAW : Nat := 3

/-- The mode in force of port `n`: 4 for an enabled 10BASE-T1L port. -/
def Dev.busMode (d : Dev) (n : Nat) : Nat :=
  if n < 16 then d.get Reg.BUS_STAT.MODE n else if d.isSet Reg.T1L_CFG.ENABLE (n - 16) then 4 else 0

/-- A BUS or T1L write refused (R511). -/
def Dev.busReject (d : Dev) (n : Nat) : Dev := d.put Reg.BUS_STAT.WRITE_REJECTED (if n < 16 then n else 0) 1

/-- Frames failing their check, framing and the like, dropped frames, and timeouts, counted (R511). -/
def Dev.busCrc (d : Dev) (n : Nat) : Dev := if n < 16 then d.bump Reg.BUS_ERRCNT.CRC n 0xFF else d.bump Reg.T1L_ERRCNT.CRC (n - 16) 0xFF
def Dev.busFraming (d : Dev) (n : Nat) : Dev :=
  if n < 16 then d.bump Reg.BUS_ERRCNT.FRAMING n 0xFF else d.bump Reg.T1L_ERRCNT.FRAMING (n - 16) 0xFF
def Dev.busTimeout (d : Dev) (n : Nat) : Dev :=
  if n < 16 then d.bump Reg.BUS_ERRCNT.TIMEOUTS n 0xFF else d.bump Reg.T1L_ERRCNT.TIMEOUTS (n - 16) 0xFF

/-- A frame dropped for want of a BUS_RECV (R503). -/
def Dev.busDropped (d : Dev) (n : Nat) : Dev :=
  let d1 := if n < 16 then d.bump Reg.BUS_ERRCNT.DROPPED n 0xFF else d.bump Reg.T1L_ERRCNT.DROPPED (n - 16) 0xFF
  let c := if n < 16 then d1.get Reg.BUS_ERRCNT.DROPPED n else d1.get Reg.T1L_ERRCNT.DROPPED (n - 16)
  d1.raiseLimited 0x0B04 (d1.name clsBUS n) d1.tick c ([0, 0, 0, 0] ++ leBytes 4 c)

/-! ### Received frames (R503) -/

/-- A received frame fills a posted BUS_RECV. -/
def Dev.fillRecv (d : Dev) (id : Nat) (f : BusFrame) : Dev :=
  match d.rec? id with
  | none => d
  | some r =>
    let n := min f.bytes.length (r.d.u16 32)
    let flags := (if r.d.u16 32 < f.bytes.length then 1 else 0) + (if f.reply then 2 else 0)
    (d.bufWrite (r.d.u64 24) (f.bytes.take n)).done id (n + 2 ^ 16 * f.kind + 2 ^ 24 * f.src + 2 ^ 32 * flags)

/-- A frame for the host: into the oldest BUS_RECV, held, or dropped. -/
def Dev.busDeliver (d : Dev) (n : Nat) (f : BusFrame) : Dev :=
  let x := d.bus n
  match x.recvs with
  | id :: rest => (d.setBus n { x with recvs := rest }).fillRecv id f
  | [] =>
    if x.held.length < (if n < 16 then 8 else 32) then d.setBus n { x with held := x.held ++ [f] } else d.busDropped n

/-- BUS_RECV (R503, R508). -/
def bodyBusRecv (id : Nat) (x : Desc) (d : Dev) : Dev :=
  let h := x.u32 16
  let n := indexOf h
  if x.u16 32 = 0 || 1522 < x.u16 32 then d.fail id .badParam
  else if !d.isHandle clsBUS h then d.fail id .badObject
  else
    let b := d.bus n
    if 16 ≤ b.recvs.length then d.fail id .refusedBusy
    else match b.held with
      | f :: rest => (d.setBus n { b with held := rest }).fillRecv id f
      | [] => d.setBus n { b with recvs := b.recvs ++ [id] }

/-- R503. -/
def execBusRecv (q : Nat) (x : Desc) (s : State) : Host.Outcome State Fault Refusal :=
  s.onDev fun d => d.submit q x 0x0B02 [(16, 4), (24, 8), (32, 2)] bodyBusRecv

/-! ### Frames sent -/

/-- A frame begins on the line of port `n`: BUS_DE rises on an EIA-485 port (R489). -/
def Dev.busEmit (d : Dev) (n : Nat) (bytes : List Nat) : Dev :=
  ((if n < 16 then d.emit (.pin ("BUS_DE" ++ toString n) true) else d).emit (.busFrame n bytes)).busMark n

/-- The bytes that the buffer of a BUS_SEND holds. -/
def Dev.sendData (d : Dev) (n id : Nat) : List Nat := Map.get (d.bus n).data id []

/-- A BUS_SEND gone from its port. -/
def Dev.dropSend (d : Dev) (n id : Nat) : Dev :=
  let x := d.bus n
  d.setBus n { x with queue := x.queue.filter fun i => i != id, data := Map.set x.data id [] [] }

/-- A BUS_SEND ends with a response cut to its buffer, and an outcome (R506, R507). -/
def Dev.endSend (d : Dev) (n id outcome : Nat) (response : List Nat) : Dev :=
  match d.rec? id with
  | none => d.dropSend n id
  | some r =>
    let bytes := response.take (r.d.u16 48)
    ((d.bufWrite (r.d.u64 40) bytes).dropSend n id).done id (bytes.length + 2 ^ 16 * outcome)

/-- A BUS_SEND ends with a status. -/
def Dev.failSend (d : Dev) (n id : Nat) (st : Status) : Dev := (d.dropSend n id).fail id st

/-! ### MS/TP (R492 to R496) -/

/-- The station after `a` (clause 9: modulo Nmax_master + 1). -/
def Dev.nextStation (d : Dev) (n a : Nat) : Nat := (a + 1) % (d.get Reg.BUS_MSTP.MAX_MASTER n + 1)

/-- An MS/TP frame on the line: type, destination, source and data; preamble and checks of clause 9 are not shown. -/
def Dev.mstpEmit (d : Dev) (n kind dest : Nat) (data : List Nat) : Dev :=
  d.busEmit n ([kind, dest, d.get Reg.BUS_MSTP.MAC n] ++ data)

/-- The node joins or leaves the ring (R510). -/
def Dev.mstpRing (d : Dev) (n : Nat) (on : Bool) : Dev :=
  let x := d.bus n
  if x.joined = on then d
  else
    (d.setBus n { x with joined := on }).raise 0x0B01 (d.name clsBUS n)
      [if on then 1 else 0, d.get Reg.BUS_STAT.NEXT_STATION n, d.get Reg.BUS_STAT.SOLE_MASTER n]

/-- A node that starts anew: its successor is not known (clause 9, INITIALIZE). -/
def Dev.mstpInit (d : Dev) (n : Nat) : Dev :=
  let x := d.bus n
  (((d.setBus n { x with node := .idle, ps := d.get Reg.BUS_MSTP.MAC n, tokens := 50, frames := 0, retry := 0, reply := none }).put
    Reg.BUS_STAT.NEXT_STATION n (d.get Reg.BUS_MSTP.MAC n)).put Reg.BUS_STAT.SOLE_MASTER n 0).put Reg.BUS_STAT.TOKEN n 0

/-- The token goes to the next station. -/
def Dev.passToken (d : Dev) (n : Nat) : Dev :=
  ((d.put Reg.BUS_STAT.TOKEN n 0).setBus n { d.bus n with node := .passToken, retry := 0 }).mstpEmit n 0 (d.get Reg.BUS_STAT.NEXT_STATION n) []

/-- A Poll For Master to station `a`. -/
def Dev.pollMaster (d : Dev) (n a : Nat) : Dev :=
  (d.setBus n { d.bus n with node := .pollForMaster, ps := a, retry := 0 }).mstpEmit n 1 a []

/-- Whether a frame of BUS_SEND is followed by the reply wait (R494). -/
def expectsReply (kind : Nat) : Bool := kind == 5 || kind == 32

/-- A BUS_SEND's frame begins. -/
def Dev.mstpSend (d : Dev) (n id : Nat) : Dev :=
  let x := d.bus n
  match d.rec? id with
  | none => d
  | some r =>
    (d.setBus n { x with node := .sending, job := some (.send id), sent := false, frames := x.frames + 1, queue := x.queue.filter fun i => i != id }).mstpEmit n
      (r.d.byte 20) (r.d.byte 21) (d.sendData n id)

/-- The node holds the token: it sends up to MAX_INFO frames, then passes the token or looks for masters (clause 9, USE_TOKEN and
DONE_WITH_TOKEN; R494). The fuel bounds the turns of a sole master with nothing to send. -/
def Dev.mstpUse (d : Dev) (n : Nat) : Nat → Dev
  | 0 => d
  | fuel + 1 =>
    let x := d.bus n
    let mac := d.get Reg.BUS_MSTP.MAC n
    let ns := d.get Reg.BUS_STAT.NEXT_STATION n
    let sole := d.isSet Reg.BUS_STAT.SOLE_MASTER n
    match if x.frames < d.get Reg.BUS_MSTP.MAX_INFO n then x.queue.head? else none with
    | some id => d.mstpSend n id
    | none =>
      if !sole && ns = mac then d.pollMaster n (d.nextStation n mac)
      else if x.tokens < 49 && sole then (d.setBus n { x with frames := 0, tokens := x.tokens + 1 }).mstpUse n fuel
      else if x.tokens < 49 then (d.setBus n { x with tokens := x.tokens + 1 }).passToken n
      else if d.nextStation n x.ps != ns then d.pollMaster n (d.nextStation n x.ps)
      else if sole then
        ((d.put Reg.BUS_STAT.NEXT_STATION n mac).setBus n { x with tokens := 1 }).pollMaster n (d.nextStation n ns)
      else (d.setBus n { x with ps := mac, tokens := 1 }).passToken n

/-- The token arrives, or is the node's own. -/
def Dev.mstpToken (d : Dev) (n : Nat) : Dev :=
  ((d.put Reg.BUS_STAT.TOKEN n 1).setBus n { d.bus n with frames := 0 }).mstpUse n 200

/-- The node is done with the frame it sent: another one, or the token goes on. -/
def Dev.mstpNext (d : Dev) (n : Nat) : Dev :=
  let x := d.bus n
  (d.setBus n { x with job := none, sent := false }).mstpUse n 200

/-- How long the line is silent, in ticks, before a timer of the node's state expires. PRESUMED (log 195): the standard values of clause 9, which the spec
names and does not give: 500 ms without a token and 10 ms a station more, 20 ms for the use of a token or a poll. -/
def mstpWait (node : MstpState) (mac : Nat) : Nat :=
  match node with
  | .idle => 50000
  | .noToken => 50000 + 1000 * mac
  | _ => 2000

/-- The reply wait of clause 9, 255 ms, in ticks (PRESUMED, log 195). -/
def mstpReplyWait : Nat := 25500

/-- R492: a timer of clause 9 expires: token loss, no token, usage or poll timeout, as the node's state has it. -/
def execMstpTimerExpiry (n : Nat) (s : State) : Host.Outcome State Fault Refusal :=
  s.onDev fun d =>
    if !(d.live && n < 16 && d.busMode n == busMSTP && d.busWaited n (mstpWait (d.bus n).node (d.get Reg.BUS_MSTP.MAC n))) then d
    else
      let x := d.bus n
      let mac := d.get Reg.BUS_MSTP.MAC n
      let ns := d.get Reg.BUS_STAT.NEXT_STATION n
      match x.node with
      | .idle => (d.mstpRing n false).setBus n { d.bus n with node := .noToken, joined := false }
      | .noToken =>
        (((d.put Reg.BUS_STAT.NEXT_STATION n mac).put Reg.BUS_STAT.SOLE_MASTER n 0).setBus n { x with tokens := 0 }).pollMaster n (d.nextStation n mac)
      | .passToken =>
        if x.retry < 1 then (d.setBus n { x with retry := x.retry + 1 }).mstpEmit n 0 ns []
        else ((d.put Reg.BUS_STAT.NEXT_STATION n mac).setBus n { x with tokens := 0 }).pollMaster n (d.nextStation n ns)
      | .pollForMaster =>
        if d.isSet Reg.BUS_STAT.SOLE_MASTER n then d.mstpToken n
        else if ns != mac then d.passToken n
        else if d.nextStation n x.ps != mac then d.pollMaster n (d.nextStation n x.ps)
        else ((d.put Reg.BUS_STAT.SOLE_MASTER n 1).mstpRing n true).mstpToken n
      | _ => d

/-- R496: 10 s of silence end; the node re-enters the ring as a new one. -/
def execMstpSilenceEnd (n : Nat) (s : State) : Host.Outcome State Fault Refusal :=
  s.onDev fun d => if d.live && n < 16 && (d.bus n).node == .silent && d.busWaited n 1000000 then (d.mstpInit n).busMark n else d

/-- The longest data of a frame type, none for a type that R493 does not carry. -/
def mstpMax (kind : Nat) : Option Nat :=
  if kind = 32 || kind = 33 then some 1497
  else if (3 ≤ kind && kind ≤ 7) || (128 ≤ kind && kind ≤ 255) then some 501
  else none

/-- The reply wait ends, well or not, and the node goes on with the token. -/
def Dev.mstpReplied (d : Dev) (n : Nat) (act : Dev → Nat → Dev) : Dev :=
  let d1 := match (d.bus n).job with
    | some (.send id) => act d id
    | _ => d
  d1.mstpNext n

/-- A frame for the host or for the node, outside the reply wait (R493, R495). -/
def Dev.mstpTake (d : Dev) (n kind dest src : Nat) (data : List Nat) : Dev :=
  let mac := d.get Reg.BUS_MSTP.MAC n
  let f : BusFrame := { bytes := data, kind := kind, src := src, reply := expectsReply kind && dest == mac }
  match mstpMax kind with
  | none => d.busFraming n
  | some top =>
    if top < data.length then d.busFraming n
    else if kind = 3 && dest = mac && d.isSet Reg.BUS_CFG.AUTO_TEST n then d.mstpEmit n 4 src data
    else
      let d1 := if f.reply then d.setBus n { d.bus n with reply := some (src, kind), replyAt := d.tick } else d
      d1.busDeliver n f

/-- A frame in the reply wait: the reply, a Reply Postponed, or something else, after which the node is idle (R494). -/
def Dev.mstpInWait (d : Dev) (n kind dest src : Nat) (data : List Nat) : Dev :=
  let mac := d.get Reg.BUS_MSTP.MAC n
  if dest = mac && kind = 7 then d.mstpReplied n fun y id => y.endSend n id 2 data
  else if dest = mac && (kind = 4 || kind = 6 || kind = 33 || 128 ≤ kind) then d.mstpReplied n fun y id => y.endSend n id 1 data
  else
    let d1 := match (d.bus n).job with
      | some (.send id) => (d.busTimeout n).failSend n id .timeout
      | _ => d
    let d2 := (d1.put Reg.BUS_STAT.TOKEN n 0).setBus n { d1.bus n with node := .idle, job := none, sent := false }
    if dest = mac || dest = 255 then d2.mstpTake n kind dest src data else d2

/-- R493, R496: an MS/TP frame is received, its checks held or not. -/
def execMstpFrame (n kind dest src : Nat) (data : List Nat) (crcOk : Bool) (s : State) : Host.Outcome State Fault Refusal :=
  s.onDev fun d0 =>
    if !(d0.live && n < 16 && d0.busMode n == busMSTP) || (d0.bus n).node == .silent then d0
    else
      let d := d0.busMark n
      let x := d.bus n
      let mac := d.get Reg.BUS_MSTP.MAC n
      if !crcOk then
        let d1 := d.busCrc n
        if x.node = .waitReply then d1.mstpReplied n fun y id => y.failSend n id .dataError else d1
      else if src = mac then
        let d1 := match x.job with
          | some (.send id) => d.failSend n id .timeout
          | _ => d
        ((d1.mstpInit n).mstpRing n false).setBus n { d1.bus n with node := .silent, job := none, sent := false, reply := none, joined := false } |>.raise
          0x0B02 (d.name clsBUS n) [mac]
      else if x.node = .waitReply then d.mstpInWait n kind dest src data
      else
        let idle := if x.node = .passToken || x.node = .noToken || (x.node = .pollForMaster && !(kind = 2 && dest = mac)) then
            (d.put Reg.BUS_STAT.TOKEN n 0).setBus n { x with node := .idle }
          else d
        if kind = 0 then
          if dest = mac && x.node != .sending then
            ((idle.put Reg.BUS_STAT.SOLE_MASTER n 0).mstpRing n true).mstpToken n
          else idle
        else if kind = 1 then (if dest = mac then idle.mstpEmit n 2 src [] else idle)
        else if kind = 2 then
          if dest = mac && x.node = .pollForMaster then
            (((d.put Reg.BUS_STAT.SOLE_MASTER n 0).put Reg.BUS_STAT.NEXT_STATION n src).setBus n { x with ps := mac, tokens := 0 }).passToken n
          else idle
        else if dest = mac || dest = 255 then idle.mstpTake n kind dest src data
        else idle

/-- R495: REPLY_WAIT has passed: Reply Postponed. -/
def execMstpReplyWaitExpiry (n : Nat) (s : State) : Host.Outcome State Fault Refusal :=
  s.onDev fun d =>
    match (d.bus n).reply with
    | none => d
    | some r => if d.live && n < 16 && decide ((d.bus n).replyAt + 100 * d.get Reg.BUS_MSTP.REPLY_WAIT n ≤ d.tick) then (d.setBus n { d.bus n with reply := none }).mstpEmit n 7 r.1 [] else d

/-- R494, R507: the reply wait of clause 9 ends. -/
def execMstpReplyTimeout (n : Nat) (s : State) : Host.Outcome State Fault Refusal :=
  s.onDev fun d =>
    if d.live && n < 16 && (d.bus n).node == .waitReply && d.busWaited n mstpReplyWait then
      ((d.busTimeout n).setBus n { d.bus n with frames := d.get Reg.BUS_MSTP.MAX_INFO n }).mstpReplied n fun y id => y.failSend n id .timeout
    else d

/-! ### Modbus RTU (R497 to R499) -/

/-- The poll list of port `n`. -/
def Dev.pollList (d : Dev) (n : Nat) : List Nat := d.block (handle clsBUS n)

/-- Poll entry `i` of a list. -/
def pollEntry (l : List Nat) (i : Nat) : List Nat := (l.drop (32 * i)).take 32

/-- How many coils or registers an entry reads (R499). -/
def entryCount (e : List Nat) : Nat := if 2 ≤ e.getD 4 0 && e.getD 4 0 ≤ 4 then 2 else 1

/-- The request of a poll entry: slave address and PDU. -/
def entryRequest (e : List Nat) : List Nat :=
  let a := leAt e 2 2
  [e.getD 0 0, e.getD 1 0, a / 256, a % 256, 0, entryCount e]

/-- The request of the present Modbus job. -/
def Dev.mbRequest (d : Dev) (n : Nat) : BusJob → List Nat
  | .send id => d.sendData n id
  | .entry i => entryRequest (pollEntry (d.pollList n) i)
  | .orphan => []

/-- One bit step of the CRC of a Modbus RTU frame. -/
def mbCrcBit (c : Nat) : Nat := if c % 2 = 1 then Nat.xor (c / 2) 0xA001 else c / 2

/-- The CRC of a Modbus RTU frame as its two bytes, the low one first (PRESUMED, log 196: the public Modbus RTU CRC, which R507 names). -/
def mbCrc (bs : List Nat) : List Nat :=
  leBytes 2 (bs.foldl (fun c b => (List.range 8).foldl (fun x _ => mbCrcBit x) (Nat.xor c (b % 256))) 0xFFFF)

/-- A Modbus frame with its CRC (R507). -/
def mbFrame (bs : List Nat) : List Nat := bs ++ mbCrc bs

/-- A received Modbus frame without its CRC; none where that does not match. -/
def mbChecked (bs : List Nat) : Option (List Nat) :=
  let body := bs.take (bs.length - 2)
  if 2 ≤ bs.length && mbFrame body == bs then some body else none

/-- A Modbus transaction begins: host ones first, in queue order, then due entries in ascending index (R498). -/
def Dev.mbStart (d : Dev) (n : Nat) : Dev :=
  let x := d.bus n
  if x.job.isSome || x.broadcast then d
  else
    let next := match x.queue with
      | id :: _ => some (BusJob.send id)
      | [] => if d.isSet Reg.BUS_MB.POLL_RUN n then x.due.min?.map BusJob.entry else none
    match next with
    | none => d
    | some j =>
      let x1 := match j with
        | .send id => { x with queue := x.queue.filter fun i => i != id }
        | .entry i => { x with due := x.due.filter (fun k => k != i), starts := Map.set x.starts i (d.tick + 1) 0 }
        | .orphan => x
      (d.setBus n { x1 with job := some j, sent := false, attempt := 0, late := false }).busEmit n (mbFrame (d.mbRequest n j))

/-- The present Modbus job is over. -/
def Dev.mbEnd (d : Dev) (n : Nat) : Dev := (d.setBus n { d.bus n with job := none, sent := false }).mbStart n

/-- The VAR of an entry. -/
def entryVar (e : List Nat) : Nat := leAt e 16 2

/-- The word that a VAR last had. -/
def Dev.varWord (d : Dev) (v : Nat) : VW := (d.value? (d.name clsVAR v) 0).getD (mkWord 0 0 d.tick)

/-- A VAR written: routed from the next boundary, with which it is stamped, and kept in the working save set (R499, R560). -/
def Dev.writeVar (d : Dev) (v : Nat) (w : VW) : Dev :=
  (d.produce (d.name clsVAR v) 0 w).saveWrite (0x1000 + 8 * v) (leBytes 8 w.bits)

/-- MODBUS_FAULT of an entry (R510). -/
def Dev.mbFault (d : Dev) (n i : Nat) (on : Bool) (cause code : Nat) : Dev :=
  let v := entryVar (pollEntry (d.pollList n) i)
  let x := d.bus n
  if x.faulted.contains i = on then d
  else
    (d.setBus n { x with faulted := if on then x.faulted ++ [i] else x.faulted.filter fun k => k != i }).raiseLimited 0x0B03 (d.name clsVAR v) d.tick
      (if on then 1 else 0) [if on then 1 else 0, i, cause, code]

/-- A failed transaction of an entry (R499). -/
def Dev.entryFailed (d : Dev) (n i cause : Nat) : Dev :=
  let x := d.bus n
  let v := entryVar (pollEntry (d.pollList n) i)
  let f := Map.get x.fails i 0 + 1
  let w := d.varWord v
  let d1 := d.setBus n { x with fails := Map.set x.fails i f 0 }
  if d.get Reg.BUS_MB.ERR_LIMIT n ≤ f then ((d1.writeVar v ((w.mark (stSTALE + stFAULT)).clear stVALID)).mbFault n i true cause 0)
  else d1.writeVar v (w.mark stSTALE)

/-- An exception response or a value that is not finite (R499). -/
def Dev.entryFault (d : Dev) (n i cause code : Nat) : Dev :=
  let v := entryVar (pollEntry (d.pollList n) i)
  (d.writeVar v (((d.varWord v).mark stFAULT).clear stVALID)).mbFault n i true cause code

/-- SCALE × r + OFFSET for a FLOAT32 reading of bits `f`; none when it is not finite. -/
def floatReading (scale offset : Int) (f : Nat) : Option Int :=
  let e := bitsAt f 23 8
  let m : Int := if e = 0 then bitsAt f 0 23 else bitsAt f 0 23 + 2 ^ 23
  let s : Int := if bitAt f 31 then -m else m
  let ex := max 1 e
  if e = 255 then none
  else if 150 ≤ ex then some (scale * s * 2 ^ (ex - 150) + offset)
  else some (roundShift (scale * s) (150 - ex) + offset)

/-- The value of a good reading (R499): none when it is not finite. -/
def entryValue (e : List Nat) (data : List Nat) : Option Int :=
  let scale := signedOf 32 (leAt e 8 4)
  let offset := signedOf 32 (leAt e 12 4)
  let reg := fun (j : Nat) => 256 * data.getD (2 * j) 0 + data.getD (2 * j + 1) 0
  let wide := if bitAt (e.getD 5 0) 0 then reg 0 + 65536 * reg 1 else 65536 * reg 0 + reg 1
  match e.getD 4 0 with
  | 0 => some (scale * reg 0 + offset)
  | 1 => some (scale * signedOf 16 (reg 0) + offset)
  | 2 => some (scale * wide + offset)
  | 3 => some (scale * signedOf 32 wide + offset)
  | 4 => floatReading scale offset wide
  | _ => some (scale * (data.getD 0 0 % 2) + offset)

/-- A response of a poll entry with a good check (R499). -/
def Dev.entryResponse (d : Dev) (n i : Nat) (bytes : List Nat) : Dev :=
  let e := pollEntry (d.pollList n) i
  if 128 ≤ bytes.getD 1 0 then d.entryFault n i 3 (bytes.getD 2 0)
  else match entryValue e (bytes.drop 3) with
    | none => d.entryFault n i 4 0
    | some v =>
      let x := d.bus n
      let d1 := d.setBus n { x with fails := Map.set x.fails i 0 0 }
      let st := stVALID + (if saturate 32 v = v then 0 else stCLAMPED)
      (d1.writeVar (entryVar e) (mkWord (saturate 32 v) st (d1.tick + 1))).mbFault n i false 0 0

/-- A failed attempt: it is tried again up to RETRIES times, then the transaction has failed (R497, R507). -/
def Dev.mbFailed (d : Dev) (n : Nat) (late : Bool) : Dev :=
  let x := d.bus n
  match x.job with
  | none => d
  | some j =>
    if x.attempt < d.get Reg.BUS_MB.RETRIES n && j != .orphan then
      (d.setBus n { x with attempt := x.attempt + 1, late := late, sent := false }).busEmit n (mbFrame (d.mbRequest n j))
    else
      let d1 := match j with
        | .send id => d.failSend n id (if late then .timeout else .dataError)
        | .entry i => d.entryFailed n i (if late then 1 else 2)
        | .orphan => d
      d1.mbEnd n

/-- Whether the period of entry `i`, in 10 ms units, has passed since its previous start (R498). -/
def Dev.entryDue (d : Dev) (n i : Nat) : Bool :=
  let t := Map.get (d.bus n).starts i 0
  t == 0 || decide (t - 1 + 1000 * leAt (pollEntry (d.pollList n) i) 6 2 ≤ d.tick)

/-- R498: an entry's period has passed. -/
def execModbusPollDue (n i : Nat) (s : State) : Host.Outcome State Fault Refusal :=
  s.onDev fun d =>
    if d.live && n < 16 && d.busMode n == busMODBUS && d.isSet Reg.BUS_MB.POLL_RUN n && decide (32 * i < (d.pollList n).length) && d.entryDue n i then
      let x := d.bus n
      (d.setBus n { x with due := if x.due.contains i then x.due else x.due ++ [i] }).mbStart n
    else d

/-- Whether a response to a poll entry has the length that its request implies, or that of an exception (R497). -/
def entryWhole (e bytes : List Nat) : Bool :=
  bytes.length == (if 128 ≤ bytes.getD 1 0 then 3 else if e.getD 1 0 ≤ 2 then 4 else 3 + 2 * entryCount e)

/-- R497, R499, R507: a response has come whole: slave address, PDU and CRC. One that is not of the length its poll entry implies is not yet whole. -/
def execModbusResponse (n : Nat) (bytes : List Nat) (good : Bool) (s : State) : Host.Outcome State Fault Refusal :=
  s.onDev fun d =>
    let x := d.bus n
    if !(d.live && n < 16 && d.busMode n == busMODBUS && x.job.isSome && x.sent) then d
    else if !good then (d.busFraming n).mbFailed n false
    else match mbChecked bytes with
      | none => (d.busCrc n).mbFailed n false
      | some body => match x.job with
        | some (.send id) => (d.endSend n id 1 body).mbEnd n
        | some (.entry i) => if entryWhole (pollEntry (d.pollList n) i) body then (d.entryResponse n i body).mbEnd n else d
        | _ => d.mbEnd n

/-- R497: no response has begun within TIMEOUT; after a broadcast, the silence ends. -/
def execModbusTimeout (n : Nat) (s : State) : Host.Outcome State Fault Refusal :=
  s.onDev fun d =>
    let x := d.bus n
    if !(d.live && n < 16 && d.busMode n == busMODBUS && d.busWaited n (100 * d.get Reg.BUS_MB.TIMEOUT n)) then d
    else if x.broadcast then (d.setBus n { x with broadcast := false }).mbStart n
    else if x.job.isSome && x.sent then (d.busTimeout n).mbFailed n true
    else d

/-- R497: a gap of more than 1.5 character times inside a response. -/
def execModbusGap (n : Nat) (s : State) : Host.Outcome State Fault Refusal :=
  s.onDev fun d =>
    if d.live && n < 16 && d.busMode n == busMODBUS && (d.bus n).job.isSome && (d.bus n).sent then (d.busFraming n).mbFailed n false else d

/-! ### Raw UART and 10BASE-T1L (R500 to R502) -/

/-- R500: a received raw frame ends; `good` tells that no character of it failed. -/
def execRawFrameEnd (n : Nat) (bytes : List Nat) (good : Bool) (s : State) : Host.Outcome State Fault Refusal :=
  s.onDev fun d =>
    if !(d.live && n < 16 && d.busMode n == busRAW) then d
    else if !good then d.busFraming n
    else d.busDeliver n { bytes := bytes.take 1024, kind := 0, src := 0, reply := false }

/-- One bit step of the reflected CRC-32 of IEEE 802.3. -/
def fcsBit (c : Nat) : Nat := if c % 2 = 1 then Nat.xor (c / 2) 0xEDB88320 else c / 2

/-- The FCS value of a byte string (IEEE 802.3). -/
def fcs32 (bs : List Nat) : Nat :=
  Nat.xor (bs.foldl (fun c b => (List.range 8).foldl (fun x _ => fcsBit x) (Nat.xor c (b % 256))) 0xFFFFFFFF) 0xFFFFFFFF

/-- Whether a destination passes the filter of port 16 + `k` (R502). -/
def Dev.t1lPasses (d : Dev) (k : Nat) (dest : List Nat) : Bool :=
  let own := leBytes 4 (d.get Reg.T1L_MAC_LO.ADDR k) ++ leBytes 2 (d.get Reg.T1L_MAC_HI.ADDR k)
  let h := bitsAt (fcs32 dest) 26 6
  let hash := if h < 32 then bitAt (d.get Reg.T1L_HASH_LO.HASH k) h else bitAt (d.get Reg.T1L_HASH_HI.HASH k) (h - 32)
  dest == own || (dest == List.replicate 6 0xFF && d.isSet Reg.T1L_CFG.BCAST k) || d.isSet Reg.T1L_CFG.PROMISC k
    || (dest.getD 0 0 % 2 == 1 && dest != List.replicate 6 0xFF && (d.isSet Reg.T1L_CFG.MCAST_ALL k || hash))

/-- A frame as it goes onto a 10BASE-T1L line (R502): padded to 60 bytes, its FCS after it. -/
def t1lFramed (bs : List Nat) : List Nat :=
  let p := bs ++ List.replicate (60 - bs.length) 0
  p ++ leBytes 4 (fcs32 p)

/-- R502: a 10BASE-T1L frame, from its destination to its FCS. -/
def execT1lFrame (k : Nat) (bytes : List Nat) (good : Bool) (s : State) : Host.Outcome State Fault Refusal :=
  s.onDev fun d =>
    let body := bytes.take (bytes.length - 4)
    if !(d.live && k < 4 && d.isSet Reg.T1L_CFG.ENABLE k && d.isSet Reg.T1L_STAT.LINK_UP k) then d
    else if !good then d.busFraming (16 + k)
    else if body ++ leBytes 4 (fcs32 body) != bytes then d.busCrc (16 + k)
    else if 1522 < bytes.length then d.busFraming (16 + k)
    else if d.t1lPasses k (body.take 6) then d.busDeliver (16 + k) { bytes := body, kind := 0, src := 0, reply := false }
    else d

/-- The next frame of a RAW or 10BASE-T1L port begins; a 10BASE-T1L port needs its link (R502). -/
def Dev.plainStart (d : Dev) (n : Nat) : Dev :=
  let x := d.bus n
  if x.job.isSome || (16 ≤ n && !d.isSet Reg.T1L_STAT.LINK_UP (n - 16)) then d
  else match x.queue with
    | [] => d
    | id :: rest =>
      let bytes := d.sendData n id
      (d.setBus n { x with queue := rest, job := some (.send id), sent := false }).busEmit n
        (if 16 ≤ n then t1lFramed bytes else bytes)

/-- A 10BASE-T1L link that the device itself takes down (R501, R505): T1L_LINK down where it was up. -/
def Dev.t1lDown (d : Dev) (k : Nat) : Dev :=
  let d1 := ((d.put Reg.T1L_STAT.LINK_UP k 0).put Reg.T1L_STAT.AMP k 0).put Reg.T1L_STAT.SQI k 0
  if d.isSet Reg.T1L_STAT.LINK_UP k then d1.raise 0x0B05 (d1.name clsBUS (16 + k)) [0, d.get Reg.T1L_STAT.AMP k, 0] else d1

/-- R501: a 10BASE-T1L link comes up at an amplitude and with a signal quality index, or goes down. -/
def execT1lLink (k : Nat) (up high : Bool) (sqi : Nat) (s : State) : Host.Outcome State Fault Refusal :=
  s.onDev fun d =>
    if !(d.live && k < 4 && d.isSet Reg.T1L_CFG.ENABLE k) then d
    else
      let was := d.isSet Reg.T1L_STAT.LINK_UP k
      let d1 := ((d.putBit Reg.T1L_STAT.LINK_UP k up).putBit Reg.T1L_STAT.AMP k (up && high)).put Reg.T1L_STAT.SQI k (if up then sqi else 0)
      let d2 := if was && !up then d1.busTimeout (16 + k) else d1
      (if was = up then d2
       else d2.raise 0x0B05 (d2.name clsBUS (16 + k)) [if up then 1 else 0, if high then 1 else 0, sqi % 8]).plainStart (16 + k)

/-! ### A frame has left (R489, R494, R507) -/

/-- A MODBUS request has left: a broadcast is done, any other waits for its response. -/
def Dev.mbSent (d : Dev) (n : Nat) (j : BusJob) : Dev :=
  let x := d.bus n
  if (d.mbRequest n j).getD 0 1 = 0 then
    let d1 := match j with
      | .send id => d.endSend n id 0 []
      | _ => d
    d1.setBus n { d1.bus n with job := none, sent := false, broadcast := true }
  else d.setBus n { x with sent := true }

/-- An MS/TP frame has left: it waits for its reply, or the node goes on. -/
def Dev.mstpSent (d : Dev) (n : Nat) (j : BusJob) : Dev :=
  let x := d.bus n
  match j with
  | .send id =>
    match d.rec? id with
    | some r => if expectsReply (r.d.byte 20) then d.setBus n { x with node := .waitReply, sent := true } else (d.endSend n id 0 []).mstpNext n
    | none => d.mstpNext n
  | _ => d.mstpNext n

/-- R489, R507: a port has sent a frame. -/
def execBusFrameSent (n : Nat) (s : State) : Host.Outcome State Fault Refusal :=
  s.onDev fun d =>
    if !(d.live && n < 20) then d
    else
      let d1 := (if n < 16 then d.emit (.pin ("BUS_DE" ++ toString n) false) else d).busMark n
      let x := d1.bus n
      match x.job with
      | none => d1
      | some j =>
        if x.sent then d1
        else if d1.busMode n = busMSTP then (if x.node = .sending then d1.mstpSent n j else d1)
        else if d1.busMode n = busMODBUS then d1.mbSent n j
        else
          let d2 := match j with
            | .send id => d1.endSend n id 0 []
            | _ => d1
          (d2.setBus n { d2.bus n with job := none }).plainStart n

/-! ### BUS_SEND and BUS_ABORT (R494, R495, R507, R509) -/

/-- Whether a BUS_SEND's length, type and the rest suit the port's mode (R493, R497, R500, R502, R506). -/
def sendSuits (mode : Nat) (x : Desc) : Bool :=
  let len := x.u16 32
  let mstp := mode == busMSTP
  let plain := x.byte 20 == 0 && x.byte 21 == 0 && x.byte 22 == 0
  let noResponse := x.u64 40 == 0 && x.u16 48 == 0
  if mstp then
    (match mstpMax (x.byte 20) with
      | some top => decide (len ≤ top)
      | none => false) && (x.byte 21 < 128 || x.byte 21 == 255) && x.byte 22 < 2
  else if mode = busMODBUS then plain && 2 ≤ len && len ≤ 254
  else if mode = busRAW then plain && noResponse && 1 ≤ len
  else mode == 4 && plain && noResponse && 14 ≤ len && len ≤ 1518

/-- BUS_SEND with what its buffer holds (R507). -/
def bodyBusSend (data : List Nat) (id : Nat) (x : Desc) (d : Dev) : Dev :=
  let h := x.u32 16
  let n := indexOf h
  if !d.isHandle clsBUS h then d.fail id .badObject
  else if !sendSuits (d.busMode n) x then d.fail id .badParam
  else
    let bytes := (data ++ List.replicate (x.u16 32) 0).take (x.u16 32)
    let b := d.bus n
    let d1 := d.setBus n { b with data := Map.set b.data id bytes [] }
    let queued := d1.setBus n { d1.bus n with queue := b.queue ++ [id] }
    if d.busMode n = busMSTP then
      match if bitAt (x.byte 22) 0 then b.reply else none with
      | some _ =>
        if b.node = .sending || b.node = .waitReply then queued
        else
          ((d1.setBus n { d1.bus n with reply := none }).mstpEmit n (x.byte 20) (x.byte 21) bytes).endSend n id 0 []
      | none => queued
    else if d.busMode n = busMODBUS then queued.mbStart n
    else queued.plainStart n

/-- R507: `data` is what the send buffer holds. -/
def execBusSend (q : Nat) (x : Desc) (data : List Nat) (s : State) : Host.Outcome State Fault Refusal :=
  s.onDev fun d => d.submit q x 0x0B01 [(16, 4), (20, 1), (21, 1), (22, 1), (24, 8), (32, 2), (40, 8), (48, 2)] (bodyBusSend data)

/-- BUS_ABORT settled at the port (R509). -/
def settleBus (id : Nat) (r : Rec) (d : Dev) : Dev :=
  let n := indexOf (r.d.u32 16)
  let x := d.bus n
  if x.recvs.contains r.id then
    ((d.setBus n { x with recvs := x.recvs.filter fun i => i != r.id }).fail r.id .aborted).done id 0
  else if x.queue.contains r.id then (d.failSend n r.id .aborted).done id 0
  else if x.job = some (.send r.id) then
    ((d.setBus n { x with job := some .orphan }).failSend n r.id .aborted).done id 0
  else d.fail id .nothingToAbort

/-- R509. -/
def execBusAbort (q : Nat) (x : Desc) (s : State) : Host.Outcome State Fault Refusal :=
  s.onDev fun d => d.submit q x 0x0B04 [(16, 4), (20, 2)] fun id x d => d.abortDesc id (x.u16 20) (x.u32 16) [0x0B01, 0x0B02] settleBus

/-! ### Configuration (R490, R491, R508, R511) -/

/-- Every BUS_SEND of a port ends ABORTED; where `all` says so its BUS_RECVs too, and the frames it holds are gone. What is known of its poll entries
stays. -/
def Dev.busFlush (d : Dev) (n : Nat) (all : Bool) : Dev :=
  let x := d.bus n
  let running := match x.job with
    | some (.send id) => [id]
    | _ => []
  let d1 := (running ++ x.queue).foldl (fun (y : Dev) id => y.failSend n id .aborted) d
  let d2 := if all then x.recvs.foldl (fun (y : Dev) id => y.fail id .aborted) d1 else d1
  d2.setBus n { BusSt.init with recvs := if all then [] else x.recvs, held := (if all then [] else x.held), joined := x.joined, fails := x.fails
                                faulted := x.faulted, starts := x.starts }

/-- BUS_DE low on every EIA-485 port: the ports stop (R505). -/
def Dev.busStop (d : Dev) : Dev := (List.range 16).foldl (fun (y : Dev) n => y.emit (.pin ("BUS_DE" ++ toString n) false)) d

/-- A port takes up its configuration (R491, R505). -/
def Dev.busRestart (d : Dev) (n : Nat) : Dev :=
  let d1 := ((d.mstpRing n false).put Reg.BUS_STAT.MODE n (d.get Reg.BUS_CFG.MODE n)).busMark n
  if d1.busMode n = busMSTP then d1.mstpInit n
  else ((d1.put Reg.BUS_STAT.TOKEN n 0).put Reg.BUS_STAT.SOLE_MASTER n 0).put Reg.BUS_STAT.NEXT_STATION n 0

/-- Whether a mode takes a bit rate (R490). -/
def baudOk (mode baud : Nat) : Bool := if mode = busMODBUS || mode = busRAW then baud ≤ 9 else baud ≤ 5

/-- R491: a write of BUS_CFG. -/
def Dev.writeBusCfg (d : Dev) (n v : Nat) : Dev :=
  let mode := bitsAt v 0 2
  let baud := bitsAt v 4 4
  if !baudOk mode baud then d.busReject n
  else
    let change := mode != d.get Reg.BUS_CFG.MODE n || baud != d.get Reg.BUS_CFG.BAUD n
    let d1 := (((d.putHost Reg.BUS_CFG.MODE n mode).putHost Reg.BUS_CFG.BAUD n baud).putHost Reg.BUS_CFG.DE_TAIL n (bitsAt v 8 4)).putHost
      Reg.BUS_CFG.AUTO_TEST n (bitsAt v 12 1)
    if change then
      let d2 := ((d1.busFlush n true).putRet Reg.BUS_MB.POLL_RUN n 0).emit (.pin ("BUS_DE" ++ toString n) false)
      (if mode = busOFF then d2.emit (.pin ("BUS_TXD" ++ toString n) true) else d2).busRestart n
    else d1

/-- R491. -/
def execBusCfgWrite (n v : Nat) (s : State) : Host.Outcome State Fault Refusal :=
  s.onDev fun d => if n < 16 then d.hostReg (Reg.BUS_CFG.MODE.addr n) v fun x => x.writeBusCfg n v else d

/-- Whether the other BUS and T1L registers take a value, beyond the ranges of their fields (R501, R511). -/
def Dev.busWriteOk (d : Dev) (off i v : Nat) : Bool :=
  if off = Reg.BUS_MSTP.MAC.addr i then bitsAt v 0 7 ≤ bitsAt v 8 7
  else if off = Reg.T1L_CFG.ENABLE.addr i then
    !bitAt v 0 || d.get Reg.T1L_MAC_LO.ADDR i != 0 || d.get Reg.T1L_MAC_HI.ADDR i != 0
  else true

/-- What a write of T1L_CFG or BUS_MB brings about: a port disabled loses its link and its BUS_SENDs; a list that runs starts. -/
def Dev.busWritten (d : Dev) (off i : Nat) : Dev :=
  if off = Reg.T1L_CFG.ENABLE.addr i && !d.isSet Reg.T1L_CFG.ENABLE i then
    (d.busFlush (16 + i) false).t1lDown i
  else if off = Reg.BUS_MB.TIMEOUT.addr i && d.busMode i = busMODBUS then d.mbStart i
  else d

/-- The writer code of a poll list. -/
def pollWriter (n : Nat) : Nat := 0x40000 + n

/-- Whether a poll entry is well formed (R499). -/
def entryFieldOk (e : List Nat) : Bool :=
  let fn := e.getD 1 0
  let ty := e.getD 4 0
  1 ≤ e.getD 0 0 && e.getD 0 0 ≤ 247 && 1 ≤ fn && fn ≤ 4 && ty ≤ 5 && (ty == 5) == (fn ≤ 2) && e.getD 5 0 < 2 && 1 ≤ leAt e 6 2
    && leAt e 6 2 ≤ 60000 && entryVar e < 1024 && (e.drop 18).all (· == 0)

/-- Whether an entry's VAR may be its own: no other writer, named once (R45, R508). -/
def Dev.entryWriterOk (d : Dev) (n : Nat) (l : List Nat) (count i : Nat) : Bool :=
  let v := entryVar (pollEntry l i)
  let w := d.writerOf (handle clsVAR v)
  let names := fun (bs : List Nat) (k : Nat) => ((List.range k).filter fun j => entryVar (pollEntry bs j) == v).length
  (w == 0 || w == pollWriter n) && names l count == 1
    && d.pollSets.all fun o => o.port == n || (match o.list with
      | some bs => names bs (bs.length / 32) == 0
      | none => true)

/-- The most entries of a poll list, by behaviour level (R60, R498, R506). -/
def Dev.pollEntries (d : Dev) : Nat := if d.bl < 2 then 64 else 128

/-- BUS_POLL_SET (R508): it waits for its check. -/
def bodyBusPollSet (id : Nat) (x : Desc) (d : Dev) : Dev :=
  let h := x.u32 16
  if !d.isHandle clsBUS h then d.fail id .badObject
  else if 16 ≤ indexOf h || d.pollEntries < x.byte 24 || d.busMode (indexOf h) != busMODBUS then d.fail id .badParam
  else if memWords < x.u32 20 + x.byte 24 then d.finish id .badParam 3
  else { d with pollSets := d.pollSets ++ [{ id := id, port := indexOf h, list := none }] }

/-- R508. -/
def execBusPollSet (q : Nat) (x : Desc) (s : State) : Host.Outcome State Fault Refusal :=
  s.onDev fun d => d.submit q x 0x0B03 [(16, 4), (20, 4), (24, 1)] bodyBusPollSet

/-- R508: the check of a staged poll list ends. -/
def Dev.pollChecked (d : Dev) (id : Nat) (x : Desc) : Dev :=
  match d.pollSets.find? fun p => p.id == id && p.list.isNone with
  | none => d
  | some p =>
    let drop := fun (y : Dev) => ({ y with pollSets := y.pollSets.filter fun o => o.id != id } : Dev)
    let count := x.byte 24
    match d.readWords (x.u32 20) count 1 with
    | (none, d1) => (drop d1).fail id .dataError
    | (some bs, d1) =>
      match (List.range count).find? fun i => !entryFieldOk (pollEntry bs i) with
      | some i => (drop d1).finish id .badParam (1 + 256 * i)
      | none => match (List.range count).find? fun i => !d1.entryWriterOk p.port bs count i with
        | some i => (drop d1).finish id .badParam (2 + 256 * i)
        | none => { d1 with pollSets := d1.pollSets.map fun o => if o.id = id then { o with list := some bs } else o }

/-- The poll list of port `n` replaced, and the writers of its VARs with it. -/
def Dev.setPollList (d : Dev) (n : Nat) (l : List Nat) : Dev :=
  let vars := fun (bs : List Nat) => (List.range (bs.length / 32)).map fun i => entryVar (pollEntry bs i)
  let d1 := (vars (d.pollList n)).foldl (fun (y : Dev) v => y.setWriter (handle clsVAR v) 0) d
  let d2 := (vars l).foldl (fun (y : Dev) v => y.setWriter (handle clsVAR v) (pollWriter n)) d1
  let x := d2.bus n
  let job := match x.job with
    | some (.entry _) => some BusJob.orphan
    | j => j
  (d2.setBlock (handle clsBUS n) l).setBus n { x with job := job, due := [], fails := [], faulted := [], starts := [] }

/-- The poll lists that are checked take effect at a tick boundary (R508). -/
def Dev.pollTick (d : Dev) : Dev :=
  let ready := d.pollSets.filter fun p => p.list.isSome
  ready.foldl (fun (y : Dev) p => (y.setPollList p.port (p.list.getD [])).done p.id 0)
    { d with pollSets := d.pollSets.filter fun p => p.list.isNone }

/-! ### Freeze and start (R505) -/

/-- The bus ports at thaw: what they had queued is discarded, MS/TP ports start anew, 10BASE-T1L links come up again. -/
def Dev.busThaw (d : Dev) : Dev :=
  let d1 := (List.range 16).foldl (fun (y : Dev) n => (y.busFlush n false).busRestart n) d
  (List.range 4).foldl (fun (y : Dev) k => (y.busFlush (16 + k) false).t1lDown k) d1

/-- The bus ports at start, once control runs: configuration and poll lists taken up. -/
def Dev.busStart (d : Dev) : Dev :=
  let d1 := (List.range 16).foldl (fun (y : Dev) n => y.busRestart n) d
  (List.range 16).foldl (fun (y : Dev) n =>
    (List.range ((y.pollList n).length / 32)).foldl (fun (z : Dev) i => z.setWriter (handle clsVAR (entryVar (pollEntry (z.pollList n) i))) (pollWriter n)) y) d1

end Sys2Proof.Machine
end

