-- ==== Sys2Proof/Machine/Dio.lean ====
section
/-! DEFINITION. Digital inputs, digital outputs and floating actuators (04_field_io_barrier.md). -/

namespace Sys2Proof.Machine
open Sys2Proof

/-! ### Digital inputs (R155 to R159, R176) -/

/-- A digital input before its first change. -/
def DiSt.init : DiSt := { level := .off, cand := .off, run := 0 }

/-- Digital input `i`. -/
def Dev.diAt (d : Dev) (i : Nat) : DiSt := Map.get d.dis i DiSt.init

/-- Digital input `i` set. -/
def Dev.setDi (d : Dev) (i : Nat) (x : DiSt) : Dev := { d with dis := Map.set d.dis i x DiSt.init }

/-- The 2-bit code of a DI state in an up frame (R144). -/
def diCode : DiLevel → Nat
  | .off => 0 | .on => 1 | .broken => 2 | .short => 3

/-- Whether a DI state is a wire-break state. -/
def diBad : DiLevel → Bool
  | .broken | .short => true
  | _ => false

/-- The run of differing samples that changes the state in pulsed mode (R157). -/
def Dev.diPulsedRun (d : Dev) (i : Nat) : Nat :=
  let p := 100 * d.dget Reg.DI_CFG.PERIOD i
  max 1 ((d.dget Reg.DI_DEB.DEBOUNCE i + p - 1) / p)

/-- DI_DEB.EFFECTIVE: the debounce in force in 100 µs units, rounded up (R157). -/
def diEffective (pulsed : Bool) (period debounce : Nat) : Nat :=
  if pulsed then max 1 ((debounce + 100 * period - 1) / (100 * period)) * period else (debounce + 99) / 100

/-- What input `i` samples at `mv` across it and `ua` through it: by the current with wire-break detection (R158), else by the voltage (R155);
between two levels it keeps its state. DEDUCED (log 212): a wire-break state kept from before counts as ON for SHORT, else as OFF. -/
def Dev.diSample (d : Dev) (i : Nat) (mv : Int) (ua : Nat) : DiLevel :=
  let prev := (d.diAt i).cand
  if d.disSet Reg.DI_CFG.WIREBREAK i then
    if ua < 350 then .broken else if ua ≤ 1500 then .off else if ua < 2000 then prev else if ua ≤ 12000 then .on else .short
  else
    let hi : Int := if d.disSet Reg.DI_CFG.TYPE i then 10000 else 13000
    let lo : Int := if d.disSet Reg.DI_CFG.TYPE i then 6000 else 8000
    if hi < mv then .on else if mv < lo then .off
    else match prev with
      | .on | .short => .on
      | _ => .off

/-- R156: the sample of one pulsed window: every one that differs from the debounced state counts (R157). -/
def execDiPulseWindow (i : Nat) (v : DiSample) (s : State) : Host.Outcome State Fault Refusal :=
  s.onDev fun d =>
    if i < d.classCount clsDI && d.dieLive (dieOf clsDI i) && d.disSet Reg.DI_CFG.PULSED i then
      let x := d.diAt i
      let sample := d.diSample i v.mv v.ua
      d.setDi i { x with cand := sample, run := if sample = x.level then 0 else x.run + 1 }
    else d

/-- R157, R158, R176: a run of differing samples is complete, the last of them `v`, and the debounced state changes to it; DI_FAULT for
changes into or out of BROKEN or SHORT. In pulsed mode the run and its last sample are those of the windows. -/
def execDiDebounceDone (i : Nat) (v : DiSample) (s : State) : Host.Outcome State Fault Refusal :=
  s.onDev fun d =>
    let x := d.diAt i
    let pulsed := d.disSet Reg.DI_CFG.PULSED i
    let level := if pulsed then x.cand else d.diSample i v.mv v.ua
    let due := !pulsed || decide (d.diPulsedRun i ≤ x.run)
    if i < d.classCount clsDI && d.dieLive (dieOf clsDI i) && x.level != level && due then
      let d1 := d.setDi i { level := level, cand := level, run := 0 }
      if d.disSet Reg.DI_CFG.WIREBREAK i && (diBad x.level || diBad level) then
        d1.dieRaise (dieOf clsDI i) 0x0301 (handle clsDI i) [diCode level, diCode x.level]
      else d1
    else d

/-- DI_CFG of input `i` in effect at the die: without wire-break detection the input reports only OFF and ON (R158). DEDUCED (log 212): BROKEN, no current,
goes to OFF and SHORT, above every ON current, to ON. -/
def Dev.diApplyCfg (d : Dev) (i : Nat) : Dev :=
  let x := d.diAt i
  let plain := fun (l : DiLevel) => match l with
    | .broken => DiLevel.off
    | .short => .on
    | y => y
  if d.disSet Reg.DI_CFG.WIREBREAK i then d
  else if diBad x.level || diBad x.cand then d.setDi i { level := plain x.level, cand := plain x.cand, run := 0 } else d

/-- The value word of a DI state (R158, R159). -/
def diWord (level : DiLevel) (invert : Bool) (tick : Nat) : VW :=
  match level with
  | .broken | .short => mkWord 0 stFAULT tick
  | .off => mkWord (if invert then 65536 else 0) stVALID tick
  | .on => mkWord (if invert then 0 else 65536) stVALID tick

/-! ### Digital outputs (R160 to R164) -/

/-- A digital output after the die's power-up. -/
def DoSt.init : DoSt :=
  { state := .ok, cmd := false, on := false, readback := false, current := 0, retries := 0, waiting := false, since := 0
    partner := 0x3F, dark := false }

/-- Digital output `o`. -/
def Dev.doAt (d : Dev) (o : Nat) : DoSt := Map.get d.dos o DoSt.init

/-- Digital output `o` set. -/
def Dev.setDo (d : Dev) (o : Nat) (x : DoSt) : Dev := { d with dos := Map.set d.dos o x DoSt.init }

/-- Codes of DO_STAT.STATE (R180). -/
def DoState.code : DoState → Nat
  | .ok => 0 | .overload => 1 | .shortGnd => 2 | .latchedOff => 3 | .forcedHigh => 4 | .cross => 5
  | .openLoad => 6 | .vf24Low => 7

/-- The FLOAT whose pair holds DO `o` (R37), and whether it is enabled at the die. -/
def Dev.doInFloat (d : Dev) (o : Nat) : Bool := d.disSet Reg.FLOAT_CFG.ENABLE (o / 2)

/-- The DO that holds the state of DO `o`: the even one of a paralleled pair (R161, R162). -/
def Dev.doBase (d : Dev) (o : Nat) : Nat :=
  if o % 2 = 1 && d.disSet Reg.DO_CFG.PARALLEL (o - 1) then o - 1 else o

/-- Whether a fault state keeps a DO off (R162, R163). -/
def DoSt.blocked (x : DoSt) : Bool :=
  match x.state with
  | .overload | .shortGnd => x.waiting
  | .latchedOff | .forcedHigh | .vf24Low => true
  | _ => false

/-- DO `o` takes a command, and its paralleled half with it (R161): it switches unless a fault or a dark pulse keeps it off or VF24 is low
(R149, R162, R165). -/
def Dev.doCommand (d : Dev) (o : Nat) (b : Bool) : Dev :=
  let x := d.doAt o
  let on := b && !x.blocked && !x.dark && !(d.fd (dieOf clsDO o)).vf24Low
  let since := if on && !x.on then (d.fd (dieOf clsDO o)).bounds else x.since
  let d1 := d.setDo o { x with cmd := b, on := on, since := since }
  if o % 2 = 0 && d.disSet Reg.DO_CFG.PARALLEL o then d1.setDo (o + 1) { d1.doAt (o + 1) with cmd := b, on := on, since := since } else d1

/-- Every output of die `k` off at once: VF24 is low (R149). -/
def Dev.allDosOff (d : Dev) (k : Nat) : Dev :=
  (List.range 32).foldl (fun x n =>
    let o := globalOf clsDO k n
    x.setDo o { x.doAt o with on := false }) d

/-- A die event of DO `o`: DO_FAULT with state, partner and current (R175). -/
def Dev.doFault (d : Dev) (o : Nat) : Dev :=
  let x := d.doAt o
  d.dieRaise (dieOf clsDO o) 0x0302 (handle clsDO o)
    ([x.state.code, if x.state = .cross then x.partner else 0xFF] ++ leBytes 2 x.current)

/-- A die event of DO `o`: DO_RECOVERED with the state left (R175). -/
def Dev.doRecovered (d : Dev) (o : Nat) (left : DoState) : Dev :=
  d.dieRaise (dieOf clsDO o) 0x0303 (handle clsDO o) [left.code]

/-! ### Floating actuators (R167 to R170) -/

/-- A floating actuator at the die's first power-up. -/
def FloatSt.init : FloatSt :=
  { drive := .stopped, target := 0, pos := 0, next := .stopped, fault := false, awaitTarget := false, extra := 0, safe := false, ran := 0 }

/-- Floating actuator `f`. -/
def Dev.floatAt (d : Dev) (f : Nat) : FloatSt := Map.get d.floats f FloatSt.init

/-- Floating actuator `f` set. -/
def Dev.setFloat (d : Dev) (f : Nat) (x : FloatSt) : Dev := { d with floats := Map.set d.floats f x FloatSt.init }

/-- Ticks of the full stroke (FLOAT_CFG.TRAVEL, 0.1 s units). -/
def Dev.floatFull (d : Dev) (f : Nat) : Nat := 10000 * d.dget Reg.FLOAT_CFG.TRAVEL f

/-- The model position in `n` parts of the full stroke, rounded (R12). -/
def Dev.floatPart (d : Dev) (f n : Nat) : Nat := (roundDiv (n * (d.floatAt f).pos : Nat) (max 1 (d.floatFull f) : Nat)).toNat

/-- The model position as Q16.16 percent. -/
def Dev.floatPercent (d : Dev) (f : Nat) : Nat := d.floatPart f (100 * 65536)

/-- The model position in units of 0.025 % (R145). -/
def Dev.floatPos4000 (d : Dev) (f : Nat) : Nat := d.floatPart f 4000

/-- FLOAT_STAT.DRIVE codes (R180). -/
def FloatDrive.code : FloatDrive → Nat
  | .stopped => 0 | .opening => 1 | .closing => 2 | .deadTime => 3

/-- The pair's DOs driven as the FLOAT's drive says: never both (R169). -/
def Dev.floatDrivePair (d : Dev) (f : Nat) : Dev :=
  let x := d.floatAt f
  (d.doCommand (2 * f) (x.drive == .opening)).doCommand (2 * f + 1) (x.drive == .closing)

/-- FLOAT `f` goes to a drive, through the dead time when it reverses (R169). -/
def Dev.floatGo (d : Dev) (f : Nat) (dir : FloatDrive) : Dev :=
  let x := d.floatAt f
  let y := match x.drive, dir with
    | .opening, .closing => { x with drive := .deadTime, next := .closing, ran := 0 }
    | .closing, .opening => { x with drive := .deadTime, next := .opening, ran := 0 }
    | .deadTime, z => { x with next := z }
    | _, z => { x with drive := z, next := .stopped, extra := if x.drive = z then x.extra else 0 }
  (d.setFloat f y).floatDrivePair f

/-- FLOAT `f` stands still. -/
def Dev.floatHalt (d : Dev) (f : Nat) : Dev :=
  (d.setFloat f { d.floatAt f with drive := .stopped, next := .stopped, extra := 0, safe := false, ran := 0 }).floatDrivePair f

/-- The dead band of FLOAT `f` in ticks of run (FLOAT_CFG2.DEADBAND, 0.1 % units). -/
def Dev.floatBand (d : Dev) (f : Nat) : Nat := d.dget Reg.FLOAT_CFG2.DEADBAND f * d.floatFull f / 1000

/-- The direction that a target asks for (R168): targets at an end always drive to the end stop, others when they differ
from the model by more than the dead band. -/
def Dev.floatWants (d : Dev) (f target : Nat) : FloatDrive :=
  let full := d.floatFull f
  let pos := (d.floatAt f).pos
  let want := target * full / 200
  if target = 200 && pos < full then .opening
  else if target = 0 && 0 < pos then .closing
  else if pos + d.floatBand f < want then .opening
  else if want + d.floatBand f < pos then .closing
  else .stopped

/-- FLOAT `f` takes a target from a frame (R168, R169): one that differs from the present one ends the wait after a fault. -/
def Dev.floatTarget (d : Dev) (f target : Nat) : Dev :=
  let x := d.floatAt f
  if target = floatStop then Dev.floatHalt (d.setFloat f { x with target := target }) f
  else if target = x.target && !x.safe then
    if x.drive = .stopped && !x.fault && !x.awaitTarget then d.floatGo f (d.floatWants f target) else d
  else
    let clear := (d.doAt (2 * f)).state = .ok && (d.doAt (2 * f + 1)).state = .ok
    let y := { x with target := target, fault := x.fault && !clear, awaitTarget := x.awaitTarget && !clear, safe := false, ran := 0 }
    let d1 := d.setFloat f y
    if y.fault || y.awaitTarget then d1 else d1.floatGo f (d1.floatWants f target)

/-- Whether the drive of FLOAT `f` has done its run: a safe drive 110 % of TRAVEL (R170), one to an end a further 10 % past the model's end, any
other once the target is no more than the dead band away (R168). -/
def Dev.floatDone (d : Dev) (f : Nat) : Bool :=
  let x := d.floatAt f
  let full := d.floatFull f
  let want := x.target * full / 200
  if x.safe then decide (full + full / 10 ≤ x.ran)
  else match x.drive with
    | .opening => if x.target = 200 then decide (full ≤ x.pos && full / 10 ≤ x.extra) else decide (want ≤ x.pos + d.floatBand f)
    | .closing => if x.target = 0 then x.pos == 0 && decide (full / 10 ≤ x.extra) else decide (x.pos ≤ want + d.floatBand f)
    | _ => false

/-- One tick of run of a driving FLOAT (R168), until its run is done. -/
def Dev.floatRun (d : Dev) (f : Nat) : Dev :=
  let x := d.floatAt f
  let full := d.floatFull f
  if d.floatDone f then d
  else match x.drive with
    | .opening => d.setFloat f { x with pos := min full (x.pos + 1), extra := if full ≤ x.pos then x.extra + 1 else 0, ran := x.ran + 1 }
    | .closing => d.setFloat f { x with pos := x.pos - 1, extra := if x.pos = 0 then x.extra + 1 else 0, ran := x.ran + 1 }
    | _ => d

/-- FLOAT_FAULT (R169, R175): both sides off until a new target arrives after the fault has cleared. -/
def Dev.floatFault (d : Dev) (f cause : Nat) : Dev :=
  let d1 := (Dev.floatHalt d f)
  let d2 := d1.setFloat f { d1.floatAt f with fault := true, awaitTarget := true }
  d2.dieRaise (dieOf clsFLOAT f) 0x0304 (handle clsFLOAT f) ([cause, 0, 0, 0] ++ leBytes 4 (d2.floatPercent f))

/-- R168, R170: the run of a drive is done and the drive stops; at an end stop the model is at 0 % or 100 %. -/
def execFloatDriveEnd (f : Nat) (s : State) : Host.Outcome State Fault Refusal :=
  s.onDev fun d =>
    let x := d.floatAt f
    if f < d.classCount clsFLOAT && (x.drive = .opening || x.drive = .closing) && d.floatDone f then d.floatHalt f else d

/-- R169: the dead time ends: a safe drive begins its run (R170), else a target that arrived in it is taken. -/
def execFloatDeadTimeEnd (f : Nat) (s : State) : Host.Outcome State Fault Refusal :=
  s.onDev fun d =>
    let x := d.floatAt f
    if f < d.classCount clsFLOAT && x.drive = .deadTime then
      let d1 := d.setFloat f { x with drive := .stopped, next := .stopped }
      d1.floatGo f (if x.safe then x.next else d1.floatWants f x.target)
    else d

/-- R169: both readbacks high for 1 ms. -/
def execFloatBothHigh (f : Nat) (s : State) : Host.Outcome State Fault Refusal :=
  s.onDev fun d =>
    if f < d.classCount clsFLOAT && d.dieLive (dieOf clsFLOAT f) && d.disSet Reg.FLOAT_CFG.ENABLE f
      && !(d.floatAt f).fault then d.floatFault f 1
    else d

/-! ### DO faults -/

/-- A fault of a DO also faults the FLOAT that it belongs to (R169). -/
def Dev.doFaultFloat (d : Dev) (o : Nat) : Dev :=
  if d.doInFloat o && !(d.floatAt (o / 2)).fault then d.floatFault (o / 2) 2 else d

/-- Both halves of a paralleled pair off (R162). -/
def Dev.doMirror (d : Dev) (o : Nat) : Dev :=
  if d.disSet Reg.DO_CFG.PARALLEL o then
    let x := d.doAt o
    let y := d.doAt (o + 1)
    d.setDo (o + 1) { y with on := x.on, cmd := x.cmd }
  else d

/-- R162: DO `o` trips; a trip after a retry is a failed retry, and the last one allowed latches the output off. -/
def Dev.doTrip (d : Dev) (o : Nat) (st : DoState) (ma : Nat) : Dev :=
  let x := d.doAt o
  let failed := x.state = .overload || x.state = .shortGnd
  let n := if failed then x.retries + 1 else x.retries
  let latched := failed && d.dget Reg.DO_CFG.RETRY_MAX o ≤ n
  let y := { x with state := if latched then .latchedOff else st
                    on := false, retries := min 15 n, waiting := !latched, current := ma
                    since := (d.fd (dieOf clsDO o)).bounds }
  (((d.setDo o y).doMirror o).doFault o).doFaultFloat o

/-- R162: a current above the limit for 10 ms. -/
def execDoOverload (o ma : Nat) (s : State) : Host.Outcome State Fault Refusal :=
  s.onDev fun d =>
    let b := d.doBase o
    if o < d.classCount clsDO && d.dieLive (dieOf clsDO o) && (d.doAt b).on then d.doTrip b .overload ma else d

/-- R162: a switch at its thermal limit. -/
def execDoThermalLimit (o ma : Nat) (s : State) : Host.Outcome State Fault Refusal :=
  s.onDev fun d =>
    let b := d.doBase o
    if o < d.classCount clsDO && d.dieLive (dieOf clsDO o) && (d.doAt b).on then d.doTrip b .shortGnd ma else d

/-- R162: RETRY_INT × 100 ms after the trip the output switches on again when it is still commanded on (R149: not while VF24 is low). -/
def execDoRetry (o : Nat) (s : State) : Host.Outcome State Fault Refusal :=
  s.onDev fun d =>
    let b := d.doBase o
    let x := d.doAt b
    if o < d.classCount clsDO && d.dieLive (dieOf clsDO o) && x.waiting && (x.state = .overload || x.state = .shortGnd)
      && x.since + 10000 * d.dget Reg.DO_CFG.RETRY_INT b ≤ (d.fd (dieOf clsDO o)).bounds then
      Dev.doCommand (d.setDo b { x with waiting := false }) b x.cmd
    else d

/-- R162: 1 s on without a fault. -/
def execDoOnPeriodOk (o : Nat) (s : State) : Host.Outcome State Fault Refusal :=
  s.onDev fun d =>
    let b := d.doBase o
    let x := d.doAt b
    if o < d.classCount clsDO && d.dieLive (dieOf clsDO o) && x.on && x.since + 100000 ≤ (d.fd (dieOf clsDO o)).bounds then
      let faulted := x.state = .overload || x.state = .shortGnd
      let d1 := d.setDo b { x with retries := 0, state := if faulted then .ok else x.state }
      if faulted then d1.doRecovered b x.state else d1
    else d

/-- R163: the readback is high for 1 ms while the output is commanded off. -/
def execDoForcedHigh (o ma : Nat) (s : State) : Host.Outcome State Fault Refusal :=
  s.onDev fun d =>
    let b := d.doBase o
    let x := d.doAt b
    if o < d.classCount clsDO && d.dieLive (dieOf clsDO o) && !x.cmd && x.state != .forcedHigh then
      (((d.setDo b { x with state := .forcedHigh, on := false, readback := true, current := ma }).doMirror b).doFault b).doFaultFloat b
    else d

/-- R164: a current below 2 mA for 100 ms while on. -/
def execOpenLoadSet (o ma : Nat) (s : State) : Host.Outcome State Fault Refusal :=
  s.onDev fun d =>
    let b := d.doBase o
    let x := d.doAt b
    if o < d.classCount clsDO && d.dieLive (dieOf clsDO o) && d.disSet Reg.DO_CFG.OPEN_DETECT b && x.on && x.state = .ok then
      let d1 := d.setDo b { x with state := .openLoad, current := ma }
      (if d.disSet Reg.DO_CFG.REJECT_ALARM b then d1 else d1.doFault b).doFaultFloat b
    else d

/-- R164: a current of 2 mA or more for 100 ms while on. -/
def execOpenLoadClear (o : Nat) (s : State) : Host.Outcome State Fault Refusal :=
  s.onDev fun d =>
    let b := d.doBase o
    let x := d.doAt b
    if o < d.classCount clsDO && d.dieLive (dieOf clsDO o) && x.on && x.state = .openLoad then
      let d1 := d.setDo b { x with state := .ok }
      if d.disSet Reg.DO_CFG.REJECT_ALARM b then d1 else d1.doRecovered b .openLoad
    else d

/-! ### Dark testing (R165, R166) -/

/-- The local outputs of die `k` that a dark test may take, from local DO `n` on: on, with DARK, not the odd half of a pair. -/
def Dev.darkFrom (d : Dev) (k n : Nat) : Option Nat :=
  (List.range 32).find? fun j =>
    let o := globalOf clsDO k j
    n ≤ j && (d.doAt o).on && d.disSet Reg.DO_CFG.DARK o && d.doBase o == o

/-- The next candidate partner of local output `i` under pair test, from local DO `n` on: another output that is on, a paralleled pair once. -/
def Dev.pairFrom (d : Dev) (k i n : Nat) : Option Nat :=
  (List.range 32).find? fun j =>
    let o := globalOf clsDO k j
    n ≤ j && j != i && (d.doAt o).on && d.doBase o == o

/-- A pulse of local output `i` of die `k` begins: it and its paralleled half go off. -/
def Dev.darkOff (d : Dev) (k i : Nat) : Dev :=
  let o := globalOf clsDO k i
  Dev.doCommand (d.setDo o { d.doAt o with dark := true }) o (d.doAt o).cmd

/-- The dark test of local output `i` of die `k` begins with a pulse of 10 ticks. -/
def Dev.darkBegin (d : Dev) (k i : Nat) : Dev :=
  let d1 := d.darkOff k i
  let x := d1.fd k
  d1.setFd k { x with dark := some i, darkPair := none, darkPulse := true, darkAt := x.bounds, darkNext := i + 1, darkOwn := x.darkNow.isSome }

/-- The dies that a DARK_TEST_NOW names. -/
def darkDies (x : Desc) : List Nat := (List.range 2).filter fun k => bitAt (x.byte 16) k

/-- The DARK_TEST_NOW pass of descriptor `id` ends when all its dies have ended theirs (R173). -/
def Dev.darkNowEnd (d : Dev) (id : Nat) : Dev :=
  let ks := (d.rec? id).elim [] fun r => darkDies r.d
  let sum := fun (g : DieSt → Nat) => (ks.map fun k => g (d.fd k)).foldl (· + ·) 0
  if ks.any fun k => (d.fd k).darkDone != some id then d
  else d.done id (sum (·.darkTested) % 2 ^ 16 + 2 ^ 16 * (sum (·.darkFound) % 256))

/-- A test of die `k` is over; one of a DARK_TEST_NOW pass counts. -/
def Dev.darkOver (d : Dev) (k found : Nat) : Dev :=
  let x := d.fd k
  let y := { x with dark := none, darkPair := none, darkPulse := false }
  d.setFd k (if x.darkOwn then { y with darkTested := x.darkTested + 1, darkFound := x.darkFound + found } else y)

/-- An output after its pulse: its command applies again. -/
def Dev.darkRestore (d : Dev) (o : Nat) : Dev :=
  Dev.doCommand (d.setDo o { d.doAt o with dark := false }) o (d.doAt o).cmd

/-- Output `o` becomes CROSS with a partner (R165). -/
def Dev.doCross (d : Dev) (o partner : Nat) : Dev :=
  (((d.setDo o { d.doAt o with state := .cross, partner := partner }).doMirror o).doFault o).doFaultFloat o

/-- Output `o` stays high and finds no partner: FORCED_HIGH and off (R165 step 3). -/
def Dev.darkForced (d : Dev) (o : Nat) : Dev :=
  (((d.setDo o { d.doAt o with state := .forcedHigh, on := false, dark := false }).doMirror o).doFault o).doFaultFloat o

/-- R165: every DARK_INT × 10 ms the next output is pulsed off; not outside RUN (R166), and not beside a DARK_TEST_NOW pass. -/
def execDarkTest (k : Nat) (s : State) : Host.Outcome State Fault Refusal :=
  s.onDev fun d =>
    let x := d.fd k
    if k < 2 && d.dieLive k && x.darkOn && x.state = .run && x.dark = none && x.darkNow = none
      && (x.darkTestAt = 0 || x.darkTestAt + 1000 * x.darkInt ≤ x.bounds) then
      let y := d.setFd k { x with darkTestAt := x.bounds }
      match y.darkFrom k x.darkNext with
      | some i => y.darkBegin k i
      | none => match y.darkFrom k 0 with
        | some i => y.darkBegin k i
        | none => y
    else d

/-- R165: the 10 ticks of a pulse are over; `fell` lists the local outputs whose readback fell in it. An output whose own did not goes on to
the pair test. -/
def execDarkPulseEnd (k : Nat) (fell : List Nat) (s : State) : Host.Outcome State Fault Refusal :=
  s.onDev fun d =>
    let x := d.fd k
    match x.dark with
    | none => d
    | some i =>
      let o := globalOf clsDO k i
      if !d.dieLive k || x.darkPair != none || !x.darkPulse || x.bounds < x.darkAt + 10 then d
      else if fell.contains i then
        let hit := (List.range 32).filter fun j => fell.contains j && (d.doAt (globalOf clsDO k j)).state == .forcedHigh
        let d1 := hit.foldl (fun y j => y.doCross (globalOf clsDO k j) o) (d.darkRestore o)
        d1.darkOver k hit.length
      else match d.pairFrom k i 0 with
        | some j => (d.darkRestore o).setFd k { x with darkPair := some j, darkPulse := false }
        | none => (d.darkForced o).darkOver k 1

/-- R165 step 2: the pulse of the output under test together with a candidate is over; `fell` whether the readback of the first fell in it. -/
def execDarkPairPulse (k : Nat) (fell : Bool) (s : State) : Host.Outcome State Fault Refusal :=
  s.onDev fun d =>
    let x := d.fd k
    match x.dark, x.darkPair with
    | some i, some j =>
      let o := globalOf clsDO k i
      let p := globalOf clsDO k j
      if !d.dieLive k || !x.darkPulse || x.bounds < x.darkAt + 10 then d
      else
        let d1 := (d.darkRestore o).darkRestore p
        if fell then ((d1.doCross o p).doCross p o).darkOver k 2
        else match d1.pairFrom k i (j + 1) with
          | some j2 => d1.setFd k { x with darkPair := some j2, darkPulse := false }
          | none => (d1.darkForced o).darkOver k 1
    | _, _ => d

/-- What a boundary of die `k` in RUN does to dark testing (R165, R166, R173): the next pair pulse 10 ms after the pulse before, the next test of
a DARK_TEST_NOW pass, or its end. -/
def Dev.darkBoundary (d : Dev) (k : Nat) : Dev :=
  let x := d.fd k
  if !(x.state == .run) then d
  else match x.dark, x.darkPair with
    | some i, some j =>
      if x.darkPulse || x.bounds < x.darkAt + 1000 then d
      else
        let d1 := (d.darkOff k i).darkOff k j
        d1.setFd k { d1.fd k with darkPulse := true, darkAt := x.bounds }
    | some _, none => d
    | none, _ => match x.darkNow with
      | none => d
      | some id => match d.darkFrom k x.darkNext with
        | some i => d.darkBegin k i
        | none => Dev.darkNowEnd (d.setFd k { x with darkNow := none, darkDone := some id }) id

/-- Die `k` leaves RUN: no pulse is run (R166). DESIGN CHOICE (log 213): the test under way is begun again in the next RUN where it belongs to a DARK_TEST_NOW pass. -/
def Dev.darkLeave (d : Dev) (k : Nat) : Dev :=
  let x := d.fd k
  match x.dark with
  | none => d
  | some i =>
    let d1 := d.darkRestore (globalOf clsDO k i)
    let d2 := match x.darkPair with
      | some j => d1.darkRestore (globalOf clsDO k j)
      | none => d1
    d2.setFd k { d2.fd k with dark := none, darkPair := none, darkPulse := false, darkNext := i }

/-! ### Outputs in the states of a die (R148 to R150, R170) -/

/-- The DO and FLOAT commands of a frame applied at die `k` (R148). -/
def Dev.applyDio (d : Dev) (k : Nat) (dos : Nat) (floats : List Nat) : Dev :=
  let d1 := (List.range 32).foldl (fun x n =>
    let o := globalOf clsDO k n
    if x.doInFloat o || x.doBase o != o then x
    else x.doCommand o (bitAt dos n)) d
  (List.range 16).foldl (fun x n =>
    let f := globalOf clsFLOAT k n
    if x.disSet Reg.FLOAT_CFG.ENABLE f then x.floatTarget f (floats.getD n 0) else x) d1

/-- A safe drive of FLOAT `f` for 110 % of TRAVEL, through the dead time where it reverses (R170); a pair in FLOAT_FAULT stays off (R169). -/
def Dev.floatSafe (d : Dev) (f : Nat) (dir : FloatDrive) : Dev :=
  let x := d.floatAt f
  if x.fault || x.awaitTarget then d
  else Dev.floatGo (d.setFloat f { x with safe := true, ran := 0, target := if dir = .opening then 200 else 0 }) f dir

/-- The safe values of DO and FLOAT outputs (DO_CFG.SAFE, FLOAT_CFG.SAFE; R148, R170). -/
def Dev.safeDio (d : Dev) (k : Nat) : Dev :=
  let d1 := (List.range 32).foldl (fun (x : Dev) n =>
    let o := globalOf clsDO k n
    if x.doInFloat o || x.doBase o != o then x
    else x.doCommand o (match x.dget Reg.DO_CFG.SAFE o with
      | 0 => false
      | 1 => true
      | _ => (x.doAt o).cmd)) d
  (List.range 16).foldl (fun x n =>
    let f := globalOf clsFLOAT k n
    if !x.disSet Reg.FLOAT_CFG.ENABLE f then x
    else match x.dget Reg.FLOAT_CFG.SAFE f with
      | 1 => x.floatSafe f .opening
      | 2 => x.floatSafe f .closing
      | _ => x.floatHalt f) d1

/-- Status page 0: the load currents (R145). -/
def Dev.page0 (d : Dev) (k : Nat) : List Nat := (List.range 32).map fun n => (d.doAt (globalOf clsDO k n)).current

/-- The state a DO reports: VF24_LOW while its die's supply is low (R149, R180), the even half's in a pair (R161). -/
def Dev.doShown (d : Dev) (o : Nat) : DoState :=
  if (d.fd (dieOf clsDO o)).vf24Low then .vf24Low else (d.doAt (d.doBase o)).state

/-- Status page 1: states and retries, then FLOAT drives, then FLOAT positions (R145). -/
def Dev.page1 (d : Dev) (k : Nat) : List Nat :=
  (List.range 32).map (fun n =>
    let o := globalOf clsDO k n
    (d.doShown o).code + 16 * (d.doAt (d.doBase o)).retries) ++
  (List.range 16).map (fun n => (d.floatAt (globalOf clsFLOAT k n)).drive.code) ++
  (List.range 16).map (fun n => d.floatPos4000 (globalOf clsFLOAT k n))

/-- Page 0 taken by the core die. -/
def Dev.takePage0 (d : Dev) (k : Nat) (p : List Nat) : Dev :=
  (List.range 32).foldl (fun x n => x.put Reg.DO_CUR.CURRENT (globalOf clsDO k n) (p.getD n 0)) d

/-- The value word of FLOAT `f`: its model position in % with FAULT while FLOAT_FAULT is in force and FORCED under R46. DESIGN CHOICE (log 210): the spec
gives the FLOAT object no word of its own; this one follows status page 1. -/
def Dev.floatWord (d : Dev) (f tick : Nat) : VW :=
  mkWord (d.get Reg.FLOAT_POS.POS f) (stVALID + (if d.isSet Reg.FLOAT_STAT.FAULT f then stFAULT else 0)
    + (if (d.forceOf (handle clsFLOAT f)).isSome then stFORCED else 0)) tick

/-- Page 1 taken by the core die; positions go up in steps of 0.025 %. DEDUCED (log 211): FLOAT_STAT.FAULT ends when the pair drives again, which R169
allows only after the fault (R180). -/
def Dev.takePage1 (d : Dev) (k tick : Nat) (p : List Nat) : Dev :=
  let d1 := (List.range 32).foldl (fun x n =>
    let o := globalOf clsDO k n
    (x.put Reg.DO_STAT.STATE o (p.getD n 0 % 8)).put Reg.DO_STAT.RETRIES o (p.getD n 0 / 16)) d
  (List.range 16).foldl (fun (x : Dev) n =>
    let f := globalOf clsFLOAT k n
    let drive := p.getD (32 + n) 0
    let pos := (roundDiv (p.getD (48 + n) 0 * 100 * 65536 : Nat) 4000).toNat
    let y := ((x.put Reg.FLOAT_STAT.DRIVE f drive).put Reg.FLOAT_POS.POS f pos).saveWrite (0x200 + 4 * f) (leBytes 4 pos)
    let z := if drive = 0 then y else y.put Reg.FLOAT_STAT.FAULT f 0
    if z.isSet Reg.FLOAT_CFG.ENABLE f then z.produce (z.name clsFLOAT f) 0 (z.floatWord f tick) else z) d1

/-- The DO states of an up frame: the 2-bit code (R144), and at bit 2 the readback level, which R160 has the core die show
in a fault too (DEDUCED, log 45: no bit of R144 carries it then). -/
def Dev.doStates (d : Dev) (k : Nat) : List Nat :=
  (List.range 32).map fun n =>
    let o := globalOf clsDO k n
    let x := d.doAt o
    let level := if x.readback then 1 else 0
    (if x.dark || (d.doAt (d.doBase o)).dark then 3
      else if d.doShown o != .ok then 2
      else level) + 4 * level

/-- The DO whose status DO `o` shows: the even one of a paralleled pair, by the registers (R161). -/
def Dev.doStatOf (d : Dev) (o : Nat) : Nat := if o % 2 = 1 && d.isSet Reg.DO_CFG.PARALLEL (o - 1) then o - 1 else o

/-- The value word of DO `o` (R160). -/
def Dev.doWord (d : Dev) (o0 tick : Nat) : VW :=
  let o := d.doStatOf o0
  mkWord (if d.isSet Reg.DO_STAT.READBACK o then 65536 else 0)
    (stVALID + (if d.get Reg.DO_STAT.STATE o = 0 then 0 else stFAULT)
      + (if (d.forceOf (handle clsDO o)).isSome then stFORCED else 0)) tick

/-! ### Descriptors (R171 to R174) -/

/-- Whether DO `o` takes no writer and no force: half of a pair or of an enabled FLOAT (R161, R167), by the registers. -/
def Dev.doTaken (d : Dev) (o : Nat) : Bool :=
  d.isSet Reg.FLOAT_CFG.ENABLE (o / 2) || (o % 2 == 1 && d.isSet Reg.DO_CFG.PARALLEL (o - 1))

/-- R172: DIO_FORCE checked and put in the mailbox of its die. -/
def bodyDioForce (id : Nat) (x : Desc) (d : Dev) : Dev :=
  let h := x.u32 16
  let c := classOf h
  let i := indexOf h
  if isNull h || d.badHandle h || !(c == clsDO || c == clsFLOAT) then d.fail id .badObject
  else if c == clsDO && d.doTaken i then d.fail id .badParam
  else if 1 < x.byte 24 then d.fail id .badParam
  else if c == clsDO && !(x.u32 20 == 0 || x.u32 20 == 65536) then d.fail id .badParam
  else if c == clsFLOAT && !(x.u32 20 ≤ 100 * 65536) then d.fail id .badParam
  else d.post (dieOf c i) (.desc id)

/-- The value of a DIO_FORCE in the unit of its down-frame field. -/
def dioForceValue (x : Desc) : Nat :=
  if classOf (x.u32 16) = clsDO then (if x.u32 20 = 65536 then 1 else 0) else (roundDiv (2 * x.u32 20) 65536).toNat

/-- R172: DIO_FORCE at its apply tick. The frame that carries it carries the output's field as the force makes it, so that a die in RUN applies it
in that tick and a die in another state not before it runs again (R148). -/
def Dev.applyDioForce (d : Dev) (id : Nat) (x : Desc) : Dev :=
  (d.setForce (x.u32 16) (if x.byte 24 = 1 then some (dioForceValue x) else none)).done id 0

/-- R172: DO_CLEAR checked and put in the mailbox. -/
def bodyDoClear (id : Nat) (x : Desc) (d : Dev) : Dev :=
  let h := x.u32 16
  if isNull h || !d.isHandle clsDO h then d.fail id .badObject else d.post (dieOf clsDO (indexOf h)) (.desc id)

/-- R172: DO_CLEAR at its apply tick reports the state before it and clears it. -/
def Dev.applyDoClear (d : Dev) (id : Nat) (x : Desc) : Dev :=
  let o := d.doBase (indexOf (x.u32 16))
  let y := d.doAt o
  let z := { y with state := .ok, retries := 0, waiting := false, partner := 0x3F }
  let d1 := (d.setDo o z).doCommand o y.cmd
  (d1.put Reg.DO_STAT.PARTNER o 0x3F).done id (d.doShown o).code

/-- Whether a DARK_TEST_NOW that names die `k` runs. -/
def Dev.darkBusy (d : Dev) (k : Nat) (id : Nat) : Bool :=
  d.recs.any fun r => r.id != id && r.phase == .running && r.d.u16 0 == 0x0303 && (darkDies r.d).contains k

/-- R173: DARK_TEST_NOW checked and sent to the named dies. DESIGN CHOICE (log 203 and 204): a mask of 0 or with further bits completes BAD_PARAM, and a die whose
pass still runs REFUSED_BUSY. -/
def bodyDarkTestNow (id : Nat) (x : Desc) (d : Dev) : Dev :=
  let m := x.byte 16
  let dies := darkDies x
  let on := fun k => if k = 0 then d.isSet Reg.DIO_DARK.EN_A 0 else d.isSet Reg.DIO_DARK.EN_B 0
  if m = 0 || 3 < m then d.fail id .badParam
  else if dies.any (fun k => !d.dieFitted k) then d.fail id .badObject
  else if dies.any (fun k => d.get Reg.FIELD_STAT.OUT_STATE k != 1 || !on k || d.darkBusy k id) then d.fail id .refusedBusy
  else dies.foldl (fun (y : Dev) k => y.post k (.desc id)) d

/-- R173: DARK_TEST_NOW at a die: its pass begins with the lowest output once a periodic test under way is over. -/
def Dev.applyDarkTestNow (d : Dev) (k id : Nat) : Dev :=
  d.setFd k { d.fd k with darkNow := some id, darkTested := 0, darkFound := 0, darkNext := 0 }

/-- R174: FIELD_RESUME. -/
def bodyFieldResume (id : Nat) (x : Desc) (d : Dev) : Dev :=
  let k := x.byte 16
  if 1 < k then d.fail id .badParam
  else if !d.dieFitted k then d.fail id .badObject
  else if (if k = 0 then d.isSet Reg.GLOBAL_FAULT_STAT.STOPPED_A 0 else d.isSet Reg.GLOBAL_FAULT_STAT.STOPPED_B 0) then
    d.fail id .refusedBusy
  else if !((d.fd k).state == .safe) then d.done id 0
  else Dev.post { d with resumes := d.resumes ++ [{ id := id, die := k, since := (d.fd k).bounds, taken := false }] } k (.desc id)

/-- R151: FIELD_RESUME at the apply tick of the frame that carries it. -/
def Dev.applyFieldResume (d : Dev) (id k : Nat) : Dev :=
  let x := d.fd k
  if x.state = .safe then
    Dev.setFd { d with resumes := d.resumes.map fun o => if o.id = id then { o with taken := true } else o } k
      { x with resumeEnabled := true, goodRun := if d.disSet Reg.FIELD_CFG.AUTO_RECOVER k then x.goodRun else 0 }
  else Dev.done { d with resumes := d.resumes.filter fun o => o.id != id } id 0

/-- The running FIELD_RESUME descriptors of die `k`. -/
def Dev.resumesOf (d : Dev) (k : Nat) : List Rec :=
  d.recs.filter fun r => r.phase == .running && r.d.u16 0 == 0x0304 && r.d.byte 16 == k

/-- R174: R151 was not met within 100 ms of the start of the earliest FIELD_RESUME of the die; recovery stays enabled while one that the die has
taken still waits. -/
def execFieldResumeTimeout (k : Nat) (s : State) : Host.Outcome State Fault Refusal :=
  s.onDev fun d =>
    if d.dieLive k && k < 2 then
      match d.resumes.find? (fun o => o.die == k) with
      | none => d
      | some r =>
        if r.since + 10000 ≤ (d.fd k).bounds then
          let rest := d.resumes.filter fun o => o.id != r.id
          let d1 := Dev.fail { d with resumes := rest } r.id .timeout
          d1.setFd k { d1.fd k with resumeEnabled := (d1.fd k).resumeEnabled && rest.any (fun o => o.die == k && o.taken) }
        else d
    else d

/-- R172. -/
def execDioForce (q : Nat) (x : Desc) (s : State) : Host.Outcome State Fault Refusal :=
  s.onDev fun d => d.submit q x 0x0301 [(16, 9)] bodyDioForce

/-- R172. -/
def execDoClear (q : Nat) (x : Desc) (s : State) : Host.Outcome State Fault Refusal :=
  s.onDev fun d => d.submit q x 0x0302 [(16, 4)] bodyDoClear

/-- R173. -/
def execDarkTestNow (q : Nat) (x : Desc) (s : State) : Host.Outcome State Fault Refusal :=
  s.onDev fun d => d.submit q x 0x0303 [(16, 1)] bodyDarkTestNow

/-- R174. -/
def execFieldResume (q : Nat) (x : Desc) (s : State) : Host.Outcome State Fault Refusal :=
  s.onDev fun d => d.submit q x 0x0304 [(16, 1)] bodyFieldResume

end Sys2Proof.Machine
end

