-- ==== Sys2Proof/Machine/Operands.lean ====
section
/-! DEFINITION. How the fields of operands and registers are turned into quantities: coefficient words, sensor linearisation, ranges (R14, R94 to R102). -/

namespace Sys2Proof.Machine
open Sys2Proof

/-- `x` times the coefficient word (c, s), rounded (R14, R12). -/
def coefMul (x c : Int) (s : Nat) : Int := roundShift (x * c) (29 + s)

/-- Whether a 32-bit field holds a c within the span of Q2.29 (R14). -/
def coefOk (v : Nat) : Bool :=
  let c := signedOf 32 v
  0 ≤ c + 2 ^ 30 && c < 2 ^ 30

/-- A Q16.16 number from a decimal in hundredths. -/
def q16Hundredths (n : Int) : Int := roundDiv (n * 65536) 100

/-- Fraction bits of the logarithm below. -/
def lnBits : Nat := 48

/-- The fraction bits of log2 of `y / 2^60`, `y` in [2^60, 2^61), by repeated squaring. -/
def log2Frac : Nat → Nat → Nat
  | 0, _ => 0
  | n + 1, y =>
    let z := y * y / 2 ^ 60
    if 2 ^ 61 ≤ z then 2 ^ n + log2Frac n (z / 2) else log2Frac n z

/-- log2 of `num / den` in units of 2^-48, for positive numbers. -/
def log2Ratio (num den : Nat) : Int :=
  let q := num * 2 ^ 120 / max 1 den
  let e := Nat.log2 (max 1 q)
  let y := if 60 ≤ e then q / 2 ^ (e - 60) else q * 2 ^ (60 - e)
  ((e : Int) - 120) * 2 ^ lnBits + (log2Frac lnBits y : Int)

/-- ln 2 in units of 2^-60. -/
def ln2Q60 : Int := 799144290325165979

/-- ln of `num / den` in units of 2^-48. -/
def lnRatio (num den : Nat) : Int := roundShift (log2Ratio num den * ln2Q60) 60

/-- The temperature of an NTC of resistance `r` (ohms, units of 2^-16) and B value, in Q16.16 °C (R95). -/
def ntcTemp (r beta : Nat) : Int :=
  -- 1/T = 1/298.15 + ln(R/10000)/B, all over 298.15 * B * 2^48
  let ln := lnRatio (max 1 r) (10000 * 65536)
  let den : Int := 100 * (beta : Int) * 2 ^ lnBits + 29815 * ln
  if den ≤ 0 then 1000 * 65536
  else roundDiv ((29815 * (beta : Int) * 2 ^ lnBits * 100 - 27315 * den) * 65536) (100 * den)

/-- 10^22 times the PT1000 resistance ratio R / 1000 at `t` (Q16.16 °C), over 2^64 (IEC 60751; R95). -/
def ptRatio (t : Int) : Int :=
  let s : Int := 65536
  let base := 10 ^ 22 * s ^ 4 + 39083 * 10 ^ 15 * t * s ^ 3 - 5775 * 10 ^ 12 * t ^ 2 * s ^ 2
  if 0 ≤ t then base else base - 4183 * 10 ^ 7 * (t - 100 * s) * t ^ 3

/-- The largest `t` in [lo, lo + 2^n) whose PT1000 resistance is not above `r` (ohms, units of 2^-16). -/
def ptSearch (r : Nat) : Nat → Int → Int
  | 0, lo => lo
  | n + 1, lo =>
    let mid := lo + 2 ^ n
    if ptRatio mid * 1000 * 65536 ≤ (r : Int) * 10 ^ 22 * 65536 ^ 4 then ptSearch r n mid else ptSearch r n lo

/-- The temperature of a PT1000 of resistance `r`, in Q16.16 °C to the nearest step. -/
def ptTemp (r : Nat) : Int :=
  let t := ptSearch r 25 (-(64 * 65536))
  let want := (r : Int) * 10 ^ 22 * 65536 ^ 4
  if want - ptRatio t * 1000 * 65536 < ptRatio (t + 1) * 1000 * 65536 - want then t else t + 1

/-- The resistance of ratio `x / 2^30` against the 10 kΩ reference, in units of 2^-16 Ω (R96); a ratio of 1 stands for an open input. -/
def ratioOhms (x : Int) : Nat :=
  let y := (clampInt 0 (2 ^ 30 - 1) x).toNat
  (10000 * 65536 * y + (2 ^ 30 - y) / 2) / (2 ^ 30 - y)

/-- Mode codes of R94. -/
def modeOFF : Nat := 0
def modeNTC : Nat := 1
def modePT : Nat := 2
def modeV10 : Nat := 3
def modeMA20 : Nat := 4
def modeRES : Nat := 5
def modeCONTACT : Nat := 6

/-- The measuring range of a mode, Q16.16 in its unit (R94). -/
def modeRange (mode : Nat) : Int × Int :=
  match mode with
  | 1 => (-40 * 65536, 120 * 65536)
  | 2 => (-50 * 65536, 200 * 65536)
  | 3 => (q16Hundredths (-50), q16Hundredths 1024)
  | 4 => (0, 24 * 65536)
  | 5 => (0, 100 * 65536)
  | _ => (0, 65536)

/-- Which fault threshold the input passes: 0 none, 1 open, 2 short, 3 below 3.60 mA, 4 above 21.00 mA (R94, R133). The input
is in ohms, or milliamperes for MA20, in units of 2^-16. -/
def modeFault (mode : Nat) (input : Int) : Nat :=
  match mode with
  | 1 => if 1000000 * 65536 < input then 1 else if input < 50 * 65536 then 2 else 0
  | 2 => if 5000 * 65536 < input then 1 else if input < 500 * 65536 then 2 else 0
  | 4 => if input < q16Hundredths 360 then 3 else if q16Hundredths 2100 < input then 4 else 0
  | 5 => if 150000 * 65536 < input then 1 else 0
  | _ => 0

/-- A resistive quantity in its unit (R95). -/
def resistive (mode beta : Nat) (ohms : Nat) : Int :=
  match mode with
  | 1 => ntcTemp ohms beta
  | 2 => ptTemp ohms
  | _ => roundDiv ohms 1000

/-- The quantity of R101 step 3 with its CLAMPED mark: `x` the calibrated input of R102 at gain 1, `g` the gain. -/
def scaled (mode beta g : Nat) (x : Int) : Int × Bool :=
  let r := modeRange mode
  match mode with
  | 3 | 4 =>
    let y := roundDiv x g
    let lo := roundDiv r.1 g
    let hi := roundDiv r.2 g
    (clampInt lo hi y, y < lo || hi < y)
  | _ =>
    let y := roundDiv x g
    let top := roundDiv (2 ^ 30) g
    let v := resistive mode beta (ratioOhms (min y top))
    (clampInt r.1 r.2 v, top < y || v < r.1 || r.2 < v)

/-- The state of CONTACT for an input in ohms (R94, R96): kept between the thresholds. -/
def contactNow (input : Int) (prev : Nat) : Nat :=
  if input < 1000 * 65536 then 1 else if 10000 * 65536 < input then 0 else prev

/-- The value and status of a UI conversion before the user correction (R98, R101, R102): FAULT and the range limit on the
side of the threshold passed, MA20 its current. -/
def uiResult (mode beta g : Nat) (x input : Int) (prev : Nat) : Int × Nat :=
  let r := modeRange mode
  let f := modeFault mode input
  if mode = 6 then ((contactNow input prev : Int) * 65536, stVALID)
  else
    let y := scaled mode beta g x
    if f = 0 then (y.1, stVALID + (if y.2 then stCLAMPED else 0))
    else if mode = 4 then (y.1, stFAULT + (if y.2 then stCLAMPED else 0))
    else
      let side := if f = 1 then (if mode = 1 then r.1 else r.2) else (if mode = 1 then r.2 else r.1)
      let top := roundDiv (2 ^ 30) g
      let lim := if f = 1 && 1 < g then clampInt r.1 r.2 (resistive mode beta (ratioOhms top)) else side
      (lim, stFAULT + stCLAMPED)

end Sys2Proof.Machine
end

