-- ==== Sys2Proof/Machine/FanAo.lean ====
section
/-! DEFINITION. Fans and analogue outputs (10_fans_analogue_floating.md). -/

namespace Sys2Proof.Machine
open Sys2Proof

/-! ### Fans -/

/-- A fan in STARTUP (R392): OFF, its output released. -/
def FanSt.init : FanSt :=
  { state := .off, retries := 0, cause := 0, cmd := 0, edges := [], kicks := 0, edgeSeen := false, before := 0, since := 0
    period := 8000, released := 8000 }

/-- Fan `f`. -/
def Dev.fanAt (d : Dev) (f : Nat) : FanSt := Map.get d.fans f FanSt.init

/-- Fan `f` set. -/
def Dev.setFan (d : Dev) (f : Nat) (x : FanSt) : Dev := { d with fans := Map.set d.fans f x FanSt.init }

/-- Fan `f` enters a state now. -/
def Dev.fanTo (d : Dev) (f : Nat) (st : FanState) : Dev :=
  d.setFan f { d.fanAt f with state := st, since := (d.fd (dieOf clsFAN f)).bounds }

/-- Whether fan `f` has been in its state for `n` ticks of its die. -/
def Dev.fanFor (d : Dev) (f n : Nat) : Bool := decide ((d.fanAt f).since + n ≤ (d.fd (dieOf clsFAN f)).bounds)

/-- Whether fan `f` is in the part and its die works. -/
def Dev.fanHere (d : Dev) (f : Nat) : Bool := f < d.classCount clsFAN && d.dieLive (dieOf clsFAN f)

/-- State codes of R384. -/
def FanState.code : FanState → Nat
  | .off => 0 | .kick => 1 | .run => 2 | .backoff => 3 | .failed => 4 | .tachLost => 5

/-- Whether die `k` holds its fans released and its AOs at 0 V (R379, R392). -/
def Dev.fansDead (d : Dev) (k : Nat) : Bool := (d.fd k).state == .startup || (d.fd k).vf24Low

/-- What a fan is driven with, in 0.01 %: its effective command (R377), 100 % in a kick, 0 in the other states (R384). -/
def Dev.fanEffective (d : Dev) (f : Nat) : Nat :=
  let x := d.fanAt f
  match x.state with
  | .kick => 10000
  | .run | .tachLost => if x.cmd = 0 then 0 else max x.cmd (d.dget Reg.FAN_CMD_B.MIN_CMD f)
  | _ => 0

/-- The PWM pin of fan `f` as its state now asks (R378, R379). -/
def Dev.fanDrive (d : Dev) (f : Nat) : Dev :=
  let p := (roundDiv 200000 (max 1 (d.dget Reg.FAN_TIMING.PWM_FREQ f))).toNat
  let duty := (roundDiv (d.fanEffective f * p : Nat) 10000).toNat
  let r := if d.fansDead (dieOf clsFAN f) || !d.disSet Reg.FAN_CFG.PWM_EN f then p
    else if d.disSet Reg.FAN_CFG.INVERT f then p - duty else duty
  d.setFan f { d.fanAt f with period := p, released := r }

/-- Whether no edge of fan `f` has come for the lost interval of R382, by sample `now` of its die's clock. -/
def Dev.fanSilent (d : Dev) (f now : Nat) : Bool :=
  match (d.fanAt f).edges with
  | [] => true
  | [a] => decide (a + 40000000 ≤ now)
  | a :: b :: _ => decide (a + max (4 * (a - b)) 40000000 ≤ now)

/-- The pulse frequency of fan `f` in 0.1 Hz (R381, R382). -/
def Dev.fanFreq (d : Dev) (f : Nat) : Nat :=
  let ppr := d.dget Reg.FAN_TIMING.PPR f
  let es := (d.fanAt f).edges
  if !d.disSet Reg.FAN_CFG.TACH f || es.length ≤ ppr || d.fanSilent f (d.fd (dieOf clsFAN f)).clock then 0
  else min 0xFFFF (roundDiv (10 * 200000000 * ppr : Nat) (max 1 (es.getD 0 0 - es.getD ppr 0) : Nat)).toNat

/-- The speed in rpm, Q16.16, of a pulse frequency in 0.1 Hz (R381). -/
def fanRpm (f10 ppr : Nat) : Int := roundDiv (6 * f10 * 65536 : Nat) (max 1 ppr : Nat)

/-- The current of a fan's supply DO for an event: 0xFFFF without one (R397). -/
def Dev.fanSupply (d : Dev) (f ma : Nat) : Nat := if d.dget Reg.FAN_DIAG.SUPPLY_DO f = 0x3F then 0xFFFF else ma

/-- FAN_FAILED (R397). -/
def Dev.fanFailedEvent (d : Dev) (f : Nat) (on : Bool) (cause ma : Nat) : Dev :=
  d.dieRaise (dieOf clsFAN f) 0x0901 (handle clsFAN f) ([if on then 1 else 0, cause] ++ leBytes 2 (d.fanSupply f ma))

/-- TACH_LOST (R397). -/
def Dev.tachLostEvent (d : Dev) (f : Nat) (on : Bool) (cause ma : Nat) : Dev :=
  d.dieRaise (dieOf clsFAN f) 0x0902 (handle clsFAN f)
    ([if on then 1 else 0, cause] ++ leBytes 2 (d.fanSupply f ma) ++ leBytes 4 (d.fanAt f).before)

/-- A failed kick or a stall: BACKOFF with one more retry, or FAILED when the retries were 3 (R384, R385). -/
def Dev.fanRetry (d : Dev) (f cause ma : Nat) : Dev :=
  let x := d.fanAt f
  if x.retries < 3 then
    (Dev.fanTo (d.setFan f { x with retries := x.retries + 1 }) f .backoff).dieRaise (dieOf clsFAN f) 0x0903 (handle clsFAN f)
      [x.retries + 1, cause]
  else (d.fanTo f .failed).fanFailedEvent f true cause ma

/-- A fan enters KICK. -/
def Dev.fanKick (d : Dev) (f : Nat) : Dev := Dev.fanTo (d.setFan f { d.fanAt f with kicks := 0 }) f .kick

/-- R384: KICK_TIME has elapsed without two edges. -/
def execKickTimeout (f : Nat) (s : State) : Host.Outcome State Fault Refusal :=
  s.onDev fun d =>
    let x := d.fanAt f
    if !(d.fanHere f && x.state == .kick && 0 < x.cmd && d.fanFor f (10000 * d.dget Reg.FAN_TIMING.KICK_TIME f)) || 2 ≤ x.kicks then d
    else if !d.disSet Reg.FAN_CFG.TACH f then (d.fanTo f .run).fanDrive f
    else (d.fanRetry f 1 0xFFFF).fanDrive f

/-- R384: the backoff of 5 s, 10 s or 20 s has elapsed. -/
def execBackoffExpiry (f : Nat) (s : State) : Host.Outcome State Fault Refusal :=
  s.onDev fun d =>
    let x := d.fanAt f
    if d.fanHere f && x.state == .backoff && 0 < x.cmd && d.fanFor f (250000 * 2 ^ x.retries) then (d.fanKick f).fanDrive f else d

/-- R381, R384: a filtered falling edge at sample `t` of the tick. -/
def execTachEdge (f t : Nat) (s : State) : Host.Outcome State Fault Refusal :=
  s.onDev fun d =>
    let x := d.fanAt f
    if !(d.fanHere f && d.disSet Reg.FAN_CFG.TACH f) then d
    else d.setFan f { x with
      edges := (((d.fd (dieOf clsFAN f)).clock + t) :: x.edges).take 9
      kicks := if x.state = .kick then min 2 (x.kicks + 1) else x.kicks
      edgeSeen := x.state == .tachLost }

/-- Whether the supply DO of a fan tells its current: named, on, without fault or force (R385). -/
def Dev.fanSupplyTells (d : Dev) (f : Nat) : Bool :=
  let n := d.dget Reg.FAN_DIAG.SUPPLY_DO f
  let o := globalOf clsDO (dieOf clsFAN f) n
  n < 32 && (d.doAt (d.doBase o)).on && d.doShown o == .ok && (d.forceOf (handle clsDO o)).isNone

/-- R382, R385: no edge for T_lost, which ends in this tick; `ma` is the supply DO's mean current over the last 100 ms. -/
def execTachLost (f ma : Nat) (s : State) : Host.Outcome State Fault Refusal :=
  s.onDev fun d =>
    if !(d.fanHere f && d.disSet Reg.FAN_CFG.TACH f && d.fanSilent f ((d.fd (dieOf clsFAN f)).clock + 1999)) then d
    else
      let x := d.fanAt f
      let y := { x with edges := [], before := bitsOf 32 (saturate 32 (fanRpm (d.fanFreq f) (d.dget Reg.FAN_TIMING.PPR f))) }
      if !(x.state == .run) then d.setFan f { y with before := x.before }
      else
        let cause := if !d.fanSupplyTells f then 0
          else if ma < d.dget Reg.FAN_DIAG.RUN_MIN f then 3
          else if d.dget Reg.FAN_DIAG.RUN_MAX f < ma then 2 else 1
        let d1 := (d.setFan f { y with cause := cause, edgeSeen := false }).tachLostEvent f true cause ma
        let d2 := match cause with
          | 2 => d1.fanRetry f 2 ma
          | 3 => (d1.fanTo f .failed).fanFailedEvent f true 3 ma
          | _ => d1.fanTo f .tachLost
        d2.fanDrive f

/-- R384: 60 s in RUN. -/
def execFanRun60s (f : Nat) (s : State) : Host.Outcome State Fault Refusal :=
  s.onDev fun d =>
    let x := d.fanAt f
    if d.fanHere f && x.state == .run && d.fanFor f 6000000 then d.setFan f { x with retries := 0 } else d

/-- Fan `f` goes to OFF: a latched failure or a lost tachometer is reported as left (R397), the latter not where a command of 0 meets an edge (R384). -/
def Dev.fanOff (d : Dev) (f : Nat) (quiet : Bool) : Dev :=
  let x := d.fanAt f
  if x.state = .off then d
  else
    let d1 := d.fanTo f .off
    match x.state with
    | .failed => d1.fanFailedEvent f false 0 0xFFFF
    | .tachLost => if quiet then d1 else d1.tachLostEvent f false x.cause 0xFFFF
    | _ => d1

/-- What a boundary does to fan `f` on the command it then holds (R384). -/
def Dev.fanBoundary (d : Dev) (f : Nat) : Dev :=
  let x := d.fanAt f
  let k := dieOf clsFAN f
  let d1 :=
    if d.fansDead k then
      let d0 := d.fanOff f false
      d0.setFan f { d0.fanAt f with retries := if (d.fd k).vf24Low then 0 else x.retries }
    else if x.cmd = 0 then
      let d0 := if x.state = .failed then d else d.fanOff f x.edgeSeen
      d0.setFan f { d0.fanAt f with retries := 0 }
    else match x.state with
      | .off => if d.disSet Reg.FAN_CFG.KICK f then d.fanKick f else d.fanTo f .run
      | .kick => if 2 ≤ x.kicks then d.fanTo f .run else d
      | .tachLost =>
        if x.edgeSeen then (Dev.fanTo (d.setFan f { x with edgeSeen := false }) f .run).tachLostEvent f false x.cause 0xFFFF
        else d
      | _ => d
  d1.fanDrive f

/-! ### Analogue outputs -/

/-- An analogue output in STARTUP. -/
def AoSt.init : AoSt := { cmd := 0, mv := 0, readback := 0, overload := false }

/-- AO `a`. -/
def Dev.aoAt (d : Dev) (a : Nat) : AoSt := Map.get d.aos a AoSt.init

/-- AO `a` set. -/
def Dev.setAo (d : Dev) (a : Nat) (x : AoSt) : Dev := { d with aos := Map.set d.aos a x AoSt.init }

/-- Whether AO `a` is in the part and its die works. -/
def Dev.aoHere (d : Dev) (a : Nat) : Bool := a < d.classCount clsAO && d.dieLive (dieOf clsAO a)

/-- V0 and V1 of a range in mV (R389). -/
def aoRange (code : Nat) : Int × Int :=
  match code with
  | 0 => (0, 10000) | 1 => (2000, 10000) | 2 => (10000, 0) | _ => (0, 5000)

/-- The mark that stands for an AO at 0 V whatever its range (R391, restore code 2). -/
def aoOff : Nat := 0x3FFF

/-- The voltage in mV of a command in 0.01 % (R376, R389). -/
def aoVolts (range cmd : Nat) : Nat :=
  let r := aoRange range
  if cmd = aoOff then 0 else (r.1 + roundDiv ((min 10000 cmd : Nat) * (r.2 - r.1)) 10000).toNat

/-- The fan that AO `a` is linked to at its die (R380). -/
def Dev.aoFan (d : Dev) (a : Nat) : Option Nat :=
  let k := dieOf clsAO a
  ((List.range 16).map (globalOf clsFAN k)).find? fun f => d.dget Reg.FAN_CFG.AO_LINK f == localOf clsAO a

/-- AO `a` driven as its die now stands (R380, R392). -/
def Dev.aoDrive (d : Dev) (a : Nat) : Dev :=
  let x := d.aoAt a
  let cmd := match d.aoFan a with
    | some f => d.fanEffective f
    | none => x.cmd
  d.setAo a { x with mv := if d.fansDead (dieOf clsAO a) then 0 else aoVolts (d.dget Reg.AO_CFG.RANGE a) cmd }

/-- AO_FAULT (R397). -/
def Dev.aoFaultEvent (d : Dev) (a : Nat) (on : Bool) : Dev :=
  let x := d.aoAt a
  d.dieRaise (dieOf clsAO a) 0x0904 (handle clsAO a) ([if on then 1 else 0, 0] ++ leBytes 2 x.readback ++ leBytes 2 x.mv)

/-- R390: the readback `mv` has differed from the set voltage by more than 200 mV for 100 ms. -/
def execAoOverload (a mv : Nat) (s : State) : Host.Outcome State Fault Refusal :=
  s.onDev fun d =>
    let x := d.aoAt a
    if d.aoHere a && !x.overload && 200 < (max mv x.mv) - (min mv x.mv) then
      (d.setAo a { x with overload := true, readback := mv }).aoFaultEvent a true
    else d

/-- R390: the readback `mv` has been within 200 mV for 100 ms. -/
def execAoOverloadClear (a mv : Nat) (s : State) : Host.Outcome State Fault Refusal :=
  s.onDev fun d =>
    let x := d.aoAt a
    if d.aoHere a && x.overload && (max mv x.mv) - (min mv x.mv) ≤ 200 then
      (d.setAo a { x with overload := false, readback := mv }).aoFaultEvent a false
    else d

/-! ### Frames, states and pages of a die (R376, R391, R392, R394) -/

/-- The FAN and AO commands of a frame applied at die `k`. -/
def Dev.applyFanAo (d : Dev) (k : Nat) (fans aos : List Nat) : Dev :=
  let d1 := (List.range 16).foldl (fun (x : Dev) n =>
    let f := globalOf clsFAN k n
    x.setFan f { x.fanAt f with cmd := min 10000 (fans.getD n 0) }) d
  (List.range 16).foldl (fun (x : Dev) n =>
    let a := globalOf clsAO k n
    x.setAo a { x.aoAt a with cmd := aos.getD n 0 }) d1

/-- The safe values of FAN and AO outputs of die `k` (R391). -/
def Dev.safeFanAo (d : Dev) (k : Nat) : Dev :=
  let d1 := (List.range 16).foldl (fun (x : Dev) n =>
    let f := globalOf clsFAN k n
    let y := x.fanAt f
    let c := match x.dget Reg.FAN_CFG.SAFE f with
      | 0 => 0 | 1 => y.cmd | 2 => 10000 | _ => min 10000 (x.dget Reg.FAN_CMD_B.SAFE_CMD f)
    x.setFan f { y with cmd := c }) d
  (List.range 16).foldl (fun (x : Dev) n =>
    let a := globalOf clsAO k n
    let y := x.aoAt a
    let c := match x.dget Reg.AO_CFG.SAFE a with
      | 0 => 0 | 1 => y.cmd | _ => x.dget Reg.AO_SAFE.VALUE a
    x.setAo a { y with cmd := c }) d1

/-- The fan state changes of a boundary of die `k` on the commands now held, and its AOs driven (R384, R392). -/
def Dev.fanAoDriven (d : Dev) (k : Nat) : Dev :=
  (List.range 16).foldl (fun x n => x.aoDrive (globalOf clsAO k n)) ((List.range 16).foldl (fun x n => x.fanBoundary (globalOf clsFAN k n)) d)

/-- The boundary of die `k`: fan state changes, the outputs driven, and the AO readbacks of this boundary (R384, R390). -/
def Dev.fanAoBoundary (d : Dev) (k : Nat) (aoMv : List (Nat × Nat)) : Dev :=
  let d1 := (List.range 16).foldl (fun x n => x.fanBoundary (globalOf clsFAN k n)) d
  (List.range 16).foldl (fun (x : Dev) n =>
    let a := globalOf clsAO k n
    let y := x.aoDrive a
    let v := y.aoAt a
    match aoMv.find? (fun p => p.1 == n) with
    | some p => y.setAo a { v with readback := p.2 }
    | none => y.setAo a { v with readback := if v.overload then v.readback else v.mv }) d1

/-- Status page 2: frequencies, then state bytes (R394). -/
def Dev.page2 (d : Dev) (k : Nat) : List Nat :=
  (List.range 16).map (fun n => d.fanFreq (globalOf clsFAN k n)) ++
  (List.range 16).map (fun n =>
    let x := d.fanAt (globalOf clsFAN k n)
    x.state.code + 8 * x.retries + 32 * x.cause)

/-- R629: a fan's state as page 2 shows it: KICK seen begins a spin-up, RUN after it ends one. -/
def Dev.noteSpin (d : Dev) (f tick st : Nat) : Dev :=
  let x := Map.get d.fit.spins f { since := none, longest := 0, kicks := 0 }
  let y : FitSpin := match x.since with
    | none => if st = 1 then { x with since := some tick } else x
    | some t =>
      if st = 1 then x
      else if st = 2 then { since := none, longest := max x.longest (tick - t), kicks := x.kicks + 1 }
      else { x with since := none }
  { d with fit := { d.fit with spins := Map.set d.fit.spins f y { since := none, longest := 0, kicks := 0 } } }

/-- Page 2 taken by the core die, which builds the FAN value words (R381 to R383). -/
def Dev.takePage2 (d : Dev) (k tick : Nat) (l : List Nat) : Dev :=
  (List.range 16).foldl (fun (x0 : Dev) n =>
    let x := x0.noteSpin (globalOf clsFAN k n) tick (l.getD (16 + n) 0 % 8)
    let f := globalOf clsFAN k n
    let b := l.getD (16 + n) 0
    let st := b % 8
    let x := if st = 1 && x.get Reg.FAN_STAT.STATE f != 1 then x.saveCount (0x610 + 4 * f) else x
    let v := fanRpm (l.getD n 0) (x.get Reg.FAN_TIMING.PPR f)
    let w := mkWord (saturate 32 v) ((if x.isSet Reg.FAN_CFG.TACH f then stVALID else 0)
      + (if st = 4 || st = 5 then stFAULT else 0) + (if (x.forceOf (handle clsFAN f)).isSome then stFORCED else 0)
      + (if saturate 32 v = v then 0 else stCLAMPED)) tick
    ((((x.put Reg.FAN_STAT.STATE f st).put Reg.FAN_STAT.RETRIES f (b / 8 % 4)).put Reg.FAN_STAT.LOSS_CAUSE f (b / 32 % 4)).put
      Reg.FAN_VAL.VALUE f w.bits).produce (x.name clsFAN f) 0 w) d

/-- The AO part of page 4: readbacks, then OVERLOAD marks (R390). -/
def Dev.aoPage (d : Dev) (k : Nat) : List Nat :=
  (List.range 16).map (fun n => (d.aoAt (globalOf clsAO k n)).readback) ++
  (List.range 16).map (fun n => if (d.aoAt (globalOf clsAO k n)).overload then 1 else 0)

/-- That part taken by the core die, which builds the AO value words (R390). -/
def Dev.takeAoPage (d : Dev) (k tick : Nat) (l : List Nat) : Dev :=
  (List.range 16).foldl (fun (x : Dev) n =>
    let a := globalOf clsAO k n
    let mv := l.getD n 0
    let beyond := l.getD (16 + n) 0
    let r := aoRange (x.get Reg.AO_CFG.RANGE a)
    let span := r.2 - r.1
    let v := roundDiv (100 * 65536 * ((mv : Int) - r.1) * span.sign) (span.natAbs : Nat)
    let w := mkWord (saturate 32 v) (stVALID + (if beyond = 1 then stFAULT else 0)
      + (if (x.forceOf (handle clsAO a)).isSome then stFORCED else 0)) tick
    ((x.put Reg.AO_STAT.READBACK a mv).put Reg.AO_STAT.OVERLOAD a beyond).produce (x.name clsAO a) 0 w) d

/-! ### Commands at the core die (R375, R386 to R388) -/

/-- A command in 0.01 % from a Q16.16 percentage (R375, R376). -/
def percentUnits (v : Int) : Nat := (clampInt 0 10000 (roundDiv (100 * v) 65536)).toNat

/-- The temperature that the curve of fan `f` takes, and whether it takes the hottest (R387). -/
def Dev.curveTemp (d : Dev) (f : Nat) : Int × Bool :=
  let src := d.get Reg.FAN_TSRC.SOURCE f
  let hot : Int :=
    if d.isLocal src && classOf src = clsUI && (d.get Reg.UI_MODE.MODE (indexOf src) = modeNTC
        || d.get Reg.UI_MODE.MODE (indexOf src) = modePT) then (modeRange (d.get Reg.UI_MODE.MODE (indexOf src))).2
    else signedOf 32 (d.get Reg.FAN_THI.THI f)
  match d.value? src 0 with
  | none => (hot, true)
  | some w => if w.has stFAULT || !w.has stVALID then (hot, true) else (w.val, false)

/-- The curve command at a temperature (R386); a source taken as hottest gives CMD_HI (R387). -/
def Dev.curveCmd (d : Dev) (f : Nat) (t : Int) (hot : Bool) : Nat :=
  let lo := signedOf 32 (d.get Reg.FAN_TLO.TLO f)
  let hi := signedOf 32 (d.get Reg.FAN_THI.THI f)
  let cl : Int := d.get Reg.FAN_CMD_A.CMD_LO f
  let ch : Int := d.get Reg.FAN_CMD_A.CMD_HI f
  if hot || hi ≤ t then ch.toNat
  else if t ≤ lo then cl.toNat
  else (cl + roundDiv ((t - lo) * (ch - cl)) (hi - lo)).toNat

/-- The command that the next down frame carries for fan `f` under the force it carries, with CURVE_HOT and FAN_SENSOR_HOT as they become
(R386 to R388): without a writer the curve alone. -/
def Dev.fanCommand (d : Dev) (f : Nat) (force : Option Nat) : Nat × Dev :=
  let h := handle clsFAN f
  let src := d.get Reg.FAN_TSRC.SOURCE f
  let c := d.curveTemp f
  let curved := !isNull src
  let hot := if curved && c.2 then 1 else 0
  let d0 := if curved then d.touchValue src 0 8 else d
  let d1 := if hot = d.get Reg.FAN_STAT.CURVE_HOT f then d0
    else (d0.put Reg.FAN_STAT.CURVE_HOT f hot).raiseLimited 0x0905 (d.name clsFAN f) d.tick hot ([hot, 0, 0, 0] ++ leBytes 4 src)
  let v := match force with
    | some x => x
    | none =>
      if !curved then d.commandOf h
      else if d.writerOf h = 0 then d.curveCmd f c.1 c.2
      else max (d.commandOf h) (d.curveCmd f c.1 c.2)
  (v, d1.put Reg.FAN_STAT.APPLIED f v)

/-- Whether AO `a` is linked to a fan by the registers (R380). -/
def Dev.aoLinked (d : Dev) (a : Nat) : Bool :=
  (List.range 16).any fun n => d.get Reg.FAN_CFG.AO_LINK (globalOf clsFAN (dieOf clsAO a) n) == localOf clsAO a

/-! ### Descriptors (R395, R396) -/

/-- R395, R396: FANAO_FORCE checked and put in the mailbox. -/
def bodyFanaoForce (id : Nat) (x : Desc) (d : Dev) : Dev :=
  let h := x.u32 16
  let c := classOf h
  if isNull h || !(d.isHandle clsFAN h || d.isHandle clsAO h) then d.fail id .badObject
  else if 1 < x.byte 24 || 100 * 65536 < x.u32 20 || (c == clsAO && d.aoLinked (indexOf h)) then d.fail id .badParam
  else d.post (dieOf c (indexOf h)) (.desc id)

/-- R395: FANAO_FORCE at its apply tick: the frame that carries it carries the output's field as the force makes it. -/
def Dev.applyFanaoForce (d : Dev) (id : Nat) (x : Desc) : Dev :=
  (d.setForce (x.u32 16) (if x.byte 24 = 1 then some (percentUnits (x.u32 20)) else none)).done id 0

/-- R395: FAN_CLEAR checked and put in the mailbox. -/
def bodyFanClear (id : Nat) (x : Desc) (d : Dev) : Dev :=
  let h := x.u32 16
  if isNull h || !d.isHandle clsFAN h then d.fail id .badObject else d.post (dieOf clsFAN (indexOf h)) (.desc id)

/-- R395, R396: FAN_CLEAR at its apply tick. -/
def Dev.applyFanClear (d : Dev) (id : Nat) (x : Desc) : Dev :=
  let f := indexOf (x.u32 16)
  let y := d.fanAt f
  let d1 := if y.state = .failed then d.fanOff f false else d
  let d2 := d1.setFan f { d1.fanAt f with retries := 0 }
  d2.done id (y.state.code + 256 * y.retries)

/-- R395. -/
def execFanaoForce (q : Nat) (x : Desc) (s : State) : Host.Outcome State Fault Refusal :=
  s.onDev fun d => d.submit q x 0x0901 [(16, 9)] bodyFanaoForce

/-- R395. -/
def execFanClear (q : Nat) (x : Desc) (s : State) : Host.Outcome State Fault Refusal :=
  s.onDev fun d => d.submit q x 0x0902 [(16, 4)] bodyFanClear

/-! ### Register writes (R380, R398, R399) -/

/-- Whether a write of `v` to a FANAO register at offset `off` of element `i` meets the rules that span fields. -/
def Dev.fanWriteOk (d : Dev) (off i v : Nat) : Bool :=
  if off = Reg.FAN_CFG.PWM_EN.addr i then
    let l := bitsAt v 8 5
    let h := handle clsAO (globalOf clsAO (dieOf clsFAN i) l)
    l == 0x1F || l == d.get Reg.FAN_CFG.AO_LINK i || (d.writerOf h == 0 && (d.forceOf h).isNone)
  else if off = Reg.FAN_DIAG.SUPPLY_DO.addr i then bitsAt v 8 12 < bitsAt v 20 12
  else if off = Reg.FAN_TSRC.SOURCE.addr i then isNull v || !d.badName v
  else if off = Reg.FAN_TLO.TLO.addr i then signedOf 32 v < signedOf 32 (d.get Reg.FAN_THI.THI i)
  else if off = Reg.FAN_THI.THI.addr i then signedOf 32 (d.get Reg.FAN_TLO.TLO i) < signedOf 32 v
  else true

/-- Whether a FANAO register acts in the core die instead of reaching the field die by the mailbox (R398). -/
def fanCoreReg (off i : Nat) : Bool :=
  off == Reg.FAN_TSRC.SOURCE.addr i || off == Reg.FAN_TLO.TLO.addr i || off == Reg.FAN_THI.THI.addr i
    || off == Reg.FAN_CMD_A.CMD_LO.addr i

end Sys2Proof.Machine
end

