-- ==== Sys2Proof/Machine/Global.lean ====
section
/-! DEFINITION. Register writes by their access types, the GLOBAL registers, the scrubber and BAR4 (00_scope.md, 01_architecture.md). -/

namespace Sys2Proof.Machine
open Sys2Proof

/-! ### Writing (R15 to R17, R52, R64 to R67) -/

/-- Whether the device is sealed (R64). -/
def Dev.isSealed (d : Dev) : Bool := d.isSet Reg.GLOBAL_SEAL.SEAL 0

/-- Whether a host write sets a field of this type now (R15). -/
def Dev.writable (d : Dev) (f : Fld) : Bool := f.ty == .rw || (f.ty == .rws && !d.isSealed)

/-- Whether every field that the write sets stays within its stated values. -/
def Dev.inRange (d : Dev) (fs : List Fld) (v : Nat) : Bool :=
  fs.all fun f => !d.writable f || f.ok (bitsAt v f.lo f.width)

/-- One field written by its access type (R15). -/
def Dev.writeFld (d : Dev) (f : Fld) (i v : Nat) : Dev :=
  let x := bitsAt v f.lo f.width
  if d.writable f then d.put f i x
  else if f.ty = .w1c && x = 1 then d.put f i 0
  else d

/-- Every field of a register written by its access type; the record of a register with retained fields is then to be
committed (R15, R557). -/
def Dev.writeFlds (d : Dev) (fs : List Fld) (i v : Nat) : Dev :=
  let d1 := fs.foldl (fun x f => x.writeFld f i v) d
  match fs with
  | [] => d1
  | f :: _ => if fs.any (fun g => g.ret && d.writable g) then d1.markHost (f.addr i) else d1

/-- R57: a write of GLOBAL_BLSEL. -/
def Dev.writeBlsel (d : Dev) (v : Nat) : Dev :=
  let req := bitsAt v 0 8
  let d1 := if bitAt v 17 then d.put Reg.GLOBAL_BLSEL.BL_WRITE_REJECTED 0 0 else d
  if d.isSealed then d1
  else if req = d.get Reg.GLOBAL_BLSEL.BL_REQ 0 then d1
  else if req = 0 || d.part.stepping.blMax < req then d1.put Reg.GLOBAL_BLSEL.BL_WRITE_REJECTED 0 1
  else d1.putHost Reg.GLOBAL_BLSEL.BL_REQ 0 req

/-- R57. -/
def execBlReqWrite (v : Nat) (s : State) : Host.Outcome State Fault Refusal :=
  s.onDev fun d => d.hostReg 0x0C v fun x => x.writeBlsel v

/-- OWNER_STATE codes of R64. -/
def ownManufactured : Nat := 0
def ownOwned : Nat := 1
def ownSealed : Nat := 2

/-- R65: a write of GLOBAL_SEAL. -/
def Dev.writeSeal (d : Dev) (v : Nat) : Dev :=
  let d1 := if bitAt v 16 then d.put Reg.GLOBAL_SEAL.SEAL_REFUSED 0 0 else d
  if !bitAt v 0 || d.isSealed then d1
  else if d.get Reg.GLOBAL_SEAL.OWNER_STATE 0 = ownOwned then
    (d1.putHost Reg.GLOBAL_SEAL.SEAL 0 1).putHost Reg.GLOBAL_SEAL.OWNER_STATE 0 ownSealed
  else d1.put Reg.GLOBAL_SEAL.SEAL_REFUSED 0 1

/-- R65. -/
def execSealWrite (v : Nat) (s : State) : Host.Outcome State Fault Refusal :=
  s.onDev fun d => d.hostReg 0x14 v fun x => x.writeSeal v

/-- R68: a read of GLOBAL_TICK_LO: the whole count of its instant goes out, of which a 32-bit read carries the low half and the 64-bit read that
begins there all, and its high half is latched. -/
def execTickLoRead (s : State) : Host.Outcome State Fault Refusal :=
  s.onDev fun d =>
    if !d.hostOpen then d
    else
      let d1 := if d.frozen then d else { d with tickLatch := d.tick / 2 ^ 32 % 2 ^ 32 }
      d1.emit (.readData (d.tick % 2 ^ 64) false)

/-- R69: a write of GLOBAL_MEMERR_CLR. -/
def Dev.writeMemerrClr (d : Dev) (v : Nat) : Dev :=
  let d1 := if bitAt v 0 then d.put Reg.GLOBAL_MEMERR.CORRECTED 0 0 else d
  if bitAt v 1 then d1.put Reg.GLOBAL_MEMERR.UNCORRECTABLE 0 0 else d1

/-- R69. -/
def execClrCorrected (s : State) : Host.Outcome State Fault Refusal :=
  s.onDev fun d => d.hostReg 0x24 1 fun x => x.writeMemerrClr 1

/-- R69. -/
def execClrUncorrectable (s : State) : Host.Outcome State Fault Refusal :=
  s.onDev fun d => d.hostReg 0x24 2 fun x => x.writeMemerrClr 2

/-! ### Scrubber (R32) and BAR4 (R33, R34, R53, R683, R685) -/

/-- Whether a scrubber read is due: one in every 16 ticks (R32), at the ticks divisible by 16. -/
def Dev.scrubDue (d : Dev) : Bool := d.live && d.tick % 16 == 0 && d.scrubAt != d.tick + 1

/-- R32: one scrubber read; `upset` are the wrong bits that the stored code word has gained. -/
def execScrubRead (upset : Nat) (s : State) : Host.Outcome State Fault Refusal :=
  s.onDev fun d =>
    if d.scrubDue then
      { ((d.upset [(d.scrub, upset)]).readWord d.scrub 7).2 with scrub := (d.scrub + 1) % memWords, scrubAt := d.tick + 1 }
    else d

/-- The end of the shared memory in BAR4 (R53). -/
def bar4End : Nat := 0xC00000

/-- One word of a BAR4 read: its bytes, 0xFF each when uncorrectable, and whether it is poisoned (R33). While frozen the
word is only decoded (R683). -/
def Dev.bar4Word (d : Dev) (w : Nat) : (List Nat × Bool) × Dev :=
  if d.frozen then
    match decodeErr (Map.get d.memErr w 0) with
    | .clean e | .corrected e => ((xorBytes (wordBytes d.mem w) e, false), d)
    | .uncorrectable => ((List.replicate 32 0xFF, true), d)
  else
    match d.readWord w 5 with
    | (some bs, d1) => ((bs, false), d1)
    | (none, d1) => ((List.replicate 32 0xFF, true), d1)

/-- The bytes of `n` words from word `w`, each with its poison mark. -/
def Dev.bar4Words (d : Dev) (w : Nat) : Nat → List (Nat × Bool) × Dev
  | 0 => ([], d)
  | n + 1 =>
    if memWords ≤ w then (List.replicate (32 * (n + 1)) (0, false), d)
    else
      let r := d.bar4Word w
      let t := r.2.bar4Words (w + 1) n
      (r.1.1.map (fun b => (b, r.1.2)) ++ t.1, t.2)

/-- R33, R53, R683, R685: a read of `len` bytes through BAR4. -/
def execBar4Read (off len : Nat) (upsets : List (Nat × Nat)) (s : State) : Host.Outcome State Fault Refusal :=
  s.onDev fun d =>
    if !d.hostOpen || len = 0 || 2 ^ 24 < off + len then d
    else if d.frozen && d.get Reg.GLOBAL_SEAL.OWNER_STATE 0 = ownSealed && !d.isSet Reg.DBG_CFG.RO_OPEN 0 then
      (d.put Reg.DBG_STAT.RO_DENIED 0 1).emit (.readBytes (List.replicate len (0, false)))
    else
      let r := (d.upset upsets).bar4Words (off / 32) ((off + len - 1) / 32 + 1 - off / 32)
      r.2.emit (.readBytes ((r.1.drop (off % 32)).take len))

end Sys2Proof.Machine
end

