-- ==== Sys2Proof/Machine/Meas.lean ====
section
/-! DEFINITION. Universal inputs and converters (03_measurement.md). -/

namespace Sys2Proof.Machine
open Sys2Proof

/-! ### Converters -/

/-- A converter at its die's power-up. -/
def ConvSt.init : ConvSt :=
  { powered := false, passing := false, visit := none, made := 0, remain := 0, last := none, started := 0
    lastEntry := 0, paired := false, queue := [], urgent := none, calibrating := false, calQueued := false
    calCause := 0, capturing := false, dropped := 0, passAt := 0, passOwed := false, burst := 0, calSince := 0 }

/-- Converter `c`. -/
def Dev.conv (d : Dev) (c : Nat) : ConvSt := Map.get d.meas.convs c ConvSt.init

/-- Converter `c` set. -/
def Dev.setConv (d : Dev) (c : Nat) (x : ConvSt) : Dev :=
  { d with meas := { d.meas with convs := Map.set d.meas.convs c x ConvSt.init } }

/-- The field die of converter `c`. -/
def convDie (c : Nat) : Nat := c / 4

/-- Boundaries that the die of converter `c` has counted since its power-up. -/
def Dev.convBounds (d : Dev) (c : Nat) : Nat := (d.fd (convDie c)).bounds

/-- Whether converter `c` is in the part (R135). -/
def Dev.convHere (d : Dev) (c : Nat) : Bool := c < 8 && d.dieFitted (convDie c)

/-- Whether converter `c` is the odd half of a joined pair (R124). -/
def Dev.oddOfPair (d : Dev) (c : Nat) : Bool := c % 2 == 1 && (d.conv (c - 1)).paired

/-- OSR of an OSR code (R136). -/
def osrOf (code : Nat) : Nat := 4 ^ code

/-- Gain of a gain code (R136). -/
def gainOf (code : Nat) : Nat := 2 ^ code

/-- Whether a handle names a UI or INTL channel of field die `k` (R107). -/
def Dev.dieChannel (d : Dev) (k h : Nat) : Bool :=
  h < 2 ^ 20 && (classOf h == clsUI || classOf h == clsINTL) && indexOf h < d.classCount (classOf h)
    && dieOf (classOf h) (indexOf h) == k

/-- The mode of a UI in force at its front end (R99). -/
def Dev.uiMode (d : Dev) (u : Nat) : Nat := d.dget Reg.UI_MODE.MODE u

/-- Whether a channel is a UI whose mode in force is OFF (R731). -/
def Dev.channelOff (d : Dev) (h : Nat) : Bool := classOf h == clsUI && d.uiMode (indexOf h) == modeOFF

/-- The gain that counts for R108: INTL channels always convert at gain 1 (R103). -/
def countedGain (h gainCode : Nat) : Nat := if classOf h = clsINTL then 0 else gainCode

/-- The number of invalid outputs of R108. -/
def invalidCount (last : Option (Nat × Nat × Nat)) (ch gain osr : Nat) : Nat :=
  match last with
  | none => if osr = 0 then 1 else 3
  | some (c0, g0, o0) =>
    let c := if c0 = ch then 0 else if osr = 0 then 1 else 3
    let f := if o0 = osr then 0 else 3
    let g := if g0 = gain then 0 else 1
    max c f + g

/-- The invalid outputs after a front end has switched (R99): c as for a channel change, f and g against the output before. -/
def reopenCount (last : Option (Nat × Nat × Nat)) (gain osr : Nat) : Nat :=
  let c := if osr = 0 then 1 else 3
  match last with
  | none => c
  | some (_, g0, o0) => max c (if o0 = osr then 0 else 3) + (if g0 = gain then 0 else 1)

/-- The next entry from `e` on that converts: not NULL, not a UI that is OFF (R104, R731). -/
def Dev.nextEntry (d : Dev) (c e last : Nat) : Option Nat :=
  (List.range 64).find? fun j =>
    let h := d.get Reg.ENTRY_A.CHANNEL (64 * c + j)
    e ≤ j && j ≤ last && h != 0 && !d.channelOff h

/-- The visit of entry `e` with the settings it has now (R104, R106). -/
def Dev.visitOf (d : Dev) (c e : Nat) : Visit :=
  let i := 64 * c + e
  let outs := d.get Reg.ENTRY_A.OUTS i
  { entry := e, ch := d.get Reg.ENTRY_A.CHANNEL i, gain := d.get Reg.ENTRY_A.GAIN i, osr := d.get Reg.ENTRY_A.OSR i
    outs := if outs = 0 then 16 else outs }

/-- A visit begins, its invalid outputs counted against the preceding conversion (R108). -/
def Dev.beginVisit (d : Dev) (c : Nat) (v : Visit) : Dev :=
  let x := d.conv c
  d.setConv c { x with visit := some v, made := 0, remain := invalidCount x.last v.ch (countedGain v.ch v.gain) v.osr
                       started := d.convBounds c }

/-- The visit that something interrupted restarts from its acquisition, with a full count (R114, R117). -/
def Dev.restartVisit (d : Dev) (c : Nat) : Dev :=
  match (d.conv c).visit with
  | some v => d.beginVisit c v
  | none => d

/-- A pass start of converter `c` takes a change of PAIR (R124): while joined the odd converter's sequence does not run. -/
def Dev.joinPair (d : Dev) (c : Nat) : Dev :=
  let x := d.conv c
  let pair := d.isSet Reg.CONV_CTRL.PAIR c
  if c % 2 = 1 || pair = x.paired then d
  else
    let o := d.conv (c + 1)
    (d.setConv (c + 1) { o with last := none, passing := o.passing && !pair, visit := if pair then none else o.visit }).setConv c
      { x with paired := pair, last := none }

/-- Entry 0 and what follows it is visited, LAST and PAIR as they stand now; false when no entry converts (R104, R105, R106, R124). -/
def Dev.beginPass (d : Dev) (c : Nat) : Bool × Dev :=
  let d1 := d.joinPair c
  let last := d1.get Reg.CONV_CTRL.LAST c
  let x := d1.conv c
  match d1.nextEntry c 0 last with
  | some e =>
    (true, (d1.setConv c { x with powered := true, passing := true, lastEntry := last, last := if x.powered then x.last else none }).beginVisit c
      (d1.visitOf c e))
  | none => (false, d1)

/-- A pass ends (R104, R105): the converter powers down when passes have an interval; otherwise the next pass begins at
once, unless no entry converts. -/
def Dev.endPass (d : Dev) (c : Nat) (again : Bool) : Dev :=
  let d1 := d.wrapUp Reg.PASS_COUNT.PASSES c
  let stop := fun (y : Dev) =>
    let x := y.conv c
    y.setConv c { x with passing := false, visit := none, powered := y.get Reg.CONV_CTRL.PASS_INT c = 0 && x.powered }
  if again && d.get Reg.CONV_CTRL.PASS_INT c = 0 && d.isSet Reg.CONV_CTRL.RUN c then
    ((stop d1).beginPass c).2
  else stop d1

/-- Whether a pass of converter `c` falls due now: the first, or PASS_INT boundaries after the one before; with PASS_INT 0 at the next boundary (R105). -/
def Dev.passDue (d : Dev) (c : Nat) : Bool :=
  let x := d.conv c
  x.passAt == 0 || decide (x.passAt + max 1 (d.get Reg.CONV_CTRL.PASS_INT c) ≤ d.convBounds c + 1)

/-- R105: a pass falls due: the converter powers up if it was down and visits its first entry; a pass still running is an
overrun, and the next begins at the first boundary after its end. -/
def execPassStart (c : Nat) (s : State) : Host.Outcome State Fault Refusal :=
  s.onDev fun d =>
    let x := d.conv c
    let due := d.passDue c
    let now := d.convBounds c + 1
    if !(d.convHere c && d.dieLive (convDie c)) || d.oddOfPair c || !d.isSet Reg.CONV_CTRL.RUN c then d
    else if x.passing then
      if d.get Reg.CONV_CTRL.PASS_INT c = 0 || !due then d
      else
        let d1 := (d.setConv c { x with passAt := now, passOwed := true }).bump Reg.OVERRUN_COUNT.OVERRUNS c 0xFFFF
        d1.dieRaise (convDie c) 0x0203 0 ([c, 0, 0, 0] ++ leBytes 4 (d1.get Reg.OVERRUN_COUNT.OVERRUNS c))
    else if x.calibrating || !(due || x.passOwed) then d
    else
      let d1 := d.setConv c { x with passAt := if due then now else x.passAt, passOwed := false }
      match d1.beginPass c with
      | (true, y) => y
      | (false, d2) => (d2.setConv c { d2.conv c with passing := true, powered := true }).endPass c false

/-! ### Forming outputs (R97 to R103, R109 to R111) -/

/-- R101 step 2: the calibrated code of converter `c`, in units of 2^-16 LSB, with its CLAMPED mark (R13). While no calibration has ever
committed, CAL_GAIN is 0 and the factory trim factors stand in (R119). -/
def Dev.calibrated (d : Dev) (c : Nat) (code : Int) : Int × Bool :=
  let g := d.get Reg.CAL_GAIN.GAIN c
  let ofs := if g = 0 then (Config.trimOfs c).toNat else d.get Reg.CAL_OFS.OFS c
  let gain := if g = 0 then (Config.trimGain c).toNat else g
  let y := roundShift ((code * 65536 - signedOf 32 ofs) * signedOf 32 gain) 29
  (saturate 32 y, saturate 32 y != y)

/-- R101 step 4: the user correction of a UI, with its CLAMPED mark (R13). -/
def Dev.corrected (d : Dev) (u : Nat) (v : Int) : Int × Bool :=
  let y := coefMul v (signedOf 32 (d.dget Reg.UI_GAIN.C u)) (d.dget Reg.UI_GAIN_SH.S u) + signedOf 32 (d.get Reg.UI_OFS.OFS u)
  (saturate 32 y, saturate 32 y != y)

/-- Whether the burden resistor of UI `u` is disconnected (R97). -/
def Dev.disconnected (d : Dev) (u : Nat) : Bool := Map.get d.meas.disconnected u 0 != 0

/-- The value and status of one output of converter `c` for a channel and gain code (R101 to R103): an INTL channel in its own unit. -/
def Dev.outputOf (d : Dev) (c ch gain : Nat) (code input : Int) : Int × Nat :=
  let cal := d.calibrated c code
  let clamp := fun (b : Bool) => if b then stCLAMPED else 0
  if classOf ch = clsINTL then
    let x := Config.inputOf (8 + localOf clsINTL (indexOf ch)) cal.1
    (saturate 32 x, stVALID + clamp (cal.2 || saturate 32 x != x))
  else
    let u := indexOf ch
    if d.uiMode u = modeMA20 && d.disconnected u then (24 * 65536, stFAULT + stCLAMPED)
    else
      let m := d.uiMode u
      let r := uiResult m (d.dget Reg.UI_MODE.BETA u) (gainOf gain) (Config.inputOf m cal.1) input (Map.get d.meas.contact u 0)
      let y := d.corrected u r.1
      (y.1, Nat.lor r.2 (clamp (cal.2 || y.2)))

/-- The cause byte of UI_FAULT (R133). -/
def Dev.uiFaultCause (d : Dev) (u : Nat) (input : Int) : Nat :=
  if d.disconnected u then 5 else modeFault (d.uiMode u) input

/-- The latest word of a channel or slot at its die. -/
def Dev.measWord (d : Dev) (h : Nat) : Option VW := Map.get d.meas.words h none

/-- A word put for a channel or slot, its stamp still to come at the next latch (R111). -/
def Dev.putMeas (d : Dev) (h : Nat) (w : VW) : Dev :=
  { d with meas := { d.meas with words := Map.set d.meas.words h (some w) none
                                 fresh := if d.meas.fresh.contains h then d.meas.fresh else d.meas.fresh ++ [h] } }

/-- UI_FAULT where a UI word passes into or out of FAULT (R133, R134). DESIGN CHOICE (log 201): the cause byte is 0 when the fault is left. -/
def Dev.uiFaultEvent (d : Dev) (ch : Nat) (was now : Bool) (v : Int) (cause : Nat) : Dev :=
  if classOf ch = clsUI && was != now then
    d.dieRaise (dieOf clsUI (indexOf ch)) 0x0201 ch ([if now then 1 else 0, if now then cause else 0, 0, 0] ++ leBytes 4 (bitsOf 32 v))
  else d

/-- Whether the word of a channel has FAULT set. -/
def Dev.inFault (d : Dev) (ch : Nat) : Bool :=
  match d.measWord ch with
  | some w => w.has stFAULT
  | none => false

/-- A channel's output without SETTLING becomes its UI or INTL word; UI_FAULT on a change of FAULT (R110, R134). -/
def Dev.updateChannel (d : Dev) (ch : Nat) (v : Int) (status cause slotP1 : Nat) : Dev :=
  let d1 := d.putMeas ch (mkWord v status 0)
  let d2 := { d1 with meas := { d1.meas with source := Map.set d1.meas.source ch slotP1 0 } }
  d2.uiFaultEvent ch (d.inFault ch) (status / stFAULT % 2 == 1) v cause

/-- The state of a CONTACT input as its latest valid conversion finds it (R96). DESIGN CHOICE (log 198): open before the first, and kept over changes of mode. -/
def Dev.keepContact (d : Dev) (ch : Nat) (input : Int) : Dev :=
  if classOf ch = clsUI && d.uiMode (indexOf ch) = modeCONTACT then
    { d with meas := { d.meas with
      contact := Map.set d.meas.contact (indexOf ch) (contactNow input (Map.get d.meas.contact (indexOf ch) 0)) 0 } }
  else d

/-- One output written into slot `n` at its die (R104, R109). DESIGN CHOICE (log 202): its tick field is 0 until the latch. -/
def Dev.writeSlot (d : Dev) (n : Nat) (v : Int) (status remain : Nat) : Dev :=
  let d1 := d.putMeas (handle clsMSLOT n) (mkWord v status 0)
  { d1 with meas := { d1.meas with
    slotAt := Map.set d1.meas.slotAt n ((d1.fd (dieOf clsMSLOT n)).bounds + 1) 0
    remains := Map.set d1.meas.remains n remain 0 } }

/-- Whether boundary count `t` lies within 50 µs after the front end of a UI switched (R99). -/
def Dev.inSwitchWindow (d : Dev) (ch t : Nat) : Bool :=
  classOf ch == clsUI &&
    (let at_ := Map.get d.meas.modeAt (indexOf ch) 0
     at_ != 0 && at_ - 1 ≤ t && t < at_ - 1 + 5)

/-- Converter `c` owes the switched front end of a channel no new count any more (R99). -/
def Dev.countOpened (d : Dev) (c ch : Nat) : Dev :=
  { d with meas := { d.meas with reopen := d.meas.reopen.filter fun p => !(p == (c, ch)) } }

/-- The visit after the one of entry `e`: the next entry's, the end of the pass, or the end of the sequence (R104 to R106). -/
def Dev.nextVisit (d : Dev) (c e : Nat) : Dev :=
  let x := d.conv c
  if !d.isSet Reg.CONV_CTRL.RUN c then d.setConv c { x with passing := false, visit := none }
  else match d.nextEntry c (e + 1) x.lastEntry with
    | some j => d.beginVisit c (d.visitOf c j)
    | none => d.endPass c true

/-- The visit after one more output. -/
def Dev.afterOutput (d : Dev) (c : Nat) (v : Visit) : Dev := if (d.conv c).made < v.outs then d else d.nextVisit c v.entry

/-- Whether converter `c` makes sequence outputs: not while it calibrates, captures its burst, serves an urgent request, or is the odd half of
a pair (R114, R117, R124, R127). -/
def Dev.converts (d : Dev) (c : Nat) : Bool :=
  let x := d.conv c
  d.convHere c && d.dieLive (convDie c) && x.passing && !x.calibrating && x.burst ≤ d.convBounds c && x.urgent == none && !d.oddOfPair c

/-- R101, R108 to R110: one output of the visit in progress. -/
def execConverterOutput (c : Nat) (code input : Int) (s : State) : Host.Outcome State Fault Refusal :=
  s.onDev fun d =>
    let x := d.conv c
    if !d.converts c then d
    else match x.visit with
      | none => d
      | some v =>
        if d.channelOff v.ch then d.nextVisit c v.entry
        else
          let n := 64 * c + v.entry
          let r := d.outputOf c v.ch v.gain code input
          let window := d.inSwitchWindow v.ch x.started
          let owed := !window && d.meas.reopen.contains (c, v.ch)
          let remain := if window then 15 else if owed then reopenCount x.last (countedGain v.ch v.gain) v.osr else x.remain
          let d1 := if owed then d.countOpened c v.ch else d
          let d2 := d1.setConv c { x with made := x.made + 1, last := some (v.ch, countedGain v.ch v.gain, v.osr)
                                          remain := if window then x.remain - 1 else remain - 1, started := d.convBounds c }
          let d3 :=
            if 0 < remain then d2.writeSlot n r.1 (Nat.lor (r.2 - r.2 % 2) stSETTLING) remain
            else ((d2.writeSlot n r.1 r.2 0).keepContact v.ch input).updateChannel v.ch r.1 r.2
              (if classOf v.ch = clsUI then d.uiFaultCause (indexOf v.ch) input else 0) (n + 1)
          d3.afterOutput c v

/-- R111: slot `n` has had no new output for STALE_TICKS: it is sent with STALE until its next output. DESIGN CHOICE (log 197): so is the word of a channel
that the slot updated last. -/
def execSlotStale (n : Nat) (s : State) : Host.Outcome State Fault Refusal :=
  s.onDev fun d =>
    let h := handle clsMSLOT n
    let k := dieOf clsMSLOT n
    let limit := d.get Reg.CONV_STALE.STALE_TICKS (n / 64)
    let age := (d.fd k).bounds + 1 - max 1 (Map.get d.meas.slotAt n 0)
    if !(n < d.classCount clsMSLOT && d.dieLive k) || limit = 0 || age < limit then d
    else
      let w := (d.measWord h).getD (mkWord 0 0 0)
      let m := Map.set d.meas.words h (some (w.mark stSTALE)) none
      let ch := d.get Reg.ENTRY_A.CHANNEL n
      let m2 := match Map.get m ch none with
        | some u => if Map.get d.meas.source ch 0 = n + 1 then Map.set m ch (some (u.mark stSTALE)) none else m
        | none => m
      { d with meas := { d.meas with words := m2 } }

/-- R97: an overcurrent disconnects the burden resistor; the word carries 24.00 mA with FAULT and CLAMPED. -/
def execMa20Disconnect (u : Nat) (s : State) : Host.Outcome State Fault Refusal :=
  s.onDev fun d =>
    let k := dieOf clsUI u
    if u < d.classCount clsUI && d.dieLive k && d.uiMode u = modeMA20 && !d.disconnected u then
      let d1 := { d with meas := { d.meas with disconnected := Map.set d.meas.disconnected u ((d.fd k).bounds + 1) 0 } }
      d1.updateChannel (handle clsUI u) (24 * 65536) (stFAULT + stCLAMPED) 5 (Map.get d.meas.source (handle clsUI u) 0)
    else d

/-- R97: after 1 s the resistor is reconnected. -/
def execMa20Reconnect (u : Nat) (s : State) : Host.Outcome State Fault Refusal :=
  s.onDev fun d =>
    if d.disconnected u && Map.get d.meas.disconnected u 0 + 100000 ≤ (d.fd (dieOf clsUI u)).bounds + 1 then
      { d with meas := { d.meas with disconnected := Map.set d.meas.disconnected u 0 0 } }
    else d

/-! ### Urgent requests (R113 to R116) -/

/-- How many urgent requests a converter queues at the level in force (R60, R113). -/
def Dev.urgentDepth (d : Dev) : Nat := if 2 ≤ d.bl then 6 else 4

/-- The place of an origin in the queue (R113). -/
def UrgentOrigin.rank : UrgentOrigin → Nat
  | .loop _ => 0 | .node _ => 1 | .host _ => 2

/-- A request put behind those of its own and of earlier origins (R113). -/
def queueUrgent : List Urgent → Urgent → List Urgent
  | [], u => [u]
  | v :: t, u => if v.origin.rank ≤ u.origin.rank then v :: queueUrgent t u else u :: v :: t

/-- A loop or pattern request that is dropped at the die: counted and reported (R116). -/
def Dev.dropUrgent (d : Dev) (c : Nat) (o : UrgentOrigin) : Dev :=
  let x := d.conv c
  let d1 := d.setConv c { x with dropped := x.dropped + 1 }
  match o with
  | .loop l => d1.dieRaise (convDie c) 0x0205 (handle clsLOOP l) ([c, 0, 0, 0] ++ leBytes 4 (x.dropped + 1))
  | .node n => d1.dieRaise (convDie c) 0x0205 (handle clsNODE n) ([c, 0, 0, 0] ++ leBytes 4 (x.dropped + 1))
  | .host _ => d1

/-- Whether converter `c` turns a request away: it calibrates, or its queue is full (R116). -/
def Dev.urgentFull (d : Dev) (c : Nat) : Bool := (d.conv c).calibrating || decide (d.urgentDepth ≤ (d.conv c).queue.length)

/-- A request put into the queue of converter `c`. -/
def Dev.putUrgent (d : Dev) (c : Nat) (u : Urgent) : Dev := d.setConv c { d.conv c with queue := queueUrgent (d.conv c).queue u }

/-- A loop or pattern request sent to the die of its converter. -/
def Dev.askUrgent (d : Dev) (c : Nat) (u : Urgent) : Dev := d.post (convDie c) (.urgent c u)

/-- A loop or pattern request at the die (R113): none for a UI that is OFF (R731), dropped when the converter calibrates or its queue is full. -/
def Dev.issueUrgent (d : Dev) (c : Nat) (u : Urgent) : Dev :=
  if d.channelOff u.ch then d
  else if d.urgentFull c then d.dropUrgent c u.origin
  else d.putUrgent c u

/-- R131, R132: MEAS_URGENT checked and sent to its die. -/
def bodyMeasUrgent (id : Nat) (x : Desc) (d : Dev) : Dev :=
  let c := x.byte 16
  if 7 < c then d.fail id .badParam
  else if !d.convHere c then d.fail id .badObject
  else if c % 2 = 1 && d.isSet Reg.CONV_CTRL.PAIR (c - 1) then d.fail id .badParam
  else if 4 < x.byte 17 || 5 < x.byte 18 then d.fail id .badParam
  else if !d.dieChannel (convDie c) (x.u32 20) then d.fail id .badObject
  else d.post (convDie c) (.desc id)

/-- R116, R731: MEAS_URGENT at its die. -/
def Dev.applyMeasUrgent (d : Dev) (id : Nat) (x : Desc) : Dev :=
  let c := x.byte 16
  let u : Urgent := { origin := .host id, ch := x.u32 20, gain := x.byte 17, osr := x.byte 18, acq := x.byte 19 }
  if d.oddOfPair c || d.channelOff u.ch then d.fail id .badParam
  else if d.urgentFull c then d.fail id .refusedBusy
  else d.putUrgent c u

/-- R131. -/
def execMeasUrgent (q : Nat) (x : Desc) (s : State) : Host.Outcome State Fault Refusal :=
  s.onDev fun d => d.submit q x 0x0202 [(16, 8)] bodyMeasUrgent

/-- Whether an urgent conversion of converter `c` has made its valid output and waits for the latch (R117). -/
def Dev.latching (d : Dev) (c : Nat) : Bool := d.meas.urgentDone.any fun u => u.conv == c

/-- The converter of die `k` whose calibration is due now: the lowest that waits while none calibrates (R117). -/
def Dev.calNext (d : Dev) (k : Nat) : Option Nat :=
  if (List.range 4).any (fun j => (d.conv (4 * k + j)).calibrating) then none
  else ((List.range 4).find? fun j => (d.conv (4 * k + j)).calQueued).map fun j => 4 * k + j

/-- R114: the head of the queue is taken; the conversion in progress is aborted. A converter whose calibration is due takes none (R117). -/
def execUrgentHead (c : Nat) (s : State) : Host.Outcome State Fault Refusal :=
  s.onDev fun d =>
    let x := d.conv c
    if !(d.convHere c && d.dieLive (convDie c)) || x.urgent != none || x.calibrating || d.calNext (convDie c) == some c
      || decide (d.convBounds c < x.burst) then d
    else match x.queue with
      | [] => d
      | u :: t =>
        d.setConv c { x with queue := t, urgent := some u, powered := true, last := if x.powered then x.last else none, started := d.convBounds c }

/-- Whether converter `c` goes down when an urgent conversion or a burst ends outside a pass (R115). DESIGN CHOICE (log 200): one that RUN = 0 has stopped in
continuous passes stays powered until then. -/
def Dev.urgentPowerDown (x : ConvSt) : ConvSt :=
  if x.passing || !x.queue.isEmpty then x else { x with powered := false }

/-- R114: the first valid output of an urgent conversion updates its channel; the request ends at the latch of it. None is valid within 50 µs
after the channel's front end has switched (R99). -/
def execUrgentValidOutput (c : Nat) (code input : Int) (s : State) : Host.Outcome State Fault Refusal :=
  s.onDev fun d =>
    let x := d.conv c
    match x.urgent with
    | none => d
    | some u =>
      if !(d.convHere c && d.dieLive (convDie c)) || d.channelOff u.ch || d.inSwitchWindow u.ch (d.convBounds c) then d
      else
        let r := d.outputOf c u.ch u.gain code input
        let host := match u.origin with
          | .host id => some id
          | _ => none
        let out : UrgentOut := { id := host, conv := c, ch := u.ch, word := mkWord r.1 r.2 0, was := d.measWord u.ch
                                 wasSource := Map.get d.meas.source u.ch 0 }
        let d1 := (d.countOpened c u.ch).setConv c (Dev.urgentPowerDown { x with urgent := none, last := some (u.ch, countedGain u.ch u.gain, u.osr) })
        let d2 := (d1.keepContact u.ch input).updateChannel u.ch r.1 r.2 (if classOf u.ch = clsUI then d.uiFaultCause (indexOf u.ch) input else 0) 0
        Dev.restartVisit { d2 with meas := { d2.meas with urgentDone := d2.meas.urgentDone ++ [out] } } c

/-- An urgent conversion in progress ends without a valid output: it is the conversion that the restarted entry is counted against (R108, R114). -/
def Dev.endUrgent (d : Dev) (c : Nat) : Dev :=
  let x := d.conv c
  match x.urgent with
  | none => d
  | some u => (d.setConv c (Dev.urgentPowerDown { x with urgent := none, last := some (u.ch, countedGain u.ch u.gain, u.osr) })).restartVisit c

/-! ### Calibration (R117 to R120, R130) -/

/-- The requests that wait when a calibration begins: host ones end REFUSED_BUSY, others are dropped (R116, R117). -/
def Dev.flushUrgent (d : Dev) (c : Nat) : Dev :=
  let q := (d.conv c).queue
  let d1 := d.setConv c { d.conv c with queue := [] }
  q.foldl (fun x u => match u.origin with
    | .host id => x.fail id .refusedBusy
    | o => x.dropUrgent c o) d1

/-- On die `k` the converter whose calibration is due begins its 12 ms, unless it serves an urgent request whose output is not latched (R117). -/
def Dev.nextCal (d : Dev) (k : Nat) : Dev :=
  match d.calNext k with
  | none => d
  | some c =>
    if (d.conv c).urgent != none || d.latching c then d
    else (d.setConv c { d.conv c with calQueued := false, calibrating := true, calSince := d.convBounds c }).flushUrgent c

/-- The converters of die `k` in a mask wait for their calibration (R117). -/
def Dev.queueCal (d : Dev) (k mask cause : Nat) : Dev :=
  let one := fun (x : Dev) (j : Nat) =>
    let c := 4 * k + j
    let v := x.conv c
    if bitAt mask c && !v.calibrating && !v.calQueued then x.setConv c { v with calQueued := true, calCause := cause } else x
  ((List.range 4).foldl one d).nextCal k

/-- The dies of the converters in a mask. -/
def maskDies (m : Nat) : List Nat := (List.range 2).filter fun k => m / 16 ^ k % 16 != 0

/-- A calibration of all converters asked of the dies (R119). -/
def Dev.calAll (d : Dev) (cause : Nat) : Dev :=
  let d1 := { d with meas := { d.meas with calAt := d.tick } }
  (List.range 2).foldl (fun x k => if x.dieFitted k then x.post k (.cal 0xFF cause) else x) d1

/-- R119: the periodic calibration of all converters, RECAL_INT hours after the latest. -/
def execCalDue (s : State) : Host.Outcome State Fault Refusal :=
  s.onDev fun d =>
    let h := d.get Reg.MEAS_CFG.RECAL_INT 0
    if d.live && h != 0 && d.meas.calAt + h * 360000000 ≤ d.tick then d.calAll 2 else d

/-- The nominal of self-test point `j`, Q16.16 V (R129), and whether a reading is more than 2 mV away (R130). -/
def selfTestBad (j : Nat) (v : Int) : Bool :=
  let nom : Int := [0, 40960, 81920, 131072].getD j 0
  1000 * (v - nom) > 2 * 65536 || 1000 * (nom - v) > 2 * 65536

/-- R130: the readings of INTL 12 to 15 on converter `c`. -/
def Dev.selfTest (d : Dev) (c : Nat) (vs : List Int) : Dev :=
  (List.range 4).foldl (fun x j =>
    let v := vs.getD j 0
    if j < vs.length && selfTestBad j v then
      x.dieRaise (convDie c) 0x0204 (handle clsINTL (globalOf clsINTL (convDie c) (12 + j))) ([c, 0, 0, 0] ++ leBytes 4 (bitsOf 32 v))
    else x) d

/-- R130: the self-tests of a start, as the converters of die `k` come to them. -/
def Dev.startTests (d : Dev) (k : Nat) (ts : List (Nat × List Int)) : Dev :=
  ts.foldl (fun x t =>
    if convDie t.1 = k && x.meas.testDue.contains t.1 then
      Dev.selfTest { x with meas := { x.meas with testDue := x.meas.testDue.filter (· != t.1) } } t.1 t.2
    else x) d

/-- The change of a gain factor in ppm. -/
def ppmChange (old new : Nat) : Int :=
  let o := signedOf 32 old
  if o = 0 then 0 else if 0 < o then roundDiv ((signedOf 32 new - o) * 1000000) o else roundDiv ((o - signedOf 32 new) * 1000000) (-o)

/-- The MEAS_CAL operations after converter `c` has committed: one whose named converters all have ends OK (R121). -/
def Dev.calCommitted (d : Dev) (c : Nat) : Dev :=
  let ops := d.meas.cals.map fun o => if bitAt o.mask c then { o with committed := Nat.lor o.committed (2 ^ c) } else o
  let ended := ops.filter fun o => o.committed == o.mask
  let d1 := { d with meas := { d.meas with cals := ops.filter fun o => !(o.committed == o.mask) } }
  ended.foldl (fun x o => x.done o.id o.committed) d1

/-- R118, R119: converter `c` commits new factors at the end of its 12 ms; the change is against the factors in force until then. -/
def execCalCommit (c ofs gain : Nat) (selfTest : List Int) (s : State) : Host.Outcome State Fault Refusal :=
  s.onDev fun d =>
    let x := d.conv c
    if !(d.convHere c && d.dieLive (convDie c)) || !x.calibrating || decide (d.convBounds c < x.calSince + 1200) then d
    else
      let none_ := d.get Reg.CAL_GAIN.GAIN c = 0
      let o0 := if none_ then (Config.trimOfs c).toNat else d.get Reg.CAL_OFS.OFS c
      let g0 := if none_ then (Config.trimGain c).toNat else d.get Reg.CAL_GAIN.GAIN c
      let d1 := (d.setConv c { x with calibrating := false, last := none }).restartVisit c
      let d2 := (d1.putRet Reg.CAL_OFS.OFS c ofs).putRet Reg.CAL_GAIN.GAIN c gain
      let d3 := d2.dieRaise (convDie c) 0x0202 0
        ([c, x.calCause, 0, 0] ++ leBytes 4 (bitsOf 32 (signedOf 32 ofs - signedOf 32 o0)) ++ leBytes 4 (bitsOf 32 (ppmChange g0 gain)))
      ((d3.selfTest c selfTest).calCommitted c).nextCal (convDie c)

/-- Whether converter `c` calibrates or waits for it, or captures (R120, R128). -/
def Dev.convBusy (d : Dev) (c : Nat) : Bool :=
  let v := d.conv c
  v.calibrating || v.calQueued || v.capturing || d.meas.cals.any fun o => bitAt o.mask c && !bitAt o.committed c

/-- R120: MEAS_CAL checked and sent to the dies. -/
def bodyMeasCal (id : Nat) (x : Desc) (d : Dev) : Dev :=
  let m := x.byte 16
  if m = 0 then d.fail id .badParam
  else if (List.range 8).any (fun c => bitAt m c && !d.convHere c) then d.fail id .badObject
  else if (List.range 8).any (fun c => bitAt m c && d.convBusy c) then d.fail id .refusedBusy
  else
    let o : CalOp := { id := id, mask := m, committed := 0 }
    (maskDies m).foldl (fun y k => y.post k (.desc id)) { d with meas := { d.meas with cals := d.meas.cals ++ [o] } }

/-- R120. -/
def execMeasCal (q : Nat) (x : Desc) (s : State) : Host.Outcome State Fault Refusal :=
  s.onDev fun d => d.submit q x 0x0201 [(16, 1)] bodyMeasCal

/-! ### Captures (R125 to R128) -/

/-- The converters of a group, first and count (R125). -/
def groupOf (g : Nat) : Nat × Nat := if g = 0 then (0, 4) else if g = 1 then (4, 4) else (0, 8)

/-- The converters of a group as a list. -/
def groupConvs (g : Nat) : List Nat := (List.range (groupOf g).2).map fun j => (groupOf g).1 + j

/-- Converters of a group marked as capturing, or released: one outside a pass is then powered down again. -/
def Dev.markCapture (d : Dev) (g : Nat) (b : Bool) : Dev :=
  (groupConvs g).foldl (fun x c =>
    let v := { x.conv c with capturing := b }
    x.setConv c (if b then v else Dev.urgentPowerDown { v with burst := 0 })) d

/-- R125 to R128: MEAS_CAPTURE. DESIGN CHOICE (log 199): a UI whose mode is OFF is accepted. -/
def bodyMeasCapture (id : Nat) (x : Desc) (d : Dev) : Dev :=
  let g := x.byte 16
  let kind := x.byte 17
  let n := x.u16 18
  let dest := x.u32 12
  let cs := groupConvs g
  let chans := (List.range cs.length).map fun j => x.u32 (32 + 4 * j)
  let words := (2 * n + 31) / 32
  if 2 < g then d.fail id .badParam
  else if 1 ≤ g && d.part.grade = .s then d.fail id .badObject
  else if 1 < kind || n = 0 || 4096 < n || 499 < x.u16 28 || 4 < x.byte 30 then d.fail id .badParam
  else if (List.range cs.length).any (fun j => !d.dieChannel (convDie (cs.getD j 0)) (chans.getD j 0)) then d.fail id .badObject
  else if kind = 1 && (isNull (x.u32 20) || !d.isHandle clsBANK (x.u32 20)) then d.fail id .badObject
  else if memWords < dest + words * cs.length then d.fail id .badParam
  else if kind = 0 && x.u64 20 < d.tick + 3 then d.fail id .badParam
  else if cs.any d.convBusy then d.fail id .refusedBusy
  else
    let o : CapOp := { id := id, group := g, dest := dest, kind := kind, at_ := if kind = 0 then x.u64 20 else 0
                       phase := x.u16 28, armed := d.tick, bank := indexOf (x.u32 20), gain := x.byte 30, chans := chans, samples := n
                       triggered := false, streamA := [], streamB := [], sent := 0, stopping := false }
    { d with meas := { d.meas with caps := d.meas.caps ++ [o] } }.markCapture g true

/-- The parameter bytes of MEAS_CAPTURE that the table names for a trigger kind (R131). -/
def captureBytes (x : Desc) : List (Nat × Nat) :=
  if x.byte 17 = 1 then [(12, 12), (28, 3), (32, 32)] else [(12, 19), (32, 32)]

/-- R125. -/
def execMeasCapture (q : Nat) (x : Desc) (s : State) : Host.Outcome State Fault Refusal :=
  s.onDev fun d => d.submit q x 0x0204 (captureBytes x) bodyMeasCapture

/-- The samples of die `k` in the order in which they cross: sample by sample over the group's converters of that die (R127). -/
def capStream (o : CapOp) (k : Nat) (bursts : List (List Int)) : List (Nat × Nat) :=
  let cs := groupConvs o.group
  let words := (2 * o.samples + 31) / 32
  (List.range o.samples).flatMap fun j =>
    (List.range cs.length).filterMap fun i =>
      if convDie (cs.getD i 0) = k then
        some (32 * (o.dest + i * words) + 2 * j, bitsOf 16 ((bursts.getD i []).getD j 0))
      else none

/-- One capture operation changed. -/
def Dev.setCap (d : Dev) (g : Nat) (f : CapOp → CapOp) : Dev :=
  { d with meas := { d.meas with caps := d.meas.caps.map fun o => if o.group == g then f o else o } }

/-- Whether an armed capture is triggered at CLK_FLD cycle `t` of the present ticks of its dies: its tick and phase, or the
first energising path that a shot of its bank, started after it was armed, closes in this cycle (R126, R364). -/
def Dev.capDue (d : Dev) (o : CapOp) (t : Nat) : Bool :=
  !o.triggered && !o.stopping &&
    (if o.kind = 0 then t == o.phase && (groupConvs o.group).all fun c => (d.fd (convDie c)).tick == o.at_
      else d.shut.sols.any fun e => e.1 / 4 == o.bank && o.armed < e.2.startTick
        && e.2.onAt == (d.fd (dieOf clsBANK o.bank)).clock / 4 + t + 1)

/-- R127: the trigger of the capture of group `g` at its cycle, with the codes its converters take. A conversion in
progress is aborted, an urgent one waits again, and the sequence resumes after the burst (R114, R116). -/
def execCaptureTrigger (g : Nat) (b : CaptureBurst) (s : State) : Host.Outcome State Fault Refusal :=
  s.onDev fun d =>
    match d.meas.caps.find? (fun o => o.group == g) with
    | none => d
    | some o =>
      if !((groupConvs g).all fun c => d.dieLive (convDie c)) || !d.capDue o b.cycle then d
      else
        let d1 := d.setCap g fun p => { p with triggered := true, streamA := capStream o 0 b.codes, streamB := capStream o 1 b.codes }
        (List.range (groupConvs g).length).foldl (fun (x : Dev) j =>
          let c := (groupConvs g).getD j 0
          let v := x.conv c
          let ch := o.chans.getD j 0
          let stop := x.convBounds c + (b.cycle + 25 * o.samples + 499) / 500
          let y := (x.setConv c { v with powered := true, burst := stop, queue := v.urgent.toList ++ v.queue, urgent := none
                                         last := if v.paired || x.oddOfPair c then none else some (ch, countedGain ch o.gain, 0) }).restartVisit c
          y.setConv c { y.conv c with started := stop }) d1

/-- The bulk field of an up frame of die `k` while it streams: the next 32 samples (R127, R145). -/
def Dev.capChunk (d : Dev) (k : Nat) : List (Nat × Nat) :=
  match d.meas.caps.find? (fun o => !(if k = 0 then o.streamA else o.streamB).isEmpty) with
  | some o => (if k = 0 then o.streamA else o.streamB).take 32
  | none => []

/-- The samples of one up frame leave the die's queue. -/
def Dev.capAdvance (d : Dev) (k : Nat) : Dev :=
  match d.meas.caps.find? (fun o => !(if k = 0 then o.streamA else o.streamB).isEmpty) with
  | some o => d.setCap o.group fun p =>
      if k = 0 then { p with streamA := p.streamA.drop 32 } else { p with streamB := p.streamB.drop 32 }
  | none => d

/-- The core die writes the samples of one good up frame into shared memory (R127). -/
def Dev.capTake (d : Dev) (chunk : List (Nat × Nat)) : Dev :=
  let d1 := chunk.foldl (fun x p => x.memWrite p.1 (leBytes 2 p.2)) d
  { d1 with meas := { d1.meas with caps := d1.meas.caps.map fun o =>
      let lo := 32 * o.dest
      let hi := 32 * (o.dest + (2 * o.samples + 31) / 32 * (groupOf o.group).2)
      { o with sent := o.sent + (chunk.filter fun p => lo ≤ p.1 && p.1 < hi).length } } }

/-- Whether samples are on their way from a die to the core die. -/
def Dev.capOnWay (d : Dev) : Bool :=
  (match d.upA with
    | some f => f.page == 7
    | none => false) || (match d.upB with
    | some f => f.page == 7
    | none => false)

/-- One capture operation gone, its converters released. -/
def Dev.dropCap (d : Dev) (o : CapOp) : Dev :=
  Dev.markCapture { d with meas := { d.meas with caps := d.meas.caps.filter fun p => !(p.id == o.id) } } o.group false

/-- What a capture reports: samples written per converter, and converters (R131). -/
def CapOp.result (o : CapOp) : Nat := o.sent / (groupOf o.group).2 + 2 ^ 16 * (groupOf o.group).2

/-- R121, R127: the last sample is in shared memory. DEDUCED (log 208): samples of a lost up frame are not sent again, and the result counts those written. -/
def execCaptureDone (g : Nat) (s : State) : Host.Outcome State Fault Refusal :=
  s.onDev fun d =>
    match d.meas.caps.find? (fun o => o.group == g && o.triggered && !o.stopping && o.streamA.isEmpty && o.streamB.isEmpty) with
    | none => d
    | some o => if d.capOnWay then d else (d.dropCap o).done o.id o.result

/-- R126: the shot of a shot-triggered capture has not started within 1 s. -/
def execCaptureShotTimeout (g : Nat) (s : State) : Host.Outcome State Fault Refusal :=
  s.onDev fun d =>
    match d.meas.caps.find? (fun o => o.group == g && o.kind == 1 && !o.triggered && !o.stopping && decide (o.armed + 100000 ≤ d.tick)) with
    | none => d
    | some o => (d.dropCap o).fail o.id .timeout

/-! ### Aborts and PFW_N falling (R121 to R123) -/

/-- The calibrations of die `k` in a mask stop: those converters keep their old factors (R122). -/
def Dev.stopCalDie (d : Dev) (k mask : Nat) : Dev :=
  let one := fun (x : Dev) (j : Nat) =>
    let c := 4 * k + j
    let v := x.conv c
    if !bitAt mask c then x
    else if v.calibrating then (x.setConv c { v with calibrating := false, last := none }).restartVisit c
    else x.setConv c { v with calQueued := false }
  ((List.range 4).foldl one d).nextCal k

/-- A MEAS_CAL ends ABORTED; its result reports the converters committed (R122). -/
def Dev.endCal (d : Dev) (o : CalOp) : Dev :=
  Dev.finish { d with meas := { d.meas with cals := d.meas.cals.filter fun p => !(p.id == o.id) } } o.id .aborted o.committed

/-- Die `k` stops sampling for a capture, and what it has not sent is gone (R122). -/
def Dev.stopCapDie (d : Dev) (k : Nat) (o : CapOp) : Dev :=
  let d1 := d.setCap o.group fun p =>
    if k = 0 then { p with stopping := true, streamA := [] } else { p with stopping := true, streamB := [] }
  (groupConvs o.group).foldl (fun x c => if convDie c = k then x.setConv c { x.conv c with burst := 0 } else x) d1

/-- Host urgent request `id` stopped on converter `c`, queued, in progress, or before the latch of its output: it delivers nothing (R121, R122). -/
def Dev.stopUrgent (d : Dev) (id c : Nat) : Dev :=
  let x := d.conv c
  let active : Bool := match x.urgent with
    | some u => u.origin == .host id
    | none => false
  let d1 := d.setConv c { x with queue := x.queue.filter fun u => !(u.origin == .host id) }
  let d2 := if active then d1.endUrgent c else d1
  let undo := fun (y : Dev) (u : UrgentOut) =>
    if y.measWord u.ch = some u.word && Map.get y.meas.source u.ch 0 = 0 then
      { y with meas := { y.meas with words := Map.set y.meas.words u.ch u.was none, source := Map.set y.meas.source u.ch u.wasSource 0 } }
    else y
  let mine := d2.meas.urgentDone.filter fun u => u.id == some id && u.conv == c
  let d3 := mine.foldl undo d2
  { d3 with meas := { d3.meas with urgentDone := d3.meas.urgentDone.filter fun u => !(u.id == some id && u.conv == c) } }

/-- The host requests of converter `c` that wait, convert, or have an output not yet latched. -/
def Dev.hostUrgents (d : Dev) (c : Nat) : List Nat :=
  (((d.conv c).queue ++ (d.conv c).urgent.toList).filterMap fun u => match u.origin with
    | .host id => some id
    | _ => none) ++ d.meas.urgentDone.filterMap fun u => if u.conv = c then u.id else none

/-- Whether host urgent request `id` is still open at its die. -/
def Dev.urgentOpen (d : Dev) (id : Nat) : Bool := (List.range 8).any fun c => (d.hostUrgents c).contains id

/-- The dies that run a measurement descriptor, as a mask (R121). -/
def measDies (x : Desc) : Nat :=
  match x.u16 0 with
  | 0x0201 => (if x.byte 16 % 16 = 0 then 0 else 1) + (if x.byte 16 / 16 = 0 then 0 else 2)
  | 0x0202 => 2 ^ convDie (x.byte 16)
  | _ => if x.byte 16 = 0 then 1 else if x.byte 16 = 1 then 2 else 3

/-- R121: an abort of a running operation is sent to its dies, behind the request. -/
def settleMeas (id : Nat) (r : Rec) (d : Dev) : Dev :=
  let m := measDies r.d
  ((List.range 2).filter fun k => bitAt m k).foldl (fun x k => x.post k (.abort id r.id))
    { d with meas := { d.meas with aborts := d.meas.aborts ++ [(id, m)] } }

/-- The part of measurement operation `t` that runs on die `k` stops. -/
def Dev.stopMeasDie (d : Dev) (k t : Nat) : Dev :=
  match d.meas.cals.find? (fun o => o.id == t), d.meas.caps.find? (fun o => o.id == t) with
  | some o, _ => d.stopCalDie k (o.mask - o.committed)
  | none, some o => d.stopCapDie k o
  | none, none => d

/-- Operation `t`, whose dies an abort has all reached, ends ABORTED and the abort OK, unless it had finished (R121). -/
def Dev.endMeas (d : Dev) (id t : Nat) : Dev :=
  match d.meas.cals.find? (fun o => o.id == t), d.meas.caps.find? (fun o => o.id == t) with
  | some o, _ => (d.endCal o).done id 0
  | none, some o => ((d.dropCap o).finish o.id .aborted o.result).done id 0
  | none, none =>
    if d.urgentOpen t then (((List.range 8).foldl (fun x c => x.stopUrgent t c) d).fail t .aborted).done id 0
    else d.fail id .nothingToAbort

/-- R121: abort `id` reaches die `k`. -/
def Dev.applyMeasAbort (d : Dev) (k id t : Nat) : Dev :=
  let left := ((d.meas.aborts.find? fun p => p.1 == id).map fun p => if bitAt p.2 k then p.2 - 2 ^ k else p.2).getD 0
  let rest := d.meas.aborts.filter fun p => !(p.1 == id)
  let d1 := Dev.stopMeasDie { d with meas := { d.meas with aborts := if left = 0 then rest else rest ++ [(id, left)] } } k t
  if left = 0 then d1.endMeas id t else d1

/-- R121, R132: MEAS_ABORT. -/
def bodyMeasAbort (id : Nat) (x : Desc) (d : Dev) : Dev :=
  if 63 < x.u16 20 then d.fail id .badParam
  else d.abortDesc id (x.u16 20) (x.u32 16) [0x0201, 0x0202, 0x0204] settleMeas

/-- R121. -/
def execMeasAbort (q : Nat) (x : Desc) (s : State) : Host.Outcome State Fault Refusal :=
  s.onDev fun d => d.submit q x 0x0203 [(16, 6)] bodyMeasAbort

/-- R123: on PFW_N falling every calibration, urgent request and capture in progress ends ABORTED; the sequences run on. -/
def Dev.measDip (d : Dev) : Dev :=
  let cals := d.meas.cals
  let d1 := cals.foldl (fun x o => x.endCal o) { d with meas := { d.meas with cals := [] } }
  let d2 := d1.meas.caps.foldl (fun x o => (x.dropCap o).finish o.id .aborted o.result) d1
  let d3 := ((List.range 8).foldl (fun x c => x.setConv c { x.conv c with calQueued := false }) d2)
  let d4 := (d3.stopCalDie 0 0xFF).stopCalDie 1 0xFF
  let d5 := (List.range 8).foldl (fun x c =>
    let y := (x.hostUrgents c).foldl (fun z id => (z.stopUrgent id c).fail id .aborted) x
    (y.setConv c { y.conv c with queue := [] }).endUrgent c) d4
  let open_ := d5.recs.filter fun r => r.phase == .running && [0x0201, 0x0202, 0x0204].contains (r.d.u16 0)
  let d6 := open_.foldl (fun x r => x.fail r.id .aborted) d5
  { d6 with meas := { d6.meas with urgentDone := [] } }

/-! ### Register writes (R99, R106, R137) -/

/-- A MEAS write refused (R107, R136). -/
def Dev.measReject (d : Dev) : Dev := d.put Reg.MEAS_STAT.WRITE_REJECTED 0 1

/-- Whether element `i` of a MEAS register exists on this grade (R135). -/
def Dev.measHere (d : Dev) (count i : Nat) : Bool := i < count && (d.part.grade == .f || 2 * i < count)

/-- R99: UI_MODE written; the front end switches at the next boundary of its die. -/
def Dev.writeUiMode (d : Dev) (u v : Nat) : Dev :=
  if !d.measHere 64 u then d
  else if !d.inRange [Reg.UI_MODE.MODE, Reg.UI_MODE.BETA] v then d.measReject
  else d.writeFlds [Reg.UI_MODE.MODE, Reg.UI_MODE.BETA] u v

/-- R99. -/
def execUiModeWrite (u v : Nat) (s : State) : Host.Outcome State Fault Refusal :=
  s.onDev fun d => if u < 64 then d.hostReg (Reg.UI_MODE.MODE.addr u) v fun x => x.writeUiMode u v else d

/-- R137: UI_GAIN_SH written; both parts of the coefficient are now in effect. -/
def Dev.writeUiGainSh (d : Dev) (u v : Nat) : Dev :=
  if !d.measHere 64 u then d
  else
    let d1 := d.writeFlds [Reg.UI_GAIN_SH.S] u v
    (d1.dput Reg.UI_GAIN_SH.S u (d1.get Reg.UI_GAIN_SH.S u)).dput Reg.UI_GAIN.C u (d1.get Reg.UI_GAIN.C u)

/-- R137. -/
def execUiGainShWrite (u v : Nat) (s : State) : Host.Outcome State Fault Refusal :=
  s.onDev fun d => if u < 64 then d.hostReg (Reg.UI_GAIN_SH.S.addr u) v fun x => x.writeUiGainSh u v else d

/-- R106, R124: CONV_CTRL written; PAIR of an odd converter is ignored. -/
def Dev.writeConvCtrl (d : Dev) (c v : Nat) : Dev :=
  if !d.convHere c then d
  else
    let fs := if c % 2 = 0 then [Reg.CONV_CTRL.RUN, Reg.CONV_CTRL.PAIR, Reg.CONV_CTRL.LAST, Reg.CONV_CTRL.PASS_INT]
      else [Reg.CONV_CTRL.RUN, Reg.CONV_CTRL.LAST, Reg.CONV_CTRL.PASS_INT]
    let d1 := if d.isSet Reg.CONV_CTRL.RUN c then d else d.setConv c { d.conv c with passAt := 0, passOwed := false }
    d1.writeFlds fs c v

/-- R106. -/
def execConvCtrlWrite (c v : Nat) (s : State) : Host.Outcome State Fault Refusal :=
  s.onDev fun d => if c < 8 then d.hostReg (Reg.CONV_CTRL.RUN.addr c) v fun x => x.writeConvCtrl c v else d

/-! ### The boundary of a field die (R99, R111, R112, R731) -/

/-- A channel that is OFF is converted no more (R731): visits of it end as skipped entries do; urgent requests for it end, a host's BAD_PARAM. -/
def Dev.stopChannel (d : Dev) (h : Nat) : Dev :=
  (List.range 8).foldl (fun (x : Dev) c =>
    let v := x.conv c
    let active := (v.urgent.map fun u => u.ch == h).getD false
    let gone := (v.queue ++ (if active then v.urgent.toList else [])).filter fun u => u.ch == h
    let x1 := x.setConv c { v with queue := v.queue.filter fun u => !(u.ch == h) }
    let x2 := if active then x1.endUrgent c else x1
    let x3 := gone.foldl (fun y u => match u.origin with
      | .host id => y.fail id .badParam
      | _ => y) x2
    match (x3.conv c).visit with
    | some w => if w.ch = h then x3.nextVisit c w.entry else x3
    | none => x3) d

/-- A UI front end switches at a boundary (R99): OFF gives value 0 with VALID clear at once (R731), and a fault is left (R134). -/
def Dev.switchUi (d : Dev) (u tick : Nat) : Dev :=
  let m := d.get Reg.UI_MODE.MODE u
  let b := d.get Reg.UI_MODE.BETA u
  if m = d.uiMode u && b = d.dget Reg.UI_MODE.BETA u then d
  else
    let k := dieOf clsUI u
    let h := handle clsUI u
    let d1 := (d.dput Reg.UI_MODE.MODE u m).dput Reg.UI_MODE.BETA u b
    let owes := (List.range 4).map fun j => (4 * k + j, h)
    let d2 := { d1 with meas := { d1.meas with
      modeAt := Map.set d1.meas.modeAt u ((d.fd k).bounds + 1) 0
      reopen := (d1.meas.reopen.filter fun p => !(p.2 == h)) ++ owes
      disconnected := Map.set d1.meas.disconnected u 0 0 } }
    if m = modeOFF then
      Dev.stopChannel ({ d2 with meas := { d2.meas with words := Map.set d2.meas.words h (some (mkWord 0 0 tick)) none } }.uiFaultEvent h
        (d2.inFault h) false 0 0) h
    else d2

/-- The front ends of die `k` switch. -/
def Dev.switchUis (d : Dev) (k tick : Nat) : Dev :=
  (List.range 32).foldl (fun x j => x.switchUi (globalOf clsUI k j) tick) d

/-- The words of die `k` that were produced since the last boundary take this tick's stamp (R111); urgent requests end at the latch of their
valid output, a host's with that output (R114, R121), and a calibration that waited for it begins (R117). -/
def Dev.latchMeas (d : Dev) (k tick : Nat) : Dev :=
  let mine := fun h => dieOf (classOf h) (indexOf h) == k
  let now := d.meas.fresh.filter mine
  let stamp := fun (x : Dev) (h : Nat) => match x.measWord h with
    | some w => { x with meas := { x.meas with words := Map.set x.meas.words h (some { w with stamp := BitVec.ofNat 24 tick }) none } }
    | none => x
  let d1 := now.foldl stamp d
  let due := d1.meas.urgentDone.filter fun u => convDie u.conv == k
  let d2 := { d1 with meas := { d1.meas with
    fresh := d1.meas.fresh.filter fun h => !mine h
    urgentDone := d1.meas.urgentDone.filter fun u => !(convDie u.conv == k) } }
  let fin := fun (x : Dev) (u : UrgentOut) => match u.id with
    | some id => x.done id ({ u.word with stamp := BitVec.ofNat 24 tick } : VW).bits
    | none => x
  (due.foldl fin d2).nextCal k

/-- The outputs of the slots of die `k` at a boundary: slot, REMAIN, word, boundaries since the latest output. DESIGN CHOICE (log 205): they reach the
registers of R136 with every up frame, beside the words of R112. -/
def Dev.slotOutputs (d : Dev) (k : Nat) : List (Nat × Nat × VW × Nat) :=
  let age := fun n => (d.fd k).bounds + 1 - Map.get d.meas.slotAt n 0
  d.meas.words.filterMap fun e =>
    let n := indexOf e.1
    if classOf e.1 = clsMSLOT && dieOf clsMSLOT n = k then
      e.2.map fun w => (n, Map.get d.meas.remains n 0, w, if Map.get d.meas.slotAt n 0 = 0 then 0x10000 else age n)
    else none

/-- The slot outputs of an up frame in the registers of R136. -/
def Dev.takeSlots (d : Dev) (l : List (Nat × Nat × VW × Nat)) : Dev :=
  l.foldl (fun x e =>
    let y := ((x.put Reg.SLOT_STAT.REMAIN e.1 e.2.1).put Reg.SLOT_STAT.STATUS e.1 e.2.2.1.status.toNat).put Reg.SLOT_VAL.VALUE e.1 e.2.2.1.bits
    { y with meas := { y.meas with slotSeen := Map.set y.meas.slotSeen e.1 (some ((x.tick : Int) - e.2.2.2)) none } }) d

/-- The slots of die `k` that have a subscriber (R112). -/
def Dev.boundSlots (d : Dev) (k : Nat) : List Nat :=
  let named := d.subscribed
  (List.range 256).map (globalOf clsMSLOT k) |>.filter fun n => named.contains (d.name clsMSLOT n)

/-- `n` items of a list from place `i` on, round and round. -/
def rotated (l : List Nat) (i n : Nat) : List Nat :=
  if l.isEmpty then [] else (List.range (min n l.length)).map fun j => l.getD ((i + j) % l.length) 0

/-- The UI, INTL and MSLOT words of the up frame number `r` of die `k` (R112, R144). -/
def Dev.measWords (d : Dev) (k r : Nat) : List Produced :=
  let uis := (List.range 8).map fun j => handle clsUI (globalOf clsUI k ((8 * r + j) % 32))
  let intls := (List.range 4).map fun j => handle clsINTL (globalOf clsINTL k ((4 * r + j) % 16))
  let slots := (rotated (d.boundSlots k) (4 * r) 4).map fun n => handle clsMSLOT n
  (uis ++ intls ++ slots).map fun h =>
    { name := d.devNum * 2 ^ 20 + h, qty := 0, word := (d.measWord h).getD (mkWord 0 0 0) }

end Sys2Proof.Machine
end

