-- ==== Sys2Proof/Machine/Pos.lean ====
section
/-! DEFINITION. Sensor ports and encoder emulation (05_position_speed.md). -/

namespace Sys2Proof.Machine
open Sys2Proof

/-! ### Ports -/

/-- A port at the start of its die (R187, R188). -/
def PosSt.init : PosSt :=
  { count := 0, acc := 0, valid := false, validAt := 0, homeArmed := true, homed := false, fault := false, cause := 0, warning := false
    stale := false, errRun := 0, faulted := 0, seen := 0, word := none, readAt := none, readOn := 0, check := none, startDone := false
    lastCounts := 0, dir := 0, edges := [], span := 1, reversing := false, still := false, pos := 0, posClamped := false
    speed := 0, speedSt := stSETTLING, scale := 0x20000000 }

/-- Port `p`. -/
def Dev.posAt (d : Dev) (p : Nat) : PosSt := Map.get d.poss p PosSt.init

/-- Port `p` set. -/
def Dev.setPos (d : Dev) (p : Nat) (x : PosSt) : Dev := { d with poss := Map.set d.poss p x PosSt.init }

/-- An emulation output at the start of its die. -/
def EmuSt.init : EmuSt := { output := 0, s0 := 0, out0 := 0, overspeed := false, sourceFault := false, lagTop := 0, edgeAt := 0 }

/-- Emulation output `e`. -/
def Dev.emuAt (d : Dev) (e : Nat) : EmuSt := Map.get d.emus e EmuSt.init

/-- Emulation output `e` set. -/
def Dev.setEmu (d : Dev) (e : Nat) (x : EmuSt) : Dev := { d with emus := Map.set d.emus e x EmuSt.init }

/-- Port modes of R183. -/
def posOFF : Nat := 0
def posINC : Nat := 1
def posSER : Nat := 2

/-- Whether port `p` works in mode `m` now. -/
def Dev.posIn (d : Dev) (p m : Nat) : Bool :=
  p < d.classCount clsPOS && d.dieLive (dieOf clsPOS p) && d.dget Reg.POS_CFG.MODE p == m

/-- The limits of the signed 40-bit count (R187). -/
def posMax : Int := 2 ^ 39 - 1
def posMin : Int := -(2 ^ 39)

/-- A 5 ns sample number of port `p`'s die: sample `t` of the present tick (R182). -/
def Dev.posTime (d : Dev) (p t : Nat) : Nat := (d.fd (dieOf clsPOS p)).clock + t

/-- Whether `n` samples since sample `at_` are over by the end of the present tick of die `k`. -/
def Dev.samplesPassed (d : Dev) (k at_ n : Nat) : Bool := at_ + n ≤ (d.fd k).clock + (if (d.fd k).intOsc then 1960 else 2000)

/-- A port with a valid position from sample `t` on. -/
def PosSt.nowValid (x : PosSt) (t : Nat) : PosSt := { x with valid := true, validAt := if x.valid then x.validAt else t }

/-- POS_FAULT (R210). -/
def Dev.posFaultEvent (d : Dev) (p : Nat) (on : Bool) (cause : Nat) : Dev :=
  d.dieRaise (dieOf clsPOS p) 0x0401 (handle clsPOS p)
    ([if on then 1 else 0, cause, 0, 0] ++ leBytes 4 (bitsOf 32 (d.posAt p).pos))

/-- FAULT set with a cause; a port that has it set already has entered it before (R210). -/
def Dev.posFault (d : Dev) (p cause : Nat) : Dev :=
  let x := d.posAt p
  let d1 := d.setPos p { x with fault := true, cause := cause }
  if x.fault then d1 else d1.posFaultEvent p true cause

/-- FAULT cleared when its cause is one of `causes`. -/
def Dev.posClear (d : Dev) (p : Nat) (causes : List Nat) : Dev :=
  let x := d.posAt p
  if x.fault && causes.contains x.cause then (d.setPos p { x with fault := false }).posFaultEvent p false x.cause else d

/-! ### Encoder emulation (R202 to R206) -/

/-- The port that EMU `e` follows. -/
def Dev.emuSrc (d : Dev) (e : Nat) : Nat := globalOf clsPOS (dieOf clsEMU e) (d.dget Reg.EMU_CFG.SRC e)

/-- Counts per revolution of the source of EMU `e` (R202). -/
def Dev.emuCpr (d : Dev) (e : Nat) : Nat :=
  let p := d.emuSrc e
  if d.dget Reg.POS_CFG.MODE p = posSER then 2 ^ d.dget Reg.POS_LINES.SINGLE_BITS p else 4 * d.dget Reg.POS_LINES.LINES p

/-- The target of EMU `e` (R202, R204). -/
def Dev.emuTarget (d : Dev) (e : Nat) : Int :=
  let x := d.emuAt e
  x.out0 + ((d.posAt (d.emuSrc e)).acc - x.s0) * (4 * d.dget Reg.EMU_LINES.LINES e : Nat) / (d.emuCpr e : Int)

/-- The lag of EMU `e` in counts (R203). -/
def Dev.emuLag (d : Dev) (e : Nat) : Nat := (d.emuTarget e - (d.emuAt e).output).natAbs

/-- Re-alignment (R204). -/
def Dev.emuAlign (d : Dev) (e : Nat) : Dev :=
  let x := d.emuAt e
  d.setEmu e { x with s0 := (d.posAt (d.emuSrc e)).acc, out0 := x.output }

/-- EMU_OVERSPEED as the lag of EMU `e` now stands (R203, R210). -/
def Dev.emuCheckLag (d : Dev) (e : Nat) : Dev :=
  let x := d.emuAt e
  let n := d.emuLag e
  let raise := fun (y : Dev) (on top : Nat) =>
    y.dieRaise (dieOf clsEMU e) 0x0404 (handle clsEMU e) [on, min 255 top]
  if !d.disSet Reg.EMU_CFG.ENABLE e then d
  else if !x.overspeed && d.dget Reg.EMU_CFG.LAG_MAX e < n then raise (d.setEmu e { x with overspeed := true, lagTop := n }) 1 n
  else if x.overspeed && n = 0 then raise (d.setEmu e { x with overspeed := false, lagTop := 0 }) 0 x.lagTop
  else if x.overspeed then d.setEmu e { x with lagTop := max x.lagTop n }
  else d

/-- The EMUs that follow port `p`. -/
def Dev.emusOf (d : Dev) (p : Nat) : List Nat := (List.range 4).filter fun e => d.emuSrc e == p

/-- EMU `e` as its source now stands: SOURCE_FAULT, re-alignment when it clears, the lag (R203). -/
def Dev.emuSense (d : Dev) (e : Nat) : Dev :=
  let x := d.emuAt e
  let f := (d.posAt (d.emuSrc e)).fault
  let d1 := d.setEmu e { x with sourceFault := f }
  (if x.sourceFault && !f then d1.emuAlign e else d1).emuCheckLag e

/-- What a change of port `p` means for each EMU that follows it. -/
def Dev.emuFollow (d : Dev) (p : Nat) : Dev := (d.emusOf p).foldl (fun y e => y.emuSense e) d

/-- The level of A, B and Z at an output count (R202): A leads B while the count rises. -/
def emuLevels (output : Int) (lines : Nat) : Bool × Bool × Bool :=
  let m := output % 4
  (m == 1 || m == 2, m == 2 || m == 3, output % (4 * lines : Nat) == 0)

/-- The outputs A, B and Z driven as EMU `e` now stands: low until enabled, in STARTUP, and in SAFE with SAFE = 1 (R205). -/
def Dev.emuDrive (d : Dev) (e : Nat) : Dev :=
  let st := (d.fd (dieOf clsEMU e)).state
  let low := !d.disSet Reg.EMU_CFG.ENABLE e || st == .startup || (st == .safe && d.disSet Reg.EMU_CFG.SAFE e)
  let l := if low then (false, false, false) else emuLevels (d.emuAt e).output (d.dget Reg.EMU_LINES.LINES e)
  let pin := fun (n : String) => "EMU_" ++ n ++ toString e
  ((d.emit (.pin (pin "A") l.1)).emit (.pin (pin "B") l.2.1)).emit (.pin (pin "Z") l.2.2)

/-- The outputs of both EMUs of die `k` driven as its state says (R205). -/
def Dev.emuRefresh (d : Dev) (k : Nat) : Dev := (List.range 2).foldl (fun y j => y.emuDrive (globalOf clsEMU k j)) d

/-- Whether EMU `e` may step at sample `now`: 100 samples after its latest edge, or those of its forced rate (R202, R207). -/
def Dev.emuReady (d : Dev) (e now : Nat) : Bool :=
  let x := d.emuAt e
  x.edgeAt = 0 || (x.edgeAt + 100 ≤ now + 1 && match d.forceOf (handle clsEMU e) with
    | some r => decide (200000000 ≤ (now + 1 - x.edgeAt) * (signedOf 32 r).natAbs)
    | none => true)

/-- R202: one step of EMU `e` towards its target, or of its forced rate; none in SAFE, in STARTUP, or while its source has
FAULT set. -/
def execEmuEdge (a : EmuStep) (s : State) : Host.Outcome State Fault Refusal :=
  s.onDev fun d =>
    let e := a.emu
    let x := d.emuAt e
    let k := dieOf clsEMU e
    let st := (d.fd k).state
    let now := (d.fd k).clock + a.sample
    if !(e < d.classCount clsEMU && d.dieLive k && d.disSet Reg.EMU_CFG.ENABLE e) || st == .safe || st == .startup || !d.emuReady e now then d
    else
      let step : Int := match d.forceOf (handle clsEMU e) with
        | some r => (signedOf 32 r).sign
        | none => if x.sourceFault then 0 else (d.emuTarget e - x.output).sign
      if step = 0 then d
      else
        let d1 := d.setEmu e { x with output := x.output + step, edgeAt := now + 1 }
        (if (d.forceOf (handle clsEMU e)).isSome then d1 else d1.emuCheckLag e).emuDrive e

/-- The EMU value word that the core die builds from page 4 (R206). -/
def emuWord (flags lag tick : Nat) : VW :=
  mkWord (lag * 65536) (stVALID + (if bitAt flags 1 then stFAULT else 0) + (if bitAt flags 2 then stFORCED else 0)) tick

/-! ### Edges and speed (R185, R195 to R197) -/

/-- Speed intervals that AVG spans; code 3 only where the level admits it (R60, R195). -/
def avgSpan (code : Nat) : Nat := [1, 4, 16, 64].getD code 1

/-- An edge in direction `s` at sample `t` that spans `n` counts: a reversal begins a new span (R195, R197). -/
def PosSt.edge (x : PosSt) (s : Int) (t n : Nat) : PosSt :=
  let y := { x with still := false, span := n }
  if s = x.dir then { y with edges := (t :: x.edges).take 65, reversing := false }
  else
    { y with dir := s, edges := [t], reversing := true
             check := x.check.map fun c => { c with reversed := c.reversed || x.dir != 0 } }

/-- The speed at boundary sample `now` in Q16.16, before status (R195): |SCALE| parts taken as the exact ratio of c to 2^(29+s). -/
def PosSt.rate (x : PosSt) (serial : Bool) (avg c s now : Nat) : Int :=
  match x.edges with
  | t1 :: t2 :: rest =>
    let k := if serial then 1 else min avg (rest.length + 1)
    let n := if serial then x.span else k
    let span := t1 - (t1 :: t2 :: rest).getD k t2
    let since := now - t1
    -- n / span against 1 / since
    let r : Nat × Nat := if since * n ≤ span then (n, span) else (1, since)
    roundDiv (x.dir * signedOf 32 c * 65536 * 200000000 * r.1) ((2 ^ (29 + s) * max 1 r.2 : Nat) : Int)
  | _ => 0

/-- The position value (R194): the product in a saturating 64-bit accumulator, rounded, with the offset, saturated. -/
def posValue (count : Int) (c s ofs : Nat) : Int × Bool :=
  let p := count * signedOf 32 c
  let q := saturate 64 p
  let v := roundShift (q * 65536) (29 + s) + signedOf 32 ofs
  (saturate 32 v, q != p || saturate 32 v != v)

/-- R195, R196, R198: port `p` evaluated at a boundary of its die; while its words are stale they repeat the last good values. DESIGN CHOICE (log 216): a
port without an edge yet counts its standstill from its first valid position. -/
def Dev.posEvaluate (d : Dev) (p : Nat) : Dev :=
  let x := d.posAt p
  let m := d.dget Reg.POS_CFG.MODE p
  if m = posOFF || x.stale then d
  else
    let c := d.dget Reg.POS_SCALE.C p
    let sh := d.dget Reg.POS_SCALE_SH.S p
    let v := posValue x.count c sh (d.dget Reg.POS_OFS.OFS p)
    let lim := m == posINC && (x.count == posMax || x.count == posMin)
    let r := x.rate (m == posSER) (avgSpan (d.dget Reg.POS_CFG.AVG p)) c sh (d.posTime p 0)
    -- t_last: the latest edge, else the first valid position
    let still := x.still || (x.valid && decide ((x.edges.head?).getD x.validAt + 200000 * d.dget Reg.POS_STANDSTILL.TIME p ≤ d.posTime p 0))
    let sp : Int × Nat :=
      if still then (0, stVALID)
      else if x.reversing || x.edges.length < 2 then (0, stSETTLING)
      else (saturate 32 r, stVALID + (if saturate 32 r = r then 0 else stCLAMPED))
    d.setPos p { x with pos := v.1, posClamped := v.2 || lim, speed := sp.1, speedSt := sp.2, still := still
                        reversing := x.reversing && !still }

/-- The value word of port `p` for a quantity: 0 position, 1 speed (R183, R186, R192, R198). -/
def Dev.posWord (d : Dev) (p quantity tick : Nat) : VW :=
  let x := d.posAt p
  let bad := fun (st : Nat) => if x.fault then Nat.lor (st - st % 2) stFAULT else st
  let stale := if x.stale then stSTALE else 0
  if d.dget Reg.POS_CFG.MODE p = posOFF then mkWord 0 stSETTLING tick
  else if quantity = 0 then
    if !x.valid then mkWord 0 (bad stSETTLING) tick
    else mkWord x.pos (Nat.lor (bad (stVALID + (if x.posClamped then stCLAMPED else 0))) stale) tick
  else mkWord x.speed (Nat.lor (bad x.speedSt) stale) tick

/-! ### Incremental mode (R185 to R188, R200, R201) -/

/-- A check begins on port `p`. -/
def Dev.posCheckBegin (d : Dev) (p trigger : Nat) (desc : Option Nat) : Dev :=
  let x := d.posAt p
  if x.check.isSome then d
  else d.setPos p { x with check := some { trigger := trigger, desc := desc, since := d.posTime p 0, base := none, reversed := false, good := 0 } }

/-- R200: a check after a return from SAFE or a quadrature error, when AT_RECOVER is 1. -/
def Dev.posCheckRecover (d : Dev) (p : Nat) : Dev :=
  if d.dget Reg.POS_CFG.MODE p = posINC && d.disSet Reg.POS_CFG.INDEX p && d.disSet Reg.POS_CHECK.AT_RECOVER p then
    d.posCheckBegin p 3 none
  else d

/-- R185 to R187: one decoded change of A and B at sample `t` of the tick, when it has held for the filter's time; at its limit the count holds,
and an edge that does not change it is no edge of R195. -/
def execPosEdge (p t : Nat) (e : QuadEdge) (s : State) : Host.Outcome State Fault Refusal :=
  s.onDev fun d =>
    if !d.posIn p posINC || e.held < d.dget Reg.POS_CFG.FILT p then d
    else
      let x := d.posAt p
      match e.step with
      | .both => ((d.posFault p 4).posCheckRecover p).emuFollow p
      | q =>
        let raw : Int := if q = .aLeads then 1 else -1
        let g : Int := if d.disSet Reg.POS_CFG.DIR p then -raw else raw
        let n := clampInt posMin posMax (x.count + g)
        let now := d.posTime p t
        let y := { x with count := n, acc := x.acc + (n - x.count) }.nowValid now
        (d.setPos p (if n = x.count then y else y.edge g now 1)).emuFollow p

/-- INDEX_CHECK_DONE, the check's end and its descriptor's completion (R201, R207, R208, R210). -/
def Dev.posCheckEnd (d : Dev) (p : Nat) (c : PosCheck) (mismatch : Bool) (counts : Nat) : Dev :=
  let x := d.posAt p
  let d1 := d.setPos p { x with check := none, lastCounts := counts }
  let b := if mismatch then 1 else 0
  let d2 := d1.dieRaise (dieOf clsPOS p) 0x0403 (handle clsPOS p)
    ([b, c.trigger, 0, 0] ++ leBytes 4 counts ++ leBytes 4 (4 * d.dget Reg.POS_LINES.LINES p))
  let d3 := if mismatch then d2.posFault p 5 else d2.posClear p [4, 5]
  match c.desc with
  | some id => d3.finish id (if mismatch then .dataError else .ok) (b + 2 ^ 32 * (counts % 2 ^ 32))
  | none => d3

/-- The interval that an index pulse closes (R201). -/
def Dev.posInterval (d : Dev) (p : Nat) : Dev :=
  let x := d.posAt p
  match x.check with
  | none => d
  | some c =>
    let again := fun (g n : Nat) => d.setPos p { x with
      lastCounts := n, check := some { c with base := some x.acc, reversed := false, good := g } }
    match c.base with
    | none => again c.good x.lastCounts
    | some b =>
      let n := (x.acc - b).natAbs
      let want := 4 * d.dget Reg.POS_LINES.LINES p
      if c.reversed then again c.good x.lastCounts
      else if d.dget Reg.POS_CHECK.TOL p < (max n want) - (min n want) then d.posCheckEnd p c true n
      else if d.dget Reg.POS_CHECK.REVS p ≤ c.good + 1 then d.posCheckEnd p c false n
      else again (c.good + 1) n

/-- R188, R200, R201: the first accepted transition at which Z is high: it homes an armed port, starts the check of the first
index pulse after start, and closes an interval of a check. -/
def execIndexPulse (e : IndexEdge) (s : State) : Host.Outcome State Fault Refusal :=
  s.onDev fun d =>
    let p := e.port
    if !(d.posIn p posINC && d.disSet Reg.POS_CFG.INDEX p) || e.held < d.dget Reg.POS_CFG.FILT p then d
    else
      let x := d.posAt p
      let home := x.homeArmed && d.disSet Reg.POS_CFG.HOME p
      let d1 := if home then
          (d.setPos p ({ x with count := 0, homeArmed := false, homed := true }.nowValid (d.posTime p 0))).posClear p [4, 5]
        else d
      let y := d1.posAt p
      let d2 := d1.setPos p { y with startDone := true }
      let d3 := if !y.startDone && d.disSet Reg.POS_CHECK.AT_START p then d2.posCheckBegin p 1 none else d2
      (d3.posInterval p).emuFollow p

/-- The timeout of the POS_CHECK `id` in 5 ns samples (R207). -/
def Dev.posCheckLimit (d : Dev) (id : Nat) : Nat := 200000000 * ((d.rec? id).map fun r => r.d.byte 20).getD 0

/-- R208: a host check has not ended within its timeout. -/
def execPosCheckTimeout (p : Nat) (s : State) : Host.Outcome State Fault Refusal :=
  s.onDev fun d =>
    let x := d.posAt p
    match x.check with
    | some c => match c.desc with
      | some id =>
        if d.samplesPassed (dieOf clsPOS p) c.since (d.posCheckLimit id) then (d.setPos p { x with check := none }).fail id .timeout else d
      | none => d
    | none => d

/-- R196: no edge for POS_STANDSTILL.TIME: the speed reads 0 with VALID set. -/
def execStandstillTimeout (p : Nat) (s : State) : Host.Outcome State Fault Refusal :=
  s.onDev fun d =>
    let x := d.posAt p
    if (d.posIn p posINC || d.posIn p posSER) && x.valid
        && d.samplesPassed (dieOf clsPOS p) ((x.edges.head?).getD x.validAt) (200000 * d.dget Reg.POS_STANDSTILL.TIME p) then
      d.setPos p { x with still := true, reversing := false, speed := 0, speedSt := stVALID }
    else d

/-! ### Serial mode (R189 to R193) -/

/-- One step of the trailer CRC, polynomial x^6 + x + 1 (R190). -/
def crc6Bit (c : Nat) (b : Bool) : Nat :=
  let top := (c.testBit 5) != b
  Nat.xor (c * 2 % 64) (if top then 3 else 0)

/-- The bits of a number of `w` bits, most significant first. -/
def msbBits (v w : Nat) : List Bool := (List.range w).map fun j => v.testBit (w - 1 - j)

/-- The trailer CRC over the data bits, E and W (R190). -/
def crc6 (data bits : Nat) (e w : Bool) : Nat := ((msbBits data bits) ++ [e, w]).foldl crc6Bit 0

/-- A Gray-coded word decoded (R189). -/
def grayDecode (v w : Nat) : Nat :=
  ((msbBits v w).foldl (fun (a : Nat × Bool) b => let c := a.2 != b; (2 * a.1 + (if c then 1 else 0), c)) (0, false)).1

/-- A faulted read (R192). -/
def Dev.posReadFault (d : Dev) (p cause : Nat) : Dev :=
  let x := d.posAt p
  let n := x.errRun + 1
  let y := { x with stale := true, errRun := min 15 n, faulted := (x.faulted + 1) % 256, readAt := none }
  if d.dget Reg.POS_SER2.ERR_LIMIT p ≤ n && !x.fault then ((d.setPos p y).posFault p cause).emuFollow p
  else d.setPos p { y with cause := cause }

/-- A good read of word `w` started at sample `t` (R192, R193). -/
def Dev.posReadGood (d : Dev) (p w t : Nat) (warning : Bool) : Dev :=
  let x := d.posAt p
  let bits := d.dget Reg.POS_SER.BITS p
  let diff : Int := match x.word with
    | some v => signedOf bits (bitsOf bits ((w : Int) - v))
    | none => 0
  let y := { x with count := w, word := some w, acc := x.acc + diff, stale := false, errRun := 0
                    readAt := none, warning := warning }.nowValid t
  let z := if diff = 0 then y else y.edge diff.sign t diff.natAbs
  let d1 := (d.setPos p z).posClear p [1, 2, 3]
  let d2 := if warning != x.warning then
      d1.dieRaise (dieOf clsPOS p) 0x0402 (handle clsPOS p) [if warning then 1 else 0]
    else d1
  d2.emuFollow p

/-- R191: a read starts at a boundary whose tick is a multiple of READ_INT. -/
def execSerialReadStart (p : Nat) (s : State) : Host.Outcome State Fault Refusal :=
  s.onDev fun d =>
    let x := d.fd (dieOf clsPOS p)
    if d.posIn p posSER && (d.posAt p).readAt = none && (d.posAt p).readOn != x.bounds + 1 && x.tick % max 1 (d.dget Reg.POS_SER2.READ_INT p) = 0 then
      d.setPos p { d.posAt p with readAt := some x.clock, readOn := x.bounds + 1 }
    else d

/-- A number from its bits, most significant first. -/
def ofMsbBits (l : List Bool) : Nat := l.foldl (fun a b => 2 * a + (if b then 1 else 0)) 0

/-- Where the data bits of a read begin: the clock periods before them, none when the sensor does not acknowledge or no start bit comes (R189). -/
def serialLead (start : Bool) (clocks : List Bool) : Option Nat :=
  match clocks.findIdx? (fun b => !b) with
  | none => none
  | some a => if !start then (if a = 0 then some 1 else none) else ((clocks.drop a).findIdx? id).map fun n => a + n + 1

/-- R189, R190, R192: a read ends: acknowledge, start bit, BITS data bits and, with TRAILER, E, W and the CRC. -/
def execSerialReadEnd (p : Nat) (ack : Bool) (clocks : List Bool) (s : State) : Host.Outcome State Fault Refusal :=
  s.onDev fun d =>
    match (d.posAt p).readAt with
    | none => d
    | some t =>
      let clocks := ack :: clocks
      let bits := d.dget Reg.POS_SER.BITS p
      let lead := serialLead (d.disSet Reg.POS_SER.START p) clocks
      let late := fun (n : Nat) => decide (200 * d.dget Reg.POS_SER2.TIMEOUT p < (n - 1) * d.dget Reg.POS_SER.CLKDIV p)
      if !d.posIn p posSER then d
      else if (lead.map late).getD true then (if (lead.map late).getD (late clocks.length) then d.posReadFault p 3 else d)
      else
        let l := clocks.drop (lead.getD 0)
        let raw := ofMsbBits (l.take bits)
        let w := if d.disSet Reg.POS_SER.GRAY p then grayDecode raw bits else raw
        if l.length < bits + 8 * d.dget Reg.POS_SER.TRAILER p then d
        else if !d.disSet Reg.POS_SER.TRAILER p then d.posReadGood p w t false
        else
          let e := l.getD bits false
          let wn := l.getD (bits + 1) false
          let sent := ofMsbBits ((l.drop (bits + 2)).take 6)
          let crc := if d.disSet Reg.POS_SER.CRC_INV p then 63 - sent else sent
          let low := d.disSet Reg.POS_SER.EW_LOW p
          if crc != crc6 raw bits e wn then d.posReadFault p 1
          else if e != low then d.posReadFault p 2
          else d.posReadGood p w t (wn != low)

/-- R192: no acknowledge or start bit within TIMEOUT. -/
def execSerialReadTimeout (p : Nat) (s : State) : Host.Outcome State Fault Refusal :=
  s.onDev fun d =>
    match (d.posAt p).readAt with
    | some t => if d.posIn p posSER && d.samplesPassed (dieOf clsPOS p) t (200 * d.dget Reg.POS_SER2.TIMEOUT p) then d.posReadFault p 3 else d
    | none => d

/-! ### Descriptors (R207 to R209) -/

/-- R207, R208: POS_PRESET checked and put in the mailbox. -/
def bodyPosPreset (id : Nat) (x : Desc) (d : Dev) : Dev :=
  let h := x.u32 16
  if isNull h || !d.isHandle clsPOS h then d.fail id .badObject
  else if d.get Reg.POS_CFG.MODE (indexOf h) != posINC then d.fail id .badParam
  else d.post (dieOf clsPOS (indexOf h)) (.desc id)

/-- R207: POS_PRESET at its apply tick. -/
def Dev.applyPosPreset (d : Dev) (id : Nat) (x : Desc) : Dev :=
  let p := indexOf (x.u32 16)
  let n := signedOf 40 (x.u32 20 + 2 ^ 32 * x.byte 24)
  if d.dget Reg.POS_CFG.MODE p != posINC then d.fail id .badParam
  else ((d.setPos p ({ d.posAt p with count := n }.nowValid (d.posTime p 0))).posClear p [4, 5]).emuFollow p |>.done id 0

/-- R207, R208: POS_CHECK checked and put in the mailbox. -/
def bodyPosCheck (id : Nat) (x : Desc) (d : Dev) : Dev :=
  let h := x.u32 16
  let p := indexOf h
  if isNull h || !d.isHandle clsPOS h then d.fail id .badObject
  else if x.byte 20 = 0 || d.get Reg.POS_CFG.MODE p != posINC || !d.isSet Reg.POS_CFG.INDEX p then d.fail id .badParam
  else if (d.posAt p).check.isSome then d.fail id .refusedBusy
  else d.post (dieOf clsPOS p) (.desc id)

/-- R200, R207: POS_CHECK at its apply tick. -/
def Dev.applyPosCheck (d : Dev) (id : Nat) (x : Desc) : Dev :=
  let p := indexOf (x.u32 16)
  if (d.posAt p).check.isSome then d.fail id .refusedBusy else d.posCheckBegin p 2 (some id)

/-- R207, R208: EMU_FORCE checked and put in the mailbox. -/
def bodyEmuForce (id : Nat) (x : Desc) (d : Dev) : Dev :=
  let h := x.u32 16
  if isNull h || !d.isHandle clsEMU h then d.fail id .badObject
  else if 1 < x.byte 24 || 2000000 < (x.s32 20).natAbs then d.fail id .badParam
  else d.post (dieOf clsEMU (indexOf h)) (.desc id)

/-- EMU `e` re-aligned, its lag looked at (R203, R204). -/
def Dev.emuRealign (d : Dev) (e : Nat) : Dev := (d.emuAlign e).emuCheckLag e

/-- R204, R207: EMU_FORCE at its apply tick; a release re-aligns. -/
def Dev.applyEmuForce (d : Dev) (id : Nat) (x : Desc) : Dev :=
  let h := x.u32 16
  let d1 := if x.byte 24 = 1 then d.setForce h (some (x.u32 20))
    else if (d.forceOf h).isSome then (d.setForce h none).emuRealign (indexOf h) else d
  d1.done id 0

/-- R207, R209: POS_ABORT of a POS_CHECK that waits in the mailbox or runs goes to the port's die behind it. -/
def settlePos (id : Nat) (r : Rec) (d : Dev) : Dev := d.post (dieOf clsPOS (indexOf (r.d.u32 16))) (.abort id r.id)

/-- R209: POS_ABORT at its apply tick: a check still running ends ABORTED, FAULT as it is; one whose index pulse came first has finished. -/
def Dev.applyPosAbort (d : Dev) (id target : Nat) : Dev :=
  match d.rec? target with
  | none => d.fail id .nothingToAbort
  | some r =>
    let p := indexOf (r.d.u32 16)
    let x := d.posAt p
    let mine := match x.check with
      | some c => c.desc == some target
      | none => false
    if !d.isRunning target then d.fail id .nothingToAbort
    else ((if mine then d.setPos p { x with check := none } else d).fail target .aborted).done id 0

/-- R209: POS_ABORT. -/
def bodyPosAbort (id : Nat) (x : Desc) (d : Dev) : Dev :=
  if 63 < x.u16 20 then d.fail id .badParam else d.abortDesc id (x.u16 20) (x.u32 16) [0x0402] settlePos

/-- R207. -/
def execPosPreset (q : Nat) (x : Desc) (s : State) : Host.Outcome State Fault Refusal :=
  s.onDev fun d => d.submit q x 0x0401 [(16, 9)] bodyPosPreset

/-- R200, R207. -/
def execPosCheck (q : Nat) (x : Desc) (s : State) : Host.Outcome State Fault Refusal :=
  s.onDev fun d => d.submit q x 0x0402 [(16, 5)] bodyPosCheck

/-- R207. -/
def execEmuForce (q : Nat) (x : Desc) (s : State) : Host.Outcome State Fault Refusal :=
  s.onDev fun d => d.submit q x 0x0403 [(16, 9)] bodyEmuForce

/-- R209. -/
def execPosAbort (q : Nat) (x : Desc) (s : State) : Host.Outcome State Fault Refusal :=
  s.onDev fun d => d.submit q x 0x0404 [(16, 6)] bodyPosAbort

/-! ### Configuration (R183, R188, R191, R211) and page 4 (R199) -/

/-- Whether a write of `v` to the register at offset `off` of element `i` meets the POS rules that span fields (R60, R191, R212). -/
def Dev.posWriteOk (d : Dev) (off p v : Nat) : Bool :=
  let bits := if off = Reg.POS_SER.BITS.addr p then bitsAt v 0 6 else d.get Reg.POS_SER.BITS p
  let trail := if off = Reg.POS_SER.BITS.addr p then bitsAt v 6 1 else d.get Reg.POS_SER.TRAILER p
  let div := if off = Reg.POS_SER.BITS.addr p then bitsAt v 16 16 else d.get Reg.POS_SER.CLKDIV p
  let tmo := if off = Reg.POS_SER2.TIMEOUT.addr p then bitsAt v 0 8 else d.get Reg.POS_SER2.TIMEOUT p
  let int := if off = Reg.POS_SER2.TIMEOUT.addr p then bitsAt v 8 8 else d.get Reg.POS_SER2.READ_INT p
  let single := if off = Reg.POS_LINES.LINES.addr p then bitsAt v 24 5 else d.get Reg.POS_LINES.SINGLE_BITS p
  if off = Reg.POS_CFG.MODE.addr p then bitsAt v 4 2 < 3 || 3 ≤ d.bl
  else if off = Reg.POS_LINES.LINES.addr p then single ≤ bits
  else if off = Reg.POS_SER.BITS.addr p || off = Reg.POS_SER2.TIMEOUT.addr p then
    -- n_c periods of CLKDIV samples of 5 ns, and TIMEOUT µs, within READ_INT ticks
    (bits + 2 + 8 * trail) * div + 200 * tmo ≤ 2000 * int && single ≤ bits
  else if off = Reg.POS_SCALE.C.addr p then coefOk v
  else true

/-- A change of MODE: the count and what the words show start again, FAULT and WARNING are left, a POS_CHECK stays until its timeout; homing and
the check at start stay done (R183, R188, R200, R210). -/
def Dev.posRestart (d : Dev) (p : Nat) : Dev :=
  let d1 := d.posClear p [1, 2, 3, 4, 5]
  let d2 := if (d.posAt p).warning then d1.dieRaise (dieOf clsPOS p) 0x0402 (handle clsPOS p) [0] else d1
  let x := d2.posAt p
  let host := (x.check.filter fun c => c.desc.isSome).map fun c => { c with base := none, reversed := false, good := 0 }
  d2.setPos p { PosSt.init with
    acc := x.acc, homeArmed := x.homeArmed, homed := x.homed, startDone := x.startDone, check := host, cause := x.cause, lastCounts := x.lastCounts
    scale := x.scale, faulted := x.faulted, seen := x.seen }

/-- A POS or EMU configuration write in effect at the die (R183, R188, R204, R211). -/
def Dev.posApplyWrite (d : Dev) (off p v : Nat) (plain : Dev → Dev) : Dev :=
  if off = Reg.POS_CFG.MODE.addr p then
    let m := bitsAt v 0 2
    let d1 := if m != d.dget Reg.POS_CFG.MODE p then d.posRestart p else d
    let d2 := if bitAt v 13 then d1.setPos p { d1.posAt p with homeArmed := true } else d1
    (plain d2).emuFollow p
  else if off = Reg.POS_SCALE.C.addr p then d.setPos p { d.posAt p with scale := v }
  else if off = Reg.POS_SCALE_SH.S.addr p then (plain d).dput Reg.POS_SCALE.C p (d.posAt p).scale
  else plain d

/-- An EMU_CFG or EMU_LINES write in effect at the die: re-alignment on enable, the fault of the source named (R203, R204). -/
def Dev.emuApplyCfg (d : Dev) (e : Nat) (plain : Dev → Dev) : Dev :=
  let was := d.disSet Reg.EMU_CFG.ENABLE e
  let d1 := (plain d).emuSense e
  (if !was && d1.disSet Reg.EMU_CFG.ENABLE e then d1.emuRealign e else d1).emuDrive e

/-- What the ports and emulations of die `k` do when it returns from SAFE to RUN (R200, R204). -/
def Dev.posLeaveSafe (d : Dev) (k : Nat) : Dev :=
  let d1 := (List.range 4).foldl (fun x j => x.posCheckRecover (globalOf clsPOS k j)) d
  (List.range 2).foldl (fun x j => x.emuRealign (globalOf clsEMU k j)) d1

/-- The configuration that a start brings to the dies: each port's staged scale is the restored one (R211), each enabled EMU aligns (R204). -/
def Dev.posLinksUp (d : Dev) : Dev :=
  let d1 := (List.range 8).foldl (fun (y : Dev) p => y.setPos p { y.posAt p with scale := y.get Reg.POS_SCALE.C p }) d
  (List.range 4).foldl (fun y e => ((y.emuSense e).emuRealign e).emuDrive e) d1

/-- The forces on EMUs dropped by a reset of the core die: each aligns on its release (R204, R533). -/
def Dev.emuReleased (d : Dev) (es : List Nat) : Dev := es.foldl (fun y e => y.emuRealign e) d

/-- The boundary of die `k`: every port is evaluated. -/
def Dev.posBoundary (d : Dev) (k : Nat) : Dev :=
  (List.range 4).foldl (fun x j => x.posEvaluate (globalOf clsPOS k j)) d

/-- The two POS words of the up frame latched at `tick` (R144, R198). -/
def Dev.posWords (d : Dev) (k tick : Nat) : List Produced :=
  (List.range 2).map fun j =>
    let p := globalOf clsPOS k (2 * (tick % 2) + j)
    { name := d.name clsPOS p, qty := 0, word := d.posWord p (d.dget Reg.POS_CFG.REPORT p) tick }

/-- Flags of a port (R199); `inc` that it is in incremental mode, where alone a check runs (R200). -/
def PosSt.flags (x : PosSt) (inc : Bool) : Nat :=
  (if x.fault then 1 else 0) + (if x.warning then 2 else 0) + (if x.check.isSome && inc then 4 else 0)
    + (if x.homed then 8 else 0) + (if !x.valid || x.reversing then 16 else 0) + 32 * x.cause

/-- The port and emulation part of status page 4: per port the secondary value, its status, flags and faulted reads; per EMU
flags and lag (R199). -/
def Dev.posPage (d : Dev) (k : Nat) : List Nat :=
  (List.range 4).flatMap (fun j =>
    let p := globalOf clsPOS k j
    let w := d.posWord p (1 - d.dget Reg.POS_CFG.REPORT p) 0
    [w.value.toNat, w.status.toNat, (d.posAt p).flags (d.dget Reg.POS_CFG.MODE p == posINC), (d.posAt p).faulted]) ++
  (List.range 2).flatMap (fun j =>
    let e := globalOf clsEMU k j
    let x := d.emuAt e
    [(if x.overspeed then 1 else 0) + (if x.sourceFault then 2 else 0)
      + (if (d.forceOf (handle clsEMU e)).isSome then 4 else 0) + (if (d.fd k).state == .safe then 8 else 0),
     min 255 (d.emuLag e)])

/-- Its 32 bytes (R199). -/
def posPageBytes (l : List Nat) : List Nat :=
  (List.range 4).flatMap (fun j => leBytes 4 (l.getD (4 * j) 0) ++ ((l.drop (4 * j + 1)).take 3).map (· % 256)) ++ (l.drop 16).map (· % 256)

/-- That part of page 4 taken by the core die (R199, R206). -/
def Dev.takePosPage (d : Dev) (k tick : Nat) (l : List Nat) : Dev :=
  let d1 := (List.range 4).foldl (fun (x : Dev) j =>
    let p := globalOf clsPOS k j
    let w : VW := { value := BitVec.ofNat 32 (l.getD (4 * j) 0), status := BitVec.ofNat 8 (l.getD (4 * j + 1) 0)
                    stamp := BitVec.ofNat 24 tick }
    let y := x.posAt p
    let more := (l.getD (4 * j + 3) 0 + 256 - y.seen) % 256
    (((x.put Reg.POS_SECOND.VALUE p w.bits).put Reg.POS_STAT.FLAGS p (l.getD (4 * j + 2) 0)).put Reg.POS_ERR.FAULTED p
      (min 0xFFFF (x.get Reg.POS_ERR.FAULTED p + more))).setPos p { y with seen := l.getD (4 * j + 3) 0 }) d
  (List.range 2).foldl (fun (x : Dev) j =>
    let e := globalOf clsEMU k j
    let f := l.getD (16 + 2 * j) 0
    let n := l.getD (17 + 2 * j) 0
    ((x.put Reg.EMU_STAT.FLAGS e f).put Reg.EMU_STAT.LAG e n).produce (d.name clsEMU e) 0 (emuWord f n tick)) d1

end Sys2Proof.Machine
end

