-- ==== Sys2Proof/Machine/Envelope.lean ====
section
/-! DEFINITION. Signed envelopes and the manifest: the checks that every signed image and staged block shares (19_security.md). -/

namespace Sys2Proof.Machine
open Sys2Proof

/-- The first 8 bytes of the digest of a public key (19_security.md). -/
def fingerprint (key : List Nat) : List Nat := (Config.sha512 key).take 8

/-- Bytes `[a, a + n)` of a list. -/
def slice (bs : List Nat) (a n : Nat) : List Nat := (bs.drop a).take n

/-- Whether every byte of a list is 0. -/
def allZero (bs : List Nat) : Bool := bs.all (· == 0)

/-- Where the payload begins (R644). -/
def payloadAt (bs : List Nat) : Nat := if bs.getD 3 0 = 3 then 320 else 192

/-- The payload of an envelope. -/
def payloadOf (bs : List Nat) : List Nat := bs.drop (payloadAt bs)

/-- Whether the device has an owner key in force (R646). -/
def Dev.owned (d : Dev) : Bool := d.get Reg.GLOBAL_SEAL.OWNER_STATE 0 != 0

/-- Whether the signer of an envelope is accepted for its kind, with the key the device holds (R645). A handover is signed by
the present owner, or in MANUFACTURED by the key it installs (R646). -/
def Dev.signerOk (d : Dev) (bs : List Nat) : Bool :=
  let kind := bs.getD 2 0
  let key := slice bs 24 32
  match bs.getD 3 0 with
  | 1 => (1 ≤ kind && kind ≤ 4) && key == Config.vendorKey
  | 2 =>
    if kind = 7 then (if d.owned then key == d.sec.ownerKey else key == (payloadOf bs).take 32)
    else (2 ≤ kind && kind ≤ 4) && d.owned && key == d.sec.ownerKey
  | 3 => kind == 5 && key == slice bs 192 32 && slice (payloadOf bs) 24 8 == (if d.owned then fingerprint d.sec.ownerKey else List.replicate 8 0)
  | _ => false

/-- Whether the signatures hold: the envelope's own, and for signer 3 the certificate's under the vendor key (R643, R645). -/
def signatureOk (bs : List Nat) : Bool :=
  Config.ed25519Verify (slice bs 24 32) (bs.take 128) (slice bs 128 64)
    && (bs.getD 3 0 != 3 || Config.ed25519Verify Config.vendorKey (slice bs 192 64) (slice bs 256 64))

/-- The checks of R645 on an image of the descriptor's length, for the kind it expects: 0, or the first failing code. -/
def Dev.envelopeCode (d : Dev) (bs : List Nat) (kind : Nat) : Nat :=
  let zeros := allZero (slice bs 12 4) && allZero (slice bs 56 8) && (bs.getD 2 0 == 1 || leAt bs 8 4 == 0)
  let fpr := slice bs 16 8
  if bs.length < payloadAt bs || leAt bs 0 2 != 1 || !zeros || bs.length != payloadAt bs + leAt bs 4 4 then 1
  else if bs.getD 2 0 != kind then 2
  else if !allZero fpr && fpr != fingerprint Config.identityKey then 3
  else if slice bs 64 64 != Config.sha512 (payloadOf bs) then 4
  else if !d.signerOk bs then 5
  else if !signatureOk bs then 6
  else if kind = 1 && leAt bs 8 4 < d.get Reg.FW_SVN.MIN_SVN 0 then 7
  else 0

/-- IMAGE_REFUSED (R656). -/
def Dev.imageRefused (d : Dev) (kind code op : Nat) : Dev :=
  d.raiseCounted 0x1002 d.nullName d.tick ([kind, code] ++ leBytes 2 op) none

/-- The status of a failed envelope check (R645). -/
def envelopeStatus (code : Nat) : Status := if code ≤ 2 then .badParam else .authFailed

/-- An image of `len` bytes from word `w` on: none when a word of it is uncorrectable (R33). -/
def Dev.readImage (d : Dev) (w len : Nat) : Option (List Nat) × Dev :=
  let r := d.readWords w ((len + 31) / 32) readerCore
  (r.1.map fun bs => bs.take len, r.2)

/-- Whether an image of `len` bytes from word `w` on lies in the shared memory. -/
def imageFits (w len : Nat) : Bool := w + (len + 31) / 32 ≤ memWords

/-- Whether the active manifest of a sealed device lets a block act (R648). -/
def Dev.manifestOk (d : Dev) (obj opcode : Nat) (block : List Nat) : Bool :=
  if d.get Reg.GLOBAL_SEAL.OWNER_STATE 0 != 2 then true
  else match d.sec.manifest with
    | none => true
    | some es => es.any fun e => e.1 == obj && e.2.1 == opcode && e.2.2 == Config.sha512 block

end Sys2Proof.Machine
end

