-- ==== Sys2Proof/Machine/Shuttle.lean ====
section
/-! DEFINITION. Solenoid channels, banks, tokens and shuttle programs (09_valve_drive_shuttle.md). -/

namespace Sys2Proof.Machine
open Sys2Proof

/-! ### Channels and banks -/

/-- A channel OFF. -/
def SolSt.init : SolSt :=
  { state := .off, path := .open, wait := .none, origin := .level, pc := 0, release := 0, copy := 0, target := 0, acc := 0
    notReached := false, denied := false, ttpOut := false, tokens := 0, since := 0, inRelease := false, level := false
    due := false, skipRetry := false, skipOn := 0, startAt := 0, startTick := 0, startOn := 0, closedAt := 0, peakAt := 0, onAt := 0
    peakWait := 0, peakMax := 0, overlap := false, energised := false, firstTtp := 0xFFFF, lastTtp := 0, decayUs := 0
    current := 0, ohms := 0xFFFFFFFF, params := [], tmin := 0, tmax := 0, ttpCheck := false, action := 0, decay := 0
    cause := 0, hot := false }

/-- A bank at the start of its die. -/
def BankSt.init : BankSt :=
  { fault := false, cause := 0, hot := false, skipped := 0, active := 0, highSide := false, period := 2500, periodAt := 0, ram0 := [], ram1 := [] }

/-- Channel `c`. -/
def Dev.sol (d : Dev) (c : Nat) : SolSt := Map.get d.shut.sols c SolSt.init

/-- Channel `c` set. -/
def Dev.setSol (d : Dev) (c : Nat) (x : SolSt) : Dev :=
  { d with shut := { d.shut with sols := Map.set d.shut.sols c x SolSt.init } }

/-- Bank `b`. -/
def Dev.bank (d : Dev) (b : Nat) : BankSt := Map.get d.shut.banks b BankSt.init

/-- Bank `b` set. -/
def Dev.setBank (d : Dev) (b : Nat) (x : BankSt) : Dev :=
  { d with shut := { d.shut with banks := Map.set d.shut.banks b x BankSt.init } }

/-- Free tokens of die `k` (R355). -/
def Dev.freeTokens (d : Dev) (k : Nat) : Nat := if k = 0 then d.shut.freeA else d.shut.freeB

/-- Free tokens of die `k` set. -/
def Dev.setFreeTokens (d : Dev) (k n : Nat) : Dev :=
  if k = 0 then { d with shut := { d.shut with freeA := n } } else { d with shut := { d.shut with freeB := n } }

/-- The bank of a channel. -/
def bankOf (c : Nat) : Nat := c / 4

/-- The four channels of a bank. -/
def bankSols (b : Nat) : List Nat := (List.range 4).map fun j => 4 * b + j

/-- The sixteen channels of die `k`. -/
def dieSols (k : Nat) : List Nat := (List.range 16).map fun j => 16 * k + j

/-- Whether channel `c` is in the part and its die works. -/
def Dev.solHere (d : Dev) (c : Nat) : Bool := c < d.classCount clsSOL && d.dieLive (dieOf clsSOL c)

/-- Whether the pair that holds channel `c` is joined at the die (R359). -/
def Dev.solPaired (d : Dev) (c : Nat) : Bool :=
  if c % 4 < 2 then d.disSet Reg.BANK_CFG.PAIR01 (bankOf c) else d.disSet Reg.BANK_CFG.PAIR23 (bankOf c)

/-- The odd channel of a joined pair, at the die. -/
def Dev.solOdd (d : Dev) (c : Nat) : Bool := c % 2 == 1 && d.solPaired c

/-- The odd channel of a joined pair, by the registers. -/
def Dev.solOddReg (d : Dev) (c : Nat) : Bool :=
  c % 2 == 1 && (if c % 4 < 2 then d.isSet Reg.BANK_CFG.PAIR01 (bankOf c) else d.isSet Reg.BANK_CFG.PAIR23 (bankOf c))

/-- The channel whose state a channel shows (R359). -/
def Dev.solBase (d : Dev) (c : Nat) : Nat := if d.solOdd c then c - 1 else c

/-- CLK_FLD cycle `t` of the present tick of channel `c`'s die, as its clock counts cycles (R139). -/
def Dev.solTime (d : Dev) (c t : Nat) : Nat := (d.fd (dieOf clsSOL c)).clock / 4 + t

/-- Whether a channel is energised (R340). -/
def SolSt.isOn (x : SolSt) : Bool := x.state == .peak || x.state == .hold

/-- Whether a shot is in progress. -/
def SolSt.inShot (x : SolSt) : Bool := x.state == .running || x.isOn

/-- Bank state codes of R340: 0 IDLE, 1 PEAK, 2 HOLD, 3 DECAY. -/
def Dev.bankState (d : Dev) (b : Nat) : Nat :=
  let xs := (bankSols b).map d.sol
  if xs.any (fun x => x.state == .peak) then 1
  else if xs.any (fun x => x.state == .hold) then 2
  else if xs.any (fun x => x.state == .ending) then 3 else 0

/-- Whether another channel of the bank of `c` is energised. -/
def Dev.othersOn (d : Dev) (c : Nat) : Bool := (bankSols (bankOf c)).any fun j => j != c && (d.sol j).isOn

/-- A decay mode as a path (R339). -/
def decayPath (mode : Nat) : SolPath := if mode = 0 then .slow else if mode = 1 then .fast else .clamped

/-- The decay of a channel that ends (R341). -/
def Dev.endingPath (d : Dev) (c mode : Nat) : SolPath := if d.othersOn c then .clamped else decayPath mode

/-- The decay of a chopping channel (R341). -/
def Dev.choppingPath (d : Dev) (c mode : Nat) : SolPath :=
  if mode = 0 then .slow
  else if mode = 2 then .clamped
  else if d.bankState (bankOf c) = 1 then .clamped
  else if d.othersOn c then .slow else .fast

/-- The effective target of R336. -/
def effectiveTarget (peak pair : Bool) (t : Nat) : Nat :=
  let lo := (if peak then 200 else 50) * (if pair then 2 else 1)
  let hi := (if peak then 3000 else 1500) * (if pair then 2 else 1)
  if t = 0 then 0 else min hi (max lo t)

/-- The high side of a bank as its state asks (R340): in HOLD closed while an energised channel's path is closed. -/
def Dev.driveBank (d : Dev) (b : Nat) : Dev :=
  let on := match d.bankState b with
    | 1 => true
    | 2 => (bankSols b).any fun c => (d.sol c).path == .closed
    | _ => false
  d.setBank b { d.bank b with highSide := on && !(d.bank b).fault }

/-- An energising path of channel `c` closes at cycle `now`: the first of its shot is noted, and a bank that leaves IDLE begins its period
clock anew (R338, R364). `x` is the channel as it then stands. -/
def Dev.solClose (d : Dev) (c now : Nat) (x : SolSt) : Dev :=
  let b := bankOf c
  let d1 := if d.bankState b = 0 then d.setBank b { d.bank b with periodAt := now } else d
  d1.setSol c { x with path := .closed, energised := true, onAt := if x.energised then x.onAt else now + 1 }

/-- The peak phase of a channel ends and its tokens return (R354, R357). -/
def Dev.endPeak (d : Dev) (c : Nat) : Dev :=
  let x := d.sol c
  let k := dieOf clsSOL c
  if x.state = .peak then
    (d.setSol c { x with state := .hold, tokens := 0 }).setFreeTokens k (d.freeTokens k + x.tokens)
  else d

/-! ### Ends of shots and faults (R341, R344, R360, R361) -/

/-- SOL_SHOT `id` on channel `c` is over: the host stops being the channel's writer, unless another SOL_SHOT on it has started and not
completed (R344). -/
def Dev.shotOver (d : Dev) (id c : Nat) : Dev :=
  let h := handle clsSOL c
  let more := d.recs.any fun r => r.phase == .running && r.id != id && r.d.u16 0 == 0x0802 && r.d.u32 16 == h
  if d.writerOf h = 1 && !more then d.setWriter h 0 else d

/-- The completion of a one-shot: first time-to-peak, outcome, start tick (R366). -/
def Dev.solComplete (d : Dev) (c : Nat) (st : Status) (outcome : Nat) : Dev :=
  let x := d.sol c
  match x.origin with
  | .oneShot id => (d.shotOver id c).finish id st (x.firstTtp + 2 ^ 16 * outcome + 2 ^ 32 * (x.startTick % 2 ^ 32))
  | _ => d

/-- A shot ends: its peak phase, its waits, the path it takes, its state, and a one-shot's completion. -/
def Dev.solEnd (d : Dev) (c : Nat) (path : SolPath) (final : SolState) (st : Status) (outcome : Nat) : Dev :=
  let d1 := d.endPeak c
  let x := d1.sol c
  let f := if final = .ending && !x.energised then .off else final
  let d2 := d1.setSol c { x with state := f, path := if x.energised then path else .open, wait := .none, inRelease := false }
  let d3 := d2.solComplete c st outcome
  (d3.setSol c { d3.sol c with origin := .level }).driveBank (bankOf c)

/-- SOL_FAULT of a channel, entered or left (R371). -/
def Dev.solFaultEvent (d : Dev) (c : Nat) (on : Bool) (cause pc : Nat) : Dev :=
  d.dieRaise (dieOf clsSOL c) 0x0803 (handle clsSOL c) ([if on then 1 else 0, cause] ++ leBytes 2 pc)

/-- A channel fault (R361): the shot ends by the given path and the channel is in FAULT. -/
def Dev.solFault (d : Dev) (c cause : Nat) (path : SolPath) : Dev :=
  let pc := (d.sol c).pc
  let d1 := d.solEnd c path .fault .dataError 2
  (d1.setSol c { d1.sol c with cause := cause, skipRetry := false }).solFaultEvent c true cause pc

/-- A shot that something outside its program ends CLAMPED: an abort, SAFE, VF24 low, a bank fault. -/
def Dev.solCut (d : Dev) (c : Nat) (st : Status) (outcome : Nat) : Dev :=
  if (d.sol c).inShot then d.solEnd c .clamped .ending st outcome else d

/-! ### Programs (R347 to R350) -/

/-- The program "peak, peak-hold, hold" of the ROM library from an address on: R350 lists PH; `fin` is the decay of its END. -/
def romPH (base fin : Nat) : List Nat :=
  [0x18000000, 0x28000003, 0x61000000 + (base + 6) % 256, 0x38000002, 0x18000001, 0x300C0000, fin * 0x10000]

/-- PH_SYNC: SYNC at P4, then as PH (R350). -/
def romSync : List Nat := 0x88000004 :: romPH 0x111 2

/-- PH_REPEAK: as PH, with a further peak after every P5 ms of hold (R350). -/
def romRepeak : List Nat :=
  [0x18000000, 0x28000003, 0x6100003C, 0x38000002, 0x18000001, 0x38080005, 0x18000000, 0x28000003, 0x65000034, 0x6100003C,
   0x38000002, 0x60000034, 0x00020000]

/-- PULSE: peak and hold at P0 for P2 inside the peak phase, END FAST (R350). -/
def romPulse : List Nat := [0x18000000, 0x28000003, 0x61000045, 0x38000002, 0x00010000, 0x00010000]

/-- PH_LOG: as PH, with the time-to-peak logged under tag 1 and the coil resistance after P5 ms of hold under tag 2 (R350). -/
def romLog : List Nat :=
  [0x18000000, 0x28000003, 0x50000001, 0x90000001, 0x6100005A, 0x38000002, 0x18000001, 0x38080005, 0x6000005B, 0x00020000,
   0x00020000, 0x50000004, 0x90000002, 0x300C0000]

/-- A word of the ROM library. -/
def romWord (pc : Nat) : Nat :=
  let at_ := fun (base : Nat) (l : List Nat) => if base ≤ pc && pc < base + l.length then some (l.getD (pc - base) 0) else none
  ((at_ 0x100 (romPH 0x100 2)) <|> (at_ 0x110 romSync) <|> (at_ 0x120 (romPH 0x120 1)) <|> (at_ 0x130 romRepeak)
    <|> (at_ 0x140 romPulse) <|> (at_ 0x150 romLog)).getD 0

/-- The entry and release pairs of the ROM library (R350). -/
def romPairs : List (Nat × Nat) :=
  [(0x100, 0x106), (0x110, 0x117), (0x120, 0x126), (0x130, 0x13C), (0x140, 0x145), (0x150, 0x15A)]

/-- A slot that SHUTTLE_ENTRY may hold: RAM addresses, or a pair of the ROM library (R350). -/
def programSlotOk (entry release : Nat) : Bool := (entry < 256 && release < 256) || romPairs.contains (entry, release)

/-- The word of bank `b` at an address, by the RAM copy of the shot (R347). -/
def Dev.solWord (d : Dev) (b copy pc : Nat) : Nat :=
  if pc < 256 then Map.get (if copy = 0 then (d.bank b).ram0 else (d.bank b).ram1) pc 0 else romWord pc

/-- The address after `pc`; 0x200 stands for one past the space (R349). -/
def nextPc (pc : Nat) : Nat := if pc % 256 = 255 then 0x200 else pc + 1

/-- A numeric operand: the immediate field, or with IND the parameter held within the field's valid values (R348). -/
def SolSt.operand (x : SolSt) (w imm lo hi : Nat) : Nat :=
  if bitAt w 27 then min hi (max lo (x.params.getD (w % 8) 0)) else imm

/-- What MEASURE puts into A (R348). -/
def Dev.solMeasure (d : Dev) (c q now : Nat) : Nat :=
  let x := d.sol c
  match q with
  | 0 => x.current
  | 1 => x.lastTtp
  | 2 => if dieOf clsSOL c = 0 then d.shut.vf24A else d.shut.vf24B
  | 3 => (roundDiv (now - x.startAt : Nat) 500).toNat
  | 4 => x.ohms
  | _ => x.decayUs

/-- A BRANCH condition (R348). -/
def SolSt.holds (x : SolSt) (cond k : Nat) : Bool :=
  match cond with
  | 0 => true
  | 1 => x.notReached
  | 2 => x.ttpOut
  | 3 => x.params.getD k 0 ≤ x.acc
  | 4 => x.acc < x.params.getD k 0
  | _ => x.denied

/-- CHOP begins: the channel is energised when its effective target is not 0 (R336, R340). -/
def Dev.solChop (d : Dev) (c mode now : Nat) (next : SolWait) : Dev :=
  let x := d.sol c
  let on := effectiveTarget (x.state == .peak) (d.solPaired c) x.target != 0
  let y := { x with wait := next, since := now, decay := mode }
  let d1 := if on then d.solClose c now { y with state := if x.state = .peak then .peak else .hold }
    else if x.state = .peak then d.setSol c { y with path := .open }
    else d.setSol c { y with state := .running, path := if x.isOn then decayPath mode else x.path }
  d1.driveBank (bankOf c)

/-- Cycles of a duration unit: 1 µs, 10 µs, 1 ms (R348). -/
def unitCycles (u : Nat) : Nat := if u = 0 then 50 else if u = 1 then 500 else 50000

/-- The cycles that the waiting instruction of channel `c` lasts: a CHOP's or WAIT's duration, the timeout of a WAIT_PEAK or DECAY (R348). -/
def Dev.solSpan (d : Dev) (c : Nat) : Nat :=
  let x := d.sol c
  let w := d.solWord (bankOf c) x.copy x.pc
  if w / 2 ^ 28 = 2 then 50 * x.operand w (bitsAt w 0 16) 1 65535
  else if w / 2 ^ 28 = 7 then 50 * x.operand w (bitsAt w 0 16) 0 65535
  else unitCycles (bitsAt w 18 2) * x.operand w (bitsAt w 0 16) 0 65535

/-- Whether those cycles are over at cycle `now` (R347: a waiting instruction is timed from its own start). -/
def Dev.solPassed (d : Dev) (c now : Nat) : Bool := (d.sol c).since + d.solSpan c ≤ now

/-- One instruction of channel `c` at cycle `now` (R348); true when the program goes on at once. -/
def Dev.solStep (d : Dev) (c now : Nat) : Dev × Bool :=
  let x := d.sol c
  let w := d.solWord (bankOf c) x.copy x.pc
  let go := fun (y : Dev) => (y.setSol c { y.sol c with pc := nextPc x.pc }, true)
  match w / 2 ^ 28 with
  | 0 =>
    (d.solEnd c (d.endingPath c (bitsAt w 16 2)) .ending (if x.ttpOut || x.firstTtp = 0xFFFE then .dataError else .ok) 0, false)
  | 1 =>
    let y := d.endPeak c
    go (y.setSol c { y.sol c with target := x.operand w (bitsAt w 0 13) 0 6000 })
  | 2 =>
    if x.state = .peak then (d.solClose c now { x with wait := .target, since := now, closedAt := now }, false)
    else (d.setSol c { x with wait := .grant, since := now, peakWait := d.dget Reg.BANK_CFG.PEAK_WAIT (bankOf c)
                              peakMax := d.dget Reg.BANK_CFG2.PEAK_MAX (bankOf c) }, false)
  | 3 => (d.solChop c (bitsAt w 16 2) now (if bitsAt w 18 2 = 3 then .chopRelease else .chop), false)
  | 4 => (d.setSol c { x with wait := if bitsAt w 18 2 = 3 then .waitRelease else .wait, since := now }, false)
  | 5 => go (d.setSol c { x with acc := d.solMeasure c (bitsAt w 0 4) now % 2 ^ 32 })
  | 6 =>
    if x.holds (bitsAt w 24 3) (bitsAt w 8 3) then (d.setSol c { x with pc := x.pc / 256 * 256 + w % 256 }, true) else go d
  | 7 =>
    let p := d.endingPath c (bitsAt w 16 2)
    let y := d.endPeak c
    let z := { y.sol c with state := .running, path := if x.isOn then p else x.path, wait := .decay, since := now }
    let tmo := x.operand w (bitsAt w 0 16) 0 65535
    let e := (y.setSol c (if tmo = 0 then { z with wait := .none } else z)).driveBank (bankOf c)
    if tmo = 0 then go e else (e, false)
  | 8 => (d.setSol c { x with wait := .sync, since := now }, false)
  | 9 =>
    go (d.dieRaise (dieOf clsSOL c) 0x0805 (handle clsSOL c)
      ([bitsAt w 0 8, 0] ++ leBytes 2 (min 0xFFFF x.acc) ++ leBytes 4 (roundDiv (now - x.startAt : Nat) 50).toNat))
  | _ => (d.solFault c 1 .clamped, false)

/-- A program runs until it waits or ends; the 256th instruction in a row without a wait, and an address past the space,
are program faults (R349). An instruction that does not wait takes four cycles (R347). -/
def Dev.solRun : Nat → Dev → Nat → Nat → Dev
  | 0, d, c, _ => d.solFault c 1 .clamped
  | n + 1, d, c, now =>
    if 0x200 ≤ (d.sol c).pc then d.solFault c 1 .clamped
    else
      let r := d.solStep c now
      if r.2 then Dev.solRun n r.1 c (now + 4) else r.1

/-- The program goes on after its waiting instruction. -/
def Dev.solResume (d : Dev) (c now : Nat) : Dev :=
  let x := d.sol c
  Dev.solRun 256 (d.setSol c { x with wait := .none, pc := nextPc x.pc }) c now

/-- A shot starts at the present boundary with a slot and the active RAM copy (R343, R347, R373). -/
def Dev.solStart (d : Dev) (c slot : Nat) (origin : ShotOrigin) : Dev :=
  let b := bankOf c
  let now := d.solTime c 0
  let x := d.sol c
  let k := d.fd (dieOf clsSOL c)
  let y := { SolSt.init with
    state := .running, origin := origin, copy := (d.bank b).active, startAt := now, startTick := k.tick, startOn := k.bounds
    level := x.level, hot := x.hot, overlap := d.disSet Reg.BANK_CFG.PEAK_OVERLAP b
    lastTtp := 0, current := x.current, ohms := x.ohms
    pc := d.dget Reg.SHUTTLE_ENTRY.ENTRY (8 * b + slot), release := d.dget Reg.SHUTTLE_ENTRY.RELEASE (8 * b + slot)
    params := (List.range 8).map fun k => d.dget Reg.SOL_P.VALUE (8 * c + k)
    tmin := d.dget Reg.SOL_TTP.TMIN c, tmax := d.dget Reg.SOL_TTP.TMAX c
    ttpCheck := d.disSet Reg.SOL_CFG.TTP_CHECK c, action := d.dget Reg.SOL_CFG.TTP_ACTION c }
  let d1 := if d.live then d.saveCount (0x510 + 4 * c) else d
  let d2 := d1.setBank b { d1.bank b with period := 50000 / max 10 (d.dget Reg.BANK_CFG.CHOP_FREQ b) }
  Dev.solRun 256 (d2.setSol c y) c now

/-- A release (R345): ignored in the release path. -/
def Dev.solRelease (d : Dev) (c now : Nat) : Dev :=
  let x := d.sol c
  if !x.inShot || x.inRelease then d
  else
    let d1 := d.endPeak c
    let y := d1.sol c
    Dev.solRun 256 (d1.setSol c { y with wait := .none, inRelease := true, pc := y.release }) c now

/-! ### Time-to-peak (R351, R352) -/

/-- The result of a WAIT_PEAK: kept, and for the first of a shot compared with its window. The path opens as chopping asks
when the target was reached. -/
def Dev.solTtp (d : Dev) (c now us : Nat) (timeout : Bool) : Dev :=
  let x := d.sol c
  let first := x.firstTtp = 0xFFFF
  let v := if timeout then 0xFFFE else min 65533 us
  let y := { x with lastTtp := v, firstTtp := if first then v else x.firstTtp, notReached := x.notReached || timeout
                    path := if timeout then x.path else d.choppingPath c x.decay }
  let kind := if timeout then 3 else if v < x.tmin then 1 else if x.tmax < v then 2 else 0
  if !first || !x.ttpCheck || kind = 0 then (d.setSol c y).solResume c now
  else
    let k := dieOf clsSOL c
    let vf := if k = 0 then d.shut.vf24A else d.shut.vf24B
    let d1 := (d.setSol c { y with ttpOut := true }).dieRaise k 0x0801 (handle clsSOL c)
      ([kind, x.action] ++ leBytes 2 v ++ leBytes 2 x.tmin ++ leBytes 2 x.tmax ++ leBytes 4 (roundDiv (vf * 65536 : Nat) 1000).toNat)
    match x.action with
    | 0 => d1.solResume c now
    | 1 => d1.solEnd c .clamped .ending .dataError 1
    | _ => d1.solFault c 3 .clamped

/-- What a channel senses now, taken at its die (R348). -/
def Dev.solSense (d : Dev) (c : Nat) (m : SolSense) : Dev :=
  let d1 := d.setSol c { d.sol c with current := m.current, ohms := m.ohms.getD 0xFFFFFFFF }
  let d2 := match m.ohms with
    | some r => { d1 with fit := { d1.fit with coils := Map.insert d1.fit.coils c r } }
    | none => d1
  if dieOf clsSOL c = 0 then { d2 with shut := { d2.shut with vf24A := m.vf24 } }
  else { d2 with shut := { d2.shut with vf24B := m.vf24 } }

/-- R338, R348, R351: the current reaches the effective target: a WAIT_PEAK has its time-to-peak, a chopping path opens. -/
def execTargetReached (c t : Nat) (sense : SolSense) (s : State) : Host.Outcome State Fault Refusal :=
  s.onDev fun d =>
    let x := d.sol c
    let goal := effectiveTarget (x.state == .peak) (d.solPaired c) x.target
    if !d.solHere c || !x.isOn || sense.current < goal then d
    else
      let d1 := d.solSense c sense
      let now := d.solTime c t
      if x.wait = .target then d1.solTtp c now (roundDiv (now - x.closedAt : Nat) 50).toNat false
      else if x.path = .closed && decide ((d.bank (bankOf c)).periodAt + 50 ≤ now) then
        (d1.setSol c { d1.sol c with path := d1.choppingPath c x.decay }).driveBank (bankOf c)
      else d1

/-- R348, R351: a WAIT_PEAK's timeout passes. -/
def execWaitPeakTimeout (c t : Nat) (sense : SolSense) (s : State) : Host.Outcome State Fault Refusal :=
  s.onDev fun d =>
    let now := d.solTime c t
    if d.solHere c && (d.sol c).wait == .target && d.solPassed c now then (d.solSense c sense).solTtp c now 0 true else d

/-- R338: a chop period of a bank starts, one period after the one before: the energising paths close, in HOLD the high side with
them. -/
def execChopPeriodStart (c : ChopStart) (s : State) : Host.Outcome State Fault Refusal :=
  s.onDev fun d =>
    let b := c.bank
    let k := d.bank b
    let now := d.solTime (4 * b) c.cycle
    if b < d.classCount clsBANK && d.dieLive (dieOf clsBANK b) && !k.fault && d.bankState b != 0 && decide (k.periodAt + k.period ≤ now) then
      ((bankSols b).foldl (fun (y : Dev) c =>
        let x := y.sol c
        if x.isOn && effectiveTarget (x.state == .peak) (y.solPaired c) x.target != 0 then y.solClose c now x else y)
          (d.setBank b { k with periodAt := now })).driveBank b
    else d

/-- In HOLD the high side opens at 95 % of the period at the latest (R340). -/
def Dev.bankLate (d : Dev) (b : Nat) : Dev :=
  let k := d.bank b
  if d.bankState b = 2 && k.highSide && decide (100 * k.periodAt + 95 * k.period ≤ 100 * d.solTime (4 * b) 0) then
    d.setBank b { k with highSide := false }
  else d

/-! ### Peak grants (R354 to R358) -/

/-- Tokens of one grant of channel `c`. -/
def Dev.solNeeds (d : Dev) (c : Nat) : Nat := if d.solPaired c then 2 else 1

/-- Whether the request of channel `c` can be granted now (R355). -/
def Dev.solGrantable (d : Dev) (c : Nat) : Bool :=
  ((d.sol c).overlap
      || !(bankSols (bankOf c)).any (fun j => j != c && (d.sol j).state == .peak))
    && decide (d.solNeeds c ≤ d.freeTokens (dieOf clsSOL c))

/-- The grantable request of a die that arrived first; requests of one cycle rank by channel (R355). -/
def Dev.solFirst (d : Dev) (k : Nat) : Option Nat :=
  (dieSols k).foldl (fun best c =>
    if (d.sol c).wait == .grant && d.solGrantable c then
      match best with
      | none => some c
      | some e => if (d.sol c).since < (d.sol e).since then some c else best
    else best) none

/-- R355: the arbiter of die `k` grants the first waiting request whose conditions hold; the path closes in that cycle. -/
def execPeakGrant (k t : Nat) (s : State) : Host.Outcome State Fault Refusal :=
  s.onDev fun d =>
    if !d.dieLive k then d
    else match d.solFirst k with
      | none => d
      | some c =>
        let n := d.solNeeds c
        let now := d.solTime c t
        let d1 := d.solClose c now { d.sol c with state := .peak, wait := .target, closedAt := now, peakAt := now, tokens := n }
        (d1.setFreeTokens k (d.freeTokens k - n)).driveBank (bankOf c)

/-- The local channel that holds the peak slot of a bank, or 0xFF (R371). -/
def Dev.peakHolder (d : Dev) (b : Nat) : Nat :=
  match (bankSols b).find? fun c => (d.sol c).state == .peak with
  | some c => c % 16
  | none => 0xFF

/-- A shot skipped before it was energised (R356). -/
def Dev.solSkip (d : Dev) (c : Nat) : Dev :=
  let x := d.sol c
  let b := bankOf c
  let kind := match x.origin with
    | .level => 1 | .oneShot _ => 2 | .safe => 3
  let k := dieOf clsSOL c
  let n := ((d.bank b).skipped + 1) % 2 ^ 16
  let d1 := (d.setBank b { d.bank b with skipped := n }).dieRaise k 0x0802 (handle clsSOL c)
    ([kind, d.peakHolder b, d.freeTokens k, 0] ++ leBytes 4 n)
  let d2 := d1.solEnd c .open .off .skipped 3
  if kind = 2 then d2 else d2.setSol c { d2.sol c with skipRetry := true, skipOn := (d.fd k).bounds, origin := x.origin }

/-- R356: a request not granted within PEAK_WAIT is denied. -/
def execPeakWaitExpiry (c t : Nat) (sense : SolSense) (s : State) : Host.Outcome State Fault Refusal :=
  s.onDev fun d =>
    let x := d.sol c
    if !(d.solHere c && x.wait == .grant && decide (x.since + 50 * x.peakWait ≤ d.solTime c t)) then d
    else if !x.energised then d.solSkip c
    else
      let d1 := d.solSense c sense
      (d1.setSol c { d1.sol c with denied := true }).solResume c (d.solTime c t)

/-- Whether shots may start on channel `c` in the state of its die: RUN, or SAFE with the value ON (R362). -/
def Dev.solMayStart (d : Dev) (c : Nat) : Bool :=
  let x := d.fd (dieOf clsSOL c)
  !d.solOdd c && !(d.bank (bankOf c)).fault && !x.vf24Low
    && (x.state == .run || (x.state == .safe && d.dget Reg.SOL_CFG.SAFE c == 2))

/-- A level or SAFE-value shot of channel `c` starts. -/
def Dev.solLevelShot (d : Dev) (c : Nat) : Dev :=
  let o := if (d.fd (dieOf clsSOL c)).state == .safe then ShotOrigin.safe else .level
  d.solStart c (d.dget Reg.SOL_CFG.PROGRAM c) o

/-- R356: at the tick after a denial a skipped level shot is requested again while LEVEL stays 1. -/
def execSkipRetry (c : Nat) (s : State) : Host.Outcome State Fault Refusal :=
  s.onDev fun d =>
    let x := d.sol c
    if d.solHere c && x.skipRetry && x.state == .off && x.level && d.solMayStart c && decide (x.skipOn < (d.fd (dieOf clsSOL c)).bounds) then
      d.solLevelShot c
    else d

/-- R358: a peak phase longer than PEAK_MAX. -/
def execPeakMaxExpiry (c : Nat) (s : State) : Host.Outcome State Fault Refusal :=
  s.onDev fun d =>
    let x := d.sol c
    if d.solHere c && x.state == .peak && decide (x.peakAt + 5000 * x.peakMax ≤ d.solTime c 499) then d.solFault c 5 .clamped else d

/-! ### Ends of waiting instructions (R344, R348, R360) -/

/-- R344, R345: DUR ticks after its start a one-shot is released. -/
def execOneShotDurExpiry (c t : Nat) (sense : SolSense) (s : State) : Host.Outcome State Fault Refusal :=
  s.onDev fun d =>
    let x := d.sol c
    match x.origin with
    | .oneShot id =>
      let dur := match d.rec? id with
        | some r => r.d.u32 24
        | none => 0
      if d.solHere c && x.inShot && 0 < dur && x.startOn + dur ≤ (d.fd (dieOf clsSOL c)).bounds then (d.solSense c sense).solRelease c (d.solTime c t) else d
    | _ => d

/-- R348: the duration of a CHOP or WAIT ends. -/
def execShuttleWaitEnd (c t : Nat) (sense : SolSense) (s : State) : Host.Outcome State Fault Refusal :=
  s.onDev fun d =>
    let x := d.sol c
    if d.solHere c && (x.wait == .chop || x.wait == .wait) && d.solPassed c (d.solTime c t) then (d.solSense c sense).solResume c (d.solTime c t) else d

/-- R348: the boundary plus the phase arrives. -/
def execSyncReached (c t : Nat) (sense : SolSense) (s : State) : Host.Outcome State Fault Refusal :=
  s.onDev fun d =>
    let x := d.sol c
    let w := d.solWord (bankOf c) x.copy x.pc
    let phase := x.operand w (bitsAt w 0 9) 0 499
    let first := decide (d.solTime c 0 ≤ x.since + 500)
    if d.solHere c && x.wait == .sync && decide (x.since < d.solTime c 0) && (!first || decide (phase ≤ t)) then
      (d.solSense c sense).solResume c (d.solTime c t)
    else d

/-- R348: a DECAY's current falls to T, or its timeout passes. -/
def execDecayDone (c t : Nat) (sense : SolSense) (s : State) : Host.Outcome State Fault Refusal :=
  s.onDev fun d =>
    let x := d.sol c
    let now := d.solTime c t
    if d.solHere c && x.wait == .decay && (decide (sense.current ≤ x.target) || d.solPassed c now) then
      let d1 := d.solSense c sense
      (d1.setSol c { d1.sol c with decayUs := (roundDiv (now - x.since : Nat) 50).toNat }).solResume c now
    else d

/-- R360: an ending channel's current falls below 10 mA. -/
def execEndingDone (c : Nat) (s : State) : Host.Outcome State Fault Refusal :=
  s.onDev fun d =>
    let x := d.sol c
    if !d.solHere c then d
    else if x.state = .ending then (d.setSol c { x with state := .off, path := .open, current := 0 }).driveBank (bankOf c)
    else if x.state = .fault then d.setSol c { x with path := .open, current := 0 }
    else d

/-- R361: a channel, or the pair that holds it, trips on overcurrent. -/
def execSolOvercurrent (c : Nat) (s : State) : Host.Outcome State Fault Refusal :=
  s.onDev fun d => if d.solHere c && (d.sol (d.solBase c)).state != .fault then d.solFault (d.solBase c) 2 .clamped else d

/-- R361: a clamp above 150 °C: the channel ends SLOW. -/
def execClampOverheat (c : Nat) (s : State) : Host.Outcome State Fault Refusal :=
  s.onDev fun d =>
    let b := d.solBase c
    if d.solHere c && (d.sol b).state != .fault then
      let d1 := d.solFault b 4 .slow
      d1.setSol b { d1.sol b with hot := true }
    else d

/-- A bank fault (R361). -/
def Dev.bankFault (d : Dev) (b cause ma : Nat) : Dev :=
  let d1 := (bankSols b).foldl (fun y c => y.solCut c .dataError 2) d
  let d2 := d1.setBank b { d1.bank b with fault := true, cause := cause, hot := cause == 2, highSide := false }
  d2.dieRaise (dieOf clsBANK b) 0x0804 (handle clsBANK b) ([1, cause, 0, 0] ++ leBytes 4 (roundDiv (ma * 65536 : Nat) 1000).toNat)

/-- R361: bank high-side current above 10 A for 2 µs. -/
def execBankHsOvercurrent (b ma : Nat) (s : State) : Host.Outcome State Fault Refusal :=
  s.onDev fun d =>
    if b < d.classCount clsBANK && d.dieLive (dieOf clsBANK b) && !(d.bank b).fault then d.bankFault b 1 ma else d

/-- R361: the high-side switch above 165 °C. -/
def execBankHsOvertemp (b ma : Nat) (s : State) : Host.Outcome State Fault Refusal :=
  s.onDev fun d =>
    if b < d.classCount clsBANK && d.dieLive (dieOf clsBANK b) && !(d.bank b).fault then d.bankFault b 2 ma else d

/-! ### Frames and states of a die (R342, R343, R362) -/

/-- LEVEL of a channel in an applied frame: a rise starts a shot when the channel is OFF, else it waits for OFF; a fall
releases it. -/
def Dev.solLevel (d : Dev) (c : Nat) (level : Bool) : Dev :=
  let x := d.sol c
  if d.solOdd c then d
  else if level && !x.level then d.setSol c { x with level := true, due := true }
  else if !level then
    let d1 := d.setSol c { x with level := false, due := false, skipRetry := false }
    match x.origin with
    | .oneShot _ => d1
    | _ => if x.level || x.origin = .safe then d1.solRelease c (d.solTime c 0) else d1
  else d

/-- The level shots that wait for OFF start where they may. -/
def Dev.solStartDue (d : Dev) (k : Nat) : Dev :=
  (dieSols k).foldl (fun (y : Dev) c =>
    let x := y.sol c
    if x.due && x.level && x.state == .off && y.solMayStart c then (y.setSol c { x with due := false }).solLevelShot c else y) d

/-- The SOL commands of a frame applied at die `k`. -/
def Dev.applySol (d : Dev) (k : Nat) (sols : List Nat) : Dev :=
  (List.range 16).foldl (fun y n => y.solLevel (globalOf clsSOL k n) (bitAt (sols.getD n 0) 0)) d

/-- The safe values of the channels of die `k` (R362). -/
def Dev.safeSol (d : Dev) (k : Nat) : Dev :=
  (dieSols k).foldl (fun (y : Dev) c =>
    match y.dget Reg.SOL_CFG.SAFE c with
    | 0 =>
      let z := y.solCut c .dataError 2
      z.setSol c { z.sol c with level := false, due := false, skipRetry := false }
    | 1 => y
    | _ =>
      let x := y.sol c
      if y.solOdd c then y else y.setSol c { x with level := true, due := !x.inShot }) d

/-- Every shot of die `k` ends CLAMPED: VF24 is low (R362). -/
def Dev.cutSols (d : Dev) (k : Nat) : Dev :=
  (dieSols k).foldl (fun y c =>
    let z := y.solCut c .dataError 2
    z.setSol c { z.sol c with level := false, due := false, skipRetry := false }) d

/-- The boundary of die `k`: what it senses, then the shots that are due. -/
def Dev.solBoundary (d : Dev) (k vf24 : Nat) (hotClamps hotBanks : List Nat) : Dev :=
  let d0 := if k = 0 then { d with shut := { d.shut with vf24A := vf24 } } else { d with shut := { d.shut with vf24B := vf24 } }
  let d1 := (List.range 16).foldl (fun (y : Dev) n =>
    let c := globalOf clsSOL k n
    let x := y.sol c
    if x.hot && !hotClamps.contains n then y.setSol c { x with hot := false } else y) d0
  let d2 := (List.range 4).foldl (fun (y : Dev) n =>
    let b := globalOf clsBANK k n
    let z := y.bankLate b
    let x := z.bank b
    if x.hot && !hotBanks.contains n then z.setBank b { x with hot := false } else z) d1
  d2.solStartDue k

/-! ### Status page 3 (R372) -/

/-- State codes of R360. -/
def SolState.code : SolState → Nat
  | .off => 0 | .running => 1 | .peak => 2 | .hold => 3 | .ending => 4 | .fault => 5

/-- The state byte of a channel (R372). -/
def SolSt.byte (x : SolSt) : Nat :=
  x.state.code + 8 * x.tokens + (if x.wait = .grant then 32 else 0) + (if x.inRelease then 64 else 0)
    + (if x.level then 128 else 0)

/-- The tokens that the channels of die `k` hold. -/
def Dev.heldTokens (d : Dev) (k : Nat) : Nat := ((dieSols k).map fun c => (d.sol c).tokens).foldl (· + ·) 0

/-- Page 3: per channel the last first time-to-peak and the state byte, per bank its byte, the free tokens, skipped shots. -/
def Dev.page3 (d : Dev) (k : Nat) : List Nat :=
  (List.range 16).flatMap (fun n =>
    let c := globalOf clsSOL k n
    let x := d.sol (d.solBase c)
    [x.firstTtp, if d.solOdd c then x.byte - 8 * x.tokens else x.byte]) ++
  (List.range 4).map (fun n =>
    let b := globalOf clsBANK k n
    d.bankState b + (if (d.bank b).fault then 4 else 0) + (if d.shut.loads.any (fun o => o.bank == b) then 8 else 0)
      + 16 * ((bankSols b).filter fun c => (d.sol c).wait == .grant).length) ++
  [d.freeTokens k] ++
  (List.range 4).map (fun n => (d.bank (globalOf clsBANK k n)).skipped)

/-- Its bytes (R372). -/
def page3Bytes (l : List Nat) : List Nat :=
  (List.range 16).flatMap (fun n => leBytes 2 (l.getD (2 * n) 0) ++ [l.getD (2 * n + 1) 0 % 256])
    ++ ((l.drop 32).take 5).map (· % 256) ++ [0] ++ (l.drop 37).flatMap (leBytes 2)

/-- A fault stop of die `k` for its token sum (R357, R663). -/
def Dev.tokenAudit (d : Dev) (k free held : Nat) : Dev :=
  if free + held = 8 then d
  else
    let d1 := if k = 0 then (d.put Reg.SHUTTLE_TOKENS.AUDIT_FAIL_A 0 1).put Reg.GLOBAL_FAULT_STAT.STOPPED_A 0 1
      else (d.put Reg.SHUTTLE_TOKENS.AUDIT_FAIL_B 0 1).put Reg.GLOBAL_FAULT_STAT.STOPPED_B 0 1
    (d1.raise 0x0807 d1.nullName [k, free, held]).logFault 6 k free

/-- Page 3 taken by the core die, which audits the tokens and builds the SOL and BANK value words (R346, R357). -/
def Dev.takePage3 (d : Dev) (k tick : Nat) (l : List Nat) : Dev :=
  let d1 := (List.range 16).foldl (fun (y : Dev) n =>
    let c := globalOf clsSOL k n
    let b := l.getD (2 * n + 1) 0
    let st := b % 8
    let fault := st = 5 || l.getD (32 + n / 4) 0 / 4 % 2 = 1
    let w := mkWord (if st = 2 || st = 3 then 65536 else 0) (stVALID + (if fault then stFAULT else 0)
      + (if (y.forceOf (handle clsSOL c)).isSome then stFORCED else 0)) tick
    ((y.put Reg.SOL_STAT.STATE c b).put Reg.SOL_STAT.LAST_TTP c (l.getD (2 * n) 0xFFFF)).produce (y.name clsSOL c) 0 w) d
  let d2 := (List.range 4).foldl (fun (y : Dev) n =>
    let b := globalOf clsBANK k n
    let v := l.getD (32 + n) 0
    let held := ((List.range 4).map fun j => l.getD (2 * (4 * n + j) + 1) 0 / 8 % 4).foldl (· + ·) 0
    let was := y.get Reg.BANK_SKIPPED.SKIPPED b
    let more := (l.getD (37 + n) 0 + 2 ^ 16 - was % 2 ^ 16) % 2 ^ 16
    let y1 := (((((y.put Reg.BANK_STAT.STATE b v).put Reg.BANK_STAT.BANK_FAULT b (v / 4)).put Reg.BANK_STAT.LOAD_PENDING b (v / 8)).put
      Reg.BANK_STAT.WAITING b (v / 16)).put Reg.BANK_STAT.TOKENS b held).put Reg.BANK_SKIPPED.SKIPPED b (was + more)
    match Map.get y.values (y.name clsINTL (globalOf clsINTL k (8 + n)) * 256) none with
    | some w => y1.produce (y.name clsBANK b) 0 (if v / 4 % 2 = 1 then w.mark stFAULT else w)
    | none => y1) d1
  let free := l.getD 36 0
  let held := ((List.range 16).map fun n => l.getD (2 * n + 1) 0 / 8 % 4).foldl (· + ·) 0
  let d3 := if k = 0 then d2.put Reg.SHUTTLE_TOKENS.FREE_A 0 free else d2.put Reg.SHUTTLE_TOKENS.FREE_B 0 free
  d3.tokenAudit k free held

/-- A SHUTTLE event of a die taken by the core die: counts, FAULT_CAUSE, and at most one report per 100 ms (R371, R374). -/
def Dev.takeSolEvent (d : Dev) (code src time : Nat) (detail : List Nat) : Dev :=
  let c := indexOf src
  match code with
  | 0x0801 => (d.bump Reg.SOL_FAULTS.TTP c 0xFFFF).raiseCounted code src time detail (some 12)
  | 0x0802 =>
    let was := d.get Reg.BANK_SKIPPED.SKIPPED (bankOf c)
    let n := was + (leAt detail 4 4 + 2 ^ 16 - was % 2 ^ 16) % 2 ^ 16
    (d.bump Reg.SOL_FAULTS.SKIPPED c 0xFFFF).raiseCounted code src time (detail.take 4 ++ leBytes 4 (n % 2 ^ 32)) none
  | 0x0803 =>
    (d.put Reg.SOL_STAT.FAULT_CAUSE c (if detail.getD 0 0 = 1 then detail.getD 1 0 else 0)).raiseCounted code src time detail none
  | _ => d.raiseAt code src time detail

/-! ### Commands at the core die (R342) -/

/-- The SOL command of a writer's word (R342): none when VALID is clear. -/
def solCommand (w : VW) : Option Nat := if w.has stVALID then some (if 32768 ≤ w.val then 1 else 0) else none

/-! ### Library loads (R365) -/

/-- A rejected opcode or field value (R348). -/
def codeBad (w : Nat) : Bool :=
  let op := w / 2 ^ 28
  let ind := bitAt w 27
  10 ≤ op
    || (ind && (op == 0 || op == 5 || op == 6 || op == 9))
    || ((op == 0 || op == 3 || op == 7) && bitsAt w 16 2 == 3)
    || (op == 1 && !ind && 6000 < bitsAt w 0 13)
    || (op == 2 && !ind && bitsAt w 0 16 == 0)
    || (op == 5 && 6 ≤ bitsAt w 0 4)
    || (op == 6 && 6 ≤ bitsAt w 24 3)
    || (op == 8 && !ind && 500 ≤ bitsAt w 0 9)

/-- The load of bank `b`. -/
def Dev.loadOf (d : Dev) (b : Nat) : Option LoadOp := d.shut.loads.find? fun o => o.bank == b

/-- A load changed. -/
def Dev.setLoad (d : Dev) (b : Nat) (f : LoadOp → LoadOp) : Dev :=
  { d with shut := { d.shut with loads := d.shut.loads.map fun o => if o.bank == b then f o else o } }

/-- SHUTTLE_STAT.LOADING as the loads stand. -/
def Dev.showLoads (d : Dev) : Dev :=
  d.put Reg.SHUTTLE_STAT.LOADING 0 ((d.shut.loads.map fun o => 2 ^ o.bank).foldl (· + ·) 0)

/-- A load ends: its words still in the mailbox are discarded with the inactive copy. -/
def Dev.dropLoad (d : Dev) (b : Nat) : Dev :=
  let keep := fun (m : Mail) => match m with
    | .code x _ _ => x != b
    | _ => true
  { d with shut := { d.shut with loads := d.shut.loads.filter fun o => !(o.bank == b) }
           mailA := d.mailA.filter keep, mailB := d.mailB.filter keep
           mailOutA := d.mailOutA && d.mailA.head?.all keep, mailOutB := d.mailOutB && d.mailB.head?.all keep }.showLoads

/-- R365, R366, R369: SHUTTLE_LOAD begins its checks. -/
def bodyShuttleLoad (id : Nat) (x : Desc) (d : Dev) : Dev :=
  let h := x.u32 16
  if isNull h || !d.isHandle clsBANK h then d.fail id .badObject
  else if (d.loadOf (indexOf h)).isSome then d.fail id .refusedBusy
  else
    let o : LoadOp := { id := id, bank := indexOf h, words := [], slots := [], crc := 0, stage := 0, since := 0, sent := 0 }
    Dev.showLoads { d with shut := { d.shut with loads := d.shut.loads ++ [o] } }

/-- The check code of a payload with the failing word or slot (R365). -/
def payloadCode (words slots : List Nat) : Nat × Nat :=
  match words.findIdx? codeBad with
  | some i => (3, i)
  | none => match slots.findIdx? fun v => !programSlotOk (v % 512) (v / 2 ^ 16 % 512) with
    | some i => (4, i)
    | none => (0, 0)

/-- The end of the checks of a SHUTTLE_LOAD (R365). -/
def Dev.shuttleChecked (d : Dev) (id : Nat) (x : Desc) : Dev :=
  let b := indexOf (x.u32 16)
  let w := x.u32 20
  let len := x.u32 24
  let stop := fun (y : Dev) (st : Status) (code i : Nat) => (y.dropLoad b).finish id st (code + 2 ^ 16 * i)
  if len != 192 + 1056 || !imageFits w len then stop d .badParam 2 0
  else match d.readImage w len with
    | (none, d1) => stop d1 .dataError 0 0
    | (some bs, d0) =>
      let e := d0.envelopeCode bs 3
      let d1 := if e = 0 then d0 else d0.imageRefused (bs.getD 2 0) e 0x0801
      if e = 1 || e = 2 then stop d1 .badParam 2 0
      else if e != 0 then stop d1 .authFailed 1 0
      else
        let p := payloadOf bs
        let words := (List.range 256).map fun j => leAt p (4 * j) 4
        let slots := (List.range 8).map fun j => leAt p (1024 + 4 * j) 4
        let r := payloadCode words slots
        if r.1 != 0 then stop d1 .badParam r.1 r.2
        else d1.setLoad b fun o => { o with words := words, slots := slots, crc := crc32c p, stage := 1, since := d1.tick }

/-- A tick of the core die: a load whose inactive copy no shot uses any more begins its transfer (R365). -/
def Dev.shuttleTick (d : Dev) : Dev :=
  d.shut.loads.foldl (fun (y : Dev) o =>
    let busy := (bankSols o.bank).any fun c => (y.sol c).inShot && (y.sol c).copy != (y.bank o.bank).active
    if o.stage = 1 && !busy then
      let z := (List.range 256).foldl (fun (e : Dev) j => e.post (dieOf clsBANK o.bank) (.code o.bank j (o.words.getD j 0))) y
      z.setLoad o.bank fun p => { p with stage := 2 }
    else y) d

/-- One library word arrives at the die (R365). -/
def Dev.applyCode (d : Dev) (b w v : Nat) : Dev :=
  let x := d.bank b
  let y := if x.active = 0 then { x with ram1 := Map.set x.ram1 w v 0 } else { x with ram0 := Map.set x.ram0 w v 0 }
  (d.setBank b y).setLoad b fun o => { o with sent := o.sent + 1 }

/-- R365: at the first boundary after the transfer the new copy becomes active and the slots are written. -/
def execShuttleSwitch (b : Nat) (s : State) : Host.Outcome State Fault Refusal :=
  s.onDev fun d =>
    match d.loadOf b with
    | none => d
    | some o =>
      if o.stage != 2 || o.sent < 256 then d
      else
        let d1 := d.setBank b { d.bank b with active := 1 - (d.bank b).active }
        let d2 := (List.range 256).foldl (fun (y : Dev) j => y.put Reg.SHUTTLE_CODE.WORD (256 * b + j) (o.words.getD j 0)) d1
        let d3 := (List.range 8).foldl (fun (y : Dev) j =>
          let v := o.slots.getD j 0
          let e := v % 512
          let r := v / 2 ^ 16 % 512
          let i := 8 * b + j
          (((y.put Reg.SHUTTLE_ENTRY.ENTRY i e).put Reg.SHUTTLE_ENTRY.RELEASE i r).dput Reg.SHUTTLE_ENTRY.ENTRY i e).dput
            Reg.SHUTTLE_ENTRY.RELEASE i r) d2
        let d4 := ((d3.putRet Reg.BANK_LIB_ID.CRC b o.crc).setBlock (handle clsBANK b)
          (o.words.flatMap (leBytes 4) ++ o.slots.flatMap (leBytes 4))).dropLoad b
        (d4.done o.id (2 ^ 32 * (d.tick % 2 ^ 32))).raise 0x0806 (d.name clsBANK b) (leBytes 4 o.crc ++ [1])

/-- A retained library payload in force again at start (R559): the slots and the active program RAM copy. -/
def Dev.shuttleRestore (d : Dev) (b : Nat) : Dev :=
  let p := d.block (handle clsBANK b)
  if p.isEmpty then d
  else
    let w := fun (j : Nat) => leAt p (4 * j) 4
    let one := fun (y : Dev) (j : Nat) =>
      let i := 8 * b + j
      let v := w (256 + j)
      (((y.put Reg.SHUTTLE_ENTRY.ENTRY i (v % 512)).put Reg.SHUTTLE_ENTRY.RELEASE i (v / 2 ^ 16 % 512)).dput
        Reg.SHUTTLE_ENTRY.ENTRY i (v % 512)).dput Reg.SHUTTLE_ENTRY.RELEASE i (v / 2 ^ 16 % 512)
    let d1 := (List.range 256).foldl (fun (y : Dev) j => y.put Reg.SHUTTLE_CODE.WORD (256 * b + j) (w j)) d
    let d2 := (List.range 8).foldl one d1
    d2.setBank b { d2.bank b with active := 0, ram0 := (List.range 256).foldl (fun m j => Map.set m j (w j) 0) ([] : Map Nat) }

/-- R365: the transfer could not begin within 10 s. -/
def execShuttleLoadTimeout (b : Nat) (s : State) : Host.Outcome State Fault Refusal :=
  s.onDev fun d =>
    match d.loadOf b with
    | none => d
    | some o => if o.stage = 1 && o.since + 1000000 ≤ d.tick then (d.dropLoad b).fail o.id .timeout else d

/-- R369: PFW_N falling ends every load ABORTED. -/
def Dev.shuttleDip (d : Dev) : Dev := d.shut.loads.foldl (fun y o => (y.dropLoad o.bank).fail o.id .aborted) d

/-! ### Descriptors (R344, R366 to R370) -/

/-- A shot or abort write goes ahead of queued register writes and keeps its order among its like (R344). -/
def Dev.postAhead (d : Dev) (k : Nat) (entry : Mail) : Dev :=
  let op := fun (i : Nat) => ((d.rec? i).map fun r => r.d.u16 0).getD 0
  let isShot := fun (m : Mail) => match m with
    | .desc i => op i == 0x0802
    | .abort i _ => op i == 0x0805
    | _ => false
  let sent := if (if k = 0 then d.mailOutA else d.mailOutB) then 1 else 0
  let q := (d.mail k).drop sent
  let r := (d.mail k).take sent ++ q.takeWhile isShot ++ [entry] ++ q.dropWhile isShot
  if k = 0 then { d with mailA := r } else { d with mailB := r }

/-- R344, R366, R367: SOL_SHOT checked and sent. -/
def bodySolShot (id : Nat) (x : Desc) (d : Dev) : Dev :=
  let h := x.u32 16
  let c := indexOf h
  if isNull h || !d.isHandle clsSOL h then d.fail id .badObject
  else if d.solOddReg c || 1 < d.writerOf h || 7 < x.byte 20 || 360000000 < x.u32 24 then d.fail id .badParam
  else (d.setWriter h 1).postAhead (dieOf clsSOL c) (.desc id)

/-- R344, R361: SOL_SHOT at its apply tick. -/
def Dev.applySolShot (d : Dev) (id : Nat) (x : Desc) : Dev :=
  let h := x.u32 16
  let c := indexOf h
  let y := d.sol c
  let free := fun (z : Dev) => z.shotOver id c
  if (d.bank (bankOf c)).fault then free (d.finish id .dataError (0xFFFF + 2 ^ 17))
  else if !(y.state == .off) || y.level || d.solOdd c || !((d.fd (dieOf clsSOL c)).state == .run) then free (d.fail id .refusedBusy)
  else d.solStart c (x.byte 20) (.oneShot id)

/-- R366: SOL_FORCE acts on the LEVEL of the next down frame (R46). -/
def bodySolForce (id : Nat) (x : Desc) (d : Dev) : Dev :=
  let h := x.u32 16
  if isNull h || !d.isHandle clsSOL h then d.fail id .badObject
  else if d.solOddReg (indexOf h) || 1 < x.byte 20 || 1 < x.byte 21 then d.fail id .badParam
  else (d.setForce h (if x.byte 21 = 1 then some (x.byte 20) else none)).done id 0

/-- R366: SOL_CLEAR checked and put in the mailbox. -/
def bodySolClear (id : Nat) (x : Desc) (d : Dev) : Dev :=
  let h := x.u32 16
  if isNull h || !(d.isHandle clsSOL h || d.isHandle clsBANK h) then d.fail id .badObject
  else d.post (dieOf (classOf h) (indexOf h)) (.desc id)

/-- R361, R368: SOL_CLEAR at its apply tick. -/
def Dev.applySolClear (d : Dev) (id : Nat) (x : Desc) : Dev :=
  let h := x.u32 16
  let i := indexOf h
  if classOf h = clsBANK then
    let b := d.bank i
    if !b.fault then d.done id 0
    else if b.hot then d.fail id .refusedBusy
    else ((d.setBank i { b with fault := false, cause := 0 }).dieRaise (dieOf clsBANK i) 0x0804 (handle clsBANK i) [0, b.cause]).done id 1
  else
    let c := d.solBase i
    let y := d.sol c
    if !(y.state == .fault) then d.done id y.state.code
    else if y.cause = 4 && y.hot then d.fail id .refusedBusy
    else ((d.setSol c { y with state := .off, path := .open, cause := 0 }).solFaultEvent c false y.cause 0).done id 5

/-- R370: a SHUTTLE_ABORT of a running target goes to the die of the target. -/
def settleShuttle (id : Nat) (r : Rec) (d : Dev) : Dev :=
  d.postAhead (dieOf (classOf (r.d.u32 16)) (indexOf (r.d.u32 16))) (.abort id r.id)

/-- R370: SHUTTLE_ABORT at its apply tick: the race is settled at that boundary. -/
def Dev.applyShuttleAbort (d : Dev) (id target : Nat) : Dev :=
  match d.rec? target with
  | none => d.fail id .nothingToAbort
  | some r =>
    let i := indexOf (r.d.u32 16)
    if !(r.phase == .running) then d.fail id .nothingToAbort
    else if r.d.u16 0 = 0x0801 then ((d.dropLoad i).fail target .aborted).done id 0
    else (d.solCut i .aborted 4).done id 0

/-- R370: SHUTTLE_ABORT. -/
def bodyShuttleAbort (id : Nat) (x : Desc) (d : Dev) : Dev :=
  if 63 < x.u16 20 then d.fail id .badParam
  else d.abortDesc id (x.u16 20) (x.u32 16) [0x0801, 0x0802] settleShuttle

/-- R365, R366. -/
def execShuttleLoad (q : Nat) (x : Desc) (s : State) : Host.Outcome State Fault Refusal :=
  s.onDev fun d => d.submit q x 0x0801 [(16, 12)] bodyShuttleLoad

/-- R344, R366. -/
def execSolShot (q : Nat) (x : Desc) (s : State) : Host.Outcome State Fault Refusal :=
  s.onDev fun d => d.submit q x 0x0802 [(16, 5), (24, 4)] bodySolShot

/-- R366. -/
def execSolForce (q : Nat) (x : Desc) (s : State) : Host.Outcome State Fault Refusal :=
  s.onDev fun d => d.submit q x 0x0803 [(16, 6)] bodySolForce

/-- R366, R368. -/
def execSolClear (q : Nat) (x : Desc) (s : State) : Host.Outcome State Fault Refusal :=
  s.onDev fun d => d.submit q x 0x0804 [(16, 4)] bodySolClear

/-- R370. -/
def execShuttleAbort (q : Nat) (x : Desc) (s : State) : Host.Outcome State Fault Refusal :=
  s.onDev fun d => d.submit q x 0x0805 [(16, 6)] bodyShuttleAbort

/-! ### Configuration (R353, R359, R373, R374) -/

/-- Whether a write of `v` to a SHUTTLE register at offset `off` meets the rules that span fields: `c` the channel, `b` the bank,
`i` the slot. -/
def Dev.shutWriteOk (d : Dev) (off c b i v : Nat) : Bool :=
  if off = Reg.SOL_TTP.TMIN.addr c || off = Reg.SOL_TTP_COMM.TMIN_COMM.addr c then
    bitsAt v 0 16 ≤ bitsAt v 16 16 || (off == Reg.SOL_TTP_COMM.TMIN_COMM.addr c && bitsAt v 16 16 == 0)
  else if off = Reg.BANK_CFG.PEAK_OVERLAP.addr b then
    let idle := fun (j : Nat) => (d.sol (4 * b + j)).state == .off && (d.sol (4 * b + j + 1)).state == .off
    (bitsAt v 1 1 == d.get Reg.BANK_CFG.PAIR01 b || idle 0) && (bitsAt v 2 1 == d.get Reg.BANK_CFG.PAIR23 b || idle 2)
  else if off = Reg.SHUTTLE_ENTRY.ENTRY.addr i then programSlotOk (bitsAt v 0 9) (bitsAt v 16 9)
  else true

end Sys2Proof.Machine
end

