-- ==== Sys2Proof/Machine/FieldLink.lean ====
section
/-! DEFINITION. The isolation barrier: frames, the mailbox, and the output states of the field dies (04_field_io_barrier.md). -/

namespace Sys2Proof.Machine
open Sys2Proof

/-! ### Down frames (R143, R147, R153) -/

/-- Whether the core die sends frames to die `k`: the part has it, control starts, no fault stop, not stopped by a long warning (R523, R569, R663). -/
def Dev.sendsTo (d : Dev) (k : Nat) : Bool :=
  d.live && !d.nvm.noControl && d.dieFitted k && !d.power.dipSafeStopped
    && !(if k = 0 then d.isSet Reg.GLOBAL_FAULT_STAT.STOPPED_A 0 else d.isSet Reg.GLOBAL_FAULT_STAT.STOPPED_B 0)

/-- The mailbox queue of die `k` before a frame: an entry that the die has taken is gone, a lost one is sent again under its
own sequence number (R147). -/
def Dev.mailNext (d : Dev) (k : Nat) : Dev :=
  if k = 0 then
    let d1 := if d.mailOutA && d.dieA.mailAck = d.mailSeqA then { d with mailA := d.mailA.drop 1, mailOutA := false } else d
    if !d1.mailOutA && !d1.mailA.isEmpty then { d1 with mailOutA := true, mailSeqA := (d1.mailSeqA + 1) % 256 } else d1
  else
    let d1 := if d.mailOutB && d.dieB.mailAck = d.mailSeqB then { d with mailB := d.mailB.drop 1, mailOutB := false } else d
    if !d1.mailOutB && !d1.mailB.isEmpty then { d1 with mailOutB := true, mailSeqB := (d1.mailSeqB + 1) % 256 } else d1

/-- The mailbox sequence of die `k` as the core die counts it. -/
def Dev.mailSeq (d : Dev) (k : Nat) : Nat := if k = 0 then d.mailSeqA else d.mailSeqB

/-- The capture that a frame for an apply tick triggers (R143). -/
def Dev.frameTrigger (d : Dev) (apply : Nat) : Option Nat :=
  (d.meas.caps.find? fun o => o.kind == 0 && !o.triggered && o.at_ == apply).map fun o => o.group

/-- The force that mailbox entry `m` puts on or takes off an output at the apply tick of its frame: object and force (R172, R395). -/
def Dev.mailForce (d : Dev) (m : Option Mail) : Option (Nat × Option Nat) :=
  match m with
  | some (.desc id) => match d.rec? id with
    | some r =>
      let on := r.d.byte 24 = 1
      if !(r.phase == .running) then none
      else if r.d.u16 0 = 0x0301 then some (r.d.u32 16, if on then some (dioForceValue r.d) else none)
      else if r.d.u16 0 = 0x0901 then some (r.d.u32 16, if on then some (percentUnits (r.d.u32 20)) else none)
      else none
    | none => none
  | _ => none

/-- The force on output `h` as a frame shows it that carries mailbox entry `m`. -/
def Dev.forceIn (d : Dev) (m : Option Mail) (h : Nat) : Option Nat :=
  match d.mailForce m with
  | some (g, v) => if g = h then v else d.forceOf h
  | none => d.forceOf h

/-- The down frame to die `k` that starts now, for the next boundary (R140, R143). -/
def Dev.sendDown (d : Dev) (k : Nat) (freeze : Bool) : Dev :=
  if !d.sendsTo k then d
  else
    let d1 := d.mailNext k
    let m := (d1.mail k).head?
    let fans := (List.range 16).foldl (fun (a : List Nat × Dev) n =>
      let f := globalOf clsFAN k n
      let r := a.2.fanCommand f (a.2.forceIn m (handle clsFAN f))
      (a.1 ++ [r.1], r.2)) ([], d1)
    let y := fans.2
    let sent := fun (c n : Nat) =>
      let h := handle c (globalOf c k n)
      (y.forceIn m h).getD (y.commandOf h)
    let f : DownFrame :=
      { seq := y.frameSeq, freeze := freeze, dip := y.dip, apply := y.tick + 1, mailSeq := y.mailSeq k, mail := m
        dos := ((List.range 32).map fun n => sent clsDO n % 2 * 2 ^ n).foldl (· + ·) 0
        aos := (List.range 16).map (sent clsAO), fans := fans.1
        sols := (List.range 16).map fun n => sent clsSOL n % 2 + 2 * y.get Reg.SOL_CFG.PROGRAM (globalOf clsSOL k n)
        floats := (List.range 16).map fun n => if sent clsFLOAT n = floatStop then floatStop else min 200 (sent clsFLOAT n)
        trig := y.frameTrigger (y.tick + 1) }
    let z := if k = 0 then { y with downA := some f } else { y with downB := some f }
    z.emit (.frameStarted k)

/-- The mailbox field of a down frame. DESIGN CHOICE (log 47): R143 gives its 8 bytes no layout; offset and value of a register write, else a mark, the number of
the descriptor and what goes with it. -/
def mailBytes (m : Option Mail) : List Nat :=
  match m with
  | none => List.replicate 8 0
  | some (.reg off v) => leBytes 4 off ++ leBytes 4 v
  | some (.desc id) => [0, 0, 0, 0x80] ++ leBytes 4 id
  | some (.abort id t) => [t % 256, t / 256 % 256, 0, 0x81] ++ leBytes 4 id
  | some (.urgent c u) => [c, u.gain + 16 * u.osr, u.acq % 256, 0x82] ++ leBytes 4 u.ch
  | some (.cal m c) => [m % 256, c % 256, 0, 0x83, 0, 0, 0, 0]
  | some (.code b w v) => [b % 256, w % 256, w / 256 % 256, 0x84] ++ leBytes 4 v

/-- A frame's bytes with the CRC-32C over all of them behind (R141). -/
def withCrc (bs : List Nat) : List Nat := bs ++ leBytes 4 (crc32c bs)

/-- The 124 bytes of a down frame (R140, R143). -/
def downFrameBytes (f : DownFrame) : List Nat :=
  withCrc ([1, f.seq % 256, (if f.freeze then 1 else 0) + (if f.dip then 2 else 0), 0] ++ leBytes 3 f.apply ++ [f.mailSeq % 256] ++ downBytes f
    ++ mailBytes f.mail ++ leBytes 4 ((f.trig.map fun g => g + 1).getD 0))

/-- What a receiver finds in the bytes of a frame whose wrong bits are `wrong` (R142): 0 a good frame of tick `expect`, 1 a CRC that does not match, 2
another type or tick. -/
def frameCheck (bs : List Nat) (wrong expect : Nat) : Nat :=
  let r := xorBytes bs wrong
  let n := bs.length - 4
  if crc32c (r.take n) != leAt r n 4 then 1
  else if r.getD 0 0 != 1 || leAt r 4 3 != expect % 2 ^ 24 then 2
  else 0

/-- R139, R142: a down frame arrives with wrong bits `wrong`: it is good, or lost and counted, as is one that does not arrive. On the internal oscillator the first good frame's tick
re-aligns the die. -/
def execDownFrame (k : Nat) (arrives : Bool) (wrong : Nat) (s : State) : Host.Outcome State Fault Refusal :=
  s.onDev fun d =>
    let x := d.fd k
    match if k = 0 then d.downA else d.downB with
    | none => d
    | some f =>
      let d1 := if k = 0 then { d with downA := none } else { d with downB := none }
      if !d.dieLive k || 1 < k then d
      else if arrives && decide (frameCheck (downFrameBytes f) wrong (if x.intOsc then f.apply else x.tick + 1) = 0) then
        d1.setFd k { x with frame := some f, intOsc := false, quiet := false, mailAck := (if f.mail.isSome then f.mailSeq else x.mailAck)
                            tick := if x.intOsc then f.apply - 1 else x.tick }
      else d1.setFd k { x with lost := min 255 (x.lost + 1) }

/-! ### The mailbox at the die (R147) -/

/-- DIO_DARK in effect at die `k`: its own enable, and the interval (R147, R165). -/
def Dev.darkApply (d : Dev) (k v : Nat) : Dev := d.setFd k { d.fd k with darkOn := bitAt v k, darkInt := bitsAt v 16 10 }

/-- A register write in effect at die `k`: every writable field of the register, and what its chapter adds. -/
def Dev.applyReg (d : Dev) (k off v : Nat) : Dev :=
  match findReg off with
  | none => d
  | some (fs, i, _) =>
    let plain := fun (y : Dev) => fs.foldl (fun (z : Dev) f =>
      if f.ty = .rw then z.dput f i (bitsAt v f.lo f.width) else z) y
    if 0xB0100 ≤ off && off < 0xB0300 then d.posApplyWrite off i v plain
    else if off = Reg.DIO_DARK.EN_A.addr 0 then d.darkApply k v
    else if off = Reg.DI_CFG.TYPE.addr i then (plain d).diApplyCfg i
    else if off = Reg.EMU_CFG.ENABLE.addr i || off = Reg.EMU_LINES.LINES.addr i then d.emuApplyCfg i plain
    else if off = Reg.SOL_TTP_COMM.TMIN_COMM.addr i then
      ((plain d).dput Reg.SOL_TTP.TMIN i (bitsAt v 0 16)).dput Reg.SOL_TTP.TMAX i (bitsAt v 16 16)
    else plain d

/-- The descriptors that act at die `k`, at their apply tick. -/
def Dev.applyDesc (d : Dev) (k id : Nat) : Dev :=
  match d.rec? id with
  | none => d
  | some r =>
    if !(r.phase == .running) then d
    else match r.d.u16 0 with
      | 0x0201 => d.queueCal k (r.d.byte 16) 3
      | 0x0202 => d.applyMeasUrgent id r.d
      | 0x0301 => d.applyDioForce id r.d
      | 0x0302 => d.applyDoClear id r.d
      | 0x0303 => d.applyDarkTestNow k id
      | 0x0304 => d.applyFieldResume id (r.d.byte 16)
      | 0x0401 => d.applyPosPreset id r.d
      | 0x0402 => d.applyPosCheck id r.d
      | 0x0403 => d.applyEmuForce id r.d
      | 0x0802 => d.applySolShot id r.d
      | 0x0804 => d.applySolClear id r.d
      | 0x0901 => d.applyFanaoForce id r.d
      | 0x0902 => d.applyFanClear id r.d
      | _ => d

/-- An abort that reaches die `k` (R121, R209, R370). -/
def Dev.applyAbort (d : Dev) (k id target : Nat) : Dev :=
  if !d.isRunning id then d
  else match d.rec? id with
    | some r =>
      if r.d.u16 0 = 0x0404 then d.applyPosAbort id target
      else if r.d.u16 0 = 0x0805 then d.applyShuttleAbort id target
      else d.applyMeasAbort k id target
    | none => d

/-- A mailbox entry at its apply tick at die `k`; during a warning no measurement begins that a loop, the pattern engine or the device asked for (R123). -/
def Dev.applyMail (d : Dev) (k : Nat) (dip : Bool) (m : Mail) : Dev :=
  match m with
  | .reg off v => d.applyReg k off v
  | .desc id => d.applyDesc k id
  | .abort id t => d.applyAbort k id t
  | .urgent c u => if dip then d else d.issueUrgent c u
  | .cal m c => if dip then d else d.queueCal k m c
  | .code b w v => d.applyCode b w v

/-! ### Output states (R148 to R151, R175) -/

/-- The outputs of a frame applied at die `k`, which the working save set keeps (R560). -/
def Dev.applyOutputs (d : Dev) (k : Nat) (f : DownFrame) : Dev :=
  (((d.applyDio k f.dos f.floats).applyFanAo k f.fans f.aos).applySol k f.sols).saveWrite (0x100 + 0x80 * k) (downBytes f)

/-- Die `k` in RUN with a frame applied; FIELD_RUN unless it comes from HOLD, which FIELD_HOLD (left) reports. -/
def Dev.enterRun (d : Dev) (k : Nat) (f : DownFrame) : Dev :=
  let x := d.fd k
  let d1 := d.setFd k { x with state := .run, held := 0, holdTicks := 0, goodRun := 0, resumeEnabled := false }
  let d2 := match x.state with
    | .run => d1
    | .hold => d1.dieRaise k 0x0305 0 ([k, 0] ++ leBytes 2 x.holdTicks)
    | _ => d1.dieRaise k 0x0307 0 [k, x.state.code]
  let d3 := if x.state = .safe then
      let y := (d2.resumesOf k).foldl (fun y r => y.done r.id 1) (d2.posLeaveSafe k)
      { y with resumes := y.resumes.filter fun o => o.die != k }
    else d2
  (if x.state = .run then d3 else d3.emuRefresh k).applyOutputs k f

/-- Die `k` in DIP_HOLD or FREEZE_HOLD. -/
def Dev.enterHeld (d : Dev) (k : Nat) (st : OutState) : Dev :=
  let x := d.fd k
  let d1 := (d.setFd k { x with state := st, held := 0, holdTicks := 0 }).darkLeave k
  if x.state = .hold then d1.dieRaise k 0x0305 0 ([k, 0] ++ leBytes 2 x.holdTicks) else d1

/-- Every safe value of die `k` (R148). -/
def Dev.safeOutputs (d : Dev) (k : Nat) : Dev := (((d.safeDio k).safeFanAo k).safeSol k).emuRefresh k

/-- Die `k` goes to SAFE with a cause; a recovery that a FIELD_RESUME has enabled stays enabled where the die is in SAFE (R151). -/
def Dev.enterSafe (d : Dev) (k cause : Nat) : Dev :=
  let x := d.fd k
  let d1 := (d.setFd k { x with state := .safe, safeCause := cause, goodRun := 0, held := 0, holdTicks := 0
                                resumeEnabled := x.resumeEnabled && x.state == .safe }).darkLeave k
  let d2 := if x.state = .safe then d1 else d1.dieRaise k 0x0306 0 [k, cause]
  if cause = 3 then d2.emuRefresh k else d2.safeOutputs k

/-- A good frame in SAFE: counted while recovery is enabled (R151). -/
def Dev.safeFrame (d : Dev) (k : Nat) (f : DownFrame) : Dev :=
  let x := d.fd k
  let on := (d.disSet Reg.FIELD_CFG.AUTO_RECOVER k || x.resumeEnabled) && !x.vf24Low
  if f.freeze || f.dip || !on then d.setFd k { x with goodRun := 0 }
  else if d.dget Reg.FIELD_CFG.RECOVER_FRAMES k ≤ x.goodRun + 1 then d.enterRun k f
  else d.setFd k { x with goodRun := x.goodRun + 1 }

/-- A boundary with a good frame (R148): DIP_HOLD is left by a frame without DIP alone. -/
def Dev.goodBoundary (d : Dev) (k : Nat) (f : DownFrame) : Dev :=
  let x := d.fd k
  match x.state with
  | .safe => d.safeFrame k f
  | .freezeHold =>
    if f.freeze then d.setFd k { x with held := x.held + 1 } else if f.dip then d.enterHeld k .dipHold else d.enterRun k f
  | .dipHold => if f.dip then d.setFd k { x with held := 0 } else d.enterRun k f
  | _ => if f.freeze then d.enterHeld k .freezeHold else if f.dip then d.enterHeld k .dipHold else d.enterRun k f

/-- A boundary without a good frame (R148, R150, R151); `held` counts those of the hold window, in FREEZE_HOLD all boundaries. -/
def Dev.badBoundary (d : Dev) (k : Nat) : Dev :=
  let x := d.fd k
  match x.state with
  | .run =>
    ((d.setFd k { x with state := .hold, held := 1, holdTicks := 1 }).darkLeave k).dieRaise k 0x0305 0 [k, 1]
  | .hold => d.setFd k { x with held := x.held + 1, holdTicks := x.holdTicks + 1 }
  | .dipHold | .freezeHold => d.setFd k { x with held := x.held + 1 }
  | .safe => d.setFd k { x with goodRun := 0 }
  | .startup => d

/-- R148, R150: the boundary after HOLD_WIN boundaries in a row without a good frame has none either. -/
def execHoldWindowExpiry (k : Nat) (s : State) : Host.Outcome State Fault Refusal :=
  s.onDev fun d =>
    let x := d.fd k
    if k < 2 && d.dieLive k && (x.state == .hold || x.state == .dipHold) && decide (d.dget Reg.FIELD_CFG.HOLD_WIN k < x.held) then
      (d.enterSafe k 1).fanAoDriven k
    else d

/-- R148: FIELD_FRZ_HOLD.LIMIT elapses in FREEZE_HOLD. -/
def execFreezeHoldLimit (k : Nat) (s : State) : Host.Outcome State Fault Refusal :=
  s.onDev fun d =>
    let x := d.fd k
    if k < 2 && d.dieLive k && x.state == .freezeHold && decide (1000 * d.dget Reg.FIELD_FRZ_HOLD.LIMIT k ≤ x.held) then
      (d.enterSafe k 2).fanAoDriven k
    else d

/-- R139: the down link shows no transition for 1 µs. -/
def execDownLinkSilent (k : Nat) (s : State) : Host.Outcome State Fault Refusal :=
  s.onDev fun d => if k < 2 && d.dieFitted k then d.setFd k { d.fd k with intOsc := true } else d

/-- R149, R175: VF24 falls below 17.0 V. -/
def execVf24Low (k mv : Nat) (s : State) : Host.Outcome State Fault Refusal :=
  s.onDev fun d =>
    if !(k < 2 && d.dieFitted k) || (d.fd k).vf24Low then d
    else
      let d1 := d.setFd k { d.fd k with vf24Low := true }
      let d2 := (List.range 16).foldl (fun (y : Dev) n =>
        let f := globalOf clsFLOAT k n
        y.setFloat f { y.floatAt f with drive := .stopped, next := .stopped, extra := 0, safe := false, ran := 0 }) ((d1.allDosOff k).cutSols k)
      let d3 := (d2.dieRaise k 0x0309 0 ([k, 1, 0, 0] ++ leBytes 4 (roundDiv (mv * 65536 : Nat) 1000).toNat)).enterSafe k 3
      d3.fanAoBoundary k []

/-- R149, R175: VF24 has stayed above 18.0 V for 10 ms: the outputs take their safe values. -/
def execVf24Recovered (k mv : Nat) (s : State) : Host.Outcome State Fault Refusal :=
  s.onDev fun d =>
    if !(k < 2 && d.dieFitted k && (d.fd k).vf24Low) then d
    else
      let d1 := d.setFd k { d.fd k with vf24Low := false }
      (d1.dieRaise k 0x0309 0 ([k, 0, 0, 0] ++ leBytes 4 (roundDiv (mv * 65536 : Nat) 1000).toNat)).safeOutputs k

/-! ### The boundary of a field die (R144, R145, R148) -/

/-- What the die senses at its DOs at a boundary (R160). -/
def Dev.senseDos (d : Dev) (k : Nat) (sense : FieldSense) : Dev :=
  (List.range 32).foldl (fun (y : Dev) n =>
    let o := globalOf clsDO k n
    let x := y.doAt o
    let cur := match sense.doCur.find? (fun p => p.1 == n) with
      | some p => p.2
      | none => if x.on then x.current else 0
    y.setDo o { x with readback := bitAt sense.readback n, current := cur }) d

/-- A status page of die `k` (R145). -/
def Dev.pageOf (d : Dev) (k page : Nat) : List Nat :=
  match page with
  | 0 => d.page0 k
  | 1 => d.page1 k
  | 2 => d.page2 k
  | 3 => d.page3 k
  | _ => d.aoPage k ++ d.posPage k

/-- Whether a capture of die `k` is under way: byte 3 bit 5 of an up frame (R144). -/
def Dev.capActive (d : Dev) (k : Nat) : Bool := d.meas.caps.any fun o => o.triggered && (groupConvs o.group).any fun c => convDie c == k

/-- The up frame of die `k` latched at its present boundary (R144 to R146). -/
def Dev.upFrame (d : Dev) (k : Nat) : UpFrame :=
  let x := d.fd k
  let chunk := d.capChunk k
  { seq := x.upSeq, capActive := d.capActive k, slots := d.slotOutputs k
    outState := x.state.code, intOsc := x.intOsc, vf24Low := x.vf24Low, latch := x.tick, lost := x.lost
    words := d.measWords k x.tick ++ d.posWords k x.tick
    dis := (List.range 64).map fun n => diCode (d.diAt (globalOf clsDI k n)).level
    dos := d.doStates k, event := x.events.head?, page := if chunk.isEmpty then x.page else 7
    pageData := if chunk.isEmpty then d.pageOf k x.page else chunk.flatMap fun p => [p.1, p.2], dropped := x.eventsDropped }

/-- Fields of `w` bits packed from bit 0 up into `n` bytes. -/
def packBits (w n : Nat) (l : List Nat) : List Nat := leBytes n (l.foldr (fun v acc => v % 2 ^ w + 2 ^ w * acc) 0)

/-- The 64 bytes of the bulk field (R145): the samples of a capture, or a page, which its chapter lays out; what a page of the model holds beyond the
layout takes the bytes behind. -/
def bulkBytes (page : Nat) (l : List Nat) : List Nat :=
  let bs := match page with
    | 0 => l.flatMap (leBytes 2)
    | 1 => (l.take 32).map (· % 256) ++ packBits 2 4 ((l.drop 32).take 16) ++ packBits 12 24 (l.drop 48)
    | 2 => (l.take 16).flatMap (leBytes 2) ++ (l.drop 16).map (· % 256)
    | 3 => page3Bytes l
    | 4 => (l.take 16).flatMap (leBytes 2) ++ posPageBytes (l.drop 32)
    | _ => (List.range 32).flatMap fun n => leBytes 2 (l.getD (2 * n + 1) 0)
  (bs ++ List.replicate 64 0).take 64

/-- The event field of an up frame. DESIGN CHOICE (log 47): R144 names a local code, a channel and two data bytes; here the low bytes of code and source and the
first two detail bytes. -/
def eventField (e : Option DieEvent) : List Nat :=
  match e with
  | none => [0, 0, 0, 0]
  | some x => [x.code % 256, x.src % 256, x.detail.getD 0 0 % 256, x.detail.getD 1 0 % 256]

/-- The 248 bytes of an up frame (R140, R144). -/
def upFrameBytes (f : UpFrame) : List Nat :=
  let bit := fun (b : Bool) (v : Nat) => if b then v else 0
  let word := fun (p : Produced) => leBytes 8 p.word.bits
  let n := f.words.length
  withCrc ([1, f.seq % 256, f.outState % 8 + bit f.intOsc 8 + bit f.vf24Low 16 + bit f.capActive 32, f.page % 8] ++ leBytes 3 f.latch ++ [f.lost % 256]
    ++ ((f.words.take (n - 2)).flatMap word ++ List.replicate 128 0).take 128 ++ ((f.words.drop (n - 2)).flatMap word ++ List.replicate 16 0).take 16
    ++ packBits 2 16 f.dis ++ packBits 2 8 f.dos ++ eventField f.event ++ bulkBytes f.page f.pageData)

/-- The up frame starts; up frames stop while the core die is frozen (R153), and go on once a good down frame has aligned the die's
ticks again (DEDUCED, log 56, from R139 and R153). -/
def Dev.sendUp (d : Dev) (k : Nat) : Dev :=
  if d.frozen then d.setFd k { d.fd k with quiet := true }
  else if (d.fd k).quiet then d
  else
    let f := d.upFrame k
    let x := d.fd k
    let next := if f.page = 7 then x.page else (x.page + 1) % 5
    let d1 := d.setFd k { x with lost := 0, events := x.events.drop 1, page := next, upSeq := (x.upSeq + 1) % 256 }
    let d2 := if f.page = 7 then d1.capAdvance k else d1
    if k = 0 then { d2 with upA := some f } else { d2 with upB := some f }

/-- The 5 ns samples of a tick: 500 CLK_FLD cycles, or 490 cycles of the internal oscillator (R139, R182). -/
def DieSt.tickSamples (x : DieSt) : Nat := if x.intOsc then 1960 else 2000

/-- R147, R148, R151, R195: a boundary of die `k`: the mailbox entry and the outputs of a good frame, the output state, what
runs in the die, the latch, and the start of the up frame. -/
def execFieldTickBoundary (k : Nat) (sense : FieldSense) (s : State) : Host.Outcome State Fault Refusal :=
  s.onDev fun d =>
    if !(k < 2 && d.dieLive k) then d
    else
      let x := d.fd k
      let tick := x.tick + 1
      let d1 := (d.setFd k { x with tick := tick, bounds := x.bounds + 1, clock := x.clock + x.tickSamples, frame := none }).senseDos k sense
      let d2 := match x.frame with
        | none => d1.badBoundary k
        | some f =>
          let y := match f.mail with
            | some m => d1.applyMail k f.dip m
            | none => d1
          y.goodBoundary k f
      let d3 := (List.range 16).foldl (fun y n => y.floatRun (globalOf clsFLOAT k n)) (d2.darkBoundary k)
      let d4 := (d3.fanAoBoundary k sense.aoMv).solBoundary k sense.vf24 sense.hotClamps sense.hotBanks
      ((((d4.posBoundary k).startTests k sense.selfTests).switchUis k tick).latchMeas k tick).sendUp k

/-! ### Up frames at the core die (R142, R144 to R146, R152) -/

/-- A value word taken at the core die: routed, and shown where a register shows it. -/
def Dev.takeWord (d : Dev) (p : Produced) : Dev :=
  let d1 := d.produce p.name p.qty p.word
  if classOf p.name = clsPOS then d1.put Reg.POS_VAL.VALUE (indexOf p.name) p.word.bits else d1

/-- The DI and DO states of an up frame become value words (R158 to R160). -/
def Dev.takeStates (d : Dev) (k latch : Nat) (dis dos : List Nat) : Dev :=
  let d1 := (List.range 64).foldl (fun (y : Dev) n =>
    let i := globalOf clsDI k n
    let v := match dis.getD n 0 with
      | 0 => DiLevel.off | 1 => .on | 2 => .broken | _ => .short
    y.produce (y.name clsDI i) 0 (diWord v (y.isSet Reg.DI_CFG.INVERT i) latch)) d
  (List.range 32).foldl (fun (y : Dev) n =>
    let o := globalOf clsDO k n
    let c := dos.getD n 0
    let switched := c % 4 != 3 && y.get Reg.DO_STAT.READBACK o != c / 4
    let z := if switched then (y.put Reg.DO_STAT.READBACK o (c / 4)).saveCount (0x410 + 4 * o) else y
    z.produce (z.name clsDO o) 0 (z.doWord o latch)) d1

/-- A status page taken (R145). -/
def Dev.takePage (d : Dev) (k latch page : Nat) (l : List Nat) : Dev :=
  match page with
  | 0 => d.takePage0 k l
  | 1 => d.takePage1 k latch l
  | 2 => d.takePage2 k latch l
  | 3 => d.takePage3 k latch l
  | 4 => (d.takeAoPage k latch l).takePosPage k latch (l.drop 32)
  | _ => d.capTake ((List.range (l.length / 2)).map fun j => (l.getD (2 * j) 0, l.getD (2 * j + 1) 0))

/-- Whether an event of a field die follows the interval rule of R134 (R134, R176, R210, R397). -/
def intervalEvent (code : Nat) : Bool :=
  code == 0x0201 || code == 0x0301 || code == 0x0401 || code == 0x0402 || code == 0x0404 || (0x0901 ≤ code && code ≤ 0x0905)

/-- An event of a field die raised by the core die with the latch tick that carried it (R146), and what it counts (R177, R180). -/
def Dev.takeEvent (d : Dev) (k latch : Nat) (e : DieEvent) : Dev :=
  let src := d.devNum * 2 ^ 20 + e.src
  let b0 := e.detail.getD 0 0
  let d1 := match e.code with
    | 0x0305 =>
      if e.detail.getD 1 0 = 1 then d.bump Reg.FIELD_HOLD_COUNT.ENTRIES k 0xFFFF
      else (d.put Reg.FIELD_HOLD_COUNT.LONGEST k (max (d.get Reg.FIELD_HOLD_COUNT.LONGEST k) (min 63 (leAt e.detail 2 2)))).recovered
    | 0x0306 =>
      let y := d.bump Reg.FIELD_SAFE_COUNT.ENTRIES k 0xFFFF
      if e.detail.getD 1 0 = 1 then
        (y.put Reg.FIELD_HOLD_COUNT.LONGEST k (max (y.get Reg.FIELD_HOLD_COUNT.LONGEST k) (y.get Reg.FIELD_CFG.HOLD_WIN k))).logFault 7 k 0
      else y
    | 0x0309 => if e.detail.getD 1 0 = 1 then d.logFault 8 k ((10 * leAt e.detail 4 4 + 32768) / 65536) else d
    | 0x0302 => d.put Reg.DO_STAT.PARTNER (indexOf e.src) (if b0 = 5 then e.detail.getD 1 0 else 0x3F)
    | 0x0304 => d.put Reg.FLOAT_STAT.FAULT (indexOf e.src) 1
    | _ => d
  if intervalEvent e.code then d1.raiseLimited e.code src latch b0 e.detail
  else if 0x0801 ≤ e.code && e.code ≤ 0x0805 then d1.takeSolEvent e.code src latch e.detail
  else d1.raiseAt e.code src latch e.detail

/-- Whole ticks in a row, up to the latest boundary, without a good up frame of die `k`. -/
def Dev.upMiss (d : Dev) (k : Nat) : Nat := if k = 0 then d.upMissA else d.upMissB

/-- Ticks without a good up frame of die `k`, set. -/
def Dev.setUpMiss (d : Dev) (k n : Nat) : Dev := if k = 0 then { d with upMissA := n } else { d with upMissB := n }

/-- What the core die keeps of the up frames of die `k`. -/
def Dev.upHist (d : Dev) (k : Nat) : UpHist := if k = 0 then d.upHistA else d.upHistB

/-- The same, set. -/
def Dev.setUpHist (d : Dev) (k : Nat) (h : UpHist) : Dev := if k = 0 then { d with upHistA := h } else { d with upHistB := h }

/-- A boundary of the core die: whether the frame of the tick that ends came is kept, and the count of R152 goes on. -/
def Dev.upTick (d : Dev) (k : Nat) : Dev :=
  let h := d.upHist k
  let n : UpHist := { seen := false, mask := (2 * h.mask + (if h.seen then 1 else 0)) % 2 ^ 128
                      page := if h.seen then h.page else (h.page + 1) % 5
                      lost := if h.seen then h.lost else Nat.lor h.lost (2 ^ h.page), dropped := h.dropped }
  (d.setUpHist k n).setUpMiss k (if h.seen then 0 else d.upMiss k + 1)

/-- A good up frame with a status page, noted. -/
def Dev.upSeen (d : Dev) (k page : Nat) : Dev :=
  let h := d.upHist k
  let lost := if page < 5 && h.lost.testBit page then h.lost - 2 ^ page else h.lost
  d.setUpHist k { h with seen := true, page := if page < 5 then (page + 1) % 5 else h.page, lost := lost }

/-- A good up frame taken whole. -/
def Dev.takeUp (d : Dev) (k : Nat) (f : UpFrame) : Dev :=
  let bit := fun (b : Bool) => if b then 1 else 0
  let d1 := (((((d.put Reg.FIELD_STAT.UP_LINK_OK k 1).put Reg.FIELD_STAT.DOWN_LINK_OK k (bit (f.lost == 0))).put
    Reg.FIELD_STAT.OUT_STATE k f.outState).put Reg.FIELD_STAT.INT_OSC k (bit f.intOsc)).put
    Reg.FIELD_STAT.VF24_LOW k (bit f.vf24Low)).put Reg.FIELD_DOWN_ERR.LOST k
      (min 0xFFFF (d.get Reg.FIELD_DOWN_ERR.LOST k + f.lost))
  let d2 := if d1.isSet Reg.FIELD_STAT.BARRIER_DOWN k then
      (d1.put Reg.FIELD_STAT.BARRIER_DOWN k 0).raise 0x0308 d1.nullName ([k, 0, 0, 0] ++ leBytes 4 (d1.upMiss k))
    else d1
  let d2r := if 0 < d2.upMiss k && d2.upMiss k < d2.get Reg.FIELD_CFG.HOLD_WIN k then d2.recovered else d2
  let d3 := (f.words.foldl (fun y p => y.takeWord p) ((d2r.setUpMiss k 0).upSeen k f.page)).takeSlots f.slots
  let d4 := (d3.takePage k f.latch f.page f.pageData).takeStates k f.latch f.dis f.dos
  let d5 := match f.event with
    | some e => d4.takeEvent k f.latch e
    | none => d4
  let told := if f.dropped < (d5.upHist k).dropped then 0 else (d5.upHist k).dropped
  let d6 := d5.setUpHist k { d5.upHist k with dropped := f.dropped }
  (List.range (f.dropped - told)).foldl (fun (y : Dev) n => y.raise 0x030A y.nullName ([k, 0, 0, 0] ++ leBytes 4 (told + n + 1))) d6

/-- R142: the core die receives an up frame with wrong bits `wrong`: it takes it whole, or counts it lost; one that does not arrive has nothing that
FIELD_UP_ERR counts. A stopped die's frames are ignored (R663). -/
def execUpFrame (k : Nat) (arrives : Bool) (wrong : Nat) (s : State) : Host.Outcome State Fault Refusal :=
  s.onDev fun d =>
    match if k = 0 then d.upA else d.upB with
    | none => d
    | some f =>
      let d1 := if k = 0 then { d with upA := none } else { d with upB := none }
      let stopped := if k = 0 then d.isSet Reg.GLOBAL_FAULT_STAT.STOPPED_A 0 else d.isSet Reg.GLOBAL_FAULT_STAT.STOPPED_B 0
      if !(k < 2 && d.live && d.dieFitted k) || stopped then d1
      else if !arrives then d1.put Reg.FIELD_STAT.UP_LINK_OK k 0
      else match frameCheck (upFrameBytes f) wrong d.tick with
        | 0 => d1.takeUp k f
        | 1 => (d1.put Reg.FIELD_STAT.UP_LINK_OK k 0).bump Reg.FIELD_UP_ERR.CRC k 0xFFFF
        | _ => (d1.put Reg.FIELD_STAT.UP_LINK_OK k 0).bump Reg.FIELD_UP_ERR.OTHER k 0xFFFF

/-- The input objects of die `k`: UI, INTL, DI and POS, and the slots that carry a word. -/
def Dev.inputsOf (d : Dev) (k : Nat) : List Nat :=
  (List.range 32).map (fun n => d.name clsUI (globalOf clsUI k n)) ++
  (List.range 16).map (fun n => d.name clsINTL (globalOf clsINTL k n)) ++
  (List.range 64).map (fun n => d.name clsDI (globalOf clsDI k n)) ++
  (List.range 4).map (fun n => d.name clsPOS (globalOf clsPOS k n)) ++
  (d.boundSlots k).map (fun n => d.name clsMSLOT n)

/-- The words of die `k` while its barrier is down: the last value and tick received, or 0 and the present tick, with FAULT
set and VALID clear (R152). -/
def Dev.barrierWords (d : Dev) (k : Nat) : Dev :=
  (d.inputsOf k).foldl (fun (y : Dev) n =>
    let w := (y.value? n 0).getD (mkWord 0 0 y.tick)
    y.takeWord { name := n, qty := 0, word := (w.clear stVALID).mark stFAULT }) d

/-- R152: no good up frame for HOLD_WIN ticks. -/
def execBarrierDown (k : Nat) (s : State) : Host.Outcome State Fault Refusal :=
  s.onDev fun d =>
    if k < 2 && d.live && d.dieFitted k && !d.isSet Reg.FIELD_STAT.BARRIER_DOWN k && d.get Reg.FIELD_CFG.HOLD_WIN k ≤ d.upMiss k then
      ((d.put Reg.FIELD_STAT.BARRIER_DOWN k 1).barrierWords k).raise 0x0308 d.nullName ([k, 1, 0, 0] ++ leBytes 4 (d.upMiss k))
    else d

/-! ### Register writes of the field dies (R147, R177) -/

/-- R177: FIELD_ERR_CLR zeroes the frame and state counters of die `k`. -/
def Dev.fieldErrClr (d : Dev) (k : Nat) : Dev :=
  (((((d.put Reg.FIELD_DOWN_ERR.LOST k 0).put Reg.FIELD_UP_ERR.CRC k 0).put Reg.FIELD_UP_ERR.OTHER k 0).put
    Reg.FIELD_HOLD_COUNT.ENTRIES k 0).put Reg.FIELD_HOLD_COUNT.LONGEST k 0).put Reg.FIELD_SAFE_COUNT.ENTRIES k 0

/-- R177. -/
def execFieldErrClr (k : Nat) (s : State) : Host.Outcome State Fault Refusal :=
  s.onDev fun d => if d.dieFitted k then d.hostReg (0x30024 + 0x10000 * k) 1 fun x => x.fieldErrClr k else d

/-- The field die whose configuration a register of FIELD, DIO, POS, SHUTTLE or FANAO holds: element `i` of `n`. -/
def regDie (off i n : Nat) : Nat :=
  if off < 0x50000 then (if off < 0x40000 then 0 else 1)
  else if n ≤ 1 || 2 * i < n then 0 else 1

/-- Whether element `i` of a register of the field dies exists on this grade (R4, R179, R211, R373, R398). -/
def Dev.fieldRegHere (d : Dev) (off i n : Nat) : Bool := d.dieFitted (regDie off i n)

/-- A write refused for a field die (R177). -/
def Dev.fieldReject (d : Dev) (k : Nat) : Dev := d.put Reg.FIELD_STAT.WRITE_REJECTED k 1

/-- The rules of DO_CFG and FLOAT_CFG that span objects (R181). -/
def Dev.dioWriteOk (d : Dev) (off i v : Nat) : Bool :=
  let busy := fun (o : Nat) => d.writerOf (handle clsDO o) != 0 || (d.forceOf (handle clsDO o)).isSome
  if off = Reg.DO_CFG.SAFE.addr i then !(bitAt v 2 && d.isSet Reg.FLOAT_CFG.ENABLE (i / 2))
  else if off = Reg.FLOAT_CFG.ENABLE.addr i then
    !bitAt v 0 || (!busy (2 * i) && !busy (2 * i + 1) && !d.isSet Reg.DO_CFG.PARALLEL (2 * i))
  else true

/-- A host write to a configuration register of a field die (R147): checked, visible at once, and put in the mailbox. -/
def Dev.writeField (d : Dev) (off v : Nat) : Dev :=
  match findReg off with
  | none => d
  | some (fs, i, _) =>
    let n := (fs.map fun f => f.count).foldl max 1
    let k := regDie off i n
    let w := if off = Reg.DO_CFG.SAFE.addr i && i % 2 = 1 then v - v / 4 % 2 * 4 else v
    let d0 := fs.foldl (fun (y : Dev) f => if f.ty = .w1c && bitAt v f.lo then y.put f i 0 else y) d
    if off % 0x10000 = 0x24 && off < 0x50000 then (if bitAt v 0 && d.dieFitted k then d.fieldErrClr k else d)
    else if !fs.any (fun f => f.ty == .rw) then (if d.fieldRegHere off i n then d0 else d)
    else if !d.fieldRegHere off i n then d
    else if !(d.inRange fs w && d.posWriteOk off i w && d.fanWriteOk off i w && d.dioWriteOk off i w
        && d.shutWriteOk off i i i w) then d0.fieldReject k
    else
      let d1 := d0.writeFlds fs i w
      let d2 := if off = Reg.DI_CFG.TYPE.addr i || off = Reg.DI_DEB.DEBOUNCE.addr i then
          d1.put Reg.DI_DEB.EFFECTIVE i (diEffective (d1.isSet Reg.DI_CFG.PULSED i) (d1.get Reg.DI_CFG.PERIOD i) (d1.get Reg.DI_DEB.DEBOUNCE i))
        else if off = Reg.SOL_TTP_COMM.TMIN_COMM.addr i then
          ((d1.put Reg.SOL_TTP.TMIN i (bitsAt w 0 16)).put Reg.SOL_TTP.TMAX i (bitsAt w 16 16)).markRet (Reg.SOL_TTP.TMIN.addr i)
        else d1
      if fanCoreReg off i then d2
      else if off = Reg.DIO_DARK.EN_A.addr 0 && d.dieFitted 1 then (d2.post 0 (.reg off w)).post 1 (.reg off w)
      else d2.post k (.reg off w)

/-- R147: a configuration write of FIELD, DIO, POS, SHUTTLE or FANAO. -/
def execMailboxWrite (off v : Nat) (s : State) : Host.Outcome State Fault Refusal :=
  s.onDev fun d =>
    if (0x30000 ≤ off && off < 0x50000) || (0x80000 ≤ off && off < 0xC0000) then d.hostReg off v fun x => x.writeField (off / 4 * 4) (v % 2 ^ 32)
    else d

end Sys2Proof.Machine
end

