-- ==== Sys2Proof/Machine/Sched.lean ====
section
/-! DEFINITION. Civil time, schedules, zones and overrides (02_tick_clocks_time.md, 08_schedules_occupancy.md). -/

namespace Sys2Proof.Machine
open Sys2Proof

/-! ### Civil and local time (R91 to R93), in ticks since 1970-01-01 -/

/-- Ticks of a second, a minute and a day. -/
def tickSecond : Nat := 100000
def tickMinute : Nat := 6000000
def tickDay : Nat := 8640000000

/-- UTC at tick `t` (R91). -/
def SchedSt.utc (x : SchedSt) (t : Nat) : Option Int :=
  x.civil.map fun c => (c.2.1 * tickSecond : Nat) + ((t : Int) - (c.1 : Int))

/-- The additional offset in minutes of the latest daylight-saving entry that has started at UTC `u` (R93). -/
def dstOffset (dst : List (Nat × Int)) (u : Int) : Int :=
  dst.foldl (fun (o : Int) e => if ((e.1 * tickSecond : Nat) : Int) ≤ u then e.2 else o) 0

/-- Local time at tick `t` (R93). -/
def SchedSt.localAt (x : SchedSt) (t : Nat) : Nat :=
  match x.civil, x.utc t with
  | some c, some u => (u + (c.2.2 + dstOffset x.dst u) * (tickMinute : Int)).toNat
  | _, _ => 0

/-- The tick at which a daylight-saving entry starts. -/
def SchedSt.dstTick (x : SchedSt) (e : Nat × Int) : Int :=
  match x.civil with
  | some c => (c.1 : Int) + ((e.1 * tickSecond : Nat) : Int) - ((c.2.1 * tickSecond : Nat) : Int)
  | none => 0

/-- Schedule time at a tick `t` from `now` on: local time that never decreases (R315). -/
def SchedSt.timeAt (x : SchedSt) (now t : Nat) : Nat :=
  let base := max (x.last.getD 0) (x.localAt t)
  x.dst.foldl (fun (m : Nat) e =>
    let s := x.dstTick e
    if (now : Int) < s && s ≤ (t : Int) then max m (x.localAt (s - 1).toNat) else m) base

/-! ### Dates -/

/-- Days from 1970-01-01 to a date of the Gregorian calendar, plus 719468. -/
def dayNumber (y m dd : Nat) : Nat :=
  let z := if m ≤ 2 then y - 1 else y
  let yoe := z % 400
  let doy := (153 * ((m + 9) % 12) + 2) / 5 + dd - 1
  z / 400 * 146097 + yoe * 365 + yoe / 4 - yoe / 100 + doy

/-- The year of a day, counted as `dayNumber` counts. -/
def yearOf (n : Nat) : Nat :=
  let doe := n % 146097
  let yoe := (doe - doe / 1460 + doe / 36524 - doe / 146096) / 365
  let doy := doe - (365 * yoe + yoe / 4 - yoe / 100)
  let mp := (5 * doy + 2) / 153
  n / 146097 * 400 + yoe + (if 10 ≤ mp then 1 else 0)

/-- Whether a year has a 29 February. -/
def leapYear (y : Nat) : Bool := y % 4 == 0 && (y % 100 != 0 || y % 400 == 0)

/-- The days of a month; year 0 stands for every year. -/
def monthDays (y m : Nat) : Nat :=
  if m = 2 then (if y = 0 || leapYear y then 29 else 28) else if m = 4 || m = 6 || m = 9 || m = 11 then 30 else 31

/-! ### Programs (R318 to R320) -/

/-- Whether the range of exception entry at byte `a` of a block contains the day `n` (R318, R320). -/
def exceptionHolds (bs : List Nat) (a n : Nat) : Bool :=
  let m := bs.getD a 0
  let dd := bs.getD (a + 1) 0
  let y := leAt bs (a + 2) 2
  let starts := fun (yy : Nat) =>
    let s := dayNumber yy m dd
    dd ≤ (if m = 2 && !leapYear yy then 28 else monthDays yy m) && s ≤ n && n < s + bs.getD (a + 4) 0
  m != 0 && (if y = 0 then starts (yearOf n) || starts (yearOf n - 1) else starts y)

/-- The day type of a day (R318). -/
def dayType (bs : List Nat) (day : Nat) : Nat :=
  match (List.range 128).find? fun x => exceptionHolds bs (32 * 33 + 8 * x) (day + 719468) with
  | some x => bs.getD (32 * 33 + 8 * x + 5) 0
  | none => bs.getD (8 + (day + 3) % 7) 0

/-- The value of the latest switch event of a day type at or before a minute. -/
def lastEvent (bs : List Nat) (ty minute : Nat) : Option Int :=
  let a := 32 * (1 + 4 * ty)
  (List.range 16).foldl (fun (r : Option Int) e =>
    if leAt bs (a + 8 * e) 2 ≤ minute then some (signedOf 32 (leAt bs (a + 8 * e + 4) 4)) else r) none

/-- The value of a program at schedule time `l` (R319). -/
def progValue (bs : List Nat) (l : Nat) : Int :=
  let day := l / tickDay
  match lastEvent bs (dayType bs day) (l % tickDay / tickMinute) with
  | some v => v
  | none =>
    ((List.range 7).findSome? fun j =>
      if j + 1 ≤ day then lastEvent bs (dayType bs (day - (j + 1))) 1439 else none).getD (signedOf 32 (leAt bs 4 4))

/-- Whether a range of bytes is 0. -/
def zeroAt (bs : List Nat) (a n : Nat) : Bool := (List.range n).all fun j => bs.getD (a + j) 0 == 0

/-- Whether the events of one day type keep R320. -/
def dayTypeOk (bs : List Nat) (ty : Nat) : Bool :=
  let a := 32 * (1 + 4 * ty)
  let minute := fun (e : Nat) => leAt bs (a + 8 * e) 2
  (List.range 16).all fun e =>
    (minute e ≤ 1439 || minute e == 0xFFFF) && zeroAt bs (a + 8 * e + 2) 2
      && (e == 0 || minute e == 0xFFFF || (minute (e - 1) < minute e))

/-- Whether one exception entry keeps R320. -/
def exceptionOk (bs : List Nat) (x : Nat) : Bool :=
  let a := 32 * 33 + 8 * x
  let m := bs.getD a 0
  zeroAt bs (a + 6) 2 && (m == 0
    || (m ≤ 12 && 1 ≤ bs.getD (a + 1) 0 && bs.getD (a + 1) 0 ≤ monthDays (leAt bs (a + 2) 2) m
      && 1 ≤ bs.getD (a + 4) 0 && bs.getD (a + 5) 0 ≤ 7))

/-- Whether a program block keeps R320. -/
def progOk (bs : List Nat) : Bool :=
  bs.getD 0 0 == 1 && zeroAt bs 1 3 && ((List.range 7).all fun j => bs.getD (8 + j) 0 ≤ 7) && zeroAt bs 15 17
    && ((List.range 8).all fun ty => dayTypeOk bs ty) && ((List.range 128).all fun x => exceptionOk bs x)

/-! ### Zones (R321 to R328) -/

/-- A zone without a block. -/
def ZoneSt.init : ZoneSt :=
  { occupied := false, absentAt := none, faulted := 0, opt := false, level := 0, expired := false, override := none, pred := none }

/-- Zone `z`. -/
def Dev.zone (d : Dev) (z : Nat) : ZoneSt := Map.get d.sched.zones z ZoneSt.init

/-- Zone `z` set. -/
def Dev.setZone (d : Dev) (z : Nat) (x : ZoneSt) : Dev :=
  { d with sched := { d.sched with zones := Map.set d.sched.zones z x ZoneSt.init } }

/-- The block of a zone; empty while the zone is not set. -/
def Dev.zoneBlock (d : Dev) (z : Nat) : List Nat := d.block (handle clsZONE z)

/-- The zones that are set. -/
def Dev.zonesSet (d : Dev) : List Nat := (List.range 128).filter fun z => !(d.zoneBlock z).isEmpty

/-- The programs that are set. -/
def Dev.progsSet (d : Dev) : List Nat := (List.range 256).filter fun p => !(d.block (handle clsSCHED p)).isEmpty

/-- Whether CIVIL_SET has completed (R93). -/
def Dev.civilValid (d : Dev) : Bool := d.isSet Reg.SCHED_STAT.CIVIL_VALID 0

/-- A level code from a program value (R323). -/
def levelOf (v : Int) : Nat := (clampInt 0 3 (roundShift v 16)).toNat

/-- The block of a zone's program, when the program is there and its value word is valid (R321). -/
def Dev.zoneProg (d : Dev) (bs : List Nat) : Option (List Nat) :=
  let h := leAt bs 0 4
  if isNull h || !d.civilValid || (d.block h).isEmpty then none else some (d.block h)

/-- Schedule level S of a zone block at a schedule time (R323). -/
def Dev.zoneS (d : Dev) (bs : List Nat) (l : Nat) : Nat :=
  match d.zoneProg bs with
  | some p => levelOf (progValue p l)
  | none => bs.getD 22 0

/-- The first tick after `now` at which S becomes comfort, within OPT_MAX minutes (R327). S changes only where a minute of local
time begins or a daylight-saving entry starts. -/
def Dev.tOcc (d : Dev) (bs : List Nat) (now : Nat) : Option Nat :=
  let x := d.sched
  let top := now + leAt bs 28 2 * tickMinute
  let s := fun (t : Nat) => d.zoneS bs (x.timeAt now t)
  if (d.zoneProg bs).isNone || s now = 0 then none
  else
    let phase := ((x.utc now).getD 0 % (tickMinute : Int)).toNat
    let first := now + (tickMinute - phase)
    let a := ((List.range (leAt bs 28 2)).map fun j => first + j * tickMinute).find? fun t => t ≤ top && s t == 0
    let b := ((x.dst.map fun e => (x.dstTick e).toNat).filter fun t => now < t && t ≤ top).find? fun t => s t == 0
    match a, b with
    | some u, some v => some (min u v)
    | some u, none => some u
    | none, v => v

/-- The level of R323 from its parts: the override, optimum start, S and occupancy. -/
def zoneLevel (override : Option Nat) (opt : Bool) (s : Nat) (occupied : Bool) : Nat :=
  match override with
  | some l => l
  | none =>
    if opt then 0
    else if s = 0 && !occupied then 1
    else if s = 1 && occupied then 0
    else s

/-- The level of a zone at a later tick `t`, predicted at `base` (R325). -/
def Dev.zoneFuture (d : Dev) (z base t : Nat) : Nat :=
  let bs := d.zoneBlock z
  let y := d.zone z
  let forced := match y.override with
    | some (l, e) => if e = 0 || t < e then some l else none
    | none => none
  let early := bitAt (bs.getD 21 0) 0 && (match d.tOcc bs base with
    | some o => t < o
    | none => false)
  zoneLevel forced early (d.zoneS bs (d.sched.localAt t)) y.occupied

/-- What a SCHED or ZONE source will carry at tick `t`, predicted at `base` (R325). -/
def Dev.schedFuture (d : Dev) (h base t : Nat) : Int :=
  if classOf h = clsZONE then
    (if (d.zoneBlock (indexOf h)).isEmpty then 0 else (d.zoneFuture (indexOf h) base t : Int) * 65536)
  else
    let bs := d.block (handle clsSCHED (indexOf h))
    if bs.isEmpty then 0
    else if d.civilValid then progValue bs (d.sched.localAt t)
    else signedOf 32 (leAt bs 4 4)

/-- Whether NODE `n` of the committed model is flagged PREDICT (R241, R252). -/
def Dev.nodePredicts (d : Dev) (n : Nat) : Bool := d.isSet Reg.PAT_STAT.MODEL_VALID 0 && d.pat.shape.slots.contains n

/-- The checks of a zone block (R332): 0, 5 for BAD_OBJECT, 6 for BAD_PARAM. -/
def Dev.zoneCheck (d : Dev) (bs : List Nat) : Nat :=
  let hs := (List.range 5).map fun j => leAt bs (4 * j) 4
  let p := hs.getD 0 0
  let node := leAt bs 24 4
  if bs.getD 23 0 != 1 || 3 < bs.getD 21 0 || 3 < bs.getD 22 0 || !zeroAt bs 30 2 || !zeroAt bs 52 12
      || leAt bs 28 2 = 0 || 1440 < leAt bs 28 2 then 6
  else if (hs ++ [node]).any (fun h => d.badHandle h) then 5
  else if !isNull p && classOf p != clsSCHED then 5
  else if isNull node then (if bitAt (bs.getD 21 0) 0 then 6 else 0)
  else if classOf node != clsNODE then 5
  else if d.nodePredicts (indexOf node) then 0 else 6

/-! ### Evaluation (R314 to R328) -/

/-- Programs and zones counted (R334). -/
def Dev.showSched (d : Dev) : Dev :=
  let z := d.zonesSet.length
  (((d.put Reg.SCHED_STAT.PROGRAMS 0 d.progsSet.length).put Reg.SCHED_STAT.ZONES 0 z).put Reg.SCHED_STAT.ZONES_FULL 0
    (if z = 128 then 1 else 0))

/-- The override of a zone set or released, and kept as retained state (R326). -/
def Dev.setOverride (d : Dev) (z : Nat) (o : Option (Nat × Nat)) (expired : Bool) : Dev :=
  (d.setZone z { d.zone z with override := o, expired := expired }).setBlock (keyExtra (handle clsZONE z))
    (match o with
      | some (l, e) => 1 :: l :: leBytes 8 e
      | none => [])

/-- One waiting operation takes effect at an evaluation (R314 step 1, R331). -/
def Dev.schedOp (d : Dev) (o : SchedOp) : Dev :=
  let i := indexOf o.obj
  if o.kind = 1 then
    let d1 := d.setBlock (handle clsSCHED i) o.block
    let d2 := if o.block.isEmpty
      then (d1.put Reg.SCHED_VAL.VALUE i (mkWord 0 0 d.tick).bits).produce (d.name clsSCHED i) 0 (mkWord 0 0 d.tick)
      else d1
    d2.done o.id (d.tick % 2 ^ 32)
  else if o.kind = 2 then
    let d1 := d.setBlock (handle clsZONE i) o.block
    if o.block.isEmpty then
      let w := mkWord 0 0 d.tick
      let shown := [Reg.ZONE_STAT.LEVEL, Reg.ZONE_STAT.OCCUPIED, Reg.ZONE_STAT.OVERRIDE, Reg.ZONE_STAT.OPT_ACTIVE, Reg.ZONE_STAT.NOSCHED_USED].foldl
        (fun (y : Dev) f => y.put f i 0) ((d1.setOverride i none false).setZone i ZoneSt.init)
      (((shown.put Reg.ZONE_VAL.VALUE i w.bits).produce (d.name clsZONE i) 0
        w).produce (d.name clsZONE i) 1 w).done o.id (d.tick % 2 ^ 32)
    else (d1.setZone i { d.zone i with opt := false, pred := none }).done o.id (d.tick % 2 ^ 32)
  else if (d.zoneBlock i).isEmpty then d.fail o.id .badParam
  else if o.on then
    d.setOverride i (some (o.level, if o.minutes = 0 then 0 else d.tick + o.minutes * tickMinute)) false
  else if (d.zone i).override.isSome then d.setOverride i none false
  else d

/-- An override whose expiry tick has come ends (R326). -/
def Dev.expireOverride (d : Dev) (z : Nat) : Dev :=
  match (d.zone z).override with
  | some (_, e) => if e != 0 && e ≤ d.tick then d.setOverride z none true else d
  | none => d

/-- Schedule time advanced to this tick, with SCHED_STAT.HELD and its event (R315, R333). -/
def Dev.schedTime (d : Dev) : Dev :=
  if !d.civilValid then d
  else
    let x := d.sched
    let loc := x.localAt d.tick
    let last := x.last.getD loc
    let held := loc < last
    let was := d.isSet Reg.SCHED_STAT.HELD 0
    let jump := match x.seen with
      | some (l, t) => (l + (d.tick - t) - loc) / tickSecond
      | none => 0
    let j := if held && !was then jump else x.jump
    let d1 := { d with sched := { x with last := some (max last loc), seen := some (loc, d.tick), jump := j } }
    if held == was then d1
    else (d1.putBit Reg.SCHED_STAT.HELD 0 held).raise 0x0704 d.nullName ([if held then 1 else 0, 0, 0, 0] ++ leBytes 4 j)

/-- One program evaluated and its value word published (R314, R316, R319). -/
def Dev.evalProg (d : Dev) (p : Nat) : Dev :=
  let bs := d.block (handle clsSCHED p)
  let w := if d.civilValid then mkWord (progValue bs (d.sched.last.getD 0)) stVALID d.tick
    else mkWord (signedOf 32 (leAt bs 4 4)) 0 d.tick
  (d.put Reg.SCHED_VAL.VALUE p w.bits).produce (d.name clsSCHED p) 0 w

/-- The presence sources of a zone block, each with its number 0 to 3. -/
def presenceOf (bs : List Nat) : List (Nat × Nat) :=
  ((List.range 4).map fun j => (j, leAt bs (4 + 4 * j) 4)).filter fun p => !isNull p.2

/-- Whether a presence source is in fault: VALID clear or FAULT set, or no word yet (R322). -/
def Dev.presenceFault (d : Dev) (h : Nat) : Bool :=
  match d.value? (d.devNum * 2 ^ 20 + h) 0 with
  | none => true
  | some w => !w.has stVALID || w.has stFAULT

/-- Whether a presence source counts as present (R322). -/
def Dev.isPresent (d : Dev) (h : Nat) : Bool :=
  d.presenceFault h || (match d.value? (d.devNum * 2 ^ 20 + h) 0 with
    | some w => decide (32768 ≤ w.val)
    | none => true)

/-- The hold-off of an unoccupied zone has run (R322). -/
def Dev.presenceExpire (d : Dev) (z : Nat) : Dev :=
  let y := d.zone z
  match y.absentAt with
  | some t =>
    if t + (d.zoneBlock z).getD 20 0 * tickMinute ≤ d.tick then d.setZone z { y with occupied := false, absentAt := none } else d
  | none => d

/-- Presence of one zone (R322). -/
def Dev.evalPresence (d : Dev) (z : Nat) : Dev :=
  let bs := d.zoneBlock z
  let y := d.zone z
  let src := presenceOf bs
  let mask := src.foldl (fun (m : Nat) p => if d.presenceFault p.2 then m + 2 ^ p.1 else m) 0
  let dr := src.foldl (fun (x : Dev) p => x.touchValue (x.devNum * 2 ^ 20 + p.2) 0 readerCore) d
  let changed := (List.range 4).filter fun j => mask.testBit j != y.faulted.testBit j
  let present := src.isEmpty || src.any fun p => d.isPresent p.2
  let d1 := if present then dr.setZone z { y with occupied := true, absentAt := none, faulted := mask }
    else if y.occupied && y.absentAt.isNone then dr.setZone z { y with absentAt := some d.tick, faulted := mask }
    else dr.setZone z { y with faulted := mask }
  (changed.foldl (fun (x : Dev) j =>
    x.raiseLimited 0x0703 (x.name clsZONE z) x.tick (mask + 1) [if mask.testBit j then 1 else 0, j + 1]) d1).presenceExpire z

/-- The start of the latest completed step of the pattern engine. -/
def Dev.lastStep (d : Dev) : Option Nat := d.pat.lastDone

/-- Optimum start of one zone (R327, R328). -/
def Dev.evalOpt (d : Dev) (z : Nat) : Dev :=
  let bs := d.zoneBlock z
  let y := d.zone z
  if !bitAt (bs.getD 21 0) 0 then d.setZone z { y with opt := false }
  else match d.tOcc bs d.tick with
    | none => d.setZone z { y with opt := false }
    | some o =>
      if y.opt then d
      else
        -- the prediction of the latest step may still be under way
        let lacks := if d.pat.predicting.isSome then none else some 0xFE
        let code := match y.pred with
          | some (s, p, ha) =>
            if d.lastStep != some s then lacks
            else match ha with
              | none => some 0xFF
              | some h => if o ≤ s + h * p + p then some h else none
          | none => lacks
        match code with
        | none => d
        | some c => (d.setZone z { y with opt := true }).raise 0x0702 (d.name clsZONE z) ([c, 0, 0, 0] ++ leBytes 8 o)

/-- The level of one zone, its value words and its event (R323, R324, R333); ZONE_STAT still shows the evaluation before. -/
def Dev.evalLevel (d : Dev) (z : Nat) : Dev :=
  let bs := d.zoneBlock z
  let y := d.zone z
  let noProg := (d.zoneProg bs).isNone
  let s := d.zoneS bs (d.sched.last.getD 0)
  let l := zoneLevel (y.override.map (·.1)) y.opt s y.occupied
  let cause :=
    if y.override.isSome then 3
    else if y.expired then 4
    else if y.opt then 5
    else if noProg then 6
    else if y.occupied != d.isSet Reg.ZONE_STAT.OCCUPIED z then 2
    else if d.get Reg.ZONE_STAT.OVERRIDE z = 1 then 3
    else 1
  let applies := noProg && y.override.isNone && !y.opt
  let st := stVALID + (if applies && !isNull (leAt bs 0 4) then stSTALE else 0) + (if y.override.isSome then stFORCED else 0)
  let w := mkWord (l * 65536) st d.tick
  let sp := mkWord (signedOf 32 (leAt bs (32 + 4 * l) 4)) st d.tick
  let bit := fun (b : Bool) => if b then 1 else 0
  let d1 := (((((d.setZone z { y with level := l, expired := false }).put Reg.ZONE_STAT.LEVEL z l).put Reg.ZONE_STAT.OCCUPIED z
    (bit y.occupied)).put Reg.ZONE_STAT.OVERRIDE z (bit y.override.isSome)).put Reg.ZONE_STAT.OPT_ACTIVE z (bit y.opt)).put
      Reg.ZONE_STAT.NOSCHED_USED z (bit applies)
  let d2 := (((d1.put Reg.ZONE_VAL.VALUE z w.bits).produce (d.name clsZONE z) 0 w).produce (d.name clsZONE z) 1 sp)
  if l = y.level then d2
  else (d2.put Reg.ZONE_STAT.CAUSE z cause).raise 0x0701 (d.name clsZONE z) [l, y.level, cause]

/-- A ZONE_OVERRIDE completes at its evaluation with the level in force (R330). -/
def Dev.endOverride (d : Dev) (o : SchedOp) : Dev :=
  if o.kind = 3 then d.done o.id (d.zone (indexOf o.obj)).level else d

/-- One evaluation (R314). -/
def Dev.schedEvaluate (d : Dev) : Dev :=
  let seen := fun (o : SchedOp) => o.checked && decide (o.at_ < d.tick)
  let now := d.sched.ops.filter seen
  let d0 := { d with sched := { d.sched with ops := d.sched.ops.filter (fun o => !seen o), evalAt := some d.tick } }
  let d1 := (now.foldl (fun (x : Dev) o => x.schedOp o) d0).showSched
  let zs := d1.zonesSet
  let d2 := (zs.foldl (fun (x : Dev) z => x.expireOverride z) d1).schedTime
  let d3 := d2.progsSet.foldl (fun (x : Dev) p => x.evalProg p) d2
  let d4 := zs.foldl (fun (x : Dev) z => x.evalPresence z) d3
  let d5 := zs.foldl (fun (x : Dev) z => x.evalOpt z) d4
  let d6 := zs.foldl (fun (x : Dev) z => x.evalLevel z) d5
  now.foldl (fun (x : Dev) o => x.endOverride o) d6

/-- R314: the one evaluation at a tick boundary whose count is a multiple of 1,000, paused in a warning and in freeze (R316). -/
def execSchedEvaluation (s : State) : Host.Outcome State Fault Refusal :=
  s.onDev fun d => if d.controlling && d.tick % 1000 == 0 && d.sched.evalAt != some d.tick then d.schedEvaluate else d

/-- R326. -/
def execOverrideExpiry (z : Nat) (s : State) : Host.Outcome State Fault Refusal :=
  s.onDev fun d => if d.live && z < 128 then d.expireOverride z else d

/-- R322. -/
def execPresenceHoldoffExpiry (z : Nat) (s : State) : Host.Outcome State Fault Refusal :=
  s.onDev fun d => if d.controlling && z < 128 then d.presenceExpire z else d

/-! ### Descriptors (R91, R92, R329 to R331) -/

/-- A block, override or removal that waits for an evaluation. -/
def Dev.addSched (d : Dev) (o : SchedOp) : Dev := { d with sched := { d.sched with ops := d.sched.ops ++ [o] } }

/-- R331: SCHED_SET and ZONE_SET; a removal has no block to check. -/
def bodySchedSet (kind cls id : Nat) (x : Desc) (d : Dev) : Dev :=
  let h := x.u32 16
  let w := x.u32 20
  if isNull h || !d.isHandle cls h then d.fail id .badObject
  else
    d.addSched { id := id, kind := kind, obj := h, block := [], checked := w == 0xFFFFFFFF, level := 0, on := false, minutes := 0
                 at_ := d.tick }

/-- The end of the check of a SCHED_SET or ZONE_SET (R331, R648). -/
def Dev.schedChecked (d : Dev) (id : Nat) (x : Desc) : Dev :=
  let zone := x.u16 0 == 0x0702
  let h := x.u32 16
  let len := if zone then 64 else 65 * 32
  let drop := fun (y : Dev) => { y with sched := { y.sched with ops := y.sched.ops.filter fun o => o.id != id } }
  if !(d.sched.ops.any fun o => o.id == id && !o.checked) then d
  else if !imageFits (x.u32 20) len then (drop d).fail id .badParam
  else match d.readImage (x.u32 20) len with
    | (none, d1) => (drop d1).fail id .dataError
    | (some bs, d1) =>
      let code := if zone then d1.zoneCheck bs else if progOk bs then 0 else 6
      if code = 5 then (drop d1).fail id .badObject
      else if code = 6 then (drop d1).fail id .badParam
      else if zone && !d1.routesFit (zoneProducers 0 bs).length (zoneProducers 0 (d1.zoneBlock (indexOf h))).length then
        (drop d1).fail id .notAdmitted
      else if !d1.manifestOk h (x.u16 0) bs then (drop d1).fail id .authFailed
      else
        { d1 with sched := { d1.sched with ops := d1.sched.ops.map fun o => if o.id == id then { o with block := bs, checked := true, at_ := d1.tick } else o } }

/-- R329 to R331: ZONE_OVERRIDE. -/
def bodyZoneOverride (id : Nat) (x : Desc) (d : Dev) : Dev :=
  let h := x.u32 16
  if isNull h || !d.isHandle clsZONE h then d.fail id .badObject
  else if 3 < x.byte 20 || 1 < x.byte 21 || (d.zoneBlock (indexOf h)).isEmpty then d.fail id .badParam
  else d.addSched { id := id, kind := 3, obj := h, block := [], checked := true, level := x.byte 20, on := x.byte 21 == 1, minutes := x.u16 22
                    at_ := d.tick }

/-- Civil time in force and retained (R91). -/
def Dev.setCivil (d : Dev) (q utc : Nat) (offset : Int) : Dev :=
  (({ d with sched := { d.sched with civil := some (q, utc, offset) } }.putRet Reg.SCHED_STAT.CIVIL_VALID 0 1).setBlock keyCIVIL
    (leBytes 8 q ++ leBytes 8 utc ++ leBytes 2 (bitsOf 16 offset)))

/-- R91: CIVIL_SET. -/
def bodyCivilSet (id : Nat) (x : Desc) (d : Dev) : Dev :=
  (d.setCivil (x.u64 16) (x.u64 24) (signedOf 16 (x.u16 32))).done id 0

/-- The entries of a daylight-saving table. -/
def dstEntries (bs : List Nat) (n : Nat) : List (Nat × Int) :=
  (List.range n).map fun j => (leAt bs (16 * j) 8, signedOf 16 (leAt bs (16 * j + 8) 2))

/-- Whether start seconds ascend. -/
def ascending : List (Nat × Int) → Bool
  | a :: b :: t => decide (a.1 < b.1) && ascending (b :: t)
  | _ => true

/-- R92: DST_LOAD. Non-zero reserved bytes 10 to 15 of an entry complete BAD_PARAM: DESIGN CHOICE (log 193), the rule gives no status for them. -/
def bodyDstLoad (id : Nat) (x : Desc) (d : Dev) : Dev :=
  let n := x.u32 16
  if 32 < n || !imageFits (x.u32 20) (16 * n) then d.fail id .badParam
  else match d.readImage (x.u32 20) (16 * n) with
    | (none, d1) => d1.fail id .dataError
    | (some bs, d1) =>
      if !ascending (dstEntries bs n) || (List.range n).any (fun j => !zeroAt bs (16 * j + 10) 6) then d1.fail id .badParam
      else if !d1.manifestOk 0 0x0711 bs then d1.fail id .authFailed
      else ({ d1 with sched := { d1.sched with dst := dstEntries bs n } }.setBlock keyDST bs).done id 0

/-- R331. -/
def execSchedSet (q : Nat) (x : Desc) (s : State) : Host.Outcome State Fault Refusal :=
  s.onDev fun d => d.submit q x 0x0701 [(16, 8)] (bodySchedSet 1 clsSCHED)

/-- R331. -/
def execZoneSet (q : Nat) (x : Desc) (s : State) : Host.Outcome State Fault Refusal :=
  s.onDev fun d => d.submit q x 0x0702 [(16, 8)] (bodySchedSet 2 clsZONE)

/-- R331. -/
def execZoneOverride (q : Nat) (x : Desc) (s : State) : Host.Outcome State Fault Refusal :=
  s.onDev fun d => d.submit q x 0x0703 [(16, 8)] bodyZoneOverride

/-- R91. -/
def execCivilSet (q : Nat) (x : Desc) (s : State) : Host.Outcome State Fault Refusal :=
  s.onDev fun d => d.submit q x 0x0710 [(16, 18)] bodyCivilSet

/-- R92. -/
def execDstLoad (q : Nat) (x : Desc) (s : State) : Host.Outcome State Fault Refusal :=
  s.onDev fun d => d.submit q x 0x0711 [(16, 8)] bodyDstLoad

end Sys2Proof.Machine
end

