-- ==== Sys2Proof/Machine/Pat.lean ====
section
/-! DEFINITION. The pattern engine: the zone thermal model, its step, its checks, its predictions (06_pattern_engine.md). -/

namespace Sys2Proof.Machine
open Sys2Proof

/-! ### Tables (R213 to R215, R251 to R254) -/

/-- A node entry (R252). -/
structure PatNode where
  kind : Nat
  black : Bool
  predict : Bool
  gain : Nat
  cap : Nat
  q0 : Int
  resLim : Nat
  m : Nat

/-- A coupling entry (R253). -/
structure PatCoup where
  a : Nat
  b : Nat
  adaptive : Bool
  g : Nat

/-- A binding entry (R254). -/
structure PatBind where
  src : Nat
  target : Nat
  kind : Nat
  urgent : Bool
  future : Nat
  scale : Int
  offset : Int
  table : Nat

/-- A model: its header (R251) and its tables. -/
structure PatModel where
  header : List Nat
  nodes : List PatNode
  coups : List PatCoup
  binds : List PatBind

/-- Header fields (R251). -/
def hdrNodes (h : List Nat) : Nat := leAt h 2 2
def hdrCoups (h : List Nat) : Nat := leAt h 4 4
def hdrBinds (h : List Nat) : Nat := leAt h 8 2
def hdrStep (h : List Nat) : Nat := leAt h 10 2
def hdrPhase (h : List Nat) : Nat := leAt h 12 4
def hdrSweeps (h : List Nat) : Nat := h.getD 16 0
def hdrGShift (h : List Nat) : Nat := h.getD 17 0
def hdrCShift (h : List Nat) : Nat := h.getD 18 0
def hdrFlag (h : List Nat) (n : Nat) : Bool := bitAt (h.getD 19 0) n
def hdrConvLimit (h : List Nat) : Nat := leAt h 20 2
def hdrAdaptRate (h : List Nat) : Nat := leAt h 22 2
def hdrEtaC (h : List Nat) : Int := signedOf 32 (leAt h 24 4)
def hdrEtaS (h : List Nat) : Nat := h.getD 28 0
def hdrPredInt (h : List Nat) : Nat := h.getD 29 0
def hdrPredH (h : List Nat) : Nat := h.getD 30 0
def hdrTInit (h : List Nat) : Int := signedOf 32 (leAt h 32 4)
def hdrStale (h : List Nat) : Nat := h.getD 36 0

/-- P of R218, in ticks. -/
def hdrPeriod (h : List Nat) : Nat := hdrStep h * 100000

/-- Node entry at byte `a`. -/
def nodeOf (bs : List Nat) (a : Nat) : PatNode :=
  let b0 := bs.getD a 0
  { kind := b0 % 4, black := bitAt b0 2, predict := bitAt b0 3, gain := leAt bs (a + 2) 2, cap := leAt bs (a + 4) 4
    q0 := signedOf 32 (leAt bs (a + 8) 4), resLim := leAt bs (a + 12) 2, m := bs.getD (a + 14) 0 }

/-- Coupling entry at byte `a`. -/
def coupOf (bs : List Nat) (a : Nat) : PatCoup :=
  { a := leAt bs a 2 % 4096, b := leAt bs (a + 2) 2 % 4096, adaptive := bitAt (leAt bs (a + 2) 2) 15, g := leAt bs (a + 4) 4 }

/-- Binding entry at byte `a`. -/
def bindOf (bs : List Nat) (a : Nat) : PatBind :=
  let f := bs.getD (a + 7) 0
  { src := leAt bs a 4, target := leAt bs (a + 4) 2, kind := bs.getD (a + 6) 0, urgent := bitAt f 0, future := bitsAt f 1 2
    scale := signedOf 32 (leAt bs (a + 8) 4), offset := signedOf 32 (leAt bs (a + 12) 4), table := leAt bs (a + 16) 4 }

/-- Words that a table of `n` entries of `k` bytes takes. -/
def tableWords (n k : Nat) : Nat := (n * k + 31) / 32

/-- A model from the bytes of its four tables. -/
def modelOf (h ns cs bs : List Nat) : PatModel :=
  { header := h, nodes := (List.range (hdrNodes h)).map fun j => nodeOf ns (16 * j)
    coups := (List.range (hdrCoups h)).map fun j => coupOf cs (8 * j)
    binds := (List.range (hdrBinds h)).map fun j => bindOf bs (32 * j) }

/-- A node of a model; unused beyond the table. -/
def PatModel.node (m : PatModel) (i : Nat) : PatNode :=
  m.nodes.getD i { kind := 0, black := false, predict := false, gain := 0, cap := 0, q0 := 0, resLim := 0, m := 0 }

/-- Whether node `i` is a measured node: a free node with a MEAS binding (R231). -/
def PatModel.measured (m : PatModel) (i : Nat) : Bool := (m.node i).kind == 1 && m.binds.any fun b => b.kind == 3 && b.target == i

/-- Couplings of node `i` as (coupling index, other end, coupling), in ascending index. -/
def PatModel.coupsOf (m : PatModel) (i : Nat) : List (Nat × Nat × PatCoup) :=
  (m.coups.mapIdx fun k c => (k, c)).filterMap fun p =>
    if p.2.a = i then some (p.1, p.2.b, p.2) else if p.2.b = i then some (p.1, p.2.a, p.2) else none

/-- Nodes flagged PREDICT, ascending (R241). -/
def PatModel.slots (m : PatModel) : List Nat := (List.range m.nodes.length).filter fun i => (m.node i).predict && (m.node i).kind != 0

/-! ### Node state (R255) -/

/-- The shape of a model. -/
def PatModel.shape (m : PatModel) : PatShape :=
  { header := m.header, nodes := m.nodes.map fun x => (x.kind, x.m), slots := m.slots, sources := m.binds.map fun b => (b.src, b.kind, b.target) }

/-- KIND of node `i` of the committed model, 0 beyond its table. -/
def PatShape.kind (m : PatShape) (i : Nat) : Nat := (m.nodes.getD i (0, 0)).1

/-- M of node `i`. -/
def PatShape.m (m : PatShape) (i : Nat) : Nat := (m.nodes.getD i (0, 0)).2

/-- Whether node `i` is a measured node. -/
def PatShape.measured (m : PatShape) (i : Nat) : Bool := m.kind i == 1 && m.sources.any fun b => b.2.1 == 3 && b.2.2 == i

/-- Whether node `i` has quantity `q` (R217, R240). -/
def PatShape.has (m : PatShape) (i q : Nat) : Bool :=
  m.kind i != 0 && (q == 0 || (q == 1 && m.measured i) || (2 ≤ q && m.slots.contains i && hdrPredInt m.header != 0 && q ≤ hdrPredH m.header + 1))

/-- A node-state entry: byte 12, internal, holds the VALID mark of R234 and whether the residual saturated. -/
structure NodeS where
  est : Int
  res : Int
  flags : Nat
  run : Nat
  stale : Nat
  valid : Bool
  resClamped : Bool
  deriving DecidableEq

/-- Flags of byte 8 (R255). -/
def nsMEASURED : Nat := 1
def nsSUSPECT : Nat := 2
def nsRESVALID : Nat := 4
def nsHEAT : Nat := 8
def nsSTALE : Nat := 16
def nsCLAMPED : Nat := 32

/-- One flag of a node state. -/
def NodeS.has (n : NodeS) (f : Nat) : Bool := n.flags / f % 2 == 1

/-- The 16 bytes of a node state. -/
def NodeS.bytes (n : NodeS) : List Nat :=
  leBytes 4 (bitsOf 32 n.est) ++ leBytes 4 (bitsOf 32 n.res) ++ [n.flags, n.run] ++ leBytes 2 n.stale
    ++ [(if n.valid then 1 else 0) + (if n.resClamped then 2 else 0), 0, 0, 0]

/-- The node state at byte `a`. -/
def nodeSOf (bs : List Nat) (a : Nat) : NodeS :=
  { est := signedOf 32 (leAt bs a 4), res := signedOf 32 (leAt bs (a + 4) 4), flags := bs.getD (a + 8) 0, run := bs.getD (a + 9) 0
    stale := leAt bs (a + 10) 2, valid := bitAt (bs.getD (a + 12) 0) 0, resClamped := bitAt (bs.getD (a + 12) 0) 1 }

/-- The state of node `i` before any step (R248, R250). -/
def PatShape.freshNode (m : PatShape) (i : Nat) : NodeS :=
  { est := hdrTInit m.header, res := 0, flags := if m.measured i then nsMEASURED else 0, run := 0, stale := 0, valid := false, resClamped := false }

/-- The bytes of a coupling-state entry (R255). -/
def multBytes (x : Nat) : List Nat := leBytes 2 x ++ [0, 0]

/-! ### The engine region (R255) -/

/-- First word of the region. -/
def Dev.patBase (d : Dev) : Nat := d.get Reg.PAT_REGION.BASE 0

/-- Words of the region. -/
def patWords : Nat := 19458

/-- The pattern engine's reader code (R71). -/
def readerPat : Nat := 3

/-- The first uncorrectable word among `n` from `w` on. -/
def Dev.firstBad (d : Dev) (w n : Nat) : Option Nat :=
  ((List.range n).find? fun j => decodeErr (Map.get d.memErr (w + j) 0) == .uncorrectable).map fun j => w + j

/-- The copied tables read by the engine; none with the failing word when one is uncorrectable (R248). -/
def Dev.readTables (d : Dev) : (Option PatModel × Option Nat) × Dev :=
  let b := d.patBase
  let bad := d.firstBad b 2
  let rh := d.readWords b 2 readerPat
  match rh.1 with
  | none => ((none, bad), rh.2)
  | some h =>
    let wn := tableWords (hdrNodes h) 16
    let wc := tableWords (hdrCoups h) 8
    let bads := [d.firstBad (b + 2) wn, d.firstBad (b + 0x802) wc, d.firstBad (b + 0x2802) (hdrBinds h)].filterMap id
    let rn := rh.2.readWords (b + 2) wn readerPat
    let rc := rn.2.readWords (b + 0x802) wc readerPat
    let rb := rc.2.readWords (b + 0x2802) (hdrBinds h) readerPat
    match rn.1, rc.1, rb.1 with
    | some ns, some cs, some bs => ((some (modelOf h ns cs bs), none), rb.2)
    | _, _, _ => ((none, bads.head?), rb.2)

/-- Whether a model is committed. -/
def Dev.modelValid (d : Dev) : Bool := d.isSet Reg.PAT_STAT.MODEL_VALID 0

/-- The header in force. -/
def Dev.patHeader (d : Dev) : List Nat := d.pat.shape.header

/-- Node states written to the region. -/
def Dev.putNodes (d : Dev) (bs : List Nat) : Dev := d.memWrite (32 * (d.patBase + 0x2C02)) bs readerPat

/-- Coupling states written to the region. -/
def Dev.putCoups (d : Dev) (bs : List Nat) : Dev := d.memWrite (32 * (d.patBase + 0x3402)) bs readerPat

/-! ### Weights and sweeps (R219 to R222) -/

/-- The weights of a free node: self weight, coupling weights with their other ends, and p as a coefficient word. -/
structure NodeW where
  self : Int
  nb : List (Int × Nat)
  pc : Int
  ps : Nat

/-- The first place of the largest number of a list. -/
def maxPlace (l : List Int) : Nat := (l.mapIdx fun i x => (i, x)).foldl (fun (r : Nat × Int) p => if r.2 < p.2 then p else r) (0, -1) |>.1

/-- The largest shift from `s` down whose coefficient of `num / den` stays within 2^30 - 1 (R219). -/
def coefShift (num den : Nat) : Nat → Nat
  | 0 => 0
  | s + 1 => if roundDiv (2 ^ (29 + (s + 1)) * num : Nat) den < 2 ^ 30 then s + 1 else coefShift num den s

/-- R219: the weights of free node `i` over `n` step periods, from the exact values. Everything is scaled by
n × STEP_S × 2^(14 + G_SHIFT). -/
def PatModel.weights (m : PatModel) (n : Nat) (mult : List Nat) (i : Nat) : NodeW :=
  let h := m.header
  let k := n * hdrStep h
  let a := (m.node i).cap * 2 ^ (hdrCShift h + 14 + hdrGShift h)
  let ws := (m.coupsOf i).map fun p => ((if p.2.2.adaptive then mult.getD p.1 16384 else 16384) * p.2.2.g * k, p.2.1)
  let den := a + ws.foldl (fun (t : Nat) w => t + w.1) 0
  let share := fun (x : Nat) => roundDiv (2 ^ 29 * x : Nat) (max 1 den)
  let sa := share a
  let sw := ws.map fun w => share w.1
  let rest := 2 ^ 29 - sa - sw.foldl (· + ·) 0
  let num := k * 2 ^ (14 + hdrGShift h)
  let s := coefShift num (max 1 den) 31
  let sw1 := if 0 < a then sw else sw.mapIdx fun j x => if j = maxPlace sw then x + rest else x
  { self := if 0 < a then sa + rest else sa
    nb := sw1.zip (ws.map (·.2))
    pc := roundDiv (2 ^ (29 + s) * num : Nat) (max 1 den)
    ps := s }

/-- One update of a free node (R221): the new temperature and whether it saturated. -/
def NodeW.update (w : NodeW) (prev : Int) (temps : List Int) (u : Int) : Int × Bool :=
  let sum := w.nb.foldl (fun (t : Int) p => t + p.1 * temps.getD p.2 0) (w.self * prev)
  let x := roundShift sum 29 + u
  (saturate 32 x, saturate 32 x != x)

/-- One half-sweep: the nodes of a colour from the values before it (R221). -/
def PatModel.half (m : PatModel) (black : Bool) (ws : List NodeW) (prev us : List Int) (r : List Int × List Bool) : List Int × List Bool :=
  let next := (List.range m.nodes.length).map fun i =>
    let x := m.node i
    if x.kind = 1 && x.black == black then
      match ws[i]? with
      | some w => w.update (prev.getD i 0) r.1 (us.getD i 0)
      | none => (r.1.getD i 0, false)
    else (r.1.getD i 0, false)
  (next.map (·.1), (next.mapIdx fun i p => p.2 || r.2.getD i false))

/-- `k` sweeps, red then black (R221). -/
def PatModel.sweeps (m : PatModel) (ws : List NodeW) (prev us : List Int) : Nat → List Int × List Bool → List Int × List Bool
  | 0, r => r
  | k + 1, r => m.sweeps ws prev us k (m.half true ws prev us (m.half false ws prev us r))

/-- The x of a binding from a source value, and whether it saturated (R13, R215). -/
def PatBind.x (b : PatBind) (v : Int) : Int × Bool :=
  let y := roundShift (b.scale * v) 16 + b.offset
  (saturate 32 y, saturate 32 y != y)

/-- The heat input of free node `i` and whether it saturated (R220). -/
def PatModel.heat (m : PatModel) (xs : List (Int × Bool)) (i : Nat) : Int × Bool :=
  let h := (m.binds.mapIdx fun j b => (j, b)).foldl (fun (t : Int) p =>
    if p.2.kind = 1 && p.2.target = i then t + (xs.getD p.1 (0, false)).1 else t) (m.node i).q0
  (saturate 32 h, saturate 32 h != h)

/-- The temperature a fixed node takes from its binding, and whether it saturated. -/
def PatModel.fixedTemp (m : PatModel) (xs : List (Int × Bool)) (i : Nat) : Int × Bool :=
  match (m.binds.mapIdx fun j b => (j, b)).find? fun p => (p.2.kind == 2 || p.2.kind == 4) && p.2.target == i with
  | some p => xs.getD p.1 (0, false)
  | none => (hdrTInit m.header, false)

/-- The sweeps of one step from temperatures `prev` with inputs `xs` over `n` periods: temperatures and CLAMPED marks, for a fixed node that of
its bound value (R13, R221). -/
def PatModel.integrate (m : PatModel) (n : Nat) (mult : List Nat) (xs : List (Int × Bool)) (prev : List Int) : List Int × List Bool :=
  let idx := List.range m.nodes.length
  let ws := idx.map fun i => m.weights n mult i
  let us := idx.map fun i => match ws[i]? with
    | some w => coefMul (m.heat xs i).1 w.pc w.ps
    | none => 0
  let first := idx.map fun i => if (m.node i).kind = 2 then m.fixedTemp xs i else (prev.getD i 0, false)
  m.sweeps ws (first.map (·.1)) us (hdrSweeps m.header) (first.map (·.1), first.map (·.2))

/-! ### Costs (R228) -/

def ceilDiv (a b : Nat) : Nat := (a + b - 1) / b
def PatModel.costInputs (m : PatModel) : Nat := ceilDiv m.binds.length 8 + ceilDiv m.nodes.length 8 + 64
def PatModel.costWeights (m : PatModel) : Nat := ceilDiv (m.nodes.length + 2 * m.coups.length) 8 + 64
def PatModel.costSweep (m : PatModel) : Nat := ceilDiv (m.nodes.length + 2 * m.coups.length) 8 + 16
def PatModel.costOutput (m : PatModel) : Nat := ceilDiv (m.nodes.length + (m.coups.filter (·.adaptive)).length) 8 + 64
def PatModel.costPredict (m : PatModel) (h : Nat) : Nat :=
  h * (m.costInputs + hdrSweeps m.header * m.costSweep) + ceilDiv (m.slots.length * h) 8

/-! ### The snapshot (R216, R243) -/

/-- One binding at a step start: its x with whether it saturated, whether the source is usable now, and the last usable x if there is one. A
REMOTE value is fresh when it came after the start of the previous step at tick `since` (R243). -/
def Dev.snapBind (d : Dev) (m : PatModel) (j : Nat) (b : PatBind) (since : Option Nat) : (Int × Bool) × Bool × Option (Int × Bool) :=
  let old := Map.get d.pat.bindX j none
  let came := Map.get d.arrivals b.src 0
  let fresh := b.kind != 4 || (match since with
    | some s => s + 1 ≤ came
    | none => 0 < came)
  let now := match d.value? b.src 0 with
    | some w => if w.has stVALID then some (b.x w.val) else none
    | none => none
  let keep := match now with
    | some x => some x
    | none => old
  (keep.getD (if b.kind = 1 then 0 else hdrTInit m.header, false), now.isSome && fresh, keep)

/-! ### The step (R218, R227, R231 to R237, R245) -/

/-- SENSOR_SUSPECT of a node (R260). -/
def suspectDetail (on : Bool) (res : Int) (m : Nat) : List Nat := [if on then 1 else 0, 0, 0, 0] ++ leBytes 4 (bitsOf 32 res) ++ [m]

/-- A report kept for the publication: code, node or 0, state, detail. -/
def Dev.patReport (d : Dev) (r : Nat × Nat × Nat × List Nat) : Dev :=
  if r.1 = 0x0502 || r.1 = 0x0504 then d.raiseLimited r.1 (d.name clsNODE r.2.1) d.tick r.2.2.1 r.2.2.2
  else d.raise r.1 d.nullName r.2.2.2

/-- One measured node after the sweeps (R231 to R233): its new state from the temperature `t` and the measurement; a residual or a correction that
saturates marks its own word CLAMPED (R13). -/
def measuredNode (x : PatNode) (o : NodeS) (t : Int) (y : Option (Int × Bool)) (flags : Nat) : NodeS :=
  match y with
  | none => { o with est := t, flags := flags + nsMEASURED + (if o.has nsSUSPECT then nsSUSPECT else 0) }
  | some v =>
    let e := saturate 32 (v.1 - t)
    let c := t + roundShift (x.gain * e) 16
    let t1 := if o.has nsSUSPECT then t else saturate 32 c
    let fl := if t1 = c || o.has nsSUSPECT then flags else Nat.lor flags nsCLAMPED
    let beyond := decide (x.resLim * 256 < e.natAbs)
    let count := if beyond == o.has nsSUSPECT then 0 else o.run + 1
    let flip := decide (x.m ≤ count) && decide (0 < count)
    let sus := if flip then !o.has nsSUSPECT else o.has nsSUSPECT
    { o with est := t1, res := e, run := if flip then 0 else count, resClamped := v.2 || e != v.1 - t
             flags := fl + nsMEASURED + nsRESVALID + (if sus then nsSUSPECT else 0) }

/-- The multiplier of coupling `k` after adaptation (R236): residuals of its ends that qualify, temperatures after the sweeps.
DEDUCED (log 93): ETA counts whole multipliers (m = 1) per K², and the product is rounded to units of 2^-14. -/
def PatModel.adapted (m : PatModel) (c : PatCoup) (old : Nat) (temps : List Int) (st : List NodeS) : Nat :=
  let fin := fun (e o : Nat) => match st[e]? with
    | some s => if s.has nsRESVALID && !s.has nsSUSPECT then some (s.res * (temps.getD o 0 - temps.getD e 0)) else none
    | none => none
  match fin c.a c.b, fin c.b c.a with
  | none, none => old
  | x, y =>
    let g := x.getD 0 + y.getD 0
    let r : Int := hdrAdaptRate m.header
    let dl := clampInt (-r) r (roundShift (hdrEtaC m.header * g) (47 + hdrEtaS m.header))
    (clampInt 12288 20480 ((old : Int) + dl)).toNat

/-- The tick in which `cycles` of CLK_CORE after tick `s` end (R228). -/
def workTick (s cycles : Nat) : Nat := s + cycles / 6000

/-- Everything one step forms from the working state `old` and `mult` (R227): its publication and the last usable x of each binding, with the
inputs. -/
def Dev.formStep (d : Dev) (m : PatModel) (old : List NodeS) (mult : List Nat) (s n : Nat) (steps : Nat) :
    PatPub × List (Option (Int × Bool)) × List (Int × Bool) × List Nat :=
  let h := m.header
  let snaps := m.binds.mapIdx fun j b => d.snapBind m j b d.pat.lastDone
  let xs := snaps.map (·.1)
  let nn := m.nodes.length
  let idx := List.range nn
  let fresh := m.shape.freshNode
  let oldOf := fun (i : Nat) => old.getD i (fresh i)
  let swept := m.integrate n mult xs (idx.map fun i => (oldOf i).est)
  let bindFor := fun (i : Nat) (ks : List Nat) => (m.binds.mapIdx fun j b => (j, b)).find? fun p => ks.contains p.2.kind && p.2.target == i
  let st := idx.map fun i =>
    let x := m.node i
    let o := oldOf i
    let t := swept.1.getD i 0
    let cl := if swept.2.getD i false then nsCLAMPED else 0
    if x.kind = 1 then
      let hc := if (m.heat xs i).2 then nsHEAT else 0
      match bindFor i [3] with
      | some p =>
        let y := match snaps[p.1]? with
          | some (v, true, _) => some v
          | _ => none
        { measuredNode x o t y (hc + cl) with valid := true }
      | none => { o with est := t, flags := hc + cl, valid := true }
    else if x.kind = 2 then
      match bindFor i [2, 4] with
      | some p => match snaps[p.1]? with
        | some (v, ok, ever) =>
          { o with est := v.1, flags := (if ok then 0 else nsSTALE) + cl, stale := if ok then 0 else min 65535 (o.stale + 1), valid := ever.isSome }
        | none => o
      | none => o
    else o
  let adapt := n = 1 && hdrFlag h 0 && !d.pat.hold
  let mult1 := m.coups.mapIdx fun k c =>
    let o := mult.getD k 16384
    if adapt && c.adaptive then m.adapted c o swept.1 st else o
  let sus := idx.filterMap fun i =>
    let a := (oldOf i).has nsSUSPECT
    let b := (st.getD i (fresh i)).has nsSUSPECT
    if a == b then none
    else some (0x0502, i, (if b then 1 else 0), suspectDetail b (st.getD i (fresh i)).res (m.node i).m)
  let stale := idx.filterMap fun i => match bindFor i [4] with
    | none => none
    | some p =>
      let a := (oldOf i).stale
      let b := (st.getD i (fresh i)).stale
      if a < hdrStale h && hdrStale h ≤ b then some (0x0504, i, 1, [1, 0, 0, 0] ++ leBytes 4 p.2.src ++ leBytes 2 b)
      else if hdrStale h ≤ a && b = 0 then some (0x0504, i, 0, [0, 0, 0, 0] ++ leBytes 4 p.2.src ++ leBytes 2 a)
      else none
  let lims := (List.range m.coups.length).filterMap fun k =>
    let a := mult.getD k 0
    let b := mult1.getD k 0
    if a != b && (b = 12288 || b = 20480) then some (0x0505, 0, 0, leBytes 4 k ++ [if b = 20480 then 1 else 0]) else none
  let predict := n = 1 && 0 < hdrPredInt h && steps % hdrPredInt h = 0
  let formed := d.pat.formed = n
  let own := m.costInputs + (if formed then 0 else m.costWeights) + hdrSweeps h * m.costSweep + m.costOutput
  let cyc := own + (if predict then m.costPredict (hdrPredH h) else 0)
  ({ start := s, n := n, cycles := cyc, due := workTick s own, predDue := workTick s cyc, nodes := (st.map NodeS.bytes).flatten, coups := (mult1.map multBytes).flatten
     reports := stale ++ sus ++ lims, predict := predict }, snaps.map (·.2.2), xs, if mult1 == mult then [n] else [])

/-- The start of the step at tick `s` (R245): it integrates from the base over n periods. -/
def Dev.runStep (d : Dev) (m : PatModel) (old : List NodeS) (mult : List Nat) : Dev :=
  let s := d.tick
  let p := hdrPeriod m.header
  let gap := match d.pat.base with
    | some b => max 1 ((s - b) / max 1 p)
    | none => 1
  let n := min 65535 gap
  let cause := if d.pat.missCause = 0 then 2 else d.pat.missCause
  let d1 := if n = 1 then d
    else
      let miss := min 0xFFFFFFFF (d.get Reg.PAT_MISSED.MISSED 0 + (n - 1))
      (d.put Reg.PAT_MISSED.MISSED 0 miss).raise 0x0503 d.nullName
        (leBytes 2 n ++ [cause, if 65535 < gap then 1 else 0] ++ leBytes 4 miss)
  let d2 := m.binds.foldl (fun (y : Dev) b => y.touchValue b.src 0 readerPat) d1
  let r := d2.formStep m old mult s n (d2.get Reg.PAT_STEP_COUNT.STEPS 0 + 1)
  let bx := r.2.1.foldl (fun (a : Nat × Map (Option (Int × Bool))) v => (a.1 + 1, Map.set a.2 a.1 v none)) ((0, []) : Nat × Map (Option (Int × Bool)))
  { d2 with pat := { d2.pat with pub := some r.1, bindX := bx.2, inputs := r.2.2.1, formed := r.2.2.2.headD 0, missCause := 0 } }

/-- A start missed with its cause (R245): the first one of a gap is remembered. -/
def Dev.missStart (d : Dev) (cause : Nat) : Dev :=
  if d.pat.missCause = 0 then { d with pat := { d.pat with missCause := cause } } else d

/-- R248: an uncorrectable word of the copied tables. -/
def Dev.tableFault (d : Dev) (w : Nat) : Dev :=
  if d.isSet Reg.PAT_STAT.TABLE_FAULT 0 then d
  else (((d.put Reg.PAT_STAT.TABLE_FAULT 0 1).put Reg.PAT_STAT.RUNNING 0 0).raise 0x0506 d.nullName (leBytes 4 w)).logFault 9 0xFF (w % 65536)

/-- The quantities of local nodes that have a word: node, quantity, word (R217). -/
def Dev.nodeWords (d : Dev) : List (Nat × Nat × VW) :=
  d.values.filterMap fun e => match e.2 with
    | some w => if classOf (e.1 / 256) = clsNODE && d.isLocal (e.1 / 256) then some (indexOf (e.1 / 256), e.1 % 256, w) else none
    | none => none

/-- R248: every node value word once more, marked STALE. -/
def Dev.repeatStale (d : Dev) : Dev :=
  (d.nodeWords.filter fun p => d.pat.shape.has p.1 p.2.1).foldl (fun (y : Dev) p =>
    let w := p.2.2.mark stSTALE
    let d1 := y.produce (y.name clsNODE p.1) p.2.1 w
    if p.2.1 = 0 then d1.put Reg.PAT_NODE_VAL.VALUE p.1 w.bits else d1) d

/-- R217: words of quantities that the committed model does not give read value 0 with VALID clear from now on. -/
def Dev.clearWords (d : Dev) : Dev :=
  (d.nodeWords.filter fun p => !d.pat.shape.has p.1 p.2.1).foldl (fun (y : Dev) p =>
    let d1 := y.produce (y.name clsNODE p.1) p.2.1 (mkWord 0 0 y.tick)
    if p.2.1 = 0 then d1.put Reg.PAT_NODE_VAL.VALUE p.1 0 else d1) d

/-- The SUSPECT nodes (R232), with their count (R261). -/
def Dev.setSuspect (d : Dev) (l : List Nat) : Dev := { d with pat := { d.pat with suspect := l } }.put Reg.PAT_SUSPECT.COUNT 0 l.length

/-- The SUSPECT nodes of a list of node states. -/
def suspects (st : List NodeS) : List Nat := (List.range st.length).filter fun i => (st[i]?.map fun x => x.has nsSUSPECT).getD false

/-- The estimate of free node `i` in the save set (R250). -/
def Dev.saveEst (d : Dev) (i : Nat) (v : Int) : Dev :=
  if d.pat.shape.kind i = 1 then d.saveWrite (0x3000 + 4 * i) (leBytes 4 (bitsOf 32 v)) else d

/-- Every estimate in the save set. -/
def Dev.saveEsts (d : Dev) (st : List NodeS) : Dev :=
  (st.foldl (fun (a : Nat × Dev) x => (a.1 + 1, a.2.saveEst a.1 x.est)) (0, d)).2

/-- The words of node `i` as its state stands: estimate, and for a measured node the residual (R231, R234). A fixed node whose binding has not
been usable carries T_INIT. -/
def Dev.publishNode (d : Dev) (s i : Nat) (o : NodeS) : Dev :=
  let m := d.pat.shape
  if m.kind i = 0 then d
  else
    let st := (if o.valid then stVALID else 0) + (if o.has nsSTALE then stSTALE else 0) + (if o.has nsCLAMPED then stCLAMPED else 0)
    let w := mkWord (if m.kind i = 2 && !o.valid then hdrTInit m.header else o.est) st s
    let z := (d.put Reg.PAT_NODE_VAL.VALUE i w.bits).produce (d.name clsNODE i) 0 w
    if m.measured i then
      z.produce (z.name clsNODE i) 1 (mkWord o.res ((if o.has nsRESVALID then stVALID else 0) + (if o.resClamped then stCLAMPED else 0)) s)
    else z

/-- Node value words as a list of states gives them, published. -/
def Dev.publishNodes (d : Dev) (s : Nat) (st : List NodeS) : Dev :=
  (st.foldl (fun (a : Nat × Dev) x => (a.1 + 1, a.2.publishNode s a.1 x)) (0, d)).2

/-- R248: an uncorrectable word of node state is rewritten whole; its free nodes carry T_INIT again (R234). -/
def Dev.resetNodeWord (d : Dev) (w : Nat) : Dev :=
  let m := d.pat.shape
  let j := w - (d.patBase + 0x2C02)
  let ns := [2 * j, 2 * j + 1].filter fun i => i < m.nodes.length
  let sus := ns.filter fun i => d.pat.suspect.contains i
  let bs := ([2 * j, 2 * j + 1].map fun i => if i < m.nodes.length then (m.freshNode i).bytes else List.replicate 16 0).flatten
  let d1 := ((d.readWord w readerPat).2.memWrite (32 * w) bs readerPat).raise 0x0507 d.nullName (leBytes 4 w ++ leBytes 2 (2 * j) ++ [1])
  let d2 := sus.foldl (fun (y : Dev) i => y.patReport (0x0502, i, 0, suspectDetail false 0 (m.m i))) d1
  (ns.filter fun i => m.kind i = 1).foldl (fun (y : Dev) i => (y.saveEst i (hdrTInit m.header)).publishNode y.tick i (m.freshNode i))
    (d2.setSuspect (d2.pat.suspect.filter fun i => !ns.contains i))

/-- R248: an uncorrectable word of coupling state is rewritten whole. -/
def Dev.resetCoupWord (d : Dev) (w : Nat) : Dev :=
  let j := w - (d.patBase + 0x3402)
  let d1 := ((d.readWord w readerPat).2.memWrite (32 * w) ((List.replicate 8 (multBytes 16384)).flatten) readerPat).raise 0x0507 d.nullName
    (leBytes 4 w ++ leBytes 2 (8 * j) ++ [2])
  { d1 with pat := { d1.pat with formed := 0 } }

/-- The uncorrectable words of the working state: node state, then coupling state. -/
def Dev.badState (d : Dev) : List Nat × List Nat :=
  let bad := fun (w : Nat) => decodeErr (Map.get d.memErr w 0) == .uncorrectable
  (((List.range (tableWords d.pat.shape.nodes.length 16)).map fun j => d.patBase + 0x2C02 + j).filter bad,
   ((List.range (tableWords (hdrCoups d.patHeader) 4)).map fun j => d.patBase + 0x3402 + j).filter bad)

/-- The working state read by the engine: node states and multipliers; none when a word of it is uncorrectable, and then every such word is reset
(R28, R248). -/
def Dev.readState (d : Dev) : Option (List NodeS × List Nat) × Dev :=
  let bad := d.badState
  if bad.1.isEmpty && bad.2.isEmpty then
    let nn := d.pat.shape.nodes.length
    let nc := hdrCoups d.patHeader
    let rn := d.readWords (d.patBase + 0x2C02) (tableWords nn 16) readerPat
    let rc := rn.2.readWords (rn.2.patBase + 0x3402) (tableWords nc 4) readerPat
    match rn.1, rc.1 with
    | some a, some b => (some ((List.range nn).map (fun j => nodeSOf a (16 * j)), (List.range nc).map (fun j => leAt b (4 * j) 2)), rc.2)
    | _, _ => (none, rc.2)
  else (none, bad.2.foldl (fun (z : Dev) w => z.resetCoupWord w) (bad.1.foldl (fun (z : Dev) w => z.resetNodeWord w) d))

/-- The working state once the words that cannot be read are reset. -/
def Dev.soundState (d : Dev) : (List NodeS × List Nat) × Dev :=
  match d.readState with
  | (some x, d1) => (x, d1)
  | (none, d1) =>
    let r := d1.readState
    (r.1.getD ([], []), r.2)

/-! ### Commit and reset (R256, R257) -/

/-- PAT_RESET's bits applied (R234, R256): bit 0 to the free nodes, whose words are published anew. -/
def Dev.patApplyReset (d : Dev) (mask : Nat) : Dev :=
  let m := d.pat.shape
  let r := d.soundState
  let d0 := r.2
  let old := r.1.1
  let sus := if bitAt mask 2 then suspects old else []
  let st := old.mapIdx fun i o =>
    let a := if bitAt mask 0 && m.kind i = 1 then { o with est := hdrTInit m.header, valid := false } else o
    if bitAt mask 2 then { a with flags := if a.has nsSUSPECT then a.flags - nsSUSPECT else a.flags, run := 0 } else a
  let d1 := (d0.putNodes (st.map NodeS.bytes).flatten).saveEsts st
  let moved := bitAt mask 1 && r.1.2.any fun x => x != 16384
  let d2 := if moved then
      Dev.putCoups { d1 with pat := { d1.pat with formed := 0 } } ((List.replicate (hdrCoups m.header) (multBytes 16384)).flatten)
    else d1
  let d3 := sus.foldl (fun (y : Dev) i => y.patReport (0x0502, i, 0, suspectDetail false ((st[i]?.map fun x => x.res).getD 0) (m.m i))) d2
  let d4 := d3.setSuspect (suspects st)
  if bitAt mask 0 then (st.foldl (fun (a : Nat × Dev) x => (a.1 + 1, if m.kind a.1 = 1 then a.2.publishNode a.2.tick a.1 x else a.2)) (0, d4)).2 else d4

/-- Every waiting PAT_RESET applied and completed. -/
def Dev.patResets (d : Dev) : Dev :=
  let rs := d.pat.resets
  rs.foldl (fun (y : Dev) r => (if y.modelValid then y.patApplyReset r.2 else y).done r.1 0) { d with pat := { d.pat with resets := [] } }

/-- The staged tables of a PAT_LOAD, read by the management core: header, nodes, couplings, bindings; none when a word of
them is uncorrectable. -/
def Dev.readStaged (d : Dev) (x : Desc) : Option (List Nat × List Nat × List Nat × List Nat) × Dev :=
  let rh := d.readWords (x.u32 16) 2 readerCore
  match rh.1 with
  | none => (none, rh.2)
  | some h =>
    let rn := rh.2.readWords (x.u32 20) (tableWords (hdrNodes h) 16) readerCore
    let rc := rn.2.readWords (x.u32 24) (tableWords (hdrCoups h) 8) readerCore
    let rb := rc.2.readWords (x.u32 28) (hdrBinds h) readerCore
    match rn.1, rc.1, rb.1 with
    | some ns, some cs, some bs =>
      (some (h, ns.take (16 * hdrNodes h), cs.take (8 * hdrCoups h), bs.take (32 * hdrBinds h)), rb.2)
    | _, _, _ => (none, rb.2)

/-- The show bits of loads and host predictions (R261). -/
def Dev.showPat (d : Dev) : Dev :=
  (d.putBit Reg.PAT_STAT.LOADING 0 d.pat.load.isSome).putBit Reg.PAT_STAT.PREDICTING 0 (!d.pat.preds.isEmpty)

/-- The couplings of the committed model as its table stands, none where it cannot be read. -/
def Dev.oldCoups (d : Dev) : List PatCoup × Dev :=
  if !d.modelValid then ([], d)
  else
    let n := hdrCoups d.patHeader
    let r := d.readWords (d.patBase + 0x802) (tableWords n 8) readerPat
    (match r.1 with
      | some bs => (List.range n).map fun j => coupOf bs (8 * j)
      | none => [], r.2)

/-- What KEEP_STATE and KEEP_MULT keep of the committed model for model `m` (R257): the estimate of each node whose index and KIND are unchanged,
the multiplier of each coupling whose node pair is. -/
def Dev.keptState (d : Dev) (m : PatModel) : ((Nat → Option Int) × (Nat → Option Nat)) × Dev :=
  if !d.modelValid then ((fun _ => none, fun _ => none), d)
  else
    let o := d.pat.shape
    let c := d.oldCoups
    let r := c.2.soundState
    let est := fun (i : Nat) =>
      if hdrFlag m.header 1 && i < o.nodes.length && o.kind i == (m.node i).kind then (r.1.1[i]?).map fun x => x.est else none
    let mul := fun (k : Nat) => match m.coups[k]? with
      | some e =>
        if hdrFlag m.header 2 && e.adaptive then
          match c.1.findIdx? fun (f : PatCoup) => (f.a == e.a && f.b == e.b) || (f.a == e.b && f.b == e.a) with
          | some j => r.1.2[j]?
          | none => none
        else none
      | none => none
    ((est, mul), r.2)

/-- A model put into the engine region with fresh state, or with the estimates and multipliers kept or restored (R250, R257). -/
def Dev.placeModel (d : Dev) (m : PatModel) (h ns cs bs : List Nat) (est : Nat → Option Int) (mul : Nat → Option Nat) : Dev × List NodeS :=
  let b := d.patBase
  let st := (List.range m.nodes.length).map fun i =>
    let f := m.shape.freshNode i
    { f with est := (est i).getD f.est }
  let ms := (List.range m.coups.length).map fun k => (mul k).getD 16384
  let d0 := { d with pat := { d.pat with shape := m.shape } }
  let d1 := (((d0.memWrite (32 * b) h readerPat).memWrite (32 * (b + 2)) ns readerPat).memWrite (32 * (b + 0x802)) cs
    readerPat).memWrite (32 * (b + 0x2802)) bs readerPat
  ((((d1.putNodes (st.map NodeS.bytes).flatten).putCoups (ms.map multBytes).flatten).saveEsts st).setSuspect [], st)

/-- The end of a load. -/
def Dev.endLoad (d : Dev) (st : Status) (result : Nat) : Dev :=
  match d.pat.load with
  | some l => (Dev.showPat { d with pat := { d.pat with load := none } }).finish l.id st result
  | none => d

/-- Every host prediction ends with a status and the horizons it has written (R258, R259). -/
def Dev.endPredictions (d : Dev) (st : Status) : Dev :=
  let ps := d.pat.preds
  ps.foldl (fun (y : Dev) p => y.finish p.id st (p.made + 2 ^ 32 * (p.base % 2 ^ 32))) { d with pat := { d.pat with preds := [] } } |>.showPat

/-- R257 stages 3 and 4: the tables are copied and their CRC formed again; equal, the model is committed. Answers the block
and whether the step at this start may run. -/
def Dev.patCommit (d : Dev) (l : PatLoad) : Dev × Bool :=
  match d.rec? l.id with
  | none => (d, true)
  | some r =>
    match d.readStaged r.d with
    | (none, d1) => (d1.endLoad .dataError 0, true)
    | (some (h, ns, cs, bs), d1) =>
      if crc32c (h ++ ns ++ cs ++ bs) != l.crc then (d1.endLoad .dataError 0, true)
      else
        let m := modelOf h ns cs bs
        let o := d1.patHeader
        let same := d1.modelValid && hdrStep o == hdrStep h && hdrPhase o == hdrPhase h && d1.pat.lastDone.isSome && d1.pat.run
        let k := (d1.endPredictions .superseded).keptState m
        let p := k.2.placeModel m h ns cs bs k.1.1 k.1.2
        let d3 := p.1
        let d4 := { d3 with pat := { d3.pat with slot := 1 - d3.pat.slot, bindX := [], inputs := [], formed := 0, predicting := none, flowsDue := true
                                                 predBase := none, savedAt := d3.tick
                                                 base := if same then d3.pat.base else none
                                                 missCause := if same then d3.pat.missCause else 0 } }
        let d5 := ((((d4.putRet Reg.PAT_STAT.MODEL_VALID 0 1).put Reg.PAT_STAT.TABLE_FAULT 0 0).putRet Reg.PAT_CONTRACT.E 0 l.e).putRet
          Reg.PAT_CONTRACT.RHO_MAX 0 l.rho).putRet Reg.PAT_MODEL_ID.CRC 0 l.crc |>.markRec recSLOT
        let d6 := (d5.clearWords.publishNodes d5.tick p.2).raise 0x0501 d5.nullName
          (leBytes 2 (hdrNodes h) ++ leBytes 2 (hdrBinds h) ++ leBytes 4 (hdrCoups h) ++ leBytes 4 l.crc ++ leBytes 2 l.e)
        (d6.endLoad .ok (2 ^ 8 * l.minSweeps + 2 ^ 16 * l.e + 2 ^ 32 * (d6.tick % 2 ^ 32)), same)

/-- A PAT_CTRL write in force (R262). -/
def Dev.patCtrl (d : Dev) (v : Nat) : Dev :=
  let run := bitAt v 0
  { d with pat := { d.pat with ctrl := none, run := run, hold := bitAt v 1
                               base := if run && d.pat.run then d.pat.base else none
                               missCause := if run && d.pat.run then d.pat.missCause else 0 } }

/-- PAT_STAT.RUNNING (R261). -/
def Dev.showRunning (d : Dev) : Dev :=
  d.putBit Reg.PAT_STAT.RUNNING 0 (d.pat.run && d.modelValid && !d.isSet Reg.PAT_STAT.TABLE_FAULT 0)

/-- Whether tick `t` is a start tick of a header (R218). -/
def startTick (h : List Nat) (t : Nat) : Bool :=
  hdrStep h != 0 && hdrPhase h ≤ t && (t - hdrPhase h) % hdrPeriod h == 0

/-- What a step start does before the step: a PAT_CTRL write, PAT_RESETs, a commit. Answers the block and whether the step may
run at this start. -/
def Dev.beforeStep (d : Dev) : Dev × Bool :=
  let d1 := match d.pat.ctrl with
    | some v => d.patCtrl v
    | none => d
  let d2 := d1.patResets
  match d2.pat.load with
  | some l => if l.stage = 2 then d2.patCommit l else (d2, true)
  | none => (d2, true)

/-- R218: a step start. -/
def Dev.patStep (d : Dev) : Dev :=
  let b := d.beforeStep
  let d1 := b.1.showRunning
  if !b.2 || !d1.pat.run then d1
  else if d1.isSet Reg.PAT_STAT.TABLE_FAULT 0 then (d1.missStart 3).repeatStale
  else
    let r1 := d1.readTables
    match r1.1 with
    | (none, some w) => ((r1.2.tableFault w).missStart 3).repeatStale
    | (none, none) => r1.2
    | (some m, _) =>
      match r1.2.readState with
      | (some x, d2) => d2.runStep m x.1 x.2
      | (none, d2) => d2.missStart 4

/-- R218, R245: one start at each start tick while control acts. -/
def execPatStepStart (s : State) : Host.Outcome State Fault Refusal :=
  s.onDev fun d =>
    if !d.live || d.nvm.noControl || !d.modelValid || !startTick d.patHeader d.tick || d.pat.startAt = d.tick + 1 then d
    else
      let d1 := { d with pat := { d.pat with startAt := d.tick + 1 } }
      if d.dip || d.power.resumeDue then (if d.pat.run then d1.missStart 1 else d1)
      else if d.pat.pub.isSome || d.pat.predicting.isSome then (if d.pat.run then d1.missStart 5 else d1)
      else d1.patStep

/-- Start ticks passed by a step of quilt time from `t` to `u` are missed with cause 2 (R245, R247). -/
def Dev.patPassed (d : Dev) (t u : Nat) : Dev :=
  let h := d.patHeader
  let next := if t < hdrPhase h then hdrPhase h else hdrPhase h + ((t - hdrPhase h) / max 1 (hdrPeriod h) + 1) * max 1 (hdrPeriod h)
  if d.modelValid && d.pat.run && next < u then d.missStart 2 else d

/-- R227, R231 to R234: estimates and residuals published, once the step's work has ended (R228). -/
def execPatPublish (s : State) : Host.Outcome State Fault Refusal :=
  s.onDev fun d =>
    match d.pat.pub with
    | none => d
    | some p =>
      if !d.live || d.tick < p.due then d
      else
        let d2 := (d.putNodes p.nodes).putCoups p.coups
        let st := (List.range d.pat.shape.nodes.length).map fun i => nodeSOf p.nodes (16 * i)
        let d3 := { d2 with pat := { d2.pat with pub := none, lastDone := some p.start, base := some p.start, predBase := some p.start
                                                 predicting := if p.predict then some (p.start, p.predDue) else none } }
        let d4 := (((d3.wrapUp Reg.PAT_STEP_COUNT.STEPS 0).put Reg.PAT_LAST_START.TICK 0 p.start).put Reg.PAT_WORK.CYCLES 0
          p.cycles).putBit Reg.PAT_STAT.CATCHUP 0 (p.n != 1)
        let d5 := ((d4.publishNodes p.start st).setSuspect (suspects st)).saveEsts st
        p.reports.foldl (fun (y : Dev) r => y.patReport r) d5

/-! ### Prediction (R238 to R241, R258) -/

/-- The forecast tables of the bindings as the engine reads them, binding by binding (R33, R239). -/
def Dev.forecasts (d : Dev) (m : PatModel) : List (Option (List Nat)) × Dev :=
  m.binds.foldl (fun a b =>
    if b.future = 1 then
      let r := a.2.readWords b.table 9 readerPat
      (a.1 ++ [r.1], r.2)
    else (a.1 ++ [none], a.2)) ([], d)

/-- The x of binding `j` at horizon `h` of a prediction based at `s` (R238, R239). DESIGN CHOICE (log 222): where a forecast table cannot be read, the value at
`s` is held. -/
def Dev.futureX (d : Dev) (m : PatModel) (fc : List (Option (List Nat))) (held : List (Int × Bool)) (given : List (Nat × Nat × Int)) (s h j : Nat)
    (b : PatBind) : Int × Bool :=
  let p := hdrPeriod m.header
  let hold := held.getD j (0, false)
  match (given.reverse).find? fun o => o.1 == j && o.2.1 ≤ h with
  | some o => (o.2.2, false)
  | none =>
    if b.kind = 3 || b.kind = 4 || b.future = 0 then hold
    else if b.future = 1 then
      match fc.getD j none with
      | none => hold
      | some bs =>
        let f0 := leAt bs 0 8
        let t := s + h * p
        let e := if t < f0 then 0 else min 63 ((t - f0) / max 1 p)
        b.x (signedOf 32 (leAt bs (32 + 4 * e) 4))
    else if d.isLocal b.src then b.x (d.schedFuture b.src s (s + h * p))
    else hold

/-- One prediction step to horizon `h` from the temperatures of the one before (R238): temperatures and CLAMPED marks. -/
def Dev.predictStep (d : Dev) (m : PatModel) (mult : List Nat) (fc : List (Option (List Nat))) (held : List (Int × Bool))
    (given : List (Nat × Nat × Int)) (s h : Nat) (temps : List Int) : List Int × List Bool :=
  m.integrate 1 mult (m.binds.mapIdx fun j b => d.futureX m fc held given s h j b) temps

/-- The temperatures and marks at `k` horizons from `h` on, nearest first. -/
def Dev.predictAll (d : Dev) (m : PatModel) (mult : List Nat) (fc : List (Option (List Nat))) (s : Nat) (temps : List Int) (h : Nat) :
    Nat → List (List Int × List Bool)
  | 0 => []
  | k + 1 =>
    let t := d.predictStep m mult fc d.pat.inputs [] s h temps
    t :: d.predictAll m mult fc s t.1 (h + 1) k

/-- The smallest horizon at which a node's prediction reaches a target (R327). -/
def reachHorizon (ts : List (List Int)) (i : Nat) (target : Int) (cooling : Bool) : Option Nat :=
  (ts.findIdx? fun t => if cooling then decide (t.getD i 0 ≤ target) else decide (target ≤ t.getD i 0)).map (· + 1)

/-- h_a of one zone from a routine prediction based at `s` (R327). -/
def Dev.zonePredict (d : Dev) (m : PatModel) (s : Nat) (ts : List (List Int)) (z : Nat) : Dev :=
  let bs := d.zoneBlock z
  let node := leAt bs 24 4
  if bitAt (bs.getD 21 0) 0 && !isNull node && m.slots.contains (indexOf node) then
    let ha := reachHorizon ts (indexOf node) (signedOf 32 (leAt bs 48 4)) (bitAt (bs.getD 21 0) 1)
    (d.setZone z { d.zone z with pred := some (s, hdrPeriod m.header, ha) })
  else d

/-- R240, R327: a routine prediction ends: its results go to the region, its value words are published, optimum start is
looked at. Where a word of the working state cannot be read, it is reset and nothing is predicted (R248). -/
def execRoutinePredictionEnd (s : State) : Host.Outcome State Fault Refusal :=
  s.onDev fun d =>
    match d.pat.predicting with
    | none => d
    | some (st, due) =>
      if !d.live || d.tick < due then d
      else
        let d0 := { d with pat := { d.pat with predicting := none } }
        match d0.readTables with
        | ((none, some w), d1) => d1.tableFault w
        | ((none, none), d1) => d1
        | ((some m, _), d1) =>
          match d1.readState with
          | (none, d2) => d2
          | (some x, d2) =>
            let fc := d2.forecasts m
            let ts := fc.2.predictAll m x.2 fc.1 st (x.1.map (·.est)) 1 (hdrPredH m.header)
            let d3 := fc.2.put Reg.PAT_PRED_BASE.TICK 0 st
            let d4 := (m.slots.mapIdx fun p i => (p, i)).foldl (fun (y : Dev) pi =>
              (ts.mapIdx fun h t => (h, t)).foldl (fun (z : Dev) ht =>
                let v := ht.2.1.getD pi.2 0
                (z.memWrite (32 * (z.patBase + 0x4402) + 256 * pi.1 + 4 * ht.1) (leBytes 4 (bitsOf 32 v)) readerPat).produce
                  (z.name clsNODE pi.2) (ht.1 + 2) (mkWord v (stVALID + (if ht.2.2.getD pi.2 false then stCLAMPED else 0)) st)) y) d3
            d4.zonesSet.foldl (fun (y : Dev) z => y.zonePredict m st (ts.map (·.1)) z) d4

/-- Overrides of a PAT_PREDICT: binding, first horizon, x. -/
def predOverrides (x : Desc) : List (Nat × Nat × Int) :=
  (List.range (x.byte 17)).map fun j => (x.u16 (24 + 8 * j), x.byte (26 + 8 * j), x.s32 (28 + 8 * j))

/-- The next start tick of a header after `t`. -/
def nextStart (h : List Nat) (t : Nat) : Nat :=
  let p := max 1 (hdrPeriod h)
  if t < hdrPhase h then hdrPhase h else hdrPhase h + ((t - hdrPhase h) / p + 1) * p

/-- R230, R238: one step of the host prediction at the head of the queue, when it will end before the next step start; steps follow one another. -/
def Dev.hostPredStep (d : Dev) (p : HostPred) (rest : List HostPred) (x : Desc) (done : Nat) : Dev :=
  match d.readTables with
  | ((none, some w), d1) => d1.tableFault w
  | ((none, none), d1) => d1
  | ((some m, _), d1) =>
    let cost := m.costInputs + hdrSweeps m.header * m.costSweep + ceilDiv m.slots.length 8
    let from_ := max d1.pat.freeAt (6000 * d1.tick)
    if 6000 * (d1.tick + 1) ≤ from_ || 6000 * nextStart m.header d1.tick ≤ from_ + cost then d1
    else
      match d1.readState with
      | (none, d2) => d2
      | (some st, d2) =>
        let p0 := if p.made = 0 then { p with base := done, temps := st.1.map (·.est), inputs := d2.pat.inputs } else p
        let h := p0.made + 1
        let fc := d2.forecasts m
        let t := (fc.2.predictStep m st.2 fc.1 p0.inputs (predOverrides x) p0.base h p0.temps).1
        let d3 := (m.slots.mapIdx fun i n => (i, n)).foldl (fun (y : Dev) e =>
          y.memWrite (32 * x.u32 20 + 256 * e.1 + 4 * (h - 1)) (leBytes 4 (bitsOf 32 (t.getD e.2 0))) readerPat) fc.2
        let d4 := { d3 with pat := { d3.pat with freeAt := from_ + cost } }
        if h < x.byte 16 then { d4 with pat := { d4.pat with preds := { p0 with made := h, temps := t } :: rest } }
        else (Dev.showPat { d4 with pat := { d4.pat with preds := rest } }).done p.id (h + 2 ^ 32 * (p0.base % 2 ^ 32))

/-- R230. -/
def execHostPredictionStep (s : State) : Host.Outcome State Fault Refusal :=
  s.onDev fun d =>
    match d.pat.preds, d.pat.predBase with
    | p :: rest, some done =>
      if !d.controlling || !d.pat.run || d.pat.pub.isSome || d.pat.predicting.isSome || d.isSet Reg.PAT_STAT.TABLE_FAULT 0 then d
      else match d.rec? p.id with
        | some r => d.hostPredStep p rest r.d done
        | none => { d with pat := { d.pat with preds := rest } }
    | _, _ => d

/-! ### Load checks (R223 to R226) -/

/-- ρ of free node `i` rounded up to a multiple of 2^-32 (R223); `true` when ρ is 1 or more. -/
def PatModel.rho (m : PatModel) (i : Nat) : Nat × Bool :=
  let h := m.header
  let part := fun (free : Bool) (k : Nat) => (m.coupsOf i).foldl (fun (t : Nat) p =>
    if (((m.node p.2.1).kind == 1) == free) then t + p.2.2.g * (if p.2.2.adaptive then k else 4) else t) 0
  let f := part true 5 * hdrStep h
  let x := part false 3 * hdrStep h
  let c := (m.node i).cap * 2 ^ (hdrCShift h + hdrGShift h) * 4
  (ceilDiv (f * 2 ^ 32) (max 1 (c + f + x)), c + x = 0)

/-- ρ^n from units of 2^-32, each product rounded up (R223). -/
def rhoPower (r : Nat) : Nat → Nat
  | 0 => r
  | n + 1 => ceilDiv (rhoPower r n * r) (2 ^ 32)

/-- The most sweeps at the level in force (R60). -/
def Dev.maxSweeps (d : Dev) : Nat := if 3 ≤ d.bl then 96 else 64

/-- The smallest number of sweeps from `n` on that meets the limit, or 0xFF (R224). -/
def minSweeps (r limit : Nat) (top : Nat) : Nat :=
  match (List.range (top - 7)).find? fun j => rhoPower r (7 + j) ≤ limit * 2 ^ 16 with
  | some j => 8 + j
  | none => 0xFF

/-- Whether a header keeps R251, with SWEEPS as the level in force admits. -/
def Dev.headerOk (d : Dev) (h : List Nat) : Bool :=
  leAt h 0 2 == 1 && 1 ≤ hdrNodes h && hdrNodes h ≤ 4096 && hdrCoups h ≤ 32768 && hdrBinds h ≤ 1024
    && 1 ≤ hdrStep h && hdrStep h ≤ 3600 && hdrPhase h < hdrPeriod h && 8 ≤ hdrSweeps h && hdrSweeps h ≤ d.maxSweeps
    && hdrGShift h ≤ 24 && hdrCShift h ≤ 16 && h.getD 19 0 < 8 && 1 ≤ hdrConvLimit h
    && 1 ≤ hdrAdaptRate h && hdrAdaptRate h ≤ 256 && coefOk (leAt h 24 4) && hdrEtaS h ≤ 31
    && 1 ≤ hdrPredH h && hdrPredH h ≤ 64 && 1 ≤ h.getD 31 0 && h.getD 31 0 ≤ 168 && 1 ≤ hdrStale h && zeroAt h 37 27

/-- Whether `n` words from `w` lie in the shared memory and outside the engine region (R224). -/
def Dev.placed (d : Dev) (w n : Nat) : Bool :=
  w + n ≤ memWords && (n == 0 || w + n ≤ d.patBase || d.patBase + patWords ≤ w)

/-- The node that fails NODE, if any (R224). -/
def PatModel.badNode (m : PatModel) (ns : List Nat) : Option Nat :=
  (List.range m.nodes.length).find? fun i =>
    let x := m.node i
    let meas := m.measured i
    x.kind == 3 || (x.kind == 2 && (x.cap != 0 || x.q0 != 0 || x.gain != 0 || x.resLim != 0 || x.m != 0))
      || (meas && x.m == 0) || (!meas && (x.gain != 0 || x.resLim != 0 || x.m != 0))
      || 16 ≤ ns.getD (16 * i) 0 || ns.getD (16 * i + 1) 0 != 0 || ns.getD (16 * i + 15) 0 != 0

/-- Whether a node index names a node in use. -/
def PatModel.inUse (m : PatModel) (i : Nat) : Bool := i < m.nodes.length && (m.node i).kind != 0

/-- Whether two couplings join the same pair. -/
def samePair (c e : PatCoup) : Bool := (c.a == e.a && c.b == e.b) || (c.a == e.b && c.b == e.a)

/-- The coupling that fails COUPLING, if any (R224). -/
def PatModel.badCoup (m : PatModel) (cs : List Nat) : Option Nat :=
  (m.coups.mapIdx fun k c => (k, c)).findSome? fun p =>
    let c := p.2
    if c.a == c.b || c.g == 0 || ((m.node c.a).kind == 2 && (m.node c.b).kind == 2) || (m.coups.take p.1).any (samePair c)
      || 4096 ≤ leAt cs (8 * p.1) 2 || bitsAt (leAt cs (8 * p.1 + 2) 2) 12 3 != 0
    then some p.1 else none

/-- Whether a binding's source fails BINDING_SOURCE (R224). -/
def Dev.badSource (d : Dev) (b : PatBind) : Bool :=
  d.badName b.src || isNull b.src || (classOf b.src == clsNODE && d.isLocal b.src)
    || (b.kind == 4 && !(classOf b.src == clsNODE && !d.isLocal b.src)) || b.future == 3
    || (b.future == 2 && !(classOf b.src == clsSCHED || classOf b.src == clsZONE))
    || (b.future == 1 && memWords < b.table + 9) || (b.future != 1 && b.table != 0)

/-- The lowest sequence entry that names a channel, on the lowest converter: converter and entry (R229). -/
def Dev.entryFor (d : Dev) (ch : Nat) : Option (Nat × Nat) :=
  (List.range 8).findSome? fun c => ((List.range 64).find? fun e => d.get Reg.ENTRY_A.CHANNEL (64 * c + e) == ch).map fun e => (c, e)

/-- Whether a binding fails URGENT (R224). -/
def Dev.badUrgent (d : Dev) (b : PatBind) : Bool :=
  b.urgent && (b.kind == 1 || b.kind == 4 || !d.isLocal b.src || !(classOf b.src == clsUI || classOf b.src == clsINTL)
    || (d.entryFor (b.src % 2 ^ 20)).isNone)

/-- What the checks of R224 find: the code, the failing index, ρ_max in units of 2^-32 when it has been formed. -/
def Dev.patCheck (d : Dev) (m : PatModel) (ns cs bs : List Nat) : Nat × Nat × Option Nat :=
  let idx := List.range m.nodes.length
  let refs := (m.coups.mapIdx fun k c => (k, m.inUse c.a && m.inUse c.b)) ++ (m.binds.mapIdx fun k b => (k, m.inUse b.target))
  let free := idx.filter fun i => (m.node i).kind == 1
  let weak := free.find? fun i =>
    (m.coupsOf i).foldl (fun (t : Nat) p => t + p.2.2.g * (if p.2.2.adaptive then 3 else 4)) 0 < 4 * 2 ^ hdrGShift m.header
  match m.badNode ns with
  | some i => (2, i, none)
  | none => match refs.find? fun r => !r.2 with
    | some r => (3, r.1, none)
    | none => match m.badCoup cs with
      | some k => (4, k, none)
      | none => match weak with
        | some i => (5, i, none)
        | none => match free.find? fun i => (m.rho i).2 with
          | some i => (6, i, none)
          | none =>
            let r := free.foldl (fun (t : Nat) i => max t (m.rho i).1) 0
            let e := rhoPower r (hdrSweeps m.header - 1)
            let bi := m.binds.mapIdx fun k b => (k, b)
            let kindBad := bi.find? fun p =>
              p.2.kind == 0 || 4 < p.2.kind || (m.node p.2.target).kind != (if p.2.kind == 1 || p.2.kind == 3 then 1 else 2)
                || 8 ≤ bs.getD (32 * p.1 + 7) 0 || !zeroAt bs (32 * p.1 + 20) 12
            let fixedBad := idx.find? fun i => (m.node i).kind == 2
              && (m.binds.filter fun b => (b.kind == 2 || b.kind == 4) && b.target == i).length != 1
            let measBad := idx.find? fun i => (m.node i).kind == 1 && 1 < (m.binds.filter fun b => b.kind == 3 && b.target == i).length
            if hdrConvLimit m.header * 2 ^ 16 < e then (7, 0, some r)
            else match kindBad with
              | some p => (8, p.1, some r)
              | none => match bi.find? fun p => d.badSource p.2 with
                | some p => (9, p.1, some r)
                | none => match fixedBad with
                  | some i => (10, i, some r)
                  | none => match measBad with
                    | some i => (11, i, some r)
                    | none =>
                      if 256 < m.slots.length then (12, 0, some r)
                      else match bi.find? fun p => d.badUrgent p.2 with
                        | some p => (13, p.1, some r)
                        | none => (0, 0, some r)

/-- The result of a failed or passed check (R256). -/
def patResult (code mins e idx : Nat) : Nat := code + 2 ^ 8 * mins + 2 ^ 16 * e + 2 ^ 32 * idx

/-- The end of the check of a PAT_LOAD (R257, R648). -/
def Dev.patChecked (d : Dev) (x : Desc) : Dev :=
  match d.pat.load with
  | none => d
  | some l =>
    if l.stage != 0 then d
    else if !d.placed (x.u32 16) 2 then d.endLoad .badParam (patResult 14 0xFF 0 0)
    else match d.readWords (x.u32 16) 2 readerCore with
      | (none, d1) => d1.endLoad .dataError 0
      | (some h, d1) =>
        if !d1.headerOk h then d1.endLoad .badParam (patResult 1 0xFF 0 0)
        else if !(d1.placed (x.u32 20) (tableWords (hdrNodes h) 16) && d1.placed (x.u32 24) (tableWords (hdrCoups h) 8)
            && d1.placed (x.u32 28) (hdrBinds h)) then d1.endLoad .badParam (patResult 14 0xFF 0 0)
        else match d1.readStaged x with
          | (none, d2) => d2.endLoad .dataError 0
          | (some (h1, ns, cs, bs), d2) =>
            let m := modelOf h1 ns cs bs
            let r := d2.patCheck m ns cs bs
            let rho := r.2.2
            let mins := match rho with
              | some v => minSweeps v (hdrConvLimit h1) d2.maxSweeps
              | none => 0xFF
            let e := match rho with
              | some v => min 0xFFFF (ceilDiv (rhoPower v (hdrSweeps h1 - 1)) (2 ^ 16))
              | none => 0
            let all := h1 ++ ns ++ cs ++ bs
            if r.1 != 0 then d2.endLoad .badParam (patResult r.1 mins e r.2.1)
            else if !d2.manifestOk 0 0x0501 all then d2.endLoad .authFailed 0
            else if !d2.routesFit m.binds.length d2.patProducers.length then d2.endLoad .notAdmitted 0
            else if m.binds.any (fun b => !d2.isLocal b.src) && !d2.isSet Reg.GLOBAL_DEVNUM.ACTIVE_VALID 0 then d2.endLoad .unreachable 0
            else if bitAt (x.byte 32) 0 then d2.endLoad .ok (patResult 0 mins e 0)
            else
              { d2 with pat := { d2.pat with load := some { l with stage := 1, crc := crc32c all, bytes := all, e := e
                                                                   rho := min 0xFFFF (ceilDiv (rho.getD 0) (2 ^ 16)), minSweeps := mins } } }

/-- The slot of load `id` has been written (R257 stage 2): the commit follows at once while RUN is 0 or no model is committed. -/
def Dev.patSlotWritten (d : Dev) (id : Nat) : Dev :=
  match d.pat.load with
  | none => d
  | some l =>
    if l.stage != 1 || l.id != id then d
    else
      let l2 := { l with stage := 2 }
      let d1 := { d with pat := { d.pat with load := some l2, slotA := if d.pat.slot = 0 then d.pat.slotA else l.bytes
                                             slotB := if d.pat.slot = 0 then l.bytes else d.pat.slotB } }
      if d1.modelValid && d1.pat.run then d1
      else
        (d1.patCommit l2).1.showRunning

/-! ### Descriptors (R256 to R259) -/

/-- R257: PAT_LOAD. -/
def bodyPatLoad (id : Nat) (x : Desc) (d : Dev) : Dev :=
  if 1 < x.byte 32 then d.fail id .badParam
  else if d.pat.load.isSome then d.fail id .refusedBusy
  else Dev.showPat { d with pat := { d.pat with load := some { id := id, stage := 0, crc := 0, bytes := [], e := 0, rho := 0, minSweeps := 0xFF } } }

/-- How many host predictions queue at the level in force (R60, R258). -/
def Dev.predDepth (d : Dev) : Nat := if 2 ≤ d.bl then 8 else 4

/-- R258: PAT_PREDICT. -/
def bodyPatPredict (id : Nat) (x : Desc) (d : Dev) : Dev :=
  if x.byte 16 = 0 || 64 < x.byte 16 || 5 < x.byte 17 then d.fail id .badParam
  else if !d.modelValid || !d.pat.run || d.predDepth ≤ d.pat.preds.length then d.fail id .refusedBusy
  else
    let m := d.pat.shape
    let kindAt := fun (j : Nat) => ((m.sources[j]?).map fun b => b.2.1).getD 0
    let bad := (List.range (x.byte 17)).any fun j =>
      let bi := x.u16 (24 + 8 * j)
      let f := x.byte (26 + 8 * j)
      m.sources.length ≤ bi || kindAt bi == 3 || kindAt bi == 4 || f == 0 || 64 < f || x.byte (27 + 8 * j) != 0
    if bad || memWords < x.u32 20 + 8 * m.slots.length then d.fail id .badParam
    else Dev.showPat { d with pat := { d.pat with preds := d.pat.preds ++ [{ id := id, made := 0, base := 0, temps := [], inputs := [] }] } }

/-- R259: what PAT_ABORT does to a running load or prediction. -/
def settlePat (id : Nat) (r : Rec) (d : Dev) : Dev :=
  if r.d.u16 0 = 0x0501 then (d.endLoad .aborted 0).done id 0
  else
    match d.pat.preds.find? fun p => p.id == r.id with
    | some p =>
      ((Dev.showPat { d with pat := { d.pat with preds := d.pat.preds.filter fun e => e.id != r.id } }).finish r.id .aborted
        (p.made + 2 ^ 32 * (p.base % 2 ^ 32))).done id 0
    | none => d.fail id .nothingToAbort

/-- R259: PAT_ABORT. -/
def bodyPatAbort (id : Nat) (x : Desc) (d : Dev) : Dev :=
  if 63 < x.u16 20 then d.fail id .badParam else d.abortDesc id (x.u16 20) (x.u32 16) [0x0501, 0x0502] settlePat

/-- R256: PAT_RESET waits for a step start; while no step runs it applies at once. -/
def bodyPatReset (id : Nat) (x : Desc) (d : Dev) : Dev :=
  if 7 < x.byte 16 then d.fail id .badParam
  else
    let d1 := { d with pat := { d.pat with resets := d.pat.resets ++ [(id, x.byte 16)] } }
    if d1.modelValid && d1.pat.run then d1 else d1.patResets

/-- R259: PFW_N falling ends every load and host prediction. -/
def Dev.patDip (d : Dev) : Dev := (d.endLoad .aborted 0).endPredictions .aborted

/-- R257. -/
def execPatLoad (q : Nat) (x : Desc) (s : State) : Host.Outcome State Fault Refusal :=
  s.onDev fun d => d.submit q x 0x0501 [(16, 17)] bodyPatLoad

/-- R258. -/
def execPatPredict (q : Nat) (x : Desc) (s : State) : Host.Outcome State Fault Refusal :=
  s.onDev fun d => d.submit q x 0x0502 [(16, 2), (20, 44)] bodyPatPredict

/-- R259. -/
def execPatAbort (q : Nat) (x : Desc) (s : State) : Host.Outcome State Fault Refusal :=
  s.onDev fun d => d.submit q x 0x0503 [(16, 6)] bodyPatAbort

/-- R256. -/
def execPatReset (q : Nat) (x : Desc) (s : State) : Host.Outcome State Fault Refusal :=
  s.onDev fun d => d.submit q x 0x0504 [(16, 1)] bodyPatReset

/-! ### Control, urgent requests, retention (R229, R250, R262) -/

/-- R262: a write of PAT_CTRL. -/
def Dev.writePatCtrl (d : Dev) (v : Nat) : Dev :=
  let d1 := (d.putHost Reg.PAT_CTRL.RUN 0 (v % 2)).putHost Reg.PAT_CTRL.ADAPT_HOLD 0 (v / 2 % 2)
  if d1.modelValid then { d1 with pat := { d1.pat with ctrl := some v } }
  else (d1.patCtrl v).showRunning

/-- R262. -/
def execPatCtrlWrite (v : Nat) (s : State) : Host.Outcome State Fault Refusal :=
  s.onDev fun d => d.hostReg 0x70008 v fun x => x.writePatCtrl v

/-- R229: 500 ticks before a step start every URGENT binding issues its request. -/
def execPatUrgentIssue (s : State) : Host.Outcome State Fault Refusal :=
  s.onDev fun d =>
    if !d.controlling || !d.modelValid || !d.pat.run || !startTick d.patHeader (d.tick + 500) || d.pat.urgentAt = d.tick + 1 then d
    else
      let r := { d with pat := { d.pat with urgentAt := d.tick + 1 } }.readTables
      match r.1 with
      | (none, some w) => r.2.tableFault w
      | (none, none) => r.2
      | (some m, _) =>
        m.binds.foldl (fun (y : Dev) b =>
          if !b.urgent then y
          else match y.entryFor (b.src % 2 ^ 20) with
            | none => y
            | some (c, e) =>
              let i := 64 * c + e
              y.askUrgent c { origin := .node b.target, ch := b.src % 2 ^ 20, gain := y.get Reg.ENTRY_A.GAIN i
                              osr := y.get Reg.ENTRY_A.OSR i, acq := y.get Reg.ENTRY_B.ACQ i }) r.2

/-- Whether the multipliers are due to be retained: ADAPT_SAVE hours after the latest time, or after the commit (R250). -/
def Dev.multDue (d : Dev) : Bool := d.pat.savedAt + 360000000 * max 1 (d.patHeader.getD 31 0) ≤ d.tick

/-- R250: the multipliers retained with the model's identity. -/
def execMultiplierSave (s : State) : Host.Outcome State Fault Refusal :=
  s.onDev fun d =>
    if d.controlling && d.modelValid && d.multDue then
      let r := d.soundState
      Dev.setBlock { r.2 with pat := { r.2.pat with savedAt := d.tick } } keyMULT
        (leBytes 4 (d.get Reg.PAT_MODEL_ID.CRC 0) ++ (r.1.2.map multBytes).flatten)
    else d

/-- R249, R250: at step 6 of start the model of the active slot is placed again; `est` are the estimates of a save image with
this model's identity. -/
def Dev.patRestore (d : Dev) (est : Option (List Nat)) : Dev :=
  let bs := if d.pat.slot = 0 then d.pat.slotA else d.pat.slotB
  let h := bs.take 64
  let n1 := 16 * hdrNodes h
  let n2 := 8 * hdrCoups h
  let ns := slice bs 64 n1
  let cs := slice bs (64 + n1) n2
  let bb := bs.drop (64 + n1 + n2)
  let m := modelOf h ns cs bb
  let mb := d.block keyMULT
  let mine := leAt mb 0 4 == d.get Reg.PAT_MODEL_ID.CRC 0 && !mb.isEmpty
  let d0 := { d with pat := { d.pat with run := d.isSet Reg.PAT_CTRL.RUN 0, hold := d.isSet Reg.PAT_CTRL.ADAPT_HOLD 0 } }
  if !d0.modelValid || bs.isEmpty then d0
  else
    let e := fun (i : Nat) => est.map fun l => signedOf 32 (leAt l (4 * i) 4)
    let k := fun (i : Nat) => if mine then some (leAt mb (4 + 4 * i) 2) else none
    let p := d0.placeModel m h ns cs bb (fun i => if (m.node i).kind = 1 then e i else none) k
    let d1 := (p.1.publishNodes d0.tick p.2).showRunning
    { d1 with pat := { d1.pat with savedAt := d1.tick } }

/-! ### For the loops (R235) -/

/-- Whether node `i` is SUSPECT. -/
def Dev.nodeSuspect (d : Dev) (i : Nat) : Bool := d.modelValid && d.pat.suspect.contains i

/-- The source of the MEAS binding of node `i`, when it has one. -/
def Dev.nodeMeasSource (d : Dev) (i : Nat) : Option Nat := (d.pat.shape.sources.find? fun b => b.2.1 == 3 && b.2.2 == i).map (·.1)

end Sys2Proof.Machine
end

