-- ==== Sys2Proof/Machine/Restore.lean ====
section
/-! DEFINITION. The restore-policy value of an output (14_power_startup.md R531, R532), from the latest save image (15_retained_state_nvm.md). -/

namespace Sys2Proof.Machine
open Sys2Proof

/-- Whether sequence `a` is newer than `b` (R555). -/
def newer (a b : Nat) : Bool :=
  let k := (a + 2 ^ 32 - b % 2 ^ 32) % 2 ^ 32
  1 ≤ k && k < 2 ^ 31

/-- Image area 0 (A) or 1 (B). -/
def Dev.area (d : Dev) (k : Nat) : SaveArea := if k = 0 then d.nvm.areaA else d.nvm.areaB

/-- Whether group `g` lies in image area `k` (R561: pages 992 to 1,007, or 1,008 to 1,023, of every bank). -/
def areaGroup (k g : Nat) : Bool := 8 * (992 + 16 * k) ≤ g % 8192 && g % 8192 < 8 * (1008 + 16 * k)

/-- The header group of image area `k`: the first group of bank 0 (R560, R562). -/
def headerGroup (k : Nat) : Nat := 8 * (992 + 16 * k)

/-- Whether neither copy of a group can be used (R543). -/
def groupLost (x : NvmGroup) : Bool :=
  let lost := fun (e : Nat) => decodeErr e == .uncorrectable
  if x.cur then lost x.e1 && !(x.mir && !lost x.e0) else lost x.e0 && !(x.mir && !lost x.e1)

/-- Whether a group of image area `k` is lost, so that its CRC does not match (R564). -/
def Dev.areaLost (d : Dev) (k : Nat) : Bool := d.nvm.groups.any fun e => areaGroup k e.1 && groupLost e.2

/-- Whether image area `k` has a usable header group (R564). -/
def Dev.headerUsable (d : Dev) (k : Nat) : Bool :=
  (d.area k).header.isSome && !d.nvm.groups.any fun e => e.1 == headerGroup k && groupLost e.2

/-- The image with the newer sequence among the valid ones (R564). -/
def Dev.bestArea (d : Dev) : Option (Nat × SaveHeader × List Host.Cell) :=
  let good := fun (k : Nat) => match (d.area k).header with
    | some h => if (d.area k).crcOk && !d.areaLost k then some (k, h, (d.area k).cells) else none
    | none => none
  match good 0, good 1 with
  | some a, some b => if newer b.2.1.seq a.2.1.seq then some b else some a
  | some a, none => some a
  | none, o => o

/-- Bytes of the last applied down frame of a die in the latest save image (R531, R560); with no image, zeros. -/
def Dev.savedFrame (d : Dev) (k off n : Nat) : Nat :=
  match d.bestArea with
  | some (_, _, cells) => leAt (memBytes cells (0x100 + 0x80 * k + off) n) 0 n
  | none => 0

/-- The command that an output's restore policy gives (R363, R391, R531, R532). -/
def Dev.restoreValue (d : Dev) (c i : Nat) : Nat :=
  let k := dieOf c i
  let n := localOf c i
  let found := d.bestArea.isSome
  let pick := fun (policy saved safe off : Nat) => if policy = 0 && found then saved else if policy = 1 then safe else off
  if c = clsDO then
    pick (d.get Reg.DO_CFG.RESTORE i) (d.savedFrame k 0 4 / 2 ^ n % 2) (if d.get Reg.DO_CFG.SAFE i = 1 then 1 else 0) 0
  else if c = clsAO then
    let safe := match d.get Reg.AO_CFG.SAFE i with
      | 0 => 0 | 2 => d.get Reg.AO_SAFE.VALUE i | _ => aoOff
    pick (d.get Reg.AO_CFG.RESTORE i) (d.savedFrame k (4 + 2 * n) 2) safe aoOff
  else if c = clsFAN then
    let safe := match d.get Reg.FAN_CFG.SAFE i with
      | 2 => 10000 | 3 => d.get Reg.FAN_CMD_B.SAFE_CMD i | _ => 0
    pick (d.get Reg.FAN_CFG.RESTORE i) (d.savedFrame k (36 + 2 * n) 2) safe 0
  else if c = clsSOL then
    pick (d.get Reg.SOL_CFG.RESTORE i) (d.savedFrame k (68 + n) 1 % 2) (if d.get Reg.SOL_CFG.SAFE i = 2 then 1 else 0) 0
  else
    let safe := match d.get Reg.FLOAT_CFG.SAFE i with
      | 1 => 200 | 2 => 0 | _ => floatStop
    pick (d.get Reg.FLOAT_CFG.RESTORE i) (d.savedFrame k (84 + n) 1) safe floatStop

end Sys2Proof.Machine
end

