-- ==== Sys2Proof/Machine/Nvm.lean ====
section
/-! DEFINITION. The non-volatile memory: groups, page writes, records, the configuration store, the save set (15_retained_state_nvm.md). -/

namespace Sys2Proof.Machine
open Sys2Proof

/-! ### Groups (R541 to R545) -/

/-- NVM bytes (R541). -/
def nvmBytes : Nat := 0x400000

/-- The bank of an NVM address (R541). -/
def nvmBank (a : Nat) : Nat := a / 0x40000

/-- The page of its bank that holds an NVM address (R541). -/
def nvmPage (a : Nat) : Nat := a % 0x40000 / 256

/-- The region of an NVM address (R541). -/
def regionOf (a : Nat) : Nat := nvmBank a / 2

/-- Whether an NVM address lies in the save area (R541). -/
def inSaveArea (a : Nat) : Bool := 992 ≤ nvmPage a

/-- A group, by address / 32. -/
def Dev.group (d : Dev) (g : Nat) : NvmGroup := Map.get d.nvm.groups g NvmGroup.blank

/-- A group set. -/
def Dev.setGroup (d : Dev) (g : Nat) (x : NvmGroup) : Dev :=
  { d with nvm := { d.nvm with groups := Map.set d.nvm.groups g x NvmGroup.blank } }

/-- The 32 bytes of a copy. -/
def copyBytes (c : Word) : List Nat := leBytes 32 c.toNat

/-- A copy of 32 bytes. -/
def copyOf (bs : List Nat) : Word := BitVec.ofNat 256 (ofLeBytes (bs.take 32))

/-- Both steps of R542: the other copy written, CUR flipped, then the first copy written and MIR set. -/
def NvmGroup.write (x : NvmGroup) (bs : List Nat) : NvmGroup :=
  { x with c0 := copyOf bs, c1 := copyOf bs, e0 := 0, e1 := 0, cur := !x.cur, mir := true }

/-- Step 1 of R542 alone: the group has committed and its other copy keeps the old content. -/
def NvmGroup.commit (x : NvmGroup) (bs : List Nat) : NvmGroup :=
  if x.cur then { x with c0 := copyOf bs, e0 := 0, cur := false, mir := false }
  else { x with c1 := copyOf bs, e1 := 0, cur := true, mir := false }

/-- The copy that CUR names (or the other), with its wrong bits. -/
def NvmGroup.copy (x : NvmGroup) (current : Bool) : Word × Nat := if x.cur == current then (x.c1, x.e1) else (x.c0, x.e0)

/-- The bytes that CUR names, as written. -/
def NvmGroup.content (x : NvmGroup) : List Nat := copyBytes (x.copy true).1

/-- New wrong bits found in the copies of groups, as (group, bits of copy 0, bits of copy 1). -/
def Dev.nvmUpset (d : Dev) (us : List (Nat × Nat × Nat)) : Dev :=
  us.foldl (fun (y : Dev) u =>
    let x := y.group u.1
    if nvmBytes / 32 ≤ u.1 then y
    else y.setGroup u.1 { x with e0 := Nat.xor x.e0 (u.2.1 % 2 ^ 280), e1 := Nat.xor x.e1 (u.2.2 % 2 ^ 280) }) d

/-- One copy of group `g` found uncorrectable (R543, R574): counted, and reported as `kind`. -/
def Dev.nvmUncorrectable (d : Dev) (g kind : Nat) : Dev :=
  let b := nvmBank (32 * g)
  let d1 := d.bump Reg.NVM_BANK.UNCORRECTABLE b 0xFF
  d1.raiseCounted 0x0C01 d1.nullName d1.tick
    ([b, kind] ++ leBytes 2 (nvmPage (32 * g)) ++ [g % 8, 0, 0, 0] ++ leBytes 4 (d1.get Reg.NVM_BANK.UNCORRECTABLE b)) none

/-- A corrected copy of group `g`: counted, and the corrected data written back (R543, R658). -/
def Dev.nvmCorrected (d : Dev) (g : Nat) (current : Bool) (bs : List Nat) : Dev :=
  let x := d.group g
  let y := if x.cur == current then { x with c1 := copyOf bs, e1 := 0 } else { x with c0 := copyOf bs, e0 := 0 }
  ((d.setGroup g y).bump Reg.NVM_BANK.CORRECTED (nvmBank (32 * g)) 0xFFFF).recovered

/-- One copy of group `g` read: its bytes, none when it is uncorrectable. -/
def Dev.nvmCopy (d : Dev) (g : Nat) (current : Bool) : Option (List Nat) × Dev :=
  let c := (d.group g).copy current
  match decodeErr c.2 with
  | .clean e => (some (xorBytes (copyBytes c.1) e), d)
  | .corrected e => (some (xorBytes (copyBytes c.1) e), d.nvmCorrected g current (xorBytes (copyBytes c.1) e))
  | .uncorrectable => (none, d)

/-- R543: a group read. -/
def Dev.nvmGroup (d : Dev) (g : Nat) : Option (List Nat) × Dev :=
  match d.nvmCopy g true with
  | (some bs, d1) => (some bs, d1)
  | (none, d1) =>
    if !(d1.group g).mir then (none, d1.nvmUncorrectable g 1)
    else match d1.nvmCopy g false with
      | (some bs, d2) => (some bs, (d2.nvmUncorrectable g 1).recovered)
      | (none, d2) => (none, (d2.nvmUncorrectable g 2).nvmUncorrectable g 2)

/-- `n` groups from `g` on: each with its bytes, none where it is uncorrectable. -/
def Dev.nvmGroups (d : Dev) (g : Nat) : Nat → List (Option (List Nat)) × Dev
  | 0 => ([], d)
  | n + 1 =>
    let (o, d1) := d.nvmGroup g
    let (os, d2) := d1.nvmGroups (g + 1) n
    (o :: os, d2)

/-- Bytes of NVM from address `a` on, an uncorrectable group as 0xFF, with the count of uncorrectable groups (R571). -/
def Dev.nvmRead (d : Dev) (a n : Nat) : (List Nat × Nat) × Dev :=
  if n = 0 then (([], 0), d)
  else
    let g := a / 32
    let (os, d1) := d.nvmGroups g ((a + n - 1) / 32 + 1 - g)
    let all := os.flatMap fun o => o.getD (List.replicate 32 0xFF)
    ((slice all (a % 32) n, (os.filter fun o => o.isNone).length), d1)

/-- Bytes put over part of a group's content. -/
def overlay (old : List Nat) (at_ : Nat) (bs : List Nat) : List Nat :=
  (old.take at_ ++ bs ++ old.drop (at_ + bs.length)).take 32

/-- Bytes written from address `a` on into consecutive groups, each mirrored. -/
def Dev.nvmPut (d : Dev) (a : Nat) (bs : List Nat) : Dev :=
  if bs.isEmpty then d
  else
    let g := a / 32
    let n := (a + bs.length - 1) / 32 + 1 - g
    (List.range n).foldl (fun (y : Dev) j =>
      let lo := 32 * (g + j)
      let from_ := max a lo
      let part := slice bs (from_ - a) (lo + 32 - from_)
      let x := y.group (g + j)
      y.setGroup (g + j) (x.write (overlay x.content (from_ - lo) part))) d

/-! ### Page writes (R542, R544, R546 to R548) -/

/-- The square root of `n`, rounded down, found in `k` bits. -/
def isqrt (n : Nat) : Nat → Nat → Nat
  | 0, r => r
  | k + 1, r => let t := r + 2 ^ k; isqrt n k (if t * t ≤ n then t else r)

/-- C of R547, in µF. -/
def Dev.holdupCap (d : Dev) : Nat := if d.get Reg.PWR_HOLDUP.CAP 0 = 0 then 69 else d.get Reg.PWR_HOLDUP.CAP 0

/-- Whether VHOLD allows a page of a save: 9.0² V² plus 2 E_page over C (R547). -/
def Dev.pageEnergyOk (d : Dev) : Bool :=
  81000000 * d.holdupCap + 600000000 ≤ d.get Reg.PWR_VOLT.VHOLD 0 * d.get Reg.PWR_VOLT.VHOLD 0 * d.holdupCap

/-- Whether VHOLD reaches V_chk (R547): V² · C ≥ 81 V² · C + 12.6 mJ, in mV and µF. -/
def Dev.energyOk (d : Dev) : Bool :=
  81000000 * d.holdupCap + 12600000000 ≤ d.get Reg.PWR_VOLT.VHOLD 0 * d.get Reg.PWR_VOLT.VHOLD 0 * d.holdupCap

/-- V_chk in mV, to the nearest (R12). -/
def Dev.vChk (d : Dev) : Nat :=
  let n := 81000000 + 12600000000 / d.holdupCap
  let r := isqrt n 17 0
  if r * r + r < n then r + 1 else r

/-- NVM_ENERGY_WAIT entered or left (R547). -/
def Dev.setEnergyWait (d : Dev) (on : Bool) : Dev :=
  if d.isSet Reg.NVM_STAT.ENERGY_WAIT 0 == on then d
  else
    (d.putBit Reg.NVM_STAT.ENERGY_WAIT 0 on).raiseLimited 0x0C08 d.nullName d.tick (if on then 1 else 0)
      ([if on then 1 else 0, 0] ++ leBytes 2 (d.get Reg.PWR_VOLT.VHOLD 0) ++ leBytes 2 d.vChk)

/-- Whether a page write may start now (R547, R549, R628). -/
def Dev.writesOpen (d : Dev) : Bool := d.live && !d.dip && d.energyOk && !d.fit.window

/-- Whether no earlier write of the region waits or runs (R546, R670). -/
def Dev.regionFree (d : Dev) (region : Nat) : Bool := d.nvm.writes.all fun w => w.bank / 2 != region

/-- NVM_BANK.BUSY and NVM_STAT.BUSY as the writes stand (R545, R575). -/
def Dev.showBusy (d : Dev) : Dev :=
  let busy := fun (b : Nat) => d.nvm.writes.any fun w => w.started && w.bank == b
  ((List.range 16).foldl (fun (y : Dev) b => y.putBit Reg.NVM_BANK.BUSY b (busy b)) d).putBit Reg.NVM_STAT.BUSY 0
    (d.nvm.writes.any (fun w => w.started) || d.nvm.save.isSome)

/-- The writes of a list with the first of each region started. -/
def startFirsts (seen : List Nat) : List PageWrite → List PageWrite
  | [] => []
  | w :: t => (if seen.contains (w.bank / 2) then w else { w with started := true }) :: startFirsts (w.bank / 2 :: seen) t

/-- Whether a record or a block waits to be committed, with no import in the way (R557, R568). -/
def Dev.commitsWait (d : Dev) : Bool :=
  (!d.retPending.isEmpty || !d.storeDue.isEmpty) && !d.isSet Reg.NVM_STAT.IMPORT_PENDING 0 && !d.nvm.incomplete

/-- Whether R547 keeps page writes waiting: VHOLD below V_chk, or a warning in force. -/
def Dev.energyBlocked (d : Dev) : Bool := d.dip || !d.energyOk

/-- The writes that R547 keeps waiting noted with the tick since when, the others with none (R571). -/
def Dev.noteWaits (d : Dev) (blocked : Bool) : Dev :=
  let one := fun (w : PageWrite) =>
    { w with waitAt := if !blocked || w.started then 0 else if w.waitAt = 0 then d.tick + 1 else w.waitAt }
  { d with nvm := { d.nvm with writes := d.nvm.writes.map one } }

/-- The first write of each region starts when it may; else it waits, which ENERGY_WAIT shows where R547 is the reason (R546, R547, R628). -/
def Dev.kickWrites (d : Dev) : Dev :=
  if !d.live then d.showBusy
  else
    let d1 := (d.noteWaits d.energyBlocked).setEnergyWait (d.energyBlocked && (d.commitsWait || d.nvm.writes.any fun w => !w.started))
    Dev.showBusy (if d1.energyBlocked || d1.fit.window then d1 else { d1 with nvm := { d1.nvm with writes := startFirsts [] d1.nvm.writes } })

/-- A page write asked for. -/
def Dev.askWrite (d : Dev) (o : WriteOrigin) (a : Nat) (bs : List Nat) : Dev :=
  Dev.kickWrites { d with nvm := { d.nvm with writes := d.nvm.writes ++
    [{ origin := o, bank := nvmBank a, addr := a, bytes := bs, started := false, waitAt := 0 }] } }

/-- The groups of one page that a write touches, in the order of R542, each with its new content (R548: past the end of the page the write goes on
at byte 0). -/
def Dev.pageGroups (d : Dev) (a : Nat) (bs : List Nat) : List (Nat × List Nat) :=
  let page := a / 256 * 256
  let at_ := fun (n : Nat) => (a % 256 + n) % 256
  let order := ((List.range bs.length).map fun n => at_ n / 32).eraseDups
  order.map fun k =>
    let g := page / 32 + k
    (g, ((List.range bs.length).filter fun n => at_ n / 32 == k).foldl (fun c n => c.set (at_ n % 32) (bs.getD n 0)) (d.group g).content)

/-- The first `n` groups of a page write committed, the others as before; mirrored when the write has ended (R542, R544). -/
def Dev.commitPage (d : Dev) (a : Nat) (bs : List Nat) (n : Nat) (mirror : Bool) : Dev :=
  ((d.pageGroups a bs).take n).foldl (fun (y : Dev) e =>
    y.setGroup e.1 (if mirror then (y.group e.1).write e.2 else (y.group e.1).commit e.2)) d

/-- The running page write of bank `b`. -/
def Dev.runningWrite (d : Dev) (b : Nat) : Option PageWrite := d.nvm.writes.find? fun w => w.started && w.bank == b

/-- A page write gone from the queue. -/
def Dev.dropWrite (d : Dev) (w : PageWrite) : Dev := { d with nvm := { d.nvm with writes := d.nvm.writes.erase w } }

/-- Bytes of the model store of one slot before its second bank (R541: pages 0 to 991 of two banks). -/
def slotHalf : Nat := 253952

/-- The NVM address of byte 0 of a model slot (R541). -/
def slotAddr (slot : Nat) : Nat := (2 + 2 * slot) * 0x40000

/-- The bytes of a model slot put in the store. -/
def Dev.putSlot (d : Dev) (slot : Nat) (bs : List Nat) : Dev :=
  (d.nvmPut (slotAddr slot) (bs.take slotHalf)).nvmPut (slotAddr slot + 0x40000) (bs.drop slotHalf)

/-- The NVM address of entry `i` of the fitting log (R635). -/
def logAddr (i : Nat) : Nat := if i < 3840 then 0x20000 + 32 * i else 0x60000 + 32 * (i - 3840)

/-- The next entry of the fitting log is asked for (R635). -/
def Dev.askLog (d : Dev) : Dev :=
  match d.fit.log with
  | [] => d
  | e :: _ => d.askWrite .log (logAddr (d.get Reg.FIT_LOG_STAT.NEXT 0)) e

/-- The next entry is asked for where none is under way. -/
def Dev.kickLog (d : Dev) : Dev := if d.nvm.writes.any (fun w => w.origin == .log) then d else d.askLog

/-- An entry of the fitting log has committed (R627, R635): the next one follows; after a pass's last the changes await the next boundary. -/
def Dev.logWritten (d : Dev) : Dev :=
  let d1 := { d with fit := { d.fit with log := d.fit.log.drop 1 } }
  let d2 := (d1.putRet Reg.FIT_LOG_STAT.NEXT 0 ((d1.get Reg.FIT_LOG_STAT.NEXT 0 + 1) % 7680)).putRet Reg.FIT_LOG_STAT.ENTRIES 0
    (countUp 7680 (d1.get Reg.FIT_LOG_STAT.ENTRIES 0))
  if !d2.fit.log.isEmpty then d2.askLog
  else if d2.get Reg.FIT_STAT.STEP 0 = 3 then d2.put Reg.FIT_STAT.STEP 0 4
  else d2

/-- R542, R257, R635: a page write of bank `b` ends. -/
def execPageWriteDone (b : Nat) (s : State) : Host.Outcome State Fault Refusal :=
  s.onDev fun d =>
    if !d.live then d
    else match d.runningWrite b with
      | none => d
      | some w =>
        let d1 := d.dropWrite w
        Dev.kickWrites (match w.origin with
          | .host id => (d1.commitPage w.addr w.bytes (d1.pageGroups w.addr w.bytes).length true).done id (d1.pageGroups w.addr w.bytes).length
          | .log => (d1.commitPage w.addr w.bytes (d1.pageGroups w.addr w.bytes).length true).logWritten
          | .model id => (d1.putSlot (1 - d1.pat.slot) w.bytes).patSlotWritten id)

/-- R547, R670: VHOLD measured again; a write that waited starts when V_chk is reached. -/
def execEnergyWaitEnd (vhold : Nat) (s : State) : Host.Outcome State Fault Refusal :=
  s.onDev fun d => if d.live then (d.put Reg.PWR_VOLT.VHOLD 0 (min vhold 0xFFFF)).kickWrites else d

/-- R571: an NVM_WRITE that has waited 100 ms under R547 ends. -/
def execNvmWriteTimeout (id : Nat) (s : State) : Host.Outcome State Fault Refusal :=
  s.onDev fun d =>
    match d.nvm.writes.find? fun w => w.origin == .host id && w.waitAt != 0 && w.waitAt - 1 + 10000 ≤ d.tick with
    | none => d
    | some w => if d.live then ((d.dropWrite w).fail id .timeout).kickWrites else d

/-- The ticks from one group's refresh to the next: every group once per REFRESH_INT days (R576). -/
def Dev.refreshSpan (d : Dev) : Nat := d.get Reg.NVM_FIT.REFRESH_INT 0 * 8640000000 / 131072

/-- R576: group `g` is refreshed in its turn; `e0` and `e1` are wrong bits that its copies have gathered. The region's waiting writes go
first (R670). -/
def execGroupRefresh (g e0 e1 : Nat) (s : State) : Host.Outcome State Fault Refusal :=
  s.onDev fun d =>
    if g != d.nvm.refreshTurn || !d.writesOpen || d.tick < d.nvm.refreshAt + d.refreshSpan || !d.regionFree (regionOf (32 * g)) then d
    else
      let d1 := Dev.nvmUpset { d with nvm := { d.nvm with refreshAt := d.tick, refreshTurn := (g + 1) % 131072 } } [(g, e0, e1)]
      match d1.nvmGroup g with
      | (some bs, d2) => d2.setGroup g ((d2.group g).write bs)
      | (none, d2) => d2

/-! ### Records (R553 to R558) -/

/-- The group of copy A (0) or B (1) of record `r`; DESIGN CHOICE (log 135): records from 4,096 on lie past the 4 MiB. -/
def recGroup (r copy : Nat) : Nat := (if r < 4096 then 8192 * copy else 2 ^ 18 + 2 ^ 17 * copy) + r

/-- A valid record copy (R553): its sequence, whether it is written, its data; none when it is invalid. -/
def recCopy (r : Nat) (o : Option (List Nat)) : Option (Nat × Bool × List Nat) :=
  match o with
  | none => none
  | some bs =>
    let len := bs.getD 6 0
    let w := bs.getD 7 0
    if allZero bs then some (0, false, [])
    else if leAt bs 4 2 == r && w < 2 && (if w = 1 then 1 ≤ len && len ≤ 24 else len == 0) then
      some (leAt bs 0 4, w == 1, slice bs 8 len)
    else none

/-- What the table Record resolution answers (R555): the winning copy (0 A, 1 B, none when both are invalid), its sequence, whether it is
written, its data, the copy to be rewritten, whether the record is ambiguous, the copy that R556 writes next. -/
structure Resolution where
  winner : Option Nat
  seq : Nat
  written : Bool
  data : List Nat
  repair : Option Nat
  ambiguous : Bool
  next : Nat
  deriving DecidableEq, Repr

/-- The table Record resolution (R555) with the copy to be written next (R556). -/
def resolve (a b : Option (Nat × Bool × List Nat)) : Resolution :=
  let use := fun (w : Nat) (x : Nat × Bool × List Nat) (repair : Option Nat) (amb : Bool) (next : Nat) =>
    ({ winner := some w, seq := x.1, written := x.2.1, data := x.2.2, repair := repair, ambiguous := amb, next := next } : Resolution)
  match a, b with
  | none, none => { winner := none, seq := 0, written := false, data := [], repair := none, ambiguous := false, next := 1 }
  | some x, none => use 0 x (some 1) false 1
  | none, some y => use 1 y (some 0) false 0
  | some x, some y =>
    if !x.2.1 && !y.2.1 then use 0 x none false 1
    else if !y.2.1 then use 0 x none false 1
    else if !x.2.1 then use 1 y none false 0
    else if x.1 = y.1 then use 0 x none (x.2.2 != y.2.2) 1
    else if newer x.1 y.1 then use 0 x none false 1
    else if newer y.1 x.1 then use 1 y none false 0
    else use 0 x none true 1

/-- The 32 bytes of a record copy (R553). -/
def recBytes (r seq : Nat) (data : List Nat) : List Nat :=
  leBytes 4 seq ++ leBytes 2 r ++ [data.length, 1] ++ data ++ List.replicate (24 - data.length) 0

/-- Both copies of record `r` read and compared (R555), without the table's further action. -/
def Dev.readRecord (d : Dev) (r : Nat) : (Resolution × Nat × Nat) × Dev :=
  let (oa, d1) := d.nvmGroup (recGroup r 0)
  let (ob, d2) := d1.nvmGroup (recGroup r 1)
  let a := recCopy r oa
  let b := recCopy r ob
  ((resolve a b, (a.map (fun x => x.1)).getD 0, (b.map (fun x => x.1)).getD 0), d2)

/-- The source object of a record's events. -/
def Dev.recName (d : Dev) (r : Nat) : Nat := d.name clsREC (r % 4096)

/-- A record marked ambiguous, or the mark cleared (R558, R574). -/
def Dev.markAmbiguous (d : Dev) (r : Nat) (on : Bool) (sa sb : Nat) : Dev :=
  if d.nvm.ambiguous.contains r == on then d
  else
    let l := if on then d.nvm.ambiguous ++ [r] else d.nvm.ambiguous.filter (· != r)
    ({ d with nvm := { d.nvm with ambiguous := l } }.put Reg.NVM_RECSTAT.AMBIGUOUS 0 l.length).raise 0x0C02 (d.recName r)
      ([if on then 1 else 0, 0, 0, 0] ++ leBytes 4 sa ++ leBytes 4 sb)

/-- The further action of the table Record resolution (R555): the lost copy rewritten, the loss or the ambiguity reported. -/
def Dev.settleRecord (d : Dev) (r : Nat) (x : Resolution) (sa sb : Nat) : Dev :=
  if x.winner.isNone then d.raise 0x0C03 (d.recName r) [1]
  else match x.repair with
    | some c =>
      if d.isSet Reg.NVM_STAT.IMPORT_PENDING 0 || (d.live && !d.writesOpen) then d
      else
        let from_ := recGroup r (1 - c)
        ((d.setGroup (recGroup r c) ((d.group (recGroup r c)).write (d.group from_).content)).raise 0x0C04 (d.recName r) [c]).recovered
    | none => if x.ambiguous then d.markAmbiguous r true sa sb else d

/-- R555: record `r` resolved, with the table's further action. -/
def Dev.resolveRecord (d : Dev) (r : Nat) : Resolution × Dev :=
  let (y, d1) := d.readRecord r
  (y.1, d1.settleRecord r y.1 y.2.1 y.2.2)

/-- The bits of a register's retained fields, the others 0 (R554). -/
def Dev.retBits (d : Dev) (fs : List Fld) (i : Nat) : Nat :=
  ((fs.filter fun f => f.ret).map fun f => d.get f i * 2 ^ f.lo).foldl (· + ·) 0

/-- The data of record `r` as they are in force (R554). -/
def Dev.recData (d : Dev) (r : Nat) : List Nat :=
  match registerOf r with
  | some (fs, i) => leBytes 4 (d.retBits fs i)
  | none =>
    if r = recSLOT then [d.pat.slot]
    else Map.get d.nvm.kept r []

/-- Further retained data in force, its record to be committed. -/
def Dev.keep (d : Dev) (r : Nat) (bs : List Nat) : Dev :=
  Dev.markRec { d with nvm := { d.nvm with kept := Map.set d.nvm.kept r bs [] } } r

/-- R556: record `r` written with its data in force: the new sequence. -/
def Dev.writeRecord (d : Dev) (r : Nat) (data : List Nat) : Nat × Dev :=
  let (y, d1) := d.readRecord r
  let x := y.1
  let seq := if x.written then (x.seq + 1) % 2 ^ 32 else 1
  let g := recGroup r x.next
  let d2 := d1.setGroup g ((d1.group g).write (recBytes r seq data))
  (seq, d2.markAmbiguous r false y.2.1 seq)

/-- Operations that wait for record `r` go on, its sequence now `seq` (R557, R570). -/
def Dev.recCommitted (d : Dev) (r seq : Nat) : Dev :=
  let d1 := (d.nvm.recOps.filter fun o => o.2 == r).foldl (fun (y : Dev) o => y.done o.1 seq) d
  let step := fun (o : SyncOp) => if o.recs.contains r then { o with recs := o.recs.filter (· != r), count := o.count + 1 } else o
  let syncs := d1.nvm.syncs.map step
  let ended := syncs.filter fun o => o.recs.isEmpty && o.blocks.isEmpty
  let exp := d1.nvm.exporting.map fun (e : ExportOp) => { e with recs := e.recs.filter (· != r) }
  ended.foldl (fun (y : Dev) o => y.done o.id o.count)
    { d1 with nvm := { d1.nvm with recOps := d1.nvm.recOps.filter (fun o => o.2 != r), exporting := exp
                                   syncs := syncs.filter fun o => !(o.recs.isEmpty && o.blocks.isEmpty) } }

/-- Whether records and blocks may be committed now: not in a warning, an export that has what it waits for, or a pending import (R557, R565, R568). -/
def Dev.mayCommit (d : Dev) : Bool :=
  d.writesOpen && !d.isSet Reg.NVM_STAT.IMPORT_PENDING 0 && !d.nvm.incomplete

/-- R556, R557, R666: the change of record `r` commits. -/
def execRecordCommit (r : Nat) (s : State) : Host.Outcome State Fault Refusal :=
  s.onDev fun d =>
    let exportWaits := match d.nvm.exporting with
      | some e => !e.recs.contains r
      | none => false
    if !d.retPending.contains r || !d.mayCommit || exportWaits || !d.regionFree 0 then d
    else
      let (seq, d1) := { d with retPending := d.retPending.filter (· != r) }.writeRecord r (d.recData r)
      d1.recCommitted r seq

/-! ### The configuration store (R559) -/

/-- The record index of the pointer to the store block that holds a configuration block (R554; DESIGN CHOICE, log 136: the spec gives the range 2,048 to 3,071). -/
def pointerOf (key : Nat) : Nat :=
  if keyFLOW 0 ≤ key then 2975
  else if keyExtra 0 ≤ key then 2976
  else if keyROUTE ≤ key then 2968 + (key - keyROUTE)
  else match classOf key with
    | 0x0B => 2048 + indexOf key
    | 0x0D => 2560 + indexOf key
    | 0x18 => 2816 + indexOf key
    | 0x13 => 2944 + indexOf key
    | 0x06 => 2960 + indexOf key
    | _ => 2977

/-- The keys that one pointer holds, of those listed. -/
def Dev.keysAt (d : Dev) (ptr : Nat) : List Nat := (d.blocks.filter fun e => pointerOf e.1 == ptr).map fun e => e.1

/-- Whether a pointer's store block joins several configuration blocks, each with its key and length before it. -/
def joined (ptr : Nat) : Bool := ptr == 2975 || ptr == 2976

/-- The store block of a pointer as it is in force. -/
def Dev.storeBlock (d : Dev) (ptr : Nat) : List Nat :=
  (d.keysAt ptr).flatMap fun k =>
    let b := d.block k
    if joined ptr then leBytes 4 k ++ leBytes 4 b.length ++ b else b

/-- The key of the one block of a pointer. -/
def keyOfPointer (ptr : Nat) : Nat :=
  if ptr < 2560 then handle clsLOOP (ptr - 2048)
  else if ptr < 2816 then handle clsSCHED (ptr - 2560)
  else if ptr < 2944 then handle clsZONE (ptr - 2816)
  else if ptr < 2960 then handle clsBUS (ptr - 2944)
  else if ptr < 2968 then handle clsBANK (ptr - 2960)
  else if ptr < 2975 then keyROUTE + (ptr - 2968)
  else handle clsPANEL 0

/-- The configuration blocks of a store block that joins several. -/
def unjoin : Nat → List Nat → List (Nat × List Nat)
  | 0, _ => []
  | n + 1, bs =>
    if bs.length < 8 then []
    else
      let len := leAt bs 4 4
      (leAt bs 0 4, slice bs 8 len) :: unjoin n (bs.drop (8 + len))

/-- Pages of the configuration store (R541: pages 0 to 991 of banks 6 to 11). -/
def storePages : Nat := 5952

/-- The NVM address of a page of the store. -/
def storeAddr (p : Nat) : Nat := (6 + p / 992) * 0x40000 + p % 992 * 256

/-- The page of the store at an NVM address. -/
def storePage (a : Nat) : Nat := (nvmBank a - 6) * 992 + nvmPage a

/-- Pages that `n` bytes take. -/
def pagesOf (n : Nat) : Nat := (n + 255) / 256

/-- The pages that the blocks in force hold, as (first, count). -/
def Dev.usedPages (d : Dev) : List (Nat × Nat) := d.nvm.pointers.map fun e => (storePage e.2.1, pagesOf e.2.2)

/-- The first page from which `n` free pages follow (DESIGN CHOICE, log 249: the first such run). -/
def Dev.freePages (d : Dev) (n : Nat) : Nat :=
  let used := d.usedPages
  let clear := fun (p : Nat) => p + n ≤ storePages && used.all fun u => u.1 + u.2 ≤ p || p + n ≤ u.1
  ((0 :: used.map fun u => u.1 + u.2).filter clear).foldl min storePages

/-- A block's bytes written page by page from store page `p` on. -/
def Dev.putStore (d : Dev) (p : Nat) (bs : List Nat) : Dev :=
  (List.range (pagesOf bs.length)).foldl (fun (y : Dev) j => y.nvmPut (storeAddr (p + j)) (slice bs (256 * j) 256)) d

/-- A block's bytes read page by page, with the count of uncorrectable groups. -/
def Dev.readStore (d : Dev) (a len : Nat) : (List Nat × Nat) × Dev :=
  let r := (List.range (pagesOf len)).foldl (fun (z : (List Nat × Nat) × Dev) j =>
    let x := z.2.nvmRead (storeAddr (storePage a + j)) 256
    ((z.1.1 ++ x.1.1, z.1.2 + x.1.2), x.2)) (([], 0), d)
  ((r.1.1.take len, r.1.2), r.2)

/-- The store block of pointer `ptr` written into free pages, and its pointer record after it (R559): the pointer's new sequence. -/
def Dev.storeAt (d : Dev) (ptr : Nat) (bs : List Nat) : Nat × Dev :=
  let p := if bs.isEmpty then 0 else d.freePages (pagesOf bs.length)
  let a := if bs.isEmpty then 0 else storeAddr p
  let d1 := d.putStore p bs
  let (seq, d2) := d1.writeRecord ptr (leBytes 4 a ++ leBytes 4 bs.length ++ leBytes 4 (crc32c bs))
  (seq, { d2 with nvm := { d2.nvm with pointers := if bs.isEmpty then Map.erase d2.nvm.pointers ptr else Map.insert d2.nvm.pointers ptr (a, bs.length) } })

/-- R559: the configuration block of `key` is put in the store and its pointer committed. -/
def execConfigBlockStore (key : Nat) (s : State) : Host.Outcome State Fault Refusal :=
  s.onDev fun d =>
    let exportWaits := match d.nvm.exporting with
      | some e => !e.blocks.contains key
      | none => false
    if !d.storeDue.contains key || !d.mayCommit || exportWaits || !([3, 4, 5].all d.regionFree) || !d.regionFree 0 then d
    else
      let ptr := pointerOf key
      let done := fun (k : Nat) => pointerOf k == ptr
      let (seq, d1) := { d with storeDue := d.storeDue.filter fun k => !done k }.storeAt ptr (d.storeBlock ptr)
      let step := fun (o : SyncOp) =>
        if o.blocks.any done then { o with blocks := o.blocks.filter (fun k => !done k), count := o.count + 1 } else o
      let exp := d1.nvm.exporting.map fun (e : ExportOp) => { e with blocks := e.blocks.filter fun k => !done k }
      Dev.recCommitted { d1 with nvm := { d1.nvm with syncs := d1.nvm.syncs.map step, exporting := exp } } ptr seq

/-! ### The save set (R560 to R564) -/

/-- Bytes of the working save set (R560). -/
def saveBytes : Nat := 0x10000

/-- The bytes of the working save set from 0x0020 on, as (offset, byte) pairs that are not 0. -/
def Dev.saveCells (d : Dev) : List Host.Cell :=
  let b := d.saveBase
  (d.mem.filter fun c => b + 32 ≤ c.1 && c.1 < b + saveBytes).map fun c => (c.1 - b, c.2)

/-- The words of the working save set that hold wrong bits put right as the management core reads them (R28, R31, R33). -/
def Dev.saveSettle (d : Dev) : Dev :=
  let b := d.saveBase / 32
  (d.memErr.filter fun e => b ≤ e.1 && e.1 < b + saveBytes / 32).foldl (fun (y : Dev) e => y.settleWord e.1 0 0 readerCore) d

/-- An image area set. -/
def Dev.setArea (d : Dev) (k : Nat) (x : SaveArea) : Dev :=
  { d with nvm := if k = 0 then { d.nvm with areaA := x } else { d.nvm with areaB := x } }

/-- An image area written: none of its groups holds wrong bits any more. -/
def Dev.writeArea (d : Dev) (k : Nat) (h : SaveHeader) (cells : List Host.Cell) : Dev :=
  let d1 := d.setArea k { header := some h, crcOk := true, cells := cells }
  { d1 with nvm := { d1.nvm with groups := d1.nvm.groups.filter fun e => !areaGroup k e.1 } }

/-- The next save sequence: a checkpoint that a save ends has taken one too (R563). -/
def Dev.nextSaveSeq (d : Dev) : Nat :=
  ((match d.nvm.save with
    | some r => r.header.seq
    | none => d.get Reg.NVM_SAVE_SEQ.SEQ 0) + 1) % 2 ^ 32

/-- A save begins (R562): the image of this moment goes to the area that does not hold the latest valid one. Frozen, the shared memory is read
and left as it is (R674). -/
def Dev.saveStart (d0 : Dev) (kind : Nat) : Dev :=
  let settled := d0.saveSettle
  let d := if d0.frozen then d0 else settled
  let k := 1 - d.get Reg.NVM_STAT.SAVE_AREA 0
  let h : SaveHeader := { time := d.tick, seq := d.nextSaveSeq, model := d.get Reg.PAT_MODEL_ID.CRC 0, kind := kind }
  let d1 := d.setArea k { d.area k with crcOk := false }
  Dev.showBusy { d1 with nvm := { d1.nvm with save := some { area := k, header := h, cells := settled.saveCells } } }

/-- The header group of a save commits (R562). -/
def Dev.saveCommit (d : Dev) : Dev :=
  match d.nvm.save with
  | none => d
  | some r =>
    let d1 := d.writeArea r.area r.header r.cells
    ((((Dev.showBusy { d1 with nvm := { d1.nvm with save := none } }).put Reg.NVM_STAT.SAVE_AREA 0 r.area).put
      Reg.NVM_SAVE_SEQ.SEQ 0 r.header.seq).put Reg.NVM_SAVE_TICK.TICK 0 r.header.time)

/-- Whether a checkpoint may run: no warning, no import (R563, R568). -/
def Dev.checkpointOpen (d : Dev) : Bool := d.writesOpen && !d.isSet Reg.NVM_STAT.IMPORT_PENDING 0 && !d.nvm.incomplete

/-- R563: a checkpoint of the save set begins, CKPT_INT minutes after the one before. -/
def execCheckpoint (s : State) : Host.Outcome State Fault Refusal :=
  s.onDev fun d =>
    let n := d.get Reg.NVM_CFG.CKPT_INT 0
    if !d.checkpointOpen || n = 0 || d.tick < d.nvm.ckptAt + 6000000 * n || d.nvm.save.isSome then d
    else Dev.saveStart { d with nvm := { d.nvm with ckptAt := d.tick } } 1

/-- A checkpoint ends at a boundary: 16 pages of 200 µs in each bank (R542, R563). -/
def Dev.checkpointTick (d : Dev) : Dev :=
  match d.nvm.save with
  | some r => if r.header.kind = 1 && d.checkpointOpen && d.nvm.ckptAt + 320 ≤ d.tick then d.saveCommit else d
  | none => d

/-- A checkpoint under way is given up (R568). -/
def Dev.dropCheckpoint (d : Dev) : Dev := Dev.showBusy { d with nvm := { d.nvm with save := none } }

/-- The working save set made blank, its code words fresh (R564). -/
def Dev.clearSaveSet (d : Dev) : Dev :=
  let b := d.saveBase
  { d with mem := d.mem.filter (fun c => c.1 < b || b + saveBytes ≤ c.1)
           memErr := d.memErr.filter fun e => e.1 < b / 32 || (b + saveBytes) / 32 ≤ e.1 }

/-- R564: the save area read, and the save image restored, at step 6 of start; whether one was found. -/
def Dev.restoreSave (d : Dev) : Bool × Dev :=
  let b := d.saveBase
  let d0 := (d.nvm.groups.filter fun e => 7936 ≤ e.1 % 8192).foldl (fun (y : Dev) e => (y.nvmGroup e.1).2) d
  let d1 := d0.clearSaveSet
  match d1.bestArea with
  | none =>
    let usable := ((List.range 2).filter fun k => d1.headerUsable k).length
    (false, d1.raise 0x0C05 d1.nullName [usable])
  | some (k, h, cells) =>
    let put := fun (m : List Host.Cell) (c : Host.Cell) => memSet m (b + c.1) c.2
    let d2 := { d1 with mem := cells.foldl put d1.mem }
    (true, ((d2.put Reg.NVM_STAT.SAVE_AREA 0 k).put Reg.NVM_SAVE_SEQ.SEQ 0 h.seq).put Reg.NVM_SAVE_TICK.TICK 0 h.time)

/-! ### Restoring at start (R18, R555, R559, R564) -/

/-- The data of a record in force from now on. -/
def Dev.applyRecord (d : Dev) (r : Nat) (data : List Nat) : Dev :=
  match registerOf r with
  | some (fs, i) => (fs.filter fun f => f.ret).foldl (fun (y : Dev) f => y.put f i (bitsAt (leAt data 0 4) f.lo f.width)) d
  | none =>
    if r = recSLOT then { d with pat := { d.pat with slot := data.getD 0 0 % 2 } }
    else if 2048 ≤ r && r < 3072 then
      if leAt data 4 4 = 0 then d
      else { d with nvm := { d.nvm with pointers := Map.insert d.nvm.pointers r (leAt data 0 4, leAt data 4 4) } }
    else { d with nvm := { d.nvm with kept := Map.set d.nvm.kept r data [] } }

/-- The records that have a group written or hit, each once. -/
def Dev.touchedRecords (d : Dev) : List Nat :=
  (d.nvm.groups.filterMap fun e =>
    if e.1 < 4096 then some e.1
    else if 8192 ≤ e.1 && e.1 < 12288 then some (e.1 - 8192)
    else if 2 ^ 18 ≤ e.1 then some ((e.1 - 2 ^ 18) % 2 ^ 17)
    else none).eraseDups

/-- R555: every record resolved at start; the records lost, both of whose copies are invalid. -/
def Dev.restoreRecords (d : Dev) : List Nat × Dev :=
  d.touchedRecords.foldl (fun (y : List Nat × Dev) r =>
    let (x, y1) := y.2.resolveRecord r
    if x.winner.isNone then (y.1 ++ [r], y1.bump Reg.NVM_RECSTAT.LOST 0 0x1FFF)
    else if x.written then (y.1, y1.applyRecord r x.data)
    else (y.1, y1)) ([], d)

/-- Lost records in the fault log, cause 10 with the record index (R661, R666). -/
def Dev.logLost (d : Dev) (rs : List Nat) : Dev := rs.foldl (fun (y : Dev) r => y.logFault 10 0xFF r) d

/-- The block that a pointer record names, when its CRC matches (R559). -/
def Dev.readPointed (d : Dev) (ptr : Nat) : Option (List Nat) × Dev :=
  let y := d.readRecord ptr
  let data := y.1.1.data
  let x := y.2.readStore (leAt data 0 4) (leAt data 4 4)
  (if x.1.2 = 0 && crc32c x.1.1 == leAt data 8 4 then some x.1.1 else none, x.2)

/-- R559: the configuration blocks restored at start. -/
def Dev.restoreBlocks (d : Dev) : Dev :=
  d.nvm.pointers.foldl (fun (y : Dev) e =>
    match y.readPointed e.1 with
    | (none, y1) => Dev.raise { y1 with nvm := { y1.nvm with pointers := Map.erase y1.nvm.pointers e.1 } } 0x0C03 (y1.recName e.1) [2]
    | (some bs, y1) =>
      let es := if joined e.1 then unjoin 2048 bs else [(keyOfPointer e.1, bs)]
      { y1 with blocks := es.foldl (fun m k => Map.set m k.1 k.2 []) y1.blocks }) d

/-- The bytes of a model as its header counts them (R251 to R254). -/
def modelBytes (h : List Nat) : Nat := 64 + 16 * hdrNodes h + 8 * hdrCoups h + 32 * hdrBinds h

/-- The bytes of the committed slot taken, `bad` of its groups uncorrectable; without a sound model there is none. -/
def Dev.takeSlot (d : Dev) (bs : List Nat) (bad : Nat) : Dev :=
  if !d.isSet Reg.PAT_STAT.MODEL_VALID 0 then d
  else if bad != 0 || crc32c bs != d.get Reg.PAT_MODEL_ID.CRC 0 then d.put Reg.PAT_STAT.MODEL_VALID 0 0
  else { d with pat := if d.pat.slot = 0 then { d.pat with slotA := bs } else { d.pat with slotB := bs } }

/-- R249: the active slot of the model store read at start; a group lost or a CRC other than PAT_MODEL_ID leaves no model (DESIGN CHOICE, log 142). -/
def Dev.restoreSlot (d : Dev) : Dev :=
  let a := slotAddr d.pat.slot
  let h := d.nvmRead a 64
  let n := modelBytes h.1.1
  let x := h.2.nvmRead a (min n slotHalf)
  let y := x.2.nvmRead (a + 0x40000) (n - slotHalf)
  y.2.takeSlot (x.1.1 ++ y.1.1) (x.1.2 + y.1.2)

/-- R552: the full delay of a count of failures, in ticks. -/
def lockoutTicks (n : Nat) : Nat := 10000 * 2 ^ (min n 17 - 1)

/-- The failure counter of a region and kind, 0 read, 1 write. -/
def failsFld (kind : Nat) : Fld := if kind = 0 then Reg.NVM_REGION.READ_FAILS else Reg.NVM_REGION.WRITE_FAILS

/-- R552: every region and kind with failures begins its full delay at start. -/
def Dev.restoreLockouts (d : Dev) : Dev :=
  (List.range 16).foldl (fun (y : Dev) j =>
    let n := y.get (failsFld (j % 2)) (j / 2)
    if n = 0 then y else { y with nvm := { y.nvm with locked := Map.set y.nvm.locked j (y.tick + lockoutTicks n + 1) 0 } }) d

/-- What a reset of the core die leaves of the page writes: a running one has committed a leading run of its groups (R544), which run the
spec leaves open, and every waiting one is gone. -/
def Dev.tearWrites (d : Dev) : Dev :=
  let tear := fun (y : Dev) (w : PageWrite) =>
    match w.origin with
    | .model _ => y
    | _ => (y.commitPage w.addr w.bytes (y.freeBits.toNat % ((y.pageGroups w.addr w.bytes).length + 1)) false).nextFree
  let d1 := (d.nvm.writes.filter fun w => w.started).foldl tear d
  { d1 with nvm := { d1.nvm with writes := [], save := none, syncs := [], recOps := [], exporting := none, importing := none, ambiguous := []
                                 kept := [], pointers := [], locked := [], restart := false, incomplete := false, noControl := false }
            retPending := [], storeDue := [], blocks := [] }

end Sys2Proof.Machine
end

