-- ==== Sys2Proof/Machine/NvmOps.lean ====
section
/-! DEFINITION. The NVM descriptors, export and import of retained state (15_retained_state_nvm.md). -/

namespace Sys2Proof.Machine
open Sys2Proof

/-! ### Regions and passwords (R550 to R552) -/

/-- What the device keeps of a password (R550): 24 zero bytes for password 0. -/
def passwordDigest (pw : Nat) : List Nat := if pw = 0 then List.replicate 24 0 else (Config.sha512 (leBytes 8 pw)).take 24

/-- The digest kept for a region and kind, 0 read, 1 write. -/
def Dev.passwordOf (d : Dev) (r k : Nat) : List Nat :=
  let bs := Map.get d.nvm.kept (recPASSWORD r k) []
  if bs.isEmpty then List.replicate 24 0 else bs

/-- Whether a region is open for a kind of access (R550, R551). -/
def Dev.regionOpen (d : Dev) (r k : Nat) : Bool :=
  d.passwordOf r k == List.replicate 24 0
    || bitAt (d.get (if k = 0 then Reg.NVM_LOCK_STAT.READ_OPEN else Reg.NVM_LOCK_STAT.WRITE_OPEN) 0) r

/-- A region opened or closed for a kind of access (R551). -/
def Dev.setOpen (d : Dev) (r k : Nat) (on : Bool) : Dev :=
  let f := if k = 0 then Reg.NVM_LOCK_STAT.READ_OPEN else Reg.NVM_LOCK_STAT.WRITE_OPEN
  let v := d.get f 0
  if bitAt v r == on then d else d.put f 0 (Nat.xor v (2 ^ r))

/-- Whether unlocks of a region and kind are refused now (R552). -/
def Dev.lockedOut (d : Dev) (r k : Nat) : Bool := d.tick + 1 < Map.get d.nvm.locked (2 * r + k) 0

/-- The lockout of a region and kind still to run, in units of 0.1 s rounded up (R552). -/
def Dev.lockLeft (d : Dev) (r k : Nat) : Nat :=
  let e := Map.get d.nvm.locked (2 * r + k) 0
  (e - 1 - d.tick + 9999) / 10000

/-- R551, R552: NVM_UNLOCK. -/
def bodyNvmUnlock (id : Nat) (x : Desc) (d : Dev) : Dev :=
  let r := x.byte 16
  let k := x.byte 17
  if 8 ≤ r || 2 ≤ k then d.fail id .badParam
  else
    let n := d.get (failsFld k) r
    if d.lockedOut r k then d.finish id .locked (n + 2 ^ 32 * d.lockLeft r k)
    else if passwordDigest (x.u64 24) == d.passwordOf r k then ((d.setOpen r k true).putRet (failsFld k) r 0).done id 0
    else
      let m := countUp 31 n
      let t := lockoutTicks m
      let d1 := d.putRet (failsFld k) r m
      (({ d1 with nvm := { d1.nvm with locked := Map.set d1.nvm.locked (2 * r + k) (d1.tick + t + 1) 0 } }.raise 0x0C06 d1.nullName
        ([r, k, m, 0] ++ leBytes 4 (t / 10000)))).finish id .authFailed (m + 2 ^ 32 * (t / 10000))

/-- R551. -/
def execNvmUnlock (q : Nat) (x : Desc) (s : State) : Host.Outcome State Fault Refusal :=
  s.onDev fun d => d.submit q x 0x0C03 [(16, 2), (24, 8)] bodyNvmUnlock

/-- R552: a lockout ends. -/
def execLockoutEnd (r kind : Nat) (s : State) : Host.Outcome State Fault Refusal :=
  s.onDev fun d =>
    if d.live && !d.lockedOut r (kind % 2) then { d with nvm := { d.nvm with locked := Map.set d.nvm.locked (2 * r + kind % 2) 0 0 } } else d

/-- R551: NVM_LOCK. -/
def bodyNvmLock (id : Nat) (x : Desc) (d : Dev) : Dev :=
  if 4 ≤ x.byte 17 then d.fail id .badParam
  else
    let one := fun (y : Dev) (j : Nat) =>
      if bitAt (x.byte 16) (j / 2) && bitAt (x.byte 17) (j % 2) then y.setOpen (j / 2) (j % 2) false else y
    ((List.range 16).foldl one d).done id 0

/-- R551. -/
def execNvmLock (q : Nat) (x : Desc) (s : State) : Host.Outcome State Fault Refusal :=
  s.onDev fun d => d.submit q x 0x0C04 [(16, 2)] bodyNvmLock

/-- R550, R571: NVM_SETPW. -/
def bodyNvmSetpw (id : Nat) (x : Desc) (d : Dev) : Dev :=
  let r := x.byte 16
  if 8 ≤ r || 2 ≤ x.byte 17 then d.fail id .badParam
  else if !d.regionOpen r 1 then d.fail id .locked
  else (d.keep (recPASSWORD r (x.byte 17)) (passwordDigest (x.u64 24))).done id 0

/-- R550. -/
def execNvmSetpw (q : Nat) (x : Desc) (s : State) : Host.Outcome State Fault Refusal :=
  s.onDev fun d => d.submit q x 0x0C05 [(16, 2), (24, 8)] bodyNvmSetpw

/-! ### Reading and writing (R570, R571) -/

/-- Whether `n` bytes from an NVM address on stay within the NVM and outside the save area (R571). -/
def rawRange (a n : Nat) : Bool :=
  decide (a + n ≤ nvmBytes) && (List.range ((a + n + 255) / 256 - a / 256)).all fun j => !inSaveArea (a / 256 * 256 + 256 * j)

/-- R570, R571: NVM_READ. -/
def bodyNvmRead (ups : List (Nat × Nat × Nat)) (id : Nat) (x : Desc) (d : Dev) : Dev :=
  let a := x.u32 16
  let n := x.u16 20
  let w := x.u32 24
  if n = 0 || 4096 < n || !rawRange a n || !imageFits w n then d.fail id .badParam
  else if !d.regionOpen (regionOf a) 0 || !d.regionOpen (regionOf (a + n - 1)) 0 then d.fail id .locked
  else
    let ((bs, bad), d1) := (d.nvmUpset ups).nvmRead a n
    (d1.memWrite (32 * w) bs).finish id (if bad = 0 then .ok else .dataError) (n + 2 ^ 16 * bad)

/-- R570. -/
def execNvmRead (q : Nat) (x : Desc) (ups : List (Nat × Nat × Nat)) (s : State) : Host.Outcome State Fault Refusal :=
  s.onDev fun d => d.submit q x 0x0C01 [(16, 6), (24, 4)] (bodyNvmRead ups)

/-- R570, R571: NVM_WRITE: its bytes are taken now; the page write follows in its turn. -/
def bodyNvmWrite (id : Nat) (x : Desc) (d : Dev) : Dev :=
  let a := x.u32 16
  let n := x.u16 20
  let w := x.u32 24
  if n = 0 || 256 < n || nvmBytes ≤ a || inSaveArea a || !imageFits w n || regionOf a < 6 then d.fail id .badParam
  else if !d.regionOpen (regionOf a) 1 then d.fail id .locked
  else match d.readImage w n with
    | (none, d1) => d1.fail id .dataError
    | (some bs, d1) => d1.askWrite (.host id) a bs

/-- R570. -/
def execNvmWrite (q : Nat) (x : Desc) (s : State) : Host.Outcome State Fault Refusal :=
  s.onDev fun d => d.submit q x 0x0C02 [(16, 6), (24, 4)] bodyNvmWrite

/-! ### Records (R557, R558, R570) -/

/-- R557: NVM_SYNC. -/
def bodyNvmSync (id : Nat) (_ : Desc) (d : Dev) : Dev :=
  let recs := d.retPending
  let blocks := d.storeDue
  if recs.isEmpty && blocks.isEmpty then d.done id 0
  else { d with nvm := { d.nvm with syncs := d.nvm.syncs ++ [{ id := id, recs := recs, blocks := blocks, count := 0 }] } }

/-- R557. -/
def execNvmSync (q : Nat) (x : Desc) (s : State) : Host.Outcome State Fault Refusal :=
  s.onDev fun d => d.submit q x 0x0C06 [] bodyNvmSync

/-- The record index that a 32-bit handle field names, when it names a REC. -/
def Dev.recHandle (d : Dev) (h : Nat) : Option Nat := if d.isHandle clsREC h then some (indexOf h) else none

/-- Operation `id` ends when record `r` has been committed; while an import is pending, when nothing commits, at once with the sequence that stands. -/
def Dev.awaitRecord (d : Dev) (id r : Nat) : Dev :=
  if d.isSet Reg.NVM_STAT.IMPORT_PENDING 0 then
    let (y, d1) := d.readRecord r
    d1.done id y.1.seq
  else Dev.markRec { d with nvm := { d.nvm with recOps := d.nvm.recOps ++ [(id, r)] } } r

/-- R558, R571: REC_CONFIRM. -/
def bodyRecConfirm (id : Nat) (x : Desc) (d : Dev) : Dev :=
  match d.recHandle (x.u32 16) with
  | none => d.fail id .badObject
  | some r =>
    if d.nvm.ambiguous.contains r then d.awaitRecord id r
    else
      let (y, d1) := d.readRecord r
      d1.done id y.1.seq

/-- R558. -/
def execRecConfirm (q : Nat) (x : Desc) (s : State) : Host.Outcome State Fault Refusal :=
  s.onDev fun d => d.submit q x 0x0C07 [(16, 4)] bodyRecConfirm

/-- R570, R571: REC_WRITE. -/
def bodyRecWrite (id : Nat) (x : Desc) (d : Dev) : Dev :=
  let n := x.byte 20
  match d.recHandle (x.u32 16) with
  | none => d.fail id .badObject
  | some r =>
    if r < 3584 then d.fail id .badObject
    else if n = 0 || 24 < n then d.fail id .badParam
    else
      let bs := (List.range n).map fun j => x.byte (24 + j)
      Dev.awaitRecord { d with nvm := { d.nvm with kept := Map.set d.nvm.kept r bs [] } } id r

/-- R570. -/
def execRecWrite (q : Nat) (x : Desc) (s : State) : Host.Outcome State Fault Refusal :=
  s.onDev fun d => d.submit q x 0x0C08 [(16, 5), (24, 24)] bodyRecWrite

/-- R555, R570: REC_READ. -/
def bodyRecRead (ups : List (Nat × Nat × Nat)) (id : Nat) (x : Desc) (d : Dev) : Dev :=
  let w := x.u32 20
  match d.recHandle (x.u32 16) with
  | none => d.fail id .badObject
  | some r =>
    if !imageFits w 32 then d.fail id .badParam
    else
      let (y, d0) := (d.nvmUpset ups).resolveRecord r
      let d1 := if y.winner.isNone then d0.logLost [r] else d0
      let code := if y.winner.isNone then 2 else if y.ambiguous then 3 else if y.written then 0 else 1
      (d1.memWrite (32 * w) ((y.data ++ List.replicate 32 0).take 32)).done id (y.seq + 2 ^ 32 * code + 2 ^ 40 * y.data.length)

/-- R570. -/
def execRecRead (q : Nat) (x : Desc) (ups : List (Nat × Nat × Nat)) (s : State) : Host.Outcome State Fault Refusal :=
  s.onDev fun d => d.submit q x 0x0C09 [(16, 8)] (bodyRecRead ups)

/-! ### Export (R565, R566) -/

/-- GRADE as GLOBAL_GRADE codes it (R55). -/
def Grade.code : Grade → Nat
  | .f => 1 | .s => 2

/-- The records that stay with the silicon: the table Not exported (R565). -/
def keptHere : List Nat :=
  (((List.range 8).map fun c => Reg.CAL_OFS.OFS.addr c) ++ ((List.range 8).map fun c => Reg.CAL_GAIN.GAIN.addr c)
    ++ [Reg.PWR_VCORE.TARGET.addr 0, Reg.PWR_WARN.FIT_LEVEL.addr 0, Reg.PWR_HOLDUP.CAP.addr 0, Reg.NVM_FIT.READ_REF.addr 0]
    ++ ((List.range 8).map fun p => Reg.PORT_EQ.TX_DEEMPH.addr p) ++ [Reg.FIT_LOG_STAT.NEXT.addr 0]).filterMap recordOf

/-- The section of an export (R566). -/
def section_ (kind count : Nat) (body : List Nat) : List Nat :=
  leBytes 2 kind ++ [0, 0] ++ leBytes 4 count ++ leBytes 4 body.length ++ leBytes 4 (crc32c body) ++ body

/-- The winning copies of every written record that is exported, as their 32 bytes. -/
def Dev.exportRecords (d : Dev) : List (List Nat) × Dev :=
  d.touchedRecords.foldl (fun (z : List (List Nat) × Dev) r =>
    let (y, d1) := z.2.readRecord r
    if y.1.written && !keptHere.contains r then (z.1 ++ [recBytes r y.1.seq y.1.data], d1) else (z.1, d1)) ([], d)

/-- Every store block with a matching CRC, its pointer's index before it. -/
def Dev.exportBlocks (d : Dev) : List (List Nat) × Dev :=
  d.nvm.pointers.foldl (fun (z : List (List Nat) × Dev) e =>
    match z.2.readPointed e.1 with
    | (some bs, d1) => (z.1 ++ [leBytes 4 e.1 ++ bs], d1)
    | (none, d1) => (z.1, d1)) ([], d)

/-- The header group of a save image as bytes (R560). -/
def headerBytes (h : SaveHeader) (rest : List Nat) : List Nat :=
  leBytes 8 h.time ++ leBytes 4 h.seq ++ leBytes 4 h.model ++ leBytes 4 (crc32c rest) ++ [h.kind] ++ List.replicate 11 0

/-- The save image as at this moment (R565). -/
def Dev.exportSave (d0 : Dev) : List Nat × Dev :=
  let d := d0.saveSettle
  let rest := memBytes d.mem (d.saveBase + 32) (saveBytes - 32)
  (headerBytes { time := d.tick, seq := d.get Reg.NVM_SAVE_SEQ.SEQ 0, model := d.get Reg.PAT_MODEL_ID.CRC 0, kind := 0 } rest ++ rest, d)

/-- `n` bytes from `a` and then from `b`. -/
def Dev.nvmTwo (d : Dev) (a b n : Nat) : List Nat × Dev :=
  let x := d.nvmRead a n
  let y := x.2.nvmRead b n
  (x.1.1 ++ y.1.1, y.2)

/-- The data of a region, pages 0 to 991 of its two banks. -/
def Dev.exportRegion (d : Dev) (r : Nat) : List Nat × Dev := d.nvmTwo (2 * r * 0x40000) ((2 * r + 1) * 0x40000) slotHalf

/-- The fingerprint of the owner key as SEC_OWNER_FPR holds it (R657). -/
def Dev.ownerFpr (d : Dev) : List Nat :=
  leBytes 4 (d.get Reg.SEC_OWNER_FPR_LO.FPR 0) ++ leBytes 4 (d.get Reg.SEC_OWNER_FPR_HI.FPR 0)

/-- A region exported for a host only. -/
def Dev.exportHost (d : Dev) (host : Bool) (r : Nat) : List Nat × Dev := if host then d.exportRegion r else ([], d)

/-- The payload of an export (R565, R566); `host` with regions 6 and 7. -/
def Dev.exportPayload (d : Dev) (host : Bool) : List Nat × Dev :=
  let x1 := d.exportRecords
  let x2 := x1.2.exportBlocks
  let recs := x1.1
  let blocks := x2.1
  let d2 := x2.2
  let model := if d2.modelValid then (if d2.pat.slot = 0 then d2.pat.slotA else d2.pat.slotB) else []
  let x6 := d2.exportHost host 6
  let x7 := x6.2.exportHost host 7
  let r6 := x6.1
  let r7 := x7.1
  let save := x7.2.exportSave
  let d4 := save.2
  let sections := [section_ 1 recs.length recs.flatten, section_ 2 blocks.length blocks.flatten]
    ++ (if model.isEmpty then [] else [section_ 3 1 model]) ++ [section_ 4 1 save.1]
    ++ (if host then [section_ 5 1 r6, section_ 6 1 r7] else [])
  let header := leBytes 2 1 ++ [d.part.grade.code, d.part.stepping.code, d.bl, d.get Reg.GLOBAL_BLSEL.BL_REQ 0]
    ++ leBytes 2 (d.get Reg.GLOBAL_DEVNUM.DEVNUM 0) ++ leBytes 8 d.tick ++ leBytes 4 (d.get Reg.PAT_MODEL_ID.CRC 0)
    ++ leBytes 4 sections.length ++ d.ownerFpr
  (header ++ sections.flatten, d4)

/-- A payload signed by the identity key in an envelope (R644). -/
def identityEnvelope (kind : Nat) (payload : List Nat) : List Nat :=
  let head := leBytes 2 1 ++ [kind, 3] ++ leBytes 4 payload.length ++ List.replicate 16 0 ++ Config.identityKey
    ++ List.replicate 8 0 ++ Config.sha512 payload
  head ++ Config.identitySign head ++ Config.identityCert ++ payload

/-- R565, R570, R571: NVM_EXPORT begins: what is pending commits first. -/
def bodyNvmExport (id : Nat) (x : Desc) (d : Dev) : Dev :=
  if 2 ≤ x.byte 16 then d.fail id .badParam
  else if d.nvm.exporting.isSome || d.nvm.importing.isSome then d.fail id .refusedBusy
  else if !d.isSet Reg.SEC_STAT.IDENTITY_OK 0 then d.fail id .authFailed
  else { d with nvm := { d.nvm with exporting := some { id := id, recs := d.retPending, blocks := d.storeDue } } }.put
    Reg.NVM_STAT.EXPORTING 0 1

/-- R565. -/
def execNvmExport (q : Nat) (x : Desc) (s : State) : Host.Outcome State Fault Refusal :=
  s.onDev fun d => d.submit q x 0x0C0A [(16, 1), (24, 12)] bodyNvmExport

/-- An export ends. -/
def Dev.endExport (d : Dev) (st : Status) (result : Nat) : Dev :=
  match d.nvm.exporting with
  | none => d
  | some e => ({ d with nvm := { d.nvm with exporting := none } }.put Reg.NVM_STAT.EXPORTING 0 0).finish e.id st result

/-- R565: the image at a tick boundary, once everything pending has committed. -/
def Dev.exportTick (d : Dev) : Dev :=
  match d.nvm.exporting with
  | none => d
  | some e =>
    match d.rec? e.id with
    | none => d
    | some r =>
      if !e.recs.isEmpty || !e.blocks.isEmpty then d
      else
        let (payload, d1) := d.exportPayload (bitAt (r.d.byte 16) 0)
        let image := identityEnvelope 5 payload
        if r.d.u32 32 < image.length then d1.endExport .badParam image.length
        else (d1.bufWrite (r.d.u64 24) image).endExport .ok image.length

/-! ### Import (R567 to R569) -/

/-- One section of a payload: its kind, entry count and body; none when it is malformed (R566). -/
def sectionAt (bs : List Nat) : Option (Nat × Nat × List Nat) :=
  let len := leAt bs 8 4
  let body := slice bs 16 len
  if bs.length < 16 + len || leAt bs 2 2 != 0 || leAt bs 0 2 = 0 || 6 < leAt bs 0 2 || leAt bs 12 4 != crc32c body then none
  else some (leAt bs 0 2, leAt bs 4 4, body)

/-- The `n` sections of a payload after its header; none when one is malformed or bytes are left over. -/
def sectionsOf : Nat → List Nat → Option (List (Nat × Nat × List Nat))
  | 0, bs => if bs.isEmpty then some [] else none
  | n + 1, bs =>
    match sectionAt bs with
    | none => none
    | some x => (sectionsOf n (bs.drop (16 + x.2.2.length))).map fun t => x :: t

/-- The bodies of a section kind. -/
def bodyOf (secs : List (Nat × Nat × List Nat)) (kind : Nat) : Option (List Nat) :=
  (secs.find? fun x => x.1 == kind).map fun x => x.2.2

/-- The records of a section: index, sequence and data; none when a copy is not valid and written (R553). -/
def recordsOf (n : Nat) (bs : List Nat) : Option (List (Nat × Nat × List Nat)) :=
  (List.range n).foldr (fun j acc =>
    let b := slice bs (32 * j) 32
    match acc, recCopy (leAt b 4 2) (some b) with
    | some t, some (seq, true, data) => some ((leAt b 4 2, seq, data) :: t)
    | _, _ => none) (if bs.length = 32 * n then some [] else none)

/-- The store blocks of a section, each with its pointer's index; their lengths and CRCs are those of the pointer records (R554, R566). -/
def blocksOf (recs : List (Nat × Nat × List Nat)) : Nat → List Nat → Option (List (Nat × List Nat))
  | 0, bs => if bs.isEmpty then some [] else none
  | n + 1, bs =>
    let ptr := leAt bs 0 4
    match recs.find? fun r => r.1 == ptr with
    | none => none
    | some r =>
      let len := leAt r.2.2 4 4
      let b := slice bs 4 len
      if bs.length < 4 + len || ptr < 2048 || 3072 ≤ ptr || crc32c b != leAt r.2.2 8 4 then none
      else (blocksOf recs n (bs.drop (4 + len))).map fun t => (ptr, b) :: t

/-- An image parsed (R566): its header, sections, records and store blocks; none when a part is malformed. -/
def parseImage (p : List Nat) :
    Option (List (Nat × Nat × List Nat) × List (Nat × Nat × List Nat) × List (Nat × List Nat)) :=
  if p.length < 32 || leAt p 0 2 != 1 then none
  else match sectionsOf (leAt p 20 4) (p.drop 32) with
    | none => none
    | some secs =>
      let count := fun (k : Nat) => ((secs.find? fun x => x.1 == k).map fun x => x.2.1).getD 0
      match recordsOf (count 1) ((bodyOf secs 1).getD []) with
      | none => none
      | some recs => match blocksOf recs (count 2) ((bodyOf secs 2).getD []) with
        | none => none
        | some blocks =>
          let save := (bodyOf secs 4).getD []
          if !save.isEmpty && (save.length != saveBytes || leAt save 16 4 != crc32c (save.drop 32)) then none
          else some (secs, recs, blocks)

/-- The check code of an import (R567). -/
def Dev.importCode (d : Dev) (image : List Nat) : Nat :=
  let p := payloadOf image
  let e := d.envelopeCode image 5
  let owner := leAt p 24 8
  if e = 1 || e = 2 then 3
  else if e != 0 && !(e = 5 && image.getD 3 0 = 3) then 1
  else if d.get Reg.GLOBAL_SEAL.OWNER_STATE 0 != ownOwned || owner = 0 || leBytes 8 owner != d.ownerFpr then 2
  else if e != 0 then 1
  else if (parseImage p).isNone then 3
  else if p.getD 2 0 = Grade.code .f && d.part.grade == .s then 4
  else 0

/-- The status of an import check code (R567). -/
def importStatus (code : Nat) : Status :=
  match code with
  | 0 => .ok
  | 1 => .authFailed
  | 2 => .locked
  | _ => .badParam

/-- R567, R570, R571: NVM_IMPORT begins its checks on the envelope `data` in host memory. -/
def bodyNvmImport (data : List Nat) (id : Nat) (x : Desc) (d : Dev) : Dev :=
  if 2 ≤ x.byte 16 then d.fail id .badParam
  else if d.nvm.exporting.isSome || d.nvm.importing.isSome then d.fail id .refusedBusy
  else { d with nvm := { d.nvm with importing := some { id := id, image := data.take (x.u32 32), checked := false, begun := false } } }.put
    Reg.NVM_STAT.IMPORTING 0 1

/-- R567. -/
def execNvmImport (q : Nat) (x : Desc) (data : List Nat) (s : State) : Host.Outcome State Fault Refusal :=
  s.onDev fun d => d.submit q x 0x0C0B [(16, 1), (24, 12)] (bodyNvmImport data)

/-- An import ends. -/
def Dev.endImport (d : Dev) (st : Status) (result : Nat) : Dev :=
  match d.nvm.importing with
  | none => d
  | some o => ({ d with nvm := { d.nvm with importing := none } }.put Reg.NVM_STAT.IMPORTING 0 0).finish o.id st result

/-- R567: the checks of an import end. -/
def Dev.importChecked (d : Dev) (id : Nat) (x : Desc) : Dev :=
  match d.nvm.importing with
  | none => d
  | some o =>
    if o.id != id || o.checked || d.dip then d
    else
      let code := if o.image.length != x.u32 32 then 3 else d.importCode o.image
      if code != 0 then (if code = 1 then d.imageRefused 5 (d.envelopeCode o.image 5) 0x0C0B else d).endImport (importStatus code) code
      else { d with nvm := { d.nvm with importing := some { o with checked := true } } }

/-- One record written into both copies, B first and then A, each with the winning sequence plus 1 (R567 step 2); no data: written blank. -/
def Dev.importRecord (d : Dev) (r : Nat) (data : Option (List Nat)) : Dev :=
  let (y, d1) := d.readRecord r
  let seq := if y.1.written then (y.1.seq + 1) % 2 ^ 32 else 1
  let bs := match data with
    | some b => recBytes r seq b
    | none => List.replicate 32 0
  let put := fun (z : Dev) (c : Nat) => z.setGroup (recGroup r c) ((z.group (recGroup r c)).write bs)
  put (put d1 1) 0

/-- The save image of an import written as a save of kind 2 (R567 step 4). -/
def Dev.importSave (d : Dev) (save : List Nat) : Dev :=
  if save.isEmpty then d
  else
    let k := 1 - d.get Reg.NVM_STAT.SAVE_AREA 0
    let seq := (d.get Reg.NVM_SAVE_SEQ.SEQ 0 + 1) % 2 ^ 32
    let cell := fun (e : Nat × Nat) => if e.1 = 0 then none else some ((e.2 + 32, BitVec.ofNat 8 e.1) : Host.Cell)
    let cells := (((save.drop 32).zip (List.range (saveBytes - 32))).filterMap cell)
    let h : SaveHeader := { time := leAt save 0 8, seq := seq, model := leAt save 12 4, kind := 2 }
    (((d.writeArea k h cells).put Reg.NVM_STAT.SAVE_AREA 0 k).put
      Reg.NVM_SAVE_SEQ.SEQ 0 seq).put Reg.NVM_SAVE_TICK.TICK 0 h.time

/-- A store block of an import in free pages, its pointer in both copies (R567 step 3). -/
def Dev.importBlock (d : Dev) (e : Nat × List Nat) : Dev :=
  let p := if e.2.isEmpty then 0 else d.freePages (pagesOf e.2.length)
  let a := if e.2.isEmpty then 0 else storeAddr p
  let d1 := (d.putStore p e.2).importRecord e.1 (some (leBytes 4 a ++ leBytes 4 e.2.length ++ leBytes 4 (crc32c e.2)))
  { d1 with nvm := { d1.nvm with pointers := Map.insert d1.nvm.pointers e.1 (a, e.2.length) } }

/-- R567: what a checked import writes; the import-state record stands as done at its end. -/
def Dev.runImport (d : Dev) (p : List Nat) : Dev :=
  match parseImage p with
  | none => d
  | some (secs, recs, blocks) =>
    let d1 := { d with retPending := [], storeDue := [] }.put Reg.NVM_STAT.IMPORT_PENDING 0 1
    let mine := fun (r : Nat) => keptHere.contains r || r == recIMPORT
    let gone := (d1.touchedRecords.filter fun r => !mine r && !recs.any fun e => e.1 == r)
    let d2 := gone.foldl (fun (y : Dev) r => y.importRecord r none) d1
    let plain := recs.filter fun e => !mine e.1 && !(2048 ≤ e.1 && e.1 < 3072)
    let d3 := plain.foldl (fun (y : Dev) e => y.importRecord e.1 (some e.2.2)) d2
    let d4 := blocks.foldl (fun (y : Dev) e => y.importBlock e) d3
    let slot := ((recs.find? fun e => e.1 == recSLOT).map fun e => e.2.2.getD 0 0 % 2).getD 0
    let d5 := match bodyOf secs 3 with
      | some bs => d4.putSlot slot bs
      | none => d4
    let d6 := d5.importSave ((bodyOf secs 4).getD [])
    let half := fun (y : Dev) (r : Nat) (k : Nat) => match bodyOf secs k with
      | some bs => (y.nvmPut (2 * r * 0x40000) (bs.take slotHalf)).nvmPut ((2 * r + 1) * 0x40000) (bs.drop slotHalf)
      | none => y
    (half (half d6 6 5) 7 6).importRecord recIMPORT (some ([2] ++ leBytes 2 (leAt p 6 2)))

/-- R567, R568, R572: a checked import writes and completes, at a tick boundary outside a warning. With RESTART the core die is to be reset. -/
def Dev.importTick (d : Dev) : Dev :=
  match d.nvm.importing with
  | none => d
  | some o =>
    match d.rec? o.id with
    | none => d
    | some r =>
      if !d.writesOpen then d
      else
        let d1 := (d.runImport (payloadOf o.image)).endImport .ok 0
        { d1 with nvm := { d1.nvm with incomplete := false, restart := bitAt (r.d.byte 16) 0 } }

/-- A checked import begins to write: the import-state record stands as in progress (R567 step 1), and a checkpoint under way ends (R568). -/
def Dev.beginImport (d : Dev) (o : ImportOp) : Dev :=
  let d1 := { d.dropCheckpoint with nvm := { d.dropCheckpoint.nvm with importing := some { o with begun := true } } }
  (d1.put Reg.NVM_STAT.IMPORT_PENDING 0 1).importRecord recIMPORT (some ([1] ++ leBytes 2 (leAt (payloadOf o.image) 6 2)))

/-- An import at a tick boundary: it begins once checked, and writes at the next (R567). -/
def Dev.importStep (d : Dev) : Dev :=
  match d.nvm.importing with
  | none => d
  | some o => if o.begun then d.importTick else if o.checked && d.writesOpen then d.beginImport o else d

/-- What the NVM does at a tick boundary. -/
def Dev.nvmTick (d : Dev) : Dev := d.exportTick.importStep.checkpointTick.kickWrites

/-- R569: what start finds in the import-state record. -/
def Dev.restoreImport (d : Dev) : Dev :=
  let bs := Map.get d.nvm.kept recIMPORT []
  if bs.getD 0 0 = 1 then { d with nvm := { d.nvm with incomplete := true, noControl := true } }.raise 0x0C07 d.nullName (leBytes 2 (leAt bs 1 2))
  else d

/-! ### Abort and warning (R572, R573) -/

/-- R573: an NVM_WRITE that runs stops after the group step in progress; how many groups have committed the spec leaves open. -/
def Dev.abortWrite (d : Dev) (id : Nat) (r : Rec) : Dev :=
  match d.nvm.writes.find? fun w => w.origin == .host r.id with
  | none => d.fail id .nothingToAbort
  | some w =>
    let d1 := d.dropWrite w
    if !w.started then ((d1.fail r.id .aborted).done id 0).kickWrites
    else
      let total := (d1.pageGroups w.addr w.bytes).length
      let n := d1.freeBits.toNat % total
      (((d1.nextFree.commitPage w.addr w.bytes n false).finish r.id .aborted n).done id 0).kickWrites

/-- The target of an NVM_ABORT settled (R573). -/
def settleNvm (id : Nat) (r : Rec) (d : Dev) : Dev :=
  match r.d.u16 0 with
  | 0x0C02 => d.abortWrite id r
  | 0x0C0A => if (d.nvm.exporting.map fun e => e.id) = some r.id then (d.endExport .aborted 0).done id 0 else d.fail id .nothingToAbort
  | _ => match d.nvm.importing with
    | some o => if o.id = r.id && !o.checked then (d.endImport .aborted 0).done id 0 else d.fail id .nothingToAbort
    | none => d.fail id .nothingToAbort

/-- R573: NVM_ABORT. -/
def bodyNvmAbort (id : Nat) (x : Desc) (d : Dev) : Dev :=
  if 64 ≤ x.u16 20 then d.fail id .badParam
  else d.abortDesc id (x.u16 20) (x.u32 16) [0x0C02, 0x0C0A, 0x0C0B] settleNvm

/-- R573. -/
def execNvmAbort (q : Nat) (x : Desc) (s : State) : Host.Outcome State Fault Refusal :=
  s.onDev fun d => d.submit q x 0x0C0C [(16, 6)] bodyNvmAbort

/-- R572: PFW_N falls: an export in progress ends ABORTED. -/
def Dev.nvmDip (d : Dev) : Dev := d.endExport .aborted 0

/-! ### Registers (R575) -/

/-- A write of NVM_CLR (R575). -/
def Dev.writeNvmClr (d : Dev) (v : Nat) : Dev :=
  if bitAt v 0 then
    (List.range 16).foldl (fun (y : Dev) b => (y.put Reg.NVM_BANK.CORRECTED b 0).put Reg.NVM_BANK.UNCORRECTABLE b 0) d
  else d

/-- NVM_RECQ_RES for the offset in NVM_RECQ: RECORD with VALID, PENDING, AMBIGUOUS and FACTORY (R554, R575). -/
def Dev.recqResult (d : Dev) : Nat :=
  match recordOf (d.get Reg.NVM_RECQ.OFFSET 0) with
  | none => 0
  | some r =>
    let (y, _) := d.readRecord r
    r % 4096 + 2 ^ 16 + (if d.retPending.contains r then 2 ^ 17 else 0) + (if d.nvm.ambiguous.contains r then 2 ^ 18 else 0)
      + (if y.1.written then 0 else 2 ^ 19)

/-- NVM_REGION.LOCK_LEFT of region `r` (R575). -/
def Dev.lockLeftView (d : Dev) (r : Nat) : Nat := (max (d.lockLeft r 0) (d.lockLeft r 1) + 9) / 10

/-- NVM_LOCK_STAT.LOCKED_OUT (R575). -/
def Dev.lockedOutView (d : Dev) : Nat :=
  ((List.range 8).map fun r =>
    if d.lockedOut r 0 || d.lockedOut r 1 then 2 ^ r else 0).foldl (· + ·) 0

end Sys2Proof.Machine
end

