-- ==== Sys2Proof/Machine/Fit.lean ====
section
/-! DEFINITION. Fitting: passes, margins and forecasts, re-planned settings, the fitting log (18_fitting.md). -/

namespace Sys2Proof.Machine
open Sys2Proof

/-! ### Arithmetic -/

/-- A margin of R633: linear between the points where it is 100 % and 0 %, rounded down and held within 0 to 100. -/
def marginOf (x at100 at0 : Int) : Nat :=
  let n := 100 * (x - at0)
  let m := at100 - at0
  (clampInt 0 100 (if 0 < m then n / m else (-n) / (-m))).toNat

/-- The quotient `a / b` as its deviation from 1 in parts per million, with its sign. -/
def ppm (a b : Nat) : Int := if b = 0 then 0 else roundDiv (1000000 * ((a : Int) - b)) b

/-- Whether V_req of R526 for C in µF and ESR in mΩ is at most `mv`: sqrt(81 V² + 18 mJ / C) + ESR × 1.5 W / 9 V. -/
def vReqAtMost (c esr mv : Nat) : Bool :=
  esr ≤ 6 * mv && 36 * (81000000 * c + 18000000000) ≤ (6 * mv - esr) * (6 * mv - esr) * c

/-- V_req rounded up to 0.1 V, held at 20.0 V (R526). -/
def vReqLevel (c esr : Nat) : Nat := ((List.range 201).find? fun n => vReqAtMost c esr (100 * n)).getD 200

/-- Margin entry 9 (R633): the largest whole per cent that V_req still allows between 12.0 and 20.0 V. -/
def vReqMargin (c esr : Nat) : Nat :=
  ((List.range 101).reverse.find? fun m => vReqAtMost c esr (20000 - 80 * m)).getD 0

/-- Ticks of one day. -/
def dayTicks : Nat := 8640000000

/-- The forecast of R634 for the valid passes of an entry, newest first: 0xFFFF for none. -/
def forecastOf (h : List (Nat × Nat)) : Nat :=
  let l := h.take 8
  let n : Int := l.length
  let st : Int := (l.map fun p => (p.1 : Int)).sum
  let sm : Int := (l.map fun p => (p.2 : Int)).sum
  let stm : Int := (l.map fun p => (p.1 : Int) * p.2).sum
  let stt : Int := (l.map fun p => (p.1 : Int) * p.1).sum
  let num := n * stm - st * sm
  let den := n * stt - st * st
  match l with
  | [] => 0xFFFF
  | (_, m) :: _ =>
    if l.length < 4 || den ≤ 0 || 0 ≤ num then 0xFFFF
    else min 65534 (((m : Int) * den) / ((-num) * (dayTicks : Int))).toNat

/-! ### Passes (R626 to R628) -/

/-- The setting bits that a pass may change (R629). -/
def Dev.fitFree (d : Dev) (bit : Nat) : Bool := !bitAt (d.get Reg.FIT_CFG.LOCK_MASK 0) bit

/-- FIT_STAT as the pass goes (R641). -/
def Dev.fitStep (d : Dev) (n : Nat) : Dev :=
  (d.put Reg.FIT_STAT.STEP 0 n).put Reg.FIT_STAT.ACTIVE 0 (if n = 0 then 0 else 1)

/-- Whether a pass runs. -/
def Dev.fitting (d : Dev) : Bool := d.isSet Reg.FIT_STAT.ACTIVE 0

/-- PMBus in fault is tried again, from CLEAR_FAULTS on (R537). -/
def Dev.pmbusRetryAll (d : Dev) : Dev :=
  if d.power.pmbusFault != 0 && d.isSet Reg.PWR_PMBUS.EN 0 then { d with power := { d.power with pmbusTrying := true } }.emit (.pmbus 0x03 0) else d

/-- A fan's speed per command, in 2^-16 rpm per 0.01 %, while it runs at 30 to 100 % with a tachometer (R633). -/
def Dev.fanRatio (d : Dev) (f : Nat) : Option Nat :=
  let c := d.sent (handle clsFAN f)
  let w := VW.ofBits (d.get Reg.FAN_VAL.VALUE f)
  if d.get Reg.FAN_STAT.STATE f = 2 && d.isSet Reg.FAN_CFG.TACH f && 3000 ≤ c && w.has stVALID then some (roundDiv w.val c).toNat else none

/-- What the pass takes at its start (R627 step 1). -/
def Dev.fitSnap (d : Dev) : FitSnap :=
  { coils := d.fit.coils, spins := d.fit.spins
    fans := (List.range (d.classCount clsFAN)).filterMap fun f => (d.fanRatio f).map fun v => (f, v)
    gains := (List.range (if d.part.grade == .f then 8 else 4)).map fun c => d.get Reg.CAL_GAIN.GAIN c
    updates := d.get Reg.PANEL_COUNT.UPDATES 0
    duty := ([Reg.PANEL_BOOST.DUTY_VGH, Reg.PANEL_BOOST.DUTY_VGL, Reg.PANEL_BOOST.DUTY_VSH, Reg.PANEL_BOOST.DUTY_VSL].map
      fun f => d.get f 0).foldl max 0 }

/-- What is measured from now on belongs to the next pass; a kick that runs goes on. -/
def Dev.fitForget (d : Dev) : Dev :=
  { d with fit := { d.fit with coils := [], spins := (d.fit.spins.filter fun e => e.2.since.isSome).map fun e => (e.1, { e.2 with longest := 0, kicks := 0 }) } }

/-- What a pass took is measured for the next one again where the pass came to nothing. -/
def Dev.fitGiveBack (d : Dev) : Dev :=
  let none_ : FitSpin := { since := none, longest := 0, kicks := 0 }
  let coils := d.fit.snap.coils.foldl (fun m e => if m.any (fun x => x.1 == e.1) then m else Map.insert m e.1 e.2) d.fit.coils
  let spins := d.fit.snap.spins.foldl (fun m e =>
    let x := Map.get m e.1 none_
    Map.set m e.1 { x with longest := max x.longest e.2.longest, kicks := x.kicks + e.2.kicks } none_) d.fit.spins
  { d with fit := { d.fit with coils := coils, spins := spins } }

/-- A pass starts, on behalf of a FIT_RUN or of none (R626). -/
def Dev.fitStart (d0 : Dev) (desc : Option Nat) : Dev :=
  let d1 := d0.pmbusRetryAll
  let d := Dev.fitForget { d1 with fit := { d1.fit with snap := d1.fitSnap } }
  ({ d with fit := { d.fit with desc := desc, start := d.tick, sense := none, holdup := none, window := false, skipped := false
                                changes := [], margins := [], forecasts := [], worst := [], rerun := false } }.fitStep 1).put
    Reg.FIT_NEXT.TICK 0 (d.tick + 360000000 * d.get Reg.FIT_CFG.INTERVAL 0)

/-- A pass ends without effect: abandoned, or aborted (R636, R638). -/
def Dev.fitDrop (d0 : Dev) : Dev :=
  let d := d0.fitGiveBack
  Dev.fitStep { d with fit := { d.fit with desc := none, sense := none, window := false, changes := [] } } 0

/-- The pass's entries of the fitting log not yet committed are gone; those of the time before it stay (R630). -/
def Dev.dropLog (d : Dev) : Dev :=
  let pass := (d.get Reg.FIT_PASS.COUNT 0 + 1) % 2 ^ 32
  let log := d.fit.log.filter fun e => leAt e 8 4 != pass
  let writes := d.nvm.writes.filter fun w => w.origin != .log || leAt w.bytes 8 4 != pass
  { d with fit := { d.fit with log := log }, nvm := { d.nvm with writes := writes } }

/-- R626: the interval has elapsed, or step 10 of start has come. -/
def execFitPassStart (s : State) : Host.Outcome State Fault Refusal :=
  s.onDev fun d => if d.controlling && !d.fitting && d.get Reg.FIT_NEXT.TICK 0 ≤ d.tick then d.fitStart none else d

/-- R636: 60 s after the warning an abandoned pass runs again. -/
def execFitRerun (s : State) : Host.Outcome State Fault Refusal :=
  s.onDev fun d =>
    if d.controlling && !d.fitting && d.fit.rerun && d.fit.rerunAt + 6000000 ≤ d.tick then d.fitStart none else d

/-- The lowest of path margins, with its monitor (R641). -/
def lowestPath (ps : List Nat) : Nat × Nat :=
  let m := ps.foldl min 100
  (m, (ps.findIdx? (· == m)).getD 0)

/-- FIT_PATH from readings of the monitors. -/
def Dev.showPaths (d : Dev) (ps : List Nat) : Dev :=
  let p := lowestPath ps
  ((d.put Reg.FIT_PATH.LOWEST 0 p.1).put Reg.FIT_PATH.MONITOR 0 p.2).put Reg.FIT_PATH.MEAN 0
    (if ps.isEmpty then 0 else (roundDiv ps.sum ps.length).toNat)

/-- R627: the measurements of steps 2 to 4 are there; averages are taken over 1 s. -/
def execFitMeasurementDone (m : FitSense) (s : State) : Host.Outcome State Fault Refusal :=
  s.onDev fun d =>
    if d.controlling && d.get Reg.FIT_STAT.STEP 0 = 1 && d.fit.start + 100000 ≤ d.tick then
      (Dev.showPaths { d with fit := { d.fit with sense := some m, stepAt := d.tick } } m.paths).fitStep 2
    else d

/-- R628: the hold-up measurement begins. -/
def execHoldupStart (s : State) : Host.Outcome State Fault Refusal :=
  s.onDev fun d =>
    if d.controlling && d.get Reg.FIT_STAT.STEP 0 = 2 && !d.fit.window && !d.isSet Reg.NVM_STAT.BUSY 0
        && 100 * d.get Reg.PWR_WARN.EFFECTIVE 0 + 2000 ≤ d.get Reg.PWR_VOLT.VL24 0 then
      { d with fit := { d.fit with window := true, windowAt := d.tick } }
    else d

/-! ### Decision (R526, R629, R631 to R635) -/

/-- An entry of the fitting log (R635). -/
def logEntry (time pass kind what index old new third : Nat) : List Nat :=
  leBytes 8 time ++ leBytes 4 pass ++ [kind, what] ++ leBytes 2 index ++ leBytes 4 old ++ leBytes 4 new ++ leBytes 4 third ++ [0, 0, 0, 0]

/-- The baseline of a quantity of margin entry `e` for object `i`: none before the first valid measurement (R631). -/
def Dev.baseOf (d : Dev) (e i : Nat) : Option Nat :=
  match Map.get d.fit.base (e * 2 ^ 16 + i) 0 with
  | 0 => none
  | n + 1 => some n

/-- A measurement becomes the baseline when there is none or a new one is asked for; it is logged (R631, R635). -/
def Dev.takeBase (d : Dev) (e i v : Nat) : Dev :=
  if (d.baseOf e i).isSome && !bitAt d.fit.newBase e then d
  else
    { d with fit := { d.fit with base := Map.set d.fit.base (e * 2 ^ 16 + i) (v + 1) 0
                                 log := d.fit.log ++ [logEntry d.tick (d.get Reg.FIT_PASS.COUNT 0 + 1) 4 e i 0 v 0] } }

/-- R_NOW of a coil in units of 10 mΩ (R641). -/
def Dev.coilNow (d : Dev) (c : Nat) : Nat := min 0xFFFF ((Map.get d.fit.snap.coils c 0 + 5) / 10)

/-- A measured coil takes its R_COMM when it has none or a new one is asked for (R631, R632). -/
def Dev.coilBase (d : Dev) (c : Nat) : Dev :=
  let now := d.coilNow c
  let tmax := d.get Reg.SOL_TTP.TMAX c
  let comm := d.get Reg.SOL_TTP_COMM.TMAX_COMM c
  let moved := tmax != comm || d.get Reg.SOL_TTP.TMIN c != d.get Reg.SOL_TTP_COMM.TMIN_COMM c
  let v := if moved && 0 < tmax && 0 < comm then min 0xFFFF (roundDiv (now * comm) tmax).toNat else now
  let d1 := d.put Reg.FIT_COIL.R_NOW c now
  if d.get Reg.FIT_COIL.R_COMM c != 0 && !bitAt d.fit.newBase 4 then d1
  else
    { d1.putRet Reg.FIT_COIL.R_COMM c v with fit := { d.fit with log := d.fit.log
        ++ [logEntry d.tick (d.get Reg.FIT_PASS.COUNT 0 + 1) 4 4 c (d.get Reg.FIT_COIL.R_COMM c) v 0] } }

/-- Baselines of this pass (R631); named entries begin their history anew. -/
def Dev.fitBaselines (d : Dev) (m : FitSense) : Dev :=
  let d1 := d.fit.snap.coils.foldl (fun (y : Dev) c => y.coilBase c.1) d
  let d2 := if m.refs = 0 then d1 else d1.takeBase 2 0 m.refs
  let d3 := d.fit.snap.fans.foldl (fun (y : Dev) e => y.takeBase 5 e.1 e.2) d2
  let d4 := (d.fit.snap.gains.zip (List.range 8)).foldl (fun (y : Dev) e => y.takeBase 6 e.2 e.1) d3
  let d5 := match d4.fit.holdup with
    | some h => (d4.takeBase 9 0 h.1).takeBase 9 1 h.2
    | none => d4
  let anew := (List.range 10).filter fun e => bitAt d.fit.newBase e
  { d5 with fit := { d5.fit with hist := anew.foldl (fun h e => Map.erase h e) d5.fit.hist } }

/-- The worst of values by a measure, with its object. -/
def worstOf (l : List (Nat × Int)) : Option (Nat × Int) :=
  l.foldl (fun acc p => match acc with
    | none => some p
    | some q => if q.2 < p.2 then some p else acc) none

/-- The margin of an entry with the object of its worst instance; none when it was not measured (R633, R636). -/
def Dev.fitMargin (d : Dev) (m : FitSense) (e : Nat) : Option (Nat × Nat) :=
  let plain := fun (v : Nat) => some (v, 0xFFFF)
  match e with
  | 0 => plain (marginOf (d.get Reg.PWR_VCORE.TARGET 0) 720 900)
  | 1 => if m.nvmTotal = 0 then none else plain (marginOf (1000 * m.nvmBad : Nat) 0 (50 * m.nvmTotal : Nat))
  | 2 => match d.baseOf 2 0 with
    | some b => if m.refs = 0 then none else plain (marginOf (ppm m.refs b).natAbs 0 500)
    | none => none
  | 3 =>
    if d.fit.snap.updates = d.fit.panelCount then none else plain (marginOf d.fit.snap.duty 80 190)
  | 4 =>
    let coils := (d.fit.snap.coils.map fun c => c.1).filter fun c => d.get Reg.FIT_COIL.R_COMM c != 0
    let one := fun (c : Nat) =>
      let rc : Int := d.get Reg.FIT_COIL.R_COMM c
      (c, -(marginOf (100 * ((d.coilNow c : Int) - rc).natAbs : Nat) 0 (15 * rc) : Int))
    (worstOf (coils.map one)).map fun p => ((-p.2).toNat, p.1)
  | 5 =>
    let one := fun (e : Nat × Nat) => match d.baseOf 5 e.1 with
      | some b => if b = 0 then none else some (e.1, -(marginOf (100 * ((b : Int) - e.2)) 0 (30 * b : Nat) : Int))
      | none => none
    (worstOf (d.fit.snap.fans.filterMap one)).map fun p => ((-p.2).toNat, p.1)
  | 6 =>
    let one := fun (e : Nat × Nat) => (d.baseOf 6 e.2).map fun b => (e.2, -(marginOf (ppm e.1 b).natAbs 0 2000 : Int))
    (worstOf ((d.fit.snap.gains.zip (List.range 8)).filterMap one)).map fun p => ((-p.2).toNat, 0xFFFF)
  | 7 => if m.eyes.isEmpty then none else plain (marginOf (m.eyes.foldl min 100 : Nat) 60 15)
  | 8 => (worstOf (m.seams.map fun q => (q.1, -(marginOf q.2.1 60 15 : Int)))).map fun p => ((-p.2).toNat, p.1)
  | _ => d.fit.holdup.map fun h => (vReqMargin h.1 h.2, 0xFFFF)

/-- R629 bit 0: the VCORE target. -/
def Dev.planVcore (d : Dev) (l : Nat) : Nat :=
  let t := d.get Reg.PWR_VCORE.TARGET 0
  let hi := d.get Reg.FIT_CFG2.PATH_HI 0
  if !d.isSet Reg.PWR_STAT.PMBUS_OK 0 || !d.isSet Reg.PWR_PMBUS.EN 0 then t
  else if l < d.get Reg.FIT_CFG2.PATH_LO 0 then min 900 (t + 10)
  else if hi < l && 2 ≤ d.fit.paths.length && (d.fit.paths.take 2).all (fun p => hi < p) then max 720 (t - 5)
  else t

/-- R629 bit 1: the read reference. -/
def Dev.planRef (d : Dev) (m : FitSense) : Nat :=
  let r := d.get Reg.NVM_FIT.READ_REF 0
  if m.nvmHi + 4 < m.nvmLo then min 0xA0 (r + 1)
  else if m.nvmLo + 4 < m.nvmHi then max 0x60 (r - 1)
  else r

/-- R629 bit 2: the refresh interval; `zeros` passes in a row, this one among them, had f of 0. -/
def Dev.planRefresh (d : Dev) (m : FitSense) (zeros : Nat) : Nat :=
  let n := d.get Reg.NVM_FIT.REFRESH_INT 0
  if m.nvmTotal = 0 then n
  else if m.nvmTotal < 100 * m.nvmBad then max 1 (n / 2)
  else if 30 ≤ zeros then min 1000 (n * 5 / 4)
  else n

/-- The largest change of a converter's gain between two passes, in ppm. -/
def gainMoved (a b : List Int) : Nat := ((a.zip b).map fun p => (p.1 - p.2).natAbs).foldl max 0

/-- R629 bit 3: the calibration interval from (start, drift, gain of each converter) of the latest passes, newest first. -/
def Dev.planRecal (d : Dev) (rates : List (Nat × Int × List Int)) : Nat :=
  match rates.head?, (rates.take 8).getLast? with
  | some a, some b =>
    let dt := a.1 - b.1
    let r := max (a.2.1 - b.2.1).natAbs (gainMoved a.2.2 b.2.2)
    if dt = 0 then d.get Reg.MEAS_CFG.RECAL_INT 0
    else if r = 0 then 720
    else max 24 (min 720 (50 * dt / (r * 360000000)))
  | _, _ => d.get Reg.MEAS_CFG.RECAL_INT 0

/-- R629 bit 4: the window of a coil measured since the previous pass, TMIN and TMAX. -/
def Dev.planTtp (d : Dev) (c : Nat) : Option (Nat × Nat) :=
  let rc := d.get Reg.FIT_COIL.R_COMM c
  let tmax := d.get Reg.SOL_TTP_COMM.TMAX_COMM c
  if rc = 0 || tmax = 0 then none
  else
    let now := d.coilNow c
    let num := if 100 * now < 85 * rc then 85 * rc else if 115 * rc < 100 * now then 115 * rc else 100 * now
    let scale := fun (t : Nat) => min 0xFFFF (roundDiv (t * num) (100 * rc)).toNat
    some (scale (d.get Reg.SOL_TTP_COMM.TMIN_COMM c), scale tmax)

/-- R629 bit 5: the kick time of a fan. -/
def Dev.planKick (d : Dev) (f : Nat) : Option Nat :=
  let x := Map.get d.fit.snap.spins f { since := none, longest := 0, kicks := 0 }
  if x.kicks < 3 then none else some (max 5 (min 100 ((2 * x.longest + 9999) / 10000)))

/-- R629 bit 7: the receiver code of a port from its eye margins here, above and below. -/
def Dev.planEye (d : Dev) (q : Nat × Nat × Nat × Nat) : Nat :=
  let code := d.get Reg.PORT_EQ.RX_CTLE q.1
  if !d.isSet Reg.PORT_CFG.EQ_AUTO q.1 then code
  else if q.2.1 + 5 ≤ q.2.2.1 && q.2.2.2 ≤ q.2.2.1 && code < 15 then code + 1
  else if q.2.1 + 5 ≤ q.2.2.2 && 0 < code then code - 1
  else code

/-- A change where the new value differs. -/
def changeOf (bit index old new : Nat) : List FitChange :=
  if old = new then [] else [{ bit := bit, index := index, old := old, new := new }]

/-- The changes of a pass (R526, R629): TMIN and TMAX of a coil as one change, TMIN in the low half. -/
def Dev.fitChanges (d : Dev) (m : FitSense) (zeros : Nat) (rates : List (Nat × Int × List Int)) : List FitChange :=
  let ttp := fun (c : Nat) => match d.planTtp c with
    | some (a, b) => changeOf 4 c (d.get Reg.SOL_TTP.TMIN c + 2 ^ 16 * d.get Reg.SOL_TTP.TMAX c) (a + 2 ^ 16 * b)
    | none => []
  let kick := fun (f : Nat) => match d.planKick f with
    | some n => changeOf 5 f (d.get Reg.FAN_TIMING.KICK_TIME f) n
    | none => []
  let level := match d.fit.holdup with
    | none => []
    | some h =>
      let old := d.get Reg.PWR_WARN.FIT_LEVEL 0
      let v := vReqLevel h.1 h.2
      changeOf 6 0xFFFF old (if bitAt d.fit.newBase 9 then v else max old v)
  let all := changeOf 0 0xFFFF (d.get Reg.PWR_VCORE.TARGET 0) (d.planVcore (lowestPath m.paths).1)
    ++ changeOf 1 0xFFFF (d.get Reg.NVM_FIT.READ_REF 0) (d.planRef m)
    ++ changeOf 2 0xFFFF (d.get Reg.NVM_FIT.REFRESH_INT 0) (d.planRefresh m zeros)
    ++ changeOf 3 0xFFFF (d.get Reg.MEAS_CFG.RECAL_INT 0) (d.planRecal rates)
    ++ (d.fit.snap.coils.map fun c => c.1).flatMap ttp ++ (List.range (d.classCount clsFAN)).flatMap kick ++ level
    ++ m.seams.flatMap fun q => changeOf 7 q.1 (d.get Reg.PORT_EQ.RX_CTLE q.1) (d.planEye q)
  all.filter fun c => d.fitFree c.bit

/-- Steps 6 and 7 of a pass (R627, R633 to R635): margins, forecasts and changes decided, and the log entries asked for. -/
def Dev.fitDecide (d : Dev) : Dev :=
  match d.fit.sense with
  | none => d
  | some m =>
    let d1 := d.fitBaselines m
    let es := List.range 10
    let ms := es.filterMap fun e => (d1.fitMargin m e).map fun v => (e, v)
    let step := fun (h : Map (List (Nat × Nat))) (p : Nat × Nat × Nat) => Map.insert h p.1 (((d.fit.start, p.2.1) :: Map.get h p.1 []).take 8)
    let hist := ms.foldl step d1.fit.hist
    let fc := es.map fun e => (e, forecastOf (Map.get hist e []))
    let zeros := if m.nvmTotal = 0 then d.fit.zeroRun else if m.nvmBad = 0 then d.fit.zeroRun + 1 else 0
    let drift := match d1.baseOf 2 0 with
      | some b => ppm m.refs b
      | none => 0
    let gain := (d.fit.snap.gains.zip (List.range 8)).map fun e => ppm e.1 ((d1.baseOf 6 e.2).getD 0)
    let rates := ((d.fit.start, drift, gain) :: d1.fit.rates).take 8
    let changes := d1.fitChanges m zeros rates
    let pass := d.get Reg.FIT_PASS.COUNT 0 + 1
    let mg := fun (e : Nat) => ((ms.find? fun p => p.1 == e).map fun p => p.2.1).getD 0
    let warned := ms.filter fun p => p.2.1 == 0 || decide (((fc.find? fun q => q.1 == p.1).map fun q => q.2).getD 0xFFFF < d.get Reg.FIT_CFG.FORECAST_DAYS 0)
    let logs := changes.map (fun c => logEntry d.tick pass 1 c.bit c.index c.old c.new 0)
      ++ [logEntry d.tick pass 2 0 0xFFFF (ofLeBytes [mg 0, mg 1, mg 2, mg 3]) (ofLeBytes [mg 4, mg 5, mg 6, mg 7]) (ofLeBytes [mg 8, mg 9])]
      ++ warned.map fun p => logEntry d.tick pass 3 p.1 p.2.2 0 0 (Map.get fc p.1 0xFFFF)
    let f := { d1.fit with changes := changes, margins := ms.map (fun p => (p.1, p.2.1)), forecasts := fc, worst := ms.map (fun p => (p.1, p.2.2))
                           log := d1.fit.log ++ logs, hist := hist, newBase := 0, zeroRun := if 30 ≤ zeros then 0 else zeros
                           paths := ((lowestPath m.paths).1 :: d1.fit.paths).take 2, rates := rates, panelCount := d.fit.snap.updates }
    (Dev.fitStep { d1 with fit := f } 3).kickLog

/-- R628: the window ends with the current in mA, the fall of VHOLD in mV, and the step of VHOLD under the 100 mA pulse in mV. -/
def execHoldupWindowEnd (i dv step : Nat) (s : State) : Host.Outcome State Fault Refusal :=
  s.onDev fun d =>
    if !(d.controlling && d.fit.window && d.fit.windowAt + 50 ≤ d.tick) then d
    else
      let d1 := { d with fit := { d.fit with window := false } }
      if dv = 0 then d1
      else
        let c := min 0xFFFF (roundDiv (500 * i : Nat) dv).toNat
        let esr := min 0xFFFF (10 * step)
        if c = 0 then d1
        else
          let d2 := (d1.putRet Reg.PWR_HOLDUP.CAP 0 c).putRet Reg.PWR_HOLDUP.ESR 0 esr
          (Dev.fitDecide { d2 with fit := { d2.fit with holdup := some (c, esr) } }).kickWrites

/-- R628: the measurement could not start within 600 s. -/
def execHoldupSkip (s : State) : Host.Outcome State Fault Refusal :=
  s.onDev fun d =>
    if d.controlling && d.get Reg.FIT_STAT.STEP 0 = 2 && !d.fit.window && d.fit.stepAt + 60000000 ≤ d.tick then
      Dev.fitDecide { d with fit := { d.fit with skipped := true } }
    else d

/-! ### Application (R627, R629, R639) -/

/-- PWR_WARN.EFFECTIVE (R516). -/
def Dev.showEffective (d : Dev) : Dev :=
  d.put Reg.PWR_WARN.EFFECTIVE 0 (max (d.get Reg.PWR_CFG.WARN_LEVEL 0) (d.get Reg.PWR_WARN.FIT_LEVEL 0))

/-- A new VCORE target: the ramp of R535 begins. -/
def Dev.setTarget (d : Dev) (mv : Nat) : Dev := (d.putRet Reg.PWR_VCORE.TARGET 0 mv).put Reg.PWR_STAT.VCORE_RAMP 0 1

/-- The source object of a change (R639). -/
def Dev.fitSource (d : Dev) (bit index : Nat) : Nat :=
  match bit with
  | 4 => d.name clsSOL index
  | 5 => d.name clsFAN index
  | 7 => d.name clsSEAM index
  | _ => d.nullName

/-- FIT_CHANGE (R639). -/
def Dev.raiseChange (d : Dev) (c : FitChange) (cause : Nat) : Dev :=
  d.raise 0x0F02 (d.fitSource c.bit c.index) ([c.bit, cause, 0, 0] ++ leBytes 4 c.old ++ leBytes 4 c.new)

/-- One change in force (R629). -/
def Dev.applyChange (d : Dev) (c : FitChange) : Dev :=
  let i := c.index
  let d1 := match c.bit with
    | 0 => d.setTarget c.new
    | 1 => d.putRet Reg.NVM_FIT.READ_REF 0 c.new
    | 2 => d.putRet Reg.NVM_FIT.REFRESH_INT 0 c.new
    | 3 => d.putRet Reg.MEAS_CFG.RECAL_INT 0 c.new
    | 4 => ((d.putRet Reg.SOL_TTP.TMIN i (c.new % 2 ^ 16)).putRet Reg.SOL_TTP.TMAX i (c.new / 2 ^ 16)).post (dieOf clsSOL i)
        (.reg (Reg.SOL_TTP.TMIN.addr i) c.new)
    | 5 =>
      let v := d.get Reg.FAN_TIMING.PWM_FREQ i + 2 ^ 8 * d.get Reg.FAN_TIMING.PPR i + 2 ^ 16 * c.new
      (d.putRet Reg.FAN_TIMING.KICK_TIME i c.new).post (dieOf clsFAN i) (.reg (Reg.FAN_TIMING.PWM_FREQ.addr i) v)
    | 6 => (d.putRet Reg.PWR_WARN.FIT_LEVEL 0 c.new).showEffective
    | _ => (d.putRet Reg.PORT_EQ.RX_CTLE i c.new).put Reg.PORT_EQ.BY_FITTING i 1
  d1.raiseChange c 1

/-- The entry with the lowest margin (R641). -/
def lowestMargin (ms : Map Nat) : Nat × Nat :=
  ms.foldl (fun a p => if p.2 < a.2 then p else a) (ms.headD (0, 100))

/-- FIT_FORECAST of the entries whose forecast is short or whose margin is 0 (R634, R639). -/
def Dev.raiseForecast (d : Dev) (p : Nat × Nat) : Dev :=
  let days := Map.get d.fit.forecasts p.1 0xFFFF
  let w := Map.get d.fit.worst p.1 0xFFFF
  let src := match p.1 with
    | 4 => d.name clsSOL w
    | 5 => d.name clsFAN w
    | 8 => d.name clsSEAM w
    | _ => d.nullName
  if p.2 = 0 || days < d.get Reg.FIT_CFG.FORECAST_DAYS 0 then
    d.raise 0x0F03 src ([p.1, p.2, if p.2 = 0 then 1 else 0, 0] ++ leBytes 2 days)
  else d

/-- The changes of a pass applied, its margins shown, its end reported (R627, R634, R639). -/
def Dev.fitApplied (d : Dev) : Dev :=
  let d1 := d.fit.changes.foldl (fun (y : Dev) c => y.applyChange c) d
  let show_ := fun (y : Dev) (e : Nat) =>
    let y1 := (y.put Reg.FIT_MARGIN.VALID e (if (d.fit.margins.any fun p => p.1 == e) then 1 else 0)).put
      Reg.FIT_MARGIN.FORECAST e (Map.get d.fit.forecasts e 0xFFFF)
    if d.fit.margins.any fun p => p.1 == e then y1.putRet Reg.FIT_MARGIN.MARGIN e (Map.get d.fit.margins e 0) else y1
  let d2 := (List.range 10).foldl show_ d1
  let d3 := d.fit.margins.foldl (fun (y : Dev) p => y.raiseForecast p) d2
  let low := lowestMargin d.fit.margins
  let d4 := (d3.put Reg.FIT_STAT.LOWEST 0 low.1).put Reg.FIT_STAT.LOWEST_MARGIN 0 low.2
  let pass := (d4.get Reg.FIT_PASS.COUNT 0 + 1) % 2 ^ 32
  let n := d.fit.changes.length
  let d5 := (d4.putRet Reg.FIT_PASS.COUNT 0 pass).raise 0x0F01 d4.nullName
    (leBytes 4 pass ++ [n, low.1, low.2, if d.fit.skipped then 1 else 0])
  let d6 := match d.fit.desc with
    | some id => d5.done id (pass + 2 ^ 32 * (n % 256) + 2 ^ 40 * low.1 + 2 ^ 48 * low.2)
    | none => d5
  Dev.fitStep { d6 with fit := { d6.fit with desc := none, changes := [], sense := none } } 0

/-- R630: the path monitors read once per second between passes. -/
def execPathMonitorRead (ps : List Nat) (s : State) : Host.Outcome State Fault Refusal :=
  s.onDev fun d =>
    if !d.live || d.fitting || ps.isEmpty || (d.fit.pathAt != 0 && d.tick < d.fit.pathAt + 99999) then d
    else
      let d1 := Dev.showPaths { d with fit := { d.fit with pathAt := d.tick + 1 } } ps
      let t := d1.get Reg.PWR_VCORE.TARGET 0
      let new := min 900 (t + 10)
      if d1.get Reg.FIT_CFG2.PATH_FLOOR 0 ≤ (lowestPath ps).1 then d1
      else if !d1.fitFree 0 || !d1.isSet Reg.PWR_STAT.PMBUS_OK 0 || !d1.isSet Reg.PWR_PMBUS.EN 0 then
        d1.raiseChange { bit := 0, index := 0xFFFF, old := t, new := t } 2
      else if new = t then d1
      else
        let e := logEntry d1.tick (d1.get Reg.FIT_PASS.COUNT 0) 1 0 0xFFFF t new 0
        let d2 := (d1.setTarget new).raiseChange { bit := 0, index := 0xFFFF, old := t, new := new } 2
        let d3 := { d2 with fit := { d2.fit with log := d2.fit.log ++ [e] } }
        d3.kickLog

/-! ### Warning, freeze (R628, R636) -/

/-- R636: PFW_N falls: before step 7 the pass is abandoned. -/
def Dev.fitDip (d : Dev) : Dev :=
  let d1 := { d with fit := { d.fit with window := false } }
  if d1.fitting && d1.get Reg.FIT_STAT.STEP 0 < 3 then
    let d2 := match d1.fit.desc with
      | some id => d1.fail id .aborted
      | none => d1
    let d3 := d2.fitDrop
    { d3 with fit := { d3.fit with rerun := true } }
  else d1

/-- R628: a freeze closes the diode; the measurement is repeated after thaw. -/
def Dev.fitFreeze (d : Dev) : Dev := { d with fit := { d.fit with window := false } }

/-! ### Descriptors (R637, R638) -/

/-- R626, R638: FIT_RUN. -/
def bodyFitRun (id : Nat) (_ : Desc) (d : Dev) : Dev := if d.fitting then d.fail id .refusedBusy else d.fitStart (some id)

/-- R638. -/
def execFitRun (q : Nat) (x : Desc) (s : State) : Host.Outcome State Fault Refusal :=
  s.onDev fun d => d.submit q x 0x0F01 [] bodyFitRun

/-- R637: FIT_LOG_READ. -/
def bodyFitLogRead (id : Nat) (x : Desc) (d : Dev) : Dev :=
  let first := x.u16 16
  let count := x.u16 18
  let w := x.u32 20
  if count = 0 || 1024 < count || memWords < w + count then d.fail id .badParam
  else
    let held := d.get Reg.FIT_LOG_STAT.ENTRIES 0
    let n := min count (held - first)
    let next := d.get Reg.FIT_LOG_STAT.NEXT 0
    let one := fun (z : Nat × Dev) (j : Nat) =>
      let ((bs, bad), y) := z.2.nvmRead (logAddr ((next + 7680 - 1 - first - j) % 7680)) 32
      (z.1 + bad, y.memWrite (32 * (w + j)) bs)
    let (bad, d1) := (List.range n).foldl one (0, d)
    d1.finish id (if bad = 0 then .ok else .dataError) n

/-- R637. -/
def execFitLogRead (q : Nat) (x : Desc) (s : State) : Host.Outcome State Fault Refusal :=
  s.onDev fun d => d.submit q x 0x0F02 [(16, 8)] bodyFitLogRead

/-- R631, R638: FIT_BASELINE. -/
def bodyFitBaseline (id : Nat) (x : Desc) (d : Dev) : Dev :=
  let m := x.u16 16
  if (List.range 16).any fun e => bitAt m e && !([2, 4, 5, 6, 9].contains e) then d.fail id .badParam
  else Dev.done { d with fit := { d.fit with newBase := Nat.lor d.fit.newBase m } } id 0

/-- R631. -/
def execFitBaseline (q : Nat) (x : Desc) (s : State) : Host.Outcome State Fault Refusal :=
  s.onDev fun d => d.submit q x 0x0F03 [(16, 2)] bodyFitBaseline

/-- R638: the pass of a FIT_RUN stops until its last log entry has committed. -/
def settleFit (id : Nat) (r : Rec) (d : Dev) : Dev :=
  if d.fit.desc = some r.id && d.get Reg.FIT_STAT.STEP 0 < 4 then 
    let d1 := d.dropLog.fitDrop
    (d1.kickLog.fail r.id .aborted).done id 0
  else d.fail id .nothingToAbort

/-- R638: FIT_ABORT. -/
def bodyFitAbort (id : Nat) (x : Desc) (d : Dev) : Dev :=
  if 64 ≤ x.u16 20 then d.fail id .badParam
  else d.abortDesc id (x.u16 20) (x.u32 16) [0x0F01] settleFit

/-- R638. -/
def execFitAbort (q : Nat) (x : Desc) (s : State) : Host.Outcome State Fault Refusal :=
  s.onDev fun d => d.submit q x 0x0F04 [(16, 6)] bodyFitAbort

/-- Whether FIT_CFG2 takes a value: PATH_FLOOR below PATH_LO below PATH_HI (R641). -/
def fitWriteOk (off v : Nat) : Bool :=
  if off = Reg.FIT_CFG2.PATH_LO.addr 0 then bitsAt v 0 8 < bitsAt v 8 8 && bitsAt v 16 8 < bitsAt v 0 8 else true

end Sys2Proof.Machine
end

