-- ==== Sys2Proof/Machine/Keys.lean ====
section
/-! DEFINITION. Keys and encoders: the scanner, debounce, ghost guard, key lock, encoder counts (17_keys.md). -/

namespace Sys2Proof.Machine
open Sys2Proof

/-- A key that nobody presses. -/
def KeySt.init : KeySt := { pressed := false, run := 0, ambiguous := false, muted := false }

/-- An encoder at start. -/
def EncSt.init : EncSt := { a := false, b := false, count := 0, told := 0, toldAt := 0 }

/-- Key `i`. -/
def Dev.key (d : Dev) (i : Nat) : KeySt := Map.get d.keys.keys i KeySt.init

/-- Key `i` set. -/
def Dev.setKey (d : Dev) (i : Nat) (x : KeySt) : Dev := { d with keys := { d.keys with keys := Map.set d.keys.keys i x KeySt.init } }

/-- Encoder `n`. -/
def Dev.enc (d : Dev) (n : Nat) : EncSt := Map.get d.keys.encs n EncSt.init

/-- Encoder `n` set. -/
def Dev.setEnc (d : Dev) (n : Nat) (x : EncSt) : Dev := { d with keys := { d.keys with encs := Map.set d.keys.encs n x EncSt.init } }

/-- Whether key `i` lies in the matrix (R609). -/
def Dev.inMatrix (d : Dev) (i : Nat) : Bool := i / 12 < d.get Reg.KEYS_CFG.ROWS 0 && i % 12 < d.get Reg.KEYS_CFG.COLS 0

/-- Whether key lock is in force. -/
def Dev.keyLocked (d : Dev) : Bool := d.isSet Reg.KEYS_STAT.LOCKED 0

/-- Whether key `i` counts as pressed in what the device reports (R618). -/
def Dev.keyShown (d : Dev) (i : Nat) : Bool := (d.key i).pressed && !(d.key i).muted

/-- Keys reported pressed. -/
def Dev.keysShown (d : Dev) : Nat := ((List.range 144).filter d.keyShown).length

/-- The value word of key `i` (R609, R614, R616). -/
def Dev.keyWord (d : Dev) (i : Nat) : VW :=
  if !d.inMatrix i then mkWord 0 0 d.tick
  else if d.keyLocked || !d.keyShown i then mkWord 0 stVALID d.tick
  else if (d.key i).ambiguous then mkWord 65536 stFAULT d.tick
  else mkWord 65536 stVALID d.tick

/-- Words of keys published. -/
def Dev.publishKeys (d : Dev) (l : List Nat) : Dev := l.foldl (fun (y : Dev) i => y.produce (y.name clsKEY i) 0 (y.keyWord i)) d

/-- KEYS_PRESSED and KEYS_STAT.PRESSED as the keys stand (R625). -/
def Dev.showKeys (d : Dev) : Dev :=
  let bits := fun (w : Nat) =>
    if d.keyLocked then 0 else ((List.range 32).map fun j => if d.keyShown (32 * w + j) then 2 ^ j else 0).foldl (· + ·) 0
  ((List.range 5).foldl (fun (y : Dev) w => y.put Reg.KEYS_PRESSED.BITS w (bits w)) d).put
    Reg.KEYS_STAT.PRESSED 0 (if d.keyLocked then 0 else d.keysShown)

/-- KEY_IRQ_N as PENDING and IRQ_EN give it (R621). -/
def Dev.showKeyIrq (d : Dev) : Dev :=
  d.emit (.pin "KEY_IRQ_N" (!(d.isSet Reg.KEYS_IRQ.PENDING 0 && d.isSet Reg.KEYS_IRQ.IRQ_EN 0)))

/-- R621: PENDING set with a KEY_CHANGE or ENC_MOVED. -/
def Dev.keyPending (d : Dev) : Dev := (d.put Reg.KEYS_IRQ.PENDING 0 1).showKeyIrq

/-- KEY_CHANGE of key `i` (R624). -/
def Dev.keyChange (d : Dev) (i : Nat) : Dev :=
  let x := d.key i
  (d.raise 0x0E01 (d.name clsKEY i) [if x.pressed then 1 else 0, if x.ambiguous then 1 else 0, d.keysShown]).keyPending

/-- R615, R618: key lock entered or left. -/
def Dev.setKeyLock (d : Dev) (on : Bool) (cause : Nat) : Dev :=
  if d.keyLocked == on then d
  else
    let d1 := d.putRet Reg.KEYS_STAT.LOCKED 0 (if on then 1 else 0)
    let hold := fun (y : Dev) (i : Nat) => if (y.key i).pressed then y.setKey i { y.key i with muted := true } else y
    let d2 := if on then d1 else (List.range 144).foldl hold d1
    ((d2.raise 0x0E03 d2.nullName [if on then 1 else 0, cause]).publishKeys (List.range 144)).showKeys

/-! ### The unlock sequence (R617) -/

/-- The keys of the unlock sequence. -/
def Dev.unlockKeys (d : Dev) : List Nat :=
  (leBytes 4 (d.get Reg.KEYS_UNLOCK_LO.SEQ0_3 0) ++ leBytes 4 (d.get Reg.KEYS_UNLOCK_HI.SEQ4_7 0)).takeWhile (· != 0xFF)

/-- A press accepted as a step; the last one unlocks. -/
def Dev.unlockStep (d : Dev) (n : Nat) : Dev :=
  if n = d.unlockKeys.length then (d.put Reg.KEYS_STAT.SEQ_STEP 0 0).setKeyLock false 4
  else { d with keys := { d.keys with stepAt := d.tick } }.put Reg.KEYS_STAT.SEQ_STEP 0 n

/-- R617: a debounced press while locked. -/
def Dev.unlockPress (d : Dev) (i : Nat) : Dev :=
  let seq := d.unlockKeys
  let step := d.get Reg.KEYS_STAT.SEQ_STEP 0
  let late := 0 < step && d.keys.stepAt + 10000 * d.get Reg.KEYS_LOCK.STEP_TIME 0 < d.tick
  if seq.isEmpty || !d.keyLocked then d
  else if !late && seq.getD step 0xFF = i then d.unlockStep (step + 1)
  else
    let d1 := (d.put Reg.KEYS_STAT.SEQ_STEP 0 0).raiseCounted 0x0E04 (d.name clsKEY i) d.tick [step, if late then 2 else 1] none
    if seq.getD 0 0xFF = i then d1.unlockStep 1 else d1

/-! ### Scanning (R611 to R616) -/

/-- Whether key `i` is a corner of a rectangle of reported keys (R614). -/
def Dev.corner (d : Dev) (i : Nat) : Bool :=
  let on := fun (r c : Nat) => d.keyShown (12 * r + c) && d.inMatrix (12 * r + c)
  let r := i / 12
  let c := i % 12
  on r c && (List.range 12).any fun r2 => r2 != r && on r2 c && (List.range 12).any fun c2 => c2 != c && on r c2 && on r2 c2

/-- R612: one key sampled; whether its debounced state changed. -/
def Dev.sampleKey (d : Dev) (raw i : Nat) : Bool × Dev :=
  let x := d.key i
  let s := bitAt raw i
  if s == x.pressed then (false, d.setKey i { x with run := 0 })
  else if x.run + 1 < d.get Reg.KEYS_CFG.DEBOUNCE 0 then (false, d.setKey i { x with run := x.run + 1 })
  else (true, d.setKey i { x with pressed := s, run := 0, muted := x.muted && s })

/-- AMBIGUOUS formed after a scan (R614): the keys whose flag changed while they are pressed. -/
def Dev.guardKeys (d : Dev) : List Nat × Dev :=
  let guard := d.isSet Reg.KEYS_CFG.GHOST_GUARD 0
  (List.range 144).foldl (fun (z : List Nat × Dev) i =>
    let x := z.2.key i
    let a := guard && d.corner i
    if x.ambiguous == a then z
    else (if x.pressed then z.1 ++ [i] else z.1, z.2.setKey i { x with ambiguous := a })) ([], d)

/-- What locks or unlocks the keys at a scan boundary: the idle time that has run out, then KEY_LOCK descriptors (R615, R618, R623). -/
def Dev.applyKeyLocks (d0 : Dev) : Dev :=
  let d := if d0.keys.idleDue then Dev.setKeyLock { d0 with keys := { d0.keys with idleDue := false } } true 2 else d0
  let one := fun (y : Dev) (o : Nat × Bool) =>
    let was := if y.keyLocked then 1 else 0
    let y1 := if o.2 then y else y.put Reg.KEYS_STAT.SEQ_STEP 0 0
    (y1.setKeyLock o.2 1).done o.1 (was + (if o.2 then 2 ^ 8 else 0))
  d.keys.locks.foldl one { d with keys := { d.keys with locks := [] } }

/-- Whether every key is debounced as released: none pressed, and none in the samples that would make it so (R611, R612). -/
def Dev.keysFree (d : Dev) : Bool := !(List.range 144).any fun i => (d.key i).pressed || (d.key i).run != 0

/-- R612 to R617: a scan, 1 ms after the one before: `raw` has bit 12r + c for a key that samples pressed. -/
def execKeyScan (raw : Nat) (s : State) : Host.Outcome State Fault Refusal :=
  s.onDev fun d0 =>
    if !d0.live then d0
    else if !d0.isSet Reg.KEYS_STAT.SCANNING 0 then d0.applyKeyLocks
    else if d0.keys.scanAt != 0 && d0.tick < d0.keys.scanAt + 99 then d0
    else
      let d := { d0 with keys := { d0.keys with scanAt := d0.tick + 1 } }
      let keys := (List.range 144).filter d.inMatrix
      let locked := d.keyLocked
      let (changed, d1) := keys.foldl (fun (z : List Nat × Dev) i =>
        let r := z.2.sampleKey raw i
        (if r.1 then z.1 ++ [i] else z.1, r.2)) ([], d)
      let (flagged, d2) := d1.guardKeys
      let told := (List.range 144).filter fun i => changed.contains i || flagged.contains i
      let d2 := if changed.isEmpty && d2.keysFree then d2 else { d2 with keys := { d2.keys with heldAt := d2.tick } }
      let d3 := if told.isEmpty then d2 else { d2 with keys := { d2.keys with changedAt := d2.tick } }
      let d4 := if locked then (changed.filter fun i => (d3.key i).pressed).foldl (fun (y : Dev) i => y.unlockPress i) d3
        else (told.filter fun i => !(d.key i).muted).foldl (fun (y : Dev) i => y.keyChange i) (d3.publishKeys told)
      d4.applyKeyLocks.showKeys

/-- The scanner wakes; its first scan may follow at once (R611). -/
def Dev.wakeScanner (d : Dev) : Dev :=
  { d with keys := { d.keys with scanAt := 0, heldAt := d.tick } }.put Reg.KEYS_STAT.SCANNING 0 1

/-- R611: a row low for 100 µs wakes the scanner. -/
def execKeyRowWake (s : State) : Host.Outcome State Fault Refusal :=
  s.onDev fun d => if d.live && !d.isSet Reg.KEYS_STAT.SCANNING 0 then d.wakeScanner else d

/-- R611: every key released for 20 ms. -/
def execKeyIdle (s : State) : Host.Outcome State Fault Refusal :=
  s.onDev fun d =>
    if d.live && d.keysFree && d.keys.heldAt + 2000 ≤ d.tick then d.put Reg.KEYS_STAT.SCANNING 0 0 else d

/-- R615: no change for IDLE_TIME minutes: the lock comes at the scan boundary, at once where the scanner is idle. -/
def execKeyLockIdle (s : State) : Host.Outcome State Fault Refusal :=
  s.onDev fun d =>
    let n := d.get Reg.KEYS_LOCK.IDLE_TIME 0
    if d.live && 0 < n && d.keys.changedAt + 6000000 * n ≤ d.tick then
      if d.isSet Reg.KEYS_STAT.SCANNING 0 then { d with keys := { d.keys with idleDue := true } } else d.setKeyLock true 2
    else d

/-- R623: KEY_LOCK waits for the next scan boundary. -/
def bodyKeyLock (id : Nat) (x : Desc) (d : Dev) : Dev :=
  if 2 ≤ x.byte 16 then d.fail id .badParam
  else { d with keys := { d.keys with locks := d.keys.locks ++ [(id, x.byte 16 == 1)] } }

/-- R623. -/
def execKeyLock (q : Nat) (x : Desc) (s : State) : Host.Outcome State Fault Refusal :=
  s.onDev fun d => d.submit q x 0x0E01 [(16, 1)] bodyKeyLock

/-! ### Encoders (R619, R620) -/

/-- The place of the levels of A and B in the quadrature sequence. -/
def quadPlace (a b : Bool) : Nat :=
  match a, b with
  | false, false => 0
  | true, false => 1
  | true, true => 2
  | false, true => 3

/-- Whole detents of a count (R619). -/
def Dev.detents (d : Dev) (n : Nat) : Int := Int.tdiv (d.enc n).count (Int.ofNat (d.get Reg.ENC_CFG.DETENT n + 1))

/-- The value word of encoder `n` (R619). -/
def Dev.encWord (d : Dev) (n : Nat) : VW :=
  let t := d.detents n
  let v := clampInt (-32767) 32767 t
  mkWord (v * 65536) (if v = t then stVALID else stVALID + stCLAMPED) d.tick

/-- Encoder movements are not taken while the lock covers encoders (R616). -/
def Dev.encHeld (d : Dev) : Bool := d.keyLocked && d.isSet Reg.KEYS_LOCK.LOCK_ENC 0

/-- R619: encoder `n` accepts the levels `a` and `b`. -/
def execEncTransition (n : Nat) (a b : Bool) (s : State) : Host.Outcome State Fault Refusal :=
  s.onDev fun d =>
    if !d.live || 4 ≤ n then d
    else
      let x := d.enc n
      let k := (quadPlace a b + 4 - quadPlace x.a x.b) % 4
      let d1 := d.setEnc n { x with a := a, b := b }
      if k = 0 then d
      else if k = 2 then d1.bump Reg.ENC_STAT.ERRORS n 0xFFFF
      else if d.encHeld then d1
      else
        let step : Int := if (k == 1) == d.isSet Reg.ENC_CFG.DIR n then -1 else 1
        let d2 := { d1 with keys := { d1.keys with changedAt := d1.tick } }.setEnc n { d1.enc n with count := x.count + step }
        let w := d2.encWord n
        (d2.put Reg.ENC_VAL.VALUE n w.bits).produce (d2.name clsENC n) 0 w

/-- R620: encoder `n` reports its change, at most once per 10 ms. -/
def execEncMoved (n : Nat) (s : State) : Host.Outcome State Fault Refusal :=
  s.onDev fun d =>
    let t := d.detents n
    let x := d.enc n
    if !d.live || 4 ≤ n || d.encHeld || t = x.told || (x.toldAt != 0 && d.tick < x.toldAt + 999) then d
    else
      ((d.setEnc n { x with told := t, toldAt := d.tick + 1 }).raise 0x0E02 (d.name clsENC n)
        (leBytes 2 (bitsOf 16 (saturate 16 (t - x.told))) ++ [0, 0] ++ leBytes 4 (d.encWord n).value.toNat)).keyPending

/-! ### Freeze, start, registers (R615, R622, R625) -/

/-- R622: after thaw the scanner starts a fresh scan, and each change found is debounced anew. -/
def Dev.keysThaw (d : Dev) : Dev := ((List.range 144).foldl (fun (y : Dev) i => y.setKey i { y.key i with run := 0 }) d).wakeScanner

/-- Keys and encoders at start (R615, R622). -/
def Dev.keysStart (d : Dev) : Dev :=
  let d1 := (d.publishKeys (List.range 144)).showKeys
  let word := fun (y : Dev) (n : Nat) => (y.put Reg.ENC_VAL.VALUE n (y.encWord n).bits).produce (y.name clsENC n) 0 (y.encWord n)
  let d2 := (List.range 4).foldl word { d1 with keys := { d1.keys with changedAt := d1.tick } }
  if d2.keyLocked then d2.raise 0x0E03 d2.nullName [1, 3] else d2

/-- A write of KEYS_IRQ (R621). -/
def Dev.writeKeysIrq (d : Dev) (v : Nat) : Dev :=
  let d1 := (if bitAt v 0 then d.put Reg.KEYS_IRQ.PENDING 0 0 else d).put Reg.KEYS_IRQ.IRQ_EN 0 (v / 2 % 2)
  (d1.markHost (Reg.KEYS_IRQ.IRQ_EN.addr 0)).showKeyIrq

/-- Whether a KEYS register takes a value: the entries of the unlock sequence are keys or 0xFF (R625). -/
def keysWriteOk (off v : Nat) : Bool :=
  if off = Reg.KEYS_UNLOCK_LO.SEQ0_3.addr 0 || off = Reg.KEYS_UNLOCK_HI.SEQ4_7.addr 0 then (leBytes 4 v).all fun b => b < 144 || b == 0xFF
  else true

/-- After a write of KEYS_CFG, keys outside the matrix are released in silence (R609). -/
def Dev.keysCfgWritten (d : Dev) : Dev :=
  let drop := fun (y : Dev) (i : Nat) => if y.inMatrix i then y else y.setKey i KeySt.init
  (((List.range 144).foldl drop d).publishKeys (List.range 144)).showKeys

end Sys2Proof.Machine
end

