-- ==== Sys2Proof/Machine/Loop.lean ====
section
/-! DEFINITION. The loop engine and chalk (07_loop_engine.md). -/

namespace Sys2Proof.Machine
open Sys2Proof

/-! ### Configuration blocks (R303, R304) -/

/-- Fields of a loop block. -/
def lpN (b : List Nat) : Nat := b.getD 1 0
def lpEnabled (b : List Nat) (m : Nat) : Bool := bitAt (b.getD 2 0) m
def lpTrack (b : List Nat) : Bool := bitAt (b.getD 4 0) 0
def lpForceBumpless (b : List Nat) : Bool := bitAt (b.getD 4 0) 1
def lpFeAction (b : List Nat) : Nat := bitsAt (b.getD 4 0) 2 2
def lpFeGate (b : List Nat) : Bool := bitAt (b.getD 4 0) 4
def lpInt (b : List Nat) : Option Nat := if b.getD 5 0 = 0xFF then none else some (b.getD 5 0)
def lpStaleLimit (b : List Nat) : Nat := b.getD 6 0
def lpKind (b : List Nat) : Nat := b.getD 7 0
def lpP (b : List Nat) : Nat := leAt b 8 4
def lpPhase (b : List Nat) : Nat := leAt b 12 4
def lpFeLimit (b : List Nat) : Int := signedOf 32 (leAt b 16 4)
def lpFeCount (b : List Nat) : Nat := leAt b 20 2
def lpMap (b : List Nat) (l : Nat) : Nat := bitsAt (b.getD 22 0) (2 * l) 2
def lpHard (b : List Nat) (m : Nat) : Bool := bitAt (b.getD 23 0) m
def lpNeg (b : List Nat) (m : Nat) : Bool := bitAt (b.getD 23 0) (4 + m)
def lpSafe (b : List Nat) : Int := signedOf 32 (leAt b 24 4)
def lpOutStart (b : List Nat) : Int := signedOf 32 (leAt b 28 4)
def lpFb (b : List Nat) : Nat := leAt b 32 4
def lpSub (b : List Nat) : Nat := leAt b 36 4
def lpFbQ (b : List Nat) : Nat := b.getD 40 0
def lpFfQ (b : List Nat) : Nat := b.getD 41 0
def lpUrgent (b : List Nat) : Bool := bitAt (b.getD 42 0) 0
def lpLead (b : List Nat) : Nat := b.getD 43 0
def lpFf (b : List Nat) : Nat := leAt b 44 4
def lpModeSrc (b : List Nat) : Nat := leAt b 48 4
def lpTarget (b : List Nat) : Nat := leAt b 52 4
def lpD (b : List Nat) : Nat := leAt b 56 2
def lpSp (b : List Nat) (m : Nat) : Nat := leAt b (64 + 32 * m) 4
def lpSpQ (b : List Nat) (m : Nat) : Nat := b.getD (68 + 32 * m) 0
def lpMode (b : List Nat) (m o : Nat) : Int := signedOf 32 (leAt b (64 + 32 * m + o) 4)

/-- The enabled modes. -/
def lpModes (b : List Nat) : List Nat := (List.range 4).filter fun m => lpEnabled b m

/-- Coefficient `i` (b0, b1, b2, a1, a2) of section `j` in mode `m`: c and s. -/
def lpCoef (b : List Nat) (m j i : Nat) : Int × Nat :=
  let a := 32 * (6 + m * lpN b + j)
  (signedOf 32 (leAt b (a + 4 * i) 4), b.getD (a + 20 + i) 0)

/-- R268: the rate step of mode `m`. -/
def lpRate (b : List Nat) (m : Nat) : Int := saturate 32 (roundDiv (lpMode b m 28 * (lpP b : Int)) 100000)

/-! ### Arithmetic (R267 to R269) -/

/-- term(c, v) of R267. -/
def term (c : Int × Nat) (v : Int) : Int := roundShift (c.1 * v) (29 + c.2)

/-- Section states: for each section eight wide values, s1 and s2 for each mode; a shared section uses the first pair. -/
abbrev SecStates := List (List Int)

/-- The place of s1 of section `j` in mode `m`. -/
def secPlace (b : List Nat) (m j : Nat) : Nat := if lpInt b = some j then 2 * m else 0

/-- One state value. -/
def secGet (st : SecStates) (j k : Nat) : Int := (st.getD j []).getD k 0

/-- One state value set. -/
def secSet (st : SecStates) (j k : Nat) (v : Int) : SecStates :=
  st.mapIdx fun i l => if i = j then l.mapIdx fun n x => if n = k then v else x else l

/-- Everything one computation forms (R268). -/
structure LoopRun where
  e : Int
  x0 : Int
  f : Int
  uc : Int
  u : Int
  ulim : Int
  out : Int
  sigma : Int
  ys : List Int
  st : SecStates
  sat : Bool

/-- The cascade from x[0] through sections `j` on: inputs, outputs and whether a sum saturated. -/
def cascade (b : List Nat) (m : Nat) (st : SecStates) : Nat → Nat → Int → List (Int × Int) × Bool
  | 0, _, _ => ([], false)
  | k + 1, j, x =>
    let v := term (lpCoef b m j 0) x + secGet st j (secPlace b m j)
    let y := saturate 64 v
    let r := cascade b m st k (j + 1) y
    ((x, y) :: r.1, r.2 || y != v)

/-- The state update of one section (R268, R269). -/
def secUpdate (b : List Nat) (m j : Nat) (st : SecStates) (x y sigma : Int) : SecStates × Bool :=
  let k := secPlace b m j
  let nu : Int := if lpNeg b m then -1 else 1
  let held := lpInt b == some j && sigma != 0 && x.sign * nu == sigma
  if held then (st, false)
  else
    let p := term (lpCoef b m j 1) x - term (lpCoef b m j 3) y + secGet st j (k + 1)
    let q := term (lpCoef b m j 2) x - term (lpCoef b m j 4) y
    (secSet (secSet st j k (saturate 64 p)) j (k + 1) (saturate 64 q), saturate 64 p != p || saturate 64 q != q)

/-- f of R268. -/
def loopF (b : List Nat) (m : Nat) (ff : Int) : Int :=
  if isNull (lpFf b) then 0 else saturate 32 (roundShift (lpMode b m 16 * ff) 16)

/-- One computation in mode `m` (R268); a reference makes it the bumpless event of R286. -/
def loopRun (b : List Nat) (m : Nat) (st : SecStates) (sp fb ff uPrev : Int) (ref : Option Int) : LoopRun :=
  let e := saturate 32 (sp - fb)
  let x0 := lpMode b m 12 * e
  let c := cascade b m st (lpN b) 0 x0
  let y := match c.1.getLast? with
    | some p => p.2
    | none => x0
  let uc := saturate 32 (roundShift y 16)
  let f := loopF b m ff
  let u := saturate 32 (uc + f)
  let ulim := min (max u (lpMode b m 20)) (lpMode b m 24)
  let r := lpRate b m
  let free := if r = 0 then ulim else min (max ulim (uPrev - r)) (uPrev + r)
  let out := ref.getD free
  let sigma : Int := if ref.isSome then 0 else if out < u then 1 else if u < out then -1 else 0
  let upd := (c.1.mapIdx fun j p => (j, p)).foldl (fun (a : SecStates × Bool) jp =>
    let z := secUpdate b m jp.1 a.1 jp.2.1 jp.2.2 sigma
    (z.1, a.2 || z.2)) (st, false)
  let sat := e != sp - fb || c.2 || uc != roundShift y 16
    || (!isNull (lpFf b) && f != roundShift (lpMode b m 16 * ff) 16) || u != uc + f || upd.2
  { e := e, x0 := x0, f := f, uc := uc, u := u, ulim := ulim, out := out, sigma := sigma, ys := c.1.map (·.2), st := upd.1, sat := sat }

/-- Back through the sections from the last down to `I + 1` (R285). -/
def backThrough (b : List Nat) (m i : Nat) (st : SecStates) : Nat → Int → Int
  | 0, w => w
  | k + 1, w =>
    -- section i + 1 + k
    let j := i + 1 + k
    let c := lpCoef b m j 0
    let num := (w - secGet st j 0) * 2 ^ (29 + c.2)
    backThrough b m i st k (saturate 64 (if c.1 < 0 then roundDiv (-num) (-c.1) else roundDiv num (max 1 c.1)))

/-- R285: the integrating s1 of mode `m` for which its output at the present inputs is `ref`. -/
def backCalc (b : List Nat) (m i : Nat) (st : SecStates) (sp fb ff ref : Int) : Int :=
  let e := saturate 32 (sp - fb)
  let pre := cascade b m st i 0 (lpMode b m 12 * e)
  let x := match pre.1.getLast? with
    | some p => p.2
    | none => lpMode b m 12 * e
  let w := backThrough b m i st (lpN b - 1 - i) ((ref - loopF b m ff) * 2 ^ 16)
  saturate 64 (w - term (lpCoef b m i 0) x)

/-! ### Loops and their states in the region (R264, R289) -/

/-- A slot in IDLE. -/
def LoopSt.init : LoopSt :=
  { state := .idle, cause := 0, mode := 0, lane := 0, secs := [], uPrev := 0, published := false, bump := none, held := 0, feRun := 0
    feOk := 0, feActive := false, stale := 0, override := false, released := false, srcLast := none, req := none, refused := 0
    fbLast := none, ffLast := none, spLast := [], at_ := none, saturated := false, subst := false, safeE := 0, waits := [], modeWait := [], urgAt := none }

/-- Loop `l`. -/
def Dev.loop (d : Dev) (l : Nat) : LoopSt := Map.get d.eng.loops l LoopSt.init

/-- Loop `l` set. -/
def Dev.setLoop (d : Dev) (l : Nat) (x : LoopSt) : Dev :=
  { d with eng := { d.eng with loops := Map.set d.eng.loops l x LoopSt.init } }

/-- The block of loop `l`. -/
def Dev.loopBlock (d : Dev) (l : Nat) : List Nat := d.block (handle clsLOOP l)

/-- State codes of R289. -/
def LoopState.code : LoopState → Nat
  | .idle => 0 | .run => 1 | .hold => 2 | .safe => 3

/-- The loop engine's reader code (R71). -/
def readerLoop : Nat := 2

/-- The first word of pool section `k` in the loop state region: each section has two words. -/
def Dev.secWord (d : Dev) (k : Nat) : Nat := d.get Reg.LOOP_REGION.BASE 0 + 2 * k

/-- The states of the sections `ks`, read by the engine; none with the first failing word. -/
def Dev.readSecs (d : Dev) : List Nat → Option SecStates × Option Nat × Dev
  | [] => (some [], none, d)
  | k :: ks =>
    let bad := d.firstBad (d.secWord k) 2
    let r := d.readWords (d.secWord k) 2 readerLoop
    let t := r.2.readSecs ks
    match r.1, t.1 with
    | some bs, some l => (some (((List.range 8).map fun j => signedOf 64 (leAt bs (8 * j) 8)) :: l), none, t.2.2)
    | some _, none => (none, t.2.1, t.2.2)
    | none, _ => (none, bad, t.2.2)

/-- Section states written back. -/
def Dev.writeSecs (d : Dev) (ks : List Nat) (st : SecStates) : Dev :=
  (ks.zip st).foldl (fun (y : Dev) p =>
    y.memWrite (32 * y.secWord p.1) ((p.2.map fun v => leBytes 8 (bitsOf 64 v)).flatten) readerLoop) d

/-- Every state of the sections 0. -/
def zeroSecs (ks : List Nat) : SecStates := ks.map fun _ => List.replicate 8 0

/-- The state of a loop shown (R313). -/
def Dev.showLoop (d : Dev) (l : Nat) : Dev :=
  let x := d.loop l
  let bit := fun (b : Bool) => if b then 1 else 0
  let d1 := ((((((((d.put Reg.LOOP_SLOT_STAT.STATE l x.state.code).put Reg.LOOP_SLOT_STAT.MODE l x.mode).put Reg.LOOP_SLOT_STAT.LANE l
    x.lane).put Reg.LOOP_SLOT_STAT.HOLD_CAUSE l (if x.state = .hold then x.cause else 0)).put Reg.LOOP_SLOT_STAT.FE_ACTIVE l
    (bit x.feActive)).put Reg.LOOP_SLOT_STAT.OVERRIDE l (bit x.override)).put Reg.LOOP_SLOT_STAT.SATURATED l (bit x.saturated)).put
    Reg.LOOP_SLOT_STAT.SUBSTITUTING l (bit x.subst)).put Reg.LOOP_SLOT_STAT.STALE_RUN l x.stale
  d1.put Reg.LOOP_STAT.HELD 0 (d1.eng.loops.filter fun p => p.2.state = .hold || p.2.state = .safe).length

/-! ### Cost, lanes, admission (R272 to R275) -/

/-- C of R272. -/
def loopCost (b : List Nat) : Nat :=
  let k := if (lpInt b).isNone then 0 else if lpTrack b then (lpModes b).length else 1
  16 + 6 * lpN b + k * (8 + 4 * lpN b)

/-- What admission counts of a loop: slot, lane, cost, period, phase, sections. -/
structure Planned where
  slot : Nat
  lane : Nat
  cost : Nat
  period : Nat
  phase : Nat
  secs : List Nat

/-- The loops as they stand with every checked LOOP_SET in force. -/
def Dev.planned (d : Dev) : List Planned :=
  let sets := d.eng.sets.filter fun o => o.stage == 1
  let now := d.eng.loops.filter fun p => p.2.state != .idle && !(sets.any fun o => o.slot == p.1)
  (now.map fun p => let b := d.loopBlock p.1
    ({ slot := p.1, lane := p.2.lane, cost := loopCost b, period := lpP b, phase := lpPhase b, secs := p.2.secs } : Planned))
  ++ sets.map fun o => { slot := o.slot, lane := o.lane, cost := loopCost o.block, period := lpP o.block, phase := lpPhase o.block, secs := o.secs }

/-- R274: whether two loops are compatible. -/
def compatible (a b : Planned) : Bool := let g := max 1 (Nat.gcd a.period b.period); a.phase % g == b.phase % g

/-- R274: the proven load of a set of loops on one lane. -/
def provenLoad (ls : List Planned) : Nat :=
  ls.foldl (fun (m : Nat) i => max m (i.cost + (ls.filter fun j => j.slot != i.slot && compatible i j).foldl (fun (t : Nat) j => t + j.cost) 0)) 0

/-- R275: the lane for a loop, or the load to report when none qualifies. -/
def Dev.laneFor (d : Dev) (p : Planned) (own : Option Nat) : Option Nat × Nat :=
  let others := d.planned.filter fun q => q.slot != p.slot
  let load := fun (l : Nat) => provenLoad (p :: others.filter fun q => q.lane == l)
  let lanes := match own with
    | some l => [l]
    | none => [0, 1, 2, 3]
  match lanes.find? fun l => load l ≤ 3000 with
  | some l => (some l, 0)
  | none => (none, lanes.foldl (fun (m : Nat) l => min m (load l)) (load (lanes.headD 0)))

/-- Sections for a loop of `n`: its own first when the number is the same, else the lowest free of the pool (R264). -/
def Dev.sectionsFor (d : Dev) (slot n : Nat) : Option (List Nat) :=
  let own := (d.loop slot).secs
  if own.length = n then some own
  else
    let used := (d.planned.filter fun q => q.slot != slot).flatMap (·.secs)
    let free := (List.range 2048).filter fun k => !used.contains k
    if free.length < n then none else some (free.take n)

/-- Pool, lanes and counts shown (R313). -/
def Dev.showEngine (d : Dev) : Dev :=
  let ps := d.planned
  let d1 := (d.put Reg.LOOP_POOL.USED 0 (ps.foldl (fun (t : Nat) p => t + p.secs.length) 0)).put Reg.LOOP_ADMITTED.COUNT 0
    (d.eng.loops.filter fun p => p.2.state != .idle).length
  let d2 := d1.putBit Reg.LOOP_STAT.SETTING 0 (!d1.eng.sets.isEmpty)
  (List.range 4).foldl (fun (y : Dev) l =>
    let ls := ps.filter fun p => p.lane == l
    (y.put Reg.LOOP_LANE_LOAD.PROVEN l (provenLoad ls)).put Reg.LOOP_LANE_LOAD.LOOPS l ls.length) d2

/-! ### Inputs (R276 to R281) -/

/-- Whether the latest up frame due to carry a local field-die word was lost (R112, R144, R276). -/
def Dev.frameMissed (d : Dev) (h : Nat) : Bool :=
  let c := classOf h
  let k := dieOf c (indexOf h)
  let j := localOf c (indexOf h)
  let u := d.upHist k
  let last := d.tick - 1
  let ago := fun (period slot : Nat) => (last + period - slot) % period
  let lostAgo := fun (n : Nat) => !u.mask.testBit n
  if c = clsUI then lostAgo (ago 4 (j / 8))
  else if c = clsINTL then lostAgo (ago 4 (j / 4))
  else if c = clsPOS then lostAgo (ago 2 (j / 2))
  else if c = clsDI || c = clsDO then lostAgo 0
  else if c = clsMSLOT then
    let ns := d.boundSlots k
    match ns.findIdx? (· == indexOf h) with
    | none => false
    | some i =>
      let n := ns.length
      match (List.range 128).find? fun a => n ≤ 4 || (i + n * (last + 1) - 4 * (last - a)) % n < 4 with
      | some a => lostAgo a
      | none => false
  else if c = clsFLOAT then u.lost.testBit 1
  else if c = clsFAN then u.lost.testBit 2
  else if c = clsSOL then u.lost.testBit 3
  else if c = clsAO || c = clsEMU then u.lost.testBit 4
  else false

/-- Whether a class is of a field die. -/
def fieldClass (c : Nat) : Bool := (1 ≤ c && c ≤ 5) || (7 ≤ c && c ≤ 10) || c == 20 || c == 21

/-- The quilt tick that a 24-bit tick field names: of those with these low bits, the one nearest to `t` (R43, R82). -/
def stampNear (t stamp : Nat) : Nat :=
  let a := (t + 2 ^ 24 - stamp % 2 ^ 24) % 2 ^ 24
  if a < 2 ^ 23 then t - a else t + (2 ^ 24 - a)

/-- The word due in this tick for a binding (R80, R82, R217, R276) and whether it is missing by arrival: of a remote object the word
stamped t − D, the later one of two, received before tick t began. -/
def Dev.dueWord (d : Dev) (src qty dly : Nat) : Option VW × Bool :=
  let c := classOf src
  if !d.isLocal src then
    let got := (Map.get d.eng.delay (src * 256 + qty) []).reverse.find? fun e =>
      stampNear e.1 e.2.stamp.toNat + dly == d.tick && e.1 < d.tick
    (got.map (·.2), got.isNone)
  else if qty != 0 && !(c == clsNODE || c == clsZONE) then (none, false)
  else (d.value? src qty, fieldClass c && d.frameMissed (src % 2 ^ 20))

/-- One input: its usable value, none when it is missing (R276, R277). -/
def Dev.loopInput (d : Dev) (src qty dly : Nat) : Option Int :=
  match d.dueWord src qty dly with
  | (some w, false) => if w.has stVALID && !w.has stSTALE then some w.val else none
  | _ => none

/-- FB with its substitute (R235, R281): the usable value, and whether it is substituted. Where no word of a remote sensor is due, a
substitution in force stands (`was`): it ends at the first word for which neither condition holds. -/
def Dev.fbInput (d : Dev) (b : List Nat) (was : Bool) : Option Int × Bool :=
  let src := lpFb b
  let sub := lpSub b
  let w := (d.dueWord src (lpFbQ b) (lpD b)).1
  let bad := match w with
    | some x => x.has stFAULT || !x.has stVALID
    | none => d.isLocal src || was
  let node := indexOf sub
  if !isNull sub && (bad || (d.nodeSuspect node && d.nodeMeasSource node == some src)) then
    match d.value? (d.name clsNODE node) 0 with
    | some x => (if x.has stVALID then some x.val else none, true)
    | none => (none, true)
  else (d.loopInput src (lpFbQ b) (lpD b), false)

/-- The setpoint of mode `m`: its usable value (R304). -/
def Dev.spInput (d : Dev) (b : List Nat) (m : Nat) : Option Int :=
  if isNull (lpSp b m) then some (lpMode b m 8) else d.loopInput (lpSp b m) (lpSpQ b m) (lpD b)

/-! ### Publication (R270, R273, R290) -/

/-- The command of an output object from a Q16.16 value in its unit (R160, R168, R342, R375, R376). -/
def commandUnits (h : Nat) (v : Int) : Nat :=
  let c := classOf h
  if c = clsDO || c = clsSOL then (if 32768 ≤ v then 1 else 0)
  else if c = clsFLOAT then (clampInt 0 200 (roundDiv (2 * v) 65536)).toNat
  else percentUnits v

/-- A forced command back in the object's unit, Q16.16. -/
def unitsValue (h : Nat) (v : Nat) : Int :=
  let c := classOf h
  if c = clsDO || c = clsSOL then (v : Int) * 65536 else if c = clsFLOAT then roundDiv ((v : Int) * 65536) 2 else roundDiv ((v : Int) * 65536) 100

/-- The reference at start and at admission without KEEP_STATE: the restore-policy value of the target while its value word is valid,
otherwise OUT_START (R286, R531). DEDUCED (log 98) (R533, the output does not step): an AO that is off counts as 0, a FLOAT that stops as where it is. -/
def Dev.startRef (d : Dev) (b : List Nat) : Int :=
  let t := lpTarget b
  let i := indexOf t
  if isNull t then lpOutStart b
  else match d.value? (d.devNum * 2 ^ 20 + t % 2 ^ 20) 0 with
    | some w =>
      if !w.has stVALID then lpOutStart b
      else
        let v := d.restoreValue (classOf t) i
        if classOf t = clsAO && v = aoOff then 0
        else if classOf t = clsFLOAT && v = floatStop then w.val
        else unitsValue t v
    | none => lpOutStart b

/-- The last published output of a loop; before any, the start reference. -/
def Dev.lastRef (d : Dev) (l : Nat) : Int := if (d.loop l).published then (d.loop l).uPrev else d.startRef (d.loopBlock l)

/-- A loop's word published, its target driven. -/
def Dev.loopPublish (d : Dev) (l : Nat) (v : Int) (st : Nat) : Dev :=
  let t := lpTarget (d.loopBlock l)
  let d1 := (d.setLoop l { d.loop l with uPrev := v, published := true }).produce (d.name clsLOOP l) 0 (mkWord v st d.tick)
  if isNull t then d1 else d1.setCommand (t % 2 ^ 20) (commandUnits t v)

/-- The word of HOLD and SAFE (R290). -/
def Dev.heldPublish (d : Dev) (l : Nat) : Dev :=
  let x := d.loop l
  if x.state = .safe then d.loopPublish l (lpSafe (d.loopBlock l)) (stVALID + stFAULT)
  else d.loopPublish l x.held (stVALID + (if x.cause = 1 then stSTALE else 0) + (if x.cause = 2 || x.cause = 3 then stFAULT else 0))

/-! ### Mode requests (R283, R284) -/

/-- The host's waiting mode requests taken up at a computation: those that a tick boundary has seen (R284). -/
def Dev.takeModeWaits (d : Dev) (l : Nat) : Dev :=
  let x := d.loop l
  let seen := fun (w : LoopWait) => w.kind == 1 && decide (w.at_ < d.tick)
  let ms := x.waits.filter seen
  let y := ms.foldl (fun (a : LoopSt) w =>
    let b := { a with modeWait := a.modeWait ++ [w.id] }
    if w.how = 1 then { b with override := true, req := some (w.arg, 2) }
    else if w.how = 2 then (if a.override then { b with override := false, released := true, srcLast := none } else b)
    else if a.override then b
    else { b with req := some (w.arg, 1) }) { x with waits := x.waits.filter fun w => !seen w }
  d.setLoop l y

/-- The mode source looked at in a computation (R280, R283). -/
def Dev.takeModeSource (d : Dev) (l : Nat) : Dev :=
  let b := d.loopBlock l
  let x := d.loop l
  if lpKind b = 0 || x.override then d
  else match d.loopInput (lpModeSrc b) 0 (lpD b) with
    | none => d
    | some w =>
      let v := roundShift w 16
      let out := v < 0 || 3 < v
      let asked := if out then 0xFF else if lpKind b = 1 then lpMap b v.toNat else v.toNat
      if x.srcLast = some asked then d
      else
        let origin := if x.released then 3 else if lpKind b = 1 then 4 else 5
        let y := { x with srcLast := some asked, released := false }
        if asked = 0xFF || !lpEnabled b asked then
          (d.setLoop l { y with refused := y.refused + 1 }).raiseLimited 0x0605 (d.name clsLOOP l) d.tick (y.refused + 1)
            ([asked, origin, 0, 0] ++ leBytes 4 (y.refused + 1))
        else d.setLoop l { y with req := some (asked, origin) }

/-- The hand-over at a computation (R284): the block, and the event's previous mode, HARD mark and origin when the mode changes. -/
def Dev.handOver (d : Dev) (l : Nat) : Dev × Option (Nat × Nat × Nat) :=
  let b := d.loopBlock l
  let x := d.loop l
  match x.req with
  | none => (d, none)
  | some (m, origin) =>
    if m = x.mode then (d.setLoop l { x with req := none }, none)
    else
      let hard := x.bump.isNone && ((lpInt b).isNone || lpHard b m)
      let bump := if x.bump.isNone && !hard then some LoopRef.last else x.bump
      (d.setLoop l { x with req := none, mode := m, bump := bump, feRun := 0, feOk := 0 }, some (x.mode, if hard then 1 else 0, origin))

/-! ### States (R289 to R292) -/

/-- Entry to HOLD with its event. -/
def Dev.enterHold (d : Dev) (l cause : Nat) (held : Int) : Dev :=
  (d.setLoop l { d.loop l with state := .hold, cause := cause, held := held }).raise 0x0602 (d.name clsLOOP l)
    ([1, cause, 0, 0] ++ leBytes 4 (bitsOf 32 held))

/-- Entry to SAFE with its event. -/
def Dev.enterLoopSafe (d : Dev) (l : Nat) (e : Int) : Dev :=
  (d.setLoop l { d.loop l with state := .safe, cause := 0, safeE := e }).raise 0x0603 (d.name clsLOOP l)
    ([1, 0, 0, 0] ++ leBytes 4 (bitsOf 32 e))

/-- HOLD or SAFE left for RUN by a bumpless event (R286, R289); LOOP_CLEAR also clears the following error, which R292 reports
only under FE_ACTION 0. -/
def Dev.leaveHeld (d : Dev) (l : Nat) (clear : Bool) : Dev :=
  let x := d.loop l
  let y := { x with state := LoopState.run, cause := 0
                    bump := some (.value (if x.state = .safe then lpSafe (d.loopBlock l) else x.held))
                    feActive := x.feActive && !clear, feRun := if clear then 0 else x.feRun, feOk := if clear then 0 else x.feOk }
  let d1 := d.setLoop l y
  if x.state = .safe then d1.raise 0x0603 (d.name clsLOOP l) ([0, 0, 0, 0] ++ leBytes 4 (bitsOf 32 x.safeE))
  else d1.raise 0x0602 (d.name clsLOOP l) ([0, x.cause, 0, 0] ++ leBytes 4 (bitsOf 32 x.held))

/-- The following-error check of one computation (R292): the block, and whether the loop trips. -/
def Dev.feCheck (d : Dev) (l : Nat) (e sigma : Int) : Dev × Bool :=
  let b := d.loopBlock l
  let x := d.loop l
  if lpFeLimit b ≤ 0 || (lpFeGate b && sigma != 0) then (d, false)
  else
    let beyond := decide (lpFeLimit b < (e.natAbs : Int))
    let n := lpFeCount b
    let run := if beyond then min n (x.feRun + 1) else 0
    let ok := if beyond then 0 else min n (x.feOk + 1)
    let y := { x with feRun := run, feOk := ok }
    let ev := fun (z : Dev) (on : Nat) => z.raiseLimited 0x0604 (d.name clsLOOP l) d.tick on ([on, lpFeAction b, 0, 0] ++ leBytes 4 (bitsOf 32 e))
    if !x.feActive && n ≤ run then (ev (d.setLoop l { y with feActive := true }) 1, true)
    else if x.feActive && lpFeAction b = 0 && n ≤ ok then (ev (d.setLoop l { y with feActive := false }) 0, false)
    else (d.setLoop l y, false)

/-- What waits for a computation completes at it (R306, R310): `before` is the state code before it. -/
def Dev.finishWaits (d : Dev) (l before : Nat) : Dev :=
  let x := d.loop l
  let modes := if x.state = .run then x.modeWait else []
  let d1 := d.setLoop l { x with waits := x.waits.filter fun w => w.kind == 1, modeWait := if x.state = .run then [] else x.modeWait }
  let d2 := modes.foldl (fun (y : Dev) id => y.done id x.mode) d1
  (x.waits.filter fun w => w.kind != 1).foldl (fun (y : Dev) w => y.done w.id (if w.kind = 2 then x.state.code else before)) d2

/-! ### Chalk (R297 to R302) -/

/-- Chalk channel `c`. -/
def Dev.chalk (d : Dev) (c : Nat) : Option ChalkSt := Map.get d.eng.chalk c none

/-- Chalk channel `c` set. -/
def Dev.setChalk (d : Dev) (c : Nat) (x : Option ChalkSt) : Dev :=
  { d with eng := { d.eng with chalk := Map.set d.eng.chalk c x none } }

/-- What CHALK_ARM gives (R306). -/
def armRing (x : Desc) : Nat := x.byte 17
def armK (x : Desc) : Nat := x.byte 18
def armMode (x : Desc) : Nat := x.byte 19
def armLoop (x : Desc) : Nat := indexOf (x.u32 20)
def armOff (x : Desc) : Nat := x.u32 24
def armSize (x : Desc) : Nat := x.u32 28
def armDec (x : Desc) : Nat := x.u16 32
def armPre (x : Desc) : Nat := x.u16 34
def armPost (x : Desc) : Nat := x.u32 36
def armKind (x : Desc) : Nat := x.byte 40
def armNode (x : Desc) : Nat := x.byte 41
def armMask (x : Desc) : Nat := x.byte 42
def armThreshold (x : Desc) : Int := x.s32 44
def armCode (x : Desc) (j : Nat) : Nat := x.byte (48 + j)

/-- Words of a record (R299). -/
def recWords (x : Desc) : Nat := (16 + 4 * armK x + 31) / 32

/-- What a computation offers to chalk: values by node code, none where the computation forms none (R298), with the tick, the mode,
the state and the loop events. -/
structure ChalkCtx where
  node : Nat → Option Int
  mode : Nat
  state : Nat
  events : Nat

/-- The node values of a record in order; a value that no computation formed is a free one. -/
def Dev.chalkValues (d : Dev) (x : Desc) (ctx : ChalkCtx) : List Int × Dev :=
  (List.range (armK x)).foldl (fun (a : List Int × Dev) j =>
    match ctx.node (armCode x j) with
    | some v => (a.1 ++ [v], a.2)
    | none => (a.1 ++ [signedOf 32 a.2.freeBits.toNat], a.2.nextFree)) ([], d)

/-- Whether a record triggers (R300). -/
def ChalkSt.fires (s : ChalkSt) (v : Int) : Bool :=
  let t := armThreshold s.arm
  let up := match s.prev with
    | some p => decide (p ≤ t) && decide (t < v)
    | none => false
  let down := match s.prev with
    | some p => decide (t ≤ p) && decide (v < t)
    | none => false
  match armKind s.arm with
  | 0 => s.fire
  | 1 => up
  | 2 => down
  | 3 => up || down
  | _ => Nat.land s.events (armMask s.arm) != 0

/-- A channel shown (R313). -/
def Dev.showChalk (d : Dev) (c : Nat) : Dev :=
  match d.chalk c with
  | none => d.put Reg.CHALK_STAT.ARMED c 0
  | some s =>
    (((((d.put Reg.CHALK_STAT.ARMED c 1).put Reg.CHALK_STAT.MODE c (armMode s.arm)).put Reg.CHALK_STAT.RING c (armRing s.arm)).put
      Reg.CHALK_STAT.LOOP c (armLoop s.arm)).put Reg.CHALK_BUF.OFFSET c (armOff s.arm)).put Reg.CHALK_SIZE.WORDS c (armSize s.arm)

/-- One record of channel `c` (R298 to R301). -/
def Dev.chalkRecord (d : Dev) (c : Nat) (s0 : ChalkSt) (ctx : ChalkCtx) : Dev :=
  let x := s0.arm
  let vs := d.chalkValues x ctx
  let tv := vs.1.getD (armNode x) 0
  let w := recWords x
  let slots := armSize x / w
  let waiting := armMode x != 0 && s0.post.isNone
  let fires := waiting && s0.fires tv
  -- before a trigger only the latest PRE records are kept
  let kept := if waiting && !fires then
      (let olds := s0.recs.filter (·.ready); let pres := s0.recs.filter fun r => !r.ready
       olds ++ pres.drop (pres.length + 1 - max 1 (armPre x)))
    else s0.recs
  let keepIt := !(waiting && !fires && armPre x = 0)
  let room := kept.length < slots
  let recs1 := if fires then kept.map fun r => if r.ready then r else { r with ready := true, flags := Nat.lor r.flags 4 } else kept
  let flags := (if fires then 2 else 0) + (if 0 < s0.drops then 8 else 0)
  let r : ChalkRec := { slot := s0.next, flags := flags, drops := s0.drops, ready := !waiting || fires }
  let bytes := leBytes 8 d.tick ++ leBytes 2 (armLoop x) ++ [armK x, flags, ctx.mode + 4 * ctx.state, c] ++ leBytes 2 s0.drops
    ++ (vs.1.map fun v => leBytes 4 (bitsOf 32 v)).flatten
  let padded := (bytes ++ List.replicate (32 * w) 0).take (32 * w)
  let left := if fires then some (armPost x) else s0.post.map fun n => n - 1
  -- repeated arming waits again once its POST records are taken
  let post1 := if armMode x = 2 && left = some 0 then none else left
  let s1 := { s0 with prev := some tv, events := 0, fire := s0.fire && !fires, post := post1 }
  let d1 := if fires then (vs.2.put Reg.CHALK_STAT.TRIGGERED c 1).raise 0x0606 (vs.2.name clsLOOP (armLoop x)) ([c, 0, 0, 0] ++ leBytes 8 vs.2.tick)
    else vs.2
  if !keepIt then d1.setChalk c (some { s1 with recs := recs1 })
  else if room then
    (d1.memWrite (32 * (d1.get Reg.CHALK_REGION.BASE 0 + armOff x + w * s0.next)) padded readerLoop).setChalk c
      (some { s1 with recs := recs1 ++ [r], next := (s0.next + 1) % max 1 slots, drops := 0 })
  else
    let n := countUp 0xFFFF (d1.get Reg.CHALK_COUNT.DROPPED c)
    let d2 := (d1.put Reg.CHALK_COUNT.DROPPED c n).setChalk c (some { s1 with recs := recs1, drops := min 0xFFFF (s0.drops + 1) })
    if s0.drops = 0 then d2.raise 0x0607 (d2.name clsLOOP (armLoop x)) ([c, 0, 0, 0] ++ leBytes 4 n) else d2

/-- Every channel that traces loop `l` at one of its computations (R298). -/
def Dev.chalkAll (d : Dev) (l : Nat) (ctx : ChalkCtx) : Dev :=
  (List.range 64).foldl (fun (y : Dev) c =>
    match y.chalk c with
    | none => y
    | some s =>
      if armLoop s.arm != l then y
      else
        let s1 := { s with events := Nat.lor s.events ctx.events, count := s.count + 1 }
        -- POST records of a trigger all taken: nothing more until they are streamed
        if s1.count < armDec s.arm || s.post = some 0 then y.setChalk c (some s1)
        else y.chalkRecord c { s1 with count := 0 } ctx) d

/-- The end of a channel's capture: single arming ends with its counts (R311). -/
def Dev.chalkEnd (d : Dev) (c : Nat) (st : Status) : Dev :=
  match d.chalk c with
  | none => d
  | some s =>
    let d1 := (d.setChalk c none).showChalk c
    match s.id with
    | some id => d1.finish id st (d.get Reg.CHALK_COUNT.STREAMED c + 2 ^ 32 * d.get Reg.CHALK_COUNT.DROPPED c)
    | none => d1

/-- Units put into a trace ring from unit `t` on, past the last unit at unit 0, or sent to the ring server (R462, R478). -/
def Dev.putTrace (d : Dev) (q t : Nat) : List (List Nat) → Dev
  | [] => d
  | u :: us =>
    let size := d.get Reg.TQ_CFG.SIZE_LOG2 q
    let base := 2 ^ 6 * d.get Reg.TQ_BASE_LO.ADDR_LO q + 2 ^ 32 * d.get Reg.TQ_BASE_HI.ADDR_HI q
    (if d.remote then d.remoteTrace q u else d.emit (.hostWrite (base + 32 * t) u)).putTrace q ((t + 1) % 2 ^ size) us

/-- The words of a record read for streaming; a word that is uncorrectable reads 0 and marks the record (R302). -/
def Dev.chalkRead (d : Dev) (w : Nat) : Nat → (List (List Nat) × Bool) × Dev
  | 0 => (([], false), d)
  | n + 1 =>
    let r := d.readWord w readerLoop
    let t := r.2.chalkRead (w + 1) n
    match r.1 with
    | some bs => ((bs :: t.1.1, t.1.2), t.2)
    | none => ((List.replicate 32 0 :: t.1.1, true), t.2)

/-- R478, R301, R302, R311: the oldest record of channel `c` that may be streamed goes to its trace ring when it fits. -/
def execTraceRecordWrite (c : Nat) (s : State) : Host.Outcome State Fault Refusal :=
  s.onDev fun d =>
    match if c < 64 then d.chalk c else none with
    | none => d
    | some x =>
      let q := armRing x.arm
      let size := d.get Reg.TQ_CFG.SIZE_LOG2 q
      let t := d.get Reg.TQ_STAT.TAIL q
      let used := (t + 2 ^ size - d.get Reg.TQ_STAT.HEAD q) % 2 ^ size
      let w := recWords x.arm
      match x.recs with
      | [] => d
      | r :: rest =>
        if !d.live || !r.ready || !d.isSet Reg.TQ_CTRL.ENABLE q || (!d.remote && decide (2 ^ size - 1 < used + w)) then d
        else
          let rd := d.chalkRead (d.get Reg.CHALK_REGION.BASE 0 + armOff x.arm + w * r.slot) w
          let units := rd.1.1.mapIdx fun i u =>
            if i = 0 && decide (rd.1.2 = true) && u = List.replicate 32 0 then u.set 11 1
            else if i = 0 then u.set 11 (Nat.lor r.flags (if rd.1.2 then 1 else 0)) else u
          let d0 := rd.2.putTrace q t units
          let d1 := if d0.remote then d0
            else { d0 with traceDue := Map.set d0.traceDue q 1 0 }.put Reg.TQ_STAT.TAIL q ((t + w) % 2 ^ size)
          let d2 := d1.wrapUp Reg.CHALK_COUNT.STREAMED c
          let x1 := { x with recs := rest }
          if x.post = some 0 && rest.isEmpty then
            (d2.setChalk c (some x1)).chalkEnd c .ok
          else d2.setChalk c (some x1)

/-! ### One computation (R268 to R292, R298) -/

/-- The values that chalk sees of a RUN computation or, without one, of a held one. -/
def chalkNodes (b : List Nat) (m : Nat) (sp fb e : Option Int) (r : Option LoopRun) (st : SecStates) (out : Int) (status : Nat)
    (stale : Nat) (code : Nat) : Option Int :=
  let q := fun (v : Int) => saturate 32 (roundShift v 16)
  let n := lpN b
  let sec := fun (base : Nat) (f : Nat → Option Int) => if n ≤ code - base then some 0 else f (code - base)
  if code = 0 then sp
  else if code = 1 then fb
  else if code = 2 then e
  else if code = 3 then r.map fun x => q x.x0
  else if code = 4 then r.map (·.f)
  else if code = 5 then r.map (·.uc)
  else if code = 6 then r.map (·.u)
  else if code = 7 then r.map (·.ulim)
  else if code = 8 then some out
  else if code = 9 then (lpInt b).map fun i => q (secGet st i (2 * m))
  else if code = 0x0A then
    let sg := match r with
      | some x => if x.sigma = 1 then 1 else if x.sigma = -1 then 2 else 0
      | none => 0
    some ((status + 2 ^ 8 * sg + 2 ^ 10 * stale : Nat) : Int)
  else if 0x10 ≤ code && code < 0x20 then sec 0x10 fun j => r.map fun x => q (x.ys.getD j 0)
  else if 0x20 ≤ code && code < 0x30 then sec 0x20 fun j => some (q (secGet st j (secPlace b m j)))
  else sec 0x30 fun j => some (q (secGet st j (secPlace b m j + 1)))

/-- The stale run after a computation. -/
def staleAfter (n : Nat) (missing : Bool) : Nat := if missing then min 255 (n + 1) else 0

/-- The section states of a held computation, read where a chalk channel traces the loop (R298); an uncorrectable word zeroes them and
makes the hold's cause 3 (R291). -/
def Dev.heldStates (d : Dev) (l : Nat) : SecStates × Dev :=
  let x := d.loop l
  let traced := (List.range 64).any fun c => match d.chalk c with
    | some s => armLoop s.arm == l
    | none => false
  if !traced then ([], d)
  else
    let r := d.readSecs x.secs
    match r.1 with
    | some st => (st, r.2.2)
    | none =>
      let z := r.2.2.writeSecs x.secs (zeroSecs x.secs)
      (zeroSecs x.secs, if x.state = .hold then z.setLoop l { z.loop l with cause := 3 } else z)

/-- A computation in HOLD or SAFE that stays there (R290, R292). -/
def Dev.heldCompute (d : Dev) (l before : Nat) (sp fb : Option Int) (ev : Nat) : Dev :=
  let b := d.loopBlock l
  let x := d.loop l
  let d1 := d.setLoop l { x with saturated := false }
  let e := match sp, fb with
    | some a, some c => some (saturate 32 (a - c))
    | _, _ => none
  let r := match e with
    | some v => if x.state = LoopState.hold then d1.feCheck l v 0 else (d1, false)
    | none => (d1, false)
  let d2 := if r.2 && lpFeAction b = 2 then r.1.enterLoopSafe l (e.getD 0)
    else if r.2 && lpFeAction b = 1 then r.1.setLoop l { r.1.loop l with cause := 2 }
    else r.1
  let hs := d2.heldStates l
  let d3 := hs.2.heldPublish l
  let y := d3.loop l
  let st := hs.1
  let status := if y.state = .safe then stVALID + stFAULT
    else stVALID + (if y.cause = 1 then stSTALE else 0) + (if y.cause = 2 || y.cause = 3 then stFAULT else 0)
  let ctx : ChalkCtx :=
    { node := chalkNodes b y.mode sp fb e none st y.uPrev status y.stale, mode := y.mode, state := y.state.code
      events := ev + (if r.2 then 4 else 0) + (if r.2 && lpFeAction b = 2 then 2 else 0) }
  ((d3.chalkAll l ctx).finishWaits l before).showLoop l

/-- The tracked integrating states of the enabled inactive modes (R288), from the states before the update. -/
def trackAll (b : List Nat) (m : Nat) (before after : SecStates) (sps : List (Nat × Int)) (fb ff out : Int) : SecStates :=
  match lpInt b with
  | some i =>
    if lpTrack b then
      sps.foldl (fun (a : SecStates) p => if p.1 = m then a else secSet a i (2 * p.1) (backCalc b p.1 i before p.2 fb ff out)) after
    else after
  | none => after

/-- A computation in RUN (R268 to R292): `ho` is a hand-over in this computation. -/
def Dev.runCompute (d : Dev) (l before : Nat) (missing : Bool) (st : SecStates) (sp fb ff : Int) (sps : List (Nat × Int))
    (subst : Bool) (ho : Option (Nat × Nat × Nat)) : Dev :=
  let b := d.loopBlock l
  let x := d.loop l
  let m := x.mode
  let ref := match x.bump with
    | none => none
    | some .start => some (d.startRef b)
    | some .last => some (d.lastRef l)
    | some (.value v) => some v
  let st0 := match ref, lpInt b with
    | some v, some i => secSet st i (2 * m) (backCalc b m i st sp fb ff v)
    | _, _ => st
  let r := loopRun b m st0 sp fb ff (d.lastRef l) ref
  let after := trackAll b m st r.st sps fb ff r.out
  let wasSat := x.saturated
  let d1 := (d.writeSecs x.secs after).setLoop l { x with bump := none, saturated := r.sigma != 0, subst := subst }
  let status := stVALID + (if missing then stSTALE else 0) + (if subst then stSUBSTITUTED else 0)
    + (if r.sigma != 0 || r.sat then stCLAMPED else 0)
  let fe := d1.feCheck l r.e r.sigma
  let hold := x.waits.any fun w => w.kind == 2 && w.arg == 1
  let d2 := if fe.2 && lpFeAction b = 1 then fe.1.enterHold l 2 r.out
    else if hold then fe.1.enterHold l 4 r.out
    else if fe.2 && lpFeAction b = 2 then fe.1.enterLoopSafe l r.e
    else fe.1
  let stays := (d2.loop l).state = .run
  let d3 := if stays then d2.loopPublish l r.out status else d2.heldPublish l
  let d4 := match ho with
    | some (p, hard, origin) => d3.raise 0x0601 (d3.name clsLOOP l) ([p, m, hard, origin] ++ leBytes 4 (bitsOf 32 (d3.loop l).uPrev))
    | none => d3
  let y := d4.loop l
  let shown := if stays then status
    else if y.state = .safe then stVALID + stFAULT else stVALID + (if y.cause = 2 then stFAULT else 0)
  let ctx : ChalkCtx :=
    { node := chalkNodes b m (some sp) (some fb) (some r.e) (some r) after y.uPrev shown y.stale, mode := m, state := y.state.code
      events := (if ho.isSome then 1 else 0) + (if stays then 0 else 2) + (if fe.2 then 4 else 0) + (if r.sigma != 0 && !wasSat then 8 else 0) }
  ((d4.chalkAll l ctx).finishWaits l before).showLoop l

/-- One computation of loop `l` (R268, R277 to R292). -/
def Dev.loopCompute (d : Dev) (l : Nat) : Dev :=
  let b := d.loopBlock l
  let before := (d.loop l).state.code
  let node := if isNull (lpSub b) then 0 else d.name clsNODE (indexOf (lpSub b))
  let reads := [(lpFb b, lpFbQ b), (node, 0), (lpFf b, lpFfQ b), (lpModeSrc b, 0)] ++ (lpModes b).map fun m => (lpSp b m, lpSpQ b m)
  let dr := (reads.filter fun u => !isNull u.1).foldl (fun (y : Dev) u => y.touchValue u.1 u.2 readerLoop) d
  let dm := ((dr.takeModeWaits l).takeModeSource l)
  let x0 := dm.loop l
  -- a force released on the target makes the next computation bumpless (R294)
  let rel := Map.get dm.eng.unforced (lpTarget b % 2 ^ 20) none
  let x1 := { x0 with at_ := some d.tick
                      bump := match rel with
                        | some v => if lpForceBumpless b && !isNull (lpTarget b) then some (.value (unitsValue (lpTarget b) v)) else x0.bump
                        | none => x0.bump }
  let d0 := Dev.setLoop { dm with eng := { dm.eng with unforced := Map.set dm.eng.unforced (lpTarget b % 2 ^ 20) none none } } l x1
  let fbr := d0.fbInput b x0.subst
  let ffr := if isNull (lpFf b) then some 0 else d0.loopInput (lpFf b) (lpFfQ b) (lpD b)
  let spr := fun (m : Nat) => d0.spInput b m
  let keep := { x1 with fbLast := if fbr.1.isSome then fbr.1 else x1.fbLast, ffLast := if ffr.isSome then ffr else x1.ffLast
                        spLast := (lpModes b).foldl (fun (a : Map (Option Int)) m => match spr m with
                          | some v => Map.set a m (some v) none
                          | none => a) x1.spLast
                        subst := fbr.2 }
  let d1 := d0.setLoop l keep
  let spAt := fun (m : Nat) => Map.get keep.spLast m none
  let miss := fun (m : Nat) => fbr.1.isNone || ffr.isNone || (spr m).isNone
  let clear := x1.waits.any fun w => w.kind == 3
  let release := x1.waits.any fun w => w.kind == 2 && w.arg == 0
  let go := if x1.state = .safe then clear
    else if x1.cause = 1 then !miss x1.mode
    else if x1.cause = 4 then release
    else clear
  let held := x1.state = .hold || x1.state = .safe
  if held && !go then
    (d1.setLoop l { keep with stale := staleAfter x1.stale (miss x1.mode) }).heldCompute l before (spAt x1.mode) keep.fbLast 0
  else
    let d2 := if held then d1.leaveHeld l (clear && !(x1.state = .hold && (x1.cause = 1 || x1.cause = 4))) else d1
    let h := d2.handOver l
    let y := h.1.loop l
    let missing := miss y.mode
    let d3 := h.1.setLoop l { y with stale := staleAfter y.stale missing }
    let stale := (d3.loop l).stale
    match keep.fbLast, (if isNull (lpFf b) then some 0 else keep.ffLast), spAt y.mode with
    | some fb, some ff, some sp =>
      if lpStaleLimit b ≤ stale then (d3.enterHold l 1 (d3.lastRef l)).heldCompute l before (some sp) (some fb) 2
      else
        let r := d3.readSecs y.secs
        match r.1 with
        | some st =>
          let sps := (lpModes b).filterMap fun m => (spAt m).map fun v => (m, v)
          r.2.2.runCompute l before missing st sp fb ff sps fbr.2 h.2
        | none =>
          let z := (r.2.2.writeSecs y.secs (zeroSecs y.secs)).logFault 9 0xFF (r.2.1.getD 0 % 65536)
          (z.enterHold l 3 (z.lastRef l)).heldCompute l before (some sp) (some fb) 2
    | fb, _, sp => (d3.enterHold l 1 (d3.lastRef l)).heldCompute l before sp fb 2

/-- How many computation ticks of a loop lie in [a, b). -/
def computesIn (b : List Nat) (a e : Nat) : Nat :=
  let upTo := fun (t : Nat) => if t ≤ lpPhase b then 0 else (t - lpPhase b + lpP b - 1) / max 1 (lpP b)
  upTo e - upTo a

/-- The loops that are not IDLE. -/
def Dev.admitted (d : Dev) : List Nat := (d.eng.loops.filter fun p => p.2.state != .idle).map (·.1)

/-- Computations that the admitted loops miss in [a, e), added to LOOP_MISSED (R293). -/
def Dev.countMissed (d : Dev) (a e : Nat) : Dev :=
  let n := d.admitted.foldl (fun (t : Nat) l => t + computesIn (d.loopBlock l) a e) 0
  d.put Reg.LOOP_MISSED.MISSED 0 (min 0xFFFFFFFF (d.get Reg.LOOP_MISSED.MISSED 0 + n))

/-- The first computation after a dip or a freeze reports what was missed once (R293); after a thaw the ticks that its
TIME_STEP passed belong to the freeze (R688). -/
def Dev.loopResumed (d : Dev) : Dev :=
  match d.eng.stopFrom, d.eng.backFrom with
  | some a, some bk =>
    if d.tick < bk then d
    else
      let d1 := if d.eng.stopCause = 2 then d.countMissed a d.tick else d
      Dev.raise { d1 with eng := { d1.eng with stopFrom := none, backFrom := none } } 0x0608 d1.nullName
        ([d.eng.stopCause, 0, 0, 0] ++ leBytes 4 (d1.get Reg.LOOP_MISSED.MISSED 0))
  | _, _ => d

/-- Whether the engine computes in this tick (R293). -/
def Dev.loopsRun (d : Dev) : Bool :=
  d.live && !d.nvm.noControl && d.isSet Reg.LOOP_CTRL.RUN 0
    && (match d.eng.stopFrom, d.eng.backFrom with
      | none, _ => true
      | some a, none => decide (d.tick < a)
      | some _, some bk => decide (bk ≤ d.tick))

/-- Every admitted loop makes a bumpless resumption at its next computation (R286, R293). -/
def Dev.resumeAll (d : Dev) : Dev :=
  d.admitted.foldl (fun (y : Dev) l =>
    let x := y.loop l
    if x.bump.isNone then y.setLoop l { x with bump := some .last } else y) d

/-- The engine stands still from a tick on: cause 1 dip, 2 freeze (R293). A stop within a stop changes nothing. -/
def Dev.loopStop (d : Dev) (from_ cause : Nat) : Dev :=
  let d1 := if d.eng.stopFrom.isSome && d.eng.backFrom.isNone then d
    else { d with eng := { d.eng with stopFrom := some from_, stopCause := cause, backFrom := none } }
  (d1.putBit Reg.LOOP_STAT.RUNNING 0 false).putBit Reg.LOOP_STAT.DIP 0 (cause == 1 || d.isSet Reg.LOOP_STAT.DIP 0)

/-- The engine runs again from a tick on, each loop by a bumpless resumption; what was missed is counted, and the first
computation reports it (R293). With no loop admitted there is nothing to report. -/
def Dev.loopBack (d : Dev) (from_ : Nat) : Dev :=
  let d1 := match d.eng.stopFrom with
    | some a => d.countMissed a from_
    | none => d
  let d2 : Dev := if d1.admitted.isEmpty || d1.eng.stopFrom.isNone then { d1 with eng := { d1.eng with stopFrom := none, backFrom := none } }
    else { d1 with eng := { d1.eng with stopFrom := some from_, backFrom := some from_ } }
  (d2.resumeAll.putBit Reg.LOOP_STAT.RUNNING 0 (d.isSet Reg.LOOP_CTRL.RUN 0)).put Reg.LOOP_STAT.DIP 0 0

/-- Whether a switch or a removal of loop `l` falls due at a boundary that has passed: the old configuration computes up to it only
(R307, R309). -/
def Dev.loopTurns (d : Dev) (l : Nat) : Bool :=
  d.eng.sets.any (fun o => o.slot == l && o.stage == 1 && decide (o.checkedAt < d.tick))
    || d.eng.removals.any fun r => r.2.1 == l && decide (r.2.2 < d.tick)

/-- R268, R273: the computation of loop `l` in this tick. -/
def execLoopCompute (l : Nat) (s : State) : Host.Outcome State Fault Refusal :=
  s.onDev fun d =>
    let b := d.loopBlock l
    let x := d.loop l
    if 512 ≤ l || !d.loopsRun || d.loopTurns l || x.state = .idle || x.at_ = some d.tick || lpP b = 0
        || d.tick < lpPhase b || (d.tick - lpPhase b) % lpP b != 0 then d
    else d.loopResumed.loopCompute l

/-- R282: the urgent request before a computation. -/
def execLoopUrgentIssue (l : Nat) (s : State) : Host.Outcome State Fault Refusal :=
  s.onDev fun d =>
    let b := d.loopBlock l
    let t := d.tick + 1 + lpLead b
    if 512 ≤ l || !d.loopsRun || d.loopTurns l || (d.loop l).state = .idle || !lpUrgent b || lpP b = 0 || t < lpPhase b
        || (t - lpPhase b) % lpP b != 0 || (d.loop l).urgAt = some d.tick then d
    else match d.entryFor (lpFb b % 2 ^ 20) with
      | none => d
      | some (c, e) =>
        let i := 64 * c + e
        let u : Urgent := { origin := .loop l, ch := lpFb b % 2 ^ 20, gain := d.get Reg.ENTRY_A.GAIN i, osr := d.get Reg.ENTRY_A.OSR i
                            acq := d.get Reg.ENTRY_B.ACQ i }
        (d.setLoop l { d.loop l with urgAt := some d.tick }).askUrgent c u

/-- R293: a write of LOOP_CTRL. -/
def Dev.writeLoopCtrl (d : Dev) (v : Nat) : Dev :=
  let on := bitAt v 0
  let was := d.isSet Reg.LOOP_CTRL.RUN 0
  let d1 := d.putHost Reg.LOOP_CTRL.RUN 0 (v % 2)
  let d2 := d1.putBit Reg.LOOP_STAT.RUNNING 0 (on && d1.eng.stopFrom.isNone && !d1.nvm.noControl)
  if on && !was then d2.resumeAll else d2

/-- R293. -/
def execLoopCtrlWrite (v : Nat) (s : State) : Host.Outcome State Fault Refusal :=
  s.onDev fun d => d.hostReg 0x60008 v fun x => x.writeLoopCtrl v

/-! ### Checks of a block (R305) -/

/-- The larger hop count of the route entry of a device (R81). That a path whose valid bit is 0 does not count is the model's reading
(DEDUCED, log 192): R81 names the primary and the alternate path and does not speak of valid bits. -/
def Dev.routeHops (d : Dev) (dev : Nat) : Nat :=
  let p := if d.isSet Reg.QUILT_ROUTE.PRI_VALID dev then d.get Reg.QUILT_ROUTE.PRI_HOPS dev else 0
  let a := if d.isSet Reg.QUILT_ROUTE.ALT_VALID dev then d.get Reg.QUILT_ROUTE.ALT_HOPS dev else 0
  max p a

/-- R81: whether a declared delay serves a hop count. -/
def delayOk (dly hops : Nat) : Bool := 4 ≤ dly && 2 + (3 + hops + 9) / 10 ≤ dly

/-- The binding sources of a block that may be remote: FB, FF, mode source, setpoint sources of the enabled modes. -/
def loopSources (b : List Nat) : List Nat :=
  ([lpFb b, lpFf b, lpModeSrc b] ++ (lpModes b).map fun m => lpSp b m).filter fun h => !isNull h

/-- Whether a region of the engines meets words [w, w + n) (R305). -/
def Dev.inEngines (d : Dev) (w n : Nat) : Bool :=
  let hit := fun (b k : Nat) => decide (w < b + k) && decide (b < w + n)
  hit (d.get Reg.LOOP_REGION.BASE 0) 4096 || hit (d.get Reg.CHALK_REGION.BASE 0) 163840 || hit d.patBase patWords

/-- Check 1 on the header word (R303). -/
def loopHeaderOk (b : List Nat) : Bool :=
  b.getD 0 0 == 1 && 1 ≤ lpN b && lpN b ≤ 16 && 1 ≤ b.getD 2 0 && b.getD 2 0 ≤ 15 && b.getD 3 0 < 4 && lpEnabled b (b.getD 3 0)
    && lpFeAction b != 3 && b.getD 4 0 < 32 && (b.getD 5 0 == 0xFF || b.getD 5 0 < lpN b) && 1 ≤ lpStaleLimit b && lpKind b ≤ 2
    && 2 ≤ lpP b && lpP b ≤ 360000000 && lpPhase b < lpP b && 0 ≤ lpFeLimit b && 1 ≤ lpFeCount b

/-- Check 1 on the input, mode and section words (R303, R304). -/
def loopWordsOk (b : List Nat) : Bool :=
  b.getD 42 0 ≤ 1 && (lpD b == 0 || 4 ≤ lpD b) && zeroAt b 58 6
    && (lpModes b).all fun m => zeroAt b (69 + 32 * m) 3 && 0 ≤ lpMode b m 28
      && (List.range (lpN b)).all fun j =>
        let a := 32 * (6 + m * lpN b + j)
        zeroAt b (a + 25) 7 && (List.range 5).all fun i => b.getD (a + 20 + i) 0 ≤ 31

/-- Check 2 (R305). -/
def loopCoefsOk (b : List Nat) : Bool :=
  (lpModes b).all fun m => lpMode b m 20 ≤ lpMode b m 24
    && (List.range (lpN b)).all fun j =>
      (List.range 5).all (fun i => coefOk (leAt b (32 * (6 + m * lpN b + j) + 4 * i) 4))
        && (match lpInt b with
          | some i => decide (j ≤ i) || (lpCoef b m j 0).1 != 0
          | none => true)

/-- Check 3 (R305). -/
def Dev.loopObjectsOk (d : Dev) (b : List Nat) : Bool :=
  let t := lpTarget b
  let tc := classOf t
  !isNull (lpFb b) && ([lpFb b, lpFf b, lpModeSrc b, t] ++ (lpModes b).map fun m => lpSp b m).all (fun h => !d.badName h)
    && !d.badHandle (lpSub b)
    && (isNull t || (d.isLocal t && (tc == clsDO || tc == clsSOL || tc == clsFAN || tc == clsAO || tc == clsFLOAT)))
    && (isNull (lpSub b) || classOf (lpSub b) == clsNODE)
    && (if lpKind b = 0 then isNull (lpModeSrc b) else !isNull (lpModeSrc b))
    && (lpKind b != 1 || classOf (lpModeSrc b) == clsZONE)

/-- Check 5 (R282, R305). -/
def Dev.loopUrgentOk (d : Dev) (b : List Nat) : Bool :=
  lpLead b < lpP b && (!lpUrgent b || (d.isLocal (lpFb b) && (classOf (lpFb b) == clsUI || classOf (lpFb b) == clsINTL)
    && (d.entryFor (lpFb b % 2 ^ 20)).isSome && 1 ≤ lpLead b))

/-- Whether output `h` takes no writer: half of a DO pair or of an enabled FLOAT, a linked AO, the odd half of a SOL pair (R161,
R167, R359, R380). -/
def Dev.refusesWriter (d : Dev) (h : Nat) : Bool :=
  (classOf h == clsDO && d.doTaken (indexOf h)) || (classOf h == clsAO && d.aoLinked (indexOf h))
    || (classOf h == clsSOL && d.solOddReg (indexOf h))

/-- Checks 1 to 5 on a whole block: the failing code, or 0. -/
def Dev.loopCheckA (d : Dev) (l : Nat) (b : List Nat) : Nat :=
  let t := lpTarget b % 2 ^ 20
  if !loopHeaderOk b || !loopWordsOk b then 1
  else if !loopCoefsOk b then 2
  else if !d.loopObjectsOk b then 3
  else if !isNull t && (d.refusesWriter t || (d.writerOf t != 0 && d.writerOf t != 0x10000 + l)) then 4
  else if !d.loopUrgentOk b then 5
  else 0

/-- Checks 7 to 10: the failing code with what bytes 4 to 7 report, or the lane and the sections. -/
def Dev.loopCheckB (d : Dev) (l : Nat) (b : List Nat) : (Nat × Nat) ⊕ (Nat × List Nat) :=
  let own := if (d.loop l).state = .idle then none else some (d.loop l).lane
  let p : Planned := { slot := l, lane := 0, cost := loopCost b, period := lpP b, phase := lpPhase b, secs := [] }
  let lane := d.laneFor p own
  match lane.1 with
  | none => .inl (7, lane.2)
  | some ln => match d.sectionsFor l (lpN b) with
    | none => .inl (8, 0)
    | some secs =>
      let own := d.devNum * 2 ^ 20
      let remotes := (loopSources b).filter fun h => !d.isLocal h
      if !d.routesFit (loopProducers own b).length (loopProducers own (d.loopBlock l)).length then .inl (9, 0)
      else if !remotes.isEmpty && (!d.isSet Reg.GLOBAL_DEVNUM.ACTIVE_VALID 0
          || remotes.any fun h => !delayOk (lpD b) (d.routeHops (devOf h))) then .inl (10, 0)
      else .inr (ln, secs)

/-- The status of a failing check (R305). -/
def Dev.loopStatus (d : Dev) (code : Nat) : Status :=
  if code = 3 then .badObject
  else if code < 7 then .badParam
  else if code = 10 && !d.isSet Reg.GLOBAL_DEVNUM.ACTIVE_VALID 0 then .unreachable
  else .notAdmitted

/-- The result bytes of LOOP_SET (R306). -/
def loopResult (code lane cost hi : Nat) : Nat := code + 2 ^ 8 * lane + 2 ^ 16 * cost + 2 ^ 32 * hi

/-- A LOOP_SET ends before its switch. -/
def Dev.endSet (d : Dev) (id : Nat) (st : Status) (result : Nat) : Dev :=
  (Dev.showEngine { d with eng := { d.eng with sets := d.eng.sets.filter fun o => o.id != id } }).finish id st result

/-- The end of the check of a LOOP_SET (R305, R307, R648). -/
def Dev.loopChecked (d : Dev) (id : Nat) (x : Desc) : Dev :=
  match (d.eng.sets.find? fun o => o.stage == 0).filter fun o => o.id == id with
  | none => d
  | some o =>
    let w := x.u32 20
    let stop := fun (y : Dev) (code cost hi : Nat) => y.endSet id (y.loopStatus code) (loopResult code 0xFF cost hi)
    if memWords ≤ w || d.inEngines w 1 then stop d 6 0 0
    else match d.readWords w 1 readerCore with
      | (none, d1) => d1.endSet id .dataError 0
      | (some hd, d1) =>
        if !loopHeaderOk hd then stop d1 1 0 0
        else
          let n := 6 + 4 * lpN hd
          let there := min n (memWords - w)
          match d1.readWords w there readerCore with
          | (none, d2) => d2.endSet id .dataError 0
          | (some bs, d2) =>
            let cost := loopCost bs
            let a := d2.loopCheckA o.slot bs
            if a != 0 then stop d2 a cost 0
            else if there < n || d2.inEngines w n then stop d2 6 cost 0
            else match d2.loopCheckB o.slot bs with
              | .inl (code, hi) => stop d2 code cost hi
              | .inr (lane, secs) =>
                if !d2.manifestOk (x.u32 16) 0x0601 bs then d2.endSet id .authFailed 0
                else if bitAt (x.byte 24) 0 then d2.endSet id .ok (loopResult 0 lane cost 0)
                else
                  let o1 := { o with stage := 1, block := bs, lane := lane, secs := secs, checkedAt := d2.tick }
                  Dev.showEngine { d2 with eng := { d2.eng with sets := d2.eng.sets.map fun e => if e.id == id then o1 else e } }

/-- A configuration put in force as a new admission (R289, R307). -/
def Dev.admitLoop (d : Dev) (l : Nat) (b : List Nat) (lane : Nat) (secs : List Nat) (keep : Bool) : Dev :=
  let x := d.loop l
  let old := d.loopBlock l
  let same := keep && x.state != .idle && lpN old = lpN b && lpInt old == lpInt b && secs == x.secs
  let ot := lpTarget old % 2 ^ 20
  let t := lpTarget b % 2 ^ 20
  let d1 := if x.state != .idle && !isNull ot then d.setWriter ot 0 else d
  let d2 := if isNull t then d1 else d1.setWriter t (0x10000 + l)
  let d3 := if x.state = .hold then d2.raise 0x0602 (d2.name clsLOOP l) ([0, x.cause, 0, 0] ++ leBytes 4 (bitsOf 32 x.held))
    else if x.state = .safe then d2.raise 0x0603 (d2.name clsLOOP l) ([0, 0, 0, 0] ++ leBytes 4 (bitsOf 32 x.safeE))
    else d2
  let m := b.getD 3 0
  let d4 := if x.state != .idle && m != x.mode then
      d3.raise 0x0601 (d3.name clsLOOP l) ([x.mode, m, 0, 1] ++ leBytes 4 (bitsOf 32 x.uPrev))
    else d3
  let y : LoopSt :=
    { LoopSt.init with state := .run, mode := m, lane := lane, secs := secs, uPrev := x.uPrev, published := x.published
                       bump := some (if keep then .last else .start), refused := x.refused
                       fbLast := if same then x.fbLast else none, ffLast := if same then x.ffLast else none
                       spLast := if same then x.spLast else [], at_ := x.at_, waits := x.waits, modeWait := x.modeWait }
  let d5 := Dev.setLoop { d4 with eng := { d4.eng with unforced := Map.set d4.eng.unforced t none none } } l y
  let d6 := if same then d5 else d5.writeSecs secs (zeroSecs secs)
  ((d6.put Reg.LOOP_SLOT_CNT.COST l (loopCost b)).showLoop l)

/-- R307: the switch tick of the LOOP_SET of loop `l`. -/
def execLoopSetSwitch (l : Nat) (s : State) : Host.Outcome State Fault Refusal :=
  s.onDev fun d =>
    match d.eng.sets.find? fun o => o.slot == l && o.stage == 1 with
    | none => d
    | some o =>
      if !d.live || d.tick ≤ o.checkedAt then d
      else
        let d0 := { d with eng := { d.eng with sets := d.eng.sets.filter fun e => e.id != o.id } }
        let d1 := (d0.admitLoop l o.block o.lane o.secs o.keep).setBlock (handle clsLOOP l) o.block
        d1.showEngine.finish o.id .ok (loopResult 0 o.lane (loopCost o.block) (d.tick % 2 ^ 32))

/-- R309: the effect of LOOP_REMOVE on loop `l` at the boundary after it. -/
def Dev.removeLoop (d : Dev) (l id : Nat) : Dev :=
  let x := d.loop l
  let t := lpTarget (d.loopBlock l) % 2 ^ 20
  let d1 := (x.waits.map (·.id) ++ x.modeWait).foldl (fun (y : Dev) i => y.fail i .aborted) d
  let d2 := if isNull t then d1 else d1.setWriter t 0
  let d3 := (List.range 64).foldl (fun (y : Dev) c => match y.chalk c with
    | some s => if armLoop s.arm = l then y.chalkEnd c .aborted else y
    | none => y) d2
  let d4 := (d3.setLoop l LoopSt.init).setBlock (handle clsLOOP l) []
  (((d4.put Reg.LOOP_SLOT_CNT.COST l 0).showLoop l).showEngine).done id 0

/-- R309. -/
def execLoopRemoveEffect (l : Nat) (s : State) : Host.Outcome State Fault Refusal :=
  s.onDev fun d =>
    match d.eng.removals.find? fun r => r.2.1 == l with
    | none => d
    | some r =>
      if !d.live || d.tick ≤ r.2.2 then d
      else Dev.removeLoop { d with eng := { d.eng with removals := d.eng.removals.filter fun e => e.1 != r.1 } } l r.1

/-- R296: at step 6 of start the retained configurations are admitted again, in ascending slot order. -/
def Dev.loopRestore (d : Dev) : Dev :=
  (List.range 512).foldl (fun (y : Dev) l =>
    let b := y.loopBlock l
    if b.isEmpty then y
    else
      let a := y.loopCheckA l b
      let failed := fun (z : Dev) (code : Nat) => z.raise 0x0609 (z.name clsLOOP l) [code]
      if a != 0 then failed y a
      else match y.loopCheckB l b with
        | .inl (code, _) => failed y code
        | .inr (lane, secs) => (y.admitLoop l b lane secs false).showEngine) d

/-! ### Descriptors (R306 to R311) -/

/-- R305, R307: LOOP_SET. -/
def bodyLoopSet (id : Nat) (x : Desc) (d : Dev) : Dev :=
  let h := x.u32 16
  if isNull h || !d.isHandle clsLOOP h then d.fail id .badObject
  else if 3 < x.byte 24 then d.fail id .badParam
  else if d.eng.sets.any fun o => o.slot == indexOf h then d.fail id .refusedBusy
  else
    let o : LoopSet := { id := id, slot := indexOf h, stage := 0, block := [], keep := bitAt (x.byte 24) 1, lane := 0, secs := [], checkedAt := 0 }
    Dev.showEngine { d with eng := { d.eng with sets := d.eng.sets ++ [o] } }

/-- What LOOP_MODE, LOOP_HOLD, LOOP_CLEAR and LOOP_REMOVE check first (R309). -/
def Dev.onLoop (d : Dev) (id : Nat) (x : Desc) (f : Nat → Dev) : Dev :=
  let h := x.u32 16
  if isNull h || !d.isHandle clsLOOP h then d.fail id .badObject
  else if (d.loop (indexOf h)).state = .idle then d.fail id .badParam
  else f (indexOf h)

/-- R309: LOOP_REMOVE. -/
def bodyLoopRemove (id : Nat) (x : Desc) (d : Dev) : Dev :=
  if d.eng.sets.any (fun o => handle clsLOOP o.slot == x.u32 16) then d.fail id .refusedBusy
  else d.onLoop id x fun l =>
    { d with eng := { d.eng with removals := d.eng.removals ++ [(id, l, d.tick)] } }

/-- An operation that waits for the loop's next computation. -/
def Dev.loopWait (d : Dev) (l : Nat) (w : LoopWait) : Dev := d.setLoop l { d.loop l with waits := (d.loop l).waits ++ [w] }

/-- R310: LOOP_MODE. -/
def bodyLoopMode (id : Nat) (x : Desc) (d : Dev) : Dev :=
  d.onLoop id x fun l =>
    let b := d.loopBlock l
    let how := x.byte 21
    if 3 < x.byte 20 || 2 < how || (how = 0 && lpKind b != 0) || (how < 2 && !lpEnabled b (x.byte 20)) then d.fail id .badParam
    else d.loopWait l { id := id, kind := 1, arg := x.byte 20, how := how, at_ := d.tick }

/-- R310: LOOP_HOLD. -/
def bodyLoopHold (id : Nat) (x : Desc) (d : Dev) : Dev :=
  d.onLoop id x fun l =>
    let y := d.loop l
    if 1 < x.byte 20 then d.fail id .badParam
    else if x.byte 20 = 0 && !(y.state = .hold && y.cause = 4) then d.done id y.state.code
    else d.loopWait l { id := id, kind := 2, arg := x.byte 20, how := 0, at_ := d.tick }

/-- R310: LOOP_CLEAR. -/
def bodyLoopClear (id : Nat) (x : Desc) (d : Dev) : Dev :=
  d.onLoop id x fun l =>
    let y := d.loop l
    if y.state = .run || (y.state = .hold && (y.cause = 1 || y.cause = 4)) then d.done id y.state.code
    else d.loopWait l { id := id, kind := 3, arg := 0, how := 0, at_ := d.tick }

/-- Whether a code is in the table Chalk node codes (R298). -/
def chalkCodeOk (c : Nat) : Bool := c ≤ 0x0A || (0x10 ≤ c && c ≤ 0x3F)

/-- R311: CHALK_ARM. -/
def bodyChalkArm (id : Nat) (x : Desc) (d : Dev) : Dev :=
  let h := x.u32 20
  let c := x.byte 16
  let off := armOff x
  let size := armSize x
  let meets := (List.range 64).any fun n => match d.chalk n with
    | some s => decide (off < armOff s.arm + armSize s.arm) && decide (armOff s.arm < off + size)
    | none => false
  if 63 < c || 3 < x.byte 17 || x.byte 18 = 0 || 16 < x.byte 18 || 2 < x.byte 19 then d.fail id .badParam
  else if isNull h || !d.isHandle clsLOOP h then d.fail id .badObject
  else if (d.loop (indexOf h)).state = .idle || (d.chalk c).isSome || (List.range (armK x)).any (fun j => !chalkCodeOk (armCode x j))
      || (List.range 16).any (fun j => armK x ≤ j && armCode x j != 0)
      || armDec x = 0 || armPost x = 0 || 4 < armKind x || armK x ≤ armNode x || 15 < armMask x
      || 163840 < off + size || meets || size < (armPre x + 8) * recWords x then d.fail id .badParam
  else
    let single := armMode x = 1
    let s : ChalkSt := { arm := x, id := if single then some id else none, count := 0, recs := [], next := 0, post := none, prev := none
                         events := 0, fire := false, drops := 0 }
    let d1 := ((((d.setChalk c (some s)).put Reg.CHALK_COUNT.STREAMED c 0).put Reg.CHALK_COUNT.DROPPED c 0).put
      Reg.CHALK_STAT.TRIGGERED c 0).showChalk c
    if single then d1 else d1.done id 0

/-- R311: CHALK_TRIGGER. -/
def bodyChalkTrigger (id : Nat) (x : Desc) (d : Dev) : Dev :=
  match if x.byte 16 < 64 then d.chalk (x.byte 16) else none with
  | some s =>
    if armKind s.arm = 0 then (d.setChalk (x.byte 16) (some { s with fire := s.fire || s.post.isNone })).done id 0 else d.fail id .badParam
  | none => d.fail id .badParam

/-- R311: CHALK_STOP. -/
def bodyChalkStop (id : Nat) (x : Desc) (d : Dev) : Dev :=
  let c := x.byte 16
  if 63 < c then d.fail id .badParam
  else if (d.chalk c).isNone then d.fail id .nothingToAbort
  else (d.chalkEnd c .aborted).done id (d.get Reg.CHALK_COUNT.STREAMED c)

/-- R308: what LOOP_ABORT does to a LOOP_SET before its switch tick; from that tick on the LOOP_SET has won. -/
def settleLoop (id : Nat) (r : Rec) (d : Dev) : Dev :=
  if d.eng.sets.any fun o => o.id == r.id && o.stage == 1 && decide (o.checkedAt < d.tick) then d.fail id .nothingToAbort
  else (d.endSet r.id .aborted 0).done id 0

/-- R308: LOOP_ABORT. -/
def bodyLoopAbort (id : Nat) (x : Desc) (d : Dev) : Dev :=
  if 63 < x.u16 20 then d.fail id .badParam else d.abortDesc id (x.u16 20) (x.u32 16) [0x0601] settleLoop

/-- R308: PFW_N falling ends every LOOP_SET in progress. -/
def Dev.loopDip (d : Dev) : Dev := d.eng.sets.foldl (fun (y : Dev) o => y.endSet o.id .aborted 0) d

/-- R307. -/
def execLoopSet (q : Nat) (x : Desc) (s : State) : Host.Outcome State Fault Refusal :=
  s.onDev fun d => d.submit q x 0x0601 [(16, 9)] bodyLoopSet

/-- R309. -/
def execLoopRemove (q : Nat) (x : Desc) (s : State) : Host.Outcome State Fault Refusal :=
  s.onDev fun d => d.submit q x 0x0602 [(16, 4)] bodyLoopRemove

/-- R310. -/
def execLoopMode (q : Nat) (x : Desc) (s : State) : Host.Outcome State Fault Refusal :=
  s.onDev fun d => d.submit q x 0x0603 [(16, 6)] bodyLoopMode

/-- R310. -/
def execLoopHold (q : Nat) (x : Desc) (s : State) : Host.Outcome State Fault Refusal :=
  s.onDev fun d => d.submit q x 0x0604 [(16, 5)] bodyLoopHold

/-- R310. -/
def execLoopClear (q : Nat) (x : Desc) (s : State) : Host.Outcome State Fault Refusal :=
  s.onDev fun d => d.submit q x 0x0605 [(16, 4)] bodyLoopClear

/-- R311. -/
def execChalkArm (q : Nat) (x : Desc) (s : State) : Host.Outcome State Fault Refusal :=
  s.onDev fun d => d.submit q x 0x0606 [(16, 27), (44, 20)] bodyChalkArm

/-- R311. -/
def execChalkTrigger (q : Nat) (x : Desc) (s : State) : Host.Outcome State Fault Refusal :=
  s.onDev fun d => d.submit q x 0x0607 [(16, 1)] bodyChalkTrigger

/-- R311. -/
def execChalkStop (q : Nat) (x : Desc) (s : State) : Host.Outcome State Fault Refusal :=
  s.onDev fun d => d.submit q x 0x0608 [(16, 1)] bodyChalkStop

/-- R308. -/
def execLoopAbort (q : Nat) (x : Desc) (s : State) : Host.Outcome State Fault Refusal :=
  s.onDev fun d => d.submit q x 0x0609 [(16, 6)] bodyLoopAbort

/-! ### Remote words (R80, R82, R279) -/

/-- A remote word put in the delay buffer at its arrival; words past the largest D are gone (R82, R303). -/
def Dev.delayPut (d : Dev) (name qty : Nat) (w : VW) : Dev :=
  let k := name * 256 + qty
  let l := (Map.get d.eng.delay k []).filter fun e => d.tick < stampNear e.1 e.2.stamp.toNat + 65536
  { d with eng := { d.eng with delay := Map.set d.eng.delay k (l ++ [(d.tick, w)]) [] } }

/-- R82, R279: the bindings for which a word stamped k comes after tick k + D has begun count it. -/
def Dev.countLate (d : Dev) (name qty : Nat) (w : VW) : Dev :=
  let k := stampNear d.tick w.stamp.toNat
  d.admitted.foldl (fun (y : Dev) l =>
    let b := y.loopBlock l
    let uses := [(lpFb b, lpFbQ b), (lpFf b, lpFfQ b), (lpModeSrc b, 0)] ++ (lpModes b).map fun m => (lpSp b m, lpSpQ b m)
    (uses.filter fun u => u == (name, qty)).foldl (fun (z : Dev) _ =>
      if k + lpD b ≤ d.tick then z.bump Reg.LOOP_SLOT_CNT.LATE l 0xFFFF else z) y) d

end Sys2Proof.Machine
end

