-- ==== Sys2Proof/Machine/Panel.lean ====
section
/-! DEFINITION. The front panel: rails, updates by phases, the waveform library, the frontlight (16_panel.md). -/

namespace Sys2Proof.Machine
open Sys2Proof

/-- The panel driver's reader code (R71). -/
def readerPanel : Nat := 6

/-! ### Geometry and memory (R578, R585) -/

/-- Width and height in force. -/
def Dev.panelW (d : Dev) : Nat := d.get Reg.PANEL_GEOM.WIDTH 0
def Dev.panelH (d : Dev) : Nat := d.get Reg.PANEL_GEOM.HEIGHT 0

/-- The word of the new buffer N, of the shown buffer S, and of the old-level store, that hold pixels 64k to 64k + 63 (R585, R588). -/
def Dev.wordN (d : Dev) (k : Nat) : Nat := d.get Reg.PANEL_FB.BASE 0 + k
def Dev.wordS (d : Dev) (k : Nat) : Nat := d.get Reg.PANEL_FB.BASE 0 + 30000 + k
def Dev.wordO (d : Dev) (k : Nat) : Nat := d.get Reg.PANEL_WF.BASE 0 + 32768 + k

/-- The level at place `p` of packed levels. -/
def nibble (bs : List Nat) (p : Nat) : Nat := bs.getD (p / 2) 0 / 16 ^ (p % 2) % 16

/-- The level at place `p` of packed levels set. -/
def setNibble (bs : List Nat) (p v : Nat) : List Nat :=
  let b := bs.getD (p / 2) 0
  bs.set (p / 2) (if p % 2 = 0 then b / 16 * 16 + v else b % 16 + 16 * v)

/-- Whether pixel `p`, counted row by row, lies in a rectangle. -/
def PanelReq.has (r : PanelReq) (width p : Nat) : Bool :=
  r.x ≤ p % width && p % width < r.x + r.w && r.y ≤ p / width && p / width < r.y + r.h

/-- The words that hold pixels of a rectangle. -/
def PanelReq.words (r : PanelReq) (width : Nat) : List Nat :=
  let first := (r.y * width + r.x) / 64
  let last := ((r.y + r.h - 1) * width + r.x + r.w - 1) / 64
  ((List.range (last + 1 - first)).map fun j => first + j).filter fun k => (List.range 64).any fun j => r.has width (64 * k + j)

/-- Whether two rectangles share a pixel (R594). -/
def PanelReq.overlaps (a b : PanelReq) : Bool :=
  a.x < b.x + b.w && b.x < a.x + a.w && a.y < b.y + b.h && b.y < a.y + a.h

/-- Whether two rectangles are equal (R596). -/
def PanelReq.same (a b : PanelReq) : Bool := a.x == b.x && a.y == b.y && a.w == b.w && a.h == b.h

/-- The scan time of R578 in µs, rounded up. -/
def scanTime (w h gap div : Nat) : Nat := (h * (w / 8 + gap) * div + 99) / 100

/-! ### Rails and frontlight (R581 to R583, R599) -/

/-- PANEL_STAT as the driver stands. -/
def Dev.showPanel (d : Dev) : Dev :=
  let code := match d.panel.rails with
    | .off => 0
    | .rising _ => 1
    | .up => 2
    | .falling => 3
  ((d.put Reg.PANEL_STAT.RAILS 0 code).put Reg.PANEL_STAT.RUNNING 0 d.panel.running.length).put Reg.PANEL_STAT.WAITING 0
    (d.panel.waiting.filter fun r => r.id.isSome).length

/-- The panel driver changed. -/
def Dev.setPanel (d : Dev) (p : PanelSt) : Dev := Dev.showPanel { d with panel := p }

/-- Whether the string is to be lit, a fault aside (R599). -/
def Dev.wantsLight (d : Dev) : Bool :=
  d.isSet Reg.PANEL_CFG.FL_EN 0 && d.isSet Reg.PANEL_CFG.EN 0 && d.isSet Reg.PANEL_STAT.CLEAR_DONE 0 && !d.dip

/-- The string lit or dark as R599 gives it. -/
def Dev.showFrontlight (d : Dev) : Dev := d.putBit Reg.PANEL_STAT.FL_ON 0 (d.wantsLight && !d.isSet Reg.PANEL_STAT.FL_FAULT 0)

/-- The rails rise on a request: step 11 of the start, or an update that waits (R581). -/
def Dev.railsOn (d : Dev) : Dev :=
  if d.panel.rails == .off && d.isSet Reg.PANEL_CFG.EN 0 && !d.isSet Reg.PANEL_STAT.RAIL_LATCHED 0 && !d.dip then
    d.setPanel { d.panel with rails := .rising 1, railAt := d.tick }
  else d

/-- The rails rise when something waits for them (R581). -/
def Dev.panelRise (d : Dev) : Dev := if d.panel.waiting.isEmpty then d else d.railsOn

/-- The rails fall (R582). -/
def Dev.panelFall (d : Dev) : Dev :=
  match d.panel.rails with
  | .off => d
  | _ => d.setPanel { d.panel with rails := .falling }

/-- PANEL_INTERRUPTED of a running update (R600). -/
def Dev.panelInterrupted (d : Dev) (r : PanelRun) (cause : Nat) : Dev :=
  d.raise 0x0D01 (d.name clsPANEL 0)
    ([cause, r.driven, r.len, 0] ++ leBytes 2 r.req.x ++ leBytes 2 r.req.y ++ leBytes 2 r.req.w ++ leBytes 2 r.req.h)

/-- The result of an update (R604). -/
def PanelRun.result (r : PanelRun) : Nat :=
  r.driven + 2 ^ 8 * r.band + (if r.req.waited then 2 ^ 16 else 0) + 2 ^ 32 * (r.start % 2 ^ 32)

/-- The descriptor of a request ends. -/
def Dev.endReq (d : Dev) (r : PanelReq) (st : Status) (result : Nat) : Dev :=
  match r.id with
  | some id => d.finish id st result
  | none => d

/-- Every running update stops at once (R600). -/
def Dev.panelStop (d : Dev) (cause : Nat) (st : Status) : Dev :=
  let d1 := d.panel.running.foldl (fun (y : Dev) r => (y.panelInterrupted r cause).endReq r.req (if r.abort.isSome then .aborted else st) r.result) d
  let aborts := (d.panel.running.filterMap fun r => r.abort)
  let d2 := aborts.foldl (fun (y : Dev) id => y.done id 0) d1
  d2.setPanel { d2.panel with running := [] }

/-- Every waiting request ends without acting. -/
def Dev.panelFlush (d : Dev) (st : Status) : Dev :=
  let d1 := d.panel.waiting.foldl (fun (y : Dev) r => y.endReq r st 0) d
  d1.setPanel { d1.panel with waiting := [] }

/-- R600 cause 2, R599: PFW_N falls. -/
def Dev.panelDip (d : Dev) : Dev := (((d.panelStop 2 .aborted).panelFlush .aborted).panelFall).showFrontlight

/-- R583, R600 cause 3: a rail fault. -/
def Dev.panelFault (d : Dev) (rail : Nat) (mv : Int) : Dev :=
  let d1 := ((d.panelStop 3 .dataError).panelFall).bump Reg.PANEL_COUNT.RAIL_FAULTS 0 0xFF
  let row := d1.panel.faultRow + 1
  let d2 := d1.setPanel { d1.panel with faultRow := row }
  let d3 := if 3 ≤ row then (d2.put Reg.PANEL_STAT.RAIL_LATCHED 0 1).panelFlush .dataError else d2
  d3.raise 0x0D02 (d3.name clsPANEL 0) ([rail, if 3 ≤ row then 1 else 0, 0, 0] ++ leBytes 4 (bitsOf 32 mv))

/-- The target of a rail in mV: 1 VGH, 2 VGL, 3 VSH, 4 VSL, 5 VCOM (R581). -/
def Dev.railTarget (d : Dev) (rail : Nat) : Int :=
  match rail with
  | 1 => 22000 | 2 => -20000 | 3 => 15000 | 4 => -15000 | _ => -10 * (d.get Reg.PANEL_VCOM.VCOM 0 : Int)

/-- Whether a rail that measures `mv` lies within one `part`th of its target. -/
def Dev.railWithin (d : Dev) (rail : Nat) (mv : Int) (part : Nat) : Bool :=
  part * (mv - d.railTarget rail).natAbs ≤ (d.railTarget rail).natAbs

/-- R581: the rail in its start reaches regulation, within 5 % of its target, before its 3 ms end. -/
def execRailInRegulation (s : State) : Host.Outcome State Fault Refusal :=
  s.onDev fun d =>
    match d.panel.rails with
    | .rising n =>
      if d.frozen || d.panel.railAt + 300 < d.tick then d
      else d.setPanel { d.panel with rails := if n < 5 then .rising (n + 1) else .up, railAt := d.tick, idleAt := d.tick }
    | _ => d

/-- R581, R583: the rail in its start is not in regulation within 3 ms; `mv` is what it measures. -/
def execRailStartTimeout (mv : Int) (s : State) : Host.Outcome State Fault Refusal :=
  s.onDev fun d =>
    match d.panel.rails with
    | .rising n => if d.frozen || d.tick < d.panel.railAt + 300 || d.railWithin n mv 20 then d else d.panelFault n mv
    | _ => d

/-- R583: a rail has been more than 10 % off its target for 1 ms. -/
def execRailFault (rail : Nat) (mv : Int) (s : State) : Host.Outcome State Fault Refusal :=
  s.onDev fun d =>
    if !d.frozen && d.panel.rails == .up && 1 ≤ rail && rail ≤ 5 && !d.railWithin rail mv 10 then d.panelFault rail mv else d

/-- R582: no update has run for RAIL_HOLD. -/
def execRailHoldExpiry (s : State) : Host.Outcome State Fault Refusal :=
  s.onDev fun d =>
    if !d.frozen && d.panel.rails == .up && d.panel.running.isEmpty && d.panel.waiting.isEmpty
        && d.panel.idleAt + 10000 * d.get Reg.PANEL_CFG.RAIL_HOLD 0 ≤ d.tick then d.panelFall
    else d

/-- R582: the last rail has discharged; a request that waits raises them again. -/
def execRailFallDone (s : State) : Host.Outcome State Fault Refusal :=
  s.onDev fun d =>
    if d.frozen then d else
    match d.panel.rails with
    | .falling => (d.setPanel { d.panel with rails := .off }).panelRise
    | _ => d

/-- What a string voltage, in 0.1 V, that has stood for `ms` ms shows (R599): 1 an open string at 40 V, 2 a short below 3 V for 10 ms, 0 neither. -/
def stringFault (volts ms : Nat) : Nat := if 400 ≤ volts then 1 else if volts < 30 && 10 ≤ ms then 2 else 0

/-- R599: the lit string's voltage shows an open or a short. -/
def execFrontlightFault (volts ms : Nat) (s : State) : Host.Outcome State Fault Refusal :=
  s.onDev fun d =>
    let kind := stringFault volts ms
    if d.frozen || !d.isSet Reg.PANEL_STAT.FL_ON 0 || kind = 0 then d
    else
      let d1 := ({ d with panel := { d.panel with flKind := kind, flAt := d.tick } }.put Reg.PANEL_STAT.FL_FAULT 0 1).showFrontlight
      d1.raiseLimited 0x0D04 (d1.name clsPANEL 0) d1.tick 1 ([1, kind] ++ leBytes 2 volts)

/-- R599: 10 s after it was found faulty the string is tried again; its voltage then says whether the fault is over. -/
def execFrontlightRetry (volts : Nat) (s : State) : Host.Outcome State Fault Refusal :=
  s.onDev fun d =>
    if d.frozen || !d.isSet Reg.PANEL_STAT.FL_FAULT 0 || !d.wantsLight || d.tick < d.panel.flAt + 1000000 then d
    else if stringFault volts 10 != 0 then { d with panel := { d.panel with flAt := d.tick } }
    else
      let d1 := (d.put Reg.PANEL_STAT.FL_FAULT 0 0).showFrontlight
      d1.raiseLimited 0x0D04 (d1.name clsPANEL 0) d1.tick 0 ([0, d1.panel.flKind] ++ leBytes 2 volts)

/-! ### Temperature bands (R592) -/

/-- The lower bound of band `b`, in whole °C. -/
def Dev.bandLower (d : Dev) (b : Nat) : Int :=
  let f := [Reg.PANEL_BAND.LOWER0, Reg.PANEL_BAND.LOWER1, Reg.PANEL_BAND.LOWER2, Reg.PANEL_BAND.LOWER3]
  signedOf 8 (d.get (f.getD (b % 4) Reg.PANEL_BAND.LOWER0) (b / 4))

/-- The highest band up to `b` whose lower bound is at or below `t`, 0 having none. -/
def Dev.bandUpTo (d : Dev) (t : Int) : Nat → Nat
  | 0 => 0
  | b + 1 => if d.bandLower (b + 1) * 65536 ≤ t then b + 1 else d.bandUpTo t b

/-- R592: the band in force; `die` is the service die's own temperature. -/
def Dev.panelBand (d : Dev) (die : Int) : Dev :=
  let src := d.get Reg.PANEL_TEMP.SOURCE 0
  let word := if isNull src then none else match d.value? (d.devNum * 2 ^ 20 + src % 2 ^ 20) 0 with
    | some w => if w.has stVALID && !w.has stFAULT then some w.val else none
    | none => none
  let t := word.getD die
  let cur := d.get Reg.PANEL_STAT.BAND 0
  let b := d.bandUpTo t 15
  let b1 := if b < cur && d.bandLower cur * 65536 - 32768 < t then cur else b
  let d1 := d.putBit Reg.PANEL_STAT.TEMP_FALLBACK 0 word.isNone
  if b1 = cur then d1
  else (d1.put Reg.PANEL_STAT.BAND 0 b1).raiseLimited 0x0D05 (d1.name clsPANEL 0) d1.tick b1
    ([b1, cur, if word.isNone then 1 else 0, 0] ++ leBytes 4 (bitsOf 32 t))

/-! ### Waveforms (R588, R589, R591) -/

/-- The 256 transition words of a band and mode, old level by old level: the drive codes of their phases; none where a word is uncorrectable. -/
def Dev.waves (d : Dev) (band mode : Nat) : List (Option (List Nat)) × Dev :=
  if !d.isSet Reg.PANEL_STAT.LIB_VALID 0 then
    ((List.range 256).map fun j => some ((Config.builtinWave (j / 16) (j % 16)).take 64), d)
  else
    let base := d.get Reg.PANEL_WF.BASE 0 + 16384 * d.get Reg.PANEL_WF.SLOT 0 + (band * 4 + mode) * 256
    (List.range 256).foldl (fun (z : List (Option (List Nat)) × Dev) j =>
      let x := z.2.readWord (base + j) readerPanel
      let codes := fun (bs : List Nat) => (List.range (bs.getD 16 0)).map fun p => bs.getD (p / 4) 0 / 4 ^ (p % 4) % 4
      (z.1 ++ [x.1.map codes], x.2)) ([], d)

/-- L of an update: the largest phase count (R589). -/
def waveLength (ws : List (Option (List Nat))) : Nat := (ws.map fun o => (o.getD []).length).foldl max 1

/-! ### Updates (R586, R587, R594 to R597) -/

/-- R586, R587: word `k` of a rectangle latched: S to the old-level store, N to S; none when a word is uncorrectable. -/
def Dev.latchWord (d : Dev) (r : PanelReq) (k : Nat) : Bool × Dev :=
  let (n, d1) := d.readWord (d.wordN k) readerPanel
  let (s, d2) := d1.readWord (d1.wordS k) readerPanel
  match n, s with
  | some nb, some sb =>
    let (o, d3) := d2.readWord (d2.wordO k) readerPanel
    let ob := o.getD (List.replicate 32 0)
    let mine := (List.range 64).filter fun j => r.has d.panelW (64 * k + j)
    let o1 := mine.foldl (fun bs j => setNibble bs j (nibble sb j)) ob
    let s1 := mine.foldl (fun bs j => setNibble bs j (nibble nb j)) sb
    (true, (d3.memWrite (32 * d3.wordO k) o1 readerPanel).memWrite (32 * d3.wordS k) s1 readerPanel)
  | _, _ => (false, d2)

/-- An update starts: it latches its rectangle and its band (R586, R593). -/
def Dev.panelBegin (d : Dev) (r : PanelReq) : Dev :=
  let band := d.get Reg.PANEL_STAT.BAND 0
  let (ws, d1) := d.waves band r.mode
  let latch := fun (z : List Nat × Dev) (k : Nat) =>
    let (ok, y) := z.2.latchWord r k
    (if ok then z.1 else z.1 ++ [k], y)
  let (bad, d2) := if r.id.isNone then ([], d1) else (r.words d1.panelW).foldl latch ([], d1)
  let run : PanelRun := { req := r, band := band, len := waveLength ws, driven := 0, start := d.tick, bad := bad, abort := none }
  d2.setPanel { d2.panel with running := d2.panel.running ++ [run] }

/-- R587: the pixels of word `k` in a rectangle take the S level from before the update again, from the old-level store. What the store no longer
gives is free. -/
def Dev.undoWord (d : Dev) (r : PanelReq) (k : Nat) : Dev :=
  let (o, d1) := d.readWord (d.wordO k) readerPanel
  let (s, d2) := d1.readWord (d1.wordS k) readerPanel
  match s with
  | none => d2
  | some sb =>
    let lost := fun (j : Nat) => (Config.freeValue (d2.free + j / 16)).toNat / 16 ^ (j % 16) % 16
    let level := fun (j : Nat) => match o with
      | some ob => nibble ob j
      | none => lost j
    let mine := (List.range 64).filter fun j => r.has d.panelW (64 * k + j)
    let d3 := if o.isSome then d2 else { d2 with free := d2.free + 4 }
    d3.memWrite (32 * d3.wordS k) (mine.foldl (fun bs j => setNibble bs j (level j)) sb) readerPanel

/-- One phase of a running update driven (R578, R579, R587, R589). -/
def Dev.panelDrive (d : Dev) (r : PanelRun) : Dev :=
  let width := d.panelW
  let (ws, d1) := d.waves r.band r.req.mode
  let load := fun (z : List (Nat × List Nat × List Nat) × List Nat × Dev) (k : Nat) =>
    let (o, y) := z.2.2.readWord (z.2.2.wordO k) readerPanel
    let (n, y1) := y.readWord (y.wordS k) readerPanel
    match o, n with
    | some ob, some nb => (z.1 ++ [(k, ob, nb)], z.2.1, y1)
    | _, _ => (z.1, z.2.1 ++ [k], y1)
  let (ok, bad, d2) := ((r.req.words width).filter fun k => !r.bad.contains k).foldl load ([], [], d1)
  let code := fun (p : Nat) => match ok.find? fun e => e.1 == p / 64 with
    | none => (0, false)
    | some (_, ob, nb) =>
      let j := nibble ob (p % 64) * 16 + nibble nb (p % 64)
      match ws.getD j none with
      | none => (0, true)
      | some codes => (codes.getD r.driven 0, false)
  let pixels := (List.range r.req.h).flatMap fun dy => (List.range r.req.w).map fun dx => (r.req.y + dy) * width + r.req.x + dx
  let lost := ((pixels.filter fun p => (code p).2).map fun p => p / 64).eraseDups
  let run := { r with bad := r.bad ++ bad ++ lost }
  let d3 := (bad ++ lost).foldl (fun (y : Dev) k => y.undoWord r.req k) d2
  (d3.emit (.drive r.req.x r.req.y r.req.w r.req.h r.driven (pixels.map fun p => (code p).1))).setPanel
    { d3.panel with running := d3.panel.running.map fun q => if q.req == r.req && q.start == r.start then run else q }

/-- PANEL_CRC formed over S (R597); a free value when a word of S is uncorrectable. -/
def Dev.formCrc (d : Dev) : Dev :=
  let n := d.panelW * d.panelH / 2
  match d.readWords (d.wordS 0) ((n + 31) / 32) readerPanel with
  | (some bs, d1) => d1.put Reg.PANEL_CRC.CRC 0 (crc32c (bs.take n))
  | (none, d1) => (d1.put Reg.PANEL_CRC.CRC 0 d1.freeBits.toNat).nextFree

/-- The boundary closes a phase of a running update: it ends, or stops for an abort (R594, R597, R600, R606). -/
def Dev.panelPhaseEnd (d : Dev) (r : PanelRun) (duty : Nat) : Dev :=
  let run := { r with driven := r.driven + 1 }
  let rest := d.panel.running.filter fun q => !(q.req == r.req && q.start == r.start)
  match r.abort with
  | some id =>
    (((d.setPanel { d.panel with running := rest, idleAt := d.tick }).panelInterrupted run 1).endReq r.req .aborted run.result).done id 0
  | none =>
    if run.driven < r.len then
      d.setPanel { d.panel with running := d.panel.running.map fun q => if q.req == r.req && q.start == r.start then run else q }
    else
      let d1 := ((d.setPanel { d.panel with running := rest, faultRow := 0, idleAt := d.tick }).formCrc).wrapUp Reg.PANEL_COUNT.UPDATES 0
      let d2 := (((d1.put Reg.PANEL_BOOST.DUTY_VGH 0 (duty % 256)).put Reg.PANEL_BOOST.DUTY_VGL 0 (duty / 256)).put
        Reg.PANEL_BOOST.DUTY_VSH 0 (duty / 65536)).put Reg.PANEL_BOOST.DUTY_VSL 0 (duty / 16777216)
      let d3 := d2.endReq r.req (if run.bad.isEmpty then .ok else .dataError) run.result
      if r.req.id.isNone then (d3.put Reg.PANEL_STAT.CLEAR_DONE 0 1).showFrontlight else d3

/-- Which waiting requests start, in order; the others with their wait noted (R594). -/
def pickUpdates (running : List PanelReq) (before : List PanelReq) : List PanelReq → List PanelReq × List PanelReq
  | [] => ([], [])
  | r :: t =>
    let blocked := running.any r.overlaps || before.any r.overlaps
    if running.length < 8 && !blocked then
      let (a, b) := pickUpdates (running ++ [r]) before t
      (r :: a, b)
    else
      let (a, b) := pickUpdates running (before ++ [r]) t
      (a, { r with waited := r.waited || blocked } :: b)

/-- R590: the switch of a load at a boundary with no update running. -/
def Dev.panelSwitch (d : Dev) : Dev :=
  match d.panel.load with
  | some { id := id, since := _, payload := some p } =>
    if !d.panel.running.isEmpty then d
    else
      let slot := 1 - d.get Reg.PANEL_WF.SLOT 0
      let d1 := (((d.setPanel { d.panel with load := none }).putRet Reg.PANEL_WF.SLOT 0 slot).putRet Reg.PANEL_STAT.LIB_VALID 0 1).putRet
        Reg.PANEL_LIB_ID.CRC 0 (crc32c p)
      (d1.setBlock (handle clsPANEL 0) p).done id (2 ^ 32 * (d1.tick % 2 ^ 32))
  | _ => d

/-- R580, R584, R592, R594: a panel phase boundary; `die` is the service die's temperature and `duty` the boost duties. -/
def execPhaseBoundary (die : Int) (duty : Nat) (s : State) : Host.Outcome State Fault Refusal :=
  s.onDev fun d =>
    if !d.live || d.tick % 1176 != 0 || d.panel.phaseAt = d.tick + 1 then d
    else
      let src := d.get Reg.PANEL_TEMP.SOURCE 0
      let d1 := Dev.panelBand { d.touchValue (d.devNum * 2 ^ 20 + src % 2 ^ 20) 0 readerCore with
                                panel := { d.panel with phaseAt := d.tick + 1 } } die
      let d2 := d1.panel.running.foldl (fun (y : Dev) r => y.panelPhaseEnd r duty) d1
      let d3 := d2.panelSwitch
      let d4 := if d3.panel.rails == .up then
          let (go, stay) := pickUpdates (d3.panel.running.map fun r => r.req) [] d3.panel.waiting
          go.foldl (fun (y : Dev) r => y.panelBegin r) (d3.setPanel { d3.panel with waiting := stay })
        else d3
      d4.panel.running.foldl (fun (y : Dev) r => y.panelDrive r) d4

/-! ### Start (R598) -/

/-- R581, R598: step 11 raises the rails where EN is 1; with CLEAR_AT_START too, every pixel of N, S and the old-level store takes CLEAR_LEVEL, and the clear waits for the rails. -/
def Dev.panelStart (d : Dev) : Dev :=
  if d.isSet Reg.PANEL_CFG.EN 0 && d.isSet Reg.PANEL_CFG.CLEAR_AT_START 0 then
    let n := d.panelW * d.panelH / 2
    let lv := d.get Reg.PANEL_CFG.CLEAR_LEVEL 0
    let bs := List.replicate n (17 * lv)
    let d1 := ((d.memWrite (32 * d.wordN 0) bs readerPanel).memWrite (32 * d.wordS 0) bs readerPanel).memWrite (32 * d.wordO 0) bs readerPanel
    let r : PanelReq := { id := none, x := 0, y := 0, w := d.panelW, h := d.panelH, mode := 0, waited := false }
    (d1.setPanel { d1.panel with waiting := r :: d1.panel.waiting }).railsOn
  else d.railsOn

/-- The library in force again at start, from its retained block (R590). -/
def Dev.panelRestore (d : Dev) : Dev :=
  let bs := d.block (handle clsPANEL 0)
  if bs.isEmpty then (d.put Reg.PANEL_STAT.LIB_VALID 0 0).put Reg.PANEL_LIB_ID.CRC 0 0
  else d.memWrite (32 * (d.get Reg.PANEL_WF.BASE 0 + 16384 * d.get Reg.PANEL_WF.SLOT 0)) bs readerPanel

/-! ### Descriptors (R604 to R606) -/

/-- R594 to R596, R601, R604, R605: PANEL_UPDATE. -/
def bodyPanelUpdate (id : Nat) (x : Desc) (d : Dev) : Dev :=
  let r : PanelReq := { id := some id, x := x.u16 16, y := x.u16 18, w := x.u16 20, h := x.u16 22, mode := x.byte 24, waited := false }
  if r.w = 0 || r.h = 0 || d.panelW < r.x + r.w || d.panelH < r.y + r.h || 4 ≤ r.mode
      || (r.mode != 0 && !d.isSet Reg.PANEL_STAT.LIB_VALID 0) then d.fail id .badParam
  else if !d.isSet Reg.PANEL_CFG.EN 0 then d.fail id .refusedBusy
  else if d.isSet Reg.PANEL_STAT.RAIL_LATCHED 0 then d.fail id .dataError
  else match d.panel.waiting.find? fun q => q.id.isSome && q.same r with
    | some q =>
      let l := d.panel.waiting.map fun p => if p == q then r else p
      (d.endReq q .superseded 0).setPanel { d.panel with waiting := l }
    | none =>
      if 32 ≤ (d.panel.waiting.filter fun q => q.id.isSome).length then d.fail id .refusedBusy
      else (d.setPanel { d.panel with waiting := d.panel.waiting ++ [r] }).panelRise

/-- R594. -/
def execPanelUpdate (q : Nat) (x : Desc) (s : State) : Host.Outcome State Fault Refusal :=
  s.onDev fun d => d.submit q x 0x0D01 [(16, 9)] bodyPanelUpdate

/-- R590, R605: PANEL_WFLOAD begins its checks. -/
def bodyPanelWfload (id : Nat) (_ : Desc) (d : Dev) : Dev :=
  if d.panel.load.isSome then d.fail id .refusedBusy
  else d.setPanel { d.panel with load := some { id := id, since := d.tick, payload := none } }

/-- R590. -/
def execPanelWfload (q : Nat) (x : Desc) (s : State) : Host.Outcome State Fault Refusal :=
  s.onDev fun d => d.submit q x 0x0D02 [(16, 8)] bodyPanelWfload

/-- A load ends. -/
def Dev.endWfload (d : Dev) (st : Status) (code : Nat) : Dev :=
  match d.panel.load with
  | some l => (d.setPanel { d.panel with load := none }).finish l.id st code
  | none => d

/-- Whether a transition word is malformed (R590 code 3). -/
def badTransition (p : List Nat) (j : Nat) : Bool :=
  let n := p.getD (32 * j + 16) 0
  n = 0 || 64 < n || !allZero (slice p (32 * j + 17) 15)

/-- R590 stages 1 and 2: the checks of a load end, and the payload goes into the inactive slot. -/
def Dev.wfloadChecked (d : Dev) (id : Nat) (x : Desc) : Dev :=
  match d.panel.load with
  | none => d
  | some l =>
    let w := x.u32 16
    let len := x.u32 20
    if l.id != id || l.payload.isSome then d
    else if len != 192 + 524288 || !imageFits w len then d.endWfload .badParam 2
    else match d.readImage w len with
      | (none, d1) => d1.endWfload .dataError 0
      | (some bs, d1) =>
        let e := d1.envelopeCode bs 4
        let p := payloadOf bs
        if e != 0 then
          (d1.imageRefused (bs.getD 2 0) e 0x0D02).endWfload (if e ≤ 2 then .badParam else .authFailed) (if e ≤ 2 then 2 else 1)
        else if (List.range 16384).any (badTransition p) then d1.endWfload .badParam 3
        else
          let slot := 1 - d1.get Reg.PANEL_WF.SLOT 0
          let d2 := d1.memWrite (32 * (d1.get Reg.PANEL_WF.BASE 0 + 16384 * slot)) p readerPanel
          d2.setPanel { d2.panel with load := some { l with payload := some p } }

/-- R590: a load that cannot switch within 10 s. -/
def execPanelWfloadTimeout (s : State) : Host.Outcome State Fault Refusal :=
  s.onDev fun d =>
    match d.panel.load with
    | some l => if d.live && l.since + 1000000 ≤ d.tick then d.endWfload .timeout 0 else d
    | none => d

/-- R597, R601: PANEL_CRC_CHECK. -/
def bodyPanelCrcCheck (id : Nat) (x : Desc) (d : Dev) : Dev :=
  let c := d.get Reg.PANEL_CRC.CRC 0
  if !d.isSet Reg.PANEL_CFG.EN 0 then d.fail id .refusedBusy
  else if c = x.u32 16 then d.done id c
  else (d.raise 0x0D03 (d.name clsPANEL 0) (leBytes 4 c ++ leBytes 4 (x.u32 16))).finish id .dataError c

/-- R597. -/
def execPanelCrcCheck (q : Nat) (x : Desc) (s : State) : Host.Outcome State Fault Refusal :=
  s.onDev fun d => d.submit q x 0x0D03 [(16, 4)] bodyPanelCrcCheck

/-- The target of a PANEL_ABORT settled (R600, R606). -/
def settlePanel (id : Nat) (r : Rec) (d : Dev) : Dev :=
  if r.d.u16 0 = 0x0D02 then
    if (d.panel.load.map fun l => l.id) = some r.id then (d.endWfload .aborted 0).done id 0 else d.fail id .nothingToAbort
  else match d.panel.waiting.find? fun q => q.id == some r.id with
    | some q => ((d.endReq q .aborted 0).setPanel { d.panel with waiting := d.panel.waiting.filter fun p => p != q }).done id 0
    | none =>
      match d.panel.running.find? fun q => q.req.id == some r.id with
      | some q =>
        if q.abort.isSome then d.fail id .nothingToAbort
        else d.setPanel { d.panel with running := d.panel.running.map fun p => if p == q then { p with abort := some id } else p }
      | none => d.fail id .nothingToAbort

/-- R606: PANEL_ABORT. -/
def bodyPanelAbort (id : Nat) (x : Desc) (d : Dev) : Dev :=
  if 64 ≤ x.u16 20 then d.fail id .badParam
  else d.abortDesc id (x.u16 20) (x.u32 16) [0x0D01, 0x0D02] settlePanel

/-- R606. -/
def execPanelAbort (q : Nat) (x : Desc) (s : State) : Host.Outcome State Fault Refusal :=
  s.onDev fun d => d.submit q x 0x0D04 [(16, 6)] bodyPanelAbort

/-! ### Registers (R580, R600, R608) -/

/-- R583, R600: a write of PANEL_CFG. -/
def Dev.writePanelCfg (d : Dev) (v : Nat) : Dev :=
  let was := d.isSet Reg.PANEL_CFG.EN 0
  let d1 := ((((d.put Reg.PANEL_CFG.EN 0 (v % 2)).put Reg.PANEL_CFG.FL_EN 0 (v / 2 % 2)).put Reg.PANEL_CFG.CLEAR_AT_START 0 (v / 4 % 2)).put
    Reg.PANEL_CFG.CLEAR_LEVEL 0 (bitsAt v 4 4)).put Reg.PANEL_CFG.RAIL_HOLD 0 (bitsAt v 8 8)
  let d2 := d1.markHost (Reg.PANEL_CFG.EN.addr 0)
  if was && v % 2 = 0 then (((d2.panelStop 4 .aborted).panelFlush .aborted).panelFall).showFrontlight
  else if !was && v % 2 = 1 then
    ((d2.put Reg.PANEL_STAT.RAIL_LATCHED 0 0).setPanel { d2.panel with faultRow := 0 }).showFrontlight
  else d2.showFrontlight

/-- R600, R583. -/
def execPanelEnWrite (v : Nat) (s : State) : Host.Outcome State Fault Refusal :=
  s.onDev fun d => d.hostReg (Reg.PANEL_CFG.EN.addr 0) v fun x => x.writePanelCfg v

/-- Whether the lower bounds rise with the band, with the four of register `i` as `v` gives them (R608). -/
def Dev.bandsRise (d : Dev) (i v : Nat) : Bool :=
  let at_ := fun (b : Nat) => if b / 4 = i then signedOf 8 (bitsAt v (8 * (b % 4)) 8) else d.bandLower b
  (List.range 15).all fun b => at_ b < at_ (b + 1)

/-- Whether a PANEL register takes a value (R580, R592, R608). -/
def Dev.panelWriteOk (d : Dev) (off i v : Nat) : Bool :=
  if off = Reg.PANEL_GEOM.WIDTH.addr 0 then
    d.panel.rails == .off && bitsAt v 0 11 % 8 == 0
      && scanTime (bitsAt v 0 11) (bitsAt v 16 11) (d.get Reg.PANEL_TIMING.LINE_GAP 0) (d.get Reg.PANEL_TIMING.CLKDIV 0) ≤ 11000
  else if off = Reg.PANEL_TIMING.CLKDIV.addr 0 then
    d.panel.rails == .off && scanTime d.panelW d.panelH (bitsAt v 8 8) (bitsAt v 0 4) ≤ 11000
  else if off = Reg.PANEL_TEMP.SOURCE.addr 0 then
    isNull v || (v < 2 ^ 20 && !d.badName v && (classOf v == clsUI || classOf v == clsINTL || classOf v == clsNODE || classOf v == clsVAR))
  else if off = Reg.PANEL_BAND.LOWER0.addr i then d.bandsRise i v
  else true

end Sys2Proof.Machine
end

