-- ==== Sys2Proof/Machine/Quilt.lean ====
section
/-! DEFINITION. The quilt: stitches and control words received, link states, admission, routes, remote rings and quilt time (11_quilt.md, 02_tick_clocks_time.md). -/

namespace Sys2Proof.Machine
open Sys2Proof

/-! ### Quilt time (R84 to R90) -/

/-- Whether the first candidate beats the second: the lower priority, then the lower device number (R86). -/
def electBetter (a b : Nat × Nat × Nat) : Bool := a.2.1 < b.2.1 || (a.2.1 == b.2.1 && a.1 < b.1)

/-- The winner among candidates (device, TIME_PRIO, hops); priority 255 never wins. -/
def electAmong : List (Nat × Nat × Nat) → Option (Nat × Nat × Nat)
  | [] => none
  | c :: t => match electAmong t with
    | none => if c.2.1 = 255 then none else some c
    | some w => if c.2.1 != 255 && electBetter c w then some c else some w

/-- R86: an election among the other devices' candidates and this device. -/
def Dev.elect (d : Dev) (cands : List (Nat × Nat × Nat)) : Dev :=
  let me := if d.isSet Reg.GLOBAL_DEVNUM.ACTIVE_VALID 0 then [(d.devNum, d.get Reg.QUILT_TIME_CFG.TIME_PRIO 0, 0)] else []
  let prev := if d.isSet Reg.QUILT_TIME_STAT.MASTER_VALID 0 then d.get Reg.QUILT_TIME_STAT.MASTER_DEV 0 else 0xFFFF
  match electAmong (me ++ cands) with
  | none => (d.put Reg.QUILT_TIME_STAT.MASTER_VALID 0 0).put Reg.QUILT_TIME_STAT.IS_MASTER 0 0
  | some w =>
    let self := !me.isEmpty && w.1 == d.devNum
    let d1 := ((((d.put Reg.QUILT_TIME_STAT.MASTER_VALID 0 1).put Reg.QUILT_TIME_STAT.MASTER_DEV 0 w.1).put
      Reg.QUILT_TIME_STAT.MASTER_HOPS 0 (if self then 0 else w.2.2))).putBit Reg.QUILT_TIME_STAT.IS_MASTER 0 self
    let d2 := if self then
        ((d1.put Reg.QUILT_TIME_STAT.HOLDOVER 0 0).put Reg.QUILT_TIME_STAT.LOCKED 0 1).put Reg.QUILT_TIME_OFFSET.OFFSET_NS 0 0
      else { d1 with quilt := { d1.quilt with markerAt := d1.tick } }
    let d3 := d2.followHops
    if w.1 = prev then d3 else d3.raise 0x0A40 d3.nullName (leBytes 2 w.1 ++ leBytes 2 prev)

/-- R86: the master sends a marker on every link once per 100 ticks. -/
def execTimeMarkerSend (s : State) : Host.Outcome State Fault Refusal :=
  s.onDev fun d =>
    if d.live && d.isSet Reg.QUILT_TIME_STAT.IS_MASTER 0 && d.tick % 100 == 0 && d.quilt.marked != some (d.tick % 2 ^ 24) then
      { d with quilt := { d.quilt with marked := some (d.tick % 2 ^ 24) } }.flood kTIME (d.tick % 2 ^ 24) none
    else d

/-- The offset to the master at a marker, with LOCKED and its events (R87 to R90). An offset beyond the signed 32 bits of OFFSET_NS wraps there:
DESIGN CHOICE (log 189), the spec does not say whether it saturates. -/
def Dev.takeOffset (d : Dev) (ns : Int) : Dev :=
  let locked := d.isSet Reg.QUILT_TIME_STAT.LOCKED 0
  let now := decide (-1000 ≤ ns) && decide (ns ≤ 1000)
  let d1 := (d.put Reg.QUILT_TIME_OFFSET.OFFSET_NS 0 (bitsOf 32 ns)).putBit Reg.QUILT_TIME_STAT.LOCKED 0 now
  if now && !locked then d1.raise 0x0A42 d1.nullName (leBytes 4 (bitsOf 32 ns))
  else if !now && locked then d1.raise 0x0A41 d1.nullName (leBytes 4 (bitsOf 32 ns))
  else d1

/-- R86: a marker of the master arrives on port `p`, `ns` after the boundary it names by this device's own time: it is forwarded once,
and a follower forms its offset with the port's path delay taken off. -/
def execTime (p low : Nat) (ns : Int) (s : State) : Host.Outcome State Fault Refusal :=
  s.onDev fun d =>
    if !(d.live && d.portUp p) || d.quilt.marked = some (low % 2 ^ 24) then d
    else
      let d1 := { d with quilt := { d.quilt with marked := some (low % 2 ^ 24) } }.flood kTIME (low % 2 ^ 24) (some p)
      if d1.isSet Reg.QUILT_TIME_STAT.IS_MASTER 0 || !d1.isSet Reg.QUILT_TIME_STAT.MASTER_VALID 0 then d1
      else
        ({ d1 with quilt := { d1.quilt with markerAt := d1.tick } }.put Reg.QUILT_TIME_STAT.HOLDOVER 0 0).takeOffset
          (ns - (d1.get Reg.QUILT_PATH_DLY.DELAY_NS p : Int))

/-- R86: no marker for 10 ms: the follower free-runs and takes part in the election among `cands`. -/
def execMasterLost (cands : List (Nat × Nat × Nat)) (s : State) : Host.Outcome State Fault Refusal :=
  s.onDev fun d =>
    if d.live && d.isSet Reg.QUILT_TIME_STAT.MASTER_VALID 0 && !d.isSet Reg.QUILT_TIME_STAT.IS_MASTER 0
        && decide (d.quilt.markerAt + 1000 ≤ d.tick) then
      (d.put Reg.QUILT_TIME_STAT.HOLDOVER 0 1).elect cands
    else d

/-- R430: whether port `p` has too few extra slots for its path delay. -/
def Dev.skipShort (d : Dev) (p : Nat) : Dev :=
  let dly := d.get Reg.QUILT_PATH_DLY.DELAY_NS p
  let short := dly != 0xFFFF && decide (2000 * d.get Reg.PORT_CFG.SLOT_SKIP p < 3 * (dly - 75))
  d.putBit Reg.PORT_STAT.SKIP_SHORT p short

/-- Whether a second has passed since the latest exchange of a port. -/
def PortSt.exchangeDue (x : PortSt) (tick : Nat) : Bool :=
  match x.exchAt with
  | none => true
  | some t => t + 100000 ≤ tick

/-- R86: once per second a port starts a two-way exchange; `tx` is the CLK_SEAM time at which its request leaves. -/
def execDelayExchange (p tx : Nat) (s : State) : Host.Outcome State Fault Refusal :=
  s.onDev fun d =>
    if !(d.live && d.portUp p && (d.port p).exchangeDue d.tick) then d
    else
      let x := d.port p
      let n := (x.exchange + 1) % 256
      (d.setPort p { x with exchange := n, sentAt := some tx, backAt := none, exchAt := some d.tick }).emit (.control p kDELAY n)

/-- R86: a DELAY word received at CLK_SEAM time `rx`: a request is answered at `tx`, and both times go to the neighbour. -/
def execDelay (p n : Nat) (response : Bool) (rx tx : Nat) (s : State) : Host.Outcome State Fault Refusal :=
  s.onDev fun d =>
    if !(d.live && d.portUp p) then d
    else
      let x := d.port p
      if response then
        if n = x.exchange then d.setPort p { x with backAt := some rx } else d
      else
        (d.emit (.control p kDELAY (n % 256 + 256))).sendControl (d.get Reg.PORT_NBR.DEV p) 13
          ([2, n % 256] ++ leBytes 8 rx ++ leBytes 8 tx) (some p)

/-- The neighbour's times of an exchange complete it: half the sum of both ways, in ns (R86). A result outside 0 to 0xFFFE is set to the
nearer end: DESIGN CHOICE (log 190), the spec does not say what DELAY_NS reads then. -/
def Dev.takeStamps (d : Dev) (p n rxb txb : Nat) : Dev :=
  let x := d.port p
  match x.sentAt, x.backAt with
  | some txa, some rxa =>
    if n != x.exchange then d
    else
      let cycles := ((rxb : Int) - txa) + ((rxa : Int) - txb)
      let ns := (clampInt 0 0xFFFE (roundDiv (5 * cycles) 24)).toNat
      ((d.put Reg.QUILT_PATH_DLY.DELAY_NS p ns).setPort p { x with sentAt := none, backAt := none }).skipShort p
  | _, _ => d

/-! ### Neighbours (R413, R414, R417) -/

/-- The PORT_NBR word of a port. -/
def Dev.nbrWord (d : Dev) (p : Nat) : Nat :=
  d.get Reg.PORT_NBR.DEV p + 2 ^ 10 * d.get Reg.PORT_NBR.PORT p + 2 ^ 13 * d.get Reg.PORT_NBR.VALID p
    + 2 ^ 14 * d.get Reg.PORT_NBR.DUPLICATE p + 2 ^ 15 * d.get Reg.PORT_NBR.NUMBERED p

/-- R417: the eight neighbour words go to REPORT_DEV. -/
def Dev.reportNbrs (d : Dev) : Dev :=
  if !d.isSet Reg.QUILT_CFG.REPORT_EN 0 then d
  else d.sendControl (d.get Reg.QUILT_CFG.REPORT_DEV 0) 13 ([1, 0] ++ (List.range 8).flatMap fun p => leBytes 2 (d.nbrWord p)) none

/-- A neighbour's device number as events give it: 0xFFFF for one that has none. -/
def Dev.nbrDev (d : Dev) (p : Nat) : Nat :=
  if d.isSet Reg.PORT_NBR.VALID p && d.isSet Reg.PORT_NBR.NUMBERED p then d.get Reg.PORT_NBR.DEV p else 0xFFFF

/-- A neighbour reported; a change raises NEIGHBOUR and is reported on. -/
def Dev.setNbr (d : Dev) (p dev port : Nat) (numbered dup : Bool) : Dev :=
  let prev := d.nbrDev p
  let old := d.nbrWord p
  let d1 := ((((d.put Reg.PORT_NBR.DEV p dev).put Reg.PORT_NBR.PORT p port).put Reg.PORT_NBR.VALID p 1).putBit
    Reg.PORT_NBR.DUPLICATE p dup).putBit Reg.PORT_NBR.NUMBERED p numbered
  if d1.nbrWord p = old then d1
  else
    (d1.raise 0x0A04 (d1.name clsSEAM p) (leBytes 2 (d1.nbrDev p) ++ [port % 8, if dup then 1 else 0] ++ leBytes 2 prev)).reportNbrs

/-- R408: an IDLE word names the neighbour and, where it has one, its number. -/
def execIdle (p dev port : Nat) (numbered : Bool) (s : State) : Host.Outcome State Fault Refusal :=
  s.onDev fun d =>
    if d.live && p < 8 && (d.portState p == pUP || d.portState p == pAUDIT) && numbered then
      d.setNbr p dev port true (d.isSet Reg.PORT_NBR.DUPLICATE p)
    else d

/-! ### Link states (R411 to R415, R439) -/

/-- An AUDIT word of class `c` sent on port `p`: the credits held and the CREDIT words received. -/
def Dev.sendAudit (d : Dev) (p c : Nat) : Dev :=
  d.emit (.control p kAUDIT (c + 4 * d.get Reg.PORT_CONS.TX_CREDITS (4 * p + c) + 512 * ((d.port p).creditsIn.getD c 0)))

/-- AUDIT words of the four classes. -/
def Dev.sendAudits (d : Dev) (p : Nat) : Dev := (List.range 4).foldl (fun (y : Dev) c => y.sendAudit p c) d

/-- R62, R86, R88, R415: quilt training, at the first completion of the exchange. A later exchange elects where the link joins two parts of a quilt:
`cands` then names the devices of the other part, and is empty where no election is held. -/
def Dev.quiltTrain (d : Dev) (cands : List (Nat × Nat × Nat)) : Dev :=
  if !d.quilt.trainDue then (if cands.isEmpty then d else d.elect cands)
  else
    let d1 := { d with quilt := { d.quilt with trainDue := false } }
    let d2 := ((d1.put Reg.GLOBAL_DEVNUM.DEVNUM_ACTIVE 0 (d1.get Reg.GLOBAL_DEVNUM.DEVNUM 0)).put Reg.GLOBAL_DEVNUM.ACTIVE_VALID 0
      (d1.get Reg.GLOBAL_DEVNUM.DEVNUM_SET 0)).put Reg.QUILT_STAT.TRAINED 0 1
    d2.elect cands

/-- The counts and credits that training sets (step 4 of R413): `used` are the neighbour's receiver buffers in use by class. -/
def Dev.trainCounts (d : Dev) (p : Nat) (used : List Nat) : Dev :=
  let x := d.port p
  let d1 := d.setPort p { x with nak := false, creditsOut := [0, 0, 0, 0], creditsIn := [0, 0, 0, 0], retry := [], acked := 0, accepted := 0
                                 passed := 0, asked := 0, errs := [] }
  (List.range 4).foldl (fun (y : Dev) c =>
    let u := min 64 (used.getD c 0)
    (y.put Reg.PORT_CONS.TX_CREDITS (4 * p + c) (64 - u)).put Reg.PORT_CONS.TX_OUT (4 * p + c) u) d1

/-- R413, R414: the training exchange of an aligned port. -/
def execTrain (p dev port : Nat) (numbered looped : Bool) (used : List Nat) (cands : List (Nat × Nat × Nat)) (s : State) :
    Host.Outcome State Fault Refusal :=
  s.onDev fun d =>
    if !(d.live && p < 8 && d.portState p == pTRAINING && !(d.port p).idle && d.isSet Reg.PORT_STAT.ALIGNED p) then d
    else
      let d0 := d.quiltTrain cands
      let dup := numbered && d0.isSet Reg.GLOBAL_DEVNUM.DEVNUM_SET 0 && dev == d0.devNum && !looped
      let d1 := d0.setNbr p dev port numbered dup
      if dup || looped then d1 else ((d1.trainCounts p used).setPortState p pAUDIT).sendAudits p

/-- A port becomes UP (R411, R413): LINK_UP, and what waits for it goes out. -/
def Dev.linkUp (d : Dev) (p : Nat) : Dev :=
  let d1 := d.setPortState p pUP
  let d2 := d1.raise 0x0A01 (d1.name clsSEAM p) (leBytes 2 (d1.nbrDev p) ++ [d1.get Reg.PORT_NBR.PORT p])
  let d3 := (d2.put Reg.QUILT_PATH_DLY.DELAY_NS p 0).setPort p { d2.port p with exchAt := none }
  ((d3.reroute none).auditReached).pump

/-- R439: the receiver's side of a link audit. -/
def execAudit (p cls credits count : Nat) (s : State) : Host.Outcome State Fault Refusal :=
  s.onDev fun d =>
    if !(d.live && p < 8 && cls < 4 && (d.portState p == pUP || d.portState p == pAUDIT)) then d
    else
      let x := d.port p
      let i := 4 * p + cls
      let late := (x.creditsOut.getD cls 0 + 4096 - count % 4096) % 4096
      let sum := credits + d.get Reg.PORT_CONS.RX_USED i + d.get Reg.PORT_CONS.RX_FREED i + late
      let ok := sum == 64
      let d1 := d.raise 0x0A05 (d.name clsSEAM p) ([cls, if ok then 1 else 0] ++ leBytes 2 sum)
      if !ok then (d1.put Reg.QUILT_STAT.AUDIT_FAIL 0 1).linkDown p 5
      else if d1.portState p = pAUDIT then
        let m := Nat.lor x.passed (2 ^ cls)
        let d2 := d1.setPort p { x with passed := m }
        if m = 15 then d2.linkUp p else d2
      else if x.asked.testBit cls then
        let one := fun (a : AuditOp) => { a with links := a.links.filter fun k => k != i }
        let d2 := d1.setPort p { x with asked := x.asked - 2 ^ cls }
        { d2 with quilt := { d2.quilt with audits := d2.quilt.audits.map one } }.endAudits
      else d1.sendAudit p cls

/-- R412: no decodable word for 8 µs. -/
def execLinkSilence (p : Nat) (s : State) : Host.Outcome State Fault Refusal :=
  s.onDev fun d => if d.live && d.portUp p then d.linkDown p 1 else d

/-- R412: a DOWN word of the neighbour. -/
def execDown (p _cause : Nat) (s : State) : Host.Outcome State Fault Refusal :=
  s.onDev fun d => if d.live && d.portUp p then d.linkDown p 3 else d

/-- Whether SEAM_LOS holds port `p` in DOWN (R401). -/
def Dev.losHeld (d : Dev) (p : Nat) : Bool := d.isSet Reg.PORT_STAT.LOS p && d.isSet Reg.PORT_CFG.LOS_EN p

/-- A port that SEAM_LOS must hold in DOWN goes there (R401); one released after its DOWN words goes to TRAINING. -/
def Dev.applyLos (d : Dev) (p : Nat) : Dev :=
  let st := d.portState p
  if d.losHeld p then (if st = pDISABLED || st = pDOWN then d.put Reg.PORT_STAT.DOWN_CAUSE p (if st = pDOWN then 4 else d.get Reg.PORT_STAT.DOWN_CAUSE p) else d.linkDown p 4)
  else if st = pDOWN && (d.port p).downSent then d.enterTraining p
  else d

/-- R401, R412: SEAM_LOS of port `p` changes. -/
def execSeamLos (p : Nat) (high : Bool) (s : State) : Host.Outcome State Fault Refusal :=
  s.onDev fun d => if d.live && p < 8 then (d.putBit Reg.PORT_STAT.LOS p high).applyLos p else d

/-- The device's side of the TRAIN exchange (step 3 of R413): device number, port, DEVNUM_SET, stepping, BL_ACTIVE, in the layout of the model's
own (DESIGN CHOICE, log 191: the spec gives the 24 bits no layout). -/
def Dev.trainWord (d : Dev) (p : Nat) : Nat :=
  d.devNum % 2 ^ 10 + 2 ^ 10 * (p % 8) + 2 ^ 13 * d.get Reg.GLOBAL_DEVNUM.DEVNUM_SET 0 + 2 ^ 14 * (d.get Reg.GLOBAL_CAP.STEPPING 0 % 2 ^ 8)
    + 2 ^ 22 * (d.bl % 4)

/-- R413: the receiver aligns to K28.5. -/
def execReceiverAligned (p : Nat) (s : State) : Host.Outcome State Fault Refusal :=
  s.onDev fun d =>
    if d.live && p < 8 && d.portState p == pTRAINING && !(d.port p).idle then
      (d.put Reg.PORT_STAT.ALIGNED p 1).emit (.control p kTRAIN (d.trainWord p))
    else d

/-- R411: 10 ms of training without completing: electrical idle. -/
def execTrainingTimeout (p : Nat) (s : State) : Host.Outcome State Fault Refusal :=
  s.onDev fun d =>
    if d.live && p < 8 && d.portState p == pTRAINING && !(d.port p).idle && decide ((d.port p).since + 1000 ≤ d.tick) then
      (d.put Reg.PORT_STAT.ALIGNED p 0).setPort p { d.port p with idle := true, since := d.tick }
    else d

/-- R411: 100 ms of electrical idle end. -/
def execTrainingIdleEnd (p : Nat) (s : State) : Host.Outcome State Fault Refusal :=
  s.onDev fun d =>
    if d.live && p < 8 && d.portState p == pTRAINING && (d.port p).idle && decide ((d.port p).since + 10000 ≤ d.tick) then d.enterTraining p else d

/-- R411: 20 µs of sending DOWN end. -/
def execDownSendEnd (p : Nat) (s : State) : Host.Outcome State Fault Refusal :=
  s.onDev fun d =>
    if d.live && p < 8 && d.portState p == pDOWN && decide ((d.port p).since + 2 ≤ d.tick) then
      if d.losHeld p then d.setPort p { d.port p with downSent := true } else d.enterTraining p
    else d

/-- The port enables of QUILT_CFG take effect (R411). -/
def Dev.applyPortEn (d : Dev) : Dev :=
  (List.range 8).foldl (fun (y : Dev) p =>
    let en := bitAt (y.get Reg.QUILT_CFG.PORT_EN 0) p
    let st := y.portState p
    if en && st = pDISABLED then (y.enterTraining p).applyLos p
    else if !en && st = pUP then y.leaveUp p pDISABLED 6
    else if !en && st != pDISABLED then y.setPortState p pDISABLED
    else y) d

/-- A QUILT write refused (R451). -/
def Dev.quiltReject (d : Dev) : Dev := d.put Reg.QUILT_STAT.WRITE_REJECTED 0 1

/-- R411, R451: a write of QUILT_CFG. -/
def Dev.writeQuiltCfg (d : Dev) (v : Nat) : Dev :=
  if bitsAt v 9 7 = 0 then d.quiltReject
  else
    let d1 := ((((d.putHost Reg.QUILT_CFG.PORT_EN 0 (bitsAt v 0 8)).putHost Reg.QUILT_CFG.AUTO_REVERT 0 (bitsAt v 8 1)).putHost
      Reg.QUILT_CFG.REVERT_TIME 0 (bitsAt v 9 7)).putHost Reg.QUILT_CFG.REPORT_DEV 0 (bitsAt v 16 10)).putHost
      Reg.QUILT_CFG.REPORT_EN 0 (bitsAt v 26 1)
    if 12 ≤ d1.get Reg.PWR_STAT.START_STEP 0 then d1.applyPortEn else d1

/-- R411. -/
def execPortEnWrite (v : Nat) (s : State) : Host.Outcome State Fault Refusal :=
  s.onDev fun d => d.hostReg 0x20008 v fun x => x.writeQuiltCfg v

/-- R452: a host write of PORT_EQ; the equaliser follows it step by step. -/
def Dev.writePortEq (d : Dev) (p v : Nat) : Dev :=
  ((d.putHost Reg.PORT_EQ.TX_DEEMPH p (bitsAt v 0 4)).putHost Reg.PORT_EQ.RX_CTLE p (bitsAt v 8 4)).put Reg.PORT_EQ.BY_FITTING p 0

/-- R452. -/
def execPortEqWrite (p v : Nat) (s : State) : Host.Outcome State Fault Refusal :=
  s.onDev fun d => if p < 8 then d.hostReg (Reg.PORT_EQ.TX_DEEMPH.addr p) v fun x => x.writePortEq p v else d

/-- One code towards a target. -/
def oneCode (a b : Nat) : Nat := if a < b then a + 1 else if b < a then a - 1 else a

/-- R416: the equaliser of a port moves by at most one code per field, at a tick boundary, at most once per 10 ms. -/
def Dev.eqStep (d : Dev) (p : Nat) : Dev :=
  let x := d.port p
  let tx := d.get Reg.PORT_EQ.TX_DEEMPH p
  let rx := d.get Reg.PORT_EQ.RX_CTLE p
  if (x.eqTx = tx && x.eqRx = rx) || decide (d.tick < x.eqAt + 1000) then d
  else d.setPort p { x with eqTx := oneCode x.eqTx tx, eqRx := oneCode x.eqRx rx, eqAt := d.tick }

/-- R421: the primary port `p` has been UP for REVERT_TIME. -/
def execRevertTimer (p : Nat) (s : State) : Host.Outcome State Fault Refusal :=
  s.onDev fun d =>
    if d.live && d.portUp p && d.isSet Reg.QUILT_CFG.AUTO_REVERT 0
        && decide ((d.port p).since + 10000 * d.get Reg.QUILT_CFG.REVERT_TIME 0 ≤ d.tick) then (d.reroute (some p)).pump
    else d

/-! ### Control words of a link (R410, R435) -/

/-- R410: an ACK drops acknowledged stitches from the retry buffer; a NAK resends the rest from its count. A stitch whose word there is
uncorrectable is not resent, and is one more link error (R33). -/
def execAck (p count : Nat) (nak : Bool) (ns : Nat) (s : State) : Host.Outcome State Fault Refusal :=
  s.onDev fun d =>
    if !(d.live && d.portUp p) then d
    else
      let x := d.port p
      let n := (count % 4096 + 4096 - x.acked) % 4096
      if x.retry.length < n then d
      else
        let rest := x.retry.drop n
        let d1 := d.setPort p { x with retry := rest, acked := count % 4096 }
        if !nak then d1.pump
        else
          let r := d1.readRetries p
          let d2 := r.2.setPort p { r.2.port p with retry := r.1.1 }
          let d3 := r.1.1.foldl (fun (y : Dev) st => (y.emit (.stitch p st.line)).bump Reg.PORT_RETRY.RESENT p 0xFFFF) d2
          ((List.range (r.1.2 + 1)).foldl (fun (y : Dev) _ => y.linkError p ns) d3).pump

/-- R435: credits come back. -/
def execCredit (p cls n : Nat) (s : State) : Host.Outcome State Fault Refusal :=
  s.onDev fun d =>
    if !(d.live && p < 8 && cls < 4 && (d.portState p == pUP || d.portState p == pAUDIT)) then d
    else
      let i := 4 * p + cls
      let x := d.port p
      let c := min 64 (d.get Reg.PORT_CONS.TX_CREDITS i + (if n % 64 = 0 then 64 else n % 64))
      (((d.put Reg.PORT_CONS.TX_CREDITS i c).put Reg.PORT_CONS.TX_OUT i (64 - c)).setPort p
        { x with creditsIn := x.creditsIn.set cls ((x.creditsIn.getD cls 0 + 1) % 4096) }).pump

/-- A stitch not accepted: a NAK asks for it again (R410). -/
def Dev.sendNak (d : Dev) (p : Nat) : Dev :=
  let x := d.port p
  (d.setPort p { x with nak := true }).emit (.control p kACK (x.accepted + 4096))

/-- R410: a stitch whose code word is uncorrectable: it and what follows are discarded until the neighbour resends. -/
def execSeamUncorrectable (p : Nat) (x : LostStitch) (s : State) : Host.Outcome State Fault Refusal :=
  s.onDev fun d =>
    if !(d.live && d.portUp p) || decodeErr (x.wrong % 2 ^ 280) != .uncorrectable then d
    else
      let d1 := d.bump Reg.PORT_ERR.UNCORRECTABLE p 0xFFFF
      let n := d1.get Reg.PORT_ERR.UNCORRECTABLE p
      let d2 := d1.raiseLimited 0x0A07 (d1.name clsSEAM p) d1.tick n ([0, 0, 0, 0] ++ leBytes 4 n)
      (d2.sendNak p).linkError p x.ns

/-! ### Tokens at the destination (R436, R437) -/

/-- Tokens granted to a source and class. -/
def Dev.grantedTo (d : Dev) (src c : Nat) : Nat := Map.get d.quilt.granted (4 * src + c) 0

/-- The same, set, with QUILT_TOKEN.GRANTED and QUILT_POOL.FREE. -/
def Dev.setGranted (d : Dev) (src c n : Nat) : Dev :=
  let d1 := { d with quilt := { d.quilt with granted := Map.set d.quilt.granted (4 * src + c) n 0 } }
  let d2 := d1.put Reg.QUILT_TOKEN.GRANTED src (d1.grantedTo src 1 + d1.grantedTo src 2 + d1.grantedTo src 3)
  d2.put Reg.QUILT_POOL.FREE 0 (4096 - (d2.quilt.granted.map fun e => e.2).foldl (· + ·) 0)

/-- What a request may get: up to 16 per source and class, as far as the pool reaches. -/
def Dev.grantable (d : Dev) (src c asked : Nat) : Nat := min (min asked (16 - d.grantedTo src c)) (d.get Reg.QUILT_POOL.FREE 0)

/-- A grant made and sent. -/
def Dev.grant (d : Dev) (src c n : Nat) : Dev :=
  if n = 0 then d else (d.setGranted src c (d.grantedTo src c + n)).sendControl src 8 [c, n] none

/-- Requests that wait for the pool, served in order of arrival while buffers are free. -/
def Dev.servePool (d : Dev) : List (Nat × Nat × Nat) → Dev
  | [] => { d with quilt := { d.quilt with poolWait := [] } }.put Reg.QUILT_POOL.WAITING 0 0
  | r :: t =>
    if d.get Reg.QUILT_POOL.FREE 0 = 0 then
      { d with quilt := { d.quilt with poolWait := r :: t } }.put Reg.QUILT_POOL.WAITING 0 (t.length + 1)
    else (d.grant r.1 r.2.1 (d.grantable r.1 r.2.1 r.2.2)).servePool t

/-! ### Admission (R432, R433, R447) -/

/-- The payload of an ADMIT stitch; the spec names the walk record and gives no layout, so this is the model's: kind (0 open, 1 reserve,
2 close, 3 remove), chain, consumer, source, flow, P (0 for a class-1 flow), φ, slot, ticks advanced, bound hops so far, alternate
branch and hop limit, two objects as in a VALUE payload, the branch index, and the slot tried first. -/
def admitData (kind chain consumer src flow period phase slot adv hops : Nat) (alt : Bool) (limit o1 o2 idx att : Nat) : List Nat :=
  [kind, chain] ++ leBytes 2 consumer ++ leBytes 2 src ++ leBytes 2 flow ++ leBytes 2 period ++ leBytes 2 phase
    ++ [slot, adv, hops, (if alt then 1 else 0) + 2 * limit] ++ leBytes 4 o1 ++ leBytes 4 o2 ++ [idx, att]

/-- The payload of an ADMIT_REPLY: bytes 0 to 4 as R406 gives them; then the chain, the flow, the source, whether it is the source's reply to
the consumer, the branch, its index, the slot tried first, and the class. -/
def replyData (result port dev hops chain flow src : Nat) (last alt : Bool) (idx att cls : Nat) : List Nat :=
  [result, port] ++ leBytes 2 dev ++ [hops, chain] ++ leBytes 2 flow ++ leBytes 2 src
    ++ [if last then 1 else 0, if alt then 1 else 0, idx, att, cls]

/-- The bytes of a reservation record, and back. -/
def resvBytes (r : Resv) : List Nat :=
  [r.port, r.slot] ++ leBytes 2 r.period ++ leBytes 2 r.offset ++ leBytes 2 r.src ++ leBytes 2 r.flow ++ [r.chain] ++ leBytes 2 r.dest
    ++ [if r.alt then 1 else 0, 0, 0]

/-- Reservation `j` of the retained flow and reservation table. -/
def resvAt (bs : List Nat) (j : Nat) : Resv :=
  let o := 16 * j
  { port := bs.getD o 0, slot := bs.getD (o + 1) 0, period := leAt bs (o + 2) 2, offset := leAt bs (o + 4) 2, src := leAt bs (o + 6) 2
    flow := leAt bs (o + 8) 2, chain := bs.getD (o + 10) 0, dest := leAt bs (o + 11) 2, alt := bs.getD (o + 13) 0 == 1 }

/-- The key of the flows open here. -/
def keyINFLOW : Nat := 2 ^ 20 + 6

/-- The reservations set: the table is retained, and PORT_TACK.RESERVED counts them. -/
def Dev.setResvs (d : Dev) (l : List Resv) : Dev :=
  let d1 := { d with quilt := { d.quilt with resvs := l } }.setBlock keyFLOWS (l.flatMap resvBytes)
  (List.range 8).foldl (fun (y : Dev) p => y.putRet Reg.PORT_TACK.RESERVED p (l.filter fun r => r.port == p).length) d1

/-- The flows open here, set and retained. -/
def Dev.setInFlows (d : Dev) (l : List (Nat × Nat × Nat × Nat)) : Dev :=
  { d with quilt := { d.quilt with inFlows := l } }.setBlock keyINFLOW
    (l.flatMap fun (f : Nat × Nat × Nat × Nat) => leBytes 2 f.1 ++ leBytes 2 f.2.1 ++ [f.2.2.1, f.2.2.2, 0, 0])

/-- Whether two reservations of one port use the same slot in a coinciding tick (R433). -/
def coincide (a b : Resv) : Bool :=
  a.port == b.port && a.slot == b.slot && a.offset % Nat.gcd a.period b.period == b.offset % Nat.gcd a.period b.period

/-- Whether two reservations belong to the same chain. -/
def sameChain (a b : Resv) : Bool := a.src == b.src && a.flow == b.flow && a.chain == b.chain

/-- Why a port refuses a reservation: 0 it does not, 1 no free slot, 3 full, 7 SKIP_SHORT (R430, R433). -/
def Dev.refuseResv (d : Dev) (r : Resv) : Nat :=
  if d.isSet Reg.PORT_STAT.SKIP_SHORT r.port then 7
  else if d.quilt.resvs.any fun x => coincide x r && !sameChain x r then 1
  else if 255 ≤ (d.quilt.resvs.filter fun x => x.port == r.port).length then 3
  else 0

/-- The branches by which a walk leaves this device for its consumer (R433): on the primary path the primary, and a valid alternate;
on an alternate path the primary only. Each with whether it is an alternate branch and its index. -/
def Dev.walkPorts (d : Dev) (dest : Nat) (alt : Bool) (idx : Nat) : List (Nat × Bool × Nat) :=
  if !d.isSet Reg.QUILT_ROUTE.PRI_VALID dest then []
  else
    let p := d.get Reg.QUILT_ROUTE.PRIMARY dest
    if alt then [(p, true, idx)]
    else if d.isSet Reg.QUILT_ROUTE.ALT_VALID dest then [(p, false, idx + 1), (d.get Reg.QUILT_ROUTE.ALTERNATE dest, true, idx)]
    else [(p, false, idx)]

/-- A walk passes this device: it reserves on every branch and goes on, or is refused with a result and a port. -/
def Dev.passWalk (d : Dev) (a : List Nat) (slot adv : Nat) : (Nat × Nat) × Dev :=
  let consumer := leAt a 2 2
  let period := leAt a 8 2
  let ports := d.walkPorts consumer (bitAt (a.getD 15 0) 0) (a.getD 24 0)
  let resv := fun (b : Nat × Bool × Nat) =>
    ({ port := b.1, slot := slot, period := period, offset := (leAt a 10 2 + adv) % max 1 period, src := leAt a 4 2, flow := leAt a 6 2
       chain := a.getD 1 0, dest := consumer, alt := b.2.1 } : Resv)
  let bad := if period = 0 then none else ports.findSome? fun b => if d.refuseResv (resv b) = 0 then none else some (d.refuseResv (resv b), b.1)
  if ports.isEmpty then ((5, 0xFF), d)
  else match bad with
    | some r => (r, d)
    | none =>
      let new := if period = 0 then [] else (ports.map resv).filter fun r => !d.quilt.resvs.contains r
      let d1 := if new.isEmpty then d else d.setResvs (d.quilt.resvs ++ new)
      let one := fun (y : Dev) (b : Nat × Bool × Nat) =>
        y.sendControl (y.get Reg.PORT_NBR.DEV b.1) 10
          (admitData 1 (a.getD 1 0) consumer (leAt a 4 2) (leAt a 6 2) period (leAt a 10 2) slot adv
            (a.getD 14 0 + 1 + y.get Reg.PORT_CFG.SLOT_SKIP b.1) b.2.1 (a.getD 15 0 / 2) (leAt a 16 4) (leAt a 20 4) b.2.2 (a.getD 25 0))
          (some b.1)
      ((0, 0), ports.foldl one d1)

/-- The reservations of a chain of a flow removed here; the removal follows every branch. -/
def Dev.removeResvs (d : Dev) (consumer src flow chain : Nat) : Dev :=
  let mine := d.quilt.resvs.filter fun r => r.src == src && r.flow == flow && r.chain == chain
  let d1 := if mine.isEmpty then d else d.setResvs (d.quilt.resvs.filter fun r => !mine.contains r)
  mine.foldl (fun (y : Dev) r =>
    y.sendControl (y.get Reg.PORT_NBR.DEV r.port) 10 (admitData 3 chain consumer src flow r.period 0 r.slot 0 0 r.alt 0 0 0 0 0) (some r.port)) d1

/-- The record of an outgoing flow at its source: object count, chains, class, first slots, objects as in a VALUE payload, P, φ, consumer, chains admitted. -/
def flowRecord (count cls period phase consumer : Nat) (objs slots : List Nat) (mask : Nat) : List Nat :=
  [count, (count + 1) / 2, cls, mask] ++ ((objs ++ List.replicate 6 0).take 6).flatMap (leBytes 4) ++ leBytes 2 period ++ leBytes 2 phase
    ++ leBytes 2 consumer ++ (slots ++ List.replicate 3 0).take 3

/-- The objects of a flow record. -/
def flowObjs (b : List Nat) : List Nat := (List.range 6).map fun j => leAt b (4 + 4 * j) 4

/-- The lowest explicit flow number this device has free. -/
def Dev.freeFlow (d : Dev) : Option Nat :=
  (List.range 1019).find? fun n => (d.block (keyFLOW n)).isEmpty

/-- The consumer's last reply from the source. -/
def Dev.replyConsumer (d : Dev) (consumer result port dev hops chain flow cls : Nat) : Dev :=
  d.sendControl consumer 11 (replyData result port dev hops chain flow d.devNum true false 0 0 cls) none

/-- A walk at its source ends refused: its reservations go, and the consumer hears why. -/
def Dev.refuseWalk (d : Dev) (w : Walk) (result port dev : Nat) : Dev :=
  let b := d.block (keyFLOW w.flow)
  let consumer := leAt b 32 2
  let d1 := { d with quilt := { d.quilt with walks := d.quilt.walks.filter fun x => !(x.flow == w.flow && x.chain == w.chain) } }
  let d2 := d1.removeResvs consumer d1.devNum w.flow w.chain
  (if b.getD 3 0 = 0 then d2.setBlock (keyFLOW w.flow) [] else d2).replyConsumer consumer result port dev w.hops w.chain w.flow (b.getD 2 0)

/-- The source tries first slots from `w.slot` on (R433). -/
def Dev.tryWalk (d : Dev) (w : Walk) : Nat → Dev
  | 0 => d.refuseWalk w 1 0xFF d.devNum
  | n + 1 =>
    let b := d.block (keyFLOW w.flow)
    let a := admitData 1 w.chain (leAt b 32 2) d.devNum w.flow (leAt b 28 2) (leAt b 30 2) w.slot 0 0 false w.limit
      ((flowObjs b).getD (2 * w.chain) 0) ((flowObjs b).getD (2 * w.chain + 1) 0) 0 w.slot
    let r := d.passWalk a w.slot 0
    if r.1.1 = 0 then { r.2 with quilt := { r.2.quilt with walks := r.2.quilt.walks ++ [w] } }
    else if r.1.1 = 1 then d.tryWalk { w with slot := w.slot + 1 } n
    else d.refuseWalk w r.1.1 r.1.2 d.devNum

/-- A consumer's request for one chain arrives at the source. -/
def Dev.openAtSource (d : Dev) (a : List Nat) : Dev :=
  let consumer := leAt a 2 2
  let chain := a.getD 1 0
  let o1 := leAt a 16 4
  let o2 := leAt a 20 4
  let own := d.devNum * 2 ^ 20
  let objs := [o1] ++ (if o2 = 0 then [] else [o2])
  let cls := if leAt a 8 2 = 0 then 1 else 0
  match if leAt a 6 2 = 0x3FF then d.freeFlow else some (leAt a 6 2) with
  | none => d.replyConsumer consumer 4 0xFF d.devNum 0 chain 0x3FF cls
  | some n =>
    if objs.any (fun o => isNull o || d.badName (own + o % 2 ^ 20)) then d.replyConsumer consumer 6 0xFF d.devNum 0 chain n cls
    else if !d.routesFit objs.length 0 then d.replyConsumer consumer 4 0xFF d.devNum 0 chain n cls
    else
      let b := d.block (keyFLOW n)
      let all := (flowObjs b).take (2 * chain) ++ objs
      let d1 := d.setBlock (keyFLOW n) (flowRecord all.length cls (leAt a 8 2) (leAt a 10 2) consumer all
        ((List.range 3).map fun j => b.getD (34 + j) 0) (b.getD 3 0))
      d1.tryWalk { flow := n, chain := chain, slot := 0, limit := a.getD 15 0 / 2, splits := none, alts := [], hops := 0 } 3

/-- A branch reply arrives at the source. -/
def Dev.branchReply (d : Dev) (a : List Nat) : Dev :=
  let flow := leAt a 6 2
  let chain := a.getD 5 0
  match d.quilt.walks.find? fun w => w.flow == flow && w.chain == chain && w.slot == a.getD 13 0 with
  | none => d
  | some w =>
    let rest := d.quilt.walks.filter fun x => !(x.flow == flow && x.chain == chain)
    let d0 := { d with quilt := { d.quilt with walks := rest } }
    let result := a.getD 0 0
    let b := d.block (keyFLOW flow)
    let consumer := leAt b 32 2
    if result = 1 && w.slot < 2 then
      (d0.removeResvs consumer d0.devNum flow chain).tryWalk { w with slot := w.slot + 1, splits := none, alts := [], hops := 0 } (2 - w.slot)
    else if result != 0 then d.refuseWalk w result (a.getD 1 0) (leAt a 2 2)
    else
      let w1 : Walk :=
        { w with splits := if a.getD 11 0 = 0 then some (a.getD 12 0) else w.splits
                 alts := (if a.getD 11 0 = 1 then w.alts ++ [a.getD 12 0] else w.alts), hops := max w.hops (a.getD 4 0) }
      if w1.splits = some w1.alts.length then
        if w1.limit < w1.hops && b.getD 2 0 = 0 then d.refuseWalk w1 2 0xFF d.devNum
        else
          let b1 := (b.set 3 (Nat.lor (b.getD 3 0) (2 ^ chain))).set (34 + chain) w.slot
          (d0.setBlock (keyFLOW flow) b1).replyConsumer consumer 0 0xFF 0xFFFF w1.hops chain flow (b.getD 2 0)
      else { d0 with quilt := { d0.quilt with walks := rest ++ [w1] } }

/-- The source takes a flow down: every chain's reservations go by a further walk. -/
def Dev.closeAtSource (d : Dev) (consumer flow : Nat) : Dev :=
  let ns := if flow = 0x3FF then
      (d.quilt.walks.filter fun w => leAt (d.block (keyFLOW w.flow)) 32 2 == consumer && (d.block (keyFLOW w.flow)).getD 3 0 == 0).map fun w => w.flow
    else if leAt (d.block (keyFLOW flow)) 32 2 = consumer && !(d.block (keyFLOW flow)).isEmpty then [flow] else []
  ns.foldl (fun (y : Dev) n =>
    let y1 := { y with quilt := { y.quilt with walks := y.quilt.walks.filter fun w => w.flow != n } }
    ((List.range 3).foldl (fun (z : Dev) c => z.removeResvs consumer z.devNum n c) y1).setBlock (keyFLOW n) []) d

/-! ### FLOW_OPEN and FLOW_CLOSE at the consumer (R447, R449) -/

/-- The request for one chain of a flow, or for taking a flow down. -/
def Dev.askSource (d : Dev) (kind chain src flow period phase o1 o2 : Nat) : Dev :=
  d.sendControl src 10 (admitData kind chain d.devNum src flow period phase 0 0 0 false (d.routeHops src) o1 o2 0 0) none

/-- The objects of a FLOW_OPEN as in a VALUE payload. -/
def flowOpenObjs (x : Desc) : List Nat :=
  (List.range (x.byte 16)).map fun j => x.u32 (28 + 4 * j) % 2 ^ 20 + 2 ^ 20 * x.byte (52 + j)

/-- The explicit flows that arrive here, those about to be opened among them (R424). -/
def Dev.explicitFlows (d : Dev) : Nat := d.quilt.inFlows.length + (d.quilt.ops.filter fun o => !o.close).length

/-- FLOW_OPEN (R447). -/
def bodyFlowOpen (id : Nat) (x : Desc) (d : Dev) : Dev :=
  let n := x.byte 16
  let names := (List.range n).map fun j => x.u32 (28 + 4 * j)
  let src := devOf (names.getD 0 0)
  if n = 0 || 6 < n || x.u32 20 = 0 || 65535 < x.u32 20 || x.u32 20 ≤ x.u32 24 then d.fail id .badParam
  else if names.any (fun h => isNull h || d.badName h || devOf h != src || d.isLocal h) then d.fail id .badObject
  else if !d.isSet Reg.GLOBAL_DEVNUM.ACTIVE_VALID 0 || (d.routePort src).isNone then d.fail id .unreachable
  else if 2048 ≤ d.explicitFlows then d.finish id .notAdmitted (2 ^ 32 * d.devNum + 2 ^ 48 * 0xFF)
  else
    let o := flowOpenObjs x
    let op : FlowOp := { id := some id, close := false, src := src, flow := none, chains := (n + 1) / 2, done := [], hops := 0, askedAt := d.tick }
    { d with quilt := { d.quilt with ops := d.quilt.ops ++ [op] } }.askSource 0 0 src 0x3FF (x.u32 20) (x.u32 24) (o.getD 0 0) (o.getD 1 0)

/-- R447. -/
def execFlowOpen (q : Nat) (x : Desc) (s : State) : Host.Outcome State Fault Refusal :=
  s.onDev fun d => d.submit q x 0x0A01 [(16, 1), (20, 4), (24, 4), (28, 24), (52, 6)] bodyFlowOpen

/-- FLOW_CLOSE (R447). -/
def bodyFlowClose (id : Nat) (x : Desc) (d : Dev) : Dev :=
  match d.quilt.inFlows.find? fun f => f.1 == x.u16 16 && f.2.1 == x.u16 18 && f.2.2.2 == 0 with
  | none => d.fail id .nothingToAbort
  | some f =>
    let op : FlowOp := { id := some id, close := true, src := f.1, flow := some f.2.1, chains := f.2.2.1, done := [], hops := 0, askedAt := d.tick }
    ({ d with quilt := { d.quilt with ops := d.quilt.ops ++ [op] } }.setInFlows (d.quilt.inFlows.filter fun g => g != f)).askSource 2 0 f.1 f.2.1 0 0 0 0

/-- R447. -/
def execFlowClose (q : Nat) (x : Desc) (s : State) : Host.Outcome State Fault Refusal :=
  s.onDev fun d => d.submit q x 0x0A02 [(16, 2), (18, 2)] bodyFlowClose

/-- An operation of the consumer gone from the list. -/
def Dev.dropOp (d : Dev) (op : FlowOp) : Dev := { d with quilt := { d.quilt with ops := d.quilt.ops.filter fun o => o != op } }

/-- A FLOW_OPEN ends without its flow: its reservations are removed (R447, R449). -/
def Dev.endFlowOpen (d : Dev) (op : FlowOp) (st : Status) : Dev :=
  let d1 := (d.dropOp op).askSource 2 0 op.src (op.flow.getD 0x3FF) 0 0 0 0
  match op.id with
  | some id => d1.fail id st
  | none => d1

/-- The request that a FLOW_OPEN's descriptor makes for a chain. -/
def Dev.askChain (d : Dev) (op : FlowOp) (chain : Nat) : Dev :=
  match op.id with
  | none => d
  | some id => match d.rec? id with
    | none => d
    | some r =>
      let o := flowOpenObjs r.d
      d.askSource 0 chain op.src (op.flow.getD 0x3FF) (r.d.u32 20) (r.d.u32 24) (o.getD (2 * chain) 0) (o.getD (2 * chain + 1) 0)

/-- The source's reply for a chain arrives at the consumer. -/
def Dev.chainReply (d : Dev) (src : Nat) (a : List Nat) : Dev :=
  let flow := leAt a 6 2
  let chain := a.getD 5 0
  match d.quilt.ops.find? fun o => !o.close && o.src == src && o.done.length == chain && (o.flow.isNone || o.flow == some flow) && o.id.isSome == (a.getD 14 0 == 0) with
  | none => if a.getD 0 0 = 0 then d.askSource 2 0 src flow 0 0 0 0 else d
  | some op =>
    if a.getD 0 0 != 0 then
      let d1 := d.dropOp op
      let d2 := if op.done.isEmpty then d1 else d1.askSource 2 0 src flow 0 0 0 0
      match op.id with
      | some id => d2.finish id .notAdmitted (2 ^ 24 * a.getD 4 0 + 2 ^ 32 * leAt a 2 2 + 2 ^ 48 * a.getD 1 0)
      | none => d2
    else
      let op1 := { op with flow := some flow, done := op.done ++ [chain], hops := max op.hops (a.getD 4 0), askedAt := d.tick }
      if op1.done.length < op.chains then
        { d with quilt := { d.quilt with ops := d.quilt.ops.map fun o => if o = op then op1 else o } }.askChain op1 op1.done.length
      else
        let d1 := (d.dropOp op).setInFlows (d.quilt.inFlows ++ [(src, flow, op.chains, a.getD 14 0)])
        match op.id with
        | some id => d1.done id (flow + 2 ^ 16 * op.chains + 2 ^ 24 * op1.hops + 2 ^ 32 * 0xFFFF + 2 ^ 48 * 0xFF)
        | none => d1

/-- A removal walk reaches the consumer: a FLOW_CLOSE ends with its last chain. -/
def Dev.removeReached (d : Dev) (src flow chain : Nat) (alt : Bool) : Dev :=
  if alt then d
  else match d.quilt.ops.find? fun o => o.close && o.src == src && o.flow == some flow with
    | none => d
    | some op =>
      let op1 := { op with done := op.done ++ [chain] }
      if op.chains ≤ op1.done.length then
        match op.id with
        | some id => (d.dropOp op).done id 0
        | none => d.dropOp op
      else { d with quilt := { d.quilt with ops := d.quilt.ops.map fun o => if o = op then op1 else o } }

/-- R447: a walk not answered within 100 ms. -/
def execAdmitTimeout (id : Nat) (s : State) : Host.Outcome State Fault Refusal :=
  s.onDev fun d =>
    match d.quilt.ops.find? fun o => o.id == some id with
    | some op => if d.live && decide (op.askedAt + 10000 ≤ d.tick) then d.endFlowOpen op .timeout else d
    | none => d

/-- An ADMIT stitch consumed (R433). -/
def Dev.takeAdmit (d : Dev) (p : Nat) (st : Stitch) : Dev :=
  let a := st.data
  let consumer := leAt a 2 2
  let src := leAt a 4 2
  match a.getD 0 0 with
  | 0 => d.openAtSource a
  | 1 =>
    let reply := fun (y : Dev) (result port : Nat) =>
      y.sendControl src 11 (replyData result port y.devNum (a.getD 14 0) (a.getD 1 0) (leAt a 6 2) src false (bitAt (a.getD 15 0) 0) (a.getD 24 0)
        (a.getD 25 0) 0) none
    if consumer = d.devNum then reply d 0 0xFF
    else
      let j := a.getD 12 0 + 1 + d.get Reg.PORT_CFG.SLOT_SKIP p
      let r := d.passWalk a (j % 15) (a.getD 13 0 + j / 15)
      if r.1.1 = 0 then r.2 else reply d r.1.1 r.1.2
  | 2 => d.closeAtSource consumer (leAt a 6 2)
  | 3 =>
    if consumer = d.devNum then d.removeReached src (leAt a 6 2) (a.getD 1 0) (bitAt (a.getD 15 0) 0)
    else d.removeResvs consumer src (leAt a 6 2) (a.getD 1 0)
  | _ => d

/-- An ADMIT_REPLY stitch consumed. -/
def Dev.takeReply (d : Dev) (st : Stitch) : Dev :=
  if st.data.getD 10 0 = 0 then d.branchReply st.data else d.chainReply st.src st.data

/-- R242: the class-1 flows of a committed model: two bound objects of one device to a chain. The flows of the model before are taken down. -/
def Dev.patFlows (d : Dev) : Dev :=
  let old := d.quilt.inFlows.filter fun f => f.2.2.2 == 1
  let d1 := if old.isEmpty then d else
    old.foldl (fun (y : Dev) f => y.askSource 2 0 f.1 f.2.1 0 0 0 0) (d.setInFlows (d.quilt.inFlows.filter fun f => f.2.2.2 != 1))
  (d1.patProducers.filter fun h => !d1.isLocal h).foldl (fun (y : Dev) h =>
    let op : FlowOp := { id := none, close := false, src := devOf h, flow := none, chains := 1, done := [], hops := 0, askedAt := y.tick }
    if 2048 ≤ y.explicitFlows then y
    else { y with quilt := { y.quilt with ops := y.quilt.ops ++ [op] } }.askSource 0 0 (devOf h) 0x3FF 0 0 (h % 2 ^ 20) 0) d1

/-! ### VALUE stitches (R407, R432) -/

/-- The latest words of up to two objects as a VALUE payload. -/
def Dev.valueData (d : Dev) (objs : List Nat) : List Nat :=
  let own := d.devNum * 2 ^ 20
  let one := fun (o : Nat) =>
    let w := (d.value? (own + o % 2 ^ 20) (o / 2 ^ 20)).getD (mkWord 0 0 d.tick)
    leBytes 4 o ++ leBytes 8 w.bits
  match objs with
  | [] => []
  | [a] => one a
  | a :: b :: _ => one a ++ one b

/-- R428, R432: at the boundary of its sending ticks a tack flow's stitches take their first slots. -/
def Dev.sendFlow (d : Dev) (n : Nat) : Dev :=
  let b := d.block (keyFLOW n)
  let period := leAt b 28 2
  if b.isEmpty || !d.isSet Reg.GLOBAL_DEVNUM.ACTIVE_VALID 0 || b.getD 2 0 != 0 || b.getD 3 0 != 2 ^ b.getD 1 0 - 1 || (d.tick + period - leAt b 30 2) % max 1 period != 0 then d
  else
    (List.range (b.getD 1 0)).foldl (fun (y : Dev) c =>
      let st := y.ownStitch (leAt b 32 2) 0 0 n (y.valueData (((flowObjs b).take (b.getD 0 0)).drop (2 * c)))
      let k := sendKey st
      let seq := Map.get y.quilt.seqs k 0
      { y with quilt := { y.quilt with seqs := Map.set y.quilt.seqs k ((seq + 1) % 4096) 0 } }.placeTack { st with seq := seq } none) d

/-- R242: the class-1 flows that carry one of the objects just routed send. -/
def Dev.sendBoundary (d : Dev) (n : Nat) (routed : List Nat) : Dev :=
  let b := d.block (keyFLOW n)
  if b.isEmpty || !d.isSet Reg.GLOBAL_DEVNUM.ACTIVE_VALID 0 || b.getD 2 0 != 1 || b.getD 3 0 = 0 then d
  else
    let objs := (flowObjs b).take (b.getD 0 0)
    if objs.any fun o => routed.contains (d.devNum * 2 ^ 20 + o % 2 ^ 20) then
      d.sendToken (leAt b 32 2) 1 0 n (d.valueData objs) none
    else d

/-- One pair of a VALUE payload delivered with REMOTE set (R43, R407). -/
def Dev.takePair (d : Dev) (src obj bits : Nat) : Dev :=
  let name := src * 2 ^ 20 + obj % 2 ^ 20
  let qty := obj / 2 ^ 20 % 256
  let w := (VW.ofBits bits).mark stREMOTE
  let d1 := ((d.delayPut name qty w).countLate name qty w).deliver name qty w
  if qty = 0 then { d1 with arrivals := Map.set d1.arrivals name (d1.tick + 1) 0 } else d1

/-- A VALUE stitch consumed. -/
def Dev.takeValue (d : Dev) (st : Stitch) : Dev :=
  let a := st.data
  let d1 := d.takePair st.src (leAt a 0 4) (leAt a 4 8)
  if allZeroBytes (a.drop 12) then d1 else d1.takePair st.src (leAt a 12 4) (leAt a 16 8)
where
  /-- Whether the second pair is absent. -/
  allZeroBytes (l : List Nat) : Bool := l.all (· == 0)

/-- Whether slot `j` of the present tick is still to begin on a port (R428). -/
def PortSt.slotComes (x : PortSt) (tick j : Nat) : Bool :=
  match x.slot with
  | some (t, i) => t != tick || decide (i < j)
  | none => true

/-- R428: tack slot `j` of the present tick begins on port `p`: the tack stitch reserved for it goes out. -/
def execTackSlot (p j : Nat) (s : State) : Host.Outcome State Fault Refusal :=
  s.onDev fun d =>
    if !(d.live && p < 8 && j < 15 && (d.port p).slotComes d.tick j) then d
    else
      let d1 := d.setPort p { d.port p with slot := some (d.tick, j) }
      match d1.quilt.tack.find? fun i => i.port == p && i.slot == j && i.tick == d1.tick with
      | none => d1
      | some i =>
        if !d1.canSend p 0 || !d1.carried i.st then d1
        else
          ({ d1 with quilt := { d1.quilt with tack := d1.quilt.tack.filter fun x => x != i } }.sendOn p i.st).freeItem i.inPort 0

/-! ### Remote rings (R444, R445, R462) -/

/-- Whether the window serves a client at a half-word (R444). -/
def Dev.inWindow (d : Dev) (client half : Nat) : Bool :=
  (d.isSet Reg.QUILT_RWIN_CLIENT.ANY 0 || d.get Reg.QUILT_RWIN_CLIENT.CLIENT 0 == client)
    && d.get Reg.QUILT_RWIN_BASE.BASE 0 ≤ half / 2 && half / 2 < d.get Reg.QUILT_RWIN_BASE.BASE 0 + d.get Reg.QUILT_RWIN_SIZE.WORDS 0
    && half / 2 < memWords

/-- A MEM_READ at the server (R444). -/
def Dev.serveRead (d : Dev) (st : Stitch) : Dev :=
  let half := leAt st.data 0 4
  let head := st.data.take 8
  if !d.inWindow st.src half then d.sendToken st.src 2 3 0x3FF (head ++ List.replicate 16 0 ++ [1]) none
  else match d.readWord (half / 2) readerQuilt with
    | (some bs, d1) => d1.sendToken st.src 2 3 0x3FF (head ++ (bs.drop (16 * (half % 2))).take 16 ++ [0]) none
    | (none, d1) => d1.sendToken st.src 2 3 0x3FF (head ++ List.replicate 16 0 ++ [2]) none

/-- A MEM_WRITE at the server: the bytes of its mask, merged (R34, R444). -/
def Dev.serveWrite (d : Dev) (st : Stitch) : Dev :=
  let half := leAt st.data 0 4
  let mask := leAt st.data 24 2
  if !d.inWindow st.src half then d.sendToken st.src 2 5 0x3FF (st.data.take 8 ++ List.replicate 16 0 ++ [1]) none
  else
    let bad := decodeErr (Map.get d.memErr (half / 2) 0) = .uncorrectable
    let d1 := (List.range 16).foldl (fun (y : Dev) j =>
      if bitAt mask j then y.memWrite (16 * half + j) [st.data.getD (8 + j) 0] readerQuilt else y) d
    d1.sendToken st.src 2 5 0x3FF (st.data.take 8 ++ List.replicate 16 0 ++ [if bad then 2 else 0]) none

/-- The client asks for the next descriptor of submission ring `q`, one at a time, in four half-words. -/
def Dev.remoteFetch (d : Dev) (q : Nat) : Dev :=
  let h := d.get Reg.SQ_STAT.HEAD q
  if !d.remote || !d.fetches q || h = d.get Reg.SQ_STAT.TAIL q || d.quilt.reads.any (fun r => r.ring == q && r.slot.isSome) then d
  else if !d.serverReached then d.rringFault q 1
  else
    let base := 4 * d.get Reg.SQ_BASE_LO.ADDR_LO q + 4 * h
    let r : RemoteRead := { ring := q, slot := some h, base := base, parts := [] }
    (List.range 4).foldl (fun (y : Dev) j =>
      y.sendToken (y.get Reg.QUILT_RRING.SERVER 0) 2 2 0x3FF (leBytes 4 (base + j) ++ leBytes 4 (q + 256)) none)
      { d with quilt := { d.quilt with reads := d.quilt.reads ++ [r] } }

/-- Every enabled submission ring fetches (R445, R673 note 3). -/
def Dev.remoteFetchAll (d : Dev) : Dev := (List.range 64).foldl (fun (y : Dev) q => y.remoteFetch q) d

/-- The heads that a head block holds (R462). -/
def Dev.takeHeads (d : Dev) (bs : List Nat) : Dev :=
  let d1 := (List.range 64).foldl (fun (y : Dev) c =>
    if y.isSet Reg.CQ_CTRL.ENABLE c && decide (leAt bs (2 * c) 2 < 2 ^ y.get Reg.CQ_CFG.SIZE_LOG2 c) then y.put Reg.CQ_STAT.HEAD c (leAt bs (2 * c) 2) else y) d
  if leAt bs 128 2 < 2 ^ d1.get Reg.EQ_CFG.SIZE_LOG2 0 then d1.put Reg.EQ_STAT.HEAD 0 (leAt bs 128 2) else d1

/-- One half-word of ring memory comes back to the client (R445). -/
def Dev.takeData (d : Dev) (st : Stitch) : Dev :=
  let half := leAt st.data 0 4
  match d.quilt.reads.find? fun r => r.base ≤ half && half < r.base + (if r.slot.isSome then 4 else 9) with
  | none => d
  | some r =>
    let rest := d.quilt.reads.filter fun x => x != r
    let d0 := { d with quilt := { d.quilt with reads := rest } }
    let status := st.data.getD 24 0
    if status != 0 then d0.rringFault r.ring (status + 1)
    else
      let parts := r.parts ++ [(half - r.base, (st.data.drop 8).take 16)]
      let n := if r.slot.isSome then 4 else 9
      if parts.length < n then { d with quilt := { d.quilt with reads := rest ++ [{ r with parts := parts }] } }
      else
        let bs := (List.range n).flatMap fun j => match parts.find? fun e => e.1 == j with
          | some e => e.2
          | none => List.replicate 16 0
        match r.slot with
        | none => d0.takeHeads bs
        | some h =>
          if d0.get Reg.SQ_STAT.HEAD r.ring != h || !d0.isSet Reg.SQ_CTRL.ENABLE r.ring then d0
          else
            let y := d0.takeDesc r.ring (BitVec.ofNat 512 (ofLeBytes bs))
            let z := if d0.isSet Reg.SQ_STAT.FENCED r.ring then y.fail d0.nextId .skipped else y
            (z.put Reg.SQ_STAT.HEAD r.ring ((h + 1) % 2 ^ d0.get Reg.SQ_CFG.SIZE_LOG2 r.ring)).remoteFetch r.ring

/-- A write of the client acknowledged (R445). -/
def Dev.takeAck (d : Dev) (st : Stitch) : Dev :=
  let status := st.data.getD 24 0
  if status = 0 || 2 < status then d else d.rringFault (leAt st.data 4 4 % 256) (status + 1)

/-- A DOORBELL: a tail from the ring server, which serves as a heartbeat, or a notification for this device's host (R445, R462, R480). -/
def Dev.takeBell (d : Dev) (st : Stitch) : Dev :=
  let b := st.data.getD 0 0
  let v := leAt st.data 4 4
  if d.remote && st.src = d.get Reg.QUILT_RRING.SERVER 0 then
    let d1 := d.heartbeat
    if b < 64 then (d1.ringTail b v).remoteFetch b else d1
  else d.raise 0x0A0A d.nullName (leBytes 2 st.src ++ [b, 0] ++ leBytes 4 v)

/-- R445: every 1 s the client fetches again, and reads the head block. -/
def execRringFetchRetry (s : State) : Host.Outcome State Fault Refusal :=
  s.onDev fun d =>
    if d.live && d.remote && decide (d.quilt.fetchAt + 100000 ≤ d.tick) then
      let d1 := { d with quilt := { d.quilt with reads := [], fetchAt := d.tick } }
      (if d1.serverReached then d1.readHeads else d1).remoteFetchAll
    else d

/-- A TRACE stitch at the server: the second of a unit's two puts the unit into the trace ring of the same number (R462). -/
def Dev.takeTrace (d : Dev) (st : Stitch) : Dev :=
  let t := st.flow - 1019
  let k := 4 * st.src + t
  if st.flow < 1019 || 3 < t then d
  else match Map.get d.quilt.trace k [] with
    | [] => { d with quilt := { d.quilt with trace := Map.set d.quilt.trace k st.data [] } }
    | first =>
      let unit := (first ++ st.data).take 32
      let d1 := { d with quilt := { d.quilt with trace := Map.set d.quilt.trace k [] [] } }
      let size := d1.get Reg.TQ_CFG.SIZE_LOG2 t
      let tail := d1.get Reg.TQ_STAT.TAIL t
      if !d1.isSet Reg.TQ_CTRL.ENABLE t || !ringSpace size (d1.get Reg.TQ_STAT.HEAD t) tail then d1
      else
        let d2 := (d1.putTrace t tail [unit]).put Reg.TQ_STAT.TAIL t ((tail + 1) % 2 ^ size)
        { d2 with traceDue := Map.set d2.traceDue t 1 0 }

/-! ### Token audits (R440) -/

/-- The stitches of a source and class that have landed and wait for reordering. -/
def Dev.landedOf (d : Dev) (src c : Nat) : Nat :=
  (d.quilt.flows.map fun e => match e.2 with
    | some r => (r.held.filter fun h => h.2.src == src && h.2.cls == c && needsToken c h.2.kind).length
    | none => 0).foldl (· + ·) 0

/-- The destination's side: the terms of the pair against the tokens granted; after a failure both ends start from what has landed. -/
def Dev.auditTokens (d : Dev) (src c held : Nat) : Dev :=
  let landed := d.landedOf src c
  let sum := held + landed
  let ok := sum == d.grantedTo src c
  let d1 := if ok then d else (d.setGranted src c landed).put Reg.QUILT_STAT.AUDIT_FAIL 0 1
  let d2 := d1.servePool d1.quilt.poolWait
  d2.sendControl src 13 ([4, c, if ok then 1 else 0, 0] ++ leBytes 2 sum) none

/-- The source's side: the result of a pair's audit. -/
def Dev.auditDone (d : Dev) (dest c : Nat) (ok : Bool) (sum : Nat) : Dev :=
  let d1 := d.raise 0x0A05 d.nullName ([c, if ok then 1 else 0] ++ leBytes 2 sum ++ leBytes 2 dest)
  let d2 := if ok then d1 else (d1.setTokens dest c 0).put Reg.QUILT_STAT.AUDIT_FAIL 0 1
  let one := fun (a : AuditOp) =>
    if a.pairs.contains (4 * dest + c) then
      ({ a with pairs := a.pairs.filter fun k => k != 4 * dest + c, pairsFailed := a.pairsFailed + (if ok then 0 else 1) } : AuditOp)
    else a
  { d2 with quilt := { d2.quilt with audits := d2.quilt.audits.map one } }.endAudits

/-- A MGMT stitch consumed: neighbour reports change nothing here; delay timestamps and token audits do. -/
def Dev.takeMgmt (d : Dev) (p : Nat) (st : Stitch) : Dev :=
  let a := st.data
  match a.getD 0 0 with
  | 2 => d.takeStamps p (a.getD 1 0) (leAt a 2 8) (leAt a 10 8)
  | 3 => d.auditTokens st.src (a.getD 1 0) (leAt a 2 2)
  | 4 => d.auditDone st.src (a.getD 1 0) (a.getD 2 0 == 1) (leAt a 4 2)
  | _ => d

/-! ### Stitches received (R406, R424 to R426) -/

/-- A stitch that has its turn in its flow is consumed; one that used a token gives it back to its source. -/
def Dev.consume (d : Dev) (p : Nat) (st : Stitch) : Dev :=
  let c := st.data.getD 0 0
  let n := st.data.getD 1 0
  let d1 := match st.kind with
    | 0 => d.takeValue st
    | 2 => d.serveRead st
    | 3 => d.takeData st
    | 4 => d.serveWrite st
    | 5 => d.takeAck st
    | 6 => d.takeBell st
    | 7 =>
      if !(1 ≤ c && c ≤ 3) then d
      else if d.get Reg.QUILT_POOL.FREE 0 = 0 then
        let l := d.quilt.poolWait ++ [(st.src, c, min 16 n)]
        { d with quilt := { d.quilt with poolWait := l } }.put Reg.QUILT_POOL.WAITING 0 l.length
      else d.grant st.src c (d.grantable st.src c (min 16 n))
    | 8 => if 1 ≤ c && c ≤ 3 then ((d.setTokens st.src c (min 31 (d.tokens st.src c + n))).noteTokens st.src c).useTokens st.src c else d
    | 9 =>
      if !(1 ≤ c && c ≤ 3) then d
      else if st.data.getD 2 0 = 0 then ((d.setTokens st.src c (min 31 (d.tokens st.src c + n))).noteTokens st.src c).useTokens st.src c
      else
        let d2 := d.setGranted st.src c (d.grantedTo st.src c - n)
        d2.servePool d2.quilt.poolWait
    | 10 => d.takeAdmit p st
    | 11 => d.takeReply st
    | 12 => d.takeTrace st
    | 13 => d.takeMgmt p st
    | _ => d
  if needsToken st.cls st.kind then d1.sendControl st.src 9 [st.cls, 1, 0] none else d1

/-- The key of an incoming flow: explicit by source and number, default by source and class. -/
def flowKey (st : Stitch) : Nat :=
  if st.flow = 0x3FF then 4 * (1024 * st.src + 0x3FF) + st.cls else 4 * (1024 * st.src + st.flow)

/-- The record of an incoming flow. -/
def Dev.flowRec (d : Dev) (k : Nat) : FlowRec := (Map.get d.quilt.flows k none).getD { next := 0, held := [], since := 0 }

/-- The record of an incoming flow set: the wait for its expected stitch begins where that changes, or where the first stitch is held. -/
def Dev.setFlowRec (d : Dev) (k next : Nat) (held : List (Nat × Stitch)) : Dev :=
  let r := d.flowRec k
  let since := if held.isEmpty then 0 else if next = r.next && !r.held.isEmpty then r.since else d.tick
  let new : Option FlowRec := if next = 0 && held.isEmpty then none else some { next := next, held := held, since := since }
  { d with quilt := { d.quilt with flows := Map.set d.quilt.flows k new none } }

/-- Held stitches that now follow in sequence are delivered in turn (R425). -/
def Dev.drainFlow (d : Dev) (k : Nat) : Nat → Dev
  | 0 => d
  | n + 1 =>
    let r := d.flowRec k
    match r.held.find? fun h => h.2.seq == r.next with
    | none => d
    | some h =>
      let d1 := d.setFlowRec k ((r.next + 1) % 4096) (r.held.filter fun x => x.2.seq != r.next)
      (d1.consume h.1 h.2).drainFlow k n

/-- A stitch for this device takes its place in its flow (R425). -/
def Dev.land (d : Dev) (p : Nat) (st : Stitch) : Dev :=
  let k := flowKey st
  let r := d.flowRec k
  let delta := (st.seq + 4096 - r.next) % 4096
  if delta = 0 then
    ((d.setFlowRec k ((r.next + 1) % 4096) r.held).consume p st).drainFlow k r.held.length
  else if 2048 ≤ delta || r.held.any (fun h => h.2.seq == st.seq) then
    let d1 := d.bump Reg.QUILT_GAPS.DUPS 0 0xFFFF
    if needsToken st.cls st.kind then d1.sendControl st.src 9 [st.cls, 1, 0] none else d1
  else d.setFlowRec k r.next (r.held ++ [(p, st)])

/-- The gap wait of a class, in ticks (R422). -/
def gapWait (cls : Nat) : Nat := if cls = 0 then 50 else 10000

/-- R426: the gap wait of a flow's class ends while it holds stitches. -/
def execGapWaitExpiry (src flow cls : Nat) (s : State) : Host.Outcome State Fault Refusal :=
  s.onDev fun d =>
    let k := flowKey { dest := 0, src := src % 1024, cls := cls % 4, kind := 0, flow := flow % 1024, seq := 0, data := [] }
    let r := d.flowRec k
    match (r.held.map fun h => (h.2.seq + 4096 - r.next) % 4096).min? with
    | none => d
    | some skip =>
      if !(d.live && decide (r.since + gapWait (cls % 4) ≤ d.tick)) then d
      else
        let d1 := (d.setFlowRec k ((r.next + skip) % 4096) r.held).bump Reg.QUILT_GAPS.GAPS 0 0xFF
        let d2 := d1.raiseLimited 0x0A06 d1.nullName d1.tick (1 + r.next + 4096 * k) (leBytes 2 src ++ leBytes 2 flow ++ [cls, 0] ++ leBytes 2 skip)
        d2.drainFlow k r.held.length

/-- The route table entry of a destination read for a stitch to be forwarded (R33): whether its code word is usable. -/
def Dev.readRoute (d : Dev) (n : Nat) : Bool × Dev :=
  (decodeErr (Map.get d.heldErr (routeKey n) 0) != .uncorrectable, d.touchHeld (routeKey n) readerQuilt)

/-- A stitch accepted on port `p`: counted and acknowledged, its buffer taken, then refused, forwarded or delivered (R406, R410, R435). -/
def Dev.accept (d : Dev) (p : Nat) (st : Stitch) : Dev :=
  let x := d.port p
  let n := (x.accepted + 1) % 4096
  let d1 := ((d.setPort p { x with accepted := n }).emit (.control p kACK n)).put Reg.PORT_CONS.RX_USED (4 * p + st.cls)
    (d.get Reg.PORT_CONS.RX_USED (4 * p + st.cls) + 1)
  if !classMatches st.kind st.cls then (d1.bump Reg.QUILT_GAPS.BAD_TYPE 0 0xFF).freeBuffer p st.cls
  else if !d1.carried st then d1.freeBuffer p st.cls
  else if st.dest != d1.devNum && d1.isSet Reg.GLOBAL_DEVNUM.ACTIVE_VALID 0 then
    (if st.cls = 0 then d1.placeTack st (some p)
     else d1.enqueue { st := st, inPort := some p, via := none, desc := none, since := d1.tick }).pump
  else ((d1.freeBuffer p st.cls).land p st).pump

/-- What the decoder makes of data bits received with wrong code bits `wrong`: the data bits, and whether it corrected them; none where they
are uncorrectable (R28, R404). -/
def decodeData (w : Word) (wrong : Nat) : Option (Nat × Bool) :=
  if wrong % 2 ^ 280 = 0 then some (w.toNat, false)
  else match decodeErr (wrong % 2 ^ 280) with
    | .clean x => some (Nat.xor w.toNat x, false)
    | .corrected x => some (Nat.xor w.toNat x, true)
    | .uncorrectable => none

/-- A decoded stitch on port `p`. One to be forwarded whose route table entry is uncorrectable is a link error of its port and a fault of cause 9 (R661):
it is not accepted, and is asked for again (R33). -/
def Dev.takeStitch (d : Dev) (p : Nat) (st : Stitch) : Dev :=
  if st.dest != d.devNum && d.isSet Reg.GLOBAL_DEVNUM.ACTIVE_VALID 0 && classMatches st.kind st.cls then
    match d.readRoute st.dest with
    | (true, d1) => d1.accept p st
    | (false, d1) => ((d1.sendNak p).linkError p 0).logFault 9 p (d.freeBits.toNat % memWords % 65536)
  else d.accept p st

/-- A stitch of type `kind` received on port `p`: the data bits sent and the code bits that are wrong; `first` marks the first one of a resend. A word of a
type that R406 does not use is refused whatever row carries it; an uncorrectable word is SEAM_UNCORRECTABLE's. -/
def Dev.receive (d : Dev) (p kind : Nat) (w : Word) (wrong : Nat) (first : Bool) : Dev :=
  let x := d.port p
  match decodeData w wrong with
  | none => d
  | some (n, corrected) =>
    let st := stitchOf n
    if !(d.live && d.portUp p) || !(st.kind == kind || st.kind == 1 || 14 ≤ st.kind) then d
    else if x.nak && !first then d
    else
      let d1 := if x.nak then (d.setPort p { x with nak := false }).recovered else d
      (if corrected then d1.bump Reg.PORT_ERR.CORRECTED p 0xFFFF else d1).takeStitch p st

/-- R407. -/
def execStitchValue (p : Nat) (w : Word) (wrong : Nat) (first : Bool) (s : State) : Host.Outcome State Fault Refusal :=
  s.onDev fun d => d.receive p 0 w wrong first

/-- R444. -/
def execStitchMemRead (p : Nat) (w : Word) (wrong : Nat) (first : Bool) (s : State) : Host.Outcome State Fault Refusal :=
  s.onDev fun d => d.receive p 2 w wrong first

/-- R445. -/
def execStitchMemData (p : Nat) (w : Word) (wrong : Nat) (first : Bool) (s : State) : Host.Outcome State Fault Refusal :=
  s.onDev fun d => d.receive p 3 w wrong first

/-- R444. -/
def execStitchMemWrite (p : Nat) (w : Word) (wrong : Nat) (first : Bool) (s : State) : Host.Outcome State Fault Refusal :=
  s.onDev fun d => d.receive p 4 w wrong first

/-- R445. -/
def execStitchMemAck (p : Nat) (w : Word) (wrong : Nat) (first : Bool) (s : State) : Host.Outcome State Fault Refusal :=
  s.onDev fun d => d.receive p 5 w wrong first

/-- R445. -/
def execStitchDoorbell (p : Nat) (w : Word) (wrong : Nat) (first : Bool) (s : State) : Host.Outcome State Fault Refusal :=
  s.onDev fun d => d.receive p 6 w wrong first

/-- R437. -/
def execTokenReq (p : Nat) (w : Word) (wrong : Nat) (first : Bool) (s : State) : Host.Outcome State Fault Refusal :=
  s.onDev fun d => d.receive p 7 w wrong first

/-- R436. -/
def execTokenGrant (p : Nat) (w : Word) (wrong : Nat) (first : Bool) (s : State) : Host.Outcome State Fault Refusal :=
  s.onDev fun d => d.receive p 8 w wrong first

/-- R436. -/
def execTokenReturn (p : Nat) (w : Word) (wrong : Nat) (first : Bool) (s : State) : Host.Outcome State Fault Refusal :=
  s.onDev fun d => d.receive p 9 w wrong first

/-- R433. -/
def execAdmit (p : Nat) (w : Word) (wrong : Nat) (first : Bool) (s : State) : Host.Outcome State Fault Refusal :=
  s.onDev fun d => d.receive p 10 w wrong first

/-- R447. -/
def execAdmitReply (p : Nat) (w : Word) (wrong : Nat) (first : Bool) (s : State) : Host.Outcome State Fault Refusal :=
  s.onDev fun d => d.receive p 11 w wrong first

/-- R462. -/
def execTrace (p : Nat) (w : Word) (wrong : Nat) (first : Bool) (s : State) : Host.Outcome State Fault Refusal :=
  s.onDev fun d => d.receive p 12 w wrong first

/-- R440. -/
def execMgmt (p : Nat) (w : Word) (wrong : Nat) (first : Bool) (s : State) : Host.Outcome State Fault Refusal :=
  s.onDev fun d => d.receive p 13 w wrong first

/-! ### What waits too long (R434, R436, R437) -/

/-- R434: the stitches of a class for an unreachable destination are discarded after their gap wait. -/
def execUnreachableDiscard (dest cls : Nat) (s : State) : Host.Outcome State Fault Refusal :=
  s.onDev fun d =>
    let waited := fun (it : QItem) => decide (max it.since (Map.get d.quilt.lostAt dest 0) + gapWait cls ≤ d.tick)
    let gone := d.quilt.queue.filter fun it => it.st.dest == dest && it.st.cls == cls && it.via.isNone && waited it
    if !d.live || gone.isEmpty || (d.routePort dest).isSome then d
    else
      let q := d.quilt
      let d1 := { d with quilt := { q with queue := q.queue.filter fun it => !gone.contains it, unreach := q.unreach + gone.length
                                           discards := (if q.discards.contains dest then q.discards else q.discards ++ [dest]) } }
      let d2 := gone.foldl (fun (y : Dev) it =>
        let z := y.freeItem it.inPort cls
        match it.desc with
        | some id => z.fail id .unreachable
        | none => z) d1
      d2.raiseLimited 0x0A08 d2.nullName d2.tick d2.quilt.unreach (leBytes 2 dest ++ [cls, 0] ++ leBytes 4 gone.length)

/-- R436: a source returns the tokens of a pair that it has not used for 10 ms. -/
def execTokenIdleReturn (dest cls : Nat) (s : State) : Host.Outcome State Fault Refusal :=
  s.onDev fun d =>
    let n := d.tokens dest cls
    if d.live && dest < 1024 && 1 ≤ cls && cls ≤ 3 && 0 < n && decide (Map.get d.quilt.tokUsed (4 * dest + cls) 0 + 1000 ≤ d.tick) then (d.setTokens dest cls 0).sendControl dest 9 [cls, n, 1] none else d

/-- R437: a class-2 descriptor has waited more than 100 ms. -/
def execClass2Timeout (id : Nat) (s : State) : Host.Outcome State Fault Refusal :=
  s.onDev fun d =>
    let waits := fun (it : QItem) => it.desc == some id && decide (it.since + 10000 < d.tick)
    if d.live && (d.quilt.queue.any waits || d.quilt.tokWait.any waits) then
      let freed := (d.quilt.queue.filter waits).foldl (fun (y : Dev) it => y.freeItem it.inPort it.st.cls) d
      { freed with quilt := { freed.quilt with queue := freed.quilt.queue.filter fun it => !waits it
                                               tokWait := freed.quilt.tokWait.filter fun it => !waits it } }.fail id .timeout
    else d

/-! ### The other descriptors (R420, R445, R448, R449) -/

/-- Entry `n` of a route image. -/
def imgEntry (bs : List Nat) (n : Nat) : Nat := leAt bs (4 * n) 4

/-- Whether an entry is well formed (R420). -/
def entryOk (v : Nat) : Bool :=
  let pv := bitAt v 3
  let av := bitAt v 7
  v / 2 ^ 22 == 0 && bitsAt v 14 2 == 0 && !(pv && av && bitsAt v 0 3 == bitsAt v 4 3)
    && (!pv || bitsAt v 8 6 != 0) && (!av || bitsAt v 16 6 != 0)

/-- The entry in force for destination `n`, in the image's layout. -/
def Dev.routeEntry (d : Dev) (n : Nat) : Nat :=
  d.get Reg.QUILT_ROUTE.PRIMARY n + 8 * d.get Reg.QUILT_ROUTE.PRI_VALID n + 16 * d.get Reg.QUILT_ROUTE.ALTERNATE n
    + 128 * d.get Reg.QUILT_ROUTE.ALT_VALID n + 256 * d.get Reg.QUILT_ROUTE.PRI_HOPS n + 65536 * d.get Reg.QUILT_ROUTE.ALT_HOPS n

/-- The larger hop count of an entry (R81). -/
def entryHops (v : Nat) : Nat := max (if bitAt v 3 then bitsAt v 8 6 else 0) (if bitAt v 7 then bitsAt v 16 6 else 0)

/-- Whether the hop counts of an image keep R81 for every remote binding that is admitted, or that a LOOP_SET has had checked (R83). -/
def Dev.routeDelaysOk (d : Dev) (n v : Nat) : Bool :=
  let ok := fun (b : List Nat) => (loopSources b).all fun h => devOf h != n || d.isLocal h || delayOk (lpD b) (entryHops v)
  (d.admitted.all fun l => ok (d.loopBlock l)) && d.eng.sets.all fun o => o.stage != 1 || ok o.block

/-- The first destination that R420 refuses, and with which status. -/
def Dev.routeRefused (d : Dev) (bs : List Nat) : Option (Status × Nat) :=
  match (List.range 1024).find? fun n => !entryOk (imgEntry bs n) || (n == d.devNum && imgEntry bs n != 0) with
  | some n => some (.badParam, n)
  | none =>
    match (List.range 1024).find? fun n =>
        imgEntry bs n != d.routeEntry n && (d.quilt.resvs.any (fun r => r.dest == n) || !d.routeDelaysOk n (imgEntry bs n)) with
    | some n => some (.notAdmitted, n)
    | none => none

/-- ROUTE_LOAD: one at a time (R420, R448). -/
def bodyRouteLoad (id : Nat) (x : Desc) (d : Dev) : Dev :=
  if memWords < x.u32 16 + 128 then d.fail id .badParam
  else if d.quilt.route.isSome then d.fail id .refusedBusy
  else { d with quilt := { d.quilt with route := some (id, none) } }

/-- R420. -/
def execRouteLoad (q : Nat) (x : Desc) (s : State) : Host.Outcome State Fault Refusal :=
  s.onDev fun d => d.submit q x 0x0A03 [(16, 4)] bodyRouteLoad

/-- A refused ROUTE_LOAD ends: it has changed nothing. -/
def Dev.endRoute (d : Dev) (id : Nat) (st : Status) (result : Nat) : Dev :=
  { d with quilt := { d.quilt with route := none } }.finish id st result

/-- R420: the check of a staged route image ends. -/
def Dev.routeChecked (d : Dev) (id : Nat) (x : Desc) : Dev :=
  if d.quilt.route != some (id, none) then d
  else match d.readWords (x.u32 16) 128 readerCore with
    | (none, d1) => d1.endRoute id .dataError (0xFFFF * 65536)
    | (some bs, d1) => match d1.routeRefused bs with
      | some (st, n) => d1.endRoute id st (65536 * n)
      | none => { d1 with quilt := { d1.quilt with route := some (id, some bs) } }

/-- A route table put into QUILT_ROUTE, in fresh code words. -/
def Dev.putRoutes (d : Dev) (bs : List Nat) : Dev :=
  (List.range 1024).foldl (fun (y : Dev) n =>
    let v := imgEntry bs n
    if v = y.routeEntry n then y
    else (((((y.put Reg.QUILT_ROUTE.PRIMARY n (bitsAt v 0 3)).put Reg.QUILT_ROUTE.PRI_VALID n (bitsAt v 3 1)).put Reg.QUILT_ROUTE.ALTERNATE n
      (bitsAt v 4 3)).put Reg.QUILT_ROUTE.ALT_VALID n (bitsAt v 7 1)).put Reg.QUILT_ROUTE.PRI_HOPS n (bitsAt v 8 6)).put
      Reg.QUILT_ROUTE.ALT_HOPS n (bitsAt v 16 6)) { d with heldErr := d.heldErr.filter fun e => e.1 < routeKey 0 || routeKey 1024 ≤ e.1 }

/-- The switch tick of an accepted ROUTE_LOAD (R420). What was admitted since the check is checked again (R83). -/
def Dev.routeSwitch (d : Dev) : Dev :=
  match d.quilt.route with
  | some (id, some bs) => match d.routeRefused bs with
    | some (st, n) => d.endRoute id st (65536 * n)
    | none =>
      let changed := ((List.range 1024).filter fun n => imgEntry bs n != d.routeEntry n).length
      let d1 := ((d.putRoutes bs).setBlock keyROUTE bs).reroute none
      ((d1.endRoute id .ok (changed + 65536 * 0xFFFF)).auditReached).pump
  | _ => d

/-- PORT_RETRAIN: the named ports that are UP go DOWN (R411, R448). -/
def bodyPortRetrain (id : Nat) (x : Desc) (d : Dev) : Dev :=
  let m := x.byte 16
  let en := d.get Reg.QUILT_CFG.PORT_EN 0
  let d1 := { d with quilt := { d.quilt with retrains := d.quilt.retrains ++ [(id, m, d.tick)], trainDue := d.quilt.trainDue || (en != 0 && Nat.land m en == en) } }
  (List.range 8).foldl (fun (y : Dev) p => if bitAt m p && y.portUp p then y.linkDown p 7 else y) d1

/-- R448. -/
def execPortRetrain (q : Nat) (x : Desc) (s : State) : Host.Outcome State Fault Refusal :=
  s.onDev fun d => d.submit q x 0x0A04 [(16, 1)] bodyPortRetrain

/-- R448: 10 ms after it took its ports DOWN a PORT_RETRAIN completes. -/
def execPortRetrainDone (id : Nat) (s : State) : Host.Outcome State Fault Refusal :=
  s.onDev fun d =>
    match d.quilt.retrains.find? fun r => r.1 == id with
    | none => d
    | some r =>
      if !(d.live && decide (r.2.2 + 1000 ≤ d.tick)) then d
      else
        let up := ((List.range 8).map fun p => if bitAt r.2.1 p && d.portUp p then 2 ^ p else 0).foldl (· + ·) 0
        { d with quilt := { d.quilt with retrains := d.quilt.retrains.filter fun x => x.1 != id } }.done id up

/-- QUILT_AUDIT: AUDIT words on the named ports that are UP, and terms of every pair with tokens (R439, R440, R448). -/
def bodyQuiltAudit (id : Nat) (x : Desc) (d : Dev) : Dev :=
  if 1 < x.byte 17 then d.fail id .badParam
  else
    let named := (List.range 8).filter fun p => bitAt (x.byte 16) p
    let up := named.filter fun p => d.portUp p
    let pairs := if x.byte 17 = 1 then
        (List.range 1024).flatMap fun n => ([1, 2, 3].filter fun c => 0 < d.tokens n c).map fun c => 4 * n + c
      else []
    let a : AuditOp :=
      { id := id, ports := x.byte 16, links := up.flatMap fun p => (List.range 4).map fun c => 4 * p + c
        failed := ((named.filter fun p => !d.portUp p).map fun p => 2 ^ p).foldl (· + ·) 0, pairs := pairs, pairsFailed := 0 }
    let d1 := { d with quilt := { d.quilt with audits := d.quilt.audits ++ [a] } }
    let d2 := up.foldl (fun (y : Dev) p => (y.setPort p { y.port p with asked := 15 }).sendAudits p) d1
    (pairs.foldl (fun (y : Dev) k => y.auditPair (k / 4) (k % 4)) d2).endAudits

/-- R439. -/
def execQuiltAudit (q : Nat) (x : Desc) (s : State) : Host.Outcome State Fault Refusal :=
  s.onDev fun d => d.submit q x 0x0A05 [(16, 1), (17, 1)] bodyQuiltAudit

/-- RRING_DOORBELL: a DOORBELL stitch to a client; it ends when the stitch leaves (R437, R445). -/
def bodyRringDoorbell (id : Nat) (x : Desc) (d : Dev) : Dev :=
  if 1023 < x.u16 16 || 63 < x.byte 18 then d.fail id .badParam
  else if !d.isSet Reg.GLOBAL_DEVNUM.ACTIVE_VALID 0 || (d.routePort (x.u16 16)).isNone then d.fail id .unreachable
  else d.sendToken (x.u16 16) 2 6 0x3FF ([x.byte 18, 0, 0, 0] ++ leBytes 4 (x.u32 20)) (some id)

/-- R445. -/
def execRringDoorbell (q : Nat) (x : Desc) (s : State) : Host.Outcome State Fault Refusal :=
  s.onDev fun d => d.submit q x 0x0A06 [(16, 2), (18, 1), (20, 4)] bodyRringDoorbell

/-- QUILT_ABORT settled at this device (R449). -/
def settleQuilt (id : Nat) (r : Rec) (d : Dev) : Dev :=
  match d.quilt.ops.find? fun o => o.id == some r.id && !o.close with
  | some op => (d.endFlowOpen op .aborted).done id 0
  | none => match d.quilt.route with
    | some (rid, _) => if rid = r.id then (d.endRoute rid .aborted (0xFFFF * 65536)).done id 0 else d.fail id .nothingToAbort
    | none => d.fail id .nothingToAbort

/-- R449. -/
def execQuiltAbort (q : Nat) (x : Desc) (s : State) : Host.Outcome State Fault Refusal :=
  s.onDev fun d => d.submit q x 0x0A07 [(16, 4), (20, 2)] fun id x d => d.abortDesc id (x.u16 20) (x.u32 16) [0x0A01, 0x0A03] settleQuilt

/-! ### What the tick, a dip and the start do -/

/-- A tick boundary of the quilt switch, after the routing of the tick: the route switch, the equalisers, tack stitches whose slot could not take them, the
flows (R416, R420, R429, R432).
`routed` are the local names routed at this boundary. -/
def Dev.quiltTick (d : Dev) (routed : List Nat) : Dev :=
  let d1 := d.routeSwitch
  let d2 := (List.range 8).foldl (fun (y : Dev) p => y.eqStep p) d1
  let gone := d2.quilt.tack.filter fun i => decide (i.tick < d2.tick)
  let d3 := gone.reverse.foldl (fun (y : Dev) i => y.lateTack (some i.port) { st := i.st, inPort := i.inPort, via := none, desc := none, since := y.tick })
    { d2 with quilt := { d2.quilt with tack := d2.quilt.tack.filter fun i => !decide (i.tick < d2.tick) } }
  let flows := (d3.blocks.filter fun e => keyFLOW 0 ≤ e.1 && e.1 < keyFLOW 1023).map fun e => e.1 - keyFLOW 0
  (flows.foldl (fun (y : Dev) n => (y.sendFlow n).sendBoundary n routed) d3).pump

/-- R449: FLOW_OPENs and ROUTE_LOADs in progress end when PFW_N falls. -/
def Dev.quiltDip (d : Dev) : Dev :=
  let d1 := (d.quilt.ops.filter fun o => !o.close && o.id.isSome).foldl (fun (y : Dev) op => y.endFlowOpen op .aborted) d
  match d1.quilt.route with
  | some (id, _) => d1.endRoute id .aborted (0xFFFF * 65536)
  | none => d1

/-- What the quilt switch takes from the retained blocks (R420, R433). -/
def Dev.quiltRestore (d : Dev) : Dev :=
  let rs := d.block keyFLOWS
  let fs := d.block keyINFLOW
  let d1 := if (d.block keyROUTE).isEmpty then d else d.putRoutes (d.block keyROUTE)
  { d1 with quilt := { d1.quilt with
      resvs := (List.range (rs.length / 16)).map (resvAt rs)
      inFlows := (List.range (fs.length / 8)).map fun j => (leAt fs (8 * j) 2, leAt fs (8 * j + 2) 2, fs.getD (8 * j + 4) 0, fs.getD (8 * j + 5) 0) } }

end Sys2Proof.Machine
end

