-- ==== Sys2Proof/Machine/Sec.lean ====
section
/-! DEFINITION. Ownership, configuration manifests, firmware slots, attestation (19_security.md). -/

namespace Sys2Proof.Machine
open Sys2Proof

/-- The ownership and firmware state set. -/
def Dev.setSec (d : Dev) (x : SecSt) : Dev := { d with sec := x }

/-- A SECURITY operation in progress. -/
def Dev.secOp? (d : Dev) (id : Nat) : Option SecOp := d.sec.ops.find? fun o => o.id == id

/-- A SECURITY operation ends. -/
def Dev.endSec (d : Dev) (id : Nat) (st : Status) (result : Nat) : Dev :=
  (d.setSec { d.sec with ops := d.sec.ops.filter fun o => o.id != id }).finish id st result

/-- A SECURITY operation begins. -/
def Dev.addSec (d : Dev) (id kind : Nat) : Dev :=
  d.setSec { d.sec with ops := d.sec.ops ++ [{ id := id, kind := kind, checked := false, bytes := [] }] }

/-- The FW_UPDATE in progress (R655). -/
def Dev.fwUpdate (d : Dev) : Option SecOp := d.sec.ops.find? fun o => o.kind == 3

/-! ### Descriptors (R655) -/

/-- A descriptor with an envelope in shared memory begins its checks. -/
def Dev.beginEnvelope (d : Dev) (id kind : Nat) (x : Desc) : Dev :=
  if !imageFits (x.u32 16) (x.u32 20) then d.fail id .badParam
  else if kind != 2 && d.fwUpdate.isSome then d.fail id .refusedBusy
  else d.addSec id kind

/-- R647, R655: OWNER_HANDOVER. -/
def bodyOwnerHandover (id : Nat) (x : Desc) (d : Dev) : Dev := d.beginEnvelope id 1 x

/-- R647. -/
def execOwnerHandover (q : Nat) (x : Desc) (s : State) : Host.Outcome State Fault Refusal :=
  s.onDev fun d => d.submit q x 0x1001 [(16, 8)] bodyOwnerHandover

/-- R649, R655: CONFIG_MANIFEST. -/
def bodyConfigManifest (id : Nat) (x : Desc) (d : Dev) : Dev := d.beginEnvelope id 2 x

/-- R649. -/
def execConfigManifest (q : Nat) (x : Desc) (s : State) : Host.Outcome State Fault Refusal :=
  s.onDev fun d => d.submit q x 0x1002 [(16, 8)] bodyConfigManifest

/-- R651, R655: FW_UPDATE. -/
def bodyFwUpdate (id : Nat) (x : Desc) (d : Dev) : Dev := d.beginEnvelope id 3 x

/-- R651. -/
def execFwUpdate (q : Nat) (x : Desc) (s : State) : Host.Outcome State Fault Refusal :=
  s.onDev fun d => d.submit q x 0x1003 [(16, 8)] bodyFwUpdate

/-- R654: ATTEST waits for the tick boundary at which its fields are taken; it needs the identity key (R643). -/
def bodyAttest (id : Nat) (x : Desc) (d : Dev) : Dev :=
  if !imageFits (x.u32 48) 672 then d.fail id .badParam
  else if !d.isSet Reg.SEC_STAT.IDENTITY_OK 0 then d.fail id .authFailed
  else d.addSec id 4

/-- R654. -/
def execAttest (q : Nat) (x : Desc) (s : State) : Host.Outcome State Fault Refusal :=
  s.onDev fun d => d.submit q x 0x1004 [(16, 36)] bodyAttest

/-! ### Checks (R645 to R649) -/

/-- What makes a handover payload fail, when the envelope has passed (R646, R647). -/
def Dev.handoverRefused (d : Dev) (p : List Nat) : Option Status :=
  if p.length != 48 || !allZero (slice p 44 4) then some .badParam
  else if slice p 32 8 != fingerprint Config.identityKey || leAt p 40 4 != d.get Reg.SEC_OWNER_COUNT.COUNT 0 then some .authFailed
  else if !d.owned && (leAt p 40 4 != 0 || allZero (p.take 32)) then some .authFailed
  else none

/-- Whether a manifest payload is well formed (R649). -/
def manifestForm (p : List Nat) : Bool :=
  let n := leAt p 0 4
  n ≤ 4096 && p.length == 4 + 72 * n && (List.range n).all fun j => leAt p (4 + 72 * j + 6) 2 == 0

/-- The entries of a manifest payload (R649). -/
def manifestEntries (p : List Nat) : List (Nat × Nat × List Nat) :=
  (List.range (leAt p 0 4)).map fun j => (leAt p (4 + 72 * j) 4, leAt p (4 + 72 * j + 4) 2, slice p (4 + 72 * j + 8) 64)

/-- The VALID flag of a firmware slot (R657). -/
def slotValid (slot : Nat) : Fld := if slot = 0 then Reg.FW_STAT.VALID_A else Reg.FW_STAT.VALID_B

/-- The slot that did not boot (R651). -/
def Dev.otherSlot (d : Dev) : Nat := 1 - d.get Reg.FW_STAT.ACTIVE 0

/-- The kind of envelope that an operation expects, and its opcode. -/
def secKind (kind : Nat) : Nat × Nat := if kind = 1 then (7, 0x1001) else if kind = 2 then (2, 0x1002) else (1, 0x1003)

/-- The result of an operation whose checks fail: the check code, for a handover with OWNER_STATE after it (R655). -/
def Dev.secResult (d : Dev) (kind code : Nat) : Nat :=
  if kind = 1 then code + 2 ^ 8 * d.get Reg.GLOBAL_SEAL.OWNER_STATE 0 else code

/-- R645 to R651: the checks of an envelope end. A handover and a manifest then await the tick boundary, a firmware image is written to
the slot that did not boot. -/
def Dev.secChecked (d : Dev) (id : Nat) (x : Desc) : Dev :=
  match d.secOp? id with
  | none => d
  | some o =>
    if o.checked || o.kind = 4 then d
    else match d.readImage (x.u32 16) (x.u32 20) with
      | (none, d1) => d1.endSec id .dataError (d1.secResult o.kind 0)
      | (some bs, d1) =>
        let e := d1.envelopeCode bs (secKind o.kind).1
        let p := payloadOf bs
        let pass := fun (keep : List Nat) =>
          d1.setSec { d1.sec with ops := d1.sec.ops.map fun (y : SecOp) => if y.id == id then { y with checked := true, bytes := keep } else y }
        if e != 0 then (d1.imageRefused (bs.getD 2 0) e (secKind o.kind).2).endSec id (envelopeStatus e) (d1.secResult o.kind e)
        else if o.kind = 1 then
          match d1.handoverRefused p with
          | some st => d1.endSec id st (d1.secResult 1 0)
          | none => pass p
        else if o.kind = 2 then (if manifestForm p then pass p else d1.endSec id .badParam 0)
        else ((pass bs).putRet (slotValid d1.otherSlot) 0 0).emit (.flash d1.otherSlot bs)

/-! ### Effects at a tick boundary (R646 to R649, R654) -/

/-- R646, R647: an accepted handover. -/
def Dev.handover (d : Dev) (id : Nat) (p : List Nat) : Dev :=
  match d.handoverRefused p with
  | some st => d.endSec id st (d.secResult 1 0)
  | none =>
    let key := p.take 32
    let none_ := allZero key
    let old := d.get Reg.GLOBAL_SEAL.OWNER_STATE 0
    let new := if none_ then ownManufactured else ownOwned
    let fpr := if none_ then List.replicate 8 0 else fingerprint key
    let d1 := ((d.putRet Reg.GLOBAL_SEAL.OWNER_STATE 0 new).putRet Reg.GLOBAL_SEAL.SEAL 0 0).putRet Reg.SEC_OWNER_COUNT.COUNT 0
      (d.get Reg.SEC_OWNER_COUNT.COUNT 0 + 1)
    let d2 := (d1.putRet Reg.SEC_OWNER_FPR_LO.FPR 0 (leAt fpr 0 4)).putRet Reg.SEC_OWNER_FPR_HI.FPR 0 (leAt fpr 4 4)
    let d3 := (d2.setSec { d2.sec with ownerKey := if none_ then [] else key }).keep recOWNER (key.take 24)
    let d4 := (d3.keep (recOWNER + 1) (key.drop 24)).raise 0x1001 d3.nullName ([old, new, 0, 0] ++ leBytes 4 (d1.get Reg.SEC_OWNER_COUNT.COUNT 0))
    d4.endSec id .ok (2 ^ 8 * new)

/-- R649: a manifest comes into force. -/
def Dev.setManifest (d : Dev) (p : List Nat) : Dev :=
  let d1 := (d.setSec { d.sec with manifest := some (manifestEntries p) }).setBlock keyMANIFEST p
  (d1.putRet Reg.SEC_STAT.MANIFEST 0 1).putRet Reg.SEC_STAT.ENTRIES 0 (leAt p 0 4)

/-- The 64 bytes of a digest field: 0 where there is nothing to digest. -/
def digestOr0 (bs : List Nat) : List Nat := if bs.isEmpty then List.replicate 64 0 else Config.sha512 bs

/-- The payload of an attestation report (R654). -/
def Dev.attestPayload (d : Dev) (nonce : List Nat) : List Nat :=
  let dev := if d.isSet Reg.GLOBAL_DEVNUM.ACTIVE_VALID 0 then d.get Reg.GLOBAL_DEVNUM.DEVNUM_ACTIVE 0 else 0xFFFF
  let libs := (List.range 8).flatMap fun b => d.block (handle clsBANK b)
  let forecasts := (List.range 10).map fun m => d.get Reg.FIT_MARGIN.FORECAST m
  let owner := if d.owned then d.ownerFpr else List.replicate 8 0
  leBytes 2 1 ++ [d.part.grade.code, d.part.stepping.code, d.bl, d.get Reg.GLOBAL_SEAL.OWNER_STATE 0] ++ leBytes 2 dev ++ leBytes 8 d.tick
    ++ nonce ++ d.sec.fwDigest ++ digestOr0 (d.block keyMANIFEST) ++ Config.sha512 libs
    ++ digestOr0 (d.block (handle clsPANEL 0)) ++ ((List.range 10).map fun m => d.get Reg.FIT_MARGIN.MARGIN m)
    ++ leBytes 2 (forecasts.foldl min 0xFFFF) ++ leBytes 4 (d.get Reg.FIT_PASS.COUNT 0) ++ owner ++ List.replicate 24 0

/-- R654: the report of an ATTEST. -/
def Dev.attest (d : Dev) (id : Nat) : Dev :=
  match d.rec? id with
  | none => d
  | some r =>
    let image := identityEnvelope 6 (d.attestPayload ((List.range 32).map fun j => r.d.byte (16 + j)))
    (d.memWrite (32 * r.d.u32 48) image).endSec id .ok image.length

/-- What SECURITY operations do at a tick boundary. -/
def Dev.secTick (d : Dev) : Dev :=
  d.sec.ops.foldl (fun (y : Dev) o =>
    if o.kind = 4 then y.attest o.id
    else if !o.checked then y
    else if o.kind = 1 then y.handover o.id o.bytes
    else if o.kind = 2 then (y.setManifest o.bytes).endSec o.id .ok (2 ^ 32 * leAt o.bytes 0 4)
    else y) d

/-! ### Firmware update (R651, R652) -/

/-- R651: the image has been written, read back and verified again; where that verification fails the slot is left as an abort leaves it. -/
def execFwUpdateWritten (s : State) : Host.Outcome State Fault Refusal :=
  s.onDev fun d =>
    match d.fwUpdate with
    | none => d
    | some o =>
      if !o.checked || !d.live || d.dip then d
      else
        let slot := d.otherSlot
        let d1 := ((d.putRet Reg.FW_STAT.PREFERRED 0 slot).putRet Reg.FW_STAT.TRIAL 0 1).putRet (slotValid slot) 0 1
        d1.endSec o.id .ok (2 ^ 8 * slot)

/-- R652: an FW_UPDATE stops: the slot it was writing is left not preferred, VALID clear. -/
def Dev.abortUpdate (d : Dev) : Dev :=
  match d.fwUpdate with
  | none => d
  | some o =>
    let slot := d.otherSlot
    let d1 := if !o.checked then d
      else
        let y := d.putRet (slotValid slot) 0 0
        if y.get Reg.FW_STAT.PREFERRED 0 = slot then (y.putRet Reg.FW_STAT.PREFERRED 0 (1 - slot)).putRet Reg.FW_STAT.TRIAL 0 0 else y
    d1.endSec o.id .aborted 0

/-- The target of a SEC_ABORT settled (R652). -/
def settleSec (id : Nat) (r : Rec) (d : Dev) : Dev :=
  if (d.fwUpdate.map fun o => o.id) = some r.id then d.abortUpdate.done id 0 else d.fail id .nothingToAbort

/-- R652, R655: SEC_ABORT. -/
def bodySecAbort (id : Nat) (x : Desc) (d : Dev) : Dev :=
  if 64 ≤ x.u16 20 then d.fail id .badParam
  else d.abortDesc id (x.u16 20) (x.u32 16) [0x1003] settleSec

/-- R652. -/
def execSecAbort (q : Nat) (x : Desc) (s : State) : Host.Outcome State Fault Refusal :=
  s.onDev fun d => d.submit q x 0x1005 [(16, 6)] bodySecAbort

/-! ### Boot (R643, R650, R651, R653) -/

/-- Whether the identity certificate and the key pair verify (R643). -/
def identityOk : Bool :=
  Config.identityCert.length == 128 && Config.ed25519Verify Config.vendorKey (Config.identityCert.take 64) (slice Config.identityCert 64 64)
    && Config.ed25519Verify Config.identityKey Config.identityCert (Config.identitySign Config.identityCert)

/-- What the boot ROM says of the identity (R643, R657). -/
def Dev.bootIdentity (d : Dev) : Dev :=
  let fpr := fingerprint Config.identityKey
  ((d.putBit Reg.SEC_STAT.IDENTITY_OK 0 identityOk).put Reg.SEC_ID_FPR_LO.FPR 0 (leAt fpr 0 4)).put Reg.SEC_ID_FPR_HI.FPR 0 (leAt fpr 4 4)

/-- Whether a slot's image may run: checks 1 to 6 as found, check 7 against MIN_SVN (R645). -/
def Dev.slotOk (d : Dev) (x : SlotCheck) : Bool := x.valid && d.get Reg.FW_SVN.MIN_SVN 0 ≤ x.svn

/-- The slot that boots (R650), none when neither passes. -/
def Dev.bootSlot (d : Dev) (a b : SlotCheck) : Option Nat :=
  let first := d.get Reg.FW_STAT.PREFERRED 0
  let ok := fun (k : Nat) => d.slotOk (if k = 0 then a else b)
  if ok first then some first else if ok (1 - first) then some (1 - first) else none

/-- The record of the register at a BAR0 offset written at once, by the boot ROM or the service die. -/
def Dev.recordNow (d : Dev) (off : Nat) : Dev :=
  match recordOf off with
  | none => d
  | some r => (Dev.writeRecord { d with retPending := d.retPending.filter (· != r) } r (d.recData r)).2

/-- What the boot ROM's verification says of slots A and B, retained at once (R657; DEDUCED, log 246, from what the fields mean). -/
def Dev.noteSlots (d : Dev) (a b : Nat) : Dev :=
  if d.get Reg.FW_STAT.VALID_A 0 = a && d.get Reg.FW_STAT.VALID_B 0 = b then d
  else ((d.put Reg.FW_STAT.VALID_A 0 a).put Reg.FW_STAT.VALID_B 0 b).recordNow (Reg.FW_STAT.PREFERRED.addr 0)

/-- R650, R657: a slot has been booted: it holds a verified image, and one that failed before it holds none. -/
def Dev.booted (d : Dev) (slot : Nat) (x : SlotCheck) : Dev :=
  let fell := d.get Reg.FW_STAT.PREFERRED 0 != slot
  let found := fun (k : Nat) => if k = slot then 1 else if fell then 0 else d.get (slotValid k) 0
  let d0 := d.noteSlots (found 0) (found 1)
  let d1 := ((d0.put Reg.FW_STAT.ACTIVE 0 slot).putBit Reg.FW_STAT.FALLBACK 0 fell).put Reg.FW_SVN.ACTIVE_SVN 0 x.svn
  d1.setSec { d1.sec with fwDigest := (x.digest ++ List.replicate 64 0).take 64, fallback := if fell then 2 else d1.sec.fallback }

/-- R651: this start runs a slot on trial. -/
def Dev.onTrial (d : Dev) : Bool :=
  d.isSet Reg.FW_STAT.TRIAL 0 && d.get Reg.FW_STAT.ACTIVE 0 == d.get Reg.FW_STAT.PREFERRED 0

/-- R651: the start has reached step 10: a trial is confirmed. -/
def Dev.confirmTrial (d : Dev) : Dev :=
  if d.onTrial then
    let svn := d.get Reg.FW_SVN.ACTIVE_SVN 0
    ((d.putRet Reg.FW_STAT.TRIAL 0 0).putRet Reg.FW_SVN.MIN_SVN 0 (max svn (d.get Reg.FW_SVN.MIN_SVN 0))).raise 0x1003 d.nullName
      ([d.get Reg.FW_STAT.ACTIVE 0, 0, 0, 0] ++ leBytes 4 svn)
  else d

/-- R650, R653: FW_FALLBACK once the event ring is up. -/
def Dev.reportFallback (d : Dev) : Dev :=
  let slot := d.get Reg.FW_STAT.ACTIVE 0
  let d1 := if d.sec.fallback = 0 then d else d.raise 0x1004 d.nullName [slot, d.sec.fallback]
  let d2 := if d1.sec.recovered then d1.raise 0x1004 d1.nullName [slot, 3] else d1
  d2.setSec { d2.sec with fallback := 0, recovered := false }

/-- Owner key and manifest from what is retained (R647, R649). -/
def Dev.secRestore (d : Dev) : Dev :=
  let key := Map.get d.nvm.kept recOWNER [] ++ Map.get d.nvm.kept (recOWNER + 1) []
  let m := d.block keyMANIFEST
  d.setSec { d.sec with ownerKey := if allZero key then [] else key, manifest := if m.isEmpty then none else some (manifestEntries m) }

/-- R653: firmware recovery begins: neither slot holds a verified image. -/
def Dev.enterRecovery (d : Dev) : Dev :=
  let d1 := d.noteSlots 0 0
  Dev.put { d1 with power := { d1.power with phase := .recovery } } Reg.FW_STAT.RECOVERY 0 1

/-- R653: a slot is to be booted from step 4: the core die starts again. -/
def Dev.leaveRecovery (d : Dev) : Dev :=
  let d1 := Dev.put { d with power := { d.power with phase := .booting } } Reg.FW_STAT.RECOVERY 0 0 |>.put Reg.PWR_STAT.START_STEP 0 4
  let d2 := ((d1.put Reg.FW_REC_STAT.PASSED 0 0).put Reg.FW_REC_STAT.CHECK 0 0).put Reg.FW_REC_STAT.ATTEMPTS 0 0
  (d2.put Reg.FW_REC_CTRL.LENGTH 0 0).setSec { d2.sec with recovered := true }

/-- R653: the check code of the image staged from word 0 on; where a word of it cannot be read the spec names no code. -/
def Dev.stagedCode (d : Dev) (len : Nat) : (Nat × List Nat) × Dev :=
  if !imageFits 0 len then ((1, []), d)
  else match d.readImage 0 len with
    | (some bs, d1) => ((d1.envelopeCode bs 1, bs), d1)
    | (none, d1) => ((1 + d1.freeBits.toNat % 7, []), d1.nextFree)

/-- R653: a write of FW_REC_CTRL in firmware recovery; GO checks the staged image and, when it passes, writes it to slot A and starts
from step 4. -/
def Dev.writeFwRec (d : Dev) (v : Nat) : Dev :=
  if !(d.power.phase == .recovery) then d
  else
    let d1 := d.put Reg.FW_REC_CTRL.LENGTH 0 (bitsAt v 0 24)
    if !bitAt v 31 then d1
    else
      let ((code, bs), d2) := (d1.bump Reg.FW_REC_STAT.ATTEMPTS 0 0xFFFF).stagedCode (bitsAt v 0 24)
      if code != 0 then d2.put Reg.FW_REC_STAT.CHECK 0 code
      else
        let d3 := ((d2.put Reg.FW_REC_STAT.PASSED 0 1).put Reg.FW_STAT.PREFERRED 0 0).put Reg.FW_STAT.TRIAL 0 0
        (((d3.put Reg.FW_STAT.VALID_A 0 1).recordNow (Reg.FW_STAT.PREFERRED.addr 0)).emit (.flash 0 bs)).leaveRecovery

/-- R653. -/
def execFwRecGo (v : Nat) (s : State) : Host.Outcome State Fault Refusal :=
  s.onDev fun d => d.writeFwRec v

/-- R653: the boot ROM verifies both slots again; one that passes is booted from step 4. -/
def execFwReverify (a b : SlotCheck) (s : State) : Host.Outcome State Fault Refusal :=
  s.onDev fun d => if d.power.phase == .recovery && (d.bootSlot a b).isSome then d.leaveRecovery else d

end Sys2Proof.Machine
end

