-- ==== Sys2Proof/Machine/Start.lean ====
section
/-! DEFINITION. Resets of the core die, boot, and the start-up order (14_power_startup.md, 19_security.md, 20_faults_interplay.md). -/

namespace Sys2Proof.Machine
open Sys2Proof

/-- The supply side set. -/
def Dev.setPower (d : Dev) (x : PowerSt) : Dev := { d with power := x }

/-- PFW_N driven and shown (R517). -/
def Dev.setPfw (d : Dev) (low : Bool) : Dev := (d.putBit Reg.PWR_STAT.PFW 0 low).emit (.pin "PFW_N" (!low))

/-! ### Reset of the core die (R518) -/

/-- A trial start that ends before step 10 gives PREFERRED back to the other slot (R651). -/
def Dev.abandonTrial (d : Dev) : Dev :=
  if d.power.phase == .restored && d.onTrial then
    let d1 := (d.put Reg.FW_STAT.PREFERRED 0 (1 - d.get Reg.FW_STAT.PREFERRED 0)).put Reg.FW_STAT.TRIAL 0 0
    (d1.recordNow (Reg.FW_STAT.PREFERRED.addr 0)).setSec { d1.sec with fallback := 1 }
  else d

/-- What a field die keeps while the core die is reset: everything but the frames under way (R518). -/
def DieSt.alone (x : DieSt) : DieSt := { x with frame := none, darkNow := none, lost := 0 }

/-- Fitting when the core die is reset: a pass under way comes to nothing, and times of before it no longer count. -/
def Dev.fitReset (d : Dev) : FitSt :=
  let x := (if d.fitting then d.fitGiveBack else d).fit
  { x with desc := none, snap := FitSt.init.snap, sense := none, stepAt := 0, holdup := none, window := false, windowAt := 0, skipped := false
           changes := [], log := [], rerun := false, rerunAt := 0, pathAt := 0
           spins := (x.spins.filter fun e => e.2.kicks != 0).map fun e => (e.1, { e.2 with since := none }) }

/-- What is there while the core die is in reset: the NVM, the field dies and what the service die latched remain; with its supplies lost the
shared memory does not (R518). -/
def Dev.inReset (d1 : Dev) (supplyLost : Bool) : Dev :=
  let e := Dev.init d1.part
  { e with
      nvm := d1.nvm, power := { d1.power with stopDue := false, resumeDue := false, resumeTimer := none, left := none, dipSafeStopped := false
                                              rstResetDue := false, rstAt := none, voutAt := 0, readAt := 0, statusAt := 0, pmbusRetry := 0
                                              pmbusFault := 0, pmbusTrying := false, vexp := 0 }
      frz := { e.frz with frzNLow := d1.frz.frzNLow }
      die := d1.die, dieA := d1.dieA.alone, dieB := d1.dieB.alone
      mailSeqA := d1.mailSeqA, mailSeqB := d1.mailSeqB
      meas := { d1.meas with cals := [], caps := [], urgentDone := [], testDue := [], aborts := [], slotSeen := [] }, dis := d1.dis, dos := d1.dos, floats := d1.floats
      poss := d1.poss, emus := d1.emus, fans := d1.fans, aos := d1.aos, shut := { d1.shut with loads := [] }
      mem := if supplyLost then [] else d1.mem
      memErr := if supplyLost then [] else d1.memErr
      panel := { e.panel with rails := if supplyLost || d1.panel.rails == .off then .off else .falling }
      fit := d1.fitReset
      sec := { e.sec with fallback := d1.sec.fallback, recovered := d1.sec.recovered }
      nextId := d1.nextId, nextOrder := d1.nextOrder, free := d1.free, out := d1.out }

/-- The core die is reset: writes under way tear, captures are dropped, and forces of emulated encoders, which their dies release, end (R204, R518). -/
def Dev.coreReset (d : Dev) (supplyLost : Bool) : Dev :=
  let d0 := d.abandonTrial.tearWrites
  let d1 := d0.meas.caps.foldl (fun x o => x.dropCap o) d0
  let forced := (List.range 4).filter fun n => (d1.forceOf (handle clsEMU n)).isSome
  (d1.inReset supplyLost).emuReleased forced

/-- The reset latched by the service die with its cause (R518, R524). -/
def Dev.latchReset (d : Dev) (cause : Nat) : Dev :=
  d.setPower { d.power with
    resetCause := cause, warnAtReset := d.dip && d.isSet Reg.PWR_STAT.PFW 0, saveEndedAtReset := d.dip && d.isSet Reg.PWR_STAT.SAVE_DONE 0
    minAtReset := if d.dip then min d.power.warnMin (d.get Reg.PWR_VOLT.VL24 0) else d.get Reg.PWR_VOLT.VL24 0
    vholdAtReset := d.get Reg.PWR_VOLT.VHOLD 0 }

/-! ### Sequencing the supplies (R514, R527 to R529) -/

/-- The enable outputs (R514). -/
def railPin (r : Nat) : String := if r = 1 then "EN_VIO" else if r = 2 then "EN_VCORE" else "EN_VPHY"

/-- Enable `r` raised. -/
def Dev.raiseEnable (d : Dev) (r : Nat) : Dev :=
  (d.setPower { d.power with enables := Nat.lor d.power.enables (2 ^ r), phase := .waitPowerGood r }).emit (.pin (railPin r) true)

/-- The enables that are up go low, VPHY first (R514). -/
def Dev.lowerEnables (d : Dev) : Dev :=
  let low := fun (y : Dev) (r : Nat) => if d.power.enables.testBit r then y.emit (.pin (railPin r) false) else y
  let d1 := [3, 2, 1].foldl low d
  d1.setPower { d1.power with enables := 0 }

/-- Step 2: the first enable (R527). -/
def Dev.startStep2 (d : Dev) : Dev := (d.raiseEnable 1).put Reg.PWR_STAT.START_STEP 0 2

/-- R527: VL24 is good. -/
def execVl24Good (s : State) : Host.Outcome State Fault Refusal :=
  s.onDev fun d => if d.power.phase == .waitVl24 then d.startStep2 else d

/-- R528: the 1 s after a failed attempt is over. -/
def execStartRetry (s : State) : Host.Outcome State Fault Refusal :=
  s.onDev fun d => if d.power.phase == .retryWait then d.startStep2 else d

/-- A record in force from now on, before the records are restored as a whole: what the boot ROM and the service die read. -/
def Dev.bootRecord (d : Dev) (off : Nat) : Dev :=
  match recordOf off with
  | none => d
  | some r =>
    let (y, d1) := d.readRecord r
    if y.1.written then d1.applyRecord r y.1.data else d1

/-- Step 4: the core die leaves reset, the root PLL locked (R527). -/
def Dev.startStep4 (d : Dev) : Dev :=
  let d1 := (((d.put Reg.PWR_STAT.START_STEP 0 4).put Reg.QUILT_CLK_STAT.PLL_LOCK 0 1).bootRecord (Reg.FW_STAT.PREFERRED.addr 0)).bootRecord
    (Reg.FW_SVN.MIN_SVN.addr 0)
  d1.setPower { d1.power with phase := .booting }

/-- R514: power-good input `rail` is high: the next enable follows, after the last the core die starts unless RST_N is low. -/
def execPowerGoodRise (rail : Nat) (s : State) : Host.Outcome State Fault Refusal :=
  s.onDev fun d =>
    if !(d.power.phase == .waitPowerGood rail) then d
    else if rail < 3 then d.raiseEnable (rail + 1)
    else
      let d1 := d.put Reg.PWR_STAT.START_STEP 0 3
      if d1.power.rstLow then d1.setPower { d1.power with phase := .heldRst } else d1.startStep4

/-- R528: power-good input `rail` has not come. -/
def execPgTimeout (rail : Nat) (s : State) : Host.Outcome State Fault Refusal :=
  s.onDev fun d =>
    if !(d.power.phase == .waitPowerGood rail) then d
    else
      let d1 := d.lowerEnables
      d1.setPower { d1.power with phase := .retryWait, attempts := d1.power.attempts + 1, failedRail := rail }

/-- R529: VL24 falls below 17.0 V before step 6. -/
def execVl24FallAtStart (s : State) : Host.Outcome State Fault Refusal :=
  s.onDev fun d =>
    if d.power.phase == .up || d.power.phase == .restored || d.power.phase == .waitVl24 then d
    else
      let d1 := (d.coreReset true).lowerEnables
      d1.setPower { d1.power with phase := .waitVl24 }

/-! ### The fault log at start (R665, R666) -/

/-- The start count in the image that a start would restore. -/
def Dev.savedStarts (d : Dev) : Nat :=
  match d.bestArea with
  | none => 0
  | some (_, _, cells) => leAt ((List.range 4).map fun j => (memGet cells (0x408 + j)).toNat) 0 4

/-- R665, R666: the entry for cause 1, written before the core die leaves reset. -/
def Dev.logAtBoot (d : Dev) (cause time : Nat) : Dev :=
  let offs := [Reg.GLOBAL_FAULT_STAT.ENTRIES.addr 0, Reg.GLOBAL_FAULT_CNT.UNRECOVERABLE.addr 0]
    ++ (List.range 128).map fun i => Reg.GLOBAL_FAULT_LOG.BYTES.addr i
  let d1 := offs.foldl (fun (y : Dev) o => y.bootRecord o) d
  let d2 := d1.logFaultIn d.savedStarts time cause 0xFF 0
  d2.retPending.foldl (fun (y : Dev) r => (Dev.writeRecord { y with retPending := y.retPending.filter (· != r) } r (y.recData r)).2) d2

/-- R666, R668: what the service die latched is logged: causes 2 to 4 for reset causes 1 to 3 at the time of the latest save, cause 5 for the watchdog. -/
def Dev.logLatched (d : Dev) : Dev :=
  let c := d.power.resetCause
  let d1 := if 1 ≤ c && c ≤ 3 then (let r := d.startCount; r.2.logFaultIn r.1 (d.get Reg.NVM_SAVE_TICK.TICK 0) (c + 1) 0xFF 0) else d
  match d1.power.watchdogAt with
  | some t =>
    let r := d1.startCount
    (r.2.logFaultIn r.1 t 5 0xFF 0).setPower { d1.power with watchdogAt := none }
  | none => d1

/-! ### Steps 5 and 6: firmware, retained state -/

/-- The regions of the shared memory. DESIGN CHOICE (log 19): the spec gives their sizes and no places; one after the other, they end below the word
0x5_2000 at which the worked example of 12_host_rings.md stages a block. -/
def Dev.placeRegions (d : Dev) : Dev :=
  (((((d.put Reg.NVM_SAVE.BASE 0 4096).put Reg.LOOP_REGION.BASE 0 6144).put Reg.PAT_REGION.BASE 0 10240).put
    Reg.CHALK_REGION.BASE 0 29698).put Reg.PANEL_FB.BASE 0 193538).put Reg.PANEL_WF.BASE 0 253538

/-- Civil time, the daylight-saving table and the overrides in force again (R91, R92, R326). -/
def Dev.schedRestore (d : Dev) : Dev :=
  let c := d.block keyCIVIL
  let t := d.block keyDST
  let zone := fun (y : Dev) (z : Nat) =>
    let o := y.block (keyExtra (handle clsZONE z))
    if o.getD 0 0 = 1 then y.setZone z { y.zone z with override := some (o.getD 1 0, leAt o 2 8) } else y
  let d1 := { d with sched := { d.sched with civil := if c.isEmpty then none else some (leAt c 0 8, leAt c 8 8, signedOf 16 (leAt c 16 2))
                                             dst := dstEntries t (t.length / 16) } }
  ((List.range 128).foldl zone d1).showSched

/-- The value words of VAR from the save set (R560, R564). -/
def Dev.varRestore (d : Dev) : Dev :=
  (List.range 1024).foldl (fun (y : Dev) v =>
    let x := y.saveRead (0x1000 + 8 * v) 8
    let b := leAt x.1 0 8
    if b = 0 then x.2 else x.2.deliver (x.2.name clsVAR v) 0 (VW.ofBits b)) d

/-- The shuttle libraries in force again (R363). -/
def Dev.banksRestore (d : Dev) : Dev :=
  (List.range 8).foldl (fun (y : Dev) b =>
    if (y.block (handle clsBANK b)).isEmpty then y
    else (y.shuttleRestore b).raise 0x0806 (y.name clsBANK b) (leBytes 4 (y.get Reg.BANK_LIB_ID.CRC b) ++ [0])) d

/-- R58, R59: the behaviour level of this start. -/
def Dev.startLevel (d : Dev) : Dev :=
  let req := d.get Reg.GLOBAL_BLSEL.BL_REQ 0
  let act := min req d.part.stepping.blMax
  (d.put Reg.GLOBAL_BLSEL.BL_ACTIVE 0 act).putBit Reg.GLOBAL_BLSEL.BL_FALLBACK 0 (act != req)

/-- What follows the save image at step 6: the estimates are taken only with the model of R250, and time goes on from the image. -/
def Dev.restoreRest (d : Dev) (found : Bool) : Dev :=
  let mine := match d.bestArea with
    | some (_, h, _) => found && h.model == d.get Reg.PAT_MODEL_ID.CRC 0
    | none => false
  let x := d.saveRead 0x3000 16384
  let est := if mine then some x.1 else none
  let d1 := { x.2 with tick := if found then d.get Reg.NVM_SAVE_TICK.TICK 0 else 0 }
  let d2 := d1.restoreLockouts.restoreImport.secRestore.startLevel.showEffective
  (d2.schedRestore.quiltRestore.banksRestore.panelRestore.patRestore est).varRestore.loopRestore

/-- What is restored at step 6 (R527): records, blocks, the model, the save set, then what each part takes from them. -/
def Dev.restoreAll (d : Dev) : Dev :=
  let l := d.restoreRecords
  let x := l.2.placeRegions.restoreBlocks.restoreSlot.restoreSave
  (x.2.restoreRest x.1).logLost l.1

/-! ### The VCORE regulator (R534, R537) -/

/-- PMBUS_FAULT (R540). -/
def Dev.pmbusEvent (d : Dev) (entered : Bool) (cause word : Nat) : Dev :=
  d.raise 0x010B d.nullName ([if entered then 1 else 0, cause] ++ leBytes 2 word ++ leBytes 2 (d.get Reg.PWR_VCORE.TARGET 0))

/-- PMBus is given up: no VOUT_COMMAND until it works again, the window at the last commanded value (R537). -/
def Dev.pmbusStop (d : Dev) (cause word : Nat) : Dev :=
  let d1 := (d.put Reg.PWR_STAT.PMBUS_OK 0 0).setPower { d.power with pmbusRetry := 0, pmbusTrying := false, pmbusFault := cause, voutPrev := d.power.vout }
  if d.power.pmbusFault = 0 then d1.pmbusEvent true cause word else d1

/-- n of the exponent −n that VOUT_MODE gives in linear mode, when it is from −13 to −9 (R534; PRESUMED, log 172: mode in [7:5], exponent in [4:0] as PMBus lays it out). -/
def voutExp (mode : Nat) : Nat :=
  let n := 32 - mode % 32
  if mode / 32 = 0 && 9 ≤ n && n ≤ 13 then n else 0

/-- VOUT_MODE read at step 6 (R534); `mode` is what came of it, tried once more where it failed (R537). -/
def Dev.pmbusOpen (d0 : Dev) (mode : PmbusResult) : Dev :=
  if !d0.isSet Reg.PWR_PMBUS.EN 0 then d0
  else
    let d := d0.emit (.pmbus 0x20 0)
    match mode with
    | .noAnswer => d.pmbusStop 1 0
    | .pecMismatch => d.pmbusStop 2 0
    | .answer m =>
      if voutExp m = 0 then d.pmbusStop 3 0
      else
        let d1 := d.setPower { d.power with vexp := voutExp m }
        (d1.put Reg.PWR_STAT.PMBUS_OK 0 1).putBit Reg.PWR_STAT.VCORE_RAMP 0 (d1.power.vout != d1.get Reg.PWR_VCORE.TARGET 0)

/-- R527 steps 5 and 6, R650: the boot ROM has verified the slots; one is booted and the retained state restored, or recovery begins. -/
def execFirmwareVerified (a b : SlotCheck) (mode : PmbusResult) (s : State) : Host.Outcome State Fault Refusal :=
  s.onDev fun d =>
    if !(d.power.phase == .booting) then d
    else
      let d1 := (d.bootIdentity.put Reg.PWR_STAT.START_STEP 0 5).put Reg.PWR_STAT.LAST_RESET 0 d.power.resetCause
      match d1.bootSlot a b with
      | none => d1.enterRecovery
      | some k =>
        let d2 := (d1.booted k (if k = 0 then a else b)).restoreAll
        let d3 := (d2.pmbusOpen mode).put Reg.PWR_STAT.START_STEP 0 6
        d3.setPower { d3.power with phase := .restored }

/-! ### Steps 7 to 13 -/

/-- Step 8: the commands of the first down frames (R531). -/
def Dev.restoreOutputs (d : Dev) : Dev :=
  [clsDO, clsAO, clsFAN, clsSOL, clsFLOAT].foldl (fun (y : Dev) c =>
    (List.range (y.classCount c)).foldl (fun (z : Dev) i => z.setCommand (handle c i) (z.restoreValue c i)) y) d

/-- Whether a place in BAR0 bits lies in a block whose configuration the field dies hold (R147). -/
def dieKey (k : Nat) : Bool := (8 * 0x30000 ≤ k && k < 8 * 0x60000) || (8 * 0x80000 ≤ k && k < 8 * 0xC0000)

/-- Step 7: the links come up: the dies hold the restored configuration, and one in STARTUP the retained FLOAT positions (R531). -/
def Dev.linksUp (d : Dev) : Dev :=
  let old := d.die.filter fun e => !dieKey e.1
  let d1 := { d with die := (d.regs.filter fun e => dieKey e.1).foldl (fun m e => Map.insert m e.1 e.2) old }
  let pos := fun (y : Dev) (f : Nat) =>
    let x := y.saveRead (0x200 + 4 * f) 4
    if (y.fd (dieOf clsFLOAT f)).state = .startup then x.2.setFloat f { x.2.floatAt f with pos := (roundDiv (leAt x.1 0 4 * y.floatFull f : Nat) 6553600).toNat }
    else x.2
  let d2 := (List.range (d1.classCount clsFLOAT)).foldl pos d1
  let dark := fun (y : Dev) (k : Nat) =>
    y.setFd k { y.fd k with intOsc := true, darkOn := y.isSet (if k = 0 then Reg.DIO_DARK.EN_A else Reg.DIO_DARK.EN_B) 0
                            darkInt := y.get Reg.DIO_DARK.DARK_INT 0 }
  (dark (dark d2 0) 1).posLinksUp

/-- Step 13: what waited for the event ring (R528, R540, R59, R76, R656). -/
def Dev.startReports (d : Dev) : Dev :=
  let p := d.power
  let bit := fun (b : Bool) => if b then 1 else 0
  let d1 := d.raise 0x0109 d.nullName ([p.resetCause, bit p.warnAtReset, bit p.saveEndedAtReset, 0] ++ leBytes 2 p.minAtReset ++ [0, 0] ++ leBytes 2 p.vholdAtReset)
  let d2 := if p.attempts = 0 then d1 else d1.raise 0x010A d1.nullName [p.failedRail, min 255 p.attempts]
  let d3 := match p.clkrefLostAt with
    | some t => d2.raise 0x0103 d2.nullName (leBytes 8 t)
    | none => d2
  let d4 := if d3.isSet Reg.GLOBAL_BLSEL.BL_FALLBACK 0 then
      d3.raise 0x0102 d3.nullName [d3.get Reg.GLOBAL_BLSEL.BL_REQ 0, d3.bl, d3.part.stepping.blMax, d3.part.stepping.code]
    else d3
  d4.reportFallback.setPower { d4.power with attempts := 0, clkrefLostAt := none }

/-- Steps 7 to 10 (R527): the links, the first commands, the counters and the fault log, calibration, control; PFW_N is released where control
starts and VL24 is not `low`. -/
def Dev.startControl (d : Dev) (low : Bool) : Dev :=
  let d1 := ((d.linksUp.restoreOutputs.saveCount 0x408).logLatched.put Reg.PWR_STAT.START_STEP 0 10).setPower { d.power with phase := .up, watchdogAt := none }
  let d1t := { d1 with meas := { d1.meas with testDue := (List.range 8).filter fun c => d1.dieFitted (convDie c), calAt := d1.tick }
                       nvm := { d1.nvm with ckptAt := d1.tick, refreshAt := d1.tick } }
  let d2 := if d1t.isSet Reg.MEAS_CFG.AUTO_CAL 0 then d1t.calAll 1 else d1t
  let d3 := { d2.keysStart.busStart.confirmTrial with hostSince := d2.tick }
  let d4 := (d3.put Reg.FIT_NEXT.TICK 0 d3.tick).putBit Reg.LOOP_STAT.RUNNING 0 (d3.isSet Reg.LOOP_CTRL.RUN 0)
  if d4.nvm.noControl || low then d4 else d4.setPfw false

/-- Steps 11 to 13 (R527): the panel, quilt training, the host. -/
def Dev.startOutside (d : Dev) : Dev :=
  let d1 := d.panelStart.put Reg.PWR_STAT.START_STEP 0 12
  let d2 := Dev.applyPortEn { d1 with quilt := { d1.quilt with trainDue := true } }
  (d2.startReports.put Reg.PWR_STAT.START_STEP 0 13)

end Sys2Proof.Machine
end

