-- ==== Sys2Proof/Machine/Power.lean ====
section
/-! DEFINITION. Warning, save, resets, CLKREF, watchdog and the VCORE regulator while the device runs (14_power_startup.md, 20_faults_interplay.md). -/

namespace Sys2Proof.Machine
open Sys2Proof

/-! ### The warning (R516 to R523) -/

/-- VL24 and VHOLD as measured, in mV. -/
def Dev.putVolts (d : Dev) (vl24 vhold : Nat) : Dev :=
  (d.put Reg.PWR_VOLT.VL24 0 (min vl24 0xFFFF)).put Reg.PWR_VOLT.VHOLD 0 (min vhold 0xFFFF)

/-- The minimum of VL24 in the present warning. -/
def Dev.noteMin (d : Dev) (vl24 : Nat) : Dev :=
  let m := min d.power.warnMin vl24
  (d.setPower { d.power with warnMin := m }).put Reg.PWR_DIP.LAST_MIN 0 m

/-- The level above which VL24 ends a warning (R520). -/
def Dev.resumeLevel (d : Dev) : Nat := 100 * d.get Reg.PWR_WARN.EFFECTIVE 0 + 500

/-- The 2 ms of R520 at a boundary: they run from the first moment VL24 is seen above the resume level, and each fall below it ends them. -/
def Dev.followResume (d : Dev) (vl24 : Nat) : Dev :=
  d.setPower { d.power with resumeTimer := if d.resumeLevel < vl24 then some (d.power.resumeTimer.getD d.tick) else none }

/-- POWER_DIP (R540). -/
def Dev.powerDip (d : Dev) (entered : Bool) (ticks : Nat) : Dev :=
  d.raise 0x0108 d.nullName ([if entered then 1 else 0, d.get Reg.PWR_STAT.SAVE_DONE 0] ++ leBytes 2 d.power.warnMin ++ leBytes 4 ticks
    ++ leBytes 2 (d.get Reg.PWR_WARN.EFFECTIVE 0))

/-- The save of a warning begins (R521, R562); none while an import is pending or incomplete (R568, R569). -/
def Dev.warningSave (d : Dev) : Dev :=
  let d1 := d.put Reg.PWR_STAT.SAVE_DONE 0 0
  if d1.isSet Reg.NVM_STAT.IMPORT_PENDING 0 || d1.nvm.incomplete then d1 else (d1.saveStart 0).put Reg.PWR_STAT.SAVING 0 1

/-- What stops at once when PFW_N falls, and that the rest stops at the next boundary (R483, R521). -/
def Dev.dipActs (d : Dev) : Dev :=
  let d1 := d.panelDip.nvmDip.fitDip.abortUpdate
  let d2 := (d1.put Reg.HOSTQ_STAT.FETCH_PAUSED 0 1).loopStop (d1.tick + 1) 1
  d2.setPower { d2.power with stopDue := true, resumeDue := false }

/-- What the boundary after PFW_N falling ends (step 3 of R521). -/
def Dev.stopEngines (d : Dev) : Dev :=
  let d1 := d.measDip.shuttleDip.patDip.loopDip.quiltDip
  d1.setPower { d1.power with stopDue := false }

/-- POWER_DIP (left) of a warning that has ended (R522). -/
def Dev.reportLeft (d : Dev) : Dev :=
  match d.power.left with
  | some ticks => (d.powerDip false ticks).setPower { d.power with left := none }
  | none => d

/-- The warning begins, or with `pin` false acts for RST_N and the watchdog (R519, R521, R664). Frozen, the device only saves (R674). -/
def Dev.enterWarning (d : Dev) (vl24 vhold : Nat) (pin : Bool) : Dev :=
  let d1 := (d.reportLeft.putVolts vl24 vhold).put Reg.PWR_STAT.DIP 0 1
  let d2 := d1.setPower { d1.power with warnStart := d1.tick, warnMin := min vl24 0xFFFF, resumeTimer := none, dipSafeStopped := false }
  let d3 := if pin then ((d2.setPfw true).bump Reg.PWR_DIP.COUNT 0 0xFFFF).noteMin vl24 else d2
  let d4 := (if pin && !d3.frozen then d3.saveCount 0x40C else d3).warningSave
  let d5 := if pin then d4.powerDip true 0 else d4
  if d5.frozen then d5 else d5.dipActs

/-- The warning level in mV. -/
def Dev.warnLevel (d : Dev) : Nat := 100 * d.get Reg.PWR_WARN.EFFECTIVE 0

/-- VL24 falls below the warning level while the warning's acts run already: within a warning the 2 ms end (R520); where RST_N or the watchdog
began them, PFW_N falls now (R516, R517). -/
def Dev.joinWarning (d : Dev) (vl24 vhold : Nat) : Dev :=
  let d1 := ((d.putVolts vl24 vhold).setPower { d.power with resumeTimer := none }).noteMin vl24
  if d.isSet Reg.PWR_STAT.PFW 0 then d1 else ((d1.setPfw true).bump Reg.PWR_DIP.COUNT 0 0xFFFF).powerDip true 0

/-- R516, R521: VL24 falls below the warning level. -/
def execPfwNFalling (vl24 vhold : Nat) (s : State) : Host.Outcome State Fault Refusal :=
  s.onDev fun d =>
    if !(d.power.phase == .up && vl24 < d.warnLevel) then d
    else if d.dip then d.joinWarning vl24 vhold
    else d.enterWarning vl24 vhold true

/-- R526: a change from the level `before` takes the warning level above VL24: a warning starts at once. -/
def Dev.warnIfLow (d : Dev) (before : Nat) : Dev :=
  let v := d.get Reg.PWR_VOLT.VL24 0
  if d.power.phase == .up && !d.dip && before < d.warnLevel && v < d.warnLevel then d.enterWarning v (d.get Reg.PWR_VOLT.VHOLD 0) true else d

/-- R562: the save ends, where VHOLD has let its pages be written (R547). -/
def execSaveEnd (s : State) : Host.Outcome State Fault Refusal :=
  s.onDev fun d =>
    if d.dip && d.nvm.save.isSome && d.pageEnergyOk then (d.saveCommit.put Reg.PWR_STAT.SAVING 0 0).put Reg.PWR_STAT.SAVE_DONE 0 1 else d

/-- R520: VL24 is above the resume level: the 2 ms run. -/
def execVl24AboveResume (vl24 : Nat) (s : State) : Host.Outcome State Fault Refusal :=
  s.onDev fun d =>
    if d.dip && d.resumeLevel < vl24 then (d.followResume vl24).put Reg.PWR_VOLT.VL24 0 (min vl24 0xFFFF) else d

/-- Whether `n` ticks have passed since tick `t`; frozen, the count stands and says nothing (R677). -/
def Dev.passedSince (d : Dev) (t n : Nat) : Bool := d.frozen || t + n ≤ d.tick

/-- R520: VL24 has stayed above the resume level for 2 ms, and the save has ended. -/
def Dev.resumeMet (d : Dev) (vl24 : Nat) : Bool :=
  d.nvm.save.isNone && !d.power.rstResetDue && d.resumeLevel < vl24
    && (match d.power.resumeTimer with
      | some t => d.passedSince t 200
      | none => false)

/-- R520, R522: the resume condition holds: the warning ends; control resumes at the next boundary, while frozen not before thaw (R674). -/
def execWarningEnd (vl24 : Nat) (s : State) : Host.Outcome State Fault Refusal :=
  s.onDev fun d =>
    if !(d.dip && d.resumeMet vl24) then d
    else
      let d1 := ((d.put Reg.PWR_VOLT.VL24 0 (min vl24 0xFFFF)).put Reg.PWR_STAT.DIP 0 0).setPower
        { d.power with resumeTimer := none, resumeDue := true, left := some (d.tick - d.power.warnStart), dipSafeStopped := false }
      let d1 := { d1 with fit := { d1.fit with rerunAt := d1.tick } }
      let d2 := if d1.nvm.noControl then d1 else d1.setPfw false
      if d2.frozen then d2 else d2.showFrontlight.kickWrites

/-- What resumes at the boundary after a warning, and its report (R522). -/
def Dev.resumeControl (d : Dev) : Dev :=
  let d0 := d.reportLeft
  let d1 := (d0.setPower { d0.power with resumeDue := false, stopDue := false }).put Reg.HOSTQ_STAT.FETCH_PAUSED 0 0
  (d1.loopBack d1.tick).remoteFetchAll

/-- R523: a long warning stops the down frames. -/
def execDipSafeExpiry (s : State) : Host.Outcome State Fault Refusal :=
  s.onDev fun d =>
    let n := d.get Reg.PWR_CFG.DIP_SAFE 0
    if d.power.phase == .up && d.dip && 0 < n && d.power.warnStart + 10000 * n ≤ d.tick then d.setPower { d.power with dipSafeStopped := true } else d

/-- R538: a write of PWR_CLR. -/
def Dev.writePwrClr (d : Dev) (v : Nat) : Dev :=
  if bitAt v 0 then (d.put Reg.PWR_DIP.COUNT 0 0).put Reg.PWR_DIP.LAST_MIN 0 0xFFFF else d

/-- R538. -/
def execClrDip (s : State) : Host.Outcome State Fault Refusal :=
  s.onDev fun d => d.hostReg 0x120 1 fun x => x.writePwrClr 1

/-! ### Resets (R518, R519, R664, R665) -/

/-- Whether the core die is out of its power-on reset. -/
def Dev.coreUp (d : Dev) : Bool :=
  d.power.phase == .booting || d.power.phase == .recovery || d.power.phase == .restored || d.power.phase == .up

/-- R519: RST_N falls: it acts as PFW_N falling where control runs, and a reset follows. -/
def execRstNLow (s : State) : Host.Outcome State Fault Refusal :=
  s.onDev fun d =>
    let since := if d.power.rstResetDue then d.power.rstAt else if d.dip then none else some d.tick
    let d1 := d.setPower { d.power with rstLow := true, rstResetDue := d.power.rstResetDue || d.coreUp, rstAt := since }
    if d.power.phase == .up && !d.dip then d1.enterWarning (d1.get Reg.PWR_VOLT.VL24 0) (d1.get Reg.PWR_VOLT.VHOLD 0) false else d1

/-- Whether the reset of R519 is due: the save has ended, or 5 ms have passed since RST_N fell; a warning that was in force already is waited
for until its save ends. -/
def Dev.rstDue (d : Dev) : Bool :=
  d.power.rstResetDue && d.coreUp && (d.nvm.save.isNone || d.power.phase != .up
    || (match d.power.rstAt with
      | some t => d.passedSince t 500
      | none => false))

/-- R519: the reset falls due. -/
def execRstNResetDue (s : State) : Host.Outcome State Fault Refusal :=
  s.onDev fun d =>
    if !d.rstDue then d
    else
      let d1 := (d.latchReset 4).coreReset false
      let d2 := if d.isSet Reg.PWR_STAT.PFW 0 then d1 else d1.setPfw true
      if d2.power.rstLow then d2.setPower { d2.power with phase := .heldRst } else d2.startStep4

/-- R519: RST_N has risen: start goes on from step 4. -/
def execRstNRise (s : State) : Host.Outcome State Fault Refusal :=
  s.onDev fun d =>
    let d1 := d.setPower { d.power with rstLow := false }
    if d.power.phase == .heldRst then d1.startStep4 else d1

/-- The VCORE window in mV (R536): 50 mV about the last two commanded values, and from 1 ms after a step about the latest alone. -/
def Dev.vcoreWindow (d : Dev) : Nat × Nat :=
  let p := d.power
  let prev := if p.voutAt = 0 || p.voutAt + 99 ≤ d.tick then p.vout else p.voutPrev
  (min p.vout prev - 50, max p.vout prev + 50)

/-- The cause of R518 that the supplies give, in mV, with the power-good inputs as a mask of rails 1 to 3: 0 none. -/
def Dev.supplyCause (d : Dev) (vio vcore pg : Nat) : Nat :=
  if vio < 2950 then 1
  else if vcore < d.vcoreWindow.1 || d.vcoreWindow.2 < vcore then 2
  else if [1, 2, 3].any (fun r => !pg.testBit r) then 3
  else 0

/-- R518: reset causes 1 to 3, from VIO, VCORE_SENSE and the power-good inputs as they have stood for the times of the rule. -/
def execSupplyReset (core : CoreSupplies) (vl24 vhold : Nat) (s : State) : Host.Outcome State Fault Refusal :=
  s.onDev fun d =>
    let cause := d.supplyCause core.vio core.vcore core.powerGood
    if !(cause != 0 && (d.coreUp || d.power.phase == .heldRst || d.power.phase == .heldClkref)) then d
    else
      let d1 := ((((d.putVolts vl24 vhold).latchReset cause).coreReset true).lowerEnables)
      let d2 := if d.isSet Reg.PWR_STAT.PFW 0 then d1 else d1.setPfw true
      d2.setPower { d2.power with phase := .waitVl24, vout := 800, voutPrev := 800 }

/-- R76, R661: CLKREF is lost. Which code LAST_RESET has for it the spec leaves open. -/
def execClkrefLost (s : State) : Host.Outcome State Fault Refusal :=
  s.onDev fun d =>
    if !d.coreUp then d
    else
      let d1 := (d.nextFree.latchReset (d.freeBits.toNat % 8)).coreReset false
      let d2 := if d.isSet Reg.PWR_STAT.PFW 0 then d1 else d1.setPfw true
      d2.setPower { d2.power with phase := .heldClkref, clkrefLostAt := some d.tick }

/-- R665: CLKREF is back: the fault is logged and start runs from step 4. -/
def execClkrefRestored (s : State) : Host.Outcome State Fault Refusal :=
  s.onDev fun d =>
    if !(d.power.phase == .heldClkref) then d
    else
      let d1 := d.logAtBoot 1 (d.power.clkrefLostAt.getD 0)
      if d1.power.rstLow then d1.setPower { d1.power with phase := .heldRst } else d1.startStep4

/-- R664: the watchdog has not been serviced for 10 ms: as RST_N, with the fault log to name cause 5. -/
def execFirmwareWatchdog (s : State) : Host.Outcome State Fault Refusal :=
  s.onDev fun d =>
    if !d.live then d
    else
      let since := if d.power.rstResetDue then d.power.rstAt else if d.dip then none else some d.tick
      let d1 := d.setPower { d.power with watchdogAt := some d.tick, rstResetDue := true, rstAt := since }
      if d.dip then d1 else d1.enterWarning (d1.get Reg.PWR_VOLT.VL24 0) (d1.get Reg.PWR_VOLT.VHOLD 0) false

/-! ### The VCORE regulator (R534 to R537) -/

/-- Whether the device talks to the regulator now. -/
def Dev.pmbusOn (d : Dev) : Bool := d.live && d.isSet Reg.PWR_PMBUS.EN 0 && d.isSet Reg.PWR_STAT.PMBUS_OK 0

/-- A failed transaction is retried once; a second failure stops PMBus (R537). -/
def Dev.pmbusFail (d : Dev) (command cause : Nat) : Dev :=
  if d.power.pmbusRetry = command then d.pmbusStop cause 0 else d.setPower { d.power with pmbusRetry := command }

/-- Whether `command` is due: where it is the one to be retried, or, with nothing to be retried, `n` ticks after it was last written (R534, R535). -/
def Dev.pmbusDue (d : Dev) (command at_ n : Nat) : Bool :=
  d.pmbusOn && (d.power.pmbusRetry = command || (d.power.pmbusRetry = 0 && (at_ = 0 || at_ - 1 + n ≤ d.tick)))

/-- A VOUT_COMMAND is due: a step of 1 ms towards the target (R535). -/
def Dev.stepDue (d : Dev) : Bool := d.power.vout != d.get Reg.PWR_VCORE.TARGET 0 && d.pmbusDue 0x21 d.power.voutAt 100

/-- READ_VOUT is due, every 10 ms (R534). -/
def Dev.readDue (d : Dev) : Bool := d.pmbusDue 0x8B d.power.readAt 1000

/-- STATUS_WORD is due, every 100 ms (R534). -/
def Dev.statusDue (d : Dev) : Bool := d.pmbusDue 0x79 d.power.statusAt 10000

/-- A voltage in mV as the mantissa of linear mode (R534, R535). -/
def voutMantissa (mv n : Nat) : Nat := (roundDiv ((mv * 2 ^ n : Nat) : Int) 1000).toNat

/-- A mantissa of linear mode in mV. -/
def voutMv (m n : Nat) : Nat := (roundDiv ((m * 1000 : Nat) : Int) ((2 ^ n : Nat) : Int)).toNat

/-- The next commanded value: at most 5 mV nearer the target (R535). -/
def voutStep (now target : Nat) : Nat := if now < target then min target (now + 5) else max target (now - 5)

/-- R535: one step towards the target. -/
def execVcoreStep (res : PmbusResult) (s : State) : Host.Outcome State Fault Refusal :=
  s.onDev fun d =>
    if !d.stepDue then d
    else
      let t := d.get Reg.PWR_VCORE.TARGET 0
      let v := voutStep d.power.vout t
      let d0 := d.setPower { d.power with voutAt := d.tick + 1 }
      let d1 := d0.emit (.pmbus 0x21 (voutMantissa v d.power.vexp))
      match res with
      | .noAnswer => d1.pmbusFail 0x21 1
      | .pecMismatch => d1.pmbusFail 0x21 2
      | .answer _ => (d1.setPower { d1.power with vout := v, voutPrev := d1.power.vout, pmbusRetry := 0 }).putBit Reg.PWR_STAT.VCORE_RAMP 0 (v != t)

/-- R534: READ_VOUT. -/
def execReadVoutPoll (res : PmbusResult) (s : State) : Host.Outcome State Fault Refusal :=
  s.onDev fun d =>
    if !d.readDue then d
    else
      let d0 := d.setPower { d.power with readAt := d.tick + 1 }
      let d1 := d0.emit (.pmbus 0x8B 0)
      match res with
      | .noAnswer => d1.pmbusFail 0x8B 1
      | .pecMismatch => d1.pmbusFail 0x8B 2
      | .answer m => (d1.setPower { d1.power with pmbusRetry := 0 }).put Reg.PWR_VCORE.READ 0 (voutMv m d.power.vexp)

/-- Whether a STATUS_WORD has VOUT or IOUT fault bits (R537; PRESUMED, log 172: bits 15 and 14, as PMBus lays it out). -/
def vcoreFault (w : Nat) : Bool := bitAt w 15 || bitAt w 14

/-- The answer of a transaction, where it has one. -/
def pmbusWord : PmbusResult → Option Nat
  | .answer w => some w
  | _ => none

/-- The device tries again (R537), after CLEAR_FAULTS: VOUT_MODE where it was not accepted, then STATUS_WORD; a transaction that fails is retried once. -/
def Dev.pmbusTry (d : Dev) (res mode : PmbusResult) : Dev :=
  let d0 := if d.power.vexp = 0 then d.emit (.pmbus 0x20 0) else d
  let vexp := if d.power.vexp = 0 then (pmbusWord mode).map voutExp else some d.power.vexp
  match vexp, pmbusWord res with
  | some n, some w =>
    let d1 := (d0.emit (.pmbus 0x79 0)).setPower { d0.power with pmbusTrying := false, pmbusRetry := 0, vexp := n }
    if n = 0 || vcoreFault w then d1
    else
      let d2 := (d1.setPower { d1.power with pmbusFault := 0, statusAt := d.tick + 1 }).put Reg.PWR_STAT.PMBUS_OK 0 1
      (d2.putBit Reg.PWR_STAT.VCORE_RAMP 0 (d2.power.vout != d2.get Reg.PWR_VCORE.TARGET 0)).pmbusEvent false d.power.pmbusFault w
  | _, _ =>
    d0.setPower (if d.power.pmbusRetry = 0 then { d0.power with pmbusRetry := 0x79 } else { d0.power with pmbusRetry := 0, pmbusTrying := false })

/-- Whether the device, its PMBus in fault, tries again now (R537). -/
def Dev.tryDue (d : Dev) : Bool := d.live && d.isSet Reg.PWR_PMBUS.EN 0 && d.power.pmbusTrying

/-- R534, R537: STATUS_WORD, and PMBUS_FAULT; `mode` is what VOUT_MODE answers where the device tries again. -/
def execStatusWordPoll (res mode : PmbusResult) (s : State) : Host.Outcome State Fault Refusal :=
  s.onDev fun d =>
    if d.tryDue then d.pmbusTry res mode
    else if !d.statusDue then d
    else
      let d0 := d.setPower { d.power with statusAt := d.tick + 1 }
      let d1 := d0.emit (.pmbus 0x79 0)
      match res with
      | .noAnswer => d1.pmbusFail 0x79 1
      | .pecMismatch => d1.pmbusFail 0x79 2
      | .answer w => if vcoreFault w then d1.pmbusStop 4 w else d1.setPower { d1.power with pmbusRetry := 0 }

/-- The command of the transaction under way: the one to be retried, else the first that is due; 0 none. -/
def Dev.pmbusCommand (d : Dev) : Nat :=
  if d.power.pmbusRetry != 0 then d.power.pmbusRetry
  else if d.stepDue then 0x21
  else if d.readDue then 0x8B
  else if d.statusDue then 0x79
  else 0

/-- R537: a transaction has not finished within 10 ms: it counts as unanswered. -/
def execPmbusTimeout (s : State) : Host.Outcome State Fault Refusal :=
  s.onDev fun d =>
    if d.tryDue then d.pmbusTry .noAnswer .noAnswer
    else if d.pmbusOn && d.pmbusCommand != 0 then d.pmbusFail d.pmbusCommand 1
    else d

/-! ### Fitting's changes in force (R526, R627) -/

/-- R627 steps 8 and 9: at the next boundary the changes are applied and the pass ends; a level now above VL24 starts a warning (R526). -/
def execFitApply (s : State) : Host.Outcome State Fault Refusal :=
  s.onDev fun d => if d.controlling && d.get Reg.FIT_STAT.STEP 0 = 4 then d.fitApplied.warnIfLow d.warnLevel else d

end Sys2Proof.Machine
end

