-- ==== Sys2Proof/Machine/Freeze.lean ====
section
/-! DEFINITION. Freeze requests, the freeze boundary, read-out of internal state, TAP (21_freeze_debug.md). -/

namespace Sys2Proof.Machine
open Sys2Proof

/-- The freeze side set. -/
def Dev.setFrz (d : Dev) (x : FreezeSt) : Dev := { d with frz := x }

/-! ### Entering freeze (R678 to R681) -/

/-- A freeze request of this device: cause 1 FRZ_N, 3 DBG_FREEZE, 4 TAP. Alone it stops at the second boundary, quilt-wide at the sixth. -/
def Dev.askFreeze (d : Dev) (cause : Nat) (quilt : Bool) (desc : Option Nat) : Dev :=
  if !d.live then d
  else match d.frz.req with
    | some r => d.setFrz { d.frz with req := some { r with descs := r.descs ++ desc.toList } }
    | none =>
      d.setFrz { d.frz with req := some { at_ := d.tick + (if quilt then 6 else 2), quilt := quilt, cause := cause, late := 0, descs := desc.toList } }

/-- Whether freeze requests are obeyed (R678). -/
def Dev.frzEn (d : Dev) : Bool := d.isSet Reg.DBG_CFG.FRZ_EN 0

/-- R692: DBG_FREEZE. -/
def bodyDbgFreeze (id : Nat) (x : Desc) (d : Dev) : Dev :=
  if 2 ≤ x.byte 16 then d.fail id .badParam
  else if !d.frzEn then d.fail id .locked
  else d.askFreeze 3 (x.byte 16 == 1 || d.isSet Reg.DBG_CFG.QUILT_FRZ 0) (some id)

/-- R692. -/
def execDbgFreeze (q : Nat) (x : Desc) (s : State) : Host.Outcome State Fault Refusal :=
  s.onDev fun d => d.submit q x 0x1101 [(16, 1)] bodyDbgFreeze

/-- R678: FRZ_N is low. -/
def execFrzNLow (s : State) : Host.Outcome State Fault Refusal :=
  s.onDev fun d =>
    let d1 := d.setFrz { d.frz with frzNLow := true }
    if d1.frzEn then d1.askFreeze 1 (d1.isSet Reg.DBG_CFG.QUILT_FRZ 0) none else d1

/-- R690: the TAP instruction FREEZE_REQ. -/
def execFreezeReq (s : State) : Host.Outcome State Fault Refusal :=
  s.onDev fun d => if d.frzEn then d.askFreeze 4 (d.isSet Reg.DBG_CFG.QUILT_FRZ 0) none else d

/-- R680, R681: a FREEZE word naming F comes in at port `p`: passed on once, and obeyed; too late, the device stops at the second boundary. -/
def execFreeze (p f : Nat) (s : State) : Host.Outcome State Fault Refusal :=
  s.onDev fun d =>
    if !(d.live && p < 8 && d.portUp p) || f + 2 ^ 23 < d.tick || d.frz.lastF = some f then d
    else
      let d1 := (d.floodQuilt kFREEZE f (some p)).setFrz { d.frz with lastF := some f }
      if !d1.frzEn then d1
      else
        let late := f ≤ d1.tick + 1
        let at_ := if late then d1.tick + 2 else f
        let req : FreezeReq := { at_ := at_, quilt := true, cause := 2, late := if late then at_ - f else 0, descs := [] }
        match d1.frz.req with
        | none => d1.setFrz { d1.frz with req := some req }
        | some r => if at_ < r.at_ then d1.setFrz { d1.frz with req := some { req with descs := r.descs } } else d1

/-- What a boundary does for a quilt-wide request of this device: the FREEZE word five boundaries ahead of F (R680). -/
def Dev.freezeWord (d : Dev) : Dev :=
  match d.frz.req with
  | some r =>
    if r.quilt && r.cause != 2 && d.tick + 5 = r.at_ then (d.floodQuilt kFREEZE r.at_ none).setFrz { d.frz with lastF := some r.at_ } else d
  | none => d

/-- Whether the down frame of this boundary carries FREEZE (R679). -/
def Dev.freezeFrame (d : Dev) : Bool :=
  match d.frz.req with
  | some r => d.tick + 1 == r.at_
  | none => false

/-- Whether the clocks are about to stop at the present boundary. -/
def Dev.stopping (d : Dev) : Bool :=
  match d.frz.req with
  | some r => r.at_ ≤ d.tick
  | none => false

/-- R676, R677, R679: at boundary F the clocks stop. -/
def execFreezeStop (s : State) : Host.Outcome State Fault Refusal :=
  s.onDev fun d =>
    match d.frz.req with
    | none => d
    | some r =>
      if !d.live || !(r.at_ ≤ d.tick) then d
      else
        let d1 := ((d.loopStop d.tick 2).fitFreeze).busStop
        let d2 := ((((d1.put Reg.DBG_STAT.FROZEN 0 1).putBit Reg.DBG_STAT.QUILT 0 r.quilt).put Reg.DBG_STAT.WR_DISCARDED 0 0).put
          Reg.DBG_FREEZE_TICK.TICK 0 d.tick)
        d2.setFrz { d2.frz with req := none, cur := some { r with at_ := d.tick }, thawAsked := 0, posted := [], doorbells := [], discarded := 0 }

/-! ### Thaw requests (R686, R687) -/

/-- A thaw request of this device: 1 FRZ_N, 2 THAW write, 4 TAP. The originator of a quilt-wide freeze sends the THAW word once its FRZ_N is high; any
other device of that freeze waits for the word. -/
def Dev.askThaw (d : Dev) (cause : Nat) : Dev :=
  match d.frz.cur with
  | none => d
  | some r =>
    let d1 := if r.quilt && r.cause == 2 then d else d.setFrz { d.frz with thawAsked := cause }
    if r.quilt && r.cause != 2 && !d1.frz.frzNLow && d1.frz.lastThaw != some r.at_ then
      (d1.floodQuilt kTHAW r.at_ none).setFrz { d1.frz with lastThaw := some r.at_ }
    else d1

/-- R686: a write of 1 to DBG_RO_CTRL.THAW; DBG writes act at once in freeze too (R683). -/
def execDbgThaw (s : State) : Host.Outcome State Fault Refusal :=
  s.onDev fun d => if d.power.phase == .up then d.askThaw 2 else d

/-- R686: FRZ_N rises. -/
def execFrzNRise (s : State) : Host.Outcome State Fault Refusal :=
  s.onDev fun d => (d.setFrz { d.frz with frzNLow := false }).askThaw 1

/-- R690: the TAP instruction THAW_REQ. -/
def execThawReq (s : State) : Host.Outcome State Fault Refusal :=
  s.onDev fun d => d.askThaw 4

/-- R687: a THAW word naming F comes in at port `p`: passed on once; a device frozen with that F takes it as its thaw. -/
def execThaw (p f : Nat) (s : State) : Host.Outcome State Fault Refusal :=
  s.onDev fun d =>
    if !(d.power.phase == .up && p < 8 && d.portUp p) || d.frz.lastThaw = some f then d
    else
      let d1 := (d.floodQuilt kTHAW f (some p)).setFrz { d.frz with lastThaw := some f }
      match d1.frz.cur with
      | some r => if r.quilt && r.at_ = f then d1.setFrz { d1.frz with thawAsked := 3 } else d1
      | none => d1

/-! ### Read-out (R684, R685) -/

/-- A value that the model does not hold. -/
def Dev.freeRead (d : Dev) : Nat × Dev := (d.freeBits.toNat % 2 ^ 32, d.nextFree)

/-- Space 1: a loop lane (R684). Computations are whole steps of the model, so none is in progress. -/
def Dev.laneWord (d : Dev) (lane k : Nat) : Nat :=
  let ended := (List.range 512).filter fun l => (d.loop l).at_ == some d.tick && (d.loop l).lane == lane && !(d.loopBlock l).isEmpty
  match k with
  | 0 => 0xFFFF
  | 1 => (ended.map fun l => d.get Reg.LOOP_SLOT_CNT.COST l).foldl (· + ·) 0
  | 2 => ended.length
  | _ => 0

/-- Space 2: a port and class of the quilt switch (R684). -/
def Dev.switchWord (d : Dev) (p c : Nat) : Nat :=
  let queued := (d.quilt.queue.filter fun it => d.itemPort it == some p && it.st.cls == c).length
    + (d.quilt.tack.filter fun i => i.port == p && i.st.cls == c).length
  d.get Reg.PORT_CONS.TX_CREDITS (4 * p + c) + 2 ^ 8 * min 127 queued + 2 ^ 16 * ((d.port p).retry.filter fun st => st.cls == c).length

/-- The 32-bit value at a place of a read-out space (R684); what lies in the management core, and where a pattern step stands, the spec does not give. -/
def Dev.roValue (d : Dev) (space index : Nat) : Nat × Dev :=
  match space with
  | 0 => if index < 36 then d.freeRead else (0, d)
  | 1 => (if index < 16 then d.laneWord (index / 4) (index % 4) else 0, d)
  | 2 => (if index < 32 then d.switchWord (index / 4) (index % 4) else 0, d)
  | 3 => if index < 4 && d.pat.pub.isSome then d.freeRead else (0, d)
  | _ => (0, d)

/-- Whether read-out is denied (R685). -/
def Dev.roDenied (d : Dev) : Bool := d.get Reg.GLOBAL_SEAL.OWNER_STATE 0 = ownSealed && !d.isSet Reg.DBG_CFG.RO_OPEN 0

/-- A read-out under R685. -/
def Dev.readOut (d : Dev) (space index : Nat) : Nat × Dev :=
  if d.roDenied then (0, d.put Reg.DBG_STAT.RO_DENIED 0 1) else d.roValue space index

/-- R684, R685: a read of DBG_RO_DATA. -/
def execDbgRoDataRead (s : State) : Host.Outcome State Fault Refusal :=
  s.onDev fun d =>
    if !(d.power.phase == .up) then d
    else
      let i := d.get Reg.DBG_RO_SEL.INDEX 0
      let r := d.readOut (d.get Reg.DBG_RO_SEL.SPACE 0) i
      ((r.2.put Reg.DBG_RO_DATA.DATA 0 r.1).put Reg.DBG_RO_SEL.INDEX 0 (i + 1)).emit (.readData r.1 false)

/-! ### TAP and boundary scan (R690, R691) -/

/-- R690: RO_ACCESS: the register of 56 bits with the data. -/
def execRoAccess (space index : Nat) (s : State) : Host.Outcome State Fault Refusal :=
  s.onDev fun d =>
    let r := d.readOut (space % 8) (index % 2 ^ 16)
    r.2.emit (.tap (space % 8 + 2 ^ 8 * (index % 2 ^ 16) + 2 ^ 24 * r.1))

/-- R690: the IDCODE of the stepping. -/
def idcode : Stepping → Nat
  | .a0 => 0x051209C7 | .a1 => 0x151209C7 | .b0 => 0x251209C7

/-- R690. -/
def execIdcode (s : State) : Host.Outcome State Fault Refusal :=
  s.onDev fun d => d.emit (.tap (idcode d.part.stepping))

/-- R690: BYPASS: the one-bit register captures 0 (IEEE 1149.1). -/
def execBypass (s : State) : Host.Outcome State Fault Refusal :=
  s.onDev fun d => d.emit (.tap 0)

/-- R690: SAMPLE/PRELOAD: the lands sampled are shifted out while the chain is loaded. -/
def execSamplePreload (lands chain : List Bool) (s : State) : Host.Outcome State Fault Refusal :=
  s.onDev fun d => (d.setFrz { d.frz with chain := chain }).emit (.scanOut lands)

/-- R691: EXTEST drives the lands from the chain while RST_N is low; at any other time it acts as BYPASS. -/
def execExtest (s : State) : Host.Outcome State Fault Refusal :=
  s.onDev fun d =>
    if d.power.rstLow then d.emit (.scanDrive d.frz.chain) else (d.put Reg.DBG_STAT.EXTEST_REFUSED 0 1).emit (.tap 0)

end Sys2Proof.Machine
end

