-- ==== Sys2Proof/Machine/RegWrite.lean ====
section
/-! DEFINITION. Host writes to BAR0 by block, and to the shared memory through BAR4 (00_scope.md, 01_architecture.md). -/

namespace Sys2Proof.Machine
open Sys2Proof

/-! ### BAR0 (R15 to R17, R51, R52) -/

/-- A register written by the access types of its fields: single bits cleared by a 1 first, then the settable fields, all or none. -/
def Dev.writeGen (d : Dev) (off v : Nat) (ok : Nat → Bool) (reject : Dev → Dev) (after : Nat → Dev → Dev) : Dev :=
  match findReg off with
  | none => d
  | some (fs, i, _) =>
    let d1 := fs.foldl (fun (y : Dev) f => if f.ty = .w1c && bitAt v f.lo then y.put f i 0 else y) d
    if !fs.any (fun f => d1.writable f) then d1
    else if !(d1.inRange fs v && ok i) then reject d1
    else after i (d1.writeFlds fs i v)

/-- A register with nothing of its own. -/
def Dev.writePlain (d : Dev) (off v : Nat) (reject : Dev → Dev) : Dev := d.writeGen off v (fun _ => true) reject fun _ y => y

/-- GLOBAL and the supply registers (R57, R65, R69, R538). -/
def Dev.writeGlobal (d : Dev) (off v : Nat) : Dev :=
  if off = 0x0C then d.writeBlsel v
  else if off = 0x14 then d.writeSeal v
  else if off = 0x24 then d.writeMemerrClr v
  else if off = 0x120 then d.writePwrClr v
  else if off = 0x100 then (d.writePlain off v fun y => y.put Reg.PWR_STAT.WRITE_REJECTED 0 1).showEffective.warnIfLow d.warnLevel
  else d.writePlain off v fun y => if 0x100 ≤ off && off < 0x124 then y.put Reg.PWR_STAT.WRITE_REJECTED 0 1 else y

/-- BUS and T1L (R491, R511). -/
def Dev.writeBus (d : Dev) (off v : Nat) : Dev :=
  let n := (off - 0x8000) / 0x20
  if off < 0x8200 && off % 0x20 = 0 then d.writeBusCfg n v
  else d.writeGen off v (fun i => d.busWriteOk off i v) (fun y => y.busReject (if off < 0x8200 then n else 16)) fun i y => y.busWritten off i

/-- The RING whose registers lie at an offset of 0x11000 to 0x131FF: submission, completion, event and trace rings. -/
def ringAt (off : Nat) : Nat :=
  if off < 0x12000 then (off - 0x11000) / 0x20
  else if off < 0x13000 then ringCQ ((off - 0x12000) / 0x20)
  else if off < 0x13020 then ringEQ
  else ringTQ ((off - 0x13100) / 0x20)

/-- A ring's control register (R458, R470). -/
def Dev.writeRingCtrl (d : Dev) (r v : Nat) : Dev :=
  let d1 := if bitAt v 0 then d.ringEnable r else d.ringDisable r
  if r < 64 && bitAt v 1 && d1.ringEnabled r == bitAt v 0 then d1.fenceClear r else d1

/-- Whether a base or configuration write of a ring is taken (R458, R462): no change of base or size while it is enabled; remote, a base is a byte
offset below 0xC0_0000. -/
def Dev.ringWriteOk (d : Dev) (off r v : Nat) : Bool :=
  let reg := off % 0x20
  let now := (findReg off).map fun p => (p.1.map fun f => 2 ^ f.lo * d.get f p.2.1).foldl (· + ·) 0
  let size := if 129 ≤ r then 5 else 4
  let same := match now with
    | none => true
    | some w => if reg = 0x08 then bitsAt w 0 size == bitsAt v 0 size else if reg = 0x00 then w / 64 == v / 64 else w == v
  if reg = 0x00 then (same || !d.ringEnabled r) && !(d.remote && 0xC00000 ≤ v)
  else if reg = 0x04 then (same || !d.ringEnabled r) && !(d.remote && v != 0)
  else if reg = 0x08 then same || !d.ringEnabled r
  else true

/-- The MSI-X table: a vector unmasked with its pending bit set is signalled (R467; PRESUMED, log 13, as PCI Express lays it out). -/
def Dev.writeMsix (d : Dev) (off v : Nat) : Dev :=
  let i := (off - 0x18000) / 4
  let n := i / 4
  let d1 := d.put Reg.MSIX_TABLE.WORD i v
  if i % 4 = 3 && !bitAt v 0 && bitAt (d.get Reg.MSIX_PBA.BITS (n / 32)) (n % 32) then
    (d1.put Reg.MSIX_PBA.BITS (n / 32) (d.get Reg.MSIX_PBA.BITS (n / 32) - 2 ^ (n % 32))).emit (.msix n)
  else d1

/-- HOSTQ (R458, R480, R488). -/
def Dev.writeHostq (d : Dev) (off v : Nat) : Dev :=
  if off = 0x1000C then d.writeWdog v
  else if 0x18000 ≤ off && off < 0x18400 then d.writeMsix off v
  else if 0x11000 ≤ off && off < 0x13180 then
    let r := ringAt off
    if (findReg off).isNone then d
    else if off % 0x20 = 0x0C then d.writeRingCtrl r v
    else d.writeGen off v (fun _ => d.ringWriteOk off r v) Dev.hostqReject fun _ y => y
  else d.writePlain off v Dev.hostqReject

/-- QUILT and quilt time (R85, R411, R430, R451). -/
def Dev.writeQuilt (d : Dev) (off v : Nat) : Dev :=
  let p := (off - 0x20100) / 0x40
  if off = 0x20008 then d.writeQuiltCfg v
  else if 0x20100 ≤ off && off < 0x20300 && off % 0x40 = 0x14 then d.writePortEq p v
  else d.writeGen off v (fun _ => true) Dev.quiltReject fun i y =>
    if 0x20100 ≤ off && off < 0x20300 && off % 0x40 = 0 then (y.skipShort i).applyLos i else y

/-- Whether a sequence entry names a channel of its converter's own field die, or NULL (R107). -/
def Dev.measEntryOk (d : Dev) (i v : Nat) : Bool :=
  let h := bitsAt v 0 20
  isNull h || (!d.badName h && (classOf h == clsUI || classOf h == clsINTL) && dieOf (classOf h) (indexOf h) == convDie (i / 64))

/-- MEAS (R14, R99, R106, R107, R135 to R137). -/
def Dev.writeMeas (d : Dev) (off v : Nat) : Dev :=
  match findReg off with
  | none => d
  | some (fs, i, _) =>
    let n := (fs.map fun f => f.count).foldl max 1
    if n != 1 && !d.measHere n i then d
    else if off = Reg.UI_MODE.MODE.addr i then d.writeUiMode i v
    else if off = Reg.UI_GAIN_SH.S.addr i then d.writeUiGainSh i v
    else if off = Reg.CONV_CTRL.RUN.addr i then d.writeConvCtrl i v
    else d.writeGen off v (fun j => if off = Reg.ENTRY_A.CHANNEL.addr j then d.measEntryOk j v else if off = Reg.UI_GAIN.C.addr j then coefOk v else true) Dev.measReject fun _ y => y

/-- PANEL (R580, R583, R600, R608). -/
def Dev.writePanel (d : Dev) (off v : Nat) : Dev :=
  if off = Reg.PANEL_CFG.EN.addr 0 then d.writePanelCfg v
  else d.writeGen off v (fun i => d.panelWriteOk off i v) (fun y => y.put Reg.PANEL_STAT.WRITE_REJECTED 0 1) fun _ y => y

/-- KEYS (R609, R621, R625). -/
def Dev.writeKeys (d : Dev) (off v : Nat) : Dev :=
  if off = Reg.KEYS_IRQ.PENDING.addr 0 then d.writeKeysIrq v
  else d.writeGen off v (fun _ => keysWriteOk off v) (fun y => y.put Reg.KEYS_STAT.WRITE_REJECTED 0 1) fun _ y =>
    if off = Reg.KEYS_CFG.ROWS.addr 0 then y.keysCfgWritten else y

/-- NVM (R575). -/
def Dev.writeNvm (d : Dev) (off v : Nat) : Dev :=
  if off = 0xE0034 then d.writeNvmClr v else d.writePlain off v fun y => y.put Reg.NVM_STAT.WRITE_REJECTED 0 1

/-- The debug registers (R686, R693). -/
def Dev.writeDbg (d : Dev) (off v : Nat) : Dev :=
  if off = 0xF2010 then (if bitAt v 0 then d.askThaw 2 else d)
  else d.writePlain off v fun y => y

/-- FITSEC (R641, R653). -/
def Dev.writeFitsec (d : Dev) (off v : Nat) : Dev :=
  if off = 0xF1020 then d.writeFwRec v
  else if 0xF2000 ≤ off then d.writeDbg off v
  else d.writeGen off v (fun _ => fitWriteOk off v) (fun y => y.put Reg.FIT_STAT.WRITE_REJECTED 0 1) fun _ y => y

/-- One aligned 32-bit write to BAR0, acting now. -/
def Dev.writeReg (d : Dev) (off v : Nat) : Dev :=
  match off / 0x10000 with
  | 0x0 => if off < 0x8000 then d.writeGlobal off v else d.writeBus off v
  | 0x1 => d.writeHostq off v
  | 0x2 => d.writeQuilt off v
  | 0x5 => d.writeMeas off v
  | 0x6 => if off = 0x60008 then d.writeLoopCtrl v else d
  | 0x7 => if off = 0x70008 then d.writePatCtrl v else d
  | 0xC => d.writePanel off v
  | 0xD => d.writeKeys off v
  | 0xE => d.writeNvm off v
  | 0xF => d.writeFitsec off v
  | _ => if 0x30000 ≤ off && off < 0xC0000 then d.writeField off v else d

/-- A write of `size` bytes: 64 bits are two writes, the lower address first; narrower or unaligned ones are ignored (R52). -/
def Dev.writeSized (d : Dev) (off size v : Nat) : Dev :=
  if size = 4 && off % 4 = 0 then d.writeReg off (v % 2 ^ 32)
  else if size = 8 && off % 8 = 0 then (d.writeReg off (v % 2 ^ 32)).writeReg (off + 4) (v / 2 ^ 32 % 2 ^ 32)
  else d

/-- R15, R52, R484, R653, R683: a host write to BAR0: it acts, or waits for thaw while frozen; the debug registers act in freeze too, and in
firmware recovery FW_REC_CTRL alone. -/
def execRegisterWrite (off size v : Nat) (s : State) : Host.Outcome State Fault Refusal :=
  s.onDev fun d =>
    match d.power.phase with
    | .up =>
      if !d.frozen || (0xF2000 ≤ off && off < 0xF3000) then d.writeSized off size v
      else d.postHost (.reg off size v)
    | .recovery => if size = 4 && off = 0xF1020 then d.writeFwRec (v % 2 ^ 32) else d
    | _ => d

/-- R575: the error counts of the banks cleared. -/
def execClrErr (s : State) : Host.Outcome State Fault Refusal :=
  s.onDev fun d => d.hostReg 0xE0034 1 fun x => x.writeNvmClr 1

/-! ### BAR4 (R34, R53, R255, R297, R560, R585, R588) -/

/-- Whether word `w` lies among the `n` words that begin `skip` words into the region at `base`, once that is placed. -/
def inRegion (base skip n w : Nat) : Bool := base != 0 && base + skip ≤ w && w < base + skip + n

/-- Whether host writes reach word `w`. -/
def Dev.hostWord (d : Dev) (w : Nat) : Bool :=
  w < memWords
    && !inRegion (d.get Reg.PAT_REGION.BASE 0) 0 19458 w
    && !inRegion (d.get Reg.LOOP_REGION.BASE 0) 0 4096 w
    && !inRegion (d.get Reg.CHALK_REGION.BASE 0) 0 163840 w
    && !inRegion (d.get Reg.NVM_SAVE.BASE 0) 0 1024 w
    && !inRegion (d.get Reg.PANEL_FB.BASE 0) 30000 30000 w
    && !inRegion (d.get Reg.PANEL_WF.BASE 0) 0 65536 w

/-- Bytes written through BAR4, word by word. -/
def Dev.bar4Put (d : Dev) (off : Nat) (bs : List Nat) : Dev :=
  if bs.isEmpty then d
  else
    let first := off / 32
    let one := fun (y : Dev) (j : Nat) =>
      let w := first + j
      let a := max off (32 * w)
      let part := (bs.drop (a - off)).take (32 * w + 32 - a)
      if y.hostWord w then y.memWrite a part 5 else y
    (List.range ((off + bs.length - 1) / 32 + 1 - first)).foldl one d

/-- R34, R53, R484: a host write through BAR4; `upsets` are wrong bits that the touched words have gained. -/
def execBar4Write (off : Nat) (bytes : List Nat) (upsets : List (Nat × Nat)) (s : State) : Host.Outcome State Fault Refusal :=
  s.onDev fun d =>
    if !d.hostOpen || bytes.isEmpty || 2 ^ 24 < off + bytes.length then d
    else if d.frozen then (d.upset upsets).postHost (.mem off bytes)
    else (d.upset upsets).bar4Put off bytes

end Sys2Proof.Machine
end

