-- ==== Sys2Proof/Machine/Descriptors.lean ====
section
/-! DEFINITION. Descriptors that start in their turn, and the checks of staged blocks and images (12_host_rings.md). -/

namespace Sys2Proof.Machine
open Sys2Proof

/-- A row of the opcode index: the opcode, the bytes its table names, and what it does once the checks of R464 have passed. -/
abbrev OpRow := Nat × List (Nat × Nat) × (Nat → Desc → Dev → Dev)

/-- The opcodes of GLOBAL. -/
def opsGlobal : List OpRow :=
  [ (0x0101, [], bodyNop) ]

/-- The opcodes of MEAS. -/
def opsMeas : List OpRow :=
  [ (0x0201, [(16, 1)], bodyMeasCal)
  , (0x0202, [(16, 8)], bodyMeasUrgent)
  , (0x0203, [(16, 6)], bodyMeasAbort)
  , (0x0204, [(12, 20), (32, 32)], bodyMeasCapture) ]

/-- The opcodes of DIO and barrier. -/
def opsDio : List OpRow :=
  [ (0x0301, [(16, 9)], bodyDioForce)
  , (0x0302, [(16, 4)], bodyDoClear)
  , (0x0303, [(16, 1)], bodyDarkTestNow)
  , (0x0304, [(16, 1)], bodyFieldResume) ]

/-- The opcodes of POS. -/
def opsPos : List OpRow :=
  [ (0x0401, [(16, 9)], bodyPosPreset)
  , (0x0402, [(16, 5)], bodyPosCheck)
  , (0x0403, [(16, 9)], bodyEmuForce)
  , (0x0404, [(16, 6)], bodyPosAbort) ]

/-- The opcodes of PATTERN. -/
def opsPattern : List OpRow :=
  [ (0x0501, [(16, 17)], bodyPatLoad)
  , (0x0502, [(16, 2), (20, 44)], bodyPatPredict)
  , (0x0503, [(16, 6)], bodyPatAbort)
  , (0x0504, [(16, 1)], bodyPatReset) ]

/-- The opcodes of LOOP. -/
def opsLoop : List OpRow :=
  [ (0x0601, [(16, 9)], bodyLoopSet)
  , (0x0602, [(16, 4)], bodyLoopRemove)
  , (0x0603, [(16, 6)], bodyLoopMode)
  , (0x0604, [(16, 5)], bodyLoopHold)
  , (0x0605, [(16, 4)], bodyLoopClear)
  , (0x0606, [(16, 27), (44, 20)], bodyChalkArm)
  , (0x0607, [(16, 1)], bodyChalkTrigger)
  , (0x0608, [(16, 1)], bodyChalkStop)
  , (0x0609, [(16, 6)], bodyLoopAbort) ]

/-- The opcodes of SCHED. -/
def opsSched : List OpRow :=
  [ (0x0701, [(16, 8)], bodySchedSet 1 clsSCHED)
  , (0x0702, [(16, 8)], bodySchedSet 2 clsZONE)
  , (0x0703, [(16, 8)], bodyZoneOverride)
  , (0x0710, [(16, 18)], bodyCivilSet)
  , (0x0711, [(16, 8)], bodyDstLoad) ]

/-- The opcodes of SHUTTLE. -/
def opsShuttle : List OpRow :=
  [ (0x0801, [(16, 12)], bodyShuttleLoad)
  , (0x0802, [(16, 5), (24, 4)], bodySolShot)
  , (0x0803, [(16, 6)], bodySolForce)
  , (0x0804, [(16, 4)], bodySolClear)
  , (0x0805, [(16, 6)], bodyShuttleAbort) ]

/-- The opcodes of FANAO and FLOAT. -/
def opsFanao : List OpRow :=
  [ (0x0901, [(16, 9)], bodyFanaoForce)
  , (0x0902, [(16, 4)], bodyFanClear) ]

/-- The opcodes of QUILT. -/
def opsQuilt : List OpRow :=
  [ (0x0A01, [(16, 1), (20, 4), (24, 4), (28, 24), (52, 6)], bodyFlowOpen)
  , (0x0A02, [(16, 2), (18, 2)], bodyFlowClose)
  , (0x0A03, [(16, 4)], bodyRouteLoad)
  , (0x0A04, [(16, 1)], bodyPortRetrain)
  , (0x0A05, [(16, 1), (17, 1)], bodyQuiltAudit)
  , (0x0A06, [(16, 2), (18, 1), (20, 4)], bodyRringDoorbell)
  , (0x0A07, [(16, 4), (20, 2)], fun id x d => d.abortDesc id (x.u16 20) (x.u32 16) [0x0A01, 0x0A03] settleQuilt) ]

/-- The opcodes of BUS; `data` is what a send buffer holds. -/
def opsBus (data : List Nat) : List OpRow :=
  [ (0x0B01, [(16, 4), (20, 1), (21, 1), (22, 1), (24, 8), (32, 2), (40, 8), (48, 2)], bodyBusSend data)
  , (0x0B02, [(16, 4), (24, 8), (32, 2)], bodyBusRecv)
  , (0x0B03, [(16, 4), (20, 4), (24, 1)], bodyBusPollSet)
  , (0x0B04, [(16, 4), (20, 2)], fun id x d => d.abortDesc id (x.u16 20) (x.u32 16) [0x0B01, 0x0B02] settleBus) ]

/-- The opcodes of NVM; `data` is what the import buffer holds, `ups` are wrong bits that reads find. -/
def opsNvm (data : List Nat) (ups : List (Nat × Nat × Nat)) : List OpRow :=
  [ (0x0C01, [(16, 6), (24, 4)], bodyNvmRead ups)
  , (0x0C02, [(16, 6), (24, 4)], bodyNvmWrite)
  , (0x0C03, [(16, 2), (24, 8)], bodyNvmUnlock)
  , (0x0C04, [(16, 2)], bodyNvmLock)
  , (0x0C05, [(16, 2), (24, 8)], bodyNvmSetpw)
  , (0x0C06, [], bodyNvmSync)
  , (0x0C07, [(16, 4)], bodyRecConfirm)
  , (0x0C08, [(16, 5), (24, 24)], bodyRecWrite)
  , (0x0C09, [(16, 8)], bodyRecRead ups)
  , (0x0C0A, [(16, 1), (24, 12)], bodyNvmExport)
  , (0x0C0B, [(16, 1), (24, 12)], bodyNvmImport data)
  , (0x0C0C, [(16, 6)], bodyNvmAbort) ]

/-- The opcodes of PANEL. -/
def opsPanel : List OpRow :=
  [ (0x0D01, [(16, 9)], bodyPanelUpdate)
  , (0x0D02, [(16, 8)], bodyPanelWfload)
  , (0x0D03, [(16, 4)], bodyPanelCrcCheck)
  , (0x0D04, [(16, 6)], bodyPanelAbort) ]

/-- The opcodes of KEYS. -/
def opsKeys : List OpRow :=
  [ (0x0E01, [(16, 1)], bodyKeyLock) ]

/-- The opcodes of FITTING. -/
def opsFitting : List OpRow :=
  [ (0x0F01, [], bodyFitRun)
  , (0x0F02, [(16, 8)], bodyFitLogRead)
  , (0x0F03, [(16, 2)], bodyFitBaseline)
  , (0x0F04, [(16, 6)], bodyFitAbort) ]

/-- The opcodes of SECURITY. -/
def opsSecurity : List OpRow :=
  [ (0x1001, [(16, 8)], bodyOwnerHandover)
  , (0x1002, [(16, 8)], bodyConfigManifest)
  , (0x1003, [(16, 8)], bodyFwUpdate)
  , (0x1004, [(16, 36)], bodyAttest)
  , (0x1005, [(16, 6)], bodySecAbort) ]

/-- The opcodes of DEBUG. -/
def opsDebug : List OpRow :=
  [ (0x1101, [(16, 1)], bodyDbgFreeze) ]

/-- The opcode index (R464 check 1). -/
def opIndex (data : List Nat) (ups : List (Nat × Nat × Nat)) : List OpRow :=
  opsGlobal ++ opsMeas ++ opsDio ++ opsPos ++ opsPattern ++ opsLoop ++ opsSched ++ opsShuttle
    ++ opsFanao ++ opsQuilt ++ opsBus data ++ opsNvm data ups ++ opsPanel ++ opsKeys ++ opsFitting ++ opsSecurity ++ opsDebug

/-- A fetched descriptor acts: an opcode that the index lacks ends it BAD_PARAM, else the further checks follow (R464). -/
def Dev.startDesc (d : Dev) (id : Nat) (x : Desc) (data : List Nat) (ups : List (Nat × Nat × Nat)) : Dev :=
  match (opIndex data ups).find? fun e => e.1 == x.u16 0 with
  | none => d.fail id .badParam
  | some e => d.actDesc id x e.2.1 e.2.2

/-- R464, R468, R470: the earliest fetched descriptor of ring `q` starts, unless a FENCE before it holds it. -/
def execDescriptorStart (q : Nat) (data : List Nat) (ups : List (Nat × Nat × Nat)) (s : State) : Host.Outcome State Fault Refusal :=
  s.onDev fun d =>
    match d.recs.find? fun r => r.ring == q && r.phase == .fetched with
    | none => d
    | some r => if !d.live || d.mustWait q r.id || 32 ≤ d.inflight q || 512 ≤ d.inflightAll then d else d.startDesc r.id r.d data ups

/-- The check of a PAT_LOAD ends; tables that pass are written to the other model slot (R257). -/
def Dev.patLoadChecked (d : Dev) (id : Nat) (x : Desc) : Dev :=
  match d.pat.load with
  | none => d
  | some l =>
    if l.id != id || l.stage != 0 then d
    else
      let d1 := d.patChecked x
      match d1.pat.load with
      | some m => if m.stage = 1 then d1.askWrite (.model id) (slotAddr (1 - d1.pat.slot)) m.bytes else d1
      | none => d1

/-- R307 and its like (R257, R314, R365, R420, R508, R567, R590, R646): the check of what operation `id` staged ends. -/
def execStagedCheckDone (id : Nat) (s : State) : Host.Outcome State Fault Refusal :=
  s.onDev fun d =>
    match d.rec? id with
    | none => d
    | some r =>
      if !d.live || !d.isRunning id then d
      else match r.d.u16 0 with
        | 0x0501 => d.patLoadChecked id r.d
        | 0x0601 => d.loopChecked id r.d
        | 0x0701 => d.schedChecked id r.d
        | 0x0702 => d.schedChecked id r.d
        | 0x0801 => d.shuttleChecked id r.d
        | 0x0A03 => d.routeChecked id r.d
        | 0x0B03 => d.pollChecked id r.d
        | 0x0C0B => d.importChecked id r.d
        | 0x0D02 => d.wfloadChecked id r.d
        | 0x1001 => d.secChecked id r.d
        | 0x1002 => d.secChecked id r.d
        | 0x1003 => d.secChecked id r.d
        | _ => d

end Sys2Proof.Machine
end

