-- ==== Sys2Proof/Machine/Thaw.lean ====
section
/-! DEFINITION. Thaw: what a device does when its clocks restart (21_freeze_debug.md, 12_host_rings.md). -/

namespace Sys2Proof.Machine
open Sys2Proof

/-- A host write that waited, applied (R484). -/
def Dev.applyPosted (d : Dev) (p : Posted) : Dev :=
  match p with
  | .reg off size v => d.writeSized off size v
  | .mem off bytes => d.bar4Put off bytes
  | .pcie cause link => d.pcieDown cause link
  | .link speed width => d.pcieUp speed width

/-- FREEZE_LATE and FREEZE_END (R689). -/
def Dev.freezeEvents (d : Dev) (r : FreezeReq) (asked gone ms : Nat) : Dev :=
  let d1 := if 0 < r.late then d.raise 0x1102 d.nullName (leBytes 4 r.late) else d
  d1.raise 0x1101 d1.nullName ([r.cause, asked] ++ leBytes 2 (min 0xFFFF gone) ++ leBytes 8 r.at_ ++ leBytes 4 ms)

/-- A seam port of a device that was frozen alone retrains (R411, R686). -/
def Dev.retrainThaw (d : Dev) (p : Nat) : Dev :=
  let st := d.portState p
  if st = pDISABLED then d
  else (if st = pUP || st = pAUDIT then d.leaveUp p pTRAINING 1 else d).enterTraining p

/-- What resumes with the clocks: keys, buses, and, unless a warning is in force, loops, fetching and page writes (R293, R505, R622, R674). -/
def Dev.thawResume (d : Dev) : Dev :=
  let d1 := d.keysThaw.busThaw
  if d1.dip then d1.dipActs
  else
    let d2 := (d1.loopBack (d1.tick + 1)).showFrontlight.kickWrites
    if d2.isSet Reg.HOSTQ_STAT.FETCH_PAUSED 0 then d2 else d2.remoteFetchAll

/-- The clocks restart: the waiting writes in their order, then the doorbells by rising offset (R484, R686 to R689, R692). -/
def Dev.thaw (d : Dev) (r : FreezeReq) (ms : Nat) (master : Option Nat) : Dev :=
  let f := d.frz
  let d1 := ((d.put Reg.DBG_STAT.FROZEN 0 0).put Reg.DBG_STAT.QUILT 0 0).put Reg.DBG_STAT.WR_DISCARDED 0 (min 0xFFFF f.discarded)
  let d2 := (d1.setFrz { f with cur := none, thawAsked := 0, posted := [], doorbells := [], discarded := 0, master := master }).freezeEvents r
    f.thawAsked f.discarded ms
  let d3 := f.posted.foldl (fun (y : Dev) p => y.applyPosted p) d2
  let d4 := f.doorbells.foldl (fun (y : Dev) e => y.bell e.1 (e.2 - 1)) d3
  (r.descs.foldl (fun (y : Dev) id => y.done id r.at_) d4).thawResume

/-- Note 6 of R673: a master that was frozen alone does not claim mastership again: the device that was elected is its master. A follower whose master
has changed follows the new one. -/
def Dev.thawMaster (d : Dev) (dev : Nat) : Dev :=
  let prev := d.get Reg.QUILT_TIME_STAT.MASTER_DEV 0
  if !d.isSet Reg.QUILT_TIME_STAT.MASTER_VALID 0 || dev = prev then d
  else
    let d1 := (d.put Reg.QUILT_TIME_STAT.IS_MASTER 0 0).put Reg.QUILT_TIME_STAT.MASTER_DEV 0 (dev % 2 ^ 10)
    (Dev.followHops { d1 with quilt := { d1.quilt with markerAt := d1.tick } }).raise 0x0A40 d1.nullName (leBytes 2 (dev % 2 ^ 10) ++ leBytes 2 prev)

/-- R686: a device frozen alone restarts at a tick edge; a follower takes its master's count at the first boundary. `ms` is the frozen time, `master` the
master's count and its device number, where the quilt has a master. -/
def execThawRestart (ms : Nat) (master : Option (Nat × Nat)) (s : State) : Host.Outcome State Fault Refusal :=
  s.onDev fun d =>
    match d.frz.cur with
    | none => d
    | some r =>
      if r.quilt || d.frz.frzNLow || d.frz.thawAsked = 0 then d
      else
        let d0 := match master with
          | some m => d.thawMaster m.2
          | none => d
        let d1 := d0.thaw r ms (if d0.isSet Reg.QUILT_TIME_STAT.IS_MASTER 0 || !d0.isSet Reg.QUILT_TIME_STAT.MASTER_VALID 0 then none else master.map fun m => m.1)
        (List.range 8).foldl (fun (y : Dev) p => y.retrainThaw p) d1

/-- R687: the restart of a quilt-wide freeze; a device whose FRZ_N is still low stays frozen and thaws alone later. -/
def execQuiltThawRestart (ms : Nat) (s : State) : Host.Outcome State Fault Refusal :=
  s.onDev fun d =>
    match d.frz.cur with
    | none => d
    | some r =>
      if !r.quilt || d.frz.thawAsked = 0 || d.frz.lastThaw != some r.at_ then d
      else if d.frz.frzNLow then d.setFrz { d.frz with cur := some { r with quilt := false }, thawAsked := 0 }
      else d.thaw r ms none

end Sys2Proof.Machine
end

