-- ==== Sys2Proof/Machine/Tick.lean ====
section
/-! DEFINITION. The tick boundary of the core die (01_architecture.md, 02_tick_clocks_time.md). -/

namespace Sys2Proof.Machine
open Sys2Proof

/-- One routed word: read by routing (R33), delivered, and a LOOP word shown (R47, R313). -/
def Dev.routeWord (d : Dev) (p : Produced) : Dev :=
  let k := waitKey p.name p.qty
  let d0 := d.touchHeld k 8
  let d1 := { d0 with heldErr := Map.set d0.heldErr k 0 0 }.deliver p.name p.qty (d.heldWord (Map.get d.heldErr k 0) p.word)
  if d.isLocal p.name && classOf p.name = clsLOOP && p.qty = 0 then
    d1.put Reg.LOOP_OUT.VALUE (indexOf p.name) ((d1.value? p.name p.qty).getD p.word).bits
  else d1

/-- The words that wait are routed; the names routed (R47). -/
def Dev.route (d : Dev) : List Nat × Dev :=
  (d.produced.map fun p => p.name, d.produced.foldl (fun (y : Dev) p => y.routeWord p) { d with produced := [] })

/-- The measurement's and the pattern engine's moments moved with the count: ages of slots (R136), captures that wait for a shot, a step and a prediction
under way, engine cycles already taken. -/
def Dev.moveEngines (d : Dev) (move : Nat → Nat) (by_ : Int) : Dev :=
  let pub := d.pat.pub.map fun p => { p with due := move p.due, predDue := move p.predDue }
  { d with
    meas := { d.meas with slotSeen := d.meas.slotSeen.map fun e => (e.1, e.2.map fun t => t + by_)
                          caps := d.meas.caps.map fun o => { o with armed := move o.armed } }
    pat := { d.pat with pub := pub, predicting := d.pat.predicting.map fun p => (p.1, move p.2)
                        freeAt := (d.pat.freeAt + 6000 * by_).toNat }
    shut := { d.shut with loads := d.shut.loads.map fun o => { o with since := move o.since } } }

/-- The quilt's moments moved with the count: port states, exchanges, equalisers, and every wait. -/
def Dev.moveQuilt (d : Dev) (move : Nat → Nat) : Dev :=
  let item := fun (it : QItem) => { it with since := move it.since }
  let port := fun (x : PortSt) => { x with since := move x.since, eqAt := move x.eqAt, exchAt := x.exchAt.map move }
  let flow := fun (r : FlowRec) => { r with since := if r.held.isEmpty then 0 else move r.since }
  let q := d.quilt
  { d with quilt :=
     { q with ports := q.ports.map fun e => (e.1, e.2.map port), queue := q.queue.map item, tokWait := q.tokWait.map item
              flows := q.flows.map fun e => (e.1, e.2.map flow), ops := q.ops.map fun o => { o with askedAt := move o.askedAt }
              retrains := q.retrains.map fun r => (r.1, r.2.1, move r.2.2), markerAt := move q.markerAt
              lostAt := (q.lostAt.map fun e => (e.1, move e.2)).filter fun e => e.2 != 0
              tokUsed := (q.tokUsed.map fun e => (e.1, move e.2)).filter fun e => e.2 != 0, fetchAt := move q.fetchAt } }

/-- The bus ports' moments moved with the count. -/
def Dev.moveBuses (d : Dev) (move : Nat → Nat) : Dev :=
  let port := fun (x : BusSt) =>
    { x with at_ := move x.at_, replyAt := move x.replyAt, starts := x.starts.map fun e => (e.1, if e.2 = 0 then 0 else move (e.2 - 1) + 1) }
  { d with buses := d.buses.map fun e => (e.1, e.2.map port) }

/-- The other moments moved with the count: the watchdog and the host-lost time, keys, absence in zones, a warning, the scrubber, lockouts
and spin-ups of fans. -/
def Dev.moveRest (d : Dev) (move : Nat → Nat) : Dev :=
  let one := fun (t : Nat) => if t = 0 then 0 else move (t - 1) + 1
  { d with
    limits := d.limits.map fun e => (e.1, e.2.map fun l => { l with since := move l.since }), irqAt := (d.irqAt.map fun e => (e.1, move e.2)).filter fun e => e.2 != 0
    hostSince := move d.hostSince, lostSince := move d.lostSince, scrubAt := one d.scrubAt
    keys := { d.keys with changedAt := move d.keys.changedAt, stepAt := move d.keys.stepAt, scanAt := one d.keys.scanAt, heldAt := move d.keys.heldAt
                          encs := d.keys.encs.map fun e => (e.1, { e.2 with toldAt := one e.2.toldAt }) }
    sched := { d.sched with zones := d.sched.zones.map fun e => (e.1, { e.2 with absentAt := e.2.absentAt.map move }) }
    power := { d.power with warnStart := move d.power.warnStart, resumeTimer := d.power.resumeTimer.map move, rstAt := d.power.rstAt.map move
                            voutAt := one d.power.voutAt, readAt := one d.power.readAt, statusAt := one d.power.statusAt }
    nvm := { d.nvm with locked := d.nvm.locked.map fun e => (e.1, one e.2), refreshAt := move d.nvm.refreshAt
                        writes := d.nvm.writes.map fun w => { w with waitAt := one w.waitAt } }
    panel := { d.panel with railAt := move d.panel.railAt, idleAt := move d.panel.idleAt, flAt := move d.panel.flAt
                            load := d.panel.load.map fun l => { l with since := move l.since } }
    fit := { d.fit with stepAt := move d.fit.stepAt, windowAt := move d.fit.windowAt, rerunAt := move d.fit.rerunAt, pathAt := one d.fit.pathAt
                        spins := d.fit.spins.map fun e => (e.1, { e.2 with since := e.2.since.map move }) } }

/-- R87: after a thaw a follower takes its master's count once; the starts of pattern steps that the step passes are missed (R245, R688); times since a
moment before go on as they stood (log 194). -/
def Dev.timeStep (d : Dev) : Dev :=
  match d.frz.master with
  | none => d
  | some m =>
    let d1 := { d with frz := { d.frz with master := none } }
    if m = d.tick then d1
    else
      let move := fun (t : Nat) => t + m - d.tick
      let by_ := (m : Int) - (d.tick : Int)
      let d2 := ((((d1.patPassed d.tick m).moveEngines move by_).moveQuilt move).moveBuses move).moveRest move
      Dev.raise { d2 with tick := m } 0x0A43 d1.nullName (leBytes 8 (bitsOf 64 by_))

/-- The counters of the working save set that count seconds (R560): operating seconds, and those of fans that turn. -/
def Dev.countSeconds (d : Dev) : Dev :=
  if d.tick % 100000 != 0 then d
  else
    let d1 := d.saveCount 0x400 8
    (List.range 32).foldl (fun (y : Dev) f =>
      let s := y.get Reg.FAN_STAT.STATE f
      if s = 1 || s = 2 || s = 5 then y.saveCount (0x590 + 4 * f) else y) d1

/-- Step 14 of the start: the start clear has ended (R527). -/
def Dev.startStep14 (d : Dev) : Dev :=
  if d.get Reg.PWR_STAT.START_STEP 0 = 13 && d.isSet Reg.PANEL_STAT.CLEAR_DONE 0 then d.put Reg.PWR_STAT.START_STEP 0 14 else d

/-- Both down frames start (R47, R140). -/
def Dev.sendFrames (d : Dev) : Dev :=
  let f := d.freezeFrame
  let d1 := { d with frameSeq := (d.frameSeq + 1) % 256 }
  (d1.sendDown 0 f).sendDown 1 f

/-- A boundary while the core die runs. -/
def Dev.coreBoundary (d : Dev) (vl24 vhold : Nat) : Dev :=
  let d1 := (d.timeStep.putVolts vl24 vhold)
  let d2 := if d1.dip then (d1.noteMin vl24).followResume vl24 else d1
  let d3 := if d2.power.stopDue then d2.stopEngines else d2
  let d4 := if d3.power.resumeDue then d3.resumeControl else d3
  let r := d4.route
  let d5 := ((r.2.upTick 0).upTick 1).shuttleTick
  let d6 := ((d5.quiltTick r.1).pollTick).secTick
  let d7 := if d6.pat.flowsDue then Dev.patFlows { d6 with pat := { d6.pat with flowsDue := false } } else d6
  (d7.freezeWord.sendFrames.countSeconds.startStep14).nvmTick

/-- The first boundary after the retained state is restored: steps 7 to 13 (R527), a warning at once where VL24 is below its level. -/
def Dev.firstBoundary (d : Dev) (vl24 vhold : Nat) : Dev :=
  let low := vl24 < d.warnLevel
  let d1 := (d.putVolts vl24 vhold).startControl low
  let d2 := if low then d1.enterWarning vl24 vhold true else d1
  d2.startOutside.sendFrames

/-- R47, R78: the count advances; words are routed, what acts at a boundary acts, the down frames start. At boundary F of a freeze only the
count advances (R677). -/
def execTickBoundary (vl24 vhold : Nat) (s : State) : Host.Outcome State Fault Refusal :=
  s.onDev fun d =>
    if d.power.phase == .restored then Dev.firstBoundary { d with tick := d.tick + 1 } vl24 vhold
    else if !d.live || d.stopping then d
    else
      let d1 := { d with tick := d.tick + 1 }
      if d1.stopping then d1
      else
        let d2 := d1.coreBoundary vl24 vhold
        if d2.nvm.restart then
          let d3 := ((d2.latchReset 4).coreReset false).setPfw true
          Dev.startStep4 { d3 with nvm := { d3.nvm with restart := false } }
        else d2

end Sys2Proof.Machine
end

