-- ==== Sys2Proof/Machine/Dispatch.lean ====
section
/-! DEFINITION. exec: for each command its meaning. -/

namespace Sys2Proof.Machine
open Sys2Proof

/-- The effect of one command on everything but the queue. -/
def exec (i : Instr) (s : State) : Host.Outcome State Fault Refusal :=
  match i with
  | .nop q d => Sys2Proof.Machine.execNop q d s
  | .measCal q d => Sys2Proof.Machine.execMeasCal q d s
  | .measUrgent q d => Sys2Proof.Machine.execMeasUrgent q d s
  | .measAbort q d => Sys2Proof.Machine.execMeasAbort q d s
  | .measCapture q d => Sys2Proof.Machine.execMeasCapture q d s
  | .dioForce q d => Sys2Proof.Machine.execDioForce q d s
  | .doClear q d => Sys2Proof.Machine.execDoClear q d s
  | .darkTestNow q d => Sys2Proof.Machine.execDarkTestNow q d s
  | .fieldResume q d => Sys2Proof.Machine.execFieldResume q d s
  | .posPreset q d => Sys2Proof.Machine.execPosPreset q d s
  | .posCheck q d => Sys2Proof.Machine.execPosCheck q d s
  | .emuForce q d => Sys2Proof.Machine.execEmuForce q d s
  | .posAbort q d => Sys2Proof.Machine.execPosAbort q d s
  | .patLoad q d => Sys2Proof.Machine.execPatLoad q d s
  | .patPredict q d => Sys2Proof.Machine.execPatPredict q d s
  | .patAbort q d => Sys2Proof.Machine.execPatAbort q d s
  | .patReset q d => Sys2Proof.Machine.execPatReset q d s
  | .loopSet q d => Sys2Proof.Machine.execLoopSet q d s
  | .loopRemove q d => Sys2Proof.Machine.execLoopRemove q d s
  | .loopMode q d => Sys2Proof.Machine.execLoopMode q d s
  | .loopHold q d => Sys2Proof.Machine.execLoopHold q d s
  | .loopClear q d => Sys2Proof.Machine.execLoopClear q d s
  | .chalkArm q d => Sys2Proof.Machine.execChalkArm q d s
  | .chalkTrigger q d => Sys2Proof.Machine.execChalkTrigger q d s
  | .chalkStop q d => Sys2Proof.Machine.execChalkStop q d s
  | .loopAbort q d => Sys2Proof.Machine.execLoopAbort q d s
  | .schedSet q d => Sys2Proof.Machine.execSchedSet q d s
  | .zoneSet q d => Sys2Proof.Machine.execZoneSet q d s
  | .zoneOverride q d => Sys2Proof.Machine.execZoneOverride q d s
  | .civilSet q d => Sys2Proof.Machine.execCivilSet q d s
  | .dstLoad q d => Sys2Proof.Machine.execDstLoad q d s
  | .shuttleLoad q d => Sys2Proof.Machine.execShuttleLoad q d s
  | .solShot q d => Sys2Proof.Machine.execSolShot q d s
  | .solForce q d => Sys2Proof.Machine.execSolForce q d s
  | .solClear q d => Sys2Proof.Machine.execSolClear q d s
  | .shuttleAbort q d => Sys2Proof.Machine.execShuttleAbort q d s
  | .fanaoForce q d => Sys2Proof.Machine.execFanaoForce q d s
  | .fanClear q d => Sys2Proof.Machine.execFanClear q d s
  | .flowOpen q d => Sys2Proof.Machine.execFlowOpen q d s
  | .flowClose q d => Sys2Proof.Machine.execFlowClose q d s
  | .routeLoad q d => Sys2Proof.Machine.execRouteLoad q d s
  | .portRetrain q d => Sys2Proof.Machine.execPortRetrain q d s
  | .quiltAudit q d => Sys2Proof.Machine.execQuiltAudit q d s
  | .rringDoorbell q d => Sys2Proof.Machine.execRringDoorbell q d s
  | .quiltAbort q d => Sys2Proof.Machine.execQuiltAbort q d s
  | .busSend q d data => Sys2Proof.Machine.execBusSend q d data s
  | .busRecv q d => Sys2Proof.Machine.execBusRecv q d s
  | .busPollSet q d => Sys2Proof.Machine.execBusPollSet q d s
  | .busAbort q d => Sys2Proof.Machine.execBusAbort q d s
  | .nvmRead q d ups => Sys2Proof.Machine.execNvmRead q d ups s
  | .nvmWrite q d => Sys2Proof.Machine.execNvmWrite q d s
  | .nvmUnlock q d => Sys2Proof.Machine.execNvmUnlock q d s
  | .nvmLock q d => Sys2Proof.Machine.execNvmLock q d s
  | .nvmSetpw q d => Sys2Proof.Machine.execNvmSetpw q d s
  | .nvmSync q d => Sys2Proof.Machine.execNvmSync q d s
  | .recConfirm q d => Sys2Proof.Machine.execRecConfirm q d s
  | .recWrite q d => Sys2Proof.Machine.execRecWrite q d s
  | .recRead q d ups => Sys2Proof.Machine.execRecRead q d ups s
  | .nvmExport q d => Sys2Proof.Machine.execNvmExport q d s
  | .nvmImport q d data => Sys2Proof.Machine.execNvmImport q d data s
  | .nvmAbort q d => Sys2Proof.Machine.execNvmAbort q d s
  | .panelUpdate q d => Sys2Proof.Machine.execPanelUpdate q d s
  | .panelWfload q d => Sys2Proof.Machine.execPanelWfload q d s
  | .panelCrcCheck q d => Sys2Proof.Machine.execPanelCrcCheck q d s
  | .panelAbort q d => Sys2Proof.Machine.execPanelAbort q d s
  | .keyLock q d => Sys2Proof.Machine.execKeyLock q d s
  | .fitRun q d => Sys2Proof.Machine.execFitRun q d s
  | .fitLogRead q d => Sys2Proof.Machine.execFitLogRead q d s
  | .fitBaseline q d => Sys2Proof.Machine.execFitBaseline q d s
  | .fitAbort q d => Sys2Proof.Machine.execFitAbort q d s
  | .ownerHandover q d => Sys2Proof.Machine.execOwnerHandover q d s
  | .configManifest q d => Sys2Proof.Machine.execConfigManifest q d s
  | .fwUpdate q d => Sys2Proof.Machine.execFwUpdate q d s
  | .attest q d => Sys2Proof.Machine.execAttest q d s
  | .secAbort q d => Sys2Proof.Machine.execSecAbort q d s
  | .dbgFreeze q d => Sys2Proof.Machine.execDbgFreeze q d s
  | .registerWrite off size v => Sys2Proof.Machine.execRegisterWrite off size v s
  | .blReqWrite v => Sys2Proof.Machine.execBlReqWrite v s
  | .sealWrite v => Sys2Proof.Machine.execSealWrite v s
  | .tickLoRead => Sys2Proof.Machine.execTickLoRead s
  | .clrCorrected => Sys2Proof.Machine.execClrCorrected s
  | .clrUncorrectable => Sys2Proof.Machine.execClrUncorrectable s
  | .fieldErrClr k => Sys2Proof.Machine.execFieldErrClr k s
  | .clrDip => Sys2Proof.Machine.execClrDip s
  | .clrErr => Sys2Proof.Machine.execClrErr s
  | .uiModeWrite u v => Sys2Proof.Machine.execUiModeWrite u v s
  | .uiGainShWrite u v => Sys2Proof.Machine.execUiGainShWrite u v s
  | .convCtrlWrite c v => Sys2Proof.Machine.execConvCtrlWrite c v s
  | .mailboxWrite off v => Sys2Proof.Machine.execMailboxWrite off v s
  | .patCtrlWrite v => Sys2Proof.Machine.execPatCtrlWrite v s
  | .loopCtrlWrite v => Sys2Proof.Machine.execLoopCtrlWrite v s
  | .busCfgWrite n v => Sys2Proof.Machine.execBusCfgWrite n v s
  | .portEnWrite v => Sys2Proof.Machine.execPortEnWrite v s
  | .portEqWrite p v => Sys2Proof.Machine.execPortEqWrite p v s
  | .panelEnWrite v => Sys2Proof.Machine.execPanelEnWrite v s
  | .hostqWdogWrite v => Sys2Proof.Machine.execHostqWdogWrite v s
  | .ringEnable r => Sys2Proof.Machine.execRingEnable r s
  | .ringDisable r => Sys2Proof.Machine.execRingDisable r s
  | .fenceClr q => Sys2Proof.Machine.execFenceClr q s
  | .sqTailDoorbell q v => Sys2Proof.Machine.execSqTailDoorbell q v s
  | .cqHeadDoorbell c v => Sys2Proof.Machine.execCqHeadDoorbell c v s
  | .eqHeadDoorbell v => Sys2Proof.Machine.execEqHeadDoorbell v s
  | .tqHeadDoorbell t v => Sys2Proof.Machine.execTqHeadDoorbell t v s
  | .heartbeat v => Sys2Proof.Machine.execHeartbeat v s
  | .dbgRoDataRead => Sys2Proof.Machine.execDbgRoDataRead s
  | .dbgThaw => Sys2Proof.Machine.execDbgThaw s
  | .fwRecGo v => Sys2Proof.Machine.execFwRecGo v s
  | .bar4Read off len upsets => Sys2Proof.Machine.execBar4Read off len upsets s
  | .bar4Write off bytes upsets => Sys2Proof.Machine.execBar4Write off bytes upsets s
  | .vl24Good => Sys2Proof.Machine.execVl24Good s
  | .pgTimeout rail => Sys2Proof.Machine.execPgTimeout rail s
  | .startRetry => Sys2Proof.Machine.execStartRetry s
  | .fwReverify a b => Sys2Proof.Machine.execFwReverify a b s
  | .pfwNFalling vl24 vhold => Sys2Proof.Machine.execPfwNFalling vl24 vhold s
  | .saveEnd => Sys2Proof.Machine.execSaveEnd s
  | .vl24AboveResume vl24 => Sys2Proof.Machine.execVl24AboveResume vl24 s
  | .warningEnd vl24 => Sys2Proof.Machine.execWarningEnd vl24 s
  | .dipSafeExpiry => Sys2Proof.Machine.execDipSafeExpiry s
  | .rstNLow => Sys2Proof.Machine.execRstNLow s
  | .rstNResetDue => Sys2Proof.Machine.execRstNResetDue s
  | .rstNRise => Sys2Proof.Machine.execRstNRise s
  | .supplyReset core vl24 vhold => Sys2Proof.Machine.execSupplyReset core vl24 vhold s
  | .clkrefLost => Sys2Proof.Machine.execClkrefLost s
  | .clkrefRestored => Sys2Proof.Machine.execClkrefRestored s
  | .firmwareWatchdog => Sys2Proof.Machine.execFirmwareWatchdog s
  | .vcoreStep res => Sys2Proof.Machine.execVcoreStep res s
  | .readVoutPoll res => Sys2Proof.Machine.execReadVoutPoll res s
  | .statusWordPoll res mode => Sys2Proof.Machine.execStatusWordPoll res mode s
  | .tickBoundary vl24 vhold => Sys2Proof.Machine.execTickBoundary vl24 vhold s
  | .scrubRead upset => Sys2Proof.Machine.execScrubRead upset s
  | .upFrame k arrives wrong => Sys2Proof.Machine.execUpFrame k arrives wrong s
  | .barrierDown k => Sys2Proof.Machine.execBarrierDown k s
  | .downFrame k arrives wrong => Sys2Proof.Machine.execDownFrame k arrives wrong s
  | .fieldTickBoundary k sense => Sys2Proof.Machine.execFieldTickBoundary k sense s
  | .holdWindowExpiry k => Sys2Proof.Machine.execHoldWindowExpiry k s
  | .freezeHoldLimit k => Sys2Proof.Machine.execFreezeHoldLimit k s
  | .downLinkSilent k => Sys2Proof.Machine.execDownLinkSilent k s
  | .vf24Low k mv => Sys2Proof.Machine.execVf24Low k mv s
  | .vf24Recovered k mv => Sys2Proof.Machine.execVf24Recovered k mv s
  | .diPulseWindow n x => Sys2Proof.Machine.execDiPulseWindow n x s
  | .diDebounceDone n x => Sys2Proof.Machine.execDiDebounceDone n x s
  | .doOverload o ma => Sys2Proof.Machine.execDoOverload o ma s
  | .doThermalLimit o ma => Sys2Proof.Machine.execDoThermalLimit o ma s
  | .doRetry o => Sys2Proof.Machine.execDoRetry o s
  | .doOnPeriodOk o => Sys2Proof.Machine.execDoOnPeriodOk o s
  | .doForcedHigh o ma => Sys2Proof.Machine.execDoForcedHigh o ma s
  | .openLoadSet o ma => Sys2Proof.Machine.execOpenLoadSet o ma s
  | .openLoadClear o => Sys2Proof.Machine.execOpenLoadClear o s
  | .darkTest k => Sys2Proof.Machine.execDarkTest k s
  | .darkPulseEnd k fell => Sys2Proof.Machine.execDarkPulseEnd k fell s
  | .darkPairPulse k fell => Sys2Proof.Machine.execDarkPairPulse k fell s
  | .floatDriveEnd f => Sys2Proof.Machine.execFloatDriveEnd f s
  | .floatDeadTimeEnd f => Sys2Proof.Machine.execFloatDeadTimeEnd f s
  | .floatBothHigh f => Sys2Proof.Machine.execFloatBothHigh f s
  | .posEdge p t e => Sys2Proof.Machine.execPosEdge p t e s
  | .indexPulse e => Sys2Proof.Machine.execIndexPulse e s
  | .posCheckTimeout p => Sys2Proof.Machine.execPosCheckTimeout p s
  | .serialReadStart p => Sys2Proof.Machine.execSerialReadStart p s
  | .serialReadEnd p ack clocks => Sys2Proof.Machine.execSerialReadEnd p ack clocks s
  | .serialReadTimeout p => Sys2Proof.Machine.execSerialReadTimeout p s
  | .standstillTimeout p => Sys2Proof.Machine.execStandstillTimeout p s
  | .emuEdge e => Sys2Proof.Machine.execEmuEdge e s
  | .passStart c => Sys2Proof.Machine.execPassStart c s
  | .converterOutput c code input => Sys2Proof.Machine.execConverterOutput c code input s
  | .urgentHead c => Sys2Proof.Machine.execUrgentHead c s
  | .urgentValidOutput c code input => Sys2Proof.Machine.execUrgentValidOutput c code input s
  | .calDue => Sys2Proof.Machine.execCalDue s
  | .calCommit c ofs gain selfTest => Sys2Proof.Machine.execCalCommit c ofs gain selfTest s
  | .captureTrigger g b => Sys2Proof.Machine.execCaptureTrigger g b s
  | .captureDone g => Sys2Proof.Machine.execCaptureDone g s
  | .captureShotTimeout g => Sys2Proof.Machine.execCaptureShotTimeout g s
  | .slotStale n => Sys2Proof.Machine.execSlotStale n s
  | .ma20Disconnect u => Sys2Proof.Machine.execMa20Disconnect u s
  | .ma20Reconnect u => Sys2Proof.Machine.execMa20Reconnect u s
  | .eventIntervalEnd code src => Sys2Proof.Machine.execEventIntervalEnd code src s
  | .patStepStart => Sys2Proof.Machine.execPatStepStart s
  | .patPublish => Sys2Proof.Machine.execPatPublish s
  | .routinePredictionEnd => Sys2Proof.Machine.execRoutinePredictionEnd s
  | .patUrgentIssue => Sys2Proof.Machine.execPatUrgentIssue s
  | .hostPredictionStep => Sys2Proof.Machine.execHostPredictionStep s
  | .multiplierSave => Sys2Proof.Machine.execMultiplierSave s
  | .loopCompute l => Sys2Proof.Machine.execLoopCompute l s
  | .loopUrgentIssue l => Sys2Proof.Machine.execLoopUrgentIssue l s
  | .loopSetSwitch l => Sys2Proof.Machine.execLoopSetSwitch l s
  | .loopRemoveEffect l => Sys2Proof.Machine.execLoopRemoveEffect l s
  | .schedEvaluation => Sys2Proof.Machine.execSchedEvaluation s
  | .overrideExpiry z => Sys2Proof.Machine.execOverrideExpiry z s
  | .presenceHoldoffExpiry z => Sys2Proof.Machine.execPresenceHoldoffExpiry z s
  | .oneShotDurExpiry c t sense => Sys2Proof.Machine.execOneShotDurExpiry c t sense s
  | .chopPeriodStart c => Sys2Proof.Machine.execChopPeriodStart c s
  | .targetReached c t sense => Sys2Proof.Machine.execTargetReached c t sense s
  | .peakGrant k t => Sys2Proof.Machine.execPeakGrant k t s
  | .peakWaitExpiry c t sense => Sys2Proof.Machine.execPeakWaitExpiry c t sense s
  | .skipRetry c => Sys2Proof.Machine.execSkipRetry c s
  | .waitPeakTimeout c t sense => Sys2Proof.Machine.execWaitPeakTimeout c t sense s
  | .shuttleWaitEnd c t sense => Sys2Proof.Machine.execShuttleWaitEnd c t sense s
  | .syncReached c t sense => Sys2Proof.Machine.execSyncReached c t sense s
  | .decayDone c t sense => Sys2Proof.Machine.execDecayDone c t sense s
  | .endingDone c => Sys2Proof.Machine.execEndingDone c s
  | .solOvercurrent c => Sys2Proof.Machine.execSolOvercurrent c s
  | .clampOverheat c => Sys2Proof.Machine.execClampOverheat c s
  | .peakMaxExpiry c => Sys2Proof.Machine.execPeakMaxExpiry c s
  | .bankHsOvercurrent b ma => Sys2Proof.Machine.execBankHsOvercurrent b ma s
  | .bankHsOvertemp b ma => Sys2Proof.Machine.execBankHsOvertemp b ma s
  | .shuttleSwitch b => Sys2Proof.Machine.execShuttleSwitch b s
  | .kickTimeout f => Sys2Proof.Machine.execKickTimeout f s
  | .backoffExpiry f => Sys2Proof.Machine.execBackoffExpiry f s
  | .tachEdge f t => Sys2Proof.Machine.execTachEdge f t s
  | .tachLost f ma => Sys2Proof.Machine.execTachLost f ma s
  | .fanRun60s f => Sys2Proof.Machine.execFanRun60s f s
  | .aoOverload a mv => Sys2Proof.Machine.execAoOverload a mv s
  | .aoOverloadClear a mv => Sys2Proof.Machine.execAoOverloadClear a mv s
  | .stitchValue p w wrong first => Sys2Proof.Machine.execStitchValue p w wrong first s
  | .stitchMemRead p w wrong first => Sys2Proof.Machine.execStitchMemRead p w wrong first s
  | .stitchMemData p w wrong first => Sys2Proof.Machine.execStitchMemData p w wrong first s
  | .stitchMemWrite p w wrong first => Sys2Proof.Machine.execStitchMemWrite p w wrong first s
  | .stitchMemAck p w wrong first => Sys2Proof.Machine.execStitchMemAck p w wrong first s
  | .stitchDoorbell p w wrong first => Sys2Proof.Machine.execStitchDoorbell p w wrong first s
  | .tokenReq p w wrong first => Sys2Proof.Machine.execTokenReq p w wrong first s
  | .tokenGrant p w wrong first => Sys2Proof.Machine.execTokenGrant p w wrong first s
  | .tokenReturn p w wrong first => Sys2Proof.Machine.execTokenReturn p w wrong first s
  | .admitStitch p w wrong first => Sys2Proof.Machine.execAdmit p w wrong first s
  | .admitReply p w wrong first => Sys2Proof.Machine.execAdmitReply p w wrong first s
  | .trace p w wrong first => Sys2Proof.Machine.execTrace p w wrong first s
  | .mgmt p w wrong first => Sys2Proof.Machine.execMgmt p w wrong first s
  | .idle p dev port numbered => Sys2Proof.Machine.execIdle p dev port numbered s
  | .ack p count nak ns => Sys2Proof.Machine.execAck p count nak ns s
  | .credit p cls n => Sys2Proof.Machine.execCredit p cls n s
  | .time p low ns => Sys2Proof.Machine.execTime p low ns s
  | .delay p n response rx tx => Sys2Proof.Machine.execDelay p n response rx tx s
  | .freeze p f => Sys2Proof.Machine.execFreeze p f s
  | .thaw p f => Sys2Proof.Machine.execThaw p f s
  | .audit p cls credits count => Sys2Proof.Machine.execAudit p cls credits count s
  | .down p cause => Sys2Proof.Machine.execDown p cause s
  | .train p dev port numbered looped used cands => Sys2Proof.Machine.execTrain p dev port numbered looped used cands s
  | .linkSilence p => Sys2Proof.Machine.execLinkSilence p s
  | .seamLos p high => Sys2Proof.Machine.execSeamLos p high s
  | .receiverAligned p => Sys2Proof.Machine.execReceiverAligned p s
  | .trainingTimeout p => Sys2Proof.Machine.execTrainingTimeout p s
  | .trainingIdleEnd p => Sys2Proof.Machine.execTrainingIdleEnd p s
  | .downSendEnd p => Sys2Proof.Machine.execDownSendEnd p s
  | .revertTimer p => Sys2Proof.Machine.execRevertTimer p s
  | .gapWaitExpiry src flow cls => Sys2Proof.Machine.execGapWaitExpiry src flow cls s
  | .unreachableDiscard dest cls => Sys2Proof.Machine.execUnreachableDiscard dest cls s
  | .tokenIdleReturn dest cls => Sys2Proof.Machine.execTokenIdleReturn dest cls s
  | .class2Timeout id => Sys2Proof.Machine.execClass2Timeout id s
  | .admitTimeout id => Sys2Proof.Machine.execAdmitTimeout id s
  | .tackSlot p j => Sys2Proof.Machine.execTackSlot p j s
  | .timeMarkerSend => Sys2Proof.Machine.execTimeMarkerSend s
  | .masterLost cands => Sys2Proof.Machine.execMasterLost cands s
  | .delayExchange p tx => Sys2Proof.Machine.execDelayExchange p tx s
  | .rringFetchRetry => Sys2Proof.Machine.execRringFetchRetry s
  | .descriptorFetched q ds => Sys2Proof.Machine.execDescriptorFetched q ds s
  | .fetchTimeout q => Sys2Proof.Machine.execFetchTimeout q s
  | .descriptorStart q data ups => Sys2Proof.Machine.execDescriptorStart q data ups s
  | .completionWrite c => Sys2Proof.Machine.execCompletionWrite c s
  | .msixHoldoffEnd r => Sys2Proof.Machine.execMsixHoldoffEnd r s
  | .eventWrite => Sys2Proof.Machine.execEventWrite s
  | .traceRecordWrite c => Sys2Proof.Machine.execTraceRecordWrite c s
  | .tailWriteback t => Sys2Proof.Machine.execTailWriteback t s
  | .hostLost => Sys2Proof.Machine.execHostLost s
  | .pcieReset kind => Sys2Proof.Machine.execPcieReset kind s
  | .pciePerstN => Sys2Proof.Machine.execPciePerstN s
  | .pcieLink speed width => Sys2Proof.Machine.execPcieLink speed width s
  | .mstpFrame n kind dest src data crcOk => Sys2Proof.Machine.execMstpFrame n kind dest src data crcOk s
  | .mstpReplyWaitExpiry n => Sys2Proof.Machine.execMstpReplyWaitExpiry n s
  | .mstpReplyTimeout n => Sys2Proof.Machine.execMstpReplyTimeout n s
  | .mstpSilenceEnd n => Sys2Proof.Machine.execMstpSilenceEnd n s
  | .modbusPollDue n e => Sys2Proof.Machine.execModbusPollDue n e s
  | .modbusResponse n bytes good => Sys2Proof.Machine.execModbusResponse n bytes good s
  | .modbusTimeout n => Sys2Proof.Machine.execModbusTimeout n s
  | .modbusGap n => Sys2Proof.Machine.execModbusGap n s
  | .rawFrameEnd n bytes good => Sys2Proof.Machine.execRawFrameEnd n bytes good s
  | .t1lFrame k bytes good => Sys2Proof.Machine.execT1lFrame k bytes good s
  | .t1lLink k up high sqi => Sys2Proof.Machine.execT1lLink k up high sqi s
  | .pageWriteDone b => Sys2Proof.Machine.execPageWriteDone b s
  | .energyWaitEnd vhold => Sys2Proof.Machine.execEnergyWaitEnd vhold s
  | .nvmWriteTimeout id => Sys2Proof.Machine.execNvmWriteTimeout id s
  | .recordCommit r => Sys2Proof.Machine.execRecordCommit r s
  | .configBlockStore key => Sys2Proof.Machine.execConfigBlockStore key s
  | .checkpoint => Sys2Proof.Machine.execCheckpoint s
  | .groupRefresh g e0 e1 => Sys2Proof.Machine.execGroupRefresh g e0 e1 s
  | .lockoutEnd r kind => Sys2Proof.Machine.execLockoutEnd r kind s
  | .phaseBoundary die duty => Sys2Proof.Machine.execPhaseBoundary die duty s
  | .railInRegulation => Sys2Proof.Machine.execRailInRegulation s
  | .railStartTimeout mv => Sys2Proof.Machine.execRailStartTimeout mv s
  | .railFault rail mv => Sys2Proof.Machine.execRailFault rail mv s
  | .railHoldExpiry => Sys2Proof.Machine.execRailHoldExpiry s
  | .frontlightFault volts ms => Sys2Proof.Machine.execFrontlightFault volts ms s
  | .frontlightRetry volts => Sys2Proof.Machine.execFrontlightRetry volts s
  | .keyRowWake => Sys2Proof.Machine.execKeyRowWake s
  | .keyScan raw => Sys2Proof.Machine.execKeyScan raw s
  | .keyIdle => Sys2Proof.Machine.execKeyIdle s
  | .keyLockIdle => Sys2Proof.Machine.execKeyLockIdle s
  | .encTransition n a b => Sys2Proof.Machine.execEncTransition n a b s
  | .encMoved n => Sys2Proof.Machine.execEncMoved n s
  | .fitPassStart => Sys2Proof.Machine.execFitPassStart s
  | .holdupStart => Sys2Proof.Machine.execHoldupStart s
  | .holdupWindowEnd ma dv step => Sys2Proof.Machine.execHoldupWindowEnd ma dv step s
  | .holdupSkip => Sys2Proof.Machine.execHoldupSkip s
  | .fitApply => Sys2Proof.Machine.execFitApply s
  | .pathMonitorRead ps => Sys2Proof.Machine.execPathMonitorRead ps s
  | .fitRerun => Sys2Proof.Machine.execFitRerun s
  | .frzNLow => Sys2Proof.Machine.execFrzNLow s
  | .frzNRise => Sys2Proof.Machine.execFrzNRise s
  | .freezeStop => Sys2Proof.Machine.execFreezeStop s
  | .thawRestart ms master => Sys2Proof.Machine.execThawRestart ms master s
  | .quiltThawRestart ms => Sys2Proof.Machine.execQuiltThawRestart ms s
  | .freezeReq => Sys2Proof.Machine.execFreezeReq s
  | .thawReq => Sys2Proof.Machine.execThawReq s
  | .roAccess space index => Sys2Proof.Machine.execRoAccess space index s
  | .extest => Sys2Proof.Machine.execExtest s
  | .idcode => Sys2Proof.Machine.execIdcode s
  | .samplePreload lands chain => Sys2Proof.Machine.execSamplePreload lands chain s
  | .bypass => Sys2Proof.Machine.execBypass s
  | .seamUncorrectable p x => Sys2Proof.Machine.execSeamUncorrectable p x s
  | .powerGoodRise rail => Sys2Proof.Machine.execPowerGoodRise rail s
  | .firmwareVerified a b mode => Sys2Proof.Machine.execFirmwareVerified a b mode s
  | .vl24FallAtStart => Sys2Proof.Machine.execVl24FallAtStart s
  | .pmbusTimeout => Sys2Proof.Machine.execPmbusTimeout s
  | .railFallDone => Sys2Proof.Machine.execRailFallDone s
  | .panelWfloadTimeout => Sys2Proof.Machine.execPanelWfloadTimeout s
  | .shuttleLoadTimeout b => Sys2Proof.Machine.execShuttleLoadTimeout b s
  | .fieldResumeTimeout k => Sys2Proof.Machine.execFieldResumeTimeout k s
  | .portRetrainDone id => Sys2Proof.Machine.execPortRetrainDone id s
  | .stagedCheckDone id => Sys2Proof.Machine.execStagedCheckDone id s
  | .fwUpdateWritten => Sys2Proof.Machine.execFwUpdateWritten s
  | .busFrameSent n => Sys2Proof.Machine.execBusFrameSent n s
  | .mstpTimerExpiry n => Sys2Proof.Machine.execMstpTimerExpiry n s
  | .fitMeasurementDone m => Sys2Proof.Machine.execFitMeasurementDone m s

end Sys2Proof.Machine
end

