-- ==== Sys2Proof/Safety.lean ====
section
/-! DEFINITION. What claims say of states and runs: the canonical form of the tables, runs of the queue, what a command answers, when a descriptor acts. -/

namespace Sys2Proof.Machine
open Sys2Proof

/-- The keys of a table rise strictly. -/
def Map.rising {α : Type} : Map α → Bool
  | [] => true
  | [_] => true
  | (k, _) :: (j, v) :: t => decide (k < j) && Map.rising ((j, v) :: t)

/-- The canonical form of a state's memory and register tables: equal contents are equal data. -/
def State.canonical (s : State) : Bool :=
  Memory.wf s.dev.mem && Map.rising s.dev.regs && Map.rising s.dev.die && Map.wf (fun _ => (0 : Nat)) s.dev.memErr

/-- The commands of the queue one after the other, the queue's length of them at most `n`. -/
def run : Nat → State → Host.Outcome State Fault Refusal
  | 0, s => .next s
  | n + 1, s =>
    match step s with
    | .next t => run n t
    | o => o

/-- The state with the device `e`, its queue kept. -/
def State.withDev (s : State) (e : Dev) : State := { s with dev := e }

/-- `exec` on command `c` answers a next state wherever `pre` holds of the device `d` (its outputs of the command before gone): the queue is
kept and the device is `post d`. -/
def Runs (c : Instr) (pre : Dev → Prop) (post : Dev → Dev) : Prop :=
  ∀ s : State, pre s.dev.begin → exec c s = .next (s.withDev (post s.dev.begin))

/-- A descriptor `x` of opcode `op` acts when it is handed to ring `q`: the ring fetches (R461, R483), is not fenced (R470), nothing before it holds
it (R468, R470), the checks of R464 hold, and no incomplete import refuses it (R569). -/
abbrev Dev.accepts (d : Dev) (q : Nat) (x : Desc) (op : Nat) (named : List (Nat × Nat)) : Prop :=
  d.fetches q = true ∧ x.u16 0 = op ∧ d.isSet Reg.SQ_STAT.FENCED q = false ∧ (d.takeDesc q x).mustWait q d.nextId = false
    ∧ d.headCheck x named = none ∧ (d.nvm.incomplete = false ∨ runsIncomplete op = true)

/-- The device with descriptor `x` taken from ring `q` and running. -/
def Dev.started (d : Dev) (q : Nat) (x : Desc) : Dev :=
  (d.takeDesc q x).setRec d.nextId fun r => { r with phase := .running, started := true }

/-- `exec` on a descriptor command answers a next state wherever the descriptor acts and `pre` holds of it and of the device `d` with the descriptor
running: the queue is kept and the device is `post id x d`, `id` the device's number of the descriptor. -/
def Acts (c : Nat → Desc → Instr) (op : Nat) (named : List (Nat × Nat)) (pre : Desc → Dev → Prop) (post : Nat → Desc → Dev → Dev) : Prop :=
  ∀ (s : State) (q : Nat) (x : Desc), s.dev.begin.accepts q x op named → pre x (s.dev.begin.started q x) →
    exec (c q x) s = .next (s.withDev (post s.dev.nextId x (s.dev.begin.started q x)))

/-- Whether host register writes and doorbells act now: the endpoint is up and the core die is not frozen (R484, R530). -/
abbrev Dev.takesWrites (d : Dev) : Prop := d.power.phase = .up ∧ d.frozen = false

/-- An abort's target of one of the opcodes `ops` (R473): the earliest descriptor of the ring and tag that the abort `x` names at bytes 16 to 21. -/
abbrev Dev.abortFinds (d : Dev) (x : Desc) (ops : List Nat) (r : Rec) : Prop :=
  x.u16 20 < 64 ∧ d.abortTarget (x.u16 20) (x.u32 16) = some r ∧ ops.contains (r.d.u16 0) = true

end Sys2Proof.Machine

namespace Sys2Proof

/-- The commands that may change the bytes of the shared memory or their wrong bits. -/
def Instr.changesMemory (c : Instr) : Bool :=
  match c with
  | .patReset _ _ | .dstLoad _ _ | .portRetrain _ _ | .quiltAudit _ _ | .nvmRead _ _ _ | .nvmWrite _ _ | .recRead _ _ _ | .fitRun _ _
  | .fitLogRead _ _ | .registerWrite _ _ _ | .portEnWrite _ | .fwRecGo _ | .bar4Read _ _ _ | .bar4Write _ _ _ | .pfwNFalling _ _ | .rstNLow
  | .rstNResetDue | .supplyReset _ _ _ | .clkrefLost | .firmwareWatchdog | .tickBoundary _ _ | .scrubRead _ | .upFrame _ _ _
  | .fieldTickBoundary _ _ | .patStepStart | .patPublish | .routinePredictionEnd | .patUrgentIssue | .hostPredictionStep | .multiplierSave
  | .loopCompute _ | .loopSetSwitch _ | .skipRetry _ | .stitchValue _ _ _ _ | .stitchMemRead _ _ _ _ | .stitchMemData _ _ _ _
  | .stitchMemWrite _ _ _ _ | .stitchMemAck _ _ _ _ | .stitchDoorbell _ _ _ _ | .tokenReq _ _ _ _ | .tokenGrant _ _ _ _ | .tokenReturn _ _ _ _
  | .admitStitch _ _ _ _ | .admitReply _ _ _ _ | .trace _ _ _ _ | .mgmt _ _ _ _ | .ack _ _ _ _ | .audit _ _ _ _ | .down _ _ | .linkSilence _
  | .seamLos _ _ | .gapWaitExpiry _ _ _ | .descriptorStart _ _ _ | .traceRecordWrite _ | .pcieReset _ | .modbusResponse _ _ _ | .modbusTimeout _
  | .modbusGap _ | .pageWriteDone _ | .checkpoint | .phaseBoundary _ _ | .fitPassStart | .holdupWindowEnd _ _ _ | .holdupSkip | .fitApply
  | .fitRerun | .thawRestart _ _ | .quiltThawRestart _ | .seamUncorrectable _ _ | .firmwareVerified _ _ _ | .vl24FallAtStart | .stagedCheckDone _ => true
  | _ => false

/-- The commands that may change the state of a field die: its outputs, inputs, ports, converters, shuttle and the configuration in force there. -/
def Instr.changesDies (c : Instr) : Bool :=
  match c with
  | .measCal _ _ | .measAbort _ _ | .measCapture _ _ | .shuttleLoad _ _ | .registerWrite _ _ _ | .uiGainShWrite _ _ | .convCtrlWrite _ _
  | .rstNResetDue | .supplyReset _ _ _ | .clkrefLost | .tickBoundary _ _ | .upFrame _ _ _ | .downFrame _ _ _ | .fieldTickBoundary _ _
  | .holdWindowExpiry _ | .freezeHoldLimit _ | .downLinkSilent _ | .vf24Low _ _ | .vf24Recovered _ _ | .diPulseWindow _ _ | .diDebounceDone _ _
  | .doOverload _ _ | .doThermalLimit _ _ | .doRetry _ | .doOnPeriodOk _ | .doForcedHigh _ _ | .openLoadSet _ _ | .openLoadClear _ | .darkTest _
  | .darkPulseEnd _ _ | .darkPairPulse _ _ | .floatDriveEnd _ | .floatDeadTimeEnd _ | .floatBothHigh _ | .posEdge _ _ _ | .indexPulse _
  | .posCheckTimeout _ | .serialReadStart _ | .serialReadEnd _ _ _ | .serialReadTimeout _ | .standstillTimeout _ | .emuEdge _ | .passStart _
  | .converterOutput _ _ _ | .urgentHead _ | .urgentValidOutput _ _ _ | .calDue | .calCommit _ _ _ _ | .captureTrigger _ _ | .captureDone _
  | .captureShotTimeout _ | .slotStale _ | .ma20Disconnect _ | .ma20Reconnect _ | .oneShotDurExpiry _ _ _ | .chopPeriodStart _
  | .targetReached _ _ _ | .peakGrant _ _ | .peakWaitExpiry _ _ _ | .skipRetry _ | .waitPeakTimeout _ _ _ | .shuttleWaitEnd _ _ _
  | .syncReached _ _ _ | .decayDone _ _ _ | .endingDone _ | .solOvercurrent _ | .clampOverheat _ | .peakMaxExpiry _ | .bankHsOvercurrent _ _
  | .bankHsOvertemp _ _ | .shuttleSwitch _ | .kickTimeout _ | .backoffExpiry _ | .tachEdge _ _ | .tachLost _ _ | .fanRun60s _ | .aoOverload _ _
  | .aoOverloadClear _ _ | .descriptorStart _ _ _ | .thawRestart _ _ | .quiltThawRestart _ | .firmwareVerified _ _ _ | .vl24FallAtStart
  | .shuttleLoadTimeout _ | .fieldResumeTimeout _ | .stagedCheckDone _ => true
  | _ => false

/-- The commands that may change the pattern engine, the loop engine or the schedules. -/
def Instr.changesEngines (c : Instr) : Bool :=
  match c with
  | .patLoad _ _ | .patPredict _ _ | .patAbort _ _ | .patReset _ _ | .loopSet _ _ | .loopRemove _ _ | .loopMode _ _ | .loopHold _ _
  | .loopClear _ _ | .chalkArm _ _ | .chalkTrigger _ _ | .chalkStop _ _ | .loopAbort _ _ | .schedSet _ _ | .zoneSet _ _ | .zoneOverride _ _
  | .civilSet _ _ | .dstLoad _ _ | .solForce _ _ | .portRetrain _ _ | .quiltAudit _ _ | .registerWrite _ _ _ | .patCtrlWrite _ | .loopCtrlWrite _
  | .portEnWrite _ | .pfwNFalling _ _ | .rstNLow | .rstNResetDue | .rstNRise | .supplyReset _ _ _ | .clkrefLost | .clkrefRestored
  | .firmwareWatchdog | .tickBoundary _ _ | .fieldTickBoundary _ _ | .patStepStart | .patPublish | .routinePredictionEnd | .patUrgentIssue
  | .hostPredictionStep | .multiplierSave | .loopCompute _ | .loopUrgentIssue _ | .loopSetSwitch _ | .loopRemoveEffect _ | .schedEvaluation
  | .overrideExpiry _ | .presenceHoldoffExpiry _ | .stitchValue _ _ _ _ | .stitchMemRead _ _ _ _ | .stitchMemData _ _ _ _ | .stitchMemWrite _ _ _ _
  | .stitchMemAck _ _ _ _ | .stitchDoorbell _ _ _ _ | .tokenReq _ _ _ _ | .tokenGrant _ _ _ _ | .tokenReturn _ _ _ _ | .admitStitch _ _ _ _
  | .admitReply _ _ _ _ | .trace _ _ _ _ | .mgmt _ _ _ _ | .ack _ _ _ _ | .audit _ _ _ _ | .down _ _ | .linkSilence _ | .seamLos _ _
  | .gapWaitExpiry _ _ _ | .descriptorStart _ _ _ | .traceRecordWrite _ | .pcieReset _ | .pageWriteDone _ | .fitApply | .freezeStop
  | .thawRestart _ _ | .quiltThawRestart _ | .seamUncorrectable _ _ | .powerGoodRise _ | .firmwareVerified _ _ _ | .vl24FallAtStart
  | .stagedCheckDone _ => true
  | _ => false

/-- The commands that may change the panel, the keys, the field buses or the fitting. -/
def Instr.changesSite (c : Instr) : Bool :=
  match c with
  | .busSend _ _ _ | .busRecv _ _ | .busPollSet _ _ | .busAbort _ _ | .panelUpdate _ _ | .panelWfload _ _ | .panelAbort _ _ | .keyLock _ _
  | .fitRun _ _ | .fitBaseline _ _ | .fitAbort _ _ | .registerWrite _ _ _ | .busCfgWrite _ _ | .panelEnWrite _ | .pfwNFalling _ _ | .warningEnd _
  | .rstNLow | .rstNResetDue | .supplyReset _ _ _ | .clkrefLost | .firmwareWatchdog | .tickBoundary _ _ | .upFrame _ _ _
  | .oneShotDurExpiry _ _ _ | .targetReached _ _ _ | .peakWaitExpiry _ _ _ | .waitPeakTimeout _ _ _ | .shuttleWaitEnd _ _ _ | .syncReached _ _ _
  | .decayDone _ _ _ | .descriptorStart _ _ _ | .mstpFrame _ _ _ _ _ _ | .mstpReplyWaitExpiry _ | .mstpReplyTimeout _ | .mstpSilenceEnd _
  | .modbusPollDue _ _ | .modbusResponse _ _ _ | .modbusTimeout _ | .modbusGap _ | .rawFrameEnd _ _ _ | .t1lFrame _ _ _ | .t1lLink _ _ _ _
  | .pageWriteDone _ | .phaseBoundary _ _ | .railInRegulation | .railStartTimeout _ | .railFault _ _ | .railHoldExpiry | .frontlightFault _ _
  | .frontlightRetry _ | .keyRowWake | .keyScan _ | .keyLockIdle | .encTransition _ _ _ | .encMoved _ | .fitPassStart | .holdupStart
  | .holdupWindowEnd _ _ _ | .holdupSkip | .fitApply | .pathMonitorRead _ | .fitRerun | .freezeStop | .thawRestart _ _ | .quiltThawRestart _
  | .vl24FallAtStart | .railFallDone | .panelWfloadTimeout | .stagedCheckDone _ | .busFrameSent _ | .mstpTimerExpiry _ | .fitMeasurementDone _ => true
  | _ => false

/-- The commands that may change the non-volatile stores or the security block. -/
def Instr.changesStores (c : Instr) : Bool :=
  match c with
  | .patReset _ _ | .loopSet _ _ | .nvmRead _ _ _ | .nvmWrite _ _ | .nvmUnlock _ _ | .nvmSetpw _ _ | .nvmSync _ _ | .recConfirm _ _ | .recWrite _ _
  | .recRead _ _ _ | .nvmExport _ _ | .nvmImport _ _ _ | .nvmAbort _ _ | .fitLogRead _ _ | .fitAbort _ _ | .ownerHandover _ _ | .configManifest _ _
  | .fwUpdate _ _ | .attest _ _ | .secAbort _ _ | .registerWrite _ _ _ | .fwRecGo _ | .fwReverify _ _ | .pfwNFalling _ _ | .saveEnd | .warningEnd _
  | .rstNLow | .rstNResetDue | .rstNRise | .supplyReset _ _ _ | .clkrefLost | .clkrefRestored | .firmwareWatchdog | .tickBoundary _ _
  | .fieldTickBoundary _ _ | .patStepStart | .routinePredictionEnd | .hostPredictionStep | .multiplierSave | .loopCompute _ | .loopSetSwitch _
  | .shuttleSwitch _ | .descriptorStart _ _ _ | .pageWriteDone _ | .energyWaitEnd _ | .nvmWriteTimeout _ | .recordCommit _ | .configBlockStore _
  | .checkpoint | .groupRefresh _ _ _ | .lockoutEnd _ _ | .holdupWindowEnd _ _ _ | .holdupSkip | .fitApply | .pathMonitorRead _ | .thawRestart _ _
  | .quiltThawRestart _ | .powerGoodRise _ | .firmwareVerified _ _ _ | .vl24FallAtStart | .shuttleLoadTimeout _ | .stagedCheckDone _
  | .fwUpdateWritten => true
  | _ => false

/-- The commands that may change the tick count or the supplies. -/
def Instr.changesTime (c : Instr) : Bool :=
  match c with
  | .fitRun _ _ | .registerWrite _ _ _ | .fwRecGo _ | .vl24Good | .pgTimeout _ | .startRetry | .fwReverify _ _ | .pfwNFalling _ _
  | .vl24AboveResume _ | .warningEnd _ | .dipSafeExpiry | .rstNLow | .rstNResetDue | .rstNRise | .supplyReset _ _ _ | .clkrefLost
  | .clkrefRestored | .firmwareWatchdog | .vcoreStep _ | .readVoutPoll _ | .statusWordPoll _ _ | .tickBoundary _ _ | .descriptorStart _ _ _
  | .fitPassStart | .fitApply | .fitRerun | .thawRestart _ _ | .quiltThawRestart _ | .powerGoodRise _ | .firmwareVerified _ _ _ | .vl24FallAtStart
  | .pmbusTimeout => true
  | _ => false

end Sys2Proof
end

