-- ==== Sys2Proof/Certificates/Slice0/Obligations.lean ====
section
/-! DEFINITION. The statements for the provers. `Runs` and `Acts` (Sys2Proof/Safety.lean) say of a command that `exec` answers a next state, and which,
under conditions on the state and the operands alone; the state they name is the whole device, so what a command leaves unchanged is said as well. -/

open Sys2Proof Sys2Proof.Machine

/-! ### Descriptors -/

/-- R485, R120, R131, R125: NOP ends at its start with the quilt time; MEAS_CAL and MEAS_URGENT with lawful operands go into the mailboxes of their
dies; MEAS_CAPTURE marks the converters of its group, by the tick or the shot that triggers it. Where the spec leaves a choice, the model's is log
entries 15, 36, 199 and 206. -/
def Obligations.MeasurementDescriptorsAct : Prop :=
  Acts .nop 0x0101 [] (fun _ _ => True) (fun id _ d => d.done id d.tick) ∧
  Acts .measCal 0x0201 [(16, 1)]
    (fun x d => x.byte 16 ≠ 0 ∧ ∀ c, c < 8 → bitAt (x.byte 16) c = true → d.convHere c = true ∧ d.convBusy c = false)
    (fun id x d => (maskDies (x.byte 16)).foldl (fun y k => y.post k (.desc id))
      { d with meas := { d.meas with cals := d.meas.cals ++ [{ id := id, mask := x.byte 16, committed := 0 }] } }) ∧
  Acts .measUrgent 0x0202 [(16, 8)]
    (fun x d => x.byte 16 < 8 ∧ d.convHere (x.byte 16) = true
      ∧ (x.byte 16 % 2 = 1 → d.isSet Reg.CONV_CTRL.PAIR (x.byte 16 - 1) = false) ∧ x.byte 17 ≤ 4 ∧ x.byte 18 ≤ 5
      ∧ d.dieChannel (convDie (x.byte 16)) (x.u32 20) = true)
    (fun id x d => d.post (convDie (x.byte 16)) (.desc id)) ∧
  Acts .measCapture 0x0204 [(12, 19), (32, 32)]
    (fun x d => x.byte 16 ≤ 2 ∧ (x.byte 16 = 0 ∨ d.part.grade = .f) ∧ x.byte 17 = 0 ∧ 1 ≤ x.u16 18 ∧ x.u16 18 ≤ 4096 ∧ x.u16 28 ≤ 499
      ∧ x.byte 30 ≤ 4 ∧ d.tick + 3 ≤ x.u64 20 ∧ x.u32 12 + (2 * x.u16 18 + 31) / 32 * (groupConvs (x.byte 16)).length ≤ memWords
      ∧ (∀ j, j < (groupConvs (x.byte 16)).length → d.dieChannel (convDie ((groupConvs (x.byte 16)).getD j 0)) (x.u32 (32 + 4 * j)) = true)
      ∧ (∀ c ∈ groupConvs (x.byte 16), d.convBusy c = false))
    (fun id x d => Dev.markCapture { d with meas := { d.meas with caps := d.meas.caps ++ [
      { id := id, group := x.byte 16, dest := x.u32 12, kind := 0, at_ := x.u64 20, phase := x.u16 28, armed := d.tick, bank := indexOf (x.u32 20)
        gain := x.byte 30, chans := (List.range (groupConvs (x.byte 16)).length).map fun j => x.u32 (32 + 4 * j), samples := x.u16 18
        triggered := false, streamA := [], streamB := [], sent := 0, stopping := false }] } } (x.byte 16) true) ∧
  Acts .measCapture 0x0204 [(12, 12), (28, 3), (32, 32)]
    (fun x d => x.byte 16 ≤ 2 ∧ (x.byte 16 = 0 ∨ d.part.grade = .f) ∧ x.byte 17 = 1 ∧ 1 ≤ x.u16 18 ∧ x.u16 18 ≤ 4096 ∧ x.u16 28 ≤ 499
      ∧ x.byte 30 ≤ 4 ∧ isNull (x.u32 20) = false ∧ d.isHandle clsBANK (x.u32 20) = true
      ∧ x.u32 12 + (2 * x.u16 18 + 31) / 32 * (groupConvs (x.byte 16)).length ≤ memWords
      ∧ (∀ j, j < (groupConvs (x.byte 16)).length → d.dieChannel (convDie ((groupConvs (x.byte 16)).getD j 0)) (x.u32 (32 + 4 * j)) = true)
      ∧ (∀ c ∈ groupConvs (x.byte 16), d.convBusy c = false))
    (fun id x d => Dev.markCapture { d with meas := { d.meas with caps := d.meas.caps ++ [
      { id := id, group := x.byte 16, dest := x.u32 12, kind := 1, at_ := 0, phase := x.u16 28, armed := d.tick, bank := indexOf (x.u32 20)
        gain := x.byte 30, chans := (List.range (groupConvs (x.byte 16)).length).map fun j => x.u32 (32 + 4 * j), samples := x.u16 18
        triggered := false, streamA := [], streamB := [], sent := 0, stopping := false }] } } (x.byte 16) true)

/-- R172, R207, R366, R395: a descriptor that acts at a field die, its operands lawful, goes into the mailbox of the die of its object. Where the spec
leaves a choice, the model's is log entries 15, 38, 39, 44 and 206. -/
def Obligations.MailboxDescriptorsArePosted : Prop :=
  Acts .dioForce 0x0301 [(16, 9)]
    (fun x d => isNull (x.u32 16) = false ∧ d.badHandle (x.u32 16) = false ∧ x.byte 24 ≤ 1
      ∧ ((classOf (x.u32 16) = clsDO ∧ d.doTaken (indexOf (x.u32 16)) = false ∧ (x.u32 20 = 0 ∨ x.u32 20 = 65536))
        ∨ (classOf (x.u32 16) = clsFLOAT ∧ x.u32 20 ≤ 100 * 65536)))
    (fun id x d => d.post (dieOf (classOf (x.u32 16)) (indexOf (x.u32 16))) (.desc id)) ∧
  Acts .doClear 0x0302 [(16, 4)] (fun x d => isNull (x.u32 16) = false ∧ d.isHandle clsDO (x.u32 16) = true)
    (fun id x d => d.post (dieOf clsDO (indexOf (x.u32 16))) (.desc id)) ∧
  Acts .posPreset 0x0401 [(16, 9)]
    (fun x d => isNull (x.u32 16) = false ∧ d.isHandle clsPOS (x.u32 16) = true ∧ d.get Reg.POS_CFG.MODE (indexOf (x.u32 16)) = posINC)
    (fun id x d => d.post (dieOf clsPOS (indexOf (x.u32 16))) (.desc id)) ∧
  Acts .posCheck 0x0402 [(16, 5)]
    (fun x d => isNull (x.u32 16) = false ∧ d.isHandle clsPOS (x.u32 16) = true ∧ d.get Reg.POS_CFG.MODE (indexOf (x.u32 16)) = posINC
      ∧ x.byte 20 ≠ 0 ∧ d.isSet Reg.POS_CFG.INDEX (indexOf (x.u32 16)) = true ∧ (d.posAt (indexOf (x.u32 16))).check = none)
    (fun id x d => d.post (dieOf clsPOS (indexOf (x.u32 16))) (.desc id)) ∧
  Acts .emuForce 0x0403 [(16, 9)]
    (fun x d => isNull (x.u32 16) = false ∧ d.isHandle clsEMU (x.u32 16) = true ∧ x.byte 24 ≤ 1 ∧ (x.s32 20).natAbs ≤ 2000000)
    (fun id x d => d.post (dieOf clsEMU (indexOf (x.u32 16))) (.desc id)) ∧
  Acts .solClear 0x0804 [(16, 4)]
    (fun x d => isNull (x.u32 16) = false ∧ (d.isHandle clsSOL (x.u32 16) = true ∨ d.isHandle clsBANK (x.u32 16) = true))
    (fun id x d => d.post (dieOf (classOf (x.u32 16)) (indexOf (x.u32 16))) (.desc id)) ∧
  Acts .fanaoForce 0x0901 [(16, 9)]
    (fun x d => isNull (x.u32 16) = false ∧ x.byte 24 ≤ 1 ∧ x.u32 20 ≤ 100 * 65536
      ∧ (d.isHandle clsFAN (x.u32 16) = true ∨ d.isHandle clsAO (x.u32 16) = true ∧ d.aoLinked (indexOf (x.u32 16)) = false))
    (fun id x d => d.post (dieOf (classOf (x.u32 16)) (indexOf (x.u32 16))) (.desc id)) ∧
  Acts .fanClear 0x0902 [(16, 4)] (fun x d => isNull (x.u32 16) = false ∧ d.isHandle clsFAN (x.u32 16) = true)
    (fun id x d => d.post (dieOf clsFAN (indexOf (x.u32 16))) (.desc id)) ∧
  Acts .fieldResume 0x0304 [(16, 1)]
    (fun x d => x.byte 16 ≤ 1 ∧ d.dieFitted (x.byte 16) = true
      ∧ (if x.byte 16 = 0 then d.isSet Reg.GLOBAL_FAULT_STAT.STOPPED_A 0 else d.isSet Reg.GLOBAL_FAULT_STAT.STOPPED_B 0) = false
      ∧ (d.fd (x.byte 16)).state = .safe)
    (fun id x d => d.post (x.byte 16) (.desc id)) ∧
  Acts .fieldResume 0x0304 [(16, 1)]
    (fun x d => x.byte 16 ≤ 1 ∧ d.dieFitted (x.byte 16) = true
      ∧ (if x.byte 16 = 0 then d.isSet Reg.GLOBAL_FAULT_STAT.STOPPED_A 0 else d.isSet Reg.GLOBAL_FAULT_STAT.STOPPED_B 0) = false
      ∧ (d.fd (x.byte 16)).state ≠ .safe)
    (fun id _ d => d.done id 0)

/-- R173, R344, R365, R366: DARK_TEST_NOW goes to the named dies in RUN, SHUTTLE_LOAD begins its checks, SOL_SHOT makes the host the writer and goes
ahead to the die, SOL_FORCE sets or releases the force and ends. Where the spec leaves a choice, the model's is log entries 15, 76, 203 and 204. -/
def Obligations.DriveDescriptorsAct : Prop :=
  Acts .darkTestNow 0x0303 [(16, 1)]
    (fun x d => 1 ≤ x.byte 16 ∧ x.byte 16 ≤ 3 ∧ ∀ k ∈ darkDies x, d.dieFitted k = true ∧ d.get Reg.FIELD_STAT.OUT_STATE k = 1
      ∧ (if k = 0 then d.isSet Reg.DIO_DARK.EN_A 0 else d.isSet Reg.DIO_DARK.EN_B 0) = true
      ∧ d.darkBusy k (d.nextId - 1) = false)
    (fun id x d => (darkDies x).foldl (fun (y : Dev) k => y.post k (.desc id)) d) ∧
  Acts .shuttleLoad 0x0801 [(16, 12)]
    (fun x d => isNull (x.u32 16) = false ∧ d.isHandle clsBANK (x.u32 16) = true ∧ d.loadOf (indexOf (x.u32 16)) = none)
    (fun id x d => Dev.showLoads { d with shut := { d.shut with loads := d.shut.loads ++ [
      { id := id, bank := indexOf (x.u32 16), words := [], slots := [], crc := 0, stage := 0, since := 0, sent := 0 }] } }) ∧
  Acts .solShot 0x0802 [(16, 5), (24, 4)]
    (fun x d => isNull (x.u32 16) = false ∧ d.isHandle clsSOL (x.u32 16) = true ∧ d.solOddReg (indexOf (x.u32 16)) = false
      ∧ d.writerOf (x.u32 16) ≤ 1 ∧ x.byte 20 ≤ 7 ∧ x.u32 24 ≤ 360000000)
    (fun id x d => (d.setWriter (x.u32 16) 1).postAhead (dieOf clsSOL (indexOf (x.u32 16))) (.desc id)) ∧
  Acts .solForce 0x0803 [(16, 6)]
    (fun x d => isNull (x.u32 16) = false ∧ d.isHandle clsSOL (x.u32 16) = true ∧ d.solOddReg (indexOf (x.u32 16)) = false
      ∧ x.byte 20 ≤ 1 ∧ x.byte 21 ≤ 1)
    (fun id x d => (d.setForce (x.u32 16) (if x.byte 21 = 1 then some (x.byte 20) else none)).done id 0)

/-- R256 to R258, R307 to R311, R331, R91, R92: the descriptors of the pattern engine, the loop engine and the schedules, their operands lawful. Where
the spec leaves a choice, the model's is log entries 15, 80, 84, 87, 94, 105 and 193. -/
def Obligations.EngineDescriptorsAct : Prop :=
  Acts .patLoad 0x0501 [(16, 17)] (fun x d => x.byte 32 ≤ 1 ∧ d.pat.load = none)
    (fun id _ d => Dev.showPat { d with pat := { d.pat with
      load := some { id := id, stage := 0, crc := 0, bytes := [], e := 0, rho := 0, minSweeps := 0xFF } } }) ∧
  Acts .patPredict 0x0502 [(16, 2), (20, 44)]
    (fun x d => 1 ≤ x.byte 16 ∧ x.byte 16 ≤ 64 ∧ x.byte 17 ≤ 5 ∧ d.modelValid = true ∧ d.pat.run = true ∧ d.pat.preds.length < d.predDepth
      ∧ (∀ j, j < x.byte 17 → x.u16 (24 + 8 * j) < d.pat.shape.sources.length ∧ 1 ≤ x.byte (26 + 8 * j) ∧ x.byte (26 + 8 * j) ≤ 64
        ∧ x.byte (27 + 8 * j) = 0
        ∧ ∀ b, d.pat.shape.sources[x.u16 (24 + 8 * j)]? = some b → b.2.1 ≠ 3 ∧ b.2.1 ≠ 4)
      ∧ x.u32 20 + 8 * d.pat.shape.slots.length ≤ memWords)
    (fun id _ d => Dev.showPat { d with pat := { d.pat with preds := d.pat.preds ++ [{ id := id, made := 0, base := 0, temps := [], inputs := [] }] } }) ∧
  Acts .patReset 0x0504 [(16, 1)] (fun x d => x.byte 16 ≤ 7 ∧ d.modelValid = true ∧ d.pat.run = true)
    (fun id x d => { d with pat := { d.pat with resets := d.pat.resets ++ [(id, x.byte 16)] } }) ∧
  Acts .loopSet 0x0601 [(16, 9)]
    (fun x d => isNull (x.u32 16) = false ∧ d.isHandle clsLOOP (x.u32 16) = true ∧ x.byte 24 ≤ 3
      ∧ d.eng.sets.any (fun o => o.slot == indexOf (x.u32 16)) = false)
    (fun id x d => Dev.showEngine { d with eng := { d.eng with sets := d.eng.sets ++ [
      { id := id, slot := indexOf (x.u32 16), stage := 0, block := [], keep := bitAt (x.byte 24) 1, lane := 0, secs := [], checkedAt := 0 }] } }) ∧
  Acts .loopRemove 0x0602 [(16, 4)]
    (fun x d => isNull (x.u32 16) = false ∧ d.isHandle clsLOOP (x.u32 16) = true ∧ (d.loop (indexOf (x.u32 16))).state ≠ .idle
      ∧ d.eng.sets.any (fun o => handle clsLOOP o.slot == x.u32 16) = false)
    (fun id x d => { d with eng := { d.eng with removals := d.eng.removals ++ [(id, indexOf (x.u32 16), d.tick)] } }) ∧
  Acts .loopMode 0x0603 [(16, 6)]
    (fun x d => isNull (x.u32 16) = false ∧ d.isHandle clsLOOP (x.u32 16) = true ∧ (d.loop (indexOf (x.u32 16))).state ≠ .idle
      ∧ x.byte 20 ≤ 3 ∧ (x.byte 21 = 1 ∧ lpEnabled (d.loopBlock (indexOf (x.u32 16))) (x.byte 20) = true ∨ x.byte 21 = 2))
    (fun id x d => d.loopWait (indexOf (x.u32 16)) { id := id, kind := 1, arg := x.byte 20, how := x.byte 21, at_ := d.tick }) ∧
  Acts .loopHold 0x0604 [(16, 5)]
    (fun x d => isNull (x.u32 16) = false ∧ d.isHandle clsLOOP (x.u32 16) = true ∧ (d.loop (indexOf (x.u32 16))).state ≠ .idle ∧ x.byte 20 = 1)
    (fun id x d => d.loopWait (indexOf (x.u32 16)) { id := id, kind := 2, arg := 1, how := 0, at_ := d.tick }) ∧
  Acts .loopClear 0x0605 [(16, 4)]
    (fun x d => isNull (x.u32 16) = false ∧ d.isHandle clsLOOP (x.u32 16) = true ∧ (d.loop (indexOf (x.u32 16))).state = .safe)
    (fun id x d => d.loopWait (indexOf (x.u32 16)) { id := id, kind := 3, arg := 0, how := 0, at_ := d.tick }) ∧
  Acts .chalkTrigger 0x0607 [(16, 1)]
    (fun x d => x.byte 16 < 64 ∧ ∃ c, d.chalk (x.byte 16) = some c ∧ armKind c.arm = 0)
    (fun id x d => match d.chalk (x.byte 16) with
      | some c => (d.setChalk (x.byte 16) (some { c with fire := c.fire || c.post.isNone })).done id 0
      | none => d) ∧
  Acts .chalkStop 0x0608 [(16, 1)] (fun x d => x.byte 16 < 64 ∧ (d.chalk (x.byte 16)).isSome = true)
    (fun id x d => (d.chalkEnd (x.byte 16) .aborted).done id (d.get Reg.CHALK_COUNT.STREAMED (x.byte 16))) ∧
  Acts .schedSet 0x0701 [(16, 8)] (fun x d => isNull (x.u32 16) = false ∧ d.isHandle clsSCHED (x.u32 16) = true)
    (fun id x d => d.addSched { id := id, kind := 1, obj := x.u32 16, block := [], checked := x.u32 20 == 0xFFFFFFFF, level := 0, on := false, minutes := 0
                                at_ := d.tick }) ∧
  Acts .zoneSet 0x0702 [(16, 8)] (fun x d => isNull (x.u32 16) = false ∧ d.isHandle clsZONE (x.u32 16) = true)
    (fun id x d => d.addSched { id := id, kind := 2, obj := x.u32 16, block := [], checked := x.u32 20 == 0xFFFFFFFF, level := 0, on := false, minutes := 0
                                at_ := d.tick }) ∧
  Acts .zoneOverride 0x0703 [(16, 8)]
    (fun x d => isNull (x.u32 16) = false ∧ d.isHandle clsZONE (x.u32 16) = true ∧ x.byte 20 ≤ 3 ∧ x.byte 21 ≤ 1
      ∧ (d.zoneBlock (indexOf (x.u32 16))).isEmpty = false)
    (fun id x d => d.addSched { id := id, kind := 3, obj := x.u32 16, block := [], checked := true, level := x.byte 20, on := x.byte 21 == 1, minutes := x.u16 22
                                at_ := d.tick }) ∧
  Acts .civilSet 0x0710 [(16, 18)] (fun _ _ => True)
    (fun id x d => (d.setCivil (x.u64 16) (x.u64 24) (signedOf 16 (x.u16 32))).done id 0) ∧
  Acts .dstLoad 0x0711 [(16, 8)]
    (fun x d => x.u32 16 ≤ 32 ∧ imageFits (x.u32 20) (16 * x.u32 16) = true ∧ ∃ bs, (d.readImage (x.u32 20) (16 * x.u32 16)).1 = some bs
      ∧ ascending (dstEntries bs (x.u32 16)) = true ∧ (List.range (x.u32 16)).any (fun j => !zeroAt bs (16 * j + 10) 6) = false
      ∧ (d.readImage (x.u32 20) (16 * x.u32 16)).2.manifestOk 0 0x0711 bs = true)
    (fun id x d => match d.readImage (x.u32 20) (16 * x.u32 16) with
      | (some bs, d1) => ({ d1 with sched := { d1.sched with dst := dstEntries bs (x.u32 16) } }.setBlock keyDST bs).done id 0
      | (none, d1) => d1) ∧
  Acts .chalkArm 0x0606 [(16, 27), (44, 20)]
    (fun x d => x.byte 16 ≤ 63 ∧ x.byte 17 ≤ 3 ∧ 1 ≤ x.byte 18 ∧ x.byte 18 ≤ 16 ∧ x.byte 19 ≤ 2
      ∧ isNull (x.u32 20) = false ∧ d.isHandle clsLOOP (x.u32 20) = true ∧ (d.loop (indexOf (x.u32 20))).state ≠ .idle ∧ d.chalk (x.byte 16) = none
      ∧ (List.range (armK x)).all (fun j => chalkCodeOk (armCode x j)) = true
      ∧ (List.range 16).all (fun j => decide (j < armK x) || armCode x j == 0) = true
      ∧ 1 ≤ armDec x ∧ 1 ≤ armPost x ∧ armKind x ≤ 4 ∧ armNode x < armK x ∧ armMask x ≤ 15
      ∧ armOff x + armSize x ≤ 163840 ∧ (armPre x + 8) * recWords x ≤ armSize x
      ∧ (∀ n, n < 64 → ∀ s, d.chalk n = some s → armOff s.arm + armSize s.arm ≤ armOff x ∨ armOff x + armSize x ≤ armOff s.arm))
    (fun id x d =>
      let s : ChalkSt := { arm := x, id := if armMode x = 1 then some id else none, count := 0, recs := [], next := 0, post := none, prev := none
                           events := 0, fire := false, drops := 0 }
      let d1 := ((((d.setChalk (x.byte 16) (some s)).put Reg.CHALK_COUNT.STREAMED (x.byte 16) 0).put Reg.CHALK_COUNT.DROPPED (x.byte 16) 0).put
        Reg.CHALK_STAT.TRIGGERED (x.byte 16) 0).showChalk (x.byte 16)
      if armMode x = 1 then d1 else d1.done id 0)


/-- R420, R439, R445, R447, R448: the descriptors of the quilt, their operands lawful. Where the spec leaves a choice, the model's is log entries 15,
113, 114 and 117. -/
def Obligations.QuiltDescriptorsAct : Prop :=
  Acts .flowOpen 0x0A01 [(16, 1), (20, 4), (24, 4), (28, 24), (52, 6)]
    (fun x d => 1 ≤ x.byte 16 ∧ x.byte 16 ≤ 6 ∧ 1 ≤ x.u32 20 ∧ x.u32 20 ≤ 65535 ∧ x.u32 24 < x.u32 20
      ∧ (∀ j, j < x.byte 16 → isNull (x.u32 (28 + 4 * j)) = false ∧ d.badName (x.u32 (28 + 4 * j)) = false ∧ devOf (x.u32 (28 + 4 * j)) = devOf (x.u32 28) ∧ d.isLocal (x.u32 (28 + 4 * j)) = false)
      ∧ d.isSet Reg.GLOBAL_DEVNUM.ACTIVE_VALID 0 = true ∧ (d.routePort (devOf (x.u32 28))).isSome = true ∧ d.explicitFlows < 2048)
    (fun id x d => Dev.askSource { d with quilt := { d.quilt with ops := d.quilt.ops ++ [
      { id := some id, close := false, src := devOf (x.u32 28), flow := none, chains := (x.byte 16 + 1) / 2, done := [], hops := 0, askedAt := d.tick }] } } 0 0
        (devOf (x.u32 28)) 0x3FF (x.u32 20) (x.u32 24) ((flowOpenObjs x).getD 0 0) ((flowOpenObjs x).getD 1 0)) ∧
  Acts .flowClose 0x0A02 [(16, 2), (18, 2)]
    (fun x d => (d.quilt.inFlows.find? fun f => f.1 == x.u16 16 && f.2.1 == x.u16 18 && f.2.2.2 == 0).isSome = true)
    (fun id x d => match d.quilt.inFlows.find? fun f => f.1 == x.u16 16 && f.2.1 == x.u16 18 && f.2.2.2 == 0 with
      | some f => (Dev.setInFlows { d with quilt := { d.quilt with ops := d.quilt.ops ++ [
          { id := some id, close := true, src := f.1, flow := some f.2.1, chains := f.2.2.1, done := [], hops := 0, askedAt := d.tick }] } }
            (d.quilt.inFlows.filter fun g => g != f)).askSource 2 0 f.1 f.2.1 0 0 0 0
      | none => d) ∧
  Acts .routeLoad 0x0A03 [(16, 4)] (fun x d => x.u32 16 + 128 ≤ memWords ∧ d.quilt.route = none)
    (fun id _ d => { d with quilt := { d.quilt with route := some (id, none) } }) ∧
  Acts .portRetrain 0x0A04 [(16, 1)] (fun _ _ => True)
    (fun id x d =>
      let en := d.get Reg.QUILT_CFG.PORT_EN 0
      (List.range 8).foldl (fun (y : Dev) p => if bitAt (x.byte 16) p && y.portUp p then y.linkDown p 7 else y)
        { d with quilt := { d.quilt with retrains := d.quilt.retrains ++ [(id, x.byte 16, d.tick)]
                                         trainDue := d.quilt.trainDue || (en != 0 && Nat.land (x.byte 16) en == en) } }) ∧
  Acts .quiltAudit 0x0A05 [(16, 1), (17, 1)] (fun x _ => x.byte 17 = 0)
    (fun id x d =>
      let named := (List.range 8).filter fun p => bitAt (x.byte 16) p
      let up := named.filter fun p => d.portUp p
      (up.foldl (fun (y : Dev) p => (y.setPort p { y.port p with asked := 15 }).sendAudits p)
        { d with quilt := { d.quilt with audits := d.quilt.audits ++ [
          { id := id, ports := x.byte 16, links := up.flatMap fun p => (List.range 4).map fun c => 4 * p + c
            failed := ((named.filter fun p => !d.portUp p).map fun p => 2 ^ p).foldl (· + ·) 0, pairs := [], pairsFailed := 0 }] } }).endAudits) ∧
  Acts .quiltAudit 0x0A05 [(16, 1), (17, 1)] (fun x _ => x.byte 17 = 1)
    (fun id x d =>
      let named := (List.range 8).filter fun p => bitAt (x.byte 16) p
      let up := named.filter fun p => d.portUp p
      let pairs := (List.range 1024).flatMap fun n => ([1, 2, 3].filter fun c => 0 < d.tokens n c).map fun c => 4 * n + c
      (pairs.foldl (fun (y : Dev) k => y.auditPair (k / 4) (k % 4)) (up.foldl (fun (y : Dev) p => (y.setPort p { y.port p with asked := 15 }).sendAudits p)
        { d with quilt := { d.quilt with audits := d.quilt.audits ++ [
          { id := id, ports := x.byte 16, links := up.flatMap fun p => (List.range 4).map fun c => 4 * p + c
            failed := ((named.filter fun p => !d.portUp p).map fun p => 2 ^ p).foldl (· + ·) 0, pairs := pairs, pairsFailed := 0 }] } })).endAudits) ∧
  Acts .rringDoorbell 0x0A06 [(16, 2), (18, 1), (20, 4)]
    (fun x d => x.u16 16 ≤ 1023 ∧ x.byte 18 ≤ 63 ∧ d.isSet Reg.GLOBAL_DEVNUM.ACTIVE_VALID 0 = true ∧ (d.routePort (x.u16 16)).isSome = true)
    (fun id x d => d.sendToken (x.u16 16) 2 6 0x3FF ([x.byte 18, 0, 0, 0] ++ leBytes 4 (x.u32 20)) (some id))

/-- R494, R503, R507, R508: BUS_SEND queues what its buffer holds, or answers the waiting request of an MS/TP port, BUS_RECV takes a held frame or
waits, BUS_POLL_SET waits for its check. Where the spec leaves a choice, the model's is log entries 15, 131, 132 and 133. -/
def Obligations.BusDescriptorsAct : Prop :=
  (∀ data, Acts (fun q x => .busSend q x data) 0x0B01 [(16, 4), (20, 1), (21, 1), (22, 1), (24, 8), (32, 2), (40, 8), (48, 2)]
    (fun x d => d.isHandle clsBUS (x.u32 16) = true ∧ sendSuits (d.busMode (indexOf (x.u32 16))) x = true
      ∧ d.busMode (indexOf (x.u32 16)) ≠ busMSTP ∧ d.busMode (indexOf (x.u32 16)) ≠ busMODBUS)
    (fun id x d =>
      let n := indexOf (x.u32 16)
      let bytes := (data ++ List.replicate (x.u16 32) 0).take (x.u16 32)
      (d.setBus n { d.bus n with data := Map.set (d.bus n).data id bytes [] } |> fun (d1 : Dev) =>
        d1.setBus n { d1.bus n with queue := (d.bus n).queue ++ [id] }).plainStart n)) ∧
  (∀ data, Acts (fun q x => .busSend q x data) 0x0B01 [(16, 4), (20, 1), (21, 1), (22, 1), (24, 8), (32, 2), (40, 8), (48, 2)]
    (fun x d => d.isHandle clsBUS (x.u32 16) = true ∧ sendSuits (d.busMode (indexOf (x.u32 16))) x = true
      ∧ d.busMode (indexOf (x.u32 16)) = busMODBUS)
    (fun id x d =>
      let n := indexOf (x.u32 16)
      let bytes := (data ++ List.replicate (x.u16 32) 0).take (x.u16 32)
      (d.setBus n { d.bus n with data := Map.set (d.bus n).data id bytes [] } |> fun (d1 : Dev) =>
        d1.setBus n { d1.bus n with queue := (d.bus n).queue ++ [id] }).mbStart n)) ∧
  (∀ data, Acts (fun q x => .busSend q x data) 0x0B01 [(16, 4), (20, 1), (21, 1), (22, 1), (24, 8), (32, 2), (40, 8), (48, 2)]
    (fun x d => d.isHandle clsBUS (x.u32 16) = true ∧ sendSuits (d.busMode (indexOf (x.u32 16))) x = true
      ∧ d.busMode (indexOf (x.u32 16)) = busMSTP
      ∧ (bitAt (x.byte 22) 0 = false ∨ (d.bus (indexOf (x.u32 16))).reply = none ∨ (d.bus (indexOf (x.u32 16))).node = .sending
        ∨ (d.bus (indexOf (x.u32 16))).node = .waitReply))
    (fun id x d =>
      let n := indexOf (x.u32 16)
      let bytes := (data ++ List.replicate (x.u16 32) 0).take (x.u16 32)
      d.setBus n { d.bus n with data := Map.set (d.bus n).data id bytes [] } |> fun (d1 : Dev) =>
        d1.setBus n { d1.bus n with queue := (d.bus n).queue ++ [id] })) ∧
  (∀ data r, Acts (fun q x => .busSend q x data) 0x0B01 [(16, 4), (20, 1), (21, 1), (22, 1), (24, 8), (32, 2), (40, 8), (48, 2)]
    (fun x d => d.isHandle clsBUS (x.u32 16) = true ∧ sendSuits (d.busMode (indexOf (x.u32 16))) x = true
      ∧ d.busMode (indexOf (x.u32 16)) = busMSTP ∧ bitAt (x.byte 22) 0 = true ∧ (d.bus (indexOf (x.u32 16))).reply = some r
      ∧ (d.bus (indexOf (x.u32 16))).node ≠ .sending ∧ (d.bus (indexOf (x.u32 16))).node ≠ .waitReply)
    (fun id x d =>
      let n := indexOf (x.u32 16)
      let bytes := (data ++ List.replicate (x.u16 32) 0).take (x.u16 32)
      let d1 := d.setBus n { d.bus n with data := Map.set (d.bus n).data id bytes [] }
      ((d1.setBus n { d1.bus n with reply := none }).mstpEmit n (x.byte 20) (x.byte 21) bytes).endSend n id 0 [])) ∧
  Acts .busRecv 0x0B02 [(16, 4), (24, 8), (32, 2)]
    (fun x d => 1 ≤ x.u16 32 ∧ x.u16 32 ≤ 1522 ∧ d.isHandle clsBUS (x.u32 16) = true ∧ (d.bus (indexOf (x.u32 16))).recvs.length < 16)
    (fun id x d => match (d.bus (indexOf (x.u32 16))).held with
      | f :: rest => (d.setBus (indexOf (x.u32 16)) { d.bus (indexOf (x.u32 16)) with held := rest }).fillRecv id f
      | [] => d.setBus (indexOf (x.u32 16)) { d.bus (indexOf (x.u32 16)) with recvs := (d.bus (indexOf (x.u32 16))).recvs ++ [id] }) ∧
  Acts .busPollSet 0x0B03 [(16, 4), (20, 4), (24, 1)]
    (fun x d => d.isHandle clsBUS (x.u32 16) = true ∧ indexOf (x.u32 16) < 16 ∧ x.byte 24 ≤ d.pollEntries ∧ d.busMode (indexOf (x.u32 16)) = busMODBUS
      ∧ x.u32 20 + x.byte 24 ≤ memWords)
    (fun id x d => { d with pollSets := d.pollSets ++ [{ id := id, port := indexOf (x.u32 16), list := none }] })

/-- R550, R551, R557, R558, R565, R567, R570: the descriptors of the retained store, their operands lawful and their regions open. Where the spec
leaves a choice, the model's is log entries 15, 133, 138, 139, 140 and 141. -/
def Obligations.StoreDescriptorsAct : Prop :=
  (∀ ups, Acts (fun q x => .nvmRead q x ups) 0x0C01 [(16, 6), (24, 4)]
    (fun x d => 1 ≤ x.u16 20 ∧ x.u16 20 ≤ 4096 ∧ rawRange (x.u32 16) (x.u16 20) = true ∧ imageFits (x.u32 24) (x.u16 20) = true
      ∧ d.regionOpen (regionOf (x.u32 16)) 0 = true ∧ d.regionOpen (regionOf (x.u32 16 + x.u16 20 - 1)) 0 = true)
    (fun id x d =>
      let r := (d.nvmUpset ups).nvmRead (x.u32 16) (x.u16 20)
      (r.2.memWrite (32 * x.u32 24) r.1.1).finish id (if r.1.2 = 0 then .ok else .dataError) (x.u16 20 + 2 ^ 16 * r.1.2))) ∧
  Acts .nvmWrite 0x0C02 [(16, 6), (24, 4)]
    (fun x d => 1 ≤ x.u16 20 ∧ x.u16 20 ≤ 256 ∧ x.u32 16 < nvmBytes ∧ inSaveArea (x.u32 16) = false ∧ imageFits (x.u32 24) (x.u16 20) = true
      ∧ 6 ≤ regionOf (x.u32 16) ∧ d.regionOpen (regionOf (x.u32 16)) 1 = true ∧ (d.readImage (x.u32 24) (x.u16 20)).1.isSome = true)
    (fun id x d => (d.readImage (x.u32 24) (x.u16 20)).2.askWrite (.host id) (x.u32 16) ((d.readImage (x.u32 24) (x.u16 20)).1.getD [])) ∧
  Acts .nvmUnlock 0x0C03 [(16, 2), (24, 8)]
    (fun x d => x.byte 16 < 8 ∧ x.byte 17 < 2 ∧ d.lockedOut (x.byte 16) (x.byte 17) = false
      ∧ passwordDigest (x.u64 24) = d.passwordOf (x.byte 16) (x.byte 17))
    (fun id x d => ((d.setOpen (x.byte 16) (x.byte 17) true).putRet (failsFld (x.byte 17)) (x.byte 16) 0).done id 0) ∧
  Acts .nvmLock 0x0C04 [(16, 2)] (fun x _ => x.byte 17 < 4)
    (fun id x d => ((List.range 16).foldl (fun (y : Dev) (j : Nat) =>
      if bitAt (x.byte 16) (j / 2) && bitAt (x.byte 17) (j % 2) then y.setOpen (j / 2) (j % 2) false else y) d).done id 0) ∧
  Acts .nvmSetpw 0x0C05 [(16, 2), (24, 8)] (fun x d => x.byte 16 < 8 ∧ x.byte 17 < 2 ∧ d.regionOpen (x.byte 16) 1 = true)
    (fun id x d => (d.keep (recPASSWORD (x.byte 16) (x.byte 17)) (passwordDigest (x.u64 24))).done id 0) ∧
  Acts .nvmSync 0x0C06 [] (fun _ d => d.retPending = [] ∧ d.storeDue = []) (fun id _ d => d.done id 0) ∧
  Acts .nvmSync 0x0C06 [] (fun _ d => d.retPending ≠ [])
    (fun id _ d => { d with nvm := { d.nvm with syncs := d.nvm.syncs ++ [{ id := id, recs := d.retPending, blocks := d.storeDue, count := 0 }] } }) ∧
  (∀ r, Acts .recConfirm 0x0C07 [(16, 4)] (fun x d => d.recHandle (x.u32 16) = some r ∧ d.nvm.ambiguous.contains r = true)
    (fun id _ d => d.awaitRecord id r)) ∧
  (∀ r, Acts .recConfirm 0x0C07 [(16, 4)] (fun x d => d.recHandle (x.u32 16) = some r ∧ d.nvm.ambiguous.contains r = false)
    (fun id _ d => (d.readRecord r).2.done id (d.readRecord r).1.1.seq)) ∧
  (∀ r, Acts .recWrite 0x0C08 [(16, 5), (24, 24)]
    (fun x d => d.recHandle (x.u32 16) = some r ∧ 3584 ≤ r ∧ 1 ≤ x.byte 20 ∧ x.byte 20 ≤ 24)
    (fun id x d => Dev.awaitRecord { d with nvm := { d.nvm with
      kept := Map.set d.nvm.kept r ((List.range (x.byte 20)).map fun j => x.byte (24 + j)) [] } } id r)) ∧
  (∀ ups r, Acts (fun q x => .recRead q x ups) 0x0C09 [(16, 8)] (fun x d => d.recHandle (x.u32 16) = some r ∧ imageFits (x.u32 20) 32 = true)
    (fun id x d =>
      let y := (d.nvmUpset ups).resolveRecord r
      let code := if y.1.winner.isNone then 2 else if y.1.ambiguous then 3 else if y.1.written then 0 else 1
      let d1 := if y.1.winner.isNone then y.2.logLost [r] else y.2
      (d1.memWrite (32 * x.u32 20) ((y.1.data ++ List.replicate 32 0).take 32)).done id (y.1.seq + 2 ^ 32 * code + 2 ^ 40 * y.1.data.length))) ∧
  Acts .nvmExport 0x0C0A [(16, 1), (24, 12)]
    (fun x d => x.byte 16 < 2 ∧ d.nvm.exporting = none ∧ d.nvm.importing = none ∧ d.isSet Reg.SEC_STAT.IDENTITY_OK 0 = true)
    (fun id _ d => Dev.put { d with nvm := { d.nvm with exporting := some { id := id, recs := d.retPending, blocks := d.storeDue } } }
      Reg.NVM_STAT.EXPORTING 0 1) ∧
  (∀ data, Acts (fun q x => .nvmImport q x data) 0x0C0B [(16, 1), (24, 12)]
    (fun x d => x.byte 16 < 2 ∧ d.nvm.exporting = none ∧ d.nvm.importing = none)
    (fun id x d => Dev.put { d with nvm := { d.nvm with importing := some { id := id, image := data.take (x.u32 32), checked := false, begun := false } } }
      Reg.NVM_STAT.IMPORTING 0 1))

/-- R590, R594, R597, R623, R626, R631, R637, R646, R654, R692: the descriptors of the panel, the keys, fitting, security and freeze. Where the spec
leaves a choice, the model's is log entries 15, 152, 159, 160 and 164. -/
def Obligations.ServiceDescriptorsAct : Prop :=
  Acts .panelUpdate 0x0D01 [(16, 9)]
    (fun x d => 1 ≤ x.u16 20 ∧ 1 ≤ x.u16 22 ∧ x.u16 16 + x.u16 20 ≤ d.panelW ∧ x.u16 18 + x.u16 22 ≤ d.panelH ∧ x.byte 24 < 4
      ∧ (x.byte 24 = 0 ∨ d.isSet Reg.PANEL_STAT.LIB_VALID 0 = true) ∧ d.isSet Reg.PANEL_CFG.EN 0 = true
      ∧ d.isSet Reg.PANEL_STAT.RAIL_LATCHED 0 = false ∧ d.panel.waiting = [])
    (fun id x d => (d.setPanel { d.panel with waiting := [
      { id := some id, x := x.u16 16, y := x.u16 18, w := x.u16 20, h := x.u16 22, mode := x.byte 24, waited := false }] }).panelRise) ∧
  Acts .panelWfload 0x0D02 [(16, 8)] (fun _ d => d.panel.load = none)
    (fun id _ d => d.setPanel { d.panel with load := some { id := id, since := d.tick, payload := none } }) ∧
  Acts .panelCrcCheck 0x0D03 [(16, 4)] (fun x d => d.isSet Reg.PANEL_CFG.EN 0 = true ∧ d.get Reg.PANEL_CRC.CRC 0 = x.u32 16)
    (fun id x d => d.done id (x.u32 16)) ∧
  Acts .panelCrcCheck 0x0D03 [(16, 4)] (fun x d => d.isSet Reg.PANEL_CFG.EN 0 = true ∧ d.get Reg.PANEL_CRC.CRC 0 ≠ x.u32 16)
    (fun id x d => (d.raise 0x0D03 (d.name clsPANEL 0) (leBytes 4 (d.get Reg.PANEL_CRC.CRC 0) ++ leBytes 4 (x.u32 16))).finish id .dataError
      (d.get Reg.PANEL_CRC.CRC 0)) ∧
  Acts .keyLock 0x0E01 [(16, 1)] (fun x _ => x.byte 16 < 2)
    (fun id x d => { d with keys := { d.keys with locks := d.keys.locks ++ [(id, x.byte 16 == 1)] } }) ∧
  Acts .fitRun 0x0F01 [] (fun _ d => d.fitting = false) (fun id _ d => d.fitStart (some id)) ∧
  Acts .fitLogRead 0x0F02 [(16, 8)] (fun x _ => 1 ≤ x.u16 18 ∧ x.u16 18 ≤ 1024 ∧ x.u32 20 + x.u16 18 ≤ memWords)
    (fun id x d =>
      let n := min (x.u16 18) (d.get Reg.FIT_LOG_STAT.ENTRIES 0 - x.u16 16)
      let r := (List.range n).foldl (fun (z : Nat × Dev) (j : Nat) =>
        let e := z.2.nvmRead (logAddr ((d.get Reg.FIT_LOG_STAT.NEXT 0 + 7680 - 1 - x.u16 16 - j) % 7680)) 32
        (z.1 + e.1.2, e.2.memWrite (32 * (x.u32 20 + j)) e.1.1)) (0, d)
      r.2.finish id (if r.1 = 0 then .ok else .dataError) n) ∧
  Acts .fitBaseline 0x0F03 [(16, 2)]
    (fun x _ => ∀ e, e < 16 → bitAt (x.u16 16) e = true → e = 2 ∨ e = 4 ∨ e = 5 ∨ e = 6 ∨ e = 9)
    (fun id x d => Dev.done { d with fit := { d.fit with newBase := Nat.lor d.fit.newBase (x.u16 16) } } id 0) ∧
  Acts .ownerHandover 0x1001 [(16, 8)] (fun _ _ => True) (fun id x d => d.beginEnvelope id 1 x) ∧
  Acts .configManifest 0x1002 [(16, 8)] (fun _ _ => True) (fun id x d => d.beginEnvelope id 2 x) ∧
  Acts .fwUpdate 0x1003 [(16, 8)] (fun _ _ => True) (fun id x d => d.beginEnvelope id 3 x) ∧
  Acts .attest 0x1004 [(16, 36)] (fun x d => imageFits (x.u32 48) 672 = true ∧ d.isSet Reg.SEC_STAT.IDENTITY_OK 0 = true)
    (fun id _ d => d.addSec id 4) ∧
  Acts .dbgFreeze 0x1101 [(16, 1)] (fun x d => x.byte 16 < 2 ∧ d.live = true ∧ d.frzEn = true ∧ d.frz.req = none)
    (fun id x d =>
      let quilt := x.byte 16 == 1 || d.isSet Reg.DBG_CFG.QUILT_FRZ 0
      d.setFrz { d.frz with req := some { at_ := d.tick + (if quilt then 6 else 2), quilt := quilt, cause := 3, late := 0, descs := [id] } })

/-- R473: an abort whose target has not started ends it ABORTED and itself OK; one whose target runs hands it to the unit's own settling. Where the
spec leaves a choice, the model's is log entry 15. -/
def Obligations.AbortsEndTheirTargets : Prop :=
  (∀ r, r.phase = .fetched →
    Acts .measAbort 0x0203 [(16, 6)] (fun x d => d.abortFinds x [0x0201, 0x0202, 0x0204] r) (fun id _ d => (d.fail r.id .aborted).done id 0) ∧
    Acts .posAbort 0x0404 [(16, 6)] (fun x d => d.abortFinds x [0x0402] r) (fun id _ d => (d.fail r.id .aborted).done id 0) ∧
    Acts .patAbort 0x0503 [(16, 6)] (fun x d => d.abortFinds x [0x0501, 0x0502] r) (fun id _ d => (d.fail r.id .aborted).done id 0) ∧
    Acts .loopAbort 0x0609 [(16, 6)] (fun x d => d.abortFinds x [0x0601] r) (fun id _ d => (d.fail r.id .aborted).done id 0) ∧
    Acts .shuttleAbort 0x0805 [(16, 6)] (fun x d => d.abortFinds x [0x0801, 0x0802] r) (fun id _ d => (d.fail r.id .aborted).done id 0) ∧
    Acts .quiltAbort 0x0A07 [(16, 4), (20, 2)] (fun x d => d.abortFinds x [0x0A01, 0x0A03] r) (fun id _ d => (d.fail r.id .aborted).done id 0) ∧
    Acts .busAbort 0x0B04 [(16, 4), (20, 2)] (fun x d => d.abortFinds x [0x0B01, 0x0B02] r) (fun id _ d => (d.fail r.id .aborted).done id 0) ∧
    Acts .nvmAbort 0x0C0C [(16, 6)] (fun x d => d.abortFinds x [0x0C02, 0x0C0A, 0x0C0B] r) (fun id _ d => (d.fail r.id .aborted).done id 0) ∧
    Acts .panelAbort 0x0D04 [(16, 6)] (fun x d => d.abortFinds x [0x0D01, 0x0D02] r) (fun id _ d => (d.fail r.id .aborted).done id 0) ∧
    Acts .fitAbort 0x0F04 [(16, 6)] (fun x d => d.abortFinds x [0x0F01] r) (fun id _ d => (d.fail r.id .aborted).done id 0) ∧
    Acts .secAbort 0x1005 [(16, 6)] (fun x d => d.abortFinds x [0x1003] r) (fun id _ d => (d.fail r.id .aborted).done id 0)) ∧
  (∀ r, r.phase = .running →
    Acts .measAbort 0x0203 [(16, 6)] (fun x d => d.abortFinds x [0x0201, 0x0202, 0x0204] r) (fun id _ d => settleMeas id r d) ∧
    Acts .posAbort 0x0404 [(16, 6)] (fun x d => d.abortFinds x [0x0402] r) (fun id _ d => settlePos id r d) ∧
    Acts .patAbort 0x0503 [(16, 6)] (fun x d => d.abortFinds x [0x0501, 0x0502] r) (fun id _ d => settlePat id r d) ∧
    Acts .loopAbort 0x0609 [(16, 6)] (fun x d => d.abortFinds x [0x0601] r) (fun id _ d => settleLoop id r d) ∧
    Acts .shuttleAbort 0x0805 [(16, 6)] (fun x d => d.abortFinds x [0x0801, 0x0802] r) (fun id _ d => settleShuttle id r d) ∧
    Acts .quiltAbort 0x0A07 [(16, 4), (20, 2)] (fun x d => d.abortFinds x [0x0A01, 0x0A03] r) (fun id _ d => settleQuilt id r d) ∧
    Acts .busAbort 0x0B04 [(16, 4), (20, 2)] (fun x d => d.abortFinds x [0x0B01, 0x0B02] r) (fun id _ d => settleBus id r d) ∧
    Acts .nvmAbort 0x0C0C [(16, 6)] (fun x d => d.abortFinds x [0x0C02, 0x0C0A, 0x0C0B] r) (fun id _ d => settleNvm id r d) ∧
    Acts .panelAbort 0x0D04 [(16, 6)] (fun x d => d.abortFinds x [0x0D01, 0x0D02] r) (fun id _ d => settlePanel id r d) ∧
    Acts .fitAbort 0x0F04 [(16, 6)] (fun x d => d.abortFinds x [0x0F01] r) (fun id _ d => settleFit id r d) ∧
    Acts .secAbort 0x1005 [(16, 6)] (fun x d => d.abortFinds x [0x1003] r) (fun id _ d => settleSec id r d))


/-! ### Host accesses -/

/-- R57, R65, R69, R177, R538, R575: the clearing and selecting registers of the host: what a write of each does while the endpoint is up and the core
die runs. Where the spec leaves a choice, the model's is log entries 57 and 183. -/
def Obligations.ClearWritesAct : Prop :=
  (∀ v, Runs (.blReqWrite v)
    (fun d => d.takesWrites ∧ d.isSealed = false ∧ bitAt v 17 = false ∧ bitsAt v 0 8 ≠ d.get Reg.GLOBAL_BLSEL.BL_REQ 0 ∧ 1 ≤ bitsAt v 0 8
      ∧ bitsAt v 0 8 ≤ d.part.stepping.blMax)
    (fun d => d.putHost Reg.GLOBAL_BLSEL.BL_REQ 0 (bitsAt v 0 8))) ∧
  Runs .clrCorrected Dev.takesWrites (fun d => d.put Reg.GLOBAL_MEMERR.CORRECTED 0 0) ∧
  Runs .clrUncorrectable Dev.takesWrites (fun d => d.put Reg.GLOBAL_MEMERR.UNCORRECTABLE 0 0) ∧
  (∀ k, Runs (.fieldErrClr k) (fun d => d.takesWrites ∧ d.dieFitted k = true)
    (fun d => (((((d.put Reg.FIELD_DOWN_ERR.LOST k 0).put Reg.FIELD_UP_ERR.CRC k 0).put Reg.FIELD_UP_ERR.OTHER k 0).put
      Reg.FIELD_HOLD_COUNT.ENTRIES k 0).put Reg.FIELD_HOLD_COUNT.LONGEST k 0).put Reg.FIELD_SAFE_COUNT.ENTRIES k 0)) ∧
  Runs .clrDip Dev.takesWrites (fun d => (d.put Reg.PWR_DIP.COUNT 0 0).put Reg.PWR_DIP.LAST_MIN 0 0xFFFF) ∧
  Runs .clrErr Dev.takesWrites
    (fun d => (List.range 16).foldl (fun (y : Dev) b => (y.put Reg.NVM_BANK.CORRECTED b 0).put Reg.NVM_BANK.UNCORRECTABLE b 0) d) ∧
  (∀ q, Runs (.fenceClr q) (fun d => d.takesWrites ∧ q < 64) (fun d => d.put Reg.SQ_STAT.FENCED q 0)) ∧
  (∀ v, Runs (.hostqWdogWrite v) (fun d => d.takesWrites ∧ bitsAt v 0 10 ≤ 600)
    (fun d => Dev.put { d with hostSince := d.tick } Reg.HOSTQ_WDOG.INTERVAL 0 (bitsAt v 0 10)))

/-- R52, R99, R106, R137, R147, R262, R293, R411, R452, R484, R491, R583: the configuration writes of the host while the endpoint is up and the core
die runs; a write that reaches a frozen core die waits for thaw. Where the spec leaves a choice, the model's is log entries 21, 108, 121, 130, 207 and
231. -/
def Obligations.ConfigurationWritesAct : Prop :=
  (∀ off v, Runs (.registerWrite off 4 v) (fun d => d.takesWrites ∧ off % 4 = 0) (fun d => d.writeReg off (v % 2 ^ 32))) ∧
  (∀ off v, Runs (.registerWrite off 8 v) (fun d => d.takesWrites ∧ off % 8 = 0)
    (fun d => (d.writeReg off (v % 2 ^ 32)).writeReg (off + 4) (v / 2 ^ 32 % 2 ^ 32))) ∧
  (∀ off size v, Runs (.registerWrite off size v)
    (fun d => d.power.phase = .up ∧ d.frozen = true ∧ off < 0xF2000 ∧ d.frz.posted.length < 256)
    (fun d => { d with frz := { d.frz with posted := d.frz.posted ++ [.reg off size v] } })) ∧
  (∀ u v, Runs (.uiModeWrite u v)
    (fun d => d.takesWrites ∧ u < 64 ∧ d.measHere 64 u = true ∧ d.inRange [Reg.UI_MODE.MODE, Reg.UI_MODE.BETA] v = true)
    (fun d => d.writeFlds [Reg.UI_MODE.MODE, Reg.UI_MODE.BETA] u v)) ∧
  (∀ u v, Runs (.uiGainShWrite u v) (fun d => d.takesWrites ∧ u < 64 ∧ d.measHere 64 u = true)
    (fun d =>
      let d1 := d.writeFlds [Reg.UI_GAIN_SH.S] u v
      (d1.dput Reg.UI_GAIN_SH.S u (d1.get Reg.UI_GAIN_SH.S u)).dput Reg.UI_GAIN.C u (d1.get Reg.UI_GAIN.C u))) ∧
  (∀ c v, Runs (.convCtrlWrite c v) (fun d => d.takesWrites ∧ c < 8 ∧ d.convHere c = true)
    (fun d => (if d.isSet Reg.CONV_CTRL.RUN c then d else d.setConv c { d.conv c with passAt := 0, passOwed := false }).writeFlds
      (if c % 2 = 0 then [Reg.CONV_CTRL.RUN, Reg.CONV_CTRL.PAIR, Reg.CONV_CTRL.LAST, Reg.CONV_CTRL.PASS_INT] else [Reg.CONV_CTRL.RUN, Reg.CONV_CTRL.LAST, Reg.CONV_CTRL.PASS_INT]) c v)) ∧
  (∀ off v, Runs (.mailboxWrite off v) (fun d => d.takesWrites ∧ (0x30000 ≤ off ∧ off < 0x50000 ∨ 0x80000 ≤ off ∧ off < 0xC0000))
    (fun d => d.writeField (off / 4 * 4) (v % 2 ^ 32))) ∧
  (∀ off v f i h, Runs (.mailboxWrite off v)
    (fun d => d.takesWrites ∧ (0x30000 ≤ off ∧ off < 0x50000 ∨ 0x80000 ≤ off ∧ off < 0xC0000) ∧ off % 4 = 0 ∧ v < 2 ^ 32
      ∧ findReg off = some ([f], i, h) ∧ f.ty = .rw ∧ d.fieldRegHere off i (max 1 f.count) = true ∧ d.inRange [f] v = true
      ∧ d.posWriteOk off i v = true ∧ d.fanWriteOk off i v = true ∧ d.dioWriteOk off i v = true ∧ d.shutWriteOk off i i i v = true
      ∧ off ≠ 0x30024 ∧ off ≠ 0x40024 ∧ off ≠ Reg.DO_CFG.SAFE.addr i ∧ off ≠ Reg.DI_CFG.TYPE.addr i ∧ off ≠ Reg.DI_DEB.DEBOUNCE.addr i
      ∧ off ≠ Reg.SOL_TTP_COMM.TMIN_COMM.addr i ∧ off ≠ Reg.DIO_DARK.EN_A.addr 0 ∧ fanCoreReg off i = false)
    (fun d => (d.writeFlds [f] i v).post (regDie off i (max 1 f.count)) (.reg off v))) ∧
  (∀ v, Runs (.patCtrlWrite v) (fun d => d.takesWrites ∧ d.modelValid = true)
    (fun d =>
      let d1 := (d.putHost Reg.PAT_CTRL.RUN 0 (v % 2)).putHost Reg.PAT_CTRL.ADAPT_HOLD 0 (v / 2 % 2)
      if d1.modelValid then { d1 with pat := { d1.pat with ctrl := some v } } else (d1.patCtrl v).showRunning)) ∧
  (∀ v, Runs (.loopCtrlWrite v) Dev.takesWrites
    (fun d =>
      let d1 := d.putHost Reg.LOOP_CTRL.RUN 0 (v % 2)
      let d2 := d1.putBit Reg.LOOP_STAT.RUNNING 0 (bitAt v 0 && d1.eng.stopFrom.isNone && !d1.nvm.noControl)
      if bitAt v 0 && !d.isSet Reg.LOOP_CTRL.RUN 0 then d2.resumeAll else d2)) ∧
  (∀ n v, Runs (.busCfgWrite n v) (fun d => d.takesWrites ∧ n < 16 ∧ baudOk (bitsAt v 0 2) (bitsAt v 4 4) = true)
    (fun d =>
      let d1 := (((d.putHost Reg.BUS_CFG.MODE n (bitsAt v 0 2)).putHost Reg.BUS_CFG.BAUD n (bitsAt v 4 4)).putHost Reg.BUS_CFG.DE_TAIL n
        (bitsAt v 8 4)).putHost Reg.BUS_CFG.AUTO_TEST n (bitsAt v 12 1)
      if bitsAt v 0 2 != d.get Reg.BUS_CFG.MODE n || bitsAt v 4 4 != d.get Reg.BUS_CFG.BAUD n then
        let d2 := ((d1.busFlush n true).putRet Reg.BUS_MB.POLL_RUN n 0).emit (.pin ("BUS_DE" ++ toString n) false)
        (if bitsAt v 0 2 = busOFF then d2.emit (.pin ("BUS_TXD" ++ toString n) true) else d2).busRestart n
      else d1)) ∧
  (∀ v, Runs (.portEnWrite v) (fun d => d.takesWrites ∧ bitsAt v 9 7 ≠ 0)
    (fun d =>
      let d1 := ((((d.putHost Reg.QUILT_CFG.PORT_EN 0 (bitsAt v 0 8)).putHost Reg.QUILT_CFG.AUTO_REVERT 0 (bitsAt v 8 1)).putHost
        Reg.QUILT_CFG.REVERT_TIME 0 (bitsAt v 9 7)).putHost Reg.QUILT_CFG.REPORT_DEV 0 (bitsAt v 16 10)).putHost
        Reg.QUILT_CFG.REPORT_EN 0 (bitsAt v 26 1)
      if 12 ≤ d1.get Reg.PWR_STAT.START_STEP 0 then d1.applyPortEn else d1)) ∧
  (∀ p v, Runs (.portEqWrite p v) (fun d => d.takesWrites ∧ p < 8)
    (fun d => ((d.putHost Reg.PORT_EQ.TX_DEEMPH p (bitsAt v 0 4)).putHost Reg.PORT_EQ.RX_CTLE p (bitsAt v 8 4)).put Reg.PORT_EQ.BY_FITTING p 0)) ∧
  (∀ v, Runs (.panelEnWrite v) (fun d => d.takesWrites ∧ d.isSet Reg.PANEL_CFG.EN 0 = false ∧ v % 2 = 1)
    (fun d =>
      let d2 := (((((d.put Reg.PANEL_CFG.EN 0 1).put Reg.PANEL_CFG.FL_EN 0 (v / 2 % 2)).put Reg.PANEL_CFG.CLEAR_AT_START 0 (v / 4 % 2)).put
        Reg.PANEL_CFG.CLEAR_LEVEL 0 (bitsAt v 4 4)).put Reg.PANEL_CFG.RAIL_HOLD 0 (bitsAt v 8 8)).markHost (Reg.PANEL_CFG.EN.addr 0)
      ((d2.put Reg.PANEL_STAT.RAIL_LATCHED 0 0).setPanel { d2.panel with faultRow := 0 }).showFrontlight))

/-- R458, R460, R479, R480, R482: a ring's ENABLE set and cleared, the doorbells within their rings, and the heartbeat. Where the spec leaves a
choice, the model's is log entries 28, 29 and 32. -/
def Obligations.RingWritesAct : Prop :=
  (∀ r, Runs (.ringEnable r)
    (fun d => d.takesWrites ∧ r < 64 ∧ d.ringEnabled r = false ∧ d.isSet Reg.CQ_CTRL.ENABLE (d.get Reg.SQ_CFG.CQ r) = true ∧ d.inflight r = 0
      ∧ d.remote = false)
    (fun d => ((((d.put Reg.SQ_CTRL.ENABLE r 1).put Reg.SQ_STAT.HEAD r 0).put Reg.SQ_STAT.TAIL r 0).put Reg.SQ_STAT.FAULT r 0).put
      Reg.SQ_STAT.FENCED r 0)) ∧
  (∀ c, Runs (.ringEnable (64 + c)) (fun d => d.takesWrites ∧ c < 64 ∧ d.ringEnabled (64 + c) = false ∧ d.remote = false)
    (fun d => (((d.put Reg.CQ_CTRL.ENABLE c 1).put Reg.CQ_STAT.HEAD c 0).put Reg.CQ_STAT.TAIL c 0).put Reg.CQ_STAT.PHASE c 1)) ∧
  Runs (.ringEnable 128) (fun d => d.takesWrites ∧ d.ringEnabled 128 = false ∧ d.remote = false)
    (fun d => (((d.put Reg.EQ_CTRL.ENABLE 0 1).put Reg.EQ_STAT.HEAD 0 0).put Reg.EQ_STAT.TAIL 0 0).put Reg.EQ_STAT.PHASE 0 1) ∧
  (∀ t, Runs (.ringEnable (129 + t)) (fun d => d.takesWrites ∧ t < 4 ∧ d.ringEnabled (129 + t) = false ∧ d.remote = false)
    (fun d => ((d.put Reg.TQ_CTRL.ENABLE t 1).put Reg.TQ_STAT.HEAD t 0).put Reg.TQ_STAT.TAIL t 0)) ∧
  (∀ r, Runs (.ringDisable r) (fun d => d.takesWrites ∧ r < 64 ∧ d.ringEnabled r = true)
    (fun d => (d.put Reg.SQ_CTRL.ENABLE r 0).endFetched r .aborted)) ∧
  (∀ c, Runs (.ringDisable (64 + c)) (fun d => d.takesWrites ∧ c < 64 ∧ d.ringEnabled (64 + c) = true ∧ d.cqNeeded c = false)
    (fun d => d.put Reg.CQ_CTRL.ENABLE c 0)) ∧
  Runs (.ringDisable 128) (fun d => d.takesWrites ∧ d.ringEnabled 128 = true) (fun d => d.put Reg.EQ_CTRL.ENABLE 0 0) ∧
  (∀ t, Runs (.ringDisable (129 + t)) (fun d => d.takesWrites ∧ t < 4 ∧ d.ringEnabled (129 + t) = true) (fun d => d.put Reg.TQ_CTRL.ENABLE t 0)) ∧
  (∀ q v, Runs (.sqTailDoorbell q v)
    (fun d => d.takesWrites ∧ q < 64 ∧ d.isSet Reg.SQ_CTRL.ENABLE q = true ∧ v < 2 ^ d.get Reg.SQ_CFG.SIZE_LOG2 q ∧ v < 2 ^ 32)
    (fun d => d.put Reg.SQ_STAT.TAIL q v)) ∧
  (∀ c v, Runs (.cqHeadDoorbell c v)
    (fun d => d.takesWrites ∧ c < 64 ∧ d.isSet Reg.CQ_CTRL.ENABLE c = true ∧ v < 2 ^ d.get Reg.CQ_CFG.SIZE_LOG2 c ∧ v < 2 ^ 32)
    (fun d => d.put Reg.CQ_STAT.HEAD c v)) ∧
  (∀ v, Runs (.eqHeadDoorbell v)
    (fun d => d.takesWrites ∧ d.isSet Reg.EQ_CTRL.ENABLE 0 = true ∧ v < 2 ^ d.get Reg.EQ_CFG.SIZE_LOG2 0 ∧ v < 2 ^ 32)
    (fun d => d.put Reg.EQ_STAT.HEAD 0 v)) ∧
  (∀ t v, Runs (.tqHeadDoorbell t v)
    (fun d => d.takesWrites ∧ t < 4 ∧ d.isSet Reg.TQ_CTRL.ENABLE t = true ∧ v < 2 ^ d.get Reg.TQ_CFG.SIZE_LOG2 t ∧ v < 2 ^ 32)
    (fun d => d.put Reg.TQ_STAT.HEAD t v)) ∧
  (∀ v, Runs (.heartbeat v) (fun d => d.takesWrites ∧ d.isSet Reg.HOSTQ_STAT.HOST_LOST 0 = false) (fun d => { d with hostSince := d.tick })) ∧
  (∀ v, Runs (.heartbeat v)
    (fun d => d.takesWrites ∧ d.isSet Reg.HOSTQ_STAT.HOST_LOST 0 = true
      ∧ (d.get Reg.HOSTQ_STAT.LOST_CAUSE 0 ≠ 2 ∧ d.get Reg.HOSTQ_STAT.LOST_CAUSE 0 ≠ 3 ∨ d.isSet Reg.EQ_CTRL.ENABLE 0 = true))
    (fun d => (Dev.put { d with hostSince := d.tick } Reg.HOSTQ_STAT.HOST_LOST 0 0).raise 0x0104 d.nullName
      ([0, d.get Reg.HOSTQ_STAT.LOST_CAUSE 0, 0, 0] ++ leBytes 4 (min ((d.tick - d.lostSince) / 10000) 0xFFFFFFFF)
        ++ leBytes 4 (d.get Reg.HOSTQ_LOST.COMPLETIONS 0))))

/-- R33, R34, R52, R53, R68, R653, R684, R686: the host's reads that change the device, its BAR4 accesses, THAW, and the recovery control register.
Where the spec leaves a choice, the model's is log entries 5, 20, 21, 33, 163 and 177. -/
def Obligations.HostReadsAndMemoryAccessesAct : Prop :=
  Runs .tickLoRead (fun d => d.hostOpen = true ∧ d.frozen = false)
    (fun d => Dev.emit { d with tickLatch := d.tick / 2 ^ 32 % 2 ^ 32 } (.readData (d.tick % 2 ^ 64) false)) ∧
  Runs .tickLoRead (fun d => d.hostOpen = true ∧ d.frozen = true) (fun d => d.emit (.readData (d.tick % 2 ^ 64) false)) ∧
  Runs .dbgRoDataRead (fun d => d.power.phase = .up)
    (fun d =>
      let i := d.get Reg.DBG_RO_SEL.INDEX 0
      let r := d.readOut (d.get Reg.DBG_RO_SEL.SPACE 0) i
      ((r.2.put Reg.DBG_RO_DATA.DATA 0 r.1).put Reg.DBG_RO_SEL.INDEX 0 (i + 1)).emit (.readData r.1 false)) ∧
  Runs .dbgThaw (fun d => d.power.phase = .up ∧ ∃ r, d.frz.cur = some r ∧ r.quilt = false) (fun d => d.setFrz { d.frz with thawAsked := 2 }) ∧
  (∀ v, Runs (.fwRecGo v) (fun d => d.power.phase = .recovery ∧ bitAt v 31 = false) (fun d => d.put Reg.FW_REC_CTRL.LENGTH 0 (bitsAt v 0 24))) ∧
  (∀ v, Runs (.fwRecGo v) (fun d => d.power.phase = .recovery ∧ bitAt v 31 = true)
    (fun d =>
      let r := ((d.put Reg.FW_REC_CTRL.LENGTH 0 (bitsAt v 0 24)).bump Reg.FW_REC_STAT.ATTEMPTS 0 0xFFFF).stagedCode (bitsAt v 0 24)
      if r.1.1 = 0 then
        ((Dev.recordNow ((((r.2.put Reg.FW_REC_STAT.PASSED 0 1).put Reg.FW_STAT.PREFERRED 0 0).put Reg.FW_STAT.TRIAL 0 0).put
          Reg.FW_STAT.VALID_A 0 1) (Reg.FW_STAT.PREFERRED.addr 0)).emit (.flash 0 r.1.2)).leaveRecovery
      else r.2.put Reg.FW_REC_STAT.CHECK 0 r.1.1)) ∧
  (∀ off len us, Runs (.bar4Read off len us)
    (fun d => d.hostOpen = true ∧ 1 ≤ len ∧ off + len ≤ 2 ^ 24
      ∧ (d.frozen = false ∨ d.get Reg.GLOBAL_SEAL.OWNER_STATE 0 ≠ ownSealed ∨ d.isSet Reg.DBG_CFG.RO_OPEN 0 = true))
    (fun d =>
      let r := (d.upset us).bar4Words (off / 32) ((off + len - 1) / 32 + 1 - off / 32)
      r.2.emit (.readBytes ((r.1.drop (off % 32)).take len)))) ∧
  (∀ off bs us, Runs (.bar4Write off bs us) (fun d => d.hostOpen = true ∧ bs ≠ [] ∧ off + bs.length ≤ 2 ^ 24 ∧ d.frozen = false)
    (fun d => (d.upset us).bar4Put off bs)) ∧
  (∀ off bs us, Runs (.bar4Write off bs us)
    (fun d => d.hostOpen = true ∧ bs ≠ [] ∧ off + bs.length ≤ 2 ^ 24 ∧ d.frozen = true ∧ d.frz.posted.length < 256)
    (fun d => Dev.postHost (d.upset us) (.mem off bs)))


/-! ### Supplies and start -/

/-- R514, R527 to R529, R650, R653: the start of the supplies and of the firmware, row by row. Where the spec leaves a choice, the model's is log
entries 163, 166 and 174. -/
def Obligations.StartSequenceAdvances : Prop :=
  Runs .vl24Good (fun d => d.power.phase = .waitVl24) (fun d => (d.raiseEnable 1).put Reg.PWR_STAT.START_STEP 0 2) ∧
  (∀ r, Runs (.powerGoodRise r) (fun d => d.power.phase = .waitPowerGood r ∧ r < 3) (fun d => d.raiseEnable (r + 1))) ∧
  Runs (.powerGoodRise 3) (fun d => d.power.phase = .waitPowerGood 3 ∧ d.power.rstLow = false)
    (fun d => (d.put Reg.PWR_STAT.START_STEP 0 3).startStep4) ∧
  Runs (.powerGoodRise 3) (fun d => d.power.phase = .waitPowerGood 3 ∧ d.power.rstLow = true)
    (fun d => (d.put Reg.PWR_STAT.START_STEP 0 3).setPower { d.power with phase := .heldRst }) ∧
  (∀ r, Runs (.pgTimeout r) (fun d => d.power.phase = .waitPowerGood r)
    (fun d => d.lowerEnables.setPower { d.lowerEnables.power with phase := .retryWait, attempts := d.lowerEnables.power.attempts + 1, failedRail := r })) ∧
  Runs .startRetry (fun d => d.power.phase = .retryWait) (fun d => (d.raiseEnable 1).put Reg.PWR_STAT.START_STEP 0 2) ∧
  (∀ a b mode k, Runs (.firmwareVerified a b mode)
    (fun d => d.power.phase = .booting
      ∧ ((d.bootIdentity.put Reg.PWR_STAT.START_STEP 0 5).put Reg.PWR_STAT.LAST_RESET 0 d.power.resetCause).bootSlot a b = some k)
    (fun d =>
      let d1 := (d.bootIdentity.put Reg.PWR_STAT.START_STEP 0 5).put Reg.PWR_STAT.LAST_RESET 0 d.power.resetCause
      let d3 := ((d1.booted k (if k = 0 then a else b)).restoreAll.pmbusOpen mode).put Reg.PWR_STAT.START_STEP 0 6
      d3.setPower { d3.power with phase := .restored })) ∧
  (∀ a b mode, Runs (.firmwareVerified a b mode)
    (fun d => d.power.phase = .booting
      ∧ ((d.bootIdentity.put Reg.PWR_STAT.START_STEP 0 5).put Reg.PWR_STAT.LAST_RESET 0 d.power.resetCause).bootSlot a b = none)
    (fun d => ((d.bootIdentity.put Reg.PWR_STAT.START_STEP 0 5).put Reg.PWR_STAT.LAST_RESET 0 d.power.resetCause).enterRecovery)) ∧
  (∀ a b, Runs (.fwReverify a b) (fun d => d.power.phase = .recovery ∧ (d.bootSlot a b).isSome = true) (fun d => d.leaveRecovery)) ∧
  Runs .vl24FallAtStart (fun d => d.power.phase = .booting ∨ d.power.phase = .retryWait ∨ ∃ r, d.power.phase = .waitPowerGood r)
    (fun d => (d.coreReset true).lowerEnables.setPower { (d.coreReset true).lowerEnables.power with phase := .waitVl24 })

/-- R516, R519 to R523, R562, R664: the warning begins, the save ends, the warning ends, and the requests for a reset. Where the spec leaves a choice,
the model's is log entries 169, 170 and 236. -/
def Obligations.WarningRowsAct : Prop :=
  (∀ v h, Runs (.pfwNFalling v h) (fun d => d.power.phase = .up ∧ d.dip = false ∧ v < d.warnLevel) (fun d => d.enterWarning v h true)) ∧
  (∀ v h, Runs (.pfwNFalling v h) (fun d => d.power.phase = .up ∧ d.dip = true ∧ v < d.warnLevel) (fun d => d.joinWarning v h)) ∧
  Runs .saveEnd (fun d => d.dip = true ∧ d.nvm.save.isSome = true ∧ d.pageEnergyOk = true) (fun d => (d.saveCommit.put Reg.PWR_STAT.SAVING 0 0).put Reg.PWR_STAT.SAVE_DONE 0 1) ∧
  (∀ v, Runs (.vl24AboveResume v) (fun d => d.dip = true ∧ d.resumeLevel < v)
    (fun d => (d.setPower { d.power with resumeTimer := some (d.power.resumeTimer.getD d.tick) }).put Reg.PWR_VOLT.VL24 0 (min v 0xFFFF))) ∧
  (∀ v t, Runs (.warningEnd v)
    (fun d => d.dip = true ∧ d.power.resumeTimer = some t ∧ d.passedSince t 200 = true ∧ d.nvm.save = none ∧ d.power.rstResetDue = false
      ∧ d.resumeLevel < v)
    (fun d =>
      let d1 := ((d.put Reg.PWR_VOLT.VL24 0 (min v 0xFFFF)).put Reg.PWR_STAT.DIP 0 0).setPower
        { d.power with resumeTimer := none, resumeDue := true, left := some (d.tick - d.power.warnStart), dipSafeStopped := false }
      let d2 := { d1 with fit := { d1.fit with rerunAt := d1.tick } }
      let d3 := if d2.nvm.noControl then d2 else d2.setPfw false
      if d3.frozen then d3 else d3.showFrontlight.kickWrites)) ∧
  Runs .dipSafeExpiry (fun d => d.power.phase = .up ∧ d.dip = true ∧ 1 ≤ d.get Reg.PWR_CFG.DIP_SAFE 0
      ∧ d.power.warnStart + 10000 * d.get Reg.PWR_CFG.DIP_SAFE 0 ≤ d.tick)
    (fun d => d.setPower { d.power with dipSafeStopped := true }) ∧
  Runs .rstNLow (fun d => d.power.phase = .up ∧ d.dip = false)
    (fun d =>
      let since := if d.power.rstResetDue then d.power.rstAt else some d.tick
      let d1 := d.setPower { d.power with rstLow := true, rstResetDue := true, rstAt := since }
      d1.enterWarning (d1.get Reg.PWR_VOLT.VL24 0) (d1.get Reg.PWR_VOLT.VHOLD 0) false) ∧
  Runs .firmwareWatchdog (fun d => d.live = true ∧ d.dip = false)
    (fun d =>
      let since := if d.power.rstResetDue then d.power.rstAt else some d.tick
      let d1 := d.setPower { d.power with watchdogAt := some d.tick, rstResetDue := true, rstAt := since }
      d1.enterWarning (d1.get Reg.PWR_VOLT.VL24 0) (d1.get Reg.PWR_VOLT.VHOLD 0) false)

/-- R76, R518, R519, R661, R665: the resets of the core die, and the ends of what holds it. Where the spec leaves a choice, the model's is log entries
6, 8 and 171. -/
def Obligations.ResetRowsAct : Prop :=
  Runs .rstNResetDue
    (fun d => d.power.rstResetDue = true ∧ d.coreUp = true
      ∧ (d.nvm.save = none ∨ d.power.phase ≠ .up ∨ ∃ t, d.power.rstAt = some t ∧ d.passedSince t 500 = true))
    (fun d =>
      let d1 := (d.latchReset 4).coreReset false
      let d2 := if d.isSet Reg.PWR_STAT.PFW 0 then d1 else d1.setPfw true
      if d2.power.rstLow then d2.setPower { d2.power with phase := .heldRst } else d2.startStep4) ∧
  Runs .rstNRise (fun d => d.power.phase = .heldRst) (fun d => (d.setPower { d.power with rstLow := false }).startStep4) ∧
  (∀ vio vcore pg v h c, Runs (.supplyReset { vio := vio, vcore := vcore, powerGood := pg } v h)
    (fun d => (c = 1 ∧ vio < 2950
        ∨ c = 2 ∧ 2950 ≤ vio ∧ (vcore < d.vcoreWindow.1 ∨ d.vcoreWindow.2 < vcore)
        ∨ c = 3 ∧ 2950 ≤ vio ∧ d.vcoreWindow.1 ≤ vcore ∧ vcore ≤ d.vcoreWindow.2 ∧ ∃ r, 1 ≤ r ∧ r ≤ 3 ∧ pg.testBit r = false)
      ∧ (d.coreUp = true ∨ d.power.phase = .heldRst ∨ d.power.phase = .heldClkref))
    (fun d =>
      let d1 := ((((d.putVolts v h).latchReset c).coreReset true).lowerEnables)
      let d2 := if d.isSet Reg.PWR_STAT.PFW 0 then d1 else d1.setPfw true
      d2.setPower { d2.power with phase := .waitVl24, vout := 800, voutPrev := 800 })) ∧
  Runs .clkrefLost (fun d => d.coreUp = true)
    (fun d =>
      let d1 := (d.nextFree.latchReset (d.freeBits.toNat % 8)).coreReset false
      let d2 := if d.isSet Reg.PWR_STAT.PFW 0 then d1 else d1.setPfw true
      d2.setPower { d2.power with phase := .heldClkref, clkrefLostAt := some d.tick }) ∧
  Runs .clkrefRestored (fun d => d.power.phase = .heldClkref)
    (fun d =>
      let d1 := d.logAtBoot 1 (d.power.clkrefLostAt.getD 0)
      if d1.power.rstLow then d1.setPower { d1.power with phase := .heldRst } else d1.startStep4)

/-- R534, R535, R537: the PMBus transactions. Where the spec leaves a choice, the model's is log entries 172, 173 and 237. -/
def Obligations.PmbusRowsAct : Prop :=
  (∀ m, Runs (.vcoreStep (.answer m)) (fun d => d.power.vout ≠ d.get Reg.PWR_VCORE.TARGET 0 ∧ d.pmbusDue 0x21 d.power.voutAt 100 = true)
    (fun d =>
      let v := voutStep d.power.vout (d.get Reg.PWR_VCORE.TARGET 0)
      let d1 := (d.setPower { d.power with voutAt := d.tick + 1 }).emit (.pmbus 0x21 (voutMantissa v d.power.vexp))
      (d1.setPower { d1.power with vout := v, voutPrev := d.power.vout, pmbusRetry := 0 }).putBit Reg.PWR_STAT.VCORE_RAMP 0
        (v != d.get Reg.PWR_VCORE.TARGET 0))) ∧
  (∀ m, Runs (.readVoutPoll (.answer m)) (fun d => d.pmbusDue 0x8B d.power.readAt 1000 = true)
    (fun d =>
      let d1 := (d.setPower { d.power with readAt := d.tick + 1 }).emit (.pmbus 0x8B 0)
      (d1.setPower { d1.power with pmbusRetry := 0 }).put Reg.PWR_VCORE.READ 0 (voutMv m d.power.vexp))) ∧
  (∀ w mode, Runs (.statusWordPoll (.answer w) mode) (fun d => d.tryDue = false ∧ d.pmbusDue 0x79 d.power.statusAt 10000 = true)
    (fun d =>
      let d1 := (d.setPower { d.power with statusAt := d.tick + 1 }).emit (.pmbus 0x79 0)
      if vcoreFault w then d1.pmbusStop 4 w else d1.setPower { d1.power with pmbusRetry := 0 })) ∧
  (∀ r mode, Runs (.statusWordPoll r mode) (fun d => d.tryDue = true) (fun d => d.pmbusTry r mode)) ∧
  (∀ m c, (m = .noAnswer ∧ c = 1 ∨ m = .pecMismatch ∧ c = 2) →
    Runs (.readVoutPoll m) (fun d => d.pmbusDue 0x8B d.power.readAt 1000 = true)
      (fun d => ((d.setPower { d.power with readAt := d.tick + 1 }).emit (.pmbus 0x8B 0)).pmbusFail 0x8B c)) ∧
  (∀ c, Runs .pmbusTimeout (fun d => d.tryDue = false ∧ d.pmbusOn = true ∧ c ≠ 0 ∧ d.pmbusCommand = c ∧ d.power.pmbusRetry ≠ c)
    (fun d => d.setPower { d.power with pmbusRetry := c })) ∧
  Runs .pmbusTimeout (fun d => d.tryDue = false ∧ d.pmbusOn = true ∧ d.power.pmbusRetry ≠ 0) (fun d => d.pmbusStop 1 0)

/-! ### Ticks, frames and field dies -/

/-- R32, R78, R142, R147, R152, R677: the tick boundary of the core die, the scrubber, and the frames that cross the barrier. Where the spec leaves a
choice, the model's is log entries 47, 48, 49, 50, 176, 205 and 214. -/
def Obligations.TickAndFrameRowsAct : Prop :=
  (∀ v h, Runs (.tickBoundary v h) (fun d => d.power.phase = .restored) (fun d => Dev.firstBoundary { d with tick := d.tick + 1 } v h)) ∧
  (∀ v h, Runs (.tickBoundary v h) (fun d => d.live = true ∧ d.frz.req = none ∧ (Dev.coreBoundary { d with tick := d.tick + 1 } v h).nvm.restart = false)
    (fun d => Dev.coreBoundary { d with tick := d.tick + 1 } v h)) ∧
  (∀ u, Runs (.scrubRead u) (fun d => d.live = true ∧ d.tick % 16 = 0 ∧ d.scrubAt ≠ d.tick + 1)
    (fun d => { ((d.upset [(d.scrub, u)]).readWord d.scrub 7).2 with scrub := (d.scrub + 1) % memWords, scrubAt := d.tick + 1 })) ∧
  (∀ f w, Runs (.upFrame 0 true w)
    (fun d => d.upA = some f ∧ d.live = true ∧ d.isSet Reg.GLOBAL_FAULT_STAT.STOPPED_A 0 = false ∧ frameCheck (upFrameBytes f) w d.tick = 0)
    (fun d => Dev.takeUp { d with upA := none } 0 f)) ∧
  (∀ f w, Runs (.upFrame 1 true w)
    (fun d => d.upB = some f ∧ d.live = true ∧ d.dieFitted 1 = true ∧ d.isSet Reg.GLOBAL_FAULT_STAT.STOPPED_B 0 = false
      ∧ frameCheck (upFrameBytes f) w d.tick = 0)
    (fun d => Dev.takeUp { d with upB := none } 1 f)) ∧
  (∀ f w, Runs (.upFrame 0 true w)
    (fun d => d.upA = some f ∧ d.live = true ∧ d.isSet Reg.GLOBAL_FAULT_STAT.STOPPED_A 0 = false ∧ frameCheck (upFrameBytes f) w d.tick = 1)
    (fun d => (Dev.put { d with upA := none } Reg.FIELD_STAT.UP_LINK_OK 0 0).bump Reg.FIELD_UP_ERR.CRC 0 0xFFFF)) ∧
  (∀ f w, Runs (.upFrame 1 true w)
    (fun d => d.upB = some f ∧ d.live = true ∧ d.dieFitted 1 = true ∧ d.isSet Reg.GLOBAL_FAULT_STAT.STOPPED_B 0 = false
      ∧ frameCheck (upFrameBytes f) w d.tick = 1)
    (fun d => (Dev.put { d with upB := none } Reg.FIELD_STAT.UP_LINK_OK 1 0).bump Reg.FIELD_UP_ERR.CRC 1 0xFFFF)) ∧
  (∀ f w, Runs (.upFrame 0 true w)
    (fun d => d.upA = some f ∧ d.live = true ∧ d.isSet Reg.GLOBAL_FAULT_STAT.STOPPED_A 0 = false
      ∧ 1 < frameCheck (upFrameBytes f) w d.tick)
    (fun d => (Dev.put { d with upA := none } Reg.FIELD_STAT.UP_LINK_OK 0 0).bump Reg.FIELD_UP_ERR.OTHER 0 0xFFFF)) ∧
  (∀ k, Runs (.barrierDown k)
    (fun d => k < 2 ∧ d.live = true ∧ d.dieFitted k = true ∧ d.isSet Reg.FIELD_STAT.BARRIER_DOWN k = false ∧ d.get Reg.FIELD_CFG.HOLD_WIN k ≤ d.upMiss k)
    (fun d => ((d.put Reg.FIELD_STAT.BARRIER_DOWN k 1).barrierWords k).raise 0x0308 d.nullName ([k, 1, 0, 0] ++ leBytes 4 (d.upMiss k)))) ∧
  (∀ f w, Runs (.downFrame 0 true w)
    (fun d => d.downA = some f ∧ d.dieLive 0 = true ∧ d.dieA.intOsc = false ∧ frameCheck (downFrameBytes f) w (d.dieA.tick + 1) = 0)
    (fun d => { d with downA := none, dieA := { d.dieA with
      frame := some f, intOsc := false, quiet := false, mailAck := if f.mail.isSome then f.mailSeq else d.dieA.mailAck } })) ∧
  (∀ f w, Runs (.downFrame 1 true w)
    (fun d => d.downB = some f ∧ d.dieLive 1 = true ∧ d.dieB.intOsc = false ∧ frameCheck (downFrameBytes f) w (d.dieB.tick + 1) = 0)
    (fun d => { d with downB := none, dieB := { d.dieB with
      frame := some f, intOsc := false, quiet := false, mailAck := if f.mail.isSome then f.mailSeq else d.dieB.mailAck } })) ∧
  (∀ f w, Runs (.downFrame 0 true w)
    (fun d => d.downA = some f ∧ d.dieLive 0 = true ∧ d.dieA.intOsc = true ∧ frameCheck (downFrameBytes f) w f.apply = 0)
    (fun d => { d with downA := none, dieA := { d.dieA with
      frame := some f, intOsc := false, quiet := false, mailAck := (if f.mail.isSome then f.mailSeq else d.dieA.mailAck), tick := f.apply - 1 } })) ∧
  (∀ f w, Runs (.downFrame 0 true w)
    (fun d => d.downA = some f ∧ d.dieLive 0 = true ∧ frameCheck (downFrameBytes f) w (if d.dieA.intOsc then f.apply else d.dieA.tick + 1) ≠ 0)
    (fun d => { d with downA := none, dieA := { d.dieA with lost := min 255 (d.dieA.lost + 1) } })) ∧
  (∀ k sense, Runs (.fieldTickBoundary k sense) (fun d => k < 2 ∧ d.dieLive k = true ∧ (d.fd k).frame = none)
    (fun d =>
      let x := d.fd k
      let d1 := (d.setFd k { x with tick := x.tick + 1, bounds := x.bounds + 1, clock := x.clock + x.tickSamples, frame := none }).senseDos k sense
      let d2 := d1.badBoundary k
      let d3 := (List.range 16).foldl (fun (y : Dev) n => y.floatRun (globalOf clsFLOAT k n)) (d2.darkBoundary k)
      let d4 := (d3.fanAoBoundary k sense.aoMv).solBoundary k sense.vf24 sense.hotClamps sense.hotBanks
      ((((d4.posBoundary k).startTests k sense.selfTests).switchUis k (x.tick + 1)).latchMeas k (x.tick + 1)).sendUp k)) ∧
  (∀ k sense f, Runs (.fieldTickBoundary k sense) (fun d => k < 2 ∧ d.dieLive k = true ∧ (d.fd k).frame = some f)
    (fun d =>
      let x := d.fd k
      let d1 := (d.setFd k { x with tick := x.tick + 1, bounds := x.bounds + 1, clock := x.clock + x.tickSamples, frame := none }).senseDos k sense
      let d2 := (match f.mail with
        | some m => d1.applyMail k f.dip m
        | none => d1).goodBoundary k f
      let d3 := (List.range 16).foldl (fun (y : Dev) n => y.floatRun (globalOf clsFLOAT k n)) (d2.darkBoundary k)
      let d4 := (d3.fanAoBoundary k sense.aoMv).solBoundary k sense.vf24 sense.hotClamps sense.hotBanks
      ((((d4.posBoundary k).startTests k sense.selfTests).switchUis k (x.tick + 1)).latchMeas k (x.tick + 1)).sendUp k)) ∧
  (∀ f w, Runs (.upFrame 0 false w) (fun d => d.upA = some f ∧ d.live = true ∧ d.isSet Reg.GLOBAL_FAULT_STAT.STOPPED_A 0 = false)
    (fun d => Dev.put { d with upA := none } Reg.FIELD_STAT.UP_LINK_OK 0 0)) ∧
  (∀ f w, Runs (.downFrame 1 false w) (fun d => d.downB = some f ∧ d.dieLive 1 = true)
    (fun d => { d with downB := none, dieB := { d.dieB with lost := min 255 (d.dieB.lost + 1) } }))

/-- R139, R148 to R151, R174, R175: the output states of a field die: its windows expire, its links fall silent, VF24 falls and recovers. Where the
spec leaves a choice, the model's is log entries 3, 51 and 55. -/
def Obligations.FieldStateRowsAct : Prop :=
  (∀ k, Runs (.holdWindowExpiry k)
    (fun d => k < 2 ∧ d.dieLive k = true ∧ ((d.fd k).state = .hold ∨ (d.fd k).state = .dipHold) ∧ d.dget Reg.FIELD_CFG.HOLD_WIN k < (d.fd k).held)
    (fun d => (d.enterSafe k 1).fanAoDriven k)) ∧
  (∀ k, Runs (.freezeHoldLimit k) (fun d => k < 2 ∧ d.dieLive k = true ∧ (d.fd k).state = .freezeHold ∧ 1000 * d.dget Reg.FIELD_FRZ_HOLD.LIMIT k ≤ (d.fd k).held)
    (fun d => (d.enterSafe k 2).fanAoDriven k)) ∧
  (∀ k, Runs (.downLinkSilent k) (fun d => k < 2 ∧ d.dieFitted k = true) (fun d => d.setFd k { d.fd k with intOsc := true })) ∧
  (∀ k mv, Runs (.vf24Low k mv) (fun d => k < 2 ∧ d.dieFitted k = true ∧ (d.fd k).vf24Low = false)
    (fun d =>
      let d2 := (List.range 16).foldl (fun (y : Dev) n =>
        let f := globalOf clsFLOAT k n
        y.setFloat f { y.floatAt f with drive := .stopped, next := .stopped, extra := 0, safe := false, ran := 0 })
          (((d.setFd k { d.fd k with vf24Low := true }).allDosOff k).cutSols k)
      ((d2.dieRaise k 0x0309 0 ([k, 1, 0, 0] ++ leBytes 4 (roundDiv (mv * 65536 : Nat) 1000).toNat)).enterSafe k 3).fanAoBoundary k [])) ∧
  (∀ k mv, Runs (.vf24Recovered k mv) (fun d => k < 2 ∧ d.dieFitted k = true ∧ (d.fd k).vf24Low = true)
    (fun d => ((d.setFd k { d.fd k with vf24Low := false }).dieRaise k 0x0309 0
      ([k, 0, 0, 0] ++ leBytes 4 (roundDiv (mv * 65536 : Nat) 1000).toNat)).safeOutputs k)) ∧
  (∀ k o, Runs (.fieldResumeTimeout k)
    (fun d => k < 2 ∧ d.dieLive k = true ∧ d.resumes.find? (fun y => y.die == k) = some o ∧ o.since + 10000 ≤ (d.fd k).bounds)
    (fun d =>
      let rest := d.resumes.filter fun y => y.id != o.id
      let d1 := Dev.fail { d with resumes := rest } o.id .timeout
      d1.setFd k { d1.fd k with resumeEnabled := (d1.fd k).resumeEnabled && rest.any (fun y => y.die == k && y.taken) }))

/-- R155 to R158, R162 to R165, R168, R169, R176: the digital inputs and outputs and the floating actuators of a die. Where the spec leaves a choice,
the model's is log entries 3, 40, 41, 42, 43, 212 and 213. -/
def Obligations.DigitalRowsAct : Prop :=
  (∀ i mv ua, Runs (.diPulseWindow i { mv := mv, ua := ua }) (fun d => i < d.classCount clsDI ∧ d.dieLive (dieOf clsDI i) = true ∧ d.disSet Reg.DI_CFG.PULSED i = true)
    (fun d => d.setDi i { d.diAt i with
      cand := d.diSample i mv ua, run := if d.diSample i mv ua = (d.diAt i).level then 0 else (d.diAt i).run + 1 })) ∧
  (∀ i mv ua, Runs (.diDebounceDone i { mv := mv, ua := ua })
    (fun d => i < d.classCount clsDI ∧ d.dieLive (dieOf clsDI i) = true ∧ (d.diAt i).level ≠ d.diSample i mv ua
      ∧ d.disSet Reg.DI_CFG.PULSED i = false ∧ d.disSet Reg.DI_CFG.WIREBREAK i = true
      ∧ (diBad (d.diAt i).level || diBad (d.diSample i mv ua)) = true)
    (fun d => (d.setDi i { level := d.diSample i mv ua, cand := d.diSample i mv ua, run := 0 }).dieRaise (dieOf clsDI i) 0x0301 (handle clsDI i)
      [diCode (d.diSample i mv ua), diCode (d.diAt i).level])) ∧
  (∀ i mv ua, Runs (.diDebounceDone i { mv := mv, ua := ua })
    (fun d => i < d.classCount clsDI ∧ d.dieLive (dieOf clsDI i) = true ∧ (d.diAt i).level ≠ d.diSample i mv ua
      ∧ d.disSet Reg.DI_CFG.PULSED i = false ∧ diBad (d.diAt i).level = false ∧ diBad (d.diSample i mv ua) = false)
    (fun d => d.setDi i { level := d.diSample i mv ua, cand := d.diSample i mv ua, run := 0 })) ∧
  (∀ i mv ua, Runs (.diDebounceDone i { mv := mv, ua := ua })
    (fun d => i < d.classCount clsDI ∧ d.dieLive (dieOf clsDI i) = true ∧ (d.diAt i).level ≠ (d.diAt i).cand
      ∧ d.disSet Reg.DI_CFG.PULSED i = true ∧ d.diPulsedRun i ≤ (d.diAt i).run ∧ d.disSet Reg.DI_CFG.WIREBREAK i = false)
    (fun d => d.setDi i { level := (d.diAt i).cand, cand := (d.diAt i).cand, run := 0 })) ∧
  (∀ o ma, Runs (.doOverload o ma) (fun d => o < d.classCount clsDO ∧ d.dieLive (dieOf clsDO o) = true ∧ (d.doAt (d.doBase o)).on = true)
    (fun d => d.doTrip (d.doBase o) .overload ma)) ∧
  (∀ o ma, Runs (.doThermalLimit o ma) (fun d => o < d.classCount clsDO ∧ d.dieLive (dieOf clsDO o) = true ∧ (d.doAt (d.doBase o)).on = true)
    (fun d => d.doTrip (d.doBase o) .shortGnd ma)) ∧
  (∀ o, Runs (.doRetry o)
    (fun d => o < d.classCount clsDO ∧ d.dieLive (dieOf clsDO o) = true ∧ (d.doAt (d.doBase o)).waiting = true
      ∧ ((d.doAt (d.doBase o)).state = .overload ∨ (d.doAt (d.doBase o)).state = .shortGnd)
      ∧ (d.doAt (d.doBase o)).since + 10000 * d.dget Reg.DO_CFG.RETRY_INT (d.doBase o) ≤ (d.fd (dieOf clsDO o)).bounds)
    (fun d => (d.setDo (d.doBase o) { d.doAt (d.doBase o) with waiting := false }).doCommand (d.doBase o) (d.doAt (d.doBase o)).cmd)) ∧
  (∀ o, Runs (.doOnPeriodOk o)
    (fun d => o < d.classCount clsDO ∧ d.dieLive (dieOf clsDO o) = true ∧ (d.doAt (d.doBase o)).on = true
      ∧ ((d.doAt (d.doBase o)).state = .overload ∨ (d.doAt (d.doBase o)).state = .shortGnd)
      ∧ (d.doAt (d.doBase o)).since + 100000 ≤ (d.fd (dieOf clsDO o)).bounds)
    (fun d => (d.setDo (d.doBase o) { d.doAt (d.doBase o) with retries := 0, state := .ok }).doRecovered (d.doBase o) (d.doAt (d.doBase o)).state)) ∧
  (∀ o ma, Runs (.doForcedHigh o ma)
    (fun d => o < d.classCount clsDO ∧ d.dieLive (dieOf clsDO o) = true ∧ (d.doAt (d.doBase o)).cmd = false ∧ (d.doAt (d.doBase o)).state ≠ .forcedHigh)
    (fun d => (((d.setDo (d.doBase o) { d.doAt (d.doBase o) with state := .forcedHigh, on := false, readback := true, current := ma }).doMirror
      (d.doBase o)).doFault (d.doBase o)).doFaultFloat (d.doBase o))) ∧
  (∀ o ma, Runs (.openLoadSet o ma)
    (fun d => o < d.classCount clsDO ∧ d.dieLive (dieOf clsDO o) = true ∧ d.disSet Reg.DO_CFG.OPEN_DETECT (d.doBase o) = true
      ∧ (d.doAt (d.doBase o)).on = true ∧ (d.doAt (d.doBase o)).state = .ok)
    (fun d =>
      let d1 := d.setDo (d.doBase o) { d.doAt (d.doBase o) with state := .openLoad, current := ma }
      (if d.disSet Reg.DO_CFG.REJECT_ALARM (d.doBase o) then d1 else d1.doFault (d.doBase o)).doFaultFloat (d.doBase o))) ∧
  (∀ o, Runs (.openLoadClear o)
    (fun d => o < d.classCount clsDO ∧ d.dieLive (dieOf clsDO o) = true ∧ (d.doAt (d.doBase o)).on = true ∧ (d.doAt (d.doBase o)).state = .openLoad)
    (fun d =>
      let d1 := d.setDo (d.doBase o) { d.doAt (d.doBase o) with state := .ok }
      if d.disSet Reg.DO_CFG.REJECT_ALARM (d.doBase o) then d1 else d1.doRecovered (d.doBase o) .openLoad)) ∧
  (∀ k i, Runs (.darkTest k)
    (fun d => k < 2 ∧ d.dieLive k = true ∧ (d.fd k).darkOn = true ∧ (d.fd k).state = .run ∧ (d.fd k).dark = none ∧ (d.fd k).darkNow = none
      ∧ ((d.fd k).darkTestAt = 0 ∨ (d.fd k).darkTestAt + 1000 * (d.fd k).darkInt ≤ (d.fd k).bounds)
      ∧ (d.setFd k { d.fd k with darkTestAt := (d.fd k).bounds }).darkFrom k (d.fd k).darkNext = some i)
    (fun d => (d.setFd k { d.fd k with darkTestAt := (d.fd k).bounds }).darkBegin k i)) ∧
  (∀ k i fell, Runs (.darkPulseEnd k fell)
    (fun d => (d.fd k).dark = some i ∧ d.dieLive k = true ∧ (d.fd k).darkPair = none ∧ (d.fd k).darkPulse = true
      ∧ (d.fd k).darkAt + 10 ≤ (d.fd k).bounds ∧ fell.contains i = true)
    (fun d =>
      let hit := (List.range 32).filter fun j => fell.contains j && (d.doAt (globalOf clsDO k j)).state == .forcedHigh
      (hit.foldl (fun (y : Dev) j => y.doCross (globalOf clsDO k j) (globalOf clsDO k i)) (d.darkRestore (globalOf clsDO k i))).darkOver k hit.length)) ∧
  (∀ k i j fell, Runs (.darkPulseEnd k fell)
    (fun d => (d.fd k).dark = some i ∧ d.dieLive k = true ∧ (d.fd k).darkPair = none ∧ (d.fd k).darkPulse = true
      ∧ (d.fd k).darkAt + 10 ≤ (d.fd k).bounds ∧ fell.contains i = false ∧ d.pairFrom k i 0 = some j)
    (fun d => (d.darkRestore (globalOf clsDO k i)).setFd k { d.fd k with darkPair := some j, darkPulse := false })) ∧
  (∀ k i j, Runs (.darkPairPulse k true)
    (fun d => (d.fd k).dark = some i ∧ (d.fd k).darkPair = some j ∧ d.dieLive k = true ∧ (d.fd k).darkPulse = true
      ∧ (d.fd k).darkAt + 10 ≤ (d.fd k).bounds)
    (fun d => ((((d.darkRestore (globalOf clsDO k i)).darkRestore (globalOf clsDO k j)).doCross (globalOf clsDO k i) (globalOf clsDO k j)).doCross
      (globalOf clsDO k j) (globalOf clsDO k i)).darkOver k 2)) ∧
  (∀ k i j j2, Runs (.darkPairPulse k false)
    (fun d => (d.fd k).dark = some i ∧ (d.fd k).darkPair = some j ∧ d.dieLive k = true ∧ (d.fd k).darkPulse = true
      ∧ (d.fd k).darkAt + 10 ≤ (d.fd k).bounds
      ∧ ((d.darkRestore (globalOf clsDO k i)).darkRestore (globalOf clsDO k j)).pairFrom k i (j + 1) = some j2)
    (fun d => ((d.darkRestore (globalOf clsDO k i)).darkRestore (globalOf clsDO k j)).setFd k { d.fd k with darkPair := some j2, darkPulse := false })) ∧
  (∀ f, Runs (.floatDriveEnd f)
    (fun d => f < d.classCount clsFLOAT ∧ ((d.floatAt f).drive = .opening ∨ (d.floatAt f).drive = .closing) ∧ d.floatDone f = true)
    (fun d => (d.setFloat f { d.floatAt f with drive := .stopped, next := .stopped, extra := 0, safe := false, ran := 0 }).floatDrivePair f)) ∧
  (∀ f, Runs (.floatDeadTimeEnd f) (fun d => f < d.classCount clsFLOAT ∧ (d.floatAt f).drive = .deadTime ∧ (d.floatAt f).safe = false)
    (fun d =>
      let d1 := d.setFloat f { d.floatAt f with drive := .stopped, next := .stopped }
      d1.floatGo f (d1.floatWants f (d.floatAt f).target))) ∧
  (∀ f, Runs (.floatDeadTimeEnd f) (fun d => f < d.classCount clsFLOAT ∧ (d.floatAt f).drive = .deadTime ∧ (d.floatAt f).safe = true)
    (fun d => (d.setFloat f { d.floatAt f with drive := .stopped, next := .stopped }).floatGo f (d.floatAt f).next)) ∧
  (∀ f, Runs (.floatBothHigh f)
    (fun d => f < d.classCount clsFLOAT ∧ d.dieLive (dieOf clsFLOAT f) = true ∧ d.disSet Reg.FLOAT_CFG.ENABLE f = true ∧ (d.floatAt f).fault = false)
    (fun d => d.floatFault f 1))

/-- R183, R185 to R202: sensor ports and encoder emulations. Where the spec leaves a choice, the model's is log entries 58, 59, 60, 62, 187 and 216.
-/
def Obligations.PositionRowsAct : Prop :=
  (∀ p t held step, step ≠ .both → Runs (.posEdge p t { held := held, step := step }) (fun d => d.posIn p posINC = true ∧ d.dget Reg.POS_CFG.FILT p ≤ held)
    (fun d =>
      let g : Int := if (step = .aLeads) ↔ (d.disSet Reg.POS_CFG.DIR p = false) then 1 else -1
      let n := clampInt posMin posMax ((d.posAt p).count + g)
      let y := PosSt.nowValid { d.posAt p with count := n, acc := (d.posAt p).acc + (n - (d.posAt p).count) } (d.posTime p t)
      (d.setPos p (if n = (d.posAt p).count then y else PosSt.edge y g (d.posTime p t) 1)).emuFollow p)) ∧
  (∀ p t held, Runs (.posEdge p t { held := held, step := .both }) (fun d => d.posIn p posINC = true ∧ d.dget Reg.POS_CFG.FILT p ≤ held)
    (fun d => ((d.posFault p 4).posCheckRecover p).emuFollow p)) ∧
  (∀ p held, Runs (.indexPulse { port := p, held := held })
    (fun d => d.posIn p posINC = true ∧ d.disSet Reg.POS_CFG.INDEX p = true ∧ d.dget Reg.POS_CFG.FILT p ≤ held ∧ (d.posAt p).homeArmed = true
      ∧ d.disSet Reg.POS_CFG.HOME p = true ∧ d.disSet Reg.POS_CHECK.AT_START p = false)
    (fun d =>
      let d1 := (d.setPos p (PosSt.nowValid { d.posAt p with count := 0, homeArmed := false, homed := true } (d.posTime p 0))).posClear p [4, 5]
      ((d1.setPos p { d1.posAt p with startDone := true }).posInterval p).emuFollow p)) ∧
  (∀ p c id, Runs (.posCheckTimeout p)
    (fun d => (d.posAt p).check = some c ∧ c.desc = some id ∧ d.samplesPassed (dieOf clsPOS p) c.since (d.posCheckLimit id) = true)
    (fun d => (d.setPos p { d.posAt p with check := none }).fail id .timeout)) ∧
  (∀ p, Runs (.serialReadStart p)
    (fun d => d.posIn p posSER = true ∧ (d.posAt p).readAt = none ∧ (d.posAt p).readOn ≠ (d.fd (dieOf clsPOS p)).bounds + 1
      ∧ (d.fd (dieOf clsPOS p)).tick % max 1 (d.dget Reg.POS_SER2.READ_INT p) = 0)
    (fun d => d.setPos p { d.posAt p with
      readAt := some (d.fd (dieOf clsPOS p)).clock, readOn := (d.fd (dieOf clsPOS p)).bounds + 1 })) ∧
  (∀ p a cs n t, Runs (.serialReadEnd p a cs)
    (fun d => (d.posAt p).readAt = some t ∧ d.posIn p posSER = true ∧ d.disSet Reg.POS_SER.TRAILER p = false ∧ d.disSet Reg.POS_SER.GRAY p = false
      ∧ serialLead (d.disSet Reg.POS_SER.START p) (a :: cs) = some n
      ∧ (n - 1) * d.dget Reg.POS_SER.CLKDIV p ≤ 200 * d.dget Reg.POS_SER2.TIMEOUT p ∧ n + d.dget Reg.POS_SER.BITS p ≤ (a :: cs).length)
    (fun d => d.posReadGood p (ofMsbBits (((a :: cs).drop n).take (d.dget Reg.POS_SER.BITS p))) t false)) ∧
  (∀ p t, Runs (.serialReadTimeout p)
    (fun d => d.posIn p posSER = true ∧ (d.posAt p).readAt = some t ∧ d.samplesPassed (dieOf clsPOS p) t (200 * d.dget Reg.POS_SER2.TIMEOUT p) = true)
    (fun d => d.posReadFault p 3)) ∧
  (∀ p, Runs (.standstillTimeout p)
    (fun d => (d.posIn p posINC = true ∨ d.posIn p posSER = true) ∧ (d.posAt p).valid = true
      ∧ d.samplesPassed (dieOf clsPOS p) (((d.posAt p).edges.head?).getD (d.posAt p).validAt) (200000 * d.dget Reg.POS_STANDSTILL.TIME p) = true)
    (fun d => d.setPos p { d.posAt p with still := true, reversing := false, speed := 0, speedSt := stVALID })) ∧
  (∀ e t, Runs (.emuEdge { emu := e, sample := t })
    (fun d => e < d.classCount clsEMU ∧ d.dieLive (dieOf clsEMU e) = true ∧ d.disSet Reg.EMU_CFG.ENABLE e = true
      ∧ (d.fd (dieOf clsEMU e)).state ≠ .safe ∧ (d.fd (dieOf clsEMU e)).state ≠ .startup ∧ d.emuReady e ((d.fd (dieOf clsEMU e)).clock + t) = true
      ∧ d.forceOf (handle clsEMU e) = none ∧ (d.emuAt e).sourceFault = false ∧ (d.emuTarget e - (d.emuAt e).output).sign ≠ 0)
    (fun d => ((d.setEmu e { d.emuAt e with
      output := (d.emuAt e).output + (d.emuTarget e - (d.emuAt e).output).sign, edgeAt := (d.fd (dieOf clsEMU e)).clock + t + 1 }).emuCheckLag e).emuDrive e)) ∧
  (∀ e t r, Runs (.emuEdge { emu := e, sample := t })
    (fun d => e < d.classCount clsEMU ∧ d.dieLive (dieOf clsEMU e) = true ∧ d.disSet Reg.EMU_CFG.ENABLE e = true
      ∧ (d.fd (dieOf clsEMU e)).state ≠ .safe ∧ (d.fd (dieOf clsEMU e)).state ≠ .startup ∧ d.emuReady e ((d.fd (dieOf clsEMU e)).clock + t) = true
      ∧ d.forceOf (handle clsEMU e) = some r ∧ (signedOf 32 r).sign ≠ 0)
    (fun d => (d.setEmu e { d.emuAt e with
      output := (d.emuAt e).output + (signedOf 32 r).sign, edgeAt := (d.fd (dieOf clsEMU e)).clock + t + 1 }).emuDrive e))

/-- R97, R101, R105, R108 to R111, R114, R118, R119, R121, R126, R127, R134: the converters and captures. Where the spec leaves a choice, the model's
is log entries 10, 17, 36, 197, 200, 205, 208 and 215. -/
def Obligations.ConverterRowsAct : Prop :=
  (∀ c, Runs (.passStart c)
    (fun d => d.convHere c = true ∧ d.dieLive (convDie c) = true ∧ d.oddOfPair c = false ∧ d.isSet Reg.CONV_CTRL.RUN c = true
      ∧ (d.conv c).calibrating = false ∧ (d.conv c).passing = false ∧ d.passDue c = true
      ∧ ((d.setConv c { d.conv c with passAt := d.convBounds c + 1, passOwed := false }).beginPass c).1 = true)
    (fun d => ((d.setConv c { d.conv c with passAt := d.convBounds c + 1, passOwed := false }).beginPass c).2)) ∧
  (∀ c, Runs (.passStart c)
    (fun d => d.convHere c = true ∧ d.dieLive (convDie c) = true ∧ d.oddOfPair c = false ∧ d.isSet Reg.CONV_CTRL.RUN c = true
      ∧ (d.conv c).passing = true ∧ d.get Reg.CONV_CTRL.PASS_INT c ≠ 0 ∧ d.passDue c = true)
    (fun d =>
      let d1 := (d.setConv c { d.conv c with passAt := d.convBounds c + 1, passOwed := true }).bump Reg.OVERRUN_COUNT.OVERRUNS c 0xFFFF
      d1.dieRaise (convDie c) 0x0203 0 ([c, 0, 0, 0] ++ leBytes 4 (d1.get Reg.OVERRUN_COUNT.OVERRUNS c)))) ∧
  (∀ c code input v, Runs (.converterOutput c code input)
    (fun d => d.convHere c = true ∧ d.dieLive (convDie c) = true ∧ (d.conv c).passing = true ∧ (d.conv c).calibrating = false
      ∧ (d.conv c).burst ≤ d.convBounds c ∧ d.oddOfPair c = false ∧ (d.conv c).urgent = none ∧ (d.conv c).visit = some v
      ∧ d.channelOff v.ch = false ∧ d.inSwitchWindow v.ch (d.conv c).started = false
      ∧ d.meas.reopen.contains (c, v.ch) = false ∧ (d.conv c).remain = 0)
    (fun d =>
      let r := d.outputOf c v.ch v.gain code input
      let y := { d.conv c with made := (d.conv c).made + 1, last := some (v.ch, countedGain v.ch v.gain, v.osr), remain := 0, started := d.convBounds c }
      ((((d.setConv c y).writeSlot (64 * c + v.entry) r.1 r.2 0).keepContact v.ch input).updateChannel v.ch r.1 r.2
        (if classOf v.ch = clsUI then d.uiFaultCause (indexOf v.ch) input else 0) (64 * c + v.entry + 1)).afterOutput c v)) ∧
  (∀ c code input v, Runs (.converterOutput c code input)
    (fun d => d.convHere c = true ∧ d.dieLive (convDie c) = true ∧ (d.conv c).passing = true ∧ (d.conv c).calibrating = false
      ∧ (d.conv c).burst ≤ d.convBounds c ∧ d.oddOfPair c = false ∧ (d.conv c).urgent = none ∧ (d.conv c).visit = some v
      ∧ d.channelOff v.ch = true)
    (fun d => d.nextVisit c v.entry)) ∧
  (∀ c u t, Runs (.urgentHead c)
    (fun d => d.convHere c = true ∧ d.dieLive (convDie c) = true ∧ (d.conv c).urgent = none ∧ (d.conv c).calibrating = false
      ∧ d.calNext (convDie c) ≠ some c ∧ (d.conv c).burst ≤ d.convBounds c ∧ (d.conv c).queue = u :: t)
    (fun d => d.setConv c { d.conv c with
      queue := t, urgent := some u, powered := true, last := if (d.conv c).powered then (d.conv c).last else none
      started := d.convBounds c })) ∧
  (∀ c code input u id, Runs (.urgentValidOutput c code input)
    (fun d => (d.conv c).urgent = some u ∧ u.origin = .host id ∧ d.convHere c = true ∧ d.dieLive (convDie c) = true
      ∧ d.channelOff u.ch = false ∧ d.inSwitchWindow u.ch (d.convBounds c) = false)
    (fun d =>
      let r := d.outputOf c u.ch u.gain code input
      let out : UrgentOut := { id := some id, conv := c, ch := u.ch, word := mkWord r.1 r.2 0, was := d.measWord u.ch
                               wasSource := Map.get d.meas.source u.ch 0 }
      let d1 := (d.countOpened c u.ch).setConv c
        (Dev.urgentPowerDown { d.conv c with urgent := none, last := some (u.ch, countedGain u.ch u.gain, u.osr) })
      let d2 := (d1.keepContact u.ch input).updateChannel u.ch r.1 r.2
        (if classOf u.ch = clsUI then d.uiFaultCause (indexOf u.ch) input else 0) 0
      Dev.restartVisit { d2 with meas := { d2.meas with urgentDone := d2.meas.urgentDone ++ [out] } } c)) ∧
  Runs .calDue
    (fun d => d.live = true ∧ d.get Reg.MEAS_CFG.RECAL_INT 0 ≠ 0 ∧ d.meas.calAt + d.get Reg.MEAS_CFG.RECAL_INT 0 * 360000000 ≤ d.tick)
    (fun d => d.calAll 2) ∧
  (∀ c ofs gain st, Runs (.calCommit c ofs gain st)
    (fun d => d.convHere c = true ∧ d.dieLive (convDie c) = true ∧ (d.conv c).calibrating = true ∧ (d.conv c).calSince + 1200 ≤ d.convBounds c
      ∧ d.get Reg.CAL_GAIN.GAIN c ≠ 0)
    (fun d =>
      let d1 := (d.setConv c { d.conv c with calibrating := false, last := none }).restartVisit c
      let d2 := (d1.putRet Reg.CAL_OFS.OFS c ofs).putRet Reg.CAL_GAIN.GAIN c gain
      let d3 := d2.dieRaise (convDie c) 0x0202 0
        ([c, (d.conv c).calCause, 0, 0] ++ leBytes 4 (bitsOf 32 (signedOf 32 ofs - signedOf 32 (d.get Reg.CAL_OFS.OFS c)))
          ++ leBytes 4 (bitsOf 32 (ppmChange (d.get Reg.CAL_GAIN.GAIN c) gain)))
      ((d3.selfTest c st).calCommitted c).nextCal (convDie c))) ∧
  (∀ g t bursts o, Runs (.captureTrigger g { cycle := t, codes := bursts })
    (fun d => d.meas.caps.find? (fun o => o.group == g) = some o ∧ d.capDue o t = true ∧ ((groupConvs g).all fun c => d.dieLive (convDie c)) = true)
    (fun d => (List.range (groupConvs g).length).foldl (fun (x : Dev) j =>
        let c := (groupConvs g).getD j 0
        let v := x.conv c
        let stop := x.convBounds c + (t + 25 * o.samples + 499) / 500
        let y := (x.setConv c { v with powered := true, burst := stop, queue := v.urgent.toList ++ v.queue, urgent := none
                                       last := if v.paired || x.oddOfPair c then none
                                         else some (o.chans.getD j 0, countedGain (o.chans.getD j 0) o.gain, 0) }).restartVisit c
        y.setConv c { y.conv c with started := stop })
      (d.setCap g fun p => { p with triggered := true, streamA := capStream o 0 bursts, streamB := capStream o 1 bursts }))) ∧
  (∀ g o, Runs (.captureDone g)
    (fun d => d.meas.caps.find? (fun o => o.group == g && o.triggered && !o.stopping && o.streamA.isEmpty && o.streamB.isEmpty) = some o
      ∧ d.capOnWay = false)
    (fun d => (Dev.markCapture { d with meas := { d.meas with caps := d.meas.caps.filter fun p => !(p.id == o.id) } } o.group false).done o.id o.result)) ∧
  (∀ g o, Runs (.captureShotTimeout g)
    (fun d => d.meas.caps.find? (fun o => o.group == g && o.kind == 1 && !o.triggered && !o.stopping && decide (o.armed + 100000 ≤ d.tick)) = some o)
    (fun d => (Dev.markCapture { d with meas := { d.meas with caps := d.meas.caps.filter fun p => !(p.id == o.id) } } o.group false).fail o.id .timeout)) ∧
  (∀ n w, Runs (.slotStale n)
    (fun d => n < d.classCount clsMSLOT ∧ d.dieLive (dieOf clsMSLOT n) = true ∧ d.get Reg.CONV_STALE.STALE_TICKS (n / 64) ≠ 0
      ∧ d.get Reg.CONV_STALE.STALE_TICKS (n / 64) ≤ (d.fd (dieOf clsMSLOT n)).bounds + 1 - max 1 (Map.get d.meas.slotAt n 0)
      ∧ d.measWord (handle clsMSLOT n) = some w ∧ Map.get (Map.set d.meas.words (handle clsMSLOT n) (some (w.mark stSTALE)) none)
        (d.get Reg.ENTRY_A.CHANNEL n) none = none)
    (fun d => { d with meas := { d.meas with words := Map.set d.meas.words (handle clsMSLOT n) (some (w.mark stSTALE)) none } })) ∧
  (∀ u, Runs (.ma20Disconnect u)
    (fun d => u < d.classCount clsUI ∧ d.dieLive (dieOf clsUI u) = true ∧ d.uiMode u = modeMA20 ∧ d.disconnected u = false)
    (fun d => Dev.updateChannel { d with meas := { d.meas with disconnected := Map.set d.meas.disconnected u ((d.fd (dieOf clsUI u)).bounds + 1) 0 } }
      (handle clsUI u) (24 * 65536) (stFAULT + stCLAMPED) 5 (Map.get d.meas.source (handle clsUI u) 0))) ∧
  (∀ u, Runs (.ma20Reconnect u)
    (fun d => d.disconnected u = true ∧ Map.get d.meas.disconnected u 0 + 100000 ≤ (d.fd (dieOf clsUI u)).bounds + 1)
    (fun d => { d with meas := { d.meas with disconnected := Map.set d.meas.disconnected u 0 0 } })) ∧
  (∀ code src, Runs (.eventIntervalEnd code src) (fun d => d.live = true) (fun d => d.endInterval code src))


/-! ### Pattern engine, loops and schedules -/

/-- R218, R227, R229 to R234, R240, R245, R250: the pattern engine's step, its publishing, its predictions, its urgent requests and its save. Where
the spec leaves a choice, the model's is log entries 89, 91, 92, 93, 221 and 222. -/
def Obligations.PatternRowsAct : Prop :=
  Runs .patStepStart
    (fun d => d.live = true ∧ d.nvm.noControl = false ∧ d.modelValid = true ∧ startTick d.patHeader d.tick = true ∧ d.pat.startAt ≠ d.tick + 1
      ∧ d.dip = false ∧ d.power.resumeDue = false ∧ d.pat.pub = none ∧ d.pat.predicting = none)
    (fun d => Dev.patStep { d with pat := { d.pat with startAt := d.tick + 1 } }) ∧
  (∀ p, Runs .patPublish (fun d => d.pat.pub = some p ∧ d.live = true ∧ p.due ≤ d.tick)
    (fun d =>
      let d2 := (d.putNodes p.nodes).putCoups p.coups
      let st := (List.range d.pat.shape.nodes.length).map fun i => nodeSOf p.nodes (16 * i)
      let d3 := { d2 with pat := { d2.pat with pub := none, lastDone := some p.start, base := some p.start, predBase := some p.start
                                               predicting := if p.predict then some (p.start, p.predDue) else none } }
      let d4 := (((d3.wrapUp Reg.PAT_STEP_COUNT.STEPS 0).put Reg.PAT_LAST_START.TICK 0 p.start).put Reg.PAT_WORK.CYCLES 0
        p.cycles).putBit Reg.PAT_STAT.CATCHUP 0 (p.n != 1)
      p.reports.foldl (fun (y : Dev) r => y.patReport r) (((d4.publishNodes p.start st).setSuspect (suspects st)).saveEsts st))) ∧
  (∀ st due m d1 x d2, Runs .routinePredictionEnd
    (fun d => d.pat.predicting = some (st, due) ∧ d.live = true ∧ due ≤ d.tick
      ∧ Dev.readTables { d with pat := { d.pat with predicting := none } } = ((some m, none), d1) ∧ d1.readState = (some x, d2))
    (fun _ =>
      let fc := d2.forecasts m
      let ts := fc.2.predictAll m x.2 fc.1 st (x.1.map (·.est)) 1 (hdrPredH m.header)
      let d4 := (m.slots.mapIdx fun p i => (p, i)).foldl (fun (y : Dev) pi =>
        (ts.mapIdx fun h t => (h, t)).foldl (fun (z : Dev) ht =>
          let v := ht.2.1.getD pi.2 0
          (z.memWrite (32 * (z.patBase + 0x4402) + 256 * pi.1 + 4 * ht.1) (leBytes 4 (bitsOf 32 v)) readerPat).produce
            (z.name clsNODE pi.2) (ht.1 + 2) (mkWord v (stVALID + (if ht.2.2.getD pi.2 false then stCLAMPED else 0)) st)) y)
        (fc.2.put Reg.PAT_PRED_BASE.TICK 0 st)
      d4.zonesSet.foldl (fun (y : Dev) z => y.zonePredict m st (ts.map (·.1)) z) d4)) ∧
  (∀ m d1, Runs .patUrgentIssue
    (fun d => d.controlling = true ∧ d.modelValid = true ∧ d.pat.run = true ∧ startTick d.patHeader (d.tick + 500) = true
      ∧ d.pat.urgentAt ≠ d.tick + 1
      ∧ Dev.readTables { d with pat := { d.pat with urgentAt := d.tick + 1 } } = ((some m, none), d1))
    (fun _ => m.binds.foldl (fun (y : Dev) b =>
      if !b.urgent then y
      else match y.entryFor (b.src % 2 ^ 20) with
        | none => y
        | some (c, e) =>
          let i := 64 * c + e
          y.askUrgent c { origin := .node b.target, ch := b.src % 2 ^ 20, gain := y.get Reg.ENTRY_A.GAIN i
                          osr := y.get Reg.ENTRY_A.OSR i, acq := y.get Reg.ENTRY_B.ACQ i }) d1)) ∧
  (∀ p rest done r, Runs .hostPredictionStep
    (fun d => d.pat.preds = p :: rest ∧ d.pat.predBase = some done ∧ d.controlling = true ∧ d.pat.run = true ∧ d.pat.pub = none
      ∧ d.pat.predicting = none ∧ d.isSet Reg.PAT_STAT.TABLE_FAULT 0 = false ∧ d.rec? p.id = some r)
    (fun d => d.hostPredStep p rest r.d done)) ∧
  Runs .multiplierSave (fun d => d.controlling = true ∧ d.modelValid = true ∧ d.multDue = true)
    (fun d =>
      let r := d.soundState
      Dev.setBlock { r.2 with pat := { r.2.pat with savedAt := d.tick } } keyMULT
        (leBytes 4 (d.get Reg.PAT_MODEL_ID.CRC 0) ++ (r.1.2.map multBytes).flatten))

/-- R268, R273, R282, R307, R309, R314, R322, R326: a loop computes at its ticks and asks ahead for its feedback, LOOP_SET and LOOP_REMOVE take
effect, and the schedules are evaluated and expire. Where the spec leaves a choice, the model's is log entries 96, 98, 99, 106, 225, 226 and 227. -/
def Obligations.LoopAndScheduleRowsAct : Prop :=
  (∀ l, Runs (.loopCompute l)
    (fun d => l < 512 ∧ d.loopsRun = true ∧ d.loopTurns l = false ∧ (d.loop l).state ≠ .idle ∧ (d.loop l).at_ ≠ some d.tick ∧ 0 < lpP (d.loopBlock l)
      ∧ lpPhase (d.loopBlock l) ≤ d.tick ∧ (d.tick - lpPhase (d.loopBlock l)) % lpP (d.loopBlock l) = 0)
    (fun d => d.loopResumed.loopCompute l)) ∧
  (∀ l c e, Runs (.loopUrgentIssue l)
    (fun d => l < 512 ∧ d.loopsRun = true ∧ d.loopTurns l = false ∧ (d.loop l).state ≠ .idle ∧ (d.loop l).urgAt ≠ some d.tick
      ∧ lpUrgent (d.loopBlock l) = true ∧ 0 < lpP (d.loopBlock l)
      ∧ lpPhase (d.loopBlock l) ≤ d.tick + 1 + lpLead (d.loopBlock l)
      ∧ (d.tick + 1 + lpLead (d.loopBlock l) - lpPhase (d.loopBlock l)) % lpP (d.loopBlock l) = 0
      ∧ d.entryFor (lpFb (d.loopBlock l) % 2 ^ 20) = some (c, e))
    (fun d => (d.setLoop l { d.loop l with urgAt := some d.tick }).askUrgent c
      { origin := .loop l, ch := lpFb (d.loopBlock l) % 2 ^ 20, gain := d.get Reg.ENTRY_A.GAIN (64 * c + e)
        osr := d.get Reg.ENTRY_A.OSR (64 * c + e), acq := d.get Reg.ENTRY_B.ACQ (64 * c + e) })) ∧
  (∀ l o, Runs (.loopSetSwitch l)
    (fun d => d.live = true ∧ d.eng.sets.find? (fun o => o.slot == l && o.stage == 1) = some o ∧ o.checkedAt < d.tick)
    (fun d =>
      let d0 := { d with eng := { d.eng with sets := d.eng.sets.filter fun e => e.id != o.id } }
      let d1 := (d0.admitLoop l o.block o.lane o.secs o.keep).setBlock (handle clsLOOP l) o.block
      d1.showEngine.finish o.id .ok (loopResult 0 o.lane (loopCost o.block) (d.tick % 2 ^ 32)))) ∧
  (∀ l r, Runs (.loopRemoveEffect l)
    (fun d => d.live = true ∧ d.eng.removals.find? (fun r => r.2.1 == l) = some r ∧ r.2.2 < d.tick)
    (fun d => Dev.removeLoop { d with eng := { d.eng with removals := d.eng.removals.filter fun e => e.1 != r.1 } } l r.1)) ∧
  Runs .schedEvaluation (fun d => d.controlling = true ∧ d.tick % 1000 = 0 ∧ d.sched.evalAt ≠ some d.tick) (fun d => d.schedEvaluate) ∧
  (∀ z, Runs (.overrideExpiry z) (fun d => d.live = true ∧ z < 128) (fun d => d.expireOverride z)) ∧
  (∀ z, Runs (.presenceHoldoffExpiry z) (fun d => d.controlling = true ∧ z < 128) (fun d => d.presenceExpire z))

/-! ### Shuttle channels, fans and analog outputs -/

/-- R338, R344, R345, R348, R351, R355, R356, R358, R360, R361, R365: the channels and banks of the shuttle, row by row. Where the spec leaves a
choice, the model's is log entries 71, 72, 73, 74, 77, 219 and 220. -/
def Obligations.ShuttleRowsAct : Prop :=
  (∀ c t sense id r, Runs (.oneShotDurExpiry c t sense)
    (fun d => (d.sol c).origin = .oneShot id ∧ d.rec? id = some r ∧ 0 < r.d.u32 24 ∧ d.solHere c = true ∧ (d.sol c).inShot = true
      ∧ (d.sol c).startOn + r.d.u32 24 ≤ (d.fd (dieOf clsSOL c)).bounds)
    (fun d => (d.solSense c sense).solRelease c (d.solTime c t))) ∧
  (∀ b t, Runs (.chopPeriodStart { bank := b, cycle := t })
    (fun d => b < d.classCount clsBANK ∧ d.dieLive (dieOf clsBANK b) = true ∧ (d.bank b).fault = false ∧ d.bankState b ≠ 0
      ∧ (d.bank b).periodAt + (d.bank b).period ≤ d.solTime (4 * b) t)
    (fun d => ((bankSols b).foldl (fun (y : Dev) c =>
      let x := y.sol c
      if x.isOn && effectiveTarget (x.state == .peak) (y.solPaired c) x.target != 0 then y.solClose c (d.solTime (4 * b) t) x else y)
        (d.setBank b { d.bank b with periodAt := d.solTime (4 * b) t })).driveBank b)) ∧
  (∀ c t sense, Runs (.targetReached c t sense)
    (fun d => d.solHere c = true ∧ (d.sol c).isOn = true
      ∧ effectiveTarget ((d.sol c).state == .peak) (d.solPaired c) (d.sol c).target ≤ sense.current ∧ (d.sol c).wait = .target)
    (fun d => (d.solSense c sense).solTtp c (d.solTime c t) (roundDiv (d.solTime c t - (d.sol c).closedAt : Nat) 50).toNat false)) ∧
  (∀ c t sense, Runs (.targetReached c t sense)
    (fun d => d.solHere c = true ∧ (d.sol c).isOn = true
      ∧ effectiveTarget ((d.sol c).state == .peak) (d.solPaired c) (d.sol c).target ≤ sense.current ∧ (d.sol c).wait ≠ .target
      ∧ (d.sol c).path = .closed ∧ (d.bank (bankOf c)).periodAt + 50 ≤ d.solTime c t)
    (fun d =>
      let d1 := d.solSense c sense
      (d1.setSol c { d1.sol c with path := d1.choppingPath c (d.sol c).decay }).driveBank (bankOf c))) ∧
  (∀ k t c, Runs (.peakGrant k t) (fun d => d.dieLive k = true ∧ d.solFirst k = some c)
    (fun d =>
      let d1 := d.solClose c (d.solTime c t) { d.sol c with
        state := .peak, wait := .target, closedAt := d.solTime c t, peakAt := d.solTime c t, tokens := d.solNeeds c }
      (d1.setFreeTokens k (d.freeTokens k - d.solNeeds c)).driveBank (bankOf c))) ∧
  (∀ c t sense, Runs (.peakWaitExpiry c t sense)
    (fun d => d.solHere c = true ∧ (d.sol c).wait = .grant ∧ (d.sol c).since + 50 * (d.sol c).peakWait ≤ d.solTime c t
      ∧ (d.sol c).energised = false) (fun d => d.solSkip c)) ∧
  (∀ c t sense, Runs (.peakWaitExpiry c t sense)
    (fun d => d.solHere c = true ∧ (d.sol c).wait = .grant ∧ (d.sol c).since + 50 * (d.sol c).peakWait ≤ d.solTime c t
      ∧ (d.sol c).energised = true)
    (fun d => ((d.solSense c sense).setSol c { (d.solSense c sense).sol c with denied := true }).solResume c (d.solTime c t))) ∧
  (∀ c, Runs (.skipRetry c)
    (fun d => d.solHere c = true ∧ (d.sol c).skipRetry = true ∧ (d.sol c).state = .off ∧ (d.sol c).level = true ∧ d.solMayStart c = true
      ∧ (d.sol c).skipOn < (d.fd (dieOf clsSOL c)).bounds)
    (fun d => d.solLevelShot c)) ∧
  (∀ c t sense, Runs (.waitPeakTimeout c t sense)
    (fun d => d.solHere c = true ∧ (d.sol c).wait = .target ∧ d.solPassed c (d.solTime c t) = true)
    (fun d => (d.solSense c sense).solTtp c (d.solTime c t) 0 true)) ∧
  (∀ c t sense, Runs (.shuttleWaitEnd c t sense)
    (fun d => d.solHere c = true ∧ ((d.sol c).wait = .chop ∨ (d.sol c).wait = .wait) ∧ d.solPassed c (d.solTime c t) = true)
    (fun d => (d.solSense c sense).solResume c (d.solTime c t))) ∧
  (∀ c t sense, Runs (.syncReached c t sense)
    (fun d => d.solHere c = true ∧ (d.sol c).wait = .sync ∧ (d.sol c).since < d.solTime c 0
      ∧ ((d.sol c).since + 500 < d.solTime c 0
        ∨ (d.sol c).operand (d.solWord (bankOf c) (d.sol c).copy (d.sol c).pc) (bitsAt (d.solWord (bankOf c) (d.sol c).copy (d.sol c).pc) 0 9)
            0 499 ≤ t))
    (fun d => (d.solSense c sense).solResume c (d.solTime c t))) ∧
  (∀ c t sense, Runs (.decayDone c t sense)
    (fun d => d.solHere c = true ∧ (d.sol c).wait = .decay ∧ (sense.current ≤ (d.sol c).target ∨ d.solPassed c (d.solTime c t) = true))
    (fun d => ((d.solSense c sense).setSol c { (d.solSense c sense).sol c with
      decayUs := (roundDiv (d.solTime c t - (d.sol c).since : Nat) 50).toNat }).solResume c (d.solTime c t))) ∧
  (∀ c, Runs (.endingDone c) (fun d => d.solHere c = true ∧ (d.sol c).state = .ending)
    (fun d => (d.setSol c { d.sol c with state := .off, path := .open, current := 0 }).driveBank (bankOf c))) ∧
  (∀ c, Runs (.solOvercurrent c) (fun d => d.solHere c = true ∧ (d.sol (d.solBase c)).state ≠ .fault)
    (fun d => d.solFault (d.solBase c) 2 .clamped)) ∧
  (∀ c, Runs (.clampOverheat c) (fun d => d.solHere c = true ∧ (d.sol (d.solBase c)).state ≠ .fault)
    (fun d => (d.solFault (d.solBase c) 4 .slow).setSol (d.solBase c) { (d.solFault (d.solBase c) 4 .slow).sol (d.solBase c) with hot := true })) ∧
  (∀ c, Runs (.peakMaxExpiry c)
    (fun d => d.solHere c = true ∧ (d.sol c).state = .peak ∧ (d.sol c).peakAt + 5000 * (d.sol c).peakMax ≤ d.solTime c 499)
    (fun d => d.solFault c 5 .clamped)) ∧
  (∀ b ma, Runs (.bankHsOvercurrent b ma)
    (fun d => b < d.classCount clsBANK ∧ d.dieLive (dieOf clsBANK b) = true ∧ (d.bank b).fault = false) (fun d => d.bankFault b 1 ma)) ∧
  (∀ b ma, Runs (.bankHsOvertemp b ma)
    (fun d => b < d.classCount clsBANK ∧ d.dieLive (dieOf clsBANK b) = true ∧ (d.bank b).fault = false) (fun d => d.bankFault b 2 ma)) ∧
  (∀ b o, Runs (.shuttleSwitch b) (fun d => d.loadOf b = some o ∧ o.stage = 2 ∧ 256 ≤ o.sent)
    (fun d =>
      let d1 := d.setBank b { d.bank b with active := 1 - (d.bank b).active }
      let d2 := (List.range 256).foldl (fun (y : Dev) j => y.put Reg.SHUTTLE_CODE.WORD (256 * b + j) (o.words.getD j 0)) d1
      let d3 := (List.range 8).foldl (fun (y : Dev) j =>
        let v := o.slots.getD j 0
        let e := v % 512
        let r := v / 2 ^ 16 % 512
        let i := 8 * b + j
        (((y.put Reg.SHUTTLE_ENTRY.ENTRY i e).put Reg.SHUTTLE_ENTRY.RELEASE i r).dput Reg.SHUTTLE_ENTRY.ENTRY i e).dput
          Reg.SHUTTLE_ENTRY.RELEASE i r) d2
      let d4 := ((d3.putRet Reg.BANK_LIB_ID.CRC b o.crc).setBlock (handle clsBANK b)
        (o.words.flatMap (leBytes 4) ++ o.slots.flatMap (leBytes 4))).dropLoad b
      (d4.done o.id (2 ^ 32 * (d.tick % 2 ^ 32))).raise 0x0806 (d.name clsBANK b) (leBytes 4 o.crc ++ [1]))) ∧
  (∀ b o, Runs (.shuttleLoadTimeout b) (fun d => d.loadOf b = some o ∧ o.stage = 1 ∧ o.since + 1000000 ≤ d.tick)
    (fun d => (d.dropLoad b).fail o.id .timeout))

/-- R381, R382, R384, R385, R390: the fans and the analog outputs, row by row. Where the spec leaves a choice, the model's is log entries 65, 66 and
67. -/
def Obligations.FanAndOutputRowsAct : Prop :=
  (∀ f, Runs (.kickTimeout f)
    (fun d => d.fanHere f = true ∧ (d.fanAt f).state = .kick ∧ 0 < (d.fanAt f).cmd ∧ d.fanFor f (10000 * d.dget Reg.FAN_TIMING.KICK_TIME f) = true
      ∧ (d.fanAt f).kicks < 2 ∧ d.disSet Reg.FAN_CFG.TACH f = false)
    (fun d => (d.setFan f { d.fanAt f with state := .run, since := (d.fd (dieOf clsFAN f)).bounds }).fanDrive f)) ∧
  (∀ f, Runs (.kickTimeout f)
    (fun d => d.fanHere f = true ∧ (d.fanAt f).state = .kick ∧ 0 < (d.fanAt f).cmd ∧ d.fanFor f (10000 * d.dget Reg.FAN_TIMING.KICK_TIME f) = true
      ∧ (d.fanAt f).kicks < 2 ∧ d.disSet Reg.FAN_CFG.TACH f = true)
    (fun d => (d.fanRetry f 1 0xFFFF).fanDrive f)) ∧
  (∀ f, Runs (.backoffExpiry f)
    (fun d => d.fanHere f = true ∧ (d.fanAt f).state = .backoff ∧ 0 < (d.fanAt f).cmd ∧ d.fanFor f (250000 * 2 ^ (d.fanAt f).retries) = true)
    (fun d => (d.fanKick f).fanDrive f)) ∧
  (∀ f t, Runs (.tachEdge f t) (fun d => d.fanHere f = true ∧ d.disSet Reg.FAN_CFG.TACH f = true)
    (fun d => d.setFan f { d.fanAt f with
      edges := (((d.fd (dieOf clsFAN f)).clock + t) :: (d.fanAt f).edges).take 9
      kicks := if (d.fanAt f).state = .kick then min 2 ((d.fanAt f).kicks + 1) else (d.fanAt f).kicks
      edgeSeen := (d.fanAt f).state == .tachLost })) ∧
  (∀ f ma, Runs (.tachLost f ma)
    (fun d => d.fanHere f = true ∧ d.disSet Reg.FAN_CFG.TACH f = true ∧ d.fanSilent f ((d.fd (dieOf clsFAN f)).clock + 1999) = true
      ∧ (d.fanAt f).state = .run ∧ d.fanSupplyTells f = false)
    (fun d =>
      let y := { d.fanAt f with
        edges := [], before := bitsOf 32 (saturate 32 (fanRpm (d.fanFreq f) (d.dget Reg.FAN_TIMING.PPR f))), cause := 0, edgeSeen := false }
      (((d.setFan f y).tachLostEvent f true 0 ma).fanTo f .tachLost).fanDrive f)) ∧
  (∀ f ma, Runs (.tachLost f ma)
    (fun d => d.fanHere f = true ∧ d.disSet Reg.FAN_CFG.TACH f = true ∧ d.fanSilent f ((d.fd (dieOf clsFAN f)).clock + 1999) = true
      ∧ (d.fanAt f).state = .run ∧ d.fanSupplyTells f = true ∧ ma < d.dget Reg.FAN_DIAG.RUN_MIN f)
    (fun d =>
      let y := { d.fanAt f with
        edges := [], before := bitsOf 32 (saturate 32 (fanRpm (d.fanFreq f) (d.dget Reg.FAN_TIMING.PPR f))), cause := 3, edgeSeen := false }
      ((((d.setFan f y).tachLostEvent f true 3 ma).fanTo f .failed).fanFailedEvent f true 3 ma).fanDrive f)) ∧
  (∀ f, Runs (.fanRun60s f) (fun d => d.fanHere f = true ∧ (d.fanAt f).state = .run ∧ d.fanFor f 6000000 = true)
    (fun d => d.setFan f { d.fanAt f with retries := 0 })) ∧
  (∀ a mv, Runs (.aoOverload a mv)
    (fun d => d.aoHere a = true ∧ (d.aoAt a).overload = false ∧ 200 < max mv (d.aoAt a).mv - min mv (d.aoAt a).mv)
    (fun d => (d.setAo a { d.aoAt a with overload := true, readback := mv }).aoFaultEvent a true)) ∧
  (∀ a mv, Runs (.aoOverloadClear a mv)
    (fun d => d.aoHere a = true ∧ (d.aoAt a).overload = true ∧ max mv (d.aoAt a).mv - min mv (d.aoAt a).mv ≤ 200)
    (fun d => (d.setAo a { d.aoAt a with overload := false, readback := mv }).aoFaultEvent a false))

/-! ### The quilt -/

/-- R407, R410, R433, R436, R437, R440, R444, R445, R447, R462: a stitch of each kind that its port takes, and no part of it waits for a resend, is
accepted; a corrected one counts. Where the spec leaves a choice, the model's is log entries 112, 114, 115 and 116. -/
def Obligations.StitchesAreAccepted : Prop :=
  (∀ (kind : Nat) (c : Nat → Word → Nat → Bool → Instr),
    (c, kind) ∈ [(Instr.stitchValue, 0), (.stitchMemRead, 2), (.stitchMemData, 3), (.stitchMemWrite, 4), (.stitchMemAck, 5), (.stitchDoorbell, 6),
      (.tokenReq, 7), (.tokenGrant, 8), (.tokenReturn, 9), (.admitStitch, 10), (.admitReply, 11), (.trace, 12), (.mgmt, 13)] →
    (∀ p w x n first, decodeData w x = some (n, false) → (stitchOf n).kind = kind →
      Runs (c p w x first) (fun d => d.live = true ∧ d.portUp p = true ∧ (d.port p).nak = false) (fun d => d.takeStitch p (stitchOf n))) ∧
    (∀ p w x n first, decodeData w x = some (n, true) → (stitchOf n).kind = kind →
      Runs (c p w x first) (fun d => d.live = true ∧ d.portUp p = true ∧ (d.port p).nak = false)
        (fun d => (d.bump Reg.PORT_ERR.CORRECTED p 0xFFFF).takeStitch p (stitchOf n))) ∧
    (∀ p w x n, decodeData w x = some (n, false) → (stitchOf n).kind = kind →
      Runs (c p w x true) (fun d => d.live = true ∧ d.portUp p = true ∧ (d.port p).nak = true)
        (fun d => ((d.setPort p { d.port p with nak := false }).recovered).takeStitch p (stitchOf n))) ∧
    (∀ p w x, Runs (c p w x false) (fun d => (d.port p).nak = true) (fun d => d)) ∧
    (∀ p w x first, decodeData w x = none → Runs (c p w x first) (fun _ => True) (fun d => d)))

/-- R86, R408, R410, R412, R435, R439, R680, R687: the control words of a link. Where the spec leaves a choice, the model's is log entries 110, 111,
113, 120, 178, 189, 190 and 228. -/
def Obligations.ControlWordsAct : Prop :=
  (∀ p count ns, Runs (.ack p count false ns)
    (fun d => d.live = true ∧ d.portUp p = true ∧ (count % 4096 + 4096 - (d.port p).acked) % 4096 ≤ (d.port p).retry.length)
    (fun d => (d.setPort p { d.port p with
      retry := (d.port p).retry.drop ((count % 4096 + 4096 - (d.port p).acked) % 4096), acked := count % 4096 }).pump)) ∧
  (∀ p count ns, Runs (.ack p count true ns)
    (fun d => d.live = true ∧ d.portUp p = true ∧ (count % 4096 + 4096 - (d.port p).acked) % 4096 ≤ (d.port p).retry.length)
    (fun d =>
      let r := (d.setPort p { d.port p with
        retry := (d.port p).retry.drop ((count % 4096 + 4096 - (d.port p).acked) % 4096), acked := count % 4096 }).readRetries p
      let d3 := r.1.1.foldl (fun (y : Dev) st => (y.emit (.stitch p st.line)).bump Reg.PORT_RETRY.RESENT p 0xFFFF)
        (r.2.setPort p { r.2.port p with retry := r.1.1 })
      ((List.range (r.1.2 + 1)).foldl (fun (y : Dev) _ => y.linkError p ns) d3).pump)) ∧
  (∀ p dev port, Runs (.idle p dev port true)
    (fun d => d.live = true ∧ p < 8 ∧ (d.portState p = pUP ∨ d.portState p = pAUDIT))
    (fun d => d.setNbr p dev port true (d.isSet Reg.PORT_NBR.DUPLICATE p))) ∧
  (∀ p cls n, Runs (.credit p cls n) (fun d => d.live = true ∧ p < 8 ∧ cls < 4 ∧ (d.portState p = pUP ∨ d.portState p = pAUDIT))
    (fun d =>
      let i := 4 * p + cls
      let x := d.port p
      let c := min 64 (d.get Reg.PORT_CONS.TX_CREDITS i + (if n % 64 = 0 then 64 else n % 64))
      (((d.put Reg.PORT_CONS.TX_CREDITS i c).put Reg.PORT_CONS.TX_OUT i (64 - c)).setPort p
        { x with creditsIn := x.creditsIn.set cls ((x.creditsIn.getD cls 0 + 1) % 4096) }).pump)) ∧
  (∀ p low ns, Runs (.time p low ns)
    (fun d => d.live = true ∧ d.portUp p = true ∧ d.quilt.marked ≠ some (low % 2 ^ 24) ∧ d.isSet Reg.QUILT_TIME_STAT.IS_MASTER 0 = true)
    (fun d => Dev.flood { d with quilt := { d.quilt with marked := some (low % 2 ^ 24) } } kTIME (low % 2 ^ 24) (some p))) ∧
  (∀ p low ns, Runs (.time p low ns)
    (fun d => d.live = true ∧ d.portUp p = true ∧ d.quilt.marked ≠ some (low % 2 ^ 24) ∧ d.isSet Reg.QUILT_TIME_STAT.IS_MASTER 0 = false
      ∧ d.isSet Reg.QUILT_TIME_STAT.MASTER_VALID 0 = true)
    (fun d =>
      let d1 := Dev.flood { d with quilt := { d.quilt with marked := some (low % 2 ^ 24) } } kTIME (low % 2 ^ 24) (some p)
      ({ d1 with quilt := { d1.quilt with markerAt := d.tick } }.put Reg.QUILT_TIME_STAT.HOLDOVER 0 0).takeOffset
        (ns - (d.get Reg.QUILT_PATH_DLY.DELAY_NS p : Int)))) ∧
  (∀ p n rx tx, Runs (.delay p n false rx tx) (fun d => d.live = true ∧ d.portUp p = true)
    (fun d => (d.emit (.control p kDELAY (n % 256 + 256))).sendControl (d.get Reg.PORT_NBR.DEV p) 13
      ([2, n % 256] ++ leBytes 8 rx ++ leBytes 8 tx) (some p))) ∧
  (∀ p n rx tx, Runs (.delay p n true rx tx) (fun d => d.live = true ∧ d.portUp p = true ∧ n = (d.port p).exchange)
    (fun d => d.setPort p { d.port p with backAt := some rx })) ∧
  (∀ p f, Runs (.freeze p f)
    (fun d => d.live = true ∧ p < 8 ∧ d.portUp p = true ∧ d.tick + 1 < f ∧ d.frz.lastF ≠ some f
      ∧ d.frzEn = true ∧ d.frz.req = none)
    (fun d => (d.floodQuilt kFREEZE f (some p)).setFrz { d.frz with
      lastF := some f, req := some { at_ := f, quilt := true, cause := 2, late := 0, descs := [] } })) ∧
  (∀ p f r, Runs (.freeze p f)
    (fun d => d.live = true ∧ p < 8 ∧ d.portUp p = true ∧ d.tick + 1 < f ∧ d.frz.lastF ≠ some f
      ∧ d.frzEn = true ∧ d.frz.req = some r ∧ f < r.at_)
    (fun d => (d.floodQuilt kFREEZE f (some p)).setFrz { d.frz with
      lastF := some f, req := some { at_ := f, quilt := true, cause := 2, late := 0, descs := r.descs } })) ∧
  (∀ p f r, Runs (.thaw p f)
    (fun d => d.power.phase = .up ∧ p < 8 ∧ d.portUp p = true ∧ d.frz.lastThaw ≠ some f ∧ d.frz.cur = some r ∧ r.quilt = true ∧ r.at_ = f)
    (fun d => (d.floodQuilt kTHAW f (some p)).setFrz { d.frz with lastThaw := some f, thawAsked := 3 })) ∧
  (∀ p cls credits count, Runs (.audit p cls credits count)
    (fun d => d.live = true ∧ p < 8 ∧ cls < 4 ∧ d.portState p = pUP
      ∧ credits + d.get Reg.PORT_CONS.RX_USED (4 * p + cls) + d.get Reg.PORT_CONS.RX_FREED (4 * p + cls)
          + ((d.port p).creditsOut.getD cls 0 + 4096 - count % 4096) % 4096 ≠ 64)
    (fun d =>
      let sum := credits + d.get Reg.PORT_CONS.RX_USED (4 * p + cls) + d.get Reg.PORT_CONS.RX_FREED (4 * p + cls)
        + ((d.port p).creditsOut.getD cls 0 + 4096 - count % 4096) % 4096
      ((d.raise 0x0A05 (d.name clsSEAM p) ([cls, 0] ++ leBytes 2 sum)).put Reg.QUILT_STAT.AUDIT_FAIL 0 1).linkDown p 5)) ∧
  (∀ p cls credits count, Runs (.audit p cls credits count)
    (fun d => Map.rising d.regs = true ∧ d.live = true ∧ p < 8 ∧ cls < 4 ∧ d.portState p = pUP ∧ (d.port p).asked.testBit cls = false
      ∧ credits + d.get Reg.PORT_CONS.RX_USED (4 * p + cls) + d.get Reg.PORT_CONS.RX_FREED (4 * p + cls)
          + ((d.port p).creditsOut.getD cls 0 + 4096 - count % 4096) % 4096 = 64)
    (fun d => (d.raise 0x0A05 (d.name clsSEAM p) ([cls, 1] ++ leBytes 2 64)).sendAudit p cls)) ∧
  (∀ p cause, Runs (.down p cause) (fun d => d.live = true ∧ d.portUp p = true) (fun d => d.linkDown p 3)) ∧
  (∀ p dev port numbered used cands, Runs (.train p dev port numbered false used cands)
    (fun d => d.live = true ∧ p < 8 ∧ d.portState p = pTRAINING ∧ (d.port p).idle = false ∧ d.isSet Reg.PORT_STAT.ALIGNED p = true
      ∧ (numbered = false ∨ (d.quiltTrain cands).isSet Reg.GLOBAL_DEVNUM.DEVNUM_SET 0 = false ∨ dev ≠ (d.quiltTrain cands).devNum))
    (fun d => (((((d.quiltTrain cands).setNbr p dev port numbered false).trainCounts p used).setPortState p pAUDIT).sendAudits p)))

/-- R401, R410 to R413, R421: a seam falls silent, fails, trains and comes back. Where the spec leaves a choice, the model's is log entries 111, 127,
191 and 228. -/
def Obligations.SeamRowsAct : Prop :=
  (∀ p, Runs (.linkSilence p) (fun d => d.live = true ∧ d.portUp p = true) (fun d => d.linkDown p 1)) ∧
  (∀ p high, Runs (.seamLos p high) (fun d => d.live = true ∧ p < 8) (fun d => (d.putBit Reg.PORT_STAT.LOS p high).applyLos p)) ∧
  (∀ p, Runs (.receiverAligned p) (fun d => d.live = true ∧ p < 8 ∧ d.portState p = pTRAINING ∧ (d.port p).idle = false)
    (fun d => (d.put Reg.PORT_STAT.ALIGNED p 1).emit (.control p kTRAIN (d.trainWord p)))) ∧
  (∀ p, Runs (.trainingTimeout p)
    (fun d => d.live = true ∧ p < 8 ∧ d.portState p = pTRAINING ∧ (d.port p).idle = false ∧ (d.port p).since + 1000 ≤ d.tick)
    (fun d => (d.put Reg.PORT_STAT.ALIGNED p 0).setPort p { d.port p with idle := true, since := d.tick })) ∧
  (∀ p, Runs (.trainingIdleEnd p)
    (fun d => d.live = true ∧ p < 8 ∧ d.portState p = pTRAINING ∧ (d.port p).idle = true ∧ (d.port p).since + 10000 ≤ d.tick)
    (fun d => d.enterTraining p)) ∧
  (∀ p, Runs (.downSendEnd p)
    (fun d => d.live = true ∧ p < 8 ∧ d.portState p = pDOWN ∧ (d.port p).since + 2 ≤ d.tick ∧ d.losHeld p = true)
    (fun d => d.setPort p { d.port p with downSent := true })) ∧
  (∀ p, Runs (.downSendEnd p)
    (fun d => d.live = true ∧ p < 8 ∧ d.portState p = pDOWN ∧ (d.port p).since + 2 ≤ d.tick ∧ d.losHeld p = false)
    (fun d => d.enterTraining p)) ∧
  (∀ p, Runs (.revertTimer p) (fun d => d.live = true ∧ d.portUp p = true ∧ d.isSet Reg.QUILT_CFG.AUTO_REVERT 0 = true
      ∧ (d.port p).since + 10000 * d.get Reg.QUILT_CFG.REVERT_TIME 0 ≤ d.tick)
    (fun d => (d.reroute (some p)).pump)) ∧
  (∀ p x ns, Runs (.seamUncorrectable p { wrong := x, ns := ns }) (fun d => d.live = true ∧ d.portUp p = true ∧ decodeErr (x % 2 ^ 280) = .uncorrectable)
    (fun d =>
      let d1 := d.bump Reg.PORT_ERR.UNCORRECTABLE p 0xFFFF
      let n := d1.get Reg.PORT_ERR.UNCORRECTABLE p
      let d2 := d1.raiseLimited 0x0A07 (d1.name clsSEAM p) d1.tick n ([0, 0, 0, 0] ++ leBytes 4 n)
      ((d2.setPort p { d2.port p with nak := true }).emit (.control p kACK ((d2.port p).accepted + 4096))).linkError p ns)) ∧
  (∀ id r, Runs (.portRetrainDone id)
    (fun d => d.live = true ∧ d.quilt.retrains.find? (fun r => r.1 == id) = some r ∧ r.2.2 + 1000 ≤ d.tick)
    (fun d => Dev.done { d with quilt := { d.quilt with retrains := d.quilt.retrains.filter fun x => x.1 != id } } id
      (((List.range 8).map fun p => if bitAt r.2.1 p && d.portUp p then 2 ^ p else 0).foldl (· + ·) 0)))

/-- R86, R426, R428, R434, R436, R437, R445, R447: what the quilt does when its waits end. Where the spec leaves a choice, the model's is log entries
109, 115, 119 and 122. -/
def Obligations.QuiltTimersAct : Prop :=
  (∀ src flow cls skip, Runs (.gapWaitExpiry src flow cls)
    (fun d =>
      let r := d.flowRec (flowKey { dest := 0, src := src % 1024, cls := cls % 4, kind := 0, flow := flow % 1024, seq := 0, data := [] })
      d.live = true ∧ (r.held.map fun h => (h.2.seq + 4096 - r.next) % 4096).min? = some skip ∧ r.since + gapWait (cls % 4) ≤ d.tick)
    (fun d =>
      let k := flowKey { dest := 0, src := src % 1024, cls := cls % 4, kind := 0, flow := flow % 1024, seq := 0, data := [] }
      let r := d.flowRec k
      let d1 := (d.setFlowRec k ((r.next + skip) % 4096) r.held).bump Reg.QUILT_GAPS.GAPS 0 0xFF
      (d1.raiseLimited 0x0A06 d1.nullName d1.tick (1 + r.next + 4096 * k) (leBytes 2 src ++ leBytes 2 flow ++ [cls, 0] ++ leBytes 2 skip)).drainFlow
        k r.held.length)) ∧
  (∀ dest cls, Runs (.unreachableDiscard dest cls)
    (fun d => d.live = true
      ∧ (d.quilt.queue.filter fun it => it.st.dest == dest && it.st.cls == cls && it.via.isNone
          && decide (max it.since (Map.get d.quilt.lostAt dest 0) + gapWait cls ≤ d.tick)) ≠ []
      ∧ d.routePort dest = none)
    (fun d =>
      let gone := d.quilt.queue.filter fun it => it.st.dest == dest && it.st.cls == cls && it.via.isNone
        && decide (max it.since (Map.get d.quilt.lostAt dest 0) + gapWait cls ≤ d.tick)
      let q := d.quilt
      let d1 := { d with quilt := { q with queue := q.queue.filter fun it => !gone.contains it, unreach := q.unreach + gone.length
                                           discards := (if q.discards.contains dest then q.discards else q.discards ++ [dest]) } }
      let d2 := gone.foldl (fun (y : Dev) it =>
        let z := y.freeItem it.inPort cls
        match it.desc with
        | some id => z.fail id .unreachable
        | none => z) d1
      d2.raiseLimited 0x0A08 d2.nullName d2.tick d2.quilt.unreach (leBytes 2 dest ++ [cls, 0] ++ leBytes 4 gone.length))) ∧
  (∀ dest cls, Runs (.tokenIdleReturn dest cls)
    (fun d => d.live = true ∧ dest < 1024 ∧ 1 ≤ cls ∧ cls ≤ 3 ∧ 0 < d.tokens dest cls
      ∧ Map.get d.quilt.tokUsed (4 * dest + cls) 0 + 1000 ≤ d.tick)
    (fun d => (d.setTokens dest cls 0).sendControl dest 9 [cls, d.tokens dest cls, 1] none)) ∧
  (∀ id, Runs (.class2Timeout id)
    (fun d => d.live = true ∧ (d.quilt.queue.any (fun it => it.desc == some id && decide (it.since + 10000 < d.tick))
      || d.quilt.tokWait.any (fun it => it.desc == some id && decide (it.since + 10000 < d.tick))) = true)
    (fun d =>
      let waits := fun (it : QItem) => it.desc == some id && decide (it.since + 10000 < d.tick)
      let freed := (d.quilt.queue.filter waits).foldl (fun (y : Dev) it => y.freeItem it.inPort it.st.cls) d
      Dev.fail { freed with quilt := { freed.quilt with
        queue := freed.quilt.queue.filter fun it => !waits it
        tokWait := freed.quilt.tokWait.filter fun it => !waits it } } id .timeout)) ∧
  (∀ id op, Runs (.admitTimeout id)
    (fun d => d.live = true ∧ d.quilt.ops.find? (fun o => o.id == some id) = some op ∧ op.askedAt + 10000 ≤ d.tick)
    (fun d => d.endFlowOpen op .timeout)) ∧
  (∀ p j i, Runs (.tackSlot p j)
    (fun d => d.live = true ∧ p < 8 ∧ j < 15 ∧ (d.port p).slotComes d.tick j = true
      ∧ d.quilt.tack.find? (fun i => i.port == p && i.slot == j && i.tick == d.tick) = some i
      ∧ (d.setPort p { d.port p with slot := some (d.tick, j) }).canSend p 0 = true
      ∧ (d.setPort p { d.port p with slot := some (d.tick, j) }).carried i.st = true)
    (fun d =>
      let d1 := d.setPort p { d.port p with slot := some (d.tick, j) }
      (Dev.sendOn { d1 with quilt := { d1.quilt with tack := d1.quilt.tack.filter fun x => x != i } } p i.st).freeItem i.inPort 0)) ∧
  Runs .timeMarkerSend
    (fun d => d.live = true ∧ d.isSet Reg.QUILT_TIME_STAT.IS_MASTER 0 = true ∧ d.tick % 100 = 0 ∧ d.quilt.marked ≠ some (d.tick % 2 ^ 24))
    (fun d => Dev.flood { d with quilt := { d.quilt with marked := some (d.tick % 2 ^ 24) } } kTIME (d.tick % 2 ^ 24) none) ∧
  (∀ cands, Runs (.masterLost cands)
    (fun d => d.live = true ∧ d.isSet Reg.QUILT_TIME_STAT.MASTER_VALID 0 = true ∧ d.isSet Reg.QUILT_TIME_STAT.IS_MASTER 0 = false
      ∧ d.quilt.markerAt + 1000 ≤ d.tick)
    (fun d => (d.put Reg.QUILT_TIME_STAT.HOLDOVER 0 1).elect cands)) ∧
  (∀ p tx, Runs (.delayExchange p tx) (fun d => d.live = true ∧ d.portUp p = true ∧ (d.port p).exchangeDue d.tick = true)
    (fun d => (d.setPort p { d.port p with
      exchange := ((d.port p).exchange + 1) % 256, sentAt := some tx, backAt := none, exchAt := some d.tick }).emit
      (.control p kDELAY (((d.port p).exchange + 1) % 256)))) ∧
  Runs .rringFetchRetry (fun d => d.live = true ∧ d.remote = true ∧ d.quilt.fetchAt + 100000 ≤ d.tick ∧ d.serverReached = true)
    (fun d =>
      let d1 := { d with quilt := { d.quilt with reads := [], fetchAt := d.tick } }
      (if d1.serverReached then d1.readHeads else d1).remoteFetchAll)


/-! ### Host rings, field buses and storage -/

/-- R445, R455, R456, R461, R464, R466, R467, R470, R478 to R480, R486, R683: the rings fetch, start, complete and report. Where the spec leaves a
choice, the model's is log entries 15, 25, 26, 27, 30, 32, 232 and 250. -/
def Obligations.HostRingRowsAct : Prop :=
  (∀ q l, Runs (.descriptorFetched q (some l))
    (fun d => d.fetches q = true ∧ d.remote = false
      ∧ (d.get Reg.SQ_STAT.TAIL q + 2 ^ d.get Reg.SQ_CFG.SIZE_LOG2 q - d.get Reg.SQ_STAT.HEAD q) % 2 ^ d.get Reg.SQ_CFG.SIZE_LOG2 q ≠ 0
      ∧ d.isSet Reg.SQ_STAT.FENCED q = false)
    (fun d =>
      let size := d.get Reg.SQ_CFG.SIZE_LOG2 q
      let take := l.take (min 8 ((d.get Reg.SQ_STAT.TAIL q + 2 ^ size - d.get Reg.SQ_STAT.HEAD q) % 2 ^ size))
      (take.foldl (fun (x : Dev) e => x.takeDesc q e) d).put Reg.SQ_STAT.HEAD q ((d.get Reg.SQ_STAT.HEAD q + take.length) % 2 ^ size))) ∧
  (∀ q, Runs (.descriptorFetched q none)
    (fun d => d.fetches q = true ∧ d.remote = false
      ∧ (d.get Reg.SQ_STAT.TAIL q + 2 ^ d.get Reg.SQ_CFG.SIZE_LOG2 q - d.get Reg.SQ_STAT.HEAD q) % 2 ^ d.get Reg.SQ_CFG.SIZE_LOG2 q ≠ 0)
    (fun d => d.ringFault q 1 0)) ∧
  (∀ q, Runs (.fetchTimeout q) (fun d => d.fetches q = true ∧ d.remote = false ∧ d.get Reg.SQ_STAT.HEAD q ≠ d.get Reg.SQ_STAT.TAIL q)
    (fun d => d.ringFault q 1 0)) ∧
  (∀ q data ups r e, Runs (.descriptorStart q data ups)
    (fun d => d.live = true ∧ d.recs.find? (fun r => r.ring == q && r.phase == .fetched) = some r ∧ d.mustWait q r.id = false
      ∧ d.inflight q < 32 ∧ d.inflightAll < 512 ∧ (opIndex data ups).find? (fun e => e.1 == r.d.u16 0) = some e)
    (fun d => d.actDesc r.id r.d e.2.1 e.2.2)) ∧
  (∀ c, Runs (.completionWrite c) (fun d => d.live = true ∧ c < 64 ∧ d.isSet Reg.CQ_CTRL.ENABLE c = true) (fun d => d.writeCompletion c)) ∧
  (∀ r, Runs (.msixHoldoffEnd r)
    (fun d => 10 * Map.get d.irqAt r 0 + (d.irqCfg r).2.2 < 10 * (d.tick + 1) ∧ Map.get d.irqHold r 0 = 1)
    (fun d => { d with irqHold := Map.set d.irqHold r 0 0 })) ∧
  (∀ r, Runs (.msixHoldoffEnd r)
    (fun d => 10 * Map.get d.irqAt r 0 + (d.irqCfg r).2.2 < 10 * (d.tick + 1) ∧ 2 ≤ Map.get d.irqHold r 0)
    (fun d => Dev.ringSignal { d with irqHold := Map.set d.irqHold r 0 0 } r (d.irqCfg r).1 (d.irqCfg r).2.1 (d.irqCfg r).2.2)) ∧
  Runs .eventWrite (fun d => d.live = true ∧ d.eventSpace = true) (fun d => d.writeEvent) ∧
  (∀ c x r rest, Runs (.traceRecordWrite c)
    (fun d => c < 64 ∧ d.chalk c = some x ∧ x.recs = r :: rest ∧ d.live = true ∧ r.ready = true ∧ d.isSet Reg.TQ_CTRL.ENABLE (armRing x.arm) = true
      ∧ (d.remote = true
        ∨ (d.get Reg.TQ_STAT.TAIL (armRing x.arm) + 2 ^ d.get Reg.TQ_CFG.SIZE_LOG2 (armRing x.arm) - d.get Reg.TQ_STAT.HEAD (armRing x.arm))
            % 2 ^ d.get Reg.TQ_CFG.SIZE_LOG2 (armRing x.arm) + recWords x.arm ≤ 2 ^ d.get Reg.TQ_CFG.SIZE_LOG2 (armRing x.arm) - 1))
    (fun d =>
      let q := armRing x.arm
      let size := d.get Reg.TQ_CFG.SIZE_LOG2 q
      let t := d.get Reg.TQ_STAT.TAIL q
      let w := recWords x.arm
      let rd := d.chalkRead (d.get Reg.CHALK_REGION.BASE 0 + armOff x.arm + w * r.slot) w
      let units := rd.1.1.mapIdx fun i u =>
        if i = 0 && decide (rd.1.2 = true) && u = List.replicate 32 0 then u.set 11 1
        else if i = 0 then u.set 11 (Nat.lor r.flags (if rd.1.2 then 1 else 0)) else u
      let d0 := rd.2.putTrace q t units
      let d1 := if d0.remote then d0
        else Dev.put { d0 with traceDue := Map.set d0.traceDue q 1 0 } Reg.TQ_STAT.TAIL q ((t + w) % 2 ^ size)
      let d2 := d1.wrapUp Reg.CHALK_COUNT.STREAMED c
      let x1 := { x with recs := rest }
      if x.post = some 0 && rest.isEmpty then
        (d2.setChalk c (some x1)).chalkEnd c .ok
      else d2.setChalk c (some x1))) ∧
  (∀ t, Runs (.tailWriteback t) (fun d => d.live = true ∧ t < 4 ∧ d.isSet Reg.TQ_CTRL.ENABLE t = true ∧ Map.get d.traceDue t 0 ≠ 0)
    (fun d => (Dev.emit { d with traceDue := Map.set d.traceDue t 0 0 }
        (.hostWrite (4 * d.get Reg.TQ_WB_LO.ADDR_LO t + 2 ^ 32 * d.get Reg.TQ_WB_HI.ADDR_HI t) (leBytes 4 (d.get Reg.TQ_STAT.TAIL t)))).ringSignal
      (ringTQ t) (d.get Reg.TQ_CFG.VECTOR t) (d.isSet Reg.TQ_CFG.IRQ_EN t) (d.get Reg.TQ_CFG.HOLDOFF t))) ∧
  Runs .hostLost (fun d => d.live = true ∧ d.wdogExpired = true) (fun d => d.enterLost (if d.remote then 4 else 1)) ∧
  Runs (.pcieReset .linkDown) (fun d => d.power.phase = .up ∧ d.frozen = false) (fun d => d.pcieDown 2 true) ∧
  (∀ kind, kind ≠ .linkDown → Runs (.pcieReset kind) (fun d => d.power.phase = .up ∧ d.frozen = false) (fun d => d.pcieDown 3 false)) ∧
  Runs .pciePerstN (fun d => d.power.phase = .up ∧ d.frozen = false) (fun d => d.pcieDown 2 false) ∧
  Runs .pciePerstN (fun d => d.power.phase = .up ∧ d.frozen = true) (fun d => { d with frz := { d.frz with posted := d.frz.posted ++ [.pcie 2 false] } }) ∧
  (∀ speed width, Runs (.pcieLink speed width) (fun d => d.power.phase = .up ∧ d.frozen = false)
    (fun d => (d.put Reg.QUILT_CLK_STAT.PCIE_REF_OK 0 1).raise 0x0106 d.nullName [1, speed, width])) ∧
  (∀ speed width, Runs (.pcieLink speed width) (fun d => d.power.phase = .up ∧ d.frozen = true)
    (fun d => { d with frz := { d.frz with posted := d.frz.posted ++ [.link speed width] } }))

/-- R257, R307, R314, R365, R420, R508, R567, R590, R646: the check of what a descriptor staged ends with the check of its opcode. Where the spec
leaves a choice, the model's is log entries 94, 133 and 193. -/
def Obligations.StagedChecksEnd : Prop :=
  ∀ (id op : Nat) (check : Dev → Nat → Desc → Dev),
    (op, check) ∈ [(0x0501, Dev.patLoadChecked), (0x0601, Dev.loopChecked), (0x0701, Dev.schedChecked), (0x0702, Dev.schedChecked),
      (0x0801, Dev.shuttleChecked), (0x0A03, Dev.routeChecked), (0x0B03, Dev.pollChecked), (0x0C0B, Dev.importChecked), (0x0D02, Dev.wfloadChecked),
      (0x1001, Dev.secChecked), (0x1002, Dev.secChecked), (0x1003, Dev.secChecked)] →
    ∀ r, Runs (.stagedCheckDone id) (fun d => d.live = true ∧ d.rec? id = some r ∧ d.isRunning id = true ∧ r.d.u16 0 = op)
      (fun d => check d id r.d)

/-- R489, R492 to R502, R507: the frames, timers and links of the field buses. Where the spec leaves a choice, the model's is log entries 128, 129,
131, 132, 195, 196, 233 and 234. -/
def Obligations.FieldBusRowsAct : Prop :=
  (∀ n kind dest src data, Runs (.mstpFrame n kind dest src data true)
    (fun d => d.live = true ∧ n < 16 ∧ d.busMode n = busMSTP ∧ (d.bus n).node ≠ .silent ∧ src = (d.busMark n).get Reg.BUS_MSTP.MAC n)
    (fun d0 =>
      let d := d0.busMark n
      let d1 := match (d.bus n).job with
        | some (.send id) => d.failSend n id .timeout
        | _ => d
      (((d1.mstpInit n).mstpRing n false).setBus n { d1.bus n with
        node := .silent, job := none, sent := false, reply := none, joined := false }).raise 0x0B02 (d.name clsBUS n) [d.get Reg.BUS_MSTP.MAC n])) ∧
  (∀ n kind dest src data, Runs (.mstpFrame n kind dest src data true)
    (fun d => d.live = true ∧ n < 16 ∧ d.busMode n = busMSTP ∧ (d.bus n).node ≠ .silent ∧ ((d.busMark n).bus n).node = .waitReply
      ∧ src ≠ (d.busMark n).get Reg.BUS_MSTP.MAC n)
    (fun d => (d.busMark n).mstpInWait n kind dest src data)) ∧
  (∀ n kind dest src data, Runs (.mstpFrame n kind dest src data false)
    (fun d => d.live = true ∧ n < 16 ∧ d.busMode n = busMSTP ∧ (d.bus n).node ≠ .silent ∧ ((d.busMark n).bus n).node ≠ .waitReply)
    (fun d => (d.busMark n).busCrc n)) ∧
  (∀ n dest src data, Runs (.mstpFrame n 0 dest src data true)
    (fun d => d.live = true ∧ n < 16 ∧ d.busMode n = busMSTP ∧ (d.bus n).node ≠ .silent ∧ ((d.busMark n).bus n).node = .idle
      ∧ src ≠ (d.busMark n).get Reg.BUS_MSTP.MAC n ∧ dest = (d.busMark n).get Reg.BUS_MSTP.MAC n)
    (fun d => (((d.busMark n).put Reg.BUS_STAT.SOLE_MASTER n 0).mstpRing n true).mstpToken n)) ∧
  (∀ n dest src data, Runs (.mstpFrame n 1 dest src data true)
    (fun d => d.live = true ∧ n < 16 ∧ d.busMode n = busMSTP ∧ (d.bus n).node ≠ .silent ∧ ((d.busMark n).bus n).node = .idle
      ∧ src ≠ (d.busMark n).get Reg.BUS_MSTP.MAC n ∧ dest = (d.busMark n).get Reg.BUS_MSTP.MAC n)
    (fun d => (d.busMark n).mstpEmit n 2 src [])) ∧
  (∀ n kind dest src data, Runs (.mstpFrame n kind dest src data true)
    (fun d => d.live = true ∧ n < 16 ∧ d.busMode n = busMSTP ∧ (d.bus n).node ≠ .silent ∧ ((d.busMark n).bus n).node = .idle
      ∧ src ≠ (d.busMark n).get Reg.BUS_MSTP.MAC n ∧ 3 ≤ kind ∧ (dest = (d.busMark n).get Reg.BUS_MSTP.MAC n ∨ dest = 255))
    (fun d => (d.busMark n).mstpTake n kind dest src data)) ∧
  (∀ n a b, Runs (.mstpReplyWaitExpiry n)
    (fun d => d.live = true ∧ n < 16 ∧ (d.bus n).reply = some (a, b) ∧ (d.bus n).replyAt + 100 * d.get Reg.BUS_MSTP.REPLY_WAIT n ≤ d.tick)
    (fun d => (d.setBus n { d.bus n with reply := none }).mstpEmit n 7 a [])) ∧
  (∀ n, Runs (.mstpReplyTimeout n)
    (fun d => d.live = true ∧ n < 16 ∧ (d.bus n).node = .waitReply ∧ (d.bus n).at_ + mstpReplyWait ≤ d.tick)
    (fun d => ((d.busTimeout n).setBus n { d.bus n with frames := d.get Reg.BUS_MSTP.MAX_INFO n }).mstpReplied n fun y id => y.failSend n id .timeout)) ∧
  (∀ n, Runs (.mstpSilenceEnd n) (fun d => d.live = true ∧ n < 16 ∧ (d.bus n).node = .silent ∧ (d.bus n).at_ + 1000000 ≤ d.tick)
    (fun d => (d.mstpInit n).busMark n)) ∧
  (∀ n, Runs (.mstpTimerExpiry n)
    (fun d => d.live = true ∧ n < 16 ∧ d.busMode n = busMSTP ∧ (d.bus n).node = .idle ∧ (d.bus n).at_ + mstpWait .idle (d.get Reg.BUS_MSTP.MAC n) ≤ d.tick)
    (fun d => (d.mstpRing n false).setBus n { d.bus n with node := .noToken, joined := false })) ∧
  (∀ n, Runs (.mstpTimerExpiry n)
    (fun d => d.live = true ∧ n < 16 ∧ d.busMode n = busMSTP ∧ (d.bus n).node = .passToken
      ∧ (d.bus n).at_ + mstpWait .passToken (d.get Reg.BUS_MSTP.MAC n) ≤ d.tick ∧ (d.bus n).retry < 1)
    (fun d => (d.setBus n { d.bus n with retry := (d.bus n).retry + 1 }).mstpEmit n 0 (d.get Reg.BUS_STAT.NEXT_STATION n) [])) ∧
  (∀ n i, Runs (.modbusPollDue n i)
    (fun d => d.live = true ∧ n < 16 ∧ d.busMode n = busMODBUS ∧ d.isSet Reg.BUS_MB.POLL_RUN n = true ∧ 32 * i < (d.pollList n).length
      ∧ d.entryDue n i = true)
    (fun d => (d.setBus n { d.bus n with due := if (d.bus n).due.contains i then (d.bus n).due else (d.bus n).due ++ [i] }).mbStart n)) ∧
  (∀ n bytes body id, Runs (.modbusResponse n bytes true)
    (fun d => d.live = true ∧ n < 16 ∧ d.busMode n = busMODBUS ∧ (d.bus n).job = some (.send id) ∧ (d.bus n).sent = true ∧ mbChecked bytes = some body)
    (fun d => (d.endSend n id 1 body).mbEnd n)) ∧
  (∀ n bytes body i, Runs (.modbusResponse n bytes true)
    (fun d => d.live = true ∧ n < 16 ∧ d.busMode n = busMODBUS ∧ (d.bus n).job = some (.entry i) ∧ (d.bus n).sent = true
      ∧ mbChecked bytes = some body ∧ entryWhole (pollEntry (d.pollList n) i) body = true)
    (fun d => (d.entryResponse n i body).mbEnd n)) ∧
  (∀ n bytes, Runs (.modbusResponse n bytes true)
    (fun d => d.live = true ∧ n < 16 ∧ d.busMode n = busMODBUS ∧ (d.bus n).job ≠ none ∧ (d.bus n).sent = true ∧ mbChecked bytes = none)
    (fun d => (d.busCrc n).mbFailed n false)) ∧
  (∀ n, Runs (.modbusTimeout n)
    (fun d => d.live = true ∧ n < 16 ∧ d.busMode n = busMODBUS ∧ (d.bus n).at_ + 100 * d.get Reg.BUS_MB.TIMEOUT n ≤ d.tick
      ∧ (d.bus n).broadcast = false ∧ (d.bus n).job ≠ none ∧ (d.bus n).sent = true)
    (fun d => (d.busTimeout n).mbFailed n true)) ∧
  (∀ n, Runs (.modbusTimeout n)
    (fun d => d.live = true ∧ n < 16 ∧ d.busMode n = busMODBUS ∧ (d.bus n).at_ + 100 * d.get Reg.BUS_MB.TIMEOUT n ≤ d.tick
      ∧ (d.bus n).broadcast = true)
    (fun d => (d.setBus n { d.bus n with broadcast := false }).mbStart n)) ∧
  (∀ n, Runs (.modbusGap n) (fun d => d.live = true ∧ n < 16 ∧ d.busMode n = busMODBUS ∧ (d.bus n).job ≠ none ∧ (d.bus n).sent = true)
    (fun d => (d.busFraming n).mbFailed n false)) ∧
  (∀ n bytes, Runs (.rawFrameEnd n bytes true) (fun d => d.live = true ∧ n < 16 ∧ d.busMode n = busRAW)
    (fun d => d.busDeliver n { bytes := bytes.take 1024, kind := 0, src := 0, reply := false })) ∧
  (∀ n bytes, Runs (.rawFrameEnd n bytes false) (fun d => d.live = true ∧ n < 16 ∧ d.busMode n = busRAW) (fun d => d.busFraming n)) ∧
  (∀ k body, Runs (.t1lFrame k (body ++ leBytes 4 (fcs32 body)) true)
    (fun d => d.live = true ∧ k < 4 ∧ d.isSet Reg.T1L_CFG.ENABLE k = true ∧ d.isSet Reg.T1L_STAT.LINK_UP k = true ∧ body.length ≤ 1518
      ∧ d.t1lPasses k (body.take 6) = true)
    (fun d => d.busDeliver (16 + k) { bytes := body, kind := 0, src := 0, reply := false })) ∧
  (∀ k high sqi, Runs (.t1lLink k true high sqi)
    (fun d => d.live = true ∧ k < 4 ∧ d.isSet Reg.T1L_CFG.ENABLE k = true ∧ d.isSet Reg.T1L_STAT.LINK_UP k = false)
    (fun d =>
      let d1 := ((d.putBit Reg.T1L_STAT.LINK_UP k true).putBit Reg.T1L_STAT.AMP k high).put Reg.T1L_STAT.SQI k sqi
      (d1.raise 0x0B05 (d1.name clsBUS (16 + k)) [1, if high then 1 else 0, sqi % 8]).plainStart (16 + k))) ∧
  (∀ k high sqi, Runs (.t1lLink k false high sqi)
    (fun d => d.live = true ∧ k < 4 ∧ d.isSet Reg.T1L_CFG.ENABLE k = true ∧ d.isSet Reg.T1L_STAT.LINK_UP k = true)
    (fun d =>
      let d1 := (((d.putBit Reg.T1L_STAT.LINK_UP k false).putBit Reg.T1L_STAT.AMP k false).put Reg.T1L_STAT.SQI k 0).busTimeout (16 + k)
      (d1.raise 0x0B05 (d1.name clsBUS (16 + k)) [0, if high then 1 else 0, sqi % 8]).plainStart (16 + k))) ∧
  (∀ n id, Runs (.busFrameSent n)
    (fun d =>
      let d1 := (d.emit (.pin ("BUS_DE" ++ toString n) false)).busMark n
      d.live = true ∧ n < 16 ∧ (d1.bus n).job = some (.send id) ∧ (d1.bus n).sent = false ∧ d1.busMode n ≠ busMSTP ∧ d1.busMode n ≠ busMODBUS)
    (fun d =>
      let d2 := ((d.emit (.pin ("BUS_DE" ++ toString n) false)).busMark n).endSend n id 0 []
      (d2.setBus n { d2.bus n with job := none }).plainStart n)) ∧
  (∀ n j, Runs (.busFrameSent n)
    (fun d =>
      let d1 := (d.emit (.pin ("BUS_DE" ++ toString n) false)).busMark n
      d.live = true ∧ n < 16 ∧ (d1.bus n).job = some j ∧ (d1.bus n).sent = false ∧ d1.busMode n = busMODBUS)
    (fun d => ((d.emit (.pin ("BUS_DE" ++ toString n) false)).busMark n).mbSent n j)) ∧
  (∀ n bytes, Runs (.modbusResponse n bytes false)
    (fun d => d.live = true ∧ n < 16 ∧ d.busMode n = busMODBUS ∧ (d.bus n).job ≠ none ∧ (d.bus n).sent = true)
    (fun d => (d.busFraming n).mbFailed n false)) ∧
  (∀ k bytes, Runs (.t1lFrame k bytes false)
    (fun d => d.live = true ∧ k < 4 ∧ d.isSet Reg.T1L_CFG.ENABLE k = true ∧ d.isSet Reg.T1L_STAT.LINK_UP k = true) (fun d => d.busFraming (16 + k)))

/-- R542, R547, R552, R556, R557, R559, R563, R571, R576: writes of the non-volatile memory end, records and blocks commit, checkpoints and refreshes.
Where the spec leaves a choice, the model's is log entries 137, 138, 141, 142, 238, 239, 240 and 249. -/
def Obligations.StoreRowsAct : Prop :=
  (∀ b w id, Runs (.pageWriteDone b) (fun d => d.live = true ∧ d.runningWrite b = some w ∧ w.origin = .host id)
    (fun d => Dev.kickWrites (((d.dropWrite w).commitPage w.addr w.bytes ((d.dropWrite w).pageGroups w.addr w.bytes).length true).done id
      ((d.dropWrite w).pageGroups w.addr w.bytes).length))) ∧
  (∀ b w, Runs (.pageWriteDone b) (fun d => d.live = true ∧ d.runningWrite b = some w ∧ w.origin = .log)
    (fun d => Dev.kickWrites ((d.dropWrite w).commitPage w.addr w.bytes ((d.dropWrite w).pageGroups w.addr w.bytes).length true).logWritten)) ∧
  (∀ b w id, Runs (.pageWriteDone b) (fun d => d.live = true ∧ d.runningWrite b = some w ∧ w.origin = .model id)
    (fun d => Dev.kickWrites (((d.dropWrite w).putSlot (1 - (d.dropWrite w).pat.slot) w.bytes).patSlotWritten id))) ∧
  (∀ v, Runs (.energyWaitEnd v) (fun d => d.live = true) (fun d => (d.put Reg.PWR_VOLT.VHOLD 0 (min v 0xFFFF)).kickWrites)) ∧
  (∀ id w, Runs (.nvmWriteTimeout id) (fun d => d.live = true ∧ d.nvm.writes.find? (fun w => w.origin == .host id && w.waitAt != 0 && w.waitAt - 1 + 10000 ≤ d.tick) = some w)
    (fun d => ((d.dropWrite w).fail id .timeout).kickWrites)) ∧
  (∀ r, Runs (.recordCommit r)
    (fun d => d.retPending.contains r = true ∧ d.mayCommit = true ∧ d.regionFree 0 = true ∧ ∀ e, d.nvm.exporting = some e → e.recs.contains r = true)
    (fun d =>
      let w := Dev.writeRecord { d with retPending := d.retPending.filter (· != r) } r (d.recData r)
      w.2.recCommitted r w.1)) ∧
  (∀ key, Runs (.configBlockStore key)
    (fun d => d.storeDue.contains key = true ∧ d.mayCommit = true ∧ d.regionFree 0 = true ∧ d.regionFree 3 = true ∧ d.regionFree 4 = true
      ∧ d.regionFree 5 = true ∧ d.nvm.exporting = none)
    (fun d =>
      let ptr := pointerOf key
      let done := fun (k : Nat) => pointerOf k == ptr
      let w := Dev.storeAt { d with storeDue := d.storeDue.filter fun k => !done k } ptr (d.storeBlock ptr)
      let step := fun (o : SyncOp) =>
        if o.blocks.any done then { o with blocks := o.blocks.filter (fun k => !done k), count := o.count + 1 } else o
      let exp := w.2.nvm.exporting.map fun (e : ExportOp) => { e with blocks := e.blocks.filter fun k => !done k }
      Dev.recCommitted { w.2 with nvm := { w.2.nvm with syncs := w.2.nvm.syncs.map step, exporting := exp } } ptr w.1)) ∧
  Runs .checkpoint
    (fun d => d.writesOpen = true ∧ d.get Reg.NVM_CFG.CKPT_INT 0 ≠ 0 ∧ d.isSet Reg.NVM_STAT.IMPORT_PENDING 0 = false ∧ d.nvm.incomplete = false
      ∧ d.nvm.save = none ∧ d.nvm.ckptAt + 6000000 * d.get Reg.NVM_CFG.CKPT_INT 0 ≤ d.tick)
    (fun d => Dev.saveStart { d with nvm := { d.nvm with ckptAt := d.tick } } 1) ∧
  (∀ g e0 e1 bs d2, Runs (.groupRefresh g e0 e1)
    (fun d => d.nvm.refreshTurn = g ∧ d.writesOpen = true ∧ d.nvm.refreshAt + d.refreshSpan ≤ d.tick ∧ d.regionFree (regionOf (32 * g)) = true
      ∧ (Dev.nvmUpset { d with nvm := { d.nvm with refreshAt := d.tick, refreshTurn := (g + 1) % 131072 } }
          [(g, e0, e1)]).nvmGroup g = (some bs, d2))
    (fun _ => d2.setGroup g ((d2.group g).write bs))) ∧
  (∀ r kind, Runs (.lockoutEnd r kind) (fun d => d.live = true ∧ d.lockedOut r (kind % 2) = false)
    (fun d => { d with nvm := { d.nvm with locked := Map.set d.nvm.locked (2 * r + kind % 2) 0 0 } })) ∧
  (∀ l, Runs .panelWfloadTimeout (fun d => d.live = true ∧ d.panel.load = some l ∧ l.since + 1000000 ≤ d.tick)
    (fun d => d.endWfload .timeout 0)) ∧
  (∀ o, Runs .fwUpdateWritten (fun d => d.fwUpdate = some o ∧ o.checked = true ∧ d.live = true ∧ d.dip = false)
    (fun d => (((d.putRet Reg.FW_STAT.PREFERRED 0 d.otherSlot).putRet Reg.FW_STAT.TRIAL 0 1).putRet (slotValid d.otherSlot) 0 1).endSec o.id .ok
      (2 ^ 8 * d.otherSlot)))

/-! ### Panel, keypad, encoders and fitting -/

/-- R580 to R583, R592, R594, R599, R611 to R620: the panel's phases, rails and frontlight, the keypad's scanner and lock, and the encoders. Where the
spec leaves a choice, the model's is log entries 64, 146, 149, 151, 154, 155, 156, 242 and 244. -/
def Obligations.PanelAndKeypadRowsAct : Prop :=
  (∀ die duty, Runs (.phaseBoundary die duty) (fun d => d.live = true ∧ d.tick % 1176 = 0 ∧ d.panel.phaseAt ≠ d.tick + 1)
    (fun d =>
      let d1 := Dev.panelBand { d.touchValue (d.devNum * 2 ^ 20 + d.get Reg.PANEL_TEMP.SOURCE 0 % 2 ^ 20) 0 readerCore with
        panel := { d.panel with phaseAt := d.tick + 1 } } die
      let d2 := d1.panel.running.foldl (fun (y : Dev) r => y.panelPhaseEnd r duty) d1
      let d3 := d2.panelSwitch
      let d4 := if d3.panel.rails == .up then
          let (go, stay) := pickUpdates (d3.panel.running.map fun r => r.req) [] d3.panel.waiting
          go.foldl (fun (y : Dev) r => y.panelBegin r) (d3.setPanel { d3.panel with waiting := stay })
        else d3
      d4.panel.running.foldl (fun (y : Dev) r => y.panelDrive r) d4)) ∧
  (∀ n, Runs .railInRegulation (fun d => d.frozen = false ∧ d.panel.rails = .rising n ∧ d.tick ≤ d.panel.railAt + 300)
    (fun d => d.setPanel { d.panel with rails := if n < 5 then .rising (n + 1) else .up, railAt := d.tick, idleAt := d.tick })) ∧
  (∀ n mv, Runs (.railStartTimeout mv)
    (fun d => d.frozen = false ∧ d.panel.rails = .rising n ∧ d.panel.railAt + 300 ≤ d.tick ∧ d.railWithin n mv 20 = false)
    (fun d => d.panelFault n mv)) ∧
  (∀ rail mv, Runs (.railFault rail mv)
    (fun d => d.frozen = false ∧ d.panel.rails = .up ∧ 1 ≤ rail ∧ rail ≤ 5 ∧ d.railWithin rail mv 10 = false) (fun d => d.panelFault rail mv)) ∧
  Runs .railHoldExpiry
    (fun d => d.frozen = false ∧ d.panel.rails = .up ∧ d.panel.running = [] ∧ d.panel.waiting = []
      ∧ d.panel.idleAt + 10000 * d.get Reg.PANEL_CFG.RAIL_HOLD 0 ≤ d.tick) (fun d => d.panelFall) ∧
  Runs .railFallDone (fun d => d.frozen = false ∧ d.panel.rails = .falling) (fun d => (d.setPanel { d.panel with rails := .off }).panelRise) ∧
  (∀ volts ms, Runs (.frontlightFault volts ms) (fun d => d.frozen = false ∧ d.isSet Reg.PANEL_STAT.FL_ON 0 = true ∧ (400 ≤ volts ∨ volts < 30 ∧ 10 ≤ ms))
    (fun d =>
      let kind := if 400 ≤ volts then 1 else 2
      let d1 := (Dev.put { d with panel := { d.panel with flKind := kind, flAt := d.tick } } Reg.PANEL_STAT.FL_FAULT 0 1).showFrontlight
      d1.raiseLimited 0x0D04 (d1.name clsPANEL 0) d1.tick 1 ([1, kind] ++ leBytes 2 volts))) ∧
  (∀ volts, Runs (.frontlightRetry volts)
    (fun d => d.frozen = false ∧ d.isSet Reg.PANEL_STAT.FL_FAULT 0 = true ∧ d.wantsLight = true ∧ d.panel.flAt + 1000000 ≤ d.tick
      ∧ 30 ≤ volts ∧ volts < 400)
    (fun d =>
      let d1 := (d.put Reg.PANEL_STAT.FL_FAULT 0 0).showFrontlight
      d1.raiseLimited 0x0D04 (d1.name clsPANEL 0) d1.tick 0 ([0, d1.panel.flKind] ++ leBytes 2 volts))) ∧
  Runs .keyRowWake (fun d => d.live = true ∧ d.isSet Reg.KEYS_STAT.SCANNING 0 = false)
    (fun d => Dev.put { d with keys := { d.keys with scanAt := 0, heldAt := d.tick } } Reg.KEYS_STAT.SCANNING 0 1) ∧
  (∀ raw, Runs (.keyScan raw)
    (fun d => d.live = true ∧ d.isSet Reg.KEYS_STAT.SCANNING 0 = true ∧ (d.keys.scanAt = 0 ∨ d.keys.scanAt + 99 ≤ d.tick))
    (fun d0 =>
      let d := { d0 with keys := { d0.keys with scanAt := d0.tick + 1 } }
      let keys := (List.range 144).filter d.inMatrix
      let sampled := keys.foldl (fun (z : List Nat × Dev) i =>
        let r := z.2.sampleKey raw i
        (if r.1 then z.1 ++ [i] else z.1, r.2)) ([], d)
      let guarded := sampled.2.guardKeys
      let told := (List.range 144).filter fun i => sampled.1.contains i || guarded.1.contains i
      let d2 := if sampled.1.isEmpty && guarded.2.keysFree then guarded.2
        else { guarded.2 with keys := { guarded.2.keys with heldAt := guarded.2.tick } }
      let d3 := if told.isEmpty then d2 else { d2 with keys := { d2.keys with changedAt := d2.tick } }
      let d4 := if d.keyLocked then (sampled.1.filter fun i => (d3.key i).pressed).foldl (fun (y : Dev) i => y.unlockPress i) d3
        else (told.filter fun i => !(d.key i).muted).foldl (fun (y : Dev) i => y.keyChange i) (d3.publishKeys told)
      d4.applyKeyLocks.showKeys)) ∧
  Runs .keyIdle
    (fun d => d.live = true ∧ (∀ i, i < 144 → (d.key i).pressed = false ∧ (d.key i).run = 0) ∧ d.keys.heldAt + 2000 ≤ d.tick)
    (fun d => d.put Reg.KEYS_STAT.SCANNING 0 0) ∧
  Runs .keyLockIdle
    (fun d => d.live = true ∧ 0 < d.get Reg.KEYS_LOCK.IDLE_TIME 0 ∧ d.keys.changedAt + 6000000 * d.get Reg.KEYS_LOCK.IDLE_TIME 0 ≤ d.tick
      ∧ d.isSet Reg.KEYS_STAT.SCANNING 0 = false)
    (fun d => d.setKeyLock true 2) ∧
  Runs .keyLockIdle
    (fun d => d.live = true ∧ 0 < d.get Reg.KEYS_LOCK.IDLE_TIME 0 ∧ d.keys.changedAt + 6000000 * d.get Reg.KEYS_LOCK.IDLE_TIME 0 ≤ d.tick
      ∧ d.isSet Reg.KEYS_STAT.SCANNING 0 = true)
    (fun d => { d with keys := { d.keys with idleDue := true } }) ∧
  (∀ n a b, Runs (.encTransition n a b)
    (fun d => d.live = true ∧ n < 4 ∧ (quadPlace a b + 4 - quadPlace (d.enc n).a (d.enc n).b) % 4 = 1 ∧ d.encHeld = false)
    (fun d =>
      let d1 := d.setEnc n { d.enc n with a := a, b := b }
      let d2 := Dev.setEnc { d1 with keys := { d1.keys with changedAt := d1.tick } } n { d1.enc n with
        count := (d.enc n).count + (if d.isSet Reg.ENC_CFG.DIR n then -1 else 1) }
      (d2.put Reg.ENC_VAL.VALUE n (d2.encWord n).bits).produce (d2.name clsENC n) 0 (d2.encWord n))) ∧
  (∀ n a b, Runs (.encTransition n a b)
    (fun d => d.live = true ∧ n < 4 ∧ (quadPlace a b + 4 - quadPlace (d.enc n).a (d.enc n).b) % 4 = 2)
    (fun d => (d.setEnc n { d.enc n with a := a, b := b }).bump Reg.ENC_STAT.ERRORS n 0xFFFF)) ∧
  (∀ n, Runs (.encMoved n)
    (fun d => d.live = true ∧ n < 4 ∧ d.encHeld = false ∧ d.detents n ≠ (d.enc n).told ∧ ((d.enc n).toldAt = 0 ∨ (d.enc n).toldAt + 999 ≤ d.tick))
    (fun d => ((d.setEnc n { d.enc n with told := d.detents n, toldAt := d.tick + 1 }).raise 0x0E02 (d.name clsENC n)
      (leBytes 2 (bitsOf 16 (saturate 16 (d.detents n - (d.enc n).told))) ++ [0, 0] ++ leBytes 4 (d.encWord n).value.toNat)).keyPending))


/-- R626 to R628, R630, R633, R636, R639: a fitting pass starts when FIT_NEXT has come and control runs, or 60 s after what put it off; it goes from
its measurement of 1 s to the hold-up measurement (a window of 500 µs, only with VL24 at EFFECTIVE + 2.0 V or above and no page write; skipped after
600 s) and to the end, where the changes are applied, the margins written and FIT_DONE raised; between passes the path monitors are read once per
second and raise the VCORE target by 10 mV below PATH_FLOOR. Where the spec leaves a choice, the model's is log entries 157, 158, 159, 160, 235 and
245. -/
def Obligations.FittingRowsAct : Prop :=
  Runs .fitPassStart
    (fun d => d.live = true ∧ d.dip = false ∧ d.power.resumeDue = false ∧ d.nvm.noControl = false ∧ d.isSet Reg.FIT_STAT.ACTIVE 0 = false
      ∧ d.get Reg.FIT_NEXT.TICK 0 ≤ d.tick)
    (fun d =>
      let d1 := d.pmbusRetryAll
      let d2 := Dev.fitForget { d1 with fit := { d1.fit with snap := d1.fitSnap } }
      let d3 := { d2 with fit := { d2.fit with
        desc := none, start := d2.tick, sense := none, holdup := none, window := false, skipped := false
        changes := [], margins := [], forecasts := [], worst := [], rerun := false } }
      ((d3.put Reg.FIT_STAT.STEP 0 1).put Reg.FIT_STAT.ACTIVE 0 1).put Reg.FIT_NEXT.TICK 0
        (d2.tick + 360000000 * d2.get Reg.FIT_CFG.INTERVAL 0)) ∧
  Runs .fitRerun
    (fun d => d.live = true ∧ d.dip = false ∧ d.power.resumeDue = false ∧ d.nvm.noControl = false ∧ d.isSet Reg.FIT_STAT.ACTIVE 0 = false
      ∧ d.fit.rerun = true ∧ d.fit.rerunAt + 6000000 ≤ d.tick)
    (fun d =>
      let d1 := d.pmbusRetryAll
      let d2 := Dev.fitForget { d1 with fit := { d1.fit with snap := d1.fitSnap } }
      let d3 := { d2 with fit := { d2.fit with
        desc := none, start := d2.tick, sense := none, holdup := none, window := false, skipped := false
        changes := [], margins := [], forecasts := [], worst := [], rerun := false } }
      ((d3.put Reg.FIT_STAT.STEP 0 1).put Reg.FIT_STAT.ACTIVE 0 1).put Reg.FIT_NEXT.TICK 0
        (d2.tick + 360000000 * d2.get Reg.FIT_CFG.INTERVAL 0)) ∧
  (∀ m, Runs (.fitMeasurementDone m)
    (fun d => d.controlling = true ∧ d.get Reg.FIT_STAT.STEP 0 = 1 ∧ d.fit.start + 100000 ≤ d.tick)
    (fun d => ((Dev.showPaths { d with fit := { d.fit with sense := some m, stepAt := d.tick } } m.paths).put Reg.FIT_STAT.STEP 0 2).put
      Reg.FIT_STAT.ACTIVE 0 1)) ∧
  Runs .holdupStart
    (fun d => d.live = true ∧ d.dip = false ∧ d.power.resumeDue = false ∧ d.nvm.noControl = false ∧ d.get Reg.FIT_STAT.STEP 0 = 2
      ∧ d.fit.window = false ∧ d.isSet Reg.NVM_STAT.BUSY 0 = false
      ∧ 100 * d.get Reg.PWR_WARN.EFFECTIVE 0 + 2000 ≤ d.get Reg.PWR_VOLT.VL24 0)
    (fun d => { d with fit := { d.fit with window := true, windowAt := d.tick } }) ∧
  (∀ i dv step, Runs (.holdupWindowEnd i dv step)
    (fun d => d.controlling = true ∧ d.fit.window = true ∧ d.fit.windowAt + 50 ≤ d.tick ∧ dv ≠ 0
      ∧ min 0xFFFF (roundDiv (500 * i : Nat) dv).toNat ≠ 0)
    (fun d =>
      let c := min 0xFFFF (roundDiv (500 * i : Nat) dv).toNat
      let d2 := (Dev.putRet { d with fit := { d.fit with window := false } } Reg.PWR_HOLDUP.CAP 0 c).putRet Reg.PWR_HOLDUP.ESR 0
        (min 0xFFFF (10 * step))
      (Dev.fitDecide { d2 with fit := { d2.fit with holdup := some (c, min 0xFFFF (10 * step)) } }).kickWrites)) ∧
  Runs .holdupSkip
    (fun d => d.controlling = true ∧ d.get Reg.FIT_STAT.STEP 0 = 2 ∧ d.fit.window = false ∧ d.fit.stepAt + 60000000 ≤ d.tick)
    (fun d => Dev.fitDecide { d with fit := { d.fit with skipped := true } }) ∧
  Runs .fitApply (fun d => d.controlling = true ∧ d.get Reg.FIT_STAT.STEP 0 = 4)
    (fun d =>
      let d1 := d.fit.changes.foldl (fun (y : Dev) c => y.applyChange c) d
      let d2 := (List.range 10).foldl (fun (y : Dev) e =>
        let y1 := (y.put Reg.FIT_MARGIN.VALID e (if (d.fit.margins.any fun p => p.1 == e) then 1 else 0)).put
          Reg.FIT_MARGIN.FORECAST e (Map.get d.fit.forecasts e 0xFFFF)
        if d.fit.margins.any fun p => p.1 == e then y1.putRet Reg.FIT_MARGIN.MARGIN e (Map.get d.fit.margins e 0) else y1) d1
      let d3 := d.fit.margins.foldl (fun (y : Dev) p => y.raiseForecast p) d2
      let low := lowestMargin d.fit.margins
      let d4 := (d3.put Reg.FIT_STAT.LOWEST 0 low.1).put Reg.FIT_STAT.LOWEST_MARGIN 0 low.2
      let pass := (d4.get Reg.FIT_PASS.COUNT 0 + 1) % 2 ^ 32
      let n := d.fit.changes.length
      let d5 := (d4.putRet Reg.FIT_PASS.COUNT 0 pass).raise 0x0F01 d4.nullName
        (leBytes 4 pass ++ [n, low.1, low.2, if d.fit.skipped then 1 else 0])
      let d6 := match d.fit.desc with
        | some id => d5.done id (pass + 2 ^ 32 * (n % 256) + 2 ^ 40 * low.1 + 2 ^ 48 * low.2)
        | none => d5
      ((Dev.put { d6 with fit := { d6.fit with desc := none, changes := [], sense := none } } Reg.FIT_STAT.STEP 0 0).put
        Reg.FIT_STAT.ACTIVE 0 0).warnIfLow d.warnLevel) ∧
  (∀ ps, Runs (.pathMonitorRead ps)
    (fun d => d.live = true ∧ d.fitting = false ∧ ps ≠ [] ∧ (d.fit.pathAt = 0 ∨ d.fit.pathAt + 99999 ≤ d.tick)
      ∧ (Dev.showPaths { d with fit := { d.fit with pathAt := d.tick + 1 } } ps).get Reg.FIT_CFG2.PATH_FLOOR 0 ≤ (lowestPath ps).1)
    (fun d => Dev.showPaths { d with fit := { d.fit with pathAt := d.tick + 1 } } ps)) ∧
  (∀ ps, Runs (.pathMonitorRead ps)
    (fun d =>
      let d1 := Dev.showPaths { d with fit := { d.fit with pathAt := d.tick + 1 } } ps
      d.live = true ∧ d.fitting = false ∧ ps ≠ [] ∧ (d.fit.pathAt = 0 ∨ d.fit.pathAt + 99999 ≤ d.tick)
      ∧ (lowestPath ps).1 < d1.get Reg.FIT_CFG2.PATH_FLOOR 0 ∧ d1.fitFree 0 = false)
    (fun d =>
      let d1 := Dev.showPaths { d with fit := { d.fit with pathAt := d.tick + 1 } } ps
      d1.raiseChange { bit := 0, index := 0xFFFF, old := d1.get Reg.PWR_VCORE.TARGET 0, new := d1.get Reg.PWR_VCORE.TARGET 0 } 2)) ∧
  (∀ ps, Runs (.pathMonitorRead ps)
    (fun d =>
      let d1 := Dev.showPaths { d with fit := { d.fit with pathAt := d.tick + 1 } } ps
      d.live = true ∧ d.fitting = false ∧ ps ≠ [] ∧ (d.fit.pathAt = 0 ∨ d.fit.pathAt + 99999 ≤ d.tick)
      ∧ (lowestPath ps).1 < d1.get Reg.FIT_CFG2.PATH_FLOOR 0 ∧ d1.fitFree 0 = true ∧ d1.isSet Reg.PWR_STAT.PMBUS_OK 0 = true
      ∧ d1.isSet Reg.PWR_PMBUS.EN 0 = true ∧ d1.get Reg.PWR_VCORE.TARGET 0 < 900)
    (fun d =>
      let d1 := Dev.showPaths { d with fit := { d.fit with pathAt := d.tick + 1 } } ps
      let t := d1.get Reg.PWR_VCORE.TARGET 0
      let d2 := (d1.setTarget (min 900 (t + 10))).raiseChange { bit := 0, index := 0xFFFF, old := t, new := min 900 (t + 10) } 2
      Dev.kickLog { d2 with fit := { d2.fit with
        log := d2.fit.log ++ [logEntry d1.tick (d1.get Reg.FIT_PASS.COUNT 0) 1 0 0xFFFF t (min 900 (t + 10)) 0] } }))

/-! ### Freeze, thaw and the test access port -/

/-- R676 to R679, R686, R687, R690, R691: FRZ_N, the stop at boundary F, the restarts, and the instructions of the test access port. Where the spec
leaves a choice, the model's is log entries 176, 177, 178, 179, 180, 181 and 194. -/
def Obligations.FreezeAndTapRowsAct : Prop :=
  Runs .frzNLow (fun d => d.isSet Reg.DBG_CFG.FRZ_EN 0 = true ∧ d.live = true ∧ d.frz.req = none)
    (fun d => d.setFrz { d.frz with frzNLow := true, req := some {
      at_ := d.tick + (if d.isSet Reg.DBG_CFG.QUILT_FRZ 0 then 6 else 2), quilt := d.isSet Reg.DBG_CFG.QUILT_FRZ 0, cause := 1, late := 0, descs := [] } }) ∧
  Runs .frzNLow (fun d => d.isSet Reg.DBG_CFG.FRZ_EN 0 = false) (fun d => d.setFrz { d.frz with frzNLow := true }) ∧
  Runs .frzNRise (fun d => d.frz.cur = none) (fun d => d.setFrz { d.frz with frzNLow := false }) ∧
  (∀ r, Runs .frzNRise (fun d => d.frz.cur = some r ∧ r.quilt = false) (fun d => d.setFrz { d.frz with frzNLow := false, thawAsked := 1 })) ∧
  (∀ r, Runs .freezeStop (fun d => d.frz.req = some r ∧ d.live = true ∧ r.at_ ≤ d.tick)
    (fun d =>
      let d1 := ((d.loopStop d.tick 2).fitFreeze).busStop
      let d2 := ((((d1.put Reg.DBG_STAT.FROZEN 0 1).putBit Reg.DBG_STAT.QUILT 0 r.quilt).put Reg.DBG_STAT.WR_DISCARDED 0 0).put
        Reg.DBG_FREEZE_TICK.TICK 0 d.tick)
      d2.setFrz { d2.frz with req := none, cur := some { r with at_ := d.tick }, thawAsked := 0, posted := [], doorbells := [], discarded := 0 })) ∧
  (∀ ms r, Runs (.thawRestart ms none)
    (fun d => d.frz.cur = some r ∧ r.quilt = false ∧ d.frz.frzNLow = false ∧ d.frz.thawAsked ≠ 0)
    (fun d => (List.range 8).foldl (fun (y : Dev) p => y.retrainThaw p) (d.thaw r ms none))) ∧
  (∀ ms count dev r, Runs (.thawRestart ms (some (count, dev)))
    (fun d => d.frz.cur = some r ∧ r.quilt = false ∧ d.frz.frzNLow = false ∧ d.frz.thawAsked ≠ 0)
    (fun d =>
      let d0 := d.thawMaster dev
      (List.range 8).foldl (fun (y : Dev) p => y.retrainThaw p)
        (d0.thaw r ms (if d0.isSet Reg.QUILT_TIME_STAT.IS_MASTER 0 || !d0.isSet Reg.QUILT_TIME_STAT.MASTER_VALID 0 then none else some count)))) ∧
  (∀ ms r, Runs (.quiltThawRestart ms)
    (fun d => d.frz.cur = some r ∧ r.quilt = true ∧ d.frz.frzNLow = false ∧ d.frz.thawAsked ≠ 0 ∧ d.frz.lastThaw = some r.at_)
    (fun d => d.thaw r ms none)) ∧
  (∀ ms r, Runs (.quiltThawRestart ms)
    (fun d => d.frz.cur = some r ∧ r.quilt = true ∧ d.frz.frzNLow = true ∧ d.frz.thawAsked ≠ 0 ∧ d.frz.lastThaw = some r.at_)
    (fun d => d.setFrz { d.frz with cur := some { r with quilt := false }, thawAsked := 0 })) ∧
  Runs .freezeReq (fun d => d.isSet Reg.DBG_CFG.FRZ_EN 0 = true ∧ d.live = true ∧ d.frz.req = none)
    (fun d => d.setFrz { d.frz with req := some {
      at_ := d.tick + (if d.isSet Reg.DBG_CFG.QUILT_FRZ 0 then 6 else 2), quilt := d.isSet Reg.DBG_CFG.QUILT_FRZ 0, cause := 4, late := 0, descs := [] } }) ∧
  (∀ r, Runs .thawReq (fun d => d.frz.cur = some r ∧ r.quilt = false) (fun d => d.setFrz { d.frz with thawAsked := 4 })) ∧
  (∀ space index, Runs (.roAccess space index) (fun _ => True)
    (fun d => (d.readOut (space % 8) (index % 2 ^ 16)).2.emit
      (.tap (space % 8 + 2 ^ 8 * (index % 2 ^ 16) + 2 ^ 24 * (d.readOut (space % 8) (index % 2 ^ 16)).1)))) ∧
  Runs .extest (fun d => d.power.rstLow = true) (fun d => d.emit (.scanDrive d.frz.chain)) ∧
  Runs .extest (fun d => d.power.rstLow = false) (fun d => (d.put Reg.DBG_STAT.EXTEST_REFUSED 0 1).emit (.tap 0)) ∧
  Runs .idcode (fun _ => True) (fun d => d.emit (.tap (match d.part.stepping with
    | .a0 => 0x051209C7
    | .a1 => 0x151209C7
    | .b0 => 0x251209C7))) ∧
  (∀ lands chain, Runs (.samplePreload lands chain) (fun _ => True) (fun d => (d.setFrz { d.frz with chain := chain }).emit (.scanOut lands))) ∧
  Runs .bypass (fun _ => True) (fun d => d.emit (.tap 0))


/-! ### The queue of commands and the reset state -/

/-- The command at the front of the queue takes effect on the state with the queue's rest. -/
def Obligations.StepTakesFrontCommand : Prop :=
  ∀ (c : Instr) (s : State) (rest : List Instr), s.pending = c :: rest → step s = exec c { s with pending := rest }

/-- The model's choice (log entry 1): on an empty queue the block idles. -/
def Obligations.EmptyQueueIdles : Prop :=
  ∀ s : State, s.pending = [] → step s = .next s

/-- Every command answers a next state with the queue as it was: no command faults, none is refused. -/
def Obligations.EveryCommandAnswersNext : Prop :=
  ∀ (c : Instr) (s : State), ∃ e : Dev, exec c s = .next (s.withDev e)

/-- As many steps as the queue is long work off every command of it. -/
def Obligations.RunWorksOffTheQueue : Prop :=
  ∀ s : State, ∃ e : Dev, run s.pending.length s = .next { dev := e, pending := [] }

/-- The state after reset has nothing waiting, every register field at the reset value of its table, memory with nothing listed, and its tables in
canonical form. Where the spec leaves a choice, the model's is log entries 2, 5, 16, 17 and 186. -/
def Obligations.ResetStateIsEmpty : Prop :=
  State.reset.pending = [] ∧ State.reset.canonical = true ∧ State.reset.dev.power.phase = .waitVl24
    ∧ (∀ (f : Fld) (i : Nat), State.reset.dev.get f i = f.reset i) ∧ (∀ a, memGet State.reset.dev.mem a = 0)

/-! ### What every step keeps -/

/-- Every step keeps the canonical form of the memory and of the register tables. -/
def Obligations.StepKeepsCanonicalForm : Prop :=
  ∀ s t : State, s.canonical = true → step s = .next t → t.canonical = true

/-- No step changes the grade or the stepping of the part. Where the spec leaves a choice, the model's is log entry 2. -/
def Obligations.StepKeepsThePart : Prop :=
  ∀ s t : State, step s = .next t → t.dev.part = s.dev.part

/-- The frame of memory: a command outside the list of those that store leaves every byte of the shared memory, and its wrong bits, as they were. -/
def Obligations.MemoryFrame : Prop :=
  ∀ (c : Instr) (s t : State), c.changesMemory = false → exec c s = .next t →
    (∀ a, memGet t.dev.mem a = memGet s.dev.mem a) ∧ ∀ w, Map.get t.dev.memErr w 0 = Map.get s.dev.memErr w 0

/-- The frames of the field dies and of the engines: commands outside their lists leave the state of the field dies, and that of the pattern engine,
the loop engine and the schedules, as they were. -/
def Obligations.DieAndEngineFrames : Prop :=
  (∀ (c : Instr) (s t : State), c.changesDies = false → exec c s = .next t →
    t.dev.dieA = s.dev.dieA ∧ t.dev.dieB = s.dev.dieB ∧ t.dev.dis = s.dev.dis ∧ t.dev.dos = s.dev.dos ∧ t.dev.floats = s.dev.floats
      ∧ t.dev.poss = s.dev.poss ∧ t.dev.emus = s.dev.emus ∧ t.dev.fans = s.dev.fans ∧ t.dev.aos = s.dev.aos ∧ t.dev.shut = s.dev.shut
      ∧ t.dev.meas = s.dev.meas ∧ ∀ (f : Fld) (i : Nat), t.dev.dget f i = s.dev.dget f i) ∧
  (∀ (c : Instr) (s t : State), c.changesEngines = false → exec c s = .next t →
    t.dev.pat = s.dev.pat ∧ t.dev.eng = s.dev.eng ∧ t.dev.sched = s.dev.sched)

/-- The frames of the site, of the stores and of time: commands outside their lists leave the panel, the keys, the field buses and the fitting, the
non-volatile stores and the security block, and the tick count and the supplies, as they were. -/
def Obligations.SiteStoreAndTimeFrames : Prop :=
  (∀ (c : Instr) (s t : State), c.changesSite = false → exec c s = .next t →
    t.dev.panel = s.dev.panel ∧ t.dev.keys = s.dev.keys ∧ t.dev.fit = s.dev.fit ∧ t.dev.buses = s.dev.buses ∧ t.dev.pollSets = s.dev.pollSets) ∧
  (∀ (c : Instr) (s t : State), c.changesStores = false → exec c s = .next t → t.dev.nvm = s.dev.nvm ∧ t.dev.sec = s.dev.sec) ∧
  (∀ (c : Instr) (s t : State), c.changesTime = false → exec c s = .next t → t.dev.tick = s.dev.tick ∧ t.dev.power = s.dev.power)

/-! ### Registers, memory, events and descriptors -/

/-- A field written reads back cut to its width, at the core die and at the field die, and no field at another place changes. -/
def Obligations.RegisterFieldsReadBack : Prop :=
  ∀ (d : Dev) (f g : Fld) (i j v : Nat), Map.rising d.regs = true → Map.rising d.die = true →
    (d.put f i v).get f i = v % 2 ^ f.width ∧ (d.dput f i v).dget f i = v % 2 ^ f.width
      ∧ (g.key j ≠ f.key i → (d.put f i v).get g j = d.get g j ∧ (d.dput f i v).dget g j = d.dget g j)
      ∧ (d.put f i v).dget g j = d.dget g j ∧ (d.dput f i v).get g j = d.get g j

/-- R34: a BAR4 write narrower than one word puts its bytes into the word and keeps the word's other bytes, as corrected; where the word cannot be
read, its other bytes are 0x00 and MEM_UNCORRECTABLE is raised; the word has a fresh code word, and no other word changes. -/
def Obligations.NarrowWritesMergeIntoTheWord : Prop :=
  ∀ (s : State) (off : Nat) (bytes : List Nat), s.canonical = true → s.dev.hostOpen = true → s.dev.frozen = false → bytes ≠ [] → bytes.length < 32 →
    off % 32 + bytes.length ≤ 32 → s.dev.hostWord (off / 32) = true →
    ∃ e : Dev, exec (.bar4Write off bytes []) s = .next (s.withDev e)
      ∧ (∀ j, j < bytes.length → (memGet e.mem (off + j)).toNat = bytes.getD j 0 % 256)
      ∧ Map.get e.memErr (off / 32) 0 = 0
      ∧ (∀ a, a / 32 ≠ off / 32 → memGet e.mem a = memGet s.dev.mem a)
      ∧ (∀ x, (decodeErr (Map.get s.dev.memErr (off / 32) 0) = .clean x ∨ decodeErr (Map.get s.dev.memErr (off / 32) 0) = .corrected x) →
          ∀ a, a / 32 = off / 32 → (a < off ∨ off + bytes.length ≤ a) →
            (memGet e.mem a).toNat = Nat.xor (memGet s.dev.mem a).toNat (x / 2 ^ (8 * (a % 32)) % 256))
      ∧ (decodeErr (Map.get s.dev.memErr (off / 32) 0) = .uncorrectable →
          (∀ a, a / 32 = off / 32 → (a < off ∨ off + bytes.length ≤ a) → memGet e.mem a = 0)
          ∧ e.events = (s.dev.raiseMemUnc (off / 32) 5).events)

/-- R28, R31, R33: a word read with no wrong bit is delivered as stored and nothing changes; with one or two wrong bits it is delivered corrected,
written back and counted; with three, or a burst of up to 24 bits with three or more, it is not delivered, and is counted and reported. Where the spec
leaves a choice, the model's is log entry 7. -/
def Obligations.WordReadsFollowTheCode : Prop :=
  ∀ (d : Dev) (w reader : Nat),
    (flips (Map.get d.memErr w 0) = 0 → d.readWord w reader = (some (xorBytes (wordBytes d.mem w) 0), d)) ∧
    (1 ≤ flips (Map.get d.memErr w 0) → flips (Map.get d.memErr w 0) ≤ 2 →
      (d.readWord w reader).1 = some (xorBytes (wordBytes d.mem w) 0)
        ∧ (d.readWord w reader).2 = ((d.memWrite (32 * w) (xorBytes (wordBytes d.mem w) 0)).bump Reg.GLOBAL_MEMERR.CORRECTED 0 0xFFFFFF).bump
            Reg.GLOBAL_FAULT_CNT.RECOVERED 0 0xFFFF) ∧
    (flips (Map.get d.memErr w 0) = 3 ∨ 3 ≤ flips (Map.get d.memErr w 0) ∧ burst24 (Map.get d.memErr w 0) = true →
      d.readWord w reader = (none, d.raiseMemUnc w reader))

/-- R477: an event raised waits behind the 255 or fewer that wait; one raised while 256 wait is dropped and counted; each takes the next sequence
number. -/
def Obligations.EventsWaitOrAreCounted : Prop :=
  ∀ (d : Dev) (code src : Nat) (detail : List Nat),
    (d.events.length < 256 → (d.raise code src detail).events
        = d.events ++ [{ seq := d.evSeq, code := code, src := src, time := d.tick, detail := detail16 detail }]
      ∧ (d.raise code src detail).evDropped = d.evDropped) ∧
    (256 ≤ d.events.length → (d.raise code src detail).events = d.events ∧ (d.raise code src detail).evDropped = d.evDropped + 1) ∧
    (d.raise code src detail).evSeq = (d.evSeq + 1) % 256

/-- R464, R468, R470, R483: a descriptor handed to a ring that does not fetch changes nothing; on a fenced ring it ends SKIPPED; behind a FENCE or a
descriptor that has not started it waits; one that fails a check of the head ends with that check's status and has no other effect. Where the spec
leaves a choice, the model's is log entry 15. -/
def Obligations.DescriptorsTurnedAwayHaveNoOtherEffect : Prop :=
  ∀ (s : State) (q : Nat) (x : Desc),
    (s.dev.begin.fetches q = false → exec (.nop q x) s = .next (s.withDev s.dev.begin)
      ∧ exec (.solShot q x) s = .next (s.withDev s.dev.begin) ∧ exec (.nvmWrite q x) s = .next (s.withDev s.dev.begin)) ∧
    (s.dev.begin.fetches q = true → x.u16 0 = 0x0802 → s.dev.isSet Reg.SQ_STAT.FENCED q = true →
      exec (.solShot q x) s = .next (s.withDev ((s.dev.begin.takeDesc q x).fail s.dev.nextId .skipped))) ∧
    (s.dev.begin.fetches q = true → x.u16 0 = 0x0802 → s.dev.isSet Reg.SQ_STAT.FENCED q = false →
      (s.dev.begin.takeDesc q x).mustWait q s.dev.nextId = true → exec (.solShot q x) s = .next (s.withDev (s.dev.begin.takeDesc q x))) ∧
    (∀ st, s.dev.begin.fetches q = true → x.u16 0 = 0x0802 → s.dev.isSet Reg.SQ_STAT.FENCED q = false →
      (s.dev.begin.takeDesc q x).mustWait q s.dev.nextId = false → s.dev.headCheck x [(16, 5), (24, 4)] = some st →
      exec (.solShot q x) s = .next (s.withDev ((s.dev.begin.started q x).fail s.dev.nextId st)))

/-- R676, R677: in freeze the tick count, the scrubber, the watchdogs, the engines, the schedules, the fabric and the stores of the core die stand
still. Where the spec leaves a choice, the model's is log entry 176. -/
def Obligations.FrozenCoreStandsStill : Prop :=
  ∀ (s : State) (c : Instr), s.dev.power.phase = .up → s.dev.frozen = true →
    ((∃ v h, c = .tickBoundary v h) ∨ (∃ u, c = .scrubRead u) ∨ c = .firmwareWatchdog ∨ c = .hostLost ∨ c = .patStepStart ∨ c = .patUrgentIssue
      ∨ c = .multiplierSave ∨ (∃ l, c = .loopCompute l) ∨ (∃ l, c = .loopUrgentIssue l) ∨ c = .schedEvaluation ∨ (∃ z, c = .overrideExpiry z)
      ∨ (∃ z, c = .presenceHoldoffExpiry z) ∨ c = .calDue ∨ (∃ p, c = .linkSilence p) ∨ c = .timeMarkerSend ∨ c = .eventWrite
      ∨ (∃ r, c = .completionWrite r) ∨ (∃ b, c = .pageWriteDone b) ∨ c = .checkpoint ∨ (∃ v, c = .energyWaitEnd v) ∨ (∃ i, c = .railFault 1 i)
      ∨ (∃ r, c = .keyScan r) ∨ c = .fitPassStart ∨ c = .fitApply ∨ (∃ n, c = .mstpTimerExpiry n) ∨ (∃ n, c = .modbusTimeout n)) →
    exec c s = .next (s.withDev s.dev.begin)

/-- R65: a write of 1 to SEAL of an OWNED device sets SEAL and moves OWNER_STATE to SEALED; of a MANUFACTURED device it leaves SEAL at 0 and sets
SEAL_REFUSED. -/
def Obligations.SealFollowsOwnership : Prop :=
  ∀ (s : State) (v : Nat), s.canonical = true → s.dev.takesWrites → bitAt v 0 = true → s.dev.isSealed = false →
    (s.dev.get Reg.GLOBAL_SEAL.OWNER_STATE 0 = 1 →
      ∃ e : Dev, exec (.sealWrite v) s = .next (s.withDev e) ∧ e.get Reg.GLOBAL_SEAL.SEAL 0 = 1 ∧ e.get Reg.GLOBAL_SEAL.OWNER_STATE 0 = 2
        ∧ e.mem = s.dev.mem ∧ ∀ (f : Fld) (i : Nat), f.key i ≠ Reg.GLOBAL_SEAL.SEAL.key 0 → f.key i ≠ Reg.GLOBAL_SEAL.OWNER_STATE.key 0 →
            f.key i ≠ Reg.GLOBAL_SEAL.SEAL_REFUSED.key 0 → e.get f i = s.dev.get f i) ∧
    (s.dev.get Reg.GLOBAL_SEAL.OWNER_STATE 0 = 0 → s.dev.get Reg.GLOBAL_SEAL.SEAL 0 = 0 →
      ∃ e : Dev, exec (.sealWrite v) s = .next (s.withDev e) ∧ e.get Reg.GLOBAL_SEAL.SEAL 0 = 0 ∧ e.get Reg.GLOBAL_SEAL.SEAL_REFUSED 0 = 1
        ∧ e.mem = s.dev.mem ∧ ∀ (f : Fld) (i : Nat), f.key i ≠ Reg.GLOBAL_SEAL.SEAL_REFUSED.key 0 → e.get f i = s.dev.get f i)

/-- R57: the fields of a write to GLOBAL_BLSEL each act on their own. -/
def Obligations.BehaviourLevelRequestsAreChecked : Prop :=
  ∀ (s : State) (v : Nat), s.canonical = true → s.dev.takesWrites →
    ∃ e : Dev, exec (.blReqWrite v) s = .next (s.withDev e) ∧
      (s.dev.isSealed = false → bitsAt v 0 8 = 0 ∨ s.dev.part.stepping.blMax < bitsAt v 0 8 → bitsAt v 0 8 ≠ s.dev.get Reg.GLOBAL_BLSEL.BL_REQ 0 →
        e.get Reg.GLOBAL_BLSEL.BL_REQ 0 = s.dev.get Reg.GLOBAL_BLSEL.BL_REQ 0 ∧ e.get Reg.GLOBAL_BLSEL.BL_WRITE_REJECTED 0 = 1) ∧
      (s.dev.isSealed = false → 1 ≤ bitsAt v 0 8 ∧ bitsAt v 0 8 ≤ s.dev.part.stepping.blMax ∨ bitsAt v 0 8 = s.dev.get Reg.GLOBAL_BLSEL.BL_REQ 0 →
        e.get Reg.GLOBAL_BLSEL.BL_REQ 0 = bitsAt v 0 8
          ∧ e.get Reg.GLOBAL_BLSEL.BL_WRITE_REJECTED 0 = (if bitAt v 17 then 0 else s.dev.get Reg.GLOBAL_BLSEL.BL_WRITE_REJECTED 0)) ∧
      (s.dev.isSealed = true → e.get Reg.GLOBAL_BLSEL.BL_REQ 0 = s.dev.get Reg.GLOBAL_BLSEL.BL_REQ 0
        ∧ e.get Reg.GLOBAL_BLSEL.BL_WRITE_REJECTED 0 = (if bitAt v 17 then 0 else s.dev.get Reg.GLOBAL_BLSEL.BL_WRITE_REJECTED 0)) ∧
      e.mem = s.dev.mem ∧ ∀ (f : Fld) (i : Nat), f.key i ≠ Reg.GLOBAL_BLSEL.BL_REQ.key 0 → f.key i ≠ Reg.GLOBAL_BLSEL.BL_WRITE_REJECTED.key 0 →
        e.get f i = s.dev.get f i

/-- R358: a peak phase longer than BANK_CFG2.PEAK_MAX puts the channel in FAULT with cause 5. -/
def Obligations.LongPeakPhasesFault : Prop :=
  ∀ (s : State) (c : Nat), s.dev.solHere c = true → (s.dev.sol c).state = .peak →
    (s.dev.sol c).peakAt + 5000 * (s.dev.sol c).peakMax ≤ s.dev.solTime c 499 →
    ∃ e : Dev, exec (.peakMaxExpiry c) s = .next (s.withDev e) ∧ (e.sol c).state = .fault ∧ (e.sol c).cause = 5 ∧ e.mem = s.dev.mem ∧ e.tick = s.dev.tick

/-- R159: DI_CFG.INVERT swaps the value words of OFF and ON and leaves those of BROKEN and SHORT. -/
def Obligations.InvertSwapsOffAndOn : Prop :=
  ∀ tick, diWord .off true tick = diWord .on false tick ∧ diWord .on true tick = diWord .off false tick
    ∧ diWord .broken true tick = diWord .broken false tick ∧ diWord .short true tick = diWord .short false tick

/-- R12, R13: rounding takes the nearest whole number, ties away from zero; saturation takes the nearest number of the format. -/
def Obligations.RoundingAndSaturationAreNearest : Prop :=
  (∀ n d : Int, 0 < d → 2 * (n - roundDiv n d * d).natAbs ≤ d.natAbs
    ∧ (2 * (n - roundDiv n d * d).natAbs = d.natAbs → n.natAbs ≤ (roundDiv n d * d).natAbs)) ∧
  (∀ (w : Nat) (x : Int), 1 ≤ w → -(2 ^ (w - 1) : Int) ≤ saturate w x ∧ saturate w x < 2 ^ (w - 1)
    ∧ ∀ y : Int, -(2 ^ (w - 1) : Int) ≤ y → y < 2 ^ (w - 1) → (saturate w x - x).natAbs ≤ (y - x).natAbs)

/-- R128: a MEAS_CAPTURE, its operands otherwise lawful, whose converters overlap a capture or a calibration in progress completes REFUSED_BUSY; group
1 and group 2 on the S grade complete BAD_OBJECT. -/
def Obligations.CapturesOfBusyConvertersAreRefused : Prop :=
  (∀ k named, (k, named) ∈ [(0, [(12, 19), (32, 32)]), (1, [(12, 12), (28, 3), (32, 32)])] → Acts .measCapture 0x0204 named
    (fun x d => x.byte 16 ≤ 2 ∧ (x.byte 16 = 0 ∨ d.part.grade = .f) ∧ x.byte 17 = k ∧ 1 ≤ x.u16 18 ∧ x.u16 18 ≤ 4096 ∧ x.u16 28 ≤ 499
      ∧ x.byte 30 ≤ 4 ∧ (x.byte 17 = 0 → d.tick + 3 ≤ x.u64 20) ∧ (x.byte 17 = 1 → isNull (x.u32 20) = false ∧ d.isHandle clsBANK (x.u32 20) = true)
      ∧ x.u32 12 + (2 * x.u16 18 + 31) / 32 * (groupConvs (x.byte 16)).length ≤ memWords
      ∧ (∀ j, j < (groupConvs (x.byte 16)).length → d.dieChannel (convDie ((groupConvs (x.byte 16)).getD j 0)) (x.u32 (32 + 4 * j)) = true)
      ∧ (∃ c ∈ groupConvs (x.byte 16), d.convBusy c = true))
    (fun id _ d => d.fail id .refusedBusy)) ∧
  (∀ k named, (k, named) ∈ [(0, [(12, 19), (32, 32)]), (1, [(12, 12), (28, 3), (32, 32)])] → Acts .measCapture 0x0204 named
    (fun x d => x.byte 17 = k ∧ (x.byte 16 = 1 ∨ x.byte 16 = 2) ∧ d.part.grade = .s) (fun id _ d => d.fail id .badObject))
end

