-- ==== Sys2Proof/Laws/Descriptors.lean ====
section
/-! SUPPORT. What a descriptor that acts and a command that runs come down to, for the proofs of `Acts` and `Runs`. -/

namespace Sys2Proof.Machine
open Sys2Proof

/-- The checks of the head look at nothing that starting the descriptor changes. -/
theorem Dev.headCheck_started (d : Dev) (q : Nat) (x y : Desc) (n : List (Nat × Nat)) : (d.started q x).headCheck y n = d.headCheck y n := rfl

/-- A descriptor that is accepted runs its body on the device with it running. -/
theorem Dev.submit_accepts {d : Dev} {q : Nat} {x : Desc} {op : Nat} {named : List (Nat × Nat)} (body : Nat → Desc → Dev → Dev)
    (h : d.accepts q x op named) : d.submit q x op named body = body d.nextId x (d.started q x) := by
  obtain ⟨h1, h2, h3, h4, h5, h6⟩ := h
  unfold Dev.submit
  have e3 : (d.takeDesc q x).isSet Reg.SQ_STAT.FENCED q = false := h3
  have e5 : (d.started q x).headCheck x named = none := h5
  have e6 : ((d.started q x).nvm.incomplete && !runsIncomplete (x.u16 0)) = false := by
    rw [h2]; rcases h6 with h | h
    · show (d.nvm.incomplete && _) = false
      rw [h]; rfl
    · rw [h]; simp
  simp only [h1, h2, e3, h4]
  unfold Dev.actDesc
  simp only [bne_self_eq_false, Bool.not_true, Bool.or_self, Bool.false_eq_true, if_false]
  unfold Dev.started at e5 e6 ⊢
  simp only [e5, e6, Bool.false_eq_true, if_false]
/-- A descriptor command acts when its body, on the device with it running, gives the state claimed. -/
theorem Acts.of {c : Nat → Desc → Instr} {op : Nat} {named : List (Nat × Nat)} {pre : Desc → Dev → Prop} {post : Nat → Desc → Dev → Dev}
    (body : Nat → Desc → Dev → Dev) (hc : ∀ s q x, exec (c q x) s = s.onDev fun d => d.submit q x op named body)
    (h : ∀ id x d, pre x d → body id x d = post id x d) : Acts c op named pre post := by
  intro s q x ha hp
  rw [hc]
  show Host.Outcome.next { s with dev := s.dev.begin.submit q x op named body } = _
  rw [Dev.submit_accepts body ha, h _ _ _ hp]
  rfl

/-- A command runs when its operation on the device gives the state claimed. -/
theorem Runs.of {c : Instr} {pre : Dev → Prop} {post : Dev → Dev} (f : Dev → Dev) (hc : ∀ s, exec c s = s.onDev f)
    (h : ∀ d, pre d → f d = post d) : Runs c pre post := by
  intro s hp
  rw [hc, ← h _ hp]
  rfl

end Sys2Proof.Machine
end

