-- ==== Sys2Proof/Laws/Map.lean ====
section
/-! SUPPORT. Laws of the sparse tables: reading after writing, and the canonical form. -/

namespace Sys2Proof.Machine

/-- Every listed key of a table lies above `k`. -/
def Map.above {α : Type} (k : Nat) (m : Map α) : Prop := ∀ e ∈ m, k < e.1

theorem Map.rising_cons {α : Type} (k : Nat) (v : α) (m : Map α) :
    Map.rising ((k, v) :: m) = true ↔ Map.above k m ∧ Map.rising m = true := by
  induction m generalizing k v with
  | nil => simp [Map.rising, Map.above]
  | cons e t ih =>
    obtain ⟨j, w⟩ := e
    constructor
    · intro h
      simp only [Map.rising, Bool.and_eq_true, decide_eq_true_eq] at h
      refine ⟨?_, h.2⟩
      intro e he
      rcases List.mem_cons.1 he with rfl | he
      · exact h.1
      · exact Nat.lt_trans h.1 (((ih j w).1 h.2).1 e he)
    · rintro ⟨ha, hr⟩
      simp only [Map.rising, Bool.and_eq_true, decide_eq_true_eq]
      exact ⟨ha (j, w) (List.mem_cons_self ..), hr⟩

theorem Map.erase_mem {α : Type} {m : Map α} {k : Nat} {e : Nat × α} (h : e ∈ Map.erase m k) : e ∈ m := by
  induction m with
  | nil => exact h
  | cons x t ih =>
    obtain ⟨j, v⟩ := x
    unfold Map.erase at h
    split at h
    · exact List.mem_cons_of_mem _ h
    · split at h
      · exact h
      · rcases List.mem_cons.1 h with rfl | h
        · exact List.mem_cons_self ..
        · exact List.mem_cons_of_mem _ (ih h)

theorem Map.insert_mem {α : Type} {m : Map α} {k : Nat} {v : α} {e : Nat × α} (h : e ∈ Map.insert m k v) :
    e = (k, v) ∨ e ∈ m := by
  induction m with
  | nil => exact .inl (by simpa [Map.insert] using h)
  | cons x t ih =>
    obtain ⟨j, w⟩ := x
    unfold Map.insert at h
    split at h
    · rcases List.mem_cons.1 h with h | h
      · exact .inl h
      · exact .inr (List.mem_cons_of_mem _ h)
    · split at h
      · rcases List.mem_cons.1 h with h | h
        · exact .inl h
        · exact .inr h
      · rcases List.mem_cons.1 h with rfl | h
        · exact .inr (List.mem_cons_self ..)
        · exact (ih h).imp id (List.mem_cons_of_mem _)

theorem Map.erase_rising {α : Type} {m : Map α} (k : Nat) (h : Map.rising m = true) : Map.rising (Map.erase m k) = true := by
  induction m with
  | nil => exact h
  | cons x t ih =>
    obtain ⟨j, v⟩ := x
    have hc := (Map.rising_cons j v t).1 h
    unfold Map.erase
    split
    · exact hc.2
    · split
      · exact h
      · exact (Map.rising_cons ..).2 ⟨fun e he => hc.1 e (Map.erase_mem he), ih hc.2⟩

theorem Map.insert_rising {α : Type} {m : Map α} (k : Nat) (v : α) (h : Map.rising m = true) :
    Map.rising (Map.insert m k v) = true := by
  induction m with
  | nil => simp [Map.insert, Map.rising]
  | cons x t ih =>
    obtain ⟨j, w⟩ := x
    have hc := (Map.rising_cons j w t).1 h
    unfold Map.insert
    split
    · next e => subst e; exact (Map.rising_cons ..).2 hc
    · split
      · next hk =>
        refine (Map.rising_cons ..).2 ⟨fun e he => ?_, h⟩
        rcases List.mem_cons.1 he with rfl | he
        · exact hk
        · exact Nat.lt_trans hk (hc.1 e he)
      · next hn hk =>
        refine (Map.rising_cons ..).2 ⟨fun e he => ?_, ih hc.2⟩
        rcases Map.insert_mem he with rfl | he
        · exact Nat.lt_of_le_of_ne (Nat.le_of_not_lt hk) hn
        · exact hc.1 e he

/-- A write keeps the keys rising. -/
theorem Map.set_rising {α : Type} [DecidableEq α] {m : Map α} (k : Nat) (v dflt : α) (h : Map.rising m = true) :
    Map.rising (Map.set m k v dflt) = true := by
  unfold Map.set
  split
  · exact Map.erase_rising k h
  · exact Map.insert_rising k v h

/-- The canonical form: keys rising, and no entry equal to what an unlisted key reads as. -/
theorem Map.wf_iff {α : Type} [DecidableEq α] (dflt : Nat → α) (m : Map α) :
    Map.wf dflt m = true ↔ Map.rising m = true ∧ ∀ e ∈ m, e.2 ≠ dflt e.1 := by
  induction m with
  | nil => simp [Map.wf, Map.rising]
  | cons x t ih =>
    obtain ⟨k, v⟩ := x
    cases t with
    | nil => simp [Map.wf, Map.rising]
    | cons y t =>
      obtain ⟨j, w⟩ := y
      simp only [Map.wf, Map.rising, Bool.and_eq_true, ih, List.forall_mem_cons]
      simp only [Bool.not_eq_true', decide_eq_false_iff_not, decide_eq_true_eq]
      constructor
      · rintro ⟨⟨a, b⟩, c, d⟩; exact ⟨⟨b, c⟩, a, d⟩
      · rintro ⟨⟨b, c⟩, a, d⟩; exact ⟨⟨a, b⟩, c, d⟩

/-- A write keeps the canonical form. -/
theorem Map.set_wf {α : Type} [DecidableEq α] {m : Map α} (k : Nat) (v dflt : α) (h : Map.wf (fun _ => dflt) m = true) :
    Map.wf (fun _ => dflt) (Map.set m k v dflt) = true := by
  have hm := (Map.wf_iff _ m).1 h
  refine (Map.wf_iff _ _).2 ⟨Map.set_rising k v dflt hm.1, fun e he => ?_⟩
  unfold Map.set at he
  split at he
  · exact hm.2 e (Map.erase_mem he)
  · next hv =>
    rcases Map.insert_mem he with rfl | he
    · exact hv
    · exact hm.2 e he

/-- What a filter leaves of a canonical table is canonical. -/
theorem Map.filter_rising {α : Type} {m : Map α} (p : Nat × α → Bool) (h : Map.rising m = true) :
    Map.rising (m.filter p) = true := by
  induction m with
  | nil => rfl
  | cons x t ih =>
    obtain ⟨k, v⟩ := x
    have hc := (Map.rising_cons k v t).1 h
    rw [List.filter_cons]
    split
    · exact (Map.rising_cons ..).2 ⟨fun e he => hc.1 e (List.mem_filter.1 he).1, ih hc.2⟩
    · exact ih hc.2

theorem Map.filter_wf {α : Type} [DecidableEq α] {dflt : Nat → α} {m : Map α} (p : Nat × α → Bool) (h : Map.wf dflt m = true) :
    Map.wf dflt (m.filter p) = true := by
  have hm := (Map.wf_iff _ m).1 h
  exact (Map.wf_iff _ _).2 ⟨Map.filter_rising p hm.1, fun e he => hm.2 e (List.mem_filter.1 he).1⟩

/-! ### Reading after writing -/

/-- A key that lies below every listed one reads the default. -/
theorem Map.get_above {α : Type} {m : Map α} {k : Nat} (d : α) (h : Map.above k m) : Map.get m k d = d := by
  cases m with
  | nil => rfl
  | cons x t =>
    obtain ⟨j, v⟩ := x
    have hk : k < j := h (j, v) (List.mem_cons_self ..)
    unfold Map.get
    rw [if_neg (by omega), if_pos hk]

theorem Map.get_insert {α : Type} {m : Map α} (h : Map.rising m = true) (k j : Nat) (v d : α) :
    Map.get (Map.insert m k v) j d = if k = j then v else Map.get m j d := by
  induction m with
  | nil =>
    simp only [Map.insert, Map.get]
    split <;> simp
  | cons x t ih =>
    obtain ⟨i, w⟩ := x
    have hc := (Map.rising_cons i w t).1 h
    have ih := ih hc.2
    unfold Map.insert
    split
    · next e => subst e; simp only [Map.get]; repeat' split
                all_goals first | rfl | omega
    · split
      · simp only [Map.get]; repeat' split
        all_goals first | rfl | omega
      · simp only [Map.get, ih]; repeat' split
        all_goals first | rfl | omega

theorem Map.get_erase {α : Type} {m : Map α} (h : Map.rising m = true) (k j : Nat) (d : α) :
    Map.get (Map.erase m k) j d = if k = j then d else Map.get m j d := by
  induction m with
  | nil =>
    simp only [Map.erase, Map.get]
    split <;> rfl
  | cons x t ih =>
    obtain ⟨i, w⟩ := x
    have hc := (Map.rising_cons i w t).1 h
    have ih := ih hc.2
    unfold Map.erase
    split
    · next e =>
      subst e
      by_cases hj : i = j
      · subst hj; rw [if_pos rfl]; exact Map.get_above d hc.1
      · rw [if_neg hj]
        by_cases hl : j < i
        · rw [show Map.get ((i, w) :: t) j d = d by simp only [Map.get]; rw [if_neg hj, if_pos hl]]
          exact Map.get_above d fun e he => Nat.lt_trans hl (hc.1 e he)
        · simp only [Map.get]; rw [if_neg hj, if_neg hl]
    · split
      · simp only [Map.get]; repeat' split
        all_goals first | rfl | omega
      · simp only [Map.get, ih]; repeat' split
        all_goals first | rfl | omega

/-- A read after a write to the same key gives the value written, and every other key reads as before. -/
theorem Map.get_set {α : Type} [DecidableEq α] {m : Map α} (h : Map.rising m = true) (k j : Nat) (v d : α) :
    Map.get (Map.set m k v d) j d = if k = j then v else Map.get m j d := by
  unfold Map.set
  split
  · next e => subst e; exact Map.get_erase h k j v
  · exact Map.get_insert h k j v d

/-- A table written at `k` reads elsewhere as before, whatever the unlisted keys read as. -/
theorem Map.get_set_ne {α : Type} [DecidableEq α] {m : Map α} (h : Map.rising m = true) {k j : Nat} (hne : k ≠ j) (v d e : α) :
    Map.get (Map.set m k v d) j e = Map.get m j e := by
  unfold Map.set
  split
  · rw [Map.get_erase h, if_neg hne]
  · rw [Map.get_insert h, if_neg hne]

/-- A key inserted reads as its value. -/
theorem Map.get_insert_self {α : Type} (m : Map α) (k : Nat) (v d : α) : Map.get (Map.insert m k v) k d = v := by
  induction m with
  | nil => simp [Map.insert, Map.get]
  | cons x t ih =>
    obtain ⟨j, w⟩ := x
    by_cases h1 : j = k
    · simp [Map.insert, Map.get, h1]
    · by_cases h2 : k < j
      · simp [Map.insert, Map.get, h1, h2]
      · simp [Map.insert, Map.get, h1, h2, ih]

end Sys2Proof.Machine
end

