-- ==== Sys2Proof/Laws/Kept.lean ====
section
/-! SUPPORT. What every operation on the device keeps: the canonical form of its tables, and the silicon it runs on. -/

namespace Sys2Proof.Machine

/-- The canonical form of memory, of the registers, of the die configuration and of the wrong bits, in the part `p`. -/
def Canon (p q : Part) (m : List Host.Cell) (r i e : Map Nat) : Prop :=
  q = p ∧ Memory.wf m = true ∧ Map.rising r = true ∧ Map.rising i = true ∧ Map.wf (fun _ => 0) e = true

/-- A device in canonical form with the part `p`. -/
def Dev.Kept (p : Part) (d : Dev) : Prop := Canon p d.part d.mem d.regs d.die d.memErr

theorem Dev.Kept.canon {p : Part} {d : Dev} (h : d.Kept p) : Canon p d.part d.mem d.regs d.die d.memErr := h

theorem foldl_kept {α : Type} {p : Part} {f : Dev → α → Dev} (hf : ∀ (y : Dev) (a : α), y.Kept p → (f y a).Kept p) {d : Dev} (h : d.Kept p) (l : List α) :
    (l.foldl f d).Kept p := by
  induction l generalizing d with
  | nil => exact h
  | cons a t ih => exact ih (hf d a h)

theorem foldl_snd_kept {α β : Type} {p : Part} {f : β × Dev → α → β × Dev} (hf : ∀ (y : β × Dev) (a : α), y.2.Kept p → (f y a).2.Kept p)
    {d : β × Dev} (h : d.2.Kept p) (l : List α) : (l.foldl f d).2.Kept p := by
  induction l generalizing d with
  | nil => exact h
  | cons a t ih => exact ih (hf d a h)

theorem foldl_fst_kept {α β : Type} {p : Part} {f : Dev × β → α → Dev × β} (hf : ∀ (y : Dev × β) (a : α), y.1.Kept p → (f y a).1.Kept p)
    {d : Dev × β} (h : d.1.Kept p) (l : List α) : (l.foldl f d).1.Kept p := by
  induction l generalizing d with
  | nil => exact h
  | cons a t ih => exact ih (hf d a h)

theorem foldl_snd2_kept {α β γ : Type} {p : Part} {f : β × γ × Dev → α → β × γ × Dev}
    (hf : ∀ (y : β × γ × Dev) (a : α), y.2.2.Kept p → (f y a).2.2.Kept p) {d : β × γ × Dev} (h : d.2.2.Kept p) (l : List α) :
    (l.foldl f d).2.2.Kept p := by
  induction l generalizing d with
  | nil => exact h
  | cons a t ih => exact ih (hf d a h)

theorem ite_kept {p : Part} {c : Prop} [Decidable c] {a b : Dev} (ha : a.Kept p) (hb : b.Kept p) : (if c then a else b).Kept p := by
  split <;> assumption

theorem memSet_wf {m : List Host.Cell} (a : Nat) (b : Byte) (h : Memory.wf m = true) : Memory.wf (memSet m a b) = true :=
  Map.set_wf a b 0 h

theorem memSetMany_wf {m : List Host.Cell} (a : Nat) (bs : List Nat) (h : Memory.wf m = true) : Memory.wf (memSetMany m a bs) = true := by
  induction bs generalizing m a with
  | nil => exact h
  | cons b t ih => exact ih _ (memSet_wf a _ h)

namespace Canon
variable {p q : Part} {m : List Host.Cell} {r i e : Map Nat}

theorem setRegs (h : Canon p q m r i e) (k v d : Nat) : Canon p q m (Map.set r k v d) i e :=
  ⟨h.1, h.2.1, Map.set_rising k v d h.2.2.1, h.2.2.2.1, h.2.2.2.2⟩

theorem setDie (h : Canon p q m r i e) (k v d : Nat) : Canon p q m r (Map.set i k v d) e :=
  ⟨h.1, h.2.1, h.2.2.1, Map.set_rising k v d h.2.2.2.1, h.2.2.2.2⟩

theorem setMem (h : Canon p q m r i e) (a : Nat) (bs : List Nat) : Canon p q (memSetMany m a bs) r i e :=
  ⟨h.1, memSetMany_wf a bs h.2.1, h.2.2⟩

theorem filterMem (h : Canon p q m r i e) (f : Host.Cell → Bool) : Canon p q (m.filter f) r i e :=
  ⟨h.1, Map.filter_wf f h.2.1, h.2.2⟩

theorem foldMem {α : Type} (h : Canon p q m r i e) (a : α → Nat) (b : α → Byte) (l : List α) :
    Canon p q (l.foldl (fun (m : List Host.Cell) c => memSet m (a c) (b c)) m) r i e := by
  induction l generalizing m with
  | nil => exact h
  | cons c t ih => exact ih ⟨h.1, memSet_wf _ _ h.2.1, h.2.2⟩

theorem setErr (h : Canon p q m r i e) (k v : Nat) : Canon p q m r i (Map.set e k v 0) :=
  ⟨h.1, h.2.1, h.2.2.1, h.2.2.2.1, Map.set_wf k v 0 h.2.2.2.2⟩

end Canon

end Sys2Proof.Machine
end

