-- ==== Sys2Proof/Laws/KeptCore.lean ====
section
/-! SUPPORT. Canonical form and silicon are kept: the operations of the host rings, the fabric links and the global registers. -/

namespace Sys2Proof.Machine
open Sys2Proof

/-! ### Ops -/

theorem Dev.put_kept {pt : Part} {d : Dev} (f : Fld) (i : Nat) (v : Nat) (hk : d.Kept pt) :
    (Dev.put d f i v).Kept pt := hk.canon.setRegs _ _ _

theorem Dev.putBit_kept {pt : Part} {d : Dev} (f : Fld) (i : Nat) (b : Bool) (hk : d.Kept pt) :
    (Dev.putBit d f i b).Kept pt := by
  unfold Dev.putBit
  repeat' first | (with_reducible first | assumption | apply Dev.put_kept | apply Dev.Kept.canon | refine ite_kept ?_ ?_) | split | (unfold Dev.Kept; dsimp only) | dsimp only

theorem Dev.bump_kept {pt : Part} {d : Dev} (f : Fld) (i : Nat) (top : Nat) (hk : d.Kept pt) :
    (Dev.bump d f i top).Kept pt := by
  unfold Dev.bump
  repeat' first | (with_reducible first | assumption | apply Dev.put_kept | apply Dev.Kept.canon) | (unfold Dev.Kept; dsimp only) | dsimp only

theorem Dev.wrapUp_kept {pt : Part} {d : Dev} (f : Fld) (i : Nat) (hk : d.Kept pt) :
    (Dev.wrapUp d f i).Kept pt := by
  unfold Dev.wrapUp
  repeat' first | (with_reducible first | assumption | apply Dev.put_kept | apply Dev.Kept.canon) | (unfold Dev.Kept; dsimp only) | dsimp only

theorem Dev.dput_kept {pt : Part} {d : Dev} (f : Fld) (i : Nat) (v : Nat) (hk : d.Kept pt) :
    (Dev.dput d f i v).Kept pt := hk.canon.setDie _ _ _

theorem Dev.markRec_kept {pt : Part} {d : Dev} (r : Nat) (hk : d.Kept pt) :
    (Dev.markRec d r).Kept pt := by
  unfold Dev.markRec
  repeat' first | (with_reducible first | assumption | apply Dev.Kept.canon | refine ite_kept ?_ ?_) | split | (unfold Dev.Kept; dsimp only) | dsimp only

theorem Dev.markRet_kept {pt : Part} {d : Dev} (addr : Nat) (hk : d.Kept pt) :
    (Dev.markRet d addr).Kept pt := by
  unfold Dev.markRet
  repeat' first | (with_reducible first | assumption | apply Dev.markRec_kept | apply Dev.Kept.canon | refine ite_kept ?_ ?_) | split | (unfold Dev.Kept; dsimp only) | dsimp only

theorem Dev.markHost_kept {pt : Part} {d : Dev} (addr : Nat) (hk : d.Kept pt) :
    (Dev.markHost d addr).Kept pt := by
  unfold Dev.markHost
  repeat' first | (with_reducible first | assumption | apply Dev.markRec_kept | apply Dev.Kept.canon) | split | (unfold Dev.Kept; dsimp only) | dsimp only

theorem Dev.putRet_kept {pt : Part} {d : Dev} (f : Fld) (i : Nat) (v : Nat) (hk : d.Kept pt) :
    (Dev.putRet d f i v).Kept pt := by
  unfold Dev.putRet
  repeat' first | (with_reducible first | assumption | apply Dev.markRet_kept | apply Dev.put_kept | apply Dev.Kept.canon | refine ite_kept ?_ ?_) | split | (unfold Dev.Kept; dsimp only) | dsimp only

theorem Dev.putHost_kept {pt : Part} {d : Dev} (f : Fld) (i : Nat) (v : Nat) (hk : d.Kept pt) :
    (Dev.putHost d f i v).Kept pt := by
  unfold Dev.putHost
  repeat' first | (with_reducible first | assumption | apply Dev.markHost_kept | apply Dev.put_kept | apply Dev.Kept.canon) | (unfold Dev.Kept; dsimp only) | dsimp only

theorem Dev.emit_kept {pt : Part} {d : Dev} (o : Output) (hk : d.Kept pt) :
    (Dev.emit d o).Kept pt := by
  unfold Dev.emit
  repeat' first | (with_reducible first | assumption | apply Dev.Kept.canon) | (unfold Dev.Kept; dsimp only) | dsimp only

theorem Dev.begin_kept {pt : Part} {d : Dev} (hk : d.Kept pt) :
    (Dev.begin d).Kept pt := by
  unfold Dev.begin
  repeat' first | (with_reducible first | assumption | apply Dev.Kept.canon) | (unfold Dev.Kept; dsimp only) | dsimp only

theorem Dev.nextFree_kept {pt : Part} {d : Dev} (hk : d.Kept pt) :
    (Dev.nextFree d).Kept pt := by
  unfold Dev.nextFree
  repeat' first | (with_reducible first | assumption | apply Dev.Kept.canon) | (unfold Dev.Kept; dsimp only) | dsimp only

theorem Dev.raiseAt_kept {pt : Part} {d : Dev} (code : Nat) (src : Nat) (time : Nat) (detail : List Nat) (hk : d.Kept pt) :
    (Dev.raiseAt d code src time detail).Kept pt := by
  unfold Dev.raiseAt
  repeat' first | (with_reducible first | assumption | apply Dev.bump_kept | apply Dev.Kept.canon | refine ite_kept ?_ ?_) | split | (unfold Dev.Kept; dsimp only) | dsimp only

theorem Dev.raise_kept {pt : Part} {d : Dev} (code : Nat) (src : Nat) (detail : List Nat) (hk : d.Kept pt) :
    (Dev.raise d code src detail).Kept pt := by
  unfold Dev.raise
  repeat' first | (with_reducible first | assumption | apply Dev.raiseAt_kept | apply Dev.Kept.canon) | (unfold Dev.Kept; dsimp only) | dsimp only

theorem Dev.raiseLimited_kept {pt : Part} {d : Dev} (code : Nat) (src : Nat) (time : Nat) (st : Nat) (detail : List Nat) (hk : d.Kept pt) :
    (Dev.raiseLimited d code src time st detail).Kept pt := by
  unfold Dev.raiseLimited
  repeat' first | (with_reducible first | assumption | apply Dev.raiseAt_kept | apply Dev.Kept.canon | refine ite_kept ?_ ?_) | split | (unfold Dev.Kept; dsimp only) | dsimp only

theorem Dev.raiseCounted_kept {pt : Part} {d : Dev} (code : Nat) (src : Nat) (time : Nat) (detail : List Nat) (off : Option Nat) (hk : d.Kept pt) :
    (Dev.raiseCounted d code src time detail off).Kept pt := by
  unfold Dev.raiseCounted
  repeat' first | (with_reducible first | assumption | intro _ | apply Dev.raiseAt_kept | apply Dev.Kept.canon) | split | (unfold Dev.Kept; dsimp only) | dsimp only

theorem Dev.endInterval_kept {pt : Part} {d : Dev} (code : Nat) (src : Nat) (hk : d.Kept pt) :
    (Dev.endInterval d code src).Kept pt := by
  unfold Dev.endInterval
  repeat' first | (with_reducible first | assumption | apply Dev.raise_kept | apply Dev.Kept.canon | refine ite_kept ?_ ?_) | split | (unfold Dev.Kept; dsimp only) | dsimp only

theorem Dev.setRec_kept {pt : Part} {d : Dev} (id : Nat) (f : Rec → Rec) (hk : d.Kept pt) :
    (Dev.setRec d id f).Kept pt := by
  unfold Dev.setRec
  repeat' first | (with_reducible first | assumption | intro _ | apply Dev.Kept.canon | refine ite_kept ?_ ?_) | split | (unfold Dev.Kept; dsimp only) | dsimp only

theorem Dev.finish_kept {pt : Part} {d : Dev} (id : Nat) (st : Status) (result : Nat) (hk : d.Kept pt) :
    (Dev.finish d id st result).Kept pt := by
  unfold Dev.finish
  repeat' first | (with_reducible first | assumption | intro _ | apply Dev.setRec_kept | apply Dev.bump_kept | apply Dev.Kept.canon | refine ite_kept ?_ ?_) | split | (unfold Dev.Kept; dsimp only) | dsimp only

theorem Dev.fail_kept {pt : Part} {d : Dev} (id : Nat) (st : Status) (hk : d.Kept pt) :
    (Dev.fail d id st).Kept pt := by
  unfold Dev.fail
  repeat' first | (with_reducible first | assumption | apply Dev.finish_kept | apply Dev.Kept.canon) | (unfold Dev.Kept; dsimp only) | dsimp only

theorem Dev.done_kept {pt : Part} {d : Dev} (id : Nat) (result : Nat) (hk : d.Kept pt) :
    (Dev.done d id result).Kept pt := by
  unfold Dev.done
  repeat' first | (with_reducible first | assumption | apply Dev.finish_kept | apply Dev.Kept.canon) | (unfold Dev.Kept; dsimp only) | dsimp only

theorem Dev.raiseMemUnc_kept {pt : Part} {d : Dev} (w : Nat) (reader : Nat) (hk : d.Kept pt) :
    (Dev.raiseMemUnc d w reader).Kept pt := by
  unfold Dev.raiseMemUnc
  repeat' first | (with_reducible first | assumption | apply Dev.raise_kept | apply Dev.bump_kept | apply Dev.Kept.canon) | (unfold Dev.Kept; dsimp only) | dsimp only

theorem Dev.settleWord_kept {pt : Part} {d : Dev} (w : Nat) (a : Nat) (n : Nat) (reader : Nat) (hk : d.Kept pt) :
    (Dev.settleWord d w a n reader).Kept pt := by
  unfold Dev.settleWord
  repeat' first | (with_reducible first | assumption | apply Dev.raiseMemUnc_kept | apply Dev.bump_kept | apply Canon.setMem | apply Canon.setErr | apply Dev.Kept.canon | refine ite_kept ?_ ?_) | split | (unfold Dev.Kept; dsimp only) | dsimp only

theorem Dev.memWrite_kept {pt : Part} {d : Dev} (a : Nat) (bs : List Nat) (reader : optParam Nat 1) (hk : d.Kept pt) :
    (Dev.memWrite d a bs reader).Kept pt := by
  unfold Dev.memWrite
  repeat' first | (with_reducible first | assumption | intro _ | apply Dev.settleWord_kept | apply Canon.setMem | apply Dev.Kept.canon | refine ite_kept ?_ ?_ | refine foldl_kept (fun _ _ _ => ?_) ?_ _ | refine foldl_snd2_kept (fun _ _ _ => ?_) ?_ _ | refine foldl_snd_kept (fun _ _ _ => ?_) ?_ _ | refine foldl_fst_kept (fun _ _ _ => ?_) ?_ _) | split | (unfold Dev.Kept; dsimp only) | dsimp only

theorem Dev.upset_kept {pt : Part} {d : Dev} (us : List (Nat × Nat)) (hk : d.Kept pt) :
    (Dev.upset d us).Kept pt := by
  unfold Dev.upset
  refine ⟨hk.1, hk.2.1, hk.2.2.1, hk.2.2.2.1, ?_⟩
  have key : ∀ (l : List (Nat × Nat)) (m : Map Nat), Map.wf (fun _ => 0) m = true → Map.wf (fun _ => 0)
      (l.foldl (fun (m : Map Nat) (u : Nat × Nat) => Map.set m u.1 (Nat.xor (Map.get m u.1 0) (u.2 % 2 ^ 280)) 0) m) = true := by
    intro l
    induction l with
    | nil => exact fun _ h => h
    | cons u t ih => exact fun m h => ih _ (Map.set_wf _ _ 0 h)
  exact key _ d.memErr hk.2.2.2.2

theorem Dev.readWord_kept {pt : Part} {d : Dev} (w : Nat) (reader : Nat) (hk : d.Kept pt) :
    (Dev.readWord d w reader).2.Kept pt := by
  unfold Dev.readWord
  repeat' first | (with_reducible first | assumption | apply Dev.memWrite_kept | apply Dev.raiseMemUnc_kept | apply Dev.bump_kept | apply Canon.setErr | apply Dev.Kept.canon) | split | (unfold Dev.Kept; dsimp only) | dsimp only

theorem Dev.readWord_kept_of {pt : Part} {d : Dev} {w : Nat} {reader : Nat} {r0 : Option (List Nat)} {e0 : Dev} (hk : d.Kept pt) (eq : (Dev.readWord d w reader) = (r0, e0)) : e0.Kept pt := by
  have k := @Dev.readWord_kept; grind

theorem Dev.readWords_kept {pt : Part} {d : Dev} (w : Nat) (a2 : Nat) (a3 : Nat) (hk : d.Kept pt) :
    (Dev.readWords d w a2 a3).2.Kept pt := by
  induction a2 generalizing d w with
  | zero => exact hk
  | succ n ih => exact ih (w + 1) (Dev.readWord_kept w a3 hk)

theorem Dev.readWords_kept_of {pt : Part} {d : Dev} {w : Nat} {a2 : Nat} {a3 : Nat} {r0 : Option (List Nat)} {e0 : Dev} (hk : d.Kept pt) (eq : (Dev.readWords d w a2 a3) = (r0, e0)) : e0.Kept pt := by
  have k := @Dev.readWords_kept; grind

theorem Dev.memRead_kept {pt : Part} {d : Dev} (a : Nat) (n : Nat) (reader : Nat) (hk : d.Kept pt) :
    (Dev.memRead d a n reader).2.Kept pt := by
  unfold Dev.memRead
  repeat' first | (with_reducible first | assumption | intro _ | apply Dev.readWords_kept | apply Dev.Kept.canon | refine ite_kept ?_ ?_) | split | (unfold Dev.Kept; dsimp only) | dsimp only

theorem Dev.memRead_kept_of {pt : Part} {d : Dev} {a : Nat} {n : Nat} {reader : Nat} {r0 : Option (List Nat)} {e0 : Dev} (hk : d.Kept pt) (eq : (Dev.memRead d a n reader) = (r0, e0)) : e0.Kept pt := by
  have k := @Dev.memRead_kept; grind

theorem Dev.produce_kept {pt : Part} {d : Dev} (name : Nat) (qty : Nat) (w : VW) (hk : d.Kept pt) :
    (Dev.produce d name qty w).Kept pt := by
  unfold Dev.produce
  repeat' first | (with_reducible first | assumption | apply Dev.Kept.canon) | (unfold Dev.Kept; dsimp only) | dsimp only

theorem Dev.deliver_kept {pt : Part} {d : Dev} (name : Nat) (qty : Nat) (w : VW) (hk : d.Kept pt) :
    (Dev.deliver d name qty w).Kept pt := by
  unfold Dev.deliver
  repeat' first | (with_reducible first | assumption | apply Dev.Kept.canon) | (unfold Dev.Kept; dsimp only) | dsimp only

theorem Dev.touchHeld_kept {pt : Part} {d : Dev} (k : Nat) (reader : Nat) (hk : d.Kept pt) :
    (Dev.touchHeld d k reader).Kept pt := by
  unfold Dev.touchHeld
  repeat' first | (with_reducible first | assumption | intro _ | apply Dev.raiseMemUnc_kept | apply Dev.nextFree_kept | apply Dev.bump_kept | apply Dev.Kept.canon | refine ite_kept ?_ ?_) | split | (unfold Dev.Kept; dsimp only) | dsimp only

theorem Dev.touchValue_kept {pt : Part} {d : Dev} (name : Nat) (qty : Nat) (reader : Nat) (hk : d.Kept pt) :
    (Dev.touchValue d name qty reader).Kept pt := by
  unfold Dev.touchValue
  repeat' first | (with_reducible first | assumption | apply Dev.touchHeld_kept | apply Dev.Kept.canon) | (unfold Dev.Kept; dsimp only) | dsimp only

theorem Dev.setWriter_kept {pt : Part} {d : Dev} (h : Nat) (w : Nat) (hk : d.Kept pt) :
    (Dev.setWriter d h w).Kept pt := by
  unfold Dev.setWriter
  repeat' first | (with_reducible first | assumption | apply Dev.Kept.canon) | (unfold Dev.Kept; dsimp only) | dsimp only

theorem Dev.setForce_kept {pt : Part} {d : Dev} (h : Nat) (v : Option Nat) (hk : d.Kept pt) :
    (Dev.setForce d h v).Kept pt := by
  unfold Dev.setForce
  repeat' first | (with_reducible first | assumption | apply Dev.Kept.canon | refine ite_kept ?_ ?_) | split | (unfold Dev.Kept; dsimp only) | dsimp only

theorem Dev.setCommand_kept {pt : Part} {d : Dev} (h : Nat) (v : Nat) (hk : d.Kept pt) :
    (Dev.setCommand d h v).Kept pt := by
  unfold Dev.setCommand
  repeat' first | (with_reducible first | assumption | apply Dev.Kept.canon) | (unfold Dev.Kept; dsimp only) | dsimp only

theorem Dev.setFd_kept {pt : Part} {d : Dev} (k : Nat) (x : DieSt) (hk : d.Kept pt) :
    (Dev.setFd d k x).Kept pt := by
  unfold Dev.setFd
  repeat' first | (with_reducible first | assumption | apply Dev.Kept.canon | refine ite_kept ?_ ?_) | split | (unfold Dev.Kept; dsimp only) | dsimp only

theorem Dev.post_kept {pt : Part} {d : Dev} (k : Nat) (m : Mail) (hk : d.Kept pt) :
    (Dev.post d k m).Kept pt := by
  unfold Dev.post
  repeat' first | (with_reducible first | assumption | apply Dev.Kept.canon | refine ite_kept ?_ ?_) | split | (unfold Dev.Kept; dsimp only) | dsimp only

theorem Dev.dieRaise_kept {pt : Part} {d : Dev} (k : Nat) (code : Nat) (src : Nat) (detail : List Nat) (hk : d.Kept pt) :
    (Dev.dieRaise d k code src detail).Kept pt := by
  unfold Dev.dieRaise
  repeat' first | (with_reducible first | assumption | apply Dev.setFd_kept | apply Dev.Kept.canon | refine ite_kept ?_ ?_) | split | (unfold Dev.Kept; dsimp only) | dsimp only

theorem Dev.setBlock_kept {pt : Part} {d : Dev} (k : Nat) (bs : List Nat) (hk : d.Kept pt) :
    (Dev.setBlock d k bs).Kept pt := by
  unfold Dev.setBlock
  repeat' first | (with_reducible first | assumption | apply Dev.Kept.canon | refine ite_kept ?_ ?_) | split | (unfold Dev.Kept; dsimp only) | dsimp only

theorem Dev.saveWrite_kept {pt : Part} {d : Dev} (off : Nat) (bs : List Nat) (hk : d.Kept pt) :
    (Dev.saveWrite d off bs).Kept pt := by
  unfold Dev.saveWrite
  repeat' first | (with_reducible first | assumption | apply Dev.memWrite_kept | apply Dev.Kept.canon) | (unfold Dev.Kept; dsimp only) | dsimp only

theorem Dev.saveRead_kept {pt : Part} {d : Dev} (off : Nat) (n : Nat) (hk : d.Kept pt) :
    (Dev.saveRead d off n).2.Kept pt := by
  unfold Dev.saveRead
  repeat' first | (with_reducible first | assumption | intro _ | apply Dev.settleWord_kept | apply Dev.Kept.canon | refine foldl_kept (fun _ _ _ => ?_) ?_ _ | refine foldl_snd2_kept (fun _ _ _ => ?_) ?_ _ | refine foldl_snd_kept (fun _ _ _ => ?_) ?_ _ | refine foldl_fst_kept (fun _ _ _ => ?_) ?_ _) | (unfold Dev.Kept; dsimp only) | dsimp only

theorem Dev.saveRead_kept_of {pt : Part} {d : Dev} {off : Nat} {n : Nat} {r0 : List Nat} {e0 : Dev} (hk : d.Kept pt) (eq : (Dev.saveRead d off n) = (r0, e0)) : e0.Kept pt := by
  have k := @Dev.saveRead_kept; grind

theorem Dev.saveCount_kept {pt : Part} {d : Dev} (off : Nat) (n : optParam Nat 4) (hk : d.Kept pt) :
    (Dev.saveCount d off n).Kept pt := by
  unfold Dev.saveCount
  repeat' first | (with_reducible first | assumption | apply Dev.saveRead_kept | apply Dev.saveWrite_kept | apply Dev.Kept.canon) | (unfold Dev.Kept; dsimp only) | dsimp only

theorem Dev.recovered_kept {pt : Part} {d : Dev} (hk : d.Kept pt) :
    (Dev.recovered d).Kept pt := by
  unfold Dev.recovered
  repeat' first | (with_reducible first | assumption | apply Dev.bump_kept | apply Dev.Kept.canon) | (unfold Dev.Kept; dsimp only) | dsimp only

theorem Dev.startCount_kept {pt : Part} {d : Dev} (hk : d.Kept pt) :
    (Dev.startCount d).2.Kept pt := by
  unfold Dev.startCount
  repeat' first | (with_reducible first | assumption | apply Dev.saveRead_kept | apply Dev.Kept.canon) | (unfold Dev.Kept; dsimp only) | dsimp only

theorem Dev.startCount_kept_of {pt : Part} {d : Dev} {r0 : Nat} {e0 : Dev} (hk : d.Kept pt) (eq : (Dev.startCount d) = (r0, e0)) : e0.Kept pt := by
  have k := @Dev.startCount_kept; grind

theorem Dev.logFaultIn_kept {pt : Part} {d : Dev} (starts : Nat) (time : Nat) (cause : Nat) (place : Nat) (detail : Nat) (hk : d.Kept pt) :
    (Dev.logFaultIn d starts time cause place detail).Kept pt := by
  unfold Dev.logFaultIn
  repeat' first | (with_reducible first | assumption | intro _ | apply Dev.raise_kept | apply Dev.putRet_kept | apply Dev.Kept.canon | refine foldl_kept (fun _ _ _ => ?_) ?_ _ | refine foldl_snd2_kept (fun _ _ _ => ?_) ?_ _ | refine foldl_snd_kept (fun _ _ _ => ?_) ?_ _ | refine foldl_fst_kept (fun _ _ _ => ?_) ?_ _) | (unfold Dev.Kept; dsimp only) | dsimp only

theorem Dev.logFault_kept {pt : Part} {d : Dev} (cause : Nat) (place : Nat) (detail : Nat) (hk : d.Kept pt) :
    (Dev.logFault d cause place detail).Kept pt := by
  unfold Dev.logFault
  repeat' first | (with_reducible first | assumption | apply Dev.logFaultIn_kept | apply Dev.startCount_kept | apply Dev.Kept.canon) | (unfold Dev.Kept; dsimp only) | dsimp only

/-! ### QuiltLink -/

theorem Dev.setPort_kept {pt : Part} {d : Dev} (p : Nat) (x : PortSt) (hk : d.Kept pt) :
    (Dev.setPort d p x).Kept pt := by
  unfold Dev.setPort
  repeat' first | (with_reducible first | assumption | apply Dev.Kept.canon | refine ite_kept ?_ ?_) | split | (unfold Dev.Kept; dsimp only) | dsimp only

theorem Dev.setPortState_kept {pt : Part} {d : Dev} (p : Nat) (st : Nat) (hk : d.Kept pt) :
    (Dev.setPortState d p st).Kept pt := by
  unfold Dev.setPortState
  repeat' first | (with_reducible first | assumption | intro _ | apply Dev.setPort_kept | apply Dev.put_kept | apply Dev.Kept.canon | refine ite_kept ?_ ?_ | refine foldl_kept (fun _ _ _ => ?_) ?_ _ | refine foldl_snd2_kept (fun _ _ _ => ?_) ?_ _ | refine foldl_snd_kept (fun _ _ _ => ?_) ?_ _ | refine foldl_fst_kept (fun _ _ _ => ?_) ?_ _) | split | (unfold Dev.Kept; dsimp only) | dsimp only

theorem Dev.flood_kept {pt : Part} {d : Dev} (k : Nat) (payload : Nat) (but : Option Nat) (hk : d.Kept pt) :
    (Dev.flood d k payload but).Kept pt := by
  unfold Dev.flood
  repeat' first | (with_reducible first | assumption | intro _ | apply Dev.emit_kept | apply Dev.Kept.canon | refine ite_kept ?_ ?_ | refine foldl_kept (fun _ _ _ => ?_) ?_ _ | refine foldl_snd2_kept (fun _ _ _ => ?_) ?_ _ | refine foldl_snd_kept (fun _ _ _ => ?_) ?_ _ | refine foldl_fst_kept (fun _ _ _ => ?_) ?_ _) | split | (unfold Dev.Kept; dsimp only) | dsimp only

theorem Dev.floodQuilt_kept {pt : Part} {d : Dev} (k : Nat) (payload : Nat) (but : Option Nat) (hk : d.Kept pt) :
    (Dev.floodQuilt d k payload but).Kept pt := by
  unfold Dev.floodQuilt
  repeat' first | (with_reducible first | assumption | apply Dev.flood_kept | apply Dev.Kept.canon | refine ite_kept ?_ ?_) | split | (unfold Dev.Kept; dsimp only) | dsimp only

theorem Dev.freeBuffer_kept {pt : Part} {d : Dev} (p : Nat) (c : Nat) (hk : d.Kept pt) :
    (Dev.freeBuffer d p c).Kept pt := by
  unfold Dev.freeBuffer
  repeat' first | (with_reducible first | assumption | apply Dev.setPort_kept | apply Dev.emit_kept | apply Dev.put_kept | apply Dev.Kept.canon | refine ite_kept ?_ ?_) | split | (unfold Dev.Kept; dsimp only) | dsimp only

theorem Dev.freeItem_kept {pt : Part} {d : Dev} (inPort : Option Nat) (c : Nat) (hk : d.Kept pt) :
    (Dev.freeItem d inPort c).Kept pt := by
  unfold Dev.freeItem
  repeat' first | (with_reducible first | assumption | apply Dev.freeBuffer_kept | apply Dev.Kept.canon) | split | (unfold Dev.Kept; dsimp only) | dsimp only

theorem Dev.sendOn_kept {pt : Part} {d : Dev} (p : Nat) (st : Stitch) (hk : d.Kept pt) :
    (Dev.sendOn d p st).Kept pt := by
  unfold Dev.sendOn
  repeat' first | (with_reducible first | assumption | apply Dev.setPort_kept | apply Dev.emit_kept | apply Dev.put_kept | apply Dev.Kept.canon) | (unfold Dev.Kept; dsimp only) | dsimp only

theorem Dev.readRetry_kept {pt : Part} {d : Dev} (p : Nat) (n : Nat) (st : Stitch) (hk : d.Kept pt) :
    (Dev.readRetry d p n st).2.Kept pt := by
  unfold Dev.readRetry
  repeat' first | (with_reducible first | assumption | apply Dev.touchHeld_kept | apply Dev.Kept.canon | refine ite_kept ?_ ?_) | split | (unfold Dev.Kept; dsimp only) | dsimp only

theorem Dev.readRetry_kept_of {pt : Part} {d : Dev} {p : Nat} {n : Nat} {st : Stitch} {r0 : Option Stitch} {e0 : Dev} (hk : d.Kept pt) (eq : (Dev.readRetry d p n st) = (r0, e0)) : e0.Kept pt := by
  have k := @Dev.readRetry_kept; grind

theorem Dev.readRetries_kept {pt : Part} {d : Dev} (p : Nat) (hk : d.Kept pt) :
    (Dev.readRetries d p).2.Kept pt := by
  unfold Dev.readRetries
  repeat' first | (with_reducible first | assumption | intro _ | refine Dev.readRetry_kept_of ?_ (by assumption) | apply Dev.readRetry_kept | apply Dev.Kept.canon | refine foldl_kept (fun _ _ _ => ?_) ?_ _ | refine foldl_snd2_kept (fun _ _ _ => ?_) ?_ _ | refine foldl_snd_kept (fun _ _ _ => ?_) ?_ _ | refine foldl_fst_kept (fun _ _ _ => ?_) ?_ _) | split | (unfold Dev.Kept; dsimp only) | dsimp only

theorem Dev.readRetries_kept_of {pt : Part} {d : Dev} {p : Nat} {r0 : (List Stitch × Nat)} {e0 : Dev} (hk : d.Kept pt) (eq : (Dev.readRetries d p) = (r0, e0)) : e0.Kept pt := by
  have k := @Dev.readRetries_kept; grind

theorem Dev.pumpClass_kept {pt : Part} {d : Dev} (c : Nat) (hk : d.Kept pt) :
    (Dev.pumpClass d c).Kept pt := by
  unfold Dev.pumpClass
  repeat' first | (with_reducible first | assumption | intro _ | apply Dev.sendOn_kept | apply Dev.freeItem_kept | apply Dev.done_kept | apply Dev.Kept.canon | refine ite_kept ?_ ?_ | refine foldl_kept (fun _ _ _ => ?_) ?_ _ | refine foldl_snd2_kept (fun _ _ _ => ?_) ?_ _ | refine foldl_snd_kept (fun _ _ _ => ?_) ?_ _ | refine foldl_fst_kept (fun _ _ _ => ?_) ?_ _) | split | (unfold Dev.Kept; dsimp only) | dsimp only

theorem Dev.pump_kept {pt : Part} {d : Dev} (hk : d.Kept pt) :
    (Dev.pump d).Kept pt := by
  unfold Dev.pump
  repeat' first | (with_reducible first | assumption | apply Dev.pumpClass_kept | apply Dev.Kept.canon) | (unfold Dev.Kept; dsimp only) | dsimp only

theorem Dev.lateTack_kept {pt : Part} {d : Dev} (p : Option Nat) (it : QItem) (hk : d.Kept pt) :
    (Dev.lateTack d p it).Kept pt := by
  unfold Dev.lateTack
  repeat' first | (with_reducible first | assumption | apply Dev.bump_kept | apply Dev.Kept.canon) | split | (unfold Dev.Kept; dsimp only) | dsimp only

theorem Dev.enqueue_kept {pt : Part} {d : Dev} (it : QItem) (hk : d.Kept pt) :
    (Dev.enqueue d it).Kept pt := by
  unfold Dev.enqueue
  repeat' first | (with_reducible first | assumption | apply Dev.Kept.canon) | (unfold Dev.Kept; dsimp only) | dsimp only

theorem Dev.enqueueOwn_kept {pt : Part} {d : Dev} (it : QItem) (hk : d.Kept pt) :
    (Dev.enqueueOwn d it).Kept pt := by
  unfold Dev.enqueueOwn
  repeat' first | (with_reducible first | assumption | apply Dev.enqueue_kept | apply Dev.Kept.canon) | (unfold Dev.Kept; dsimp only) | dsimp only

theorem Dev.setTokens_kept {pt : Part} {d : Dev} (n : Nat) (c : Nat) (v : Nat) (hk : d.Kept pt) :
    (Dev.setTokens d n c v).Kept pt := by
  unfold Dev.setTokens
  repeat' first | (with_reducible first | assumption | apply Dev.put_kept | apply Dev.Kept.canon) | split | (unfold Dev.Kept; dsimp only) | dsimp only

theorem Dev.noteTokens_kept {pt : Part} {d : Dev} (n : Nat) (c : Nat) (hk : d.Kept pt) :
    (Dev.noteTokens d n c).Kept pt := by
  unfold Dev.noteTokens
  repeat' first | (with_reducible first | assumption | apply Dev.Kept.canon) | (unfold Dev.Kept; dsimp only) | dsimp only

theorem Dev.useToken_kept {pt : Part} {d : Dev} (n : Nat) (c : Nat) (hk : d.Kept pt) :
    (Dev.useToken d n c).Kept pt := by
  unfold Dev.useToken
  repeat' first | (with_reducible first | assumption | apply Dev.noteTokens_kept | apply Dev.setTokens_kept | apply Dev.Kept.canon) | (unfold Dev.Kept; dsimp only) | dsimp only

theorem Dev.sendControl_kept {pt : Part} {d : Dev} (dest : Nat) (kind : Nat) (data : List Nat) (via : Option Nat) (hk : d.Kept pt) :
    (Dev.sendControl d dest kind data via).Kept pt := by
  unfold Dev.sendControl
  repeat' first | (with_reducible first | assumption | apply Dev.enqueueOwn_kept | apply Dev.pump_kept | apply Dev.Kept.canon) | (unfold Dev.Kept; dsimp only) | dsimp only

theorem Dev.sendToken_kept {pt : Part} {d : Dev} (dest : Nat) (cls : Nat) (kind : Nat) (flow : Nat) (data : List Nat) (desc : Option Nat) (hk : d.Kept pt) :
    (Dev.sendToken d dest cls kind flow data desc).Kept pt := by
  unfold Dev.sendToken
  repeat' first | (with_reducible first | assumption | intro _ | apply Dev.sendControl_kept | apply Dev.useToken_kept | apply Dev.enqueueOwn_kept | apply Dev.pump_kept | apply Dev.Kept.canon | refine ite_kept ?_ ?_) | split | (unfold Dev.Kept; dsimp only) | dsimp only

theorem Dev.useTokens_kept {pt : Part} {d : Dev} (dest : Nat) (cls : Nat) (hk : d.Kept pt) :
    (Dev.useTokens d dest cls).Kept pt := by
  unfold Dev.useTokens
  repeat' first | (with_reducible first | assumption | intro _ | apply Dev.sendControl_kept | apply Dev.useToken_kept | apply Dev.enqueueOwn_kept | apply Dev.pump_kept | apply Dev.Kept.canon | refine ite_kept ?_ ?_ | refine foldl_kept (fun _ _ _ => ?_) ?_ _ | refine foldl_snd2_kept (fun _ _ _ => ?_) ?_ _ | refine foldl_snd_kept (fun _ _ _ => ?_) ?_ _ | refine foldl_fst_kept (fun _ _ _ => ?_) ?_ _) | split | (unfold Dev.Kept; dsimp only) | dsimp only

theorem Dev.rringFault_kept {pt : Part} {d : Dev} (ring : Nat) (cause : Nat) (hk : d.Kept pt) :
    (Dev.rringFault d ring cause).Kept pt := by
  unfold Dev.rringFault
  repeat' first | (with_reducible first | assumption | apply Dev.raise_kept | apply Dev.Kept.canon) | (unfold Dev.Kept; dsimp only) | dsimp only

theorem Dev.remoteWrite_kept {pt : Part} {d : Dev} (ring : Nat) (off : Nat) (bytes : List Nat) (hk : d.Kept pt) :
    (Dev.remoteWrite d ring off bytes).Kept pt := by
  unfold Dev.remoteWrite
  repeat' first | (with_reducible first | assumption | intro _ | apply Dev.rringFault_kept | apply Dev.sendToken_kept | apply Dev.Kept.canon | refine ite_kept ?_ ?_ | refine foldl_kept (fun _ _ _ => ?_) ?_ _ | refine foldl_snd2_kept (fun _ _ _ => ?_) ?_ _ | refine foldl_snd_kept (fun _ _ _ => ?_) ?_ _ | refine foldl_fst_kept (fun _ _ _ => ?_) ?_ _) | split | (unfold Dev.Kept; dsimp only) | dsimp only

theorem Dev.remoteBell_kept {pt : Part} {d : Dev} (code : Nat) (tail : Nat) (hk : d.Kept pt) :
    (Dev.remoteBell d code tail).Kept pt := by
  unfold Dev.remoteBell
  repeat' first | (with_reducible first | assumption | apply Dev.sendToken_kept | apply Dev.Kept.canon) | (unfold Dev.Kept; dsimp only) | dsimp only

theorem Dev.readHeads_kept {pt : Part} {d : Dev} (hk : d.Kept pt) :
    (Dev.readHeads d).Kept pt := by
  unfold Dev.readHeads
  repeat' first | (with_reducible first | assumption | intro _ | apply Dev.sendToken_kept | apply Dev.Kept.canon | refine ite_kept ?_ ?_ | refine foldl_kept (fun _ _ _ => ?_) ?_ _ | refine foldl_snd2_kept (fun _ _ _ => ?_) ?_ _ | refine foldl_snd_kept (fun _ _ _ => ?_) ?_ _ | refine foldl_fst_kept (fun _ _ _ => ?_) ?_ _) | split | (unfold Dev.Kept; dsimp only) | dsimp only

theorem Dev.remoteTrace_kept {pt : Part} {d : Dev} (t : Nat) (unit : List Nat) (hk : d.Kept pt) :
    (Dev.remoteTrace d t unit).Kept pt := by
  unfold Dev.remoteTrace
  repeat' first | (with_reducible first | assumption | apply Dev.sendToken_kept | apply Dev.Kept.canon) | (unfold Dev.Kept; dsimp only) | dsimp only

theorem Dev.placeTack_kept {pt : Part} {d : Dev} (st : Stitch) (inPort : Option Nat) (hk : d.Kept pt) :
    (Dev.placeTack d st inPort).Kept pt := by
  unfold Dev.placeTack
  repeat' first | (with_reducible first | assumption | apply Dev.enqueue_kept | apply Dev.lateTack_kept | apply Dev.Kept.canon) | split | (unfold Dev.Kept; dsimp only) | dsimp only

theorem Dev.rerouteOne_kept {pt : Part} {d : Dev} (n : Nat) (revert : Option Nat) (hk : d.Kept pt) :
    (Dev.rerouteOne d n revert).2.Kept pt := by
  unfold Dev.rerouteOne
  repeat' first | (with_reducible first | assumption | apply Dev.put_kept | apply Dev.Kept.canon | refine ite_kept ?_ ?_) | split | (unfold Dev.Kept; dsimp only) | dsimp only

theorem Dev.rerouteOne_kept_of {pt : Part} {d : Dev} {n : Nat} {revert : Option Nat} {r0 : Nat} {e0 : Dev} (hk : d.Kept pt) (eq : (Dev.rerouteOne d n revert) = (r0, e0)) : e0.Kept pt := by
  have k := @Dev.rerouteOne_kept; grind

theorem Dev.raiseReroute_kept {pt : Part} {d : Dev} (p : Nat) (dir : Nat) (used : List Nat) (lost : Nat) (hk : d.Kept pt) :
    (Dev.raiseReroute d p dir used lost).Kept pt := by
  unfold Dev.raiseReroute
  repeat' first | (with_reducible first | assumption | apply Dev.raise_kept | apply Dev.Kept.canon | refine ite_kept ?_ ?_) | split | (unfold Dev.Kept; dsimp only) | dsimp only

theorem Dev.followHops_kept {pt : Part} {d : Dev} (hk : d.Kept pt) :
    (Dev.followHops d).Kept pt := by
  unfold Dev.followHops
  repeat' first | (with_reducible first | assumption | apply Dev.put_kept | apply Dev.Kept.canon | refine ite_kept ?_ ?_) | split | (unfold Dev.Kept; dsimp only) | dsimp only

theorem Dev.reroute_kept {pt : Part} {d : Dev} (revert : Option Nat) (hk : d.Kept pt) :
    (Dev.reroute d revert).Kept pt := by
  unfold Dev.reroute
  refine Dev.followHops_kept (Dev.put_kept _ _ _ (Dev.putBit_kept _ _ _ (foldl_kept (fun y a hy => ?_) (foldl_snd_kept (fun y a hy => ?_) hk _) _)))
  · exact Dev.raiseReroute_kept _ _ _ _ (Dev.raiseReroute_kept _ _ _ _ hy)
  · have k := Dev.rerouteOne_kept a revert hy
    dsimp only
    split
    · exact k
    · exact k

theorem Dev.auditPair_kept {pt : Part} {d : Dev} (n : Nat) (c : Nat) (hk : d.Kept pt) :
    (Dev.auditPair d n c).Kept pt := by
  unfold Dev.auditPair
  repeat' first | (with_reducible first | assumption | apply Dev.sendControl_kept | apply Dev.Kept.canon) | (unfold Dev.Kept; dsimp only) | dsimp only

theorem Dev.auditReached_kept {pt : Part} {d : Dev} (hk : d.Kept pt) :
    (Dev.auditReached d).Kept pt := by
  unfold Dev.auditReached
  repeat' first | (with_reducible first | assumption | intro _ | apply Dev.auditPair_kept | apply Dev.Kept.canon | refine foldl_kept (fun _ _ _ => ?_) ?_ _ | refine foldl_snd2_kept (fun _ _ _ => ?_) ?_ _ | refine foldl_snd_kept (fun _ _ _ => ?_) ?_ _ | refine foldl_fst_kept (fun _ _ _ => ?_) ?_ _) | (unfold Dev.Kept; dsimp only) | dsimp only

theorem Dev.moveStitches_kept {pt : Part} {d : Dev} (p : Nat) (hk : d.Kept pt) :
    (Dev.moveStitches d p).Kept pt := by
  unfold Dev.moveStitches
  repeat' first | (with_reducible first | assumption | intro _ | apply Dev.placeTack_kept | apply Dev.readRetries_kept | apply Dev.setPort_kept | apply Dev.Kept.canon | refine foldl_kept (fun _ _ _ => ?_) ?_ _ | refine foldl_snd2_kept (fun _ _ _ => ?_) ?_ _ | refine foldl_snd_kept (fun _ _ _ => ?_) ?_ _ | refine foldl_fst_kept (fun _ _ _ => ?_) ?_ _) | (unfold Dev.Kept; dsimp only) | dsimp only

theorem Dev.endPortAudits_kept {pt : Part} {d : Dev} (p : Nat) (hk : d.Kept pt) :
    (Dev.endPortAudits d p).Kept pt := by
  unfold Dev.endPortAudits
  repeat' first | (with_reducible first | assumption | intro _ | apply Dev.Kept.canon | refine ite_kept ?_ ?_) | split | (unfold Dev.Kept; dsimp only) | dsimp only

theorem Dev.endAudits_kept {pt : Part} {d : Dev} (hk : d.Kept pt) :
    (Dev.endAudits d).Kept pt := by
  unfold Dev.endAudits
  repeat' first | (with_reducible first | assumption | intro _ | apply Dev.done_kept | apply Dev.Kept.canon | refine foldl_kept (fun _ _ _ => ?_) ?_ _ | refine foldl_snd2_kept (fun _ _ _ => ?_) ?_ _ | refine foldl_snd_kept (fun _ _ _ => ?_) ?_ _ | refine foldl_fst_kept (fun _ _ _ => ?_) ?_ _) | (unfold Dev.Kept; dsimp only) | dsimp only

theorem Dev.leaveUp_kept {pt : Part} {d : Dev} (p : Nat) (st : Nat) (cause : Nat) (hk : d.Kept pt) :
    (Dev.leaveUp d p st cause).Kept pt := by
  unfold Dev.leaveUp
  repeat' first | (with_reducible first | assumption | apply Dev.endAudits_kept | apply Dev.endPortAudits_kept | apply Dev.moveStitches_kept | apply Dev.reroute_kept | apply Dev.pump_kept | apply Dev.setPortState_kept | apply Dev.setPort_kept | apply Dev.recovered_kept | apply Dev.raise_kept | apply Dev.emit_kept | apply Dev.bump_kept | apply Dev.put_kept | apply Dev.Kept.canon | refine ite_kept ?_ ?_) | split | (unfold Dev.Kept; dsimp only) | dsimp only

theorem Dev.linkDown_kept {pt : Part} {d : Dev} (p : Nat) (cause : Nat) (hk : d.Kept pt) :
    (Dev.linkDown d p cause).Kept pt := by
  unfold Dev.linkDown
  repeat' first | (with_reducible first | assumption | apply Dev.leaveUp_kept | apply Dev.Kept.canon) | (unfold Dev.Kept; dsimp only) | dsimp only

theorem Dev.enterTraining_kept {pt : Part} {d : Dev} (p : Nat) (hk : d.Kept pt) :
    (Dev.enterTraining d p).Kept pt := by
  unfold Dev.enterTraining
  repeat' first | (with_reducible first | assumption | apply Dev.setPortState_kept | apply Dev.setPort_kept | apply Dev.put_kept | apply Dev.Kept.canon) | (unfold Dev.Kept; dsimp only) | dsimp only

theorem Dev.linkError_kept {pt : Part} {d : Dev} (p : Nat) (ns : Nat) (hk : d.Kept pt) :
    (Dev.linkError d p ns).Kept pt := by
  unfold Dev.linkError
  repeat' first | (with_reducible first | assumption | intro _ | apply Dev.linkDown_kept | apply Dev.setPort_kept | apply Dev.Kept.canon | refine ite_kept ?_ ?_) | split | (unfold Dev.Kept; dsimp only) | dsimp only

/-! ### HostRings -/

theorem Dev.ringWrite_kept {pt : Part} {d : Dev} (r : Nat) (addr : Nat) (bytes : List Nat) (hk : d.Kept pt) :
    (Dev.ringWrite d r addr bytes).Kept pt := by
  unfold Dev.ringWrite
  repeat' first | (with_reducible first | assumption | apply Dev.remoteWrite_kept | apply Dev.emit_kept | apply Dev.Kept.canon | refine ite_kept ?_ ?_) | split | (unfold Dev.Kept; dsimp only) | dsimp only

theorem Dev.bufWrite_kept {pt : Part} {d : Dev} (addr : Nat) (bytes : List Nat) (hk : d.Kept pt) :
    (Dev.bufWrite d addr bytes).Kept pt := by
  unfold Dev.bufWrite
  repeat' first | (with_reducible first | assumption | apply Dev.remoteWrite_kept | apply Dev.emit_kept | apply Dev.Kept.canon | refine ite_kept ?_ ?_) | split | (unfold Dev.Kept; dsimp only) | dsimp only

theorem Dev.signal_kept {pt : Part} {d : Dev} (v : Nat) (hk : d.Kept pt) :
    (Dev.signal d v).Kept pt := by
  unfold Dev.signal
  repeat' first | (with_reducible first | assumption | apply Dev.emit_kept | apply Dev.put_kept | apply Dev.Kept.canon | refine ite_kept ?_ ?_) | split | (unfold Dev.Kept; dsimp only) | dsimp only

theorem Dev.ringSignal_kept {pt : Part} {d : Dev} (r : Nat) (vector : Nat) (irqEn : Bool) (holdoff : Nat) (hk : d.Kept pt) :
    (Dev.ringSignal d r vector irqEn holdoff).Kept pt := by
  unfold Dev.ringSignal
  repeat' first | (with_reducible first | assumption | apply Dev.signal_kept | apply Dev.Kept.canon | refine ite_kept ?_ ?_) | split | (unfold Dev.Kept; dsimp only) | dsimp only

theorem Dev.endFetched_kept {pt : Part} {d : Dev} (q : Nat) (st : Status) (hk : d.Kept pt) :
    (Dev.endFetched d q st).Kept pt := by
  unfold Dev.endFetched
  repeat' first | (with_reducible first | assumption | intro _ | apply Dev.fail_kept | apply Dev.Kept.canon | refine foldl_kept (fun _ _ _ => ?_) ?_ _ | refine foldl_snd2_kept (fun _ _ _ => ?_) ?_ _ | refine foldl_snd_kept (fun _ _ _ => ?_) ?_ _ | refine foldl_fst_kept (fun _ _ _ => ?_) ?_ _) | (unfold Dev.Kept; dsimp only) | dsimp only

theorem Dev.ringFault_kept {pt : Part} {d : Dev} (q : Nat) (cause : Nat) (v : Nat) (hk : d.Kept pt) :
    (Dev.ringFault d q cause v).Kept pt := by
  unfold Dev.ringFault
  repeat' first | (with_reducible first | assumption | apply Dev.endFetched_kept | apply Dev.raise_kept | apply Dev.put_kept | apply Dev.Kept.canon | refine ite_kept ?_ ?_) | split | (unfold Dev.Kept; dsimp only) | dsimp only

theorem Dev.actDesc_kept {pt : Part} {d : Dev} (id : Nat) (x : Sys2Proof.Desc) (named : List (Nat × Nat)) (body : Nat → Sys2Proof.Desc → Dev → Dev) (hk : d.Kept pt) (hfbody : ∀ (x0 : Nat) (x1 : Sys2Proof.Desc) (x2 : Dev), x2.Kept pt → (body x0 x1 x2).Kept pt) :
    (Dev.actDesc d id x named body).Kept pt := by
  unfold Dev.actDesc
  repeat' first | (with_reducible first | assumption | intro _ | apply Dev.fail_kept | apply Dev.setRec_kept | apply hfbody | apply Dev.Kept.canon | refine ite_kept ?_ ?_) | split | (unfold Dev.Kept; dsimp only) | dsimp only

theorem Dev.takeDesc_kept {pt : Part} {d : Dev} (q : Nat) (x : Sys2Proof.Desc) (hk : d.Kept pt) :
    (Dev.takeDesc d q x).Kept pt := by
  unfold Dev.takeDesc
  repeat' first | (with_reducible first | assumption | apply Dev.Kept.canon) | (unfold Dev.Kept; dsimp only) | dsimp only

theorem Dev.submit_kept {pt : Part} {d : Dev} (q : Nat) (x : Sys2Proof.Desc) (op : Nat) (named : List (Nat × Nat)) (body : Nat → Sys2Proof.Desc → Dev → Dev) (hk : d.Kept pt) (hfbody : ∀ (x0 : Nat) (x1 : Sys2Proof.Desc) (x2 : Dev), x2.Kept pt → (body x0 x1 x2).Kept pt) :
    (Dev.submit d q x op named body).Kept pt := by
  unfold Dev.submit
  repeat' first | (with_reducible first | assumption | intro _ | apply Dev.takeDesc_kept | apply Dev.actDesc_kept | apply Dev.fail_kept | apply hfbody | apply Dev.Kept.canon | refine ite_kept ?_ ?_) | split | (unfold Dev.Kept; dsimp only) | dsimp only

theorem Dev.abortDesc_kept {pt : Part} {d : Dev} (id : Nat) (ring : Nat) (tag : Nat) (ops : List Nat) (settle : Nat → Rec → Dev → Dev) (hk : d.Kept pt) (hfsettle : ∀ (x0 : Nat) (x1 : Rec) (x2 : Dev), x2.Kept pt → (settle x0 x1 x2).Kept pt) :
    (Dev.abortDesc d id ring tag ops settle).Kept pt := by
  unfold Dev.abortDesc
  repeat' first | (with_reducible first | assumption | intro _ | apply Dev.done_kept | apply Dev.fail_kept | apply hfsettle | apply Dev.Kept.canon | refine ite_kept ?_ ?_) | split | (unfold Dev.Kept; dsimp only) | dsimp only

theorem bodyNop_kept {pt : Part} (id : Nat) (a1 : Sys2Proof.Desc) {d : Dev} (hk : d.Kept pt) :
    (bodyNop id a1 d).Kept pt := by
  unfold bodyNop
  repeat' first | (with_reducible first | assumption | apply Dev.done_kept | apply Dev.Kept.canon) | (unfold Dev.Kept; dsimp only) | dsimp only

theorem Dev.writeCompletion_kept {pt : Part} {d : Dev} (c : Nat) (hk : d.Kept pt) :
    (Dev.writeCompletion d c).Kept pt := by
  unfold Dev.writeCompletion
  repeat' first | (with_reducible first | assumption | intro _ | apply Dev.endFetched_kept | apply Dev.ringSignal_kept | apply Dev.ringWrite_kept | apply Dev.readHeads_kept | apply Dev.remoteBell_kept | apply Dev.put_kept | apply Dev.Kept.canon | refine ite_kept ?_ ?_) | split | (unfold Dev.Kept; dsimp only) | dsimp only

theorem Dev.putEvent_kept {pt : Part} {d : Dev} (e : Event) (hk : d.Kept pt) :
    (Dev.putEvent d e).Kept pt := by
  unfold Dev.putEvent
  repeat' first | (with_reducible first | assumption | apply Dev.ringSignal_kept | apply Dev.ringWrite_kept | apply Dev.remoteBell_kept | apply Dev.put_kept | apply Dev.Kept.canon | refine ite_kept ?_ ?_) | split | (unfold Dev.Kept; dsimp only) | dsimp only

theorem Dev.writeEvent_kept {pt : Part} {d : Dev} (hk : d.Kept pt) :
    (Dev.writeEvent d).Kept pt := by
  unfold Dev.writeEvent
  repeat' first | (with_reducible first | assumption | apply Dev.putEvent_kept | apply Dev.Kept.canon | refine ite_kept ?_ ?_) | split | (unfold Dev.Kept; dsimp only) | dsimp only

theorem Dev.postHost_kept {pt : Part} {d : Dev} (p : Posted) (hk : d.Kept pt) :
    (Dev.postHost d p).Kept pt := by
  unfold Dev.postHost
  repeat' first | (with_reducible first | assumption | apply Dev.Kept.canon | refine ite_kept ?_ ?_) | split | (unfold Dev.Kept; dsimp only) | dsimp only

theorem Dev.latchBell_kept {pt : Part} {d : Dev} (off : Nat) (v : Nat) (hk : d.Kept pt) :
    (Dev.latchBell d off v).Kept pt := by
  unfold Dev.latchBell
  repeat' first | (with_reducible first | assumption | apply Dev.Kept.canon) | (unfold Dev.Kept; dsimp only) | dsimp only

theorem Dev.ringTail_kept {pt : Part} {d : Dev} (q : Nat) (v : Nat) (hk : d.Kept pt) :
    (Dev.ringTail d q v).Kept pt := by
  unfold Dev.ringTail
  repeat' first | (with_reducible first | assumption | apply Dev.ringFault_kept | apply Dev.put_kept | apply Dev.Kept.canon | refine ite_kept ?_ ?_) | split | (unfold Dev.Kept; dsimp only) | dsimp only

theorem Dev.badHead_kept {pt : Part} {d : Dev} (r : Nat) (v : Nat) (hk : d.Kept pt) :
    (Dev.badHead d r v).Kept pt := by
  unfold Dev.badHead
  repeat' first | (with_reducible first | assumption | apply Dev.raise_kept | apply Dev.Kept.canon) | (unfold Dev.Kept; dsimp only) | dsimp only

theorem Dev.cqHead_kept {pt : Part} {d : Dev} (c : Nat) (v : Nat) (hk : d.Kept pt) :
    (Dev.cqHead d c v).Kept pt := by
  unfold Dev.cqHead
  repeat' first | (with_reducible first | assumption | apply Dev.badHead_kept | apply Dev.put_kept | apply Dev.Kept.canon | refine ite_kept ?_ ?_) | split | (unfold Dev.Kept; dsimp only) | dsimp only

theorem Dev.eqHead_kept {pt : Part} {d : Dev} (v : Nat) (hk : d.Kept pt) :
    (Dev.eqHead d v).Kept pt := by
  unfold Dev.eqHead
  repeat' first | (with_reducible first | assumption | apply Dev.badHead_kept | apply Dev.put_kept | apply Dev.Kept.canon | refine ite_kept ?_ ?_) | split | (unfold Dev.Kept; dsimp only) | dsimp only

theorem Dev.tqHead_kept {pt : Part} {d : Dev} (t : Nat) (v : Nat) (hk : d.Kept pt) :
    (Dev.tqHead d t v).Kept pt := by
  unfold Dev.tqHead
  repeat' first | (with_reducible first | assumption | apply Dev.badHead_kept | apply Dev.put_kept | apply Dev.Kept.canon | refine ite_kept ?_ ?_) | split | (unfold Dev.Kept; dsimp only) | dsimp only

theorem Dev.heartbeat_kept {pt : Part} {d : Dev} (hk : d.Kept pt) :
    (Dev.heartbeat d).Kept pt := by
  unfold Dev.heartbeat
  repeat' first | (with_reducible first | assumption | apply Dev.raise_kept | apply Dev.put_kept | apply Dev.Kept.canon | refine ite_kept ?_ ?_) | split | (unfold Dev.Kept; dsimp only) | dsimp only

theorem Dev.bell_kept {pt : Part} {d : Dev} (off : Nat) (v : Nat) (hk : d.Kept pt) :
    (Dev.bell d off v).Kept pt := by
  unfold Dev.bell
  repeat' first | (with_reducible first | assumption | apply Dev.heartbeat_kept | apply Dev.tqHead_kept | apply Dev.eqHead_kept | apply Dev.cqHead_kept | apply Dev.ringTail_kept | apply Dev.Kept.canon | refine ite_kept ?_ ?_) | split | (unfold Dev.Kept; dsimp only) | dsimp only

theorem Dev.hostBell_kept {pt : Part} {d : Dev} (off : Nat) (v : Nat) (act : Dev → Dev) (hk : d.Kept pt) (hfact : ∀ (x0 : Dev), x0.Kept pt → (act x0).Kept pt) :
    (Dev.hostBell d off v act).Kept pt := by
  unfold Dev.hostBell
  repeat' first | (with_reducible first | assumption | intro _ | apply Dev.latchBell_kept | apply hfact | apply Dev.Kept.canon | refine ite_kept ?_ ?_) | split | (unfold Dev.Kept; dsimp only) | dsimp only

theorem Dev.hostqReject_kept {pt : Part} {d : Dev} (hk : d.Kept pt) :
    (Dev.hostqReject d).Kept pt := by
  unfold Dev.hostqReject
  repeat' first | (with_reducible first | assumption | apply Dev.put_kept | apply Dev.Kept.canon) | (unfold Dev.Kept; dsimp only) | dsimp only

theorem Dev.ringEnable_kept {pt : Part} {d : Dev} (r : Nat) (hk : d.Kept pt) :
    (Dev.ringEnable d r).Kept pt := by
  unfold Dev.ringEnable
  repeat' first | (with_reducible first | assumption | apply Dev.hostqReject_kept | apply Dev.put_kept | apply Dev.Kept.canon | refine ite_kept ?_ ?_) | split | (unfold Dev.Kept; dsimp only) | dsimp only

theorem Dev.ringDisable_kept {pt : Part} {d : Dev} (r : Nat) (hk : d.Kept pt) :
    (Dev.ringDisable d r).Kept pt := by
  unfold Dev.ringDisable
  repeat' first | (with_reducible first | assumption | apply Dev.hostqReject_kept | apply Dev.endFetched_kept | apply Dev.put_kept | apply Dev.Kept.canon | refine ite_kept ?_ ?_) | split | (unfold Dev.Kept; dsimp only) | dsimp only

theorem Dev.fenceClear_kept {pt : Part} {d : Dev} (q : Nat) (hk : d.Kept pt) :
    (Dev.fenceClear d q).Kept pt := by
  unfold Dev.fenceClear
  repeat' first | (with_reducible first | assumption | apply Dev.put_kept | apply Dev.Kept.canon) | (unfold Dev.Kept; dsimp only) | dsimp only

theorem Dev.hostReg_kept {pt : Part} {d : Dev} (off : Nat) (v : Nat) (act : Dev → Dev) (hk : d.Kept pt) (hfact : ∀ (x0 : Dev), x0.Kept pt → (act x0).Kept pt) :
    (Dev.hostReg d off v act).Kept pt := by
  unfold Dev.hostReg
  repeat' first | (with_reducible first | assumption | intro _ | apply Dev.postHost_kept | apply hfact | apply Dev.Kept.canon | refine ite_kept ?_ ?_) | split | (unfold Dev.Kept; dsimp only) | dsimp only

theorem Dev.writeWdog_kept {pt : Part} {d : Dev} (v : Nat) (hk : d.Kept pt) :
    (Dev.writeWdog d v).Kept pt := by
  unfold Dev.writeWdog
  repeat' first | (with_reducible first | assumption | apply Dev.hostqReject_kept | apply Dev.put_kept | apply Dev.Kept.canon | refine ite_kept ?_ ?_) | split | (unfold Dev.Kept; dsimp only) | dsimp only

theorem Dev.enterLost_kept {pt : Part} {d : Dev} (cause : Nat) (hk : d.Kept pt) :
    (Dev.enterLost d cause).Kept pt := by
  unfold Dev.enterLost
  repeat' first | (with_reducible first | assumption | apply Dev.raise_kept | apply Dev.put_kept | apply Dev.Kept.canon | refine ite_kept ?_ ?_) | split | (unfold Dev.Kept; dsimp only) | dsimp only

theorem Dev.clearRings_kept {pt : Part} {d : Dev} (hk : d.Kept pt) :
    (Dev.clearRings d).Kept pt := by
  unfold Dev.clearRings
  repeat' first | (with_reducible first | assumption | intro _ | apply Dev.bump_kept | apply Dev.put_kept | apply Dev.Kept.canon | refine ite_kept ?_ ?_ | refine foldl_kept (fun _ _ _ => ?_) ?_ _ | refine foldl_snd2_kept (fun _ _ _ => ?_) ?_ _ | refine foldl_snd_kept (fun _ _ _ => ?_) ?_ _ | refine foldl_fst_kept (fun _ _ _ => ?_) ?_ _) | split | (unfold Dev.Kept; dsimp only) | dsimp only

theorem Dev.pcieReset_kept {pt : Part} {d : Dev} (cause : Nat) (hk : d.Kept pt) :
    (Dev.pcieReset d cause).Kept pt := by
  unfold Dev.pcieReset
  repeat' first | (with_reducible first | assumption | apply Dev.clearRings_kept | apply Dev.enterLost_kept | apply Dev.Kept.canon | refine ite_kept ?_ ?_) | split | (unfold Dev.Kept; dsimp only) | dsimp only

theorem Dev.pcieDown_kept {pt : Part} {d : Dev} (cause : Nat) (link : Bool) (hk : d.Kept pt) :
    (Dev.pcieDown d cause link).Kept pt := by
  unfold Dev.pcieDown
  repeat' first | (with_reducible first | assumption | apply Dev.pcieReset_kept | apply Dev.raise_kept | apply Dev.put_kept | apply Dev.Kept.canon | refine ite_kept ?_ ?_) | split | (unfold Dev.Kept; dsimp only) | dsimp only

theorem Dev.pcieEvent_kept {pt : Part} {d : Dev} (cause : Nat) (link : Bool) (hk : d.Kept pt) :
    (Dev.pcieEvent d cause link).Kept pt := by
  unfold Dev.pcieEvent
  repeat' first | (with_reducible first | assumption | apply Dev.pcieDown_kept | apply Dev.Kept.canon | refine ite_kept ?_ ?_) | split | (unfold Dev.Kept; dsimp only) | dsimp only

theorem Dev.pcieUp_kept {pt : Part} {d : Dev} (speed : Nat) (width : Nat) (hk : d.Kept pt) :
    (Dev.pcieUp d speed width).Kept pt := by
  unfold Dev.pcieUp
  repeat' first | (with_reducible first | assumption | apply Dev.raise_kept | apply Dev.put_kept | apply Dev.Kept.canon) | (unfold Dev.Kept; dsimp only) | dsimp only

/-! ### Bus -/

theorem Dev.setBus_kept {pt : Part} {d : Dev} (n : Nat) (x : BusSt) (hk : d.Kept pt) :
    (Dev.setBus d n x).Kept pt := by
  unfold Dev.setBus
  repeat' first | (with_reducible first | assumption | apply Dev.putBit_kept | apply Dev.put_kept | apply Dev.Kept.canon | refine ite_kept ?_ ?_) | split | (unfold Dev.Kept; dsimp only) | dsimp only

theorem Dev.busMark_kept {pt : Part} {d : Dev} (n : Nat) (hk : d.Kept pt) :
    (Dev.busMark d n).Kept pt := by
  unfold Dev.busMark
  repeat' first | (with_reducible first | assumption | apply Dev.setBus_kept | apply Dev.Kept.canon) | (unfold Dev.Kept; dsimp only) | dsimp only

theorem Dev.busReject_kept {pt : Part} {d : Dev} (n : Nat) (hk : d.Kept pt) :
    (Dev.busReject d n).Kept pt := by
  unfold Dev.busReject
  repeat' first | (with_reducible first | assumption | apply Dev.put_kept | apply Dev.Kept.canon | refine ite_kept ?_ ?_) | split | (unfold Dev.Kept; dsimp only) | dsimp only

theorem Dev.busCrc_kept {pt : Part} {d : Dev} (n : Nat) (hk : d.Kept pt) :
    (Dev.busCrc d n).Kept pt := by
  unfold Dev.busCrc
  repeat' first | (with_reducible first | assumption | apply Dev.bump_kept | apply Dev.Kept.canon | refine ite_kept ?_ ?_) | split | (unfold Dev.Kept; dsimp only) | dsimp only

theorem Dev.busFraming_kept {pt : Part} {d : Dev} (n : Nat) (hk : d.Kept pt) :
    (Dev.busFraming d n).Kept pt := by
  unfold Dev.busFraming
  repeat' first | (with_reducible first | assumption | apply Dev.bump_kept | apply Dev.Kept.canon | refine ite_kept ?_ ?_) | split | (unfold Dev.Kept; dsimp only) | dsimp only

theorem Dev.busTimeout_kept {pt : Part} {d : Dev} (n : Nat) (hk : d.Kept pt) :
    (Dev.busTimeout d n).Kept pt := by
  unfold Dev.busTimeout
  repeat' first | (with_reducible first | assumption | apply Dev.bump_kept | apply Dev.Kept.canon | refine ite_kept ?_ ?_) | split | (unfold Dev.Kept; dsimp only) | dsimp only

theorem Dev.busDropped_kept {pt : Part} {d : Dev} (n : Nat) (hk : d.Kept pt) :
    (Dev.busDropped d n).Kept pt := by
  unfold Dev.busDropped
  repeat' first | (with_reducible first | assumption | apply Dev.raiseLimited_kept | apply Dev.bump_kept | apply Dev.Kept.canon | refine ite_kept ?_ ?_) | split | (unfold Dev.Kept; dsimp only) | dsimp only

theorem Dev.fillRecv_kept {pt : Part} {d : Dev} (id : Nat) (f : BusFrame) (hk : d.Kept pt) :
    (Dev.fillRecv d id f).Kept pt := by
  unfold Dev.fillRecv
  repeat' first | (with_reducible first | assumption | apply Dev.bufWrite_kept | apply Dev.done_kept | apply Dev.Kept.canon | refine ite_kept ?_ ?_) | split | (unfold Dev.Kept; dsimp only) | dsimp only

theorem Dev.busDeliver_kept {pt : Part} {d : Dev} (n : Nat) (f : BusFrame) (hk : d.Kept pt) :
    (Dev.busDeliver d n f).Kept pt := by
  unfold Dev.busDeliver
  repeat' first | (with_reducible first | assumption | apply Dev.fillRecv_kept | apply Dev.busDropped_kept | apply Dev.setBus_kept | apply Dev.Kept.canon | refine ite_kept ?_ ?_) | split | (unfold Dev.Kept; dsimp only) | dsimp only

theorem bodyBusRecv_kept {pt : Part} (id : Nat) (x : Sys2Proof.Desc) {d : Dev} (hk : d.Kept pt) :
    (bodyBusRecv id x d).Kept pt := by
  unfold bodyBusRecv
  repeat' first | (with_reducible first | assumption | apply Dev.fillRecv_kept | apply Dev.setBus_kept | apply Dev.fail_kept | apply Dev.Kept.canon | refine ite_kept ?_ ?_) | split | (unfold Dev.Kept; dsimp only) | dsimp only

theorem Dev.busEmit_kept {pt : Part} {d : Dev} (n : Nat) (bytes : List Nat) (hk : d.Kept pt) :
    (Dev.busEmit d n bytes).Kept pt := by
  unfold Dev.busEmit
  repeat' first | (with_reducible first | assumption | apply Dev.busMark_kept | apply Dev.emit_kept | apply Dev.Kept.canon | refine ite_kept ?_ ?_) | split | (unfold Dev.Kept; dsimp only) | dsimp only

theorem Dev.dropSend_kept {pt : Part} {d : Dev} (n : Nat) (id : Nat) (hk : d.Kept pt) :
    (Dev.dropSend d n id).Kept pt := by
  unfold Dev.dropSend
  repeat' first | (with_reducible first | assumption | intro _ | apply Dev.setBus_kept | apply Dev.Kept.canon) | (unfold Dev.Kept; dsimp only) | dsimp only

theorem Dev.endSend_kept {pt : Part} {d : Dev} (n : Nat) (id : Nat) (outcome : Nat) (response : List Nat) (hk : d.Kept pt) :
    (Dev.endSend d n id outcome response).Kept pt := by
  unfold Dev.endSend
  repeat' first | (with_reducible first | assumption | apply Dev.dropSend_kept | apply Dev.bufWrite_kept | apply Dev.done_kept | apply Dev.Kept.canon) | split | (unfold Dev.Kept; dsimp only) | dsimp only

theorem Dev.failSend_kept {pt : Part} {d : Dev} (n : Nat) (id : Nat) (st : Status) (hk : d.Kept pt) :
    (Dev.failSend d n id st).Kept pt := by
  unfold Dev.failSend
  repeat' first | (with_reducible first | assumption | apply Dev.dropSend_kept | apply Dev.fail_kept | apply Dev.Kept.canon) | (unfold Dev.Kept; dsimp only) | dsimp only

theorem Dev.mstpEmit_kept {pt : Part} {d : Dev} (n : Nat) (kind : Nat) (dest : Nat) (data : List Nat) (hk : d.Kept pt) :
    (Dev.mstpEmit d n kind dest data).Kept pt := by
  unfold Dev.mstpEmit
  repeat' first | (with_reducible first | assumption | apply Dev.busEmit_kept | apply Dev.Kept.canon) | (unfold Dev.Kept; dsimp only) | dsimp only

theorem Dev.mstpRing_kept {pt : Part} {d : Dev} (n : Nat) (on : Bool) (hk : d.Kept pt) :
    (Dev.mstpRing d n on).Kept pt := by
  unfold Dev.mstpRing
  repeat' first | (with_reducible first | assumption | apply Dev.setBus_kept | apply Dev.raise_kept | apply Dev.Kept.canon | refine ite_kept ?_ ?_) | split | (unfold Dev.Kept; dsimp only) | dsimp only

theorem Dev.mstpInit_kept {pt : Part} {d : Dev} (n : Nat) (hk : d.Kept pt) :
    (Dev.mstpInit d n).Kept pt := by
  unfold Dev.mstpInit
  repeat' first | (with_reducible first | assumption | apply Dev.setBus_kept | apply Dev.put_kept | apply Dev.Kept.canon) | (unfold Dev.Kept; dsimp only) | dsimp only

theorem Dev.passToken_kept {pt : Part} {d : Dev} (n : Nat) (hk : d.Kept pt) :
    (Dev.passToken d n).Kept pt := by
  unfold Dev.passToken
  repeat' first | (with_reducible first | assumption | apply Dev.mstpEmit_kept | apply Dev.setBus_kept | apply Dev.put_kept | apply Dev.Kept.canon) | (unfold Dev.Kept; dsimp only) | dsimp only

theorem Dev.pollMaster_kept {pt : Part} {d : Dev} (n : Nat) (a : Nat) (hk : d.Kept pt) :
    (Dev.pollMaster d n a).Kept pt := by
  unfold Dev.pollMaster
  repeat' first | (with_reducible first | assumption | apply Dev.mstpEmit_kept | apply Dev.setBus_kept | apply Dev.Kept.canon) | (unfold Dev.Kept; dsimp only) | dsimp only

theorem Dev.mstpSend_kept {pt : Part} {d : Dev} (n : Nat) (id : Nat) (hk : d.Kept pt) :
    (Dev.mstpSend d n id).Kept pt := by
  unfold Dev.mstpSend
  repeat' first | (with_reducible first | assumption | intro _ | apply Dev.mstpEmit_kept | apply Dev.setBus_kept | apply Dev.Kept.canon) | split | (unfold Dev.Kept; dsimp only) | dsimp only

theorem Dev.mstpUse_kept {pt : Part} {d : Dev} (n : Nat) (a2 : Nat) (hk : d.Kept pt) :
    (Dev.mstpUse d n a2).Kept pt := by
  induction a2 generalizing d with
  | zero => unfold Dev.mstpUse; repeat' first | (with_reducible first | assumption | apply Dev.mstpSend_kept | apply Dev.pollMaster_kept | apply Dev.passToken_kept | apply Dev.setBus_kept | apply Dev.put_kept | apply Dev.Kept.canon | refine ite_kept ?_ ?_) | split | (unfold Dev.Kept; dsimp only) | dsimp only
  | succ n ih => unfold Dev.mstpUse; repeat' first | with_reducible apply ih | (with_reducible first | assumption | apply Dev.mstpSend_kept | apply Dev.pollMaster_kept | apply Dev.passToken_kept | apply Dev.setBus_kept | apply Dev.put_kept | apply Dev.Kept.canon | refine ite_kept ?_ ?_) | split | (unfold Dev.Kept; dsimp only) | dsimp only

theorem Dev.mstpToken_kept {pt : Part} {d : Dev} (n : Nat) (hk : d.Kept pt) :
    (Dev.mstpToken d n).Kept pt := by
  unfold Dev.mstpToken
  repeat' first | (with_reducible first | assumption | apply Dev.mstpUse_kept | apply Dev.setBus_kept | apply Dev.put_kept | apply Dev.Kept.canon) | (unfold Dev.Kept; dsimp only) | dsimp only

theorem Dev.mstpNext_kept {pt : Part} {d : Dev} (n : Nat) (hk : d.Kept pt) :
    (Dev.mstpNext d n).Kept pt := by
  unfold Dev.mstpNext
  repeat' first | (with_reducible first | assumption | apply Dev.mstpUse_kept | apply Dev.setBus_kept | apply Dev.Kept.canon) | (unfold Dev.Kept; dsimp only) | dsimp only

theorem Dev.mstpReplied_kept {pt : Part} {d : Dev} (n : Nat) (act : Dev → Nat → Dev) (hk : d.Kept pt) (hfact : ∀ (x0 : Dev) (x1 : Nat), x0.Kept pt → (act x0 x1).Kept pt) :
    (Dev.mstpReplied d n act).Kept pt := by
  unfold Dev.mstpReplied
  repeat' first | (with_reducible first | assumption | intro _ | apply Dev.mstpNext_kept | apply hfact | apply Dev.Kept.canon) | split | (unfold Dev.Kept; dsimp only) | dsimp only

theorem Dev.mstpTake_kept {pt : Part} {d : Dev} (n : Nat) (kind : Nat) (dest : Nat) (src : Nat) (data : List Nat) (hk : d.Kept pt) :
    (Dev.mstpTake d n kind dest src data).Kept pt := by
  unfold Dev.mstpTake
  repeat' first | (with_reducible first | assumption | apply Dev.mstpEmit_kept | apply Dev.busDeliver_kept | apply Dev.busFraming_kept | apply Dev.setBus_kept | apply Dev.Kept.canon | refine ite_kept ?_ ?_) | split | (unfold Dev.Kept; dsimp only) | dsimp only

theorem Dev.mstpInWait_kept {pt : Part} {d : Dev} (n : Nat) (kind : Nat) (dest : Nat) (src : Nat) (data : List Nat) (hk : d.Kept pt) :
    (Dev.mstpInWait d n kind dest src data).Kept pt := by
  unfold Dev.mstpInWait
  repeat' first | (with_reducible first | assumption | intro _ | apply Dev.mstpTake_kept | apply Dev.mstpReplied_kept | apply Dev.failSend_kept | apply Dev.endSend_kept | apply Dev.busTimeout_kept | apply Dev.setBus_kept | apply Dev.put_kept | apply Dev.Kept.canon | refine ite_kept ?_ ?_) | split | (unfold Dev.Kept; dsimp only) | dsimp only

theorem Dev.mbStart_kept {pt : Part} {d : Dev} (n : Nat) (hk : d.Kept pt) :
    (Dev.mbStart d n).Kept pt := by
  unfold Dev.mbStart
  repeat' first | (with_reducible first | assumption | intro _ | apply Dev.busEmit_kept | apply Dev.setBus_kept | apply Dev.Kept.canon | refine ite_kept ?_ ?_) | split | (unfold Dev.Kept; dsimp only) | dsimp only

theorem Dev.mbEnd_kept {pt : Part} {d : Dev} (n : Nat) (hk : d.Kept pt) :
    (Dev.mbEnd d n).Kept pt := by
  unfold Dev.mbEnd
  repeat' first | (with_reducible first | assumption | apply Dev.mbStart_kept | apply Dev.setBus_kept | apply Dev.Kept.canon) | (unfold Dev.Kept; dsimp only) | dsimp only

theorem Dev.writeVar_kept {pt : Part} {d : Dev} (v : Nat) (w : VW) (hk : d.Kept pt) :
    (Dev.writeVar d v w).Kept pt := by
  unfold Dev.writeVar
  repeat' first | (with_reducible first | assumption | apply Dev.saveWrite_kept | apply Dev.produce_kept | apply Dev.Kept.canon) | (unfold Dev.Kept; dsimp only) | dsimp only

theorem Dev.mbFault_kept {pt : Part} {d : Dev} (n : Nat) (i : Nat) (on : Bool) (cause : Nat) (code : Nat) (hk : d.Kept pt) :
    (Dev.mbFault d n i on cause code).Kept pt := by
  unfold Dev.mbFault
  repeat' first | (with_reducible first | assumption | intro _ | apply Dev.setBus_kept | apply Dev.raiseLimited_kept | apply Dev.Kept.canon | refine ite_kept ?_ ?_) | split | (unfold Dev.Kept; dsimp only) | dsimp only

theorem Dev.entryFailed_kept {pt : Part} {d : Dev} (n : Nat) (i : Nat) (cause : Nat) (hk : d.Kept pt) :
    (Dev.entryFailed d n i cause).Kept pt := by
  unfold Dev.entryFailed
  repeat' first | (with_reducible first | assumption | apply Dev.mbFault_kept | apply Dev.writeVar_kept | apply Dev.setBus_kept | apply Dev.Kept.canon | refine ite_kept ?_ ?_) | split | (unfold Dev.Kept; dsimp only) | dsimp only

theorem Dev.entryFault_kept {pt : Part} {d : Dev} (n : Nat) (i : Nat) (cause : Nat) (code : Nat) (hk : d.Kept pt) :
    (Dev.entryFault d n i cause code).Kept pt := by
  unfold Dev.entryFault
  repeat' first | (with_reducible first | assumption | apply Dev.mbFault_kept | apply Dev.writeVar_kept | apply Dev.Kept.canon) | (unfold Dev.Kept; dsimp only) | dsimp only

theorem Dev.entryResponse_kept {pt : Part} {d : Dev} (n : Nat) (i : Nat) (bytes : List Nat) (hk : d.Kept pt) :
    (Dev.entryResponse d n i bytes).Kept pt := by
  unfold Dev.entryResponse
  repeat' first | (with_reducible first | assumption | apply Dev.entryFault_kept | apply Dev.mbFault_kept | apply Dev.writeVar_kept | apply Dev.setBus_kept | apply Dev.Kept.canon | refine ite_kept ?_ ?_) | split | (unfold Dev.Kept; dsimp only) | dsimp only

theorem Dev.mbFailed_kept {pt : Part} {d : Dev} (n : Nat) (late : Bool) (hk : d.Kept pt) :
    (Dev.mbFailed d n late).Kept pt := by
  unfold Dev.mbFailed
  repeat' first | (with_reducible first | assumption | apply Dev.entryFailed_kept | apply Dev.mbEnd_kept | apply Dev.failSend_kept | apply Dev.busEmit_kept | apply Dev.setBus_kept | apply Dev.Kept.canon | refine ite_kept ?_ ?_) | split | (unfold Dev.Kept; dsimp only) | dsimp only

theorem Dev.plainStart_kept {pt : Part} {d : Dev} (n : Nat) (hk : d.Kept pt) :
    (Dev.plainStart d n).Kept pt := by
  unfold Dev.plainStart
  repeat' first | (with_reducible first | assumption | apply Dev.busEmit_kept | apply Dev.setBus_kept | apply Dev.Kept.canon | refine ite_kept ?_ ?_) | split | (unfold Dev.Kept; dsimp only) | dsimp only

theorem Dev.t1lDown_kept {pt : Part} {d : Dev} (k : Nat) (hk : d.Kept pt) :
    (Dev.t1lDown d k).Kept pt := by
  unfold Dev.t1lDown
  repeat' first | (with_reducible first | assumption | apply Dev.raise_kept | apply Dev.put_kept | apply Dev.Kept.canon | refine ite_kept ?_ ?_) | split | (unfold Dev.Kept; dsimp only) | dsimp only

theorem Dev.mbSent_kept {pt : Part} {d : Dev} (n : Nat) (j : BusJob) (hk : d.Kept pt) :
    (Dev.mbSent d n j).Kept pt := by
  unfold Dev.mbSent
  repeat' first | (with_reducible first | assumption | apply Dev.endSend_kept | apply Dev.setBus_kept | apply Dev.Kept.canon | refine ite_kept ?_ ?_) | split | (unfold Dev.Kept; dsimp only) | dsimp only

theorem Dev.mstpSent_kept {pt : Part} {d : Dev} (n : Nat) (j : BusJob) (hk : d.Kept pt) :
    (Dev.mstpSent d n j).Kept pt := by
  unfold Dev.mstpSent
  repeat' first | (with_reducible first | assumption | apply Dev.mstpNext_kept | apply Dev.endSend_kept | apply Dev.setBus_kept | apply Dev.Kept.canon | refine ite_kept ?_ ?_) | split | (unfold Dev.Kept; dsimp only) | dsimp only

theorem bodyBusSend_kept {pt : Part} (data : List Nat) (id : Nat) (x : Sys2Proof.Desc) {d : Dev} (hk : d.Kept pt) :
    (bodyBusSend data id x d).Kept pt := by
  unfold bodyBusSend
  repeat' first | (with_reducible first | assumption | apply Dev.plainStart_kept | apply Dev.mbStart_kept | apply Dev.mstpEmit_kept | apply Dev.endSend_kept | apply Dev.setBus_kept | apply Dev.fail_kept | apply Dev.Kept.canon | refine ite_kept ?_ ?_) | split | (unfold Dev.Kept; dsimp only) | dsimp only

theorem settleBus_kept {pt : Part} (id : Nat) (r : Rec) {d : Dev} (hk : d.Kept pt) :
    (settleBus id r d).Kept pt := by
  unfold settleBus
  repeat' first | (with_reducible first | assumption | intro _ | apply Dev.failSend_kept | apply Dev.setBus_kept | apply Dev.done_kept | apply Dev.fail_kept | apply Dev.Kept.canon | refine ite_kept ?_ ?_) | split | (unfold Dev.Kept; dsimp only) | dsimp only

theorem Dev.busFlush_kept {pt : Part} {d : Dev} (n : Nat) (all : Bool) (hk : d.Kept pt) :
    (Dev.busFlush d n all).Kept pt := by
  unfold Dev.busFlush
  repeat' first | (with_reducible first | assumption | intro _ | apply Dev.failSend_kept | apply Dev.setBus_kept | apply Dev.fail_kept | apply Dev.Kept.canon | refine ite_kept ?_ ?_ | refine foldl_kept (fun _ _ _ => ?_) ?_ _ | refine foldl_snd2_kept (fun _ _ _ => ?_) ?_ _ | refine foldl_snd_kept (fun _ _ _ => ?_) ?_ _ | refine foldl_fst_kept (fun _ _ _ => ?_) ?_ _) | split | (unfold Dev.Kept; dsimp only) | dsimp only

theorem Dev.busStop_kept {pt : Part} {d : Dev} (hk : d.Kept pt) :
    (Dev.busStop d).Kept pt := by
  unfold Dev.busStop
  repeat' first | (with_reducible first | assumption | intro _ | apply Dev.emit_kept | apply Dev.Kept.canon | refine foldl_kept (fun _ _ _ => ?_) ?_ _ | refine foldl_snd2_kept (fun _ _ _ => ?_) ?_ _ | refine foldl_snd_kept (fun _ _ _ => ?_) ?_ _ | refine foldl_fst_kept (fun _ _ _ => ?_) ?_ _) | (unfold Dev.Kept; dsimp only) | dsimp only

theorem Dev.busRestart_kept {pt : Part} {d : Dev} (n : Nat) (hk : d.Kept pt) :
    (Dev.busRestart d n).Kept pt := by
  unfold Dev.busRestart
  repeat' first | (with_reducible first | assumption | apply Dev.mstpInit_kept | apply Dev.mstpRing_kept | apply Dev.busMark_kept | apply Dev.put_kept | apply Dev.Kept.canon | refine ite_kept ?_ ?_) | split | (unfold Dev.Kept; dsimp only) | dsimp only

theorem Dev.writeBusCfg_kept {pt : Part} {d : Dev} (n : Nat) (v : Nat) (hk : d.Kept pt) :
    (Dev.writeBusCfg d n v).Kept pt := by
  unfold Dev.writeBusCfg
  repeat' first | (with_reducible first | assumption | apply Dev.busRestart_kept | apply Dev.busFlush_kept | apply Dev.busReject_kept | apply Dev.emit_kept | apply Dev.putHost_kept | apply Dev.putRet_kept | apply Dev.Kept.canon | refine ite_kept ?_ ?_) | split | (unfold Dev.Kept; dsimp only) | dsimp only

theorem Dev.busWritten_kept {pt : Part} {d : Dev} (off : Nat) (i : Nat) (hk : d.Kept pt) :
    (Dev.busWritten d off i).Kept pt := by
  unfold Dev.busWritten
  repeat' first | (with_reducible first | assumption | apply Dev.busFlush_kept | apply Dev.t1lDown_kept | apply Dev.mbStart_kept | apply Dev.Kept.canon | refine ite_kept ?_ ?_) | split | (unfold Dev.Kept; dsimp only) | dsimp only

theorem bodyBusPollSet_kept {pt : Part} (id : Nat) (x : Sys2Proof.Desc) {d : Dev} (hk : d.Kept pt) :
    (bodyBusPollSet id x d).Kept pt := by
  unfold bodyBusPollSet
  repeat' first | (with_reducible first | assumption | apply Dev.fail_kept | apply Dev.finish_kept | apply Dev.Kept.canon | refine ite_kept ?_ ?_) | split | (unfold Dev.Kept; dsimp only) | dsimp only

theorem Dev.pollChecked_kept {pt : Part} {d : Dev} (id : Nat) (x : Sys2Proof.Desc) (hk : d.Kept pt) :
    (Dev.pollChecked d id x).Kept pt := by
  unfold Dev.pollChecked
  repeat' first | (with_reducible first | assumption | intro _ | refine Dev.readWords_kept_of ?_ (by assumption) | apply Dev.readWords_kept | apply Dev.fail_kept | apply Dev.finish_kept | apply Dev.Kept.canon | refine ite_kept ?_ ?_) | split | (unfold Dev.Kept; dsimp only) | dsimp only

theorem Dev.setPollList_kept {pt : Part} {d : Dev} (n : Nat) (l : List Nat) (hk : d.Kept pt) :
    (Dev.setPollList d n l).Kept pt := by
  unfold Dev.setPollList
  repeat' first | (with_reducible first | assumption | intro _ | apply Dev.setBus_kept | apply Dev.setBlock_kept | apply Dev.setWriter_kept | apply Dev.Kept.canon | refine foldl_kept (fun _ _ _ => ?_) ?_ _ | refine foldl_snd2_kept (fun _ _ _ => ?_) ?_ _ | refine foldl_snd_kept (fun _ _ _ => ?_) ?_ _ | refine foldl_fst_kept (fun _ _ _ => ?_) ?_ _) | split | (unfold Dev.Kept; dsimp only) | dsimp only

theorem Dev.pollTick_kept {pt : Part} {d : Dev} (hk : d.Kept pt) :
    (Dev.pollTick d).Kept pt := by
  unfold Dev.pollTick
  repeat' first | (with_reducible first | assumption | intro _ | apply Dev.setPollList_kept | apply Dev.done_kept | apply Dev.Kept.canon | refine foldl_kept (fun _ _ _ => ?_) ?_ _ | refine foldl_snd2_kept (fun _ _ _ => ?_) ?_ _ | refine foldl_snd_kept (fun _ _ _ => ?_) ?_ _ | refine foldl_fst_kept (fun _ _ _ => ?_) ?_ _) | (unfold Dev.Kept; dsimp only) | dsimp only

theorem Dev.busThaw_kept {pt : Part} {d : Dev} (hk : d.Kept pt) :
    (Dev.busThaw d).Kept pt := by
  unfold Dev.busThaw
  repeat' first | (with_reducible first | assumption | intro _ | apply Dev.busRestart_kept | apply Dev.busFlush_kept | apply Dev.t1lDown_kept | apply Dev.Kept.canon | refine foldl_kept (fun _ _ _ => ?_) ?_ _ | refine foldl_snd2_kept (fun _ _ _ => ?_) ?_ _ | refine foldl_snd_kept (fun _ _ _ => ?_) ?_ _ | refine foldl_fst_kept (fun _ _ _ => ?_) ?_ _) | (unfold Dev.Kept; dsimp only) | dsimp only

theorem Dev.busStart_kept {pt : Part} {d : Dev} (hk : d.Kept pt) :
    (Dev.busStart d).Kept pt := by
  unfold Dev.busStart
  repeat' first | (with_reducible first | assumption | intro _ | apply Dev.busRestart_kept | apply Dev.setWriter_kept | apply Dev.Kept.canon | refine foldl_kept (fun _ _ _ => ?_) ?_ _ | refine foldl_snd2_kept (fun _ _ _ => ?_) ?_ _ | refine foldl_snd_kept (fun _ _ _ => ?_) ?_ _ | refine foldl_fst_kept (fun _ _ _ => ?_) ?_ _) | (unfold Dev.Kept; dsimp only) | dsimp only

/-! ### Global -/

theorem Dev.writeFld_kept {pt : Part} {d : Dev} (f : Fld) (i : Nat) (v : Nat) (hk : d.Kept pt) :
    (Dev.writeFld d f i v).Kept pt := by
  unfold Dev.writeFld
  repeat' first | (with_reducible first | assumption | apply Dev.put_kept | apply Dev.Kept.canon | refine ite_kept ?_ ?_) | split | (unfold Dev.Kept; dsimp only) | dsimp only

theorem Dev.writeFlds_kept {pt : Part} {d : Dev} (fs : List Fld) (i : Nat) (v : Nat) (hk : d.Kept pt) :
    (Dev.writeFlds d fs i v).Kept pt := by
  unfold Dev.writeFlds
  repeat' first | (with_reducible first | assumption | intro _ | apply Dev.writeFld_kept | apply Dev.markHost_kept | apply Dev.Kept.canon | refine ite_kept ?_ ?_ | refine foldl_kept (fun _ _ _ => ?_) ?_ _ | refine foldl_snd2_kept (fun _ _ _ => ?_) ?_ _ | refine foldl_snd_kept (fun _ _ _ => ?_) ?_ _ | refine foldl_fst_kept (fun _ _ _ => ?_) ?_ _) | split | (unfold Dev.Kept; dsimp only) | dsimp only

theorem Dev.writeBlsel_kept {pt : Part} {d : Dev} (v : Nat) (hk : d.Kept pt) :
    (Dev.writeBlsel d v).Kept pt := by
  unfold Dev.writeBlsel
  repeat' first | (with_reducible first | assumption | apply Dev.putHost_kept | apply Dev.put_kept | apply Dev.Kept.canon | refine ite_kept ?_ ?_) | split | (unfold Dev.Kept; dsimp only) | dsimp only

theorem Dev.writeSeal_kept {pt : Part} {d : Dev} (v : Nat) (hk : d.Kept pt) :
    (Dev.writeSeal d v).Kept pt := by
  unfold Dev.writeSeal
  repeat' first | (with_reducible first | assumption | apply Dev.putHost_kept | apply Dev.put_kept | apply Dev.Kept.canon | refine ite_kept ?_ ?_) | split | (unfold Dev.Kept; dsimp only) | dsimp only

theorem Dev.writeMemerrClr_kept {pt : Part} {d : Dev} (v : Nat) (hk : d.Kept pt) :
    (Dev.writeMemerrClr d v).Kept pt := by
  unfold Dev.writeMemerrClr
  repeat' first | (with_reducible first | assumption | apply Dev.put_kept | apply Dev.Kept.canon | refine ite_kept ?_ ?_) | split | (unfold Dev.Kept; dsimp only) | dsimp only

theorem Dev.bar4Word_kept {pt : Part} {d : Dev} (w : Nat) (hk : d.Kept pt) :
    (Dev.bar4Word d w).2.Kept pt := by
  unfold Dev.bar4Word
  repeat' first | (with_reducible first | assumption | refine Dev.readWord_kept_of ?_ (by assumption) | apply Dev.readWord_kept | apply Canon.setErr | apply Dev.Kept.canon | refine ite_kept ?_ ?_) | split | (unfold Dev.Kept; dsimp only) | dsimp only

theorem Dev.bar4Word_kept_of {pt : Part} {d : Dev} {w : Nat} {r0 : (List Nat × Bool)} {e0 : Dev} (hk : d.Kept pt) (eq : (Dev.bar4Word d w) = (r0, e0)) : e0.Kept pt := by
  have k := @Dev.bar4Word_kept; grind

theorem Dev.bar4Words_kept {pt : Part} {d : Dev} (w : Nat) (a2 : Nat) (hk : d.Kept pt) :
    (Dev.bar4Words d w a2).2.Kept pt := by
  induction a2 generalizing d w with
  | zero => unfold Dev.bar4Words; repeat' first | (with_reducible first | assumption | intro _ | apply Dev.bar4Word_kept | apply Dev.Kept.canon | refine ite_kept ?_ ?_) | split | (unfold Dev.Kept; dsimp only) | dsimp only
  | succ n ih => unfold Dev.bar4Words; repeat' first | with_reducible apply ih | (with_reducible first | assumption | intro _ | apply Dev.bar4Word_kept | apply Dev.Kept.canon | refine ite_kept ?_ ?_) | split | (unfold Dev.Kept; dsimp only) | dsimp only

theorem Dev.bar4Words_kept_of {pt : Part} {d : Dev} {w : Nat} {a2 : Nat} {r0 : List (Nat × Bool)} {e0 : Dev} (hk : d.Kept pt) (eq : (Dev.bar4Words d w a2) = (r0, e0)) : e0.Kept pt := by
  have k := @Dev.bar4Words_kept; grind

end Sys2Proof.Machine
end

