-- ==== Sys2Proof/Laws/KeptField.lean ====
section
/-! SUPPORT. Canonical form and silicon are kept: the operations of the field dies. -/

namespace Sys2Proof.Machine
open Sys2Proof

/-! ### Meas -/

theorem Dev.setConv_kept {pt : Part} {d : Dev} (c : Nat) (x : ConvSt) (hk : d.Kept pt) :
    (Dev.setConv d c x).Kept pt := by
  unfold Dev.setConv
  repeat' first | (with_reducible first | assumption | apply Dev.Kept.canon) | (unfold Dev.Kept; dsimp only) | dsimp only

theorem Dev.beginVisit_kept {pt : Part} {d : Dev} (c : Nat) (v : Visit) (hk : d.Kept pt) :
    (Dev.beginVisit d c v).Kept pt := by
  unfold Dev.beginVisit
  repeat' first | (with_reducible first | assumption | apply Dev.setConv_kept | apply Dev.Kept.canon) | (unfold Dev.Kept; dsimp only) | dsimp only

theorem Dev.restartVisit_kept {pt : Part} {d : Dev} (c : Nat) (hk : d.Kept pt) :
    (Dev.restartVisit d c).Kept pt := by
  unfold Dev.restartVisit
  repeat' first | (with_reducible first | assumption | apply Dev.beginVisit_kept | apply Dev.Kept.canon) | split | (unfold Dev.Kept; dsimp only) | dsimp only

theorem Dev.joinPair_kept {pt : Part} {d : Dev} (c : Nat) (hk : d.Kept pt) :
    (Dev.joinPair d c).Kept pt := by
  unfold Dev.joinPair
  repeat' first | (with_reducible first | assumption | apply Dev.setConv_kept | apply Dev.Kept.canon | refine ite_kept ?_ ?_) | split | (unfold Dev.Kept; dsimp only) | dsimp only

theorem Dev.beginPass_kept {pt : Part} {d : Dev} (c : Nat) (hk : d.Kept pt) :
    (Dev.beginPass d c).2.Kept pt := by
  unfold Dev.beginPass
  repeat' first | (with_reducible first | assumption | apply Dev.joinPair_kept | apply Dev.beginVisit_kept | apply Dev.setConv_kept | apply Dev.Kept.canon | refine ite_kept ?_ ?_) | split | (unfold Dev.Kept; dsimp only) | dsimp only

theorem Dev.beginPass_kept_of {pt : Part} {d : Dev} {c : Nat} {r0 : Bool} {e0 : Dev} (hk : d.Kept pt) (eq : (Dev.beginPass d c) = (r0, e0)) : e0.Kept pt := by
  have k := @Dev.beginPass_kept; grind

theorem Dev.endPass_kept {pt : Part} {d : Dev} (c : Nat) (again : Bool) (hk : d.Kept pt) :
    (Dev.endPass d c again).Kept pt := by
  unfold Dev.endPass
  repeat' first | (with_reducible first | assumption | intro _ | apply Dev.beginPass_kept | apply Dev.setConv_kept | apply Dev.wrapUp_kept | apply Dev.Kept.canon | refine ite_kept ?_ ?_) | split | (unfold Dev.Kept; dsimp only) | dsimp only

theorem Dev.putMeas_kept {pt : Part} {d : Dev} (h : Nat) (w : VW) (hk : d.Kept pt) :
    (Dev.putMeas d h w).Kept pt := by
  unfold Dev.putMeas
  repeat' first | (with_reducible first | assumption | apply Dev.Kept.canon | refine ite_kept ?_ ?_) | split | (unfold Dev.Kept; dsimp only) | dsimp only

theorem Dev.uiFaultEvent_kept {pt : Part} {d : Dev} (ch : Nat) (was : Bool) (now : Bool) (v : Int) (cause : Nat) (hk : d.Kept pt) :
    (Dev.uiFaultEvent d ch was now v cause).Kept pt := by
  unfold Dev.uiFaultEvent
  repeat' first | (with_reducible first | assumption | apply Dev.dieRaise_kept | apply Dev.Kept.canon | refine ite_kept ?_ ?_) | split | (unfold Dev.Kept; dsimp only) | dsimp only

theorem Dev.updateChannel_kept {pt : Part} {d : Dev} (ch : Nat) (v : Int) (status : Nat) (cause : Nat) (slotP1 : Nat) (hk : d.Kept pt) :
    (Dev.updateChannel d ch v status cause slotP1).Kept pt := by
  unfold Dev.updateChannel
  repeat' first | (with_reducible first | assumption | apply Dev.uiFaultEvent_kept | apply Dev.putMeas_kept | apply Dev.Kept.canon) | (unfold Dev.Kept; dsimp only) | dsimp only

theorem Dev.keepContact_kept {pt : Part} {d : Dev} (ch : Nat) (input : Int) (hk : d.Kept pt) :
    (Dev.keepContact d ch input).Kept pt := by
  unfold Dev.keepContact
  repeat' first | (with_reducible first | assumption | apply Dev.Kept.canon | refine ite_kept ?_ ?_) | split | (unfold Dev.Kept; dsimp only) | dsimp only

theorem Dev.writeSlot_kept {pt : Part} {d : Dev} (n : Nat) (v : Int) (status : Nat) (remain : Nat) (hk : d.Kept pt) :
    (Dev.writeSlot d n v status remain).Kept pt := by
  unfold Dev.writeSlot
  repeat' first | (with_reducible first | assumption | apply Dev.putMeas_kept | apply Dev.Kept.canon) | (unfold Dev.Kept; dsimp only) | dsimp only

theorem Dev.countOpened_kept {pt : Part} {d : Dev} (c : Nat) (ch : Nat) (hk : d.Kept pt) :
    (Dev.countOpened d c ch).Kept pt := by
  unfold Dev.countOpened
  repeat' first | (with_reducible first | assumption | intro _ | apply Dev.Kept.canon) | (unfold Dev.Kept; dsimp only) | dsimp only

theorem Dev.nextVisit_kept {pt : Part} {d : Dev} (c : Nat) (e : Nat) (hk : d.Kept pt) :
    (Dev.nextVisit d c e).Kept pt := by
  unfold Dev.nextVisit
  repeat' first | (with_reducible first | assumption | apply Dev.endPass_kept | apply Dev.beginVisit_kept | apply Dev.setConv_kept | apply Dev.Kept.canon | refine ite_kept ?_ ?_) | split | (unfold Dev.Kept; dsimp only) | dsimp only

theorem Dev.afterOutput_kept {pt : Part} {d : Dev} (c : Nat) (v : Visit) (hk : d.Kept pt) :
    (Dev.afterOutput d c v).Kept pt := by
  unfold Dev.afterOutput
  repeat' first | (with_reducible first | assumption | apply Dev.nextVisit_kept | apply Dev.Kept.canon | refine ite_kept ?_ ?_) | split | (unfold Dev.Kept; dsimp only) | dsimp only

theorem Dev.dropUrgent_kept {pt : Part} {d : Dev} (c : Nat) (o : UrgentOrigin) (hk : d.Kept pt) :
    (Dev.dropUrgent d c o).Kept pt := by
  unfold Dev.dropUrgent
  repeat' first | (with_reducible first | assumption | apply Dev.setConv_kept | apply Dev.dieRaise_kept | apply Dev.Kept.canon) | split | (unfold Dev.Kept; dsimp only) | dsimp only

theorem Dev.putUrgent_kept {pt : Part} {d : Dev} (c : Nat) (u : Urgent) (hk : d.Kept pt) :
    (Dev.putUrgent d c u).Kept pt := by
  unfold Dev.putUrgent
  repeat' first | (with_reducible first | assumption | apply Dev.setConv_kept | apply Dev.Kept.canon) | (unfold Dev.Kept; dsimp only) | dsimp only

theorem Dev.askUrgent_kept {pt : Part} {d : Dev} (c : Nat) (u : Urgent) (hk : d.Kept pt) :
    (Dev.askUrgent d c u).Kept pt := by
  unfold Dev.askUrgent
  repeat' first | (with_reducible first | assumption | apply Dev.post_kept | apply Dev.Kept.canon) | (unfold Dev.Kept; dsimp only) | dsimp only

theorem Dev.issueUrgent_kept {pt : Part} {d : Dev} (c : Nat) (u : Urgent) (hk : d.Kept pt) :
    (Dev.issueUrgent d c u).Kept pt := by
  unfold Dev.issueUrgent
  repeat' first | (with_reducible first | assumption | apply Dev.putUrgent_kept | apply Dev.dropUrgent_kept | apply Dev.Kept.canon | refine ite_kept ?_ ?_) | split | (unfold Dev.Kept; dsimp only) | dsimp only

theorem bodyMeasUrgent_kept {pt : Part} (id : Nat) (x : Sys2Proof.Desc) {d : Dev} (hk : d.Kept pt) :
    (bodyMeasUrgent id x d).Kept pt := by
  unfold bodyMeasUrgent
  repeat' first | (with_reducible first | assumption | apply Dev.post_kept | apply Dev.fail_kept | apply Dev.Kept.canon | refine ite_kept ?_ ?_) | split | (unfold Dev.Kept; dsimp only) | dsimp only

theorem Dev.applyMeasUrgent_kept {pt : Part} {d : Dev} (id : Nat) (x : Sys2Proof.Desc) (hk : d.Kept pt) :
    (Dev.applyMeasUrgent d id x).Kept pt := by
  unfold Dev.applyMeasUrgent
  repeat' first | (with_reducible first | assumption | apply Dev.putUrgent_kept | apply Dev.fail_kept | apply Dev.Kept.canon | refine ite_kept ?_ ?_) | split | (unfold Dev.Kept; dsimp only) | dsimp only

theorem Dev.endUrgent_kept {pt : Part} {d : Dev} (c : Nat) (hk : d.Kept pt) :
    (Dev.endUrgent d c).Kept pt := by
  unfold Dev.endUrgent
  repeat' first | (with_reducible first | assumption | apply Dev.restartVisit_kept | apply Dev.setConv_kept | apply Dev.Kept.canon) | split | (unfold Dev.Kept; dsimp only) | dsimp only

theorem Dev.flushUrgent_kept {pt : Part} {d : Dev} (c : Nat) (hk : d.Kept pt) :
    (Dev.flushUrgent d c).Kept pt := by
  unfold Dev.flushUrgent
  repeat' first | (with_reducible first | assumption | intro _ | apply Dev.dropUrgent_kept | apply Dev.setConv_kept | apply Dev.fail_kept | apply Dev.Kept.canon | refine foldl_kept (fun _ _ _ => ?_) ?_ _ | refine foldl_snd2_kept (fun _ _ _ => ?_) ?_ _ | refine foldl_snd_kept (fun _ _ _ => ?_) ?_ _ | refine foldl_fst_kept (fun _ _ _ => ?_) ?_ _) | split | (unfold Dev.Kept; dsimp only) | dsimp only

theorem Dev.nextCal_kept {pt : Part} {d : Dev} (k : Nat) (hk : d.Kept pt) :
    (Dev.nextCal d k).Kept pt := by
  unfold Dev.nextCal
  repeat' first | (with_reducible first | assumption | apply Dev.flushUrgent_kept | apply Dev.setConv_kept | apply Dev.Kept.canon | refine ite_kept ?_ ?_) | split | (unfold Dev.Kept; dsimp only) | dsimp only

theorem Dev.queueCal_kept {pt : Part} {d : Dev} (k : Nat) (mask : Nat) (cause : Nat) (hk : d.Kept pt) :
    (Dev.queueCal d k mask cause).Kept pt := by
  unfold Dev.queueCal
  repeat' first | (with_reducible first | assumption | intro _ | apply Dev.nextCal_kept | apply Dev.setConv_kept | apply Dev.Kept.canon | refine ite_kept ?_ ?_ | refine foldl_kept (fun _ _ _ => ?_) ?_ _ | refine foldl_snd2_kept (fun _ _ _ => ?_) ?_ _ | refine foldl_snd_kept (fun _ _ _ => ?_) ?_ _ | refine foldl_fst_kept (fun _ _ _ => ?_) ?_ _) | split | (unfold Dev.Kept; dsimp only) | dsimp only

theorem Dev.calAll_kept {pt : Part} {d : Dev} (cause : Nat) (hk : d.Kept pt) :
    (Dev.calAll d cause).Kept pt := by
  unfold Dev.calAll
  repeat' first | (with_reducible first | assumption | intro _ | apply Dev.post_kept | apply Dev.Kept.canon | refine ite_kept ?_ ?_ | refine foldl_kept (fun _ _ _ => ?_) ?_ _ | refine foldl_snd2_kept (fun _ _ _ => ?_) ?_ _ | refine foldl_snd_kept (fun _ _ _ => ?_) ?_ _ | refine foldl_fst_kept (fun _ _ _ => ?_) ?_ _) | split | (unfold Dev.Kept; dsimp only) | dsimp only

theorem Dev.selfTest_kept {pt : Part} {d : Dev} (c : Nat) (vs : List Int) (hk : d.Kept pt) :
    (Dev.selfTest d c vs).Kept pt := by
  unfold Dev.selfTest
  repeat' first | (with_reducible first | assumption | intro _ | apply Dev.dieRaise_kept | apply Dev.Kept.canon | refine ite_kept ?_ ?_ | refine foldl_kept (fun _ _ _ => ?_) ?_ _ | refine foldl_snd2_kept (fun _ _ _ => ?_) ?_ _ | refine foldl_snd_kept (fun _ _ _ => ?_) ?_ _ | refine foldl_fst_kept (fun _ _ _ => ?_) ?_ _) | split | (unfold Dev.Kept; dsimp only) | dsimp only

theorem Dev.startTests_kept {pt : Part} {d : Dev} (k : Nat) (ts : List (Nat × List Int)) (hk : d.Kept pt) :
    (Dev.startTests d k ts).Kept pt := by
  unfold Dev.startTests
  repeat' first | (with_reducible first | assumption | intro _ | apply Dev.selfTest_kept | apply Dev.Kept.canon | refine ite_kept ?_ ?_ | refine foldl_kept (fun _ _ _ => ?_) ?_ _ | refine foldl_snd2_kept (fun _ _ _ => ?_) ?_ _ | refine foldl_snd_kept (fun _ _ _ => ?_) ?_ _ | refine foldl_fst_kept (fun _ _ _ => ?_) ?_ _) | split | (unfold Dev.Kept; dsimp only) | dsimp only

theorem Dev.calCommitted_kept {pt : Part} {d : Dev} (c : Nat) (hk : d.Kept pt) :
    (Dev.calCommitted d c).Kept pt := by
  unfold Dev.calCommitted
  repeat' first | (with_reducible first | assumption | intro _ | apply Dev.done_kept | apply Dev.Kept.canon | refine ite_kept ?_ ?_ | refine foldl_kept (fun _ _ _ => ?_) ?_ _ | refine foldl_snd2_kept (fun _ _ _ => ?_) ?_ _ | refine foldl_snd_kept (fun _ _ _ => ?_) ?_ _ | refine foldl_fst_kept (fun _ _ _ => ?_) ?_ _) | split | (unfold Dev.Kept; dsimp only) | dsimp only

theorem bodyMeasCal_kept {pt : Part} (id : Nat) (x : Sys2Proof.Desc) {d : Dev} (hk : d.Kept pt) :
    (bodyMeasCal id x d).Kept pt := by
  unfold bodyMeasCal
  repeat' first | (with_reducible first | assumption | intro _ | apply Dev.post_kept | apply Dev.fail_kept | apply Dev.Kept.canon | refine ite_kept ?_ ?_ | refine foldl_kept (fun _ _ _ => ?_) ?_ _ | refine foldl_snd2_kept (fun _ _ _ => ?_) ?_ _ | refine foldl_snd_kept (fun _ _ _ => ?_) ?_ _ | refine foldl_fst_kept (fun _ _ _ => ?_) ?_ _) | split | (unfold Dev.Kept; dsimp only) | dsimp only

theorem Dev.markCapture_kept {pt : Part} {d : Dev} (g : Nat) (b : Bool) (hk : d.Kept pt) :
    (Dev.markCapture d g b).Kept pt := by
  unfold Dev.markCapture
  repeat' first | (with_reducible first | assumption | intro _ | apply Dev.setConv_kept | apply Dev.Kept.canon | refine ite_kept ?_ ?_ | refine foldl_kept (fun _ _ _ => ?_) ?_ _ | refine foldl_snd2_kept (fun _ _ _ => ?_) ?_ _ | refine foldl_snd_kept (fun _ _ _ => ?_) ?_ _ | refine foldl_fst_kept (fun _ _ _ => ?_) ?_ _) | split | (unfold Dev.Kept; dsimp only) | dsimp only

theorem bodyMeasCapture_kept {pt : Part} (id : Nat) (x : Sys2Proof.Desc) {d : Dev} (hk : d.Kept pt) :
    (bodyMeasCapture id x d).Kept pt := by
  unfold bodyMeasCapture
  repeat' first | (with_reducible first | assumption | intro _ | apply Dev.markCapture_kept | apply Dev.fail_kept | apply Dev.Kept.canon | refine ite_kept ?_ ?_) | split | (unfold Dev.Kept; dsimp only) | dsimp only

theorem Dev.setCap_kept {pt : Part} {d : Dev} (g : Nat) (f : CapOp → CapOp) (hk : d.Kept pt) :
    (Dev.setCap d g f).Kept pt := by
  unfold Dev.setCap
  repeat' first | (with_reducible first | assumption | intro _ | apply Dev.Kept.canon | refine ite_kept ?_ ?_) | split | (unfold Dev.Kept; dsimp only) | dsimp only

theorem Dev.capAdvance_kept {pt : Part} {d : Dev} (k : Nat) (hk : d.Kept pt) :
    (Dev.capAdvance d k).Kept pt := by
  unfold Dev.capAdvance
  repeat' first | (with_reducible first | assumption | intro _ | apply Dev.setCap_kept | apply Dev.Kept.canon | refine ite_kept ?_ ?_) | split | (unfold Dev.Kept; dsimp only) | dsimp only

theorem Dev.capTake_kept {pt : Part} {d : Dev} (chunk : List (Nat × Nat)) (hk : d.Kept pt) :
    (Dev.capTake d chunk).Kept pt := by
  unfold Dev.capTake
  repeat' first | (with_reducible first | assumption | intro _ | apply Dev.memWrite_kept | apply Dev.Kept.canon | refine foldl_kept (fun _ _ _ => ?_) ?_ _ | refine foldl_snd2_kept (fun _ _ _ => ?_) ?_ _ | refine foldl_snd_kept (fun _ _ _ => ?_) ?_ _ | refine foldl_fst_kept (fun _ _ _ => ?_) ?_ _) | (unfold Dev.Kept; dsimp only) | dsimp only

theorem Dev.dropCap_kept {pt : Part} {d : Dev} (o : CapOp) (hk : d.Kept pt) :
    (Dev.dropCap d o).Kept pt := by
  unfold Dev.dropCap
  repeat' first | (with_reducible first | assumption | intro _ | apply Dev.markCapture_kept | apply Dev.Kept.canon) | (unfold Dev.Kept; dsimp only) | dsimp only

theorem Dev.stopCalDie_kept {pt : Part} {d : Dev} (k : Nat) (mask : Nat) (hk : d.Kept pt) :
    (Dev.stopCalDie d k mask).Kept pt := by
  unfold Dev.stopCalDie
  repeat' first | (with_reducible first | assumption | intro _ | apply Dev.nextCal_kept | apply Dev.restartVisit_kept | apply Dev.setConv_kept | apply Dev.Kept.canon | refine ite_kept ?_ ?_ | refine foldl_kept (fun _ _ _ => ?_) ?_ _ | refine foldl_snd2_kept (fun _ _ _ => ?_) ?_ _ | refine foldl_snd_kept (fun _ _ _ => ?_) ?_ _ | refine foldl_fst_kept (fun _ _ _ => ?_) ?_ _) | split | (unfold Dev.Kept; dsimp only) | dsimp only

theorem Dev.endCal_kept {pt : Part} {d : Dev} (o : CalOp) (hk : d.Kept pt) :
    (Dev.endCal d o).Kept pt := by
  unfold Dev.endCal
  repeat' first | (with_reducible first | assumption | intro _ | apply Dev.finish_kept | apply Dev.Kept.canon) | (unfold Dev.Kept; dsimp only) | dsimp only

theorem Dev.stopCapDie_kept {pt : Part} {d : Dev} (k : Nat) (o : CapOp) (hk : d.Kept pt) :
    (Dev.stopCapDie d k o).Kept pt := by
  unfold Dev.stopCapDie
  repeat' first | (with_reducible first | assumption | intro _ | apply Dev.setCap_kept | apply Dev.setConv_kept | apply Dev.Kept.canon | refine ite_kept ?_ ?_ | refine foldl_kept (fun _ _ _ => ?_) ?_ _ | refine foldl_snd2_kept (fun _ _ _ => ?_) ?_ _ | refine foldl_snd_kept (fun _ _ _ => ?_) ?_ _ | refine foldl_fst_kept (fun _ _ _ => ?_) ?_ _) | split | (unfold Dev.Kept; dsimp only) | dsimp only

theorem Dev.stopUrgent_kept {pt : Part} {d : Dev} (id : Nat) (c : Nat) (hk : d.Kept pt) :
    (Dev.stopUrgent d id c).Kept pt := by
  unfold Dev.stopUrgent
  repeat' first | (with_reducible first | assumption | intro _ | apply Dev.endUrgent_kept | apply Dev.setConv_kept | apply Dev.Kept.canon | refine ite_kept ?_ ?_ | refine foldl_kept (fun _ _ _ => ?_) ?_ _ | refine foldl_snd2_kept (fun _ _ _ => ?_) ?_ _ | refine foldl_snd_kept (fun _ _ _ => ?_) ?_ _ | refine foldl_fst_kept (fun _ _ _ => ?_) ?_ _) | split | (unfold Dev.Kept; dsimp only) | dsimp only

theorem settleMeas_kept {pt : Part} (id : Nat) (r : Rec) {d : Dev} (hk : d.Kept pt) :
    (settleMeas id r d).Kept pt := by
  unfold settleMeas
  repeat' first | (with_reducible first | assumption | intro _ | apply Dev.post_kept | apply Dev.Kept.canon | refine foldl_kept (fun _ _ _ => ?_) ?_ _ | refine foldl_snd2_kept (fun _ _ _ => ?_) ?_ _ | refine foldl_snd_kept (fun _ _ _ => ?_) ?_ _ | refine foldl_fst_kept (fun _ _ _ => ?_) ?_ _) | (unfold Dev.Kept; dsimp only) | dsimp only

theorem Dev.stopMeasDie_kept {pt : Part} {d : Dev} (k : Nat) (t : Nat) (hk : d.Kept pt) :
    (Dev.stopMeasDie d k t).Kept pt := by
  unfold Dev.stopMeasDie
  repeat' first | (with_reducible first | assumption | intro _ | apply Dev.stopCapDie_kept | apply Dev.stopCalDie_kept | apply Dev.Kept.canon) | split | (unfold Dev.Kept; dsimp only) | dsimp only

theorem Dev.endMeas_kept {pt : Part} {d : Dev} (id : Nat) (t : Nat) (hk : d.Kept pt) :
    (Dev.endMeas d id t).Kept pt := by
  unfold Dev.endMeas
  repeat' first | (with_reducible first | assumption | intro _ | apply Dev.stopUrgent_kept | apply Dev.endCal_kept | apply Dev.dropCap_kept | apply Dev.done_kept | apply Dev.fail_kept | apply Dev.finish_kept | apply Dev.Kept.canon | refine ite_kept ?_ ?_ | refine foldl_kept (fun _ _ _ => ?_) ?_ _ | refine foldl_snd2_kept (fun _ _ _ => ?_) ?_ _ | refine foldl_snd_kept (fun _ _ _ => ?_) ?_ _ | refine foldl_fst_kept (fun _ _ _ => ?_) ?_ _) | split | (unfold Dev.Kept; dsimp only) | dsimp only

theorem Dev.applyMeasAbort_kept {pt : Part} {d : Dev} (k : Nat) (id : Nat) (t : Nat) (hk : d.Kept pt) :
    (Dev.applyMeasAbort d k id t).Kept pt := by
  unfold Dev.applyMeasAbort
  repeat' first | (with_reducible first | assumption | intro _ | apply Dev.endMeas_kept | apply Dev.stopMeasDie_kept | apply Dev.Kept.canon | refine ite_kept ?_ ?_) | split | (unfold Dev.Kept; dsimp only) | dsimp only

theorem bodyMeasAbort_kept {pt : Part} (id : Nat) (x : Sys2Proof.Desc) {d : Dev} (hk : d.Kept pt) :
    (bodyMeasAbort id x d).Kept pt := by
  unfold bodyMeasAbort
  repeat' first | (with_reducible first | assumption | apply settleMeas_kept | apply Dev.abortDesc_kept | apply Dev.fail_kept | apply Dev.Kept.canon | refine ite_kept ?_ ?_) | split | (unfold Dev.Kept; dsimp only) | dsimp only

theorem Dev.measDip_kept {pt : Part} {d : Dev} (hk : d.Kept pt) :
    (Dev.measDip d).Kept pt := by
  unfold Dev.measDip
  repeat' first | (with_reducible first | assumption | intro _ | apply Dev.stopUrgent_kept | apply Dev.endCal_kept | apply Dev.stopCalDie_kept | apply Dev.dropCap_kept | apply Dev.endUrgent_kept | apply Dev.setConv_kept | apply Dev.fail_kept | apply Dev.finish_kept | apply Dev.Kept.canon | refine foldl_kept (fun _ _ _ => ?_) ?_ _ | refine foldl_snd2_kept (fun _ _ _ => ?_) ?_ _ | refine foldl_snd_kept (fun _ _ _ => ?_) ?_ _ | refine foldl_fst_kept (fun _ _ _ => ?_) ?_ _) | (unfold Dev.Kept; dsimp only) | dsimp only

theorem Dev.measReject_kept {pt : Part} {d : Dev} (hk : d.Kept pt) :
    (Dev.measReject d).Kept pt := by
  unfold Dev.measReject
  repeat' first | (with_reducible first | assumption | apply Dev.put_kept | apply Dev.Kept.canon) | (unfold Dev.Kept; dsimp only) | dsimp only

theorem Dev.writeUiMode_kept {pt : Part} {d : Dev} (u : Nat) (v : Nat) (hk : d.Kept pt) :
    (Dev.writeUiMode d u v).Kept pt := by
  unfold Dev.writeUiMode
  repeat' first | (with_reducible first | assumption | apply Dev.measReject_kept | apply Dev.writeFlds_kept | apply Dev.Kept.canon | refine ite_kept ?_ ?_) | split | (unfold Dev.Kept; dsimp only) | dsimp only

theorem Dev.writeUiGainSh_kept {pt : Part} {d : Dev} (u : Nat) (v : Nat) (hk : d.Kept pt) :
    (Dev.writeUiGainSh d u v).Kept pt := by
  unfold Dev.writeUiGainSh
  repeat' first | (with_reducible first | assumption | apply Dev.writeFlds_kept | apply Dev.dput_kept | apply Dev.Kept.canon | refine ite_kept ?_ ?_) | split | (unfold Dev.Kept; dsimp only) | dsimp only

theorem Dev.writeConvCtrl_kept {pt : Part} {d : Dev} (c : Nat) (v : Nat) (hk : d.Kept pt) :
    (Dev.writeConvCtrl d c v).Kept pt := by
  unfold Dev.writeConvCtrl
  repeat' first | (with_reducible first | assumption | apply Dev.setConv_kept | apply Dev.writeFlds_kept | apply Dev.Kept.canon | refine ite_kept ?_ ?_) | split | (unfold Dev.Kept; dsimp only) | dsimp only

theorem Dev.stopChannel_kept {pt : Part} {d : Dev} (h : Nat) (hk : d.Kept pt) :
    (Dev.stopChannel d h).Kept pt := by
  unfold Dev.stopChannel
  repeat' first | (with_reducible first | assumption | intro _ | apply Dev.endUrgent_kept | apply Dev.nextVisit_kept | apply Dev.setConv_kept | apply Dev.fail_kept | apply Dev.Kept.canon | refine ite_kept ?_ ?_ | refine foldl_kept (fun _ _ _ => ?_) ?_ _ | refine foldl_snd2_kept (fun _ _ _ => ?_) ?_ _ | refine foldl_snd_kept (fun _ _ _ => ?_) ?_ _ | refine foldl_fst_kept (fun _ _ _ => ?_) ?_ _) | split | (unfold Dev.Kept; dsimp only) | dsimp only

theorem Dev.switchUi_kept {pt : Part} {d : Dev} (u : Nat) (tick : Nat) (hk : d.Kept pt) :
    (Dev.switchUi d u tick).Kept pt := by
  unfold Dev.switchUi
  repeat' first | (with_reducible first | assumption | intro _ | apply Dev.stopChannel_kept | apply Dev.uiFaultEvent_kept | apply Dev.dput_kept | apply Dev.Kept.canon | refine ite_kept ?_ ?_) | split | (unfold Dev.Kept; dsimp only) | dsimp only

theorem Dev.switchUis_kept {pt : Part} {d : Dev} (k : Nat) (tick : Nat) (hk : d.Kept pt) :
    (Dev.switchUis d k tick).Kept pt := by
  unfold Dev.switchUis
  repeat' first | (with_reducible first | assumption | intro _ | apply Dev.switchUi_kept | apply Dev.Kept.canon | refine foldl_kept (fun _ _ _ => ?_) ?_ _ | refine foldl_snd2_kept (fun _ _ _ => ?_) ?_ _ | refine foldl_snd_kept (fun _ _ _ => ?_) ?_ _ | refine foldl_fst_kept (fun _ _ _ => ?_) ?_ _) | (unfold Dev.Kept; dsimp only) | dsimp only

theorem Dev.latchMeas_kept {pt : Part} {d : Dev} (k : Nat) (tick : Nat) (hk : d.Kept pt) :
    (Dev.latchMeas d k tick).Kept pt := by
  unfold Dev.latchMeas
  repeat' first | (with_reducible first | assumption | intro _ | apply Dev.nextCal_kept | apply Dev.done_kept | apply Dev.Kept.canon | refine foldl_kept (fun _ _ _ => ?_) ?_ _ | refine foldl_snd2_kept (fun _ _ _ => ?_) ?_ _ | refine foldl_snd_kept (fun _ _ _ => ?_) ?_ _ | refine foldl_fst_kept (fun _ _ _ => ?_) ?_ _) | split | (unfold Dev.Kept; dsimp only) | dsimp only

theorem Dev.takeSlots_kept {pt : Part} {d : Dev} (l : List (Nat × Nat × VW × Nat)) (hk : d.Kept pt) :
    (Dev.takeSlots d l).Kept pt := by
  unfold Dev.takeSlots
  repeat' first | (with_reducible first | assumption | intro _ | apply Dev.put_kept | apply Dev.Kept.canon | refine foldl_kept (fun _ _ _ => ?_) ?_ _ | refine foldl_snd2_kept (fun _ _ _ => ?_) ?_ _ | refine foldl_snd_kept (fun _ _ _ => ?_) ?_ _ | refine foldl_fst_kept (fun _ _ _ => ?_) ?_ _) | (unfold Dev.Kept; dsimp only) | dsimp only

/-! ### Dio -/

theorem Dev.setDi_kept {pt : Part} {d : Dev} (i : Nat) (x : DiSt) (hk : d.Kept pt) :
    (Dev.setDi d i x).Kept pt := by
  unfold Dev.setDi
  repeat' first | (with_reducible first | assumption | apply Dev.Kept.canon) | (unfold Dev.Kept; dsimp only) | dsimp only

theorem Dev.diApplyCfg_kept {pt : Part} {d : Dev} (i : Nat) (hk : d.Kept pt) :
    (Dev.diApplyCfg d i).Kept pt := by
  unfold Dev.diApplyCfg
  repeat' first | (with_reducible first | assumption | intro _ | apply Dev.setDi_kept | apply Dev.Kept.canon | refine ite_kept ?_ ?_) | split | (unfold Dev.Kept; dsimp only) | dsimp only

theorem Dev.setDo_kept {pt : Part} {d : Dev} (o : Nat) (x : DoSt) (hk : d.Kept pt) :
    (Dev.setDo d o x).Kept pt := by
  unfold Dev.setDo
  repeat' first | (with_reducible first | assumption | apply Dev.Kept.canon) | (unfold Dev.Kept; dsimp only) | dsimp only

theorem Dev.doCommand_kept {pt : Part} {d : Dev} (o : Nat) (b : Bool) (hk : d.Kept pt) :
    (Dev.doCommand d o b).Kept pt := by
  unfold Dev.doCommand
  repeat' first | (with_reducible first | assumption | apply Dev.setDo_kept | apply Dev.Kept.canon | refine ite_kept ?_ ?_) | split | (unfold Dev.Kept; dsimp only) | dsimp only

theorem Dev.allDosOff_kept {pt : Part} {d : Dev} (k : Nat) (hk : d.Kept pt) :
    (Dev.allDosOff d k).Kept pt := by
  unfold Dev.allDosOff
  repeat' first | (with_reducible first | assumption | intro _ | apply Dev.setDo_kept | apply Dev.Kept.canon | refine foldl_kept (fun _ _ _ => ?_) ?_ _ | refine foldl_snd2_kept (fun _ _ _ => ?_) ?_ _ | refine foldl_snd_kept (fun _ _ _ => ?_) ?_ _ | refine foldl_fst_kept (fun _ _ _ => ?_) ?_ _) | (unfold Dev.Kept; dsimp only) | dsimp only

theorem Dev.doFault_kept {pt : Part} {d : Dev} (o : Nat) (hk : d.Kept pt) :
    (Dev.doFault d o).Kept pt := by
  unfold Dev.doFault
  repeat' first | (with_reducible first | assumption | apply Dev.dieRaise_kept | apply Dev.Kept.canon | refine ite_kept ?_ ?_) | split | (unfold Dev.Kept; dsimp only) | dsimp only

theorem Dev.doRecovered_kept {pt : Part} {d : Dev} (o : Nat) (left : DoState) (hk : d.Kept pt) :
    (Dev.doRecovered d o left).Kept pt := by
  unfold Dev.doRecovered
  repeat' first | (with_reducible first | assumption | apply Dev.dieRaise_kept | apply Dev.Kept.canon) | (unfold Dev.Kept; dsimp only) | dsimp only

theorem Dev.setFloat_kept {pt : Part} {d : Dev} (f : Nat) (x : FloatSt) (hk : d.Kept pt) :
    (Dev.setFloat d f x).Kept pt := by
  unfold Dev.setFloat
  repeat' first | (with_reducible first | assumption | apply Dev.Kept.canon) | (unfold Dev.Kept; dsimp only) | dsimp only

theorem Dev.floatDrivePair_kept {pt : Part} {d : Dev} (f : Nat) (hk : d.Kept pt) :
    (Dev.floatDrivePair d f).Kept pt := by
  unfold Dev.floatDrivePair
  repeat' first | (with_reducible first | assumption | apply Dev.doCommand_kept | apply Dev.Kept.canon) | (unfold Dev.Kept; dsimp only) | dsimp only

theorem Dev.floatGo_kept {pt : Part} {d : Dev} (f : Nat) (dir : FloatDrive) (hk : d.Kept pt) :
    (Dev.floatGo d f dir).Kept pt := by
  unfold Dev.floatGo
  repeat' first | (with_reducible first | assumption | apply Dev.floatDrivePair_kept | apply Dev.setFloat_kept | apply Dev.Kept.canon | refine ite_kept ?_ ?_) | split | (unfold Dev.Kept; dsimp only) | dsimp only

theorem Dev.floatHalt_kept {pt : Part} {d : Dev} (f : Nat) (hk : d.Kept pt) :
    (Dev.floatHalt d f).Kept pt := by
  unfold Dev.floatHalt
  repeat' first | (with_reducible first | assumption | apply Dev.floatDrivePair_kept | apply Dev.setFloat_kept | apply Dev.Kept.canon) | (unfold Dev.Kept; dsimp only) | dsimp only

theorem Dev.floatTarget_kept {pt : Part} {d : Dev} (f : Nat) (target : Nat) (hk : d.Kept pt) :
    (Dev.floatTarget d f target).Kept pt := by
  unfold Dev.floatTarget
  repeat' first | (with_reducible first | assumption | apply Dev.floatHalt_kept | apply Dev.floatGo_kept | apply Dev.setFloat_kept | apply Dev.Kept.canon | refine ite_kept ?_ ?_) | split | (unfold Dev.Kept; dsimp only) | dsimp only

theorem Dev.floatRun_kept {pt : Part} {d : Dev} (f : Nat) (hk : d.Kept pt) :
    (Dev.floatRun d f).Kept pt := by
  unfold Dev.floatRun
  repeat' first | (with_reducible first | assumption | apply Dev.setFloat_kept | apply Dev.Kept.canon | refine ite_kept ?_ ?_) | split | (unfold Dev.Kept; dsimp only) | dsimp only

theorem Dev.floatFault_kept {pt : Part} {d : Dev} (f : Nat) (cause : Nat) (hk : d.Kept pt) :
    (Dev.floatFault d f cause).Kept pt := by
  unfold Dev.floatFault
  repeat' first | (with_reducible first | assumption | apply Dev.floatHalt_kept | apply Dev.setFloat_kept | apply Dev.dieRaise_kept | apply Dev.Kept.canon) | (unfold Dev.Kept; dsimp only) | dsimp only

theorem Dev.doFaultFloat_kept {pt : Part} {d : Dev} (o : Nat) (hk : d.Kept pt) :
    (Dev.doFaultFloat d o).Kept pt := by
  unfold Dev.doFaultFloat
  repeat' first | (with_reducible first | assumption | apply Dev.floatFault_kept | apply Dev.Kept.canon | refine ite_kept ?_ ?_) | split | (unfold Dev.Kept; dsimp only) | dsimp only

theorem Dev.doMirror_kept {pt : Part} {d : Dev} (o : Nat) (hk : d.Kept pt) :
    (Dev.doMirror d o).Kept pt := by
  unfold Dev.doMirror
  repeat' first | (with_reducible first | assumption | apply Dev.setDo_kept | apply Dev.Kept.canon | refine ite_kept ?_ ?_) | split | (unfold Dev.Kept; dsimp only) | dsimp only

theorem Dev.doTrip_kept {pt : Part} {d : Dev} (o : Nat) (st : DoState) (ma : Nat) (hk : d.Kept pt) :
    (Dev.doTrip d o st ma).Kept pt := by
  unfold Dev.doTrip
  repeat' first | (with_reducible first | assumption | apply Dev.doMirror_kept | apply Dev.doFaultFloat_kept | apply Dev.doFault_kept | apply Dev.setDo_kept | apply Dev.Kept.canon | refine ite_kept ?_ ?_) | split | (unfold Dev.Kept; dsimp only) | dsimp only

theorem Dev.darkOff_kept {pt : Part} {d : Dev} (k : Nat) (i : Nat) (hk : d.Kept pt) :
    (Dev.darkOff d k i).Kept pt := by
  unfold Dev.darkOff
  repeat' first | (with_reducible first | assumption | apply Dev.doCommand_kept | apply Dev.setDo_kept | apply Dev.Kept.canon) | (unfold Dev.Kept; dsimp only) | dsimp only

theorem Dev.darkBegin_kept {pt : Part} {d : Dev} (k : Nat) (i : Nat) (hk : d.Kept pt) :
    (Dev.darkBegin d k i).Kept pt := by
  unfold Dev.darkBegin
  repeat' first | (with_reducible first | assumption | apply Dev.darkOff_kept | apply Dev.setFd_kept | apply Dev.Kept.canon) | (unfold Dev.Kept; dsimp only) | dsimp only

theorem Dev.darkNowEnd_kept {pt : Part} {d : Dev} (id : Nat) (hk : d.Kept pt) :
    (Dev.darkNowEnd d id).Kept pt := by
  unfold Dev.darkNowEnd
  repeat' first | (with_reducible first | assumption | intro _ | apply Dev.done_kept | apply Dev.Kept.canon | refine ite_kept ?_ ?_ | refine foldl_kept (fun _ _ _ => ?_) ?_ _ | refine foldl_snd2_kept (fun _ _ _ => ?_) ?_ _ | refine foldl_snd_kept (fun _ _ _ => ?_) ?_ _ | refine foldl_fst_kept (fun _ _ _ => ?_) ?_ _) | split | (unfold Dev.Kept; dsimp only) | dsimp only

theorem Dev.darkOver_kept {pt : Part} {d : Dev} (k : Nat) (found : Nat) (hk : d.Kept pt) :
    (Dev.darkOver d k found).Kept pt := by
  unfold Dev.darkOver
  repeat' first | (with_reducible first | assumption | apply Dev.setFd_kept | apply Dev.Kept.canon | refine ite_kept ?_ ?_) | split | (unfold Dev.Kept; dsimp only) | dsimp only

theorem Dev.darkRestore_kept {pt : Part} {d : Dev} (o : Nat) (hk : d.Kept pt) :
    (Dev.darkRestore d o).Kept pt := by
  unfold Dev.darkRestore
  repeat' first | (with_reducible first | assumption | apply Dev.doCommand_kept | apply Dev.setDo_kept | apply Dev.Kept.canon) | (unfold Dev.Kept; dsimp only) | dsimp only

theorem Dev.doCross_kept {pt : Part} {d : Dev} (o : Nat) (partner : Nat) (hk : d.Kept pt) :
    (Dev.doCross d o partner).Kept pt := by
  unfold Dev.doCross
  repeat' first | (with_reducible first | assumption | apply Dev.doMirror_kept | apply Dev.doFaultFloat_kept | apply Dev.doFault_kept | apply Dev.setDo_kept | apply Dev.Kept.canon) | (unfold Dev.Kept; dsimp only) | dsimp only

theorem Dev.darkForced_kept {pt : Part} {d : Dev} (o : Nat) (hk : d.Kept pt) :
    (Dev.darkForced d o).Kept pt := by
  unfold Dev.darkForced
  repeat' first | (with_reducible first | assumption | apply Dev.doMirror_kept | apply Dev.doFaultFloat_kept | apply Dev.doFault_kept | apply Dev.setDo_kept | apply Dev.Kept.canon) | (unfold Dev.Kept; dsimp only) | dsimp only

theorem Dev.darkBoundary_kept {pt : Part} {d : Dev} (k : Nat) (hk : d.Kept pt) :
    (Dev.darkBoundary d k).Kept pt := by
  unfold Dev.darkBoundary
  repeat' first | (with_reducible first | assumption | apply Dev.darkNowEnd_kept | apply Dev.darkBegin_kept | apply Dev.darkOff_kept | apply Dev.setFd_kept | apply Dev.Kept.canon | refine ite_kept ?_ ?_) | split | (unfold Dev.Kept; dsimp only) | dsimp only

theorem Dev.darkLeave_kept {pt : Part} {d : Dev} (k : Nat) (hk : d.Kept pt) :
    (Dev.darkLeave d k).Kept pt := by
  unfold Dev.darkLeave
  repeat' first | (with_reducible first | assumption | apply Dev.darkRestore_kept | apply Dev.setFd_kept | apply Dev.Kept.canon) | split | (unfold Dev.Kept; dsimp only) | dsimp only

theorem Dev.applyDio_kept {pt : Part} {d : Dev} (k : Nat) (dos : Nat) (floats : List Nat) (hk : d.Kept pt) :
    (Dev.applyDio d k dos floats).Kept pt := by
  unfold Dev.applyDio
  repeat' first | (with_reducible first | assumption | intro _ | apply Dev.floatTarget_kept | apply Dev.doCommand_kept | apply Dev.Kept.canon | refine ite_kept ?_ ?_ | refine foldl_kept (fun _ _ _ => ?_) ?_ _ | refine foldl_snd2_kept (fun _ _ _ => ?_) ?_ _ | refine foldl_snd_kept (fun _ _ _ => ?_) ?_ _ | refine foldl_fst_kept (fun _ _ _ => ?_) ?_ _) | split | (unfold Dev.Kept; dsimp only) | dsimp only

theorem Dev.floatSafe_kept {pt : Part} {d : Dev} (f : Nat) (dir : FloatDrive) (hk : d.Kept pt) :
    (Dev.floatSafe d f dir).Kept pt := by
  unfold Dev.floatSafe
  repeat' first | (with_reducible first | assumption | apply Dev.floatGo_kept | apply Dev.setFloat_kept | apply Dev.Kept.canon | refine ite_kept ?_ ?_) | split | (unfold Dev.Kept; dsimp only) | dsimp only

theorem Dev.safeDio_kept {pt : Part} {d : Dev} (k : Nat) (hk : d.Kept pt) :
    (Dev.safeDio d k).Kept pt := by
  unfold Dev.safeDio
  repeat' first | (with_reducible first | assumption | intro _ | apply Dev.floatSafe_kept | apply Dev.floatHalt_kept | apply Dev.doCommand_kept | apply Dev.Kept.canon | refine ite_kept ?_ ?_ | refine foldl_kept (fun _ _ _ => ?_) ?_ _ | refine foldl_snd2_kept (fun _ _ _ => ?_) ?_ _ | refine foldl_snd_kept (fun _ _ _ => ?_) ?_ _ | refine foldl_fst_kept (fun _ _ _ => ?_) ?_ _) | split | (unfold Dev.Kept; dsimp only) | dsimp only

theorem Dev.takePage0_kept {pt : Part} {d : Dev} (k : Nat) (p : List Nat) (hk : d.Kept pt) :
    (Dev.takePage0 d k p).Kept pt := by
  unfold Dev.takePage0
  repeat' first | (with_reducible first | assumption | intro _ | apply Dev.put_kept | apply Dev.Kept.canon | refine foldl_kept (fun _ _ _ => ?_) ?_ _ | refine foldl_snd2_kept (fun _ _ _ => ?_) ?_ _ | refine foldl_snd_kept (fun _ _ _ => ?_) ?_ _ | refine foldl_fst_kept (fun _ _ _ => ?_) ?_ _) | (unfold Dev.Kept; dsimp only) | dsimp only

theorem Dev.takePage1_kept {pt : Part} {d : Dev} (k : Nat) (tick : Nat) (p : List Nat) (hk : d.Kept pt) :
    (Dev.takePage1 d k tick p).Kept pt := by
  unfold Dev.takePage1
  repeat' first | (with_reducible first | assumption | intro _ | apply Dev.saveWrite_kept | apply Dev.produce_kept | apply Dev.put_kept | apply Dev.Kept.canon | refine ite_kept ?_ ?_ | refine foldl_kept (fun _ _ _ => ?_) ?_ _ | refine foldl_snd2_kept (fun _ _ _ => ?_) ?_ _ | refine foldl_snd_kept (fun _ _ _ => ?_) ?_ _ | refine foldl_fst_kept (fun _ _ _ => ?_) ?_ _) | split | (unfold Dev.Kept; dsimp only) | dsimp only

theorem bodyDioForce_kept {pt : Part} (id : Nat) (x : Sys2Proof.Desc) {d : Dev} (hk : d.Kept pt) :
    (bodyDioForce id x d).Kept pt := by
  unfold bodyDioForce
  repeat' first | (with_reducible first | assumption | apply Dev.post_kept | apply Dev.fail_kept | apply Dev.Kept.canon | refine ite_kept ?_ ?_) | split | (unfold Dev.Kept; dsimp only) | dsimp only

theorem Dev.applyDioForce_kept {pt : Part} {d : Dev} (id : Nat) (x : Sys2Proof.Desc) (hk : d.Kept pt) :
    (Dev.applyDioForce d id x).Kept pt := by
  unfold Dev.applyDioForce
  repeat' first | (with_reducible first | assumption | apply Dev.setForce_kept | apply Dev.done_kept | apply Dev.Kept.canon | refine ite_kept ?_ ?_) | split | (unfold Dev.Kept; dsimp only) | dsimp only

theorem bodyDoClear_kept {pt : Part} (id : Nat) (x : Sys2Proof.Desc) {d : Dev} (hk : d.Kept pt) :
    (bodyDoClear id x d).Kept pt := by
  unfold bodyDoClear
  repeat' first | (with_reducible first | assumption | apply Dev.post_kept | apply Dev.fail_kept | apply Dev.Kept.canon | refine ite_kept ?_ ?_) | split | (unfold Dev.Kept; dsimp only) | dsimp only

theorem Dev.applyDoClear_kept {pt : Part} {d : Dev} (id : Nat) (x : Sys2Proof.Desc) (hk : d.Kept pt) :
    (Dev.applyDoClear d id x).Kept pt := by
  unfold Dev.applyDoClear
  repeat' first | (with_reducible first | assumption | apply Dev.doCommand_kept | apply Dev.setDo_kept | apply Dev.done_kept | apply Dev.put_kept | apply Dev.Kept.canon) | (unfold Dev.Kept; dsimp only) | dsimp only

theorem bodyDarkTestNow_kept {pt : Part} (id : Nat) (x : Sys2Proof.Desc) {d : Dev} (hk : d.Kept pt) :
    (bodyDarkTestNow id x d).Kept pt := by
  unfold bodyDarkTestNow
  repeat' first | (with_reducible first | assumption | intro _ | apply Dev.post_kept | apply Dev.fail_kept | apply Dev.Kept.canon | refine ite_kept ?_ ?_ | refine foldl_kept (fun _ _ _ => ?_) ?_ _ | refine foldl_snd2_kept (fun _ _ _ => ?_) ?_ _ | refine foldl_snd_kept (fun _ _ _ => ?_) ?_ _ | refine foldl_fst_kept (fun _ _ _ => ?_) ?_ _) | split | (unfold Dev.Kept; dsimp only) | dsimp only

theorem Dev.applyDarkTestNow_kept {pt : Part} {d : Dev} (k : Nat) (id : Nat) (hk : d.Kept pt) :
    (Dev.applyDarkTestNow d k id).Kept pt := by
  unfold Dev.applyDarkTestNow
  repeat' first | (with_reducible first | assumption | apply Dev.setFd_kept | apply Dev.Kept.canon) | (unfold Dev.Kept; dsimp only) | dsimp only

theorem bodyFieldResume_kept {pt : Part} (id : Nat) (x : Sys2Proof.Desc) {d : Dev} (hk : d.Kept pt) :
    (bodyFieldResume id x d).Kept pt := by
  unfold bodyFieldResume
  repeat' first | (with_reducible first | assumption | apply Dev.post_kept | apply Dev.done_kept | apply Dev.fail_kept | apply Dev.Kept.canon | refine ite_kept ?_ ?_) | split | (unfold Dev.Kept; dsimp only) | dsimp only

theorem Dev.applyFieldResume_kept {pt : Part} {d : Dev} (id : Nat) (k : Nat) (hk : d.Kept pt) :
    (Dev.applyFieldResume d id k).Kept pt := by
  unfold Dev.applyFieldResume
  repeat' first | (with_reducible first | assumption | apply Dev.setFd_kept | apply Dev.done_kept | apply Dev.Kept.canon | refine ite_kept ?_ ?_) | split | (unfold Dev.Kept; dsimp only) | dsimp only

/-! ### Pos -/

theorem Dev.setPos_kept {pt : Part} {d : Dev} (p : Nat) (x : PosSt) (hk : d.Kept pt) :
    (Dev.setPos d p x).Kept pt := by
  unfold Dev.setPos
  repeat' first | (with_reducible first | assumption | apply Dev.Kept.canon) | (unfold Dev.Kept; dsimp only) | dsimp only

theorem Dev.setEmu_kept {pt : Part} {d : Dev} (e : Nat) (x : EmuSt) (hk : d.Kept pt) :
    (Dev.setEmu d e x).Kept pt := by
  unfold Dev.setEmu
  repeat' first | (with_reducible first | assumption | apply Dev.Kept.canon) | (unfold Dev.Kept; dsimp only) | dsimp only

theorem Dev.posFaultEvent_kept {pt : Part} {d : Dev} (p : Nat) (on : Bool) (cause : Nat) (hk : d.Kept pt) :
    (Dev.posFaultEvent d p on cause).Kept pt := by
  unfold Dev.posFaultEvent
  repeat' first | (with_reducible first | assumption | apply Dev.dieRaise_kept | apply Dev.Kept.canon | refine ite_kept ?_ ?_) | split | (unfold Dev.Kept; dsimp only) | dsimp only

theorem Dev.posFault_kept {pt : Part} {d : Dev} (p : Nat) (cause : Nat) (hk : d.Kept pt) :
    (Dev.posFault d p cause).Kept pt := by
  unfold Dev.posFault
  repeat' first | (with_reducible first | assumption | apply Dev.posFaultEvent_kept | apply Dev.setPos_kept | apply Dev.Kept.canon | refine ite_kept ?_ ?_) | split | (unfold Dev.Kept; dsimp only) | dsimp only

theorem Dev.posClear_kept {pt : Part} {d : Dev} (p : Nat) (causes : List Nat) (hk : d.Kept pt) :
    (Dev.posClear d p causes).Kept pt := by
  unfold Dev.posClear
  repeat' first | (with_reducible first | assumption | apply Dev.posFaultEvent_kept | apply Dev.setPos_kept | apply Dev.Kept.canon | refine ite_kept ?_ ?_) | split | (unfold Dev.Kept; dsimp only) | dsimp only

theorem Dev.emuAlign_kept {pt : Part} {d : Dev} (e : Nat) (hk : d.Kept pt) :
    (Dev.emuAlign d e).Kept pt := by
  unfold Dev.emuAlign
  repeat' first | (with_reducible first | assumption | apply Dev.setEmu_kept | apply Dev.Kept.canon) | (unfold Dev.Kept; dsimp only) | dsimp only

theorem Dev.emuCheckLag_kept {pt : Part} {d : Dev} (e : Nat) (hk : d.Kept pt) :
    (Dev.emuCheckLag d e).Kept pt := by
  unfold Dev.emuCheckLag
  repeat' first | (with_reducible first | assumption | intro _ | apply Dev.setEmu_kept | apply Dev.dieRaise_kept | apply Dev.Kept.canon | refine ite_kept ?_ ?_) | split | (unfold Dev.Kept; dsimp only) | dsimp only

theorem Dev.emuSense_kept {pt : Part} {d : Dev} (e : Nat) (hk : d.Kept pt) :
    (Dev.emuSense d e).Kept pt := by
  unfold Dev.emuSense
  repeat' first | (with_reducible first | assumption | apply Dev.emuCheckLag_kept | apply Dev.emuAlign_kept | apply Dev.setEmu_kept | apply Dev.Kept.canon | refine ite_kept ?_ ?_) | split | (unfold Dev.Kept; dsimp only) | dsimp only

theorem Dev.emuFollow_kept {pt : Part} {d : Dev} (p : Nat) (hk : d.Kept pt) :
    (Dev.emuFollow d p).Kept pt := by
  unfold Dev.emuFollow
  repeat' first | (with_reducible first | assumption | intro _ | apply Dev.emuSense_kept | apply Dev.Kept.canon | refine foldl_kept (fun _ _ _ => ?_) ?_ _ | refine foldl_snd2_kept (fun _ _ _ => ?_) ?_ _ | refine foldl_snd_kept (fun _ _ _ => ?_) ?_ _ | refine foldl_fst_kept (fun _ _ _ => ?_) ?_ _) | (unfold Dev.Kept; dsimp only) | dsimp only

theorem Dev.emuDrive_kept {pt : Part} {d : Dev} (e : Nat) (hk : d.Kept pt) :
    (Dev.emuDrive d e).Kept pt := by
  unfold Dev.emuDrive
  repeat' first | (with_reducible first | assumption | intro _ | apply Dev.emit_kept | apply Dev.Kept.canon | refine ite_kept ?_ ?_) | split | (unfold Dev.Kept; dsimp only) | dsimp only

theorem Dev.emuRefresh_kept {pt : Part} {d : Dev} (k : Nat) (hk : d.Kept pt) :
    (Dev.emuRefresh d k).Kept pt := by
  unfold Dev.emuRefresh
  repeat' first | (with_reducible first | assumption | intro _ | apply Dev.emuDrive_kept | apply Dev.Kept.canon | refine foldl_kept (fun _ _ _ => ?_) ?_ _ | refine foldl_snd2_kept (fun _ _ _ => ?_) ?_ _ | refine foldl_snd_kept (fun _ _ _ => ?_) ?_ _ | refine foldl_fst_kept (fun _ _ _ => ?_) ?_ _) | (unfold Dev.Kept; dsimp only) | dsimp only

theorem Dev.posEvaluate_kept {pt : Part} {d : Dev} (p : Nat) (hk : d.Kept pt) :
    (Dev.posEvaluate d p).Kept pt := by
  unfold Dev.posEvaluate
  repeat' first | (with_reducible first | assumption | apply Dev.setPos_kept | apply Dev.Kept.canon | refine ite_kept ?_ ?_) | split | (unfold Dev.Kept; dsimp only) | dsimp only

theorem Dev.posCheckBegin_kept {pt : Part} {d : Dev} (p : Nat) (trigger : Nat) (desc : Option Nat) (hk : d.Kept pt) :
    (Dev.posCheckBegin d p trigger desc).Kept pt := by
  unfold Dev.posCheckBegin
  repeat' first | (with_reducible first | assumption | apply Dev.setPos_kept | apply Dev.Kept.canon | refine ite_kept ?_ ?_) | split | (unfold Dev.Kept; dsimp only) | dsimp only

theorem Dev.posCheckRecover_kept {pt : Part} {d : Dev} (p : Nat) (hk : d.Kept pt) :
    (Dev.posCheckRecover d p).Kept pt := by
  unfold Dev.posCheckRecover
  repeat' first | (with_reducible first | assumption | apply Dev.posCheckBegin_kept | apply Dev.Kept.canon | refine ite_kept ?_ ?_) | split | (unfold Dev.Kept; dsimp only) | dsimp only

theorem Dev.posCheckEnd_kept {pt : Part} {d : Dev} (p : Nat) (c : PosCheck) (mismatch : Bool) (counts : Nat) (hk : d.Kept pt) :
    (Dev.posCheckEnd d p c mismatch counts).Kept pt := by
  unfold Dev.posCheckEnd
  repeat' first | (with_reducible first | assumption | apply Dev.posClear_kept | apply Dev.posFault_kept | apply Dev.setPos_kept | apply Dev.dieRaise_kept | apply Dev.finish_kept | apply Dev.Kept.canon | refine ite_kept ?_ ?_) | split | (unfold Dev.Kept; dsimp only) | dsimp only

theorem Dev.posInterval_kept {pt : Part} {d : Dev} (p : Nat) (hk : d.Kept pt) :
    (Dev.posInterval d p).Kept pt := by
  unfold Dev.posInterval
  repeat' first | (with_reducible first | assumption | intro _ | apply Dev.posCheckEnd_kept | apply Dev.setPos_kept | apply Dev.Kept.canon | refine ite_kept ?_ ?_) | split | (unfold Dev.Kept; dsimp only) | dsimp only

theorem Dev.posReadFault_kept {pt : Part} {d : Dev} (p : Nat) (cause : Nat) (hk : d.Kept pt) :
    (Dev.posReadFault d p cause).Kept pt := by
  unfold Dev.posReadFault
  repeat' first | (with_reducible first | assumption | apply Dev.emuFollow_kept | apply Dev.posFault_kept | apply Dev.setPos_kept | apply Dev.Kept.canon | refine ite_kept ?_ ?_) | split | (unfold Dev.Kept; dsimp only) | dsimp only

theorem Dev.posReadGood_kept {pt : Part} {d : Dev} (p : Nat) (w : Nat) (t : Nat) (warning : Bool) (hk : d.Kept pt) :
    (Dev.posReadGood d p w t warning).Kept pt := by
  unfold Dev.posReadGood
  repeat' first | (with_reducible first | assumption | apply Dev.emuFollow_kept | apply Dev.posClear_kept | apply Dev.setPos_kept | apply Dev.dieRaise_kept | apply Dev.Kept.canon | refine ite_kept ?_ ?_) | split | (unfold Dev.Kept; dsimp only) | dsimp only

theorem bodyPosPreset_kept {pt : Part} (id : Nat) (x : Sys2Proof.Desc) {d : Dev} (hk : d.Kept pt) :
    (bodyPosPreset id x d).Kept pt := by
  unfold bodyPosPreset
  repeat' first | (with_reducible first | assumption | apply Dev.post_kept | apply Dev.fail_kept | apply Dev.Kept.canon | refine ite_kept ?_ ?_) | split | (unfold Dev.Kept; dsimp only) | dsimp only

theorem Dev.applyPosPreset_kept {pt : Part} {d : Dev} (id : Nat) (x : Sys2Proof.Desc) (hk : d.Kept pt) :
    (Dev.applyPosPreset d id x).Kept pt := by
  unfold Dev.applyPosPreset
  repeat' first | (with_reducible first | assumption | apply Dev.emuFollow_kept | apply Dev.posClear_kept | apply Dev.setPos_kept | apply Dev.done_kept | apply Dev.fail_kept | apply Dev.Kept.canon | refine ite_kept ?_ ?_) | split | (unfold Dev.Kept; dsimp only) | dsimp only

theorem bodyPosCheck_kept {pt : Part} (id : Nat) (x : Sys2Proof.Desc) {d : Dev} (hk : d.Kept pt) :
    (bodyPosCheck id x d).Kept pt := by
  unfold bodyPosCheck
  repeat' first | (with_reducible first | assumption | apply Dev.post_kept | apply Dev.fail_kept | apply Dev.Kept.canon | refine ite_kept ?_ ?_) | split | (unfold Dev.Kept; dsimp only) | dsimp only

theorem Dev.applyPosCheck_kept {pt : Part} {d : Dev} (id : Nat) (x : Sys2Proof.Desc) (hk : d.Kept pt) :
    (Dev.applyPosCheck d id x).Kept pt := by
  unfold Dev.applyPosCheck
  repeat' first | (with_reducible first | assumption | apply Dev.posCheckBegin_kept | apply Dev.fail_kept | apply Dev.Kept.canon | refine ite_kept ?_ ?_) | split | (unfold Dev.Kept; dsimp only) | dsimp only

theorem bodyEmuForce_kept {pt : Part} (id : Nat) (x : Sys2Proof.Desc) {d : Dev} (hk : d.Kept pt) :
    (bodyEmuForce id x d).Kept pt := by
  unfold bodyEmuForce
  repeat' first | (with_reducible first | assumption | apply Dev.post_kept | apply Dev.fail_kept | apply Dev.Kept.canon | refine ite_kept ?_ ?_) | split | (unfold Dev.Kept; dsimp only) | dsimp only

theorem Dev.emuRealign_kept {pt : Part} {d : Dev} (e : Nat) (hk : d.Kept pt) :
    (Dev.emuRealign d e).Kept pt := by
  unfold Dev.emuRealign
  repeat' first | (with_reducible first | assumption | apply Dev.emuCheckLag_kept | apply Dev.emuAlign_kept | apply Dev.Kept.canon) | (unfold Dev.Kept; dsimp only) | dsimp only

theorem Dev.applyEmuForce_kept {pt : Part} {d : Dev} (id : Nat) (x : Sys2Proof.Desc) (hk : d.Kept pt) :
    (Dev.applyEmuForce d id x).Kept pt := by
  unfold Dev.applyEmuForce
  repeat' first | (with_reducible first | assumption | apply Dev.emuRealign_kept | apply Dev.setForce_kept | apply Dev.done_kept | apply Dev.Kept.canon | refine ite_kept ?_ ?_) | split | (unfold Dev.Kept; dsimp only) | dsimp only

theorem settlePos_kept {pt : Part} (id : Nat) (r : Rec) {d : Dev} (hk : d.Kept pt) :
    (settlePos id r d).Kept pt := by
  unfold settlePos
  repeat' first | (with_reducible first | assumption | apply Dev.post_kept | apply Dev.Kept.canon) | (unfold Dev.Kept; dsimp only) | dsimp only

theorem Dev.applyPosAbort_kept {pt : Part} {d : Dev} (id : Nat) (target : Nat) (hk : d.Kept pt) :
    (Dev.applyPosAbort d id target).Kept pt := by
  unfold Dev.applyPosAbort
  repeat' first | (with_reducible first | assumption | apply Dev.setPos_kept | apply Dev.done_kept | apply Dev.fail_kept | apply Dev.Kept.canon | refine ite_kept ?_ ?_) | split | (unfold Dev.Kept; dsimp only) | dsimp only

theorem bodyPosAbort_kept {pt : Part} (id : Nat) (x : Sys2Proof.Desc) {d : Dev} (hk : d.Kept pt) :
    (bodyPosAbort id x d).Kept pt := by
  unfold bodyPosAbort
  repeat' first | (with_reducible first | assumption | apply settlePos_kept | apply Dev.abortDesc_kept | apply Dev.fail_kept | apply Dev.Kept.canon | refine ite_kept ?_ ?_) | split | (unfold Dev.Kept; dsimp only) | dsimp only

theorem Dev.posRestart_kept {pt : Part} {d : Dev} (p : Nat) (hk : d.Kept pt) :
    (Dev.posRestart d p).Kept pt := by
  unfold Dev.posRestart
  repeat' first | (with_reducible first | assumption | intro _ | apply Dev.posClear_kept | apply Dev.setPos_kept | apply Dev.dieRaise_kept | apply Dev.Kept.canon | refine ite_kept ?_ ?_) | split | (unfold Dev.Kept; dsimp only) | dsimp only

theorem Dev.posApplyWrite_kept {pt : Part} {d : Dev} (off : Nat) (p : Nat) (v : Nat) (plain : Dev → Dev) (hk : d.Kept pt) (hfplain : ∀ (x0 : Dev), x0.Kept pt → (plain x0).Kept pt) :
    (Dev.posApplyWrite d off p v plain).Kept pt := by
  unfold Dev.posApplyWrite
  repeat' first | (with_reducible first | assumption | intro _ | apply Dev.posRestart_kept | apply Dev.emuFollow_kept | apply Dev.setPos_kept | apply Dev.dput_kept | apply hfplain | apply Dev.Kept.canon | refine ite_kept ?_ ?_) | split | (unfold Dev.Kept; dsimp only) | dsimp only

theorem Dev.emuApplyCfg_kept {pt : Part} {d : Dev} (e : Nat) (plain : Dev → Dev) (hk : d.Kept pt) (hfplain : ∀ (x0 : Dev), x0.Kept pt → (plain x0).Kept pt) :
    (Dev.emuApplyCfg d e plain).Kept pt := by
  unfold Dev.emuApplyCfg
  repeat' first | (with_reducible first | assumption | intro _ | apply Dev.emuRealign_kept | apply Dev.emuDrive_kept | apply Dev.emuSense_kept | apply hfplain | apply Dev.Kept.canon | refine ite_kept ?_ ?_) | split | (unfold Dev.Kept; dsimp only) | dsimp only

theorem Dev.posLeaveSafe_kept {pt : Part} {d : Dev} (k : Nat) (hk : d.Kept pt) :
    (Dev.posLeaveSafe d k).Kept pt := by
  unfold Dev.posLeaveSafe
  repeat' first | (with_reducible first | assumption | intro _ | apply Dev.emuRealign_kept | apply Dev.posCheckRecover_kept | apply Dev.Kept.canon | refine foldl_kept (fun _ _ _ => ?_) ?_ _ | refine foldl_snd2_kept (fun _ _ _ => ?_) ?_ _ | refine foldl_snd_kept (fun _ _ _ => ?_) ?_ _ | refine foldl_fst_kept (fun _ _ _ => ?_) ?_ _) | (unfold Dev.Kept; dsimp only) | dsimp only

theorem Dev.posLinksUp_kept {pt : Part} {d : Dev} (hk : d.Kept pt) :
    (Dev.posLinksUp d).Kept pt := by
  unfold Dev.posLinksUp
  repeat' first | (with_reducible first | assumption | intro _ | apply Dev.emuRealign_kept | apply Dev.emuDrive_kept | apply Dev.emuSense_kept | apply Dev.setPos_kept | apply Dev.Kept.canon | refine foldl_kept (fun _ _ _ => ?_) ?_ _ | refine foldl_snd2_kept (fun _ _ _ => ?_) ?_ _ | refine foldl_snd_kept (fun _ _ _ => ?_) ?_ _ | refine foldl_fst_kept (fun _ _ _ => ?_) ?_ _) | (unfold Dev.Kept; dsimp only) | dsimp only

theorem Dev.emuReleased_kept {pt : Part} {d : Dev} (es : List Nat) (hk : d.Kept pt) :
    (Dev.emuReleased d es).Kept pt := by
  unfold Dev.emuReleased
  repeat' first | (with_reducible first | assumption | intro _ | apply Dev.emuRealign_kept | apply Dev.Kept.canon | refine foldl_kept (fun _ _ _ => ?_) ?_ _ | refine foldl_snd2_kept (fun _ _ _ => ?_) ?_ _ | refine foldl_snd_kept (fun _ _ _ => ?_) ?_ _ | refine foldl_fst_kept (fun _ _ _ => ?_) ?_ _) | (unfold Dev.Kept; dsimp only) | dsimp only

theorem Dev.posBoundary_kept {pt : Part} {d : Dev} (k : Nat) (hk : d.Kept pt) :
    (Dev.posBoundary d k).Kept pt := by
  unfold Dev.posBoundary
  repeat' first | (with_reducible first | assumption | intro _ | apply Dev.posEvaluate_kept | apply Dev.Kept.canon | refine foldl_kept (fun _ _ _ => ?_) ?_ _ | refine foldl_snd2_kept (fun _ _ _ => ?_) ?_ _ | refine foldl_snd_kept (fun _ _ _ => ?_) ?_ _ | refine foldl_fst_kept (fun _ _ _ => ?_) ?_ _) | (unfold Dev.Kept; dsimp only) | dsimp only

theorem Dev.takePosPage_kept {pt : Part} {d : Dev} (k : Nat) (tick : Nat) (l : List Nat) (hk : d.Kept pt) :
    (Dev.takePosPage d k tick l).Kept pt := by
  unfold Dev.takePosPage
  repeat' first | (with_reducible first | assumption | intro _ | apply Dev.setPos_kept | apply Dev.produce_kept | apply Dev.put_kept | apply Dev.Kept.canon | refine foldl_kept (fun _ _ _ => ?_) ?_ _ | refine foldl_snd2_kept (fun _ _ _ => ?_) ?_ _ | refine foldl_snd_kept (fun _ _ _ => ?_) ?_ _ | refine foldl_fst_kept (fun _ _ _ => ?_) ?_ _) | (unfold Dev.Kept; dsimp only) | dsimp only

/-! ### FanAo -/

theorem Dev.setFan_kept {pt : Part} {d : Dev} (f : Nat) (x : FanSt) (hk : d.Kept pt) :
    (Dev.setFan d f x).Kept pt := by
  unfold Dev.setFan
  repeat' first | (with_reducible first | assumption | apply Dev.Kept.canon) | (unfold Dev.Kept; dsimp only) | dsimp only

theorem Dev.fanTo_kept {pt : Part} {d : Dev} (f : Nat) (st : FanState) (hk : d.Kept pt) :
    (Dev.fanTo d f st).Kept pt := by
  unfold Dev.fanTo
  repeat' first | (with_reducible first | assumption | apply Dev.setFan_kept | apply Dev.Kept.canon) | (unfold Dev.Kept; dsimp only) | dsimp only

theorem Dev.fanDrive_kept {pt : Part} {d : Dev} (f : Nat) (hk : d.Kept pt) :
    (Dev.fanDrive d f).Kept pt := by
  unfold Dev.fanDrive
  repeat' first | (with_reducible first | assumption | apply Dev.setFan_kept | apply Dev.Kept.canon | refine ite_kept ?_ ?_) | split | (unfold Dev.Kept; dsimp only) | dsimp only

theorem Dev.fanFailedEvent_kept {pt : Part} {d : Dev} (f : Nat) (on : Bool) (cause : Nat) (ma : Nat) (hk : d.Kept pt) :
    (Dev.fanFailedEvent d f on cause ma).Kept pt := by
  unfold Dev.fanFailedEvent
  repeat' first | (with_reducible first | assumption | apply Dev.dieRaise_kept | apply Dev.Kept.canon | refine ite_kept ?_ ?_) | split | (unfold Dev.Kept; dsimp only) | dsimp only

theorem Dev.tachLostEvent_kept {pt : Part} {d : Dev} (f : Nat) (on : Bool) (cause : Nat) (ma : Nat) (hk : d.Kept pt) :
    (Dev.tachLostEvent d f on cause ma).Kept pt := by
  unfold Dev.tachLostEvent
  repeat' first | (with_reducible first | assumption | apply Dev.dieRaise_kept | apply Dev.Kept.canon | refine ite_kept ?_ ?_) | split | (unfold Dev.Kept; dsimp only) | dsimp only

theorem Dev.fanRetry_kept {pt : Part} {d : Dev} (f : Nat) (cause : Nat) (ma : Nat) (hk : d.Kept pt) :
    (Dev.fanRetry d f cause ma).Kept pt := by
  unfold Dev.fanRetry
  repeat' first | (with_reducible first | assumption | apply Dev.fanFailedEvent_kept | apply Dev.fanTo_kept | apply Dev.setFan_kept | apply Dev.dieRaise_kept | apply Dev.Kept.canon | refine ite_kept ?_ ?_) | split | (unfold Dev.Kept; dsimp only) | dsimp only

theorem Dev.fanKick_kept {pt : Part} {d : Dev} (f : Nat) (hk : d.Kept pt) :
    (Dev.fanKick d f).Kept pt := by
  unfold Dev.fanKick
  repeat' first | (with_reducible first | assumption | apply Dev.fanTo_kept | apply Dev.setFan_kept | apply Dev.Kept.canon) | (unfold Dev.Kept; dsimp only) | dsimp only

theorem Dev.fanOff_kept {pt : Part} {d : Dev} (f : Nat) (quiet : Bool) (hk : d.Kept pt) :
    (Dev.fanOff d f quiet).Kept pt := by
  unfold Dev.fanOff
  repeat' first | (with_reducible first | assumption | apply Dev.tachLostEvent_kept | apply Dev.fanFailedEvent_kept | apply Dev.fanTo_kept | apply Dev.Kept.canon | refine ite_kept ?_ ?_) | split | (unfold Dev.Kept; dsimp only) | dsimp only

theorem Dev.fanBoundary_kept {pt : Part} {d : Dev} (f : Nat) (hk : d.Kept pt) :
    (Dev.fanBoundary d f).Kept pt := by
  unfold Dev.fanBoundary
  repeat' first | (with_reducible first | assumption | apply Dev.fanOff_kept | apply Dev.fanKick_kept | apply Dev.tachLostEvent_kept | apply Dev.fanDrive_kept | apply Dev.fanTo_kept | apply Dev.setFan_kept | apply Dev.Kept.canon | refine ite_kept ?_ ?_) | split | (unfold Dev.Kept; dsimp only) | dsimp only

theorem Dev.setAo_kept {pt : Part} {d : Dev} (a : Nat) (x : AoSt) (hk : d.Kept pt) :
    (Dev.setAo d a x).Kept pt := by
  unfold Dev.setAo
  repeat' first | (with_reducible first | assumption | apply Dev.Kept.canon) | (unfold Dev.Kept; dsimp only) | dsimp only

theorem Dev.aoDrive_kept {pt : Part} {d : Dev} (a : Nat) (hk : d.Kept pt) :
    (Dev.aoDrive d a).Kept pt := by
  unfold Dev.aoDrive
  repeat' first | (with_reducible first | assumption | apply Dev.setAo_kept | apply Dev.Kept.canon | refine ite_kept ?_ ?_) | split | (unfold Dev.Kept; dsimp only) | dsimp only

theorem Dev.aoFaultEvent_kept {pt : Part} {d : Dev} (a : Nat) (on : Bool) (hk : d.Kept pt) :
    (Dev.aoFaultEvent d a on).Kept pt := by
  unfold Dev.aoFaultEvent
  repeat' first | (with_reducible first | assumption | apply Dev.dieRaise_kept | apply Dev.Kept.canon | refine ite_kept ?_ ?_) | split | (unfold Dev.Kept; dsimp only) | dsimp only

theorem Dev.applyFanAo_kept {pt : Part} {d : Dev} (k : Nat) (fans : List Nat) (aos : List Nat) (hk : d.Kept pt) :
    (Dev.applyFanAo d k fans aos).Kept pt := by
  unfold Dev.applyFanAo
  repeat' first | (with_reducible first | assumption | intro _ | apply Dev.setAo_kept | apply Dev.setFan_kept | apply Dev.Kept.canon | refine foldl_kept (fun _ _ _ => ?_) ?_ _ | refine foldl_snd2_kept (fun _ _ _ => ?_) ?_ _ | refine foldl_snd_kept (fun _ _ _ => ?_) ?_ _ | refine foldl_fst_kept (fun _ _ _ => ?_) ?_ _) | (unfold Dev.Kept; dsimp only) | dsimp only

theorem Dev.safeFanAo_kept {pt : Part} {d : Dev} (k : Nat) (hk : d.Kept pt) :
    (Dev.safeFanAo d k).Kept pt := by
  unfold Dev.safeFanAo
  repeat' first | (with_reducible first | assumption | intro _ | apply Dev.setAo_kept | apply Dev.setFan_kept | apply Dev.Kept.canon | refine foldl_kept (fun _ _ _ => ?_) ?_ _ | refine foldl_snd2_kept (fun _ _ _ => ?_) ?_ _ | refine foldl_snd_kept (fun _ _ _ => ?_) ?_ _ | refine foldl_fst_kept (fun _ _ _ => ?_) ?_ _) | split | (unfold Dev.Kept; dsimp only) | dsimp only

theorem Dev.fanAoDriven_kept {pt : Part} {d : Dev} (k : Nat) (hk : d.Kept pt) :
    (Dev.fanAoDriven d k).Kept pt := by
  unfold Dev.fanAoDriven
  repeat' first | (with_reducible first | assumption | intro _ | apply Dev.aoDrive_kept | apply Dev.setAo_kept | apply Dev.fanBoundary_kept | apply Dev.Kept.canon | refine ite_kept ?_ ?_ | refine foldl_kept (fun _ _ _ => ?_) ?_ _ | refine foldl_snd2_kept (fun _ _ _ => ?_) ?_ _ | refine foldl_snd_kept (fun _ _ _ => ?_) ?_ _ | refine foldl_fst_kept (fun _ _ _ => ?_) ?_ _) | split | (unfold Dev.Kept; dsimp only) | dsimp only

theorem Dev.fanAoBoundary_kept {pt : Part} {d : Dev} (k : Nat) (aoMv : List (Nat × Nat)) (hk : d.Kept pt) :
    (Dev.fanAoBoundary d k aoMv).Kept pt := by
  unfold Dev.fanAoBoundary
  repeat' first | (with_reducible first | assumption | intro _ | apply Dev.aoDrive_kept | apply Dev.setAo_kept | apply Dev.fanBoundary_kept | apply Dev.Kept.canon | refine ite_kept ?_ ?_ | refine foldl_kept (fun _ _ _ => ?_) ?_ _ | refine foldl_snd2_kept (fun _ _ _ => ?_) ?_ _ | refine foldl_snd_kept (fun _ _ _ => ?_) ?_ _ | refine foldl_fst_kept (fun _ _ _ => ?_) ?_ _) | split | (unfold Dev.Kept; dsimp only) | dsimp only

theorem Dev.noteSpin_kept {pt : Part} {d : Dev} (f : Nat) (tick : Nat) (st : Nat) (hk : d.Kept pt) :
    (Dev.noteSpin d f tick st).Kept pt := by
  unfold Dev.noteSpin
  repeat' first | (with_reducible first | assumption | apply Dev.Kept.canon | refine ite_kept ?_ ?_) | split | (unfold Dev.Kept; dsimp only) | dsimp only

theorem Dev.takePage2_kept {pt : Part} {d : Dev} (k : Nat) (tick : Nat) (l : List Nat) (hk : d.Kept pt) :
    (Dev.takePage2 d k tick l).Kept pt := by
  unfold Dev.takePage2
  repeat' first | (with_reducible first | assumption | intro _ | apply Dev.noteSpin_kept | apply Dev.saveCount_kept | apply Dev.produce_kept | apply Dev.put_kept | apply Dev.Kept.canon | refine ite_kept ?_ ?_ | refine foldl_kept (fun _ _ _ => ?_) ?_ _ | refine foldl_snd2_kept (fun _ _ _ => ?_) ?_ _ | refine foldl_snd_kept (fun _ _ _ => ?_) ?_ _ | refine foldl_fst_kept (fun _ _ _ => ?_) ?_ _) | split | (unfold Dev.Kept; dsimp only) | dsimp only

theorem Dev.takeAoPage_kept {pt : Part} {d : Dev} (k : Nat) (tick : Nat) (l : List Nat) (hk : d.Kept pt) :
    (Dev.takeAoPage d k tick l).Kept pt := by
  unfold Dev.takeAoPage
  repeat' first | (with_reducible first | assumption | intro _ | apply Dev.produce_kept | apply Dev.put_kept | apply Dev.Kept.canon | refine ite_kept ?_ ?_ | refine foldl_kept (fun _ _ _ => ?_) ?_ _ | refine foldl_snd2_kept (fun _ _ _ => ?_) ?_ _ | refine foldl_snd_kept (fun _ _ _ => ?_) ?_ _ | refine foldl_fst_kept (fun _ _ _ => ?_) ?_ _) | split | (unfold Dev.Kept; dsimp only) | dsimp only

theorem Dev.fanCommand_kept {pt : Part} {d : Dev} (f : Nat) (force : Option Nat) (hk : d.Kept pt) :
    (Dev.fanCommand d f force).2.Kept pt := by
  unfold Dev.fanCommand
  repeat' first | (with_reducible first | assumption | apply Dev.touchValue_kept | apply Dev.raiseLimited_kept | apply Dev.put_kept | apply Dev.Kept.canon | refine ite_kept ?_ ?_) | split | (unfold Dev.Kept; dsimp only) | dsimp only

theorem Dev.fanCommand_kept_of {pt : Part} {d : Dev} {f : Nat} {force : Option Nat} {r0 : Nat} {e0 : Dev} (hk : d.Kept pt) (eq : (Dev.fanCommand d f force) = (r0, e0)) : e0.Kept pt := by
  have k := @Dev.fanCommand_kept; grind

theorem bodyFanaoForce_kept {pt : Part} (id : Nat) (x : Sys2Proof.Desc) {d : Dev} (hk : d.Kept pt) :
    (bodyFanaoForce id x d).Kept pt := by
  unfold bodyFanaoForce
  repeat' first | (with_reducible first | assumption | apply Dev.post_kept | apply Dev.fail_kept | apply Dev.Kept.canon | refine ite_kept ?_ ?_) | split | (unfold Dev.Kept; dsimp only) | dsimp only

theorem Dev.applyFanaoForce_kept {pt : Part} {d : Dev} (id : Nat) (x : Sys2Proof.Desc) (hk : d.Kept pt) :
    (Dev.applyFanaoForce d id x).Kept pt := by
  unfold Dev.applyFanaoForce
  repeat' first | (with_reducible first | assumption | apply Dev.setForce_kept | apply Dev.done_kept | apply Dev.Kept.canon | refine ite_kept ?_ ?_) | split | (unfold Dev.Kept; dsimp only) | dsimp only

theorem bodyFanClear_kept {pt : Part} (id : Nat) (x : Sys2Proof.Desc) {d : Dev} (hk : d.Kept pt) :
    (bodyFanClear id x d).Kept pt := by
  unfold bodyFanClear
  repeat' first | (with_reducible first | assumption | apply Dev.post_kept | apply Dev.fail_kept | apply Dev.Kept.canon | refine ite_kept ?_ ?_) | split | (unfold Dev.Kept; dsimp only) | dsimp only

theorem Dev.applyFanClear_kept {pt : Part} {d : Dev} (id : Nat) (x : Sys2Proof.Desc) (hk : d.Kept pt) :
    (Dev.applyFanClear d id x).Kept pt := by
  unfold Dev.applyFanClear
  repeat' first | (with_reducible first | assumption | apply Dev.fanOff_kept | apply Dev.setFan_kept | apply Dev.done_kept | apply Dev.Kept.canon | refine ite_kept ?_ ?_) | split | (unfold Dev.Kept; dsimp only) | dsimp only

/-! ### Envelope -/

theorem Dev.imageRefused_kept {pt : Part} {d : Dev} (kind : Nat) (code : Nat) (op : Nat) (hk : d.Kept pt) :
    (Dev.imageRefused d kind code op).Kept pt := by
  unfold Dev.imageRefused
  repeat' first | (with_reducible first | assumption | apply Dev.raiseCounted_kept | apply Dev.Kept.canon) | (unfold Dev.Kept; dsimp only) | dsimp only

theorem Dev.readImage_kept {pt : Part} {d : Dev} (w : Nat) (len : Nat) (hk : d.Kept pt) :
    (Dev.readImage d w len).2.Kept pt := by
  unfold Dev.readImage
  repeat' first | (with_reducible first | assumption | intro _ | apply Dev.readWords_kept | apply Dev.Kept.canon) | (unfold Dev.Kept; dsimp only) | dsimp only

theorem Dev.readImage_kept_of {pt : Part} {d : Dev} {w : Nat} {len : Nat} {r0 : Option (List Nat)} {e0 : Dev} (hk : d.Kept pt) (eq : (Dev.readImage d w len) = (r0, e0)) : e0.Kept pt := by
  have k := @Dev.readImage_kept; grind

/-! ### Shuttle -/

theorem Dev.setSol_kept {pt : Part} {d : Dev} (c : Nat) (x : SolSt) (hk : d.Kept pt) :
    (Dev.setSol d c x).Kept pt := by
  unfold Dev.setSol
  repeat' first | (with_reducible first | assumption | apply Dev.Kept.canon) | (unfold Dev.Kept; dsimp only) | dsimp only

theorem Dev.setBank_kept {pt : Part} {d : Dev} (b : Nat) (x : BankSt) (hk : d.Kept pt) :
    (Dev.setBank d b x).Kept pt := by
  unfold Dev.setBank
  repeat' first | (with_reducible first | assumption | apply Dev.Kept.canon) | (unfold Dev.Kept; dsimp only) | dsimp only

theorem Dev.setFreeTokens_kept {pt : Part} {d : Dev} (k : Nat) (n : Nat) (hk : d.Kept pt) :
    (Dev.setFreeTokens d k n).Kept pt := by
  unfold Dev.setFreeTokens
  repeat' first | (with_reducible first | assumption | apply Dev.Kept.canon | refine ite_kept ?_ ?_) | split | (unfold Dev.Kept; dsimp only) | dsimp only

theorem Dev.driveBank_kept {pt : Part} {d : Dev} (b : Nat) (hk : d.Kept pt) :
    (Dev.driveBank d b).Kept pt := by
  unfold Dev.driveBank
  repeat' first | (with_reducible first | assumption | intro _ | apply Dev.setBank_kept | apply Dev.Kept.canon) | split | (unfold Dev.Kept; dsimp only) | dsimp only

theorem Dev.solClose_kept {pt : Part} {d : Dev} (c : Nat) (now : Nat) (x : SolSt) (hk : d.Kept pt) :
    (Dev.solClose d c now x).Kept pt := by
  unfold Dev.solClose
  repeat' first | (with_reducible first | assumption | apply Dev.setBank_kept | apply Dev.setSol_kept | apply Dev.Kept.canon | refine ite_kept ?_ ?_) | split | (unfold Dev.Kept; dsimp only) | dsimp only

theorem Dev.endPeak_kept {pt : Part} {d : Dev} (c : Nat) (hk : d.Kept pt) :
    (Dev.endPeak d c).Kept pt := by
  unfold Dev.endPeak
  repeat' first | (with_reducible first | assumption | apply Dev.setFreeTokens_kept | apply Dev.setSol_kept | apply Dev.Kept.canon | refine ite_kept ?_ ?_) | split | (unfold Dev.Kept; dsimp only) | dsimp only

theorem Dev.shotOver_kept {pt : Part} {d : Dev} (id : Nat) (c : Nat) (hk : d.Kept pt) :
    (Dev.shotOver d id c).Kept pt := by
  unfold Dev.shotOver
  repeat' first | (with_reducible first | assumption | intro _ | apply Dev.setWriter_kept | apply Dev.Kept.canon | refine ite_kept ?_ ?_) | split | (unfold Dev.Kept; dsimp only) | dsimp only

theorem Dev.solComplete_kept {pt : Part} {d : Dev} (c : Nat) (st : Status) (outcome : Nat) (hk : d.Kept pt) :
    (Dev.solComplete d c st outcome).Kept pt := by
  unfold Dev.solComplete
  repeat' first | (with_reducible first | assumption | apply Dev.shotOver_kept | apply Dev.finish_kept | apply Dev.Kept.canon) | split | (unfold Dev.Kept; dsimp only) | dsimp only

theorem Dev.solEnd_kept {pt : Part} {d : Dev} (c : Nat) (path : SolPath) (final : SolState) (st : Status) (outcome : Nat) (hk : d.Kept pt) :
    (Dev.solEnd d c path final st outcome).Kept pt := by
  unfold Dev.solEnd
  repeat' first | (with_reducible first | assumption | apply Dev.solComplete_kept | apply Dev.endPeak_kept | apply Dev.driveBank_kept | apply Dev.setSol_kept | apply Dev.Kept.canon | refine ite_kept ?_ ?_) | split | (unfold Dev.Kept; dsimp only) | dsimp only

theorem Dev.solFaultEvent_kept {pt : Part} {d : Dev} (c : Nat) (on : Bool) (cause : Nat) (pc : Nat) (hk : d.Kept pt) :
    (Dev.solFaultEvent d c on cause pc).Kept pt := by
  unfold Dev.solFaultEvent
  repeat' first | (with_reducible first | assumption | apply Dev.dieRaise_kept | apply Dev.Kept.canon | refine ite_kept ?_ ?_) | split | (unfold Dev.Kept; dsimp only) | dsimp only

theorem Dev.solFault_kept {pt : Part} {d : Dev} (c : Nat) (cause : Nat) (path : SolPath) (hk : d.Kept pt) :
    (Dev.solFault d c cause path).Kept pt := by
  unfold Dev.solFault
  repeat' first | (with_reducible first | assumption | apply Dev.solFaultEvent_kept | apply Dev.solEnd_kept | apply Dev.setSol_kept | apply Dev.Kept.canon) | (unfold Dev.Kept; dsimp only) | dsimp only

theorem Dev.solCut_kept {pt : Part} {d : Dev} (c : Nat) (st : Status) (outcome : Nat) (hk : d.Kept pt) :
    (Dev.solCut d c st outcome).Kept pt := by
  unfold Dev.solCut
  repeat' first | (with_reducible first | assumption | apply Dev.solEnd_kept | apply Dev.Kept.canon | refine ite_kept ?_ ?_) | split | (unfold Dev.Kept; dsimp only) | dsimp only

theorem Dev.solChop_kept {pt : Part} {d : Dev} (c : Nat) (mode : Nat) (now : Nat) (next : SolWait) (hk : d.Kept pt) :
    (Dev.solChop d c mode now next).Kept pt := by
  unfold Dev.solChop
  repeat' first | (with_reducible first | assumption | apply Dev.solClose_kept | apply Dev.driveBank_kept | apply Dev.setSol_kept | apply Dev.Kept.canon | refine ite_kept ?_ ?_) | split | (unfold Dev.Kept; dsimp only) | dsimp only

theorem Dev.solStep_kept {pt : Part} {d : Dev} (c : Nat) (now : Nat) (hk : d.Kept pt) :
    (Dev.solStep d c now).1.Kept pt := by
  unfold Dev.solStep
  repeat' first | (with_reducible first | assumption | intro _ | apply Dev.solChop_kept | apply Dev.solFault_kept | apply Dev.solEnd_kept | apply Dev.endPeak_kept | apply Dev.solClose_kept | apply Dev.driveBank_kept | apply Dev.setSol_kept | apply Dev.dieRaise_kept | apply Dev.Kept.canon | refine ite_kept ?_ ?_) | split | (unfold Dev.Kept; dsimp only) | dsimp only

theorem Dev.solStep_kept_of {pt : Part} {d : Dev} {c : Nat} {now : Nat} {e0 : Dev} {r1 : Bool} (hk : d.Kept pt) (eq : (Dev.solStep d c now) = (e0, r1)) : e0.Kept pt := by
  have k := @Dev.solStep_kept; grind

theorem Dev.solRun_kept {pt : Part} (a0 : Nat) {a1 : Dev} (a2 : Nat) (a3 : Nat) (hka1 : a1.Kept pt) :
    (Dev.solRun a0 a1 a2 a3).Kept pt := by
  induction a0 generalizing a1 a2 a3 with
  | zero => unfold Dev.solRun; repeat' first | (with_reducible first | assumption | apply Dev.solStep_kept | apply Dev.solFault_kept | apply Dev.Kept.canon | refine ite_kept ?_ ?_) | split | (unfold Dev.Kept; dsimp only) | dsimp only
  | succ n ih => unfold Dev.solRun; repeat' first | with_reducible apply ih | (with_reducible first | assumption | apply Dev.solStep_kept | apply Dev.solFault_kept | apply Dev.Kept.canon | refine ite_kept ?_ ?_) | split | (unfold Dev.Kept; dsimp only) | dsimp only

theorem Dev.solResume_kept {pt : Part} {d : Dev} (c : Nat) (now : Nat) (hk : d.Kept pt) :
    (Dev.solResume d c now).Kept pt := by
  unfold Dev.solResume
  repeat' first | (with_reducible first | assumption | apply Dev.solRun_kept | apply Dev.setSol_kept | apply Dev.Kept.canon) | (unfold Dev.Kept; dsimp only) | dsimp only

theorem Dev.solStart_kept {pt : Part} {d : Dev} (c : Nat) (slot : Nat) (origin : ShotOrigin) (hk : d.Kept pt) :
    (Dev.solStart d c slot origin).Kept pt := by
  unfold Dev.solStart
  repeat' first | (with_reducible first | assumption | intro _ | apply Dev.solRun_kept | apply Dev.setBank_kept | apply Dev.setSol_kept | apply Dev.saveCount_kept | apply Dev.Kept.canon | refine ite_kept ?_ ?_) | split | (unfold Dev.Kept; dsimp only) | dsimp only

theorem Dev.solRelease_kept {pt : Part} {d : Dev} (c : Nat) (now : Nat) (hk : d.Kept pt) :
    (Dev.solRelease d c now).Kept pt := by
  unfold Dev.solRelease
  repeat' first | (with_reducible first | assumption | apply Dev.solRun_kept | apply Dev.endPeak_kept | apply Dev.setSol_kept | apply Dev.Kept.canon | refine ite_kept ?_ ?_) | split | (unfold Dev.Kept; dsimp only) | dsimp only

theorem Dev.solTtp_kept {pt : Part} {d : Dev} (c : Nat) (now : Nat) (us : Nat) (timeout : Bool) (hk : d.Kept pt) :
    (Dev.solTtp d c now us timeout).Kept pt := by
  unfold Dev.solTtp
  repeat' first | (with_reducible first | assumption | apply Dev.solResume_kept | apply Dev.solFault_kept | apply Dev.solEnd_kept | apply Dev.setSol_kept | apply Dev.dieRaise_kept | apply Dev.Kept.canon | refine ite_kept ?_ ?_) | split | (unfold Dev.Kept; dsimp only) | dsimp only

theorem Dev.solSense_kept {pt : Part} {d : Dev} (c : Nat) (m : Sys2Proof.SolSense) (hk : d.Kept pt) :
    (Dev.solSense d c m).Kept pt := by
  unfold Dev.solSense
  repeat' first | (with_reducible first | assumption | apply Dev.setSol_kept | apply Dev.Kept.canon | refine ite_kept ?_ ?_) | split | (unfold Dev.Kept; dsimp only) | dsimp only

theorem Dev.bankLate_kept {pt : Part} {d : Dev} (b : Nat) (hk : d.Kept pt) :
    (Dev.bankLate d b).Kept pt := by
  unfold Dev.bankLate
  repeat' first | (with_reducible first | assumption | apply Dev.setBank_kept | apply Dev.Kept.canon | refine ite_kept ?_ ?_) | split | (unfold Dev.Kept; dsimp only) | dsimp only

theorem Dev.solSkip_kept {pt : Part} {d : Dev} (c : Nat) (hk : d.Kept pt) :
    (Dev.solSkip d c).Kept pt := by
  unfold Dev.solSkip
  repeat' first | (with_reducible first | assumption | apply Dev.solEnd_kept | apply Dev.setBank_kept | apply Dev.setSol_kept | apply Dev.dieRaise_kept | apply Dev.Kept.canon | refine ite_kept ?_ ?_) | split | (unfold Dev.Kept; dsimp only) | dsimp only

theorem Dev.solLevelShot_kept {pt : Part} {d : Dev} (c : Nat) (hk : d.Kept pt) :
    (Dev.solLevelShot d c).Kept pt := by
  unfold Dev.solLevelShot
  repeat' first | (with_reducible first | assumption | apply Dev.solStart_kept | apply Dev.Kept.canon | refine ite_kept ?_ ?_) | split | (unfold Dev.Kept; dsimp only) | dsimp only

theorem Dev.bankFault_kept {pt : Part} {d : Dev} (b : Nat) (cause : Nat) (ma : Nat) (hk : d.Kept pt) :
    (Dev.bankFault d b cause ma).Kept pt := by
  unfold Dev.bankFault
  repeat' first | (with_reducible first | assumption | intro _ | apply Dev.solCut_kept | apply Dev.setBank_kept | apply Dev.dieRaise_kept | apply Dev.Kept.canon | refine foldl_kept (fun _ _ _ => ?_) ?_ _ | refine foldl_snd2_kept (fun _ _ _ => ?_) ?_ _ | refine foldl_snd_kept (fun _ _ _ => ?_) ?_ _ | refine foldl_fst_kept (fun _ _ _ => ?_) ?_ _) | (unfold Dev.Kept; dsimp only) | dsimp only

theorem Dev.solLevel_kept {pt : Part} {d : Dev} (c : Nat) (level : Bool) (hk : d.Kept pt) :
    (Dev.solLevel d c level).Kept pt := by
  unfold Dev.solLevel
  repeat' first | (with_reducible first | assumption | apply Dev.solRelease_kept | apply Dev.setSol_kept | apply Dev.Kept.canon | refine ite_kept ?_ ?_) | split | (unfold Dev.Kept; dsimp only) | dsimp only

theorem Dev.solStartDue_kept {pt : Part} {d : Dev} (k : Nat) (hk : d.Kept pt) :
    (Dev.solStartDue d k).Kept pt := by
  unfold Dev.solStartDue
  repeat' first | (with_reducible first | assumption | intro _ | apply Dev.solLevelShot_kept | apply Dev.setSol_kept | apply Dev.Kept.canon | refine ite_kept ?_ ?_ | refine foldl_kept (fun _ _ _ => ?_) ?_ _ | refine foldl_snd2_kept (fun _ _ _ => ?_) ?_ _ | refine foldl_snd_kept (fun _ _ _ => ?_) ?_ _ | refine foldl_fst_kept (fun _ _ _ => ?_) ?_ _) | split | (unfold Dev.Kept; dsimp only) | dsimp only

theorem Dev.applySol_kept {pt : Part} {d : Dev} (k : Nat) (sols : List Nat) (hk : d.Kept pt) :
    (Dev.applySol d k sols).Kept pt := by
  unfold Dev.applySol
  repeat' first | (with_reducible first | assumption | intro _ | apply Dev.solLevel_kept | apply Dev.Kept.canon | refine foldl_kept (fun _ _ _ => ?_) ?_ _ | refine foldl_snd2_kept (fun _ _ _ => ?_) ?_ _ | refine foldl_snd_kept (fun _ _ _ => ?_) ?_ _ | refine foldl_fst_kept (fun _ _ _ => ?_) ?_ _) | (unfold Dev.Kept; dsimp only) | dsimp only

theorem Dev.safeSol_kept {pt : Part} {d : Dev} (k : Nat) (hk : d.Kept pt) :
    (Dev.safeSol d k).Kept pt := by
  unfold Dev.safeSol
  repeat' first | (with_reducible first | assumption | intro _ | apply Dev.solCut_kept | apply Dev.setSol_kept | apply Dev.Kept.canon | refine ite_kept ?_ ?_ | refine foldl_kept (fun _ _ _ => ?_) ?_ _ | refine foldl_snd2_kept (fun _ _ _ => ?_) ?_ _ | refine foldl_snd_kept (fun _ _ _ => ?_) ?_ _ | refine foldl_fst_kept (fun _ _ _ => ?_) ?_ _) | split | (unfold Dev.Kept; dsimp only) | dsimp only

theorem Dev.cutSols_kept {pt : Part} {d : Dev} (k : Nat) (hk : d.Kept pt) :
    (Dev.cutSols d k).Kept pt := by
  unfold Dev.cutSols
  repeat' first | (with_reducible first | assumption | intro _ | apply Dev.solCut_kept | apply Dev.setSol_kept | apply Dev.Kept.canon | refine foldl_kept (fun _ _ _ => ?_) ?_ _ | refine foldl_snd2_kept (fun _ _ _ => ?_) ?_ _ | refine foldl_snd_kept (fun _ _ _ => ?_) ?_ _ | refine foldl_fst_kept (fun _ _ _ => ?_) ?_ _) | (unfold Dev.Kept; dsimp only) | dsimp only

theorem Dev.solBoundary_kept {pt : Part} {d : Dev} (k : Nat) (vf24 : Nat) (hotClamps : List Nat) (hotBanks : List Nat) (hk : d.Kept pt) :
    (Dev.solBoundary d k vf24 hotClamps hotBanks).Kept pt := by
  unfold Dev.solBoundary
  repeat' first | (with_reducible first | assumption | intro _ | apply Dev.solStartDue_kept | apply Dev.bankLate_kept | apply Dev.setBank_kept | apply Dev.setSol_kept | apply Dev.Kept.canon | refine ite_kept ?_ ?_ | refine foldl_kept (fun _ _ _ => ?_) ?_ _ | refine foldl_snd2_kept (fun _ _ _ => ?_) ?_ _ | refine foldl_snd_kept (fun _ _ _ => ?_) ?_ _ | refine foldl_fst_kept (fun _ _ _ => ?_) ?_ _) | split | (unfold Dev.Kept; dsimp only) | dsimp only

theorem Dev.tokenAudit_kept {pt : Part} {d : Dev} (k : Nat) (free : Nat) (held : Nat) (hk : d.Kept pt) :
    (Dev.tokenAudit d k free held).Kept pt := by
  unfold Dev.tokenAudit
  repeat' first | (with_reducible first | assumption | apply Dev.logFault_kept | apply Dev.raise_kept | apply Dev.put_kept | apply Dev.Kept.canon | refine ite_kept ?_ ?_) | split | (unfold Dev.Kept; dsimp only) | dsimp only

theorem Dev.takePage3_kept {pt : Part} {d : Dev} (k : Nat) (tick : Nat) (l : List Nat) (hk : d.Kept pt) :
    (Dev.takePage3 d k tick l).Kept pt := by
  unfold Dev.takePage3
  repeat' first | (with_reducible first | assumption | intro _ | apply Dev.tokenAudit_kept | apply Dev.produce_kept | apply Dev.put_kept | apply Dev.Kept.canon | refine ite_kept ?_ ?_ | refine foldl_kept (fun _ _ _ => ?_) ?_ _ | refine foldl_snd2_kept (fun _ _ _ => ?_) ?_ _ | refine foldl_snd_kept (fun _ _ _ => ?_) ?_ _ | refine foldl_fst_kept (fun _ _ _ => ?_) ?_ _) | split | (unfold Dev.Kept; dsimp only) | dsimp only

theorem Dev.takeSolEvent_kept {pt : Part} {d : Dev} (code : Nat) (src : Nat) (time : Nat) (detail : List Nat) (hk : d.Kept pt) :
    (Dev.takeSolEvent d code src time detail).Kept pt := by
  unfold Dev.takeSolEvent
  repeat' first | (with_reducible first | assumption | apply Dev.raiseCounted_kept | apply Dev.raiseAt_kept | apply Dev.bump_kept | apply Dev.put_kept | apply Dev.Kept.canon | refine ite_kept ?_ ?_) | split | (unfold Dev.Kept; dsimp only) | dsimp only

theorem Dev.setLoad_kept {pt : Part} {d : Dev} (b : Nat) (f : LoadOp → LoadOp) (hk : d.Kept pt) :
    (Dev.setLoad d b f).Kept pt := by
  unfold Dev.setLoad
  repeat' first | (with_reducible first | assumption | intro _ | apply Dev.Kept.canon | refine ite_kept ?_ ?_) | split | (unfold Dev.Kept; dsimp only) | dsimp only

theorem Dev.showLoads_kept {pt : Part} {d : Dev} (hk : d.Kept pt) :
    (Dev.showLoads d).Kept pt := by
  unfold Dev.showLoads
  repeat' first | (with_reducible first | assumption | intro _ | apply Dev.put_kept | apply Dev.Kept.canon | refine foldl_kept (fun _ _ _ => ?_) ?_ _ | refine foldl_snd2_kept (fun _ _ _ => ?_) ?_ _ | refine foldl_snd_kept (fun _ _ _ => ?_) ?_ _ | refine foldl_fst_kept (fun _ _ _ => ?_) ?_ _) | (unfold Dev.Kept; dsimp only) | dsimp only

theorem Dev.dropLoad_kept {pt : Part} {d : Dev} (b : Nat) (hk : d.Kept pt) :
    (Dev.dropLoad d b).Kept pt := by
  unfold Dev.dropLoad
  repeat' first | (with_reducible first | assumption | intro _ | apply Dev.showLoads_kept | apply Dev.Kept.canon) | split | (unfold Dev.Kept; dsimp only) | dsimp only

theorem bodyShuttleLoad_kept {pt : Part} (id : Nat) (x : Sys2Proof.Desc) {d : Dev} (hk : d.Kept pt) :
    (bodyShuttleLoad id x d).Kept pt := by
  unfold bodyShuttleLoad
  repeat' first | (with_reducible first | assumption | apply Dev.showLoads_kept | apply Dev.fail_kept | apply Dev.Kept.canon | refine ite_kept ?_ ?_) | split | (unfold Dev.Kept; dsimp only) | dsimp only

theorem Dev.shuttleChecked_kept {pt : Part} {d : Dev} (id : Nat) (x : Sys2Proof.Desc) (hk : d.Kept pt) :
    (Dev.shuttleChecked d id x).Kept pt := by
  unfold Dev.shuttleChecked
  repeat' first | (with_reducible first | assumption | intro _ | apply Dev.dropLoad_kept | apply Dev.setLoad_kept | refine Dev.readImage_kept_of ?_ (by assumption) | apply Dev.readImage_kept | apply Dev.imageRefused_kept | apply Dev.finish_kept | apply Dev.Kept.canon | refine ite_kept ?_ ?_) | split | (unfold Dev.Kept; dsimp only) | dsimp only

theorem Dev.shuttleTick_kept {pt : Part} {d : Dev} (hk : d.Kept pt) :
    (Dev.shuttleTick d).Kept pt := by
  unfold Dev.shuttleTick
  repeat' first | (with_reducible first | assumption | intro _ | apply Dev.setLoad_kept | apply Dev.post_kept | apply Dev.Kept.canon | refine ite_kept ?_ ?_ | refine foldl_kept (fun _ _ _ => ?_) ?_ _ | refine foldl_snd2_kept (fun _ _ _ => ?_) ?_ _ | refine foldl_snd_kept (fun _ _ _ => ?_) ?_ _ | refine foldl_fst_kept (fun _ _ _ => ?_) ?_ _) | split | (unfold Dev.Kept; dsimp only) | dsimp only

theorem Dev.applyCode_kept {pt : Part} {d : Dev} (b : Nat) (w : Nat) (v : Nat) (hk : d.Kept pt) :
    (Dev.applyCode d b w v).Kept pt := by
  unfold Dev.applyCode
  repeat' first | (with_reducible first | assumption | intro _ | apply Dev.setLoad_kept | apply Dev.setBank_kept | apply Dev.Kept.canon | refine ite_kept ?_ ?_) | split | (unfold Dev.Kept; dsimp only) | dsimp only

theorem Dev.shuttleRestore_kept {pt : Part} {d : Dev} (b : Nat) (hk : d.Kept pt) :
    (Dev.shuttleRestore d b).Kept pt := by
  unfold Dev.shuttleRestore
  repeat' first | (with_reducible first | assumption | intro _ | apply Dev.setBank_kept | apply Dev.dput_kept | apply Dev.put_kept | apply Dev.Kept.canon | refine ite_kept ?_ ?_ | refine foldl_kept (fun _ _ _ => ?_) ?_ _ | refine foldl_snd2_kept (fun _ _ _ => ?_) ?_ _ | refine foldl_snd_kept (fun _ _ _ => ?_) ?_ _ | refine foldl_fst_kept (fun _ _ _ => ?_) ?_ _) | split | (unfold Dev.Kept; dsimp only) | dsimp only

theorem Dev.shuttleDip_kept {pt : Part} {d : Dev} (hk : d.Kept pt) :
    (Dev.shuttleDip d).Kept pt := by
  unfold Dev.shuttleDip
  repeat' first | (with_reducible first | assumption | intro _ | apply Dev.dropLoad_kept | apply Dev.fail_kept | apply Dev.Kept.canon | refine foldl_kept (fun _ _ _ => ?_) ?_ _ | refine foldl_snd2_kept (fun _ _ _ => ?_) ?_ _ | refine foldl_snd_kept (fun _ _ _ => ?_) ?_ _ | refine foldl_fst_kept (fun _ _ _ => ?_) ?_ _) | (unfold Dev.Kept; dsimp only) | dsimp only

theorem Dev.postAhead_kept {pt : Part} {d : Dev} (k : Nat) (entry : Mail) (hk : d.Kept pt) :
    (Dev.postAhead d k entry).Kept pt := by
  unfold Dev.postAhead
  repeat' first | (with_reducible first | assumption | intro _ | apply Dev.Kept.canon | refine ite_kept ?_ ?_) | split | (unfold Dev.Kept; dsimp only) | dsimp only

theorem bodySolShot_kept {pt : Part} (id : Nat) (x : Sys2Proof.Desc) {d : Dev} (hk : d.Kept pt) :
    (bodySolShot id x d).Kept pt := by
  unfold bodySolShot
  repeat' first | (with_reducible first | assumption | apply Dev.postAhead_kept | apply Dev.setWriter_kept | apply Dev.fail_kept | apply Dev.Kept.canon | refine ite_kept ?_ ?_) | split | (unfold Dev.Kept; dsimp only) | dsimp only

theorem Dev.applySolShot_kept {pt : Part} {d : Dev} (id : Nat) (x : Sys2Proof.Desc) (hk : d.Kept pt) :
    (Dev.applySolShot d id x).Kept pt := by
  unfold Dev.applySolShot
  repeat' first | (with_reducible first | assumption | intro _ | apply Dev.solStart_kept | apply Dev.shotOver_kept | apply Dev.fail_kept | apply Dev.finish_kept | apply Dev.Kept.canon | refine ite_kept ?_ ?_) | split | (unfold Dev.Kept; dsimp only) | dsimp only

theorem bodySolForce_kept {pt : Part} (id : Nat) (x : Sys2Proof.Desc) {d : Dev} (hk : d.Kept pt) :
    (bodySolForce id x d).Kept pt := by
  unfold bodySolForce
  repeat' first | (with_reducible first | assumption | apply Dev.setForce_kept | apply Dev.done_kept | apply Dev.fail_kept | apply Dev.Kept.canon | refine ite_kept ?_ ?_) | split | (unfold Dev.Kept; dsimp only) | dsimp only

theorem bodySolClear_kept {pt : Part} (id : Nat) (x : Sys2Proof.Desc) {d : Dev} (hk : d.Kept pt) :
    (bodySolClear id x d).Kept pt := by
  unfold bodySolClear
  repeat' first | (with_reducible first | assumption | apply Dev.post_kept | apply Dev.fail_kept | apply Dev.Kept.canon | refine ite_kept ?_ ?_) | split | (unfold Dev.Kept; dsimp only) | dsimp only

theorem Dev.applySolClear_kept {pt : Part} {d : Dev} (id : Nat) (x : Sys2Proof.Desc) (hk : d.Kept pt) :
    (Dev.applySolClear d id x).Kept pt := by
  unfold Dev.applySolClear
  repeat' first | (with_reducible first | assumption | apply Dev.solFaultEvent_kept | apply Dev.setBank_kept | apply Dev.setSol_kept | apply Dev.dieRaise_kept | apply Dev.done_kept | apply Dev.fail_kept | apply Dev.Kept.canon | refine ite_kept ?_ ?_) | split | (unfold Dev.Kept; dsimp only) | dsimp only

theorem settleShuttle_kept {pt : Part} (id : Nat) (r : Rec) {d : Dev} (hk : d.Kept pt) :
    (settleShuttle id r d).Kept pt := by
  unfold settleShuttle
  repeat' first | (with_reducible first | assumption | apply Dev.postAhead_kept | apply Dev.Kept.canon) | (unfold Dev.Kept; dsimp only) | dsimp only

theorem Dev.applyShuttleAbort_kept {pt : Part} {d : Dev} (id : Nat) (target : Nat) (hk : d.Kept pt) :
    (Dev.applyShuttleAbort d id target).Kept pt := by
  unfold Dev.applyShuttleAbort
  repeat' first | (with_reducible first | assumption | apply Dev.dropLoad_kept | apply Dev.solCut_kept | apply Dev.done_kept | apply Dev.fail_kept | apply Dev.Kept.canon | refine ite_kept ?_ ?_) | split | (unfold Dev.Kept; dsimp only) | dsimp only

theorem bodyShuttleAbort_kept {pt : Part} (id : Nat) (x : Sys2Proof.Desc) {d : Dev} (hk : d.Kept pt) :
    (bodyShuttleAbort id x d).Kept pt := by
  unfold bodyShuttleAbort
  repeat' first | (with_reducible first | assumption | apply settleShuttle_kept | apply Dev.abortDesc_kept | apply Dev.fail_kept | apply Dev.Kept.canon | refine ite_kept ?_ ?_) | split | (unfold Dev.Kept; dsimp only) | dsimp only

/-! ### FieldLink -/

theorem Dev.mailNext_kept {pt : Part} {d : Dev} (k : Nat) (hk : d.Kept pt) :
    (Dev.mailNext d k).Kept pt := by
  unfold Dev.mailNext
  repeat' first | (with_reducible first | assumption | apply Dev.Kept.canon | refine ite_kept ?_ ?_) | split | (unfold Dev.Kept; dsimp only) | dsimp only

theorem Dev.sendDown_kept {pt : Part} {d : Dev} (k : Nat) (freeze : Bool) (hk : d.Kept pt) :
    (Dev.sendDown d k freeze).Kept pt := by
  unfold Dev.sendDown
  repeat' first | (with_reducible first | assumption | intro _ | apply Dev.mailNext_kept | apply Dev.fanCommand_kept | apply Dev.emit_kept | apply Dev.Kept.canon | refine ite_kept ?_ ?_ | refine foldl_kept (fun _ _ _ => ?_) ?_ _ | refine foldl_snd2_kept (fun _ _ _ => ?_) ?_ _ | refine foldl_snd_kept (fun _ _ _ => ?_) ?_ _ | refine foldl_fst_kept (fun _ _ _ => ?_) ?_ _) | split | (unfold Dev.Kept; dsimp only) | dsimp only

theorem Dev.darkApply_kept {pt : Part} {d : Dev} (k : Nat) (v : Nat) (hk : d.Kept pt) :
    (Dev.darkApply d k v).Kept pt := by
  unfold Dev.darkApply
  repeat' first | (with_reducible first | assumption | apply Dev.setFd_kept | apply Dev.Kept.canon) | (unfold Dev.Kept; dsimp only) | dsimp only

theorem Dev.applyReg_kept {pt : Part} {d : Dev} (k : Nat) (off : Nat) (v : Nat) (hk : d.Kept pt) :
    (Dev.applyReg d k off v).Kept pt := by
  unfold Dev.applyReg
  repeat' first | (with_reducible first | assumption | intro _ | apply Dev.darkApply_kept | apply Dev.emuApplyCfg_kept | apply Dev.posApplyWrite_kept | apply Dev.diApplyCfg_kept | apply Dev.dput_kept | apply Dev.Kept.canon | refine ite_kept ?_ ?_ | refine foldl_kept (fun _ _ _ => ?_) ?_ _ | refine foldl_snd2_kept (fun _ _ _ => ?_) ?_ _ | refine foldl_snd_kept (fun _ _ _ => ?_) ?_ _ | refine foldl_fst_kept (fun _ _ _ => ?_) ?_ _) | split | (unfold Dev.Kept; dsimp only) | dsimp only

theorem Dev.applyDesc_kept {pt : Part} {d : Dev} (k : Nat) (id : Nat) (hk : d.Kept pt) :
    (Dev.applyDesc d k id).Kept pt := by
  unfold Dev.applyDesc
  repeat' first | (with_reducible first | assumption | apply Dev.applySolClear_kept | apply Dev.applySolShot_kept | apply Dev.applyFanClear_kept | apply Dev.applyFanaoForce_kept | apply Dev.applyEmuForce_kept | apply Dev.applyPosCheck_kept | apply Dev.applyPosPreset_kept | apply Dev.applyFieldResume_kept | apply Dev.applyDarkTestNow_kept | apply Dev.applyDoClear_kept | apply Dev.applyDioForce_kept | apply Dev.queueCal_kept | apply Dev.applyMeasUrgent_kept | apply Dev.Kept.canon | refine ite_kept ?_ ?_) | split | (unfold Dev.Kept; dsimp only) | dsimp only

theorem Dev.applyAbort_kept {pt : Part} {d : Dev} (k : Nat) (id : Nat) (target : Nat) (hk : d.Kept pt) :
    (Dev.applyAbort d k id target).Kept pt := by
  unfold Dev.applyAbort
  repeat' first | (with_reducible first | assumption | apply Dev.applyShuttleAbort_kept | apply Dev.applyPosAbort_kept | apply Dev.applyMeasAbort_kept | apply Dev.Kept.canon | refine ite_kept ?_ ?_) | split | (unfold Dev.Kept; dsimp only) | dsimp only

theorem Dev.applyMail_kept {pt : Part} {d : Dev} (k : Nat) (dip : Bool) (m : Mail) (hk : d.Kept pt) :
    (Dev.applyMail d k dip m).Kept pt := by
  unfold Dev.applyMail
  repeat' first | (with_reducible first | assumption | apply Dev.applyAbort_kept | apply Dev.applyDesc_kept | apply Dev.applyReg_kept | apply Dev.applyCode_kept | apply Dev.queueCal_kept | apply Dev.issueUrgent_kept | apply Dev.Kept.canon | refine ite_kept ?_ ?_) | split | (unfold Dev.Kept; dsimp only) | dsimp only

theorem Dev.applyOutputs_kept {pt : Part} {d : Dev} (k : Nat) (f : DownFrame) (hk : d.Kept pt) :
    (Dev.applyOutputs d k f).Kept pt := by
  unfold Dev.applyOutputs
  repeat' first | (with_reducible first | assumption | apply Dev.applySol_kept | apply Dev.applyFanAo_kept | apply Dev.applyDio_kept | apply Dev.saveWrite_kept | apply Dev.Kept.canon) | (unfold Dev.Kept; dsimp only) | dsimp only

theorem Dev.enterRun_kept {pt : Part} {d : Dev} (k : Nat) (f : DownFrame) (hk : d.Kept pt) :
    (Dev.enterRun d k f).Kept pt := by
  unfold Dev.enterRun
  repeat' first | (with_reducible first | assumption | intro _ | apply Dev.applyOutputs_kept | apply Dev.posLeaveSafe_kept | apply Dev.emuRefresh_kept | apply Dev.dieRaise_kept | apply Dev.setFd_kept | apply Dev.done_kept | apply Dev.Kept.canon | refine ite_kept ?_ ?_ | refine foldl_kept (fun _ _ _ => ?_) ?_ _ | refine foldl_snd2_kept (fun _ _ _ => ?_) ?_ _ | refine foldl_snd_kept (fun _ _ _ => ?_) ?_ _ | refine foldl_fst_kept (fun _ _ _ => ?_) ?_ _) | split | (unfold Dev.Kept; dsimp only) | dsimp only

theorem Dev.enterHeld_kept {pt : Part} {d : Dev} (k : Nat) (st : OutState) (hk : d.Kept pt) :
    (Dev.enterHeld d k st).Kept pt := by
  unfold Dev.enterHeld
  repeat' first | (with_reducible first | assumption | apply Dev.darkLeave_kept | apply Dev.dieRaise_kept | apply Dev.setFd_kept | apply Dev.Kept.canon | refine ite_kept ?_ ?_) | split | (unfold Dev.Kept; dsimp only) | dsimp only

theorem Dev.safeOutputs_kept {pt : Part} {d : Dev} (k : Nat) (hk : d.Kept pt) :
    (Dev.safeOutputs d k).Kept pt := by
  unfold Dev.safeOutputs
  repeat' first | (with_reducible first | assumption | apply Dev.safeSol_kept | apply Dev.safeFanAo_kept | apply Dev.emuRefresh_kept | apply Dev.safeDio_kept | apply Dev.Kept.canon) | (unfold Dev.Kept; dsimp only) | dsimp only

theorem Dev.enterSafe_kept {pt : Part} {d : Dev} (k : Nat) (cause : Nat) (hk : d.Kept pt) :
    (Dev.enterSafe d k cause).Kept pt := by
  unfold Dev.enterSafe
  repeat' first | (with_reducible first | assumption | apply Dev.safeOutputs_kept | apply Dev.emuRefresh_kept | apply Dev.darkLeave_kept | apply Dev.dieRaise_kept | apply Dev.setFd_kept | apply Dev.Kept.canon | refine ite_kept ?_ ?_) | split | (unfold Dev.Kept; dsimp only) | dsimp only

theorem Dev.safeFrame_kept {pt : Part} {d : Dev} (k : Nat) (f : DownFrame) (hk : d.Kept pt) :
    (Dev.safeFrame d k f).Kept pt := by
  unfold Dev.safeFrame
  repeat' first | (with_reducible first | assumption | apply Dev.enterRun_kept | apply Dev.setFd_kept | apply Dev.Kept.canon | refine ite_kept ?_ ?_) | split | (unfold Dev.Kept; dsimp only) | dsimp only

theorem Dev.goodBoundary_kept {pt : Part} {d : Dev} (k : Nat) (f : DownFrame) (hk : d.Kept pt) :
    (Dev.goodBoundary d k f).Kept pt := by
  unfold Dev.goodBoundary
  repeat' first | (with_reducible first | assumption | apply Dev.safeFrame_kept | apply Dev.enterHeld_kept | apply Dev.enterRun_kept | apply Dev.setFd_kept | apply Dev.Kept.canon | refine ite_kept ?_ ?_) | split | (unfold Dev.Kept; dsimp only) | dsimp only

theorem Dev.badBoundary_kept {pt : Part} {d : Dev} (k : Nat) (hk : d.Kept pt) :
    (Dev.badBoundary d k).Kept pt := by
  unfold Dev.badBoundary
  repeat' first | (with_reducible first | assumption | apply Dev.darkLeave_kept | apply Dev.dieRaise_kept | apply Dev.setFd_kept | apply Dev.Kept.canon) | split | (unfold Dev.Kept; dsimp only) | dsimp only

theorem Dev.senseDos_kept {pt : Part} {d : Dev} (k : Nat) (sense : Sys2Proof.FieldSense) (hk : d.Kept pt) :
    (Dev.senseDos d k sense).Kept pt := by
  unfold Dev.senseDos
  repeat' first | (with_reducible first | assumption | intro _ | apply Dev.setDo_kept | apply Dev.Kept.canon | refine ite_kept ?_ ?_ | refine foldl_kept (fun _ _ _ => ?_) ?_ _ | refine foldl_snd2_kept (fun _ _ _ => ?_) ?_ _ | refine foldl_snd_kept (fun _ _ _ => ?_) ?_ _ | refine foldl_fst_kept (fun _ _ _ => ?_) ?_ _) | split | (unfold Dev.Kept; dsimp only) | dsimp only

theorem Dev.sendUp_kept {pt : Part} {d : Dev} (k : Nat) (hk : d.Kept pt) :
    (Dev.sendUp d k).Kept pt := by
  unfold Dev.sendUp
  repeat' first | (with_reducible first | assumption | apply Dev.capAdvance_kept | apply Dev.setFd_kept | apply Dev.Kept.canon | refine ite_kept ?_ ?_) | split | (unfold Dev.Kept; dsimp only) | dsimp only

theorem Dev.takeWord_kept {pt : Part} {d : Dev} (p : Produced) (hk : d.Kept pt) :
    (Dev.takeWord d p).Kept pt := by
  unfold Dev.takeWord
  repeat' first | (with_reducible first | assumption | apply Dev.produce_kept | apply Dev.put_kept | apply Dev.Kept.canon | refine ite_kept ?_ ?_) | split | (unfold Dev.Kept; dsimp only) | dsimp only

theorem Dev.takeStates_kept {pt : Part} {d : Dev} (k : Nat) (latch : Nat) (dis : List Nat) (dos : List Nat) (hk : d.Kept pt) :
    (Dev.takeStates d k latch dis dos).Kept pt := by
  unfold Dev.takeStates
  repeat' first | (with_reducible first | assumption | intro _ | apply Dev.saveCount_kept | apply Dev.produce_kept | apply Dev.put_kept | apply Dev.Kept.canon | refine ite_kept ?_ ?_ | refine foldl_kept (fun _ _ _ => ?_) ?_ _ | refine foldl_snd2_kept (fun _ _ _ => ?_) ?_ _ | refine foldl_snd_kept (fun _ _ _ => ?_) ?_ _ | refine foldl_fst_kept (fun _ _ _ => ?_) ?_ _) | split | (unfold Dev.Kept; dsimp only) | dsimp only

theorem Dev.takePage_kept {pt : Part} {d : Dev} (k : Nat) (latch : Nat) (page : Nat) (l : List Nat) (hk : d.Kept pt) :
    (Dev.takePage d k latch page l).Kept pt := by
  unfold Dev.takePage
  repeat' first | (with_reducible first | assumption | intro _ | apply Dev.takePage3_kept | apply Dev.takeAoPage_kept | apply Dev.takePage2_kept | apply Dev.takePosPage_kept | apply Dev.takePage1_kept | apply Dev.takePage0_kept | apply Dev.capTake_kept | apply Dev.Kept.canon) | split | (unfold Dev.Kept; dsimp only) | dsimp only

theorem Dev.takeEvent_kept {pt : Part} {d : Dev} (k : Nat) (latch : Nat) (e : DieEvent) (hk : d.Kept pt) :
    (Dev.takeEvent d k latch e).Kept pt := by
  unfold Dev.takeEvent
  repeat' first | (with_reducible first | assumption | apply Dev.takeSolEvent_kept | apply Dev.logFault_kept | apply Dev.recovered_kept | apply Dev.raiseLimited_kept | apply Dev.raiseAt_kept | apply Dev.bump_kept | apply Dev.put_kept | apply Dev.Kept.canon | refine ite_kept ?_ ?_) | split | (unfold Dev.Kept; dsimp only) | dsimp only

theorem Dev.setUpMiss_kept {pt : Part} {d : Dev} (k : Nat) (n : Nat) (hk : d.Kept pt) :
    (Dev.setUpMiss d k n).Kept pt := by
  unfold Dev.setUpMiss
  repeat' first | (with_reducible first | assumption | apply Dev.Kept.canon | refine ite_kept ?_ ?_) | split | (unfold Dev.Kept; dsimp only) | dsimp only

theorem Dev.setUpHist_kept {pt : Part} {d : Dev} (k : Nat) (h : UpHist) (hk : d.Kept pt) :
    (Dev.setUpHist d k h).Kept pt := by
  unfold Dev.setUpHist
  repeat' first | (with_reducible first | assumption | apply Dev.Kept.canon | refine ite_kept ?_ ?_) | split | (unfold Dev.Kept; dsimp only) | dsimp only

theorem Dev.upTick_kept {pt : Part} {d : Dev} (k : Nat) (hk : d.Kept pt) :
    (Dev.upTick d k).Kept pt := by
  unfold Dev.upTick
  repeat' first | (with_reducible first | assumption | apply Dev.setUpHist_kept | apply Dev.setUpMiss_kept | apply Dev.Kept.canon | refine ite_kept ?_ ?_) | split | (unfold Dev.Kept; dsimp only) | dsimp only

theorem Dev.upSeen_kept {pt : Part} {d : Dev} (k : Nat) (page : Nat) (hk : d.Kept pt) :
    (Dev.upSeen d k page).Kept pt := by
  unfold Dev.upSeen
  repeat' first | (with_reducible first | assumption | apply Dev.setUpHist_kept | apply Dev.Kept.canon | refine ite_kept ?_ ?_) | split | (unfold Dev.Kept; dsimp only) | dsimp only

theorem Dev.takeUp_kept {pt : Part} {d : Dev} (k : Nat) (f : UpFrame) (hk : d.Kept pt) :
    (Dev.takeUp d k f).Kept pt := by
  unfold Dev.takeUp
  repeat' first | (with_reducible first | assumption | intro _ | apply Dev.upSeen_kept | apply Dev.setUpHist_kept | apply Dev.setUpMiss_kept | apply Dev.takeEvent_kept | apply Dev.takePage_kept | apply Dev.takeStates_kept | apply Dev.takeWord_kept | apply Dev.takeSlots_kept | apply Dev.recovered_kept | apply Dev.raise_kept | apply Dev.put_kept | apply Dev.Kept.canon | refine ite_kept ?_ ?_ | refine foldl_kept (fun _ _ _ => ?_) ?_ _ | refine foldl_snd2_kept (fun _ _ _ => ?_) ?_ _ | refine foldl_snd_kept (fun _ _ _ => ?_) ?_ _ | refine foldl_fst_kept (fun _ _ _ => ?_) ?_ _) | split | (unfold Dev.Kept; dsimp only) | dsimp only

theorem Dev.barrierWords_kept {pt : Part} {d : Dev} (k : Nat) (hk : d.Kept pt) :
    (Dev.barrierWords d k).Kept pt := by
  unfold Dev.barrierWords
  repeat' first | (with_reducible first | assumption | intro _ | apply Dev.takeWord_kept | apply Dev.Kept.canon | refine foldl_kept (fun _ _ _ => ?_) ?_ _ | refine foldl_snd2_kept (fun _ _ _ => ?_) ?_ _ | refine foldl_snd_kept (fun _ _ _ => ?_) ?_ _ | refine foldl_fst_kept (fun _ _ _ => ?_) ?_ _) | (unfold Dev.Kept; dsimp only) | dsimp only

theorem Dev.fieldErrClr_kept {pt : Part} {d : Dev} (k : Nat) (hk : d.Kept pt) :
    (Dev.fieldErrClr d k).Kept pt := by
  unfold Dev.fieldErrClr
  repeat' first | (with_reducible first | assumption | apply Dev.put_kept | apply Dev.Kept.canon) | (unfold Dev.Kept; dsimp only) | dsimp only

theorem Dev.fieldReject_kept {pt : Part} {d : Dev} (k : Nat) (hk : d.Kept pt) :
    (Dev.fieldReject d k).Kept pt := by
  unfold Dev.fieldReject
  repeat' first | (with_reducible first | assumption | apply Dev.put_kept | apply Dev.Kept.canon) | (unfold Dev.Kept; dsimp only) | dsimp only

theorem Dev.writeField_kept {pt : Part} {d : Dev} (off : Nat) (v : Nat) (hk : d.Kept pt) :
    (Dev.writeField d off v).Kept pt := by
  unfold Dev.writeField
  repeat' first | (with_reducible first | assumption | intro _ | apply Dev.fieldReject_kept | apply Dev.fieldErrClr_kept | apply Dev.writeFlds_kept | apply Dev.post_kept | apply Dev.markRet_kept | apply Dev.put_kept | apply Dev.Kept.canon | refine ite_kept ?_ ?_ | refine foldl_kept (fun _ _ _ => ?_) ?_ _ | refine foldl_snd2_kept (fun _ _ _ => ?_) ?_ _ | refine foldl_snd_kept (fun _ _ _ => ?_) ?_ _ | refine foldl_fst_kept (fun _ _ _ => ?_) ?_ _) | split | (unfold Dev.Kept; dsimp only) | dsimp only

end Sys2Proof.Machine
end

