-- ==== Sys2Proof/Laws/KeptEngines.lean ====
section
/-! SUPPORT. Canonical form and silicon are kept: the operations of the engines of time, prediction and control. -/

namespace Sys2Proof.Machine
open Sys2Proof

/-! ### Sched -/

theorem Dev.setZone_kept {pt : Part} {d : Dev} (z : Nat) (x : ZoneSt) (hk : d.Kept pt) :
    (Dev.setZone d z x).Kept pt := by
  unfold Dev.setZone
  repeat' first | (with_reducible first | assumption | apply Dev.Kept.canon) | (unfold Dev.Kept; dsimp only) | dsimp only

theorem Dev.showSched_kept {pt : Part} {d : Dev} (hk : d.Kept pt) :
    (Dev.showSched d).Kept pt := by
  unfold Dev.showSched
  repeat' first | (with_reducible first | assumption | apply Dev.put_kept | apply Dev.Kept.canon | refine ite_kept ?_ ?_) | split | (unfold Dev.Kept; dsimp only) | dsimp only

theorem Dev.setOverride_kept {pt : Part} {d : Dev} (z : Nat) (o : Option (Nat × Nat)) (expired : Bool) (hk : d.Kept pt) :
    (Dev.setOverride d z o expired).Kept pt := by
  unfold Dev.setOverride
  repeat' first | (with_reducible first | assumption | apply Dev.setZone_kept | apply Dev.setBlock_kept | apply Dev.Kept.canon) | split | (unfold Dev.Kept; dsimp only) | dsimp only

theorem Dev.schedOp_kept {pt : Part} {d : Dev} (o : SchedOp) (hk : d.Kept pt) :
    (Dev.schedOp d o).Kept pt := by
  unfold Dev.schedOp
  repeat' first | (with_reducible first | assumption | intro _ | apply Dev.setOverride_kept | apply Dev.setZone_kept | apply Dev.setBlock_kept | apply Dev.produce_kept | apply Dev.done_kept | apply Dev.fail_kept | apply Dev.put_kept | apply Dev.Kept.canon | refine ite_kept ?_ ?_ | refine foldl_kept (fun _ _ _ => ?_) ?_ _ | refine foldl_snd2_kept (fun _ _ _ => ?_) ?_ _ | refine foldl_snd_kept (fun _ _ _ => ?_) ?_ _ | refine foldl_fst_kept (fun _ _ _ => ?_) ?_ _) | split | (unfold Dev.Kept; dsimp only) | dsimp only

theorem Dev.expireOverride_kept {pt : Part} {d : Dev} (z : Nat) (hk : d.Kept pt) :
    (Dev.expireOverride d z).Kept pt := by
  unfold Dev.expireOverride
  repeat' first | (with_reducible first | assumption | apply Dev.setOverride_kept | apply Dev.Kept.canon | refine ite_kept ?_ ?_) | split | (unfold Dev.Kept; dsimp only) | dsimp only

theorem Dev.schedTime_kept {pt : Part} {d : Dev} (hk : d.Kept pt) :
    (Dev.schedTime d).Kept pt := by
  unfold Dev.schedTime
  repeat' first | (with_reducible first | assumption | apply Dev.raise_kept | apply Dev.putBit_kept | apply Dev.Kept.canon | refine ite_kept ?_ ?_) | split | (unfold Dev.Kept; dsimp only) | dsimp only

theorem Dev.evalProg_kept {pt : Part} {d : Dev} (p : Nat) (hk : d.Kept pt) :
    (Dev.evalProg d p).Kept pt := by
  unfold Dev.evalProg
  repeat' first | (with_reducible first | assumption | apply Dev.produce_kept | apply Dev.put_kept | apply Dev.Kept.canon | refine ite_kept ?_ ?_) | split | (unfold Dev.Kept; dsimp only) | dsimp only

theorem Dev.presenceExpire_kept {pt : Part} {d : Dev} (z : Nat) (hk : d.Kept pt) :
    (Dev.presenceExpire d z).Kept pt := by
  unfold Dev.presenceExpire
  repeat' first | (with_reducible first | assumption | apply Dev.setZone_kept | apply Dev.Kept.canon | refine ite_kept ?_ ?_) | split | (unfold Dev.Kept; dsimp only) | dsimp only

theorem Dev.evalPresence_kept {pt : Part} {d : Dev} (z : Nat) (hk : d.Kept pt) :
    (Dev.evalPresence d z).Kept pt := by
  unfold Dev.evalPresence
  repeat' first | (with_reducible first | assumption | intro _ | apply Dev.presenceExpire_kept | apply Dev.setZone_kept | apply Dev.touchValue_kept | apply Dev.raiseLimited_kept | apply Dev.Kept.canon | refine ite_kept ?_ ?_ | refine foldl_kept (fun _ _ _ => ?_) ?_ _ | refine foldl_snd2_kept (fun _ _ _ => ?_) ?_ _ | refine foldl_snd_kept (fun _ _ _ => ?_) ?_ _ | refine foldl_fst_kept (fun _ _ _ => ?_) ?_ _) | split | (unfold Dev.Kept; dsimp only) | dsimp only

theorem Dev.evalOpt_kept {pt : Part} {d : Dev} (z : Nat) (hk : d.Kept pt) :
    (Dev.evalOpt d z).Kept pt := by
  unfold Dev.evalOpt
  repeat' first | (with_reducible first | assumption | apply Dev.setZone_kept | apply Dev.raise_kept | apply Dev.Kept.canon | refine ite_kept ?_ ?_) | split | (unfold Dev.Kept; dsimp only) | dsimp only

theorem Dev.evalLevel_kept {pt : Part} {d : Dev} (z : Nat) (hk : d.Kept pt) :
    (Dev.evalLevel d z).Kept pt := by
  unfold Dev.evalLevel
  repeat' first | (with_reducible first | assumption | intro _ | apply Dev.setZone_kept | apply Dev.produce_kept | apply Dev.raise_kept | apply Dev.put_kept | apply Dev.Kept.canon | refine ite_kept ?_ ?_) | split | (unfold Dev.Kept; dsimp only) | dsimp only

theorem Dev.endOverride_kept {pt : Part} {d : Dev} (o : SchedOp) (hk : d.Kept pt) :
    (Dev.endOverride d o).Kept pt := by
  unfold Dev.endOverride
  repeat' first | (with_reducible first | assumption | apply Dev.done_kept | apply Dev.Kept.canon | refine ite_kept ?_ ?_) | split | (unfold Dev.Kept; dsimp only) | dsimp only

theorem Dev.schedEvaluate_kept {pt : Part} {d : Dev} (hk : d.Kept pt) :
    (Dev.schedEvaluate d).Kept pt := by
  unfold Dev.schedEvaluate
  repeat' first | (with_reducible first | assumption | intro _ | apply Dev.endOverride_kept | apply Dev.evalLevel_kept | apply Dev.evalOpt_kept | apply Dev.evalPresence_kept | apply Dev.evalProg_kept | apply Dev.schedTime_kept | apply Dev.expireOverride_kept | apply Dev.schedOp_kept | apply Dev.showSched_kept | apply Dev.Kept.canon | refine foldl_kept (fun _ _ _ => ?_) ?_ _ | refine foldl_snd2_kept (fun _ _ _ => ?_) ?_ _ | refine foldl_snd_kept (fun _ _ _ => ?_) ?_ _ | refine foldl_fst_kept (fun _ _ _ => ?_) ?_ _) | (unfold Dev.Kept; dsimp only) | dsimp only

theorem Dev.addSched_kept {pt : Part} {d : Dev} (o : SchedOp) (hk : d.Kept pt) :
    (Dev.addSched d o).Kept pt := by
  unfold Dev.addSched
  repeat' first | (with_reducible first | assumption | apply Dev.Kept.canon) | (unfold Dev.Kept; dsimp only) | dsimp only

theorem bodySchedSet_kept {pt : Part} (kind : Nat) (cls : Nat) (id : Nat) (x : Sys2Proof.Desc) {d : Dev} (hk : d.Kept pt) :
    (bodySchedSet kind cls id x d).Kept pt := by
  unfold bodySchedSet
  repeat' first | (with_reducible first | assumption | apply Dev.addSched_kept | apply Dev.fail_kept | apply Dev.Kept.canon | refine ite_kept ?_ ?_) | split | (unfold Dev.Kept; dsimp only) | dsimp only

theorem Dev.schedChecked_kept {pt : Part} {d : Dev} (id : Nat) (x : Sys2Proof.Desc) (hk : d.Kept pt) :
    (Dev.schedChecked d id x).Kept pt := by
  unfold Dev.schedChecked
  repeat' first | (with_reducible first | assumption | intro _ | refine Dev.readImage_kept_of ?_ (by assumption) | apply Dev.readImage_kept | apply Dev.fail_kept | apply Dev.Kept.canon | refine ite_kept ?_ ?_) | split | (unfold Dev.Kept; dsimp only) | dsimp only

theorem bodyZoneOverride_kept {pt : Part} (id : Nat) (x : Sys2Proof.Desc) {d : Dev} (hk : d.Kept pt) :
    (bodyZoneOverride id x d).Kept pt := by
  unfold bodyZoneOverride
  repeat' first | (with_reducible first | assumption | apply Dev.addSched_kept | apply Dev.fail_kept | apply Dev.Kept.canon | refine ite_kept ?_ ?_) | split | (unfold Dev.Kept; dsimp only) | dsimp only

theorem Dev.setCivil_kept {pt : Part} {d : Dev} (q : Nat) (utc : Nat) (offset : Int) (hk : d.Kept pt) :
    (Dev.setCivil d q utc offset).Kept pt := by
  unfold Dev.setCivil
  repeat' first | (with_reducible first | assumption | apply Dev.setBlock_kept | apply Dev.putRet_kept | apply Dev.Kept.canon) | (unfold Dev.Kept; dsimp only) | dsimp only

theorem bodyCivilSet_kept {pt : Part} (id : Nat) (x : Sys2Proof.Desc) {d : Dev} (hk : d.Kept pt) :
    (bodyCivilSet id x d).Kept pt := by
  unfold bodyCivilSet
  repeat' first | (with_reducible first | assumption | apply Dev.setCivil_kept | apply Dev.done_kept | apply Dev.Kept.canon) | (unfold Dev.Kept; dsimp only) | dsimp only

theorem bodyDstLoad_kept {pt : Part} (id : Nat) (x : Sys2Proof.Desc) {d : Dev} (hk : d.Kept pt) :
    (bodyDstLoad id x d).Kept pt := by
  unfold bodyDstLoad
  repeat' first | (with_reducible first | assumption | intro _ | refine Dev.readImage_kept_of ?_ (by assumption) | apply Dev.readImage_kept | apply Dev.setBlock_kept | apply Dev.done_kept | apply Dev.fail_kept | apply Dev.Kept.canon | refine ite_kept ?_ ?_) | split | (unfold Dev.Kept; dsimp only) | dsimp only

/-! ### Pat -/

theorem Dev.readTables_kept {pt : Part} {d : Dev} (hk : d.Kept pt) :
    (Dev.readTables d).2.Kept pt := by
  unfold Dev.readTables
  repeat' first | (with_reducible first | assumption | refine Dev.readWords_kept_of ?_ (by assumption) | apply Dev.readWords_kept | apply Dev.Kept.canon) | split | (unfold Dev.Kept; dsimp only) | dsimp only

theorem Dev.readTables_kept_of {pt : Part} {d : Dev} {r0 : (Option PatModel × Option Nat)} {e0 : Dev} (hk : d.Kept pt) (eq : (Dev.readTables d) = (r0, e0)) : e0.Kept pt := by
  have k := @Dev.readTables_kept; grind

theorem Dev.putNodes_kept {pt : Part} {d : Dev} (bs : List Nat) (hk : d.Kept pt) :
    (Dev.putNodes d bs).Kept pt := by
  unfold Dev.putNodes
  repeat' first | (with_reducible first | assumption | apply Dev.memWrite_kept | apply Dev.Kept.canon) | (unfold Dev.Kept; dsimp only) | dsimp only

theorem Dev.putCoups_kept {pt : Part} {d : Dev} (bs : List Nat) (hk : d.Kept pt) :
    (Dev.putCoups d bs).Kept pt := by
  unfold Dev.putCoups
  repeat' first | (with_reducible first | assumption | apply Dev.memWrite_kept | apply Dev.Kept.canon) | (unfold Dev.Kept; dsimp only) | dsimp only

theorem Dev.patReport_kept {pt : Part} {d : Dev} (r : Nat × Nat × Nat × List Nat) (hk : d.Kept pt) :
    (Dev.patReport d r).Kept pt := by
  unfold Dev.patReport
  repeat' first | (with_reducible first | assumption | apply Dev.raiseLimited_kept | apply Dev.raise_kept | apply Dev.Kept.canon | refine ite_kept ?_ ?_) | split | (unfold Dev.Kept; dsimp only) | dsimp only

theorem Dev.runStep_kept {pt : Part} {d : Dev} (m : PatModel) (old : List NodeS) (mult : List Nat) (hk : d.Kept pt) :
    (Dev.runStep d m old mult).Kept pt := by
  unfold Dev.runStep
  repeat' first | (with_reducible first | assumption | intro _ | apply Dev.touchValue_kept | apply Dev.raise_kept | apply Dev.put_kept | apply Dev.Kept.canon | refine ite_kept ?_ ?_ | refine foldl_kept (fun _ _ _ => ?_) ?_ _ | refine foldl_snd2_kept (fun _ _ _ => ?_) ?_ _ | refine foldl_snd_kept (fun _ _ _ => ?_) ?_ _ | refine foldl_fst_kept (fun _ _ _ => ?_) ?_ _) | split | (unfold Dev.Kept; dsimp only) | dsimp only

theorem Dev.missStart_kept {pt : Part} {d : Dev} (cause : Nat) (hk : d.Kept pt) :
    (Dev.missStart d cause).Kept pt := by
  unfold Dev.missStart
  repeat' first | (with_reducible first | assumption | apply Dev.Kept.canon | refine ite_kept ?_ ?_) | split | (unfold Dev.Kept; dsimp only) | dsimp only

theorem Dev.tableFault_kept {pt : Part} {d : Dev} (w : Nat) (hk : d.Kept pt) :
    (Dev.tableFault d w).Kept pt := by
  unfold Dev.tableFault
  repeat' first | (with_reducible first | assumption | apply Dev.logFault_kept | apply Dev.raise_kept | apply Dev.put_kept | apply Dev.Kept.canon | refine ite_kept ?_ ?_) | split | (unfold Dev.Kept; dsimp only) | dsimp only

theorem Dev.repeatStale_kept {pt : Part} {d : Dev} (hk : d.Kept pt) :
    (Dev.repeatStale d).Kept pt := by
  unfold Dev.repeatStale
  repeat' first | (with_reducible first | assumption | intro _ | apply Dev.produce_kept | apply Dev.put_kept | apply Dev.Kept.canon | refine ite_kept ?_ ?_ | refine foldl_kept (fun _ _ _ => ?_) ?_ _ | refine foldl_snd2_kept (fun _ _ _ => ?_) ?_ _ | refine foldl_snd_kept (fun _ _ _ => ?_) ?_ _ | refine foldl_fst_kept (fun _ _ _ => ?_) ?_ _) | split | (unfold Dev.Kept; dsimp only) | dsimp only

theorem Dev.clearWords_kept {pt : Part} {d : Dev} (hk : d.Kept pt) :
    (Dev.clearWords d).Kept pt := by
  unfold Dev.clearWords
  repeat' first | (with_reducible first | assumption | intro _ | apply Dev.produce_kept | apply Dev.put_kept | apply Dev.Kept.canon | refine ite_kept ?_ ?_ | refine foldl_kept (fun _ _ _ => ?_) ?_ _ | refine foldl_snd2_kept (fun _ _ _ => ?_) ?_ _ | refine foldl_snd_kept (fun _ _ _ => ?_) ?_ _ | refine foldl_fst_kept (fun _ _ _ => ?_) ?_ _) | split | (unfold Dev.Kept; dsimp only) | dsimp only

theorem Dev.setSuspect_kept {pt : Part} {d : Dev} (l : List Nat) (hk : d.Kept pt) :
    (Dev.setSuspect d l).Kept pt := by
  unfold Dev.setSuspect
  repeat' first | (with_reducible first | assumption | apply Dev.put_kept | apply Dev.Kept.canon) | (unfold Dev.Kept; dsimp only) | dsimp only

theorem Dev.saveEst_kept {pt : Part} {d : Dev} (i : Nat) (v : Int) (hk : d.Kept pt) :
    (Dev.saveEst d i v).Kept pt := by
  unfold Dev.saveEst
  repeat' first | (with_reducible first | assumption | apply Dev.saveWrite_kept | apply Dev.Kept.canon | refine ite_kept ?_ ?_) | split | (unfold Dev.Kept; dsimp only) | dsimp only

theorem Dev.saveEsts_kept {pt : Part} {d : Dev} (st : List NodeS) (hk : d.Kept pt) :
    (Dev.saveEsts d st).Kept pt := by
  unfold Dev.saveEsts
  repeat' first | (with_reducible first | assumption | intro _ | apply Dev.saveEst_kept | apply Dev.Kept.canon | refine foldl_kept (fun _ _ _ => ?_) ?_ _ | refine foldl_snd2_kept (fun _ _ _ => ?_) ?_ _ | refine foldl_snd_kept (fun _ _ _ => ?_) ?_ _ | refine foldl_fst_kept (fun _ _ _ => ?_) ?_ _) | (unfold Dev.Kept; dsimp only) | dsimp only

theorem Dev.publishNode_kept {pt : Part} {d : Dev} (s : Nat) (i : Nat) (o : NodeS) (hk : d.Kept pt) :
    (Dev.publishNode d s i o).Kept pt := by
  unfold Dev.publishNode
  repeat' first | (with_reducible first | assumption | apply Dev.produce_kept | apply Dev.put_kept | apply Dev.Kept.canon | refine ite_kept ?_ ?_) | split | (unfold Dev.Kept; dsimp only) | dsimp only

theorem Dev.publishNodes_kept {pt : Part} {d : Dev} (s : Nat) (st : List NodeS) (hk : d.Kept pt) :
    (Dev.publishNodes d s st).Kept pt := by
  unfold Dev.publishNodes
  repeat' first | (with_reducible first | assumption | intro _ | apply Dev.publishNode_kept | apply Dev.Kept.canon | refine foldl_kept (fun _ _ _ => ?_) ?_ _ | refine foldl_snd2_kept (fun _ _ _ => ?_) ?_ _ | refine foldl_snd_kept (fun _ _ _ => ?_) ?_ _ | refine foldl_fst_kept (fun _ _ _ => ?_) ?_ _) | (unfold Dev.Kept; dsimp only) | dsimp only

theorem Dev.resetNodeWord_kept {pt : Part} {d : Dev} (w : Nat) (hk : d.Kept pt) :
    (Dev.resetNodeWord d w).Kept pt := by
  unfold Dev.resetNodeWord
  repeat' first | (with_reducible first | assumption | intro _ | apply Dev.publishNode_kept | apply Dev.saveEst_kept | apply Dev.setSuspect_kept | apply Dev.patReport_kept | apply Dev.readWord_kept | apply Dev.memWrite_kept | apply Dev.raise_kept | apply Dev.Kept.canon | refine ite_kept ?_ ?_ | refine foldl_kept (fun _ _ _ => ?_) ?_ _ | refine foldl_snd2_kept (fun _ _ _ => ?_) ?_ _ | refine foldl_snd_kept (fun _ _ _ => ?_) ?_ _ | refine foldl_fst_kept (fun _ _ _ => ?_) ?_ _) | split | (unfold Dev.Kept; dsimp only) | dsimp only

theorem Dev.resetCoupWord_kept {pt : Part} {d : Dev} (w : Nat) (hk : d.Kept pt) :
    (Dev.resetCoupWord d w).Kept pt := by
  unfold Dev.resetCoupWord
  repeat' first | (with_reducible first | assumption | apply Dev.readWord_kept | apply Dev.memWrite_kept | apply Dev.raise_kept | apply Dev.Kept.canon) | (unfold Dev.Kept; dsimp only) | dsimp only

theorem Dev.readState_kept {pt : Part} {d : Dev} (hk : d.Kept pt) :
    (Dev.readState d).2.Kept pt := by
  unfold Dev.readState
  repeat' first | (with_reducible first | assumption | intro _ | apply Dev.resetCoupWord_kept | apply Dev.resetNodeWord_kept | refine Dev.readWords_kept_of ?_ (by assumption) | apply Dev.readWords_kept | apply Dev.Kept.canon | refine ite_kept ?_ ?_ | refine foldl_kept (fun _ _ _ => ?_) ?_ _ | refine foldl_snd2_kept (fun _ _ _ => ?_) ?_ _ | refine foldl_snd_kept (fun _ _ _ => ?_) ?_ _ | refine foldl_fst_kept (fun _ _ _ => ?_) ?_ _) | split | (unfold Dev.Kept; dsimp only) | dsimp only

theorem Dev.readState_kept_of {pt : Part} {d : Dev} {r0 : Option (List NodeS × List Nat)} {e0 : Dev} (hk : d.Kept pt) (eq : (Dev.readState d) = (r0, e0)) : e0.Kept pt := by
  have k := @Dev.readState_kept; grind

theorem Dev.soundState_kept {pt : Part} {d : Dev} (hk : d.Kept pt) :
    (Dev.soundState d).2.Kept pt := by
  unfold Dev.soundState
  repeat' first | (with_reducible first | assumption | refine Dev.readState_kept_of ?_ (by assumption) | apply Dev.readState_kept | apply Dev.Kept.canon) | split | (unfold Dev.Kept; dsimp only) | dsimp only

theorem Dev.soundState_kept_of {pt : Part} {d : Dev} {r0 : (List NodeS × List Nat)} {e0 : Dev} (hk : d.Kept pt) (eq : (Dev.soundState d) = (r0, e0)) : e0.Kept pt := by
  have k := @Dev.soundState_kept; grind

theorem Dev.patApplyReset_kept {pt : Part} {d : Dev} (mask : Nat) (hk : d.Kept pt) :
    (Dev.patApplyReset d mask).Kept pt := by
  unfold Dev.patApplyReset
  repeat' first | (with_reducible first | assumption | intro _ | apply Dev.soundState_kept | apply Dev.publishNode_kept | apply Dev.saveEsts_kept | apply Dev.setSuspect_kept | apply Dev.patReport_kept | apply Dev.putCoups_kept | apply Dev.putNodes_kept | apply Dev.Kept.canon | refine ite_kept ?_ ?_ | refine foldl_kept (fun _ _ _ => ?_) ?_ _ | refine foldl_snd2_kept (fun _ _ _ => ?_) ?_ _ | refine foldl_snd_kept (fun _ _ _ => ?_) ?_ _ | refine foldl_fst_kept (fun _ _ _ => ?_) ?_ _) | split | (unfold Dev.Kept; dsimp only) | dsimp only

theorem Dev.patResets_kept {pt : Part} {d : Dev} (hk : d.Kept pt) :
    (Dev.patResets d).Kept pt := by
  unfold Dev.patResets
  repeat' first | (with_reducible first | assumption | intro _ | apply Dev.patApplyReset_kept | apply Dev.done_kept | apply Dev.Kept.canon | refine ite_kept ?_ ?_ | refine foldl_kept (fun _ _ _ => ?_) ?_ _ | refine foldl_snd2_kept (fun _ _ _ => ?_) ?_ _ | refine foldl_snd_kept (fun _ _ _ => ?_) ?_ _ | refine foldl_fst_kept (fun _ _ _ => ?_) ?_ _) | split | (unfold Dev.Kept; dsimp only) | dsimp only

theorem Dev.readStaged_kept {pt : Part} {d : Dev} (x : Sys2Proof.Desc) (hk : d.Kept pt) :
    (Dev.readStaged d x).2.Kept pt := by
  unfold Dev.readStaged
  repeat' first | (with_reducible first | assumption | refine Dev.readWords_kept_of ?_ (by assumption) | apply Dev.readWords_kept | apply Dev.Kept.canon) | split | (unfold Dev.Kept; dsimp only) | dsimp only

theorem Dev.readStaged_kept_of {pt : Part} {d : Dev} {x : Sys2Proof.Desc} {r0 : Option (List Nat × List Nat × List Nat × List Nat)} {e0 : Dev} (hk : d.Kept pt) (eq : (Dev.readStaged d x) = (r0, e0)) : e0.Kept pt := by
  have k := @Dev.readStaged_kept; grind

theorem Dev.showPat_kept {pt : Part} {d : Dev} (hk : d.Kept pt) :
    (Dev.showPat d).Kept pt := by
  unfold Dev.showPat
  repeat' first | (with_reducible first | assumption | apply Dev.putBit_kept | apply Dev.Kept.canon) | (unfold Dev.Kept; dsimp only) | dsimp only

theorem Dev.oldCoups_kept {pt : Part} {d : Dev} (hk : d.Kept pt) :
    (Dev.oldCoups d).2.Kept pt := by
  unfold Dev.oldCoups
  repeat' first | (with_reducible first | assumption | intro _ | refine Dev.readWords_kept_of ?_ (by assumption) | apply Dev.readWords_kept | apply Dev.Kept.canon | refine ite_kept ?_ ?_) | split | (unfold Dev.Kept; dsimp only) | dsimp only

theorem Dev.oldCoups_kept_of {pt : Part} {d : Dev} {r0 : List PatCoup} {e0 : Dev} (hk : d.Kept pt) (eq : (Dev.oldCoups d) = (r0, e0)) : e0.Kept pt := by
  have k := @Dev.oldCoups_kept; grind

theorem Dev.keptState_kept {pt : Part} {d : Dev} (m : PatModel) (hk : d.Kept pt) :
    (Dev.keptState d m).2.Kept pt := by
  unfold Dev.keptState
  repeat' first | (with_reducible first | assumption | intro _ | refine Dev.oldCoups_kept_of ?_ (by assumption) | apply Dev.oldCoups_kept | refine Dev.soundState_kept_of ?_ (by assumption) | apply Dev.soundState_kept | apply Dev.Kept.canon | refine ite_kept ?_ ?_) | split | (unfold Dev.Kept; dsimp only) | dsimp only

theorem Dev.keptState_kept_of {pt : Part} {d : Dev} {m : PatModel} {r0 : ((Nat → Option Int) × (Nat → Option Nat))} {e0 : Dev} (hk : d.Kept pt) (eq : (Dev.keptState d m) = (r0, e0)) : e0.Kept pt := by
  have k := @Dev.keptState_kept; grind

theorem Dev.placeModel_kept {pt : Part} {d : Dev} (m : PatModel) (h : List Nat) (ns : List Nat) (cs : List Nat) (bs : List Nat) (est : Nat → Option Int) (mul : Nat → Option Nat) (hk : d.Kept pt) :
    (Dev.placeModel d m h ns cs bs est mul).1.Kept pt := by
  unfold Dev.placeModel
  repeat' first | (with_reducible first | assumption | intro _ | apply Dev.saveEsts_kept | apply Dev.setSuspect_kept | apply Dev.putCoups_kept | apply Dev.putNodes_kept | apply Dev.memWrite_kept | apply Dev.Kept.canon) | (unfold Dev.Kept; dsimp only) | dsimp only

theorem Dev.placeModel_kept_of {pt : Part} {d : Dev} {m : PatModel} {h : List Nat} {ns : List Nat} {cs : List Nat} {bs : List Nat} {est : Nat → Option Int} {mul : Nat → Option Nat} {e0 : Dev} {r1 : List NodeS} (hk : d.Kept pt) (eq : (Dev.placeModel d m h ns cs bs est mul) = (e0, r1)) : e0.Kept pt := by
  have k := @Dev.placeModel_kept; grind

theorem Dev.endLoad_kept {pt : Part} {d : Dev} (st : Status) (result : Nat) (hk : d.Kept pt) :
    (Dev.endLoad d st result).Kept pt := by
  unfold Dev.endLoad
  repeat' first | (with_reducible first | assumption | apply Dev.showPat_kept | apply Dev.finish_kept | apply Dev.Kept.canon) | split | (unfold Dev.Kept; dsimp only) | dsimp only

theorem Dev.endPredictions_kept {pt : Part} {d : Dev} (st : Status) (hk : d.Kept pt) :
    (Dev.endPredictions d st).Kept pt := by
  unfold Dev.endPredictions
  repeat' first | (with_reducible first | assumption | intro _ | apply Dev.showPat_kept | apply Dev.finish_kept | apply Dev.Kept.canon | refine foldl_kept (fun _ _ _ => ?_) ?_ _ | refine foldl_snd2_kept (fun _ _ _ => ?_) ?_ _ | refine foldl_snd_kept (fun _ _ _ => ?_) ?_ _ | refine foldl_fst_kept (fun _ _ _ => ?_) ?_ _) | (unfold Dev.Kept; dsimp only) | dsimp only

theorem Dev.patCommit_kept {pt : Part} {d : Dev} (l : PatLoad) (hk : d.Kept pt) :
    (Dev.patCommit d l).1.Kept pt := by
  unfold Dev.patCommit
  repeat' first | (with_reducible first | assumption | apply Dev.endPredictions_kept | apply Dev.endLoad_kept | refine Dev.placeModel_kept_of ?_ (by assumption) | apply Dev.placeModel_kept | refine Dev.keptState_kept_of ?_ (by assumption) | apply Dev.keptState_kept | refine Dev.readStaged_kept_of ?_ (by assumption) | apply Dev.readStaged_kept | apply Dev.publishNodes_kept | apply Dev.clearWords_kept | apply Dev.raise_kept | apply Dev.putRet_kept | apply Dev.markRec_kept | apply Dev.put_kept | apply Dev.Kept.canon | refine ite_kept ?_ ?_) | split | (unfold Dev.Kept; dsimp only) | dsimp only

theorem Dev.patCommit_kept_of {pt : Part} {d : Dev} {l : PatLoad} {e0 : Dev} {r1 : Bool} (hk : d.Kept pt) (eq : (Dev.patCommit d l) = (e0, r1)) : e0.Kept pt := by
  have k := @Dev.patCommit_kept; grind

theorem Dev.patCtrl_kept {pt : Part} {d : Dev} (v : Nat) (hk : d.Kept pt) :
    (Dev.patCtrl d v).Kept pt := by
  unfold Dev.patCtrl
  repeat' first | (with_reducible first | assumption | apply Dev.Kept.canon | refine ite_kept ?_ ?_) | split | (unfold Dev.Kept; dsimp only) | dsimp only

theorem Dev.showRunning_kept {pt : Part} {d : Dev} (hk : d.Kept pt) :
    (Dev.showRunning d).Kept pt := by
  unfold Dev.showRunning
  repeat' first | (with_reducible first | assumption | apply Dev.putBit_kept | apply Dev.Kept.canon) | (unfold Dev.Kept; dsimp only) | dsimp only

theorem Dev.beforeStep_kept {pt : Part} {d : Dev} (hk : d.Kept pt) :
    (Dev.beforeStep d).1.Kept pt := by
  unfold Dev.beforeStep
  repeat' first | (with_reducible first | assumption | apply Dev.patCtrl_kept | refine Dev.patCommit_kept_of ?_ (by assumption) | apply Dev.patCommit_kept | apply Dev.patResets_kept | apply Dev.Kept.canon | refine ite_kept ?_ ?_) | split | (unfold Dev.Kept; dsimp only) | dsimp only

theorem Dev.beforeStep_kept_of {pt : Part} {d : Dev} {e0 : Dev} {r1 : Bool} (hk : d.Kept pt) (eq : (Dev.beforeStep d) = (e0, r1)) : e0.Kept pt := by
  have k := @Dev.beforeStep_kept; grind

theorem Dev.patStep_kept {pt : Part} {d : Dev} (hk : d.Kept pt) :
    (Dev.patStep d).Kept pt := by
  unfold Dev.patStep
  repeat' first | (with_reducible first | assumption | refine Dev.beforeStep_kept_of ?_ (by assumption) | apply Dev.beforeStep_kept | apply Dev.showRunning_kept | refine Dev.readState_kept_of ?_ (by assumption) | apply Dev.readState_kept | apply Dev.repeatStale_kept | apply Dev.tableFault_kept | apply Dev.missStart_kept | apply Dev.runStep_kept | refine Dev.readTables_kept_of ?_ (by assumption) | apply Dev.readTables_kept | apply Dev.Kept.canon | refine ite_kept ?_ ?_) | split | (unfold Dev.Kept; dsimp only) | dsimp only

theorem Dev.patPassed_kept {pt : Part} {d : Dev} (t : Nat) (u : Nat) (hk : d.Kept pt) :
    (Dev.patPassed d t u).Kept pt := by
  unfold Dev.patPassed
  repeat' first | (with_reducible first | assumption | apply Dev.missStart_kept | apply Dev.Kept.canon | refine ite_kept ?_ ?_) | split | (unfold Dev.Kept; dsimp only) | dsimp only

theorem Dev.forecasts_kept {pt : Part} {d : Dev} (m : PatModel) (hk : d.Kept pt) :
    (Dev.forecasts d m).2.Kept pt := by
  unfold Dev.forecasts
  repeat' first | (with_reducible first | assumption | intro _ | apply Dev.readWords_kept | apply Dev.Kept.canon | refine ite_kept ?_ ?_ | refine foldl_kept (fun _ _ _ => ?_) ?_ _ | refine foldl_snd2_kept (fun _ _ _ => ?_) ?_ _ | refine foldl_snd_kept (fun _ _ _ => ?_) ?_ _ | refine foldl_fst_kept (fun _ _ _ => ?_) ?_ _) | split | (unfold Dev.Kept; dsimp only) | dsimp only

theorem Dev.forecasts_kept_of {pt : Part} {d : Dev} {m : PatModel} {r0 : List (Option (List Nat))} {e0 : Dev} (hk : d.Kept pt) (eq : (Dev.forecasts d m) = (r0, e0)) : e0.Kept pt := by
  have k := @Dev.forecasts_kept; grind

theorem Dev.zonePredict_kept {pt : Part} {d : Dev} (m : PatModel) (s : Nat) (ts : List (List Int)) (z : Nat) (hk : d.Kept pt) :
    (Dev.zonePredict d m s ts z).Kept pt := by
  unfold Dev.zonePredict
  repeat' first | (with_reducible first | assumption | apply Dev.setZone_kept | apply Dev.Kept.canon | refine ite_kept ?_ ?_) | split | (unfold Dev.Kept; dsimp only) | dsimp only

theorem Dev.hostPredStep_kept {pt : Part} {d : Dev} (p : HostPred) (rest : List HostPred) (x : Sys2Proof.Desc) (done : Nat) (hk : d.Kept pt) :
    (Dev.hostPredStep d p rest x done).Kept pt := by
  unfold Dev.hostPredStep
  repeat' first | (with_reducible first | assumption | intro _ | refine Dev.forecasts_kept_of ?_ (by assumption) | apply Dev.forecasts_kept | apply Dev.showPat_kept | refine Dev.readState_kept_of ?_ (by assumption) | apply Dev.readState_kept | apply Dev.tableFault_kept | refine Dev.readTables_kept_of ?_ (by assumption) | apply Dev.readTables_kept | apply Dev.memWrite_kept | apply Dev.done_kept | apply Dev.Kept.canon | refine ite_kept ?_ ?_ | refine foldl_kept (fun _ _ _ => ?_) ?_ _ | refine foldl_snd2_kept (fun _ _ _ => ?_) ?_ _ | refine foldl_snd_kept (fun _ _ _ => ?_) ?_ _ | refine foldl_fst_kept (fun _ _ _ => ?_) ?_ _) | split | (unfold Dev.Kept; dsimp only) | dsimp only

theorem Dev.patChecked_kept {pt : Part} {d : Dev} (x : Sys2Proof.Desc) (hk : d.Kept pt) :
    (Dev.patChecked d x).Kept pt := by
  unfold Dev.patChecked
  repeat' first | (with_reducible first | assumption | intro _ | apply Dev.endLoad_kept | refine Dev.readStaged_kept_of ?_ (by assumption) | apply Dev.readStaged_kept | refine Dev.readWords_kept_of ?_ (by assumption) | apply Dev.readWords_kept | apply Dev.Kept.canon | refine ite_kept ?_ ?_) | split | (unfold Dev.Kept; dsimp only) | dsimp only

theorem Dev.patSlotWritten_kept {pt : Part} {d : Dev} (id : Nat) (hk : d.Kept pt) :
    (Dev.patSlotWritten d id).Kept pt := by
  unfold Dev.patSlotWritten
  repeat' first | (with_reducible first | assumption | apply Dev.showRunning_kept | refine Dev.patCommit_kept_of ?_ (by assumption) | apply Dev.patCommit_kept | apply Dev.Kept.canon | refine ite_kept ?_ ?_) | split | (unfold Dev.Kept; dsimp only) | dsimp only

theorem bodyPatLoad_kept {pt : Part} (id : Nat) (x : Sys2Proof.Desc) {d : Dev} (hk : d.Kept pt) :
    (bodyPatLoad id x d).Kept pt := by
  unfold bodyPatLoad
  repeat' first | (with_reducible first | assumption | apply Dev.showPat_kept | apply Dev.fail_kept | apply Dev.Kept.canon | refine ite_kept ?_ ?_) | split | (unfold Dev.Kept; dsimp only) | dsimp only

theorem bodyPatPredict_kept {pt : Part} (id : Nat) (x : Sys2Proof.Desc) {d : Dev} (hk : d.Kept pt) :
    (bodyPatPredict id x d).Kept pt := by
  unfold bodyPatPredict
  repeat' first | (with_reducible first | assumption | intro _ | apply Dev.showPat_kept | apply Dev.fail_kept | apply Dev.Kept.canon | refine ite_kept ?_ ?_) | split | (unfold Dev.Kept; dsimp only) | dsimp only

theorem settlePat_kept {pt : Part} (id : Nat) (r : Rec) {d : Dev} (hk : d.Kept pt) :
    (settlePat id r d).Kept pt := by
  unfold settlePat
  repeat' first | (with_reducible first | assumption | intro _ | apply Dev.endLoad_kept | apply Dev.showPat_kept | apply Dev.done_kept | apply Dev.fail_kept | apply Dev.finish_kept | apply Dev.Kept.canon | refine ite_kept ?_ ?_) | split | (unfold Dev.Kept; dsimp only) | dsimp only

theorem bodyPatAbort_kept {pt : Part} (id : Nat) (x : Sys2Proof.Desc) {d : Dev} (hk : d.Kept pt) :
    (bodyPatAbort id x d).Kept pt := by
  unfold bodyPatAbort
  repeat' first | (with_reducible first | assumption | apply settlePat_kept | apply Dev.abortDesc_kept | apply Dev.fail_kept | apply Dev.Kept.canon | refine ite_kept ?_ ?_) | split | (unfold Dev.Kept; dsimp only) | dsimp only

theorem bodyPatReset_kept {pt : Part} (id : Nat) (x : Sys2Proof.Desc) {d : Dev} (hk : d.Kept pt) :
    (bodyPatReset id x d).Kept pt := by
  unfold bodyPatReset
  repeat' first | (with_reducible first | assumption | apply Dev.patResets_kept | apply Dev.fail_kept | apply Dev.Kept.canon | refine ite_kept ?_ ?_) | split | (unfold Dev.Kept; dsimp only) | dsimp only

theorem Dev.patDip_kept {pt : Part} {d : Dev} (hk : d.Kept pt) :
    (Dev.patDip d).Kept pt := by
  unfold Dev.patDip
  repeat' first | (with_reducible first | assumption | apply Dev.endPredictions_kept | apply Dev.endLoad_kept | apply Dev.Kept.canon) | (unfold Dev.Kept; dsimp only) | dsimp only

theorem Dev.writePatCtrl_kept {pt : Part} {d : Dev} (v : Nat) (hk : d.Kept pt) :
    (Dev.writePatCtrl d v).Kept pt := by
  unfold Dev.writePatCtrl
  repeat' first | (with_reducible first | assumption | apply Dev.showRunning_kept | apply Dev.patCtrl_kept | apply Dev.putHost_kept | apply Dev.Kept.canon | refine ite_kept ?_ ?_) | split | (unfold Dev.Kept; dsimp only) | dsimp only

theorem Dev.patRestore_kept {pt : Part} {d : Dev} (est : Option (List Nat)) (hk : d.Kept pt) :
    (Dev.patRestore d est).Kept pt := by
  unfold Dev.patRestore
  repeat' first | (with_reducible first | assumption | intro _ | apply Dev.showRunning_kept | apply Dev.placeModel_kept | apply Dev.publishNodes_kept | apply Dev.Kept.canon | refine ite_kept ?_ ?_) | split | (unfold Dev.Kept; dsimp only) | dsimp only

/-! ### Loop -/

theorem Dev.setLoop_kept {pt : Part} {d : Dev} (l : Nat) (x : LoopSt) (hk : d.Kept pt) :
    (Dev.setLoop d l x).Kept pt := by
  unfold Dev.setLoop
  repeat' first | (with_reducible first | assumption | apply Dev.Kept.canon) | (unfold Dev.Kept; dsimp only) | dsimp only

theorem Dev.readSecs_kept {pt : Part} {d : Dev} (a1 : List Nat) (hk : d.Kept pt) :
    (Dev.readSecs d a1).2.2.Kept pt := by
  induction a1 generalizing d with
  | nil => unfold Dev.readSecs; repeat' first | (with_reducible first | assumption | intro _ | refine Dev.readWords_kept_of ?_ (by assumption) | apply Dev.readWords_kept | apply Dev.Kept.canon) | split | (unfold Dev.Kept; dsimp only) | dsimp only
  | cons b t ih => unfold Dev.readSecs; repeat' first | with_reducible apply ih | (with_reducible first | assumption | intro _ | refine Dev.readWords_kept_of ?_ (by assumption) | apply Dev.readWords_kept | apply Dev.Kept.canon) | split | (unfold Dev.Kept; dsimp only) | dsimp only

theorem Dev.readSecs_kept_of {pt : Part} {d : Dev} {a1 : List Nat} {r0 : Option SecStates} {r1 : Option Nat} {e0 : Dev} (hk : d.Kept pt) (eq : (Dev.readSecs d a1) = (r0, r1, e0)) : e0.Kept pt := by
  have k := @Dev.readSecs_kept; grind

theorem Dev.writeSecs_kept {pt : Part} {d : Dev} (ks : List Nat) (st : SecStates) (hk : d.Kept pt) :
    (Dev.writeSecs d ks st).Kept pt := by
  unfold Dev.writeSecs
  repeat' first | (with_reducible first | assumption | intro _ | apply Dev.memWrite_kept | apply Dev.Kept.canon | refine foldl_kept (fun _ _ _ => ?_) ?_ _ | refine foldl_snd2_kept (fun _ _ _ => ?_) ?_ _ | refine foldl_snd_kept (fun _ _ _ => ?_) ?_ _ | refine foldl_fst_kept (fun _ _ _ => ?_) ?_ _) | (unfold Dev.Kept; dsimp only) | dsimp only

theorem Dev.showLoop_kept {pt : Part} {d : Dev} (l : Nat) (hk : d.Kept pt) :
    (Dev.showLoop d l).Kept pt := by
  unfold Dev.showLoop
  repeat' first | (with_reducible first | assumption | intro _ | apply Dev.put_kept | apply Dev.Kept.canon | refine ite_kept ?_ ?_) | split | (unfold Dev.Kept; dsimp only) | dsimp only

theorem Dev.showEngine_kept {pt : Part} {d : Dev} (hk : d.Kept pt) :
    (Dev.showEngine d).Kept pt := by
  unfold Dev.showEngine
  repeat' first | (with_reducible first | assumption | intro _ | apply Dev.putBit_kept | apply Dev.put_kept | apply Dev.Kept.canon | refine foldl_kept (fun _ _ _ => ?_) ?_ _ | refine foldl_snd2_kept (fun _ _ _ => ?_) ?_ _ | refine foldl_snd_kept (fun _ _ _ => ?_) ?_ _ | refine foldl_fst_kept (fun _ _ _ => ?_) ?_ _) | (unfold Dev.Kept; dsimp only) | dsimp only

theorem Dev.loopPublish_kept {pt : Part} {d : Dev} (l : Nat) (v : Int) (st : Nat) (hk : d.Kept pt) :
    (Dev.loopPublish d l v st).Kept pt := by
  unfold Dev.loopPublish
  repeat' first | (with_reducible first | assumption | apply Dev.setLoop_kept | apply Dev.setCommand_kept | apply Dev.produce_kept | apply Dev.Kept.canon | refine ite_kept ?_ ?_) | split | (unfold Dev.Kept; dsimp only) | dsimp only

theorem Dev.heldPublish_kept {pt : Part} {d : Dev} (l : Nat) (hk : d.Kept pt) :
    (Dev.heldPublish d l).Kept pt := by
  unfold Dev.heldPublish
  repeat' first | (with_reducible first | assumption | apply Dev.loopPublish_kept | apply Dev.Kept.canon | refine ite_kept ?_ ?_) | split | (unfold Dev.Kept; dsimp only) | dsimp only

theorem Dev.takeModeWaits_kept {pt : Part} {d : Dev} (l : Nat) (hk : d.Kept pt) :
    (Dev.takeModeWaits d l).Kept pt := by
  unfold Dev.takeModeWaits
  repeat' first | (with_reducible first | assumption | intro _ | apply Dev.setLoop_kept | apply Dev.Kept.canon | refine ite_kept ?_ ?_ | refine foldl_kept (fun _ _ _ => ?_) ?_ _ | refine foldl_snd2_kept (fun _ _ _ => ?_) ?_ _ | refine foldl_snd_kept (fun _ _ _ => ?_) ?_ _ | refine foldl_fst_kept (fun _ _ _ => ?_) ?_ _) | split | (unfold Dev.Kept; dsimp only) | dsimp only

theorem Dev.takeModeSource_kept {pt : Part} {d : Dev} (l : Nat) (hk : d.Kept pt) :
    (Dev.takeModeSource d l).Kept pt := by
  unfold Dev.takeModeSource
  repeat' first | (with_reducible first | assumption | apply Dev.setLoop_kept | apply Dev.raiseLimited_kept | apply Dev.Kept.canon | refine ite_kept ?_ ?_) | split | (unfold Dev.Kept; dsimp only) | dsimp only

theorem Dev.handOver_kept {pt : Part} {d : Dev} (l : Nat) (hk : d.Kept pt) :
    (Dev.handOver d l).1.Kept pt := by
  unfold Dev.handOver
  repeat' first | (with_reducible first | assumption | apply Dev.setLoop_kept | apply Dev.Kept.canon | refine ite_kept ?_ ?_) | split | (unfold Dev.Kept; dsimp only) | dsimp only

theorem Dev.handOver_kept_of {pt : Part} {d : Dev} {l : Nat} {e0 : Dev} {r1 : Option (Nat × Nat × Nat)} (hk : d.Kept pt) (eq : (Dev.handOver d l) = (e0, r1)) : e0.Kept pt := by
  have k := @Dev.handOver_kept; grind

theorem Dev.enterHold_kept {pt : Part} {d : Dev} (l : Nat) (cause : Nat) (held : Int) (hk : d.Kept pt) :
    (Dev.enterHold d l cause held).Kept pt := by
  unfold Dev.enterHold
  repeat' first | (with_reducible first | assumption | apply Dev.setLoop_kept | apply Dev.raise_kept | apply Dev.Kept.canon) | (unfold Dev.Kept; dsimp only) | dsimp only

theorem Dev.enterLoopSafe_kept {pt : Part} {d : Dev} (l : Nat) (e : Int) (hk : d.Kept pt) :
    (Dev.enterLoopSafe d l e).Kept pt := by
  unfold Dev.enterLoopSafe
  repeat' first | (with_reducible first | assumption | apply Dev.setLoop_kept | apply Dev.raise_kept | apply Dev.Kept.canon) | (unfold Dev.Kept; dsimp only) | dsimp only

theorem Dev.leaveHeld_kept {pt : Part} {d : Dev} (l : Nat) (clear : Bool) (hk : d.Kept pt) :
    (Dev.leaveHeld d l clear).Kept pt := by
  unfold Dev.leaveHeld
  repeat' first | (with_reducible first | assumption | apply Dev.setLoop_kept | apply Dev.raise_kept | apply Dev.Kept.canon | refine ite_kept ?_ ?_) | split | (unfold Dev.Kept; dsimp only) | dsimp only

theorem Dev.feCheck_kept {pt : Part} {d : Dev} (l : Nat) (e : Int) (sigma : Int) (hk : d.Kept pt) :
    (Dev.feCheck d l e sigma).1.Kept pt := by
  unfold Dev.feCheck
  repeat' first | (with_reducible first | assumption | intro _ | apply Dev.setLoop_kept | apply Dev.raiseLimited_kept | apply Dev.Kept.canon | refine ite_kept ?_ ?_) | split | (unfold Dev.Kept; dsimp only) | dsimp only

theorem Dev.feCheck_kept_of {pt : Part} {d : Dev} {l : Nat} {e : Int} {sigma : Int} {e0 : Dev} {r1 : Bool} (hk : d.Kept pt) (eq : (Dev.feCheck d l e sigma) = (e0, r1)) : e0.Kept pt := by
  have k := @Dev.feCheck_kept; grind

theorem Dev.finishWaits_kept {pt : Part} {d : Dev} (l : Nat) (before : Nat) (hk : d.Kept pt) :
    (Dev.finishWaits d l before).Kept pt := by
  unfold Dev.finishWaits
  repeat' first | (with_reducible first | assumption | intro _ | apply Dev.setLoop_kept | apply Dev.done_kept | apply Dev.Kept.canon | refine ite_kept ?_ ?_ | refine foldl_kept (fun _ _ _ => ?_) ?_ _ | refine foldl_snd2_kept (fun _ _ _ => ?_) ?_ _ | refine foldl_snd_kept (fun _ _ _ => ?_) ?_ _ | refine foldl_fst_kept (fun _ _ _ => ?_) ?_ _) | split | (unfold Dev.Kept; dsimp only) | dsimp only

theorem Dev.setChalk_kept {pt : Part} {d : Dev} (c : Nat) (x : Option ChalkSt) (hk : d.Kept pt) :
    (Dev.setChalk d c x).Kept pt := by
  unfold Dev.setChalk
  repeat' first | (with_reducible first | assumption | apply Dev.Kept.canon) | (unfold Dev.Kept; dsimp only) | dsimp only

theorem Dev.chalkValues_kept {pt : Part} {d : Dev} (x : Sys2Proof.Desc) (ctx : ChalkCtx) (hk : d.Kept pt) :
    (Dev.chalkValues d x ctx).2.Kept pt := by
  unfold Dev.chalkValues
  repeat' first | (with_reducible first | assumption | intro _ | apply Dev.nextFree_kept | apply Dev.Kept.canon | refine foldl_kept (fun _ _ _ => ?_) ?_ _ | refine foldl_snd2_kept (fun _ _ _ => ?_) ?_ _ | refine foldl_snd_kept (fun _ _ _ => ?_) ?_ _ | refine foldl_fst_kept (fun _ _ _ => ?_) ?_ _) | split | (unfold Dev.Kept; dsimp only) | dsimp only

theorem Dev.chalkValues_kept_of {pt : Part} {d : Dev} {x : Sys2Proof.Desc} {ctx : ChalkCtx} {r0 : List Int} {e0 : Dev} (hk : d.Kept pt) (eq : (Dev.chalkValues d x ctx) = (r0, e0)) : e0.Kept pt := by
  have k := @Dev.chalkValues_kept; grind

theorem Dev.showChalk_kept {pt : Part} {d : Dev} (c : Nat) (hk : d.Kept pt) :
    (Dev.showChalk d c).Kept pt := by
  unfold Dev.showChalk
  repeat' first | (with_reducible first | assumption | apply Dev.put_kept | apply Dev.Kept.canon) | split | (unfold Dev.Kept; dsimp only) | dsimp only

theorem Dev.chalkRecord_kept {pt : Part} {d : Dev} (c : Nat) (s0 : ChalkSt) (ctx : ChalkCtx) (hk : d.Kept pt) :
    (Dev.chalkRecord d c s0 ctx).Kept pt := by
  unfold Dev.chalkRecord
  repeat' first | (with_reducible first | assumption | intro _ | apply Dev.chalkValues_kept | apply Dev.setChalk_kept | apply Dev.memWrite_kept | apply Dev.raise_kept | apply Dev.put_kept | apply Dev.Kept.canon | refine ite_kept ?_ ?_) | split | (unfold Dev.Kept; dsimp only) | dsimp only

theorem Dev.chalkAll_kept {pt : Part} {d : Dev} (l : Nat) (ctx : ChalkCtx) (hk : d.Kept pt) :
    (Dev.chalkAll d l ctx).Kept pt := by
  unfold Dev.chalkAll
  repeat' first | (with_reducible first | assumption | intro _ | apply Dev.chalkRecord_kept | apply Dev.setChalk_kept | apply Dev.Kept.canon | refine ite_kept ?_ ?_ | refine foldl_kept (fun _ _ _ => ?_) ?_ _ | refine foldl_snd2_kept (fun _ _ _ => ?_) ?_ _ | refine foldl_snd_kept (fun _ _ _ => ?_) ?_ _ | refine foldl_fst_kept (fun _ _ _ => ?_) ?_ _) | split | (unfold Dev.Kept; dsimp only) | dsimp only

theorem Dev.chalkEnd_kept {pt : Part} {d : Dev} (c : Nat) (st : Status) (hk : d.Kept pt) :
    (Dev.chalkEnd d c st).Kept pt := by
  unfold Dev.chalkEnd
  repeat' first | (with_reducible first | assumption | apply Dev.showChalk_kept | apply Dev.setChalk_kept | apply Dev.finish_kept | apply Dev.Kept.canon) | split | (unfold Dev.Kept; dsimp only) | dsimp only

theorem Dev.putTrace_kept {pt : Part} {d : Dev} (q : Nat) (t : Nat) (a3 : List (List Nat)) (hk : d.Kept pt) :
    (Dev.putTrace d q t a3).Kept pt := by
  induction a3 generalizing d t with
  | nil => unfold Dev.putTrace; repeat' first | (with_reducible first | assumption | apply Dev.remoteTrace_kept | apply Dev.emit_kept | apply Dev.put_kept | apply Dev.Kept.canon | refine ite_kept ?_ ?_) | split | (unfold Dev.Kept; dsimp only) | dsimp only
  | cons b t ih => unfold Dev.putTrace; repeat' first | with_reducible apply ih | (with_reducible first | assumption | apply Dev.remoteTrace_kept | apply Dev.emit_kept | apply Dev.put_kept | apply Dev.Kept.canon | refine ite_kept ?_ ?_) | split | (unfold Dev.Kept; dsimp only) | dsimp only

theorem Dev.chalkRead_kept {pt : Part} {d : Dev} (w : Nat) (a2 : Nat) (hk : d.Kept pt) :
    (Dev.chalkRead d w a2).2.Kept pt := by
  induction a2 generalizing d w with
  | zero => unfold Dev.chalkRead; repeat' first | (with_reducible first | assumption | refine Dev.readWord_kept_of ?_ (by assumption) | apply Dev.readWord_kept | apply Dev.Kept.canon) | split | (unfold Dev.Kept; dsimp only) | dsimp only
  | succ n ih => unfold Dev.chalkRead; repeat' first | with_reducible apply ih | (with_reducible first | assumption | refine Dev.readWord_kept_of ?_ (by assumption) | apply Dev.readWord_kept | apply Dev.Kept.canon) | split | (unfold Dev.Kept; dsimp only) | dsimp only

theorem Dev.chalkRead_kept_of {pt : Part} {d : Dev} {w : Nat} {a2 : Nat} {r0 : (List (List Nat) × Bool)} {e0 : Dev} (hk : d.Kept pt) (eq : (Dev.chalkRead d w a2) = (r0, e0)) : e0.Kept pt := by
  have k := @Dev.chalkRead_kept; grind

theorem Dev.heldStates_kept {pt : Part} {d : Dev} (l : Nat) (hk : d.Kept pt) :
    (Dev.heldStates d l).2.Kept pt := by
  unfold Dev.heldStates
  repeat' first | (with_reducible first | assumption | intro _ | apply Dev.writeSecs_kept | refine Dev.readSecs_kept_of ?_ (by assumption) | apply Dev.readSecs_kept | apply Dev.setLoop_kept | apply Dev.Kept.canon | refine ite_kept ?_ ?_) | split | (unfold Dev.Kept; dsimp only) | dsimp only

theorem Dev.heldStates_kept_of {pt : Part} {d : Dev} {l : Nat} {r0 : SecStates} {e0 : Dev} (hk : d.Kept pt) (eq : (Dev.heldStates d l) = (r0, e0)) : e0.Kept pt := by
  have k := @Dev.heldStates_kept; grind

theorem Dev.heldCompute_kept {pt : Part} {d : Dev} (l : Nat) (before : Nat) (sp : Option Int) (fb : Option Int) (ev : Nat) (hk : d.Kept pt) :
    (Dev.heldCompute d l before sp fb ev).Kept pt := by
  unfold Dev.heldCompute
  repeat' first | (with_reducible first | assumption | refine Dev.heldStates_kept_of ?_ (by assumption) | apply Dev.heldStates_kept | apply Dev.chalkAll_kept | apply Dev.finishWaits_kept | refine Dev.feCheck_kept_of ?_ (by assumption) | apply Dev.feCheck_kept | apply Dev.enterLoopSafe_kept | apply Dev.heldPublish_kept | apply Dev.showLoop_kept | apply Dev.setLoop_kept | apply Dev.Kept.canon | refine ite_kept ?_ ?_) | split | (unfold Dev.Kept; dsimp only) | dsimp only

theorem Dev.runCompute_kept {pt : Part} {d : Dev} (l : Nat) (before : Nat) (missing : Bool) (st : SecStates) (sp : Int) (fb : Int) (ff : Int) (sps : List (Nat × Int)) (subst : Bool) (ho : Option (Nat × Nat × Nat)) (hk : d.Kept pt) :
    (Dev.runCompute d l before missing st sp fb ff sps subst ho).Kept pt := by
  unfold Dev.runCompute
  repeat' first | (with_reducible first | assumption | intro _ | apply Dev.chalkAll_kept | apply Dev.finishWaits_kept | refine Dev.feCheck_kept_of ?_ (by assumption) | apply Dev.feCheck_kept | apply Dev.enterLoopSafe_kept | apply Dev.enterHold_kept | apply Dev.heldPublish_kept | apply Dev.loopPublish_kept | apply Dev.showLoop_kept | apply Dev.writeSecs_kept | apply Dev.setLoop_kept | apply Dev.raise_kept | apply Dev.Kept.canon | refine ite_kept ?_ ?_) | split | (unfold Dev.Kept; dsimp only) | dsimp only

theorem Dev.loopCompute_kept {pt : Part} {d : Dev} (l : Nat) (hk : d.Kept pt) :
    (Dev.loopCompute d l).Kept pt := by
  unfold Dev.loopCompute
  extract_lets b before node reads dr dm x0 rel x1 en d0 fbr ffr spr keep d1 spAt miss clear release go held d2 h y missing d3 stale r sps z
  have hr0 : dr.Kept pt := foldl_kept (fun _ _ hy => Dev.touchValue_kept _ _ _ hy) hk _
  have hm : dm.Kept pt := Dev.takeModeSource_kept _ (Dev.takeModeWaits_kept _ hr0)
  clear_value dr dm
  have hu : Dev.Kept pt { dm with eng := { dm.eng with unforced := Map.set dm.eng.unforced (lpTarget b % 2 ^ 20) none none } } := hm.canon
  have h1 : d1.Kept pt := Dev.setLoop_kept _ _ (Dev.setLoop_kept _ _ hu)
  clear_value d1
  have h2 : d2.Kept pt := ite_kept (Dev.leaveHeld_kept _ _ h1) h1
  clear_value d2
  have h3 : d3.Kept pt := Dev.setLoop_kept _ _ (Dev.handOver_kept _ h2)
  clear_value d3
  have hr : r.2.2.Kept pt := Dev.readSecs_kept _ h3
  clear_value r
  have hz : z.Kept pt := Dev.logFault_kept _ _ _ (Dev.writeSecs_kept _ _ hr)
  clear_value z held go
  refine ite_kept (Dev.heldCompute_kept _ _ _ _ _ (Dev.setLoop_kept _ _ h1)) ?_
  split
  · refine ite_kept (Dev.heldCompute_kept _ _ _ _ _ (Dev.enterHold_kept _ _ _ h3)) ?_
    split
    · exact Dev.runCompute_kept _ _ _ _ _ _ _ _ _ _ hr
    · exact Dev.heldCompute_kept _ _ _ _ _ (Dev.enterHold_kept _ _ _ hz)
  · exact Dev.heldCompute_kept _ _ _ _ _ (Dev.enterHold_kept _ _ _ h3)

theorem Dev.countMissed_kept {pt : Part} {d : Dev} (a : Nat) (e : Nat) (hk : d.Kept pt) :
    (Dev.countMissed d a e).Kept pt := by
  unfold Dev.countMissed
  repeat' first | (with_reducible first | assumption | intro _ | apply Dev.put_kept | apply Dev.Kept.canon | refine foldl_kept (fun _ _ _ => ?_) ?_ _ | refine foldl_snd2_kept (fun _ _ _ => ?_) ?_ _ | refine foldl_snd_kept (fun _ _ _ => ?_) ?_ _ | refine foldl_fst_kept (fun _ _ _ => ?_) ?_ _) | (unfold Dev.Kept; dsimp only) | dsimp only

theorem Dev.loopResumed_kept {pt : Part} {d : Dev} (hk : d.Kept pt) :
    (Dev.loopResumed d).Kept pt := by
  unfold Dev.loopResumed
  repeat' first | (with_reducible first | assumption | apply Dev.countMissed_kept | apply Dev.raise_kept | apply Dev.Kept.canon | refine ite_kept ?_ ?_) | split | (unfold Dev.Kept; dsimp only) | dsimp only

theorem Dev.resumeAll_kept {pt : Part} {d : Dev} (hk : d.Kept pt) :
    (Dev.resumeAll d).Kept pt := by
  unfold Dev.resumeAll
  repeat' first | (with_reducible first | assumption | intro _ | apply Dev.setLoop_kept | apply Dev.Kept.canon | refine ite_kept ?_ ?_ | refine foldl_kept (fun _ _ _ => ?_) ?_ _ | refine foldl_snd2_kept (fun _ _ _ => ?_) ?_ _ | refine foldl_snd_kept (fun _ _ _ => ?_) ?_ _ | refine foldl_fst_kept (fun _ _ _ => ?_) ?_ _) | split | (unfold Dev.Kept; dsimp only) | dsimp only

theorem Dev.loopStop_kept {pt : Part} {d : Dev} (from_ : Nat) (cause : Nat) (hk : d.Kept pt) :
    (Dev.loopStop d from_ cause).Kept pt := by
  unfold Dev.loopStop
  repeat' first | (with_reducible first | assumption | apply Dev.putBit_kept | apply Dev.Kept.canon | refine ite_kept ?_ ?_) | split | (unfold Dev.Kept; dsimp only) | dsimp only

theorem Dev.loopBack_kept {pt : Part} {d : Dev} (from_ : Nat) (hk : d.Kept pt) :
    (Dev.loopBack d from_).Kept pt := by
  unfold Dev.loopBack
  repeat' first | (with_reducible first | assumption | apply Dev.resumeAll_kept | apply Dev.countMissed_kept | apply Dev.putBit_kept | apply Dev.put_kept | apply Dev.Kept.canon | refine ite_kept ?_ ?_) | split | (unfold Dev.Kept; dsimp only) | dsimp only

theorem Dev.writeLoopCtrl_kept {pt : Part} {d : Dev} (v : Nat) (hk : d.Kept pt) :
    (Dev.writeLoopCtrl d v).Kept pt := by
  unfold Dev.writeLoopCtrl
  repeat' first | (with_reducible first | assumption | apply Dev.resumeAll_kept | apply Dev.putHost_kept | apply Dev.putBit_kept | apply Dev.Kept.canon | refine ite_kept ?_ ?_) | split | (unfold Dev.Kept; dsimp only) | dsimp only

theorem Dev.endSet_kept {pt : Part} {d : Dev} (id : Nat) (st : Status) (result : Nat) (hk : d.Kept pt) :
    (Dev.endSet d id st result).Kept pt := by
  unfold Dev.endSet
  repeat' first | (with_reducible first | assumption | intro _ | apply Dev.showEngine_kept | apply Dev.finish_kept | apply Dev.Kept.canon) | (unfold Dev.Kept; dsimp only) | dsimp only

theorem Dev.loopChecked_kept {pt : Part} {d : Dev} (id : Nat) (x : Sys2Proof.Desc) (hk : d.Kept pt) :
    (Dev.loopChecked d id x).Kept pt := by
  unfold Dev.loopChecked
  repeat' first | (with_reducible first | assumption | intro _ | apply Dev.endSet_kept | apply Dev.showEngine_kept | refine Dev.readWords_kept_of ?_ (by assumption) | apply Dev.readWords_kept | apply Dev.Kept.canon | refine ite_kept ?_ ?_) | split | (unfold Dev.Kept; dsimp only) | dsimp only

theorem Dev.admitLoop_kept {pt : Part} {d : Dev} (l : Nat) (b : List Nat) (lane : Nat) (secs : List Nat) (keep : Bool) (hk : d.Kept pt) :
    (Dev.admitLoop d l b lane secs keep).Kept pt := by
  unfold Dev.admitLoop
  repeat' first | (with_reducible first | assumption | apply Dev.showLoop_kept | apply Dev.writeSecs_kept | apply Dev.setLoop_kept | apply Dev.setWriter_kept | apply Dev.raise_kept | apply Dev.put_kept | apply Dev.Kept.canon | refine ite_kept ?_ ?_) | split | (unfold Dev.Kept; dsimp only) | dsimp only

theorem Dev.removeLoop_kept {pt : Part} {d : Dev} (l : Nat) (id : Nat) (hk : d.Kept pt) :
    (Dev.removeLoop d l id).Kept pt := by
  unfold Dev.removeLoop
  repeat' first | (with_reducible first | assumption | intro _ | apply Dev.chalkEnd_kept | apply Dev.showEngine_kept | apply Dev.showLoop_kept | apply Dev.setLoop_kept | apply Dev.setBlock_kept | apply Dev.setWriter_kept | apply Dev.done_kept | apply Dev.fail_kept | apply Dev.put_kept | apply Dev.Kept.canon | refine ite_kept ?_ ?_ | refine foldl_kept (fun _ _ _ => ?_) ?_ _ | refine foldl_snd2_kept (fun _ _ _ => ?_) ?_ _ | refine foldl_snd_kept (fun _ _ _ => ?_) ?_ _ | refine foldl_fst_kept (fun _ _ _ => ?_) ?_ _) | split | (unfold Dev.Kept; dsimp only) | dsimp only

theorem Dev.loopRestore_kept {pt : Part} {d : Dev} (hk : d.Kept pt) :
    (Dev.loopRestore d).Kept pt := by
  unfold Dev.loopRestore
  repeat' first | (with_reducible first | assumption | intro _ | apply Dev.admitLoop_kept | apply Dev.showEngine_kept | apply Dev.raise_kept | apply Dev.Kept.canon | refine ite_kept ?_ ?_ | refine foldl_kept (fun _ _ _ => ?_) ?_ _ | refine foldl_snd2_kept (fun _ _ _ => ?_) ?_ _ | refine foldl_snd_kept (fun _ _ _ => ?_) ?_ _ | refine foldl_fst_kept (fun _ _ _ => ?_) ?_ _) | split | (unfold Dev.Kept; dsimp only) | dsimp only

theorem bodyLoopSet_kept {pt : Part} (id : Nat) (x : Sys2Proof.Desc) {d : Dev} (hk : d.Kept pt) :
    (bodyLoopSet id x d).Kept pt := by
  unfold bodyLoopSet
  repeat' first | (with_reducible first | assumption | intro _ | apply Dev.showEngine_kept | apply Dev.fail_kept | apply Dev.Kept.canon | refine ite_kept ?_ ?_) | split | (unfold Dev.Kept; dsimp only) | dsimp only

theorem Dev.onLoop_kept {pt : Part} {d : Dev} (id : Nat) (x : Sys2Proof.Desc) (f : Nat → Dev) (hk : d.Kept pt) (hff : ∀ (x0 : Nat), (f x0).Kept pt) :
    (Dev.onLoop d id x f).Kept pt := by
  unfold Dev.onLoop
  repeat' first | (with_reducible first | assumption | intro _ | apply Dev.fail_kept | apply hff | apply Dev.Kept.canon | refine ite_kept ?_ ?_) | split | (unfold Dev.Kept; dsimp only) | dsimp only

theorem bodyLoopRemove_kept {pt : Part} (id : Nat) (x : Sys2Proof.Desc) {d : Dev} (hk : d.Kept pt) :
    (bodyLoopRemove id x d).Kept pt := by
  unfold bodyLoopRemove
  repeat' first | (with_reducible first | assumption | intro _ | apply Dev.onLoop_kept | apply Dev.fail_kept | apply Dev.Kept.canon | refine ite_kept ?_ ?_) | split | (unfold Dev.Kept; dsimp only) | dsimp only

theorem Dev.loopWait_kept {pt : Part} {d : Dev} (l : Nat) (w : LoopWait) (hk : d.Kept pt) :
    (Dev.loopWait d l w).Kept pt := by
  unfold Dev.loopWait
  repeat' first | (with_reducible first | assumption | apply Dev.setLoop_kept | apply Dev.Kept.canon) | (unfold Dev.Kept; dsimp only) | dsimp only

theorem bodyLoopMode_kept {pt : Part} (id : Nat) (x : Sys2Proof.Desc) {d : Dev} (hk : d.Kept pt) :
    (bodyLoopMode id x d).Kept pt := by
  unfold bodyLoopMode
  repeat' first | (with_reducible first | assumption | intro _ | apply Dev.loopWait_kept | apply Dev.onLoop_kept | apply Dev.fail_kept | apply Dev.Kept.canon | refine ite_kept ?_ ?_) | split | (unfold Dev.Kept; dsimp only) | dsimp only

theorem bodyLoopHold_kept {pt : Part} (id : Nat) (x : Sys2Proof.Desc) {d : Dev} (hk : d.Kept pt) :
    (bodyLoopHold id x d).Kept pt := by
  unfold bodyLoopHold
  repeat' first | (with_reducible first | assumption | intro _ | apply Dev.loopWait_kept | apply Dev.onLoop_kept | apply Dev.done_kept | apply Dev.fail_kept | apply Dev.Kept.canon | refine ite_kept ?_ ?_) | split | (unfold Dev.Kept; dsimp only) | dsimp only

theorem bodyLoopClear_kept {pt : Part} (id : Nat) (x : Sys2Proof.Desc) {d : Dev} (hk : d.Kept pt) :
    (bodyLoopClear id x d).Kept pt := by
  unfold bodyLoopClear
  repeat' first | (with_reducible first | assumption | intro _ | apply Dev.loopWait_kept | apply Dev.onLoop_kept | apply Dev.done_kept | apply Dev.Kept.canon | refine ite_kept ?_ ?_) | split | (unfold Dev.Kept; dsimp only) | dsimp only

theorem bodyChalkArm_kept {pt : Part} (id : Nat) (x : Sys2Proof.Desc) {d : Dev} (hk : d.Kept pt) :
    (bodyChalkArm id x d).Kept pt := by
  unfold bodyChalkArm
  repeat' first | (with_reducible first | assumption | intro _ | apply Dev.showChalk_kept | apply Dev.setChalk_kept | apply Dev.done_kept | apply Dev.fail_kept | apply Dev.put_kept | apply Dev.Kept.canon | refine ite_kept ?_ ?_) | split | (unfold Dev.Kept; dsimp only) | dsimp only

theorem bodyChalkTrigger_kept {pt : Part} (id : Nat) (x : Sys2Proof.Desc) {d : Dev} (hk : d.Kept pt) :
    (bodyChalkTrigger id x d).Kept pt := by
  unfold bodyChalkTrigger
  repeat' first | (with_reducible first | assumption | apply Dev.setChalk_kept | apply Dev.done_kept | apply Dev.fail_kept | apply Dev.Kept.canon | refine ite_kept ?_ ?_) | split | (unfold Dev.Kept; dsimp only) | dsimp only

theorem bodyChalkStop_kept {pt : Part} (id : Nat) (x : Sys2Proof.Desc) {d : Dev} (hk : d.Kept pt) :
    (bodyChalkStop id x d).Kept pt := by
  unfold bodyChalkStop
  repeat' first | (with_reducible first | assumption | apply Dev.chalkEnd_kept | apply Dev.done_kept | apply Dev.fail_kept | apply Dev.Kept.canon | refine ite_kept ?_ ?_) | split | (unfold Dev.Kept; dsimp only) | dsimp only

theorem settleLoop_kept {pt : Part} (id : Nat) (r : Rec) {d : Dev} (hk : d.Kept pt) :
    (settleLoop id r d).Kept pt := by
  unfold settleLoop
  repeat' first | (with_reducible first | assumption | intro _ | apply Dev.endSet_kept | apply Dev.done_kept | apply Dev.fail_kept | apply Dev.Kept.canon | refine ite_kept ?_ ?_) | split | (unfold Dev.Kept; dsimp only) | dsimp only

theorem bodyLoopAbort_kept {pt : Part} (id : Nat) (x : Sys2Proof.Desc) {d : Dev} (hk : d.Kept pt) :
    (bodyLoopAbort id x d).Kept pt := by
  unfold bodyLoopAbort
  repeat' first | (with_reducible first | assumption | apply settleLoop_kept | apply Dev.abortDesc_kept | apply Dev.fail_kept | apply Dev.Kept.canon | refine ite_kept ?_ ?_) | split | (unfold Dev.Kept; dsimp only) | dsimp only

theorem Dev.loopDip_kept {pt : Part} {d : Dev} (hk : d.Kept pt) :
    (Dev.loopDip d).Kept pt := by
  unfold Dev.loopDip
  repeat' first | (with_reducible first | assumption | intro _ | apply Dev.endSet_kept | apply Dev.Kept.canon | refine foldl_kept (fun _ _ _ => ?_) ?_ _ | refine foldl_snd2_kept (fun _ _ _ => ?_) ?_ _ | refine foldl_snd_kept (fun _ _ _ => ?_) ?_ _ | refine foldl_fst_kept (fun _ _ _ => ?_) ?_ _) | (unfold Dev.Kept; dsimp only) | dsimp only

theorem Dev.delayPut_kept {pt : Part} {d : Dev} (name : Nat) (qty : Nat) (w : VW) (hk : d.Kept pt) :
    (Dev.delayPut d name qty w).Kept pt := by
  unfold Dev.delayPut
  repeat' first | (with_reducible first | assumption | intro _ | apply Dev.Kept.canon) | (unfold Dev.Kept; dsimp only) | dsimp only

theorem Dev.countLate_kept {pt : Part} {d : Dev} (name : Nat) (qty : Nat) (w : VW) (hk : d.Kept pt) :
    (Dev.countLate d name qty w).Kept pt := by
  unfold Dev.countLate
  repeat' first | (with_reducible first | assumption | intro _ | apply Dev.bump_kept | apply Dev.Kept.canon | refine ite_kept ?_ ?_ | refine foldl_kept (fun _ _ _ => ?_) ?_ _ | refine foldl_snd2_kept (fun _ _ _ => ?_) ?_ _ | refine foldl_snd_kept (fun _ _ _ => ?_) ?_ _ | refine foldl_fst_kept (fun _ _ _ => ?_) ?_ _) | split | (unfold Dev.Kept; dsimp only) | dsimp only

/-! ### Quilt -/

theorem Dev.elect_kept {pt : Part} {d : Dev} (cands : List (Nat × Nat × Nat)) (hk : d.Kept pt) :
    (Dev.elect d cands).Kept pt := by
  unfold Dev.elect
  repeat' first | (with_reducible first | assumption | apply Dev.followHops_kept | apply Dev.raise_kept | apply Dev.putBit_kept | apply Dev.put_kept | apply Dev.Kept.canon | refine ite_kept ?_ ?_) | split | (unfold Dev.Kept; dsimp only) | dsimp only

theorem Dev.takeOffset_kept {pt : Part} {d : Dev} (ns : Int) (hk : d.Kept pt) :
    (Dev.takeOffset d ns).Kept pt := by
  unfold Dev.takeOffset
  repeat' first | (with_reducible first | assumption | apply Dev.raise_kept | apply Dev.putBit_kept | apply Dev.put_kept | apply Dev.Kept.canon | refine ite_kept ?_ ?_) | split | (unfold Dev.Kept; dsimp only) | dsimp only

theorem Dev.skipShort_kept {pt : Part} {d : Dev} (p : Nat) (hk : d.Kept pt) :
    (Dev.skipShort d p).Kept pt := by
  unfold Dev.skipShort
  repeat' first | (with_reducible first | assumption | apply Dev.putBit_kept | apply Dev.Kept.canon) | (unfold Dev.Kept; dsimp only) | dsimp only

theorem Dev.takeStamps_kept {pt : Part} {d : Dev} (p : Nat) (n : Nat) (rxb : Nat) (txb : Nat) (hk : d.Kept pt) :
    (Dev.takeStamps d p n rxb txb).Kept pt := by
  unfold Dev.takeStamps
  repeat' first | (with_reducible first | assumption | apply Dev.skipShort_kept | apply Dev.setPort_kept | apply Dev.put_kept | apply Dev.Kept.canon | refine ite_kept ?_ ?_) | split | (unfold Dev.Kept; dsimp only) | dsimp only

theorem Dev.reportNbrs_kept {pt : Part} {d : Dev} (hk : d.Kept pt) :
    (Dev.reportNbrs d).Kept pt := by
  unfold Dev.reportNbrs
  repeat' first | (with_reducible first | assumption | intro _ | apply Dev.sendControl_kept | apply Dev.Kept.canon | refine ite_kept ?_ ?_) | split | (unfold Dev.Kept; dsimp only) | dsimp only

theorem Dev.setNbr_kept {pt : Part} {d : Dev} (p : Nat) (dev : Nat) (port : Nat) (numbered : Bool) (dup : Bool) (hk : d.Kept pt) :
    (Dev.setNbr d p dev port numbered dup).Kept pt := by
  unfold Dev.setNbr
  repeat' first | (with_reducible first | assumption | apply Dev.reportNbrs_kept | apply Dev.raise_kept | apply Dev.putBit_kept | apply Dev.put_kept | apply Dev.Kept.canon | refine ite_kept ?_ ?_) | split | (unfold Dev.Kept; dsimp only) | dsimp only

theorem Dev.sendAudit_kept {pt : Part} {d : Dev} (p : Nat) (c : Nat) (hk : d.Kept pt) :
    (Dev.sendAudit d p c).Kept pt := by
  unfold Dev.sendAudit
  repeat' first | (with_reducible first | assumption | apply Dev.emit_kept | apply Dev.Kept.canon) | (unfold Dev.Kept; dsimp only) | dsimp only

theorem Dev.sendAudits_kept {pt : Part} {d : Dev} (p : Nat) (hk : d.Kept pt) :
    (Dev.sendAudits d p).Kept pt := by
  unfold Dev.sendAudits
  repeat' first | (with_reducible first | assumption | intro _ | apply Dev.sendAudit_kept | apply Dev.Kept.canon | refine foldl_kept (fun _ _ _ => ?_) ?_ _ | refine foldl_snd2_kept (fun _ _ _ => ?_) ?_ _ | refine foldl_snd_kept (fun _ _ _ => ?_) ?_ _ | refine foldl_fst_kept (fun _ _ _ => ?_) ?_ _) | (unfold Dev.Kept; dsimp only) | dsimp only

theorem Dev.quiltTrain_kept {pt : Part} {d : Dev} (cands : List (Nat × Nat × Nat)) (hk : d.Kept pt) :
    (Dev.quiltTrain d cands).Kept pt := by
  unfold Dev.quiltTrain
  repeat' first | (with_reducible first | assumption | apply Dev.elect_kept | apply Dev.put_kept | apply Dev.Kept.canon | refine ite_kept ?_ ?_) | split | (unfold Dev.Kept; dsimp only) | dsimp only

theorem Dev.trainCounts_kept {pt : Part} {d : Dev} (p : Nat) (used : List Nat) (hk : d.Kept pt) :
    (Dev.trainCounts d p used).Kept pt := by
  unfold Dev.trainCounts
  repeat' first | (with_reducible first | assumption | intro _ | apply Dev.setPort_kept | apply Dev.put_kept | apply Dev.Kept.canon | refine foldl_kept (fun _ _ _ => ?_) ?_ _ | refine foldl_snd2_kept (fun _ _ _ => ?_) ?_ _ | refine foldl_snd_kept (fun _ _ _ => ?_) ?_ _ | refine foldl_fst_kept (fun _ _ _ => ?_) ?_ _) | (unfold Dev.Kept; dsimp only) | dsimp only

theorem Dev.linkUp_kept {pt : Part} {d : Dev} (p : Nat) (hk : d.Kept pt) :
    (Dev.linkUp d p).Kept pt := by
  unfold Dev.linkUp
  repeat' first | (with_reducible first | assumption | apply Dev.auditReached_kept | apply Dev.reroute_kept | apply Dev.pump_kept | apply Dev.setPortState_kept | apply Dev.setPort_kept | apply Dev.raise_kept | apply Dev.put_kept | apply Dev.Kept.canon) | (unfold Dev.Kept; dsimp only) | dsimp only

theorem Dev.applyLos_kept {pt : Part} {d : Dev} (p : Nat) (hk : d.Kept pt) :
    (Dev.applyLos d p).Kept pt := by
  unfold Dev.applyLos
  repeat' first | (with_reducible first | assumption | apply Dev.enterTraining_kept | apply Dev.linkDown_kept | apply Dev.put_kept | apply Dev.Kept.canon | refine ite_kept ?_ ?_) | split | (unfold Dev.Kept; dsimp only) | dsimp only

theorem Dev.applyPortEn_kept {pt : Part} {d : Dev} (hk : d.Kept pt) :
    (Dev.applyPortEn d).Kept pt := by
  unfold Dev.applyPortEn
  repeat' first | (with_reducible first | assumption | intro _ | apply Dev.applyLos_kept | apply Dev.enterTraining_kept | apply Dev.leaveUp_kept | apply Dev.setPortState_kept | apply Dev.Kept.canon | refine ite_kept ?_ ?_ | refine foldl_kept (fun _ _ _ => ?_) ?_ _ | refine foldl_snd2_kept (fun _ _ _ => ?_) ?_ _ | refine foldl_snd_kept (fun _ _ _ => ?_) ?_ _ | refine foldl_fst_kept (fun _ _ _ => ?_) ?_ _) | split | (unfold Dev.Kept; dsimp only) | dsimp only

theorem Dev.quiltReject_kept {pt : Part} {d : Dev} (hk : d.Kept pt) :
    (Dev.quiltReject d).Kept pt := by
  unfold Dev.quiltReject
  repeat' first | (with_reducible first | assumption | apply Dev.put_kept | apply Dev.Kept.canon) | (unfold Dev.Kept; dsimp only) | dsimp only

theorem Dev.writeQuiltCfg_kept {pt : Part} {d : Dev} (v : Nat) (hk : d.Kept pt) :
    (Dev.writeQuiltCfg d v).Kept pt := by
  unfold Dev.writeQuiltCfg
  repeat' first | (with_reducible first | assumption | apply Dev.quiltReject_kept | apply Dev.applyPortEn_kept | apply Dev.putHost_kept | apply Dev.Kept.canon | refine ite_kept ?_ ?_) | split | (unfold Dev.Kept; dsimp only) | dsimp only

theorem Dev.writePortEq_kept {pt : Part} {d : Dev} (p : Nat) (v : Nat) (hk : d.Kept pt) :
    (Dev.writePortEq d p v).Kept pt := by
  unfold Dev.writePortEq
  repeat' first | (with_reducible first | assumption | apply Dev.putHost_kept | apply Dev.put_kept | apply Dev.Kept.canon) | (unfold Dev.Kept; dsimp only) | dsimp only

theorem Dev.eqStep_kept {pt : Part} {d : Dev} (p : Nat) (hk : d.Kept pt) :
    (Dev.eqStep d p).Kept pt := by
  unfold Dev.eqStep
  repeat' first | (with_reducible first | assumption | apply Dev.setPort_kept | apply Dev.Kept.canon | refine ite_kept ?_ ?_) | split | (unfold Dev.Kept; dsimp only) | dsimp only

theorem Dev.sendNak_kept {pt : Part} {d : Dev} (p : Nat) (hk : d.Kept pt) :
    (Dev.sendNak d p).Kept pt := by
  unfold Dev.sendNak
  repeat' first | (with_reducible first | assumption | apply Dev.setPort_kept | apply Dev.emit_kept | apply Dev.Kept.canon) | (unfold Dev.Kept; dsimp only) | dsimp only

theorem Dev.setGranted_kept {pt : Part} {d : Dev} (src : Nat) (c : Nat) (n : Nat) (hk : d.Kept pt) :
    (Dev.setGranted d src c n).Kept pt := by
  unfold Dev.setGranted
  repeat' first | (with_reducible first | assumption | intro _ | apply Dev.put_kept | apply Dev.Kept.canon | refine foldl_kept (fun _ _ _ => ?_) ?_ _ | refine foldl_snd2_kept (fun _ _ _ => ?_) ?_ _ | refine foldl_snd_kept (fun _ _ _ => ?_) ?_ _ | refine foldl_fst_kept (fun _ _ _ => ?_) ?_ _) | (unfold Dev.Kept; dsimp only) | dsimp only

theorem Dev.grant_kept {pt : Part} {d : Dev} (src : Nat) (c : Nat) (n : Nat) (hk : d.Kept pt) :
    (Dev.grant d src c n).Kept pt := by
  unfold Dev.grant
  repeat' first | (with_reducible first | assumption | apply Dev.setGranted_kept | apply Dev.sendControl_kept | apply Dev.Kept.canon | refine ite_kept ?_ ?_) | split | (unfold Dev.Kept; dsimp only) | dsimp only

theorem Dev.servePool_kept {pt : Part} {d : Dev} (a1 : List (Nat × Nat × Nat)) (hk : d.Kept pt) :
    (Dev.servePool d a1).Kept pt := by
  induction a1 generalizing d with
  | nil => unfold Dev.servePool; repeat' first | (with_reducible first | assumption | apply Dev.grant_kept | apply Dev.put_kept | apply Dev.Kept.canon | refine ite_kept ?_ ?_) | split | (unfold Dev.Kept; dsimp only) | dsimp only
  | cons b t ih => unfold Dev.servePool; repeat' first | with_reducible apply ih | (with_reducible first | assumption | apply Dev.grant_kept | apply Dev.put_kept | apply Dev.Kept.canon | refine ite_kept ?_ ?_) | split | (unfold Dev.Kept; dsimp only) | dsimp only

theorem Dev.setResvs_kept {pt : Part} {d : Dev} (l : List Resv) (hk : d.Kept pt) :
    (Dev.setResvs d l).Kept pt := by
  unfold Dev.setResvs
  repeat' first | (with_reducible first | assumption | intro _ | apply Dev.setBlock_kept | apply Dev.putRet_kept | apply Dev.Kept.canon | refine foldl_kept (fun _ _ _ => ?_) ?_ _ | refine foldl_snd2_kept (fun _ _ _ => ?_) ?_ _ | refine foldl_snd_kept (fun _ _ _ => ?_) ?_ _ | refine foldl_fst_kept (fun _ _ _ => ?_) ?_ _) | (unfold Dev.Kept; dsimp only) | dsimp only

theorem Dev.setInFlows_kept {pt : Part} {d : Dev} (l : List (Nat × Nat × Nat × Nat)) (hk : d.Kept pt) :
    (Dev.setInFlows d l).Kept pt := by
  unfold Dev.setInFlows
  repeat' first | (with_reducible first | assumption | intro _ | apply Dev.setBlock_kept | apply Dev.Kept.canon) | (unfold Dev.Kept; dsimp only) | dsimp only

theorem Dev.passWalk_kept {pt : Part} {d : Dev} (a : List Nat) (slot : Nat) (adv : Nat) (hk : d.Kept pt) :
    (Dev.passWalk d a slot adv).2.Kept pt := by
  unfold Dev.passWalk
  repeat' first | (with_reducible first | assumption | intro _ | apply Dev.setResvs_kept | apply Dev.sendControl_kept | apply Dev.Kept.canon | refine ite_kept ?_ ?_ | refine foldl_kept (fun _ _ _ => ?_) ?_ _ | refine foldl_snd2_kept (fun _ _ _ => ?_) ?_ _ | refine foldl_snd_kept (fun _ _ _ => ?_) ?_ _ | refine foldl_fst_kept (fun _ _ _ => ?_) ?_ _) | split | (unfold Dev.Kept; dsimp only) | dsimp only

theorem Dev.passWalk_kept_of {pt : Part} {d : Dev} {a : List Nat} {slot : Nat} {adv : Nat} {r0 : (Nat × Nat)} {e0 : Dev} (hk : d.Kept pt) (eq : (Dev.passWalk d a slot adv) = (r0, e0)) : e0.Kept pt := by
  have k := @Dev.passWalk_kept; grind

theorem Dev.removeResvs_kept {pt : Part} {d : Dev} (consumer : Nat) (src : Nat) (flow : Nat) (chain : Nat) (hk : d.Kept pt) :
    (Dev.removeResvs d consumer src flow chain).Kept pt := by
  unfold Dev.removeResvs
  repeat' first | (with_reducible first | assumption | intro _ | apply Dev.setResvs_kept | apply Dev.sendControl_kept | apply Dev.Kept.canon | refine ite_kept ?_ ?_ | refine foldl_kept (fun _ _ _ => ?_) ?_ _ | refine foldl_snd2_kept (fun _ _ _ => ?_) ?_ _ | refine foldl_snd_kept (fun _ _ _ => ?_) ?_ _ | refine foldl_fst_kept (fun _ _ _ => ?_) ?_ _) | split | (unfold Dev.Kept; dsimp only) | dsimp only

theorem Dev.replyConsumer_kept {pt : Part} {d : Dev} (consumer : Nat) (result : Nat) (port : Nat) (dev : Nat) (hops : Nat) (chain : Nat) (flow : Nat) (cls : Nat) (hk : d.Kept pt) :
    (Dev.replyConsumer d consumer result port dev hops chain flow cls).Kept pt := by
  unfold Dev.replyConsumer
  repeat' first | (with_reducible first | assumption | apply Dev.sendControl_kept | apply Dev.Kept.canon) | (unfold Dev.Kept; dsimp only) | dsimp only

theorem Dev.refuseWalk_kept {pt : Part} {d : Dev} (w : Walk) (result : Nat) (port : Nat) (dev : Nat) (hk : d.Kept pt) :
    (Dev.refuseWalk d w result port dev).Kept pt := by
  unfold Dev.refuseWalk
  repeat' first | (with_reducible first | assumption | intro _ | apply Dev.replyConsumer_kept | apply Dev.removeResvs_kept | apply Dev.setBlock_kept | apply Dev.Kept.canon | refine ite_kept ?_ ?_) | split | (unfold Dev.Kept; dsimp only) | dsimp only

theorem Dev.tryWalk_kept {pt : Part} {d : Dev} (w : Walk) (a2 : Nat) (hk : d.Kept pt) :
    (Dev.tryWalk d w a2).Kept pt := by
  induction a2 generalizing d w with
  | zero => unfold Dev.tryWalk; repeat' first | (with_reducible first | assumption | apply Dev.refuseWalk_kept | apply Dev.passWalk_kept | apply Dev.Kept.canon | refine ite_kept ?_ ?_) | split | (unfold Dev.Kept; dsimp only) | dsimp only
  | succ n ih => unfold Dev.tryWalk; repeat' first | with_reducible apply ih | (with_reducible first | assumption | apply Dev.refuseWalk_kept | apply Dev.passWalk_kept | apply Dev.Kept.canon | refine ite_kept ?_ ?_) | split | (unfold Dev.Kept; dsimp only) | dsimp only

theorem Dev.openAtSource_kept {pt : Part} {d : Dev} (a : List Nat) (hk : d.Kept pt) :
    (Dev.openAtSource d a).Kept pt := by
  unfold Dev.openAtSource
  repeat' first | (with_reducible first | assumption | intro _ | apply Dev.tryWalk_kept | apply Dev.replyConsumer_kept | apply Dev.setBlock_kept | apply Dev.Kept.canon | refine ite_kept ?_ ?_) | split | (unfold Dev.Kept; dsimp only) | dsimp only

theorem Dev.branchReply_kept {pt : Part} {d : Dev} (a : List Nat) (hk : d.Kept pt) :
    (Dev.branchReply d a).Kept pt := by
  unfold Dev.branchReply
  repeat' first | (with_reducible first | assumption | intro _ | apply Dev.tryWalk_kept | apply Dev.refuseWalk_kept | apply Dev.replyConsumer_kept | apply Dev.removeResvs_kept | apply Dev.setBlock_kept | apply Dev.Kept.canon | refine ite_kept ?_ ?_) | split | (unfold Dev.Kept; dsimp only) | dsimp only

theorem Dev.closeAtSource_kept {pt : Part} {d : Dev} (consumer : Nat) (flow : Nat) (hk : d.Kept pt) :
    (Dev.closeAtSource d consumer flow).Kept pt := by
  unfold Dev.closeAtSource
  repeat' first | (with_reducible first | assumption | intro _ | apply Dev.removeResvs_kept | apply Dev.setBlock_kept | apply Dev.Kept.canon | refine ite_kept ?_ ?_ | refine foldl_kept (fun _ _ _ => ?_) ?_ _ | refine foldl_snd2_kept (fun _ _ _ => ?_) ?_ _ | refine foldl_snd_kept (fun _ _ _ => ?_) ?_ _ | refine foldl_fst_kept (fun _ _ _ => ?_) ?_ _) | split | (unfold Dev.Kept; dsimp only) | dsimp only

theorem Dev.askSource_kept {pt : Part} {d : Dev} (kind : Nat) (chain : Nat) (src : Nat) (flow : Nat) (period : Nat) (phase : Nat) (o1 : Nat) (o2 : Nat) (hk : d.Kept pt) :
    (Dev.askSource d kind chain src flow period phase o1 o2).Kept pt := by
  unfold Dev.askSource
  repeat' first | (with_reducible first | assumption | apply Dev.sendControl_kept | apply Dev.Kept.canon) | (unfold Dev.Kept; dsimp only) | dsimp only

theorem bodyFlowOpen_kept {pt : Part} (id : Nat) (x : Sys2Proof.Desc) {d : Dev} (hk : d.Kept pt) :
    (bodyFlowOpen id x d).Kept pt := by
  unfold bodyFlowOpen
  repeat' first | (with_reducible first | assumption | intro _ | apply Dev.askSource_kept | apply Dev.fail_kept | apply Dev.finish_kept | apply Dev.Kept.canon | refine ite_kept ?_ ?_) | split | (unfold Dev.Kept; dsimp only) | dsimp only

theorem bodyFlowClose_kept {pt : Part} (id : Nat) (x : Sys2Proof.Desc) {d : Dev} (hk : d.Kept pt) :
    (bodyFlowClose id x d).Kept pt := by
  unfold bodyFlowClose
  repeat' first | (with_reducible first | assumption | intro _ | apply Dev.askSource_kept | apply Dev.setInFlows_kept | apply Dev.fail_kept | apply Dev.Kept.canon) | split | (unfold Dev.Kept; dsimp only) | dsimp only

theorem Dev.dropOp_kept {pt : Part} {d : Dev} (op : FlowOp) (hk : d.Kept pt) :
    (Dev.dropOp d op).Kept pt := by
  unfold Dev.dropOp
  repeat' first | (with_reducible first | assumption | intro _ | apply Dev.Kept.canon) | (unfold Dev.Kept; dsimp only) | dsimp only

theorem Dev.endFlowOpen_kept {pt : Part} {d : Dev} (op : FlowOp) (st : Status) (hk : d.Kept pt) :
    (Dev.endFlowOpen d op st).Kept pt := by
  unfold Dev.endFlowOpen
  repeat' first | (with_reducible first | assumption | apply Dev.dropOp_kept | apply Dev.askSource_kept | apply Dev.fail_kept | apply Dev.Kept.canon) | split | (unfold Dev.Kept; dsimp only) | dsimp only

theorem Dev.askChain_kept {pt : Part} {d : Dev} (op : FlowOp) (chain : Nat) (hk : d.Kept pt) :
    (Dev.askChain d op chain).Kept pt := by
  unfold Dev.askChain
  repeat' first | (with_reducible first | assumption | apply Dev.askSource_kept | apply Dev.Kept.canon) | split | (unfold Dev.Kept; dsimp only) | dsimp only

theorem Dev.chainReply_kept {pt : Part} {d : Dev} (src : Nat) (a : List Nat) (hk : d.Kept pt) :
    (Dev.chainReply d src a).Kept pt := by
  unfold Dev.chainReply
  repeat' first | (with_reducible first | assumption | intro _ | apply Dev.askChain_kept | apply Dev.dropOp_kept | apply Dev.askSource_kept | apply Dev.setInFlows_kept | apply Dev.done_kept | apply Dev.finish_kept | apply Dev.Kept.canon | refine ite_kept ?_ ?_) | split | (unfold Dev.Kept; dsimp only) | dsimp only

theorem Dev.removeReached_kept {pt : Part} {d : Dev} (src : Nat) (flow : Nat) (chain : Nat) (alt : Bool) (hk : d.Kept pt) :
    (Dev.removeReached d src flow chain alt).Kept pt := by
  unfold Dev.removeReached
  repeat' first | (with_reducible first | assumption | intro _ | apply Dev.dropOp_kept | apply Dev.done_kept | apply Dev.Kept.canon | refine ite_kept ?_ ?_) | split | (unfold Dev.Kept; dsimp only) | dsimp only

theorem Dev.takeAdmit_kept {pt : Part} {d : Dev} (p : Nat) (st : Stitch) (hk : d.Kept pt) :
    (Dev.takeAdmit d p st).Kept pt := by
  unfold Dev.takeAdmit
  repeat' first | (with_reducible first | assumption | intro _ | apply Dev.removeReached_kept | apply Dev.closeAtSource_kept | apply Dev.openAtSource_kept | apply Dev.removeResvs_kept | refine Dev.passWalk_kept_of ?_ (by assumption) | apply Dev.passWalk_kept | apply Dev.sendControl_kept | apply Dev.Kept.canon | refine ite_kept ?_ ?_) | split | (unfold Dev.Kept; dsimp only) | dsimp only

theorem Dev.takeReply_kept {pt : Part} {d : Dev} (st : Stitch) (hk : d.Kept pt) :
    (Dev.takeReply d st).Kept pt := by
  unfold Dev.takeReply
  repeat' first | (with_reducible first | assumption | apply Dev.chainReply_kept | apply Dev.branchReply_kept | apply Dev.Kept.canon | refine ite_kept ?_ ?_) | split | (unfold Dev.Kept; dsimp only) | dsimp only

theorem Dev.patFlows_kept {pt : Part} {d : Dev} (hk : d.Kept pt) :
    (Dev.patFlows d).Kept pt := by
  unfold Dev.patFlows
  repeat' first | (with_reducible first | assumption | intro _ | apply Dev.askSource_kept | apply Dev.setInFlows_kept | apply Dev.Kept.canon | refine ite_kept ?_ ?_ | refine foldl_kept (fun _ _ _ => ?_) ?_ _ | refine foldl_snd2_kept (fun _ _ _ => ?_) ?_ _ | refine foldl_snd_kept (fun _ _ _ => ?_) ?_ _ | refine foldl_fst_kept (fun _ _ _ => ?_) ?_ _) | split | (unfold Dev.Kept; dsimp only) | dsimp only

theorem Dev.sendFlow_kept {pt : Part} {d : Dev} (n : Nat) (hk : d.Kept pt) :
    (Dev.sendFlow d n).Kept pt := by
  unfold Dev.sendFlow
  repeat' first | (with_reducible first | assumption | intro _ | apply Dev.placeTack_kept | apply Dev.Kept.canon | refine ite_kept ?_ ?_ | refine foldl_kept (fun _ _ _ => ?_) ?_ _ | refine foldl_snd2_kept (fun _ _ _ => ?_) ?_ _ | refine foldl_snd_kept (fun _ _ _ => ?_) ?_ _ | refine foldl_fst_kept (fun _ _ _ => ?_) ?_ _) | split | (unfold Dev.Kept; dsimp only) | dsimp only

theorem Dev.sendBoundary_kept {pt : Part} {d : Dev} (n : Nat) (routed : List Nat) (hk : d.Kept pt) :
    (Dev.sendBoundary d n routed).Kept pt := by
  unfold Dev.sendBoundary
  repeat' first | (with_reducible first | assumption | intro _ | apply Dev.sendToken_kept | apply Dev.Kept.canon | refine ite_kept ?_ ?_) | split | (unfold Dev.Kept; dsimp only) | dsimp only

theorem Dev.takePair_kept {pt : Part} {d : Dev} (src : Nat) (obj : Nat) (bits : Nat) (hk : d.Kept pt) :
    (Dev.takePair d src obj bits).Kept pt := by
  unfold Dev.takePair
  repeat' first | (with_reducible first | assumption | apply Dev.countLate_kept | apply Dev.delayPut_kept | apply Dev.deliver_kept | apply Dev.Kept.canon | refine ite_kept ?_ ?_) | split | (unfold Dev.Kept; dsimp only) | dsimp only

theorem Dev.takeValue_kept {pt : Part} {d : Dev} (st : Stitch) (hk : d.Kept pt) :
    (Dev.takeValue d st).Kept pt := by
  unfold Dev.takeValue
  repeat' first | (with_reducible first | assumption | apply Dev.takePair_kept | apply Dev.Kept.canon | refine ite_kept ?_ ?_) | split | (unfold Dev.Kept; dsimp only) | dsimp only

theorem Dev.serveRead_kept {pt : Part} {d : Dev} (st : Stitch) (hk : d.Kept pt) :
    (Dev.serveRead d st).Kept pt := by
  unfold Dev.serveRead
  repeat' first | (with_reducible first | assumption | apply Dev.sendToken_kept | refine Dev.readWord_kept_of ?_ (by assumption) | apply Dev.readWord_kept | apply Dev.Kept.canon | refine ite_kept ?_ ?_) | split | (unfold Dev.Kept; dsimp only) | dsimp only

theorem Dev.serveWrite_kept {pt : Part} {d : Dev} (st : Stitch) (hk : d.Kept pt) :
    (Dev.serveWrite d st).Kept pt := by
  unfold Dev.serveWrite
  repeat' first | (with_reducible first | assumption | intro _ | apply Dev.sendToken_kept | apply Dev.memWrite_kept | apply Canon.setErr | apply Dev.Kept.canon | refine ite_kept ?_ ?_ | refine foldl_kept (fun _ _ _ => ?_) ?_ _ | refine foldl_snd2_kept (fun _ _ _ => ?_) ?_ _ | refine foldl_snd_kept (fun _ _ _ => ?_) ?_ _ | refine foldl_fst_kept (fun _ _ _ => ?_) ?_ _) | split | (unfold Dev.Kept; dsimp only) | dsimp only

theorem Dev.remoteFetch_kept {pt : Part} {d : Dev} (q : Nat) (hk : d.Kept pt) :
    (Dev.remoteFetch d q).Kept pt := by
  unfold Dev.remoteFetch
  repeat' first | (with_reducible first | assumption | intro _ | apply Dev.rringFault_kept | apply Dev.sendToken_kept | apply Dev.Kept.canon | refine ite_kept ?_ ?_ | refine foldl_kept (fun _ _ _ => ?_) ?_ _ | refine foldl_snd2_kept (fun _ _ _ => ?_) ?_ _ | refine foldl_snd_kept (fun _ _ _ => ?_) ?_ _ | refine foldl_fst_kept (fun _ _ _ => ?_) ?_ _) | split | (unfold Dev.Kept; dsimp only) | dsimp only

theorem Dev.remoteFetchAll_kept {pt : Part} {d : Dev} (hk : d.Kept pt) :
    (Dev.remoteFetchAll d).Kept pt := by
  unfold Dev.remoteFetchAll
  repeat' first | (with_reducible first | assumption | intro _ | apply Dev.remoteFetch_kept | apply Dev.Kept.canon | refine foldl_kept (fun _ _ _ => ?_) ?_ _ | refine foldl_snd2_kept (fun _ _ _ => ?_) ?_ _ | refine foldl_snd_kept (fun _ _ _ => ?_) ?_ _ | refine foldl_fst_kept (fun _ _ _ => ?_) ?_ _) | (unfold Dev.Kept; dsimp only) | dsimp only

theorem Dev.takeHeads_kept {pt : Part} {d : Dev} (bs : List Nat) (hk : d.Kept pt) :
    (Dev.takeHeads d bs).Kept pt := by
  unfold Dev.takeHeads
  repeat' first | (with_reducible first | assumption | intro _ | apply Dev.put_kept | apply Dev.Kept.canon | refine ite_kept ?_ ?_ | refine foldl_kept (fun _ _ _ => ?_) ?_ _ | refine foldl_snd2_kept (fun _ _ _ => ?_) ?_ _ | refine foldl_snd_kept (fun _ _ _ => ?_) ?_ _ | refine foldl_fst_kept (fun _ _ _ => ?_) ?_ _) | split | (unfold Dev.Kept; dsimp only) | dsimp only

theorem Dev.takeData_kept {pt : Part} {d : Dev} (st : Stitch) (hk : d.Kept pt) :
    (Dev.takeData d st).Kept pt := by
  unfold Dev.takeData
  repeat' first | (with_reducible first | assumption | intro _ | apply Dev.takeHeads_kept | apply Dev.remoteFetch_kept | apply Dev.takeDesc_kept | apply Dev.rringFault_kept | apply Dev.fail_kept | apply Dev.put_kept | apply Dev.Kept.canon | refine ite_kept ?_ ?_) | split | (unfold Dev.Kept; dsimp only) | dsimp only

theorem Dev.takeAck_kept {pt : Part} {d : Dev} (st : Stitch) (hk : d.Kept pt) :
    (Dev.takeAck d st).Kept pt := by
  unfold Dev.takeAck
  repeat' first | (with_reducible first | assumption | apply Dev.rringFault_kept | apply Dev.Kept.canon | refine ite_kept ?_ ?_) | split | (unfold Dev.Kept; dsimp only) | dsimp only

theorem Dev.takeBell_kept {pt : Part} {d : Dev} (st : Stitch) (hk : d.Kept pt) :
    (Dev.takeBell d st).Kept pt := by
  unfold Dev.takeBell
  repeat' first | (with_reducible first | assumption | apply Dev.remoteFetch_kept | apply Dev.heartbeat_kept | apply Dev.ringTail_kept | apply Dev.raise_kept | apply Dev.Kept.canon | refine ite_kept ?_ ?_) | split | (unfold Dev.Kept; dsimp only) | dsimp only

theorem Dev.takeTrace_kept {pt : Part} {d : Dev} (st : Stitch) (hk : d.Kept pt) :
    (Dev.takeTrace d st).Kept pt := by
  unfold Dev.takeTrace
  repeat' first | (with_reducible first | assumption | apply Dev.putTrace_kept | apply Dev.put_kept | apply Dev.Kept.canon | refine ite_kept ?_ ?_) | split | (unfold Dev.Kept; dsimp only) | dsimp only

theorem Dev.auditTokens_kept {pt : Part} {d : Dev} (src : Nat) (c : Nat) (held : Nat) (hk : d.Kept pt) :
    (Dev.auditTokens d src c held).Kept pt := by
  unfold Dev.auditTokens
  repeat' first | (with_reducible first | assumption | apply Dev.servePool_kept | apply Dev.setGranted_kept | apply Dev.sendControl_kept | apply Dev.put_kept | apply Dev.Kept.canon | refine ite_kept ?_ ?_) | split | (unfold Dev.Kept; dsimp only) | dsimp only

theorem Dev.auditDone_kept {pt : Part} {d : Dev} (dest : Nat) (c : Nat) (ok : Bool) (sum : Nat) (hk : d.Kept pt) :
    (Dev.auditDone d dest c ok sum).Kept pt := by
  unfold Dev.auditDone
  repeat' first | (with_reducible first | assumption | intro _ | apply Dev.endAudits_kept | apply Dev.setTokens_kept | apply Dev.raise_kept | apply Dev.put_kept | apply Dev.Kept.canon | refine ite_kept ?_ ?_) | split | (unfold Dev.Kept; dsimp only) | dsimp only

theorem Dev.takeMgmt_kept {pt : Part} {d : Dev} (p : Nat) (st : Stitch) (hk : d.Kept pt) :
    (Dev.takeMgmt d p st).Kept pt := by
  unfold Dev.takeMgmt
  repeat' first | (with_reducible first | assumption | apply Dev.auditDone_kept | apply Dev.auditTokens_kept | apply Dev.takeStamps_kept | apply Dev.Kept.canon) | split | (unfold Dev.Kept; dsimp only) | dsimp only

theorem Dev.consume_kept {pt : Part} {d : Dev} (p : Nat) (st : Stitch) (hk : d.Kept pt) :
    (Dev.consume d p st).Kept pt := by
  unfold Dev.consume
  repeat' first | (with_reducible first | assumption | apply Dev.takeMgmt_kept | apply Dev.takeTrace_kept | apply Dev.takeBell_kept | apply Dev.takeAck_kept | apply Dev.takeData_kept | apply Dev.serveWrite_kept | apply Dev.serveRead_kept | apply Dev.takeValue_kept | apply Dev.takeReply_kept | apply Dev.takeAdmit_kept | apply Dev.servePool_kept | apply Dev.grant_kept | apply Dev.setGranted_kept | apply Dev.useTokens_kept | apply Dev.sendControl_kept | apply Dev.noteTokens_kept | apply Dev.setTokens_kept | apply Dev.put_kept | apply Dev.Kept.canon | refine ite_kept ?_ ?_) | split | (unfold Dev.Kept; dsimp only) | dsimp only

theorem Dev.setFlowRec_kept {pt : Part} {d : Dev} (k : Nat) (next : Nat) (held : List (Nat × Stitch)) (hk : d.Kept pt) :
    (Dev.setFlowRec d k next held).Kept pt := by
  unfold Dev.setFlowRec
  repeat' first | (with_reducible first | assumption | apply Dev.Kept.canon | refine ite_kept ?_ ?_) | split | (unfold Dev.Kept; dsimp only) | dsimp only

theorem Dev.drainFlow_kept {pt : Part} {d : Dev} (k : Nat) (a2 : Nat) (hk : d.Kept pt) :
    (Dev.drainFlow d k a2).Kept pt := by
  induction a2 generalizing d with
  | zero => unfold Dev.drainFlow; repeat' first | (with_reducible first | assumption | intro _ | apply Dev.setFlowRec_kept | apply Dev.consume_kept | apply Dev.Kept.canon) | split | (unfold Dev.Kept; dsimp only) | dsimp only
  | succ n ih => unfold Dev.drainFlow; repeat' first | with_reducible apply ih | (with_reducible first | assumption | intro _ | apply Dev.setFlowRec_kept | apply Dev.consume_kept | apply Dev.Kept.canon) | split | (unfold Dev.Kept; dsimp only) | dsimp only

theorem Dev.land_kept {pt : Part} {d : Dev} (p : Nat) (st : Stitch) (hk : d.Kept pt) :
    (Dev.land d p st).Kept pt := by
  unfold Dev.land
  repeat' first | (with_reducible first | assumption | intro _ | apply Dev.drainFlow_kept | apply Dev.setFlowRec_kept | apply Dev.consume_kept | apply Dev.sendControl_kept | apply Dev.bump_kept | apply Dev.Kept.canon | refine ite_kept ?_ ?_) | split | (unfold Dev.Kept; dsimp only) | dsimp only

theorem Dev.readRoute_kept {pt : Part} {d : Dev} (n : Nat) (hk : d.Kept pt) :
    (Dev.readRoute d n).2.Kept pt := by
  unfold Dev.readRoute
  repeat' first | (with_reducible first | assumption | apply Dev.touchHeld_kept | apply Dev.Kept.canon) | (unfold Dev.Kept; dsimp only) | dsimp only

theorem Dev.readRoute_kept_of {pt : Part} {d : Dev} {n : Nat} {r0 : Bool} {e0 : Dev} (hk : d.Kept pt) (eq : (Dev.readRoute d n) = (r0, e0)) : e0.Kept pt := by
  have k := @Dev.readRoute_kept; grind

theorem Dev.accept_kept {pt : Part} {d : Dev} (p : Nat) (st : Stitch) (hk : d.Kept pt) :
    (Dev.accept d p st).Kept pt := by
  unfold Dev.accept
  repeat' first | (with_reducible first | assumption | apply Dev.land_kept | apply Dev.placeTack_kept | apply Dev.enqueue_kept | apply Dev.pump_kept | apply Dev.freeBuffer_kept | apply Dev.setPort_kept | apply Dev.emit_kept | apply Dev.bump_kept | apply Dev.put_kept | apply Dev.Kept.canon | refine ite_kept ?_ ?_) | split | (unfold Dev.Kept; dsimp only) | dsimp only

theorem Dev.takeStitch_kept {pt : Part} {d : Dev} (p : Nat) (st : Stitch) (hk : d.Kept pt) :
    (Dev.takeStitch d p st).Kept pt := by
  unfold Dev.takeStitch
  repeat' first | (with_reducible first | assumption | apply Dev.accept_kept | refine Dev.readRoute_kept_of ?_ (by assumption) | apply Dev.readRoute_kept | apply Dev.sendNak_kept | apply Dev.linkError_kept | apply Dev.logFault_kept | apply Dev.Kept.canon | refine ite_kept ?_ ?_) | split | (unfold Dev.Kept; dsimp only) | dsimp only

theorem Dev.receive_kept {pt : Part} {d : Dev} (p : Nat) (kind : Nat) (w : Sys2Proof.Word) (wrong : Nat) (first : Bool) (hk : d.Kept pt) :
    (Dev.receive d p kind w wrong first).Kept pt := by
  unfold Dev.receive
  repeat' first | (with_reducible first | assumption | apply Dev.takeStitch_kept | apply Dev.setPort_kept | apply Dev.recovered_kept | apply Dev.bump_kept | apply Dev.Kept.canon | refine ite_kept ?_ ?_) | split | (unfold Dev.Kept; dsimp only) | dsimp only

theorem bodyRouteLoad_kept {pt : Part} (id : Nat) (x : Sys2Proof.Desc) {d : Dev} (hk : d.Kept pt) :
    (bodyRouteLoad id x d).Kept pt := by
  unfold bodyRouteLoad
  repeat' first | (with_reducible first | assumption | apply Dev.fail_kept | apply Dev.Kept.canon | refine ite_kept ?_ ?_) | split | (unfold Dev.Kept; dsimp only) | dsimp only

theorem Dev.endRoute_kept {pt : Part} {d : Dev} (id : Nat) (st : Status) (result : Nat) (hk : d.Kept pt) :
    (Dev.endRoute d id st result).Kept pt := by
  unfold Dev.endRoute
  repeat' first | (with_reducible first | assumption | apply Dev.finish_kept | apply Dev.Kept.canon) | (unfold Dev.Kept; dsimp only) | dsimp only

theorem Dev.routeChecked_kept {pt : Part} {d : Dev} (id : Nat) (x : Sys2Proof.Desc) (hk : d.Kept pt) :
    (Dev.routeChecked d id x).Kept pt := by
  unfold Dev.routeChecked
  repeat' first | (with_reducible first | assumption | apply Dev.endRoute_kept | refine Dev.readWords_kept_of ?_ (by assumption) | apply Dev.readWords_kept | apply Dev.Kept.canon | refine ite_kept ?_ ?_) | split | (unfold Dev.Kept; dsimp only) | dsimp only

theorem Dev.putRoutes_kept {pt : Part} {d : Dev} (bs : List Nat) (hk : d.Kept pt) :
    (Dev.putRoutes d bs).Kept pt := by
  unfold Dev.putRoutes
  repeat' first | (with_reducible first | assumption | intro _ | apply Dev.put_kept | apply Dev.Kept.canon | refine ite_kept ?_ ?_ | refine foldl_kept (fun _ _ _ => ?_) ?_ _ | refine foldl_snd2_kept (fun _ _ _ => ?_) ?_ _ | refine foldl_snd_kept (fun _ _ _ => ?_) ?_ _ | refine foldl_fst_kept (fun _ _ _ => ?_) ?_ _) | split | (unfold Dev.Kept; dsimp only) | dsimp only

theorem Dev.routeSwitch_kept {pt : Part} {d : Dev} (hk : d.Kept pt) :
    (Dev.routeSwitch d).Kept pt := by
  unfold Dev.routeSwitch
  repeat' first | (with_reducible first | assumption | intro _ | apply Dev.putRoutes_kept | apply Dev.endRoute_kept | apply Dev.auditReached_kept | apply Dev.reroute_kept | apply Dev.pump_kept | apply Dev.setBlock_kept | apply Dev.Kept.canon) | split | (unfold Dev.Kept; dsimp only) | dsimp only

theorem bodyPortRetrain_kept {pt : Part} (id : Nat) (x : Sys2Proof.Desc) {d : Dev} (hk : d.Kept pt) :
    (bodyPortRetrain id x d).Kept pt := by
  unfold bodyPortRetrain
  repeat' first | (with_reducible first | assumption | intro _ | apply Dev.linkDown_kept | apply Dev.Kept.canon | refine ite_kept ?_ ?_ | refine foldl_kept (fun _ _ _ => ?_) ?_ _ | refine foldl_snd2_kept (fun _ _ _ => ?_) ?_ _ | refine foldl_snd_kept (fun _ _ _ => ?_) ?_ _ | refine foldl_fst_kept (fun _ _ _ => ?_) ?_ _) | split | (unfold Dev.Kept; dsimp only) | dsimp only

theorem bodyQuiltAudit_kept {pt : Part} (id : Nat) (x : Sys2Proof.Desc) {d : Dev} (hk : d.Kept pt) :
    (bodyQuiltAudit id x d).Kept pt := by
  unfold bodyQuiltAudit
  repeat' first | (with_reducible first | assumption | intro _ | apply Dev.sendAudits_kept | apply Dev.endAudits_kept | apply Dev.auditPair_kept | apply Dev.setPort_kept | apply Dev.fail_kept | apply Dev.Kept.canon | refine ite_kept ?_ ?_ | refine foldl_kept (fun _ _ _ => ?_) ?_ _ | refine foldl_snd2_kept (fun _ _ _ => ?_) ?_ _ | refine foldl_snd_kept (fun _ _ _ => ?_) ?_ _ | refine foldl_fst_kept (fun _ _ _ => ?_) ?_ _) | split | (unfold Dev.Kept; dsimp only) | dsimp only

theorem bodyRringDoorbell_kept {pt : Part} (id : Nat) (x : Sys2Proof.Desc) {d : Dev} (hk : d.Kept pt) :
    (bodyRringDoorbell id x d).Kept pt := by
  unfold bodyRringDoorbell
  repeat' first | (with_reducible first | assumption | apply Dev.sendToken_kept | apply Dev.fail_kept | apply Dev.Kept.canon | refine ite_kept ?_ ?_) | split | (unfold Dev.Kept; dsimp only) | dsimp only

theorem settleQuilt_kept {pt : Part} (id : Nat) (r : Rec) {d : Dev} (hk : d.Kept pt) :
    (settleQuilt id r d).Kept pt := by
  unfold settleQuilt
  repeat' first | (with_reducible first | assumption | intro _ | apply Dev.endRoute_kept | apply Dev.endFlowOpen_kept | apply Dev.done_kept | apply Dev.fail_kept | apply Dev.Kept.canon | refine ite_kept ?_ ?_) | split | (unfold Dev.Kept; dsimp only) | dsimp only

theorem Dev.quiltTick_kept {pt : Part} {d : Dev} (routed : List Nat) (hk : d.Kept pt) :
    (Dev.quiltTick d routed).Kept pt := by
  unfold Dev.quiltTick
  repeat' first | (with_reducible first | assumption | intro _ | apply Dev.routeSwitch_kept | apply Dev.sendBoundary_kept | apply Dev.sendFlow_kept | apply Dev.eqStep_kept | apply Dev.lateTack_kept | apply Dev.pump_kept | apply Dev.Kept.canon | refine foldl_kept (fun _ _ _ => ?_) ?_ _ | refine foldl_snd2_kept (fun _ _ _ => ?_) ?_ _ | refine foldl_snd_kept (fun _ _ _ => ?_) ?_ _ | refine foldl_fst_kept (fun _ _ _ => ?_) ?_ _) | (unfold Dev.Kept; dsimp only) | dsimp only

theorem Dev.quiltDip_kept {pt : Part} {d : Dev} (hk : d.Kept pt) :
    (Dev.quiltDip d).Kept pt := by
  unfold Dev.quiltDip
  repeat' first | (with_reducible first | assumption | intro _ | apply Dev.endRoute_kept | apply Dev.endFlowOpen_kept | apply Dev.Kept.canon | refine foldl_kept (fun _ _ _ => ?_) ?_ _ | refine foldl_snd2_kept (fun _ _ _ => ?_) ?_ _ | refine foldl_snd_kept (fun _ _ _ => ?_) ?_ _ | refine foldl_fst_kept (fun _ _ _ => ?_) ?_ _) | split | (unfold Dev.Kept; dsimp only) | dsimp only

theorem Dev.quiltRestore_kept {pt : Part} {d : Dev} (hk : d.Kept pt) :
    (Dev.quiltRestore d).Kept pt := by
  unfold Dev.quiltRestore
  repeat' first | (with_reducible first | assumption | intro _ | apply Dev.putRoutes_kept | apply Dev.Kept.canon | refine ite_kept ?_ ?_) | split | (unfold Dev.Kept; dsimp only) | dsimp only

end Sys2Proof.Machine
end

