-- ==== Sys2Proof/Laws/KeptStore.lean ====
section
/-! SUPPORT. Canonical form and silicon are kept: the operations of the panel, the stores and the security block. -/

namespace Sys2Proof.Machine
open Sys2Proof

/-! ### Panel -/

theorem Dev.showPanel_kept {pt : Part} {d : Dev} (hk : d.Kept pt) :
    (Dev.showPanel d).Kept pt := by
  unfold Dev.showPanel
  repeat' first | (with_reducible first | assumption | intro _ | apply Dev.put_kept | apply Dev.Kept.canon) | split | (unfold Dev.Kept; dsimp only) | dsimp only

theorem Dev.setPanel_kept {pt : Part} {d : Dev} (p : PanelSt) (hk : d.Kept pt) :
    (Dev.setPanel d p).Kept pt := by
  unfold Dev.setPanel
  repeat' first | (with_reducible first | assumption | apply Dev.showPanel_kept | apply Dev.Kept.canon) | (unfold Dev.Kept; dsimp only) | dsimp only

theorem Dev.showFrontlight_kept {pt : Part} {d : Dev} (hk : d.Kept pt) :
    (Dev.showFrontlight d).Kept pt := by
  unfold Dev.showFrontlight
  repeat' first | (with_reducible first | assumption | apply Dev.putBit_kept | apply Dev.Kept.canon) | (unfold Dev.Kept; dsimp only) | dsimp only

theorem Dev.railsOn_kept {pt : Part} {d : Dev} (hk : d.Kept pt) :
    (Dev.railsOn d).Kept pt := by
  unfold Dev.railsOn
  repeat' first | (with_reducible first | assumption | apply Dev.setPanel_kept | apply Dev.Kept.canon | refine ite_kept ?_ ?_) | split | (unfold Dev.Kept; dsimp only) | dsimp only

theorem Dev.panelRise_kept {pt : Part} {d : Dev} (hk : d.Kept pt) :
    (Dev.panelRise d).Kept pt := by
  unfold Dev.panelRise
  repeat' first | (with_reducible first | assumption | apply Dev.railsOn_kept | apply Dev.Kept.canon | refine ite_kept ?_ ?_) | split | (unfold Dev.Kept; dsimp only) | dsimp only

theorem Dev.panelFall_kept {pt : Part} {d : Dev} (hk : d.Kept pt) :
    (Dev.panelFall d).Kept pt := by
  unfold Dev.panelFall
  repeat' first | (with_reducible first | assumption | apply Dev.setPanel_kept | apply Dev.Kept.canon) | split | (unfold Dev.Kept; dsimp only) | dsimp only

theorem Dev.panelInterrupted_kept {pt : Part} {d : Dev} (r : PanelRun) (cause : Nat) (hk : d.Kept pt) :
    (Dev.panelInterrupted d r cause).Kept pt := by
  unfold Dev.panelInterrupted
  repeat' first | (with_reducible first | assumption | apply Dev.raise_kept | apply Dev.Kept.canon) | (unfold Dev.Kept; dsimp only) | dsimp only

theorem Dev.endReq_kept {pt : Part} {d : Dev} (r : PanelReq) (st : Status) (result : Nat) (hk : d.Kept pt) :
    (Dev.endReq d r st result).Kept pt := by
  unfold Dev.endReq
  repeat' first | (with_reducible first | assumption | apply Dev.finish_kept | apply Dev.Kept.canon) | split | (unfold Dev.Kept; dsimp only) | dsimp only

theorem Dev.panelStop_kept {pt : Part} {d : Dev} (cause : Nat) (st : Status) (hk : d.Kept pt) :
    (Dev.panelStop d cause st).Kept pt := by
  unfold Dev.panelStop
  repeat' first | (with_reducible first | assumption | intro _ | apply Dev.endReq_kept | apply Dev.panelInterrupted_kept | apply Dev.setPanel_kept | apply Dev.done_kept | apply Dev.Kept.canon | refine ite_kept ?_ ?_ | refine foldl_kept (fun _ _ _ => ?_) ?_ _ | refine foldl_snd2_kept (fun _ _ _ => ?_) ?_ _ | refine foldl_snd_kept (fun _ _ _ => ?_) ?_ _ | refine foldl_fst_kept (fun _ _ _ => ?_) ?_ _) | split | (unfold Dev.Kept; dsimp only) | dsimp only

theorem Dev.panelFlush_kept {pt : Part} {d : Dev} (st : Status) (hk : d.Kept pt) :
    (Dev.panelFlush d st).Kept pt := by
  unfold Dev.panelFlush
  repeat' first | (with_reducible first | assumption | intro _ | apply Dev.endReq_kept | apply Dev.setPanel_kept | apply Dev.Kept.canon | refine foldl_kept (fun _ _ _ => ?_) ?_ _ | refine foldl_snd2_kept (fun _ _ _ => ?_) ?_ _ | refine foldl_snd_kept (fun _ _ _ => ?_) ?_ _ | refine foldl_fst_kept (fun _ _ _ => ?_) ?_ _) | (unfold Dev.Kept; dsimp only) | dsimp only

theorem Dev.panelDip_kept {pt : Part} {d : Dev} (hk : d.Kept pt) :
    (Dev.panelDip d).Kept pt := by
  unfold Dev.panelDip
  repeat' first | (with_reducible first | assumption | apply Dev.panelFlush_kept | apply Dev.panelStop_kept | apply Dev.panelFall_kept | apply Dev.showFrontlight_kept | apply Dev.Kept.canon) | (unfold Dev.Kept; dsimp only) | dsimp only

theorem Dev.panelFault_kept {pt : Part} {d : Dev} (rail : Nat) (mv : Int) (hk : d.Kept pt) :
    (Dev.panelFault d rail mv).Kept pt := by
  unfold Dev.panelFault
  repeat' first | (with_reducible first | assumption | apply Dev.panelFlush_kept | apply Dev.panelStop_kept | apply Dev.panelFall_kept | apply Dev.setPanel_kept | apply Dev.raise_kept | apply Dev.bump_kept | apply Dev.put_kept | apply Dev.Kept.canon | refine ite_kept ?_ ?_) | split | (unfold Dev.Kept; dsimp only) | dsimp only

theorem Dev.panelBand_kept {pt : Part} {d : Dev} (die : Int) (hk : d.Kept pt) :
    (Dev.panelBand d die).Kept pt := by
  unfold Dev.panelBand
  repeat' first | (with_reducible first | assumption | apply Dev.raiseLimited_kept | apply Dev.putBit_kept | apply Dev.put_kept | apply Dev.Kept.canon | refine ite_kept ?_ ?_) | split | (unfold Dev.Kept; dsimp only) | dsimp only

theorem Dev.waves_kept {pt : Part} {d : Dev} (band : Nat) (mode : Nat) (hk : d.Kept pt) :
    (Dev.waves d band mode).2.Kept pt := by
  unfold Dev.waves
  repeat' first | (with_reducible first | assumption | intro _ | apply Dev.readWord_kept | apply Dev.Kept.canon | refine ite_kept ?_ ?_ | refine foldl_kept (fun _ _ _ => ?_) ?_ _ | refine foldl_snd2_kept (fun _ _ _ => ?_) ?_ _ | refine foldl_snd_kept (fun _ _ _ => ?_) ?_ _ | refine foldl_fst_kept (fun _ _ _ => ?_) ?_ _) | split | (unfold Dev.Kept; dsimp only) | dsimp only

theorem Dev.waves_kept_of {pt : Part} {d : Dev} {band : Nat} {mode : Nat} {r0 : List (Option (List Nat))} {e0 : Dev} (hk : d.Kept pt) (eq : (Dev.waves d band mode) = (r0, e0)) : e0.Kept pt := by
  have k := @Dev.waves_kept; grind

theorem Dev.latchWord_kept {pt : Part} {d : Dev} (r : PanelReq) (k : Nat) (hk : d.Kept pt) :
    (Dev.latchWord d r k).2.Kept pt := by
  unfold Dev.latchWord
  repeat' first | (with_reducible first | assumption | intro _ | refine Dev.readWord_kept_of ?_ (by assumption) | apply Dev.readWord_kept | apply Dev.memWrite_kept | apply Dev.Kept.canon | refine foldl_kept (fun _ _ _ => ?_) ?_ _ | refine foldl_snd2_kept (fun _ _ _ => ?_) ?_ _ | refine foldl_snd_kept (fun _ _ _ => ?_) ?_ _ | refine foldl_fst_kept (fun _ _ _ => ?_) ?_ _) | split | (unfold Dev.Kept; dsimp only) | dsimp only

theorem Dev.latchWord_kept_of {pt : Part} {d : Dev} {r : PanelReq} {k : Nat} {r0 : Bool} {e0 : Dev} (hk : d.Kept pt) (eq : (Dev.latchWord d r k) = (r0, e0)) : e0.Kept pt := by
  have k := @Dev.latchWord_kept; grind

theorem Dev.panelBegin_kept {pt : Part} {d : Dev} (r : PanelReq) (hk : d.Kept pt) :
    (Dev.panelBegin d r).Kept pt := by
  unfold Dev.panelBegin
  repeat' first | (with_reducible first | assumption | intro _ | refine Dev.latchWord_kept_of ?_ (by assumption) | apply Dev.latchWord_kept | refine Dev.waves_kept_of ?_ (by assumption) | apply Dev.waves_kept | apply Dev.setPanel_kept | apply Dev.Kept.canon | refine ite_kept ?_ ?_ | refine foldl_kept (fun _ _ _ => ?_) ?_ _ | refine foldl_snd2_kept (fun _ _ _ => ?_) ?_ _ | refine foldl_snd_kept (fun _ _ _ => ?_) ?_ _ | refine foldl_fst_kept (fun _ _ _ => ?_) ?_ _) | split | (unfold Dev.Kept; dsimp only) | dsimp only

theorem Dev.undoWord_kept {pt : Part} {d : Dev} (r : PanelReq) (k : Nat) (hk : d.Kept pt) :
    (Dev.undoWord d r k).Kept pt := by
  unfold Dev.undoWord
  repeat' first | (with_reducible first | assumption | intro _ | refine Dev.readWord_kept_of ?_ (by assumption) | apply Dev.readWord_kept | apply Dev.memWrite_kept | apply Dev.Kept.canon | refine ite_kept ?_ ?_ | refine foldl_kept (fun _ _ _ => ?_) ?_ _ | refine foldl_snd2_kept (fun _ _ _ => ?_) ?_ _ | refine foldl_snd_kept (fun _ _ _ => ?_) ?_ _ | refine foldl_fst_kept (fun _ _ _ => ?_) ?_ _) | split | (unfold Dev.Kept; dsimp only) | dsimp only

theorem Dev.panelDrive_kept {pt : Part} {d : Dev} (r : PanelRun) (hk : d.Kept pt) :
    (Dev.panelDrive d r).Kept pt := by
  unfold Dev.panelDrive
  repeat' first | (with_reducible first | assumption | intro _ | apply Dev.undoWord_kept | refine Dev.waves_kept_of ?_ (by assumption) | apply Dev.waves_kept | apply Dev.setPanel_kept | refine Dev.readWord_kept_of ?_ (by assumption) | apply Dev.readWord_kept | apply Dev.emit_kept | apply Dev.Kept.canon | refine ite_kept ?_ ?_ | refine foldl_kept (fun _ _ _ => ?_) ?_ _ | refine foldl_snd2_kept (fun _ _ _ => ?_) ?_ _ | refine foldl_snd_kept (fun _ _ _ => ?_) ?_ _ | refine foldl_fst_kept (fun _ _ _ => ?_) ?_ _) | split | (unfold Dev.Kept; dsimp only) | dsimp only

theorem Dev.formCrc_kept {pt : Part} {d : Dev} (hk : d.Kept pt) :
    (Dev.formCrc d).Kept pt := by
  unfold Dev.formCrc
  repeat' first | (with_reducible first | assumption | refine Dev.readWords_kept_of ?_ (by assumption) | apply Dev.readWords_kept | apply Dev.nextFree_kept | apply Dev.put_kept | apply Dev.Kept.canon) | split | (unfold Dev.Kept; dsimp only) | dsimp only

theorem Dev.panelPhaseEnd_kept {pt : Part} {d : Dev} (r : PanelRun) (duty : Nat) (hk : d.Kept pt) :
    (Dev.panelPhaseEnd d r duty).Kept pt := by
  unfold Dev.panelPhaseEnd
  repeat' first | (with_reducible first | assumption | intro _ | apply Dev.formCrc_kept | apply Dev.endReq_kept | apply Dev.panelInterrupted_kept | apply Dev.showFrontlight_kept | apply Dev.setPanel_kept | apply Dev.done_kept | apply Dev.wrapUp_kept | apply Dev.put_kept | apply Dev.Kept.canon | refine ite_kept ?_ ?_) | split | (unfold Dev.Kept; dsimp only) | dsimp only

theorem Dev.panelSwitch_kept {pt : Part} {d : Dev} (hk : d.Kept pt) :
    (Dev.panelSwitch d).Kept pt := by
  unfold Dev.panelSwitch
  repeat' first | (with_reducible first | assumption | apply Dev.setPanel_kept | apply Dev.setBlock_kept | apply Dev.done_kept | apply Dev.putRet_kept | apply Dev.Kept.canon | refine ite_kept ?_ ?_) | split | (unfold Dev.Kept; dsimp only) | dsimp only

theorem Dev.panelStart_kept {pt : Part} {d : Dev} (hk : d.Kept pt) :
    (Dev.panelStart d).Kept pt := by
  unfold Dev.panelStart
  repeat' first | (with_reducible first | assumption | apply Dev.railsOn_kept | apply Dev.setPanel_kept | apply Dev.memWrite_kept | apply Dev.Kept.canon | refine ite_kept ?_ ?_) | split | (unfold Dev.Kept; dsimp only) | dsimp only

theorem Dev.panelRestore_kept {pt : Part} {d : Dev} (hk : d.Kept pt) :
    (Dev.panelRestore d).Kept pt := by
  unfold Dev.panelRestore
  repeat' first | (with_reducible first | assumption | apply Dev.memWrite_kept | apply Dev.put_kept | apply Dev.Kept.canon | refine ite_kept ?_ ?_) | split | (unfold Dev.Kept; dsimp only) | dsimp only

theorem bodyPanelUpdate_kept {pt : Part} (id : Nat) (x : Sys2Proof.Desc) {d : Dev} (hk : d.Kept pt) :
    (bodyPanelUpdate id x d).Kept pt := by
  unfold bodyPanelUpdate
  repeat' first | (with_reducible first | assumption | intro _ | apply Dev.endReq_kept | apply Dev.panelRise_kept | apply Dev.setPanel_kept | apply Dev.fail_kept | apply Dev.Kept.canon | refine ite_kept ?_ ?_) | split | (unfold Dev.Kept; dsimp only) | dsimp only

theorem bodyPanelWfload_kept {pt : Part} (id : Nat) (a1 : Sys2Proof.Desc) {d : Dev} (hk : d.Kept pt) :
    (bodyPanelWfload id a1 d).Kept pt := by
  unfold bodyPanelWfload
  repeat' first | (with_reducible first | assumption | apply Dev.setPanel_kept | apply Dev.fail_kept | apply Dev.Kept.canon | refine ite_kept ?_ ?_) | split | (unfold Dev.Kept; dsimp only) | dsimp only

theorem Dev.endWfload_kept {pt : Part} {d : Dev} (st : Status) (code : Nat) (hk : d.Kept pt) :
    (Dev.endWfload d st code).Kept pt := by
  unfold Dev.endWfload
  repeat' first | (with_reducible first | assumption | apply Dev.setPanel_kept | apply Dev.finish_kept | apply Dev.Kept.canon) | split | (unfold Dev.Kept; dsimp only) | dsimp only

theorem Dev.wfloadChecked_kept {pt : Part} {d : Dev} (id : Nat) (x : Sys2Proof.Desc) (hk : d.Kept pt) :
    (Dev.wfloadChecked d id x).Kept pt := by
  unfold Dev.wfloadChecked
  repeat' first | (with_reducible first | assumption | apply Dev.endWfload_kept | apply Dev.setPanel_kept | refine Dev.readImage_kept_of ?_ (by assumption) | apply Dev.readImage_kept | apply Dev.imageRefused_kept | apply Dev.memWrite_kept | apply Dev.Kept.canon | refine ite_kept ?_ ?_) | split | (unfold Dev.Kept; dsimp only) | dsimp only

theorem bodyPanelCrcCheck_kept {pt : Part} (id : Nat) (x : Sys2Proof.Desc) {d : Dev} (hk : d.Kept pt) :
    (bodyPanelCrcCheck id x d).Kept pt := by
  unfold bodyPanelCrcCheck
  repeat' first | (with_reducible first | assumption | apply Dev.done_kept | apply Dev.fail_kept | apply Dev.finish_kept | apply Dev.raise_kept | apply Dev.Kept.canon | refine ite_kept ?_ ?_) | split | (unfold Dev.Kept; dsimp only) | dsimp only

theorem settlePanel_kept {pt : Part} (id : Nat) (r : Rec) {d : Dev} (hk : d.Kept pt) :
    (settlePanel id r d).Kept pt := by
  unfold settlePanel
  repeat' first | (with_reducible first | assumption | intro _ | apply Dev.endWfload_kept | apply Dev.endReq_kept | apply Dev.setPanel_kept | apply Dev.done_kept | apply Dev.fail_kept | apply Dev.Kept.canon | refine ite_kept ?_ ?_) | split | (unfold Dev.Kept; dsimp only) | dsimp only

theorem bodyPanelAbort_kept {pt : Part} (id : Nat) (x : Sys2Proof.Desc) {d : Dev} (hk : d.Kept pt) :
    (bodyPanelAbort id x d).Kept pt := by
  unfold bodyPanelAbort
  repeat' first | (with_reducible first | assumption | apply settlePanel_kept | apply Dev.abortDesc_kept | apply Dev.fail_kept | apply Dev.Kept.canon | refine ite_kept ?_ ?_) | split | (unfold Dev.Kept; dsimp only) | dsimp only

theorem Dev.writePanelCfg_kept {pt : Part} {d : Dev} (v : Nat) (hk : d.Kept pt) :
    (Dev.writePanelCfg d v).Kept pt := by
  unfold Dev.writePanelCfg
  repeat' first | (with_reducible first | assumption | apply Dev.panelFlush_kept | apply Dev.panelStop_kept | apply Dev.panelFall_kept | apply Dev.showFrontlight_kept | apply Dev.setPanel_kept | apply Dev.markHost_kept | apply Dev.put_kept | apply Dev.Kept.canon | refine ite_kept ?_ ?_) | split | (unfold Dev.Kept; dsimp only) | dsimp only

/-! ### Keys -/

theorem Dev.setKey_kept {pt : Part} {d : Dev} (i : Nat) (x : KeySt) (hk : d.Kept pt) :
    (Dev.setKey d i x).Kept pt := by
  unfold Dev.setKey
  repeat' first | (with_reducible first | assumption | apply Dev.Kept.canon) | (unfold Dev.Kept; dsimp only) | dsimp only

theorem Dev.setEnc_kept {pt : Part} {d : Dev} (n : Nat) (x : EncSt) (hk : d.Kept pt) :
    (Dev.setEnc d n x).Kept pt := by
  unfold Dev.setEnc
  repeat' first | (with_reducible first | assumption | apply Dev.Kept.canon) | (unfold Dev.Kept; dsimp only) | dsimp only

theorem Dev.publishKeys_kept {pt : Part} {d : Dev} (l : List Nat) (hk : d.Kept pt) :
    (Dev.publishKeys d l).Kept pt := by
  unfold Dev.publishKeys
  repeat' first | (with_reducible first | assumption | intro _ | apply Dev.produce_kept | apply Dev.Kept.canon | refine foldl_kept (fun _ _ _ => ?_) ?_ _ | refine foldl_snd2_kept (fun _ _ _ => ?_) ?_ _ | refine foldl_snd_kept (fun _ _ _ => ?_) ?_ _ | refine foldl_fst_kept (fun _ _ _ => ?_) ?_ _) | (unfold Dev.Kept; dsimp only) | dsimp only

theorem Dev.showKeys_kept {pt : Part} {d : Dev} (hk : d.Kept pt) :
    (Dev.showKeys d).Kept pt := by
  unfold Dev.showKeys
  repeat' first | (with_reducible first | assumption | intro _ | apply Dev.put_kept | apply Dev.Kept.canon | refine ite_kept ?_ ?_ | refine foldl_kept (fun _ _ _ => ?_) ?_ _ | refine foldl_snd2_kept (fun _ _ _ => ?_) ?_ _ | refine foldl_snd_kept (fun _ _ _ => ?_) ?_ _ | refine foldl_fst_kept (fun _ _ _ => ?_) ?_ _) | split | (unfold Dev.Kept; dsimp only) | dsimp only

theorem Dev.showKeyIrq_kept {pt : Part} {d : Dev} (hk : d.Kept pt) :
    (Dev.showKeyIrq d).Kept pt := by
  unfold Dev.showKeyIrq
  repeat' first | (with_reducible first | assumption | apply Dev.emit_kept | apply Dev.Kept.canon) | (unfold Dev.Kept; dsimp only) | dsimp only

theorem Dev.keyPending_kept {pt : Part} {d : Dev} (hk : d.Kept pt) :
    (Dev.keyPending d).Kept pt := by
  unfold Dev.keyPending
  repeat' first | (with_reducible first | assumption | apply Dev.showKeyIrq_kept | apply Dev.put_kept | apply Dev.Kept.canon) | (unfold Dev.Kept; dsimp only) | dsimp only

theorem Dev.keyChange_kept {pt : Part} {d : Dev} (i : Nat) (hk : d.Kept pt) :
    (Dev.keyChange d i).Kept pt := by
  unfold Dev.keyChange
  repeat' first | (with_reducible first | assumption | apply Dev.keyPending_kept | apply Dev.raise_kept | apply Dev.Kept.canon | refine ite_kept ?_ ?_) | split | (unfold Dev.Kept; dsimp only) | dsimp only

theorem Dev.setKeyLock_kept {pt : Part} {d : Dev} (on : Bool) (cause : Nat) (hk : d.Kept pt) :
    (Dev.setKeyLock d on cause).Kept pt := by
  unfold Dev.setKeyLock
  repeat' first | (with_reducible first | assumption | intro _ | apply Dev.showKeys_kept | apply Dev.publishKeys_kept | apply Dev.setKey_kept | apply Dev.raise_kept | apply Dev.putRet_kept | apply Dev.Kept.canon | refine ite_kept ?_ ?_ | refine foldl_kept (fun _ _ _ => ?_) ?_ _ | refine foldl_snd2_kept (fun _ _ _ => ?_) ?_ _ | refine foldl_snd_kept (fun _ _ _ => ?_) ?_ _ | refine foldl_fst_kept (fun _ _ _ => ?_) ?_ _) | split | (unfold Dev.Kept; dsimp only) | dsimp only

theorem Dev.unlockStep_kept {pt : Part} {d : Dev} (n : Nat) (hk : d.Kept pt) :
    (Dev.unlockStep d n).Kept pt := by
  unfold Dev.unlockStep
  repeat' first | (with_reducible first | assumption | apply Dev.setKeyLock_kept | apply Dev.put_kept | apply Dev.Kept.canon | refine ite_kept ?_ ?_) | split | (unfold Dev.Kept; dsimp only) | dsimp only

theorem Dev.unlockPress_kept {pt : Part} {d : Dev} (i : Nat) (hk : d.Kept pt) :
    (Dev.unlockPress d i).Kept pt := by
  unfold Dev.unlockPress
  repeat' first | (with_reducible first | assumption | apply Dev.unlockStep_kept | apply Dev.raiseCounted_kept | apply Dev.put_kept | apply Dev.Kept.canon | refine ite_kept ?_ ?_) | split | (unfold Dev.Kept; dsimp only) | dsimp only

theorem Dev.sampleKey_kept {pt : Part} {d : Dev} (raw : Nat) (i : Nat) (hk : d.Kept pt) :
    (Dev.sampleKey d raw i).2.Kept pt := by
  unfold Dev.sampleKey
  repeat' first | (with_reducible first | assumption | apply Dev.setKey_kept | apply Dev.Kept.canon | refine ite_kept ?_ ?_) | split | (unfold Dev.Kept; dsimp only) | dsimp only

theorem Dev.sampleKey_kept_of {pt : Part} {d : Dev} {raw : Nat} {i : Nat} {r0 : Bool} {e0 : Dev} (hk : d.Kept pt) (eq : (Dev.sampleKey d raw i) = (r0, e0)) : e0.Kept pt := by
  have k := @Dev.sampleKey_kept; grind

theorem Dev.guardKeys_kept {pt : Part} {d : Dev} (hk : d.Kept pt) :
    (Dev.guardKeys d).2.Kept pt := by
  unfold Dev.guardKeys
  repeat' first | (with_reducible first | assumption | intro _ | apply Dev.setKey_kept | apply Dev.Kept.canon | refine ite_kept ?_ ?_ | refine foldl_kept (fun _ _ _ => ?_) ?_ _ | refine foldl_snd2_kept (fun _ _ _ => ?_) ?_ _ | refine foldl_snd_kept (fun _ _ _ => ?_) ?_ _ | refine foldl_fst_kept (fun _ _ _ => ?_) ?_ _) | split | (unfold Dev.Kept; dsimp only) | dsimp only

theorem Dev.guardKeys_kept_of {pt : Part} {d : Dev} {r0 : List Nat} {e0 : Dev} (hk : d.Kept pt) (eq : (Dev.guardKeys d) = (r0, e0)) : e0.Kept pt := by
  have k := @Dev.guardKeys_kept; grind

theorem Dev.applyKeyLocks_kept {pt : Part} {d0 : Dev} (hkd0 : d0.Kept pt) :
    (Dev.applyKeyLocks d0).Kept pt := by
  unfold Dev.applyKeyLocks
  repeat' first | (with_reducible first | assumption | intro _ | apply Dev.setKeyLock_kept | apply Dev.done_kept | apply Dev.put_kept | apply Dev.Kept.canon | refine ite_kept ?_ ?_ | refine foldl_kept (fun _ _ _ => ?_) ?_ _ | refine foldl_snd2_kept (fun _ _ _ => ?_) ?_ _ | refine foldl_snd_kept (fun _ _ _ => ?_) ?_ _ | refine foldl_fst_kept (fun _ _ _ => ?_) ?_ _) | split | (unfold Dev.Kept; dsimp only) | dsimp only

theorem Dev.wakeScanner_kept {pt : Part} {d : Dev} (hk : d.Kept pt) :
    (Dev.wakeScanner d).Kept pt := by
  unfold Dev.wakeScanner
  repeat' first | (with_reducible first | assumption | apply Dev.put_kept | apply Dev.Kept.canon) | (unfold Dev.Kept; dsimp only) | dsimp only

theorem bodyKeyLock_kept {pt : Part} (id : Nat) (x : Sys2Proof.Desc) {d : Dev} (hk : d.Kept pt) :
    (bodyKeyLock id x d).Kept pt := by
  unfold bodyKeyLock
  repeat' first | (with_reducible first | assumption | apply Dev.fail_kept | apply Dev.Kept.canon | refine ite_kept ?_ ?_) | split | (unfold Dev.Kept; dsimp only) | dsimp only

theorem Dev.keysThaw_kept {pt : Part} {d : Dev} (hk : d.Kept pt) :
    (Dev.keysThaw d).Kept pt := by
  unfold Dev.keysThaw
  repeat' first | (with_reducible first | assumption | intro _ | apply Dev.wakeScanner_kept | apply Dev.setKey_kept | apply Dev.Kept.canon | refine foldl_kept (fun _ _ _ => ?_) ?_ _ | refine foldl_snd2_kept (fun _ _ _ => ?_) ?_ _ | refine foldl_snd_kept (fun _ _ _ => ?_) ?_ _ | refine foldl_fst_kept (fun _ _ _ => ?_) ?_ _) | (unfold Dev.Kept; dsimp only) | dsimp only

theorem Dev.keysStart_kept {pt : Part} {d : Dev} (hk : d.Kept pt) :
    (Dev.keysStart d).Kept pt := by
  unfold Dev.keysStart
  repeat' first | (with_reducible first | assumption | intro _ | apply Dev.showKeys_kept | apply Dev.publishKeys_kept | apply Dev.produce_kept | apply Dev.raise_kept | apply Dev.put_kept | apply Dev.Kept.canon | refine ite_kept ?_ ?_ | refine foldl_kept (fun _ _ _ => ?_) ?_ _ | refine foldl_snd2_kept (fun _ _ _ => ?_) ?_ _ | refine foldl_snd_kept (fun _ _ _ => ?_) ?_ _ | refine foldl_fst_kept (fun _ _ _ => ?_) ?_ _) | split | (unfold Dev.Kept; dsimp only) | dsimp only

theorem Dev.writeKeysIrq_kept {pt : Part} {d : Dev} (v : Nat) (hk : d.Kept pt) :
    (Dev.writeKeysIrq d v).Kept pt := by
  unfold Dev.writeKeysIrq
  repeat' first | (with_reducible first | assumption | apply Dev.showKeyIrq_kept | apply Dev.markHost_kept | apply Dev.put_kept | apply Dev.Kept.canon | refine ite_kept ?_ ?_) | split | (unfold Dev.Kept; dsimp only) | dsimp only

theorem Dev.keysCfgWritten_kept {pt : Part} {d : Dev} (hk : d.Kept pt) :
    (Dev.keysCfgWritten d).Kept pt := by
  unfold Dev.keysCfgWritten
  repeat' first | (with_reducible first | assumption | intro _ | apply Dev.showKeys_kept | apply Dev.publishKeys_kept | apply Dev.setKey_kept | apply Dev.Kept.canon | refine ite_kept ?_ ?_ | refine foldl_kept (fun _ _ _ => ?_) ?_ _ | refine foldl_snd2_kept (fun _ _ _ => ?_) ?_ _ | refine foldl_snd_kept (fun _ _ _ => ?_) ?_ _ | refine foldl_fst_kept (fun _ _ _ => ?_) ?_ _) | split | (unfold Dev.Kept; dsimp only) | dsimp only

/-! ### Nvm -/

theorem Dev.setGroup_kept {pt : Part} {d : Dev} (g : Nat) (x : NvmGroup) (hk : d.Kept pt) :
    (Dev.setGroup d g x).Kept pt := by
  unfold Dev.setGroup
  repeat' first | (with_reducible first | assumption | apply Dev.Kept.canon) | (unfold Dev.Kept; dsimp only) | dsimp only

theorem Dev.nvmUpset_kept {pt : Part} {d : Dev} (us : List (Nat × Nat × Nat)) (hk : d.Kept pt) :
    (Dev.nvmUpset d us).Kept pt := by
  unfold Dev.nvmUpset
  repeat' first | (with_reducible first | assumption | intro _ | apply Dev.setGroup_kept | apply Dev.Kept.canon | refine ite_kept ?_ ?_ | refine foldl_kept (fun _ _ _ => ?_) ?_ _ | refine foldl_snd2_kept (fun _ _ _ => ?_) ?_ _ | refine foldl_snd_kept (fun _ _ _ => ?_) ?_ _ | refine foldl_fst_kept (fun _ _ _ => ?_) ?_ _) | split | (unfold Dev.Kept; dsimp only) | dsimp only

theorem Dev.nvmUncorrectable_kept {pt : Part} {d : Dev} (g : Nat) (kind : Nat) (hk : d.Kept pt) :
    (Dev.nvmUncorrectable d g kind).Kept pt := by
  unfold Dev.nvmUncorrectable
  repeat' first | (with_reducible first | assumption | apply Dev.raiseCounted_kept | apply Dev.bump_kept | apply Dev.Kept.canon) | (unfold Dev.Kept; dsimp only) | dsimp only

theorem Dev.nvmCorrected_kept {pt : Part} {d : Dev} (g : Nat) (current : Bool) (bs : List Nat) (hk : d.Kept pt) :
    (Dev.nvmCorrected d g current bs).Kept pt := by
  unfold Dev.nvmCorrected
  repeat' first | (with_reducible first | assumption | apply Dev.setGroup_kept | apply Dev.recovered_kept | apply Dev.bump_kept | apply Dev.Kept.canon | refine ite_kept ?_ ?_) | split | (unfold Dev.Kept; dsimp only) | dsimp only

theorem Dev.nvmCopy_kept {pt : Part} {d : Dev} (g : Nat) (current : Bool) (hk : d.Kept pt) :
    (Dev.nvmCopy d g current).2.Kept pt := by
  unfold Dev.nvmCopy
  repeat' first | (with_reducible first | assumption | apply Dev.nvmCorrected_kept | apply Dev.Kept.canon) | split | (unfold Dev.Kept; dsimp only) | dsimp only

theorem Dev.nvmCopy_kept_of {pt : Part} {d : Dev} {g : Nat} {current : Bool} {r0 : Option (List Nat)} {e0 : Dev} (hk : d.Kept pt) (eq : (Dev.nvmCopy d g current) = (r0, e0)) : e0.Kept pt := by
  have k := @Dev.nvmCopy_kept; grind

theorem Dev.nvmGroup_kept {pt : Part} {d : Dev} (g : Nat) (hk : d.Kept pt) :
    (Dev.nvmGroup d g).2.Kept pt := by
  unfold Dev.nvmGroup
  repeat' first | (with_reducible first | assumption | refine Dev.nvmCopy_kept_of ?_ (by assumption) | apply Dev.nvmCopy_kept | apply Dev.nvmUncorrectable_kept | apply Dev.recovered_kept | apply Dev.Kept.canon | refine ite_kept ?_ ?_) | split | (unfold Dev.Kept; dsimp only) | dsimp only

theorem Dev.nvmGroup_kept_of {pt : Part} {d : Dev} {g : Nat} {r0 : Option (List Nat)} {e0 : Dev} (hk : d.Kept pt) (eq : (Dev.nvmGroup d g) = (r0, e0)) : e0.Kept pt := by
  have k := @Dev.nvmGroup_kept; grind

theorem Dev.nvmGroups_kept {pt : Part} {d : Dev} (g : Nat) (a2 : Nat) (hk : d.Kept pt) :
    (Dev.nvmGroups d g a2).2.Kept pt := by
  induction a2 generalizing d g with
  | zero => unfold Dev.nvmGroups; repeat' first | (with_reducible first | assumption | refine Dev.nvmGroup_kept_of ?_ (by assumption) | apply Dev.nvmGroup_kept | apply Dev.Kept.canon) | split | (unfold Dev.Kept; dsimp only) | dsimp only
  | succ n ih => unfold Dev.nvmGroups; repeat' first | with_reducible apply ih | (with_reducible first | assumption | refine Dev.nvmGroup_kept_of ?_ (by assumption) | apply Dev.nvmGroup_kept | apply Dev.Kept.canon) | split | (unfold Dev.Kept; dsimp only) | dsimp only

theorem Dev.nvmGroups_kept_of {pt : Part} {d : Dev} {g : Nat} {a2 : Nat} {r0 : List (Option (List Nat))} {e0 : Dev} (hk : d.Kept pt) (eq : (Dev.nvmGroups d g a2) = (r0, e0)) : e0.Kept pt := by
  have k := @Dev.nvmGroups_kept; grind

theorem Dev.nvmRead_kept {pt : Part} {d : Dev} (a : Nat) (n : Nat) (hk : d.Kept pt) :
    (Dev.nvmRead d a n).2.Kept pt := by
  unfold Dev.nvmRead
  repeat' first | (with_reducible first | assumption | intro _ | refine Dev.nvmGroups_kept_of ?_ (by assumption) | apply Dev.nvmGroups_kept | apply Dev.Kept.canon | refine ite_kept ?_ ?_) | split | (unfold Dev.Kept; dsimp only) | dsimp only

theorem Dev.nvmRead_kept_of {pt : Part} {d : Dev} {a : Nat} {n : Nat} {r0 : (List Nat × Nat)} {e0 : Dev} (hk : d.Kept pt) (eq : (Dev.nvmRead d a n) = (r0, e0)) : e0.Kept pt := by
  have k := @Dev.nvmRead_kept; grind

theorem Dev.nvmPut_kept {pt : Part} {d : Dev} (a : Nat) (bs : List Nat) (hk : d.Kept pt) :
    (Dev.nvmPut d a bs).Kept pt := by
  unfold Dev.nvmPut
  repeat' first | (with_reducible first | assumption | intro _ | apply Dev.setGroup_kept | apply Dev.Kept.canon | refine ite_kept ?_ ?_ | refine foldl_kept (fun _ _ _ => ?_) ?_ _ | refine foldl_snd2_kept (fun _ _ _ => ?_) ?_ _ | refine foldl_snd_kept (fun _ _ _ => ?_) ?_ _ | refine foldl_fst_kept (fun _ _ _ => ?_) ?_ _) | split | (unfold Dev.Kept; dsimp only) | dsimp only

theorem Dev.setEnergyWait_kept {pt : Part} {d : Dev} (on : Bool) (hk : d.Kept pt) :
    (Dev.setEnergyWait d on).Kept pt := by
  unfold Dev.setEnergyWait
  repeat' first | (with_reducible first | assumption | apply Dev.raiseLimited_kept | apply Dev.putBit_kept | apply Dev.Kept.canon | refine ite_kept ?_ ?_) | split | (unfold Dev.Kept; dsimp only) | dsimp only

theorem Dev.showBusy_kept {pt : Part} {d : Dev} (hk : d.Kept pt) :
    (Dev.showBusy d).Kept pt := by
  unfold Dev.showBusy
  repeat' first | (with_reducible first | assumption | intro _ | apply Dev.putBit_kept | apply Dev.Kept.canon | refine foldl_kept (fun _ _ _ => ?_) ?_ _ | refine foldl_snd2_kept (fun _ _ _ => ?_) ?_ _ | refine foldl_snd_kept (fun _ _ _ => ?_) ?_ _ | refine foldl_fst_kept (fun _ _ _ => ?_) ?_ _) | (unfold Dev.Kept; dsimp only) | dsimp only

theorem Dev.noteWaits_kept {pt : Part} {d : Dev} (blocked : Bool) (hk : d.Kept pt) :
    (Dev.noteWaits d blocked).Kept pt := by
  unfold Dev.noteWaits
  repeat' first | (with_reducible first | assumption | intro _ | apply Dev.Kept.canon | refine ite_kept ?_ ?_) | split | (unfold Dev.Kept; dsimp only) | dsimp only

theorem Dev.kickWrites_kept {pt : Part} {d : Dev} (hk : d.Kept pt) :
    (Dev.kickWrites d).Kept pt := by
  unfold Dev.kickWrites
  repeat' first | (with_reducible first | assumption | intro _ | apply Dev.noteWaits_kept | apply Dev.showBusy_kept | apply Dev.setEnergyWait_kept | apply Dev.Kept.canon | refine ite_kept ?_ ?_) | split | (unfold Dev.Kept; dsimp only) | dsimp only

theorem Dev.askWrite_kept {pt : Part} {d : Dev} (o : WriteOrigin) (a : Nat) (bs : List Nat) (hk : d.Kept pt) :
    (Dev.askWrite d o a bs).Kept pt := by
  unfold Dev.askWrite
  repeat' first | (with_reducible first | assumption | apply Dev.kickWrites_kept | apply Dev.Kept.canon) | (unfold Dev.Kept; dsimp only) | dsimp only

theorem Dev.commitPage_kept {pt : Part} {d : Dev} (a : Nat) (bs : List Nat) (n : Nat) (mirror : Bool) (hk : d.Kept pt) :
    (Dev.commitPage d a bs n mirror).Kept pt := by
  unfold Dev.commitPage
  repeat' first | (with_reducible first | assumption | intro _ | apply Dev.setGroup_kept | apply Dev.Kept.canon | refine ite_kept ?_ ?_ | refine foldl_kept (fun _ _ _ => ?_) ?_ _ | refine foldl_snd2_kept (fun _ _ _ => ?_) ?_ _ | refine foldl_snd_kept (fun _ _ _ => ?_) ?_ _ | refine foldl_fst_kept (fun _ _ _ => ?_) ?_ _) | split | (unfold Dev.Kept; dsimp only) | dsimp only

theorem Dev.dropWrite_kept {pt : Part} {d : Dev} (w : PageWrite) (hk : d.Kept pt) :
    (Dev.dropWrite d w).Kept pt := by
  unfold Dev.dropWrite
  repeat' first | (with_reducible first | assumption | apply Dev.Kept.canon) | (unfold Dev.Kept; dsimp only) | dsimp only

theorem Dev.putSlot_kept {pt : Part} {d : Dev} (slot : Nat) (bs : List Nat) (hk : d.Kept pt) :
    (Dev.putSlot d slot bs).Kept pt := by
  unfold Dev.putSlot
  repeat' first | (with_reducible first | assumption | apply Dev.nvmPut_kept | apply Dev.Kept.canon) | (unfold Dev.Kept; dsimp only) | dsimp only

theorem Dev.askLog_kept {pt : Part} {d : Dev} (hk : d.Kept pt) :
    (Dev.askLog d).Kept pt := by
  unfold Dev.askLog
  repeat' first | (with_reducible first | assumption | apply Dev.askWrite_kept | apply Dev.Kept.canon) | split | (unfold Dev.Kept; dsimp only) | dsimp only

theorem Dev.kickLog_kept {pt : Part} {d : Dev} (hk : d.Kept pt) :
    (Dev.kickLog d).Kept pt := by
  unfold Dev.kickLog
  repeat' first | (with_reducible first | assumption | intro _ | apply Dev.askLog_kept | apply Dev.Kept.canon | refine ite_kept ?_ ?_) | split | (unfold Dev.Kept; dsimp only) | dsimp only

theorem Dev.logWritten_kept {pt : Part} {d : Dev} (hk : d.Kept pt) :
    (Dev.logWritten d).Kept pt := by
  unfold Dev.logWritten
  repeat' first | (with_reducible first | assumption | apply Dev.askLog_kept | apply Dev.putRet_kept | apply Dev.put_kept | apply Dev.Kept.canon | refine ite_kept ?_ ?_) | split | (unfold Dev.Kept; dsimp only) | dsimp only

theorem Dev.readRecord_kept {pt : Part} {d : Dev} (r : Nat) (hk : d.Kept pt) :
    (Dev.readRecord d r).2.Kept pt := by
  unfold Dev.readRecord
  repeat' first | (with_reducible first | assumption | intro _ | refine Dev.nvmGroup_kept_of ?_ (by assumption) | apply Dev.nvmGroup_kept | apply Dev.Kept.canon) | split | (unfold Dev.Kept; dsimp only) | dsimp only

theorem Dev.readRecord_kept_of {pt : Part} {d : Dev} {r : Nat} {r0 : (Resolution × Nat × Nat)} {e0 : Dev} (hk : d.Kept pt) (eq : (Dev.readRecord d r) = (r0, e0)) : e0.Kept pt := by
  have k := @Dev.readRecord_kept; grind

theorem Dev.markAmbiguous_kept {pt : Part} {d : Dev} (r : Nat) (on : Bool) (sa : Nat) (sb : Nat) (hk : d.Kept pt) :
    (Dev.markAmbiguous d r on sa sb).Kept pt := by
  unfold Dev.markAmbiguous
  repeat' first | (with_reducible first | assumption | apply Dev.raise_kept | apply Dev.put_kept | apply Dev.Kept.canon | refine ite_kept ?_ ?_) | split | (unfold Dev.Kept; dsimp only) | dsimp only

theorem Dev.settleRecord_kept {pt : Part} {d : Dev} (r : Nat) (x : Resolution) (sa : Nat) (sb : Nat) (hk : d.Kept pt) :
    (Dev.settleRecord d r x sa sb).Kept pt := by
  unfold Dev.settleRecord
  repeat' first | (with_reducible first | assumption | apply Dev.markAmbiguous_kept | apply Dev.setGroup_kept | apply Dev.recovered_kept | apply Dev.raise_kept | apply Dev.Kept.canon | refine ite_kept ?_ ?_) | split | (unfold Dev.Kept; dsimp only) | dsimp only

theorem Dev.resolveRecord_kept {pt : Part} {d : Dev} (r : Nat) (hk : d.Kept pt) :
    (Dev.resolveRecord d r).2.Kept pt := by
  unfold Dev.resolveRecord
  repeat' first | (with_reducible first | assumption | apply Dev.settleRecord_kept | refine Dev.readRecord_kept_of ?_ (by assumption) | apply Dev.readRecord_kept | apply Dev.Kept.canon) | split | (unfold Dev.Kept; dsimp only) | dsimp only

theorem Dev.resolveRecord_kept_of {pt : Part} {d : Dev} {r : Nat} {r0 : Resolution} {e0 : Dev} (hk : d.Kept pt) (eq : (Dev.resolveRecord d r) = (r0, e0)) : e0.Kept pt := by
  have k := @Dev.resolveRecord_kept; grind

theorem Dev.keep_kept {pt : Part} {d : Dev} (r : Nat) (bs : List Nat) (hk : d.Kept pt) :
    (Dev.keep d r bs).Kept pt := by
  unfold Dev.keep
  repeat' first | (with_reducible first | assumption | apply Dev.markRec_kept | apply Dev.Kept.canon) | (unfold Dev.Kept; dsimp only) | dsimp only

theorem Dev.writeRecord_kept {pt : Part} {d : Dev} (r : Nat) (data : List Nat) (hk : d.Kept pt) :
    (Dev.writeRecord d r data).2.Kept pt := by
  unfold Dev.writeRecord
  repeat' first | (with_reducible first | assumption | apply Dev.markAmbiguous_kept | refine Dev.readRecord_kept_of ?_ (by assumption) | apply Dev.readRecord_kept | apply Dev.setGroup_kept | apply Dev.Kept.canon | refine ite_kept ?_ ?_) | split | (unfold Dev.Kept; dsimp only) | dsimp only

theorem Dev.writeRecord_kept_of {pt : Part} {d : Dev} {r : Nat} {data : List Nat} {r0 : Nat} {e0 : Dev} (hk : d.Kept pt) (eq : (Dev.writeRecord d r data) = (r0, e0)) : e0.Kept pt := by
  have k := @Dev.writeRecord_kept; grind

theorem Dev.recCommitted_kept {pt : Part} {d : Dev} (r : Nat) (seq : Nat) (hk : d.Kept pt) :
    (Dev.recCommitted d r seq).Kept pt := by
  unfold Dev.recCommitted
  repeat' first | (with_reducible first | assumption | intro _ | apply Dev.done_kept | apply Dev.Kept.canon | refine ite_kept ?_ ?_ | refine foldl_kept (fun _ _ _ => ?_) ?_ _ | refine foldl_snd2_kept (fun _ _ _ => ?_) ?_ _ | refine foldl_snd_kept (fun _ _ _ => ?_) ?_ _ | refine foldl_fst_kept (fun _ _ _ => ?_) ?_ _) | split | (unfold Dev.Kept; dsimp only) | dsimp only

theorem Dev.putStore_kept {pt : Part} {d : Dev} (p : Nat) (bs : List Nat) (hk : d.Kept pt) :
    (Dev.putStore d p bs).Kept pt := by
  unfold Dev.putStore
  repeat' first | (with_reducible first | assumption | intro _ | apply Dev.nvmPut_kept | apply Dev.Kept.canon | refine foldl_kept (fun _ _ _ => ?_) ?_ _ | refine foldl_snd2_kept (fun _ _ _ => ?_) ?_ _ | refine foldl_snd_kept (fun _ _ _ => ?_) ?_ _ | refine foldl_fst_kept (fun _ _ _ => ?_) ?_ _) | (unfold Dev.Kept; dsimp only) | dsimp only

theorem Dev.readStore_kept {pt : Part} {d : Dev} (a : Nat) (len : Nat) (hk : d.Kept pt) :
    (Dev.readStore d a len).2.Kept pt := by
  unfold Dev.readStore
  generalize storePage a = b
  dsimp only
  refine foldl_snd_kept ?_ hk _
  intro z j hz
  exact Dev.nvmRead_kept (storeAddr (b + j)) 256 hz

theorem Dev.readStore_kept_of {pt : Part} {d : Dev} {a : Nat} {len : Nat} {r0 : (List Nat × Nat)} {e0 : Dev} (hk : d.Kept pt) (eq : (Dev.readStore d a len) = (r0, e0)) : e0.Kept pt := by
  have k := @Dev.readStore_kept; grind

theorem Dev.storeAt_kept {pt : Part} {d : Dev} (ptr : Nat) (bs : List Nat) (hk : d.Kept pt) :
    (Dev.storeAt d ptr bs).2.Kept pt := by
  unfold Dev.storeAt
  repeat' first | (with_reducible first | assumption | apply Dev.putStore_kept | refine Dev.writeRecord_kept_of ?_ (by assumption) | apply Dev.writeRecord_kept | apply Dev.Kept.canon | refine ite_kept ?_ ?_) | split | (unfold Dev.Kept; dsimp only) | dsimp only

theorem Dev.storeAt_kept_of {pt : Part} {d : Dev} {ptr : Nat} {bs : List Nat} {r0 : Nat} {e0 : Dev} (hk : d.Kept pt) (eq : (Dev.storeAt d ptr bs) = (r0, e0)) : e0.Kept pt := by
  have k := @Dev.storeAt_kept; grind

theorem Dev.saveSettle_kept {pt : Part} {d : Dev} (hk : d.Kept pt) :
    (Dev.saveSettle d).Kept pt := by
  unfold Dev.saveSettle
  repeat' first | (with_reducible first | assumption | intro _ | apply Dev.settleWord_kept | apply Canon.setErr | apply Dev.Kept.canon | refine foldl_kept (fun _ _ _ => ?_) ?_ _ | refine foldl_snd2_kept (fun _ _ _ => ?_) ?_ _ | refine foldl_snd_kept (fun _ _ _ => ?_) ?_ _ | refine foldl_fst_kept (fun _ _ _ => ?_) ?_ _) | (unfold Dev.Kept; dsimp only) | dsimp only

theorem Dev.setArea_kept {pt : Part} {d : Dev} (k : Nat) (x : SaveArea) (hk : d.Kept pt) :
    (Dev.setArea d k x).Kept pt := by
  unfold Dev.setArea
  repeat' first | (with_reducible first | assumption | apply Dev.Kept.canon | refine ite_kept ?_ ?_) | split | (unfold Dev.Kept; dsimp only) | dsimp only

theorem Dev.writeArea_kept {pt : Part} {d : Dev} (k : Nat) (h : SaveHeader) (cells : List Host.Cell) (hk : d.Kept pt) :
    (Dev.writeArea d k h cells).Kept pt := by
  unfold Dev.writeArea
  repeat' first | (with_reducible first | assumption | intro _ | apply Dev.setArea_kept | apply Dev.Kept.canon) | (unfold Dev.Kept; dsimp only) | dsimp only

theorem Dev.saveStart_kept {pt : Part} {d0 : Dev} (kind : Nat) (hkd0 : d0.Kept pt) :
    (Dev.saveStart d0 kind).Kept pt := by
  unfold Dev.saveStart
  repeat' first | (with_reducible first | assumption | apply Dev.setArea_kept | apply Dev.saveSettle_kept | apply Dev.showBusy_kept | apply Dev.Kept.canon | refine ite_kept ?_ ?_) | split | (unfold Dev.Kept; dsimp only) | dsimp only

theorem Dev.saveCommit_kept {pt : Part} {d : Dev} (hk : d.Kept pt) :
    (Dev.saveCommit d).Kept pt := by
  unfold Dev.saveCommit
  repeat' first | (with_reducible first | assumption | apply Dev.writeArea_kept | apply Dev.showBusy_kept | apply Dev.put_kept | apply Dev.Kept.canon) | split | (unfold Dev.Kept; dsimp only) | dsimp only

theorem Dev.checkpointTick_kept {pt : Part} {d : Dev} (hk : d.Kept pt) :
    (Dev.checkpointTick d).Kept pt := by
  unfold Dev.checkpointTick
  repeat' first | (with_reducible first | assumption | apply Dev.saveCommit_kept | apply Dev.Kept.canon | refine ite_kept ?_ ?_) | split | (unfold Dev.Kept; dsimp only) | dsimp only

theorem Dev.dropCheckpoint_kept {pt : Part} {d : Dev} (hk : d.Kept pt) :
    (Dev.dropCheckpoint d).Kept pt := by
  unfold Dev.dropCheckpoint
  repeat' first | (with_reducible first | assumption | apply Dev.showBusy_kept | apply Dev.Kept.canon) | (unfold Dev.Kept; dsimp only) | dsimp only

theorem Dev.clearSaveSet_kept {pt : Part} {d : Dev} (hk : d.Kept pt) :
    (Dev.clearSaveSet d).Kept pt := by
  unfold Dev.clearSaveSet
  exact ⟨hk.1, Map.filter_wf _ hk.2.1, hk.2.2.1, hk.2.2.2.1, Map.filter_wf _ hk.2.2.2.2⟩

theorem Dev.restoreSave_kept {pt : Part} {d : Dev} (hk : d.Kept pt) :
    (Dev.restoreSave d).2.Kept pt := by
  unfold Dev.restoreSave
  extract_lets b d0 d1
  have h0 : d0.Kept pt := foldl_kept (fun _ _ hy => Dev.nvmGroup_kept _ hy) hk _
  have h1 : d1.Kept pt := Dev.clearSaveSet_kept h0
  clear_value d1
  split
  · exact Dev.raise_kept _ _ _ h1
  · refine Dev.put_kept _ _ _ (Dev.put_kept _ _ _ (Dev.put_kept _ _ _ ?_))
    exact h1.canon.foldMem (fun c : Host.Cell => b + c.1) (fun c : Host.Cell => c.2) _

theorem Dev.restoreSave_kept_of {pt : Part} {d : Dev} {r0 : Bool} {e0 : Dev} (hk : d.Kept pt) (eq : (Dev.restoreSave d) = (r0, e0)) : e0.Kept pt := by
  have k := @Dev.restoreSave_kept; grind

theorem Dev.applyRecord_kept {pt : Part} {d : Dev} (r : Nat) (data : List Nat) (hk : d.Kept pt) :
    (Dev.applyRecord d r data).Kept pt := by
  unfold Dev.applyRecord
  repeat' first | (with_reducible first | assumption | intro _ | apply Dev.put_kept | apply Dev.Kept.canon | refine ite_kept ?_ ?_ | refine foldl_kept (fun _ _ _ => ?_) ?_ _ | refine foldl_snd2_kept (fun _ _ _ => ?_) ?_ _ | refine foldl_snd_kept (fun _ _ _ => ?_) ?_ _ | refine foldl_fst_kept (fun _ _ _ => ?_) ?_ _) | split | (unfold Dev.Kept; dsimp only) | dsimp only

theorem Dev.restoreRecords_kept {pt : Part} {d : Dev} (hk : d.Kept pt) :
    (Dev.restoreRecords d).2.Kept pt := by
  unfold Dev.restoreRecords
  repeat' first | (with_reducible first | assumption | intro _ | apply Dev.applyRecord_kept | refine Dev.resolveRecord_kept_of ?_ (by assumption) | apply Dev.resolveRecord_kept | apply Dev.bump_kept | apply Dev.Kept.canon | refine ite_kept ?_ ?_ | refine foldl_kept (fun _ _ _ => ?_) ?_ _ | refine foldl_snd2_kept (fun _ _ _ => ?_) ?_ _ | refine foldl_snd_kept (fun _ _ _ => ?_) ?_ _ | refine foldl_fst_kept (fun _ _ _ => ?_) ?_ _) | split | (unfold Dev.Kept; dsimp only) | dsimp only

theorem Dev.restoreRecords_kept_of {pt : Part} {d : Dev} {r0 : List Nat} {e0 : Dev} (hk : d.Kept pt) (eq : (Dev.restoreRecords d) = (r0, e0)) : e0.Kept pt := by
  have k := @Dev.restoreRecords_kept; grind

theorem Dev.logLost_kept {pt : Part} {d : Dev} (rs : List Nat) (hk : d.Kept pt) :
    (Dev.logLost d rs).Kept pt := by
  unfold Dev.logLost
  repeat' first | (with_reducible first | assumption | intro _ | apply Dev.logFault_kept | apply Dev.Kept.canon | refine foldl_kept (fun _ _ _ => ?_) ?_ _ | refine foldl_snd2_kept (fun _ _ _ => ?_) ?_ _ | refine foldl_snd_kept (fun _ _ _ => ?_) ?_ _ | refine foldl_fst_kept (fun _ _ _ => ?_) ?_ _) | (unfold Dev.Kept; dsimp only) | dsimp only

theorem Dev.readPointed_kept {pt : Part} {d : Dev} (ptr : Nat) (hk : d.Kept pt) :
    (Dev.readPointed d ptr).2.Kept pt := by
  unfold Dev.readPointed
  repeat' first | (with_reducible first | assumption | apply Dev.readStore_kept | apply Dev.readRecord_kept | apply Dev.Kept.canon | refine ite_kept ?_ ?_) | split | (unfold Dev.Kept; dsimp only) | dsimp only

theorem Dev.readPointed_kept_of {pt : Part} {d : Dev} {ptr : Nat} {r0 : Option (List Nat)} {e0 : Dev} (hk : d.Kept pt) (eq : (Dev.readPointed d ptr) = (r0, e0)) : e0.Kept pt := by
  have k := @Dev.readPointed_kept; grind

theorem Dev.restoreBlocks_kept {pt : Part} {d : Dev} (hk : d.Kept pt) :
    (Dev.restoreBlocks d).Kept pt := by
  unfold Dev.restoreBlocks
  repeat' first | (with_reducible first | assumption | intro _ | refine Dev.readPointed_kept_of ?_ (by assumption) | apply Dev.readPointed_kept | apply Dev.raise_kept | apply Dev.Kept.canon | refine ite_kept ?_ ?_ | refine foldl_kept (fun _ _ _ => ?_) ?_ _ | refine foldl_snd2_kept (fun _ _ _ => ?_) ?_ _ | refine foldl_snd_kept (fun _ _ _ => ?_) ?_ _ | refine foldl_fst_kept (fun _ _ _ => ?_) ?_ _) | split | (unfold Dev.Kept; dsimp only) | dsimp only

theorem Dev.takeSlot_kept {pt : Part} {d : Dev} (bs : List Nat) (bad : Nat) (hk : d.Kept pt) :
    (Dev.takeSlot d bs bad).Kept pt := by
  unfold Dev.takeSlot
  repeat' first | (with_reducible first | assumption | apply Dev.put_kept | apply Dev.Kept.canon | refine ite_kept ?_ ?_) | split | (unfold Dev.Kept; dsimp only) | dsimp only

theorem Dev.restoreSlot_kept {pt : Part} {d : Dev} (hk : d.Kept pt) :
    (Dev.restoreSlot d).Kept pt := by
  unfold Dev.restoreSlot
  generalize slotHalf = n
  exact Dev.takeSlot_kept _ _ (Dev.nvmRead_kept _ _ (Dev.nvmRead_kept _ _ (Dev.nvmRead_kept _ _ hk)))

theorem Dev.restoreLockouts_kept {pt : Part} {d : Dev} (hk : d.Kept pt) :
    (Dev.restoreLockouts d).Kept pt := by
  unfold Dev.restoreLockouts
  repeat' first | (with_reducible first | assumption | intro _ | apply Dev.Kept.canon | refine ite_kept ?_ ?_ | refine foldl_kept (fun _ _ _ => ?_) ?_ _ | refine foldl_snd2_kept (fun _ _ _ => ?_) ?_ _ | refine foldl_snd_kept (fun _ _ _ => ?_) ?_ _ | refine foldl_fst_kept (fun _ _ _ => ?_) ?_ _) | split | (unfold Dev.Kept; dsimp only) | dsimp only

theorem Dev.tearWrites_kept {pt : Part} {d : Dev} (hk : d.Kept pt) :
    (Dev.tearWrites d).Kept pt := by
  unfold Dev.tearWrites
  repeat' first | (with_reducible first | assumption | intro _ | apply Dev.commitPage_kept | apply Dev.nextFree_kept | apply Dev.Kept.canon | refine foldl_kept (fun _ _ _ => ?_) ?_ _ | refine foldl_snd2_kept (fun _ _ _ => ?_) ?_ _ | refine foldl_snd_kept (fun _ _ _ => ?_) ?_ _ | refine foldl_fst_kept (fun _ _ _ => ?_) ?_ _) | split | (unfold Dev.Kept; dsimp only) | dsimp only

/-! ### NvmOps -/

theorem Dev.setOpen_kept {pt : Part} {d : Dev} (r : Nat) (k : Nat) (on : Bool) (hk : d.Kept pt) :
    (Dev.setOpen d r k on).Kept pt := by
  unfold Dev.setOpen
  repeat' first | (with_reducible first | assumption | apply Dev.put_kept | apply Dev.Kept.canon | refine ite_kept ?_ ?_) | split | (unfold Dev.Kept; dsimp only) | dsimp only

theorem bodyNvmUnlock_kept {pt : Part} (id : Nat) (x : Sys2Proof.Desc) {d : Dev} (hk : d.Kept pt) :
    (bodyNvmUnlock id x d).Kept pt := by
  unfold bodyNvmUnlock
  repeat' first | (with_reducible first | assumption | apply Dev.setOpen_kept | apply Dev.done_kept | apply Dev.fail_kept | apply Dev.finish_kept | apply Dev.raise_kept | apply Dev.putRet_kept | apply Dev.Kept.canon | refine ite_kept ?_ ?_) | split | (unfold Dev.Kept; dsimp only) | dsimp only

theorem bodyNvmLock_kept {pt : Part} (id : Nat) (x : Sys2Proof.Desc) {d : Dev} (hk : d.Kept pt) :
    (bodyNvmLock id x d).Kept pt := by
  unfold bodyNvmLock
  repeat' first | (with_reducible first | assumption | intro _ | apply Dev.setOpen_kept | apply Dev.done_kept | apply Dev.fail_kept | apply Dev.Kept.canon | refine ite_kept ?_ ?_ | refine foldl_kept (fun _ _ _ => ?_) ?_ _ | refine foldl_snd2_kept (fun _ _ _ => ?_) ?_ _ | refine foldl_snd_kept (fun _ _ _ => ?_) ?_ _ | refine foldl_fst_kept (fun _ _ _ => ?_) ?_ _) | split | (unfold Dev.Kept; dsimp only) | dsimp only

theorem bodyNvmSetpw_kept {pt : Part} (id : Nat) (x : Sys2Proof.Desc) {d : Dev} (hk : d.Kept pt) :
    (bodyNvmSetpw id x d).Kept pt := by
  unfold bodyNvmSetpw
  repeat' first | (with_reducible first | assumption | apply Dev.keep_kept | apply Dev.done_kept | apply Dev.fail_kept | apply Dev.Kept.canon | refine ite_kept ?_ ?_) | split | (unfold Dev.Kept; dsimp only) | dsimp only

theorem bodyNvmRead_kept {pt : Part} (ups : List (Nat × Nat × Nat)) (id : Nat) (x : Sys2Proof.Desc) {d : Dev} (hk : d.Kept pt) :
    (bodyNvmRead ups id x d).Kept pt := by
  unfold bodyNvmRead
  repeat' first | (with_reducible first | assumption | refine Dev.nvmRead_kept_of ?_ (by assumption) | apply Dev.nvmRead_kept | apply Dev.nvmUpset_kept | apply Dev.memWrite_kept | apply Dev.fail_kept | apply Dev.finish_kept | apply Dev.Kept.canon | refine ite_kept ?_ ?_) | split | (unfold Dev.Kept; dsimp only) | dsimp only

theorem bodyNvmWrite_kept {pt : Part} (id : Nat) (x : Sys2Proof.Desc) {d : Dev} (hk : d.Kept pt) :
    (bodyNvmWrite id x d).Kept pt := by
  unfold bodyNvmWrite
  repeat' first | (with_reducible first | assumption | apply Dev.askWrite_kept | refine Dev.readImage_kept_of ?_ (by assumption) | apply Dev.readImage_kept | apply Dev.fail_kept | apply Dev.Kept.canon | refine ite_kept ?_ ?_) | split | (unfold Dev.Kept; dsimp only) | dsimp only

theorem bodyNvmSync_kept {pt : Part} (id : Nat) (a1 : Sys2Proof.Desc) {d : Dev} (hk : d.Kept pt) :
    (bodyNvmSync id a1 d).Kept pt := by
  unfold bodyNvmSync
  repeat' first | (with_reducible first | assumption | apply Dev.done_kept | apply Dev.Kept.canon | refine ite_kept ?_ ?_) | split | (unfold Dev.Kept; dsimp only) | dsimp only

theorem Dev.awaitRecord_kept {pt : Part} {d : Dev} (id : Nat) (r : Nat) (hk : d.Kept pt) :
    (Dev.awaitRecord d id r).Kept pt := by
  unfold Dev.awaitRecord
  repeat' first | (with_reducible first | assumption | refine Dev.readRecord_kept_of ?_ (by assumption) | apply Dev.readRecord_kept | apply Dev.done_kept | apply Dev.markRec_kept | apply Dev.Kept.canon | refine ite_kept ?_ ?_) | split | (unfold Dev.Kept; dsimp only) | dsimp only

theorem bodyRecConfirm_kept {pt : Part} (id : Nat) (x : Sys2Proof.Desc) {d : Dev} (hk : d.Kept pt) :
    (bodyRecConfirm id x d).Kept pt := by
  unfold bodyRecConfirm
  repeat' first | (with_reducible first | assumption | apply Dev.awaitRecord_kept | refine Dev.readRecord_kept_of ?_ (by assumption) | apply Dev.readRecord_kept | apply Dev.done_kept | apply Dev.fail_kept | apply Dev.Kept.canon | refine ite_kept ?_ ?_) | split | (unfold Dev.Kept; dsimp only) | dsimp only

theorem bodyRecWrite_kept {pt : Part} (id : Nat) (x : Sys2Proof.Desc) {d : Dev} (hk : d.Kept pt) :
    (bodyRecWrite id x d).Kept pt := by
  unfold bodyRecWrite
  repeat' first | (with_reducible first | assumption | intro _ | apply Dev.awaitRecord_kept | apply Dev.fail_kept | apply Dev.Kept.canon | refine ite_kept ?_ ?_) | split | (unfold Dev.Kept; dsimp only) | dsimp only

theorem bodyRecRead_kept {pt : Part} (ups : List (Nat × Nat × Nat)) (id : Nat) (x : Sys2Proof.Desc) {d : Dev} (hk : d.Kept pt) :
    (bodyRecRead ups id x d).Kept pt := by
  unfold bodyRecRead
  repeat' first | (with_reducible first | assumption | apply Dev.logLost_kept | refine Dev.resolveRecord_kept_of ?_ (by assumption) | apply Dev.resolveRecord_kept | apply Dev.nvmUpset_kept | apply Dev.memWrite_kept | apply Dev.done_kept | apply Dev.fail_kept | apply Dev.Kept.canon | refine ite_kept ?_ ?_) | split | (unfold Dev.Kept; dsimp only) | dsimp only

theorem Dev.exportRecords_kept {pt : Part} {d : Dev} (hk : d.Kept pt) :
    (Dev.exportRecords d).2.Kept pt := by
  unfold Dev.exportRecords
  repeat' first | (with_reducible first | assumption | intro _ | refine Dev.readRecord_kept_of ?_ (by assumption) | apply Dev.readRecord_kept | apply Dev.Kept.canon | refine ite_kept ?_ ?_ | refine foldl_kept (fun _ _ _ => ?_) ?_ _ | refine foldl_snd2_kept (fun _ _ _ => ?_) ?_ _ | refine foldl_snd_kept (fun _ _ _ => ?_) ?_ _ | refine foldl_fst_kept (fun _ _ _ => ?_) ?_ _) | split | (unfold Dev.Kept; dsimp only) | dsimp only

theorem Dev.exportRecords_kept_of {pt : Part} {d : Dev} {r0 : List (List Nat)} {e0 : Dev} (hk : d.Kept pt) (eq : (Dev.exportRecords d) = (r0, e0)) : e0.Kept pt := by
  have k := @Dev.exportRecords_kept; grind

theorem Dev.exportBlocks_kept {pt : Part} {d : Dev} (hk : d.Kept pt) :
    (Dev.exportBlocks d).2.Kept pt := by
  unfold Dev.exportBlocks
  repeat' first | (with_reducible first | assumption | intro _ | refine Dev.readPointed_kept_of ?_ (by assumption) | apply Dev.readPointed_kept | apply Dev.Kept.canon | refine foldl_kept (fun _ _ _ => ?_) ?_ _ | refine foldl_snd2_kept (fun _ _ _ => ?_) ?_ _ | refine foldl_snd_kept (fun _ _ _ => ?_) ?_ _ | refine foldl_fst_kept (fun _ _ _ => ?_) ?_ _) | split | (unfold Dev.Kept; dsimp only) | dsimp only

theorem Dev.exportBlocks_kept_of {pt : Part} {d : Dev} {r0 : List (List Nat)} {e0 : Dev} (hk : d.Kept pt) (eq : (Dev.exportBlocks d) = (r0, e0)) : e0.Kept pt := by
  have k := @Dev.exportBlocks_kept; grind

theorem Dev.exportSave_kept {pt : Part} {d0 : Dev} (hkd0 : d0.Kept pt) :
    (Dev.exportSave d0).2.Kept pt := by
  unfold Dev.exportSave
  repeat' first | (with_reducible first | assumption | apply Dev.saveSettle_kept | apply Dev.Kept.canon) | (unfold Dev.Kept; dsimp only) | dsimp only

theorem Dev.exportSave_kept_of {pt : Part} {d0 : Dev} {r0 : List Nat} {e0 : Dev} (hkd0 : d0.Kept pt) (eq : (Dev.exportSave d0) = (r0, e0)) : e0.Kept pt := by
  have k := @Dev.exportSave_kept; grind

theorem Dev.nvmTwo_kept {pt : Part} {d : Dev} (a : Nat) (b : Nat) (n : Nat) (hk : d.Kept pt) :
    (Dev.nvmTwo d a b n).2.Kept pt := by
  unfold Dev.nvmTwo
  repeat' first | (with_reducible first | assumption | apply Dev.nvmRead_kept | apply Dev.Kept.canon) | (unfold Dev.Kept; dsimp only) | dsimp only

theorem Dev.nvmTwo_kept_of {pt : Part} {d : Dev} {a : Nat} {b : Nat} {n : Nat} {r0 : List Nat} {e0 : Dev} (hk : d.Kept pt) (eq : (Dev.nvmTwo d a b n) = (r0, e0)) : e0.Kept pt := by
  have k := @Dev.nvmTwo_kept; grind

theorem Dev.exportRegion_kept {pt : Part} {d : Dev} (r : Nat) (hk : d.Kept pt) :
    (Dev.exportRegion d r).2.Kept pt := by
  unfold Dev.exportRegion
  exact Dev.nvmTwo_kept _ _ _ hk

theorem Dev.exportRegion_kept_of {pt : Part} {d : Dev} {r : Nat} {r0 : List Nat} {e0 : Dev} (hk : d.Kept pt) (eq : (Dev.exportRegion d r) = (r0, e0)) : e0.Kept pt := by
  have k := @Dev.exportRegion_kept; grind

theorem Dev.exportHost_kept {pt : Part} {d : Dev} (host : Bool) (r : Nat) (hk : d.Kept pt) :
    (Dev.exportHost d host r).2.Kept pt := by
  unfold Dev.exportHost
  repeat' first | (with_reducible first | assumption | apply Dev.exportRegion_kept | apply Dev.Kept.canon | refine ite_kept ?_ ?_) | split | (unfold Dev.Kept; dsimp only) | dsimp only

theorem Dev.exportHost_kept_of {pt : Part} {d : Dev} {host : Bool} {r : Nat} {r0 : List Nat} {e0 : Dev} (hk : d.Kept pt) (eq : (Dev.exportHost d host r) = (r0, e0)) : e0.Kept pt := by
  have k := @Dev.exportHost_kept; grind

theorem Dev.exportPayload_kept {pt : Part} {d : Dev} (host : Bool) (hk : d.Kept pt) :
    (Dev.exportPayload d host).2.Kept pt := by
  unfold Dev.exportPayload
  repeat' first | (with_reducible first | assumption | apply Dev.exportHost_kept | apply Dev.exportSave_kept | apply Dev.exportBlocks_kept | apply Dev.exportRecords_kept | apply Dev.Kept.canon | refine ite_kept ?_ ?_) | split | (unfold Dev.Kept; dsimp only) | dsimp only

theorem Dev.exportPayload_kept_of {pt : Part} {d : Dev} {host : Bool} {r0 : List Nat} {e0 : Dev} (hk : d.Kept pt) (eq : (Dev.exportPayload d host) = (r0, e0)) : e0.Kept pt := by
  have k := @Dev.exportPayload_kept; grind

theorem bodyNvmExport_kept {pt : Part} (id : Nat) (x : Sys2Proof.Desc) {d : Dev} (hk : d.Kept pt) :
    (bodyNvmExport id x d).Kept pt := by
  unfold bodyNvmExport
  repeat' first | (with_reducible first | assumption | apply Dev.fail_kept | apply Dev.put_kept | apply Dev.Kept.canon | refine ite_kept ?_ ?_) | split | (unfold Dev.Kept; dsimp only) | dsimp only

theorem Dev.endExport_kept {pt : Part} {d : Dev} (st : Status) (result : Nat) (hk : d.Kept pt) :
    (Dev.endExport d st result).Kept pt := by
  unfold Dev.endExport
  repeat' first | (with_reducible first | assumption | apply Dev.finish_kept | apply Dev.put_kept | apply Dev.Kept.canon) | split | (unfold Dev.Kept; dsimp only) | dsimp only

theorem Dev.exportTick_kept {pt : Part} {d : Dev} (hk : d.Kept pt) :
    (Dev.exportTick d).Kept pt := by
  unfold Dev.exportTick
  repeat' first | (with_reducible first | assumption | apply Dev.endExport_kept | refine Dev.exportPayload_kept_of ?_ (by assumption) | apply Dev.exportPayload_kept | apply Dev.bufWrite_kept | apply Dev.Kept.canon | refine ite_kept ?_ ?_) | split | (unfold Dev.Kept; dsimp only) | dsimp only

theorem bodyNvmImport_kept {pt : Part} (data : List Nat) (id : Nat) (x : Sys2Proof.Desc) {d : Dev} (hk : d.Kept pt) :
    (bodyNvmImport data id x d).Kept pt := by
  unfold bodyNvmImport
  repeat' first | (with_reducible first | assumption | apply Dev.fail_kept | apply Dev.put_kept | apply Dev.Kept.canon | refine ite_kept ?_ ?_) | split | (unfold Dev.Kept; dsimp only) | dsimp only

theorem Dev.endImport_kept {pt : Part} {d : Dev} (st : Status) (result : Nat) (hk : d.Kept pt) :
    (Dev.endImport d st result).Kept pt := by
  unfold Dev.endImport
  repeat' first | (with_reducible first | assumption | apply Dev.finish_kept | apply Dev.put_kept | apply Dev.Kept.canon) | split | (unfold Dev.Kept; dsimp only) | dsimp only

theorem Dev.importChecked_kept {pt : Part} {d : Dev} (id : Nat) (x : Sys2Proof.Desc) (hk : d.Kept pt) :
    (Dev.importChecked d id x).Kept pt := by
  unfold Dev.importChecked
  repeat' first | (with_reducible first | assumption | apply Dev.endImport_kept | apply Dev.imageRefused_kept | apply Dev.Kept.canon | refine ite_kept ?_ ?_) | split | (unfold Dev.Kept; dsimp only) | dsimp only

theorem Dev.importRecord_kept {pt : Part} {d : Dev} (r : Nat) (data : Option (List Nat)) (hk : d.Kept pt) :
    (Dev.importRecord d r data).Kept pt := by
  unfold Dev.importRecord
  repeat' first | (with_reducible first | assumption | intro _ | refine Dev.readRecord_kept_of ?_ (by assumption) | apply Dev.readRecord_kept | apply Dev.setGroup_kept | apply Dev.Kept.canon | refine ite_kept ?_ ?_) | split | (unfold Dev.Kept; dsimp only) | dsimp only

theorem Dev.importSave_kept {pt : Part} {d : Dev} (save : List Nat) (hk : d.Kept pt) :
    (Dev.importSave d save).Kept pt := by
  unfold Dev.importSave
  repeat' first | (with_reducible first | assumption | intro _ | apply Dev.writeArea_kept | apply Dev.put_kept | apply Dev.Kept.canon | refine ite_kept ?_ ?_) | split | (unfold Dev.Kept; dsimp only) | dsimp only

theorem Dev.importBlock_kept {pt : Part} {d : Dev} (e : Nat × List Nat) (hk : d.Kept pt) :
    (Dev.importBlock d e).Kept pt := by
  unfold Dev.importBlock
  repeat' first | (with_reducible first | assumption | apply Dev.importRecord_kept | apply Dev.putStore_kept | apply Dev.Kept.canon | refine ite_kept ?_ ?_) | split | (unfold Dev.Kept; dsimp only) | dsimp only

theorem Dev.runImport_kept {pt : Part} {d : Dev} (p : List Nat) (hk : d.Kept pt) :
    (Dev.runImport d p).Kept pt := by
  unfold Dev.runImport
  repeat' first | (with_reducible first | assumption | intro _ | apply Dev.importBlock_kept | apply Dev.importSave_kept | apply Dev.importRecord_kept | apply Dev.putSlot_kept | apply Dev.nvmPut_kept | apply Dev.put_kept | apply Dev.Kept.canon | refine foldl_kept (fun _ _ _ => ?_) ?_ _ | refine foldl_snd2_kept (fun _ _ _ => ?_) ?_ _ | refine foldl_snd_kept (fun _ _ _ => ?_) ?_ _ | refine foldl_fst_kept (fun _ _ _ => ?_) ?_ _) | split | (unfold Dev.Kept; dsimp only) | dsimp only

theorem Dev.importTick_kept {pt : Part} {d : Dev} (hk : d.Kept pt) :
    (Dev.importTick d).Kept pt := by
  unfold Dev.importTick
  repeat' first | (with_reducible first | assumption | apply Dev.runImport_kept | apply Dev.endImport_kept | apply Dev.Kept.canon | refine ite_kept ?_ ?_) | split | (unfold Dev.Kept; dsimp only) | dsimp only

theorem Dev.beginImport_kept {pt : Part} {d : Dev} (o : ImportOp) (hk : d.Kept pt) :
    (Dev.beginImport d o).Kept pt := by
  unfold Dev.beginImport
  repeat' first | (with_reducible first | assumption | apply Dev.importRecord_kept | apply Dev.dropCheckpoint_kept | apply Dev.put_kept | apply Dev.Kept.canon) | (unfold Dev.Kept; dsimp only) | dsimp only

theorem Dev.importStep_kept {pt : Part} {d : Dev} (hk : d.Kept pt) :
    (Dev.importStep d).Kept pt := by
  unfold Dev.importStep
  repeat' first | (with_reducible first | assumption | apply Dev.beginImport_kept | apply Dev.importTick_kept | apply Dev.Kept.canon | refine ite_kept ?_ ?_) | split | (unfold Dev.Kept; dsimp only) | dsimp only

theorem Dev.nvmTick_kept {pt : Part} {d : Dev} (hk : d.Kept pt) :
    (Dev.nvmTick d).Kept pt := by
  unfold Dev.nvmTick
  repeat' first | (with_reducible first | assumption | apply Dev.importStep_kept | apply Dev.exportTick_kept | apply Dev.checkpointTick_kept | apply Dev.kickWrites_kept | apply Dev.Kept.canon) | (unfold Dev.Kept; dsimp only) | dsimp only

theorem Dev.restoreImport_kept {pt : Part} {d : Dev} (hk : d.Kept pt) :
    (Dev.restoreImport d).Kept pt := by
  unfold Dev.restoreImport
  repeat' first | (with_reducible first | assumption | apply Dev.raise_kept | apply Dev.Kept.canon | refine ite_kept ?_ ?_) | split | (unfold Dev.Kept; dsimp only) | dsimp only

theorem Dev.abortWrite_kept {pt : Part} {d : Dev} (id : Nat) (r : Rec) (hk : d.Kept pt) :
    (Dev.abortWrite d id r).Kept pt := by
  unfold Dev.abortWrite
  repeat' first | (with_reducible first | assumption | intro _ | apply Dev.dropWrite_kept | apply Dev.commitPage_kept | apply Dev.kickWrites_kept | apply Dev.done_kept | apply Dev.fail_kept | apply Dev.finish_kept | apply Dev.nextFree_kept | apply Dev.Kept.canon | refine ite_kept ?_ ?_) | split | (unfold Dev.Kept; dsimp only) | dsimp only

theorem settleNvm_kept {pt : Part} (id : Nat) (r : Rec) {d : Dev} (hk : d.Kept pt) :
    (settleNvm id r d).Kept pt := by
  unfold settleNvm
  repeat' first | (with_reducible first | assumption | intro _ | apply Dev.abortWrite_kept | apply Dev.endImport_kept | apply Dev.endExport_kept | apply Dev.done_kept | apply Dev.fail_kept | apply Dev.Kept.canon | refine ite_kept ?_ ?_) | split | (unfold Dev.Kept; dsimp only) | dsimp only

theorem bodyNvmAbort_kept {pt : Part} (id : Nat) (x : Sys2Proof.Desc) {d : Dev} (hk : d.Kept pt) :
    (bodyNvmAbort id x d).Kept pt := by
  unfold bodyNvmAbort
  repeat' first | (with_reducible first | assumption | apply settleNvm_kept | apply Dev.abortDesc_kept | apply Dev.fail_kept | apply Dev.Kept.canon | refine ite_kept ?_ ?_) | split | (unfold Dev.Kept; dsimp only) | dsimp only

theorem Dev.nvmDip_kept {pt : Part} {d : Dev} (hk : d.Kept pt) :
    (Dev.nvmDip d).Kept pt := by
  unfold Dev.nvmDip
  repeat' first | (with_reducible first | assumption | apply Dev.endExport_kept | apply Dev.Kept.canon) | (unfold Dev.Kept; dsimp only) | dsimp only

theorem Dev.writeNvmClr_kept {pt : Part} {d : Dev} (v : Nat) (hk : d.Kept pt) :
    (Dev.writeNvmClr d v).Kept pt := by
  unfold Dev.writeNvmClr
  repeat' first | (with_reducible first | assumption | intro _ | apply Dev.put_kept | apply Dev.Kept.canon | refine ite_kept ?_ ?_ | refine foldl_kept (fun _ _ _ => ?_) ?_ _ | refine foldl_snd2_kept (fun _ _ _ => ?_) ?_ _ | refine foldl_snd_kept (fun _ _ _ => ?_) ?_ _ | refine foldl_fst_kept (fun _ _ _ => ?_) ?_ _) | split | (unfold Dev.Kept; dsimp only) | dsimp only

/-! ### Fit -/

theorem Dev.fitStep_kept {pt : Part} {d : Dev} (n : Nat) (hk : d.Kept pt) :
    (Dev.fitStep d n).Kept pt := by
  unfold Dev.fitStep
  repeat' first | (with_reducible first | assumption | apply Dev.put_kept | apply Dev.Kept.canon | refine ite_kept ?_ ?_) | split | (unfold Dev.Kept; dsimp only) | dsimp only

theorem Dev.pmbusRetryAll_kept {pt : Part} {d : Dev} (hk : d.Kept pt) :
    (Dev.pmbusRetryAll d).Kept pt := by
  unfold Dev.pmbusRetryAll
  repeat' first | (with_reducible first | assumption | apply Dev.emit_kept | apply Dev.Kept.canon | refine ite_kept ?_ ?_) | split | (unfold Dev.Kept; dsimp only) | dsimp only

theorem Dev.fitForget_kept {pt : Part} {d : Dev} (hk : d.Kept pt) :
    (Dev.fitForget d).Kept pt := by
  unfold Dev.fitForget
  repeat' first | (with_reducible first | assumption | intro _ | apply Dev.Kept.canon) | (unfold Dev.Kept; dsimp only) | dsimp only

theorem Dev.fitGiveBack_kept {pt : Part} {d : Dev} (hk : d.Kept pt) :
    (Dev.fitGiveBack d).Kept pt := by
  unfold Dev.fitGiveBack
  repeat' first | (with_reducible first | assumption | intro _ | apply Dev.Kept.canon | refine ite_kept ?_ ?_ | refine foldl_kept (fun _ _ _ => ?_) ?_ _ | refine foldl_snd2_kept (fun _ _ _ => ?_) ?_ _ | refine foldl_snd_kept (fun _ _ _ => ?_) ?_ _ | refine foldl_fst_kept (fun _ _ _ => ?_) ?_ _) | split | (unfold Dev.Kept; dsimp only) | dsimp only

theorem Dev.fitStart_kept {pt : Part} {d0 : Dev} (desc : Option Nat) (hkd0 : d0.Kept pt) :
    (Dev.fitStart d0 desc).Kept pt := by
  unfold Dev.fitStart
  repeat' first | (with_reducible first | assumption | apply Dev.fitForget_kept | apply Dev.pmbusRetryAll_kept | apply Dev.fitStep_kept | apply Dev.put_kept | apply Dev.Kept.canon) | (unfold Dev.Kept; dsimp only) | dsimp only

theorem Dev.fitDrop_kept {pt : Part} {d0 : Dev} (hkd0 : d0.Kept pt) :
    (Dev.fitDrop d0).Kept pt := by
  unfold Dev.fitDrop
  repeat' first | (with_reducible first | assumption | apply Dev.fitGiveBack_kept | apply Dev.fitStep_kept | apply Dev.Kept.canon) | (unfold Dev.Kept; dsimp only) | dsimp only

theorem Dev.dropLog_kept {pt : Part} {d : Dev} (hk : d.Kept pt) :
    (Dev.dropLog d).Kept pt := by
  unfold Dev.dropLog
  repeat' first | (with_reducible first | assumption | intro _ | apply Dev.Kept.canon) | (unfold Dev.Kept; dsimp only) | dsimp only

theorem Dev.showPaths_kept {pt : Part} {d : Dev} (ps : List Nat) (hk : d.Kept pt) :
    (Dev.showPaths d ps).Kept pt := by
  unfold Dev.showPaths
  repeat' first | (with_reducible first | assumption | apply Dev.put_kept | apply Dev.Kept.canon | refine ite_kept ?_ ?_) | split | (unfold Dev.Kept; dsimp only) | dsimp only

theorem Dev.takeBase_kept {pt : Part} {d : Dev} (e : Nat) (i : Nat) (v : Nat) (hk : d.Kept pt) :
    (Dev.takeBase d e i v).Kept pt := by
  unfold Dev.takeBase
  repeat' first | (with_reducible first | assumption | apply Dev.Kept.canon | refine ite_kept ?_ ?_) | split | (unfold Dev.Kept; dsimp only) | dsimp only

theorem Dev.coilBase_kept {pt : Part} {d : Dev} (c : Nat) (hk : d.Kept pt) :
    (Dev.coilBase d c).Kept pt := by
  unfold Dev.coilBase
  repeat' first | (with_reducible first | assumption | apply Dev.putRet_kept | apply Dev.put_kept | apply Dev.Kept.canon | refine ite_kept ?_ ?_) | split | (unfold Dev.Kept; dsimp only) | dsimp only

theorem Dev.fitBaselines_kept {pt : Part} {d : Dev} (m : Sys2Proof.FitSense) (hk : d.Kept pt) :
    (Dev.fitBaselines d m).Kept pt := by
  unfold Dev.fitBaselines
  repeat' first | (with_reducible first | assumption | intro _ | apply Dev.coilBase_kept | apply Dev.takeBase_kept | apply Dev.Kept.canon | refine ite_kept ?_ ?_ | refine foldl_kept (fun _ _ _ => ?_) ?_ _ | refine foldl_snd2_kept (fun _ _ _ => ?_) ?_ _ | refine foldl_snd_kept (fun _ _ _ => ?_) ?_ _ | refine foldl_fst_kept (fun _ _ _ => ?_) ?_ _) | split | (unfold Dev.Kept; dsimp only) | dsimp only

theorem Dev.fitDecide_kept {pt : Part} {d : Dev} (hk : d.Kept pt) :
    (Dev.fitDecide d).Kept pt := by
  unfold Dev.fitDecide
  repeat' first | (with_reducible first | assumption | intro _ | apply Dev.fitBaselines_kept | apply Dev.fitStep_kept | apply Dev.kickLog_kept | apply Dev.Kept.canon | refine ite_kept ?_ ?_ | refine foldl_kept (fun _ _ _ => ?_) ?_ _ | refine foldl_snd2_kept (fun _ _ _ => ?_) ?_ _ | refine foldl_snd_kept (fun _ _ _ => ?_) ?_ _ | refine foldl_fst_kept (fun _ _ _ => ?_) ?_ _) | split | (unfold Dev.Kept; dsimp only) | dsimp only

theorem Dev.showEffective_kept {pt : Part} {d : Dev} (hk : d.Kept pt) :
    (Dev.showEffective d).Kept pt := by
  unfold Dev.showEffective
  repeat' first | (with_reducible first | assumption | apply Dev.put_kept | apply Dev.Kept.canon) | (unfold Dev.Kept; dsimp only) | dsimp only

theorem Dev.setTarget_kept {pt : Part} {d : Dev} (mv : Nat) (hk : d.Kept pt) :
    (Dev.setTarget d mv).Kept pt := by
  unfold Dev.setTarget
  repeat' first | (with_reducible first | assumption | apply Dev.putRet_kept | apply Dev.put_kept | apply Dev.Kept.canon) | (unfold Dev.Kept; dsimp only) | dsimp only

theorem Dev.raiseChange_kept {pt : Part} {d : Dev} (c : FitChange) (cause : Nat) (hk : d.Kept pt) :
    (Dev.raiseChange d c cause).Kept pt := by
  unfold Dev.raiseChange
  repeat' first | (with_reducible first | assumption | apply Dev.raise_kept | apply Dev.Kept.canon) | (unfold Dev.Kept; dsimp only) | dsimp only

theorem Dev.applyChange_kept {pt : Part} {d : Dev} (c : FitChange) (hk : d.Kept pt) :
    (Dev.applyChange d c).Kept pt := by
  unfold Dev.applyChange
  repeat' first | (with_reducible first | assumption | apply Dev.raiseChange_kept | apply Dev.setTarget_kept | apply Dev.showEffective_kept | apply Dev.post_kept | apply Dev.putRet_kept | apply Dev.put_kept | apply Dev.Kept.canon) | split | (unfold Dev.Kept; dsimp only) | dsimp only

theorem Dev.raiseForecast_kept {pt : Part} {d : Dev} (p : Nat × Nat) (hk : d.Kept pt) :
    (Dev.raiseForecast d p).Kept pt := by
  unfold Dev.raiseForecast
  repeat' first | (with_reducible first | assumption | apply Dev.raise_kept | apply Dev.Kept.canon | refine ite_kept ?_ ?_) | split | (unfold Dev.Kept; dsimp only) | dsimp only

theorem Dev.fitApplied_kept {pt : Part} {d : Dev} (hk : d.Kept pt) :
    (Dev.fitApplied d).Kept pt := by
  unfold Dev.fitApplied
  repeat' first | (with_reducible first | assumption | intro _ | apply Dev.raiseForecast_kept | apply Dev.applyChange_kept | apply Dev.fitStep_kept | apply Dev.done_kept | apply Dev.raise_kept | apply Dev.putRet_kept | apply Dev.put_kept | apply Dev.Kept.canon | refine ite_kept ?_ ?_ | refine foldl_kept (fun _ _ _ => ?_) ?_ _ | refine foldl_snd2_kept (fun _ _ _ => ?_) ?_ _ | refine foldl_snd_kept (fun _ _ _ => ?_) ?_ _ | refine foldl_fst_kept (fun _ _ _ => ?_) ?_ _) | split | (unfold Dev.Kept; dsimp only) | dsimp only

theorem Dev.fitDip_kept {pt : Part} {d : Dev} (hk : d.Kept pt) :
    (Dev.fitDip d).Kept pt := by
  unfold Dev.fitDip
  repeat' first | (with_reducible first | assumption | apply Dev.fitDrop_kept | apply Dev.fail_kept | apply Dev.Kept.canon | refine ite_kept ?_ ?_) | split | (unfold Dev.Kept; dsimp only) | dsimp only

theorem Dev.fitFreeze_kept {pt : Part} {d : Dev} (hk : d.Kept pt) :
    (Dev.fitFreeze d).Kept pt := by
  unfold Dev.fitFreeze
  repeat' first | (with_reducible first | assumption | apply Dev.Kept.canon) | (unfold Dev.Kept; dsimp only) | dsimp only

theorem bodyFitRun_kept {pt : Part} (id : Nat) (a1 : Sys2Proof.Desc) {d : Dev} (hk : d.Kept pt) :
    (bodyFitRun id a1 d).Kept pt := by
  unfold bodyFitRun
  repeat' first | (with_reducible first | assumption | apply Dev.fitStart_kept | apply Dev.fail_kept | apply Dev.Kept.canon | refine ite_kept ?_ ?_) | split | (unfold Dev.Kept; dsimp only) | dsimp only

theorem bodyFitLogRead_kept {pt : Part} (id : Nat) (x : Sys2Proof.Desc) {d : Dev} (hk : d.Kept pt) :
    (bodyFitLogRead id x d).Kept pt := by
  unfold bodyFitLogRead
  repeat' first | (with_reducible first | assumption | intro _ | refine Dev.nvmRead_kept_of ?_ (by assumption) | apply Dev.nvmRead_kept | apply Dev.memWrite_kept | apply Dev.fail_kept | apply Dev.finish_kept | apply Dev.Kept.canon | refine ite_kept ?_ ?_ | refine foldl_kept (fun _ _ _ => ?_) ?_ _ | refine foldl_snd2_kept (fun _ _ _ => ?_) ?_ _ | refine foldl_snd_kept (fun _ _ _ => ?_) ?_ _ | refine foldl_fst_kept (fun _ _ _ => ?_) ?_ _) | split | (unfold Dev.Kept; dsimp only) | dsimp only

theorem bodyFitBaseline_kept {pt : Part} (id : Nat) (x : Sys2Proof.Desc) {d : Dev} (hk : d.Kept pt) :
    (bodyFitBaseline id x d).Kept pt := by
  unfold bodyFitBaseline
  repeat' first | (with_reducible first | assumption | intro _ | apply Dev.done_kept | apply Dev.fail_kept | apply Dev.Kept.canon | refine ite_kept ?_ ?_) | split | (unfold Dev.Kept; dsimp only) | dsimp only

theorem settleFit_kept {pt : Part} (id : Nat) (r : Rec) {d : Dev} (hk : d.Kept pt) :
    (settleFit id r d).Kept pt := by
  unfold settleFit
  repeat' first | (with_reducible first | assumption | apply Dev.dropLog_kept | apply Dev.fitDrop_kept | apply Dev.kickLog_kept | apply Dev.done_kept | apply Dev.fail_kept | apply Dev.Kept.canon | refine ite_kept ?_ ?_) | split | (unfold Dev.Kept; dsimp only) | dsimp only

theorem bodyFitAbort_kept {pt : Part} (id : Nat) (x : Sys2Proof.Desc) {d : Dev} (hk : d.Kept pt) :
    (bodyFitAbort id x d).Kept pt := by
  unfold bodyFitAbort
  repeat' first | (with_reducible first | assumption | apply settleFit_kept | apply Dev.abortDesc_kept | apply Dev.fail_kept | apply Dev.Kept.canon | refine ite_kept ?_ ?_) | split | (unfold Dev.Kept; dsimp only) | dsimp only

/-! ### Sec -/

theorem Dev.setSec_kept {pt : Part} {d : Dev} (x : SecSt) (hk : d.Kept pt) :
    (Dev.setSec d x).Kept pt := by
  unfold Dev.setSec
  repeat' first | (with_reducible first | assumption | apply Dev.Kept.canon) | (unfold Dev.Kept; dsimp only) | dsimp only

theorem Dev.endSec_kept {pt : Part} {d : Dev} (id : Nat) (st : Status) (result : Nat) (hk : d.Kept pt) :
    (Dev.endSec d id st result).Kept pt := by
  unfold Dev.endSec
  repeat' first | (with_reducible first | assumption | intro _ | apply Dev.setSec_kept | apply Dev.finish_kept | apply Dev.Kept.canon) | (unfold Dev.Kept; dsimp only) | dsimp only

theorem Dev.addSec_kept {pt : Part} {d : Dev} (id : Nat) (kind : Nat) (hk : d.Kept pt) :
    (Dev.addSec d id kind).Kept pt := by
  unfold Dev.addSec
  repeat' first | (with_reducible first | assumption | apply Dev.setSec_kept | apply Dev.Kept.canon) | (unfold Dev.Kept; dsimp only) | dsimp only

theorem Dev.beginEnvelope_kept {pt : Part} {d : Dev} (id : Nat) (kind : Nat) (x : Sys2Proof.Desc) (hk : d.Kept pt) :
    (Dev.beginEnvelope d id kind x).Kept pt := by
  unfold Dev.beginEnvelope
  repeat' first | (with_reducible first | assumption | apply Dev.addSec_kept | apply Dev.fail_kept | apply Dev.Kept.canon | refine ite_kept ?_ ?_) | split | (unfold Dev.Kept; dsimp only) | dsimp only

theorem bodyOwnerHandover_kept {pt : Part} (id : Nat) (x : Sys2Proof.Desc) {d : Dev} (hk : d.Kept pt) :
    (bodyOwnerHandover id x d).Kept pt := by
  unfold bodyOwnerHandover
  repeat' first | (with_reducible first | assumption | apply Dev.beginEnvelope_kept | apply Dev.Kept.canon) | (unfold Dev.Kept; dsimp only) | dsimp only

theorem bodyConfigManifest_kept {pt : Part} (id : Nat) (x : Sys2Proof.Desc) {d : Dev} (hk : d.Kept pt) :
    (bodyConfigManifest id x d).Kept pt := by
  unfold bodyConfigManifest
  repeat' first | (with_reducible first | assumption | apply Dev.beginEnvelope_kept | apply Dev.Kept.canon) | (unfold Dev.Kept; dsimp only) | dsimp only

theorem bodyFwUpdate_kept {pt : Part} (id : Nat) (x : Sys2Proof.Desc) {d : Dev} (hk : d.Kept pt) :
    (bodyFwUpdate id x d).Kept pt := by
  unfold bodyFwUpdate
  repeat' first | (with_reducible first | assumption | apply Dev.beginEnvelope_kept | apply Dev.Kept.canon) | (unfold Dev.Kept; dsimp only) | dsimp only

theorem bodyAttest_kept {pt : Part} (id : Nat) (x : Sys2Proof.Desc) {d : Dev} (hk : d.Kept pt) :
    (bodyAttest id x d).Kept pt := by
  unfold bodyAttest
  repeat' first | (with_reducible first | assumption | apply Dev.addSec_kept | apply Dev.fail_kept | apply Dev.Kept.canon | refine ite_kept ?_ ?_) | split | (unfold Dev.Kept; dsimp only) | dsimp only

theorem Dev.secChecked_kept {pt : Part} {d : Dev} (id : Nat) (x : Sys2Proof.Desc) (hk : d.Kept pt) :
    (Dev.secChecked d id x).Kept pt := by
  unfold Dev.secChecked
  repeat' first | (with_reducible first | assumption | intro _ | apply Dev.endSec_kept | apply Dev.setSec_kept | refine Dev.readImage_kept_of ?_ (by assumption) | apply Dev.readImage_kept | apply Dev.imageRefused_kept | apply Dev.emit_kept | apply Dev.putRet_kept | apply Dev.Kept.canon | refine ite_kept ?_ ?_) | split | (unfold Dev.Kept; dsimp only) | dsimp only

theorem Dev.handover_kept {pt : Part} {d : Dev} (id : Nat) (p : List Nat) (hk : d.Kept pt) :
    (Dev.handover d id p).Kept pt := by
  unfold Dev.handover
  repeat' first | (with_reducible first | assumption | apply Dev.endSec_kept | apply Dev.setSec_kept | apply Dev.keep_kept | apply Dev.raise_kept | apply Dev.putRet_kept | apply Dev.Kept.canon | refine ite_kept ?_ ?_) | split | (unfold Dev.Kept; dsimp only) | dsimp only

theorem Dev.setManifest_kept {pt : Part} {d : Dev} (p : List Nat) (hk : d.Kept pt) :
    (Dev.setManifest d p).Kept pt := by
  unfold Dev.setManifest
  repeat' first | (with_reducible first | assumption | apply Dev.setSec_kept | apply Dev.setBlock_kept | apply Dev.putRet_kept | apply Dev.Kept.canon) | (unfold Dev.Kept; dsimp only) | dsimp only

theorem Dev.attest_kept {pt : Part} {d : Dev} (id : Nat) (hk : d.Kept pt) :
    (Dev.attest d id).Kept pt := by
  unfold Dev.attest
  repeat' first | (with_reducible first | assumption | intro _ | apply Dev.endSec_kept | apply Dev.memWrite_kept | apply Dev.Kept.canon) | split | (unfold Dev.Kept; dsimp only) | dsimp only

theorem Dev.secTick_kept {pt : Part} {d : Dev} (hk : d.Kept pt) :
    (Dev.secTick d).Kept pt := by
  unfold Dev.secTick
  repeat' first | (with_reducible first | assumption | intro _ | apply Dev.attest_kept | apply Dev.setManifest_kept | apply Dev.handover_kept | apply Dev.endSec_kept | apply Dev.Kept.canon | refine ite_kept ?_ ?_ | refine foldl_kept (fun _ _ _ => ?_) ?_ _ | refine foldl_snd2_kept (fun _ _ _ => ?_) ?_ _ | refine foldl_snd_kept (fun _ _ _ => ?_) ?_ _ | refine foldl_fst_kept (fun _ _ _ => ?_) ?_ _) | split | (unfold Dev.Kept; dsimp only) | dsimp only

theorem Dev.abortUpdate_kept {pt : Part} {d : Dev} (hk : d.Kept pt) :
    (Dev.abortUpdate d).Kept pt := by
  unfold Dev.abortUpdate
  repeat' first | (with_reducible first | assumption | apply Dev.endSec_kept | apply Dev.putRet_kept | apply Dev.Kept.canon | refine ite_kept ?_ ?_) | split | (unfold Dev.Kept; dsimp only) | dsimp only

theorem settleSec_kept {pt : Part} (id : Nat) (r : Rec) {d : Dev} (hk : d.Kept pt) :
    (settleSec id r d).Kept pt := by
  unfold settleSec
  repeat' first | (with_reducible first | assumption | intro _ | apply Dev.abortUpdate_kept | apply Dev.done_kept | apply Dev.fail_kept | apply Dev.Kept.canon | refine ite_kept ?_ ?_) | split | (unfold Dev.Kept; dsimp only) | dsimp only

theorem bodySecAbort_kept {pt : Part} (id : Nat) (x : Sys2Proof.Desc) {d : Dev} (hk : d.Kept pt) :
    (bodySecAbort id x d).Kept pt := by
  unfold bodySecAbort
  repeat' first | (with_reducible first | assumption | apply settleSec_kept | apply Dev.abortDesc_kept | apply Dev.fail_kept | apply Dev.Kept.canon | refine ite_kept ?_ ?_) | split | (unfold Dev.Kept; dsimp only) | dsimp only

theorem Dev.bootIdentity_kept {pt : Part} {d : Dev} (hk : d.Kept pt) :
    (Dev.bootIdentity d).Kept pt := by
  unfold Dev.bootIdentity
  repeat' first | (with_reducible first | assumption | apply Dev.putBit_kept | apply Dev.put_kept | apply Dev.Kept.canon) | (unfold Dev.Kept; dsimp only) | dsimp only

theorem Dev.recordNow_kept {pt : Part} {d : Dev} (off : Nat) (hk : d.Kept pt) :
    (Dev.recordNow d off).Kept pt := by
  unfold Dev.recordNow
  repeat' first | (with_reducible first | assumption | refine Dev.writeRecord_kept_of ?_ (by assumption) | apply Dev.writeRecord_kept | apply Dev.Kept.canon) | split | (unfold Dev.Kept; dsimp only) | dsimp only

theorem Dev.noteSlots_kept {pt : Part} {d : Dev} (a : Nat) (b : Nat) (hk : d.Kept pt) :
    (Dev.noteSlots d a b).Kept pt := by
  unfold Dev.noteSlots
  repeat' first | (with_reducible first | assumption | apply Dev.recordNow_kept | apply Dev.put_kept | apply Dev.Kept.canon | refine ite_kept ?_ ?_) | split | (unfold Dev.Kept; dsimp only) | dsimp only

theorem Dev.booted_kept {pt : Part} {d : Dev} (slot : Nat) (x : Sys2Proof.SlotCheck) (hk : d.Kept pt) :
    (Dev.booted d slot x).Kept pt := by
  unfold Dev.booted
  repeat' first | (with_reducible first | assumption | intro _ | apply Dev.noteSlots_kept | apply Dev.setSec_kept | apply Dev.putBit_kept | apply Dev.put_kept | apply Dev.Kept.canon | refine ite_kept ?_ ?_) | split | (unfold Dev.Kept; dsimp only) | dsimp only

theorem Dev.confirmTrial_kept {pt : Part} {d : Dev} (hk : d.Kept pt) :
    (Dev.confirmTrial d).Kept pt := by
  unfold Dev.confirmTrial
  repeat' first | (with_reducible first | assumption | apply Dev.raise_kept | apply Dev.putRet_kept | apply Dev.Kept.canon | refine ite_kept ?_ ?_) | split | (unfold Dev.Kept; dsimp only) | dsimp only

theorem Dev.reportFallback_kept {pt : Part} {d : Dev} (hk : d.Kept pt) :
    (Dev.reportFallback d).Kept pt := by
  unfold Dev.reportFallback
  repeat' first | (with_reducible first | assumption | apply Dev.setSec_kept | apply Dev.raise_kept | apply Dev.Kept.canon | refine ite_kept ?_ ?_) | split | (unfold Dev.Kept; dsimp only) | dsimp only

theorem Dev.secRestore_kept {pt : Part} {d : Dev} (hk : d.Kept pt) :
    (Dev.secRestore d).Kept pt := by
  unfold Dev.secRestore
  repeat' first | (with_reducible first | assumption | apply Dev.setSec_kept | apply Dev.Kept.canon | refine ite_kept ?_ ?_) | split | (unfold Dev.Kept; dsimp only) | dsimp only

theorem Dev.enterRecovery_kept {pt : Part} {d : Dev} (hk : d.Kept pt) :
    (Dev.enterRecovery d).Kept pt := by
  unfold Dev.enterRecovery
  repeat' first | (with_reducible first | assumption | apply Dev.noteSlots_kept | apply Dev.put_kept | apply Dev.Kept.canon) | (unfold Dev.Kept; dsimp only) | dsimp only

theorem Dev.leaveRecovery_kept {pt : Part} {d : Dev} (hk : d.Kept pt) :
    (Dev.leaveRecovery d).Kept pt := by
  unfold Dev.leaveRecovery
  repeat' first | (with_reducible first | assumption | apply Dev.setSec_kept | apply Dev.put_kept | apply Dev.Kept.canon) | (unfold Dev.Kept; dsimp only) | dsimp only

theorem Dev.stagedCode_kept {pt : Part} {d : Dev} (len : Nat) (hk : d.Kept pt) :
    (Dev.stagedCode d len).2.Kept pt := by
  unfold Dev.stagedCode
  repeat' first | (with_reducible first | assumption | refine Dev.readImage_kept_of ?_ (by assumption) | apply Dev.readImage_kept | apply Dev.nextFree_kept | apply Dev.Kept.canon | refine ite_kept ?_ ?_) | split | (unfold Dev.Kept; dsimp only) | dsimp only

theorem Dev.stagedCode_kept_of {pt : Part} {d : Dev} {len : Nat} {r0 : (Nat × List Nat)} {e0 : Dev} (hk : d.Kept pt) (eq : (Dev.stagedCode d len) = (r0, e0)) : e0.Kept pt := by
  have k := @Dev.stagedCode_kept; grind

theorem Dev.writeFwRec_kept {pt : Part} {d : Dev} (v : Nat) (hk : d.Kept pt) :
    (Dev.writeFwRec d v).Kept pt := by
  unfold Dev.writeFwRec
  repeat' first | (with_reducible first | assumption | refine Dev.stagedCode_kept_of ?_ (by assumption) | apply Dev.stagedCode_kept | apply Dev.leaveRecovery_kept | apply Dev.recordNow_kept | apply Dev.emit_kept | apply Dev.bump_kept | apply Dev.put_kept | apply Dev.Kept.canon | refine ite_kept ?_ ?_) | split | (unfold Dev.Kept; dsimp only) | dsimp only

end Sys2Proof.Machine
end

