-- ==== Sys2Proof/Laws/KeptMachine.lean ====
section
/-! SUPPORT. Canonical form and silicon are kept: the operations of the whole machine. -/

namespace Sys2Proof.Machine
open Sys2Proof

/-! ### Start -/

theorem Dev.setPower_kept {pt : Part} {d : Dev} (x : PowerSt) (hk : d.Kept pt) :
    (Dev.setPower d x).Kept pt := by
  unfold Dev.setPower
  repeat' first | (with_reducible first | assumption | apply Dev.Kept.canon) | (unfold Dev.Kept; dsimp only) | dsimp only

theorem Dev.setPfw_kept {pt : Part} {d : Dev} (low : Bool) (hk : d.Kept pt) :
    (Dev.setPfw d low).Kept pt := by
  unfold Dev.setPfw
  repeat' first | (with_reducible first | assumption | apply Dev.emit_kept | apply Dev.putBit_kept | apply Dev.Kept.canon) | (unfold Dev.Kept; dsimp only) | dsimp only

theorem Dev.abandonTrial_kept {pt : Part} {d : Dev} (hk : d.Kept pt) :
    (Dev.abandonTrial d).Kept pt := by
  unfold Dev.abandonTrial
  repeat' first | (with_reducible first | assumption | apply Dev.recordNow_kept | apply Dev.setSec_kept | apply Dev.put_kept | apply Dev.Kept.canon | refine ite_kept ?_ ?_) | split | (unfold Dev.Kept; dsimp only) | dsimp only

theorem Dev.inReset_kept {pt : Part} {d1 : Dev} (supplyLost : Bool) (hkd1 : d1.Kept pt) :
    (Dev.inReset d1 supplyLost).Kept pt := by
  have e : (Dev.inReset d1 supplyLost).Kept d1.part := by
    unfold Dev.inReset Dev.Kept
    dsimp only
    refine ⟨rfl, ?_, rfl, hkd1.canon.2.2.2.1, ?_⟩
    · split
      · rfl
      · exact hkd1.canon.2.1
    · split
      · rfl
      · exact hkd1.canon.2.2.2.2
  exact hkd1.canon.1 ▸ e

theorem Dev.coreReset_kept {pt : Part} {d : Dev} (supplyLost : Bool) (hk : d.Kept pt) :
    (Dev.coreReset d supplyLost).Kept pt := by
  unfold Dev.coreReset
  repeat' first | (with_reducible first | assumption | intro _ | apply Dev.inReset_kept | apply Dev.abandonTrial_kept | apply Dev.tearWrites_kept | apply Dev.emuReleased_kept | apply Dev.dropCap_kept | apply Dev.Kept.canon | refine foldl_kept (fun _ _ _ => ?_) ?_ _ | refine foldl_snd2_kept (fun _ _ _ => ?_) ?_ _ | refine foldl_snd_kept (fun _ _ _ => ?_) ?_ _ | refine foldl_fst_kept (fun _ _ _ => ?_) ?_ _) | (unfold Dev.Kept; dsimp only) | dsimp only

theorem Dev.latchReset_kept {pt : Part} {d : Dev} (cause : Nat) (hk : d.Kept pt) :
    (Dev.latchReset d cause).Kept pt := by
  unfold Dev.latchReset
  repeat' first | (with_reducible first | assumption | apply Dev.setPower_kept | apply Dev.Kept.canon | refine ite_kept ?_ ?_) | split | (unfold Dev.Kept; dsimp only) | dsimp only

theorem Dev.raiseEnable_kept {pt : Part} {d : Dev} (r : Nat) (hk : d.Kept pt) :
    (Dev.raiseEnable d r).Kept pt := by
  unfold Dev.raiseEnable
  repeat' first | (with_reducible first | assumption | apply Dev.setPower_kept | apply Dev.emit_kept | apply Dev.Kept.canon) | (unfold Dev.Kept; dsimp only) | dsimp only

theorem Dev.lowerEnables_kept {pt : Part} {d : Dev} (hk : d.Kept pt) :
    (Dev.lowerEnables d).Kept pt := by
  unfold Dev.lowerEnables
  repeat' first | (with_reducible first | assumption | intro _ | apply Dev.setPower_kept | apply Dev.emit_kept | apply Dev.Kept.canon | refine ite_kept ?_ ?_ | refine foldl_kept (fun _ _ _ => ?_) ?_ _ | refine foldl_snd2_kept (fun _ _ _ => ?_) ?_ _ | refine foldl_snd_kept (fun _ _ _ => ?_) ?_ _ | refine foldl_fst_kept (fun _ _ _ => ?_) ?_ _) | split | (unfold Dev.Kept; dsimp only) | dsimp only

theorem Dev.startStep2_kept {pt : Part} {d : Dev} (hk : d.Kept pt) :
    (Dev.startStep2 d).Kept pt := by
  unfold Dev.startStep2
  repeat' first | (with_reducible first | assumption | apply Dev.raiseEnable_kept | apply Dev.put_kept | apply Dev.Kept.canon) | (unfold Dev.Kept; dsimp only) | dsimp only

theorem Dev.bootRecord_kept {pt : Part} {d : Dev} (off : Nat) (hk : d.Kept pt) :
    (Dev.bootRecord d off).Kept pt := by
  unfold Dev.bootRecord
  repeat' first | (with_reducible first | assumption | apply Dev.applyRecord_kept | refine Dev.readRecord_kept_of ?_ (by assumption) | apply Dev.readRecord_kept | apply Dev.Kept.canon | refine ite_kept ?_ ?_) | split | (unfold Dev.Kept; dsimp only) | dsimp only

theorem Dev.startStep4_kept {pt : Part} {d : Dev} (hk : d.Kept pt) :
    (Dev.startStep4 d).Kept pt := by
  unfold Dev.startStep4
  repeat' first | (with_reducible first | assumption | apply Dev.bootRecord_kept | apply Dev.setPower_kept | apply Dev.put_kept | apply Dev.Kept.canon) | (unfold Dev.Kept; dsimp only) | dsimp only

theorem Dev.logAtBoot_kept {pt : Part} {d : Dev} (cause : Nat) (time : Nat) (hk : d.Kept pt) :
    (Dev.logAtBoot d cause time).Kept pt := by
  unfold Dev.logAtBoot
  repeat' first | (with_reducible first | assumption | intro _ | apply Dev.bootRecord_kept | apply Dev.writeRecord_kept | apply Dev.logFaultIn_kept | apply Dev.Kept.canon | refine foldl_kept (fun _ _ _ => ?_) ?_ _ | refine foldl_snd2_kept (fun _ _ _ => ?_) ?_ _ | refine foldl_snd_kept (fun _ _ _ => ?_) ?_ _ | refine foldl_fst_kept (fun _ _ _ => ?_) ?_ _) | (unfold Dev.Kept; dsimp only) | dsimp only

theorem Dev.logLatched_kept {pt : Part} {d : Dev} (hk : d.Kept pt) :
    (Dev.logLatched d).Kept pt := by
  unfold Dev.logLatched
  repeat' first | (with_reducible first | assumption | apply Dev.setPower_kept | apply Dev.logFaultIn_kept | refine Dev.startCount_kept_of ?_ (by assumption) | apply Dev.startCount_kept | apply Dev.Kept.canon | refine ite_kept ?_ ?_) | split | (unfold Dev.Kept; dsimp only) | dsimp only

theorem Dev.placeRegions_kept {pt : Part} {d : Dev} (hk : d.Kept pt) :
    (Dev.placeRegions d).Kept pt := by
  unfold Dev.placeRegions
  repeat' first | (with_reducible first | assumption | apply Dev.put_kept | apply Dev.Kept.canon) | (unfold Dev.Kept; dsimp only) | dsimp only

theorem Dev.schedRestore_kept {pt : Part} {d : Dev} (hk : d.Kept pt) :
    (Dev.schedRestore d).Kept pt := by
  unfold Dev.schedRestore
  repeat' first | (with_reducible first | assumption | intro _ | apply Dev.showSched_kept | apply Dev.setZone_kept | apply Dev.Kept.canon | refine ite_kept ?_ ?_ | refine foldl_kept (fun _ _ _ => ?_) ?_ _ | refine foldl_snd2_kept (fun _ _ _ => ?_) ?_ _ | refine foldl_snd_kept (fun _ _ _ => ?_) ?_ _ | refine foldl_fst_kept (fun _ _ _ => ?_) ?_ _) | split | (unfold Dev.Kept; dsimp only) | dsimp only

theorem Dev.varRestore_kept {pt : Part} {d : Dev} (hk : d.Kept pt) :
    (Dev.varRestore d).Kept pt := by
  unfold Dev.varRestore
  repeat' first | (with_reducible first | assumption | intro _ | apply Dev.saveRead_kept | apply Dev.deliver_kept | apply Dev.Kept.canon | refine ite_kept ?_ ?_ | refine foldl_kept (fun _ _ _ => ?_) ?_ _ | refine foldl_snd2_kept (fun _ _ _ => ?_) ?_ _ | refine foldl_snd_kept (fun _ _ _ => ?_) ?_ _ | refine foldl_fst_kept (fun _ _ _ => ?_) ?_ _) | split | (unfold Dev.Kept; dsimp only) | dsimp only

theorem Dev.banksRestore_kept {pt : Part} {d : Dev} (hk : d.Kept pt) :
    (Dev.banksRestore d).Kept pt := by
  unfold Dev.banksRestore
  repeat' first | (with_reducible first | assumption | intro _ | apply Dev.shuttleRestore_kept | apply Dev.raise_kept | apply Dev.Kept.canon | refine ite_kept ?_ ?_ | refine foldl_kept (fun _ _ _ => ?_) ?_ _ | refine foldl_snd2_kept (fun _ _ _ => ?_) ?_ _ | refine foldl_snd_kept (fun _ _ _ => ?_) ?_ _ | refine foldl_fst_kept (fun _ _ _ => ?_) ?_ _) | split | (unfold Dev.Kept; dsimp only) | dsimp only

theorem Dev.startLevel_kept {pt : Part} {d : Dev} (hk : d.Kept pt) :
    (Dev.startLevel d).Kept pt := by
  unfold Dev.startLevel
  repeat' first | (with_reducible first | assumption | apply Dev.putBit_kept | apply Dev.put_kept | apply Dev.Kept.canon) | (unfold Dev.Kept; dsimp only) | dsimp only

theorem Dev.restoreRest_kept {pt : Part} {d : Dev} (found : Bool) (hk : d.Kept pt) :
    (Dev.restoreRest d found).Kept pt := by
  unfold Dev.restoreRest
  repeat' first | (with_reducible first | assumption | apply Dev.startLevel_kept | apply Dev.banksRestore_kept | apply Dev.varRestore_kept | apply Dev.schedRestore_kept | apply Dev.secRestore_kept | apply Dev.showEffective_kept | apply Dev.restoreImport_kept | apply Dev.restoreLockouts_kept | apply Dev.panelRestore_kept | apply Dev.quiltRestore_kept | apply Dev.loopRestore_kept | apply Dev.patRestore_kept | refine Dev.saveRead_kept_of ?_ (by assumption) | apply Dev.saveRead_kept | apply Dev.Kept.canon | refine ite_kept ?_ ?_) | split | (unfold Dev.Kept; dsimp only) | dsimp only

theorem Dev.restoreAll_kept {pt : Part} {d : Dev} (hk : d.Kept pt) :
    (Dev.restoreAll d).Kept pt := by
  unfold Dev.restoreAll
  repeat' first | (with_reducible first | assumption | apply Dev.restoreRest_kept | apply Dev.placeRegions_kept | apply Dev.restoreSlot_kept | apply Dev.restoreBlocks_kept | apply Dev.logLost_kept | apply Dev.restoreRecords_kept | apply Dev.restoreSave_kept | apply Dev.Kept.canon) | (unfold Dev.Kept; dsimp only) | dsimp only

theorem Dev.pmbusEvent_kept {pt : Part} {d : Dev} (entered : Bool) (cause : Nat) (word : Nat) (hk : d.Kept pt) :
    (Dev.pmbusEvent d entered cause word).Kept pt := by
  unfold Dev.pmbusEvent
  repeat' first | (with_reducible first | assumption | apply Dev.raise_kept | apply Dev.Kept.canon | refine ite_kept ?_ ?_) | split | (unfold Dev.Kept; dsimp only) | dsimp only

theorem Dev.pmbusStop_kept {pt : Part} {d : Dev} (cause : Nat) (word : Nat) (hk : d.Kept pt) :
    (Dev.pmbusStop d cause word).Kept pt := by
  unfold Dev.pmbusStop
  repeat' first | (with_reducible first | assumption | apply Dev.pmbusEvent_kept | apply Dev.setPower_kept | apply Dev.put_kept | apply Dev.Kept.canon | refine ite_kept ?_ ?_) | split | (unfold Dev.Kept; dsimp only) | dsimp only

theorem Dev.pmbusOpen_kept {pt : Part} {d0 : Dev} (mode : Sys2Proof.PmbusResult) (hkd0 : d0.Kept pt) :
    (Dev.pmbusOpen d0 mode).Kept pt := by
  unfold Dev.pmbusOpen
  repeat' first | (with_reducible first | assumption | apply Dev.pmbusStop_kept | apply Dev.setPower_kept | apply Dev.emit_kept | apply Dev.putBit_kept | apply Dev.put_kept | apply Dev.Kept.canon | refine ite_kept ?_ ?_) | split | (unfold Dev.Kept; dsimp only) | dsimp only

theorem Dev.restoreOutputs_kept {pt : Part} {d : Dev} (hk : d.Kept pt) :
    (Dev.restoreOutputs d).Kept pt := by
  unfold Dev.restoreOutputs
  repeat' first | (with_reducible first | assumption | intro _ | apply Dev.setCommand_kept | apply Dev.Kept.canon | refine foldl_kept (fun _ _ _ => ?_) ?_ _ | refine foldl_snd2_kept (fun _ _ _ => ?_) ?_ _ | refine foldl_snd_kept (fun _ _ _ => ?_) ?_ _ | refine foldl_fst_kept (fun _ _ _ => ?_) ?_ _) | (unfold Dev.Kept; dsimp only) | dsimp only

theorem Dev.linksUp_kept {pt : Part} {d : Dev} (hk : d.Kept pt) :
    (Dev.linksUp d).Kept pt := by
  have kd : ∀ (l m : Map Nat), Map.rising m = true → Map.rising (l.foldl (fun m e => Map.insert m e.1 e.2) m) = true := by
    intro l
    induction l with
    | nil => exact fun _ h => h
    | cons e t ih => exact fun m h => ih _ (Map.insert_rising _ _ h)
  unfold Dev.linksUp
  extract_lets old d1 pos d2 dark
  have k1 : d1.Kept pt :=
    ⟨hk.canon.1, hk.canon.2.1, hk.canon.2.2.1, kd _ _ (Map.filter_rising _ hk.canon.2.2.2.1), hk.canon.2.2.2.2⟩
  clear_value d1
  have kp : ∀ (y : Dev) (f : Nat), y.Kept pt → (pos y f).Kept pt := by
    intro y f hy
    exact ite_kept (Dev.setFloat_kept _ _ (Dev.saveRead_kept _ _ hy)) (Dev.saveRead_kept _ _ hy)
  have kk : ∀ (y : Dev) (k : Nat), y.Kept pt → (dark y k).Kept pt := fun y k hy => Dev.setFd_kept _ _ hy
  have k2 : d2.Kept pt := foldl_kept kp k1 _
  exact Dev.posLinksUp_kept (kk _ _ (kk _ _ k2))

theorem Dev.startReports_kept {pt : Part} {d : Dev} (hk : d.Kept pt) :
    (Dev.startReports d).Kept pt := by
  unfold Dev.startReports
  repeat' first | (with_reducible first | assumption | intro _ | apply Dev.setPower_kept | apply Dev.reportFallback_kept | apply Dev.raise_kept | apply Dev.Kept.canon | refine ite_kept ?_ ?_) | split | (unfold Dev.Kept; dsimp only) | dsimp only

theorem Dev.startControl_kept {pt : Part} {d : Dev} (low : Bool) (hk : d.Kept pt) :
    (Dev.startControl d low).Kept pt := by
  unfold Dev.startControl
  repeat' first | (with_reducible first | assumption | intro _ | apply Dev.linksUp_kept | apply Dev.restoreOutputs_kept | apply Dev.logLatched_kept | apply Dev.setPfw_kept | apply Dev.setPower_kept | apply Dev.confirmTrial_kept | apply Dev.keysStart_kept | apply Dev.calAll_kept | apply Dev.busStart_kept | apply Dev.saveCount_kept | apply Dev.putBit_kept | apply Dev.put_kept | apply Dev.Kept.canon | refine ite_kept ?_ ?_) | split | (unfold Dev.Kept; dsimp only) | dsimp only

theorem Dev.startOutside_kept {pt : Part} {d : Dev} (hk : d.Kept pt) :
    (Dev.startOutside d).Kept pt := by
  unfold Dev.startOutside
  repeat' first | (with_reducible first | assumption | apply Dev.startReports_kept | apply Dev.panelStart_kept | apply Dev.applyPortEn_kept | apply Dev.put_kept | apply Dev.Kept.canon) | (unfold Dev.Kept; dsimp only) | dsimp only

/-! ### Power -/

theorem Dev.putVolts_kept {pt : Part} {d : Dev} (vl24 : Nat) (vhold : Nat) (hk : d.Kept pt) :
    (Dev.putVolts d vl24 vhold).Kept pt := by
  unfold Dev.putVolts
  repeat' first | (with_reducible first | assumption | apply Dev.put_kept | apply Dev.Kept.canon) | (unfold Dev.Kept; dsimp only) | dsimp only

theorem Dev.noteMin_kept {pt : Part} {d : Dev} (vl24 : Nat) (hk : d.Kept pt) :
    (Dev.noteMin d vl24).Kept pt := by
  unfold Dev.noteMin
  repeat' first | (with_reducible first | assumption | apply Dev.setPower_kept | apply Dev.put_kept | apply Dev.Kept.canon) | (unfold Dev.Kept; dsimp only) | dsimp only

theorem Dev.followResume_kept {pt : Part} {d : Dev} (vl24 : Nat) (hk : d.Kept pt) :
    (Dev.followResume d vl24).Kept pt := by
  unfold Dev.followResume
  repeat' first | (with_reducible first | assumption | apply Dev.setPower_kept | apply Dev.Kept.canon | refine ite_kept ?_ ?_) | split | (unfold Dev.Kept; dsimp only) | dsimp only

theorem Dev.powerDip_kept {pt : Part} {d : Dev} (entered : Bool) (ticks : Nat) (hk : d.Kept pt) :
    (Dev.powerDip d entered ticks).Kept pt := by
  unfold Dev.powerDip
  repeat' first | (with_reducible first | assumption | apply Dev.raise_kept | apply Dev.Kept.canon | refine ite_kept ?_ ?_) | split | (unfold Dev.Kept; dsimp only) | dsimp only

theorem Dev.warningSave_kept {pt : Part} {d : Dev} (hk : d.Kept pt) :
    (Dev.warningSave d).Kept pt := by
  unfold Dev.warningSave
  repeat' first | (with_reducible first | assumption | apply Dev.saveStart_kept | apply Dev.put_kept | apply Dev.Kept.canon | refine ite_kept ?_ ?_) | split | (unfold Dev.Kept; dsimp only) | dsimp only

theorem Dev.dipActs_kept {pt : Part} {d : Dev} (hk : d.Kept pt) :
    (Dev.dipActs d).Kept pt := by
  unfold Dev.dipActs
  repeat' first | (with_reducible first | assumption | apply Dev.setPower_kept | apply Dev.abortUpdate_kept | apply Dev.fitDip_kept | apply Dev.nvmDip_kept | apply Dev.panelDip_kept | apply Dev.loopStop_kept | apply Dev.put_kept | apply Dev.Kept.canon) | (unfold Dev.Kept; dsimp only) | dsimp only

theorem Dev.stopEngines_kept {pt : Part} {d : Dev} (hk : d.Kept pt) :
    (Dev.stopEngines d).Kept pt := by
  unfold Dev.stopEngines
  repeat' first | (with_reducible first | assumption | apply Dev.setPower_kept | apply Dev.quiltDip_kept | apply Dev.loopDip_kept | apply Dev.patDip_kept | apply Dev.shuttleDip_kept | apply Dev.measDip_kept | apply Dev.Kept.canon) | (unfold Dev.Kept; dsimp only) | dsimp only

theorem Dev.reportLeft_kept {pt : Part} {d : Dev} (hk : d.Kept pt) :
    (Dev.reportLeft d).Kept pt := by
  unfold Dev.reportLeft
  repeat' first | (with_reducible first | assumption | apply Dev.powerDip_kept | apply Dev.setPower_kept | apply Dev.Kept.canon) | split | (unfold Dev.Kept; dsimp only) | dsimp only

theorem Dev.enterWarning_kept {pt : Part} {d : Dev} (vl24 : Nat) (vhold : Nat) (pin : Bool) (hk : d.Kept pt) :
    (Dev.enterWarning d vl24 vhold pin).Kept pt := by
  unfold Dev.enterWarning
  repeat' first | (with_reducible first | assumption | apply Dev.reportLeft_kept | apply Dev.dipActs_kept | apply Dev.warningSave_kept | apply Dev.powerDip_kept | apply Dev.noteMin_kept | apply Dev.putVolts_kept | apply Dev.setPfw_kept | apply Dev.setPower_kept | apply Dev.saveCount_kept | apply Dev.bump_kept | apply Dev.put_kept | apply Dev.Kept.canon | refine ite_kept ?_ ?_) | split | (unfold Dev.Kept; dsimp only) | dsimp only

theorem Dev.joinWarning_kept {pt : Part} {d : Dev} (vl24 : Nat) (vhold : Nat) (hk : d.Kept pt) :
    (Dev.joinWarning d vl24 vhold).Kept pt := by
  unfold Dev.joinWarning
  repeat' first | (with_reducible first | assumption | apply Dev.powerDip_kept | apply Dev.noteMin_kept | apply Dev.putVolts_kept | apply Dev.setPfw_kept | apply Dev.setPower_kept | apply Dev.bump_kept | apply Dev.Kept.canon | refine ite_kept ?_ ?_) | split | (unfold Dev.Kept; dsimp only) | dsimp only

theorem Dev.warnIfLow_kept {pt : Part} {d : Dev} (before : Nat) (hk : d.Kept pt) :
    (Dev.warnIfLow d before).Kept pt := by
  unfold Dev.warnIfLow
  repeat' first | (with_reducible first | assumption | apply Dev.enterWarning_kept | apply Dev.Kept.canon | refine ite_kept ?_ ?_) | split | (unfold Dev.Kept; dsimp only) | dsimp only

theorem Dev.resumeControl_kept {pt : Part} {d : Dev} (hk : d.Kept pt) :
    (Dev.resumeControl d).Kept pt := by
  unfold Dev.resumeControl
  repeat' first | (with_reducible first | assumption | apply Dev.reportLeft_kept | apply Dev.setPower_kept | apply Dev.remoteFetchAll_kept | apply Dev.loopBack_kept | apply Dev.put_kept | apply Dev.Kept.canon) | (unfold Dev.Kept; dsimp only) | dsimp only

theorem Dev.writePwrClr_kept {pt : Part} {d : Dev} (v : Nat) (hk : d.Kept pt) :
    (Dev.writePwrClr d v).Kept pt := by
  unfold Dev.writePwrClr
  repeat' first | (with_reducible first | assumption | apply Dev.put_kept | apply Dev.Kept.canon | refine ite_kept ?_ ?_) | split | (unfold Dev.Kept; dsimp only) | dsimp only

theorem Dev.pmbusFail_kept {pt : Part} {d : Dev} (command : Nat) (cause : Nat) (hk : d.Kept pt) :
    (Dev.pmbusFail d command cause).Kept pt := by
  unfold Dev.pmbusFail
  repeat' first | (with_reducible first | assumption | apply Dev.pmbusStop_kept | apply Dev.setPower_kept | apply Dev.Kept.canon | refine ite_kept ?_ ?_) | split | (unfold Dev.Kept; dsimp only) | dsimp only

theorem Dev.pmbusTry_kept {pt : Part} {d : Dev} (res : Sys2Proof.PmbusResult) (mode : Sys2Proof.PmbusResult) (hk : d.Kept pt) :
    (Dev.pmbusTry d res mode).Kept pt := by
  unfold Dev.pmbusTry
  repeat' first | (with_reducible first | assumption | apply Dev.pmbusEvent_kept | apply Dev.setPower_kept | apply Dev.emit_kept | apply Dev.putBit_kept | apply Dev.put_kept | apply Dev.Kept.canon | refine ite_kept ?_ ?_) | split | (unfold Dev.Kept; dsimp only) | dsimp only

/-! ### Freeze -/

theorem Dev.setFrz_kept {pt : Part} {d : Dev} (x : FreezeSt) (hk : d.Kept pt) :
    (Dev.setFrz d x).Kept pt := by
  unfold Dev.setFrz
  repeat' first | (with_reducible first | assumption | apply Dev.Kept.canon) | (unfold Dev.Kept; dsimp only) | dsimp only

theorem Dev.askFreeze_kept {pt : Part} {d : Dev} (cause : Nat) (quilt : Bool) (desc : Option Nat) (hk : d.Kept pt) :
    (Dev.askFreeze d cause quilt desc).Kept pt := by
  unfold Dev.askFreeze
  repeat' first | (with_reducible first | assumption | apply Dev.setFrz_kept | apply Dev.Kept.canon | refine ite_kept ?_ ?_) | split | (unfold Dev.Kept; dsimp only) | dsimp only

theorem bodyDbgFreeze_kept {pt : Part} (id : Nat) (x : Sys2Proof.Desc) {d : Dev} (hk : d.Kept pt) :
    (bodyDbgFreeze id x d).Kept pt := by
  unfold bodyDbgFreeze
  repeat' first | (with_reducible first | assumption | apply Dev.askFreeze_kept | apply Dev.fail_kept | apply Dev.Kept.canon | refine ite_kept ?_ ?_) | split | (unfold Dev.Kept; dsimp only) | dsimp only

theorem Dev.freezeWord_kept {pt : Part} {d : Dev} (hk : d.Kept pt) :
    (Dev.freezeWord d).Kept pt := by
  unfold Dev.freezeWord
  repeat' first | (with_reducible first | assumption | apply Dev.setFrz_kept | apply Dev.floodQuilt_kept | apply Dev.Kept.canon | refine ite_kept ?_ ?_) | split | (unfold Dev.Kept; dsimp only) | dsimp only

theorem Dev.askThaw_kept {pt : Part} {d : Dev} (cause : Nat) (hk : d.Kept pt) :
    (Dev.askThaw d cause).Kept pt := by
  unfold Dev.askThaw
  repeat' first | (with_reducible first | assumption | apply Dev.setFrz_kept | apply Dev.floodQuilt_kept | apply Dev.Kept.canon | refine ite_kept ?_ ?_) | split | (unfold Dev.Kept; dsimp only) | dsimp only

theorem Dev.freeRead_kept {pt : Part} {d : Dev} (hk : d.Kept pt) :
    (Dev.freeRead d).2.Kept pt := by
  unfold Dev.freeRead
  repeat' first | (with_reducible first | assumption | apply Dev.nextFree_kept | apply Dev.Kept.canon) | (unfold Dev.Kept; dsimp only) | dsimp only

theorem Dev.freeRead_kept_of {pt : Part} {d : Dev} {r0 : Nat} {e0 : Dev} (hk : d.Kept pt) (eq : (Dev.freeRead d) = (r0, e0)) : e0.Kept pt := by
  have k := @Dev.freeRead_kept; grind

theorem Dev.roValue_kept {pt : Part} {d : Dev} (space : Nat) (index : Nat) (hk : d.Kept pt) :
    (Dev.roValue d space index).2.Kept pt := by
  unfold Dev.roValue
  repeat' first | (with_reducible first | assumption | refine Dev.freeRead_kept_of ?_ (by assumption) | apply Dev.freeRead_kept | apply Dev.Kept.canon | refine ite_kept ?_ ?_) | split | (unfold Dev.Kept; dsimp only) | dsimp only

theorem Dev.roValue_kept_of {pt : Part} {d : Dev} {space : Nat} {index : Nat} {r0 : Nat} {e0 : Dev} (hk : d.Kept pt) (eq : (Dev.roValue d space index) = (r0, e0)) : e0.Kept pt := by
  have k := @Dev.roValue_kept; grind

theorem Dev.readOut_kept {pt : Part} {d : Dev} (space : Nat) (index : Nat) (hk : d.Kept pt) :
    (Dev.readOut d space index).2.Kept pt := by
  unfold Dev.readOut
  repeat' first | (with_reducible first | assumption | apply Dev.roValue_kept | apply Dev.put_kept | apply Dev.Kept.canon | refine ite_kept ?_ ?_) | split | (unfold Dev.Kept; dsimp only) | dsimp only

theorem Dev.readOut_kept_of {pt : Part} {d : Dev} {space : Nat} {index : Nat} {r0 : Nat} {e0 : Dev} (hk : d.Kept pt) (eq : (Dev.readOut d space index) = (r0, e0)) : e0.Kept pt := by
  have k := @Dev.readOut_kept; grind

/-! ### RegWrite -/

theorem Dev.writeGen_kept {pt : Part} {d : Dev} (off : Nat) (v : Nat) (ok : Nat → Bool) (reject : Dev → Dev) (after : Nat → Dev → Dev) (hk : d.Kept pt) (hfreject : ∀ (x0 : Dev), x0.Kept pt → (reject x0).Kept pt) (hfafter : ∀ (x0 : Nat) (x1 : Dev), x1.Kept pt → (after x0 x1).Kept pt) :
    (Dev.writeGen d off v ok reject after).Kept pt := by
  unfold Dev.writeGen
  repeat' first | (with_reducible first | assumption | intro _ | apply Dev.writeFlds_kept | apply Dev.put_kept | apply hfreject | apply hfafter | apply Dev.Kept.canon | refine ite_kept ?_ ?_ | refine foldl_kept (fun _ _ _ => ?_) ?_ _ | refine foldl_snd2_kept (fun _ _ _ => ?_) ?_ _ | refine foldl_snd_kept (fun _ _ _ => ?_) ?_ _ | refine foldl_fst_kept (fun _ _ _ => ?_) ?_ _) | split | (unfold Dev.Kept; dsimp only) | dsimp only

theorem Dev.writePlain_kept {pt : Part} {d : Dev} (off : Nat) (v : Nat) (reject : Dev → Dev) (hk : d.Kept pt) (hfreject : ∀ (x0 : Dev), x0.Kept pt → (reject x0).Kept pt) :
    (Dev.writePlain d off v reject).Kept pt := by
  unfold Dev.writePlain
  repeat' first | (with_reducible first | assumption | intro _ | apply Dev.writeGen_kept | apply hfreject | apply Dev.Kept.canon) | (unfold Dev.Kept; dsimp only) | dsimp only

theorem Dev.writeGlobal_kept {pt : Part} {d : Dev} (off : Nat) (v : Nat) (hk : d.Kept pt) :
    (Dev.writeGlobal d off v).Kept pt := by
  unfold Dev.writeGlobal
  repeat' first | (with_reducible first | assumption | intro _ | apply Dev.writePlain_kept | apply Dev.writePwrClr_kept | apply Dev.warnIfLow_kept | apply Dev.showEffective_kept | apply Dev.writeMemerrClr_kept | apply Dev.writeSeal_kept | apply Dev.writeBlsel_kept | apply Dev.put_kept | apply Dev.Kept.canon | refine ite_kept ?_ ?_) | split | (unfold Dev.Kept; dsimp only) | dsimp only

theorem Dev.writeBus_kept {pt : Part} {d : Dev} (off : Nat) (v : Nat) (hk : d.Kept pt) :
    (Dev.writeBus d off v).Kept pt := by
  unfold Dev.writeBus
  repeat' first | (with_reducible first | assumption | intro _ | apply Dev.writeGen_kept | apply Dev.busWritten_kept | apply Dev.writeBusCfg_kept | apply Dev.busReject_kept | apply Dev.Kept.canon | refine ite_kept ?_ ?_) | split | (unfold Dev.Kept; dsimp only) | dsimp only

theorem Dev.writeRingCtrl_kept {pt : Part} {d : Dev} (r : Nat) (v : Nat) (hk : d.Kept pt) :
    (Dev.writeRingCtrl d r v).Kept pt := by
  unfold Dev.writeRingCtrl
  repeat' first | (with_reducible first | assumption | apply Dev.fenceClear_kept | apply Dev.ringDisable_kept | apply Dev.ringEnable_kept | apply Dev.Kept.canon | refine ite_kept ?_ ?_) | split | (unfold Dev.Kept; dsimp only) | dsimp only

theorem Dev.writeMsix_kept {pt : Part} {d : Dev} (off : Nat) (v : Nat) (hk : d.Kept pt) :
    (Dev.writeMsix d off v).Kept pt := by
  unfold Dev.writeMsix
  repeat' first | (with_reducible first | assumption | apply Dev.emit_kept | apply Dev.put_kept | apply Dev.Kept.canon | refine ite_kept ?_ ?_) | split | (unfold Dev.Kept; dsimp only) | dsimp only

theorem Dev.writeHostq_kept {pt : Part} {d : Dev} (off : Nat) (v : Nat) (hk : d.Kept pt) :
    (Dev.writeHostq d off v).Kept pt := by
  unfold Dev.writeHostq
  repeat' first | (with_reducible first | assumption | intro _ | apply Dev.writeMsix_kept | apply Dev.writeRingCtrl_kept | apply Dev.writePlain_kept | apply Dev.writeGen_kept | apply Dev.writeWdog_kept | apply Dev.hostqReject_kept | apply Dev.Kept.canon | refine ite_kept ?_ ?_) | split | (unfold Dev.Kept; dsimp only) | dsimp only

theorem Dev.writeQuilt_kept {pt : Part} {d : Dev} (off : Nat) (v : Nat) (hk : d.Kept pt) :
    (Dev.writeQuilt d off v).Kept pt := by
  unfold Dev.writeQuilt
  repeat' first | (with_reducible first | assumption | intro _ | apply Dev.writeGen_kept | apply Dev.writePortEq_kept | apply Dev.writeQuiltCfg_kept | apply Dev.quiltReject_kept | apply Dev.applyLos_kept | apply Dev.skipShort_kept | apply Dev.Kept.canon | refine ite_kept ?_ ?_) | split | (unfold Dev.Kept; dsimp only) | dsimp only

theorem Dev.writeMeas_kept {pt : Part} {d : Dev} (off : Nat) (v : Nat) (hk : d.Kept pt) :
    (Dev.writeMeas d off v).Kept pt := by
  unfold Dev.writeMeas
  repeat' first | (with_reducible first | assumption | intro _ | apply Dev.writeGen_kept | apply Dev.writeConvCtrl_kept | apply Dev.writeUiGainSh_kept | apply Dev.writeUiMode_kept | apply Dev.measReject_kept | apply Dev.Kept.canon | refine ite_kept ?_ ?_ | refine foldl_kept (fun _ _ _ => ?_) ?_ _ | refine foldl_snd2_kept (fun _ _ _ => ?_) ?_ _ | refine foldl_snd_kept (fun _ _ _ => ?_) ?_ _ | refine foldl_fst_kept (fun _ _ _ => ?_) ?_ _) | split | (unfold Dev.Kept; dsimp only) | dsimp only

theorem Dev.writePanel_kept {pt : Part} {d : Dev} (off : Nat) (v : Nat) (hk : d.Kept pt) :
    (Dev.writePanel d off v).Kept pt := by
  unfold Dev.writePanel
  repeat' first | (with_reducible first | assumption | intro _ | apply Dev.writeGen_kept | apply Dev.writePanelCfg_kept | apply Dev.put_kept | apply Dev.Kept.canon | refine ite_kept ?_ ?_) | split | (unfold Dev.Kept; dsimp only) | dsimp only

theorem Dev.writeKeys_kept {pt : Part} {d : Dev} (off : Nat) (v : Nat) (hk : d.Kept pt) :
    (Dev.writeKeys d off v).Kept pt := by
  unfold Dev.writeKeys
  repeat' first | (with_reducible first | assumption | intro _ | apply Dev.writeGen_kept | apply Dev.keysCfgWritten_kept | apply Dev.writeKeysIrq_kept | apply Dev.put_kept | apply Dev.Kept.canon | refine ite_kept ?_ ?_) | split | (unfold Dev.Kept; dsimp only) | dsimp only

theorem Dev.writeNvm_kept {pt : Part} {d : Dev} (off : Nat) (v : Nat) (hk : d.Kept pt) :
    (Dev.writeNvm d off v).Kept pt := by
  unfold Dev.writeNvm
  repeat' first | (with_reducible first | assumption | intro _ | apply Dev.writePlain_kept | apply Dev.writeNvmClr_kept | apply Dev.put_kept | apply Dev.Kept.canon | refine ite_kept ?_ ?_) | split | (unfold Dev.Kept; dsimp only) | dsimp only

theorem Dev.writeDbg_kept {pt : Part} {d : Dev} (off : Nat) (v : Nat) (hk : d.Kept pt) :
    (Dev.writeDbg d off v).Kept pt := by
  unfold Dev.writeDbg
  repeat' first | (with_reducible first | assumption | intro _ | apply Dev.writePlain_kept | apply Dev.askThaw_kept | apply Dev.Kept.canon | refine ite_kept ?_ ?_) | split | (unfold Dev.Kept; dsimp only) | dsimp only

theorem Dev.writeFitsec_kept {pt : Part} {d : Dev} (off : Nat) (v : Nat) (hk : d.Kept pt) :
    (Dev.writeFitsec d off v).Kept pt := by
  unfold Dev.writeFitsec
  repeat' first | (with_reducible first | assumption | intro _ | apply Dev.writeDbg_kept | apply Dev.writeGen_kept | apply Dev.writeFwRec_kept | apply Dev.put_kept | apply Dev.Kept.canon | refine ite_kept ?_ ?_) | split | (unfold Dev.Kept; dsimp only) | dsimp only

theorem Dev.writeReg_kept {pt : Part} {d : Dev} (off : Nat) (v : Nat) (hk : d.Kept pt) :
    (Dev.writeReg d off v).Kept pt := by
  unfold Dev.writeReg
  repeat' first | (with_reducible first | assumption | apply Dev.writeFitsec_kept | apply Dev.writeNvm_kept | apply Dev.writeKeys_kept | apply Dev.writePanel_kept | apply Dev.writeMeas_kept | apply Dev.writeQuilt_kept | apply Dev.writeHostq_kept | apply Dev.writeBus_kept | apply Dev.writeGlobal_kept | apply Dev.writeLoopCtrl_kept | apply Dev.writePatCtrl_kept | apply Dev.writeField_kept | apply Dev.Kept.canon | refine ite_kept ?_ ?_) | split | (unfold Dev.Kept; dsimp only) | dsimp only

theorem Dev.writeSized_kept {pt : Part} {d : Dev} (off : Nat) (size : Nat) (v : Nat) (hk : d.Kept pt) :
    (Dev.writeSized d off size v).Kept pt := by
  unfold Dev.writeSized
  repeat' first | (with_reducible first | assumption | apply Dev.writeReg_kept | apply Dev.Kept.canon | refine ite_kept ?_ ?_) | split | (unfold Dev.Kept; dsimp only) | dsimp only

theorem Dev.bar4Put_kept {pt : Part} {d : Dev} (off : Nat) (bs : List Nat) (hk : d.Kept pt) :
    (Dev.bar4Put d off bs).Kept pt := by
  unfold Dev.bar4Put
  repeat' first | (with_reducible first | assumption | intro _ | apply Dev.memWrite_kept | apply Dev.Kept.canon | refine ite_kept ?_ ?_ | refine foldl_kept (fun _ _ _ => ?_) ?_ _ | refine foldl_snd2_kept (fun _ _ _ => ?_) ?_ _ | refine foldl_snd_kept (fun _ _ _ => ?_) ?_ _ | refine foldl_fst_kept (fun _ _ _ => ?_) ?_ _) | split | (unfold Dev.Kept; dsimp only) | dsimp only

/-! ### Descriptors -/

theorem opsGlobal_kept {pt : Part}  : ∀ e ∈ opsGlobal , ∀ (id : Nat) (x : Desc) (y : Dev), y.Kept pt → (e.2.2 id x y).Kept pt := by
  simp only [opsGlobal, List.forall_mem_cons]
  refine ⟨?_, fun _ h => nomatch h⟩ <;> intro id x y h <;> repeat' (first | with_reducible assumption | intro _ | with_reducible apply bodyNop_kept | dsimp only)

theorem opsMeas_kept {pt : Part}  : ∀ e ∈ opsMeas , ∀ (id : Nat) (x : Desc) (y : Dev), y.Kept pt → (e.2.2 id x y).Kept pt := by
  simp only [opsMeas, List.forall_mem_cons]
  refine ⟨?_, ?_, ?_, ?_, fun _ h => nomatch h⟩ <;> intro id x y h <;> repeat' (first | with_reducible assumption | intro _ | with_reducible apply bodyMeasUrgent_kept | with_reducible apply bodyMeasCal_kept | with_reducible apply bodyMeasCapture_kept | with_reducible apply bodyMeasAbort_kept | dsimp only)

theorem opsDio_kept {pt : Part}  : ∀ e ∈ opsDio , ∀ (id : Nat) (x : Desc) (y : Dev), y.Kept pt → (e.2.2 id x y).Kept pt := by
  simp only [opsDio, List.forall_mem_cons]
  refine ⟨?_, ?_, ?_, ?_, fun _ h => nomatch h⟩ <;> intro id x y h <;> repeat' (first | with_reducible assumption | intro _ | with_reducible apply bodyDioForce_kept | with_reducible apply bodyDoClear_kept | with_reducible apply bodyDarkTestNow_kept | with_reducible apply bodyFieldResume_kept | dsimp only)

theorem opsPos_kept {pt : Part}  : ∀ e ∈ opsPos , ∀ (id : Nat) (x : Desc) (y : Dev), y.Kept pt → (e.2.2 id x y).Kept pt := by
  simp only [opsPos, List.forall_mem_cons]
  refine ⟨?_, ?_, ?_, ?_, fun _ h => nomatch h⟩ <;> intro id x y h <;> repeat' (first | with_reducible assumption | intro _ | with_reducible apply bodyPosPreset_kept | with_reducible apply bodyPosCheck_kept | with_reducible apply bodyEmuForce_kept | with_reducible apply bodyPosAbort_kept | dsimp only)

theorem opsPattern_kept {pt : Part}  : ∀ e ∈ opsPattern , ∀ (id : Nat) (x : Desc) (y : Dev), y.Kept pt → (e.2.2 id x y).Kept pt := by
  simp only [opsPattern, List.forall_mem_cons]
  refine ⟨?_, ?_, ?_, ?_, fun _ h => nomatch h⟩ <;> intro id x y h <;> repeat' (first | with_reducible assumption | intro _ | with_reducible apply bodyPatLoad_kept | with_reducible apply bodyPatPredict_kept | with_reducible apply bodyPatAbort_kept | with_reducible apply bodyPatReset_kept | dsimp only)

theorem opsLoop_kept {pt : Part}  : ∀ e ∈ opsLoop , ∀ (id : Nat) (x : Desc) (y : Dev), y.Kept pt → (e.2.2 id x y).Kept pt := by
  simp only [opsLoop, List.forall_mem_cons]
  refine ⟨?_, ?_, ?_, ?_, ?_, ?_, ?_, ?_, ?_, fun _ h => nomatch h⟩ <;> intro id x y h <;> repeat' (first | with_reducible assumption | intro _ | with_reducible apply bodyLoopSet_kept | with_reducible apply bodyLoopRemove_kept | with_reducible apply bodyLoopMode_kept | with_reducible apply bodyLoopHold_kept | with_reducible apply bodyLoopClear_kept | with_reducible apply bodyChalkArm_kept | with_reducible apply bodyChalkTrigger_kept | with_reducible apply bodyChalkStop_kept | with_reducible apply bodyLoopAbort_kept | dsimp only)

theorem opsSched_kept {pt : Part}  : ∀ e ∈ opsSched , ∀ (id : Nat) (x : Desc) (y : Dev), y.Kept pt → (e.2.2 id x y).Kept pt := by
  simp only [opsSched, List.forall_mem_cons]
  refine ⟨?_, ?_, ?_, ?_, ?_, fun _ h => nomatch h⟩ <;> intro id x y h <;> repeat' (first | with_reducible assumption | intro _ | with_reducible apply bodySchedSet_kept | with_reducible apply bodyZoneOverride_kept | with_reducible apply bodyCivilSet_kept | with_reducible apply bodyDstLoad_kept | dsimp only)

theorem opsShuttle_kept {pt : Part}  : ∀ e ∈ opsShuttle , ∀ (id : Nat) (x : Desc) (y : Dev), y.Kept pt → (e.2.2 id x y).Kept pt := by
  simp only [opsShuttle, List.forall_mem_cons]
  refine ⟨?_, ?_, ?_, ?_, ?_, fun _ h => nomatch h⟩ <;> intro id x y h <;> repeat' (first | with_reducible assumption | intro _ | with_reducible apply bodyShuttleLoad_kept | with_reducible apply bodySolShot_kept | with_reducible apply bodySolForce_kept | with_reducible apply bodySolClear_kept | with_reducible apply bodyShuttleAbort_kept | dsimp only)

theorem opsFanao_kept {pt : Part}  : ∀ e ∈ opsFanao , ∀ (id : Nat) (x : Desc) (y : Dev), y.Kept pt → (e.2.2 id x y).Kept pt := by
  simp only [opsFanao, List.forall_mem_cons]
  refine ⟨?_, ?_, fun _ h => nomatch h⟩ <;> intro id x y h <;> repeat' (first | with_reducible assumption | intro _ | with_reducible apply bodyFanaoForce_kept | with_reducible apply bodyFanClear_kept | dsimp only)

theorem opsQuilt_kept {pt : Part}  : ∀ e ∈ opsQuilt , ∀ (id : Nat) (x : Desc) (y : Dev), y.Kept pt → (e.2.2 id x y).Kept pt := by
  simp only [opsQuilt, List.forall_mem_cons]
  refine ⟨?_, ?_, ?_, ?_, ?_, ?_, ?_, fun _ h => nomatch h⟩ <;> intro id x y h <;> repeat' (first | with_reducible assumption | intro _ | with_reducible apply Dev.abortDesc_kept | with_reducible apply bodyFlowOpen_kept | with_reducible apply bodyFlowClose_kept | with_reducible apply bodyRouteLoad_kept | with_reducible apply bodyPortRetrain_kept | with_reducible apply bodyQuiltAudit_kept | with_reducible apply bodyRringDoorbell_kept | with_reducible apply settleQuilt_kept | dsimp only)

theorem opsBus_kept {pt : Part} (data : List Nat) : ∀ e ∈ opsBus data, ∀ (id : Nat) (x : Desc) (y : Dev), y.Kept pt → (e.2.2 id x y).Kept pt := by
  simp only [opsBus, List.forall_mem_cons]
  refine ⟨?_, ?_, ?_, ?_, fun _ h => nomatch h⟩ <;> intro id x y h <;> repeat' (first | with_reducible assumption | intro _ | with_reducible apply Dev.abortDesc_kept | with_reducible apply bodyBusRecv_kept | with_reducible apply bodyBusSend_kept | with_reducible apply settleBus_kept | with_reducible apply bodyBusPollSet_kept | dsimp only)

theorem opsNvm_kept {pt : Part} (data : List Nat) (ups : List (Nat × Nat × Nat)) : ∀ e ∈ opsNvm data ups, ∀ (id : Nat) (x : Desc) (y : Dev), y.Kept pt → (e.2.2 id x y).Kept pt := by
  simp only [opsNvm, List.forall_mem_cons]
  refine ⟨?_, ?_, ?_, ?_, ?_, ?_, ?_, ?_, ?_, ?_, ?_, ?_, fun _ h => nomatch h⟩ <;> intro id x y h <;> repeat' (first | with_reducible assumption | intro _ | with_reducible apply bodyNvmUnlock_kept | with_reducible apply bodyNvmLock_kept | with_reducible apply bodyNvmSetpw_kept | with_reducible apply bodyNvmRead_kept | with_reducible apply bodyNvmWrite_kept | with_reducible apply bodyNvmSync_kept | with_reducible apply bodyRecConfirm_kept | with_reducible apply bodyRecWrite_kept | with_reducible apply bodyRecRead_kept | with_reducible apply bodyNvmExport_kept | with_reducible apply bodyNvmImport_kept | with_reducible apply bodyNvmAbort_kept | dsimp only)

theorem opsPanel_kept {pt : Part}  : ∀ e ∈ opsPanel , ∀ (id : Nat) (x : Desc) (y : Dev), y.Kept pt → (e.2.2 id x y).Kept pt := by
  simp only [opsPanel, List.forall_mem_cons]
  refine ⟨?_, ?_, ?_, ?_, fun _ h => nomatch h⟩ <;> intro id x y h <;> repeat' (first | with_reducible assumption | intro _ | with_reducible apply bodyPanelUpdate_kept | with_reducible apply bodyPanelWfload_kept | with_reducible apply bodyPanelCrcCheck_kept | with_reducible apply bodyPanelAbort_kept | dsimp only)

theorem opsKeys_kept {pt : Part}  : ∀ e ∈ opsKeys , ∀ (id : Nat) (x : Desc) (y : Dev), y.Kept pt → (e.2.2 id x y).Kept pt := by
  simp only [opsKeys, List.forall_mem_cons]
  refine ⟨?_, fun _ h => nomatch h⟩ <;> intro id x y h <;> repeat' (first | with_reducible assumption | intro _ | with_reducible apply bodyKeyLock_kept | dsimp only)

theorem opsFitting_kept {pt : Part}  : ∀ e ∈ opsFitting , ∀ (id : Nat) (x : Desc) (y : Dev), y.Kept pt → (e.2.2 id x y).Kept pt := by
  simp only [opsFitting, List.forall_mem_cons]
  refine ⟨?_, ?_, ?_, ?_, fun _ h => nomatch h⟩ <;> intro id x y h <;> repeat' (first | with_reducible assumption | intro _ | with_reducible apply bodyFitRun_kept | with_reducible apply bodyFitLogRead_kept | with_reducible apply bodyFitBaseline_kept | with_reducible apply bodyFitAbort_kept | dsimp only)

theorem opsSecurity_kept {pt : Part}  : ∀ e ∈ opsSecurity , ∀ (id : Nat) (x : Desc) (y : Dev), y.Kept pt → (e.2.2 id x y).Kept pt := by
  simp only [opsSecurity, List.forall_mem_cons]
  refine ⟨?_, ?_, ?_, ?_, ?_, fun _ h => nomatch h⟩ <;> intro id x y h <;> repeat' (first | with_reducible assumption | intro _ | with_reducible apply bodyOwnerHandover_kept | with_reducible apply bodyConfigManifest_kept | with_reducible apply bodyFwUpdate_kept | with_reducible apply bodyAttest_kept | with_reducible apply bodySecAbort_kept | dsimp only)

theorem opsDebug_kept {pt : Part}  : ∀ e ∈ opsDebug , ∀ (id : Nat) (x : Desc) (y : Dev), y.Kept pt → (e.2.2 id x y).Kept pt := by
  simp only [opsDebug, List.forall_mem_cons]
  refine ⟨?_, fun _ h => nomatch h⟩ <;> intro id x y h <;> repeat' (first | with_reducible assumption | intro _ | with_reducible apply bodyDbgFreeze_kept | dsimp only)

theorem opIndex_kept {pt : Part} (data : List Nat) (ups : List (Nat × Nat × Nat)) : ∀ e ∈ opIndex data ups, ∀ (id : Nat) (x : Desc) (y : Dev), y.Kept pt → (e.2.2 id x y).Kept pt := by
  simp only [opIndex, List.forall_mem_append]
  exact ⟨⟨⟨⟨⟨⟨⟨⟨⟨⟨⟨⟨⟨⟨⟨⟨opsGlobal_kept, opsMeas_kept⟩, opsDio_kept⟩, opsPos_kept⟩, opsPattern_kept⟩, opsLoop_kept⟩, opsSched_kept⟩, opsShuttle_kept⟩, opsFanao_kept⟩, opsQuilt_kept⟩, opsBus_kept data⟩, opsNvm_kept data ups⟩, opsPanel_kept⟩, opsKeys_kept⟩, opsFitting_kept⟩, opsSecurity_kept⟩, opsDebug_kept⟩

theorem Dev.startDesc_kept {pt : Part} {d : Dev} (id : Nat) (x : Sys2Proof.Desc) (data : List Nat) (ups : List (Nat × Nat × Nat)) (hk : d.Kept pt) :
    (Dev.startDesc d id x data ups).Kept pt := by
  unfold Dev.startDesc
  split
  · exact Dev.fail_kept _ _ hk
  · next e he => exact Dev.actDesc_kept _ _ _ _ hk (opIndex_kept data ups e (List.mem_of_find?_eq_some he))

theorem Dev.patLoadChecked_kept {pt : Part} {d : Dev} (id : Nat) (x : Sys2Proof.Desc) (hk : d.Kept pt) :
    (Dev.patLoadChecked d id x).Kept pt := by
  unfold Dev.patLoadChecked
  repeat' first | (with_reducible first | assumption | apply Dev.askWrite_kept | apply Dev.patChecked_kept | apply Dev.Kept.canon | refine ite_kept ?_ ?_) | split | (unfold Dev.Kept; dsimp only) | dsimp only

/-! ### Thaw -/

theorem Dev.applyPosted_kept {pt : Part} {d : Dev} (p : Posted) (hk : d.Kept pt) :
    (Dev.applyPosted d p).Kept pt := by
  unfold Dev.applyPosted
  repeat' first | (with_reducible first | assumption | apply Dev.bar4Put_kept | apply Dev.writeSized_kept | apply Dev.pcieUp_kept | apply Dev.pcieDown_kept | apply Dev.Kept.canon) | split | (unfold Dev.Kept; dsimp only) | dsimp only

theorem Dev.freezeEvents_kept {pt : Part} {d : Dev} (r : FreezeReq) (asked : Nat) (gone : Nat) (ms : Nat) (hk : d.Kept pt) :
    (Dev.freezeEvents d r asked gone ms).Kept pt := by
  unfold Dev.freezeEvents
  repeat' first | (with_reducible first | assumption | apply Dev.raise_kept | apply Dev.Kept.canon | refine ite_kept ?_ ?_) | split | (unfold Dev.Kept; dsimp only) | dsimp only

theorem Dev.retrainThaw_kept {pt : Part} {d : Dev} (p : Nat) (hk : d.Kept pt) :
    (Dev.retrainThaw d p).Kept pt := by
  unfold Dev.retrainThaw
  repeat' first | (with_reducible first | assumption | apply Dev.enterTraining_kept | apply Dev.leaveUp_kept | apply Dev.Kept.canon | refine ite_kept ?_ ?_) | split | (unfold Dev.Kept; dsimp only) | dsimp only

theorem Dev.thawResume_kept {pt : Part} {d : Dev} (hk : d.Kept pt) :
    (Dev.thawResume d).Kept pt := by
  unfold Dev.thawResume
  repeat' first | (with_reducible first | assumption | apply Dev.dipActs_kept | apply Dev.kickWrites_kept | apply Dev.keysThaw_kept | apply Dev.showFrontlight_kept | apply Dev.remoteFetchAll_kept | apply Dev.loopBack_kept | apply Dev.busThaw_kept | apply Dev.Kept.canon | refine ite_kept ?_ ?_) | split | (unfold Dev.Kept; dsimp only) | dsimp only

theorem Dev.thaw_kept {pt : Part} {d : Dev} (r : FreezeReq) (ms : Nat) (master : Option Nat) (hk : d.Kept pt) :
    (Dev.thaw d r ms master).Kept pt := by
  unfold Dev.thaw
  repeat' first | (with_reducible first | assumption | intro _ | apply Dev.thawResume_kept | apply Dev.freezeEvents_kept | apply Dev.applyPosted_kept | apply Dev.setFrz_kept | apply Dev.bell_kept | apply Dev.done_kept | apply Dev.put_kept | apply Dev.Kept.canon | refine foldl_kept (fun _ _ _ => ?_) ?_ _ | refine foldl_snd2_kept (fun _ _ _ => ?_) ?_ _ | refine foldl_snd_kept (fun _ _ _ => ?_) ?_ _ | refine foldl_fst_kept (fun _ _ _ => ?_) ?_ _) | (unfold Dev.Kept; dsimp only) | dsimp only

theorem Dev.thawMaster_kept {pt : Part} {d : Dev} (dev : Nat) (hk : d.Kept pt) :
    (Dev.thawMaster d dev).Kept pt := by
  unfold Dev.thawMaster
  repeat' first | (with_reducible first | assumption | apply Dev.followHops_kept | apply Dev.raise_kept | apply Dev.put_kept | apply Dev.Kept.canon | refine ite_kept ?_ ?_) | split | (unfold Dev.Kept; dsimp only) | dsimp only

/-! ### Tick -/

theorem Dev.routeWord_kept {pt : Part} {d : Dev} (p : Produced) (hk : d.Kept pt) :
    (Dev.routeWord d p).Kept pt := by
  unfold Dev.routeWord
  repeat' first | (with_reducible first | assumption | apply Dev.touchHeld_kept | apply Dev.deliver_kept | apply Dev.put_kept | apply Dev.Kept.canon | refine ite_kept ?_ ?_) | split | (unfold Dev.Kept; dsimp only) | dsimp only

theorem Dev.route_kept {pt : Part} {d : Dev} (hk : d.Kept pt) :
    (Dev.route d).2.Kept pt := by
  unfold Dev.route
  repeat' first | (with_reducible first | assumption | intro _ | apply Dev.routeWord_kept | apply Dev.Kept.canon | refine foldl_kept (fun _ _ _ => ?_) ?_ _ | refine foldl_snd2_kept (fun _ _ _ => ?_) ?_ _ | refine foldl_snd_kept (fun _ _ _ => ?_) ?_ _ | refine foldl_fst_kept (fun _ _ _ => ?_) ?_ _) | (unfold Dev.Kept; dsimp only) | dsimp only

theorem Dev.route_kept_of {pt : Part} {d : Dev} {r0 : List Nat} {e0 : Dev} (hk : d.Kept pt) (eq : (Dev.route d) = (r0, e0)) : e0.Kept pt := by
  have k := @Dev.route_kept; grind

theorem Dev.moveEngines_kept {pt : Part} {d : Dev} (move : Nat → Nat) (by_ : Int) (hk : d.Kept pt) :
    (Dev.moveEngines d move by_).Kept pt := by
  unfold Dev.moveEngines
  repeat' first | (with_reducible first | assumption | intro _ | apply Dev.Kept.canon) | (unfold Dev.Kept; dsimp only) | dsimp only

theorem Dev.moveQuilt_kept {pt : Part} {d : Dev} (move : Nat → Nat) (hk : d.Kept pt) :
    (Dev.moveQuilt d move).Kept pt := by
  unfold Dev.moveQuilt
  repeat' first | (with_reducible first | assumption | intro _ | apply Dev.Kept.canon | refine ite_kept ?_ ?_) | split | (unfold Dev.Kept; dsimp only) | dsimp only

theorem Dev.moveBuses_kept {pt : Part} {d : Dev} (move : Nat → Nat) (hk : d.Kept pt) :
    (Dev.moveBuses d move).Kept pt := by
  unfold Dev.moveBuses
  repeat' first | (with_reducible first | assumption | intro _ | apply Dev.Kept.canon | refine ite_kept ?_ ?_) | split | (unfold Dev.Kept; dsimp only) | dsimp only

theorem Dev.moveRest_kept {pt : Part} {d : Dev} (move : Nat → Nat) (hk : d.Kept pt) :
    (Dev.moveRest d move).Kept pt := by
  unfold Dev.moveRest
  repeat' first | (with_reducible first | assumption | intro _ | apply Dev.Kept.canon | refine ite_kept ?_ ?_) | split | (unfold Dev.Kept; dsimp only) | dsimp only

theorem Dev.timeStep_kept {pt : Part} {d : Dev} (hk : d.Kept pt) :
    (Dev.timeStep d).Kept pt := by
  unfold Dev.timeStep
  repeat' first | (with_reducible first | assumption | intro _ | apply Dev.moveRest_kept | apply Dev.moveBuses_kept | apply Dev.moveQuilt_kept | apply Dev.moveEngines_kept | apply Dev.patPassed_kept | apply Dev.raise_kept | apply Dev.Kept.canon | refine ite_kept ?_ ?_) | split | (unfold Dev.Kept; dsimp only) | dsimp only

theorem Dev.countSeconds_kept {pt : Part} {d : Dev} (hk : d.Kept pt) :
    (Dev.countSeconds d).Kept pt := by
  unfold Dev.countSeconds
  repeat' first | (with_reducible first | assumption | intro _ | apply Dev.saveCount_kept | apply Dev.Kept.canon | refine ite_kept ?_ ?_ | refine foldl_kept (fun _ _ _ => ?_) ?_ _ | refine foldl_snd2_kept (fun _ _ _ => ?_) ?_ _ | refine foldl_snd_kept (fun _ _ _ => ?_) ?_ _ | refine foldl_fst_kept (fun _ _ _ => ?_) ?_ _) | split | (unfold Dev.Kept; dsimp only) | dsimp only

theorem Dev.startStep14_kept {pt : Part} {d : Dev} (hk : d.Kept pt) :
    (Dev.startStep14 d).Kept pt := by
  unfold Dev.startStep14
  repeat' first | (with_reducible first | assumption | apply Dev.put_kept | apply Dev.Kept.canon | refine ite_kept ?_ ?_) | split | (unfold Dev.Kept; dsimp only) | dsimp only

theorem Dev.sendFrames_kept {pt : Part} {d : Dev} (hk : d.Kept pt) :
    (Dev.sendFrames d).Kept pt := by
  unfold Dev.sendFrames
  repeat' first | (with_reducible first | assumption | apply Dev.sendDown_kept | apply Dev.Kept.canon) | (unfold Dev.Kept; dsimp only) | dsimp only

theorem Dev.coreBoundary_kept {pt : Part} {d : Dev} (vl24 : Nat) (vhold : Nat) (hk : d.Kept pt) :
    (Dev.coreBoundary d vl24 vhold).Kept pt := by
  unfold Dev.coreBoundary
  repeat' first | (with_reducible first | assumption | apply Dev.sendFrames_kept | apply Dev.startStep14_kept | apply Dev.countSeconds_kept | apply Dev.timeStep_kept | apply Dev.route_kept | apply Dev.freezeWord_kept | apply Dev.resumeControl_kept | apply Dev.stopEngines_kept | apply Dev.followResume_kept | apply Dev.noteMin_kept | apply Dev.putVolts_kept | apply Dev.secTick_kept | apply Dev.nvmTick_kept | apply Dev.quiltTick_kept | apply Dev.patFlows_kept | apply Dev.upTick_kept | apply Dev.shuttleTick_kept | apply Dev.pollTick_kept | apply Dev.Kept.canon | refine ite_kept ?_ ?_) | split | (unfold Dev.Kept; dsimp only) | dsimp only

theorem Dev.firstBoundary_kept {pt : Part} {d : Dev} (vl24 : Nat) (vhold : Nat) (hk : d.Kept pt) :
    (Dev.firstBoundary d vl24 vhold).Kept pt := by
  unfold Dev.firstBoundary
  repeat' first | (with_reducible first | assumption | apply Dev.sendFrames_kept | apply Dev.enterWarning_kept | apply Dev.putVolts_kept | apply Dev.startOutside_kept | apply Dev.startControl_kept | apply Dev.Kept.canon | refine ite_kept ?_ ?_) | split | (unfold Dev.Kept; dsimp only) | dsimp only

end Sys2Proof.Machine
end

