-- ==== Sys2Proof/Laws/Same.lean ====
section
/-! SUPPORT. What every operation on the device leaves as it is, by kinds of state. -/

namespace Sys2Proof.Machine
open Sys2Proof

/-- A part of a frame, asked only where `b` says so. -/
abbrev partOf (b : Bool) (p : Prop) : Prop :=
  match b with
  | true => p
  | false => True

theorem partOf_false (p : Prop) : partOf false p = True := rfl

/-- The parts of a frame together. -/
def Parts (m f e s n t : Prop) : Prop := m ∧ f ∧ e ∧ s ∧ n ∧ t

/-- The device has what `r` has of the named kinds of state: `gm` memory, `gf` the field dies, `ge` the engines, `gs` the panel, the keys, the buses
and the fitting, `gn` the stores, `gt` time and power. -/
def Dev.Same (gm gf ge gs gn gt : Bool) (d r : Dev) : Prop :=
  Parts (partOf gm (d.mem = r.mem ∧ d.memErr = r.memErr))
    (partOf gf (d.die = r.die ∧ d.dieA = r.dieA ∧ d.dieB = r.dieB ∧ d.dis = r.dis ∧ d.dos = r.dos ∧ d.floats = r.floats ∧ d.poss = r.poss
      ∧ d.emus = r.emus ∧ d.fans = r.fans ∧ d.aos = r.aos ∧ d.shut = r.shut ∧ d.meas = r.meas))
    (partOf ge (d.pat = r.pat ∧ d.eng = r.eng ∧ d.sched = r.sched))
    (partOf gs (d.panel = r.panel ∧ d.keys = r.keys ∧ d.fit = r.fit ∧ d.buses = r.buses ∧ d.pollSets = r.pollSets))
    (partOf gn (d.nvm = r.nvm ∧ d.sec = r.sec))
    (partOf gt (d.tick = r.tick ∧ d.power = r.power))

theorem Dev.Same.both {gm gf ge gs gn gt : Bool} {r d : Dev} (h : d.Same gm gf ge gs gn gt r) :
    Parts (partOf gm (d.mem = r.mem ∧ d.memErr = r.memErr))
      (partOf gf (d.die = r.die ∧ d.dieA = r.dieA ∧ d.dieB = r.dieB ∧ d.dis = r.dis ∧ d.dos = r.dos ∧ d.floats = r.floats ∧ d.poss = r.poss
        ∧ d.emus = r.emus ∧ d.fans = r.fans ∧ d.aos = r.aos ∧ d.shut = r.shut ∧ d.meas = r.meas))
      (partOf ge (d.pat = r.pat ∧ d.eng = r.eng ∧ d.sched = r.sched))
      (partOf gs (d.panel = r.panel ∧ d.keys = r.keys ∧ d.fit = r.fit ∧ d.buses = r.buses ∧ d.pollSets = r.pollSets))
      (partOf gn (d.nvm = r.nvm ∧ d.sec = r.sec))
      (partOf gt (d.tick = r.tick ∧ d.power = r.power)) := h

theorem foldl_same {α : Type} {gm gf ge gs gn gt : Bool} {r₀ : Dev} {f : Dev → α → Dev} (hf : ∀ (y : Dev) (a : α), y.Same gm gf ge gs gn gt r₀ → (f y a).Same gm gf ge gs gn gt r₀) {d : Dev}
    (h : d.Same gm gf ge gs gn gt r₀) (l : List α) : (l.foldl f d).Same gm gf ge gs gn gt r₀ := by
  induction l generalizing d with
  | nil => exact h
  | cons a t ih => exact ih (hf d a h)

theorem foldl_snd_same {α β : Type} {gm gf ge gs gn gt : Bool} {r₀ : Dev} {f : β × Dev → α → β × Dev}
    (hf : ∀ (y : β × Dev) (a : α), y.2.Same gm gf ge gs gn gt r₀ → (f y a).2.Same gm gf ge gs gn gt r₀) {d : β × Dev} (h : d.2.Same gm gf ge gs gn gt r₀) (l : List α) : (l.foldl f d).2.Same gm gf ge gs gn gt r₀ := by
  induction l generalizing d with
  | nil => exact h
  | cons a t ih => exact ih (hf d a h)

theorem foldl_fst_same {α β : Type} {gm gf ge gs gn gt : Bool} {r₀ : Dev} {f : Dev × β → α → Dev × β}
    (hf : ∀ (y : Dev × β) (a : α), y.1.Same gm gf ge gs gn gt r₀ → (f y a).1.Same gm gf ge gs gn gt r₀) {d : Dev × β} (h : d.1.Same gm gf ge gs gn gt r₀) (l : List α) : (l.foldl f d).1.Same gm gf ge gs gn gt r₀ := by
  induction l generalizing d with
  | nil => exact h
  | cons a t ih => exact ih (hf d a h)

theorem foldl_snd2_same {α β γ : Type} {gm gf ge gs gn gt : Bool} {r₀ : Dev} {f : β × γ × Dev → α → β × γ × Dev}
    (hf : ∀ (y : β × γ × Dev) (a : α), y.2.2.Same gm gf ge gs gn gt r₀ → (f y a).2.2.Same gm gf ge gs gn gt r₀) {d : β × γ × Dev} (h : d.2.2.Same gm gf ge gs gn gt r₀) (l : List α) :
    (l.foldl f d).2.2.Same gm gf ge gs gn gt r₀ := by
  induction l generalizing d with
  | nil => exact h
  | cons a t ih => exact ih (hf d a h)

theorem ite_same {gm gf ge gs gn gt : Bool} {r₀ : Dev} {c : Prop} [Decidable c] {a b : Dev} (ha : a.Same gm gf ge gs gn gt r₀) (hb : b.Same gm gf ge gs gn gt r₀) :
    (if c then a else b).Same gm gf ge gs gn gt r₀ := by
  split <;> assumption

end Sys2Proof.Machine
end

