-- ==== Sys2Proof/Laws/SameCore.lean ====
section
/-! SUPPORT. The kinds of state that each operation leaves as they are: the operations of the host rings, the fabric links and the global registers. -/

namespace Sys2Proof.Machine
open Sys2Proof

variable {gm gf ge gs gn gt : Bool} {r₀ : Dev}

/-! ### Ops -/

theorem Dev.put_same {d : Dev} (f : Fld) (i : Nat) (v : Nat) (hk : d.Same gm gf ge gs gn gt r₀) :
    (Dev.put d f i v).Same gm gf ge gs gn gt r₀ := hk

theorem Dev.putBit_same {d : Dev} (f : Fld) (i : Nat) (b : Bool) (hk : d.Same gm gf ge gs gn gt r₀) :
    (Dev.putBit d f i b).Same gm gf ge gs gn gt r₀ := by
  unfold Dev.putBit
  repeat' first | (with_reducible first | assumption | apply Dev.put_same | apply Dev.Same.both | refine ite_same ?_ ?_) | split | (unfold Dev.Same; dsimp only [partOf_false]) | dsimp only

theorem Dev.bump_same {d : Dev} (f : Fld) (i : Nat) (top : Nat) (hk : d.Same gm gf ge gs gn gt r₀) :
    (Dev.bump d f i top).Same gm gf ge gs gn gt r₀ := by
  unfold Dev.bump
  repeat' first | (with_reducible first | assumption | apply Dev.put_same | apply Dev.Same.both) | (unfold Dev.Same; dsimp only [partOf_false]) | dsimp only

theorem Dev.wrapUp_same {d : Dev} (f : Fld) (i : Nat) (hk : d.Same gm gf ge gs gn gt r₀) :
    (Dev.wrapUp d f i).Same gm gf ge gs gn gt r₀ := by
  unfold Dev.wrapUp
  repeat' first | (with_reducible first | assumption | apply Dev.put_same | apply Dev.Same.both) | (unfold Dev.Same; dsimp only [partOf_false]) | dsimp only

theorem Dev.dput_same {d : Dev} (f : Fld) (i : Nat) (v : Nat) (hk : d.Same gm false ge gs gn gt r₀) :
    (Dev.dput d f i v).Same gm false ge gs gn gt r₀ := hk

theorem Dev.markRec_same {d : Dev} (r : Nat) (hk : d.Same gm gf ge gs gn gt r₀) :
    (Dev.markRec d r).Same gm gf ge gs gn gt r₀ := by
  unfold Dev.markRec
  repeat' first | (with_reducible first | assumption | apply Dev.Same.both | refine ite_same ?_ ?_) | split | (unfold Dev.Same; dsimp only [partOf_false]) | dsimp only

theorem Dev.markRet_same {d : Dev} (addr : Nat) (hk : d.Same gm gf ge gs gn gt r₀) :
    (Dev.markRet d addr).Same gm gf ge gs gn gt r₀ := by
  unfold Dev.markRet
  repeat' first | (with_reducible first | assumption | apply Dev.markRec_same | apply Dev.Same.both | refine ite_same ?_ ?_) | split | (unfold Dev.Same; dsimp only [partOf_false]) | dsimp only

theorem Dev.markHost_same {d : Dev} (addr : Nat) (hk : d.Same gm gf ge gs gn gt r₀) :
    (Dev.markHost d addr).Same gm gf ge gs gn gt r₀ := by
  unfold Dev.markHost
  repeat' first | (with_reducible first | assumption | apply Dev.markRec_same | apply Dev.Same.both) | split | (unfold Dev.Same; dsimp only [partOf_false]) | dsimp only

theorem Dev.putRet_same {d : Dev} (f : Fld) (i : Nat) (v : Nat) (hk : d.Same gm gf ge gs gn gt r₀) :
    (Dev.putRet d f i v).Same gm gf ge gs gn gt r₀ := by
  unfold Dev.putRet
  repeat' first | (with_reducible first | assumption | apply Dev.markRet_same | apply Dev.put_same | apply Dev.Same.both | refine ite_same ?_ ?_) | split | (unfold Dev.Same; dsimp only [partOf_false]) | dsimp only

theorem Dev.putHost_same {d : Dev} (f : Fld) (i : Nat) (v : Nat) (hk : d.Same gm gf ge gs gn gt r₀) :
    (Dev.putHost d f i v).Same gm gf ge gs gn gt r₀ := by
  unfold Dev.putHost
  repeat' first | (with_reducible first | assumption | apply Dev.markHost_same | apply Dev.put_same | apply Dev.Same.both) | (unfold Dev.Same; dsimp only [partOf_false]) | dsimp only

theorem Dev.emit_same {d : Dev} (o : Output) (hk : d.Same gm gf ge gs gn gt r₀) :
    (Dev.emit d o).Same gm gf ge gs gn gt r₀ := by
  unfold Dev.emit
  repeat' first | (with_reducible first | assumption | apply Dev.Same.both) | (unfold Dev.Same; dsimp only [partOf_false]) | dsimp only

theorem Dev.begin_same {d : Dev} (hk : d.Same gm gf ge gs gn gt r₀) :
    (Dev.begin d).Same gm gf ge gs gn gt r₀ := by
  unfold Dev.begin
  repeat' first | (with_reducible first | assumption | apply Dev.Same.both) | (unfold Dev.Same; dsimp only [partOf_false]) | dsimp only

theorem Dev.nextFree_same {d : Dev} (hk : d.Same gm gf ge gs gn gt r₀) :
    (Dev.nextFree d).Same gm gf ge gs gn gt r₀ := by
  unfold Dev.nextFree
  repeat' first | (with_reducible first | assumption | apply Dev.Same.both) | (unfold Dev.Same; dsimp only [partOf_false]) | dsimp only

theorem Dev.raiseAt_same {d : Dev} (code : Nat) (src : Nat) (time : Nat) (detail : List Nat) (hk : d.Same gm gf ge gs gn gt r₀) :
    (Dev.raiseAt d code src time detail).Same gm gf ge gs gn gt r₀ := by
  unfold Dev.raiseAt
  repeat' first | (with_reducible first | assumption | apply Dev.bump_same | apply Dev.Same.both | refine ite_same ?_ ?_) | split | (unfold Dev.Same; dsimp only [partOf_false]) | dsimp only

theorem Dev.raise_same {d : Dev} (code : Nat) (src : Nat) (detail : List Nat) (hk : d.Same gm gf ge gs gn gt r₀) :
    (Dev.raise d code src detail).Same gm gf ge gs gn gt r₀ := by
  unfold Dev.raise
  repeat' first | (with_reducible first | assumption | apply Dev.raiseAt_same | apply Dev.Same.both) | (unfold Dev.Same; dsimp only [partOf_false]) | dsimp only

theorem Dev.raiseLimited_same {d : Dev} (code : Nat) (src : Nat) (time : Nat) (st : Nat) (detail : List Nat) (hk : d.Same gm gf ge gs gn gt r₀) :
    (Dev.raiseLimited d code src time st detail).Same gm gf ge gs gn gt r₀ := by
  unfold Dev.raiseLimited
  repeat' first | (with_reducible first | assumption | apply Dev.raiseAt_same | apply Dev.Same.both | refine ite_same ?_ ?_) | split | (unfold Dev.Same; dsimp only [partOf_false]) | dsimp only

theorem Dev.raiseCounted_same {d : Dev} (code : Nat) (src : Nat) (time : Nat) (detail : List Nat) (off : Option Nat) (hk : d.Same gm gf ge gs gn gt r₀) :
    (Dev.raiseCounted d code src time detail off).Same gm gf ge gs gn gt r₀ := by
  unfold Dev.raiseCounted
  repeat' first | (with_reducible first | assumption | intro _ | apply Dev.raiseAt_same | apply Dev.Same.both) | split | (unfold Dev.Same; dsimp only [partOf_false]) | dsimp only

theorem Dev.endInterval_same {d : Dev} (code : Nat) (src : Nat) (hk : d.Same gm gf ge gs gn gt r₀) :
    (Dev.endInterval d code src).Same gm gf ge gs gn gt r₀ := by
  unfold Dev.endInterval
  repeat' first | (with_reducible first | assumption | apply Dev.raise_same | apply Dev.Same.both | refine ite_same ?_ ?_) | split | (unfold Dev.Same; dsimp only [partOf_false]) | dsimp only

theorem Dev.setRec_same {d : Dev} (id : Nat) (f : Rec → Rec) (hk : d.Same gm gf ge gs gn gt r₀) :
    (Dev.setRec d id f).Same gm gf ge gs gn gt r₀ := by
  unfold Dev.setRec
  repeat' first | (with_reducible first | assumption | intro _ | apply Dev.Same.both | refine ite_same ?_ ?_) | split | (unfold Dev.Same; dsimp only [partOf_false]) | dsimp only

theorem Dev.finish_same {d : Dev} (id : Nat) (st : Status) (result : Nat) (hk : d.Same gm gf ge gs gn gt r₀) :
    (Dev.finish d id st result).Same gm gf ge gs gn gt r₀ := by
  unfold Dev.finish
  repeat' first | (with_reducible first | assumption | intro _ | apply Dev.setRec_same | apply Dev.bump_same | apply Dev.Same.both | refine ite_same ?_ ?_) | split | (unfold Dev.Same; dsimp only [partOf_false]) | dsimp only

theorem Dev.fail_same {d : Dev} (id : Nat) (st : Status) (hk : d.Same gm gf ge gs gn gt r₀) :
    (Dev.fail d id st).Same gm gf ge gs gn gt r₀ := by
  unfold Dev.fail
  repeat' first | (with_reducible first | assumption | apply Dev.finish_same | apply Dev.Same.both) | (unfold Dev.Same; dsimp only [partOf_false]) | dsimp only

theorem Dev.done_same {d : Dev} (id : Nat) (result : Nat) (hk : d.Same gm gf ge gs gn gt r₀) :
    (Dev.done d id result).Same gm gf ge gs gn gt r₀ := by
  unfold Dev.done
  repeat' first | (with_reducible first | assumption | apply Dev.finish_same | apply Dev.Same.both) | (unfold Dev.Same; dsimp only [partOf_false]) | dsimp only

theorem Dev.raiseMemUnc_same {d : Dev} (w : Nat) (reader : Nat) (hk : d.Same gm gf ge gs gn gt r₀) :
    (Dev.raiseMemUnc d w reader).Same gm gf ge gs gn gt r₀ := by
  unfold Dev.raiseMemUnc
  repeat' first | (with_reducible first | assumption | apply Dev.raise_same | apply Dev.bump_same | apply Dev.Same.both) | (unfold Dev.Same; dsimp only [partOf_false]) | dsimp only

theorem Dev.settleWord_same {d : Dev} (w : Nat) (a : Nat) (n : Nat) (reader : Nat) (hk : d.Same false gf ge gs gn gt r₀) :
    (Dev.settleWord d w a n reader).Same false gf ge gs gn gt r₀ := by
  unfold Dev.settleWord
  repeat' first | (with_reducible first | assumption | apply Dev.raiseMemUnc_same | apply Dev.bump_same | apply Canon.setMem | apply Canon.setErr | apply Dev.Same.both (gm := false) | refine ite_same ?_ ?_) | split | (unfold Dev.Same; dsimp only [partOf_false]) | dsimp only

theorem Dev.memWrite_same {d : Dev} (a : Nat) (bs : List Nat) (reader : optParam Nat 1) (hk : d.Same false gf ge gs gn gt r₀) :
    (Dev.memWrite d a bs reader).Same false gf ge gs gn gt r₀ := by
  unfold Dev.memWrite
  repeat' first | (with_reducible first | assumption | intro _ | apply Dev.settleWord_same | apply Canon.setMem | apply Dev.Same.both (gm := false) | refine ite_same ?_ ?_ | refine foldl_same (fun _ _ _ => ?_) ?_ _ | refine foldl_snd2_same (fun _ _ _ => ?_) ?_ _ | refine foldl_snd_same (fun _ _ _ => ?_) ?_ _ | refine foldl_fst_same (fun _ _ _ => ?_) ?_ _) | split | (unfold Dev.Same; dsimp only [partOf_false]) | dsimp only

theorem Dev.upset_same {d : Dev} (us : List (Nat × Nat)) (hk : d.Same false gf ge gs gn gt r₀) :
    (Dev.upset d us).Same false gf ge gs gn gt r₀ := by
  unfold Dev.upset
  repeat' first | (with_reducible first | assumption | intro _ | apply Canon.setErr | apply Dev.Same.both (gm := false) | refine foldl_same (fun _ _ _ => ?_) ?_ _ | refine foldl_snd2_same (fun _ _ _ => ?_) ?_ _ | refine foldl_snd_same (fun _ _ _ => ?_) ?_ _ | refine foldl_fst_same (fun _ _ _ => ?_) ?_ _) | (unfold Dev.Same; dsimp only [partOf_false]) | dsimp only

theorem Dev.readWord_same {d : Dev} (w : Nat) (reader : Nat) (hk : d.Same false gf ge gs gn gt r₀) :
    (Dev.readWord d w reader).2.Same false gf ge gs gn gt r₀ := by
  unfold Dev.readWord
  repeat' first | (with_reducible first | assumption | apply Dev.memWrite_same | apply Dev.raiseMemUnc_same | apply Dev.bump_same | apply Canon.setErr | apply Dev.Same.both (gm := false)) | split | (unfold Dev.Same; dsimp only [partOf_false]) | dsimp only

theorem Dev.readWord_same_of {d : Dev} {w : Nat} {reader : Nat} {r0 : Option (List Nat)} {e0 : Dev} (hk : d.Same false gf ge gs gn gt r₀) (eq : (Dev.readWord d w reader) = (r0, e0)) : e0.Same false gf ge gs gn gt r₀ := by
  have k := @Dev.readWord_same; grind

theorem Dev.readWords_same {d : Dev} (w : Nat) (a2 : Nat) (a3 : Nat) (hk : d.Same false gf ge gs gn gt r₀) :
    (Dev.readWords d w a2 a3).2.Same false gf ge gs gn gt r₀ := by
  induction a2 generalizing d w with
  | zero => exact hk
  | succ n ih => exact ih (w + 1) (Dev.readWord_same w a3 hk)

theorem Dev.readWords_same_of {d : Dev} {w : Nat} {a2 : Nat} {a3 : Nat} {r0 : Option (List Nat)} {e0 : Dev} (hk : d.Same false gf ge gs gn gt r₀) (eq : (Dev.readWords d w a2 a3) = (r0, e0)) : e0.Same false gf ge gs gn gt r₀ := by
  have k := @Dev.readWords_same; grind

theorem Dev.memRead_same {d : Dev} (a : Nat) (n : Nat) (reader : Nat) (hk : d.Same false gf ge gs gn gt r₀) :
    (Dev.memRead d a n reader).2.Same false gf ge gs gn gt r₀ := by
  unfold Dev.memRead
  repeat' first | (with_reducible first | assumption | intro _ | apply Dev.readWords_same | apply Dev.Same.both (gm := false) | refine ite_same ?_ ?_) | split | (unfold Dev.Same; dsimp only [partOf_false]) | dsimp only

theorem Dev.memRead_same_of {d : Dev} {a : Nat} {n : Nat} {reader : Nat} {r0 : Option (List Nat)} {e0 : Dev} (hk : d.Same false gf ge gs gn gt r₀) (eq : (Dev.memRead d a n reader) = (r0, e0)) : e0.Same false gf ge gs gn gt r₀ := by
  have k := @Dev.memRead_same; grind

theorem Dev.produce_same {d : Dev} (name : Nat) (qty : Nat) (w : VW) (hk : d.Same gm gf ge gs gn gt r₀) :
    (Dev.produce d name qty w).Same gm gf ge gs gn gt r₀ := by
  unfold Dev.produce
  repeat' first | (with_reducible first | assumption | apply Dev.Same.both) | (unfold Dev.Same; dsimp only [partOf_false]) | dsimp only

theorem Dev.deliver_same {d : Dev} (name : Nat) (qty : Nat) (w : VW) (hk : d.Same gm gf ge gs gn gt r₀) :
    (Dev.deliver d name qty w).Same gm gf ge gs gn gt r₀ := by
  unfold Dev.deliver
  repeat' first | (with_reducible first | assumption | apply Dev.Same.both) | (unfold Dev.Same; dsimp only [partOf_false]) | dsimp only

theorem Dev.touchHeld_same {d : Dev} (k : Nat) (reader : Nat) (hk : d.Same gm gf ge gs gn gt r₀) :
    (Dev.touchHeld d k reader).Same gm gf ge gs gn gt r₀ := by
  unfold Dev.touchHeld
  repeat' first | (with_reducible first | assumption | intro _ | apply Dev.raiseMemUnc_same | apply Dev.nextFree_same | apply Dev.bump_same | apply Dev.Same.both | refine ite_same ?_ ?_) | split | (unfold Dev.Same; dsimp only [partOf_false]) | dsimp only

theorem Dev.touchValue_same {d : Dev} (name : Nat) (qty : Nat) (reader : Nat) (hk : d.Same gm gf ge gs gn gt r₀) :
    (Dev.touchValue d name qty reader).Same gm gf ge gs gn gt r₀ := by
  unfold Dev.touchValue
  repeat' first | (with_reducible first | assumption | apply Dev.touchHeld_same | apply Dev.Same.both) | (unfold Dev.Same; dsimp only [partOf_false]) | dsimp only

theorem Dev.setWriter_same {d : Dev} (h : Nat) (w : Nat) (hk : d.Same gm gf ge gs gn gt r₀) :
    (Dev.setWriter d h w).Same gm gf ge gs gn gt r₀ := by
  unfold Dev.setWriter
  repeat' first | (with_reducible first | assumption | apply Dev.Same.both) | (unfold Dev.Same; dsimp only [partOf_false]) | dsimp only

theorem Dev.setForce_same {d : Dev} (h : Nat) (v : Option Nat) (hk : d.Same gm gf false gs gn gt r₀) :
    (Dev.setForce d h v).Same gm gf false gs gn gt r₀ := by
  unfold Dev.setForce
  repeat' first | (with_reducible first | assumption | apply Dev.Same.both (ge := false) | refine ite_same ?_ ?_) | split | (unfold Dev.Same; dsimp only [partOf_false]) | dsimp only

theorem Dev.setCommand_same {d : Dev} (h : Nat) (v : Nat) (hk : d.Same gm gf ge gs gn gt r₀) :
    (Dev.setCommand d h v).Same gm gf ge gs gn gt r₀ := by
  unfold Dev.setCommand
  repeat' first | (with_reducible first | assumption | apply Dev.Same.both) | (unfold Dev.Same; dsimp only [partOf_false]) | dsimp only

theorem Dev.setFd_same {d : Dev} (k : Nat) (x : DieSt) (hk : d.Same gm false ge gs gn gt r₀) :
    (Dev.setFd d k x).Same gm false ge gs gn gt r₀ := by
  unfold Dev.setFd
  repeat' first | (with_reducible first | assumption | apply Dev.Same.both (gf := false) | refine ite_same ?_ ?_) | split | (unfold Dev.Same; dsimp only [partOf_false]) | dsimp only

theorem Dev.post_same {d : Dev} (k : Nat) (m : Mail) (hk : d.Same gm gf ge gs gn gt r₀) :
    (Dev.post d k m).Same gm gf ge gs gn gt r₀ := by
  unfold Dev.post
  repeat' first | (with_reducible first | assumption | apply Dev.Same.both | refine ite_same ?_ ?_) | split | (unfold Dev.Same; dsimp only [partOf_false]) | dsimp only

theorem Dev.dieRaise_same {d : Dev} (k : Nat) (code : Nat) (src : Nat) (detail : List Nat) (hk : d.Same gm false ge gs gn gt r₀) :
    (Dev.dieRaise d k code src detail).Same gm false ge gs gn gt r₀ := by
  unfold Dev.dieRaise
  repeat' first | (with_reducible first | assumption | apply Dev.setFd_same | apply Dev.Same.both (gf := false) | refine ite_same ?_ ?_) | split | (unfold Dev.Same; dsimp only [partOf_false]) | dsimp only

theorem Dev.setBlock_same {d : Dev} (k : Nat) (bs : List Nat) (hk : d.Same gm gf ge gs gn gt r₀) :
    (Dev.setBlock d k bs).Same gm gf ge gs gn gt r₀ := by
  unfold Dev.setBlock
  repeat' first | (with_reducible first | assumption | apply Dev.Same.both | refine ite_same ?_ ?_) | split | (unfold Dev.Same; dsimp only [partOf_false]) | dsimp only

theorem Dev.saveWrite_same {d : Dev} (off : Nat) (bs : List Nat) (hk : d.Same false gf ge gs gn gt r₀) :
    (Dev.saveWrite d off bs).Same false gf ge gs gn gt r₀ := by
  unfold Dev.saveWrite
  repeat' first | (with_reducible first | assumption | apply Dev.memWrite_same | apply Dev.Same.both (gm := false)) | (unfold Dev.Same; dsimp only [partOf_false]) | dsimp only

theorem Dev.saveRead_same {d : Dev} (off : Nat) (n : Nat) (hk : d.Same false gf ge gs gn gt r₀) :
    (Dev.saveRead d off n).2.Same false gf ge gs gn gt r₀ := by
  unfold Dev.saveRead
  repeat' first | (with_reducible first | assumption | intro _ | apply Dev.settleWord_same | apply Dev.Same.both (gm := false) | refine foldl_same (fun _ _ _ => ?_) ?_ _ | refine foldl_snd2_same (fun _ _ _ => ?_) ?_ _ | refine foldl_snd_same (fun _ _ _ => ?_) ?_ _ | refine foldl_fst_same (fun _ _ _ => ?_) ?_ _) | (unfold Dev.Same; dsimp only [partOf_false]) | dsimp only

theorem Dev.saveRead_same_of {d : Dev} {off : Nat} {n : Nat} {r0 : List Nat} {e0 : Dev} (hk : d.Same false gf ge gs gn gt r₀) (eq : (Dev.saveRead d off n) = (r0, e0)) : e0.Same false gf ge gs gn gt r₀ := by
  have k := @Dev.saveRead_same; grind

theorem Dev.saveCount_same {d : Dev} (off : Nat) (n : optParam Nat 4) (hk : d.Same false gf ge gs gn gt r₀) :
    (Dev.saveCount d off n).Same false gf ge gs gn gt r₀ := by
  unfold Dev.saveCount
  repeat' first | (with_reducible first | assumption | apply Dev.saveRead_same | apply Dev.saveWrite_same | apply Dev.Same.both (gm := false)) | (unfold Dev.Same; dsimp only [partOf_false]) | dsimp only

theorem Dev.recovered_same {d : Dev} (hk : d.Same gm gf ge gs gn gt r₀) :
    (Dev.recovered d).Same gm gf ge gs gn gt r₀ := by
  unfold Dev.recovered
  repeat' first | (with_reducible first | assumption | apply Dev.bump_same | apply Dev.Same.both) | (unfold Dev.Same; dsimp only [partOf_false]) | dsimp only

theorem Dev.startCount_same {d : Dev} (hk : d.Same false gf ge gs gn gt r₀) :
    (Dev.startCount d).2.Same false gf ge gs gn gt r₀ := by
  unfold Dev.startCount
  repeat' first | (with_reducible first | assumption | apply Dev.saveRead_same | apply Dev.Same.both (gm := false)) | (unfold Dev.Same; dsimp only [partOf_false]) | dsimp only

theorem Dev.startCount_same_of {d : Dev} {r0 : Nat} {e0 : Dev} (hk : d.Same false gf ge gs gn gt r₀) (eq : (Dev.startCount d) = (r0, e0)) : e0.Same false gf ge gs gn gt r₀ := by
  have k := @Dev.startCount_same; grind

theorem Dev.logFaultIn_same {d : Dev} (starts : Nat) (time : Nat) (cause : Nat) (place : Nat) (detail : Nat) (hk : d.Same gm gf ge gs gn gt r₀) :
    (Dev.logFaultIn d starts time cause place detail).Same gm gf ge gs gn gt r₀ := by
  unfold Dev.logFaultIn
  repeat' first | (with_reducible first | assumption | intro _ | apply Dev.raise_same | apply Dev.putRet_same | apply Dev.Same.both | refine foldl_same (fun _ _ _ => ?_) ?_ _ | refine foldl_snd2_same (fun _ _ _ => ?_) ?_ _ | refine foldl_snd_same (fun _ _ _ => ?_) ?_ _ | refine foldl_fst_same (fun _ _ _ => ?_) ?_ _) | (unfold Dev.Same; dsimp only [partOf_false]) | dsimp only

theorem Dev.logFault_same {d : Dev} (cause : Nat) (place : Nat) (detail : Nat) (hk : d.Same false gf ge gs gn gt r₀) :
    (Dev.logFault d cause place detail).Same false gf ge gs gn gt r₀ := by
  unfold Dev.logFault
  repeat' first | (with_reducible first | assumption | apply Dev.logFaultIn_same | apply Dev.startCount_same | apply Dev.Same.both (gm := false)) | (unfold Dev.Same; dsimp only [partOf_false]) | dsimp only

/-! ### QuiltLink -/

theorem Dev.setPort_same {d : Dev} (p : Nat) (x : PortSt) (hk : d.Same gm gf ge gs gn gt r₀) :
    (Dev.setPort d p x).Same gm gf ge gs gn gt r₀ := by
  unfold Dev.setPort
  repeat' first | (with_reducible first | assumption | apply Dev.Same.both | refine ite_same ?_ ?_) | split | (unfold Dev.Same; dsimp only [partOf_false]) | dsimp only

theorem Dev.setPortState_same {d : Dev} (p : Nat) (st : Nat) (hk : d.Same gm gf ge gs gn gt r₀) :
    (Dev.setPortState d p st).Same gm gf ge gs gn gt r₀ := by
  unfold Dev.setPortState
  repeat' first | (with_reducible first | assumption | intro _ | apply Dev.setPort_same | apply Dev.put_same | apply Dev.Same.both | refine ite_same ?_ ?_ | refine foldl_same (fun _ _ _ => ?_) ?_ _ | refine foldl_snd2_same (fun _ _ _ => ?_) ?_ _ | refine foldl_snd_same (fun _ _ _ => ?_) ?_ _ | refine foldl_fst_same (fun _ _ _ => ?_) ?_ _) | split | (unfold Dev.Same; dsimp only [partOf_false]) | dsimp only

theorem Dev.flood_same {d : Dev} (k : Nat) (payload : Nat) (but : Option Nat) (hk : d.Same gm gf ge gs gn gt r₀) :
    (Dev.flood d k payload but).Same gm gf ge gs gn gt r₀ := by
  unfold Dev.flood
  repeat' first | (with_reducible first | assumption | intro _ | apply Dev.emit_same | apply Dev.Same.both | refine ite_same ?_ ?_ | refine foldl_same (fun _ _ _ => ?_) ?_ _ | refine foldl_snd2_same (fun _ _ _ => ?_) ?_ _ | refine foldl_snd_same (fun _ _ _ => ?_) ?_ _ | refine foldl_fst_same (fun _ _ _ => ?_) ?_ _) | split | (unfold Dev.Same; dsimp only [partOf_false]) | dsimp only

theorem Dev.floodQuilt_same {d : Dev} (k : Nat) (payload : Nat) (but : Option Nat) (hk : d.Same gm gf ge gs gn gt r₀) :
    (Dev.floodQuilt d k payload but).Same gm gf ge gs gn gt r₀ := by
  unfold Dev.floodQuilt
  repeat' first | (with_reducible first | assumption | apply Dev.flood_same | apply Dev.Same.both | refine ite_same ?_ ?_) | split | (unfold Dev.Same; dsimp only [partOf_false]) | dsimp only

theorem Dev.freeBuffer_same {d : Dev} (p : Nat) (c : Nat) (hk : d.Same gm gf ge gs gn gt r₀) :
    (Dev.freeBuffer d p c).Same gm gf ge gs gn gt r₀ := by
  unfold Dev.freeBuffer
  repeat' first | (with_reducible first | assumption | apply Dev.setPort_same | apply Dev.emit_same | apply Dev.put_same | apply Dev.Same.both | refine ite_same ?_ ?_) | split | (unfold Dev.Same; dsimp only [partOf_false]) | dsimp only

theorem Dev.freeItem_same {d : Dev} (inPort : Option Nat) (c : Nat) (hk : d.Same gm gf ge gs gn gt r₀) :
    (Dev.freeItem d inPort c).Same gm gf ge gs gn gt r₀ := by
  unfold Dev.freeItem
  repeat' first | (with_reducible first | assumption | apply Dev.freeBuffer_same | apply Dev.Same.both) | split | (unfold Dev.Same; dsimp only [partOf_false]) | dsimp only

theorem Dev.sendOn_same {d : Dev} (p : Nat) (st : Stitch) (hk : d.Same gm gf ge gs gn gt r₀) :
    (Dev.sendOn d p st).Same gm gf ge gs gn gt r₀ := by
  unfold Dev.sendOn
  repeat' first | (with_reducible first | assumption | apply Dev.setPort_same | apply Dev.emit_same | apply Dev.put_same | apply Dev.Same.both) | (unfold Dev.Same; dsimp only [partOf_false]) | dsimp only

theorem Dev.readRetry_same {d : Dev} (p : Nat) (n : Nat) (st : Stitch) (hk : d.Same gm gf ge gs gn gt r₀) :
    (Dev.readRetry d p n st).2.Same gm gf ge gs gn gt r₀ := by
  unfold Dev.readRetry
  repeat' first | (with_reducible first | assumption | apply Dev.touchHeld_same | apply Dev.Same.both | refine ite_same ?_ ?_) | split | (unfold Dev.Same; dsimp only [partOf_false]) | dsimp only

theorem Dev.readRetry_same_of {d : Dev} {p : Nat} {n : Nat} {st : Stitch} {r0 : Option Stitch} {e0 : Dev} (hk : d.Same gm gf ge gs gn gt r₀) (eq : (Dev.readRetry d p n st) = (r0, e0)) : e0.Same gm gf ge gs gn gt r₀ := by
  have k := @Dev.readRetry_same; grind

theorem Dev.readRetries_same {d : Dev} (p : Nat) (hk : d.Same gm gf ge gs gn gt r₀) :
    (Dev.readRetries d p).2.Same gm gf ge gs gn gt r₀ := by
  unfold Dev.readRetries
  repeat' first | (with_reducible first | assumption | intro _ | refine Dev.readRetry_same_of ?_ (by assumption) | apply Dev.readRetry_same | apply Dev.Same.both | refine foldl_same (fun _ _ _ => ?_) ?_ _ | refine foldl_snd2_same (fun _ _ _ => ?_) ?_ _ | refine foldl_snd_same (fun _ _ _ => ?_) ?_ _ | refine foldl_fst_same (fun _ _ _ => ?_) ?_ _) | split | (unfold Dev.Same; dsimp only [partOf_false]) | dsimp only

theorem Dev.readRetries_same_of {d : Dev} {p : Nat} {r0 : (List Stitch × Nat)} {e0 : Dev} (hk : d.Same gm gf ge gs gn gt r₀) (eq : (Dev.readRetries d p) = (r0, e0)) : e0.Same gm gf ge gs gn gt r₀ := by
  have k := @Dev.readRetries_same; grind

theorem Dev.pumpClass_same {d : Dev} (c : Nat) (hk : d.Same gm gf ge gs gn gt r₀) :
    (Dev.pumpClass d c).Same gm gf ge gs gn gt r₀ := by
  unfold Dev.pumpClass
  repeat' first | (with_reducible first | assumption | intro _ | apply Dev.sendOn_same | apply Dev.freeItem_same | apply Dev.done_same | apply Dev.Same.both | refine ite_same ?_ ?_ | refine foldl_same (fun _ _ _ => ?_) ?_ _ | refine foldl_snd2_same (fun _ _ _ => ?_) ?_ _ | refine foldl_snd_same (fun _ _ _ => ?_) ?_ _ | refine foldl_fst_same (fun _ _ _ => ?_) ?_ _) | split | (unfold Dev.Same; dsimp only [partOf_false]) | dsimp only

theorem Dev.pump_same {d : Dev} (hk : d.Same gm gf ge gs gn gt r₀) :
    (Dev.pump d).Same gm gf ge gs gn gt r₀ := by
  unfold Dev.pump
  repeat' first | (with_reducible first | assumption | apply Dev.pumpClass_same | apply Dev.Same.both) | (unfold Dev.Same; dsimp only [partOf_false]) | dsimp only

theorem Dev.lateTack_same {d : Dev} (p : Option Nat) (it : QItem) (hk : d.Same gm gf ge gs gn gt r₀) :
    (Dev.lateTack d p it).Same gm gf ge gs gn gt r₀ := by
  unfold Dev.lateTack
  repeat' first | (with_reducible first | assumption | apply Dev.bump_same | apply Dev.Same.both) | split | (unfold Dev.Same; dsimp only [partOf_false]) | dsimp only

theorem Dev.enqueue_same {d : Dev} (it : QItem) (hk : d.Same gm gf ge gs gn gt r₀) :
    (Dev.enqueue d it).Same gm gf ge gs gn gt r₀ := by
  unfold Dev.enqueue
  repeat' first | (with_reducible first | assumption | apply Dev.Same.both) | (unfold Dev.Same; dsimp only [partOf_false]) | dsimp only

theorem Dev.enqueueOwn_same {d : Dev} (it : QItem) (hk : d.Same gm gf ge gs gn gt r₀) :
    (Dev.enqueueOwn d it).Same gm gf ge gs gn gt r₀ := by
  unfold Dev.enqueueOwn
  repeat' first | (with_reducible first | assumption | apply Dev.enqueue_same | apply Dev.Same.both) | (unfold Dev.Same; dsimp only [partOf_false]) | dsimp only

theorem Dev.setTokens_same {d : Dev} (n : Nat) (c : Nat) (v : Nat) (hk : d.Same gm gf ge gs gn gt r₀) :
    (Dev.setTokens d n c v).Same gm gf ge gs gn gt r₀ := by
  unfold Dev.setTokens
  repeat' first | (with_reducible first | assumption | apply Dev.put_same | apply Dev.Same.both) | split | (unfold Dev.Same; dsimp only [partOf_false]) | dsimp only

theorem Dev.noteTokens_same {d : Dev} (n : Nat) (c : Nat) (hk : d.Same gm gf ge gs gn gt r₀) :
    (Dev.noteTokens d n c).Same gm gf ge gs gn gt r₀ := by
  unfold Dev.noteTokens
  repeat' first | (with_reducible first | assumption | apply Dev.Same.both) | (unfold Dev.Same; dsimp only [partOf_false]) | dsimp only

theorem Dev.useToken_same {d : Dev} (n : Nat) (c : Nat) (hk : d.Same gm gf ge gs gn gt r₀) :
    (Dev.useToken d n c).Same gm gf ge gs gn gt r₀ := by
  unfold Dev.useToken
  repeat' first | (with_reducible first | assumption | apply Dev.noteTokens_same | apply Dev.setTokens_same | apply Dev.Same.both) | (unfold Dev.Same; dsimp only [partOf_false]) | dsimp only

theorem Dev.sendControl_same {d : Dev} (dest : Nat) (kind : Nat) (data : List Nat) (via : Option Nat) (hk : d.Same gm gf ge gs gn gt r₀) :
    (Dev.sendControl d dest kind data via).Same gm gf ge gs gn gt r₀ := by
  unfold Dev.sendControl
  repeat' first | (with_reducible first | assumption | apply Dev.enqueueOwn_same | apply Dev.pump_same | apply Dev.Same.both) | (unfold Dev.Same; dsimp only [partOf_false]) | dsimp only

theorem Dev.sendToken_same {d : Dev} (dest : Nat) (cls : Nat) (kind : Nat) (flow : Nat) (data : List Nat) (desc : Option Nat) (hk : d.Same gm gf ge gs gn gt r₀) :
    (Dev.sendToken d dest cls kind flow data desc).Same gm gf ge gs gn gt r₀ := by
  unfold Dev.sendToken
  repeat' first | (with_reducible first | assumption | intro _ | apply Dev.sendControl_same | apply Dev.useToken_same | apply Dev.enqueueOwn_same | apply Dev.pump_same | apply Dev.Same.both | refine ite_same ?_ ?_) | split | (unfold Dev.Same; dsimp only [partOf_false]) | dsimp only

theorem Dev.useTokens_same {d : Dev} (dest : Nat) (cls : Nat) (hk : d.Same gm gf ge gs gn gt r₀) :
    (Dev.useTokens d dest cls).Same gm gf ge gs gn gt r₀ := by
  unfold Dev.useTokens
  repeat' first | (with_reducible first | assumption | intro _ | apply Dev.sendControl_same | apply Dev.useToken_same | apply Dev.enqueueOwn_same | apply Dev.pump_same | apply Dev.Same.both | refine ite_same ?_ ?_ | refine foldl_same (fun _ _ _ => ?_) ?_ _ | refine foldl_snd2_same (fun _ _ _ => ?_) ?_ _ | refine foldl_snd_same (fun _ _ _ => ?_) ?_ _ | refine foldl_fst_same (fun _ _ _ => ?_) ?_ _) | split | (unfold Dev.Same; dsimp only [partOf_false]) | dsimp only

theorem Dev.rringFault_same {d : Dev} (ring : Nat) (cause : Nat) (hk : d.Same gm gf ge gs gn gt r₀) :
    (Dev.rringFault d ring cause).Same gm gf ge gs gn gt r₀ := by
  unfold Dev.rringFault
  repeat' first | (with_reducible first | assumption | apply Dev.raise_same | apply Dev.Same.both) | (unfold Dev.Same; dsimp only [partOf_false]) | dsimp only

theorem Dev.remoteWrite_same {d : Dev} (ring : Nat) (off : Nat) (bytes : List Nat) (hk : d.Same gm gf ge gs gn gt r₀) :
    (Dev.remoteWrite d ring off bytes).Same gm gf ge gs gn gt r₀ := by
  unfold Dev.remoteWrite
  repeat' first | (with_reducible first | assumption | intro _ | apply Dev.rringFault_same | apply Dev.sendToken_same | apply Dev.Same.both | refine ite_same ?_ ?_ | refine foldl_same (fun _ _ _ => ?_) ?_ _ | refine foldl_snd2_same (fun _ _ _ => ?_) ?_ _ | refine foldl_snd_same (fun _ _ _ => ?_) ?_ _ | refine foldl_fst_same (fun _ _ _ => ?_) ?_ _) | split | (unfold Dev.Same; dsimp only [partOf_false]) | dsimp only

theorem Dev.remoteBell_same {d : Dev} (code : Nat) (tail : Nat) (hk : d.Same gm gf ge gs gn gt r₀) :
    (Dev.remoteBell d code tail).Same gm gf ge gs gn gt r₀ := by
  unfold Dev.remoteBell
  repeat' first | (with_reducible first | assumption | apply Dev.sendToken_same | apply Dev.Same.both) | (unfold Dev.Same; dsimp only [partOf_false]) | dsimp only

theorem Dev.readHeads_same {d : Dev} (hk : d.Same gm gf ge gs gn gt r₀) :
    (Dev.readHeads d).Same gm gf ge gs gn gt r₀ := by
  unfold Dev.readHeads
  repeat' first | (with_reducible first | assumption | intro _ | apply Dev.sendToken_same | apply Dev.Same.both | refine ite_same ?_ ?_ | refine foldl_same (fun _ _ _ => ?_) ?_ _ | refine foldl_snd2_same (fun _ _ _ => ?_) ?_ _ | refine foldl_snd_same (fun _ _ _ => ?_) ?_ _ | refine foldl_fst_same (fun _ _ _ => ?_) ?_ _) | split | (unfold Dev.Same; dsimp only [partOf_false]) | dsimp only

theorem Dev.remoteTrace_same {d : Dev} (t : Nat) (unit : List Nat) (hk : d.Same gm gf ge gs gn gt r₀) :
    (Dev.remoteTrace d t unit).Same gm gf ge gs gn gt r₀ := by
  unfold Dev.remoteTrace
  repeat' first | (with_reducible first | assumption | apply Dev.sendToken_same | apply Dev.Same.both) | (unfold Dev.Same; dsimp only [partOf_false]) | dsimp only

theorem Dev.placeTack_same {d : Dev} (st : Stitch) (inPort : Option Nat) (hk : d.Same gm gf ge gs gn gt r₀) :
    (Dev.placeTack d st inPort).Same gm gf ge gs gn gt r₀ := by
  unfold Dev.placeTack
  repeat' first | (with_reducible first | assumption | apply Dev.enqueue_same | apply Dev.lateTack_same | apply Dev.Same.both) | split | (unfold Dev.Same; dsimp only [partOf_false]) | dsimp only

theorem Dev.rerouteOne_same {d : Dev} (n : Nat) (revert : Option Nat) (hk : d.Same gm gf ge gs gn gt r₀) :
    (Dev.rerouteOne d n revert).2.Same gm gf ge gs gn gt r₀ := by
  unfold Dev.rerouteOne
  repeat' first | (with_reducible first | assumption | apply Dev.put_same | apply Dev.Same.both | refine ite_same ?_ ?_) | split | (unfold Dev.Same; dsimp only [partOf_false]) | dsimp only

theorem Dev.rerouteOne_same_of {d : Dev} {n : Nat} {revert : Option Nat} {r0 : Nat} {e0 : Dev} (hk : d.Same gm gf ge gs gn gt r₀) (eq : (Dev.rerouteOne d n revert) = (r0, e0)) : e0.Same gm gf ge gs gn gt r₀ := by
  have k := @Dev.rerouteOne_same; grind

theorem Dev.raiseReroute_same {d : Dev} (p : Nat) (dir : Nat) (used : List Nat) (lost : Nat) (hk : d.Same gm gf ge gs gn gt r₀) :
    (Dev.raiseReroute d p dir used lost).Same gm gf ge gs gn gt r₀ := by
  unfold Dev.raiseReroute
  repeat' first | (with_reducible first | assumption | apply Dev.raise_same | apply Dev.Same.both | refine ite_same ?_ ?_) | split | (unfold Dev.Same; dsimp only [partOf_false]) | dsimp only

theorem Dev.followHops_same {d : Dev} (hk : d.Same gm gf ge gs gn gt r₀) :
    (Dev.followHops d).Same gm gf ge gs gn gt r₀ := by
  unfold Dev.followHops
  repeat' first | (with_reducible first | assumption | apply Dev.put_same | apply Dev.Same.both | refine ite_same ?_ ?_) | split | (unfold Dev.Same; dsimp only [partOf_false]) | dsimp only

theorem Dev.reroute_same {d : Dev} (revert : Option Nat) (hk : d.Same gm gf ge gs gn gt r₀) :
    (Dev.reroute d revert).Same gm gf ge gs gn gt r₀ := by
  unfold Dev.reroute
  refine Dev.followHops_same (Dev.put_same _ _ _ (Dev.putBit_same _ _ _ (foldl_same (fun y a hy => ?_) (foldl_snd_same (fun y a hy => ?_) hk _) _)))
  · exact Dev.raiseReroute_same _ _ _ _ (Dev.raiseReroute_same _ _ _ _ hy)
  · have k := Dev.rerouteOne_same a revert hy
    dsimp only
    split
    · exact k
    · exact k

theorem Dev.auditPair_same {d : Dev} (n : Nat) (c : Nat) (hk : d.Same gm gf ge gs gn gt r₀) :
    (Dev.auditPair d n c).Same gm gf ge gs gn gt r₀ := by
  unfold Dev.auditPair
  repeat' first | (with_reducible first | assumption | apply Dev.sendControl_same | apply Dev.Same.both) | (unfold Dev.Same; dsimp only [partOf_false]) | dsimp only

theorem Dev.auditReached_same {d : Dev} (hk : d.Same gm gf ge gs gn gt r₀) :
    (Dev.auditReached d).Same gm gf ge gs gn gt r₀ := by
  unfold Dev.auditReached
  repeat' first | (with_reducible first | assumption | intro _ | apply Dev.auditPair_same | apply Dev.Same.both | refine foldl_same (fun _ _ _ => ?_) ?_ _ | refine foldl_snd2_same (fun _ _ _ => ?_) ?_ _ | refine foldl_snd_same (fun _ _ _ => ?_) ?_ _ | refine foldl_fst_same (fun _ _ _ => ?_) ?_ _) | (unfold Dev.Same; dsimp only [partOf_false]) | dsimp only

theorem Dev.moveStitches_same {d : Dev} (p : Nat) (hk : d.Same gm gf ge gs gn gt r₀) :
    (Dev.moveStitches d p).Same gm gf ge gs gn gt r₀ := by
  unfold Dev.moveStitches
  repeat' first | (with_reducible first | assumption | intro _ | apply Dev.placeTack_same | apply Dev.readRetries_same | apply Dev.setPort_same | apply Dev.Same.both | refine foldl_same (fun _ _ _ => ?_) ?_ _ | refine foldl_snd2_same (fun _ _ _ => ?_) ?_ _ | refine foldl_snd_same (fun _ _ _ => ?_) ?_ _ | refine foldl_fst_same (fun _ _ _ => ?_) ?_ _) | (unfold Dev.Same; dsimp only [partOf_false]) | dsimp only

theorem Dev.endPortAudits_same {d : Dev} (p : Nat) (hk : d.Same gm gf ge gs gn gt r₀) :
    (Dev.endPortAudits d p).Same gm gf ge gs gn gt r₀ := by
  unfold Dev.endPortAudits
  repeat' first | (with_reducible first | assumption | intro _ | apply Dev.Same.both | refine ite_same ?_ ?_) | split | (unfold Dev.Same; dsimp only [partOf_false]) | dsimp only

theorem Dev.endAudits_same {d : Dev} (hk : d.Same false gf false gs gn gt r₀) :
    (Dev.endAudits d).Same false gf false gs gn gt r₀ := by
  unfold Dev.endAudits
  repeat' first | (with_reducible first | assumption | intro _ | apply Dev.done_same | apply Dev.Same.both (gm := false) (ge := false) | refine foldl_same (fun _ _ _ => ?_) ?_ _ | refine foldl_snd2_same (fun _ _ _ => ?_) ?_ _ | refine foldl_snd_same (fun _ _ _ => ?_) ?_ _ | refine foldl_fst_same (fun _ _ _ => ?_) ?_ _) | (unfold Dev.Same; dsimp only [partOf_false]) | dsimp only

theorem Dev.leaveUp_same {d : Dev} (p : Nat) (st : Nat) (cause : Nat) (hk : d.Same false gf false gs gn gt r₀) :
    (Dev.leaveUp d p st cause).Same false gf false gs gn gt r₀ := by
  unfold Dev.leaveUp
  repeat' first | (with_reducible first | assumption | apply Dev.endAudits_same | apply Dev.endPortAudits_same | apply Dev.moveStitches_same | apply Dev.reroute_same | apply Dev.pump_same | apply Dev.setPortState_same | apply Dev.setPort_same | apply Dev.recovered_same | apply Dev.raise_same | apply Dev.emit_same | apply Dev.bump_same | apply Dev.put_same | apply Dev.Same.both (gm := false) (ge := false) | refine ite_same ?_ ?_) | split | (unfold Dev.Same; dsimp only [partOf_false]) | dsimp only

theorem Dev.linkDown_same {d : Dev} (p : Nat) (cause : Nat) (hk : d.Same false gf false gs gn gt r₀) :
    (Dev.linkDown d p cause).Same false gf false gs gn gt r₀ := by
  unfold Dev.linkDown
  repeat' first | (with_reducible first | assumption | apply Dev.leaveUp_same | apply Dev.Same.both (gm := false) (ge := false)) | (unfold Dev.Same; dsimp only [partOf_false]) | dsimp only

theorem Dev.enterTraining_same {d : Dev} (p : Nat) (hk : d.Same gm gf ge gs gn gt r₀) :
    (Dev.enterTraining d p).Same gm gf ge gs gn gt r₀ := by
  unfold Dev.enterTraining
  repeat' first | (with_reducible first | assumption | apply Dev.setPortState_same | apply Dev.setPort_same | apply Dev.put_same | apply Dev.Same.both) | (unfold Dev.Same; dsimp only [partOf_false]) | dsimp only

theorem Dev.linkError_same {d : Dev} (p : Nat) (ns : Nat) (hk : d.Same false gf false gs gn gt r₀) :
    (Dev.linkError d p ns).Same false gf false gs gn gt r₀ := by
  unfold Dev.linkError
  repeat' first | (with_reducible first | assumption | intro _ | apply Dev.linkDown_same | apply Dev.setPort_same | apply Dev.Same.both (gm := false) (ge := false) | refine ite_same ?_ ?_) | split | (unfold Dev.Same; dsimp only [partOf_false]) | dsimp only

/-! ### HostRings -/

theorem Dev.ringWrite_same {d : Dev} (r : Nat) (addr : Nat) (bytes : List Nat) (hk : d.Same gm gf ge gs gn gt r₀) :
    (Dev.ringWrite d r addr bytes).Same gm gf ge gs gn gt r₀ := by
  unfold Dev.ringWrite
  repeat' first | (with_reducible first | assumption | apply Dev.remoteWrite_same | apply Dev.emit_same | apply Dev.Same.both | refine ite_same ?_ ?_) | split | (unfold Dev.Same; dsimp only [partOf_false]) | dsimp only

theorem Dev.bufWrite_same {d : Dev} (addr : Nat) (bytes : List Nat) (hk : d.Same gm gf ge gs gn gt r₀) :
    (Dev.bufWrite d addr bytes).Same gm gf ge gs gn gt r₀ := by
  unfold Dev.bufWrite
  repeat' first | (with_reducible first | assumption | apply Dev.remoteWrite_same | apply Dev.emit_same | apply Dev.Same.both | refine ite_same ?_ ?_) | split | (unfold Dev.Same; dsimp only [partOf_false]) | dsimp only

theorem Dev.signal_same {d : Dev} (v : Nat) (hk : d.Same gm gf ge gs gn gt r₀) :
    (Dev.signal d v).Same gm gf ge gs gn gt r₀ := by
  unfold Dev.signal
  repeat' first | (with_reducible first | assumption | apply Dev.emit_same | apply Dev.put_same | apply Dev.Same.both | refine ite_same ?_ ?_) | split | (unfold Dev.Same; dsimp only [partOf_false]) | dsimp only

theorem Dev.ringSignal_same {d : Dev} (r : Nat) (vector : Nat) (irqEn : Bool) (holdoff : Nat) (hk : d.Same gm gf ge gs gn gt r₀) :
    (Dev.ringSignal d r vector irqEn holdoff).Same gm gf ge gs gn gt r₀ := by
  unfold Dev.ringSignal
  repeat' first | (with_reducible first | assumption | apply Dev.signal_same | apply Dev.Same.both | refine ite_same ?_ ?_) | split | (unfold Dev.Same; dsimp only [partOf_false]) | dsimp only

theorem Dev.endFetched_same {d : Dev} (q : Nat) (st : Status) (hk : d.Same gm gf ge gs gn gt r₀) :
    (Dev.endFetched d q st).Same gm gf ge gs gn gt r₀ := by
  unfold Dev.endFetched
  repeat' first | (with_reducible first | assumption | intro _ | apply Dev.fail_same | apply Dev.Same.both | refine foldl_same (fun _ _ _ => ?_) ?_ _ | refine foldl_snd2_same (fun _ _ _ => ?_) ?_ _ | refine foldl_snd_same (fun _ _ _ => ?_) ?_ _ | refine foldl_fst_same (fun _ _ _ => ?_) ?_ _) | (unfold Dev.Same; dsimp only [partOf_false]) | dsimp only

theorem Dev.ringFault_same {d : Dev} (q : Nat) (cause : Nat) (v : Nat) (hk : d.Same gm gf ge gs gn gt r₀) :
    (Dev.ringFault d q cause v).Same gm gf ge gs gn gt r₀ := by
  unfold Dev.ringFault
  repeat' first | (with_reducible first | assumption | apply Dev.endFetched_same | apply Dev.raise_same | apply Dev.put_same | apply Dev.Same.both | refine ite_same ?_ ?_) | split | (unfold Dev.Same; dsimp only [partOf_false]) | dsimp only

theorem Dev.actDesc_same {d : Dev} (id : Nat) (x : Sys2Proof.Desc) (named : List (Nat × Nat)) (body : Nat → Sys2Proof.Desc → Dev → Dev) (hk : d.Same gm gf ge gs gn gt r₀) (hfbody : ∀ (x0 : Nat) (x1 : Sys2Proof.Desc) (x2 : Dev), x2.Same gm gf ge gs gn gt r₀ → (body x0 x1 x2).Same gm gf ge gs gn gt r₀) :
    (Dev.actDesc d id x named body).Same gm gf ge gs gn gt r₀ := by
  unfold Dev.actDesc
  repeat' first | (with_reducible first | assumption | intro _ | apply Dev.fail_same | apply Dev.setRec_same | apply hfbody | apply Dev.Same.both | refine ite_same ?_ ?_) | split | (unfold Dev.Same; dsimp only [partOf_false]) | dsimp only

theorem Dev.takeDesc_same {d : Dev} (q : Nat) (x : Sys2Proof.Desc) (hk : d.Same gm gf ge gs gn gt r₀) :
    (Dev.takeDesc d q x).Same gm gf ge gs gn gt r₀ := by
  unfold Dev.takeDesc
  repeat' first | (with_reducible first | assumption | apply Dev.Same.both) | (unfold Dev.Same; dsimp only [partOf_false]) | dsimp only

theorem Dev.submit_same {d : Dev} (q : Nat) (x : Sys2Proof.Desc) (op : Nat) (named : List (Nat × Nat)) (body : Nat → Sys2Proof.Desc → Dev → Dev) (hk : d.Same gm gf ge gs gn gt r₀) (hfbody : ∀ (x0 : Nat) (x1 : Sys2Proof.Desc) (x2 : Dev), x2.Same gm gf ge gs gn gt r₀ → (body x0 x1 x2).Same gm gf ge gs gn gt r₀) :
    (Dev.submit d q x op named body).Same gm gf ge gs gn gt r₀ := by
  unfold Dev.submit
  repeat' first | (with_reducible first | assumption | intro _ | apply Dev.takeDesc_same | apply Dev.actDesc_same | apply Dev.fail_same | apply hfbody | apply Dev.Same.both | refine ite_same ?_ ?_) | split | (unfold Dev.Same; dsimp only [partOf_false]) | dsimp only

theorem Dev.abortDesc_same {d : Dev} (id : Nat) (ring : Nat) (tag : Nat) (ops : List Nat) (settle : Nat → Rec → Dev → Dev) (hk : d.Same gm gf ge gs gn gt r₀) (hfsettle : ∀ (x0 : Nat) (x1 : Rec) (x2 : Dev), x2.Same gm gf ge gs gn gt r₀ → (settle x0 x1 x2).Same gm gf ge gs gn gt r₀) :
    (Dev.abortDesc d id ring tag ops settle).Same gm gf ge gs gn gt r₀ := by
  unfold Dev.abortDesc
  repeat' first | (with_reducible first | assumption | intro _ | apply Dev.done_same | apply Dev.fail_same | apply hfsettle | apply Dev.Same.both | refine ite_same ?_ ?_) | split | (unfold Dev.Same; dsimp only [partOf_false]) | dsimp only

theorem bodyNop_same (id : Nat) (a1 : Sys2Proof.Desc) {d : Dev} (hk : d.Same gm gf ge gs gn gt r₀) :
    (bodyNop id a1 d).Same gm gf ge gs gn gt r₀ := by
  unfold bodyNop
  repeat' first | (with_reducible first | assumption | apply Dev.done_same | apply Dev.Same.both) | (unfold Dev.Same; dsimp only [partOf_false]) | dsimp only

theorem Dev.writeCompletion_same {d : Dev} (c : Nat) (hk : d.Same gm gf ge gs gn gt r₀) :
    (Dev.writeCompletion d c).Same gm gf ge gs gn gt r₀ := by
  unfold Dev.writeCompletion
  repeat' first | (with_reducible first | assumption | intro _ | apply Dev.endFetched_same | apply Dev.ringSignal_same | apply Dev.ringWrite_same | apply Dev.readHeads_same | apply Dev.remoteBell_same | apply Dev.put_same | apply Dev.Same.both | refine ite_same ?_ ?_) | split | (unfold Dev.Same; dsimp only [partOf_false]) | dsimp only

theorem Dev.putEvent_same {d : Dev} (e : Event) (hk : d.Same gm gf ge gs gn gt r₀) :
    (Dev.putEvent d e).Same gm gf ge gs gn gt r₀ := by
  unfold Dev.putEvent
  repeat' first | (with_reducible first | assumption | apply Dev.ringSignal_same | apply Dev.ringWrite_same | apply Dev.remoteBell_same | apply Dev.put_same | apply Dev.Same.both | refine ite_same ?_ ?_) | split | (unfold Dev.Same; dsimp only [partOf_false]) | dsimp only

theorem Dev.writeEvent_same {d : Dev} (hk : d.Same gm gf ge gs gn gt r₀) :
    (Dev.writeEvent d).Same gm gf ge gs gn gt r₀ := by
  unfold Dev.writeEvent
  repeat' first | (with_reducible first | assumption | apply Dev.putEvent_same | apply Dev.Same.both | refine ite_same ?_ ?_) | split | (unfold Dev.Same; dsimp only [partOf_false]) | dsimp only

theorem Dev.postHost_same {d : Dev} (p : Posted) (hk : d.Same gm gf ge gs gn gt r₀) :
    (Dev.postHost d p).Same gm gf ge gs gn gt r₀ := by
  unfold Dev.postHost
  repeat' first | (with_reducible first | assumption | apply Dev.Same.both | refine ite_same ?_ ?_) | split | (unfold Dev.Same; dsimp only [partOf_false]) | dsimp only

theorem Dev.latchBell_same {d : Dev} (off : Nat) (v : Nat) (hk : d.Same gm gf ge gs gn gt r₀) :
    (Dev.latchBell d off v).Same gm gf ge gs gn gt r₀ := by
  unfold Dev.latchBell
  repeat' first | (with_reducible first | assumption | apply Dev.Same.both) | (unfold Dev.Same; dsimp only [partOf_false]) | dsimp only

theorem Dev.ringTail_same {d : Dev} (q : Nat) (v : Nat) (hk : d.Same gm gf ge gs gn gt r₀) :
    (Dev.ringTail d q v).Same gm gf ge gs gn gt r₀ := by
  unfold Dev.ringTail
  repeat' first | (with_reducible first | assumption | apply Dev.ringFault_same | apply Dev.put_same | apply Dev.Same.both | refine ite_same ?_ ?_) | split | (unfold Dev.Same; dsimp only [partOf_false]) | dsimp only

theorem Dev.badHead_same {d : Dev} (r : Nat) (v : Nat) (hk : d.Same gm gf ge gs gn gt r₀) :
    (Dev.badHead d r v).Same gm gf ge gs gn gt r₀ := by
  unfold Dev.badHead
  repeat' first | (with_reducible first | assumption | apply Dev.raise_same | apply Dev.Same.both) | (unfold Dev.Same; dsimp only [partOf_false]) | dsimp only

theorem Dev.cqHead_same {d : Dev} (c : Nat) (v : Nat) (hk : d.Same gm gf ge gs gn gt r₀) :
    (Dev.cqHead d c v).Same gm gf ge gs gn gt r₀ := by
  unfold Dev.cqHead
  repeat' first | (with_reducible first | assumption | apply Dev.badHead_same | apply Dev.put_same | apply Dev.Same.both | refine ite_same ?_ ?_) | split | (unfold Dev.Same; dsimp only [partOf_false]) | dsimp only

theorem Dev.eqHead_same {d : Dev} (v : Nat) (hk : d.Same gm gf ge gs gn gt r₀) :
    (Dev.eqHead d v).Same gm gf ge gs gn gt r₀ := by
  unfold Dev.eqHead
  repeat' first | (with_reducible first | assumption | apply Dev.badHead_same | apply Dev.put_same | apply Dev.Same.both | refine ite_same ?_ ?_) | split | (unfold Dev.Same; dsimp only [partOf_false]) | dsimp only

theorem Dev.tqHead_same {d : Dev} (t : Nat) (v : Nat) (hk : d.Same gm gf ge gs gn gt r₀) :
    (Dev.tqHead d t v).Same gm gf ge gs gn gt r₀ := by
  unfold Dev.tqHead
  repeat' first | (with_reducible first | assumption | apply Dev.badHead_same | apply Dev.put_same | apply Dev.Same.both | refine ite_same ?_ ?_) | split | (unfold Dev.Same; dsimp only [partOf_false]) | dsimp only

theorem Dev.heartbeat_same {d : Dev} (hk : d.Same gm gf ge gs gn gt r₀) :
    (Dev.heartbeat d).Same gm gf ge gs gn gt r₀ := by
  unfold Dev.heartbeat
  repeat' first | (with_reducible first | assumption | apply Dev.raise_same | apply Dev.put_same | apply Dev.Same.both | refine ite_same ?_ ?_) | split | (unfold Dev.Same; dsimp only [partOf_false]) | dsimp only

theorem Dev.bell_same {d : Dev} (off : Nat) (v : Nat) (hk : d.Same gm gf ge gs gn gt r₀) :
    (Dev.bell d off v).Same gm gf ge gs gn gt r₀ := by
  unfold Dev.bell
  repeat' first | (with_reducible first | assumption | apply Dev.heartbeat_same | apply Dev.tqHead_same | apply Dev.eqHead_same | apply Dev.cqHead_same | apply Dev.ringTail_same | apply Dev.Same.both | refine ite_same ?_ ?_) | split | (unfold Dev.Same; dsimp only [partOf_false]) | dsimp only

theorem Dev.hostBell_same {d : Dev} (off : Nat) (v : Nat) (act : Dev → Dev) (hk : d.Same gm gf ge gs gn gt r₀) (hfact : ∀ (x0 : Dev), x0.Same gm gf ge gs gn gt r₀ → (act x0).Same gm gf ge gs gn gt r₀) :
    (Dev.hostBell d off v act).Same gm gf ge gs gn gt r₀ := by
  unfold Dev.hostBell
  repeat' first | (with_reducible first | assumption | intro _ | apply Dev.latchBell_same | apply hfact | apply Dev.Same.both | refine ite_same ?_ ?_) | split | (unfold Dev.Same; dsimp only [partOf_false]) | dsimp only

theorem Dev.hostqReject_same {d : Dev} (hk : d.Same gm gf ge gs gn gt r₀) :
    (Dev.hostqReject d).Same gm gf ge gs gn gt r₀ := by
  unfold Dev.hostqReject
  repeat' first | (with_reducible first | assumption | apply Dev.put_same | apply Dev.Same.both) | (unfold Dev.Same; dsimp only [partOf_false]) | dsimp only

theorem Dev.ringEnable_same {d : Dev} (r : Nat) (hk : d.Same gm gf ge gs gn gt r₀) :
    (Dev.ringEnable d r).Same gm gf ge gs gn gt r₀ := by
  unfold Dev.ringEnable
  repeat' first | (with_reducible first | assumption | apply Dev.hostqReject_same | apply Dev.put_same | apply Dev.Same.both | refine ite_same ?_ ?_) | split | (unfold Dev.Same; dsimp only [partOf_false]) | dsimp only

theorem Dev.ringDisable_same {d : Dev} (r : Nat) (hk : d.Same gm gf ge gs gn gt r₀) :
    (Dev.ringDisable d r).Same gm gf ge gs gn gt r₀ := by
  unfold Dev.ringDisable
  repeat' first | (with_reducible first | assumption | apply Dev.hostqReject_same | apply Dev.endFetched_same | apply Dev.put_same | apply Dev.Same.both | refine ite_same ?_ ?_) | split | (unfold Dev.Same; dsimp only [partOf_false]) | dsimp only

theorem Dev.fenceClear_same {d : Dev} (q : Nat) (hk : d.Same gm gf ge gs gn gt r₀) :
    (Dev.fenceClear d q).Same gm gf ge gs gn gt r₀ := by
  unfold Dev.fenceClear
  repeat' first | (with_reducible first | assumption | apply Dev.put_same | apply Dev.Same.both) | (unfold Dev.Same; dsimp only [partOf_false]) | dsimp only

theorem Dev.hostReg_same {d : Dev} (off : Nat) (v : Nat) (act : Dev → Dev) (hk : d.Same gm gf ge gs gn gt r₀) (hfact : ∀ (x0 : Dev), x0.Same gm gf ge gs gn gt r₀ → (act x0).Same gm gf ge gs gn gt r₀) :
    (Dev.hostReg d off v act).Same gm gf ge gs gn gt r₀ := by
  unfold Dev.hostReg
  repeat' first | (with_reducible first | assumption | intro _ | apply Dev.postHost_same | apply hfact | apply Dev.Same.both | refine ite_same ?_ ?_) | split | (unfold Dev.Same; dsimp only [partOf_false]) | dsimp only

theorem Dev.writeWdog_same {d : Dev} (v : Nat) (hk : d.Same gm gf ge gs gn gt r₀) :
    (Dev.writeWdog d v).Same gm gf ge gs gn gt r₀ := by
  unfold Dev.writeWdog
  repeat' first | (with_reducible first | assumption | apply Dev.hostqReject_same | apply Dev.put_same | apply Dev.Same.both | refine ite_same ?_ ?_) | split | (unfold Dev.Same; dsimp only [partOf_false]) | dsimp only

theorem Dev.enterLost_same {d : Dev} (cause : Nat) (hk : d.Same gm gf ge gs gn gt r₀) :
    (Dev.enterLost d cause).Same gm gf ge gs gn gt r₀ := by
  unfold Dev.enterLost
  repeat' first | (with_reducible first | assumption | apply Dev.raise_same | apply Dev.put_same | apply Dev.Same.both | refine ite_same ?_ ?_) | split | (unfold Dev.Same; dsimp only [partOf_false]) | dsimp only

theorem Dev.clearRings_same {d : Dev} (hk : d.Same gm gf ge gs gn gt r₀) :
    (Dev.clearRings d).Same gm gf ge gs gn gt r₀ := by
  unfold Dev.clearRings
  repeat' first | (with_reducible first | assumption | intro _ | apply Dev.bump_same | apply Dev.put_same | apply Dev.Same.both | refine ite_same ?_ ?_ | refine foldl_same (fun _ _ _ => ?_) ?_ _ | refine foldl_snd2_same (fun _ _ _ => ?_) ?_ _ | refine foldl_snd_same (fun _ _ _ => ?_) ?_ _ | refine foldl_fst_same (fun _ _ _ => ?_) ?_ _) | split | (unfold Dev.Same; dsimp only [partOf_false]) | dsimp only

theorem Dev.pcieReset_same {d : Dev} (cause : Nat) (hk : d.Same gm gf ge gs gn gt r₀) :
    (Dev.pcieReset d cause).Same gm gf ge gs gn gt r₀ := by
  unfold Dev.pcieReset
  repeat' first | (with_reducible first | assumption | apply Dev.clearRings_same | apply Dev.enterLost_same | apply Dev.Same.both | refine ite_same ?_ ?_) | split | (unfold Dev.Same; dsimp only [partOf_false]) | dsimp only

theorem Dev.pcieDown_same {d : Dev} (cause : Nat) (link : Bool) (hk : d.Same gm gf ge gs gn gt r₀) :
    (Dev.pcieDown d cause link).Same gm gf ge gs gn gt r₀ := by
  unfold Dev.pcieDown
  repeat' first | (with_reducible first | assumption | apply Dev.pcieReset_same | apply Dev.raise_same | apply Dev.put_same | apply Dev.Same.both | refine ite_same ?_ ?_) | split | (unfold Dev.Same; dsimp only [partOf_false]) | dsimp only

theorem Dev.pcieEvent_same {d : Dev} (cause : Nat) (link : Bool) (hk : d.Same gm gf ge gs gn gt r₀) :
    (Dev.pcieEvent d cause link).Same gm gf ge gs gn gt r₀ := by
  unfold Dev.pcieEvent
  repeat' first | (with_reducible first | assumption | apply Dev.pcieDown_same | apply Dev.Same.both | refine ite_same ?_ ?_) | split | (unfold Dev.Same; dsimp only [partOf_false]) | dsimp only

theorem Dev.pcieUp_same {d : Dev} (speed : Nat) (width : Nat) (hk : d.Same gm gf ge gs gn gt r₀) :
    (Dev.pcieUp d speed width).Same gm gf ge gs gn gt r₀ := by
  unfold Dev.pcieUp
  repeat' first | (with_reducible first | assumption | apply Dev.raise_same | apply Dev.put_same | apply Dev.Same.both) | (unfold Dev.Same; dsimp only [partOf_false]) | dsimp only

/-! ### Bus -/

theorem Dev.setBus_same {d : Dev} (n : Nat) (x : BusSt) (hk : d.Same gm gf ge false gn gt r₀) :
    (Dev.setBus d n x).Same gm gf ge false gn gt r₀ := by
  unfold Dev.setBus
  repeat' first | (with_reducible first | assumption | apply Dev.putBit_same | apply Dev.put_same | apply Dev.Same.both (gs := false) | refine ite_same ?_ ?_) | split | (unfold Dev.Same; dsimp only [partOf_false]) | dsimp only

theorem Dev.busMark_same {d : Dev} (n : Nat) (hk : d.Same gm gf ge false gn gt r₀) :
    (Dev.busMark d n).Same gm gf ge false gn gt r₀ := by
  unfold Dev.busMark
  repeat' first | (with_reducible first | assumption | apply Dev.setBus_same | apply Dev.Same.both (gs := false)) | (unfold Dev.Same; dsimp only [partOf_false]) | dsimp only

theorem Dev.busReject_same {d : Dev} (n : Nat) (hk : d.Same gm gf ge gs gn gt r₀) :
    (Dev.busReject d n).Same gm gf ge gs gn gt r₀ := by
  unfold Dev.busReject
  repeat' first | (with_reducible first | assumption | apply Dev.put_same | apply Dev.Same.both | refine ite_same ?_ ?_) | split | (unfold Dev.Same; dsimp only [partOf_false]) | dsimp only

theorem Dev.busCrc_same {d : Dev} (n : Nat) (hk : d.Same gm gf ge gs gn gt r₀) :
    (Dev.busCrc d n).Same gm gf ge gs gn gt r₀ := by
  unfold Dev.busCrc
  repeat' first | (with_reducible first | assumption | apply Dev.bump_same | apply Dev.Same.both | refine ite_same ?_ ?_) | split | (unfold Dev.Same; dsimp only [partOf_false]) | dsimp only

theorem Dev.busFraming_same {d : Dev} (n : Nat) (hk : d.Same gm gf ge gs gn gt r₀) :
    (Dev.busFraming d n).Same gm gf ge gs gn gt r₀ := by
  unfold Dev.busFraming
  repeat' first | (with_reducible first | assumption | apply Dev.bump_same | apply Dev.Same.both | refine ite_same ?_ ?_) | split | (unfold Dev.Same; dsimp only [partOf_false]) | dsimp only

theorem Dev.busTimeout_same {d : Dev} (n : Nat) (hk : d.Same gm gf ge gs gn gt r₀) :
    (Dev.busTimeout d n).Same gm gf ge gs gn gt r₀ := by
  unfold Dev.busTimeout
  repeat' first | (with_reducible first | assumption | apply Dev.bump_same | apply Dev.Same.both | refine ite_same ?_ ?_) | split | (unfold Dev.Same; dsimp only [partOf_false]) | dsimp only

theorem Dev.busDropped_same {d : Dev} (n : Nat) (hk : d.Same gm gf ge gs gn gt r₀) :
    (Dev.busDropped d n).Same gm gf ge gs gn gt r₀ := by
  unfold Dev.busDropped
  repeat' first | (with_reducible first | assumption | apply Dev.raiseLimited_same | apply Dev.bump_same | apply Dev.Same.both | refine ite_same ?_ ?_) | split | (unfold Dev.Same; dsimp only [partOf_false]) | dsimp only

theorem Dev.fillRecv_same {d : Dev} (id : Nat) (f : BusFrame) (hk : d.Same gm gf ge gs gn gt r₀) :
    (Dev.fillRecv d id f).Same gm gf ge gs gn gt r₀ := by
  unfold Dev.fillRecv
  repeat' first | (with_reducible first | assumption | apply Dev.bufWrite_same | apply Dev.done_same | apply Dev.Same.both | refine ite_same ?_ ?_) | split | (unfold Dev.Same; dsimp only [partOf_false]) | dsimp only

theorem Dev.busDeliver_same {d : Dev} (n : Nat) (f : BusFrame) (hk : d.Same gm gf ge false gn gt r₀) :
    (Dev.busDeliver d n f).Same gm gf ge false gn gt r₀ := by
  unfold Dev.busDeliver
  repeat' first | (with_reducible first | assumption | apply Dev.fillRecv_same | apply Dev.busDropped_same | apply Dev.setBus_same | apply Dev.Same.both (gs := false) | refine ite_same ?_ ?_) | split | (unfold Dev.Same; dsimp only [partOf_false]) | dsimp only

theorem bodyBusRecv_same (id : Nat) (x : Sys2Proof.Desc) {d : Dev} (hk : d.Same gm gf ge false gn gt r₀) :
    (bodyBusRecv id x d).Same gm gf ge false gn gt r₀ := by
  unfold bodyBusRecv
  repeat' first | (with_reducible first | assumption | apply Dev.fillRecv_same | apply Dev.setBus_same | apply Dev.fail_same | apply Dev.Same.both (gs := false) | refine ite_same ?_ ?_) | split | (unfold Dev.Same; dsimp only [partOf_false]) | dsimp only

theorem Dev.busEmit_same {d : Dev} (n : Nat) (bytes : List Nat) (hk : d.Same gm gf ge false gn gt r₀) :
    (Dev.busEmit d n bytes).Same gm gf ge false gn gt r₀ := by
  unfold Dev.busEmit
  repeat' first | (with_reducible first | assumption | apply Dev.busMark_same | apply Dev.emit_same | apply Dev.Same.both (gs := false) | refine ite_same ?_ ?_) | split | (unfold Dev.Same; dsimp only [partOf_false]) | dsimp only

theorem Dev.dropSend_same {d : Dev} (n : Nat) (id : Nat) (hk : d.Same gm gf ge false gn gt r₀) :
    (Dev.dropSend d n id).Same gm gf ge false gn gt r₀ := by
  unfold Dev.dropSend
  repeat' first | (with_reducible first | assumption | intro _ | apply Dev.setBus_same | apply Dev.Same.both (gs := false)) | (unfold Dev.Same; dsimp only [partOf_false]) | dsimp only

theorem Dev.endSend_same {d : Dev} (n : Nat) (id : Nat) (outcome : Nat) (response : List Nat) (hk : d.Same gm gf ge false gn gt r₀) :
    (Dev.endSend d n id outcome response).Same gm gf ge false gn gt r₀ := by
  unfold Dev.endSend
  repeat' first | (with_reducible first | assumption | apply Dev.dropSend_same | apply Dev.bufWrite_same | apply Dev.done_same | apply Dev.Same.both (gs := false)) | split | (unfold Dev.Same; dsimp only [partOf_false]) | dsimp only

theorem Dev.failSend_same {d : Dev} (n : Nat) (id : Nat) (st : Status) (hk : d.Same gm gf ge false gn gt r₀) :
    (Dev.failSend d n id st).Same gm gf ge false gn gt r₀ := by
  unfold Dev.failSend
  repeat' first | (with_reducible first | assumption | apply Dev.dropSend_same | apply Dev.fail_same | apply Dev.Same.both (gs := false)) | (unfold Dev.Same; dsimp only [partOf_false]) | dsimp only

theorem Dev.mstpEmit_same {d : Dev} (n : Nat) (kind : Nat) (dest : Nat) (data : List Nat) (hk : d.Same gm gf ge false gn gt r₀) :
    (Dev.mstpEmit d n kind dest data).Same gm gf ge false gn gt r₀ := by
  unfold Dev.mstpEmit
  repeat' first | (with_reducible first | assumption | apply Dev.busEmit_same | apply Dev.Same.both (gs := false)) | (unfold Dev.Same; dsimp only [partOf_false]) | dsimp only

theorem Dev.mstpRing_same {d : Dev} (n : Nat) (on : Bool) (hk : d.Same gm gf ge false gn gt r₀) :
    (Dev.mstpRing d n on).Same gm gf ge false gn gt r₀ := by
  unfold Dev.mstpRing
  repeat' first | (with_reducible first | assumption | apply Dev.setBus_same | apply Dev.raise_same | apply Dev.Same.both (gs := false) | refine ite_same ?_ ?_) | split | (unfold Dev.Same; dsimp only [partOf_false]) | dsimp only

theorem Dev.mstpInit_same {d : Dev} (n : Nat) (hk : d.Same gm gf ge false gn gt r₀) :
    (Dev.mstpInit d n).Same gm gf ge false gn gt r₀ := by
  unfold Dev.mstpInit
  repeat' first | (with_reducible first | assumption | apply Dev.setBus_same | apply Dev.put_same | apply Dev.Same.both (gs := false)) | (unfold Dev.Same; dsimp only [partOf_false]) | dsimp only

theorem Dev.passToken_same {d : Dev} (n : Nat) (hk : d.Same gm gf ge false gn gt r₀) :
    (Dev.passToken d n).Same gm gf ge false gn gt r₀ := by
  unfold Dev.passToken
  repeat' first | (with_reducible first | assumption | apply Dev.mstpEmit_same | apply Dev.setBus_same | apply Dev.put_same | apply Dev.Same.both (gs := false)) | (unfold Dev.Same; dsimp only [partOf_false]) | dsimp only

theorem Dev.pollMaster_same {d : Dev} (n : Nat) (a : Nat) (hk : d.Same gm gf ge false gn gt r₀) :
    (Dev.pollMaster d n a).Same gm gf ge false gn gt r₀ := by
  unfold Dev.pollMaster
  repeat' first | (with_reducible first | assumption | apply Dev.mstpEmit_same | apply Dev.setBus_same | apply Dev.Same.both (gs := false)) | (unfold Dev.Same; dsimp only [partOf_false]) | dsimp only

theorem Dev.mstpSend_same {d : Dev} (n : Nat) (id : Nat) (hk : d.Same gm gf ge false gn gt r₀) :
    (Dev.mstpSend d n id).Same gm gf ge false gn gt r₀ := by
  unfold Dev.mstpSend
  repeat' first | (with_reducible first | assumption | intro _ | apply Dev.mstpEmit_same | apply Dev.setBus_same | apply Dev.Same.both (gs := false)) | split | (unfold Dev.Same; dsimp only [partOf_false]) | dsimp only

theorem Dev.mstpUse_same {d : Dev} (n : Nat) (a2 : Nat) (hk : d.Same gm gf ge false gn gt r₀) :
    (Dev.mstpUse d n a2).Same gm gf ge false gn gt r₀ := by
  induction a2 generalizing d with
  | zero => unfold Dev.mstpUse; repeat' first | (with_reducible first | assumption | apply Dev.mstpSend_same | apply Dev.pollMaster_same | apply Dev.passToken_same | apply Dev.setBus_same | apply Dev.put_same | apply Dev.Same.both (gs := false) | refine ite_same ?_ ?_) | split | (unfold Dev.Same; dsimp only [partOf_false]) | dsimp only
  | succ n ih => unfold Dev.mstpUse; repeat' first | with_reducible apply ih | (with_reducible first | assumption | apply Dev.mstpSend_same | apply Dev.pollMaster_same | apply Dev.passToken_same | apply Dev.setBus_same | apply Dev.put_same | apply Dev.Same.both (gs := false) | refine ite_same ?_ ?_) | split | (unfold Dev.Same; dsimp only [partOf_false]) | dsimp only

theorem Dev.mstpToken_same {d : Dev} (n : Nat) (hk : d.Same gm gf ge false gn gt r₀) :
    (Dev.mstpToken d n).Same gm gf ge false gn gt r₀ := by
  unfold Dev.mstpToken
  repeat' first | (with_reducible first | assumption | apply Dev.mstpUse_same | apply Dev.setBus_same | apply Dev.put_same | apply Dev.Same.both (gs := false)) | (unfold Dev.Same; dsimp only [partOf_false]) | dsimp only

theorem Dev.mstpNext_same {d : Dev} (n : Nat) (hk : d.Same gm gf ge false gn gt r₀) :
    (Dev.mstpNext d n).Same gm gf ge false gn gt r₀ := by
  unfold Dev.mstpNext
  repeat' first | (with_reducible first | assumption | apply Dev.mstpUse_same | apply Dev.setBus_same | apply Dev.Same.both (gs := false)) | (unfold Dev.Same; dsimp only [partOf_false]) | dsimp only

theorem Dev.mstpReplied_same {d : Dev} (n : Nat) (act : Dev → Nat → Dev) (hk : d.Same gm gf ge false gn gt r₀) (hfact : ∀ (x0 : Dev) (x1 : Nat), x0.Same gm gf ge false gn gt r₀ → (act x0 x1).Same gm gf ge false gn gt r₀) :
    (Dev.mstpReplied d n act).Same gm gf ge false gn gt r₀ := by
  unfold Dev.mstpReplied
  repeat' first | (with_reducible first | assumption | intro _ | apply Dev.mstpNext_same | apply hfact | apply Dev.Same.both (gs := false)) | split | (unfold Dev.Same; dsimp only [partOf_false]) | dsimp only

theorem Dev.mstpTake_same {d : Dev} (n : Nat) (kind : Nat) (dest : Nat) (src : Nat) (data : List Nat) (hk : d.Same gm gf ge false gn gt r₀) :
    (Dev.mstpTake d n kind dest src data).Same gm gf ge false gn gt r₀ := by
  unfold Dev.mstpTake
  repeat' first | (with_reducible first | assumption | apply Dev.mstpEmit_same | apply Dev.busDeliver_same | apply Dev.busFraming_same | apply Dev.setBus_same | apply Dev.Same.both (gs := false) | refine ite_same ?_ ?_) | split | (unfold Dev.Same; dsimp only [partOf_false]) | dsimp only

theorem Dev.mstpInWait_same {d : Dev} (n : Nat) (kind : Nat) (dest : Nat) (src : Nat) (data : List Nat) (hk : d.Same gm gf ge false gn gt r₀) :
    (Dev.mstpInWait d n kind dest src data).Same gm gf ge false gn gt r₀ := by
  unfold Dev.mstpInWait
  repeat' first | (with_reducible first | assumption | intro _ | apply Dev.mstpTake_same | apply Dev.mstpReplied_same | apply Dev.failSend_same | apply Dev.endSend_same | apply Dev.busTimeout_same | apply Dev.setBus_same | apply Dev.put_same | apply Dev.Same.both (gs := false) | refine ite_same ?_ ?_) | split | (unfold Dev.Same; dsimp only [partOf_false]) | dsimp only

theorem Dev.mbStart_same {d : Dev} (n : Nat) (hk : d.Same gm gf ge false gn gt r₀) :
    (Dev.mbStart d n).Same gm gf ge false gn gt r₀ := by
  unfold Dev.mbStart
  repeat' first | (with_reducible first | assumption | intro _ | apply Dev.busEmit_same | apply Dev.setBus_same | apply Dev.Same.both (gs := false) | refine ite_same ?_ ?_) | split | (unfold Dev.Same; dsimp only [partOf_false]) | dsimp only

theorem Dev.mbEnd_same {d : Dev} (n : Nat) (hk : d.Same gm gf ge false gn gt r₀) :
    (Dev.mbEnd d n).Same gm gf ge false gn gt r₀ := by
  unfold Dev.mbEnd
  repeat' first | (with_reducible first | assumption | apply Dev.mbStart_same | apply Dev.setBus_same | apply Dev.Same.both (gs := false)) | (unfold Dev.Same; dsimp only [partOf_false]) | dsimp only

theorem Dev.writeVar_same {d : Dev} (v : Nat) (w : VW) (hk : d.Same false gf ge gs gn gt r₀) :
    (Dev.writeVar d v w).Same false gf ge gs gn gt r₀ := by
  unfold Dev.writeVar
  repeat' first | (with_reducible first | assumption | apply Dev.saveWrite_same | apply Dev.produce_same | apply Dev.Same.both (gm := false)) | (unfold Dev.Same; dsimp only [partOf_false]) | dsimp only

theorem Dev.mbFault_same {d : Dev} (n : Nat) (i : Nat) (on : Bool) (cause : Nat) (code : Nat) (hk : d.Same gm gf ge false gn gt r₀) :
    (Dev.mbFault d n i on cause code).Same gm gf ge false gn gt r₀ := by
  unfold Dev.mbFault
  repeat' first | (with_reducible first | assumption | intro _ | apply Dev.setBus_same | apply Dev.raiseLimited_same | apply Dev.Same.both (gs := false) | refine ite_same ?_ ?_) | split | (unfold Dev.Same; dsimp only [partOf_false]) | dsimp only

theorem Dev.entryFailed_same {d : Dev} (n : Nat) (i : Nat) (cause : Nat) (hk : d.Same false gf ge false gn gt r₀) :
    (Dev.entryFailed d n i cause).Same false gf ge false gn gt r₀ := by
  unfold Dev.entryFailed
  repeat' first | (with_reducible first | assumption | apply Dev.mbFault_same | apply Dev.writeVar_same | apply Dev.setBus_same | apply Dev.Same.both (gm := false) (gs := false) | refine ite_same ?_ ?_) | split | (unfold Dev.Same; dsimp only [partOf_false]) | dsimp only

theorem Dev.entryFault_same {d : Dev} (n : Nat) (i : Nat) (cause : Nat) (code : Nat) (hk : d.Same false gf ge false gn gt r₀) :
    (Dev.entryFault d n i cause code).Same false gf ge false gn gt r₀ := by
  unfold Dev.entryFault
  repeat' first | (with_reducible first | assumption | apply Dev.mbFault_same | apply Dev.writeVar_same | apply Dev.Same.both (gm := false) (gs := false)) | (unfold Dev.Same; dsimp only [partOf_false]) | dsimp only

theorem Dev.entryResponse_same {d : Dev} (n : Nat) (i : Nat) (bytes : List Nat) (hk : d.Same false gf ge false gn gt r₀) :
    (Dev.entryResponse d n i bytes).Same false gf ge false gn gt r₀ := by
  unfold Dev.entryResponse
  repeat' first | (with_reducible first | assumption | apply Dev.entryFault_same | apply Dev.mbFault_same | apply Dev.writeVar_same | apply Dev.setBus_same | apply Dev.Same.both (gm := false) (gs := false) | refine ite_same ?_ ?_) | split | (unfold Dev.Same; dsimp only [partOf_false]) | dsimp only

theorem Dev.mbFailed_same {d : Dev} (n : Nat) (late : Bool) (hk : d.Same false gf ge false gn gt r₀) :
    (Dev.mbFailed d n late).Same false gf ge false gn gt r₀ := by
  unfold Dev.mbFailed
  repeat' first | (with_reducible first | assumption | apply Dev.entryFailed_same | apply Dev.mbEnd_same | apply Dev.failSend_same | apply Dev.busEmit_same | apply Dev.setBus_same | apply Dev.Same.both (gm := false) (gs := false) | refine ite_same ?_ ?_) | split | (unfold Dev.Same; dsimp only [partOf_false]) | dsimp only

theorem Dev.plainStart_same {d : Dev} (n : Nat) (hk : d.Same gm gf ge false gn gt r₀) :
    (Dev.plainStart d n).Same gm gf ge false gn gt r₀ := by
  unfold Dev.plainStart
  repeat' first | (with_reducible first | assumption | apply Dev.busEmit_same | apply Dev.setBus_same | apply Dev.Same.both (gs := false) | refine ite_same ?_ ?_) | split | (unfold Dev.Same; dsimp only [partOf_false]) | dsimp only

theorem Dev.t1lDown_same {d : Dev} (k : Nat) (hk : d.Same gm gf ge gs gn gt r₀) :
    (Dev.t1lDown d k).Same gm gf ge gs gn gt r₀ := by
  unfold Dev.t1lDown
  repeat' first | (with_reducible first | assumption | apply Dev.raise_same | apply Dev.put_same | apply Dev.Same.both | refine ite_same ?_ ?_) | split | (unfold Dev.Same; dsimp only [partOf_false]) | dsimp only

theorem Dev.mbSent_same {d : Dev} (n : Nat) (j : BusJob) (hk : d.Same gm gf ge false gn gt r₀) :
    (Dev.mbSent d n j).Same gm gf ge false gn gt r₀ := by
  unfold Dev.mbSent
  repeat' first | (with_reducible first | assumption | apply Dev.endSend_same | apply Dev.setBus_same | apply Dev.Same.both (gs := false) | refine ite_same ?_ ?_) | split | (unfold Dev.Same; dsimp only [partOf_false]) | dsimp only

theorem Dev.mstpSent_same {d : Dev} (n : Nat) (j : BusJob) (hk : d.Same gm gf ge false gn gt r₀) :
    (Dev.mstpSent d n j).Same gm gf ge false gn gt r₀ := by
  unfold Dev.mstpSent
  repeat' first | (with_reducible first | assumption | apply Dev.mstpNext_same | apply Dev.endSend_same | apply Dev.setBus_same | apply Dev.Same.both (gs := false) | refine ite_same ?_ ?_) | split | (unfold Dev.Same; dsimp only [partOf_false]) | dsimp only

theorem bodyBusSend_same (data : List Nat) (id : Nat) (x : Sys2Proof.Desc) {d : Dev} (hk : d.Same gm gf ge false gn gt r₀) :
    (bodyBusSend data id x d).Same gm gf ge false gn gt r₀ := by
  unfold bodyBusSend
  repeat' first | (with_reducible first | assumption | apply Dev.plainStart_same | apply Dev.mbStart_same | apply Dev.mstpEmit_same | apply Dev.endSend_same | apply Dev.setBus_same | apply Dev.fail_same | apply Dev.Same.both (gs := false) | refine ite_same ?_ ?_) | split | (unfold Dev.Same; dsimp only [partOf_false]) | dsimp only

theorem settleBus_same (id : Nat) (r : Rec) {d : Dev} (hk : d.Same gm gf ge false gn gt r₀) :
    (settleBus id r d).Same gm gf ge false gn gt r₀ := by
  unfold settleBus
  repeat' first | (with_reducible first | assumption | intro _ | apply Dev.failSend_same | apply Dev.setBus_same | apply Dev.done_same | apply Dev.fail_same | apply Dev.Same.both (gs := false) | refine ite_same ?_ ?_) | split | (unfold Dev.Same; dsimp only [partOf_false]) | dsimp only

theorem Dev.busFlush_same {d : Dev} (n : Nat) (all : Bool) (hk : d.Same gm gf ge false gn gt r₀) :
    (Dev.busFlush d n all).Same gm gf ge false gn gt r₀ := by
  unfold Dev.busFlush
  repeat' first | (with_reducible first | assumption | intro _ | apply Dev.failSend_same | apply Dev.setBus_same | apply Dev.fail_same | apply Dev.Same.both (gs := false) | refine ite_same ?_ ?_ | refine foldl_same (fun _ _ _ => ?_) ?_ _ | refine foldl_snd2_same (fun _ _ _ => ?_) ?_ _ | refine foldl_snd_same (fun _ _ _ => ?_) ?_ _ | refine foldl_fst_same (fun _ _ _ => ?_) ?_ _) | split | (unfold Dev.Same; dsimp only [partOf_false]) | dsimp only

theorem Dev.busStop_same {d : Dev} (hk : d.Same gm gf ge gs gn gt r₀) :
    (Dev.busStop d).Same gm gf ge gs gn gt r₀ := by
  unfold Dev.busStop
  repeat' first | (with_reducible first | assumption | intro _ | apply Dev.emit_same | apply Dev.Same.both | refine foldl_same (fun _ _ _ => ?_) ?_ _ | refine foldl_snd2_same (fun _ _ _ => ?_) ?_ _ | refine foldl_snd_same (fun _ _ _ => ?_) ?_ _ | refine foldl_fst_same (fun _ _ _ => ?_) ?_ _) | (unfold Dev.Same; dsimp only [partOf_false]) | dsimp only

theorem Dev.busRestart_same {d : Dev} (n : Nat) (hk : d.Same gm gf ge false gn gt r₀) :
    (Dev.busRestart d n).Same gm gf ge false gn gt r₀ := by
  unfold Dev.busRestart
  repeat' first | (with_reducible first | assumption | apply Dev.mstpInit_same | apply Dev.mstpRing_same | apply Dev.busMark_same | apply Dev.put_same | apply Dev.Same.both (gs := false) | refine ite_same ?_ ?_) | split | (unfold Dev.Same; dsimp only [partOf_false]) | dsimp only

theorem Dev.writeBusCfg_same {d : Dev} (n : Nat) (v : Nat) (hk : d.Same gm gf ge false gn gt r₀) :
    (Dev.writeBusCfg d n v).Same gm gf ge false gn gt r₀ := by
  unfold Dev.writeBusCfg
  repeat' first | (with_reducible first | assumption | apply Dev.busRestart_same | apply Dev.busFlush_same | apply Dev.busReject_same | apply Dev.emit_same | apply Dev.putHost_same | apply Dev.putRet_same | apply Dev.Same.both (gs := false) | refine ite_same ?_ ?_) | split | (unfold Dev.Same; dsimp only [partOf_false]) | dsimp only

theorem Dev.busWritten_same {d : Dev} (off : Nat) (i : Nat) (hk : d.Same gm gf ge false gn gt r₀) :
    (Dev.busWritten d off i).Same gm gf ge false gn gt r₀ := by
  unfold Dev.busWritten
  repeat' first | (with_reducible first | assumption | apply Dev.busFlush_same | apply Dev.t1lDown_same | apply Dev.mbStart_same | apply Dev.Same.both (gs := false) | refine ite_same ?_ ?_) | split | (unfold Dev.Same; dsimp only [partOf_false]) | dsimp only

theorem bodyBusPollSet_same (id : Nat) (x : Sys2Proof.Desc) {d : Dev} (hk : d.Same gm gf ge false gn gt r₀) :
    (bodyBusPollSet id x d).Same gm gf ge false gn gt r₀ := by
  unfold bodyBusPollSet
  repeat' first | (with_reducible first | assumption | apply Dev.fail_same | apply Dev.finish_same | apply Dev.Same.both (gs := false) | refine ite_same ?_ ?_) | split | (unfold Dev.Same; dsimp only [partOf_false]) | dsimp only

theorem Dev.pollChecked_same {d : Dev} (id : Nat) (x : Sys2Proof.Desc) (hk : d.Same false gf ge false gn gt r₀) :
    (Dev.pollChecked d id x).Same false gf ge false gn gt r₀ := by
  unfold Dev.pollChecked
  repeat' first | (with_reducible first | assumption | intro _ | refine Dev.readWords_same_of ?_ (by assumption) | apply Dev.readWords_same | apply Dev.fail_same | apply Dev.finish_same | apply Dev.Same.both (gm := false) (gs := false) | refine ite_same ?_ ?_) | split | (unfold Dev.Same; dsimp only [partOf_false]) | dsimp only

theorem Dev.setPollList_same {d : Dev} (n : Nat) (l : List Nat) (hk : d.Same gm gf ge false gn gt r₀) :
    (Dev.setPollList d n l).Same gm gf ge false gn gt r₀ := by
  unfold Dev.setPollList
  repeat' first | (with_reducible first | assumption | intro _ | apply Dev.setBus_same | apply Dev.setBlock_same | apply Dev.setWriter_same | apply Dev.Same.both (gs := false) | refine foldl_same (fun _ _ _ => ?_) ?_ _ | refine foldl_snd2_same (fun _ _ _ => ?_) ?_ _ | refine foldl_snd_same (fun _ _ _ => ?_) ?_ _ | refine foldl_fst_same (fun _ _ _ => ?_) ?_ _) | split | (unfold Dev.Same; dsimp only [partOf_false]) | dsimp only

theorem Dev.pollTick_same {d : Dev} (hk : d.Same gm gf ge false gn gt r₀) :
    (Dev.pollTick d).Same gm gf ge false gn gt r₀ := by
  unfold Dev.pollTick
  repeat' first | (with_reducible first | assumption | intro _ | apply Dev.setPollList_same | apply Dev.done_same | apply Dev.Same.both (gs := false) | refine foldl_same (fun _ _ _ => ?_) ?_ _ | refine foldl_snd2_same (fun _ _ _ => ?_) ?_ _ | refine foldl_snd_same (fun _ _ _ => ?_) ?_ _ | refine foldl_fst_same (fun _ _ _ => ?_) ?_ _) | (unfold Dev.Same; dsimp only [partOf_false]) | dsimp only

theorem Dev.busThaw_same {d : Dev} (hk : d.Same gm gf ge false gn gt r₀) :
    (Dev.busThaw d).Same gm gf ge false gn gt r₀ := by
  unfold Dev.busThaw
  repeat' first | (with_reducible first | assumption | intro _ | apply Dev.busRestart_same | apply Dev.busFlush_same | apply Dev.t1lDown_same | apply Dev.Same.both (gs := false) | refine foldl_same (fun _ _ _ => ?_) ?_ _ | refine foldl_snd2_same (fun _ _ _ => ?_) ?_ _ | refine foldl_snd_same (fun _ _ _ => ?_) ?_ _ | refine foldl_fst_same (fun _ _ _ => ?_) ?_ _) | (unfold Dev.Same; dsimp only [partOf_false]) | dsimp only

theorem Dev.busStart_same {d : Dev} (hk : d.Same gm gf ge false gn gt r₀) :
    (Dev.busStart d).Same gm gf ge false gn gt r₀ := by
  unfold Dev.busStart
  repeat' first | (with_reducible first | assumption | intro _ | apply Dev.busRestart_same | apply Dev.setWriter_same | apply Dev.Same.both (gs := false) | refine foldl_same (fun _ _ _ => ?_) ?_ _ | refine foldl_snd2_same (fun _ _ _ => ?_) ?_ _ | refine foldl_snd_same (fun _ _ _ => ?_) ?_ _ | refine foldl_fst_same (fun _ _ _ => ?_) ?_ _) | (unfold Dev.Same; dsimp only [partOf_false]) | dsimp only

/-! ### Global -/

theorem Dev.writeFld_same {d : Dev} (f : Fld) (i : Nat) (v : Nat) (hk : d.Same gm gf ge gs gn gt r₀) :
    (Dev.writeFld d f i v).Same gm gf ge gs gn gt r₀ := by
  unfold Dev.writeFld
  repeat' first | (with_reducible first | assumption | apply Dev.put_same | apply Dev.Same.both | refine ite_same ?_ ?_) | split | (unfold Dev.Same; dsimp only [partOf_false]) | dsimp only

theorem Dev.writeFlds_same {d : Dev} (fs : List Fld) (i : Nat) (v : Nat) (hk : d.Same gm gf ge gs gn gt r₀) :
    (Dev.writeFlds d fs i v).Same gm gf ge gs gn gt r₀ := by
  unfold Dev.writeFlds
  repeat' first | (with_reducible first | assumption | intro _ | apply Dev.writeFld_same | apply Dev.markHost_same | apply Dev.Same.both | refine ite_same ?_ ?_ | refine foldl_same (fun _ _ _ => ?_) ?_ _ | refine foldl_snd2_same (fun _ _ _ => ?_) ?_ _ | refine foldl_snd_same (fun _ _ _ => ?_) ?_ _ | refine foldl_fst_same (fun _ _ _ => ?_) ?_ _) | split | (unfold Dev.Same; dsimp only [partOf_false]) | dsimp only

theorem Dev.writeBlsel_same {d : Dev} (v : Nat) (hk : d.Same gm gf ge gs gn gt r₀) :
    (Dev.writeBlsel d v).Same gm gf ge gs gn gt r₀ := by
  unfold Dev.writeBlsel
  repeat' first | (with_reducible first | assumption | apply Dev.putHost_same | apply Dev.put_same | apply Dev.Same.both | refine ite_same ?_ ?_) | split | (unfold Dev.Same; dsimp only [partOf_false]) | dsimp only

theorem Dev.writeSeal_same {d : Dev} (v : Nat) (hk : d.Same gm gf ge gs gn gt r₀) :
    (Dev.writeSeal d v).Same gm gf ge gs gn gt r₀ := by
  unfold Dev.writeSeal
  repeat' first | (with_reducible first | assumption | apply Dev.putHost_same | apply Dev.put_same | apply Dev.Same.both | refine ite_same ?_ ?_) | split | (unfold Dev.Same; dsimp only [partOf_false]) | dsimp only

theorem Dev.writeMemerrClr_same {d : Dev} (v : Nat) (hk : d.Same gm gf ge gs gn gt r₀) :
    (Dev.writeMemerrClr d v).Same gm gf ge gs gn gt r₀ := by
  unfold Dev.writeMemerrClr
  repeat' first | (with_reducible first | assumption | apply Dev.put_same | apply Dev.Same.both | refine ite_same ?_ ?_) | split | (unfold Dev.Same; dsimp only [partOf_false]) | dsimp only

theorem Dev.bar4Word_same {d : Dev} (w : Nat) (hk : d.Same false gf ge gs gn gt r₀) :
    (Dev.bar4Word d w).2.Same false gf ge gs gn gt r₀ := by
  unfold Dev.bar4Word
  repeat' first | (with_reducible first | assumption | refine Dev.readWord_same_of ?_ (by assumption) | apply Dev.readWord_same | apply Canon.setErr | apply Dev.Same.both (gm := false) | refine ite_same ?_ ?_) | split | (unfold Dev.Same; dsimp only [partOf_false]) | dsimp only

theorem Dev.bar4Word_same_of {d : Dev} {w : Nat} {r0 : (List Nat × Bool)} {e0 : Dev} (hk : d.Same false gf ge gs gn gt r₀) (eq : (Dev.bar4Word d w) = (r0, e0)) : e0.Same false gf ge gs gn gt r₀ := by
  have k := @Dev.bar4Word_same; grind

theorem Dev.bar4Words_same {d : Dev} (w : Nat) (a2 : Nat) (hk : d.Same false gf ge gs gn gt r₀) :
    (Dev.bar4Words d w a2).2.Same false gf ge gs gn gt r₀ := by
  induction a2 generalizing d w with
  | zero => unfold Dev.bar4Words; repeat' first | (with_reducible first | assumption | intro _ | apply Dev.bar4Word_same | apply Dev.Same.both (gm := false) | refine ite_same ?_ ?_) | split | (unfold Dev.Same; dsimp only [partOf_false]) | dsimp only
  | succ n ih => unfold Dev.bar4Words; repeat' first | with_reducible apply ih | (with_reducible first | assumption | intro _ | apply Dev.bar4Word_same | apply Dev.Same.both (gm := false) | refine ite_same ?_ ?_) | split | (unfold Dev.Same; dsimp only [partOf_false]) | dsimp only

theorem Dev.bar4Words_same_of {d : Dev} {w : Nat} {a2 : Nat} {r0 : List (Nat × Bool)} {e0 : Dev} (hk : d.Same false gf ge gs gn gt r₀) (eq : (Dev.bar4Words d w a2) = (r0, e0)) : e0.Same false gf ge gs gn gt r₀ := by
  have k := @Dev.bar4Words_same; grind

end Sys2Proof.Machine
end

