-- ==== Sys2Proof/Laws/SameField.lean ====
section
/-! SUPPORT. The kinds of state that each operation leaves as they are: the operations of the field dies. -/

namespace Sys2Proof.Machine
open Sys2Proof

variable {gm gf ge gs gn gt : Bool} {r₀ : Dev}

/-! ### Meas -/

theorem Dev.setConv_same {d : Dev} (c : Nat) (x : ConvSt) (hk : d.Same gm false ge gs gn gt r₀) :
    (Dev.setConv d c x).Same gm false ge gs gn gt r₀ := by
  unfold Dev.setConv
  repeat' first | (with_reducible first | assumption | apply Dev.Same.both (gf := false)) | (unfold Dev.Same; dsimp only [partOf_false]) | dsimp only

theorem Dev.beginVisit_same {d : Dev} (c : Nat) (v : Visit) (hk : d.Same gm false ge gs gn gt r₀) :
    (Dev.beginVisit d c v).Same gm false ge gs gn gt r₀ := by
  unfold Dev.beginVisit
  repeat' first | (with_reducible first | assumption | apply Dev.setConv_same | apply Dev.Same.both (gf := false)) | (unfold Dev.Same; dsimp only [partOf_false]) | dsimp only

theorem Dev.restartVisit_same {d : Dev} (c : Nat) (hk : d.Same gm false ge gs gn gt r₀) :
    (Dev.restartVisit d c).Same gm false ge gs gn gt r₀ := by
  unfold Dev.restartVisit
  repeat' first | (with_reducible first | assumption | apply Dev.beginVisit_same | apply Dev.Same.both (gf := false)) | split | (unfold Dev.Same; dsimp only [partOf_false]) | dsimp only

theorem Dev.joinPair_same {d : Dev} (c : Nat) (hk : d.Same gm false ge gs gn gt r₀) :
    (Dev.joinPair d c).Same gm false ge gs gn gt r₀ := by
  unfold Dev.joinPair
  repeat' first | (with_reducible first | assumption | apply Dev.setConv_same | apply Dev.Same.both (gf := false) | refine ite_same ?_ ?_) | split | (unfold Dev.Same; dsimp only [partOf_false]) | dsimp only

theorem Dev.beginPass_same {d : Dev} (c : Nat) (hk : d.Same gm false ge gs gn gt r₀) :
    (Dev.beginPass d c).2.Same gm false ge gs gn gt r₀ := by
  unfold Dev.beginPass
  repeat' first | (with_reducible first | assumption | apply Dev.joinPair_same | apply Dev.beginVisit_same | apply Dev.setConv_same | apply Dev.Same.both (gf := false) | refine ite_same ?_ ?_) | split | (unfold Dev.Same; dsimp only [partOf_false]) | dsimp only

theorem Dev.beginPass_same_of {d : Dev} {c : Nat} {r0 : Bool} {e0 : Dev} (hk : d.Same gm false ge gs gn gt r₀) (eq : (Dev.beginPass d c) = (r0, e0)) : e0.Same gm false ge gs gn gt r₀ := by
  have k := @Dev.beginPass_same; grind

theorem Dev.endPass_same {d : Dev} (c : Nat) (again : Bool) (hk : d.Same gm false ge gs gn gt r₀) :
    (Dev.endPass d c again).Same gm false ge gs gn gt r₀ := by
  unfold Dev.endPass
  repeat' first | (with_reducible first | assumption | intro _ | apply Dev.beginPass_same | apply Dev.setConv_same | apply Dev.wrapUp_same | apply Dev.Same.both (gf := false) | refine ite_same ?_ ?_) | split | (unfold Dev.Same; dsimp only [partOf_false]) | dsimp only

theorem Dev.putMeas_same {d : Dev} (h : Nat) (w : VW) (hk : d.Same gm false ge gs gn gt r₀) :
    (Dev.putMeas d h w).Same gm false ge gs gn gt r₀ := by
  unfold Dev.putMeas
  repeat' first | (with_reducible first | assumption | apply Dev.Same.both (gf := false) | refine ite_same ?_ ?_) | split | (unfold Dev.Same; dsimp only [partOf_false]) | dsimp only

theorem Dev.uiFaultEvent_same {d : Dev} (ch : Nat) (was : Bool) (now : Bool) (v : Int) (cause : Nat) (hk : d.Same gm false ge gs gn gt r₀) :
    (Dev.uiFaultEvent d ch was now v cause).Same gm false ge gs gn gt r₀ := by
  unfold Dev.uiFaultEvent
  repeat' first | (with_reducible first | assumption | apply Dev.dieRaise_same | apply Dev.Same.both (gf := false) | refine ite_same ?_ ?_) | split | (unfold Dev.Same; dsimp only [partOf_false]) | dsimp only

theorem Dev.updateChannel_same {d : Dev} (ch : Nat) (v : Int) (status : Nat) (cause : Nat) (slotP1 : Nat) (hk : d.Same gm false ge gs gn gt r₀) :
    (Dev.updateChannel d ch v status cause slotP1).Same gm false ge gs gn gt r₀ := by
  unfold Dev.updateChannel
  repeat' first | (with_reducible first | assumption | apply Dev.uiFaultEvent_same | apply Dev.putMeas_same | apply Dev.Same.both (gf := false)) | (unfold Dev.Same; dsimp only [partOf_false]) | dsimp only

theorem Dev.keepContact_same {d : Dev} (ch : Nat) (input : Int) (hk : d.Same gm false ge gs gn gt r₀) :
    (Dev.keepContact d ch input).Same gm false ge gs gn gt r₀ := by
  unfold Dev.keepContact
  repeat' first | (with_reducible first | assumption | apply Dev.Same.both (gf := false) | refine ite_same ?_ ?_) | split | (unfold Dev.Same; dsimp only [partOf_false]) | dsimp only

theorem Dev.writeSlot_same {d : Dev} (n : Nat) (v : Int) (status : Nat) (remain : Nat) (hk : d.Same gm false ge gs gn gt r₀) :
    (Dev.writeSlot d n v status remain).Same gm false ge gs gn gt r₀ := by
  unfold Dev.writeSlot
  repeat' first | (with_reducible first | assumption | apply Dev.putMeas_same | apply Dev.Same.both (gf := false)) | (unfold Dev.Same; dsimp only [partOf_false]) | dsimp only

theorem Dev.countOpened_same {d : Dev} (c : Nat) (ch : Nat) (hk : d.Same gm false ge gs gn gt r₀) :
    (Dev.countOpened d c ch).Same gm false ge gs gn gt r₀ := by
  unfold Dev.countOpened
  repeat' first | (with_reducible first | assumption | intro _ | apply Dev.Same.both (gf := false)) | (unfold Dev.Same; dsimp only [partOf_false]) | dsimp only

theorem Dev.nextVisit_same {d : Dev} (c : Nat) (e : Nat) (hk : d.Same gm false ge gs gn gt r₀) :
    (Dev.nextVisit d c e).Same gm false ge gs gn gt r₀ := by
  unfold Dev.nextVisit
  repeat' first | (with_reducible first | assumption | apply Dev.endPass_same | apply Dev.beginVisit_same | apply Dev.setConv_same | apply Dev.Same.both (gf := false) | refine ite_same ?_ ?_) | split | (unfold Dev.Same; dsimp only [partOf_false]) | dsimp only

theorem Dev.afterOutput_same {d : Dev} (c : Nat) (v : Visit) (hk : d.Same gm false ge gs gn gt r₀) :
    (Dev.afterOutput d c v).Same gm false ge gs gn gt r₀ := by
  unfold Dev.afterOutput
  repeat' first | (with_reducible first | assumption | apply Dev.nextVisit_same | apply Dev.Same.both (gf := false) | refine ite_same ?_ ?_) | split | (unfold Dev.Same; dsimp only [partOf_false]) | dsimp only

theorem Dev.dropUrgent_same {d : Dev} (c : Nat) (o : UrgentOrigin) (hk : d.Same gm false ge gs gn gt r₀) :
    (Dev.dropUrgent d c o).Same gm false ge gs gn gt r₀ := by
  unfold Dev.dropUrgent
  repeat' first | (with_reducible first | assumption | apply Dev.setConv_same | apply Dev.dieRaise_same | apply Dev.Same.both (gf := false)) | split | (unfold Dev.Same; dsimp only [partOf_false]) | dsimp only

theorem Dev.putUrgent_same {d : Dev} (c : Nat) (u : Urgent) (hk : d.Same gm false ge gs gn gt r₀) :
    (Dev.putUrgent d c u).Same gm false ge gs gn gt r₀ := by
  unfold Dev.putUrgent
  repeat' first | (with_reducible first | assumption | apply Dev.setConv_same | apply Dev.Same.both (gf := false)) | (unfold Dev.Same; dsimp only [partOf_false]) | dsimp only

theorem Dev.askUrgent_same {d : Dev} (c : Nat) (u : Urgent) (hk : d.Same gm gf ge gs gn gt r₀) :
    (Dev.askUrgent d c u).Same gm gf ge gs gn gt r₀ := by
  unfold Dev.askUrgent
  repeat' first | (with_reducible first | assumption | apply Dev.post_same | apply Dev.Same.both) | (unfold Dev.Same; dsimp only [partOf_false]) | dsimp only

theorem Dev.issueUrgent_same {d : Dev} (c : Nat) (u : Urgent) (hk : d.Same gm false ge gs gn gt r₀) :
    (Dev.issueUrgent d c u).Same gm false ge gs gn gt r₀ := by
  unfold Dev.issueUrgent
  repeat' first | (with_reducible first | assumption | apply Dev.putUrgent_same | apply Dev.dropUrgent_same | apply Dev.Same.both (gf := false) | refine ite_same ?_ ?_) | split | (unfold Dev.Same; dsimp only [partOf_false]) | dsimp only

theorem bodyMeasUrgent_same (id : Nat) (x : Sys2Proof.Desc) {d : Dev} (hk : d.Same gm gf ge gs gn gt r₀) :
    (bodyMeasUrgent id x d).Same gm gf ge gs gn gt r₀ := by
  unfold bodyMeasUrgent
  repeat' first | (with_reducible first | assumption | apply Dev.post_same | apply Dev.fail_same | apply Dev.Same.both | refine ite_same ?_ ?_) | split | (unfold Dev.Same; dsimp only [partOf_false]) | dsimp only

theorem Dev.applyMeasUrgent_same {d : Dev} (id : Nat) (x : Sys2Proof.Desc) (hk : d.Same gm false ge gs gn gt r₀) :
    (Dev.applyMeasUrgent d id x).Same gm false ge gs gn gt r₀ := by
  unfold Dev.applyMeasUrgent
  repeat' first | (with_reducible first | assumption | apply Dev.putUrgent_same | apply Dev.fail_same | apply Dev.Same.both (gf := false) | refine ite_same ?_ ?_) | split | (unfold Dev.Same; dsimp only [partOf_false]) | dsimp only

theorem Dev.endUrgent_same {d : Dev} (c : Nat) (hk : d.Same gm false ge gs gn gt r₀) :
    (Dev.endUrgent d c).Same gm false ge gs gn gt r₀ := by
  unfold Dev.endUrgent
  repeat' first | (with_reducible first | assumption | apply Dev.restartVisit_same | apply Dev.setConv_same | apply Dev.Same.both (gf := false)) | split | (unfold Dev.Same; dsimp only [partOf_false]) | dsimp only

theorem Dev.flushUrgent_same {d : Dev} (c : Nat) (hk : d.Same gm false ge gs gn gt r₀) :
    (Dev.flushUrgent d c).Same gm false ge gs gn gt r₀ := by
  unfold Dev.flushUrgent
  repeat' first | (with_reducible first | assumption | intro _ | apply Dev.dropUrgent_same | apply Dev.setConv_same | apply Dev.fail_same | apply Dev.Same.both (gf := false) | refine foldl_same (fun _ _ _ => ?_) ?_ _ | refine foldl_snd2_same (fun _ _ _ => ?_) ?_ _ | refine foldl_snd_same (fun _ _ _ => ?_) ?_ _ | refine foldl_fst_same (fun _ _ _ => ?_) ?_ _) | split | (unfold Dev.Same; dsimp only [partOf_false]) | dsimp only

theorem Dev.nextCal_same {d : Dev} (k : Nat) (hk : d.Same gm false ge gs gn gt r₀) :
    (Dev.nextCal d k).Same gm false ge gs gn gt r₀ := by
  unfold Dev.nextCal
  repeat' first | (with_reducible first | assumption | apply Dev.flushUrgent_same | apply Dev.setConv_same | apply Dev.Same.both (gf := false) | refine ite_same ?_ ?_) | split | (unfold Dev.Same; dsimp only [partOf_false]) | dsimp only

theorem Dev.queueCal_same {d : Dev} (k : Nat) (mask : Nat) (cause : Nat) (hk : d.Same gm false ge gs gn gt r₀) :
    (Dev.queueCal d k mask cause).Same gm false ge gs gn gt r₀ := by
  unfold Dev.queueCal
  repeat' first | (with_reducible first | assumption | intro _ | apply Dev.nextCal_same | apply Dev.setConv_same | apply Dev.Same.both (gf := false) | refine ite_same ?_ ?_ | refine foldl_same (fun _ _ _ => ?_) ?_ _ | refine foldl_snd2_same (fun _ _ _ => ?_) ?_ _ | refine foldl_snd_same (fun _ _ _ => ?_) ?_ _ | refine foldl_fst_same (fun _ _ _ => ?_) ?_ _) | split | (unfold Dev.Same; dsimp only [partOf_false]) | dsimp only

theorem Dev.calAll_same {d : Dev} (cause : Nat) (hk : d.Same gm false ge gs gn gt r₀) :
    (Dev.calAll d cause).Same gm false ge gs gn gt r₀ := by
  unfold Dev.calAll
  repeat' first | (with_reducible first | assumption | intro _ | apply Dev.post_same | apply Dev.Same.both (gf := false) | refine ite_same ?_ ?_ | refine foldl_same (fun _ _ _ => ?_) ?_ _ | refine foldl_snd2_same (fun _ _ _ => ?_) ?_ _ | refine foldl_snd_same (fun _ _ _ => ?_) ?_ _ | refine foldl_fst_same (fun _ _ _ => ?_) ?_ _) | split | (unfold Dev.Same; dsimp only [partOf_false]) | dsimp only

theorem Dev.selfTest_same {d : Dev} (c : Nat) (vs : List Int) (hk : d.Same gm false ge gs gn gt r₀) :
    (Dev.selfTest d c vs).Same gm false ge gs gn gt r₀ := by
  unfold Dev.selfTest
  repeat' first | (with_reducible first | assumption | intro _ | apply Dev.dieRaise_same | apply Dev.Same.both (gf := false) | refine ite_same ?_ ?_ | refine foldl_same (fun _ _ _ => ?_) ?_ _ | refine foldl_snd2_same (fun _ _ _ => ?_) ?_ _ | refine foldl_snd_same (fun _ _ _ => ?_) ?_ _ | refine foldl_fst_same (fun _ _ _ => ?_) ?_ _) | split | (unfold Dev.Same; dsimp only [partOf_false]) | dsimp only

theorem Dev.startTests_same {d : Dev} (k : Nat) (ts : List (Nat × List Int)) (hk : d.Same gm false ge gs gn gt r₀) :
    (Dev.startTests d k ts).Same gm false ge gs gn gt r₀ := by
  unfold Dev.startTests
  repeat' first | (with_reducible first | assumption | intro _ | apply Dev.selfTest_same | apply Dev.Same.both (gf := false) | refine ite_same ?_ ?_ | refine foldl_same (fun _ _ _ => ?_) ?_ _ | refine foldl_snd2_same (fun _ _ _ => ?_) ?_ _ | refine foldl_snd_same (fun _ _ _ => ?_) ?_ _ | refine foldl_fst_same (fun _ _ _ => ?_) ?_ _) | split | (unfold Dev.Same; dsimp only [partOf_false]) | dsimp only

theorem Dev.calCommitted_same {d : Dev} (c : Nat) (hk : d.Same gm false ge gs gn gt r₀) :
    (Dev.calCommitted d c).Same gm false ge gs gn gt r₀ := by
  unfold Dev.calCommitted
  repeat' first | (with_reducible first | assumption | intro _ | apply Dev.done_same | apply Dev.Same.both (gf := false) | refine ite_same ?_ ?_ | refine foldl_same (fun _ _ _ => ?_) ?_ _ | refine foldl_snd2_same (fun _ _ _ => ?_) ?_ _ | refine foldl_snd_same (fun _ _ _ => ?_) ?_ _ | refine foldl_fst_same (fun _ _ _ => ?_) ?_ _) | split | (unfold Dev.Same; dsimp only [partOf_false]) | dsimp only

theorem bodyMeasCal_same (id : Nat) (x : Sys2Proof.Desc) {d : Dev} (hk : d.Same gm false ge gs gn gt r₀) :
    (bodyMeasCal id x d).Same gm false ge gs gn gt r₀ := by
  unfold bodyMeasCal
  repeat' first | (with_reducible first | assumption | intro _ | apply Dev.post_same | apply Dev.fail_same | apply Dev.Same.both (gf := false) | refine ite_same ?_ ?_ | refine foldl_same (fun _ _ _ => ?_) ?_ _ | refine foldl_snd2_same (fun _ _ _ => ?_) ?_ _ | refine foldl_snd_same (fun _ _ _ => ?_) ?_ _ | refine foldl_fst_same (fun _ _ _ => ?_) ?_ _) | split | (unfold Dev.Same; dsimp only [partOf_false]) | dsimp only

theorem Dev.markCapture_same {d : Dev} (g : Nat) (b : Bool) (hk : d.Same gm false ge gs gn gt r₀) :
    (Dev.markCapture d g b).Same gm false ge gs gn gt r₀ := by
  unfold Dev.markCapture
  repeat' first | (with_reducible first | assumption | intro _ | apply Dev.setConv_same | apply Dev.Same.both (gf := false) | refine ite_same ?_ ?_ | refine foldl_same (fun _ _ _ => ?_) ?_ _ | refine foldl_snd2_same (fun _ _ _ => ?_) ?_ _ | refine foldl_snd_same (fun _ _ _ => ?_) ?_ _ | refine foldl_fst_same (fun _ _ _ => ?_) ?_ _) | split | (unfold Dev.Same; dsimp only [partOf_false]) | dsimp only

theorem bodyMeasCapture_same (id : Nat) (x : Sys2Proof.Desc) {d : Dev} (hk : d.Same gm false ge gs gn gt r₀) :
    (bodyMeasCapture id x d).Same gm false ge gs gn gt r₀ := by
  unfold bodyMeasCapture
  repeat' first | (with_reducible first | assumption | intro _ | apply Dev.markCapture_same | apply Dev.fail_same | apply Dev.Same.both (gf := false) | refine ite_same ?_ ?_) | split | (unfold Dev.Same; dsimp only [partOf_false]) | dsimp only

theorem Dev.setCap_same {d : Dev} (g : Nat) (f : CapOp → CapOp) (hk : d.Same gm false ge gs gn gt r₀) :
    (Dev.setCap d g f).Same gm false ge gs gn gt r₀ := by
  unfold Dev.setCap
  repeat' first | (with_reducible first | assumption | intro _ | apply Dev.Same.both (gf := false) | refine ite_same ?_ ?_) | split | (unfold Dev.Same; dsimp only [partOf_false]) | dsimp only

theorem Dev.capAdvance_same {d : Dev} (k : Nat) (hk : d.Same gm false ge gs gn gt r₀) :
    (Dev.capAdvance d k).Same gm false ge gs gn gt r₀ := by
  unfold Dev.capAdvance
  repeat' first | (with_reducible first | assumption | intro _ | apply Dev.setCap_same | apply Dev.Same.both (gf := false) | refine ite_same ?_ ?_) | split | (unfold Dev.Same; dsimp only [partOf_false]) | dsimp only

theorem Dev.capTake_same {d : Dev} (chunk : List (Nat × Nat)) (hk : d.Same false false ge gs gn gt r₀) :
    (Dev.capTake d chunk).Same false false ge gs gn gt r₀ := by
  unfold Dev.capTake
  repeat' first | (with_reducible first | assumption | intro _ | apply Dev.memWrite_same | apply Dev.Same.both (gm := false) (gf := false) | refine foldl_same (fun _ _ _ => ?_) ?_ _ | refine foldl_snd2_same (fun _ _ _ => ?_) ?_ _ | refine foldl_snd_same (fun _ _ _ => ?_) ?_ _ | refine foldl_fst_same (fun _ _ _ => ?_) ?_ _) | (unfold Dev.Same; dsimp only [partOf_false]) | dsimp only

theorem Dev.dropCap_same {d : Dev} (o : CapOp) (hk : d.Same gm false ge gs gn gt r₀) :
    (Dev.dropCap d o).Same gm false ge gs gn gt r₀ := by
  unfold Dev.dropCap
  repeat' first | (with_reducible first | assumption | intro _ | apply Dev.markCapture_same | apply Dev.Same.both (gf := false)) | (unfold Dev.Same; dsimp only [partOf_false]) | dsimp only

theorem Dev.stopCalDie_same {d : Dev} (k : Nat) (mask : Nat) (hk : d.Same gm false ge gs gn gt r₀) :
    (Dev.stopCalDie d k mask).Same gm false ge gs gn gt r₀ := by
  unfold Dev.stopCalDie
  repeat' first | (with_reducible first | assumption | intro _ | apply Dev.nextCal_same | apply Dev.restartVisit_same | apply Dev.setConv_same | apply Dev.Same.both (gf := false) | refine ite_same ?_ ?_ | refine foldl_same (fun _ _ _ => ?_) ?_ _ | refine foldl_snd2_same (fun _ _ _ => ?_) ?_ _ | refine foldl_snd_same (fun _ _ _ => ?_) ?_ _ | refine foldl_fst_same (fun _ _ _ => ?_) ?_ _) | split | (unfold Dev.Same; dsimp only [partOf_false]) | dsimp only

theorem Dev.endCal_same {d : Dev} (o : CalOp) (hk : d.Same gm false ge gs gn gt r₀) :
    (Dev.endCal d o).Same gm false ge gs gn gt r₀ := by
  unfold Dev.endCal
  repeat' first | (with_reducible first | assumption | intro _ | apply Dev.finish_same | apply Dev.Same.both (gf := false)) | (unfold Dev.Same; dsimp only [partOf_false]) | dsimp only

theorem Dev.stopCapDie_same {d : Dev} (k : Nat) (o : CapOp) (hk : d.Same gm false ge gs gn gt r₀) :
    (Dev.stopCapDie d k o).Same gm false ge gs gn gt r₀ := by
  unfold Dev.stopCapDie
  repeat' first | (with_reducible first | assumption | intro _ | apply Dev.setCap_same | apply Dev.setConv_same | apply Dev.Same.both (gf := false) | refine ite_same ?_ ?_ | refine foldl_same (fun _ _ _ => ?_) ?_ _ | refine foldl_snd2_same (fun _ _ _ => ?_) ?_ _ | refine foldl_snd_same (fun _ _ _ => ?_) ?_ _ | refine foldl_fst_same (fun _ _ _ => ?_) ?_ _) | split | (unfold Dev.Same; dsimp only [partOf_false]) | dsimp only

theorem Dev.stopUrgent_same {d : Dev} (id : Nat) (c : Nat) (hk : d.Same gm false ge gs gn gt r₀) :
    (Dev.stopUrgent d id c).Same gm false ge gs gn gt r₀ := by
  unfold Dev.stopUrgent
  repeat' first | (with_reducible first | assumption | intro _ | apply Dev.endUrgent_same | apply Dev.setConv_same | apply Dev.Same.both (gf := false) | refine ite_same ?_ ?_ | refine foldl_same (fun _ _ _ => ?_) ?_ _ | refine foldl_snd2_same (fun _ _ _ => ?_) ?_ _ | refine foldl_snd_same (fun _ _ _ => ?_) ?_ _ | refine foldl_fst_same (fun _ _ _ => ?_) ?_ _) | split | (unfold Dev.Same; dsimp only [partOf_false]) | dsimp only

theorem settleMeas_same (id : Nat) (r : Rec) {d : Dev} (hk : d.Same gm false ge gs gn gt r₀) :
    (settleMeas id r d).Same gm false ge gs gn gt r₀ := by
  unfold settleMeas
  repeat' first | (with_reducible first | assumption | intro _ | apply Dev.post_same | apply Dev.Same.both (gf := false) | refine foldl_same (fun _ _ _ => ?_) ?_ _ | refine foldl_snd2_same (fun _ _ _ => ?_) ?_ _ | refine foldl_snd_same (fun _ _ _ => ?_) ?_ _ | refine foldl_fst_same (fun _ _ _ => ?_) ?_ _) | (unfold Dev.Same; dsimp only [partOf_false]) | dsimp only

theorem Dev.stopMeasDie_same {d : Dev} (k : Nat) (t : Nat) (hk : d.Same gm false ge gs gn gt r₀) :
    (Dev.stopMeasDie d k t).Same gm false ge gs gn gt r₀ := by
  unfold Dev.stopMeasDie
  repeat' first | (with_reducible first | assumption | intro _ | apply Dev.stopCapDie_same | apply Dev.stopCalDie_same | apply Dev.Same.both (gf := false)) | split | (unfold Dev.Same; dsimp only [partOf_false]) | dsimp only

theorem Dev.endMeas_same {d : Dev} (id : Nat) (t : Nat) (hk : d.Same gm false ge gs gn gt r₀) :
    (Dev.endMeas d id t).Same gm false ge gs gn gt r₀ := by
  unfold Dev.endMeas
  repeat' first | (with_reducible first | assumption | intro _ | apply Dev.stopUrgent_same | apply Dev.endCal_same | apply Dev.dropCap_same | apply Dev.done_same | apply Dev.fail_same | apply Dev.finish_same | apply Dev.Same.both (gf := false) | refine ite_same ?_ ?_ | refine foldl_same (fun _ _ _ => ?_) ?_ _ | refine foldl_snd2_same (fun _ _ _ => ?_) ?_ _ | refine foldl_snd_same (fun _ _ _ => ?_) ?_ _ | refine foldl_fst_same (fun _ _ _ => ?_) ?_ _) | split | (unfold Dev.Same; dsimp only [partOf_false]) | dsimp only

theorem Dev.applyMeasAbort_same {d : Dev} (k : Nat) (id : Nat) (t : Nat) (hk : d.Same gm false ge gs gn gt r₀) :
    (Dev.applyMeasAbort d k id t).Same gm false ge gs gn gt r₀ := by
  unfold Dev.applyMeasAbort
  repeat' first | (with_reducible first | assumption | intro _ | apply Dev.endMeas_same | apply Dev.stopMeasDie_same | apply Dev.Same.both (gf := false) | refine ite_same ?_ ?_) | split | (unfold Dev.Same; dsimp only [partOf_false]) | dsimp only

theorem bodyMeasAbort_same (id : Nat) (x : Sys2Proof.Desc) {d : Dev} (hk : d.Same gm false ge gs gn gt r₀) :
    (bodyMeasAbort id x d).Same gm false ge gs gn gt r₀ := by
  unfold bodyMeasAbort
  repeat' first | (with_reducible first | assumption | apply settleMeas_same | apply Dev.abortDesc_same | apply Dev.fail_same | apply Dev.Same.both (gf := false) | refine ite_same ?_ ?_) | split | (unfold Dev.Same; dsimp only [partOf_false]) | dsimp only

theorem Dev.measDip_same {d : Dev} (hk : d.Same gm false ge gs gn gt r₀) :
    (Dev.measDip d).Same gm false ge gs gn gt r₀ := by
  unfold Dev.measDip
  repeat' first | (with_reducible first | assumption | intro _ | apply Dev.stopUrgent_same | apply Dev.endCal_same | apply Dev.stopCalDie_same | apply Dev.dropCap_same | apply Dev.endUrgent_same | apply Dev.setConv_same | apply Dev.fail_same | apply Dev.finish_same | apply Dev.Same.both (gf := false) | refine foldl_same (fun _ _ _ => ?_) ?_ _ | refine foldl_snd2_same (fun _ _ _ => ?_) ?_ _ | refine foldl_snd_same (fun _ _ _ => ?_) ?_ _ | refine foldl_fst_same (fun _ _ _ => ?_) ?_ _) | (unfold Dev.Same; dsimp only [partOf_false]) | dsimp only

theorem Dev.measReject_same {d : Dev} (hk : d.Same gm gf ge gs gn gt r₀) :
    (Dev.measReject d).Same gm gf ge gs gn gt r₀ := by
  unfold Dev.measReject
  repeat' first | (with_reducible first | assumption | apply Dev.put_same | apply Dev.Same.both) | (unfold Dev.Same; dsimp only [partOf_false]) | dsimp only

theorem Dev.writeUiMode_same {d : Dev} (u : Nat) (v : Nat) (hk : d.Same gm gf ge gs gn gt r₀) :
    (Dev.writeUiMode d u v).Same gm gf ge gs gn gt r₀ := by
  unfold Dev.writeUiMode
  repeat' first | (with_reducible first | assumption | apply Dev.measReject_same | apply Dev.writeFlds_same | apply Dev.Same.both | refine ite_same ?_ ?_) | split | (unfold Dev.Same; dsimp only [partOf_false]) | dsimp only

theorem Dev.writeUiGainSh_same {d : Dev} (u : Nat) (v : Nat) (hk : d.Same gm false ge gs gn gt r₀) :
    (Dev.writeUiGainSh d u v).Same gm false ge gs gn gt r₀ := by
  unfold Dev.writeUiGainSh
  repeat' first | (with_reducible first | assumption | apply Dev.writeFlds_same | apply Dev.dput_same | apply Dev.Same.both (gf := false) | refine ite_same ?_ ?_) | split | (unfold Dev.Same; dsimp only [partOf_false]) | dsimp only

theorem Dev.writeConvCtrl_same {d : Dev} (c : Nat) (v : Nat) (hk : d.Same gm false ge gs gn gt r₀) :
    (Dev.writeConvCtrl d c v).Same gm false ge gs gn gt r₀ := by
  unfold Dev.writeConvCtrl
  repeat' first | (with_reducible first | assumption | apply Dev.setConv_same | apply Dev.writeFlds_same | apply Dev.Same.both (gf := false) | refine ite_same ?_ ?_) | split | (unfold Dev.Same; dsimp only [partOf_false]) | dsimp only

theorem Dev.stopChannel_same {d : Dev} (h : Nat) (hk : d.Same gm false ge gs gn gt r₀) :
    (Dev.stopChannel d h).Same gm false ge gs gn gt r₀ := by
  unfold Dev.stopChannel
  repeat' first | (with_reducible first | assumption | intro _ | apply Dev.endUrgent_same | apply Dev.nextVisit_same | apply Dev.setConv_same | apply Dev.fail_same | apply Dev.Same.both (gf := false) | refine ite_same ?_ ?_ | refine foldl_same (fun _ _ _ => ?_) ?_ _ | refine foldl_snd2_same (fun _ _ _ => ?_) ?_ _ | refine foldl_snd_same (fun _ _ _ => ?_) ?_ _ | refine foldl_fst_same (fun _ _ _ => ?_) ?_ _) | split | (unfold Dev.Same; dsimp only [partOf_false]) | dsimp only

theorem Dev.switchUi_same {d : Dev} (u : Nat) (tick : Nat) (hk : d.Same gm false ge gs gn gt r₀) :
    (Dev.switchUi d u tick).Same gm false ge gs gn gt r₀ := by
  unfold Dev.switchUi
  repeat' first | (with_reducible first | assumption | intro _ | apply Dev.stopChannel_same | apply Dev.uiFaultEvent_same | apply Dev.dput_same | apply Dev.Same.both (gf := false) | refine ite_same ?_ ?_) | split | (unfold Dev.Same; dsimp only [partOf_false]) | dsimp only

theorem Dev.switchUis_same {d : Dev} (k : Nat) (tick : Nat) (hk : d.Same gm false ge gs gn gt r₀) :
    (Dev.switchUis d k tick).Same gm false ge gs gn gt r₀ := by
  unfold Dev.switchUis
  repeat' first | (with_reducible first | assumption | intro _ | apply Dev.switchUi_same | apply Dev.Same.both (gf := false) | refine foldl_same (fun _ _ _ => ?_) ?_ _ | refine foldl_snd2_same (fun _ _ _ => ?_) ?_ _ | refine foldl_snd_same (fun _ _ _ => ?_) ?_ _ | refine foldl_fst_same (fun _ _ _ => ?_) ?_ _) | (unfold Dev.Same; dsimp only [partOf_false]) | dsimp only

theorem Dev.latchMeas_same {d : Dev} (k : Nat) (tick : Nat) (hk : d.Same gm false ge gs gn gt r₀) :
    (Dev.latchMeas d k tick).Same gm false ge gs gn gt r₀ := by
  unfold Dev.latchMeas
  repeat' first | (with_reducible first | assumption | intro _ | apply Dev.nextCal_same | apply Dev.done_same | apply Dev.Same.both (gf := false) | refine foldl_same (fun _ _ _ => ?_) ?_ _ | refine foldl_snd2_same (fun _ _ _ => ?_) ?_ _ | refine foldl_snd_same (fun _ _ _ => ?_) ?_ _ | refine foldl_fst_same (fun _ _ _ => ?_) ?_ _) | split | (unfold Dev.Same; dsimp only [partOf_false]) | dsimp only

theorem Dev.takeSlots_same {d : Dev} (l : List (Nat × Nat × VW × Nat)) (hk : d.Same gm false ge gs gn gt r₀) :
    (Dev.takeSlots d l).Same gm false ge gs gn gt r₀ := by
  unfold Dev.takeSlots
  repeat' first | (with_reducible first | assumption | intro _ | apply Dev.put_same | apply Dev.Same.both (gf := false) | refine foldl_same (fun _ _ _ => ?_) ?_ _ | refine foldl_snd2_same (fun _ _ _ => ?_) ?_ _ | refine foldl_snd_same (fun _ _ _ => ?_) ?_ _ | refine foldl_fst_same (fun _ _ _ => ?_) ?_ _) | (unfold Dev.Same; dsimp only [partOf_false]) | dsimp only

/-! ### Dio -/

theorem Dev.setDi_same {d : Dev} (i : Nat) (x : DiSt) (hk : d.Same gm false ge gs gn gt r₀) :
    (Dev.setDi d i x).Same gm false ge gs gn gt r₀ := by
  unfold Dev.setDi
  repeat' first | (with_reducible first | assumption | apply Dev.Same.both (gf := false)) | (unfold Dev.Same; dsimp only [partOf_false]) | dsimp only

theorem Dev.diApplyCfg_same {d : Dev} (i : Nat) (hk : d.Same gm false ge gs gn gt r₀) :
    (Dev.diApplyCfg d i).Same gm false ge gs gn gt r₀ := by
  unfold Dev.diApplyCfg
  repeat' first | (with_reducible first | assumption | intro _ | apply Dev.setDi_same | apply Dev.Same.both (gf := false) | refine ite_same ?_ ?_) | split | (unfold Dev.Same; dsimp only [partOf_false]) | dsimp only

theorem Dev.setDo_same {d : Dev} (o : Nat) (x : DoSt) (hk : d.Same gm false ge gs gn gt r₀) :
    (Dev.setDo d o x).Same gm false ge gs gn gt r₀ := by
  unfold Dev.setDo
  repeat' first | (with_reducible first | assumption | apply Dev.Same.both (gf := false)) | (unfold Dev.Same; dsimp only [partOf_false]) | dsimp only

theorem Dev.doCommand_same {d : Dev} (o : Nat) (b : Bool) (hk : d.Same gm false ge gs gn gt r₀) :
    (Dev.doCommand d o b).Same gm false ge gs gn gt r₀ := by
  unfold Dev.doCommand
  repeat' first | (with_reducible first | assumption | apply Dev.setDo_same | apply Dev.Same.both (gf := false) | refine ite_same ?_ ?_) | split | (unfold Dev.Same; dsimp only [partOf_false]) | dsimp only

theorem Dev.allDosOff_same {d : Dev} (k : Nat) (hk : d.Same gm false ge gs gn gt r₀) :
    (Dev.allDosOff d k).Same gm false ge gs gn gt r₀ := by
  unfold Dev.allDosOff
  repeat' first | (with_reducible first | assumption | intro _ | apply Dev.setDo_same | apply Dev.Same.both (gf := false) | refine foldl_same (fun _ _ _ => ?_) ?_ _ | refine foldl_snd2_same (fun _ _ _ => ?_) ?_ _ | refine foldl_snd_same (fun _ _ _ => ?_) ?_ _ | refine foldl_fst_same (fun _ _ _ => ?_) ?_ _) | (unfold Dev.Same; dsimp only [partOf_false]) | dsimp only

theorem Dev.doFault_same {d : Dev} (o : Nat) (hk : d.Same gm false ge gs gn gt r₀) :
    (Dev.doFault d o).Same gm false ge gs gn gt r₀ := by
  unfold Dev.doFault
  repeat' first | (with_reducible first | assumption | apply Dev.dieRaise_same | apply Dev.Same.both (gf := false) | refine ite_same ?_ ?_) | split | (unfold Dev.Same; dsimp only [partOf_false]) | dsimp only

theorem Dev.doRecovered_same {d : Dev} (o : Nat) (left : DoState) (hk : d.Same gm false ge gs gn gt r₀) :
    (Dev.doRecovered d o left).Same gm false ge gs gn gt r₀ := by
  unfold Dev.doRecovered
  repeat' first | (with_reducible first | assumption | apply Dev.dieRaise_same | apply Dev.Same.both (gf := false)) | (unfold Dev.Same; dsimp only [partOf_false]) | dsimp only

theorem Dev.setFloat_same {d : Dev} (f : Nat) (x : FloatSt) (hk : d.Same gm false ge gs gn gt r₀) :
    (Dev.setFloat d f x).Same gm false ge gs gn gt r₀ := by
  unfold Dev.setFloat
  repeat' first | (with_reducible first | assumption | apply Dev.Same.both (gf := false)) | (unfold Dev.Same; dsimp only [partOf_false]) | dsimp only

theorem Dev.floatDrivePair_same {d : Dev} (f : Nat) (hk : d.Same gm false ge gs gn gt r₀) :
    (Dev.floatDrivePair d f).Same gm false ge gs gn gt r₀ := by
  unfold Dev.floatDrivePair
  repeat' first | (with_reducible first | assumption | apply Dev.doCommand_same | apply Dev.Same.both (gf := false)) | (unfold Dev.Same; dsimp only [partOf_false]) | dsimp only

theorem Dev.floatGo_same {d : Dev} (f : Nat) (dir : FloatDrive) (hk : d.Same gm false ge gs gn gt r₀) :
    (Dev.floatGo d f dir).Same gm false ge gs gn gt r₀ := by
  unfold Dev.floatGo
  repeat' first | (with_reducible first | assumption | apply Dev.floatDrivePair_same | apply Dev.setFloat_same | apply Dev.Same.both (gf := false) | refine ite_same ?_ ?_) | split | (unfold Dev.Same; dsimp only [partOf_false]) | dsimp only

theorem Dev.floatHalt_same {d : Dev} (f : Nat) (hk : d.Same gm false ge gs gn gt r₀) :
    (Dev.floatHalt d f).Same gm false ge gs gn gt r₀ := by
  unfold Dev.floatHalt
  repeat' first | (with_reducible first | assumption | apply Dev.floatDrivePair_same | apply Dev.setFloat_same | apply Dev.Same.both (gf := false)) | (unfold Dev.Same; dsimp only [partOf_false]) | dsimp only

theorem Dev.floatTarget_same {d : Dev} (f : Nat) (target : Nat) (hk : d.Same gm false ge gs gn gt r₀) :
    (Dev.floatTarget d f target).Same gm false ge gs gn gt r₀ := by
  unfold Dev.floatTarget
  repeat' first | (with_reducible first | assumption | apply Dev.floatHalt_same | apply Dev.floatGo_same | apply Dev.setFloat_same | apply Dev.Same.both (gf := false) | refine ite_same ?_ ?_) | split | (unfold Dev.Same; dsimp only [partOf_false]) | dsimp only

theorem Dev.floatRun_same {d : Dev} (f : Nat) (hk : d.Same gm false ge gs gn gt r₀) :
    (Dev.floatRun d f).Same gm false ge gs gn gt r₀ := by
  unfold Dev.floatRun
  repeat' first | (with_reducible first | assumption | apply Dev.setFloat_same | apply Dev.Same.both (gf := false) | refine ite_same ?_ ?_) | split | (unfold Dev.Same; dsimp only [partOf_false]) | dsimp only

theorem Dev.floatFault_same {d : Dev} (f : Nat) (cause : Nat) (hk : d.Same gm false ge gs gn gt r₀) :
    (Dev.floatFault d f cause).Same gm false ge gs gn gt r₀ := by
  unfold Dev.floatFault
  repeat' first | (with_reducible first | assumption | apply Dev.floatHalt_same | apply Dev.setFloat_same | apply Dev.dieRaise_same | apply Dev.Same.both (gf := false)) | (unfold Dev.Same; dsimp only [partOf_false]) | dsimp only

theorem Dev.doFaultFloat_same {d : Dev} (o : Nat) (hk : d.Same gm false ge gs gn gt r₀) :
    (Dev.doFaultFloat d o).Same gm false ge gs gn gt r₀ := by
  unfold Dev.doFaultFloat
  repeat' first | (with_reducible first | assumption | apply Dev.floatFault_same | apply Dev.Same.both (gf := false) | refine ite_same ?_ ?_) | split | (unfold Dev.Same; dsimp only [partOf_false]) | dsimp only

theorem Dev.doMirror_same {d : Dev} (o : Nat) (hk : d.Same gm false ge gs gn gt r₀) :
    (Dev.doMirror d o).Same gm false ge gs gn gt r₀ := by
  unfold Dev.doMirror
  repeat' first | (with_reducible first | assumption | apply Dev.setDo_same | apply Dev.Same.both (gf := false) | refine ite_same ?_ ?_) | split | (unfold Dev.Same; dsimp only [partOf_false]) | dsimp only

theorem Dev.doTrip_same {d : Dev} (o : Nat) (st : DoState) (ma : Nat) (hk : d.Same gm false ge gs gn gt r₀) :
    (Dev.doTrip d o st ma).Same gm false ge gs gn gt r₀ := by
  unfold Dev.doTrip
  repeat' first | (with_reducible first | assumption | apply Dev.doMirror_same | apply Dev.doFaultFloat_same | apply Dev.doFault_same | apply Dev.setDo_same | apply Dev.Same.both (gf := false) | refine ite_same ?_ ?_) | split | (unfold Dev.Same; dsimp only [partOf_false]) | dsimp only

theorem Dev.darkOff_same {d : Dev} (k : Nat) (i : Nat) (hk : d.Same gm false ge gs gn gt r₀) :
    (Dev.darkOff d k i).Same gm false ge gs gn gt r₀ := by
  unfold Dev.darkOff
  repeat' first | (with_reducible first | assumption | apply Dev.doCommand_same | apply Dev.setDo_same | apply Dev.Same.both (gf := false)) | (unfold Dev.Same; dsimp only [partOf_false]) | dsimp only

theorem Dev.darkBegin_same {d : Dev} (k : Nat) (i : Nat) (hk : d.Same gm false ge gs gn gt r₀) :
    (Dev.darkBegin d k i).Same gm false ge gs gn gt r₀ := by
  unfold Dev.darkBegin
  repeat' first | (with_reducible first | assumption | apply Dev.darkOff_same | apply Dev.setFd_same | apply Dev.Same.both (gf := false)) | (unfold Dev.Same; dsimp only [partOf_false]) | dsimp only

theorem Dev.darkNowEnd_same {d : Dev} (id : Nat) (hk : d.Same gm gf ge gs gn gt r₀) :
    (Dev.darkNowEnd d id).Same gm gf ge gs gn gt r₀ := by
  unfold Dev.darkNowEnd
  repeat' first | (with_reducible first | assumption | intro _ | apply Dev.done_same | apply Dev.Same.both | refine ite_same ?_ ?_ | refine foldl_same (fun _ _ _ => ?_) ?_ _ | refine foldl_snd2_same (fun _ _ _ => ?_) ?_ _ | refine foldl_snd_same (fun _ _ _ => ?_) ?_ _ | refine foldl_fst_same (fun _ _ _ => ?_) ?_ _) | split | (unfold Dev.Same; dsimp only [partOf_false]) | dsimp only

theorem Dev.darkOver_same {d : Dev} (k : Nat) (found : Nat) (hk : d.Same gm false ge gs gn gt r₀) :
    (Dev.darkOver d k found).Same gm false ge gs gn gt r₀ := by
  unfold Dev.darkOver
  repeat' first | (with_reducible first | assumption | apply Dev.setFd_same | apply Dev.Same.both (gf := false) | refine ite_same ?_ ?_) | split | (unfold Dev.Same; dsimp only [partOf_false]) | dsimp only

theorem Dev.darkRestore_same {d : Dev} (o : Nat) (hk : d.Same gm false ge gs gn gt r₀) :
    (Dev.darkRestore d o).Same gm false ge gs gn gt r₀ := by
  unfold Dev.darkRestore
  repeat' first | (with_reducible first | assumption | apply Dev.doCommand_same | apply Dev.setDo_same | apply Dev.Same.both (gf := false)) | (unfold Dev.Same; dsimp only [partOf_false]) | dsimp only

theorem Dev.doCross_same {d : Dev} (o : Nat) (partner : Nat) (hk : d.Same gm false ge gs gn gt r₀) :
    (Dev.doCross d o partner).Same gm false ge gs gn gt r₀ := by
  unfold Dev.doCross
  repeat' first | (with_reducible first | assumption | apply Dev.doMirror_same | apply Dev.doFaultFloat_same | apply Dev.doFault_same | apply Dev.setDo_same | apply Dev.Same.both (gf := false)) | (unfold Dev.Same; dsimp only [partOf_false]) | dsimp only

theorem Dev.darkForced_same {d : Dev} (o : Nat) (hk : d.Same gm false ge gs gn gt r₀) :
    (Dev.darkForced d o).Same gm false ge gs gn gt r₀ := by
  unfold Dev.darkForced
  repeat' first | (with_reducible first | assumption | apply Dev.doMirror_same | apply Dev.doFaultFloat_same | apply Dev.doFault_same | apply Dev.setDo_same | apply Dev.Same.both (gf := false)) | (unfold Dev.Same; dsimp only [partOf_false]) | dsimp only

theorem Dev.darkBoundary_same {d : Dev} (k : Nat) (hk : d.Same gm false ge gs gn gt r₀) :
    (Dev.darkBoundary d k).Same gm false ge gs gn gt r₀ := by
  unfold Dev.darkBoundary
  repeat' first | (with_reducible first | assumption | apply Dev.darkNowEnd_same | apply Dev.darkBegin_same | apply Dev.darkOff_same | apply Dev.setFd_same | apply Dev.Same.both (gf := false) | refine ite_same ?_ ?_) | split | (unfold Dev.Same; dsimp only [partOf_false]) | dsimp only

theorem Dev.darkLeave_same {d : Dev} (k : Nat) (hk : d.Same gm false ge gs gn gt r₀) :
    (Dev.darkLeave d k).Same gm false ge gs gn gt r₀ := by
  unfold Dev.darkLeave
  repeat' first | (with_reducible first | assumption | apply Dev.darkRestore_same | apply Dev.setFd_same | apply Dev.Same.both (gf := false)) | split | (unfold Dev.Same; dsimp only [partOf_false]) | dsimp only

theorem Dev.applyDio_same {d : Dev} (k : Nat) (dos : Nat) (floats : List Nat) (hk : d.Same gm false ge gs gn gt r₀) :
    (Dev.applyDio d k dos floats).Same gm false ge gs gn gt r₀ := by
  unfold Dev.applyDio
  repeat' first | (with_reducible first | assumption | intro _ | apply Dev.floatTarget_same | apply Dev.doCommand_same | apply Dev.Same.both (gf := false) | refine ite_same ?_ ?_ | refine foldl_same (fun _ _ _ => ?_) ?_ _ | refine foldl_snd2_same (fun _ _ _ => ?_) ?_ _ | refine foldl_snd_same (fun _ _ _ => ?_) ?_ _ | refine foldl_fst_same (fun _ _ _ => ?_) ?_ _) | split | (unfold Dev.Same; dsimp only [partOf_false]) | dsimp only

theorem Dev.floatSafe_same {d : Dev} (f : Nat) (dir : FloatDrive) (hk : d.Same gm false ge gs gn gt r₀) :
    (Dev.floatSafe d f dir).Same gm false ge gs gn gt r₀ := by
  unfold Dev.floatSafe
  repeat' first | (with_reducible first | assumption | apply Dev.floatGo_same | apply Dev.setFloat_same | apply Dev.Same.both (gf := false) | refine ite_same ?_ ?_) | split | (unfold Dev.Same; dsimp only [partOf_false]) | dsimp only

theorem Dev.safeDio_same {d : Dev} (k : Nat) (hk : d.Same gm false ge gs gn gt r₀) :
    (Dev.safeDio d k).Same gm false ge gs gn gt r₀ := by
  unfold Dev.safeDio
  repeat' first | (with_reducible first | assumption | intro _ | apply Dev.floatSafe_same | apply Dev.floatHalt_same | apply Dev.doCommand_same | apply Dev.Same.both (gf := false) | refine ite_same ?_ ?_ | refine foldl_same (fun _ _ _ => ?_) ?_ _ | refine foldl_snd2_same (fun _ _ _ => ?_) ?_ _ | refine foldl_snd_same (fun _ _ _ => ?_) ?_ _ | refine foldl_fst_same (fun _ _ _ => ?_) ?_ _) | split | (unfold Dev.Same; dsimp only [partOf_false]) | dsimp only

theorem Dev.takePage0_same {d : Dev} (k : Nat) (p : List Nat) (hk : d.Same gm gf ge gs gn gt r₀) :
    (Dev.takePage0 d k p).Same gm gf ge gs gn gt r₀ := by
  unfold Dev.takePage0
  repeat' first | (with_reducible first | assumption | intro _ | apply Dev.put_same | apply Dev.Same.both | refine foldl_same (fun _ _ _ => ?_) ?_ _ | refine foldl_snd2_same (fun _ _ _ => ?_) ?_ _ | refine foldl_snd_same (fun _ _ _ => ?_) ?_ _ | refine foldl_fst_same (fun _ _ _ => ?_) ?_ _) | (unfold Dev.Same; dsimp only [partOf_false]) | dsimp only

theorem Dev.takePage1_same {d : Dev} (k : Nat) (tick : Nat) (p : List Nat) (hk : d.Same false gf ge gs gn gt r₀) :
    (Dev.takePage1 d k tick p).Same false gf ge gs gn gt r₀ := by
  unfold Dev.takePage1
  repeat' first | (with_reducible first | assumption | intro _ | apply Dev.saveWrite_same | apply Dev.produce_same | apply Dev.put_same | apply Dev.Same.both (gm := false) | refine ite_same ?_ ?_ | refine foldl_same (fun _ _ _ => ?_) ?_ _ | refine foldl_snd2_same (fun _ _ _ => ?_) ?_ _ | refine foldl_snd_same (fun _ _ _ => ?_) ?_ _ | refine foldl_fst_same (fun _ _ _ => ?_) ?_ _) | split | (unfold Dev.Same; dsimp only [partOf_false]) | dsimp only

theorem bodyDioForce_same (id : Nat) (x : Sys2Proof.Desc) {d : Dev} (hk : d.Same gm gf ge gs gn gt r₀) :
    (bodyDioForce id x d).Same gm gf ge gs gn gt r₀ := by
  unfold bodyDioForce
  repeat' first | (with_reducible first | assumption | apply Dev.post_same | apply Dev.fail_same | apply Dev.Same.both | refine ite_same ?_ ?_) | split | (unfold Dev.Same; dsimp only [partOf_false]) | dsimp only

theorem Dev.applyDioForce_same {d : Dev} (id : Nat) (x : Sys2Proof.Desc) (hk : d.Same gm gf false gs gn gt r₀) :
    (Dev.applyDioForce d id x).Same gm gf false gs gn gt r₀ := by
  unfold Dev.applyDioForce
  repeat' first | (with_reducible first | assumption | apply Dev.setForce_same | apply Dev.done_same | apply Dev.Same.both (ge := false) | refine ite_same ?_ ?_) | split | (unfold Dev.Same; dsimp only [partOf_false]) | dsimp only

theorem bodyDoClear_same (id : Nat) (x : Sys2Proof.Desc) {d : Dev} (hk : d.Same gm gf ge gs gn gt r₀) :
    (bodyDoClear id x d).Same gm gf ge gs gn gt r₀ := by
  unfold bodyDoClear
  repeat' first | (with_reducible first | assumption | apply Dev.post_same | apply Dev.fail_same | apply Dev.Same.both | refine ite_same ?_ ?_) | split | (unfold Dev.Same; dsimp only [partOf_false]) | dsimp only

theorem Dev.applyDoClear_same {d : Dev} (id : Nat) (x : Sys2Proof.Desc) (hk : d.Same gm false ge gs gn gt r₀) :
    (Dev.applyDoClear d id x).Same gm false ge gs gn gt r₀ := by
  unfold Dev.applyDoClear
  repeat' first | (with_reducible first | assumption | apply Dev.doCommand_same | apply Dev.setDo_same | apply Dev.done_same | apply Dev.put_same | apply Dev.Same.both (gf := false)) | (unfold Dev.Same; dsimp only [partOf_false]) | dsimp only

theorem bodyDarkTestNow_same (id : Nat) (x : Sys2Proof.Desc) {d : Dev} (hk : d.Same gm gf ge gs gn gt r₀) :
    (bodyDarkTestNow id x d).Same gm gf ge gs gn gt r₀ := by
  unfold bodyDarkTestNow
  repeat' first | (with_reducible first | assumption | intro _ | apply Dev.post_same | apply Dev.fail_same | apply Dev.Same.both | refine ite_same ?_ ?_ | refine foldl_same (fun _ _ _ => ?_) ?_ _ | refine foldl_snd2_same (fun _ _ _ => ?_) ?_ _ | refine foldl_snd_same (fun _ _ _ => ?_) ?_ _ | refine foldl_fst_same (fun _ _ _ => ?_) ?_ _) | split | (unfold Dev.Same; dsimp only [partOf_false]) | dsimp only

theorem Dev.applyDarkTestNow_same {d : Dev} (k : Nat) (id : Nat) (hk : d.Same gm false ge gs gn gt r₀) :
    (Dev.applyDarkTestNow d k id).Same gm false ge gs gn gt r₀ := by
  unfold Dev.applyDarkTestNow
  repeat' first | (with_reducible first | assumption | apply Dev.setFd_same | apply Dev.Same.both (gf := false)) | (unfold Dev.Same; dsimp only [partOf_false]) | dsimp only

theorem bodyFieldResume_same (id : Nat) (x : Sys2Proof.Desc) {d : Dev} (hk : d.Same gm gf ge gs gn gt r₀) :
    (bodyFieldResume id x d).Same gm gf ge gs gn gt r₀ := by
  unfold bodyFieldResume
  repeat' first | (with_reducible first | assumption | apply Dev.post_same | apply Dev.done_same | apply Dev.fail_same | apply Dev.Same.both | refine ite_same ?_ ?_) | split | (unfold Dev.Same; dsimp only [partOf_false]) | dsimp only

theorem Dev.applyFieldResume_same {d : Dev} (id : Nat) (k : Nat) (hk : d.Same gm false ge gs gn gt r₀) :
    (Dev.applyFieldResume d id k).Same gm false ge gs gn gt r₀ := by
  unfold Dev.applyFieldResume
  repeat' first | (with_reducible first | assumption | apply Dev.setFd_same | apply Dev.done_same | apply Dev.Same.both (gf := false) | refine ite_same ?_ ?_) | split | (unfold Dev.Same; dsimp only [partOf_false]) | dsimp only

/-! ### Pos -/

theorem Dev.setPos_same {d : Dev} (p : Nat) (x : PosSt) (hk : d.Same gm false ge gs gn gt r₀) :
    (Dev.setPos d p x).Same gm false ge gs gn gt r₀ := by
  unfold Dev.setPos
  repeat' first | (with_reducible first | assumption | apply Dev.Same.both (gf := false)) | (unfold Dev.Same; dsimp only [partOf_false]) | dsimp only

theorem Dev.setEmu_same {d : Dev} (e : Nat) (x : EmuSt) (hk : d.Same gm false ge gs gn gt r₀) :
    (Dev.setEmu d e x).Same gm false ge gs gn gt r₀ := by
  unfold Dev.setEmu
  repeat' first | (with_reducible first | assumption | apply Dev.Same.both (gf := false)) | (unfold Dev.Same; dsimp only [partOf_false]) | dsimp only

theorem Dev.posFaultEvent_same {d : Dev} (p : Nat) (on : Bool) (cause : Nat) (hk : d.Same gm false ge gs gn gt r₀) :
    (Dev.posFaultEvent d p on cause).Same gm false ge gs gn gt r₀ := by
  unfold Dev.posFaultEvent
  repeat' first | (with_reducible first | assumption | apply Dev.dieRaise_same | apply Dev.Same.both (gf := false) | refine ite_same ?_ ?_) | split | (unfold Dev.Same; dsimp only [partOf_false]) | dsimp only

theorem Dev.posFault_same {d : Dev} (p : Nat) (cause : Nat) (hk : d.Same gm false ge gs gn gt r₀) :
    (Dev.posFault d p cause).Same gm false ge gs gn gt r₀ := by
  unfold Dev.posFault
  repeat' first | (with_reducible first | assumption | apply Dev.posFaultEvent_same | apply Dev.setPos_same | apply Dev.Same.both (gf := false) | refine ite_same ?_ ?_) | split | (unfold Dev.Same; dsimp only [partOf_false]) | dsimp only

theorem Dev.posClear_same {d : Dev} (p : Nat) (causes : List Nat) (hk : d.Same gm false ge gs gn gt r₀) :
    (Dev.posClear d p causes).Same gm false ge gs gn gt r₀ := by
  unfold Dev.posClear
  repeat' first | (with_reducible first | assumption | apply Dev.posFaultEvent_same | apply Dev.setPos_same | apply Dev.Same.both (gf := false) | refine ite_same ?_ ?_) | split | (unfold Dev.Same; dsimp only [partOf_false]) | dsimp only

theorem Dev.emuAlign_same {d : Dev} (e : Nat) (hk : d.Same gm false ge gs gn gt r₀) :
    (Dev.emuAlign d e).Same gm false ge gs gn gt r₀ := by
  unfold Dev.emuAlign
  repeat' first | (with_reducible first | assumption | apply Dev.setEmu_same | apply Dev.Same.both (gf := false)) | (unfold Dev.Same; dsimp only [partOf_false]) | dsimp only

theorem Dev.emuCheckLag_same {d : Dev} (e : Nat) (hk : d.Same gm false ge gs gn gt r₀) :
    (Dev.emuCheckLag d e).Same gm false ge gs gn gt r₀ := by
  unfold Dev.emuCheckLag
  repeat' first | (with_reducible first | assumption | intro _ | apply Dev.setEmu_same | apply Dev.dieRaise_same | apply Dev.Same.both (gf := false) | refine ite_same ?_ ?_) | split | (unfold Dev.Same; dsimp only [partOf_false]) | dsimp only

theorem Dev.emuSense_same {d : Dev} (e : Nat) (hk : d.Same gm false ge gs gn gt r₀) :
    (Dev.emuSense d e).Same gm false ge gs gn gt r₀ := by
  unfold Dev.emuSense
  repeat' first | (with_reducible first | assumption | apply Dev.emuCheckLag_same | apply Dev.emuAlign_same | apply Dev.setEmu_same | apply Dev.Same.both (gf := false) | refine ite_same ?_ ?_) | split | (unfold Dev.Same; dsimp only [partOf_false]) | dsimp only

theorem Dev.emuFollow_same {d : Dev} (p : Nat) (hk : d.Same gm false ge gs gn gt r₀) :
    (Dev.emuFollow d p).Same gm false ge gs gn gt r₀ := by
  unfold Dev.emuFollow
  repeat' first | (with_reducible first | assumption | intro _ | apply Dev.emuSense_same | apply Dev.Same.both (gf := false) | refine foldl_same (fun _ _ _ => ?_) ?_ _ | refine foldl_snd2_same (fun _ _ _ => ?_) ?_ _ | refine foldl_snd_same (fun _ _ _ => ?_) ?_ _ | refine foldl_fst_same (fun _ _ _ => ?_) ?_ _) | (unfold Dev.Same; dsimp only [partOf_false]) | dsimp only

theorem Dev.emuDrive_same {d : Dev} (e : Nat) (hk : d.Same gm gf ge gs gn gt r₀) :
    (Dev.emuDrive d e).Same gm gf ge gs gn gt r₀ := by
  unfold Dev.emuDrive
  repeat' first | (with_reducible first | assumption | intro _ | apply Dev.emit_same | apply Dev.Same.both | refine ite_same ?_ ?_) | split | (unfold Dev.Same; dsimp only [partOf_false]) | dsimp only

theorem Dev.emuRefresh_same {d : Dev} (k : Nat) (hk : d.Same gm gf ge gs gn gt r₀) :
    (Dev.emuRefresh d k).Same gm gf ge gs gn gt r₀ := by
  unfold Dev.emuRefresh
  repeat' first | (with_reducible first | assumption | intro _ | apply Dev.emuDrive_same | apply Dev.Same.both | refine foldl_same (fun _ _ _ => ?_) ?_ _ | refine foldl_snd2_same (fun _ _ _ => ?_) ?_ _ | refine foldl_snd_same (fun _ _ _ => ?_) ?_ _ | refine foldl_fst_same (fun _ _ _ => ?_) ?_ _) | (unfold Dev.Same; dsimp only [partOf_false]) | dsimp only

theorem Dev.posEvaluate_same {d : Dev} (p : Nat) (hk : d.Same gm false ge gs gn gt r₀) :
    (Dev.posEvaluate d p).Same gm false ge gs gn gt r₀ := by
  unfold Dev.posEvaluate
  repeat' first | (with_reducible first | assumption | apply Dev.setPos_same | apply Dev.Same.both (gf := false) | refine ite_same ?_ ?_) | split | (unfold Dev.Same; dsimp only [partOf_false]) | dsimp only

theorem Dev.posCheckBegin_same {d : Dev} (p : Nat) (trigger : Nat) (desc : Option Nat) (hk : d.Same gm false ge gs gn gt r₀) :
    (Dev.posCheckBegin d p trigger desc).Same gm false ge gs gn gt r₀ := by
  unfold Dev.posCheckBegin
  repeat' first | (with_reducible first | assumption | apply Dev.setPos_same | apply Dev.Same.both (gf := false) | refine ite_same ?_ ?_) | split | (unfold Dev.Same; dsimp only [partOf_false]) | dsimp only

theorem Dev.posCheckRecover_same {d : Dev} (p : Nat) (hk : d.Same gm false ge gs gn gt r₀) :
    (Dev.posCheckRecover d p).Same gm false ge gs gn gt r₀ := by
  unfold Dev.posCheckRecover
  repeat' first | (with_reducible first | assumption | apply Dev.posCheckBegin_same | apply Dev.Same.both (gf := false) | refine ite_same ?_ ?_) | split | (unfold Dev.Same; dsimp only [partOf_false]) | dsimp only

theorem Dev.posCheckEnd_same {d : Dev} (p : Nat) (c : PosCheck) (mismatch : Bool) (counts : Nat) (hk : d.Same gm false ge gs gn gt r₀) :
    (Dev.posCheckEnd d p c mismatch counts).Same gm false ge gs gn gt r₀ := by
  unfold Dev.posCheckEnd
  repeat' first | (with_reducible first | assumption | apply Dev.posClear_same | apply Dev.posFault_same | apply Dev.setPos_same | apply Dev.dieRaise_same | apply Dev.finish_same | apply Dev.Same.both (gf := false) | refine ite_same ?_ ?_) | split | (unfold Dev.Same; dsimp only [partOf_false]) | dsimp only

theorem Dev.posInterval_same {d : Dev} (p : Nat) (hk : d.Same gm false ge gs gn gt r₀) :
    (Dev.posInterval d p).Same gm false ge gs gn gt r₀ := by
  unfold Dev.posInterval
  repeat' first | (with_reducible first | assumption | intro _ | apply Dev.posCheckEnd_same | apply Dev.setPos_same | apply Dev.Same.both (gf := false) | refine ite_same ?_ ?_) | split | (unfold Dev.Same; dsimp only [partOf_false]) | dsimp only

theorem Dev.posReadFault_same {d : Dev} (p : Nat) (cause : Nat) (hk : d.Same gm false ge gs gn gt r₀) :
    (Dev.posReadFault d p cause).Same gm false ge gs gn gt r₀ := by
  unfold Dev.posReadFault
  repeat' first | (with_reducible first | assumption | apply Dev.emuFollow_same | apply Dev.posFault_same | apply Dev.setPos_same | apply Dev.Same.both (gf := false) | refine ite_same ?_ ?_) | split | (unfold Dev.Same; dsimp only [partOf_false]) | dsimp only

theorem Dev.posReadGood_same {d : Dev} (p : Nat) (w : Nat) (t : Nat) (warning : Bool) (hk : d.Same gm false ge gs gn gt r₀) :
    (Dev.posReadGood d p w t warning).Same gm false ge gs gn gt r₀ := by
  unfold Dev.posReadGood
  repeat' first | (with_reducible first | assumption | apply Dev.emuFollow_same | apply Dev.posClear_same | apply Dev.setPos_same | apply Dev.dieRaise_same | apply Dev.Same.both (gf := false) | refine ite_same ?_ ?_) | split | (unfold Dev.Same; dsimp only [partOf_false]) | dsimp only

theorem bodyPosPreset_same (id : Nat) (x : Sys2Proof.Desc) {d : Dev} (hk : d.Same gm gf ge gs gn gt r₀) :
    (bodyPosPreset id x d).Same gm gf ge gs gn gt r₀ := by
  unfold bodyPosPreset
  repeat' first | (with_reducible first | assumption | apply Dev.post_same | apply Dev.fail_same | apply Dev.Same.both | refine ite_same ?_ ?_) | split | (unfold Dev.Same; dsimp only [partOf_false]) | dsimp only

theorem Dev.applyPosPreset_same {d : Dev} (id : Nat) (x : Sys2Proof.Desc) (hk : d.Same gm false ge gs gn gt r₀) :
    (Dev.applyPosPreset d id x).Same gm false ge gs gn gt r₀ := by
  unfold Dev.applyPosPreset
  repeat' first | (with_reducible first | assumption | apply Dev.emuFollow_same | apply Dev.posClear_same | apply Dev.setPos_same | apply Dev.done_same | apply Dev.fail_same | apply Dev.Same.both (gf := false) | refine ite_same ?_ ?_) | split | (unfold Dev.Same; dsimp only [partOf_false]) | dsimp only

theorem bodyPosCheck_same (id : Nat) (x : Sys2Proof.Desc) {d : Dev} (hk : d.Same gm gf ge gs gn gt r₀) :
    (bodyPosCheck id x d).Same gm gf ge gs gn gt r₀ := by
  unfold bodyPosCheck
  repeat' first | (with_reducible first | assumption | apply Dev.post_same | apply Dev.fail_same | apply Dev.Same.both | refine ite_same ?_ ?_) | split | (unfold Dev.Same; dsimp only [partOf_false]) | dsimp only

theorem Dev.applyPosCheck_same {d : Dev} (id : Nat) (x : Sys2Proof.Desc) (hk : d.Same gm false ge gs gn gt r₀) :
    (Dev.applyPosCheck d id x).Same gm false ge gs gn gt r₀ := by
  unfold Dev.applyPosCheck
  repeat' first | (with_reducible first | assumption | apply Dev.posCheckBegin_same | apply Dev.fail_same | apply Dev.Same.both (gf := false) | refine ite_same ?_ ?_) | split | (unfold Dev.Same; dsimp only [partOf_false]) | dsimp only

theorem bodyEmuForce_same (id : Nat) (x : Sys2Proof.Desc) {d : Dev} (hk : d.Same gm gf ge gs gn gt r₀) :
    (bodyEmuForce id x d).Same gm gf ge gs gn gt r₀ := by
  unfold bodyEmuForce
  repeat' first | (with_reducible first | assumption | apply Dev.post_same | apply Dev.fail_same | apply Dev.Same.both | refine ite_same ?_ ?_) | split | (unfold Dev.Same; dsimp only [partOf_false]) | dsimp only

theorem Dev.emuRealign_same {d : Dev} (e : Nat) (hk : d.Same gm false ge gs gn gt r₀) :
    (Dev.emuRealign d e).Same gm false ge gs gn gt r₀ := by
  unfold Dev.emuRealign
  repeat' first | (with_reducible first | assumption | apply Dev.emuCheckLag_same | apply Dev.emuAlign_same | apply Dev.Same.both (gf := false)) | (unfold Dev.Same; dsimp only [partOf_false]) | dsimp only

theorem Dev.applyEmuForce_same {d : Dev} (id : Nat) (x : Sys2Proof.Desc) (hk : d.Same gm false false gs gn gt r₀) :
    (Dev.applyEmuForce d id x).Same gm false false gs gn gt r₀ := by
  unfold Dev.applyEmuForce
  repeat' first | (with_reducible first | assumption | apply Dev.emuRealign_same | apply Dev.setForce_same | apply Dev.done_same | apply Dev.Same.both (gf := false) (ge := false) | refine ite_same ?_ ?_) | split | (unfold Dev.Same; dsimp only [partOf_false]) | dsimp only

theorem settlePos_same (id : Nat) (r : Rec) {d : Dev} (hk : d.Same gm gf ge gs gn gt r₀) :
    (settlePos id r d).Same gm gf ge gs gn gt r₀ := by
  unfold settlePos
  repeat' first | (with_reducible first | assumption | apply Dev.post_same | apply Dev.Same.both) | (unfold Dev.Same; dsimp only [partOf_false]) | dsimp only

theorem Dev.applyPosAbort_same {d : Dev} (id : Nat) (target : Nat) (hk : d.Same gm false ge gs gn gt r₀) :
    (Dev.applyPosAbort d id target).Same gm false ge gs gn gt r₀ := by
  unfold Dev.applyPosAbort
  repeat' first | (with_reducible first | assumption | apply Dev.setPos_same | apply Dev.done_same | apply Dev.fail_same | apply Dev.Same.both (gf := false) | refine ite_same ?_ ?_) | split | (unfold Dev.Same; dsimp only [partOf_false]) | dsimp only

theorem bodyPosAbort_same (id : Nat) (x : Sys2Proof.Desc) {d : Dev} (hk : d.Same gm gf ge gs gn gt r₀) :
    (bodyPosAbort id x d).Same gm gf ge gs gn gt r₀ := by
  unfold bodyPosAbort
  repeat' first | (with_reducible first | assumption | apply settlePos_same | apply Dev.abortDesc_same | apply Dev.fail_same | apply Dev.Same.both | refine ite_same ?_ ?_) | split | (unfold Dev.Same; dsimp only [partOf_false]) | dsimp only

theorem Dev.posRestart_same {d : Dev} (p : Nat) (hk : d.Same gm false ge gs gn gt r₀) :
    (Dev.posRestart d p).Same gm false ge gs gn gt r₀ := by
  unfold Dev.posRestart
  repeat' first | (with_reducible first | assumption | intro _ | apply Dev.posClear_same | apply Dev.setPos_same | apply Dev.dieRaise_same | apply Dev.Same.both (gf := false) | refine ite_same ?_ ?_) | split | (unfold Dev.Same; dsimp only [partOf_false]) | dsimp only

theorem Dev.posApplyWrite_same {d : Dev} (off : Nat) (p : Nat) (v : Nat) (plain : Dev → Dev) (hk : d.Same gm false ge gs gn gt r₀) (hfplain : ∀ (x0 : Dev), x0.Same gm false ge gs gn gt r₀ → (plain x0).Same gm false ge gs gn gt r₀) :
    (Dev.posApplyWrite d off p v plain).Same gm false ge gs gn gt r₀ := by
  unfold Dev.posApplyWrite
  repeat' first | (with_reducible first | assumption | intro _ | apply Dev.posRestart_same | apply Dev.emuFollow_same | apply Dev.setPos_same | apply Dev.dput_same | apply hfplain | apply Dev.Same.both (gf := false) | refine ite_same ?_ ?_) | split | (unfold Dev.Same; dsimp only [partOf_false]) | dsimp only

theorem Dev.emuApplyCfg_same {d : Dev} (e : Nat) (plain : Dev → Dev) (hk : d.Same gm false ge gs gn gt r₀) (hfplain : ∀ (x0 : Dev), x0.Same gm false ge gs gn gt r₀ → (plain x0).Same gm false ge gs gn gt r₀) :
    (Dev.emuApplyCfg d e plain).Same gm false ge gs gn gt r₀ := by
  unfold Dev.emuApplyCfg
  repeat' first | (with_reducible first | assumption | intro _ | apply Dev.emuRealign_same | apply Dev.emuDrive_same | apply Dev.emuSense_same | apply hfplain | apply Dev.Same.both (gf := false) | refine ite_same ?_ ?_) | split | (unfold Dev.Same; dsimp only [partOf_false]) | dsimp only

theorem Dev.posLeaveSafe_same {d : Dev} (k : Nat) (hk : d.Same gm false ge gs gn gt r₀) :
    (Dev.posLeaveSafe d k).Same gm false ge gs gn gt r₀ := by
  unfold Dev.posLeaveSafe
  repeat' first | (with_reducible first | assumption | intro _ | apply Dev.emuRealign_same | apply Dev.posCheckRecover_same | apply Dev.Same.both (gf := false) | refine foldl_same (fun _ _ _ => ?_) ?_ _ | refine foldl_snd2_same (fun _ _ _ => ?_) ?_ _ | refine foldl_snd_same (fun _ _ _ => ?_) ?_ _ | refine foldl_fst_same (fun _ _ _ => ?_) ?_ _) | (unfold Dev.Same; dsimp only [partOf_false]) | dsimp only

theorem Dev.posLinksUp_same {d : Dev} (hk : d.Same gm false ge gs gn gt r₀) :
    (Dev.posLinksUp d).Same gm false ge gs gn gt r₀ := by
  unfold Dev.posLinksUp
  repeat' first | (with_reducible first | assumption | intro _ | apply Dev.emuRealign_same | apply Dev.emuDrive_same | apply Dev.emuSense_same | apply Dev.setPos_same | apply Dev.Same.both (gf := false) | refine foldl_same (fun _ _ _ => ?_) ?_ _ | refine foldl_snd2_same (fun _ _ _ => ?_) ?_ _ | refine foldl_snd_same (fun _ _ _ => ?_) ?_ _ | refine foldl_fst_same (fun _ _ _ => ?_) ?_ _) | (unfold Dev.Same; dsimp only [partOf_false]) | dsimp only

theorem Dev.emuReleased_same {d : Dev} (es : List Nat) (hk : d.Same gm false ge gs gn gt r₀) :
    (Dev.emuReleased d es).Same gm false ge gs gn gt r₀ := by
  unfold Dev.emuReleased
  repeat' first | (with_reducible first | assumption | intro _ | apply Dev.emuRealign_same | apply Dev.Same.both (gf := false) | refine foldl_same (fun _ _ _ => ?_) ?_ _ | refine foldl_snd2_same (fun _ _ _ => ?_) ?_ _ | refine foldl_snd_same (fun _ _ _ => ?_) ?_ _ | refine foldl_fst_same (fun _ _ _ => ?_) ?_ _) | (unfold Dev.Same; dsimp only [partOf_false]) | dsimp only

theorem Dev.posBoundary_same {d : Dev} (k : Nat) (hk : d.Same gm false ge gs gn gt r₀) :
    (Dev.posBoundary d k).Same gm false ge gs gn gt r₀ := by
  unfold Dev.posBoundary
  repeat' first | (with_reducible first | assumption | intro _ | apply Dev.posEvaluate_same | apply Dev.Same.both (gf := false) | refine foldl_same (fun _ _ _ => ?_) ?_ _ | refine foldl_snd2_same (fun _ _ _ => ?_) ?_ _ | refine foldl_snd_same (fun _ _ _ => ?_) ?_ _ | refine foldl_fst_same (fun _ _ _ => ?_) ?_ _) | (unfold Dev.Same; dsimp only [partOf_false]) | dsimp only

theorem Dev.takePosPage_same {d : Dev} (k : Nat) (tick : Nat) (l : List Nat) (hk : d.Same gm false ge gs gn gt r₀) :
    (Dev.takePosPage d k tick l).Same gm false ge gs gn gt r₀ := by
  unfold Dev.takePosPage
  repeat' first | (with_reducible first | assumption | intro _ | apply Dev.setPos_same | apply Dev.produce_same | apply Dev.put_same | apply Dev.Same.both (gf := false) | refine foldl_same (fun _ _ _ => ?_) ?_ _ | refine foldl_snd2_same (fun _ _ _ => ?_) ?_ _ | refine foldl_snd_same (fun _ _ _ => ?_) ?_ _ | refine foldl_fst_same (fun _ _ _ => ?_) ?_ _) | (unfold Dev.Same; dsimp only [partOf_false]) | dsimp only

/-! ### FanAo -/

theorem Dev.setFan_same {d : Dev} (f : Nat) (x : FanSt) (hk : d.Same gm false ge gs gn gt r₀) :
    (Dev.setFan d f x).Same gm false ge gs gn gt r₀ := by
  unfold Dev.setFan
  repeat' first | (with_reducible first | assumption | apply Dev.Same.both (gf := false)) | (unfold Dev.Same; dsimp only [partOf_false]) | dsimp only

theorem Dev.fanTo_same {d : Dev} (f : Nat) (st : FanState) (hk : d.Same gm false ge gs gn gt r₀) :
    (Dev.fanTo d f st).Same gm false ge gs gn gt r₀ := by
  unfold Dev.fanTo
  repeat' first | (with_reducible first | assumption | apply Dev.setFan_same | apply Dev.Same.both (gf := false)) | (unfold Dev.Same; dsimp only [partOf_false]) | dsimp only

theorem Dev.fanDrive_same {d : Dev} (f : Nat) (hk : d.Same gm false ge gs gn gt r₀) :
    (Dev.fanDrive d f).Same gm false ge gs gn gt r₀ := by
  unfold Dev.fanDrive
  repeat' first | (with_reducible first | assumption | apply Dev.setFan_same | apply Dev.Same.both (gf := false) | refine ite_same ?_ ?_) | split | (unfold Dev.Same; dsimp only [partOf_false]) | dsimp only

theorem Dev.fanFailedEvent_same {d : Dev} (f : Nat) (on : Bool) (cause : Nat) (ma : Nat) (hk : d.Same gm false ge gs gn gt r₀) :
    (Dev.fanFailedEvent d f on cause ma).Same gm false ge gs gn gt r₀ := by
  unfold Dev.fanFailedEvent
  repeat' first | (with_reducible first | assumption | apply Dev.dieRaise_same | apply Dev.Same.both (gf := false) | refine ite_same ?_ ?_) | split | (unfold Dev.Same; dsimp only [partOf_false]) | dsimp only

theorem Dev.tachLostEvent_same {d : Dev} (f : Nat) (on : Bool) (cause : Nat) (ma : Nat) (hk : d.Same gm false ge gs gn gt r₀) :
    (Dev.tachLostEvent d f on cause ma).Same gm false ge gs gn gt r₀ := by
  unfold Dev.tachLostEvent
  repeat' first | (with_reducible first | assumption | apply Dev.dieRaise_same | apply Dev.Same.both (gf := false) | refine ite_same ?_ ?_) | split | (unfold Dev.Same; dsimp only [partOf_false]) | dsimp only

theorem Dev.fanRetry_same {d : Dev} (f : Nat) (cause : Nat) (ma : Nat) (hk : d.Same gm false ge gs gn gt r₀) :
    (Dev.fanRetry d f cause ma).Same gm false ge gs gn gt r₀ := by
  unfold Dev.fanRetry
  repeat' first | (with_reducible first | assumption | apply Dev.fanFailedEvent_same | apply Dev.fanTo_same | apply Dev.setFan_same | apply Dev.dieRaise_same | apply Dev.Same.both (gf := false) | refine ite_same ?_ ?_) | split | (unfold Dev.Same; dsimp only [partOf_false]) | dsimp only

theorem Dev.fanKick_same {d : Dev} (f : Nat) (hk : d.Same gm false ge gs gn gt r₀) :
    (Dev.fanKick d f).Same gm false ge gs gn gt r₀ := by
  unfold Dev.fanKick
  repeat' first | (with_reducible first | assumption | apply Dev.fanTo_same | apply Dev.setFan_same | apply Dev.Same.both (gf := false)) | (unfold Dev.Same; dsimp only [partOf_false]) | dsimp only

theorem Dev.fanOff_same {d : Dev} (f : Nat) (quiet : Bool) (hk : d.Same gm false ge gs gn gt r₀) :
    (Dev.fanOff d f quiet).Same gm false ge gs gn gt r₀ := by
  unfold Dev.fanOff
  repeat' first | (with_reducible first | assumption | apply Dev.tachLostEvent_same | apply Dev.fanFailedEvent_same | apply Dev.fanTo_same | apply Dev.Same.both (gf := false) | refine ite_same ?_ ?_) | split | (unfold Dev.Same; dsimp only [partOf_false]) | dsimp only

theorem Dev.fanBoundary_same {d : Dev} (f : Nat) (hk : d.Same gm false ge gs gn gt r₀) :
    (Dev.fanBoundary d f).Same gm false ge gs gn gt r₀ := by
  unfold Dev.fanBoundary
  repeat' first | (with_reducible first | assumption | apply Dev.fanOff_same | apply Dev.fanKick_same | apply Dev.tachLostEvent_same | apply Dev.fanDrive_same | apply Dev.fanTo_same | apply Dev.setFan_same | apply Dev.Same.both (gf := false) | refine ite_same ?_ ?_) | split | (unfold Dev.Same; dsimp only [partOf_false]) | dsimp only

theorem Dev.setAo_same {d : Dev} (a : Nat) (x : AoSt) (hk : d.Same gm false ge gs gn gt r₀) :
    (Dev.setAo d a x).Same gm false ge gs gn gt r₀ := by
  unfold Dev.setAo
  repeat' first | (with_reducible first | assumption | apply Dev.Same.both (gf := false)) | (unfold Dev.Same; dsimp only [partOf_false]) | dsimp only

theorem Dev.aoDrive_same {d : Dev} (a : Nat) (hk : d.Same gm false ge gs gn gt r₀) :
    (Dev.aoDrive d a).Same gm false ge gs gn gt r₀ := by
  unfold Dev.aoDrive
  repeat' first | (with_reducible first | assumption | apply Dev.setAo_same | apply Dev.Same.both (gf := false) | refine ite_same ?_ ?_) | split | (unfold Dev.Same; dsimp only [partOf_false]) | dsimp only

theorem Dev.aoFaultEvent_same {d : Dev} (a : Nat) (on : Bool) (hk : d.Same gm false ge gs gn gt r₀) :
    (Dev.aoFaultEvent d a on).Same gm false ge gs gn gt r₀ := by
  unfold Dev.aoFaultEvent
  repeat' first | (with_reducible first | assumption | apply Dev.dieRaise_same | apply Dev.Same.both (gf := false) | refine ite_same ?_ ?_) | split | (unfold Dev.Same; dsimp only [partOf_false]) | dsimp only

theorem Dev.applyFanAo_same {d : Dev} (k : Nat) (fans : List Nat) (aos : List Nat) (hk : d.Same gm false ge gs gn gt r₀) :
    (Dev.applyFanAo d k fans aos).Same gm false ge gs gn gt r₀ := by
  unfold Dev.applyFanAo
  repeat' first | (with_reducible first | assumption | intro _ | apply Dev.setAo_same | apply Dev.setFan_same | apply Dev.Same.both (gf := false) | refine foldl_same (fun _ _ _ => ?_) ?_ _ | refine foldl_snd2_same (fun _ _ _ => ?_) ?_ _ | refine foldl_snd_same (fun _ _ _ => ?_) ?_ _ | refine foldl_fst_same (fun _ _ _ => ?_) ?_ _) | (unfold Dev.Same; dsimp only [partOf_false]) | dsimp only

theorem Dev.safeFanAo_same {d : Dev} (k : Nat) (hk : d.Same gm false ge gs gn gt r₀) :
    (Dev.safeFanAo d k).Same gm false ge gs gn gt r₀ := by
  unfold Dev.safeFanAo
  repeat' first | (with_reducible first | assumption | intro _ | apply Dev.setAo_same | apply Dev.setFan_same | apply Dev.Same.both (gf := false) | refine foldl_same (fun _ _ _ => ?_) ?_ _ | refine foldl_snd2_same (fun _ _ _ => ?_) ?_ _ | refine foldl_snd_same (fun _ _ _ => ?_) ?_ _ | refine foldl_fst_same (fun _ _ _ => ?_) ?_ _) | split | (unfold Dev.Same; dsimp only [partOf_false]) | dsimp only

theorem Dev.fanAoDriven_same {d : Dev} (k : Nat) (hk : d.Same gm false ge gs gn gt r₀) :
    (Dev.fanAoDriven d k).Same gm false ge gs gn gt r₀ := by
  unfold Dev.fanAoDriven
  repeat' first | (with_reducible first | assumption | intro _ | apply Dev.aoDrive_same | apply Dev.setAo_same | apply Dev.fanBoundary_same | apply Dev.Same.both (gf := false) | refine ite_same ?_ ?_ | refine foldl_same (fun _ _ _ => ?_) ?_ _ | refine foldl_snd2_same (fun _ _ _ => ?_) ?_ _ | refine foldl_snd_same (fun _ _ _ => ?_) ?_ _ | refine foldl_fst_same (fun _ _ _ => ?_) ?_ _) | split | (unfold Dev.Same; dsimp only [partOf_false]) | dsimp only

theorem Dev.fanAoBoundary_same {d : Dev} (k : Nat) (aoMv : List (Nat × Nat)) (hk : d.Same gm false ge gs gn gt r₀) :
    (Dev.fanAoBoundary d k aoMv).Same gm false ge gs gn gt r₀ := by
  unfold Dev.fanAoBoundary
  repeat' first | (with_reducible first | assumption | intro _ | apply Dev.aoDrive_same | apply Dev.setAo_same | apply Dev.fanBoundary_same | apply Dev.Same.both (gf := false) | refine ite_same ?_ ?_ | refine foldl_same (fun _ _ _ => ?_) ?_ _ | refine foldl_snd2_same (fun _ _ _ => ?_) ?_ _ | refine foldl_snd_same (fun _ _ _ => ?_) ?_ _ | refine foldl_fst_same (fun _ _ _ => ?_) ?_ _) | split | (unfold Dev.Same; dsimp only [partOf_false]) | dsimp only

theorem Dev.noteSpin_same {d : Dev} (f : Nat) (tick : Nat) (st : Nat) (hk : d.Same gm gf ge false gn gt r₀) :
    (Dev.noteSpin d f tick st).Same gm gf ge false gn gt r₀ := by
  unfold Dev.noteSpin
  repeat' first | (with_reducible first | assumption | apply Dev.Same.both (gs := false) | refine ite_same ?_ ?_) | split | (unfold Dev.Same; dsimp only [partOf_false]) | dsimp only

theorem Dev.takePage2_same {d : Dev} (k : Nat) (tick : Nat) (l : List Nat) (hk : d.Same false gf ge false gn gt r₀) :
    (Dev.takePage2 d k tick l).Same false gf ge false gn gt r₀ := by
  unfold Dev.takePage2
  repeat' first | (with_reducible first | assumption | intro _ | apply Dev.noteSpin_same | apply Dev.saveCount_same | apply Dev.produce_same | apply Dev.put_same | apply Dev.Same.both (gm := false) (gs := false) | refine ite_same ?_ ?_ | refine foldl_same (fun _ _ _ => ?_) ?_ _ | refine foldl_snd2_same (fun _ _ _ => ?_) ?_ _ | refine foldl_snd_same (fun _ _ _ => ?_) ?_ _ | refine foldl_fst_same (fun _ _ _ => ?_) ?_ _) | split | (unfold Dev.Same; dsimp only [partOf_false]) | dsimp only

theorem Dev.takeAoPage_same {d : Dev} (k : Nat) (tick : Nat) (l : List Nat) (hk : d.Same gm gf ge gs gn gt r₀) :
    (Dev.takeAoPage d k tick l).Same gm gf ge gs gn gt r₀ := by
  unfold Dev.takeAoPage
  repeat' first | (with_reducible first | assumption | intro _ | apply Dev.produce_same | apply Dev.put_same | apply Dev.Same.both | refine ite_same ?_ ?_ | refine foldl_same (fun _ _ _ => ?_) ?_ _ | refine foldl_snd2_same (fun _ _ _ => ?_) ?_ _ | refine foldl_snd_same (fun _ _ _ => ?_) ?_ _ | refine foldl_fst_same (fun _ _ _ => ?_) ?_ _) | split | (unfold Dev.Same; dsimp only [partOf_false]) | dsimp only

theorem Dev.fanCommand_same {d : Dev} (f : Nat) (force : Option Nat) (hk : d.Same gm gf ge gs gn gt r₀) :
    (Dev.fanCommand d f force).2.Same gm gf ge gs gn gt r₀ := by
  unfold Dev.fanCommand
  repeat' first | (with_reducible first | assumption | apply Dev.touchValue_same | apply Dev.raiseLimited_same | apply Dev.put_same | apply Dev.Same.both | refine ite_same ?_ ?_) | split | (unfold Dev.Same; dsimp only [partOf_false]) | dsimp only

theorem Dev.fanCommand_same_of {d : Dev} {f : Nat} {force : Option Nat} {r0 : Nat} {e0 : Dev} (hk : d.Same gm gf ge gs gn gt r₀) (eq : (Dev.fanCommand d f force) = (r0, e0)) : e0.Same gm gf ge gs gn gt r₀ := by
  have k := @Dev.fanCommand_same; grind

theorem bodyFanaoForce_same (id : Nat) (x : Sys2Proof.Desc) {d : Dev} (hk : d.Same gm gf ge gs gn gt r₀) :
    (bodyFanaoForce id x d).Same gm gf ge gs gn gt r₀ := by
  unfold bodyFanaoForce
  repeat' first | (with_reducible first | assumption | apply Dev.post_same | apply Dev.fail_same | apply Dev.Same.both | refine ite_same ?_ ?_) | split | (unfold Dev.Same; dsimp only [partOf_false]) | dsimp only

theorem Dev.applyFanaoForce_same {d : Dev} (id : Nat) (x : Sys2Proof.Desc) (hk : d.Same gm gf false gs gn gt r₀) :
    (Dev.applyFanaoForce d id x).Same gm gf false gs gn gt r₀ := by
  unfold Dev.applyFanaoForce
  repeat' first | (with_reducible first | assumption | apply Dev.setForce_same | apply Dev.done_same | apply Dev.Same.both (ge := false) | refine ite_same ?_ ?_) | split | (unfold Dev.Same; dsimp only [partOf_false]) | dsimp only

theorem bodyFanClear_same (id : Nat) (x : Sys2Proof.Desc) {d : Dev} (hk : d.Same gm gf ge gs gn gt r₀) :
    (bodyFanClear id x d).Same gm gf ge gs gn gt r₀ := by
  unfold bodyFanClear
  repeat' first | (with_reducible first | assumption | apply Dev.post_same | apply Dev.fail_same | apply Dev.Same.both | refine ite_same ?_ ?_) | split | (unfold Dev.Same; dsimp only [partOf_false]) | dsimp only

theorem Dev.applyFanClear_same {d : Dev} (id : Nat) (x : Sys2Proof.Desc) (hk : d.Same gm false ge gs gn gt r₀) :
    (Dev.applyFanClear d id x).Same gm false ge gs gn gt r₀ := by
  unfold Dev.applyFanClear
  repeat' first | (with_reducible first | assumption | apply Dev.fanOff_same | apply Dev.setFan_same | apply Dev.done_same | apply Dev.Same.both (gf := false) | refine ite_same ?_ ?_) | split | (unfold Dev.Same; dsimp only [partOf_false]) | dsimp only

/-! ### Envelope -/

theorem Dev.imageRefused_same {d : Dev} (kind : Nat) (code : Nat) (op : Nat) (hk : d.Same gm gf ge gs gn gt r₀) :
    (Dev.imageRefused d kind code op).Same gm gf ge gs gn gt r₀ := by
  unfold Dev.imageRefused
  repeat' first | (with_reducible first | assumption | apply Dev.raiseCounted_same | apply Dev.Same.both) | (unfold Dev.Same; dsimp only [partOf_false]) | dsimp only

theorem Dev.readImage_same {d : Dev} (w : Nat) (len : Nat) (hk : d.Same false gf ge gs gn gt r₀) :
    (Dev.readImage d w len).2.Same false gf ge gs gn gt r₀ := by
  unfold Dev.readImage
  repeat' first | (with_reducible first | assumption | intro _ | apply Dev.readWords_same | apply Dev.Same.both (gm := false)) | (unfold Dev.Same; dsimp only [partOf_false]) | dsimp only

theorem Dev.readImage_same_of {d : Dev} {w : Nat} {len : Nat} {r0 : Option (List Nat)} {e0 : Dev} (hk : d.Same false gf ge gs gn gt r₀) (eq : (Dev.readImage d w len) = (r0, e0)) : e0.Same false gf ge gs gn gt r₀ := by
  have k := @Dev.readImage_same; grind

/-! ### Shuttle -/

theorem Dev.setSol_same {d : Dev} (c : Nat) (x : SolSt) (hk : d.Same gm false ge gs gn gt r₀) :
    (Dev.setSol d c x).Same gm false ge gs gn gt r₀ := by
  unfold Dev.setSol
  repeat' first | (with_reducible first | assumption | apply Dev.Same.both (gf := false)) | (unfold Dev.Same; dsimp only [partOf_false]) | dsimp only

theorem Dev.setBank_same {d : Dev} (b : Nat) (x : BankSt) (hk : d.Same gm false ge gs gn gt r₀) :
    (Dev.setBank d b x).Same gm false ge gs gn gt r₀ := by
  unfold Dev.setBank
  repeat' first | (with_reducible first | assumption | apply Dev.Same.both (gf := false)) | (unfold Dev.Same; dsimp only [partOf_false]) | dsimp only

theorem Dev.setFreeTokens_same {d : Dev} (k : Nat) (n : Nat) (hk : d.Same gm false ge gs gn gt r₀) :
    (Dev.setFreeTokens d k n).Same gm false ge gs gn gt r₀ := by
  unfold Dev.setFreeTokens
  repeat' first | (with_reducible first | assumption | apply Dev.Same.both (gf := false) | refine ite_same ?_ ?_) | split | (unfold Dev.Same; dsimp only [partOf_false]) | dsimp only

theorem Dev.driveBank_same {d : Dev} (b : Nat) (hk : d.Same gm false ge gs gn gt r₀) :
    (Dev.driveBank d b).Same gm false ge gs gn gt r₀ := by
  unfold Dev.driveBank
  repeat' first | (with_reducible first | assumption | intro _ | apply Dev.setBank_same | apply Dev.Same.both (gf := false)) | split | (unfold Dev.Same; dsimp only [partOf_false]) | dsimp only

theorem Dev.solClose_same {d : Dev} (c : Nat) (now : Nat) (x : SolSt) (hk : d.Same gm false ge gs gn gt r₀) :
    (Dev.solClose d c now x).Same gm false ge gs gn gt r₀ := by
  unfold Dev.solClose
  repeat' first | (with_reducible first | assumption | apply Dev.setBank_same | apply Dev.setSol_same | apply Dev.Same.both (gf := false) | refine ite_same ?_ ?_) | split | (unfold Dev.Same; dsimp only [partOf_false]) | dsimp only

theorem Dev.endPeak_same {d : Dev} (c : Nat) (hk : d.Same gm false ge gs gn gt r₀) :
    (Dev.endPeak d c).Same gm false ge gs gn gt r₀ := by
  unfold Dev.endPeak
  repeat' first | (with_reducible first | assumption | apply Dev.setFreeTokens_same | apply Dev.setSol_same | apply Dev.Same.both (gf := false) | refine ite_same ?_ ?_) | split | (unfold Dev.Same; dsimp only [partOf_false]) | dsimp only

theorem Dev.shotOver_same {d : Dev} (id : Nat) (c : Nat) (hk : d.Same gm gf ge gs gn gt r₀) :
    (Dev.shotOver d id c).Same gm gf ge gs gn gt r₀ := by
  unfold Dev.shotOver
  repeat' first | (with_reducible first | assumption | intro _ | apply Dev.setWriter_same | apply Dev.Same.both | refine ite_same ?_ ?_) | split | (unfold Dev.Same; dsimp only [partOf_false]) | dsimp only

theorem Dev.solComplete_same {d : Dev} (c : Nat) (st : Status) (outcome : Nat) (hk : d.Same gm gf ge gs gn gt r₀) :
    (Dev.solComplete d c st outcome).Same gm gf ge gs gn gt r₀ := by
  unfold Dev.solComplete
  repeat' first | (with_reducible first | assumption | apply Dev.shotOver_same | apply Dev.finish_same | apply Dev.Same.both) | split | (unfold Dev.Same; dsimp only [partOf_false]) | dsimp only

theorem Dev.solEnd_same {d : Dev} (c : Nat) (path : SolPath) (final : SolState) (st : Status) (outcome : Nat) (hk : d.Same gm false ge gs gn gt r₀) :
    (Dev.solEnd d c path final st outcome).Same gm false ge gs gn gt r₀ := by
  unfold Dev.solEnd
  repeat' first | (with_reducible first | assumption | apply Dev.solComplete_same | apply Dev.endPeak_same | apply Dev.driveBank_same | apply Dev.setSol_same | apply Dev.Same.both (gf := false) | refine ite_same ?_ ?_) | split | (unfold Dev.Same; dsimp only [partOf_false]) | dsimp only

theorem Dev.solFaultEvent_same {d : Dev} (c : Nat) (on : Bool) (cause : Nat) (pc : Nat) (hk : d.Same gm false ge gs gn gt r₀) :
    (Dev.solFaultEvent d c on cause pc).Same gm false ge gs gn gt r₀ := by
  unfold Dev.solFaultEvent
  repeat' first | (with_reducible first | assumption | apply Dev.dieRaise_same | apply Dev.Same.both (gf := false) | refine ite_same ?_ ?_) | split | (unfold Dev.Same; dsimp only [partOf_false]) | dsimp only

theorem Dev.solFault_same {d : Dev} (c : Nat) (cause : Nat) (path : SolPath) (hk : d.Same gm false ge gs gn gt r₀) :
    (Dev.solFault d c cause path).Same gm false ge gs gn gt r₀ := by
  unfold Dev.solFault
  repeat' first | (with_reducible first | assumption | apply Dev.solFaultEvent_same | apply Dev.solEnd_same | apply Dev.setSol_same | apply Dev.Same.both (gf := false)) | (unfold Dev.Same; dsimp only [partOf_false]) | dsimp only

theorem Dev.solCut_same {d : Dev} (c : Nat) (st : Status) (outcome : Nat) (hk : d.Same gm false ge gs gn gt r₀) :
    (Dev.solCut d c st outcome).Same gm false ge gs gn gt r₀ := by
  unfold Dev.solCut
  repeat' first | (with_reducible first | assumption | apply Dev.solEnd_same | apply Dev.Same.both (gf := false) | refine ite_same ?_ ?_) | split | (unfold Dev.Same; dsimp only [partOf_false]) | dsimp only

theorem Dev.solChop_same {d : Dev} (c : Nat) (mode : Nat) (now : Nat) (next : SolWait) (hk : d.Same gm false ge gs gn gt r₀) :
    (Dev.solChop d c mode now next).Same gm false ge gs gn gt r₀ := by
  unfold Dev.solChop
  repeat' first | (with_reducible first | assumption | apply Dev.solClose_same | apply Dev.driveBank_same | apply Dev.setSol_same | apply Dev.Same.both (gf := false) | refine ite_same ?_ ?_) | split | (unfold Dev.Same; dsimp only [partOf_false]) | dsimp only

theorem Dev.solStep_same {d : Dev} (c : Nat) (now : Nat) (hk : d.Same gm false ge gs gn gt r₀) :
    (Dev.solStep d c now).1.Same gm false ge gs gn gt r₀ := by
  unfold Dev.solStep
  repeat' first | (with_reducible first | assumption | intro _ | apply Dev.solChop_same | apply Dev.solFault_same | apply Dev.solEnd_same | apply Dev.endPeak_same | apply Dev.solClose_same | apply Dev.driveBank_same | apply Dev.setSol_same | apply Dev.dieRaise_same | apply Dev.Same.both (gf := false) | refine ite_same ?_ ?_) | split | (unfold Dev.Same; dsimp only [partOf_false]) | dsimp only

theorem Dev.solStep_same_of {d : Dev} {c : Nat} {now : Nat} {e0 : Dev} {r1 : Bool} (hk : d.Same gm false ge gs gn gt r₀) (eq : (Dev.solStep d c now) = (e0, r1)) : e0.Same gm false ge gs gn gt r₀ := by
  have k := @Dev.solStep_same; grind

theorem Dev.solRun_same (a0 : Nat) {a1 : Dev} (a2 : Nat) (a3 : Nat) (hka1 : a1.Same gm false ge gs gn gt r₀) :
    (Dev.solRun a0 a1 a2 a3).Same gm false ge gs gn gt r₀ := by
  induction a0 generalizing a1 a2 a3 with
  | zero => unfold Dev.solRun; repeat' first | (with_reducible first | assumption | apply Dev.solStep_same | apply Dev.solFault_same | apply Dev.Same.both (gf := false) | refine ite_same ?_ ?_) | split | (unfold Dev.Same; dsimp only [partOf_false]) | dsimp only
  | succ n ih => unfold Dev.solRun; repeat' first | with_reducible apply ih | (with_reducible first | assumption | apply Dev.solStep_same | apply Dev.solFault_same | apply Dev.Same.both (gf := false) | refine ite_same ?_ ?_) | split | (unfold Dev.Same; dsimp only [partOf_false]) | dsimp only

theorem Dev.solResume_same {d : Dev} (c : Nat) (now : Nat) (hk : d.Same gm false ge gs gn gt r₀) :
    (Dev.solResume d c now).Same gm false ge gs gn gt r₀ := by
  unfold Dev.solResume
  repeat' first | (with_reducible first | assumption | apply Dev.solRun_same | apply Dev.setSol_same | apply Dev.Same.both (gf := false)) | (unfold Dev.Same; dsimp only [partOf_false]) | dsimp only

theorem Dev.solStart_same {d : Dev} (c : Nat) (slot : Nat) (origin : ShotOrigin) (hk : d.Same false false ge gs gn gt r₀) :
    (Dev.solStart d c slot origin).Same false false ge gs gn gt r₀ := by
  unfold Dev.solStart
  repeat' first | (with_reducible first | assumption | intro _ | apply Dev.solRun_same | apply Dev.setBank_same | apply Dev.setSol_same | apply Dev.saveCount_same | apply Dev.Same.both (gm := false) (gf := false) | refine ite_same ?_ ?_) | split | (unfold Dev.Same; dsimp only [partOf_false]) | dsimp only

theorem Dev.solRelease_same {d : Dev} (c : Nat) (now : Nat) (hk : d.Same gm false ge gs gn gt r₀) :
    (Dev.solRelease d c now).Same gm false ge gs gn gt r₀ := by
  unfold Dev.solRelease
  repeat' first | (with_reducible first | assumption | apply Dev.solRun_same | apply Dev.endPeak_same | apply Dev.setSol_same | apply Dev.Same.both (gf := false) | refine ite_same ?_ ?_) | split | (unfold Dev.Same; dsimp only [partOf_false]) | dsimp only

theorem Dev.solTtp_same {d : Dev} (c : Nat) (now : Nat) (us : Nat) (timeout : Bool) (hk : d.Same gm false ge gs gn gt r₀) :
    (Dev.solTtp d c now us timeout).Same gm false ge gs gn gt r₀ := by
  unfold Dev.solTtp
  repeat' first | (with_reducible first | assumption | apply Dev.solResume_same | apply Dev.solFault_same | apply Dev.solEnd_same | apply Dev.setSol_same | apply Dev.dieRaise_same | apply Dev.Same.both (gf := false) | refine ite_same ?_ ?_) | split | (unfold Dev.Same; dsimp only [partOf_false]) | dsimp only

theorem Dev.solSense_same {d : Dev} (c : Nat) (m : Sys2Proof.SolSense) (hk : d.Same gm false ge false gn gt r₀) :
    (Dev.solSense d c m).Same gm false ge false gn gt r₀ := by
  unfold Dev.solSense
  repeat' first | (with_reducible first | assumption | apply Dev.setSol_same | apply Dev.Same.both (gf := false) (gs := false) | refine ite_same ?_ ?_) | split | (unfold Dev.Same; dsimp only [partOf_false]) | dsimp only

theorem Dev.bankLate_same {d : Dev} (b : Nat) (hk : d.Same gm false ge gs gn gt r₀) :
    (Dev.bankLate d b).Same gm false ge gs gn gt r₀ := by
  unfold Dev.bankLate
  repeat' first | (with_reducible first | assumption | apply Dev.setBank_same | apply Dev.Same.both (gf := false) | refine ite_same ?_ ?_) | split | (unfold Dev.Same; dsimp only [partOf_false]) | dsimp only

theorem Dev.solSkip_same {d : Dev} (c : Nat) (hk : d.Same gm false ge gs gn gt r₀) :
    (Dev.solSkip d c).Same gm false ge gs gn gt r₀ := by
  unfold Dev.solSkip
  repeat' first | (with_reducible first | assumption | apply Dev.solEnd_same | apply Dev.setBank_same | apply Dev.setSol_same | apply Dev.dieRaise_same | apply Dev.Same.both (gf := false) | refine ite_same ?_ ?_) | split | (unfold Dev.Same; dsimp only [partOf_false]) | dsimp only

theorem Dev.solLevelShot_same {d : Dev} (c : Nat) (hk : d.Same false false ge gs gn gt r₀) :
    (Dev.solLevelShot d c).Same false false ge gs gn gt r₀ := by
  unfold Dev.solLevelShot
  repeat' first | (with_reducible first | assumption | apply Dev.solStart_same | apply Dev.Same.both (gm := false) (gf := false) | refine ite_same ?_ ?_) | split | (unfold Dev.Same; dsimp only [partOf_false]) | dsimp only

theorem Dev.bankFault_same {d : Dev} (b : Nat) (cause : Nat) (ma : Nat) (hk : d.Same gm false ge gs gn gt r₀) :
    (Dev.bankFault d b cause ma).Same gm false ge gs gn gt r₀ := by
  unfold Dev.bankFault
  repeat' first | (with_reducible first | assumption | intro _ | apply Dev.solCut_same | apply Dev.setBank_same | apply Dev.dieRaise_same | apply Dev.Same.both (gf := false) | refine foldl_same (fun _ _ _ => ?_) ?_ _ | refine foldl_snd2_same (fun _ _ _ => ?_) ?_ _ | refine foldl_snd_same (fun _ _ _ => ?_) ?_ _ | refine foldl_fst_same (fun _ _ _ => ?_) ?_ _) | (unfold Dev.Same; dsimp only [partOf_false]) | dsimp only

theorem Dev.solLevel_same {d : Dev} (c : Nat) (level : Bool) (hk : d.Same gm false ge gs gn gt r₀) :
    (Dev.solLevel d c level).Same gm false ge gs gn gt r₀ := by
  unfold Dev.solLevel
  repeat' first | (with_reducible first | assumption | apply Dev.solRelease_same | apply Dev.setSol_same | apply Dev.Same.both (gf := false) | refine ite_same ?_ ?_) | split | (unfold Dev.Same; dsimp only [partOf_false]) | dsimp only

theorem Dev.solStartDue_same {d : Dev} (k : Nat) (hk : d.Same false false ge gs gn gt r₀) :
    (Dev.solStartDue d k).Same false false ge gs gn gt r₀ := by
  unfold Dev.solStartDue
  repeat' first | (with_reducible first | assumption | intro _ | apply Dev.solLevelShot_same | apply Dev.setSol_same | apply Dev.Same.both (gm := false) (gf := false) | refine ite_same ?_ ?_ | refine foldl_same (fun _ _ _ => ?_) ?_ _ | refine foldl_snd2_same (fun _ _ _ => ?_) ?_ _ | refine foldl_snd_same (fun _ _ _ => ?_) ?_ _ | refine foldl_fst_same (fun _ _ _ => ?_) ?_ _) | split | (unfold Dev.Same; dsimp only [partOf_false]) | dsimp only

theorem Dev.applySol_same {d : Dev} (k : Nat) (sols : List Nat) (hk : d.Same gm false ge gs gn gt r₀) :
    (Dev.applySol d k sols).Same gm false ge gs gn gt r₀ := by
  unfold Dev.applySol
  repeat' first | (with_reducible first | assumption | intro _ | apply Dev.solLevel_same | apply Dev.Same.both (gf := false) | refine foldl_same (fun _ _ _ => ?_) ?_ _ | refine foldl_snd2_same (fun _ _ _ => ?_) ?_ _ | refine foldl_snd_same (fun _ _ _ => ?_) ?_ _ | refine foldl_fst_same (fun _ _ _ => ?_) ?_ _) | (unfold Dev.Same; dsimp only [partOf_false]) | dsimp only

theorem Dev.safeSol_same {d : Dev} (k : Nat) (hk : d.Same gm false ge gs gn gt r₀) :
    (Dev.safeSol d k).Same gm false ge gs gn gt r₀ := by
  unfold Dev.safeSol
  repeat' first | (with_reducible first | assumption | intro _ | apply Dev.solCut_same | apply Dev.setSol_same | apply Dev.Same.both (gf := false) | refine ite_same ?_ ?_ | refine foldl_same (fun _ _ _ => ?_) ?_ _ | refine foldl_snd2_same (fun _ _ _ => ?_) ?_ _ | refine foldl_snd_same (fun _ _ _ => ?_) ?_ _ | refine foldl_fst_same (fun _ _ _ => ?_) ?_ _) | split | (unfold Dev.Same; dsimp only [partOf_false]) | dsimp only

theorem Dev.cutSols_same {d : Dev} (k : Nat) (hk : d.Same gm false ge gs gn gt r₀) :
    (Dev.cutSols d k).Same gm false ge gs gn gt r₀ := by
  unfold Dev.cutSols
  repeat' first | (with_reducible first | assumption | intro _ | apply Dev.solCut_same | apply Dev.setSol_same | apply Dev.Same.both (gf := false) | refine foldl_same (fun _ _ _ => ?_) ?_ _ | refine foldl_snd2_same (fun _ _ _ => ?_) ?_ _ | refine foldl_snd_same (fun _ _ _ => ?_) ?_ _ | refine foldl_fst_same (fun _ _ _ => ?_) ?_ _) | (unfold Dev.Same; dsimp only [partOf_false]) | dsimp only

theorem Dev.solBoundary_same {d : Dev} (k : Nat) (vf24 : Nat) (hotClamps : List Nat) (hotBanks : List Nat) (hk : d.Same false false ge gs gn gt r₀) :
    (Dev.solBoundary d k vf24 hotClamps hotBanks).Same false false ge gs gn gt r₀ := by
  unfold Dev.solBoundary
  repeat' first | (with_reducible first | assumption | intro _ | apply Dev.solStartDue_same | apply Dev.bankLate_same | apply Dev.setBank_same | apply Dev.setSol_same | apply Dev.Same.both (gm := false) (gf := false) | refine ite_same ?_ ?_ | refine foldl_same (fun _ _ _ => ?_) ?_ _ | refine foldl_snd2_same (fun _ _ _ => ?_) ?_ _ | refine foldl_snd_same (fun _ _ _ => ?_) ?_ _ | refine foldl_fst_same (fun _ _ _ => ?_) ?_ _) | split | (unfold Dev.Same; dsimp only [partOf_false]) | dsimp only

theorem Dev.tokenAudit_same {d : Dev} (k : Nat) (free : Nat) (held : Nat) (hk : d.Same false gf ge gs gn gt r₀) :
    (Dev.tokenAudit d k free held).Same false gf ge gs gn gt r₀ := by
  unfold Dev.tokenAudit
  repeat' first | (with_reducible first | assumption | apply Dev.logFault_same | apply Dev.raise_same | apply Dev.put_same | apply Dev.Same.both (gm := false) | refine ite_same ?_ ?_) | split | (unfold Dev.Same; dsimp only [partOf_false]) | dsimp only

theorem Dev.takePage3_same {d : Dev} (k : Nat) (tick : Nat) (l : List Nat) (hk : d.Same false gf ge gs gn gt r₀) :
    (Dev.takePage3 d k tick l).Same false gf ge gs gn gt r₀ := by
  unfold Dev.takePage3
  repeat' first | (with_reducible first | assumption | intro _ | apply Dev.tokenAudit_same | apply Dev.produce_same | apply Dev.put_same | apply Dev.Same.both (gm := false) | refine ite_same ?_ ?_ | refine foldl_same (fun _ _ _ => ?_) ?_ _ | refine foldl_snd2_same (fun _ _ _ => ?_) ?_ _ | refine foldl_snd_same (fun _ _ _ => ?_) ?_ _ | refine foldl_fst_same (fun _ _ _ => ?_) ?_ _) | split | (unfold Dev.Same; dsimp only [partOf_false]) | dsimp only

theorem Dev.takeSolEvent_same {d : Dev} (code : Nat) (src : Nat) (time : Nat) (detail : List Nat) (hk : d.Same gm gf ge gs gn gt r₀) :
    (Dev.takeSolEvent d code src time detail).Same gm gf ge gs gn gt r₀ := by
  unfold Dev.takeSolEvent
  repeat' first | (with_reducible first | assumption | apply Dev.raiseCounted_same | apply Dev.raiseAt_same | apply Dev.bump_same | apply Dev.put_same | apply Dev.Same.both | refine ite_same ?_ ?_) | split | (unfold Dev.Same; dsimp only [partOf_false]) | dsimp only

theorem Dev.setLoad_same {d : Dev} (b : Nat) (f : LoadOp → LoadOp) (hk : d.Same gm false ge gs gn gt r₀) :
    (Dev.setLoad d b f).Same gm false ge gs gn gt r₀ := by
  unfold Dev.setLoad
  repeat' first | (with_reducible first | assumption | intro _ | apply Dev.Same.both (gf := false) | refine ite_same ?_ ?_) | split | (unfold Dev.Same; dsimp only [partOf_false]) | dsimp only

theorem Dev.showLoads_same {d : Dev} (hk : d.Same gm gf ge gs gn gt r₀) :
    (Dev.showLoads d).Same gm gf ge gs gn gt r₀ := by
  unfold Dev.showLoads
  repeat' first | (with_reducible first | assumption | intro _ | apply Dev.put_same | apply Dev.Same.both | refine foldl_same (fun _ _ _ => ?_) ?_ _ | refine foldl_snd2_same (fun _ _ _ => ?_) ?_ _ | refine foldl_snd_same (fun _ _ _ => ?_) ?_ _ | refine foldl_fst_same (fun _ _ _ => ?_) ?_ _) | (unfold Dev.Same; dsimp only [partOf_false]) | dsimp only

theorem Dev.dropLoad_same {d : Dev} (b : Nat) (hk : d.Same gm false ge gs false gt r₀) :
    (Dev.dropLoad d b).Same gm false ge gs false gt r₀ := by
  unfold Dev.dropLoad
  repeat' first | (with_reducible first | assumption | intro _ | apply Dev.showLoads_same | apply Dev.Same.both (gf := false) (gn := false)) | split | (unfold Dev.Same; dsimp only [partOf_false]) | dsimp only

theorem bodyShuttleLoad_same (id : Nat) (x : Sys2Proof.Desc) {d : Dev} (hk : d.Same gm false ge gs gn gt r₀) :
    (bodyShuttleLoad id x d).Same gm false ge gs gn gt r₀ := by
  unfold bodyShuttleLoad
  repeat' first | (with_reducible first | assumption | apply Dev.showLoads_same | apply Dev.fail_same | apply Dev.Same.both (gf := false) | refine ite_same ?_ ?_) | split | (unfold Dev.Same; dsimp only [partOf_false]) | dsimp only

theorem Dev.shuttleChecked_same {d : Dev} (id : Nat) (x : Sys2Proof.Desc) (hk : d.Same false false ge gs false gt r₀) :
    (Dev.shuttleChecked d id x).Same false false ge gs false gt r₀ := by
  unfold Dev.shuttleChecked
  repeat' first | (with_reducible first | assumption | intro _ | apply Dev.dropLoad_same | apply Dev.setLoad_same | refine Dev.readImage_same_of ?_ (by assumption) | apply Dev.readImage_same | apply Dev.imageRefused_same | apply Dev.finish_same | apply Dev.Same.both (gm := false) (gf := false) (gn := false) | refine ite_same ?_ ?_) | split | (unfold Dev.Same; dsimp only [partOf_false]) | dsimp only

theorem Dev.shuttleTick_same {d : Dev} (hk : d.Same gm false ge gs gn gt r₀) :
    (Dev.shuttleTick d).Same gm false ge gs gn gt r₀ := by
  unfold Dev.shuttleTick
  repeat' first | (with_reducible first | assumption | intro _ | apply Dev.setLoad_same | apply Dev.post_same | apply Dev.Same.both (gf := false) | refine ite_same ?_ ?_ | refine foldl_same (fun _ _ _ => ?_) ?_ _ | refine foldl_snd2_same (fun _ _ _ => ?_) ?_ _ | refine foldl_snd_same (fun _ _ _ => ?_) ?_ _ | refine foldl_fst_same (fun _ _ _ => ?_) ?_ _) | split | (unfold Dev.Same; dsimp only [partOf_false]) | dsimp only

theorem Dev.applyCode_same {d : Dev} (b : Nat) (w : Nat) (v : Nat) (hk : d.Same gm false ge gs gn gt r₀) :
    (Dev.applyCode d b w v).Same gm false ge gs gn gt r₀ := by
  unfold Dev.applyCode
  repeat' first | (with_reducible first | assumption | intro _ | apply Dev.setLoad_same | apply Dev.setBank_same | apply Dev.Same.both (gf := false) | refine ite_same ?_ ?_) | split | (unfold Dev.Same; dsimp only [partOf_false]) | dsimp only

theorem Dev.shuttleRestore_same {d : Dev} (b : Nat) (hk : d.Same gm false ge gs gn gt r₀) :
    (Dev.shuttleRestore d b).Same gm false ge gs gn gt r₀ := by
  unfold Dev.shuttleRestore
  repeat' first | (with_reducible first | assumption | intro _ | apply Dev.setBank_same | apply Dev.dput_same | apply Dev.put_same | apply Dev.Same.both (gf := false) | refine ite_same ?_ ?_ | refine foldl_same (fun _ _ _ => ?_) ?_ _ | refine foldl_snd2_same (fun _ _ _ => ?_) ?_ _ | refine foldl_snd_same (fun _ _ _ => ?_) ?_ _ | refine foldl_fst_same (fun _ _ _ => ?_) ?_ _) | split | (unfold Dev.Same; dsimp only [partOf_false]) | dsimp only

theorem Dev.shuttleDip_same {d : Dev} (hk : d.Same gm false ge gs false gt r₀) :
    (Dev.shuttleDip d).Same gm false ge gs false gt r₀ := by
  unfold Dev.shuttleDip
  repeat' first | (with_reducible first | assumption | intro _ | apply Dev.dropLoad_same | apply Dev.fail_same | apply Dev.Same.both (gf := false) (gn := false) | refine foldl_same (fun _ _ _ => ?_) ?_ _ | refine foldl_snd2_same (fun _ _ _ => ?_) ?_ _ | refine foldl_snd_same (fun _ _ _ => ?_) ?_ _ | refine foldl_fst_same (fun _ _ _ => ?_) ?_ _) | (unfold Dev.Same; dsimp only [partOf_false]) | dsimp only

theorem Dev.postAhead_same {d : Dev} (k : Nat) (entry : Mail) (hk : d.Same gm gf ge gs gn gt r₀) :
    (Dev.postAhead d k entry).Same gm gf ge gs gn gt r₀ := by
  unfold Dev.postAhead
  repeat' first | (with_reducible first | assumption | intro _ | apply Dev.Same.both | refine ite_same ?_ ?_) | split | (unfold Dev.Same; dsimp only [partOf_false]) | dsimp only

theorem bodySolShot_same (id : Nat) (x : Sys2Proof.Desc) {d : Dev} (hk : d.Same gm gf ge gs gn gt r₀) :
    (bodySolShot id x d).Same gm gf ge gs gn gt r₀ := by
  unfold bodySolShot
  repeat' first | (with_reducible first | assumption | apply Dev.postAhead_same | apply Dev.setWriter_same | apply Dev.fail_same | apply Dev.Same.both | refine ite_same ?_ ?_) | split | (unfold Dev.Same; dsimp only [partOf_false]) | dsimp only

theorem Dev.applySolShot_same {d : Dev} (id : Nat) (x : Sys2Proof.Desc) (hk : d.Same false false ge gs gn gt r₀) :
    (Dev.applySolShot d id x).Same false false ge gs gn gt r₀ := by
  unfold Dev.applySolShot
  repeat' first | (with_reducible first | assumption | intro _ | apply Dev.solStart_same | apply Dev.shotOver_same | apply Dev.fail_same | apply Dev.finish_same | apply Dev.Same.both (gm := false) (gf := false) | refine ite_same ?_ ?_) | split | (unfold Dev.Same; dsimp only [partOf_false]) | dsimp only

theorem bodySolForce_same (id : Nat) (x : Sys2Proof.Desc) {d : Dev} (hk : d.Same gm gf false gs gn gt r₀) :
    (bodySolForce id x d).Same gm gf false gs gn gt r₀ := by
  unfold bodySolForce
  repeat' first | (with_reducible first | assumption | apply Dev.setForce_same | apply Dev.done_same | apply Dev.fail_same | apply Dev.Same.both (ge := false) | refine ite_same ?_ ?_) | split | (unfold Dev.Same; dsimp only [partOf_false]) | dsimp only

theorem bodySolClear_same (id : Nat) (x : Sys2Proof.Desc) {d : Dev} (hk : d.Same gm gf ge gs gn gt r₀) :
    (bodySolClear id x d).Same gm gf ge gs gn gt r₀ := by
  unfold bodySolClear
  repeat' first | (with_reducible first | assumption | apply Dev.post_same | apply Dev.fail_same | apply Dev.Same.both | refine ite_same ?_ ?_) | split | (unfold Dev.Same; dsimp only [partOf_false]) | dsimp only

theorem Dev.applySolClear_same {d : Dev} (id : Nat) (x : Sys2Proof.Desc) (hk : d.Same gm false ge gs gn gt r₀) :
    (Dev.applySolClear d id x).Same gm false ge gs gn gt r₀ := by
  unfold Dev.applySolClear
  repeat' first | (with_reducible first | assumption | apply Dev.solFaultEvent_same | apply Dev.setBank_same | apply Dev.setSol_same | apply Dev.dieRaise_same | apply Dev.done_same | apply Dev.fail_same | apply Dev.Same.both (gf := false) | refine ite_same ?_ ?_) | split | (unfold Dev.Same; dsimp only [partOf_false]) | dsimp only

theorem settleShuttle_same (id : Nat) (r : Rec) {d : Dev} (hk : d.Same gm gf ge gs gn gt r₀) :
    (settleShuttle id r d).Same gm gf ge gs gn gt r₀ := by
  unfold settleShuttle
  repeat' first | (with_reducible first | assumption | apply Dev.postAhead_same | apply Dev.Same.both) | (unfold Dev.Same; dsimp only [partOf_false]) | dsimp only

theorem Dev.applyShuttleAbort_same {d : Dev} (id : Nat) (target : Nat) (hk : d.Same gm false ge gs false gt r₀) :
    (Dev.applyShuttleAbort d id target).Same gm false ge gs false gt r₀ := by
  unfold Dev.applyShuttleAbort
  repeat' first | (with_reducible first | assumption | apply Dev.dropLoad_same | apply Dev.solCut_same | apply Dev.done_same | apply Dev.fail_same | apply Dev.Same.both (gf := false) (gn := false) | refine ite_same ?_ ?_) | split | (unfold Dev.Same; dsimp only [partOf_false]) | dsimp only

theorem bodyShuttleAbort_same (id : Nat) (x : Sys2Proof.Desc) {d : Dev} (hk : d.Same gm gf ge gs gn gt r₀) :
    (bodyShuttleAbort id x d).Same gm gf ge gs gn gt r₀ := by
  unfold bodyShuttleAbort
  repeat' first | (with_reducible first | assumption | apply settleShuttle_same | apply Dev.abortDesc_same | apply Dev.fail_same | apply Dev.Same.both | refine ite_same ?_ ?_) | split | (unfold Dev.Same; dsimp only [partOf_false]) | dsimp only

/-! ### FieldLink -/

theorem Dev.mailNext_same {d : Dev} (k : Nat) (hk : d.Same gm gf ge gs gn gt r₀) :
    (Dev.mailNext d k).Same gm gf ge gs gn gt r₀ := by
  unfold Dev.mailNext
  repeat' first | (with_reducible first | assumption | apply Dev.Same.both | refine ite_same ?_ ?_) | split | (unfold Dev.Same; dsimp only [partOf_false]) | dsimp only

theorem Dev.sendDown_same {d : Dev} (k : Nat) (freeze : Bool) (hk : d.Same gm gf ge gs gn gt r₀) :
    (Dev.sendDown d k freeze).Same gm gf ge gs gn gt r₀ := by
  unfold Dev.sendDown
  repeat' first | (with_reducible first | assumption | intro _ | apply Dev.mailNext_same | apply Dev.fanCommand_same | apply Dev.emit_same | apply Dev.Same.both | refine ite_same ?_ ?_ | refine foldl_same (fun _ _ _ => ?_) ?_ _ | refine foldl_snd2_same (fun _ _ _ => ?_) ?_ _ | refine foldl_snd_same (fun _ _ _ => ?_) ?_ _ | refine foldl_fst_same (fun _ _ _ => ?_) ?_ _) | split | (unfold Dev.Same; dsimp only [partOf_false]) | dsimp only

theorem Dev.darkApply_same {d : Dev} (k : Nat) (v : Nat) (hk : d.Same gm false ge gs gn gt r₀) :
    (Dev.darkApply d k v).Same gm false ge gs gn gt r₀ := by
  unfold Dev.darkApply
  repeat' first | (with_reducible first | assumption | apply Dev.setFd_same | apply Dev.Same.both (gf := false)) | (unfold Dev.Same; dsimp only [partOf_false]) | dsimp only

theorem Dev.applyReg_same {d : Dev} (k : Nat) (off : Nat) (v : Nat) (hk : d.Same gm false ge gs gn gt r₀) :
    (Dev.applyReg d k off v).Same gm false ge gs gn gt r₀ := by
  unfold Dev.applyReg
  repeat' first | (with_reducible first | assumption | intro _ | apply Dev.darkApply_same | apply Dev.emuApplyCfg_same | apply Dev.posApplyWrite_same | apply Dev.diApplyCfg_same | apply Dev.dput_same | apply Dev.Same.both (gf := false) | refine ite_same ?_ ?_ | refine foldl_same (fun _ _ _ => ?_) ?_ _ | refine foldl_snd2_same (fun _ _ _ => ?_) ?_ _ | refine foldl_snd_same (fun _ _ _ => ?_) ?_ _ | refine foldl_fst_same (fun _ _ _ => ?_) ?_ _) | split | (unfold Dev.Same; dsimp only [partOf_false]) | dsimp only

theorem Dev.applyDesc_same {d : Dev} (k : Nat) (id : Nat) (hk : d.Same false false false gs gn gt r₀) :
    (Dev.applyDesc d k id).Same false false false gs gn gt r₀ := by
  unfold Dev.applyDesc
  repeat' first | (with_reducible first | assumption | apply Dev.applySolClear_same | apply Dev.applySolShot_same | apply Dev.applyFanClear_same | apply Dev.applyFanaoForce_same | apply Dev.applyEmuForce_same | apply Dev.applyPosCheck_same | apply Dev.applyPosPreset_same | apply Dev.applyFieldResume_same | apply Dev.applyDarkTestNow_same | apply Dev.applyDoClear_same | apply Dev.applyDioForce_same | apply Dev.queueCal_same | apply Dev.applyMeasUrgent_same | apply Dev.Same.both (gm := false) (gf := false) (ge := false) | refine ite_same ?_ ?_) | split | (unfold Dev.Same; dsimp only [partOf_false]) | dsimp only

theorem Dev.applyAbort_same {d : Dev} (k : Nat) (id : Nat) (target : Nat) (hk : d.Same gm false ge gs false gt r₀) :
    (Dev.applyAbort d k id target).Same gm false ge gs false gt r₀ := by
  unfold Dev.applyAbort
  repeat' first | (with_reducible first | assumption | apply Dev.applyShuttleAbort_same | apply Dev.applyPosAbort_same | apply Dev.applyMeasAbort_same | apply Dev.Same.both (gf := false) (gn := false) | refine ite_same ?_ ?_) | split | (unfold Dev.Same; dsimp only [partOf_false]) | dsimp only

theorem Dev.applyMail_same {d : Dev} (k : Nat) (dip : Bool) (m : Mail) (hk : d.Same false false false gs false gt r₀) :
    (Dev.applyMail d k dip m).Same false false false gs false gt r₀ := by
  unfold Dev.applyMail
  repeat' first | (with_reducible first | assumption | apply Dev.applyAbort_same | apply Dev.applyDesc_same | apply Dev.applyReg_same | apply Dev.applyCode_same | apply Dev.queueCal_same | apply Dev.issueUrgent_same | apply Dev.Same.both (gm := false) (gf := false) (ge := false) (gn := false) | refine ite_same ?_ ?_) | split | (unfold Dev.Same; dsimp only [partOf_false]) | dsimp only

theorem Dev.applyOutputs_same {d : Dev} (k : Nat) (f : DownFrame) (hk : d.Same false false ge gs gn gt r₀) :
    (Dev.applyOutputs d k f).Same false false ge gs gn gt r₀ := by
  unfold Dev.applyOutputs
  repeat' first | (with_reducible first | assumption | apply Dev.applySol_same | apply Dev.applyFanAo_same | apply Dev.applyDio_same | apply Dev.saveWrite_same | apply Dev.Same.both (gm := false) (gf := false)) | (unfold Dev.Same; dsimp only [partOf_false]) | dsimp only

theorem Dev.enterRun_same {d : Dev} (k : Nat) (f : DownFrame) (hk : d.Same false false ge gs gn gt r₀) :
    (Dev.enterRun d k f).Same false false ge gs gn gt r₀ := by
  unfold Dev.enterRun
  repeat' first | (with_reducible first | assumption | intro _ | apply Dev.applyOutputs_same | apply Dev.posLeaveSafe_same | apply Dev.emuRefresh_same | apply Dev.dieRaise_same | apply Dev.setFd_same | apply Dev.done_same | apply Dev.Same.both (gm := false) (gf := false) | refine ite_same ?_ ?_ | refine foldl_same (fun _ _ _ => ?_) ?_ _ | refine foldl_snd2_same (fun _ _ _ => ?_) ?_ _ | refine foldl_snd_same (fun _ _ _ => ?_) ?_ _ | refine foldl_fst_same (fun _ _ _ => ?_) ?_ _) | split | (unfold Dev.Same; dsimp only [partOf_false]) | dsimp only

theorem Dev.enterHeld_same {d : Dev} (k : Nat) (st : OutState) (hk : d.Same gm false ge gs gn gt r₀) :
    (Dev.enterHeld d k st).Same gm false ge gs gn gt r₀ := by
  unfold Dev.enterHeld
  repeat' first | (with_reducible first | assumption | apply Dev.darkLeave_same | apply Dev.dieRaise_same | apply Dev.setFd_same | apply Dev.Same.both (gf := false) | refine ite_same ?_ ?_) | split | (unfold Dev.Same; dsimp only [partOf_false]) | dsimp only

theorem Dev.safeOutputs_same {d : Dev} (k : Nat) (hk : d.Same gm false ge gs gn gt r₀) :
    (Dev.safeOutputs d k).Same gm false ge gs gn gt r₀ := by
  unfold Dev.safeOutputs
  repeat' first | (with_reducible first | assumption | apply Dev.safeSol_same | apply Dev.safeFanAo_same | apply Dev.emuRefresh_same | apply Dev.safeDio_same | apply Dev.Same.both (gf := false)) | (unfold Dev.Same; dsimp only [partOf_false]) | dsimp only

theorem Dev.enterSafe_same {d : Dev} (k : Nat) (cause : Nat) (hk : d.Same gm false ge gs gn gt r₀) :
    (Dev.enterSafe d k cause).Same gm false ge gs gn gt r₀ := by
  unfold Dev.enterSafe
  repeat' first | (with_reducible first | assumption | apply Dev.safeOutputs_same | apply Dev.emuRefresh_same | apply Dev.darkLeave_same | apply Dev.dieRaise_same | apply Dev.setFd_same | apply Dev.Same.both (gf := false) | refine ite_same ?_ ?_) | split | (unfold Dev.Same; dsimp only [partOf_false]) | dsimp only

theorem Dev.safeFrame_same {d : Dev} (k : Nat) (f : DownFrame) (hk : d.Same false false ge gs gn gt r₀) :
    (Dev.safeFrame d k f).Same false false ge gs gn gt r₀ := by
  unfold Dev.safeFrame
  repeat' first | (with_reducible first | assumption | apply Dev.enterRun_same | apply Dev.setFd_same | apply Dev.Same.both (gm := false) (gf := false) | refine ite_same ?_ ?_) | split | (unfold Dev.Same; dsimp only [partOf_false]) | dsimp only

theorem Dev.goodBoundary_same {d : Dev} (k : Nat) (f : DownFrame) (hk : d.Same false false ge gs gn gt r₀) :
    (Dev.goodBoundary d k f).Same false false ge gs gn gt r₀ := by
  unfold Dev.goodBoundary
  repeat' first | (with_reducible first | assumption | apply Dev.safeFrame_same | apply Dev.enterHeld_same | apply Dev.enterRun_same | apply Dev.setFd_same | apply Dev.Same.both (gm := false) (gf := false) | refine ite_same ?_ ?_) | split | (unfold Dev.Same; dsimp only [partOf_false]) | dsimp only

theorem Dev.badBoundary_same {d : Dev} (k : Nat) (hk : d.Same gm false ge gs gn gt r₀) :
    (Dev.badBoundary d k).Same gm false ge gs gn gt r₀ := by
  unfold Dev.badBoundary
  repeat' first | (with_reducible first | assumption | apply Dev.darkLeave_same | apply Dev.dieRaise_same | apply Dev.setFd_same | apply Dev.Same.both (gf := false)) | split | (unfold Dev.Same; dsimp only [partOf_false]) | dsimp only

theorem Dev.senseDos_same {d : Dev} (k : Nat) (sense : Sys2Proof.FieldSense) (hk : d.Same gm false ge gs gn gt r₀) :
    (Dev.senseDos d k sense).Same gm false ge gs gn gt r₀ := by
  unfold Dev.senseDos
  repeat' first | (with_reducible first | assumption | intro _ | apply Dev.setDo_same | apply Dev.Same.both (gf := false) | refine ite_same ?_ ?_ | refine foldl_same (fun _ _ _ => ?_) ?_ _ | refine foldl_snd2_same (fun _ _ _ => ?_) ?_ _ | refine foldl_snd_same (fun _ _ _ => ?_) ?_ _ | refine foldl_fst_same (fun _ _ _ => ?_) ?_ _) | split | (unfold Dev.Same; dsimp only [partOf_false]) | dsimp only

theorem Dev.sendUp_same {d : Dev} (k : Nat) (hk : d.Same gm false ge gs gn gt r₀) :
    (Dev.sendUp d k).Same gm false ge gs gn gt r₀ := by
  unfold Dev.sendUp
  repeat' first | (with_reducible first | assumption | apply Dev.capAdvance_same | apply Dev.setFd_same | apply Dev.Same.both (gf := false) | refine ite_same ?_ ?_) | split | (unfold Dev.Same; dsimp only [partOf_false]) | dsimp only

theorem Dev.takeWord_same {d : Dev} (p : Produced) (hk : d.Same gm gf ge gs gn gt r₀) :
    (Dev.takeWord d p).Same gm gf ge gs gn gt r₀ := by
  unfold Dev.takeWord
  repeat' first | (with_reducible first | assumption | apply Dev.produce_same | apply Dev.put_same | apply Dev.Same.both | refine ite_same ?_ ?_) | split | (unfold Dev.Same; dsimp only [partOf_false]) | dsimp only

theorem Dev.takeStates_same {d : Dev} (k : Nat) (latch : Nat) (dis : List Nat) (dos : List Nat) (hk : d.Same false gf ge gs gn gt r₀) :
    (Dev.takeStates d k latch dis dos).Same false gf ge gs gn gt r₀ := by
  unfold Dev.takeStates
  repeat' first | (with_reducible first | assumption | intro _ | apply Dev.saveCount_same | apply Dev.produce_same | apply Dev.put_same | apply Dev.Same.both (gm := false) | refine ite_same ?_ ?_ | refine foldl_same (fun _ _ _ => ?_) ?_ _ | refine foldl_snd2_same (fun _ _ _ => ?_) ?_ _ | refine foldl_snd_same (fun _ _ _ => ?_) ?_ _ | refine foldl_fst_same (fun _ _ _ => ?_) ?_ _) | split | (unfold Dev.Same; dsimp only [partOf_false]) | dsimp only

theorem Dev.takePage_same {d : Dev} (k : Nat) (latch : Nat) (page : Nat) (l : List Nat) (hk : d.Same false false ge false gn gt r₀) :
    (Dev.takePage d k latch page l).Same false false ge false gn gt r₀ := by
  unfold Dev.takePage
  repeat' first | (with_reducible first | assumption | intro _ | apply Dev.takePage3_same | apply Dev.takeAoPage_same | apply Dev.takePage2_same | apply Dev.takePosPage_same | apply Dev.takePage1_same | apply Dev.takePage0_same | apply Dev.capTake_same | apply Dev.Same.both (gm := false) (gf := false) (gs := false)) | split | (unfold Dev.Same; dsimp only [partOf_false]) | dsimp only

theorem Dev.takeEvent_same {d : Dev} (k : Nat) (latch : Nat) (e : DieEvent) (hk : d.Same false gf ge gs gn gt r₀) :
    (Dev.takeEvent d k latch e).Same false gf ge gs gn gt r₀ := by
  unfold Dev.takeEvent
  repeat' first | (with_reducible first | assumption | apply Dev.takeSolEvent_same | apply Dev.logFault_same | apply Dev.recovered_same | apply Dev.raiseLimited_same | apply Dev.raiseAt_same | apply Dev.bump_same | apply Dev.put_same | apply Dev.Same.both (gm := false) | refine ite_same ?_ ?_) | split | (unfold Dev.Same; dsimp only [partOf_false]) | dsimp only

theorem Dev.setUpMiss_same {d : Dev} (k : Nat) (n : Nat) (hk : d.Same gm gf ge gs gn gt r₀) :
    (Dev.setUpMiss d k n).Same gm gf ge gs gn gt r₀ := by
  unfold Dev.setUpMiss
  repeat' first | (with_reducible first | assumption | apply Dev.Same.both | refine ite_same ?_ ?_) | split | (unfold Dev.Same; dsimp only [partOf_false]) | dsimp only

theorem Dev.setUpHist_same {d : Dev} (k : Nat) (h : UpHist) (hk : d.Same gm gf ge gs gn gt r₀) :
    (Dev.setUpHist d k h).Same gm gf ge gs gn gt r₀ := by
  unfold Dev.setUpHist
  repeat' first | (with_reducible first | assumption | apply Dev.Same.both | refine ite_same ?_ ?_) | split | (unfold Dev.Same; dsimp only [partOf_false]) | dsimp only

theorem Dev.upTick_same {d : Dev} (k : Nat) (hk : d.Same gm gf ge gs gn gt r₀) :
    (Dev.upTick d k).Same gm gf ge gs gn gt r₀ := by
  unfold Dev.upTick
  repeat' first | (with_reducible first | assumption | apply Dev.setUpHist_same | apply Dev.setUpMiss_same | apply Dev.Same.both | refine ite_same ?_ ?_) | split | (unfold Dev.Same; dsimp only [partOf_false]) | dsimp only

theorem Dev.upSeen_same {d : Dev} (k : Nat) (page : Nat) (hk : d.Same gm gf ge gs gn gt r₀) :
    (Dev.upSeen d k page).Same gm gf ge gs gn gt r₀ := by
  unfold Dev.upSeen
  repeat' first | (with_reducible first | assumption | apply Dev.setUpHist_same | apply Dev.Same.both | refine ite_same ?_ ?_) | split | (unfold Dev.Same; dsimp only [partOf_false]) | dsimp only

theorem Dev.takeUp_same {d : Dev} (k : Nat) (f : UpFrame) (hk : d.Same false false ge false gn gt r₀) :
    (Dev.takeUp d k f).Same false false ge false gn gt r₀ := by
  unfold Dev.takeUp
  repeat' first | (with_reducible first | assumption | intro _ | apply Dev.upSeen_same | apply Dev.setUpHist_same | apply Dev.setUpMiss_same | apply Dev.takeEvent_same | apply Dev.takePage_same | apply Dev.takeStates_same | apply Dev.takeWord_same | apply Dev.takeSlots_same | apply Dev.recovered_same | apply Dev.raise_same | apply Dev.put_same | apply Dev.Same.both (gm := false) (gf := false) (gs := false) | refine ite_same ?_ ?_ | refine foldl_same (fun _ _ _ => ?_) ?_ _ | refine foldl_snd2_same (fun _ _ _ => ?_) ?_ _ | refine foldl_snd_same (fun _ _ _ => ?_) ?_ _ | refine foldl_fst_same (fun _ _ _ => ?_) ?_ _) | split | (unfold Dev.Same; dsimp only [partOf_false]) | dsimp only

theorem Dev.barrierWords_same {d : Dev} (k : Nat) (hk : d.Same gm gf ge gs gn gt r₀) :
    (Dev.barrierWords d k).Same gm gf ge gs gn gt r₀ := by
  unfold Dev.barrierWords
  repeat' first | (with_reducible first | assumption | intro _ | apply Dev.takeWord_same | apply Dev.Same.both | refine foldl_same (fun _ _ _ => ?_) ?_ _ | refine foldl_snd2_same (fun _ _ _ => ?_) ?_ _ | refine foldl_snd_same (fun _ _ _ => ?_) ?_ _ | refine foldl_fst_same (fun _ _ _ => ?_) ?_ _) | (unfold Dev.Same; dsimp only [partOf_false]) | dsimp only

theorem Dev.fieldErrClr_same {d : Dev} (k : Nat) (hk : d.Same gm gf ge gs gn gt r₀) :
    (Dev.fieldErrClr d k).Same gm gf ge gs gn gt r₀ := by
  unfold Dev.fieldErrClr
  repeat' first | (with_reducible first | assumption | apply Dev.put_same | apply Dev.Same.both) | (unfold Dev.Same; dsimp only [partOf_false]) | dsimp only

theorem Dev.fieldReject_same {d : Dev} (k : Nat) (hk : d.Same gm gf ge gs gn gt r₀) :
    (Dev.fieldReject d k).Same gm gf ge gs gn gt r₀ := by
  unfold Dev.fieldReject
  repeat' first | (with_reducible first | assumption | apply Dev.put_same | apply Dev.Same.both) | (unfold Dev.Same; dsimp only [partOf_false]) | dsimp only

theorem Dev.writeField_same {d : Dev} (off : Nat) (v : Nat) (hk : d.Same gm gf ge gs gn gt r₀) :
    (Dev.writeField d off v).Same gm gf ge gs gn gt r₀ := by
  unfold Dev.writeField
  repeat' first | (with_reducible first | assumption | intro _ | apply Dev.fieldReject_same | apply Dev.fieldErrClr_same | apply Dev.writeFlds_same | apply Dev.post_same | apply Dev.markRet_same | apply Dev.put_same | apply Dev.Same.both | refine ite_same ?_ ?_ | refine foldl_same (fun _ _ _ => ?_) ?_ _ | refine foldl_snd2_same (fun _ _ _ => ?_) ?_ _ | refine foldl_snd_same (fun _ _ _ => ?_) ?_ _ | refine foldl_fst_same (fun _ _ _ => ?_) ?_ _) | split | (unfold Dev.Same; dsimp only [partOf_false]) | dsimp only

end Sys2Proof.Machine
end

