-- ==== Sys2Proof/Laws/SameEngines.lean ====
section
/-! SUPPORT. The kinds of state that each operation leaves as they are: the operations of the engines of time, prediction and control. -/

namespace Sys2Proof.Machine
open Sys2Proof

variable {gm gf ge gs gn gt : Bool} {r₀ : Dev}

/-! ### Sched -/

theorem Dev.setZone_same {d : Dev} (z : Nat) (x : ZoneSt) (hk : d.Same gm gf false gs gn gt r₀) :
    (Dev.setZone d z x).Same gm gf false gs gn gt r₀ := by
  unfold Dev.setZone
  repeat' first | (with_reducible first | assumption | apply Dev.Same.both (ge := false)) | (unfold Dev.Same; dsimp only [partOf_false]) | dsimp only

theorem Dev.showSched_same {d : Dev} (hk : d.Same gm gf ge gs gn gt r₀) :
    (Dev.showSched d).Same gm gf ge gs gn gt r₀ := by
  unfold Dev.showSched
  repeat' first | (with_reducible first | assumption | apply Dev.put_same | apply Dev.Same.both | refine ite_same ?_ ?_) | split | (unfold Dev.Same; dsimp only [partOf_false]) | dsimp only

theorem Dev.setOverride_same {d : Dev} (z : Nat) (o : Option (Nat × Nat)) (expired : Bool) (hk : d.Same gm gf false gs gn gt r₀) :
    (Dev.setOverride d z o expired).Same gm gf false gs gn gt r₀ := by
  unfold Dev.setOverride
  repeat' first | (with_reducible first | assumption | apply Dev.setZone_same | apply Dev.setBlock_same | apply Dev.Same.both (ge := false)) | split | (unfold Dev.Same; dsimp only [partOf_false]) | dsimp only

theorem Dev.schedOp_same {d : Dev} (o : SchedOp) (hk : d.Same gm gf false gs gn gt r₀) :
    (Dev.schedOp d o).Same gm gf false gs gn gt r₀ := by
  unfold Dev.schedOp
  repeat' first | (with_reducible first | assumption | intro _ | apply Dev.setOverride_same | apply Dev.setZone_same | apply Dev.setBlock_same | apply Dev.produce_same | apply Dev.done_same | apply Dev.fail_same | apply Dev.put_same | apply Dev.Same.both (ge := false) | refine ite_same ?_ ?_ | refine foldl_same (fun _ _ _ => ?_) ?_ _ | refine foldl_snd2_same (fun _ _ _ => ?_) ?_ _ | refine foldl_snd_same (fun _ _ _ => ?_) ?_ _ | refine foldl_fst_same (fun _ _ _ => ?_) ?_ _) | split | (unfold Dev.Same; dsimp only [partOf_false]) | dsimp only

theorem Dev.expireOverride_same {d : Dev} (z : Nat) (hk : d.Same gm gf false gs gn gt r₀) :
    (Dev.expireOverride d z).Same gm gf false gs gn gt r₀ := by
  unfold Dev.expireOverride
  repeat' first | (with_reducible first | assumption | apply Dev.setOverride_same | apply Dev.Same.both (ge := false) | refine ite_same ?_ ?_) | split | (unfold Dev.Same; dsimp only [partOf_false]) | dsimp only

theorem Dev.schedTime_same {d : Dev} (hk : d.Same gm gf false gs gn gt r₀) :
    (Dev.schedTime d).Same gm gf false gs gn gt r₀ := by
  unfold Dev.schedTime
  repeat' first | (with_reducible first | assumption | apply Dev.raise_same | apply Dev.putBit_same | apply Dev.Same.both (ge := false) | refine ite_same ?_ ?_) | split | (unfold Dev.Same; dsimp only [partOf_false]) | dsimp only

theorem Dev.evalProg_same {d : Dev} (p : Nat) (hk : d.Same gm gf ge gs gn gt r₀) :
    (Dev.evalProg d p).Same gm gf ge gs gn gt r₀ := by
  unfold Dev.evalProg
  repeat' first | (with_reducible first | assumption | apply Dev.produce_same | apply Dev.put_same | apply Dev.Same.both | refine ite_same ?_ ?_) | split | (unfold Dev.Same; dsimp only [partOf_false]) | dsimp only

theorem Dev.presenceExpire_same {d : Dev} (z : Nat) (hk : d.Same gm gf false gs gn gt r₀) :
    (Dev.presenceExpire d z).Same gm gf false gs gn gt r₀ := by
  unfold Dev.presenceExpire
  repeat' first | (with_reducible first | assumption | apply Dev.setZone_same | apply Dev.Same.both (ge := false) | refine ite_same ?_ ?_) | split | (unfold Dev.Same; dsimp only [partOf_false]) | dsimp only

theorem Dev.evalPresence_same {d : Dev} (z : Nat) (hk : d.Same gm gf false gs gn gt r₀) :
    (Dev.evalPresence d z).Same gm gf false gs gn gt r₀ := by
  unfold Dev.evalPresence
  repeat' first | (with_reducible first | assumption | intro _ | apply Dev.presenceExpire_same | apply Dev.setZone_same | apply Dev.touchValue_same | apply Dev.raiseLimited_same | apply Dev.Same.both (ge := false) | refine ite_same ?_ ?_ | refine foldl_same (fun _ _ _ => ?_) ?_ _ | refine foldl_snd2_same (fun _ _ _ => ?_) ?_ _ | refine foldl_snd_same (fun _ _ _ => ?_) ?_ _ | refine foldl_fst_same (fun _ _ _ => ?_) ?_ _) | split | (unfold Dev.Same; dsimp only [partOf_false]) | dsimp only

theorem Dev.evalOpt_same {d : Dev} (z : Nat) (hk : d.Same gm gf false gs gn gt r₀) :
    (Dev.evalOpt d z).Same gm gf false gs gn gt r₀ := by
  unfold Dev.evalOpt
  repeat' first | (with_reducible first | assumption | apply Dev.setZone_same | apply Dev.raise_same | apply Dev.Same.both (ge := false) | refine ite_same ?_ ?_) | split | (unfold Dev.Same; dsimp only [partOf_false]) | dsimp only

theorem Dev.evalLevel_same {d : Dev} (z : Nat) (hk : d.Same gm gf false gs gn gt r₀) :
    (Dev.evalLevel d z).Same gm gf false gs gn gt r₀ := by
  unfold Dev.evalLevel
  repeat' first | (with_reducible first | assumption | intro _ | apply Dev.setZone_same | apply Dev.produce_same | apply Dev.raise_same | apply Dev.put_same | apply Dev.Same.both (ge := false) | refine ite_same ?_ ?_) | split | (unfold Dev.Same; dsimp only [partOf_false]) | dsimp only

theorem Dev.endOverride_same {d : Dev} (o : SchedOp) (hk : d.Same gm gf ge gs gn gt r₀) :
    (Dev.endOverride d o).Same gm gf ge gs gn gt r₀ := by
  unfold Dev.endOverride
  repeat' first | (with_reducible first | assumption | apply Dev.done_same | apply Dev.Same.both | refine ite_same ?_ ?_) | split | (unfold Dev.Same; dsimp only [partOf_false]) | dsimp only

theorem Dev.schedEvaluate_same {d : Dev} (hk : d.Same gm gf false gs gn gt r₀) :
    (Dev.schedEvaluate d).Same gm gf false gs gn gt r₀ := by
  unfold Dev.schedEvaluate
  repeat' first | (with_reducible first | assumption | intro _ | apply Dev.endOverride_same | apply Dev.evalLevel_same | apply Dev.evalOpt_same | apply Dev.evalPresence_same | apply Dev.evalProg_same | apply Dev.schedTime_same | apply Dev.expireOverride_same | apply Dev.schedOp_same | apply Dev.showSched_same | apply Dev.Same.both (ge := false) | refine foldl_same (fun _ _ _ => ?_) ?_ _ | refine foldl_snd2_same (fun _ _ _ => ?_) ?_ _ | refine foldl_snd_same (fun _ _ _ => ?_) ?_ _ | refine foldl_fst_same (fun _ _ _ => ?_) ?_ _) | (unfold Dev.Same; dsimp only [partOf_false]) | dsimp only

theorem Dev.addSched_same {d : Dev} (o : SchedOp) (hk : d.Same gm gf false gs gn gt r₀) :
    (Dev.addSched d o).Same gm gf false gs gn gt r₀ := by
  unfold Dev.addSched
  repeat' first | (with_reducible first | assumption | apply Dev.Same.both (ge := false)) | (unfold Dev.Same; dsimp only [partOf_false]) | dsimp only

theorem bodySchedSet_same (kind : Nat) (cls : Nat) (id : Nat) (x : Sys2Proof.Desc) {d : Dev} (hk : d.Same gm gf false gs gn gt r₀) :
    (bodySchedSet kind cls id x d).Same gm gf false gs gn gt r₀ := by
  unfold bodySchedSet
  repeat' first | (with_reducible first | assumption | apply Dev.addSched_same | apply Dev.fail_same | apply Dev.Same.both (ge := false) | refine ite_same ?_ ?_) | split | (unfold Dev.Same; dsimp only [partOf_false]) | dsimp only

theorem Dev.schedChecked_same {d : Dev} (id : Nat) (x : Sys2Proof.Desc) (hk : d.Same false gf false gs gn gt r₀) :
    (Dev.schedChecked d id x).Same false gf false gs gn gt r₀ := by
  unfold Dev.schedChecked
  repeat' first | (with_reducible first | assumption | intro _ | refine Dev.readImage_same_of ?_ (by assumption) | apply Dev.readImage_same | apply Dev.fail_same | apply Dev.Same.both (gm := false) (ge := false) | refine ite_same ?_ ?_) | split | (unfold Dev.Same; dsimp only [partOf_false]) | dsimp only

theorem bodyZoneOverride_same (id : Nat) (x : Sys2Proof.Desc) {d : Dev} (hk : d.Same gm gf false gs gn gt r₀) :
    (bodyZoneOverride id x d).Same gm gf false gs gn gt r₀ := by
  unfold bodyZoneOverride
  repeat' first | (with_reducible first | assumption | apply Dev.addSched_same | apply Dev.fail_same | apply Dev.Same.both (ge := false) | refine ite_same ?_ ?_) | split | (unfold Dev.Same; dsimp only [partOf_false]) | dsimp only

theorem Dev.setCivil_same {d : Dev} (q : Nat) (utc : Nat) (offset : Int) (hk : d.Same gm gf false gs gn gt r₀) :
    (Dev.setCivil d q utc offset).Same gm gf false gs gn gt r₀ := by
  unfold Dev.setCivil
  repeat' first | (with_reducible first | assumption | apply Dev.setBlock_same | apply Dev.putRet_same | apply Dev.Same.both (ge := false)) | (unfold Dev.Same; dsimp only [partOf_false]) | dsimp only

theorem bodyCivilSet_same (id : Nat) (x : Sys2Proof.Desc) {d : Dev} (hk : d.Same gm gf false gs gn gt r₀) :
    (bodyCivilSet id x d).Same gm gf false gs gn gt r₀ := by
  unfold bodyCivilSet
  repeat' first | (with_reducible first | assumption | apply Dev.setCivil_same | apply Dev.done_same | apply Dev.Same.both (ge := false)) | (unfold Dev.Same; dsimp only [partOf_false]) | dsimp only

theorem bodyDstLoad_same (id : Nat) (x : Sys2Proof.Desc) {d : Dev} (hk : d.Same false gf false gs gn gt r₀) :
    (bodyDstLoad id x d).Same false gf false gs gn gt r₀ := by
  unfold bodyDstLoad
  repeat' first | (with_reducible first | assumption | intro _ | refine Dev.readImage_same_of ?_ (by assumption) | apply Dev.readImage_same | apply Dev.setBlock_same | apply Dev.done_same | apply Dev.fail_same | apply Dev.Same.both (gm := false) (ge := false) | refine ite_same ?_ ?_) | split | (unfold Dev.Same; dsimp only [partOf_false]) | dsimp only

/-! ### Pat -/

theorem Dev.readTables_same {d : Dev} (hk : d.Same false gf ge gs gn gt r₀) :
    (Dev.readTables d).2.Same false gf ge gs gn gt r₀ := by
  unfold Dev.readTables
  repeat' first | (with_reducible first | assumption | refine Dev.readWords_same_of ?_ (by assumption) | apply Dev.readWords_same | apply Dev.Same.both (gm := false)) | split | (unfold Dev.Same; dsimp only [partOf_false]) | dsimp only

theorem Dev.readTables_same_of {d : Dev} {r0 : (Option PatModel × Option Nat)} {e0 : Dev} (hk : d.Same false gf ge gs gn gt r₀) (eq : (Dev.readTables d) = (r0, e0)) : e0.Same false gf ge gs gn gt r₀ := by
  have k := @Dev.readTables_same; grind

theorem Dev.putNodes_same {d : Dev} (bs : List Nat) (hk : d.Same false gf ge gs gn gt r₀) :
    (Dev.putNodes d bs).Same false gf ge gs gn gt r₀ := by
  unfold Dev.putNodes
  repeat' first | (with_reducible first | assumption | apply Dev.memWrite_same | apply Dev.Same.both (gm := false)) | (unfold Dev.Same; dsimp only [partOf_false]) | dsimp only

theorem Dev.putCoups_same {d : Dev} (bs : List Nat) (hk : d.Same false gf ge gs gn gt r₀) :
    (Dev.putCoups d bs).Same false gf ge gs gn gt r₀ := by
  unfold Dev.putCoups
  repeat' first | (with_reducible first | assumption | apply Dev.memWrite_same | apply Dev.Same.both (gm := false)) | (unfold Dev.Same; dsimp only [partOf_false]) | dsimp only

theorem Dev.patReport_same {d : Dev} (r : Nat × Nat × Nat × List Nat) (hk : d.Same gm gf ge gs gn gt r₀) :
    (Dev.patReport d r).Same gm gf ge gs gn gt r₀ := by
  unfold Dev.patReport
  repeat' first | (with_reducible first | assumption | apply Dev.raiseLimited_same | apply Dev.raise_same | apply Dev.Same.both | refine ite_same ?_ ?_) | split | (unfold Dev.Same; dsimp only [partOf_false]) | dsimp only

theorem Dev.runStep_same {d : Dev} (m : PatModel) (old : List NodeS) (mult : List Nat) (hk : d.Same gm gf false gs false gt r₀) :
    (Dev.runStep d m old mult).Same gm gf false gs false gt r₀ := by
  unfold Dev.runStep
  repeat' first | (with_reducible first | assumption | intro _ | apply Dev.touchValue_same | apply Dev.raise_same | apply Dev.put_same | apply Dev.Same.both (ge := false) (gn := false) | refine ite_same ?_ ?_ | refine foldl_same (fun _ _ _ => ?_) ?_ _ | refine foldl_snd2_same (fun _ _ _ => ?_) ?_ _ | refine foldl_snd_same (fun _ _ _ => ?_) ?_ _ | refine foldl_fst_same (fun _ _ _ => ?_) ?_ _) | split | (unfold Dev.Same; dsimp only [partOf_false]) | dsimp only

theorem Dev.missStart_same {d : Dev} (cause : Nat) (hk : d.Same gm gf false gs gn gt r₀) :
    (Dev.missStart d cause).Same gm gf false gs gn gt r₀ := by
  unfold Dev.missStart
  repeat' first | (with_reducible first | assumption | apply Dev.Same.both (ge := false) | refine ite_same ?_ ?_) | split | (unfold Dev.Same; dsimp only [partOf_false]) | dsimp only

theorem Dev.tableFault_same {d : Dev} (w : Nat) (hk : d.Same false gf ge gs gn gt r₀) :
    (Dev.tableFault d w).Same false gf ge gs gn gt r₀ := by
  unfold Dev.tableFault
  repeat' first | (with_reducible first | assumption | apply Dev.logFault_same | apply Dev.raise_same | apply Dev.put_same | apply Dev.Same.both (gm := false) | refine ite_same ?_ ?_) | split | (unfold Dev.Same; dsimp only [partOf_false]) | dsimp only

theorem Dev.repeatStale_same {d : Dev} (hk : d.Same gm gf ge gs gn gt r₀) :
    (Dev.repeatStale d).Same gm gf ge gs gn gt r₀ := by
  unfold Dev.repeatStale
  repeat' first | (with_reducible first | assumption | intro _ | apply Dev.produce_same | apply Dev.put_same | apply Dev.Same.both | refine ite_same ?_ ?_ | refine foldl_same (fun _ _ _ => ?_) ?_ _ | refine foldl_snd2_same (fun _ _ _ => ?_) ?_ _ | refine foldl_snd_same (fun _ _ _ => ?_) ?_ _ | refine foldl_fst_same (fun _ _ _ => ?_) ?_ _) | split | (unfold Dev.Same; dsimp only [partOf_false]) | dsimp only

theorem Dev.clearWords_same {d : Dev} (hk : d.Same gm gf ge gs gn gt r₀) :
    (Dev.clearWords d).Same gm gf ge gs gn gt r₀ := by
  unfold Dev.clearWords
  repeat' first | (with_reducible first | assumption | intro _ | apply Dev.produce_same | apply Dev.put_same | apply Dev.Same.both | refine ite_same ?_ ?_ | refine foldl_same (fun _ _ _ => ?_) ?_ _ | refine foldl_snd2_same (fun _ _ _ => ?_) ?_ _ | refine foldl_snd_same (fun _ _ _ => ?_) ?_ _ | refine foldl_fst_same (fun _ _ _ => ?_) ?_ _) | split | (unfold Dev.Same; dsimp only [partOf_false]) | dsimp only

theorem Dev.setSuspect_same {d : Dev} (l : List Nat) (hk : d.Same gm gf false gs gn gt r₀) :
    (Dev.setSuspect d l).Same gm gf false gs gn gt r₀ := by
  unfold Dev.setSuspect
  repeat' first | (with_reducible first | assumption | apply Dev.put_same | apply Dev.Same.both (ge := false)) | (unfold Dev.Same; dsimp only [partOf_false]) | dsimp only

theorem Dev.saveEst_same {d : Dev} (i : Nat) (v : Int) (hk : d.Same false gf ge gs gn gt r₀) :
    (Dev.saveEst d i v).Same false gf ge gs gn gt r₀ := by
  unfold Dev.saveEst
  repeat' first | (with_reducible first | assumption | apply Dev.saveWrite_same | apply Dev.Same.both (gm := false) | refine ite_same ?_ ?_) | split | (unfold Dev.Same; dsimp only [partOf_false]) | dsimp only

theorem Dev.saveEsts_same {d : Dev} (st : List NodeS) (hk : d.Same false gf ge gs gn gt r₀) :
    (Dev.saveEsts d st).Same false gf ge gs gn gt r₀ := by
  unfold Dev.saveEsts
  repeat' first | (with_reducible first | assumption | intro _ | apply Dev.saveEst_same | apply Dev.Same.both (gm := false) | refine foldl_same (fun _ _ _ => ?_) ?_ _ | refine foldl_snd2_same (fun _ _ _ => ?_) ?_ _ | refine foldl_snd_same (fun _ _ _ => ?_) ?_ _ | refine foldl_fst_same (fun _ _ _ => ?_) ?_ _) | (unfold Dev.Same; dsimp only [partOf_false]) | dsimp only

theorem Dev.publishNode_same {d : Dev} (s : Nat) (i : Nat) (o : NodeS) (hk : d.Same gm gf ge gs gn gt r₀) :
    (Dev.publishNode d s i o).Same gm gf ge gs gn gt r₀ := by
  unfold Dev.publishNode
  repeat' first | (with_reducible first | assumption | apply Dev.produce_same | apply Dev.put_same | apply Dev.Same.both | refine ite_same ?_ ?_) | split | (unfold Dev.Same; dsimp only [partOf_false]) | dsimp only

theorem Dev.publishNodes_same {d : Dev} (s : Nat) (st : List NodeS) (hk : d.Same gm gf ge gs gn gt r₀) :
    (Dev.publishNodes d s st).Same gm gf ge gs gn gt r₀ := by
  unfold Dev.publishNodes
  repeat' first | (with_reducible first | assumption | intro _ | apply Dev.publishNode_same | apply Dev.Same.both | refine foldl_same (fun _ _ _ => ?_) ?_ _ | refine foldl_snd2_same (fun _ _ _ => ?_) ?_ _ | refine foldl_snd_same (fun _ _ _ => ?_) ?_ _ | refine foldl_fst_same (fun _ _ _ => ?_) ?_ _) | (unfold Dev.Same; dsimp only [partOf_false]) | dsimp only

theorem Dev.resetNodeWord_same {d : Dev} (w : Nat) (hk : d.Same false gf false gs gn gt r₀) :
    (Dev.resetNodeWord d w).Same false gf false gs gn gt r₀ := by
  unfold Dev.resetNodeWord
  repeat' first | (with_reducible first | assumption | intro _ | apply Dev.publishNode_same | apply Dev.saveEst_same | apply Dev.setSuspect_same | apply Dev.patReport_same | apply Dev.readWord_same | apply Dev.memWrite_same | apply Dev.raise_same | apply Dev.Same.both (gm := false) (ge := false) | refine ite_same ?_ ?_ | refine foldl_same (fun _ _ _ => ?_) ?_ _ | refine foldl_snd2_same (fun _ _ _ => ?_) ?_ _ | refine foldl_snd_same (fun _ _ _ => ?_) ?_ _ | refine foldl_fst_same (fun _ _ _ => ?_) ?_ _) | split | (unfold Dev.Same; dsimp only [partOf_false]) | dsimp only

theorem Dev.resetCoupWord_same {d : Dev} (w : Nat) (hk : d.Same false gf false gs false gt r₀) :
    (Dev.resetCoupWord d w).Same false gf false gs false gt r₀ := by
  unfold Dev.resetCoupWord
  repeat' first | (with_reducible first | assumption | apply Dev.readWord_same | apply Dev.memWrite_same | apply Dev.raise_same | apply Dev.Same.both (gm := false) (ge := false) (gn := false)) | (unfold Dev.Same; dsimp only [partOf_false]) | dsimp only

theorem Dev.readState_same {d : Dev} (hk : d.Same false gf false gs false gt r₀) :
    (Dev.readState d).2.Same false gf false gs false gt r₀ := by
  unfold Dev.readState
  repeat' first | (with_reducible first | assumption | intro _ | apply Dev.resetCoupWord_same | apply Dev.resetNodeWord_same | refine Dev.readWords_same_of ?_ (by assumption) | apply Dev.readWords_same | apply Dev.Same.both (gm := false) (ge := false) (gn := false) | refine ite_same ?_ ?_ | refine foldl_same (fun _ _ _ => ?_) ?_ _ | refine foldl_snd2_same (fun _ _ _ => ?_) ?_ _ | refine foldl_snd_same (fun _ _ _ => ?_) ?_ _ | refine foldl_fst_same (fun _ _ _ => ?_) ?_ _) | split | (unfold Dev.Same; dsimp only [partOf_false]) | dsimp only

theorem Dev.readState_same_of {d : Dev} {r0 : Option (List NodeS × List Nat)} {e0 : Dev} (hk : d.Same false gf false gs false gt r₀) (eq : (Dev.readState d) = (r0, e0)) : e0.Same false gf false gs false gt r₀ := by
  have k := @Dev.readState_same; grind

theorem Dev.soundState_same {d : Dev} (hk : d.Same false gf false gs false gt r₀) :
    (Dev.soundState d).2.Same false gf false gs false gt r₀ := by
  unfold Dev.soundState
  repeat' first | (with_reducible first | assumption | refine Dev.readState_same_of ?_ (by assumption) | apply Dev.readState_same | apply Dev.Same.both (gm := false) (ge := false) (gn := false)) | split | (unfold Dev.Same; dsimp only [partOf_false]) | dsimp only

theorem Dev.soundState_same_of {d : Dev} {r0 : (List NodeS × List Nat)} {e0 : Dev} (hk : d.Same false gf false gs false gt r₀) (eq : (Dev.soundState d) = (r0, e0)) : e0.Same false gf false gs false gt r₀ := by
  have k := @Dev.soundState_same; grind

theorem Dev.patApplyReset_same {d : Dev} (mask : Nat) (hk : d.Same false gf false gs false gt r₀) :
    (Dev.patApplyReset d mask).Same false gf false gs false gt r₀ := by
  unfold Dev.patApplyReset
  repeat' first | (with_reducible first | assumption | intro _ | apply Dev.soundState_same | apply Dev.publishNode_same | apply Dev.saveEsts_same | apply Dev.setSuspect_same | apply Dev.patReport_same | apply Dev.putCoups_same | apply Dev.putNodes_same | apply Dev.Same.both (gm := false) (ge := false) (gn := false) | refine ite_same ?_ ?_ | refine foldl_same (fun _ _ _ => ?_) ?_ _ | refine foldl_snd2_same (fun _ _ _ => ?_) ?_ _ | refine foldl_snd_same (fun _ _ _ => ?_) ?_ _ | refine foldl_fst_same (fun _ _ _ => ?_) ?_ _) | split | (unfold Dev.Same; dsimp only [partOf_false]) | dsimp only

theorem Dev.patResets_same {d : Dev} (hk : d.Same false gf false gs false gt r₀) :
    (Dev.patResets d).Same false gf false gs false gt r₀ := by
  unfold Dev.patResets
  repeat' first | (with_reducible first | assumption | intro _ | apply Dev.patApplyReset_same | apply Dev.done_same | apply Dev.Same.both (gm := false) (ge := false) (gn := false) | refine ite_same ?_ ?_ | refine foldl_same (fun _ _ _ => ?_) ?_ _ | refine foldl_snd2_same (fun _ _ _ => ?_) ?_ _ | refine foldl_snd_same (fun _ _ _ => ?_) ?_ _ | refine foldl_fst_same (fun _ _ _ => ?_) ?_ _) | split | (unfold Dev.Same; dsimp only [partOf_false]) | dsimp only

theorem Dev.readStaged_same {d : Dev} (x : Sys2Proof.Desc) (hk : d.Same false gf ge gs gn gt r₀) :
    (Dev.readStaged d x).2.Same false gf ge gs gn gt r₀ := by
  unfold Dev.readStaged
  repeat' first | (with_reducible first | assumption | refine Dev.readWords_same_of ?_ (by assumption) | apply Dev.readWords_same | apply Dev.Same.both (gm := false)) | split | (unfold Dev.Same; dsimp only [partOf_false]) | dsimp only

theorem Dev.readStaged_same_of {d : Dev} {x : Sys2Proof.Desc} {r0 : Option (List Nat × List Nat × List Nat × List Nat)} {e0 : Dev} (hk : d.Same false gf ge gs gn gt r₀) (eq : (Dev.readStaged d x) = (r0, e0)) : e0.Same false gf ge gs gn gt r₀ := by
  have k := @Dev.readStaged_same; grind

theorem Dev.showPat_same {d : Dev} (hk : d.Same gm gf ge gs gn gt r₀) :
    (Dev.showPat d).Same gm gf ge gs gn gt r₀ := by
  unfold Dev.showPat
  repeat' first | (with_reducible first | assumption | apply Dev.putBit_same | apply Dev.Same.both) | (unfold Dev.Same; dsimp only [partOf_false]) | dsimp only

theorem Dev.oldCoups_same {d : Dev} (hk : d.Same false gf ge gs gn gt r₀) :
    (Dev.oldCoups d).2.Same false gf ge gs gn gt r₀ := by
  unfold Dev.oldCoups
  repeat' first | (with_reducible first | assumption | intro _ | refine Dev.readWords_same_of ?_ (by assumption) | apply Dev.readWords_same | apply Dev.Same.both (gm := false) | refine ite_same ?_ ?_) | split | (unfold Dev.Same; dsimp only [partOf_false]) | dsimp only

theorem Dev.oldCoups_same_of {d : Dev} {r0 : List PatCoup} {e0 : Dev} (hk : d.Same false gf ge gs gn gt r₀) (eq : (Dev.oldCoups d) = (r0, e0)) : e0.Same false gf ge gs gn gt r₀ := by
  have k := @Dev.oldCoups_same; grind

theorem Dev.keptState_same {d : Dev} (m : PatModel) (hk : d.Same false gf false gs false gt r₀) :
    (Dev.keptState d m).2.Same false gf false gs false gt r₀ := by
  unfold Dev.keptState
  repeat' first | (with_reducible first | assumption | intro _ | refine Dev.oldCoups_same_of ?_ (by assumption) | apply Dev.oldCoups_same | refine Dev.soundState_same_of ?_ (by assumption) | apply Dev.soundState_same | apply Dev.Same.both (gm := false) (ge := false) (gn := false) | refine ite_same ?_ ?_) | split | (unfold Dev.Same; dsimp only [partOf_false]) | dsimp only

theorem Dev.keptState_same_of {d : Dev} {m : PatModel} {r0 : ((Nat → Option Int) × (Nat → Option Nat))} {e0 : Dev} (hk : d.Same false gf false gs false gt r₀) (eq : (Dev.keptState d m) = (r0, e0)) : e0.Same false gf false gs false gt r₀ := by
  have k := @Dev.keptState_same; grind

theorem Dev.placeModel_same {d : Dev} (m : PatModel) (h : List Nat) (ns : List Nat) (cs : List Nat) (bs : List Nat) (est : Nat → Option Int) (mul : Nat → Option Nat) (hk : d.Same false gf false gs gn gt r₀) :
    (Dev.placeModel d m h ns cs bs est mul).1.Same false gf false gs gn gt r₀ := by
  unfold Dev.placeModel
  repeat' first | (with_reducible first | assumption | intro _ | apply Dev.saveEsts_same | apply Dev.setSuspect_same | apply Dev.putCoups_same | apply Dev.putNodes_same | apply Dev.memWrite_same | apply Dev.Same.both (gm := false) (ge := false)) | (unfold Dev.Same; dsimp only [partOf_false]) | dsimp only

theorem Dev.placeModel_same_of {d : Dev} {m : PatModel} {h : List Nat} {ns : List Nat} {cs : List Nat} {bs : List Nat} {est : Nat → Option Int} {mul : Nat → Option Nat} {e0 : Dev} {r1 : List NodeS} (hk : d.Same false gf false gs gn gt r₀) (eq : (Dev.placeModel d m h ns cs bs est mul) = (e0, r1)) : e0.Same false gf false gs gn gt r₀ := by
  have k := @Dev.placeModel_same; grind

theorem Dev.endLoad_same {d : Dev} (st : Status) (result : Nat) (hk : d.Same gm gf false gs gn gt r₀) :
    (Dev.endLoad d st result).Same gm gf false gs gn gt r₀ := by
  unfold Dev.endLoad
  repeat' first | (with_reducible first | assumption | apply Dev.showPat_same | apply Dev.finish_same | apply Dev.Same.both (ge := false)) | split | (unfold Dev.Same; dsimp only [partOf_false]) | dsimp only

theorem Dev.endPredictions_same {d : Dev} (st : Status) (hk : d.Same gm gf false gs gn gt r₀) :
    (Dev.endPredictions d st).Same gm gf false gs gn gt r₀ := by
  unfold Dev.endPredictions
  repeat' first | (with_reducible first | assumption | intro _ | apply Dev.showPat_same | apply Dev.finish_same | apply Dev.Same.both (ge := false) | refine foldl_same (fun _ _ _ => ?_) ?_ _ | refine foldl_snd2_same (fun _ _ _ => ?_) ?_ _ | refine foldl_snd_same (fun _ _ _ => ?_) ?_ _ | refine foldl_fst_same (fun _ _ _ => ?_) ?_ _) | (unfold Dev.Same; dsimp only [partOf_false]) | dsimp only

theorem Dev.patCommit_same {d : Dev} (l : PatLoad) (hk : d.Same false gf false gs false gt r₀) :
    (Dev.patCommit d l).1.Same false gf false gs false gt r₀ := by
  unfold Dev.patCommit
  repeat' first | (with_reducible first | assumption | apply Dev.endPredictions_same | apply Dev.endLoad_same | refine Dev.placeModel_same_of ?_ (by assumption) | apply Dev.placeModel_same | refine Dev.keptState_same_of ?_ (by assumption) | apply Dev.keptState_same | refine Dev.readStaged_same_of ?_ (by assumption) | apply Dev.readStaged_same | apply Dev.publishNodes_same | apply Dev.clearWords_same | apply Dev.raise_same | apply Dev.putRet_same | apply Dev.markRec_same | apply Dev.put_same | apply Dev.Same.both (gm := false) (ge := false) (gn := false) | refine ite_same ?_ ?_) | split | (unfold Dev.Same; dsimp only [partOf_false]) | dsimp only

theorem Dev.patCommit_same_of {d : Dev} {l : PatLoad} {e0 : Dev} {r1 : Bool} (hk : d.Same false gf false gs false gt r₀) (eq : (Dev.patCommit d l) = (e0, r1)) : e0.Same false gf false gs false gt r₀ := by
  have k := @Dev.patCommit_same; grind

theorem Dev.patCtrl_same {d : Dev} (v : Nat) (hk : d.Same gm gf false gs gn gt r₀) :
    (Dev.patCtrl d v).Same gm gf false gs gn gt r₀ := by
  unfold Dev.patCtrl
  repeat' first | (with_reducible first | assumption | apply Dev.Same.both (ge := false) | refine ite_same ?_ ?_) | split | (unfold Dev.Same; dsimp only [partOf_false]) | dsimp only

theorem Dev.showRunning_same {d : Dev} (hk : d.Same gm gf ge gs gn gt r₀) :
    (Dev.showRunning d).Same gm gf ge gs gn gt r₀ := by
  unfold Dev.showRunning
  repeat' first | (with_reducible first | assumption | apply Dev.putBit_same | apply Dev.Same.both) | (unfold Dev.Same; dsimp only [partOf_false]) | dsimp only

theorem Dev.beforeStep_same {d : Dev} (hk : d.Same false gf false gs false gt r₀) :
    (Dev.beforeStep d).1.Same false gf false gs false gt r₀ := by
  unfold Dev.beforeStep
  repeat' first | (with_reducible first | assumption | apply Dev.patCtrl_same | refine Dev.patCommit_same_of ?_ (by assumption) | apply Dev.patCommit_same | apply Dev.patResets_same | apply Dev.Same.both (gm := false) (ge := false) (gn := false) | refine ite_same ?_ ?_) | split | (unfold Dev.Same; dsimp only [partOf_false]) | dsimp only

theorem Dev.beforeStep_same_of {d : Dev} {e0 : Dev} {r1 : Bool} (hk : d.Same false gf false gs false gt r₀) (eq : (Dev.beforeStep d) = (e0, r1)) : e0.Same false gf false gs false gt r₀ := by
  have k := @Dev.beforeStep_same; grind

theorem Dev.patStep_same {d : Dev} (hk : d.Same false gf false gs false gt r₀) :
    (Dev.patStep d).Same false gf false gs false gt r₀ := by
  unfold Dev.patStep
  repeat' first | (with_reducible first | assumption | refine Dev.beforeStep_same_of ?_ (by assumption) | apply Dev.beforeStep_same | apply Dev.showRunning_same | refine Dev.readState_same_of ?_ (by assumption) | apply Dev.readState_same | apply Dev.repeatStale_same | apply Dev.tableFault_same | apply Dev.missStart_same | apply Dev.runStep_same | refine Dev.readTables_same_of ?_ (by assumption) | apply Dev.readTables_same | apply Dev.Same.both (gm := false) (ge := false) (gn := false) | refine ite_same ?_ ?_) | split | (unfold Dev.Same; dsimp only [partOf_false]) | dsimp only

theorem Dev.patPassed_same {d : Dev} (t : Nat) (u : Nat) (hk : d.Same gm gf false gs gn gt r₀) :
    (Dev.patPassed d t u).Same gm gf false gs gn gt r₀ := by
  unfold Dev.patPassed
  repeat' first | (with_reducible first | assumption | apply Dev.missStart_same | apply Dev.Same.both (ge := false) | refine ite_same ?_ ?_) | split | (unfold Dev.Same; dsimp only [partOf_false]) | dsimp only

theorem Dev.forecasts_same {d : Dev} (m : PatModel) (hk : d.Same false gf ge gs gn gt r₀) :
    (Dev.forecasts d m).2.Same false gf ge gs gn gt r₀ := by
  unfold Dev.forecasts
  repeat' first | (with_reducible first | assumption | intro _ | apply Dev.readWords_same | apply Dev.Same.both (gm := false) | refine ite_same ?_ ?_ | refine foldl_same (fun _ _ _ => ?_) ?_ _ | refine foldl_snd2_same (fun _ _ _ => ?_) ?_ _ | refine foldl_snd_same (fun _ _ _ => ?_) ?_ _ | refine foldl_fst_same (fun _ _ _ => ?_) ?_ _) | split | (unfold Dev.Same; dsimp only [partOf_false]) | dsimp only

theorem Dev.forecasts_same_of {d : Dev} {m : PatModel} {r0 : List (Option (List Nat))} {e0 : Dev} (hk : d.Same false gf ge gs gn gt r₀) (eq : (Dev.forecasts d m) = (r0, e0)) : e0.Same false gf ge gs gn gt r₀ := by
  have k := @Dev.forecasts_same; grind

theorem Dev.zonePredict_same {d : Dev} (m : PatModel) (s : Nat) (ts : List (List Int)) (z : Nat) (hk : d.Same gm gf false gs gn gt r₀) :
    (Dev.zonePredict d m s ts z).Same gm gf false gs gn gt r₀ := by
  unfold Dev.zonePredict
  repeat' first | (with_reducible first | assumption | apply Dev.setZone_same | apply Dev.Same.both (ge := false) | refine ite_same ?_ ?_) | split | (unfold Dev.Same; dsimp only [partOf_false]) | dsimp only

theorem Dev.hostPredStep_same {d : Dev} (p : HostPred) (rest : List HostPred) (x : Sys2Proof.Desc) (done : Nat) (hk : d.Same false gf false gs false gt r₀) :
    (Dev.hostPredStep d p rest x done).Same false gf false gs false gt r₀ := by
  unfold Dev.hostPredStep
  repeat' first | (with_reducible first | assumption | intro _ | refine Dev.forecasts_same_of ?_ (by assumption) | apply Dev.forecasts_same | apply Dev.showPat_same | refine Dev.readState_same_of ?_ (by assumption) | apply Dev.readState_same | apply Dev.tableFault_same | refine Dev.readTables_same_of ?_ (by assumption) | apply Dev.readTables_same | apply Dev.memWrite_same | apply Dev.done_same | apply Dev.Same.both (gm := false) (ge := false) (gn := false) | refine ite_same ?_ ?_ | refine foldl_same (fun _ _ _ => ?_) ?_ _ | refine foldl_snd2_same (fun _ _ _ => ?_) ?_ _ | refine foldl_snd_same (fun _ _ _ => ?_) ?_ _ | refine foldl_fst_same (fun _ _ _ => ?_) ?_ _) | split | (unfold Dev.Same; dsimp only [partOf_false]) | dsimp only

theorem Dev.patChecked_same {d : Dev} (x : Sys2Proof.Desc) (hk : d.Same false gf false gs gn gt r₀) :
    (Dev.patChecked d x).Same false gf false gs gn gt r₀ := by
  unfold Dev.patChecked
  repeat' first | (with_reducible first | assumption | intro _ | apply Dev.endLoad_same | refine Dev.readStaged_same_of ?_ (by assumption) | apply Dev.readStaged_same | refine Dev.readWords_same_of ?_ (by assumption) | apply Dev.readWords_same | apply Dev.Same.both (gm := false) (ge := false) | refine ite_same ?_ ?_) | split | (unfold Dev.Same; dsimp only [partOf_false]) | dsimp only

theorem Dev.patSlotWritten_same {d : Dev} (id : Nat) (hk : d.Same false gf false gs false gt r₀) :
    (Dev.patSlotWritten d id).Same false gf false gs false gt r₀ := by
  unfold Dev.patSlotWritten
  repeat' first | (with_reducible first | assumption | apply Dev.showRunning_same | refine Dev.patCommit_same_of ?_ (by assumption) | apply Dev.patCommit_same | apply Dev.Same.both (gm := false) (ge := false) (gn := false) | refine ite_same ?_ ?_) | split | (unfold Dev.Same; dsimp only [partOf_false]) | dsimp only

theorem bodyPatLoad_same (id : Nat) (x : Sys2Proof.Desc) {d : Dev} (hk : d.Same gm gf false gs gn gt r₀) :
    (bodyPatLoad id x d).Same gm gf false gs gn gt r₀ := by
  unfold bodyPatLoad
  repeat' first | (with_reducible first | assumption | apply Dev.showPat_same | apply Dev.fail_same | apply Dev.Same.both (ge := false) | refine ite_same ?_ ?_) | split | (unfold Dev.Same; dsimp only [partOf_false]) | dsimp only

theorem bodyPatPredict_same (id : Nat) (x : Sys2Proof.Desc) {d : Dev} (hk : d.Same gm gf false gs gn gt r₀) :
    (bodyPatPredict id x d).Same gm gf false gs gn gt r₀ := by
  unfold bodyPatPredict
  repeat' first | (with_reducible first | assumption | intro _ | apply Dev.showPat_same | apply Dev.fail_same | apply Dev.Same.both (ge := false) | refine ite_same ?_ ?_) | split | (unfold Dev.Same; dsimp only [partOf_false]) | dsimp only

theorem settlePat_same (id : Nat) (r : Rec) {d : Dev} (hk : d.Same gm gf false gs gn gt r₀) :
    (settlePat id r d).Same gm gf false gs gn gt r₀ := by
  unfold settlePat
  repeat' first | (with_reducible first | assumption | intro _ | apply Dev.endLoad_same | apply Dev.showPat_same | apply Dev.done_same | apply Dev.fail_same | apply Dev.finish_same | apply Dev.Same.both (ge := false) | refine ite_same ?_ ?_) | split | (unfold Dev.Same; dsimp only [partOf_false]) | dsimp only

theorem bodyPatAbort_same (id : Nat) (x : Sys2Proof.Desc) {d : Dev} (hk : d.Same gm gf false gs gn gt r₀) :
    (bodyPatAbort id x d).Same gm gf false gs gn gt r₀ := by
  unfold bodyPatAbort
  repeat' first | (with_reducible first | assumption | apply settlePat_same | apply Dev.abortDesc_same | apply Dev.fail_same | apply Dev.Same.both (ge := false) | refine ite_same ?_ ?_) | split | (unfold Dev.Same; dsimp only [partOf_false]) | dsimp only

theorem bodyPatReset_same (id : Nat) (x : Sys2Proof.Desc) {d : Dev} (hk : d.Same false gf false gs false gt r₀) :
    (bodyPatReset id x d).Same false gf false gs false gt r₀ := by
  unfold bodyPatReset
  repeat' first | (with_reducible first | assumption | apply Dev.patResets_same | apply Dev.fail_same | apply Dev.Same.both (gm := false) (ge := false) (gn := false) | refine ite_same ?_ ?_) | split | (unfold Dev.Same; dsimp only [partOf_false]) | dsimp only

theorem Dev.patDip_same {d : Dev} (hk : d.Same gm gf false gs gn gt r₀) :
    (Dev.patDip d).Same gm gf false gs gn gt r₀ := by
  unfold Dev.patDip
  repeat' first | (with_reducible first | assumption | apply Dev.endPredictions_same | apply Dev.endLoad_same | apply Dev.Same.both (ge := false)) | (unfold Dev.Same; dsimp only [partOf_false]) | dsimp only

theorem Dev.writePatCtrl_same {d : Dev} (v : Nat) (hk : d.Same gm gf false gs gn gt r₀) :
    (Dev.writePatCtrl d v).Same gm gf false gs gn gt r₀ := by
  unfold Dev.writePatCtrl
  repeat' first | (with_reducible first | assumption | apply Dev.showRunning_same | apply Dev.patCtrl_same | apply Dev.putHost_same | apply Dev.Same.both (ge := false) | refine ite_same ?_ ?_) | split | (unfold Dev.Same; dsimp only [partOf_false]) | dsimp only

theorem Dev.patRestore_same {d : Dev} (est : Option (List Nat)) (hk : d.Same false gf false gs gn gt r₀) :
    (Dev.patRestore d est).Same false gf false gs gn gt r₀ := by
  unfold Dev.patRestore
  repeat' first | (with_reducible first | assumption | intro _ | apply Dev.showRunning_same | apply Dev.placeModel_same | apply Dev.publishNodes_same | apply Dev.Same.both (gm := false) (ge := false) | refine ite_same ?_ ?_) | split | (unfold Dev.Same; dsimp only [partOf_false]) | dsimp only

/-! ### Loop -/

theorem Dev.setLoop_same {d : Dev} (l : Nat) (x : LoopSt) (hk : d.Same gm gf false gs gn gt r₀) :
    (Dev.setLoop d l x).Same gm gf false gs gn gt r₀ := by
  unfold Dev.setLoop
  repeat' first | (with_reducible first | assumption | apply Dev.Same.both (ge := false)) | (unfold Dev.Same; dsimp only [partOf_false]) | dsimp only

theorem Dev.readSecs_same {d : Dev} (a1 : List Nat) (hk : d.Same false gf ge gs gn gt r₀) :
    (Dev.readSecs d a1).2.2.Same false gf ge gs gn gt r₀ := by
  induction a1 generalizing d with
  | nil => unfold Dev.readSecs; repeat' first | (with_reducible first | assumption | intro _ | refine Dev.readWords_same_of ?_ (by assumption) | apply Dev.readWords_same | apply Dev.Same.both (gm := false)) | split | (unfold Dev.Same; dsimp only [partOf_false]) | dsimp only
  | cons b t ih => unfold Dev.readSecs; repeat' first | with_reducible apply ih | (with_reducible first | assumption | intro _ | refine Dev.readWords_same_of ?_ (by assumption) | apply Dev.readWords_same | apply Dev.Same.both (gm := false)) | split | (unfold Dev.Same; dsimp only [partOf_false]) | dsimp only

theorem Dev.readSecs_same_of {d : Dev} {a1 : List Nat} {r0 : Option SecStates} {r1 : Option Nat} {e0 : Dev} (hk : d.Same false gf ge gs gn gt r₀) (eq : (Dev.readSecs d a1) = (r0, r1, e0)) : e0.Same false gf ge gs gn gt r₀ := by
  have k := @Dev.readSecs_same; grind

theorem Dev.writeSecs_same {d : Dev} (ks : List Nat) (st : SecStates) (hk : d.Same false gf ge gs gn gt r₀) :
    (Dev.writeSecs d ks st).Same false gf ge gs gn gt r₀ := by
  unfold Dev.writeSecs
  repeat' first | (with_reducible first | assumption | intro _ | apply Dev.memWrite_same | apply Dev.Same.both (gm := false) | refine foldl_same (fun _ _ _ => ?_) ?_ _ | refine foldl_snd2_same (fun _ _ _ => ?_) ?_ _ | refine foldl_snd_same (fun _ _ _ => ?_) ?_ _ | refine foldl_fst_same (fun _ _ _ => ?_) ?_ _) | (unfold Dev.Same; dsimp only [partOf_false]) | dsimp only

theorem Dev.showLoop_same {d : Dev} (l : Nat) (hk : d.Same gm gf ge gs gn gt r₀) :
    (Dev.showLoop d l).Same gm gf ge gs gn gt r₀ := by
  unfold Dev.showLoop
  repeat' first | (with_reducible first | assumption | intro _ | apply Dev.put_same | apply Dev.Same.both | refine ite_same ?_ ?_) | split | (unfold Dev.Same; dsimp only [partOf_false]) | dsimp only

theorem Dev.showEngine_same {d : Dev} (hk : d.Same gm gf ge gs gn gt r₀) :
    (Dev.showEngine d).Same gm gf ge gs gn gt r₀ := by
  unfold Dev.showEngine
  repeat' first | (with_reducible first | assumption | intro _ | apply Dev.putBit_same | apply Dev.put_same | apply Dev.Same.both | refine foldl_same (fun _ _ _ => ?_) ?_ _ | refine foldl_snd2_same (fun _ _ _ => ?_) ?_ _ | refine foldl_snd_same (fun _ _ _ => ?_) ?_ _ | refine foldl_fst_same (fun _ _ _ => ?_) ?_ _) | (unfold Dev.Same; dsimp only [partOf_false]) | dsimp only

theorem Dev.loopPublish_same {d : Dev} (l : Nat) (v : Int) (st : Nat) (hk : d.Same gm gf false gs gn gt r₀) :
    (Dev.loopPublish d l v st).Same gm gf false gs gn gt r₀ := by
  unfold Dev.loopPublish
  repeat' first | (with_reducible first | assumption | apply Dev.setLoop_same | apply Dev.setCommand_same | apply Dev.produce_same | apply Dev.Same.both (ge := false) | refine ite_same ?_ ?_) | split | (unfold Dev.Same; dsimp only [partOf_false]) | dsimp only

theorem Dev.heldPublish_same {d : Dev} (l : Nat) (hk : d.Same gm gf false gs gn gt r₀) :
    (Dev.heldPublish d l).Same gm gf false gs gn gt r₀ := by
  unfold Dev.heldPublish
  repeat' first | (with_reducible first | assumption | apply Dev.loopPublish_same | apply Dev.Same.both (ge := false) | refine ite_same ?_ ?_) | split | (unfold Dev.Same; dsimp only [partOf_false]) | dsimp only

theorem Dev.takeModeWaits_same {d : Dev} (l : Nat) (hk : d.Same gm gf false gs gn gt r₀) :
    (Dev.takeModeWaits d l).Same gm gf false gs gn gt r₀ := by
  unfold Dev.takeModeWaits
  repeat' first | (with_reducible first | assumption | intro _ | apply Dev.setLoop_same | apply Dev.Same.both (ge := false) | refine ite_same ?_ ?_ | refine foldl_same (fun _ _ _ => ?_) ?_ _ | refine foldl_snd2_same (fun _ _ _ => ?_) ?_ _ | refine foldl_snd_same (fun _ _ _ => ?_) ?_ _ | refine foldl_fst_same (fun _ _ _ => ?_) ?_ _) | split | (unfold Dev.Same; dsimp only [partOf_false]) | dsimp only

theorem Dev.takeModeSource_same {d : Dev} (l : Nat) (hk : d.Same gm gf false gs gn gt r₀) :
    (Dev.takeModeSource d l).Same gm gf false gs gn gt r₀ := by
  unfold Dev.takeModeSource
  repeat' first | (with_reducible first | assumption | apply Dev.setLoop_same | apply Dev.raiseLimited_same | apply Dev.Same.both (ge := false) | refine ite_same ?_ ?_) | split | (unfold Dev.Same; dsimp only [partOf_false]) | dsimp only

theorem Dev.handOver_same {d : Dev} (l : Nat) (hk : d.Same gm gf false gs gn gt r₀) :
    (Dev.handOver d l).1.Same gm gf false gs gn gt r₀ := by
  unfold Dev.handOver
  repeat' first | (with_reducible first | assumption | apply Dev.setLoop_same | apply Dev.Same.both (ge := false) | refine ite_same ?_ ?_) | split | (unfold Dev.Same; dsimp only [partOf_false]) | dsimp only

theorem Dev.handOver_same_of {d : Dev} {l : Nat} {e0 : Dev} {r1 : Option (Nat × Nat × Nat)} (hk : d.Same gm gf false gs gn gt r₀) (eq : (Dev.handOver d l) = (e0, r1)) : e0.Same gm gf false gs gn gt r₀ := by
  have k := @Dev.handOver_same; grind

theorem Dev.enterHold_same {d : Dev} (l : Nat) (cause : Nat) (held : Int) (hk : d.Same gm gf false gs gn gt r₀) :
    (Dev.enterHold d l cause held).Same gm gf false gs gn gt r₀ := by
  unfold Dev.enterHold
  repeat' first | (with_reducible first | assumption | apply Dev.setLoop_same | apply Dev.raise_same | apply Dev.Same.both (ge := false)) | (unfold Dev.Same; dsimp only [partOf_false]) | dsimp only

theorem Dev.enterLoopSafe_same {d : Dev} (l : Nat) (e : Int) (hk : d.Same gm gf false gs gn gt r₀) :
    (Dev.enterLoopSafe d l e).Same gm gf false gs gn gt r₀ := by
  unfold Dev.enterLoopSafe
  repeat' first | (with_reducible first | assumption | apply Dev.setLoop_same | apply Dev.raise_same | apply Dev.Same.both (ge := false)) | (unfold Dev.Same; dsimp only [partOf_false]) | dsimp only

theorem Dev.leaveHeld_same {d : Dev} (l : Nat) (clear : Bool) (hk : d.Same gm gf false gs gn gt r₀) :
    (Dev.leaveHeld d l clear).Same gm gf false gs gn gt r₀ := by
  unfold Dev.leaveHeld
  repeat' first | (with_reducible first | assumption | apply Dev.setLoop_same | apply Dev.raise_same | apply Dev.Same.both (ge := false) | refine ite_same ?_ ?_) | split | (unfold Dev.Same; dsimp only [partOf_false]) | dsimp only

theorem Dev.feCheck_same {d : Dev} (l : Nat) (e : Int) (sigma : Int) (hk : d.Same gm gf false gs gn gt r₀) :
    (Dev.feCheck d l e sigma).1.Same gm gf false gs gn gt r₀ := by
  unfold Dev.feCheck
  repeat' first | (with_reducible first | assumption | intro _ | apply Dev.setLoop_same | apply Dev.raiseLimited_same | apply Dev.Same.both (ge := false) | refine ite_same ?_ ?_) | split | (unfold Dev.Same; dsimp only [partOf_false]) | dsimp only

theorem Dev.feCheck_same_of {d : Dev} {l : Nat} {e : Int} {sigma : Int} {e0 : Dev} {r1 : Bool} (hk : d.Same gm gf false gs gn gt r₀) (eq : (Dev.feCheck d l e sigma) = (e0, r1)) : e0.Same gm gf false gs gn gt r₀ := by
  have k := @Dev.feCheck_same; grind

theorem Dev.finishWaits_same {d : Dev} (l : Nat) (before : Nat) (hk : d.Same gm gf false gs gn gt r₀) :
    (Dev.finishWaits d l before).Same gm gf false gs gn gt r₀ := by
  unfold Dev.finishWaits
  repeat' first | (with_reducible first | assumption | intro _ | apply Dev.setLoop_same | apply Dev.done_same | apply Dev.Same.both (ge := false) | refine ite_same ?_ ?_ | refine foldl_same (fun _ _ _ => ?_) ?_ _ | refine foldl_snd2_same (fun _ _ _ => ?_) ?_ _ | refine foldl_snd_same (fun _ _ _ => ?_) ?_ _ | refine foldl_fst_same (fun _ _ _ => ?_) ?_ _) | split | (unfold Dev.Same; dsimp only [partOf_false]) | dsimp only

theorem Dev.setChalk_same {d : Dev} (c : Nat) (x : Option ChalkSt) (hk : d.Same gm gf false gs gn gt r₀) :
    (Dev.setChalk d c x).Same gm gf false gs gn gt r₀ := by
  unfold Dev.setChalk
  repeat' first | (with_reducible first | assumption | apply Dev.Same.both (ge := false)) | (unfold Dev.Same; dsimp only [partOf_false]) | dsimp only

theorem Dev.chalkValues_same {d : Dev} (x : Sys2Proof.Desc) (ctx : ChalkCtx) (hk : d.Same gm gf ge gs gn gt r₀) :
    (Dev.chalkValues d x ctx).2.Same gm gf ge gs gn gt r₀ := by
  unfold Dev.chalkValues
  repeat' first | (with_reducible first | assumption | intro _ | apply Dev.nextFree_same | apply Dev.Same.both | refine foldl_same (fun _ _ _ => ?_) ?_ _ | refine foldl_snd2_same (fun _ _ _ => ?_) ?_ _ | refine foldl_snd_same (fun _ _ _ => ?_) ?_ _ | refine foldl_fst_same (fun _ _ _ => ?_) ?_ _) | split | (unfold Dev.Same; dsimp only [partOf_false]) | dsimp only

theorem Dev.chalkValues_same_of {d : Dev} {x : Sys2Proof.Desc} {ctx : ChalkCtx} {r0 : List Int} {e0 : Dev} (hk : d.Same gm gf ge gs gn gt r₀) (eq : (Dev.chalkValues d x ctx) = (r0, e0)) : e0.Same gm gf ge gs gn gt r₀ := by
  have k := @Dev.chalkValues_same; grind

theorem Dev.showChalk_same {d : Dev} (c : Nat) (hk : d.Same gm gf ge gs gn gt r₀) :
    (Dev.showChalk d c).Same gm gf ge gs gn gt r₀ := by
  unfold Dev.showChalk
  repeat' first | (with_reducible first | assumption | apply Dev.put_same | apply Dev.Same.both) | split | (unfold Dev.Same; dsimp only [partOf_false]) | dsimp only

theorem Dev.chalkRecord_same {d : Dev} (c : Nat) (s0 : ChalkSt) (ctx : ChalkCtx) (hk : d.Same false gf false gs gn gt r₀) :
    (Dev.chalkRecord d c s0 ctx).Same false gf false gs gn gt r₀ := by
  unfold Dev.chalkRecord
  repeat' first | (with_reducible first | assumption | intro _ | apply Dev.chalkValues_same | apply Dev.setChalk_same | apply Dev.memWrite_same | apply Dev.raise_same | apply Dev.put_same | apply Dev.Same.both (gm := false) (ge := false) | refine ite_same ?_ ?_) | split | (unfold Dev.Same; dsimp only [partOf_false]) | dsimp only

theorem Dev.chalkAll_same {d : Dev} (l : Nat) (ctx : ChalkCtx) (hk : d.Same false gf false gs gn gt r₀) :
    (Dev.chalkAll d l ctx).Same false gf false gs gn gt r₀ := by
  unfold Dev.chalkAll
  repeat' first | (with_reducible first | assumption | intro _ | apply Dev.chalkRecord_same | apply Dev.setChalk_same | apply Dev.Same.both (gm := false) (ge := false) | refine ite_same ?_ ?_ | refine foldl_same (fun _ _ _ => ?_) ?_ _ | refine foldl_snd2_same (fun _ _ _ => ?_) ?_ _ | refine foldl_snd_same (fun _ _ _ => ?_) ?_ _ | refine foldl_fst_same (fun _ _ _ => ?_) ?_ _) | split | (unfold Dev.Same; dsimp only [partOf_false]) | dsimp only

theorem Dev.chalkEnd_same {d : Dev} (c : Nat) (st : Status) (hk : d.Same gm gf false gs gn gt r₀) :
    (Dev.chalkEnd d c st).Same gm gf false gs gn gt r₀ := by
  unfold Dev.chalkEnd
  repeat' first | (with_reducible first | assumption | apply Dev.showChalk_same | apply Dev.setChalk_same | apply Dev.finish_same | apply Dev.Same.both (ge := false)) | split | (unfold Dev.Same; dsimp only [partOf_false]) | dsimp only

theorem Dev.putTrace_same {d : Dev} (q : Nat) (t : Nat) (a3 : List (List Nat)) (hk : d.Same gm gf ge gs gn gt r₀) :
    (Dev.putTrace d q t a3).Same gm gf ge gs gn gt r₀ := by
  induction a3 generalizing d t with
  | nil => unfold Dev.putTrace; repeat' first | (with_reducible first | assumption | apply Dev.remoteTrace_same | apply Dev.emit_same | apply Dev.put_same | apply Dev.Same.both | refine ite_same ?_ ?_) | split | (unfold Dev.Same; dsimp only [partOf_false]) | dsimp only
  | cons b t ih => unfold Dev.putTrace; repeat' first | with_reducible apply ih | (with_reducible first | assumption | apply Dev.remoteTrace_same | apply Dev.emit_same | apply Dev.put_same | apply Dev.Same.both | refine ite_same ?_ ?_) | split | (unfold Dev.Same; dsimp only [partOf_false]) | dsimp only

theorem Dev.chalkRead_same {d : Dev} (w : Nat) (a2 : Nat) (hk : d.Same false gf ge gs gn gt r₀) :
    (Dev.chalkRead d w a2).2.Same false gf ge gs gn gt r₀ := by
  induction a2 generalizing d w with
  | zero => unfold Dev.chalkRead; repeat' first | (with_reducible first | assumption | refine Dev.readWord_same_of ?_ (by assumption) | apply Dev.readWord_same | apply Dev.Same.both (gm := false)) | split | (unfold Dev.Same; dsimp only [partOf_false]) | dsimp only
  | succ n ih => unfold Dev.chalkRead; repeat' first | with_reducible apply ih | (with_reducible first | assumption | refine Dev.readWord_same_of ?_ (by assumption) | apply Dev.readWord_same | apply Dev.Same.both (gm := false)) | split | (unfold Dev.Same; dsimp only [partOf_false]) | dsimp only

theorem Dev.chalkRead_same_of {d : Dev} {w : Nat} {a2 : Nat} {r0 : (List (List Nat) × Bool)} {e0 : Dev} (hk : d.Same false gf ge gs gn gt r₀) (eq : (Dev.chalkRead d w a2) = (r0, e0)) : e0.Same false gf ge gs gn gt r₀ := by
  have k := @Dev.chalkRead_same; grind

theorem Dev.heldStates_same {d : Dev} (l : Nat) (hk : d.Same false gf false gs gn gt r₀) :
    (Dev.heldStates d l).2.Same false gf false gs gn gt r₀ := by
  unfold Dev.heldStates
  repeat' first | (with_reducible first | assumption | intro _ | apply Dev.writeSecs_same | refine Dev.readSecs_same_of ?_ (by assumption) | apply Dev.readSecs_same | apply Dev.setLoop_same | apply Dev.Same.both (gm := false) (ge := false) | refine ite_same ?_ ?_) | split | (unfold Dev.Same; dsimp only [partOf_false]) | dsimp only

theorem Dev.heldStates_same_of {d : Dev} {l : Nat} {r0 : SecStates} {e0 : Dev} (hk : d.Same false gf false gs gn gt r₀) (eq : (Dev.heldStates d l) = (r0, e0)) : e0.Same false gf false gs gn gt r₀ := by
  have k := @Dev.heldStates_same; grind

theorem Dev.heldCompute_same {d : Dev} (l : Nat) (before : Nat) (sp : Option Int) (fb : Option Int) (ev : Nat) (hk : d.Same false gf false gs gn gt r₀) :
    (Dev.heldCompute d l before sp fb ev).Same false gf false gs gn gt r₀ := by
  unfold Dev.heldCompute
  repeat' first | (with_reducible first | assumption | refine Dev.heldStates_same_of ?_ (by assumption) | apply Dev.heldStates_same | apply Dev.chalkAll_same | apply Dev.finishWaits_same | refine Dev.feCheck_same_of ?_ (by assumption) | apply Dev.feCheck_same | apply Dev.enterLoopSafe_same | apply Dev.heldPublish_same | apply Dev.showLoop_same | apply Dev.setLoop_same | apply Dev.Same.both (gm := false) (ge := false) | refine ite_same ?_ ?_) | split | (unfold Dev.Same; dsimp only [partOf_false]) | dsimp only

theorem Dev.runCompute_same {d : Dev} (l : Nat) (before : Nat) (missing : Bool) (st : SecStates) (sp : Int) (fb : Int) (ff : Int) (sps : List (Nat × Int)) (subst : Bool) (ho : Option (Nat × Nat × Nat)) (hk : d.Same false gf false gs gn gt r₀) :
    (Dev.runCompute d l before missing st sp fb ff sps subst ho).Same false gf false gs gn gt r₀ := by
  unfold Dev.runCompute
  repeat' first | (with_reducible first | assumption | intro _ | apply Dev.chalkAll_same | apply Dev.finishWaits_same | refine Dev.feCheck_same_of ?_ (by assumption) | apply Dev.feCheck_same | apply Dev.enterLoopSafe_same | apply Dev.enterHold_same | apply Dev.heldPublish_same | apply Dev.loopPublish_same | apply Dev.showLoop_same | apply Dev.writeSecs_same | apply Dev.setLoop_same | apply Dev.raise_same | apply Dev.Same.both (gm := false) (ge := false) | refine ite_same ?_ ?_) | split | (unfold Dev.Same; dsimp only [partOf_false]) | dsimp only

theorem Dev.loopCompute_same {d : Dev} (l : Nat) (hk : d.Same false gf false gs false gt r₀) :
    (Dev.loopCompute d l).Same false gf false gs false gt r₀ := by
  unfold Dev.loopCompute
  extract_lets b before node reads dr dm x0 rel x1 en d0 fbr ffr spr keep d1 spAt miss clear release go held d2 h y missing d3 stale r sps z
  have hr0 : dr.Same false gf false gs false gt r₀ := foldl_same (fun _ _ hy => Dev.touchValue_same _ _ _ hy) hk _
  have hm : dm.Same false gf false gs false gt r₀ := Dev.takeModeSource_same _ (Dev.takeModeWaits_same _ hr0)
  clear_value dr dm
  have hu : ({ dm with eng := { dm.eng with unforced := Map.set dm.eng.unforced (lpTarget b % 2 ^ 20) none none } } : Dev).Same false gf false gs false gt r₀ := hm
  have h1 : d1.Same false gf false gs false gt r₀ := Dev.setLoop_same _ _ (Dev.setLoop_same _ _ hu)
  clear_value d1
  have h2 : d2.Same false gf false gs false gt r₀ := ite_same (Dev.leaveHeld_same _ _ h1) h1
  clear_value d2
  have h3 : d3.Same false gf false gs false gt r₀ := Dev.setLoop_same _ _ (Dev.handOver_same _ h2)
  clear_value d3
  have hr : r.2.2.Same false gf false gs false gt r₀ := Dev.readSecs_same _ h3
  clear_value r
  have hz : z.Same false gf false gs false gt r₀ := Dev.logFault_same _ _ _ (Dev.writeSecs_same _ _ hr)
  clear_value z held go
  refine ite_same (Dev.heldCompute_same _ _ _ _ _ (Dev.setLoop_same _ _ h1)) ?_
  split
  · refine ite_same (Dev.heldCompute_same _ _ _ _ _ (Dev.enterHold_same _ _ _ h3)) ?_
    split
    · exact Dev.runCompute_same _ _ _ _ _ _ _ _ _ _ hr
    · exact Dev.heldCompute_same _ _ _ _ _ (Dev.enterHold_same _ _ _ hz)
  · exact Dev.heldCompute_same _ _ _ _ _ (Dev.enterHold_same _ _ _ h3)

theorem Dev.countMissed_same {d : Dev} (a : Nat) (e : Nat) (hk : d.Same gm gf ge gs gn gt r₀) :
    (Dev.countMissed d a e).Same gm gf ge gs gn gt r₀ := by
  unfold Dev.countMissed
  repeat' first | (with_reducible first | assumption | intro _ | apply Dev.put_same | apply Dev.Same.both | refine foldl_same (fun _ _ _ => ?_) ?_ _ | refine foldl_snd2_same (fun _ _ _ => ?_) ?_ _ | refine foldl_snd_same (fun _ _ _ => ?_) ?_ _ | refine foldl_fst_same (fun _ _ _ => ?_) ?_ _) | (unfold Dev.Same; dsimp only [partOf_false]) | dsimp only

theorem Dev.loopResumed_same {d : Dev} (hk : d.Same gm gf false gs gn gt r₀) :
    (Dev.loopResumed d).Same gm gf false gs gn gt r₀ := by
  unfold Dev.loopResumed
  repeat' first | (with_reducible first | assumption | apply Dev.countMissed_same | apply Dev.raise_same | apply Dev.Same.both (ge := false) | refine ite_same ?_ ?_) | split | (unfold Dev.Same; dsimp only [partOf_false]) | dsimp only

theorem Dev.resumeAll_same {d : Dev} (hk : d.Same gm gf false gs gn gt r₀) :
    (Dev.resumeAll d).Same gm gf false gs gn gt r₀ := by
  unfold Dev.resumeAll
  repeat' first | (with_reducible first | assumption | intro _ | apply Dev.setLoop_same | apply Dev.Same.both (ge := false) | refine ite_same ?_ ?_ | refine foldl_same (fun _ _ _ => ?_) ?_ _ | refine foldl_snd2_same (fun _ _ _ => ?_) ?_ _ | refine foldl_snd_same (fun _ _ _ => ?_) ?_ _ | refine foldl_fst_same (fun _ _ _ => ?_) ?_ _) | split | (unfold Dev.Same; dsimp only [partOf_false]) | dsimp only

theorem Dev.loopStop_same {d : Dev} (from_ : Nat) (cause : Nat) (hk : d.Same gm gf false gs gn gt r₀) :
    (Dev.loopStop d from_ cause).Same gm gf false gs gn gt r₀ := by
  unfold Dev.loopStop
  repeat' first | (with_reducible first | assumption | apply Dev.putBit_same | apply Dev.Same.both (ge := false) | refine ite_same ?_ ?_) | split | (unfold Dev.Same; dsimp only [partOf_false]) | dsimp only

theorem Dev.loopBack_same {d : Dev} (from_ : Nat) (hk : d.Same gm gf false gs gn gt r₀) :
    (Dev.loopBack d from_).Same gm gf false gs gn gt r₀ := by
  unfold Dev.loopBack
  repeat' first | (with_reducible first | assumption | apply Dev.resumeAll_same | apply Dev.countMissed_same | apply Dev.putBit_same | apply Dev.put_same | apply Dev.Same.both (ge := false) | refine ite_same ?_ ?_) | split | (unfold Dev.Same; dsimp only [partOf_false]) | dsimp only

theorem Dev.writeLoopCtrl_same {d : Dev} (v : Nat) (hk : d.Same gm gf false gs gn gt r₀) :
    (Dev.writeLoopCtrl d v).Same gm gf false gs gn gt r₀ := by
  unfold Dev.writeLoopCtrl
  repeat' first | (with_reducible first | assumption | apply Dev.resumeAll_same | apply Dev.putHost_same | apply Dev.putBit_same | apply Dev.Same.both (ge := false) | refine ite_same ?_ ?_) | split | (unfold Dev.Same; dsimp only [partOf_false]) | dsimp only

theorem Dev.endSet_same {d : Dev} (id : Nat) (st : Status) (result : Nat) (hk : d.Same gm gf false gs gn gt r₀) :
    (Dev.endSet d id st result).Same gm gf false gs gn gt r₀ := by
  unfold Dev.endSet
  repeat' first | (with_reducible first | assumption | intro _ | apply Dev.showEngine_same | apply Dev.finish_same | apply Dev.Same.both (ge := false)) | (unfold Dev.Same; dsimp only [partOf_false]) | dsimp only

theorem Dev.loopChecked_same {d : Dev} (id : Nat) (x : Sys2Proof.Desc) (hk : d.Same false gf false gs gn gt r₀) :
    (Dev.loopChecked d id x).Same false gf false gs gn gt r₀ := by
  unfold Dev.loopChecked
  repeat' first | (with_reducible first | assumption | intro _ | apply Dev.endSet_same | apply Dev.showEngine_same | refine Dev.readWords_same_of ?_ (by assumption) | apply Dev.readWords_same | apply Dev.Same.both (gm := false) (ge := false) | refine ite_same ?_ ?_) | split | (unfold Dev.Same; dsimp only [partOf_false]) | dsimp only

theorem Dev.admitLoop_same {d : Dev} (l : Nat) (b : List Nat) (lane : Nat) (secs : List Nat) (keep : Bool) (hk : d.Same false gf false gs false gt r₀) :
    (Dev.admitLoop d l b lane secs keep).Same false gf false gs false gt r₀ := by
  unfold Dev.admitLoop
  repeat' first | (with_reducible first | assumption | apply Dev.showLoop_same | apply Dev.writeSecs_same | apply Dev.setLoop_same | apply Dev.setWriter_same | apply Dev.raise_same | apply Dev.put_same | apply Dev.Same.both (gm := false) (ge := false) (gn := false) | refine ite_same ?_ ?_) | split | (unfold Dev.Same; dsimp only [partOf_false]) | dsimp only

theorem Dev.removeLoop_same {d : Dev} (l : Nat) (id : Nat) (hk : d.Same gm gf false gs gn gt r₀) :
    (Dev.removeLoop d l id).Same gm gf false gs gn gt r₀ := by
  unfold Dev.removeLoop
  repeat' first | (with_reducible first | assumption | intro _ | apply Dev.chalkEnd_same | apply Dev.showEngine_same | apply Dev.showLoop_same | apply Dev.setLoop_same | apply Dev.setBlock_same | apply Dev.setWriter_same | apply Dev.done_same | apply Dev.fail_same | apply Dev.put_same | apply Dev.Same.both (ge := false) | refine ite_same ?_ ?_ | refine foldl_same (fun _ _ _ => ?_) ?_ _ | refine foldl_snd2_same (fun _ _ _ => ?_) ?_ _ | refine foldl_snd_same (fun _ _ _ => ?_) ?_ _ | refine foldl_fst_same (fun _ _ _ => ?_) ?_ _) | split | (unfold Dev.Same; dsimp only [partOf_false]) | dsimp only

theorem Dev.loopRestore_same {d : Dev} (hk : d.Same false gf false gs false gt r₀) :
    (Dev.loopRestore d).Same false gf false gs false gt r₀ := by
  unfold Dev.loopRestore
  repeat' first | (with_reducible first | assumption | intro _ | apply Dev.admitLoop_same | apply Dev.showEngine_same | apply Dev.raise_same | apply Dev.Same.both (gm := false) (ge := false) (gn := false) | refine ite_same ?_ ?_ | refine foldl_same (fun _ _ _ => ?_) ?_ _ | refine foldl_snd2_same (fun _ _ _ => ?_) ?_ _ | refine foldl_snd_same (fun _ _ _ => ?_) ?_ _ | refine foldl_fst_same (fun _ _ _ => ?_) ?_ _) | split | (unfold Dev.Same; dsimp only [partOf_false]) | dsimp only

theorem bodyLoopSet_same (id : Nat) (x : Sys2Proof.Desc) {d : Dev} (hk : d.Same gm gf false gs false gt r₀) :
    (bodyLoopSet id x d).Same gm gf false gs false gt r₀ := by
  unfold bodyLoopSet
  repeat' first | (with_reducible first | assumption | intro _ | apply Dev.showEngine_same | apply Dev.fail_same | apply Dev.Same.both (ge := false) (gn := false) | refine ite_same ?_ ?_) | split | (unfold Dev.Same; dsimp only [partOf_false]) | dsimp only

theorem Dev.onLoop_same {d : Dev} (id : Nat) (x : Sys2Proof.Desc) (f : Nat → Dev) (hk : d.Same gm gf ge gs gn gt r₀) (hff : ∀ (x0 : Nat), (f x0).Same gm gf ge gs gn gt r₀) :
    (Dev.onLoop d id x f).Same gm gf ge gs gn gt r₀ := by
  unfold Dev.onLoop
  repeat' first | (with_reducible first | assumption | intro _ | apply Dev.fail_same | apply hff | apply Dev.Same.both | refine ite_same ?_ ?_) | split | (unfold Dev.Same; dsimp only [partOf_false]) | dsimp only

theorem bodyLoopRemove_same (id : Nat) (x : Sys2Proof.Desc) {d : Dev} (hk : d.Same gm gf false gs gn gt r₀) :
    (bodyLoopRemove id x d).Same gm gf false gs gn gt r₀ := by
  unfold bodyLoopRemove
  repeat' first | (with_reducible first | assumption | intro _ | apply Dev.onLoop_same | apply Dev.fail_same | apply Dev.Same.both (ge := false) | refine ite_same ?_ ?_) | split | (unfold Dev.Same; dsimp only [partOf_false]) | dsimp only

theorem Dev.loopWait_same {d : Dev} (l : Nat) (w : LoopWait) (hk : d.Same gm gf false gs gn gt r₀) :
    (Dev.loopWait d l w).Same gm gf false gs gn gt r₀ := by
  unfold Dev.loopWait
  repeat' first | (with_reducible first | assumption | apply Dev.setLoop_same | apply Dev.Same.both (ge := false)) | (unfold Dev.Same; dsimp only [partOf_false]) | dsimp only

theorem bodyLoopMode_same (id : Nat) (x : Sys2Proof.Desc) {d : Dev} (hk : d.Same gm gf false gs gn gt r₀) :
    (bodyLoopMode id x d).Same gm gf false gs gn gt r₀ := by
  unfold bodyLoopMode
  repeat' first | (with_reducible first | assumption | intro _ | apply Dev.loopWait_same | apply Dev.onLoop_same | apply Dev.fail_same | apply Dev.Same.both (ge := false) | refine ite_same ?_ ?_) | split | (unfold Dev.Same; dsimp only [partOf_false]) | dsimp only

theorem bodyLoopHold_same (id : Nat) (x : Sys2Proof.Desc) {d : Dev} (hk : d.Same gm gf false gs gn gt r₀) :
    (bodyLoopHold id x d).Same gm gf false gs gn gt r₀ := by
  unfold bodyLoopHold
  repeat' first | (with_reducible first | assumption | intro _ | apply Dev.loopWait_same | apply Dev.onLoop_same | apply Dev.done_same | apply Dev.fail_same | apply Dev.Same.both (ge := false) | refine ite_same ?_ ?_) | split | (unfold Dev.Same; dsimp only [partOf_false]) | dsimp only

theorem bodyLoopClear_same (id : Nat) (x : Sys2Proof.Desc) {d : Dev} (hk : d.Same gm gf false gs gn gt r₀) :
    (bodyLoopClear id x d).Same gm gf false gs gn gt r₀ := by
  unfold bodyLoopClear
  repeat' first | (with_reducible first | assumption | intro _ | apply Dev.loopWait_same | apply Dev.onLoop_same | apply Dev.done_same | apply Dev.Same.both (ge := false) | refine ite_same ?_ ?_) | split | (unfold Dev.Same; dsimp only [partOf_false]) | dsimp only

theorem bodyChalkArm_same (id : Nat) (x : Sys2Proof.Desc) {d : Dev} (hk : d.Same gm gf false gs gn gt r₀) :
    (bodyChalkArm id x d).Same gm gf false gs gn gt r₀ := by
  unfold bodyChalkArm
  repeat' first | (with_reducible first | assumption | intro _ | apply Dev.showChalk_same | apply Dev.setChalk_same | apply Dev.done_same | apply Dev.fail_same | apply Dev.put_same | apply Dev.Same.both (ge := false) | refine ite_same ?_ ?_) | split | (unfold Dev.Same; dsimp only [partOf_false]) | dsimp only

theorem bodyChalkTrigger_same (id : Nat) (x : Sys2Proof.Desc) {d : Dev} (hk : d.Same gm gf false gs gn gt r₀) :
    (bodyChalkTrigger id x d).Same gm gf false gs gn gt r₀ := by
  unfold bodyChalkTrigger
  repeat' first | (with_reducible first | assumption | apply Dev.setChalk_same | apply Dev.done_same | apply Dev.fail_same | apply Dev.Same.both (ge := false) | refine ite_same ?_ ?_) | split | (unfold Dev.Same; dsimp only [partOf_false]) | dsimp only

theorem bodyChalkStop_same (id : Nat) (x : Sys2Proof.Desc) {d : Dev} (hk : d.Same gm gf false gs gn gt r₀) :
    (bodyChalkStop id x d).Same gm gf false gs gn gt r₀ := by
  unfold bodyChalkStop
  repeat' first | (with_reducible first | assumption | apply Dev.chalkEnd_same | apply Dev.done_same | apply Dev.fail_same | apply Dev.Same.both (ge := false) | refine ite_same ?_ ?_) | split | (unfold Dev.Same; dsimp only [partOf_false]) | dsimp only

theorem settleLoop_same (id : Nat) (r : Rec) {d : Dev} (hk : d.Same gm gf false gs gn gt r₀) :
    (settleLoop id r d).Same gm gf false gs gn gt r₀ := by
  unfold settleLoop
  repeat' first | (with_reducible first | assumption | intro _ | apply Dev.endSet_same | apply Dev.done_same | apply Dev.fail_same | apply Dev.Same.both (ge := false) | refine ite_same ?_ ?_) | split | (unfold Dev.Same; dsimp only [partOf_false]) | dsimp only

theorem bodyLoopAbort_same (id : Nat) (x : Sys2Proof.Desc) {d : Dev} (hk : d.Same gm gf false gs gn gt r₀) :
    (bodyLoopAbort id x d).Same gm gf false gs gn gt r₀ := by
  unfold bodyLoopAbort
  repeat' first | (with_reducible first | assumption | apply settleLoop_same | apply Dev.abortDesc_same | apply Dev.fail_same | apply Dev.Same.both (ge := false) | refine ite_same ?_ ?_) | split | (unfold Dev.Same; dsimp only [partOf_false]) | dsimp only

theorem Dev.loopDip_same {d : Dev} (hk : d.Same gm gf false gs gn gt r₀) :
    (Dev.loopDip d).Same gm gf false gs gn gt r₀ := by
  unfold Dev.loopDip
  repeat' first | (with_reducible first | assumption | intro _ | apply Dev.endSet_same | apply Dev.Same.both (ge := false) | refine foldl_same (fun _ _ _ => ?_) ?_ _ | refine foldl_snd2_same (fun _ _ _ => ?_) ?_ _ | refine foldl_snd_same (fun _ _ _ => ?_) ?_ _ | refine foldl_fst_same (fun _ _ _ => ?_) ?_ _) | (unfold Dev.Same; dsimp only [partOf_false]) | dsimp only

theorem Dev.delayPut_same {d : Dev} (name : Nat) (qty : Nat) (w : VW) (hk : d.Same gm gf false gs gn gt r₀) :
    (Dev.delayPut d name qty w).Same gm gf false gs gn gt r₀ := by
  unfold Dev.delayPut
  repeat' first | (with_reducible first | assumption | intro _ | apply Dev.Same.both (ge := false)) | (unfold Dev.Same; dsimp only [partOf_false]) | dsimp only

theorem Dev.countLate_same {d : Dev} (name : Nat) (qty : Nat) (w : VW) (hk : d.Same gm gf ge gs gn gt r₀) :
    (Dev.countLate d name qty w).Same gm gf ge gs gn gt r₀ := by
  unfold Dev.countLate
  repeat' first | (with_reducible first | assumption | intro _ | apply Dev.bump_same | apply Dev.Same.both | refine ite_same ?_ ?_ | refine foldl_same (fun _ _ _ => ?_) ?_ _ | refine foldl_snd2_same (fun _ _ _ => ?_) ?_ _ | refine foldl_snd_same (fun _ _ _ => ?_) ?_ _ | refine foldl_fst_same (fun _ _ _ => ?_) ?_ _) | split | (unfold Dev.Same; dsimp only [partOf_false]) | dsimp only

/-! ### Quilt -/

theorem Dev.elect_same {d : Dev} (cands : List (Nat × Nat × Nat)) (hk : d.Same gm gf ge gs gn gt r₀) :
    (Dev.elect d cands).Same gm gf ge gs gn gt r₀ := by
  unfold Dev.elect
  repeat' first | (with_reducible first | assumption | apply Dev.followHops_same | apply Dev.raise_same | apply Dev.putBit_same | apply Dev.put_same | apply Dev.Same.both | refine ite_same ?_ ?_) | split | (unfold Dev.Same; dsimp only [partOf_false]) | dsimp only

theorem Dev.takeOffset_same {d : Dev} (ns : Int) (hk : d.Same gm gf ge gs gn gt r₀) :
    (Dev.takeOffset d ns).Same gm gf ge gs gn gt r₀ := by
  unfold Dev.takeOffset
  repeat' first | (with_reducible first | assumption | apply Dev.raise_same | apply Dev.putBit_same | apply Dev.put_same | apply Dev.Same.both | refine ite_same ?_ ?_) | split | (unfold Dev.Same; dsimp only [partOf_false]) | dsimp only

theorem Dev.skipShort_same {d : Dev} (p : Nat) (hk : d.Same gm gf ge gs gn gt r₀) :
    (Dev.skipShort d p).Same gm gf ge gs gn gt r₀ := by
  unfold Dev.skipShort
  repeat' first | (with_reducible first | assumption | apply Dev.putBit_same | apply Dev.Same.both) | (unfold Dev.Same; dsimp only [partOf_false]) | dsimp only

theorem Dev.takeStamps_same {d : Dev} (p : Nat) (n : Nat) (rxb : Nat) (txb : Nat) (hk : d.Same gm gf ge gs gn gt r₀) :
    (Dev.takeStamps d p n rxb txb).Same gm gf ge gs gn gt r₀ := by
  unfold Dev.takeStamps
  repeat' first | (with_reducible first | assumption | apply Dev.skipShort_same | apply Dev.setPort_same | apply Dev.put_same | apply Dev.Same.both | refine ite_same ?_ ?_) | split | (unfold Dev.Same; dsimp only [partOf_false]) | dsimp only

theorem Dev.reportNbrs_same {d : Dev} (hk : d.Same gm gf ge gs gn gt r₀) :
    (Dev.reportNbrs d).Same gm gf ge gs gn gt r₀ := by
  unfold Dev.reportNbrs
  repeat' first | (with_reducible first | assumption | intro _ | apply Dev.sendControl_same | apply Dev.Same.both | refine ite_same ?_ ?_) | split | (unfold Dev.Same; dsimp only [partOf_false]) | dsimp only

theorem Dev.setNbr_same {d : Dev} (p : Nat) (dev : Nat) (port : Nat) (numbered : Bool) (dup : Bool) (hk : d.Same gm gf ge gs gn gt r₀) :
    (Dev.setNbr d p dev port numbered dup).Same gm gf ge gs gn gt r₀ := by
  unfold Dev.setNbr
  repeat' first | (with_reducible first | assumption | apply Dev.reportNbrs_same | apply Dev.raise_same | apply Dev.putBit_same | apply Dev.put_same | apply Dev.Same.both | refine ite_same ?_ ?_) | split | (unfold Dev.Same; dsimp only [partOf_false]) | dsimp only

theorem Dev.sendAudit_same {d : Dev} (p : Nat) (c : Nat) (hk : d.Same gm gf ge gs gn gt r₀) :
    (Dev.sendAudit d p c).Same gm gf ge gs gn gt r₀ := by
  unfold Dev.sendAudit
  repeat' first | (with_reducible first | assumption | apply Dev.emit_same | apply Dev.Same.both) | (unfold Dev.Same; dsimp only [partOf_false]) | dsimp only

theorem Dev.sendAudits_same {d : Dev} (p : Nat) (hk : d.Same gm gf ge gs gn gt r₀) :
    (Dev.sendAudits d p).Same gm gf ge gs gn gt r₀ := by
  unfold Dev.sendAudits
  repeat' first | (with_reducible first | assumption | intro _ | apply Dev.sendAudit_same | apply Dev.Same.both | refine foldl_same (fun _ _ _ => ?_) ?_ _ | refine foldl_snd2_same (fun _ _ _ => ?_) ?_ _ | refine foldl_snd_same (fun _ _ _ => ?_) ?_ _ | refine foldl_fst_same (fun _ _ _ => ?_) ?_ _) | (unfold Dev.Same; dsimp only [partOf_false]) | dsimp only

theorem Dev.quiltTrain_same {d : Dev} (cands : List (Nat × Nat × Nat)) (hk : d.Same gm gf ge gs gn gt r₀) :
    (Dev.quiltTrain d cands).Same gm gf ge gs gn gt r₀ := by
  unfold Dev.quiltTrain
  repeat' first | (with_reducible first | assumption | apply Dev.elect_same | apply Dev.put_same | apply Dev.Same.both | refine ite_same ?_ ?_) | split | (unfold Dev.Same; dsimp only [partOf_false]) | dsimp only

theorem Dev.trainCounts_same {d : Dev} (p : Nat) (used : List Nat) (hk : d.Same gm gf ge gs gn gt r₀) :
    (Dev.trainCounts d p used).Same gm gf ge gs gn gt r₀ := by
  unfold Dev.trainCounts
  repeat' first | (with_reducible first | assumption | intro _ | apply Dev.setPort_same | apply Dev.put_same | apply Dev.Same.both | refine foldl_same (fun _ _ _ => ?_) ?_ _ | refine foldl_snd2_same (fun _ _ _ => ?_) ?_ _ | refine foldl_snd_same (fun _ _ _ => ?_) ?_ _ | refine foldl_fst_same (fun _ _ _ => ?_) ?_ _) | (unfold Dev.Same; dsimp only [partOf_false]) | dsimp only

theorem Dev.linkUp_same {d : Dev} (p : Nat) (hk : d.Same gm gf ge gs gn gt r₀) :
    (Dev.linkUp d p).Same gm gf ge gs gn gt r₀ := by
  unfold Dev.linkUp
  repeat' first | (with_reducible first | assumption | apply Dev.auditReached_same | apply Dev.reroute_same | apply Dev.pump_same | apply Dev.setPortState_same | apply Dev.setPort_same | apply Dev.raise_same | apply Dev.put_same | apply Dev.Same.both) | (unfold Dev.Same; dsimp only [partOf_false]) | dsimp only

theorem Dev.applyLos_same {d : Dev} (p : Nat) (hk : d.Same false gf false gs gn gt r₀) :
    (Dev.applyLos d p).Same false gf false gs gn gt r₀ := by
  unfold Dev.applyLos
  repeat' first | (with_reducible first | assumption | apply Dev.enterTraining_same | apply Dev.linkDown_same | apply Dev.put_same | apply Dev.Same.both (gm := false) (ge := false) | refine ite_same ?_ ?_) | split | (unfold Dev.Same; dsimp only [partOf_false]) | dsimp only

theorem Dev.applyPortEn_same {d : Dev} (hk : d.Same false gf false gs gn gt r₀) :
    (Dev.applyPortEn d).Same false gf false gs gn gt r₀ := by
  unfold Dev.applyPortEn
  repeat' first | (with_reducible first | assumption | intro _ | apply Dev.applyLos_same | apply Dev.enterTraining_same | apply Dev.leaveUp_same | apply Dev.setPortState_same | apply Dev.Same.both (gm := false) (ge := false) | refine ite_same ?_ ?_ | refine foldl_same (fun _ _ _ => ?_) ?_ _ | refine foldl_snd2_same (fun _ _ _ => ?_) ?_ _ | refine foldl_snd_same (fun _ _ _ => ?_) ?_ _ | refine foldl_fst_same (fun _ _ _ => ?_) ?_ _) | split | (unfold Dev.Same; dsimp only [partOf_false]) | dsimp only

theorem Dev.quiltReject_same {d : Dev} (hk : d.Same gm gf ge gs gn gt r₀) :
    (Dev.quiltReject d).Same gm gf ge gs gn gt r₀ := by
  unfold Dev.quiltReject
  repeat' first | (with_reducible first | assumption | apply Dev.put_same | apply Dev.Same.both) | (unfold Dev.Same; dsimp only [partOf_false]) | dsimp only

theorem Dev.writeQuiltCfg_same {d : Dev} (v : Nat) (hk : d.Same false gf false gs gn gt r₀) :
    (Dev.writeQuiltCfg d v).Same false gf false gs gn gt r₀ := by
  unfold Dev.writeQuiltCfg
  repeat' first | (with_reducible first | assumption | apply Dev.quiltReject_same | apply Dev.applyPortEn_same | apply Dev.putHost_same | apply Dev.Same.both (gm := false) (ge := false) | refine ite_same ?_ ?_) | split | (unfold Dev.Same; dsimp only [partOf_false]) | dsimp only

theorem Dev.writePortEq_same {d : Dev} (p : Nat) (v : Nat) (hk : d.Same gm gf ge gs gn gt r₀) :
    (Dev.writePortEq d p v).Same gm gf ge gs gn gt r₀ := by
  unfold Dev.writePortEq
  repeat' first | (with_reducible first | assumption | apply Dev.putHost_same | apply Dev.put_same | apply Dev.Same.both) | (unfold Dev.Same; dsimp only [partOf_false]) | dsimp only

theorem Dev.eqStep_same {d : Dev} (p : Nat) (hk : d.Same gm gf ge gs gn gt r₀) :
    (Dev.eqStep d p).Same gm gf ge gs gn gt r₀ := by
  unfold Dev.eqStep
  repeat' first | (with_reducible first | assumption | apply Dev.setPort_same | apply Dev.Same.both | refine ite_same ?_ ?_) | split | (unfold Dev.Same; dsimp only [partOf_false]) | dsimp only

theorem Dev.sendNak_same {d : Dev} (p : Nat) (hk : d.Same gm gf ge gs gn gt r₀) :
    (Dev.sendNak d p).Same gm gf ge gs gn gt r₀ := by
  unfold Dev.sendNak
  repeat' first | (with_reducible first | assumption | apply Dev.setPort_same | apply Dev.emit_same | apply Dev.Same.both) | (unfold Dev.Same; dsimp only [partOf_false]) | dsimp only

theorem Dev.setGranted_same {d : Dev} (src : Nat) (c : Nat) (n : Nat) (hk : d.Same gm gf ge gs gn gt r₀) :
    (Dev.setGranted d src c n).Same gm gf ge gs gn gt r₀ := by
  unfold Dev.setGranted
  repeat' first | (with_reducible first | assumption | intro _ | apply Dev.put_same | apply Dev.Same.both | refine foldl_same (fun _ _ _ => ?_) ?_ _ | refine foldl_snd2_same (fun _ _ _ => ?_) ?_ _ | refine foldl_snd_same (fun _ _ _ => ?_) ?_ _ | refine foldl_fst_same (fun _ _ _ => ?_) ?_ _) | (unfold Dev.Same; dsimp only [partOf_false]) | dsimp only

theorem Dev.grant_same {d : Dev} (src : Nat) (c : Nat) (n : Nat) (hk : d.Same gm gf ge gs gn gt r₀) :
    (Dev.grant d src c n).Same gm gf ge gs gn gt r₀ := by
  unfold Dev.grant
  repeat' first | (with_reducible first | assumption | apply Dev.setGranted_same | apply Dev.sendControl_same | apply Dev.Same.both | refine ite_same ?_ ?_) | split | (unfold Dev.Same; dsimp only [partOf_false]) | dsimp only

theorem Dev.servePool_same {d : Dev} (a1 : List (Nat × Nat × Nat)) (hk : d.Same gm gf ge gs gn gt r₀) :
    (Dev.servePool d a1).Same gm gf ge gs gn gt r₀ := by
  induction a1 generalizing d with
  | nil => unfold Dev.servePool; repeat' first | (with_reducible first | assumption | apply Dev.grant_same | apply Dev.put_same | apply Dev.Same.both | refine ite_same ?_ ?_) | split | (unfold Dev.Same; dsimp only [partOf_false]) | dsimp only
  | cons b t ih => unfold Dev.servePool; repeat' first | with_reducible apply ih | (with_reducible first | assumption | apply Dev.grant_same | apply Dev.put_same | apply Dev.Same.both | refine ite_same ?_ ?_) | split | (unfold Dev.Same; dsimp only [partOf_false]) | dsimp only

theorem Dev.setResvs_same {d : Dev} (l : List Resv) (hk : d.Same gm gf ge gs gn gt r₀) :
    (Dev.setResvs d l).Same gm gf ge gs gn gt r₀ := by
  unfold Dev.setResvs
  repeat' first | (with_reducible first | assumption | intro _ | apply Dev.setBlock_same | apply Dev.putRet_same | apply Dev.Same.both | refine foldl_same (fun _ _ _ => ?_) ?_ _ | refine foldl_snd2_same (fun _ _ _ => ?_) ?_ _ | refine foldl_snd_same (fun _ _ _ => ?_) ?_ _ | refine foldl_fst_same (fun _ _ _ => ?_) ?_ _) | (unfold Dev.Same; dsimp only [partOf_false]) | dsimp only

theorem Dev.setInFlows_same {d : Dev} (l : List (Nat × Nat × Nat × Nat)) (hk : d.Same gm gf ge gs gn gt r₀) :
    (Dev.setInFlows d l).Same gm gf ge gs gn gt r₀ := by
  unfold Dev.setInFlows
  repeat' first | (with_reducible first | assumption | intro _ | apply Dev.setBlock_same | apply Dev.Same.both) | (unfold Dev.Same; dsimp only [partOf_false]) | dsimp only

theorem Dev.passWalk_same {d : Dev} (a : List Nat) (slot : Nat) (adv : Nat) (hk : d.Same gm gf ge gs gn gt r₀) :
    (Dev.passWalk d a slot adv).2.Same gm gf ge gs gn gt r₀ := by
  unfold Dev.passWalk
  repeat' first | (with_reducible first | assumption | intro _ | apply Dev.setResvs_same | apply Dev.sendControl_same | apply Dev.Same.both | refine ite_same ?_ ?_ | refine foldl_same (fun _ _ _ => ?_) ?_ _ | refine foldl_snd2_same (fun _ _ _ => ?_) ?_ _ | refine foldl_snd_same (fun _ _ _ => ?_) ?_ _ | refine foldl_fst_same (fun _ _ _ => ?_) ?_ _) | split | (unfold Dev.Same; dsimp only [partOf_false]) | dsimp only

theorem Dev.passWalk_same_of {d : Dev} {a : List Nat} {slot : Nat} {adv : Nat} {r0 : (Nat × Nat)} {e0 : Dev} (hk : d.Same gm gf ge gs gn gt r₀) (eq : (Dev.passWalk d a slot adv) = (r0, e0)) : e0.Same gm gf ge gs gn gt r₀ := by
  have k := @Dev.passWalk_same; grind

theorem Dev.removeResvs_same {d : Dev} (consumer : Nat) (src : Nat) (flow : Nat) (chain : Nat) (hk : d.Same gm gf ge gs gn gt r₀) :
    (Dev.removeResvs d consumer src flow chain).Same gm gf ge gs gn gt r₀ := by
  unfold Dev.removeResvs
  repeat' first | (with_reducible first | assumption | intro _ | apply Dev.setResvs_same | apply Dev.sendControl_same | apply Dev.Same.both | refine ite_same ?_ ?_ | refine foldl_same (fun _ _ _ => ?_) ?_ _ | refine foldl_snd2_same (fun _ _ _ => ?_) ?_ _ | refine foldl_snd_same (fun _ _ _ => ?_) ?_ _ | refine foldl_fst_same (fun _ _ _ => ?_) ?_ _) | split | (unfold Dev.Same; dsimp only [partOf_false]) | dsimp only

theorem Dev.replyConsumer_same {d : Dev} (consumer : Nat) (result : Nat) (port : Nat) (dev : Nat) (hops : Nat) (chain : Nat) (flow : Nat) (cls : Nat) (hk : d.Same gm gf ge gs gn gt r₀) :
    (Dev.replyConsumer d consumer result port dev hops chain flow cls).Same gm gf ge gs gn gt r₀ := by
  unfold Dev.replyConsumer
  repeat' first | (with_reducible first | assumption | apply Dev.sendControl_same | apply Dev.Same.both) | (unfold Dev.Same; dsimp only [partOf_false]) | dsimp only

theorem Dev.refuseWalk_same {d : Dev} (w : Walk) (result : Nat) (port : Nat) (dev : Nat) (hk : d.Same gm gf ge gs gn gt r₀) :
    (Dev.refuseWalk d w result port dev).Same gm gf ge gs gn gt r₀ := by
  unfold Dev.refuseWalk
  repeat' first | (with_reducible first | assumption | intro _ | apply Dev.replyConsumer_same | apply Dev.removeResvs_same | apply Dev.setBlock_same | apply Dev.Same.both | refine ite_same ?_ ?_) | split | (unfold Dev.Same; dsimp only [partOf_false]) | dsimp only

theorem Dev.tryWalk_same {d : Dev} (w : Walk) (a2 : Nat) (hk : d.Same gm gf ge gs gn gt r₀) :
    (Dev.tryWalk d w a2).Same gm gf ge gs gn gt r₀ := by
  induction a2 generalizing d w with
  | zero => unfold Dev.tryWalk; repeat' first | (with_reducible first | assumption | apply Dev.refuseWalk_same | apply Dev.passWalk_same | apply Dev.Same.both | refine ite_same ?_ ?_) | split | (unfold Dev.Same; dsimp only [partOf_false]) | dsimp only
  | succ n ih => unfold Dev.tryWalk; repeat' first | with_reducible apply ih | (with_reducible first | assumption | apply Dev.refuseWalk_same | apply Dev.passWalk_same | apply Dev.Same.both | refine ite_same ?_ ?_) | split | (unfold Dev.Same; dsimp only [partOf_false]) | dsimp only

theorem Dev.openAtSource_same {d : Dev} (a : List Nat) (hk : d.Same gm gf ge gs gn gt r₀) :
    (Dev.openAtSource d a).Same gm gf ge gs gn gt r₀ := by
  unfold Dev.openAtSource
  repeat' first | (with_reducible first | assumption | intro _ | apply Dev.tryWalk_same | apply Dev.replyConsumer_same | apply Dev.setBlock_same | apply Dev.Same.both | refine ite_same ?_ ?_) | split | (unfold Dev.Same; dsimp only [partOf_false]) | dsimp only

theorem Dev.branchReply_same {d : Dev} (a : List Nat) (hk : d.Same gm gf ge gs gn gt r₀) :
    (Dev.branchReply d a).Same gm gf ge gs gn gt r₀ := by
  unfold Dev.branchReply
  repeat' first | (with_reducible first | assumption | intro _ | apply Dev.tryWalk_same | apply Dev.refuseWalk_same | apply Dev.replyConsumer_same | apply Dev.removeResvs_same | apply Dev.setBlock_same | apply Dev.Same.both | refine ite_same ?_ ?_) | split | (unfold Dev.Same; dsimp only [partOf_false]) | dsimp only

theorem Dev.closeAtSource_same {d : Dev} (consumer : Nat) (flow : Nat) (hk : d.Same gm gf ge gs gn gt r₀) :
    (Dev.closeAtSource d consumer flow).Same gm gf ge gs gn gt r₀ := by
  unfold Dev.closeAtSource
  repeat' first | (with_reducible first | assumption | intro _ | apply Dev.removeResvs_same | apply Dev.setBlock_same | apply Dev.Same.both | refine ite_same ?_ ?_ | refine foldl_same (fun _ _ _ => ?_) ?_ _ | refine foldl_snd2_same (fun _ _ _ => ?_) ?_ _ | refine foldl_snd_same (fun _ _ _ => ?_) ?_ _ | refine foldl_fst_same (fun _ _ _ => ?_) ?_ _) | split | (unfold Dev.Same; dsimp only [partOf_false]) | dsimp only

theorem Dev.askSource_same {d : Dev} (kind : Nat) (chain : Nat) (src : Nat) (flow : Nat) (period : Nat) (phase : Nat) (o1 : Nat) (o2 : Nat) (hk : d.Same gm gf ge gs gn gt r₀) :
    (Dev.askSource d kind chain src flow period phase o1 o2).Same gm gf ge gs gn gt r₀ := by
  unfold Dev.askSource
  repeat' first | (with_reducible first | assumption | apply Dev.sendControl_same | apply Dev.Same.both) | (unfold Dev.Same; dsimp only [partOf_false]) | dsimp only

theorem bodyFlowOpen_same (id : Nat) (x : Sys2Proof.Desc) {d : Dev} (hk : d.Same gm gf ge gs gn gt r₀) :
    (bodyFlowOpen id x d).Same gm gf ge gs gn gt r₀ := by
  unfold bodyFlowOpen
  repeat' first | (with_reducible first | assumption | intro _ | apply Dev.askSource_same | apply Dev.fail_same | apply Dev.finish_same | apply Dev.Same.both | refine ite_same ?_ ?_) | split | (unfold Dev.Same; dsimp only [partOf_false]) | dsimp only

theorem bodyFlowClose_same (id : Nat) (x : Sys2Proof.Desc) {d : Dev} (hk : d.Same gm gf ge gs gn gt r₀) :
    (bodyFlowClose id x d).Same gm gf ge gs gn gt r₀ := by
  unfold bodyFlowClose
  repeat' first | (with_reducible first | assumption | intro _ | apply Dev.askSource_same | apply Dev.setInFlows_same | apply Dev.fail_same | apply Dev.Same.both) | split | (unfold Dev.Same; dsimp only [partOf_false]) | dsimp only

theorem Dev.dropOp_same {d : Dev} (op : FlowOp) (hk : d.Same gm gf ge gs gn gt r₀) :
    (Dev.dropOp d op).Same gm gf ge gs gn gt r₀ := by
  unfold Dev.dropOp
  repeat' first | (with_reducible first | assumption | intro _ | apply Dev.Same.both) | (unfold Dev.Same; dsimp only [partOf_false]) | dsimp only

theorem Dev.endFlowOpen_same {d : Dev} (op : FlowOp) (st : Status) (hk : d.Same gm gf ge gs gn gt r₀) :
    (Dev.endFlowOpen d op st).Same gm gf ge gs gn gt r₀ := by
  unfold Dev.endFlowOpen
  repeat' first | (with_reducible first | assumption | apply Dev.dropOp_same | apply Dev.askSource_same | apply Dev.fail_same | apply Dev.Same.both) | split | (unfold Dev.Same; dsimp only [partOf_false]) | dsimp only

theorem Dev.askChain_same {d : Dev} (op : FlowOp) (chain : Nat) (hk : d.Same gm gf ge gs gn gt r₀) :
    (Dev.askChain d op chain).Same gm gf ge gs gn gt r₀ := by
  unfold Dev.askChain
  repeat' first | (with_reducible first | assumption | apply Dev.askSource_same | apply Dev.Same.both) | split | (unfold Dev.Same; dsimp only [partOf_false]) | dsimp only

theorem Dev.chainReply_same {d : Dev} (src : Nat) (a : List Nat) (hk : d.Same gm gf ge gs gn gt r₀) :
    (Dev.chainReply d src a).Same gm gf ge gs gn gt r₀ := by
  unfold Dev.chainReply
  repeat' first | (with_reducible first | assumption | intro _ | apply Dev.askChain_same | apply Dev.dropOp_same | apply Dev.askSource_same | apply Dev.setInFlows_same | apply Dev.done_same | apply Dev.finish_same | apply Dev.Same.both | refine ite_same ?_ ?_) | split | (unfold Dev.Same; dsimp only [partOf_false]) | dsimp only

theorem Dev.removeReached_same {d : Dev} (src : Nat) (flow : Nat) (chain : Nat) (alt : Bool) (hk : d.Same gm gf ge gs gn gt r₀) :
    (Dev.removeReached d src flow chain alt).Same gm gf ge gs gn gt r₀ := by
  unfold Dev.removeReached
  repeat' first | (with_reducible first | assumption | intro _ | apply Dev.dropOp_same | apply Dev.done_same | apply Dev.Same.both | refine ite_same ?_ ?_) | split | (unfold Dev.Same; dsimp only [partOf_false]) | dsimp only

theorem Dev.takeAdmit_same {d : Dev} (p : Nat) (st : Stitch) (hk : d.Same gm gf ge gs gn gt r₀) :
    (Dev.takeAdmit d p st).Same gm gf ge gs gn gt r₀ := by
  unfold Dev.takeAdmit
  repeat' first | (with_reducible first | assumption | intro _ | apply Dev.removeReached_same | apply Dev.closeAtSource_same | apply Dev.openAtSource_same | apply Dev.removeResvs_same | refine Dev.passWalk_same_of ?_ (by assumption) | apply Dev.passWalk_same | apply Dev.sendControl_same | apply Dev.Same.both | refine ite_same ?_ ?_) | split | (unfold Dev.Same; dsimp only [partOf_false]) | dsimp only

theorem Dev.takeReply_same {d : Dev} (st : Stitch) (hk : d.Same gm gf ge gs gn gt r₀) :
    (Dev.takeReply d st).Same gm gf ge gs gn gt r₀ := by
  unfold Dev.takeReply
  repeat' first | (with_reducible first | assumption | apply Dev.chainReply_same | apply Dev.branchReply_same | apply Dev.Same.both | refine ite_same ?_ ?_) | split | (unfold Dev.Same; dsimp only [partOf_false]) | dsimp only

theorem Dev.patFlows_same {d : Dev} (hk : d.Same gm gf ge gs gn gt r₀) :
    (Dev.patFlows d).Same gm gf ge gs gn gt r₀ := by
  unfold Dev.patFlows
  repeat' first | (with_reducible first | assumption | intro _ | apply Dev.askSource_same | apply Dev.setInFlows_same | apply Dev.Same.both | refine ite_same ?_ ?_ | refine foldl_same (fun _ _ _ => ?_) ?_ _ | refine foldl_snd2_same (fun _ _ _ => ?_) ?_ _ | refine foldl_snd_same (fun _ _ _ => ?_) ?_ _ | refine foldl_fst_same (fun _ _ _ => ?_) ?_ _) | split | (unfold Dev.Same; dsimp only [partOf_false]) | dsimp only

theorem Dev.sendFlow_same {d : Dev} (n : Nat) (hk : d.Same gm gf ge gs gn gt r₀) :
    (Dev.sendFlow d n).Same gm gf ge gs gn gt r₀ := by
  unfold Dev.sendFlow
  repeat' first | (with_reducible first | assumption | intro _ | apply Dev.placeTack_same | apply Dev.Same.both | refine ite_same ?_ ?_ | refine foldl_same (fun _ _ _ => ?_) ?_ _ | refine foldl_snd2_same (fun _ _ _ => ?_) ?_ _ | refine foldl_snd_same (fun _ _ _ => ?_) ?_ _ | refine foldl_fst_same (fun _ _ _ => ?_) ?_ _) | split | (unfold Dev.Same; dsimp only [partOf_false]) | dsimp only

theorem Dev.sendBoundary_same {d : Dev} (n : Nat) (routed : List Nat) (hk : d.Same gm gf ge gs gn gt r₀) :
    (Dev.sendBoundary d n routed).Same gm gf ge gs gn gt r₀ := by
  unfold Dev.sendBoundary
  repeat' first | (with_reducible first | assumption | intro _ | apply Dev.sendToken_same | apply Dev.Same.both | refine ite_same ?_ ?_) | split | (unfold Dev.Same; dsimp only [partOf_false]) | dsimp only

theorem Dev.takePair_same {d : Dev} (src : Nat) (obj : Nat) (bits : Nat) (hk : d.Same gm gf false gs gn gt r₀) :
    (Dev.takePair d src obj bits).Same gm gf false gs gn gt r₀ := by
  unfold Dev.takePair
  repeat' first | (with_reducible first | assumption | apply Dev.countLate_same | apply Dev.delayPut_same | apply Dev.deliver_same | apply Dev.Same.both (ge := false) | refine ite_same ?_ ?_) | split | (unfold Dev.Same; dsimp only [partOf_false]) | dsimp only

theorem Dev.takeValue_same {d : Dev} (st : Stitch) (hk : d.Same gm gf false gs gn gt r₀) :
    (Dev.takeValue d st).Same gm gf false gs gn gt r₀ := by
  unfold Dev.takeValue
  repeat' first | (with_reducible first | assumption | apply Dev.takePair_same | apply Dev.Same.both (ge := false) | refine ite_same ?_ ?_) | split | (unfold Dev.Same; dsimp only [partOf_false]) | dsimp only

theorem Dev.serveRead_same {d : Dev} (st : Stitch) (hk : d.Same false gf ge gs gn gt r₀) :
    (Dev.serveRead d st).Same false gf ge gs gn gt r₀ := by
  unfold Dev.serveRead
  repeat' first | (with_reducible first | assumption | apply Dev.sendToken_same | refine Dev.readWord_same_of ?_ (by assumption) | apply Dev.readWord_same | apply Dev.Same.both (gm := false) | refine ite_same ?_ ?_) | split | (unfold Dev.Same; dsimp only [partOf_false]) | dsimp only

theorem Dev.serveWrite_same {d : Dev} (st : Stitch) (hk : d.Same false gf ge gs gn gt r₀) :
    (Dev.serveWrite d st).Same false gf ge gs gn gt r₀ := by
  unfold Dev.serveWrite
  repeat' first | (with_reducible first | assumption | intro _ | apply Dev.sendToken_same | apply Dev.memWrite_same | apply Canon.setErr | apply Dev.Same.both (gm := false) | refine ite_same ?_ ?_ | refine foldl_same (fun _ _ _ => ?_) ?_ _ | refine foldl_snd2_same (fun _ _ _ => ?_) ?_ _ | refine foldl_snd_same (fun _ _ _ => ?_) ?_ _ | refine foldl_fst_same (fun _ _ _ => ?_) ?_ _) | split | (unfold Dev.Same; dsimp only [partOf_false]) | dsimp only

theorem Dev.remoteFetch_same {d : Dev} (q : Nat) (hk : d.Same gm gf ge gs gn gt r₀) :
    (Dev.remoteFetch d q).Same gm gf ge gs gn gt r₀ := by
  unfold Dev.remoteFetch
  repeat' first | (with_reducible first | assumption | intro _ | apply Dev.rringFault_same | apply Dev.sendToken_same | apply Dev.Same.both | refine ite_same ?_ ?_ | refine foldl_same (fun _ _ _ => ?_) ?_ _ | refine foldl_snd2_same (fun _ _ _ => ?_) ?_ _ | refine foldl_snd_same (fun _ _ _ => ?_) ?_ _ | refine foldl_fst_same (fun _ _ _ => ?_) ?_ _) | split | (unfold Dev.Same; dsimp only [partOf_false]) | dsimp only

theorem Dev.remoteFetchAll_same {d : Dev} (hk : d.Same gm gf ge gs gn gt r₀) :
    (Dev.remoteFetchAll d).Same gm gf ge gs gn gt r₀ := by
  unfold Dev.remoteFetchAll
  repeat' first | (with_reducible first | assumption | intro _ | apply Dev.remoteFetch_same | apply Dev.Same.both | refine foldl_same (fun _ _ _ => ?_) ?_ _ | refine foldl_snd2_same (fun _ _ _ => ?_) ?_ _ | refine foldl_snd_same (fun _ _ _ => ?_) ?_ _ | refine foldl_fst_same (fun _ _ _ => ?_) ?_ _) | (unfold Dev.Same; dsimp only [partOf_false]) | dsimp only

theorem Dev.takeHeads_same {d : Dev} (bs : List Nat) (hk : d.Same gm gf ge gs gn gt r₀) :
    (Dev.takeHeads d bs).Same gm gf ge gs gn gt r₀ := by
  unfold Dev.takeHeads
  repeat' first | (with_reducible first | assumption | intro _ | apply Dev.put_same | apply Dev.Same.both | refine ite_same ?_ ?_ | refine foldl_same (fun _ _ _ => ?_) ?_ _ | refine foldl_snd2_same (fun _ _ _ => ?_) ?_ _ | refine foldl_snd_same (fun _ _ _ => ?_) ?_ _ | refine foldl_fst_same (fun _ _ _ => ?_) ?_ _) | split | (unfold Dev.Same; dsimp only [partOf_false]) | dsimp only

theorem Dev.takeData_same {d : Dev} (st : Stitch) (hk : d.Same gm gf ge gs gn gt r₀) :
    (Dev.takeData d st).Same gm gf ge gs gn gt r₀ := by
  unfold Dev.takeData
  repeat' first | (with_reducible first | assumption | intro _ | apply Dev.takeHeads_same | apply Dev.remoteFetch_same | apply Dev.takeDesc_same | apply Dev.rringFault_same | apply Dev.fail_same | apply Dev.put_same | apply Dev.Same.both | refine ite_same ?_ ?_) | split | (unfold Dev.Same; dsimp only [partOf_false]) | dsimp only

theorem Dev.takeAck_same {d : Dev} (st : Stitch) (hk : d.Same gm gf ge gs gn gt r₀) :
    (Dev.takeAck d st).Same gm gf ge gs gn gt r₀ := by
  unfold Dev.takeAck
  repeat' first | (with_reducible first | assumption | apply Dev.rringFault_same | apply Dev.Same.both | refine ite_same ?_ ?_) | split | (unfold Dev.Same; dsimp only [partOf_false]) | dsimp only

theorem Dev.takeBell_same {d : Dev} (st : Stitch) (hk : d.Same gm gf ge gs gn gt r₀) :
    (Dev.takeBell d st).Same gm gf ge gs gn gt r₀ := by
  unfold Dev.takeBell
  repeat' first | (with_reducible first | assumption | apply Dev.remoteFetch_same | apply Dev.heartbeat_same | apply Dev.ringTail_same | apply Dev.raise_same | apply Dev.Same.both | refine ite_same ?_ ?_) | split | (unfold Dev.Same; dsimp only [partOf_false]) | dsimp only

theorem Dev.takeTrace_same {d : Dev} (st : Stitch) (hk : d.Same gm gf ge gs gn gt r₀) :
    (Dev.takeTrace d st).Same gm gf ge gs gn gt r₀ := by
  unfold Dev.takeTrace
  repeat' first | (with_reducible first | assumption | apply Dev.putTrace_same | apply Dev.put_same | apply Dev.Same.both | refine ite_same ?_ ?_) | split | (unfold Dev.Same; dsimp only [partOf_false]) | dsimp only

theorem Dev.auditTokens_same {d : Dev} (src : Nat) (c : Nat) (held : Nat) (hk : d.Same gm gf ge gs gn gt r₀) :
    (Dev.auditTokens d src c held).Same gm gf ge gs gn gt r₀ := by
  unfold Dev.auditTokens
  repeat' first | (with_reducible first | assumption | apply Dev.servePool_same | apply Dev.setGranted_same | apply Dev.sendControl_same | apply Dev.put_same | apply Dev.Same.both | refine ite_same ?_ ?_) | split | (unfold Dev.Same; dsimp only [partOf_false]) | dsimp only

theorem Dev.auditDone_same {d : Dev} (dest : Nat) (c : Nat) (ok : Bool) (sum : Nat) (hk : d.Same false gf false gs gn gt r₀) :
    (Dev.auditDone d dest c ok sum).Same false gf false gs gn gt r₀ := by
  unfold Dev.auditDone
  repeat' first | (with_reducible first | assumption | intro _ | apply Dev.endAudits_same | apply Dev.setTokens_same | apply Dev.raise_same | apply Dev.put_same | apply Dev.Same.both (gm := false) (ge := false) | refine ite_same ?_ ?_) | split | (unfold Dev.Same; dsimp only [partOf_false]) | dsimp only

theorem Dev.takeMgmt_same {d : Dev} (p : Nat) (st : Stitch) (hk : d.Same false gf false gs gn gt r₀) :
    (Dev.takeMgmt d p st).Same false gf false gs gn gt r₀ := by
  unfold Dev.takeMgmt
  repeat' first | (with_reducible first | assumption | apply Dev.auditDone_same | apply Dev.auditTokens_same | apply Dev.takeStamps_same | apply Dev.Same.both (gm := false) (ge := false)) | split | (unfold Dev.Same; dsimp only [partOf_false]) | dsimp only

theorem Dev.consume_same {d : Dev} (p : Nat) (st : Stitch) (hk : d.Same false gf false gs gn gt r₀) :
    (Dev.consume d p st).Same false gf false gs gn gt r₀ := by
  unfold Dev.consume
  repeat' first | (with_reducible first | assumption | apply Dev.takeMgmt_same | apply Dev.takeTrace_same | apply Dev.takeBell_same | apply Dev.takeAck_same | apply Dev.takeData_same | apply Dev.serveWrite_same | apply Dev.serveRead_same | apply Dev.takeValue_same | apply Dev.takeReply_same | apply Dev.takeAdmit_same | apply Dev.servePool_same | apply Dev.grant_same | apply Dev.setGranted_same | apply Dev.useTokens_same | apply Dev.sendControl_same | apply Dev.noteTokens_same | apply Dev.setTokens_same | apply Dev.put_same | apply Dev.Same.both (gm := false) (ge := false) | refine ite_same ?_ ?_) | split | (unfold Dev.Same; dsimp only [partOf_false]) | dsimp only

theorem Dev.setFlowRec_same {d : Dev} (k : Nat) (next : Nat) (held : List (Nat × Stitch)) (hk : d.Same gm gf ge gs gn gt r₀) :
    (Dev.setFlowRec d k next held).Same gm gf ge gs gn gt r₀ := by
  unfold Dev.setFlowRec
  repeat' first | (with_reducible first | assumption | apply Dev.Same.both | refine ite_same ?_ ?_) | split | (unfold Dev.Same; dsimp only [partOf_false]) | dsimp only

theorem Dev.drainFlow_same {d : Dev} (k : Nat) (a2 : Nat) (hk : d.Same false gf false gs gn gt r₀) :
    (Dev.drainFlow d k a2).Same false gf false gs gn gt r₀ := by
  induction a2 generalizing d with
  | zero => unfold Dev.drainFlow; repeat' first | (with_reducible first | assumption | intro _ | apply Dev.setFlowRec_same | apply Dev.consume_same | apply Dev.Same.both (gm := false) (ge := false)) | split | (unfold Dev.Same; dsimp only [partOf_false]) | dsimp only
  | succ n ih => unfold Dev.drainFlow; repeat' first | with_reducible apply ih | (with_reducible first | assumption | intro _ | apply Dev.setFlowRec_same | apply Dev.consume_same | apply Dev.Same.both (gm := false) (ge := false)) | split | (unfold Dev.Same; dsimp only [partOf_false]) | dsimp only

theorem Dev.land_same {d : Dev} (p : Nat) (st : Stitch) (hk : d.Same false gf false gs gn gt r₀) :
    (Dev.land d p st).Same false gf false gs gn gt r₀ := by
  unfold Dev.land
  repeat' first | (with_reducible first | assumption | intro _ | apply Dev.drainFlow_same | apply Dev.setFlowRec_same | apply Dev.consume_same | apply Dev.sendControl_same | apply Dev.bump_same | apply Dev.Same.both (gm := false) (ge := false) | refine ite_same ?_ ?_) | split | (unfold Dev.Same; dsimp only [partOf_false]) | dsimp only

theorem Dev.readRoute_same {d : Dev} (n : Nat) (hk : d.Same gm gf ge gs gn gt r₀) :
    (Dev.readRoute d n).2.Same gm gf ge gs gn gt r₀ := by
  unfold Dev.readRoute
  repeat' first | (with_reducible first | assumption | apply Dev.touchHeld_same | apply Dev.Same.both) | (unfold Dev.Same; dsimp only [partOf_false]) | dsimp only

theorem Dev.readRoute_same_of {d : Dev} {n : Nat} {r0 : Bool} {e0 : Dev} (hk : d.Same gm gf ge gs gn gt r₀) (eq : (Dev.readRoute d n) = (r0, e0)) : e0.Same gm gf ge gs gn gt r₀ := by
  have k := @Dev.readRoute_same; grind

theorem Dev.accept_same {d : Dev} (p : Nat) (st : Stitch) (hk : d.Same false gf false gs gn gt r₀) :
    (Dev.accept d p st).Same false gf false gs gn gt r₀ := by
  unfold Dev.accept
  repeat' first | (with_reducible first | assumption | apply Dev.land_same | apply Dev.placeTack_same | apply Dev.enqueue_same | apply Dev.pump_same | apply Dev.freeBuffer_same | apply Dev.setPort_same | apply Dev.emit_same | apply Dev.bump_same | apply Dev.put_same | apply Dev.Same.both (gm := false) (ge := false) | refine ite_same ?_ ?_) | split | (unfold Dev.Same; dsimp only [partOf_false]) | dsimp only

theorem Dev.takeStitch_same {d : Dev} (p : Nat) (st : Stitch) (hk : d.Same false gf false gs gn gt r₀) :
    (Dev.takeStitch d p st).Same false gf false gs gn gt r₀ := by
  unfold Dev.takeStitch
  repeat' first | (with_reducible first | assumption | apply Dev.accept_same | refine Dev.readRoute_same_of ?_ (by assumption) | apply Dev.readRoute_same | apply Dev.sendNak_same | apply Dev.linkError_same | apply Dev.logFault_same | apply Dev.Same.both (gm := false) (ge := false) | refine ite_same ?_ ?_) | split | (unfold Dev.Same; dsimp only [partOf_false]) | dsimp only

theorem Dev.receive_same {d : Dev} (p : Nat) (kind : Nat) (w : Sys2Proof.Word) (wrong : Nat) (first : Bool) (hk : d.Same false gf false gs gn gt r₀) :
    (Dev.receive d p kind w wrong first).Same false gf false gs gn gt r₀ := by
  unfold Dev.receive
  repeat' first | (with_reducible first | assumption | apply Dev.takeStitch_same | apply Dev.setPort_same | apply Dev.recovered_same | apply Dev.bump_same | apply Dev.Same.both (gm := false) (ge := false) | refine ite_same ?_ ?_) | split | (unfold Dev.Same; dsimp only [partOf_false]) | dsimp only

theorem bodyRouteLoad_same (id : Nat) (x : Sys2Proof.Desc) {d : Dev} (hk : d.Same gm gf ge gs gn gt r₀) :
    (bodyRouteLoad id x d).Same gm gf ge gs gn gt r₀ := by
  unfold bodyRouteLoad
  repeat' first | (with_reducible first | assumption | apply Dev.fail_same | apply Dev.Same.both | refine ite_same ?_ ?_) | split | (unfold Dev.Same; dsimp only [partOf_false]) | dsimp only

theorem Dev.endRoute_same {d : Dev} (id : Nat) (st : Status) (result : Nat) (hk : d.Same gm gf ge gs gn gt r₀) :
    (Dev.endRoute d id st result).Same gm gf ge gs gn gt r₀ := by
  unfold Dev.endRoute
  repeat' first | (with_reducible first | assumption | apply Dev.finish_same | apply Dev.Same.both) | (unfold Dev.Same; dsimp only [partOf_false]) | dsimp only

theorem Dev.routeChecked_same {d : Dev} (id : Nat) (x : Sys2Proof.Desc) (hk : d.Same false gf ge gs gn gt r₀) :
    (Dev.routeChecked d id x).Same false gf ge gs gn gt r₀ := by
  unfold Dev.routeChecked
  repeat' first | (with_reducible first | assumption | apply Dev.endRoute_same | refine Dev.readWords_same_of ?_ (by assumption) | apply Dev.readWords_same | apply Dev.Same.both (gm := false) | refine ite_same ?_ ?_) | split | (unfold Dev.Same; dsimp only [partOf_false]) | dsimp only

theorem Dev.putRoutes_same {d : Dev} (bs : List Nat) (hk : d.Same gm gf ge gs gn gt r₀) :
    (Dev.putRoutes d bs).Same gm gf ge gs gn gt r₀ := by
  unfold Dev.putRoutes
  repeat' first | (with_reducible first | assumption | intro _ | apply Dev.put_same | apply Dev.Same.both | refine ite_same ?_ ?_ | refine foldl_same (fun _ _ _ => ?_) ?_ _ | refine foldl_snd2_same (fun _ _ _ => ?_) ?_ _ | refine foldl_snd_same (fun _ _ _ => ?_) ?_ _ | refine foldl_fst_same (fun _ _ _ => ?_) ?_ _) | split | (unfold Dev.Same; dsimp only [partOf_false]) | dsimp only

theorem Dev.routeSwitch_same {d : Dev} (hk : d.Same gm gf ge gs gn gt r₀) :
    (Dev.routeSwitch d).Same gm gf ge gs gn gt r₀ := by
  unfold Dev.routeSwitch
  repeat' first | (with_reducible first | assumption | intro _ | apply Dev.putRoutes_same | apply Dev.endRoute_same | apply Dev.auditReached_same | apply Dev.reroute_same | apply Dev.pump_same | apply Dev.setBlock_same | apply Dev.Same.both) | split | (unfold Dev.Same; dsimp only [partOf_false]) | dsimp only

theorem bodyPortRetrain_same (id : Nat) (x : Sys2Proof.Desc) {d : Dev} (hk : d.Same false gf false gs gn gt r₀) :
    (bodyPortRetrain id x d).Same false gf false gs gn gt r₀ := by
  unfold bodyPortRetrain
  repeat' first | (with_reducible first | assumption | intro _ | apply Dev.linkDown_same | apply Dev.Same.both (gm := false) (ge := false) | refine ite_same ?_ ?_ | refine foldl_same (fun _ _ _ => ?_) ?_ _ | refine foldl_snd2_same (fun _ _ _ => ?_) ?_ _ | refine foldl_snd_same (fun _ _ _ => ?_) ?_ _ | refine foldl_fst_same (fun _ _ _ => ?_) ?_ _) | split | (unfold Dev.Same; dsimp only [partOf_false]) | dsimp only

theorem bodyQuiltAudit_same (id : Nat) (x : Sys2Proof.Desc) {d : Dev} (hk : d.Same false gf false gs gn gt r₀) :
    (bodyQuiltAudit id x d).Same false gf false gs gn gt r₀ := by
  unfold bodyQuiltAudit
  repeat' first | (with_reducible first | assumption | intro _ | apply Dev.sendAudits_same | apply Dev.endAudits_same | apply Dev.auditPair_same | apply Dev.setPort_same | apply Dev.fail_same | apply Dev.Same.both (gm := false) (ge := false) | refine ite_same ?_ ?_ | refine foldl_same (fun _ _ _ => ?_) ?_ _ | refine foldl_snd2_same (fun _ _ _ => ?_) ?_ _ | refine foldl_snd_same (fun _ _ _ => ?_) ?_ _ | refine foldl_fst_same (fun _ _ _ => ?_) ?_ _) | split | (unfold Dev.Same; dsimp only [partOf_false]) | dsimp only

theorem bodyRringDoorbell_same (id : Nat) (x : Sys2Proof.Desc) {d : Dev} (hk : d.Same gm gf ge gs gn gt r₀) :
    (bodyRringDoorbell id x d).Same gm gf ge gs gn gt r₀ := by
  unfold bodyRringDoorbell
  repeat' first | (with_reducible first | assumption | apply Dev.sendToken_same | apply Dev.fail_same | apply Dev.Same.both | refine ite_same ?_ ?_) | split | (unfold Dev.Same; dsimp only [partOf_false]) | dsimp only

theorem settleQuilt_same (id : Nat) (r : Rec) {d : Dev} (hk : d.Same gm gf ge gs gn gt r₀) :
    (settleQuilt id r d).Same gm gf ge gs gn gt r₀ := by
  unfold settleQuilt
  repeat' first | (with_reducible first | assumption | intro _ | apply Dev.endRoute_same | apply Dev.endFlowOpen_same | apply Dev.done_same | apply Dev.fail_same | apply Dev.Same.both | refine ite_same ?_ ?_) | split | (unfold Dev.Same; dsimp only [partOf_false]) | dsimp only

theorem Dev.quiltTick_same {d : Dev} (routed : List Nat) (hk : d.Same gm gf ge gs gn gt r₀) :
    (Dev.quiltTick d routed).Same gm gf ge gs gn gt r₀ := by
  unfold Dev.quiltTick
  repeat' first | (with_reducible first | assumption | intro _ | apply Dev.routeSwitch_same | apply Dev.sendBoundary_same | apply Dev.sendFlow_same | apply Dev.eqStep_same | apply Dev.lateTack_same | apply Dev.pump_same | apply Dev.Same.both | refine foldl_same (fun _ _ _ => ?_) ?_ _ | refine foldl_snd2_same (fun _ _ _ => ?_) ?_ _ | refine foldl_snd_same (fun _ _ _ => ?_) ?_ _ | refine foldl_fst_same (fun _ _ _ => ?_) ?_ _) | (unfold Dev.Same; dsimp only [partOf_false]) | dsimp only

theorem Dev.quiltDip_same {d : Dev} (hk : d.Same gm gf ge gs gn gt r₀) :
    (Dev.quiltDip d).Same gm gf ge gs gn gt r₀ := by
  unfold Dev.quiltDip
  repeat' first | (with_reducible first | assumption | intro _ | apply Dev.endRoute_same | apply Dev.endFlowOpen_same | apply Dev.Same.both | refine foldl_same (fun _ _ _ => ?_) ?_ _ | refine foldl_snd2_same (fun _ _ _ => ?_) ?_ _ | refine foldl_snd_same (fun _ _ _ => ?_) ?_ _ | refine foldl_fst_same (fun _ _ _ => ?_) ?_ _) | split | (unfold Dev.Same; dsimp only [partOf_false]) | dsimp only

theorem Dev.quiltRestore_same {d : Dev} (hk : d.Same gm gf ge gs gn gt r₀) :
    (Dev.quiltRestore d).Same gm gf ge gs gn gt r₀ := by
  unfold Dev.quiltRestore
  repeat' first | (with_reducible first | assumption | intro _ | apply Dev.putRoutes_same | apply Dev.Same.both | refine ite_same ?_ ?_) | split | (unfold Dev.Same; dsimp only [partOf_false]) | dsimp only

end Sys2Proof.Machine
end

