-- ==== Sys2Proof/Laws/SameStore.lean ====
section
/-! SUPPORT. The kinds of state that each operation leaves as they are: the operations of the panel, the stores and the security block. -/

namespace Sys2Proof.Machine
open Sys2Proof

variable {gm gf ge gs gn gt : Bool} {r₀ : Dev}

/-! ### Panel -/

theorem Dev.showPanel_same {d : Dev} (hk : d.Same gm gf ge gs gn gt r₀) :
    (Dev.showPanel d).Same gm gf ge gs gn gt r₀ := by
  unfold Dev.showPanel
  repeat' first | (with_reducible first | assumption | intro _ | apply Dev.put_same | apply Dev.Same.both) | split | (unfold Dev.Same; dsimp only [partOf_false]) | dsimp only

theorem Dev.setPanel_same {d : Dev} (p : PanelSt) (hk : d.Same gm gf ge false gn gt r₀) :
    (Dev.setPanel d p).Same gm gf ge false gn gt r₀ := by
  unfold Dev.setPanel
  repeat' first | (with_reducible first | assumption | apply Dev.showPanel_same | apply Dev.Same.both (gs := false)) | (unfold Dev.Same; dsimp only [partOf_false]) | dsimp only

theorem Dev.showFrontlight_same {d : Dev} (hk : d.Same gm gf ge gs gn gt r₀) :
    (Dev.showFrontlight d).Same gm gf ge gs gn gt r₀ := by
  unfold Dev.showFrontlight
  repeat' first | (with_reducible first | assumption | apply Dev.putBit_same | apply Dev.Same.both) | (unfold Dev.Same; dsimp only [partOf_false]) | dsimp only

theorem Dev.railsOn_same {d : Dev} (hk : d.Same gm gf ge false gn gt r₀) :
    (Dev.railsOn d).Same gm gf ge false gn gt r₀ := by
  unfold Dev.railsOn
  repeat' first | (with_reducible first | assumption | apply Dev.setPanel_same | apply Dev.Same.both (gs := false) | refine ite_same ?_ ?_) | split | (unfold Dev.Same; dsimp only [partOf_false]) | dsimp only

theorem Dev.panelRise_same {d : Dev} (hk : d.Same gm gf ge false gn gt r₀) :
    (Dev.panelRise d).Same gm gf ge false gn gt r₀ := by
  unfold Dev.panelRise
  repeat' first | (with_reducible first | assumption | apply Dev.railsOn_same | apply Dev.Same.both (gs := false) | refine ite_same ?_ ?_) | split | (unfold Dev.Same; dsimp only [partOf_false]) | dsimp only

theorem Dev.panelFall_same {d : Dev} (hk : d.Same gm gf ge false gn gt r₀) :
    (Dev.panelFall d).Same gm gf ge false gn gt r₀ := by
  unfold Dev.panelFall
  repeat' first | (with_reducible first | assumption | apply Dev.setPanel_same | apply Dev.Same.both (gs := false)) | split | (unfold Dev.Same; dsimp only [partOf_false]) | dsimp only

theorem Dev.panelInterrupted_same {d : Dev} (r : PanelRun) (cause : Nat) (hk : d.Same gm gf ge gs gn gt r₀) :
    (Dev.panelInterrupted d r cause).Same gm gf ge gs gn gt r₀ := by
  unfold Dev.panelInterrupted
  repeat' first | (with_reducible first | assumption | apply Dev.raise_same | apply Dev.Same.both) | (unfold Dev.Same; dsimp only [partOf_false]) | dsimp only

theorem Dev.endReq_same {d : Dev} (r : PanelReq) (st : Status) (result : Nat) (hk : d.Same gm gf ge gs gn gt r₀) :
    (Dev.endReq d r st result).Same gm gf ge gs gn gt r₀ := by
  unfold Dev.endReq
  repeat' first | (with_reducible first | assumption | apply Dev.finish_same | apply Dev.Same.both) | split | (unfold Dev.Same; dsimp only [partOf_false]) | dsimp only

theorem Dev.panelStop_same {d : Dev} (cause : Nat) (st : Status) (hk : d.Same gm gf ge false gn gt r₀) :
    (Dev.panelStop d cause st).Same gm gf ge false gn gt r₀ := by
  unfold Dev.panelStop
  repeat' first | (with_reducible first | assumption | intro _ | apply Dev.endReq_same | apply Dev.panelInterrupted_same | apply Dev.setPanel_same | apply Dev.done_same | apply Dev.Same.both (gs := false) | refine ite_same ?_ ?_ | refine foldl_same (fun _ _ _ => ?_) ?_ _ | refine foldl_snd2_same (fun _ _ _ => ?_) ?_ _ | refine foldl_snd_same (fun _ _ _ => ?_) ?_ _ | refine foldl_fst_same (fun _ _ _ => ?_) ?_ _) | split | (unfold Dev.Same; dsimp only [partOf_false]) | dsimp only

theorem Dev.panelFlush_same {d : Dev} (st : Status) (hk : d.Same gm gf ge false gn gt r₀) :
    (Dev.panelFlush d st).Same gm gf ge false gn gt r₀ := by
  unfold Dev.panelFlush
  repeat' first | (with_reducible first | assumption | intro _ | apply Dev.endReq_same | apply Dev.setPanel_same | apply Dev.Same.both (gs := false) | refine foldl_same (fun _ _ _ => ?_) ?_ _ | refine foldl_snd2_same (fun _ _ _ => ?_) ?_ _ | refine foldl_snd_same (fun _ _ _ => ?_) ?_ _ | refine foldl_fst_same (fun _ _ _ => ?_) ?_ _) | (unfold Dev.Same; dsimp only [partOf_false]) | dsimp only

theorem Dev.panelDip_same {d : Dev} (hk : d.Same gm gf ge false gn gt r₀) :
    (Dev.panelDip d).Same gm gf ge false gn gt r₀ := by
  unfold Dev.panelDip
  repeat' first | (with_reducible first | assumption | apply Dev.panelFlush_same | apply Dev.panelStop_same | apply Dev.panelFall_same | apply Dev.showFrontlight_same | apply Dev.Same.both (gs := false)) | (unfold Dev.Same; dsimp only [partOf_false]) | dsimp only

theorem Dev.panelFault_same {d : Dev} (rail : Nat) (mv : Int) (hk : d.Same gm gf ge false gn gt r₀) :
    (Dev.panelFault d rail mv).Same gm gf ge false gn gt r₀ := by
  unfold Dev.panelFault
  repeat' first | (with_reducible first | assumption | apply Dev.panelFlush_same | apply Dev.panelStop_same | apply Dev.panelFall_same | apply Dev.setPanel_same | apply Dev.raise_same | apply Dev.bump_same | apply Dev.put_same | apply Dev.Same.both (gs := false) | refine ite_same ?_ ?_) | split | (unfold Dev.Same; dsimp only [partOf_false]) | dsimp only

theorem Dev.panelBand_same {d : Dev} (die : Int) (hk : d.Same gm gf ge gs gn gt r₀) :
    (Dev.panelBand d die).Same gm gf ge gs gn gt r₀ := by
  unfold Dev.panelBand
  repeat' first | (with_reducible first | assumption | apply Dev.raiseLimited_same | apply Dev.putBit_same | apply Dev.put_same | apply Dev.Same.both | refine ite_same ?_ ?_) | split | (unfold Dev.Same; dsimp only [partOf_false]) | dsimp only

theorem Dev.waves_same {d : Dev} (band : Nat) (mode : Nat) (hk : d.Same false gf ge gs gn gt r₀) :
    (Dev.waves d band mode).2.Same false gf ge gs gn gt r₀ := by
  unfold Dev.waves
  repeat' first | (with_reducible first | assumption | intro _ | apply Dev.readWord_same | apply Dev.Same.both (gm := false) | refine ite_same ?_ ?_ | refine foldl_same (fun _ _ _ => ?_) ?_ _ | refine foldl_snd2_same (fun _ _ _ => ?_) ?_ _ | refine foldl_snd_same (fun _ _ _ => ?_) ?_ _ | refine foldl_fst_same (fun _ _ _ => ?_) ?_ _) | split | (unfold Dev.Same; dsimp only [partOf_false]) | dsimp only

theorem Dev.waves_same_of {d : Dev} {band : Nat} {mode : Nat} {r0 : List (Option (List Nat))} {e0 : Dev} (hk : d.Same false gf ge gs gn gt r₀) (eq : (Dev.waves d band mode) = (r0, e0)) : e0.Same false gf ge gs gn gt r₀ := by
  have k := @Dev.waves_same; grind

theorem Dev.latchWord_same {d : Dev} (r : PanelReq) (k : Nat) (hk : d.Same false gf ge gs gn gt r₀) :
    (Dev.latchWord d r k).2.Same false gf ge gs gn gt r₀ := by
  unfold Dev.latchWord
  repeat' first | (with_reducible first | assumption | intro _ | refine Dev.readWord_same_of ?_ (by assumption) | apply Dev.readWord_same | apply Dev.memWrite_same | apply Dev.Same.both (gm := false) | refine foldl_same (fun _ _ _ => ?_) ?_ _ | refine foldl_snd2_same (fun _ _ _ => ?_) ?_ _ | refine foldl_snd_same (fun _ _ _ => ?_) ?_ _ | refine foldl_fst_same (fun _ _ _ => ?_) ?_ _) | split | (unfold Dev.Same; dsimp only [partOf_false]) | dsimp only

theorem Dev.latchWord_same_of {d : Dev} {r : PanelReq} {k : Nat} {r0 : Bool} {e0 : Dev} (hk : d.Same false gf ge gs gn gt r₀) (eq : (Dev.latchWord d r k) = (r0, e0)) : e0.Same false gf ge gs gn gt r₀ := by
  have k := @Dev.latchWord_same; grind

theorem Dev.panelBegin_same {d : Dev} (r : PanelReq) (hk : d.Same false gf ge false gn gt r₀) :
    (Dev.panelBegin d r).Same false gf ge false gn gt r₀ := by
  unfold Dev.panelBegin
  repeat' first | (with_reducible first | assumption | intro _ | refine Dev.latchWord_same_of ?_ (by assumption) | apply Dev.latchWord_same | refine Dev.waves_same_of ?_ (by assumption) | apply Dev.waves_same | apply Dev.setPanel_same | apply Dev.Same.both (gm := false) (gs := false) | refine ite_same ?_ ?_ | refine foldl_same (fun _ _ _ => ?_) ?_ _ | refine foldl_snd2_same (fun _ _ _ => ?_) ?_ _ | refine foldl_snd_same (fun _ _ _ => ?_) ?_ _ | refine foldl_fst_same (fun _ _ _ => ?_) ?_ _) | split | (unfold Dev.Same; dsimp only [partOf_false]) | dsimp only

theorem Dev.undoWord_same {d : Dev} (r : PanelReq) (k : Nat) (hk : d.Same false gf ge gs gn gt r₀) :
    (Dev.undoWord d r k).Same false gf ge gs gn gt r₀ := by
  unfold Dev.undoWord
  repeat' first | (with_reducible first | assumption | intro _ | refine Dev.readWord_same_of ?_ (by assumption) | apply Dev.readWord_same | apply Dev.memWrite_same | apply Dev.Same.both (gm := false) | refine ite_same ?_ ?_ | refine foldl_same (fun _ _ _ => ?_) ?_ _ | refine foldl_snd2_same (fun _ _ _ => ?_) ?_ _ | refine foldl_snd_same (fun _ _ _ => ?_) ?_ _ | refine foldl_fst_same (fun _ _ _ => ?_) ?_ _) | split | (unfold Dev.Same; dsimp only [partOf_false]) | dsimp only

theorem Dev.panelDrive_same {d : Dev} (r : PanelRun) (hk : d.Same false gf ge false gn gt r₀) :
    (Dev.panelDrive d r).Same false gf ge false gn gt r₀ := by
  unfold Dev.panelDrive
  repeat' first | (with_reducible first | assumption | intro _ | apply Dev.undoWord_same | refine Dev.waves_same_of ?_ (by assumption) | apply Dev.waves_same | apply Dev.setPanel_same | refine Dev.readWord_same_of ?_ (by assumption) | apply Dev.readWord_same | apply Dev.emit_same | apply Dev.Same.both (gm := false) (gs := false) | refine ite_same ?_ ?_ | refine foldl_same (fun _ _ _ => ?_) ?_ _ | refine foldl_snd2_same (fun _ _ _ => ?_) ?_ _ | refine foldl_snd_same (fun _ _ _ => ?_) ?_ _ | refine foldl_fst_same (fun _ _ _ => ?_) ?_ _) | split | (unfold Dev.Same; dsimp only [partOf_false]) | dsimp only

theorem Dev.formCrc_same {d : Dev} (hk : d.Same false gf ge gs gn gt r₀) :
    (Dev.formCrc d).Same false gf ge gs gn gt r₀ := by
  unfold Dev.formCrc
  repeat' first | (with_reducible first | assumption | refine Dev.readWords_same_of ?_ (by assumption) | apply Dev.readWords_same | apply Dev.nextFree_same | apply Dev.put_same | apply Dev.Same.both (gm := false)) | split | (unfold Dev.Same; dsimp only [partOf_false]) | dsimp only

theorem Dev.panelPhaseEnd_same {d : Dev} (r : PanelRun) (duty : Nat) (hk : d.Same false gf ge false gn gt r₀) :
    (Dev.panelPhaseEnd d r duty).Same false gf ge false gn gt r₀ := by
  unfold Dev.panelPhaseEnd
  repeat' first | (with_reducible first | assumption | intro _ | apply Dev.formCrc_same | apply Dev.endReq_same | apply Dev.panelInterrupted_same | apply Dev.showFrontlight_same | apply Dev.setPanel_same | apply Dev.done_same | apply Dev.wrapUp_same | apply Dev.put_same | apply Dev.Same.both (gm := false) (gs := false) | refine ite_same ?_ ?_) | split | (unfold Dev.Same; dsimp only [partOf_false]) | dsimp only

theorem Dev.panelSwitch_same {d : Dev} (hk : d.Same gm gf ge false gn gt r₀) :
    (Dev.panelSwitch d).Same gm gf ge false gn gt r₀ := by
  unfold Dev.panelSwitch
  repeat' first | (with_reducible first | assumption | apply Dev.setPanel_same | apply Dev.setBlock_same | apply Dev.done_same | apply Dev.putRet_same | apply Dev.Same.both (gs := false) | refine ite_same ?_ ?_) | split | (unfold Dev.Same; dsimp only [partOf_false]) | dsimp only

theorem Dev.panelStart_same {d : Dev} (hk : d.Same false gf ge false gn gt r₀) :
    (Dev.panelStart d).Same false gf ge false gn gt r₀ := by
  unfold Dev.panelStart
  repeat' first | (with_reducible first | assumption | apply Dev.railsOn_same | apply Dev.setPanel_same | apply Dev.memWrite_same | apply Dev.Same.both (gm := false) (gs := false) | refine ite_same ?_ ?_) | split | (unfold Dev.Same; dsimp only [partOf_false]) | dsimp only

theorem Dev.panelRestore_same {d : Dev} (hk : d.Same false gf ge gs gn gt r₀) :
    (Dev.panelRestore d).Same false gf ge gs gn gt r₀ := by
  unfold Dev.panelRestore
  repeat' first | (with_reducible first | assumption | apply Dev.memWrite_same | apply Dev.put_same | apply Dev.Same.both (gm := false) | refine ite_same ?_ ?_) | split | (unfold Dev.Same; dsimp only [partOf_false]) | dsimp only

theorem bodyPanelUpdate_same (id : Nat) (x : Sys2Proof.Desc) {d : Dev} (hk : d.Same gm gf ge false gn gt r₀) :
    (bodyPanelUpdate id x d).Same gm gf ge false gn gt r₀ := by
  unfold bodyPanelUpdate
  repeat' first | (with_reducible first | assumption | intro _ | apply Dev.endReq_same | apply Dev.panelRise_same | apply Dev.setPanel_same | apply Dev.fail_same | apply Dev.Same.both (gs := false) | refine ite_same ?_ ?_) | split | (unfold Dev.Same; dsimp only [partOf_false]) | dsimp only

theorem bodyPanelWfload_same (id : Nat) (a1 : Sys2Proof.Desc) {d : Dev} (hk : d.Same gm gf ge false gn gt r₀) :
    (bodyPanelWfload id a1 d).Same gm gf ge false gn gt r₀ := by
  unfold bodyPanelWfload
  repeat' first | (with_reducible first | assumption | apply Dev.setPanel_same | apply Dev.fail_same | apply Dev.Same.both (gs := false) | refine ite_same ?_ ?_) | split | (unfold Dev.Same; dsimp only [partOf_false]) | dsimp only

theorem Dev.endWfload_same {d : Dev} (st : Status) (code : Nat) (hk : d.Same gm gf ge false gn gt r₀) :
    (Dev.endWfload d st code).Same gm gf ge false gn gt r₀ := by
  unfold Dev.endWfload
  repeat' first | (with_reducible first | assumption | apply Dev.setPanel_same | apply Dev.finish_same | apply Dev.Same.both (gs := false)) | split | (unfold Dev.Same; dsimp only [partOf_false]) | dsimp only

theorem Dev.wfloadChecked_same {d : Dev} (id : Nat) (x : Sys2Proof.Desc) (hk : d.Same false gf ge false gn gt r₀) :
    (Dev.wfloadChecked d id x).Same false gf ge false gn gt r₀ := by
  unfold Dev.wfloadChecked
  repeat' first | (with_reducible first | assumption | apply Dev.endWfload_same | apply Dev.setPanel_same | refine Dev.readImage_same_of ?_ (by assumption) | apply Dev.readImage_same | apply Dev.imageRefused_same | apply Dev.memWrite_same | apply Dev.Same.both (gm := false) (gs := false) | refine ite_same ?_ ?_) | split | (unfold Dev.Same; dsimp only [partOf_false]) | dsimp only

theorem bodyPanelCrcCheck_same (id : Nat) (x : Sys2Proof.Desc) {d : Dev} (hk : d.Same gm gf ge gs gn gt r₀) :
    (bodyPanelCrcCheck id x d).Same gm gf ge gs gn gt r₀ := by
  unfold bodyPanelCrcCheck
  repeat' first | (with_reducible first | assumption | apply Dev.done_same | apply Dev.fail_same | apply Dev.finish_same | apply Dev.raise_same | apply Dev.Same.both | refine ite_same ?_ ?_) | split | (unfold Dev.Same; dsimp only [partOf_false]) | dsimp only

theorem settlePanel_same (id : Nat) (r : Rec) {d : Dev} (hk : d.Same gm gf ge false gn gt r₀) :
    (settlePanel id r d).Same gm gf ge false gn gt r₀ := by
  unfold settlePanel
  repeat' first | (with_reducible first | assumption | intro _ | apply Dev.endWfload_same | apply Dev.endReq_same | apply Dev.setPanel_same | apply Dev.done_same | apply Dev.fail_same | apply Dev.Same.both (gs := false) | refine ite_same ?_ ?_) | split | (unfold Dev.Same; dsimp only [partOf_false]) | dsimp only

theorem bodyPanelAbort_same (id : Nat) (x : Sys2Proof.Desc) {d : Dev} (hk : d.Same gm gf ge false gn gt r₀) :
    (bodyPanelAbort id x d).Same gm gf ge false gn gt r₀ := by
  unfold bodyPanelAbort
  repeat' first | (with_reducible first | assumption | apply settlePanel_same | apply Dev.abortDesc_same | apply Dev.fail_same | apply Dev.Same.both (gs := false) | refine ite_same ?_ ?_) | split | (unfold Dev.Same; dsimp only [partOf_false]) | dsimp only

theorem Dev.writePanelCfg_same {d : Dev} (v : Nat) (hk : d.Same gm gf ge false gn gt r₀) :
    (Dev.writePanelCfg d v).Same gm gf ge false gn gt r₀ := by
  unfold Dev.writePanelCfg
  repeat' first | (with_reducible first | assumption | apply Dev.panelFlush_same | apply Dev.panelStop_same | apply Dev.panelFall_same | apply Dev.showFrontlight_same | apply Dev.setPanel_same | apply Dev.markHost_same | apply Dev.put_same | apply Dev.Same.both (gs := false) | refine ite_same ?_ ?_) | split | (unfold Dev.Same; dsimp only [partOf_false]) | dsimp only

/-! ### Keys -/

theorem Dev.setKey_same {d : Dev} (i : Nat) (x : KeySt) (hk : d.Same gm gf ge false gn gt r₀) :
    (Dev.setKey d i x).Same gm gf ge false gn gt r₀ := by
  unfold Dev.setKey
  repeat' first | (with_reducible first | assumption | apply Dev.Same.both (gs := false)) | (unfold Dev.Same; dsimp only [partOf_false]) | dsimp only

theorem Dev.setEnc_same {d : Dev} (n : Nat) (x : EncSt) (hk : d.Same gm gf ge false gn gt r₀) :
    (Dev.setEnc d n x).Same gm gf ge false gn gt r₀ := by
  unfold Dev.setEnc
  repeat' first | (with_reducible first | assumption | apply Dev.Same.both (gs := false)) | (unfold Dev.Same; dsimp only [partOf_false]) | dsimp only

theorem Dev.publishKeys_same {d : Dev} (l : List Nat) (hk : d.Same gm gf ge gs gn gt r₀) :
    (Dev.publishKeys d l).Same gm gf ge gs gn gt r₀ := by
  unfold Dev.publishKeys
  repeat' first | (with_reducible first | assumption | intro _ | apply Dev.produce_same | apply Dev.Same.both | refine foldl_same (fun _ _ _ => ?_) ?_ _ | refine foldl_snd2_same (fun _ _ _ => ?_) ?_ _ | refine foldl_snd_same (fun _ _ _ => ?_) ?_ _ | refine foldl_fst_same (fun _ _ _ => ?_) ?_ _) | (unfold Dev.Same; dsimp only [partOf_false]) | dsimp only

theorem Dev.showKeys_same {d : Dev} (hk : d.Same gm gf ge gs gn gt r₀) :
    (Dev.showKeys d).Same gm gf ge gs gn gt r₀ := by
  unfold Dev.showKeys
  repeat' first | (with_reducible first | assumption | intro _ | apply Dev.put_same | apply Dev.Same.both | refine ite_same ?_ ?_ | refine foldl_same (fun _ _ _ => ?_) ?_ _ | refine foldl_snd2_same (fun _ _ _ => ?_) ?_ _ | refine foldl_snd_same (fun _ _ _ => ?_) ?_ _ | refine foldl_fst_same (fun _ _ _ => ?_) ?_ _) | split | (unfold Dev.Same; dsimp only [partOf_false]) | dsimp only

theorem Dev.showKeyIrq_same {d : Dev} (hk : d.Same gm gf ge gs gn gt r₀) :
    (Dev.showKeyIrq d).Same gm gf ge gs gn gt r₀ := by
  unfold Dev.showKeyIrq
  repeat' first | (with_reducible first | assumption | apply Dev.emit_same | apply Dev.Same.both) | (unfold Dev.Same; dsimp only [partOf_false]) | dsimp only

theorem Dev.keyPending_same {d : Dev} (hk : d.Same gm gf ge gs gn gt r₀) :
    (Dev.keyPending d).Same gm gf ge gs gn gt r₀ := by
  unfold Dev.keyPending
  repeat' first | (with_reducible first | assumption | apply Dev.showKeyIrq_same | apply Dev.put_same | apply Dev.Same.both) | (unfold Dev.Same; dsimp only [partOf_false]) | dsimp only

theorem Dev.keyChange_same {d : Dev} (i : Nat) (hk : d.Same gm gf ge gs gn gt r₀) :
    (Dev.keyChange d i).Same gm gf ge gs gn gt r₀ := by
  unfold Dev.keyChange
  repeat' first | (with_reducible first | assumption | apply Dev.keyPending_same | apply Dev.raise_same | apply Dev.Same.both | refine ite_same ?_ ?_) | split | (unfold Dev.Same; dsimp only [partOf_false]) | dsimp only

theorem Dev.setKeyLock_same {d : Dev} (on : Bool) (cause : Nat) (hk : d.Same gm gf ge false gn gt r₀) :
    (Dev.setKeyLock d on cause).Same gm gf ge false gn gt r₀ := by
  unfold Dev.setKeyLock
  repeat' first | (with_reducible first | assumption | intro _ | apply Dev.showKeys_same | apply Dev.publishKeys_same | apply Dev.setKey_same | apply Dev.raise_same | apply Dev.putRet_same | apply Dev.Same.both (gs := false) | refine ite_same ?_ ?_ | refine foldl_same (fun _ _ _ => ?_) ?_ _ | refine foldl_snd2_same (fun _ _ _ => ?_) ?_ _ | refine foldl_snd_same (fun _ _ _ => ?_) ?_ _ | refine foldl_fst_same (fun _ _ _ => ?_) ?_ _) | split | (unfold Dev.Same; dsimp only [partOf_false]) | dsimp only

theorem Dev.unlockStep_same {d : Dev} (n : Nat) (hk : d.Same gm gf ge false gn gt r₀) :
    (Dev.unlockStep d n).Same gm gf ge false gn gt r₀ := by
  unfold Dev.unlockStep
  repeat' first | (with_reducible first | assumption | apply Dev.setKeyLock_same | apply Dev.put_same | apply Dev.Same.both (gs := false) | refine ite_same ?_ ?_) | split | (unfold Dev.Same; dsimp only [partOf_false]) | dsimp only

theorem Dev.unlockPress_same {d : Dev} (i : Nat) (hk : d.Same gm gf ge false gn gt r₀) :
    (Dev.unlockPress d i).Same gm gf ge false gn gt r₀ := by
  unfold Dev.unlockPress
  repeat' first | (with_reducible first | assumption | apply Dev.unlockStep_same | apply Dev.raiseCounted_same | apply Dev.put_same | apply Dev.Same.both (gs := false) | refine ite_same ?_ ?_) | split | (unfold Dev.Same; dsimp only [partOf_false]) | dsimp only

theorem Dev.sampleKey_same {d : Dev} (raw : Nat) (i : Nat) (hk : d.Same gm gf ge false gn gt r₀) :
    (Dev.sampleKey d raw i).2.Same gm gf ge false gn gt r₀ := by
  unfold Dev.sampleKey
  repeat' first | (with_reducible first | assumption | apply Dev.setKey_same | apply Dev.Same.both (gs := false) | refine ite_same ?_ ?_) | split | (unfold Dev.Same; dsimp only [partOf_false]) | dsimp only

theorem Dev.sampleKey_same_of {d : Dev} {raw : Nat} {i : Nat} {r0 : Bool} {e0 : Dev} (hk : d.Same gm gf ge false gn gt r₀) (eq : (Dev.sampleKey d raw i) = (r0, e0)) : e0.Same gm gf ge false gn gt r₀ := by
  have k := @Dev.sampleKey_same; grind

theorem Dev.guardKeys_same {d : Dev} (hk : d.Same gm gf ge false gn gt r₀) :
    (Dev.guardKeys d).2.Same gm gf ge false gn gt r₀ := by
  unfold Dev.guardKeys
  repeat' first | (with_reducible first | assumption | intro _ | apply Dev.setKey_same | apply Dev.Same.both (gs := false) | refine ite_same ?_ ?_ | refine foldl_same (fun _ _ _ => ?_) ?_ _ | refine foldl_snd2_same (fun _ _ _ => ?_) ?_ _ | refine foldl_snd_same (fun _ _ _ => ?_) ?_ _ | refine foldl_fst_same (fun _ _ _ => ?_) ?_ _) | split | (unfold Dev.Same; dsimp only [partOf_false]) | dsimp only

theorem Dev.guardKeys_same_of {d : Dev} {r0 : List Nat} {e0 : Dev} (hk : d.Same gm gf ge false gn gt r₀) (eq : (Dev.guardKeys d) = (r0, e0)) : e0.Same gm gf ge false gn gt r₀ := by
  have k := @Dev.guardKeys_same; grind

theorem Dev.applyKeyLocks_same {d0 : Dev} (hkd0 : d0.Same gm gf ge false gn gt r₀) :
    (Dev.applyKeyLocks d0).Same gm gf ge false gn gt r₀ := by
  unfold Dev.applyKeyLocks
  repeat' first | (with_reducible first | assumption | intro _ | apply Dev.setKeyLock_same | apply Dev.done_same | apply Dev.put_same | apply Dev.Same.both (gs := false) | refine ite_same ?_ ?_ | refine foldl_same (fun _ _ _ => ?_) ?_ _ | refine foldl_snd2_same (fun _ _ _ => ?_) ?_ _ | refine foldl_snd_same (fun _ _ _ => ?_) ?_ _ | refine foldl_fst_same (fun _ _ _ => ?_) ?_ _) | split | (unfold Dev.Same; dsimp only [partOf_false]) | dsimp only

theorem Dev.wakeScanner_same {d : Dev} (hk : d.Same gm gf ge false gn gt r₀) :
    (Dev.wakeScanner d).Same gm gf ge false gn gt r₀ := by
  unfold Dev.wakeScanner
  repeat' first | (with_reducible first | assumption | apply Dev.put_same | apply Dev.Same.both (gs := false)) | (unfold Dev.Same; dsimp only [partOf_false]) | dsimp only

theorem bodyKeyLock_same (id : Nat) (x : Sys2Proof.Desc) {d : Dev} (hk : d.Same gm gf ge false gn gt r₀) :
    (bodyKeyLock id x d).Same gm gf ge false gn gt r₀ := by
  unfold bodyKeyLock
  repeat' first | (with_reducible first | assumption | apply Dev.fail_same | apply Dev.Same.both (gs := false) | refine ite_same ?_ ?_) | split | (unfold Dev.Same; dsimp only [partOf_false]) | dsimp only

theorem Dev.keysThaw_same {d : Dev} (hk : d.Same gm gf ge false gn gt r₀) :
    (Dev.keysThaw d).Same gm gf ge false gn gt r₀ := by
  unfold Dev.keysThaw
  repeat' first | (with_reducible first | assumption | intro _ | apply Dev.wakeScanner_same | apply Dev.setKey_same | apply Dev.Same.both (gs := false) | refine foldl_same (fun _ _ _ => ?_) ?_ _ | refine foldl_snd2_same (fun _ _ _ => ?_) ?_ _ | refine foldl_snd_same (fun _ _ _ => ?_) ?_ _ | refine foldl_fst_same (fun _ _ _ => ?_) ?_ _) | (unfold Dev.Same; dsimp only [partOf_false]) | dsimp only

theorem Dev.keysStart_same {d : Dev} (hk : d.Same gm gf ge false gn gt r₀) :
    (Dev.keysStart d).Same gm gf ge false gn gt r₀ := by
  unfold Dev.keysStart
  repeat' first | (with_reducible first | assumption | intro _ | apply Dev.showKeys_same | apply Dev.publishKeys_same | apply Dev.produce_same | apply Dev.raise_same | apply Dev.put_same | apply Dev.Same.both (gs := false) | refine ite_same ?_ ?_ | refine foldl_same (fun _ _ _ => ?_) ?_ _ | refine foldl_snd2_same (fun _ _ _ => ?_) ?_ _ | refine foldl_snd_same (fun _ _ _ => ?_) ?_ _ | refine foldl_fst_same (fun _ _ _ => ?_) ?_ _) | split | (unfold Dev.Same; dsimp only [partOf_false]) | dsimp only

theorem Dev.writeKeysIrq_same {d : Dev} (v : Nat) (hk : d.Same gm gf ge gs gn gt r₀) :
    (Dev.writeKeysIrq d v).Same gm gf ge gs gn gt r₀ := by
  unfold Dev.writeKeysIrq
  repeat' first | (with_reducible first | assumption | apply Dev.showKeyIrq_same | apply Dev.markHost_same | apply Dev.put_same | apply Dev.Same.both | refine ite_same ?_ ?_) | split | (unfold Dev.Same; dsimp only [partOf_false]) | dsimp only

theorem Dev.keysCfgWritten_same {d : Dev} (hk : d.Same gm gf ge false gn gt r₀) :
    (Dev.keysCfgWritten d).Same gm gf ge false gn gt r₀ := by
  unfold Dev.keysCfgWritten
  repeat' first | (with_reducible first | assumption | intro _ | apply Dev.showKeys_same | apply Dev.publishKeys_same | apply Dev.setKey_same | apply Dev.Same.both (gs := false) | refine ite_same ?_ ?_ | refine foldl_same (fun _ _ _ => ?_) ?_ _ | refine foldl_snd2_same (fun _ _ _ => ?_) ?_ _ | refine foldl_snd_same (fun _ _ _ => ?_) ?_ _ | refine foldl_fst_same (fun _ _ _ => ?_) ?_ _) | split | (unfold Dev.Same; dsimp only [partOf_false]) | dsimp only

/-! ### Nvm -/

theorem Dev.setGroup_same {d : Dev} (g : Nat) (x : NvmGroup) (hk : d.Same gm gf ge gs false gt r₀) :
    (Dev.setGroup d g x).Same gm gf ge gs false gt r₀ := by
  unfold Dev.setGroup
  repeat' first | (with_reducible first | assumption | apply Dev.Same.both (gn := false)) | (unfold Dev.Same; dsimp only [partOf_false]) | dsimp only

theorem Dev.nvmUpset_same {d : Dev} (us : List (Nat × Nat × Nat)) (hk : d.Same gm gf ge gs false gt r₀) :
    (Dev.nvmUpset d us).Same gm gf ge gs false gt r₀ := by
  unfold Dev.nvmUpset
  repeat' first | (with_reducible first | assumption | intro _ | apply Dev.setGroup_same | apply Dev.Same.both (gn := false) | refine ite_same ?_ ?_ | refine foldl_same (fun _ _ _ => ?_) ?_ _ | refine foldl_snd2_same (fun _ _ _ => ?_) ?_ _ | refine foldl_snd_same (fun _ _ _ => ?_) ?_ _ | refine foldl_fst_same (fun _ _ _ => ?_) ?_ _) | split | (unfold Dev.Same; dsimp only [partOf_false]) | dsimp only

theorem Dev.nvmUncorrectable_same {d : Dev} (g : Nat) (kind : Nat) (hk : d.Same gm gf ge gs gn gt r₀) :
    (Dev.nvmUncorrectable d g kind).Same gm gf ge gs gn gt r₀ := by
  unfold Dev.nvmUncorrectable
  repeat' first | (with_reducible first | assumption | apply Dev.raiseCounted_same | apply Dev.bump_same | apply Dev.Same.both) | (unfold Dev.Same; dsimp only [partOf_false]) | dsimp only

theorem Dev.nvmCorrected_same {d : Dev} (g : Nat) (current : Bool) (bs : List Nat) (hk : d.Same gm gf ge gs false gt r₀) :
    (Dev.nvmCorrected d g current bs).Same gm gf ge gs false gt r₀ := by
  unfold Dev.nvmCorrected
  repeat' first | (with_reducible first | assumption | apply Dev.setGroup_same | apply Dev.recovered_same | apply Dev.bump_same | apply Dev.Same.both (gn := false) | refine ite_same ?_ ?_) | split | (unfold Dev.Same; dsimp only [partOf_false]) | dsimp only

theorem Dev.nvmCopy_same {d : Dev} (g : Nat) (current : Bool) (hk : d.Same gm gf ge gs false gt r₀) :
    (Dev.nvmCopy d g current).2.Same gm gf ge gs false gt r₀ := by
  unfold Dev.nvmCopy
  repeat' first | (with_reducible first | assumption | apply Dev.nvmCorrected_same | apply Dev.Same.both (gn := false)) | split | (unfold Dev.Same; dsimp only [partOf_false]) | dsimp only

theorem Dev.nvmCopy_same_of {d : Dev} {g : Nat} {current : Bool} {r0 : Option (List Nat)} {e0 : Dev} (hk : d.Same gm gf ge gs false gt r₀) (eq : (Dev.nvmCopy d g current) = (r0, e0)) : e0.Same gm gf ge gs false gt r₀ := by
  have k := @Dev.nvmCopy_same; grind

theorem Dev.nvmGroup_same {d : Dev} (g : Nat) (hk : d.Same gm gf ge gs false gt r₀) :
    (Dev.nvmGroup d g).2.Same gm gf ge gs false gt r₀ := by
  unfold Dev.nvmGroup
  repeat' first | (with_reducible first | assumption | refine Dev.nvmCopy_same_of ?_ (by assumption) | apply Dev.nvmCopy_same | apply Dev.nvmUncorrectable_same | apply Dev.recovered_same | apply Dev.Same.both (gn := false) | refine ite_same ?_ ?_) | split | (unfold Dev.Same; dsimp only [partOf_false]) | dsimp only

theorem Dev.nvmGroup_same_of {d : Dev} {g : Nat} {r0 : Option (List Nat)} {e0 : Dev} (hk : d.Same gm gf ge gs false gt r₀) (eq : (Dev.nvmGroup d g) = (r0, e0)) : e0.Same gm gf ge gs false gt r₀ := by
  have k := @Dev.nvmGroup_same; grind

theorem Dev.nvmGroups_same {d : Dev} (g : Nat) (a2 : Nat) (hk : d.Same gm gf ge gs false gt r₀) :
    (Dev.nvmGroups d g a2).2.Same gm gf ge gs false gt r₀ := by
  induction a2 generalizing d g with
  | zero => unfold Dev.nvmGroups; repeat' first | (with_reducible first | assumption | refine Dev.nvmGroup_same_of ?_ (by assumption) | apply Dev.nvmGroup_same | apply Dev.Same.both (gn := false)) | split | (unfold Dev.Same; dsimp only [partOf_false]) | dsimp only
  | succ n ih => unfold Dev.nvmGroups; repeat' first | with_reducible apply ih | (with_reducible first | assumption | refine Dev.nvmGroup_same_of ?_ (by assumption) | apply Dev.nvmGroup_same | apply Dev.Same.both (gn := false)) | split | (unfold Dev.Same; dsimp only [partOf_false]) | dsimp only

theorem Dev.nvmGroups_same_of {d : Dev} {g : Nat} {a2 : Nat} {r0 : List (Option (List Nat))} {e0 : Dev} (hk : d.Same gm gf ge gs false gt r₀) (eq : (Dev.nvmGroups d g a2) = (r0, e0)) : e0.Same gm gf ge gs false gt r₀ := by
  have k := @Dev.nvmGroups_same; grind

theorem Dev.nvmRead_same {d : Dev} (a : Nat) (n : Nat) (hk : d.Same gm gf ge gs false gt r₀) :
    (Dev.nvmRead d a n).2.Same gm gf ge gs false gt r₀ := by
  unfold Dev.nvmRead
  repeat' first | (with_reducible first | assumption | intro _ | refine Dev.nvmGroups_same_of ?_ (by assumption) | apply Dev.nvmGroups_same | apply Dev.Same.both (gn := false) | refine ite_same ?_ ?_) | split | (unfold Dev.Same; dsimp only [partOf_false]) | dsimp only

theorem Dev.nvmRead_same_of {d : Dev} {a : Nat} {n : Nat} {r0 : (List Nat × Nat)} {e0 : Dev} (hk : d.Same gm gf ge gs false gt r₀) (eq : (Dev.nvmRead d a n) = (r0, e0)) : e0.Same gm gf ge gs false gt r₀ := by
  have k := @Dev.nvmRead_same; grind

theorem Dev.nvmPut_same {d : Dev} (a : Nat) (bs : List Nat) (hk : d.Same gm gf ge gs false gt r₀) :
    (Dev.nvmPut d a bs).Same gm gf ge gs false gt r₀ := by
  unfold Dev.nvmPut
  repeat' first | (with_reducible first | assumption | intro _ | apply Dev.setGroup_same | apply Dev.Same.both (gn := false) | refine ite_same ?_ ?_ | refine foldl_same (fun _ _ _ => ?_) ?_ _ | refine foldl_snd2_same (fun _ _ _ => ?_) ?_ _ | refine foldl_snd_same (fun _ _ _ => ?_) ?_ _ | refine foldl_fst_same (fun _ _ _ => ?_) ?_ _) | split | (unfold Dev.Same; dsimp only [partOf_false]) | dsimp only

theorem Dev.setEnergyWait_same {d : Dev} (on : Bool) (hk : d.Same gm gf ge gs gn gt r₀) :
    (Dev.setEnergyWait d on).Same gm gf ge gs gn gt r₀ := by
  unfold Dev.setEnergyWait
  repeat' first | (with_reducible first | assumption | apply Dev.raiseLimited_same | apply Dev.putBit_same | apply Dev.Same.both | refine ite_same ?_ ?_) | split | (unfold Dev.Same; dsimp only [partOf_false]) | dsimp only

theorem Dev.showBusy_same {d : Dev} (hk : d.Same gm gf ge gs gn gt r₀) :
    (Dev.showBusy d).Same gm gf ge gs gn gt r₀ := by
  unfold Dev.showBusy
  repeat' first | (with_reducible first | assumption | intro _ | apply Dev.putBit_same | apply Dev.Same.both | refine foldl_same (fun _ _ _ => ?_) ?_ _ | refine foldl_snd2_same (fun _ _ _ => ?_) ?_ _ | refine foldl_snd_same (fun _ _ _ => ?_) ?_ _ | refine foldl_fst_same (fun _ _ _ => ?_) ?_ _) | (unfold Dev.Same; dsimp only [partOf_false]) | dsimp only

theorem Dev.noteWaits_same {d : Dev} (blocked : Bool) (hk : d.Same gm gf ge gs false gt r₀) :
    (Dev.noteWaits d blocked).Same gm gf ge gs false gt r₀ := by
  unfold Dev.noteWaits
  repeat' first | (with_reducible first | assumption | intro _ | apply Dev.Same.both (gn := false) | refine ite_same ?_ ?_) | split | (unfold Dev.Same; dsimp only [partOf_false]) | dsimp only

theorem Dev.kickWrites_same {d : Dev} (hk : d.Same gm gf ge gs false gt r₀) :
    (Dev.kickWrites d).Same gm gf ge gs false gt r₀ := by
  unfold Dev.kickWrites
  repeat' first | (with_reducible first | assumption | intro _ | apply Dev.noteWaits_same | apply Dev.showBusy_same | apply Dev.setEnergyWait_same | apply Dev.Same.both (gn := false) | refine ite_same ?_ ?_) | split | (unfold Dev.Same; dsimp only [partOf_false]) | dsimp only

theorem Dev.askWrite_same {d : Dev} (o : WriteOrigin) (a : Nat) (bs : List Nat) (hk : d.Same gm gf ge gs false gt r₀) :
    (Dev.askWrite d o a bs).Same gm gf ge gs false gt r₀ := by
  unfold Dev.askWrite
  repeat' first | (with_reducible first | assumption | apply Dev.kickWrites_same | apply Dev.Same.both (gn := false)) | (unfold Dev.Same; dsimp only [partOf_false]) | dsimp only

theorem Dev.commitPage_same {d : Dev} (a : Nat) (bs : List Nat) (n : Nat) (mirror : Bool) (hk : d.Same gm gf ge gs false gt r₀) :
    (Dev.commitPage d a bs n mirror).Same gm gf ge gs false gt r₀ := by
  unfold Dev.commitPage
  repeat' first | (with_reducible first | assumption | intro _ | apply Dev.setGroup_same | apply Dev.Same.both (gn := false) | refine ite_same ?_ ?_ | refine foldl_same (fun _ _ _ => ?_) ?_ _ | refine foldl_snd2_same (fun _ _ _ => ?_) ?_ _ | refine foldl_snd_same (fun _ _ _ => ?_) ?_ _ | refine foldl_fst_same (fun _ _ _ => ?_) ?_ _) | split | (unfold Dev.Same; dsimp only [partOf_false]) | dsimp only

theorem Dev.dropWrite_same {d : Dev} (w : PageWrite) (hk : d.Same gm gf ge gs false gt r₀) :
    (Dev.dropWrite d w).Same gm gf ge gs false gt r₀ := by
  unfold Dev.dropWrite
  repeat' first | (with_reducible first | assumption | apply Dev.Same.both (gn := false)) | (unfold Dev.Same; dsimp only [partOf_false]) | dsimp only

theorem Dev.putSlot_same {d : Dev} (slot : Nat) (bs : List Nat) (hk : d.Same gm gf ge gs false gt r₀) :
    (Dev.putSlot d slot bs).Same gm gf ge gs false gt r₀ := by
  unfold Dev.putSlot
  repeat' first | (with_reducible first | assumption | apply Dev.nvmPut_same | apply Dev.Same.both (gn := false)) | (unfold Dev.Same; dsimp only [partOf_false]) | dsimp only

theorem Dev.askLog_same {d : Dev} (hk : d.Same gm gf ge gs false gt r₀) :
    (Dev.askLog d).Same gm gf ge gs false gt r₀ := by
  unfold Dev.askLog
  repeat' first | (with_reducible first | assumption | apply Dev.askWrite_same | apply Dev.Same.both (gn := false)) | split | (unfold Dev.Same; dsimp only [partOf_false]) | dsimp only

theorem Dev.kickLog_same {d : Dev} (hk : d.Same gm gf ge gs false gt r₀) :
    (Dev.kickLog d).Same gm gf ge gs false gt r₀ := by
  unfold Dev.kickLog
  repeat' first | (with_reducible first | assumption | intro _ | apply Dev.askLog_same | apply Dev.Same.both (gn := false) | refine ite_same ?_ ?_) | split | (unfold Dev.Same; dsimp only [partOf_false]) | dsimp only

theorem Dev.logWritten_same {d : Dev} (hk : d.Same gm gf ge false false gt r₀) :
    (Dev.logWritten d).Same gm gf ge false false gt r₀ := by
  unfold Dev.logWritten
  repeat' first | (with_reducible first | assumption | apply Dev.askLog_same | apply Dev.putRet_same | apply Dev.put_same | apply Dev.Same.both (gs := false) (gn := false) | refine ite_same ?_ ?_) | split | (unfold Dev.Same; dsimp only [partOf_false]) | dsimp only

theorem Dev.readRecord_same {d : Dev} (r : Nat) (hk : d.Same gm gf ge gs false gt r₀) :
    (Dev.readRecord d r).2.Same gm gf ge gs false gt r₀ := by
  unfold Dev.readRecord
  repeat' first | (with_reducible first | assumption | intro _ | refine Dev.nvmGroup_same_of ?_ (by assumption) | apply Dev.nvmGroup_same | apply Dev.Same.both (gn := false)) | split | (unfold Dev.Same; dsimp only [partOf_false]) | dsimp only

theorem Dev.readRecord_same_of {d : Dev} {r : Nat} {r0 : (Resolution × Nat × Nat)} {e0 : Dev} (hk : d.Same gm gf ge gs false gt r₀) (eq : (Dev.readRecord d r) = (r0, e0)) : e0.Same gm gf ge gs false gt r₀ := by
  have k := @Dev.readRecord_same; grind

theorem Dev.markAmbiguous_same {d : Dev} (r : Nat) (on : Bool) (sa : Nat) (sb : Nat) (hk : d.Same gm gf ge gs false gt r₀) :
    (Dev.markAmbiguous d r on sa sb).Same gm gf ge gs false gt r₀ := by
  unfold Dev.markAmbiguous
  repeat' first | (with_reducible first | assumption | apply Dev.raise_same | apply Dev.put_same | apply Dev.Same.both (gn := false) | refine ite_same ?_ ?_) | split | (unfold Dev.Same; dsimp only [partOf_false]) | dsimp only

theorem Dev.settleRecord_same {d : Dev} (r : Nat) (x : Resolution) (sa : Nat) (sb : Nat) (hk : d.Same gm gf ge gs false gt r₀) :
    (Dev.settleRecord d r x sa sb).Same gm gf ge gs false gt r₀ := by
  unfold Dev.settleRecord
  repeat' first | (with_reducible first | assumption | apply Dev.markAmbiguous_same | apply Dev.setGroup_same | apply Dev.recovered_same | apply Dev.raise_same | apply Dev.Same.both (gn := false) | refine ite_same ?_ ?_) | split | (unfold Dev.Same; dsimp only [partOf_false]) | dsimp only

theorem Dev.resolveRecord_same {d : Dev} (r : Nat) (hk : d.Same gm gf ge gs false gt r₀) :
    (Dev.resolveRecord d r).2.Same gm gf ge gs false gt r₀ := by
  unfold Dev.resolveRecord
  repeat' first | (with_reducible first | assumption | apply Dev.settleRecord_same | refine Dev.readRecord_same_of ?_ (by assumption) | apply Dev.readRecord_same | apply Dev.Same.both (gn := false)) | split | (unfold Dev.Same; dsimp only [partOf_false]) | dsimp only

theorem Dev.resolveRecord_same_of {d : Dev} {r : Nat} {r0 : Resolution} {e0 : Dev} (hk : d.Same gm gf ge gs false gt r₀) (eq : (Dev.resolveRecord d r) = (r0, e0)) : e0.Same gm gf ge gs false gt r₀ := by
  have k := @Dev.resolveRecord_same; grind

theorem Dev.keep_same {d : Dev} (r : Nat) (bs : List Nat) (hk : d.Same gm gf ge gs false gt r₀) :
    (Dev.keep d r bs).Same gm gf ge gs false gt r₀ := by
  unfold Dev.keep
  repeat' first | (with_reducible first | assumption | apply Dev.markRec_same | apply Dev.Same.both (gn := false)) | (unfold Dev.Same; dsimp only [partOf_false]) | dsimp only

theorem Dev.writeRecord_same {d : Dev} (r : Nat) (data : List Nat) (hk : d.Same gm gf ge gs false gt r₀) :
    (Dev.writeRecord d r data).2.Same gm gf ge gs false gt r₀ := by
  unfold Dev.writeRecord
  repeat' first | (with_reducible first | assumption | apply Dev.markAmbiguous_same | refine Dev.readRecord_same_of ?_ (by assumption) | apply Dev.readRecord_same | apply Dev.setGroup_same | apply Dev.Same.both (gn := false) | refine ite_same ?_ ?_) | split | (unfold Dev.Same; dsimp only [partOf_false]) | dsimp only

theorem Dev.writeRecord_same_of {d : Dev} {r : Nat} {data : List Nat} {r0 : Nat} {e0 : Dev} (hk : d.Same gm gf ge gs false gt r₀) (eq : (Dev.writeRecord d r data) = (r0, e0)) : e0.Same gm gf ge gs false gt r₀ := by
  have k := @Dev.writeRecord_same; grind

theorem Dev.recCommitted_same {d : Dev} (r : Nat) (seq : Nat) (hk : d.Same gm gf ge gs false gt r₀) :
    (Dev.recCommitted d r seq).Same gm gf ge gs false gt r₀ := by
  unfold Dev.recCommitted
  repeat' first | (with_reducible first | assumption | intro _ | apply Dev.done_same | apply Dev.Same.both (gn := false) | refine ite_same ?_ ?_ | refine foldl_same (fun _ _ _ => ?_) ?_ _ | refine foldl_snd2_same (fun _ _ _ => ?_) ?_ _ | refine foldl_snd_same (fun _ _ _ => ?_) ?_ _ | refine foldl_fst_same (fun _ _ _ => ?_) ?_ _) | split | (unfold Dev.Same; dsimp only [partOf_false]) | dsimp only

theorem Dev.putStore_same {d : Dev} (p : Nat) (bs : List Nat) (hk : d.Same gm gf ge gs false gt r₀) :
    (Dev.putStore d p bs).Same gm gf ge gs false gt r₀ := by
  unfold Dev.putStore
  repeat' first | (with_reducible first | assumption | intro _ | apply Dev.nvmPut_same | apply Dev.Same.both (gn := false) | refine foldl_same (fun _ _ _ => ?_) ?_ _ | refine foldl_snd2_same (fun _ _ _ => ?_) ?_ _ | refine foldl_snd_same (fun _ _ _ => ?_) ?_ _ | refine foldl_fst_same (fun _ _ _ => ?_) ?_ _) | (unfold Dev.Same; dsimp only [partOf_false]) | dsimp only

theorem Dev.readStore_same {d : Dev} (a : Nat) (len : Nat) (hk : d.Same gm gf ge gs false gt r₀) :
    (Dev.readStore d a len).2.Same gm gf ge gs false gt r₀ := by
  unfold Dev.readStore
  repeat' first | (with_reducible first | assumption | intro _ | apply Dev.nvmRead_same | apply Dev.Same.both (gn := false) | refine foldl_same (fun _ _ _ => ?_) ?_ _ | refine foldl_snd2_same (fun _ _ _ => ?_) ?_ _ | refine foldl_snd_same (fun _ _ _ => ?_) ?_ _ | refine foldl_fst_same (fun _ _ _ => ?_) ?_ _) | (unfold Dev.Same; dsimp only [partOf_false]) | dsimp only

theorem Dev.readStore_same_of {d : Dev} {a : Nat} {len : Nat} {r0 : (List Nat × Nat)} {e0 : Dev} (hk : d.Same gm gf ge gs false gt r₀) (eq : (Dev.readStore d a len) = (r0, e0)) : e0.Same gm gf ge gs false gt r₀ := by
  have k := @Dev.readStore_same; grind

theorem Dev.storeAt_same {d : Dev} (ptr : Nat) (bs : List Nat) (hk : d.Same gm gf ge gs false gt r₀) :
    (Dev.storeAt d ptr bs).2.Same gm gf ge gs false gt r₀ := by
  unfold Dev.storeAt
  repeat' first | (with_reducible first | assumption | apply Dev.putStore_same | refine Dev.writeRecord_same_of ?_ (by assumption) | apply Dev.writeRecord_same | apply Dev.Same.both (gn := false) | refine ite_same ?_ ?_) | split | (unfold Dev.Same; dsimp only [partOf_false]) | dsimp only

theorem Dev.storeAt_same_of {d : Dev} {ptr : Nat} {bs : List Nat} {r0 : Nat} {e0 : Dev} (hk : d.Same gm gf ge gs false gt r₀) (eq : (Dev.storeAt d ptr bs) = (r0, e0)) : e0.Same gm gf ge gs false gt r₀ := by
  have k := @Dev.storeAt_same; grind

theorem Dev.saveSettle_same {d : Dev} (hk : d.Same false gf ge gs gn gt r₀) :
    (Dev.saveSettle d).Same false gf ge gs gn gt r₀ := by
  unfold Dev.saveSettle
  repeat' first | (with_reducible first | assumption | intro _ | apply Dev.settleWord_same | apply Canon.setErr | apply Dev.Same.both (gm := false) | refine foldl_same (fun _ _ _ => ?_) ?_ _ | refine foldl_snd2_same (fun _ _ _ => ?_) ?_ _ | refine foldl_snd_same (fun _ _ _ => ?_) ?_ _ | refine foldl_fst_same (fun _ _ _ => ?_) ?_ _) | (unfold Dev.Same; dsimp only [partOf_false]) | dsimp only

theorem Dev.setArea_same {d : Dev} (k : Nat) (x : SaveArea) (hk : d.Same gm gf ge gs false gt r₀) :
    (Dev.setArea d k x).Same gm gf ge gs false gt r₀ := by
  unfold Dev.setArea
  repeat' first | (with_reducible first | assumption | apply Dev.Same.both (gn := false) | refine ite_same ?_ ?_) | split | (unfold Dev.Same; dsimp only [partOf_false]) | dsimp only

theorem Dev.writeArea_same {d : Dev} (k : Nat) (h : SaveHeader) (cells : List Host.Cell) (hk : d.Same gm gf ge gs false gt r₀) :
    (Dev.writeArea d k h cells).Same gm gf ge gs false gt r₀ := by
  unfold Dev.writeArea
  repeat' first | (with_reducible first | assumption | intro _ | apply Dev.setArea_same | apply Dev.Same.both (gn := false)) | (unfold Dev.Same; dsimp only [partOf_false]) | dsimp only

theorem Dev.saveStart_same {d0 : Dev} (kind : Nat) (hkd0 : d0.Same false gf ge gs false gt r₀) :
    (Dev.saveStart d0 kind).Same false gf ge gs false gt r₀ := by
  unfold Dev.saveStart
  repeat' first | (with_reducible first | assumption | apply Dev.setArea_same | apply Dev.saveSettle_same | apply Dev.showBusy_same | apply Dev.Same.both (gm := false) (gn := false) | refine ite_same ?_ ?_) | split | (unfold Dev.Same; dsimp only [partOf_false]) | dsimp only

theorem Dev.saveCommit_same {d : Dev} (hk : d.Same gm gf ge gs false gt r₀) :
    (Dev.saveCommit d).Same gm gf ge gs false gt r₀ := by
  unfold Dev.saveCommit
  repeat' first | (with_reducible first | assumption | apply Dev.writeArea_same | apply Dev.showBusy_same | apply Dev.put_same | apply Dev.Same.both (gn := false)) | split | (unfold Dev.Same; dsimp only [partOf_false]) | dsimp only

theorem Dev.checkpointTick_same {d : Dev} (hk : d.Same gm gf ge gs false gt r₀) :
    (Dev.checkpointTick d).Same gm gf ge gs false gt r₀ := by
  unfold Dev.checkpointTick
  repeat' first | (with_reducible first | assumption | apply Dev.saveCommit_same | apply Dev.Same.both (gn := false) | refine ite_same ?_ ?_) | split | (unfold Dev.Same; dsimp only [partOf_false]) | dsimp only

theorem Dev.dropCheckpoint_same {d : Dev} (hk : d.Same gm gf ge gs false gt r₀) :
    (Dev.dropCheckpoint d).Same gm gf ge gs false gt r₀ := by
  unfold Dev.dropCheckpoint
  repeat' first | (with_reducible first | assumption | apply Dev.showBusy_same | apply Dev.Same.both (gn := false)) | (unfold Dev.Same; dsimp only [partOf_false]) | dsimp only

theorem Dev.clearSaveSet_same {d : Dev} (hk : d.Same false gf ge gs gn gt r₀) :
    (Dev.clearSaveSet d).Same false gf ge gs gn gt r₀ := by
  unfold Dev.clearSaveSet
  repeat' first | (with_reducible first | assumption | intro _ | apply Canon.setErr | apply Dev.Same.both (gm := false)) | (unfold Dev.Same; dsimp only [partOf_false]) | dsimp only

theorem Dev.restoreSave_same {d : Dev} (hk : d.Same false gf ge gs false gt r₀) :
    (Dev.restoreSave d).2.Same false gf ge gs false gt r₀ := by
  unfold Dev.restoreSave
  repeat' first | (with_reducible first | assumption | intro _ | apply Dev.clearSaveSet_same | refine Dev.nvmGroup_same_of ?_ (by assumption) | apply Dev.nvmGroup_same | apply Dev.raise_same | apply Dev.put_same | apply Dev.Same.both (gm := false) (gn := false) | refine foldl_same (fun _ _ _ => ?_) ?_ _ | refine foldl_snd2_same (fun _ _ _ => ?_) ?_ _ | refine foldl_snd_same (fun _ _ _ => ?_) ?_ _ | refine foldl_fst_same (fun _ _ _ => ?_) ?_ _) | split | (unfold Dev.Same; dsimp only [partOf_false]) | dsimp only

theorem Dev.restoreSave_same_of {d : Dev} {r0 : Bool} {e0 : Dev} (hk : d.Same false gf ge gs false gt r₀) (eq : (Dev.restoreSave d) = (r0, e0)) : e0.Same false gf ge gs false gt r₀ := by
  have k := @Dev.restoreSave_same; grind

theorem Dev.applyRecord_same {d : Dev} (r : Nat) (data : List Nat) (hk : d.Same gm gf false gs false gt r₀) :
    (Dev.applyRecord d r data).Same gm gf false gs false gt r₀ := by
  unfold Dev.applyRecord
  repeat' first | (with_reducible first | assumption | intro _ | apply Dev.put_same | apply Dev.Same.both (ge := false) (gn := false) | refine ite_same ?_ ?_ | refine foldl_same (fun _ _ _ => ?_) ?_ _ | refine foldl_snd2_same (fun _ _ _ => ?_) ?_ _ | refine foldl_snd_same (fun _ _ _ => ?_) ?_ _ | refine foldl_fst_same (fun _ _ _ => ?_) ?_ _) | split | (unfold Dev.Same; dsimp only [partOf_false]) | dsimp only

theorem Dev.restoreRecords_same {d : Dev} (hk : d.Same gm gf false gs false gt r₀) :
    (Dev.restoreRecords d).2.Same gm gf false gs false gt r₀ := by
  unfold Dev.restoreRecords
  repeat' first | (with_reducible first | assumption | intro _ | apply Dev.applyRecord_same | refine Dev.resolveRecord_same_of ?_ (by assumption) | apply Dev.resolveRecord_same | apply Dev.bump_same | apply Dev.Same.both (ge := false) (gn := false) | refine ite_same ?_ ?_ | refine foldl_same (fun _ _ _ => ?_) ?_ _ | refine foldl_snd2_same (fun _ _ _ => ?_) ?_ _ | refine foldl_snd_same (fun _ _ _ => ?_) ?_ _ | refine foldl_fst_same (fun _ _ _ => ?_) ?_ _) | split | (unfold Dev.Same; dsimp only [partOf_false]) | dsimp only

theorem Dev.restoreRecords_same_of {d : Dev} {r0 : List Nat} {e0 : Dev} (hk : d.Same gm gf false gs false gt r₀) (eq : (Dev.restoreRecords d) = (r0, e0)) : e0.Same gm gf false gs false gt r₀ := by
  have k := @Dev.restoreRecords_same; grind

theorem Dev.logLost_same {d : Dev} (rs : List Nat) (hk : d.Same false gf ge gs gn gt r₀) :
    (Dev.logLost d rs).Same false gf ge gs gn gt r₀ := by
  unfold Dev.logLost
  repeat' first | (with_reducible first | assumption | intro _ | apply Dev.logFault_same | apply Dev.Same.both (gm := false) | refine foldl_same (fun _ _ _ => ?_) ?_ _ | refine foldl_snd2_same (fun _ _ _ => ?_) ?_ _ | refine foldl_snd_same (fun _ _ _ => ?_) ?_ _ | refine foldl_fst_same (fun _ _ _ => ?_) ?_ _) | (unfold Dev.Same; dsimp only [partOf_false]) | dsimp only

theorem Dev.readPointed_same {d : Dev} (ptr : Nat) (hk : d.Same gm gf ge gs false gt r₀) :
    (Dev.readPointed d ptr).2.Same gm gf ge gs false gt r₀ := by
  unfold Dev.readPointed
  repeat' first | (with_reducible first | assumption | apply Dev.readStore_same | apply Dev.readRecord_same | apply Dev.Same.both (gn := false) | refine ite_same ?_ ?_) | split | (unfold Dev.Same; dsimp only [partOf_false]) | dsimp only

theorem Dev.readPointed_same_of {d : Dev} {ptr : Nat} {r0 : Option (List Nat)} {e0 : Dev} (hk : d.Same gm gf ge gs false gt r₀) (eq : (Dev.readPointed d ptr) = (r0, e0)) : e0.Same gm gf ge gs false gt r₀ := by
  have k := @Dev.readPointed_same; grind

theorem Dev.restoreBlocks_same {d : Dev} (hk : d.Same gm gf ge gs false gt r₀) :
    (Dev.restoreBlocks d).Same gm gf ge gs false gt r₀ := by
  unfold Dev.restoreBlocks
  repeat' first | (with_reducible first | assumption | intro _ | refine Dev.readPointed_same_of ?_ (by assumption) | apply Dev.readPointed_same | apply Dev.raise_same | apply Dev.Same.both (gn := false) | refine ite_same ?_ ?_ | refine foldl_same (fun _ _ _ => ?_) ?_ _ | refine foldl_snd2_same (fun _ _ _ => ?_) ?_ _ | refine foldl_snd_same (fun _ _ _ => ?_) ?_ _ | refine foldl_fst_same (fun _ _ _ => ?_) ?_ _) | split | (unfold Dev.Same; dsimp only [partOf_false]) | dsimp only

theorem Dev.takeSlot_same {d : Dev} (bs : List Nat) (bad : Nat) (hk : d.Same gm gf false gs gn gt r₀) :
    (Dev.takeSlot d bs bad).Same gm gf false gs gn gt r₀ := by
  unfold Dev.takeSlot
  repeat' first | (with_reducible first | assumption | apply Dev.put_same | apply Dev.Same.both (ge := false) | refine ite_same ?_ ?_) | split | (unfold Dev.Same; dsimp only [partOf_false]) | dsimp only

theorem Dev.restoreSlot_same {d : Dev} (hk : d.Same gm gf false gs false gt r₀) :
    (Dev.restoreSlot d).Same gm gf false gs false gt r₀ := by
  unfold Dev.restoreSlot
  repeat' first | (with_reducible first | assumption | apply Dev.takeSlot_same | apply Dev.nvmRead_same | apply Dev.Same.both (ge := false) (gn := false)) | (unfold Dev.Same; dsimp only [partOf_false]) | dsimp only

theorem Dev.restoreLockouts_same {d : Dev} (hk : d.Same gm gf ge gs false gt r₀) :
    (Dev.restoreLockouts d).Same gm gf ge gs false gt r₀ := by
  unfold Dev.restoreLockouts
  repeat' first | (with_reducible first | assumption | intro _ | apply Dev.Same.both (gn := false) | refine ite_same ?_ ?_ | refine foldl_same (fun _ _ _ => ?_) ?_ _ | refine foldl_snd2_same (fun _ _ _ => ?_) ?_ _ | refine foldl_snd_same (fun _ _ _ => ?_) ?_ _ | refine foldl_fst_same (fun _ _ _ => ?_) ?_ _) | split | (unfold Dev.Same; dsimp only [partOf_false]) | dsimp only

theorem Dev.tearWrites_same {d : Dev} (hk : d.Same gm gf ge gs false gt r₀) :
    (Dev.tearWrites d).Same gm gf ge gs false gt r₀ := by
  unfold Dev.tearWrites
  repeat' first | (with_reducible first | assumption | intro _ | apply Dev.commitPage_same | apply Dev.nextFree_same | apply Dev.Same.both (gn := false) | refine foldl_same (fun _ _ _ => ?_) ?_ _ | refine foldl_snd2_same (fun _ _ _ => ?_) ?_ _ | refine foldl_snd_same (fun _ _ _ => ?_) ?_ _ | refine foldl_fst_same (fun _ _ _ => ?_) ?_ _) | split | (unfold Dev.Same; dsimp only [partOf_false]) | dsimp only

/-! ### NvmOps -/

theorem Dev.setOpen_same {d : Dev} (r : Nat) (k : Nat) (on : Bool) (hk : d.Same gm gf ge gs gn gt r₀) :
    (Dev.setOpen d r k on).Same gm gf ge gs gn gt r₀ := by
  unfold Dev.setOpen
  repeat' first | (with_reducible first | assumption | apply Dev.put_same | apply Dev.Same.both | refine ite_same ?_ ?_) | split | (unfold Dev.Same; dsimp only [partOf_false]) | dsimp only

theorem bodyNvmUnlock_same (id : Nat) (x : Sys2Proof.Desc) {d : Dev} (hk : d.Same gm gf ge gs false gt r₀) :
    (bodyNvmUnlock id x d).Same gm gf ge gs false gt r₀ := by
  unfold bodyNvmUnlock
  repeat' first | (with_reducible first | assumption | apply Dev.setOpen_same | apply Dev.done_same | apply Dev.fail_same | apply Dev.finish_same | apply Dev.raise_same | apply Dev.putRet_same | apply Dev.Same.both (gn := false) | refine ite_same ?_ ?_) | split | (unfold Dev.Same; dsimp only [partOf_false]) | dsimp only

theorem bodyNvmLock_same (id : Nat) (x : Sys2Proof.Desc) {d : Dev} (hk : d.Same gm gf ge gs gn gt r₀) :
    (bodyNvmLock id x d).Same gm gf ge gs gn gt r₀ := by
  unfold bodyNvmLock
  repeat' first | (with_reducible first | assumption | intro _ | apply Dev.setOpen_same | apply Dev.done_same | apply Dev.fail_same | apply Dev.Same.both | refine ite_same ?_ ?_ | refine foldl_same (fun _ _ _ => ?_) ?_ _ | refine foldl_snd2_same (fun _ _ _ => ?_) ?_ _ | refine foldl_snd_same (fun _ _ _ => ?_) ?_ _ | refine foldl_fst_same (fun _ _ _ => ?_) ?_ _) | split | (unfold Dev.Same; dsimp only [partOf_false]) | dsimp only

theorem bodyNvmSetpw_same (id : Nat) (x : Sys2Proof.Desc) {d : Dev} (hk : d.Same gm gf ge gs false gt r₀) :
    (bodyNvmSetpw id x d).Same gm gf ge gs false gt r₀ := by
  unfold bodyNvmSetpw
  repeat' first | (with_reducible first | assumption | apply Dev.keep_same | apply Dev.done_same | apply Dev.fail_same | apply Dev.Same.both (gn := false) | refine ite_same ?_ ?_) | split | (unfold Dev.Same; dsimp only [partOf_false]) | dsimp only

theorem bodyNvmRead_same (ups : List (Nat × Nat × Nat)) (id : Nat) (x : Sys2Proof.Desc) {d : Dev} (hk : d.Same false gf ge gs false gt r₀) :
    (bodyNvmRead ups id x d).Same false gf ge gs false gt r₀ := by
  unfold bodyNvmRead
  repeat' first | (with_reducible first | assumption | refine Dev.nvmRead_same_of ?_ (by assumption) | apply Dev.nvmRead_same | apply Dev.nvmUpset_same | apply Dev.memWrite_same | apply Dev.fail_same | apply Dev.finish_same | apply Dev.Same.both (gm := false) (gn := false) | refine ite_same ?_ ?_) | split | (unfold Dev.Same; dsimp only [partOf_false]) | dsimp only

theorem bodyNvmWrite_same (id : Nat) (x : Sys2Proof.Desc) {d : Dev} (hk : d.Same false gf ge gs false gt r₀) :
    (bodyNvmWrite id x d).Same false gf ge gs false gt r₀ := by
  unfold bodyNvmWrite
  repeat' first | (with_reducible first | assumption | apply Dev.askWrite_same | refine Dev.readImage_same_of ?_ (by assumption) | apply Dev.readImage_same | apply Dev.fail_same | apply Dev.Same.both (gm := false) (gn := false) | refine ite_same ?_ ?_) | split | (unfold Dev.Same; dsimp only [partOf_false]) | dsimp only

theorem bodyNvmSync_same (id : Nat) (a1 : Sys2Proof.Desc) {d : Dev} (hk : d.Same gm gf ge gs false gt r₀) :
    (bodyNvmSync id a1 d).Same gm gf ge gs false gt r₀ := by
  unfold bodyNvmSync
  repeat' first | (with_reducible first | assumption | apply Dev.done_same | apply Dev.Same.both (gn := false) | refine ite_same ?_ ?_) | split | (unfold Dev.Same; dsimp only [partOf_false]) | dsimp only

theorem Dev.awaitRecord_same {d : Dev} (id : Nat) (r : Nat) (hk : d.Same gm gf ge gs false gt r₀) :
    (Dev.awaitRecord d id r).Same gm gf ge gs false gt r₀ := by
  unfold Dev.awaitRecord
  repeat' first | (with_reducible first | assumption | refine Dev.readRecord_same_of ?_ (by assumption) | apply Dev.readRecord_same | apply Dev.done_same | apply Dev.markRec_same | apply Dev.Same.both (gn := false) | refine ite_same ?_ ?_) | split | (unfold Dev.Same; dsimp only [partOf_false]) | dsimp only

theorem bodyRecConfirm_same (id : Nat) (x : Sys2Proof.Desc) {d : Dev} (hk : d.Same gm gf ge gs false gt r₀) :
    (bodyRecConfirm id x d).Same gm gf ge gs false gt r₀ := by
  unfold bodyRecConfirm
  repeat' first | (with_reducible first | assumption | apply Dev.awaitRecord_same | refine Dev.readRecord_same_of ?_ (by assumption) | apply Dev.readRecord_same | apply Dev.done_same | apply Dev.fail_same | apply Dev.Same.both (gn := false) | refine ite_same ?_ ?_) | split | (unfold Dev.Same; dsimp only [partOf_false]) | dsimp only

theorem bodyRecWrite_same (id : Nat) (x : Sys2Proof.Desc) {d : Dev} (hk : d.Same gm gf ge gs false gt r₀) :
    (bodyRecWrite id x d).Same gm gf ge gs false gt r₀ := by
  unfold bodyRecWrite
  repeat' first | (with_reducible first | assumption | intro _ | apply Dev.awaitRecord_same | apply Dev.fail_same | apply Dev.Same.both (gn := false) | refine ite_same ?_ ?_) | split | (unfold Dev.Same; dsimp only [partOf_false]) | dsimp only

theorem bodyRecRead_same (ups : List (Nat × Nat × Nat)) (id : Nat) (x : Sys2Proof.Desc) {d : Dev} (hk : d.Same false gf ge gs false gt r₀) :
    (bodyRecRead ups id x d).Same false gf ge gs false gt r₀ := by
  unfold bodyRecRead
  repeat' first | (with_reducible first | assumption | apply Dev.logLost_same | refine Dev.resolveRecord_same_of ?_ (by assumption) | apply Dev.resolveRecord_same | apply Dev.nvmUpset_same | apply Dev.memWrite_same | apply Dev.done_same | apply Dev.fail_same | apply Dev.Same.both (gm := false) (gn := false) | refine ite_same ?_ ?_) | split | (unfold Dev.Same; dsimp only [partOf_false]) | dsimp only

theorem Dev.exportRecords_same {d : Dev} (hk : d.Same gm gf ge gs false gt r₀) :
    (Dev.exportRecords d).2.Same gm gf ge gs false gt r₀ := by
  unfold Dev.exportRecords
  repeat' first | (with_reducible first | assumption | intro _ | refine Dev.readRecord_same_of ?_ (by assumption) | apply Dev.readRecord_same | apply Dev.Same.both (gn := false) | refine ite_same ?_ ?_ | refine foldl_same (fun _ _ _ => ?_) ?_ _ | refine foldl_snd2_same (fun _ _ _ => ?_) ?_ _ | refine foldl_snd_same (fun _ _ _ => ?_) ?_ _ | refine foldl_fst_same (fun _ _ _ => ?_) ?_ _) | split | (unfold Dev.Same; dsimp only [partOf_false]) | dsimp only

theorem Dev.exportRecords_same_of {d : Dev} {r0 : List (List Nat)} {e0 : Dev} (hk : d.Same gm gf ge gs false gt r₀) (eq : (Dev.exportRecords d) = (r0, e0)) : e0.Same gm gf ge gs false gt r₀ := by
  have k := @Dev.exportRecords_same; grind

theorem Dev.exportBlocks_same {d : Dev} (hk : d.Same gm gf ge gs false gt r₀) :
    (Dev.exportBlocks d).2.Same gm gf ge gs false gt r₀ := by
  unfold Dev.exportBlocks
  repeat' first | (with_reducible first | assumption | intro _ | refine Dev.readPointed_same_of ?_ (by assumption) | apply Dev.readPointed_same | apply Dev.Same.both (gn := false) | refine foldl_same (fun _ _ _ => ?_) ?_ _ | refine foldl_snd2_same (fun _ _ _ => ?_) ?_ _ | refine foldl_snd_same (fun _ _ _ => ?_) ?_ _ | refine foldl_fst_same (fun _ _ _ => ?_) ?_ _) | split | (unfold Dev.Same; dsimp only [partOf_false]) | dsimp only

theorem Dev.exportBlocks_same_of {d : Dev} {r0 : List (List Nat)} {e0 : Dev} (hk : d.Same gm gf ge gs false gt r₀) (eq : (Dev.exportBlocks d) = (r0, e0)) : e0.Same gm gf ge gs false gt r₀ := by
  have k := @Dev.exportBlocks_same; grind

theorem Dev.exportSave_same {d0 : Dev} (hkd0 : d0.Same false gf ge gs gn gt r₀) :
    (Dev.exportSave d0).2.Same false gf ge gs gn gt r₀ := by
  unfold Dev.exportSave
  repeat' first | (with_reducible first | assumption | apply Dev.saveSettle_same | apply Dev.Same.both (gm := false)) | (unfold Dev.Same; dsimp only [partOf_false]) | dsimp only

theorem Dev.exportSave_same_of {d0 : Dev} {r0 : List Nat} {e0 : Dev} (hkd0 : d0.Same false gf ge gs gn gt r₀) (eq : (Dev.exportSave d0) = (r0, e0)) : e0.Same false gf ge gs gn gt r₀ := by
  have k := @Dev.exportSave_same; grind

theorem Dev.nvmTwo_same {d : Dev} (a : Nat) (b : Nat) (n : Nat) (hk : d.Same gm gf ge gs false gt r₀) :
    (Dev.nvmTwo d a b n).2.Same gm gf ge gs false gt r₀ := by
  unfold Dev.nvmTwo
  repeat' first | (with_reducible first | assumption | apply Dev.nvmRead_same | apply Dev.Same.both (gn := false)) | (unfold Dev.Same; dsimp only [partOf_false]) | dsimp only

theorem Dev.nvmTwo_same_of {d : Dev} {a : Nat} {b : Nat} {n : Nat} {r0 : List Nat} {e0 : Dev} (hk : d.Same gm gf ge gs false gt r₀) (eq : (Dev.nvmTwo d a b n) = (r0, e0)) : e0.Same gm gf ge gs false gt r₀ := by
  have k := @Dev.nvmTwo_same; grind

theorem Dev.exportRegion_same {d : Dev} (r : Nat) (hk : d.Same gm gf ge gs false gt r₀) :
    (Dev.exportRegion d r).2.Same gm gf ge gs false gt r₀ := by
  unfold Dev.exportRegion
  repeat' first | (with_reducible first | assumption | apply Dev.nvmTwo_same | apply Dev.Same.both (gn := false)) | (unfold Dev.Same; dsimp only [partOf_false]) | dsimp only

theorem Dev.exportRegion_same_of {d : Dev} {r : Nat} {r0 : List Nat} {e0 : Dev} (hk : d.Same gm gf ge gs false gt r₀) (eq : (Dev.exportRegion d r) = (r0, e0)) : e0.Same gm gf ge gs false gt r₀ := by
  have k := @Dev.exportRegion_same; grind

theorem Dev.exportHost_same {d : Dev} (host : Bool) (r : Nat) (hk : d.Same gm gf ge gs false gt r₀) :
    (Dev.exportHost d host r).2.Same gm gf ge gs false gt r₀ := by
  unfold Dev.exportHost
  repeat' first | (with_reducible first | assumption | apply Dev.exportRegion_same | apply Dev.Same.both (gn := false) | refine ite_same ?_ ?_) | split | (unfold Dev.Same; dsimp only [partOf_false]) | dsimp only

theorem Dev.exportHost_same_of {d : Dev} {host : Bool} {r : Nat} {r0 : List Nat} {e0 : Dev} (hk : d.Same gm gf ge gs false gt r₀) (eq : (Dev.exportHost d host r) = (r0, e0)) : e0.Same gm gf ge gs false gt r₀ := by
  have k := @Dev.exportHost_same; grind

theorem Dev.exportPayload_same {d : Dev} (host : Bool) (hk : d.Same false gf ge gs false gt r₀) :
    (Dev.exportPayload d host).2.Same false gf ge gs false gt r₀ := by
  unfold Dev.exportPayload
  repeat' first | (with_reducible first | assumption | apply Dev.exportHost_same | apply Dev.exportSave_same | apply Dev.exportBlocks_same | apply Dev.exportRecords_same | apply Dev.Same.both (gm := false) (gn := false) | refine ite_same ?_ ?_) | split | (unfold Dev.Same; dsimp only [partOf_false]) | dsimp only

theorem Dev.exportPayload_same_of {d : Dev} {host : Bool} {r0 : List Nat} {e0 : Dev} (hk : d.Same false gf ge gs false gt r₀) (eq : (Dev.exportPayload d host) = (r0, e0)) : e0.Same false gf ge gs false gt r₀ := by
  have k := @Dev.exportPayload_same; grind

theorem bodyNvmExport_same (id : Nat) (x : Sys2Proof.Desc) {d : Dev} (hk : d.Same gm gf ge gs false gt r₀) :
    (bodyNvmExport id x d).Same gm gf ge gs false gt r₀ := by
  unfold bodyNvmExport
  repeat' first | (with_reducible first | assumption | apply Dev.fail_same | apply Dev.put_same | apply Dev.Same.both (gn := false) | refine ite_same ?_ ?_) | split | (unfold Dev.Same; dsimp only [partOf_false]) | dsimp only

theorem Dev.endExport_same {d : Dev} (st : Status) (result : Nat) (hk : d.Same gm gf ge gs false gt r₀) :
    (Dev.endExport d st result).Same gm gf ge gs false gt r₀ := by
  unfold Dev.endExport
  repeat' first | (with_reducible first | assumption | apply Dev.finish_same | apply Dev.put_same | apply Dev.Same.both (gn := false)) | split | (unfold Dev.Same; dsimp only [partOf_false]) | dsimp only

theorem Dev.exportTick_same {d : Dev} (hk : d.Same false gf ge gs false gt r₀) :
    (Dev.exportTick d).Same false gf ge gs false gt r₀ := by
  unfold Dev.exportTick
  repeat' first | (with_reducible first | assumption | apply Dev.endExport_same | refine Dev.exportPayload_same_of ?_ (by assumption) | apply Dev.exportPayload_same | apply Dev.bufWrite_same | apply Dev.Same.both (gm := false) (gn := false) | refine ite_same ?_ ?_) | split | (unfold Dev.Same; dsimp only [partOf_false]) | dsimp only

theorem bodyNvmImport_same (data : List Nat) (id : Nat) (x : Sys2Proof.Desc) {d : Dev} (hk : d.Same gm gf ge gs false gt r₀) :
    (bodyNvmImport data id x d).Same gm gf ge gs false gt r₀ := by
  unfold bodyNvmImport
  repeat' first | (with_reducible first | assumption | apply Dev.fail_same | apply Dev.put_same | apply Dev.Same.both (gn := false) | refine ite_same ?_ ?_) | split | (unfold Dev.Same; dsimp only [partOf_false]) | dsimp only

theorem Dev.endImport_same {d : Dev} (st : Status) (result : Nat) (hk : d.Same gm gf ge gs false gt r₀) :
    (Dev.endImport d st result).Same gm gf ge gs false gt r₀ := by
  unfold Dev.endImport
  repeat' first | (with_reducible first | assumption | apply Dev.finish_same | apply Dev.put_same | apply Dev.Same.both (gn := false)) | split | (unfold Dev.Same; dsimp only [partOf_false]) | dsimp only

theorem Dev.importChecked_same {d : Dev} (id : Nat) (x : Sys2Proof.Desc) (hk : d.Same gm gf ge gs false gt r₀) :
    (Dev.importChecked d id x).Same gm gf ge gs false gt r₀ := by
  unfold Dev.importChecked
  repeat' first | (with_reducible first | assumption | apply Dev.endImport_same | apply Dev.imageRefused_same | apply Dev.Same.both (gn := false) | refine ite_same ?_ ?_) | split | (unfold Dev.Same; dsimp only [partOf_false]) | dsimp only

theorem Dev.importRecord_same {d : Dev} (r : Nat) (data : Option (List Nat)) (hk : d.Same gm gf ge gs false gt r₀) :
    (Dev.importRecord d r data).Same gm gf ge gs false gt r₀ := by
  unfold Dev.importRecord
  repeat' first | (with_reducible first | assumption | intro _ | refine Dev.readRecord_same_of ?_ (by assumption) | apply Dev.readRecord_same | apply Dev.setGroup_same | apply Dev.Same.both (gn := false) | refine ite_same ?_ ?_) | split | (unfold Dev.Same; dsimp only [partOf_false]) | dsimp only

theorem Dev.importSave_same {d : Dev} (save : List Nat) (hk : d.Same gm gf ge gs false gt r₀) :
    (Dev.importSave d save).Same gm gf ge gs false gt r₀ := by
  unfold Dev.importSave
  repeat' first | (with_reducible first | assumption | intro _ | apply Dev.writeArea_same | apply Dev.put_same | apply Dev.Same.both (gn := false) | refine ite_same ?_ ?_) | split | (unfold Dev.Same; dsimp only [partOf_false]) | dsimp only

theorem Dev.importBlock_same {d : Dev} (e : Nat × List Nat) (hk : d.Same gm gf ge gs false gt r₀) :
    (Dev.importBlock d e).Same gm gf ge gs false gt r₀ := by
  unfold Dev.importBlock
  repeat' first | (with_reducible first | assumption | apply Dev.importRecord_same | apply Dev.putStore_same | apply Dev.Same.both (gn := false) | refine ite_same ?_ ?_) | split | (unfold Dev.Same; dsimp only [partOf_false]) | dsimp only

theorem Dev.runImport_same {d : Dev} (p : List Nat) (hk : d.Same gm gf ge gs false gt r₀) :
    (Dev.runImport d p).Same gm gf ge gs false gt r₀ := by
  unfold Dev.runImport
  repeat' first | (with_reducible first | assumption | intro _ | apply Dev.importBlock_same | apply Dev.importSave_same | apply Dev.importRecord_same | apply Dev.putSlot_same | apply Dev.nvmPut_same | apply Dev.put_same | apply Dev.Same.both (gn := false) | refine foldl_same (fun _ _ _ => ?_) ?_ _ | refine foldl_snd2_same (fun _ _ _ => ?_) ?_ _ | refine foldl_snd_same (fun _ _ _ => ?_) ?_ _ | refine foldl_fst_same (fun _ _ _ => ?_) ?_ _) | split | (unfold Dev.Same; dsimp only [partOf_false]) | dsimp only

theorem Dev.importTick_same {d : Dev} (hk : d.Same gm gf ge gs false gt r₀) :
    (Dev.importTick d).Same gm gf ge gs false gt r₀ := by
  unfold Dev.importTick
  repeat' first | (with_reducible first | assumption | apply Dev.runImport_same | apply Dev.endImport_same | apply Dev.Same.both (gn := false) | refine ite_same ?_ ?_) | split | (unfold Dev.Same; dsimp only [partOf_false]) | dsimp only

theorem Dev.beginImport_same {d : Dev} (o : ImportOp) (hk : d.Same gm gf ge gs false gt r₀) :
    (Dev.beginImport d o).Same gm gf ge gs false gt r₀ := by
  unfold Dev.beginImport
  repeat' first | (with_reducible first | assumption | apply Dev.importRecord_same | apply Dev.dropCheckpoint_same | apply Dev.put_same | apply Dev.Same.both (gn := false)) | (unfold Dev.Same; dsimp only [partOf_false]) | dsimp only

theorem Dev.importStep_same {d : Dev} (hk : d.Same gm gf ge gs false gt r₀) :
    (Dev.importStep d).Same gm gf ge gs false gt r₀ := by
  unfold Dev.importStep
  repeat' first | (with_reducible first | assumption | apply Dev.beginImport_same | apply Dev.importTick_same | apply Dev.Same.both (gn := false) | refine ite_same ?_ ?_) | split | (unfold Dev.Same; dsimp only [partOf_false]) | dsimp only

theorem Dev.nvmTick_same {d : Dev} (hk : d.Same false gf ge gs false gt r₀) :
    (Dev.nvmTick d).Same false gf ge gs false gt r₀ := by
  unfold Dev.nvmTick
  repeat' first | (with_reducible first | assumption | apply Dev.importStep_same | apply Dev.exportTick_same | apply Dev.checkpointTick_same | apply Dev.kickWrites_same | apply Dev.Same.both (gm := false) (gn := false)) | (unfold Dev.Same; dsimp only [partOf_false]) | dsimp only

theorem Dev.restoreImport_same {d : Dev} (hk : d.Same gm gf ge gs false gt r₀) :
    (Dev.restoreImport d).Same gm gf ge gs false gt r₀ := by
  unfold Dev.restoreImport
  repeat' first | (with_reducible first | assumption | apply Dev.raise_same | apply Dev.Same.both (gn := false) | refine ite_same ?_ ?_) | split | (unfold Dev.Same; dsimp only [partOf_false]) | dsimp only

theorem Dev.abortWrite_same {d : Dev} (id : Nat) (r : Rec) (hk : d.Same gm gf ge gs false gt r₀) :
    (Dev.abortWrite d id r).Same gm gf ge gs false gt r₀ := by
  unfold Dev.abortWrite
  repeat' first | (with_reducible first | assumption | intro _ | apply Dev.dropWrite_same | apply Dev.commitPage_same | apply Dev.kickWrites_same | apply Dev.done_same | apply Dev.fail_same | apply Dev.finish_same | apply Dev.nextFree_same | apply Dev.Same.both (gn := false) | refine ite_same ?_ ?_) | split | (unfold Dev.Same; dsimp only [partOf_false]) | dsimp only

theorem settleNvm_same (id : Nat) (r : Rec) {d : Dev} (hk : d.Same gm gf ge gs false gt r₀) :
    (settleNvm id r d).Same gm gf ge gs false gt r₀ := by
  unfold settleNvm
  repeat' first | (with_reducible first | assumption | intro _ | apply Dev.abortWrite_same | apply Dev.endImport_same | apply Dev.endExport_same | apply Dev.done_same | apply Dev.fail_same | apply Dev.Same.both (gn := false) | refine ite_same ?_ ?_) | split | (unfold Dev.Same; dsimp only [partOf_false]) | dsimp only

theorem bodyNvmAbort_same (id : Nat) (x : Sys2Proof.Desc) {d : Dev} (hk : d.Same gm gf ge gs false gt r₀) :
    (bodyNvmAbort id x d).Same gm gf ge gs false gt r₀ := by
  unfold bodyNvmAbort
  repeat' first | (with_reducible first | assumption | apply settleNvm_same | apply Dev.abortDesc_same | apply Dev.fail_same | apply Dev.Same.both (gn := false) | refine ite_same ?_ ?_) | split | (unfold Dev.Same; dsimp only [partOf_false]) | dsimp only

theorem Dev.nvmDip_same {d : Dev} (hk : d.Same gm gf ge gs false gt r₀) :
    (Dev.nvmDip d).Same gm gf ge gs false gt r₀ := by
  unfold Dev.nvmDip
  repeat' first | (with_reducible first | assumption | apply Dev.endExport_same | apply Dev.Same.both (gn := false)) | (unfold Dev.Same; dsimp only [partOf_false]) | dsimp only

theorem Dev.writeNvmClr_same {d : Dev} (v : Nat) (hk : d.Same gm gf ge gs gn gt r₀) :
    (Dev.writeNvmClr d v).Same gm gf ge gs gn gt r₀ := by
  unfold Dev.writeNvmClr
  repeat' first | (with_reducible first | assumption | intro _ | apply Dev.put_same | apply Dev.Same.both | refine ite_same ?_ ?_ | refine foldl_same (fun _ _ _ => ?_) ?_ _ | refine foldl_snd2_same (fun _ _ _ => ?_) ?_ _ | refine foldl_snd_same (fun _ _ _ => ?_) ?_ _ | refine foldl_fst_same (fun _ _ _ => ?_) ?_ _) | split | (unfold Dev.Same; dsimp only [partOf_false]) | dsimp only

/-! ### Fit -/

theorem Dev.fitStep_same {d : Dev} (n : Nat) (hk : d.Same gm gf ge gs gn gt r₀) :
    (Dev.fitStep d n).Same gm gf ge gs gn gt r₀ := by
  unfold Dev.fitStep
  repeat' first | (with_reducible first | assumption | apply Dev.put_same | apply Dev.Same.both | refine ite_same ?_ ?_) | split | (unfold Dev.Same; dsimp only [partOf_false]) | dsimp only

theorem Dev.pmbusRetryAll_same {d : Dev} (hk : d.Same gm gf ge gs gn false r₀) :
    (Dev.pmbusRetryAll d).Same gm gf ge gs gn false r₀ := by
  unfold Dev.pmbusRetryAll
  repeat' first | (with_reducible first | assumption | apply Dev.emit_same | apply Dev.Same.both (gt := false) | refine ite_same ?_ ?_) | split | (unfold Dev.Same; dsimp only [partOf_false]) | dsimp only

theorem Dev.fitForget_same {d : Dev} (hk : d.Same gm gf ge false gn gt r₀) :
    (Dev.fitForget d).Same gm gf ge false gn gt r₀ := by
  unfold Dev.fitForget
  repeat' first | (with_reducible first | assumption | intro _ | apply Dev.Same.both (gs := false)) | (unfold Dev.Same; dsimp only [partOf_false]) | dsimp only

theorem Dev.fitGiveBack_same {d : Dev} (hk : d.Same gm gf ge false gn gt r₀) :
    (Dev.fitGiveBack d).Same gm gf ge false gn gt r₀ := by
  unfold Dev.fitGiveBack
  repeat' first | (with_reducible first | assumption | intro _ | apply Dev.Same.both (gs := false) | refine ite_same ?_ ?_ | refine foldl_same (fun _ _ _ => ?_) ?_ _ | refine foldl_snd2_same (fun _ _ _ => ?_) ?_ _ | refine foldl_snd_same (fun _ _ _ => ?_) ?_ _ | refine foldl_fst_same (fun _ _ _ => ?_) ?_ _) | split | (unfold Dev.Same; dsimp only [partOf_false]) | dsimp only

theorem Dev.fitStart_same {d0 : Dev} (desc : Option Nat) (hkd0 : d0.Same false gf ge false gn false r₀) :
    (Dev.fitStart d0 desc).Same false gf ge false gn false r₀ := by
  unfold Dev.fitStart
  repeat' first | (with_reducible first | assumption | apply Dev.fitForget_same | apply Dev.pmbusRetryAll_same | apply Dev.fitStep_same | apply Dev.put_same | apply Dev.Same.both (gm := false) (gs := false) (gt := false)) | (unfold Dev.Same; dsimp only [partOf_false]) | dsimp only

theorem Dev.fitDrop_same {d0 : Dev} (hkd0 : d0.Same gm gf ge false gn gt r₀) :
    (Dev.fitDrop d0).Same gm gf ge false gn gt r₀ := by
  unfold Dev.fitDrop
  repeat' first | (with_reducible first | assumption | apply Dev.fitGiveBack_same | apply Dev.fitStep_same | apply Dev.Same.both (gs := false)) | (unfold Dev.Same; dsimp only [partOf_false]) | dsimp only

theorem Dev.dropLog_same {d : Dev} (hk : d.Same gm gf ge false false gt r₀) :
    (Dev.dropLog d).Same gm gf ge false false gt r₀ := by
  unfold Dev.dropLog
  repeat' first | (with_reducible first | assumption | intro _ | apply Dev.Same.both (gs := false) (gn := false)) | (unfold Dev.Same; dsimp only [partOf_false]) | dsimp only

theorem Dev.showPaths_same {d : Dev} (ps : List Nat) (hk : d.Same gm gf ge gs gn gt r₀) :
    (Dev.showPaths d ps).Same gm gf ge gs gn gt r₀ := by
  unfold Dev.showPaths
  repeat' first | (with_reducible first | assumption | apply Dev.put_same | apply Dev.Same.both | refine ite_same ?_ ?_) | split | (unfold Dev.Same; dsimp only [partOf_false]) | dsimp only

theorem Dev.takeBase_same {d : Dev} (e : Nat) (i : Nat) (v : Nat) (hk : d.Same gm gf ge false gn gt r₀) :
    (Dev.takeBase d e i v).Same gm gf ge false gn gt r₀ := by
  unfold Dev.takeBase
  repeat' first | (with_reducible first | assumption | apply Dev.Same.both (gs := false) | refine ite_same ?_ ?_) | split | (unfold Dev.Same; dsimp only [partOf_false]) | dsimp only

theorem Dev.coilBase_same {d : Dev} (c : Nat) (hk : d.Same gm gf ge false gn gt r₀) :
    (Dev.coilBase d c).Same gm gf ge false gn gt r₀ := by
  unfold Dev.coilBase
  repeat' first | (with_reducible first | assumption | apply Dev.putRet_same | apply Dev.put_same | apply Dev.Same.both (gs := false) | refine ite_same ?_ ?_) | split | (unfold Dev.Same; dsimp only [partOf_false]) | dsimp only

theorem Dev.fitBaselines_same {d : Dev} (m : Sys2Proof.FitSense) (hk : d.Same gm gf ge false gn gt r₀) :
    (Dev.fitBaselines d m).Same gm gf ge false gn gt r₀ := by
  unfold Dev.fitBaselines
  repeat' first | (with_reducible first | assumption | intro _ | apply Dev.coilBase_same | apply Dev.takeBase_same | apply Dev.Same.both (gs := false) | refine ite_same ?_ ?_ | refine foldl_same (fun _ _ _ => ?_) ?_ _ | refine foldl_snd2_same (fun _ _ _ => ?_) ?_ _ | refine foldl_snd_same (fun _ _ _ => ?_) ?_ _ | refine foldl_fst_same (fun _ _ _ => ?_) ?_ _) | split | (unfold Dev.Same; dsimp only [partOf_false]) | dsimp only

theorem Dev.fitDecide_same {d : Dev} (hk : d.Same false gf ge false false gt r₀) :
    (Dev.fitDecide d).Same false gf ge false false gt r₀ := by
  unfold Dev.fitDecide
  repeat' first | (with_reducible first | assumption | intro _ | apply Dev.fitBaselines_same | apply Dev.fitStep_same | apply Dev.kickLog_same | apply Dev.Same.both (gm := false) (gs := false) (gn := false) | refine ite_same ?_ ?_ | refine foldl_same (fun _ _ _ => ?_) ?_ _ | refine foldl_snd2_same (fun _ _ _ => ?_) ?_ _ | refine foldl_snd_same (fun _ _ _ => ?_) ?_ _ | refine foldl_fst_same (fun _ _ _ => ?_) ?_ _) | split | (unfold Dev.Same; dsimp only [partOf_false]) | dsimp only

theorem Dev.showEffective_same {d : Dev} (hk : d.Same gm gf ge gs gn gt r₀) :
    (Dev.showEffective d).Same gm gf ge gs gn gt r₀ := by
  unfold Dev.showEffective
  repeat' first | (with_reducible first | assumption | apply Dev.put_same | apply Dev.Same.both) | (unfold Dev.Same; dsimp only [partOf_false]) | dsimp only

theorem Dev.setTarget_same {d : Dev} (mv : Nat) (hk : d.Same gm gf ge gs gn gt r₀) :
    (Dev.setTarget d mv).Same gm gf ge gs gn gt r₀ := by
  unfold Dev.setTarget
  repeat' first | (with_reducible first | assumption | apply Dev.putRet_same | apply Dev.put_same | apply Dev.Same.both) | (unfold Dev.Same; dsimp only [partOf_false]) | dsimp only

theorem Dev.raiseChange_same {d : Dev} (c : FitChange) (cause : Nat) (hk : d.Same gm gf ge gs gn gt r₀) :
    (Dev.raiseChange d c cause).Same gm gf ge gs gn gt r₀ := by
  unfold Dev.raiseChange
  repeat' first | (with_reducible first | assumption | apply Dev.raise_same | apply Dev.Same.both) | (unfold Dev.Same; dsimp only [partOf_false]) | dsimp only

theorem Dev.applyChange_same {d : Dev} (c : FitChange) (hk : d.Same gm gf ge gs gn gt r₀) :
    (Dev.applyChange d c).Same gm gf ge gs gn gt r₀ := by
  unfold Dev.applyChange
  repeat' first | (with_reducible first | assumption | apply Dev.raiseChange_same | apply Dev.setTarget_same | apply Dev.showEffective_same | apply Dev.post_same | apply Dev.putRet_same | apply Dev.put_same | apply Dev.Same.both) | split | (unfold Dev.Same; dsimp only [partOf_false]) | dsimp only

theorem Dev.raiseForecast_same {d : Dev} (p : Nat × Nat) (hk : d.Same false gf ge gs gn gt r₀) :
    (Dev.raiseForecast d p).Same false gf ge gs gn gt r₀ := by
  unfold Dev.raiseForecast
  repeat' first | (with_reducible first | assumption | apply Dev.raise_same | apply Dev.Same.both (gm := false) | refine ite_same ?_ ?_) | split | (unfold Dev.Same; dsimp only [partOf_false]) | dsimp only

theorem Dev.fitApplied_same {d : Dev} (hk : d.Same false gf ge false gn gt r₀) :
    (Dev.fitApplied d).Same false gf ge false gn gt r₀ := by
  unfold Dev.fitApplied
  repeat' first | (with_reducible first | assumption | intro _ | apply Dev.raiseForecast_same | apply Dev.applyChange_same | apply Dev.fitStep_same | apply Dev.done_same | apply Dev.raise_same | apply Dev.putRet_same | apply Dev.put_same | apply Dev.Same.both (gm := false) (gs := false) | refine ite_same ?_ ?_ | refine foldl_same (fun _ _ _ => ?_) ?_ _ | refine foldl_snd2_same (fun _ _ _ => ?_) ?_ _ | refine foldl_snd_same (fun _ _ _ => ?_) ?_ _ | refine foldl_fst_same (fun _ _ _ => ?_) ?_ _) | split | (unfold Dev.Same; dsimp only [partOf_false]) | dsimp only

theorem Dev.fitDip_same {d : Dev} (hk : d.Same gm gf ge false gn gt r₀) :
    (Dev.fitDip d).Same gm gf ge false gn gt r₀ := by
  unfold Dev.fitDip
  repeat' first | (with_reducible first | assumption | apply Dev.fitDrop_same | apply Dev.fail_same | apply Dev.Same.both (gs := false) | refine ite_same ?_ ?_) | split | (unfold Dev.Same; dsimp only [partOf_false]) | dsimp only

theorem Dev.fitFreeze_same {d : Dev} (hk : d.Same gm gf ge false gn gt r₀) :
    (Dev.fitFreeze d).Same gm gf ge false gn gt r₀ := by
  unfold Dev.fitFreeze
  repeat' first | (with_reducible first | assumption | apply Dev.Same.both (gs := false)) | (unfold Dev.Same; dsimp only [partOf_false]) | dsimp only

theorem bodyFitRun_same (id : Nat) (a1 : Sys2Proof.Desc) {d : Dev} (hk : d.Same false gf ge false gn false r₀) :
    (bodyFitRun id a1 d).Same false gf ge false gn false r₀ := by
  unfold bodyFitRun
  repeat' first | (with_reducible first | assumption | apply Dev.fitStart_same | apply Dev.fail_same | apply Dev.Same.both (gm := false) (gs := false) (gt := false) | refine ite_same ?_ ?_) | split | (unfold Dev.Same; dsimp only [partOf_false]) | dsimp only

theorem bodyFitLogRead_same (id : Nat) (x : Sys2Proof.Desc) {d : Dev} (hk : d.Same false gf ge gs false gt r₀) :
    (bodyFitLogRead id x d).Same false gf ge gs false gt r₀ := by
  unfold bodyFitLogRead
  repeat' first | (with_reducible first | assumption | intro _ | refine Dev.nvmRead_same_of ?_ (by assumption) | apply Dev.nvmRead_same | apply Dev.memWrite_same | apply Dev.fail_same | apply Dev.finish_same | apply Dev.Same.both (gm := false) (gn := false) | refine ite_same ?_ ?_ | refine foldl_same (fun _ _ _ => ?_) ?_ _ | refine foldl_snd2_same (fun _ _ _ => ?_) ?_ _ | refine foldl_snd_same (fun _ _ _ => ?_) ?_ _ | refine foldl_fst_same (fun _ _ _ => ?_) ?_ _) | split | (unfold Dev.Same; dsimp only [partOf_false]) | dsimp only

theorem bodyFitBaseline_same (id : Nat) (x : Sys2Proof.Desc) {d : Dev} (hk : d.Same gm gf ge false gn gt r₀) :
    (bodyFitBaseline id x d).Same gm gf ge false gn gt r₀ := by
  unfold bodyFitBaseline
  repeat' first | (with_reducible first | assumption | intro _ | apply Dev.done_same | apply Dev.fail_same | apply Dev.Same.both (gs := false) | refine ite_same ?_ ?_) | split | (unfold Dev.Same; dsimp only [partOf_false]) | dsimp only

theorem settleFit_same (id : Nat) (r : Rec) {d : Dev} (hk : d.Same gm gf ge false false gt r₀) :
    (settleFit id r d).Same gm gf ge false false gt r₀ := by
  unfold settleFit
  repeat' first | (with_reducible first | assumption | apply Dev.dropLog_same | apply Dev.fitDrop_same | apply Dev.kickLog_same | apply Dev.done_same | apply Dev.fail_same | apply Dev.Same.both (gs := false) (gn := false) | refine ite_same ?_ ?_) | split | (unfold Dev.Same; dsimp only [partOf_false]) | dsimp only

theorem bodyFitAbort_same (id : Nat) (x : Sys2Proof.Desc) {d : Dev} (hk : d.Same gm gf ge false false gt r₀) :
    (bodyFitAbort id x d).Same gm gf ge false false gt r₀ := by
  unfold bodyFitAbort
  repeat' first | (with_reducible first | assumption | apply settleFit_same | apply Dev.abortDesc_same | apply Dev.fail_same | apply Dev.Same.both (gs := false) (gn := false) | refine ite_same ?_ ?_) | split | (unfold Dev.Same; dsimp only [partOf_false]) | dsimp only

/-! ### Sec -/

theorem Dev.setSec_same {d : Dev} (x : SecSt) (hk : d.Same gm gf ge gs false gt r₀) :
    (Dev.setSec d x).Same gm gf ge gs false gt r₀ := by
  unfold Dev.setSec
  repeat' first | (with_reducible first | assumption | apply Dev.Same.both (gn := false)) | (unfold Dev.Same; dsimp only [partOf_false]) | dsimp only

theorem Dev.endSec_same {d : Dev} (id : Nat) (st : Status) (result : Nat) (hk : d.Same gm gf ge gs false gt r₀) :
    (Dev.endSec d id st result).Same gm gf ge gs false gt r₀ := by
  unfold Dev.endSec
  repeat' first | (with_reducible first | assumption | intro _ | apply Dev.setSec_same | apply Dev.finish_same | apply Dev.Same.both (gn := false)) | (unfold Dev.Same; dsimp only [partOf_false]) | dsimp only

theorem Dev.addSec_same {d : Dev} (id : Nat) (kind : Nat) (hk : d.Same gm gf ge gs false gt r₀) :
    (Dev.addSec d id kind).Same gm gf ge gs false gt r₀ := by
  unfold Dev.addSec
  repeat' first | (with_reducible first | assumption | apply Dev.setSec_same | apply Dev.Same.both (gn := false)) | (unfold Dev.Same; dsimp only [partOf_false]) | dsimp only

theorem Dev.beginEnvelope_same {d : Dev} (id : Nat) (kind : Nat) (x : Sys2Proof.Desc) (hk : d.Same gm gf ge gs false gt r₀) :
    (Dev.beginEnvelope d id kind x).Same gm gf ge gs false gt r₀ := by
  unfold Dev.beginEnvelope
  repeat' first | (with_reducible first | assumption | apply Dev.addSec_same | apply Dev.fail_same | apply Dev.Same.both (gn := false) | refine ite_same ?_ ?_) | split | (unfold Dev.Same; dsimp only [partOf_false]) | dsimp only

theorem bodyOwnerHandover_same (id : Nat) (x : Sys2Proof.Desc) {d : Dev} (hk : d.Same gm gf ge gs false gt r₀) :
    (bodyOwnerHandover id x d).Same gm gf ge gs false gt r₀ := by
  unfold bodyOwnerHandover
  repeat' first | (with_reducible first | assumption | apply Dev.beginEnvelope_same | apply Dev.Same.both (gn := false)) | (unfold Dev.Same; dsimp only [partOf_false]) | dsimp only

theorem bodyConfigManifest_same (id : Nat) (x : Sys2Proof.Desc) {d : Dev} (hk : d.Same gm gf ge gs false gt r₀) :
    (bodyConfigManifest id x d).Same gm gf ge gs false gt r₀ := by
  unfold bodyConfigManifest
  repeat' first | (with_reducible first | assumption | apply Dev.beginEnvelope_same | apply Dev.Same.both (gn := false)) | (unfold Dev.Same; dsimp only [partOf_false]) | dsimp only

theorem bodyFwUpdate_same (id : Nat) (x : Sys2Proof.Desc) {d : Dev} (hk : d.Same gm gf ge gs false gt r₀) :
    (bodyFwUpdate id x d).Same gm gf ge gs false gt r₀ := by
  unfold bodyFwUpdate
  repeat' first | (with_reducible first | assumption | apply Dev.beginEnvelope_same | apply Dev.Same.both (gn := false)) | (unfold Dev.Same; dsimp only [partOf_false]) | dsimp only

theorem bodyAttest_same (id : Nat) (x : Sys2Proof.Desc) {d : Dev} (hk : d.Same gm gf ge gs false gt r₀) :
    (bodyAttest id x d).Same gm gf ge gs false gt r₀ := by
  unfold bodyAttest
  repeat' first | (with_reducible first | assumption | apply Dev.addSec_same | apply Dev.fail_same | apply Dev.Same.both (gn := false) | refine ite_same ?_ ?_) | split | (unfold Dev.Same; dsimp only [partOf_false]) | dsimp only

theorem Dev.secChecked_same {d : Dev} (id : Nat) (x : Sys2Proof.Desc) (hk : d.Same false gf ge gs false gt r₀) :
    (Dev.secChecked d id x).Same false gf ge gs false gt r₀ := by
  unfold Dev.secChecked
  repeat' first | (with_reducible first | assumption | intro _ | apply Dev.endSec_same | apply Dev.setSec_same | refine Dev.readImage_same_of ?_ (by assumption) | apply Dev.readImage_same | apply Dev.imageRefused_same | apply Dev.emit_same | apply Dev.putRet_same | apply Dev.Same.both (gm := false) (gn := false) | refine ite_same ?_ ?_) | split | (unfold Dev.Same; dsimp only [partOf_false]) | dsimp only

theorem Dev.handover_same {d : Dev} (id : Nat) (p : List Nat) (hk : d.Same gm gf ge gs false gt r₀) :
    (Dev.handover d id p).Same gm gf ge gs false gt r₀ := by
  unfold Dev.handover
  repeat' first | (with_reducible first | assumption | apply Dev.endSec_same | apply Dev.setSec_same | apply Dev.keep_same | apply Dev.raise_same | apply Dev.putRet_same | apply Dev.Same.both (gn := false) | refine ite_same ?_ ?_) | split | (unfold Dev.Same; dsimp only [partOf_false]) | dsimp only

theorem Dev.setManifest_same {d : Dev} (p : List Nat) (hk : d.Same gm gf ge gs false gt r₀) :
    (Dev.setManifest d p).Same gm gf ge gs false gt r₀ := by
  unfold Dev.setManifest
  repeat' first | (with_reducible first | assumption | apply Dev.setSec_same | apply Dev.setBlock_same | apply Dev.putRet_same | apply Dev.Same.both (gn := false)) | (unfold Dev.Same; dsimp only [partOf_false]) | dsimp only

theorem Dev.attest_same {d : Dev} (id : Nat) (hk : d.Same false gf ge gs false gt r₀) :
    (Dev.attest d id).Same false gf ge gs false gt r₀ := by
  unfold Dev.attest
  repeat' first | (with_reducible first | assumption | intro _ | apply Dev.endSec_same | apply Dev.memWrite_same | apply Dev.Same.both (gm := false) (gn := false)) | split | (unfold Dev.Same; dsimp only [partOf_false]) | dsimp only

theorem Dev.secTick_same {d : Dev} (hk : d.Same false gf ge gs false gt r₀) :
    (Dev.secTick d).Same false gf ge gs false gt r₀ := by
  unfold Dev.secTick
  repeat' first | (with_reducible first | assumption | intro _ | apply Dev.attest_same | apply Dev.setManifest_same | apply Dev.handover_same | apply Dev.endSec_same | apply Dev.Same.both (gm := false) (gn := false) | refine ite_same ?_ ?_ | refine foldl_same (fun _ _ _ => ?_) ?_ _ | refine foldl_snd2_same (fun _ _ _ => ?_) ?_ _ | refine foldl_snd_same (fun _ _ _ => ?_) ?_ _ | refine foldl_fst_same (fun _ _ _ => ?_) ?_ _) | split | (unfold Dev.Same; dsimp only [partOf_false]) | dsimp only

theorem Dev.abortUpdate_same {d : Dev} (hk : d.Same gm gf ge gs false gt r₀) :
    (Dev.abortUpdate d).Same gm gf ge gs false gt r₀ := by
  unfold Dev.abortUpdate
  repeat' first | (with_reducible first | assumption | apply Dev.endSec_same | apply Dev.putRet_same | apply Dev.Same.both (gn := false) | refine ite_same ?_ ?_) | split | (unfold Dev.Same; dsimp only [partOf_false]) | dsimp only

theorem settleSec_same (id : Nat) (r : Rec) {d : Dev} (hk : d.Same gm gf ge gs false gt r₀) :
    (settleSec id r d).Same gm gf ge gs false gt r₀ := by
  unfold settleSec
  repeat' first | (with_reducible first | assumption | intro _ | apply Dev.abortUpdate_same | apply Dev.done_same | apply Dev.fail_same | apply Dev.Same.both (gn := false) | refine ite_same ?_ ?_) | split | (unfold Dev.Same; dsimp only [partOf_false]) | dsimp only

theorem bodySecAbort_same (id : Nat) (x : Sys2Proof.Desc) {d : Dev} (hk : d.Same gm gf ge gs false gt r₀) :
    (bodySecAbort id x d).Same gm gf ge gs false gt r₀ := by
  unfold bodySecAbort
  repeat' first | (with_reducible first | assumption | apply settleSec_same | apply Dev.abortDesc_same | apply Dev.fail_same | apply Dev.Same.both (gn := false) | refine ite_same ?_ ?_) | split | (unfold Dev.Same; dsimp only [partOf_false]) | dsimp only

theorem Dev.bootIdentity_same {d : Dev} (hk : d.Same gm gf ge gs gn gt r₀) :
    (Dev.bootIdentity d).Same gm gf ge gs gn gt r₀ := by
  unfold Dev.bootIdentity
  repeat' first | (with_reducible first | assumption | apply Dev.putBit_same | apply Dev.put_same | apply Dev.Same.both) | (unfold Dev.Same; dsimp only [partOf_false]) | dsimp only

theorem Dev.recordNow_same {d : Dev} (off : Nat) (hk : d.Same gm gf ge gs false gt r₀) :
    (Dev.recordNow d off).Same gm gf ge gs false gt r₀ := by
  unfold Dev.recordNow
  repeat' first | (with_reducible first | assumption | refine Dev.writeRecord_same_of ?_ (by assumption) | apply Dev.writeRecord_same | apply Dev.Same.both (gn := false)) | split | (unfold Dev.Same; dsimp only [partOf_false]) | dsimp only

theorem Dev.noteSlots_same {d : Dev} (a : Nat) (b : Nat) (hk : d.Same gm gf ge gs false gt r₀) :
    (Dev.noteSlots d a b).Same gm gf ge gs false gt r₀ := by
  unfold Dev.noteSlots
  repeat' first | (with_reducible first | assumption | apply Dev.recordNow_same | apply Dev.put_same | apply Dev.Same.both (gn := false) | refine ite_same ?_ ?_) | split | (unfold Dev.Same; dsimp only [partOf_false]) | dsimp only

theorem Dev.booted_same {d : Dev} (slot : Nat) (x : Sys2Proof.SlotCheck) (hk : d.Same gm gf ge gs false gt r₀) :
    (Dev.booted d slot x).Same gm gf ge gs false gt r₀ := by
  unfold Dev.booted
  repeat' first | (with_reducible first | assumption | intro _ | apply Dev.noteSlots_same | apply Dev.setSec_same | apply Dev.putBit_same | apply Dev.put_same | apply Dev.Same.both (gn := false) | refine ite_same ?_ ?_) | split | (unfold Dev.Same; dsimp only [partOf_false]) | dsimp only

theorem Dev.confirmTrial_same {d : Dev} (hk : d.Same gm gf ge gs gn gt r₀) :
    (Dev.confirmTrial d).Same gm gf ge gs gn gt r₀ := by
  unfold Dev.confirmTrial
  repeat' first | (with_reducible first | assumption | apply Dev.raise_same | apply Dev.putRet_same | apply Dev.Same.both | refine ite_same ?_ ?_) | split | (unfold Dev.Same; dsimp only [partOf_false]) | dsimp only

theorem Dev.reportFallback_same {d : Dev} (hk : d.Same gm gf ge gs false gt r₀) :
    (Dev.reportFallback d).Same gm gf ge gs false gt r₀ := by
  unfold Dev.reportFallback
  repeat' first | (with_reducible first | assumption | apply Dev.setSec_same | apply Dev.raise_same | apply Dev.Same.both (gn := false) | refine ite_same ?_ ?_) | split | (unfold Dev.Same; dsimp only [partOf_false]) | dsimp only

theorem Dev.secRestore_same {d : Dev} (hk : d.Same gm gf ge gs false gt r₀) :
    (Dev.secRestore d).Same gm gf ge gs false gt r₀ := by
  unfold Dev.secRestore
  repeat' first | (with_reducible first | assumption | apply Dev.setSec_same | apply Dev.Same.both (gn := false) | refine ite_same ?_ ?_) | split | (unfold Dev.Same; dsimp only [partOf_false]) | dsimp only

theorem Dev.enterRecovery_same {d : Dev} (hk : d.Same gm gf ge gs false false r₀) :
    (Dev.enterRecovery d).Same gm gf ge gs false false r₀ := by
  unfold Dev.enterRecovery
  repeat' first | (with_reducible first | assumption | apply Dev.noteSlots_same | apply Dev.put_same | apply Dev.Same.both (gn := false) (gt := false)) | (unfold Dev.Same; dsimp only [partOf_false]) | dsimp only

theorem Dev.leaveRecovery_same {d : Dev} (hk : d.Same gm gf ge gs false false r₀) :
    (Dev.leaveRecovery d).Same gm gf ge gs false false r₀ := by
  unfold Dev.leaveRecovery
  repeat' first | (with_reducible first | assumption | apply Dev.setSec_same | apply Dev.put_same | apply Dev.Same.both (gn := false) (gt := false)) | (unfold Dev.Same; dsimp only [partOf_false]) | dsimp only

theorem Dev.stagedCode_same {d : Dev} (len : Nat) (hk : d.Same false gf ge gs gn gt r₀) :
    (Dev.stagedCode d len).2.Same false gf ge gs gn gt r₀ := by
  unfold Dev.stagedCode
  repeat' first | (with_reducible first | assumption | refine Dev.readImage_same_of ?_ (by assumption) | apply Dev.readImage_same | apply Dev.nextFree_same | apply Dev.Same.both (gm := false) | refine ite_same ?_ ?_) | split | (unfold Dev.Same; dsimp only [partOf_false]) | dsimp only

theorem Dev.stagedCode_same_of {d : Dev} {len : Nat} {r0 : (Nat × List Nat)} {e0 : Dev} (hk : d.Same false gf ge gs gn gt r₀) (eq : (Dev.stagedCode d len) = (r0, e0)) : e0.Same false gf ge gs gn gt r₀ := by
  have k := @Dev.stagedCode_same; grind

theorem Dev.writeFwRec_same {d : Dev} (v : Nat) (hk : d.Same false gf ge gs false false r₀) :
    (Dev.writeFwRec d v).Same false gf ge gs false false r₀ := by
  unfold Dev.writeFwRec
  repeat' first | (with_reducible first | assumption | refine Dev.stagedCode_same_of ?_ (by assumption) | apply Dev.stagedCode_same | apply Dev.leaveRecovery_same | apply Dev.recordNow_same | apply Dev.emit_same | apply Dev.bump_same | apply Dev.put_same | apply Dev.Same.both (gm := false) (gn := false) (gt := false) | refine ite_same ?_ ?_) | split | (unfold Dev.Same; dsimp only [partOf_false]) | dsimp only

end Sys2Proof.Machine
end

