-- ==== Sys2Proof/Laws/SameMachine.lean ====
section
/-! SUPPORT. The kinds of state that each operation leaves as they are: the operations of the whole machine. -/

namespace Sys2Proof.Machine
open Sys2Proof

variable {gm gf ge gs gn gt : Bool} {r₀ : Dev}

/-! ### Start -/

theorem Dev.setPower_same {d : Dev} (x : PowerSt) (hk : d.Same gm gf ge gs gn false r₀) :
    (Dev.setPower d x).Same gm gf ge gs gn false r₀ := by
  unfold Dev.setPower
  repeat' first | (with_reducible first | assumption | apply Dev.Same.both (gt := false)) | (unfold Dev.Same; dsimp only [partOf_false]) | dsimp only

theorem Dev.setPfw_same {d : Dev} (low : Bool) (hk : d.Same gm gf ge gs gn gt r₀) :
    (Dev.setPfw d low).Same gm gf ge gs gn gt r₀ := by
  unfold Dev.setPfw
  repeat' first | (with_reducible first | assumption | apply Dev.emit_same | apply Dev.putBit_same | apply Dev.Same.both) | (unfold Dev.Same; dsimp only [partOf_false]) | dsimp only

theorem Dev.abandonTrial_same {d : Dev} (hk : d.Same gm gf ge gs false gt r₀) :
    (Dev.abandonTrial d).Same gm gf ge gs false gt r₀ := by
  unfold Dev.abandonTrial
  repeat' first | (with_reducible first | assumption | apply Dev.recordNow_same | apply Dev.setSec_same | apply Dev.put_same | apply Dev.Same.both (gn := false) | refine ite_same ?_ ?_) | split | (unfold Dev.Same; dsimp only [partOf_false]) | dsimp only

theorem Dev.latchReset_same {d : Dev} (cause : Nat) (hk : d.Same gm gf ge gs gn false r₀) :
    (Dev.latchReset d cause).Same gm gf ge gs gn false r₀ := by
  unfold Dev.latchReset
  repeat' first | (with_reducible first | assumption | apply Dev.setPower_same | apply Dev.Same.both (gt := false) | refine ite_same ?_ ?_) | split | (unfold Dev.Same; dsimp only [partOf_false]) | dsimp only

theorem Dev.raiseEnable_same {d : Dev} (r : Nat) (hk : d.Same gm gf ge gs gn false r₀) :
    (Dev.raiseEnable d r).Same gm gf ge gs gn false r₀ := by
  unfold Dev.raiseEnable
  repeat' first | (with_reducible first | assumption | apply Dev.setPower_same | apply Dev.emit_same | apply Dev.Same.both (gt := false)) | (unfold Dev.Same; dsimp only [partOf_false]) | dsimp only

theorem Dev.lowerEnables_same {d : Dev} (hk : d.Same gm gf ge gs gn false r₀) :
    (Dev.lowerEnables d).Same gm gf ge gs gn false r₀ := by
  unfold Dev.lowerEnables
  repeat' first | (with_reducible first | assumption | intro _ | apply Dev.setPower_same | apply Dev.emit_same | apply Dev.Same.both (gt := false) | refine ite_same ?_ ?_ | refine foldl_same (fun _ _ _ => ?_) ?_ _ | refine foldl_snd2_same (fun _ _ _ => ?_) ?_ _ | refine foldl_snd_same (fun _ _ _ => ?_) ?_ _ | refine foldl_fst_same (fun _ _ _ => ?_) ?_ _) | split | (unfold Dev.Same; dsimp only [partOf_false]) | dsimp only

theorem Dev.startStep2_same {d : Dev} (hk : d.Same gm gf ge gs gn false r₀) :
    (Dev.startStep2 d).Same gm gf ge gs gn false r₀ := by
  unfold Dev.startStep2
  repeat' first | (with_reducible first | assumption | apply Dev.raiseEnable_same | apply Dev.put_same | apply Dev.Same.both (gt := false)) | (unfold Dev.Same; dsimp only [partOf_false]) | dsimp only

theorem Dev.bootRecord_same {d : Dev} (off : Nat) (hk : d.Same gm gf false gs false gt r₀) :
    (Dev.bootRecord d off).Same gm gf false gs false gt r₀ := by
  unfold Dev.bootRecord
  repeat' first | (with_reducible first | assumption | apply Dev.applyRecord_same | refine Dev.readRecord_same_of ?_ (by assumption) | apply Dev.readRecord_same | apply Dev.Same.both (ge := false) (gn := false) | refine ite_same ?_ ?_) | split | (unfold Dev.Same; dsimp only [partOf_false]) | dsimp only

theorem Dev.startStep4_same {d : Dev} (hk : d.Same gm gf false gs false false r₀) :
    (Dev.startStep4 d).Same gm gf false gs false false r₀ := by
  unfold Dev.startStep4
  repeat' first | (with_reducible first | assumption | apply Dev.bootRecord_same | apply Dev.setPower_same | apply Dev.put_same | apply Dev.Same.both (ge := false) (gn := false) (gt := false)) | (unfold Dev.Same; dsimp only [partOf_false]) | dsimp only

theorem Dev.logAtBoot_same {d : Dev} (cause : Nat) (time : Nat) (hk : d.Same gm gf false gs false gt r₀) :
    (Dev.logAtBoot d cause time).Same gm gf false gs false gt r₀ := by
  unfold Dev.logAtBoot
  repeat' first | (with_reducible first | assumption | intro _ | apply Dev.bootRecord_same | apply Dev.writeRecord_same | apply Dev.logFaultIn_same | apply Dev.Same.both (ge := false) (gn := false) | refine foldl_same (fun _ _ _ => ?_) ?_ _ | refine foldl_snd2_same (fun _ _ _ => ?_) ?_ _ | refine foldl_snd_same (fun _ _ _ => ?_) ?_ _ | refine foldl_fst_same (fun _ _ _ => ?_) ?_ _) | (unfold Dev.Same; dsimp only [partOf_false]) | dsimp only

theorem Dev.logLatched_same {d : Dev} (hk : d.Same false gf ge gs gn false r₀) :
    (Dev.logLatched d).Same false gf ge gs gn false r₀ := by
  unfold Dev.logLatched
  repeat' first | (with_reducible first | assumption | apply Dev.setPower_same | apply Dev.logFaultIn_same | refine Dev.startCount_same_of ?_ (by assumption) | apply Dev.startCount_same | apply Dev.Same.both (gm := false) (gt := false) | refine ite_same ?_ ?_) | split | (unfold Dev.Same; dsimp only [partOf_false]) | dsimp only

theorem Dev.placeRegions_same {d : Dev} (hk : d.Same gm gf ge gs gn gt r₀) :
    (Dev.placeRegions d).Same gm gf ge gs gn gt r₀ := by
  unfold Dev.placeRegions
  repeat' first | (with_reducible first | assumption | apply Dev.put_same | apply Dev.Same.both) | (unfold Dev.Same; dsimp only [partOf_false]) | dsimp only

theorem Dev.schedRestore_same {d : Dev} (hk : d.Same gm gf false gs gn gt r₀) :
    (Dev.schedRestore d).Same gm gf false gs gn gt r₀ := by
  unfold Dev.schedRestore
  repeat' first | (with_reducible first | assumption | intro _ | apply Dev.showSched_same | apply Dev.setZone_same | apply Dev.Same.both (ge := false) | refine ite_same ?_ ?_ | refine foldl_same (fun _ _ _ => ?_) ?_ _ | refine foldl_snd2_same (fun _ _ _ => ?_) ?_ _ | refine foldl_snd_same (fun _ _ _ => ?_) ?_ _ | refine foldl_fst_same (fun _ _ _ => ?_) ?_ _) | split | (unfold Dev.Same; dsimp only [partOf_false]) | dsimp only

theorem Dev.varRestore_same {d : Dev} (hk : d.Same false gf ge gs gn gt r₀) :
    (Dev.varRestore d).Same false gf ge gs gn gt r₀ := by
  unfold Dev.varRestore
  repeat' first | (with_reducible first | assumption | intro _ | apply Dev.saveRead_same | apply Dev.deliver_same | apply Dev.Same.both (gm := false) | refine ite_same ?_ ?_ | refine foldl_same (fun _ _ _ => ?_) ?_ _ | refine foldl_snd2_same (fun _ _ _ => ?_) ?_ _ | refine foldl_snd_same (fun _ _ _ => ?_) ?_ _ | refine foldl_fst_same (fun _ _ _ => ?_) ?_ _) | split | (unfold Dev.Same; dsimp only [partOf_false]) | dsimp only

theorem Dev.banksRestore_same {d : Dev} (hk : d.Same gm false ge gs gn gt r₀) :
    (Dev.banksRestore d).Same gm false ge gs gn gt r₀ := by
  unfold Dev.banksRestore
  repeat' first | (with_reducible first | assumption | intro _ | apply Dev.shuttleRestore_same | apply Dev.raise_same | apply Dev.Same.both (gf := false) | refine ite_same ?_ ?_ | refine foldl_same (fun _ _ _ => ?_) ?_ _ | refine foldl_snd2_same (fun _ _ _ => ?_) ?_ _ | refine foldl_snd_same (fun _ _ _ => ?_) ?_ _ | refine foldl_fst_same (fun _ _ _ => ?_) ?_ _) | split | (unfold Dev.Same; dsimp only [partOf_false]) | dsimp only

theorem Dev.startLevel_same {d : Dev} (hk : d.Same gm gf ge gs gn gt r₀) :
    (Dev.startLevel d).Same gm gf ge gs gn gt r₀ := by
  unfold Dev.startLevel
  repeat' first | (with_reducible first | assumption | apply Dev.putBit_same | apply Dev.put_same | apply Dev.Same.both) | (unfold Dev.Same; dsimp only [partOf_false]) | dsimp only

theorem Dev.restoreRest_same {d : Dev} (found : Bool) (hk : d.Same false false false gs false false r₀) :
    (Dev.restoreRest d found).Same false false false gs false false r₀ := by
  unfold Dev.restoreRest
  repeat' first | (with_reducible first | assumption | apply Dev.startLevel_same | apply Dev.banksRestore_same | apply Dev.varRestore_same | apply Dev.schedRestore_same | apply Dev.secRestore_same | apply Dev.showEffective_same | apply Dev.restoreImport_same | apply Dev.restoreLockouts_same | apply Dev.panelRestore_same | apply Dev.quiltRestore_same | apply Dev.loopRestore_same | apply Dev.patRestore_same | refine Dev.saveRead_same_of ?_ (by assumption) | apply Dev.saveRead_same | apply Dev.Same.both (gm := false) (gf := false) (ge := false) (gn := false) (gt := false) | refine ite_same ?_ ?_) | split | (unfold Dev.Same; dsimp only [partOf_false]) | dsimp only

theorem Dev.restoreAll_same {d : Dev} (hk : d.Same false false false gs false false r₀) :
    (Dev.restoreAll d).Same false false false gs false false r₀ := by
  unfold Dev.restoreAll
  repeat' first | (with_reducible first | assumption | apply Dev.restoreRest_same | apply Dev.placeRegions_same | apply Dev.restoreSlot_same | apply Dev.restoreBlocks_same | apply Dev.logLost_same | apply Dev.restoreRecords_same | apply Dev.restoreSave_same | apply Dev.Same.both (gm := false) (gf := false) (ge := false) (gn := false) (gt := false)) | (unfold Dev.Same; dsimp only [partOf_false]) | dsimp only

theorem Dev.pmbusEvent_same {d : Dev} (entered : Bool) (cause : Nat) (word : Nat) (hk : d.Same gm gf ge gs gn gt r₀) :
    (Dev.pmbusEvent d entered cause word).Same gm gf ge gs gn gt r₀ := by
  unfold Dev.pmbusEvent
  repeat' first | (with_reducible first | assumption | apply Dev.raise_same | apply Dev.Same.both | refine ite_same ?_ ?_) | split | (unfold Dev.Same; dsimp only [partOf_false]) | dsimp only

theorem Dev.pmbusStop_same {d : Dev} (cause : Nat) (word : Nat) (hk : d.Same gm gf ge gs gn false r₀) :
    (Dev.pmbusStop d cause word).Same gm gf ge gs gn false r₀ := by
  unfold Dev.pmbusStop
  repeat' first | (with_reducible first | assumption | apply Dev.pmbusEvent_same | apply Dev.setPower_same | apply Dev.put_same | apply Dev.Same.both (gt := false) | refine ite_same ?_ ?_) | split | (unfold Dev.Same; dsimp only [partOf_false]) | dsimp only

theorem Dev.pmbusOpen_same {d0 : Dev} (mode : Sys2Proof.PmbusResult) (hkd0 : d0.Same gm gf ge gs gn false r₀) :
    (Dev.pmbusOpen d0 mode).Same gm gf ge gs gn false r₀ := by
  unfold Dev.pmbusOpen
  repeat' first | (with_reducible first | assumption | apply Dev.pmbusStop_same | apply Dev.setPower_same | apply Dev.emit_same | apply Dev.putBit_same | apply Dev.put_same | apply Dev.Same.both (gt := false) | refine ite_same ?_ ?_) | split | (unfold Dev.Same; dsimp only [partOf_false]) | dsimp only

theorem Dev.restoreOutputs_same {d : Dev} (hk : d.Same gm gf ge gs gn gt r₀) :
    (Dev.restoreOutputs d).Same gm gf ge gs gn gt r₀ := by
  unfold Dev.restoreOutputs
  repeat' first | (with_reducible first | assumption | intro _ | apply Dev.setCommand_same | apply Dev.Same.both | refine foldl_same (fun _ _ _ => ?_) ?_ _ | refine foldl_snd2_same (fun _ _ _ => ?_) ?_ _ | refine foldl_snd_same (fun _ _ _ => ?_) ?_ _ | refine foldl_fst_same (fun _ _ _ => ?_) ?_ _) | (unfold Dev.Same; dsimp only [partOf_false]) | dsimp only

theorem Dev.linksUp_same {d : Dev} (hk : d.Same false false ge gs gn gt r₀) :
    (Dev.linksUp d).Same false false ge gs gn gt r₀ := by
  unfold Dev.linksUp
  repeat' first | (with_reducible first | assumption | intro _ | apply Dev.posLinksUp_same | apply Dev.setFloat_same | apply Dev.saveRead_same | apply Dev.setFd_same | apply Dev.Same.both (gm := false) (gf := false) | refine ite_same ?_ ?_ | refine foldl_same (fun _ _ _ => ?_) ?_ _ | refine foldl_snd2_same (fun _ _ _ => ?_) ?_ _ | refine foldl_snd_same (fun _ _ _ => ?_) ?_ _ | refine foldl_fst_same (fun _ _ _ => ?_) ?_ _) | split | (unfold Dev.Same; dsimp only [partOf_false]) | dsimp only

theorem Dev.startReports_same {d : Dev} (hk : d.Same gm gf ge gs false false r₀) :
    (Dev.startReports d).Same gm gf ge gs false false r₀ := by
  unfold Dev.startReports
  repeat' first | (with_reducible first | assumption | intro _ | apply Dev.setPower_same | apply Dev.reportFallback_same | apply Dev.raise_same | apply Dev.Same.both (gn := false) (gt := false) | refine ite_same ?_ ?_) | split | (unfold Dev.Same; dsimp only [partOf_false]) | dsimp only

theorem Dev.startControl_same {d : Dev} (low : Bool) (hk : d.Same false false ge false false false r₀) :
    (Dev.startControl d low).Same false false ge false false false r₀ := by
  unfold Dev.startControl
  repeat' first | (with_reducible first | assumption | intro _ | apply Dev.linksUp_same | apply Dev.restoreOutputs_same | apply Dev.logLatched_same | apply Dev.setPfw_same | apply Dev.setPower_same | apply Dev.confirmTrial_same | apply Dev.keysStart_same | apply Dev.calAll_same | apply Dev.busStart_same | apply Dev.saveCount_same | apply Dev.putBit_same | apply Dev.put_same | apply Dev.Same.both (gm := false) (gf := false) (gs := false) (gn := false) (gt := false) | refine ite_same ?_ ?_) | split | (unfold Dev.Same; dsimp only [partOf_false]) | dsimp only

theorem Dev.startOutside_same {d : Dev} (hk : d.Same false gf false false false false r₀) :
    (Dev.startOutside d).Same false gf false false false false r₀ := by
  unfold Dev.startOutside
  repeat' first | (with_reducible first | assumption | apply Dev.startReports_same | apply Dev.panelStart_same | apply Dev.applyPortEn_same | apply Dev.put_same | apply Dev.Same.both (gm := false) (ge := false) (gs := false) (gn := false) (gt := false)) | (unfold Dev.Same; dsimp only [partOf_false]) | dsimp only

/-! ### Power -/

theorem Dev.putVolts_same {d : Dev} (vl24 : Nat) (vhold : Nat) (hk : d.Same gm gf ge gs gn gt r₀) :
    (Dev.putVolts d vl24 vhold).Same gm gf ge gs gn gt r₀ := by
  unfold Dev.putVolts
  repeat' first | (with_reducible first | assumption | apply Dev.put_same | apply Dev.Same.both) | (unfold Dev.Same; dsimp only [partOf_false]) | dsimp only

theorem Dev.noteMin_same {d : Dev} (vl24 : Nat) (hk : d.Same gm gf ge gs gn false r₀) :
    (Dev.noteMin d vl24).Same gm gf ge gs gn false r₀ := by
  unfold Dev.noteMin
  repeat' first | (with_reducible first | assumption | apply Dev.setPower_same | apply Dev.put_same | apply Dev.Same.both (gt := false)) | (unfold Dev.Same; dsimp only [partOf_false]) | dsimp only

theorem Dev.followResume_same {d : Dev} (vl24 : Nat) (hk : d.Same gm gf ge gs gn false r₀) :
    (Dev.followResume d vl24).Same gm gf ge gs gn false r₀ := by
  unfold Dev.followResume
  repeat' first | (with_reducible first | assumption | apply Dev.setPower_same | apply Dev.Same.both (gt := false) | refine ite_same ?_ ?_) | split | (unfold Dev.Same; dsimp only [partOf_false]) | dsimp only

theorem Dev.powerDip_same {d : Dev} (entered : Bool) (ticks : Nat) (hk : d.Same gm gf ge gs gn gt r₀) :
    (Dev.powerDip d entered ticks).Same gm gf ge gs gn gt r₀ := by
  unfold Dev.powerDip
  repeat' first | (with_reducible first | assumption | apply Dev.raise_same | apply Dev.Same.both | refine ite_same ?_ ?_) | split | (unfold Dev.Same; dsimp only [partOf_false]) | dsimp only

theorem Dev.warningSave_same {d : Dev} (hk : d.Same false gf ge gs false gt r₀) :
    (Dev.warningSave d).Same false gf ge gs false gt r₀ := by
  unfold Dev.warningSave
  repeat' first | (with_reducible first | assumption | apply Dev.saveStart_same | apply Dev.put_same | apply Dev.Same.both (gm := false) (gn := false) | refine ite_same ?_ ?_) | split | (unfold Dev.Same; dsimp only [partOf_false]) | dsimp only

theorem Dev.dipActs_same {d : Dev} (hk : d.Same gm gf false false false false r₀) :
    (Dev.dipActs d).Same gm gf false false false false r₀ := by
  unfold Dev.dipActs
  repeat' first | (with_reducible first | assumption | apply Dev.setPower_same | apply Dev.abortUpdate_same | apply Dev.fitDip_same | apply Dev.nvmDip_same | apply Dev.panelDip_same | apply Dev.loopStop_same | apply Dev.put_same | apply Dev.Same.both (ge := false) (gs := false) (gn := false) (gt := false)) | (unfold Dev.Same; dsimp only [partOf_false]) | dsimp only

theorem Dev.stopEngines_same {d : Dev} (hk : d.Same gm false false gs false false r₀) :
    (Dev.stopEngines d).Same gm false false gs false false r₀ := by
  unfold Dev.stopEngines
  repeat' first | (with_reducible first | assumption | apply Dev.setPower_same | apply Dev.quiltDip_same | apply Dev.loopDip_same | apply Dev.patDip_same | apply Dev.shuttleDip_same | apply Dev.measDip_same | apply Dev.Same.both (gf := false) (ge := false) (gn := false) (gt := false)) | (unfold Dev.Same; dsimp only [partOf_false]) | dsimp only

theorem Dev.reportLeft_same {d : Dev} (hk : d.Same gm gf ge gs gn false r₀) :
    (Dev.reportLeft d).Same gm gf ge gs gn false r₀ := by
  unfold Dev.reportLeft
  repeat' first | (with_reducible first | assumption | apply Dev.powerDip_same | apply Dev.setPower_same | apply Dev.Same.both (gt := false)) | split | (unfold Dev.Same; dsimp only [partOf_false]) | dsimp only

theorem Dev.enterWarning_same {d : Dev} (vl24 : Nat) (vhold : Nat) (pin : Bool) (hk : d.Same false gf false false false false r₀) :
    (Dev.enterWarning d vl24 vhold pin).Same false gf false false false false r₀ := by
  unfold Dev.enterWarning
  repeat' first | (with_reducible first | assumption | apply Dev.reportLeft_same | apply Dev.dipActs_same | apply Dev.warningSave_same | apply Dev.powerDip_same | apply Dev.noteMin_same | apply Dev.putVolts_same | apply Dev.setPfw_same | apply Dev.setPower_same | apply Dev.saveCount_same | apply Dev.bump_same | apply Dev.put_same | apply Dev.Same.both (gm := false) (ge := false) (gs := false) (gn := false) (gt := false) | refine ite_same ?_ ?_) | split | (unfold Dev.Same; dsimp only [partOf_false]) | dsimp only

theorem Dev.joinWarning_same {d : Dev} (vl24 : Nat) (vhold : Nat) (hk : d.Same gm gf ge gs gn false r₀) :
    (Dev.joinWarning d vl24 vhold).Same gm gf ge gs gn false r₀ := by
  unfold Dev.joinWarning
  repeat' first | (with_reducible first | assumption | apply Dev.powerDip_same | apply Dev.noteMin_same | apply Dev.putVolts_same | apply Dev.setPfw_same | apply Dev.setPower_same | apply Dev.bump_same | apply Dev.Same.both (gt := false) | refine ite_same ?_ ?_) | split | (unfold Dev.Same; dsimp only [partOf_false]) | dsimp only

theorem Dev.warnIfLow_same {d : Dev} (before : Nat) (hk : d.Same false gf false false false false r₀) :
    (Dev.warnIfLow d before).Same false gf false false false false r₀ := by
  unfold Dev.warnIfLow
  repeat' first | (with_reducible first | assumption | apply Dev.enterWarning_same | apply Dev.Same.both (gm := false) (ge := false) (gs := false) (gn := false) (gt := false) | refine ite_same ?_ ?_) | split | (unfold Dev.Same; dsimp only [partOf_false]) | dsimp only

theorem Dev.resumeControl_same {d : Dev} (hk : d.Same gm gf false gs gn false r₀) :
    (Dev.resumeControl d).Same gm gf false gs gn false r₀ := by
  unfold Dev.resumeControl
  repeat' first | (with_reducible first | assumption | apply Dev.reportLeft_same | apply Dev.setPower_same | apply Dev.remoteFetchAll_same | apply Dev.loopBack_same | apply Dev.put_same | apply Dev.Same.both (ge := false) (gt := false)) | (unfold Dev.Same; dsimp only [partOf_false]) | dsimp only

theorem Dev.writePwrClr_same {d : Dev} (v : Nat) (hk : d.Same gm gf ge gs gn gt r₀) :
    (Dev.writePwrClr d v).Same gm gf ge gs gn gt r₀ := by
  unfold Dev.writePwrClr
  repeat' first | (with_reducible first | assumption | apply Dev.put_same | apply Dev.Same.both | refine ite_same ?_ ?_) | split | (unfold Dev.Same; dsimp only [partOf_false]) | dsimp only

theorem Dev.pmbusFail_same {d : Dev} (command : Nat) (cause : Nat) (hk : d.Same gm gf ge gs gn false r₀) :
    (Dev.pmbusFail d command cause).Same gm gf ge gs gn false r₀ := by
  unfold Dev.pmbusFail
  repeat' first | (with_reducible first | assumption | apply Dev.pmbusStop_same | apply Dev.setPower_same | apply Dev.Same.both (gt := false) | refine ite_same ?_ ?_) | split | (unfold Dev.Same; dsimp only [partOf_false]) | dsimp only

theorem Dev.pmbusTry_same {d : Dev} (res : Sys2Proof.PmbusResult) (mode : Sys2Proof.PmbusResult) (hk : d.Same gm gf ge gs gn false r₀) :
    (Dev.pmbusTry d res mode).Same gm gf ge gs gn false r₀ := by
  unfold Dev.pmbusTry
  repeat' first | (with_reducible first | assumption | apply Dev.pmbusEvent_same | apply Dev.setPower_same | apply Dev.emit_same | apply Dev.putBit_same | apply Dev.put_same | apply Dev.Same.both (gt := false) | refine ite_same ?_ ?_) | split | (unfold Dev.Same; dsimp only [partOf_false]) | dsimp only

/-! ### Freeze -/

theorem Dev.setFrz_same {d : Dev} (x : FreezeSt) (hk : d.Same gm gf ge gs gn gt r₀) :
    (Dev.setFrz d x).Same gm gf ge gs gn gt r₀ := by
  unfold Dev.setFrz
  repeat' first | (with_reducible first | assumption | apply Dev.Same.both) | (unfold Dev.Same; dsimp only [partOf_false]) | dsimp only

theorem Dev.askFreeze_same {d : Dev} (cause : Nat) (quilt : Bool) (desc : Option Nat) (hk : d.Same gm gf ge gs gn gt r₀) :
    (Dev.askFreeze d cause quilt desc).Same gm gf ge gs gn gt r₀ := by
  unfold Dev.askFreeze
  repeat' first | (with_reducible first | assumption | apply Dev.setFrz_same | apply Dev.Same.both | refine ite_same ?_ ?_) | split | (unfold Dev.Same; dsimp only [partOf_false]) | dsimp only

theorem bodyDbgFreeze_same (id : Nat) (x : Sys2Proof.Desc) {d : Dev} (hk : d.Same gm gf ge gs gn gt r₀) :
    (bodyDbgFreeze id x d).Same gm gf ge gs gn gt r₀ := by
  unfold bodyDbgFreeze
  repeat' first | (with_reducible first | assumption | apply Dev.askFreeze_same | apply Dev.fail_same | apply Dev.Same.both | refine ite_same ?_ ?_) | split | (unfold Dev.Same; dsimp only [partOf_false]) | dsimp only

theorem Dev.freezeWord_same {d : Dev} (hk : d.Same gm gf ge gs gn gt r₀) :
    (Dev.freezeWord d).Same gm gf ge gs gn gt r₀ := by
  unfold Dev.freezeWord
  repeat' first | (with_reducible first | assumption | apply Dev.setFrz_same | apply Dev.floodQuilt_same | apply Dev.Same.both | refine ite_same ?_ ?_) | split | (unfold Dev.Same; dsimp only [partOf_false]) | dsimp only

theorem Dev.askThaw_same {d : Dev} (cause : Nat) (hk : d.Same gm gf ge gs gn gt r₀) :
    (Dev.askThaw d cause).Same gm gf ge gs gn gt r₀ := by
  unfold Dev.askThaw
  repeat' first | (with_reducible first | assumption | apply Dev.setFrz_same | apply Dev.floodQuilt_same | apply Dev.Same.both | refine ite_same ?_ ?_) | split | (unfold Dev.Same; dsimp only [partOf_false]) | dsimp only

theorem Dev.freeRead_same {d : Dev} (hk : d.Same gm gf ge gs gn gt r₀) :
    (Dev.freeRead d).2.Same gm gf ge gs gn gt r₀ := by
  unfold Dev.freeRead
  repeat' first | (with_reducible first | assumption | apply Dev.nextFree_same | apply Dev.Same.both) | (unfold Dev.Same; dsimp only [partOf_false]) | dsimp only

theorem Dev.freeRead_same_of {d : Dev} {r0 : Nat} {e0 : Dev} (hk : d.Same gm gf ge gs gn gt r₀) (eq : (Dev.freeRead d) = (r0, e0)) : e0.Same gm gf ge gs gn gt r₀ := by
  have k := @Dev.freeRead_same; grind

theorem Dev.roValue_same {d : Dev} (space : Nat) (index : Nat) (hk : d.Same gm gf ge gs gn gt r₀) :
    (Dev.roValue d space index).2.Same gm gf ge gs gn gt r₀ := by
  unfold Dev.roValue
  repeat' first | (with_reducible first | assumption | refine Dev.freeRead_same_of ?_ (by assumption) | apply Dev.freeRead_same | apply Dev.Same.both | refine ite_same ?_ ?_) | split | (unfold Dev.Same; dsimp only [partOf_false]) | dsimp only

theorem Dev.roValue_same_of {d : Dev} {space : Nat} {index : Nat} {r0 : Nat} {e0 : Dev} (hk : d.Same gm gf ge gs gn gt r₀) (eq : (Dev.roValue d space index) = (r0, e0)) : e0.Same gm gf ge gs gn gt r₀ := by
  have k := @Dev.roValue_same; grind

theorem Dev.readOut_same {d : Dev} (space : Nat) (index : Nat) (hk : d.Same gm gf ge gs gn gt r₀) :
    (Dev.readOut d space index).2.Same gm gf ge gs gn gt r₀ := by
  unfold Dev.readOut
  repeat' first | (with_reducible first | assumption | apply Dev.roValue_same | apply Dev.put_same | apply Dev.Same.both | refine ite_same ?_ ?_) | split | (unfold Dev.Same; dsimp only [partOf_false]) | dsimp only

theorem Dev.readOut_same_of {d : Dev} {space : Nat} {index : Nat} {r0 : Nat} {e0 : Dev} (hk : d.Same gm gf ge gs gn gt r₀) (eq : (Dev.readOut d space index) = (r0, e0)) : e0.Same gm gf ge gs gn gt r₀ := by
  have k := @Dev.readOut_same; grind

/-! ### RegWrite -/

theorem Dev.writeGen_same {d : Dev} (off : Nat) (v : Nat) (ok : Nat → Bool) (reject : Dev → Dev) (after : Nat → Dev → Dev) (hk : d.Same gm gf ge gs gn gt r₀) (hfreject : ∀ (x0 : Dev), x0.Same gm gf ge gs gn gt r₀ → (reject x0).Same gm gf ge gs gn gt r₀) (hfafter : ∀ (x0 : Nat) (x1 : Dev), x1.Same gm gf ge gs gn gt r₀ → (after x0 x1).Same gm gf ge gs gn gt r₀) :
    (Dev.writeGen d off v ok reject after).Same gm gf ge gs gn gt r₀ := by
  unfold Dev.writeGen
  repeat' first | (with_reducible first | assumption | intro _ | apply Dev.writeFlds_same | apply Dev.put_same | apply hfreject | apply hfafter | apply Dev.Same.both | refine ite_same ?_ ?_ | refine foldl_same (fun _ _ _ => ?_) ?_ _ | refine foldl_snd2_same (fun _ _ _ => ?_) ?_ _ | refine foldl_snd_same (fun _ _ _ => ?_) ?_ _ | refine foldl_fst_same (fun _ _ _ => ?_) ?_ _) | split | (unfold Dev.Same; dsimp only [partOf_false]) | dsimp only

theorem Dev.writePlain_same {d : Dev} (off : Nat) (v : Nat) (reject : Dev → Dev) (hk : d.Same gm gf ge gs gn gt r₀) (hfreject : ∀ (x0 : Dev), x0.Same gm gf ge gs gn gt r₀ → (reject x0).Same gm gf ge gs gn gt r₀) :
    (Dev.writePlain d off v reject).Same gm gf ge gs gn gt r₀ := by
  unfold Dev.writePlain
  repeat' first | (with_reducible first | assumption | intro _ | apply Dev.writeGen_same | apply hfreject | apply Dev.Same.both) | (unfold Dev.Same; dsimp only [partOf_false]) | dsimp only

theorem Dev.writeGlobal_same {d : Dev} (off : Nat) (v : Nat) (hk : d.Same false gf false false false false r₀) :
    (Dev.writeGlobal d off v).Same false gf false false false false r₀ := by
  unfold Dev.writeGlobal
  repeat' first | (with_reducible first | assumption | intro _ | apply Dev.writePlain_same | apply Dev.writePwrClr_same | apply Dev.warnIfLow_same | apply Dev.showEffective_same | apply Dev.writeMemerrClr_same | apply Dev.writeSeal_same | apply Dev.writeBlsel_same | apply Dev.put_same | apply Dev.Same.both (gm := false) (ge := false) (gs := false) (gn := false) (gt := false) | refine ite_same ?_ ?_) | split | (unfold Dev.Same; dsimp only [partOf_false]) | dsimp only

theorem Dev.writeBus_same {d : Dev} (off : Nat) (v : Nat) (hk : d.Same gm gf ge false gn gt r₀) :
    (Dev.writeBus d off v).Same gm gf ge false gn gt r₀ := by
  unfold Dev.writeBus
  repeat' first | (with_reducible first | assumption | intro _ | apply Dev.writeGen_same | apply Dev.busWritten_same | apply Dev.writeBusCfg_same | apply Dev.busReject_same | apply Dev.Same.both (gs := false) | refine ite_same ?_ ?_) | split | (unfold Dev.Same; dsimp only [partOf_false]) | dsimp only

theorem Dev.writeRingCtrl_same {d : Dev} (r : Nat) (v : Nat) (hk : d.Same gm gf ge gs gn gt r₀) :
    (Dev.writeRingCtrl d r v).Same gm gf ge gs gn gt r₀ := by
  unfold Dev.writeRingCtrl
  repeat' first | (with_reducible first | assumption | apply Dev.fenceClear_same | apply Dev.ringDisable_same | apply Dev.ringEnable_same | apply Dev.Same.both | refine ite_same ?_ ?_) | split | (unfold Dev.Same; dsimp only [partOf_false]) | dsimp only

theorem Dev.writeMsix_same {d : Dev} (off : Nat) (v : Nat) (hk : d.Same gm gf ge gs gn gt r₀) :
    (Dev.writeMsix d off v).Same gm gf ge gs gn gt r₀ := by
  unfold Dev.writeMsix
  repeat' first | (with_reducible first | assumption | apply Dev.emit_same | apply Dev.put_same | apply Dev.Same.both | refine ite_same ?_ ?_) | split | (unfold Dev.Same; dsimp only [partOf_false]) | dsimp only

theorem Dev.writeHostq_same {d : Dev} (off : Nat) (v : Nat) (hk : d.Same gm gf ge gs gn gt r₀) :
    (Dev.writeHostq d off v).Same gm gf ge gs gn gt r₀ := by
  unfold Dev.writeHostq
  repeat' first | (with_reducible first | assumption | intro _ | apply Dev.writeMsix_same | apply Dev.writeRingCtrl_same | apply Dev.writePlain_same | apply Dev.writeGen_same | apply Dev.writeWdog_same | apply Dev.hostqReject_same | apply Dev.Same.both | refine ite_same ?_ ?_) | split | (unfold Dev.Same; dsimp only [partOf_false]) | dsimp only

theorem Dev.writeQuilt_same {d : Dev} (off : Nat) (v : Nat) (hk : d.Same false gf false gs gn gt r₀) :
    (Dev.writeQuilt d off v).Same false gf false gs gn gt r₀ := by
  unfold Dev.writeQuilt
  repeat' first | (with_reducible first | assumption | intro _ | apply Dev.writeGen_same | apply Dev.writePortEq_same | apply Dev.writeQuiltCfg_same | apply Dev.quiltReject_same | apply Dev.applyLos_same | apply Dev.skipShort_same | apply Dev.Same.both (gm := false) (ge := false) | refine ite_same ?_ ?_) | split | (unfold Dev.Same; dsimp only [partOf_false]) | dsimp only

theorem Dev.writeMeas_same {d : Dev} (off : Nat) (v : Nat) (hk : d.Same gm false ge gs gn gt r₀) :
    (Dev.writeMeas d off v).Same gm false ge gs gn gt r₀ := by
  unfold Dev.writeMeas
  repeat' first | (with_reducible first | assumption | intro _ | apply Dev.writeGen_same | apply Dev.writeConvCtrl_same | apply Dev.writeUiGainSh_same | apply Dev.writeUiMode_same | apply Dev.measReject_same | apply Dev.Same.both (gf := false) | refine ite_same ?_ ?_ | refine foldl_same (fun _ _ _ => ?_) ?_ _ | refine foldl_snd2_same (fun _ _ _ => ?_) ?_ _ | refine foldl_snd_same (fun _ _ _ => ?_) ?_ _ | refine foldl_fst_same (fun _ _ _ => ?_) ?_ _) | split | (unfold Dev.Same; dsimp only [partOf_false]) | dsimp only

theorem Dev.writePanel_same {d : Dev} (off : Nat) (v : Nat) (hk : d.Same gm gf ge false gn gt r₀) :
    (Dev.writePanel d off v).Same gm gf ge false gn gt r₀ := by
  unfold Dev.writePanel
  repeat' first | (with_reducible first | assumption | intro _ | apply Dev.writeGen_same | apply Dev.writePanelCfg_same | apply Dev.put_same | apply Dev.Same.both (gs := false) | refine ite_same ?_ ?_) | split | (unfold Dev.Same; dsimp only [partOf_false]) | dsimp only

theorem Dev.writeKeys_same {d : Dev} (off : Nat) (v : Nat) (hk : d.Same gm gf ge false gn gt r₀) :
    (Dev.writeKeys d off v).Same gm gf ge false gn gt r₀ := by
  unfold Dev.writeKeys
  repeat' first | (with_reducible first | assumption | intro _ | apply Dev.writeGen_same | apply Dev.keysCfgWritten_same | apply Dev.writeKeysIrq_same | apply Dev.put_same | apply Dev.Same.both (gs := false) | refine ite_same ?_ ?_) | split | (unfold Dev.Same; dsimp only [partOf_false]) | dsimp only

theorem Dev.writeNvm_same {d : Dev} (off : Nat) (v : Nat) (hk : d.Same gm gf ge gs gn gt r₀) :
    (Dev.writeNvm d off v).Same gm gf ge gs gn gt r₀ := by
  unfold Dev.writeNvm
  repeat' first | (with_reducible first | assumption | intro _ | apply Dev.writePlain_same | apply Dev.writeNvmClr_same | apply Dev.put_same | apply Dev.Same.both | refine ite_same ?_ ?_) | split | (unfold Dev.Same; dsimp only [partOf_false]) | dsimp only

theorem Dev.writeDbg_same {d : Dev} (off : Nat) (v : Nat) (hk : d.Same gm gf ge gs gn gt r₀) :
    (Dev.writeDbg d off v).Same gm gf ge gs gn gt r₀ := by
  unfold Dev.writeDbg
  repeat' first | (with_reducible first | assumption | intro _ | apply Dev.writePlain_same | apply Dev.askThaw_same | apply Dev.Same.both | refine ite_same ?_ ?_) | split | (unfold Dev.Same; dsimp only [partOf_false]) | dsimp only

theorem Dev.writeFitsec_same {d : Dev} (off : Nat) (v : Nat) (hk : d.Same false gf ge gs false false r₀) :
    (Dev.writeFitsec d off v).Same false gf ge gs false false r₀ := by
  unfold Dev.writeFitsec
  repeat' first | (with_reducible first | assumption | intro _ | apply Dev.writeDbg_same | apply Dev.writeGen_same | apply Dev.writeFwRec_same | apply Dev.put_same | apply Dev.Same.both (gm := false) (gn := false) (gt := false) | refine ite_same ?_ ?_) | split | (unfold Dev.Same; dsimp only [partOf_false]) | dsimp only

theorem Dev.bar4Put_same {d : Dev} (off : Nat) (bs : List Nat) (hk : d.Same false gf ge gs gn gt r₀) :
    (Dev.bar4Put d off bs).Same false gf ge gs gn gt r₀ := by
  unfold Dev.bar4Put
  repeat' first | (with_reducible first | assumption | intro _ | apply Dev.memWrite_same | apply Dev.Same.both (gm := false) | refine ite_same ?_ ?_ | refine foldl_same (fun _ _ _ => ?_) ?_ _ | refine foldl_snd2_same (fun _ _ _ => ?_) ?_ _ | refine foldl_snd_same (fun _ _ _ => ?_) ?_ _ | refine foldl_fst_same (fun _ _ _ => ?_) ?_ _) | split | (unfold Dev.Same; dsimp only [partOf_false]) | dsimp only

/-! ### Descriptors -/

theorem Dev.patLoadChecked_same {d : Dev} (id : Nat) (x : Sys2Proof.Desc) (hk : d.Same false gf false gs false gt r₀) :
    (Dev.patLoadChecked d id x).Same false gf false gs false gt r₀ := by
  unfold Dev.patLoadChecked
  repeat' first | (with_reducible first | assumption | apply Dev.askWrite_same | apply Dev.patChecked_same | apply Dev.Same.both (gm := false) (ge := false) (gn := false) | refine ite_same ?_ ?_) | split | (unfold Dev.Same; dsimp only [partOf_false]) | dsimp only

/-! ### Thaw -/

theorem Dev.freezeEvents_same {d : Dev} (r : FreezeReq) (asked : Nat) (gone : Nat) (ms : Nat) (hk : d.Same gm gf ge gs gn gt r₀) :
    (Dev.freezeEvents d r asked gone ms).Same gm gf ge gs gn gt r₀ := by
  unfold Dev.freezeEvents
  repeat' first | (with_reducible first | assumption | apply Dev.raise_same | apply Dev.Same.both | refine ite_same ?_ ?_) | split | (unfold Dev.Same; dsimp only [partOf_false]) | dsimp only

theorem Dev.retrainThaw_same {d : Dev} (p : Nat) (hk : d.Same false gf false gs gn gt r₀) :
    (Dev.retrainThaw d p).Same false gf false gs gn gt r₀ := by
  unfold Dev.retrainThaw
  repeat' first | (with_reducible first | assumption | apply Dev.enterTraining_same | apply Dev.leaveUp_same | apply Dev.Same.both (gm := false) (ge := false) | refine ite_same ?_ ?_) | split | (unfold Dev.Same; dsimp only [partOf_false]) | dsimp only

theorem Dev.thawResume_same {d : Dev} (hk : d.Same gm gf false false false false r₀) :
    (Dev.thawResume d).Same gm gf false false false false r₀ := by
  unfold Dev.thawResume
  repeat' first | (with_reducible first | assumption | apply Dev.dipActs_same | apply Dev.kickWrites_same | apply Dev.keysThaw_same | apply Dev.showFrontlight_same | apply Dev.remoteFetchAll_same | apply Dev.loopBack_same | apply Dev.busThaw_same | apply Dev.Same.both (ge := false) (gs := false) (gn := false) (gt := false) | refine ite_same ?_ ?_) | split | (unfold Dev.Same; dsimp only [partOf_false]) | dsimp only

theorem Dev.thawMaster_same {d : Dev} (dev : Nat) (hk : d.Same gm gf ge gs gn gt r₀) :
    (Dev.thawMaster d dev).Same gm gf ge gs gn gt r₀ := by
  unfold Dev.thawMaster
  repeat' first | (with_reducible first | assumption | apply Dev.followHops_same | apply Dev.raise_same | apply Dev.put_same | apply Dev.Same.both | refine ite_same ?_ ?_) | split | (unfold Dev.Same; dsimp only [partOf_false]) | dsimp only

/-! ### Tick -/

theorem Dev.routeWord_same {d : Dev} (p : Produced) (hk : d.Same gm gf ge gs gn gt r₀) :
    (Dev.routeWord d p).Same gm gf ge gs gn gt r₀ := by
  unfold Dev.routeWord
  repeat' first | (with_reducible first | assumption | apply Dev.touchHeld_same | apply Dev.deliver_same | apply Dev.put_same | apply Dev.Same.both | refine ite_same ?_ ?_) | split | (unfold Dev.Same; dsimp only [partOf_false]) | dsimp only

theorem Dev.route_same {d : Dev} (hk : d.Same gm gf ge gs gn gt r₀) :
    (Dev.route d).2.Same gm gf ge gs gn gt r₀ := by
  unfold Dev.route
  repeat' first | (with_reducible first | assumption | intro _ | apply Dev.routeWord_same | apply Dev.Same.both | refine foldl_same (fun _ _ _ => ?_) ?_ _ | refine foldl_snd2_same (fun _ _ _ => ?_) ?_ _ | refine foldl_snd_same (fun _ _ _ => ?_) ?_ _ | refine foldl_fst_same (fun _ _ _ => ?_) ?_ _) | (unfold Dev.Same; dsimp only [partOf_false]) | dsimp only

theorem Dev.route_same_of {d : Dev} {r0 : List Nat} {e0 : Dev} (hk : d.Same gm gf ge gs gn gt r₀) (eq : (Dev.route d) = (r0, e0)) : e0.Same gm gf ge gs gn gt r₀ := by
  have k := @Dev.route_same; grind

theorem Dev.moveEngines_same {d : Dev} (move : Nat → Nat) (by_ : Int) (hk : d.Same gm false false gs gn gt r₀) :
    (Dev.moveEngines d move by_).Same gm false false gs gn gt r₀ := by
  unfold Dev.moveEngines
  repeat' first | (with_reducible first | assumption | intro _ | apply Dev.Same.both (gf := false) (ge := false)) | (unfold Dev.Same; dsimp only [partOf_false]) | dsimp only

theorem Dev.moveQuilt_same {d : Dev} (move : Nat → Nat) (hk : d.Same gm gf ge gs gn gt r₀) :
    (Dev.moveQuilt d move).Same gm gf ge gs gn gt r₀ := by
  unfold Dev.moveQuilt
  repeat' first | (with_reducible first | assumption | intro _ | apply Dev.Same.both | refine ite_same ?_ ?_) | split | (unfold Dev.Same; dsimp only [partOf_false]) | dsimp only

theorem Dev.moveBuses_same {d : Dev} (move : Nat → Nat) (hk : d.Same gm gf ge false gn gt r₀) :
    (Dev.moveBuses d move).Same gm gf ge false gn gt r₀ := by
  unfold Dev.moveBuses
  repeat' first | (with_reducible first | assumption | intro _ | apply Dev.Same.both (gs := false) | refine ite_same ?_ ?_) | split | (unfold Dev.Same; dsimp only [partOf_false]) | dsimp only

theorem Dev.moveRest_same {d : Dev} (move : Nat → Nat) (hk : d.Same gm gf false false false false r₀) :
    (Dev.moveRest d move).Same gm gf false false false false r₀ := by
  unfold Dev.moveRest
  repeat' first | (with_reducible first | assumption | intro _ | apply Dev.Same.both (ge := false) (gs := false) (gn := false) (gt := false) | refine ite_same ?_ ?_) | split | (unfold Dev.Same; dsimp only [partOf_false]) | dsimp only

theorem Dev.timeStep_same {d : Dev} (hk : d.Same gm false false false false false r₀) :
    (Dev.timeStep d).Same gm false false false false false r₀ := by
  unfold Dev.timeStep
  repeat' first | (with_reducible first | assumption | intro _ | apply Dev.moveRest_same | apply Dev.moveBuses_same | apply Dev.moveQuilt_same | apply Dev.moveEngines_same | apply Dev.patPassed_same | apply Dev.raise_same | apply Dev.Same.both (gf := false) (ge := false) (gs := false) (gn := false) (gt := false) | refine ite_same ?_ ?_) | split | (unfold Dev.Same; dsimp only [partOf_false]) | dsimp only

theorem Dev.countSeconds_same {d : Dev} (hk : d.Same false gf ge gs gn gt r₀) :
    (Dev.countSeconds d).Same false gf ge gs gn gt r₀ := by
  unfold Dev.countSeconds
  repeat' first | (with_reducible first | assumption | intro _ | apply Dev.saveCount_same | apply Dev.Same.both (gm := false) | refine ite_same ?_ ?_ | refine foldl_same (fun _ _ _ => ?_) ?_ _ | refine foldl_snd2_same (fun _ _ _ => ?_) ?_ _ | refine foldl_snd_same (fun _ _ _ => ?_) ?_ _ | refine foldl_fst_same (fun _ _ _ => ?_) ?_ _) | split | (unfold Dev.Same; dsimp only [partOf_false]) | dsimp only

theorem Dev.startStep14_same {d : Dev} (hk : d.Same gm gf ge gs gn gt r₀) :
    (Dev.startStep14 d).Same gm gf ge gs gn gt r₀ := by
  unfold Dev.startStep14
  repeat' first | (with_reducible first | assumption | apply Dev.put_same | apply Dev.Same.both | refine ite_same ?_ ?_) | split | (unfold Dev.Same; dsimp only [partOf_false]) | dsimp only

theorem Dev.sendFrames_same {d : Dev} (hk : d.Same gm gf ge gs gn gt r₀) :
    (Dev.sendFrames d).Same gm gf ge gs gn gt r₀ := by
  unfold Dev.sendFrames
  repeat' first | (with_reducible first | assumption | apply Dev.sendDown_same | apply Dev.Same.both) | (unfold Dev.Same; dsimp only [partOf_false]) | dsimp only

end Sys2Proof.Machine
end

