-- ==== Sys2Proof/Laws/SameCommands.lean ====
section
/-! SUPPORT. The kinds of state that each command leaves as they are. -/

namespace Sys2Proof.Machine
open Sys2Proof

theorem Dev.Same.refl (gm gf ge gs gn gt : Bool) (d : Dev) : d.Same gm gf ge gs gn gt d := by
  refine ⟨?_, ?_, ?_, ?_, ?_, ?_⟩
  · cases gm <;> simp [partOf]
  · cases gf <;> simp [partOf]
  · cases ge <;> simp [partOf]
  · cases gs <;> simp [partOf]
  · cases gn <;> simp [partOf]
  · cases gt <;> simp [partOf]

theorem onDev_same {gm gf ge gs gn gt : Bool} {s t : State} {f : Dev → Dev}
    (hf : ∀ d : Dev, d.Same gm gf ge gs gn gt s.dev → (f d).Same gm gf ge gs gn gt s.dev) (h : s.onDev f = .next t) :
    t.dev.Same gm gf ge gs gn gt s.dev := by
  unfold State.onDev at h
  injection h with h
  subst h
  exact hf _ (Dev.begin_same (Dev.Same.refl gm gf ge gs gn gt s.dev))

theorem execNop_same {s₀ s₁ : State} {q} {d} (h : execNop q d s₀ = .next s₁) :
    s₁.dev.Same true true true true true true s₀.dev := by
  refine onDev_same ?_ h
  intro d hd
  repeat' first | (with_reducible first | assumption | intro _ | apply bodyNop_same | apply Dev.submit_same | apply Dev.Same.both) | (unfold Dev.Same; dsimp only [partOf_false]) | dsimp only

theorem execMeasCal_same {s₀ s₁ : State} {q} {d} (h : execMeasCal q d s₀ = .next s₁) :
    s₁.dev.Same true false true true true true s₀.dev := by
  refine onDev_same ?_ h
  intro d hd
  repeat' first | (with_reducible first | assumption | intro _ | apply bodyMeasCal_same | apply Dev.submit_same | apply Dev.Same.both (gf := false)) | (unfold Dev.Same; dsimp only [partOf_false]) | dsimp only

theorem execMeasUrgent_same {s₀ s₁ : State} {q} {d} (h : execMeasUrgent q d s₀ = .next s₁) :
    s₁.dev.Same true true true true true true s₀.dev := by
  refine onDev_same ?_ h
  intro d hd
  repeat' first | (with_reducible first | assumption | intro _ | apply bodyMeasUrgent_same | apply Dev.submit_same | apply Dev.Same.both) | (unfold Dev.Same; dsimp only [partOf_false]) | dsimp only

theorem execMeasAbort_same {s₀ s₁ : State} {q} {d} (h : execMeasAbort q d s₀ = .next s₁) :
    s₁.dev.Same true false true true true true s₀.dev := by
  refine onDev_same ?_ h
  intro d hd
  repeat' first | (with_reducible first | assumption | intro _ | apply bodyMeasAbort_same | apply Dev.submit_same | apply Dev.Same.both (gf := false)) | (unfold Dev.Same; dsimp only [partOf_false]) | dsimp only

theorem execMeasCapture_same {s₀ s₁ : State} {q} {d} (h : execMeasCapture q d s₀ = .next s₁) :
    s₁.dev.Same true false true true true true s₀.dev := by
  refine onDev_same ?_ h
  intro d hd
  repeat' first | (with_reducible first | assumption | intro _ | apply bodyMeasCapture_same | apply Dev.submit_same | apply Dev.Same.both (gf := false)) | (unfold Dev.Same; dsimp only [partOf_false]) | dsimp only

theorem execDioForce_same {s₀ s₁ : State} {q} {d} (h : execDioForce q d s₀ = .next s₁) :
    s₁.dev.Same true true true true true true s₀.dev := by
  refine onDev_same ?_ h
  intro d hd
  repeat' first | (with_reducible first | assumption | intro _ | apply bodyDioForce_same | apply Dev.submit_same | apply Dev.Same.both) | (unfold Dev.Same; dsimp only [partOf_false]) | dsimp only

theorem execDoClear_same {s₀ s₁ : State} {q} {d} (h : execDoClear q d s₀ = .next s₁) :
    s₁.dev.Same true true true true true true s₀.dev := by
  refine onDev_same ?_ h
  intro d hd
  repeat' first | (with_reducible first | assumption | intro _ | apply bodyDoClear_same | apply Dev.submit_same | apply Dev.Same.both) | (unfold Dev.Same; dsimp only [partOf_false]) | dsimp only

theorem execDarkTestNow_same {s₀ s₁ : State} {q} {d} (h : execDarkTestNow q d s₀ = .next s₁) :
    s₁.dev.Same true true true true true true s₀.dev := by
  refine onDev_same ?_ h
  intro d hd
  repeat' first | (with_reducible first | assumption | intro _ | apply bodyDarkTestNow_same | apply Dev.submit_same | apply Dev.Same.both) | (unfold Dev.Same; dsimp only [partOf_false]) | dsimp only

theorem execFieldResume_same {s₀ s₁ : State} {q} {d} (h : execFieldResume q d s₀ = .next s₁) :
    s₁.dev.Same true true true true true true s₀.dev := by
  refine onDev_same ?_ h
  intro d hd
  repeat' first | (with_reducible first | assumption | intro _ | apply bodyFieldResume_same | apply Dev.submit_same | apply Dev.Same.both) | (unfold Dev.Same; dsimp only [partOf_false]) | dsimp only

theorem execPosPreset_same {s₀ s₁ : State} {q} {d} (h : execPosPreset q d s₀ = .next s₁) :
    s₁.dev.Same true true true true true true s₀.dev := by
  refine onDev_same ?_ h
  intro d hd
  repeat' first | (with_reducible first | assumption | intro _ | apply bodyPosPreset_same | apply Dev.submit_same | apply Dev.Same.both) | (unfold Dev.Same; dsimp only [partOf_false]) | dsimp only

theorem execPosCheck_same {s₀ s₁ : State} {q} {d} (h : execPosCheck q d s₀ = .next s₁) :
    s₁.dev.Same true true true true true true s₀.dev := by
  refine onDev_same ?_ h
  intro d hd
  repeat' first | (with_reducible first | assumption | intro _ | apply bodyPosCheck_same | apply Dev.submit_same | apply Dev.Same.both) | (unfold Dev.Same; dsimp only [partOf_false]) | dsimp only

theorem execEmuForce_same {s₀ s₁ : State} {q} {d} (h : execEmuForce q d s₀ = .next s₁) :
    s₁.dev.Same true true true true true true s₀.dev := by
  refine onDev_same ?_ h
  intro d hd
  repeat' first | (with_reducible first | assumption | intro _ | apply bodyEmuForce_same | apply Dev.submit_same | apply Dev.Same.both) | (unfold Dev.Same; dsimp only [partOf_false]) | dsimp only

theorem execPosAbort_same {s₀ s₁ : State} {q} {d} (h : execPosAbort q d s₀ = .next s₁) :
    s₁.dev.Same true true true true true true s₀.dev := by
  refine onDev_same ?_ h
  intro d hd
  repeat' first | (with_reducible first | assumption | intro _ | apply bodyPosAbort_same | apply Dev.submit_same | apply Dev.Same.both) | (unfold Dev.Same; dsimp only [partOf_false]) | dsimp only

theorem execPatLoad_same {s₀ s₁ : State} {q} {d} (h : execPatLoad q d s₀ = .next s₁) :
    s₁.dev.Same true true false true true true s₀.dev := by
  refine onDev_same ?_ h
  intro d hd
  repeat' first | (with_reducible first | assumption | intro _ | apply bodyPatLoad_same | apply Dev.submit_same | apply Dev.Same.both (ge := false)) | (unfold Dev.Same; dsimp only [partOf_false]) | dsimp only

theorem execPatPredict_same {s₀ s₁ : State} {q} {d} (h : execPatPredict q d s₀ = .next s₁) :
    s₁.dev.Same true true false true true true s₀.dev := by
  refine onDev_same ?_ h
  intro d hd
  repeat' first | (with_reducible first | assumption | intro _ | apply bodyPatPredict_same | apply Dev.submit_same | apply Dev.Same.both (ge := false)) | (unfold Dev.Same; dsimp only [partOf_false]) | dsimp only

theorem execPatAbort_same {s₀ s₁ : State} {q} {d} (h : execPatAbort q d s₀ = .next s₁) :
    s₁.dev.Same true true false true true true s₀.dev := by
  refine onDev_same ?_ h
  intro d hd
  repeat' first | (with_reducible first | assumption | intro _ | apply bodyPatAbort_same | apply Dev.submit_same | apply Dev.Same.both (ge := false)) | (unfold Dev.Same; dsimp only [partOf_false]) | dsimp only

theorem execPatReset_same {s₀ s₁ : State} {q} {d} (h : execPatReset q d s₀ = .next s₁) :
    s₁.dev.Same false true false true false true s₀.dev := by
  refine onDev_same ?_ h
  intro d hd
  repeat' first | (with_reducible first | assumption | intro _ | apply bodyPatReset_same | apply Dev.submit_same | apply Dev.Same.both (gm := false) (ge := false) (gn := false)) | (unfold Dev.Same; dsimp only [partOf_false]) | dsimp only

theorem execLoopSet_same {s₀ s₁ : State} {q} {d} (h : execLoopSet q d s₀ = .next s₁) :
    s₁.dev.Same true true false true false true s₀.dev := by
  refine onDev_same ?_ h
  intro d hd
  repeat' first | (with_reducible first | assumption | intro _ | apply bodyLoopSet_same | apply Dev.submit_same | apply Dev.Same.both (ge := false) (gn := false)) | (unfold Dev.Same; dsimp only [partOf_false]) | dsimp only

theorem execLoopRemove_same {s₀ s₁ : State} {q} {d} (h : execLoopRemove q d s₀ = .next s₁) :
    s₁.dev.Same true true false true true true s₀.dev := by
  refine onDev_same ?_ h
  intro d hd
  repeat' first | (with_reducible first | assumption | intro _ | apply bodyLoopRemove_same | apply Dev.submit_same | apply Dev.Same.both (ge := false)) | (unfold Dev.Same; dsimp only [partOf_false]) | dsimp only

theorem execLoopMode_same {s₀ s₁ : State} {q} {d} (h : execLoopMode q d s₀ = .next s₁) :
    s₁.dev.Same true true false true true true s₀.dev := by
  refine onDev_same ?_ h
  intro d hd
  repeat' first | (with_reducible first | assumption | intro _ | apply bodyLoopMode_same | apply Dev.submit_same | apply Dev.Same.both (ge := false)) | (unfold Dev.Same; dsimp only [partOf_false]) | dsimp only

theorem execLoopHold_same {s₀ s₁ : State} {q} {d} (h : execLoopHold q d s₀ = .next s₁) :
    s₁.dev.Same true true false true true true s₀.dev := by
  refine onDev_same ?_ h
  intro d hd
  repeat' first | (with_reducible first | assumption | intro _ | apply bodyLoopHold_same | apply Dev.submit_same | apply Dev.Same.both (ge := false)) | (unfold Dev.Same; dsimp only [partOf_false]) | dsimp only

theorem execLoopClear_same {s₀ s₁ : State} {q} {d} (h : execLoopClear q d s₀ = .next s₁) :
    s₁.dev.Same true true false true true true s₀.dev := by
  refine onDev_same ?_ h
  intro d hd
  repeat' first | (with_reducible first | assumption | intro _ | apply bodyLoopClear_same | apply Dev.submit_same | apply Dev.Same.both (ge := false)) | (unfold Dev.Same; dsimp only [partOf_false]) | dsimp only

theorem execChalkArm_same {s₀ s₁ : State} {q} {d} (h : execChalkArm q d s₀ = .next s₁) :
    s₁.dev.Same true true false true true true s₀.dev := by
  refine onDev_same ?_ h
  intro d hd
  repeat' first | (with_reducible first | assumption | intro _ | apply bodyChalkArm_same | apply Dev.submit_same | apply Dev.Same.both (ge := false)) | (unfold Dev.Same; dsimp only [partOf_false]) | dsimp only

theorem execChalkTrigger_same {s₀ s₁ : State} {q} {d} (h : execChalkTrigger q d s₀ = .next s₁) :
    s₁.dev.Same true true false true true true s₀.dev := by
  refine onDev_same ?_ h
  intro d hd
  repeat' first | (with_reducible first | assumption | intro _ | apply bodyChalkTrigger_same | apply Dev.submit_same | apply Dev.Same.both (ge := false)) | (unfold Dev.Same; dsimp only [partOf_false]) | dsimp only

theorem execChalkStop_same {s₀ s₁ : State} {q} {d} (h : execChalkStop q d s₀ = .next s₁) :
    s₁.dev.Same true true false true true true s₀.dev := by
  refine onDev_same ?_ h
  intro d hd
  repeat' first | (with_reducible first | assumption | intro _ | apply bodyChalkStop_same | apply Dev.submit_same | apply Dev.Same.both (ge := false)) | (unfold Dev.Same; dsimp only [partOf_false]) | dsimp only

theorem execLoopAbort_same {s₀ s₁ : State} {q} {d} (h : execLoopAbort q d s₀ = .next s₁) :
    s₁.dev.Same true true false true true true s₀.dev := by
  refine onDev_same ?_ h
  intro d hd
  repeat' first | (with_reducible first | assumption | intro _ | apply bodyLoopAbort_same | apply Dev.submit_same | apply Dev.Same.both (ge := false)) | (unfold Dev.Same; dsimp only [partOf_false]) | dsimp only

theorem execSchedSet_same {s₀ s₁ : State} {q} {d} (h : execSchedSet q d s₀ = .next s₁) :
    s₁.dev.Same true true false true true true s₀.dev := by
  refine onDev_same ?_ h
  intro d hd
  repeat' first | (with_reducible first | assumption | intro _ | apply bodySchedSet_same | apply Dev.submit_same | apply Dev.Same.both (ge := false)) | (unfold Dev.Same; dsimp only [partOf_false]) | dsimp only

theorem execZoneSet_same {s₀ s₁ : State} {q} {d} (h : execZoneSet q d s₀ = .next s₁) :
    s₁.dev.Same true true false true true true s₀.dev := by
  refine onDev_same ?_ h
  intro d hd
  repeat' first | (with_reducible first | assumption | intro _ | apply bodySchedSet_same | apply Dev.submit_same | apply Dev.Same.both (ge := false)) | (unfold Dev.Same; dsimp only [partOf_false]) | dsimp only

theorem execZoneOverride_same {s₀ s₁ : State} {q} {d} (h : execZoneOverride q d s₀ = .next s₁) :
    s₁.dev.Same true true false true true true s₀.dev := by
  refine onDev_same ?_ h
  intro d hd
  repeat' first | (with_reducible first | assumption | intro _ | apply bodyZoneOverride_same | apply Dev.submit_same | apply Dev.Same.both (ge := false)) | (unfold Dev.Same; dsimp only [partOf_false]) | dsimp only

theorem execCivilSet_same {s₀ s₁ : State} {q} {d} (h : execCivilSet q d s₀ = .next s₁) :
    s₁.dev.Same true true false true true true s₀.dev := by
  refine onDev_same ?_ h
  intro d hd
  repeat' first | (with_reducible first | assumption | intro _ | apply bodyCivilSet_same | apply Dev.submit_same | apply Dev.Same.both (ge := false)) | (unfold Dev.Same; dsimp only [partOf_false]) | dsimp only

theorem execDstLoad_same {s₀ s₁ : State} {q} {d} (h : execDstLoad q d s₀ = .next s₁) :
    s₁.dev.Same false true false true true true s₀.dev := by
  refine onDev_same ?_ h
  intro d hd
  repeat' first | (with_reducible first | assumption | intro _ | apply bodyDstLoad_same | apply Dev.submit_same | apply Dev.Same.both (gm := false) (ge := false)) | (unfold Dev.Same; dsimp only [partOf_false]) | dsimp only

theorem execShuttleLoad_same {s₀ s₁ : State} {q} {d} (h : execShuttleLoad q d s₀ = .next s₁) :
    s₁.dev.Same true false true true true true s₀.dev := by
  refine onDev_same ?_ h
  intro d hd
  repeat' first | (with_reducible first | assumption | intro _ | apply bodyShuttleLoad_same | apply Dev.submit_same | apply Dev.Same.both (gf := false)) | (unfold Dev.Same; dsimp only [partOf_false]) | dsimp only

theorem execSolShot_same {s₀ s₁ : State} {q} {d} (h : execSolShot q d s₀ = .next s₁) :
    s₁.dev.Same true true true true true true s₀.dev := by
  refine onDev_same ?_ h
  intro d hd
  repeat' first | (with_reducible first | assumption | intro _ | apply bodySolShot_same | apply Dev.submit_same | apply Dev.Same.both) | (unfold Dev.Same; dsimp only [partOf_false]) | dsimp only

theorem execSolForce_same {s₀ s₁ : State} {q} {d} (h : execSolForce q d s₀ = .next s₁) :
    s₁.dev.Same true true false true true true s₀.dev := by
  refine onDev_same ?_ h
  intro d hd
  repeat' first | (with_reducible first | assumption | intro _ | apply bodySolForce_same | apply Dev.submit_same | apply Dev.Same.both (ge := false)) | (unfold Dev.Same; dsimp only [partOf_false]) | dsimp only

theorem execSolClear_same {s₀ s₁ : State} {q} {d} (h : execSolClear q d s₀ = .next s₁) :
    s₁.dev.Same true true true true true true s₀.dev := by
  refine onDev_same ?_ h
  intro d hd
  repeat' first | (with_reducible first | assumption | intro _ | apply bodySolClear_same | apply Dev.submit_same | apply Dev.Same.both) | (unfold Dev.Same; dsimp only [partOf_false]) | dsimp only

theorem execShuttleAbort_same {s₀ s₁ : State} {q} {d} (h : execShuttleAbort q d s₀ = .next s₁) :
    s₁.dev.Same true true true true true true s₀.dev := by
  refine onDev_same ?_ h
  intro d hd
  repeat' first | (with_reducible first | assumption | intro _ | apply bodyShuttleAbort_same | apply Dev.submit_same | apply Dev.Same.both) | (unfold Dev.Same; dsimp only [partOf_false]) | dsimp only

theorem execFanaoForce_same {s₀ s₁ : State} {q} {d} (h : execFanaoForce q d s₀ = .next s₁) :
    s₁.dev.Same true true true true true true s₀.dev := by
  refine onDev_same ?_ h
  intro d hd
  repeat' first | (with_reducible first | assumption | intro _ | apply bodyFanaoForce_same | apply Dev.submit_same | apply Dev.Same.both) | (unfold Dev.Same; dsimp only [partOf_false]) | dsimp only

theorem execFanClear_same {s₀ s₁ : State} {q} {d} (h : execFanClear q d s₀ = .next s₁) :
    s₁.dev.Same true true true true true true s₀.dev := by
  refine onDev_same ?_ h
  intro d hd
  repeat' first | (with_reducible first | assumption | intro _ | apply bodyFanClear_same | apply Dev.submit_same | apply Dev.Same.both) | (unfold Dev.Same; dsimp only [partOf_false]) | dsimp only

theorem execFlowOpen_same {s₀ s₁ : State} {q} {d} (h : execFlowOpen q d s₀ = .next s₁) :
    s₁.dev.Same true true true true true true s₀.dev := by
  refine onDev_same ?_ h
  intro d hd
  repeat' first | (with_reducible first | assumption | intro _ | apply bodyFlowOpen_same | apply Dev.submit_same | apply Dev.Same.both) | (unfold Dev.Same; dsimp only [partOf_false]) | dsimp only

theorem execFlowClose_same {s₀ s₁ : State} {q} {d} (h : execFlowClose q d s₀ = .next s₁) :
    s₁.dev.Same true true true true true true s₀.dev := by
  refine onDev_same ?_ h
  intro d hd
  repeat' first | (with_reducible first | assumption | intro _ | apply bodyFlowClose_same | apply Dev.submit_same | apply Dev.Same.both) | (unfold Dev.Same; dsimp only [partOf_false]) | dsimp only

theorem execRouteLoad_same {s₀ s₁ : State} {q} {d} (h : execRouteLoad q d s₀ = .next s₁) :
    s₁.dev.Same true true true true true true s₀.dev := by
  refine onDev_same ?_ h
  intro d hd
  repeat' first | (with_reducible first | assumption | intro _ | apply bodyRouteLoad_same | apply Dev.submit_same | apply Dev.Same.both) | (unfold Dev.Same; dsimp only [partOf_false]) | dsimp only

theorem execPortRetrain_same {s₀ s₁ : State} {q} {d} (h : execPortRetrain q d s₀ = .next s₁) :
    s₁.dev.Same false true false true true true s₀.dev := by
  refine onDev_same ?_ h
  intro d hd
  repeat' first | (with_reducible first | assumption | intro _ | apply bodyPortRetrain_same | apply Dev.submit_same | apply Dev.Same.both (gm := false) (ge := false)) | (unfold Dev.Same; dsimp only [partOf_false]) | dsimp only

theorem execQuiltAudit_same {s₀ s₁ : State} {q} {d} (h : execQuiltAudit q d s₀ = .next s₁) :
    s₁.dev.Same false true false true true true s₀.dev := by
  refine onDev_same ?_ h
  intro d hd
  repeat' first | (with_reducible first | assumption | intro _ | apply bodyQuiltAudit_same | apply Dev.submit_same | apply Dev.Same.both (gm := false) (ge := false)) | (unfold Dev.Same; dsimp only [partOf_false]) | dsimp only

theorem execRringDoorbell_same {s₀ s₁ : State} {q} {d} (h : execRringDoorbell q d s₀ = .next s₁) :
    s₁.dev.Same true true true true true true s₀.dev := by
  refine onDev_same ?_ h
  intro d hd
  repeat' first | (with_reducible first | assumption | intro _ | apply bodyRringDoorbell_same | apply Dev.submit_same | apply Dev.Same.both) | (unfold Dev.Same; dsimp only [partOf_false]) | dsimp only

theorem execQuiltAbort_same {s₀ s₁ : State} {q} {d} (h : execQuiltAbort q d s₀ = .next s₁) :
    s₁.dev.Same true true true true true true s₀.dev := by
  refine onDev_same ?_ h
  intro d hd
  repeat' first | (with_reducible first | assumption | intro _ | apply settleQuilt_same | apply Dev.abortDesc_same | apply Dev.submit_same | apply Dev.Same.both) | (unfold Dev.Same; dsimp only [partOf_false]) | dsimp only

theorem execBusSend_same {s₀ s₁ : State} {q} {d} {data} (h : execBusSend q d data s₀ = .next s₁) :
    s₁.dev.Same true true true false true true s₀.dev := by
  refine onDev_same ?_ h
  intro d hd
  repeat' first | (with_reducible first | assumption | intro _ | apply bodyBusSend_same | apply Dev.submit_same | apply Dev.Same.both (gs := false)) | (unfold Dev.Same; dsimp only [partOf_false]) | dsimp only

theorem execBusRecv_same {s₀ s₁ : State} {q} {d} (h : execBusRecv q d s₀ = .next s₁) :
    s₁.dev.Same true true true false true true s₀.dev := by
  refine onDev_same ?_ h
  intro d hd
  repeat' first | (with_reducible first | assumption | intro _ | apply bodyBusRecv_same | apply Dev.submit_same | apply Dev.Same.both (gs := false)) | (unfold Dev.Same; dsimp only [partOf_false]) | dsimp only

theorem execBusPollSet_same {s₀ s₁ : State} {q} {d} (h : execBusPollSet q d s₀ = .next s₁) :
    s₁.dev.Same true true true false true true s₀.dev := by
  refine onDev_same ?_ h
  intro d hd
  repeat' first | (with_reducible first | assumption | intro _ | apply bodyBusPollSet_same | apply Dev.submit_same | apply Dev.Same.both (gs := false)) | (unfold Dev.Same; dsimp only [partOf_false]) | dsimp only

theorem execBusAbort_same {s₀ s₁ : State} {q} {d} (h : execBusAbort q d s₀ = .next s₁) :
    s₁.dev.Same true true true false true true s₀.dev := by
  refine onDev_same ?_ h
  intro d hd
  repeat' first | (with_reducible first | assumption | intro _ | apply settleBus_same | apply Dev.abortDesc_same | apply Dev.submit_same | apply Dev.Same.both (gs := false)) | (unfold Dev.Same; dsimp only [partOf_false]) | dsimp only

theorem execNvmRead_same {s₀ s₁ : State} {q} {d} {ups} (h : execNvmRead q d ups s₀ = .next s₁) :
    s₁.dev.Same false true true true false true s₀.dev := by
  refine onDev_same ?_ h
  intro d hd
  repeat' first | (with_reducible first | assumption | intro _ | apply bodyNvmRead_same | apply Dev.submit_same | apply Dev.Same.both (gm := false) (gn := false)) | (unfold Dev.Same; dsimp only [partOf_false]) | dsimp only

theorem execNvmWrite_same {s₀ s₁ : State} {q} {d} (h : execNvmWrite q d s₀ = .next s₁) :
    s₁.dev.Same false true true true false true s₀.dev := by
  refine onDev_same ?_ h
  intro d hd
  repeat' first | (with_reducible first | assumption | intro _ | apply bodyNvmWrite_same | apply Dev.submit_same | apply Dev.Same.both (gm := false) (gn := false)) | (unfold Dev.Same; dsimp only [partOf_false]) | dsimp only

theorem execNvmUnlock_same {s₀ s₁ : State} {q} {d} (h : execNvmUnlock q d s₀ = .next s₁) :
    s₁.dev.Same true true true true false true s₀.dev := by
  refine onDev_same ?_ h
  intro d hd
  repeat' first | (with_reducible first | assumption | intro _ | apply bodyNvmUnlock_same | apply Dev.submit_same | apply Dev.Same.both (gn := false)) | (unfold Dev.Same; dsimp only [partOf_false]) | dsimp only

theorem execNvmLock_same {s₀ s₁ : State} {q} {d} (h : execNvmLock q d s₀ = .next s₁) :
    s₁.dev.Same true true true true true true s₀.dev := by
  refine onDev_same ?_ h
  intro d hd
  repeat' first | (with_reducible first | assumption | intro _ | apply bodyNvmLock_same | apply Dev.submit_same | apply Dev.Same.both) | (unfold Dev.Same; dsimp only [partOf_false]) | dsimp only

theorem execNvmSetpw_same {s₀ s₁ : State} {q} {d} (h : execNvmSetpw q d s₀ = .next s₁) :
    s₁.dev.Same true true true true false true s₀.dev := by
  refine onDev_same ?_ h
  intro d hd
  repeat' first | (with_reducible first | assumption | intro _ | apply bodyNvmSetpw_same | apply Dev.submit_same | apply Dev.Same.both (gn := false)) | (unfold Dev.Same; dsimp only [partOf_false]) | dsimp only

theorem execNvmSync_same {s₀ s₁ : State} {q} {d} (h : execNvmSync q d s₀ = .next s₁) :
    s₁.dev.Same true true true true false true s₀.dev := by
  refine onDev_same ?_ h
  intro d hd
  repeat' first | (with_reducible first | assumption | intro _ | apply bodyNvmSync_same | apply Dev.submit_same | apply Dev.Same.both (gn := false)) | (unfold Dev.Same; dsimp only [partOf_false]) | dsimp only

theorem execRecConfirm_same {s₀ s₁ : State} {q} {d} (h : execRecConfirm q d s₀ = .next s₁) :
    s₁.dev.Same true true true true false true s₀.dev := by
  refine onDev_same ?_ h
  intro d hd
  repeat' first | (with_reducible first | assumption | intro _ | apply bodyRecConfirm_same | apply Dev.submit_same | apply Dev.Same.both (gn := false)) | (unfold Dev.Same; dsimp only [partOf_false]) | dsimp only

theorem execRecWrite_same {s₀ s₁ : State} {q} {d} (h : execRecWrite q d s₀ = .next s₁) :
    s₁.dev.Same true true true true false true s₀.dev := by
  refine onDev_same ?_ h
  intro d hd
  repeat' first | (with_reducible first | assumption | intro _ | apply bodyRecWrite_same | apply Dev.submit_same | apply Dev.Same.both (gn := false)) | (unfold Dev.Same; dsimp only [partOf_false]) | dsimp only

theorem execRecRead_same {s₀ s₁ : State} {q} {d} {ups} (h : execRecRead q d ups s₀ = .next s₁) :
    s₁.dev.Same false true true true false true s₀.dev := by
  refine onDev_same ?_ h
  intro d hd
  repeat' first | (with_reducible first | assumption | intro _ | apply bodyRecRead_same | apply Dev.submit_same | apply Dev.Same.both (gm := false) (gn := false)) | (unfold Dev.Same; dsimp only [partOf_false]) | dsimp only

theorem execNvmExport_same {s₀ s₁ : State} {q} {d} (h : execNvmExport q d s₀ = .next s₁) :
    s₁.dev.Same true true true true false true s₀.dev := by
  refine onDev_same ?_ h
  intro d hd
  repeat' first | (with_reducible first | assumption | intro _ | apply bodyNvmExport_same | apply Dev.submit_same | apply Dev.Same.both (gn := false)) | (unfold Dev.Same; dsimp only [partOf_false]) | dsimp only

theorem execNvmImport_same {s₀ s₁ : State} {q} {d} {data} (h : execNvmImport q d data s₀ = .next s₁) :
    s₁.dev.Same true true true true false true s₀.dev := by
  refine onDev_same ?_ h
  intro d hd
  repeat' first | (with_reducible first | assumption | intro _ | apply bodyNvmImport_same | apply Dev.submit_same | apply Dev.Same.both (gn := false)) | (unfold Dev.Same; dsimp only [partOf_false]) | dsimp only

theorem execNvmAbort_same {s₀ s₁ : State} {q} {d} (h : execNvmAbort q d s₀ = .next s₁) :
    s₁.dev.Same true true true true false true s₀.dev := by
  refine onDev_same ?_ h
  intro d hd
  repeat' first | (with_reducible first | assumption | intro _ | apply bodyNvmAbort_same | apply Dev.submit_same | apply Dev.Same.both (gn := false)) | (unfold Dev.Same; dsimp only [partOf_false]) | dsimp only

theorem execPanelUpdate_same {s₀ s₁ : State} {q} {d} (h : execPanelUpdate q d s₀ = .next s₁) :
    s₁.dev.Same true true true false true true s₀.dev := by
  refine onDev_same ?_ h
  intro d hd
  repeat' first | (with_reducible first | assumption | intro _ | apply bodyPanelUpdate_same | apply Dev.submit_same | apply Dev.Same.both (gs := false)) | (unfold Dev.Same; dsimp only [partOf_false]) | dsimp only

theorem execPanelWfload_same {s₀ s₁ : State} {q} {d} (h : execPanelWfload q d s₀ = .next s₁) :
    s₁.dev.Same true true true false true true s₀.dev := by
  refine onDev_same ?_ h
  intro d hd
  repeat' first | (with_reducible first | assumption | intro _ | apply bodyPanelWfload_same | apply Dev.submit_same | apply Dev.Same.both (gs := false)) | (unfold Dev.Same; dsimp only [partOf_false]) | dsimp only

theorem execPanelCrcCheck_same {s₀ s₁ : State} {q} {d} (h : execPanelCrcCheck q d s₀ = .next s₁) :
    s₁.dev.Same true true true true true true s₀.dev := by
  refine onDev_same ?_ h
  intro d hd
  repeat' first | (with_reducible first | assumption | intro _ | apply bodyPanelCrcCheck_same | apply Dev.submit_same | apply Dev.Same.both) | (unfold Dev.Same; dsimp only [partOf_false]) | dsimp only

theorem execPanelAbort_same {s₀ s₁ : State} {q} {d} (h : execPanelAbort q d s₀ = .next s₁) :
    s₁.dev.Same true true true false true true s₀.dev := by
  refine onDev_same ?_ h
  intro d hd
  repeat' first | (with_reducible first | assumption | intro _ | apply bodyPanelAbort_same | apply Dev.submit_same | apply Dev.Same.both (gs := false)) | (unfold Dev.Same; dsimp only [partOf_false]) | dsimp only

theorem execKeyLock_same {s₀ s₁ : State} {q} {d} (h : execKeyLock q d s₀ = .next s₁) :
    s₁.dev.Same true true true false true true s₀.dev := by
  refine onDev_same ?_ h
  intro d hd
  repeat' first | (with_reducible first | assumption | intro _ | apply bodyKeyLock_same | apply Dev.submit_same | apply Dev.Same.both (gs := false)) | (unfold Dev.Same; dsimp only [partOf_false]) | dsimp only

theorem execFitRun_same {s₀ s₁ : State} {q} {d} (h : execFitRun q d s₀ = .next s₁) :
    s₁.dev.Same false true true false true false s₀.dev := by
  refine onDev_same ?_ h
  intro d hd
  repeat' first | (with_reducible first | assumption | intro _ | apply bodyFitRun_same | apply Dev.submit_same | apply Dev.Same.both (gm := false) (gs := false) (gt := false)) | (unfold Dev.Same; dsimp only [partOf_false]) | dsimp only

theorem execFitLogRead_same {s₀ s₁ : State} {q} {d} (h : execFitLogRead q d s₀ = .next s₁) :
    s₁.dev.Same false true true true false true s₀.dev := by
  refine onDev_same ?_ h
  intro d hd
  repeat' first | (with_reducible first | assumption | intro _ | apply bodyFitLogRead_same | apply Dev.submit_same | apply Dev.Same.both (gm := false) (gn := false)) | (unfold Dev.Same; dsimp only [partOf_false]) | dsimp only

theorem execFitBaseline_same {s₀ s₁ : State} {q} {d} (h : execFitBaseline q d s₀ = .next s₁) :
    s₁.dev.Same true true true false true true s₀.dev := by
  refine onDev_same ?_ h
  intro d hd
  repeat' first | (with_reducible first | assumption | intro _ | apply bodyFitBaseline_same | apply Dev.submit_same | apply Dev.Same.both (gs := false)) | (unfold Dev.Same; dsimp only [partOf_false]) | dsimp only

theorem execFitAbort_same {s₀ s₁ : State} {q} {d} (h : execFitAbort q d s₀ = .next s₁) :
    s₁.dev.Same true true true false false true s₀.dev := by
  refine onDev_same ?_ h
  intro d hd
  repeat' first | (with_reducible first | assumption | intro _ | apply bodyFitAbort_same | apply Dev.submit_same | apply Dev.Same.both (gs := false) (gn := false)) | (unfold Dev.Same; dsimp only [partOf_false]) | dsimp only

theorem execOwnerHandover_same {s₀ s₁ : State} {q} {d} (h : execOwnerHandover q d s₀ = .next s₁) :
    s₁.dev.Same true true true true false true s₀.dev := by
  refine onDev_same ?_ h
  intro d hd
  repeat' first | (with_reducible first | assumption | intro _ | apply bodyOwnerHandover_same | apply Dev.submit_same | apply Dev.Same.both (gn := false)) | (unfold Dev.Same; dsimp only [partOf_false]) | dsimp only

theorem execConfigManifest_same {s₀ s₁ : State} {q} {d} (h : execConfigManifest q d s₀ = .next s₁) :
    s₁.dev.Same true true true true false true s₀.dev := by
  refine onDev_same ?_ h
  intro d hd
  repeat' first | (with_reducible first | assumption | intro _ | apply bodyConfigManifest_same | apply Dev.submit_same | apply Dev.Same.both (gn := false)) | (unfold Dev.Same; dsimp only [partOf_false]) | dsimp only

theorem execFwUpdate_same {s₀ s₁ : State} {q} {d} (h : execFwUpdate q d s₀ = .next s₁) :
    s₁.dev.Same true true true true false true s₀.dev := by
  refine onDev_same ?_ h
  intro d hd
  repeat' first | (with_reducible first | assumption | intro _ | apply bodyFwUpdate_same | apply Dev.submit_same | apply Dev.Same.both (gn := false)) | (unfold Dev.Same; dsimp only [partOf_false]) | dsimp only

theorem execAttest_same {s₀ s₁ : State} {q} {d} (h : execAttest q d s₀ = .next s₁) :
    s₁.dev.Same true true true true false true s₀.dev := by
  refine onDev_same ?_ h
  intro d hd
  repeat' first | (with_reducible first | assumption | intro _ | apply bodyAttest_same | apply Dev.submit_same | apply Dev.Same.both (gn := false)) | (unfold Dev.Same; dsimp only [partOf_false]) | dsimp only

theorem execSecAbort_same {s₀ s₁ : State} {q} {d} (h : execSecAbort q d s₀ = .next s₁) :
    s₁.dev.Same true true true true false true s₀.dev := by
  refine onDev_same ?_ h
  intro d hd
  repeat' first | (with_reducible first | assumption | intro _ | apply bodySecAbort_same | apply Dev.submit_same | apply Dev.Same.both (gn := false)) | (unfold Dev.Same; dsimp only [partOf_false]) | dsimp only

theorem execDbgFreeze_same {s₀ s₁ : State} {q} {d} (h : execDbgFreeze q d s₀ = .next s₁) :
    s₁.dev.Same true true true true true true s₀.dev := by
  refine onDev_same ?_ h
  intro d hd
  repeat' first | (with_reducible first | assumption | intro _ | apply bodyDbgFreeze_same | apply Dev.submit_same | apply Dev.Same.both) | (unfold Dev.Same; dsimp only [partOf_false]) | dsimp only

theorem execBlReqWrite_same {s₀ s₁ : State} {v} (h : execBlReqWrite v s₀ = .next s₁) :
    s₁.dev.Same true true true true true true s₀.dev := by
  refine onDev_same ?_ h
  intro d hd
  repeat' first | (with_reducible first | assumption | intro _ | apply Dev.writeBlsel_same | apply Dev.hostReg_same | apply Dev.Same.both) | (unfold Dev.Same; dsimp only [partOf_false]) | dsimp only

theorem execSealWrite_same {s₀ s₁ : State} {v} (h : execSealWrite v s₀ = .next s₁) :
    s₁.dev.Same true true true true true true s₀.dev := by
  refine onDev_same ?_ h
  intro d hd
  repeat' first | (with_reducible first | assumption | intro _ | apply Dev.writeSeal_same | apply Dev.hostReg_same | apply Dev.Same.both) | (unfold Dev.Same; dsimp only [partOf_false]) | dsimp only

theorem execTickLoRead_same {s₀ s₁ : State} (h : execTickLoRead s₀ = .next s₁) :
    s₁.dev.Same true true true true true true s₀.dev := by
  refine onDev_same ?_ h
  intro d hd
  repeat' first | (with_reducible first | assumption | intro _ | apply Dev.emit_same | apply Dev.Same.both | refine ite_same ?_ ?_) | split | (unfold Dev.Same; dsimp only [partOf_false]) | dsimp only

theorem execClrCorrected_same {s₀ s₁ : State} (h : execClrCorrected s₀ = .next s₁) :
    s₁.dev.Same true true true true true true s₀.dev := by
  refine onDev_same ?_ h
  intro d hd
  repeat' first | (with_reducible first | assumption | intro _ | apply Dev.writeMemerrClr_same | apply Dev.hostReg_same | apply Dev.Same.both) | (unfold Dev.Same; dsimp only [partOf_false]) | dsimp only

theorem execClrUncorrectable_same {s₀ s₁ : State} (h : execClrUncorrectable s₀ = .next s₁) :
    s₁.dev.Same true true true true true true s₀.dev := by
  refine onDev_same ?_ h
  intro d hd
  repeat' first | (with_reducible first | assumption | intro _ | apply Dev.writeMemerrClr_same | apply Dev.hostReg_same | apply Dev.Same.both) | (unfold Dev.Same; dsimp only [partOf_false]) | dsimp only

theorem execFieldErrClr_same {s₀ s₁ : State} {k} (h : execFieldErrClr k s₀ = .next s₁) :
    s₁.dev.Same true true true true true true s₀.dev := by
  refine onDev_same ?_ h
  intro d hd
  repeat' first | (with_reducible first | assumption | intro _ | apply Dev.fieldErrClr_same | apply Dev.hostReg_same | apply Dev.Same.both | refine ite_same ?_ ?_) | split | (unfold Dev.Same; dsimp only [partOf_false]) | dsimp only

theorem execClrDip_same {s₀ s₁ : State} (h : execClrDip s₀ = .next s₁) :
    s₁.dev.Same true true true true true true s₀.dev := by
  refine onDev_same ?_ h
  intro d hd
  repeat' first | (with_reducible first | assumption | intro _ | apply Dev.writePwrClr_same | apply Dev.hostReg_same | apply Dev.Same.both) | (unfold Dev.Same; dsimp only [partOf_false]) | dsimp only

theorem execClrErr_same {s₀ s₁ : State} (h : execClrErr s₀ = .next s₁) :
    s₁.dev.Same true true true true true true s₀.dev := by
  refine onDev_same ?_ h
  intro d hd
  repeat' first | (with_reducible first | assumption | intro _ | apply Dev.writeNvmClr_same | apply Dev.hostReg_same | apply Dev.Same.both) | (unfold Dev.Same; dsimp only [partOf_false]) | dsimp only

theorem execUiModeWrite_same {s₀ s₁ : State} {u} {v} (h : execUiModeWrite u v s₀ = .next s₁) :
    s₁.dev.Same true true true true true true s₀.dev := by
  refine onDev_same ?_ h
  intro d hd
  repeat' first | (with_reducible first | assumption | intro _ | apply Dev.writeUiMode_same | apply Dev.hostReg_same | apply Dev.Same.both | refine ite_same ?_ ?_) | split | (unfold Dev.Same; dsimp only [partOf_false]) | dsimp only

theorem execUiGainShWrite_same {s₀ s₁ : State} {u} {v} (h : execUiGainShWrite u v s₀ = .next s₁) :
    s₁.dev.Same true false true true true true s₀.dev := by
  refine onDev_same ?_ h
  intro d hd
  repeat' first | (with_reducible first | assumption | intro _ | apply Dev.writeUiGainSh_same | apply Dev.hostReg_same | apply Dev.Same.both (gf := false) | refine ite_same ?_ ?_) | split | (unfold Dev.Same; dsimp only [partOf_false]) | dsimp only

theorem execConvCtrlWrite_same {s₀ s₁ : State} {c} {v} (h : execConvCtrlWrite c v s₀ = .next s₁) :
    s₁.dev.Same true false true true true true s₀.dev := by
  refine onDev_same ?_ h
  intro d hd
  repeat' first | (with_reducible first | assumption | intro _ | apply Dev.writeConvCtrl_same | apply Dev.hostReg_same | apply Dev.Same.both (gf := false) | refine ite_same ?_ ?_) | split | (unfold Dev.Same; dsimp only [partOf_false]) | dsimp only

theorem execMailboxWrite_same {s₀ s₁ : State} {off} {v} (h : execMailboxWrite off v s₀ = .next s₁) :
    s₁.dev.Same true true true true true true s₀.dev := by
  refine onDev_same ?_ h
  intro d hd
  repeat' first | (with_reducible first | assumption | intro _ | apply Dev.writeField_same | apply Dev.hostReg_same | apply Dev.Same.both | refine ite_same ?_ ?_) | split | (unfold Dev.Same; dsimp only [partOf_false]) | dsimp only

theorem execPatCtrlWrite_same {s₀ s₁ : State} {v} (h : execPatCtrlWrite v s₀ = .next s₁) :
    s₁.dev.Same true true false true true true s₀.dev := by
  refine onDev_same ?_ h
  intro d hd
  repeat' first | (with_reducible first | assumption | intro _ | apply Dev.writePatCtrl_same | apply Dev.hostReg_same | apply Dev.Same.both (ge := false)) | (unfold Dev.Same; dsimp only [partOf_false]) | dsimp only

theorem execLoopCtrlWrite_same {s₀ s₁ : State} {v} (h : execLoopCtrlWrite v s₀ = .next s₁) :
    s₁.dev.Same true true false true true true s₀.dev := by
  refine onDev_same ?_ h
  intro d hd
  repeat' first | (with_reducible first | assumption | intro _ | apply Dev.writeLoopCtrl_same | apply Dev.hostReg_same | apply Dev.Same.both (ge := false)) | (unfold Dev.Same; dsimp only [partOf_false]) | dsimp only

theorem execBusCfgWrite_same {s₀ s₁ : State} {n} {v} (h : execBusCfgWrite n v s₀ = .next s₁) :
    s₁.dev.Same true true true false true true s₀.dev := by
  refine onDev_same ?_ h
  intro d hd
  repeat' first | (with_reducible first | assumption | intro _ | apply Dev.writeBusCfg_same | apply Dev.hostReg_same | apply Dev.Same.both (gs := false) | refine ite_same ?_ ?_) | split | (unfold Dev.Same; dsimp only [partOf_false]) | dsimp only

theorem execPortEnWrite_same {s₀ s₁ : State} {v} (h : execPortEnWrite v s₀ = .next s₁) :
    s₁.dev.Same false true false true true true s₀.dev := by
  refine onDev_same ?_ h
  intro d hd
  repeat' first | (with_reducible first | assumption | intro _ | apply Dev.writeQuiltCfg_same | apply Dev.hostReg_same | apply Dev.Same.both (gm := false) (ge := false)) | (unfold Dev.Same; dsimp only [partOf_false]) | dsimp only

theorem execPortEqWrite_same {s₀ s₁ : State} {p} {v} (h : execPortEqWrite p v s₀ = .next s₁) :
    s₁.dev.Same true true true true true true s₀.dev := by
  refine onDev_same ?_ h
  intro d hd
  repeat' first | (with_reducible first | assumption | intro _ | apply Dev.writePortEq_same | apply Dev.hostReg_same | apply Dev.Same.both | refine ite_same ?_ ?_) | split | (unfold Dev.Same; dsimp only [partOf_false]) | dsimp only

theorem execPanelEnWrite_same {s₀ s₁ : State} {v} (h : execPanelEnWrite v s₀ = .next s₁) :
    s₁.dev.Same true true true false true true s₀.dev := by
  refine onDev_same ?_ h
  intro d hd
  repeat' first | (with_reducible first | assumption | intro _ | apply Dev.writePanelCfg_same | apply Dev.hostReg_same | apply Dev.Same.both (gs := false)) | (unfold Dev.Same; dsimp only [partOf_false]) | dsimp only

theorem execHostqWdogWrite_same {s₀ s₁ : State} {v} (h : execHostqWdogWrite v s₀ = .next s₁) :
    s₁.dev.Same true true true true true true s₀.dev := by
  refine onDev_same ?_ h
  intro d hd
  repeat' first | (with_reducible first | assumption | intro _ | apply Dev.writeWdog_same | apply Dev.hostReg_same | apply Dev.Same.both) | (unfold Dev.Same; dsimp only [partOf_false]) | dsimp only

theorem execRingEnable_same {s₀ s₁ : State} {r} (h : execRingEnable r s₀ = .next s₁) :
    s₁.dev.Same true true true true true true s₀.dev := by
  refine onDev_same ?_ h
  intro d hd
  repeat' first | (with_reducible first | assumption | intro _ | apply Dev.hostReg_same | apply Dev.ringEnable_same | apply Dev.Same.both | refine ite_same ?_ ?_) | split | (unfold Dev.Same; dsimp only [partOf_false]) | dsimp only

theorem execRingDisable_same {s₀ s₁ : State} {r} (h : execRingDisable r s₀ = .next s₁) :
    s₁.dev.Same true true true true true true s₀.dev := by
  refine onDev_same ?_ h
  intro d hd
  repeat' first | (with_reducible first | assumption | intro _ | apply Dev.hostReg_same | apply Dev.ringDisable_same | apply Dev.Same.both | refine ite_same ?_ ?_) | split | (unfold Dev.Same; dsimp only [partOf_false]) | dsimp only

theorem execFenceClr_same {s₀ s₁ : State} {q} (h : execFenceClr q s₀ = .next s₁) :
    s₁.dev.Same true true true true true true s₀.dev := by
  refine onDev_same ?_ h
  intro d hd
  repeat' first | (with_reducible first | assumption | intro _ | apply Dev.hostReg_same | apply Dev.fenceClear_same | apply Dev.Same.both | refine ite_same ?_ ?_) | split | (unfold Dev.Same; dsimp only [partOf_false]) | dsimp only

theorem execSqTailDoorbell_same {s₀ s₁ : State} {q} {v} (h : execSqTailDoorbell q v s₀ = .next s₁) :
    s₁.dev.Same true true true true true true s₀.dev := by
  refine onDev_same ?_ h
  intro d hd
  repeat' first | (with_reducible first | assumption | intro _ | apply Dev.hostBell_same | apply Dev.ringTail_same | apply Dev.Same.both | refine ite_same ?_ ?_) | split | (unfold Dev.Same; dsimp only [partOf_false]) | dsimp only

theorem execCqHeadDoorbell_same {s₀ s₁ : State} {c} {v} (h : execCqHeadDoorbell c v s₀ = .next s₁) :
    s₁.dev.Same true true true true true true s₀.dev := by
  refine onDev_same ?_ h
  intro d hd
  repeat' first | (with_reducible first | assumption | intro _ | apply Dev.hostBell_same | apply Dev.cqHead_same | apply Dev.Same.both | refine ite_same ?_ ?_) | split | (unfold Dev.Same; dsimp only [partOf_false]) | dsimp only

theorem execEqHeadDoorbell_same {s₀ s₁ : State} {v} (h : execEqHeadDoorbell v s₀ = .next s₁) :
    s₁.dev.Same true true true true true true s₀.dev := by
  refine onDev_same ?_ h
  intro d hd
  repeat' first | (with_reducible first | assumption | intro _ | apply Dev.hostBell_same | apply Dev.eqHead_same | apply Dev.Same.both) | (unfold Dev.Same; dsimp only [partOf_false]) | dsimp only

theorem execTqHeadDoorbell_same {s₀ s₁ : State} {t} {v} (h : execTqHeadDoorbell t v s₀ = .next s₁) :
    s₁.dev.Same true true true true true true s₀.dev := by
  refine onDev_same ?_ h
  intro d hd
  repeat' first | (with_reducible first | assumption | intro _ | apply Dev.hostBell_same | apply Dev.tqHead_same | apply Dev.Same.both | refine ite_same ?_ ?_) | split | (unfold Dev.Same; dsimp only [partOf_false]) | dsimp only

theorem execHeartbeat_same {s₀ s₁ : State} {v} (h : execHeartbeat v s₀ = .next s₁) :
    s₁.dev.Same true true true true true true s₀.dev := by
  refine onDev_same ?_ h
  intro d hd
  repeat' first | (with_reducible first | assumption | intro _ | apply Dev.hostBell_same | apply Dev.heartbeat_same | apply Dev.Same.both) | (unfold Dev.Same; dsimp only [partOf_false]) | dsimp only

theorem execDbgRoDataRead_same {s₀ s₁ : State} (h : execDbgRoDataRead s₀ = .next s₁) :
    s₁.dev.Same true true true true true true s₀.dev := by
  refine onDev_same ?_ h
  intro d hd
  repeat' first | (with_reducible first | assumption | intro _ | apply Dev.readOut_same | apply Dev.emit_same | apply Dev.put_same | apply Dev.Same.both | refine ite_same ?_ ?_) | split | (unfold Dev.Same; dsimp only [partOf_false]) | dsimp only

theorem execDbgThaw_same {s₀ s₁ : State} (h : execDbgThaw s₀ = .next s₁) :
    s₁.dev.Same true true true true true true s₀.dev := by
  refine onDev_same ?_ h
  intro d hd
  repeat' first | (with_reducible first | assumption | intro _ | apply Dev.askThaw_same | apply Dev.Same.both | refine ite_same ?_ ?_) | split | (unfold Dev.Same; dsimp only [partOf_false]) | dsimp only

theorem execFwRecGo_same {s₀ s₁ : State} {v} (h : execFwRecGo v s₀ = .next s₁) :
    s₁.dev.Same false true true true false false s₀.dev := by
  refine onDev_same ?_ h
  intro d hd
  repeat' first | (with_reducible first | assumption | intro _ | apply Dev.writeFwRec_same | apply Dev.Same.both (gm := false) (gn := false) (gt := false)) | (unfold Dev.Same; dsimp only [partOf_false]) | dsimp only

theorem execBar4Read_same {s₀ s₁ : State} {off} {len} {upsets} (h : execBar4Read off len upsets s₀ = .next s₁) :
    s₁.dev.Same false true true true true true s₀.dev := by
  refine onDev_same ?_ h
  intro d hd
  repeat' first | (with_reducible first | assumption | intro _ | apply Dev.bar4Words_same | apply Dev.upset_same | apply Dev.emit_same | apply Dev.put_same | apply Dev.Same.both (gm := false) | refine ite_same ?_ ?_) | split | (unfold Dev.Same; dsimp only [partOf_false]) | dsimp only

theorem execBar4Write_same {s₀ s₁ : State} {off} {bytes} {upsets} (h : execBar4Write off bytes upsets s₀ = .next s₁) :
    s₁.dev.Same false true true true true true s₀.dev := by
  refine onDev_same ?_ h
  intro d hd
  repeat' first | (with_reducible first | assumption | intro _ | apply Dev.bar4Put_same | apply Dev.postHost_same | apply Dev.upset_same | apply Dev.Same.both (gm := false) | refine ite_same ?_ ?_) | split | (unfold Dev.Same; dsimp only [partOf_false]) | dsimp only

theorem execVl24Good_same {s₀ s₁ : State} (h : execVl24Good s₀ = .next s₁) :
    s₁.dev.Same true true true true true false s₀.dev := by
  refine onDev_same ?_ h
  intro d hd
  repeat' first | (with_reducible first | assumption | intro _ | apply Dev.startStep2_same | apply Dev.Same.both (gt := false) | refine ite_same ?_ ?_) | split | (unfold Dev.Same; dsimp only [partOf_false]) | dsimp only

theorem execPgTimeout_same {s₀ s₁ : State} {rail} (h : execPgTimeout rail s₀ = .next s₁) :
    s₁.dev.Same true true true true true false s₀.dev := by
  refine onDev_same ?_ h
  intro d hd
  repeat' first | (with_reducible first | assumption | intro _ | apply Dev.lowerEnables_same | apply Dev.setPower_same | apply Dev.Same.both (gt := false) | refine ite_same ?_ ?_) | split | (unfold Dev.Same; dsimp only [partOf_false]) | dsimp only

theorem execStartRetry_same {s₀ s₁ : State} (h : execStartRetry s₀ = .next s₁) :
    s₁.dev.Same true true true true true false s₀.dev := by
  refine onDev_same ?_ h
  intro d hd
  repeat' first | (with_reducible first | assumption | intro _ | apply Dev.startStep2_same | apply Dev.Same.both (gt := false) | refine ite_same ?_ ?_) | split | (unfold Dev.Same; dsimp only [partOf_false]) | dsimp only

theorem execFwReverify_same {s₀ s₁ : State} {a} {b} (h : execFwReverify a b s₀ = .next s₁) :
    s₁.dev.Same true true true true false false s₀.dev := by
  refine onDev_same ?_ h
  intro d hd
  repeat' first | (with_reducible first | assumption | intro _ | apply Dev.leaveRecovery_same | apply Dev.Same.both (gn := false) (gt := false) | refine ite_same ?_ ?_) | split | (unfold Dev.Same; dsimp only [partOf_false]) | dsimp only

theorem execPfwNFalling_same {s₀ s₁ : State} {vl24} {vhold} (h : execPfwNFalling vl24 vhold s₀ = .next s₁) :
    s₁.dev.Same false true false false false false s₀.dev := by
  refine onDev_same ?_ h
  intro d hd
  repeat' first | (with_reducible first | assumption | intro _ | apply Dev.joinWarning_same | apply Dev.enterWarning_same | apply Dev.Same.both (gm := false) (ge := false) (gs := false) (gn := false) (gt := false) | refine ite_same ?_ ?_) | split | (unfold Dev.Same; dsimp only [partOf_false]) | dsimp only

theorem execSaveEnd_same {s₀ s₁ : State} (h : execSaveEnd s₀ = .next s₁) :
    s₁.dev.Same true true true true false true s₀.dev := by
  refine onDev_same ?_ h
  intro d hd
  repeat' first | (with_reducible first | assumption | intro _ | apply Dev.saveCommit_same | apply Dev.put_same | apply Dev.Same.both (gn := false) | refine ite_same ?_ ?_) | split | (unfold Dev.Same; dsimp only [partOf_false]) | dsimp only

theorem execVl24AboveResume_same {s₀ s₁ : State} {vl24} (h : execVl24AboveResume vl24 s₀ = .next s₁) :
    s₁.dev.Same true true true true true false s₀.dev := by
  refine onDev_same ?_ h
  intro d hd
  repeat' first | (with_reducible first | assumption | intro _ | apply Dev.followResume_same | apply Dev.put_same | apply Dev.Same.both (gt := false) | refine ite_same ?_ ?_) | split | (unfold Dev.Same; dsimp only [partOf_false]) | dsimp only

theorem execWarningEnd_same {s₀ s₁ : State} {vl24} (h : execWarningEnd vl24 s₀ = .next s₁) :
    s₁.dev.Same true true true false false false s₀.dev := by
  refine onDev_same ?_ h
  intro d hd
  repeat' first | (with_reducible first | assumption | intro _ | apply Dev.setPfw_same | apply Dev.setPower_same | apply Dev.kickWrites_same | apply Dev.showFrontlight_same | apply Dev.put_same | apply Dev.Same.both (gs := false) (gn := false) (gt := false) | refine ite_same ?_ ?_) | split | (unfold Dev.Same; dsimp only [partOf_false]) | dsimp only

theorem execDipSafeExpiry_same {s₀ s₁ : State} (h : execDipSafeExpiry s₀ = .next s₁) :
    s₁.dev.Same true true true true true false s₀.dev := by
  refine onDev_same ?_ h
  intro d hd
  repeat' first | (with_reducible first | assumption | intro _ | apply Dev.setPower_same | apply Dev.Same.both (gt := false) | refine ite_same ?_ ?_) | split | (unfold Dev.Same; dsimp only [partOf_false]) | dsimp only

theorem execRstNLow_same {s₀ s₁ : State} (h : execRstNLow s₀ = .next s₁) :
    s₁.dev.Same false true false false false false s₀.dev := by
  refine onDev_same ?_ h
  intro d hd
  repeat' first | (with_reducible first | assumption | intro _ | apply Dev.enterWarning_same | apply Dev.setPower_same | apply Dev.Same.both (gm := false) (ge := false) (gs := false) (gn := false) (gt := false) | refine ite_same ?_ ?_) | split | (unfold Dev.Same; dsimp only [partOf_false]) | dsimp only

theorem execRstNRise_same {s₀ s₁ : State} (h : execRstNRise s₀ = .next s₁) :
    s₁.dev.Same true true false true false false s₀.dev := by
  refine onDev_same ?_ h
  intro d hd
  repeat' first | (with_reducible first | assumption | intro _ | apply Dev.startStep4_same | apply Dev.setPower_same | apply Dev.Same.both (ge := false) (gn := false) (gt := false) | refine ite_same ?_ ?_) | split | (unfold Dev.Same; dsimp only [partOf_false]) | dsimp only

theorem execClkrefRestored_same {s₀ s₁ : State} (h : execClkrefRestored s₀ = .next s₁) :
    s₁.dev.Same true true false true false false s₀.dev := by
  refine onDev_same ?_ h
  intro d hd
  repeat' first | (with_reducible first | assumption | intro _ | apply Dev.logAtBoot_same | apply Dev.startStep4_same | apply Dev.setPower_same | apply Dev.Same.both (ge := false) (gn := false) (gt := false) | refine ite_same ?_ ?_) | split | (unfold Dev.Same; dsimp only [partOf_false]) | dsimp only

theorem execFirmwareWatchdog_same {s₀ s₁ : State} (h : execFirmwareWatchdog s₀ = .next s₁) :
    s₁.dev.Same false true false false false false s₀.dev := by
  refine onDev_same ?_ h
  intro d hd
  repeat' first | (with_reducible first | assumption | intro _ | apply Dev.enterWarning_same | apply Dev.setPower_same | apply Dev.Same.both (gm := false) (ge := false) (gs := false) (gn := false) (gt := false) | refine ite_same ?_ ?_) | split | (unfold Dev.Same; dsimp only [partOf_false]) | dsimp only

theorem execVcoreStep_same {s₀ s₁ : State} {res} (h : execVcoreStep res s₀ = .next s₁) :
    s₁.dev.Same true true true true true false s₀.dev := by
  refine onDev_same ?_ h
  intro d hd
  repeat' first | (with_reducible first | assumption | intro _ | apply Dev.pmbusFail_same | apply Dev.setPower_same | apply Dev.emit_same | apply Dev.putBit_same | apply Dev.Same.both (gt := false) | refine ite_same ?_ ?_) | split | (unfold Dev.Same; dsimp only [partOf_false]) | dsimp only

theorem execReadVoutPoll_same {s₀ s₁ : State} {res} (h : execReadVoutPoll res s₀ = .next s₁) :
    s₁.dev.Same true true true true true false s₀.dev := by
  refine onDev_same ?_ h
  intro d hd
  repeat' first | (with_reducible first | assumption | intro _ | apply Dev.pmbusFail_same | apply Dev.setPower_same | apply Dev.emit_same | apply Dev.put_same | apply Dev.Same.both (gt := false) | refine ite_same ?_ ?_) | split | (unfold Dev.Same; dsimp only [partOf_false]) | dsimp only

theorem execStatusWordPoll_same {s₀ s₁ : State} {res} {mode} (h : execStatusWordPoll res mode s₀ = .next s₁) :
    s₁.dev.Same true true true true true false s₀.dev := by
  refine onDev_same ?_ h
  intro d hd
  repeat' first | (with_reducible first | assumption | intro _ | apply Dev.pmbusTry_same | apply Dev.pmbusFail_same | apply Dev.pmbusStop_same | apply Dev.setPower_same | apply Dev.emit_same | apply Dev.Same.both (gt := false) | refine ite_same ?_ ?_) | split | (unfold Dev.Same; dsimp only [partOf_false]) | dsimp only

theorem execScrubRead_same {s₀ s₁ : State} {upset} (h : execScrubRead upset s₀ = .next s₁) :
    s₁.dev.Same false true true true true true s₀.dev := by
  refine onDev_same ?_ h
  intro d hd
  repeat' first | (with_reducible first | assumption | intro _ | apply Dev.readWord_same | apply Dev.upset_same | apply Dev.Same.both (gm := false) | refine ite_same ?_ ?_) | split | (unfold Dev.Same; dsimp only [partOf_false]) | dsimp only

theorem execUpFrame_same {s₀ s₁ : State} {k} {arrives} {wrong} (h : execUpFrame k arrives wrong s₀ = .next s₁) :
    s₁.dev.Same false false true false true true s₀.dev := by
  refine onDev_same ?_ h
  intro d hd
  repeat' first | (with_reducible first | assumption | intro _ | apply Dev.takeUp_same | apply Dev.bump_same | apply Dev.put_same | apply Dev.Same.both (gm := false) (gf := false) (gs := false) | refine ite_same ?_ ?_) | split | (unfold Dev.Same; dsimp only [partOf_false]) | dsimp only

theorem execBarrierDown_same {s₀ s₁ : State} {k} (h : execBarrierDown k s₀ = .next s₁) :
    s₁.dev.Same true true true true true true s₀.dev := by
  refine onDev_same ?_ h
  intro d hd
  repeat' first | (with_reducible first | assumption | intro _ | apply Dev.barrierWords_same | apply Dev.raise_same | apply Dev.put_same | apply Dev.Same.both | refine ite_same ?_ ?_) | split | (unfold Dev.Same; dsimp only [partOf_false]) | dsimp only

theorem execDownFrame_same {s₀ s₁ : State} {k} {arrives} {wrong} (h : execDownFrame k arrives wrong s₀ = .next s₁) :
    s₁.dev.Same true false true true true true s₀.dev := by
  refine onDev_same ?_ h
  intro d hd
  repeat' first | (with_reducible first | assumption | intro _ | apply Dev.setFd_same | apply Dev.Same.both (gf := false) | refine ite_same ?_ ?_) | split | (unfold Dev.Same; dsimp only [partOf_false]) | dsimp only

theorem execFieldTickBoundary_same {s₀ s₁ : State} {k} {sense} (h : execFieldTickBoundary k sense s₀ = .next s₁) :
    s₁.dev.Same false false false true false true s₀.dev := by
  refine onDev_same ?_ h
  intro d hd
  repeat' first | (with_reducible first | assumption | intro _ | apply Dev.sendUp_same | apply Dev.senseDos_same | apply Dev.badBoundary_same | apply Dev.goodBoundary_same | apply Dev.applyMail_same | apply Dev.solBoundary_same | apply Dev.fanAoBoundary_same | apply Dev.posBoundary_same | apply Dev.darkBoundary_same | apply Dev.floatRun_same | apply Dev.latchMeas_same | apply Dev.switchUis_same | apply Dev.startTests_same | apply Dev.setFd_same | apply Dev.Same.both (gm := false) (gf := false) (ge := false) (gn := false) | refine ite_same ?_ ?_ | refine foldl_same (fun _ _ _ => ?_) ?_ _ | refine foldl_snd2_same (fun _ _ _ => ?_) ?_ _ | refine foldl_snd_same (fun _ _ _ => ?_) ?_ _ | refine foldl_fst_same (fun _ _ _ => ?_) ?_ _) | split | (unfold Dev.Same; dsimp only [partOf_false]) | dsimp only

theorem execHoldWindowExpiry_same {s₀ s₁ : State} {k} (h : execHoldWindowExpiry k s₀ = .next s₁) :
    s₁.dev.Same true false true true true true s₀.dev := by
  refine onDev_same ?_ h
  intro d hd
  repeat' first | (with_reducible first | assumption | intro _ | apply Dev.fanAoDriven_same | apply Dev.enterSafe_same | apply Dev.Same.both (gf := false) | refine ite_same ?_ ?_) | split | (unfold Dev.Same; dsimp only [partOf_false]) | dsimp only

theorem execFreezeHoldLimit_same {s₀ s₁ : State} {k} (h : execFreezeHoldLimit k s₀ = .next s₁) :
    s₁.dev.Same true false true true true true s₀.dev := by
  refine onDev_same ?_ h
  intro d hd
  repeat' first | (with_reducible first | assumption | intro _ | apply Dev.fanAoDriven_same | apply Dev.enterSafe_same | apply Dev.Same.both (gf := false) | refine ite_same ?_ ?_) | split | (unfold Dev.Same; dsimp only [partOf_false]) | dsimp only

theorem execDownLinkSilent_same {s₀ s₁ : State} {k} (h : execDownLinkSilent k s₀ = .next s₁) :
    s₁.dev.Same true false true true true true s₀.dev := by
  refine onDev_same ?_ h
  intro d hd
  repeat' first | (with_reducible first | assumption | intro _ | apply Dev.setFd_same | apply Dev.Same.both (gf := false) | refine ite_same ?_ ?_) | split | (unfold Dev.Same; dsimp only [partOf_false]) | dsimp only

theorem execVf24Low_same {s₀ s₁ : State} {k} {mv} (h : execVf24Low k mv s₀ = .next s₁) :
    s₁.dev.Same true false true true true true s₀.dev := by
  refine onDev_same ?_ h
  intro d hd
  repeat' first | (with_reducible first | assumption | intro _ | apply Dev.enterSafe_same | apply Dev.cutSols_same | apply Dev.fanAoBoundary_same | apply Dev.setFloat_same | apply Dev.allDosOff_same | apply Dev.dieRaise_same | apply Dev.setFd_same | apply Dev.Same.both (gf := false) | refine ite_same ?_ ?_ | refine foldl_same (fun _ _ _ => ?_) ?_ _ | refine foldl_snd2_same (fun _ _ _ => ?_) ?_ _ | refine foldl_snd_same (fun _ _ _ => ?_) ?_ _ | refine foldl_fst_same (fun _ _ _ => ?_) ?_ _) | split | (unfold Dev.Same; dsimp only [partOf_false]) | dsimp only

theorem execVf24Recovered_same {s₀ s₁ : State} {k} {mv} (h : execVf24Recovered k mv s₀ = .next s₁) :
    s₁.dev.Same true false true true true true s₀.dev := by
  refine onDev_same ?_ h
  intro d hd
  repeat' first | (with_reducible first | assumption | intro _ | apply Dev.safeOutputs_same | apply Dev.dieRaise_same | apply Dev.setFd_same | apply Dev.Same.both (gf := false) | refine ite_same ?_ ?_) | split | (unfold Dev.Same; dsimp only [partOf_false]) | dsimp only

theorem execDiPulseWindow_same {s₀ s₁ : State} {n} {x} (h : execDiPulseWindow n x s₀ = .next s₁) :
    s₁.dev.Same true false true true true true s₀.dev := by
  refine onDev_same ?_ h
  intro d hd
  repeat' first | (with_reducible first | assumption | intro _ | apply Dev.setDi_same | apply Dev.Same.both (gf := false) | refine ite_same ?_ ?_) | split | (unfold Dev.Same; dsimp only [partOf_false]) | dsimp only

theorem execDiDebounceDone_same {s₀ s₁ : State} {n} {x} (h : execDiDebounceDone n x s₀ = .next s₁) :
    s₁.dev.Same true false true true true true s₀.dev := by
  refine onDev_same ?_ h
  intro d hd
  repeat' first | (with_reducible first | assumption | intro _ | apply Dev.setDi_same | apply Dev.dieRaise_same | apply Dev.Same.both (gf := false) | refine ite_same ?_ ?_) | split | (unfold Dev.Same; dsimp only [partOf_false]) | dsimp only

theorem execDoOverload_same {s₀ s₁ : State} {o} {ma} (h : execDoOverload o ma s₀ = .next s₁) :
    s₁.dev.Same true false true true true true s₀.dev := by
  refine onDev_same ?_ h
  intro d hd
  repeat' first | (with_reducible first | assumption | intro _ | apply Dev.doTrip_same | apply Dev.Same.both (gf := false) | refine ite_same ?_ ?_) | split | (unfold Dev.Same; dsimp only [partOf_false]) | dsimp only

theorem execDoThermalLimit_same {s₀ s₁ : State} {o} {ma} (h : execDoThermalLimit o ma s₀ = .next s₁) :
    s₁.dev.Same true false true true true true s₀.dev := by
  refine onDev_same ?_ h
  intro d hd
  repeat' first | (with_reducible first | assumption | intro _ | apply Dev.doTrip_same | apply Dev.Same.both (gf := false) | refine ite_same ?_ ?_) | split | (unfold Dev.Same; dsimp only [partOf_false]) | dsimp only

theorem execDoRetry_same {s₀ s₁ : State} {o} (h : execDoRetry o s₀ = .next s₁) :
    s₁.dev.Same true false true true true true s₀.dev := by
  refine onDev_same ?_ h
  intro d hd
  repeat' first | (with_reducible first | assumption | intro _ | apply Dev.doCommand_same | apply Dev.setDo_same | apply Dev.Same.both (gf := false) | refine ite_same ?_ ?_) | split | (unfold Dev.Same; dsimp only [partOf_false]) | dsimp only

theorem execDoOnPeriodOk_same {s₀ s₁ : State} {o} (h : execDoOnPeriodOk o s₀ = .next s₁) :
    s₁.dev.Same true false true true true true s₀.dev := by
  refine onDev_same ?_ h
  intro d hd
  repeat' first | (with_reducible first | assumption | intro _ | apply Dev.doRecovered_same | apply Dev.setDo_same | apply Dev.Same.both (gf := false) | refine ite_same ?_ ?_) | split | (unfold Dev.Same; dsimp only [partOf_false]) | dsimp only

theorem execDoForcedHigh_same {s₀ s₁ : State} {o} {ma} (h : execDoForcedHigh o ma s₀ = .next s₁) :
    s₁.dev.Same true false true true true true s₀.dev := by
  refine onDev_same ?_ h
  intro d hd
  repeat' first | (with_reducible first | assumption | intro _ | apply Dev.doMirror_same | apply Dev.doFaultFloat_same | apply Dev.doFault_same | apply Dev.setDo_same | apply Dev.Same.both (gf := false) | refine ite_same ?_ ?_) | split | (unfold Dev.Same; dsimp only [partOf_false]) | dsimp only

theorem execOpenLoadSet_same {s₀ s₁ : State} {o} {ma} (h : execOpenLoadSet o ma s₀ = .next s₁) :
    s₁.dev.Same true false true true true true s₀.dev := by
  refine onDev_same ?_ h
  intro d hd
  repeat' first | (with_reducible first | assumption | intro _ | apply Dev.doFaultFloat_same | apply Dev.doFault_same | apply Dev.setDo_same | apply Dev.Same.both (gf := false) | refine ite_same ?_ ?_) | split | (unfold Dev.Same; dsimp only [partOf_false]) | dsimp only

theorem execOpenLoadClear_same {s₀ s₁ : State} {o} (h : execOpenLoadClear o s₀ = .next s₁) :
    s₁.dev.Same true false true true true true s₀.dev := by
  refine onDev_same ?_ h
  intro d hd
  repeat' first | (with_reducible first | assumption | intro _ | apply Dev.doRecovered_same | apply Dev.setDo_same | apply Dev.Same.both (gf := false) | refine ite_same ?_ ?_) | split | (unfold Dev.Same; dsimp only [partOf_false]) | dsimp only

theorem execDarkTest_same {s₀ s₁ : State} {k} (h : execDarkTest k s₀ = .next s₁) :
    s₁.dev.Same true false true true true true s₀.dev := by
  refine onDev_same ?_ h
  intro d hd
  repeat' first | (with_reducible first | assumption | intro _ | apply Dev.darkBegin_same | apply Dev.setFd_same | apply Dev.Same.both (gf := false) | refine ite_same ?_ ?_) | split | (unfold Dev.Same; dsimp only [partOf_false]) | dsimp only

theorem execDarkPulseEnd_same {s₀ s₁ : State} {k} {fell} (h : execDarkPulseEnd k fell s₀ = .next s₁) :
    s₁.dev.Same true false true true true true s₀.dev := by
  refine onDev_same ?_ h
  intro d hd
  repeat' first | (with_reducible first | assumption | intro _ | apply Dev.darkForced_same | apply Dev.doCross_same | apply Dev.darkRestore_same | apply Dev.darkOver_same | apply Dev.setFd_same | apply Dev.Same.both (gf := false) | refine ite_same ?_ ?_ | refine foldl_same (fun _ _ _ => ?_) ?_ _ | refine foldl_snd2_same (fun _ _ _ => ?_) ?_ _ | refine foldl_snd_same (fun _ _ _ => ?_) ?_ _ | refine foldl_fst_same (fun _ _ _ => ?_) ?_ _) | split | (unfold Dev.Same; dsimp only [partOf_false]) | dsimp only

theorem execDarkPairPulse_same {s₀ s₁ : State} {k} {fell} (h : execDarkPairPulse k fell s₀ = .next s₁) :
    s₁.dev.Same true false true true true true s₀.dev := by
  refine onDev_same ?_ h
  intro d hd
  repeat' first | (with_reducible first | assumption | intro _ | apply Dev.darkForced_same | apply Dev.doCross_same | apply Dev.darkRestore_same | apply Dev.darkOver_same | apply Dev.setFd_same | apply Dev.Same.both (gf := false) | refine ite_same ?_ ?_) | split | (unfold Dev.Same; dsimp only [partOf_false]) | dsimp only

theorem execFloatDriveEnd_same {s₀ s₁ : State} {f} (h : execFloatDriveEnd f s₀ = .next s₁) :
    s₁.dev.Same true false true true true true s₀.dev := by
  refine onDev_same ?_ h
  intro d hd
  repeat' first | (with_reducible first | assumption | intro _ | apply Dev.floatHalt_same | apply Dev.Same.both (gf := false) | refine ite_same ?_ ?_) | split | (unfold Dev.Same; dsimp only [partOf_false]) | dsimp only

theorem execFloatDeadTimeEnd_same {s₀ s₁ : State} {f} (h : execFloatDeadTimeEnd f s₀ = .next s₁) :
    s₁.dev.Same true false true true true true s₀.dev := by
  refine onDev_same ?_ h
  intro d hd
  repeat' first | (with_reducible first | assumption | intro _ | apply Dev.floatGo_same | apply Dev.setFloat_same | apply Dev.Same.both (gf := false) | refine ite_same ?_ ?_) | split | (unfold Dev.Same; dsimp only [partOf_false]) | dsimp only

theorem execFloatBothHigh_same {s₀ s₁ : State} {f} (h : execFloatBothHigh f s₀ = .next s₁) :
    s₁.dev.Same true false true true true true s₀.dev := by
  refine onDev_same ?_ h
  intro d hd
  repeat' first | (with_reducible first | assumption | intro _ | apply Dev.floatFault_same | apply Dev.Same.both (gf := false) | refine ite_same ?_ ?_) | split | (unfold Dev.Same; dsimp only [partOf_false]) | dsimp only

theorem execPosEdge_same {s₀ s₁ : State} {p} {t} {e} (h : execPosEdge p t e s₀ = .next s₁) :
    s₁.dev.Same true false true true true true s₀.dev := by
  refine onDev_same ?_ h
  intro d hd
  repeat' first | (with_reducible first | assumption | intro _ | apply Dev.posCheckRecover_same | apply Dev.emuFollow_same | apply Dev.posFault_same | apply Dev.setPos_same | apply Dev.Same.both (gf := false) | refine ite_same ?_ ?_) | split | (unfold Dev.Same; dsimp only [partOf_false]) | dsimp only

theorem execIndexPulse_same {s₀ s₁ : State} {e} (h : execIndexPulse e s₀ = .next s₁) :
    s₁.dev.Same true false true true true true s₀.dev := by
  refine onDev_same ?_ h
  intro d hd
  repeat' first | (with_reducible first | assumption | intro _ | apply Dev.posInterval_same | apply Dev.posCheckBegin_same | apply Dev.emuFollow_same | apply Dev.posClear_same | apply Dev.setPos_same | apply Dev.Same.both (gf := false) | refine ite_same ?_ ?_) | split | (unfold Dev.Same; dsimp only [partOf_false]) | dsimp only

theorem execPosCheckTimeout_same {s₀ s₁ : State} {p} (h : execPosCheckTimeout p s₀ = .next s₁) :
    s₁.dev.Same true false true true true true s₀.dev := by
  refine onDev_same ?_ h
  intro d hd
  repeat' first | (with_reducible first | assumption | intro _ | apply Dev.setPos_same | apply Dev.fail_same | apply Dev.Same.both (gf := false) | refine ite_same ?_ ?_) | split | (unfold Dev.Same; dsimp only [partOf_false]) | dsimp only

theorem execSerialReadStart_same {s₀ s₁ : State} {p} (h : execSerialReadStart p s₀ = .next s₁) :
    s₁.dev.Same true false true true true true s₀.dev := by
  refine onDev_same ?_ h
  intro d hd
  repeat' first | (with_reducible first | assumption | intro _ | apply Dev.setPos_same | apply Dev.Same.both (gf := false) | refine ite_same ?_ ?_) | split | (unfold Dev.Same; dsimp only [partOf_false]) | dsimp only

theorem execSerialReadEnd_same {s₀ s₁ : State} {p} {ack} {clocks} (h : execSerialReadEnd p ack clocks s₀ = .next s₁) :
    s₁.dev.Same true false true true true true s₀.dev := by
  refine onDev_same ?_ h
  intro d hd
  repeat' first | (with_reducible first | assumption | intro _ | apply Dev.posReadGood_same | apply Dev.posReadFault_same | apply Dev.Same.both (gf := false) | refine ite_same ?_ ?_) | split | (unfold Dev.Same; dsimp only [partOf_false]) | dsimp only

theorem execSerialReadTimeout_same {s₀ s₁ : State} {p} (h : execSerialReadTimeout p s₀ = .next s₁) :
    s₁.dev.Same true false true true true true s₀.dev := by
  refine onDev_same ?_ h
  intro d hd
  repeat' first | (with_reducible first | assumption | intro _ | apply Dev.posReadFault_same | apply Dev.Same.both (gf := false) | refine ite_same ?_ ?_) | split | (unfold Dev.Same; dsimp only [partOf_false]) | dsimp only

theorem execStandstillTimeout_same {s₀ s₁ : State} {p} (h : execStandstillTimeout p s₀ = .next s₁) :
    s₁.dev.Same true false true true true true s₀.dev := by
  refine onDev_same ?_ h
  intro d hd
  repeat' first | (with_reducible first | assumption | intro _ | apply Dev.setPos_same | apply Dev.Same.both (gf := false) | refine ite_same ?_ ?_) | split | (unfold Dev.Same; dsimp only [partOf_false]) | dsimp only

theorem execEmuEdge_same {s₀ s₁ : State} {e} (h : execEmuEdge e s₀ = .next s₁) :
    s₁.dev.Same true false true true true true s₀.dev := by
  refine onDev_same ?_ h
  intro d hd
  repeat' first | (with_reducible first | assumption | intro _ | apply Dev.emuDrive_same | apply Dev.emuCheckLag_same | apply Dev.setEmu_same | apply Dev.Same.both (gf := false) | refine ite_same ?_ ?_) | split | (unfold Dev.Same; dsimp only [partOf_false]) | dsimp only

theorem execPassStart_same {s₀ s₁ : State} {c} (h : execPassStart c s₀ = .next s₁) :
    s₁.dev.Same true false true true true true s₀.dev := by
  refine onDev_same ?_ h
  intro d hd
  repeat' first | (with_reducible first | assumption | intro _ | apply Dev.endPass_same | refine Dev.beginPass_same_of ?_ (by assumption) | apply Dev.beginPass_same | apply Dev.setConv_same | apply Dev.dieRaise_same | apply Dev.bump_same | apply Dev.Same.both (gf := false) | refine ite_same ?_ ?_) | split | (unfold Dev.Same; dsimp only [partOf_false]) | dsimp only

theorem execConverterOutput_same {s₀ s₁ : State} {c} {code} {input} (h : execConverterOutput c code input s₀ = .next s₁) :
    s₁.dev.Same true false true true true true s₀.dev := by
  refine onDev_same ?_ h
  intro d hd
  repeat' first | (with_reducible first | assumption | intro _ | apply Dev.afterOutput_same | apply Dev.nextVisit_same | apply Dev.countOpened_same | apply Dev.writeSlot_same | apply Dev.keepContact_same | apply Dev.updateChannel_same | apply Dev.setConv_same | apply Dev.Same.both (gf := false) | refine ite_same ?_ ?_) | split | (unfold Dev.Same; dsimp only [partOf_false]) | dsimp only

theorem execUrgentHead_same {s₀ s₁ : State} {c} (h : execUrgentHead c s₀ = .next s₁) :
    s₁.dev.Same true false true true true true s₀.dev := by
  refine onDev_same ?_ h
  intro d hd
  repeat' first | (with_reducible first | assumption | intro _ | apply Dev.setConv_same | apply Dev.Same.both (gf := false) | refine ite_same ?_ ?_) | split | (unfold Dev.Same; dsimp only [partOf_false]) | dsimp only

theorem execUrgentValidOutput_same {s₀ s₁ : State} {c} {code} {input} (h : execUrgentValidOutput c code input s₀ = .next s₁) :
    s₁.dev.Same true false true true true true s₀.dev := by
  refine onDev_same ?_ h
  intro d hd
  repeat' first | (with_reducible first | assumption | intro _ | apply Dev.countOpened_same | apply Dev.keepContact_same | apply Dev.updateChannel_same | apply Dev.restartVisit_same | apply Dev.setConv_same | apply Dev.Same.both (gf := false) | refine ite_same ?_ ?_) | split | (unfold Dev.Same; dsimp only [partOf_false]) | dsimp only

theorem execCalDue_same {s₀ s₁ : State} (h : execCalDue s₀ = .next s₁) :
    s₁.dev.Same true false true true true true s₀.dev := by
  refine onDev_same ?_ h
  intro d hd
  repeat' first | (with_reducible first | assumption | intro _ | apply Dev.calAll_same | apply Dev.Same.both (gf := false) | refine ite_same ?_ ?_) | split | (unfold Dev.Same; dsimp only [partOf_false]) | dsimp only

theorem execCalCommit_same {s₀ s₁ : State} {c} {ofs} {gain} {selfTest} (h : execCalCommit c ofs gain selfTest s₀ = .next s₁) :
    s₁.dev.Same true false true true true true s₀.dev := by
  refine onDev_same ?_ h
  intro d hd
  repeat' first | (with_reducible first | assumption | intro _ | apply Dev.calCommitted_same | apply Dev.selfTest_same | apply Dev.nextCal_same | apply Dev.restartVisit_same | apply Dev.setConv_same | apply Dev.dieRaise_same | apply Dev.putRet_same | apply Dev.Same.both (gf := false) | refine ite_same ?_ ?_) | split | (unfold Dev.Same; dsimp only [partOf_false]) | dsimp only

theorem execCaptureTrigger_same {s₀ s₁ : State} {g} {b} (h : execCaptureTrigger g b s₀ = .next s₁) :
    s₁.dev.Same true false true true true true s₀.dev := by
  refine onDev_same ?_ h
  intro d hd
  repeat' first | (with_reducible first | assumption | intro _ | apply Dev.setCap_same | apply Dev.restartVisit_same | apply Dev.setConv_same | apply Dev.Same.both (gf := false) | refine ite_same ?_ ?_ | refine foldl_same (fun _ _ _ => ?_) ?_ _ | refine foldl_snd2_same (fun _ _ _ => ?_) ?_ _ | refine foldl_snd_same (fun _ _ _ => ?_) ?_ _ | refine foldl_fst_same (fun _ _ _ => ?_) ?_ _) | split | (unfold Dev.Same; dsimp only [partOf_false]) | dsimp only

theorem execCaptureDone_same {s₀ s₁ : State} {g} (h : execCaptureDone g s₀ = .next s₁) :
    s₁.dev.Same true false true true true true s₀.dev := by
  refine onDev_same ?_ h
  intro d hd
  repeat' first | (with_reducible first | assumption | intro _ | apply Dev.dropCap_same | apply Dev.done_same | apply Dev.Same.both (gf := false) | refine ite_same ?_ ?_) | split | (unfold Dev.Same; dsimp only [partOf_false]) | dsimp only

theorem execCaptureShotTimeout_same {s₀ s₁ : State} {g} (h : execCaptureShotTimeout g s₀ = .next s₁) :
    s₁.dev.Same true false true true true true s₀.dev := by
  refine onDev_same ?_ h
  intro d hd
  repeat' first | (with_reducible first | assumption | intro _ | apply Dev.dropCap_same | apply Dev.fail_same | apply Dev.Same.both (gf := false)) | split | (unfold Dev.Same; dsimp only [partOf_false]) | dsimp only

theorem execSlotStale_same {s₀ s₁ : State} {n} (h : execSlotStale n s₀ = .next s₁) :
    s₁.dev.Same true false true true true true s₀.dev := by
  refine onDev_same ?_ h
  intro d hd
  repeat' first | (with_reducible first | assumption | intro _ | apply Dev.Same.both (gf := false) | refine ite_same ?_ ?_) | split | (unfold Dev.Same; dsimp only [partOf_false]) | dsimp only

theorem execMa20Disconnect_same {s₀ s₁ : State} {u} (h : execMa20Disconnect u s₀ = .next s₁) :
    s₁.dev.Same true false true true true true s₀.dev := by
  refine onDev_same ?_ h
  intro d hd
  repeat' first | (with_reducible first | assumption | intro _ | apply Dev.updateChannel_same | apply Dev.Same.both (gf := false) | refine ite_same ?_ ?_) | split | (unfold Dev.Same; dsimp only [partOf_false]) | dsimp only

theorem execMa20Reconnect_same {s₀ s₁ : State} {u} (h : execMa20Reconnect u s₀ = .next s₁) :
    s₁.dev.Same true false true true true true s₀.dev := by
  refine onDev_same ?_ h
  intro d hd
  repeat' first | (with_reducible first | assumption | intro _ | apply Dev.Same.both (gf := false) | refine ite_same ?_ ?_) | split | (unfold Dev.Same; dsimp only [partOf_false]) | dsimp only

theorem execEventIntervalEnd_same {s₀ s₁ : State} {code} {src} (h : execEventIntervalEnd code src s₀ = .next s₁) :
    s₁.dev.Same true true true true true true s₀.dev := by
  refine onDev_same ?_ h
  intro d hd
  repeat' first | (with_reducible first | assumption | intro _ | apply Dev.endInterval_same | apply Dev.Same.both | refine ite_same ?_ ?_) | split | (unfold Dev.Same; dsimp only [partOf_false]) | dsimp only

theorem execPatStepStart_same {s₀ s₁ : State} (h : execPatStepStart s₀ = .next s₁) :
    s₁.dev.Same false true false true false true s₀.dev := by
  refine onDev_same ?_ h
  intro d hd
  repeat' first | (with_reducible first | assumption | intro _ | apply Dev.patStep_same | apply Dev.missStart_same | apply Dev.Same.both (gm := false) (ge := false) (gn := false) | refine ite_same ?_ ?_) | split | (unfold Dev.Same; dsimp only [partOf_false]) | dsimp only

theorem execPatPublish_same {s₀ s₁ : State} (h : execPatPublish s₀ = .next s₁) :
    s₁.dev.Same false true false true true true s₀.dev := by
  refine onDev_same ?_ h
  intro d hd
  repeat' first | (with_reducible first | assumption | intro _ | apply Dev.publishNodes_same | apply Dev.saveEsts_same | apply Dev.setSuspect_same | apply Dev.patReport_same | apply Dev.putCoups_same | apply Dev.putNodes_same | apply Dev.wrapUp_same | apply Dev.putBit_same | apply Dev.put_same | apply Dev.Same.both (gm := false) (ge := false) | refine ite_same ?_ ?_ | refine foldl_same (fun _ _ _ => ?_) ?_ _ | refine foldl_snd2_same (fun _ _ _ => ?_) ?_ _ | refine foldl_snd_same (fun _ _ _ => ?_) ?_ _ | refine foldl_fst_same (fun _ _ _ => ?_) ?_ _) | split | (unfold Dev.Same; dsimp only [partOf_false]) | dsimp only

theorem execRoutinePredictionEnd_same {s₀ s₁ : State} (h : execRoutinePredictionEnd s₀ = .next s₁) :
    s₁.dev.Same false true false true false true s₀.dev := by
  refine onDev_same ?_ h
  intro d hd
  repeat' first | (with_reducible first | assumption | intro _ | apply Dev.zonePredict_same | refine Dev.forecasts_same_of ?_ (by assumption) | apply Dev.forecasts_same | refine Dev.readState_same_of ?_ (by assumption) | apply Dev.readState_same | apply Dev.tableFault_same | refine Dev.readTables_same_of ?_ (by assumption) | apply Dev.readTables_same | apply Dev.produce_same | apply Dev.memWrite_same | apply Dev.put_same | apply Dev.Same.both (gm := false) (ge := false) (gn := false) | refine ite_same ?_ ?_ | refine foldl_same (fun _ _ _ => ?_) ?_ _ | refine foldl_snd2_same (fun _ _ _ => ?_) ?_ _ | refine foldl_snd_same (fun _ _ _ => ?_) ?_ _ | refine foldl_fst_same (fun _ _ _ => ?_) ?_ _) | split | (unfold Dev.Same; dsimp only [partOf_false]) | dsimp only

theorem execPatUrgentIssue_same {s₀ s₁ : State} (h : execPatUrgentIssue s₀ = .next s₁) :
    s₁.dev.Same false true false true true true s₀.dev := by
  refine onDev_same ?_ h
  intro d hd
  repeat' first | (with_reducible first | assumption | intro _ | apply Dev.tableFault_same | refine Dev.readTables_same_of ?_ (by assumption) | apply Dev.readTables_same | apply Dev.askUrgent_same | apply Dev.Same.both (gm := false) (ge := false) | refine ite_same ?_ ?_ | refine foldl_same (fun _ _ _ => ?_) ?_ _ | refine foldl_snd2_same (fun _ _ _ => ?_) ?_ _ | refine foldl_snd_same (fun _ _ _ => ?_) ?_ _ | refine foldl_fst_same (fun _ _ _ => ?_) ?_ _) | split | (unfold Dev.Same; dsimp only [partOf_false]) | dsimp only

theorem execHostPredictionStep_same {s₀ s₁ : State} (h : execHostPredictionStep s₀ = .next s₁) :
    s₁.dev.Same false true false true false true s₀.dev := by
  refine onDev_same ?_ h
  intro d hd
  repeat' first | (with_reducible first | assumption | intro _ | apply Dev.hostPredStep_same | apply Dev.done_same | apply Dev.Same.both (gm := false) (ge := false) (gn := false) | refine ite_same ?_ ?_) | split | (unfold Dev.Same; dsimp only [partOf_false]) | dsimp only

theorem execMultiplierSave_same {s₀ s₁ : State} (h : execMultiplierSave s₀ = .next s₁) :
    s₁.dev.Same false true false true false true s₀.dev := by
  refine onDev_same ?_ h
  intro d hd
  repeat' first | (with_reducible first | assumption | intro _ | apply Dev.soundState_same | apply Dev.setBlock_same | apply Dev.Same.both (gm := false) (ge := false) (gn := false) | refine ite_same ?_ ?_) | split | (unfold Dev.Same; dsimp only [partOf_false]) | dsimp only

theorem execLoopCompute_same {s₀ s₁ : State} {l} (h : execLoopCompute l s₀ = .next s₁) :
    s₁.dev.Same false true false true false true s₀.dev := by
  refine onDev_same ?_ h
  intro d hd
  repeat' first | (with_reducible first | assumption | intro _ | apply Dev.loopResumed_same | apply Dev.loopCompute_same | apply Dev.Same.both (gm := false) (ge := false) (gn := false) | refine ite_same ?_ ?_) | split | (unfold Dev.Same; dsimp only [partOf_false]) | dsimp only

theorem execLoopUrgentIssue_same {s₀ s₁ : State} {l} (h : execLoopUrgentIssue l s₀ = .next s₁) :
    s₁.dev.Same true true false true true true s₀.dev := by
  refine onDev_same ?_ h
  intro d hd
  repeat' first | (with_reducible first | assumption | intro _ | apply Dev.setLoop_same | apply Dev.askUrgent_same | apply Dev.Same.both (ge := false) | refine ite_same ?_ ?_) | split | (unfold Dev.Same; dsimp only [partOf_false]) | dsimp only

theorem execLoopSetSwitch_same {s₀ s₁ : State} {l} (h : execLoopSetSwitch l s₀ = .next s₁) :
    s₁.dev.Same false true false true false true s₀.dev := by
  refine onDev_same ?_ h
  intro d hd
  repeat' first | (with_reducible first | assumption | intro _ | apply Dev.keep_same | apply Dev.admitLoop_same | apply Dev.showEngine_same | apply Dev.setBlock_same | apply Dev.finish_same | apply Dev.Same.both (gm := false) (ge := false) (gn := false) | refine ite_same ?_ ?_) | split | (unfold Dev.Same; dsimp only [partOf_false]) | dsimp only

theorem execLoopRemoveEffect_same {s₀ s₁ : State} {l} (h : execLoopRemoveEffect l s₀ = .next s₁) :
    s₁.dev.Same true true false true true true s₀.dev := by
  refine onDev_same ?_ h
  intro d hd
  repeat' first | (with_reducible first | assumption | intro _ | apply Dev.removeLoop_same | apply Dev.Same.both (ge := false) | refine ite_same ?_ ?_) | split | (unfold Dev.Same; dsimp only [partOf_false]) | dsimp only

theorem execSchedEvaluation_same {s₀ s₁ : State} (h : execSchedEvaluation s₀ = .next s₁) :
    s₁.dev.Same true true false true true true s₀.dev := by
  refine onDev_same ?_ h
  intro d hd
  repeat' first | (with_reducible first | assumption | intro _ | apply Dev.schedEvaluate_same | apply Dev.Same.both (ge := false) | refine ite_same ?_ ?_) | split | (unfold Dev.Same; dsimp only [partOf_false]) | dsimp only

theorem execOverrideExpiry_same {s₀ s₁ : State} {z} (h : execOverrideExpiry z s₀ = .next s₁) :
    s₁.dev.Same true true false true true true s₀.dev := by
  refine onDev_same ?_ h
  intro d hd
  repeat' first | (with_reducible first | assumption | intro _ | apply Dev.expireOverride_same | apply Dev.Same.both (ge := false) | refine ite_same ?_ ?_) | split | (unfold Dev.Same; dsimp only [partOf_false]) | dsimp only

theorem execPresenceHoldoffExpiry_same {s₀ s₁ : State} {z} (h : execPresenceHoldoffExpiry z s₀ = .next s₁) :
    s₁.dev.Same true true false true true true s₀.dev := by
  refine onDev_same ?_ h
  intro d hd
  repeat' first | (with_reducible first | assumption | intro _ | apply Dev.presenceExpire_same | apply Dev.Same.both (ge := false) | refine ite_same ?_ ?_) | split | (unfold Dev.Same; dsimp only [partOf_false]) | dsimp only

theorem execOneShotDurExpiry_same {s₀ s₁ : State} {c} {t} {sense} (h : execOneShotDurExpiry c t sense s₀ = .next s₁) :
    s₁.dev.Same true false true false true true s₀.dev := by
  refine onDev_same ?_ h
  intro d hd
  repeat' first | (with_reducible first | assumption | intro _ | apply Dev.solSense_same | apply Dev.solRelease_same | apply Dev.Same.both (gf := false) (gs := false) | refine ite_same ?_ ?_) | split | (unfold Dev.Same; dsimp only [partOf_false]) | dsimp only

theorem execChopPeriodStart_same {s₀ s₁ : State} {c} (h : execChopPeriodStart c s₀ = .next s₁) :
    s₁.dev.Same true false true true true true s₀.dev := by
  refine onDev_same ?_ h
  intro d hd
  repeat' first | (with_reducible first | assumption | intro _ | apply Dev.solClose_same | apply Dev.driveBank_same | apply Dev.setBank_same | apply Dev.Same.both (gf := false) | refine ite_same ?_ ?_ | refine foldl_same (fun _ _ _ => ?_) ?_ _ | refine foldl_snd2_same (fun _ _ _ => ?_) ?_ _ | refine foldl_snd_same (fun _ _ _ => ?_) ?_ _ | refine foldl_fst_same (fun _ _ _ => ?_) ?_ _) | split | (unfold Dev.Same; dsimp only [partOf_false]) | dsimp only

theorem execTargetReached_same {s₀ s₁ : State} {c} {t} {sense} (h : execTargetReached c t sense s₀ = .next s₁) :
    s₁.dev.Same true false true false true true s₀.dev := by
  refine onDev_same ?_ h
  intro d hd
  repeat' first | (with_reducible first | assumption | intro _ | apply Dev.solSense_same | apply Dev.solTtp_same | apply Dev.driveBank_same | apply Dev.setSol_same | apply Dev.Same.both (gf := false) (gs := false) | refine ite_same ?_ ?_) | split | (unfold Dev.Same; dsimp only [partOf_false]) | dsimp only

theorem execPeakGrant_same {s₀ s₁ : State} {k} {t} (h : execPeakGrant k t s₀ = .next s₁) :
    s₁.dev.Same true false true true true true s₀.dev := by
  refine onDev_same ?_ h
  intro d hd
  repeat' first | (with_reducible first | assumption | intro _ | apply Dev.solClose_same | apply Dev.driveBank_same | apply Dev.setFreeTokens_same | apply Dev.Same.both (gf := false) | refine ite_same ?_ ?_) | split | (unfold Dev.Same; dsimp only [partOf_false]) | dsimp only

theorem execPeakWaitExpiry_same {s₀ s₁ : State} {c} {t} {sense} (h : execPeakWaitExpiry c t sense s₀ = .next s₁) :
    s₁.dev.Same true false true false true true s₀.dev := by
  refine onDev_same ?_ h
  intro d hd
  repeat' first | (with_reducible first | assumption | intro _ | apply Dev.grant_same | apply Dev.solSkip_same | apply Dev.solSense_same | apply Dev.solResume_same | apply Dev.setSol_same | apply Dev.Same.both (gf := false) (gs := false) | refine ite_same ?_ ?_) | split | (unfold Dev.Same; dsimp only [partOf_false]) | dsimp only

theorem execSkipRetry_same {s₀ s₁ : State} {c} (h : execSkipRetry c s₀ = .next s₁) :
    s₁.dev.Same false false true true true true s₀.dev := by
  refine onDev_same ?_ h
  intro d hd
  repeat' first | (with_reducible first | assumption | intro _ | apply Dev.solLevelShot_same | apply Dev.Same.both (gm := false) (gf := false) | refine ite_same ?_ ?_) | split | (unfold Dev.Same; dsimp only [partOf_false]) | dsimp only

theorem execWaitPeakTimeout_same {s₀ s₁ : State} {c} {t} {sense} (h : execWaitPeakTimeout c t sense s₀ = .next s₁) :
    s₁.dev.Same true false true false true true s₀.dev := by
  refine onDev_same ?_ h
  intro d hd
  repeat' first | (with_reducible first | assumption | intro _ | apply Dev.solSense_same | apply Dev.solTtp_same | apply Dev.Same.both (gf := false) (gs := false) | refine ite_same ?_ ?_) | split | (unfold Dev.Same; dsimp only [partOf_false]) | dsimp only

theorem execShuttleWaitEnd_same {s₀ s₁ : State} {c} {t} {sense} (h : execShuttleWaitEnd c t sense s₀ = .next s₁) :
    s₁.dev.Same true false true false true true s₀.dev := by
  refine onDev_same ?_ h
  intro d hd
  repeat' first | (with_reducible first | assumption | intro _ | apply Dev.solSense_same | apply Dev.solResume_same | apply Dev.Same.both (gf := false) (gs := false) | refine ite_same ?_ ?_) | split | (unfold Dev.Same; dsimp only [partOf_false]) | dsimp only

theorem execSyncReached_same {s₀ s₁ : State} {c} {t} {sense} (h : execSyncReached c t sense s₀ = .next s₁) :
    s₁.dev.Same true false true false true true s₀.dev := by
  refine onDev_same ?_ h
  intro d hd
  repeat' first | (with_reducible first | assumption | intro _ | apply Dev.solSense_same | apply Dev.solResume_same | apply Dev.Same.both (gf := false) (gs := false) | refine ite_same ?_ ?_) | split | (unfold Dev.Same; dsimp only [partOf_false]) | dsimp only

theorem execDecayDone_same {s₀ s₁ : State} {c} {t} {sense} (h : execDecayDone c t sense s₀ = .next s₁) :
    s₁.dev.Same true false true false true true s₀.dev := by
  refine onDev_same ?_ h
  intro d hd
  repeat' first | (with_reducible first | assumption | intro _ | apply Dev.solSense_same | apply Dev.solResume_same | apply Dev.setSol_same | apply Dev.Same.both (gf := false) (gs := false) | refine ite_same ?_ ?_) | split | (unfold Dev.Same; dsimp only [partOf_false]) | dsimp only

theorem execEndingDone_same {s₀ s₁ : State} {c} (h : execEndingDone c s₀ = .next s₁) :
    s₁.dev.Same true false true true true true s₀.dev := by
  refine onDev_same ?_ h
  intro d hd
  repeat' first | (with_reducible first | assumption | intro _ | apply Dev.driveBank_same | apply Dev.setSol_same | apply Dev.Same.both (gf := false) | refine ite_same ?_ ?_) | split | (unfold Dev.Same; dsimp only [partOf_false]) | dsimp only

theorem execSolOvercurrent_same {s₀ s₁ : State} {c} (h : execSolOvercurrent c s₀ = .next s₁) :
    s₁.dev.Same true false true true true true s₀.dev := by
  refine onDev_same ?_ h
  intro d hd
  repeat' first | (with_reducible first | assumption | intro _ | apply Dev.solFault_same | apply Dev.Same.both (gf := false) | refine ite_same ?_ ?_) | split | (unfold Dev.Same; dsimp only [partOf_false]) | dsimp only

theorem execClampOverheat_same {s₀ s₁ : State} {c} (h : execClampOverheat c s₀ = .next s₁) :
    s₁.dev.Same true false true true true true s₀.dev := by
  refine onDev_same ?_ h
  intro d hd
  repeat' first | (with_reducible first | assumption | intro _ | apply Dev.solFault_same | apply Dev.setSol_same | apply Dev.Same.both (gf := false) | refine ite_same ?_ ?_) | split | (unfold Dev.Same; dsimp only [partOf_false]) | dsimp only

theorem execPeakMaxExpiry_same {s₀ s₁ : State} {c} (h : execPeakMaxExpiry c s₀ = .next s₁) :
    s₁.dev.Same true false true true true true s₀.dev := by
  refine onDev_same ?_ h
  intro d hd
  repeat' first | (with_reducible first | assumption | intro _ | apply Dev.solFault_same | apply Dev.Same.both (gf := false) | refine ite_same ?_ ?_) | split | (unfold Dev.Same; dsimp only [partOf_false]) | dsimp only

theorem execBankHsOvercurrent_same {s₀ s₁ : State} {b} {ma} (h : execBankHsOvercurrent b ma s₀ = .next s₁) :
    s₁.dev.Same true false true true true true s₀.dev := by
  refine onDev_same ?_ h
  intro d hd
  repeat' first | (with_reducible first | assumption | intro _ | apply Dev.bankFault_same | apply Dev.Same.both (gf := false) | refine ite_same ?_ ?_) | split | (unfold Dev.Same; dsimp only [partOf_false]) | dsimp only

theorem execBankHsOvertemp_same {s₀ s₁ : State} {b} {ma} (h : execBankHsOvertemp b ma s₀ = .next s₁) :
    s₁.dev.Same true false true true true true s₀.dev := by
  refine onDev_same ?_ h
  intro d hd
  repeat' first | (with_reducible first | assumption | intro _ | apply Dev.bankFault_same | apply Dev.Same.both (gf := false) | refine ite_same ?_ ?_) | split | (unfold Dev.Same; dsimp only [partOf_false]) | dsimp only

theorem execShuttleSwitch_same {s₀ s₁ : State} {b} (h : execShuttleSwitch b s₀ = .next s₁) :
    s₁.dev.Same true false true true false true s₀.dev := by
  refine onDev_same ?_ h
  intro d hd
  repeat' first | (with_reducible first | assumption | intro _ | apply Dev.dropLoad_same | apply Dev.setBank_same | apply Dev.setBlock_same | apply Dev.done_same | apply Dev.raise_same | apply Dev.putRet_same | apply Dev.dput_same | apply Dev.put_same | apply Dev.Same.both (gf := false) (gn := false) | refine ite_same ?_ ?_ | refine foldl_same (fun _ _ _ => ?_) ?_ _ | refine foldl_snd2_same (fun _ _ _ => ?_) ?_ _ | refine foldl_snd_same (fun _ _ _ => ?_) ?_ _ | refine foldl_fst_same (fun _ _ _ => ?_) ?_ _) | split | (unfold Dev.Same; dsimp only [partOf_false]) | dsimp only

theorem execKickTimeout_same {s₀ s₁ : State} {f} (h : execKickTimeout f s₀ = .next s₁) :
    s₁.dev.Same true false true true true true s₀.dev := by
  refine onDev_same ?_ h
  intro d hd
  repeat' first | (with_reducible first | assumption | intro _ | apply Dev.fanRetry_same | apply Dev.fanDrive_same | apply Dev.fanTo_same | apply Dev.Same.both (gf := false) | refine ite_same ?_ ?_) | split | (unfold Dev.Same; dsimp only [partOf_false]) | dsimp only

theorem execBackoffExpiry_same {s₀ s₁ : State} {f} (h : execBackoffExpiry f s₀ = .next s₁) :
    s₁.dev.Same true false true true true true s₀.dev := by
  refine onDev_same ?_ h
  intro d hd
  repeat' first | (with_reducible first | assumption | intro _ | apply Dev.fanKick_same | apply Dev.fanDrive_same | apply Dev.Same.both (gf := false) | refine ite_same ?_ ?_) | split | (unfold Dev.Same; dsimp only [partOf_false]) | dsimp only

theorem execTachEdge_same {s₀ s₁ : State} {f} {t} (h : execTachEdge f t s₀ = .next s₁) :
    s₁.dev.Same true false true true true true s₀.dev := by
  refine onDev_same ?_ h
  intro d hd
  repeat' first | (with_reducible first | assumption | intro _ | apply Dev.setFan_same | apply Dev.Same.both (gf := false) | refine ite_same ?_ ?_) | split | (unfold Dev.Same; dsimp only [partOf_false]) | dsimp only

theorem execTachLost_same {s₀ s₁ : State} {f} {ma} (h : execTachLost f ma s₀ = .next s₁) :
    s₁.dev.Same true false true true true true s₀.dev := by
  refine onDev_same ?_ h
  intro d hd
  repeat' first | (with_reducible first | assumption | intro _ | apply Dev.fanRetry_same | apply Dev.tachLostEvent_same | apply Dev.fanFailedEvent_same | apply Dev.fanDrive_same | apply Dev.fanTo_same | apply Dev.setFan_same | apply Dev.Same.both (gf := false) | refine ite_same ?_ ?_) | split | (unfold Dev.Same; dsimp only [partOf_false]) | dsimp only

theorem execFanRun60s_same {s₀ s₁ : State} {f} (h : execFanRun60s f s₀ = .next s₁) :
    s₁.dev.Same true false true true true true s₀.dev := by
  refine onDev_same ?_ h
  intro d hd
  repeat' first | (with_reducible first | assumption | intro _ | apply Dev.setFan_same | apply Dev.Same.both (gf := false) | refine ite_same ?_ ?_) | split | (unfold Dev.Same; dsimp only [partOf_false]) | dsimp only

theorem execAoOverload_same {s₀ s₁ : State} {a} {mv} (h : execAoOverload a mv s₀ = .next s₁) :
    s₁.dev.Same true false true true true true s₀.dev := by
  refine onDev_same ?_ h
  intro d hd
  repeat' first | (with_reducible first | assumption | intro _ | apply Dev.aoFaultEvent_same | apply Dev.setAo_same | apply Dev.Same.both (gf := false) | refine ite_same ?_ ?_) | split | (unfold Dev.Same; dsimp only [partOf_false]) | dsimp only

theorem execAoOverloadClear_same {s₀ s₁ : State} {a} {mv} (h : execAoOverloadClear a mv s₀ = .next s₁) :
    s₁.dev.Same true false true true true true s₀.dev := by
  refine onDev_same ?_ h
  intro d hd
  repeat' first | (with_reducible first | assumption | intro _ | apply Dev.aoFaultEvent_same | apply Dev.setAo_same | apply Dev.Same.both (gf := false) | refine ite_same ?_ ?_) | split | (unfold Dev.Same; dsimp only [partOf_false]) | dsimp only

theorem execStitchValue_same {s₀ s₁ : State} {p} {w} {wrong} {first} (h : execStitchValue p w wrong first s₀ = .next s₁) :
    s₁.dev.Same false true false true true true s₀.dev := by
  refine onDev_same ?_ h
  intro d hd
  repeat' first | (with_reducible first | assumption | intro _ | apply Dev.receive_same | apply Dev.Same.both (gm := false) (ge := false)) | (unfold Dev.Same; dsimp only [partOf_false]) | dsimp only

theorem execStitchMemRead_same {s₀ s₁ : State} {p} {w} {wrong} {first} (h : execStitchMemRead p w wrong first s₀ = .next s₁) :
    s₁.dev.Same false true false true true true s₀.dev := by
  refine onDev_same ?_ h
  intro d hd
  repeat' first | (with_reducible first | assumption | intro _ | apply Dev.receive_same | apply Dev.Same.both (gm := false) (ge := false)) | (unfold Dev.Same; dsimp only [partOf_false]) | dsimp only

theorem execStitchMemData_same {s₀ s₁ : State} {p} {w} {wrong} {first} (h : execStitchMemData p w wrong first s₀ = .next s₁) :
    s₁.dev.Same false true false true true true s₀.dev := by
  refine onDev_same ?_ h
  intro d hd
  repeat' first | (with_reducible first | assumption | intro _ | apply Dev.receive_same | apply Dev.Same.both (gm := false) (ge := false)) | (unfold Dev.Same; dsimp only [partOf_false]) | dsimp only

theorem execStitchMemWrite_same {s₀ s₁ : State} {p} {w} {wrong} {first} (h : execStitchMemWrite p w wrong first s₀ = .next s₁) :
    s₁.dev.Same false true false true true true s₀.dev := by
  refine onDev_same ?_ h
  intro d hd
  repeat' first | (with_reducible first | assumption | intro _ | apply Dev.receive_same | apply Dev.Same.both (gm := false) (ge := false)) | (unfold Dev.Same; dsimp only [partOf_false]) | dsimp only

theorem execStitchMemAck_same {s₀ s₁ : State} {p} {w} {wrong} {first} (h : execStitchMemAck p w wrong first s₀ = .next s₁) :
    s₁.dev.Same false true false true true true s₀.dev := by
  refine onDev_same ?_ h
  intro d hd
  repeat' first | (with_reducible first | assumption | intro _ | apply Dev.receive_same | apply Dev.Same.both (gm := false) (ge := false)) | (unfold Dev.Same; dsimp only [partOf_false]) | dsimp only

theorem execStitchDoorbell_same {s₀ s₁ : State} {p} {w} {wrong} {first} (h : execStitchDoorbell p w wrong first s₀ = .next s₁) :
    s₁.dev.Same false true false true true true s₀.dev := by
  refine onDev_same ?_ h
  intro d hd
  repeat' first | (with_reducible first | assumption | intro _ | apply Dev.receive_same | apply Dev.Same.both (gm := false) (ge := false)) | (unfold Dev.Same; dsimp only [partOf_false]) | dsimp only

theorem execTokenReq_same {s₀ s₁ : State} {p} {w} {wrong} {first} (h : execTokenReq p w wrong first s₀ = .next s₁) :
    s₁.dev.Same false true false true true true s₀.dev := by
  refine onDev_same ?_ h
  intro d hd
  repeat' first | (with_reducible first | assumption | intro _ | apply Dev.receive_same | apply Dev.Same.both (gm := false) (ge := false)) | (unfold Dev.Same; dsimp only [partOf_false]) | dsimp only

theorem execTokenGrant_same {s₀ s₁ : State} {p} {w} {wrong} {first} (h : execTokenGrant p w wrong first s₀ = .next s₁) :
    s₁.dev.Same false true false true true true s₀.dev := by
  refine onDev_same ?_ h
  intro d hd
  repeat' first | (with_reducible first | assumption | intro _ | apply Dev.receive_same | apply Dev.Same.both (gm := false) (ge := false)) | (unfold Dev.Same; dsimp only [partOf_false]) | dsimp only

theorem execTokenReturn_same {s₀ s₁ : State} {p} {w} {wrong} {first} (h : execTokenReturn p w wrong first s₀ = .next s₁) :
    s₁.dev.Same false true false true true true s₀.dev := by
  refine onDev_same ?_ h
  intro d hd
  repeat' first | (with_reducible first | assumption | intro _ | apply Dev.receive_same | apply Dev.Same.both (gm := false) (ge := false)) | (unfold Dev.Same; dsimp only [partOf_false]) | dsimp only

theorem execAdmit_same {s₀ s₁ : State} {p} {w} {wrong} {first} (h : execAdmit p w wrong first s₀ = .next s₁) :
    s₁.dev.Same false true false true true true s₀.dev := by
  refine onDev_same ?_ h
  intro d hd
  repeat' first | (with_reducible first | assumption | intro _ | apply Dev.receive_same | apply Dev.Same.both (gm := false) (ge := false)) | (unfold Dev.Same; dsimp only [partOf_false]) | dsimp only

theorem execAdmitReply_same {s₀ s₁ : State} {p} {w} {wrong} {first} (h : execAdmitReply p w wrong first s₀ = .next s₁) :
    s₁.dev.Same false true false true true true s₀.dev := by
  refine onDev_same ?_ h
  intro d hd
  repeat' first | (with_reducible first | assumption | intro _ | apply Dev.receive_same | apply Dev.Same.both (gm := false) (ge := false)) | (unfold Dev.Same; dsimp only [partOf_false]) | dsimp only

theorem execTrace_same {s₀ s₁ : State} {p} {w} {wrong} {first} (h : execTrace p w wrong first s₀ = .next s₁) :
    s₁.dev.Same false true false true true true s₀.dev := by
  refine onDev_same ?_ h
  intro d hd
  repeat' first | (with_reducible first | assumption | intro _ | apply Dev.receive_same | apply Dev.Same.both (gm := false) (ge := false)) | (unfold Dev.Same; dsimp only [partOf_false]) | dsimp only

theorem execMgmt_same {s₀ s₁ : State} {p} {w} {wrong} {first} (h : execMgmt p w wrong first s₀ = .next s₁) :
    s₁.dev.Same false true false true true true s₀.dev := by
  refine onDev_same ?_ h
  intro d hd
  repeat' first | (with_reducible first | assumption | intro _ | apply Dev.receive_same | apply Dev.Same.both (gm := false) (ge := false)) | (unfold Dev.Same; dsimp only [partOf_false]) | dsimp only

theorem execIdle_same {s₀ s₁ : State} {p} {dev} {port} {numbered} (h : execIdle p dev port numbered s₀ = .next s₁) :
    s₁.dev.Same true true true true true true s₀.dev := by
  refine onDev_same ?_ h
  intro d hd
  repeat' first | (with_reducible first | assumption | intro _ | apply Dev.setNbr_same | apply Dev.Same.both | refine ite_same ?_ ?_) | split | (unfold Dev.Same; dsimp only [partOf_false]) | dsimp only

theorem execAck_same {s₀ s₁ : State} {p} {count} {nak} {ns} (h : execAck p count nak ns s₀ = .next s₁) :
    s₁.dev.Same false true false true true true s₀.dev := by
  refine onDev_same ?_ h
  intro d hd
  repeat' first | (with_reducible first | assumption | intro _ | apply Dev.linkError_same | apply Dev.pump_same | apply Dev.readRetries_same | apply Dev.setPort_same | apply Dev.emit_same | apply Dev.bump_same | apply Dev.Same.both (gm := false) (ge := false) | refine ite_same ?_ ?_ | refine foldl_same (fun _ _ _ => ?_) ?_ _ | refine foldl_snd2_same (fun _ _ _ => ?_) ?_ _ | refine foldl_snd_same (fun _ _ _ => ?_) ?_ _ | refine foldl_fst_same (fun _ _ _ => ?_) ?_ _) | split | (unfold Dev.Same; dsimp only [partOf_false]) | dsimp only

theorem execCredit_same {s₀ s₁ : State} {p} {cls} {n} (h : execCredit p cls n s₀ = .next s₁) :
    s₁.dev.Same true true true true true true s₀.dev := by
  refine onDev_same ?_ h
  intro d hd
  repeat' first | (with_reducible first | assumption | intro _ | apply Dev.pump_same | apply Dev.setPort_same | apply Dev.put_same | apply Dev.Same.both | refine ite_same ?_ ?_) | split | (unfold Dev.Same; dsimp only [partOf_false]) | dsimp only

theorem execTime_same {s₀ s₁ : State} {p} {low} {ns} (h : execTime p low ns s₀ = .next s₁) :
    s₁.dev.Same true true true true true true s₀.dev := by
  refine onDev_same ?_ h
  intro d hd
  repeat' first | (with_reducible first | assumption | intro _ | apply Dev.takeOffset_same | apply Dev.flood_same | apply Dev.put_same | apply Dev.Same.both | refine ite_same ?_ ?_) | split | (unfold Dev.Same; dsimp only [partOf_false]) | dsimp only

theorem execDelay_same {s₀ s₁ : State} {p} {n} {response} {rx} {tx} (h : execDelay p n response rx tx s₀ = .next s₁) :
    s₁.dev.Same true true true true true true s₀.dev := by
  refine onDev_same ?_ h
  intro d hd
  repeat' first | (with_reducible first | assumption | intro _ | apply Dev.sendControl_same | apply Dev.setPort_same | apply Dev.emit_same | apply Dev.Same.both | refine ite_same ?_ ?_) | split | (unfold Dev.Same; dsimp only [partOf_false]) | dsimp only

theorem execFreeze_same {s₀ s₁ : State} {p} {f} (h : execFreeze p f s₀ = .next s₁) :
    s₁.dev.Same true true true true true true s₀.dev := by
  refine onDev_same ?_ h
  intro d hd
  repeat' first | (with_reducible first | assumption | intro _ | apply Dev.setFrz_same | apply Dev.floodQuilt_same | apply Dev.Same.both | refine ite_same ?_ ?_) | split | (unfold Dev.Same; dsimp only [partOf_false]) | dsimp only

theorem execThaw_same {s₀ s₁ : State} {p} {f} (h : execThaw p f s₀ = .next s₁) :
    s₁.dev.Same true true true true true true s₀.dev := by
  refine onDev_same ?_ h
  intro d hd
  repeat' first | (with_reducible first | assumption | intro _ | apply Dev.setFrz_same | apply Dev.floodQuilt_same | apply Dev.Same.both | refine ite_same ?_ ?_) | split | (unfold Dev.Same; dsimp only [partOf_false]) | dsimp only

theorem execAudit_same {s₀ s₁ : State} {p} {cls} {credits} {count} (h : execAudit p cls credits count s₀ = .next s₁) :
    s₁.dev.Same false true false true true true s₀.dev := by
  refine onDev_same ?_ h
  intro d hd
  repeat' first | (with_reducible first | assumption | intro _ | apply Dev.linkUp_same | apply Dev.sendAudit_same | apply Dev.linkDown_same | apply Dev.endAudits_same | apply Dev.setPort_same | apply Dev.raise_same | apply Dev.put_same | apply Dev.Same.both (gm := false) (ge := false) | refine ite_same ?_ ?_) | split | (unfold Dev.Same; dsimp only [partOf_false]) | dsimp only

theorem execDown_same {s₀ s₁ : State} {p} {cause} (h : execDown p cause s₀ = .next s₁) :
    s₁.dev.Same false true false true true true s₀.dev := by
  refine onDev_same ?_ h
  intro d hd
  repeat' first | (with_reducible first | assumption | intro _ | apply Dev.linkDown_same | apply Dev.Same.both (gm := false) (ge := false) | refine ite_same ?_ ?_) | split | (unfold Dev.Same; dsimp only [partOf_false]) | dsimp only

theorem execTrain_same {s₀ s₁ : State} {p} {dev} {port} {numbered} {looped} {used} {cands} (h : execTrain p dev port numbered looped used cands s₀ = .next s₁) :
    s₁.dev.Same true true true true true true s₀.dev := by
  refine onDev_same ?_ h
  intro d hd
  repeat' first | (with_reducible first | assumption | intro _ | apply Dev.trainCounts_same | apply Dev.quiltTrain_same | apply Dev.sendAudits_same | apply Dev.setNbr_same | apply Dev.setPortState_same | apply Dev.Same.both | refine ite_same ?_ ?_) | split | (unfold Dev.Same; dsimp only [partOf_false]) | dsimp only

theorem execLinkSilence_same {s₀ s₁ : State} {p} (h : execLinkSilence p s₀ = .next s₁) :
    s₁.dev.Same false true false true true true s₀.dev := by
  refine onDev_same ?_ h
  intro d hd
  repeat' first | (with_reducible first | assumption | intro _ | apply Dev.linkDown_same | apply Dev.Same.both (gm := false) (ge := false) | refine ite_same ?_ ?_) | split | (unfold Dev.Same; dsimp only [partOf_false]) | dsimp only

theorem execSeamLos_same {s₀ s₁ : State} {p} {high} (h : execSeamLos p high s₀ = .next s₁) :
    s₁.dev.Same false true false true true true s₀.dev := by
  refine onDev_same ?_ h
  intro d hd
  repeat' first | (with_reducible first | assumption | intro _ | apply Dev.applyLos_same | apply Dev.putBit_same | apply Dev.Same.both (gm := false) (ge := false) | refine ite_same ?_ ?_) | split | (unfold Dev.Same; dsimp only [partOf_false]) | dsimp only

theorem execReceiverAligned_same {s₀ s₁ : State} {p} (h : execReceiverAligned p s₀ = .next s₁) :
    s₁.dev.Same true true true true true true s₀.dev := by
  refine onDev_same ?_ h
  intro d hd
  repeat' first | (with_reducible first | assumption | intro _ | apply Dev.emit_same | apply Dev.put_same | apply Dev.Same.both | refine ite_same ?_ ?_) | split | (unfold Dev.Same; dsimp only [partOf_false]) | dsimp only

theorem execTrainingTimeout_same {s₀ s₁ : State} {p} (h : execTrainingTimeout p s₀ = .next s₁) :
    s₁.dev.Same true true true true true true s₀.dev := by
  refine onDev_same ?_ h
  intro d hd
  repeat' first | (with_reducible first | assumption | intro _ | apply Dev.setPort_same | apply Dev.put_same | apply Dev.Same.both | refine ite_same ?_ ?_) | split | (unfold Dev.Same; dsimp only [partOf_false]) | dsimp only

theorem execTrainingIdleEnd_same {s₀ s₁ : State} {p} (h : execTrainingIdleEnd p s₀ = .next s₁) :
    s₁.dev.Same true true true true true true s₀.dev := by
  refine onDev_same ?_ h
  intro d hd
  repeat' first | (with_reducible first | assumption | intro _ | apply Dev.enterTraining_same | apply Dev.Same.both | refine ite_same ?_ ?_) | split | (unfold Dev.Same; dsimp only [partOf_false]) | dsimp only

theorem execDownSendEnd_same {s₀ s₁ : State} {p} (h : execDownSendEnd p s₀ = .next s₁) :
    s₁.dev.Same true true true true true true s₀.dev := by
  refine onDev_same ?_ h
  intro d hd
  repeat' first | (with_reducible first | assumption | intro _ | apply Dev.enterTraining_same | apply Dev.setPort_same | apply Dev.Same.both | refine ite_same ?_ ?_) | split | (unfold Dev.Same; dsimp only [partOf_false]) | dsimp only

theorem execRevertTimer_same {s₀ s₁ : State} {p} (h : execRevertTimer p s₀ = .next s₁) :
    s₁.dev.Same true true true true true true s₀.dev := by
  refine onDev_same ?_ h
  intro d hd
  repeat' first | (with_reducible first | assumption | intro _ | apply Dev.reroute_same | apply Dev.pump_same | apply Dev.Same.both | refine ite_same ?_ ?_) | split | (unfold Dev.Same; dsimp only [partOf_false]) | dsimp only

theorem execGapWaitExpiry_same {s₀ s₁ : State} {src} {flow} {cls} (h : execGapWaitExpiry src flow cls s₀ = .next s₁) :
    s₁.dev.Same false true false true true true s₀.dev := by
  refine onDev_same ?_ h
  intro d hd
  repeat' first | (with_reducible first | assumption | intro _ | apply Dev.drainFlow_same | apply Dev.setFlowRec_same | apply Dev.raiseLimited_same | apply Dev.bump_same | apply Dev.Same.both (gm := false) (ge := false) | refine ite_same ?_ ?_) | split | (unfold Dev.Same; dsimp only [partOf_false]) | dsimp only

theorem execUnreachableDiscard_same {s₀ s₁ : State} {dest} {cls} (h : execUnreachableDiscard dest cls s₀ = .next s₁) :
    s₁.dev.Same true true true true true true s₀.dev := by
  refine onDev_same ?_ h
  intro d hd
  repeat' first | (with_reducible first | assumption | intro _ | apply Dev.freeItem_same | apply Dev.fail_same | apply Dev.raiseLimited_same | apply Dev.Same.both | refine ite_same ?_ ?_ | refine foldl_same (fun _ _ _ => ?_) ?_ _ | refine foldl_snd2_same (fun _ _ _ => ?_) ?_ _ | refine foldl_snd_same (fun _ _ _ => ?_) ?_ _ | refine foldl_fst_same (fun _ _ _ => ?_) ?_ _) | split | (unfold Dev.Same; dsimp only [partOf_false]) | dsimp only

theorem execTokenIdleReturn_same {s₀ s₁ : State} {dest} {cls} (h : execTokenIdleReturn dest cls s₀ = .next s₁) :
    s₁.dev.Same true true true true true true s₀.dev := by
  refine onDev_same ?_ h
  intro d hd
  repeat' first | (with_reducible first | assumption | intro _ | apply Dev.sendControl_same | apply Dev.setTokens_same | apply Dev.Same.both | refine ite_same ?_ ?_) | split | (unfold Dev.Same; dsimp only [partOf_false]) | dsimp only

theorem execClass2Timeout_same {s₀ s₁ : State} {id} (h : execClass2Timeout id s₀ = .next s₁) :
    s₁.dev.Same true true true true true true s₀.dev := by
  refine onDev_same ?_ h
  intro d hd
  repeat' first | (with_reducible first | assumption | intro _ | apply Dev.freeItem_same | apply Dev.fail_same | apply Dev.Same.both | refine ite_same ?_ ?_ | refine foldl_same (fun _ _ _ => ?_) ?_ _ | refine foldl_snd2_same (fun _ _ _ => ?_) ?_ _ | refine foldl_snd_same (fun _ _ _ => ?_) ?_ _ | refine foldl_fst_same (fun _ _ _ => ?_) ?_ _) | split | (unfold Dev.Same; dsimp only [partOf_false]) | dsimp only

theorem execAdmitTimeout_same {s₀ s₁ : State} {id} (h : execAdmitTimeout id s₀ = .next s₁) :
    s₁.dev.Same true true true true true true s₀.dev := by
  refine onDev_same ?_ h
  intro d hd
  repeat' first | (with_reducible first | assumption | intro _ | apply Dev.endFlowOpen_same | apply Dev.Same.both | refine ite_same ?_ ?_) | split | (unfold Dev.Same; dsimp only [partOf_false]) | dsimp only

theorem execTackSlot_same {s₀ s₁ : State} {p} {j} (h : execTackSlot p j s₀ = .next s₁) :
    s₁.dev.Same true true true true true true s₀.dev := by
  refine onDev_same ?_ h
  intro d hd
  repeat' first | (with_reducible first | assumption | intro _ | apply Dev.sendOn_same | apply Dev.freeItem_same | apply Dev.setPort_same | apply Dev.Same.both | refine ite_same ?_ ?_) | split | (unfold Dev.Same; dsimp only [partOf_false]) | dsimp only

theorem execTimeMarkerSend_same {s₀ s₁ : State} (h : execTimeMarkerSend s₀ = .next s₁) :
    s₁.dev.Same true true true true true true s₀.dev := by
  refine onDev_same ?_ h
  intro d hd
  repeat' first | (with_reducible first | assumption | intro _ | apply Dev.flood_same | apply Dev.Same.both | refine ite_same ?_ ?_) | split | (unfold Dev.Same; dsimp only [partOf_false]) | dsimp only

theorem execMasterLost_same {s₀ s₁ : State} {cands} (h : execMasterLost cands s₀ = .next s₁) :
    s₁.dev.Same true true true true true true s₀.dev := by
  refine onDev_same ?_ h
  intro d hd
  repeat' first | (with_reducible first | assumption | intro _ | apply Dev.elect_same | apply Dev.put_same | apply Dev.Same.both | refine ite_same ?_ ?_) | split | (unfold Dev.Same; dsimp only [partOf_false]) | dsimp only

theorem execDelayExchange_same {s₀ s₁ : State} {p} {tx} (h : execDelayExchange p tx s₀ = .next s₁) :
    s₁.dev.Same true true true true true true s₀.dev := by
  refine onDev_same ?_ h
  intro d hd
  repeat' first | (with_reducible first | assumption | intro _ | apply Dev.setPort_same | apply Dev.emit_same | apply Dev.Same.both | refine ite_same ?_ ?_) | split | (unfold Dev.Same; dsimp only [partOf_false]) | dsimp only

theorem execRringFetchRetry_same {s₀ s₁ : State} (h : execRringFetchRetry s₀ = .next s₁) :
    s₁.dev.Same true true true true true true s₀.dev := by
  refine onDev_same ?_ h
  intro d hd
  repeat' first | (with_reducible first | assumption | intro _ | apply Dev.remoteFetchAll_same | apply Dev.readHeads_same | apply Dev.Same.both | refine ite_same ?_ ?_) | split | (unfold Dev.Same; dsimp only [partOf_false]) | dsimp only

theorem execDescriptorFetched_same {s₀ s₁ : State} {q} {ds} (h : execDescriptorFetched q ds s₀ = .next s₁) :
    s₁.dev.Same true true true true true true s₀.dev := by
  refine onDev_same ?_ h
  intro d hd
  repeat' first | (with_reducible first | assumption | intro _ | apply Dev.takeDesc_same | apply Dev.ringFault_same | apply Dev.fail_same | apply Dev.put_same | apply Dev.Same.both | refine ite_same ?_ ?_ | refine foldl_same (fun _ _ _ => ?_) ?_ _ | refine foldl_snd2_same (fun _ _ _ => ?_) ?_ _ | refine foldl_snd_same (fun _ _ _ => ?_) ?_ _ | refine foldl_fst_same (fun _ _ _ => ?_) ?_ _) | split | (unfold Dev.Same; dsimp only [partOf_false]) | dsimp only

theorem execFetchTimeout_same {s₀ s₁ : State} {q} (h : execFetchTimeout q s₀ = .next s₁) :
    s₁.dev.Same true true true true true true s₀.dev := by
  refine onDev_same ?_ h
  intro d hd
  repeat' first | (with_reducible first | assumption | intro _ | apply Dev.ringFault_same | apply Dev.Same.both | refine ite_same ?_ ?_) | split | (unfold Dev.Same; dsimp only [partOf_false]) | dsimp only

theorem execCompletionWrite_same {s₀ s₁ : State} {c} (h : execCompletionWrite c s₀ = .next s₁) :
    s₁.dev.Same true true true true true true s₀.dev := by
  refine onDev_same ?_ h
  intro d hd
  repeat' first | (with_reducible first | assumption | intro _ | apply Dev.writeCompletion_same | apply Dev.Same.both | refine ite_same ?_ ?_) | split | (unfold Dev.Same; dsimp only [partOf_false]) | dsimp only

theorem execMsixHoldoffEnd_same {s₀ s₁ : State} {r} (h : execMsixHoldoffEnd r s₀ = .next s₁) :
    s₁.dev.Same true true true true true true s₀.dev := by
  refine onDev_same ?_ h
  intro d hd
  repeat' first | (with_reducible first | assumption | intro _ | apply Dev.ringSignal_same | apply Dev.Same.both | refine ite_same ?_ ?_) | split | (unfold Dev.Same; dsimp only [partOf_false]) | dsimp only

theorem execEventWrite_same {s₀ s₁ : State} (h : execEventWrite s₀ = .next s₁) :
    s₁.dev.Same true true true true true true s₀.dev := by
  refine onDev_same ?_ h
  intro d hd
  repeat' first | (with_reducible first | assumption | intro _ | apply Dev.writeEvent_same | apply Dev.readHeads_same | apply Dev.Same.both | refine ite_same ?_ ?_) | split | (unfold Dev.Same; dsimp only [partOf_false]) | dsimp only

theorem execTraceRecordWrite_same {s₀ s₁ : State} {c} (h : execTraceRecordWrite c s₀ = .next s₁) :
    s₁.dev.Same false true false true true true s₀.dev := by
  refine onDev_same ?_ h
  intro d hd
  repeat' first | (with_reducible first | assumption | intro _ | refine Dev.chalkRead_same_of ?_ (by assumption) | apply Dev.chalkRead_same | apply Dev.putTrace_same | apply Dev.chalkEnd_same | apply Dev.setChalk_same | apply Dev.post_same | apply Dev.wrapUp_same | apply Dev.put_same | apply Dev.Same.both (gm := false) (ge := false) | refine ite_same ?_ ?_) | split | (unfold Dev.Same; dsimp only [partOf_false]) | dsimp only

theorem execTailWriteback_same {s₀ s₁ : State} {t} (h : execTailWriteback t s₀ = .next s₁) :
    s₁.dev.Same true true true true true true s₀.dev := by
  refine onDev_same ?_ h
  intro d hd
  repeat' first | (with_reducible first | assumption | intro _ | apply Dev.ringSignal_same | apply Dev.emit_same | apply Dev.Same.both | refine ite_same ?_ ?_) | split | (unfold Dev.Same; dsimp only [partOf_false]) | dsimp only

theorem execHostLost_same {s₀ s₁ : State} (h : execHostLost s₀ = .next s₁) :
    s₁.dev.Same true true true true true true s₀.dev := by
  refine onDev_same ?_ h
  intro d hd
  repeat' first | (with_reducible first | assumption | intro _ | apply Dev.enterLost_same | apply Dev.Same.both | refine ite_same ?_ ?_) | split | (unfold Dev.Same; dsimp only [partOf_false]) | dsimp only

theorem execPcieReset_same {s₀ s₁ : State} {kind} (h : execPcieReset kind s₀ = .next s₁) :
    s₁.dev.Same false true false true true true s₀.dev := by
  refine onDev_same ?_ h
  intro d hd
  repeat' first | (with_reducible first | assumption | intro _ | apply Dev.pcieEvent_same | apply Dev.linkDown_same | apply Dev.Same.both (gm := false) (ge := false)) | split | (unfold Dev.Same; dsimp only [partOf_false]) | dsimp only

theorem execPciePerstN_same {s₀ s₁ : State} (h : execPciePerstN s₀ = .next s₁) :
    s₁.dev.Same true true true true true true s₀.dev := by
  refine onDev_same ?_ h
  intro d hd
  repeat' first | (with_reducible first | assumption | intro _ | apply Dev.pcieEvent_same | apply Dev.Same.both) | (unfold Dev.Same; dsimp only [partOf_false]) | dsimp only

theorem execPcieLink_same {s₀ s₁ : State} {speed} {width} (h : execPcieLink speed width s₀ = .next s₁) :
    s₁.dev.Same true true true true true true s₀.dev := by
  refine onDev_same ?_ h
  intro d hd
  repeat' first | (with_reducible first | assumption | intro _ | apply Dev.pcieUp_same | apply Dev.Same.both | refine ite_same ?_ ?_) | split | (unfold Dev.Same; dsimp only [partOf_false]) | dsimp only

theorem execMstpFrame_same {s₀ s₁ : State} {n} {kind} {dest} {src} {data} {crcOk} (h : execMstpFrame n kind dest src data crcOk s₀ = .next s₁) :
    s₁.dev.Same true true true false true true s₀.dev := by
  refine onDev_same ?_ h
  intro d hd
  repeat' first | (with_reducible first | assumption | intro _ | apply Dev.mstpInWait_same | apply Dev.mstpTake_same | apply Dev.mstpReplied_same | apply Dev.mstpToken_same | apply Dev.passToken_same | apply Dev.mstpInit_same | apply Dev.mstpRing_same | apply Dev.mstpEmit_same | apply Dev.failSend_same | apply Dev.busCrc_same | apply Dev.busMark_same | apply Dev.setBus_same | apply Dev.raise_same | apply Dev.put_same | apply Dev.Same.both (gs := false) | refine ite_same ?_ ?_) | split | (unfold Dev.Same; dsimp only [partOf_false]) | dsimp only

theorem execMstpReplyWaitExpiry_same {s₀ s₁ : State} {n} (h : execMstpReplyWaitExpiry n s₀ = .next s₁) :
    s₁.dev.Same true true true false true true s₀.dev := by
  refine onDev_same ?_ h
  intro d hd
  repeat' first | (with_reducible first | assumption | intro _ | apply Dev.mstpEmit_same | apply Dev.setBus_same | apply Dev.Same.both (gs := false) | refine ite_same ?_ ?_) | split | (unfold Dev.Same; dsimp only [partOf_false]) | dsimp only

theorem execMstpReplyTimeout_same {s₀ s₁ : State} {n} (h : execMstpReplyTimeout n s₀ = .next s₁) :
    s₁.dev.Same true true true false true true s₀.dev := by
  refine onDev_same ?_ h
  intro d hd
  repeat' first | (with_reducible first | assumption | intro _ | apply Dev.mstpReplied_same | apply Dev.failSend_same | apply Dev.busTimeout_same | apply Dev.setBus_same | apply Dev.Same.both (gs := false) | refine ite_same ?_ ?_) | split | (unfold Dev.Same; dsimp only [partOf_false]) | dsimp only

theorem execMstpSilenceEnd_same {s₀ s₁ : State} {n} (h : execMstpSilenceEnd n s₀ = .next s₁) :
    s₁.dev.Same true true true false true true s₀.dev := by
  refine onDev_same ?_ h
  intro d hd
  repeat' first | (with_reducible first | assumption | intro _ | apply Dev.mstpInit_same | apply Dev.busMark_same | apply Dev.Same.both (gs := false) | refine ite_same ?_ ?_) | split | (unfold Dev.Same; dsimp only [partOf_false]) | dsimp only

theorem execModbusPollDue_same {s₀ s₁ : State} {n} {e} (h : execModbusPollDue n e s₀ = .next s₁) :
    s₁.dev.Same true true true false true true s₀.dev := by
  refine onDev_same ?_ h
  intro d hd
  repeat' first | (with_reducible first | assumption | intro _ | apply Dev.mbStart_same | apply Dev.setBus_same | apply Dev.Same.both (gs := false) | refine ite_same ?_ ?_) | split | (unfold Dev.Same; dsimp only [partOf_false]) | dsimp only

theorem execModbusResponse_same {s₀ s₁ : State} {n} {bytes} {good} (h : execModbusResponse n bytes good s₀ = .next s₁) :
    s₁.dev.Same false true true false true true s₀.dev := by
  refine onDev_same ?_ h
  intro d hd
  repeat' first | (with_reducible first | assumption | intro _ | apply Dev.mbFailed_same | apply Dev.entryResponse_same | apply Dev.mbEnd_same | apply Dev.endSend_same | apply Dev.busCrc_same | apply Dev.busFraming_same | apply Dev.Same.both (gm := false) (gs := false) | refine ite_same ?_ ?_) | split | (unfold Dev.Same; dsimp only [partOf_false]) | dsimp only

theorem execModbusTimeout_same {s₀ s₁ : State} {n} (h : execModbusTimeout n s₀ = .next s₁) :
    s₁.dev.Same false true true false true true s₀.dev := by
  refine onDev_same ?_ h
  intro d hd
  repeat' first | (with_reducible first | assumption | intro _ | apply Dev.mbFailed_same | apply Dev.mbStart_same | apply Dev.busTimeout_same | apply Dev.setBus_same | apply Dev.Same.both (gm := false) (gs := false) | refine ite_same ?_ ?_) | split | (unfold Dev.Same; dsimp only [partOf_false]) | dsimp only

theorem execModbusGap_same {s₀ s₁ : State} {n} (h : execModbusGap n s₀ = .next s₁) :
    s₁.dev.Same false true true false true true s₀.dev := by
  refine onDev_same ?_ h
  intro d hd
  repeat' first | (with_reducible first | assumption | intro _ | apply Dev.mbFailed_same | apply Dev.busFraming_same | apply Dev.Same.both (gm := false) (gs := false) | refine ite_same ?_ ?_) | split | (unfold Dev.Same; dsimp only [partOf_false]) | dsimp only

theorem execRawFrameEnd_same {s₀ s₁ : State} {n} {bytes} {good} (h : execRawFrameEnd n bytes good s₀ = .next s₁) :
    s₁.dev.Same true true true false true true s₀.dev := by
  refine onDev_same ?_ h
  intro d hd
  repeat' first | (with_reducible first | assumption | intro _ | apply Dev.busDeliver_same | apply Dev.busFraming_same | apply Dev.Same.both (gs := false) | refine ite_same ?_ ?_) | split | (unfold Dev.Same; dsimp only [partOf_false]) | dsimp only

theorem execT1lFrame_same {s₀ s₁ : State} {k} {bytes} {good} (h : execT1lFrame k bytes good s₀ = .next s₁) :
    s₁.dev.Same true true true false true true s₀.dev := by
  refine onDev_same ?_ h
  intro d hd
  repeat' first | (with_reducible first | assumption | intro _ | apply Dev.busDeliver_same | apply Dev.busFraming_same | apply Dev.busCrc_same | apply Dev.Same.both (gs := false) | refine ite_same ?_ ?_) | split | (unfold Dev.Same; dsimp only [partOf_false]) | dsimp only

theorem execT1lLink_same {s₀ s₁ : State} {k} {up} {high} {sqi} (h : execT1lLink k up high sqi s₀ = .next s₁) :
    s₁.dev.Same true true true false true true s₀.dev := by
  refine onDev_same ?_ h
  intro d hd
  repeat' first | (with_reducible first | assumption | intro _ | apply Dev.plainStart_same | apply Dev.busTimeout_same | apply Dev.raise_same | apply Dev.putBit_same | apply Dev.put_same | apply Dev.Same.both (gs := false) | refine ite_same ?_ ?_) | split | (unfold Dev.Same; dsimp only [partOf_false]) | dsimp only

theorem execPageWriteDone_same {s₀ s₁ : State} {b} (h : execPageWriteDone b s₀ = .next s₁) :
    s₁.dev.Same false true false false false true s₀.dev := by
  refine onDev_same ?_ h
  intro d hd
  repeat' first | (with_reducible first | assumption | intro _ | apply Dev.logWritten_same | apply Dev.putSlot_same | apply Dev.dropWrite_same | apply Dev.commitPage_same | apply Dev.kickWrites_same | apply Dev.patSlotWritten_same | apply Dev.done_same | apply Dev.Same.both (gm := false) (ge := false) (gs := false) (gn := false) | refine ite_same ?_ ?_) | split | (unfold Dev.Same; dsimp only [partOf_false]) | dsimp only

theorem execEnergyWaitEnd_same {s₀ s₁ : State} {vhold} (h : execEnergyWaitEnd vhold s₀ = .next s₁) :
    s₁.dev.Same true true true true false true s₀.dev := by
  refine onDev_same ?_ h
  intro d hd
  repeat' first | (with_reducible first | assumption | intro _ | apply Dev.kickWrites_same | apply Dev.put_same | apply Dev.Same.both (gn := false) | refine ite_same ?_ ?_) | split | (unfold Dev.Same; dsimp only [partOf_false]) | dsimp only

theorem execNvmWriteTimeout_same {s₀ s₁ : State} {id} (h : execNvmWriteTimeout id s₀ = .next s₁) :
    s₁.dev.Same true true true true false true s₀.dev := by
  refine onDev_same ?_ h
  intro d hd
  repeat' first | (with_reducible first | assumption | intro _ | apply Dev.dropWrite_same | apply Dev.kickWrites_same | apply Dev.fail_same | apply Dev.Same.both (gn := false) | refine ite_same ?_ ?_) | split | (unfold Dev.Same; dsimp only [partOf_false]) | dsimp only

theorem execRecordCommit_same {s₀ s₁ : State} {r} (h : execRecordCommit r s₀ = .next s₁) :
    s₁.dev.Same true true true true false true s₀.dev := by
  refine onDev_same ?_ h
  intro d hd
  repeat' first | (with_reducible first | assumption | intro _ | apply Dev.recCommitted_same | refine Dev.writeRecord_same_of ?_ (by assumption) | apply Dev.writeRecord_same | apply Dev.Same.both (gn := false) | refine ite_same ?_ ?_) | split | (unfold Dev.Same; dsimp only [partOf_false]) | dsimp only

theorem execConfigBlockStore_same {s₀ s₁ : State} {key} (h : execConfigBlockStore key s₀ = .next s₁) :
    s₁.dev.Same true true true true false true s₀.dev := by
  refine onDev_same ?_ h
  intro d hd
  repeat' first | (with_reducible first | assumption | intro _ | refine Dev.storeAt_same_of ?_ (by assumption) | apply Dev.storeAt_same | apply Dev.recCommitted_same | apply Dev.done_same | apply Dev.Same.both (gn := false) | refine ite_same ?_ ?_) | split | (unfold Dev.Same; dsimp only [partOf_false]) | dsimp only

theorem execCheckpoint_same {s₀ s₁ : State} (h : execCheckpoint s₀ = .next s₁) :
    s₁.dev.Same false true true true false true s₀.dev := by
  refine onDev_same ?_ h
  intro d hd
  repeat' first | (with_reducible first | assumption | intro _ | apply Dev.saveStart_same | apply Dev.Same.both (gm := false) (gn := false) | refine ite_same ?_ ?_) | split | (unfold Dev.Same; dsimp only [partOf_false]) | dsimp only

theorem execGroupRefresh_same {s₀ s₁ : State} {g} {e0} {e1} (h : execGroupRefresh g e0 e1 s₀ = .next s₁) :
    s₁.dev.Same true true true true false true s₀.dev := by
  refine onDev_same ?_ h
  intro d hd
  repeat' first | (with_reducible first | assumption | intro _ | refine Dev.nvmGroup_same_of ?_ (by assumption) | apply Dev.nvmGroup_same | apply Dev.nvmUpset_same | apply Dev.setGroup_same | apply Dev.Same.both (gn := false) | refine ite_same ?_ ?_) | split | (unfold Dev.Same; dsimp only [partOf_false]) | dsimp only

theorem execLockoutEnd_same {s₀ s₁ : State} {r} {kind} (h : execLockoutEnd r kind s₀ = .next s₁) :
    s₁.dev.Same true true true true false true s₀.dev := by
  refine onDev_same ?_ h
  intro d hd
  repeat' first | (with_reducible first | assumption | intro _ | apply Dev.Same.both (gn := false) | refine ite_same ?_ ?_) | split | (unfold Dev.Same; dsimp only [partOf_false]) | dsimp only

theorem execPhaseBoundary_same {s₀ s₁ : State} {die} {duty} (h : execPhaseBoundary die duty s₀ = .next s₁) :
    s₁.dev.Same false true true false true true s₀.dev := by
  refine onDev_same ?_ h
  intro d hd
  repeat' first | (with_reducible first | assumption | intro _ | apply Dev.panelSwitch_same | apply Dev.panelPhaseEnd_same | apply Dev.panelDrive_same | apply Dev.panelBegin_same | apply Dev.panelBand_same | apply Dev.setPanel_same | apply Dev.touchValue_same | apply Dev.Same.both (gm := false) (gs := false) | refine ite_same ?_ ?_ | refine foldl_same (fun _ _ _ => ?_) ?_ _ | refine foldl_snd2_same (fun _ _ _ => ?_) ?_ _ | refine foldl_snd_same (fun _ _ _ => ?_) ?_ _ | refine foldl_fst_same (fun _ _ _ => ?_) ?_ _) | split | (unfold Dev.Same; dsimp only [partOf_false]) | dsimp only

theorem execRailInRegulation_same {s₀ s₁ : State} (h : execRailInRegulation s₀ = .next s₁) :
    s₁.dev.Same true true true false true true s₀.dev := by
  refine onDev_same ?_ h
  intro d hd
  repeat' first | (with_reducible first | assumption | intro _ | apply Dev.setPanel_same | apply Dev.Same.both (gs := false) | refine ite_same ?_ ?_) | split | (unfold Dev.Same; dsimp only [partOf_false]) | dsimp only

theorem execRailStartTimeout_same {s₀ s₁ : State} {mv} (h : execRailStartTimeout mv s₀ = .next s₁) :
    s₁.dev.Same true true true false true true s₀.dev := by
  refine onDev_same ?_ h
  intro d hd
  repeat' first | (with_reducible first | assumption | intro _ | apply Dev.panelFault_same | apply Dev.Same.both (gs := false) | refine ite_same ?_ ?_) | split | (unfold Dev.Same; dsimp only [partOf_false]) | dsimp only

theorem execRailFault_same {s₀ s₁ : State} {rail} {mv} (h : execRailFault rail mv s₀ = .next s₁) :
    s₁.dev.Same true true true false true true s₀.dev := by
  refine onDev_same ?_ h
  intro d hd
  repeat' first | (with_reducible first | assumption | intro _ | apply Dev.panelFault_same | apply Dev.Same.both (gs := false) | refine ite_same ?_ ?_) | split | (unfold Dev.Same; dsimp only [partOf_false]) | dsimp only

theorem execRailHoldExpiry_same {s₀ s₁ : State} (h : execRailHoldExpiry s₀ = .next s₁) :
    s₁.dev.Same true true true false true true s₀.dev := by
  refine onDev_same ?_ h
  intro d hd
  repeat' first | (with_reducible first | assumption | intro _ | apply Dev.panelFall_same | apply Dev.Same.both (gs := false) | refine ite_same ?_ ?_) | split | (unfold Dev.Same; dsimp only [partOf_false]) | dsimp only

theorem execFrontlightFault_same {s₀ s₁ : State} {volts} {ms} (h : execFrontlightFault volts ms s₀ = .next s₁) :
    s₁.dev.Same true true true false true true s₀.dev := by
  refine onDev_same ?_ h
  intro d hd
  repeat' first | (with_reducible first | assumption | intro _ | apply Dev.showFrontlight_same | apply Dev.raiseLimited_same | apply Dev.put_same | apply Dev.Same.both (gs := false) | refine ite_same ?_ ?_) | split | (unfold Dev.Same; dsimp only [partOf_false]) | dsimp only

theorem execFrontlightRetry_same {s₀ s₁ : State} {volts} (h : execFrontlightRetry volts s₀ = .next s₁) :
    s₁.dev.Same true true true false true true s₀.dev := by
  refine onDev_same ?_ h
  intro d hd
  repeat' first | (with_reducible first | assumption | intro _ | apply Dev.showFrontlight_same | apply Dev.raiseLimited_same | apply Dev.put_same | apply Dev.Same.both (gs := false) | refine ite_same ?_ ?_) | split | (unfold Dev.Same; dsimp only [partOf_false]) | dsimp only

theorem execKeyRowWake_same {s₀ s₁ : State} (h : execKeyRowWake s₀ = .next s₁) :
    s₁.dev.Same true true true false true true s₀.dev := by
  refine onDev_same ?_ h
  intro d hd
  repeat' first | (with_reducible first | assumption | intro _ | apply Dev.wakeScanner_same | apply Dev.Same.both (gs := false) | refine ite_same ?_ ?_) | split | (unfold Dev.Same; dsimp only [partOf_false]) | dsimp only

theorem execKeyScan_same {s₀ s₁ : State} {raw} (h : execKeyScan raw s₀ = .next s₁) :
    s₁.dev.Same true true true false true true s₀.dev := by
  refine onDev_same ?_ h
  intro d hd
  repeat' first | (with_reducible first | assumption | intro _ | apply Dev.applyKeyLocks_same | refine Dev.guardKeys_same_of ?_ (by assumption) | apply Dev.guardKeys_same | refine Dev.sampleKey_same_of ?_ (by assumption) | apply Dev.sampleKey_same | apply Dev.unlockPress_same | apply Dev.keyChange_same | apply Dev.showKeys_same | apply Dev.publishKeys_same | apply Dev.Same.both (gs := false) | refine ite_same ?_ ?_ | refine foldl_same (fun _ _ _ => ?_) ?_ _ | refine foldl_snd2_same (fun _ _ _ => ?_) ?_ _ | refine foldl_snd_same (fun _ _ _ => ?_) ?_ _ | refine foldl_fst_same (fun _ _ _ => ?_) ?_ _) | split | (unfold Dev.Same; dsimp only [partOf_false]) | dsimp only

theorem execKeyIdle_same {s₀ s₁ : State} (h : execKeyIdle s₀ = .next s₁) :
    s₁.dev.Same true true true true true true s₀.dev := by
  refine onDev_same ?_ h
  intro d hd
  repeat' first | (with_reducible first | assumption | intro _ | apply Dev.put_same | apply Dev.Same.both | refine ite_same ?_ ?_) | split | (unfold Dev.Same; dsimp only [partOf_false]) | dsimp only

theorem execKeyLockIdle_same {s₀ s₁ : State} (h : execKeyLockIdle s₀ = .next s₁) :
    s₁.dev.Same true true true false true true s₀.dev := by
  refine onDev_same ?_ h
  intro d hd
  repeat' first | (with_reducible first | assumption | intro _ | apply Dev.setKeyLock_same | apply Dev.Same.both (gs := false) | refine ite_same ?_ ?_) | split | (unfold Dev.Same; dsimp only [partOf_false]) | dsimp only

theorem execEncTransition_same {s₀ s₁ : State} {n} {a} {b} (h : execEncTransition n a b s₀ = .next s₁) :
    s₁.dev.Same true true true false true true s₀.dev := by
  refine onDev_same ?_ h
  intro d hd
  repeat' first | (with_reducible first | assumption | intro _ | apply Dev.setEnc_same | apply Dev.produce_same | apply Dev.bump_same | apply Dev.put_same | apply Dev.Same.both (gs := false) | refine ite_same ?_ ?_) | split | (unfold Dev.Same; dsimp only [partOf_false]) | dsimp only

theorem execEncMoved_same {s₀ s₁ : State} {n} (h : execEncMoved n s₀ = .next s₁) :
    s₁.dev.Same true true true false true true s₀.dev := by
  refine onDev_same ?_ h
  intro d hd
  repeat' first | (with_reducible first | assumption | intro _ | apply Dev.keyPending_same | apply Dev.setEnc_same | apply Dev.raise_same | apply Dev.Same.both (gs := false) | refine ite_same ?_ ?_) | split | (unfold Dev.Same; dsimp only [partOf_false]) | dsimp only

theorem execFitPassStart_same {s₀ s₁ : State} (h : execFitPassStart s₀ = .next s₁) :
    s₁.dev.Same false true true false true false s₀.dev := by
  refine onDev_same ?_ h
  intro d hd
  repeat' first | (with_reducible first | assumption | intro _ | apply Dev.fitStart_same | apply Dev.Same.both (gm := false) (gs := false) (gt := false) | refine ite_same ?_ ?_) | split | (unfold Dev.Same; dsimp only [partOf_false]) | dsimp only

theorem execHoldupStart_same {s₀ s₁ : State} (h : execHoldupStart s₀ = .next s₁) :
    s₁.dev.Same true true true false true true s₀.dev := by
  refine onDev_same ?_ h
  intro d hd
  repeat' first | (with_reducible first | assumption | intro _ | apply Dev.Same.both (gs := false) | refine ite_same ?_ ?_) | split | (unfold Dev.Same; dsimp only [partOf_false]) | dsimp only

theorem execHoldupWindowEnd_same {s₀ s₁ : State} {ma} {dv} {step} (h : execHoldupWindowEnd ma dv step s₀ = .next s₁) :
    s₁.dev.Same false true true false false true s₀.dev := by
  refine onDev_same ?_ h
  intro d hd
  repeat' first | (with_reducible first | assumption | intro _ | apply Dev.fitDecide_same | apply Dev.kickWrites_same | apply Dev.putRet_same | apply Dev.Same.both (gm := false) (gs := false) (gn := false) | refine ite_same ?_ ?_) | split | (unfold Dev.Same; dsimp only [partOf_false]) | dsimp only

theorem execHoldupSkip_same {s₀ s₁ : State} (h : execHoldupSkip s₀ = .next s₁) :
    s₁.dev.Same false true true false false true s₀.dev := by
  refine onDev_same ?_ h
  intro d hd
  repeat' first | (with_reducible first | assumption | intro _ | apply Dev.fitDecide_same | apply Dev.Same.both (gm := false) (gs := false) (gn := false) | refine ite_same ?_ ?_) | split | (unfold Dev.Same; dsimp only [partOf_false]) | dsimp only

theorem execFitApply_same {s₀ s₁ : State} (h : execFitApply s₀ = .next s₁) :
    s₁.dev.Same false true false false false false s₀.dev := by
  refine onDev_same ?_ h
  intro d hd
  repeat' first | (with_reducible first | assumption | intro _ | apply Dev.warnIfLow_same | apply Dev.fitApplied_same | apply Dev.Same.both (gm := false) (ge := false) (gs := false) (gn := false) (gt := false) | refine ite_same ?_ ?_) | split | (unfold Dev.Same; dsimp only [partOf_false]) | dsimp only

theorem execPathMonitorRead_same {s₀ s₁ : State} {ps} (h : execPathMonitorRead ps s₀ = .next s₁) :
    s₁.dev.Same true true true false false true s₀.dev := by
  refine onDev_same ?_ h
  intro d hd
  repeat' first | (with_reducible first | assumption | intro _ | apply Dev.raiseChange_same | apply Dev.setTarget_same | apply Dev.showPaths_same | apply Dev.kickLog_same | apply Dev.Same.both (gs := false) (gn := false) | refine ite_same ?_ ?_) | split | (unfold Dev.Same; dsimp only [partOf_false]) | dsimp only

theorem execFitRerun_same {s₀ s₁ : State} (h : execFitRerun s₀ = .next s₁) :
    s₁.dev.Same false true true false true false s₀.dev := by
  refine onDev_same ?_ h
  intro d hd
  repeat' first | (with_reducible first | assumption | intro _ | apply Dev.fitStart_same | apply Dev.Same.both (gm := false) (gs := false) (gt := false) | refine ite_same ?_ ?_) | split | (unfold Dev.Same; dsimp only [partOf_false]) | dsimp only

theorem execFrzNLow_same {s₀ s₁ : State} (h : execFrzNLow s₀ = .next s₁) :
    s₁.dev.Same true true true true true true s₀.dev := by
  refine onDev_same ?_ h
  intro d hd
  repeat' first | (with_reducible first | assumption | intro _ | apply Dev.askFreeze_same | apply Dev.setFrz_same | apply Dev.Same.both | refine ite_same ?_ ?_) | split | (unfold Dev.Same; dsimp only [partOf_false]) | dsimp only

theorem execFrzNRise_same {s₀ s₁ : State} (h : execFrzNRise s₀ = .next s₁) :
    s₁.dev.Same true true true true true true s₀.dev := by
  refine onDev_same ?_ h
  intro d hd
  repeat' first | (with_reducible first | assumption | intro _ | apply Dev.askThaw_same | apply Dev.setFrz_same | apply Dev.Same.both) | (unfold Dev.Same; dsimp only [partOf_false]) | dsimp only

theorem execFreezeStop_same {s₀ s₁ : State} (h : execFreezeStop s₀ = .next s₁) :
    s₁.dev.Same true true false false true true s₀.dev := by
  refine onDev_same ?_ h
  intro d hd
  repeat' first | (with_reducible first | assumption | intro _ | apply Dev.setFrz_same | apply Dev.fitFreeze_same | apply Dev.loopStop_same | apply Dev.busStop_same | apply Dev.putBit_same | apply Dev.put_same | apply Dev.Same.both (ge := false) (gs := false) | refine ite_same ?_ ?_) | split | (unfold Dev.Same; dsimp only [partOf_false]) | dsimp only

theorem execFreezeReq_same {s₀ s₁ : State} (h : execFreezeReq s₀ = .next s₁) :
    s₁.dev.Same true true true true true true s₀.dev := by
  refine onDev_same ?_ h
  intro d hd
  repeat' first | (with_reducible first | assumption | intro _ | apply Dev.askFreeze_same | apply Dev.Same.both | refine ite_same ?_ ?_) | split | (unfold Dev.Same; dsimp only [partOf_false]) | dsimp only

theorem execThawReq_same {s₀ s₁ : State} (h : execThawReq s₀ = .next s₁) :
    s₁.dev.Same true true true true true true s₀.dev := by
  refine onDev_same ?_ h
  intro d hd
  repeat' first | (with_reducible first | assumption | intro _ | apply Dev.askThaw_same | apply Dev.Same.both) | (unfold Dev.Same; dsimp only [partOf_false]) | dsimp only

theorem execRoAccess_same {s₀ s₁ : State} {space} {index} (h : execRoAccess space index s₀ = .next s₁) :
    s₁.dev.Same true true true true true true s₀.dev := by
  refine onDev_same ?_ h
  intro d hd
  repeat' first | (with_reducible first | assumption | intro _ | apply Dev.readOut_same | apply Dev.emit_same | apply Dev.Same.both) | (unfold Dev.Same; dsimp only [partOf_false]) | dsimp only

theorem execExtest_same {s₀ s₁ : State} (h : execExtest s₀ = .next s₁) :
    s₁.dev.Same true true true true true true s₀.dev := by
  refine onDev_same ?_ h
  intro d hd
  repeat' first | (with_reducible first | assumption | intro _ | apply Dev.emit_same | apply Dev.put_same | apply Dev.Same.both | refine ite_same ?_ ?_) | split | (unfold Dev.Same; dsimp only [partOf_false]) | dsimp only

theorem execIdcode_same {s₀ s₁ : State} (h : execIdcode s₀ = .next s₁) :
    s₁.dev.Same true true true true true true s₀.dev := by
  refine onDev_same ?_ h
  intro d hd
  repeat' first | (with_reducible first | assumption | intro _ | apply Dev.emit_same | apply Dev.Same.both) | (unfold Dev.Same; dsimp only [partOf_false]) | dsimp only

theorem execSamplePreload_same {s₀ s₁ : State} {lands} {chain} (h : execSamplePreload lands chain s₀ = .next s₁) :
    s₁.dev.Same true true true true true true s₀.dev := by
  refine onDev_same ?_ h
  intro d hd
  repeat' first | (with_reducible first | assumption | intro _ | apply Dev.setFrz_same | apply Dev.emit_same | apply Dev.Same.both) | (unfold Dev.Same; dsimp only [partOf_false]) | dsimp only

theorem execBypass_same {s₀ s₁ : State} (h : execBypass s₀ = .next s₁) :
    s₁.dev.Same true true true true true true s₀.dev := by
  refine onDev_same ?_ h
  intro d hd
  repeat' first | (with_reducible first | assumption | intro _ | apply Dev.emit_same | apply Dev.Same.both) | (unfold Dev.Same; dsimp only [partOf_false]) | dsimp only

theorem execSeamUncorrectable_same {s₀ s₁ : State} {p} {x} (h : execSeamUncorrectable p x s₀ = .next s₁) :
    s₁.dev.Same false true false true true true s₀.dev := by
  refine onDev_same ?_ h
  intro d hd
  repeat' first | (with_reducible first | assumption | intro _ | apply Dev.sendNak_same | apply Dev.linkError_same | apply Dev.raiseLimited_same | apply Dev.bump_same | apply Dev.Same.both (gm := false) (ge := false) | refine ite_same ?_ ?_) | split | (unfold Dev.Same; dsimp only [partOf_false]) | dsimp only

theorem execPowerGoodRise_same {s₀ s₁ : State} {rail} (h : execPowerGoodRise rail s₀ = .next s₁) :
    s₁.dev.Same true true false true false false s₀.dev := by
  refine onDev_same ?_ h
  intro d hd
  repeat' first | (with_reducible first | assumption | intro _ | apply Dev.startStep4_same | apply Dev.raiseEnable_same | apply Dev.setPower_same | apply Dev.put_same | apply Dev.Same.both (ge := false) (gn := false) (gt := false) | refine ite_same ?_ ?_) | split | (unfold Dev.Same; dsimp only [partOf_false]) | dsimp only

theorem execFirmwareVerified_same {s₀ s₁ : State} {a} {b} {mode} (h : execFirmwareVerified a b mode s₀ = .next s₁) :
    s₁.dev.Same false false false true false false s₀.dev := by
  refine onDev_same ?_ h
  intro d hd
  repeat' first | (with_reducible first | assumption | intro _ | apply Dev.pmbusOpen_same | apply Dev.restoreAll_same | apply Dev.setPower_same | apply Dev.enterRecovery_same | apply Dev.booted_same | apply Dev.bootIdentity_same | apply Dev.put_same | apply Dev.Same.both (gm := false) (gf := false) (ge := false) (gn := false) (gt := false) | refine ite_same ?_ ?_) | split | (unfold Dev.Same; dsimp only [partOf_false]) | dsimp only

theorem execPmbusTimeout_same {s₀ s₁ : State} (h : execPmbusTimeout s₀ = .next s₁) :
    s₁.dev.Same true true true true true false s₀.dev := by
  refine onDev_same ?_ h
  intro d hd
  repeat' first | (with_reducible first | assumption | intro _ | apply Dev.pmbusTry_same | apply Dev.pmbusFail_same | apply Dev.Same.both (gt := false) | refine ite_same ?_ ?_) | split | (unfold Dev.Same; dsimp only [partOf_false]) | dsimp only

theorem execRailFallDone_same {s₀ s₁ : State} (h : execRailFallDone s₀ = .next s₁) :
    s₁.dev.Same true true true false true true s₀.dev := by
  refine onDev_same ?_ h
  intro d hd
  repeat' first | (with_reducible first | assumption | intro _ | apply Dev.panelRise_same | apply Dev.setPanel_same | apply Dev.Same.both (gs := false) | refine ite_same ?_ ?_) | split | (unfold Dev.Same; dsimp only [partOf_false]) | dsimp only

theorem execPanelWfloadTimeout_same {s₀ s₁ : State} (h : execPanelWfloadTimeout s₀ = .next s₁) :
    s₁.dev.Same true true true false true true s₀.dev := by
  refine onDev_same ?_ h
  intro d hd
  repeat' first | (with_reducible first | assumption | intro _ | apply Dev.endWfload_same | apply Dev.Same.both (gs := false) | refine ite_same ?_ ?_) | split | (unfold Dev.Same; dsimp only [partOf_false]) | dsimp only

theorem execShuttleLoadTimeout_same {s₀ s₁ : State} {b} (h : execShuttleLoadTimeout b s₀ = .next s₁) :
    s₁.dev.Same true false true true false true s₀.dev := by
  refine onDev_same ?_ h
  intro d hd
  repeat' first | (with_reducible first | assumption | intro _ | apply Dev.dropLoad_same | apply Dev.fail_same | apply Dev.Same.both (gf := false) (gn := false) | refine ite_same ?_ ?_) | split | (unfold Dev.Same; dsimp only [partOf_false]) | dsimp only

theorem execFieldResumeTimeout_same {s₀ s₁ : State} {k} (h : execFieldResumeTimeout k s₀ = .next s₁) :
    s₁.dev.Same true false true true true true s₀.dev := by
  refine onDev_same ?_ h
  intro d hd
  repeat' first | (with_reducible first | assumption | intro _ | apply Dev.setFd_same | apply Dev.fail_same | apply Dev.Same.both (gf := false) | refine ite_same ?_ ?_ | refine foldl_same (fun _ _ _ => ?_) ?_ _ | refine foldl_snd2_same (fun _ _ _ => ?_) ?_ _ | refine foldl_snd_same (fun _ _ _ => ?_) ?_ _ | refine foldl_fst_same (fun _ _ _ => ?_) ?_ _) | split | (unfold Dev.Same; dsimp only [partOf_false]) | dsimp only

theorem execPortRetrainDone_same {s₀ s₁ : State} {id} (h : execPortRetrainDone id s₀ = .next s₁) :
    s₁.dev.Same true true true true true true s₀.dev := by
  refine onDev_same ?_ h
  intro d hd
  repeat' first | (with_reducible first | assumption | intro _ | apply Dev.done_same | apply Dev.Same.both | refine ite_same ?_ ?_ | refine foldl_same (fun _ _ _ => ?_) ?_ _ | refine foldl_snd2_same (fun _ _ _ => ?_) ?_ _ | refine foldl_snd_same (fun _ _ _ => ?_) ?_ _ | refine foldl_fst_same (fun _ _ _ => ?_) ?_ _) | split | (unfold Dev.Same; dsimp only [partOf_false]) | dsimp only

theorem execStagedCheckDone_same {s₀ s₁ : State} {id} (h : execStagedCheckDone id s₀ = .next s₁) :
    s₁.dev.Same false false false false false true s₀.dev := by
  refine onDev_same ?_ h
  intro d hd
  repeat' first | (with_reducible first | assumption | intro _ | apply Dev.patLoadChecked_same | apply Dev.secChecked_same | apply Dev.importChecked_same | apply Dev.wfloadChecked_same | apply Dev.routeChecked_same | apply Dev.loopChecked_same | apply Dev.schedChecked_same | apply Dev.shuttleChecked_same | apply Dev.pollChecked_same | apply Dev.Same.both (gm := false) (gf := false) (ge := false) (gs := false) (gn := false) | refine ite_same ?_ ?_) | split | (unfold Dev.Same; dsimp only [partOf_false]) | dsimp only

theorem execFwUpdateWritten_same {s₀ s₁ : State} (h : execFwUpdateWritten s₀ = .next s₁) :
    s₁.dev.Same true true true true false true s₀.dev := by
  refine onDev_same ?_ h
  intro d hd
  repeat' first | (with_reducible first | assumption | intro _ | apply Dev.endSec_same | apply Dev.putRet_same | apply Dev.Same.both (gn := false) | refine ite_same ?_ ?_) | split | (unfold Dev.Same; dsimp only [partOf_false]) | dsimp only

theorem execBusFrameSent_same {s₀ s₁ : State} {n} (h : execBusFrameSent n s₀ = .next s₁) :
    s₁.dev.Same true true true false true true s₀.dev := by
  refine onDev_same ?_ h
  intro d hd
  repeat' first | (with_reducible first | assumption | intro _ | apply Dev.mstpSent_same | apply Dev.mbSent_same | apply Dev.plainStart_same | apply Dev.endSend_same | apply Dev.busMark_same | apply Dev.setBus_same | apply Dev.emit_same | apply Dev.Same.both (gs := false) | refine ite_same ?_ ?_) | split | (unfold Dev.Same; dsimp only [partOf_false]) | dsimp only

theorem execMstpTimerExpiry_same {s₀ s₁ : State} {n} (h : execMstpTimerExpiry n s₀ = .next s₁) :
    s₁.dev.Same true true true false true true s₀.dev := by
  refine onDev_same ?_ h
  intro d hd
  repeat' first | (with_reducible first | assumption | intro _ | apply Dev.mstpToken_same | apply Dev.pollMaster_same | apply Dev.passToken_same | apply Dev.mstpRing_same | apply Dev.mstpEmit_same | apply Dev.setBus_same | apply Dev.put_same | apply Dev.Same.both (gs := false) | refine ite_same ?_ ?_) | split | (unfold Dev.Same; dsimp only [partOf_false]) | dsimp only

theorem execFitMeasurementDone_same {s₀ s₁ : State} {m} (h : execFitMeasurementDone m s₀ = .next s₁) :
    s₁.dev.Same true true true false true true s₀.dev := by
  refine onDev_same ?_ h
  intro d hd
  repeat' first | (with_reducible first | assumption | intro _ | apply Dev.showPaths_same | apply Dev.fitStep_same | apply Dev.Same.both (gs := false) | refine ite_same ?_ ?_) | split | (unfold Dev.Same; dsimp only [partOf_false]) | dsimp only

end Sys2Proof.Machine
end

