-- ==== Sys2Proof/Laws/State.lean ====
section
/-! SUPPORT. What each plain update of the state leaves as it is, field by field, so that no proof unfolds a record update. -/

namespace Sys2Proof.Machine
open Sys2Proof

@[simp] theorem State.withDev_dev (s : State) (e : Dev) : (s.withDev e).dev = e := rfl
@[simp] theorem State.withDev_pending (s : State) (e : Dev) : (s.withDev e).pending = s.pending := rfl
@[simp] theorem State.withDev_withDev (s : State) (d e : Dev) : (s.withDev d).withDev e = s.withDev e := rfl
theorem State.onDev_eq (s : State) (f : Dev → Dev) : s.onDev f = .next (s.withDev (f s.dev.begin)) := rfl

/-! ### A register field written at the core die -/

@[simp] theorem Dev.put_part (d : Dev) (f : Fld) (i v : Nat) : (d.put f i v).part = d.part := rfl
@[simp] theorem Dev.put_die (d : Dev) (f : Fld) (i v : Nat) : (d.put f i v).die = d.die := rfl
@[simp] theorem Dev.put_retPending (d : Dev) (f : Fld) (i v : Nat) : (d.put f i v).retPending = d.retPending := rfl
@[simp] theorem Dev.put_mem (d : Dev) (f : Fld) (i v : Nat) : (d.put f i v).mem = d.mem := rfl
@[simp] theorem Dev.put_memErr (d : Dev) (f : Fld) (i v : Nat) : (d.put f i v).memErr = d.memErr := rfl
@[simp] theorem Dev.put_heldErr (d : Dev) (f : Fld) (i v : Nat) : (d.put f i v).heldErr = d.heldErr := rfl
@[simp] theorem Dev.put_tick (d : Dev) (f : Fld) (i v : Nat) : (d.put f i v).tick = d.tick := rfl
@[simp] theorem Dev.put_tickLatch (d : Dev) (f : Fld) (i v : Nat) : (d.put f i v).tickLatch = d.tickLatch := rfl
@[simp] theorem Dev.put_scrub (d : Dev) (f : Fld) (i v : Nat) : (d.put f i v).scrub = d.scrub := rfl
@[simp] theorem Dev.put_scrubAt (d : Dev) (f : Fld) (i v : Nat) : (d.put f i v).scrubAt = d.scrubAt := rfl
@[simp] theorem Dev.put_power (d : Dev) (f : Fld) (i v : Nat) : (d.put f i v).power = d.power := rfl
@[simp] theorem Dev.put_frz (d : Dev) (f : Fld) (i v : Nat) : (d.put f i v).frz = d.frz := rfl
@[simp] theorem Dev.put_recs (d : Dev) (f : Fld) (i v : Nat) : (d.put f i v).recs = d.recs := rfl
@[simp] theorem Dev.put_nextId (d : Dev) (f : Fld) (i v : Nat) : (d.put f i v).nextId = d.nextId := rfl
@[simp] theorem Dev.put_nextOrder (d : Dev) (f : Fld) (i v : Nat) : (d.put f i v).nextOrder = d.nextOrder := rfl
@[simp] theorem Dev.put_irqHold (d : Dev) (f : Fld) (i v : Nat) : (d.put f i v).irqHold = d.irqHold := rfl
@[simp] theorem Dev.put_irqAt (d : Dev) (f : Fld) (i v : Nat) : (d.put f i v).irqAt = d.irqAt := rfl
@[simp] theorem Dev.put_traceDue (d : Dev) (f : Fld) (i v : Nat) : (d.put f i v).traceDue = d.traceDue := rfl
@[simp] theorem Dev.put_events (d : Dev) (f : Fld) (i v : Nat) : (d.put f i v).events = d.events := rfl
@[simp] theorem Dev.put_evSeq (d : Dev) (f : Fld) (i v : Nat) : (d.put f i v).evSeq = d.evSeq := rfl
@[simp] theorem Dev.put_evDropped (d : Dev) (f : Fld) (i v : Nat) : (d.put f i v).evDropped = d.evDropped := rfl
@[simp] theorem Dev.put_evFirstDropped (d : Dev) (f : Fld) (i v : Nat) : (d.put f i v).evFirstDropped = d.evFirstDropped := rfl
@[simp] theorem Dev.put_limits (d : Dev) (f : Fld) (i v : Nat) : (d.put f i v).limits = d.limits := rfl
@[simp] theorem Dev.put_hostSince (d : Dev) (f : Fld) (i v : Nat) : (d.put f i v).hostSince = d.hostSince := rfl
@[simp] theorem Dev.put_lostSince (d : Dev) (f : Fld) (i v : Nat) : (d.put f i v).lostSince = d.lostSince := rfl
@[simp] theorem Dev.put_values (d : Dev) (f : Fld) (i v : Nat) : (d.put f i v).values = d.values := rfl
@[simp] theorem Dev.put_produced (d : Dev) (f : Fld) (i v : Nat) : (d.put f i v).produced = d.produced := rfl
@[simp] theorem Dev.put_writers (d : Dev) (f : Fld) (i v : Nat) : (d.put f i v).writers = d.writers := rfl
@[simp] theorem Dev.put_forces (d : Dev) (f : Fld) (i v : Nat) : (d.put f i v).forces = d.forces := rfl
@[simp] theorem Dev.put_commands (d : Dev) (f : Fld) (i v : Nat) : (d.put f i v).commands = d.commands := rfl
@[simp] theorem Dev.put_mailA (d : Dev) (f : Fld) (i v : Nat) : (d.put f i v).mailA = d.mailA := rfl
@[simp] theorem Dev.put_mailB (d : Dev) (f : Fld) (i v : Nat) : (d.put f i v).mailB = d.mailB := rfl
@[simp] theorem Dev.put_mailSeqA (d : Dev) (f : Fld) (i v : Nat) : (d.put f i v).mailSeqA = d.mailSeqA := rfl
@[simp] theorem Dev.put_mailSeqB (d : Dev) (f : Fld) (i v : Nat) : (d.put f i v).mailSeqB = d.mailSeqB := rfl
@[simp] theorem Dev.put_mailOutA (d : Dev) (f : Fld) (i v : Nat) : (d.put f i v).mailOutA = d.mailOutA := rfl
@[simp] theorem Dev.put_mailOutB (d : Dev) (f : Fld) (i v : Nat) : (d.put f i v).mailOutB = d.mailOutB := rfl
@[simp] theorem Dev.put_resumes (d : Dev) (f : Fld) (i v : Nat) : (d.put f i v).resumes = d.resumes := rfl
@[simp] theorem Dev.put_frameSeq (d : Dev) (f : Fld) (i v : Nat) : (d.put f i v).frameSeq = d.frameSeq := rfl
@[simp] theorem Dev.put_downA (d : Dev) (f : Fld) (i v : Nat) : (d.put f i v).downA = d.downA := rfl
@[simp] theorem Dev.put_downB (d : Dev) (f : Fld) (i v : Nat) : (d.put f i v).downB = d.downB := rfl
@[simp] theorem Dev.put_upA (d : Dev) (f : Fld) (i v : Nat) : (d.put f i v).upA = d.upA := rfl
@[simp] theorem Dev.put_upB (d : Dev) (f : Fld) (i v : Nat) : (d.put f i v).upB = d.upB := rfl
@[simp] theorem Dev.put_upMissA (d : Dev) (f : Fld) (i v : Nat) : (d.put f i v).upMissA = d.upMissA := rfl
@[simp] theorem Dev.put_upMissB (d : Dev) (f : Fld) (i v : Nat) : (d.put f i v).upMissB = d.upMissB := rfl
@[simp] theorem Dev.put_upHistA (d : Dev) (f : Fld) (i v : Nat) : (d.put f i v).upHistA = d.upHistA := rfl
@[simp] theorem Dev.put_upHistB (d : Dev) (f : Fld) (i v : Nat) : (d.put f i v).upHistB = d.upHistB := rfl
@[simp] theorem Dev.put_dieA (d : Dev) (f : Fld) (i v : Nat) : (d.put f i v).dieA = d.dieA := rfl
@[simp] theorem Dev.put_dieB (d : Dev) (f : Fld) (i v : Nat) : (d.put f i v).dieB = d.dieB := rfl
@[simp] theorem Dev.put_meas (d : Dev) (f : Fld) (i v : Nat) : (d.put f i v).meas = d.meas := rfl
@[simp] theorem Dev.put_dis (d : Dev) (f : Fld) (i v : Nat) : (d.put f i v).dis = d.dis := rfl
@[simp] theorem Dev.put_dos (d : Dev) (f : Fld) (i v : Nat) : (d.put f i v).dos = d.dos := rfl
@[simp] theorem Dev.put_floats (d : Dev) (f : Fld) (i v : Nat) : (d.put f i v).floats = d.floats := rfl
@[simp] theorem Dev.put_poss (d : Dev) (f : Fld) (i v : Nat) : (d.put f i v).poss = d.poss := rfl
@[simp] theorem Dev.put_emus (d : Dev) (f : Fld) (i v : Nat) : (d.put f i v).emus = d.emus := rfl
@[simp] theorem Dev.put_fans (d : Dev) (f : Fld) (i v : Nat) : (d.put f i v).fans = d.fans := rfl
@[simp] theorem Dev.put_aos (d : Dev) (f : Fld) (i v : Nat) : (d.put f i v).aos = d.aos := rfl
@[simp] theorem Dev.put_shut (d : Dev) (f : Fld) (i v : Nat) : (d.put f i v).shut = d.shut := rfl
@[simp] theorem Dev.put_sec (d : Dev) (f : Fld) (i v : Nat) : (d.put f i v).sec = d.sec := rfl
@[simp] theorem Dev.put_sched (d : Dev) (f : Fld) (i v : Nat) : (d.put f i v).sched = d.sched := rfl
@[simp] theorem Dev.put_blocks (d : Dev) (f : Fld) (i v : Nat) : (d.put f i v).blocks = d.blocks := rfl
@[simp] theorem Dev.put_storeDue (d : Dev) (f : Fld) (i v : Nat) : (d.put f i v).storeDue = d.storeDue := rfl
@[simp] theorem Dev.put_pat (d : Dev) (f : Fld) (i v : Nat) : (d.put f i v).pat = d.pat := rfl
@[simp] theorem Dev.put_arrivals (d : Dev) (f : Fld) (i v : Nat) : (d.put f i v).arrivals = d.arrivals := rfl
@[simp] theorem Dev.put_eng (d : Dev) (f : Fld) (i v : Nat) : (d.put f i v).eng = d.eng := rfl
@[simp] theorem Dev.put_quilt (d : Dev) (f : Fld) (i v : Nat) : (d.put f i v).quilt = d.quilt := rfl
@[simp] theorem Dev.put_buses (d : Dev) (f : Fld) (i v : Nat) : (d.put f i v).buses = d.buses := rfl
@[simp] theorem Dev.put_pollSets (d : Dev) (f : Fld) (i v : Nat) : (d.put f i v).pollSets = d.pollSets := rfl
@[simp] theorem Dev.put_nvm (d : Dev) (f : Fld) (i v : Nat) : (d.put f i v).nvm = d.nvm := rfl
@[simp] theorem Dev.put_panel (d : Dev) (f : Fld) (i v : Nat) : (d.put f i v).panel = d.panel := rfl
@[simp] theorem Dev.put_keys (d : Dev) (f : Fld) (i v : Nat) : (d.put f i v).keys = d.keys := rfl
@[simp] theorem Dev.put_fit (d : Dev) (f : Fld) (i v : Nat) : (d.put f i v).fit = d.fit := rfl
@[simp] theorem Dev.put_free (d : Dev) (f : Fld) (i v : Nat) : (d.put f i v).free = d.free := rfl
@[simp] theorem Dev.put_out (d : Dev) (f : Fld) (i v : Nat) : (d.put f i v).out = d.out := rfl
@[simp] theorem Dev.put_dget (d : Dev) (f : Fld) (i v : Nat) (g : Fld) (j : Nat) : (d.put f i v).dget g j = d.dget g j := rfl
@[simp] theorem Dev.put_disSet (d : Dev) (f : Fld) (i v : Nat) (g : Fld) (j : Nat) : (d.put f i v).disSet g j = d.disSet g j := rfl

/-! ### A configuration field written at a field die -/

@[simp] theorem Dev.dput_part (d : Dev) (f : Fld) (i v : Nat) : (d.dput f i v).part = d.part := rfl
@[simp] theorem Dev.dput_regs (d : Dev) (f : Fld) (i v : Nat) : (d.dput f i v).regs = d.regs := rfl
@[simp] theorem Dev.dput_retPending (d : Dev) (f : Fld) (i v : Nat) : (d.dput f i v).retPending = d.retPending := rfl
@[simp] theorem Dev.dput_mem (d : Dev) (f : Fld) (i v : Nat) : (d.dput f i v).mem = d.mem := rfl
@[simp] theorem Dev.dput_memErr (d : Dev) (f : Fld) (i v : Nat) : (d.dput f i v).memErr = d.memErr := rfl
@[simp] theorem Dev.dput_heldErr (d : Dev) (f : Fld) (i v : Nat) : (d.dput f i v).heldErr = d.heldErr := rfl
@[simp] theorem Dev.dput_tick (d : Dev) (f : Fld) (i v : Nat) : (d.dput f i v).tick = d.tick := rfl
@[simp] theorem Dev.dput_tickLatch (d : Dev) (f : Fld) (i v : Nat) : (d.dput f i v).tickLatch = d.tickLatch := rfl
@[simp] theorem Dev.dput_scrub (d : Dev) (f : Fld) (i v : Nat) : (d.dput f i v).scrub = d.scrub := rfl
@[simp] theorem Dev.dput_scrubAt (d : Dev) (f : Fld) (i v : Nat) : (d.dput f i v).scrubAt = d.scrubAt := rfl
@[simp] theorem Dev.dput_power (d : Dev) (f : Fld) (i v : Nat) : (d.dput f i v).power = d.power := rfl
@[simp] theorem Dev.dput_frz (d : Dev) (f : Fld) (i v : Nat) : (d.dput f i v).frz = d.frz := rfl
@[simp] theorem Dev.dput_recs (d : Dev) (f : Fld) (i v : Nat) : (d.dput f i v).recs = d.recs := rfl
@[simp] theorem Dev.dput_nextId (d : Dev) (f : Fld) (i v : Nat) : (d.dput f i v).nextId = d.nextId := rfl
@[simp] theorem Dev.dput_nextOrder (d : Dev) (f : Fld) (i v : Nat) : (d.dput f i v).nextOrder = d.nextOrder := rfl
@[simp] theorem Dev.dput_irqHold (d : Dev) (f : Fld) (i v : Nat) : (d.dput f i v).irqHold = d.irqHold := rfl
@[simp] theorem Dev.dput_irqAt (d : Dev) (f : Fld) (i v : Nat) : (d.dput f i v).irqAt = d.irqAt := rfl
@[simp] theorem Dev.dput_traceDue (d : Dev) (f : Fld) (i v : Nat) : (d.dput f i v).traceDue = d.traceDue := rfl
@[simp] theorem Dev.dput_events (d : Dev) (f : Fld) (i v : Nat) : (d.dput f i v).events = d.events := rfl
@[simp] theorem Dev.dput_evSeq (d : Dev) (f : Fld) (i v : Nat) : (d.dput f i v).evSeq = d.evSeq := rfl
@[simp] theorem Dev.dput_evDropped (d : Dev) (f : Fld) (i v : Nat) : (d.dput f i v).evDropped = d.evDropped := rfl
@[simp] theorem Dev.dput_evFirstDropped (d : Dev) (f : Fld) (i v : Nat) : (d.dput f i v).evFirstDropped = d.evFirstDropped := rfl
@[simp] theorem Dev.dput_limits (d : Dev) (f : Fld) (i v : Nat) : (d.dput f i v).limits = d.limits := rfl
@[simp] theorem Dev.dput_hostSince (d : Dev) (f : Fld) (i v : Nat) : (d.dput f i v).hostSince = d.hostSince := rfl
@[simp] theorem Dev.dput_lostSince (d : Dev) (f : Fld) (i v : Nat) : (d.dput f i v).lostSince = d.lostSince := rfl
@[simp] theorem Dev.dput_values (d : Dev) (f : Fld) (i v : Nat) : (d.dput f i v).values = d.values := rfl
@[simp] theorem Dev.dput_produced (d : Dev) (f : Fld) (i v : Nat) : (d.dput f i v).produced = d.produced := rfl
@[simp] theorem Dev.dput_writers (d : Dev) (f : Fld) (i v : Nat) : (d.dput f i v).writers = d.writers := rfl
@[simp] theorem Dev.dput_forces (d : Dev) (f : Fld) (i v : Nat) : (d.dput f i v).forces = d.forces := rfl
@[simp] theorem Dev.dput_commands (d : Dev) (f : Fld) (i v : Nat) : (d.dput f i v).commands = d.commands := rfl
@[simp] theorem Dev.dput_mailA (d : Dev) (f : Fld) (i v : Nat) : (d.dput f i v).mailA = d.mailA := rfl
@[simp] theorem Dev.dput_mailB (d : Dev) (f : Fld) (i v : Nat) : (d.dput f i v).mailB = d.mailB := rfl
@[simp] theorem Dev.dput_mailSeqA (d : Dev) (f : Fld) (i v : Nat) : (d.dput f i v).mailSeqA = d.mailSeqA := rfl
@[simp] theorem Dev.dput_mailSeqB (d : Dev) (f : Fld) (i v : Nat) : (d.dput f i v).mailSeqB = d.mailSeqB := rfl
@[simp] theorem Dev.dput_mailOutA (d : Dev) (f : Fld) (i v : Nat) : (d.dput f i v).mailOutA = d.mailOutA := rfl
@[simp] theorem Dev.dput_mailOutB (d : Dev) (f : Fld) (i v : Nat) : (d.dput f i v).mailOutB = d.mailOutB := rfl
@[simp] theorem Dev.dput_resumes (d : Dev) (f : Fld) (i v : Nat) : (d.dput f i v).resumes = d.resumes := rfl
@[simp] theorem Dev.dput_frameSeq (d : Dev) (f : Fld) (i v : Nat) : (d.dput f i v).frameSeq = d.frameSeq := rfl
@[simp] theorem Dev.dput_downA (d : Dev) (f : Fld) (i v : Nat) : (d.dput f i v).downA = d.downA := rfl
@[simp] theorem Dev.dput_downB (d : Dev) (f : Fld) (i v : Nat) : (d.dput f i v).downB = d.downB := rfl
@[simp] theorem Dev.dput_upA (d : Dev) (f : Fld) (i v : Nat) : (d.dput f i v).upA = d.upA := rfl
@[simp] theorem Dev.dput_upB (d : Dev) (f : Fld) (i v : Nat) : (d.dput f i v).upB = d.upB := rfl
@[simp] theorem Dev.dput_upMissA (d : Dev) (f : Fld) (i v : Nat) : (d.dput f i v).upMissA = d.upMissA := rfl
@[simp] theorem Dev.dput_upMissB (d : Dev) (f : Fld) (i v : Nat) : (d.dput f i v).upMissB = d.upMissB := rfl
@[simp] theorem Dev.dput_upHistA (d : Dev) (f : Fld) (i v : Nat) : (d.dput f i v).upHistA = d.upHistA := rfl
@[simp] theorem Dev.dput_upHistB (d : Dev) (f : Fld) (i v : Nat) : (d.dput f i v).upHistB = d.upHistB := rfl
@[simp] theorem Dev.dput_dieA (d : Dev) (f : Fld) (i v : Nat) : (d.dput f i v).dieA = d.dieA := rfl
@[simp] theorem Dev.dput_dieB (d : Dev) (f : Fld) (i v : Nat) : (d.dput f i v).dieB = d.dieB := rfl
@[simp] theorem Dev.dput_meas (d : Dev) (f : Fld) (i v : Nat) : (d.dput f i v).meas = d.meas := rfl
@[simp] theorem Dev.dput_dis (d : Dev) (f : Fld) (i v : Nat) : (d.dput f i v).dis = d.dis := rfl
@[simp] theorem Dev.dput_dos (d : Dev) (f : Fld) (i v : Nat) : (d.dput f i v).dos = d.dos := rfl
@[simp] theorem Dev.dput_floats (d : Dev) (f : Fld) (i v : Nat) : (d.dput f i v).floats = d.floats := rfl
@[simp] theorem Dev.dput_poss (d : Dev) (f : Fld) (i v : Nat) : (d.dput f i v).poss = d.poss := rfl
@[simp] theorem Dev.dput_emus (d : Dev) (f : Fld) (i v : Nat) : (d.dput f i v).emus = d.emus := rfl
@[simp] theorem Dev.dput_fans (d : Dev) (f : Fld) (i v : Nat) : (d.dput f i v).fans = d.fans := rfl
@[simp] theorem Dev.dput_aos (d : Dev) (f : Fld) (i v : Nat) : (d.dput f i v).aos = d.aos := rfl
@[simp] theorem Dev.dput_shut (d : Dev) (f : Fld) (i v : Nat) : (d.dput f i v).shut = d.shut := rfl
@[simp] theorem Dev.dput_sec (d : Dev) (f : Fld) (i v : Nat) : (d.dput f i v).sec = d.sec := rfl
@[simp] theorem Dev.dput_sched (d : Dev) (f : Fld) (i v : Nat) : (d.dput f i v).sched = d.sched := rfl
@[simp] theorem Dev.dput_blocks (d : Dev) (f : Fld) (i v : Nat) : (d.dput f i v).blocks = d.blocks := rfl
@[simp] theorem Dev.dput_storeDue (d : Dev) (f : Fld) (i v : Nat) : (d.dput f i v).storeDue = d.storeDue := rfl
@[simp] theorem Dev.dput_pat (d : Dev) (f : Fld) (i v : Nat) : (d.dput f i v).pat = d.pat := rfl
@[simp] theorem Dev.dput_arrivals (d : Dev) (f : Fld) (i v : Nat) : (d.dput f i v).arrivals = d.arrivals := rfl
@[simp] theorem Dev.dput_eng (d : Dev) (f : Fld) (i v : Nat) : (d.dput f i v).eng = d.eng := rfl
@[simp] theorem Dev.dput_quilt (d : Dev) (f : Fld) (i v : Nat) : (d.dput f i v).quilt = d.quilt := rfl
@[simp] theorem Dev.dput_buses (d : Dev) (f : Fld) (i v : Nat) : (d.dput f i v).buses = d.buses := rfl
@[simp] theorem Dev.dput_pollSets (d : Dev) (f : Fld) (i v : Nat) : (d.dput f i v).pollSets = d.pollSets := rfl
@[simp] theorem Dev.dput_nvm (d : Dev) (f : Fld) (i v : Nat) : (d.dput f i v).nvm = d.nvm := rfl
@[simp] theorem Dev.dput_panel (d : Dev) (f : Fld) (i v : Nat) : (d.dput f i v).panel = d.panel := rfl
@[simp] theorem Dev.dput_keys (d : Dev) (f : Fld) (i v : Nat) : (d.dput f i v).keys = d.keys := rfl
@[simp] theorem Dev.dput_fit (d : Dev) (f : Fld) (i v : Nat) : (d.dput f i v).fit = d.fit := rfl
@[simp] theorem Dev.dput_free (d : Dev) (f : Fld) (i v : Nat) : (d.dput f i v).free = d.free := rfl
@[simp] theorem Dev.dput_out (d : Dev) (f : Fld) (i v : Nat) : (d.dput f i v).out = d.out := rfl
@[simp] theorem Dev.dput_get (d : Dev) (f : Fld) (i v : Nat) (g : Fld) (j : Nat) : (d.dput f i v).get g j = d.get g j := rfl
@[simp] theorem Dev.dput_isSet (d : Dev) (f : Fld) (i v : Nat) (g : Fld) (j : Nat) : (d.dput f i v).isSet g j = d.isSet g j := rfl

/-! ### An output shown -/

@[simp] theorem Dev.emit_part (d : Dev) (o : Output) : (d.emit o).part = d.part := rfl
@[simp] theorem Dev.emit_regs (d : Dev) (o : Output) : (d.emit o).regs = d.regs := rfl
@[simp] theorem Dev.emit_die (d : Dev) (o : Output) : (d.emit o).die = d.die := rfl
@[simp] theorem Dev.emit_retPending (d : Dev) (o : Output) : (d.emit o).retPending = d.retPending := rfl
@[simp] theorem Dev.emit_mem (d : Dev) (o : Output) : (d.emit o).mem = d.mem := rfl
@[simp] theorem Dev.emit_memErr (d : Dev) (o : Output) : (d.emit o).memErr = d.memErr := rfl
@[simp] theorem Dev.emit_heldErr (d : Dev) (o : Output) : (d.emit o).heldErr = d.heldErr := rfl
@[simp] theorem Dev.emit_tick (d : Dev) (o : Output) : (d.emit o).tick = d.tick := rfl
@[simp] theorem Dev.emit_tickLatch (d : Dev) (o : Output) : (d.emit o).tickLatch = d.tickLatch := rfl
@[simp] theorem Dev.emit_scrub (d : Dev) (o : Output) : (d.emit o).scrub = d.scrub := rfl
@[simp] theorem Dev.emit_scrubAt (d : Dev) (o : Output) : (d.emit o).scrubAt = d.scrubAt := rfl
@[simp] theorem Dev.emit_power (d : Dev) (o : Output) : (d.emit o).power = d.power := rfl
@[simp] theorem Dev.emit_frz (d : Dev) (o : Output) : (d.emit o).frz = d.frz := rfl
@[simp] theorem Dev.emit_recs (d : Dev) (o : Output) : (d.emit o).recs = d.recs := rfl
@[simp] theorem Dev.emit_nextId (d : Dev) (o : Output) : (d.emit o).nextId = d.nextId := rfl
@[simp] theorem Dev.emit_nextOrder (d : Dev) (o : Output) : (d.emit o).nextOrder = d.nextOrder := rfl
@[simp] theorem Dev.emit_irqHold (d : Dev) (o : Output) : (d.emit o).irqHold = d.irqHold := rfl
@[simp] theorem Dev.emit_irqAt (d : Dev) (o : Output) : (d.emit o).irqAt = d.irqAt := rfl
@[simp] theorem Dev.emit_traceDue (d : Dev) (o : Output) : (d.emit o).traceDue = d.traceDue := rfl
@[simp] theorem Dev.emit_events (d : Dev) (o : Output) : (d.emit o).events = d.events := rfl
@[simp] theorem Dev.emit_evSeq (d : Dev) (o : Output) : (d.emit o).evSeq = d.evSeq := rfl
@[simp] theorem Dev.emit_evDropped (d : Dev) (o : Output) : (d.emit o).evDropped = d.evDropped := rfl
@[simp] theorem Dev.emit_evFirstDropped (d : Dev) (o : Output) : (d.emit o).evFirstDropped = d.evFirstDropped := rfl
@[simp] theorem Dev.emit_limits (d : Dev) (o : Output) : (d.emit o).limits = d.limits := rfl
@[simp] theorem Dev.emit_hostSince (d : Dev) (o : Output) : (d.emit o).hostSince = d.hostSince := rfl
@[simp] theorem Dev.emit_lostSince (d : Dev) (o : Output) : (d.emit o).lostSince = d.lostSince := rfl
@[simp] theorem Dev.emit_values (d : Dev) (o : Output) : (d.emit o).values = d.values := rfl
@[simp] theorem Dev.emit_produced (d : Dev) (o : Output) : (d.emit o).produced = d.produced := rfl
@[simp] theorem Dev.emit_writers (d : Dev) (o : Output) : (d.emit o).writers = d.writers := rfl
@[simp] theorem Dev.emit_forces (d : Dev) (o : Output) : (d.emit o).forces = d.forces := rfl
@[simp] theorem Dev.emit_commands (d : Dev) (o : Output) : (d.emit o).commands = d.commands := rfl
@[simp] theorem Dev.emit_mailA (d : Dev) (o : Output) : (d.emit o).mailA = d.mailA := rfl
@[simp] theorem Dev.emit_mailB (d : Dev) (o : Output) : (d.emit o).mailB = d.mailB := rfl
@[simp] theorem Dev.emit_mailSeqA (d : Dev) (o : Output) : (d.emit o).mailSeqA = d.mailSeqA := rfl
@[simp] theorem Dev.emit_mailSeqB (d : Dev) (o : Output) : (d.emit o).mailSeqB = d.mailSeqB := rfl
@[simp] theorem Dev.emit_mailOutA (d : Dev) (o : Output) : (d.emit o).mailOutA = d.mailOutA := rfl
@[simp] theorem Dev.emit_mailOutB (d : Dev) (o : Output) : (d.emit o).mailOutB = d.mailOutB := rfl
@[simp] theorem Dev.emit_resumes (d : Dev) (o : Output) : (d.emit o).resumes = d.resumes := rfl
@[simp] theorem Dev.emit_frameSeq (d : Dev) (o : Output) : (d.emit o).frameSeq = d.frameSeq := rfl
@[simp] theorem Dev.emit_downA (d : Dev) (o : Output) : (d.emit o).downA = d.downA := rfl
@[simp] theorem Dev.emit_downB (d : Dev) (o : Output) : (d.emit o).downB = d.downB := rfl
@[simp] theorem Dev.emit_upA (d : Dev) (o : Output) : (d.emit o).upA = d.upA := rfl
@[simp] theorem Dev.emit_upB (d : Dev) (o : Output) : (d.emit o).upB = d.upB := rfl
@[simp] theorem Dev.emit_upMissA (d : Dev) (o : Output) : (d.emit o).upMissA = d.upMissA := rfl
@[simp] theorem Dev.emit_upMissB (d : Dev) (o : Output) : (d.emit o).upMissB = d.upMissB := rfl
@[simp] theorem Dev.emit_upHistA (d : Dev) (o : Output) : (d.emit o).upHistA = d.upHistA := rfl
@[simp] theorem Dev.emit_upHistB (d : Dev) (o : Output) : (d.emit o).upHistB = d.upHistB := rfl
@[simp] theorem Dev.emit_dieA (d : Dev) (o : Output) : (d.emit o).dieA = d.dieA := rfl
@[simp] theorem Dev.emit_dieB (d : Dev) (o : Output) : (d.emit o).dieB = d.dieB := rfl
@[simp] theorem Dev.emit_meas (d : Dev) (o : Output) : (d.emit o).meas = d.meas := rfl
@[simp] theorem Dev.emit_dis (d : Dev) (o : Output) : (d.emit o).dis = d.dis := rfl
@[simp] theorem Dev.emit_dos (d : Dev) (o : Output) : (d.emit o).dos = d.dos := rfl
@[simp] theorem Dev.emit_floats (d : Dev) (o : Output) : (d.emit o).floats = d.floats := rfl
@[simp] theorem Dev.emit_poss (d : Dev) (o : Output) : (d.emit o).poss = d.poss := rfl
@[simp] theorem Dev.emit_emus (d : Dev) (o : Output) : (d.emit o).emus = d.emus := rfl
@[simp] theorem Dev.emit_fans (d : Dev) (o : Output) : (d.emit o).fans = d.fans := rfl
@[simp] theorem Dev.emit_aos (d : Dev) (o : Output) : (d.emit o).aos = d.aos := rfl
@[simp] theorem Dev.emit_shut (d : Dev) (o : Output) : (d.emit o).shut = d.shut := rfl
@[simp] theorem Dev.emit_sec (d : Dev) (o : Output) : (d.emit o).sec = d.sec := rfl
@[simp] theorem Dev.emit_sched (d : Dev) (o : Output) : (d.emit o).sched = d.sched := rfl
@[simp] theorem Dev.emit_blocks (d : Dev) (o : Output) : (d.emit o).blocks = d.blocks := rfl
@[simp] theorem Dev.emit_storeDue (d : Dev) (o : Output) : (d.emit o).storeDue = d.storeDue := rfl
@[simp] theorem Dev.emit_pat (d : Dev) (o : Output) : (d.emit o).pat = d.pat := rfl
@[simp] theorem Dev.emit_arrivals (d : Dev) (o : Output) : (d.emit o).arrivals = d.arrivals := rfl
@[simp] theorem Dev.emit_eng (d : Dev) (o : Output) : (d.emit o).eng = d.eng := rfl
@[simp] theorem Dev.emit_quilt (d : Dev) (o : Output) : (d.emit o).quilt = d.quilt := rfl
@[simp] theorem Dev.emit_buses (d : Dev) (o : Output) : (d.emit o).buses = d.buses := rfl
@[simp] theorem Dev.emit_pollSets (d : Dev) (o : Output) : (d.emit o).pollSets = d.pollSets := rfl
@[simp] theorem Dev.emit_nvm (d : Dev) (o : Output) : (d.emit o).nvm = d.nvm := rfl
@[simp] theorem Dev.emit_panel (d : Dev) (o : Output) : (d.emit o).panel = d.panel := rfl
@[simp] theorem Dev.emit_keys (d : Dev) (o : Output) : (d.emit o).keys = d.keys := rfl
@[simp] theorem Dev.emit_fit (d : Dev) (o : Output) : (d.emit o).fit = d.fit := rfl
@[simp] theorem Dev.emit_free (d : Dev) (o : Output) : (d.emit o).free = d.free := rfl
@[simp] theorem Dev.emit_get (d : Dev) (o : Output) (g : Fld) (j : Nat) : (d.emit o).get g j = d.get g j := rfl
@[simp] theorem Dev.emit_isSet (d : Dev) (o : Output) (g : Fld) (j : Nat) : (d.emit o).isSet g j = d.isSet g j := rfl
@[simp] theorem Dev.emit_dget (d : Dev) (o : Output) (g : Fld) (j : Nat) : (d.emit o).dget g j = d.dget g j := rfl
@[simp] theorem Dev.emit_disSet (d : Dev) (o : Output) (g : Fld) (j : Nat) : (d.emit o).disSet g j = d.disSet g j := rfl

/-! ### The outputs of the command before gone -/

@[simp] theorem Dev.begin_part (d : Dev) : (d.begin).part = d.part := rfl
@[simp] theorem Dev.begin_regs (d : Dev) : (d.begin).regs = d.regs := rfl
@[simp] theorem Dev.begin_die (d : Dev) : (d.begin).die = d.die := rfl
@[simp] theorem Dev.begin_retPending (d : Dev) : (d.begin).retPending = d.retPending := rfl
@[simp] theorem Dev.begin_mem (d : Dev) : (d.begin).mem = d.mem := rfl
@[simp] theorem Dev.begin_memErr (d : Dev) : (d.begin).memErr = d.memErr := rfl
@[simp] theorem Dev.begin_heldErr (d : Dev) : (d.begin).heldErr = d.heldErr := rfl
@[simp] theorem Dev.begin_tick (d : Dev) : (d.begin).tick = d.tick := rfl
@[simp] theorem Dev.begin_tickLatch (d : Dev) : (d.begin).tickLatch = d.tickLatch := rfl
@[simp] theorem Dev.begin_scrub (d : Dev) : (d.begin).scrub = d.scrub := rfl
@[simp] theorem Dev.begin_scrubAt (d : Dev) : (d.begin).scrubAt = d.scrubAt := rfl
@[simp] theorem Dev.begin_power (d : Dev) : (d.begin).power = d.power := rfl
@[simp] theorem Dev.begin_frz (d : Dev) : (d.begin).frz = d.frz := rfl
@[simp] theorem Dev.begin_recs (d : Dev) : (d.begin).recs = d.recs := rfl
@[simp] theorem Dev.begin_nextId (d : Dev) : (d.begin).nextId = d.nextId := rfl
@[simp] theorem Dev.begin_nextOrder (d : Dev) : (d.begin).nextOrder = d.nextOrder := rfl
@[simp] theorem Dev.begin_irqHold (d : Dev) : (d.begin).irqHold = d.irqHold := rfl
@[simp] theorem Dev.begin_irqAt (d : Dev) : (d.begin).irqAt = d.irqAt := rfl
@[simp] theorem Dev.begin_traceDue (d : Dev) : (d.begin).traceDue = d.traceDue := rfl
@[simp] theorem Dev.begin_events (d : Dev) : (d.begin).events = d.events := rfl
@[simp] theorem Dev.begin_evSeq (d : Dev) : (d.begin).evSeq = d.evSeq := rfl
@[simp] theorem Dev.begin_evDropped (d : Dev) : (d.begin).evDropped = d.evDropped := rfl
@[simp] theorem Dev.begin_evFirstDropped (d : Dev) : (d.begin).evFirstDropped = d.evFirstDropped := rfl
@[simp] theorem Dev.begin_limits (d : Dev) : (d.begin).limits = d.limits := rfl
@[simp] theorem Dev.begin_hostSince (d : Dev) : (d.begin).hostSince = d.hostSince := rfl
@[simp] theorem Dev.begin_lostSince (d : Dev) : (d.begin).lostSince = d.lostSince := rfl
@[simp] theorem Dev.begin_values (d : Dev) : (d.begin).values = d.values := rfl
@[simp] theorem Dev.begin_produced (d : Dev) : (d.begin).produced = d.produced := rfl
@[simp] theorem Dev.begin_writers (d : Dev) : (d.begin).writers = d.writers := rfl
@[simp] theorem Dev.begin_forces (d : Dev) : (d.begin).forces = d.forces := rfl
@[simp] theorem Dev.begin_commands (d : Dev) : (d.begin).commands = d.commands := rfl
@[simp] theorem Dev.begin_mailA (d : Dev) : (d.begin).mailA = d.mailA := rfl
@[simp] theorem Dev.begin_mailB (d : Dev) : (d.begin).mailB = d.mailB := rfl
@[simp] theorem Dev.begin_mailSeqA (d : Dev) : (d.begin).mailSeqA = d.mailSeqA := rfl
@[simp] theorem Dev.begin_mailSeqB (d : Dev) : (d.begin).mailSeqB = d.mailSeqB := rfl
@[simp] theorem Dev.begin_mailOutA (d : Dev) : (d.begin).mailOutA = d.mailOutA := rfl
@[simp] theorem Dev.begin_mailOutB (d : Dev) : (d.begin).mailOutB = d.mailOutB := rfl
@[simp] theorem Dev.begin_resumes (d : Dev) : (d.begin).resumes = d.resumes := rfl
@[simp] theorem Dev.begin_frameSeq (d : Dev) : (d.begin).frameSeq = d.frameSeq := rfl
@[simp] theorem Dev.begin_downA (d : Dev) : (d.begin).downA = d.downA := rfl
@[simp] theorem Dev.begin_downB (d : Dev) : (d.begin).downB = d.downB := rfl
@[simp] theorem Dev.begin_upA (d : Dev) : (d.begin).upA = d.upA := rfl
@[simp] theorem Dev.begin_upB (d : Dev) : (d.begin).upB = d.upB := rfl
@[simp] theorem Dev.begin_upMissA (d : Dev) : (d.begin).upMissA = d.upMissA := rfl
@[simp] theorem Dev.begin_upMissB (d : Dev) : (d.begin).upMissB = d.upMissB := rfl
@[simp] theorem Dev.begin_upHistA (d : Dev) : (d.begin).upHistA = d.upHistA := rfl
@[simp] theorem Dev.begin_upHistB (d : Dev) : (d.begin).upHistB = d.upHistB := rfl
@[simp] theorem Dev.begin_dieA (d : Dev) : (d.begin).dieA = d.dieA := rfl
@[simp] theorem Dev.begin_dieB (d : Dev) : (d.begin).dieB = d.dieB := rfl
@[simp] theorem Dev.begin_meas (d : Dev) : (d.begin).meas = d.meas := rfl
@[simp] theorem Dev.begin_dis (d : Dev) : (d.begin).dis = d.dis := rfl
@[simp] theorem Dev.begin_dos (d : Dev) : (d.begin).dos = d.dos := rfl
@[simp] theorem Dev.begin_floats (d : Dev) : (d.begin).floats = d.floats := rfl
@[simp] theorem Dev.begin_poss (d : Dev) : (d.begin).poss = d.poss := rfl
@[simp] theorem Dev.begin_emus (d : Dev) : (d.begin).emus = d.emus := rfl
@[simp] theorem Dev.begin_fans (d : Dev) : (d.begin).fans = d.fans := rfl
@[simp] theorem Dev.begin_aos (d : Dev) : (d.begin).aos = d.aos := rfl
@[simp] theorem Dev.begin_shut (d : Dev) : (d.begin).shut = d.shut := rfl
@[simp] theorem Dev.begin_sec (d : Dev) : (d.begin).sec = d.sec := rfl
@[simp] theorem Dev.begin_sched (d : Dev) : (d.begin).sched = d.sched := rfl
@[simp] theorem Dev.begin_blocks (d : Dev) : (d.begin).blocks = d.blocks := rfl
@[simp] theorem Dev.begin_storeDue (d : Dev) : (d.begin).storeDue = d.storeDue := rfl
@[simp] theorem Dev.begin_pat (d : Dev) : (d.begin).pat = d.pat := rfl
@[simp] theorem Dev.begin_arrivals (d : Dev) : (d.begin).arrivals = d.arrivals := rfl
@[simp] theorem Dev.begin_eng (d : Dev) : (d.begin).eng = d.eng := rfl
@[simp] theorem Dev.begin_quilt (d : Dev) : (d.begin).quilt = d.quilt := rfl
@[simp] theorem Dev.begin_buses (d : Dev) : (d.begin).buses = d.buses := rfl
@[simp] theorem Dev.begin_pollSets (d : Dev) : (d.begin).pollSets = d.pollSets := rfl
@[simp] theorem Dev.begin_nvm (d : Dev) : (d.begin).nvm = d.nvm := rfl
@[simp] theorem Dev.begin_panel (d : Dev) : (d.begin).panel = d.panel := rfl
@[simp] theorem Dev.begin_keys (d : Dev) : (d.begin).keys = d.keys := rfl
@[simp] theorem Dev.begin_fit (d : Dev) : (d.begin).fit = d.fit := rfl
@[simp] theorem Dev.begin_free (d : Dev) : (d.begin).free = d.free := rfl
@[simp] theorem Dev.begin_get (d : Dev) (g : Fld) (j : Nat) : (d.begin).get g j = d.get g j := rfl
@[simp] theorem Dev.begin_isSet (d : Dev) (g : Fld) (j : Nat) : (d.begin).isSet g j = d.isSet g j := rfl
@[simp] theorem Dev.begin_dget (d : Dev) (g : Fld) (j : Nat) : (d.begin).dget g j = d.dget g j := rfl
@[simp] theorem Dev.begin_disSet (d : Dev) (g : Fld) (j : Nat) : (d.begin).disSet g j = d.disSet g j := rfl

/-! ### A descriptor's record changed -/

@[simp] theorem Dev.setRec_part (d : Dev) (id : Nat) (f : Rec → Rec) : (d.setRec id f).part = d.part := rfl
@[simp] theorem Dev.setRec_regs (d : Dev) (id : Nat) (f : Rec → Rec) : (d.setRec id f).regs = d.regs := rfl
@[simp] theorem Dev.setRec_die (d : Dev) (id : Nat) (f : Rec → Rec) : (d.setRec id f).die = d.die := rfl
@[simp] theorem Dev.setRec_retPending (d : Dev) (id : Nat) (f : Rec → Rec) : (d.setRec id f).retPending = d.retPending := rfl
@[simp] theorem Dev.setRec_mem (d : Dev) (id : Nat) (f : Rec → Rec) : (d.setRec id f).mem = d.mem := rfl
@[simp] theorem Dev.setRec_memErr (d : Dev) (id : Nat) (f : Rec → Rec) : (d.setRec id f).memErr = d.memErr := rfl
@[simp] theorem Dev.setRec_heldErr (d : Dev) (id : Nat) (f : Rec → Rec) : (d.setRec id f).heldErr = d.heldErr := rfl
@[simp] theorem Dev.setRec_tick (d : Dev) (id : Nat) (f : Rec → Rec) : (d.setRec id f).tick = d.tick := rfl
@[simp] theorem Dev.setRec_tickLatch (d : Dev) (id : Nat) (f : Rec → Rec) : (d.setRec id f).tickLatch = d.tickLatch := rfl
@[simp] theorem Dev.setRec_scrub (d : Dev) (id : Nat) (f : Rec → Rec) : (d.setRec id f).scrub = d.scrub := rfl
@[simp] theorem Dev.setRec_scrubAt (d : Dev) (id : Nat) (f : Rec → Rec) : (d.setRec id f).scrubAt = d.scrubAt := rfl
@[simp] theorem Dev.setRec_power (d : Dev) (id : Nat) (f : Rec → Rec) : (d.setRec id f).power = d.power := rfl
@[simp] theorem Dev.setRec_frz (d : Dev) (id : Nat) (f : Rec → Rec) : (d.setRec id f).frz = d.frz := rfl
@[simp] theorem Dev.setRec_nextId (d : Dev) (id : Nat) (f : Rec → Rec) : (d.setRec id f).nextId = d.nextId := rfl
@[simp] theorem Dev.setRec_nextOrder (d : Dev) (id : Nat) (f : Rec → Rec) : (d.setRec id f).nextOrder = d.nextOrder := rfl
@[simp] theorem Dev.setRec_irqHold (d : Dev) (id : Nat) (f : Rec → Rec) : (d.setRec id f).irqHold = d.irqHold := rfl
@[simp] theorem Dev.setRec_irqAt (d : Dev) (id : Nat) (f : Rec → Rec) : (d.setRec id f).irqAt = d.irqAt := rfl
@[simp] theorem Dev.setRec_traceDue (d : Dev) (id : Nat) (f : Rec → Rec) : (d.setRec id f).traceDue = d.traceDue := rfl
@[simp] theorem Dev.setRec_events (d : Dev) (id : Nat) (f : Rec → Rec) : (d.setRec id f).events = d.events := rfl
@[simp] theorem Dev.setRec_evSeq (d : Dev) (id : Nat) (f : Rec → Rec) : (d.setRec id f).evSeq = d.evSeq := rfl
@[simp] theorem Dev.setRec_evDropped (d : Dev) (id : Nat) (f : Rec → Rec) : (d.setRec id f).evDropped = d.evDropped := rfl
@[simp] theorem Dev.setRec_evFirstDropped (d : Dev) (id : Nat) (f : Rec → Rec) : (d.setRec id f).evFirstDropped = d.evFirstDropped := rfl
@[simp] theorem Dev.setRec_limits (d : Dev) (id : Nat) (f : Rec → Rec) : (d.setRec id f).limits = d.limits := rfl
@[simp] theorem Dev.setRec_hostSince (d : Dev) (id : Nat) (f : Rec → Rec) : (d.setRec id f).hostSince = d.hostSince := rfl
@[simp] theorem Dev.setRec_lostSince (d : Dev) (id : Nat) (f : Rec → Rec) : (d.setRec id f).lostSince = d.lostSince := rfl
@[simp] theorem Dev.setRec_values (d : Dev) (id : Nat) (f : Rec → Rec) : (d.setRec id f).values = d.values := rfl
@[simp] theorem Dev.setRec_produced (d : Dev) (id : Nat) (f : Rec → Rec) : (d.setRec id f).produced = d.produced := rfl
@[simp] theorem Dev.setRec_writers (d : Dev) (id : Nat) (f : Rec → Rec) : (d.setRec id f).writers = d.writers := rfl
@[simp] theorem Dev.setRec_forces (d : Dev) (id : Nat) (f : Rec → Rec) : (d.setRec id f).forces = d.forces := rfl
@[simp] theorem Dev.setRec_commands (d : Dev) (id : Nat) (f : Rec → Rec) : (d.setRec id f).commands = d.commands := rfl
@[simp] theorem Dev.setRec_mailA (d : Dev) (id : Nat) (f : Rec → Rec) : (d.setRec id f).mailA = d.mailA := rfl
@[simp] theorem Dev.setRec_mailB (d : Dev) (id : Nat) (f : Rec → Rec) : (d.setRec id f).mailB = d.mailB := rfl
@[simp] theorem Dev.setRec_mailSeqA (d : Dev) (id : Nat) (f : Rec → Rec) : (d.setRec id f).mailSeqA = d.mailSeqA := rfl
@[simp] theorem Dev.setRec_mailSeqB (d : Dev) (id : Nat) (f : Rec → Rec) : (d.setRec id f).mailSeqB = d.mailSeqB := rfl
@[simp] theorem Dev.setRec_mailOutA (d : Dev) (id : Nat) (f : Rec → Rec) : (d.setRec id f).mailOutA = d.mailOutA := rfl
@[simp] theorem Dev.setRec_mailOutB (d : Dev) (id : Nat) (f : Rec → Rec) : (d.setRec id f).mailOutB = d.mailOutB := rfl
@[simp] theorem Dev.setRec_resumes (d : Dev) (id : Nat) (f : Rec → Rec) : (d.setRec id f).resumes = d.resumes := rfl
@[simp] theorem Dev.setRec_frameSeq (d : Dev) (id : Nat) (f : Rec → Rec) : (d.setRec id f).frameSeq = d.frameSeq := rfl
@[simp] theorem Dev.setRec_downA (d : Dev) (id : Nat) (f : Rec → Rec) : (d.setRec id f).downA = d.downA := rfl
@[simp] theorem Dev.setRec_downB (d : Dev) (id : Nat) (f : Rec → Rec) : (d.setRec id f).downB = d.downB := rfl
@[simp] theorem Dev.setRec_upA (d : Dev) (id : Nat) (f : Rec → Rec) : (d.setRec id f).upA = d.upA := rfl
@[simp] theorem Dev.setRec_upB (d : Dev) (id : Nat) (f : Rec → Rec) : (d.setRec id f).upB = d.upB := rfl
@[simp] theorem Dev.setRec_upMissA (d : Dev) (id : Nat) (f : Rec → Rec) : (d.setRec id f).upMissA = d.upMissA := rfl
@[simp] theorem Dev.setRec_upMissB (d : Dev) (id : Nat) (f : Rec → Rec) : (d.setRec id f).upMissB = d.upMissB := rfl
@[simp] theorem Dev.setRec_upHistA (d : Dev) (id : Nat) (f : Rec → Rec) : (d.setRec id f).upHistA = d.upHistA := rfl
@[simp] theorem Dev.setRec_upHistB (d : Dev) (id : Nat) (f : Rec → Rec) : (d.setRec id f).upHistB = d.upHistB := rfl
@[simp] theorem Dev.setRec_dieA (d : Dev) (id : Nat) (f : Rec → Rec) : (d.setRec id f).dieA = d.dieA := rfl
@[simp] theorem Dev.setRec_dieB (d : Dev) (id : Nat) (f : Rec → Rec) : (d.setRec id f).dieB = d.dieB := rfl
@[simp] theorem Dev.setRec_meas (d : Dev) (id : Nat) (f : Rec → Rec) : (d.setRec id f).meas = d.meas := rfl
@[simp] theorem Dev.setRec_dis (d : Dev) (id : Nat) (f : Rec → Rec) : (d.setRec id f).dis = d.dis := rfl
@[simp] theorem Dev.setRec_dos (d : Dev) (id : Nat) (f : Rec → Rec) : (d.setRec id f).dos = d.dos := rfl
@[simp] theorem Dev.setRec_floats (d : Dev) (id : Nat) (f : Rec → Rec) : (d.setRec id f).floats = d.floats := rfl
@[simp] theorem Dev.setRec_poss (d : Dev) (id : Nat) (f : Rec → Rec) : (d.setRec id f).poss = d.poss := rfl
@[simp] theorem Dev.setRec_emus (d : Dev) (id : Nat) (f : Rec → Rec) : (d.setRec id f).emus = d.emus := rfl
@[simp] theorem Dev.setRec_fans (d : Dev) (id : Nat) (f : Rec → Rec) : (d.setRec id f).fans = d.fans := rfl
@[simp] theorem Dev.setRec_aos (d : Dev) (id : Nat) (f : Rec → Rec) : (d.setRec id f).aos = d.aos := rfl
@[simp] theorem Dev.setRec_shut (d : Dev) (id : Nat) (f : Rec → Rec) : (d.setRec id f).shut = d.shut := rfl
@[simp] theorem Dev.setRec_sec (d : Dev) (id : Nat) (f : Rec → Rec) : (d.setRec id f).sec = d.sec := rfl
@[simp] theorem Dev.setRec_sched (d : Dev) (id : Nat) (f : Rec → Rec) : (d.setRec id f).sched = d.sched := rfl
@[simp] theorem Dev.setRec_blocks (d : Dev) (id : Nat) (f : Rec → Rec) : (d.setRec id f).blocks = d.blocks := rfl
@[simp] theorem Dev.setRec_storeDue (d : Dev) (id : Nat) (f : Rec → Rec) : (d.setRec id f).storeDue = d.storeDue := rfl
@[simp] theorem Dev.setRec_pat (d : Dev) (id : Nat) (f : Rec → Rec) : (d.setRec id f).pat = d.pat := rfl
@[simp] theorem Dev.setRec_arrivals (d : Dev) (id : Nat) (f : Rec → Rec) : (d.setRec id f).arrivals = d.arrivals := rfl
@[simp] theorem Dev.setRec_eng (d : Dev) (id : Nat) (f : Rec → Rec) : (d.setRec id f).eng = d.eng := rfl
@[simp] theorem Dev.setRec_quilt (d : Dev) (id : Nat) (f : Rec → Rec) : (d.setRec id f).quilt = d.quilt := rfl
@[simp] theorem Dev.setRec_buses (d : Dev) (id : Nat) (f : Rec → Rec) : (d.setRec id f).buses = d.buses := rfl
@[simp] theorem Dev.setRec_pollSets (d : Dev) (id : Nat) (f : Rec → Rec) : (d.setRec id f).pollSets = d.pollSets := rfl
@[simp] theorem Dev.setRec_nvm (d : Dev) (id : Nat) (f : Rec → Rec) : (d.setRec id f).nvm = d.nvm := rfl
@[simp] theorem Dev.setRec_panel (d : Dev) (id : Nat) (f : Rec → Rec) : (d.setRec id f).panel = d.panel := rfl
@[simp] theorem Dev.setRec_keys (d : Dev) (id : Nat) (f : Rec → Rec) : (d.setRec id f).keys = d.keys := rfl
@[simp] theorem Dev.setRec_fit (d : Dev) (id : Nat) (f : Rec → Rec) : (d.setRec id f).fit = d.fit := rfl
@[simp] theorem Dev.setRec_free (d : Dev) (id : Nat) (f : Rec → Rec) : (d.setRec id f).free = d.free := rfl
@[simp] theorem Dev.setRec_out (d : Dev) (id : Nat) (f : Rec → Rec) : (d.setRec id f).out = d.out := rfl
@[simp] theorem Dev.setRec_get (d : Dev) (id : Nat) (f : Rec → Rec) (g : Fld) (j : Nat) : (d.setRec id f).get g j = d.get g j := rfl
@[simp] theorem Dev.setRec_isSet (d : Dev) (id : Nat) (f : Rec → Rec) (g : Fld) (j : Nat) : (d.setRec id f).isSet g j = d.isSet g j := rfl
@[simp] theorem Dev.setRec_dget (d : Dev) (id : Nat) (f : Rec → Rec) (g : Fld) (j : Nat) : (d.setRec id f).dget g j = d.dget g j := rfl
@[simp] theorem Dev.setRec_disSet (d : Dev) (id : Nat) (f : Rec → Rec) (g : Fld) (j : Nat) : (d.setRec id f).disSet g j = d.disSet g j := rfl

/-! ### The next free value -/

@[simp] theorem Dev.nextFree_part (d : Dev) : (d.nextFree).part = d.part := rfl
@[simp] theorem Dev.nextFree_regs (d : Dev) : (d.nextFree).regs = d.regs := rfl
@[simp] theorem Dev.nextFree_die (d : Dev) : (d.nextFree).die = d.die := rfl
@[simp] theorem Dev.nextFree_retPending (d : Dev) : (d.nextFree).retPending = d.retPending := rfl
@[simp] theorem Dev.nextFree_mem (d : Dev) : (d.nextFree).mem = d.mem := rfl
@[simp] theorem Dev.nextFree_memErr (d : Dev) : (d.nextFree).memErr = d.memErr := rfl
@[simp] theorem Dev.nextFree_heldErr (d : Dev) : (d.nextFree).heldErr = d.heldErr := rfl
@[simp] theorem Dev.nextFree_tick (d : Dev) : (d.nextFree).tick = d.tick := rfl
@[simp] theorem Dev.nextFree_tickLatch (d : Dev) : (d.nextFree).tickLatch = d.tickLatch := rfl
@[simp] theorem Dev.nextFree_scrub (d : Dev) : (d.nextFree).scrub = d.scrub := rfl
@[simp] theorem Dev.nextFree_scrubAt (d : Dev) : (d.nextFree).scrubAt = d.scrubAt := rfl
@[simp] theorem Dev.nextFree_power (d : Dev) : (d.nextFree).power = d.power := rfl
@[simp] theorem Dev.nextFree_frz (d : Dev) : (d.nextFree).frz = d.frz := rfl
@[simp] theorem Dev.nextFree_recs (d : Dev) : (d.nextFree).recs = d.recs := rfl
@[simp] theorem Dev.nextFree_nextId (d : Dev) : (d.nextFree).nextId = d.nextId := rfl
@[simp] theorem Dev.nextFree_nextOrder (d : Dev) : (d.nextFree).nextOrder = d.nextOrder := rfl
@[simp] theorem Dev.nextFree_irqHold (d : Dev) : (d.nextFree).irqHold = d.irqHold := rfl
@[simp] theorem Dev.nextFree_irqAt (d : Dev) : (d.nextFree).irqAt = d.irqAt := rfl
@[simp] theorem Dev.nextFree_traceDue (d : Dev) : (d.nextFree).traceDue = d.traceDue := rfl
@[simp] theorem Dev.nextFree_events (d : Dev) : (d.nextFree).events = d.events := rfl
@[simp] theorem Dev.nextFree_evSeq (d : Dev) : (d.nextFree).evSeq = d.evSeq := rfl
@[simp] theorem Dev.nextFree_evDropped (d : Dev) : (d.nextFree).evDropped = d.evDropped := rfl
@[simp] theorem Dev.nextFree_evFirstDropped (d : Dev) : (d.nextFree).evFirstDropped = d.evFirstDropped := rfl
@[simp] theorem Dev.nextFree_limits (d : Dev) : (d.nextFree).limits = d.limits := rfl
@[simp] theorem Dev.nextFree_hostSince (d : Dev) : (d.nextFree).hostSince = d.hostSince := rfl
@[simp] theorem Dev.nextFree_lostSince (d : Dev) : (d.nextFree).lostSince = d.lostSince := rfl
@[simp] theorem Dev.nextFree_values (d : Dev) : (d.nextFree).values = d.values := rfl
@[simp] theorem Dev.nextFree_produced (d : Dev) : (d.nextFree).produced = d.produced := rfl
@[simp] theorem Dev.nextFree_writers (d : Dev) : (d.nextFree).writers = d.writers := rfl
@[simp] theorem Dev.nextFree_forces (d : Dev) : (d.nextFree).forces = d.forces := rfl
@[simp] theorem Dev.nextFree_commands (d : Dev) : (d.nextFree).commands = d.commands := rfl
@[simp] theorem Dev.nextFree_mailA (d : Dev) : (d.nextFree).mailA = d.mailA := rfl
@[simp] theorem Dev.nextFree_mailB (d : Dev) : (d.nextFree).mailB = d.mailB := rfl
@[simp] theorem Dev.nextFree_mailSeqA (d : Dev) : (d.nextFree).mailSeqA = d.mailSeqA := rfl
@[simp] theorem Dev.nextFree_mailSeqB (d : Dev) : (d.nextFree).mailSeqB = d.mailSeqB := rfl
@[simp] theorem Dev.nextFree_mailOutA (d : Dev) : (d.nextFree).mailOutA = d.mailOutA := rfl
@[simp] theorem Dev.nextFree_mailOutB (d : Dev) : (d.nextFree).mailOutB = d.mailOutB := rfl
@[simp] theorem Dev.nextFree_resumes (d : Dev) : (d.nextFree).resumes = d.resumes := rfl
@[simp] theorem Dev.nextFree_frameSeq (d : Dev) : (d.nextFree).frameSeq = d.frameSeq := rfl
@[simp] theorem Dev.nextFree_downA (d : Dev) : (d.nextFree).downA = d.downA := rfl
@[simp] theorem Dev.nextFree_downB (d : Dev) : (d.nextFree).downB = d.downB := rfl
@[simp] theorem Dev.nextFree_upA (d : Dev) : (d.nextFree).upA = d.upA := rfl
@[simp] theorem Dev.nextFree_upB (d : Dev) : (d.nextFree).upB = d.upB := rfl
@[simp] theorem Dev.nextFree_upMissA (d : Dev) : (d.nextFree).upMissA = d.upMissA := rfl
@[simp] theorem Dev.nextFree_upMissB (d : Dev) : (d.nextFree).upMissB = d.upMissB := rfl
@[simp] theorem Dev.nextFree_upHistA (d : Dev) : (d.nextFree).upHistA = d.upHistA := rfl
@[simp] theorem Dev.nextFree_upHistB (d : Dev) : (d.nextFree).upHistB = d.upHistB := rfl
@[simp] theorem Dev.nextFree_dieA (d : Dev) : (d.nextFree).dieA = d.dieA := rfl
@[simp] theorem Dev.nextFree_dieB (d : Dev) : (d.nextFree).dieB = d.dieB := rfl
@[simp] theorem Dev.nextFree_meas (d : Dev) : (d.nextFree).meas = d.meas := rfl
@[simp] theorem Dev.nextFree_dis (d : Dev) : (d.nextFree).dis = d.dis := rfl
@[simp] theorem Dev.nextFree_dos (d : Dev) : (d.nextFree).dos = d.dos := rfl
@[simp] theorem Dev.nextFree_floats (d : Dev) : (d.nextFree).floats = d.floats := rfl
@[simp] theorem Dev.nextFree_poss (d : Dev) : (d.nextFree).poss = d.poss := rfl
@[simp] theorem Dev.nextFree_emus (d : Dev) : (d.nextFree).emus = d.emus := rfl
@[simp] theorem Dev.nextFree_fans (d : Dev) : (d.nextFree).fans = d.fans := rfl
@[simp] theorem Dev.nextFree_aos (d : Dev) : (d.nextFree).aos = d.aos := rfl
@[simp] theorem Dev.nextFree_shut (d : Dev) : (d.nextFree).shut = d.shut := rfl
@[simp] theorem Dev.nextFree_sec (d : Dev) : (d.nextFree).sec = d.sec := rfl
@[simp] theorem Dev.nextFree_sched (d : Dev) : (d.nextFree).sched = d.sched := rfl
@[simp] theorem Dev.nextFree_blocks (d : Dev) : (d.nextFree).blocks = d.blocks := rfl
@[simp] theorem Dev.nextFree_storeDue (d : Dev) : (d.nextFree).storeDue = d.storeDue := rfl
@[simp] theorem Dev.nextFree_pat (d : Dev) : (d.nextFree).pat = d.pat := rfl
@[simp] theorem Dev.nextFree_arrivals (d : Dev) : (d.nextFree).arrivals = d.arrivals := rfl
@[simp] theorem Dev.nextFree_eng (d : Dev) : (d.nextFree).eng = d.eng := rfl
@[simp] theorem Dev.nextFree_quilt (d : Dev) : (d.nextFree).quilt = d.quilt := rfl
@[simp] theorem Dev.nextFree_buses (d : Dev) : (d.nextFree).buses = d.buses := rfl
@[simp] theorem Dev.nextFree_pollSets (d : Dev) : (d.nextFree).pollSets = d.pollSets := rfl
@[simp] theorem Dev.nextFree_nvm (d : Dev) : (d.nextFree).nvm = d.nvm := rfl
@[simp] theorem Dev.nextFree_panel (d : Dev) : (d.nextFree).panel = d.panel := rfl
@[simp] theorem Dev.nextFree_keys (d : Dev) : (d.nextFree).keys = d.keys := rfl
@[simp] theorem Dev.nextFree_fit (d : Dev) : (d.nextFree).fit = d.fit := rfl
@[simp] theorem Dev.nextFree_out (d : Dev) : (d.nextFree).out = d.out := rfl
@[simp] theorem Dev.nextFree_get (d : Dev) (g : Fld) (j : Nat) : (d.nextFree).get g j = d.get g j := rfl
@[simp] theorem Dev.nextFree_isSet (d : Dev) (g : Fld) (j : Nat) : (d.nextFree).isSet g j = d.isSet g j := rfl
@[simp] theorem Dev.nextFree_dget (d : Dev) (g : Fld) (j : Nat) : (d.nextFree).dget g j = d.dget g j := rfl
@[simp] theorem Dev.nextFree_disSet (d : Dev) (g : Fld) (j : Nat) : (d.nextFree).disSet g j = d.disSet g j := rfl

@[simp] theorem Dev.begin_out (d : Dev) : d.begin.out = [] := rfl
@[simp] theorem Dev.emit_out (d : Dev) (o : Output) : (d.emit o).out = d.out ++ [o] := rfl
@[simp] theorem Dev.nextFree_free (d : Dev) : d.nextFree.free = d.free + 1 := rfl

end Sys2Proof.Machine
end

