-- ==== Sys2Proof/Machine/RegRead.lean ====
section
/-! DEFINITION. What a host read of BAR0 gives (00_scope.md, 01_architecture.md). The rows whose read has an effect have meanings of their own. -/

namespace Sys2Proof.Machine
open Sys2Proof

/-- Whether the grade lacks element `i` of a field: registers of field die B read 0 on the S grade (R4, R135, R179, R211, R373, R398). -/
def Dev.absent (d : Dev) (f : Fld) (i : Nat) : Bool :=
  d.part.grade == .s &&
    (match f.addr i / 0x10000 with
      | 4 => true
      | 5 | 8 | 9 | 10 | 11 => f.addr i % 0x10000 != 0 && f.count != 1 && f.count ≤ 2 * i
      | _ => false)

/-- A truth value as a bit. -/
def bitOf (b : Bool) : Nat := if b then 1 else 0

/-- A mask of those of `n` numbers for which `p` holds. -/
def maskOf (n : Nat) (p : Nat → Bool) : Nat := ((List.range n).map fun i => if p i then 2 ^ i else 0).foldl (· + ·) 0

/-- CONV_STAT of a converter, field by field from its lowest bit (R136). -/
def Dev.convStat (d : Dev) (c lo : Nat) : Nat :=
  let x := d.conv c
  match lo with
  | 0 => bitOf x.passing
  | 1 => bitOf x.powered
  | 2 => bitOf x.calibrating
  | 3 => bitOf x.capturing
  | 4 => bitOf x.urgent.isSome
  | 8 => (x.visit.map fun v => v.entry).getD 0
  | _ => x.queue.length

/-- The parts of the capability and status registers that differ by part, and what the device forms when a register is read; none for a field
that is read as it is kept. -/
def Dev.formed (d : Dev) (f : Fld) (i : Nat) : Option Nat :=
  let k := f.key 0
  let s := d.part.grade == .s
  if k = Reg.GLOBAL_CAP.STEPPING.key 0 then some d.part.stepping.code
  else if k = Reg.GLOBAL_CAP.BL_MAX.key 0 then some d.part.stepping.blMax
  else if k = Reg.GLOBAL_CAP.FIELD_B.key 0 then some (bitOf !s)
  else if k = Reg.GLOBAL_GRADE.GRADE.key 0 then some (if s then 2 else 1)
  else if k = Reg.GLOBAL_TICK_LO.VALUE.key 0 then some (d.tick % 2 ^ 32)
  else if k = Reg.GLOBAL_TICK_HI.VALUE.key 0 then some (if d.frozen then d.tick / 2 ^ 32 % 2 ^ 32 else d.tickLatch)
  else if k = Reg.HOSTQ_STAT.INFLIGHT.key 0 then some d.inflightAll
  else if k = Reg.SQ_STAT.INFLIGHT.key 0 then some (d.inflight i)
  else if k = Reg.CQ_STAT.FULL.key 0 then
    some (bitOf (!(d.eligibleFor i).isEmpty && !ringSpace (d.get Reg.CQ_CFG.SIZE_LOG2 i) (d.get Reg.CQ_STAT.HEAD i) (d.get Reg.CQ_STAT.TAIL i)))
  else if k = Reg.EQ_STAT.FULL.key 0 then some (bitOf ((!d.events.isEmpty || 0 < d.evDropped) && !d.eventSpace))
  else if k = Reg.MEAS_CAP.CONV_PRESENT.key 0 then some (if s then 0x0F else 0xFF)
  else if k = Reg.MEAS_CAP.GROUP8.key 0 then some (bitOf !s)
  else if k = Reg.MEAS_STAT.CAL_BUSY.key 0 then some (maskOf 8 fun c => (d.conv c).calibrating)
  else if k = Reg.MEAS_STAT.CAPTURE_BUSY.key 0 then some (maskOf 8 fun c => (d.conv c).capturing)
  else if Reg.CONV_STAT.RUNNING.addr 0 = f.addr 0 then some (d.convStat i f.lo)
  else if k = Reg.SLOT_STAT.AGE.key 0 then
    some (match Map.get d.meas.slotSeen i none with
      | none => 0xFFFF
      | some t => min 0xFFFF ((d.tick : Int) - t).toNat)
  else if k = Reg.DO_STAT.COMMANDED.key 0 then some (d.sent (handle clsDO (d.doStatOf i)) % 2)
  else if (Reg.DO_STAT.STATE.addr 0 = f.addr 0 || Reg.DO_CUR.CURRENT.addr 0 = f.addr 0) && d.doStatOf i != i then some (d.get f (d.doStatOf i))
  else if k = Reg.AO_STAT.LINKED.key 0 then some (bitOf (d.aoLinked i))
  else if k = Reg.ZONE_STAT.OVR_LEFT.key 0 then
    some (match (d.zone i).override with
      | some (_, t) => if t = 0 then 0 else (t - d.tick + 5999999) / 6000000
      | none => 0)
  else if k = Reg.PAT_STAT.RUNNING.key 0 then some (bitOf (d.isSet Reg.PAT_STAT.RUNNING 0 && d.controlling))
  else if k = Reg.NVM_STAT.PENDING.key 0 then some d.retPending.length
  else if k = Reg.NVM_LOCK_STAT.LOCKED_OUT.key 0 then some d.lockedOutView
  else if k = Reg.NVM_REGION.LOCK_LEFT.key 0 then some (d.lockLeftView i)
  else if Reg.NVM_RECQ_RES.RECORD.addr 0 = f.addr 0 then some (bitsAt d.recqResult f.lo f.width)
  else if k = Reg.PWR_VCORE.TARGET.key 0 then some (if d.isSet Reg.PWR_PMBUS.EN 0 then d.get f 0 else 800)
  else if k = Reg.SHUTTLE_TOKENS.FREE_B.key 0 && s then some 0
  else if s && ([Reg.DIO_CAP.DI, Reg.DIO_CAP.DO, Reg.DIO_CAP.FLOAT, Reg.POS_CAP.PORTS, Reg.POS_CAP.EMU, Reg.SHUTTLE_CAP.BANKS
      , Reg.SHUTTLE_CAP.CHANNELS, Reg.FANAO_CAP.FANS, Reg.FANAO_CAP.AOS].any fun g => g.key 0 == k) then some (d.get f 0 / 2)
  else if Reg.FW_REC_STAT.BUSY.addr 0 = f.addr 0 && !(d.power.phase == .recovery) then some 0
  else none

/-- What a read of a field gives: write-only fields read 0 (R15). -/
def Dev.view (d : Dev) (f : Fld) (i : Nat) : Nat :=
  if d.absent f i || f.ty = .wo then 0 else (d.formed f i).getD (d.get f i) % 2 ^ f.width

/-- The offsets that BAR0 serves in firmware recovery (R653). -/
def recoveryOffsets : List Nat := [0x0, 0x4, 0x8, 0xF0000, 0xF0004, 0xF1008, 0xF100C, 0xF1018, 0xF101C, 0xF1020, 0xF1024]

/-- The 32 bits that a read of an aligned BAR0 offset gives (R15, R17, R51, R653), but for the effects of R68 and R684. -/
def Dev.readReg (d : Dev) (off : Nat) : Nat :=
  if d.power.phase == .recovery && !recoveryOffsets.contains off then 0
  else match findReg off with
    | none => 0
    | some (fs, i, half) => (fs.foldl (fun n f => n + 2 ^ f.lo * d.view f i) 0) / 2 ^ (32 * half) % 2 ^ 32

/-- What a read of `size` bytes of BAR0 gives: the addressed bytes of one register, or two registers of one instant, the lower address in the low
half (R52); quilt time whole at 0x0018 (R68). An access of another kind reads nothing. -/
def Dev.readSized (d : Dev) (off size : Nat) : Option Nat :=
  if size = 8 && off % 8 = 0 then
    some (if off = 0x18 && !(d.power.phase == .recovery) then d.tick % 2 ^ 64 else d.readReg off + 2 ^ 32 * d.readReg (off + 4))
  else if size ≤ 4 && off % 4 + size ≤ 4 && 0 < size then some (d.readReg (off - off % 4) / 2 ^ (8 * (off % 4)) % 2 ^ (8 * size))
  else none

end Sys2Proof.Machine
end

