-- ==== Sys2Proof/WellFormed.lean ====
section
/-! DEFINITION. Which commands are well formed: numbers of objects, registers and ports within what the part has, bytes below 256, a descriptor under its own opcode. -/

namespace Sys2Proof

/-- Whether the operands of a command lie in the ranges that the spec gives the objects they name (R35, R38, R52, R53, R459, R463). -/
def Instr.wf (i : Instr) : Bool :=
  match i with
  | .nop q d => decide (q < 64) && d.u16 0 == 0x0101
  | .measCal q d => decide (q < 64) && d.u16 0 == 0x0201
  | .measUrgent q d => decide (q < 64) && d.u16 0 == 0x0202
  | .measAbort q d => decide (q < 64) && d.u16 0 == 0x0203
  | .measCapture q d => decide (q < 64) && d.u16 0 == 0x0204
  | .dioForce q d => decide (q < 64) && d.u16 0 == 0x0301
  | .doClear q d => decide (q < 64) && d.u16 0 == 0x0302
  | .darkTestNow q d => decide (q < 64) && d.u16 0 == 0x0303
  | .fieldResume q d => decide (q < 64) && d.u16 0 == 0x0304
  | .posPreset q d => decide (q < 64) && d.u16 0 == 0x0401
  | .posCheck q d => decide (q < 64) && d.u16 0 == 0x0402
  | .emuForce q d => decide (q < 64) && d.u16 0 == 0x0403
  | .posAbort q d => decide (q < 64) && d.u16 0 == 0x0404
  | .patLoad q d => decide (q < 64) && d.u16 0 == 0x0501
  | .patPredict q d => decide (q < 64) && d.u16 0 == 0x0502
  | .patAbort q d => decide (q < 64) && d.u16 0 == 0x0503
  | .patReset q d => decide (q < 64) && d.u16 0 == 0x0504
  | .loopSet q d => decide (q < 64) && d.u16 0 == 0x0601
  | .loopRemove q d => decide (q < 64) && d.u16 0 == 0x0602
  | .loopMode q d => decide (q < 64) && d.u16 0 == 0x0603
  | .loopHold q d => decide (q < 64) && d.u16 0 == 0x0604
  | .loopClear q d => decide (q < 64) && d.u16 0 == 0x0605
  | .chalkArm q d => decide (q < 64) && d.u16 0 == 0x0606
  | .chalkTrigger q d => decide (q < 64) && d.u16 0 == 0x0607
  | .chalkStop q d => decide (q < 64) && d.u16 0 == 0x0608
  | .loopAbort q d => decide (q < 64) && d.u16 0 == 0x0609
  | .schedSet q d => decide (q < 64) && d.u16 0 == 0x0701
  | .zoneSet q d => decide (q < 64) && d.u16 0 == 0x0702
  | .zoneOverride q d => decide (q < 64) && d.u16 0 == 0x0703
  | .civilSet q d => decide (q < 64) && d.u16 0 == 0x0710
  | .dstLoad q d => decide (q < 64) && d.u16 0 == 0x0711
  | .shuttleLoad q d => decide (q < 64) && d.u16 0 == 0x0801
  | .solShot q d => decide (q < 64) && d.u16 0 == 0x0802
  | .solForce q d => decide (q < 64) && d.u16 0 == 0x0803
  | .solClear q d => decide (q < 64) && d.u16 0 == 0x0804
  | .shuttleAbort q d => decide (q < 64) && d.u16 0 == 0x0805
  | .fanaoForce q d => decide (q < 64) && d.u16 0 == 0x0901
  | .fanClear q d => decide (q < 64) && d.u16 0 == 0x0902
  | .flowOpen q d => decide (q < 64) && d.u16 0 == 0x0A01
  | .flowClose q d => decide (q < 64) && d.u16 0 == 0x0A02
  | .routeLoad q d => decide (q < 64) && d.u16 0 == 0x0A03
  | .portRetrain q d => decide (q < 64) && d.u16 0 == 0x0A04
  | .quiltAudit q d => decide (q < 64) && d.u16 0 == 0x0A05
  | .rringDoorbell q d => decide (q < 64) && d.u16 0 == 0x0A06
  | .quiltAbort q d => decide (q < 64) && d.u16 0 == 0x0A07
  | .busSend q d data => decide (q < 64) && d.u16 0 == 0x0B01 && data.all (· < 256)
  | .busRecv q d => decide (q < 64) && d.u16 0 == 0x0B02
  | .busPollSet q d => decide (q < 64) && d.u16 0 == 0x0B03
  | .busAbort q d => decide (q < 64) && d.u16 0 == 0x0B04
  | .nvmRead q d _ => decide (q < 64) && d.u16 0 == 0x0C01
  | .nvmWrite q d => decide (q < 64) && d.u16 0 == 0x0C02
  | .nvmUnlock q d => decide (q < 64) && d.u16 0 == 0x0C03
  | .nvmLock q d => decide (q < 64) && d.u16 0 == 0x0C04
  | .nvmSetpw q d => decide (q < 64) && d.u16 0 == 0x0C05
  | .nvmSync q d => decide (q < 64) && d.u16 0 == 0x0C06
  | .recConfirm q d => decide (q < 64) && d.u16 0 == 0x0C07
  | .recWrite q d => decide (q < 64) && d.u16 0 == 0x0C08
  | .recRead q d _ => decide (q < 64) && d.u16 0 == 0x0C09
  | .nvmExport q d => decide (q < 64) && d.u16 0 == 0x0C0A
  | .nvmImport q d data => decide (q < 64) && d.u16 0 == 0x0C0B && data.all (· < 256)
  | .nvmAbort q d => decide (q < 64) && d.u16 0 == 0x0C0C
  | .panelUpdate q d => decide (q < 64) && d.u16 0 == 0x0D01
  | .panelWfload q d => decide (q < 64) && d.u16 0 == 0x0D02
  | .panelCrcCheck q d => decide (q < 64) && d.u16 0 == 0x0D03
  | .panelAbort q d => decide (q < 64) && d.u16 0 == 0x0D04
  | .keyLock q d => decide (q < 64) && d.u16 0 == 0x0E01
  | .fitRun q d => decide (q < 64) && d.u16 0 == 0x0F01
  | .fitLogRead q d => decide (q < 64) && d.u16 0 == 0x0F02
  | .fitBaseline q d => decide (q < 64) && d.u16 0 == 0x0F03
  | .fitAbort q d => decide (q < 64) && d.u16 0 == 0x0F04
  | .ownerHandover q d => decide (q < 64) && d.u16 0 == 0x1001
  | .configManifest q d => decide (q < 64) && d.u16 0 == 0x1002
  | .fwUpdate q d => decide (q < 64) && d.u16 0 == 0x1003
  | .attest q d => decide (q < 64) && d.u16 0 == 0x1004
  | .secAbort q d => decide (q < 64) && d.u16 0 == 0x1005
  | .dbgFreeze q d => decide (q < 64) && d.u16 0 == 0x1101
  | .registerWrite off size v => decide (off < 2 ^ 20) && (size == 1 || size == 2 || size == 4 || size == 8) && decide (v < 2 ^ 64)
  | .blReqWrite v => decide (v < 2 ^ 32)
  | .sealWrite v => decide (v < 2 ^ 32)
  | .tickLoRead => true
  | .clrCorrected => true
  | .clrUncorrectable => true
  | .fieldErrClr k => decide (k < 2)
  | .clrDip => true
  | .clrErr => true
  | .uiModeWrite u v => decide (u < 64) && decide (v < 2 ^ 32)
  | .uiGainShWrite u v => decide (u < 64) && decide (v < 2 ^ 32)
  | .convCtrlWrite c v => decide (c < 8) && decide (v < 2 ^ 32)
  | .mailboxWrite off v => decide (off < 2 ^ 20) && decide (v < 2 ^ 32)
  | .patCtrlWrite v => decide (v < 2 ^ 32)
  | .loopCtrlWrite v => decide (v < 2 ^ 32)
  | .busCfgWrite n v => decide (n < 16) && decide (v < 2 ^ 32)
  | .portEnWrite v => decide (v < 2 ^ 32)
  | .portEqWrite p v => decide (p < 8) && decide (v < 2 ^ 32)
  | .panelEnWrite v => decide (v < 2 ^ 32)
  | .hostqWdogWrite v => decide (v < 2 ^ 32)
  | .ringEnable r => decide (r < 133)
  | .ringDisable r => decide (r < 133)
  | .fenceClr q => decide (q < 64)
  | .sqTailDoorbell q v => decide (q < 64) && decide (v < 2 ^ 32)
  | .cqHeadDoorbell c v => decide (c < 64) && decide (v < 2 ^ 32)
  | .eqHeadDoorbell v => decide (v < 2 ^ 32)
  | .tqHeadDoorbell t v => decide (t < 4) && decide (v < 2 ^ 32)
  | .heartbeat v => decide (v < 2 ^ 32)
  | .dbgRoDataRead => true
  | .dbgThaw => true
  | .fwRecGo v => decide (v < 2 ^ 32)
  | .bar4Read off _ _ => decide (off < 2 ^ 24)
  | .bar4Write off bytes _ => decide (off < 2 ^ 24) && bytes.all (· < 256)
  | .vl24Good => true
  | .pgTimeout rail => (1 ≤ rail && rail ≤ 3)
  | .startRetry => true
  | .fwReverify _ _ => true
  | .pfwNFalling _ _ => true
  | .saveEnd => true
  | .vl24AboveResume _ => true
  | .warningEnd _ => true
  | .dipSafeExpiry => true
  | .rstNLow => true
  | .rstNResetDue => true
  | .rstNRise => true
  | .supplyReset _ _ _ => true
  | .clkrefLost => true
  | .clkrefRestored => true
  | .firmwareWatchdog => true
  | .vcoreStep _ => true
  | .readVoutPoll _ => true
  | .statusWordPoll _ _ => true
  | .tickBoundary _ _ => true
  | .scrubRead upset => decide (upset < 2 ^ 280)
  | .upFrame k _ wrong => decide (k < 2) && decide (wrong < 2 ^ 1984)
  | .barrierDown k => decide (k < 2)
  | .downFrame k _ wrong => decide (k < 2) && decide (wrong < 2 ^ 992)
  | .fieldTickBoundary k _ => decide (k < 2)
  | .holdWindowExpiry k => decide (k < 2)
  | .freezeHoldLimit k => decide (k < 2)
  | .downLinkSilent k => decide (k < 2)
  | .vf24Low k _ => decide (k < 2)
  | .vf24Recovered k _ => decide (k < 2)
  | .diPulseWindow i _ => decide (i < 128)
  | .diDebounceDone i _ => decide (i < 128)
  | .doOverload o _ => decide (o < 64)
  | .doThermalLimit o _ => decide (o < 64)
  | .doRetry o => decide (o < 64)
  | .doOnPeriodOk o => decide (o < 64)
  | .doForcedHigh o _ => decide (o < 64)
  | .openLoadSet o _ => decide (o < 64)
  | .openLoadClear o => decide (o < 64)
  | .darkTest k => decide (k < 2)
  | .darkPulseEnd k _ => decide (k < 2)
  | .darkPairPulse k _ => decide (k < 2)
  | .floatDriveEnd f => decide (f < 32)
  | .floatDeadTimeEnd f => decide (f < 32)
  | .floatBothHigh f => decide (f < 32)
  | .posEdge p t _ => decide (p < 8) && decide (t < 2000)
  | .indexPulse e => decide (e.port < 8)
  | .posCheckTimeout p => decide (p < 8)
  | .serialReadStart p => decide (p < 8)
  | .serialReadEnd p _ clocks => decide (p < 8) && decide (clocks.length ≤ 2048)
  | .serialReadTimeout p => decide (p < 8)
  | .standstillTimeout p => decide (p < 8)
  | .emuEdge e => decide (e.emu < 4) && decide (e.sample < 2000)
  | .passStart c => decide (c < 8)
  | .converterOutput c _ _ => decide (c < 8)
  | .urgentHead c => decide (c < 8)
  | .urgentValidOutput c _ _ => decide (c < 8)
  | .calDue => true
  | .calCommit c _ _ _ => decide (c < 8)
  | .captureTrigger g b => decide (g < 3) && decide (b.cycle < 500)
  | .captureDone g => decide (g < 3)
  | .captureShotTimeout g => decide (g < 3)
  | .slotStale n => decide (n < 512)
  | .ma20Disconnect u => decide (u < 64)
  | .ma20Reconnect u => decide (u < 64)
  | .eventIntervalEnd _ _ => true
  | .patStepStart => true
  | .patPublish => true
  | .routinePredictionEnd => true
  | .patUrgentIssue => true
  | .hostPredictionStep => true
  | .multiplierSave => true
  | .loopCompute l => decide (l < 512)
  | .loopUrgentIssue l => decide (l < 512)
  | .loopSetSwitch l => decide (l < 512)
  | .loopRemoveEffect l => decide (l < 512)
  | .schedEvaluation => true
  | .overrideExpiry z => decide (z < 128)
  | .presenceHoldoffExpiry z => decide (z < 128)
  | .oneShotDurExpiry c t _ => decide (c < 32) && decide (t < 500)
  | .chopPeriodStart c => decide (c.bank < 8) && decide (c.cycle < 500)
  | .targetReached c t _ => decide (c < 32) && decide (t < 500)
  | .peakGrant k t => decide (k < 2) && decide (t < 500)
  | .peakWaitExpiry c t _ => decide (c < 32) && decide (t < 500)
  | .skipRetry c => decide (c < 32)
  | .waitPeakTimeout c t _ => decide (c < 32) && decide (t < 500)
  | .shuttleWaitEnd c t _ => decide (c < 32) && decide (t < 500)
  | .syncReached c t _ => decide (c < 32) && decide (t < 500)
  | .decayDone c t _ => decide (c < 32) && decide (t < 500)
  | .endingDone c => decide (c < 32)
  | .solOvercurrent c => decide (c < 32)
  | .clampOverheat c => decide (c < 32)
  | .peakMaxExpiry c => decide (c < 32)
  | .bankHsOvercurrent b _ => decide (b < 8)
  | .bankHsOvertemp b _ => decide (b < 8)
  | .shuttleSwitch b => decide (b < 8)
  | .kickTimeout f => decide (f < 32)
  | .backoffExpiry f => decide (f < 32)
  | .tachEdge f _ => decide (f < 32)
  | .tachLost f _ => decide (f < 32)
  | .fanRun60s f => decide (f < 32)
  | .aoOverload a _ => decide (a < 32)
  | .aoOverloadClear a _ => decide (a < 32)
  | .stitchValue p _ wrong _ => decide (p < 8) && decide (wrong < 2 ^ 280)
  | .stitchMemRead p _ wrong _ => decide (p < 8) && decide (wrong < 2 ^ 280)
  | .stitchMemData p _ wrong _ => decide (p < 8) && decide (wrong < 2 ^ 280)
  | .stitchMemWrite p _ wrong _ => decide (p < 8) && decide (wrong < 2 ^ 280)
  | .stitchMemAck p _ wrong _ => decide (p < 8) && decide (wrong < 2 ^ 280)
  | .stitchDoorbell p _ wrong _ => decide (p < 8) && decide (wrong < 2 ^ 280)
  | .tokenReq p _ wrong _ => decide (p < 8) && decide (wrong < 2 ^ 280)
  | .tokenGrant p _ wrong _ => decide (p < 8) && decide (wrong < 2 ^ 280)
  | .tokenReturn p _ wrong _ => decide (p < 8) && decide (wrong < 2 ^ 280)
  | .admitStitch p _ wrong _ => decide (p < 8) && decide (wrong < 2 ^ 280)
  | .admitReply p _ wrong _ => decide (p < 8) && decide (wrong < 2 ^ 280)
  | .trace p _ wrong _ => decide (p < 8) && decide (wrong < 2 ^ 280)
  | .mgmt p _ wrong _ => decide (p < 8) && decide (wrong < 2 ^ 280)
  | .idle p dev port _ => decide (p < 8) && decide (dev < 1024) && decide (port < 8)
  | .ack p _ _ _ => decide (p < 8)
  | .credit p cls _ => decide (p < 8) && decide (cls < 4)
  | .time p _ _ => decide (p < 8)
  | .delay p _ _ _ _ => decide (p < 8)
  | .freeze p f => decide (p < 8) && decide (f < 2 ^ 64)
  | .thaw p f => decide (p < 8) && decide (f < 2 ^ 64)
  | .audit p cls _ _ => decide (p < 8) && decide (cls < 4)
  | .down p _ => decide (p < 8)
  | .train p dev port _ _ _ _ => decide (p < 8) && decide (dev < 1024) && decide (port < 8)
  | .linkSilence p => decide (p < 8)
  | .seamLos p _ => decide (p < 8)
  | .receiverAligned p => decide (p < 8)
  | .trainingTimeout p => decide (p < 8)
  | .trainingIdleEnd p => decide (p < 8)
  | .downSendEnd p => decide (p < 8)
  | .revertTimer p => decide (p < 8)
  | .gapWaitExpiry src flow cls => decide (src < 1024) && decide (flow < 1024) && decide (cls < 4)
  | .unreachableDiscard dest cls => decide (dest < 1024) && decide (cls < 4)
  | .tokenIdleReturn dest cls => decide (dest < 1024) && decide (cls < 4)
  | .class2Timeout _ => true
  | .admitTimeout _ => true
  | .tackSlot p j => decide (p < 8) && decide (j < 15)
  | .timeMarkerSend => true
  | .masterLost _ => true
  | .delayExchange p _ => decide (p < 8)
  | .rringFetchRetry => true
  | .descriptorFetched q _ => decide (q < 64)
  | .fetchTimeout q => decide (q < 64)
  | .descriptorStart q data _ => decide (q < 64) && data.all (· < 256)
  | .completionWrite c => decide (c < 64)
  | .msixHoldoffEnd r => decide (r < 133)
  | .eventWrite => true
  | .traceRecordWrite c => decide (c < 64)
  | .tailWriteback t => decide (t < 4)
  | .hostLost => true
  | .pcieReset _ => true
  | .pciePerstN => true
  | .pcieLink _ _ => true
  | .mstpFrame n _ _ _ data _ => decide (n < 16) && data.all (· < 256)
  | .mstpReplyWaitExpiry n => decide (n < 16)
  | .mstpReplyTimeout n => decide (n < 16)
  | .mstpSilenceEnd n => decide (n < 16)
  | .modbusPollDue n i => decide (n < 16) && decide (i < 256)
  | .modbusResponse n bytes _ => decide (n < 16) && bytes.all (· < 256)
  | .modbusTimeout n => decide (n < 16)
  | .modbusGap n => decide (n < 16)
  | .rawFrameEnd n bytes _ => decide (n < 16) && bytes.all (· < 256)
  | .t1lFrame k bytes _ => decide (k < 4) && bytes.all (· < 256)
  | .t1lLink k _ _ _ => decide (k < 4)
  | .pageWriteDone b => decide (b < 16)
  | .energyWaitEnd _ => true
  | .nvmWriteTimeout _ => true
  | .recordCommit _ => true
  | .configBlockStore _ => true
  | .checkpoint => true
  | .groupRefresh g e0 e1 => decide (g < 131072) && decide (e0 < 2 ^ 280) && decide (e1 < 2 ^ 280)
  | .lockoutEnd r kind => decide (r < 8) && decide (kind < 2)
  | .phaseBoundary _ _ => true
  | .railInRegulation => true
  | .railStartTimeout _ => true
  | .railFault rail _ => (1 ≤ rail && rail ≤ 5)
  | .railHoldExpiry => true
  | .frontlightFault _ _ => true
  | .frontlightRetry _ => true
  | .keyRowWake => true
  | .keyScan raw => decide (raw < 2 ^ 144)
  | .keyIdle => true
  | .keyLockIdle => true
  | .encTransition n _ _ => decide (n < 4)
  | .encMoved n => decide (n < 4)
  | .fitPassStart => true
  | .holdupStart => true
  | .holdupWindowEnd _ _ _ => true
  | .holdupSkip => true
  | .fitApply => true
  | .pathMonitorRead _ => true
  | .fitRerun => true
  | .frzNLow => true
  | .frzNRise => true
  | .freezeStop => true
  | .thawRestart _ _ => true
  | .quiltThawRestart _ => true
  | .freezeReq => true
  | .thawReq => true
  | .roAccess space index => decide (space < 8) && decide (index < 2 ^ 16)
  | .extest => true
  | .idcode => true
  | .samplePreload _ _ => true
  | .bypass => true
  | .seamUncorrectable p x => decide (p < 8) && decide (x.wrong < 2 ^ 280)
  | .powerGoodRise rail => (1 ≤ rail && rail ≤ 3)
  | .firmwareVerified _ _ _ => true
  | .vl24FallAtStart => true
  | .pmbusTimeout => true
  | .railFallDone => true
  | .panelWfloadTimeout => true
  | .shuttleLoadTimeout b => decide (b < 8)
  | .fieldResumeTimeout k => decide (k < 2)
  | .portRetrainDone _ => true
  | .stagedCheckDone _ => true
  | .fwUpdateWritten => true
  | .busFrameSent n => decide (n < 20)
  | .mstpTimerExpiry n => decide (n < 16)
  | .fitMeasurementDone _ => true

end Sys2Proof
end

