-- ==== Sys2Proof/Tests/Slice0.lean ====
section
/-! SUPPORT. Tests: what the checks of well-formedness refuse, single commands with results from the spec, and for each statement with hypotheses a
state and operands that meet them (`met_` and the statement's name, a conjunct for each clause). -/

set_option Elab.async false

namespace Sys2Proof.Tests
open Sys2Proof Sys2Proof.Machine

/-! ### What each statement assumes can hold -/

/-- A device that runs: both field dies in RUN. -/
def up : Dev :=
  { State.reset.dev with power := { PowerSt.init with phase := .up }, dieA := { DieSt.init with state := .run }, dieB := { DieSt.init with state := .run } }

/-- The same after 10,000 seconds. -/
def late : Dev :=
  { up with tick := 10 ^ 9, dieA := { up.dieA with bounds := 10 ^ 9, clock := 2 * 10 ^ 12 }, dieB := { up.dieB with bounds := 10 ^ 9, clock := 2 * 10 ^ 12 } }

/-- The same with submission ring 0 enabled. -/
def ring : Dev := up.put Reg.SQ_CTRL.ENABLE 0 1

/-- The same with a device number in use and port 7 UP, the way to device 1023. -/
def seam : Dev :=
  (((ring.put Reg.GLOBAL_DEVNUM.ACTIVE_VALID 0 1).put Reg.QUILT_ROUTE.PRI_VALID 1023 1).put Reg.QUILT_ROUTE.PRIMARY 1023 7).put Reg.PORT_STAT.STATE 7 3

/-- The same as `ring` with bus port 15 in a mode. -/
def onBus (mode : Nat) : Dev := ring.put Reg.BUS_STAT.MODE 15 mode

/-- The same as `up` with energy for writes of the non-volatile stores. -/
def store : Dev := up.put Reg.PWR_VOLT.VHOLD 0 24000

/-- Loop 511 runs, its block with P = 1 and an urgent feedback on internal channel 31. -/
def looping : Dev :=
  { (up.setLoop 511 { LoopSt.init with state := .run }).put Reg.LOOP_CTRL.RUN 0 1 with
    blocks := [(handle clsLOOP 511, List.replicate 8 0 ++ [1] ++ List.replicate 23 0 ++ leBytes 4 (handle clsINTL 31) ++ List.replicate 6 0 ++ [1])] }

/-- A descriptor of opcode `op` for this device with values put at byte offsets. -/
def desc (op : Nat) (fs : List (Nat × Nat)) : Desc :=
  BitVec.ofNat 512 (fs.foldl (fun n f => n + f.2 * 2 ^ (8 * f.1)) (op + 0xFFFFFFFF * 2 ^ 64))

/-- A descriptor of ring 63 with tag 77. -/
def target (op : Nat) (phase : RecPhase) : Rec :=
  { id := 0, ring := 63, d := desc op [(4, 77)], phase := phase, started := phase != .fetched, order := 0, discard := false }

/-- A one-shot of ring 63. -/
def shotOf : Rec := { id := 5, ring := 63, d := desc 0x0802 [(24, 1)], phase := .running, started := true, order := 0, discard := false }

def chalkOf : ChalkSt :=
  { arm := desc 0x0606 [], id := none, count := 0, recs := [], next := 0, post := none, prev := none, events := 0, fire := false, drops := 0 }

/-- A chalk channel that streams into trace ring 3, one record ready. -/
def traceOf : ChalkSt :=
  { chalkOf with arm := desc 0x0606 [(17, 3), (18, 1)], recs := [{ slot := 0, flags := 0, drops := 0, ready := true }] }

def frzOf (quilt : Bool) : FreezeReq := { at_ := 5, quilt := quilt, cause := 1, late := 0, descs := [] }

def upOf : UpFrame :=
  { seq := 0, capActive := false, slots := [], outState := 0, intOsc := false, vf24Low := false, latch := 0, lost := 0, words := [], dis := [], dos := [], event := none, page := 0
    pageData := [], dropped := 0 }

def downOf (apply : Nat) : DownFrame :=
  { seq := 0, freeze := false, dip := false, apply := apply, mailSeq := 0, mail := none, dos := 0, aos := [], fans := [], sols := [], floats := []
    trig := none }

def capOf : CapOp :=
  { id := 5, group := 2, dest := 0, kind := 0, at_ := 0, phase := 0, armed := 0, bank := 0, gain := 0, chans := [], samples := 1
    triggered := false, streamA := [], streamB := [], sent := 0, stopping := false }

def pubOf : PatPub := { start := 9, n := 1, cycles := 0, due := 0, predDue := 0, nodes := [], coups := [], reports := [], predict := false }

def predOf : HostPred := { id := 0, made := 0, base := 0, temps := [], inputs := [] }

def setOf : LoopSet := { id := 5, slot := 511, stage := 1, block := [], keep := false, lane := 0, secs := [], checkedAt := 0 }

def loadOf (stage sent : Nat) : LoadOp := { id := 5, bank := 7, words := [], slots := [], crc := 0, stage := stage, since := 0, sent := sent }

def stOf : Stitch := { dest := 1023, src := 1022, cls := 3, kind := 0, flow := 0x3FF, seq := 2, data := [] }

def slotGood : SlotCheck := { valid := true, svn := 0, digest := [] }
def slotBad : SlotCheck := { valid := false, svn := 0, digest := [] }

/-- A field at another place than the one written, in a table in canonical form. -/
theorem elsewhere {d : Dev} {f g : Fld} {i j v : Nat} (h : Map.rising d.regs = true) (hne : f.key i ≠ g.key j) :
    (d.put f i v).get g j = d.get g j ∧ Map.rising (d.put f i v).regs = true :=
  ⟨Map.get_set_ne h hne _ _ _, Map.set_rising _ _ _ h⟩

/-- The boot ROM finds slot A good. -/
theorem bootSlot_a (v m : Nat) {d : Dev} (h : Map.rising d.regs = true) (h1 : d.get Reg.FW_STAT.PREFERRED 0 = 0)
    (h2 : d.get Reg.FW_SVN.MIN_SVN 0 = 0) :
    ((d.bootIdentity.put Reg.PWR_STAT.START_STEP 0 v).put Reg.PWR_STAT.LAST_RESET 0 m).bootSlot slotGood slotBad = some 0 := by
  have same : ∀ g : Fld, Reg.SEC_STAT.IDENTITY_OK.key 0 ≠ g.key 0 → Reg.SEC_ID_FPR_LO.FPR.key 0 ≠ g.key 0 → Reg.SEC_ID_FPR_HI.FPR.key 0 ≠ g.key 0 →
      Reg.PWR_STAT.START_STEP.key 0 ≠ g.key 0 → Reg.PWR_STAT.LAST_RESET.key 0 ≠ g.key 0 →
      ((d.bootIdentity.put Reg.PWR_STAT.START_STEP 0 v).put Reg.PWR_STAT.LAST_RESET 0 m).get g 0 = d.get g 0 := by
    intro g a1 a2 a3 a4 a5
    have e1 := elsewhere (v := if identityOk then 1 else 0) h a1
    have e2 := elsewhere (v := leAt (fingerprint Config.identityKey) 0 4) e1.2 a2
    have e3 := elsewhere (v := leAt (fingerprint Config.identityKey) 4 4) e2.2 a3
    have e4 := elsewhere (v := v) e3.2 a4
    exact ((elsewhere (v := m) e4.2 a5).1.trans e4.1).trans (e3.1.trans (e2.1.trans e1.1))
  have p1 := (same Reg.FW_STAT.PREFERRED (by decide) (by decide) (by decide) (by decide) (by decide)).trans h1
  have p2 := (same Reg.FW_SVN.MIN_SVN (by decide) (by decide) (by decide) (by decide) (by decide)).trans h2
  simp [Dev.bootSlot, Dev.slotOk, p1, p2, slotGood]

/-- It finds neither good. -/
theorem bootSlot_none (d : Dev) : d.bootSlot slotBad slotBad = none := by simp [Dev.bootSlot, Dev.slotOk, slotBad]

/-- The index finds NOP. -/
theorem opIndex_nop : (opIndex [] []).find? (fun e => e.1 == (target 0x0101 .fetched).d.u16 0) = some (0x0101, [], bodyNop) := by
  have h : (target 0x0101 .fetched).d.u16 0 = 0x0101 := by decide +kernel
  simp [opIndex, opsGlobal, h]

theorem groupRead {d : Dev} {g : Nat} {bs : List Nat} (h : (d.nvmGroup g).1 = some bs) : d.nvmGroup g = (some bs, (d.nvmGroup g).2) := Prod.ext h rfl

/-- The copied tables read without a wrong word. -/
theorem tablesRead (d : Dev) (h1 : d.readTables.1.1.isSome = true) (h2 : d.readTables.1.2 = none) : ∃ m d1, d.readTables = ((some m, none), d1) := by
  obtain ⟨m, h⟩ := Option.isSome_iff_exists.mp h1
  exact ⟨m, d.readTables.2, Prod.ext (Prod.ext h h2) rfl⟩

/-- A model with P = 1 is committed and a routine prediction runs; the same at an urgent issue's tick. -/
def predicts : Dev := { (late.put Reg.PAT_STAT.MODEL_VALID 0 1) with pat := { PatSt.init with run := true, predicting := some (9, 0) } }

def issues : Dev :=
  { predicts with tick := 10 ^ 9 - 500, pat := { PatSt.init with run := true
                                                                 shape := { header := List.replicate 8 0 ++ [1, 0, 1] ++ List.replicate 21 0
                                                                            nodes := [], slots := [], sources := [] } } }

/-- A state whose device, its outputs gone, meets a condition. -/
abbrev Holds (pre : Dev → Prop) : Prop := ∃ s : State, pre s.dev.begin

/-- A state, a ring and a descriptor that acts there, which meet a condition. -/
abbrev Meets (op : Nat) (named : List (Nat × Nat)) (pre : Desc → Dev → Prop) : Prop :=
  ∃ (s : State) (q : Nat) (x : Desc), s.dev.begin.accepts q x op named ∧ pre x (s.dev.begin.started q x)

/-! ### Well-formedness: what each check refuses -/

/-- Commands at the ends of their ranges are well formed. -/
theorem test_wf_accepts :
    [Instr.nop 63 (desc 0x0101 []), .busSend 63 (desc 0x0B01 []) [255], .registerWrite (2 ^ 20 - 4) 8 (2 ^ 64 - 1), .fieldErrClr 1, .uiModeWrite 63 0,
      .convCtrlWrite 7 0, .mailboxWrite 0xBFFFC 0, .busCfgWrite 15 0, .portEqWrite 7 0, .ringEnable 132, .fenceClr 63, .tqHeadDoorbell 3 0,
      .bar4Write (2 ^ 24 - 1) [255] [], .pgTimeout 3, .supplyReset { vio := 0, vcore := 0, powerGood := 0 } 0 0, .upFrame 1 true (2 ^ 1984 - 1), .downFrame 1 true (2 ^ 992 - 1), .diPulseWindow 127 { mv := -1, ua := 0 }, .doRetry 63, .floatDriveEnd 31,
      .posEdge 7 1999 { held := 0, step := .both }, .emuEdge { emu := 3, sample := 1999 }, .captureTrigger 2 { cycle := 499, codes := [] }, .captureDone 2, .slotStale 511, .loopCompute 511, .overrideExpiry 127, .chopPeriodStart { bank := 7, cycle := 499 }, .stitchValue 7 0 (2 ^ 280 - 1) true, .credit 7 3 0,
      .gapWaitExpiry 1023 1023 3, .tackSlot 7 14, .t1lFrame 3 [255] true, .modbusResponse 15 [255] true, .pageWriteDone 15, .lockoutEnd 7 1, .railFault 5 0, .busFrameSent 19].all
        Instr.wf = true := by
  decide +kernel

/-- One command for each check, just outside the range: a ring, an opcode, a data byte, an offset, a size, a value, a die. -/
theorem test_wf_refuses_host :
    [Instr.nop 64 (desc 0x0101 []), .nop 0 (desc 0x0102 []), .busSend 0 (desc 0x0B01 []) [256], .registerWrite (2 ^ 20) 4 0, .registerWrite 0 3 0,
      .registerWrite 0 4 (2 ^ 64), .blReqWrite (2 ^ 32), .fieldErrClr 2, .uiModeWrite 64 0, .uiModeWrite 0 (2 ^ 32), .convCtrlWrite 8 0,
      .mailboxWrite (2 ^ 20) 0, .mailboxWrite 0 (2 ^ 32), .busCfgWrite 16 0, .portEqWrite 8 0, .ringEnable 133, .ringDisable 133, .fenceClr 64,
      .sqTailDoorbell 64 0, .cqHeadDoorbell 0 (2 ^ 32), .tqHeadDoorbell 4 0, .heartbeat (2 ^ 32), .bar4Read (2 ^ 24) 1 [], .bar4Write (2 ^ 24) [] [],
      .bar4Write 0 [256] [], .pgTimeout 0, .pgTimeout 4, .powerGoodRise 0, .powerGoodRise 4,
      .scrubRead (2 ^ 280)].all (fun c => !c.wf) = true := by
  decide +kernel

/-- The same for the objects of the field dies, the engines and the quilt. -/
theorem test_wf_refuses_objects :
    [Instr.upFrame 2 true 0, .upFrame 0 true (2 ^ 1984), .downFrame 0 true (2 ^ 992), .diPulseWindow 128 { mv := 0, ua := 0 }, .doRetry 64, .floatDriveEnd 32, .posEdge 8 0 { held := 0, step := .both },
      .posEdge 0 2000 { held := 0, step := .both }, .emuEdge { emu := 4, sample := 0 }, .emuEdge { emu := 0, sample := 2000 }, .passStart 8, .captureTrigger 3 { cycle := 0, codes := [] }, .captureTrigger 0 { cycle := 500, codes := [] }, .captureDone 3,
      .slotStale 512, .ma20Reconnect 64, .loopCompute 512, .overrideExpiry 128, .skipRetry 32, .chopPeriodStart { bank := 8, cycle := 0 }, .chopPeriodStart { bank := 0, cycle := 500 }, .shuttleLoadTimeout 8,
      .kickTimeout 32, .aoOverload 32 0, .stitchValue 8 0 0 false, .stitchValue 0 0 (2 ^ 280) false, .idle 0 1024 0 true, .idle 0 0 8 true, .credit 0 4 0, .freeze 0 (2 ^ 64),
      .thaw 0 (2 ^ 64), .audit 0 4 0 0, .gapWaitExpiry 1024 0 0, .gapWaitExpiry 0 1024 0, .gapWaitExpiry 0 0 4, .unreachableDiscard 1024 0,
      .tokenIdleReturn 0 4, .tackSlot 8 0, .tackSlot 0 15, .linkSilence 8].all (fun c => !c.wf) = true := by
  decide +kernel

/-- The same for the rings, the buses, the stores, the panel, the keys and the debug port. -/
theorem test_wf_refuses_site :
    [Instr.descriptorFetched 64 none, .descriptorStart 0 [256] [], .completionWrite 64, .msixHoldoffEnd 133, .tailWriteback 4, .traceRecordWrite 64,
      .mstpFrame 16 0 0 0 [] true, .mstpFrame 0 0 0 0 [256] true, .modbusPollDue 0 256, .modbusResponse 0 [256] true, .rawFrameEnd 0 [256] true,
      .t1lFrame 4 [] true, .t1lFrame 0 [256] true, .t1lLink 4 true true 0, .busFrameSent 20, .pageWriteDone 16, .groupRefresh 131072 0 0, .groupRefresh 0 (2 ^ 280) 0,
      .groupRefresh 0 0 (2 ^ 280), .lockoutEnd 8 0, .lockoutEnd 0 2, .railFault 0 0, .railFault 6 0,
      .keyScan (2 ^ 144), .encMoved 4, .roAccess 8 0, .roAccess 0 (2 ^ 16)].all (fun c => !c.wf) = true := by
  decide +kernel

/-! ### Single commands, expected results from the spec -/

/-- The device after one command. -/
def after (c : Instr) (d : Dev) : Dev :=
  match step { dev := d, pending := [c] } with
  | .next t => t.dev
  | _ => d

/-- No row of the opcode table gives bits. -/
theorem test_no_word_spells_a_command : decodeTableWord 32 0 = none ∧ State.reset.withFetchWord 32 0 = State.reset := ⟨rfl, rfl⟩

/-- R12: ties away from zero. R13: the nearest limit. -/
theorem test_rounding : roundDiv 5 2 = 3 ∧ roundDiv (-5) 2 = -3 ∧ roundDiv 7 3 = 2 ∧ saturate 16 40000 = 32767 ∧ saturate 16 (-40000) = -32768 := by
  decide +kernel

/-- R20, R35: DI/10 is class 3, index 10. -/
theorem test_handle : handle clsDI 10 = 0xC00A ∧ classOf 0xC00A = 3 ∧ indexOf 0xC00A = 10 := by decide +kernel

/-- R65: a device not owned refuses the seal; an owned one is sealed. -/
theorem test_seal :
    (after (.sealWrite 1) up).get Reg.GLOBAL_SEAL.SEAL 0 = 0 ∧ (after (.sealWrite 1) up).get Reg.GLOBAL_SEAL.SEAL_REFUSED 0 = 1
      ∧ (after (.sealWrite 1) (up.put Reg.GLOBAL_SEAL.OWNER_STATE 0 1)).get Reg.GLOBAL_SEAL.OWNER_STATE 0 = 2 := by
  decide +kernel

/-- R690, R691: IDCODE of B0; EXTEST while RST_N is high. -/
theorem test_tap : (after .idcode up).out = [.tap 0x251209C7] ∧ (after .extest up).get Reg.DBG_STAT.EXTEST_REFUSED 0 = 1 := by decide +kernel

/-- R460: a tail beyond the ring puts it in fault; a head beyond the ring is ignored. -/
theorem test_doorbells :
    (after (.sqTailDoorbell 0 64) ring).isSet Reg.SQ_STAT.FAULT 0 = true ∧ (after (.sqTailDoorbell 0 63) ring).get Reg.SQ_STAT.TAIL 0 = 63
      ∧ (after (.cqHeadDoorbell 0 64) (ring.put Reg.CQ_CTRL.ENABLE 0 1)).get Reg.CQ_STAT.HEAD 0 = 0 := by
  decide +kernel

/-- R53: the last byte of the shared memory is written and read; the offset after it reads 0 and ignores the write. -/
theorem test_bar4 :
    (after (.bar4Read 0xBFFFFF 2 []) (after (.bar4Write 0xBFFFFF [7, 9] []) up)).out = [.readBytes [(7, false), (0, false)]] := by
  decide +kernel

/-- R68: reading TICK_LO latches the upper half; a 64-bit read gives the whole count. -/
theorem test_tick_latch :
    (after .tickLoRead { up with tick := 2 ^ 32 + 5 }).out = [.readData (2 ^ 32 + 5) false]
      ∧ (after .tickLoRead { up with tick := 2 ^ 32 + 5 }).tickLatch = 1 := by
  decide +kernel

/-- R57: a level above the stepping's is refused, one within it taken. -/
theorem test_level : (after (.blReqWrite 4) up).get Reg.GLOBAL_BLSEL.BL_WRITE_REJECTED 0 = 1 ∧ (after (.blReqWrite 3) up).get Reg.GLOBAL_BLSEL.BL_REQ 0 = 3 := by
  decide +kernel

/-- R485: NOP ends OK with the quilt time; R464: a reserved byte ends it BAD_PARAM. -/
theorem test_nop :
    (after (.nop 0 (desc 0x0101 [])) { ring with tick := 7 }).recs.map (·.phase) = [.ended .ok 7]
      ∧ (after (.nop 0 (desc 0x0101 [(3, 1)])) ring).recs.map (·.phase) = [.ended .badParam 0] := by
  decide +kernel

/-- R28: one wrong bit is corrected and counted; three are not delivered. -/
theorem test_memory_code :
    ({ up with memErr := [(5, 1)] }.readWord 5 0).2.get Reg.GLOBAL_MEMERR.CORRECTED 0 = 1
      ∧ ({ up with memErr := [(5, 1)] }.readWord 5 0).1 = some (List.replicate 32 0)
      ∧ ({ up with memErr := [(5, 7)] }.readWord 5 0).1 = none := by
  decide +kernel

/-- R149: a hold window that expires takes the die to SAFE. -/
theorem test_hold : (after (.holdWindowExpiry 1) { up with dieB := { up.dieB with state := .hold, held := 21 } }).dieB.state = .safe := by decide +kernel

/-- R187: the count holds at its limit. -/
theorem test_count_limit :
    ((after (.posEdge 7 0 { held := 400, step := .aLeads }) ((up.dput Reg.POS_CFG.MODE 7 1).setPos 7 { PosSt.init with count := 2 ^ 39 - 1 })).posAt 7).count = 2 ^ 39 - 1
      ∧ ((after (.posEdge 7 0 { held := 400, step := .aLeads }) (up.dput Reg.POS_CFG.MODE 7 1)).posAt 7).count = 1 := by
  decide +kernel

/-- R389: the ranges of an analog output. -/
theorem test_ao_ranges : aoRange 0 = (0, 10000) ∧ aoRange 1 = (2000, 10000) ∧ aoRange 2 = (10000, 0) := ⟨rfl, rfl, rfl⟩

/-- R619: two levels changed at once count as an error. -/
theorem test_encoder_error : (after (.encTransition 3 true true) up).get Reg.ENC_STAT.ERRORS 3 = 1 := by decide +kernel

/-- R358: a peak phase that lasts too long faults the channel with cause 5. -/
theorem test_peak : ((after (.peakMaxExpiry 31) (late.setSol 31 { SolSt.init with state := .peak })).sol 31).cause = 5 := by decide +kernel

/-- R516: VL24 under the level begins the warning; at the level it does not. -/
theorem test_warning :
    (after (.pfwNFalling 15999 20000) (up.put Reg.PWR_WARN.EFFECTIVE 0 160)).dip = true
      ∧ (after (.pfwNFalling 16000 20000) (up.put Reg.PWR_WARN.EFFECTIVE 0 160)).dip = false := by
  decide +kernel

/-- R684: a write that reaches the frozen core die waits. -/
theorem test_frozen_write : (after (.registerWrite 0x70 4 1) (up.put Reg.DBG_STAT.FROZEN 0 1)).frz.posted = [.reg 0x70 4 1] := by decide +kernel

/-! ### The hypotheses of the statements, clause by clause -/

theorem met_MeasurementDescriptorsAct :
    (Meets 0x0101 [] (fun _ _ => True)) ∧
    (Meets 0x0201 [(16, 1)] (fun x d => x.byte 16 ≠ 0 ∧ ∀ c, c < 8 → bitAt (x.byte 16) c = true → d.convHere c = true ∧ d.convBusy c = false)) ∧
    (Meets 0x0202 [(16, 8)] (fun x d => x.byte 16 < 8 ∧ d.convHere (x.byte 16) = true ∧ (x.byte 16 % 2 = 1 → d.isSet Reg.CONV_CTRL.PAIR (x.byte 16
      - 1) = false) ∧ x.byte 17 ≤ 4 ∧ x.byte 18 ≤ 5 ∧ d.dieChannel (convDie (x.byte 16)) (x.u32 20) = true)) ∧
    (Meets 0x0204 [(12, 19), (32, 32)] (fun x d => x.byte 16 ≤ 2 ∧ (x.byte 16 = 0 ∨ d.part.grade = .f) ∧ x.byte 17 = 0 ∧ 1 ≤ x.u16 18 ∧ x.u16 18 ≤
      4096 ∧ x.u16 28 ≤ 499 ∧ x.byte 30 ≤ 4 ∧ d.tick + 3 ≤ x.u64 20 ∧ x.u32 12 + (2 * x.u16 18 + 31) / 32 * (groupConvs (x.byte 16)).length ≤
      memWords ∧ (∀ j, j < (groupConvs (x.byte 16)).length → d.dieChannel (convDie ((groupConvs (x.byte 16)).getD j 0)) (x.u32 (32 + 4 * j)) = true)
      ∧ (∀ c ∈ groupConvs (x.byte 16), d.convBusy c = false))) ∧
    (Meets 0x0204 [(12, 12), (28, 3), (32, 32)] (fun x d => x.byte 16 ≤ 2 ∧ (x.byte 16 = 0 ∨ d.part.grade = .f) ∧ x.byte 17 = 1 ∧ 1 ≤ x.u16 18 ∧
      x.u16 18 ≤ 4096 ∧ x.u16 28 ≤ 499 ∧ x.byte 30 ≤ 4 ∧ isNull (x.u32 20) = false ∧ d.isHandle clsBANK (x.u32 20) = true ∧ x.u32 12 + (2 * x.u16 18
      + 31) / 32 * (groupConvs (x.byte 16)).length ≤ memWords ∧ (∀ j, j < (groupConvs (x.byte 16)).length → d.dieChannel (convDie ((groupConvs
      (x.byte 16)).getD j 0)) (x.u32 (32 + 4 * j)) = true) ∧ (∀ c ∈ groupConvs (x.byte 16), d.convBusy c = false))) :=
  ⟨⟨{ dev := ring, pending := [] }, 0, desc 0x0101 [], by decide +kernel, by decide +kernel⟩,
    ⟨{ dev := ring, pending := [] }, 0, desc 0x0201 [(16, 255)], by decide +kernel, by decide +kernel⟩,
    ⟨{ dev := ring, pending := [] }, 0, desc 0x0202 [(16, 7), (17, 4), (18, 5), (20, handle clsINTL 31)], by decide +kernel, by decide +kernel⟩,
    ⟨{ dev := ring, pending := [] }, 0, desc 0x0204 [(12, 391168), (16, 2), (18, 4096), (20, 3), (28, 499), (30, 4), (32, handle clsINTL 0), (36,
      handle clsINTL 0), (40, handle clsINTL 0), (44, handle clsINTL 0), (48, handle clsINTL 31), (52, handle clsINTL 31), (56, handle clsINTL 31),
      (60, handle clsINTL 31)], by decide +kernel, by decide +kernel⟩,
    ⟨{ dev := ring, pending := [] }, 0, desc 0x0204 [(12, 391168), (16, 2), (17, 1), (18, 4096), (20, handle clsBANK 7), (28, 499), (30, 4), (32,
      handle clsINTL 0), (36, handle clsINTL 0), (40, handle clsINTL 0), (44, handle clsINTL 0), (48, handle clsINTL 31), (52, handle clsINTL 31),
      (56, handle clsINTL 31), (60, handle clsINTL 31)], by decide +kernel, by decide +kernel⟩⟩

theorem met_MailboxDescriptorsArePosted :
    (Meets 0x0301 [(16, 9)] (fun x d => isNull (x.u32 16) = false ∧ d.badHandle (x.u32 16) = false ∧ x.byte 24 ≤ 1 ∧ ((classOf (x.u32 16) = clsDO
      ∧ d.doTaken (indexOf (x.u32 16)) = false ∧ (x.u32 20 = 0 ∨ x.u32 20 = 65536)) ∨ (classOf (x.u32 16) = clsFLOAT ∧ x.u32 20 ≤ 100 * 65536)))) ∧
    (Meets 0x0302 [(16, 4)] (fun x d => isNull (x.u32 16) = false ∧ d.isHandle clsDO (x.u32 16) = true)) ∧
    (Meets 0x0401 [(16, 9)] (fun x d => isNull (x.u32 16) = false ∧ d.isHandle clsPOS (x.u32 16) = true ∧ d.get Reg.POS_CFG.MODE (indexOf (x.u32
      16)) = posINC)) ∧
    (Meets 0x0402 [(16, 5)] (fun x d => isNull (x.u32 16) = false ∧ d.isHandle clsPOS (x.u32 16) = true ∧ d.get Reg.POS_CFG.MODE (indexOf (x.u32
      16)) = posINC ∧ x.byte 20 ≠ 0 ∧ d.isSet Reg.POS_CFG.INDEX (indexOf (x.u32 16)) = true ∧ (d.posAt (indexOf (x.u32 16))).check = none)) ∧
    (Meets 0x0403 [(16, 9)] (fun x d => isNull (x.u32 16) = false ∧ d.isHandle clsEMU (x.u32 16) = true ∧ x.byte 24 ≤ 1 ∧ (x.s32 20).natAbs ≤
      2000000)) ∧
    (Meets 0x0804 [(16, 4)] (fun x d => isNull (x.u32 16) = false ∧ (d.isHandle clsSOL (x.u32 16) = true ∨ d.isHandle clsBANK (x.u32 16) = true))) ∧
    (Meets 0x0901 [(16, 9)] (fun x d => isNull (x.u32 16) = false ∧ x.byte 24 ≤ 1 ∧ x.u32 20 ≤ 100 * 65536 ∧ (d.isHandle clsFAN (x.u32 16) = true
      ∨ d.isHandle clsAO (x.u32 16) = true ∧ d.aoLinked (indexOf (x.u32 16)) = false))) ∧
    (Meets 0x0902 [(16, 4)] (fun x d => isNull (x.u32 16) = false ∧ d.isHandle clsFAN (x.u32 16) = true)) ∧
    (Meets 0x0304 [(16, 1)] (fun x d => x.byte 16 ≤ 1 ∧ d.dieFitted (x.byte 16) = true ∧ (if x.byte 16 = 0 then d.isSet
      Reg.GLOBAL_FAULT_STAT.STOPPED_A 0 else d.isSet Reg.GLOBAL_FAULT_STAT.STOPPED_B 0) = false ∧ (d.fd (x.byte 16)).state = .safe)) ∧
    (Meets 0x0304 [(16, 1)] (fun x d => x.byte 16 ≤ 1 ∧ d.dieFitted (x.byte 16) = true ∧ (if x.byte 16 = 0 then d.isSet
      Reg.GLOBAL_FAULT_STAT.STOPPED_A 0 else d.isSet Reg.GLOBAL_FAULT_STAT.STOPPED_B 0) = false ∧ (d.fd (x.byte 16)).state ≠ .safe)) :=
  ⟨⟨{ dev := ring, pending := [] }, 0, desc 0x0301 [(16, handle clsDO 63), (20, 65536), (24, 1)], by decide +kernel, by decide +kernel⟩,
    ⟨{ dev := ring, pending := [] }, 0, desc 0x0302 [(16, handle clsDO 63)], by decide +kernel, by decide +kernel⟩,
    ⟨{ dev := ring.put Reg.POS_CFG.MODE 7 1, pending := [] }, 0, desc 0x0401 [(16, handle clsPOS 7)], by decide +kernel, by decide +kernel⟩,
    ⟨{ dev := (ring.put Reg.POS_CFG.MODE 7 1).put Reg.POS_CFG.INDEX 7 1, pending := [] }, 0, desc 0x0402 [(16, handle clsPOS 7), (20, 1)], by
      decide +kernel, by decide +kernel⟩,
    ⟨{ dev := ring, pending := [] }, 0, desc 0x0403 [(16, handle clsEMU 3), (20, 2000000), (24, 1)], by decide +kernel, by decide +kernel⟩,
    ⟨{ dev := ring, pending := [] }, 0, desc 0x0804 [(16, handle clsSOL 31)], by decide +kernel, by decide +kernel⟩,
    ⟨{ dev := ring, pending := [] }, 0, desc 0x0901 [(16, handle clsFAN 31), (20, 100 * 65536), (24, 1)], by decide +kernel, by decide +kernel⟩,
    ⟨{ dev := ring, pending := [] }, 0, desc 0x0902 [(16, handle clsFAN 31)], by decide +kernel, by decide +kernel⟩,
    ⟨{ dev := { ring with dieB := { ring.dieB with state := .safe } }, pending := [] }, 0, desc 0x0304 [(16, 1)], by decide +kernel, by
      decide +kernel⟩,
    ⟨{ dev := ring, pending := [] }, 0, desc 0x0304 [(16, 1)], by decide +kernel, by decide +kernel⟩⟩

theorem met_DriveDescriptorsAct :
    (Meets 0x0303 [(16, 1)] (fun x d => 1 ≤ x.byte 16 ∧ x.byte 16 ≤ 3 ∧ ∀ k ∈ darkDies x, d.dieFitted k = true ∧ d.get Reg.FIELD_STAT.OUT_STATE k
      = 1 ∧ (if k = 0 then d.isSet Reg.DIO_DARK.EN_A 0 else d.isSet Reg.DIO_DARK.EN_B 0) = true ∧ d.darkBusy k (d.nextId - 1) = false)) ∧
    (Meets 0x0801 [(16, 12)] (fun x d => isNull (x.u32 16) = false ∧ d.isHandle clsBANK (x.u32 16) = true ∧ d.loadOf (indexOf (x.u32 16)) = none)) ∧
    (Meets 0x0802 [(16, 5), (24, 4)] (fun x d => isNull (x.u32 16) = false ∧ d.isHandle clsSOL (x.u32 16) = true ∧ d.solOddReg (indexOf (x.u32
      16)) = false ∧ d.writerOf (x.u32 16) ≤ 1 ∧ x.byte 20 ≤ 7 ∧ x.u32 24 ≤ 360000000)) ∧
    (Meets 0x0803 [(16, 6)] (fun x d => isNull (x.u32 16) = false ∧ d.isHandle clsSOL (x.u32 16) = true ∧ d.solOddReg (indexOf (x.u32 16)) = false
      ∧ x.byte 20 ≤ 1 ∧ x.byte 21 ≤ 1)) :=
  ⟨⟨{ dev := (ring.put Reg.DIO_DARK.EN_B 0 1).put Reg.FIELD_STAT.OUT_STATE 1 1, pending := [] }, 0, desc 0x0303 [(16, 2)], by decide +kernel, by
      decide +kernel⟩,
    ⟨{ dev := ring, pending := [] }, 0, desc 0x0801 [(16, handle clsBANK 7)], by decide +kernel, by decide +kernel⟩,
    ⟨{ dev := ring, pending := [] }, 0, desc 0x0802 [(16, handle clsSOL 31), (20, 7), (24, 360000000)], by decide +kernel, by decide +kernel⟩,
    ⟨{ dev := ring, pending := [] }, 0, desc 0x0803 [(16, handle clsSOL 31), (20, 1), (21, 1)], by decide +kernel, by decide +kernel⟩⟩

theorem met_EngineDescriptorsAct :
    (Meets 0x0501 [(16, 17)] (fun x d => x.byte 32 ≤ 1 ∧ d.pat.load = none)) ∧
    (Meets 0x0502 [(16, 2), (20, 44)] (fun x d => 1 ≤ x.byte 16 ∧ x.byte 16 ≤ 64 ∧ x.byte 17 ≤ 5 ∧ d.modelValid = true ∧ d.pat.run = true ∧
      d.pat.preds.length < d.predDepth ∧ (∀ j, j < x.byte 17 → x.u16 (24 + 8 * j) < d.pat.shape.sources.length ∧ 1 ≤ x.byte (26 + 8 * j) ∧ x.byte
      (26 + 8 * j) ≤ 64 ∧ x.byte (27 + 8 * j) = 0 ∧ ∀ b, d.pat.shape.sources[x.u16 (24 + 8 * j)]? = some b → b.2.1 ≠ 3 ∧ b.2.1 ≠ 4) ∧ x.u32 20 + 8 *
      d.pat.shape.slots.length ≤ memWords)) ∧
    (Meets 0x0504 [(16, 1)] (fun x d => x.byte 16 ≤ 7 ∧ d.modelValid = true ∧ d.pat.run = true)) ∧
    (Meets 0x0601 [(16, 9)] (fun x d => isNull (x.u32 16) = false ∧ d.isHandle clsLOOP (x.u32 16) = true ∧ x.byte 24 ≤ 3 ∧ d.eng.sets.any (fun o
      => o.slot == indexOf (x.u32 16)) = false)) ∧
    (Meets 0x0602 [(16, 4)] (fun x d => isNull (x.u32 16) = false ∧ d.isHandle clsLOOP (x.u32 16) = true ∧ (d.loop (indexOf (x.u32 16))).state ≠
      .idle ∧ d.eng.sets.any (fun o => handle clsLOOP o.slot == x.u32 16) = false)) ∧
    (Meets 0x0603 [(16, 6)] (fun x d => isNull (x.u32 16) = false ∧ d.isHandle clsLOOP (x.u32 16) = true ∧ (d.loop (indexOf (x.u32 16))).state ≠
      .idle ∧ x.byte 20 ≤ 3 ∧ (x.byte 21 = 1 ∧ lpEnabled (d.loopBlock (indexOf (x.u32 16))) (x.byte 20) = true ∨ x.byte 21 = 2))) ∧
    (Meets 0x0604 [(16, 5)] (fun x d => isNull (x.u32 16) = false ∧ d.isHandle clsLOOP (x.u32 16) = true ∧ (d.loop (indexOf (x.u32 16))).state ≠
      .idle ∧ x.byte 20 = 1)) ∧
    (Meets 0x0605 [(16, 4)] (fun x d => isNull (x.u32 16) = false ∧ d.isHandle clsLOOP (x.u32 16) = true ∧ (d.loop (indexOf (x.u32 16))).state =
      .safe)) ∧
    (Meets 0x0607 [(16, 1)] (fun x d => x.byte 16 < 64 ∧ ∃ c, d.chalk (x.byte 16) = some c ∧ armKind c.arm = 0)) ∧
    (Meets 0x0608 [(16, 1)] (fun x d => x.byte 16 < 64 ∧ (d.chalk (x.byte 16)).isSome = true)) ∧
    (Meets 0x0701 [(16, 8)] (fun x d => isNull (x.u32 16) = false ∧ d.isHandle clsSCHED (x.u32 16) = true)) ∧
    (Meets 0x0702 [(16, 8)] (fun x d => isNull (x.u32 16) = false ∧ d.isHandle clsZONE (x.u32 16) = true)) ∧
    (Meets 0x0703 [(16, 8)] (fun x d => isNull (x.u32 16) = false ∧ d.isHandle clsZONE (x.u32 16) = true ∧ x.byte 20 ≤ 3 ∧ x.byte 21 ≤ 1 ∧
      (d.zoneBlock (indexOf (x.u32 16))).isEmpty = false)) ∧
    (Meets 0x0710 [(16, 18)] (fun _ _ => True)) ∧
    (Meets 0x0711 [(16, 8)] (fun x d => x.u32 16 ≤ 32 ∧ imageFits (x.u32 20) (16 * x.u32 16) = true ∧ ∃ bs, (d.readImage (x.u32 20) (16 * x.u32
      16)).1 = some bs ∧ ascending (dstEntries bs (x.u32 16)) = true ∧ (List.range (x.u32 16)).any (fun j => !zeroAt bs (16 * j + 10) 6) = false ∧
      (d.readImage (x.u32 20) (16 * x.u32 16)).2.manifestOk 0 0x0711 bs = true)) ∧
    (Meets 0x0606 [(16, 27), (44, 20)] (fun x d => x.byte 16 ≤ 63 ∧ x.byte 17 ≤ 3 ∧ 1 ≤ x.byte 18 ∧ x.byte 18 ≤ 16 ∧ x.byte 19 ≤ 2 ∧ isNull (x.u32
      20) = false ∧ d.isHandle clsLOOP (x.u32 20) = true ∧ (d.loop (indexOf (x.u32 20))).state ≠ .idle ∧ d.chalk (x.byte 16) = none ∧ (List.range
      (armK x)).all (fun j => chalkCodeOk (armCode x j)) = true ∧ (List.range 16).all (fun j => decide (j < armK x) || armCode x j == 0) = true ∧ 1
      ≤ armDec x ∧ 1 ≤ armPost x ∧ armKind x ≤ 4 ∧ armNode x < armK x ∧ armMask x ≤ 15 ∧ armOff x + armSize x ≤ 163840 ∧ (armPre x + 8) * recWords x
      ≤ armSize x ∧ (∀ n, n < 64 → ∀ s, d.chalk n = some s → armOff s.arm + armSize s.arm ≤ armOff x ∨ armOff x + armSize x ≤ armOff s.arm))) :=
  ⟨⟨{ dev := ring, pending := [] }, 0, desc 0x0501 [(32, 1)], by decide +kernel, by decide +kernel⟩,
    ⟨{ dev := { (ring.put Reg.PAT_STAT.MODEL_VALID 0 1) with pat := { PatSt.init with run := true, shape := { header := [], nodes := [], slots := [], sources := [(5, 1, 0)] } } }, pending := [] },
      0, desc 0x0502 [(16, 64), (17, 1), (20, 393216), (26, 64)], by decide +kernel, by decide +kernel⟩,
    ⟨{ dev := { (ring.put Reg.PAT_STAT.MODEL_VALID 0 1) with pat := { PatSt.init with run := true } }, pending := [] }, 0, desc 0x0504 [(16, 7)],
      by decide +kernel, by decide +kernel⟩,
    ⟨{ dev := ring, pending := [] }, 0, desc 0x0601 [(16, handle clsLOOP 511), (24, 3)], by decide +kernel, by decide +kernel⟩,
    ⟨{ dev := ring.setLoop 511 { LoopSt.init with state := .run }, pending := [] }, 0, desc 0x0602 [(16, handle clsLOOP 511)], by decide +kernel,
      by decide +kernel⟩,
    ⟨{ dev := ring.setLoop 511 { LoopSt.init with state := .run }, pending := [] }, 0, desc 0x0603 [(16, handle clsLOOP 511), (20, 3), (21, 2)],
      by decide +kernel, by decide +kernel⟩,
    ⟨{ dev := ring.setLoop 511 { LoopSt.init with state := .run }, pending := [] }, 0, desc 0x0604 [(16, handle clsLOOP 511), (20, 1)], by
      decide +kernel, by decide +kernel⟩,
    ⟨{ dev := ring.setLoop 511 { LoopSt.init with state := .safe }, pending := [] }, 0, desc 0x0605 [(16, handle clsLOOP 511)], by decide +kernel,
      by decide +kernel⟩,
    ⟨{ dev := ring.setChalk 63 (some chalkOf), pending := [] }, 0, desc 0x0607 [(16, 63)], by decide +kernel, ⟨by decide +kernel, chalkOf, by
      decide +kernel, by decide +kernel⟩⟩,
    ⟨{ dev := ring.setChalk 63 (some chalkOf), pending := [] }, 0, desc 0x0608 [(16, 63)], by decide +kernel, by decide +kernel⟩,
    ⟨{ dev := ring, pending := [] }, 0, desc 0x0701 [(16, handle clsSCHED 255)], by decide +kernel, by decide +kernel⟩,
    ⟨{ dev := ring, pending := [] }, 0, desc 0x0702 [(16, handle clsZONE 127)], by decide +kernel, by decide +kernel⟩,
    ⟨{ dev := { ring with blocks := [(handle clsZONE 127, [1])] }, pending := [] }, 0, desc 0x0703 [(16, handle clsZONE 127), (20, 3), (21, 1)],
      by decide +kernel, by decide +kernel⟩,
    ⟨{ dev := ring, pending := [] }, 0, desc 0x0710 [(16, 1)], by decide +kernel, by decide +kernel⟩,
    ⟨{ dev := ring, pending := [] }, 0, desc 0x0711 [(16, 1)], by decide +kernel, ⟨by decide +kernel, by decide +kernel, List.replicate 16 0, by
      decide +kernel⟩⟩,
    ⟨{ dev := ring.setLoop 511 { LoopSt.init with state := .run }, pending := [] }, 0, desc 0x0606 [(16, 63), (17, 3), (18, 16), (19, 2), (20, handle clsLOOP 511), (24, 163816), (28, 24), (32, 1), (36, 1), (40, 4), (41, 15), (42, 15), (48, 63), (49, 63), (50, 63), (51, 63), (52, 63), (53, 63), (54, 63), (55, 63), (56, 63), (57, 63), (58, 63), (59, 63), (60, 63), (61, 63), (62, 63), (63, 63)], by decide +kernel, 
      by
        repeat refine ⟨by decide +kernel, ?_⟩
        exact fun _ _ s h => nomatch (show none = some s from h)⟩⟩

theorem met_QuiltDescriptorsAct :
    (Meets 0x0A01 [(16, 1), (20, 4), (24, 4), (28, 24), (52, 6)] (fun x d => 1 ≤ x.byte 16 ∧ x.byte 16 ≤ 6 ∧ 1 ≤ x.u32 20 ∧ x.u32 20 ≤ 65535 ∧
      x.u32 24 < x.u32 20 ∧ (∀ j, j < x.byte 16 → isNull (x.u32 (28 + 4 * j)) = false ∧ d.badName (x.u32 (28 + 4 * j)) = false ∧ devOf (x.u32 (28 +
      4 * j)) = devOf (x.u32 28) ∧ d.isLocal (x.u32 (28 + 4 * j)) = false) ∧ d.isSet Reg.GLOBAL_DEVNUM.ACTIVE_VALID 0 = true ∧ (d.routePort (devOf
      (x.u32 28))).isSome = true ∧ d.explicitFlows < 2048)) ∧
    (Meets 0x0A02 [(16, 2), (18, 2)] (fun x d => (d.quilt.inFlows.find? fun f => f.1 == x.u16 16 && f.2.1 == x.u16 18 && f.2.2.2 == 0).isSome =
      true)) ∧
    (Meets 0x0A03 [(16, 4)] (fun x d => x.u32 16 + 128 ≤ memWords ∧ d.quilt.route = none)) ∧
    (Meets 0x0A04 [(16, 1)] (fun _ _ => True)) ∧
    (Meets 0x0A05 [(16, 1), (17, 1)] (fun x _ => x.byte 17 = 0)) ∧
    (Meets 0x0A05 [(16, 1), (17, 1)] (fun x _ => x.byte 17 = 1)) ∧
    (Meets 0x0A06 [(16, 2), (18, 1), (20, 4)] (fun x d => x.u16 16 ≤ 1023 ∧ x.byte 18 ≤ 63 ∧ d.isSet Reg.GLOBAL_DEVNUM.ACTIVE_VALID 0 = true ∧
      (d.routePort (x.u16 16)).isSome = true)) :=
  ⟨⟨{ dev := seam, pending := [] }, 0, desc 0x0A01 [(16, 6), (20, 65535), (24, 65534), (28, 1023 * 2 ^ 20 + handle clsAO 0), (32, 1023 * 2 ^ 20 +
      handle clsAO 0), (36, 1023 * 2 ^ 20 + handle clsAO 0), (40, 1023 * 2 ^ 20 + handle clsAO 0), (44, 1023 * 2 ^ 20 + handle clsAO 0), (48, 1023 *
      2 ^ 20 + handle clsAO 0)], by decide +kernel, by decide +kernel⟩,
    ⟨{ dev := { ring with quilt := { QuiltSt.init with inFlows := [(1023, 1022, 3, 0)] } }, pending := [] }, 0, desc 0x0A02 [(16, 1023), (18,
      1022)], by decide +kernel, by decide +kernel⟩,
    ⟨{ dev := ring, pending := [] }, 0, desc 0x0A03 [(16, 393088)], by decide +kernel, by decide +kernel⟩,
    ⟨{ dev := ring, pending := [] }, 0, desc 0x0A04 [(16, 255)], by decide +kernel, by decide +kernel⟩,
    ⟨{ dev := seam, pending := [] }, 0, desc 0x0A05 [(16, 128)], by decide +kernel, by decide +kernel⟩,
    ⟨{ dev := seam, pending := [] }, 0, desc 0x0A05 [(16, 128), (17, 1)], by decide +kernel, by decide +kernel⟩,
    ⟨{ dev := seam, pending := [] }, 0, desc 0x0A06 [(16, 1023), (18, 63)], by decide +kernel, by decide +kernel⟩⟩

theorem met_BusDescriptorsAct :
    (Meets 0x0B01 [(16, 4), (20, 1), (21, 1), (22, 1), (24, 8), (32, 2), (40, 8), (48, 2)] (fun x d => d.isHandle clsBUS (x.u32 16) = true ∧
      sendSuits (d.busMode (indexOf (x.u32 16))) x = true ∧ d.busMode (indexOf (x.u32 16)) ≠ busMSTP ∧ d.busMode (indexOf (x.u32 16)) ≠ busMODBUS)) ∧
    (Meets 0x0B01 [(16, 4), (20, 1), (21, 1), (22, 1), (24, 8), (32, 2), (40, 8), (48, 2)] (fun x d => d.isHandle clsBUS (x.u32 16) = true ∧
      sendSuits (d.busMode (indexOf (x.u32 16))) x = true ∧ d.busMode (indexOf (x.u32 16)) = busMODBUS)) ∧
    (Meets 0x0B01 [(16, 4), (20, 1), (21, 1), (22, 1), (24, 8), (32, 2), (40, 8), (48, 2)] (fun x d => d.isHandle clsBUS (x.u32 16) = true ∧
      sendSuits (d.busMode (indexOf (x.u32 16))) x = true ∧ d.busMode (indexOf (x.u32 16)) = busMSTP ∧ (bitAt (x.byte 22) 0 = false ∨ (d.bus
      (indexOf (x.u32 16))).reply = none ∨ (d.bus (indexOf (x.u32 16))).node = .sending ∨ (d.bus (indexOf (x.u32 16))).node = .waitReply))) ∧
    (∃ r, Meets 0x0B01 [(16, 4), (20, 1), (21, 1), (22, 1), (24, 8), (32, 2), (40, 8), (48, 2)] (fun x d => d.isHandle clsBUS (x.u32 16) = true ∧
      sendSuits (d.busMode (indexOf (x.u32 16))) x = true ∧ d.busMode (indexOf (x.u32 16)) = busMSTP ∧ bitAt (x.byte 22) 0 = true ∧ (d.bus (indexOf
      (x.u32 16))).reply = some r ∧ (d.bus (indexOf (x.u32 16))).node ≠ .sending ∧ (d.bus (indexOf (x.u32 16))).node ≠ .waitReply)) ∧
    (Meets 0x0B02 [(16, 4), (24, 8), (32, 2)] (fun x d => 1 ≤ x.u16 32 ∧ x.u16 32 ≤ 1522 ∧ d.isHandle clsBUS (x.u32 16) = true ∧ (d.bus (indexOf
      (x.u32 16))).recvs.length < 16)) ∧
    (Meets 0x0B03 [(16, 4), (20, 4), (24, 1)] (fun x d => d.isHandle clsBUS (x.u32 16) = true ∧ indexOf (x.u32 16) < 16 ∧ x.byte 24 ≤
      d.pollEntries ∧ d.busMode (indexOf (x.u32 16)) = busMODBUS ∧ x.u32 20 + x.byte 24 ≤ memWords)) :=
  ⟨⟨{ dev := onBus busRAW, pending := [] }, 0, desc 0x0B01 [(16, handle clsBUS 15), (32, 65535)], by decide +kernel, by decide +kernel⟩,
    ⟨{ dev := onBus busMODBUS, pending := [] }, 0, desc 0x0B01 [(16, handle clsBUS 15), (32, 254)], by decide +kernel, by decide +kernel⟩,
    ⟨{ dev := onBus busMSTP, pending := [] }, 0, desc 0x0B01 [(16, handle clsBUS 15), (20, 5), (21, 255), (22, 0), (32, 501)], by decide +kernel,
      by decide +kernel⟩,
    ⟨(3, 5), { dev := (onBus busMSTP).setBus 15 { BusSt.init with reply := some (3, 5) }, pending := [] }, 0, desc 0x0B01 [(16, handle clsBUS 15),
      (20, 6), (21, 127), (22, 1), (32, 501)], by decide +kernel, by decide +kernel⟩,
    ⟨{ dev := ring, pending := [] }, 0, desc 0x0B02 [(16, handle clsBUS 15), (32, 1522)], by decide +kernel, by decide +kernel⟩,
    ⟨{ dev := onBus busMODBUS, pending := [] }, 0, desc 0x0B03 [(16, handle clsBUS 15), (20, 393216 - 64), (24, 64)], by decide +kernel, by
      decide +kernel⟩⟩

theorem met_StoreDescriptorsAct :
    (Meets 0x0C01 [(16, 6), (24, 4)] (fun x d => 1 ≤ x.u16 20 ∧ x.u16 20 ≤ 4096 ∧ rawRange (x.u32 16) (x.u16 20) = true ∧ imageFits (x.u32 24)
      (x.u16 20) = true ∧ d.regionOpen (regionOf (x.u32 16)) 0 = true ∧ d.regionOpen (regionOf (x.u32 16 + x.u16 20 - 1)) 0 = true)) ∧
    (Meets 0x0C02 [(16, 6), (24, 4)] (fun x d => 1 ≤ x.u16 20 ∧ x.u16 20 ≤ 256 ∧ x.u32 16 < nvmBytes ∧ inSaveArea (x.u32 16) = false ∧ imageFits
      (x.u32 24) (x.u16 20) = true ∧ 6 ≤ regionOf (x.u32 16) ∧ d.regionOpen (regionOf (x.u32 16)) 1 = true ∧ (d.readImage (x.u32 24) (x.u16
      20)).1.isSome = true)) ∧
    (Meets 0x0C03 [(16, 2), (24, 8)] (fun x d => x.byte 16 < 8 ∧ x.byte 17 < 2 ∧ d.lockedOut (x.byte 16) (x.byte 17) = false ∧ passwordDigest
      (x.u64 24) = d.passwordOf (x.byte 16) (x.byte 17))) ∧
    (Meets 0x0C04 [(16, 2)] (fun x _ => x.byte 17 < 4)) ∧
    (Meets 0x0C05 [(16, 2), (24, 8)] (fun x d => x.byte 16 < 8 ∧ x.byte 17 < 2 ∧ d.regionOpen (x.byte 16) 1 = true)) ∧
    (Meets 0x0C06 [] (fun _ d => d.retPending = [] ∧ d.storeDue = [])) ∧
    (Meets 0x0C06 [] (fun _ d => d.retPending ≠ [])) ∧
    (∃ r, Meets 0x0C07 [(16, 4)] (fun x d => d.recHandle (x.u32 16) = some r ∧ d.nvm.ambiguous.contains r = true)) ∧
    (∃ r, Meets 0x0C07 [(16, 4)] (fun x d => d.recHandle (x.u32 16) = some r ∧ d.nvm.ambiguous.contains r = false)) ∧
    (∃ r, Meets 0x0C08 [(16, 5), (24, 24)] (fun x d => d.recHandle (x.u32 16) = some r ∧ 3584 ≤ r ∧ 1 ≤ x.byte 20 ∧ x.byte 20 ≤ 24)) ∧
    (∃ r, Meets 0x0C09 [(16, 8)] (fun x d => d.recHandle (x.u32 16) = some r ∧ imageFits (x.u32 20) 32 = true)) ∧
    (Meets 0x0C0A [(16, 1), (24, 12)] (fun x d => x.byte 16 < 2 ∧ d.nvm.exporting = none ∧ d.nvm.importing = none ∧ d.isSet
      Reg.SEC_STAT.IDENTITY_OK 0 = true)) ∧
    (Meets 0x0C0B [(16, 1), (24, 12)] (fun x d => x.byte 16 < 2 ∧ d.nvm.exporting = none ∧ d.nvm.importing = none)) :=
  ⟨⟨{ dev := ring, pending := [] }, 0, desc 0x0C01 [(20, 4096), (24, 393088)], by decide +kernel, by decide +kernel⟩,
    ⟨{ dev := ring, pending := [] }, 0, desc 0x0C02 [(16, 3145728), (20, 256), (24, 393208)], by decide +kernel, by decide +kernel⟩,
    ⟨{ dev := ring, pending := [] }, 0, desc 0x0C03 [(16, 7), (17, 1)], by decide +kernel, by decide +kernel⟩,
    ⟨{ dev := ring, pending := [] }, 0, desc 0x0C04 [(16, 255), (17, 3)], by decide +kernel, by decide +kernel⟩,
    ⟨{ dev := ring, pending := [] }, 0, desc 0x0C05 [(16, 7), (17, 1)], by decide +kernel, by decide +kernel⟩,
    ⟨{ dev := ring, pending := [] }, 0, desc 0x0C06 [], by decide +kernel, by decide +kernel⟩,
    ⟨{ dev := { ring with retPending := [4095] }, pending := [] }, 0, desc 0x0C06 [], by decide +kernel, by decide +kernel⟩,
    ⟨4095, { dev := { ring with nvm := { NvmSt.init with ambiguous := [4095] } }, pending := [] }, 0, desc 0x0C07 [(16, handle clsREC 4095)], by
      decide +kernel, by decide +kernel⟩,
    ⟨4095, { dev := ring, pending := [] }, 0, desc 0x0C07 [(16, handle clsREC 4095)], by decide +kernel, by decide +kernel⟩,
    ⟨4095, { dev := ring, pending := [] }, 0, desc 0x0C08 [(16, handle clsREC 4095), (20, 24)], by decide +kernel, by decide +kernel⟩,
    ⟨4095, { dev := ring, pending := [] }, 0, desc 0x0C09 [(16, handle clsREC 4095), (20, 393215)], by decide +kernel, by decide +kernel⟩,
    ⟨{ dev := ring.put Reg.SEC_STAT.IDENTITY_OK 0 1, pending := [] }, 0, desc 0x0C0A [(16, 1)], by decide +kernel, by decide +kernel⟩,
    ⟨{ dev := ring, pending := [] }, 0, desc 0x0C0B [(16, 1)], by decide +kernel, by decide +kernel⟩⟩

theorem met_ServiceDescriptorsAct :
    (Meets 0x0D01 [(16, 9)] (fun x d => 1 ≤ x.u16 20 ∧ 1 ≤ x.u16 22 ∧ x.u16 16 + x.u16 20 ≤ d.panelW ∧ x.u16 18 + x.u16 22 ≤ d.panelH ∧ x.byte 24
      < 4 ∧ (x.byte 24 = 0 ∨ d.isSet Reg.PANEL_STAT.LIB_VALID 0 = true) ∧ d.isSet Reg.PANEL_CFG.EN 0 = true ∧ d.isSet Reg.PANEL_STAT.RAIL_LATCHED 0
      = false ∧ d.panel.waiting = [])) ∧
    (Meets 0x0D02 [(16, 8)] (fun _ d => d.panel.load = none)) ∧
    (Meets 0x0D03 [(16, 4)] (fun x d => d.isSet Reg.PANEL_CFG.EN 0 = true ∧ d.get Reg.PANEL_CRC.CRC 0 = x.u32 16)) ∧
    (Meets 0x0D03 [(16, 4)] (fun x d => d.isSet Reg.PANEL_CFG.EN 0 = true ∧ d.get Reg.PANEL_CRC.CRC 0 ≠ x.u32 16)) ∧
    (Meets 0x0E01 [(16, 1)] (fun x _ => x.byte 16 < 2)) ∧
    (Meets 0x0F01 [] (fun _ d => d.fitting = false)) ∧
    (Meets 0x0F02 [(16, 8)] (fun x _ => 1 ≤ x.u16 18 ∧ x.u16 18 ≤ 1024 ∧ x.u32 20 + x.u16 18 ≤ memWords)) ∧
    (Meets 0x0F03 [(16, 2)] (fun x _ => ∀ e, e < 16 → bitAt (x.u16 16) e = true → e = 2 ∨ e = 4 ∨ e = 5 ∨ e = 6 ∨ e = 9)) ∧
    (Meets 0x1001 [(16, 8)] (fun _ _ => True)) ∧
    (Meets 0x1002 [(16, 8)] (fun _ _ => True)) ∧
    (Meets 0x1003 [(16, 8)] (fun _ _ => True)) ∧
    (Meets 0x1004 [(16, 36)] (fun x d => imageFits (x.u32 48) 672 = true ∧ d.isSet Reg.SEC_STAT.IDENTITY_OK 0 = true)) ∧
    (Meets 0x1101 [(16, 1)] (fun x d => x.byte 16 < 2 ∧ d.live = true ∧ d.frzEn = true ∧ d.frz.req = none)) :=
  ⟨⟨{ dev := ((ring.put Reg.PANEL_GEOM.HEIGHT 0 1200).put Reg.PANEL_STAT.LIB_VALID 0 1).put Reg.PANEL_CFG.EN 0 1, pending := [] }, 0, desc 0x0D01
      [(16, 1599), (18, 1199), (20, 1), (22, 1), (24, 3)], by decide +kernel, by decide +kernel⟩,
    ⟨{ dev := ring, pending := [] }, 0, desc 0x0D02 [], by decide +kernel, by decide +kernel⟩,
    ⟨{ dev := (ring.put Reg.PANEL_CFG.EN 0 1).put Reg.PANEL_CRC.CRC 0 5, pending := [] }, 0, desc 0x0D03 [(16, 5)], by decide +kernel, by
      decide +kernel⟩,
    ⟨{ dev := (ring.put Reg.PANEL_CFG.EN 0 1).put Reg.PANEL_CRC.CRC 0 5, pending := [] }, 0, desc 0x0D03 [(16, 6)], by decide +kernel, by
      decide +kernel⟩,
    ⟨{ dev := ring, pending := [] }, 0, desc 0x0E01 [(16, 1)], by decide +kernel, by decide +kernel⟩,
    ⟨{ dev := ring, pending := [] }, 0, desc 0x0F01 [], by decide +kernel, by decide +kernel⟩,
    ⟨{ dev := ring, pending := [] }, 0, desc 0x0F02 [(18, 1024), (20, 392192)], by decide +kernel, by decide +kernel⟩,
    ⟨{ dev := ring, pending := [] }, 0, desc 0x0F03 [(16, 628)], by decide +kernel, by decide +kernel⟩,
    ⟨{ dev := ring, pending := [] }, 0, desc 0x1001 [(16, 1)], by decide +kernel, by decide +kernel⟩,
    ⟨{ dev := ring, pending := [] }, 0, desc 0x1002 [(16, 1)], by decide +kernel, by decide +kernel⟩,
    ⟨{ dev := ring, pending := [] }, 0, desc 0x1003 [(16, 1)], by decide +kernel, by decide +kernel⟩,
    ⟨{ dev := ring.put Reg.SEC_STAT.IDENTITY_OK 0 1, pending := [] }, 0, desc 0x1004 [(48, 393195)], by decide +kernel, by decide +kernel⟩,
    ⟨{ dev := ring.put Reg.DBG_CFG.FRZ_EN 0 1, pending := [] }, 0, desc 0x1101 [(16, 1)], by decide +kernel, by decide +kernel⟩⟩

theorem met_AbortsEndTheirTargets :
    (∃ r : Rec, r.phase = .fetched ∧ Meets 0x0203 [(16, 6)] (fun x d => d.abortFinds x [0x0201, 0x0202, 0x0204] r)) ∧
    (∃ r : Rec, r.phase = .fetched ∧ Meets 0x0404 [(16, 6)] (fun x d => d.abortFinds x [0x0402] r)) ∧
    (∃ r : Rec, r.phase = .fetched ∧ Meets 0x0503 [(16, 6)] (fun x d => d.abortFinds x [0x0501, 0x0502] r)) ∧
    (∃ r : Rec, r.phase = .fetched ∧ Meets 0x0609 [(16, 6)] (fun x d => d.abortFinds x [0x0601] r)) ∧
    (∃ r : Rec, r.phase = .fetched ∧ Meets 0x0805 [(16, 6)] (fun x d => d.abortFinds x [0x0801, 0x0802] r)) ∧
    (∃ r : Rec, r.phase = .fetched ∧ Meets 0x0A07 [(16, 4), (20, 2)] (fun x d => d.abortFinds x [0x0A01, 0x0A03] r)) ∧
    (∃ r : Rec, r.phase = .fetched ∧ Meets 0x0B04 [(16, 4), (20, 2)] (fun x d => d.abortFinds x [0x0B01, 0x0B02] r)) ∧
    (∃ r : Rec, r.phase = .fetched ∧ Meets 0x0C0C [(16, 6)] (fun x d => d.abortFinds x [0x0C02, 0x0C0A, 0x0C0B] r)) ∧
    (∃ r : Rec, r.phase = .fetched ∧ Meets 0x0D04 [(16, 6)] (fun x d => d.abortFinds x [0x0D01, 0x0D02] r)) ∧
    (∃ r : Rec, r.phase = .fetched ∧ Meets 0x0F04 [(16, 6)] (fun x d => d.abortFinds x [0x0F01] r)) ∧
    (∃ r : Rec, r.phase = .fetched ∧ Meets 0x1005 [(16, 6)] (fun x d => d.abortFinds x [0x1003] r)) ∧
    (∃ r : Rec, r.phase = .running ∧ Meets 0x0203 [(16, 6)] (fun x d => d.abortFinds x [0x0201, 0x0202, 0x0204] r)) ∧
    (∃ r : Rec, r.phase = .running ∧ Meets 0x0404 [(16, 6)] (fun x d => d.abortFinds x [0x0402] r)) ∧
    (∃ r : Rec, r.phase = .running ∧ Meets 0x0503 [(16, 6)] (fun x d => d.abortFinds x [0x0501, 0x0502] r)) ∧
    (∃ r : Rec, r.phase = .running ∧ Meets 0x0609 [(16, 6)] (fun x d => d.abortFinds x [0x0601] r)) ∧
    (∃ r : Rec, r.phase = .running ∧ Meets 0x0805 [(16, 6)] (fun x d => d.abortFinds x [0x0801, 0x0802] r)) ∧
    (∃ r : Rec, r.phase = .running ∧ Meets 0x0A07 [(16, 4), (20, 2)] (fun x d => d.abortFinds x [0x0A01, 0x0A03] r)) ∧
    (∃ r : Rec, r.phase = .running ∧ Meets 0x0B04 [(16, 4), (20, 2)] (fun x d => d.abortFinds x [0x0B01, 0x0B02] r)) ∧
    (∃ r : Rec, r.phase = .running ∧ Meets 0x0C0C [(16, 6)] (fun x d => d.abortFinds x [0x0C02, 0x0C0A, 0x0C0B] r)) ∧
    (∃ r : Rec, r.phase = .running ∧ Meets 0x0D04 [(16, 6)] (fun x d => d.abortFinds x [0x0D01, 0x0D02] r)) ∧
    (∃ r : Rec, r.phase = .running ∧ Meets 0x0F04 [(16, 6)] (fun x d => d.abortFinds x [0x0F01] r)) ∧
    (∃ r : Rec, r.phase = .running ∧ Meets 0x1005 [(16, 6)] (fun x d => d.abortFinds x [0x1003] r)) :=
  ⟨⟨target 0x0204 .fetched, by decide, { dev := { ring with recs := [target 0x0204 .fetched], nextId := 1 }, pending := [] }, 0, desc 0x0203
      [(16, 77), (20, 63)], by decide +kernel, by decide +kernel⟩,
    ⟨target 0x0402 .fetched, by decide, { dev := { ring with recs := [target 0x0402 .fetched], nextId := 1 }, pending := [] }, 0, desc 0x0404
      [(16, 77), (20, 63)], by decide +kernel, by decide +kernel⟩,
    ⟨target 0x0502 .fetched, by decide, { dev := { ring with recs := [target 0x0502 .fetched], nextId := 1 }, pending := [] }, 0, desc 0x0503
      [(16, 77), (20, 63)], by decide +kernel, by decide +kernel⟩,
    ⟨target 0x0601 .fetched, by decide, { dev := { ring with recs := [target 0x0601 .fetched], nextId := 1 }, pending := [] }, 0, desc 0x0609
      [(16, 77), (20, 63)], by decide +kernel, by decide +kernel⟩,
    ⟨target 0x0802 .fetched, by decide, { dev := { ring with recs := [target 0x0802 .fetched], nextId := 1 }, pending := [] }, 0, desc 0x0805
      [(16, 77), (20, 63)], by decide +kernel, by decide +kernel⟩,
    ⟨target 0x0A03 .fetched, by decide, { dev := { ring with recs := [target 0x0A03 .fetched], nextId := 1 }, pending := [] }, 0, desc 0x0A07
      [(16, 77), (20, 63)], by decide +kernel, by decide +kernel⟩,
    ⟨target 0x0B02 .fetched, by decide, { dev := { ring with recs := [target 0x0B02 .fetched], nextId := 1 }, pending := [] }, 0, desc 0x0B04
      [(16, 77), (20, 63)], by decide +kernel, by decide +kernel⟩,
    ⟨target 0x0C0B .fetched, by decide, { dev := { ring with recs := [target 0x0C0B .fetched], nextId := 1 }, pending := [] }, 0, desc 0x0C0C
      [(16, 77), (20, 63)], by decide +kernel, by decide +kernel⟩,
    ⟨target 0x0D02 .fetched, by decide, { dev := { ring with recs := [target 0x0D02 .fetched], nextId := 1 }, pending := [] }, 0, desc 0x0D04
      [(16, 77), (20, 63)], by decide +kernel, by decide +kernel⟩,
    ⟨target 0x0F01 .fetched, by decide, { dev := { ring with recs := [target 0x0F01 .fetched], nextId := 1 }, pending := [] }, 0, desc 0x0F04
      [(16, 77), (20, 63)], by decide +kernel, by decide +kernel⟩,
    ⟨target 0x1003 .fetched, by decide, { dev := { ring with recs := [target 0x1003 .fetched], nextId := 1 }, pending := [] }, 0, desc 0x1005
      [(16, 77), (20, 63)], by decide +kernel, by decide +kernel⟩,
    ⟨target 0x0204 .running, by decide, { dev := { ring with recs := [target 0x0204 .running], nextId := 1 }, pending := [] }, 0, desc 0x0203
      [(16, 77), (20, 63)], by decide +kernel, by decide +kernel⟩,
    ⟨target 0x0402 .running, by decide, { dev := { ring with recs := [target 0x0402 .running], nextId := 1 }, pending := [] }, 0, desc 0x0404
      [(16, 77), (20, 63)], by decide +kernel, by decide +kernel⟩,
    ⟨target 0x0502 .running, by decide, { dev := { ring with recs := [target 0x0502 .running], nextId := 1 }, pending := [] }, 0, desc 0x0503
      [(16, 77), (20, 63)], by decide +kernel, by decide +kernel⟩,
    ⟨target 0x0601 .running, by decide, { dev := { ring with recs := [target 0x0601 .running], nextId := 1 }, pending := [] }, 0, desc 0x0609
      [(16, 77), (20, 63)], by decide +kernel, by decide +kernel⟩,
    ⟨target 0x0802 .running, by decide, { dev := { ring with recs := [target 0x0802 .running], nextId := 1 }, pending := [] }, 0, desc 0x0805
      [(16, 77), (20, 63)], by decide +kernel, by decide +kernel⟩,
    ⟨target 0x0A03 .running, by decide, { dev := { ring with recs := [target 0x0A03 .running], nextId := 1 }, pending := [] }, 0, desc 0x0A07
      [(16, 77), (20, 63)], by decide +kernel, by decide +kernel⟩,
    ⟨target 0x0B02 .running, by decide, { dev := { ring with recs := [target 0x0B02 .running], nextId := 1 }, pending := [] }, 0, desc 0x0B04
      [(16, 77), (20, 63)], by decide +kernel, by decide +kernel⟩,
    ⟨target 0x0C0B .running, by decide, { dev := { ring with recs := [target 0x0C0B .running], nextId := 1 }, pending := [] }, 0, desc 0x0C0C
      [(16, 77), (20, 63)], by decide +kernel, by decide +kernel⟩,
    ⟨target 0x0D02 .running, by decide, { dev := { ring with recs := [target 0x0D02 .running], nextId := 1 }, pending := [] }, 0, desc 0x0D04
      [(16, 77), (20, 63)], by decide +kernel, by decide +kernel⟩,
    ⟨target 0x0F01 .running, by decide, { dev := { ring with recs := [target 0x0F01 .running], nextId := 1 }, pending := [] }, 0, desc 0x0F04
      [(16, 77), (20, 63)], by decide +kernel, by decide +kernel⟩,
    ⟨target 0x1003 .running, by decide, { dev := { ring with recs := [target 0x1003 .running], nextId := 1 }, pending := [] }, 0, desc 0x1005
      [(16, 77), (20, 63)], by decide +kernel, by decide +kernel⟩⟩

theorem met_ClearWritesAct :
    (∃ v, Holds (fun d => d.takesWrites ∧ d.isSealed = false ∧ bitAt v 17 = false ∧ bitsAt v 0 8 ≠ d.get Reg.GLOBAL_BLSEL.BL_REQ 0 ∧ 1 ≤ bitsAt v
      0 8 ∧ bitsAt v 0 8 ≤ d.part.stepping.blMax)) ∧
    (Holds Dev.takesWrites) ∧
    (Holds Dev.takesWrites) ∧
    (∃ k, Holds (fun d => d.takesWrites ∧ d.dieFitted k = true)) ∧
    (Holds Dev.takesWrites) ∧
    (Holds Dev.takesWrites) ∧
    (∃ q, Holds (fun d => d.takesWrites ∧ q < 64)) ∧
    (∃ v, Holds (fun d => d.takesWrites ∧ bitsAt v 0 10 ≤ 600)) :=
  ⟨⟨3, { dev := up, pending := [] }, by decide +kernel⟩,
    ⟨{ dev := up, pending := [] }, by decide +kernel⟩,
    ⟨{ dev := up, pending := [] }, by decide +kernel⟩,
    ⟨1, { dev := up, pending := [] }, by decide +kernel⟩,
    ⟨{ dev := up, pending := [] }, by decide +kernel⟩,
    ⟨{ dev := up, pending := [] }, by decide +kernel⟩,
    ⟨63, { dev := up, pending := [] }, by decide +kernel⟩,
    ⟨600, { dev := up, pending := [] }, by decide +kernel⟩⟩

theorem met_ConfigurationWritesAct :
    (∃ off, Holds (fun d => d.takesWrites ∧ off % 4 = 0)) ∧
    (∃ off, Holds (fun d => d.takesWrites ∧ off % 8 = 0)) ∧
    (∃ off, Holds (fun d => d.power.phase = .up ∧ d.frozen = true ∧ off < 0xF2000 ∧ d.frz.posted.length < 256)) ∧
    (∃ u v, Holds (fun d => d.takesWrites ∧ u < 64 ∧ d.measHere 64 u = true ∧ d.inRange [Reg.UI_MODE.MODE, Reg.UI_MODE.BETA] v = true)) ∧
    (∃ u, Holds (fun d => d.takesWrites ∧ u < 64 ∧ d.measHere 64 u = true)) ∧
    (∃ c, Holds (fun d => d.takesWrites ∧ c < 8 ∧ d.convHere c = true)) ∧
    (∃ off, Holds (fun d => d.takesWrites ∧ (0x30000 ≤ off ∧ off < 0x50000 ∨ 0x80000 ≤ off ∧ off < 0xC0000))) ∧
    (∃ off v f i h, Holds (fun d => d.takesWrites ∧ (0x30000 ≤ off ∧ off < 0x50000 ∨ 0x80000 ≤ off ∧ off < 0xC0000) ∧ off % 4 = 0 ∧ v < 2 ^ 32 ∧
      findReg off = some ([f], i, h) ∧ f.ty = .rw ∧ d.fieldRegHere off i (max 1 f.count) = true ∧ d.inRange [f] v = true ∧ d.posWriteOk off i v =
      true ∧ d.fanWriteOk off i v = true ∧ d.dioWriteOk off i v = true ∧ d.shutWriteOk off i i i v = true ∧ off ≠ 0x30024 ∧ off ≠ 0x40024 ∧ off ≠
      Reg.DO_CFG.SAFE.addr i ∧ off ≠ Reg.DI_CFG.TYPE.addr i ∧ off ≠ Reg.DI_DEB.DEBOUNCE.addr i ∧ off ≠ Reg.SOL_TTP_COMM.TMIN_COMM.addr i ∧ off ≠
      Reg.DIO_DARK.EN_A.addr 0 ∧ fanCoreReg off i = false)) ∧
    (Holds (fun d => d.takesWrites ∧ d.modelValid = true)) ∧
    (Holds Dev.takesWrites) ∧
    (∃ n v, Holds (fun d => d.takesWrites ∧ n < 16 ∧ baudOk (bitsAt v 0 2) (bitsAt v 4 4) = true)) ∧
    (∃ v, Holds (fun d => d.takesWrites ∧ bitsAt v 9 7 ≠ 0)) ∧
    (∃ p, Holds (fun d => d.takesWrites ∧ p < 8)) ∧
    (∃ v, Holds (fun d => d.takesWrites ∧ d.isSet Reg.PANEL_CFG.EN 0 = false ∧ v % 2 = 1)) :=
  ⟨⟨4, { dev := up, pending := [] }, by decide +kernel⟩,
    ⟨8, { dev := up, pending := [] }, by decide +kernel⟩,
    ⟨0xF1FFF, { dev := up.put Reg.DBG_STAT.FROZEN 0 1, pending := [] }, by decide +kernel⟩,
    ⟨63, 3950 * 2 ^ Reg.UI_MODE.BETA.lo + 6, { dev := up, pending := [] }, by decide +kernel⟩,
    ⟨63, { dev := up, pending := [] }, by decide +kernel⟩,
    ⟨7, { dev := up, pending := [] }, by decide +kernel⟩,
    ⟨0x30000, { dev := up, pending := [] }, by decide +kernel⟩,
    ⟨0xB0434, 65536, Reg.EMU_LINES.LINES, 3, 0, { dev := up, pending := [] }, ⟨by decide +kernel, by decide, by decide, by decide, rfl, by
      decide +kernel⟩⟩,
    ⟨{ dev := up.put Reg.PAT_STAT.MODEL_VALID 0 1, pending := [] }, by decide +kernel⟩,
    ⟨{ dev := up, pending := [] }, by decide +kernel⟩,
    ⟨15, 0x51, { dev := up, pending := [] }, by decide +kernel⟩,
    ⟨0x200, { dev := up, pending := [] }, by decide +kernel⟩,
    ⟨7, { dev := up, pending := [] }, by decide +kernel⟩,
    ⟨1, { dev := up, pending := [] }, by decide +kernel⟩⟩

theorem met_RingWritesAct :
    (∃ r, Holds (fun d => d.takesWrites ∧ r < 64 ∧ d.ringEnabled r = false ∧ d.isSet Reg.CQ_CTRL.ENABLE (d.get Reg.SQ_CFG.CQ r) = true ∧
      d.inflight r = 0 ∧ d.remote = false)) ∧
    (∃ c, Holds (fun d => d.takesWrites ∧ c < 64 ∧ d.ringEnabled (64 + c) = false ∧ d.remote = false)) ∧
    (Holds (fun d => d.takesWrites ∧ d.ringEnabled 128 = false ∧ d.remote = false)) ∧
    (∃ t, Holds (fun d => d.takesWrites ∧ t < 4 ∧ d.ringEnabled (129 + t) = false ∧ d.remote = false)) ∧
    (∃ r, Holds (fun d => d.takesWrites ∧ r < 64 ∧ d.ringEnabled r = true)) ∧
    (∃ c, Holds (fun d => d.takesWrites ∧ c < 64 ∧ d.ringEnabled (64 + c) = true ∧ d.cqNeeded c = false)) ∧
    (Holds (fun d => d.takesWrites ∧ d.ringEnabled 128 = true)) ∧
    (∃ t, Holds (fun d => d.takesWrites ∧ t < 4 ∧ d.ringEnabled (129 + t) = true)) ∧
    (∃ q v, Holds (fun d => d.takesWrites ∧ q < 64 ∧ d.isSet Reg.SQ_CTRL.ENABLE q = true ∧ v < 2 ^ d.get Reg.SQ_CFG.SIZE_LOG2 q ∧ v < 2 ^ 32)) ∧
    (∃ c v, Holds (fun d => d.takesWrites ∧ c < 64 ∧ d.isSet Reg.CQ_CTRL.ENABLE c = true ∧ v < 2 ^ d.get Reg.CQ_CFG.SIZE_LOG2 c ∧ v < 2 ^ 32)) ∧
    (∃ v, Holds (fun d => d.takesWrites ∧ d.isSet Reg.EQ_CTRL.ENABLE 0 = true ∧ v < 2 ^ d.get Reg.EQ_CFG.SIZE_LOG2 0 ∧ v < 2 ^ 32)) ∧
    (∃ t v, Holds (fun d => d.takesWrites ∧ t < 4 ∧ d.isSet Reg.TQ_CTRL.ENABLE t = true ∧ v < 2 ^ d.get Reg.TQ_CFG.SIZE_LOG2 t ∧ v < 2 ^ 32)) ∧
    (Holds (fun d => d.takesWrites ∧ d.isSet Reg.HOSTQ_STAT.HOST_LOST 0 = false)) ∧
    (Holds (fun d => d.takesWrites ∧ d.isSet Reg.HOSTQ_STAT.HOST_LOST 0 = true ∧ (d.get Reg.HOSTQ_STAT.LOST_CAUSE 0 ≠ 2 ∧ d.get
      Reg.HOSTQ_STAT.LOST_CAUSE 0 ≠ 3 ∨ d.isSet Reg.EQ_CTRL.ENABLE 0 = true))) :=
  ⟨⟨63, { dev := up.put Reg.CQ_CTRL.ENABLE 0 1, pending := [] }, by decide +kernel⟩,
    ⟨63, { dev := up, pending := [] }, by decide +kernel⟩,
    ⟨{ dev := up, pending := [] }, by decide +kernel⟩,
    ⟨3, { dev := up, pending := [] }, by decide +kernel⟩,
    ⟨63, { dev := up.put Reg.SQ_CTRL.ENABLE 63 1, pending := [] }, by decide +kernel⟩,
    ⟨63, { dev := up.put Reg.CQ_CTRL.ENABLE 63 1, pending := [] }, by decide +kernel⟩,
    ⟨{ dev := up.put Reg.EQ_CTRL.ENABLE 0 1, pending := [] }, by decide +kernel⟩,
    ⟨3, { dev := up.put Reg.TQ_CTRL.ENABLE 3 1, pending := [] }, by decide +kernel⟩,
    ⟨63, 1023, { dev := (up.put Reg.SQ_CTRL.ENABLE 63 1).put Reg.SQ_CFG.SIZE_LOG2 63 10, pending := [] }, by decide +kernel⟩,
    ⟨63, 1023, { dev := (up.put Reg.CQ_CTRL.ENABLE 63 1).put Reg.CQ_CFG.SIZE_LOG2 63 10, pending := [] }, by decide +kernel⟩,
    ⟨1023, { dev := (up.put Reg.EQ_CTRL.ENABLE 0 1).put Reg.EQ_CFG.SIZE_LOG2 0 10, pending := [] }, by decide +kernel⟩,
    ⟨3, 1023, { dev := (up.put Reg.TQ_CTRL.ENABLE 3 1).put Reg.TQ_CFG.SIZE_LOG2 3 10, pending := [] }, by decide +kernel⟩,
    ⟨{ dev := up, pending := [] }, by decide +kernel⟩,
    ⟨{ dev := (up.put Reg.HOSTQ_STAT.HOST_LOST 0 1).put Reg.EQ_CTRL.ENABLE 0 1, pending := [] }, by decide +kernel⟩⟩

theorem met_HostReadsAndMemoryAccessesAct :
    (Holds (fun d => d.hostOpen = true ∧ d.frozen = false)) ∧
    (Holds (fun d => d.hostOpen = true ∧ d.frozen = true)) ∧
    (Holds (fun d => d.power.phase = .up)) ∧
    (Holds (fun d => d.power.phase = .up ∧ ∃ r, d.frz.cur = some r ∧ r.quilt = false)) ∧
    (∃ v, Holds (fun d => d.power.phase = .recovery ∧ bitAt v 31 = false)) ∧
    (∃ v, Holds (fun d => d.power.phase = .recovery ∧ bitAt v 31 = true)) ∧
    (∃ off len, Holds (fun d => d.hostOpen = true ∧ 1 ≤ len ∧ off + len ≤ 2 ^ 24 ∧ (d.frozen = false ∨ d.get Reg.GLOBAL_SEAL.OWNER_STATE 0 ≠
      ownSealed ∨ d.isSet Reg.DBG_CFG.RO_OPEN 0 = true))) ∧
    (∃ off, ∃ bs : List Nat, Holds (fun d => d.hostOpen = true ∧ bs ≠ [] ∧ off + bs.length ≤ 2 ^ 24 ∧ d.frozen = false)) ∧
    (∃ off, ∃ bs : List Nat, Holds (fun d => d.hostOpen = true ∧ bs ≠ [] ∧ off + bs.length ≤ 2 ^ 24 ∧ d.frozen = true ∧ d.frz.posted.length <
      256)) :=
  ⟨⟨{ dev := up, pending := [] }, by decide +kernel⟩,
    ⟨{ dev := up.put Reg.DBG_STAT.FROZEN 0 1, pending := [] }, by decide +kernel⟩,
    ⟨{ dev := up, pending := [] }, by decide +kernel⟩,
    ⟨{ dev := { up with frz := { FreezeSt.init with cur := some (frzOf false) } }, pending := [] }, ⟨rfl, frzOf false, rfl, rfl⟩⟩,
    ⟨1, { dev := { State.reset.dev with power := { PowerSt.init with phase := .recovery } }, pending := [] }, by decide +kernel⟩,
    ⟨2 ^ 31, { dev := { State.reset.dev with power := { PowerSt.init with phase := .recovery } }, pending := [] }, by decide +kernel⟩,
    ⟨2 ^ 24 - 32, 32, { dev := up, pending := [] }, by decide +kernel⟩,
    ⟨2 ^ 24 - 1, [255], { dev := up, pending := [] }, by decide +kernel⟩,
    ⟨2 ^ 24 - 1, [255], { dev := up.put Reg.DBG_STAT.FROZEN 0 1, pending := [] }, by decide +kernel⟩⟩

theorem met_StartSequenceAdvances :
    (Holds (fun d => d.power.phase = .waitVl24)) ∧
    (∃ r, Holds (fun d => d.power.phase = .waitPowerGood r ∧ r < 3)) ∧
    (Holds (fun d => d.power.phase = .waitPowerGood 3 ∧ d.power.rstLow = false)) ∧
    (Holds (fun d => d.power.phase = .waitPowerGood 3 ∧ d.power.rstLow = true)) ∧
    (∃ r, Holds (fun d => d.power.phase = .waitPowerGood r)) ∧
    (Holds (fun d => d.power.phase = .retryWait)) ∧
    (∃ a b k, Holds (fun d => d.power.phase = .booting ∧ ((d.bootIdentity.put Reg.PWR_STAT.START_STEP 0 5).put Reg.PWR_STAT.LAST_RESET 0
      d.power.resetCause).bootSlot a b = some k)) ∧
    (∃ a b, Holds (fun d => d.power.phase = .booting ∧ ((d.bootIdentity.put Reg.PWR_STAT.START_STEP 0 5).put Reg.PWR_STAT.LAST_RESET 0
      d.power.resetCause).bootSlot a b = none)) ∧
    (∃ a b, Holds (fun d => d.power.phase = .recovery ∧ (d.bootSlot a b).isSome = true)) ∧
    (Holds (fun d => d.power.phase = .booting ∨ d.power.phase = .retryWait ∨ ∃ r, d.power.phase = .waitPowerGood r)) :=
  ⟨⟨{ dev := State.reset.dev, pending := [] }, by decide +kernel⟩,
    ⟨2, { dev := { State.reset.dev with power := { PowerSt.init with phase := .waitPowerGood 2 } }, pending := [] }, by decide +kernel⟩,
    ⟨{ dev := { State.reset.dev with power := { PowerSt.init with phase := .waitPowerGood 3 } }, pending := [] }, by decide +kernel⟩,
    ⟨{ dev := { State.reset.dev with power := { PowerSt.init with phase := .waitPowerGood 3, rstLow := true } }, pending := [] }, by
      decide +kernel⟩,
    ⟨3, { dev := { State.reset.dev with power := { PowerSt.init with phase := .waitPowerGood 3 } }, pending := [] }, by decide +kernel⟩,
    ⟨{ dev := { State.reset.dev with power := { PowerSt.init with phase := .retryWait } }, pending := [] }, by decide +kernel⟩,
    ⟨slotGood, slotBad, 0, { dev := { State.reset.dev with power := { PowerSt.init with phase := .booting } }, pending := [] }, ⟨rfl, bootSlot_a _
      _ rfl rfl rfl⟩⟩,
    ⟨slotBad, slotBad, { dev := { State.reset.dev with power := { PowerSt.init with phase := .booting } }, pending := [] }, ⟨rfl, bootSlot_none
      _⟩⟩,
    ⟨slotGood, slotBad, { dev := { State.reset.dev with power := { PowerSt.init with phase := .recovery } }, pending := [] }, by decide +kernel⟩,
    ⟨{ dev := { State.reset.dev with power := { PowerSt.init with phase := .retryWait } }, pending := [] }, Or.inr (Or.inl rfl)⟩⟩

theorem met_WarningRowsAct :
    (∃ v, Holds (fun d => d.power.phase = .up ∧ d.dip = false ∧ v < d.warnLevel)) ∧
    (∃ v, Holds (fun d => d.power.phase = .up ∧ d.dip = true ∧ v < d.warnLevel)) ∧
    (Holds (fun d => d.dip = true ∧ d.nvm.save.isSome = true ∧ d.pageEnergyOk = true)) ∧
    (∃ v, Holds (fun d => d.dip = true ∧ d.resumeLevel < v)) ∧
    (∃ v t, Holds (fun d => d.dip = true ∧ d.power.resumeTimer = some t ∧ d.passedSince t 200 = true ∧ d.nvm.save = none ∧ d.power.rstResetDue =
      false ∧ d.resumeLevel < v)) ∧
    (Holds (fun d => d.power.phase = .up ∧ d.dip = true ∧ 1 ≤ d.get Reg.PWR_CFG.DIP_SAFE 0 ∧ d.power.warnStart + 10000 * d.get
      Reg.PWR_CFG.DIP_SAFE 0 ≤ d.tick)) ∧
    (Holds (fun d => d.power.phase = .up ∧ d.dip = false)) ∧
    (Holds (fun d => d.live = true ∧ d.dip = false)) :=
  ⟨⟨17999, { dev := up.put Reg.PWR_WARN.EFFECTIVE 0 180, pending := [] }, by decide +kernel⟩,
    ⟨17999, { dev := (up.put Reg.PWR_STAT.DIP 0 1).put Reg.PWR_WARN.EFFECTIVE 0 180, pending := [] }, by decide +kernel⟩,
    ⟨{ dev := { ((store.put Reg.PWR_STAT.DIP 0 1).put Reg.PWR_WARN.EFFECTIVE 0 180) with nvm := { NvmSt.init with save := some { area := 0, header := { time := 0, seq := 1, model := 0, kind := 0 }, cells := [] } } }, pending := [] },
      by decide +kernel⟩,
    ⟨18501, { dev := (up.put Reg.PWR_STAT.DIP 0 1).put Reg.PWR_WARN.EFFECTIVE 0 180, pending := [] }, by decide +kernel⟩,
    ⟨18501, 0,
      { dev := { ((late.put Reg.PWR_STAT.DIP 0 1).put Reg.PWR_WARN.EFFECTIVE 0 180) with power := { PowerSt.init with phase := .up, resumeTimer := some 0 } }, pending := [] },
      by decide +kernel⟩,
    ⟨{ dev := (late.put Reg.PWR_STAT.DIP 0 1).put Reg.PWR_CFG.DIP_SAFE 0 1, pending := [] }, by decide +kernel⟩,
    ⟨{ dev := up, pending := [] }, by decide +kernel⟩,
    ⟨{ dev := up, pending := [] }, by decide +kernel⟩⟩

theorem met_ResetRowsAct :
    (Holds (fun d => d.power.rstResetDue = true ∧ d.coreUp = true ∧ (d.nvm.save = none ∨ d.power.phase ≠ .up ∨ ∃ t, d.power.rstAt = some t ∧
      d.passedSince t 500 = true))) ∧
    (Holds (fun d => d.power.phase = .heldRst)) ∧
    (∃ vio : Nat, ∃ vcore : Nat, ∃ pg : Nat, ∃ c, Holds (fun d => (c = 1 ∧ vio < 2950 ∨ c = 2 ∧ 2950 ≤ vio ∧ (vcore < d.vcoreWindow.1 ∨
      d.vcoreWindow.2 < vcore) ∨ c = 3 ∧ 2950 ≤ vio ∧ d.vcoreWindow.1 ≤ vcore ∧ vcore ≤ d.vcoreWindow.2 ∧ ∃ r, 1 ≤ r ∧ r ≤ 3 ∧ pg.testBit r = false)
      ∧ (d.coreUp = true ∨ d.power.phase = .heldRst ∨ d.power.phase = .heldClkref))) ∧
    (Holds (fun d => d.coreUp = true)) ∧
    (Holds (fun d => d.power.phase = .heldClkref)) :=
  ⟨⟨{ dev := { up with power := { PowerSt.init with phase := .up, rstResetDue := true } }, pending := [] }, by decide +kernel⟩,
    ⟨{ dev := { State.reset.dev with power := { PowerSt.init with phase := .heldRst } }, pending := [] }, by decide +kernel⟩,
    ⟨2949, 0, 0, 1, { dev := up, pending := [] }, ⟨.inl (by decide), .inl (by decide +kernel)⟩⟩,
    ⟨{ dev := up, pending := [] }, by decide +kernel⟩,
    ⟨{ dev := { State.reset.dev with power := { PowerSt.init with phase := .heldClkref } }, pending := [] }, by decide +kernel⟩⟩

theorem met_PmbusRowsAct :
    (Holds (fun d => d.power.vout ≠ d.get Reg.PWR_VCORE.TARGET 0 ∧ d.pmbusDue 0x21 d.power.voutAt 100 = true)) ∧
    (Holds (fun d => d.pmbusDue 0x8B d.power.readAt 1000 = true)) ∧
    (Holds (fun d => d.tryDue = false ∧ d.pmbusDue 0x79 d.power.statusAt 10000 = true)) ∧
    (Holds (fun d => d.tryDue = true)) ∧
    (∃ m : PmbusResult, ∃ c, (m = .noAnswer ∧ c = 1 ∨ m = .pecMismatch ∧ c = 2) ∧ Holds (fun d => d.pmbusDue 0x8B d.power.readAt 1000 = true)) ∧
    (∃ c, Holds (fun d => d.tryDue = false ∧ d.pmbusOn = true ∧ c ≠ 0 ∧ d.pmbusCommand = c ∧ d.power.pmbusRetry ≠ c)) ∧
    (Holds (fun d => d.tryDue = false ∧ d.pmbusOn = true ∧ d.power.pmbusRetry ≠ 0)) :=
  ⟨⟨{ dev := ((late.put Reg.PWR_PMBUS.EN 0 1).put Reg.PWR_STAT.PMBUS_OK 0 1).put Reg.PWR_VCORE.TARGET 0 850, pending := [] }, by decide +kernel⟩,
    ⟨{ dev := (late.put Reg.PWR_PMBUS.EN 0 1).put Reg.PWR_STAT.PMBUS_OK 0 1, pending := [] }, by decide +kernel⟩,
    ⟨{ dev := (late.put Reg.PWR_PMBUS.EN 0 1).put Reg.PWR_STAT.PMBUS_OK 0 1, pending := [] }, by decide +kernel⟩,
    ⟨{ dev := { ((late.put Reg.PWR_PMBUS.EN 0 1).put Reg.PWR_STAT.PMBUS_OK 0 1) with power := { PowerSt.init with phase := .up, pmbusTrying := true, pmbusFault := 1 } }, pending := [] },
      by decide +kernel⟩,
    ⟨.noAnswer, 1, by decide, { dev := (late.put Reg.PWR_PMBUS.EN 0 1).put Reg.PWR_STAT.PMBUS_OK 0 1, pending := [] }, by decide +kernel⟩,
    ⟨0x8B, { dev := (late.put Reg.PWR_PMBUS.EN 0 1).put Reg.PWR_STAT.PMBUS_OK 0 1, pending := [] }, by decide +kernel⟩,
    ⟨{ dev := { ((late.put Reg.PWR_PMBUS.EN 0 1).put Reg.PWR_STAT.PMBUS_OK 0 1) with power := { PowerSt.init with phase := .up, pmbusRetry := 0x8B } }, pending := [] },
      by decide +kernel⟩⟩

theorem met_TickAndFrameRowsAct :
    (Holds (fun d => d.power.phase = .restored)) ∧
    (∃ v h, Holds (fun d => d.live = true ∧ d.frz.req = none ∧ (Dev.coreBoundary { d with tick := d.tick + 1 } v h).nvm.restart = false)) ∧
    (Holds (fun d => d.live = true ∧ d.tick % 16 = 0 ∧ d.scrubAt ≠ d.tick + 1)) ∧
    (∃ f w, Holds (fun d => d.upA = some f ∧ d.live = true ∧ d.isSet Reg.GLOBAL_FAULT_STAT.STOPPED_A 0 = false ∧ frameCheck (upFrameBytes f) w
      d.tick = 0)) ∧
    (∃ f w, Holds (fun d => d.upB = some f ∧ d.live = true ∧ d.dieFitted 1 = true ∧ d.isSet Reg.GLOBAL_FAULT_STAT.STOPPED_B 0 = false ∧ frameCheck
      (upFrameBytes f) w d.tick = 0)) ∧
    (∃ f w, Holds (fun d => d.upA = some f ∧ d.live = true ∧ d.isSet Reg.GLOBAL_FAULT_STAT.STOPPED_A 0 = false ∧ frameCheck (upFrameBytes f) w
      d.tick = 1)) ∧
    (∃ f w, Holds (fun d => d.upB = some f ∧ d.live = true ∧ d.dieFitted 1 = true ∧ d.isSet Reg.GLOBAL_FAULT_STAT.STOPPED_B 0 = false ∧ frameCheck
      (upFrameBytes f) w d.tick = 1)) ∧
    (∃ f w, Holds (fun d => d.upA = some f ∧ d.live = true ∧ d.isSet Reg.GLOBAL_FAULT_STAT.STOPPED_A 0 = false ∧ 1 < frameCheck (upFrameBytes f) w
      d.tick)) ∧
    (∃ k, Holds (fun d => k < 2 ∧ d.live = true ∧ d.dieFitted k = true ∧ d.isSet Reg.FIELD_STAT.BARRIER_DOWN k = false ∧ d.get
      Reg.FIELD_CFG.HOLD_WIN k ≤ d.upMiss k)) ∧
    (∃ f w, Holds (fun d => d.downA = some f ∧ d.dieLive 0 = true ∧ d.dieA.intOsc = false ∧ frameCheck (downFrameBytes f) w (d.dieA.tick + 1) =
      0)) ∧
    (∃ f w, Holds (fun d => d.downB = some f ∧ d.dieLive 1 = true ∧ d.dieB.intOsc = false ∧ frameCheck (downFrameBytes f) w (d.dieB.tick + 1) =
      0)) ∧
    (∃ f w, Holds (fun d => d.downA = some f ∧ d.dieLive 0 = true ∧ d.dieA.intOsc = true ∧ frameCheck (downFrameBytes f) w f.apply = 0)) ∧
    (∃ f w, Holds (fun d => d.downA = some f ∧ d.dieLive 0 = true ∧ frameCheck (downFrameBytes f) w (if d.dieA.intOsc then f.apply else
      d.dieA.tick + 1) ≠ 0)) ∧
    (∃ k, Holds (fun d => k < 2 ∧ d.dieLive k = true ∧ (d.fd k).frame = none)) ∧
    (∃ k f, Holds (fun d => k < 2 ∧ d.dieLive k = true ∧ (d.fd k).frame = some f)) ∧
    (∃ f, Holds (fun d => d.upA = some f ∧ d.live = true ∧ d.isSet Reg.GLOBAL_FAULT_STAT.STOPPED_A 0 = false)) ∧
    (∃ f, Holds (fun d => d.downB = some f ∧ d.dieLive 1 = true)) :=
  ⟨⟨{ dev := { State.reset.dev with power := { PowerSt.init with phase := .restored } }, pending := [] }, by decide +kernel⟩,
    ⟨24000, 24000, { dev := up, pending := [] }, by decide +kernel⟩,
    ⟨{ dev := up, pending := [] }, by decide +kernel⟩,
    ⟨upOf, 0, { dev := { up with upA := some upOf }, pending := [] }, by decide +kernel⟩,
    ⟨upOf, 0, { dev := { up with upB := some upOf }, pending := [] }, by decide +kernel⟩,
    ⟨upOf, 1, { dev := { up with upA := some upOf }, pending := [] }, by decide +kernel⟩,
    ⟨upOf, 1, { dev := { up with upB := some upOf }, pending := [] }, by decide +kernel⟩,
    ⟨{ upOf with latch := 2 }, 0, { dev := { up with upA := some { upOf with latch := 2 } }, pending := [] }, by decide +kernel⟩,
    ⟨1, { dev := { up with upMissB := 20 }, pending := [] }, by decide +kernel⟩,
    ⟨downOf 1, 0, { dev := { up with downA := some (downOf 1) }, pending := [] }, by decide +kernel⟩,
    ⟨downOf 1, 0, { dev := { up with downB := some (downOf 1) }, pending := [] }, by decide +kernel⟩,
    ⟨downOf 9, 0, { dev := { up with downA := some (downOf 9), dieA := { up.dieA with intOsc := true } }, pending := [] }, by decide +kernel⟩,
    ⟨downOf 1, 1, { dev := { up with downA := some (downOf 1) }, pending := [] }, by decide +kernel⟩,
    ⟨1, { dev := up, pending := [] }, by decide +kernel⟩,
    ⟨1, downOf 1, { dev := { up with dieB := { up.dieB with frame := some (downOf 1) } }, pending := [] }, by decide +kernel⟩,
    ⟨upOf, { dev := { up with upA := some upOf }, pending := [] }, by decide +kernel⟩,
    ⟨downOf 1, { dev := { up with downB := some (downOf 1) }, pending := [] }, by decide +kernel⟩⟩

theorem met_FieldStateRowsAct :
    (∃ k, Holds (fun d => k < 2 ∧ d.dieLive k = true ∧ ((d.fd k).state = .hold ∨ (d.fd k).state = .dipHold) ∧ d.dget Reg.FIELD_CFG.HOLD_WIN k <
      (d.fd k).held)) ∧
    (∃ k, Holds (fun d => k < 2 ∧ d.dieLive k = true ∧ (d.fd k).state = .freezeHold ∧ 1000 * d.dget Reg.FIELD_FRZ_HOLD.LIMIT k ≤ (d.fd k).held)) ∧
    (∃ k, Holds (fun d => k < 2 ∧ d.dieFitted k = true)) ∧
    (∃ k, Holds (fun d => k < 2 ∧ d.dieFitted k = true ∧ (d.fd k).vf24Low = false)) ∧
    (∃ k, Holds (fun d => k < 2 ∧ d.dieFitted k = true ∧ (d.fd k).vf24Low = true)) ∧
    (∃ k o, Holds (fun d => k < 2 ∧ d.dieLive k = true ∧ d.resumes.find? (fun y => y.die == k) = some o ∧ o.since + 10000 ≤ (d.fd k).bounds)) :=
  ⟨⟨1, { dev := { up with dieB := { up.dieB with state := .hold, held := 21 } }, pending := [] }, by decide +kernel⟩,
    ⟨1, { dev := { up with dieB := { up.dieB with state := .freezeHold, held := 100000000 } }, pending := [] }, by decide +kernel⟩,
    ⟨1, { dev := up, pending := [] }, by decide +kernel⟩,
    ⟨1, { dev := up, pending := [] }, by decide +kernel⟩,
    ⟨1, { dev := { up with dieB := { up.dieB with vf24Low := true } }, pending := [] }, by decide +kernel⟩,
    ⟨1, { id := 5, die := 1, since := 0, taken := true },
      { dev := { up with dieB := { up.dieB with bounds := 10000 }, resumes := [{ id := 5, die := 1, since := 0, taken := true }] }, pending := [] },
      by decide +kernel⟩⟩

theorem met_DigitalRowsAct :
    (∃ i, Holds (fun d => i < d.classCount clsDI ∧ d.dieLive (dieOf clsDI i) = true ∧ d.disSet Reg.DI_CFG.PULSED i = true)) ∧
    (∃ i mv ua, Holds (fun d => i < d.classCount clsDI ∧ d.dieLive (dieOf clsDI i) = true ∧ (d.diAt i).level ≠ d.diSample i mv ua ∧ d.disSet
      Reg.DI_CFG.PULSED i = false ∧ d.disSet Reg.DI_CFG.WIREBREAK i = true ∧ (diBad (d.diAt i).level || diBad (d.diSample i mv ua)) = true)) ∧
    (∃ i mv ua, Holds (fun d => i < d.classCount clsDI ∧ d.dieLive (dieOf clsDI i) = true ∧ (d.diAt i).level ≠ d.diSample i mv ua ∧ d.disSet
      Reg.DI_CFG.PULSED i = false ∧ diBad (d.diAt i).level = false ∧ diBad (d.diSample i mv ua) = false)) ∧
    (∃ i, Holds (fun d => i < d.classCount clsDI ∧ d.dieLive (dieOf clsDI i) = true ∧ (d.diAt i).level ≠ (d.diAt i).cand ∧ d.disSet
      Reg.DI_CFG.PULSED i = true ∧ d.diPulsedRun i ≤ (d.diAt i).run ∧ d.disSet Reg.DI_CFG.WIREBREAK i = false)) ∧
    (∃ o, Holds (fun d => o < d.classCount clsDO ∧ d.dieLive (dieOf clsDO o) = true ∧ (d.doAt (d.doBase o)).on = true)) ∧
    (∃ o, Holds (fun d => o < d.classCount clsDO ∧ d.dieLive (dieOf clsDO o) = true ∧ (d.doAt (d.doBase o)).on = true)) ∧
    (∃ o, Holds (fun d => o < d.classCount clsDO ∧ d.dieLive (dieOf clsDO o) = true ∧ (d.doAt (d.doBase o)).waiting = true ∧ ((d.doAt (d.doBase
      o)).state = .overload ∨ (d.doAt (d.doBase o)).state = .shortGnd) ∧ (d.doAt (d.doBase o)).since + 10000 * d.dget Reg.DO_CFG.RETRY_INT (d.doBase
      o) ≤ (d.fd (dieOf clsDO o)).bounds)) ∧
    (∃ o, Holds (fun d => o < d.classCount clsDO ∧ d.dieLive (dieOf clsDO o) = true ∧ (d.doAt (d.doBase o)).on = true ∧ ((d.doAt (d.doBase
      o)).state = .overload ∨ (d.doAt (d.doBase o)).state = .shortGnd) ∧ (d.doAt (d.doBase o)).since + 100000 ≤ (d.fd (dieOf clsDO o)).bounds)) ∧
    (∃ o, Holds (fun d => o < d.classCount clsDO ∧ d.dieLive (dieOf clsDO o) = true ∧ (d.doAt (d.doBase o)).cmd = false ∧ (d.doAt (d.doBase
      o)).state ≠ .forcedHigh)) ∧
    (∃ o, Holds (fun d => o < d.classCount clsDO ∧ d.dieLive (dieOf clsDO o) = true ∧ d.disSet Reg.DO_CFG.OPEN_DETECT (d.doBase o) = true ∧
      (d.doAt (d.doBase o)).on = true ∧ (d.doAt (d.doBase o)).state = .ok)) ∧
    (∃ o, Holds (fun d => o < d.classCount clsDO ∧ d.dieLive (dieOf clsDO o) = true ∧ (d.doAt (d.doBase o)).on = true ∧ (d.doAt (d.doBase
      o)).state = .openLoad)) ∧
    (∃ k i, Holds (fun d => k < 2 ∧ d.dieLive k = true ∧ (d.fd k).darkOn = true ∧ (d.fd k).state = .run ∧ (d.fd k).dark = none ∧ (d.fd k).darkNow
      = none ∧ ((d.fd k).darkTestAt = 0 ∨ (d.fd k).darkTestAt + 1000 * (d.fd k).darkInt ≤ (d.fd k).bounds) ∧ (d.setFd k
      { d.fd k with darkTestAt := (d.fd k).bounds }).darkFrom k (d.fd k).darkNext = some i)) ∧
    (∃ k i, ∃ fell : List Nat, Holds (fun d => (d.fd k).dark = some i ∧ d.dieLive k = true ∧ (d.fd k).darkPair = none ∧ (d.fd k).darkPulse = true
      ∧ (d.fd k).darkAt + 10 ≤ (d.fd k).bounds ∧ fell.contains i = true)) ∧
    (∃ k i j, ∃ fell : List Nat, Holds (fun d => (d.fd k).dark = some i ∧ d.dieLive k = true ∧ (d.fd k).darkPair = none ∧ (d.fd k).darkPulse =
      true ∧ (d.fd k).darkAt + 10 ≤ (d.fd k).bounds ∧ fell.contains i = false ∧ d.pairFrom k i 0 = some j)) ∧
    (∃ k i j, Holds (fun d => (d.fd k).dark = some i ∧ (d.fd k).darkPair = some j ∧ d.dieLive k = true ∧ (d.fd k).darkPulse = true ∧ (d.fd
      k).darkAt + 10 ≤ (d.fd k).bounds)) ∧
    (∃ k i j j2, Holds (fun d => (d.fd k).dark = some i ∧ (d.fd k).darkPair = some j ∧ d.dieLive k = true ∧ (d.fd k).darkPulse = true ∧ (d.fd
      k).darkAt + 10 ≤ (d.fd k).bounds ∧ ((d.darkRestore (globalOf clsDO k i)).darkRestore (globalOf clsDO k j)).pairFrom k i (j + 1) = some j2)) ∧
    (∃ f, Holds (fun d => f < d.classCount clsFLOAT ∧ ((d.floatAt f).drive = .opening ∨ (d.floatAt f).drive = .closing) ∧ d.floatDone f = true)) ∧
    (∃ f, Holds (fun d => f < d.classCount clsFLOAT ∧ (d.floatAt f).drive = .deadTime ∧ (d.floatAt f).safe = false)) ∧
    (∃ f, Holds (fun d => f < d.classCount clsFLOAT ∧ (d.floatAt f).drive = .deadTime ∧ (d.floatAt f).safe = true)) ∧
    (∃ f, Holds (fun d => f < d.classCount clsFLOAT ∧ d.dieLive (dieOf clsFLOAT f) = true ∧ d.disSet Reg.FLOAT_CFG.ENABLE f = true ∧ (d.floatAt
      f).fault = false)) :=
  ⟨⟨127, { dev := up.dput Reg.DI_CFG.PULSED 127 1, pending := [] }, by decide +kernel⟩,
    ⟨127, 0, 20000, { dev := up.dput Reg.DI_CFG.WIREBREAK 127 1, pending := [] }, by decide +kernel⟩,
    ⟨127, 24000, 5000, { dev := up, pending := [] }, by decide +kernel⟩,
    ⟨127, { dev := { (up.dput Reg.DI_CFG.PULSED 127 1) with dis := [(127, { level := .off, cand := .on, run := 1000 })] }, pending := [] }, by
      decide +kernel⟩,
    ⟨63, { dev := up.setDo 63 { DoSt.init with on := true }, pending := [] }, by decide +kernel⟩,
    ⟨63, { dev := up.setDo 63 { DoSt.init with on := true }, pending := [] }, by decide +kernel⟩,
    ⟨63, { dev := late.setDo 63 { DoSt.init with state := .overload, waiting := true }, pending := [] }, by decide +kernel⟩,
    ⟨63, { dev := late.setDo 63 { DoSt.init with state := .shortGnd, on := true }, pending := [] }, by decide +kernel⟩,
    ⟨63, { dev := up, pending := [] }, by decide +kernel⟩,
    ⟨63, { dev := (up.setDo 63 { DoSt.init with on := true }).dput Reg.DO_CFG.OPEN_DETECT 63 1, pending := [] }, by decide +kernel⟩,
    ⟨63, { dev := up.setDo 63 { DoSt.init with on := true, state := .openLoad }, pending := [] }, by decide +kernel⟩,
    ⟨1, 31,
      { dev := { ((up.setDo 63 { DoSt.init with on := true }).dput Reg.DO_CFG.DARK 63 1) with dieB := { up.dieB with darkOn := true } }, pending := [] },
      by decide +kernel⟩,
    ⟨1, 31, [31],
      { dev := { ((up.setDo 62 { DoSt.init with on := true }).setDo 63 { DoSt.init with on := true }) with dieB := { up.dieB with dark := some 31, darkPulse := true, bounds := 10 } }, pending := [] },
      by decide +kernel⟩,
    ⟨1, 31, 30, [30],
      { dev := { ((up.setDo 62 { DoSt.init with on := true }).setDo 63 { DoSt.init with on := true }) with dieB := { up.dieB with dark := some 31, darkPulse := true, bounds := 10 } }, pending := [] },
      by decide +kernel⟩,
    ⟨1, 31, 30,
      { dev := { ((up.setDo 62 { DoSt.init with on := true }).setDo 63 { DoSt.init with on := true }) with dieB := { up.dieB with dark := some 31, darkPulse := true, bounds := 10, darkPair := some 30 } }, pending := [] },
      by decide +kernel⟩,
    ⟨1, 31, 29, 30,
      { dev := { ((up.setDo 62 { DoSt.init with on := true }).setDo 63 { DoSt.init with on := true }) with dieB := { up.dieB with dark := some 31, darkPulse := true, bounds := 10, darkPair := some 29 } }, pending := [] },
      by decide +kernel⟩,
    ⟨31, { dev := up.setFloat 31 { FloatSt.init with drive := .closing, safe := true, ran := 1000000000 }, pending := [] }, by decide +kernel⟩,
    ⟨31, { dev := up.setFloat 31 { FloatSt.init with drive := .deadTime }, pending := [] }, by decide +kernel⟩,
    ⟨31, { dev := up.setFloat 31 { FloatSt.init with drive := .deadTime, safe := true }, pending := [] }, by decide +kernel⟩,
    ⟨31, { dev := up.dput Reg.FLOAT_CFG.ENABLE 31 1, pending := [] }, by decide +kernel⟩⟩

theorem met_PositionRowsAct :
    (∃ p held, ∃ step : QuadStep, step ≠ .both ∧ Holds (fun d => d.posIn p posINC = true ∧ d.dget Reg.POS_CFG.FILT p ≤ held)) ∧
    (∃ p held, Holds (fun d => d.posIn p posINC = true ∧ d.dget Reg.POS_CFG.FILT p ≤ held)) ∧
    (∃ p held, Holds (fun d => d.posIn p posINC = true ∧ d.disSet Reg.POS_CFG.INDEX p = true ∧ d.dget Reg.POS_CFG.FILT p ≤ held ∧ (d.posAt
      p).homeArmed = true ∧ d.disSet Reg.POS_CFG.HOME p = true ∧ d.disSet Reg.POS_CHECK.AT_START p = false)) ∧
    (∃ p c id, Holds (fun d => (d.posAt p).check = some c ∧ c.desc = some id ∧ d.samplesPassed (dieOf clsPOS p) c.since (d.posCheckLimit id) =
      true)) ∧
    (∃ p, Holds (fun d => d.posIn p posSER = true ∧ (d.posAt p).readAt = none ∧ (d.posAt p).readOn ≠ (d.fd (dieOf clsPOS p)).bounds + 1 ∧ (d.fd
      (dieOf clsPOS p)).tick % max 1 (d.dget Reg.POS_SER2.READ_INT p) = 0)) ∧
    (∃ p, ∃ a : Bool, ∃ cs : List Bool, ∃ n t, Holds (fun d => (d.posAt p).readAt = some t ∧ d.posIn p posSER = true ∧ d.disSet
      Reg.POS_SER.TRAILER p = false ∧ d.disSet Reg.POS_SER.GRAY p = false ∧ serialLead (d.disSet Reg.POS_SER.START p) (a :: cs) = some n ∧ (n - 1) *
      d.dget Reg.POS_SER.CLKDIV p ≤ 200 * d.dget Reg.POS_SER2.TIMEOUT p ∧ n + d.dget Reg.POS_SER.BITS p ≤ (a :: cs).length)) ∧
    (∃ p t, Holds (fun d => d.posIn p posSER = true ∧ (d.posAt p).readAt = some t ∧ d.samplesPassed (dieOf clsPOS p) t (200 * d.dget
      Reg.POS_SER2.TIMEOUT p) = true)) ∧
    (∃ p, Holds (fun d => (d.posIn p posINC = true ∨ d.posIn p posSER = true) ∧ (d.posAt p).valid = true ∧ d.samplesPassed (dieOf clsPOS p)
      (((d.posAt p).edges.head?).getD (d.posAt p).validAt) (200000 * d.dget Reg.POS_STANDSTILL.TIME p) = true)) ∧
    (∃ e t, Holds (fun d => e < d.classCount clsEMU ∧ d.dieLive (dieOf clsEMU e) = true ∧ d.disSet Reg.EMU_CFG.ENABLE e = true ∧ (d.fd (dieOf
      clsEMU e)).state ≠ .safe ∧ (d.fd (dieOf clsEMU e)).state ≠ .startup ∧ d.emuReady e ((d.fd (dieOf clsEMU e)).clock + t) = true ∧ d.forceOf
      (handle clsEMU e) = none ∧ (d.emuAt e).sourceFault = false ∧ (d.emuTarget e - (d.emuAt e).output).sign ≠ 0)) ∧
    (∃ e t r, Holds (fun d => e < d.classCount clsEMU ∧ d.dieLive (dieOf clsEMU e) = true ∧ d.disSet Reg.EMU_CFG.ENABLE e = true ∧ (d.fd (dieOf
      clsEMU e)).state ≠ .safe ∧ (d.fd (dieOf clsEMU e)).state ≠ .startup ∧ d.emuReady e ((d.fd (dieOf clsEMU e)).clock + t) = true ∧ d.forceOf
      (handle clsEMU e) = some r ∧ (signedOf 32 r).sign ≠ 0)) :=
  ⟨⟨7, 400, .bLeads, by decide, { dev := up.dput Reg.POS_CFG.MODE 7 1, pending := [] }, by decide +kernel⟩,
    ⟨7, 400, { dev := up.dput Reg.POS_CFG.MODE 7 1, pending := [] }, by decide +kernel⟩,
    ⟨7, 400,
      { dev := ((((up.dput Reg.POS_CFG.MODE 7 1).setPos 7 { PosSt.init with homeArmed := true }).dput Reg.POS_CFG.INDEX 7 1).dput Reg.POS_CFG.HOME 7 1).dput Reg.POS_CHECK.AT_START 7 0, pending := [] },
      by decide +kernel⟩,
    ⟨7, { trigger := 1, desc := some 5, since := 0, base := none, reversed := false, good := 0 }, 5,
      { dev := late.setPos 7 { PosSt.init with check := some { trigger := 1, desc := some 5, since := 0, base := none, reversed := false, good := 0 } }, pending := [] },
      by decide +kernel⟩,
    ⟨7, { dev := up.dput Reg.POS_CFG.MODE 7 2, pending := [] }, by decide +kernel⟩,
    ⟨7, false, List.replicate 40 true, 2, 5,
      { dev := ((((late.dput Reg.POS_CFG.MODE 7 2).setPos 7 { PosSt.init with readAt := some 5 }).dput Reg.POS_SER.TRAILER 7 0).dput Reg.POS_SER.GRAY 7 0).dput Reg.POS_SER.START 7 1, pending := [] },
      by decide +kernel⟩,
    ⟨7, 5, { dev := (late.dput Reg.POS_CFG.MODE 7 2).setPos 7 { PosSt.init with readAt := some 5 }, pending := [] }, by decide +kernel⟩,
    ⟨7, { dev := (late.dput Reg.POS_CFG.MODE 7 2).setPos 7 { PosSt.init with valid := true }, pending := [] }, by decide +kernel⟩,
    ⟨3, 0, { dev := (late.setEmu 3 { EmuSt.init with out0 := -1 }).dput Reg.EMU_CFG.ENABLE 3 1, pending := [] }, by decide +kernel⟩,
    ⟨3, 0, 1, { dev := { (late.dput Reg.EMU_CFG.ENABLE 3 1) with forces := [(handle clsEMU 3, some 1)] }, pending := [] }, by decide +kernel⟩⟩

theorem met_ConverterRowsAct :
    (∃ c, Holds (fun d => d.convHere c = true ∧ d.dieLive (convDie c) = true ∧ d.oddOfPair c = false ∧ d.isSet Reg.CONV_CTRL.RUN c = true ∧
      (d.conv c).calibrating = false ∧ (d.conv c).passing = false ∧ d.passDue c = true ∧ ((d.setConv c
      { d.conv c with passAt := d.convBounds c + 1, passOwed := false }).beginPass c).1 = true)) ∧
    (∃ c, Holds (fun d => d.convHere c = true ∧ d.dieLive (convDie c) = true ∧ d.oddOfPair c = false ∧ d.isSet Reg.CONV_CTRL.RUN c = true ∧
      (d.conv c).passing = true ∧ d.get Reg.CONV_CTRL.PASS_INT c ≠ 0 ∧ d.passDue c = true)) ∧
    (∃ c v, Holds (fun d => d.convHere c = true ∧ d.dieLive (convDie c) = true ∧ (d.conv c).passing = true ∧ (d.conv c).calibrating = false ∧
      (d.conv c).burst ≤ d.convBounds c ∧ d.oddOfPair c = false ∧ (d.conv c).urgent = none ∧ (d.conv c).visit = some v ∧ d.channelOff v.ch = false ∧
      d.inSwitchWindow v.ch (d.conv c).started = false ∧ d.meas.reopen.contains (c, v.ch) = false ∧ (d.conv c).remain = 0)) ∧
    (∃ c v, Holds (fun d => d.convHere c = true ∧ d.dieLive (convDie c) = true ∧ (d.conv c).passing = true ∧ (d.conv c).calibrating = false ∧
      (d.conv c).burst ≤ d.convBounds c ∧ d.oddOfPair c = false ∧ (d.conv c).urgent = none ∧ (d.conv c).visit = some v ∧ d.channelOff v.ch = true)) ∧
    (∃ c u t, Holds (fun d => d.convHere c = true ∧ d.dieLive (convDie c) = true ∧ (d.conv c).urgent = none ∧ (d.conv c).calibrating = false ∧
      d.calNext (convDie c) ≠ some c ∧ (d.conv c).burst ≤ d.convBounds c ∧ (d.conv c).queue = u :: t)) ∧
    (∃ c u id, Holds (fun d => (d.conv c).urgent = some u ∧ u.origin = .host id ∧ d.convHere c = true ∧ d.dieLive (convDie c) = true ∧
      d.channelOff u.ch = false ∧ d.inSwitchWindow u.ch (d.convBounds c) = false)) ∧
    (Holds (fun d => d.live = true ∧ d.get Reg.MEAS_CFG.RECAL_INT 0 ≠ 0 ∧ d.meas.calAt + d.get Reg.MEAS_CFG.RECAL_INT 0 * 360000000 ≤ d.tick)) ∧
    (∃ c, Holds (fun d => d.convHere c = true ∧ d.dieLive (convDie c) = true ∧ (d.conv c).calibrating = true ∧ (d.conv c).calSince + 1200 ≤
      d.convBounds c ∧ d.get Reg.CAL_GAIN.GAIN c ≠ 0)) ∧
    (∃ g t o, Holds (fun d => d.meas.caps.find? (fun o => o.group == g) = some o ∧ d.capDue o t = true ∧ ((groupConvs g).all fun c => d.dieLive
      (convDie c)) = true)) ∧
    (∃ g o, Holds (fun d => d.meas.caps.find? (fun o => o.group == g && o.triggered && !o.stopping && o.streamA.isEmpty && o.streamB.isEmpty) =
      some o ∧ d.capOnWay = false)) ∧
    (∃ g o, Holds (fun d => d.meas.caps.find? (fun o => o.group == g && o.kind == 1 && !o.triggered && !o.stopping && decide (o.armed + 100000 ≤
      d.tick)) = some o)) ∧
    (∃ n w, Holds (fun d => n < d.classCount clsMSLOT ∧ d.dieLive (dieOf clsMSLOT n) = true ∧ d.get Reg.CONV_STALE.STALE_TICKS (n / 64) ≠ 0 ∧
      d.get Reg.CONV_STALE.STALE_TICKS (n / 64) ≤ (d.fd (dieOf clsMSLOT n)).bounds + 1 - max 1 (Map.get d.meas.slotAt n 0) ∧ d.measWord (handle
      clsMSLOT n) = some w ∧ Map.get (Map.set d.meas.words (handle clsMSLOT n) (some (w.mark stSTALE)) none) (d.get Reg.ENTRY_A.CHANNEL n) none =
      none)) ∧
    (∃ u, Holds (fun d => u < d.classCount clsUI ∧ d.dieLive (dieOf clsUI u) = true ∧ d.uiMode u = modeMA20 ∧ d.disconnected u = false)) ∧
    (∃ u, Holds (fun d => d.disconnected u = true ∧ Map.get d.meas.disconnected u 0 + 100000 ≤ (d.fd (dieOf clsUI u)).bounds + 1)) ∧
    (Holds (fun d => d.live = true)) :=
  ⟨⟨7,
      { dev := (((late.setConv 7 { ConvSt.init with powered := true }).put Reg.CONV_CTRL.RUN 7 1).put Reg.CONV_CTRL.LAST 7 63).put Reg.ENTRY_A.CHANNEL 511 (handle clsINTL 31), pending := [] },
      by decide +kernel⟩,
    ⟨7,
      { dev := ((late.setConv 7 { ConvSt.init with passing := true }).put Reg.CONV_CTRL.RUN 7 1).put Reg.CONV_CTRL.PASS_INT 7 1, pending := [] }, by
      decide +kernel⟩,
    ⟨7, { entry := 63, ch := handle clsINTL 31, gain := 4, osr := 5, outs := 16 },
      { dev := late.setConv 7 { ConvSt.init with passing := true, visit := some { entry := 63, ch := handle clsINTL 31, gain := 4, osr := 5, outs := 16 } }, pending := [] },
      by decide +kernel⟩,
    ⟨7, { entry := 63, ch := handle clsUI 63, gain := 4, osr := 5, outs := 16 },
      { dev := late.setConv 7 { ConvSt.init with passing := true, visit := some { entry := 63, ch := handle clsUI 63, gain := 4, osr := 5, outs := 16 } }, pending := [] },
      by decide +kernel⟩,
    ⟨7, { origin := .host 5, ch := handle clsINTL 31, gain := 4, osr := 5, acq := 0 }, [],
      { dev := late.setConv 7 { ConvSt.init with queue := [{ origin := .host 5, ch := handle clsINTL 31, gain := 4, osr := 5, acq := 0 }] }, pending := [] },
      by decide +kernel⟩,
    ⟨7, { origin := .host 5, ch := handle clsINTL 31, gain := 4, osr := 5, acq := 0 }, 5,
      { dev := late.setConv 7 { ConvSt.init with urgent := some { origin := .host 5, ch := handle clsINTL 31, gain := 4, osr := 5, acq := 0 } }, pending := [] },
      by decide +kernel⟩,
    ⟨{ dev := late.put Reg.MEAS_CFG.RECAL_INT 0 1, pending := [] }, by decide +kernel⟩,
    ⟨7, { dev := (late.setConv 7 { ConvSt.init with calibrating := true }).put Reg.CAL_GAIN.GAIN 7 0x20000000, pending := [] }, by decide +kernel⟩,
    ⟨2, 0, capOf, { dev := { late with meas := { MeasSt.init with caps := [capOf] } }, pending := [] }, by decide +kernel⟩,
    ⟨2, { capOf with triggered := true },
      { dev := { late with meas := { MeasSt.init with caps := [{ capOf with triggered := true }] } }, pending := [] }, by decide +kernel⟩,
    ⟨2, { capOf with kind := 1 }, { dev := { late with meas := { MeasSt.init with caps := [{ capOf with kind := 1 }] } }, pending := [] }, by
      decide +kernel⟩,
    ⟨511, { value := 0, status := 0, stamp := 0 },
      { dev := { (late.put Reg.CONV_STALE.STALE_TICKS 7 1) with meas := { MeasSt.init with words := [(handle clsMSLOT 511, some { value := 0, status := 0, stamp := 0 })] } }, pending := [] },
      by decide +kernel⟩,
    ⟨63, { dev := up.dput Reg.UI_MODE.MODE 63 4, pending := [] }, by decide +kernel⟩,
    ⟨63, { dev := { late with meas := { MeasSt.init with disconnected := [(63, 1)] } }, pending := [] }, by decide +kernel⟩,
    ⟨{ dev := up, pending := [] }, by decide +kernel⟩⟩

theorem met_PatternRowsAct :
    (Holds (fun d => d.live = true ∧ d.nvm.noControl = false ∧ d.modelValid = true ∧ startTick d.patHeader d.tick = true ∧ d.pat.startAt ≠ d.tick
      + 1 ∧ d.dip = false ∧ d.power.resumeDue = false ∧ d.pat.pub = none ∧ d.pat.predicting = none)) ∧
    (∃ p, Holds (fun d => d.pat.pub = some p ∧ d.live = true ∧ p.due ≤ d.tick)) ∧
    (∃ st due m d1 x d2, Holds (fun d => d.pat.predicting = some (st, due) ∧ d.live = true ∧ due ≤ d.tick ∧ Dev.readTables
      { d with pat := { d.pat with predicting := none } } = ((some m, none), d1) ∧ d1.readState = (some x, d2))) ∧
    (∃ m d1, Holds (fun d => d.controlling = true ∧ d.modelValid = true ∧ d.pat.run = true ∧ startTick d.patHeader (d.tick + 500) = true ∧
      d.pat.urgentAt ≠ d.tick + 1 ∧ Dev.readTables { d with pat := { d.pat with urgentAt := d.tick + 1 } } = ((some m, none), d1))) ∧
    (∃ p rest done r, Holds (fun d => d.pat.preds = p :: rest ∧ d.pat.predBase = some done ∧ d.controlling = true ∧ d.pat.run = true ∧ d.pat.pub =
      none ∧ d.pat.predicting = none ∧ d.isSet Reg.PAT_STAT.TABLE_FAULT 0 = false ∧ d.rec? p.id = some r)) ∧
    (Holds (fun d => d.controlling = true ∧ d.modelValid = true ∧ d.multDue = true)) :=
  ⟨⟨{ dev := { (late.put Reg.PAT_STAT.MODEL_VALID 0 1) with pat := { PatSt.init with run := true, shape := { header := List.replicate 8 0 ++ [1, 0, 1] ++ List.replicate 21 0, nodes := [], slots := [], sources := [] } } }, pending := [] },
      by decide +kernel⟩,
    ⟨pubOf, { dev := { (late.put Reg.PAT_STAT.MODEL_VALID 0 1) with pat := { PatSt.init with run := true, pub := some pubOf } }, pending := [] },
      by decide +kernel⟩,
    by
      have hs : (Dev.readTables { predicts with pat := { predicts.pat with predicting := none } }).2.readState.1.isSome = true := by decide +kernel
      obtain ⟨m, d1, h⟩ := tablesRead { predicts with pat := { predicts.pat with predicting := none } } (by decide +kernel) (by decide +kernel)
      rw [h] at hs
      obtain ⟨x, hx⟩ := Option.isSome_iff_exists.mp hs
      exact ⟨9, 0, m, d1, x, d1.readState.2, { dev := predicts, pending := [] }, rfl, by decide +kernel, by decide, h, Prod.ext hx rfl⟩,
    by
      obtain ⟨m, d1, h⟩ := tablesRead { issues with pat := { issues.pat with urgentAt := issues.tick + 1 } } (by decide +kernel) (by decide +kernel)
      exact ⟨m, d1, { dev := issues, pending := [] }, by decide +kernel, by decide +kernel, by decide +kernel, by decide +kernel, by decide +kernel, h⟩,
    ⟨predOf, [], 9, target 0x0502 .running,
      { dev := { (late.put Reg.PAT_STAT.MODEL_VALID 0 1) with recs := [target 0x0502 .running], pat := { PatSt.init with preds := [predOf], predBase := some 9, run := true } }, pending := [] },
      by decide +kernel⟩,
    ⟨{ dev := late.put Reg.PAT_STAT.MODEL_VALID 0 1, pending := [] }, by decide +kernel⟩⟩

theorem met_LoopAndScheduleRowsAct :
    (∃ l, Holds (fun d => l < 512 ∧ d.loopsRun = true ∧ d.loopTurns l = false ∧ (d.loop l).state ≠ .idle ∧ (d.loop l).at_ ≠ some d.tick ∧ 0 < lpP
      (d.loopBlock l) ∧ lpPhase (d.loopBlock l) ≤ d.tick ∧ (d.tick - lpPhase (d.loopBlock l)) % lpP (d.loopBlock l) = 0)) ∧
    (∃ l c e, Holds (fun d => l < 512 ∧ d.loopsRun = true ∧ d.loopTurns l = false ∧ (d.loop l).state ≠ .idle ∧ (d.loop l).urgAt ≠ some d.tick ∧
      lpUrgent (d.loopBlock l) = true ∧ 0 < lpP (d.loopBlock l) ∧ lpPhase (d.loopBlock l) ≤ d.tick + 1 + lpLead (d.loopBlock l) ∧ (d.tick + 1 +
      lpLead (d.loopBlock l) - lpPhase (d.loopBlock l)) % lpP (d.loopBlock l) = 0 ∧ d.entryFor (lpFb (d.loopBlock l) % 2 ^ 20) = some (c, e))) ∧
    (∃ l o, Holds (fun d => d.live = true ∧ d.eng.sets.find? (fun o => o.slot == l && o.stage == 1) = some o ∧ o.checkedAt < d.tick)) ∧
    (∃ l r, Holds (fun d => d.live = true ∧ d.eng.removals.find? (fun r => r.2.1 == l) = some r ∧ r.2.2 < d.tick)) ∧
    (Holds (fun d => d.controlling = true ∧ d.tick % 1000 = 0 ∧ d.sched.evalAt ≠ some d.tick)) ∧
    (∃ z, Holds (fun d => d.live = true ∧ z < 128)) ∧
    (∃ z, Holds (fun d => d.controlling = true ∧ z < 128)) :=
  ⟨⟨511, { dev := looping, pending := [] }, by decide +kernel⟩,
    ⟨511, 7, 63, { dev := { (looping.put Reg.ENTRY_A.CHANNEL 511 (handle clsINTL 31)) with tick := 0 }, pending := [] }, by decide +kernel⟩,
    ⟨511, setOf, { dev := { up with tick := 1, eng := { LoopEng.init with sets := [setOf] } }, pending := [] }, by decide +kernel⟩,
    ⟨511, (5, 511, 0), { dev := { up with tick := 1, eng := { LoopEng.init with removals := [(5, 511, 0)] } }, pending := [] }, by decide +kernel⟩,
    ⟨{ dev := { up with tick := 1000 }, pending := [] }, by decide +kernel⟩,
    ⟨127, { dev := up, pending := [] }, by decide +kernel⟩,
    ⟨127, { dev := up, pending := [] }, by decide +kernel⟩⟩

theorem met_ShuttleRowsAct :
    (∃ c id r, Holds (fun d => (d.sol c).origin = .oneShot id ∧ d.rec? id = some r ∧ 0 < r.d.u32 24 ∧ d.solHere c = true ∧ (d.sol c).inShot = true
      ∧ (d.sol c).startOn + r.d.u32 24 ≤ (d.fd (dieOf clsSOL c)).bounds)) ∧
    (∃ b t, Holds (fun d => b < d.classCount clsBANK ∧ d.dieLive (dieOf clsBANK b) = true ∧ (d.bank b).fault = false ∧ d.bankState b ≠ 0 ∧ (d.bank
      b).periodAt + (d.bank b).period ≤ d.solTime (4 * b) t)) ∧
    (∃ c, ∃ sense : SolSense, Holds (fun d => d.solHere c = true ∧ (d.sol c).isOn = true ∧ effectiveTarget ((d.sol c).state == .peak) (d.solPaired
      c) (d.sol c).target ≤ sense.current ∧ (d.sol c).wait = .target)) ∧
    (∃ c t, ∃ sense : SolSense, Holds (fun d => d.solHere c = true ∧ (d.sol c).isOn = true ∧ effectiveTarget ((d.sol c).state == .peak)
      (d.solPaired c) (d.sol c).target ≤ sense.current ∧ (d.sol c).wait ≠ .target ∧ (d.sol c).path = .closed ∧ (d.bank (bankOf c)).periodAt + 50 ≤
      d.solTime c t)) ∧
    (∃ k c, Holds (fun d => d.dieLive k = true ∧ d.solFirst k = some c)) ∧
    (∃ c t, Holds (fun d => d.solHere c = true ∧ (d.sol c).wait = .grant ∧ (d.sol c).since + 50 * (d.sol c).peakWait ≤ d.solTime c t ∧ (d.sol
      c).energised = false)) ∧
    (∃ c t, Holds (fun d => d.solHere c = true ∧ (d.sol c).wait = .grant ∧ (d.sol c).since + 50 * (d.sol c).peakWait ≤ d.solTime c t ∧ (d.sol
      c).energised = true)) ∧
    (∃ c, Holds (fun d => d.solHere c = true ∧ (d.sol c).skipRetry = true ∧ (d.sol c).state = .off ∧ (d.sol c).level = true ∧ d.solMayStart c =
      true ∧ (d.sol c).skipOn < (d.fd (dieOf clsSOL c)).bounds)) ∧
    (∃ c t, Holds (fun d => d.solHere c = true ∧ (d.sol c).wait = .target ∧ d.solPassed c (d.solTime c t) = true)) ∧
    (∃ c t, Holds (fun d => d.solHere c = true ∧ ((d.sol c).wait = .chop ∨ (d.sol c).wait = .wait) ∧ d.solPassed c (d.solTime c t) = true)) ∧
    (∃ c t, Holds (fun d => d.solHere c = true ∧ (d.sol c).wait = .sync ∧ (d.sol c).since < d.solTime c 0 ∧ ((d.sol c).since + 500 < d.solTime c 0
      ∨ (d.sol c).operand (d.solWord (bankOf c) (d.sol c).copy (d.sol c).pc) (bitsAt (d.solWord (bankOf c) (d.sol c).copy (d.sol c).pc) 0 9) 0 499 ≤
      t))) ∧
    (∃ c t, ∃ sense : SolSense, Holds (fun d => d.solHere c = true ∧ (d.sol c).wait = .decay ∧ (sense.current ≤ (d.sol c).target ∨ d.solPassed c
      (d.solTime c t) = true))) ∧
    (∃ c, Holds (fun d => d.solHere c = true ∧ (d.sol c).state = .ending)) ∧
    (∃ c, Holds (fun d => d.solHere c = true ∧ (d.sol (d.solBase c)).state ≠ .fault)) ∧
    (∃ c, Holds (fun d => d.solHere c = true ∧ (d.sol (d.solBase c)).state ≠ .fault)) ∧
    (∃ c, Holds (fun d => d.solHere c = true ∧ (d.sol c).state = .peak ∧ (d.sol c).peakAt + 5000 * (d.sol c).peakMax ≤ d.solTime c 499)) ∧
    (∃ b, Holds (fun d => b < d.classCount clsBANK ∧ d.dieLive (dieOf clsBANK b) = true ∧ (d.bank b).fault = false)) ∧
    (∃ b, Holds (fun d => b < d.classCount clsBANK ∧ d.dieLive (dieOf clsBANK b) = true ∧ (d.bank b).fault = false)) ∧
    (∃ b o, Holds (fun d => d.loadOf b = some o ∧ o.stage = 2 ∧ 256 ≤ o.sent)) ∧
    (∃ b o, Holds (fun d => d.loadOf b = some o ∧ o.stage = 1 ∧ o.since + 1000000 ≤ d.tick)) :=
  ⟨⟨31, 5, shotOf,
      { dev := { (late.setSol 31 { SolSt.init with state := .running, origin := .oneShot 5 }) with recs := [shotOf] }, pending := [] }, by
      decide +kernel⟩,
    ⟨7, 0, { dev := late.setSol 31 { SolSt.init with state := .peak }, pending := [] }, by decide +kernel⟩,
    ⟨31, { current := 60000, ohms := none, vf24 := 0 },
      { dev := late.setSol 31 { SolSt.init with state := .peak, wait := .target, path := .closed }, pending := [] }, by decide +kernel⟩,
    ⟨31, 0, { current := 60000, ohms := none, vf24 := 0 },
      { dev := late.setSol 31 { SolSt.init with state := .hold, wait := .chop, path := .closed }, pending := [] }, by decide +kernel⟩,
    ⟨1, 31, { dev := up.setSol 31 { SolSt.init with wait := .grant }, pending := [] }, by decide +kernel⟩,
    ⟨31, 0, { dev := late.setSol 31 { SolSt.init with wait := .grant }, pending := [] }, by decide +kernel⟩,
    ⟨31, 0, { dev := late.setSol 31 { SolSt.init with wait := .grant, energised := true }, pending := [] }, by decide +kernel⟩,
    ⟨31, { dev := late.setSol 31 { SolSt.init with skipRetry := true, level := true }, pending := [] }, by decide +kernel⟩,
    ⟨31, 0, { dev := late.setSol 31 { SolSt.init with wait := .target }, pending := [] }, by decide +kernel⟩,
    ⟨31, 0, { dev := late.setSol 31 { SolSt.init with wait := .wait }, pending := [] }, by decide +kernel⟩,
    ⟨31, 0, { dev := late.setSol 31 { SolSt.init with wait := .sync }, pending := [] }, by decide +kernel⟩,
    ⟨31, 0, { current := 60000, ohms := none, vf24 := 0 }, { dev := late.setSol 31 { SolSt.init with wait := .decay }, pending := [] }, by
      decide +kernel⟩,
    ⟨31, { dev := up.setSol 31 { SolSt.init with state := .ending }, pending := [] }, by decide +kernel⟩,
    ⟨31, { dev := up, pending := [] }, by decide +kernel⟩,
    ⟨31, { dev := up, pending := [] }, by decide +kernel⟩,
    ⟨31, { dev := late.setSol 31 { SolSt.init with state := .peak }, pending := [] }, by decide +kernel⟩,
    ⟨7, { dev := up, pending := [] }, by decide +kernel⟩,
    ⟨7, { dev := up, pending := [] }, by decide +kernel⟩,
    ⟨7, loadOf 2 256, { dev := { up with shut := { ShutSt.init with loads := [loadOf 2 256] } }, pending := [] }, by decide +kernel⟩,
    ⟨7, loadOf 1 0, { dev := { late with shut := { ShutSt.init with loads := [loadOf 1 0] } }, pending := [] }, by decide +kernel⟩⟩

theorem met_FanAndOutputRowsAct :
    (∃ f, Holds (fun d => d.fanHere f = true ∧ (d.fanAt f).state = .kick ∧ 0 < (d.fanAt f).cmd ∧ d.fanFor f (10000 * d.dget
      Reg.FAN_TIMING.KICK_TIME f) = true ∧ (d.fanAt f).kicks < 2 ∧ d.disSet Reg.FAN_CFG.TACH f = false)) ∧
    (∃ f, Holds (fun d => d.fanHere f = true ∧ (d.fanAt f).state = .kick ∧ 0 < (d.fanAt f).cmd ∧ d.fanFor f (10000 * d.dget
      Reg.FAN_TIMING.KICK_TIME f) = true ∧ (d.fanAt f).kicks < 2 ∧ d.disSet Reg.FAN_CFG.TACH f = true)) ∧
    (∃ f, Holds (fun d => d.fanHere f = true ∧ (d.fanAt f).state = .backoff ∧ 0 < (d.fanAt f).cmd ∧ d.fanFor f (250000 * 2 ^ (d.fanAt f).retries)
      = true)) ∧
    (∃ f, Holds (fun d => d.fanHere f = true ∧ d.disSet Reg.FAN_CFG.TACH f = true)) ∧
    (∃ f, Holds (fun d => d.fanHere f = true ∧ d.disSet Reg.FAN_CFG.TACH f = true ∧ d.fanSilent f ((d.fd (dieOf clsFAN f)).clock + 1999) = true ∧
      (d.fanAt f).state = .run ∧ d.fanSupplyTells f = false)) ∧
    (∃ f ma, Holds (fun d => d.fanHere f = true ∧ d.disSet Reg.FAN_CFG.TACH f = true ∧ d.fanSilent f ((d.fd (dieOf clsFAN f)).clock + 1999) = true
      ∧ (d.fanAt f).state = .run ∧ d.fanSupplyTells f = true ∧ ma < d.dget Reg.FAN_DIAG.RUN_MIN f)) ∧
    (∃ f, Holds (fun d => d.fanHere f = true ∧ (d.fanAt f).state = .run ∧ d.fanFor f 6000000 = true)) ∧
    (∃ a mv, Holds (fun d => d.aoHere a = true ∧ (d.aoAt a).overload = false ∧ 200 < max mv (d.aoAt a).mv - min mv (d.aoAt a).mv)) ∧
    (∃ a mv, Holds (fun d => d.aoHere a = true ∧ (d.aoAt a).overload = true ∧ max mv (d.aoAt a).mv - min mv (d.aoAt a).mv ≤ 200)) :=
  ⟨⟨31, { dev := (late.setFan 31 { FanSt.init with state := .kick, cmd := 1, kicks := 1 }).dput Reg.FAN_CFG.TACH 31 0, pending := [] }, by
      decide +kernel⟩,
    ⟨31, { dev := (late.setFan 31 { FanSt.init with state := .kick, cmd := 1, kicks := 1 }).dput Reg.FAN_CFG.TACH 31 1, pending := [] }, by
      decide +kernel⟩,
    ⟨31, { dev := late.setFan 31 { FanSt.init with state := .backoff, cmd := 1 }, pending := [] }, by decide +kernel⟩,
    ⟨31, { dev := up.dput Reg.FAN_CFG.TACH 31 1, pending := [] }, by decide +kernel⟩,
    ⟨31, { dev := (late.setFan 31 { FanSt.init with state := .run }).dput Reg.FAN_CFG.TACH 31 1, pending := [] }, by decide +kernel⟩,
    ⟨31, 0,
      { dev := ((((late.setFan 31 { FanSt.init with state := .run }).dput Reg.FAN_CFG.TACH 31 1).dput Reg.FAN_DIAG.SUPPLY_DO 31 31).dput Reg.FAN_DIAG.RUN_MIN 31 1).setDo 63 { DoSt.init with on := true }, pending := [] },
      by decide +kernel⟩,
    ⟨31, { dev := late.setFan 31 { FanSt.init with state := .run }, pending := [] }, by decide +kernel⟩,
    ⟨31, 201, { dev := up, pending := [] }, by decide +kernel⟩,
    ⟨31, 200, { dev := up.setAo 31 { AoSt.init with overload := true }, pending := [] }, by decide +kernel⟩⟩

theorem met_ControlWordsAct :
    (∃ p count, Holds (fun d => d.live = true ∧ d.portUp p = true ∧ (count % 4096 + 4096 - (d.port p).acked) % 4096 ≤ (d.port p).retry.length)) ∧
    (∃ p count, Holds (fun d => d.live = true ∧ d.portUp p = true ∧ (count % 4096 + 4096 - (d.port p).acked) % 4096 ≤ (d.port p).retry.length)) ∧
    (∃ p, Holds (fun d => d.live = true ∧ p < 8 ∧ (d.portState p = pUP ∨ d.portState p = pAUDIT))) ∧
    (∃ p cls, Holds (fun d => d.live = true ∧ p < 8 ∧ cls < 4 ∧ (d.portState p = pUP ∨ d.portState p = pAUDIT))) ∧
    (∃ p low, Holds (fun d => d.live = true ∧ d.portUp p = true ∧ d.quilt.marked ≠ some (low % 2 ^ 24) ∧ d.isSet Reg.QUILT_TIME_STAT.IS_MASTER 0 =
      true)) ∧
    (∃ p low, Holds (fun d => d.live = true ∧ d.portUp p = true ∧ d.quilt.marked ≠ some (low % 2 ^ 24) ∧ d.isSet Reg.QUILT_TIME_STAT.IS_MASTER 0 =
      false ∧ d.isSet Reg.QUILT_TIME_STAT.MASTER_VALID 0 = true)) ∧
    (∃ p, Holds (fun d => d.live = true ∧ d.portUp p = true)) ∧
    (∃ p n, Holds (fun d => d.live = true ∧ d.portUp p = true ∧ n = (d.port p).exchange)) ∧
    (∃ p f, Holds (fun d => d.live = true ∧ p < 8 ∧ d.portUp p = true ∧ d.tick + 1 < f ∧ d.frz.lastF ≠ some f ∧ d.frzEn = true ∧ d.frz.req =
      none)) ∧
    (∃ p f r, Holds (fun d => d.live = true ∧ p < 8 ∧ d.portUp p = true ∧ d.tick + 1 < f ∧ d.frz.lastF ≠ some f ∧ d.frzEn = true ∧ d.frz.req =
      some r ∧ f < r.at_)) ∧
    (∃ p f r, Holds (fun d => d.power.phase = .up ∧ p < 8 ∧ d.portUp p = true ∧ d.frz.lastThaw ≠ some f ∧ d.frz.cur = some r ∧ r.quilt = true ∧
      r.at_ = f)) ∧
    (∃ p cls credits count, Holds (fun d => d.live = true ∧ p < 8 ∧ cls < 4 ∧ d.portState p = pUP ∧ credits + d.get Reg.PORT_CONS.RX_USED (4 * p +
      cls) + d.get Reg.PORT_CONS.RX_FREED (4 * p + cls) + ((d.port p).creditsOut.getD cls 0 + 4096 - count % 4096) % 4096 ≠ 64)) ∧
    (∃ p cls credits count, Holds (fun d => Map.rising d.regs = true ∧ d.live = true ∧ p < 8 ∧ cls < 4 ∧ d.portState p = pUP ∧ (d.port
      p).asked.testBit cls = false ∧ credits + d.get Reg.PORT_CONS.RX_USED (4 * p + cls) + d.get Reg.PORT_CONS.RX_FREED (4 * p + cls) + ((d.port
      p).creditsOut.getD cls 0 + 4096 - count % 4096) % 4096 = 64)) ∧
    (∃ p, Holds (fun d => d.live = true ∧ d.portUp p = true)) ∧
    (∃ p dev numbered, ∃ cands : List (Nat × Nat × Nat), Holds (fun d => d.live = true ∧ p < 8 ∧ d.portState p = pTRAINING ∧ (d.port p).idle =
      false ∧ d.isSet Reg.PORT_STAT.ALIGNED p = true ∧ (numbered = false ∨ (d.quiltTrain cands).isSet Reg.GLOBAL_DEVNUM.DEVNUM_SET 0 = false ∨ dev ≠
      (d.quiltTrain cands).devNum))) :=
  ⟨⟨7, 1, { dev := seam.setPort 7 { PortSt.init with retry := [stOf] }, pending := [] }, by decide +kernel⟩,
    ⟨7, 1, { dev := seam.setPort 7 { PortSt.init with retry := [stOf] }, pending := [] }, by decide +kernel⟩,
    ⟨7, { dev := seam, pending := [] }, by decide +kernel⟩,
    ⟨7, 3, { dev := seam, pending := [] }, by decide +kernel⟩,
    ⟨7, 5, { dev := seam.put Reg.QUILT_TIME_STAT.IS_MASTER 0 1, pending := [] }, by decide +kernel⟩,
    ⟨7, 5, { dev := seam.put Reg.QUILT_TIME_STAT.MASTER_VALID 0 1, pending := [] }, by decide +kernel⟩,
    ⟨7, { dev := seam, pending := [] }, by decide +kernel⟩,
    ⟨7, 255, { dev := seam.setPort 7 { PortSt.init with exchange := 255 }, pending := [] }, by decide +kernel⟩,
    ⟨7, 2, { dev := seam.put Reg.DBG_CFG.FRZ_EN 0 1, pending := [] }, by decide +kernel⟩,
    ⟨7, 4, frzOf false,
      { dev := { (seam.put Reg.DBG_CFG.FRZ_EN 0 1) with frz := { FreezeSt.init with req := some (frzOf false) } }, pending := [] }, by
      decide +kernel⟩,
    ⟨7, 5, frzOf true, { dev := { seam with frz := { FreezeSt.init with cur := some (frzOf true) } }, pending := [] }, by decide +kernel⟩,
    ⟨7, 3, 63, 0, { dev := seam, pending := [] }, by decide +kernel⟩,
    ⟨7, 3, 64, 0, { dev := seam, pending := [] }, by decide +kernel⟩,
    ⟨7, { dev := seam, pending := [] }, by decide +kernel⟩,
    ⟨7, 5, false, [], { dev := (up.put Reg.PORT_STAT.STATE 7 1).put Reg.PORT_STAT.ALIGNED 7 1, pending := [] }, by decide +kernel⟩⟩

theorem met_SeamRowsAct :
    (∃ p, Holds (fun d => d.live = true ∧ d.portUp p = true)) ∧
    (∃ p, Holds (fun d => d.live = true ∧ p < 8)) ∧
    (∃ p, Holds (fun d => d.live = true ∧ p < 8 ∧ d.portState p = pTRAINING ∧ (d.port p).idle = false)) ∧
    (∃ p, Holds (fun d => d.live = true ∧ p < 8 ∧ d.portState p = pTRAINING ∧ (d.port p).idle = false ∧ (d.port p).since + 1000 ≤ d.tick)) ∧
    (∃ p, Holds (fun d => d.live = true ∧ p < 8 ∧ d.portState p = pTRAINING ∧ (d.port p).idle = true ∧ (d.port p).since + 10000 ≤ d.tick)) ∧
    (∃ p, Holds (fun d => d.live = true ∧ p < 8 ∧ d.portState p = pDOWN ∧ (d.port p).since + 2 ≤ d.tick ∧ d.losHeld p = true)) ∧
    (∃ p, Holds (fun d => d.live = true ∧ p < 8 ∧ d.portState p = pDOWN ∧ (d.port p).since + 2 ≤ d.tick ∧ d.losHeld p = false)) ∧
    (∃ p, Holds (fun d => d.live = true ∧ d.portUp p = true ∧ d.isSet Reg.QUILT_CFG.AUTO_REVERT 0 = true ∧ (d.port p).since + 10000 * d.get
      Reg.QUILT_CFG.REVERT_TIME 0 ≤ d.tick)) ∧
    (∃ p x, Holds (fun d => d.live = true ∧ d.portUp p = true ∧ decodeErr (x % 2 ^ 280) = .uncorrectable)) ∧
    (∃ id r, Holds (fun d => d.live = true ∧ d.quilt.retrains.find? (fun r => r.1 == id) = some r ∧ r.2.2 + 1000 ≤ d.tick)) :=
  ⟨⟨7, { dev := seam, pending := [] }, by decide +kernel⟩,
    ⟨7, { dev := up, pending := [] }, by decide +kernel⟩,
    ⟨7, { dev := up.put Reg.PORT_STAT.STATE 7 1, pending := [] }, by decide +kernel⟩,
    ⟨7, { dev := late.put Reg.PORT_STAT.STATE 7 1, pending := [] }, by decide +kernel⟩,
    ⟨7, { dev := (late.put Reg.PORT_STAT.STATE 7 1).setPort 7 { PortSt.init with idle := true }, pending := [] }, by decide +kernel⟩,
    ⟨7, { dev := ((late.put Reg.PORT_STAT.STATE 7 4).put Reg.PORT_STAT.LOS 7 1).put Reg.PORT_CFG.LOS_EN 7 1, pending := [] }, by decide +kernel⟩,
    ⟨7, { dev := late.put Reg.PORT_STAT.STATE 7 4, pending := [] }, by decide +kernel⟩,
    ⟨7, { dev := { seam with tick := 10 ^ 9 }.put Reg.QUILT_CFG.AUTO_REVERT 0 1, pending := [] }, by decide +kernel⟩,
    ⟨7, 7, { dev := seam, pending := [] }, by decide +kernel⟩,
    ⟨5, (5, 255, 0), { dev := { late with quilt := { QuiltSt.init with retrains := [(5, 255, 0)] } }, pending := [] }, by decide +kernel⟩⟩

theorem met_QuiltTimersAct :
    (∃ src flow cls skip, Holds (fun d => let r := d.flowRec (flowKey
      { dest := 0, src := src % 1024, cls := cls % 4, kind := 0, flow := flow % 1024, seq := 0, data := [] }); d.live = true ∧ (r.held.map fun h =>
      (h.2.seq + 4096 - r.next) % 4096).min? = some skip ∧ r.since + gapWait (cls % 4) ≤ d.tick)) ∧
    (∃ dest cls, Holds (fun d => d.live = true ∧ (d.quilt.queue.filter fun it => it.st.dest == dest && it.st.cls == cls && it.via.isNone && decide
      (max it.since (Map.get d.quilt.lostAt dest 0) + gapWait cls ≤ d.tick)) ≠ [] ∧ d.routePort dest = none)) ∧
    (∃ dest cls, Holds (fun d => d.live = true ∧ dest < 1024 ∧ 1 ≤ cls ∧ cls ≤ 3 ∧ 0 < d.tokens dest cls ∧ Map.get d.quilt.tokUsed (4 * dest +
      cls) 0 + 1000 ≤ d.tick)) ∧
    (∃ id, Holds (fun d => d.live = true ∧ (d.quilt.queue.any (fun it => it.desc == some id && decide (it.since + 10000 < d.tick)) ||
      d.quilt.tokWait.any (fun it => it.desc == some id && decide (it.since + 10000 < d.tick))) = true)) ∧
    (∃ id op, Holds (fun d => d.live = true ∧ d.quilt.ops.find? (fun o => o.id == some id) = some op ∧ op.askedAt + 10000 ≤ d.tick)) ∧
    (∃ p j i, Holds (fun d => d.live = true ∧ p < 8 ∧ j < 15 ∧ (d.port p).slotComes d.tick j = true ∧ d.quilt.tack.find? (fun i => i.port == p &&
      i.slot == j && i.tick == d.tick) = some i ∧ (d.setPort p { d.port p with slot := some (d.tick, j) }).canSend p 0 = true ∧ (d.setPort p
      { d.port p with slot := some (d.tick, j) }).carried i.st = true)) ∧
    (Holds (fun d => d.live = true ∧ d.isSet Reg.QUILT_TIME_STAT.IS_MASTER 0 = true ∧ d.tick % 100 = 0 ∧ d.quilt.marked ≠ some (d.tick % 2 ^ 24))) ∧
    (Holds (fun d => d.live = true ∧ d.isSet Reg.QUILT_TIME_STAT.MASTER_VALID 0 = true ∧ d.isSet Reg.QUILT_TIME_STAT.IS_MASTER 0 = false ∧
      d.quilt.markerAt + 1000 ≤ d.tick)) ∧
    (∃ p, Holds (fun d => d.live = true ∧ d.portUp p = true ∧ (d.port p).exchangeDue d.tick = true)) ∧
    (Holds (fun d => d.live = true ∧ d.remote = true ∧ d.quilt.fetchAt + 100000 ≤ d.tick ∧ d.serverReached = true)) :=
  ⟨⟨1022, 0x3FF, 3, 2,
      { dev := { late with quilt := { QuiltSt.init with flows := [(flowKey stOf, some { next := 0, held := [(0, stOf)], since := 0 })] } }, pending := [] },
      by decide +kernel⟩,
    ⟨1023, 3,
      { dev := { late with quilt := { QuiltSt.init with queue := [{ st := stOf, inPort := none, via := none, desc := some 5, since := 0 }] } }, pending := [] },
      by decide +kernel⟩,
    ⟨1023, 3, { dev := late.put Reg.QUILT_TOKEN.CL3 1023 1, pending := [] }, by decide +kernel⟩,
    ⟨5,
      { dev := { late with quilt := { QuiltSt.init with queue := [{ st := stOf, inPort := none, via := none, desc := some 5, since := 0 }] } }, pending := [] },
      by decide +kernel⟩,
    ⟨5, { id := some 5, close := false, src := 1023, flow := none, chains := 1, done := [], hops := 0, askedAt := 0 },
      { dev := { late with quilt := { QuiltSt.init with ops := [{ id := some 5, close := false, src := 1023, flow := none, chains := 1, done := [], hops := 0, askedAt := 0 }] } }, pending := [] },
      by decide +kernel⟩,
    ⟨7, 14, { port := 7, slot := 14, tick := 0, st := stOf, inPort := none },
      { dev := { (seam.put Reg.PORT_CONS.TX_CREDITS 28 1) with quilt := { QuiltSt.init with tack := [{ port := 7, slot := 14, tick := 0, st := stOf, inPort := none }] } }, pending := [] },
      by decide +kernel⟩,
    ⟨{ dev := up.put Reg.QUILT_TIME_STAT.IS_MASTER 0 1, pending := [] }, by decide +kernel⟩,
    ⟨{ dev := { (up.put Reg.QUILT_TIME_STAT.MASTER_VALID 0 1) with tick := 1000 }, pending := [] }, by decide +kernel⟩,
    ⟨7, { dev := seam, pending := [] }, by decide +kernel⟩,
    ⟨{ dev := ({ seam with tick := 10 ^ 9 }.put Reg.QUILT_RRING.ENABLE 0 1).put Reg.QUILT_RRING.SERVER 0 1023, pending := [] }, by decide +kernel⟩⟩

theorem met_HostRingRowsAct :
    (∃ q, Holds (fun d => d.fetches q = true ∧ d.remote = false ∧ (d.get Reg.SQ_STAT.TAIL q + 2 ^ d.get Reg.SQ_CFG.SIZE_LOG2 q - d.get
      Reg.SQ_STAT.HEAD q) % 2 ^ d.get Reg.SQ_CFG.SIZE_LOG2 q ≠ 0 ∧ d.isSet Reg.SQ_STAT.FENCED q = false)) ∧
    (∃ q, Holds (fun d => d.fetches q = true ∧ d.remote = false ∧ (d.get Reg.SQ_STAT.TAIL q + 2 ^ d.get Reg.SQ_CFG.SIZE_LOG2 q - d.get
      Reg.SQ_STAT.HEAD q) % 2 ^ d.get Reg.SQ_CFG.SIZE_LOG2 q ≠ 0)) ∧
    (∃ q, Holds (fun d => d.fetches q = true ∧ d.remote = false ∧ d.get Reg.SQ_STAT.HEAD q ≠ d.get Reg.SQ_STAT.TAIL q)) ∧
    (∃ q data ups r e, Holds (fun d => d.live = true ∧ d.recs.find? (fun r => r.ring == q && r.phase == .fetched) = some r ∧ d.mustWait q r.id =
      false ∧ d.inflight q < 32 ∧ d.inflightAll < 512 ∧ (opIndex data ups).find? (fun e => e.1 == r.d.u16 0) = some e)) ∧
    (∃ c, Holds (fun d => d.live = true ∧ c < 64 ∧ d.isSet Reg.CQ_CTRL.ENABLE c = true)) ∧
    (∃ r, Holds (fun d => 10 * Map.get d.irqAt r 0 + (d.irqCfg r).2.2 < 10 * (d.tick + 1) ∧ Map.get d.irqHold r 0 = 1)) ∧
    (∃ r, Holds (fun d => 10 * Map.get d.irqAt r 0 + (d.irqCfg r).2.2 < 10 * (d.tick + 1) ∧ 2 ≤ Map.get d.irqHold r 0)) ∧
    (Holds (fun d => d.live = true ∧ d.eventSpace = true)) ∧
    (∃ c x r rest, Holds (fun d => c < 64 ∧ d.chalk c = some x ∧ x.recs = r :: rest ∧ d.live = true ∧ r.ready = true ∧ d.isSet Reg.TQ_CTRL.ENABLE
      (armRing x.arm) = true ∧ (d.remote = true ∨ (d.get Reg.TQ_STAT.TAIL (armRing x.arm) + 2 ^ d.get Reg.TQ_CFG.SIZE_LOG2 (armRing x.arm) - d.get
      Reg.TQ_STAT.HEAD (armRing x.arm)) % 2 ^ d.get Reg.TQ_CFG.SIZE_LOG2 (armRing x.arm) + recWords x.arm ≤ 2 ^ d.get Reg.TQ_CFG.SIZE_LOG2 (armRing
      x.arm) - 1))) ∧
    (∃ t, Holds (fun d => d.live = true ∧ t < 4 ∧ d.isSet Reg.TQ_CTRL.ENABLE t = true ∧ Map.get d.traceDue t 0 ≠ 0)) ∧
    (Holds (fun d => d.live = true ∧ d.wdogExpired = true)) ∧
    (Holds (fun d => d.power.phase = .up ∧ d.frozen = false)) ∧
    (∃ kind : PcieResetKind, kind ≠ .linkDown ∧ Holds (fun d => d.power.phase = .up ∧ d.frozen = false)) ∧
    (Holds (fun d => d.power.phase = .up ∧ d.frozen = false)) ∧
    (Holds (fun d => d.power.phase = .up ∧ d.frozen = true)) ∧
    (Holds (fun d => d.power.phase = .up ∧ d.frozen = false)) ∧
    (Holds (fun d => d.power.phase = .up ∧ d.frozen = true)) :=
  ⟨⟨63, { dev := ((up.put Reg.SQ_CTRL.ENABLE 63 1).put Reg.SQ_CFG.SIZE_LOG2 63 8).put Reg.SQ_STAT.TAIL 63 255, pending := [] }, by
      decide +kernel⟩,
    ⟨63, { dev := ((up.put Reg.SQ_CTRL.ENABLE 63 1).put Reg.SQ_CFG.SIZE_LOG2 63 8).put Reg.SQ_STAT.TAIL 63 255, pending := [] }, by
      decide +kernel⟩,
    ⟨63, { dev := ((up.put Reg.SQ_CTRL.ENABLE 63 1).put Reg.SQ_CFG.SIZE_LOG2 63 8).put Reg.SQ_STAT.TAIL 63 255, pending := [] }, by
      decide +kernel⟩,
    ⟨63, [], [], target 0x0101 .fetched, (0x0101, [], bodyNop), { dev := { up with recs := [target 0x0101 .fetched] }, pending := [] }, ⟨by
      decide +kernel, by decide +kernel, by decide +kernel, by decide +kernel, by decide +kernel, opIndex_nop⟩⟩,
    ⟨63, { dev := up.put Reg.CQ_CTRL.ENABLE 63 1, pending := [] }, by decide +kernel⟩,
    ⟨132, { dev := { up with irqHold := [(132, 1)] }, pending := [] }, by decide +kernel⟩,
    ⟨132, { dev := { up with irqHold := [(132, 2)] }, pending := [] }, by decide +kernel⟩,
    ⟨{ dev := up.put Reg.EQ_CTRL.ENABLE 0 1, pending := [] }, by decide +kernel⟩,
    ⟨63, traceOf, { slot := 0, flags := 0, drops := 0, ready := true }, [],
      { dev := ((up.setChalk 63 (some traceOf)).put Reg.TQ_CTRL.ENABLE 3 1).put Reg.TQ_CFG.SIZE_LOG2 3 8, pending := [] }, by decide +kernel⟩,
    ⟨3, { dev := { (up.put Reg.TQ_CTRL.ENABLE 3 1) with traceDue := [(3, 1)] }, pending := [] }, by decide +kernel⟩,
    ⟨{ dev := (late.put Reg.HOSTQ_WDOG.INTERVAL 0 1).put Reg.PWR_STAT.START_STEP 0 10, pending := [] }, by decide +kernel⟩,
    ⟨{ dev := up, pending := [] }, by decide +kernel⟩,
    ⟨.functionLevelReset, by decide, { dev := up, pending := [] }, by decide +kernel⟩,
    ⟨{ dev := up, pending := [] }, by decide +kernel⟩,
    ⟨{ dev := up.put Reg.DBG_STAT.FROZEN 0 1, pending := [] }, by decide +kernel⟩,
    ⟨{ dev := up, pending := [] }, by decide +kernel⟩,
    ⟨{ dev := up.put Reg.DBG_STAT.FROZEN 0 1, pending := [] }, by decide +kernel⟩⟩

theorem met_FieldBusRowsAct :
    (∃ n src, Holds (fun d => d.live = true ∧ n < 16 ∧ d.busMode n = busMSTP ∧ (d.bus n).node ≠ .silent ∧ src = (d.busMark n).get Reg.BUS_MSTP.MAC
      n)) ∧
    (∃ n src, Holds (fun d => d.live = true ∧ n < 16 ∧ d.busMode n = busMSTP ∧ (d.bus n).node ≠ .silent ∧ ((d.busMark n).bus n).node = .waitReply
      ∧ src ≠ (d.busMark n).get Reg.BUS_MSTP.MAC n)) ∧
    (∃ n, Holds (fun d => d.live = true ∧ n < 16 ∧ d.busMode n = busMSTP ∧ (d.bus n).node ≠ .silent ∧ ((d.busMark n).bus n).node ≠ .waitReply)) ∧
    (∃ n dest src, Holds (fun d => d.live = true ∧ n < 16 ∧ d.busMode n = busMSTP ∧ (d.bus n).node ≠ .silent ∧ ((d.busMark n).bus n).node = .idle
      ∧ src ≠ (d.busMark n).get Reg.BUS_MSTP.MAC n ∧ dest = (d.busMark n).get Reg.BUS_MSTP.MAC n)) ∧
    (∃ n dest src, Holds (fun d => d.live = true ∧ n < 16 ∧ d.busMode n = busMSTP ∧ (d.bus n).node ≠ .silent ∧ ((d.busMark n).bus n).node = .idle
      ∧ src ≠ (d.busMark n).get Reg.BUS_MSTP.MAC n ∧ dest = (d.busMark n).get Reg.BUS_MSTP.MAC n)) ∧
    (∃ n kind dest src, Holds (fun d => d.live = true ∧ n < 16 ∧ d.busMode n = busMSTP ∧ (d.bus n).node ≠ .silent ∧ ((d.busMark n).bus n).node =
      .idle ∧ src ≠ (d.busMark n).get Reg.BUS_MSTP.MAC n ∧ 3 ≤ kind ∧ (dest = (d.busMark n).get Reg.BUS_MSTP.MAC n ∨ dest = 255))) ∧
    (∃ n a b, Holds (fun d => d.live = true ∧ n < 16 ∧ (d.bus n).reply = some (a, b) ∧ (d.bus n).replyAt + 100 * d.get Reg.BUS_MSTP.REPLY_WAIT n ≤
      d.tick)) ∧
    (∃ n, Holds (fun d => d.live = true ∧ n < 16 ∧ (d.bus n).node = .waitReply ∧ (d.bus n).at_ + mstpReplyWait ≤ d.tick)) ∧
    (∃ n, Holds (fun d => d.live = true ∧ n < 16 ∧ (d.bus n).node = .silent ∧ (d.bus n).at_ + 1000000 ≤ d.tick)) ∧
    (∃ n, Holds (fun d => d.live = true ∧ n < 16 ∧ d.busMode n = busMSTP ∧ (d.bus n).node = .idle ∧ (d.bus n).at_ + mstpWait .idle (d.get
      Reg.BUS_MSTP.MAC n) ≤ d.tick)) ∧
    (∃ n, Holds (fun d => d.live = true ∧ n < 16 ∧ d.busMode n = busMSTP ∧ (d.bus n).node = .passToken ∧ (d.bus n).at_ + mstpWait .passToken
      (d.get Reg.BUS_MSTP.MAC n) ≤ d.tick ∧ (d.bus n).retry < 1)) ∧
    (∃ n i, Holds (fun d => d.live = true ∧ n < 16 ∧ d.busMode n = busMODBUS ∧ d.isSet Reg.BUS_MB.POLL_RUN n = true ∧ 32 * i < (d.pollList
      n).length ∧ d.entryDue n i = true)) ∧
    (∃ n, ∃ bytes : List Nat, ∃ body : List Nat, ∃ id, Holds (fun d => d.live = true ∧ n < 16 ∧ d.busMode n = busMODBUS ∧ (d.bus n).job = some
      (.send id) ∧ (d.bus n).sent = true ∧ mbChecked bytes = some body)) ∧
    (∃ n, ∃ bytes : List Nat, ∃ body : List Nat, ∃ i, Holds (fun d => d.live = true ∧ n < 16 ∧ d.busMode n = busMODBUS ∧ (d.bus n).job = some
      (.entry i) ∧ (d.bus n).sent = true ∧ mbChecked bytes = some body ∧ entryWhole (pollEntry (d.pollList n) i) body = true)) ∧
    (∃ n, ∃ bytes : List Nat, Holds (fun d => d.live = true ∧ n < 16 ∧ d.busMode n = busMODBUS ∧ (d.bus n).job ≠ none ∧ (d.bus n).sent = true ∧
      mbChecked bytes = none)) ∧
    (∃ n, Holds (fun d => d.live = true ∧ n < 16 ∧ d.busMode n = busMODBUS ∧ (d.bus n).at_ + 100 * d.get Reg.BUS_MB.TIMEOUT n ≤ d.tick ∧ (d.bus
      n).broadcast = false ∧ (d.bus n).job ≠ none ∧ (d.bus n).sent = true)) ∧
    (∃ n, Holds (fun d => d.live = true ∧ n < 16 ∧ d.busMode n = busMODBUS ∧ (d.bus n).at_ + 100 * d.get Reg.BUS_MB.TIMEOUT n ≤ d.tick ∧ (d.bus
      n).broadcast = true)) ∧
    (∃ n, Holds (fun d => d.live = true ∧ n < 16 ∧ d.busMode n = busMODBUS ∧ (d.bus n).job ≠ none ∧ (d.bus n).sent = true)) ∧
    (∃ n, Holds (fun d => d.live = true ∧ n < 16 ∧ d.busMode n = busRAW)) ∧
    (∃ n, Holds (fun d => d.live = true ∧ n < 16 ∧ d.busMode n = busRAW)) ∧
    (∃ k, ∃ body : List Nat, Holds (fun d => d.live = true ∧ k < 4 ∧ d.isSet Reg.T1L_CFG.ENABLE k = true ∧ d.isSet Reg.T1L_STAT.LINK_UP k = true ∧
      body.length ≤ 1518 ∧ d.t1lPasses k (body.take 6) = true)) ∧
    (∃ k, Holds (fun d => d.live = true ∧ k < 4 ∧ d.isSet Reg.T1L_CFG.ENABLE k = true ∧ d.isSet Reg.T1L_STAT.LINK_UP k = false)) ∧
    (∃ k, Holds (fun d => d.live = true ∧ k < 4 ∧ d.isSet Reg.T1L_CFG.ENABLE k = true ∧ d.isSet Reg.T1L_STAT.LINK_UP k = true)) ∧
    (∃ n id, Holds (fun d => let d1 := (d.emit (.pin ("BUS_DE" ++ toString n) false)).busMark n; d.live = true ∧ n < 16 ∧ (d1.bus n).job = some
      (.send id) ∧ (d1.bus n).sent = false ∧ d1.busMode n ≠ busMSTP ∧ d1.busMode n ≠ busMODBUS)) ∧
    (∃ n j, Holds (fun d => let d1 := (d.emit (.pin ("BUS_DE" ++ toString n) false)).busMark n; d.live = true ∧ n < 16 ∧ (d1.bus n).job = some j ∧
      (d1.bus n).sent = false ∧ d1.busMode n = busMODBUS)) ∧
    (∃ n, Holds (fun d => d.live = true ∧ n < 16 ∧ d.busMode n = busMODBUS ∧ (d.bus n).job ≠ none ∧ (d.bus n).sent = true)) ∧
    (∃ k, Holds (fun d => d.live = true ∧ k < 4 ∧ d.isSet Reg.T1L_CFG.ENABLE k = true ∧ d.isSet Reg.T1L_STAT.LINK_UP k = true)) :=
  ⟨⟨15, 127, { dev := (onBus busMSTP).put Reg.BUS_MSTP.MAC 15 127, pending := [] }, by decide +kernel⟩,
    ⟨15, 5, { dev := (onBus busMSTP).setBus 15 { BusSt.init with node := .waitReply }, pending := [] }, by decide +kernel⟩,
    ⟨15, { dev := (onBus busMSTP), pending := [] }, by decide +kernel⟩,
    ⟨15, 127, 0, { dev := (onBus busMSTP).put Reg.BUS_MSTP.MAC 15 127, pending := [] }, by decide +kernel⟩,
    ⟨15, 127, 0, { dev := (onBus busMSTP).put Reg.BUS_MSTP.MAC 15 127, pending := [] }, by decide +kernel⟩,
    ⟨15, 3, 255, 0, { dev := (onBus busMSTP).put Reg.BUS_MSTP.MAC 15 127, pending := [] }, by decide +kernel⟩,
    ⟨15, 3, 5, { dev := ({ onBus busMSTP with tick := 10 ^ 9 }).setBus 15 { BusSt.init with reply := some (3, 5) }, pending := [] }, by
      decide +kernel⟩,
    ⟨15, { dev := ({ onBus busMSTP with tick := 10 ^ 9 }).setBus 15 { BusSt.init with node := .waitReply }, pending := [] }, by decide +kernel⟩,
    ⟨15, { dev := ({ onBus busMSTP with tick := 10 ^ 9 }).setBus 15 { BusSt.init with node := .silent }, pending := [] }, by decide +kernel⟩,
    ⟨15, { dev := { onBus busMSTP with tick := 10 ^ 9 }, pending := [] }, by decide +kernel⟩,
    ⟨15, { dev := ({ onBus busMSTP with tick := 10 ^ 9 }).setBus 15 { BusSt.init with node := .passToken }, pending := [] }, by decide +kernel⟩,
    ⟨15, 63,
      { dev := { ((onBus busMODBUS).put Reg.BUS_MB.POLL_RUN 15 1) with blocks := [(handle clsBUS 15, List.replicate 2048 0)] }, pending := [] }, by
      decide +kernel⟩,
    ⟨15, mbFrame [5, 3, 2, 0, 0], [5, 3, 2, 0, 0], 5,
      { dev := ({ onBus busMODBUS with tick := 10 ^ 9 }).setBus 15 { BusSt.init with job := some (.send 5), sent := true }, pending := [] }, by
      decide +kernel⟩,
    ⟨15, mbFrame [5, 3, 2, 0, 0], [5, 3, 2, 0, 0], 63,
      { dev := { (({ onBus busMODBUS with tick := 10 ^ 9 }).setBus 15 { BusSt.init with job := some (.entry 63), sent := true }) with blocks := [(handle clsBUS 15, List.replicate 2016 0 ++ [5, 3, 0, 0, 0, 1] ++ List.replicate 26 0)] }, pending := [] },
      by decide +kernel⟩,
    ⟨15, [5], { dev := ({ onBus busMODBUS with tick := 10 ^ 9 }).setBus 15 { BusSt.init with job := some .orphan, sent := true }, pending := [] },
      by decide +kernel⟩,
    ⟨15, { dev := ({ onBus busMODBUS with tick := 10 ^ 9 }).setBus 15 { BusSt.init with job := some .orphan, sent := true }, pending := [] }, by
      decide +kernel⟩,
    ⟨15, { dev := ({ onBus busMODBUS with tick := 10 ^ 9 }).setBus 15 { BusSt.init with broadcast := true }, pending := [] }, by decide +kernel⟩,
    ⟨15, { dev := (onBus busMODBUS).setBus 15 { BusSt.init with job := some .orphan, sent := true }, pending := [] }, by decide +kernel⟩,
    ⟨15, { dev := onBus busRAW, pending := [] }, by decide +kernel⟩,
    ⟨15, { dev := onBus busRAW, pending := [] }, by decide +kernel⟩,
    ⟨3, List.replicate 60 0, { dev := (up.put Reg.T1L_CFG.ENABLE 3 1).put Reg.T1L_STAT.LINK_UP 3 1, pending := [] }, by decide +kernel⟩,
    ⟨3, { dev := up.put Reg.T1L_CFG.ENABLE 3 1, pending := [] }, by decide +kernel⟩,
    ⟨3, { dev := (up.put Reg.T1L_CFG.ENABLE 3 1).put Reg.T1L_STAT.LINK_UP 3 1, pending := [] }, by decide +kernel⟩,
    ⟨15, 5, { dev := (onBus busRAW).setBus 15 { BusSt.init with job := some (.send 5) }, pending := [] }, by decide +kernel⟩,
    ⟨15, .entry 63, { dev := (onBus busMODBUS).setBus 15 { BusSt.init with job := some (.entry 63) }, pending := [] }, by decide +kernel⟩,
    ⟨15, { dev := ({ onBus busMODBUS with tick := 10 ^ 9 }).setBus 15 { BusSt.init with job := some (.entry 0), sent := true }, pending := [] },
      by decide +kernel⟩,
    ⟨3, { dev := (up.put Reg.T1L_CFG.ENABLE 3 1).put Reg.T1L_STAT.LINK_UP 3 1, pending := [] }, by decide +kernel⟩⟩

theorem met_StoreRowsAct :
    (∃ b w id, Holds (fun d => d.live = true ∧ d.runningWrite b = some w ∧ w.origin = .host id)) ∧
    (∃ b w, Holds (fun d => d.live = true ∧ d.runningWrite b = some w ∧ w.origin = .log)) ∧
    (∃ b w id, Holds (fun d => d.live = true ∧ d.runningWrite b = some w ∧ w.origin = .model id)) ∧
    (Holds (fun d => d.live = true)) ∧
    (∃ id w, Holds (fun d => d.live = true ∧ d.nvm.writes.find? (fun w => w.origin == .host id && w.waitAt != 0 && w.waitAt - 1 + 10000 ≤ d.tick)
      = some w)) ∧
    (∃ r, Holds (fun d => d.retPending.contains r = true ∧ d.mayCommit = true ∧ d.regionFree 0 = true ∧ ∀ e, d.nvm.exporting = some e →
      e.recs.contains r = true)) ∧
    (∃ key, Holds (fun d => d.storeDue.contains key = true ∧ d.mayCommit = true ∧ d.regionFree 0 = true ∧ d.regionFree 3 = true ∧ d.regionFree 4 =
      true ∧ d.regionFree 5 = true ∧ d.nvm.exporting = none)) ∧
    (Holds (fun d => d.writesOpen = true ∧ d.get Reg.NVM_CFG.CKPT_INT 0 ≠ 0 ∧ d.isSet Reg.NVM_STAT.IMPORT_PENDING 0 = false ∧ d.nvm.incomplete =
      false ∧ d.nvm.save = none ∧ d.nvm.ckptAt + 6000000 * d.get Reg.NVM_CFG.CKPT_INT 0 ≤ d.tick)) ∧
    (∃ g e0 e1 bs d2, Holds (fun d => d.nvm.refreshTurn = g ∧ d.writesOpen = true ∧ d.nvm.refreshAt + d.refreshSpan ≤ d.tick ∧ d.regionFree
      (regionOf (32 * g)) = true ∧ (Dev.nvmUpset { d with nvm := { d.nvm with refreshAt := d.tick, refreshTurn := (g + 1) % 131072 } } [(g, e0,
      e1)]).nvmGroup g = (some bs, d2))) ∧
    (∃ r kind, Holds (fun d => d.live = true ∧ d.lockedOut r (kind % 2) = false)) ∧
    (∃ l, Holds (fun d => d.live = true ∧ d.panel.load = some l ∧ l.since + 1000000 ≤ d.tick)) ∧
    (∃ o, Holds (fun d => d.fwUpdate = some o ∧ o.checked = true ∧ d.live = true ∧ d.dip = false)) :=
  ⟨⟨15, { origin := .host 5, bank := 15, addr := 0x3C0000, bytes := [1], started := true, waitAt := 0 }, 5,
      { dev := { up with nvm := { NvmSt.init with writes := [{ origin := .host 5, bank := 15, addr := 0x3C0000, bytes := [1], started := true, waitAt := 0 }] } }, pending := [] },
      by decide +kernel⟩,
    ⟨15, { origin := .log, bank := 15, addr := 0x3C0000, bytes := [1], started := true, waitAt := 0 },
      { dev := { up with nvm := { NvmSt.init with writes := [{ origin := .log, bank := 15, addr := 0x3C0000, bytes := [1], started := true, waitAt := 0 }] } }, pending := [] },
      by decide +kernel⟩,
    ⟨15, { origin := .model 5, bank := 15, addr := 0x3C0000, bytes := [1], started := true, waitAt := 0 }, 5,
      { dev := { up with nvm := { NvmSt.init with writes := [{ origin := .model 5, bank := 15, addr := 0x3C0000, bytes := [1], started := true, waitAt := 0 }] } }, pending := [] },
      by decide +kernel⟩,
    ⟨{ dev := up, pending := [] }, by decide +kernel⟩,
    ⟨5, { origin := .host 5, bank := 15, addr := 0x3C0000, bytes := [1], started := false, waitAt := 1 },
      { dev := { late with nvm := { NvmSt.init with writes := [{ origin := .host 5, bank := 15, addr := 0x3C0000, bytes := [1], started := false, waitAt := 1 }] } }, pending := [] },
      by decide +kernel⟩,
    ⟨4095, { dev := { store with retPending := [4095] }, pending := [] }, ⟨by decide +kernel, by decide +kernel, by decide +kernel, fun _ h =>
      nomatch h⟩⟩,
    ⟨handle clsZONE 127, { dev := { store with storeDue := [handle clsZONE 127] }, pending := [] }, by decide +kernel⟩,
    ⟨{ dev := { store with tick := 10 ^ 10 }.put Reg.NVM_CFG.CKPT_INT 0 1, pending := [] }, by decide +kernel⟩,
    ⟨0, 0, 0, List.replicate 32 0, _, { dev := { store with tick := 10 ^ 10 }, pending := [] }, by decide +kernel, by decide +kernel, by
      decide +kernel, by decide +kernel, groupRead (by decide +kernel)⟩,
    ⟨7, 1, { dev := up, pending := [] }, by decide +kernel⟩,
    ⟨{ id := 5, since := 0, payload := none },
      { dev := late.setPanel { PanelSt.init with load := some { id := 5, since := 0, payload := none } }, pending := [] }, by decide +kernel⟩,
    ⟨{ id := 5, kind := 3, checked := true, bytes := [] },
      { dev := { up with sec := { SecSt.init with ops := [{ id := 5, kind := 3, checked := true, bytes := [] }] } }, pending := [] }, by
      decide +kernel⟩⟩

theorem met_PanelAndKeypadRowsAct :
    (Holds (fun d => d.live = true ∧ d.tick % 1176 = 0 ∧ d.panel.phaseAt ≠ d.tick + 1)) ∧
    (∃ n, Holds (fun d => d.frozen = false ∧ d.panel.rails = .rising n ∧ d.tick ≤ d.panel.railAt + 300)) ∧
    (∃ n mv, Holds (fun d => d.frozen = false ∧ d.panel.rails = .rising n ∧ d.panel.railAt + 300 ≤ d.tick ∧ d.railWithin n mv 20 = false)) ∧
    (∃ rail mv, Holds (fun d => d.frozen = false ∧ d.panel.rails = .up ∧ 1 ≤ rail ∧ rail ≤ 5 ∧ d.railWithin rail mv 10 = false)) ∧
    (Holds (fun d => d.frozen = false ∧ d.panel.rails = .up ∧ d.panel.running = [] ∧ d.panel.waiting = [] ∧ d.panel.idleAt + 10000 * d.get
      Reg.PANEL_CFG.RAIL_HOLD 0 ≤ d.tick)) ∧
    (Holds (fun d => d.frozen = false ∧ d.panel.rails = .falling)) ∧
    (∃ volts ms, Holds (fun d => d.frozen = false ∧ d.isSet Reg.PANEL_STAT.FL_ON 0 = true ∧ (400 ≤ volts ∨ volts < 30 ∧ 10 ≤ ms))) ∧
    (∃ volts, Holds (fun d => d.frozen = false ∧ d.isSet Reg.PANEL_STAT.FL_FAULT 0 = true ∧ d.wantsLight = true ∧ d.panel.flAt + 1000000 ≤ d.tick
      ∧ 30 ≤ volts ∧ volts < 400)) ∧
    (Holds (fun d => d.live = true ∧ d.isSet Reg.KEYS_STAT.SCANNING 0 = false)) ∧
    (Holds (fun d => d.live = true ∧ d.isSet Reg.KEYS_STAT.SCANNING 0 = true ∧ (d.keys.scanAt = 0 ∨ d.keys.scanAt + 99 ≤ d.tick))) ∧
    (Holds (fun d => d.live = true ∧ (∀ i, i < 144 → (d.key i).pressed = false ∧ (d.key i).run = 0) ∧ d.keys.heldAt + 2000 ≤ d.tick)) ∧
    (Holds (fun d => d.live = true ∧ 0 < d.get Reg.KEYS_LOCK.IDLE_TIME 0 ∧ d.keys.changedAt + 6000000 * d.get Reg.KEYS_LOCK.IDLE_TIME 0 ≤ d.tick ∧
      d.isSet Reg.KEYS_STAT.SCANNING 0 = false)) ∧
    (Holds (fun d => d.live = true ∧ 0 < d.get Reg.KEYS_LOCK.IDLE_TIME 0 ∧ d.keys.changedAt + 6000000 * d.get Reg.KEYS_LOCK.IDLE_TIME 0 ≤ d.tick ∧
      d.isSet Reg.KEYS_STAT.SCANNING 0 = true)) ∧
    (∃ n a b, Holds (fun d => d.live = true ∧ n < 4 ∧ (quadPlace a b + 4 - quadPlace (d.enc n).a (d.enc n).b) % 4 = 1 ∧ d.encHeld = false)) ∧
    (∃ n a b, Holds (fun d => d.live = true ∧ n < 4 ∧ (quadPlace a b + 4 - quadPlace (d.enc n).a (d.enc n).b) % 4 = 2)) ∧
    (∃ n, Holds (fun d => d.live = true ∧ n < 4 ∧ d.encHeld = false ∧ d.detents n ≠ (d.enc n).told ∧ ((d.enc n).toldAt = 0 ∨ (d.enc n).toldAt +
      999 ≤ d.tick))) :=
  ⟨⟨{ dev := up, pending := [] }, by decide +kernel⟩,
    ⟨4, { dev := up.setPanel { PanelSt.init with rails := .rising 4 }, pending := [] }, by decide +kernel⟩,
    ⟨5, 0, { dev := { late with panel := { PanelSt.init with rails := .rising 5 } }, pending := [] }, by decide +kernel⟩,
    ⟨5, 0, { dev := { late with panel := { PanelSt.init with rails := .up } }, pending := [] }, by decide +kernel⟩,
    ⟨{ dev := { late with panel := { PanelSt.init with rails := .up } }, pending := [] }, by decide +kernel⟩,
    ⟨{ dev := { up with panel := { PanelSt.init with rails := .falling } }, pending := [] }, by decide +kernel⟩,
    ⟨400, 0, { dev := up.put Reg.PANEL_STAT.FL_ON 0 1, pending := [] }, by decide +kernel⟩,
    ⟨30,
      { dev := (((late.put Reg.PANEL_STAT.FL_FAULT 0 1).put Reg.PANEL_CFG.FL_EN 0 1).put Reg.PANEL_CFG.EN 0 1).put Reg.PANEL_STAT.CLEAR_DONE 0 1, pending := [] },
      by decide +kernel⟩,
    ⟨{ dev := up, pending := [] }, by decide +kernel⟩,
    ⟨{ dev := late.put Reg.KEYS_STAT.SCANNING 0 1, pending := [] }, by decide +kernel⟩,
    ⟨{ dev := late, pending := [] }, by decide +kernel⟩,
    ⟨{ dev := late.put Reg.KEYS_LOCK.IDLE_TIME 0 1, pending := [] }, by decide +kernel⟩,
    ⟨{ dev := (late.put Reg.KEYS_LOCK.IDLE_TIME 0 1).put Reg.KEYS_STAT.SCANNING 0 1, pending := [] }, by decide +kernel⟩,
    ⟨3, true, false, { dev := up, pending := [] }, by decide +kernel⟩,
    ⟨3, true, true, { dev := up, pending := [] }, by decide +kernel⟩,
    ⟨3, { dev := up.setEnc 3 { EncSt.init with count := 4 }, pending := [] }, by decide +kernel⟩⟩

theorem met_FittingRowsAct :
    (Holds (fun d => d.live = true ∧ d.dip = false ∧ d.power.resumeDue = false ∧ d.nvm.noControl = false ∧ d.isSet Reg.FIT_STAT.ACTIVE 0 = false ∧
      d.get Reg.FIT_NEXT.TICK 0 ≤ d.tick)) ∧
    (Holds (fun d => d.live = true ∧ d.dip = false ∧ d.power.resumeDue = false ∧ d.nvm.noControl = false ∧ d.isSet Reg.FIT_STAT.ACTIVE 0 = false ∧
      d.fit.rerun = true ∧ d.fit.rerunAt + 6000000 ≤ d.tick)) ∧
    (Holds (fun d => d.controlling = true ∧ d.get Reg.FIT_STAT.STEP 0 = 1 ∧ d.fit.start + 100000 ≤ d.tick)) ∧
    (Holds (fun d => d.live = true ∧ d.dip = false ∧ d.power.resumeDue = false ∧ d.nvm.noControl = false ∧ d.get Reg.FIT_STAT.STEP 0 = 2 ∧
      d.fit.window = false ∧ d.isSet Reg.NVM_STAT.BUSY 0 = false ∧ 100 * d.get Reg.PWR_WARN.EFFECTIVE 0 + 2000 ≤ d.get Reg.PWR_VOLT.VL24 0)) ∧
    (∃ i dv, Holds (fun d => d.controlling = true ∧ d.fit.window = true ∧ d.fit.windowAt + 50 ≤ d.tick ∧ dv ≠ 0 ∧ min 0xFFFF (roundDiv (500 * i :
      Nat) dv).toNat ≠ 0)) ∧
    (Holds (fun d => d.controlling = true ∧ d.get Reg.FIT_STAT.STEP 0 = 2 ∧ d.fit.window = false ∧ d.fit.stepAt + 60000000 ≤ d.tick)) ∧
    (Holds (fun d => d.controlling = true ∧ d.get Reg.FIT_STAT.STEP 0 = 4)) ∧
    (∃ ps : List Nat, Holds (fun d => d.live = true ∧ d.fitting = false ∧ ps ≠ [] ∧ (d.fit.pathAt = 0 ∨ d.fit.pathAt + 99999 ≤ d.tick) ∧
      (Dev.showPaths { d with fit := { d.fit with pathAt := d.tick + 1 } } ps).get Reg.FIT_CFG2.PATH_FLOOR 0 ≤ (lowestPath ps).1)) ∧
    (∃ ps : List Nat, Holds (fun d => let d1 := Dev.showPaths { d with fit := { d.fit with pathAt := d.tick + 1 } } ps; d.live = true ∧ d.fitting
      = false ∧ ps ≠ [] ∧ (d.fit.pathAt = 0 ∨ d.fit.pathAt + 99999 ≤ d.tick) ∧ (lowestPath ps).1 < d1.get Reg.FIT_CFG2.PATH_FLOOR 0 ∧ d1.fitFree 0 =
      false)) ∧
    (∃ ps : List Nat, Holds (fun d => let d1 := Dev.showPaths { d with fit := { d.fit with pathAt := d.tick + 1 } } ps; d.live = true ∧ d.fitting
      = false ∧ ps ≠ [] ∧ (d.fit.pathAt = 0 ∨ d.fit.pathAt + 99999 ≤ d.tick) ∧ (lowestPath ps).1 < d1.get Reg.FIT_CFG2.PATH_FLOOR 0 ∧ d1.fitFree 0 =
      true ∧ d1.isSet Reg.PWR_STAT.PMBUS_OK 0 = true ∧ d1.isSet Reg.PWR_PMBUS.EN 0 = true ∧ d1.get Reg.PWR_VCORE.TARGET 0 < 900)) :=
  ⟨⟨{ dev := up, pending := [] }, by decide +kernel⟩,
    ⟨{ dev := { late with fit := { FitSt.init with rerun := true } }, pending := [] }, by decide +kernel⟩,
    ⟨{ dev := late.put Reg.FIT_STAT.STEP 0 1, pending := [] }, by decide +kernel⟩,
    ⟨{ dev := (up.put Reg.FIT_STAT.STEP 0 2).put Reg.PWR_VOLT.VL24 0 24000, pending := [] }, by decide +kernel⟩,
    ⟨1, 500, { dev := { late with fit := { FitSt.init with window := true } }, pending := [] }, by decide +kernel⟩,
    ⟨{ dev := late.put Reg.FIT_STAT.STEP 0 2, pending := [] }, by decide +kernel⟩,
    ⟨{ dev := up.put Reg.FIT_STAT.STEP 0 4, pending := [] }, by decide +kernel⟩,
    ⟨[100], { dev := up, pending := [] }, by decide +kernel⟩,
    ⟨[0], { dev := (up.put Reg.FIT_CFG2.PATH_FLOOR 0 10).put Reg.FIT_CFG.LOCK_MASK 0 1, pending := [] }, by decide +kernel⟩,
    ⟨[0], { dev := ((up.put Reg.FIT_CFG2.PATH_FLOOR 0 10).put Reg.PWR_STAT.PMBUS_OK 0 1).put Reg.PWR_PMBUS.EN 0 1, pending := [] }, by
      decide +kernel⟩⟩

theorem met_FreezeAndTapRowsAct :
    (Holds (fun d => d.isSet Reg.DBG_CFG.FRZ_EN 0 = true ∧ d.live = true ∧ d.frz.req = none)) ∧
    (Holds (fun d => d.isSet Reg.DBG_CFG.FRZ_EN 0 = false)) ∧
    (Holds (fun d => d.frz.cur = none)) ∧
    (∃ r, Holds (fun d => d.frz.cur = some r ∧ r.quilt = false)) ∧
    (∃ r, Holds (fun d => d.frz.req = some r ∧ d.live = true ∧ r.at_ ≤ d.tick)) ∧
    (∃ r, Holds (fun d => d.frz.cur = some r ∧ r.quilt = false ∧ d.frz.frzNLow = false ∧ d.frz.thawAsked ≠ 0)) ∧
    (∃ r, Holds (fun d => d.frz.cur = some r ∧ r.quilt = false ∧ d.frz.frzNLow = false ∧ d.frz.thawAsked ≠ 0)) ∧
    (∃ r, Holds (fun d => d.frz.cur = some r ∧ r.quilt = true ∧ d.frz.frzNLow = false ∧ d.frz.thawAsked ≠ 0 ∧ d.frz.lastThaw = some r.at_)) ∧
    (∃ r, Holds (fun d => d.frz.cur = some r ∧ r.quilt = true ∧ d.frz.frzNLow = true ∧ d.frz.thawAsked ≠ 0 ∧ d.frz.lastThaw = some r.at_)) ∧
    (Holds (fun d => d.isSet Reg.DBG_CFG.FRZ_EN 0 = true ∧ d.live = true ∧ d.frz.req = none)) ∧
    (∃ r, Holds (fun d => d.frz.cur = some r ∧ r.quilt = false)) ∧
    (Holds (fun _ => True)) ∧
    (Holds (fun d => d.power.rstLow = true)) ∧
    (Holds (fun d => d.power.rstLow = false)) ∧
    (Holds (fun _ => True)) ∧
    (Holds (fun _ => True)) ∧
    (Holds (fun _ => True)) :=
  ⟨⟨{ dev := up.put Reg.DBG_CFG.FRZ_EN 0 1, pending := [] }, by decide +kernel⟩,
    ⟨{ dev := up.put Reg.DBG_CFG.FRZ_EN 0 0, pending := [] }, by decide +kernel⟩,
    ⟨{ dev := up, pending := [] }, by decide +kernel⟩,
    ⟨frzOf false, { dev := { up with frz := { FreezeSt.init with cur := some (frzOf false) } }, pending := [] }, by decide +kernel⟩,
    ⟨frzOf false, { dev := { up with tick := 5, frz := { FreezeSt.init with req := some (frzOf false) } }, pending := [] }, by decide +kernel⟩,
    ⟨frzOf false, { dev := { late with frz := { FreezeSt.init with cur := some (frzOf false), thawAsked := 2 } }, pending := [] }, by
      decide +kernel⟩,
    ⟨frzOf false, { dev := { late with frz := { FreezeSt.init with cur := some (frzOf false), thawAsked := 2 } }, pending := [] }, by
      decide +kernel⟩,
    ⟨frzOf true, { dev := { up with frz := { FreezeSt.init with cur := some (frzOf true), thawAsked := 2, lastThaw := some 5 } }, pending := [] },
      by decide +kernel⟩,
    ⟨frzOf true,
      { dev := { up with frz := { FreezeSt.init with cur := some (frzOf true), thawAsked := 2, lastThaw := some 5, frzNLow := true } }, pending := [] },
      by decide +kernel⟩,
    ⟨{ dev := up.put Reg.DBG_CFG.FRZ_EN 0 1, pending := [] }, by decide +kernel⟩,
    ⟨frzOf false, { dev := { up with frz := { FreezeSt.init with cur := some (frzOf false) } }, pending := [] }, by decide +kernel⟩,
    ⟨{ dev := up, pending := [] }, by decide +kernel⟩,
    ⟨{ dev := { up with power := { PowerSt.init with phase := .up, rstLow := true } }, pending := [] }, by decide +kernel⟩,
    ⟨{ dev := up, pending := [] }, by decide +kernel⟩,
    ⟨{ dev := up, pending := [] }, by decide +kernel⟩,
    ⟨{ dev := up, pending := [] }, by decide +kernel⟩,
    ⟨{ dev := up, pending := [] }, by decide +kernel⟩⟩

theorem met_CapturesOfBusyConvertersAreRefused :
    (∃ k named, (k, named) ∈ [(0, [(12, 19), (32, 32)]), (1, [(12, 12), (28, 3), (32, 32)])] ∧ Meets 0x0204 named (fun x d => x.byte 16 ≤ 2 ∧
      (x.byte 16 = 0 ∨ d.part.grade = .f) ∧ x.byte 17 = k ∧ 1 ≤ x.u16 18 ∧ x.u16 18 ≤ 4096 ∧ x.u16 28 ≤ 499 ∧ x.byte 30 ≤ 4 ∧ (x.byte 17 = 0 →
      d.tick + 3 ≤ x.u64 20) ∧ (x.byte 17 = 1 → isNull (x.u32 20) = false ∧ d.isHandle clsBANK (x.u32 20) = true) ∧ x.u32 12 + (2 * x.u16 18 + 31) /
      32 * (groupConvs (x.byte 16)).length ≤ memWords ∧ (∀ j, j < (groupConvs (x.byte 16)).length → d.dieChannel (convDie ((groupConvs (x.byte
      16)).getD j 0)) (x.u32 (32 + 4 * j)) = true) ∧ (∃ c ∈ groupConvs (x.byte 16), d.convBusy c = true))) ∧
    (∃ k named, (k, named) ∈ [(0, [(12, 19), (32, 32)]), (1, [(12, 12), (28, 3), (32, 32)])] ∧ Meets 0x0204 named (fun x d => x.byte 17 = k ∧
      (x.byte 16 = 1 ∨ x.byte 16 = 2) ∧ d.part.grade = .s)) :=
  ⟨⟨0, [(12, 19), (32, 32)], by decide, { dev := ring.setConv 7 { ConvSt.init with calibrating := true }, pending := [] }, 0, desc 0x0204 [(12,
      391168), (16, 2), (18, 4096), (20, 3), (28, 499), (30, 4), (32, handle clsINTL 0), (36, handle clsINTL 0), (40, handle clsINTL 0), (44, handle
      clsINTL 0), (48, handle clsINTL 31), (52, handle clsINTL 31), (56, handle clsINTL 31), (60, handle clsINTL 31)], by decide +kernel, by
      decide +kernel⟩,
    ⟨0, [(12, 19), (32, 32)], by decide, { dev := { ring with part := { grade := .s, stepping := .b0 } }, pending := [] }, 0, desc 0x0204 [(16,
      2)], by decide +kernel, by decide +kernel⟩⟩

/-- A stitch of each kind, with a wrong bit and without; and one whose code word is lost. -/
theorem met_StitchesAreAccepted :
    (∀ kind, kind < 14 →
      (∃ w n, decodeData w 0 = some (n, false) ∧ (stitchOf n).kind = kind ∧
        (Holds fun d => d.live = true ∧ d.portUp 7 = true ∧ (d.port 7).nak = false) ∧
        Holds fun d => d.live = true ∧ d.portUp 7 = true ∧ (d.port 7).nak = true) ∧
      (∃ w n, decodeData w 1 = some (n, true) ∧ (stitchOf n).kind = kind)) ∧
    (∃ w, decodeData w 7 = none) := by
  refine ⟨fun kind h => ?_, ⟨0, by decide +kernel⟩⟩
  have e : (decodeData (BitVec.ofNat 256 (kind * 2 ^ 22)) 0 = some (kind * 2 ^ 22, false)
      ∧ decodeData (BitVec.ofNat 256 (kind * 2 ^ 22)) 1 = some (kind * 2 ^ 22, true)) ∧ (stitchOf (kind * 2 ^ 22)).kind = kind := by
    revert kind; decide +kernel
  exact ⟨⟨_, _, e.1.1, e.2, ⟨{ dev := seam, pending := [] }, by decide +kernel⟩,
    { dev := seam.setPort 7 { PortSt.init with nak := true }, pending := [] }, by decide +kernel⟩, _, _, e.1.2, e.2⟩

/-- A descriptor of each opcode that stages something. -/
theorem met_StagedChecksEnd :
    ∀ op ∈ [0x0501, 0x0601, 0x0701, 0x0702, 0x0801, 0x0A03, 0x0B03, 0x0C0B, 0x0D02, 0x1001, 0x1002, 0x1003],
      ∃ id r, Holds fun d => d.live = true ∧ d.rec? id = some r ∧ d.isRunning id = true ∧ r.d.u16 0 = op := by
  intro op h
  have e : (target op .running).d.u16 0 = op := by revert op; decide +kernel
  exact ⟨0, target op .running, { dev := { up with recs := [target op .running] }, pending := [] }, rfl, rfl, rfl, e⟩

theorem met_StepTakesFrontCommand : ∃ c s rest, State.pending s = c :: rest := ⟨.clrDip, { dev := up, pending := [.clrDip] }, [], rfl⟩

theorem met_EmptyQueueIdles : ∃ s : State, s.pending = [] := ⟨State.reset, rfl⟩

/-- A state in canonical form that steps: of StepKeepsCanonicalForm and StepKeepsThePart. -/
theorem met_StepKeepsCanonicalForm : ∃ s t : State, s.canonical = true ∧ step s = .next t :=
  ⟨{ dev := up, pending := [.clrDip] }, _, by decide +kernel, rfl⟩

/-- A command outside every list of MemoryFrame, DieAndEngineFrames and SiteStoreAndTimeFrames that runs. -/
theorem met_Frames :
    ∃ (c : Instr) (s t : State), c.changesMemory = false ∧ c.changesDies = false ∧ c.changesEngines = false ∧ c.changesSite = false
      ∧ c.changesStores = false ∧ c.changesTime = false ∧ exec c s = .next t :=
  ⟨.clrDip, { dev := up, pending := [] }, _, rfl, rfl, rfl, rfl, rfl, rfl, rfl⟩

theorem met_RegisterFieldsReadBack :
    ∃ (d : Dev) (f g : Fld) (i j : Nat), Map.rising d.regs = true ∧ Map.rising d.die = true ∧ g.key j ≠ f.key i :=
  ⟨seam, Reg.SQ_CTRL.ENABLE, Reg.SQ_CTRL.ENABLE, 0, 63, by decide +kernel, by decide +kernel, by decide +kernel⟩

theorem met_NarrowWritesMergeIntoTheWord :
    ∀ e, (e = 0 ∧ decodeErr e = .clean 0 ∨ e = 3 ∧ decodeErr e = .corrected 0 ∨ e = 7 ∧ decodeErr e = .uncorrectable) →
      ∃ (s : State) (off : Nat) (bytes : List Nat), s.canonical = true ∧ s.dev.hostOpen = true ∧ s.dev.frozen = false ∧ bytes ≠ []
        ∧ bytes.length < 32 ∧ off % 32 + bytes.length ≤ 32 ∧ s.dev.hostWord (off / 32) = true ∧ Map.get s.dev.memErr (off / 32) 0 = e := by
  rintro e (⟨rfl, -⟩ | ⟨rfl, -⟩ | ⟨rfl, -⟩)
  · exact ⟨{ dev := up, pending := [] }, 0xBFFFE1, List.replicate 31 1, by decide +kernel⟩
  · exact ⟨{ dev := { up with memErr := [(393215, 3)] }, pending := [] }, 0xBFFFE1, List.replicate 31 1, by decide +kernel⟩
  · exact ⟨{ dev := { up with memErr := [(393215, 7)] }, pending := [] }, 0xBFFFE1, List.replicate 31 1, by decide +kernel⟩

/-- Each of the three kinds of wrong bits occurs. -/
theorem met_decodings : decodeErr 0 = .clean 0 ∧ decodeErr 3 = .corrected 0 ∧ decodeErr 7 = .uncorrectable := by decide +kernel

theorem met_WordReadsFollowTheCode :
    (∃ (d : Dev) (w : Nat), flips (Map.get d.memErr w 0) = 0) ∧
    (∃ (d : Dev) (w : Nat), 1 ≤ flips (Map.get d.memErr w 0) ∧ flips (Map.get d.memErr w 0) ≤ 2) ∧
    (∃ (d : Dev) (w : Nat), flips (Map.get d.memErr w 0) = 3) ∧
    (∃ (d : Dev) (w : Nat), 3 ≤ flips (Map.get d.memErr w 0) ∧ burst24 (Map.get d.memErr w 0) = true) :=
  ⟨⟨up, 0, by decide +kernel⟩, ⟨{ up with memErr := [(9, 3)] }, 9, by decide +kernel⟩, ⟨{ up with memErr := [(9, 7)] }, 9, by decide +kernel⟩,
    ⟨{ up with memErr := [(9, 2 ^ 24 - 1)] }, 9, by decide +kernel⟩⟩

theorem met_EventsWaitOrAreCounted : (∃ d : Dev, d.events.length < 256) ∧ (∃ d : Dev, 256 ≤ d.events.length) :=
  ⟨⟨{ up with events := List.replicate 255 { seq := 0, code := 0, src := 0, time := 0, detail := [] } }, by decide +kernel⟩,
    ⟨{ up with events := List.replicate 256 { seq := 0, code := 0, src := 0, time := 0, detail := [] } }, by decide +kernel⟩⟩

theorem met_DescriptorsTurnedAwayHaveNoOtherEffect :
    (∃ (s : State) (q : Nat), s.dev.begin.fetches q = false) ∧
    (∃ (s : State) (q : Nat) (x : Desc), s.dev.begin.fetches q = true ∧ x.u16 0 = 0x0802 ∧ s.dev.isSet Reg.SQ_STAT.FENCED q = true) ∧
    (∃ (s : State) (q : Nat) (x : Desc), s.dev.begin.fetches q = true ∧ x.u16 0 = 0x0802 ∧ s.dev.isSet Reg.SQ_STAT.FENCED q = false
      ∧ (s.dev.begin.takeDesc q x).mustWait q s.dev.nextId = true) ∧
    (∃ (s : State) (q : Nat) (x : Desc) (st : Status), s.dev.begin.fetches q = true ∧ x.u16 0 = 0x0802 ∧ s.dev.isSet Reg.SQ_STAT.FENCED q = false
      ∧ (s.dev.begin.takeDesc q x).mustWait q s.dev.nextId = false ∧ s.dev.headCheck x [(16, 5), (24, 4)] = some st) :=
  ⟨⟨State.reset, 0, by decide +kernel⟩, ⟨{ dev := ring.put Reg.SQ_STAT.FENCED 0 1, pending := [] }, 0, desc 0x0802 [], by decide +kernel⟩,
    ⟨{ dev := { ring with recs := [{ target 0x0101 .fetched with ring := 0 }], nextId := 1 }, pending := [] }, 0, desc 0x0802 [], by decide +kernel⟩,
    ⟨{ dev := ring, pending := [] }, 0, desc 0x0802 [(3, 1)], .badParam, by decide +kernel⟩⟩

theorem met_FrozenCoreStandsStill : ∃ s : State, s.dev.power.phase = .up ∧ s.dev.frozen = true :=
  ⟨{ dev := up.put Reg.DBG_STAT.FROZEN 0 1, pending := [] }, by decide +kernel⟩

theorem met_SealFollowsOwnership :
    (∃ s : State, s.canonical = true ∧ s.dev.takesWrites ∧ bitAt 1 0 = true ∧ s.dev.isSealed = false ∧ s.dev.get Reg.GLOBAL_SEAL.OWNER_STATE 0 = 1) ∧
    (∃ s : State, s.canonical = true ∧ s.dev.takesWrites ∧ bitAt 1 0 = true ∧ s.dev.isSealed = false ∧ s.dev.get Reg.GLOBAL_SEAL.OWNER_STATE 0 = 0
      ∧ s.dev.get Reg.GLOBAL_SEAL.SEAL 0 = 0) :=
  ⟨⟨{ dev := up.put Reg.GLOBAL_SEAL.OWNER_STATE 0 1, pending := [] }, by decide +kernel⟩, ⟨{ dev := up, pending := [] }, by decide +kernel⟩⟩

theorem met_BehaviourLevelRequestsAreChecked :
    (∃ (s : State) (v : Nat), s.canonical = true ∧ s.dev.takesWrites ∧ s.dev.isSealed = false
      ∧ (bitsAt v 0 8 = 0 ∨ s.dev.part.stepping.blMax < bitsAt v 0 8) ∧ bitsAt v 0 8 ≠ s.dev.get Reg.GLOBAL_BLSEL.BL_REQ 0) ∧
    (∃ (s : State) (v : Nat), s.canonical = true ∧ s.dev.takesWrites ∧ s.dev.isSealed = false
      ∧ (1 ≤ bitsAt v 0 8 ∧ bitsAt v 0 8 ≤ s.dev.part.stepping.blMax ∨ bitsAt v 0 8 = s.dev.get Reg.GLOBAL_BLSEL.BL_REQ 0)) ∧
    (∃ s : State, s.canonical = true ∧ s.dev.takesWrites ∧ s.dev.isSealed = true) :=
  ⟨⟨{ dev := up, pending := [] }, 4, by decide +kernel⟩, ⟨{ dev := up, pending := [] }, 3, by decide +kernel⟩,
    ⟨{ dev := up.put Reg.GLOBAL_SEAL.SEAL 0 1, pending := [] }, by decide +kernel⟩⟩

theorem met_LongPeakPhasesFault : ∃ (s : State) (c : Nat), s.dev.solHere c = true ∧ (s.dev.sol c).state = .peak :=
  ⟨{ dev := up.setSol 31 { SolSt.init with state := .peak }, pending := [] }, 31, by decide +kernel⟩

theorem met_RoundingAndSaturationAreNearest :
    (∃ n d : Int, 0 < d ∧ 2 * (n - roundDiv n d * d).natAbs = d.natAbs) ∧
    (∃ (w : Nat) (x y : Int), 1 ≤ w ∧ -(2 ^ (w - 1) : Int) ≤ y ∧ y < 2 ^ (w - 1) ∧ saturate w x ≠ x) :=
  ⟨⟨1, 2, by decide +kernel⟩, ⟨1, 5, 0, by decide +kernel⟩⟩

end Sys2Proof.Tests
end

section
/-! SUPPORT. The statements of 01_architecture.md: what a register field and a byte of the shared memory read after a write, the single outcomes of
the register writes of R57 and R65 and of a settled word (R34), and the settled obligations. -/

namespace Sys2Proof.Machine
open Sys2Proof

/-! ### A register field read after a write -/

/-- A command finds the tables of a canonical state in canonical form. -/
theorem State.begin_kept {s : State} (h : s.canonical = true) : s.dev.begin.Kept s.dev.part := by
  simp only [State.canonical, Bool.and_eq_true, and_assoc] at h
  exact ⟨rfl, h⟩

theorem Dev.put_rising {d : Dev} (h : Map.rising d.regs = true) (f : Fld) (i v : Nat) : Map.rising (d.put f i v).regs = true :=
  Map.set_rising _ _ _ h

theorem Dev.get_put_self {d : Dev} (h : Map.rising d.regs = true) (f : Fld) (i v : Nat) : (d.put f i v).get f i = v % 2 ^ f.width :=
  (Map.get_set h _ _ _ _).trans (if_pos rfl)

theorem Dev.get_put_of_key_ne {d : Dev} (h : Map.rising d.regs = true) {f g : Fld} {i j : Nat} (hne : f.key i ≠ g.key j) (v : Nat) :
    (d.put f i v).get g j = d.get g j :=
  Map.get_set_ne h hne _ _ _

/-- A record marked for a commit changes no register field. -/
@[simp] theorem Dev.markHost_regs (d : Dev) (a : Nat) : (d.markHost a).regs = d.regs := by
  unfold Dev.markHost Dev.markRec
  split
  · rfl
  · split <;> rfl

@[simp] theorem Dev.markHost_get (d : Dev) (a : Nat) (f : Fld) (i : Nat) : (d.markHost a).get f i = d.get f i := by
  unfold Dev.get
  rw [Dev.markHost_regs]

@[simp] theorem Dev.markHost_mem (d : Dev) (a : Nat) : (d.markHost a).mem = d.mem :=
  (Dev.markHost_same a (Dev.Same.refl true false false false false false d)).1.1

@[simp] theorem Dev.putHost_mem (d : Dev) (f : Fld) (i v : Nat) : (d.putHost f i v).mem = d.mem := Dev.markHost_mem ..

theorem Dev.putHost_rising {d : Dev} (h : Map.rising d.regs = true) (f : Fld) (i v : Nat) : Map.rising (d.putHost f i v).regs = true := by
  unfold Dev.putHost
  rw [Dev.markHost_regs]
  exact Dev.put_rising h f i v

theorem Dev.get_putHost_self {d : Dev} (h : Map.rising d.regs = true) (f : Fld) (i v : Nat) : (d.putHost f i v).get f i = v % 2 ^ f.width :=
  (Dev.markHost_get ..).trans (Dev.get_put_self h f i v)

theorem Dev.get_putHost_of_key_ne {d : Dev} (h : Map.rising d.regs = true) {f g : Fld} {i j : Nat} (hne : f.key i ≠ g.key j) (v : Nat) :
    (d.putHost f i v).get g j = d.get g j :=
  (Dev.markHost_get ..).trans (Dev.get_put_of_key_ne h hne v)

/-- A register write acts where the endpoint takes writes (R484, R530). -/
theorem Dev.hostReg_of_takesWrites {d : Dev} (h : d.takesWrites) (off v : Nat) (act : Dev → Dev) : d.hostReg off v act = act d := by
  obtain ⟨hup, hfrozen⟩ := h
  simp [Dev.hostReg, hup, hfrozen]

/-- The W1C part of a register write (R15): a 1 written to field `f` clears it. -/
def Dev.clearIf (d : Dev) (b : Bool) (f : Fld) (i : Nat) : Dev := if b then d.put f i 0 else d

@[simp] theorem Dev.clearIf_mem (d : Dev) (b : Bool) (f : Fld) (i : Nat) : (d.clearIf b f i).mem = d.mem := by
  cases b <;> rfl

theorem Dev.clearIf_rising {d : Dev} (h : Map.rising d.regs = true) (b : Bool) (f : Fld) (i : Nat) :
    Map.rising (d.clearIf b f i).regs = true := by
  cases b with
  | false => exact h
  | true => exact Dev.put_rising h f i 0

theorem Dev.get_clearIf_self {d : Dev} (h : Map.rising d.regs = true) (b : Bool) (f : Fld) (i : Nat) :
    (d.clearIf b f i).get f i = if b then 0 else d.get f i := by
  cases b with
  | false => rfl
  | true => exact (Dev.get_put_self h f i 0).trans (Nat.zero_mod _)

theorem Dev.get_clearIf_of_key_ne {d : Dev} (h : Map.rising d.regs = true) {f g : Fld} {i j : Nat} (hne : f.key i ≠ g.key j) (b : Bool) :
    (d.clearIf b f i).get g j = d.get g j := by
  cases b with
  | false => rfl
  | true => exact Dev.get_put_of_key_ne h hne 0

/-! ### The outcomes of a write of GLOBAL_SEAL (R65) -/

theorem exec_sealWrite {s : State} (h : s.dev.takesWrites) (v : Nat) : exec (.sealWrite v) s = .next (s.withDev (s.dev.begin.writeSeal v)) :=
  congrArg (fun e => Host.Outcome.next (s.withDev e)) (Dev.hostReg_of_takesWrites (d := s.dev.begin) h 0x14 v _)

theorem Dev.writeSeal_of_owned {d : Dev} {v : Nat} (hv : bitAt v 0 = true) (hopen : d.isSealed = false)
    (howner : d.get Reg.GLOBAL_SEAL.OWNER_STATE 0 = ownOwned) :
    d.writeSeal v = ((d.clearIf (bitAt v 16) Reg.GLOBAL_SEAL.SEAL_REFUSED 0).putHost Reg.GLOBAL_SEAL.SEAL 0 1).putHost
      Reg.GLOBAL_SEAL.OWNER_STATE 0 ownSealed := by
  simp [Dev.writeSeal, Dev.clearIf, hv, hopen, howner]

theorem Dev.writeSeal_of_not_owned {d : Dev} {v : Nat} (hv : bitAt v 0 = true) (hopen : d.isSealed = false)
    (howner : d.get Reg.GLOBAL_SEAL.OWNER_STATE 0 ≠ ownOwned) :
    d.writeSeal v = (d.clearIf (bitAt v 16) Reg.GLOBAL_SEAL.SEAL_REFUSED 0).put Reg.GLOBAL_SEAL.SEAL_REFUSED 0 1 := by
  simp [Dev.writeSeal, Dev.clearIf, hv, hopen, howner]

/-- What sealing an owned device leaves: SEAL at 1, OWNER_STATE at SEALED, and every other field but SEAL_REFUSED as it was. -/
theorem Dev.writeSeal_owned_fields {d : Dev} {v : Nat} (hr : Map.rising d.regs = true) (hv : bitAt v 0 = true) (hopen : d.isSealed = false)
    (howned : d.get Reg.GLOBAL_SEAL.OWNER_STATE 0 = ownOwned) :
    (d.writeSeal v).get Reg.GLOBAL_SEAL.SEAL 0 = 1 ∧ (d.writeSeal v).get Reg.GLOBAL_SEAL.OWNER_STATE 0 = ownSealed ∧ (d.writeSeal v).mem = d.mem
      ∧ ∀ (f : Fld) (i : Nat), f.key i ≠ Reg.GLOBAL_SEAL.SEAL.key 0 → f.key i ≠ Reg.GLOBAL_SEAL.OWNER_STATE.key 0 →
          f.key i ≠ Reg.GLOBAL_SEAL.SEAL_REFUSED.key 0 → (d.writeSeal v).get f i = d.get f i := by
  have hc := Dev.clearIf_rising hr (bitAt v 16) Reg.GLOBAL_SEAL.SEAL_REFUSED 0
  have hs := Dev.putHost_rising hc Reg.GLOBAL_SEAL.SEAL 0 1
  rw [Dev.writeSeal_of_owned hv hopen howned]
  refine ⟨?_, Dev.get_putHost_self hs .., by simp, fun f i hseal howner href => ?_⟩
  · exact (Dev.get_putHost_of_key_ne hs (by decide) _).trans (Dev.get_putHost_self hc ..)
  · rw [Dev.get_putHost_of_key_ne hs howner.symm, Dev.get_putHost_of_key_ne hc hseal.symm, Dev.get_clearIf_of_key_ne hr href.symm]

/-- What a write of 1 to SEAL of a manufactured device leaves: SEAL_REFUSED at 1, also where the same write clears it (R16), and every other field
as it was. -/
theorem Dev.writeSeal_manufactured_fields {d : Dev} {v : Nat} (hr : Map.rising d.regs = true) (hv : bitAt v 0 = true)
    (hmade : d.get Reg.GLOBAL_SEAL.OWNER_STATE 0 = ownManufactured) (hseal : d.get Reg.GLOBAL_SEAL.SEAL 0 = 0) :
    (d.writeSeal v).get Reg.GLOBAL_SEAL.SEAL 0 = 0 ∧ (d.writeSeal v).get Reg.GLOBAL_SEAL.SEAL_REFUSED 0 = 1 ∧ (d.writeSeal v).mem = d.mem
      ∧ ∀ (f : Fld) (i : Nat), f.key i ≠ Reg.GLOBAL_SEAL.SEAL_REFUSED.key 0 → (d.writeSeal v).get f i = d.get f i := by
  have hc := Dev.clearIf_rising hr (bitAt v 16) Reg.GLOBAL_SEAL.SEAL_REFUSED 0
  have hopen : d.isSealed = false := by simp [Dev.isSealed, Dev.isSet, hseal]
  rw [Dev.writeSeal_of_not_owned hv hopen (by rw [hmade]; decide)]
  have hframe : ∀ (f : Fld) (i : Nat), f.key i ≠ Reg.GLOBAL_SEAL.SEAL_REFUSED.key 0 →
      ((d.clearIf (bitAt v 16) Reg.GLOBAL_SEAL.SEAL_REFUSED 0).put Reg.GLOBAL_SEAL.SEAL_REFUSED 0 1).get f i = d.get f i := fun f i href =>
    (Dev.get_put_of_key_ne hc href.symm 1).trans (Dev.get_clearIf_of_key_ne hr href.symm _)
  exact ⟨(hframe _ 0 (by decide)).trans hseal, Dev.get_put_self hc .., Dev.clearIf_mem .., hframe⟩

/-! ### The outcomes of a write of GLOBAL_BLSEL (R57) -/

theorem exec_blReqWrite {s : State} (h : s.dev.takesWrites) (v : Nat) : exec (.blReqWrite v) s = .next (s.withDev (s.dev.begin.writeBlsel v)) :=
  congrArg (fun e => Host.Outcome.next (s.withDev e)) (Dev.hostReg_of_takesWrites (d := s.dev.begin) h 0x0C v _)

/-- The clear of BL_WRITE_REJECTED is all that a write does once sealed or with the present value of BL_REQ. -/
theorem Dev.writeBlsel_of_ignored {d : Dev} {v : Nat} (h : d.isSealed = true ∨ bitsAt v 0 8 = d.get Reg.GLOBAL_BLSEL.BL_REQ 0) :
    d.writeBlsel v = d.clearIf (bitAt v 17) Reg.GLOBAL_BLSEL.BL_WRITE_REJECTED 0 := by
  rcases h with h | h <;> simp [Dev.writeBlsel, Dev.clearIf, h]

theorem Dev.writeBlsel_of_refused {d : Dev} {v : Nat} (hopen : d.isSealed = false) (hnew : bitsAt v 0 8 ≠ d.get Reg.GLOBAL_BLSEL.BL_REQ 0)
    (hbad : bitsAt v 0 8 = 0 ∨ d.part.stepping.blMax < bitsAt v 0 8) :
    d.writeBlsel v = (d.clearIf (bitAt v 17) Reg.GLOBAL_BLSEL.BL_WRITE_REJECTED 0).put Reg.GLOBAL_BLSEL.BL_WRITE_REJECTED 0 1 := by
  simp [Dev.writeBlsel, Dev.clearIf, hopen, hnew, hbad]

theorem Dev.writeBlsel_of_accepted {d : Dev} {v : Nat} (hopen : d.isSealed = false) (hnew : bitsAt v 0 8 ≠ d.get Reg.GLOBAL_BLSEL.BL_REQ 0)
    (hgood : ¬ (bitsAt v 0 8 = 0 ∨ d.part.stepping.blMax < bitsAt v 0 8)) :
    d.writeBlsel v = (d.clearIf (bitAt v 17) Reg.GLOBAL_BLSEL.BL_WRITE_REJECTED 0).putHost Reg.GLOBAL_BLSEL.BL_REQ 0 (bitsAt v 0 8) := by
  simp [Dev.writeBlsel, Dev.clearIf, hopen, hnew, hgood]

theorem blReq_key_ne_rejected : Reg.GLOBAL_BLSEL.BL_REQ.key 0 ≠ Reg.GLOBAL_BLSEL.BL_WRITE_REJECTED.key 0 := by decide

/-- What a refused request leaves: BL_REQ as it was and BL_WRITE_REJECTED at 1, also where the same write clears it (R16). -/
theorem Dev.writeBlsel_refused_fields {d : Dev} {v : Nat} (hr : Map.rising d.regs = true) (hopen : d.isSealed = false)
    (hnew : bitsAt v 0 8 ≠ d.get Reg.GLOBAL_BLSEL.BL_REQ 0) (hbad : bitsAt v 0 8 = 0 ∨ d.part.stepping.blMax < bitsAt v 0 8) :
    (d.writeBlsel v).get Reg.GLOBAL_BLSEL.BL_REQ 0 = d.get Reg.GLOBAL_BLSEL.BL_REQ 0
      ∧ (d.writeBlsel v).get Reg.GLOBAL_BLSEL.BL_WRITE_REJECTED 0 = 1 := by
  rw [Dev.writeBlsel_of_refused hopen hnew hbad]
  have hc := Dev.clearIf_rising hr (bitAt v 17) Reg.GLOBAL_BLSEL.BL_WRITE_REJECTED 0
  exact ⟨(Dev.get_put_of_key_ne hc blReq_key_ne_rejected.symm 1).trans (Dev.get_clearIf_of_key_ne hr blReq_key_ne_rejected.symm _),
    Dev.get_put_self hc ..⟩

theorem Dev.writeBlsel_ignored_fields {d : Dev} {v : Nat} (hr : Map.rising d.regs = true)
    (h : d.isSealed = true ∨ bitsAt v 0 8 = d.get Reg.GLOBAL_BLSEL.BL_REQ 0) :
    (d.writeBlsel v).get Reg.GLOBAL_BLSEL.BL_REQ 0 = d.get Reg.GLOBAL_BLSEL.BL_REQ 0
      ∧ (d.writeBlsel v).get Reg.GLOBAL_BLSEL.BL_WRITE_REJECTED 0 = if bitAt v 17 then 0 else d.get Reg.GLOBAL_BLSEL.BL_WRITE_REJECTED 0 := by
  rw [Dev.writeBlsel_of_ignored h]
  exact ⟨Dev.get_clearIf_of_key_ne hr blReq_key_ne_rejected.symm _, Dev.get_clearIf_self hr ..⟩

theorem Dev.writeBlsel_accepted_fields {d : Dev} {v : Nat} (hr : Map.rising d.regs = true) (hopen : d.isSealed = false)
    (hgood : 1 ≤ bitsAt v 0 8 ∧ bitsAt v 0 8 ≤ d.part.stepping.blMax ∨ bitsAt v 0 8 = d.get Reg.GLOBAL_BLSEL.BL_REQ 0) :
    (d.writeBlsel v).get Reg.GLOBAL_BLSEL.BL_REQ 0 = bitsAt v 0 8
      ∧ (d.writeBlsel v).get Reg.GLOBAL_BLSEL.BL_WRITE_REJECTED 0 = if bitAt v 17 then 0 else d.get Reg.GLOBAL_BLSEL.BL_WRITE_REJECTED 0 := by
  by_cases hnew : bitsAt v 0 8 = d.get Reg.GLOBAL_BLSEL.BL_REQ 0
  · rw [hnew]
    exact Dev.writeBlsel_ignored_fields hr (.inr hnew)
  · rw [Dev.writeBlsel_of_accepted hopen hnew (by omega)]
    have hc := Dev.clearIf_rising hr (bitAt v 17) Reg.GLOBAL_BLSEL.BL_WRITE_REJECTED 0
    exact ⟨(Dev.get_putHost_self hc ..).trans (Nat.mod_mod _ _),
      (Dev.get_putHost_of_key_ne hc blReq_key_ne_rejected _).trans (Dev.get_clearIf_self hr ..)⟩

/-- A write of GLOBAL_BLSEL leaves the memory and every field but BL_REQ and BL_WRITE_REJECTED as they are. -/
theorem Dev.writeBlsel_frame {d : Dev} (hr : Map.rising d.regs = true) (v : Nat) :
    (d.writeBlsel v).mem = d.mem ∧ ∀ (f : Fld) (i : Nat), f.key i ≠ Reg.GLOBAL_BLSEL.BL_REQ.key 0 →
      f.key i ≠ Reg.GLOBAL_BLSEL.BL_WRITE_REJECTED.key 0 → (d.writeBlsel v).get f i = d.get f i := by
  have hc := Dev.clearIf_rising hr (bitAt v 17) Reg.GLOBAL_BLSEL.BL_WRITE_REJECTED 0
  by_cases hign : d.isSealed = true ∨ bitsAt v 0 8 = d.get Reg.GLOBAL_BLSEL.BL_REQ 0
  · rw [Dev.writeBlsel_of_ignored hign]
    exact ⟨Dev.clearIf_mem .., fun f i _ hrej => Dev.get_clearIf_of_key_ne hr hrej.symm _⟩
  · obtain ⟨hseal, hnew⟩ := not_or.1 hign
    have hopen := Bool.eq_false_iff.2 hseal
    by_cases hbad : bitsAt v 0 8 = 0 ∨ d.part.stepping.blMax < bitsAt v 0 8
    · rw [Dev.writeBlsel_of_refused hopen hnew hbad]
      exact ⟨Dev.clearIf_mem .., fun f i _ hrej =>
        (Dev.get_put_of_key_ne hc hrej.symm 1).trans (Dev.get_clearIf_of_key_ne hr hrej.symm _)⟩
    · rw [Dev.writeBlsel_of_accepted hopen hnew hbad]
      exact ⟨(Dev.putHost_mem ..).trans (Dev.clearIf_mem ..), fun f i hreq hrej =>
        (Dev.get_putHost_of_key_ne hc hreq.symm _).trans (Dev.get_clearIf_of_key_ne hr hrej.symm _)⟩

/-! ### A byte of the shared memory read after a write -/

theorem memGet_memSet {m : List Host.Cell} (h : Memory.wf m = true) (a k : Nat) (b : Byte) :
    memGet (memSet m a b) k = if a = k then b else memGet m k :=
  Map.get_set ((Map.wf_iff _ m).1 h).1 a k b 0

theorem memGet_memSetMany_outside {m : List Host.Cell} (h : Memory.wf m = true) {a k : Nat} {bs : List Nat} (hk : k < a ∨ a + bs.length ≤ k) :
    memGet (memSetMany m a bs) k = memGet m k := by
  induction bs generalizing m a with
  | nil => rfl
  | cons b t ih =>
    rw [List.length_cons] at hk
    have htail : memGet (memSetMany m a (b :: t)) k = memGet (memSet m a (BitVec.ofNat 8 b)) k := ih (memSet_wf a _ h) (by omega)
    rw [htail, memGet_memSet h, if_neg (by omega)]

theorem memGet_memSetMany_inside {m : List Host.Cell} (h : Memory.wf m = true) (a : Nat) {j : Nat} {bs : List Nat} (hj : j < bs.length) :
    memGet (memSetMany m a bs) (a + j) = BitVec.ofNat 8 (bs.getD j 0) := by
  induction bs generalizing m a j with
  | nil => exact absurd hj (Nat.not_lt_zero j)
  | cons b t ih =>
    have hm := memSet_wf a (BitVec.ofNat 8 b) h
    cases j with
    | zero =>
      have htail : memGet (memSetMany m a (b :: t)) (a + 0) = memGet (memSet m a (BitVec.ofNat 8 b)) (a + 0) :=
        memGet_memSetMany_outside hm (.inl (Nat.lt_succ_self a))
      rw [htail, Nat.add_zero, memGet_memSet h, if_pos rfl, List.getD_cons_zero]
    | succ j =>
      rw [show a + (j + 1) = a + 1 + j by omega, List.getD_cons_succ]
      exact ih hm (a + 1) (Nat.lt_of_succ_lt_succ hj)

@[simp] theorem length_xorBytes (bs : List Nat) (x : Nat) : (xorBytes bs x).length = bs.length := List.length_mapIdx

@[simp] theorem length_wordBytes (m : List Host.Cell) (w : Nat) : (wordBytes m w).length = 32 := by
  simp [wordBytes, memBytes]

theorem getD_xorBytes_wordBytes (m : List Host.Cell) (w x : Nat) {j : Nat} (hj : j < 32) :
    (xorBytes (wordBytes m w) x).getD j 0 = Nat.xor (memGet m (32 * w + j)).toNat (x / 2 ^ (8 * j) % 256) := by
  simp [xorBytes, wordBytes, memBytes, List.getD_eq_getElem?_getD, hj]

/-- A word stored with the wrong bits `x` put in: each of its bytes has those of its place. -/
theorem memGet_memSetMany_xorBytes {m : List Host.Cell} (h : Memory.wf m = true) (x a : Nat) :
    (memGet (memSetMany m (32 * (a / 32)) (xorBytes (wordBytes m (a / 32)) x)) a).toNat
      = Nat.xor (memGet m a).toNat (x / 2 ^ (8 * (a % 32)) % 256) := by
  have hj : a % 32 < 32 := Nat.mod_lt a (by decide)
  have hbyte := memGet_memSetMany_inside h (32 * (a / 32)) (j := a % 32) (bs := xorBytes (wordBytes m (a / 32)) x) (by simpa using hj)
  rw [getD_xorBytes_wordBytes m (a / 32) x hj, Nat.div_add_mod] at hbyte
  rw [hbyte, BitVec.toNat_ofNat]
  exact Nat.mod_eq_of_lt (Nat.xor_lt_two_pow (BitVec.isLt _) (Nat.mod_lt _ (by decide)))

/-! ### Events of an uncorrectable word -/

theorem Dev.raise_events (d : Dev) (code src : Nat) (detail : List Nat) :
    (d.raise code src detail).events = if d.events.length < 256
      then d.events ++ [{ seq := d.evSeq, code := code, src := src, time := d.tick, detail := detail16 detail }] else d.events := by
  unfold Dev.raise Dev.raiseAt
  split <;> rfl

/-- MEM_UNCORRECTABLE does not depend on what the memory holds. -/
theorem Dev.raiseMemUnc_events_of_memory (d : Dev) (m : List Host.Cell) (e : Map Nat) (w reader : Nat) :
    ({ d with mem := m, memErr := e }.raiseMemUnc w reader).events = (d.raiseMemUnc w reader).events := by
  simp only [Dev.raiseMemUnc, Dev.raise_events]
  rfl

theorem Dev.raiseMemUnc_events_of_begin (d : Dev) (w reader : Nat) : (d.begin.raiseMemUnc w reader).events = (d.raiseMemUnc w reader).events := by
  simp only [Dev.raiseMemUnc, Dev.raise_events]
  rfl

theorem Dev.raiseMemUnc_memory (d : Dev) (w reader : Nat) : (d.raiseMemUnc w reader).mem = d.mem ∧ (d.raiseMemUnc w reader).memErr = d.memErr :=
  (Dev.raiseMemUnc_same w reader (Dev.Same.refl true false false false false false d)).1

/-! ### A word settled before a narrow write (R34) -/

theorem decodeErr_zero : decodeErr 0 = .clean 0 := by decide +kernel

/-- A write of less than a word does not cover the word. -/
theorem not_covers_word {a w n : Nat} (hn : n < 32) : ¬ (a ≤ 32 * w ∧ 32 * w + 32 ≤ a + n) := by omega

theorem Dev.settleWord_of_no_error {d : Dev} {w : Nat} (he : Map.get d.memErr w 0 = 0) (a n reader : Nat) : d.settleWord w a n reader = d :=
  if_pos he

theorem Dev.settleWord_of_uncorrectable {d : Dev} {w n : Nat} (hn : n < 32) (hdec : decodeErr (Map.get d.memErr w 0) = .uncorrectable) (a reader : Nat) :
    d.settleWord w a n reader = { d with mem := memSetMany d.mem (32 * w) (List.replicate 32 0), memErr := Map.set d.memErr w 0 0 }.raiseMemUnc w reader := by
  have he : Map.get d.memErr w 0 ≠ 0 := fun h0 => by rw [h0, decodeErr_zero] at hdec; cases hdec
  simp [Dev.settleWord, he, not_covers_word hn, hdec]

theorem Dev.settleWord_memory_of_uncorrectable {d : Dev} {w n : Nat} (hn : n < 32) (hdec : decodeErr (Map.get d.memErr w 0) = .uncorrectable)
    (a reader : Nat) : (d.settleWord w a n reader).mem = memSetMany d.mem (32 * w) (List.replicate 32 0)
      ∧ (d.settleWord w a n reader).memErr = Map.set d.memErr w 0 0 := by
  simp only [Dev.settleWord_of_uncorrectable hn hdec, Dev.raiseMemUnc_memory, and_self]

theorem Dev.settleWord_memory_of_decoded {d : Dev} {w n x : Nat} (hn : n < 32) (he : Map.get d.memErr w 0 ≠ 0)
    (hdec : decodeErr (Map.get d.memErr w 0) = .clean x ∨ decodeErr (Map.get d.memErr w 0) = .corrected x) (a reader : Nat) :
    (d.settleWord w a n reader).mem = memSetMany d.mem (32 * w) (xorBytes (wordBytes d.mem w) x)
      ∧ (d.settleWord w a n reader).memErr = Map.set d.memErr w 0 0 := by
  rcases hdec with hdec | hdec <;> simp [Dev.settleWord, he, not_covers_word hn, hdec, Dev.bump]

/-- Every error pattern is decoded to some wrong bits, possibly none, or reported. -/
theorem decodeErr_cases (e : Nat) : (∃ x, decodeErr e = .clean x ∨ decodeErr e = .corrected x) ∨ decodeErr e = .uncorrectable := by
  cases h : decodeErr e with
  | clean x => exact .inl ⟨x, .inl rfl⟩
  | corrected x => exact .inl ⟨x, .inr rfl⟩
  | uncorrectable => exact .inr rfl

/-- The settled word has a fresh code word. -/
theorem Dev.settleWord_memErr {d : Dev} (hr : Map.rising d.memErr = true) {w n : Nat} (hn : n < 32) (a reader : Nat) :
    Map.get (d.settleWord w a n reader).memErr w 0 = 0 := by
  have hset : Map.get (Map.set d.memErr w 0 0) w 0 = 0 := (Map.get_set hr w w 0 0).trans (if_pos rfl)
  by_cases he : Map.get d.memErr w 0 = 0
  · rw [Dev.settleWord_of_no_error he, he]
  · rcases decodeErr_cases (Map.get d.memErr w 0) with ⟨x, hdec⟩ | hdec
    · rw [(Dev.settleWord_memory_of_decoded hn he hdec a reader).2, hset]
    · rw [(Dev.settleWord_memory_of_uncorrectable hn hdec a reader).2, hset]

theorem Dev.settleWord_byte_of_other_word {d : Dev} (hm : Memory.wf d.mem = true) {w n k : Nat} (hn : n < 32) (hk : k / 32 ≠ w) (a reader : Nat) :
    memGet (d.settleWord w a n reader).mem k = memGet d.mem k := by
  by_cases he : Map.get d.memErr w 0 = 0
  · rw [Dev.settleWord_of_no_error he]
  · rcases decodeErr_cases (Map.get d.memErr w 0) with ⟨x, hdec⟩ | hdec
    · rw [(Dev.settleWord_memory_of_decoded hn he hdec a reader).1]
      refine memGet_memSetMany_outside hm ?_
      rw [length_xorBytes, length_wordBytes]
      omega
    · rw [(Dev.settleWord_memory_of_uncorrectable hn hdec a reader).1]
      refine memGet_memSetMany_outside hm ?_
      rw [List.length_replicate]
      omega

theorem Dev.settleWord_byte_of_decoded {d : Dev} (hm : Memory.wf d.mem = true) {n k x : Nat} (hn : n < 32)
    (hdec : decodeErr (Map.get d.memErr (k / 32) 0) = .clean x ∨ decodeErr (Map.get d.memErr (k / 32) 0) = .corrected x) (a reader : Nat) :
    (memGet (d.settleWord (k / 32) a n reader).mem k).toNat = Nat.xor (memGet d.mem k).toNat (x / 2 ^ (8 * (k % 32)) % 256) := by
  by_cases he : Map.get d.memErr (k / 32) 0 = 0
  · have hx : x = 0 := by simpa [he, decodeErr_zero, eq_comm] using hdec
    rw [Dev.settleWord_of_no_error he, hx, Nat.zero_div]
    exact (Nat.xor_zero _).symm
  · rw [(Dev.settleWord_memory_of_decoded hn he hdec a reader).1]
    exact memGet_memSetMany_xorBytes hm x k

theorem Dev.settleWord_byte_of_uncorrectable {d : Dev} (hm : Memory.wf d.mem = true) {n k : Nat} (hn : n < 32)
    (hdec : decodeErr (Map.get d.memErr (k / 32) 0) = .uncorrectable) (a reader : Nat) :
    memGet (d.settleWord (k / 32) a n reader).mem k = 0 := by
  have hj : k % 32 < 32 := Nat.mod_lt k (by decide)
  rw [(Dev.settleWord_memory_of_uncorrectable hn hdec a reader).1]
  have hbyte := memGet_memSetMany_inside hm (32 * (k / 32)) (j := k % 32) (bs := List.replicate 32 0) (by simpa using hj)
  rw [Nat.div_add_mod, List.getD_eq_getElem?_getD, List.getElem?_replicate, if_pos hj] at hbyte
  exact hbyte

/-! ### A BAR4 write within one word (R34, R53) -/

theorem touched_words_within_word {off : Nat} {bs : List Nat} (hne : bs ≠ []) (hw : off % 32 + bs.length ≤ 32) :
    (off + bs.length - 1) / 32 + 1 - off / 32 = 1 := by
  have hpos := List.length_pos_iff.2 hne
  omega

theorem Dev.memWrite_within_word {d : Dev} {off : Nat} {bs : List Nat} (hne : bs ≠ []) (hw : off % 32 + bs.length ≤ 32) (reader : Nat) :
    d.memWrite off bs reader
      = { d.settleWord (off / 32) off bs.length reader with mem := memSetMany (d.settleWord (off / 32) off bs.length reader).mem off bs } := by
  have hone := touched_words_within_word hne hw
  simp [Dev.memWrite, hne, hone]

theorem Dev.bar4Put_within_word {d : Dev} {off : Nat} {bs : List Nat} (hne : bs ≠ []) (hw : off % 32 + bs.length ≤ 32)
    (hhost : d.hostWord (off / 32) = true) : d.bar4Put off bs = d.memWrite off bs 5 := by
  have hone := touched_words_within_word hne hw
  have hmax : max off (32 * (off / 32)) = off := by omega
  have htake : bs.take (32 * (off / 32) + 32 - off) = bs := List.take_of_length_le (by omega)
  simp [Dev.bar4Put, hne, hone, hhost, hmax, htake]

/-- Host writes reach only words of the shared memory. -/
theorem Dev.lt_memWords_of_hostWord {d : Dev} {w : Nat} (h : d.hostWord w = true) : w < memWords := by
  simp only [Dev.hostWord, Bool.and_eq_true, decide_eq_true_eq, and_assoc] at h
  exact h.1

theorem exec_bar4Write_within_word {s : State} {off : Nat} {bs : List Nat} (hopen : s.dev.hostOpen = true) (hfrozen : s.dev.frozen = false)
    (hne : bs ≠ []) (hw : off % 32 + bs.length ≤ 32) (hhost : s.dev.hostWord (off / 32) = true) :
    exec (.bar4Write off bs []) s = .next (s.withDev (s.dev.begin.memWrite off bs 5)) := by
  have hlt : off / 32 < 393216 := Dev.lt_memWords_of_hostWord hhost
  have hfits : ¬ 16777216 < off + bs.length := by omega
  have hopen' : s.dev.begin.hostOpen = true := hopen
  have hfrozen' : s.dev.begin.frozen = false := hfrozen
  have hput : (s.dev.begin.upset []).bar4Put off bs = s.dev.begin.memWrite off bs 5 := Dev.bar4Put_within_word hne hw hhost
  change execBar4Write off bs [] s = _
  simp [execBar4Write, State.onDev_eq, hopen', hfrozen', hne, hfits, hput]

end Sys2Proof.Machine

section
open Sys2Proof Sys2Proof.Machine

/-- Settles O54: SEAL and OWNER_STATE change together only where OWNER_STATE is OWNED; else the write is refused. -/
theorem sealFollowsOwnership : Obligations.SealFollowsOwnership := by
  unfold Obligations.SealFollowsOwnership
  intro s v hcanon htakes hv hopen
  obtain ⟨-, -, hr, -, -⟩ := State.begin_kept hcanon
  exact ⟨fun howned => ⟨_, exec_sealWrite htakes v, Dev.writeSeal_owned_fields hr hv hopen howned⟩,
    fun hmade hseal => ⟨_, exec_sealWrite htakes v, Dev.writeSeal_manufactured_fields hr hv hmade hseal⟩⟩

/-- Settles O55: a write is ignored, refused or accepted, and each outcome reads as R57 says. -/
theorem behaviourLevelRequestsAreChecked : Obligations.BehaviourLevelRequestsAreChecked := by
  unfold Obligations.BehaviourLevelRequestsAreChecked
  intro s v hcanon htakes
  obtain ⟨-, -, hr, -, -⟩ := State.begin_kept hcanon
  exact ⟨_, exec_blReqWrite htakes v, fun hopen hbad hnew => Dev.writeBlsel_refused_fields hr hopen hnew hbad,
    fun hopen hgood => Dev.writeBlsel_accepted_fields hr hopen hgood, fun hsealed => Dev.writeBlsel_ignored_fields hr (.inl hsealed),
    Dev.writeBlsel_frame hr v⟩

/-- Settles O49: the one touched word is settled first and the bytes are stored over what the settling left. -/
theorem narrowWritesMergeIntoTheWord : Obligations.NarrowWritesMergeIntoTheWord := by
  unfold Obligations.NarrowWritesMergeIntoTheWord
  intro s off bytes hcanon hopen hfrozen hne hn hw hhost
  have hkept := State.begin_kept hcanon
  obtain ⟨-, hsettled, -, -, -⟩ := Dev.settleWord_kept (off / 32) off bytes.length 5 hkept
  obtain ⟨-, hm, -, -, herr⟩ := hkept
  obtain ⟨herrRising, -⟩ := (Map.wf_iff _ _).1 herr
  refine ⟨_, exec_bar4Write_within_word hopen hfrozen hne hw hhost, ?_⟩
  rw [Dev.memWrite_within_word hne hw]
  refine ⟨fun j hj => ?_, Dev.settleWord_memErr herrRising hn off 5, fun a ha => ?_, fun x hdec a ha hout => ?_,
    fun hdec => ⟨fun a ha hout => ?_, ?_⟩⟩
  · exact (congrArg BitVec.toNat (memGet_memSetMany_inside hsettled off hj)).trans (BitVec.toNat_ofNat _ 8)
  · exact (memGet_memSetMany_outside hsettled (by omega)).trans (Dev.settleWord_byte_of_other_word hm hn ha off 5)
  · rw [← ha] at hdec hsettled ⊢
    exact (congrArg BitVec.toNat (memGet_memSetMany_outside hsettled hout)).trans (Dev.settleWord_byte_of_decoded hm hn hdec off 5)
  · rw [← ha] at hdec hsettled ⊢
    exact (memGet_memSetMany_outside hsettled hout).trans (Dev.settleWord_byte_of_uncorrectable hm hn hdec off 5)
  · rw [Dev.settleWord_of_uncorrectable (d := s.dev.begin) hn hdec]
    exact (Dev.raiseMemUnc_events_of_memory ..).trans (Dev.raiseMemUnc_events_of_begin ..)

end
end

section
/-! SUPPORT. The statements of 03_measurement.md: the refusals of MEAS_CAPTURE (R128), and the settled obligation. -/

namespace Sys2Proof.Machine
open Sys2Proof

/-- The bytes that the table names for a capture by tick (kind 0) and by shot (kind 1) (R131). -/
theorem captureBytes_of_kind {k : Nat} {named : List (Nat × Nat)} {x : Desc}
    (hk : (k, named) ∈ [(0, [(12, 19), (32, 32)]), (1, [(12, 12), (28, 3), (32, 32)])]) (hx : x.byte 17 = k) : captureBytes x = named := by
  simp only [List.mem_cons, Prod.mk.injEq, List.not_mem_nil, or_false] at hk
  rcases hk with ⟨rfl, rfl⟩ | ⟨rfl, rfl⟩ <;> simp [captureBytes, hx]

/-- A MEAS_CAPTURE of either trigger kind acts as its body does: its kind picks the bytes that the head's checks let pass. -/
theorem Acts.measCapture {k : Nat} {named : List (Nat × Nat)} {pre : Desc → Dev → Prop} {post : Nat → Desc → Dev → Dev}
    (hk : (k, named) ∈ [(0, [(12, 19), (32, 32)]), (1, [(12, 12), (28, 3), (32, 32)])]) (hkind : ∀ x d, pre x d → x.byte 17 = k)
    (hbody : ∀ id x d, pre x d → bodyMeasCapture id x d = post id x d) : Acts .measCapture 0x0204 named pre post := by
  intro s q x hacc hpre
  change Host.Outcome.next (s.withDev (s.dev.begin.submit q x 0x0204 (captureBytes x) bodyMeasCapture)) = _
  rw [captureBytes_of_kind hk (hkind x _ hpre), Dev.submit_accepts bodyMeasCapture hacc, hbody _ x _ hpre]
  rfl

/-- The operands of a MEAS_CAPTURE pass the checks before the one of its converters (R125, R126, R131): its group is on the part, the kind, counts and
times are in range, its samples fit in the memory, and its channels and bank are handles of their dies and class. -/
structure CaptureLawful (x : Desc) (d : Dev) : Prop where
  group : x.byte 16 ≤ 2
  onGrade : x.byte 16 = 0 ∨ d.part.grade = .f
  kind : x.byte 17 ≤ 1
  someSample : 1 ≤ x.u16 18
  samples : x.u16 18 ≤ 4096
  phase : x.u16 28 ≤ 499
  gain : x.byte 30 ≤ 4
  inTime : x.byte 17 = 0 → d.tick + 3 ≤ x.u64 20
  bank : x.byte 17 = 1 → isNull (x.u32 20) = false ∧ d.isHandle clsBANK (x.u32 20) = true
  fits : x.u32 12 + (2 * x.u16 18 + 31) / 32 * (groupConvs (x.byte 16)).length ≤ memWords
  channels : ∀ j, j < (groupConvs (x.byte 16)).length →
    d.dieChannel (convDie ((groupConvs (x.byte 16)).getD j 0)) (x.u32 (32 + 4 * j)) = true

/-- The check of the channels, as the body of MEAS_CAPTURE writes it, finds none wrong. -/
theorem CaptureLawful.channels_checked {x : Desc} {d : Dev} (h : CaptureLawful x d) :
    ((List.range (groupConvs (x.byte 16)).length).any fun j => !d.dieChannel (convDie ((groupConvs (x.byte 16)).getD j 0))
      (((List.range (groupConvs (x.byte 16)).length).map fun j => x.u32 (32 + 4 * j)).getD j 0)) = false := by
  rw [List.any_eq_false]
  intro j hj
  have hlt := List.mem_range.1 hj
  have hchan : ((List.range (groupConvs (x.byte 16)).length).map fun j => x.u32 (32 + 4 * j)).getD j 0 = x.u32 (32 + 4 * j) := by
    simp [List.getD_eq_getElem?_getD, hlt]
  rw [hchan, h.channels j hlt]
  decide

/-- R128: lawful operands pass every check before the one of the converters, which finds one busy. -/
theorem bodyMeasCapture_of_busy {x : Desc} {d : Dev} (h : CaptureLawful x d) (hbusy : ∃ c ∈ groupConvs (x.byte 16), d.convBusy c = true) (id : Nat) :
    bodyMeasCapture id x d = d.fail id .refusedBusy := by
  have hgroup : ¬ 2 < x.byte 16 := Nat.not_lt.2 h.group
  have habsent : ¬ (1 ≤ x.byte 16 ∧ d.part.grade = .s) := by
    rcases h.onGrade with h0 | hf
    · omega
    · simp [hf]
  have hrange : ¬ (1 < x.byte 17 ∨ x.u16 18 = 0 ∨ 4096 < x.u16 18 ∨ 499 < x.u16 28 ∨ 4 < x.byte 30) := by
    obtain ⟨-, -, hkind, hsome, hsamples, hphase, hgain, -⟩ := h
    omega
  have hbank : ¬ (x.byte 17 = 1 ∧ (isNull (x.u32 20) = true ∨ d.isHandle clsBANK (x.u32 20) = false)) := by
    rintro ⟨hshot, hbad⟩
    simp [h.bank hshot] at hbad
  have hfits : ¬ memWords < x.u32 12 + (2 * x.u16 18 + 31) / 32 * (groupConvs (x.byte 16)).length := Nat.not_lt.2 h.fits
  have hlate : ¬ (x.byte 17 = 0 ∧ x.u64 20 < d.tick + 3) := fun ⟨htick, hlt⟩ => Nat.not_le.2 hlt (h.inTime htick)
  simp only [bodyMeasCapture, Bool.and_eq_true, Bool.or_eq_true, Bool.not_eq_true', decide_eq_true_eq, or_assoc, if_neg hgroup, if_neg habsent,
    if_neg hrange, h.channels_checked, if_neg Bool.false_ne_true, if_neg hbank, if_neg hfits, if_neg hlate, if_pos (List.any_eq_true.2 hbusy)]

/-- R128: a group of the second die's converters, or of both dies', is absent from the S grade. -/
theorem bodyMeasCapture_of_absent_group {x : Desc} {d : Dev} (hgroup : x.byte 16 = 1 ∨ x.byte 16 = 2) (hgrade : d.part.grade = .s) (id : Nat) :
    bodyMeasCapture id x d = d.fail id .badObject := by
  have hgroups : ¬ 2 < x.byte 16 := by omega
  have hone : 1 ≤ x.byte 16 := by omega
  simp [bodyMeasCapture, hgroups, hone, hgrade]

end Sys2Proof.Machine

section
open Sys2Proof Sys2Proof.Machine

/-- Settles O59: each refusal is the outcome of the one check of the capture's body that finds what is wrong. -/
theorem capturesOfBusyConvertersAreRefused : Obligations.CapturesOfBusyConvertersAreRefused := by
  unfold Obligations.CapturesOfBusyConvertersAreRefused
  refine ⟨fun k named hk => Acts.measCapture hk ?_ ?_, fun k named hk => Acts.measCapture hk ?_ ?_⟩
  · rintro x d ⟨-, -, hkind, -⟩
    exact hkind
  · rintro id x d ⟨hgroup, hgrade, hkind, hsome, hsamples, hphase, hgain, htick, hbank, hdest, hchans, hbusy⟩
    have hle : x.byte 17 ≤ 1 := by
      simp only [List.mem_cons, Prod.mk.injEq, List.not_mem_nil, or_false] at hk
      omega
    exact bodyMeasCapture_of_busy ⟨hgroup, hgrade, hle, hsome, hsamples, hphase, hgain, htick, hbank, hdest, hchans⟩ hbusy id
  · rintro x d ⟨hkind, -⟩
    exact hkind
  · rintro id x d ⟨-, hgroup, hgrade⟩
    exact bodyMeasCapture_of_absent_group hgroup hgrade id

end
end

section
/-! SUPPORT. The statements of 09_valve_drive_shuttle.md: what a channel's state reads after a fault (R361), the peak phase past PEAK_MAX (R358), and
the settled obligation. -/

namespace Sys2Proof.Machine
open Sys2Proof

/-! ### A channel read after a write -/

/-- A channel in FAULT is not as at its start, so it is listed and reads back whatever else the table lists. -/
theorem Dev.setSol_sol_of_fault {x : SolSt} (h : x.state = .fault) (d : Dev) (c : Nat) : (d.setSol c x).sol c = x := by
  have hlisted : x ≠ SolSt.init := by
    rintro rfl
    cases h
  change Map.get (Map.set d.shut.sols c x SolSt.init) c SolSt.init = x
  rw [Map.set, if_neg hlisted, Map.get_insert_self]

/-- The shuttle's state holds every channel. -/
theorem Dev.sol_of_shut_eq {d e : Dev} (h : e.shut = d.shut) (c : Nat) : e.sol c = d.sol c := by
  unfold Dev.sol
  rw [h]

@[simp] theorem Dev.driveBank_sol (d : Dev) (b c : Nat) : (d.driveBank b).sol c = d.sol c := rfl

@[simp] theorem Dev.setFd_sol (d : Dev) (k : Nat) (x : DieSt) (c : Nat) : (d.setFd k x).sol c = d.sol c := by
  unfold Dev.setFd
  split <;> rfl

@[simp] theorem Dev.dieRaise_sol (d : Dev) (k code src : Nat) (detail : List Nat) (c : Nat) : (d.dieRaise k code src detail).sol c = d.sol c := by
  simp only [Dev.dieRaise]
  split <;> exact Dev.setFd_sol ..

@[simp] theorem Dev.solFaultEvent_sol (d : Dev) (k : Nat) (on : Bool) (cause pc c : Nat) : (d.solFaultEvent k on cause pc).sol c = d.sol c :=
  Dev.dieRaise_sol ..

/-- A completion concerns the host's rings and the channel's writer alone (R344, R366). -/
@[simp] theorem Dev.solComplete_sol (d : Dev) (k : Nat) (st : Status) (outcome c : Nat) : (d.solComplete k st outcome).sol c = d.sol c := by
  obtain ⟨-, ⟨-, -, -, -, -, -, -, -, -, -, hshut, -⟩, -⟩ :=
    Dev.solComplete_same k st outcome (Dev.Same.refl false true false false false false d)
  exact Dev.sol_of_shut_eq hshut c

/-! ### A channel fault (R361) -/

/-- A shot that a fault ends leaves its channel in FAULT, energised or not; only a shot that ends ENDING may leave it OFF instead. -/
theorem Dev.solEnd_fault_sol (d : Dev) (c : Nat) (path : SolPath) (st : Status) (outcome : Nat) :
    (d.solEnd c path .fault st outcome).sol c = { (d.endPeak c).sol c with
      state := .fault, path := if ((d.endPeak c).sol c).energised then path else .open, wait := .none, inRelease := false, origin := .level } := by
  simp [Dev.solEnd, Dev.setSol_sol_of_fault]

theorem Dev.solFault_sol (d : Dev) (c cause : Nat) (path : SolPath) :
    (d.solFault c cause path).sol c = { (d.solEnd c path .fault .dataError 2).sol c with cause := cause, skipRetry := false } := by
  have hend : ((d.solEnd c path .fault .dataError 2).sol c).state = .fault := by rw [Dev.solEnd_fault_sol]
  simp [Dev.solFault, Dev.setSol_sol_of_fault, hend]

theorem Dev.solFault_state_cause (d : Dev) (c cause : Nat) (path : SolPath) :
    ((d.solFault c cause path).sol c).state = .fault ∧ ((d.solFault c cause path).sol c).cause = cause := by
  rw [Dev.solFault_sol, Dev.solEnd_fault_sol]
  exact ⟨rfl, rfl⟩

theorem Dev.solFault_mem_tick (d : Dev) (c cause : Nat) (path : SolPath) :
    (d.solFault c cause path).mem = d.mem ∧ (d.solFault c cause path).tick = d.tick := by
  obtain ⟨⟨hmem, -⟩, -, -, -, -, htick, -⟩ := Dev.solFault_same c cause path (Dev.Same.refl true false false false false true d)
  exact ⟨hmem, htick⟩

/-! ### The peak phase past PEAK_MAX (R358) -/

/-- R358: the fault is the outcome in a channel of the part in PEAK for PEAK_MAX or longer. -/
theorem runs_peakMaxExpiry (c : Nat) : Runs (.peakMaxExpiry c)
    (fun d => d.solHere c = true ∧ (d.sol c).state = .peak ∧ (d.sol c).peakAt + 5000 * (d.sol c).peakMax ≤ d.solTime c 499)
    (fun d => d.solFault c 5 .clamped) := by
  rintro s ⟨hhere, hpeak, hlong⟩
  change execPeakMaxExpiry c s = _
  simp [execPeakMaxExpiry, State.onDev_eq, hhere, hpeak, hlong]

end Sys2Proof.Machine

section
open Sys2Proof Sys2Proof.Machine

/-- Settles O56: past PEAK_MAX the row is a channel fault of cause 5, which leaves the channel in FAULT and touches neither memory nor time. -/
theorem longPeakPhasesFault : Obligations.LongPeakPhasesFault := by
  unfold Obligations.LongPeakPhasesFault
  intro s c hhere hpeak hlong
  obtain ⟨hstate, hcause⟩ := Dev.solFault_state_cause s.dev.begin c 5 .clamped
  obtain ⟨hmem, htick⟩ := Dev.solFault_mem_tick s.dev.begin c 5 .clamped
  exact ⟨_, runs_peakMaxExpiry c s ⟨hhere, hpeak, hlong⟩, hstate, hcause, hmem, htick⟩

end
end

section
/-! SUPPORT. What every command keeps of the device: the canonical form of its tables with the part, and the kinds of state that it is not listed to
change. One lemma per command, the table of all of them, and what follows for a step and for the run of a queue. -/

namespace Sys2Proof.Machine
open Sys2Proof

/-! ### Each command keeps the canonical form -/

/-- A command keeps the canonical form of the tables and the part. -/
def Keeps (f : State → Host.Outcome State Fault Refusal) : Prop :=
  ∀ (pt : Part) (s t : State), s.dev.Kept pt → f s = .next t → t.dev.Kept pt

theorem Keeps.onDev {f : Dev → Dev} (hf : ∀ (pt : Part) (d : Dev), d.Kept pt → (f d).Kept pt) : Keeps fun s => s.onDev f := by
  intro pt s t hk h
  injection h with h
  subst h
  exact hf _ _ (Dev.begin_kept hk)

theorem Keeps.submit {q : Nat} {x : Desc} {op : Nat} {named : List (Nat × Nat)} {body : Nat → Desc → Dev → Dev}
    (hbody : ∀ (pt : Part) (id : Nat) (x : Desc) (d : Dev), d.Kept pt → (body id x d).Kept pt) :
    Keeps fun s => s.onDev fun d => d.submit q x op named body :=
  .onDev fun _ _ h => Dev.submit_kept _ _ _ _ _ h (hbody _)

theorem execNop_keeps (q : Nat) (x : Desc) : Keeps (execNop q x) := .submit fun _ _ _ _ => bodyNop_kept _ _

theorem execDescriptorFetched_keeps (q : Nat) (ds : Option (List Desc)) : Keeps (execDescriptorFetched q ds) := .onDev fun _ d h => by
  repeat' first
    | (with_reducible first
        | assumption | intro _ | apply Dev.ringFault_kept | apply Dev.takeDesc_kept | apply Dev.fail_kept | apply Dev.put_kept
        | apply Dev.Kept.canon | refine ite_kept ?_ ?_ | refine foldl_kept (fun _ _ _ => ?_) ?_ _ | refine foldl_snd_kept (fun _ _ _ => ?_) ?_ _)
    | split

theorem execFetchTimeout_keeps (q : Nat) : Keeps (execFetchTimeout q) := .onDev fun _ d h => by
  repeat' first | (with_reducible first | assumption | intro _ | apply Dev.ringFault_kept | apply Dev.Kept.canon | refine ite_kept ?_ ?_)

theorem execCompletionWrite_keeps (c : Nat) : Keeps (execCompletionWrite c) := .onDev fun _ d h => by
  repeat' first | (with_reducible first | assumption | intro _ | apply Dev.writeCompletion_kept | apply Dev.Kept.canon | refine ite_kept ?_ ?_)

theorem execMsixHoldoffEnd_keeps (r : Nat) : Keeps (execMsixHoldoffEnd r) := .onDev fun _ d h => by
  repeat' first
    | (with_reducible first
        | assumption | intro _ | apply Dev.ringSignal_kept | apply Dev.Kept.canon | refine ite_kept ?_ ?_)
    | split | (unfold Dev.Kept; dsimp only)

theorem execEventWrite_keeps : Keeps execEventWrite := .onDev fun _ d h => by
  repeat' first
    | (with_reducible first
        | assumption | intro _ | apply Dev.writeEvent_kept | apply Dev.readHeads_kept | apply Dev.Kept.canon | refine ite_kept ?_ ?_)

theorem execEventIntervalEnd_keeps (code : Nat) (src : Nat) : Keeps (execEventIntervalEnd code src) := .onDev fun _ d h => by
  repeat' first | (with_reducible first | assumption | intro _ | apply Dev.endInterval_kept | apply Dev.Kept.canon | refine ite_kept ?_ ?_)

theorem execSqTailDoorbell_keeps (q : Nat) (v : Nat) : Keeps (execSqTailDoorbell q v) := .onDev fun _ d h => by
  repeat' first
    | (with_reducible first
        | assumption | intro _ | apply Dev.hostBell_kept | apply Dev.ringTail_kept | apply Dev.Kept.canon | refine ite_kept ?_ ?_)

theorem execCqHeadDoorbell_keeps (c : Nat) (v : Nat) : Keeps (execCqHeadDoorbell c v) := .onDev fun _ d h => by
  repeat' first
    | (with_reducible first
        | assumption | intro _ | apply Dev.hostBell_kept | apply Dev.cqHead_kept | apply Dev.Kept.canon | refine ite_kept ?_ ?_)

theorem execEqHeadDoorbell_keeps (v : Nat) : Keeps (execEqHeadDoorbell v) := .onDev fun _ d h => by
  repeat' first | (with_reducible first | assumption | intro _ | apply Dev.hostBell_kept | apply Dev.eqHead_kept)

theorem execTqHeadDoorbell_keeps (t : Nat) (v : Nat) : Keeps (execTqHeadDoorbell t v) := .onDev fun _ d h => by
  repeat' first
    | (with_reducible first
        | assumption | intro _ | apply Dev.hostBell_kept | apply Dev.tqHead_kept | apply Dev.Kept.canon | refine ite_kept ?_ ?_)

theorem execHeartbeat_keeps (v : Nat) : Keeps (execHeartbeat v) := .onDev fun _ d h => by
  repeat' first | (with_reducible first | assumption | intro _ | apply Dev.hostBell_kept | apply Dev.heartbeat_kept)

theorem execTailWriteback_keeps (t : Nat) : Keeps (execTailWriteback t) := .onDev fun _ d h => by
  repeat' first
    | (with_reducible first
        | assumption | intro _ | apply Dev.emit_kept | apply Dev.ringSignal_kept | apply Dev.Kept.canon | refine ite_kept ?_ ?_)
    | split | (unfold Dev.Kept; dsimp only)

theorem execRingEnable_keeps (r : Nat) : Keeps (execRingEnable r) := .onDev fun _ d h => by
  repeat' first
    | (with_reducible first
        | assumption | intro _ | apply Dev.hostReg_kept | apply Dev.ringEnable_kept | apply Dev.Kept.canon | refine ite_kept ?_ ?_)

theorem execRingDisable_keeps (r : Nat) : Keeps (execRingDisable r) := .onDev fun _ d h => by
  repeat' first
    | (with_reducible first
        | assumption | intro _ | apply Dev.hostReg_kept | apply Dev.ringDisable_kept | apply Dev.Kept.canon | refine ite_kept ?_ ?_)

theorem execFenceClr_keeps (q : Nat) : Keeps (execFenceClr q) := .onDev fun _ d h => by
  repeat' first
    | (with_reducible first
        | assumption | intro _ | apply Dev.hostReg_kept | apply Dev.fenceClear_kept | apply Dev.Kept.canon | refine ite_kept ?_ ?_)

theorem execHostqWdogWrite_keeps (v : Nat) : Keeps (execHostqWdogWrite v) := .onDev fun _ d h => by
  repeat' first | (with_reducible first | assumption | intro _ | apply Dev.hostReg_kept | apply Dev.writeWdog_kept)

theorem execHostLost_keeps : Keeps execHostLost := .onDev fun _ d h => by
  repeat' first | (with_reducible first | assumption | intro _ | apply Dev.enterLost_kept | apply Dev.Kept.canon | refine ite_kept ?_ ?_)

theorem execPcieReset_keeps (kind : PcieResetKind) : Keeps (execPcieReset kind) := .onDev fun _ d h => by
  repeat' first | (with_reducible first | assumption | intro _ | apply Dev.linkDown_kept | apply Dev.pcieEvent_kept | apply Dev.Kept.canon) | split

theorem execPciePerstN_keeps : Keeps execPciePerstN := .onDev fun _ d h => by
  repeat' first | (with_reducible first | assumption | intro _ | apply Dev.pcieEvent_kept)

theorem execPcieLink_keeps (speed : Nat) (width : Nat) : Keeps (execPcieLink speed width) := .onDev fun _ d h => by
  repeat' first
    | (with_reducible first
        | assumption | intro _ | apply Dev.pcieUp_kept | apply Dev.Kept.canon | refine ite_kept ?_ ?_)
    | split | (unfold Dev.Kept; dsimp only)

theorem execBusRecv_keeps (q : Nat) (x : Desc) : Keeps (execBusRecv q x) := .submit fun _ _ _ _ => bodyBusRecv_kept _ _

theorem execMstpTimerExpiry_keeps (n : Nat) : Keeps (execMstpTimerExpiry n) := .onDev fun _ d h => by
  repeat' first
    | (with_reducible first
        | assumption | intro _ | apply Dev.mstpRing_kept | apply Dev.setBus_kept | apply Dev.put_kept | apply Dev.pollMaster_kept
        | apply Dev.passToken_kept | apply Dev.mstpEmit_kept | apply Dev.mstpToken_kept | apply Dev.Kept.canon | refine ite_kept ?_ ?_)
    | split | (unfold Dev.Kept; dsimp only)

theorem execMstpSilenceEnd_keeps (n : Nat) : Keeps (execMstpSilenceEnd n) := .onDev fun _ d h => by
  repeat' first
    | (with_reducible first
        | assumption | intro _ | apply Dev.mstpInit_kept | apply Dev.busMark_kept | apply Dev.Kept.canon | refine ite_kept ?_ ?_)

theorem execMstpFrame_keeps (n : Nat) (kind : Nat) (dest : Nat) (src : Nat) (data : List Nat) (crcOk : Bool)
    : Keeps (execMstpFrame n kind dest src data crcOk) := .onDev fun _ d h => by
  repeat' first
    | (with_reducible first
        | assumption | intro _ | apply Dev.busMark_kept | apply Dev.busCrc_kept | apply Dev.mstpReplied_kept | apply Dev.failSend_kept
        | apply Dev.mstpInit_kept | apply Dev.mstpRing_kept | apply Dev.setBus_kept | apply Dev.raise_kept | apply Dev.mstpInWait_kept
        | apply Dev.passToken_kept | apply Dev.put_kept | apply Dev.mstpToken_kept | apply Dev.mstpEmit_kept | apply Dev.mstpTake_kept
        | apply Dev.Kept.canon | refine ite_kept ?_ ?_)
    | split

theorem execMstpReplyWaitExpiry_keeps (n : Nat) : Keeps (execMstpReplyWaitExpiry n) := .onDev fun _ d h => by
  repeat' first
    | (with_reducible first
        | assumption | intro _ | apply Dev.setBus_kept | apply Dev.mstpEmit_kept | apply Dev.Kept.canon | refine ite_kept ?_ ?_)
    | split

theorem execMstpReplyTimeout_keeps (n : Nat) : Keeps (execMstpReplyTimeout n) := .onDev fun _ d h => by
  repeat' first
    | (with_reducible first
        | assumption | intro _ | apply Dev.busTimeout_kept | apply Dev.setBus_kept | apply Dev.mstpReplied_kept | apply Dev.failSend_kept
        | apply Dev.Kept.canon | refine ite_kept ?_ ?_)

theorem execModbusPollDue_keeps (n : Nat) (i : Nat) : Keeps (execModbusPollDue n i) := .onDev fun _ d h => by
  repeat' first
    | (with_reducible first
        | assumption | intro _ | apply Dev.setBus_kept | apply Dev.mbStart_kept | apply Dev.Kept.canon | refine ite_kept ?_ ?_)

theorem execModbusResponse_keeps (n : Nat) (bytes : List Nat) (good : Bool) : Keeps (execModbusResponse n bytes good) := .onDev fun _ d h => by
  repeat' first
    | (with_reducible first
        | assumption | intro _ | apply Dev.busFraming_kept | apply Dev.mbFailed_kept | apply Dev.busCrc_kept | apply Dev.endSend_kept
        | apply Dev.mbEnd_kept | apply Dev.entryResponse_kept | apply Dev.Kept.canon | refine ite_kept ?_ ?_)
    | split

theorem execModbusTimeout_keeps (n : Nat) : Keeps (execModbusTimeout n) := .onDev fun _ d h => by
  repeat' first
    | (with_reducible first
        | assumption | intro _ | apply Dev.setBus_kept | apply Dev.mbStart_kept | apply Dev.busTimeout_kept | apply Dev.mbFailed_kept
        | apply Dev.Kept.canon | refine ite_kept ?_ ?_)

theorem execModbusGap_keeps (n : Nat) : Keeps (execModbusGap n) := .onDev fun _ d h => by
  repeat' first
    | (with_reducible first
        | assumption | intro _ | apply Dev.busFraming_kept | apply Dev.mbFailed_kept | apply Dev.Kept.canon | refine ite_kept ?_ ?_)

theorem execRawFrameEnd_keeps (n : Nat) (bytes : List Nat) (good : Bool) : Keeps (execRawFrameEnd n bytes good) := .onDev fun _ d h => by
  repeat' first
    | (with_reducible first
        | assumption | intro _ | apply Dev.busFraming_kept | apply Dev.busDeliver_kept | apply Dev.Kept.canon | refine ite_kept ?_ ?_)

theorem execT1lFrame_keeps (k : Nat) (bytes : List Nat) (good : Bool) : Keeps (execT1lFrame k bytes good) := .onDev fun _ d h => by
  repeat' first
    | (with_reducible first
        | assumption | intro _ | apply Dev.busFraming_kept | apply Dev.busCrc_kept | apply Dev.busDeliver_kept | apply Dev.Kept.canon
        | refine ite_kept ?_ ?_)

theorem execT1lLink_keeps (k : Nat) (up : Bool) (high : Bool) (sqi : Nat) : Keeps (execT1lLink k up high sqi) := .onDev fun _ d h => by
  repeat' first
    | (with_reducible first
        | assumption | intro _ | apply Dev.putBit_kept | apply Dev.put_kept | apply Dev.busTimeout_kept | apply Dev.raise_kept
        | apply Dev.plainStart_kept | apply Dev.Kept.canon | refine ite_kept ?_ ?_)

theorem execBusFrameSent_keeps (n : Nat) : Keeps (execBusFrameSent n) := .onDev fun _ d h => by
  repeat' first
    | (with_reducible first
        | assumption | intro _ | apply Dev.emit_kept | apply Dev.busMark_kept | apply Dev.mstpSent_kept | apply Dev.mbSent_kept
        | apply Dev.endSend_kept | apply Dev.setBus_kept | apply Dev.plainStart_kept | apply Dev.Kept.canon | refine ite_kept ?_ ?_)
    | split | (unfold Dev.Kept; dsimp only)

theorem execBusSend_keeps (q : Nat) (x : Desc) (data : List Nat) : Keeps (execBusSend q x data) := .submit fun _ _ _ _ => bodyBusSend_kept _ _ _

theorem execBusAbort_keeps (q : Nat) (x : Desc) : Keeps (execBusAbort q x) :=
  .submit fun _ _ _ _ h => Dev.abortDesc_kept _ _ _ _ _ h fun _ _ _ => settleBus_kept _ _

theorem execBusCfgWrite_keeps (n : Nat) (v : Nat) : Keeps (execBusCfgWrite n v) := .onDev fun _ d h => by
  repeat' first
    | (with_reducible first
        | assumption | intro _ | apply Dev.hostReg_kept | apply Dev.writeBusCfg_kept | apply Dev.Kept.canon | refine ite_kept ?_ ?_)

theorem execBusPollSet_keeps (q : Nat) (x : Desc) : Keeps (execBusPollSet q x) := .submit fun _ _ _ _ => bodyBusPollSet_kept _ _

theorem execDiPulseWindow_keeps (i : Nat) (v : DiSample) : Keeps (execDiPulseWindow i v) := .onDev fun _ d h => by
  repeat' first | (with_reducible first | assumption | intro _ | apply Dev.setDi_kept | apply Dev.Kept.canon | refine ite_kept ?_ ?_)

theorem execDiDebounceDone_keeps (i : Nat) (v : DiSample) : Keeps (execDiDebounceDone i v) := .onDev fun _ d h => by
  repeat' first
    | (with_reducible first
        | assumption | intro _ | apply Dev.setDi_kept | apply Dev.dieRaise_kept | apply Dev.Kept.canon | refine ite_kept ?_ ?_)

theorem execFloatDriveEnd_keeps (f : Nat) : Keeps (execFloatDriveEnd f) := .onDev fun _ d h => by
  repeat' first | (with_reducible first | assumption | intro _ | apply Dev.floatHalt_kept | apply Dev.Kept.canon | refine ite_kept ?_ ?_)

theorem execFloatDeadTimeEnd_keeps (f : Nat) : Keeps (execFloatDeadTimeEnd f) := .onDev fun _ d h => by
  repeat' first
    | (with_reducible first
        | assumption | intro _ | apply Dev.setFloat_kept | apply Dev.floatGo_kept | apply Dev.Kept.canon | refine ite_kept ?_ ?_)

theorem execFloatBothHigh_keeps (f : Nat) : Keeps (execFloatBothHigh f) := .onDev fun _ d h => by
  repeat' first | (with_reducible first | assumption | intro _ | apply Dev.floatFault_kept | apply Dev.Kept.canon | refine ite_kept ?_ ?_)

theorem execDoOverload_keeps (o : Nat) (ma : Nat) : Keeps (execDoOverload o ma) := .onDev fun _ d h => by
  repeat' first | (with_reducible first | assumption | intro _ | apply Dev.doTrip_kept | apply Dev.Kept.canon | refine ite_kept ?_ ?_)

theorem execDoThermalLimit_keeps (o : Nat) (ma : Nat) : Keeps (execDoThermalLimit o ma) := .onDev fun _ d h => by
  repeat' first | (with_reducible first | assumption | intro _ | apply Dev.doTrip_kept | apply Dev.Kept.canon | refine ite_kept ?_ ?_)

theorem execDoRetry_keeps (o : Nat) : Keeps (execDoRetry o) := .onDev fun _ d h => by
  repeat' first
    | (with_reducible first
        | assumption | intro _ | apply Dev.doCommand_kept | apply Dev.setDo_kept | apply Dev.Kept.canon | refine ite_kept ?_ ?_)

theorem execDoOnPeriodOk_keeps (o : Nat) : Keeps (execDoOnPeriodOk o) := .onDev fun _ d h => by
  repeat' first
    | (with_reducible first
        | assumption | intro _ | apply Dev.setDo_kept | apply Dev.doRecovered_kept | apply Dev.Kept.canon | refine ite_kept ?_ ?_)

theorem execDoForcedHigh_keeps (o : Nat) (ma : Nat) : Keeps (execDoForcedHigh o ma) := .onDev fun _ d h => by
  repeat' first
    | (with_reducible first
        | assumption | intro _ | apply Dev.setDo_kept | apply Dev.doMirror_kept | apply Dev.doFault_kept | apply Dev.doFaultFloat_kept
        | apply Dev.Kept.canon | refine ite_kept ?_ ?_)

theorem execOpenLoadSet_keeps (o : Nat) (ma : Nat) : Keeps (execOpenLoadSet o ma) := .onDev fun _ d h => by
  repeat' first
    | (with_reducible first
        | assumption | intro _ | apply Dev.setDo_kept | apply Dev.doFault_kept | apply Dev.doFaultFloat_kept | apply Dev.Kept.canon
        | refine ite_kept ?_ ?_)

theorem execOpenLoadClear_keeps (o : Nat) : Keeps (execOpenLoadClear o) := .onDev fun _ d h => by
  repeat' first
    | (with_reducible first
        | assumption | intro _ | apply Dev.setDo_kept | apply Dev.doRecovered_kept | apply Dev.Kept.canon | refine ite_kept ?_ ?_)

theorem execDarkTest_keeps (k : Nat) : Keeps (execDarkTest k) := .onDev fun _ d h => by
  repeat' first
    | (with_reducible first
        | assumption | intro _ | apply Dev.setFd_kept | apply Dev.darkBegin_kept | apply Dev.Kept.canon | refine ite_kept ?_ ?_)
    | split | (unfold Dev.Kept; dsimp only)

theorem execDarkPulseEnd_keeps (k : Nat) (fell : List Nat) : Keeps (execDarkPulseEnd k fell) := .onDev fun _ d h => by
  repeat' first
    | (with_reducible first
        | assumption | intro _ | apply Dev.doCross_kept | apply Dev.darkRestore_kept | apply Dev.darkOver_kept | apply Dev.setFd_kept
        | apply Dev.darkForced_kept | apply Dev.Kept.canon | refine ite_kept ?_ ?_ | refine foldl_kept (fun _ _ _ => ?_) ?_ _
        | refine foldl_snd_kept (fun _ _ _ => ?_) ?_ _)
    | split | (unfold Dev.Kept; dsimp only)

theorem execDarkPairPulse_keeps (k : Nat) (fell : Bool) : Keeps (execDarkPairPulse k fell) := .onDev fun _ d h => by
  repeat' first
    | (with_reducible first
        | assumption | intro _ | apply Dev.darkRestore_kept | apply Dev.doCross_kept | apply Dev.darkOver_kept | apply Dev.setFd_kept
        | apply Dev.darkForced_kept | apply Dev.Kept.canon | refine ite_kept ?_ ?_)
    | split | (unfold Dev.Kept; dsimp only)

theorem execFieldResumeTimeout_keeps (k : Nat) : Keeps (execFieldResumeTimeout k) := .onDev fun _ d h => by
  repeat' first
    | (with_reducible first
        | assumption | intro _ | apply Dev.fail_kept | apply Dev.setFd_kept | apply Dev.Kept.canon | refine ite_kept ?_ ?_)
    | split | (unfold Dev.Kept; dsimp only)

theorem execDioForce_keeps (q : Nat) (x : Desc) : Keeps (execDioForce q x) := .submit fun _ _ _ _ => bodyDioForce_kept _ _

theorem execDoClear_keeps (q : Nat) (x : Desc) : Keeps (execDoClear q x) := .submit fun _ _ _ _ => bodyDoClear_kept _ _

theorem execDarkTestNow_keeps (q : Nat) (x : Desc) : Keeps (execDarkTestNow q x) := .submit fun _ _ _ _ => bodyDarkTestNow_kept _ _

theorem execFieldResume_keeps (q : Nat) (x : Desc) : Keeps (execFieldResume q x) := .submit fun _ _ _ _ => bodyFieldResume_kept _ _

theorem execKickTimeout_keeps (f : Nat) : Keeps (execKickTimeout f) := .onDev fun _ d h => by
  repeat' first
    | (with_reducible first
        | assumption | intro _ | apply Dev.fanTo_kept | apply Dev.fanDrive_kept | apply Dev.fanRetry_kept | apply Dev.Kept.canon
        | refine ite_kept ?_ ?_)

theorem execBackoffExpiry_keeps (f : Nat) : Keeps (execBackoffExpiry f) := .onDev fun _ d h => by
  repeat' first
    | (with_reducible first
        | assumption | intro _ | apply Dev.fanKick_kept | apply Dev.fanDrive_kept | apply Dev.Kept.canon | refine ite_kept ?_ ?_)

theorem execTachEdge_keeps (f : Nat) (t : Nat) : Keeps (execTachEdge f t) := .onDev fun _ d h => by
  repeat' first | (with_reducible first | assumption | intro _ | apply Dev.setFan_kept | apply Dev.Kept.canon | refine ite_kept ?_ ?_)

theorem execTachLost_keeps (f : Nat) (ma : Nat) : Keeps (execTachLost f ma) := .onDev fun _ d h => by
  repeat' first
    | (with_reducible first
        | assumption | intro _ | apply Dev.setFan_kept | apply Dev.tachLostEvent_kept | apply Dev.fanRetry_kept | apply Dev.fanTo_kept
        | apply Dev.fanFailedEvent_kept | apply Dev.fanDrive_kept | apply Dev.Kept.canon | refine ite_kept ?_ ?_)
    | split

theorem execFanRun60s_keeps (f : Nat) : Keeps (execFanRun60s f) := .onDev fun _ d h => by
  repeat' first | (with_reducible first | assumption | intro _ | apply Dev.setFan_kept | apply Dev.Kept.canon | refine ite_kept ?_ ?_)

theorem execAoOverload_keeps (a : Nat) (mv : Nat) : Keeps (execAoOverload a mv) := .onDev fun _ d h => by
  repeat' first
    | (with_reducible first
        | assumption | intro _ | apply Dev.setAo_kept | apply Dev.aoFaultEvent_kept | apply Dev.Kept.canon | refine ite_kept ?_ ?_)

theorem execAoOverloadClear_keeps (a : Nat) (mv : Nat) : Keeps (execAoOverloadClear a mv) := .onDev fun _ d h => by
  repeat' first
    | (with_reducible first
        | assumption | intro _ | apply Dev.setAo_kept | apply Dev.aoFaultEvent_kept | apply Dev.Kept.canon | refine ite_kept ?_ ?_)

theorem execFanaoForce_keeps (q : Nat) (x : Desc) : Keeps (execFanaoForce q x) := .submit fun _ _ _ _ => bodyFanaoForce_kept _ _

theorem execFanClear_keeps (q : Nat) (x : Desc) : Keeps (execFanClear q x) := .submit fun _ _ _ _ => bodyFanClear_kept _ _

theorem execBlReqWrite_keeps (v : Nat) : Keeps (execBlReqWrite v) := .onDev fun _ d h => by
  repeat' first | (with_reducible first | assumption | intro _ | apply Dev.hostReg_kept | apply Dev.writeBlsel_kept)

theorem execSealWrite_keeps (v : Nat) : Keeps (execSealWrite v) := .onDev fun _ d h => by
  repeat' first | (with_reducible first | assumption | intro _ | apply Dev.hostReg_kept | apply Dev.writeSeal_kept)

theorem execTickLoRead_keeps : Keeps execTickLoRead := .onDev fun _ d h => by
  repeat' first
    | (with_reducible first
        | assumption | intro _ | apply Dev.emit_kept | apply Dev.Kept.canon | refine ite_kept ?_ ?_)
    | split | (unfold Dev.Kept; dsimp only)

theorem execClrCorrected_keeps : Keeps execClrCorrected := .onDev fun _ d h => by
  repeat' first | (with_reducible first | assumption | intro _ | apply Dev.hostReg_kept | apply Dev.writeMemerrClr_kept)

theorem execClrUncorrectable_keeps : Keeps execClrUncorrectable := .onDev fun _ d h => by
  repeat' first | (with_reducible first | assumption | intro _ | apply Dev.hostReg_kept | apply Dev.writeMemerrClr_kept)

theorem execScrubRead_keeps (upset : Nat) : Keeps (execScrubRead upset) := .onDev fun _ d h => by
  repeat' first
    | (with_reducible first
        | assumption | intro _ | apply Dev.upset_kept | apply Dev.readWord_kept | apply Dev.Kept.canon | refine ite_kept ?_ ?_)
    | split | (unfold Dev.Kept; dsimp only)

theorem execBar4Read_keeps (off : Nat) (len : Nat) (upsets : List (Nat × Nat)) : Keeps (execBar4Read off len upsets) := .onDev fun _ d h => by
  repeat' first
    | (with_reducible first
        | assumption | intro _ | apply Dev.put_kept | apply Dev.emit_kept | apply Dev.upset_kept | apply Dev.bar4Words_kept | apply Dev.Kept.canon
        | refine ite_kept ?_ ?_)

theorem execPassStart_keeps (c : Nat) : Keeps (execPassStart c) := .onDev fun _ d h => by
  repeat' first
    | (with_reducible first
        | assumption | intro _ | refine Dev.beginPass_kept_of ?_ (by assumption) | apply Dev.setConv_kept | apply Dev.bump_kept
        | apply Dev.dieRaise_kept | apply Dev.beginPass_kept | apply Dev.endPass_kept | apply Dev.Kept.canon | refine ite_kept ?_ ?_)
    | split | (unfold Dev.Kept; dsimp only)

theorem execConverterOutput_keeps (c : Nat) (code : Int) (input : Int) : Keeps (execConverterOutput c code input) := .onDev fun _ d h => by
  repeat' first
    | (with_reducible first
        | assumption | intro _ | apply Dev.nextVisit_kept | apply Dev.countOpened_kept | apply Dev.setConv_kept | apply Dev.writeSlot_kept
        | apply Dev.keepContact_kept | apply Dev.updateChannel_kept | apply Dev.afterOutput_kept | apply Dev.Kept.canon | refine ite_kept ?_ ?_)
    | split

theorem execSlotStale_keeps (n : Nat) : Keeps (execSlotStale n) := .onDev fun _ d h => by
  repeat' first | (with_reducible first | assumption | intro _ | apply Dev.Kept.canon | refine ite_kept ?_ ?_) | split | (unfold Dev.Kept; dsimp only)

theorem execMa20Disconnect_keeps (u : Nat) : Keeps (execMa20Disconnect u) := .onDev fun _ d h => by
  repeat' first
    | (with_reducible first
        | assumption | intro _ | apply Dev.updateChannel_kept | apply Dev.Kept.canon | refine ite_kept ?_ ?_)
    | split | (unfold Dev.Kept; dsimp only)

theorem execMa20Reconnect_keeps (u : Nat) : Keeps (execMa20Reconnect u) := .onDev fun _ d h => by
  repeat' first | (with_reducible first | assumption | intro _ | apply Dev.Kept.canon | refine ite_kept ?_ ?_) | split | (unfold Dev.Kept; dsimp only)

theorem execMeasUrgent_keeps (q : Nat) (x : Desc) : Keeps (execMeasUrgent q x) := .submit fun _ _ _ _ => bodyMeasUrgent_kept _ _

theorem execUrgentHead_keeps (c : Nat) : Keeps (execUrgentHead c) := .onDev fun _ d h => by
  repeat' first | (with_reducible first | assumption | intro _ | apply Dev.setConv_kept | apply Dev.Kept.canon | refine ite_kept ?_ ?_) | split

theorem execUrgentValidOutput_keeps (c : Nat) (code : Int) (input : Int) : Keeps (execUrgentValidOutput c code input) := .onDev fun _ d h => by
  repeat' first
    | (with_reducible first
        | assumption | intro _ | apply Dev.countOpened_kept | apply Dev.setConv_kept | apply Dev.keepContact_kept | apply Dev.updateChannel_kept
        | apply Dev.restartVisit_kept | apply Dev.Kept.canon | refine ite_kept ?_ ?_)
    | split | (unfold Dev.Kept; dsimp only)

theorem execCalDue_keeps : Keeps execCalDue := .onDev fun _ d h => by
  repeat' first | (with_reducible first | assumption | intro _ | apply Dev.calAll_kept | apply Dev.Kept.canon | refine ite_kept ?_ ?_)

theorem execCalCommit_keeps (c : Nat) (ofs : Nat) (gain : Nat) (selfTest : List Int)
    : Keeps (execCalCommit c ofs gain selfTest) := .onDev fun _ d h => by
  repeat' first
    | (with_reducible first
        | assumption | intro _ | apply Dev.setConv_kept | apply Dev.restartVisit_kept | apply Dev.putRet_kept | apply Dev.dieRaise_kept
        | apply Dev.selfTest_kept | apply Dev.calCommitted_kept | apply Dev.nextCal_kept | apply Dev.Kept.canon | refine ite_kept ?_ ?_)

theorem execMeasCal_keeps (q : Nat) (x : Desc) : Keeps (execMeasCal q x) := .submit fun _ _ _ _ => bodyMeasCal_kept _ _

theorem execMeasCapture_keeps (q : Nat) (x : Desc) : Keeps (execMeasCapture q x) := .submit fun _ _ _ _ => bodyMeasCapture_kept _ _

theorem execCaptureTrigger_keeps (g : Nat) (b : CaptureBurst) : Keeps (execCaptureTrigger g b) := .onDev fun _ d h => by
  repeat' first
    | (with_reducible first
        | assumption | intro _ | apply Dev.setCap_kept | apply Dev.setConv_kept | apply Dev.restartVisit_kept | apply Dev.Kept.canon
        | refine ite_kept ?_ ?_ | refine foldl_kept (fun _ _ _ => ?_) ?_ _ | refine foldl_snd_kept (fun _ _ _ => ?_) ?_ _)
    | split

theorem execCaptureDone_keeps (g : Nat) : Keeps (execCaptureDone g) := .onDev fun _ d h => by
  repeat' first
    | (with_reducible first
        | assumption | intro _ | apply Dev.dropCap_kept | apply Dev.done_kept | apply Dev.Kept.canon | refine ite_kept ?_ ?_)
    | split

theorem execCaptureShotTimeout_keeps (g : Nat) : Keeps (execCaptureShotTimeout g) := .onDev fun _ d h => by
  repeat' first | (with_reducible first | assumption | intro _ | apply Dev.dropCap_kept | apply Dev.fail_kept | apply Dev.Kept.canon) | split

theorem execMeasAbort_keeps (q : Nat) (x : Desc) : Keeps (execMeasAbort q x) := .submit fun _ _ _ _ => bodyMeasAbort_kept _ _

theorem execUiModeWrite_keeps (u : Nat) (v : Nat) : Keeps (execUiModeWrite u v) := .onDev fun _ d h => by
  repeat' first
    | (with_reducible first
        | assumption | intro _ | apply Dev.hostReg_kept | apply Dev.writeUiMode_kept | apply Dev.Kept.canon | refine ite_kept ?_ ?_)

theorem execUiGainShWrite_keeps (u : Nat) (v : Nat) : Keeps (execUiGainShWrite u v) := .onDev fun _ d h => by
  repeat' first
    | (with_reducible first
        | assumption | intro _ | apply Dev.hostReg_kept | apply Dev.writeUiGainSh_kept | apply Dev.Kept.canon | refine ite_kept ?_ ?_)

theorem execConvCtrlWrite_keeps (c : Nat) (v : Nat) : Keeps (execConvCtrlWrite c v) := .onDev fun _ d h => by
  repeat' first
    | (with_reducible first
        | assumption | intro _ | apply Dev.hostReg_kept | apply Dev.writeConvCtrl_kept | apply Dev.Kept.canon | refine ite_kept ?_ ?_)

theorem execEmuEdge_keeps (a : EmuStep) : Keeps (execEmuEdge a) := .onDev fun _ d h => by
  repeat' first
    | (with_reducible first
        | assumption | intro _ | apply Dev.setEmu_kept | apply Dev.emuCheckLag_kept | apply Dev.emuDrive_kept | apply Dev.Kept.canon
        | refine ite_kept ?_ ?_)

theorem execPosEdge_keeps (p : Nat) (t : Nat) (e : QuadEdge) : Keeps (execPosEdge p t e) := .onDev fun _ d h => by
  repeat' first
    | (with_reducible first
        | assumption | intro _ | apply Dev.posFault_kept | apply Dev.posCheckRecover_kept | apply Dev.emuFollow_kept | apply Dev.setPos_kept
        | apply Dev.Kept.canon | refine ite_kept ?_ ?_)
    | split

theorem execIndexPulse_keeps (e : IndexEdge) : Keeps (execIndexPulse e) := .onDev fun _ d h => by
  repeat' first
    | (with_reducible first
        | assumption | intro _ | apply Dev.setPos_kept | apply Dev.posClear_kept | apply Dev.posCheckBegin_kept | apply Dev.posInterval_kept
        | apply Dev.emuFollow_kept | apply Dev.Kept.canon | refine ite_kept ?_ ?_)

theorem execPosCheckTimeout_keeps (p : Nat) : Keeps (execPosCheckTimeout p) := .onDev fun _ d h => by
  repeat' first
    | (with_reducible first
        | assumption | intro _ | apply Dev.setPos_kept | apply Dev.fail_kept | apply Dev.Kept.canon | refine ite_kept ?_ ?_)
    | split | (unfold Dev.Kept; dsimp only)

theorem execStandstillTimeout_keeps (p : Nat) : Keeps (execStandstillTimeout p) := .onDev fun _ d h => by
  repeat' first | (with_reducible first | assumption | intro _ | apply Dev.setPos_kept | apply Dev.Kept.canon | refine ite_kept ?_ ?_)

theorem execSerialReadStart_keeps (p : Nat) : Keeps (execSerialReadStart p) := .onDev fun _ d h => by
  repeat' first | (with_reducible first | assumption | intro _ | apply Dev.setPos_kept | apply Dev.Kept.canon | refine ite_kept ?_ ?_)

theorem execSerialReadEnd_keeps (p : Nat) (ack : Bool) (clocks : List Bool) : Keeps (execSerialReadEnd p ack clocks) := .onDev fun _ d h => by
  repeat' first
    | (with_reducible first
        | assumption | intro _ | apply Dev.posReadFault_kept | apply Dev.posReadGood_kept | apply Dev.Kept.canon | refine ite_kept ?_ ?_)
    | split

theorem execSerialReadTimeout_keeps (p : Nat) : Keeps (execSerialReadTimeout p) := .onDev fun _ d h => by
  repeat' first | (with_reducible first | assumption | intro _ | apply Dev.posReadFault_kept | apply Dev.Kept.canon | refine ite_kept ?_ ?_) | split

theorem execPosPreset_keeps (q : Nat) (x : Desc) : Keeps (execPosPreset q x) := .submit fun _ _ _ _ => bodyPosPreset_kept _ _

theorem execPosCheck_keeps (q : Nat) (x : Desc) : Keeps (execPosCheck q x) := .submit fun _ _ _ _ => bodyPosCheck_kept _ _

theorem execEmuForce_keeps (q : Nat) (x : Desc) : Keeps (execEmuForce q x) := .submit fun _ _ _ _ => bodyEmuForce_kept _ _

theorem execPosAbort_keeps (q : Nat) (x : Desc) : Keeps (execPosAbort q x) := .submit fun _ _ _ _ => bodyPosAbort_kept _ _

theorem execTargetReached_keeps (c : Nat) (t : Nat) (sense : SolSense) : Keeps (execTargetReached c t sense) := .onDev fun _ d h => by
  repeat' first
    | (with_reducible first
        | assumption | intro _ | apply Dev.solSense_kept | apply Dev.solTtp_kept | apply Dev.setSol_kept | apply Dev.driveBank_kept
        | apply Dev.Kept.canon | refine ite_kept ?_ ?_)

theorem execWaitPeakTimeout_keeps (c : Nat) (t : Nat) (sense : SolSense) : Keeps (execWaitPeakTimeout c t sense) := .onDev fun _ d h => by
  repeat' first
    | (with_reducible first
        | assumption | intro _ | apply Dev.solSense_kept | apply Dev.solTtp_kept | apply Dev.Kept.canon | refine ite_kept ?_ ?_)

theorem execChopPeriodStart_keeps (c : ChopStart) : Keeps (execChopPeriodStart c) := .onDev fun _ d h => by
  repeat' first
    | (with_reducible first
        | assumption | intro _ | apply Dev.solClose_kept | apply Dev.setBank_kept | apply Dev.driveBank_kept | apply Dev.Kept.canon
        | refine ite_kept ?_ ?_ | refine foldl_kept (fun _ _ _ => ?_) ?_ _)

theorem execPeakGrant_keeps (k : Nat) (t : Nat) : Keeps (execPeakGrant k t) := .onDev fun _ d h => by
  repeat' first
    | (with_reducible first
        | assumption | intro _ | apply Dev.solClose_kept | apply Dev.setFreeTokens_kept | apply Dev.driveBank_kept | apply Dev.Kept.canon
        | refine ite_kept ?_ ?_)
    | split

theorem execPeakWaitExpiry_keeps (c : Nat) (t : Nat) (sense : SolSense) : Keeps (execPeakWaitExpiry c t sense) := .onDev fun _ d h => by
  repeat' first
    | (with_reducible first
        | assumption | intro _ | apply Dev.grant_kept | apply Dev.solSkip_kept | apply Dev.solSense_kept | apply Dev.setSol_kept
        | apply Dev.solResume_kept | apply Dev.Kept.canon | refine ite_kept ?_ ?_)

theorem execSkipRetry_keeps (c : Nat) : Keeps (execSkipRetry c) := .onDev fun _ d h => by
  repeat' first | (with_reducible first | assumption | intro _ | apply Dev.solLevelShot_kept | apply Dev.Kept.canon | refine ite_kept ?_ ?_)

theorem execPeakMaxExpiry_keeps (c : Nat) : Keeps (execPeakMaxExpiry c) := .onDev fun _ d h => by
  repeat' first | (with_reducible first | assumption | intro _ | apply Dev.solFault_kept | apply Dev.Kept.canon | refine ite_kept ?_ ?_)

theorem execOneShotDurExpiry_keeps (c : Nat) (t : Nat) (sense : SolSense) : Keeps (execOneShotDurExpiry c t sense) := .onDev fun _ d h => by
  repeat' first
    | (with_reducible first
        | assumption | intro _ | apply Dev.solSense_kept | apply Dev.solRelease_kept | apply Dev.Kept.canon | refine ite_kept ?_ ?_)
    | split | (unfold Dev.Kept; dsimp only)

theorem execShuttleWaitEnd_keeps (c : Nat) (t : Nat) (sense : SolSense) : Keeps (execShuttleWaitEnd c t sense) := .onDev fun _ d h => by
  repeat' first
    | (with_reducible first
        | assumption | intro _ | apply Dev.solSense_kept | apply Dev.solResume_kept | apply Dev.Kept.canon | refine ite_kept ?_ ?_)

theorem execSyncReached_keeps (c : Nat) (t : Nat) (sense : SolSense) : Keeps (execSyncReached c t sense) := .onDev fun _ d h => by
  repeat' first
    | (with_reducible first
        | assumption | intro _ | apply Dev.solSense_kept | apply Dev.solResume_kept | apply Dev.Kept.canon | refine ite_kept ?_ ?_)

theorem execDecayDone_keeps (c : Nat) (t : Nat) (sense : SolSense) : Keeps (execDecayDone c t sense) := .onDev fun _ d h => by
  repeat' first
    | (with_reducible first
        | assumption | intro _ | apply Dev.solSense_kept | apply Dev.setSol_kept | apply Dev.solResume_kept | apply Dev.Kept.canon
        | refine ite_kept ?_ ?_)

theorem execEndingDone_keeps (c : Nat) : Keeps (execEndingDone c) := .onDev fun _ d h => by
  repeat' first
    | (with_reducible first
        | assumption | intro _ | apply Dev.setSol_kept | apply Dev.driveBank_kept | apply Dev.Kept.canon | refine ite_kept ?_ ?_)

theorem execSolOvercurrent_keeps (c : Nat) : Keeps (execSolOvercurrent c) := .onDev fun _ d h => by
  repeat' first | (with_reducible first | assumption | intro _ | apply Dev.solFault_kept | apply Dev.Kept.canon | refine ite_kept ?_ ?_)

theorem execClampOverheat_keeps (c : Nat) : Keeps (execClampOverheat c) := .onDev fun _ d h => by
  repeat' first
    | (with_reducible first
        | assumption | intro _ | apply Dev.solFault_kept | apply Dev.setSol_kept | apply Dev.Kept.canon | refine ite_kept ?_ ?_)

theorem execBankHsOvercurrent_keeps (b : Nat) (ma : Nat) : Keeps (execBankHsOvercurrent b ma) := .onDev fun _ d h => by
  repeat' first | (with_reducible first | assumption | intro _ | apply Dev.bankFault_kept | apply Dev.Kept.canon | refine ite_kept ?_ ?_)

theorem execBankHsOvertemp_keeps (b : Nat) (ma : Nat) : Keeps (execBankHsOvertemp b ma) := .onDev fun _ d h => by
  repeat' first | (with_reducible first | assumption | intro _ | apply Dev.bankFault_kept | apply Dev.Kept.canon | refine ite_kept ?_ ?_)

theorem execShuttleSwitch_keeps (b : Nat) : Keeps (execShuttleSwitch b) := .onDev fun _ d h => by
  repeat' first
    | (with_reducible first
        | assumption | intro _ | apply Dev.setBank_kept | apply Dev.put_kept | apply Dev.dput_kept | apply Dev.putRet_kept | apply Dev.setBlock_kept
        | apply Dev.dropLoad_kept | apply Dev.done_kept | apply Dev.raise_kept | apply Dev.Kept.canon | refine ite_kept ?_ ?_
        | refine foldl_kept (fun _ _ _ => ?_) ?_ _ | refine foldl_snd_kept (fun _ _ _ => ?_) ?_ _)
    | split

theorem execShuttleLoadTimeout_keeps (b : Nat) : Keeps (execShuttleLoadTimeout b) := .onDev fun _ d h => by
  repeat' first
    | (with_reducible first
        | assumption | intro _ | apply Dev.dropLoad_kept | apply Dev.fail_kept | apply Dev.Kept.canon | refine ite_kept ?_ ?_)
    | split

theorem execShuttleLoad_keeps (q : Nat) (x : Desc) : Keeps (execShuttleLoad q x) := .submit fun _ _ _ _ => bodyShuttleLoad_kept _ _

theorem execSolShot_keeps (q : Nat) (x : Desc) : Keeps (execSolShot q x) := .submit fun _ _ _ _ => bodySolShot_kept _ _

theorem execSolForce_keeps (q : Nat) (x : Desc) : Keeps (execSolForce q x) := .submit fun _ _ _ _ => bodySolForce_kept _ _

theorem execSolClear_keeps (q : Nat) (x : Desc) : Keeps (execSolClear q x) := .submit fun _ _ _ _ => bodySolClear_kept _ _

theorem execShuttleAbort_keeps (q : Nat) (x : Desc) : Keeps (execShuttleAbort q x) := .submit fun _ _ _ _ => bodyShuttleAbort_kept _ _

theorem execDownFrame_keeps (k : Nat) (arrives : Bool) (wrong : Nat) : Keeps (execDownFrame k arrives wrong) := .onDev fun _ d h => by
  repeat' first
    | (with_reducible first
        | assumption | intro _ | apply Dev.setFd_kept | apply Dev.Kept.canon | refine ite_kept ?_ ?_)
    | split | (unfold Dev.Kept; dsimp only)

theorem execHoldWindowExpiry_keeps (k : Nat) : Keeps (execHoldWindowExpiry k) := .onDev fun _ d h => by
  repeat' first
    | (with_reducible first
        | assumption | intro _ | apply Dev.enterSafe_kept | apply Dev.fanAoDriven_kept | apply Dev.Kept.canon | refine ite_kept ?_ ?_)

theorem execFreezeHoldLimit_keeps (k : Nat) : Keeps (execFreezeHoldLimit k) := .onDev fun _ d h => by
  repeat' first
    | (with_reducible first
        | assumption | intro _ | apply Dev.enterSafe_kept | apply Dev.fanAoDriven_kept | apply Dev.Kept.canon | refine ite_kept ?_ ?_)

theorem execDownLinkSilent_keeps (k : Nat) : Keeps (execDownLinkSilent k) := .onDev fun _ d h => by
  repeat' first | (with_reducible first | assumption | intro _ | apply Dev.setFd_kept | apply Dev.Kept.canon | refine ite_kept ?_ ?_)

theorem execVf24Low_keeps (k : Nat) (mv : Nat) : Keeps (execVf24Low k mv) := .onDev fun _ d h => by
  repeat' first
    | (with_reducible first
        | assumption | intro _ | apply Dev.setFd_kept | apply Dev.setFloat_kept | apply Dev.allDosOff_kept | apply Dev.cutSols_kept
        | apply Dev.dieRaise_kept | apply Dev.enterSafe_kept | apply Dev.fanAoBoundary_kept | apply Dev.Kept.canon | refine ite_kept ?_ ?_
        | refine foldl_kept (fun _ _ _ => ?_) ?_ _)

theorem execVf24Recovered_keeps (k : Nat) (mv : Nat) : Keeps (execVf24Recovered k mv) := .onDev fun _ d h => by
  repeat' first
    | (with_reducible first
        | assumption | intro _ | apply Dev.setFd_kept | apply Dev.dieRaise_kept | apply Dev.safeOutputs_kept | apply Dev.Kept.canon
        | refine ite_kept ?_ ?_)

theorem execFieldTickBoundary_keeps (k : Nat) (sense : FieldSense) : Keeps (execFieldTickBoundary k sense) := .onDev fun _ d h => by
  repeat' first
    | (with_reducible first
        | assumption | intro _ | apply Dev.setFd_kept | apply Dev.senseDos_kept | apply Dev.badBoundary_kept | apply Dev.applyMail_kept
        | apply Dev.goodBoundary_kept | apply Dev.floatRun_kept | apply Dev.darkBoundary_kept | apply Dev.fanAoBoundary_kept
        | apply Dev.solBoundary_kept | apply Dev.posBoundary_kept | apply Dev.startTests_kept | apply Dev.switchUis_kept | apply Dev.latchMeas_kept
        | apply Dev.sendUp_kept | apply Dev.Kept.canon | refine ite_kept ?_ ?_ | refine foldl_kept (fun _ _ _ => ?_) ?_ _
        | refine foldl_snd_kept (fun _ _ _ => ?_) ?_ _)
    | split

theorem execUpFrame_keeps (k : Nat) (arrives : Bool) (wrong : Nat) : Keeps (execUpFrame k arrives wrong) := .onDev fun _ d h => by
  repeat' first
    | (with_reducible first
        | assumption | intro _ | apply Dev.put_kept | apply Dev.takeUp_kept | apply Dev.bump_kept | apply Dev.Kept.canon | refine ite_kept ?_ ?_)
    | split | (unfold Dev.Kept; dsimp only)

theorem execBarrierDown_keeps (k : Nat) : Keeps (execBarrierDown k) := .onDev fun _ d h => by
  repeat' first
    | (with_reducible first
        | assumption | intro _ | apply Dev.put_kept | apply Dev.barrierWords_kept | apply Dev.raise_kept | apply Dev.Kept.canon
        | refine ite_kept ?_ ?_)

theorem execFieldErrClr_keeps (k : Nat) : Keeps (execFieldErrClr k) := .onDev fun _ d h => by
  repeat' first
    | (with_reducible first
        | assumption | intro _ | apply Dev.hostReg_kept | apply Dev.fieldErrClr_kept | apply Dev.Kept.canon | refine ite_kept ?_ ?_)

theorem execMailboxWrite_keeps (off : Nat) (v : Nat) : Keeps (execMailboxWrite off v) := .onDev fun _ d h => by
  repeat' first
    | (with_reducible first
        | assumption | intro _ | apply Dev.hostReg_kept | apply Dev.writeField_kept | apply Dev.Kept.canon | refine ite_kept ?_ ?_)

theorem execSchedEvaluation_keeps : Keeps execSchedEvaluation := .onDev fun _ d h => by
  repeat' first | (with_reducible first | assumption | intro _ | apply Dev.schedEvaluate_kept | apply Dev.Kept.canon | refine ite_kept ?_ ?_)

theorem execOverrideExpiry_keeps (z : Nat) : Keeps (execOverrideExpiry z) := .onDev fun _ d h => by
  repeat' first | (with_reducible first | assumption | intro _ | apply Dev.expireOverride_kept | apply Dev.Kept.canon | refine ite_kept ?_ ?_)

theorem execPresenceHoldoffExpiry_keeps (z : Nat) : Keeps (execPresenceHoldoffExpiry z) := .onDev fun _ d h => by
  repeat' first | (with_reducible first | assumption | intro _ | apply Dev.presenceExpire_kept | apply Dev.Kept.canon | refine ite_kept ?_ ?_)

theorem execSchedSet_keeps (q : Nat) (x : Desc) : Keeps (execSchedSet q x) := .submit fun _ _ _ _ => bodySchedSet_kept _ _ _ _

theorem execZoneSet_keeps (q : Nat) (x : Desc) : Keeps (execZoneSet q x) := .submit fun _ _ _ _ => bodySchedSet_kept _ _ _ _

theorem execZoneOverride_keeps (q : Nat) (x : Desc) : Keeps (execZoneOverride q x) := .submit fun _ _ _ _ => bodyZoneOverride_kept _ _

theorem execCivilSet_keeps (q : Nat) (x : Desc) : Keeps (execCivilSet q x) := .submit fun _ _ _ _ => bodyCivilSet_kept _ _

theorem execDstLoad_keeps (q : Nat) (x : Desc) : Keeps (execDstLoad q x) := .submit fun _ _ _ _ => bodyDstLoad_kept _ _

theorem execPatStepStart_keeps : Keeps execPatStepStart := .onDev fun _ d h => by
  repeat' first
    | (with_reducible first
        | assumption | intro _ | apply Dev.missStart_kept | apply Dev.patStep_kept | apply Dev.Kept.canon | refine ite_kept ?_ ?_)
    | split | (unfold Dev.Kept; dsimp only)

theorem execPatPublish_keeps : Keeps execPatPublish := .onDev fun _ d h => by
  repeat' first
    | (with_reducible first
        | assumption | intro _ | apply Dev.putNodes_kept | apply Dev.putCoups_kept | apply Dev.wrapUp_kept | apply Dev.put_kept
        | apply Dev.putBit_kept | apply Dev.publishNodes_kept | apply Dev.setSuspect_kept | apply Dev.saveEsts_kept | apply Dev.patReport_kept
        | apply Dev.Kept.canon | refine ite_kept ?_ ?_ | refine foldl_kept (fun _ _ _ => ?_) ?_ _ | refine foldl_snd_kept (fun _ _ _ => ?_) ?_ _)
    | split | (unfold Dev.Kept; dsimp only)

theorem execRoutinePredictionEnd_keeps : Keeps execRoutinePredictionEnd := .onDev fun _ d h => by
  repeat' first
    | (with_reducible first
        | assumption | intro _ | refine Dev.forecasts_kept_of ?_ (by assumption) | refine Dev.readState_kept_of ?_ (by assumption)
        | refine Dev.readTables_kept_of ?_ (by assumption) | apply Dev.readTables_kept | apply Dev.tableFault_kept | apply Dev.readState_kept
        | apply Dev.forecasts_kept | apply Dev.put_kept | apply Dev.memWrite_kept | apply Dev.produce_kept | apply Dev.zonePredict_kept
        | apply Dev.Kept.canon | refine ite_kept ?_ ?_ | refine foldl_kept (fun _ _ _ => ?_) ?_ _ | refine foldl_snd_kept (fun _ _ _ => ?_) ?_ _)
    | split | (unfold Dev.Kept; dsimp only)

theorem execHostPredictionStep_keeps : Keeps execHostPredictionStep := .onDev fun _ d h => by
  repeat' first
    | (with_reducible first
        | assumption | intro _ | apply Dev.done_kept | apply Dev.hostPredStep_kept | apply Dev.Kept.canon | refine ite_kept ?_ ?_)
    | split | (unfold Dev.Kept; dsimp only)

theorem execPatLoad_keeps (q : Nat) (x : Desc) : Keeps (execPatLoad q x) := .submit fun _ _ _ _ => bodyPatLoad_kept _ _

theorem execPatPredict_keeps (q : Nat) (x : Desc) : Keeps (execPatPredict q x) := .submit fun _ _ _ _ => bodyPatPredict_kept _ _

theorem execPatAbort_keeps (q : Nat) (x : Desc) : Keeps (execPatAbort q x) := .submit fun _ _ _ _ => bodyPatAbort_kept _ _

theorem execPatReset_keeps (q : Nat) (x : Desc) : Keeps (execPatReset q x) := .submit fun _ _ _ _ => bodyPatReset_kept _ _

theorem execPatCtrlWrite_keeps (v : Nat) : Keeps (execPatCtrlWrite v) := .onDev fun _ d h => by
  repeat' first | (with_reducible first | assumption | intro _ | apply Dev.hostReg_kept | apply Dev.writePatCtrl_kept)

theorem execPatUrgentIssue_keeps : Keeps execPatUrgentIssue := .onDev fun _ d h => by
  repeat' first
    | (with_reducible first
        | assumption | intro _ | refine Dev.readTables_kept_of ?_ (by assumption) | apply Dev.readTables_kept | apply Dev.tableFault_kept
        | apply Dev.askUrgent_kept | apply Dev.Kept.canon | refine ite_kept ?_ ?_ | refine foldl_kept (fun _ _ _ => ?_) ?_ _
        | refine foldl_snd_kept (fun _ _ _ => ?_) ?_ _)
    | split | (unfold Dev.Kept; dsimp only)

theorem execMultiplierSave_keeps : Keeps execMultiplierSave := .onDev fun _ d h => by
  repeat' first
    | (with_reducible first
        | assumption | intro _ | apply Dev.soundState_kept | apply Dev.setBlock_kept | apply Dev.Kept.canon | refine ite_kept ?_ ?_)
    | split | (unfold Dev.Kept; dsimp only)

theorem execPageWriteDone_keeps (b : Nat) : Keeps (execPageWriteDone b) := .onDev fun _ d h => by
  repeat' first
    | (with_reducible first
        | assumption | intro _ | apply Dev.dropWrite_kept | apply Dev.kickWrites_kept | apply Dev.commitPage_kept | apply Dev.done_kept
        | apply Dev.logWritten_kept | apply Dev.putSlot_kept | apply Dev.patSlotWritten_kept | apply Dev.Kept.canon | refine ite_kept ?_ ?_)
    | split

theorem execEnergyWaitEnd_keeps (vhold : Nat) : Keeps (execEnergyWaitEnd vhold) := .onDev fun _ d h => by
  repeat' first
    | (with_reducible first
        | assumption | intro _ | apply Dev.put_kept | apply Dev.kickWrites_kept | apply Dev.Kept.canon | refine ite_kept ?_ ?_)

theorem execNvmWriteTimeout_keeps (id : Nat) : Keeps (execNvmWriteTimeout id) := .onDev fun _ d h => by
  repeat' first
    | (with_reducible first
        | assumption | intro _ | apply Dev.dropWrite_kept | apply Dev.fail_kept | apply Dev.kickWrites_kept | apply Dev.Kept.canon
        | refine ite_kept ?_ ?_)
    | split

theorem execGroupRefresh_keeps (g : Nat) (e0 : Nat) (e1 : Nat) : Keeps (execGroupRefresh g e0 e1) := .onDev fun _ d h => by
  repeat' first
    | (with_reducible first
        | assumption | intro _ | refine Dev.nvmGroup_kept_of ?_ (by assumption) | apply Dev.nvmUpset_kept | apply Dev.nvmGroup_kept
        | apply Dev.setGroup_kept | apply Dev.Kept.canon | refine ite_kept ?_ ?_)
    | split | (unfold Dev.Kept; dsimp only)

theorem execRecordCommit_keeps (r : Nat) : Keeps (execRecordCommit r) := .onDev fun _ d h => by
  repeat' first
    | (with_reducible first
        | assumption | intro _ | refine Dev.writeRecord_kept_of ?_ (by assumption) | apply Dev.writeRecord_kept | apply Dev.recCommitted_kept
        | apply Dev.Kept.canon | refine ite_kept ?_ ?_)
    | split | (unfold Dev.Kept; dsimp only)

theorem execConfigBlockStore_keeps (key : Nat) : Keeps (execConfigBlockStore key) := .onDev fun _ d h => by
  repeat' first
    | (with_reducible first
        | assumption | intro _ | refine Dev.storeAt_kept_of ?_ (by assumption) | apply Dev.done_kept | apply Dev.storeAt_kept
        | apply Dev.recCommitted_kept | apply Dev.Kept.canon | refine ite_kept ?_ ?_)
    | split | (unfold Dev.Kept; dsimp only)

theorem execCheckpoint_keeps : Keeps execCheckpoint := .onDev fun _ d h => by
  repeat' first
    | (with_reducible first
        | assumption | intro _ | apply Dev.saveStart_kept | apply Dev.Kept.canon | refine ite_kept ?_ ?_)
    | split | (unfold Dev.Kept; dsimp only)

theorem execNvmUnlock_keeps (q : Nat) (x : Desc) : Keeps (execNvmUnlock q x) := .submit fun _ _ _ _ => bodyNvmUnlock_kept _ _

theorem execLockoutEnd_keeps (r : Nat) (kind : Nat) : Keeps (execLockoutEnd r kind) := .onDev fun _ d h => by
  repeat' first | (with_reducible first | assumption | intro _ | apply Dev.Kept.canon | refine ite_kept ?_ ?_) | split | (unfold Dev.Kept; dsimp only)

theorem execNvmLock_keeps (q : Nat) (x : Desc) : Keeps (execNvmLock q x) := .submit fun _ _ _ _ => bodyNvmLock_kept _ _

theorem execNvmSetpw_keeps (q : Nat) (x : Desc) : Keeps (execNvmSetpw q x) := .submit fun _ _ _ _ => bodyNvmSetpw_kept _ _

theorem execNvmRead_keeps (q : Nat) (x : Desc) (ups : List (Nat × Nat × Nat))
    : Keeps (execNvmRead q x ups) := .submit fun _ _ _ _ => bodyNvmRead_kept _ _ _

theorem execNvmWrite_keeps (q : Nat) (x : Desc) : Keeps (execNvmWrite q x) := .submit fun _ _ _ _ => bodyNvmWrite_kept _ _

theorem execNvmSync_keeps (q : Nat) (x : Desc) : Keeps (execNvmSync q x) := .submit fun _ _ _ _ => bodyNvmSync_kept _ _

theorem execRecConfirm_keeps (q : Nat) (x : Desc) : Keeps (execRecConfirm q x) := .submit fun _ _ _ _ => bodyRecConfirm_kept _ _

theorem execRecWrite_keeps (q : Nat) (x : Desc) : Keeps (execRecWrite q x) := .submit fun _ _ _ _ => bodyRecWrite_kept _ _

theorem execRecRead_keeps (q : Nat) (x : Desc) (ups : List (Nat × Nat × Nat))
    : Keeps (execRecRead q x ups) := .submit fun _ _ _ _ => bodyRecRead_kept _ _ _

theorem execNvmExport_keeps (q : Nat) (x : Desc) : Keeps (execNvmExport q x) := .submit fun _ _ _ _ => bodyNvmExport_kept _ _

theorem execNvmImport_keeps (q : Nat) (x : Desc) (data : List Nat) : Keeps (execNvmImport q x data) := .submit fun _ _ _ _ => bodyNvmImport_kept _ _ _

theorem execNvmAbort_keeps (q : Nat) (x : Desc) : Keeps (execNvmAbort q x) := .submit fun _ _ _ _ => bodyNvmAbort_kept _ _

theorem execFitPassStart_keeps : Keeps execFitPassStart := .onDev fun _ d h => by
  repeat' first | (with_reducible first | assumption | intro _ | apply Dev.fitStart_kept | apply Dev.Kept.canon | refine ite_kept ?_ ?_)

theorem execFitRerun_keeps : Keeps execFitRerun := .onDev fun _ d h => by
  repeat' first | (with_reducible first | assumption | intro _ | apply Dev.fitStart_kept | apply Dev.Kept.canon | refine ite_kept ?_ ?_)

theorem execFitMeasurementDone_keeps (m : FitSense) : Keeps (execFitMeasurementDone m) := .onDev fun _ d h => by
  repeat' first
    | (with_reducible first
        | assumption | intro _ | apply Dev.showPaths_kept | apply Dev.fitStep_kept | apply Dev.Kept.canon | refine ite_kept ?_ ?_)
    | split | (unfold Dev.Kept; dsimp only)

theorem execHoldupStart_keeps : Keeps execHoldupStart := .onDev fun _ d h => by
  repeat' first | (with_reducible first | assumption | intro _ | apply Dev.Kept.canon | refine ite_kept ?_ ?_) | split | (unfold Dev.Kept; dsimp only)

theorem execHoldupWindowEnd_keeps (i : Nat) (dv : Nat) (step : Nat) : Keeps (execHoldupWindowEnd i dv step) := .onDev fun _ d h => by
  repeat' first
    | (with_reducible first
        | assumption | intro _ | apply Dev.putRet_kept | apply Dev.fitDecide_kept | apply Dev.kickWrites_kept | apply Dev.Kept.canon
        | refine ite_kept ?_ ?_)
    | split | (unfold Dev.Kept; dsimp only)

theorem execHoldupSkip_keeps : Keeps execHoldupSkip := .onDev fun _ d h => by
  repeat' first
    | (with_reducible first
        | assumption | intro _ | apply Dev.fitDecide_kept | apply Dev.Kept.canon | refine ite_kept ?_ ?_)
    | split | (unfold Dev.Kept; dsimp only)

theorem execPathMonitorRead_keeps (ps : List Nat) : Keeps (execPathMonitorRead ps) := .onDev fun _ d h => by
  repeat' first
    | (with_reducible first
        | assumption | intro _ | apply Dev.showPaths_kept | apply Dev.raiseChange_kept | apply Dev.setTarget_kept | apply Dev.kickLog_kept
        | apply Dev.Kept.canon | refine ite_kept ?_ ?_)
    | split | (unfold Dev.Kept; dsimp only)

theorem execFitRun_keeps (q : Nat) (x : Desc) : Keeps (execFitRun q x) := .submit fun _ _ _ _ => bodyFitRun_kept _ _

theorem execFitLogRead_keeps (q : Nat) (x : Desc) : Keeps (execFitLogRead q x) := .submit fun _ _ _ _ => bodyFitLogRead_kept _ _

theorem execFitBaseline_keeps (q : Nat) (x : Desc) : Keeps (execFitBaseline q x) := .submit fun _ _ _ _ => bodyFitBaseline_kept _ _

theorem execFitAbort_keeps (q : Nat) (x : Desc) : Keeps (execFitAbort q x) := .submit fun _ _ _ _ => bodyFitAbort_kept _ _

theorem execKeyScan_keeps (raw : Nat) : Keeps (execKeyScan raw) := .onDev fun _ d h => by
  repeat' first
    | (with_reducible first
        | assumption | intro _ | refine Dev.guardKeys_kept_of ?_ (by assumption) | refine Dev.sampleKey_kept_of ?_ (by assumption)
        | apply Dev.applyKeyLocks_kept | apply Dev.sampleKey_kept | apply Dev.guardKeys_kept | apply Dev.unlockPress_kept | apply Dev.keyChange_kept
        | apply Dev.publishKeys_kept | apply Dev.showKeys_kept | apply Dev.Kept.canon | refine ite_kept ?_ ?_
        | refine foldl_kept (fun _ _ _ => ?_) ?_ _ | refine foldl_snd_kept (fun _ _ _ => ?_) ?_ _)
    | split | (unfold Dev.Kept; dsimp only)

theorem execKeyRowWake_keeps : Keeps execKeyRowWake := .onDev fun _ d h => by
  repeat' first | (with_reducible first | assumption | intro _ | apply Dev.wakeScanner_kept | apply Dev.Kept.canon | refine ite_kept ?_ ?_)

theorem execKeyIdle_keeps : Keeps execKeyIdle := .onDev fun _ d h => by
  repeat' first | (with_reducible first | assumption | intro _ | apply Dev.put_kept | apply Dev.Kept.canon | refine ite_kept ?_ ?_)

theorem execKeyLockIdle_keeps : Keeps execKeyLockIdle := .onDev fun _ d h => by
  repeat' first
    | (with_reducible first
        | assumption | intro _ | apply Dev.setKeyLock_kept | apply Dev.Kept.canon | refine ite_kept ?_ ?_)
    | split | (unfold Dev.Kept; dsimp only)

theorem execKeyLock_keeps (q : Nat) (x : Desc) : Keeps (execKeyLock q x) := .submit fun _ _ _ _ => bodyKeyLock_kept _ _

theorem execEncTransition_keeps (n : Nat) (a : Bool) (b : Bool) : Keeps (execEncTransition n a b) := .onDev fun _ d h => by
  repeat' first
    | (with_reducible first
        | assumption | intro _ | apply Dev.setEnc_kept | apply Dev.bump_kept | apply Dev.put_kept | apply Dev.produce_kept | apply Dev.Kept.canon
        | refine ite_kept ?_ ?_)
    | split | (unfold Dev.Kept; dsimp only)

theorem execEncMoved_keeps (n : Nat) : Keeps (execEncMoved n) := .onDev fun _ d h => by
  repeat' first
    | (with_reducible first
        | assumption | intro _ | apply Dev.setEnc_kept | apply Dev.raise_kept | apply Dev.keyPending_kept | apply Dev.Kept.canon
        | refine ite_kept ?_ ?_)

theorem execTraceRecordWrite_keeps (c : Nat) : Keeps (execTraceRecordWrite c) := .onDev fun _ d h => by
  repeat' first
    | (with_reducible first
        | assumption | intro _ | refine Dev.chalkRead_kept_of ?_ (by assumption) | apply Dev.chalkRead_kept | apply Dev.putTrace_kept
        | apply Dev.put_kept | apply Dev.wrapUp_kept | apply Dev.post_kept | apply Dev.setChalk_kept | apply Dev.chalkEnd_kept
        | apply Dev.Kept.canon | refine ite_kept ?_ ?_)
    | split | (unfold Dev.Kept; dsimp only)

theorem execLoopCompute_keeps (l : Nat) : Keeps (execLoopCompute l) := .onDev fun _ d h => by
  repeat' first
    | (with_reducible first
        | assumption | intro _ | apply Dev.loopResumed_kept | apply Dev.loopCompute_kept | apply Dev.Kept.canon | refine ite_kept ?_ ?_)

theorem execLoopUrgentIssue_keeps (l : Nat) : Keeps (execLoopUrgentIssue l) := .onDev fun _ d h => by
  repeat' first
    | (with_reducible first
        | assumption | intro _ | apply Dev.setLoop_kept | apply Dev.askUrgent_kept | apply Dev.Kept.canon | refine ite_kept ?_ ?_)
    | split

theorem execLoopCtrlWrite_keeps (v : Nat) : Keeps (execLoopCtrlWrite v) := .onDev fun _ d h => by
  repeat' first | (with_reducible first | assumption | intro _ | apply Dev.hostReg_kept | apply Dev.writeLoopCtrl_kept)

theorem execLoopSetSwitch_keeps (l : Nat) : Keeps (execLoopSetSwitch l) := .onDev fun _ d h => by
  repeat' first
    | (with_reducible first
        | assumption | intro _ | apply Dev.admitLoop_kept | apply Dev.keep_kept | apply Dev.setBlock_kept | apply Dev.showEngine_kept
        | apply Dev.finish_kept | apply Dev.Kept.canon | refine ite_kept ?_ ?_)
    | split | (unfold Dev.Kept; dsimp only)

theorem execLoopRemoveEffect_keeps (l : Nat) : Keeps (execLoopRemoveEffect l) := .onDev fun _ d h => by
  repeat' first
    | (with_reducible first
        | assumption | intro _ | apply Dev.removeLoop_kept | apply Dev.Kept.canon | refine ite_kept ?_ ?_)
    | split | (unfold Dev.Kept; dsimp only)

theorem execLoopSet_keeps (q : Nat) (x : Desc) : Keeps (execLoopSet q x) := .submit fun _ _ _ _ => bodyLoopSet_kept _ _

theorem execLoopRemove_keeps (q : Nat) (x : Desc) : Keeps (execLoopRemove q x) := .submit fun _ _ _ _ => bodyLoopRemove_kept _ _

theorem execLoopMode_keeps (q : Nat) (x : Desc) : Keeps (execLoopMode q x) := .submit fun _ _ _ _ => bodyLoopMode_kept _ _

theorem execLoopHold_keeps (q : Nat) (x : Desc) : Keeps (execLoopHold q x) := .submit fun _ _ _ _ => bodyLoopHold_kept _ _

theorem execLoopClear_keeps (q : Nat) (x : Desc) : Keeps (execLoopClear q x) := .submit fun _ _ _ _ => bodyLoopClear_kept _ _

theorem execChalkArm_keeps (q : Nat) (x : Desc) : Keeps (execChalkArm q x) := .submit fun _ _ _ _ => bodyChalkArm_kept _ _

theorem execChalkTrigger_keeps (q : Nat) (x : Desc) : Keeps (execChalkTrigger q x) := .submit fun _ _ _ _ => bodyChalkTrigger_kept _ _

theorem execChalkStop_keeps (q : Nat) (x : Desc) : Keeps (execChalkStop q x) := .submit fun _ _ _ _ => bodyChalkStop_kept _ _

theorem execLoopAbort_keeps (q : Nat) (x : Desc) : Keeps (execLoopAbort q x) := .submit fun _ _ _ _ => bodyLoopAbort_kept _ _

theorem execRailInRegulation_keeps : Keeps execRailInRegulation := .onDev fun _ d h => by
  repeat' first | (with_reducible first | assumption | intro _ | apply Dev.setPanel_kept | apply Dev.Kept.canon | refine ite_kept ?_ ?_) | split

theorem execRailStartTimeout_keeps (mv : Int) : Keeps (execRailStartTimeout mv) := .onDev fun _ d h => by
  repeat' first | (with_reducible first | assumption | intro _ | apply Dev.panelFault_kept | apply Dev.Kept.canon | refine ite_kept ?_ ?_) | split

theorem execRailFault_keeps (rail : Nat) (mv : Int) : Keeps (execRailFault rail mv) := .onDev fun _ d h => by
  repeat' first | (with_reducible first | assumption | intro _ | apply Dev.panelFault_kept | apply Dev.Kept.canon | refine ite_kept ?_ ?_)

theorem execRailHoldExpiry_keeps : Keeps execRailHoldExpiry := .onDev fun _ d h => by
  repeat' first | (with_reducible first | assumption | intro _ | apply Dev.panelFall_kept | apply Dev.Kept.canon | refine ite_kept ?_ ?_)

theorem execRailFallDone_keeps : Keeps execRailFallDone := .onDev fun _ d h => by
  repeat' first
    | (with_reducible first
        | assumption | intro _ | apply Dev.setPanel_kept | apply Dev.panelRise_kept | apply Dev.Kept.canon | refine ite_kept ?_ ?_)
    | split

theorem execFrontlightFault_keeps (volts : Nat) (ms : Nat) : Keeps (execFrontlightFault volts ms) := .onDev fun _ d h => by
  repeat' first
    | (with_reducible first
        | assumption | intro _ | apply Dev.put_kept | apply Dev.showFrontlight_kept | apply Dev.raiseLimited_kept | apply Dev.Kept.canon
        | refine ite_kept ?_ ?_)
    | split | (unfold Dev.Kept; dsimp only)

theorem execFrontlightRetry_keeps (volts : Nat) : Keeps (execFrontlightRetry volts) := .onDev fun _ d h => by
  repeat' first
    | (with_reducible first
        | assumption | intro _ | apply Dev.put_kept | apply Dev.showFrontlight_kept | apply Dev.raiseLimited_kept | apply Dev.Kept.canon
        | refine ite_kept ?_ ?_)
    | split | (unfold Dev.Kept; dsimp only)

theorem execPhaseBoundary_keeps (die : Int) (duty : Nat) : Keeps (execPhaseBoundary die duty) := .onDev fun _ d h => by
  repeat' first
    | (with_reducible first
        | assumption | intro _ | apply Dev.panelBand_kept | apply Dev.touchValue_kept | apply Dev.panelPhaseEnd_kept | apply Dev.panelSwitch_kept
        | apply Dev.panelBegin_kept | apply Dev.setPanel_kept | apply Dev.panelDrive_kept | apply Dev.Kept.canon | refine ite_kept ?_ ?_
        | refine foldl_kept (fun _ _ _ => ?_) ?_ _ | refine foldl_snd_kept (fun _ _ _ => ?_) ?_ _)
    | split | (unfold Dev.Kept; dsimp only)

theorem execPanelUpdate_keeps (q : Nat) (x : Desc) : Keeps (execPanelUpdate q x) := .submit fun _ _ _ _ => bodyPanelUpdate_kept _ _

theorem execPanelWfload_keeps (q : Nat) (x : Desc) : Keeps (execPanelWfload q x) := .submit fun _ _ _ _ => bodyPanelWfload_kept _ _

theorem execPanelWfloadTimeout_keeps : Keeps execPanelWfloadTimeout := .onDev fun _ d h => by
  repeat' first | (with_reducible first | assumption | intro _ | apply Dev.endWfload_kept | apply Dev.Kept.canon | refine ite_kept ?_ ?_) | split

theorem execPanelCrcCheck_keeps (q : Nat) (x : Desc) : Keeps (execPanelCrcCheck q x) := .submit fun _ _ _ _ => bodyPanelCrcCheck_kept _ _

theorem execPanelAbort_keeps (q : Nat) (x : Desc) : Keeps (execPanelAbort q x) := .submit fun _ _ _ _ => bodyPanelAbort_kept _ _

theorem execPanelEnWrite_keeps (v : Nat) : Keeps (execPanelEnWrite v) := .onDev fun _ d h => by
  repeat' first | (with_reducible first | assumption | intro _ | apply Dev.hostReg_kept | apply Dev.writePanelCfg_kept)

theorem execTimeMarkerSend_keeps : Keeps execTimeMarkerSend := .onDev fun _ d h => by
  repeat' first
    | (with_reducible first
        | assumption | intro _ | apply Dev.flood_kept | apply Dev.Kept.canon | refine ite_kept ?_ ?_)
    | split | (unfold Dev.Kept; dsimp only)

theorem execTime_keeps (p : Nat) (low : Nat) (ns : Int) : Keeps (execTime p low ns) := .onDev fun _ d h => by
  repeat' first
    | (with_reducible first
        | assumption | intro _ | apply Dev.flood_kept | apply Dev.put_kept | apply Dev.takeOffset_kept | apply Dev.Kept.canon
        | refine ite_kept ?_ ?_)
    | split | (unfold Dev.Kept; dsimp only)

theorem execMasterLost_keeps (cands : List (Nat × Nat × Nat)) : Keeps (execMasterLost cands) := .onDev fun _ d h => by
  repeat' first
    | (with_reducible first
        | assumption | intro _ | apply Dev.put_kept | apply Dev.elect_kept | apply Dev.Kept.canon | refine ite_kept ?_ ?_)

theorem execDelayExchange_keeps (p : Nat) (tx : Nat) : Keeps (execDelayExchange p tx) := .onDev fun _ d h => by
  repeat' first
    | (with_reducible first
        | assumption | intro _ | apply Dev.setPort_kept | apply Dev.emit_kept | apply Dev.Kept.canon | refine ite_kept ?_ ?_)

theorem execDelay_keeps (p : Nat) (n : Nat) (response : Bool) (rx : Nat) (tx : Nat) : Keeps (execDelay p n response rx tx) := .onDev fun _ d h => by
  repeat' first
    | (with_reducible first
        | assumption | intro _ | apply Dev.setPort_kept | apply Dev.emit_kept | apply Dev.sendControl_kept | apply Dev.Kept.canon
        | refine ite_kept ?_ ?_)

theorem execIdle_keeps (p : Nat) (dev : Nat) (port : Nat) (numbered : Bool) : Keeps (execIdle p dev port numbered) := .onDev fun _ d h => by
  repeat' first | (with_reducible first | assumption | intro _ | apply Dev.setNbr_kept | apply Dev.Kept.canon | refine ite_kept ?_ ?_)

theorem execTrain_keeps (p : Nat) (dev : Nat) (port : Nat) (numbered : Bool) (looped : Bool) (used : List Nat) (cands : List (Nat × Nat × Nat))
    : Keeps (execTrain p dev port numbered looped used cands) := .onDev fun _ d h => by
  repeat' first
    | (with_reducible first
        | assumption | intro _ | apply Dev.quiltTrain_kept | apply Dev.setNbr_kept | apply Dev.trainCounts_kept | apply Dev.setPortState_kept
        | apply Dev.sendAudits_kept | apply Dev.Kept.canon | refine ite_kept ?_ ?_)

theorem execAudit_keeps (p : Nat) (cls : Nat) (credits : Nat) (count : Nat) : Keeps (execAudit p cls credits count) := .onDev fun _ d h => by
  repeat' first
    | (with_reducible first
        | assumption | intro _ | apply Dev.raise_kept | apply Dev.put_kept | apply Dev.linkDown_kept | apply Dev.setPort_kept
        | apply Dev.linkUp_kept | apply Dev.endAudits_kept | apply Dev.sendAudit_kept | apply Dev.Kept.canon | refine ite_kept ?_ ?_)
    | split | (unfold Dev.Kept; dsimp only)

theorem execLinkSilence_keeps (p : Nat) : Keeps (execLinkSilence p) := .onDev fun _ d h => by
  repeat' first | (with_reducible first | assumption | intro _ | apply Dev.linkDown_kept | apply Dev.Kept.canon | refine ite_kept ?_ ?_)

theorem execDown_keeps (p : Nat) (_cause : Nat) : Keeps (execDown p _cause) := .onDev fun _ d h => by
  repeat' first | (with_reducible first | assumption | intro _ | apply Dev.linkDown_kept | apply Dev.Kept.canon | refine ite_kept ?_ ?_)

theorem execSeamLos_keeps (p : Nat) (high : Bool) : Keeps (execSeamLos p high) := .onDev fun _ d h => by
  repeat' first
    | (with_reducible first
        | assumption | intro _ | apply Dev.putBit_kept | apply Dev.applyLos_kept | apply Dev.Kept.canon | refine ite_kept ?_ ?_)

theorem execReceiverAligned_keeps (p : Nat) : Keeps (execReceiverAligned p) := .onDev fun _ d h => by
  repeat' first
    | (with_reducible first
        | assumption | intro _ | apply Dev.put_kept | apply Dev.emit_kept | apply Dev.Kept.canon | refine ite_kept ?_ ?_)

theorem execTrainingTimeout_keeps (p : Nat) : Keeps (execTrainingTimeout p) := .onDev fun _ d h => by
  repeat' first
    | (with_reducible first
        | assumption | intro _ | apply Dev.put_kept | apply Dev.setPort_kept | apply Dev.Kept.canon | refine ite_kept ?_ ?_)

theorem execTrainingIdleEnd_keeps (p : Nat) : Keeps (execTrainingIdleEnd p) := .onDev fun _ d h => by
  repeat' first | (with_reducible first | assumption | intro _ | apply Dev.enterTraining_kept | apply Dev.Kept.canon | refine ite_kept ?_ ?_)

theorem execDownSendEnd_keeps (p : Nat) : Keeps (execDownSendEnd p) := .onDev fun _ d h => by
  repeat' first
    | (with_reducible first
        | assumption | intro _ | apply Dev.setPort_kept | apply Dev.enterTraining_kept | apply Dev.Kept.canon | refine ite_kept ?_ ?_)

theorem execPortEnWrite_keeps (v : Nat) : Keeps (execPortEnWrite v) := .onDev fun _ d h => by
  repeat' first | (with_reducible first | assumption | intro _ | apply Dev.hostReg_kept | apply Dev.writeQuiltCfg_kept)

theorem execPortEqWrite_keeps (p : Nat) (v : Nat) : Keeps (execPortEqWrite p v) := .onDev fun _ d h => by
  repeat' first
    | (with_reducible first
        | assumption | intro _ | apply Dev.hostReg_kept | apply Dev.writePortEq_kept | apply Dev.Kept.canon | refine ite_kept ?_ ?_)

theorem execRevertTimer_keeps (p : Nat) : Keeps (execRevertTimer p) := .onDev fun _ d h => by
  repeat' first
    | (with_reducible first
        | assumption | intro _ | apply Dev.reroute_kept | apply Dev.pump_kept | apply Dev.Kept.canon | refine ite_kept ?_ ?_)

theorem execAck_keeps (p : Nat) (count : Nat) (nak : Bool) (ns : Nat) : Keeps (execAck p count nak ns) := .onDev fun _ d h => by
  repeat' first
    | (with_reducible first
        | assumption | intro _ | apply Dev.setPort_kept | apply Dev.pump_kept | apply Dev.readRetries_kept | apply Dev.emit_kept
        | apply Dev.bump_kept | apply Dev.linkError_kept | apply Dev.Kept.canon | refine ite_kept ?_ ?_ | refine foldl_kept (fun _ _ _ => ?_) ?_ _)

theorem execCredit_keeps (p : Nat) (cls : Nat) (n : Nat) : Keeps (execCredit p cls n) := .onDev fun _ d h => by
  repeat' first
    | (with_reducible first
        | assumption | intro _ | apply Dev.put_kept | apply Dev.setPort_kept | apply Dev.pump_kept | apply Dev.Kept.canon | refine ite_kept ?_ ?_)

theorem execSeamUncorrectable_keeps (p : Nat) (x : LostStitch) : Keeps (execSeamUncorrectable p x) := .onDev fun _ d h => by
  repeat' first
    | (with_reducible first
        | assumption | intro _ | apply Dev.bump_kept | apply Dev.raiseLimited_kept | apply Dev.sendNak_kept | apply Dev.linkError_kept
        | apply Dev.Kept.canon | refine ite_kept ?_ ?_)

theorem execFlowOpen_keeps (q : Nat) (x : Desc) : Keeps (execFlowOpen q x) := .submit fun _ _ _ _ => bodyFlowOpen_kept _ _

theorem execFlowClose_keeps (q : Nat) (x : Desc) : Keeps (execFlowClose q x) := .submit fun _ _ _ _ => bodyFlowClose_kept _ _

theorem execAdmitTimeout_keeps (id : Nat) : Keeps (execAdmitTimeout id) := .onDev fun _ d h => by
  repeat' first | (with_reducible first | assumption | intro _ | apply Dev.endFlowOpen_kept | apply Dev.Kept.canon | refine ite_kept ?_ ?_) | split

theorem execTackSlot_keeps (p : Nat) (j : Nat) : Keeps (execTackSlot p j) := .onDev fun _ d h => by
  repeat' first
    | (with_reducible first
        | assumption | intro _ | apply Dev.setPort_kept | apply Dev.sendOn_kept | apply Dev.freeItem_kept | apply Dev.Kept.canon
        | refine ite_kept ?_ ?_)
    | split | (unfold Dev.Kept; dsimp only)

theorem execRringFetchRetry_keeps : Keeps execRringFetchRetry := .onDev fun _ d h => by
  repeat' first
    | (with_reducible first
        | assumption | intro _ | apply Dev.readHeads_kept | apply Dev.remoteFetchAll_kept | apply Dev.Kept.canon | refine ite_kept ?_ ?_)
    | split | (unfold Dev.Kept; dsimp only)

theorem execGapWaitExpiry_keeps (src : Nat) (flow : Nat) (cls : Nat) : Keeps (execGapWaitExpiry src flow cls) := .onDev fun _ d h => by
  repeat' first
    | (with_reducible first
        | assumption | intro _ | apply Dev.setFlowRec_kept | apply Dev.bump_kept | apply Dev.raiseLimited_kept | apply Dev.drainFlow_kept
        | apply Dev.Kept.canon | refine ite_kept ?_ ?_)
    | split | (unfold Dev.Kept; dsimp only)

theorem execStitchValue_keeps (p : Nat) (w : Word) (wrong : Nat) (first : Bool) : Keeps (execStitchValue p w wrong first) := .onDev fun _ d h => by
  repeat' first | (with_reducible first | assumption | intro _ | apply Dev.receive_kept)

theorem execStitchMemRead_keeps (p : Nat) (w : Word) (wrong : Nat) (first : Bool)
    : Keeps (execStitchMemRead p w wrong first) := .onDev fun _ d h => by
  repeat' first | (with_reducible first | assumption | intro _ | apply Dev.receive_kept)

theorem execStitchMemData_keeps (p : Nat) (w : Word) (wrong : Nat) (first : Bool)
    : Keeps (execStitchMemData p w wrong first) := .onDev fun _ d h => by
  repeat' first | (with_reducible first | assumption | intro _ | apply Dev.receive_kept)

theorem execStitchMemWrite_keeps (p : Nat) (w : Word) (wrong : Nat) (first : Bool)
    : Keeps (execStitchMemWrite p w wrong first) := .onDev fun _ d h => by
  repeat' first | (with_reducible first | assumption | intro _ | apply Dev.receive_kept)

theorem execStitchMemAck_keeps (p : Nat) (w : Word) (wrong : Nat) (first : Bool) : Keeps (execStitchMemAck p w wrong first) := .onDev fun _ d h => by
  repeat' first | (with_reducible first | assumption | intro _ | apply Dev.receive_kept)

theorem execStitchDoorbell_keeps (p : Nat) (w : Word) (wrong : Nat) (first : Bool)
    : Keeps (execStitchDoorbell p w wrong first) := .onDev fun _ d h => by
  repeat' first | (with_reducible first | assumption | intro _ | apply Dev.receive_kept)

theorem execTokenReq_keeps (p : Nat) (w : Word) (wrong : Nat) (first : Bool) : Keeps (execTokenReq p w wrong first) := .onDev fun _ d h => by
  repeat' first | (with_reducible first | assumption | intro _ | apply Dev.receive_kept)

theorem execTokenGrant_keeps (p : Nat) (w : Word) (wrong : Nat) (first : Bool) : Keeps (execTokenGrant p w wrong first) := .onDev fun _ d h => by
  repeat' first | (with_reducible first | assumption | intro _ | apply Dev.receive_kept)

theorem execTokenReturn_keeps (p : Nat) (w : Word) (wrong : Nat) (first : Bool) : Keeps (execTokenReturn p w wrong first) := .onDev fun _ d h => by
  repeat' first | (with_reducible first | assumption | intro _ | apply Dev.receive_kept)

theorem execAdmit_keeps (p : Nat) (w : Word) (wrong : Nat) (first : Bool) : Keeps (execAdmit p w wrong first) := .onDev fun _ d h => by
  repeat' first | (with_reducible first | assumption | intro _ | apply Dev.receive_kept)

theorem execAdmitReply_keeps (p : Nat) (w : Word) (wrong : Nat) (first : Bool) : Keeps (execAdmitReply p w wrong first) := .onDev fun _ d h => by
  repeat' first | (with_reducible first | assumption | intro _ | apply Dev.receive_kept)

theorem execTrace_keeps (p : Nat) (w : Word) (wrong : Nat) (first : Bool) : Keeps (execTrace p w wrong first) := .onDev fun _ d h => by
  repeat' first | (with_reducible first | assumption | intro _ | apply Dev.receive_kept)

theorem execMgmt_keeps (p : Nat) (w : Word) (wrong : Nat) (first : Bool) : Keeps (execMgmt p w wrong first) := .onDev fun _ d h => by
  repeat' first | (with_reducible first | assumption | intro _ | apply Dev.receive_kept)

theorem execUnreachableDiscard_keeps (dest : Nat) (cls : Nat) : Keeps (execUnreachableDiscard dest cls) := .onDev fun _ d h => by
  repeat' first
    | (with_reducible first
        | assumption | intro _ | apply Dev.freeItem_kept | apply Dev.fail_kept | apply Dev.raiseLimited_kept | apply Dev.Kept.canon
        | refine ite_kept ?_ ?_ | refine foldl_kept (fun _ _ _ => ?_) ?_ _ | refine foldl_snd_kept (fun _ _ _ => ?_) ?_ _)
    | split | (unfold Dev.Kept; dsimp only)

theorem execTokenIdleReturn_keeps (dest : Nat) (cls : Nat) : Keeps (execTokenIdleReturn dest cls) := .onDev fun _ d h => by
  repeat' first
    | (with_reducible first
        | assumption | intro _ | apply Dev.setTokens_kept | apply Dev.sendControl_kept | apply Dev.Kept.canon | refine ite_kept ?_ ?_)

theorem execClass2Timeout_keeps (id : Nat) : Keeps (execClass2Timeout id) := .onDev fun _ d h => by
  repeat' first
    | (with_reducible first
        | assumption | intro _ | apply Dev.freeItem_kept | apply Dev.fail_kept | apply Dev.Kept.canon | refine ite_kept ?_ ?_
        | refine foldl_kept (fun _ _ _ => ?_) ?_ _ | refine foldl_snd_kept (fun _ _ _ => ?_) ?_ _)
    | split | (unfold Dev.Kept; dsimp only)

theorem execRouteLoad_keeps (q : Nat) (x : Desc) : Keeps (execRouteLoad q x) := .submit fun _ _ _ _ => bodyRouteLoad_kept _ _

theorem execPortRetrain_keeps (q : Nat) (x : Desc) : Keeps (execPortRetrain q x) := .submit fun _ _ _ _ => bodyPortRetrain_kept _ _

theorem execPortRetrainDone_keeps (id : Nat) : Keeps (execPortRetrainDone id) := .onDev fun _ d h => by
  repeat' first
    | (with_reducible first
        | assumption | intro _ | apply Dev.done_kept | apply Dev.Kept.canon | refine ite_kept ?_ ?_ | refine foldl_kept (fun _ _ _ => ?_) ?_ _
        | refine foldl_snd_kept (fun _ _ _ => ?_) ?_ _)
    | split | (unfold Dev.Kept; dsimp only)

theorem execQuiltAudit_keeps (q : Nat) (x : Desc) : Keeps (execQuiltAudit q x) := .submit fun _ _ _ _ => bodyQuiltAudit_kept _ _

theorem execRringDoorbell_keeps (q : Nat) (x : Desc) : Keeps (execRringDoorbell q x) := .submit fun _ _ _ _ => bodyRringDoorbell_kept _ _

theorem execQuiltAbort_keeps (q : Nat) (x : Desc) : Keeps (execQuiltAbort q x) :=
  .submit fun _ _ _ _ h => Dev.abortDesc_kept _ _ _ _ _ h fun _ _ _ => settleQuilt_kept _ _

theorem execOwnerHandover_keeps (q : Nat) (x : Desc) : Keeps (execOwnerHandover q x) := .submit fun _ _ _ _ => bodyOwnerHandover_kept _ _

theorem execConfigManifest_keeps (q : Nat) (x : Desc) : Keeps (execConfigManifest q x) := .submit fun _ _ _ _ => bodyConfigManifest_kept _ _

theorem execFwUpdate_keeps (q : Nat) (x : Desc) : Keeps (execFwUpdate q x) := .submit fun _ _ _ _ => bodyFwUpdate_kept _ _

theorem execAttest_keeps (q : Nat) (x : Desc) : Keeps (execAttest q x) := .submit fun _ _ _ _ => bodyAttest_kept _ _

theorem execFwUpdateWritten_keeps : Keeps execFwUpdateWritten := .onDev fun _ d h => by
  repeat' first
    | (with_reducible first
        | assumption | intro _ | apply Dev.putRet_kept | apply Dev.endSec_kept | apply Dev.Kept.canon | refine ite_kept ?_ ?_)
    | split

theorem execSecAbort_keeps (q : Nat) (x : Desc) : Keeps (execSecAbort q x) := .submit fun _ _ _ _ => bodySecAbort_kept _ _

theorem execFwRecGo_keeps (v : Nat) : Keeps (execFwRecGo v) := .onDev fun _ d h => by
  repeat' first | (with_reducible first | assumption | intro _ | apply Dev.writeFwRec_kept)

theorem execFwReverify_keeps (a : SlotCheck) (b : SlotCheck) : Keeps (execFwReverify a b) := .onDev fun _ d h => by
  repeat' first | (with_reducible first | assumption | intro _ | apply Dev.leaveRecovery_kept | apply Dev.Kept.canon | refine ite_kept ?_ ?_)

theorem execVl24Good_keeps : Keeps execVl24Good := .onDev fun _ d h => by
  repeat' first | (with_reducible first | assumption | intro _ | apply Dev.startStep2_kept | apply Dev.Kept.canon | refine ite_kept ?_ ?_)

theorem execStartRetry_keeps : Keeps execStartRetry := .onDev fun _ d h => by
  repeat' first | (with_reducible first | assumption | intro _ | apply Dev.startStep2_kept | apply Dev.Kept.canon | refine ite_kept ?_ ?_)

theorem execPowerGoodRise_keeps (rail : Nat) : Keeps (execPowerGoodRise rail) := .onDev fun _ d h => by
  repeat' first
    | (with_reducible first
        | assumption | intro _ | apply Dev.raiseEnable_kept | apply Dev.put_kept | apply Dev.setPower_kept | apply Dev.startStep4_kept
        | apply Dev.Kept.canon | refine ite_kept ?_ ?_)

theorem execPgTimeout_keeps (rail : Nat) : Keeps (execPgTimeout rail) := .onDev fun _ d h => by
  repeat' first
    | (with_reducible first
        | assumption | intro _ | apply Dev.lowerEnables_kept | apply Dev.setPower_kept | apply Dev.Kept.canon | refine ite_kept ?_ ?_)

theorem execVl24FallAtStart_keeps : Keeps execVl24FallAtStart := .onDev fun _ d h => by
  repeat' first
    | (with_reducible first
        | assumption | intro _ | apply Dev.coreReset_kept | apply Dev.lowerEnables_kept | apply Dev.setPower_kept | apply Dev.Kept.canon
        | refine ite_kept ?_ ?_)

theorem execFirmwareVerified_keeps (a : SlotCheck) (b : SlotCheck) (mode : PmbusResult)
    : Keeps (execFirmwareVerified a b mode) := .onDev fun _ d h => by
  repeat' first
    | (with_reducible first
        | assumption | intro _ | apply Dev.bootIdentity_kept | apply Dev.put_kept | apply Dev.enterRecovery_kept | apply Dev.booted_kept
        | apply Dev.restoreAll_kept | apply Dev.pmbusOpen_kept | apply Dev.setPower_kept | apply Dev.Kept.canon | refine ite_kept ?_ ?_)
    | split | (unfold Dev.Kept; dsimp only)

theorem execPfwNFalling_keeps (vl24 : Nat) (vhold : Nat) : Keeps (execPfwNFalling vl24 vhold) := .onDev fun _ d h => by
  repeat' first
    | (with_reducible first
        | assumption | intro _ | apply Dev.joinWarning_kept | apply Dev.enterWarning_kept | apply Dev.Kept.canon | refine ite_kept ?_ ?_)

theorem execSaveEnd_keeps : Keeps execSaveEnd := .onDev fun _ d h => by
  repeat' first
    | (with_reducible first
        | assumption | intro _ | apply Dev.saveCommit_kept | apply Dev.put_kept | apply Dev.Kept.canon | refine ite_kept ?_ ?_)

theorem execVl24AboveResume_keeps (vl24 : Nat) : Keeps (execVl24AboveResume vl24) := .onDev fun _ d h => by
  repeat' first
    | (with_reducible first
        | assumption | intro _ | apply Dev.followResume_kept | apply Dev.put_kept | apply Dev.Kept.canon | refine ite_kept ?_ ?_)

theorem execWarningEnd_keeps (vl24 : Nat) : Keeps (execWarningEnd vl24) := .onDev fun _ d h => by
  repeat' first
    | (with_reducible first
        | assumption | intro _ | apply Dev.put_kept | apply Dev.setPower_kept | apply Dev.setPfw_kept | apply Dev.showFrontlight_kept
        | apply Dev.kickWrites_kept | apply Dev.Kept.canon | refine ite_kept ?_ ?_)
    | split | (unfold Dev.Kept; dsimp only)

theorem execDipSafeExpiry_keeps : Keeps execDipSafeExpiry := .onDev fun _ d h => by
  repeat' first | (with_reducible first | assumption | intro _ | apply Dev.setPower_kept | apply Dev.Kept.canon | refine ite_kept ?_ ?_)

theorem execClrDip_keeps : Keeps execClrDip := .onDev fun _ d h => by
  repeat' first | (with_reducible first | assumption | intro _ | apply Dev.hostReg_kept | apply Dev.writePwrClr_kept)

theorem execRstNLow_keeps : Keeps execRstNLow := .onDev fun _ d h => by
  repeat' first
    | (with_reducible first
        | assumption | intro _ | apply Dev.setPower_kept | apply Dev.enterWarning_kept | apply Dev.Kept.canon | refine ite_kept ?_ ?_)

theorem execRstNResetDue_keeps : Keeps execRstNResetDue := .onDev fun _ d h => by
  repeat' first
    | (with_reducible first
        | assumption | intro _ | apply Dev.latchReset_kept | apply Dev.coreReset_kept | apply Dev.setPfw_kept | apply Dev.setPower_kept
        | apply Dev.startStep4_kept | apply Dev.Kept.canon | refine ite_kept ?_ ?_)

theorem execRstNRise_keeps : Keeps execRstNRise := .onDev fun _ d h => by
  repeat' first
    | (with_reducible first
        | assumption | intro _ | apply Dev.setPower_kept | apply Dev.startStep4_kept | apply Dev.Kept.canon | refine ite_kept ?_ ?_)

theorem execSupplyReset_keeps (core : CoreSupplies) (vl24 : Nat) (vhold : Nat) : Keeps (execSupplyReset core vl24 vhold) := .onDev fun _ d h => by
  repeat' first
    | (with_reducible first
        | assumption | intro _ | apply Dev.putVolts_kept | apply Dev.latchReset_kept | apply Dev.coreReset_kept | apply Dev.lowerEnables_kept
        | apply Dev.setPfw_kept | apply Dev.setPower_kept | apply Dev.Kept.canon | refine ite_kept ?_ ?_)

theorem execClkrefLost_keeps : Keeps execClkrefLost := .onDev fun _ d h => by
  repeat' first
    | (with_reducible first
        | assumption | intro _ | apply Dev.nextFree_kept | apply Dev.latchReset_kept | apply Dev.coreReset_kept | apply Dev.setPfw_kept
        | apply Dev.setPower_kept | apply Dev.Kept.canon | refine ite_kept ?_ ?_)

theorem execClkrefRestored_keeps : Keeps execClkrefRestored := .onDev fun _ d h => by
  repeat' first
    | (with_reducible first
        | assumption | intro _ | apply Dev.logAtBoot_kept | apply Dev.setPower_kept | apply Dev.startStep4_kept | apply Dev.Kept.canon
        | refine ite_kept ?_ ?_)

theorem execFirmwareWatchdog_keeps : Keeps execFirmwareWatchdog := .onDev fun _ d h => by
  repeat' first
    | (with_reducible first
        | assumption | intro _ | apply Dev.setPower_kept | apply Dev.enterWarning_kept | apply Dev.Kept.canon | refine ite_kept ?_ ?_)

theorem execVcoreStep_keeps (res : PmbusResult) : Keeps (execVcoreStep res) := .onDev fun _ d h => by
  repeat' first
    | (with_reducible first
        | assumption | intro _ | apply Dev.setPower_kept | apply Dev.emit_kept | apply Dev.pmbusFail_kept | apply Dev.putBit_kept
        | apply Dev.Kept.canon | refine ite_kept ?_ ?_)
    | split

theorem execReadVoutPoll_keeps (res : PmbusResult) : Keeps (execReadVoutPoll res) := .onDev fun _ d h => by
  repeat' first
    | (with_reducible first
        | assumption | intro _ | apply Dev.setPower_kept | apply Dev.emit_kept | apply Dev.pmbusFail_kept | apply Dev.put_kept
        | apply Dev.Kept.canon | refine ite_kept ?_ ?_)
    | split

theorem execStatusWordPoll_keeps (res : PmbusResult) (mode : PmbusResult) : Keeps (execStatusWordPoll res mode) := .onDev fun _ d h => by
  repeat' first
    | (with_reducible first
        | assumption | intro _ | apply Dev.pmbusTry_kept | apply Dev.setPower_kept | apply Dev.emit_kept | apply Dev.pmbusFail_kept
        | apply Dev.pmbusStop_kept | apply Dev.Kept.canon | refine ite_kept ?_ ?_)
    | split

theorem execPmbusTimeout_keeps : Keeps execPmbusTimeout := .onDev fun _ d h => by
  repeat' first
    | (with_reducible first
        | assumption | intro _ | apply Dev.pmbusTry_kept | apply Dev.pmbusFail_kept | apply Dev.Kept.canon | refine ite_kept ?_ ?_)

theorem execFitApply_keeps : Keeps execFitApply := .onDev fun _ d h => by
  repeat' first
    | (with_reducible first
        | assumption | intro _ | apply Dev.fitApplied_kept | apply Dev.warnIfLow_kept | apply Dev.Kept.canon | refine ite_kept ?_ ?_)

theorem execDbgFreeze_keeps (q : Nat) (x : Desc) : Keeps (execDbgFreeze q x) := .submit fun _ _ _ _ => bodyDbgFreeze_kept _ _

theorem execFrzNLow_keeps : Keeps execFrzNLow := .onDev fun _ d h => by
  repeat' first
    | (with_reducible first
        | assumption | intro _ | apply Dev.setFrz_kept | apply Dev.askFreeze_kept | apply Dev.Kept.canon | refine ite_kept ?_ ?_)

theorem execFreezeReq_keeps : Keeps execFreezeReq := .onDev fun _ d h => by
  repeat' first | (with_reducible first | assumption | intro _ | apply Dev.askFreeze_kept | apply Dev.Kept.canon | refine ite_kept ?_ ?_)

theorem execFreeze_keeps (p : Nat) (f : Nat) : Keeps (execFreeze p f) := .onDev fun _ d h => by
  repeat' first
    | (with_reducible first
        | assumption | intro _ | apply Dev.floodQuilt_kept | apply Dev.setFrz_kept | apply Dev.Kept.canon | refine ite_kept ?_ ?_)
    | split

theorem execFreezeStop_keeps : Keeps execFreezeStop := .onDev fun _ d h => by
  repeat' first
    | (with_reducible first
        | assumption | intro _ | apply Dev.loopStop_kept | apply Dev.fitFreeze_kept | apply Dev.busStop_kept | apply Dev.put_kept
        | apply Dev.putBit_kept | apply Dev.setFrz_kept | apply Dev.Kept.canon | refine ite_kept ?_ ?_)
    | split

theorem execDbgThaw_keeps : Keeps execDbgThaw := .onDev fun _ d h => by
  repeat' first | (with_reducible first | assumption | intro _ | apply Dev.askThaw_kept | apply Dev.Kept.canon | refine ite_kept ?_ ?_)

theorem execFrzNRise_keeps : Keeps execFrzNRise := .onDev fun _ d h => by
  repeat' first | (with_reducible first | assumption | intro _ | apply Dev.setFrz_kept | apply Dev.askThaw_kept)

theorem execThawReq_keeps : Keeps execThawReq := .onDev fun _ d h => by
  repeat' first | (with_reducible first | assumption | intro _ | apply Dev.askThaw_kept)

theorem execThaw_keeps (p : Nat) (f : Nat) : Keeps (execThaw p f) := .onDev fun _ d h => by
  repeat' first
    | (with_reducible first
        | assumption | intro _ | apply Dev.floodQuilt_kept | apply Dev.setFrz_kept | apply Dev.Kept.canon | refine ite_kept ?_ ?_)
    | split | (unfold Dev.Kept; dsimp only)

theorem execDbgRoDataRead_keeps : Keeps execDbgRoDataRead := .onDev fun _ d h => by
  repeat' first
    | (with_reducible first
        | assumption | intro _ | apply Dev.readOut_kept | apply Dev.put_kept | apply Dev.emit_kept | apply Dev.Kept.canon | refine ite_kept ?_ ?_)

theorem execRoAccess_keeps (space : Nat) (index : Nat) : Keeps (execRoAccess space index) := .onDev fun _ d h => by
  repeat' first | (with_reducible first | assumption | intro _ | apply Dev.readOut_kept | apply Dev.emit_kept)

theorem execIdcode_keeps : Keeps execIdcode := .onDev fun _ d h => by
  repeat' first | (with_reducible first | assumption | intro _ | apply Dev.emit_kept)

theorem execBypass_keeps : Keeps execBypass := .onDev fun _ d h => by
  repeat' first | (with_reducible first | assumption | intro _ | apply Dev.emit_kept)

theorem execSamplePreload_keeps (lands : List Bool) (chain : List Bool) : Keeps (execSamplePreload lands chain) := .onDev fun _ d h => by
  repeat' first | (with_reducible first | assumption | intro _ | apply Dev.setFrz_kept | apply Dev.emit_kept)

theorem execExtest_keeps : Keeps execExtest := .onDev fun _ d h => by
  repeat' first
    | (with_reducible first
        | assumption | intro _ | apply Dev.emit_kept | apply Dev.put_kept | apply Dev.Kept.canon | refine ite_kept ?_ ?_)

theorem execRegisterWrite_keeps (off : Nat) (size : Nat) (v : Nat) : Keeps (execRegisterWrite off size v) := .onDev fun _ d h => by
  repeat' first
    | (with_reducible first
        | assumption | intro _ | apply Dev.writeSized_kept | apply Dev.postHost_kept | apply Dev.writeFwRec_kept | apply Dev.Kept.canon
        | refine ite_kept ?_ ?_)
    | split

theorem execClrErr_keeps : Keeps execClrErr := .onDev fun _ d h => by
  repeat' first | (with_reducible first | assumption | intro _ | apply Dev.hostReg_kept | apply Dev.writeNvmClr_kept)

theorem execBar4Write_keeps (off : Nat) (bytes : List Nat) (upsets : List (Nat × Nat))
    : Keeps (execBar4Write off bytes upsets) := .onDev fun _ d h => by
  repeat' first
    | (with_reducible first
        | assumption | intro _ | apply Dev.upset_kept | apply Dev.postHost_kept | apply Dev.bar4Put_kept | apply Dev.Kept.canon
        | refine ite_kept ?_ ?_)

theorem execDescriptorStart_keeps (q : Nat) (data : List Nat) (ups : List (Nat × Nat × Nat))
    : Keeps (execDescriptorStart q data ups) := .onDev fun _ d h => by
  repeat' first | (with_reducible first | assumption | intro _ | apply Dev.startDesc_kept | apply Dev.Kept.canon | refine ite_kept ?_ ?_) | split

theorem execStagedCheckDone_keeps (id : Nat) : Keeps (execStagedCheckDone id) := .onDev fun _ d h => by
  repeat' first
    | (with_reducible first
        | assumption | intro _ | apply Dev.patLoadChecked_kept | apply Dev.loopChecked_kept | apply Dev.schedChecked_kept
        | apply Dev.shuttleChecked_kept | apply Dev.routeChecked_kept | apply Dev.pollChecked_kept | apply Dev.importChecked_kept
        | apply Dev.wfloadChecked_kept | apply Dev.secChecked_kept | apply Dev.Kept.canon | refine ite_kept ?_ ?_)
    | split

theorem execThawRestart_keeps (ms : Nat) (master : Option (Nat × Nat)) : Keeps (execThawRestart ms master) := .onDev fun _ d h => by
  repeat' first
    | (with_reducible first
        | assumption | intro _ | apply Dev.thawMaster_kept | apply Dev.thaw_kept | apply Dev.retrainThaw_kept | apply Dev.Kept.canon
        | refine ite_kept ?_ ?_ | refine foldl_kept (fun _ _ _ => ?_) ?_ _ | refine foldl_snd_kept (fun _ _ _ => ?_) ?_ _)
    | split

theorem execQuiltThawRestart_keeps (ms : Nat) : Keeps (execQuiltThawRestart ms) := .onDev fun _ d h => by
  repeat' first
    | (with_reducible first
        | assumption | intro _ | apply Dev.setFrz_kept | apply Dev.thaw_kept | apply Dev.Kept.canon | refine ite_kept ?_ ?_)
    | split

theorem execTickBoundary_keeps (vl24 : Nat) (vhold : Nat) : Keeps (execTickBoundary vl24 vhold) := .onDev fun _ d h => by
  repeat' first
    | (with_reducible first
        | assumption | intro _ | apply Dev.firstBoundary_kept | apply Dev.coreBoundary_kept | apply Dev.latchReset_kept | apply Dev.coreReset_kept
        | apply Dev.setPfw_kept | apply Dev.startStep4_kept | apply Dev.Kept.canon | refine ite_kept ?_ ?_)
    | split | (unfold Dev.Kept; dsimp only)

/-! ### The tables of all commands -/

theorem exec_keeps (c : Instr) : Keeps (exec c) :=
  match c with
  | .nop q d => execNop_keeps q d
  | .measCal q d => execMeasCal_keeps q d
  | .measUrgent q d => execMeasUrgent_keeps q d
  | .measAbort q d => execMeasAbort_keeps q d
  | .measCapture q d => execMeasCapture_keeps q d
  | .dioForce q d => execDioForce_keeps q d
  | .doClear q d => execDoClear_keeps q d
  | .darkTestNow q d => execDarkTestNow_keeps q d
  | .fieldResume q d => execFieldResume_keeps q d
  | .posPreset q d => execPosPreset_keeps q d
  | .posCheck q d => execPosCheck_keeps q d
  | .emuForce q d => execEmuForce_keeps q d
  | .posAbort q d => execPosAbort_keeps q d
  | .patLoad q d => execPatLoad_keeps q d
  | .patPredict q d => execPatPredict_keeps q d
  | .patAbort q d => execPatAbort_keeps q d
  | .patReset q d => execPatReset_keeps q d
  | .loopSet q d => execLoopSet_keeps q d
  | .loopRemove q d => execLoopRemove_keeps q d
  | .loopMode q d => execLoopMode_keeps q d
  | .loopHold q d => execLoopHold_keeps q d
  | .loopClear q d => execLoopClear_keeps q d
  | .chalkArm q d => execChalkArm_keeps q d
  | .chalkTrigger q d => execChalkTrigger_keeps q d
  | .chalkStop q d => execChalkStop_keeps q d
  | .loopAbort q d => execLoopAbort_keeps q d
  | .schedSet q d => execSchedSet_keeps q d
  | .zoneSet q d => execZoneSet_keeps q d
  | .zoneOverride q d => execZoneOverride_keeps q d
  | .civilSet q d => execCivilSet_keeps q d
  | .dstLoad q d => execDstLoad_keeps q d
  | .shuttleLoad q d => execShuttleLoad_keeps q d
  | .solShot q d => execSolShot_keeps q d
  | .solForce q d => execSolForce_keeps q d
  | .solClear q d => execSolClear_keeps q d
  | .shuttleAbort q d => execShuttleAbort_keeps q d
  | .fanaoForce q d => execFanaoForce_keeps q d
  | .fanClear q d => execFanClear_keeps q d
  | .flowOpen q d => execFlowOpen_keeps q d
  | .flowClose q d => execFlowClose_keeps q d
  | .routeLoad q d => execRouteLoad_keeps q d
  | .portRetrain q d => execPortRetrain_keeps q d
  | .quiltAudit q d => execQuiltAudit_keeps q d
  | .rringDoorbell q d => execRringDoorbell_keeps q d
  | .quiltAbort q d => execQuiltAbort_keeps q d
  | .busSend q d data => execBusSend_keeps q d data
  | .busRecv q d => execBusRecv_keeps q d
  | .busPollSet q d => execBusPollSet_keeps q d
  | .busAbort q d => execBusAbort_keeps q d
  | .nvmRead q d ups => execNvmRead_keeps q d ups
  | .nvmWrite q d => execNvmWrite_keeps q d
  | .nvmUnlock q d => execNvmUnlock_keeps q d
  | .nvmLock q d => execNvmLock_keeps q d
  | .nvmSetpw q d => execNvmSetpw_keeps q d
  | .nvmSync q d => execNvmSync_keeps q d
  | .recConfirm q d => execRecConfirm_keeps q d
  | .recWrite q d => execRecWrite_keeps q d
  | .recRead q d ups => execRecRead_keeps q d ups
  | .nvmExport q d => execNvmExport_keeps q d
  | .nvmImport q d data => execNvmImport_keeps q d data
  | .nvmAbort q d => execNvmAbort_keeps q d
  | .panelUpdate q d => execPanelUpdate_keeps q d
  | .panelWfload q d => execPanelWfload_keeps q d
  | .panelCrcCheck q d => execPanelCrcCheck_keeps q d
  | .panelAbort q d => execPanelAbort_keeps q d
  | .keyLock q d => execKeyLock_keeps q d
  | .fitRun q d => execFitRun_keeps q d
  | .fitLogRead q d => execFitLogRead_keeps q d
  | .fitBaseline q d => execFitBaseline_keeps q d
  | .fitAbort q d => execFitAbort_keeps q d
  | .ownerHandover q d => execOwnerHandover_keeps q d
  | .configManifest q d => execConfigManifest_keeps q d
  | .fwUpdate q d => execFwUpdate_keeps q d
  | .attest q d => execAttest_keeps q d
  | .secAbort q d => execSecAbort_keeps q d
  | .dbgFreeze q d => execDbgFreeze_keeps q d
  | .registerWrite off size v => execRegisterWrite_keeps off size v
  | .blReqWrite v => execBlReqWrite_keeps v
  | .sealWrite v => execSealWrite_keeps v
  | .tickLoRead => execTickLoRead_keeps
  | .clrCorrected => execClrCorrected_keeps
  | .clrUncorrectable => execClrUncorrectable_keeps
  | .fieldErrClr k => execFieldErrClr_keeps k
  | .clrDip => execClrDip_keeps
  | .clrErr => execClrErr_keeps
  | .uiModeWrite u v => execUiModeWrite_keeps u v
  | .uiGainShWrite u v => execUiGainShWrite_keeps u v
  | .convCtrlWrite c v => execConvCtrlWrite_keeps c v
  | .mailboxWrite off v => execMailboxWrite_keeps off v
  | .patCtrlWrite v => execPatCtrlWrite_keeps v
  | .loopCtrlWrite v => execLoopCtrlWrite_keeps v
  | .busCfgWrite n v => execBusCfgWrite_keeps n v
  | .portEnWrite v => execPortEnWrite_keeps v
  | .portEqWrite p v => execPortEqWrite_keeps p v
  | .panelEnWrite v => execPanelEnWrite_keeps v
  | .hostqWdogWrite v => execHostqWdogWrite_keeps v
  | .ringEnable r => execRingEnable_keeps r
  | .ringDisable r => execRingDisable_keeps r
  | .fenceClr q => execFenceClr_keeps q
  | .sqTailDoorbell q v => execSqTailDoorbell_keeps q v
  | .cqHeadDoorbell c v => execCqHeadDoorbell_keeps c v
  | .eqHeadDoorbell v => execEqHeadDoorbell_keeps v
  | .tqHeadDoorbell t v => execTqHeadDoorbell_keeps t v
  | .heartbeat v => execHeartbeat_keeps v
  | .dbgRoDataRead => execDbgRoDataRead_keeps
  | .dbgThaw => execDbgThaw_keeps
  | .fwRecGo v => execFwRecGo_keeps v
  | .bar4Read off len upsets => execBar4Read_keeps off len upsets
  | .bar4Write off bytes upsets => execBar4Write_keeps off bytes upsets
  | .vl24Good => execVl24Good_keeps
  | .pgTimeout rail => execPgTimeout_keeps rail
  | .startRetry => execStartRetry_keeps
  | .fwReverify a b => execFwReverify_keeps a b
  | .pfwNFalling vl24 vhold => execPfwNFalling_keeps vl24 vhold
  | .saveEnd => execSaveEnd_keeps
  | .vl24AboveResume vl24 => execVl24AboveResume_keeps vl24
  | .warningEnd vl24 => execWarningEnd_keeps vl24
  | .dipSafeExpiry => execDipSafeExpiry_keeps
  | .rstNLow => execRstNLow_keeps
  | .rstNResetDue => execRstNResetDue_keeps
  | .rstNRise => execRstNRise_keeps
  | .supplyReset core vl24 vhold => execSupplyReset_keeps core vl24 vhold
  | .clkrefLost => execClkrefLost_keeps
  | .clkrefRestored => execClkrefRestored_keeps
  | .firmwareWatchdog => execFirmwareWatchdog_keeps
  | .vcoreStep res => execVcoreStep_keeps res
  | .readVoutPoll res => execReadVoutPoll_keeps res
  | .statusWordPoll res mode => execStatusWordPoll_keeps res mode
  | .tickBoundary vl24 vhold => execTickBoundary_keeps vl24 vhold
  | .scrubRead upset => execScrubRead_keeps upset
  | .upFrame k arrives wrong => execUpFrame_keeps k arrives wrong
  | .barrierDown k => execBarrierDown_keeps k
  | .downFrame k arrives wrong => execDownFrame_keeps k arrives wrong
  | .fieldTickBoundary k sense => execFieldTickBoundary_keeps k sense
  | .holdWindowExpiry k => execHoldWindowExpiry_keeps k
  | .freezeHoldLimit k => execFreezeHoldLimit_keeps k
  | .downLinkSilent k => execDownLinkSilent_keeps k
  | .vf24Low k mv => execVf24Low_keeps k mv
  | .vf24Recovered k mv => execVf24Recovered_keeps k mv
  | .diPulseWindow n x => execDiPulseWindow_keeps n x
  | .diDebounceDone n x => execDiDebounceDone_keeps n x
  | .doOverload o ma => execDoOverload_keeps o ma
  | .doThermalLimit o ma => execDoThermalLimit_keeps o ma
  | .doRetry o => execDoRetry_keeps o
  | .doOnPeriodOk o => execDoOnPeriodOk_keeps o
  | .doForcedHigh o ma => execDoForcedHigh_keeps o ma
  | .openLoadSet o ma => execOpenLoadSet_keeps o ma
  | .openLoadClear o => execOpenLoadClear_keeps o
  | .darkTest k => execDarkTest_keeps k
  | .darkPulseEnd k fell => execDarkPulseEnd_keeps k fell
  | .darkPairPulse k fell => execDarkPairPulse_keeps k fell
  | .floatDriveEnd f => execFloatDriveEnd_keeps f
  | .floatDeadTimeEnd f => execFloatDeadTimeEnd_keeps f
  | .floatBothHigh f => execFloatBothHigh_keeps f
  | .posEdge p t e => execPosEdge_keeps p t e
  | .indexPulse e => execIndexPulse_keeps e
  | .posCheckTimeout p => execPosCheckTimeout_keeps p
  | .serialReadStart p => execSerialReadStart_keeps p
  | .serialReadEnd p ack clocks => execSerialReadEnd_keeps p ack clocks
  | .serialReadTimeout p => execSerialReadTimeout_keeps p
  | .standstillTimeout p => execStandstillTimeout_keeps p
  | .emuEdge e => execEmuEdge_keeps e
  | .passStart c => execPassStart_keeps c
  | .converterOutput c code input => execConverterOutput_keeps c code input
  | .urgentHead c => execUrgentHead_keeps c
  | .urgentValidOutput c code input => execUrgentValidOutput_keeps c code input
  | .calDue => execCalDue_keeps
  | .calCommit c ofs gain selfTest => execCalCommit_keeps c ofs gain selfTest
  | .captureTrigger g b => execCaptureTrigger_keeps g b
  | .captureDone g => execCaptureDone_keeps g
  | .captureShotTimeout g => execCaptureShotTimeout_keeps g
  | .slotStale n => execSlotStale_keeps n
  | .ma20Disconnect u => execMa20Disconnect_keeps u
  | .ma20Reconnect u => execMa20Reconnect_keeps u
  | .eventIntervalEnd code src => execEventIntervalEnd_keeps code src
  | .patStepStart => execPatStepStart_keeps
  | .patPublish => execPatPublish_keeps
  | .routinePredictionEnd => execRoutinePredictionEnd_keeps
  | .patUrgentIssue => execPatUrgentIssue_keeps
  | .hostPredictionStep => execHostPredictionStep_keeps
  | .multiplierSave => execMultiplierSave_keeps
  | .loopCompute l => execLoopCompute_keeps l
  | .loopUrgentIssue l => execLoopUrgentIssue_keeps l
  | .loopSetSwitch l => execLoopSetSwitch_keeps l
  | .loopRemoveEffect l => execLoopRemoveEffect_keeps l
  | .schedEvaluation => execSchedEvaluation_keeps
  | .overrideExpiry z => execOverrideExpiry_keeps z
  | .presenceHoldoffExpiry z => execPresenceHoldoffExpiry_keeps z
  | .oneShotDurExpiry c t sense => execOneShotDurExpiry_keeps c t sense
  | .chopPeriodStart c => execChopPeriodStart_keeps c
  | .targetReached c t sense => execTargetReached_keeps c t sense
  | .peakGrant k t => execPeakGrant_keeps k t
  | .peakWaitExpiry c t sense => execPeakWaitExpiry_keeps c t sense
  | .skipRetry c => execSkipRetry_keeps c
  | .waitPeakTimeout c t sense => execWaitPeakTimeout_keeps c t sense
  | .shuttleWaitEnd c t sense => execShuttleWaitEnd_keeps c t sense
  | .syncReached c t sense => execSyncReached_keeps c t sense
  | .decayDone c t sense => execDecayDone_keeps c t sense
  | .endingDone c => execEndingDone_keeps c
  | .solOvercurrent c => execSolOvercurrent_keeps c
  | .clampOverheat c => execClampOverheat_keeps c
  | .peakMaxExpiry c => execPeakMaxExpiry_keeps c
  | .bankHsOvercurrent b ma => execBankHsOvercurrent_keeps b ma
  | .bankHsOvertemp b ma => execBankHsOvertemp_keeps b ma
  | .shuttleSwitch b => execShuttleSwitch_keeps b
  | .kickTimeout f => execKickTimeout_keeps f
  | .backoffExpiry f => execBackoffExpiry_keeps f
  | .tachEdge f t => execTachEdge_keeps f t
  | .tachLost f ma => execTachLost_keeps f ma
  | .fanRun60s f => execFanRun60s_keeps f
  | .aoOverload a mv => execAoOverload_keeps a mv
  | .aoOverloadClear a mv => execAoOverloadClear_keeps a mv
  | .stitchValue p w wrong first => execStitchValue_keeps p w wrong first
  | .stitchMemRead p w wrong first => execStitchMemRead_keeps p w wrong first
  | .stitchMemData p w wrong first => execStitchMemData_keeps p w wrong first
  | .stitchMemWrite p w wrong first => execStitchMemWrite_keeps p w wrong first
  | .stitchMemAck p w wrong first => execStitchMemAck_keeps p w wrong first
  | .stitchDoorbell p w wrong first => execStitchDoorbell_keeps p w wrong first
  | .tokenReq p w wrong first => execTokenReq_keeps p w wrong first
  | .tokenGrant p w wrong first => execTokenGrant_keeps p w wrong first
  | .tokenReturn p w wrong first => execTokenReturn_keeps p w wrong first
  | .admitStitch p w wrong first => execAdmit_keeps p w wrong first
  | .admitReply p w wrong first => execAdmitReply_keeps p w wrong first
  | .trace p w wrong first => execTrace_keeps p w wrong first
  | .mgmt p w wrong first => execMgmt_keeps p w wrong first
  | .idle p dev port numbered => execIdle_keeps p dev port numbered
  | .ack p count nak ns => execAck_keeps p count nak ns
  | .credit p cls n => execCredit_keeps p cls n
  | .time p low ns => execTime_keeps p low ns
  | .delay p n response rx tx => execDelay_keeps p n response rx tx
  | .freeze p f => execFreeze_keeps p f
  | .thaw p f => execThaw_keeps p f
  | .audit p cls credits count => execAudit_keeps p cls credits count
  | .down p cause => execDown_keeps p cause
  | .train p dev port numbered looped used cands => execTrain_keeps p dev port numbered looped used cands
  | .linkSilence p => execLinkSilence_keeps p
  | .seamLos p high => execSeamLos_keeps p high
  | .receiverAligned p => execReceiverAligned_keeps p
  | .trainingTimeout p => execTrainingTimeout_keeps p
  | .trainingIdleEnd p => execTrainingIdleEnd_keeps p
  | .downSendEnd p => execDownSendEnd_keeps p
  | .revertTimer p => execRevertTimer_keeps p
  | .gapWaitExpiry src flow cls => execGapWaitExpiry_keeps src flow cls
  | .unreachableDiscard dest cls => execUnreachableDiscard_keeps dest cls
  | .tokenIdleReturn dest cls => execTokenIdleReturn_keeps dest cls
  | .class2Timeout id => execClass2Timeout_keeps id
  | .admitTimeout id => execAdmitTimeout_keeps id
  | .tackSlot p j => execTackSlot_keeps p j
  | .timeMarkerSend => execTimeMarkerSend_keeps
  | .masterLost cands => execMasterLost_keeps cands
  | .delayExchange p tx => execDelayExchange_keeps p tx
  | .rringFetchRetry => execRringFetchRetry_keeps
  | .descriptorFetched q ds => execDescriptorFetched_keeps q ds
  | .fetchTimeout q => execFetchTimeout_keeps q
  | .descriptorStart q data ups => execDescriptorStart_keeps q data ups
  | .completionWrite c => execCompletionWrite_keeps c
  | .msixHoldoffEnd r => execMsixHoldoffEnd_keeps r
  | .eventWrite => execEventWrite_keeps
  | .traceRecordWrite c => execTraceRecordWrite_keeps c
  | .tailWriteback t => execTailWriteback_keeps t
  | .hostLost => execHostLost_keeps
  | .pcieReset kind => execPcieReset_keeps kind
  | .pciePerstN => execPciePerstN_keeps
  | .pcieLink speed width => execPcieLink_keeps speed width
  | .mstpFrame n kind dest src data crcOk => execMstpFrame_keeps n kind dest src data crcOk
  | .mstpReplyWaitExpiry n => execMstpReplyWaitExpiry_keeps n
  | .mstpReplyTimeout n => execMstpReplyTimeout_keeps n
  | .mstpSilenceEnd n => execMstpSilenceEnd_keeps n
  | .modbusPollDue n e => execModbusPollDue_keeps n e
  | .modbusResponse n bytes good => execModbusResponse_keeps n bytes good
  | .modbusTimeout n => execModbusTimeout_keeps n
  | .modbusGap n => execModbusGap_keeps n
  | .rawFrameEnd n bytes good => execRawFrameEnd_keeps n bytes good
  | .t1lFrame k bytes good => execT1lFrame_keeps k bytes good
  | .t1lLink k up high sqi => execT1lLink_keeps k up high sqi
  | .pageWriteDone b => execPageWriteDone_keeps b
  | .energyWaitEnd vhold => execEnergyWaitEnd_keeps vhold
  | .nvmWriteTimeout id => execNvmWriteTimeout_keeps id
  | .recordCommit r => execRecordCommit_keeps r
  | .configBlockStore key => execConfigBlockStore_keeps key
  | .checkpoint => execCheckpoint_keeps
  | .groupRefresh g e0 e1 => execGroupRefresh_keeps g e0 e1
  | .lockoutEnd r kind => execLockoutEnd_keeps r kind
  | .phaseBoundary die duty => execPhaseBoundary_keeps die duty
  | .railInRegulation => execRailInRegulation_keeps
  | .railStartTimeout mv => execRailStartTimeout_keeps mv
  | .railFault rail mv => execRailFault_keeps rail mv
  | .railHoldExpiry => execRailHoldExpiry_keeps
  | .frontlightFault volts ms => execFrontlightFault_keeps volts ms
  | .frontlightRetry volts => execFrontlightRetry_keeps volts
  | .keyRowWake => execKeyRowWake_keeps
  | .keyScan raw => execKeyScan_keeps raw
  | .keyIdle => execKeyIdle_keeps
  | .keyLockIdle => execKeyLockIdle_keeps
  | .encTransition n a b => execEncTransition_keeps n a b
  | .encMoved n => execEncMoved_keeps n
  | .fitPassStart => execFitPassStart_keeps
  | .holdupStart => execHoldupStart_keeps
  | .holdupWindowEnd ma dv step => execHoldupWindowEnd_keeps ma dv step
  | .holdupSkip => execHoldupSkip_keeps
  | .fitApply => execFitApply_keeps
  | .pathMonitorRead ps => execPathMonitorRead_keeps ps
  | .fitRerun => execFitRerun_keeps
  | .frzNLow => execFrzNLow_keeps
  | .frzNRise => execFrzNRise_keeps
  | .freezeStop => execFreezeStop_keeps
  | .thawRestart ms master => execThawRestart_keeps ms master
  | .quiltThawRestart ms => execQuiltThawRestart_keeps ms
  | .freezeReq => execFreezeReq_keeps
  | .thawReq => execThawReq_keeps
  | .roAccess space index => execRoAccess_keeps space index
  | .extest => execExtest_keeps
  | .idcode => execIdcode_keeps
  | .samplePreload lands chain => execSamplePreload_keeps lands chain
  | .bypass => execBypass_keeps
  | .seamUncorrectable p x => execSeamUncorrectable_keeps p x
  | .powerGoodRise rail => execPowerGoodRise_keeps rail
  | .firmwareVerified a b mode => execFirmwareVerified_keeps a b mode
  | .vl24FallAtStart => execVl24FallAtStart_keeps
  | .pmbusTimeout => execPmbusTimeout_keeps
  | .railFallDone => execRailFallDone_keeps
  | .panelWfloadTimeout => execPanelWfloadTimeout_keeps
  | .shuttleLoadTimeout b => execShuttleLoadTimeout_keeps b
  | .fieldResumeTimeout k => execFieldResumeTimeout_keeps k
  | .portRetrainDone id => execPortRetrainDone_keeps id
  | .stagedCheckDone id => execStagedCheckDone_keeps id
  | .fwUpdateWritten => execFwUpdateWritten_keeps
  | .busFrameSent n => execBusFrameSent_keeps n
  | .mstpTimerExpiry n => execMstpTimerExpiry_keeps n
  | .fitMeasurementDone m => execFitMeasurementDone_keeps m

/-- Nothing is asked of a frame with no kind of state in it. -/
theorem Dev.Same.none (d r : Dev) : d.Same false false false false false false r := ⟨trivial, trivial, trivial, trivial, trivial, trivial⟩

/-- The kinds of state that `r` and `d` are alike in after command `c`: those that `c` is not listed to change. -/
def Dev.Framed (c : Instr) (d r : Dev) : Prop :=
  d.Same (!c.changesMemory) (!c.changesDies) (!c.changesEngines) (!c.changesSite) (!c.changesStores) (!c.changesTime) r

theorem exec_framed {c : Instr} {s t : State} (h : exec c s = .next t) : t.dev.Framed c s.dev :=
  match c with
  | .nop .. => execNop_same h
  | .measCal .. => execMeasCal_same h
  | .measUrgent .. => execMeasUrgent_same h
  | .measAbort .. => execMeasAbort_same h
  | .measCapture .. => execMeasCapture_same h
  | .dioForce .. => execDioForce_same h
  | .doClear .. => execDoClear_same h
  | .darkTestNow .. => execDarkTestNow_same h
  | .fieldResume .. => execFieldResume_same h
  | .posPreset .. => execPosPreset_same h
  | .posCheck .. => execPosCheck_same h
  | .emuForce .. => execEmuForce_same h
  | .posAbort .. => execPosAbort_same h
  | .patLoad .. => execPatLoad_same h
  | .patPredict .. => execPatPredict_same h
  | .patAbort .. => execPatAbort_same h
  | .patReset .. => execPatReset_same h
  | .loopSet .. => execLoopSet_same h
  | .loopRemove .. => execLoopRemove_same h
  | .loopMode .. => execLoopMode_same h
  | .loopHold .. => execLoopHold_same h
  | .loopClear .. => execLoopClear_same h
  | .chalkArm .. => execChalkArm_same h
  | .chalkTrigger .. => execChalkTrigger_same h
  | .chalkStop .. => execChalkStop_same h
  | .loopAbort .. => execLoopAbort_same h
  | .schedSet .. => execSchedSet_same h
  | .zoneSet .. => execZoneSet_same h
  | .zoneOverride .. => execZoneOverride_same h
  | .civilSet .. => execCivilSet_same h
  | .dstLoad .. => execDstLoad_same h
  | .shuttleLoad .. => execShuttleLoad_same h
  | .solShot .. => execSolShot_same h
  | .solForce .. => execSolForce_same h
  | .solClear .. => execSolClear_same h
  | .shuttleAbort .. => execShuttleAbort_same h
  | .fanaoForce .. => execFanaoForce_same h
  | .fanClear .. => execFanClear_same h
  | .flowOpen .. => execFlowOpen_same h
  | .flowClose .. => execFlowClose_same h
  | .routeLoad .. => execRouteLoad_same h
  | .portRetrain .. => execPortRetrain_same h
  | .quiltAudit .. => execQuiltAudit_same h
  | .rringDoorbell .. => execRringDoorbell_same h
  | .quiltAbort .. => execQuiltAbort_same h
  | .busSend .. => execBusSend_same h
  | .busRecv .. => execBusRecv_same h
  | .busPollSet .. => execBusPollSet_same h
  | .busAbort .. => execBusAbort_same h
  | .nvmRead .. => execNvmRead_same h
  | .nvmWrite .. => execNvmWrite_same h
  | .nvmUnlock .. => execNvmUnlock_same h
  | .nvmLock .. => execNvmLock_same h
  | .nvmSetpw .. => execNvmSetpw_same h
  | .nvmSync .. => execNvmSync_same h
  | .recConfirm .. => execRecConfirm_same h
  | .recWrite .. => execRecWrite_same h
  | .recRead .. => execRecRead_same h
  | .nvmExport .. => execNvmExport_same h
  | .nvmImport .. => execNvmImport_same h
  | .nvmAbort .. => execNvmAbort_same h
  | .panelUpdate .. => execPanelUpdate_same h
  | .panelWfload .. => execPanelWfload_same h
  | .panelCrcCheck .. => execPanelCrcCheck_same h
  | .panelAbort .. => execPanelAbort_same h
  | .keyLock .. => execKeyLock_same h
  | .fitRun .. => execFitRun_same h
  | .fitLogRead .. => execFitLogRead_same h
  | .fitBaseline .. => execFitBaseline_same h
  | .fitAbort .. => execFitAbort_same h
  | .ownerHandover .. => execOwnerHandover_same h
  | .configManifest .. => execConfigManifest_same h
  | .fwUpdate .. => execFwUpdate_same h
  | .attest .. => execAttest_same h
  | .secAbort .. => execSecAbort_same h
  | .dbgFreeze .. => execDbgFreeze_same h
  | .registerWrite .. => .none ..
  | .blReqWrite .. => execBlReqWrite_same h
  | .sealWrite .. => execSealWrite_same h
  | .tickLoRead .. => execTickLoRead_same h
  | .clrCorrected .. => execClrCorrected_same h
  | .clrUncorrectable .. => execClrUncorrectable_same h
  | .fieldErrClr .. => execFieldErrClr_same h
  | .clrDip .. => execClrDip_same h
  | .clrErr .. => execClrErr_same h
  | .uiModeWrite .. => execUiModeWrite_same h
  | .uiGainShWrite .. => execUiGainShWrite_same h
  | .convCtrlWrite .. => execConvCtrlWrite_same h
  | .mailboxWrite .. => execMailboxWrite_same h
  | .patCtrlWrite .. => execPatCtrlWrite_same h
  | .loopCtrlWrite .. => execLoopCtrlWrite_same h
  | .busCfgWrite .. => execBusCfgWrite_same h
  | .portEnWrite .. => execPortEnWrite_same h
  | .portEqWrite .. => execPortEqWrite_same h
  | .panelEnWrite .. => execPanelEnWrite_same h
  | .hostqWdogWrite .. => execHostqWdogWrite_same h
  | .ringEnable .. => execRingEnable_same h
  | .ringDisable .. => execRingDisable_same h
  | .fenceClr .. => execFenceClr_same h
  | .sqTailDoorbell .. => execSqTailDoorbell_same h
  | .cqHeadDoorbell .. => execCqHeadDoorbell_same h
  | .eqHeadDoorbell .. => execEqHeadDoorbell_same h
  | .tqHeadDoorbell .. => execTqHeadDoorbell_same h
  | .heartbeat .. => execHeartbeat_same h
  | .dbgRoDataRead .. => execDbgRoDataRead_same h
  | .dbgThaw .. => execDbgThaw_same h
  | .fwRecGo .. => execFwRecGo_same h
  | .bar4Read .. => execBar4Read_same h
  | .bar4Write .. => execBar4Write_same h
  | .vl24Good .. => execVl24Good_same h
  | .pgTimeout .. => execPgTimeout_same h
  | .startRetry .. => execStartRetry_same h
  | .fwReverify .. => execFwReverify_same h
  | .pfwNFalling .. => execPfwNFalling_same h
  | .saveEnd .. => execSaveEnd_same h
  | .vl24AboveResume .. => execVl24AboveResume_same h
  | .warningEnd .. => execWarningEnd_same h
  | .dipSafeExpiry .. => execDipSafeExpiry_same h
  | .rstNLow .. => execRstNLow_same h
  | .rstNResetDue .. => .none ..
  | .rstNRise .. => execRstNRise_same h
  | .supplyReset .. => .none ..
  | .clkrefLost .. => .none ..
  | .clkrefRestored .. => execClkrefRestored_same h
  | .firmwareWatchdog .. => execFirmwareWatchdog_same h
  | .vcoreStep .. => execVcoreStep_same h
  | .readVoutPoll .. => execReadVoutPoll_same h
  | .statusWordPoll .. => execStatusWordPoll_same h
  | .tickBoundary .. => .none ..
  | .scrubRead .. => execScrubRead_same h
  | .upFrame .. => execUpFrame_same h
  | .barrierDown .. => execBarrierDown_same h
  | .downFrame .. => execDownFrame_same h
  | .fieldTickBoundary .. => execFieldTickBoundary_same h
  | .holdWindowExpiry .. => execHoldWindowExpiry_same h
  | .freezeHoldLimit .. => execFreezeHoldLimit_same h
  | .downLinkSilent .. => execDownLinkSilent_same h
  | .vf24Low .. => execVf24Low_same h
  | .vf24Recovered .. => execVf24Recovered_same h
  | .diPulseWindow .. => execDiPulseWindow_same h
  | .diDebounceDone .. => execDiDebounceDone_same h
  | .doOverload .. => execDoOverload_same h
  | .doThermalLimit .. => execDoThermalLimit_same h
  | .doRetry .. => execDoRetry_same h
  | .doOnPeriodOk .. => execDoOnPeriodOk_same h
  | .doForcedHigh .. => execDoForcedHigh_same h
  | .openLoadSet .. => execOpenLoadSet_same h
  | .openLoadClear .. => execOpenLoadClear_same h
  | .darkTest .. => execDarkTest_same h
  | .darkPulseEnd .. => execDarkPulseEnd_same h
  | .darkPairPulse .. => execDarkPairPulse_same h
  | .floatDriveEnd .. => execFloatDriveEnd_same h
  | .floatDeadTimeEnd .. => execFloatDeadTimeEnd_same h
  | .floatBothHigh .. => execFloatBothHigh_same h
  | .posEdge .. => execPosEdge_same h
  | .indexPulse .. => execIndexPulse_same h
  | .posCheckTimeout .. => execPosCheckTimeout_same h
  | .serialReadStart .. => execSerialReadStart_same h
  | .serialReadEnd .. => execSerialReadEnd_same h
  | .serialReadTimeout .. => execSerialReadTimeout_same h
  | .standstillTimeout .. => execStandstillTimeout_same h
  | .emuEdge .. => execEmuEdge_same h
  | .passStart .. => execPassStart_same h
  | .converterOutput .. => execConverterOutput_same h
  | .urgentHead .. => execUrgentHead_same h
  | .urgentValidOutput .. => execUrgentValidOutput_same h
  | .calDue .. => execCalDue_same h
  | .calCommit .. => execCalCommit_same h
  | .captureTrigger .. => execCaptureTrigger_same h
  | .captureDone .. => execCaptureDone_same h
  | .captureShotTimeout .. => execCaptureShotTimeout_same h
  | .slotStale .. => execSlotStale_same h
  | .ma20Disconnect .. => execMa20Disconnect_same h
  | .ma20Reconnect .. => execMa20Reconnect_same h
  | .eventIntervalEnd .. => execEventIntervalEnd_same h
  | .patStepStart .. => execPatStepStart_same h
  | .patPublish .. => execPatPublish_same h
  | .routinePredictionEnd .. => execRoutinePredictionEnd_same h
  | .patUrgentIssue .. => execPatUrgentIssue_same h
  | .hostPredictionStep .. => execHostPredictionStep_same h
  | .multiplierSave .. => execMultiplierSave_same h
  | .loopCompute .. => execLoopCompute_same h
  | .loopUrgentIssue .. => execLoopUrgentIssue_same h
  | .loopSetSwitch .. => execLoopSetSwitch_same h
  | .loopRemoveEffect .. => execLoopRemoveEffect_same h
  | .schedEvaluation .. => execSchedEvaluation_same h
  | .overrideExpiry .. => execOverrideExpiry_same h
  | .presenceHoldoffExpiry .. => execPresenceHoldoffExpiry_same h
  | .oneShotDurExpiry .. => execOneShotDurExpiry_same h
  | .chopPeriodStart .. => execChopPeriodStart_same h
  | .targetReached .. => execTargetReached_same h
  | .peakGrant .. => execPeakGrant_same h
  | .peakWaitExpiry .. => execPeakWaitExpiry_same h
  | .skipRetry .. => execSkipRetry_same h
  | .waitPeakTimeout .. => execWaitPeakTimeout_same h
  | .shuttleWaitEnd .. => execShuttleWaitEnd_same h
  | .syncReached .. => execSyncReached_same h
  | .decayDone .. => execDecayDone_same h
  | .endingDone .. => execEndingDone_same h
  | .solOvercurrent .. => execSolOvercurrent_same h
  | .clampOverheat .. => execClampOverheat_same h
  | .peakMaxExpiry .. => execPeakMaxExpiry_same h
  | .bankHsOvercurrent .. => execBankHsOvercurrent_same h
  | .bankHsOvertemp .. => execBankHsOvertemp_same h
  | .shuttleSwitch .. => execShuttleSwitch_same h
  | .kickTimeout .. => execKickTimeout_same h
  | .backoffExpiry .. => execBackoffExpiry_same h
  | .tachEdge .. => execTachEdge_same h
  | .tachLost .. => execTachLost_same h
  | .fanRun60s .. => execFanRun60s_same h
  | .aoOverload .. => execAoOverload_same h
  | .aoOverloadClear .. => execAoOverloadClear_same h
  | .stitchValue .. => execStitchValue_same h
  | .stitchMemRead .. => execStitchMemRead_same h
  | .stitchMemData .. => execStitchMemData_same h
  | .stitchMemWrite .. => execStitchMemWrite_same h
  | .stitchMemAck .. => execStitchMemAck_same h
  | .stitchDoorbell .. => execStitchDoorbell_same h
  | .tokenReq .. => execTokenReq_same h
  | .tokenGrant .. => execTokenGrant_same h
  | .tokenReturn .. => execTokenReturn_same h
  | .admitStitch .. => execAdmit_same h
  | .admitReply .. => execAdmitReply_same h
  | .trace .. => execTrace_same h
  | .mgmt .. => execMgmt_same h
  | .idle .. => execIdle_same h
  | .ack .. => execAck_same h
  | .credit .. => execCredit_same h
  | .time .. => execTime_same h
  | .delay .. => execDelay_same h
  | .freeze .. => execFreeze_same h
  | .thaw .. => execThaw_same h
  | .audit .. => execAudit_same h
  | .down _ cause => execDown_same (cause := cause) h
  | .train .. => execTrain_same h
  | .linkSilence .. => execLinkSilence_same h
  | .seamLos .. => execSeamLos_same h
  | .receiverAligned .. => execReceiverAligned_same h
  | .trainingTimeout .. => execTrainingTimeout_same h
  | .trainingIdleEnd .. => execTrainingIdleEnd_same h
  | .downSendEnd .. => execDownSendEnd_same h
  | .revertTimer .. => execRevertTimer_same h
  | .gapWaitExpiry .. => execGapWaitExpiry_same h
  | .unreachableDiscard .. => execUnreachableDiscard_same h
  | .tokenIdleReturn .. => execTokenIdleReturn_same h
  | .class2Timeout .. => execClass2Timeout_same h
  | .admitTimeout .. => execAdmitTimeout_same h
  | .tackSlot .. => execTackSlot_same h
  | .timeMarkerSend .. => execTimeMarkerSend_same h
  | .masterLost .. => execMasterLost_same h
  | .delayExchange .. => execDelayExchange_same h
  | .rringFetchRetry .. => execRringFetchRetry_same h
  | .descriptorFetched .. => execDescriptorFetched_same h
  | .fetchTimeout .. => execFetchTimeout_same h
  | .descriptorStart .. => .none ..
  | .completionWrite .. => execCompletionWrite_same h
  | .msixHoldoffEnd .. => execMsixHoldoffEnd_same h
  | .eventWrite .. => execEventWrite_same h
  | .traceRecordWrite .. => execTraceRecordWrite_same h
  | .tailWriteback .. => execTailWriteback_same h
  | .hostLost .. => execHostLost_same h
  | .pcieReset .. => execPcieReset_same h
  | .pciePerstN .. => execPciePerstN_same h
  | .pcieLink .. => execPcieLink_same h
  | .mstpFrame .. => execMstpFrame_same h
  | .mstpReplyWaitExpiry .. => execMstpReplyWaitExpiry_same h
  | .mstpReplyTimeout .. => execMstpReplyTimeout_same h
  | .mstpSilenceEnd .. => execMstpSilenceEnd_same h
  | .modbusPollDue .. => execModbusPollDue_same h
  | .modbusResponse .. => execModbusResponse_same h
  | .modbusTimeout .. => execModbusTimeout_same h
  | .modbusGap .. => execModbusGap_same h
  | .rawFrameEnd .. => execRawFrameEnd_same h
  | .t1lFrame .. => execT1lFrame_same h
  | .t1lLink .. => execT1lLink_same h
  | .pageWriteDone .. => execPageWriteDone_same h
  | .energyWaitEnd .. => execEnergyWaitEnd_same h
  | .nvmWriteTimeout .. => execNvmWriteTimeout_same h
  | .recordCommit .. => execRecordCommit_same h
  | .configBlockStore .. => execConfigBlockStore_same h
  | .checkpoint .. => execCheckpoint_same h
  | .groupRefresh .. => execGroupRefresh_same h
  | .lockoutEnd .. => execLockoutEnd_same h
  | .phaseBoundary .. => execPhaseBoundary_same h
  | .railInRegulation .. => execRailInRegulation_same h
  | .railStartTimeout .. => execRailStartTimeout_same h
  | .railFault .. => execRailFault_same h
  | .railHoldExpiry .. => execRailHoldExpiry_same h
  | .frontlightFault .. => execFrontlightFault_same h
  | .frontlightRetry .. => execFrontlightRetry_same h
  | .keyRowWake .. => execKeyRowWake_same h
  | .keyScan .. => execKeyScan_same h
  | .keyIdle .. => execKeyIdle_same h
  | .keyLockIdle .. => execKeyLockIdle_same h
  | .encTransition .. => execEncTransition_same h
  | .encMoved .. => execEncMoved_same h
  | .fitPassStart .. => execFitPassStart_same h
  | .holdupStart .. => execHoldupStart_same h
  | .holdupWindowEnd .. => execHoldupWindowEnd_same h
  | .holdupSkip .. => execHoldupSkip_same h
  | .fitApply .. => execFitApply_same h
  | .pathMonitorRead .. => execPathMonitorRead_same h
  | .fitRerun .. => execFitRerun_same h
  | .frzNLow .. => execFrzNLow_same h
  | .frzNRise .. => execFrzNRise_same h
  | .freezeStop .. => execFreezeStop_same h
  | .thawRestart .. => .none ..
  | .quiltThawRestart .. => .none ..
  | .freezeReq .. => execFreezeReq_same h
  | .thawReq .. => execThawReq_same h
  | .roAccess .. => execRoAccess_same h
  | .extest .. => execExtest_same h
  | .idcode .. => execIdcode_same h
  | .samplePreload .. => execSamplePreload_same h
  | .bypass .. => execBypass_same h
  | .seamUncorrectable .. => execSeamUncorrectable_same h
  | .powerGoodRise .. => execPowerGoodRise_same h
  | .firmwareVerified .. => execFirmwareVerified_same h
  | .vl24FallAtStart .. => .none ..
  | .pmbusTimeout .. => execPmbusTimeout_same h
  | .railFallDone .. => execRailFallDone_same h
  | .panelWfloadTimeout .. => execPanelWfloadTimeout_same h
  | .shuttleLoadTimeout .. => execShuttleLoadTimeout_same h
  | .fieldResumeTimeout .. => execFieldResumeTimeout_same h
  | .portRetrainDone .. => execPortRetrainDone_same h
  | .stagedCheckDone .. => execStagedCheckDone_same h
  | .fwUpdateWritten .. => execFwUpdateWritten_same h
  | .busFrameSent .. => execBusFrameSent_same h
  | .mstpTimerExpiry .. => execMstpTimerExpiry_same h
  | .fitMeasurementDone .. => execFitMeasurementDone_same h

/-! ### The queue -/

theorem State.canonical_of_kept {p : Part} {s : State} (h : s.dev.Kept p) : s.canonical = true := by
  obtain ⟨-, hm, hr, hd, he⟩ := h
  simp [State.canonical, hm, hr, hd, he]

theorem State.kept_of_canonical {s : State} (h : s.canonical = true) : s.dev.Kept s.dev.part :=
  State.begin_kept h

theorem step_of_empty {s : State} (h : s.pending = []) : step s = .next s := by
  unfold step
  rw [h]

theorem step_of_front {c : Instr} {s : State} {rest : List Instr} (h : s.pending = c :: rest) : step s = exec c { s with pending := rest } := by
  unfold step
  rw [h]

/-- What every command keeps of the device, every step keeps. -/
theorem step_invariant {P : Dev → Prop} (hexec : ∀ (c : Instr) (s t : State), P s.dev → exec c s = .next t → P t.dev) {s t : State} (hs : P s.dev)
    (h : step s = .next t) : P t.dev := by
  cases hq : s.pending with
  | nil =>
    rw [step_of_empty hq] at h
    cases h
    exact hs
  | cons c rest =>
    rw [step_of_front hq] at h
    exact hexec c { s with pending := rest } t hs h

theorem exec_next (c : Instr) (s : State) : ∃ e : Dev, exec c s = .next (s.withDev e) := by
  cases c <;> exact ⟨_, rfl⟩

theorem run_works_off (q : List Instr) (d : Dev) : ∃ e : Dev, run q.length { dev := d, pending := q } = .next { dev := e, pending := [] } := by
  induction q generalizing d with
  | nil => exact ⟨d, rfl⟩
  | cons c rest ih =>
    obtain ⟨e, he⟩ := exec_next c { dev := d, pending := rest }
    have hstep : step { dev := d, pending := c :: rest } = .next { dev := e, pending := rest } := (step_of_front rfl).trans he
    simpa [run, hstep] using ih e

/-! ### The kinds of state in a frame -/

namespace Dev.Same
variable {gm gf ge gs gn gt : Bool} {d r : Dev}

theorem memory (h : d.Same gm gf ge gs gn gt r) (hm : gm = true) : d.mem = r.mem ∧ d.memErr = r.memErr := by
  subst hm
  obtain ⟨hm, -, -, -, -, -⟩ := h
  exact hm

theorem dies (h : d.Same gm gf ge gs gn gt r) (hf : gf = true) :
    d.die = r.die ∧ d.dieA = r.dieA ∧ d.dieB = r.dieB ∧ d.dis = r.dis ∧ d.dos = r.dos ∧ d.floats = r.floats ∧ d.poss = r.poss
        ∧ d.emus = r.emus ∧ d.fans = r.fans ∧ d.aos = r.aos ∧ d.shut = r.shut ∧ d.meas = r.meas := by
  subst hf
  obtain ⟨-, hf, -, -, -, -⟩ := h
  exact hf

theorem engines (h : d.Same gm gf ge gs gn gt r) (hg : ge = true) : d.pat = r.pat ∧ d.eng = r.eng ∧ d.sched = r.sched := by
  subst hg
  obtain ⟨-, -, he, -, -, -⟩ := h
  exact he

theorem site (h : d.Same gm gf ge gs gn gt r) (hs : gs = true) :
    d.panel = r.panel ∧ d.keys = r.keys ∧ d.fit = r.fit ∧ d.buses = r.buses ∧ d.pollSets = r.pollSets := by
  subst hs
  obtain ⟨-, -, -, hs, -, -⟩ := h
  exact hs

theorem stores (h : d.Same gm gf ge gs gn gt r) (hn : gn = true) : d.nvm = r.nvm ∧ d.sec = r.sec := by
  subst hn
  obtain ⟨-, -, -, -, hn, -⟩ := h
  exact hn

theorem time (h : d.Same gm gf ge gs gn gt r) (ht : gt = true) : d.tick = r.tick ∧ d.power = r.power := by
  subst ht
  obtain ⟨-, -, -, -, -, ht⟩ := h
  exact ht

end Dev.Same

end Sys2Proof.Machine
end

section
open Sys2Proof Sys2Proof.Machine

/-- Settles O38: `step` reads the front of the queue. -/
theorem stepTakesFrontCommand : Obligations.StepTakesFrontCommand := by
  unfold Obligations.StepTakesFrontCommand
  exact fun _ _ _ => step_of_front

/-- Settles O39: `step` of an empty queue. -/
theorem emptyQueueIdles : Obligations.EmptyQueueIdles := by
  unfold Obligations.EmptyQueueIdles
  exact fun _ => step_of_empty

/-- Settles O40: each command is a function of the device alone. -/
theorem everyCommandAnswersNext : Obligations.EveryCommandAnswersNext := by
  unfold Obligations.EveryCommandAnswersNext
  exact exec_next

/-- Settles O41, by induction on the queue. -/
theorem runWorksOffTheQueue : Obligations.RunWorksOffTheQueue := by
  unfold Obligations.RunWorksOffTheQueue
  exact fun s => run_works_off s.pending s.dev

/-- Settles O43: each command keeps the canonical form, and so does a step. -/
theorem stepKeepsCanonicalForm : Obligations.StepKeepsCanonicalForm := by
  unfold Obligations.StepKeepsCanonicalForm
  intro s t hs h
  exact State.canonical_of_kept (step_invariant (fun c u v => exec_keeps c s.dev.part u v) (State.kept_of_canonical hs) h)

/-- Settles O45: the frame of memory. -/
theorem memoryFrame : Obligations.MemoryFrame := by
  unfold Obligations.MemoryFrame
  intro c s t hc h
  obtain ⟨hmem, herr⟩ := (exec_framed h).memory (by simp [hc])
  simp [hmem, herr]

/-- Settles O46: the frames of the dies and of the engines. -/
theorem dieAndEngineFrames : Obligations.DieAndEngineFrames := by
  unfold Obligations.DieAndEngineFrames
  refine ⟨fun c s t hc h => ?_, fun c s t hc h => (exec_framed h).engines (by simp [hc])⟩
  obtain ⟨hdie, hA, hB, hdis, hdos, hfloats, hposs, hemus, hfans, haos, hshut, hmeas⟩ := (exec_framed h).dies (by simp [hc])
  exact ⟨hA, hB, hdis, hdos, hfloats, hposs, hemus, hfans, haos, hshut, hmeas, fun f i => by simp [Dev.dget, hdie]⟩

/-- Settles O47: the frames of the site, of the stores and of time. -/
theorem siteStoreAndTimeFrames : Obligations.SiteStoreAndTimeFrames := by
  unfold Obligations.SiteStoreAndTimeFrames
  exact ⟨fun c s t hc h => (exec_framed h).site (by simp [hc]), fun c s t hc h => (exec_framed h).stores (by simp [hc]),
    fun c s t hc h => (exec_framed h).time (by simp [hc])⟩

end

section
/-! SUPPORT. The statements of the registers, the word code, the events, the number formats and of freeze. -/

namespace Sys2Proof.Machine
open Sys2Proof

/-! ### Register fields -/

theorem Dev.dget_dput_self {d : Dev} (h : Map.rising d.die = true) (f : Fld) (i v : Nat) : (d.dput f i v).dget f i = v % 2 ^ f.width :=
  (Map.get_set h _ _ _ _).trans (if_pos rfl)

theorem Dev.dget_dput_of_key_ne {d : Dev} (h : Map.rising d.die = true) {f g : Fld} {i j : Nat} (hne : f.key i ≠ g.key j) (v : Nat) :
    (d.dput f i v).dget g j = d.dget g j :=
  Map.get_set_ne h hne _ _ _

/-! ### Events -/

theorem Dev.raise_of_room {d : Dev} (h : d.events.length < 256) (code src : Nat) (detail : List Nat) :
    d.raise code src detail = { d with
      evSeq := (d.evSeq + 1) % 256
      events := d.events ++ [{ seq := d.evSeq, code := code, src := src, time := d.tick, detail := detail16 detail }] } := by
  unfold Dev.raise Dev.raiseAt
  exact if_pos h

theorem Dev.raise_of_full {d : Dev} (h : 256 ≤ d.events.length) (code src : Nat) (detail : List Nat) :
    d.raise code src detail = Dev.bump { d with
      evSeq := (d.evSeq + 1) % 256, evDropped := d.evDropped + 1
      evFirstDropped := if d.evDropped = 0 then d.evSeq else d.evFirstDropped } Reg.HOSTQ_LOST.EVENTS 0 0xFFFF := by
  unfold Dev.raise Dev.raiseAt
  exact if_neg (Nat.not_lt.mpr h)

@[simp] theorem Dev.raise_evSeq (d : Dev) (code src : Nat) (detail : List Nat) : (d.raise code src detail).evSeq = (d.evSeq + 1) % 256 := by
  rcases Nat.lt_or_ge d.events.length 256 with h | h
  · rw [Dev.raise_of_room h]
  · rw [Dev.raise_of_full h]
    rfl

/-! ### The code of a word (R28) -/

theorem decodeErr_of_no_flip {e : Nat} (h : flips e = 0) : decodeErr e = .clean 0 := by
  unfold decodeErr
  exact if_pos h

theorem decodeErr_of_few_flips {e : Nat} (h : 1 ≤ flips e) (h' : flips e ≤ 2) : decodeErr e = .corrected 0 := by
  unfold decodeErr
  rw [if_neg (by omega), if_pos h']

theorem decodeErr_of_burst {e : Nat} (h : flips e = 3 ∨ 3 ≤ flips e ∧ burst24 e = true) : decodeErr e = .uncorrectable := by
  have hmany : ¬ flips e ≤ 2 := by omega
  have hbad : (flips e = 3 || burst24 e) = true := by
    rcases h with h | ⟨-, h⟩ <;> simp [h]
  unfold decodeErr
  rw [if_neg (by omega), if_neg hmany, if_pos hbad]

/-! ### Rounding and saturation -/

/-- Rounding of a number from 0: the quotient `q` of `2 n + d` by `2 d` is nearest to `n / d`. -/
theorem nearest_of_nonneg {n d q : Int} (hd : 0 < d) (hn : 0 ≤ n) (hq : q = (2 * n + d) / (2 * d)) :
    2 * (n - q * d).natAbs ≤ d.natAbs ∧ (2 * (n - q * d).natAbs = d.natAbs → n.natAbs ≤ (q * d).natAbs) := by
  have hassoc : q * (2 * d) = 2 * (q * d) := Int.mul_left_comm q 2 d
  have hlow : 2 * (q * d) ≤ 2 * n + d := by
    have hle := Int.ediv_mul_le (2 * n + d) (b := 2 * d) (by omega)
    rwa [← hq, hassoc] at hle
  have hhigh : 2 * n + d < 2 * (q * d) + 2 * d := by
    have hlt := Int.lt_ediv_add_one_mul_self (2 * n + d) (b := 2 * d) (by omega)
    rwa [← hq, Int.add_mul, Int.one_mul, hassoc] at hlt
  generalize q * d = m at hlow hhigh ⊢
  omega

theorem roundDiv_nearest {n d : Int} (hd : 0 < d) :
    2 * (n - roundDiv n d * d).natAbs ≤ d.natAbs
      ∧ (2 * (n - roundDiv n d * d).natAbs = d.natAbs → n.natAbs ≤ (roundDiv n d * d).natAbs) := by
  by_cases hn : 0 ≤ n
  · exact nearest_of_nonneg hd hn (by simp [roundDiv, hn])
  · have hq : roundDiv n d = -((2 * -n + d) / (2 * d)) := by simp [roundDiv, hn]
    have h := nearest_of_nonneg (n := -n) hd (by omega) rfl
    rw [hq, Int.neg_mul]
    generalize (2 * -n + d) / (2 * d) * d = m at h ⊢
    omega

theorem saturate_nearest (w : Nat) (x : Int) :
    -(2 ^ (w - 1) : Int) ≤ saturate w x ∧ saturate w x < 2 ^ (w - 1)
      ∧ ∀ y : Int, -(2 ^ (w - 1) : Int) ≤ y → y < 2 ^ (w - 1) → (saturate w x - x).natAbs ≤ (y - x).natAbs := by
  have hpos : (0 : Int) < 2 ^ (w - 1) := Int.pow_pos (by decide)
  have hcast : ((2 ^ (w - 1) : Nat) : Int) = 2 ^ (w - 1) := Int.natCast_pow 2 (w - 1)
  simp only [saturate, hcast]
  generalize (2 : Int) ^ (w - 1) = b at hpos ⊢
  split
  · refine ⟨?_, ?_, ?_⟩ <;> omega
  · split
    · refine ⟨?_, ?_, ?_⟩ <;> omega
    · refine ⟨?_, ?_, ?_⟩ <;> omega

/-! ### Freeze -/

theorem Dev.live_of_frozen {d : Dev} (h : d.frozen = true) : d.live = false := by
  simp [Dev.live, h]

theorem Dev.controlling_of_frozen {d : Dev} (h : d.frozen = true) : d.controlling = false := by
  simp [Dev.controlling, Dev.live_of_frozen h]

theorem Dev.loopsRun_of_frozen {d : Dev} (h : d.frozen = true) : d.loopsRun = false := by
  simp [Dev.loopsRun, Dev.live_of_frozen h]

theorem Dev.scrubDue_of_frozen {d : Dev} (h : d.frozen = true) : d.scrubDue = false := by
  simp [Dev.scrubDue, Dev.live_of_frozen h]

theorem Dev.checkpointOpen_of_frozen {d : Dev} (h : d.frozen = true) : d.checkpointOpen = false := by
  simp [Dev.checkpointOpen, Dev.writesOpen, Dev.live_of_frozen h]

theorem onDev_still {s : State} {f : Dev → Dev} (h : f s.dev.begin = s.dev.begin) : s.onDev f = .next (s.withDev s.dev.begin) := by
  rw [State.onDev_eq, h]

end Sys2Proof.Machine
end

section
open Sys2Proof Sys2Proof.Machine

/-- Settles O42: the reset state is a closed term. -/
theorem resetStateIsEmpty : Obligations.ResetStateIsEmpty := by
  unfold Obligations.ResetStateIsEmpty
  exact ⟨rfl, rfl, rfl, fun _ _ => rfl, fun _ => rfl⟩

/-- Settles O48, by the laws of a table written at one key. -/
theorem registerFieldsReadBack : Obligations.RegisterFieldsReadBack := by
  unfold Obligations.RegisterFieldsReadBack
  intro d f g i j v hregs hdie
  exact ⟨Dev.get_put_self hregs f i v, Dev.dget_dput_self hdie f i v,
    fun hne => ⟨Dev.get_put_of_key_ne hregs hne.symm v, Dev.dget_dput_of_key_ne hdie hne.symm v⟩, rfl, rfl⟩

/-- Settles O50: the number of wrong bits decides what the code word decodes to. -/
theorem wordReadsFollowTheCode : Obligations.WordReadsFollowTheCode := by
  unfold Obligations.WordReadsFollowTheCode
  intro d w reader
  refine ⟨fun h => ?_, fun h h' => ?_, fun h => ?_⟩
  · simp [Dev.readWord, decodeErr_of_no_flip h]
  · simp [Dev.readWord, decodeErr_of_few_flips h h']
  · simp [Dev.readWord, decodeErr_of_burst h]

/-- Settles O51, with room for the event and without. -/
theorem eventsWaitOrAreCounted : Obligations.EventsWaitOrAreCounted := by
  unfold Obligations.EventsWaitOrAreCounted
  intro d code src detail
  refine ⟨fun h => ?_, fun h => ?_, Dev.raise_evSeq d code src detail⟩
  · rw [Dev.raise_of_room h]
    exact ⟨rfl, rfl⟩
  · rw [Dev.raise_of_full h]
    exact ⟨rfl, rfl⟩

/-- Settles O58: the quotient is within half of the divisor, the bounds are the nearest to what lies outside them. -/
theorem roundingAndSaturationAreNearest : Obligations.RoundingAndSaturationAreNearest := by
  unfold Obligations.RoundingAndSaturationAreNearest
  exact ⟨fun n d hd => roundDiv_nearest hd, fun w x _ => saturate_nearest w x⟩

/-- Settles O53: each of the commands asks that the core die runs. -/
theorem frozenCoreStandsStill : Obligations.FrozenCoreStandsStill := by
  unfold Obligations.FrozenCoreStandsStill
  intro s c hup hfr hc
  have hfr' : s.dev.begin.frozen = true := hfr
  have hlive := Dev.live_of_frozen hfr'
  have hcontrol := Dev.controlling_of_frozen hfr'
  have hloops := Dev.loopsRun_of_frozen hfr'
  have hscrub := Dev.scrubDue_of_frozen hfr'
  have hckpt := Dev.checkpointOpen_of_frozen hfr'
  rcases hc with ⟨v, h, rfl⟩ | ⟨u, rfl⟩ | rfl | rfl | rfl | rfl | rfl | ⟨l, rfl⟩ | ⟨l, rfl⟩ | rfl | ⟨z, rfl⟩ | ⟨z, rfl⟩ | rfl | ⟨p, rfl⟩ | rfl | rfl
    | ⟨r, rfl⟩ | ⟨b, rfl⟩ | rfl | ⟨v, rfl⟩ | ⟨i, rfl⟩ | ⟨r, rfl⟩ | rfl | rfl | ⟨n, rfl⟩ | ⟨n, rfl⟩
  all_goals
    unfold exec
    exact onDev_still (by simp [hup, hfr', hlive, hcontrol, hloops, hscrub, hckpt])
end

section
/-! SUPPORT. What the proofs of the row statements share. -/

namespace Sys2Proof.Machine
open Sys2Proof

/-- A doorbell acts where the endpoint takes writes (R530). -/
theorem Dev.hostBell_of_takesWrites {d : Dev} (h : d.takesWrites) (off v : Nat) (act : Dev → Dev) : d.hostBell off v act = act d := by
  obtain ⟨hup, hfrozen⟩ := h
  simp [Dev.hostBell, hup, hfrozen]

/-- What a descriptor command claimed to act does to a device that meets its premise is what its body does. -/
theorem Acts.body_eq {c : Nat → Desc → Instr} {op : Nat} {named : List (Nat × Nat)} {pre : Desc → Dev → Prop} {post : Nat → Desc → Dev → Dev}
    (body : Nat → Desc → Dev → Dev) (hc : ∀ s q x, exec (c q x) s = s.onDev fun d => d.submit q x op named body) (h : Acts c op named pre post)
    {s : State} {q : Nat} {x : Desc} (ha : s.dev.begin.accepts q x op named) (hp : pre x (s.dev.begin.started q x)) :
    body s.dev.nextId x (s.dev.begin.started q x) = post s.dev.nextId x (s.dev.begin.started q x) := by
  have hnext := h s q x ha hp
  rw [hc, State.onDev_eq, Dev.submit_accepts body ha] at hnext
  injection hnext with hstate
  exact congrArg State.dev hstate

/-- What a command claimed to run does to a device that meets its premise is what its operation does. -/
theorem Runs.op_eq {c : Instr} {pre : Dev → Prop} {post : Dev → Dev} (h : Runs c pre post) (f : Dev → Dev) (hc : ∀ s, exec c s = s.onDev f) {s : State}
    (hp : pre s.dev.begin) : f s.dev.begin = post s.dev.begin := by
  have hnext := h s hp
  rw [hc, State.onDev_eq] at hnext
  injection hnext with hstate
  exact congrArg State.dev hstate

/-- A device of the F grade that runs, with submission ring 0 enabled: what the refutations start from. -/
def runningDev : Dev := Dev.put { State.reset.dev with power := { PowerSt.init with phase := .up } } Reg.SQ_CTRL.ENABLE 0 1

end Sys2Proof.Machine
end

section
/-! SUPPORT. The bodies of the measurement descriptors with lawful operands (R120, R125, R131). -/

namespace Sys2Proof.Machine
open Sys2Proof

theorem bodyMeasCal_of_lawful {x : Desc} {d : Dev} (hsome : x.byte 16 ≠ 0)
    (hlawful : ∀ c, c < 8 → bitAt (x.byte 16) c = true → d.convHere c = true ∧ d.convBusy c = false) (id : Nat) :
    bodyMeasCal id x d = (maskDies (x.byte 16)).foldl (fun y k => y.post k (.desc id))
      { d with meas := { d.meas with cals := d.meas.cals ++ [{ id := id, mask := x.byte 16, committed := 0 }] } } := by
  have hhere : (List.range 8).any (fun c => bitAt (x.byte 16) c && !d.convHere c) = false := by
    simpa using fun c hc hbit => (hlawful c hc hbit).1
  have hidle : (List.range 8).any (fun c => bitAt (x.byte 16) c && d.convBusy c) = false := by
    simpa using fun c hc hbit => (hlawful c hc hbit).2
  simp only [bodyMeasCal, hsome, hhere, hidle, if_false, Bool.false_eq_true]

/-- The capture that a MEAS_CAPTURE `x` with the device's number `id` arms at `tick`. -/
def armedCapture (id tick : Nat) (x : Desc) : CapOp :=
  { id := id, group := x.byte 16, dest := x.u32 12, kind := x.byte 17, at_ := if x.byte 17 = 0 then x.u64 20 else 0, phase := x.u16 28, armed := tick
    bank := indexOf (x.u32 20), gain := x.byte 30, chans := (List.range (groupConvs (x.byte 16)).length).map fun j => x.u32 (32 + 4 * j)
    samples := x.u16 18, triggered := false, streamA := [], streamB := [], sent := 0, stopping := false }

/-- Lawful operands pass every check, and the converters of the group are marked. -/
theorem bodyMeasCapture_of_idle {x : Desc} {d : Dev} (h : CaptureLawful x d) (hidle : ∀ c ∈ groupConvs (x.byte 16), d.convBusy c = false) (id : Nat) :
    bodyMeasCapture id x d =
      Dev.markCapture { d with meas := { d.meas with caps := d.meas.caps ++ [armedCapture id d.tick x] } } (x.byte 16) true := by
  have hgroup : ¬ 2 < x.byte 16 := Nat.not_lt.2 h.group
  have honGrade : ¬ (1 ≤ x.byte 16 ∧ d.part.grade = .s) := by
    rcases h.onGrade with h0 | hf
    · omega
    · simp [hf]
  have hrange : ¬ (1 < x.byte 17 ∨ x.u16 18 = 0 ∨ 4096 < x.u16 18 ∨ 499 < x.u16 28 ∨ 4 < x.byte 30) := by
    obtain ⟨-, -, hkind, hsome, hsamples, hphase, hgain, -⟩ := h
    omega
  have hbank : ¬ (x.byte 17 = 1 ∧ (isNull (x.u32 20) = true ∨ d.isHandle clsBANK (x.u32 20) = false)) := fun ⟨hshot, hbad⟩ => by
    simp [h.bank hshot] at hbad
  have hfits : ¬ memWords < x.u32 12 + (2 * x.u16 18 + 31) / 32 * (groupConvs (x.byte 16)).length := Nat.not_lt.2 h.fits
  have hinTime : ¬ (x.byte 17 = 0 ∧ x.u64 20 < d.tick + 3) := fun ⟨htick, hlate⟩ => Nat.not_le.2 hlate (h.inTime htick)
  have hfree : (groupConvs (x.byte 16)).any d.convBusy = false := by simpa using hidle
  simp only [bodyMeasCapture, Bool.and_eq_true, Bool.or_eq_true, Bool.not_eq_true', decide_eq_true_eq, or_assoc, if_neg hgroup, if_neg honGrade,
    if_neg hrange, h.channels_checked, if_neg Bool.false_ne_true, if_neg hbank, if_neg hfits, if_neg hinTime, hfree, armedCapture]

end Sys2Proof.Machine
end

section
open Sys2Proof Sys2Proof.Machine

/-- Settles O1: each descriptor's body, its operands lawful, is computed by the lemma about it, and an accepted submission ends as its body says. -/
theorem measurementDescriptorsAct : Obligations.MeasurementDescriptorsAct := by
  unfold Obligations.MeasurementDescriptorsAct
  refine ⟨?_, ?_, ?_, ?_, ?_⟩
  · exact Acts.of bodyNop (fun _ _ _ => rfl) fun _ _ _ _ => rfl
  · exact Acts.of bodyMeasCal (fun _ _ _ => rfl) fun id x d ⟨hsome, hlawful⟩ => bodyMeasCal_of_lawful hsome hlawful id
  · exact Acts.of bodyMeasUrgent (fun _ _ _ => rfl) fun id x d ⟨hconv, hhere, hpair, hgain, hosr, hchan⟩ => by
      have hconv' : ¬ 7 < x.byte 16 := by omega
      have hpair' : ¬ (x.byte 16 % 2 = 1 ∧ d.isSet Reg.CONV_CTRL.PAIR (x.byte 16 - 1) = true) := fun ⟨hodd, hset⟩ => by simp [hpair hodd] at hset
      have hrange : ¬ (4 < x.byte 17 ∨ 5 < x.byte 18) := by omega
      simp [bodyMeasUrgent, hconv', hhere, hpair', hrange, hchan]
  · refine Acts.measCapture (k := 0) (by simp) (fun x d ⟨_, _, hkind, _⟩ => hkind) ?_
    intro id x d ⟨hgroup, hgrade, hkind, hsome, hsamples, hphase, hgain, htick, hfits, hchans, hidle⟩
    have hlawful : CaptureLawful x d := ⟨hgroup, hgrade, by omega, hsome, hsamples, hphase, hgain, fun _ => htick, by omega, hfits, hchans⟩
    simp [bodyMeasCapture_of_idle hlawful hidle, armedCapture, hkind]
  · refine Acts.measCapture (k := 1) (by simp) (fun x d ⟨_, _, hkind, _⟩ => hkind) ?_
    intro id x d ⟨hgroup, hgrade, hkind, hsome, hsamples, hphase, hgain, hnamed, hbank, hfits, hchans, hidle⟩
    have hlawful : CaptureLawful x d :=
      ⟨hgroup, hgrade, by omega, hsome, hsamples, hphase, hgain, by omega, fun _ => ⟨hnamed, hbank⟩, hfits, hchans⟩
    simp [bodyMeasCapture_of_idle hlawful hidle, armedCapture, hkind]

end

section
/-! SUPPORT. A FIELD_RESUME of a die in SAFE (R172). -/

namespace Sys2Proof.Machine
open Sys2Proof

/-- A FIELD_RESUME of field die 0: opcode 0x0304, byte 16 = 0. -/
def resumeDieA : Desc := BitVec.ofNat 512 (0x0304 + 0xFFFFFFFF * 2 ^ 64)

/-- The running device with field die 0 in SAFE. -/
def safeDieDev : Dev := { runningDev with dieA := { runningDev.dieA with state := .safe } }

end Sys2Proof.Machine
end

section
open Sys2Proof Sys2Proof.Machine

/-- Refutes O2: a FIELD_RESUME of a die in SAFE also lists the resume that the device waits for. -/
theorem not_mailboxDescriptorsArePosted : ¬ Obligations.MailboxDescriptorsArePosted := by
  unfold Obligations.MailboxDescriptorsArePosted
  rintro ⟨-, -, -, -, -, -, -, -, hresume, -⟩
  have hbody := Acts.body_eq bodyFieldResume (fun _ _ _ => rfl) hresume (s := { dev := safeDieDev, pending := [] }) (q := 0) (x := resumeDieA)
    (by decide +kernel) (by decide +kernel)
  have hresumes := congrArg (fun d => d.resumes.length) hbody
  exact absurd hresumes (by decide +kernel)

end

section
/-! SUPPORT. DARK_TEST_NOW, whose check of a test in progress leaves out the descriptor itself (R173). -/

namespace Sys2Proof.Machine
open Sys2Proof

/-- `Acts.of` for a body that compares its own number: the descriptor is the last one taken. -/
theorem Acts.of_last {c : Nat → Desc → Instr} {op : Nat} {named : List (Nat × Nat)} {pre : Desc → Dev → Prop} {post : Nat → Desc → Dev → Dev}
    (body : Nat → Desc → Dev → Dev) (hc : ∀ s q x, exec (c q x) s = s.onDev fun d => d.submit q x op named body)
    (h : ∀ id x d, d.nextId - 1 = id → pre x d → body id x d = post id x d) : Acts c op named pre post := by
  intro s q x ha hp
  have hbody : body s.dev.nextId x (s.dev.begin.started q x) = post s.dev.nextId x (s.dev.begin.started q x) := h _ _ _ rfl hp
  rw [hc, State.onDev_eq, Dev.submit_accepts body ha]
  exact congrArg (fun e => Host.Outcome.next (s.withDev e)) hbody

theorem bodyDarkTestNow_of_lawful {x : Desc} {d : Dev} (hmin : 1 ≤ x.byte 16) (hmax : x.byte 16 ≤ 3)
    (hdies : ∀ k ∈ darkDies x, d.dieFitted k = true ∧ d.get Reg.FIELD_STAT.OUT_STATE k = 1
      ∧ (if k = 0 then d.isSet Reg.DIO_DARK.EN_A 0 else d.isSet Reg.DIO_DARK.EN_B 0) = true ∧ d.darkBusy k (d.nextId - 1) = false) :
    bodyDarkTestNow (d.nextId - 1) x d = (darkDies x).foldl (fun (y : Dev) k => y.post k (.desc (d.nextId - 1))) d := by
  have hop : ¬ (x.byte 16 = 0 ∨ 3 < x.byte 16) := by omega
  have hfitted : ¬ ∃ k ∈ darkDies x, d.dieFitted k = false := fun ⟨k, hk, hnot⟩ => by simp [hdies k hk] at hnot
  have hidle : ¬ ∃ k ∈ darkDies x, (d.get Reg.FIELD_STAT.OUT_STATE k ≠ 1
      ∨ (if k = 0 then d.isSet Reg.DIO_DARK.EN_A 0 else d.isSet Reg.DIO_DARK.EN_B 0) = false) ∨ d.darkBusy k (d.nextId - 1) = true := by
    rintro ⟨k, hk, hnot⟩
    obtain ⟨-, hrun, hon, hfree⟩ := hdies k hk
    simp [hrun, hon, hfree] at hnot
  simp only [bodyDarkTestNow, Bool.or_eq_true, decide_eq_true_eq, if_neg hop, List.any_eq_true, Bool.not_eq_true', if_neg hfitted, bne_iff_ne,
    if_neg hidle]

end Sys2Proof.Machine
end

section
open Sys2Proof Sys2Proof.Machine

/-- Settles O3: the premises decide the checks of each body, and what is left of it is the effect claimed. -/
theorem driveDescriptorsAct : Obligations.DriveDescriptorsAct := by
  unfold Obligations.DriveDescriptorsAct
  refine ⟨?_, ?_, ?_, ?_⟩
  · exact Acts.of_last bodyDarkTestNow (fun _ _ _ => rfl) fun id x d hid ⟨hmin, hmax, hdies⟩ => by
      subst hid
      exact bodyDarkTestNow_of_lawful hmin hmax hdies
  · exact Acts.of bodyShuttleLoad (fun _ _ _ => rfl) fun id x d ⟨hnamed, hisHandle, hloadOf⟩ => by simp [bodyShuttleLoad, hnamed, hisHandle, hloadOf]
  · exact Acts.of bodySolShot (fun _ _ _ => rfl) fun id x d ⟨hnamed, hisHandle, hsolOddReg, hwriterOf, hop20, hop24⟩ => by
      simp [bodySolShot, Nat.not_lt.2 hwriterOf, Nat.not_lt.2 hop20, Nat.not_lt.2 hop24, hnamed, hisHandle, hsolOddReg]
  · exact Acts.of bodySolForce (fun _ _ _ => rfl) fun id x d ⟨hnamed, hisHandle, hsolOddReg, hop20, hop21⟩ => by
      simp [bodySolForce, Nat.not_lt.2 hop20, Nat.not_lt.2 hop21, hnamed, hisHandle, hsolOddReg]

end

section
/-! SUPPORT. The bodies of PAT_PREDICT and CHALK_ARM with lawful operands (R256, R331). -/

namespace Sys2Proof.Machine
open Sys2Proof

theorem bodyPatPredict_of_lawful {x : Desc} {d : Dev} (hhorizon : 1 ≤ x.byte 16 ∧ x.byte 16 ≤ 64) (hcount : x.byte 17 ≤ 5) (hvalid : d.modelValid = true)
    (hrun : d.pat.run = true) (hroom : d.pat.preds.length < d.predDepth)
    (hbinds : ∀ j, j < x.byte 17 → x.u16 (24 + 8 * j) < d.pat.shape.sources.length ∧ 1 ≤ x.byte (26 + 8 * j) ∧ x.byte (26 + 8 * j) ≤ 64
      ∧ x.byte (27 + 8 * j) = 0 ∧ ∀ b, d.pat.shape.sources[x.u16 (24 + 8 * j)]? = some b → b.2.1 ≠ 3 ∧ b.2.1 ≠ 4)
    (hfits : x.u32 20 + 8 * d.pat.shape.slots.length ≤ memWords) (id : Nat) :
    bodyPatPredict id x d =
      Dev.showPat { d with pat := { d.pat with preds := d.pat.preds ++ [{ id := id, made := 0, base := 0, temps := [], inputs := [] }] } } := by
  have hop : ¬ ((x.byte 16 = 0 ∨ 64 < x.byte 16) ∨ 5 < x.byte 17) := by omega
  have hdepth : ¬ d.predDepth ≤ d.pat.preds.length := Nat.not_le.2 hroom
  have hbad : ((List.range (x.byte 17)).any fun j =>
      d.pat.shape.sources.length ≤ x.u16 (24 + 8 * j) || ((d.pat.shape.sources[x.u16 (24 + 8 * j)]?).map fun b => b.2.1).getD 0 == 3
        || ((d.pat.shape.sources[x.u16 (24 + 8 * j)]?).map fun b => b.2.1).getD 0 == 4 || x.byte (26 + 8 * j) == 0 || 64 < x.byte (26 + 8 * j)
        || x.byte (27 + 8 * j) != 0) = false := by
    rw [List.any_eq_false]
    intro j hj
    obtain ⟨hsource, hmin, hmax, hzero, hkind⟩ := hbinds j (List.mem_range.1 hj)
    have hget := List.getElem?_eq_getElem hsource
    obtain ⟨h3, h4⟩ := hkind _ hget
    simp [hget, h3, h4, hzero]
    omega
  have hmem : ¬ memWords < x.u32 20 + 8 * d.pat.shape.slots.length := Nat.not_lt.2 hfits
  simp [bodyPatPredict, hop, hvalid, hrun, hdepth, hbad, hmem]

/-- The operands of a CHALK_ARM pass the checks of R331. -/
structure ChalkArmLawful (x : Desc) (d : Dev) : Prop where
  stream : x.byte 16 ≤ 63
  ring : x.byte 17 ≤ 3
  someCode : 1 ≤ x.byte 18
  codeCount : x.byte 18 ≤ 16
  mode : x.byte 19 ≤ 2
  named : isNull (x.u32 20) = false
  handle : d.isHandle clsLOOP (x.u32 20) = true
  active : (d.loop (indexOf (x.u32 20))).state ≠ .idle
  free : d.chalk (x.byte 16) = none
  codes : (List.range (armK x)).all (fun j => chalkCodeOk (armCode x j)) = true
  rest : (List.range 16).all (fun j => decide (j < armK x) || armCode x j == 0) = true
  decimation : 1 ≤ armDec x
  post : 1 ≤ armPost x
  kind : armKind x ≤ 4
  node : armNode x < armK x
  mask : armMask x ≤ 15
  inBuffer : armOff x + armSize x ≤ 163840
  fits : (armPre x + 8) * recWords x ≤ armSize x
  apart : ∀ n, n < 64 → ∀ s, d.chalk n = some s → armOff s.arm + armSize s.arm ≤ armOff x ∨ armOff x + armSize x ≤ armOff s.arm

theorem bodyChalkArm_of_lawful {x : Desc} {d : Dev} (h : ChalkArmLawful x d) (id : Nat) :
    bodyChalkArm id x d =
      let s : ChalkSt := { arm := x, id := if armMode x = 1 then some id else none, count := 0, recs := [], next := 0, post := none, prev := none
                           events := 0, fire := false, drops := 0 }
      let d1 := ((((d.setChalk (x.byte 16) (some s)).put Reg.CHALK_COUNT.STREAMED (x.byte 16) 0).put Reg.CHALK_COUNT.DROPPED (x.byte 16) 0).put
        Reg.CHALK_STAT.TRIGGERED (x.byte 16) 0).showChalk (x.byte 16)
      if armMode x = 1 then d1 else d1.done id 0 := by
  obtain ⟨hstream, hring, hkmin, hkmax, hmode, hnamed, hhandle, hactive, hfree, hcodes, hrest, hdec, hpost, hkind, hnode, hmask, hend, hfits,
    hapart⟩ := h
  unfold bodyChalkArm
  dsimp only
  rw [if_neg (by simp only [Bool.or_eq_true, decide_eq_true_eq]; omega), if_neg (by simp [hnamed, hhandle]), if_neg]
  intro hbad
  simp only [Bool.or_eq_true, decide_eq_true_eq, List.any_eq_true, List.mem_range, Bool.and_eq_true, Bool.not_eq_true', bne_iff_ne] at hbad
  simp only [List.all_eq_true, List.mem_range, Bool.or_eq_true, decide_eq_true_eq, beq_iff_eq] at hcodes hrest
  rcases hbad with (((((((((((hbad | hbad) | ⟨j, hj, hbad⟩) | ⟨j, hj, hbad⟩) | hbad) | hbad) | hbad) | hbad) | hbad) | hbad) | ⟨n, hn, hmeet⟩) | hbad)
  · exact hactive hbad
  · simp [hfree] at hbad
  · simp [hcodes j hj] at hbad
  · have := hrest j hj
    omega
  · omega
  · omega
  · omega
  · omega
  · omega
  · omega
  · cases hs : d.chalk n with
    | none => simp [hs] at hmeet
    | some s =>
      have := hapart n hn s hs
      simp [hs] at hmeet
      omega
  · omega

end Sys2Proof.Machine
end

section
open Sys2Proof Sys2Proof.Machine

/-- Settles O4: the premises decide the checks of each body; the checks over lists are settled by the lemmas before it. -/
theorem engineDescriptorsAct : Obligations.EngineDescriptorsAct := by
  unfold Obligations.EngineDescriptorsAct
  refine ⟨?_, ?_, ?_, ?_, ?_, ?_, ?_, ?_, ?_, ?_, ?_, ?_, ?_, ?_, ?_, ?_⟩
  · exact Acts.of bodyPatLoad (fun _ _ _ => rfl) fun id x d ⟨hop32, hpat⟩ => by simp [bodyPatLoad, Nat.not_lt.2 hop32, hpat]
  · exact Acts.of bodyPatPredict (fun _ _ _ => rfl) fun id x d ⟨hmin, hmax, hcount, hvalid, hrun, hroom, hbinds, hfits⟩ =>
      bodyPatPredict_of_lawful ⟨hmin, hmax⟩ hcount hvalid hrun hroom hbinds hfits id
  · exact Acts.of bodyPatReset (fun _ _ _ => rfl) fun id x d ⟨hcount, hvalid, hrun⟩ => by
      have hcount' : ¬ 7 < x.byte 16 := Nat.not_lt.2 hcount
      simp only [bodyPatReset, if_neg hcount']
      exact if_pos (Bool.and_eq_true_iff.2 ⟨hvalid, hrun⟩)
  · exact Acts.of bodyLoopSet (fun _ _ _ => rfl) fun id x d ⟨hnamed, hisHandle, hop24, hslot⟩ => by
      simp [bodyLoopSet, Nat.not_lt.2 hop24, hnamed, hisHandle, hslot]
  · exact Acts.of bodyLoopRemove (fun _ _ _ => rfl) fun id x d ⟨hnamed, hisHandle, hstate, hslot⟩ => by
      simp [bodyLoopRemove, Dev.onLoop, hnamed, hisHandle, hstate, hslot]
  · exact Acts.of bodyLoopMode (fun _ _ _ => rfl) fun id x d ⟨hnamed, hhandle, hactive, hmode, hhow⟩ => by
      have hmode' : ¬ 3 < x.byte 20 := by omega
      rcases hhow with ⟨hhow, henabled⟩ | hhow
      · simp [bodyLoopMode, Dev.onLoop, hnamed, hhandle, hactive, hmode', hhow, henabled]
      · simp [bodyLoopMode, Dev.onLoop, hnamed, hhandle, hactive, hmode', hhow]
  · exact Acts.of bodyLoopHold (fun _ _ _ => rfl) fun id x d ⟨hnamed, hisHandle, hstate, hop20⟩ => by
      simp [bodyLoopHold, Dev.onLoop, hnamed, hisHandle, hstate, hop20]
  · exact Acts.of bodyLoopClear (fun _ _ _ => rfl) fun id x d ⟨hnamed, hisHandle, hstate⟩ => by
      simp [bodyLoopClear, Dev.onLoop, hnamed, hisHandle, hstate]
  · exact Acts.of bodyChalkTrigger (fun _ _ _ => rfl) fun id x d ⟨hstream, c, hchalk, hkind⟩ => by
      simp [bodyChalkTrigger, hstream, hchalk, hkind]
  · exact Acts.of bodyChalkStop (fun _ _ _ => rfl) fun id x d ⟨hstream, hchalk⟩ => by
      have hstream' : ¬ 63 < x.byte 16 := by omega
      have harmed : (d.chalk (x.byte 16)).isNone = false := by simpa [← Option.not_isSome] using hchalk
      simp [bodyChalkStop, hstream', harmed]
  · exact Acts.of (bodySchedSet 1 clsSCHED) (fun _ _ _ => rfl) fun id x d ⟨hnamed, hisHandle⟩ => by simp [bodySchedSet, hnamed, hisHandle]
  · exact Acts.of (bodySchedSet 2 clsZONE) (fun _ _ _ => rfl) fun id x d ⟨hnamed, hisHandle⟩ => by simp [bodySchedSet, hnamed, hisHandle]
  · exact Acts.of bodyZoneOverride (fun _ _ _ => rfl) fun id x d ⟨hnamed, hisHandle, hop20, hop21, hzoneBlock⟩ => by
      simp [bodyZoneOverride, Nat.not_lt.2 hop20, Nat.not_lt.2 hop21, hnamed, hisHandle, hzoneBlock]
  · exact Acts.of bodyCivilSet (fun _ _ _ => rfl) fun id x d _ => by simp [bodyCivilSet]
  · exact Acts.of bodyDstLoad (fun _ _ _ => rfl) fun id x d ⟨hcount, hfits, bs, hread, hrising, hzero, hsealed⟩ => by
      have hcount' : ¬ 32 < x.u32 16 := Nat.not_lt.2 hcount
      have himage : d.readImage (x.u32 20) (16 * x.u32 16) = (some bs, (d.readImage (x.u32 20) (16 * x.u32 16)).2) := Prod.ext hread rfl
      simp only [bodyDstLoad, hcount', hfits]
      rw [himage]
      simp [hrising, hzero, hsealed]
  · exact Acts.of bodyChalkArm (fun _ _ _ => rfl) fun id x d
        ⟨hstream, hring, hkmin, hkmax, hmode, hnamed, hhandle, hactive, hfree, hcodes, hrest, hdec, hpost, hkind, hnode, hmask, hend, hfits, hapart⟩ =>
      bodyChalkArm_of_lawful
        ⟨hstream, hring, hkmin, hkmax, hmode, hnamed, hhandle, hactive, hfree, hcodes, hrest, hdec, hpost, hkind, hnode, hmask, hend, hfits, hapart⟩ id

end

section
open Sys2Proof Sys2Proof.Machine

/-- Settles O5: the premises decide the checks of each body, and what is left of it is the effect claimed. -/
theorem quiltDescriptorsAct : Obligations.QuiltDescriptorsAct := by
  unfold Obligations.QuiltDescriptorsAct
  refine ⟨?_, ?_, ?_, ?_, ?_, ?_, ?_⟩
  · exact Acts.of bodyFlowOpen (fun _ _ _ => rfl) fun id x d ⟨hmin, hmax, hpmin, hpmax, hphase, hobjs, hactive, hroute, hroom⟩ => by
      have hop : ¬ ((((x.byte 16 = 0 ∨ 6 < x.byte 16) ∨ x.u32 20 = 0) ∨ 65535 < x.u32 20) ∨ x.u32 20 ≤ x.u32 24) := by omega
      have hfirst : ((List.range (x.byte 16)).map fun j => x.u32 (28 + 4 * j)).getD 0 0 = x.u32 28 := by
        simp [List.getD_eq_getElem?_getD, Nat.lt_of_lt_of_le Nat.zero_lt_one hmin]
      have hsound : ¬ ((List.range (x.byte 16)).map fun j => x.u32 (28 + 4 * j)).any
          (fun h => isNull h || d.badName h || devOf h != devOf (x.u32 28) || d.isLocal h) = true := by
        simpa [and_assoc] using hobjs
      have hrouted : (d.routePort (devOf (x.u32 28))).isNone = false := by simpa [← Option.not_isSome] using hroute
      have hroom' : ¬ 2048 ≤ d.explicitFlows := Nat.not_le.2 hroom
      simp only [bodyFlowOpen, Bool.or_eq_true, decide_eq_true_eq, hfirst, if_neg hop, if_neg hsound, hactive, hrouted, if_neg hroom', Bool.not_true,
        Bool.false_eq_true, or_self, if_false]
  · exact Acts.of bodyFlowClose (fun _ _ _ => rfl) fun id x d hopen => by
      obtain ⟨f, hf⟩ := Option.isSome_iff_exists.1 hopen
      simp [bodyFlowClose, hf]
  · exact Acts.of bodyRouteLoad (fun _ _ _ => rfl) fun id x d ⟨hop16, hquilt⟩ => by simp [bodyRouteLoad, Nat.not_lt.2 hop16, hquilt]
  · exact Acts.of bodyPortRetrain (fun _ _ _ => rfl) fun id x d _ => by simp [bodyPortRetrain]
  · exact Acts.of bodyQuiltAudit (fun _ _ _ => rfl) fun id x d hop17 => by simp [bodyQuiltAudit, hop17]
  · exact Acts.of bodyQuiltAudit (fun _ _ _ => rfl) fun id x d hop17 => by simp [bodyQuiltAudit, hop17]
  · exact Acts.of bodyRringDoorbell (fun _ _ _ => rfl) fun id x d ⟨hdev, hring, hactive, hroute⟩ => by
      have hop : ¬ (1023 < x.u16 16 ∨ 63 < x.byte 18) := by omega
      have hrouted : (d.routePort (x.u16 16)).isNone = false := by simpa [← Option.not_isSome] using hroute
      simp [bodyRringDoorbell, hop, hactive, hrouted]

end

section
open Sys2Proof Sys2Proof.Machine

/-- Settles O6: the premises decide the branch of each body: the length of what BUS_SEND names, the waiting request, the held frame. -/
theorem busDescriptorsAct : Obligations.BusDescriptorsAct := by
  unfold Obligations.BusDescriptorsAct
  refine ⟨?_, ?_, ?_, ?_, ?_, ?_⟩
  · exact fun data => Acts.of (bodyBusSend data) (fun _ _ _ => rfl) fun id x d ⟨hisHandle, hbusMode, hbusMode', hbusMode''⟩ => by
      simp [bodyBusSend, hisHandle, hbusMode, hbusMode', hbusMode'']
  · exact fun data => Acts.of (bodyBusSend data) (fun _ _ _ => rfl) fun id x d ⟨hhandle, hsuits, hmode⟩ => by
      have hother : busMODBUS ≠ busMSTP := by decide
      rw [hmode] at hsuits
      simp [bodyBusSend, hhandle, hsuits, hmode, hother]
  · exact fun data => Acts.of (bodyBusSend data) (fun _ _ _ => rfl) fun id x d ⟨hhandle, hsuits, hmode, hqueued⟩ => by
      rw [hmode] at hsuits
      rcases hqueued with hnone | hnone | hbusy | hbusy
      · simp [bodyBusSend, hhandle, hsuits, hmode, hnone]
      · simp [bodyBusSend, hhandle, hsuits, hmode, hnone]
      · simp only [bodyBusSend, hhandle, hsuits, hmode, hbusy, Bool.not_true, Bool.false_eq_true, if_false, if_true]
        split <;> rfl
      · simp only [bodyBusSend, hhandle, hsuits, hmode, hbusy, Bool.not_true, Bool.false_eq_true, if_false, if_true]
        split <;> rfl
  · exact fun data r => Acts.of (bodyBusSend data) (fun _ _ _ => rfl) fun id x d ⟨hhandle, hsuits, hmode, hreply, hwaiting, hsending, hwaits⟩ => by
      rw [hmode] at hsuits
      simp [bodyBusSend, hhandle, hsuits, hmode, hreply, hwaiting, hsending, hwaits]
  · exact Acts.of bodyBusRecv (fun _ _ _ => rfl) fun id x d ⟨hmin, hmax, hhandle, hroom⟩ => by
      have hlen : ¬ (x.u16 32 = 0 ∨ 1522 < x.u16 32) := by omega
      have hroom' : ¬ 16 ≤ (d.bus (indexOf (x.u32 16))).recvs.length := Nat.not_le.2 hroom
      simp [bodyBusRecv, hlen, hhandle, hroom'] <;> rfl
  · exact Acts.of bodyBusPollSet (fun _ _ _ => rfl) fun id x d ⟨hhandle, hport, hentries, hmode, hfits⟩ => by
      have hop : ¬ (16 ≤ indexOf (x.u32 16) ∨ d.pollEntries < x.byte 24) := by omega
      have hfits' : ¬ memWords < x.u32 20 + x.byte 24 := Nat.not_lt.2 hfits
      simp [bodyBusPollSet, hhandle, hop, hmode, hfits']

end

section
open Sys2Proof Sys2Proof.Machine

/-- Settles O7: the premises open the regions and pass the operands, and each body then does what is claimed. -/
theorem storeDescriptorsAct : Obligations.StoreDescriptorsAct := by
  unfold Obligations.StoreDescriptorsAct
  refine ⟨?_, ?_, ?_, ?_, ?_, ?_, ?_, ?_, ?_, ?_, ?_, ?_, ?_⟩
  · exact fun ups => Acts.of (bodyNvmRead ups) (fun _ _ _ => rfl) fun id x d ⟨hmin, hmax, hraw, hfits, hfirst, hlast⟩ => by
      have hop : ¬ (x.u16 20 = 0 ∨ 4096 < x.u16 20) := by omega
      simp [bodyNvmRead, hop, hraw, hfits, hfirst, hlast]
  · exact Acts.of bodyNvmWrite (fun _ _ _ => rfl) fun id x d ⟨hmin, hmax, hend, hsave, hfits, hregion, hopen, hread⟩ => by
      have hop : ¬ ((x.u16 20 = 0 ∨ 256 < x.u16 20) ∨ nvmBytes ≤ x.u32 16) := by omega
      have hregion' : ¬ regionOf (x.u32 16) < 6 := Nat.not_lt.2 hregion
      obtain ⟨bs, hbs⟩ := Option.isSome_iff_exists.1 hread
      have himage : d.readImage (x.u32 24) (x.u16 20) = (some bs, (d.readImage (x.u32 24) (x.u16 20)).2) := Prod.ext hbs rfl
      simp only [bodyNvmWrite, Bool.or_eq_true, decide_eq_true_eq, hop, hsave, hfits, hregion', hopen]
      rw [himage]
      simp
  · exact Acts.of bodyNvmUnlock (fun _ _ _ => rfl) fun id x d ⟨hop16, hop17, hlockedOut, hop24⟩ => by
      simp [bodyNvmUnlock, Nat.not_le.2 hop16, Nat.not_le.2 hop17, hlockedOut, hop24]
  · exact Acts.of bodyNvmLock (fun _ _ _ => rfl) fun id x d hop17 => by simp [bodyNvmLock, Nat.not_le.2 hop17]
  · exact Acts.of bodyNvmSetpw (fun _ _ _ => rfl) fun id x d ⟨hop16, hop17, hregionOpen⟩ => by
      simp [bodyNvmSetpw, Nat.not_le.2 hop16, Nat.not_le.2 hop17, hregionOpen]
  · exact Acts.of bodyNvmSync (fun _ _ _ => rfl) fun id x d ⟨hretPending, hstoreDue⟩ => by simp [bodyNvmSync, hretPending, hstoreDue]
  · exact Acts.of bodyNvmSync (fun _ _ _ => rfl) fun id x d hretPending => by simp [bodyNvmSync, hretPending]
  · exact fun r => Acts.of bodyRecConfirm (fun _ _ _ => rfl) fun id x d ⟨hrecord, hambiguous⟩ => by
      simp only [bodyRecConfirm, hrecord, hambiguous, if_true]
  · exact fun r => Acts.of bodyRecConfirm (fun _ _ _ => rfl) fun id x d ⟨hrecord, hsound⟩ => by
      simp only [bodyRecConfirm, hrecord, hsound, Bool.false_eq_true, if_false]
  · exact fun r => Acts.of bodyRecWrite (fun _ _ _ => rfl) fun id x d ⟨hrecord, hhost, hmin, hmax⟩ => by
      have hhost' : ¬ r < 3584 := Nat.not_lt.2 hhost
      have hlen : ¬ (x.byte 20 = 0 ∨ 24 < x.byte 20) := by omega
      simp [bodyRecWrite, hrecord, hhost', hlen]
  · exact fun ups r => Acts.of (bodyRecRead ups) (fun _ _ _ => rfl) fun id x d ⟨hrecHandle, hop20⟩ => by simp [bodyRecRead, hrecHandle, hop20]
  · exact Acts.of bodyNvmExport (fun _ _ _ => rfl) fun id x d ⟨hop16, hnvm, hnvm', hidentityok⟩ => by
      simp [bodyNvmExport, Nat.not_le.2 hop16, hnvm, hnvm', hidentityok]
  · exact fun data => Acts.of (bodyNvmImport data) (fun _ _ _ => rfl) fun id x d ⟨hop16, hnvm, hnvm'⟩ => by
      simp [bodyNvmImport, Nat.not_le.2 hop16, hnvm, hnvm']

end

section
open Sys2Proof Sys2Proof.Machine

/-- Settles O8: the premises decide the checks of each body, and what is left of it is the effect claimed. -/
theorem serviceDescriptorsAct : Obligations.ServiceDescriptorsAct := by
  unfold Obligations.ServiceDescriptorsAct
  refine ⟨?_, ?_, ?_, ?_, ?_, ?_, ?_, ?_, ?_, ?_, ?_, ?_, ?_⟩
  · exact Acts.of bodyPanelUpdate (fun _ _ _ => rfl) fun id x d ⟨hw, hh, hright, hbottom, hmode, hlib, hen, hsound, hidle⟩ => by
      have hop : ¬ (((x.u16 20 = 0 ∨ x.u16 22 = 0) ∨ d.panelW < x.u16 16 + x.u16 20) ∨ d.panelH < x.u16 18 + x.u16 22) := by omega
      have hmode' : ¬ 4 ≤ x.byte 24 := Nat.not_le.2 hmode
      rcases hlib with hlib | hlib <;> simp [bodyPanelUpdate, hop, hmode', hlib, hen, hsound, hidle]
  · exact Acts.of bodyPanelWfload (fun _ _ _ => rfl) fun id x d hpanel => by simp [bodyPanelWfload, hpanel]
  · exact Acts.of bodyPanelCrcCheck (fun _ _ _ => rfl) fun id x d ⟨hen, hcrc⟩ => by simp [bodyPanelCrcCheck, hen, hcrc]
  · exact Acts.of bodyPanelCrcCheck (fun _ _ _ => rfl) fun id x d ⟨hen, hcrc⟩ => by simp [bodyPanelCrcCheck, hen, hcrc]
  · exact Acts.of bodyKeyLock (fun _ _ _ => rfl) fun id x d hop16 => by simp [bodyKeyLock, Nat.not_le.2 hop16]
  · exact Acts.of bodyFitRun (fun _ _ _ => rfl) fun id x d hfitting => by simp [bodyFitRun, hfitting]
  · exact Acts.of bodyFitLogRead (fun _ _ _ => rfl) fun id x d ⟨hmin, hmax, hfits⟩ => by
      have hop : ¬ ((x.u16 18 = 0 ∨ 1024 < x.u16 18) ∨ memWords < x.u32 20 + x.u16 18) := by omega
      simp [bodyFitLogRead, hop]
  · exact Acts.of bodyFitBaseline (fun _ _ _ => rfl) fun id x d helements => by
      have hsound : ((List.range 16).any fun e => bitAt (x.u16 16) e && !([2, 4, 5, 6, 9].contains e)) = false := by
        simp only [List.any_eq_false, List.mem_range, Bool.and_eq_true, not_and]
        intro e he hbit
        rcases helements e he hbit with rfl | rfl | rfl | rfl | rfl <;> decide
      simp only [bodyFitBaseline, hsound, Bool.false_eq_true, if_false]
  · exact Acts.of bodyOwnerHandover (fun _ _ _ => rfl) fun id x d _ => by simp [bodyOwnerHandover]
  · exact Acts.of bodyConfigManifest (fun _ _ _ => rfl) fun id x d _ => by simp [bodyConfigManifest]
  · exact Acts.of bodyFwUpdate (fun _ _ _ => rfl) fun id x d _ => by simp [bodyFwUpdate]
  · exact Acts.of bodyAttest (fun _ _ _ => rfl) fun id x d ⟨hop48, hidentityok⟩ => by simp [bodyAttest, hop48, hidentityok]
  · exact Acts.of bodyDbgFreeze (fun _ _ _ => rfl) fun id x d ⟨hop16, hlive, hfrzEn, hfrz⟩ => by
      simp [bodyDbgFreeze, Dev.askFreeze, Nat.not_le.2 hop16, hlive, hfrzEn, hfrz]

end

section
/-! SUPPORT. What an abort of each phase of its target does (R473). -/

namespace Sys2Proof.Machine
open Sys2Proof

theorem Dev.abortDesc_of_fetched {d : Dev} {x : Desc} {ops : List Nat} {r : Rec} (h : d.abortFinds x ops r) (hr : r.phase = .fetched) (id : Nat)
    (settle : Nat → Rec → Dev → Dev) : d.abortDesc id (x.u16 20) (x.u32 16) ops settle = (d.fail r.id .aborted).done id 0 := by
  obtain ⟨-, htarget, hop⟩ := h
  simp only [Dev.abortDesc, htarget, hop, hr, Bool.not_true, Bool.false_eq_true, if_false]

theorem Dev.abortDesc_of_running {d : Dev} {x : Desc} {ops : List Nat} {r : Rec} (h : d.abortFinds x ops r) (hr : r.phase = .running) (id : Nat)
    (settle : Nat → Rec → Dev → Dev) : d.abortDesc id (x.u16 20) (x.u32 16) ops settle = settle id r d := by
  obtain ⟨-, htarget, hop⟩ := h
  simp only [Dev.abortDesc, htarget, hop, hr, Bool.not_true, Bool.false_eq_true, if_false]

/-- An abort descriptor that, its ring in range, does what `abortDesc` does ends a target that has not started ABORTED and settles one that runs. -/
theorem Acts.abort {c : Nat → Desc → Instr} {op : Nat} {named : List (Nat × Nat)} {ops : List Nat} {settle : Nat → Rec → Dev → Dev}
    (body : Nat → Desc → Dev → Dev) (hc : ∀ s q x, exec (c q x) s = s.onDev fun d => d.submit q x op named body)
    (hbody : ∀ id (x : Desc) (d : Dev), x.u16 20 < 64 → body id x d = d.abortDesc id (x.u16 20) (x.u32 16) ops settle) :
    (∀ r : Rec, r.phase = .fetched → Acts c op named (fun x d => d.abortFinds x ops r) fun id _ d => (d.fail r.id .aborted).done id 0) ∧
    (∀ r : Rec, r.phase = .running → Acts c op named (fun x d => d.abortFinds x ops r) fun id _ d => settle id r d) := by
  refine ⟨fun r hr => Acts.of body hc fun id x d h => ?_, fun r hr => Acts.of body hc fun id x d h => ?_⟩
  · rw [hbody id x d h.1, Dev.abortDesc_of_fetched h hr]
  · rw [hbody id x d h.1, Dev.abortDesc_of_running h hr]

end Sys2Proof.Machine
end

section
open Sys2Proof Sys2Proof.Machine

/-- Settles O9: each of the eleven aborts is `abortDesc` with the opcodes and the settling of its unit. -/
theorem abortsEndTheirTargets : Obligations.AbortsEndTheirTargets := by
  unfold Obligations.AbortsEndTheirTargets
  obtain ⟨hmeas, hmeas'⟩ := Acts.abort (c := .measAbort) bodyMeasAbort (fun _ _ _ => rfl) fun _ _ _ h => if_neg (Nat.not_lt.2 (Nat.le_of_lt_succ h))
  obtain ⟨hpos, hpos'⟩ := Acts.abort (c := .posAbort) bodyPosAbort (fun _ _ _ => rfl) fun _ _ _ h => if_neg (Nat.not_lt.2 (Nat.le_of_lt_succ h))
  obtain ⟨hpat, hpat'⟩ := Acts.abort (c := .patAbort) bodyPatAbort (fun _ _ _ => rfl) fun _ _ _ h => if_neg (Nat.not_lt.2 (Nat.le_of_lt_succ h))
  obtain ⟨hloop, hloop'⟩ := Acts.abort (c := .loopAbort) bodyLoopAbort (fun _ _ _ => rfl) fun _ _ _ h => if_neg (Nat.not_lt.2 (Nat.le_of_lt_succ h))
  obtain ⟨hshut, hshut'⟩ := Acts.abort (c := .shuttleAbort) bodyShuttleAbort (fun _ _ _ => rfl) fun _ _ _ h =>
    if_neg (Nat.not_lt.2 (Nat.le_of_lt_succ h))
  obtain ⟨hquilt, hquilt'⟩ := Acts.abort (c := .quiltAbort) _ (fun _ _ _ => rfl) fun _ _ _ _ => rfl
  obtain ⟨hbus, hbus'⟩ := Acts.abort (c := .busAbort) _ (fun _ _ _ => rfl) fun _ _ _ _ => rfl
  obtain ⟨hnvm, hnvm'⟩ := Acts.abort (c := .nvmAbort) bodyNvmAbort (fun _ _ _ => rfl) fun _ _ _ h => if_neg (Nat.not_le.2 h)
  obtain ⟨hpanel, hpanel'⟩ := Acts.abort (c := .panelAbort) bodyPanelAbort (fun _ _ _ => rfl) fun _ _ _ h => if_neg (Nat.not_le.2 h)
  obtain ⟨hfit, hfit'⟩ := Acts.abort (c := .fitAbort) bodyFitAbort (fun _ _ _ => rfl) fun _ _ _ h => if_neg (Nat.not_le.2 h)
  obtain ⟨hsec, hsec'⟩ := Acts.abort (c := .secAbort) bodySecAbort (fun _ _ _ => rfl) fun _ _ _ h => if_neg (Nat.not_le.2 h)
  exact ⟨fun r hr => ⟨hmeas r hr, hpos r hr, hpat r hr, hloop r hr, hshut r hr, hquilt r hr, hbus r hr, hnvm r hr, hpanel r hr, hfit r hr, hsec r hr⟩,
    fun r hr => ⟨hmeas' r hr, hpos' r hr, hpat' r hr, hloop' r hr, hshut' r hr, hquilt' r hr, hbus' r hr, hnvm' r hr, hpanel' r hr, hfit' r hr,
      hsec' r hr⟩⟩

end

section
open Sys2Proof Sys2Proof.Machine

/-- Settles O10: a write reaches its register where the endpoint takes writes, and the premises pick the branch of the register's rule. -/
theorem clearWritesAct : Obligations.ClearWritesAct := by
  unfold Obligations.ClearWritesAct
  refine ⟨?_, ?_, ?_, ?_, ?_, ?_, ?_, ?_⟩
  · exact fun v => Runs.of _ (fun _ => (rfl : execBlReqWrite v _ = _)) fun d ⟨hw, hopen, hclr, hnew, hmin, hmax⟩ => by
      have hlawful : ¬ (bitsAt v 0 8 = 0 ∨ d.part.stepping.blMax < bitsAt v 0 8) := by omega
      simp [Dev.hostReg_of_takesWrites hw, Dev.writeBlsel, hopen, hclr, hnew, hlawful]
  · exact Runs.of _ (fun _ => (rfl : execClrCorrected _ = _)) fun _ hw => Dev.hostReg_of_takesWrites hw ..
  · exact Runs.of _ (fun _ => (rfl : execClrUncorrectable _ = _)) fun _ hw => Dev.hostReg_of_takesWrites hw ..
  · exact fun k => Runs.of _ (fun _ => (rfl : execFieldErrClr k _ = _)) fun d ⟨hw, hfitted⟩ => by
      simp [Dev.hostReg_of_takesWrites hw, Dev.fieldErrClr, hfitted]
  · exact Runs.of _ (fun _ => (rfl : execClrDip _ = _)) fun _ hw => Dev.hostReg_of_takesWrites hw ..
  · exact Runs.of _ (fun _ => (rfl : execClrErr _ = _)) fun _ hw => Dev.hostReg_of_takesWrites hw ..
  · exact fun q => Runs.of _ (fun _ => (rfl : execFenceClr q _ = _)) fun d ⟨hw, hq⟩ => by
      simp [Dev.hostReg_of_takesWrites hw, Dev.fenceClear, hq]
  · exact fun v => Runs.of _ (fun _ => (rfl : execHostqWdogWrite v _ = _)) fun d ⟨hw, hmax⟩ => by
      simp [Dev.hostReg_of_takesWrites hw, Dev.writeWdog, Nat.not_lt.2 hmax]

end

section
open Sys2Proof Sys2Proof.Machine

/-- Settles O11: a write reaches its register where the endpoint takes writes; where the core die is frozen it waits for thaw. -/
theorem configurationWritesAct : Obligations.ConfigurationWritesAct := by
  unfold Obligations.ConfigurationWritesAct
  refine ⟨?_, ?_, ?_, ?_, ?_, ?_, ?_, ?_, ?_, ?_, ?_, ?_, ?_, ?_⟩
  · exact fun off v => Runs.of _ (fun _ => (rfl : execRegisterWrite off 4 v _ = _)) fun d ⟨⟨hup, hfrozen⟩, haligned⟩ => by
      simp [hup, hfrozen, Dev.writeSized, haligned]
  · exact fun off v => Runs.of _ (fun _ => (rfl : execRegisterWrite off 8 v _ = _)) fun d ⟨⟨hup, hfrozen⟩, haligned⟩ => by
      simp [hup, hfrozen, Dev.writeSized, haligned]
  · exact fun off size v => Runs.of _ (fun _ => (rfl : execRegisterWrite off size v _ = _)) fun d ⟨hpower, hfrozen, hoff, hfrz⟩ => by
      simp [Dev.postHost, Nat.not_le.2 hoff, hpower, hfrozen, hfrz]
  · exact fun u v => Runs.of _ (fun _ => (rfl : execUiModeWrite u v _ = _)) fun d ⟨hwrites, hu, hmeasHere, hbeta⟩ => by
      simp [Dev.hostReg_of_takesWrites hwrites, Dev.writeUiMode, hu, hmeasHere, hbeta]
  · exact fun u v => Runs.of _ (fun _ => (rfl : execUiGainShWrite u v _ = _)) fun d ⟨hwrites, hu, hmeasHere⟩ => by
      simp [Dev.hostReg_of_takesWrites hwrites, Dev.writeUiGainSh, hu, hmeasHere]
  · exact fun c v => Runs.of _ (fun _ => (rfl : execConvCtrlWrite c v _ = _)) fun d ⟨hwrites, hc, hconvHere⟩ => by
      simp [Dev.hostReg_of_takesWrites hwrites, Dev.writeConvCtrl, hc, hconvHere]
  · exact fun off v => Runs.of _ (fun _ => (rfl : execMailboxWrite off v _ = _)) fun d ⟨hwrites, hc⟩ => by
      simp [Dev.hostReg_of_takesWrites hwrites, hc]
  · exact fun off v f i h => Runs.of _ (fun _ => (rfl : execMailboxWrite off v _ = _)) fun d
        ⟨hw, hrange, haligned, hv, hreg, hrw, hhere, hin, hpos, hfan, hdio, hshut, hclrA, hclrB, hsafe, htype, hdeb, htmin, hdark, hcore⟩ => by
      have hoff : off / 4 * 4 = off := by omega
      have hword : v % 4294967296 = v := Nat.mod_eq_of_lt hv
      have hplain : ¬ (off % 0x10000 = 0x24 ∧ off < 0x50000) := by omega
      simp [Dev.hostReg_of_takesWrites hw, Dev.writeField, hrange, hoff, hword, hplain, hreg, hrw, hhere, hin, hpos, hfan, hdio, hshut, hsafe, htype, hdeb,
        htmin, hdark, hcore]
  · exact fun v => Runs.of _ (fun _ => (rfl : execPatCtrlWrite v _ = _)) fun d ⟨hwrites, _⟩ => by
      simp [Dev.hostReg_of_takesWrites hwrites, Dev.writePatCtrl]
  · exact fun v => Runs.of _ (fun _ => (rfl : execLoopCtrlWrite v _ = _)) fun d hpre => by simp [Dev.hostReg_of_takesWrites hpre, Dev.writeLoopCtrl]
  · exact fun n v => Runs.of _ (fun _ => (rfl : execBusCfgWrite n v _ = _)) fun d ⟨hwrites, hn, hbaudOk⟩ => by
      simp [Dev.hostReg_of_takesWrites hwrites, Dev.writeBusCfg, hn, hbaudOk]
  · exact fun v => Runs.of _ (fun _ => (rfl : execPortEnWrite v _ = _)) fun d ⟨hwrites, hbitsAt⟩ => by
      simp [Dev.hostReg_of_takesWrites hwrites, Dev.writeQuiltCfg, hbitsAt]
  · exact fun p v => Runs.of _ (fun _ => (rfl : execPortEqWrite p v _ = _)) fun d ⟨hwrites, hp⟩ => by
      simp [Dev.hostReg_of_takesWrites hwrites, Dev.writePortEq, hp]
  · exact fun v => Runs.of _ (fun _ => (rfl : execPanelEnWrite v _ = _)) fun d ⟨hwrites, hen, hc⟩ => by
      simp [Dev.hostReg_of_takesWrites hwrites, Dev.writePanelCfg, hen, hc]

end

section
open Sys2Proof Sys2Proof.Machine

/-- Settles O12: an enable, a disable and a doorbell act where the endpoint takes writes, and the premises place the index within the ring. -/
theorem ringWritesAct : Obligations.RingWritesAct := by
  unfold Obligations.RingWritesAct
  refine ⟨?_, ?_, ?_, ?_, ?_, ?_, ?_, ?_, ?_, ?_, ?_, ?_, ?_, ?_⟩
  · exact fun r => Runs.of _ (fun _ => (rfl : execRingEnable r _ = _)) fun d ⟨hw, hr, hoff, hcq, hidle, hlocal⟩ => by
      have hring : ¬ 133 ≤ r := by omega
      simp [Dev.hostReg_of_takesWrites hw, Dev.ringEnable, Dev.badRemoteBase, hring, hr, hoff, hcq, hidle, hlocal]
  · exact fun c => Runs.of _ (fun _ => (rfl : execRingEnable (64 + c) _ = _)) fun d ⟨hw, hc, hoff, hlocal⟩ => by
      have hring : ¬ 133 ≤ 64 + c := by omega
      have hcq : ¬ 64 + c < 64 ∧ 64 + c < 128 := by omega
      simp [Dev.hostReg_of_takesWrites hw, Dev.ringEnable, Dev.badRemoteBase, hring, hcq, hoff, hlocal]
  · exact Runs.of _ (fun _ => (rfl : execRingEnable 128 _ = _)) fun d ⟨hw, hoff, hlocal⟩ => by
      simp [Dev.hostReg_of_takesWrites hw, Dev.ringEnable, Dev.badRemoteBase, hoff, hlocal]
  · exact fun t => Runs.of _ (fun _ => (rfl : execRingEnable (129 + t) _ = _)) fun d ⟨hw, ht, hoff, hlocal⟩ => by
      have hring : ¬ 133 ≤ 129 + t := by omega
      have htq : ¬ 129 + t < 128 ∧ 129 + t ≠ 128 ∧ ¬ 129 + t < 64 := by omega
      simp [Dev.hostReg_of_takesWrites hw, Dev.ringEnable, Dev.badRemoteBase, hring, htq, hoff, hlocal]
  · exact fun r => Runs.of _ (fun _ => (rfl : execRingDisable r _ = _)) fun d ⟨hw, hr, hon⟩ => by
      have hring : ¬ 133 ≤ r := by omega
      simp [Dev.hostReg_of_takesWrites hw, Dev.ringDisable, hring, hr, hon]
  · exact fun c => Runs.of _ (fun _ => (rfl : execRingDisable (64 + c) _ = _)) fun d ⟨hw, hc, hon, hfree⟩ => by
      have hring : ¬ 133 ≤ 64 + c := by omega
      have hcq : ¬ 64 + c < 64 ∧ 64 + c < 128 := by omega
      simp [Dev.hostReg_of_takesWrites hw, Dev.ringDisable, hring, hcq, hon, hfree]
  · exact Runs.of _ (fun _ => (rfl : execRingDisable 128 _ = _)) fun d ⟨hw, hon⟩ => by
      simp [Dev.hostReg_of_takesWrites hw, Dev.ringDisable, hon]
  · exact fun t => Runs.of _ (fun _ => (rfl : execRingDisable (129 + t) _ = _)) fun d ⟨hw, ht, hon⟩ => by
      have hring : ¬ 133 ≤ 129 + t := by omega
      have htq : ¬ 129 + t < 128 ∧ 129 + t ≠ 128 ∧ ¬ 129 + t < 64 := by omega
      simp [Dev.hostReg_of_takesWrites hw, Dev.ringDisable, hring, htq, hon]
  · exact fun q v => Runs.of _ (fun _ => (rfl : execSqTailDoorbell q v _ = _)) fun d ⟨hw, hq, hon, hsize, hv⟩ => by
      have hword : v % 4294967296 = v := Nat.mod_eq_of_lt hv
      simp [Dev.hostBell_of_takesWrites hw, Dev.ringTail, hword, hq, hon, Nat.not_le.2 hsize]
  · exact fun c v => Runs.of _ (fun _ => (rfl : execCqHeadDoorbell c v _ = _)) fun d ⟨hw, hc, hon, hsize, hv⟩ => by
      have hword : v % 4294967296 = v := Nat.mod_eq_of_lt hv
      simp [Dev.hostBell_of_takesWrites hw, Dev.cqHead, hword, hc, hon, Nat.not_le.2 hsize]
  · exact fun v => Runs.of _ (fun _ => (rfl : execEqHeadDoorbell v _ = _)) fun d ⟨hw, hon, hsize, hv⟩ => by
      have hword : v % 4294967296 = v := Nat.mod_eq_of_lt hv
      simp [Dev.hostBell_of_takesWrites hw, Dev.eqHead, hword, hon, Nat.not_le.2 hsize]
  · exact fun t v => Runs.of _ (fun _ => (rfl : execTqHeadDoorbell t v _ = _)) fun d ⟨hw, ht, hon, hsize, hv⟩ => by
      have hword : v % 4294967296 = v := Nat.mod_eq_of_lt hv
      simp [Dev.hostBell_of_takesWrites hw, Dev.tqHead, hword, ht, hon, Nat.not_le.2 hsize]
  · exact fun v => Runs.of _ (fun _ => (rfl : execHeartbeat v _ = _)) fun d ⟨hw, hheard⟩ => by
      simp [Dev.hostBell_of_takesWrites hw, Dev.heartbeat, hheard]
  · exact fun v => Runs.of _ (fun _ => (rfl : execHeartbeat v _ = _)) fun d ⟨hw, hlost, hreturn⟩ => by
      simp only [Dev.hostBell_of_takesWrites hw, Dev.heartbeat, hlost]
      rcases hreturn with ⟨h2, h3⟩ | heq
      · simp [h2, h3]
      · simp [heq]

end

section
open Sys2Proof Sys2Proof.Machine

/-- Settles O13: the premises pick the branch of each access, the word's decoding for those of BAR4. -/
theorem hostReadsAndMemoryAccessesAct : Obligations.HostReadsAndMemoryAccessesAct := by
  unfold Obligations.HostReadsAndMemoryAccessesAct
  refine ⟨?_, ?_, ?_, ?_, ?_, ?_, ?_, ?_, ?_⟩
  · exact Runs.of _ (fun _ => (rfl : execTickLoRead _ = _)) fun d ⟨hhostOpen, hfrozen⟩ => by simp [hhostOpen, hfrozen]
  · exact Runs.of _ (fun _ => (rfl : execTickLoRead _ = _)) fun d ⟨hhostOpen, hfrozen⟩ => by simp [hhostOpen, hfrozen]
  · exact Runs.of _ (fun _ => (rfl : execDbgRoDataRead _ = _)) fun d hpower => by simp [hpower]
  · exact Runs.of _ (fun _ => (rfl : execDbgThaw _ = _)) fun d ⟨hup, r, hfrozen, hown⟩ => by
      simp [hup, Dev.askThaw, hfrozen, hown]
  · exact fun v => Runs.of _ (fun _ => (rfl : execFwRecGo v _ = _)) fun d ⟨hpower, hbitAt⟩ => by simp [Dev.writeFwRec, hpower, hbitAt]
  · exact fun v => Runs.of _ (fun _ => (rfl : execFwRecGo v _ = _)) fun d ⟨hpower, hbitAt⟩ => by simp [Dev.writeFwRec, hpower, hbitAt]
  · exact fun off len us => Runs.of _ (fun _ => (rfl : execBar4Read off len us _ = _)) fun d ⟨hopen, hsome, hend, hallowed⟩ => by
      have hlen : ¬ (len = 0 ∨ 2 ^ 24 < off + len) := by omega
      have hread : ¬ ((d.frozen = true ∧ d.get Reg.GLOBAL_SEAL.OWNER_STATE 0 = ownSealed) ∧ d.isSet Reg.DBG_CFG.RO_OPEN 0 = false) := by
        rcases hallowed with h | h | h <;> simp [h]
      simp only [hopen, Bool.not_true, Bool.false_or, Bool.or_eq_true, decide_eq_true_eq, if_neg hlen, Bool.and_eq_true, Bool.not_eq_true',
        if_neg hread]
  · exact fun off bs us => Runs.of _ (fun _ => (rfl : execBar4Write off bs us _ = _)) fun d ⟨hopen, hsome, hend, hrunning⟩ => by
      have hend' : ¬ 16777216 < off + bs.length := by omega
      simp [hopen, hsome, hend', hrunning]
  · exact fun off bs us => Runs.of _ (fun _ => (rfl : execBar4Write off bs us _ = _)) fun d ⟨hopen, hsome, hend, hfrozen, _⟩ => by
      have hend' : ¬ 16777216 < off + bs.length := by omega
      simp [hopen, hsome, hend', hfrozen]

end

section
open Sys2Proof Sys2Proof.Machine

/-- Settles O14: the phase each row expects is the premise, and the row's operation is what is claimed. -/
theorem startSequenceAdvances : Obligations.StartSequenceAdvances := by
  unfold Obligations.StartSequenceAdvances
  refine ⟨?_, ?_, ?_, ?_, ?_, ?_, ?_, ?_, ?_, ?_⟩
  · exact Runs.of _ (fun _ => (rfl : execVl24Good _ = _)) fun d hpower => by simp [Dev.startStep2, hpower]
  · exact fun r => Runs.of _ (fun _ => (rfl : execPowerGoodRise r _ = _)) fun d ⟨hpower, hr⟩ => by simp [hpower, hr]
  · exact Runs.of _ (fun _ => (rfl : execPowerGoodRise 3 _ = _)) fun d ⟨hpower, hpower'⟩ => by simp [hpower, hpower']
  · exact Runs.of _ (fun _ => (rfl : execPowerGoodRise 3 _ = _)) fun d ⟨hpower, hpower'⟩ => by simp [hpower, hpower']
  · exact fun r => Runs.of _ (fun _ => (rfl : execPgTimeout r _ = _)) fun d hpower => by simp [hpower]
  · exact Runs.of _ (fun _ => (rfl : execStartRetry _ = _)) fun d hpower => by simp [Dev.startStep2, hpower]
  · exact fun a b mode k => Runs.of _ (fun _ => (rfl : execFirmwareVerified a b mode _ = _)) fun d ⟨hpower, hlastreset⟩ => by
      simp [hpower, hlastreset]
  · exact fun a b mode => Runs.of _ (fun _ => (rfl : execFirmwareVerified a b mode _ = _)) fun d ⟨hpower, hlastreset⟩ => by simp [hpower, hlastreset]
  · exact fun a b => Runs.of _ (fun _ => (rfl : execFwReverify a b _ = _)) fun d ⟨hpower, hbootSlot⟩ => by simp [hpower, hbootSlot]
  · exact Runs.of _ (fun _ => (rfl : execVl24FallAtStart _ = _)) fun d hstarting => by
      rcases hstarting with h | h | ⟨r, h⟩ <;> simp [h]

end

section
open Sys2Proof Sys2Proof.Machine

/-- Settles O15: the phase and the choices of each row are its premise, and its operation is what is claimed. -/
theorem warningRowsAct : Obligations.WarningRowsAct := by
  unfold Obligations.WarningRowsAct
  refine ⟨?_, ?_, ?_, ?_, ?_, ?_, ?_, ?_⟩
  · exact fun v h => Runs.of _ (fun _ => (rfl : execPfwNFalling v h _ = _)) fun d ⟨hpower, hdip, hv⟩ => by simp [hpower, hdip, hv]
  · exact fun v h => Runs.of _ (fun _ => (rfl : execPfwNFalling v h _ = _)) fun d ⟨hpower, hdip, hv⟩ => by simp [hpower, hdip, hv]
  · exact Runs.of _ (fun _ => (rfl : execSaveEnd _ = _)) fun d ⟨hdip, hnvm, hpageEnergyOk⟩ => by simp [hdip, hnvm, hpageEnergyOk]
  · exact fun v => Runs.of _ (fun _ => (rfl : execVl24AboveResume v _ = _)) fun d ⟨hdip, hresumeLevel⟩ => by
      simp [Dev.followResume, hdip, hresumeLevel]
  · exact fun v t => Runs.of _ (fun _ => (rfl : execWarningEnd v _ = _)) fun d ⟨hdip, hpower, hpassedSince, hnvm, hpower', hresumeLevel⟩ => by
      simp [Dev.resumeMet, hdip, hpower, hpassedSince, hnvm, hpower', hresumeLevel]
  · exact Runs.of _ (fun _ => (rfl : execDipSafeExpiry _ = _)) fun d ⟨hup, hdip, hon, hlong⟩ => by
      have hpos : 0 < d.get Reg.PWR_CFG.DIP_SAFE 0 := hon
      simp [hup, hdip, hpos, hlong]
  · exact Runs.of _ (fun _ => (rfl : execRstNLow _ = _)) fun d ⟨hpower, hdip⟩ => by simp [Dev.coreUp, hpower, hdip]
  · exact Runs.of _ (fun _ => (rfl : execFirmwareWatchdog _ = _)) fun d ⟨hlive, hdip⟩ => by simp [hlive, hdip]

end

section
/-! SUPPORT. When a reset on RST_N is due (R665). -/

namespace Sys2Proof.Machine
open Sys2Proof

theorem Dev.rstDue_of {d : Dev} (hasked : d.power.rstResetDue = true) (hup : d.coreUp = true)
    (hsaved : d.nvm.save = none ∨ d.power.phase ≠ .up ∨ ∃ t, d.power.rstAt = some t ∧ d.passedSince t 500 = true) : d.rstDue = true := by
  rcases hsaved with h | h | ⟨t, ht, hpassed⟩
  · simp [Dev.rstDue, hasked, hup, h]
  · simp [Dev.rstDue, hasked, hup, h]
  · simp [Dev.rstDue, hasked, hup, ht, hpassed]

/-- The cause of a supply reset is that of the first supply out of its bounds (R518). -/
theorem Dev.supplyCause_eq {d : Dev} {vio vcore pg c : Nat}
    (h : c = 1 ∧ vio < 2950 ∨ c = 2 ∧ 2950 ≤ vio ∧ (vcore < d.vcoreWindow.1 ∨ d.vcoreWindow.2 < vcore)
      ∨ c = 3 ∧ 2950 ≤ vio ∧ d.vcoreWindow.1 ≤ vcore ∧ vcore ≤ d.vcoreWindow.2 ∧ ∃ r, 1 ≤ r ∧ r ≤ 3 ∧ pg.testBit r = false) :
    d.supplyCause vio vcore pg = c ∧ c ≠ 0 := by
  rcases h with ⟨rfl, hvio⟩ | ⟨rfl, hvio, hvcore⟩ | ⟨rfl, hvio, hmin, hmax, r, hr1, hr3, hbit⟩
  · simp [Dev.supplyCause, hvio]
  · simp [Dev.supplyCause, Nat.not_lt.2 hvio, hvcore]
  · have hrail : [1, 2, 3].any (fun r => !pg.testBit r) = true := by
      have hr : r = 1 ∨ r = 2 ∨ r = 3 := by omega
      rcases hr with rfl | rfl | rfl <;> simp [hbit]
    simp only [Dev.supplyCause, Nat.not_lt.2 hvio, Nat.not_lt.2 hmin, Nat.not_lt.2 hmax, hrail]
    decide

end Sys2Proof.Machine
end

section
open Sys2Proof Sys2Proof.Machine

/-- Settles O16: the premises pick the branch of each reset and of each end of what holds the core die. -/
theorem resetRowsAct : Obligations.ResetRowsAct := by
  unfold Obligations.ResetRowsAct
  refine ⟨?_, ?_, ?_, ?_, ?_⟩
  · exact Runs.of _ (fun _ => (rfl : execRstNResetDue _ = _)) fun d ⟨hasked, hup, hsaved⟩ => by
      simp only [Dev.rstDue_of hasked hup hsaved, Bool.not_true, Bool.false_eq_true, if_false]
  · exact Runs.of _ (fun _ => (rfl : execRstNRise _ = _)) fun d hpower => by simp [hpower]
  · exact fun vio vcore pg v h c => Runs.of _ (fun _ => (rfl : execSupplyReset { vio := vio, vcore := vcore, powerGood := pg } v h _ = _))
        fun d ⟨hcause, hcore⟩ => by
      obtain ⟨heq, hne⟩ := Dev.supplyCause_eq hcause
      rcases hcore with hup | hheld | hheld
      · simp [heq, hne, hup]
      · simp [heq, hne, hheld]
      · simp [heq, hne, hheld]
  · exact Runs.of _ (fun _ => (rfl : execClkrefLost _ = _)) fun d hcoreUp => by simp [hcoreUp]
  · exact Runs.of _ (fun _ => (rfl : execClkrefRestored _ = _)) fun d hpower => by simp [hpower]

end

section
open Sys2Proof Sys2Proof.Machine

/-- Settles O17: the premises say whether the bus is free and which transaction ends. -/
theorem pmbusRowsAct : Obligations.PmbusRowsAct := by
  unfold Obligations.PmbusRowsAct
  refine ⟨?_, ?_, ?_, ?_, ?_, ?_, ?_⟩
  · exact fun m => Runs.of _ (fun _ => (rfl : execVcoreStep (.answer m) _ = _)) fun d ⟨hramp, hdue⟩ => by
      have hstep : d.stepDue = true := by simp [Dev.stepDue, hramp, hdue]
      simp only [hstep, Bool.not_true, Bool.false_eq_true, if_false]
      rfl
  · exact fun m => Runs.of _ (fun _ => (rfl : execReadVoutPoll (.answer m) _ = _)) fun d hpower => by simp [Dev.readDue, hpower]
  · exact fun w mode => Runs.of _ (fun _ => (rfl : execStatusWordPoll (.answer w) mode _ = _)) fun d ⟨htryDue, hpower⟩ => by
      simp [Dev.statusDue, htryDue, hpower]
  · exact fun r mode => Runs.of _ (fun _ => (rfl : execStatusWordPoll r mode _ = _)) fun d htryDue => by simp [htryDue]
  · rintro m c (⟨rfl, rfl⟩ | ⟨rfl, rfl⟩)
    · exact Runs.of _ (fun _ => (rfl : execReadVoutPoll .noAnswer _ = _)) fun d hdue => by simp [Dev.readDue, hdue]
    · exact Runs.of _ (fun _ => (rfl : execReadVoutPoll .pecMismatch _ = _)) fun d hdue => by simp [Dev.readDue, hdue]
  · exact fun c => Runs.of _ (fun _ => (rfl : execPmbusTimeout _ = _)) fun d ⟨htryDue, hpmbusOn, hc, hpmbusCommand, hpower⟩ => by
      simp [Dev.pmbusFail, htryDue, hpmbusOn, hc, hpmbusCommand, hpower]
  · exact Runs.of _ (fun _ => (rfl : execPmbusTimeout _ = _)) fun d ⟨htryDue, hpmbusOn, hpower⟩ => by
      simp [Dev.pmbusCommand, Dev.pmbusFail, htryDue, hpmbusOn, hpower]

end

section
open Sys2Proof Sys2Proof.Machine

/-- Settles O18: a frame's direction, type and tick are premises, and the branch they pick is what is claimed. -/
theorem tickAndFrameRowsAct : Obligations.TickAndFrameRowsAct := by
  unfold Obligations.TickAndFrameRowsAct
  refine ⟨?_, ?_, ?_, ?_, ?_, ?_, ?_, ?_, ?_, ?_, ?_, ?_, ?_, ?_, ?_, ?_, ?_⟩
  · exact fun v h => Runs.of _ (fun _ => (rfl : execTickBoundary v h _ = _)) fun d hpower => by simp [hpower]
  · exact fun v h => Runs.of _ (fun _ => (rfl : execTickBoundary v h _ = _)) fun d ⟨hlive, hreq, hrestart⟩ => by
      have hup : d.power.phase = .up := by
        simp only [Dev.live, Bool.and_eq_true, beq_iff_eq] at hlive
        exact hlive.1
      simp [hup, hlive, Dev.stopping, hreq, hrestart]
  · exact fun u => Runs.of _ (fun _ => (rfl : execScrubRead u _ = _)) fun d ⟨hlive, htick, hscrubAt⟩ => by simp [Dev.scrubDue, hlive, htick, hscrubAt]
  · exact fun f w => Runs.of _ (fun _ => (rfl : execUpFrame 0 true w _ = _)) fun d ⟨hupA, hlive, hstoppeda, htick⟩ => by
      simp [Dev.dieFitted, hupA, hlive, hstoppeda, htick]
  · exact fun f w => Runs.of _ (fun _ => (rfl : execUpFrame 1 true w _ = _)) fun d ⟨hupB, hlive, hdieFitted, hstoppedb, htick⟩ => by
      simp [hupB, hlive, hdieFitted, hstoppedb, htick]
  · exact fun f w => Runs.of _ (fun _ => (rfl : execUpFrame 0 true w _ = _)) fun d ⟨hupA, hlive, hstoppeda, htick⟩ => by
      simp [Dev.dieFitted, hupA, hlive, hstoppeda, htick]
  · exact fun f w => Runs.of _ (fun _ => (rfl : execUpFrame 1 true w _ = _)) fun d ⟨hupB, hlive, hdieFitted, hstoppedb, htick⟩ => by
      simp [hupB, hlive, hdieFitted, hstoppedb, htick]
  · exact fun f w => Runs.of _ (fun _ => (rfl : execUpFrame 0 true w _ = _)) fun d ⟨hframe, hlive, hrunning, hother⟩ => by
      obtain ⟨n, hn⟩ := Nat.exists_eq_add_of_lt hother
      have hcheck : frameCheck (upFrameBytes f) w d.tick = n + 2 := by omega
      simp [hframe, hlive, hrunning, hcheck, Dev.dieFitted]
  · exact fun k => Runs.of _ (fun _ => (rfl : execBarrierDown k _ = _)) fun d ⟨hk, hlive, hdieFitted, hbarrierdown, hholdwin⟩ => by
      simp [hk, hlive, hdieFitted, hbarrierdown, hholdwin]
  · exact fun f w => Runs.of _ (fun _ => (rfl : execDownFrame 0 true w _ = _)) fun d ⟨hdownA, hdieLive, hdieA, hdieA'⟩ => by
      simp [Dev.fd, Dev.setFd, hdownA, hdieLive, hdieA, hdieA']
  · exact fun f w => Runs.of _ (fun _ => (rfl : execDownFrame 1 true w _ = _)) fun d ⟨hdownB, hdieLive, hdieB, hdieB'⟩ => by
      simp [Dev.fd, Dev.setFd, hdownB, hdieLive, hdieB, hdieB']
  · exact fun f w => Runs.of _ (fun _ => (rfl : execDownFrame 0 true w _ = _)) fun d ⟨hdownA, hdieLive, hdieA, happly⟩ => by
      simp [Dev.fd, Dev.setFd, hdownA, hdieLive, hdieA, happly]
  · exact fun f w => Runs.of _ (fun _ => (rfl : execDownFrame 0 true w _ = _)) fun d ⟨hdownA, hdieLive, hdieA⟩ => by
      simp [Dev.fd, Dev.setFd, hdownA, hdieLive, hdieA]
  · exact fun k sense => Runs.of _ (fun _ => (rfl : execFieldTickBoundary k sense _ = _)) fun d ⟨hk, hdieLive, hframe⟩ => by
      simp [hk, hdieLive, hframe]
  · exact fun k sense f => Runs.of _ (fun _ => (rfl : execFieldTickBoundary k sense _ = _)) fun d ⟨hk, hdieLive, hframe⟩ => by
      simp [hk, hdieLive, hframe] <;> rfl
  · exact fun f w => Runs.of _ (fun _ => (rfl : execUpFrame 0 false w _ = _)) fun d ⟨hupA, hlive, hstoppeda⟩ => by
      simp [Dev.dieFitted, hupA, hlive, hstoppeda]
  · exact fun f w => Runs.of _ (fun _ => (rfl : execDownFrame 1 false w _ = _)) fun d ⟨hdownB, hdieLive⟩ => by
      simp [Dev.fd, Dev.setFd, frameCheck, downFrameBytes, hdownB, hdieLive]

end

section
open Sys2Proof Sys2Proof.Machine

/-- Settles O19: the premises pick the branch of each row of a die's output state. -/
theorem fieldStateRowsAct : Obligations.FieldStateRowsAct := by
  unfold Obligations.FieldStateRowsAct
  refine ⟨?_, ?_, ?_, ?_, ?_, ?_⟩
  · exact fun k => Runs.of _ (fun _ => (rfl : execHoldWindowExpiry k _ = _)) fun d ⟨hk, hdieLive, hstate, hholdwin⟩ => by
      simp [hk, hdieLive, hstate, hholdwin]
  · exact fun k => Runs.of _ (fun _ => (rfl : execFreezeHoldLimit k _ = _)) fun d ⟨hk, hdieLive, hstate, hlimit⟩ => by
      simp [hk, hdieLive, hstate, hlimit]
  · exact fun k => Runs.of _ (fun _ => (rfl : execDownLinkSilent k _ = _)) fun d ⟨hk, hdieFitted⟩ => by simp [hk, hdieFitted]
  · exact fun k mv => Runs.of _ (fun _ => (rfl : execVf24Low k mv _ = _)) fun d ⟨hk, hdieFitted, hvf24Low⟩ => by simp [hk, hdieFitted, hvf24Low]
  · exact fun k mv => Runs.of _ (fun _ => (rfl : execVf24Recovered k mv _ = _)) fun d ⟨hk, hdieFitted, hvf24Low⟩ => by simp [hk, hdieFitted, hvf24Low]
  · exact fun k o => Runs.of _ (fun _ => (rfl : execFieldResumeTimeout k _ = _)) fun d ⟨hk, hdieLive, hdie, hsince⟩ => by
      simp [hk, hdieLive, hdie, hsince]

end

section
open Sys2Proof Sys2Proof.Machine

/-- Settles O20: the premises pick the branch of each row of an input, an output or a floating actuator. -/
theorem digitalRowsAct : Obligations.DigitalRowsAct := by
  unfold Obligations.DigitalRowsAct
  refine ⟨?_, ?_, ?_, ?_, ?_, ?_, ?_, ?_, ?_, ?_, ?_, ?_, ?_, ?_, ?_, ?_, ?_, ?_, ?_, ?_⟩
  · exact fun i mv ua => Runs.of _ (fun _ => (rfl : execDiPulseWindow i { mv := mv, ua := ua } _ = _)) fun d ⟨hi, hdieLive, hpulsed⟩ => by
      simp [hi, hdieLive, hpulsed]
  · exact fun i mv ua => Runs.of _ (fun _ => (rfl : execDiDebounceDone i { mv := mv, ua := ua } _ = _))
      fun d ⟨hi, hdieLive, hlevel, hpulsed, hwirebreak, hdiSample⟩ => by
        simp [hi, hdieLive, hlevel, hpulsed, hwirebreak, hdiSample]
  · exact fun i mv ua => Runs.of _ (fun _ => (rfl : execDiDebounceDone i { mv := mv, ua := ua } _ = _))
      fun d ⟨hi, hdieLive, hlevel, hpulsed, hlevel', hdiSample⟩ => by
        simp [hi, hdieLive, hlevel, hpulsed, hlevel', hdiSample]
  · exact fun i mv ua => Runs.of _ (fun _ => (rfl : execDiDebounceDone i { mv := mv, ua := ua } _ = _))
      fun d ⟨hi, hdieLive, hlevel, hpulsed, hdiPulsedRun, hwirebreak⟩ => by
        simp [hi, hdieLive, hlevel, hpulsed, hdiPulsedRun, hwirebreak]
  · exact fun o ma => Runs.of _ (fun _ => (rfl : execDoOverload o ma _ = _)) fun d ⟨ho, hdieLive, hon⟩ => by simp [ho, hdieLive, hon]
  · exact fun o ma => Runs.of _ (fun _ => (rfl : execDoThermalLimit o ma _ = _)) fun d ⟨ho, hdieLive, hon⟩ => by simp [ho, hdieLive, hon]
  · exact fun o => Runs.of _ (fun _ => (rfl : execDoRetry o _ = _)) fun d ⟨ho, hdieLive, hwaiting, hstate, hretryint⟩ => by
      simp [ho, hdieLive, hwaiting, hstate, hretryint]
  · exact fun o => Runs.of _ (fun _ => (rfl : execDoOnPeriodOk o _ = _)) fun d ⟨ho, hdieLive, hon, hstate, hsince⟩ => by
      simp [ho, hdieLive, hon, hstate, hsince]
  · exact fun o ma => Runs.of _ (fun _ => (rfl : execDoForcedHigh o ma _ = _)) fun d ⟨ho, hdieLive, hcmd, hstate⟩ => by
      simp [ho, hdieLive, hcmd, hstate]
  · exact fun o ma => Runs.of _ (fun _ => (rfl : execOpenLoadSet o ma _ = _)) fun d ⟨ho, hdieLive, hopendetect, hon, hstate⟩ => by
      simp [ho, hdieLive, hopendetect, hon, hstate]
  · exact fun o => Runs.of _ (fun _ => (rfl : execOpenLoadClear o _ = _)) fun d ⟨ho, hdieLive, hon, hstate⟩ => by simp [ho, hdieLive, hon, hstate]
  · exact fun k i => Runs.of _ (fun _ => (rfl : execDarkTest k _ = _)) fun d ⟨hk, hdieLive, hon, hrun, hidle, hfree, hdue, hfrom⟩ => by
      dsimp only at hfrom ⊢
      rw [if_pos (by simp [hk, hdieLive, hon, hrun, hidle, hfree, hdue]), hfrom]
  · exact fun k i fell => Runs.of _ (fun _ => (rfl : execDarkPulseEnd k fell _ = _)) fun d ⟨hdark, hdieLive, hpair, hpulse, hend, hfell⟩ => by
      dsimp only
      rw [hdark]
      dsimp only
      rw [if_neg (by simp [hdieLive, hpair, hpulse, hend]), if_pos hfell]
  · exact fun k i j fell => Runs.of _ (fun _ => (rfl : execDarkPulseEnd k fell _ = _)) fun d ⟨hdark, hdieLive, hpair, hpulse, hend, hheld, hnext⟩ => by
      dsimp only
      rw [hdark]
      dsimp only
      rw [if_neg (by simp [hdieLive, hpair, hpulse, hend]), if_neg (by simpa using hheld), hnext]
  · exact fun k i j => Runs.of _ (fun _ => (rfl : execDarkPairPulse k true _ = _)) fun d ⟨hdark, hdarkPair, hdieLive, hdarkPulse, hdarkAt⟩ => by
      simp [Nat.not_lt.2 hdarkAt, hdark, hdarkPair, hdieLive, hdarkPulse]
  · exact fun k i j j2 => Runs.of _ (fun _ => (rfl : execDarkPairPulse k false _ = _))
      fun d ⟨hdark, hdarkPair, hdieLive, hdarkPulse, hdarkAt, hpairFrom⟩ => by
        simp [Nat.not_lt.2 hdarkAt, hdark, hdarkPair, hdieLive, hdarkPulse, hpairFrom]
  · exact fun f => Runs.of _ (fun _ => (rfl : execFloatDriveEnd f _ = _)) fun d ⟨hf, hdrive, hfloatDone⟩ => by
      simp [Dev.floatHalt, hf, hdrive, hfloatDone]
  · exact fun f => Runs.of _ (fun _ => (rfl : execFloatDeadTimeEnd f _ = _)) fun d ⟨hf, hdrive, hsafe⟩ => by simp [hf, hdrive, hsafe]
  · exact fun f => Runs.of _ (fun _ => (rfl : execFloatDeadTimeEnd f _ = _)) fun d ⟨hf, hdrive, hsafe⟩ => by simp [hf, hdrive, hsafe]
  · exact fun f => Runs.of _ (fun _ => (rfl : execFloatBothHigh f _ = _)) fun d ⟨hf, hdieLive, henable, hfault⟩ => by
      simp [hf, hdieLive, henable, hfault]

end

section
/-! SUPPORT. A read of a serial port whose TRAILER field holds neither 0 nor 1 (R192). -/

namespace Sys2Proof.Machine
open Sys2Proof

/-- The running device with port 0 of mode SER in a read and 100 in the place of POS_SER.TRAILER, which `disSet` reads as not set. -/
def longTrailerDev : Dev :=
  let d := runningDev.dput Reg.POS_CFG.MODE 0 posSER
  Dev.setPos { d with die := Map.set d.die (Reg.POS_SER.TRAILER.key 0) 100 0 } 0 { PosSt.init with readAt := some 0 }

end Sys2Proof.Machine
end

section
open Sys2Proof Sys2Proof.Machine

/-- Refutes O21: with 100 in the place of TRAILER the premise of a read without a trailer holds, and the read waits for 800 bits more. -/
theorem not_positionRowsAct : ¬ Obligations.PositionRowsAct := by
  unfold Obligations.PositionRowsAct
  rintro ⟨-, -, -, -, -, hread, -⟩
  have hend := Runs.op_eq (hread 0 false (List.replicate 60 true) 2 0) _ (fun _ => (rfl : execSerialReadEnd 0 false (List.replicate 60 true) _ = _))
    (s := { dev := longTrailerDev, pending := [] }) (by decide +kernel)
  have hwaits := congrArg (fun d => (d.posAt 0).readAt) hend
  exact absurd hwaits (by decide +kernel)

end

section
open Sys2Proof Sys2Proof.Machine

/-- Settles O22: the premises pick the branch of each row of a converter or a capture. -/
theorem converterRowsAct : Obligations.ConverterRowsAct := by
  unfold Obligations.ConverterRowsAct
  refine ⟨?_, ?_, ?_, ?_, ?_, ?_, ?_, ?_, ?_, ?_, ?_, ?_, ?_, ?_, ?_⟩
  · exact fun c => Runs.of _ (fun _ => (rfl : execPassStart c _ = _)) fun d ⟨hhere, hdieLive, heven, hrun, hcal, hidle, hdue, hbegin⟩ => by
      dsimp only at hbegin ⊢
      rw [if_neg (by simp [hhere, hdieLive, heven, hrun]), if_neg (by simp [hidle]), if_neg (by simp [hcal, hdue]), if_pos hdue]
      split
      · next heq => rw [heq]
      · next heq =>
        rw [heq] at hbegin
        cases hbegin
  · exact fun c => Runs.of _ (fun _ => (rfl : execPassStart c _ = _))
      fun d ⟨hconvHere, hdieLive, hoddOfPair, hrun, hpassing, hpassint, hpassDue⟩ => by
        simp [hconvHere, hdieLive, hoddOfPair, hrun, hpassing, hpassint, hpassDue]
  · exact fun c code input v => Runs.of _ (fun _ => (rfl : execConverterOutput c code input _ = _)) fun d
        ⟨hhere, hdieLive, hpassing, hcal, hburst, heven, hurgent, hvisit, hon, hwindow, hkept, hremain⟩ => by
      have hconverts : d.converts c = true := by simp [Dev.converts, hhere, hdieLive, hpassing, hcal, hburst, heven, hurgent]
      dsimp only
      rw [if_neg (by simp [hconverts]), hvisit]
      dsimp only
      rw [if_neg (by simp [hon])]
      simp only [hwindow, hkept, hremain, Bool.not_false, Bool.and_false, Bool.false_eq_true, if_false, Nat.lt_irrefl, Nat.zero_sub]
  · exact fun c code input v => Runs.of _ (fun _ => (rfl : execConverterOutput c code input _ = _))
      fun d ⟨hconvHere, hdieLive, hpassing, hcalibrating, hburst, hoddOfPair, hurgent, hvisit, hch⟩ => by
        simp [Dev.converts, hconvHere, hdieLive, hpassing, hcalibrating, hburst, hoddOfPair, hurgent, hvisit, hch]
  · exact fun c u t => Runs.of _ (fun _ => (rfl : execUrgentHead c _ = _))
      fun d ⟨hconvHere, hdieLive, hurgent, hcalibrating, hcalNext, hburst, hqueue⟩ => by
        simp [Nat.not_lt.2 hburst, hconvHere, hdieLive, hurgent, hcalibrating, hcalNext, hqueue]
  · exact fun c code input u id => Runs.of _ (fun _ => (rfl : execUrgentValidOutput c code input _ = _))
      fun d ⟨hurgent, horigin, hconvHere, hdieLive, hch, hconvBounds⟩ => by
        simp [hurgent, horigin, hconvHere, hdieLive, hch, hconvBounds]
  · exact Runs.of _ (fun _ => (rfl : execCalDue _ = _)) fun d ⟨hlive, hrecalint, hrecalint'⟩ => by simp [hlive, hrecalint, hrecalint']
  · exact fun c ofs gain st => Runs.of _ (fun _ => (rfl : execCalCommit c ofs gain st _ = _))
      fun d ⟨hconvHere, hdieLive, hcalibrating, hcalSince, hgain⟩ => by
        simp [Nat.not_lt.2 hcalSince, hconvHere, hdieLive, hcalibrating, hgain]
  · exact fun g t bursts o => Runs.of _ (fun _ => (rfl : execCaptureTrigger g { cycle := t, codes := bursts } _ = _))
      fun d ⟨hgroup, hcapDue, hdieLive⟩ => by
        simp [hgroup, hcapDue, hdieLive]
  · exact fun g o => Runs.of _ (fun _ => (rfl : execCaptureDone g _ = _)) fun d ⟨hstreamB, hcapOnWay⟩ => by simp [Dev.dropCap, hstreamB, hcapOnWay]
  · exact fun g o => Runs.of _ (fun _ => (rfl : execCaptureShotTimeout g _ = _)) fun d harmed => by simp [Dev.dropCap, harmed]
  · exact fun n w => Runs.of _ (fun _ => (rfl : execSlotStale n _ = _)) fun d ⟨hn, hdieLive, hstaleticks, hstaleticks', hmeasWord, hchannel⟩ => by
      simp [Nat.not_lt.2 hstaleticks', hn, hdieLive, hstaleticks, hmeasWord, hchannel]
  · exact fun u => Runs.of _ (fun _ => (rfl : execMa20Disconnect u _ = _)) fun d ⟨hu, hdieLive, huiMode, hdisconnected⟩ => by
      simp [hu, hdieLive, huiMode, hdisconnected]
  · exact fun u => Runs.of _ (fun _ => (rfl : execMa20Reconnect u _ = _)) fun d ⟨hdisconnected, hmeas⟩ => by simp [hdisconnected, hmeas]
  · exact fun code src => Runs.of _ (fun _ => (rfl : execEventIntervalEnd code src _ = _)) fun d hlive => by simp [hlive]

end

section
open Sys2Proof Sys2Proof.Machine

/-- Settles O23: the premises pick the branch of each row of the pattern engine. -/
theorem patternRowsAct : Obligations.PatternRowsAct := by
  unfold Obligations.PatternRowsAct
  refine ⟨?_, ?_, ?_, ?_, ?_, ?_⟩
  · exact Runs.of _ (fun _ => (rfl : execPatStepStart _ = _)) fun d ⟨hlive, hnvm, hmodelValid, htick, hpat, hdip, hpower, hpat', hpat''⟩ => by
      simp [hlive, hnvm, hmodelValid, htick, hpat, hdip, hpower, hpat', hpat'']
  · exact fun p => Runs.of _ (fun _ => (rfl : execPatPublish _ = _)) fun d ⟨hpat, hlive, hdue⟩ => by simp [Nat.not_lt.2 hdue, hpat, hlive]
  · exact fun st due m d1 x d2 => Runs.of _ (fun _ => (rfl : execRoutinePredictionEnd _ = _)) fun d ⟨hpat, hlive, hdue, hpat', hreadState⟩ => by
      simp [Nat.not_lt.2 hdue, hpat, hlive, hpat', hreadState]
  · exact fun m d1 => Runs.of _ (fun _ => (rfl : execPatUrgentIssue _ = _)) fun d ⟨hcontrol, hvalid, hrun, hstart, hnew, htables⟩ => by
      dsimp only at htables ⊢
      rw [if_neg (by simp [hcontrol, hvalid, hrun, hstart, hnew]), htables] <;> rfl
  · exact fun p rest done r => Runs.of _ (fun _ => (rfl : execHostPredictionStep _ = _))
      fun d ⟨hpat, hpat', hcontrolling, hpat'', hpat''', hpat'''', htablefault, hid⟩ => by
        simp [hpat, hpat', hcontrolling, hpat'', hpat''', hpat'''', htablefault, hid]
  · exact Runs.of _ (fun _ => (rfl : execMultiplierSave _ = _)) fun d ⟨hcontrolling, hmodelValid, hmultDue⟩ => by
      simp [hcontrolling, hmodelValid, hmultDue]

end

section
open Sys2Proof Sys2Proof.Machine

/-- Settles O24: the premises pick the branch of each row of the loop engine and the schedules. -/
theorem loopAndScheduleRowsAct : Obligations.LoopAndScheduleRowsAct := by
  unfold Obligations.LoopAndScheduleRowsAct
  refine ⟨?_, ?_, ?_, ?_, ?_, ?_, ?_⟩
  · exact fun l => Runs.of _ (fun _ => (rfl : execLoopCompute l _ = _)) fun d ⟨hl, hrun, hturns, hactive, hnew, hperiod, hphase, hdue⟩ => by
      simp [Nat.not_le.2 hl, hrun, hturns, hactive, hnew, Nat.ne_of_gt hperiod, Nat.not_lt.2 hphase, hdue]
  · exact fun l c e => Runs.of _ (fun _ => (rfl : execLoopUrgentIssue l _ = _)) fun d
        ⟨hl, hrun, hturns, hactive, hnew, hurgent, hperiod, hphase, hdue, hentry⟩ => by
      have hfb : d.entryFor (lpFb (d.loopBlock l) % 1048576) = some (c, e) := hentry
      simp [Nat.not_le.2 hl, hrun, hturns, hactive, hnew, hurgent, Nat.ne_of_gt hperiod, Nat.not_lt.2 hphase, hdue, hfb]
  · exact fun l o => Runs.of _ (fun _ => (rfl : execLoopSetSwitch l _ = _)) fun d ⟨hlive, hstage, hcheckedAt⟩ => by
      simp [Nat.not_le.2 hcheckedAt, hlive, hstage]
  · exact fun l r => Runs.of _ (fun _ => (rfl : execLoopRemoveEffect l _ = _)) fun d ⟨hlive, h2, h2'⟩ => by simp [Nat.not_le.2 h2', hlive, h2]
  · exact Runs.of _ (fun _ => (rfl : execSchedEvaluation _ = _)) fun d ⟨hcontrolling, htick, hsched⟩ => by simp [hcontrolling, htick, hsched]
  · exact fun z => Runs.of _ (fun _ => (rfl : execOverrideExpiry z _ = _)) fun d ⟨hlive, hz⟩ => by simp [hlive, hz]
  · exact fun z => Runs.of _ (fun _ => (rfl : execPresenceHoldoffExpiry z _ = _)) fun d ⟨hcontrolling, hz⟩ => by simp [hcontrolling, hz]

end

section
open Sys2Proof Sys2Proof.Machine

/-- Settles O25: the state and the times of the channel or the bank are premises, and they pick the branch of its row. -/
theorem shuttleRowsAct : Obligations.ShuttleRowsAct := by
  unfold Obligations.ShuttleRowsAct
  refine ⟨?_, ?_, ?_, ?_, ?_, ?_, ?_, ?_, ?_, ?_, ?_, ?_, ?_, ?_, ?_, ?_, ?_, ?_, ?_, ?_⟩
  · exact fun c t sense id r => Runs.of _ (fun _ => (rfl : execOneShotDurExpiry c t sense _ = _))
      fun d ⟨horigin, hrec, h0, hsolHere, hinShot, hd⟩ => by
        simp [horigin, hrec, h0, hsolHere, hinShot, hd]
  · exact fun b t => Runs.of _ (fun _ => (rfl : execChopPeriodStart { bank := b, cycle := t } _ = _))
      fun d ⟨hb, hdieLive, hfault, hbankState, hperiod⟩ => by
        simp [hb, hdieLive, hfault, hbankState, hperiod]
  · exact fun c t sense => Runs.of _ (fun _ => (rfl : execTargetReached c t sense _ = _)) fun d ⟨hsolHere, hisOn, htarget, hwait⟩ => by
      simp [Nat.not_lt.2 htarget, hsolHere, hisOn, hwait]
  · exact fun c t sense => Runs.of _ (fun _ => (rfl : execTargetReached c t sense _ = _))
      fun d ⟨hsolHere, hisOn, htarget, hwait, hpath, hperiodAt⟩ => by
        simp [Nat.not_lt.2 htarget, hsolHere, hisOn, hwait, hpath, hperiodAt]
  · exact fun k t c => Runs.of _ (fun _ => (rfl : execPeakGrant k t _ = _)) fun d ⟨hdieLive, hsolFirst⟩ => by simp [hdieLive, hsolFirst]
  · exact fun c t sense => Runs.of _ (fun _ => (rfl : execPeakWaitExpiry c t sense _ = _)) fun d ⟨hsolHere, hwait, hpeakWait, henergised⟩ => by
      simp [hsolHere, hwait, hpeakWait, henergised]
  · exact fun c t sense => Runs.of _ (fun _ => (rfl : execPeakWaitExpiry c t sense _ = _)) fun d ⟨hsolHere, hwait, hpeakWait, henergised⟩ => by
      simp [hsolHere, hwait, hpeakWait, henergised]
  · exact fun c => Runs.of _ (fun _ => (rfl : execSkipRetry c _ = _)) fun d ⟨hsolHere, hskipRetry, hstate, hlevel, hsolMayStart, hskipOn⟩ => by
      simp [hsolHere, hskipRetry, hstate, hlevel, hsolMayStart, hskipOn]
  · exact fun c t sense => Runs.of _ (fun _ => (rfl : execWaitPeakTimeout c t sense _ = _)) fun d ⟨hsolHere, hwait, hsolTime⟩ => by
      simp [hsolHere, hwait, hsolTime]
  · exact fun c t sense => Runs.of _ (fun _ => (rfl : execShuttleWaitEnd c t sense _ = _)) fun d ⟨hsolHere, hwait, hsolTime⟩ => by
      simp [hsolHere, hwait, hsolTime]
  · exact fun c t sense => Runs.of _ (fun _ => (rfl : execSyncReached c t sense _ = _)) fun d ⟨hsolHere, hwait, hsince, hsince'⟩ => by
      simp [hsolHere, hwait, hsince, hsince']
  · exact fun c t sense => Runs.of _ (fun _ => (rfl : execDecayDone c t sense _ = _)) fun d ⟨hsolHere, hwait, hcurrent⟩ => by
      simp [hsolHere, hwait, hcurrent]
  · exact fun c => Runs.of _ (fun _ => (rfl : execEndingDone c _ = _)) fun d ⟨hsolHere, hstate⟩ => by simp [hsolHere, hstate]
  · exact fun c => Runs.of _ (fun _ => (rfl : execSolOvercurrent c _ = _)) fun d ⟨hsolHere, hstate⟩ => by simp [hsolHere, hstate]
  · exact fun c => Runs.of _ (fun _ => (rfl : execClampOverheat c _ = _)) fun d ⟨hsolHere, hstate⟩ => by simp [hsolHere, hstate]
  · exact fun c => Runs.of _ (fun _ => (rfl : execPeakMaxExpiry c _ = _)) fun d ⟨hsolHere, hstate, hpeakMax⟩ => by simp [hsolHere, hstate, hpeakMax]
  · exact fun b ma => Runs.of _ (fun _ => (rfl : execBankHsOvercurrent b ma _ = _)) fun d ⟨hb, hdieLive, hfault⟩ => by simp [hb, hdieLive, hfault]
  · exact fun b ma => Runs.of _ (fun _ => (rfl : execBankHsOvertemp b ma _ = _)) fun d ⟨hb, hdieLive, hfault⟩ => by simp [hb, hdieLive, hfault]
  · exact fun b o => Runs.of _ (fun _ => (rfl : execShuttleSwitch b _ = _)) fun d ⟨hloadOf, hstage, h256⟩ => by
      simp [Nat.not_lt.2 h256, hloadOf, hstage]
  · exact fun b o => Runs.of _ (fun _ => (rfl : execShuttleLoadTimeout b _ = _)) fun d ⟨hloadOf, hstage, hsince⟩ => by simp [hloadOf, hstage, hsince]

end

section
open Sys2Proof Sys2Proof.Machine

/-- Settles O26: the premises pick the branch of each row of a fan or an analogue output. -/
theorem fanAndOutputRowsAct : Obligations.FanAndOutputRowsAct := by
  unfold Obligations.FanAndOutputRowsAct
  refine ⟨?_, ?_, ?_, ?_, ?_, ?_, ?_, ?_, ?_⟩
  · exact fun f => Runs.of _ (fun _ => (rfl : execKickTimeout f _ = _)) fun d ⟨hfanHere, hstate, h0, hkicktime, hkicks, htach⟩ => by
      simp [Dev.fanTo, Nat.not_le.2 hkicks, hfanHere, hstate, h0, hkicktime, htach]
  · exact fun f => Runs.of _ (fun _ => (rfl : execKickTimeout f _ = _)) fun d ⟨hfanHere, hstate, h0, hkicktime, hkicks, htach⟩ => by
      simp [Nat.not_le.2 hkicks, hfanHere, hstate, h0, hkicktime, htach]
  · exact fun f => Runs.of _ (fun _ => (rfl : execBackoffExpiry f _ = _)) fun d ⟨hfanHere, hstate, h0, hretries⟩ => by
      simp [hfanHere, hstate, h0, hretries]
  · exact fun f t => Runs.of _ (fun _ => (rfl : execTachEdge f t _ = _)) fun d ⟨hfanHere, htach⟩ => by simp [hfanHere, htach]
  · exact fun f ma => Runs.of _ (fun _ => (rfl : execTachLost f ma _ = _)) fun d ⟨hfanHere, htach, hclock, hstate, hfanSupplyTells⟩ => by
      simp [hfanHere, htach, hclock, hstate, hfanSupplyTells]
  · exact fun f ma => Runs.of _ (fun _ => (rfl : execTachLost f ma _ = _)) fun d ⟨hfanHere, htach, hclock, hstate, hfanSupplyTells, hma⟩ => by
      simp [hfanHere, htach, hclock, hstate, hfanSupplyTells, hma]
  · exact fun f => Runs.of _ (fun _ => (rfl : execFanRun60s f _ = _)) fun d ⟨hfanHere, hstate, hfanFor⟩ => by simp [hfanHere, hstate, hfanFor]
  · exact fun a mv => Runs.of _ (fun _ => (rfl : execAoOverload a mv _ = _)) fun d ⟨haoHere, hoverload, h200⟩ => by simp [haoHere, hoverload, h200]
  · exact fun a mv => Runs.of _ (fun _ => (rfl : execAoOverloadClear a mv _ = _)) fun d ⟨haoHere, hoverload, hmv⟩ => by simp [haoHere, hoverload, hmv]

end

section
/-! SUPPORT. What a port does with a stitch's word (R407, R410, R444). -/

namespace Sys2Proof.Machine
open Sys2Proof

/-- A stitch that its port takes, no part of it waiting for a resend; a corrected one counts. -/
theorem Dev.receive_of_taken {d : Dev} {p kind wrong n : Nat} {w : Word} {corrected : Bool} (hdecoded : decodeData w wrong = some (n, corrected))
    (hkind : (stitchOf n).kind = kind) (hlive : d.live = true) (hup : d.portUp p = true) (hnak : (d.port p).nak = false) (first : Bool) :
    d.receive p kind w wrong first = (if corrected then d.bump Reg.PORT_ERR.CORRECTED p 0xFFFF else d).takeStitch p (stitchOf n) := by
  simp [Dev.receive, hdecoded, hkind, hlive, hup, hnak]

/-- The first stitch of a resend ends the wait for it. -/
theorem Dev.receive_of_resent {d : Dev} {p kind wrong n : Nat} {w : Word} (hdecoded : decodeData w wrong = some (n, false))
    (hkind : (stitchOf n).kind = kind) (hlive : d.live = true) (hup : d.portUp p = true) (hnak : (d.port p).nak = true) :
    d.receive p kind w wrong true = (d.setPort p { d.port p with nak := false }).recovered.takeStitch p (stitchOf n) := by
  simp [Dev.receive, hdecoded, hkind, hlive, hup, hnak]

/-- While a resend is waited for, no other stitch is taken. -/
theorem Dev.receive_of_waiting {d : Dev} {p : Nat} (hnak : (d.port p).nak = true) (kind wrong : Nat) (w : Word) :
    d.receive p kind w wrong false = d := by
  cases hdecoded : decodeData w wrong with
  | none => simp [Dev.receive, hdecoded]
  | some taken => simp [Dev.receive, hdecoded, hnak]

/-- A word that does not decode is no stitch. -/
theorem Dev.receive_of_undecoded {w : Word} {wrong : Nat} (hdecoded : decodeData w wrong = none) (d : Dev) (p kind : Nat) (first : Bool) :
    d.receive p kind w wrong first = d := by
  simp [Dev.receive, hdecoded]

end Sys2Proof.Machine
end

section
open Sys2Proof Sys2Proof.Machine

/-- Settles O27: the command of each kind of stitch is `receive` of that kind. -/
theorem stitchesAreAccepted : Obligations.StitchesAreAccepted := by
  unfold Obligations.StitchesAreAccepted
  intro kind c hmem
  have hexec : ∀ p w x first s, exec (c p w x first) s = s.onDev fun d => d.receive p kind w x first := by
    simp only [List.mem_cons, Prod.mk.injEq, List.not_mem_nil, or_false] at hmem
    rcases hmem with h | h | h | h | h | h | h | h | h | h | h | h | h <;> obtain ⟨rfl, rfl⟩ := h <;> exact fun _ _ _ _ _ => rfl
  refine ⟨?_, ?_, ?_, ?_, ?_⟩
  · exact fun p w x n first hdecoded hkind => Runs.of _ (hexec p w x first) fun d ⟨hlive, hup, hnak⟩ =>
      Dev.receive_of_taken hdecoded hkind hlive hup hnak first
  · exact fun p w x n first hdecoded hkind => Runs.of _ (hexec p w x first) fun d ⟨hlive, hup, hnak⟩ =>
      Dev.receive_of_taken hdecoded hkind hlive hup hnak first
  · exact fun p w x n hdecoded hkind => Runs.of _ (hexec p w x true) fun d ⟨hlive, hup, hnak⟩ =>
      Dev.receive_of_resent hdecoded hkind hlive hup hnak
  · exact fun p w x => Runs.of _ (hexec p w x false) fun d hnak => Dev.receive_of_waiting hnak kind x w
  · exact fun p w x first hdecoded => Runs.of _ (hexec p w x first) fun d _ => Dev.receive_of_undecoded hdecoded d p kind first

end

section
/-! SUPPORT. A control word flooded to the ports changes what the device sends alone (R86). -/

namespace Sys2Proof.Machine
open Sys2Proof

/-- A flood only emits control words. -/
theorem Dev.flood_eq (d : Dev) (k payload : Nat) (but : Option Nat) : ∃ o, d.flood k payload but = { d with out := o } := by
  have hfold : ∀ (l : List Nat) (e : Dev), (∃ o, e = { d with out := o }) →
      ∃ o, l.foldl (fun (y : Dev) p => if y.portUp p && but != some p then y.emit (.control p k payload) else y) e = { d with out := o } := by
    intro l
    induction l with
    | nil => exact fun e he => he
    | cons p l ih =>
      rintro e ⟨o, rfl⟩
      refine ih _ ?_
      dsimp only
      split
      · exact ⟨_, rfl⟩
      · exact ⟨o, rfl⟩
  exact hfold _ d ⟨d.out, rfl⟩

@[simp] theorem Dev.flood_get (d : Dev) (k payload : Nat) (but : Option Nat) (f : Fld) (i : Nat) : (d.flood k payload but).get f i = d.get f i := by
  obtain ⟨o, ho⟩ := d.flood_eq k payload but
  rw [ho]
  rfl

@[simp] theorem Dev.flood_isSet (d : Dev) (k payload : Nat) (but : Option Nat) (f : Fld) (i : Nat) :
    (d.flood k payload but).isSet f i = d.isSet f i := by
  unfold Dev.isSet
  rw [Dev.flood_get]

@[simp] theorem Dev.flood_tick (d : Dev) (k payload : Nat) (but : Option Nat) : (d.flood k payload but).tick = d.tick := by
  obtain ⟨o, ho⟩ := d.flood_eq k payload but
  rw [ho]

theorem Dev.floodQuilt_eq (d : Dev) (k payload : Nat) (but : Option Nat) : ∃ o, d.floodQuilt k payload but = { d with out := o } := by
  unfold Dev.floodQuilt
  split
  · exact d.flood_eq k payload but
  · exact ⟨d.out, rfl⟩

@[simp] theorem Dev.floodQuilt_frzEn (d : Dev) (k payload : Nat) (but : Option Nat) : (d.floodQuilt k payload but).frzEn = d.frzEn := by
  obtain ⟨o, ho⟩ := d.floodQuilt_eq k payload but
  rw [ho]
  rfl

@[simp] theorem Dev.floodQuilt_tick (d : Dev) (k payload : Nat) (but : Option Nat) : (d.floodQuilt k payload but).tick = d.tick := by
  obtain ⟨o, ho⟩ := d.floodQuilt_eq k payload but
  rw [ho]

/-- An event raised changes no register field but the count of lost events. -/
theorem Dev.raise_get {d : Dev} (hr : Map.rising d.regs = true) {f : Fld} {i : Nat} (hne : Reg.HOSTQ_LOST.EVENTS.key 0 ≠ f.key i)
    (code src : Nat) (detail : List Nat) : (d.raise code src detail).get f i = d.get f i := by
  rcases Nat.lt_or_ge d.events.length 256 with hroom | hfull
  · rw [Dev.raise_of_room hroom]
    rfl
  · rw [Dev.raise_of_full hfull]
    exact Dev.get_put_of_key_ne hr hne _

theorem Dev.raise_portState {d : Dev} (hr : Map.rising d.regs = true) {p : Nat} (hp : p < 8) (code src : Nat) (detail : List Nat) :
    (d.raise code src detail).portState p = d.portState p := by
  have hapart : ∀ q, q < 8 → Reg.HOSTQ_LOST.EVENTS.key 0 ≠ Reg.PORT_STAT.STATE.key q := by decide
  exact Dev.raise_get hr (hapart p hp) code src detail

end Sys2Proof.Machine
end

section
open Sys2Proof Sys2Proof.Machine

/-- Settles O28: a control word that is good and is not a copy acts by its kind; those that pass on flood the other ports, by the lemmas before it. -/
theorem controlWordsAct : Obligations.ControlWordsAct := by
  unfold Obligations.ControlWordsAct
  refine ⟨?_, ?_, ?_, ?_, ?_, ?_, ?_, ?_, ?_, ?_, ?_, ?_, ?_, ?_, ?_⟩
  · exact fun p count ns => Runs.of _ (fun _ => (rfl : execAck p count false ns _ = _)) fun d ⟨hlive, hportUp, hacked⟩ => by
      simp [Nat.not_lt.2 hacked, hlive, hportUp]
  · exact fun p count ns => Runs.of _ (fun _ => (rfl : execAck p count true ns _ = _)) fun d ⟨hlive, hportUp, hacked⟩ => by
      simp [Nat.not_lt.2 hacked, hlive, hportUp]
  · exact fun p dev port => Runs.of _ (fun _ => (rfl : execIdle p dev port true _ = _)) fun d ⟨hlive, hp, hportState⟩ => by
      simp [hlive, hp, hportState]
  · exact fun p cls n => Runs.of _ (fun _ => (rfl : execCredit p cls n _ = _)) fun d ⟨hlive, hp, hcls, hstate⟩ =>
      if_neg (by rcases hstate with h | h <;> simp [hlive, hp, hcls, h])
  · exact fun p low ns => Runs.of _ (fun _ => (rfl : execTime p low ns _ = _)) fun d ⟨hlive, hup, hnew, hmaster⟩ => by
      have hin : ¬ ((!(d.live && d.portUp p) || decide (d.quilt.marked = some (low % 2 ^ 24))) = true) := by
        rw [hlive, hup, decide_eq_false hnew]
        decide
      dsimp only
      rw [if_neg hin, if_pos]
      rw [Dev.flood_isSet]
      exact Bool.or_eq_true_iff.2 (.inl hmaster)
  · exact fun p low ns => Runs.of _ (fun _ => (rfl : execTime p low ns _ = _)) fun d ⟨hlive, hup, hnew, hslave, hvalid⟩ => by
      have hin : ¬ ((!(d.live && d.portUp p) || decide (d.quilt.marked = some (low % 2 ^ 24))) = true) := by
        rw [hlive, hup, decide_eq_false hnew]
        decide
      have hfollows : ¬ ((d.isSet Reg.QUILT_TIME_STAT.IS_MASTER 0 || !d.isSet Reg.QUILT_TIME_STAT.MASTER_VALID 0) = true) := by
        rw [hslave, hvalid]
        decide
      dsimp only
      rw [if_neg hin, if_neg]
      · rw [Dev.flood_tick, Dev.flood_get]
        rfl
      · rw [Dev.flood_isSet, Dev.flood_isSet]
        exact hfollows
  · exact fun p n rx tx => Runs.of _ (fun _ => (rfl : execDelay p n false rx tx _ = _)) fun d ⟨hlive, hup⟩ => by
      simp only [hlive, hup, Bool.and_self, Bool.not_true, Bool.false_eq_true, if_false]
  · exact fun p n rx tx => Runs.of _ (fun _ => (rfl : execDelay p n true rx tx _ = _)) fun d ⟨hlive, hup, hexchange⟩ => by
      dsimp only
      rw [if_neg (by simp [hlive, hup]), if_pos rfl, if_pos hexchange]
  · exact fun p f => Runs.of _ (fun _ => (rfl : execFreeze p f _ = _)) fun d ⟨hlive, hp, hup, hinTime, hnew, hen, hnone⟩ => by
      have hold : ¬ f + 8388608 < d.tick := by omega
      have hen' : ((d.floodQuilt kFREEZE f (some p)).setFrz { d.frz with lastF := some f }).frzEn = true := (d.floodQuilt_frzEn ..).trans hen
      dsimp only at hen' ⊢
      rw [if_neg (by simp [hlive, hp, hup, hold, hnew]), if_neg (by rw [hen']; decide)]
      simp [Dev.setFrz, Nat.not_le.2 hinTime, hnone]
  · exact fun p f r => Runs.of _ (fun _ => (rfl : execFreeze p f _ = _)) fun d ⟨hlive, hp, hup, hinTime, hnew, hen, hasked, hearlier⟩ => by
      have hold : ¬ f + 8388608 < d.tick := by omega
      have hen' : ((d.floodQuilt kFREEZE f (some p)).setFrz { d.frz with lastF := some f }).frzEn = true := (d.floodQuilt_frzEn ..).trans hen
      dsimp only at hen' ⊢
      rw [if_neg (by simp [hlive, hp, hup, hold, hnew]), if_neg (by rw [hen']; decide)]
      simp [Dev.setFrz, Nat.not_le.2 hinTime, hasked, hearlier]
  · exact fun p f r => Runs.of _ (fun _ => (rfl : execThaw p f _ = _)) fun d ⟨hup, hp, hport, hnew, hcur, hquilt, hf⟩ => by
      dsimp only
      rw [if_neg (by simp [hup, hp, hport, hnew])]
      simp [Dev.setFrz, hcur, hquilt, hf]
  · exact fun p cls credits count => Runs.of _ (fun _ => (rfl : execAudit p cls credits count _ = _)) fun d ⟨hlive, hp, hcls, hup, hsum⟩ => by
      dsimp only
      rw [if_neg (by simp [hlive, hp, hcls, hup]), beq_false_of_ne hsum, if_pos (by decide), if_neg (by decide)]
  · exact fun p cls credits count => Runs.of _ (fun _ => (rfl : execAudit p cls credits count _ = _)) fun d ⟨hr, hlive, hp, hcls, hup, hasked, hsum⟩ => by
      have hstate : ∀ code src detail, (d.raise code src detail).portState p ≠ pAUDIT := fun code src detail => by
        rw [Dev.raise_portState hr hp, hup]
        decide
      dsimp only
      rw [if_neg (by simp [hlive, hp, hcls, hup]), hsum, if_neg (by decide), if_neg (hstate _ _ _), if_neg (by simp [hasked])]
      rfl
  · exact fun p cause => Runs.of _ (fun _ => (rfl : execDown p cause _ = _)) fun d ⟨hlive, hportUp⟩ => by simp [hlive, hportUp]
  · exact fun p dev port numbered used cands => Runs.of _ (fun _ => (rfl : execTrain p dev port numbered false used cands _ = _)) fun d
        ⟨hlive, hp, hstate, hidle, haligned, hother⟩ => by
      have hdup : (numbered && (d.quiltTrain cands).isSet Reg.GLOBAL_DEVNUM.DEVNUM_SET 0 && dev == (d.quiltTrain cands).devNum && !false) = false := by
        rcases hother with h | h | h <;> simp [h]
      dsimp only
      rw [if_neg (by simp [hlive, hp, hstate, hidle, haligned]), hdup]
      rfl

end

section
open Sys2Proof Sys2Proof.Machine

/-- Settles O29: the state of the port is the premise, and it picks the branch of its row. -/
theorem seamRowsAct : Obligations.SeamRowsAct := by
  unfold Obligations.SeamRowsAct
  refine ⟨?_, ?_, ?_, ?_, ?_, ?_, ?_, ?_, ?_, ?_⟩
  · exact fun p => Runs.of _ (fun _ => (rfl : execLinkSilence p _ = _)) fun d ⟨hlive, hportUp⟩ => by simp [hlive, hportUp]
  · exact fun p high => Runs.of _ (fun _ => (rfl : execSeamLos p high _ = _)) fun d ⟨hlive, hp⟩ => by simp [hlive, hp]
  · exact fun p => Runs.of _ (fun _ => (rfl : execReceiverAligned p _ = _)) fun d ⟨hlive, hp, hportState, hidle⟩ => by
      simp [hlive, hp, hportState, hidle]
  · exact fun p => Runs.of _ (fun _ => (rfl : execTrainingTimeout p _ = _)) fun d ⟨hlive, hp, hportState, hidle, hsince⟩ => by
      simp [hlive, hp, hportState, hidle, hsince]
  · exact fun p => Runs.of _ (fun _ => (rfl : execTrainingIdleEnd p _ = _)) fun d ⟨hlive, hp, hportState, hidle, hsince⟩ => by
      simp [hlive, hp, hportState, hidle, hsince]
  · exact fun p => Runs.of _ (fun _ => (rfl : execDownSendEnd p _ = _)) fun d ⟨hlive, hp, hportState, hsince, hlosHeld⟩ => by
      simp [hlive, hp, hportState, hsince, hlosHeld]
  · exact fun p => Runs.of _ (fun _ => (rfl : execDownSendEnd p _ = _)) fun d ⟨hlive, hp, hportState, hsince, hlosHeld⟩ => by
      simp [hlive, hp, hportState, hsince, hlosHeld]
  · exact fun p => Runs.of _ (fun _ => (rfl : execRevertTimer p _ = _)) fun d ⟨hlive, hportUp, hautorevert, hreverttime⟩ => by
      simp [hlive, hportUp, hautorevert, hreverttime]
  · exact fun p x ns => Runs.of _ (fun _ => (rfl : execSeamUncorrectable p { wrong := x, ns := ns } _ = _)) fun d ⟨hlive, hportUp, hdecodeErr⟩ => by
      simp [Dev.sendNak, hlive, hportUp, hdecodeErr]
  · exact fun id r => Runs.of _ (fun _ => (rfl : execPortRetrainDone id _ = _)) fun d ⟨hlive, h1, h2⟩ => by simp [hlive, h1, h2]

end

section
open Sys2Proof Sys2Proof.Machine

/-- Settles O30: what each wait asks for is its premise, and the row does what is claimed when it ends. -/
theorem quiltTimersAct : Obligations.QuiltTimersAct := by
  unfold Obligations.QuiltTimersAct
  refine ⟨?_, ?_, ?_, ?_, ?_, ?_, ?_, ?_, ?_, ?_⟩
  · exact fun src flow cls skip => Runs.of _ (fun _ => (rfl : execGapWaitExpiry src flow cls _ = _)) fun d hpre => by simp [hpre]
  · exact fun dest cls => Runs.of _ (fun _ => (rfl : execUnreachableDiscard dest cls _ = _)) fun d ⟨hlive, hwaiting, hroute⟩ => by
      simp [hlive, hwaiting, hroute] <;> rfl
  · exact fun dest cls => Runs.of _ (fun _ => (rfl : execTokenIdleReturn dest cls _ = _)) fun d ⟨hlive, hdest, h1, hcls, h0, hquilt⟩ => by
      simp [hlive, hdest, h1, hcls, h0, hquilt]
  · exact fun id => Runs.of _ (fun _ => (rfl : execClass2Timeout id _ = _)) fun d ⟨hlive, hsince⟩ => by simp [hlive, hsince]
  · exact fun id op => Runs.of _ (fun _ => (rfl : execAdmitTimeout id _ = _)) fun d ⟨hlive, hid, haskedAt⟩ => by simp [hlive, hid, haskedAt]
  · exact fun p j i => Runs.of _ (fun _ => (rfl : execTackSlot p j _ = _)) fun d ⟨hlive, hp, hj, hslot, htack, hsend, hcarried⟩ => by
      dsimp only at hsend hcarried ⊢
      rw [if_neg (by simp [hlive, hp, hj, hslot])]
      split
      next hnone => exact nomatch hnone.symm.trans htack
      next sent hsome =>
        cases Option.some.inj (hsome.symm.trans htack)
        rw [if_neg (by rw [hsend, hcarried]; simp)]
  · exact Runs.of _ (fun _ => (rfl : execTimeMarkerSend _ = _)) fun d ⟨hlive, hmaster, hboundary, hunmarked⟩ => by
      rw [if_pos (by rw [hlive, hmaster, hboundary, bne_iff_ne.2 hunmarked]; rfl)]
  · exact fun cands => Runs.of _ (fun _ => (rfl : execMasterLost cands _ = _)) fun d ⟨hlive, hmastervalid, hismaster, hquilt⟩ => by
      simp [hlive, hmastervalid, hismaster, hquilt]
  · exact fun p tx => Runs.of _ (fun _ => (rfl : execDelayExchange p tx _ = _)) fun d ⟨hlive, hportUp, htick⟩ => by simp [hlive, hportUp, htick]
  · exact Runs.of _ (fun _ => (rfl : execRringFetchRetry _ = _)) fun d ⟨hlive, hremote, hquilt, _⟩ => by simp [hlive, hremote, hquilt]

end

section
open Sys2Proof Sys2Proof.Machine

/-- Settles O31: the premises pick the branch of each row of the rings. -/
theorem hostRingRowsAct : Obligations.HostRingRowsAct := by
  unfold Obligations.HostRingRowsAct
  refine ⟨?_, ?_, ?_, ?_, ?_, ?_, ?_, ?_, ?_, ?_, ?_, ?_, ?_, ?_, ?_, ?_, ?_⟩
  · exact fun q l => Runs.of _ (fun _ => (rfl : execDescriptorFetched q (some l) _ = _)) fun d ⟨hfetches, hremote, hsizelog2, hfenced⟩ => by
      simp [hfetches, hremote, hsizelog2, hfenced]
  · exact fun q => Runs.of _ (fun _ => (rfl : execDescriptorFetched q none _ = _)) fun d ⟨hfetches, hremote, hsizelog2⟩ => by
      simp [hfetches, hremote, hsizelog2]
  · exact fun q => Runs.of _ (fun _ => (rfl : execFetchTimeout q _ = _)) fun d ⟨hfetches, hremote, hhead⟩ => by simp [hfetches, hremote, hhead]
  · exact fun q data ups r e => Runs.of _ (fun _ => (rfl : execDescriptorStart q data ups _ = _))
      fun d ⟨hlive, hphase, hid, hinflight, hinflightAll, hd⟩ => by
        simp [Dev.startDesc, Nat.not_le.2 hinflight, Nat.not_le.2 hinflightAll, hlive, hphase, hid, hd]
  · exact fun c => Runs.of _ (fun _ => (rfl : execCompletionWrite c _ = _)) fun d ⟨hlive, hc, henable⟩ => by simp [hlive, hc, henable]
  · exact fun r => Runs.of _ (fun _ => (rfl : execMsixHoldoffEnd r _ = _)) fun d ⟨h2, hirqHold⟩ => by simp [Nat.not_le.2 h2, hirqHold]
  · exact fun r => Runs.of _ (fun _ => (rfl : execMsixHoldoffEnd r _ = _)) fun d ⟨hover, hheld⟩ => by
      dsimp only
      rw [if_neg (Nat.not_le.2 hover)]
      split
      next hzero => simp [hzero] at hheld
      next hone => simp [hone] at hheld
      next => rfl
  · exact Runs.of _ (fun _ => (rfl : execEventWrite _ = _)) fun d ⟨hlive, heventSpace⟩ => by simp [hlive, heventSpace]
  · exact fun c x r rest => Runs.of _ (fun _ => (rfl : execTraceRecordWrite c _ = _)) fun d ⟨hc, hchalk, hrecs, hlive, hready, henable, hroom⟩ => by
      rw [if_pos hc, hchalk]
      dsimp only
      rw [hrecs]
      dsimp only
      rw [if_neg (by
        rw [hlive, hready, henable]
        rcases hroom with hremote | hfits
        · simp [hremote]
        · simp [Nat.not_lt.2 hfits])]
  · exact fun t => Runs.of _ (fun _ => (rfl : execTailWriteback t _ = _)) fun d ⟨hlive, ht, henable, hdue⟩ => by
      rw [if_neg (by simp [hlive, ht, henable, hdue])]
      rfl
  · exact Runs.of _ (fun _ => (rfl : execHostLost _ = _)) fun d ⟨hlive, hwdogExpired⟩ => by simp [hlive, hwdogExpired]
  · exact Runs.of _ (fun _ => (rfl : execPcieReset .linkDown _ = _)) fun d ⟨hpower, hfrozen⟩ => by simp [Dev.pcieEvent, hpower, hfrozen]
  · exact fun kind hreset => Runs.of _ (fun _ => (rfl : execPcieReset kind _ = _)) fun d ⟨hup, hrunning⟩ => by
      have hevent : ∀ cause link, d.pcieEvent cause link = d.pcieDown cause link := fun _ _ => by simp [Dev.pcieEvent, hup, hrunning]
      cases kind with
      | linkDown => exact absurd rfl hreset
      | hotReset => exact hevent 3 false
      | functionLevelReset => exact hevent 3 false
  · exact Runs.of _ (fun _ => (rfl : execPciePerstN _ = _)) fun d ⟨hpower, hfrozen⟩ => by simp [Dev.pcieEvent, hpower, hfrozen]
  · exact Runs.of _ (fun _ => (rfl : execPciePerstN _ = _)) fun d ⟨hpower, hfrozen⟩ => by simp [Dev.pcieEvent, hpower, hfrozen]
  · exact fun speed width => Runs.of _ (fun _ => (rfl : execPcieLink speed width _ = _)) fun d ⟨hpower, hfrozen⟩ => by
      simp [Dev.pcieUp, hpower, hfrozen]
  · exact fun speed width => Runs.of _ (fun _ => (rfl : execPcieLink speed width _ = _)) fun d ⟨hpower, hfrozen⟩ => by simp [hpower, hfrozen]

end

section
open Sys2Proof Sys2Proof.Machine

/-- Settles O32: the opcode of the running descriptor is the key of the list that STAGED_CHECK_DONE branches on. -/
theorem stagedChecksEnd : Obligations.StagedChecksEnd := by
  unfold Obligations.StagedChecksEnd
  intro id op check hmem r
  refine Runs.of _ (fun _ => (rfl : execStagedCheckDone id _ = _)) fun d ⟨hlive, hrec, hrunning, hop⟩ => ?_
  rw [hrec]
  dsimp only
  rw [if_neg (by rw [hlive, hrunning]; decide), hop]
  simp only [List.mem_cons, Prod.mk.injEq, List.not_mem_nil, or_false] at hmem
  rcases hmem with h | h | h | h | h | h | h | h | h | h | h | h <;> obtain ⟨rfl, rfl⟩ := h <;> rfl

end

section
open Sys2Proof Sys2Proof.Machine

/-- Settles O33: the mode of the port, the state of its node and what it waits for are premises, and they pick the branch of each row. -/
theorem fieldBusRowsAct : Obligations.FieldBusRowsAct := by
  unfold Obligations.FieldBusRowsAct
  refine ⟨?_, ?_, ?_, ?_, ?_, ?_, ?_, ?_, ?_, ?_, ?_, ?_, ?_, ?_, ?_, ?_, ?_, ?_, ?_, ?_, ?_, ?_, ?_, ?_, ?_, ?_, ?_⟩
  · exact fun n kind dest src data => Runs.of _ (fun _ => (rfl : execMstpFrame n kind dest src data true _ = _))
      fun d ⟨hlive, hn, hmode, hnode, hsrc⟩ =>
        (if_neg (by simp [hlive, hn, hmode, hnode])).trans ((if_neg (by decide)).trans (if_pos hsrc))
  · exact fun n kind dest src data => Runs.of _ (fun _ => (rfl : execMstpFrame n kind dest src data true _ = _))
      fun d ⟨hlive, hn, hbusMode, hnode, hnode', hsrc⟩ => by
        simp [hlive, hn, hbusMode, hnode, hnode', hsrc]
  · exact fun n kind dest src data => Runs.of _ (fun _ => (rfl : execMstpFrame n kind dest src data false _ = _))
      fun d ⟨hlive, hn, hbusMode, hnode, hnode'⟩ => by
        simp [hlive, hn, hbusMode, hnode, hnode']
  · exact fun n dest src data => Runs.of _ (fun _ => (rfl : execMstpFrame n 0 dest src data true _ = _))
      fun d ⟨hlive, hn, hbusMode, hnode, hnode', hsrc, hdest⟩ => by
        simp [hlive, hn, hbusMode, hnode, hnode', hsrc, hdest]
  · exact fun n dest src data => Runs.of _ (fun _ => (rfl : execMstpFrame n 1 dest src data true _ = _))
      fun d ⟨hlive, hn, hbusMode, hnode, hnode', hsrc, hdest⟩ => by
        simp [hlive, hn, hbusMode, hnode, hnode', hsrc, hdest]
  · exact fun n kind dest src data => Runs.of _ (fun _ => (rfl : execMstpFrame n kind dest src data true _ = _))
      fun d ⟨hlive, hn, hmode, hnode, hidle, hsrc, hkind, hdest⟩ => by
        have htoken : kind ≠ 0 := by omega
        have hpoll : kind ≠ 1 := by omega
        have hreply : kind ≠ 2 := by omega
        simp [hlive, hn, hmode, hnode, hidle, hsrc, htoken, hpoll, hreply, hdest]
  · exact fun n a b => Runs.of _ (fun _ => (rfl : execMstpReplyWaitExpiry n _ = _)) fun d ⟨hlive, hn, hreply, hreplywait⟩ => by
      simp [hlive, hn, hreply, hreplywait]
  · exact fun n => Runs.of _ (fun _ => (rfl : execMstpReplyTimeout n _ = _)) fun d ⟨hlive, hn, hnode, hwaited⟩ => by
      have hwait : d.busWaited n mstpReplyWait = true := decide_eq_true hwaited
      simp [hlive, hn, hnode, hwait]
  · exact fun n => Runs.of _ (fun _ => (rfl : execMstpSilenceEnd n _ = _)) fun d ⟨hlive, hn, hnode, hat⟩ => by
      simp [Dev.busWaited, hlive, hn, hnode, hat]
  · exact fun n => Runs.of _ (fun _ => (rfl : execMstpTimerExpiry n _ = _)) fun d ⟨hlive, hn, hbusMode, hnode, hmac⟩ => by
      simp [Dev.busWaited, hlive, hn, hbusMode, hnode, hmac]
  · exact fun n => Runs.of _ (fun _ => (rfl : execMstpTimerExpiry n _ = _)) fun d ⟨hlive, hn, hbusMode, hnode, hmac, hretry⟩ => by
      simp [Dev.busWaited, hlive, hn, hbusMode, hnode, hmac, hretry]
  · exact fun n i => Runs.of _ (fun _ => (rfl : execModbusPollDue n i _ = _)) fun d ⟨hlive, hn, hbusMode, hpollrun, hc, hentryDue⟩ => by
      simp [hlive, hn, hbusMode, hpollrun, hc, hentryDue]
  · exact fun n bytes body id => Runs.of _ (fun _ => (rfl : execModbusResponse n bytes true _ = _))
      fun d ⟨hlive, hn, hbusMode, hjob, hsent, hmbChecked⟩ => by
        simp [hlive, hn, hbusMode, hjob, hsent, hmbChecked]
  · exact fun n bytes body i => Runs.of _ (fun _ => (rfl : execModbusResponse n bytes true _ = _))
      fun d ⟨hlive, hn, hbusMode, hjob, hsent, hmbChecked, hpollList⟩ => by
        simp [hlive, hn, hbusMode, hjob, hsent, hmbChecked, hpollList]
  · exact fun n bytes => Runs.of _ (fun _ => (rfl : execModbusResponse n bytes true _ = _)) fun d ⟨hlive, hn, hbusMode, hjob, hsent, hmbChecked⟩ => by
      simp [hlive, hn, hbusMode, hjob, hsent, hmbChecked]
  · exact fun n => Runs.of _ (fun _ => (rfl : execModbusTimeout n _ = _)) fun d ⟨hlive, hn, hbusMode, htimeout, hbroadcast, hjob, hsent⟩ => by
      simp [Dev.busWaited, hlive, hn, hbusMode, htimeout, hbroadcast, hjob, hsent]
  · exact fun n => Runs.of _ (fun _ => (rfl : execModbusTimeout n _ = _)) fun d ⟨hlive, hn, hbusMode, htimeout, hbroadcast⟩ => by
      simp [Dev.busWaited, hlive, hn, hbusMode, htimeout, hbroadcast]
  · exact fun n => Runs.of _ (fun _ => (rfl : execModbusGap n _ = _)) fun d ⟨hlive, hn, hbusMode, hjob, hsent⟩ => by
      simp [hlive, hn, hbusMode, hjob, hsent]
  · exact fun n bytes => Runs.of _ (fun _ => (rfl : execRawFrameEnd n bytes true _ = _)) fun d ⟨hlive, hn, hbusMode⟩ => by simp [hlive, hn, hbusMode]
  · exact fun n bytes => Runs.of _ (fun _ => (rfl : execRawFrameEnd n bytes false _ = _)) fun d ⟨hlive, hn, hbusMode⟩ => by simp [hlive, hn, hbusMode]
  · exact fun k body => Runs.of _ (fun _ => (rfl : execT1lFrame k (body ++ leBytes 4 (fcs32 body)) true _ = _))
      fun d ⟨hlive, hk, henable, hup, hshort, hpasses⟩ => by
        have hlength : (body ++ leBytes 4 (fcs32 body)).length = body.length + 4 := by simp [leBytes]
        have hbody : (body ++ leBytes 4 (fcs32 body)).take (body.length + 4 - 4) = body := List.take_left' rfl
        have hfits : ¬ 1522 < body.length + 4 := by omega
        rw [hlength, hbody]
        simp only [hlive, hk, henable, hup, hfits, hpasses, bne_self_eq_false, decide_true, Bool.and_self, Bool.not_true, Bool.false_eq_true, if_false, if_true]
  · exact fun k high sqi => Runs.of _ (fun _ => (rfl : execT1lLink k true high sqi _ = _)) fun d ⟨hlive, hk, henable, hlinkup⟩ => by
      simp [hlive, hk, henable, hlinkup]
  · exact fun k high sqi => Runs.of _ (fun _ => (rfl : execT1lLink k false high sqi _ = _)) fun d ⟨hlive, hk, henable, hlinkup⟩ => by
      simp [hlive, hk, henable, hlinkup]
  · exact fun n id => Runs.of _ (fun _ => (rfl : execBusFrameSent n _ = _)) fun d ⟨hlive, hn, hjob, hunsent, hmstp, hmodbus⟩ => by
      dsimp only at hjob hunsent hmstp hmodbus ⊢
      have hbus : n < 20 := by omega
      rw [if_neg (by simp [hlive, hbus]), if_pos hn, hjob, hunsent]
      dsimp only
      rw [if_neg Bool.false_ne_true, if_neg hmstp, if_neg hmodbus]
  · exact fun n j => Runs.of _ (fun _ => (rfl : execBusFrameSent n _ = _)) fun d ⟨hlive, hn, hjob, hunsent, hmodbus⟩ => by
      dsimp only at hjob hunsent hmodbus ⊢
      have hbus : n < 20 := by omega
      rw [if_neg (by simp [hlive, hbus]), if_pos hn, hjob, hunsent]
      dsimp only
      rw [if_neg Bool.false_ne_true, if_neg (by rw [hmodbus]; decide), if_pos hmodbus]
  · exact fun n bytes => Runs.of _ (fun _ => (rfl : execModbusResponse n bytes false _ = _)) fun d ⟨hlive, hn, hbusMode, hjob, hsent⟩ => by
      simp [hlive, hn, hbusMode, hjob, hsent]
  · exact fun k bytes => Runs.of _ (fun _ => (rfl : execT1lFrame k bytes false _ = _)) fun d ⟨hlive, hk, henable, hlinkup⟩ => by
      simp [hlive, hk, henable, hlinkup]

end

section
open Sys2Proof Sys2Proof.Machine

/-- Settles O34: the regions that a write or a commit asks for are free by its premises, and the row does what is claimed. -/
theorem storeRowsAct : Obligations.StoreRowsAct := by
  unfold Obligations.StoreRowsAct
  refine ⟨?_, ?_, ?_, ?_, ?_, ?_, ?_, ?_, ?_, ?_, ?_, ?_⟩
  · exact fun b w id => Runs.of _ (fun _ => (rfl : execPageWriteDone b _ = _)) fun d ⟨hlive, hrunningWrite, horigin⟩ => by
      simp [hlive, hrunningWrite, horigin]
  · exact fun b w => Runs.of _ (fun _ => (rfl : execPageWriteDone b _ = _)) fun d ⟨hlive, hrunningWrite, horigin⟩ => by
      simp [hlive, hrunningWrite, horigin]
  · exact fun b w id => Runs.of _ (fun _ => (rfl : execPageWriteDone b _ = _)) fun d ⟨hlive, hrunningWrite, horigin⟩ => by
      simp [hlive, hrunningWrite, horigin]
  · exact fun v => Runs.of _ (fun _ => (rfl : execEnergyWaitEnd v _ = _)) fun d hlive => by simp [hlive]
  · exact fun id w => Runs.of _ (fun _ => (rfl : execNvmWriteTimeout id _ = _)) fun d ⟨hlive, hwaitAt⟩ => by simp [hlive, hwaitAt]
  · exact fun r => Runs.of _ (fun _ => (rfl : execRecordCommit r _ = _)) fun d ⟨hpending, hmay, hfree, hexport⟩ => by
      dsimp only
      rw [hpending, hmay, hfree]
      split
      next e he => rw [if_neg (by rw [hexport e he]; decide)]
      next => rw [if_neg (by decide)]
  · exact fun key => Runs.of _ (fun _ => (rfl : execConfigBlockStore key _ = _)) fun d ⟨hdue, hmay, hfree, hfree3, hfree4, hfree5, hexport⟩ => by
      rw [hexport]
      dsimp only
      rw [if_neg (by rw [hdue, hmay, hfree]; simp [hfree3, hfree4, hfree5])]
  · exact Runs.of _ (fun _ => (rfl : execCheckpoint _ = _)) fun d ⟨hwritesOpen, hckptint, himportpending, hnvm, hnvm', hckptint'⟩ => by
      simp [Dev.checkpointOpen, Nat.not_lt.2 hckptint', hwritesOpen, hckptint, himportpending, hnvm, hnvm']
  · exact fun g e0 e1 bs d2 => Runs.of _ (fun _ => (rfl : execGroupRefresh g e0 e1 _ = _))
      fun d ⟨hnvm, hwritesOpen, hrefreshSpan, hregionFree, hnvmGroup⟩ => by
        simp [Nat.not_lt.2 hrefreshSpan, hnvm, hwritesOpen, hregionFree, hnvmGroup]
  · exact fun r kind => Runs.of _ (fun _ => (rfl : execLockoutEnd r kind _ = _)) fun d ⟨hlive, hlockedOut⟩ => by simp [hlive, hlockedOut]
  · exact fun l => Runs.of _ (fun _ => (rfl : execPanelWfloadTimeout _ = _)) fun d ⟨hlive, hpanel, hsince⟩ => by simp [hlive, hpanel, hsince]
  · exact fun o => Runs.of _ (fun _ => (rfl : execFwUpdateWritten _ = _)) fun d ⟨hfwUpdate, hchecked, hlive, hdip⟩ => by
      simp [hfwUpdate, hchecked, hlive, hdip]

end

section
open Sys2Proof Sys2Proof.Machine

/-- Settles O35: the phases, the bounds and the intervals are premises, and they pick the branch of each row. -/
theorem panelAndKeypadRowsAct : Obligations.PanelAndKeypadRowsAct := by
  unfold Obligations.PanelAndKeypadRowsAct
  refine ⟨?_, ?_, ?_, ?_, ?_, ?_, ?_, ?_, ?_, ?_, ?_, ?_, ?_, ?_, ?_, ?_⟩
  · exact fun die duty => Runs.of _ (fun _ => (rfl : execPhaseBoundary die duty _ = _)) fun d ⟨hlive, htick, hpanel⟩ => by simp [hlive, htick, hpanel]
  · exact fun n => Runs.of _ (fun _ => (rfl : execRailInRegulation _ = _)) fun d ⟨hfrozen, hpanel, htick⟩ => by
      simp [Nat.not_lt.2 htick, hfrozen, hpanel]
  · exact fun n mv => Runs.of _ (fun _ => (rfl : execRailStartTimeout mv _ = _)) fun d ⟨hfrozen, hpanel, hpanel', hrailWithin⟩ => by
      simp [Nat.not_lt.2 hpanel', hfrozen, hpanel, hrailWithin]
  · exact fun rail mv => Runs.of _ (fun _ => (rfl : execRailFault rail mv _ = _)) fun d ⟨hfrozen, hpanel, h1, hrail, hrailWithin⟩ => by
      simp [hfrozen, hpanel, h1, hrail, hrailWithin]
  · exact Runs.of _ (fun _ => (rfl : execRailHoldExpiry _ = _)) fun d ⟨hfrozen, hpanel, hpanel', hpanel'', hrailhold⟩ => by
      simp [hfrozen, hpanel, hpanel', hpanel'', hrailhold]
  · exact Runs.of _ (fun _ => (rfl : execRailFallDone _ = _)) fun d ⟨hfrozen, hpanel⟩ => by simp [hfrozen, hpanel]
  · exact fun volts ms => Runs.of _ (fun _ => (rfl : execFrontlightFault volts ms _ = _)) fun d ⟨hrunning, hon, hfault⟩ => by
      have hkind : stringFault volts ms = if 400 ≤ volts then 1 else 2 := by
        rcases hfault with hover | ⟨hunder, hlong⟩
        · simp [stringFault, hover]
        · simp [stringFault, hunder, hlong]
      have hsome : (if 400 ≤ volts then 1 else 2) ≠ 0 := by split <;> decide
      rw [hkind, if_neg (by simp [hrunning, hon, hsome])]
  · exact fun volts => Runs.of _ (fun _ => (rfl : execFrontlightRetry volts _ = _)) fun d ⟨hrunning, hfault, hwants, hwaited, hlow, hhigh⟩ => by
      have hgood : stringFault volts 10 = 0 := by simp [stringFault, Nat.not_le.2 hhigh, Nat.not_lt.2 hlow]
      rw [if_neg (by simp [hrunning, hfault, hwants, Nat.not_lt.2 hwaited]), if_neg (by simp [hgood])]
  · exact Runs.of _ (fun _ => (rfl : execKeyRowWake _ = _)) fun d ⟨hlive, hscanning⟩ => by simp [Dev.wakeScanner, hlive, hscanning]
  · exact fun raw => Runs.of _ (fun _ => (rfl : execKeyScan raw _ = _)) fun d ⟨hlive, hscanning, hdue⟩ => by
      rw [if_neg (by simp [hlive]), if_neg (by simp [hscanning]), if_neg (by
        rcases hdue with hfirst | hwaited
        · simp [hfirst]
        · simp [Nat.not_lt.2 hwaited])]
  · exact Runs.of _ (fun _ => (rfl : execKeyIdle _ = _)) fun d ⟨hlive, hfree, hwaited⟩ => by
      have hkeysFree : d.keysFree = true := by simpa [Dev.keysFree] using hfree
      simp [hlive, hkeysFree, hwaited]
  · exact Runs.of _ (fun _ => (rfl : execKeyLockIdle _ = _)) fun d ⟨hlive, h0, hidletime, hscanning⟩ => by simp [hlive, h0, hidletime, hscanning]
  · exact Runs.of _ (fun _ => (rfl : execKeyLockIdle _ = _)) fun d ⟨hlive, h0, hidletime, hscanning⟩ => by simp [hlive, h0, hidletime, hscanning]
  · exact fun n a b => Runs.of _ (fun _ => (rfl : execEncTransition n a b _ = _)) fun d ⟨hlive, hn, hb, hencHeld⟩ => by
      simp [Nat.not_le.2 hn, hlive, hb, hencHeld]
  · exact fun n a b => Runs.of _ (fun _ => (rfl : execEncTransition n a b _ = _)) fun d ⟨hlive, hn, hb⟩ => by simp [Nat.not_le.2 hn, hlive, hb]
  · exact fun n => Runs.of _ (fun _ => (rfl : execEncMoved n _ = _)) fun d ⟨hlive, hn, hfree, hmoved, hdue⟩ => by
      dsimp only
      rw [if_neg (by
        rcases hdue with hfirst | hwaited
        · simp [hlive, hn, hfree, hmoved, hfirst]
        · simp [hlive, hn, hfree, hmoved, Nat.not_lt.2 hwaited])]

end

section
/-! SUPPORT. When the path monitors are read (R639). -/

namespace Sys2Proof.Machine
open Sys2Proof

/-- A reading comes, between fitting passes, when a second has passed since the one before. -/
theorem pathMonitorRead_due {d : Dev} {ps : List Nat} (hlive : d.live = true) (hfit : d.fitting = false) (hps : ps ≠ [])
    (hdue : d.fit.pathAt = 0 ∨ d.fit.pathAt + 99999 ≤ d.tick) :
    ¬ (!d.live || d.fitting || ps.isEmpty || (d.fit.pathAt != 0 && d.tick < d.fit.pathAt + 99999)) = true := by
  rcases hdue with hfirst | hwaited
  · simp [hlive, hfit, hps, hfirst]
  · simp [hlive, hfit, hps, Nat.not_lt.2 hwaited]

end Sys2Proof.Machine
end

section
open Sys2Proof Sys2Proof.Machine

/-- Settles O36: the times and the supplies are premises, and they pick the branch of each row of a pass. -/
theorem fittingRowsAct : Obligations.FittingRowsAct := by
  unfold Obligations.FittingRowsAct
  refine ⟨?_, ?_, ?_, ?_, ?_, ?_, ?_, ?_, ?_, ?_⟩
  · exact Runs.of _ (fun _ => (rfl : execFitPassStart _ = _)) fun d ⟨hlive, hdip, hpower, hnvm, hactive, htick⟩ => by
      simp [Dev.controlling, Dev.fitting, Dev.fitStart, Dev.fitStep, hlive, hdip, hpower, hnvm, hactive, htick]
  · exact Runs.of _ (fun _ => (rfl : execFitRerun _ = _)) fun d ⟨hlive, hdip, hpower, hnvm, hactive, hfit, hfit'⟩ => by
      simp [Dev.controlling, Dev.fitting, Dev.fitStart, Dev.fitStep, hlive, hdip, hpower, hnvm, hactive, hfit, hfit']
  · exact fun m => Runs.of _ (fun _ => (rfl : execFitMeasurementDone m _ = _)) fun d ⟨hcontrolling, hstep, hfit⟩ => by
      simp [Dev.fitStep, hcontrolling, hstep, hfit]
  · exact Runs.of _ (fun _ => (rfl : execHoldupStart _ = _)) fun d ⟨hlive, hdip, hpower, hnvm, hstep, hfit, hbusy, heffective⟩ => by
      simp [Dev.controlling, hlive, hdip, hpower, hnvm, hstep, hfit, hbusy, heffective]
  · exact fun i dv step => Runs.of _ (fun _ => (rfl : execHoldupWindowEnd i dv step _ = _)) fun d ⟨hcontrol, hwindow, hwaited, hdv, hcap⟩ => by
      dsimp only
      rw [if_neg (by simp [hcontrol, hwindow, hwaited]), if_neg hdv, if_neg hcap]
  · exact Runs.of _ (fun _ => (rfl : execHoldupSkip _ = _)) fun d ⟨hcontrolling, hstep, hfit, hfit'⟩ => by simp [hcontrolling, hstep, hfit, hfit']
  · exact Runs.of _ (fun _ => (rfl : execFitApply _ = _)) fun d ⟨hcontrol, hstep⟩ => by
      simp [Dev.fitApplied, Dev.fitStep, hcontrol, hstep] <;> rfl
  · exact fun ps => Runs.of _ (fun _ => (rfl : execPathMonitorRead ps _ = _)) fun d ⟨hlive, hfit, hps, hdue, hfloor⟩ => by
      dsimp only at hfloor ⊢
      rw [if_neg (pathMonitorRead_due hlive hfit hps hdue), if_pos hfloor]
  · exact fun ps => Runs.of _ (fun _ => (rfl : execPathMonitorRead ps _ = _)) fun d ⟨hlive, hfit, hps, hdue, hbelow, hheld⟩ => by
      dsimp only at hbelow hheld ⊢
      rw [if_neg (pathMonitorRead_due hlive hfit hps hdue), if_neg (Nat.not_le.2 hbelow), if_pos (by rw [hheld]; rfl)]
  · exact fun ps => Runs.of _ (fun _ => (rfl : execPathMonitorRead ps _ = _)) fun d ⟨hlive, hfit, hps, hdue, hbelow, hfree, hok, hen, htarget⟩ => by
      dsimp only at hbelow hfree hok hen htarget ⊢
      rw [if_neg (pathMonitorRead_due hlive hfit hps hdue), if_neg (Nat.not_le.2 hbelow), if_neg (by rw [hfree, hok, hen]; simp), if_neg (by omega)]

end

section
open Sys2Proof Sys2Proof.Machine

/-- Settles O37: the premises pick the branch of each row of freeze and of the test access port. -/
theorem freezeAndTapRowsAct : Obligations.FreezeAndTapRowsAct := by
  unfold Obligations.FreezeAndTapRowsAct
  refine ⟨?_, ?_, ?_, ?_, ?_, ?_, ?_, ?_, ?_, ?_, ?_, ?_, ?_, ?_, ?_, ?_, ?_⟩
  · exact Runs.of _ (fun _ => (rfl : execFrzNLow _ = _)) fun d ⟨hen, hlive, hnone⟩ => by
      have hen' : (d.setFrz { d.frz with frzNLow := true }).frzEn = true := hen
      have hlive' : (d.setFrz { d.frz with frzNLow := true }).live = true := hlive
      have hnone' : (d.setFrz { d.frz with frzNLow := true }).frz.req = none := hnone
      dsimp only at hen' ⊢
      rw [if_pos hen', Dev.askFreeze, if_neg (by rw [hlive']; simp), hnone']
      rfl
  · exact Runs.of _ (fun _ => (rfl : execFrzNLow _ = _)) fun d hen => by
      have hen' : (d.setFrz { d.frz with frzNLow := true }).frzEn = false := hen
      dsimp only at hen' ⊢
      rw [if_neg (by rw [hen']; simp)]
  · exact Runs.of _ (fun _ => (rfl : execFrzNRise _ = _)) fun d hfrz => by simp [Dev.askThaw, Dev.setFrz, hfrz]
  · exact fun r => Runs.of _ (fun _ => (rfl : execFrzNRise _ = _)) fun d ⟨hfrz, hquilt⟩ => by simp [Dev.askThaw, Dev.setFrz, hfrz, hquilt]
  · exact fun r => Runs.of _ (fun _ => (rfl : execFreezeStop _ = _)) fun d ⟨hfrz, hlive, hat⟩ => by simp [hfrz, hlive, hat]
  · exact fun ms r => Runs.of _ (fun _ => (rfl : execThawRestart ms none _ = _)) fun d ⟨hfrz, hquilt, hfrz', hfrz''⟩ => by
      simp [hfrz, hquilt, hfrz', hfrz'']
  · exact fun ms count dev r => Runs.of _ (fun _ => (rfl : execThawRestart ms (some (count, dev)) _ = _)) fun d ⟨hfrz, hquilt, hfrz', hfrz''⟩ => by
      simp [hfrz, hquilt, hfrz', hfrz'']
  · exact fun ms r => Runs.of _ (fun _ => (rfl : execQuiltThawRestart ms _ = _)) fun d ⟨hfrz, hquilt, hfrz', hfrz'', hfrz'''⟩ => by
      simp [hfrz, hquilt, hfrz', hfrz'', hfrz''']
  · exact fun ms r => Runs.of _ (fun _ => (rfl : execQuiltThawRestart ms _ = _)) fun d ⟨hfrz, hquilt, hfrz', hfrz'', hfrz'''⟩ => by
      simp [hfrz, hquilt, hfrz', hfrz'', hfrz''']
  · exact Runs.of _ (fun _ => (rfl : execFreezeReq _ = _)) fun d ⟨hfrzen, hlive, hfrz⟩ => by simp [Dev.frzEn, Dev.askFreeze, hfrzen, hlive, hfrz]
  · exact fun r => Runs.of _ (fun _ => (rfl : execThawReq _ = _)) fun d ⟨hfrz, hquilt⟩ => by simp [Dev.askThaw, hfrz, hquilt]
  · exact fun space index => Runs.of _ (fun _ => (rfl : execRoAccess space index _ = _)) fun d _ => by simp
  · exact Runs.of _ (fun _ => (rfl : execExtest _ = _)) fun d hpower => by simp [hpower]
  · exact Runs.of _ (fun _ => (rfl : execExtest _ = _)) fun d hpower => by simp [hpower]
  · exact Runs.of _ (fun _ => (rfl : execIdcode _ = _)) fun d _ => by
      simp [idcode] <;> rfl
  · exact fun lands chain => Runs.of _ (fun _ => (rfl : execSamplePreload lands chain _ = _)) fun d _ => by simp
  · exact Runs.of _ (fun _ => (rfl : execBypass _ = _)) fun d _ => by simp

end

section
/-! SUPPORT. No operation on the device changes the part. The laws of folds and of the pairs that operations answer. An operation's equation that holds
by unfolding is proved `by rfl`, so that it rewrites as an equation and not as a definition: the folds ask for it under a binder. -/

namespace Sys2Proof.Machine
open Sys2Proof

@[simp] theorem foldl_part {α : Type} {f : Dev → α → Dev} (hf : ∀ y a, (f y a).part = y.part) (d : Dev) (l : List α) :
    (l.foldl f d).part = d.part := by
  induction l generalizing d with
  | nil => rfl
  | cons a t ih => exact (ih (f d a)).trans (hf d a)

@[simp] theorem foldl_snd_part {α β : Type} {f : β × Dev → α → β × Dev} (hf : ∀ y a, (f y a).2.part = y.2.part) (d : β × Dev) (l : List α) :
    (l.foldl f d).2.part = d.2.part := by
  induction l generalizing d with
  | nil => rfl
  | cons a t ih => exact (ih (f d a)).trans (hf d a)

@[simp] theorem foldl_fst_part {α β : Type} {f : Dev × β → α → Dev × β} (hf : ∀ y a, (f y a).1.part = y.1.part) (d : Dev × β) (l : List α) :
    (l.foldl f d).1.part = d.1.part := by
  induction l generalizing d with
  | nil => rfl
  | cons a t ih => exact (ih (f d a)).trans (hf d a)

@[simp] theorem foldl_snd_snd_part {α β γ : Type} {f : β × γ × Dev → α → β × γ × Dev} (hf : ∀ y a, (f y a).2.2.part = y.2.2.part) (d : β × γ × Dev)
    (l : List α) : (l.foldl f d).2.2.part = d.2.2.part := by
  induction l generalizing d with
  | nil => rfl
  | cons a t ih => exact (ih (f d a)).trans (hf d a)

theorem part_of_eq_snd {α : Type} {p : α × Dev} {a : α} {e : Dev} (h : p = (a, e)) : e.part = p.2.part := by rw [h]

theorem part_of_eq_fst {α : Type} {p : Dev × α} {a : α} {e : Dev} (h : p = (e, a)) : e.part = p.1.part := by rw [h]

theorem ite_part {c : Prop} [Decidable c] {a b : Dev} {p : Part} (ha : a.part = p) (hb : b.part = p) : (if c then a else b).part = p := by
  split <;> assumption

end Sys2Proof.Machine
end

section
/-! SUPPORT. No operation on the device changes the part: the operations of the host rings, the fabric links and the global registers. -/

namespace Sys2Proof.Machine
open Sys2Proof

@[simp] theorem Dev.putBit_part (d : Dev) (f : Fld) (i : Nat) (b : Bool) : (d.putBit f i b).part = d.part := by rfl

@[simp] theorem Dev.bump_part (d : Dev) (f : Fld) (i top : Nat) : (d.bump f i top).part = d.part := by rfl

@[simp] theorem Dev.wrapUp_part (d : Dev) (f : Fld) (i : Nat) : (d.wrapUp f i).part = d.part := by rfl

@[simp] theorem Dev.markRec_part (d : Dev) (r : Nat) : (d.markRec r).part = d.part := by
  simp [Dev.markRec, apply_ite Dev.part]

@[simp] theorem Dev.markRet_part (d : Dev) (addr : Nat) : (d.markRet addr).part = d.part := by
  unfold Dev.markRet
  (repeat' split) <;> simp

@[simp] theorem Dev.markHost_part (d : Dev) (addr : Nat) : (d.markHost addr).part = d.part := by
  unfold Dev.markHost
  split <;> simp

@[simp] theorem Dev.putRet_part (d : Dev) (f : Fld) (i v : Nat) : (d.putRet f i v).part = d.part := by
  simp [Dev.putRet, apply_ite Dev.part]

@[simp] theorem Dev.putHost_part (d : Dev) (f : Fld) (i v : Nat) : (d.putHost f i v).part = d.part := by
  simp [Dev.putHost]

@[simp] theorem Dev.raiseAt_part (d : Dev) (code src time : Nat) (detail : List Nat) : (d.raiseAt code src time detail).part = d.part := by
  simp [Dev.raiseAt, apply_ite Dev.part]

@[simp] theorem Dev.raise_part (d : Dev) (code src : Nat) (detail : List Nat) : (d.raise code src detail).part = d.part := by
  simp [Dev.raise]

@[simp] theorem Dev.raiseLimited_part (d : Dev) (code src time st : Nat) (detail : List Nat) :
    (d.raiseLimited code src time st detail).part = d.part := by
  unfold Dev.raiseLimited
  dsimp only
  split <;> simp

@[simp] theorem Dev.raiseCounted_part (d : Dev) (code src time : Nat) (detail : List Nat) (off : Option Nat) :
    (d.raiseCounted code src time detail off).part = d.part := by
  unfold Dev.raiseCounted
  dsimp only
  split <;> simp

@[simp] theorem Dev.endInterval_part (d : Dev) (code src : Nat) : (d.endInterval code src).part = d.part := by
  unfold Dev.endInterval
  dsimp only
  (repeat' split) <;> simp

@[simp] theorem Dev.finish_part (d : Dev) (id : Nat) (st : Status) (result : Nat) : (d.finish id st result).part = d.part := by
  unfold Dev.finish
  (repeat' split) <;> simp

@[simp] theorem Dev.fail_part (d : Dev) (id : Nat) (st : Status) : (d.fail id st).part = d.part := by
  simp [Dev.fail]

@[simp] theorem Dev.done_part (d : Dev) (id result : Nat) : (d.done id result).part = d.part := by
  simp [Dev.done]

@[simp] theorem Dev.raiseMemUnc_part (d : Dev) (w reader : Nat) : (d.raiseMemUnc w reader).part = d.part := by
  simp [Dev.raiseMemUnc]

@[simp] theorem Dev.settleWord_part (d : Dev) (w a n reader : Nat) : (d.settleWord w a n reader).part = d.part := by
  unfold Dev.settleWord
  dsimp only
  (repeat' split) <;> simp

@[simp] theorem Dev.memWrite_part (d : Dev) (a : Nat) (bs : List Nat) (reader : optParam Nat 1) : (d.memWrite a bs reader).part = d.part := by
  simp [Dev.memWrite, apply_ite Dev.part]

@[simp] theorem Dev.upset_part (d : Dev) (us : List (Nat × Nat)) : (d.upset us).part = d.part := by rfl

@[simp] theorem Dev.readWord_part (d : Dev) (w reader : Nat) : (d.readWord w reader).2.part = d.part := by
  unfold Dev.readWord
  split <;> simp

@[simp] theorem Dev.readWords_part (d : Dev) (w a2 a3 : Nat) : (d.readWords w a2 a3).2.part = d.part := by
  induction a2 generalizing d w with
  | zero => rfl
  | succ n ih => exact (ih _ (w + 1)).trans (Dev.readWord_part d w a3)

@[simp] theorem Dev.memRead_part (d : Dev) (a n reader : Nat) : (d.memRead a n reader).2.part = d.part := by
  unfold Dev.memRead
  split <;> simp

@[simp] theorem Dev.produce_part (d : Dev) (name qty : Nat) (w : VW) : (d.produce name qty w).part = d.part := by rfl

@[simp] theorem Dev.deliver_part (d : Dev) (name qty : Nat) (w : VW) : (d.deliver name qty w).part = d.part := by rfl

@[simp] theorem Dev.touchHeld_part (d : Dev) (k reader : Nat) : (d.touchHeld k reader).part = d.part := by
  unfold Dev.touchHeld
  dsimp only
  (repeat' split) <;> simp

@[simp] theorem Dev.touchValue_part (d : Dev) (name qty reader : Nat) : (d.touchValue name qty reader).part = d.part := by
  simp [Dev.touchValue]

@[simp] theorem Dev.setWriter_part (d : Dev) (h w : Nat) : (d.setWriter h w).part = d.part := by rfl

@[simp] theorem Dev.setForce_part (d : Dev) (h : Nat) (v : Option Nat) : (d.setForce h v).part = d.part := by rfl

@[simp] theorem Dev.setCommand_part (d : Dev) (h v : Nat) : (d.setCommand h v).part = d.part := by rfl

@[simp] theorem Dev.setFd_part (d : Dev) (k : Nat) (x : DieSt) : (d.setFd k x).part = d.part := by
  simp [Dev.setFd, apply_ite Dev.part]

@[simp] theorem Dev.post_part (d : Dev) (k : Nat) (m : Mail) : (d.post k m).part = d.part := by
  simp [Dev.post, apply_ite Dev.part]

@[simp] theorem Dev.dieRaise_part (d : Dev) (k code src : Nat) (detail : List Nat) : (d.dieRaise k code src detail).part = d.part := by
  simp [Dev.dieRaise, apply_ite Dev.part]

@[simp] theorem Dev.setBlock_part (d : Dev) (k : Nat) (bs : List Nat) : (d.setBlock k bs).part = d.part := by rfl

@[simp] theorem Dev.saveWrite_part (d : Dev) (off : Nat) (bs : List Nat) : (d.saveWrite off bs).part = d.part := by
  simp [Dev.saveWrite]

@[simp] theorem Dev.saveRead_part (d : Dev) (off n : Nat) : (d.saveRead off n).2.part = d.part := by
  simp [Dev.saveRead]

@[simp] theorem Dev.saveCount_part (d : Dev) (off : Nat) (n : optParam Nat 4) : (d.saveCount off n).part = d.part := by
  simp [Dev.saveCount]

@[simp] theorem Dev.recovered_part (d : Dev) : d.recovered.part = d.part := by rfl

@[simp] theorem Dev.startCount_part (d : Dev) : d.startCount.2.part = d.part := by
  simp [Dev.startCount]

@[simp] theorem Dev.logFaultIn_part (d : Dev) (starts time cause place detail : Nat) :
    (d.logFaultIn starts time cause place detail).part = d.part := by
  simp [Dev.logFaultIn]

@[simp] theorem Dev.logFault_part (d : Dev) (cause place detail : Nat) : (d.logFault cause place detail).part = d.part := by
  simp [Dev.logFault]

@[simp] theorem Dev.setPort_part (d : Dev) (p : Nat) (x : PortSt) : (d.setPort p x).part = d.part := by rfl

@[simp] theorem Dev.setPortState_part (d : Dev) (p st : Nat) : (d.setPortState p st).part = d.part := by rfl

@[simp] theorem Dev.flood_part (d : Dev) (k payload : Nat) (but : Option Nat) : (d.flood k payload but).part = d.part := by
  simp [Dev.flood, apply_ite Dev.part]

@[simp] theorem Dev.floodQuilt_part (d : Dev) (k payload : Nat) (but : Option Nat) : (d.floodQuilt k payload but).part = d.part := by
  simp [Dev.floodQuilt, apply_ite Dev.part]

@[simp] theorem Dev.freeBuffer_part (d : Dev) (p c : Nat) : (d.freeBuffer p c).part = d.part := by
  simp [Dev.freeBuffer, apply_ite Dev.part]

@[simp] theorem Dev.freeItem_part (d : Dev) (inPort : Option Nat) (c : Nat) : (d.freeItem inPort c).part = d.part := by
  unfold Dev.freeItem
  split <;> simp

@[simp] theorem Dev.sendOn_part (d : Dev) (p : Nat) (st : Stitch) : (d.sendOn p st).part = d.part := by rfl

@[simp] theorem Dev.readRetry_part (d : Dev) (p n : Nat) (st : Stitch) : (d.readRetry p n st).2.part = d.part := by
  unfold Dev.readRetry
  dsimp only
  (repeat' split) <;> simp

@[simp] theorem Dev.readRetries_part (d : Dev) (p : Nat) : (d.readRetries p).2.part = d.part := by
  unfold Dev.readRetries
  repeat' first | (simp; done) | split | refine (part_of_eq_snd ‹_›).trans ?_ | refine (foldl_snd_part (fun _ _ => ?_) _ _).trans ?_

@[simp] theorem Dev.pumpClass_part (d : Dev) (c : Nat) : (d.pumpClass c).part = d.part := by
  unfold Dev.pumpClass
  repeat' first | (simp; done) | split | refine (foldl_snd_part (fun _ _ => ?_) _ _).trans ?_

@[simp] theorem Dev.pump_part (d : Dev) : d.pump.part = d.part := by
  simp [Dev.pump]

@[simp] theorem Dev.lateTack_part (d : Dev) (p : Option Nat) (it : QItem) : (d.lateTack p it).part = d.part := by
  unfold Dev.lateTack
  split <;> simp

@[simp] theorem Dev.enqueue_part (d : Dev) (it : QItem) : (d.enqueue it).part = d.part := by rfl

@[simp] theorem Dev.enqueueOwn_part (d : Dev) (it : QItem) : (d.enqueueOwn it).part = d.part := by rfl

@[simp] theorem Dev.setTokens_part (d : Dev) (n c v : Nat) : (d.setTokens n c v).part = d.part := by
  unfold Dev.setTokens
  split <;> simp

@[simp] theorem Dev.noteTokens_part (d : Dev) (n c : Nat) : (d.noteTokens n c).part = d.part := by rfl

@[simp] theorem Dev.useToken_part (d : Dev) (n c : Nat) : (d.useToken n c).part = d.part := by
  simp [Dev.useToken]

@[simp] theorem Dev.sendControl_part (d : Dev) (dest kind : Nat) (data : List Nat) (via : Option Nat) :
    (d.sendControl dest kind data via).part = d.part := by
  simp [Dev.sendControl]

@[simp] theorem Dev.sendToken_part (d : Dev) (dest cls kind flow : Nat) (data : List Nat) (desc : Option Nat) :
    (d.sendToken dest cls kind flow data desc).part = d.part := by
  simp [Dev.sendToken, apply_ite Dev.part]

@[simp] theorem Dev.useTokens_part (d : Dev) (dest cls : Nat) : (d.useTokens dest cls).part = d.part := by
  unfold Dev.useTokens
  repeat' first
    | with_reducible rfl | with_reducible refine ite_part ?_ ?_ | with_reducible refine (Dev.sendControl_part ..).trans ?_
    | with_reducible refine (Dev.useToken_part ..).trans ?_ | with_reducible refine (Dev.enqueueOwn_part ..).trans ?_
    | with_reducible refine (Dev.pump_part ..).trans ?_ | split | refine (foldl_snd_part (fun _ _ => ?_) _ _).trans ?_

@[simp] theorem Dev.rringFault_part (d : Dev) (ring cause : Nat) : (d.rringFault ring cause).part = d.part := by
  simp [Dev.rringFault]

@[simp] theorem Dev.remoteWrite_part (d : Dev) (ring off : Nat) (bytes : List Nat) : (d.remoteWrite ring off bytes).part = d.part := by
  simp [Dev.remoteWrite, apply_ite Dev.part]

@[simp] theorem Dev.remoteBell_part (d : Dev) (code tail : Nat) : (d.remoteBell code tail).part = d.part := by
  simp [Dev.remoteBell]

@[simp] theorem Dev.readHeads_part (d : Dev) : d.readHeads.part = d.part := by
  simp [Dev.readHeads, apply_ite Dev.part]

@[simp] theorem Dev.remoteTrace_part (d : Dev) (t : Nat) (unit : List Nat) : (d.remoteTrace t unit).part = d.part := by
  simp [Dev.remoteTrace]

@[simp] theorem Dev.placeTack_part (d : Dev) (st : Stitch) (inPort : Option Nat) : (d.placeTack st inPort).part = d.part := by
  unfold Dev.placeTack
  (repeat' split) <;> simp

@[simp] theorem Dev.rerouteOne_part (d : Dev) (n : Nat) (revert : Option Nat) : (d.rerouteOne n revert).2.part = d.part := by
  simp [Dev.rerouteOne, apply_ite Dev.part, apply_ite Prod.snd]

@[simp] theorem Dev.raiseReroute_part (d : Dev) (p dir : Nat) (used : List Nat) (lost : Nat) : (d.raiseReroute p dir used lost).part = d.part := by
  simp [Dev.raiseReroute, apply_ite Dev.part]

@[simp] theorem Dev.followHops_part (d : Dev) : d.followHops.part = d.part := by
  simp [Dev.followHops, apply_ite Dev.part]

@[simp] theorem Dev.reroute_part (d : Dev) (revert : Option Nat) : (d.reroute revert).part = d.part := by
  unfold Dev.reroute
  generalize List.range 1024 = ns
  generalize List.range 8 = ports
  refine (Dev.followHops_part _).trans ((Dev.put_part ..).trans ((Dev.putBit_part ..).trans
    ((foldl_part (fun y p => ?_) _ _).trans (foldl_snd_part (d := ([], d)) (fun a n => ?_) ns))))
  · simp
  · simp [apply_ite Prod.snd]

@[simp] theorem Dev.auditPair_part (d : Dev) (n c : Nat) : (d.auditPair n c).part = d.part := by
  simp [Dev.auditPair]

@[simp] theorem Dev.auditReached_part (d : Dev) : d.auditReached.part = d.part := by
  simp [Dev.auditReached]

@[simp] theorem Dev.moveStitches_part (d : Dev) (p : Nat) : (d.moveStitches p).part = d.part := by
  simp [Dev.moveStitches]

@[simp] theorem Dev.endPortAudits_part (d : Dev) (p : Nat) : (d.endPortAudits p).part = d.part := by rfl

@[simp] theorem Dev.endAudits_part (d : Dev) : d.endAudits.part = d.part := by
  simp [Dev.endAudits]

@[simp] theorem Dev.leaveUp_part (d : Dev) (p st cause : Nat) : (d.leaveUp p st cause).part = d.part := by
  simp [Dev.leaveUp, apply_ite Dev.part]

@[simp] theorem Dev.linkDown_part (d : Dev) (p cause : Nat) : (d.linkDown p cause).part = d.part := by
  simp [Dev.linkDown]

@[simp] theorem Dev.enterTraining_part (d : Dev) (p : Nat) : (d.enterTraining p).part = d.part := by rfl

@[simp] theorem Dev.linkError_part (d : Dev) (p ns : Nat) : (d.linkError p ns).part = d.part := by
  simp [Dev.linkError, apply_ite Dev.part]

@[simp] theorem Dev.ringWrite_part (d : Dev) (r addr : Nat) (bytes : List Nat) : (d.ringWrite r addr bytes).part = d.part := by
  simp [Dev.ringWrite, apply_ite Dev.part]

@[simp] theorem Dev.bufWrite_part (d : Dev) (addr : Nat) (bytes : List Nat) : (d.bufWrite addr bytes).part = d.part := by
  simp [Dev.bufWrite, apply_ite Dev.part]

@[simp] theorem Dev.signal_part (d : Dev) (v : Nat) : (d.signal v).part = d.part := by
  simp [Dev.signal, apply_ite Dev.part]

@[simp] theorem Dev.ringSignal_part (d : Dev) (r vector : Nat) (irqEn : Bool) (holdoff : Nat) :
    (d.ringSignal r vector irqEn holdoff).part = d.part := by
  simp [Dev.ringSignal, apply_ite Dev.part]

@[simp] theorem Dev.endFetched_part (d : Dev) (q : Nat) (st : Status) : (d.endFetched q st).part = d.part := by
  simp [Dev.endFetched]

@[simp] theorem Dev.ringFault_part (d : Dev) (q cause v : Nat) : (d.ringFault q cause v).part = d.part := by
  simp [Dev.ringFault]

@[simp] theorem Dev.actDesc_part (d : Dev) (id : Nat) (x : Sys2Proof.Desc) (named : List (Nat × Nat)) (body : Nat → Sys2Proof.Desc → Dev → Dev)
    (hfbody : ∀ (x0 : Nat) (x1 : Sys2Proof.Desc) (x2 : Dev), (body x0 x1 x2).part = x2.part) :
    (d.actDesc id x named body).part = d.part := by
  unfold Dev.actDesc
  dsimp only
  (repeat' split) <;> simp [*]

@[simp] theorem Dev.takeDesc_part (d : Dev) (q : Nat) (x : Sys2Proof.Desc) : (d.takeDesc q x).part = d.part := by rfl

@[simp] theorem Dev.submit_part (d : Dev) (q : Nat) (x : Sys2Proof.Desc) (op : Nat) (named : List (Nat × Nat))
    (body : Nat → Sys2Proof.Desc → Dev → Dev) (hfbody : ∀ (x0 : Nat) (x1 : Sys2Proof.Desc) (x2 : Dev), (body x0 x1 x2).part = x2.part) :
    (d.submit q x op named body).part = d.part := by
  simp [Dev.submit, apply_ite Dev.part, *]

@[simp] theorem Dev.abortDesc_part (d : Dev) (id ring tag : Nat) (ops : List Nat) (settle : Nat → Rec → Dev → Dev) (hfsettle : ∀ (x0 : Nat)
    (x1 : Rec) (x2 : Dev), (settle x0 x1 x2).part = x2.part) :
    (d.abortDesc id ring tag ops settle).part = d.part := by
  unfold Dev.abortDesc
  (repeat' split) <;> simp [*]

@[simp] theorem bodyNop_part (id : Nat) (a1 : Sys2Proof.Desc) (d : Dev) : (bodyNop id a1 d).part = d.part := by
  simp [bodyNop]

@[simp] theorem Dev.writeCompletion_part (d : Dev) (c : Nat) : (d.writeCompletion c).part = d.part := by
  unfold Dev.writeCompletion
  dsimp only
  (repeat' split) <;> simp

@[simp] theorem Dev.putEvent_part (d : Dev) (e : Event) : (d.putEvent e).part = d.part := by
  simp [Dev.putEvent, apply_ite Dev.part]

@[simp] theorem Dev.writeEvent_part (d : Dev) : d.writeEvent.part = d.part := by
  unfold Dev.writeEvent
  (repeat' split) <;> simp

@[simp] theorem Dev.postHost_part (d : Dev) (p : Posted) : (d.postHost p).part = d.part := by
  simp [Dev.postHost, apply_ite Dev.part]

@[simp] theorem Dev.latchBell_part (d : Dev) (off v : Nat) : (d.latchBell off v).part = d.part := by rfl

@[simp] theorem Dev.ringTail_part (d : Dev) (q v : Nat) : (d.ringTail q v).part = d.part := by
  simp [Dev.ringTail, apply_ite Dev.part]

@[simp] theorem Dev.badHead_part (d : Dev) (r v : Nat) : (d.badHead r v).part = d.part := by
  simp [Dev.badHead]

@[simp] theorem Dev.cqHead_part (d : Dev) (c v : Nat) : (d.cqHead c v).part = d.part := by
  simp [Dev.cqHead, apply_ite Dev.part]

@[simp] theorem Dev.eqHead_part (d : Dev) (v : Nat) : (d.eqHead v).part = d.part := by
  simp [Dev.eqHead, apply_ite Dev.part]

@[simp] theorem Dev.tqHead_part (d : Dev) (t v : Nat) : (d.tqHead t v).part = d.part := by
  simp [Dev.tqHead, apply_ite Dev.part]

@[simp] theorem Dev.heartbeat_part (d : Dev) : d.heartbeat.part = d.part := by
  simp [Dev.heartbeat, apply_ite Dev.part]

@[simp] theorem Dev.bell_part (d : Dev) (off v : Nat) : (d.bell off v).part = d.part := by
  simp [Dev.bell, apply_ite Dev.part]

@[simp] theorem Dev.hostBell_part (d : Dev) (off v : Nat) (act : Dev → Dev) (hfact : ∀ (x0 : Dev), (act x0).part = x0.part) :
    (d.hostBell off v act).part = d.part := by
  simp [Dev.hostBell, apply_ite Dev.part, *]

@[simp] theorem Dev.hostqReject_part (d : Dev) : d.hostqReject.part = d.part := by rfl

@[simp] theorem Dev.ringEnable_part (d : Dev) (r : Nat) : (d.ringEnable r).part = d.part := by
  simp [Dev.ringEnable, apply_ite Dev.part]

@[simp] theorem Dev.ringDisable_part (d : Dev) (r : Nat) : (d.ringDisable r).part = d.part := by
  simp [Dev.ringDisable, apply_ite Dev.part]

@[simp] theorem Dev.fenceClear_part (d : Dev) (q : Nat) : (d.fenceClear q).part = d.part := by rfl

@[simp] theorem Dev.hostReg_part (d : Dev) (off v : Nat) (act : Dev → Dev) (hfact : ∀ (x0 : Dev), (act x0).part = x0.part) :
    (d.hostReg off v act).part = d.part := by
  simp [Dev.hostReg, apply_ite Dev.part, *]

@[simp] theorem Dev.writeWdog_part (d : Dev) (v : Nat) : (d.writeWdog v).part = d.part := by
  simp [Dev.writeWdog, apply_ite Dev.part]

@[simp] theorem Dev.enterLost_part (d : Dev) (cause : Nat) : (d.enterLost cause).part = d.part := by
  simp [Dev.enterLost, apply_ite Dev.part]

@[simp] theorem Dev.clearRings_part (d : Dev) : d.clearRings.part = d.part := by
  simp [Dev.clearRings, apply_ite Dev.part]

@[simp] theorem Dev.pcieReset_part (d : Dev) (cause : Nat) : (d.pcieReset cause).part = d.part := by
  simp [Dev.pcieReset, apply_ite Dev.part]

@[simp] theorem Dev.pcieDown_part (d : Dev) (cause : Nat) (link : Bool) : (d.pcieDown cause link).part = d.part := by
  simp [Dev.pcieDown, apply_ite Dev.part]

@[simp] theorem Dev.pcieEvent_part (d : Dev) (cause : Nat) (link : Bool) : (d.pcieEvent cause link).part = d.part := by
  simp [Dev.pcieEvent, apply_ite Dev.part]

@[simp] theorem Dev.pcieUp_part (d : Dev) (speed width : Nat) : (d.pcieUp speed width).part = d.part := by
  simp [Dev.pcieUp]

@[simp] theorem Dev.setBus_part (d : Dev) (n : Nat) (x : BusSt) : (d.setBus n x).part = d.part := by
  simp [Dev.setBus, apply_ite Dev.part]

@[simp] theorem Dev.busMark_part (d : Dev) (n : Nat) : (d.busMark n).part = d.part := by
  simp [Dev.busMark]

@[simp] theorem Dev.busReject_part (d : Dev) (n : Nat) : (d.busReject n).part = d.part := by rfl

@[simp] theorem Dev.busCrc_part (d : Dev) (n : Nat) : (d.busCrc n).part = d.part := by
  simp [Dev.busCrc, apply_ite Dev.part]

@[simp] theorem Dev.busFraming_part (d : Dev) (n : Nat) : (d.busFraming n).part = d.part := by
  simp [Dev.busFraming, apply_ite Dev.part]

@[simp] theorem Dev.busTimeout_part (d : Dev) (n : Nat) : (d.busTimeout n).part = d.part := by
  simp [Dev.busTimeout, apply_ite Dev.part]

@[simp] theorem Dev.busDropped_part (d : Dev) (n : Nat) : (d.busDropped n).part = d.part := by
  simp [Dev.busDropped, apply_ite Dev.part]

@[simp] theorem Dev.fillRecv_part (d : Dev) (id : Nat) (f : BusFrame) : (d.fillRecv id f).part = d.part := by
  unfold Dev.fillRecv
  split <;> simp

@[simp] theorem Dev.busDeliver_part (d : Dev) (n : Nat) (f : BusFrame) : (d.busDeliver n f).part = d.part := by
  unfold Dev.busDeliver
  dsimp only
  (repeat' split) <;> simp

@[simp] theorem bodyBusRecv_part (id : Nat) (x : Sys2Proof.Desc) (d : Dev) : (bodyBusRecv id x d).part = d.part := by
  unfold bodyBusRecv
  dsimp only
  (repeat' split) <;> simp

@[simp] theorem Dev.busEmit_part (d : Dev) (n : Nat) (bytes : List Nat) : (d.busEmit n bytes).part = d.part := by
  simp [Dev.busEmit, apply_ite Dev.part]

@[simp] theorem Dev.dropSend_part (d : Dev) (n id : Nat) : (d.dropSend n id).part = d.part := by
  simp [Dev.dropSend]

@[simp] theorem Dev.endSend_part (d : Dev) (n id outcome : Nat) (response : List Nat) : (d.endSend n id outcome response).part = d.part := by
  unfold Dev.endSend
  split <;> simp

@[simp] theorem Dev.failSend_part (d : Dev) (n id : Nat) (st : Status) : (d.failSend n id st).part = d.part := by
  simp [Dev.failSend]

@[simp] theorem Dev.mstpEmit_part (d : Dev) (n kind dest : Nat) (data : List Nat) : (d.mstpEmit n kind dest data).part = d.part := by
  simp [Dev.mstpEmit]

@[simp] theorem Dev.mstpRing_part (d : Dev) (n : Nat) (on : Bool) : (d.mstpRing n on).part = d.part := by
  simp [Dev.mstpRing, apply_ite Dev.part]

@[simp] theorem Dev.mstpInit_part (d : Dev) (n : Nat) : (d.mstpInit n).part = d.part := by
  simp [Dev.mstpInit]

@[simp] theorem Dev.passToken_part (d : Dev) (n : Nat) : (d.passToken n).part = d.part := by
  simp [Dev.passToken]

@[simp] theorem Dev.pollMaster_part (d : Dev) (n a : Nat) : (d.pollMaster n a).part = d.part := by
  simp [Dev.pollMaster]

@[simp] theorem Dev.mstpSend_part (d : Dev) (n id : Nat) : (d.mstpSend n id).part = d.part := by
  unfold Dev.mstpSend
  split <;> simp

@[simp] theorem Dev.mstpUse_part (d : Dev) (n a2 : Nat) : (d.mstpUse n a2).part = d.part := by
  induction a2 generalizing d with
  | zero => rfl
  | succ fuel ih =>
    unfold Dev.mstpUse
    dsimp only
    split
    · simp
    · simp [apply_ite Dev.part, ih]

@[simp] theorem Dev.mstpToken_part (d : Dev) (n : Nat) : (d.mstpToken n).part = d.part := by
  simp [Dev.mstpToken]

@[simp] theorem Dev.mstpNext_part (d : Dev) (n : Nat) : (d.mstpNext n).part = d.part := by
  simp [Dev.mstpNext]

@[simp] theorem Dev.mstpReplied_part (d : Dev) (n : Nat) (act : Dev → Nat → Dev) (hfact : ∀ (x0 : Dev) (x1 : Nat), (act x0 x1).part = x0.part) :
    (d.mstpReplied n act).part = d.part := by
  unfold Dev.mstpReplied
  split <;> simp [*]

@[simp] theorem Dev.mstpTake_part (d : Dev) (n kind dest src : Nat) (data : List Nat) : (d.mstpTake n kind dest src data).part = d.part := by
  unfold Dev.mstpTake
  dsimp only
  (repeat' split) <;> simp

@[simp] theorem Dev.mstpInWait_part (d : Dev) (n kind dest src : Nat) (data : List Nat) : (d.mstpInWait n kind dest src data).part = d.part := by
  unfold Dev.mstpInWait
  dsimp only
  (repeat' split) <;> simp

@[simp] theorem Dev.mbStart_part (d : Dev) (n : Nat) : (d.mbStart n).part = d.part := by
  unfold Dev.mbStart
  dsimp only
  (repeat' split) <;> simp

@[simp] theorem Dev.mbEnd_part (d : Dev) (n : Nat) : (d.mbEnd n).part = d.part := by
  simp [Dev.mbEnd]

@[simp] theorem Dev.writeVar_part (d : Dev) (v : Nat) (w : VW) : (d.writeVar v w).part = d.part := by
  simp [Dev.writeVar]

@[simp] theorem Dev.mbFault_part (d : Dev) (n i : Nat) (on : Bool) (cause code : Nat) : (d.mbFault n i on cause code).part = d.part := by
  simp [Dev.mbFault, apply_ite Dev.part]

@[simp] theorem Dev.entryFailed_part (d : Dev) (n i cause : Nat) : (d.entryFailed n i cause).part = d.part := by
  simp [Dev.entryFailed, apply_ite Dev.part]

@[simp] theorem Dev.entryFault_part (d : Dev) (n i cause code : Nat) : (d.entryFault n i cause code).part = d.part := by
  simp [Dev.entryFault]

@[simp] theorem Dev.entryResponse_part (d : Dev) (n i : Nat) (bytes : List Nat) : (d.entryResponse n i bytes).part = d.part := by
  unfold Dev.entryResponse
  dsimp only
  (repeat' split) <;> simp

@[simp] theorem Dev.mbFailed_part (d : Dev) (n : Nat) (late : Bool) : (d.mbFailed n late).part = d.part := by
  unfold Dev.mbFailed
  dsimp only
  (repeat' split) <;> simp

@[simp] theorem Dev.plainStart_part (d : Dev) (n : Nat) : (d.plainStart n).part = d.part := by
  unfold Dev.plainStart
  dsimp only
  (repeat' split) <;> simp

@[simp] theorem Dev.t1lDown_part (d : Dev) (k : Nat) : (d.t1lDown k).part = d.part := by
  simp [Dev.t1lDown, apply_ite Dev.part]

@[simp] theorem Dev.mbSent_part (d : Dev) (n : Nat) (j : BusJob) : (d.mbSent n j).part = d.part := by
  unfold Dev.mbSent
  (repeat' split) <;> simp

@[simp] theorem Dev.mstpSent_part (d : Dev) (n : Nat) (j : BusJob) : (d.mstpSent n j).part = d.part := by
  unfold Dev.mstpSent
  (repeat' split) <;> simp

@[simp] theorem bodyBusSend_part (data : List Nat) (id : Nat) (x : Sys2Proof.Desc) (d : Dev) : (bodyBusSend data id x d).part = d.part := by
  unfold bodyBusSend
  dsimp only
  (repeat' split) <;> simp

@[simp] theorem settleBus_part (id : Nat) (r : Rec) (d : Dev) : (settleBus id r d).part = d.part := by
  simp [settleBus, apply_ite Dev.part]

@[simp] theorem Dev.busFlush_part (d : Dev) (n : Nat) (all : Bool) : (d.busFlush n all).part = d.part := by
  simp [Dev.busFlush, apply_ite Dev.part]

@[simp] theorem Dev.busStop_part (d : Dev) : d.busStop.part = d.part := by
  unfold Dev.busStop
  exact foldl_part (fun _ _ => by simp) _ _

@[simp] theorem Dev.busRestart_part (d : Dev) (n : Nat) : (d.busRestart n).part = d.part := by
  simp [Dev.busRestart, apply_ite Dev.part]

@[simp] theorem Dev.writeBusCfg_part (d : Dev) (n v : Nat) : (d.writeBusCfg n v).part = d.part := by
  simp [Dev.writeBusCfg, apply_ite Dev.part]

@[simp] theorem Dev.busWritten_part (d : Dev) (off i : Nat) : (d.busWritten off i).part = d.part := by
  simp [Dev.busWritten, apply_ite Dev.part]

@[simp] theorem bodyBusPollSet_part (id : Nat) (x : Sys2Proof.Desc) (d : Dev) : (bodyBusPollSet id x d).part = d.part := by
  simp [bodyBusPollSet, apply_ite Dev.part]

@[simp] theorem Dev.pollChecked_part (d : Dev) (id : Nat) (x : Sys2Proof.Desc) : (d.pollChecked id x).part = d.part := by
  unfold Dev.pollChecked
  repeat' first | (simp; done) | split | refine (part_of_eq_snd ‹_›).trans ?_ | simp

@[simp] theorem Dev.setPollList_part (d : Dev) (n : Nat) (l : List Nat) : (d.setPollList n l).part = d.part := by
  simp [Dev.setPollList]

@[simp] theorem Dev.pollTick_part (d : Dev) : d.pollTick.part = d.part := by
  simp [Dev.pollTick]

@[simp] theorem Dev.busThaw_part (d : Dev) : d.busThaw.part = d.part := by
  simp [Dev.busThaw]

@[simp] theorem Dev.busStart_part (d : Dev) : d.busStart.part = d.part := by
  simp [Dev.busStart]

@[simp] theorem Dev.writeFld_part (d : Dev) (f : Fld) (i v : Nat) : (d.writeFld f i v).part = d.part := by
  simp [Dev.writeFld, apply_ite Dev.part]

@[simp] theorem Dev.writeFlds_part (d : Dev) (fs : List Fld) (i v : Nat) : (d.writeFlds fs i v).part = d.part := by
  unfold Dev.writeFlds
  (repeat' split) <;> simp

@[simp] theorem Dev.writeBlsel_part (d : Dev) (v : Nat) : (d.writeBlsel v).part = d.part := by
  simp [Dev.writeBlsel, apply_ite Dev.part]

@[simp] theorem Dev.writeSeal_part (d : Dev) (v : Nat) : (d.writeSeal v).part = d.part := by
  simp [Dev.writeSeal, apply_ite Dev.part]

@[simp] theorem Dev.writeMemerrClr_part (d : Dev) (v : Nat) : (d.writeMemerrClr v).part = d.part := by
  simp [Dev.writeMemerrClr, apply_ite Dev.part]

@[simp] theorem Dev.bar4Word_part (d : Dev) (w : Nat) : (d.bar4Word w).2.part = d.part := by
  unfold Dev.bar4Word
  repeat' first | (simp; done) | split | refine (part_of_eq_snd ‹_›).trans ?_

@[simp] theorem Dev.bar4Words_part (d : Dev) (w a2 : Nat) : (d.bar4Words w a2).2.part = d.part := by
  induction a2 generalizing d w with
  | zero => rfl
  | succ n ih =>
    unfold Dev.bar4Words
    split
    · rfl
    · exact (ih _ (w + 1)).trans (Dev.bar4Word_part d w)

end Sys2Proof.Machine
end

section
/-! SUPPORT. No operation on the device changes the part: the operations of the field dies. -/

namespace Sys2Proof.Machine
open Sys2Proof

@[simp] theorem Dev.setConv_part (d : Dev) (c : Nat) (x : ConvSt) : (d.setConv c x).part = d.part := by rfl

@[simp] theorem Dev.beginVisit_part (d : Dev) (c : Nat) (v : Visit) : (d.beginVisit c v).part = d.part := by rfl

@[simp] theorem Dev.restartVisit_part (d : Dev) (c : Nat) : (d.restartVisit c).part = d.part := by
  unfold Dev.restartVisit
  split <;> simp

@[simp] theorem Dev.joinPair_part (d : Dev) (c : Nat) : (d.joinPair c).part = d.part := by
  simp [Dev.joinPair, apply_ite Dev.part]

@[simp] theorem Dev.beginPass_part (d : Dev) (c : Nat) : (d.beginPass c).2.part = d.part := by
  unfold Dev.beginPass
  dsimp only
  split <;> simp

@[simp] theorem Dev.endPass_part (d : Dev) (c : Nat) (again : Bool) : (d.endPass c again).part = d.part := by
  simp [Dev.endPass, apply_ite Dev.part]

@[simp] theorem Dev.putMeas_part (d : Dev) (h : Nat) (w : VW) : (d.putMeas h w).part = d.part := by rfl

@[simp] theorem Dev.uiFaultEvent_part (d : Dev) (ch : Nat) (was now : Bool) (v : Int) (cause : Nat) :
    (d.uiFaultEvent ch was now v cause).part = d.part := by
  simp [Dev.uiFaultEvent, apply_ite Dev.part]

@[simp] theorem Dev.updateChannel_part (d : Dev) (ch : Nat) (v : Int) (status cause slotP1 : Nat) :
    (d.updateChannel ch v status cause slotP1).part = d.part := by
  simp [Dev.updateChannel]

@[simp] theorem Dev.keepContact_part (d : Dev) (ch : Nat) (input : Int) : (d.keepContact ch input).part = d.part := by
  simp [Dev.keepContact, apply_ite Dev.part]

@[simp] theorem Dev.writeSlot_part (d : Dev) (n : Nat) (v : Int) (status remain : Nat) : (d.writeSlot n v status remain).part = d.part := by rfl

@[simp] theorem Dev.countOpened_part (d : Dev) (c ch : Nat) : (d.countOpened c ch).part = d.part := by rfl

@[simp] theorem Dev.nextVisit_part (d : Dev) (c e : Nat) : (d.nextVisit c e).part = d.part := by
  unfold Dev.nextVisit
  dsimp only
  (repeat' split) <;> simp

@[simp] theorem Dev.afterOutput_part (d : Dev) (c : Nat) (v : Visit) : (d.afterOutput c v).part = d.part := by
  simp [Dev.afterOutput, apply_ite Dev.part]

@[simp] theorem Dev.dropUrgent_part (d : Dev) (c : Nat) (o : UrgentOrigin) : (d.dropUrgent c o).part = d.part := by
  unfold Dev.dropUrgent
  split <;> simp

@[simp] theorem Dev.putUrgent_part (d : Dev) (c : Nat) (u : Urgent) : (d.putUrgent c u).part = d.part := by rfl

@[simp] theorem Dev.askUrgent_part (d : Dev) (c : Nat) (u : Urgent) : (d.askUrgent c u).part = d.part := by
  simp [Dev.askUrgent]

@[simp] theorem Dev.issueUrgent_part (d : Dev) (c : Nat) (u : Urgent) : (d.issueUrgent c u).part = d.part := by
  simp [Dev.issueUrgent, apply_ite Dev.part]

@[simp] theorem bodyMeasUrgent_part (id : Nat) (x : Sys2Proof.Desc) (d : Dev) : (bodyMeasUrgent id x d).part = d.part := by
  simp [bodyMeasUrgent, apply_ite Dev.part]

@[simp] theorem Dev.applyMeasUrgent_part (d : Dev) (id : Nat) (x : Sys2Proof.Desc) : (d.applyMeasUrgent id x).part = d.part := by
  simp [Dev.applyMeasUrgent, apply_ite Dev.part]

@[simp] theorem Dev.endUrgent_part (d : Dev) (c : Nat) : (d.endUrgent c).part = d.part := by
  unfold Dev.endUrgent
  dsimp only
  split <;> simp

@[simp] theorem Dev.flushUrgent_part (d : Dev) (c : Nat) : (d.flushUrgent c).part = d.part := by
  unfold Dev.flushUrgent
  exact foldl_part (fun _ _ => by split <;> simp) _ _

@[simp] theorem Dev.nextCal_part (d : Dev) (k : Nat) : (d.nextCal k).part = d.part := by
  unfold Dev.nextCal
  (repeat' split) <;> simp

@[simp] theorem Dev.queueCal_part (d : Dev) (k mask cause : Nat) : (d.queueCal k mask cause).part = d.part := by
  simp [Dev.queueCal, apply_ite Dev.part]

@[simp] theorem Dev.calAll_part (d : Dev) (cause : Nat) : (d.calAll cause).part = d.part := by
  simp [Dev.calAll, apply_ite Dev.part]

@[simp] theorem Dev.selfTest_part (d : Dev) (c : Nat) (vs : List Int) : (d.selfTest c vs).part = d.part := by
  simp [Dev.selfTest, apply_ite Dev.part]

@[simp] theorem Dev.startTests_part (d : Dev) (k : Nat) (ts : List (Nat × List Int)) : (d.startTests k ts).part = d.part := by
  simp [Dev.startTests, apply_ite Dev.part]

@[simp] theorem Dev.calCommitted_part (d : Dev) (c : Nat) : (d.calCommitted c).part = d.part := by
  simp [Dev.calCommitted]

@[simp] theorem bodyMeasCal_part (id : Nat) (x : Sys2Proof.Desc) (d : Dev) : (bodyMeasCal id x d).part = d.part := by
  simp [bodyMeasCal, apply_ite Dev.part]

@[simp] theorem Dev.markCapture_part (d : Dev) (g : Nat) (b : Bool) : (d.markCapture g b).part = d.part := by
  simp [Dev.markCapture]

@[simp] theorem bodyMeasCapture_part (id : Nat) (x : Sys2Proof.Desc) (d : Dev) : (bodyMeasCapture id x d).part = d.part := by
  simp [bodyMeasCapture, apply_ite Dev.part]

@[simp] theorem Dev.setCap_part (d : Dev) (g : Nat) (f : CapOp → CapOp) : (d.setCap g f).part = d.part := by rfl

@[simp] theorem Dev.capAdvance_part (d : Dev) (k : Nat) : (d.capAdvance k).part = d.part := by
  unfold Dev.capAdvance
  split <;> simp

@[simp] theorem Dev.capTake_part (d : Dev) (chunk : List (Nat × Nat)) : (d.capTake chunk).part = d.part := by
  simp [Dev.capTake]

@[simp] theorem Dev.dropCap_part (d : Dev) (o : CapOp) : (d.dropCap o).part = d.part := by
  simp [Dev.dropCap]

@[simp] theorem Dev.stopCalDie_part (d : Dev) (k mask : Nat) : (d.stopCalDie k mask).part = d.part := by
  simp [Dev.stopCalDie, apply_ite Dev.part]

@[simp] theorem Dev.endCal_part (d : Dev) (o : CalOp) : (d.endCal o).part = d.part := by
  simp [Dev.endCal]

@[simp] theorem Dev.stopCapDie_part (d : Dev) (k : Nat) (o : CapOp) : (d.stopCapDie k o).part = d.part := by
  simp [Dev.stopCapDie, apply_ite Dev.part]

@[simp] theorem Dev.stopUrgent_part (d : Dev) (id c : Nat) : (d.stopUrgent id c).part = d.part := by
  simp [Dev.stopUrgent, apply_ite Dev.part]

@[simp] theorem settleMeas_part (id : Nat) (r : Rec) (d : Dev) : (settleMeas id r d).part = d.part := by
  simp [settleMeas]

@[simp] theorem Dev.stopMeasDie_part (d : Dev) (k t : Nat) : (d.stopMeasDie k t).part = d.part := by
  unfold Dev.stopMeasDie
  split <;> simp

@[simp] theorem Dev.endMeas_part (d : Dev) (id t : Nat) : (d.endMeas id t).part = d.part := by
  unfold Dev.endMeas
  (repeat' split) <;> simp

@[simp] theorem Dev.applyMeasAbort_part (d : Dev) (k id t : Nat) : (d.applyMeasAbort k id t).part = d.part := by
  simp [Dev.applyMeasAbort, apply_ite Dev.part]

@[simp] theorem bodyMeasAbort_part (id : Nat) (x : Sys2Proof.Desc) (d : Dev) : (bodyMeasAbort id x d).part = d.part := by
  simp [bodyMeasAbort, apply_ite Dev.part]

@[simp] theorem Dev.measDip_part (d : Dev) : d.measDip.part = d.part := by
  simp [Dev.measDip]

@[simp] theorem Dev.measReject_part (d : Dev) : d.measReject.part = d.part := by rfl

@[simp] theorem Dev.writeUiMode_part (d : Dev) (u v : Nat) : (d.writeUiMode u v).part = d.part := by
  simp [Dev.writeUiMode, apply_ite Dev.part]

@[simp] theorem Dev.writeUiGainSh_part (d : Dev) (u v : Nat) : (d.writeUiGainSh u v).part = d.part := by
  simp [Dev.writeUiGainSh, apply_ite Dev.part]

@[simp] theorem Dev.writeConvCtrl_part (d : Dev) (c v : Nat) : (d.writeConvCtrl c v).part = d.part := by
  simp [Dev.writeConvCtrl, apply_ite Dev.part]

@[simp] theorem Dev.stopChannel_part (d : Dev) (h : Nat) : (d.stopChannel h).part = d.part := by
  unfold Dev.stopChannel
  repeat' first | (simp; done) | split | refine (foldl_part (fun _ _ => ?_) _ _).trans ?_ | simp

@[simp] theorem Dev.switchUi_part (d : Dev) (u tick : Nat) : (d.switchUi u tick).part = d.part := by
  simp [Dev.switchUi, apply_ite Dev.part]

@[simp] theorem Dev.switchUis_part (d : Dev) (k tick : Nat) : (d.switchUis k tick).part = d.part := by
  simp [Dev.switchUis]

@[simp] theorem Dev.latchMeas_part (d : Dev) (k tick : Nat) : (d.latchMeas k tick).part = d.part := by
  unfold Dev.latchMeas
  repeat' first | (simp; done) | split | refine (foldl_part (fun _ _ => ?_) _ _).trans ?_ | simp

@[simp] theorem Dev.takeSlots_part (d : Dev) (l : List (Nat × Nat × VW × Nat)) : (d.takeSlots l).part = d.part := by
  simp [Dev.takeSlots]

@[simp] theorem Dev.setDi_part (d : Dev) (i : Nat) (x : DiSt) : (d.setDi i x).part = d.part := by rfl

@[simp] theorem Dev.diApplyCfg_part (d : Dev) (i : Nat) : (d.diApplyCfg i).part = d.part := by
  simp [Dev.diApplyCfg, apply_ite Dev.part]

@[simp] theorem Dev.setDo_part (d : Dev) (o : Nat) (x : DoSt) : (d.setDo o x).part = d.part := by rfl

@[simp] theorem Dev.doCommand_part (d : Dev) (o : Nat) (b : Bool) : (d.doCommand o b).part = d.part := by
  simp [Dev.doCommand, apply_ite Dev.part]

@[simp] theorem Dev.allDosOff_part (d : Dev) (k : Nat) : (d.allDosOff k).part = d.part := by
  simp [Dev.allDosOff]

@[simp] theorem Dev.doFault_part (d : Dev) (o : Nat) : (d.doFault o).part = d.part := by
  simp [Dev.doFault]

@[simp] theorem Dev.doRecovered_part (d : Dev) (o : Nat) (left : DoState) : (d.doRecovered o left).part = d.part := by
  simp [Dev.doRecovered]

@[simp] theorem Dev.setFloat_part (d : Dev) (f : Nat) (x : FloatSt) : (d.setFloat f x).part = d.part := by rfl

@[simp] theorem Dev.floatDrivePair_part (d : Dev) (f : Nat) : (d.floatDrivePair f).part = d.part := by
  simp [Dev.floatDrivePair]

@[simp] theorem Dev.floatGo_part (d : Dev) (f : Nat) (dir : FloatDrive) : (d.floatGo f dir).part = d.part := by
  simp [Dev.floatGo]

@[simp] theorem Dev.floatHalt_part (d : Dev) (f : Nat) : (d.floatHalt f).part = d.part := by
  simp [Dev.floatHalt]

@[simp] theorem Dev.floatTarget_part (d : Dev) (f target : Nat) : (d.floatTarget f target).part = d.part := by
  simp [Dev.floatTarget, apply_ite Dev.part]

@[simp] theorem Dev.floatRun_part (d : Dev) (f : Nat) : (d.floatRun f).part = d.part := by
  unfold Dev.floatRun
  dsimp only
  (repeat' split) <;> simp

@[simp] theorem Dev.floatFault_part (d : Dev) (f cause : Nat) : (d.floatFault f cause).part = d.part := by
  simp [Dev.floatFault]

@[simp] theorem Dev.doFaultFloat_part (d : Dev) (o : Nat) : (d.doFaultFloat o).part = d.part := by
  simp [Dev.doFaultFloat, apply_ite Dev.part]

@[simp] theorem Dev.doMirror_part (d : Dev) (o : Nat) : (d.doMirror o).part = d.part := by
  simp [Dev.doMirror, apply_ite Dev.part]

@[simp] theorem Dev.doTrip_part (d : Dev) (o : Nat) (st : DoState) (ma : Nat) : (d.doTrip o st ma).part = d.part := by
  simp [Dev.doTrip]

@[simp] theorem Dev.darkOff_part (d : Dev) (k i : Nat) : (d.darkOff k i).part = d.part := by
  simp [Dev.darkOff]

@[simp] theorem Dev.darkBegin_part (d : Dev) (k i : Nat) : (d.darkBegin k i).part = d.part := by
  simp [Dev.darkBegin]

@[simp] theorem Dev.darkNowEnd_part (d : Dev) (id : Nat) : (d.darkNowEnd id).part = d.part := by
  simp [Dev.darkNowEnd, apply_ite Dev.part]

@[simp] theorem Dev.darkOver_part (d : Dev) (k found : Nat) : (d.darkOver k found).part = d.part := by
  simp [Dev.darkOver]

@[simp] theorem Dev.darkRestore_part (d : Dev) (o : Nat) : (d.darkRestore o).part = d.part := by
  simp [Dev.darkRestore]

@[simp] theorem Dev.doCross_part (d : Dev) (o partner : Nat) : (d.doCross o partner).part = d.part := by
  simp [Dev.doCross, *]

@[simp] theorem Dev.darkForced_part (d : Dev) (o : Nat) : (d.darkForced o).part = d.part := by
  simp [Dev.darkForced]

@[simp] theorem Dev.darkBoundary_part (d : Dev) (k : Nat) : (d.darkBoundary k).part = d.part := by
  unfold Dev.darkBoundary
  dsimp only
  (repeat' split) <;> simp

@[simp] theorem Dev.darkLeave_part (d : Dev) (k : Nat) : (d.darkLeave k).part = d.part := by
  unfold Dev.darkLeave
  dsimp only
  (repeat' split) <;> simp

@[simp] theorem Dev.applyDio_part (d : Dev) (k dos : Nat) (floats : List Nat) : (d.applyDio k dos floats).part = d.part := by
  simp [Dev.applyDio, apply_ite Dev.part]

@[simp] theorem Dev.floatSafe_part (d : Dev) (f : Nat) (dir : FloatDrive) : (d.floatSafe f dir).part = d.part := by
  simp [Dev.floatSafe, apply_ite Dev.part]

@[simp] theorem Dev.safeDio_part (d : Dev) (k : Nat) : (d.safeDio k).part = d.part := by
  unfold Dev.safeDio
  repeat' first | (simp; done) | split | refine (foldl_part (fun _ _ => ?_) _ _).trans ?_ | simp

@[simp] theorem Dev.takePage0_part (d : Dev) (k : Nat) (p : List Nat) : (d.takePage0 k p).part = d.part := by
  unfold Dev.takePage0
  exact foldl_part (fun _ _ => by simp) _ _

@[simp] theorem Dev.takePage1_part (d : Dev) (k tick : Nat) (p : List Nat) : (d.takePage1 k tick p).part = d.part := by
  unfold Dev.takePage1
  repeat' first | (simp; done) | split | refine (foldl_part (fun _ _ => ?_) _ _).trans ?_ | simp

@[simp] theorem bodyDioForce_part (id : Nat) (x : Sys2Proof.Desc) (d : Dev) : (bodyDioForce id x d).part = d.part := by
  simp [bodyDioForce, apply_ite Dev.part]

@[simp] theorem Dev.applyDioForce_part (d : Dev) (id : Nat) (x : Sys2Proof.Desc) : (d.applyDioForce id x).part = d.part := by
  simp [Dev.applyDioForce]

@[simp] theorem bodyDoClear_part (id : Nat) (x : Sys2Proof.Desc) (d : Dev) : (bodyDoClear id x d).part = d.part := by
  simp [bodyDoClear, apply_ite Dev.part]

@[simp] theorem Dev.applyDoClear_part (d : Dev) (id : Nat) (x : Sys2Proof.Desc) : (d.applyDoClear id x).part = d.part := by
  simp [Dev.applyDoClear]

@[simp] theorem bodyDarkTestNow_part (id : Nat) (x : Sys2Proof.Desc) (d : Dev) : (bodyDarkTestNow id x d).part = d.part := by
  simp [bodyDarkTestNow, apply_ite Dev.part]

@[simp] theorem Dev.applyDarkTestNow_part (d : Dev) (k id : Nat) : (d.applyDarkTestNow k id).part = d.part := by
  simp [Dev.applyDarkTestNow]

@[simp] theorem bodyFieldResume_part (id : Nat) (x : Sys2Proof.Desc) (d : Dev) : (bodyFieldResume id x d).part = d.part := by
  simp [bodyFieldResume, apply_ite Dev.part]

@[simp] theorem Dev.applyFieldResume_part (d : Dev) (id k : Nat) : (d.applyFieldResume id k).part = d.part := by
  simp [Dev.applyFieldResume, apply_ite Dev.part]

@[simp] theorem Dev.setPos_part (d : Dev) (p : Nat) (x : PosSt) : (d.setPos p x).part = d.part := by rfl

@[simp] theorem Dev.setEmu_part (d : Dev) (e : Nat) (x : EmuSt) : (d.setEmu e x).part = d.part := by rfl

@[simp] theorem Dev.posFaultEvent_part (d : Dev) (p : Nat) (on : Bool) (cause : Nat) : (d.posFaultEvent p on cause).part = d.part := by
  simp [Dev.posFaultEvent]

@[simp] theorem Dev.posFault_part (d : Dev) (p cause : Nat) : (d.posFault p cause).part = d.part := by
  simp [Dev.posFault, apply_ite Dev.part]

@[simp] theorem Dev.posClear_part (d : Dev) (p : Nat) (causes : List Nat) : (d.posClear p causes).part = d.part := by
  simp [Dev.posClear, apply_ite Dev.part]

@[simp] theorem Dev.emuAlign_part (d : Dev) (e : Nat) : (d.emuAlign e).part = d.part := by rfl

@[simp] theorem Dev.emuCheckLag_part (d : Dev) (e : Nat) : (d.emuCheckLag e).part = d.part := by
  simp [Dev.emuCheckLag, apply_ite Dev.part]

@[simp] theorem Dev.emuSense_part (d : Dev) (e : Nat) : (d.emuSense e).part = d.part := by
  simp [Dev.emuSense, apply_ite Dev.part]

@[simp] theorem Dev.emuFollow_part (d : Dev) (p : Nat) : (d.emuFollow p).part = d.part := by
  simp [Dev.emuFollow]

@[simp] theorem Dev.emuDrive_part (d : Dev) (e : Nat) : (d.emuDrive e).part = d.part := by rfl

@[simp] theorem Dev.emuRefresh_part (d : Dev) (k : Nat) : (d.emuRefresh k).part = d.part := by
  simp [Dev.emuRefresh]

@[simp] theorem Dev.posEvaluate_part (d : Dev) (p : Nat) : (d.posEvaluate p).part = d.part := by
  simp [Dev.posEvaluate, apply_ite Dev.part]

@[simp] theorem Dev.posCheckBegin_part (d : Dev) (p trigger : Nat) (desc : Option Nat) : (d.posCheckBegin p trigger desc).part = d.part := by
  simp [Dev.posCheckBegin, apply_ite Dev.part]

@[simp] theorem Dev.posCheckRecover_part (d : Dev) (p : Nat) : (d.posCheckRecover p).part = d.part := by
  simp [Dev.posCheckRecover, apply_ite Dev.part]

@[simp] theorem Dev.posCheckEnd_part (d : Dev) (p : Nat) (c : PosCheck) (mismatch : Bool) (counts : Nat) :
    (d.posCheckEnd p c mismatch counts).part = d.part := by
  unfold Dev.posCheckEnd
  (repeat' split) <;> simp

@[simp] theorem Dev.posInterval_part (d : Dev) (p : Nat) : (d.posInterval p).part = d.part := by
  unfold Dev.posInterval
  dsimp only
  (repeat' split) <;> simp

@[simp] theorem Dev.posReadFault_part (d : Dev) (p cause : Nat) : (d.posReadFault p cause).part = d.part := by
  simp [Dev.posReadFault, apply_ite Dev.part]

@[simp] theorem Dev.posReadGood_part (d : Dev) (p w t : Nat) (warning : Bool) : (d.posReadGood p w t warning).part = d.part := by
  simp [Dev.posReadGood, apply_ite Dev.part]

@[simp] theorem bodyPosPreset_part (id : Nat) (x : Sys2Proof.Desc) (d : Dev) : (bodyPosPreset id x d).part = d.part := by
  simp [bodyPosPreset, apply_ite Dev.part]

@[simp] theorem Dev.applyPosPreset_part (d : Dev) (id : Nat) (x : Sys2Proof.Desc) : (d.applyPosPreset id x).part = d.part := by
  simp [Dev.applyPosPreset, apply_ite Dev.part]

@[simp] theorem bodyPosCheck_part (id : Nat) (x : Sys2Proof.Desc) (d : Dev) : (bodyPosCheck id x d).part = d.part := by
  simp [bodyPosCheck, apply_ite Dev.part]

@[simp] theorem Dev.applyPosCheck_part (d : Dev) (id : Nat) (x : Sys2Proof.Desc) : (d.applyPosCheck id x).part = d.part := by
  simp [Dev.applyPosCheck, apply_ite Dev.part]

@[simp] theorem bodyEmuForce_part (id : Nat) (x : Sys2Proof.Desc) (d : Dev) : (bodyEmuForce id x d).part = d.part := by
  simp [bodyEmuForce, apply_ite Dev.part]

@[simp] theorem Dev.emuRealign_part (d : Dev) (e : Nat) : (d.emuRealign e).part = d.part := by
  simp [Dev.emuRealign]

@[simp] theorem Dev.applyEmuForce_part (d : Dev) (id : Nat) (x : Sys2Proof.Desc) : (d.applyEmuForce id x).part = d.part := by
  simp [Dev.applyEmuForce, apply_ite Dev.part]

@[simp] theorem settlePos_part (id : Nat) (r : Rec) (d : Dev) : (settlePos id r d).part = d.part := by
  simp [settlePos]

@[simp] theorem Dev.applyPosAbort_part (d : Dev) (id target : Nat) : (d.applyPosAbort id target).part = d.part := by
  unfold Dev.applyPosAbort
  dsimp only
  (repeat' split) <;> simp

@[simp] theorem bodyPosAbort_part (id : Nat) (x : Sys2Proof.Desc) (d : Dev) : (bodyPosAbort id x d).part = d.part := by
  simp [bodyPosAbort, apply_ite Dev.part]

@[simp] theorem Dev.posRestart_part (d : Dev) (p : Nat) : (d.posRestart p).part = d.part := by
  simp [Dev.posRestart, apply_ite Dev.part]

@[simp] theorem Dev.posApplyWrite_part (d : Dev) (off p v : Nat) (plain : Dev → Dev) (hfplain : ∀ (x0 : Dev), (plain x0).part = x0.part) :
    (d.posApplyWrite off p v plain).part = d.part := by
  simp [Dev.posApplyWrite, apply_ite Dev.part, *]

@[simp] theorem Dev.emuApplyCfg_part (d : Dev) (e : Nat) (plain : Dev → Dev) (hfplain : ∀ (x0 : Dev), (plain x0).part = x0.part) :
    (d.emuApplyCfg e plain).part = d.part := by
  simp [Dev.emuApplyCfg, apply_ite Dev.part, *]

@[simp] theorem Dev.posLeaveSafe_part (d : Dev) (k : Nat) : (d.posLeaveSafe k).part = d.part := by
  simp [Dev.posLeaveSafe]

@[simp] theorem Dev.posLinksUp_part (d : Dev) : d.posLinksUp.part = d.part := by
  simp [Dev.posLinksUp]

@[simp] theorem Dev.emuReleased_part (d : Dev) (es : List Nat) : (d.emuReleased es).part = d.part := by
  simp [Dev.emuReleased]

@[simp] theorem Dev.posBoundary_part (d : Dev) (k : Nat) : (d.posBoundary k).part = d.part := by
  simp [Dev.posBoundary]

@[simp] theorem Dev.takePosPage_part (d : Dev) (k tick : Nat) (l : List Nat) : (d.takePosPage k tick l).part = d.part := by
  simp [Dev.takePosPage]

@[simp] theorem Dev.setFan_part (d : Dev) (f : Nat) (x : FanSt) : (d.setFan f x).part = d.part := by rfl

@[simp] theorem Dev.fanTo_part (d : Dev) (f : Nat) (st : FanState) : (d.fanTo f st).part = d.part := by rfl

@[simp] theorem Dev.fanDrive_part (d : Dev) (f : Nat) : (d.fanDrive f).part = d.part := by rfl

@[simp] theorem Dev.fanFailedEvent_part (d : Dev) (f : Nat) (on : Bool) (cause ma : Nat) : (d.fanFailedEvent f on cause ma).part = d.part := by
  simp [Dev.fanFailedEvent]

@[simp] theorem Dev.tachLostEvent_part (d : Dev) (f : Nat) (on : Bool) (cause ma : Nat) : (d.tachLostEvent f on cause ma).part = d.part := by
  simp [Dev.tachLostEvent]

@[simp] theorem Dev.fanRetry_part (d : Dev) (f cause ma : Nat) : (d.fanRetry f cause ma).part = d.part := by
  simp [Dev.fanRetry, apply_ite Dev.part]

@[simp] theorem Dev.fanKick_part (d : Dev) (f : Nat) : (d.fanKick f).part = d.part := by rfl

@[simp] theorem Dev.fanOff_part (d : Dev) (f : Nat) (quiet : Bool) : (d.fanOff f quiet).part = d.part := by
  unfold Dev.fanOff
  dsimp only
  (repeat' split) <;> simp

@[simp] theorem Dev.fanBoundary_part (d : Dev) (f : Nat) : (d.fanBoundary f).part = d.part := by
  unfold Dev.fanBoundary
  dsimp only
  (repeat' split) <;> simp

@[simp] theorem Dev.setAo_part (d : Dev) (a : Nat) (x : AoSt) : (d.setAo a x).part = d.part := by rfl

@[simp] theorem Dev.aoDrive_part (d : Dev) (a : Nat) : (d.aoDrive a).part = d.part := by rfl

@[simp] theorem Dev.aoFaultEvent_part (d : Dev) (a : Nat) (on : Bool) : (d.aoFaultEvent a on).part = d.part := by
  simp [Dev.aoFaultEvent]

@[simp] theorem Dev.applyFanAo_part (d : Dev) (k : Nat) (fans aos : List Nat) : (d.applyFanAo k fans aos).part = d.part := by
  simp [Dev.applyFanAo]

@[simp] theorem Dev.safeFanAo_part (d : Dev) (k : Nat) : (d.safeFanAo k).part = d.part := by
  simp [Dev.safeFanAo]

@[simp] theorem Dev.fanAoDriven_part (d : Dev) (k : Nat) : (d.fanAoDriven k).part = d.part := by
  simp [Dev.fanAoDriven]

@[simp] theorem Dev.fanAoBoundary_part (d : Dev) (k : Nat) (aoMv : List (Nat × Nat)) : (d.fanAoBoundary k aoMv).part = d.part := by
  unfold Dev.fanAoBoundary
  repeat' first | (simp; done) | split | refine (foldl_part (fun _ _ => ?_) _ _).trans ?_

@[simp] theorem Dev.noteSpin_part (d : Dev) (f tick st : Nat) : (d.noteSpin f tick st).part = d.part := by rfl

@[simp] theorem Dev.takePage2_part (d : Dev) (k tick : Nat) (l : List Nat) : (d.takePage2 k tick l).part = d.part := by
  simp [Dev.takePage2, apply_ite Dev.part]

@[simp] theorem Dev.takeAoPage_part (d : Dev) (k tick : Nat) (l : List Nat) : (d.takeAoPage k tick l).part = d.part := by
  simp [Dev.takeAoPage]

@[simp] theorem Dev.fanCommand_part (d : Dev) (f : Nat) (force : Option Nat) : (d.fanCommand f force).2.part = d.part := by
  simp [Dev.fanCommand, apply_ite Dev.part]

@[simp] theorem bodyFanaoForce_part (id : Nat) (x : Sys2Proof.Desc) (d : Dev) : (bodyFanaoForce id x d).part = d.part := by
  simp [bodyFanaoForce, apply_ite Dev.part]

@[simp] theorem Dev.applyFanaoForce_part (d : Dev) (id : Nat) (x : Sys2Proof.Desc) : (d.applyFanaoForce id x).part = d.part := by
  simp [Dev.applyFanaoForce]

@[simp] theorem bodyFanClear_part (id : Nat) (x : Sys2Proof.Desc) (d : Dev) : (bodyFanClear id x d).part = d.part := by
  simp [bodyFanClear, apply_ite Dev.part]

@[simp] theorem Dev.applyFanClear_part (d : Dev) (id : Nat) (x : Sys2Proof.Desc) : (d.applyFanClear id x).part = d.part := by
  simp [Dev.applyFanClear, apply_ite Dev.part]

@[simp] theorem Dev.imageRefused_part (d : Dev) (kind code op : Nat) : (d.imageRefused kind code op).part = d.part := by
  simp [Dev.imageRefused]

@[simp] theorem Dev.readImage_part (d : Dev) (w len : Nat) : (d.readImage w len).2.part = d.part := by
  simp [Dev.readImage]

@[simp] theorem Dev.setSol_part (d : Dev) (c : Nat) (x : SolSt) : (d.setSol c x).part = d.part := by rfl

@[simp] theorem Dev.setBank_part (d : Dev) (b : Nat) (x : BankSt) : (d.setBank b x).part = d.part := by rfl

@[simp] theorem Dev.setFreeTokens_part (d : Dev) (k n : Nat) : (d.setFreeTokens k n).part = d.part := by
  simp [Dev.setFreeTokens, apply_ite Dev.part]

@[simp] theorem Dev.driveBank_part (d : Dev) (b : Nat) : (d.driveBank b).part = d.part := by rfl

@[simp] theorem Dev.solClose_part (d : Dev) (c now : Nat) (x : SolSt) : (d.solClose c now x).part = d.part := by
  simp [Dev.solClose, apply_ite Dev.part]

@[simp] theorem Dev.endPeak_part (d : Dev) (c : Nat) : (d.endPeak c).part = d.part := by
  simp [Dev.endPeak, apply_ite Dev.part]

@[simp] theorem Dev.shotOver_part (d : Dev) (id c : Nat) : (d.shotOver id c).part = d.part := by
  simp [Dev.shotOver, apply_ite Dev.part]

@[simp] theorem Dev.solComplete_part (d : Dev) (c : Nat) (st : Status) (outcome : Nat) : (d.solComplete c st outcome).part = d.part := by
  unfold Dev.solComplete
  dsimp only
  split <;> simp

@[simp] theorem Dev.solEnd_part (d : Dev) (c : Nat) (path : SolPath) (final : SolState) (st : Status) (outcome : Nat) :
    (d.solEnd c path final st outcome).part = d.part := by
  simp [Dev.solEnd]

@[simp] theorem Dev.solFaultEvent_part (d : Dev) (c : Nat) (on : Bool) (cause pc : Nat) : (d.solFaultEvent c on cause pc).part = d.part := by
  simp [Dev.solFaultEvent]

@[simp] theorem Dev.solFault_part (d : Dev) (c cause : Nat) (path : SolPath) : (d.solFault c cause path).part = d.part := by
  simp [Dev.solFault]

@[simp] theorem Dev.solCut_part (d : Dev) (c : Nat) (st : Status) (outcome : Nat) : (d.solCut c st outcome).part = d.part := by
  simp [Dev.solCut, apply_ite Dev.part]

@[simp] theorem Dev.solChop_part (d : Dev) (c mode now : Nat) (next : SolWait) : (d.solChop c mode now next).part = d.part := by
  simp [Dev.solChop, apply_ite Dev.part]

@[simp] theorem Dev.solStep_part (d : Dev) (c now : Nat) : (d.solStep c now).1.part = d.part := by
  unfold Dev.solStep
  dsimp only
  (repeat' split) <;> simp

@[simp] theorem Dev.solRun_part (a0 : Nat) (a1 : Dev) (a2 a3 : Nat) : (Dev.solRun a0 a1 a2 a3).part = a1.part := by
  induction a0 generalizing a1 a3 with
  | zero => exact Dev.solFault_part ..
  | succ n ih => simp [Dev.solRun, apply_ite Dev.part, ih]

@[simp] theorem Dev.solResume_part (d : Dev) (c now : Nat) : (d.solResume c now).part = d.part := by
  simp [Dev.solResume]

@[simp] theorem Dev.solStart_part (d : Dev) (c slot : Nat) (origin : ShotOrigin) : (d.solStart c slot origin).part = d.part := by
  simp [Dev.solStart, apply_ite Dev.part]

@[simp] theorem Dev.solRelease_part (d : Dev) (c now : Nat) : (d.solRelease c now).part = d.part := by
  simp [Dev.solRelease, apply_ite Dev.part]

@[simp] theorem Dev.solTtp_part (d : Dev) (c now us : Nat) (timeout : Bool) : (d.solTtp c now us timeout).part = d.part := by
  unfold Dev.solTtp
  dsimp only
  (repeat' split) <;> simp

@[simp] theorem Dev.solSense_part (d : Dev) (c : Nat) (m : Sys2Proof.SolSense) : (d.solSense c m).part = d.part := by
  unfold Dev.solSense
  (repeat' split) <;> simp

@[simp] theorem Dev.bankLate_part (d : Dev) (b : Nat) : (d.bankLate b).part = d.part := by
  simp [Dev.bankLate, apply_ite Dev.part]

@[simp] theorem Dev.solSkip_part (d : Dev) (c : Nat) : (d.solSkip c).part = d.part := by
  simp [Dev.solSkip, apply_ite Dev.part]

@[simp] theorem Dev.solLevelShot_part (d : Dev) (c : Nat) : (d.solLevelShot c).part = d.part := by
  simp [Dev.solLevelShot]

@[simp] theorem Dev.bankFault_part (d : Dev) (b cause ma : Nat) : (d.bankFault b cause ma).part = d.part := by
  simp [Dev.bankFault]

@[simp] theorem Dev.solLevel_part (d : Dev) (c : Nat) (level : Bool) : (d.solLevel c level).part = d.part := by
  unfold Dev.solLevel
  dsimp only
  (repeat' split) <;> simp

@[simp] theorem Dev.solStartDue_part (d : Dev) (k : Nat) : (d.solStartDue k).part = d.part := by
  simp [Dev.solStartDue, apply_ite Dev.part]

@[simp] theorem Dev.applySol_part (d : Dev) (k : Nat) (sols : List Nat) : (d.applySol k sols).part = d.part := by
  simp [Dev.applySol]

@[simp] theorem Dev.safeSol_part (d : Dev) (k : Nat) : (d.safeSol k).part = d.part := by
  unfold Dev.safeSol
  repeat' first | (simp; done) | split | refine (foldl_part (fun _ _ => ?_) _ _).trans ?_

@[simp] theorem Dev.cutSols_part (d : Dev) (k : Nat) : (d.cutSols k).part = d.part := by
  simp [Dev.cutSols]

@[simp] theorem Dev.solBoundary_part (d : Dev) (k vf24 : Nat) (hotClamps hotBanks : List Nat) :
    (d.solBoundary k vf24 hotClamps hotBanks).part = d.part := by
  simp [Dev.solBoundary, apply_ite Dev.part]

@[simp] theorem Dev.tokenAudit_part (d : Dev) (k free held : Nat) : (d.tokenAudit k free held).part = d.part := by
  simp [Dev.tokenAudit, apply_ite Dev.part]

@[simp] theorem Dev.takePage3_part (d : Dev) (k tick : Nat) (l : List Nat) : (d.takePage3 k tick l).part = d.part := by
  unfold Dev.takePage3
  repeat' first | (simp; done) | split | refine (foldl_part (fun _ _ => ?_) _ _).trans ?_ | simp

@[simp] theorem Dev.takeSolEvent_part (d : Dev) (code src time : Nat) (detail : List Nat) : (d.takeSolEvent code src time detail).part = d.part := by
  unfold Dev.takeSolEvent
  split <;> simp

@[simp] theorem Dev.setLoad_part (d : Dev) (b : Nat) (f : LoadOp → LoadOp) : (d.setLoad b f).part = d.part := by rfl

@[simp] theorem Dev.showLoads_part (d : Dev) : d.showLoads.part = d.part := by rfl

@[simp] theorem Dev.dropLoad_part (d : Dev) (b : Nat) : (d.dropLoad b).part = d.part := by rfl

@[simp] theorem bodyShuttleLoad_part (id : Nat) (x : Sys2Proof.Desc) (d : Dev) : (bodyShuttleLoad id x d).part = d.part := by
  simp [bodyShuttleLoad, apply_ite Dev.part]

@[simp] theorem Dev.shuttleChecked_part (d : Dev) (id : Nat) (x : Sys2Proof.Desc) : (d.shuttleChecked id x).part = d.part := by
  unfold Dev.shuttleChecked
  repeat' first | (simp; done) | split | refine (part_of_eq_snd ‹_›).trans ?_ | simp

@[simp] theorem Dev.shuttleTick_part (d : Dev) : d.shuttleTick.part = d.part := by
  simp [Dev.shuttleTick, apply_ite Dev.part]

@[simp] theorem Dev.applyCode_part (d : Dev) (b w v : Nat) : (d.applyCode b w v).part = d.part := by rfl

@[simp] theorem Dev.shuttleRestore_part (d : Dev) (b : Nat) : (d.shuttleRestore b).part = d.part := by
  unfold Dev.shuttleRestore
  repeat' first
    | with_reducible rfl | with_reducible refine ite_part ?_ ?_ | with_reducible refine (Dev.setBank_part ..).trans ?_
    | with_reducible refine (Dev.dput_part ..).trans ?_ | with_reducible refine (Dev.put_part ..).trans ?_
    | refine (foldl_part (fun _ _ => ?_) _ _).trans ?_

@[simp] theorem Dev.shuttleDip_part (d : Dev) : d.shuttleDip.part = d.part := by
  simp [Dev.shuttleDip]

@[simp] theorem Dev.postAhead_part (d : Dev) (k : Nat) (entry : Mail) : (d.postAhead k entry).part = d.part := by
  simp [Dev.postAhead, apply_ite Dev.part]

@[simp] theorem bodySolShot_part (id : Nat) (x : Sys2Proof.Desc) (d : Dev) : (bodySolShot id x d).part = d.part := by
  simp [bodySolShot, apply_ite Dev.part]

@[simp] theorem Dev.applySolShot_part (d : Dev) (id : Nat) (x : Sys2Proof.Desc) : (d.applySolShot id x).part = d.part := by
  simp [Dev.applySolShot, apply_ite Dev.part]

@[simp] theorem bodySolForce_part (id : Nat) (x : Sys2Proof.Desc) (d : Dev) : (bodySolForce id x d).part = d.part := by
  simp [bodySolForce, apply_ite Dev.part]

@[simp] theorem bodySolClear_part (id : Nat) (x : Sys2Proof.Desc) (d : Dev) : (bodySolClear id x d).part = d.part := by
  simp [bodySolClear, apply_ite Dev.part]

@[simp] theorem Dev.applySolClear_part (d : Dev) (id : Nat) (x : Sys2Proof.Desc) : (d.applySolClear id x).part = d.part := by
  simp [Dev.applySolClear, apply_ite Dev.part]

@[simp] theorem settleShuttle_part (id : Nat) (r : Rec) (d : Dev) : (settleShuttle id r d).part = d.part := by
  simp [settleShuttle]

@[simp] theorem Dev.applyShuttleAbort_part (d : Dev) (id target : Nat) : (d.applyShuttleAbort id target).part = d.part := by
  unfold Dev.applyShuttleAbort
  (repeat' split) <;> simp

@[simp] theorem bodyShuttleAbort_part (id : Nat) (x : Sys2Proof.Desc) (d : Dev) : (bodyShuttleAbort id x d).part = d.part := by
  simp [bodyShuttleAbort, apply_ite Dev.part]

@[simp] theorem Dev.mailNext_part (d : Dev) (k : Nat) : (d.mailNext k).part = d.part := by
  simp [Dev.mailNext, apply_ite Dev.part]

@[simp] theorem Dev.sendDown_part (d : Dev) (k : Nat) (freeze : Bool) : (d.sendDown k freeze).part = d.part := by
  simp [Dev.sendDown, apply_ite Dev.part]

@[simp] theorem Dev.darkApply_part (d : Dev) (k v : Nat) : (d.darkApply k v).part = d.part := by
  simp [Dev.darkApply]

@[simp] theorem Dev.applyReg_part (d : Dev) (k off v : Nat) : (d.applyReg k off v).part = d.part := by
  unfold Dev.applyReg
  split
  · rfl
  next fs i _ _ =>
    have hplain : ∀ y : Dev, (fs.foldl (fun (z : Dev) f => if f.ty = .rw then z.dput f i (bitsAt v f.lo f.width) else z) y).part = y.part :=
      fun y => foldl_part (fun z f => by simp [apply_ite Dev.part]) y fs
    simp [apply_ite Dev.part, hplain]

@[simp] theorem Dev.applyDesc_part (d : Dev) (k id : Nat) : (d.applyDesc k id).part = d.part := by
  unfold Dev.applyDesc
  (repeat' split) <;> simp

@[simp] theorem Dev.applyAbort_part (d : Dev) (k id target : Nat) : (d.applyAbort k id target).part = d.part := by
  unfold Dev.applyAbort
  (repeat' split) <;> simp

@[simp] theorem Dev.applyMail_part (d : Dev) (k : Nat) (dip : Bool) (m : Mail) : (d.applyMail k dip m).part = d.part := by
  unfold Dev.applyMail
  (repeat' split) <;> simp

@[simp] theorem Dev.applyOutputs_part (d : Dev) (k : Nat) (f : DownFrame) : (d.applyOutputs k f).part = d.part := by
  simp [Dev.applyOutputs]

@[simp] theorem Dev.enterRun_part (d : Dev) (k : Nat) (f : DownFrame) : (d.enterRun k f).part = d.part := by
  unfold Dev.enterRun
  dsimp only
  (repeat' split) <;> simp

@[simp] theorem Dev.enterHeld_part (d : Dev) (k : Nat) (st : OutState) : (d.enterHeld k st).part = d.part := by
  simp [Dev.enterHeld, apply_ite Dev.part]

@[simp] theorem Dev.safeOutputs_part (d : Dev) (k : Nat) : (d.safeOutputs k).part = d.part := by
  simp [Dev.safeOutputs]

@[simp] theorem Dev.enterSafe_part (d : Dev) (k cause : Nat) : (d.enterSafe k cause).part = d.part := by
  simp [Dev.enterSafe, apply_ite Dev.part]

@[simp] theorem Dev.safeFrame_part (d : Dev) (k : Nat) (f : DownFrame) : (d.safeFrame k f).part = d.part := by
  simp [Dev.safeFrame, apply_ite Dev.part]

@[simp] theorem Dev.goodBoundary_part (d : Dev) (k : Nat) (f : DownFrame) : (d.goodBoundary k f).part = d.part := by
  unfold Dev.goodBoundary
  dsimp only
  (repeat' split) <;> simp

@[simp] theorem Dev.badBoundary_part (d : Dev) (k : Nat) : (d.badBoundary k).part = d.part := by
  unfold Dev.badBoundary
  dsimp only
  split <;> simp

@[simp] theorem Dev.senseDos_part (d : Dev) (k : Nat) (sense : Sys2Proof.FieldSense) : (d.senseDos k sense).part = d.part := by
  simp [Dev.senseDos]

@[simp] theorem Dev.sendUp_part (d : Dev) (k : Nat) : (d.sendUp k).part = d.part := by
  simp [Dev.sendUp, apply_ite Dev.part]

@[simp] theorem Dev.takeWord_part (d : Dev) (p : Produced) : (d.takeWord p).part = d.part := by
  simp [Dev.takeWord, apply_ite Dev.part]

@[simp] theorem Dev.takeStates_part (d : Dev) (k latch : Nat) (dis dos : List Nat) : (d.takeStates k latch dis dos).part = d.part := by
  simp [Dev.takeStates, apply_ite Dev.part]

@[simp] theorem Dev.takePage_part (d : Dev) (k latch page : Nat) (l : List Nat) : (d.takePage k latch page l).part = d.part := by
  unfold Dev.takePage
  split <;> simp

@[simp] theorem Dev.takeEvent_part (d : Dev) (k latch : Nat) (e : DieEvent) : (d.takeEvent k latch e).part = d.part := by
  unfold Dev.takeEvent
  (repeat' split) <;> simp

@[simp] theorem Dev.setUpMiss_part (d : Dev) (k n : Nat) : (d.setUpMiss k n).part = d.part := by
  simp [Dev.setUpMiss, apply_ite Dev.part]

@[simp] theorem Dev.setUpHist_part (d : Dev) (k : Nat) (h : UpHist) : (d.setUpHist k h).part = d.part := by
  simp [Dev.setUpHist, apply_ite Dev.part]

@[simp] theorem Dev.upTick_part (d : Dev) (k : Nat) : (d.upTick k).part = d.part := by
  simp [Dev.upTick]

@[simp] theorem Dev.upSeen_part (d : Dev) (k page : Nat) : (d.upSeen k page).part = d.part := by
  simp [Dev.upSeen]

@[simp] theorem Dev.takeUp_part (d : Dev) (k : Nat) (f : UpFrame) : (d.takeUp k f).part = d.part := by
  unfold Dev.takeUp
  repeat' first | (simp; done) | split | refine (foldl_part (fun _ _ => ?_) _ _).trans ?_

@[simp] theorem Dev.barrierWords_part (d : Dev) (k : Nat) : (d.barrierWords k).part = d.part := by
  simp [Dev.barrierWords]

@[simp] theorem Dev.fieldErrClr_part (d : Dev) (k : Nat) : (d.fieldErrClr k).part = d.part := by rfl

@[simp] theorem Dev.fieldReject_part (d : Dev) (k : Nat) : (d.fieldReject k).part = d.part := by rfl

@[simp] theorem Dev.writeField_part (d : Dev) (off v : Nat) : (d.writeField off v).part = d.part := by
  unfold Dev.writeField
  repeat' first
    | with_reducible rfl | with_reducible refine ite_part ?_ ?_ | with_reducible refine (Dev.fieldReject_part ..).trans ?_
    | with_reducible refine (Dev.fieldErrClr_part ..).trans ?_ | with_reducible refine (Dev.writeFlds_part ..).trans ?_
    | with_reducible refine (Dev.post_part ..).trans ?_ | with_reducible refine (Dev.markRet_part ..).trans ?_
    | with_reducible refine (Dev.put_part ..).trans ?_ | split | refine (foldl_part (fun _ _ => ?_) _ _).trans ?_

end Sys2Proof.Machine
end

section
/-! SUPPORT. No operation on the device changes the part: the operations of the engines of time, prediction and control. -/

namespace Sys2Proof.Machine
open Sys2Proof

@[simp] theorem Dev.setZone_part (d : Dev) (z : Nat) (x : ZoneSt) : (d.setZone z x).part = d.part := by rfl

@[simp] theorem Dev.showSched_part (d : Dev) : d.showSched.part = d.part := by rfl

@[simp] theorem Dev.setOverride_part (d : Dev) (z : Nat) (o : Option (Nat × Nat)) (expired : Bool) :
    (d.setOverride z o expired).part = d.part := by rfl

@[simp] theorem Dev.schedOp_part (d : Dev) (o : SchedOp) : (d.schedOp o).part = d.part := by
  simp [Dev.schedOp, apply_ite Dev.part]

@[simp] theorem Dev.expireOverride_part (d : Dev) (z : Nat) : (d.expireOverride z).part = d.part := by
  unfold Dev.expireOverride
  (repeat' split) <;> simp

@[simp] theorem Dev.schedTime_part (d : Dev) : d.schedTime.part = d.part := by
  simp [Dev.schedTime, apply_ite Dev.part]

@[simp] theorem Dev.evalProg_part (d : Dev) (p : Nat) : (d.evalProg p).part = d.part := by rfl

@[simp] theorem Dev.presenceExpire_part (d : Dev) (z : Nat) : (d.presenceExpire z).part = d.part := by
  unfold Dev.presenceExpire
  dsimp only
  (repeat' split) <;> simp

@[simp] theorem Dev.evalPresence_part (d : Dev) (z : Nat) : (d.evalPresence z).part = d.part := by
  simp [Dev.evalPresence, apply_ite Dev.part]

@[simp] theorem Dev.evalOpt_part (d : Dev) (z : Nat) : (d.evalOpt z).part = d.part := by
  unfold Dev.evalOpt
  dsimp only
  (repeat' split) <;> simp

@[simp] theorem Dev.evalLevel_part (d : Dev) (z : Nat) : (d.evalLevel z).part = d.part := by
  simp [Dev.evalLevel, apply_ite Dev.part]

@[simp] theorem Dev.endOverride_part (d : Dev) (o : SchedOp) : (d.endOverride o).part = d.part := by
  simp [Dev.endOverride, apply_ite Dev.part]

@[simp] theorem Dev.schedEvaluate_part (d : Dev) : d.schedEvaluate.part = d.part := by
  simp [Dev.schedEvaluate]

@[simp] theorem Dev.addSched_part (d : Dev) (o : SchedOp) : (d.addSched o).part = d.part := by rfl

@[simp] theorem bodySchedSet_part (kind cls id : Nat) (x : Sys2Proof.Desc) (d : Dev) : (bodySchedSet kind cls id x d).part = d.part := by
  simp [bodySchedSet, apply_ite Dev.part]

@[simp] theorem Dev.schedChecked_part (d : Dev) (id : Nat) (x : Sys2Proof.Desc) : (d.schedChecked id x).part = d.part := by
  unfold Dev.schedChecked
  repeat' first | (simp; done) | split | refine (part_of_eq_snd ‹_›).trans ?_ | simp

@[simp] theorem bodyZoneOverride_part (id : Nat) (x : Sys2Proof.Desc) (d : Dev) : (bodyZoneOverride id x d).part = d.part := by
  simp [bodyZoneOverride, apply_ite Dev.part]

@[simp] theorem Dev.setCivil_part (d : Dev) (q utc : Nat) (offset : Int) : (d.setCivil q utc offset).part = d.part := by
  simp [Dev.setCivil]

@[simp] theorem bodyCivilSet_part (id : Nat) (x : Sys2Proof.Desc) (d : Dev) : (bodyCivilSet id x d).part = d.part := by
  simp [bodyCivilSet]

@[simp] theorem bodyDstLoad_part (id : Nat) (x : Sys2Proof.Desc) (d : Dev) : (bodyDstLoad id x d).part = d.part := by
  unfold bodyDstLoad
  repeat' first | (simp; done) | split | refine (part_of_eq_snd ‹_›).trans ?_ | simp

@[simp] theorem Dev.readTables_part (d : Dev) : d.readTables.2.part = d.part := by
  unfold Dev.readTables
  dsimp only
  (repeat' split) <;> simp

@[simp] theorem Dev.putNodes_part (d : Dev) (bs : List Nat) : (d.putNodes bs).part = d.part := by
  simp [Dev.putNodes]

@[simp] theorem Dev.putCoups_part (d : Dev) (bs : List Nat) : (d.putCoups bs).part = d.part := by
  simp [Dev.putCoups]

@[simp] theorem Dev.patReport_part (d : Dev) (r : Nat × Nat × Nat × List Nat) : (d.patReport r).part = d.part := by
  simp [Dev.patReport, apply_ite Dev.part]

@[simp] theorem Dev.runStep_part (d : Dev) (m : PatModel) (old : List NodeS) (mult : List Nat) : (d.runStep m old mult).part = d.part := by
  simp [Dev.runStep, apply_ite Dev.part]

@[simp] theorem Dev.missStart_part (d : Dev) (cause : Nat) : (d.missStart cause).part = d.part := by
  simp [Dev.missStart, apply_ite Dev.part]

@[simp] theorem Dev.tableFault_part (d : Dev) (w : Nat) : (d.tableFault w).part = d.part := by
  simp [Dev.tableFault, apply_ite Dev.part]

@[simp] theorem Dev.repeatStale_part (d : Dev) : d.repeatStale.part = d.part := by
  simp [Dev.repeatStale, apply_ite Dev.part]

@[simp] theorem Dev.clearWords_part (d : Dev) : d.clearWords.part = d.part := by
  simp [Dev.clearWords, apply_ite Dev.part]

@[simp] theorem Dev.setSuspect_part (d : Dev) (l : List Nat) : (d.setSuspect l).part = d.part := by rfl

@[simp] theorem Dev.saveEst_part (d : Dev) (i : Nat) (v : Int) : (d.saveEst i v).part = d.part := by
  simp [Dev.saveEst, apply_ite Dev.part]

@[simp] theorem Dev.saveEsts_part (d : Dev) (st : List NodeS) : (d.saveEsts st).part = d.part := by
  simp [Dev.saveEsts]

@[simp] theorem Dev.publishNode_part (d : Dev) (s i : Nat) (o : NodeS) : (d.publishNode s i o).part = d.part := by
  simp [Dev.publishNode, apply_ite Dev.part]

@[simp] theorem Dev.publishNodes_part (d : Dev) (s : Nat) (st : List NodeS) : (d.publishNodes s st).part = d.part := by
  simp [Dev.publishNodes]

@[simp] theorem Dev.resetNodeWord_part (d : Dev) (w : Nat) : (d.resetNodeWord w).part = d.part := by
  simp [Dev.resetNodeWord]

@[simp] theorem Dev.resetCoupWord_part (d : Dev) (w : Nat) : (d.resetCoupWord w).part = d.part := by
  simp [Dev.resetCoupWord]

@[simp] theorem Dev.readState_part (d : Dev) : d.readState.2.part = d.part := by
  unfold Dev.readState
  dsimp only
  split
  · split <;> exact (Dev.readWords_part ..).trans (Dev.readWords_part ..)
  · exact (foldl_part (fun z w => Dev.resetCoupWord_part z w) _ _).trans (foldl_part (fun z w => Dev.resetNodeWord_part z w) _ _)

@[simp] theorem Dev.soundState_part (d : Dev) : d.soundState.2.part = d.part := by
  unfold Dev.soundState
  repeat' first | (simp; done) | split | refine (part_of_eq_snd ‹_›).trans ?_ | simp

@[simp] theorem Dev.patApplyReset_part (d : Dev) (mask : Nat) : (d.patApplyReset mask).part = d.part := by
  simp [Dev.patApplyReset, apply_ite Dev.part]

@[simp] theorem Dev.patResets_part (d : Dev) : d.patResets.part = d.part := by
  simp [Dev.patResets, apply_ite Dev.part]

@[simp] theorem Dev.readStaged_part (d : Dev) (x : Sys2Proof.Desc) : (d.readStaged x).2.part = d.part := by
  unfold Dev.readStaged
  dsimp only
  (repeat' split) <;> simp

@[simp] theorem Dev.showPat_part (d : Dev) : d.showPat.part = d.part := by rfl

@[simp] theorem Dev.oldCoups_part (d : Dev) : d.oldCoups.2.part = d.part := by
  unfold Dev.oldCoups
  split <;> simp

@[simp] theorem Dev.keptState_part (d : Dev) (m : PatModel) : (d.keptState m).2.part = d.part := by
  unfold Dev.keptState
  split <;> simp

@[simp] theorem Dev.placeModel_part (d : Dev) (m : PatModel) (h ns cs bs : List Nat) (est : Nat → Option Int) (mul : Nat → Option Nat) :
    (d.placeModel m h ns cs bs est mul).1.part = d.part := by
  simp [Dev.placeModel]

@[simp] theorem Dev.endLoad_part (d : Dev) (st : Status) (result : Nat) : (d.endLoad st result).part = d.part := by
  unfold Dev.endLoad
  split <;> simp

@[simp] theorem Dev.endPredictions_part (d : Dev) (st : Status) : (d.endPredictions st).part = d.part := by
  simp [Dev.endPredictions]

@[simp] theorem Dev.patCommit_part (d : Dev) (l : PatLoad) : (d.patCommit l).1.part = d.part := by
  unfold Dev.patCommit
  repeat' first
    | with_reducible rfl | with_reducible refine (Dev.endPredictions_part ..).trans ?_ | with_reducible refine (Dev.endLoad_part ..).trans ?_
    | with_reducible refine (Dev.placeModel_part ..).trans ?_ | with_reducible refine (Dev.keptState_part ..).trans ?_
    | with_reducible refine (Dev.readStaged_part ..).trans ?_ | with_reducible refine (Dev.publishNodes_part ..).trans ?_
    | with_reducible refine (Dev.clearWords_part ..).trans ?_ | with_reducible refine (Dev.raise_part ..).trans ?_
    | with_reducible refine (Dev.putRet_part ..).trans ?_ | with_reducible refine (Dev.markRec_part ..).trans ?_
    | with_reducible refine (Dev.put_part ..).trans ?_ | refine (part_of_eq_snd ‹_›).trans ?_ | split

@[simp] theorem Dev.patCtrl_part (d : Dev) (v : Nat) : (d.patCtrl v).part = d.part := by rfl

@[simp] theorem Dev.showRunning_part (d : Dev) : d.showRunning.part = d.part := by rfl

@[simp] theorem Dev.beforeStep_part (d : Dev) : d.beforeStep.1.part = d.part := by
  unfold Dev.beforeStep
  repeat' first
    | with_reducible rfl | with_reducible refine (Dev.patCtrl_part ..).trans ?_ | with_reducible refine (Dev.patCommit_part ..).trans ?_
    | with_reducible refine (Dev.patResets_part ..).trans ?_ | split | dsimp only

@[simp] theorem Dev.patStep_part (d : Dev) : d.patStep.part = d.part := by
  unfold Dev.patStep
  repeat' first | (simp; done) | split | refine (part_of_eq_snd ‹_›).trans ?_ | refine (foldl_part (fun _ _ => ?_) _ _).trans ?_ | simp

@[simp] theorem Dev.patPassed_part (d : Dev) (t u : Nat) : (d.patPassed t u).part = d.part := by
  simp [Dev.patPassed, apply_ite Dev.part]

@[simp] theorem Dev.forecasts_part (d : Dev) (m : PatModel) : (d.forecasts m).2.part = d.part := by
  simp [Dev.forecasts, apply_ite Dev.part, apply_ite Prod.snd]

@[simp] theorem Dev.zonePredict_part (d : Dev) (m : PatModel) (s : Nat) (ts : List (List Int)) (z : Nat) :
    (d.zonePredict m s ts z).part = d.part := by
  simp [Dev.zonePredict, apply_ite Dev.part]

@[simp] theorem Dev.hostPredStep_part (d : Dev) (p : HostPred) (rest : List HostPred) (x : Sys2Proof.Desc) (done : Nat) :
    (d.hostPredStep p rest x done).part = d.part := by
  unfold Dev.hostPredStep
  repeat' first | (simp; done) | split | refine (part_of_eq_snd ‹_›).trans ?_ | simp

@[simp] theorem Dev.patChecked_part (d : Dev) (x : Sys2Proof.Desc) : (d.patChecked x).part = d.part := by
  unfold Dev.patChecked
  repeat' first
    | with_reducible rfl | with_reducible refine ite_part ?_ ?_ | with_reducible refine (Dev.endLoad_part ..).trans ?_
    | with_reducible refine (Dev.readStaged_part ..).trans ?_ | with_reducible refine (Dev.readWords_part ..).trans ?_
    | refine (part_of_eq_snd ‹_›).trans ?_ | split | dsimp only

@[simp] theorem Dev.patSlotWritten_part (d : Dev) (id : Nat) : (d.patSlotWritten id).part = d.part := by
  unfold Dev.patSlotWritten
  repeat' first
    | with_reducible rfl | with_reducible refine ite_part ?_ ?_ | with_reducible refine (Dev.showRunning_part ..).trans ?_
    | with_reducible refine (Dev.patCommit_part ..).trans ?_ | split

@[simp] theorem bodyPatLoad_part (id : Nat) (x : Sys2Proof.Desc) (d : Dev) : (bodyPatLoad id x d).part = d.part := by
  simp [bodyPatLoad, apply_ite Dev.part]

@[simp] theorem bodyPatPredict_part (id : Nat) (x : Sys2Proof.Desc) (d : Dev) : (bodyPatPredict id x d).part = d.part := by
  simp [bodyPatPredict, apply_ite Dev.part]

@[simp] theorem settlePat_part (id : Nat) (r : Rec) (d : Dev) : (settlePat id r d).part = d.part := by
  unfold settlePat
  (repeat' split) <;> simp

@[simp] theorem bodyPatAbort_part (id : Nat) (x : Sys2Proof.Desc) (d : Dev) : (bodyPatAbort id x d).part = d.part := by
  simp [bodyPatAbort, apply_ite Dev.part]

@[simp] theorem bodyPatReset_part (id : Nat) (x : Sys2Proof.Desc) (d : Dev) : (bodyPatReset id x d).part = d.part := by
  simp [bodyPatReset, apply_ite Dev.part]

@[simp] theorem Dev.patDip_part (d : Dev) : d.patDip.part = d.part := by
  simp [Dev.patDip]

@[simp] theorem Dev.writePatCtrl_part (d : Dev) (v : Nat) : (d.writePatCtrl v).part = d.part := by
  simp [Dev.writePatCtrl, apply_ite Dev.part]

@[simp] theorem Dev.patRestore_part (d : Dev) (est : Option (List Nat)) : (d.patRestore est).part = d.part := by
  simp [Dev.patRestore, apply_ite Dev.part]

@[simp] theorem Dev.setLoop_part (d : Dev) (l : Nat) (x : LoopSt) : (d.setLoop l x).part = d.part := by rfl

@[simp] theorem Dev.readSecs_part (d : Dev) (a1 : List Nat) : (d.readSecs a1).2.2.part = d.part := by
  induction a1 generalizing d with
  | nil => rfl
  | cons k ks ih =>
    unfold Dev.readSecs
    dsimp only
    split <;> exact (ih _).trans (Dev.readWords_part ..)

@[simp] theorem Dev.writeSecs_part (d : Dev) (ks : List Nat) (st : SecStates) : (d.writeSecs ks st).part = d.part := by
  simp [Dev.writeSecs]

@[simp] theorem Dev.showLoop_part (d : Dev) (l : Nat) : (d.showLoop l).part = d.part := by rfl

@[simp] theorem Dev.showEngine_part (d : Dev) : d.showEngine.part = d.part := by rfl

@[simp] theorem Dev.loopPublish_part (d : Dev) (l : Nat) (v : Int) (st : Nat) : (d.loopPublish l v st).part = d.part := by
  simp [Dev.loopPublish, apply_ite Dev.part]

@[simp] theorem Dev.heldPublish_part (d : Dev) (l : Nat) : (d.heldPublish l).part = d.part := by
  simp [Dev.heldPublish, apply_ite Dev.part]

@[simp] theorem Dev.takeModeWaits_part (d : Dev) (l : Nat) : (d.takeModeWaits l).part = d.part := by rfl

@[simp] theorem Dev.takeModeSource_part (d : Dev) (l : Nat) : (d.takeModeSource l).part = d.part := by
  unfold Dev.takeModeSource
  dsimp only
  (repeat' split) <;> simp

@[simp] theorem Dev.handOver_part (d : Dev) (l : Nat) : (d.handOver l).1.part = d.part := by
  unfold Dev.handOver
  dsimp only
  (repeat' split) <;> simp

@[simp] theorem Dev.enterHold_part (d : Dev) (l cause : Nat) (held : Int) : (d.enterHold l cause held).part = d.part := by
  simp [Dev.enterHold]

@[simp] theorem Dev.enterLoopSafe_part (d : Dev) (l : Nat) (e : Int) : (d.enterLoopSafe l e).part = d.part := by
  simp [Dev.enterLoopSafe]

@[simp] theorem Dev.leaveHeld_part (d : Dev) (l : Nat) (clear : Bool) : (d.leaveHeld l clear).part = d.part := by
  simp [Dev.leaveHeld, apply_ite Dev.part]

@[simp] theorem Dev.feCheck_part (d : Dev) (l : Nat) (e sigma : Int) : (d.feCheck l e sigma).1.part = d.part := by
  simp [Dev.feCheck, apply_ite Dev.part, apply_ite Prod.fst]

@[simp] theorem Dev.finishWaits_part (d : Dev) (l before : Nat) : (d.finishWaits l before).part = d.part := by
  simp [Dev.finishWaits]

@[simp] theorem Dev.setChalk_part (d : Dev) (c : Nat) (x : Option ChalkSt) : (d.setChalk c x).part = d.part := by rfl

@[simp] theorem Dev.chalkValues_part (d : Dev) (x : Sys2Proof.Desc) (ctx : ChalkCtx) : (d.chalkValues x ctx).2.part = d.part := by
  unfold Dev.chalkValues
  repeat' first | (simp; done) | split | refine (foldl_snd_part (fun _ _ => ?_) _ _).trans ?_

@[simp] theorem Dev.showChalk_part (d : Dev) (c : Nat) : (d.showChalk c).part = d.part := by
  unfold Dev.showChalk
  split <;> simp

@[simp] theorem Dev.chalkRecord_part (d : Dev) (c : Nat) (s0 : ChalkSt) (ctx : ChalkCtx) : (d.chalkRecord c s0 ctx).part = d.part := by
  simp [Dev.chalkRecord, apply_ite Dev.part]

@[simp] theorem Dev.chalkAll_part (d : Dev) (l : Nat) (ctx : ChalkCtx) : (d.chalkAll l ctx).part = d.part := by
  unfold Dev.chalkAll
  repeat' first | (simp; done) | split | refine (foldl_part (fun _ _ => ?_) _ _).trans ?_ | simp

@[simp] theorem Dev.chalkEnd_part (d : Dev) (c : Nat) (st : Status) : (d.chalkEnd c st).part = d.part := by
  unfold Dev.chalkEnd
  (repeat' split) <;> simp

@[simp] theorem Dev.putTrace_part (d : Dev) (q t : Nat) (a3 : List (List Nat)) : (d.putTrace q t a3).part = d.part := by
  induction a3 generalizing d t with
  | nil => rfl
  | cons u us ih => exact (ih _ _).trans (by simp [apply_ite Dev.part])

@[simp] theorem Dev.chalkRead_part (d : Dev) (w a2 : Nat) : (d.chalkRead w a2).2.part = d.part := by
  induction a2 generalizing d w with
  | zero => rfl
  | succ n ih =>
    unfold Dev.chalkRead
    dsimp only
    split <;> exact (ih _ (w + 1)).trans (Dev.readWord_part ..)

@[simp] theorem Dev.heldStates_part (d : Dev) (l : Nat) : (d.heldStates l).2.part = d.part := by
  unfold Dev.heldStates
  dsimp only
  (repeat' split) <;> simp

@[simp] theorem Dev.heldCompute_part (d : Dev) (l before : Nat) (sp fb : Option Int) (ev : Nat) :
    (d.heldCompute l before sp fb ev).part = d.part := by
  unfold Dev.heldCompute
  repeat' first
    | with_reducible rfl | with_reducible refine ite_part ?_ ?_ | with_reducible refine (Dev.heldStates_part ..).trans ?_
    | with_reducible refine (Dev.chalkAll_part ..).trans ?_ | with_reducible refine (Dev.finishWaits_part ..).trans ?_
    | with_reducible refine (Dev.feCheck_part ..).trans ?_ | with_reducible refine (Dev.enterLoopSafe_part ..).trans ?_
    | with_reducible refine (Dev.heldPublish_part ..).trans ?_ | with_reducible refine (Dev.showLoop_part ..).trans ?_
    | with_reducible refine (Dev.setLoop_part ..).trans ?_ | split

@[simp] theorem Dev.runCompute_part (d : Dev) (l before : Nat) (missing : Bool) (st : SecStates) (sp fb ff : Int) (sps : List (Nat × Int))
    (subst : Bool) (ho : Option (Nat × Nat × Nat)) :
    (d.runCompute l before missing st sp fb ff sps subst ho).part = d.part := by
  unfold Dev.runCompute
  repeat' first
    | with_reducible rfl | with_reducible refine ite_part ?_ ?_ | with_reducible refine (Dev.chalkAll_part ..).trans ?_
    | with_reducible refine (Dev.finishWaits_part ..).trans ?_ | with_reducible refine (Dev.feCheck_part ..).trans ?_
    | with_reducible refine (Dev.enterLoopSafe_part ..).trans ?_ | with_reducible refine (Dev.enterHold_part ..).trans ?_
    | with_reducible refine (Dev.heldPublish_part ..).trans ?_ | with_reducible refine (Dev.loopPublish_part ..).trans ?_
    | with_reducible refine (Dev.showLoop_part ..).trans ?_ | with_reducible refine (Dev.writeSecs_part ..).trans ?_
    | with_reducible refine (Dev.setLoop_part ..).trans ?_ | with_reducible refine (Dev.raise_part ..).trans ?_ | split

@[simp] theorem Dev.loopCompute_part (d : Dev) (l : Nat) : (d.loopCompute l).part = d.part := by
  unfold Dev.loopCompute
  extract_lets b before node reads dr dm x0 rel x1 en d0 fbr ffr spr keep d1 spAt miss clear release go held d2 h y missing d3 stale r sps z
  have hr0 : dr.part = d.part := foldl_part (fun _ _ => Dev.touchValue_part ..) _ _
  have hm : dm.part = d.part := (Dev.takeModeSource_part ..).trans ((Dev.takeModeWaits_part ..).trans hr0)
  clear_value dr dm
  have h0 : d0.part = d.part := (Dev.setLoop_part ..).trans hm
  have h1 : d1.part = d.part := (Dev.setLoop_part ..).trans h0
  clear_value d0 d1
  have h2 : d2.part = d.part := ite_part ((Dev.leaveHeld_part ..).trans h1) h1
  clear_value d2
  have h3 : d3.part = d.part := (Dev.setLoop_part ..).trans ((Dev.handOver_part ..).trans h2)
  clear_value d3
  have hr : r.2.2.part = d.part := (Dev.readSecs_part ..).trans h3
  clear_value r
  have hz : z.part = d.part := (Dev.logFault_part ..).trans ((Dev.writeSecs_part ..).trans hr)
  clear_value z held go
  have hheld : ∀ (e : Dev) cause ref sp fb ev, ((e.enterHold l cause ref).heldCompute l before sp fb ev).part = e.part :=
    fun e cause ref sp fb ev => (Dev.heldCompute_part ..).trans (Dev.enterHold_part ..)
  split
  · exact (Dev.heldCompute_part ..).trans ((Dev.setLoop_part ..).trans h1)
  · split
    · split
      · exact (hheld ..).trans h3
      · split
        · exact (Dev.runCompute_part ..).trans hr
        · exact (hheld ..).trans hz
    · exact (hheld ..).trans h3

@[simp] theorem Dev.countMissed_part (d : Dev) (a e : Nat) : (d.countMissed a e).part = d.part := by rfl

@[simp] theorem Dev.loopResumed_part (d : Dev) : d.loopResumed.part = d.part := by
  unfold Dev.loopResumed
  (repeat' split) <;> simp

@[simp] theorem Dev.resumeAll_part (d : Dev) : d.resumeAll.part = d.part := by
  simp [Dev.resumeAll, apply_ite Dev.part]

@[simp] theorem Dev.loopStop_part (d : Dev) (from_ cause : Nat) : (d.loopStop from_ cause).part = d.part := by
  simp [Dev.loopStop, apply_ite Dev.part]

@[simp] theorem Dev.loopBack_part (d : Dev) (from_ : Nat) : (d.loopBack from_).part = d.part := by
  unfold Dev.loopBack
  dsimp only
  (repeat' split) <;> simp

@[simp] theorem Dev.writeLoopCtrl_part (d : Dev) (v : Nat) : (d.writeLoopCtrl v).part = d.part := by
  simp [Dev.writeLoopCtrl, apply_ite Dev.part]

@[simp] theorem Dev.endSet_part (d : Dev) (id : Nat) (st : Status) (result : Nat) : (d.endSet id st result).part = d.part := by
  simp [Dev.endSet]

@[simp] theorem Dev.loopChecked_part (d : Dev) (id : Nat) (x : Sys2Proof.Desc) : (d.loopChecked id x).part = d.part := by
  unfold Dev.loopChecked
  repeat' first
    | with_reducible rfl | with_reducible refine ite_part ?_ ?_ | with_reducible refine (Dev.endSet_part ..).trans ?_
    | with_reducible refine (Dev.showEngine_part ..).trans ?_ | with_reducible refine (Dev.readWords_part ..).trans ?_
    | refine (part_of_eq_snd ‹_›).trans ?_ | split | dsimp only

@[simp] theorem Dev.admitLoop_part (d : Dev) (l : Nat) (b : List Nat) (lane : Nat) (secs : List Nat) (keep : Bool) :
    (d.admitLoop l b lane secs keep).part = d.part := by
  simp [Dev.admitLoop, apply_ite Dev.part]

@[simp] theorem Dev.removeLoop_part (d : Dev) (l id : Nat) : (d.removeLoop l id).part = d.part := by
  unfold Dev.removeLoop
  repeat' first
    | with_reducible rfl | with_reducible refine ite_part ?_ ?_ | with_reducible refine (Dev.chalkEnd_part ..).trans ?_
    | with_reducible refine (Dev.showEngine_part ..).trans ?_ | with_reducible refine (Dev.showLoop_part ..).trans ?_
    | with_reducible refine (Dev.setLoop_part ..).trans ?_ | with_reducible refine (Dev.setBlock_part ..).trans ?_
    | with_reducible refine (Dev.setWriter_part ..).trans ?_ | with_reducible refine (Dev.done_part ..).trans ?_
    | with_reducible refine (Dev.fail_part ..).trans ?_ | with_reducible refine (Dev.put_part ..).trans ?_ | split
    | refine (foldl_part (fun _ _ => ?_) _ _).trans ?_

@[simp] theorem Dev.loopRestore_part (d : Dev) : d.loopRestore.part = d.part := by
  unfold Dev.loopRestore
  repeat' first | (simp; done) | split | refine (foldl_part (fun _ _ => ?_) _ _).trans ?_ | simp

@[simp] theorem bodyLoopSet_part (id : Nat) (x : Sys2Proof.Desc) (d : Dev) : (bodyLoopSet id x d).part = d.part := by
  simp [bodyLoopSet, apply_ite Dev.part]

@[simp] theorem Dev.onLoop_part {d : Dev} {f : Nat → Dev} (hf : ∀ l, (f l).part = d.part) (id : Nat) (x : Sys2Proof.Desc) :
    (d.onLoop id x f).part = d.part := by
  unfold Dev.onLoop
  dsimp only
  split
  · simp
  · split
    · simp
    · exact hf _

@[simp] theorem bodyLoopRemove_part (id : Nat) (x : Sys2Proof.Desc) (d : Dev) : (bodyLoopRemove id x d).part = d.part := by
  unfold bodyLoopRemove
  split
  · exact Dev.fail_part ..
  · refine Dev.onLoop_part (fun l => ?_) id x
    rfl

@[simp] theorem Dev.loopWait_part (d : Dev) (l : Nat) (w : LoopWait) : (d.loopWait l w).part = d.part := by rfl

@[simp] theorem bodyLoopMode_part (id : Nat) (x : Sys2Proof.Desc) (d : Dev) : (bodyLoopMode id x d).part = d.part := by
  unfold bodyLoopMode
  exact Dev.onLoop_part (fun l => by simp [apply_ite Dev.part]) id x

@[simp] theorem bodyLoopHold_part (id : Nat) (x : Sys2Proof.Desc) (d : Dev) : (bodyLoopHold id x d).part = d.part := by
  unfold bodyLoopHold
  split <;> exact Dev.onLoop_part (fun l => by simp [apply_ite Dev.part]) id x

@[simp] theorem bodyLoopClear_part (id : Nat) (x : Sys2Proof.Desc) (d : Dev) : (bodyLoopClear id x d).part = d.part := by
  unfold bodyLoopClear
  exact Dev.onLoop_part (fun l => by simp [apply_ite Dev.part]) id x

@[simp] theorem bodyChalkArm_part (id : Nat) (x : Sys2Proof.Desc) (d : Dev) : (bodyChalkArm id x d).part = d.part := by
  simp [bodyChalkArm, apply_ite Dev.part]

@[simp] theorem bodyChalkTrigger_part (id : Nat) (x : Sys2Proof.Desc) (d : Dev) : (bodyChalkTrigger id x d).part = d.part := by
  unfold bodyChalkTrigger
  (repeat' split) <;> simp

@[simp] theorem bodyChalkStop_part (id : Nat) (x : Sys2Proof.Desc) (d : Dev) : (bodyChalkStop id x d).part = d.part := by
  simp [bodyChalkStop, apply_ite Dev.part]

@[simp] theorem settleLoop_part (id : Nat) (r : Rec) (d : Dev) : (settleLoop id r d).part = d.part := by
  simp [settleLoop, apply_ite Dev.part]

@[simp] theorem bodyLoopAbort_part (id : Nat) (x : Sys2Proof.Desc) (d : Dev) : (bodyLoopAbort id x d).part = d.part := by
  simp [bodyLoopAbort, apply_ite Dev.part]

@[simp] theorem Dev.loopDip_part (d : Dev) : d.loopDip.part = d.part := by
  simp [Dev.loopDip]

@[simp] theorem Dev.delayPut_part (d : Dev) (name qty : Nat) (w : VW) : (d.delayPut name qty w).part = d.part := by rfl

theorem foldl_bumpLate_part (d : Dev) (k l : Nat) (y : Dev) (us : List (Nat × Nat)) :
    (us.foldl (fun (z : Dev) _ => if k + lpD (y.loopBlock l) ≤ d.tick then z.bump Reg.LOOP_SLOT_CNT.LATE l 0xFFFF else z) y).part = y.part :=
  foldl_part (fun z u => by split <;> simp) y us

@[simp] theorem Dev.countLate_part (d : Dev) (name qty : Nat) (w : VW) : (d.countLate name qty w).part = d.part := by
  unfold Dev.countLate
  exact foldl_part (fun y l => foldl_bumpLate_part d _ l y _) d d.admitted

@[simp] theorem Dev.elect_part (d : Dev) (cands : List (Nat × Nat × Nat)) : (d.elect cands).part = d.part := by
  unfold Dev.elect
  dsimp only
  (repeat' split) <;> simp

@[simp] theorem Dev.takeOffset_part (d : Dev) (ns : Int) : (d.takeOffset ns).part = d.part := by
  simp [Dev.takeOffset, apply_ite Dev.part]

@[simp] theorem Dev.skipShort_part (d : Dev) (p : Nat) : (d.skipShort p).part = d.part := by rfl

@[simp] theorem Dev.takeStamps_part (d : Dev) (p n rxb txb : Nat) : (d.takeStamps p n rxb txb).part = d.part := by
  unfold Dev.takeStamps
  dsimp only
  (repeat' split) <;> simp

@[simp] theorem Dev.reportNbrs_part (d : Dev) : d.reportNbrs.part = d.part := by
  simp [Dev.reportNbrs, apply_ite Dev.part]

@[simp] theorem Dev.setNbr_part (d : Dev) (p dev port : Nat) (numbered dup : Bool) : (d.setNbr p dev port numbered dup).part = d.part := by
  simp [Dev.setNbr, apply_ite Dev.part]

@[simp] theorem Dev.sendAudit_part (d : Dev) (p c : Nat) : (d.sendAudit p c).part = d.part := by rfl

@[simp] theorem Dev.sendAudits_part (d : Dev) (p : Nat) : (d.sendAudits p).part = d.part := by
  simp [Dev.sendAudits]

@[simp] theorem Dev.quiltTrain_part (d : Dev) (cands : List (Nat × Nat × Nat)) : (d.quiltTrain cands).part = d.part := by
  simp [Dev.quiltTrain, apply_ite Dev.part]

@[simp] theorem Dev.trainCounts_part (d : Dev) (p : Nat) (used : List Nat) : (d.trainCounts p used).part = d.part := by rfl

@[simp] theorem Dev.linkUp_part (d : Dev) (p : Nat) : (d.linkUp p).part = d.part := by
  simp [Dev.linkUp]

@[simp] theorem Dev.applyLos_part (d : Dev) (p : Nat) : (d.applyLos p).part = d.part := by
  simp [Dev.applyLos, apply_ite Dev.part]

@[simp] theorem Dev.applyPortEn_part (d : Dev) : d.applyPortEn.part = d.part := by
  simp [Dev.applyPortEn, apply_ite Dev.part]

@[simp] theorem Dev.quiltReject_part (d : Dev) : d.quiltReject.part = d.part := by rfl

@[simp] theorem Dev.writeQuiltCfg_part (d : Dev) (v : Nat) : (d.writeQuiltCfg v).part = d.part := by
  simp [Dev.writeQuiltCfg, apply_ite Dev.part]

@[simp] theorem Dev.writePortEq_part (d : Dev) (p v : Nat) : (d.writePortEq p v).part = d.part := by
  simp [Dev.writePortEq]

@[simp] theorem Dev.eqStep_part (d : Dev) (p : Nat) : (d.eqStep p).part = d.part := by
  simp [Dev.eqStep, apply_ite Dev.part]

@[simp] theorem Dev.sendNak_part (d : Dev) (p : Nat) : (d.sendNak p).part = d.part := by rfl

@[simp] theorem Dev.setGranted_part (d : Dev) (src c n : Nat) : (d.setGranted src c n).part = d.part := by rfl

@[simp] theorem Dev.grant_part (d : Dev) (src c n : Nat) : (d.grant src c n).part = d.part := by
  simp [Dev.grant, apply_ite Dev.part]

@[simp] theorem Dev.servePool_part (d : Dev) (a1 : List (Nat × Nat × Nat)) : (d.servePool a1).part = d.part := by
  induction a1 generalizing d with
  | nil => rfl
  | cons r t ih =>
    unfold Dev.servePool
    split
    · rfl
    · exact (ih _).trans (Dev.grant_part ..)

@[simp] theorem Dev.setResvs_part (d : Dev) (l : List Resv) : (d.setResvs l).part = d.part := by
  simp [Dev.setResvs]

@[simp] theorem Dev.setInFlows_part (d : Dev) (l : List (Nat × Nat × Nat × Nat)) : (d.setInFlows l).part = d.part := by rfl

@[simp] theorem Dev.passWalk_part (d : Dev) (a : List Nat) (slot adv : Nat) : (d.passWalk a slot adv).2.part = d.part := by
  unfold Dev.passWalk
  dsimp only
  (repeat' split) <;> simp

@[simp] theorem Dev.removeResvs_part (d : Dev) (consumer src flow chain : Nat) : (d.removeResvs consumer src flow chain).part = d.part := by
  simp [Dev.removeResvs, apply_ite Dev.part]

@[simp] theorem Dev.replyConsumer_part (d : Dev) (consumer result port dev hops chain flow cls : Nat) :
    (d.replyConsumer consumer result port dev hops chain flow cls).part = d.part := by
  simp [Dev.replyConsumer]

@[simp] theorem Dev.refuseWalk_part (d : Dev) (w : Walk) (result port dev : Nat) : (d.refuseWalk w result port dev).part = d.part := by
  simp [Dev.refuseWalk, apply_ite Dev.part]

@[simp] theorem Dev.tryWalk_part (d : Dev) (w : Walk) (a2 : Nat) : (d.tryWalk w a2).part = d.part := by
  induction a2 generalizing w with
  | zero => exact Dev.refuseWalk_part ..
  | succ n ih =>
    unfold Dev.tryWalk
    dsimp only
    split
    · exact Dev.passWalk_part ..
    · split
      · exact ih _
      · exact Dev.refuseWalk_part ..

@[simp] theorem Dev.openAtSource_part (d : Dev) (a : List Nat) : (d.openAtSource a).part = d.part := by
  unfold Dev.openAtSource
  dsimp only
  (repeat' split) <;> simp

@[simp] theorem Dev.branchReply_part (d : Dev) (a : List Nat) : (d.branchReply a).part = d.part := by
  unfold Dev.branchReply
  dsimp only
  (repeat' split) <;> simp

@[simp] theorem Dev.closeAtSource_part (d : Dev) (consumer flow : Nat) : (d.closeAtSource consumer flow).part = d.part := by
  simp [Dev.closeAtSource]

@[simp] theorem Dev.askSource_part (d : Dev) (kind chain src flow period phase o1 o2 : Nat) :
    (d.askSource kind chain src flow period phase o1 o2).part = d.part := by
  simp [Dev.askSource]

@[simp] theorem bodyFlowOpen_part (id : Nat) (x : Sys2Proof.Desc) (d : Dev) : (bodyFlowOpen id x d).part = d.part := by
  simp [bodyFlowOpen, apply_ite Dev.part]

@[simp] theorem bodyFlowClose_part (id : Nat) (x : Sys2Proof.Desc) (d : Dev) : (bodyFlowClose id x d).part = d.part := by
  unfold bodyFlowClose
  split <;> simp

@[simp] theorem Dev.dropOp_part (d : Dev) (op : FlowOp) : (d.dropOp op).part = d.part := by rfl

@[simp] theorem Dev.endFlowOpen_part (d : Dev) (op : FlowOp) (st : Status) : (d.endFlowOpen op st).part = d.part := by
  unfold Dev.endFlowOpen
  split <;> simp

@[simp] theorem Dev.askChain_part (d : Dev) (op : FlowOp) (chain : Nat) : (d.askChain op chain).part = d.part := by
  unfold Dev.askChain
  (repeat' split) <;> simp

@[simp] theorem Dev.chainReply_part (d : Dev) (src : Nat) (a : List Nat) : (d.chainReply src a).part = d.part := by
  unfold Dev.chainReply
  dsimp only
  (repeat' split) <;> simp

@[simp] theorem Dev.removeReached_part (d : Dev) (src flow chain : Nat) (alt : Bool) : (d.removeReached src flow chain alt).part = d.part := by
  unfold Dev.removeReached
  dsimp only
  (repeat' split) <;> simp

@[simp] theorem Dev.takeAdmit_part (d : Dev) (p : Nat) (st : Stitch) : (d.takeAdmit p st).part = d.part := by
  unfold Dev.takeAdmit
  dsimp only
  (repeat' split) <;> simp

@[simp] theorem Dev.takeReply_part (d : Dev) (st : Stitch) : (d.takeReply st).part = d.part := by
  simp [Dev.takeReply, apply_ite Dev.part]

@[simp] theorem Dev.patFlows_part (d : Dev) : d.patFlows.part = d.part := by
  simp [Dev.patFlows, apply_ite Dev.part]

@[simp] theorem Dev.sendFlow_part (d : Dev) (n : Nat) : (d.sendFlow n).part = d.part := by
  simp [Dev.sendFlow, apply_ite Dev.part]

@[simp] theorem Dev.sendBoundary_part (d : Dev) (n : Nat) (routed : List Nat) : (d.sendBoundary n routed).part = d.part := by
  simp [Dev.sendBoundary, apply_ite Dev.part]

@[simp] theorem Dev.takePair_part (d : Dev) (src obj bits : Nat) : (d.takePair src obj bits).part = d.part := by
  simp [Dev.takePair, apply_ite Dev.part]

@[simp] theorem Dev.takeValue_part (d : Dev) (st : Stitch) : (d.takeValue st).part = d.part := by
  simp [Dev.takeValue, apply_ite Dev.part]

@[simp] theorem Dev.serveRead_part (d : Dev) (st : Stitch) : (d.serveRead st).part = d.part := by
  unfold Dev.serveRead
  repeat' first | (simp; done) | split | refine (part_of_eq_snd ‹_›).trans ?_ | simp

@[simp] theorem Dev.serveWrite_part (d : Dev) (st : Stitch) : (d.serveWrite st).part = d.part := by
  simp [Dev.serveWrite, apply_ite Dev.part]

@[simp] theorem Dev.remoteFetch_part (d : Dev) (q : Nat) : (d.remoteFetch q).part = d.part := by
  simp [Dev.remoteFetch, apply_ite Dev.part]

@[simp] theorem Dev.remoteFetchAll_part (d : Dev) : d.remoteFetchAll.part = d.part := by
  simp [Dev.remoteFetchAll]

@[simp] theorem Dev.takeHeads_part (d : Dev) (bs : List Nat) : (d.takeHeads bs).part = d.part := by
  simp [Dev.takeHeads, apply_ite Dev.part]

@[simp] theorem Dev.takeData_part (d : Dev) (st : Stitch) : (d.takeData st).part = d.part := by
  unfold Dev.takeData
  dsimp only
  (repeat' split) <;> simp

@[simp] theorem Dev.takeAck_part (d : Dev) (st : Stitch) : (d.takeAck st).part = d.part := by
  simp [Dev.takeAck, apply_ite Dev.part]

@[simp] theorem Dev.takeBell_part (d : Dev) (st : Stitch) : (d.takeBell st).part = d.part := by
  simp [Dev.takeBell, apply_ite Dev.part]

@[simp] theorem Dev.takeTrace_part (d : Dev) (st : Stitch) : (d.takeTrace st).part = d.part := by
  unfold Dev.takeTrace
  dsimp only
  (repeat' split) <;> simp

@[simp] theorem Dev.auditTokens_part (d : Dev) (src c held : Nat) : (d.auditTokens src c held).part = d.part := by
  simp [Dev.auditTokens, apply_ite Dev.part]

@[simp] theorem Dev.auditDone_part (d : Dev) (dest c : Nat) (ok : Bool) (sum : Nat) : (d.auditDone dest c ok sum).part = d.part := by
  simp [Dev.auditDone, apply_ite Dev.part]

@[simp] theorem Dev.takeMgmt_part (d : Dev) (p : Nat) (st : Stitch) : (d.takeMgmt p st).part = d.part := by
  unfold Dev.takeMgmt
  dsimp only
  split <;> simp

@[simp] theorem Dev.consume_part (d : Dev) (p : Nat) (st : Stitch) : (d.consume p st).part = d.part := by
  unfold Dev.consume
  repeat' first
    | with_reducible rfl | with_reducible refine ite_part ?_ ?_ | with_reducible refine (Dev.takeMgmt_part ..).trans ?_
    | with_reducible refine (Dev.takeTrace_part ..).trans ?_ | with_reducible refine (Dev.takeBell_part ..).trans ?_
    | with_reducible refine (Dev.takeAck_part ..).trans ?_ | with_reducible refine (Dev.takeData_part ..).trans ?_
    | with_reducible refine (Dev.serveWrite_part ..).trans ?_ | with_reducible refine (Dev.serveRead_part ..).trans ?_
    | with_reducible refine (Dev.takeValue_part ..).trans ?_ | with_reducible refine (Dev.takeReply_part ..).trans ?_
    | with_reducible refine (Dev.takeAdmit_part ..).trans ?_ | with_reducible refine (Dev.servePool_part ..).trans ?_
    | with_reducible refine (Dev.grant_part ..).trans ?_ | with_reducible refine (Dev.setGranted_part ..).trans ?_
    | with_reducible refine (Dev.useTokens_part ..).trans ?_ | with_reducible refine (Dev.sendControl_part ..).trans ?_
    | with_reducible refine (Dev.noteTokens_part ..).trans ?_ | with_reducible refine (Dev.setTokens_part ..).trans ?_
    | with_reducible refine (Dev.put_part ..).trans ?_ | split

@[simp] theorem Dev.setFlowRec_part (d : Dev) (k next : Nat) (held : List (Nat × Stitch)) : (d.setFlowRec k next held).part = d.part := by rfl

@[simp] theorem Dev.drainFlow_part (d : Dev) (k a2 : Nat) : (d.drainFlow k a2).part = d.part := by
  induction a2 generalizing d with
  | zero => rfl
  | succ n ih =>
    unfold Dev.drainFlow
    dsimp only
    split
    · rfl
    · exact (ih _).trans ((Dev.consume_part ..).trans (Dev.setFlowRec_part ..))

@[simp] theorem Dev.land_part (d : Dev) (p : Nat) (st : Stitch) : (d.land p st).part = d.part := by
  unfold Dev.land
  repeat' first
    | with_reducible rfl | with_reducible refine ite_part ?_ ?_ | with_reducible refine (Dev.drainFlow_part ..).trans ?_
    | with_reducible refine (Dev.setFlowRec_part ..).trans ?_ | with_reducible refine (Dev.consume_part ..).trans ?_
    | with_reducible refine (Dev.sendControl_part ..).trans ?_ | with_reducible refine (Dev.bump_part ..).trans ?_

@[simp] theorem Dev.readRoute_part (d : Dev) (n : Nat) : (d.readRoute n).2.part = d.part := by
  simp [Dev.readRoute]

@[simp] theorem Dev.accept_part (d : Dev) (p : Nat) (st : Stitch) : (d.accept p st).part = d.part := by
  simp [Dev.accept, apply_ite Dev.part]

@[simp] theorem Dev.takeStitch_part (d : Dev) (p : Nat) (st : Stitch) : (d.takeStitch p st).part = d.part := by
  unfold Dev.takeStitch
  repeat' first
    | with_reducible rfl | with_reducible refine ite_part ?_ ?_ | with_reducible refine (Dev.accept_part ..).trans ?_
    | with_reducible refine (Dev.readRoute_part ..).trans ?_ | with_reducible refine (Dev.sendNak_part ..).trans ?_
    | with_reducible refine (Dev.linkError_part ..).trans ?_ | with_reducible refine (Dev.logFault_part ..).trans ?_
    | refine (part_of_eq_snd ‹_›).trans ?_ | split

@[simp] theorem Dev.receive_part (d : Dev) (p kind : Nat) (w : Sys2Proof.Word) (wrong : Nat) (first : Bool) :
    (d.receive p kind w wrong first).part = d.part := by
  unfold Dev.receive
  dsimp only
  (repeat' split) <;> simp

@[simp] theorem bodyRouteLoad_part (id : Nat) (x : Sys2Proof.Desc) (d : Dev) : (bodyRouteLoad id x d).part = d.part := by
  simp [bodyRouteLoad, apply_ite Dev.part]

@[simp] theorem Dev.endRoute_part (d : Dev) (id : Nat) (st : Status) (result : Nat) : (d.endRoute id st result).part = d.part := by
  simp [Dev.endRoute]

@[simp] theorem Dev.routeChecked_part (d : Dev) (id : Nat) (x : Sys2Proof.Desc) : (d.routeChecked id x).part = d.part := by
  unfold Dev.routeChecked
  split
  · rfl
  · split
    next e he => exact (Dev.endRoute_part ..).trans ((part_of_eq_snd he).trans (Dev.readWords_part ..))
    next bs e he =>
      have hread : e.part = d.part := (part_of_eq_snd he).trans (Dev.readWords_part ..)
      split
      · exact (Dev.endRoute_part ..).trans hread
      · exact hread

@[simp] theorem Dev.putRoutes_part (d : Dev) (bs : List Nat) : (d.putRoutes bs).part = d.part := by
  simp [Dev.putRoutes, apply_ite Dev.part]

@[simp] theorem Dev.routeSwitch_part (d : Dev) : d.routeSwitch.part = d.part := by
  unfold Dev.routeSwitch
  (repeat' split) <;> simp

@[simp] theorem bodyPortRetrain_part (id : Nat) (x : Sys2Proof.Desc) (d : Dev) : (bodyPortRetrain id x d).part = d.part := by
  simp [bodyPortRetrain, apply_ite Dev.part]

@[simp] theorem bodyQuiltAudit_part (id : Nat) (x : Sys2Proof.Desc) (d : Dev) : (bodyQuiltAudit id x d).part = d.part := by
  simp [bodyQuiltAudit, apply_ite Dev.part]

@[simp] theorem bodyRringDoorbell_part (id : Nat) (x : Sys2Proof.Desc) (d : Dev) : (bodyRringDoorbell id x d).part = d.part := by
  simp [bodyRringDoorbell, apply_ite Dev.part]

@[simp] theorem settleQuilt_part (id : Nat) (r : Rec) (d : Dev) : (settleQuilt id r d).part = d.part := by
  unfold settleQuilt
  (repeat' split) <;> simp

@[simp] theorem Dev.quiltTick_part (d : Dev) (routed : List Nat) : (d.quiltTick routed).part = d.part := by
  unfold Dev.quiltTick
  generalize List.range 8 = ports
  extract_lets d1 d2
  have h2 : d2.part = d.part := (foldl_part (fun y p => Dev.eqStep_part y p) _ _).trans (Dev.routeSwitch_part d)
  clear_value d2
  refine (Dev.pump_part _).trans ((foldl_part (fun y n => ?_) _ _).trans ((foldl_part (fun y i => ?_) _ _).trans h2))
  · exact (Dev.sendBoundary_part ..).trans (Dev.sendFlow_part ..)
  · exact Dev.lateTack_part ..

@[simp] theorem Dev.quiltDip_part (d : Dev) : d.quiltDip.part = d.part := by
  unfold Dev.quiltDip
  dsimp only
  split <;> simp

@[simp] theorem Dev.quiltRestore_part (d : Dev) : d.quiltRestore.part = d.part := by
  simp [Dev.quiltRestore, apply_ite Dev.part]

end Sys2Proof.Machine
end

section
/-! SUPPORT. No operation on the device changes the part: the operations of the panel, the stores and the security block. -/

namespace Sys2Proof.Machine
open Sys2Proof

@[simp] theorem Dev.showPanel_part (d : Dev) : d.showPanel.part = d.part := by rfl

@[simp] theorem Dev.setPanel_part (d : Dev) (p : PanelSt) : (d.setPanel p).part = d.part := by rfl

@[simp] theorem Dev.showFrontlight_part (d : Dev) : d.showFrontlight.part = d.part := by rfl

@[simp] theorem Dev.railsOn_part (d : Dev) : d.railsOn.part = d.part := by
  simp [Dev.railsOn, apply_ite Dev.part]

@[simp] theorem Dev.panelRise_part (d : Dev) : d.panelRise.part = d.part := by
  simp [Dev.panelRise, apply_ite Dev.part]

@[simp] theorem Dev.panelFall_part (d : Dev) : d.panelFall.part = d.part := by
  unfold Dev.panelFall
  split <;> simp

@[simp] theorem Dev.panelInterrupted_part (d : Dev) (r : PanelRun) (cause : Nat) : (d.panelInterrupted r cause).part = d.part := by
  simp [Dev.panelInterrupted]

@[simp] theorem Dev.endReq_part (d : Dev) (r : PanelReq) (st : Status) (result : Nat) : (d.endReq r st result).part = d.part := by
  unfold Dev.endReq
  split <;> simp

@[simp] theorem Dev.panelStop_part (d : Dev) (cause : Nat) (st : Status) : (d.panelStop cause st).part = d.part := by
  simp [Dev.panelStop]

@[simp] theorem Dev.panelFlush_part (d : Dev) (st : Status) : (d.panelFlush st).part = d.part := by
  simp [Dev.panelFlush]

@[simp] theorem Dev.panelDip_part (d : Dev) : d.panelDip.part = d.part := by
  simp [Dev.panelDip]

@[simp] theorem Dev.panelFault_part (d : Dev) (rail : Nat) (mv : Int) : (d.panelFault rail mv).part = d.part := by
  simp [Dev.panelFault, apply_ite Dev.part]

@[simp] theorem Dev.panelBand_part (d : Dev) (die : Int) : (d.panelBand die).part = d.part := by
  simp [Dev.panelBand, apply_ite Dev.part]

@[simp] theorem Dev.waves_part (d : Dev) (band mode : Nat) : (d.waves band mode).2.part = d.part := by
  unfold Dev.waves
  split <;> simp

@[simp] theorem Dev.latchWord_part (d : Dev) (r : PanelReq) (k : Nat) : (d.latchWord r k).2.part = d.part := by
  unfold Dev.latchWord
  dsimp only
  split <;> simp

@[simp] theorem Dev.panelBegin_part (d : Dev) (r : PanelReq) : (d.panelBegin r).part = d.part := by
  unfold Dev.panelBegin
  split <;> simp

@[simp] theorem Dev.undoWord_part (d : Dev) (r : PanelReq) (k : Nat) : (d.undoWord r k).part = d.part := by
  unfold Dev.undoWord
  dsimp only
  (repeat' split) <;> simp

@[simp] theorem Dev.panelDrive_part (d : Dev) (r : PanelRun) : (d.panelDrive r).part = d.part := by
  unfold Dev.panelDrive
  repeat' first
    | with_reducible rfl | with_reducible refine (Dev.undoWord_part ..).trans ?_ | with_reducible refine (Dev.waves_part ..).trans ?_
    | with_reducible refine (Dev.setPanel_part ..).trans ?_ | with_reducible refine (Dev.readWord_part ..).trans ?_
    | with_reducible refine (Dev.emit_part ..).trans ?_ | refine (part_of_eq_snd ‹_›).trans ?_ | split
    | refine (foldl_part (fun _ _ => ?_) _ _).trans ?_ | refine (foldl_snd_snd_part (fun _ _ => ?_) _ _).trans ?_

@[simp] theorem Dev.formCrc_part (d : Dev) : d.formCrc.part = d.part := by
  unfold Dev.formCrc
  repeat' first | (simp; done) | split | refine (part_of_eq_snd ‹_›).trans ?_ | simp

@[simp] theorem Dev.panelPhaseEnd_part (d : Dev) (r : PanelRun) (duty : Nat) : (d.panelPhaseEnd r duty).part = d.part := by
  unfold Dev.panelPhaseEnd
  dsimp only
  (repeat' split) <;> simp

@[simp] theorem Dev.panelSwitch_part (d : Dev) : d.panelSwitch.part = d.part := by
  unfold Dev.panelSwitch
  (repeat' split) <;> simp

@[simp] theorem Dev.panelStart_part (d : Dev) : d.panelStart.part = d.part := by
  simp [Dev.panelStart, apply_ite Dev.part]

@[simp] theorem Dev.panelRestore_part (d : Dev) : d.panelRestore.part = d.part := by
  simp [Dev.panelRestore, apply_ite Dev.part]

@[simp] theorem bodyPanelUpdate_part (id : Nat) (x : Sys2Proof.Desc) (d : Dev) : (bodyPanelUpdate id x d).part = d.part := by
  unfold bodyPanelUpdate
  dsimp only
  (repeat' split) <;> simp

@[simp] theorem bodyPanelWfload_part (id : Nat) (a1 : Sys2Proof.Desc) (d : Dev) : (bodyPanelWfload id a1 d).part = d.part := by
  simp [bodyPanelWfload, apply_ite Dev.part]

@[simp] theorem Dev.endWfload_part (d : Dev) (st : Status) (code : Nat) : (d.endWfload st code).part = d.part := by
  unfold Dev.endWfload
  split <;> simp

@[simp] theorem Dev.wfloadChecked_part (d : Dev) (id : Nat) (x : Sys2Proof.Desc) : (d.wfloadChecked id x).part = d.part := by
  unfold Dev.wfloadChecked
  repeat' first | (simp; done) | split | refine (part_of_eq_snd ‹_›).trans ?_ | simp

@[simp] theorem bodyPanelCrcCheck_part (id : Nat) (x : Sys2Proof.Desc) (d : Dev) : (bodyPanelCrcCheck id x d).part = d.part := by
  simp [bodyPanelCrcCheck, apply_ite Dev.part]

@[simp] theorem settlePanel_part (id : Nat) (r : Rec) (d : Dev) : (settlePanel id r d).part = d.part := by
  unfold settlePanel
  (repeat' split) <;> simp

@[simp] theorem bodyPanelAbort_part (id : Nat) (x : Sys2Proof.Desc) (d : Dev) : (bodyPanelAbort id x d).part = d.part := by
  simp [bodyPanelAbort, apply_ite Dev.part]

@[simp] theorem Dev.writePanelCfg_part (d : Dev) (v : Nat) : (d.writePanelCfg v).part = d.part := by
  simp [Dev.writePanelCfg, apply_ite Dev.part]

@[simp] theorem Dev.setKey_part (d : Dev) (i : Nat) (x : KeySt) : (d.setKey i x).part = d.part := by rfl

@[simp] theorem Dev.setEnc_part (d : Dev) (n : Nat) (x : EncSt) : (d.setEnc n x).part = d.part := by rfl

@[simp] theorem Dev.publishKeys_part (d : Dev) (l : List Nat) : (d.publishKeys l).part = d.part := by
  simp [Dev.publishKeys]

@[simp] theorem Dev.showKeys_part (d : Dev) : d.showKeys.part = d.part := by rfl

@[simp] theorem Dev.showKeyIrq_part (d : Dev) : d.showKeyIrq.part = d.part := by rfl

@[simp] theorem Dev.keyPending_part (d : Dev) : d.keyPending.part = d.part := by rfl

@[simp] theorem Dev.keyChange_part (d : Dev) (i : Nat) : (d.keyChange i).part = d.part := by
  simp [Dev.keyChange]

@[simp] theorem Dev.setKeyLock_part (d : Dev) (on : Bool) (cause : Nat) : (d.setKeyLock on cause).part = d.part := by
  simp [Dev.setKeyLock, apply_ite Dev.part]

@[simp] theorem Dev.unlockStep_part (d : Dev) (n : Nat) : (d.unlockStep n).part = d.part := by
  simp [Dev.unlockStep, apply_ite Dev.part]

@[simp] theorem Dev.unlockPress_part (d : Dev) (i : Nat) : (d.unlockPress i).part = d.part := by
  simp [Dev.unlockPress, apply_ite Dev.part]

@[simp] theorem Dev.sampleKey_part (d : Dev) (raw i : Nat) : (d.sampleKey raw i).2.part = d.part := by
  simp [Dev.sampleKey, apply_ite Dev.part, apply_ite Prod.snd]

@[simp] theorem Dev.guardKeys_part (d : Dev) : d.guardKeys.2.part = d.part := by
  unfold Dev.guardKeys
  extract_lets guard
  clear_value guard
  refine foldl_snd_part (d := ([], d)) (fun z i => ?_) _
  extract_lets x a
  split
  · rfl
  · exact Dev.setKey_part ..

@[simp] theorem Dev.applyKeyLocks_part (d0 : Dev) : d0.applyKeyLocks.part = d0.part := by
  simp [Dev.applyKeyLocks, apply_ite Dev.part]

@[simp] theorem Dev.wakeScanner_part (d : Dev) : d.wakeScanner.part = d.part := by rfl

@[simp] theorem bodyKeyLock_part (id : Nat) (x : Sys2Proof.Desc) (d : Dev) : (bodyKeyLock id x d).part = d.part := by
  simp [bodyKeyLock, apply_ite Dev.part]

@[simp] theorem Dev.keysThaw_part (d : Dev) : d.keysThaw.part = d.part := by
  simp [Dev.keysThaw]

@[simp] theorem Dev.keysStart_part (d : Dev) : d.keysStart.part = d.part := by
  simp [Dev.keysStart, apply_ite Dev.part]

@[simp] theorem Dev.writeKeysIrq_part (d : Dev) (v : Nat) : (d.writeKeysIrq v).part = d.part := by
  simp [Dev.writeKeysIrq, apply_ite Dev.part]

@[simp] theorem Dev.keysCfgWritten_part (d : Dev) : d.keysCfgWritten.part = d.part := by
  simp [Dev.keysCfgWritten, apply_ite Dev.part]

@[simp] theorem Dev.setGroup_part (d : Dev) (g : Nat) (x : NvmGroup) : (d.setGroup g x).part = d.part := by rfl

@[simp] theorem Dev.nvmUpset_part (d : Dev) (us : List (Nat × Nat × Nat)) : (d.nvmUpset us).part = d.part := by
  simp [Dev.nvmUpset, apply_ite Dev.part]

@[simp] theorem Dev.nvmUncorrectable_part (d : Dev) (g kind : Nat) : (d.nvmUncorrectable g kind).part = d.part := by
  simp [Dev.nvmUncorrectable]

@[simp] theorem Dev.nvmCorrected_part (d : Dev) (g : Nat) (current : Bool) (bs : List Nat) : (d.nvmCorrected g current bs).part = d.part := by rfl

@[simp] theorem Dev.nvmCopy_part (d : Dev) (g : Nat) (current : Bool) : (d.nvmCopy g current).2.part = d.part := by
  unfold Dev.nvmCopy
  dsimp only
  split <;> simp

@[simp] theorem Dev.nvmGroup_part (d : Dev) (g : Nat) : (d.nvmGroup g).2.part = d.part := by
  unfold Dev.nvmGroup
  repeat' first | (simp; done) | split | refine (part_of_eq_snd ‹_›).trans ?_ | simp

@[simp] theorem Dev.nvmGroups_part (d : Dev) (g a2 : Nat) : (d.nvmGroups g a2).2.part = d.part := by
  induction a2 generalizing d g with
  | zero => rfl
  | succ n ih => exact (ih _ (g + 1)).trans (Dev.nvmGroup_part d g)

@[simp] theorem Dev.nvmRead_part (d : Dev) (a n : Nat) : (d.nvmRead a n).2.part = d.part := by
  unfold Dev.nvmRead
  split <;> simp

@[simp] theorem Dev.nvmPut_part (d : Dev) (a : Nat) (bs : List Nat) : (d.nvmPut a bs).part = d.part := by
  simp [Dev.nvmPut, apply_ite Dev.part]

@[simp] theorem Dev.setEnergyWait_part (d : Dev) (on : Bool) : (d.setEnergyWait on).part = d.part := by
  simp [Dev.setEnergyWait, apply_ite Dev.part]

@[simp] theorem Dev.showBusy_part (d : Dev) : d.showBusy.part = d.part := by
  simp [Dev.showBusy]

@[simp] theorem Dev.noteWaits_part (d : Dev) (blocked : Bool) : (d.noteWaits blocked).part = d.part := by rfl

@[simp] theorem Dev.kickWrites_part (d : Dev) : d.kickWrites.part = d.part := by
  simp [Dev.kickWrites, apply_ite Dev.part]

@[simp] theorem Dev.askWrite_part (d : Dev) (o : WriteOrigin) (a : Nat) (bs : List Nat) : (d.askWrite o a bs).part = d.part := by
  simp [Dev.askWrite]

@[simp] theorem Dev.commitPage_part (d : Dev) (a : Nat) (bs : List Nat) (n : Nat) (mirror : Bool) : (d.commitPage a bs n mirror).part = d.part := by
  simp [Dev.commitPage]

@[simp] theorem Dev.dropWrite_part (d : Dev) (w : PageWrite) : (d.dropWrite w).part = d.part := by rfl

@[simp] theorem Dev.putSlot_part (d : Dev) (slot : Nat) (bs : List Nat) : (d.putSlot slot bs).part = d.part := by
  simp [Dev.putSlot]

@[simp] theorem Dev.askLog_part (d : Dev) : d.askLog.part = d.part := by
  unfold Dev.askLog
  split <;> simp

@[simp] theorem Dev.kickLog_part (d : Dev) : d.kickLog.part = d.part := by
  simp [Dev.kickLog, apply_ite Dev.part]

@[simp] theorem Dev.logWritten_part (d : Dev) : d.logWritten.part = d.part := by
  simp [Dev.logWritten, apply_ite Dev.part]

@[simp] theorem Dev.readRecord_part (d : Dev) (r : Nat) : (d.readRecord r).2.part = d.part := by
  simp [Dev.readRecord]

@[simp] theorem Dev.markAmbiguous_part (d : Dev) (r : Nat) (on : Bool) (sa sb : Nat) : (d.markAmbiguous r on sa sb).part = d.part := by
  simp [Dev.markAmbiguous, apply_ite Dev.part]

@[simp] theorem Dev.settleRecord_part (d : Dev) (r : Nat) (x : Resolution) (sa sb : Nat) : (d.settleRecord r x sa sb).part = d.part := by
  unfold Dev.settleRecord
  (repeat' split) <;> simp

@[simp] theorem Dev.resolveRecord_part (d : Dev) (r : Nat) : (d.resolveRecord r).2.part = d.part := by
  simp [Dev.resolveRecord]

@[simp] theorem Dev.keep_part (d : Dev) (r : Nat) (bs : List Nat) : (d.keep r bs).part = d.part := by
  simp [Dev.keep]

@[simp] theorem Dev.writeRecord_part (d : Dev) (r : Nat) (data : List Nat) : (d.writeRecord r data).2.part = d.part := by
  simp [Dev.writeRecord]

@[simp] theorem Dev.recCommitted_part (d : Dev) (r seq : Nat) : (d.recCommitted r seq).part = d.part := by
  simp [Dev.recCommitted]

@[simp] theorem Dev.putStore_part (d : Dev) (p : Nat) (bs : List Nat) : (d.putStore p bs).part = d.part := by
  simp [Dev.putStore]

@[simp] theorem Dev.readStore_part (d : Dev) (a len : Nat) : (d.readStore a len).2.part = d.part := by
  simp [Dev.readStore]

@[simp] theorem Dev.storeAt_part (d : Dev) (ptr : Nat) (bs : List Nat) : (d.storeAt ptr bs).2.part = d.part := by
  simp [Dev.storeAt]

@[simp] theorem Dev.saveSettle_part (d : Dev) : d.saveSettle.part = d.part := by
  simp [Dev.saveSettle]

@[simp] theorem Dev.setArea_part (d : Dev) (k : Nat) (x : SaveArea) : (d.setArea k x).part = d.part := by rfl

@[simp] theorem Dev.writeArea_part (d : Dev) (k : Nat) (h : SaveHeader) (cells : List Host.Cell) : (d.writeArea k h cells).part = d.part := by rfl

@[simp] theorem Dev.saveStart_part (d0 : Dev) (kind : Nat) : (d0.saveStart kind).part = d0.part := by
  simp [Dev.saveStart, apply_ite Dev.part]

@[simp] theorem Dev.saveCommit_part (d : Dev) : d.saveCommit.part = d.part := by
  unfold Dev.saveCommit
  split <;> simp

@[simp] theorem Dev.checkpointTick_part (d : Dev) : d.checkpointTick.part = d.part := by
  unfold Dev.checkpointTick
  (repeat' split) <;> simp

@[simp] theorem Dev.dropCheckpoint_part (d : Dev) : d.dropCheckpoint.part = d.part := by
  simp [Dev.dropCheckpoint]

@[simp] theorem Dev.clearSaveSet_part (d : Dev) : d.clearSaveSet.part = d.part := by rfl

@[simp] theorem Dev.restoreSave_part (d : Dev) : d.restoreSave.2.part = d.part := by
  unfold Dev.restoreSave
  dsimp only
  split <;> simp

@[simp] theorem Dev.applyRecord_part (d : Dev) (r : Nat) (data : List Nat) : (d.applyRecord r data).part = d.part := by
  unfold Dev.applyRecord
  repeat' first | (simp; done) | split | refine (foldl_part (fun _ _ => ?_) _ _).trans ?_

@[simp] theorem Dev.restoreRecords_part (d : Dev) : d.restoreRecords.2.part = d.part := by
  simp [Dev.restoreRecords, apply_ite Dev.part, apply_ite Prod.snd]

@[simp] theorem Dev.logLost_part (d : Dev) (rs : List Nat) : (d.logLost rs).part = d.part := by
  simp [Dev.logLost]

@[simp] theorem Dev.readPointed_part (d : Dev) (ptr : Nat) : (d.readPointed ptr).2.part = d.part := by
  simp [Dev.readPointed]

@[simp] theorem Dev.restoreBlocks_part (d : Dev) : d.restoreBlocks.part = d.part := by
  unfold Dev.restoreBlocks
  repeat' first | (simp; done) | split | refine (part_of_eq_snd ‹_›).trans ?_ | refine (foldl_part (fun _ _ => ?_) _ _).trans ?_ | simp

@[simp] theorem Dev.takeSlot_part (d : Dev) (bs : List Nat) (bad : Nat) : (d.takeSlot bs bad).part = d.part := by
  simp [Dev.takeSlot, apply_ite Dev.part]

@[simp] theorem Dev.restoreSlot_part (d : Dev) : d.restoreSlot.part = d.part := by
  simp [Dev.restoreSlot]

@[simp] theorem Dev.restoreLockouts_part (d : Dev) : d.restoreLockouts.part = d.part := by
  simp [Dev.restoreLockouts, apply_ite Dev.part]

@[simp] theorem Dev.tearWrites_part (d : Dev) : d.tearWrites.part = d.part := by
  unfold Dev.tearWrites
  exact foldl_part (fun _ _ => by split <;> simp) _ _

@[simp] theorem Dev.setOpen_part (d : Dev) (r k : Nat) (on : Bool) : (d.setOpen r k on).part = d.part := by
  simp [Dev.setOpen, apply_ite Dev.part]

@[simp] theorem bodyNvmUnlock_part (id : Nat) (x : Sys2Proof.Desc) (d : Dev) : (bodyNvmUnlock id x d).part = d.part := by
  simp [bodyNvmUnlock, apply_ite Dev.part]

@[simp] theorem bodyNvmLock_part (id : Nat) (x : Sys2Proof.Desc) (d : Dev) : (bodyNvmLock id x d).part = d.part := by
  simp [bodyNvmLock, apply_ite Dev.part]

@[simp] theorem bodyNvmSetpw_part (id : Nat) (x : Sys2Proof.Desc) (d : Dev) : (bodyNvmSetpw id x d).part = d.part := by
  simp [bodyNvmSetpw, apply_ite Dev.part]

@[simp] theorem bodyNvmRead_part (ups : List (Nat × Nat × Nat)) (id : Nat) (x : Sys2Proof.Desc) (d : Dev) :
    (bodyNvmRead ups id x d).part = d.part := by
  simp [bodyNvmRead, apply_ite Dev.part]

@[simp] theorem bodyNvmWrite_part (id : Nat) (x : Sys2Proof.Desc) (d : Dev) : (bodyNvmWrite id x d).part = d.part := by
  unfold bodyNvmWrite
  repeat' first | (simp; done) | split | refine (part_of_eq_snd ‹_›).trans ?_ | simp

@[simp] theorem bodyNvmSync_part (id : Nat) (a1 : Sys2Proof.Desc) (d : Dev) : (bodyNvmSync id a1 d).part = d.part := by
  simp [bodyNvmSync, apply_ite Dev.part]

@[simp] theorem Dev.awaitRecord_part (d : Dev) (id r : Nat) : (d.awaitRecord id r).part = d.part := by
  simp [Dev.awaitRecord, apply_ite Dev.part]

@[simp] theorem bodyRecConfirm_part (id : Nat) (x : Sys2Proof.Desc) (d : Dev) : (bodyRecConfirm id x d).part = d.part := by
  unfold bodyRecConfirm
  dsimp only
  (repeat' split) <;> simp

@[simp] theorem bodyRecWrite_part (id : Nat) (x : Sys2Proof.Desc) (d : Dev) : (bodyRecWrite id x d).part = d.part := by
  unfold bodyRecWrite
  dsimp only
  (repeat' split) <;> simp

@[simp] theorem bodyRecRead_part (ups : List (Nat × Nat × Nat)) (id : Nat) (x : Sys2Proof.Desc) (d : Dev) :
    (bodyRecRead ups id x d).part = d.part := by
  unfold bodyRecRead
  dsimp only
  (repeat' split) <;> simp

@[simp] theorem Dev.exportRecords_part (d : Dev) : d.exportRecords.2.part = d.part := by
  simp [Dev.exportRecords, apply_ite Prod.snd]

@[simp] theorem Dev.exportBlocks_part (d : Dev) : d.exportBlocks.2.part = d.part := by
  unfold Dev.exportBlocks
  repeat' first | (simp; done) | split | refine (part_of_eq_snd ‹_›).trans ?_ | refine (foldl_snd_part (fun _ _ => ?_) _ _).trans ?_

@[simp] theorem Dev.exportSave_part (d0 : Dev) : d0.exportSave.2.part = d0.part := by
  simp [Dev.exportSave]

@[simp] theorem Dev.nvmTwo_part (d : Dev) (a b n : Nat) : (d.nvmTwo a b n).2.part = d.part := by
  simp [Dev.nvmTwo]

@[simp] theorem Dev.exportRegion_part (d : Dev) (r : Nat) : (d.exportRegion r).2.part = d.part := by
  simp [Dev.exportRegion]

@[simp] theorem Dev.exportHost_part (d : Dev) (host : Bool) (r : Nat) : (d.exportHost host r).2.part = d.part := by
  unfold Dev.exportHost
  split <;> simp

@[simp] theorem Dev.exportPayload_part (d : Dev) (host : Bool) : (d.exportPayload host).2.part = d.part := by
  simp [Dev.exportPayload]

@[simp] theorem bodyNvmExport_part (id : Nat) (x : Sys2Proof.Desc) (d : Dev) : (bodyNvmExport id x d).part = d.part := by
  simp [bodyNvmExport, apply_ite Dev.part]

@[simp] theorem Dev.endExport_part (d : Dev) (st : Status) (result : Nat) : (d.endExport st result).part = d.part := by
  unfold Dev.endExport
  split <;> simp

@[simp] theorem Dev.exportTick_part (d : Dev) : d.exportTick.part = d.part := by
  unfold Dev.exportTick
  dsimp only
  (repeat' split) <;> simp

@[simp] theorem bodyNvmImport_part (data : List Nat) (id : Nat) (x : Sys2Proof.Desc) (d : Dev) : (bodyNvmImport data id x d).part = d.part := by
  simp [bodyNvmImport, apply_ite Dev.part]

@[simp] theorem Dev.endImport_part (d : Dev) (st : Status) (result : Nat) : (d.endImport st result).part = d.part := by
  unfold Dev.endImport
  split <;> simp

@[simp] theorem Dev.importChecked_part (d : Dev) (id : Nat) (x : Sys2Proof.Desc) : (d.importChecked id x).part = d.part := by
  unfold Dev.importChecked
  dsimp only
  (repeat' split) <;> simp

@[simp] theorem Dev.importRecord_part (d : Dev) (r : Nat) (data : Option (List Nat)) : (d.importRecord r data).part = d.part := by
  simp [Dev.importRecord]

@[simp] theorem Dev.importSave_part (d : Dev) (save : List Nat) : (d.importSave save).part = d.part := by
  simp [Dev.importSave, apply_ite Dev.part]

@[simp] theorem Dev.importBlock_part (d : Dev) (e : Nat × List Nat) : (d.importBlock e).part = d.part := by
  simp [Dev.importBlock]

@[simp] theorem Dev.runImport_part (d : Dev) (p : List Nat) : (d.runImport p).part = d.part := by
  unfold Dev.runImport
  repeat' first
    | with_reducible rfl | with_reducible refine (Dev.importBlock_part ..).trans ?_ | with_reducible refine (Dev.importSave_part ..).trans ?_
    | with_reducible refine (Dev.importRecord_part ..).trans ?_ | with_reducible refine (Dev.putSlot_part ..).trans ?_
    | with_reducible refine (Dev.nvmPut_part ..).trans ?_ | with_reducible refine (Dev.put_part ..).trans ?_ | split
    | refine (foldl_part (fun _ _ => ?_) _ _).trans ?_ | dsimp only

@[simp] theorem Dev.importTick_part (d : Dev) : d.importTick.part = d.part := by
  unfold Dev.importTick
  (repeat' split) <;> simp

@[simp] theorem Dev.beginImport_part (d : Dev) (o : ImportOp) : (d.beginImport o).part = d.part := by
  simp [Dev.beginImport]

@[simp] theorem Dev.importStep_part (d : Dev) : d.importStep.part = d.part := by
  unfold Dev.importStep
  (repeat' split) <;> simp

@[simp] theorem Dev.nvmTick_part (d : Dev) : d.nvmTick.part = d.part := by
  simp [Dev.nvmTick]

@[simp] theorem Dev.restoreImport_part (d : Dev) : d.restoreImport.part = d.part := by
  simp [Dev.restoreImport, apply_ite Dev.part]

@[simp] theorem Dev.abortWrite_part (d : Dev) (id : Nat) (r : Rec) : (d.abortWrite id r).part = d.part := by
  unfold Dev.abortWrite
  (repeat' split) <;> simp

@[simp] theorem settleNvm_part (id : Nat) (r : Rec) (d : Dev) : (settleNvm id r d).part = d.part := by
  unfold settleNvm
  (repeat' split) <;> simp

@[simp] theorem bodyNvmAbort_part (id : Nat) (x : Sys2Proof.Desc) (d : Dev) : (bodyNvmAbort id x d).part = d.part := by
  simp [bodyNvmAbort, apply_ite Dev.part]

@[simp] theorem Dev.nvmDip_part (d : Dev) : d.nvmDip.part = d.part := by
  simp [Dev.nvmDip]

@[simp] theorem Dev.writeNvmClr_part (d : Dev) (v : Nat) : (d.writeNvmClr v).part = d.part := by
  unfold Dev.writeNvmClr
  repeat' first | (simp; done) | split | refine (foldl_part (fun _ _ => ?_) _ _).trans ?_

@[simp] theorem Dev.fitStep_part (d : Dev) (n : Nat) : (d.fitStep n).part = d.part := by rfl

@[simp] theorem Dev.pmbusRetryAll_part (d : Dev) : d.pmbusRetryAll.part = d.part := by
  simp [Dev.pmbusRetryAll, apply_ite Dev.part]

@[simp] theorem Dev.fitForget_part (d : Dev) : d.fitForget.part = d.part := by rfl

@[simp] theorem Dev.fitGiveBack_part (d : Dev) : d.fitGiveBack.part = d.part := by rfl

@[simp] theorem Dev.fitStart_part (d0 : Dev) (desc : Option Nat) : (d0.fitStart desc).part = d0.part := by
  simp [Dev.fitStart]

@[simp] theorem Dev.fitDrop_part (d0 : Dev) : d0.fitDrop.part = d0.part := by rfl

@[simp] theorem Dev.dropLog_part (d : Dev) : d.dropLog.part = d.part := by rfl

@[simp] theorem Dev.showPaths_part (d : Dev) (ps : List Nat) : (d.showPaths ps).part = d.part := by rfl

@[simp] theorem Dev.takeBase_part (d : Dev) (e i v : Nat) : (d.takeBase e i v).part = d.part := by
  simp [Dev.takeBase, apply_ite Dev.part]

@[simp] theorem Dev.coilBase_part (d : Dev) (c : Nat) : (d.coilBase c).part = d.part := by
  simp [Dev.coilBase, apply_ite Dev.part]

@[simp] theorem Dev.fitBaselines_part (d : Dev) (m : Sys2Proof.FitSense) : (d.fitBaselines m).part = d.part := by
  unfold Dev.fitBaselines
  dsimp only
  (repeat' split) <;> simp

@[simp] theorem Dev.fitDecide_part (d : Dev) : d.fitDecide.part = d.part := by
  unfold Dev.fitDecide
  split <;> simp

@[simp] theorem Dev.showEffective_part (d : Dev) : d.showEffective.part = d.part := by rfl

@[simp] theorem Dev.setTarget_part (d : Dev) (mv : Nat) : (d.setTarget mv).part = d.part := by
  simp [Dev.setTarget]

@[simp] theorem Dev.raiseChange_part (d : Dev) (c : FitChange) (cause : Nat) : (d.raiseChange c cause).part = d.part := by
  simp [Dev.raiseChange]

@[simp] theorem Dev.applyChange_part (d : Dev) (c : FitChange) : (d.applyChange c).part = d.part := by
  unfold Dev.applyChange
  split <;> simp

@[simp] theorem Dev.raiseForecast_part (d : Dev) (p : Nat × Nat) : (d.raiseForecast p).part = d.part := by
  simp [Dev.raiseForecast, apply_ite Dev.part]

@[simp] theorem Dev.fitApplied_part (d : Dev) : d.fitApplied.part = d.part := by
  unfold Dev.fitApplied
  repeat' first
    | with_reducible rfl | with_reducible refine ite_part ?_ ?_ | with_reducible refine (Dev.raiseForecast_part ..).trans ?_
    | with_reducible refine (Dev.applyChange_part ..).trans ?_ | with_reducible refine (Dev.fitStep_part ..).trans ?_
    | with_reducible refine (Dev.done_part ..).trans ?_ | with_reducible refine (Dev.raise_part ..).trans ?_
    | with_reducible refine (Dev.putRet_part ..).trans ?_ | with_reducible refine (Dev.put_part ..).trans ?_ | split
    | refine (foldl_part (fun _ _ => ?_) _ _).trans ?_

@[simp] theorem Dev.fitDip_part (d : Dev) : d.fitDip.part = d.part := by
  unfold Dev.fitDip
  dsimp only
  (repeat' split) <;> simp

@[simp] theorem Dev.fitFreeze_part (d : Dev) : d.fitFreeze.part = d.part := by rfl

@[simp] theorem bodyFitRun_part (id : Nat) (a1 : Sys2Proof.Desc) (d : Dev) : (bodyFitRun id a1 d).part = d.part := by
  simp [bodyFitRun, apply_ite Dev.part]

@[simp] theorem bodyFitLogRead_part (id : Nat) (x : Sys2Proof.Desc) (d : Dev) : (bodyFitLogRead id x d).part = d.part := by
  simp [bodyFitLogRead, apply_ite Dev.part]

@[simp] theorem bodyFitBaseline_part (id : Nat) (x : Sys2Proof.Desc) (d : Dev) : (bodyFitBaseline id x d).part = d.part := by
  simp [bodyFitBaseline, apply_ite Dev.part]

@[simp] theorem settleFit_part (id : Nat) (r : Rec) (d : Dev) : (settleFit id r d).part = d.part := by
  simp [settleFit, apply_ite Dev.part]

@[simp] theorem bodyFitAbort_part (id : Nat) (x : Sys2Proof.Desc) (d : Dev) : (bodyFitAbort id x d).part = d.part := by
  simp [bodyFitAbort, apply_ite Dev.part]

@[simp] theorem Dev.setSec_part (d : Dev) (x : SecSt) : (d.setSec x).part = d.part := by rfl

@[simp] theorem Dev.endSec_part (d : Dev) (id : Nat) (st : Status) (result : Nat) : (d.endSec id st result).part = d.part := by
  simp [Dev.endSec]

@[simp] theorem Dev.addSec_part (d : Dev) (id kind : Nat) : (d.addSec id kind).part = d.part := by rfl

@[simp] theorem Dev.beginEnvelope_part (d : Dev) (id kind : Nat) (x : Sys2Proof.Desc) : (d.beginEnvelope id kind x).part = d.part := by
  simp [Dev.beginEnvelope, apply_ite Dev.part]

@[simp] theorem bodyOwnerHandover_part (id : Nat) (x : Sys2Proof.Desc) (d : Dev) : (bodyOwnerHandover id x d).part = d.part := by
  simp [bodyOwnerHandover]

@[simp] theorem bodyConfigManifest_part (id : Nat) (x : Sys2Proof.Desc) (d : Dev) : (bodyConfigManifest id x d).part = d.part := by
  simp [bodyConfigManifest]

@[simp] theorem bodyFwUpdate_part (id : Nat) (x : Sys2Proof.Desc) (d : Dev) : (bodyFwUpdate id x d).part = d.part := by
  simp [bodyFwUpdate]

@[simp] theorem bodyAttest_part (id : Nat) (x : Sys2Proof.Desc) (d : Dev) : (bodyAttest id x d).part = d.part := by
  simp [bodyAttest, apply_ite Dev.part]

@[simp] theorem Dev.secChecked_part (d : Dev) (id : Nat) (x : Sys2Proof.Desc) : (d.secChecked id x).part = d.part := by
  unfold Dev.secChecked
  repeat' first | (simp; done) | split | refine (part_of_eq_snd ‹_›).trans ?_ | simp

@[simp] theorem Dev.handover_part (d : Dev) (id : Nat) (p : List Nat) : (d.handover id p).part = d.part := by
  unfold Dev.handover
  split <;> simp

@[simp] theorem Dev.setManifest_part (d : Dev) (p : List Nat) : (d.setManifest p).part = d.part := by
  simp [Dev.setManifest]

@[simp] theorem Dev.attest_part (d : Dev) (id : Nat) : (d.attest id).part = d.part := by
  unfold Dev.attest
  split <;> simp

@[simp] theorem Dev.secTick_part (d : Dev) : d.secTick.part = d.part := by
  simp [Dev.secTick, apply_ite Dev.part]

@[simp] theorem Dev.abortUpdate_part (d : Dev) : d.abortUpdate.part = d.part := by
  unfold Dev.abortUpdate
  dsimp only
  (repeat' split) <;> simp

@[simp] theorem settleSec_part (id : Nat) (r : Rec) (d : Dev) : (settleSec id r d).part = d.part := by
  simp [settleSec, apply_ite Dev.part]

@[simp] theorem bodySecAbort_part (id : Nat) (x : Sys2Proof.Desc) (d : Dev) : (bodySecAbort id x d).part = d.part := by
  simp [bodySecAbort, apply_ite Dev.part]

@[simp] theorem Dev.bootIdentity_part (d : Dev) : d.bootIdentity.part = d.part := by rfl

@[simp] theorem Dev.recordNow_part (d : Dev) (off : Nat) : (d.recordNow off).part = d.part := by
  unfold Dev.recordNow
  split <;> simp

@[simp] theorem Dev.noteSlots_part (d : Dev) (a b : Nat) : (d.noteSlots a b).part = d.part := by
  simp [Dev.noteSlots, apply_ite Dev.part]

@[simp] theorem Dev.booted_part (d : Dev) (slot : Nat) (x : Sys2Proof.SlotCheck) : (d.booted slot x).part = d.part := by
  simp [Dev.booted]

@[simp] theorem Dev.confirmTrial_part (d : Dev) : d.confirmTrial.part = d.part := by
  simp [Dev.confirmTrial, apply_ite Dev.part]

@[simp] theorem Dev.reportFallback_part (d : Dev) : d.reportFallback.part = d.part := by
  simp [Dev.reportFallback, apply_ite Dev.part]

@[simp] theorem Dev.secRestore_part (d : Dev) : d.secRestore.part = d.part := by rfl

@[simp] theorem Dev.enterRecovery_part (d : Dev) : d.enterRecovery.part = d.part := by
  simp [Dev.enterRecovery]

@[simp] theorem Dev.leaveRecovery_part (d : Dev) : d.leaveRecovery.part = d.part := by rfl

@[simp] theorem Dev.stagedCode_part (d : Dev) (len : Nat) : (d.stagedCode len).2.part = d.part := by
  unfold Dev.stagedCode
  repeat' first | (simp; done) | split | refine (part_of_eq_snd ‹_›).trans ?_ | simp

@[simp] theorem Dev.writeFwRec_part (d : Dev) (v : Nat) : (d.writeFwRec v).part = d.part := by
  simp [Dev.writeFwRec, apply_ite Dev.part]

end Sys2Proof.Machine
end

section
/-! SUPPORT. No operation on the device changes the part: the operations of the whole machine. -/

namespace Sys2Proof.Machine
open Sys2Proof

@[simp] theorem Dev.setPower_part (d : Dev) (x : PowerSt) : (d.setPower x).part = d.part := by rfl

@[simp] theorem Dev.setPfw_part (d : Dev) (low : Bool) : (d.setPfw low).part = d.part := by rfl

@[simp] theorem Dev.abandonTrial_part (d : Dev) : d.abandonTrial.part = d.part := by
  simp [Dev.abandonTrial, apply_ite Dev.part]

@[simp] theorem Dev.inReset_part (d1 : Dev) (supplyLost : Bool) : (d1.inReset supplyLost).part = d1.part := by rfl

@[simp] theorem Dev.coreReset_part (d : Dev) (supplyLost : Bool) : (d.coreReset supplyLost).part = d.part := by
  simp [Dev.coreReset]

@[simp] theorem Dev.latchReset_part (d : Dev) (cause : Nat) : (d.latchReset cause).part = d.part := by rfl

@[simp] theorem Dev.raiseEnable_part (d : Dev) (r : Nat) : (d.raiseEnable r).part = d.part := by rfl

@[simp] theorem Dev.lowerEnables_part (d : Dev) : d.lowerEnables.part = d.part := by
  simp [Dev.lowerEnables, apply_ite Dev.part]

@[simp] theorem Dev.startStep2_part (d : Dev) : d.startStep2.part = d.part := by rfl

@[simp] theorem Dev.bootRecord_part (d : Dev) (off : Nat) : (d.bootRecord off).part = d.part := by
  unfold Dev.bootRecord
  dsimp only
  (repeat' split) <;> simp

@[simp] theorem Dev.startStep4_part (d : Dev) : d.startStep4.part = d.part := by
  simp [Dev.startStep4]

@[simp] theorem Dev.logAtBoot_part (d : Dev) (cause time : Nat) : (d.logAtBoot cause time).part = d.part := by
  simp [Dev.logAtBoot]

@[simp] theorem Dev.logLatched_part (d : Dev) : d.logLatched.part = d.part := by
  unfold Dev.logLatched
  dsimp only
  (repeat' split) <;> simp

@[simp] theorem Dev.placeRegions_part (d : Dev) : d.placeRegions.part = d.part := by rfl

@[simp] theorem Dev.schedRestore_part (d : Dev) : d.schedRestore.part = d.part := by
  simp [Dev.schedRestore, apply_ite Dev.part]

@[simp] theorem Dev.varRestore_part (d : Dev) : d.varRestore.part = d.part := by
  simp [Dev.varRestore, apply_ite Dev.part]

@[simp] theorem Dev.banksRestore_part (d : Dev) : d.banksRestore.part = d.part := by
  simp [Dev.banksRestore, apply_ite Dev.part]

@[simp] theorem Dev.startLevel_part (d : Dev) : d.startLevel.part = d.part := by rfl

@[simp] theorem Dev.restoreRest_part (d : Dev) (found : Bool) : (d.restoreRest found).part = d.part := by
  simp [Dev.restoreRest]

@[simp] theorem Dev.restoreAll_part (d : Dev) : d.restoreAll.part = d.part := by
  simp [Dev.restoreAll]

@[simp] theorem Dev.pmbusEvent_part (d : Dev) (entered : Bool) (cause word : Nat) : (d.pmbusEvent entered cause word).part = d.part := by
  simp [Dev.pmbusEvent]

@[simp] theorem Dev.pmbusStop_part (d : Dev) (cause word : Nat) : (d.pmbusStop cause word).part = d.part := by
  simp [Dev.pmbusStop, apply_ite Dev.part]

@[simp] theorem Dev.pmbusOpen_part (d0 : Dev) (mode : Sys2Proof.PmbusResult) : (d0.pmbusOpen mode).part = d0.part := by
  unfold Dev.pmbusOpen
  (repeat' split) <;> simp

@[simp] theorem Dev.restoreOutputs_part (d : Dev) : d.restoreOutputs.part = d.part := by
  simp [Dev.restoreOutputs]

@[simp] theorem Dev.linksUp_part (d : Dev) : d.linksUp.part = d.part := by
  simp [Dev.linksUp, apply_ite Dev.part]

@[simp] theorem Dev.startReports_part (d : Dev) : d.startReports.part = d.part := by
  unfold Dev.startReports
  dsimp only
  (repeat' split) <;> simp

@[simp] theorem Dev.startControl_part (d : Dev) (low : Bool) : (d.startControl low).part = d.part := by
  simp [Dev.startControl, apply_ite Dev.part]

@[simp] theorem Dev.startOutside_part (d : Dev) : d.startOutside.part = d.part := by
  simp [Dev.startOutside]

@[simp] theorem Dev.putVolts_part (d : Dev) (vl24 vhold : Nat) : (d.putVolts vl24 vhold).part = d.part := by rfl

@[simp] theorem Dev.noteMin_part (d : Dev) (vl24 : Nat) : (d.noteMin vl24).part = d.part := by rfl

@[simp] theorem Dev.followResume_part (d : Dev) (vl24 : Nat) : (d.followResume vl24).part = d.part := by rfl

@[simp] theorem Dev.powerDip_part (d : Dev) (entered : Bool) (ticks : Nat) : (d.powerDip entered ticks).part = d.part := by
  simp [Dev.powerDip]

@[simp] theorem Dev.warningSave_part (d : Dev) : d.warningSave.part = d.part := by
  simp [Dev.warningSave, apply_ite Dev.part]

@[simp] theorem Dev.dipActs_part (d : Dev) : d.dipActs.part = d.part := by
  simp [Dev.dipActs]

@[simp] theorem Dev.stopEngines_part (d : Dev) : d.stopEngines.part = d.part := by
  simp [Dev.stopEngines]

@[simp] theorem Dev.reportLeft_part (d : Dev) : d.reportLeft.part = d.part := by
  unfold Dev.reportLeft
  split <;> simp

@[simp] theorem Dev.enterWarning_part (d : Dev) (vl24 vhold : Nat) (pin : Bool) : (d.enterWarning vl24 vhold pin).part = d.part := by
  simp [Dev.enterWarning, apply_ite Dev.part]

@[simp] theorem Dev.joinWarning_part (d : Dev) (vl24 vhold : Nat) : (d.joinWarning vl24 vhold).part = d.part := by
  simp [Dev.joinWarning, apply_ite Dev.part]

@[simp] theorem Dev.warnIfLow_part (d : Dev) (before : Nat) : (d.warnIfLow before).part = d.part := by
  simp [Dev.warnIfLow, apply_ite Dev.part]

@[simp] theorem Dev.resumeControl_part (d : Dev) : d.resumeControl.part = d.part := by
  simp [Dev.resumeControl]

@[simp] theorem Dev.writePwrClr_part (d : Dev) (v : Nat) : (d.writePwrClr v).part = d.part := by
  simp [Dev.writePwrClr, apply_ite Dev.part]

@[simp] theorem Dev.pmbusFail_part (d : Dev) (command cause : Nat) : (d.pmbusFail command cause).part = d.part := by
  simp [Dev.pmbusFail, apply_ite Dev.part]

@[simp] theorem Dev.pmbusTry_part (d : Dev) (res mode : Sys2Proof.PmbusResult) : (d.pmbusTry res mode).part = d.part := by
  unfold Dev.pmbusTry
  dsimp only
  (repeat' split) <;> simp

@[simp] theorem Dev.setFrz_part (d : Dev) (x : FreezeSt) : (d.setFrz x).part = d.part := by rfl

@[simp] theorem Dev.askFreeze_part (d : Dev) (cause : Nat) (quilt : Bool) (desc : Option Nat) : (d.askFreeze cause quilt desc).part = d.part := by
  unfold Dev.askFreeze
  (repeat' split) <;> simp

@[simp] theorem bodyDbgFreeze_part (id : Nat) (x : Sys2Proof.Desc) (d : Dev) : (bodyDbgFreeze id x d).part = d.part := by
  simp [bodyDbgFreeze, apply_ite Dev.part]

@[simp] theorem Dev.freezeWord_part (d : Dev) : d.freezeWord.part = d.part := by
  unfold Dev.freezeWord
  (repeat' split) <;> simp

@[simp] theorem Dev.askThaw_part (d : Dev) (cause : Nat) : (d.askThaw cause).part = d.part := by
  unfold Dev.askThaw
  dsimp only
  (repeat' split) <;> simp

@[simp] theorem Dev.freeRead_part (d : Dev) : d.freeRead.2.part = d.part := by rfl

@[simp] theorem Dev.roValue_part (d : Dev) (space index : Nat) : (d.roValue space index).2.part = d.part := by
  unfold Dev.roValue
  (repeat' split) <;> simp

@[simp] theorem Dev.readOut_part (d : Dev) (space index : Nat) : (d.readOut space index).2.part = d.part := by
  unfold Dev.readOut
  split <;> simp

@[simp] theorem Dev.writeGen_part (d : Dev) (off v : Nat) (ok : Nat → Bool) (reject : Dev → Dev) (after : Nat → Dev → Dev) (hfreject : ∀
    (x0 : Dev), (reject x0).part = x0.part) (hfafter : ∀ (x0 : Nat) (x1 : Dev), (after x0 x1).part = x1.part) :
    (d.writeGen off v ok reject after).part = d.part := by
  unfold Dev.writeGen
  repeat' first | (simp [*]; done) | split | refine (foldl_part (fun _ _ => ?_) _ _).trans ?_ | simp [*]

@[simp] theorem Dev.writePlain_part (d : Dev) (off v : Nat) (reject : Dev → Dev) (hfreject : ∀ (x0 : Dev), (reject x0).part = x0.part) :
    (d.writePlain off v reject).part = d.part := by
  simp [Dev.writePlain, *]

@[simp] theorem Dev.writeGlobal_part (d : Dev) (off v : Nat) : (d.writeGlobal off v).part = d.part := by
  have hreject : ∀ y : Dev, (if 0x100 ≤ off && off < 0x124 then y.put Reg.PWR_STAT.WRITE_REJECTED 0 1 else y).part = y.part :=
    fun y => by split <;> rfl
  unfold Dev.writeGlobal
  refine ite_part (Dev.writeBlsel_part ..) (ite_part (Dev.writeSeal_part ..) (ite_part (Dev.writeMemerrClr_part ..)
    (ite_part (Dev.writePwrClr_part ..) (ite_part ?_ (Dev.writePlain_part _ _ _ _ hreject)))))
  exact (Dev.warnIfLow_part ..).trans ((Dev.showEffective_part _).trans (Dev.writePlain_part _ _ _ _ fun _ => rfl))

@[simp] theorem Dev.writeBus_part (d : Dev) (off v : Nat) : (d.writeBus off v).part = d.part := by
  simp [Dev.writeBus, apply_ite Dev.part]

@[simp] theorem Dev.writeRingCtrl_part (d : Dev) (r v : Nat) : (d.writeRingCtrl r v).part = d.part := by
  simp [Dev.writeRingCtrl, apply_ite Dev.part]

@[simp] theorem Dev.writeMsix_part (d : Dev) (off v : Nat) : (d.writeMsix off v).part = d.part := by
  unfold Dev.writeMsix
  repeat' first
    | with_reducible rfl | with_reducible refine ite_part ?_ ?_ | with_reducible refine (Dev.emit_part ..).trans ?_
    | with_reducible refine (Dev.put_part ..).trans ?_

@[simp] theorem Dev.writeHostq_part (d : Dev) (off v : Nat) : (d.writeHostq off v).part = d.part := by
  simp [Dev.writeHostq, apply_ite Dev.part]

@[simp] theorem Dev.writeQuilt_part (d : Dev) (off v : Nat) : (d.writeQuilt off v).part = d.part := by
  simp [Dev.writeQuilt, apply_ite Dev.part]

@[simp] theorem Dev.writeMeas_part (d : Dev) (off v : Nat) : (d.writeMeas off v).part = d.part := by
  unfold Dev.writeMeas
  dsimp only
  (repeat' split) <;> simp

@[simp] theorem Dev.writePanel_part (d : Dev) (off v : Nat) : (d.writePanel off v).part = d.part := by
  unfold Dev.writePanel
  repeat' first
    | with_reducible rfl | with_reducible intro _ | with_reducible refine ite_part ?_ ?_
    | with_reducible refine (Dev.writeGen_part _ _ _ _ _ _ ?_ ?_).trans ?_ | with_reducible refine (Dev.writePanelCfg_part ..).trans ?_
    | with_reducible refine (Dev.put_part ..).trans ?_

@[simp] theorem Dev.writeKeys_part (d : Dev) (off v : Nat) : (d.writeKeys off v).part = d.part := by
  unfold Dev.writeKeys
  repeat' first
    | with_reducible rfl | with_reducible intro _ | with_reducible refine ite_part ?_ ?_
    | with_reducible refine (Dev.writeGen_part _ _ _ _ _ _ ?_ ?_).trans ?_ | with_reducible refine (Dev.keysCfgWritten_part ..).trans ?_
    | with_reducible refine (Dev.writeKeysIrq_part ..).trans ?_ | with_reducible refine (Dev.put_part ..).trans ?_

@[simp] theorem Dev.writeNvm_part (d : Dev) (off v : Nat) : (d.writeNvm off v).part = d.part := by
  unfold Dev.writeNvm
  split
  · exact Dev.writeNvmClr_part ..
  · exact Dev.writePlain_part _ _ _ _ fun _ => rfl

@[simp] theorem Dev.writeDbg_part (d : Dev) (off v : Nat) : (d.writeDbg off v).part = d.part := by
  simp [Dev.writeDbg, apply_ite Dev.part]

@[simp] theorem Dev.writeFitsec_part (d : Dev) (off v : Nat) : (d.writeFitsec off v).part = d.part := by
  unfold Dev.writeFitsec
  repeat' first
    | with_reducible rfl | with_reducible intro _ | with_reducible refine ite_part ?_ ?_ | with_reducible refine (Dev.writeDbg_part ..).trans ?_
    | with_reducible refine (Dev.writeGen_part _ _ _ _ _ _ ?_ ?_).trans ?_ | with_reducible refine (Dev.writeFwRec_part ..).trans ?_
    | with_reducible refine (Dev.put_part ..).trans ?_

@[simp] theorem Dev.writeReg_part (d : Dev) (off v : Nat) : (d.writeReg off v).part = d.part := by
  unfold Dev.writeReg
  repeat' first
    | with_reducible rfl | with_reducible refine ite_part ?_ ?_ | with_reducible refine (Dev.writeFitsec_part ..).trans ?_
    | with_reducible refine (Dev.writeNvm_part ..).trans ?_ | with_reducible refine (Dev.writeKeys_part ..).trans ?_
    | with_reducible refine (Dev.writePanel_part ..).trans ?_ | with_reducible refine (Dev.writeMeas_part ..).trans ?_
    | with_reducible refine (Dev.writeQuilt_part ..).trans ?_ | with_reducible refine (Dev.writeHostq_part ..).trans ?_
    | with_reducible refine (Dev.writeBus_part ..).trans ?_ | with_reducible refine (Dev.writeGlobal_part ..).trans ?_
    | with_reducible refine (Dev.writeLoopCtrl_part ..).trans ?_ | with_reducible refine (Dev.writePatCtrl_part ..).trans ?_
    | with_reducible refine (Dev.writeField_part ..).trans ?_ | split

@[simp] theorem Dev.writeSized_part (d : Dev) (off size v : Nat) : (d.writeSized off size v).part = d.part := by
  simp [Dev.writeSized, apply_ite Dev.part]

@[simp] theorem Dev.bar4Put_part (d : Dev) (off : Nat) (bs : List Nat) : (d.bar4Put off bs).part = d.part := by
  simp [Dev.bar4Put, apply_ite Dev.part]

theorem opIndex_part (data : List Nat) (ups : List (Nat × Nat × Nat)) : ∀ e ∈ opIndex data ups, ∀ id x y, (e.2.2 id x y).part = y.part := by
  simp [opIndex, opsGlobal, opsMeas, opsDio, opsPos, opsPattern, opsLoop, opsSched, opsShuttle, opsFanao, opsQuilt, opsBus, opsNvm, opsPanel, opsKeys,
    opsFitting, opsSecurity, opsDebug]

@[simp] theorem Dev.startDesc_part (d : Dev) (id : Nat) (x : Sys2Proof.Desc) (data : List Nat) (ups : List (Nat × Nat × Nat)) :
    (d.startDesc id x data ups).part = d.part := by
  unfold Dev.startDesc
  split
  · simp
  next e he => exact Dev.actDesc_part _ _ _ _ _ (opIndex_part data ups e (List.mem_of_find?_eq_some he))

@[simp] theorem Dev.patLoadChecked_part (d : Dev) (id : Nat) (x : Sys2Proof.Desc) : (d.patLoadChecked id x).part = d.part := by
  unfold Dev.patLoadChecked
  dsimp only
  (repeat' split) <;> simp

@[simp] theorem Dev.applyPosted_part (d : Dev) (p : Posted) : (d.applyPosted p).part = d.part := by
  unfold Dev.applyPosted
  split <;> simp

@[simp] theorem Dev.freezeEvents_part (d : Dev) (r : FreezeReq) (asked gone ms : Nat) : (d.freezeEvents r asked gone ms).part = d.part := by
  simp [Dev.freezeEvents, apply_ite Dev.part]

@[simp] theorem Dev.retrainThaw_part (d : Dev) (p : Nat) : (d.retrainThaw p).part = d.part := by
  simp [Dev.retrainThaw, apply_ite Dev.part]

@[simp] theorem Dev.thawResume_part (d : Dev) : d.thawResume.part = d.part := by
  simp [Dev.thawResume, apply_ite Dev.part]

@[simp] theorem Dev.thaw_part (d : Dev) (r : FreezeReq) (ms : Nat) (master : Option Nat) : (d.thaw r ms master).part = d.part := by
  simp [Dev.thaw]

@[simp] theorem Dev.thawMaster_part (d : Dev) (dev : Nat) : (d.thawMaster dev).part = d.part := by
  simp [Dev.thawMaster, apply_ite Dev.part]

@[simp] theorem Dev.routeWord_part (d : Dev) (p : Produced) : (d.routeWord p).part = d.part := by
  simp [Dev.routeWord, apply_ite Dev.part]

@[simp] theorem Dev.route_part (d : Dev) : d.route.2.part = d.part := by
  simp [Dev.route]

@[simp] theorem Dev.moveEngines_part (d : Dev) (move : Nat → Nat) (by_ : Int) : (d.moveEngines move by_).part = d.part := by rfl

@[simp] theorem Dev.moveQuilt_part (d : Dev) (move : Nat → Nat) : (d.moveQuilt move).part = d.part := by rfl

@[simp] theorem Dev.moveBuses_part (d : Dev) (move : Nat → Nat) : (d.moveBuses move).part = d.part := by rfl

@[simp] theorem Dev.moveRest_part (d : Dev) (move : Nat → Nat) : (d.moveRest move).part = d.part := by rfl

@[simp] theorem Dev.timeStep_part (d : Dev) : d.timeStep.part = d.part := by
  unfold Dev.timeStep
  (repeat' split) <;> simp

@[simp] theorem Dev.countSeconds_part (d : Dev) : d.countSeconds.part = d.part := by
  simp [Dev.countSeconds, apply_ite Dev.part]

@[simp] theorem Dev.startStep14_part (d : Dev) : d.startStep14.part = d.part := by
  simp [Dev.startStep14, apply_ite Dev.part]

@[simp] theorem Dev.sendFrames_part (d : Dev) : d.sendFrames.part = d.part := by
  simp [Dev.sendFrames]

@[simp] theorem Dev.coreBoundary_part (d : Dev) (vl24 vhold : Nat) : (d.coreBoundary vl24 vhold).part = d.part := by
  simp [Dev.coreBoundary, apply_ite Dev.part]

@[simp] theorem Dev.firstBoundary_part (d : Dev) (vl24 vhold : Nat) : (d.firstBoundary vl24 vhold).part = d.part := by
  simp [Dev.firstBoundary, apply_ite Dev.part]

end Sys2Proof.Machine
end

section
/-! SUPPORT. No command changes the part: one lemma per command, and the table of all of them. -/

namespace Sys2Proof.Machine
open Sys2Proof

/-- A command that leaves the part as it is. -/
def KeepsPart (f : State → Host.Outcome State Fault Refusal) : Prop := ∀ s t, f s = .next t → t.dev.part = s.dev.part

theorem KeepsPart.onDev {f : Dev → Dev} (hf : ∀ d, (f d).part = d.part) : KeepsPart fun s => s.onDev f := by
  intro s t h
  injection h with h
  subst h
  exact (hf _).trans (Dev.begin_part _)

theorem KeepsPart.submit {q : Nat} {x : Desc} {op : Nat} {named : List (Nat × Nat)} {body : Nat → Desc → Dev → Dev}
    (hbody : ∀ id x d, (body id x d).part = d.part) : KeepsPart fun s => s.onDev fun d => d.submit q x op named body :=
  .onDev fun d => Dev.submit_part d q x op named body hbody

theorem execNop_part (q : Nat) (x : Desc) : KeepsPart (execNop q x) := .submit fun _ _ _ => bodyNop_part ..

theorem execDescriptorFetched_part (q : Nat) (ds : Option (List Desc)) : KeepsPart (execDescriptorFetched q ds) := .onDev fun d => by
  dsimp only
  (repeat' split) <;> simp

theorem execFetchTimeout_part (q : Nat) : KeepsPart (execFetchTimeout q) := .onDev fun d => by simp [apply_ite Dev.part]

theorem execCompletionWrite_part (c : Nat) : KeepsPart (execCompletionWrite c) := .onDev fun d => by simp [apply_ite Dev.part]

theorem execMsixHoldoffEnd_part (r : Nat) : KeepsPart (execMsixHoldoffEnd r) := .onDev fun d => by
  dsimp only
  (repeat' split) <;> simp

theorem execEventWrite_part : KeepsPart execEventWrite := .onDev fun d => by simp [apply_ite Dev.part]

theorem execEventIntervalEnd_part (code src : Nat) : KeepsPart (execEventIntervalEnd code src) := .onDev fun d => by simp [apply_ite Dev.part]

theorem execSqTailDoorbell_part (q v : Nat) : KeepsPart (execSqTailDoorbell q v) := .onDev fun d => by simp [apply_ite Dev.part]

theorem execCqHeadDoorbell_part (c v : Nat) : KeepsPart (execCqHeadDoorbell c v) := .onDev fun d => by simp [apply_ite Dev.part]

theorem execEqHeadDoorbell_part (v : Nat) : KeepsPart (execEqHeadDoorbell v) := .onDev fun d => by simp

theorem execTqHeadDoorbell_part (t v : Nat) : KeepsPart (execTqHeadDoorbell t v) := .onDev fun d => by simp [apply_ite Dev.part]

theorem execHeartbeat_part (v : Nat) : KeepsPart (execHeartbeat v) := .onDev fun d => by simp

theorem execTailWriteback_part (t : Nat) : KeepsPart (execTailWriteback t) := .onDev fun d => by simp [apply_ite Dev.part]

theorem execRingEnable_part (r : Nat) : KeepsPart (execRingEnable r) := .onDev fun d => by simp [apply_ite Dev.part]

theorem execRingDisable_part (r : Nat) : KeepsPart (execRingDisable r) := .onDev fun d => by simp [apply_ite Dev.part]

theorem execFenceClr_part (q : Nat) : KeepsPart (execFenceClr q) := .onDev fun d => by simp [apply_ite Dev.part]

theorem execHostqWdogWrite_part (v : Nat) : KeepsPart (execHostqWdogWrite v) := .onDev fun d => by simp

theorem execHostLost_part : KeepsPart execHostLost := .onDev fun d => by simp [apply_ite Dev.part]

theorem execPcieReset_part (kind : PcieResetKind) : KeepsPart (execPcieReset kind) := .onDev fun d => by
  split <;> simp

theorem execPciePerstN_part : KeepsPart execPciePerstN := .onDev fun d => by simp

theorem execPcieLink_part (speed width : Nat) : KeepsPart (execPcieLink speed width) := .onDev fun d => by simp [apply_ite Dev.part]

theorem execBusRecv_part (q : Nat) (x : Desc) : KeepsPart (execBusRecv q x) := .submit fun _ _ _ => bodyBusRecv_part ..

theorem execMstpTimerExpiry_part (n : Nat) : KeepsPart (execMstpTimerExpiry n) := .onDev fun d => by
  dsimp only
  (repeat' split) <;> simp

theorem execMstpSilenceEnd_part (n : Nat) : KeepsPart (execMstpSilenceEnd n) := .onDev fun d => by simp [apply_ite Dev.part]

theorem execMstpFrame_part (n kind dest src : Nat) (data : List Nat) (crcOk : Bool) : KeepsPart
    (execMstpFrame n kind dest src data crcOk) := .onDev fun d => by
  repeat' first | (simp; done) | split | simp

theorem execMstpReplyWaitExpiry_part (n : Nat) : KeepsPart (execMstpReplyWaitExpiry n) := .onDev fun d => by
  dsimp only
  (repeat' split) <;> simp

theorem execMstpReplyTimeout_part (n : Nat) : KeepsPart (execMstpReplyTimeout n) := .onDev fun d => by simp [apply_ite Dev.part]

theorem execModbusPollDue_part (n i : Nat) : KeepsPart (execModbusPollDue n i) := .onDev fun d => by simp [apply_ite Dev.part]

theorem execModbusResponse_part (n : Nat) (bytes : List Nat) (good : Bool) : KeepsPart (execModbusResponse n bytes good) := .onDev fun d => by
  dsimp only
  (repeat' split) <;> simp

theorem execModbusTimeout_part (n : Nat) : KeepsPart (execModbusTimeout n) := .onDev fun d => by simp [apply_ite Dev.part]

theorem execModbusGap_part (n : Nat) : KeepsPart (execModbusGap n) := .onDev fun d => by simp [apply_ite Dev.part]

theorem execRawFrameEnd_part (n : Nat) (bytes : List Nat) (good : Bool) : KeepsPart (execRawFrameEnd n bytes good) := .onDev fun d =>
    by simp [apply_ite Dev.part]

theorem execT1lFrame_part (k : Nat) (bytes : List Nat) (good : Bool) : KeepsPart (execT1lFrame k bytes good) := .onDev fun d =>
    by simp [apply_ite Dev.part]

theorem execT1lLink_part (k : Nat) (up high : Bool) (sqi : Nat) : KeepsPart (execT1lLink k up high sqi) := .onDev fun d =>
    by simp [apply_ite Dev.part]

theorem execBusFrameSent_part (n : Nat) : KeepsPart (execBusFrameSent n) := .onDev fun d => by
  dsimp only
  (repeat' split) <;> simp

theorem execBusSend_part (q : Nat) (x : Desc) (data : List Nat) : KeepsPart (execBusSend q x data) := .submit fun _ _ _ => bodyBusSend_part ..

theorem execBusAbort_part (q : Nat) (x : Desc) : KeepsPart (execBusAbort q x) := .submit fun id x d => by simp

theorem execBusCfgWrite_part (n v : Nat) : KeepsPart (execBusCfgWrite n v) := .onDev fun d => by simp [apply_ite Dev.part]

theorem execBusPollSet_part (q : Nat) (x : Desc) : KeepsPart (execBusPollSet q x) := .submit fun _ _ _ => bodyBusPollSet_part ..

theorem execDiPulseWindow_part (i : Nat) (v : DiSample) : KeepsPart (execDiPulseWindow i v) := .onDev fun d => by simp [apply_ite Dev.part]

theorem execDiDebounceDone_part (i : Nat) (v : DiSample) : KeepsPart (execDiDebounceDone i v) := .onDev fun d => by simp [apply_ite Dev.part]

theorem execFloatDriveEnd_part (f : Nat) : KeepsPart (execFloatDriveEnd f) := .onDev fun d => by simp [apply_ite Dev.part]

theorem execFloatDeadTimeEnd_part (f : Nat) : KeepsPart (execFloatDeadTimeEnd f) := .onDev fun d => by simp [apply_ite Dev.part]

theorem execFloatBothHigh_part (f : Nat) : KeepsPart (execFloatBothHigh f) := .onDev fun d => by simp [apply_ite Dev.part]

theorem execDoOverload_part (o ma : Nat) : KeepsPart (execDoOverload o ma) := .onDev fun d => by simp [apply_ite Dev.part]

theorem execDoThermalLimit_part (o ma : Nat) : KeepsPart (execDoThermalLimit o ma) := .onDev fun d => by simp [apply_ite Dev.part]

theorem execDoRetry_part (o : Nat) : KeepsPart (execDoRetry o) := .onDev fun d => by simp [apply_ite Dev.part]

theorem execDoOnPeriodOk_part (o : Nat) : KeepsPart (execDoOnPeriodOk o) := .onDev fun d => by simp [apply_ite Dev.part]

theorem execDoForcedHigh_part (o ma : Nat) : KeepsPart (execDoForcedHigh o ma) := .onDev fun d => by simp [apply_ite Dev.part]

theorem execOpenLoadSet_part (o ma : Nat) : KeepsPart (execOpenLoadSet o ma) := .onDev fun d => by simp [apply_ite Dev.part]

theorem execOpenLoadClear_part (o : Nat) : KeepsPart (execOpenLoadClear o) := .onDev fun d => by simp [apply_ite Dev.part]

theorem execDarkTest_part (k : Nat) : KeepsPart (execDarkTest k) := .onDev fun d => by
  dsimp only
  (repeat' split) <;> simp

theorem execDarkPulseEnd_part (k : Nat) (fell : List Nat) : KeepsPart (execDarkPulseEnd k fell) := .onDev fun d => by
  dsimp only
  (repeat' split) <;> simp

theorem execDarkPairPulse_part (k : Nat) (fell : Bool) : KeepsPart (execDarkPairPulse k fell) := .onDev fun d => by
  dsimp only
  (repeat' split) <;> simp

theorem execFieldResumeTimeout_part (k : Nat) : KeepsPart (execFieldResumeTimeout k) := .onDev fun d => by
  dsimp only
  (repeat' split) <;> simp

theorem execDioForce_part (q : Nat) (x : Desc) : KeepsPart (execDioForce q x) := .submit fun _ _ _ => bodyDioForce_part ..

theorem execDoClear_part (q : Nat) (x : Desc) : KeepsPart (execDoClear q x) := .submit fun _ _ _ => bodyDoClear_part ..

theorem execDarkTestNow_part (q : Nat) (x : Desc) : KeepsPart (execDarkTestNow q x) := .submit fun _ _ _ => bodyDarkTestNow_part ..

theorem execFieldResume_part (q : Nat) (x : Desc) : KeepsPart (execFieldResume q x) := .submit fun _ _ _ => bodyFieldResume_part ..

theorem execKickTimeout_part (f : Nat) : KeepsPart (execKickTimeout f) := .onDev fun d => by simp [apply_ite Dev.part]

theorem execBackoffExpiry_part (f : Nat) : KeepsPart (execBackoffExpiry f) := .onDev fun d => by simp [apply_ite Dev.part]

theorem execTachEdge_part (f t : Nat) : KeepsPart (execTachEdge f t) := .onDev fun d => by simp [apply_ite Dev.part]

theorem execTachLost_part (f ma : Nat) : KeepsPart (execTachLost f ma) := .onDev fun d => by
  dsimp only
  (repeat' split) <;> simp

theorem execFanRun60s_part (f : Nat) : KeepsPart (execFanRun60s f) := .onDev fun d => by simp [apply_ite Dev.part]

theorem execAoOverload_part (a mv : Nat) : KeepsPart (execAoOverload a mv) := .onDev fun d => by simp [apply_ite Dev.part]

theorem execAoOverloadClear_part (a mv : Nat) : KeepsPart (execAoOverloadClear a mv) := .onDev fun d => by simp [apply_ite Dev.part]

theorem execFanaoForce_part (q : Nat) (x : Desc) : KeepsPart (execFanaoForce q x) := .submit fun _ _ _ => bodyFanaoForce_part ..

theorem execFanClear_part (q : Nat) (x : Desc) : KeepsPart (execFanClear q x) := .submit fun _ _ _ => bodyFanClear_part ..

theorem execBlReqWrite_part (v : Nat) : KeepsPart (execBlReqWrite v) := .onDev fun d => by simp

theorem execSealWrite_part (v : Nat) : KeepsPart (execSealWrite v) := .onDev fun d => by simp

theorem execTickLoRead_part : KeepsPart execTickLoRead := .onDev fun d => by simp [apply_ite Dev.part]

theorem execClrCorrected_part : KeepsPart execClrCorrected := .onDev fun d => by simp

theorem execClrUncorrectable_part : KeepsPart execClrUncorrectable := .onDev fun d => by simp

theorem execScrubRead_part (upset : Nat) : KeepsPart (execScrubRead upset) := .onDev fun d => by simp [apply_ite Dev.part]

theorem execBar4Read_part (off len : Nat) (upsets : List (Nat × Nat)) : KeepsPart (execBar4Read off len upsets) := .onDev fun d =>
    by simp [apply_ite Dev.part]

theorem execPassStart_part (c : Nat) : KeepsPart (execPassStart c) := .onDev fun d => by
  repeat' first | (simp; done) | split | refine (part_of_eq_snd ‹_›).trans ?_ | simp

theorem execConverterOutput_part (c : Nat) (code input : Int) : KeepsPart (execConverterOutput c code input) := .onDev fun d => by
  dsimp only
  (repeat' split) <;> simp

theorem execSlotStale_part (n : Nat) : KeepsPart (execSlotStale n) := .onDev fun d => by simp [apply_ite Dev.part]

theorem execMa20Disconnect_part (u : Nat) : KeepsPart (execMa20Disconnect u) := .onDev fun d => by simp [apply_ite Dev.part]

theorem execMa20Reconnect_part (u : Nat) : KeepsPart (execMa20Reconnect u) := .onDev fun d => by simp [apply_ite Dev.part]

theorem execMeasUrgent_part (q : Nat) (x : Desc) : KeepsPart (execMeasUrgent q x) := .submit fun _ _ _ => bodyMeasUrgent_part ..

theorem execUrgentHead_part (c : Nat) : KeepsPart (execUrgentHead c) := .onDev fun d => by
  dsimp only
  (repeat' split) <;> simp

theorem execUrgentValidOutput_part (c : Nat) (code input : Int) : KeepsPart (execUrgentValidOutput c code input) := .onDev fun d => by
  dsimp only
  (repeat' split) <;> simp

theorem execCalDue_part : KeepsPart execCalDue := .onDev fun d => by simp [apply_ite Dev.part]

theorem execCalCommit_part (c ofs gain : Nat) (selfTest : List Int) : KeepsPart (execCalCommit c ofs gain selfTest) := .onDev fun d =>
    by simp [apply_ite Dev.part]

theorem execMeasCal_part (q : Nat) (x : Desc) : KeepsPart (execMeasCal q x) := .submit fun _ _ _ => bodyMeasCal_part ..

theorem execMeasCapture_part (q : Nat) (x : Desc) : KeepsPart (execMeasCapture q x) := .submit fun _ _ _ => bodyMeasCapture_part ..

theorem execCaptureTrigger_part (g : Nat) (b : CaptureBurst) : KeepsPart (execCaptureTrigger g b) := .onDev fun d => by
  dsimp only
  (repeat' split) <;> simp

theorem execCaptureDone_part (g : Nat) : KeepsPart (execCaptureDone g) := .onDev fun d => by
  (repeat' split) <;> simp

theorem execCaptureShotTimeout_part (g : Nat) : KeepsPart (execCaptureShotTimeout g) := .onDev fun d => by
  split <;> simp

theorem execMeasAbort_part (q : Nat) (x : Desc) : KeepsPart (execMeasAbort q x) := .submit fun _ _ _ => bodyMeasAbort_part ..

theorem execUiModeWrite_part (u v : Nat) : KeepsPart (execUiModeWrite u v) := .onDev fun d => by simp [apply_ite Dev.part]

theorem execUiGainShWrite_part (u v : Nat) : KeepsPart (execUiGainShWrite u v) := .onDev fun d => by simp [apply_ite Dev.part]

theorem execConvCtrlWrite_part (c v : Nat) : KeepsPart (execConvCtrlWrite c v) := .onDev fun d => by simp [apply_ite Dev.part]

theorem execEmuEdge_part (a : EmuStep) : KeepsPart (execEmuEdge a) := .onDev fun d => by simp [apply_ite Dev.part]

theorem execPosEdge_part (p t : Nat) (e : QuadEdge) : KeepsPart (execPosEdge p t e) := .onDev fun d => by
  dsimp only
  (repeat' split) <;> simp

theorem execIndexPulse_part (e : IndexEdge) : KeepsPart (execIndexPulse e) := .onDev fun d => by simp [apply_ite Dev.part]

theorem execPosCheckTimeout_part (p : Nat) : KeepsPart (execPosCheckTimeout p) := .onDev fun d => by
  dsimp only
  (repeat' split) <;> simp

theorem execStandstillTimeout_part (p : Nat) : KeepsPart (execStandstillTimeout p) := .onDev fun d => by simp [apply_ite Dev.part]

theorem execSerialReadStart_part (p : Nat) : KeepsPart (execSerialReadStart p) := .onDev fun d => by simp [apply_ite Dev.part]

theorem execSerialReadEnd_part (p : Nat) (ack : Bool) (clocks : List Bool) : KeepsPart (execSerialReadEnd p ack clocks) := .onDev fun d => by
  dsimp only
  (repeat' split) <;> simp

theorem execSerialReadTimeout_part (p : Nat) : KeepsPart (execSerialReadTimeout p) := .onDev fun d => by
  (repeat' split) <;> simp

theorem execPosPreset_part (q : Nat) (x : Desc) : KeepsPart (execPosPreset q x) := .submit fun _ _ _ => bodyPosPreset_part ..

theorem execPosCheck_part (q : Nat) (x : Desc) : KeepsPart (execPosCheck q x) := .submit fun _ _ _ => bodyPosCheck_part ..

theorem execEmuForce_part (q : Nat) (x : Desc) : KeepsPart (execEmuForce q x) := .submit fun _ _ _ => bodyEmuForce_part ..

theorem execPosAbort_part (q : Nat) (x : Desc) : KeepsPart (execPosAbort q x) := .submit fun _ _ _ => bodyPosAbort_part ..

theorem execTargetReached_part (c t : Nat) (sense : SolSense) : KeepsPart (execTargetReached c t sense) := .onDev fun d =>
    by simp [apply_ite Dev.part]

theorem execWaitPeakTimeout_part (c t : Nat) (sense : SolSense) : KeepsPart (execWaitPeakTimeout c t sense) := .onDev fun d =>
    by simp [apply_ite Dev.part]

theorem execChopPeriodStart_part (c : ChopStart) : KeepsPart (execChopPeriodStart c) := .onDev fun d => by simp [apply_ite Dev.part]

theorem execPeakGrant_part (k t : Nat) : KeepsPart (execPeakGrant k t) := .onDev fun d => by
  dsimp only
  (repeat' split) <;> simp

theorem execPeakWaitExpiry_part (c t : Nat) (sense : SolSense) : KeepsPart (execPeakWaitExpiry c t sense) := .onDev fun d =>
    by simp [apply_ite Dev.part]

theorem execSkipRetry_part (c : Nat) : KeepsPart (execSkipRetry c) := .onDev fun d => by simp [apply_ite Dev.part]

theorem execPeakMaxExpiry_part (c : Nat) : KeepsPart (execPeakMaxExpiry c) := .onDev fun d => by simp [apply_ite Dev.part]

theorem execOneShotDurExpiry_part (c t : Nat) (sense : SolSense) : KeepsPart (execOneShotDurExpiry c t sense) := .onDev fun d => by
  dsimp only
  (repeat' split) <;> simp

theorem execShuttleWaitEnd_part (c t : Nat) (sense : SolSense) : KeepsPart (execShuttleWaitEnd c t sense) := .onDev fun d =>
    by simp [apply_ite Dev.part]

theorem execSyncReached_part (c t : Nat) (sense : SolSense) : KeepsPart (execSyncReached c t sense) := .onDev fun d => by simp [apply_ite Dev.part]

theorem execDecayDone_part (c t : Nat) (sense : SolSense) : KeepsPart (execDecayDone c t sense) := .onDev fun d => by simp [apply_ite Dev.part]

theorem execEndingDone_part (c : Nat) : KeepsPart (execEndingDone c) := .onDev fun d => by simp [apply_ite Dev.part]

theorem execSolOvercurrent_part (c : Nat) : KeepsPart (execSolOvercurrent c) := .onDev fun d => by simp [apply_ite Dev.part]

theorem execClampOverheat_part (c : Nat) : KeepsPart (execClampOverheat c) := .onDev fun d => by simp [apply_ite Dev.part]

theorem execBankHsOvercurrent_part (b ma : Nat) : KeepsPart (execBankHsOvercurrent b ma) := .onDev fun d => by simp [apply_ite Dev.part]

theorem execBankHsOvertemp_part (b ma : Nat) : KeepsPart (execBankHsOvertemp b ma) := .onDev fun d => by simp [apply_ite Dev.part]

theorem execShuttleSwitch_part (b : Nat) : KeepsPart (execShuttleSwitch b) := .onDev fun d => by
  repeat' first | (simp; done) | split | refine (foldl_part (fun _ _ => ?_) _ _).trans ?_ | simp

theorem execShuttleLoadTimeout_part (b : Nat) : KeepsPart (execShuttleLoadTimeout b) := .onDev fun d => by
  (repeat' split) <;> simp

theorem execShuttleLoad_part (q : Nat) (x : Desc) : KeepsPart (execShuttleLoad q x) := .submit fun _ _ _ => bodyShuttleLoad_part ..

theorem execSolShot_part (q : Nat) (x : Desc) : KeepsPart (execSolShot q x) := .submit fun _ _ _ => bodySolShot_part ..

theorem execSolForce_part (q : Nat) (x : Desc) : KeepsPart (execSolForce q x) := .submit fun _ _ _ => bodySolForce_part ..

theorem execSolClear_part (q : Nat) (x : Desc) : KeepsPart (execSolClear q x) := .submit fun _ _ _ => bodySolClear_part ..

theorem execShuttleAbort_part (q : Nat) (x : Desc) : KeepsPart (execShuttleAbort q x) := .submit fun _ _ _ => bodyShuttleAbort_part ..

theorem execDownFrame_part (k : Nat) (arrives : Bool) (wrong : Nat) : KeepsPart (execDownFrame k arrives wrong) := .onDev fun d => by
  dsimp only
  (repeat' split) <;> simp

theorem execHoldWindowExpiry_part (k : Nat) : KeepsPart (execHoldWindowExpiry k) := .onDev fun d => by simp [apply_ite Dev.part]

theorem execFreezeHoldLimit_part (k : Nat) : KeepsPart (execFreezeHoldLimit k) := .onDev fun d => by simp [apply_ite Dev.part]

theorem execDownLinkSilent_part (k : Nat) : KeepsPart (execDownLinkSilent k) := .onDev fun d => by simp [apply_ite Dev.part]

theorem execVf24Low_part (k mv : Nat) : KeepsPart (execVf24Low k mv) := .onDev fun d => by simp [apply_ite Dev.part]

theorem execVf24Recovered_part (k mv : Nat) : KeepsPart (execVf24Recovered k mv) := .onDev fun d => by simp [apply_ite Dev.part]

theorem execFieldTickBoundary_part (k : Nat) (sense : FieldSense) : KeepsPart (execFieldTickBoundary k sense) := .onDev fun d => by
  dsimp only
  (repeat' split) <;> simp

theorem execUpFrame_part (k : Nat) (arrives : Bool) (wrong : Nat) : KeepsPart (execUpFrame k arrives wrong) := .onDev fun d => by
  dsimp only
  (repeat' split) <;> simp

theorem execBarrierDown_part (k : Nat) : KeepsPart (execBarrierDown k) := .onDev fun d => by simp [apply_ite Dev.part]

theorem execFieldErrClr_part (k : Nat) : KeepsPart (execFieldErrClr k) := .onDev fun d => by simp [apply_ite Dev.part]

theorem execMailboxWrite_part (off v : Nat) : KeepsPart (execMailboxWrite off v) := .onDev fun d => by simp [apply_ite Dev.part]

theorem execSchedEvaluation_part : KeepsPart execSchedEvaluation := .onDev fun d => by simp [apply_ite Dev.part]

theorem execOverrideExpiry_part (z : Nat) : KeepsPart (execOverrideExpiry z) := .onDev fun d => by simp [apply_ite Dev.part]

theorem execPresenceHoldoffExpiry_part (z : Nat) : KeepsPart (execPresenceHoldoffExpiry z) := .onDev fun d => by simp [apply_ite Dev.part]

theorem execSchedSet_part (q : Nat) (x : Desc) : KeepsPart (execSchedSet q x) := .submit fun _ _ _ => bodySchedSet_part ..

theorem execZoneSet_part (q : Nat) (x : Desc) : KeepsPart (execZoneSet q x) := .submit fun _ _ _ => bodySchedSet_part ..

theorem execZoneOverride_part (q : Nat) (x : Desc) : KeepsPart (execZoneOverride q x) := .submit fun _ _ _ => bodyZoneOverride_part ..

theorem execCivilSet_part (q : Nat) (x : Desc) : KeepsPart (execCivilSet q x) := .submit fun _ _ _ => bodyCivilSet_part ..

theorem execDstLoad_part (q : Nat) (x : Desc) : KeepsPart (execDstLoad q x) := .submit fun _ _ _ => bodyDstLoad_part ..

theorem execPatStepStart_part : KeepsPart execPatStepStart := .onDev fun d => by simp [apply_ite Dev.part]

theorem execPatPublish_part : KeepsPart execPatPublish := .onDev fun d => by
  dsimp only
  (repeat' split) <;> simp

theorem execRoutinePredictionEnd_part : KeepsPart execRoutinePredictionEnd := .onDev fun d => by
  repeat' first
    | (simp; done) | split | refine (part_of_eq_snd ‹_›).trans ?_ | refine (foldl_part (fun _ _ => ?_) _ _).trans ?_
    | refine (foldl_snd_part (fun _ _ => ?_) _ _).trans ?_ | simp

theorem execHostPredictionStep_part : KeepsPart execHostPredictionStep := .onDev fun d => by
  dsimp only
  (repeat' split) <;> simp

theorem execPatLoad_part (q : Nat) (x : Desc) : KeepsPart (execPatLoad q x) := .submit fun _ _ _ => bodyPatLoad_part ..

theorem execPatPredict_part (q : Nat) (x : Desc) : KeepsPart (execPatPredict q x) := .submit fun _ _ _ => bodyPatPredict_part ..

theorem execPatAbort_part (q : Nat) (x : Desc) : KeepsPart (execPatAbort q x) := .submit fun _ _ _ => bodyPatAbort_part ..

theorem execPatReset_part (q : Nat) (x : Desc) : KeepsPart (execPatReset q x) := .submit fun _ _ _ => bodyPatReset_part ..

theorem execPatCtrlWrite_part (v : Nat) : KeepsPart (execPatCtrlWrite v) := .onDev fun d => by simp

theorem execPatUrgentIssue_part : KeepsPart execPatUrgentIssue := .onDev fun d => by
  repeat' first | (simp; done) | split | refine (foldl_part (fun _ _ => ?_) _ _).trans ?_ | simp

theorem execMultiplierSave_part : KeepsPart execMultiplierSave := .onDev fun d => by simp [apply_ite Dev.part]

theorem execPageWriteDone_part (b : Nat) : KeepsPart (execPageWriteDone b) := .onDev fun d => by
  dsimp only
  (repeat' split) <;> simp

theorem execEnergyWaitEnd_part (vhold : Nat) : KeepsPart (execEnergyWaitEnd vhold) := .onDev fun d => by simp [apply_ite Dev.part]

theorem execNvmWriteTimeout_part (id : Nat) : KeepsPart (execNvmWriteTimeout id) := .onDev fun d => by
  (repeat' split) <;> simp

theorem execGroupRefresh_part (g e0 e1 : Nat) : KeepsPart (execGroupRefresh g e0 e1) := .onDev fun d => by
  repeat' first | (simp; done) | split | refine (part_of_eq_snd ‹_›).trans ?_ | simp

theorem execRecordCommit_part (r : Nat) : KeepsPart (execRecordCommit r) := .onDev fun d => by simp [apply_ite Dev.part]

theorem execConfigBlockStore_part (key : Nat) : KeepsPart (execConfigBlockStore key) := .onDev fun d => by simp [apply_ite Dev.part]

theorem execCheckpoint_part : KeepsPart execCheckpoint := .onDev fun d => by simp [apply_ite Dev.part]

theorem execNvmUnlock_part (q : Nat) (x : Desc) : KeepsPart (execNvmUnlock q x) := .submit fun _ _ _ => bodyNvmUnlock_part ..

theorem execLockoutEnd_part (r kind : Nat) : KeepsPart (execLockoutEnd r kind) := .onDev fun d => by simp [apply_ite Dev.part]

theorem execNvmLock_part (q : Nat) (x : Desc) : KeepsPart (execNvmLock q x) := .submit fun _ _ _ => bodyNvmLock_part ..

theorem execNvmSetpw_part (q : Nat) (x : Desc) : KeepsPart (execNvmSetpw q x) := .submit fun _ _ _ => bodyNvmSetpw_part ..

theorem execNvmRead_part (q : Nat) (x : Desc) (ups : List (Nat × Nat × Nat)) : KeepsPart (execNvmRead q x ups) :=
    .submit fun _ _ _ => bodyNvmRead_part ..

theorem execNvmWrite_part (q : Nat) (x : Desc) : KeepsPart (execNvmWrite q x) := .submit fun _ _ _ => bodyNvmWrite_part ..

theorem execNvmSync_part (q : Nat) (x : Desc) : KeepsPart (execNvmSync q x) := .submit fun _ _ _ => bodyNvmSync_part ..

theorem execRecConfirm_part (q : Nat) (x : Desc) : KeepsPart (execRecConfirm q x) := .submit fun _ _ _ => bodyRecConfirm_part ..

theorem execRecWrite_part (q : Nat) (x : Desc) : KeepsPart (execRecWrite q x) := .submit fun _ _ _ => bodyRecWrite_part ..

theorem execRecRead_part (q : Nat) (x : Desc) (ups : List (Nat × Nat × Nat)) : KeepsPart (execRecRead q x ups) :=
    .submit fun _ _ _ => bodyRecRead_part ..

theorem execNvmExport_part (q : Nat) (x : Desc) : KeepsPart (execNvmExport q x) := .submit fun _ _ _ => bodyNvmExport_part ..

theorem execNvmImport_part (q : Nat) (x : Desc) (data : List Nat) : KeepsPart (execNvmImport q x data) := .submit fun _ _ _ => bodyNvmImport_part ..

theorem execNvmAbort_part (q : Nat) (x : Desc) : KeepsPart (execNvmAbort q x) := .submit fun _ _ _ => bodyNvmAbort_part ..

theorem execFitPassStart_part : KeepsPart execFitPassStart := .onDev fun d => by simp [apply_ite Dev.part]

theorem execFitRerun_part : KeepsPart execFitRerun := .onDev fun d => by simp [apply_ite Dev.part]

theorem execFitMeasurementDone_part (m : FitSense) : KeepsPart (execFitMeasurementDone m) := .onDev fun d => by simp [apply_ite Dev.part]

theorem execHoldupStart_part : KeepsPart execHoldupStart := .onDev fun d => by simp [apply_ite Dev.part]

theorem execHoldupWindowEnd_part (i dv step : Nat) : KeepsPart (execHoldupWindowEnd i dv step) := .onDev fun d => by simp [apply_ite Dev.part]

theorem execHoldupSkip_part : KeepsPart execHoldupSkip := .onDev fun d => by simp [apply_ite Dev.part]

theorem execPathMonitorRead_part (ps : List Nat) : KeepsPart (execPathMonitorRead ps) := .onDev fun d => by simp [apply_ite Dev.part]

theorem execFitRun_part (q : Nat) (x : Desc) : KeepsPart (execFitRun q x) := .submit fun _ _ _ => bodyFitRun_part ..

theorem execFitLogRead_part (q : Nat) (x : Desc) : KeepsPart (execFitLogRead q x) := .submit fun _ _ _ => bodyFitLogRead_part ..

theorem execFitBaseline_part (q : Nat) (x : Desc) : KeepsPart (execFitBaseline q x) := .submit fun _ _ _ => bodyFitBaseline_part ..

theorem execFitAbort_part (q : Nat) (x : Desc) : KeepsPart (execFitAbort q x) := .submit fun _ _ _ => bodyFitAbort_part ..

theorem execKeyScan_part (raw : Nat) : KeepsPart (execKeyScan raw) := .onDev fun d => by simp [apply_ite Dev.part]

theorem execKeyRowWake_part : KeepsPart execKeyRowWake := .onDev fun d => by simp [apply_ite Dev.part]

theorem execKeyIdle_part : KeepsPart execKeyIdle := .onDev fun d => by simp [apply_ite Dev.part]

theorem execKeyLockIdle_part : KeepsPart execKeyLockIdle := .onDev fun d => by simp [apply_ite Dev.part]

theorem execKeyLock_part (q : Nat) (x : Desc) : KeepsPart (execKeyLock q x) := .submit fun _ _ _ => bodyKeyLock_part ..

theorem execEncTransition_part (n : Nat) (a b : Bool) : KeepsPart (execEncTransition n a b) := .onDev fun d => by simp [apply_ite Dev.part]

theorem execEncMoved_part (n : Nat) : KeepsPart (execEncMoved n) := .onDev fun d => by simp [apply_ite Dev.part]

theorem execTraceRecordWrite_part (c : Nat) : KeepsPart (execTraceRecordWrite c) := .onDev fun d => by
  dsimp only
  (repeat' split) <;> simp

theorem execLoopCompute_part (l : Nat) : KeepsPart (execLoopCompute l) := .onDev fun d => by simp [apply_ite Dev.part]

theorem execLoopUrgentIssue_part (l : Nat) : KeepsPart (execLoopUrgentIssue l) := .onDev fun d => by
  dsimp only
  (repeat' split) <;> simp

theorem execLoopCtrlWrite_part (v : Nat) : KeepsPart (execLoopCtrlWrite v) := .onDev fun d => by simp

theorem execLoopSetSwitch_part (l : Nat) : KeepsPart (execLoopSetSwitch l) := .onDev fun d => by
  dsimp only
  (repeat' split) <;> simp

theorem execLoopRemoveEffect_part (l : Nat) : KeepsPart (execLoopRemoveEffect l) := .onDev fun d => by
  dsimp only
  (repeat' split) <;> simp

theorem execLoopSet_part (q : Nat) (x : Desc) : KeepsPart (execLoopSet q x) := .submit fun _ _ _ => bodyLoopSet_part ..

theorem execLoopRemove_part (q : Nat) (x : Desc) : KeepsPart (execLoopRemove q x) := .submit fun _ _ _ => bodyLoopRemove_part ..

theorem execLoopMode_part (q : Nat) (x : Desc) : KeepsPart (execLoopMode q x) := .submit fun _ _ _ => bodyLoopMode_part ..

theorem execLoopHold_part (q : Nat) (x : Desc) : KeepsPart (execLoopHold q x) := .submit fun _ _ _ => bodyLoopHold_part ..

theorem execLoopClear_part (q : Nat) (x : Desc) : KeepsPart (execLoopClear q x) := .submit fun _ _ _ => bodyLoopClear_part ..

theorem execChalkArm_part (q : Nat) (x : Desc) : KeepsPart (execChalkArm q x) := .submit fun _ _ _ => bodyChalkArm_part ..

theorem execChalkTrigger_part (q : Nat) (x : Desc) : KeepsPart (execChalkTrigger q x) := .submit fun _ _ _ => bodyChalkTrigger_part ..

theorem execChalkStop_part (q : Nat) (x : Desc) : KeepsPart (execChalkStop q x) := .submit fun _ _ _ => bodyChalkStop_part ..

theorem execLoopAbort_part (q : Nat) (x : Desc) : KeepsPart (execLoopAbort q x) := .submit fun _ _ _ => bodyLoopAbort_part ..

theorem execRailInRegulation_part : KeepsPart execRailInRegulation := .onDev fun d => by
  dsimp only
  (repeat' split) <;> simp

theorem execRailStartTimeout_part (mv : Int) : KeepsPart (execRailStartTimeout mv) := .onDev fun d => by
  (repeat' split) <;> simp

theorem execRailFault_part (rail : Nat) (mv : Int) : KeepsPart (execRailFault rail mv) := .onDev fun d => by simp [apply_ite Dev.part]

theorem execRailHoldExpiry_part : KeepsPart execRailHoldExpiry := .onDev fun d => by simp [apply_ite Dev.part]

theorem execRailFallDone_part : KeepsPart execRailFallDone := .onDev fun d => by
  dsimp only
  (repeat' split) <;> simp

theorem execFrontlightFault_part (volts ms : Nat) : KeepsPart (execFrontlightFault volts ms) := .onDev fun d => by simp [apply_ite Dev.part]

theorem execFrontlightRetry_part (volts : Nat) : KeepsPart (execFrontlightRetry volts) := .onDev fun d => by simp [apply_ite Dev.part]

theorem execPhaseBoundary_part (die : Int) (duty : Nat) : KeepsPart (execPhaseBoundary die duty) := .onDev fun d => by simp [apply_ite Dev.part]

theorem execPanelUpdate_part (q : Nat) (x : Desc) : KeepsPart (execPanelUpdate q x) := .submit fun _ _ _ => bodyPanelUpdate_part ..

theorem execPanelWfload_part (q : Nat) (x : Desc) : KeepsPart (execPanelWfload q x) := .submit fun _ _ _ => bodyPanelWfload_part ..

theorem execPanelWfloadTimeout_part : KeepsPart execPanelWfloadTimeout := .onDev fun d => by
  (repeat' split) <;> simp

theorem execPanelCrcCheck_part (q : Nat) (x : Desc) : KeepsPart (execPanelCrcCheck q x) := .submit fun _ _ _ => bodyPanelCrcCheck_part ..

theorem execPanelAbort_part (q : Nat) (x : Desc) : KeepsPart (execPanelAbort q x) := .submit fun _ _ _ => bodyPanelAbort_part ..

theorem execPanelEnWrite_part (v : Nat) : KeepsPart (execPanelEnWrite v) := .onDev fun d => by simp

theorem execTimeMarkerSend_part : KeepsPart execTimeMarkerSend := .onDev fun d => by simp [apply_ite Dev.part]

/-- What a device does with the offset that a TIME word carries. -/
theorem takeMarker_part (d : Dev) (ofs : Int) :
    (if d.isSet Reg.QUILT_TIME_STAT.IS_MASTER 0 || !d.isSet Reg.QUILT_TIME_STAT.MASTER_VALID 0 then d
      else ({ d with quilt := { d.quilt with markerAt := d.tick } }.put Reg.QUILT_TIME_STAT.HOLDOVER 0 0).takeOffset ofs).part = d.part := by
  split
  · rfl
  · exact Dev.takeOffset_part ..

theorem execTime_part (p low : Nat) (ns : Int) : KeepsPart (execTime p low ns) := by
  unfold execTime
  generalize low % 2 ^ 24 = now
  refine .onDev fun d => ?_
  split
  · rfl
  · exact (takeMarker_part ..).trans (Dev.flood_part ..)

theorem execMasterLost_part (cands : List (Nat × Nat × Nat)) : KeepsPart (execMasterLost cands) := .onDev fun d => by simp [apply_ite Dev.part]

theorem execDelayExchange_part (p tx : Nat) : KeepsPart (execDelayExchange p tx) := .onDev fun d => by simp [apply_ite Dev.part]

theorem execDelay_part (p n : Nat) (response : Bool) (rx tx : Nat) : KeepsPart (execDelay p n response rx tx) := .onDev fun d =>
    by simp [apply_ite Dev.part]

theorem execIdle_part (p dev port : Nat) (numbered : Bool) : KeepsPart (execIdle p dev port numbered) := .onDev fun d => by simp [apply_ite Dev.part]

theorem execTrain_part (p dev port : Nat) (numbered looped : Bool) (used : List Nat) (cands : List (Nat × Nat × Nat)) : KeepsPart
    (execTrain p dev port numbered looped used cands) := .onDev fun d =>
    by simp [apply_ite Dev.part]

theorem execAudit_part (p cls credits count : Nat) : KeepsPart (execAudit p cls credits count) := .onDev fun d => by simp [apply_ite Dev.part]

theorem execLinkSilence_part (p : Nat) : KeepsPart (execLinkSilence p) := .onDev fun d => by simp [apply_ite Dev.part]

theorem execDown_part (p _cause : Nat) : KeepsPart (execDown p _cause) := .onDev fun d => by simp [apply_ite Dev.part]

theorem execSeamLos_part (p : Nat) (high : Bool) : KeepsPart (execSeamLos p high) := .onDev fun d => by simp [apply_ite Dev.part]

theorem execReceiverAligned_part (p : Nat) : KeepsPart (execReceiverAligned p) := .onDev fun d => by simp [apply_ite Dev.part]

theorem execTrainingTimeout_part (p : Nat) : KeepsPart (execTrainingTimeout p) := .onDev fun d => by simp [apply_ite Dev.part]

theorem execTrainingIdleEnd_part (p : Nat) : KeepsPart (execTrainingIdleEnd p) := .onDev fun d => by simp [apply_ite Dev.part]

theorem execDownSendEnd_part (p : Nat) : KeepsPart (execDownSendEnd p) := .onDev fun d => by simp [apply_ite Dev.part]

theorem execPortEnWrite_part (v : Nat) : KeepsPart (execPortEnWrite v) := .onDev fun d => by simp

theorem execPortEqWrite_part (p v : Nat) : KeepsPart (execPortEqWrite p v) := .onDev fun d => by simp [apply_ite Dev.part]

theorem execRevertTimer_part (p : Nat) : KeepsPart (execRevertTimer p) := .onDev fun d => by simp [apply_ite Dev.part]

theorem execAck_part (p count : Nat) (nak : Bool) (ns : Nat) : KeepsPart (execAck p count nak ns) := .onDev fun d => by simp [apply_ite Dev.part]

theorem execCredit_part (p cls n : Nat) : KeepsPart (execCredit p cls n) := .onDev fun d => by simp [apply_ite Dev.part]

theorem execSeamUncorrectable_part (p : Nat) (x : LostStitch) : KeepsPart (execSeamUncorrectable p x) := .onDev fun d => by simp [apply_ite Dev.part]

theorem execFlowOpen_part (q : Nat) (x : Desc) : KeepsPart (execFlowOpen q x) := .submit fun _ _ _ => bodyFlowOpen_part ..

theorem execFlowClose_part (q : Nat) (x : Desc) : KeepsPart (execFlowClose q x) := .submit fun _ _ _ => bodyFlowClose_part ..

theorem execAdmitTimeout_part (id : Nat) : KeepsPart (execAdmitTimeout id) := .onDev fun d => by
  (repeat' split) <;> simp

theorem execTackSlot_part (p j : Nat) : KeepsPart (execTackSlot p j) := .onDev fun d => by
  dsimp only
  (repeat' split) <;> simp

theorem execRringFetchRetry_part : KeepsPart execRringFetchRetry := .onDev fun d => by simp [apply_ite Dev.part]

theorem execGapWaitExpiry_part (src flow cls : Nat) : KeepsPart (execGapWaitExpiry src flow cls) := .onDev fun d => by
  dsimp only
  (repeat' split) <;> simp

theorem execStitchValue_part (p : Nat) (w : Word) (wrong : Nat) (first : Bool) : KeepsPart (execStitchValue p w wrong first) := .onDev fun d =>
    by simp

theorem execStitchMemRead_part (p : Nat) (w : Word) (wrong : Nat) (first : Bool) : KeepsPart (execStitchMemRead p w wrong first) := .onDev fun d =>
    by simp

theorem execStitchMemData_part (p : Nat) (w : Word) (wrong : Nat) (first : Bool) : KeepsPart (execStitchMemData p w wrong first) := .onDev fun d =>
    by simp

theorem execStitchMemWrite_part (p : Nat) (w : Word) (wrong : Nat) (first : Bool) : KeepsPart (execStitchMemWrite p w wrong first) := .onDev fun d =>
    by simp

theorem execStitchMemAck_part (p : Nat) (w : Word) (wrong : Nat) (first : Bool) : KeepsPart (execStitchMemAck p w wrong first) := .onDev fun d =>
    by simp

theorem execStitchDoorbell_part (p : Nat) (w : Word) (wrong : Nat) (first : Bool) : KeepsPart (execStitchDoorbell p w wrong first) := .onDev fun d =>
    by simp

theorem execTokenReq_part (p : Nat) (w : Word) (wrong : Nat) (first : Bool) : KeepsPart (execTokenReq p w wrong first) := .onDev fun d => by simp

theorem execTokenGrant_part (p : Nat) (w : Word) (wrong : Nat) (first : Bool) : KeepsPart (execTokenGrant p w wrong first) := .onDev fun d => by simp

theorem execTokenReturn_part (p : Nat) (w : Word) (wrong : Nat) (first : Bool) : KeepsPart (execTokenReturn p w wrong first) := .onDev fun d =>
    by simp

theorem execAdmit_part (p : Nat) (w : Word) (wrong : Nat) (first : Bool) : KeepsPart (execAdmit p w wrong first) := .onDev fun d => by simp

theorem execAdmitReply_part (p : Nat) (w : Word) (wrong : Nat) (first : Bool) : KeepsPart (execAdmitReply p w wrong first) := .onDev fun d => by simp

theorem execTrace_part (p : Nat) (w : Word) (wrong : Nat) (first : Bool) : KeepsPart (execTrace p w wrong first) := .onDev fun d => by simp

theorem execMgmt_part (p : Nat) (w : Word) (wrong : Nat) (first : Bool) : KeepsPart (execMgmt p w wrong first) := .onDev fun d => by simp

theorem execUnreachableDiscard_part (dest cls : Nat) : KeepsPart (execUnreachableDiscard dest cls) := .onDev fun d => by
  repeat' first | (simp; done) | split | refine (foldl_part (fun _ _ => ?_) _ _).trans ?_ | simp

theorem execTokenIdleReturn_part (dest cls : Nat) : KeepsPart (execTokenIdleReturn dest cls) := .onDev fun d => by simp [apply_ite Dev.part]

theorem execClass2Timeout_part (id : Nat) : KeepsPart (execClass2Timeout id) := .onDev fun d => by simp [apply_ite Dev.part]

theorem execRouteLoad_part (q : Nat) (x : Desc) : KeepsPart (execRouteLoad q x) := .submit fun _ _ _ => bodyRouteLoad_part ..

theorem execPortRetrain_part (q : Nat) (x : Desc) : KeepsPart (execPortRetrain q x) := .submit fun _ _ _ => bodyPortRetrain_part ..

theorem execPortRetrainDone_part (id : Nat) : KeepsPart (execPortRetrainDone id) := .onDev fun d => by
  dsimp only
  (repeat' split) <;> simp

theorem execQuiltAudit_part (q : Nat) (x : Desc) : KeepsPart (execQuiltAudit q x) := .submit fun _ _ _ => bodyQuiltAudit_part ..

theorem execRringDoorbell_part (q : Nat) (x : Desc) : KeepsPart (execRringDoorbell q x) := .submit fun _ _ _ => bodyRringDoorbell_part ..

theorem execQuiltAbort_part (q : Nat) (x : Desc) : KeepsPart (execQuiltAbort q x) := .submit fun id x d => by simp

theorem execOwnerHandover_part (q : Nat) (x : Desc) : KeepsPart (execOwnerHandover q x) := .submit fun _ _ _ => bodyOwnerHandover_part ..

theorem execConfigManifest_part (q : Nat) (x : Desc) : KeepsPart (execConfigManifest q x) := .submit fun _ _ _ => bodyConfigManifest_part ..

theorem execFwUpdate_part (q : Nat) (x : Desc) : KeepsPart (execFwUpdate q x) := .submit fun _ _ _ => bodyFwUpdate_part ..

theorem execAttest_part (q : Nat) (x : Desc) : KeepsPart (execAttest q x) := .submit fun _ _ _ => bodyAttest_part ..

theorem execFwUpdateWritten_part : KeepsPart execFwUpdateWritten := .onDev fun d => by
  dsimp only
  (repeat' split) <;> simp

theorem execSecAbort_part (q : Nat) (x : Desc) : KeepsPart (execSecAbort q x) := .submit fun _ _ _ => bodySecAbort_part ..

theorem execFwRecGo_part (v : Nat) : KeepsPart (execFwRecGo v) := .onDev fun d => by simp

theorem execFwReverify_part (a b : SlotCheck) : KeepsPart (execFwReverify a b) := .onDev fun d => by simp [apply_ite Dev.part]

theorem execVl24Good_part : KeepsPart execVl24Good := .onDev fun d => by simp [apply_ite Dev.part]

theorem execStartRetry_part : KeepsPart execStartRetry := .onDev fun d => by simp [apply_ite Dev.part]

theorem execPowerGoodRise_part (rail : Nat) : KeepsPart (execPowerGoodRise rail) := .onDev fun d => by
  dsimp only
  (repeat' split) <;> simp

theorem execPgTimeout_part (rail : Nat) : KeepsPart (execPgTimeout rail) := .onDev fun d => by simp [apply_ite Dev.part]

theorem execVl24FallAtStart_part : KeepsPart execVl24FallAtStart := .onDev fun d => by simp [apply_ite Dev.part]

theorem execFirmwareVerified_part (a b : SlotCheck) (mode : PmbusResult) : KeepsPart (execFirmwareVerified a b mode) := .onDev fun d => by
  dsimp only
  (repeat' split) <;> simp

theorem execPfwNFalling_part (vl24 vhold : Nat) : KeepsPart (execPfwNFalling vl24 vhold) := .onDev fun d => by simp [apply_ite Dev.part]

theorem execSaveEnd_part : KeepsPart execSaveEnd := .onDev fun d => by simp [apply_ite Dev.part]

theorem execVl24AboveResume_part (vl24 : Nat) : KeepsPart (execVl24AboveResume vl24) := .onDev fun d => by simp [apply_ite Dev.part]

theorem execWarningEnd_part (vl24 : Nat) : KeepsPart (execWarningEnd vl24) := .onDev fun d => by simp [apply_ite Dev.part]

theorem execDipSafeExpiry_part : KeepsPart execDipSafeExpiry := .onDev fun d => by simp [apply_ite Dev.part]

theorem execClrDip_part : KeepsPart execClrDip := .onDev fun d => by simp

theorem execRstNLow_part : KeepsPart execRstNLow := .onDev fun d => by simp [apply_ite Dev.part]

theorem execRstNResetDue_part : KeepsPart execRstNResetDue := .onDev fun d => by simp [apply_ite Dev.part]

theorem execRstNRise_part : KeepsPart execRstNRise := .onDev fun d => by simp [apply_ite Dev.part]

theorem execSupplyReset_part (core : CoreSupplies) (vl24 vhold : Nat) : KeepsPart (execSupplyReset core vl24 vhold) := .onDev fun d =>
    by simp [apply_ite Dev.part]

theorem execClkrefLost_part : KeepsPart execClkrefLost := .onDev fun d => by simp [apply_ite Dev.part]

theorem execClkrefRestored_part : KeepsPart execClkrefRestored := .onDev fun d => by simp [apply_ite Dev.part]

theorem execFirmwareWatchdog_part : KeepsPart execFirmwareWatchdog := .onDev fun d => by simp [apply_ite Dev.part]

theorem execVcoreStep_part (res : PmbusResult) : KeepsPart (execVcoreStep res) := .onDev fun d => by
  dsimp only
  (repeat' split) <;> simp

theorem execReadVoutPoll_part (res : PmbusResult) : KeepsPart (execReadVoutPoll res) := .onDev fun d => by
  dsimp only
  (repeat' split) <;> simp

theorem execStatusWordPoll_part (res mode : PmbusResult) : KeepsPart (execStatusWordPoll res mode) := .onDev fun d => by
  dsimp only
  (repeat' split) <;> simp

theorem execPmbusTimeout_part : KeepsPart execPmbusTimeout := .onDev fun d => by simp [apply_ite Dev.part]

theorem execFitApply_part : KeepsPart execFitApply := .onDev fun d => by simp [apply_ite Dev.part]

theorem execDbgFreeze_part (q : Nat) (x : Desc) : KeepsPart (execDbgFreeze q x) := .submit fun _ _ _ => bodyDbgFreeze_part ..

theorem execFrzNLow_part : KeepsPart execFrzNLow := .onDev fun d => by simp [apply_ite Dev.part]

theorem execFreezeReq_part : KeepsPart execFreezeReq := .onDev fun d => by simp [apply_ite Dev.part]

theorem execFreeze_part (p f : Nat) : KeepsPart (execFreeze p f) := .onDev fun d => by
  dsimp only
  (repeat' split) <;> simp

theorem execFreezeStop_part : KeepsPart execFreezeStop := .onDev fun d => by
  dsimp only
  (repeat' split) <;> simp

theorem execDbgThaw_part : KeepsPart execDbgThaw := .onDev fun d => by simp [apply_ite Dev.part]

theorem execFrzNRise_part : KeepsPart execFrzNRise := .onDev fun d => by simp

theorem execThawReq_part : KeepsPart execThawReq := .onDev fun d => by simp

theorem execThaw_part (p f : Nat) : KeepsPart (execThaw p f) := .onDev fun d => by
  dsimp only
  (repeat' split) <;> simp

theorem execDbgRoDataRead_part : KeepsPart execDbgRoDataRead := .onDev fun d => by simp [apply_ite Dev.part]

theorem execRoAccess_part (space index : Nat) : KeepsPart (execRoAccess space index) := .onDev fun d => by simp

theorem execIdcode_part : KeepsPart execIdcode := .onDev fun d => by simp

theorem execBypass_part : KeepsPart execBypass := .onDev fun d => by simp

theorem execSamplePreload_part (lands chain : List Bool) : KeepsPart (execSamplePreload lands chain) := .onDev fun d => by simp

theorem execExtest_part : KeepsPart execExtest := .onDev fun d => by simp [apply_ite Dev.part]

theorem execRegisterWrite_part (off size v : Nat) : KeepsPart (execRegisterWrite off size v) := .onDev fun d => by
  (repeat' split) <;> simp

theorem execClrErr_part : KeepsPart execClrErr := .onDev fun d => by simp

theorem execBar4Write_part (off : Nat) (bytes : List Nat) (upsets : List (Nat × Nat)) : KeepsPart (execBar4Write off bytes upsets) := .onDev fun d =>
    by simp [apply_ite Dev.part]

theorem execDescriptorStart_part (q : Nat) (data : List Nat) (ups : List (Nat × Nat × Nat)) : KeepsPart
    (execDescriptorStart q data ups) := .onDev fun d => by
  (repeat' split) <;> simp

theorem execStagedCheckDone_part (id : Nat) : KeepsPart (execStagedCheckDone id) := .onDev fun d => by
  (repeat' split) <;> simp

theorem execThawRestart_part (ms : Nat) (master : Option (Nat × Nat)) : KeepsPart (execThawRestart ms master) := .onDev fun d => by
  dsimp only
  (repeat' split) <;> simp

theorem execQuiltThawRestart_part (ms : Nat) : KeepsPart (execQuiltThawRestart ms) := .onDev fun d => by
  dsimp only
  (repeat' split) <;> simp

theorem execTickBoundary_part (vl24 vhold : Nat) : KeepsPart (execTickBoundary vl24 vhold) := .onDev fun d => by simp [apply_ite Dev.part]

/-! ### The table of all commands -/

theorem exec_part (c : Instr) : KeepsPart (exec c) :=
  match c with
  | .nop q d => execNop_part q d
  | .measCal q d => execMeasCal_part q d
  | .measUrgent q d => execMeasUrgent_part q d
  | .measAbort q d => execMeasAbort_part q d
  | .measCapture q d => execMeasCapture_part q d
  | .dioForce q d => execDioForce_part q d
  | .doClear q d => execDoClear_part q d
  | .darkTestNow q d => execDarkTestNow_part q d
  | .fieldResume q d => execFieldResume_part q d
  | .posPreset q d => execPosPreset_part q d
  | .posCheck q d => execPosCheck_part q d
  | .emuForce q d => execEmuForce_part q d
  | .posAbort q d => execPosAbort_part q d
  | .patLoad q d => execPatLoad_part q d
  | .patPredict q d => execPatPredict_part q d
  | .patAbort q d => execPatAbort_part q d
  | .patReset q d => execPatReset_part q d
  | .loopSet q d => execLoopSet_part q d
  | .loopRemove q d => execLoopRemove_part q d
  | .loopMode q d => execLoopMode_part q d
  | .loopHold q d => execLoopHold_part q d
  | .loopClear q d => execLoopClear_part q d
  | .chalkArm q d => execChalkArm_part q d
  | .chalkTrigger q d => execChalkTrigger_part q d
  | .chalkStop q d => execChalkStop_part q d
  | .loopAbort q d => execLoopAbort_part q d
  | .schedSet q d => execSchedSet_part q d
  | .zoneSet q d => execZoneSet_part q d
  | .zoneOverride q d => execZoneOverride_part q d
  | .civilSet q d => execCivilSet_part q d
  | .dstLoad q d => execDstLoad_part q d
  | .shuttleLoad q d => execShuttleLoad_part q d
  | .solShot q d => execSolShot_part q d
  | .solForce q d => execSolForce_part q d
  | .solClear q d => execSolClear_part q d
  | .shuttleAbort q d => execShuttleAbort_part q d
  | .fanaoForce q d => execFanaoForce_part q d
  | .fanClear q d => execFanClear_part q d
  | .flowOpen q d => execFlowOpen_part q d
  | .flowClose q d => execFlowClose_part q d
  | .routeLoad q d => execRouteLoad_part q d
  | .portRetrain q d => execPortRetrain_part q d
  | .quiltAudit q d => execQuiltAudit_part q d
  | .rringDoorbell q d => execRringDoorbell_part q d
  | .quiltAbort q d => execQuiltAbort_part q d
  | .busSend q d data => execBusSend_part q d data
  | .busRecv q d => execBusRecv_part q d
  | .busPollSet q d => execBusPollSet_part q d
  | .busAbort q d => execBusAbort_part q d
  | .nvmRead q d ups => execNvmRead_part q d ups
  | .nvmWrite q d => execNvmWrite_part q d
  | .nvmUnlock q d => execNvmUnlock_part q d
  | .nvmLock q d => execNvmLock_part q d
  | .nvmSetpw q d => execNvmSetpw_part q d
  | .nvmSync q d => execNvmSync_part q d
  | .recConfirm q d => execRecConfirm_part q d
  | .recWrite q d => execRecWrite_part q d
  | .recRead q d ups => execRecRead_part q d ups
  | .nvmExport q d => execNvmExport_part q d
  | .nvmImport q d data => execNvmImport_part q d data
  | .nvmAbort q d => execNvmAbort_part q d
  | .panelUpdate q d => execPanelUpdate_part q d
  | .panelWfload q d => execPanelWfload_part q d
  | .panelCrcCheck q d => execPanelCrcCheck_part q d
  | .panelAbort q d => execPanelAbort_part q d
  | .keyLock q d => execKeyLock_part q d
  | .fitRun q d => execFitRun_part q d
  | .fitLogRead q d => execFitLogRead_part q d
  | .fitBaseline q d => execFitBaseline_part q d
  | .fitAbort q d => execFitAbort_part q d
  | .ownerHandover q d => execOwnerHandover_part q d
  | .configManifest q d => execConfigManifest_part q d
  | .fwUpdate q d => execFwUpdate_part q d
  | .attest q d => execAttest_part q d
  | .secAbort q d => execSecAbort_part q d
  | .dbgFreeze q d => execDbgFreeze_part q d
  | .registerWrite off size v => execRegisterWrite_part off size v
  | .blReqWrite v => execBlReqWrite_part v
  | .sealWrite v => execSealWrite_part v
  | .tickLoRead => execTickLoRead_part
  | .clrCorrected => execClrCorrected_part
  | .clrUncorrectable => execClrUncorrectable_part
  | .fieldErrClr k => execFieldErrClr_part k
  | .clrDip => execClrDip_part
  | .clrErr => execClrErr_part
  | .uiModeWrite u v => execUiModeWrite_part u v
  | .uiGainShWrite u v => execUiGainShWrite_part u v
  | .convCtrlWrite c v => execConvCtrlWrite_part c v
  | .mailboxWrite off v => execMailboxWrite_part off v
  | .patCtrlWrite v => execPatCtrlWrite_part v
  | .loopCtrlWrite v => execLoopCtrlWrite_part v
  | .busCfgWrite n v => execBusCfgWrite_part n v
  | .portEnWrite v => execPortEnWrite_part v
  | .portEqWrite p v => execPortEqWrite_part p v
  | .panelEnWrite v => execPanelEnWrite_part v
  | .hostqWdogWrite v => execHostqWdogWrite_part v
  | .ringEnable r => execRingEnable_part r
  | .ringDisable r => execRingDisable_part r
  | .fenceClr q => execFenceClr_part q
  | .sqTailDoorbell q v => execSqTailDoorbell_part q v
  | .cqHeadDoorbell c v => execCqHeadDoorbell_part c v
  | .eqHeadDoorbell v => execEqHeadDoorbell_part v
  | .tqHeadDoorbell t v => execTqHeadDoorbell_part t v
  | .heartbeat v => execHeartbeat_part v
  | .dbgRoDataRead => execDbgRoDataRead_part
  | .dbgThaw => execDbgThaw_part
  | .fwRecGo v => execFwRecGo_part v
  | .bar4Read off len upsets => execBar4Read_part off len upsets
  | .bar4Write off bytes upsets => execBar4Write_part off bytes upsets
  | .vl24Good => execVl24Good_part
  | .pgTimeout rail => execPgTimeout_part rail
  | .startRetry => execStartRetry_part
  | .fwReverify a b => execFwReverify_part a b
  | .pfwNFalling vl24 vhold => execPfwNFalling_part vl24 vhold
  | .saveEnd => execSaveEnd_part
  | .vl24AboveResume vl24 => execVl24AboveResume_part vl24
  | .warningEnd vl24 => execWarningEnd_part vl24
  | .dipSafeExpiry => execDipSafeExpiry_part
  | .rstNLow => execRstNLow_part
  | .rstNResetDue => execRstNResetDue_part
  | .rstNRise => execRstNRise_part
  | .supplyReset core vl24 vhold => execSupplyReset_part core vl24 vhold
  | .clkrefLost => execClkrefLost_part
  | .clkrefRestored => execClkrefRestored_part
  | .firmwareWatchdog => execFirmwareWatchdog_part
  | .vcoreStep res => execVcoreStep_part res
  | .readVoutPoll res => execReadVoutPoll_part res
  | .statusWordPoll res mode => execStatusWordPoll_part res mode
  | .tickBoundary vl24 vhold => execTickBoundary_part vl24 vhold
  | .scrubRead upset => execScrubRead_part upset
  | .upFrame k arrives wrong => execUpFrame_part k arrives wrong
  | .barrierDown k => execBarrierDown_part k
  | .downFrame k arrives wrong => execDownFrame_part k arrives wrong
  | .fieldTickBoundary k sense => execFieldTickBoundary_part k sense
  | .holdWindowExpiry k => execHoldWindowExpiry_part k
  | .freezeHoldLimit k => execFreezeHoldLimit_part k
  | .downLinkSilent k => execDownLinkSilent_part k
  | .vf24Low k mv => execVf24Low_part k mv
  | .vf24Recovered k mv => execVf24Recovered_part k mv
  | .diPulseWindow n x => execDiPulseWindow_part n x
  | .diDebounceDone n x => execDiDebounceDone_part n x
  | .doOverload o ma => execDoOverload_part o ma
  | .doThermalLimit o ma => execDoThermalLimit_part o ma
  | .doRetry o => execDoRetry_part o
  | .doOnPeriodOk o => execDoOnPeriodOk_part o
  | .doForcedHigh o ma => execDoForcedHigh_part o ma
  | .openLoadSet o ma => execOpenLoadSet_part o ma
  | .openLoadClear o => execOpenLoadClear_part o
  | .darkTest k => execDarkTest_part k
  | .darkPulseEnd k fell => execDarkPulseEnd_part k fell
  | .darkPairPulse k fell => execDarkPairPulse_part k fell
  | .floatDriveEnd f => execFloatDriveEnd_part f
  | .floatDeadTimeEnd f => execFloatDeadTimeEnd_part f
  | .floatBothHigh f => execFloatBothHigh_part f
  | .posEdge p t e => execPosEdge_part p t e
  | .indexPulse e => execIndexPulse_part e
  | .posCheckTimeout p => execPosCheckTimeout_part p
  | .serialReadStart p => execSerialReadStart_part p
  | .serialReadEnd p ack clocks => execSerialReadEnd_part p ack clocks
  | .serialReadTimeout p => execSerialReadTimeout_part p
  | .standstillTimeout p => execStandstillTimeout_part p
  | .emuEdge e => execEmuEdge_part e
  | .passStart c => execPassStart_part c
  | .converterOutput c code input => execConverterOutput_part c code input
  | .urgentHead c => execUrgentHead_part c
  | .urgentValidOutput c code input => execUrgentValidOutput_part c code input
  | .calDue => execCalDue_part
  | .calCommit c ofs gain selfTest => execCalCommit_part c ofs gain selfTest
  | .captureTrigger g b => execCaptureTrigger_part g b
  | .captureDone g => execCaptureDone_part g
  | .captureShotTimeout g => execCaptureShotTimeout_part g
  | .slotStale n => execSlotStale_part n
  | .ma20Disconnect u => execMa20Disconnect_part u
  | .ma20Reconnect u => execMa20Reconnect_part u
  | .eventIntervalEnd code src => execEventIntervalEnd_part code src
  | .patStepStart => execPatStepStart_part
  | .patPublish => execPatPublish_part
  | .routinePredictionEnd => execRoutinePredictionEnd_part
  | .patUrgentIssue => execPatUrgentIssue_part
  | .hostPredictionStep => execHostPredictionStep_part
  | .multiplierSave => execMultiplierSave_part
  | .loopCompute l => execLoopCompute_part l
  | .loopUrgentIssue l => execLoopUrgentIssue_part l
  | .loopSetSwitch l => execLoopSetSwitch_part l
  | .loopRemoveEffect l => execLoopRemoveEffect_part l
  | .schedEvaluation => execSchedEvaluation_part
  | .overrideExpiry z => execOverrideExpiry_part z
  | .presenceHoldoffExpiry z => execPresenceHoldoffExpiry_part z
  | .oneShotDurExpiry c t sense => execOneShotDurExpiry_part c t sense
  | .chopPeriodStart c => execChopPeriodStart_part c
  | .targetReached c t sense => execTargetReached_part c t sense
  | .peakGrant k t => execPeakGrant_part k t
  | .peakWaitExpiry c t sense => execPeakWaitExpiry_part c t sense
  | .skipRetry c => execSkipRetry_part c
  | .waitPeakTimeout c t sense => execWaitPeakTimeout_part c t sense
  | .shuttleWaitEnd c t sense => execShuttleWaitEnd_part c t sense
  | .syncReached c t sense => execSyncReached_part c t sense
  | .decayDone c t sense => execDecayDone_part c t sense
  | .endingDone c => execEndingDone_part c
  | .solOvercurrent c => execSolOvercurrent_part c
  | .clampOverheat c => execClampOverheat_part c
  | .peakMaxExpiry c => execPeakMaxExpiry_part c
  | .bankHsOvercurrent b ma => execBankHsOvercurrent_part b ma
  | .bankHsOvertemp b ma => execBankHsOvertemp_part b ma
  | .shuttleSwitch b => execShuttleSwitch_part b
  | .kickTimeout f => execKickTimeout_part f
  | .backoffExpiry f => execBackoffExpiry_part f
  | .tachEdge f t => execTachEdge_part f t
  | .tachLost f ma => execTachLost_part f ma
  | .fanRun60s f => execFanRun60s_part f
  | .aoOverload a mv => execAoOverload_part a mv
  | .aoOverloadClear a mv => execAoOverloadClear_part a mv
  | .stitchValue p w wrong first => execStitchValue_part p w wrong first
  | .stitchMemRead p w wrong first => execStitchMemRead_part p w wrong first
  | .stitchMemData p w wrong first => execStitchMemData_part p w wrong first
  | .stitchMemWrite p w wrong first => execStitchMemWrite_part p w wrong first
  | .stitchMemAck p w wrong first => execStitchMemAck_part p w wrong first
  | .stitchDoorbell p w wrong first => execStitchDoorbell_part p w wrong first
  | .tokenReq p w wrong first => execTokenReq_part p w wrong first
  | .tokenGrant p w wrong first => execTokenGrant_part p w wrong first
  | .tokenReturn p w wrong first => execTokenReturn_part p w wrong first
  | .admitStitch p w wrong first => execAdmit_part p w wrong first
  | .admitReply p w wrong first => execAdmitReply_part p w wrong first
  | .trace p w wrong first => execTrace_part p w wrong first
  | .mgmt p w wrong first => execMgmt_part p w wrong first
  | .idle p dev port numbered => execIdle_part p dev port numbered
  | .ack p count nak ns => execAck_part p count nak ns
  | .credit p cls n => execCredit_part p cls n
  | .time p low ns => execTime_part p low ns
  | .delay p n response rx tx => execDelay_part p n response rx tx
  | .freeze p f => execFreeze_part p f
  | .thaw p f => execThaw_part p f
  | .audit p cls credits count => execAudit_part p cls credits count
  | .down p cause => execDown_part p cause
  | .train p dev port numbered looped used cands => execTrain_part p dev port numbered looped used cands
  | .linkSilence p => execLinkSilence_part p
  | .seamLos p high => execSeamLos_part p high
  | .receiverAligned p => execReceiverAligned_part p
  | .trainingTimeout p => execTrainingTimeout_part p
  | .trainingIdleEnd p => execTrainingIdleEnd_part p
  | .downSendEnd p => execDownSendEnd_part p
  | .revertTimer p => execRevertTimer_part p
  | .gapWaitExpiry src flow cls => execGapWaitExpiry_part src flow cls
  | .unreachableDiscard dest cls => execUnreachableDiscard_part dest cls
  | .tokenIdleReturn dest cls => execTokenIdleReturn_part dest cls
  | .class2Timeout id => execClass2Timeout_part id
  | .admitTimeout id => execAdmitTimeout_part id
  | .tackSlot p j => execTackSlot_part p j
  | .timeMarkerSend => execTimeMarkerSend_part
  | .masterLost cands => execMasterLost_part cands
  | .delayExchange p tx => execDelayExchange_part p tx
  | .rringFetchRetry => execRringFetchRetry_part
  | .descriptorFetched q ds => execDescriptorFetched_part q ds
  | .fetchTimeout q => execFetchTimeout_part q
  | .descriptorStart q data ups => execDescriptorStart_part q data ups
  | .completionWrite c => execCompletionWrite_part c
  | .msixHoldoffEnd r => execMsixHoldoffEnd_part r
  | .eventWrite => execEventWrite_part
  | .traceRecordWrite c => execTraceRecordWrite_part c
  | .tailWriteback t => execTailWriteback_part t
  | .hostLost => execHostLost_part
  | .pcieReset kind => execPcieReset_part kind
  | .pciePerstN => execPciePerstN_part
  | .pcieLink speed width => execPcieLink_part speed width
  | .mstpFrame n kind dest src data crcOk => execMstpFrame_part n kind dest src data crcOk
  | .mstpReplyWaitExpiry n => execMstpReplyWaitExpiry_part n
  | .mstpReplyTimeout n => execMstpReplyTimeout_part n
  | .mstpSilenceEnd n => execMstpSilenceEnd_part n
  | .modbusPollDue n e => execModbusPollDue_part n e
  | .modbusResponse n bytes good => execModbusResponse_part n bytes good
  | .modbusTimeout n => execModbusTimeout_part n
  | .modbusGap n => execModbusGap_part n
  | .rawFrameEnd n bytes good => execRawFrameEnd_part n bytes good
  | .t1lFrame k bytes good => execT1lFrame_part k bytes good
  | .t1lLink k up high sqi => execT1lLink_part k up high sqi
  | .pageWriteDone b => execPageWriteDone_part b
  | .energyWaitEnd vhold => execEnergyWaitEnd_part vhold
  | .nvmWriteTimeout id => execNvmWriteTimeout_part id
  | .recordCommit r => execRecordCommit_part r
  | .configBlockStore key => execConfigBlockStore_part key
  | .checkpoint => execCheckpoint_part
  | .groupRefresh g e0 e1 => execGroupRefresh_part g e0 e1
  | .lockoutEnd r kind => execLockoutEnd_part r kind
  | .phaseBoundary die duty => execPhaseBoundary_part die duty
  | .railInRegulation => execRailInRegulation_part
  | .railStartTimeout mv => execRailStartTimeout_part mv
  | .railFault rail mv => execRailFault_part rail mv
  | .railHoldExpiry => execRailHoldExpiry_part
  | .frontlightFault volts ms => execFrontlightFault_part volts ms
  | .frontlightRetry volts => execFrontlightRetry_part volts
  | .keyRowWake => execKeyRowWake_part
  | .keyScan raw => execKeyScan_part raw
  | .keyIdle => execKeyIdle_part
  | .keyLockIdle => execKeyLockIdle_part
  | .encTransition n a b => execEncTransition_part n a b
  | .encMoved n => execEncMoved_part n
  | .fitPassStart => execFitPassStart_part
  | .holdupStart => execHoldupStart_part
  | .holdupWindowEnd ma dv step => execHoldupWindowEnd_part ma dv step
  | .holdupSkip => execHoldupSkip_part
  | .fitApply => execFitApply_part
  | .pathMonitorRead ps => execPathMonitorRead_part ps
  | .fitRerun => execFitRerun_part
  | .frzNLow => execFrzNLow_part
  | .frzNRise => execFrzNRise_part
  | .freezeStop => execFreezeStop_part
  | .thawRestart ms master => execThawRestart_part ms master
  | .quiltThawRestart ms => execQuiltThawRestart_part ms
  | .freezeReq => execFreezeReq_part
  | .thawReq => execThawReq_part
  | .roAccess space index => execRoAccess_part space index
  | .extest => execExtest_part
  | .idcode => execIdcode_part
  | .samplePreload lands chain => execSamplePreload_part lands chain
  | .bypass => execBypass_part
  | .seamUncorrectable p x => execSeamUncorrectable_part p x
  | .powerGoodRise rail => execPowerGoodRise_part rail
  | .firmwareVerified a b mode => execFirmwareVerified_part a b mode
  | .vl24FallAtStart => execVl24FallAtStart_part
  | .pmbusTimeout => execPmbusTimeout_part
  | .railFallDone => execRailFallDone_part
  | .panelWfloadTimeout => execPanelWfloadTimeout_part
  | .shuttleLoadTimeout b => execShuttleLoadTimeout_part b
  | .fieldResumeTimeout k => execFieldResumeTimeout_part k
  | .portRetrainDone id => execPortRetrainDone_part id
  | .stagedCheckDone id => execStagedCheckDone_part id
  | .fwUpdateWritten => execFwUpdateWritten_part
  | .busFrameSent n => execBusFrameSent_part n
  | .mstpTimerExpiry n => execMstpTimerExpiry_part n
  | .fitMeasurementDone m => execFitMeasurementDone_part m

end Sys2Proof.Machine
end

section
open Sys2Proof Sys2Proof.Machine

/-- Settles O44: no command changes the part, and a step runs at most one. -/
theorem stepKeepsThePart : Obligations.StepKeepsThePart := by
  unfold Obligations.StepKeepsThePart
  intro s t h
  exact step_invariant (P := fun d => d.part = s.dev.part) (fun c u v hu hexec => (exec_part c u v hexec).trans hu) rfl h

end
